-- ==== Sys2Proof/Word.lean ====
section
/-! DEFINITION. Word.lean: the word type of the register pages, the two carriers, the origins of R45 and the register
pages of R541 and R543. -/
namespace Sys2Proof

/-- A register of a page is 32 bits wide (R4). -/
abbrev Word := BitVec 32

/-- The smallest addressable unit of the Reckoner and HDM memories. -/
abbrev Byte := BitVec 8

/-- The two carriers (R541: instance 0 is A, instance 1 is B). -/
inductive Carrier where
  | a
  | b
  deriving DecidableEq, Repr

/-- The instance number of a carrier's pages (R541). -/
def Carrier.idx : Carrier → Nat
  | .a => 0
  | .b => 1

/-- The other carrier. -/
def Carrier.other : Carrier → Carrier
  | .a => .b
  | .b => .a

/-- A value held once for each carrier. -/
structure PerCarrier (α : Type) where
  a : α
  b : α
  deriving DecidableEq, Repr

/-- The value of carrier `c`. -/
def PerCarrier.get {α : Type} (x : PerCarrier α) : Carrier → α
  | .a => x.a
  | .b => x.b

/-- Replace the value of carrier `c`. -/
def PerCarrier.set {α : Type} (x : PerCarrier α) (c : Carrier) (v : α) : PerCarrier α :=
  match c with
  | .a => { x with a := v }
  | .b => { x with b := v }

/-- The origin codes of R45. -/
inductive Origin where
  | hardware
  | host
  | rk (n : Fin 8)
  | plinth
  | testPort
  | strap
  | peer
  deriving DecidableEq, Repr

/-- The code the Armature stamps on a packet of this origin (R45). -/
def Origin.code : Origin → Nat
  | .hardware => 0x0
  | .host => 0x1
  | .rk n => 0x2 + n.val
  | .plinth => 0xA
  | .testPort => 0xB
  | .strap => 0xC
  | .peer => 0xD

/-- The register pages of the page map (R541) and of the carriers (R543). -/
inductive Page where
  | glb | evr | cj | pwr | tb | cal | bst
  | hk (n : Fin 2)
  | aux | tel | fes | rps | cast | arc | lpm | ecc | mrm | qlt
  | lrx (n : Fin 8)
  | ltx (n : Fin 8)
  | syn (n : Fin 3)
  | txp (c : Carrier) | cdc (c : Carrier) | eqz (c : Carrier) | trc (c : Carrier) | cpr (c : Carrier)
  | mls (c : Carrier) | dmp (c : Carrier) | fec (c : Carrier) | lfm (c : Carrier) | cry (c : Carrier)
  | clx (n : Fin 16)
  | cpc (c : Carrier)
  | hlk
  | rk (n : Fin 8)
  | tly (n : Fin 8)
  | arm | pln
  deriving DecidableEq, Repr

/-- One block a client port hands to a calendar round (R335, R339): a decoded 257b block, or one decoded from an
uncorrectable RS codeword. -/
inductive ClientIn where
  | good (b : BitVec 257)
  | uncorrectable
  deriving DecidableEq, Repr

/-- A frame position as the receiver sees it (R80, R209): the 64 FAW bits, the header, the Quolet word, the payload and
the tag, with the bad flags of R205 over the header, the Quolet word, and the payload or tag. -/
structure RxFrame where
  faw : BitVec 64
  hdr : BitVec 128
  qlt : BitVec 64
  payload : BitVec 131584
  tag : BitVec 128
  hdrBad : Bool
  qltBad : Bool
  payloadBad : Bool
  deriving DecidableEq, Repr

/-- What the oFEC decoder gives for a block (R205, R206): its memory after it, whether it is uncorrectable, and its coded bits as
decided after the last iteration, earliest first. -/
structure DecodedBlock where
  memory : Nat
  uncorrectable : Bool
  coded : BitVec 2048
  deriving DecidableEq, Repr, Inhabited

/-- A Quolet message (R253) but for its TYPE: FLAGS, SEQ, ACK, BODY, SIG, and the epoch byte and KMAC of its MAC. -/
structure Message where
  flags : Nat
  seq : Nat
  ack : Nat
  body : List Byte
  sig : List Byte
  mac : Option (Nat × BitVec 256)
  deriving DecidableEq, Repr

/-- What reaches TEL from outside the device at a tick (R310): per carrier the module monitor code, and the phase of PPS_IN in ps while
it is present. -/
structure TelInputs where
  monA : Nat
  monB : Nat
  pps : Option Int
  deriving DecidableEq, Repr

/-- A tap-detection signature: the means of channels c+0, c+1, c+9 and c+21, the share of each ERRMAP label in 0.01 %, and
the 99.99th percentile of c+3. -/
structure TapSignature where
  means : List Int
  shares : List Nat
  sop : Int
  deriving DecidableEq, Repr

/-- An SRAM word, by group and word (R415), or an LPDDR5X line (R419). -/
inductive MemPlace where
  | sram (group word : Nat)
  | line (n : Nat)
  deriving DecidableEq, Repr

/-- A correctable error a read meets: in a memory (R424), on the LPDDR5X link (R418), or in an MRAM word (R455). -/
inductive CorrectedError where
  | place (p : MemPlace)
  | link
  | mram
  deriving DecidableEq, Repr

/-- Who meets an uncorrectable error (R428). -/
inductive UeReader where
  /-- A core's fetch or its load from a data address. -/
  | fetch (core : Fin 8)
  | load (core : Fin 8) (addr : Nat)
  | dma (core : Fin 8) (channel : Fin 2)
  /-- A CXL.mem read. -/
  | host
  /-- A datapath stage, by its page. -/
  | stage (p : Page)
  /-- The route-protection delay store's copy of carrier `c`. -/
  | delayStore (c : Carrier)
  /-- The journal entry with this SEQ_NO. -/
  | journal (seqNo : Nat)
  /-- Record `i` of Cast's active history, newest 0. -/
  | cast (i : Nat)
  | plinth
  | scrubber
  /-- An MRAM slot of an area, or a wear-table word (R452). -/
  | mram (area slot : Nat)
  | wear (block : Nat)
  deriving DecidableEq, Repr

/-- What moves a client lane's receive state (R347). -/
inductive ClxEvent where
  /-- Signal above 150 mVppd, clock recovery lock, loss of lock, and signal below 100 mVppd for 10 us. -/
  | signal | cdrLock | lockLost | signalGone
  /-- Adaptation, converging or going on, with what it reaches: slicer SNR, first DFE tap and CTLE code (R354). -/
  | adapted (snr dfe1 ctle : BitVec 8)
  deriving DecidableEq, Repr

/-- A lane with an offset sampler (R352). -/
inductive EyeLane where
  | client (n : Fin 16)
  | host (n : Fin 8)
  deriving DecidableEq, Repr

/-- What a reference tick brings the counters from outside the model's state (R405): packets on the Plinth, event, register and bulk
channels, and the cores whose issue waits on the register window. -/
structure TallyInputs where
  packets : List Nat
  interlock : List (Fin 8)
  deriving DecidableEq, Repr

/-- What answers on the Archive's channels at a start (R432, R436): how many targets answer Read ID and which of them have
failed, the identity and geometry of the media, its factory-bad blocks, and whether a superblock is valid and matches. -/
structure MediaReport where
  targets : Nat
  failed : List (Fin 32)
  identity : Nat
  blockBytes : Nat
  blockCount : Nat
  factoryBad : List Nat
  superblock : Bool
  deriving DecidableEq, Repr

/-- What a start finds outside the model's state (R552): STRAP0 and STRAP3 (R563), whether the UDS passes its check value
(R457), the checkers that fail (R421), what start-up LBIST counts by block (R535), the media, and whether host-ready is
reached within the bound of R556. -/
structure StartReport where
  strap0 : Bool
  strap3 : Bool
  udsOk : Bool
  checkers : List Nat
  lbist : List (Option (Nat × Nat))
  media : MediaReport
  inTime : Bool
  deriving DecidableEq, Repr

/-- An object stored in the Archive (R437): an entry or a head signature of the journal, a record of the security log, a
tap signature by its place, a self-test record by its age, a committed Cast window or a block of the continuous ring. -/
inductive ArchiveObject where
  | entry (seqNo : Nat)
  | signature (seqNo : Nat)
  | security (seqNo : Nat)
  | tapSignature (i : Fin 4)
  | selfTest (age : Nat)
  | window (number : Nat)
  | ring (number : Nat)
  deriving DecidableEq, Repr

/-- What SLEEP_REQ brings (R267): a message of the peer, or this end asks for a state (1 Sleep, 2 Deep sleep, 3 Off) after
DELAY ms. -/
inductive SleepRequest where
  | received (m : Message)
  | ask (state : Nat) (delay : Nat)
  deriving DecidableEq, Repr

/-- What WAKE brings (R267): a message of the peer, or this end cancels. -/
inductive WakeRequest where
  | received (m : Message)
  | cancel
  deriving DecidableEq, Repr

/-- Where a link word comes from (R252): the word stream RK1 decodes from the pilot channel, or the in-band channel, where none stands
for a flagged word or a missing-word marker (R212). -/
inductive LinkArrival where
  | pilot
  | inband (w : Option (BitVec 64))
  deriving DecidableEq, Repr

/-- What TELEMETRY brings (R256): a message of the peer, or this end sends the outputs of some channels. -/
inductive TelemetryRequest where
  | received (m : Message)
  | send (channels : List (Fin 64))
  deriving DecidableEq, Repr

end Sys2Proof
end

