-- ==== Sys2Proof/Syntax.lean ====
section
/-! DEFINITION. Syntax.lean: the commands of the block, one constructor for each row of spec/opcode_table.json, with the
row's operands: who issues an access (the origin of R45), the unit it concerns, and what the environment brings with it. -/
namespace Sys2Proof

/-- A command.  The docstring of each constructor is the table's summary of its row. -/
inductive Instr where
  /-- RUNCTL_RUN: A RUN command to a page's RUNCTL moves a stopped page to starting, or is refused or ignored by
  state. (R41) -/
  | runctlRun (o : Origin) (p : Page)
  /-- RUNCTL_STOP: A STOP command to a page's RUNCTL moves a running page to stopping, subject to its precondition.
  (R41) -/
  | runctlStop (o : Origin) (p : Page)
  /-- PAGE_START_COMPLETE: A starting page becomes ready and enters running within its start bound. (R41) -/
  | pageStartComplete (p : Page) (ok : Bool) (band gain : Int × Int)
  /-- PAGE_STOP_COMPLETE: A stopping page reaches its next application boundary and enters stopped. (R41) -/
  | pageStopComplete (p : Page)
  /-- PAGE_BOUND_OVERRUN: A page overruns its start or stop bound, sets FAULT and stays in transition. (R41) -/
  | pageBoundOverrun (p : Page)
  /-- REGISTER_WRITE: A write to a register with no row of its own is checked, applied or refused, and journalled.
  (R49) -/
  | registerWrite (o : Origin) (addr : Nat) (w : Word) (readings : List Int)
  /-- HOST_MISALIGNED_ACCESS: A host access that is not an aligned 32-bit write or an aligned 4/8-byte read is refused
  with ACCESS_SIZE or completes with Unsupported Request. (R361) -/
  | hostMisalignedAccess (write : Bool) (addr len : Nat) (w : Word)
  /-- UNMAPPED_BAR0_WRITE: A write to a BAR0 address in no page is discarded and journalled as refused with
  RESERVED_OFFSET. (R542) -/
  | unmappedBar0Write (o : Origin) (addr : Nat) (w : Word)
  /-- EARLY_BAR0_WRITE: A BAR0 write before host-ready is discarded unjournalled and counted in EARLY_WR. (R357) -/
  | earlyBar0Write (addr : Nat) (w : Word)
  /-- REFUSED_WR_CLR: A write of CLR to REFUSED_WR clears its count and last-refusal fields. (R42) -/
  | refusedWrClr (o : Origin) (p : Page)
  /-- ERRLOG_CLR: A write of CLR to ERRLOG clears its count, code and detail. (R42) -/
  | errlogClr (o : Origin) (p : Page)
  /-- EVT_RAW_CLEAR: A write of 1 to an EVT_RAW bit clears that event bit, unless its cause persists. (R68) -/
  | evtRawClear (o : Origin) (p : Page) (mask : BitVec 16)
  /-- EVT_SET: A write to EVT_SET raises the named implemented event bits as the events would. (R68) -/
  | evtSet (o : Origin) (p : Page) (mask : BitVec 16)
  /-- X_LO_READ_LATCH: A read of an X_LO register latches its X_HI partner for the reading origin. (R582) -/
  | xLoReadLatch (o : Origin) (addr : Nat) (wide : Bool)
  /-- EVR_SET_MESSAGE: EVR receives a set message for a source whose pending bit rose and delivers it by its route.
  (R70) -/
  | evrSetMessage
  /-- EVR_CLEAR_MESSAGE: EVR receives a clear message for a source whose pending bit fell. (R70) -/
  | evrClearMessage (src : Nat)
  /-- RT_DATA_WRITE: A write to EVR.RT_DATA replaces the route entry at the next event message, re-delivering pending
  sources as stated. (R73) -/
  | rtDataWrite (o : Origin) (w : Word)
  /-- SW_SET: A write to EVR.SW_SET raises the named software sources. (R71) -/
  | swSet (o : Origin) (mask : BitVec 16)
  /-- SW_CLR: A write to EVR.SW_CLR clears the named software sources. (R71) -/
  | swClr (o : Origin) (mask : BitVec 16)
  /-- SEM_ACQUIRE: An acquire command to ARM.SEMn is granted, found busy or refused for lock order. (R26) -/
  | semAcquire (o : Origin) (n : Fin 64)
  /-- SEM_RELEASE: A release command to ARM.SEMn frees it if the origin holds it. (R27) -/
  | semRelease (o : Origin) (n : Fin 64)
  /-- VC_VIOLATION: A packet from a non-Plinth origin on the Plinth channel is discarded at the first router and
  reported. (R23) -/
  | vcViolation (o : Origin)
  /-- CSF_PAIR_COMPARE: Once per CSF the received CSF boundaries of both carriers are paired and the lock state
  updated. (R18) -/
  | csfPairCompare (csfA csfB : BitVec 40) (skew : Option Nat)
  /-- JOINT_TIMING_RELEASE: On entry to LOST each interpolator returns to its own carrier's error at the next symbol
  block boundary. (R20) -/
  | jointTimingRelease (c : Carrier)
  /-- RX_SLIP: A line receive ingress EB would overflow, so a whole symbol block is dropped on all four lanes and a
  slip marker sent on. (R32) -/
  | rxSlip (c : Carrier)
  /-- TX_SLIP: A line transmit egress EB is empty when the DAC needs a block, so the zero code is sent and counted.
  (R33) -/
  | txSlip (c : Carrier)
  /-- CLIENT_INGRESS_DROP: A 257b block that does not fit a full client ingress EB is dropped and counted. (R34) -/
  | clientIngressDrop (c : Carrier)
  /-- CLIENT_EGRESS_UNDERRUN: A client egress EB is empty when its port needs a block, so an error control block is
  sent. (R34) -/
  | clientEgressUnderrun (c : Carrier) (q : Fin 4)
  /-- JOURNAL_SPILL: The on-die journal buffer holds 4,096 or more entries and spills entries to the LPDDR5X ring.
  (R63) -/
  | journalSpill (n : Nat)
  /-- JOURNAL_PERSIST_BATCH: RK7 persists a batch of ring entries to the Archive and writes the head to MRAM. (R63) -/
  | journalPersistBatch (n : Nat)
  /-- JOURNAL_SPACE_RETURN: Space returns to the on-die buffer and a GAP marker for the unlogged refusals is appended.
  (R65) -/
  | journalSpaceReturn
  /-- SIGN_NOW: A write of SIGN_NOW to CJ.CTL requests a Plinth signature of the chain head. (R62) -/
  | signNow (o : Origin)
  /-- JOURNAL_SIGNATURE_DONE: The Plinth's head signature completes, is stored and a SIGN marker appended. (R62) -/
  | journalSignatureDone
  /-- LF_HEADER_FORM: LFM_x forms an LF header, takes D blocks from the justification buffer and sets FILL, key index
  and BLANKED. (R86) -/
  | lfHeaderForm (c : Carrier)
  /-- LFM_JOIN_PARTNER: A starting LFM waits for its running partner's CSF boundary and then sends its first LF with
  the partner's number. (R85) -/
  | lfmJoinPartner (c : Carrier)
  /-- LFM_PAIR_START: In 1+1 a framer written RUN waits until the other's RUN is accepted and both start together.
  (R273) -/
  | lfmPairStart
  /-- CPC_ROUND_WRITE: CPC_x forms a calendar round of W blocks and writes it to the justification buffer. (R334) -/
  | cpcRoundWrite (c : Carrier) (blocks : List (Fin 4 × ClientIn)) (rsCorr rsUncorr : List Nat)
  /-- JUST_RANGE_CLR: A write of CLR to LFM_x.JUST_RANGE resets MIN_DATA and MAX_DATA. (R95) -/
  | justRangeClr (o : Origin) (c : Carrier)
  /-- RX_FRAME_POSITION: At each candidate or frame position the FAW and header are checked and the receive frame
  state updated. (R209) -/
  | rxFramePosition (c : Carrier) (f : RxFrame)
  /-- RX_LF_CLASSIFY: A received LF in SYNC is sorted into one class and delivered, discarded or passed to CRY_x.
  (R210) -/
  | rxLfClassify (c : Carrier) (f : RxFrame) (arrival : Nat)
  /-- SYF_START: TXP_x starts a symbol frame with its training block. (R100) -/
  | syfStart (c : Carrier)
  /-- PILOT_GROUP_SIGN: At the start of a pilot group TXP_x takes one bit from the pilot-channel FIFO, or counts an
  underrun. (R101) -/
  | pilotGroupSign (c : Carrier)
  /-- PCH_DATA: A write to TXP_x.PCH_DATA appends 32 bits to the pilot-channel FIFO or is refused if full. (R101) -/
  | pchData (o : Origin) (c : Carrier) (w : Word)
  /-- PCH_CTL_CLR: A write of CLR to TXP_x.PCH_CTL empties the FIFO and clears UNDERRUN. (R120) -/
  | pchCtlClr (o : Origin) (c : Carrier)
  /-- TX_FIR_SWAP: A SWAP strobe to TXP_x.FIR_XFADE starts, holds or refuses a bank cross-fade. (R106) -/
  | txFirSwap (o : Origin) (c : Carrier) (w : Word)
  /-- TX_XFADE_END: The last fade block ends, ACTIVE takes the target bank and a held swap starts. (R106) -/
  | txXfadeEnd (c : Carrier)
  /-- DAC_START: Once all four egress EBs hold 20 blocks the carrier's DACs start reading on one edge. (R111) -/
  | dacStart (c : Carrier)
  /-- LTX_FG_CAL_START: Foreground DAC calibration begins once LTXn runs and SYN_x is locked. (R112) -/
  | ltxFgCalStart (c : Carrier)
  /-- LTX_FG_CAL_DONE: Foreground DAC calibration of the carrier's lanes completes and CAL_DONE is raised. (R112) -/
  | ltxFgCalDone (c : Carrier) (ms : List (List (Int × Int)))
  /-- LTX_BG_CAL_STEP: Every 100 µs the spare DAC segment measures the next segment and a trim is accepted or
  rejected. (R113) -/
  | ltxBgCalStep (n : Fin 8) (m1 m2 : Int) (mux : Int × Int)
  /-- GATE_CHANGE: A lane's output gate opens or closes at a symbol block boundary. (R114) -/
  | gateChange (c : Carrier)
  /-- HOLDOVER: TRC_x loses lock or leaves the pull range and SYN_x holds its averaged frequency. (R116) -/
  | holdover (c : Carrier) (average : Int)
  /-- LOOP_TRACK_RESUME: TRC_x has held lock for 1 ms and loop tracking resumes. (R116) -/
  | loopTrackResume (c : Carrier)
  /-- LTX_PATTERN_MODE: A change of LTXn.PAT_CTL.MODE switches the lane's content at the next symbol block. (R117) -/
  | ltxPatternMode (n : Fin 8)
  /-- TX_INJECT_SINGLE: A SINGLE strobe to TXP_x.INJ_CTL injects one error on each selected tributary. (R118) -/
  | txInjectSingle (o : Origin) (c : Carrier) (w : Word)
  /-- TX_INJECT_PERIODIC: Every 2^RATE_LOG2 target units a periodic error is injected. (R118) -/
  | txInjectPeriodic (c : Carrier)
  /-- PRAM_DATA_ACCESS: An access to LTXn.PRAM_DATA reads or writes pattern RAM and advances the index. (R121) -/
  | pramDataAccess (o : Origin) (n : Fin 8) (value : Option Word)
  /-- DAC_CLIP: A symbol block with a clamped DAC code increments CLIP_CNT and raises CLIP. (R109) -/
  | dacClip (n : Fin 8)
  /-- AGC_PERIOD: At each AGC period the slow gain loop measures RMS and steps G by at most 0.5 dB. (R125) -/
  | agcPeriod (n : Fin 8)
  /-- GAIN_SET: A write to LRXn.AFE_CTL.GAIN_SET sets G at the next block boundary. (R125) -/
  | gainSet (o : Origin) (n : Fin 8) (code : BitVec 6)
  /-- FAST_STEP: A block ending with at least CLIP_THR clipped samples lowers G by 1 dB. (R128) -/
  | fastStep (n : Fin 8)
  /-- CLIP: The first block with a clipped sample opens a clipping interval. (R129) -/
  | clip (n : Fin 8) (codes : List Int)
  /-- CLIP_INTERVAL_END: 64 consecutive clean blocks end the clipping interval. (R129) -/
  | clipIntervalEnd (n : Fin 8)
  /-- GAIN_LIMIT: G has sat at its limit for 1 ms, so AT_MIN or AT_MAX is set. (R130) -/
  | gainLimit (n : Fin 8)
  /-- LRX_FG_CAL: A lane entering starting with FG_ON_START calibrates all 65 slices before delivering samples. (R132)
  -/
  | lrxFgCal (n : Fin 8) (ms : List (List (Int × Int))) (afe : List (Int × Int))
  /-- ADC_BG_CAL_STEP: Each 2^18 slice conversions the spare slice is calibrated and exchanged into position p. (R133)
  -/
  | adcBgCalStep (n : Fin 8) (m : Int × Int)
  /-- UNRETIRE: A write of UNRETIRE clears RETIRED and restarts rotation. (R136) -/
  | unretire (o : Origin) (n : Fin 8)
  /-- LANE_CLOCK_LOSS: SYN_x loses lock, so the lanes stop delivering samples and set NO_CLK. (R137) -/
  | laneClockLoss (c : Carrier)
  /-- LANE_CLOCK_RESUME: SYN_x locks again and the carrier's lanes resume on a common edge. (R137) -/
  | laneClockResume (c : Carrier)
  /-- HIST_START: A START strobe to LRXn.HIST_CTL begins a histogram run or is counted as OVR. (R138) -/
  | histStart (o : Origin) (n : Fin 8) (w : Word)
  /-- HIST_DONE: A histogram run ends and its bins are copied. (R138) -/
  | histDone (n : Fin 8)
  /-- SNAP_ARM: A write of LRXn.SNAP_CTL.ARM arms the lane for capture within the rate limit. (R139) -/
  | snapArm (o : Origin) (n : Fin 8) (w : Word)
  /-- CD_SCAN_START: Acquisition enters CD_SCAN and 65,536 samples are stored. (R148) -/
  | cdScanStart (c : Carrier)
  /-- CD_SCAN_COMPLETE: The candidate scan finishes and succeeds or fails by the ratio test. (R148) -/
  | cdScanComplete (c : Carrier) (coarse fine : List Nat)
  /-- CD_TRACK_STEP: Every 1,024 blocks in TRACK the CD tracking offset moves 1 ps/nm if the residual exceeds 5 ps/nm.
  (R149) -/
  | cdTrackStep (c : Carrier)
  /-- CD_SET_WRITE: A write to CDC_x.CD_SET applies at once, or slews in TRACK. (R149) -/
  | cdSetWrite (o : Origin) (c : Carrier) (cd : BitVec 18)
  /-- TIMING_LOCK: FREQ_OFS has changed by under 0.5 ppm over 1,024 blocks and TRC_x sets LOCK. (R151) -/
  | timingLock (c : Carrier) (ofs : Int)
  /-- TIMING_LOCK_LOST: Frequency drift, range or unusable input clears TRC_x LOCK. (R151) -/
  | timingLockLost (c : Carrier) (ofs : Option Int)
  /-- AUTO_SKEW_ESTIMATE: The device estimates tributary delays from training and writes new skew targets. (R153) -/
  | autoSkewEstimate (c : Carrier) (est : List Int)
  /-- EQZ_LMS_UPDATE: At the end of an update period every equaliser tap is updated by block LMS. (R155) -/
  | eqzLmsUpdate (c : Carrier) (grads : List (Int × Int))
  /-- SINGULARITY: In BLIND a cross-correlation above 0.8 over 64 blocks re-initialises the active bank. (R157) -/
  | singularity (c : Carrier) (corr cost : Nat)
  /-- CHANNEL_ESTIMATE: Every 1,024 blocks DGD, SOP rate and residual CD are estimated from the active bank. (R158) -/
  | channelEstimate (c : Carrier)
  /-- EQZ_SWAP: A SWAP strobe to EQZ_x.XFADE_CTL starts, holds or refuses a bank cross-fade. (R159) -/
  | eqzSwap (o : Origin) (c : Carrier) (w : Word)
  /-- EQZ_XFADE_END: The equaliser fade ends, ACTIVE takes the target bank and a held swap starts. (R159) -/
  | eqzXfadeEnd (c : Carrier)
  /-- EQZ_COPY: A COPY strobe copies the active bank into the inactive bank at the next block. (R161) -/
  | eqzCopy (o : Origin) (c : Carrier)
  /-- EQZ_INIT: An INIT strobe sets the active bank to centre taps at the next block. (R161) -/
  | eqzInit (o : Origin) (c : Carrier)
  /-- COEF_DATA_ACCESS: An access to EQZ_x.COEF_DATA reads or writes a coefficient and advances TAP. (R163) -/
  | coefDataAccess (o : Origin) (c : Carrier) (value : Option Word)
  /-- SHADOW_SNAP: A SNAP strobe fills the shadow copy from the active taps at the next block. (R163) -/
  | shadowSnap (o : Origin) (c : Carrier)
  /-- ACQ_BEGIN: CDC, TRC and EQZ all run with samples, so acquisition leaves IDLE. (R165) -/
  | acqBegin (c : Carrier)
  /-- ACQ_TIMEOUT: TIMING, BLIND or SYF_SEARCH exceeds its timeout and acquisition restarts or returns to BLIND.
  (R165) -/
  | acqTimeout (c : Carrier)
  /-- BLIND_CONVERGED: The CMA cost stays low for 256 blocks and BLIND moves to SYF_SEARCH. (R165) -/
  | blindConverged (c : Carrier) (cost : Nat)
  /-- TRAINING_DETECT: A training block is correlated, confirming or missing the SYF position and possibly swapping
  rows. (R166) -/
  | trainingDetect (c : Carrier) (x y : Option (Carrier × Bool)) (index : Nat)
  /-- ACQ_RESTART: A write of RESTART to EQZ_x.ACQ_CTL restarts acquisition. (R165) -/
  | acqRestart (o : Origin) (c : Carrier)
  /-- CPR_TRAINING_BLOCK: CPR_x processes a training block: coarse frequency estimate, phase check and state change.
  (R186) -/
  | cprTrainingBlock (c : Carrier) (x y : List (Int × Int))
  /-- FO_LOCK: FO_EST has changed by under 2 MHz over 1,024 pilots and FO_LOCK is set. (R176) -/
  | foLock (c : Carrier)
  /-- FO_RANGE: FO_EST leaves ±3.5 GHz and acquisition restarts at FO_COARSE. (R176) -/
  | foRange (c : Carrier)
  /-- PILOT_SLIP_CHECK: At each pilot the quadrant q is formed and a cycle slip confirmed, repaired or left
  unresolved. (R180) -/
  | pilotSlipCheck (c : Carrier) (x y : List (Int × Int))
  /-- PCH_RECORD_WRITE: After pilot group 255 CPR_x writes a 272-byte soft-value record to RK1's ring or counts an
  overflow. (R185) -/
  | pchRecordWrite (c : Carrier)
  /-- PCH_RING_ENTRIES: A write to CPR_x.PCH_RING.ENTRIES resets both ring indices. (R185) -/
  | pchRingEntries (o : Origin) (c : Carrier) (entries : BitVec 8)
  /-- MLS_ESTIMATE_UPDATE: Every 2^EST_LOG2 blocks the MLSE gain and tail estimates are updated. (R190) -/
  | mlsEstimateUpdate (c : Carrier)
  /-- TRELLIS_RESET: After a slip or unsynchronised block every state metric is set to 0. (R191) -/
  | trellisReset (c : Carrier)
  /-- SNR_UPDATE: Every 2^VAR_LOG2 blocks the noise variance and SNR are updated and SNR_LOW may be raised. (R194) -/
  | snrUpdate (c : Carrier)
  /-- FEC_HUNT_OBSERVATION: A block-alignment observation ends and passes to CHECK or starts again. (R204) -/
  | fecHuntObservation (c : Carrier)
  /-- FEC_CHECK_RESULT: The first 64 blocks at OFFSET are judged and the decoder enters LOCK or HUNT. (R204) -/
  | fecCheckResult (c : Carrier)
  /-- UNCORRECTABLE_BLOCK: A decoded oFEC block is uncorrectable, is counted and its bits are flagged bad. (R205) -/
  | uncorrectableBlock (c : Carrier)
  /-- FEC_WINDOW_END: A statistics window ends, its registers latch and SD and SF are judged. (R206) -/
  | fecWindowEnd (c : Carrier)
  /-- RATCHET_DUE: The rekey interval elapses and the A-end's Plinth starts a ratchet. (R234) -/
  | ratchetDue (x : Carrier)
  /-- REKEY_ANNOUNCE: The transmitting Plinth derives a key, loads the next slot and sends REKEY with activation CSF
  N. (R237) -/
  | rekeyAnnounce (x : Carrier)
  /-- ACTIVATION_DEADLINE: The framer forms CSF N − 16 without KEY_CONFIRM and the activation is abandoned and
  retried. (R237) -/
  | activationDeadline (x : Carrier)
  /-- ACTIVATION_TAKE_EFFECT: The first LF of CSF N is sent under the new slot and the old transmit slot is erased.
  (R237) -/
  | activationTakeEffect (x : Carrier)
  /-- RETAINED_SLOT_EXPIRY: The received CSF_NO advances 2^RETAIN_LOG2 beyond the new slot's first LF and the retained
  slot is erased. (R237) -/
  | retainedSlotExpiry (c : Carrier)
  /-- SLOT_EXPIRY: A key slot reaches LIFE_MULT × I since loading, is erased and marked EXPIRED. (R231) -/
  | slotExpiry (c : Carrier) (receive : Bool) (i : Fin 4)
  /-- EPOCH_EXCHANGE_START: Ratchet 56 or an epoch age of 3,300 s starts a fresh ML-KEM exchange. (R235) -/
  | epochExchangeStart (x : Carrier)
  /-- EPOCH_EXHAUSTED: Ratchet 64 or 3,600 s is reached without a new epoch and no further key is derived. (R235) -/
  | epochExhausted (x : Carrier)
  /-- WAKE_SEND: A write of SEND to QLT.WAKE_CTL starts CALL bursts. (R249) -/
  | wakeSend (o : Origin) (w : Word)
  /-- WAKE_BURST: Each second a burst of 8 wake words is keyed on the laser until BURSTS are sent or an ANSWER is
  accepted. (R247) -/
  | wakeBurst (x : Carrier)
  /-- WAKE_WORD_RX: A wake word arrives on a wake receiver and is accepted after two matching copies. (R248) -/
  | wakeWordRx (x : Carrier) (w : BitVec 64)
  /-- ANSWER_SEND: After accepting a CALL the device answers with ANSWER bursts once its laser may be keyed. (R249) -/
  | answerSend (x : Carrier)
  /-- PCH_WORD_SYNC: 16 consecutive words with MARK = 0b10 bring a pilot channel into word sync. (R251) -/
  | pchWordSync (x : Carrier)
  /-- PCH_WORD_SYNC_LOSS: 8 of 16 words without MARK take the pilot channel out of word sync. (R251) -/
  | pchWordSyncLoss (x : Carrier)
  /-- LINK_WORD: A 64-bit link word arrives on a path and is assembled into a message or discarded. (R252) -/
  | linkWord (x : Carrier) (w : LinkArrival)
  /-- ACK: An ACK message advances the peer's acknowledged sequence. (R255) -/
  | ack (x : Carrier) (m : Message)
  /-- HELLO: A HELLO message starts or restarts the exchange and its sequencing. (R255) -/
  | hello (x : Carrier) (m : Message)
  /-- CAPS: A CAPS message records the peer's modes, targets, rekey and configuration. (R256) -/
  | caps (x : Carrier) (m : Message)
  /-- ATTEST: An ATTEST message's certificate and report are verified by the Plinth or set aside. (R461) -/
  | attest (x : Carrier) (m : Message)
  /-- KEM_INIT: A KEM_INIT message is processed by the B-end, held, or refused for role or epoch. (R260) -/
  | kemInit (x : Carrier) (m : Message)
  /-- KEM_RESP: A KEM_RESP message completes the ML-KEM exchange at the A-end. (R260) -/
  | kemResp (x : Carrier) (m : Message)
  /-- KEY_CONFIRM: A KEY_CONFIRM message completes a handshake or commits a key activation. (R261) -/
  | keyConfirm (x : Carrier) (m : Message)
  /-- REKEY: A REKEY message is checked and the key loaded into the receive slot or refused. (R237) -/
  | rekey (x : Carrier) (m : Message)
  /-- RATE_OFFER: A RATE_OFFER message recomputes the negotiated target and is answered. (R263) -/
  | rateOffer (x : Carrier) (m : Message)
  /-- RATE_ACCEPT: A RATE_ACCEPT message confirms the negotiated targets. (R263) -/
  | rateAccept (x : Carrier) (m : Message)
  /-- STEP: A STEP message arms, refuses or follows a rate step on the named carriers. (R264) -/
  | step (x : Carrier) (m : Message)
  /-- STEP_ACK: A STEP_ACK message commits or refuses an offered rate step. (R264) -/
  | stepAck (x : Carrier) (m : Message)
  /-- ROUTE_SWITCH: A ROUTE_SWITCH message requests, accepts or reports a 1:1 route switch. (R283) -/
  | routeSwitch (x : Carrier) (m : Message)
  /-- SLEEP_REQ: A SLEEP_REQ message requests or accepts a coordinated sleep. (R267) -/
  | sleepReq (x : Carrier) (r : SleepRequest)
  /-- WAKE_MSG: A WAKE message cancels a sleep or reports a resumption. (R267) -/
  | wakeMsg (x : Carrier) (r : WakeRequest)
  /-- TELEMETRY: A TELEMETRY message delivers peer channel values. (R256) -/
  | telemetry (x : Carrier) (r : TelemetryRequest)
  /-- TIME_MSG: A TIME message updates the round-trip measurement of its path. (R265) -/
  | timeMsg (x : Carrier) (m : Message)
  /-- REFUSE: A REFUSE message is counted and acted on by its referenced type. (R257) -/
  | refuse (x : Carrier) (m : Message)
  /-- UNKNOWN_TYPE_MESSAGE: A message of unknown TYPE is acknowledged and discarded. (R255) -/
  | unknownTypeMessage (x : Carrier) (type : BitVec 8) (m : Message)
  /-- RETX_TIMEOUT: An unacknowledged message's retransmission time expires and it is resent or the session ends.
  (R255) -/
  | retxTimeout (k : Carrier) (seqNo : Nat)
  /-- ACK_TIMER: 1 ms after accepting a message with nothing else to send, an ACK is sent. (R255) -/
  | ackTimer (k : Carrier)
  /-- TIME_SEND: Every TIME.PERIOD ms RK1 sends TIME on each INBAND path. (R265) -/
  | timeSend (x : Carrier)
  /-- CSF_TIMESTAMP: The transmit or receive instant of each CSF start is stamped. (R265) -/
  | csfTimestamp (x : Carrier) (receive : Bool) (csf stamp : Nat)
  /-- PATH_STATE_CHANGE: A path's state changes among NONE, PILOT and INBAND and sessions form or join. (R258) -/
  | pathStateChange (x : Carrier)
  /-- HANDSHAKE_TIMEOUT: 5 s pass in NEGOTIATE or KEYING without KEYED and the session enters FAILED. (R260) -/
  | handshakeTimeout (k : Carrier)
  /-- FAILED_RETRY: 10 s after FAILED with a path up the session returns to NEGOTIATE. (R260) -/
  | failedRetry (k : Carrier)
  /-- SESSION_PATHLESS: No path of a session has been up for 1 s and it goes DOWN. (R260) -/
  | sessionPathless (k : Carrier)
  /-- PCH_MODULATION_CHANGE: At the SYF boundary after an INB_x change the pilot channel modulation stops or resumes.
  (R258) -/
  | pchModulationChange (x : Carrier)
  /-- PCH_RX_CLEAR: 1 ms after the peer acknowledges INB_x = 1, RK1 clears PCH_RX. (R258) -/
  | pchRxClear (x : Carrier)
  /-- STEP_OFFER: The A-end's receive condition holds and it sends STEP up to the next rung. (R264) -/
  | stepOffer (x : Carrier)
  /-- STEP_OFFER_DEADLINE: CSF N − 16 is formed while OFFERED and the step returns to STEADY. (R264) -/
  | stepOfferDeadline (x : Carrier)
  /-- STEP_RESTART: The framer ends CSF N − 1, or the armed receiver loses SYNC, and the carrier restarts in the new
  mode. (R264) -/
  | stepRestart (x : Carrier)
  /-- ARMED_LAPSE: An ARMED B-end sees CSF N + 64 in the old mode or a SEQ_JUMP and returns to STEADY. (R264) -/
  | armedLapse (x : Carrier) (jump : Bool)
  /-- STEP_CONFIRMING: The restarted carrier reaches FEC LOCK and SYNC within TIMEOUT and enters CONFIRMING. (R264) -/
  | stepConfirming (x : Carrier)
  /-- STEP_DONE: SF_HOLD passes without SF in CONFIRMING and the step completes. (R264) -/
  | stepDone (x : Carrier)
  /-- FALLBACK: TIMEOUT expires or SF is set and the carrier restarts in the previous rung. (R264) -/
  | fallback (x : Carrier)
  /-- STEP_DOWN: SF, loss of SYNC or a target change starts an unacknowledged step down. (R264) -/
  | stepDown (x : Carrier)
  /-- STEP_BACKOFF_END: The backoff after a fallback expires and the step may be offered again. (R264) -/
  | stepBackoffEnd (x : Carrier)
  /-- SLEEP_DELAY_EXPIRY: DELAY ms after an accepted SLEEP_REQ the device requests the agreed state. (R267) -/
  | sleepDelayExpiry
  /-- RPS_OUTPUT_INSTANT: At each output instant the selector delivers the ACTIVE copy, the other copy or error
  control blocks. (R276) -/
  | rpsOutputInstant
  /-- RPS_PAIR_STATE: Matching, absence or lateness of copies changes the pair state. (R277) -/
  | rpsPairState
  /-- REALIGN: APPLIED is raised, pausing the output for the added LFs. (R275) -/
  | realign
  /-- RPS_CMD_REALIGN: A write of REALIGN to RPS.CMD realigns a DRIFT pair. (R277) -/
  | rpsCmdRealign (o : Origin)
  /-- RPS_CMD_MANUAL: A manual command selects ACTIVE or starts a 1:1 switch request. (R278) -/
  | rpsCmdManual (o : Origin) (route : Fin 2)
  /-- RPS_CMD_FORCED: A forced command holds ACTIVE or the 1:1 route whatever the failures. (R278) -/
  | rpsCmdForced (o : Origin) (route : Fin 2)
  /-- RPS_CMD_CLEAR: A clear command releases a forced or manual selection. (R278) -/
  | rpsCmdClear (o : Origin) (route : Fin 2)
  /-- RPS_SF_HOLDOFF: The ACTIVE carrier has held SF for HOLDOFF ms and ACTIVE moves. (R278) -/
  | rpsSfHoldoff
  /-- WTR_EXPIRY: The wait-to-restore time ends and ACTIVE reverts to PRIMARY. (R278) -/
  | wtrExpiry
  /-- RPS_DRAM_ON: The on-die store cannot hold the pair and delay moves to LPDDR5X. (R274) -/
  | rpsDramOn
  /-- SW_REQUEST: A command, SF or loss of SYNC on the working carrier for HOLDOFF sends a 1:1 switch request. (R283)
  -/
  | swRequest
  /-- SW_REQUEST_DEADLINE: CSF N − 16 is formed before the accept and the request lapses. (R283) -/
  | swRequestDeadline
  /-- SW_TOGGLE: The framer ends CSF N − 1 and ROUTESEL_x is toggled to the new route. (R283) -/
  | swToggle
  /-- SW_SETTLE_EXPIRY: SW_SETTLE ms after the toggle the equaliser acquisition is restarted. (R283) -/
  | swSettleExpiry
  /-- SW_DONE: The working carrier regains frame SYNC after a switch and the hit is recorded. (R283) -/
  | swDone (hitUs : Nat)
  /-- SW_UNILATERAL: No frame SYNC within the timer, so the device toggles the route alone. (R283) -/
  | swUnilateral
  /-- FES_EN: A write of FES.CTL_x.EN enables the carrier out of DARK or returns it to DARK. (R291) -/
  | fesEn (o : Origin) (c : Carrier) (en : Bool)
  /-- MODULE_READY: The module reports ModuleReady after reset release, or times out to FAULT. (R291) -/
  | moduleReady (c : Carrier) (outcome : Fin 3)
  /-- TUNE: A TUNE strobe or AUTO starts laser tuning. (R291) -/
  | tune (o : Origin) (c : Carrier)
  /-- WAVELENGTH_LOCK: The module reports wavelength lock and the carrier enters TUNED. (R291) -/
  | wavelengthLock (c : Carrier) (outcome : Fin 3)
  /-- TX_READY_ENTRY: TXP_x and all LTXn run and the carrier enters TX_READY, writing the driver codes. (R291) -/
  | txReadyEntry (c : Carrier)
  /-- TX_REQ: A transmit enable is applied, held or refused. (R293) -/
  | txReq (o : Origin) (c : Carrier)
  /-- TX_HOLD_RELEASE: The last hold cause of a held enable clears and the enable is applied. (R293) -/
  | txHoldRelease (c : Carrier)
  /-- TX_HOLD_TIMEOUT: TXHOLD.MAX elapses on a held enable and it is refused. (R293) -/
  | txHoldTimeout (c : Carrier)
  /-- TX_OFF: A TX_OFF strobe disables output and cancels a held enable. (R291) -/
  | txOff (o : Origin) (c : Carrier)
  /-- CLR_FAULT: A CLR_FAULT strobe returns a FAULT carrier to DARK. (R291) -/
  | clrFault (o : Origin) (c : Carrier)
  /-- LOS_READING: A receive-power monitor reading sets or clears LOS after two readings. (R305) -/
  | losReading (c : Carrier) (code : Nat)
  /-- FES_FAULT: A module or CMIS failure moves the carrier to FAULT. (R292) -/
  | fesFault (c : Carrier) (cause : Nat)
  /-- SAFETY_HOLD_STATE: A Plinth safety hold moves the carrier to SAFE, and its release returns it. (R291) -/
  | safetyHoldState (c : Carrier)
  /-- FO_MARGIN: |FO_EST| above 3.0 GHz for 1 s while LOCKED raises FO_MARGIN. (R296) -/
  | foMargin (c : Carrier)
  /-- TIA_GAIN_STEP: After DWELL the outer gain loop judges each polarisation and steps the TIA gain. (R297) -/
  | tiaGainStep (c : Carrier) (y : Bool)
  /-- CMIS_GO: A GO to FES.CMIS_CMD performs one CMIS read or write transaction. (R301) -/
  | cmisGo (o : Origin) (w : Word) (readings : List Int)
  /-- CMIS_FLAG_POLL: MOD_INT_N assertion or the 100 ms timer makes FES read the module flags. (R300) -/
  | cmisFlagPoll (c : Carrier) (asserted : Bool) (modState : Nat) (lock settling laserFault : Bool)
  /-- SYN_UNLOCK: A running synthesiser loses lock, clears LOCK and raises UNLOCK. (R303) -/
  | synUnlock (n : Fin 3)
  /-- SYN_RELOCK: A synthesiser locks again and raises LOCK, or records a fault if late. (R303) -/
  | synRelock (n : Fin 3) (locked : Bool) (band : Int × Int)
  /-- TEL_TICK: Every 1.024 µs each channel samples its source and feeds its filter. (R310) -/
  | telTick (inputs : TelInputs)
  /-- TEL_OUTPUT: A channel's decimator yields an output, flagged INVALID or OVR as applicable. (R311) -/
  | telOutput (n : Fin 64)
  /-- TEL_SYNC: A SYNC edge, SYNC write, start or wake resets all decimators on the next tick. (R312) -/
  | telSync (o : Option Origin)
  /-- LEARN: A LEARN strobe starts learning a signature or is refused. (R315) -/
  | learn (o : Origin) (c : Carrier)
  /-- LEARN_DONE: LEARN_S seconds of valid outputs are collected and the signature stored. (R315) -/
  | learnDone (c : Carrier)
  /-- TAP_ARM: A write of ARM_x arms or disarms tap detection. (R315) -/
  | tapArm (o : Origin) (c : Carrier) (arm : Bool)
  /-- TAP_ACK: An ACK strobe returns an ALARM carrier to ARMED. (R315) -/
  | tapAck (o : Origin) (c : Carrier)
  /-- TAP_RAISE: A write to TEL.TAP_RAISE from RK6 raises a tap alarm and triggers Cast. (R316) -/
  | tapRaise (o : Origin) (c : Carrier) (rules : BitVec 5)
  /-- RING_DROP: The Archive cannot take a ring block in time and it is dropped. (R319) -/
  | ringDrop
  /-- CAST_TRIGGER: A trigger opens, extends, is held or is ignored by the window state. (R321) -/
  | castTrigger (b : Fin 11)
  /-- CAST_SW_TRIG: A write of TRIG to CAST.CTL gives one software trigger. (R320) -/
  | castSwTrig (o : Origin)
  /-- CAST_HELD_TRIGGER: COMMIT clears with RK7 running and the held trigger opens a window. (R321) -/
  | castHeldTrigger
  /-- CAST_WINDOW_END: The window end is reached and the active buffer is frozen for commit. (R321) -/
  | castWindowEnd
  /-- CAST_COMMIT: RK7 finishes writing a window and the Plinth signs it, advancing the Cast chain. (R324) -/
  | castCommit
  /-- IDLE_DELETE: A faster port deletes idle characters to keep pace with the calendar. (R335) -/
  | idleDelete (c : Carrier) (q : Fin 4)
  /-- IDLE_INSERT: An egress port inserts or deletes idle characters to match the arriving stream. (R338) -/
  | idleInsert (c : Carrier) (q : Fin 4) (inserted deleted : Nat)
  /-- INGRESS_PORT_STATE: A port's ingress conditions are lost or have held for 1 ms, changing UP or DOWN. (R339) -/
  | ingressPortState (c : Carrier) (q : Fin 4) (up hiBer : Bool)
  /-- EGRESS_PORT_STATE: Received blocks move a port's egress state among DATA and ERROR. (R340) -/
  | egressPortState (c : Carrier) (q : Fin 4) (n : Nat)
  /-- EGRESS_FAULT_HOLD: FAULT_HOLD elapses in ERROR or LOCAL_FAULT and the egress state changes. (R340) -/
  | egressFaultHold (c : Carrier) (q : Fin 4)
  /-- CLX_RX_STATE: Signal detection, CDR lock, adaptation or their loss move a client lane's receive state. (R347) -/
  | clxRxState (n : Fin 16) (e : ClxEvent)
  /-- CLX_RX_TIMEOUT: CDR lock or adaptation misses its bound and the lane returns to IDLE. (R347) -/
  | clxRxTimeout (n : Fin 16)
  /-- EI_EXIT: The electrical-idle detector sees signal above 150 mVppd. (R348) -/
  | eiExit (n : Fin 16)
  /-- CHK_BIT_COMPARE: The pattern checker compares received bits, gaining or losing sync. (R350) -/
  | chkBitCompare (n : Fin 16) (bit : Bool)
  /-- CLX_INJECT_SINGLE: A SINGLE strobe to CLXn.INJ_CTL inverts one transmitted bit. (R351) -/
  | clxInjectSingle (o : Origin) (n : Fin 16) (w : Word)
  /-- CLX_INJECT_PERIODIC: Every 2^RATE_LOG2 bits a periodic inversion is made. (R351) -/
  | clxInjectPeriodic (n : Fin 16)
  /-- EYE_START: A START strobe begins an eye scan or is counted as OVR. (R352) -/
  | eyeStart (o : Origin) (lane : Option (Fin 16)) (w : Word)
  /-- EYE_DONE: An eye scan ends and its mismatch count is copied. (R352) -/
  | eyeDone (lane : EyeLane) (mismatches : Nat)
  /-- EYE_ABANDON: The lane leaves READY or retrains during a scan and it is abandoned. (R352) -/
  | eyeAbandon (lane : EyeLane)
  /-- PERST_RELEASE: PERST_N release starts host link training. (R357) -/
  | perstRelease
  /-- RETRAIN: A RETRAIN strobe forces Recovery and applies pending link settings. (R358) -/
  | retrain (o : Origin)
  /-- LINK_RECOVERY: The host link enters Recovery or changes rate or width. (R357) -/
  | linkRecovery (rate : Fin 5) (width : Fin 4)
  /-- CREDIT_STALL: A transmission waits over 1 ms for host credits. (R360) -/
  | creditStall
  /-- CXL_MEM_READ: A CXL.mem read of the HDM window is served, poisoned or zero-filled. (R364) -/
  | cxlMemRead (off : Nat)
  /-- CXL_MEM_WRITE: A CXL.mem write is applied to host memory or dropped. (R364) -/
  | cxlMemWrite (off : Nat) (bytes : List Byte)
  /-- GET_EVENT_RECORDS: Mailbox 0x0100 returns CXL event records. (R366) -/
  | getEventRecords (log : Fin 4)
  /-- CLEAR_EVENT_RECORDS: Mailbox 0x0101 clears CXL event records. (R366) -/
  | clearEventRecords (log : Fin 4) (all : Bool) (handles : List Nat)
  /-- GET_EVENT_INTERRUPT_POLICY: Mailbox 0x0102 reports the event interrupt vector. (R366) -/
  | getEventInterruptPolicy
  /-- SET_EVENT_INTERRUPT_POLICY: Mailbox 0x0103 sets the event interrupt policy. (R366) -/
  | setEventInterruptPolicy (info warning failure fatal : Nat)
  /-- GET_FW_INFO: Mailbox 0x0200 reports the two firmware slots. (R366) -/
  | getFwInfo
  /-- TRANSFER_FW: Mailbox 0x0201 writes a firmware bundle to the inactive slot. (R446) -/
  | transferFw (slot : Fin 2) (offset : Nat) (data : List Byte) (last : Bool)
  /-- ACTIVATE_FW: Mailbox 0x0202 verifies a slot and activates it online or at next reset. (R555) -/
  | activateFw (slot : Fin 2) (online : Bool)
  /-- GET_TIMESTAMP: Mailbox 0x0300 returns the time base. (R366) -/
  | getTimestamp
  /-- SET_TIMESTAMP: Mailbox 0x0301 sets the time base and appends a TB_SET marker. (R366) -/
  | setTimestamp (ns : BitVec 64)
  /-- GET_SUPPORTED_LOGS: Mailbox 0x0400 lists the supported logs. (R366) -/
  | getSupportedLogs
  /-- GET_LOG: Mailbox 0x0401 returns the Command Effects Log. (R366) -/
  | getLog (effects : Bool)
  /-- IDENTIFY_MEMORY_DEVICE: Mailbox 0x4000 reports 32 GiB volatile capacity. (R366) -/
  | identifyMemoryDevice
  /-- GET_HEALTH_INFO: Mailbox 0x4200 returns health information. (R366) -/
  | getHealthInfo
  /-- SUBMIT_CAPSULE_CMD: Vendor command 0xC000 delivers a capsule to the Plinth. (R366) -/
  | submitCapsuleCmd (capsule : List Byte)
  /-- GET_CAPSULE_RESULT: Vendor command 0xC001 returns the last capsule result. (R366) -/
  | getCapsuleResult (input : List Byte)
  /-- GET_ATTESTATION_REPORT: Vendor command 0xC002 returns a signed attestation report for a nonce. (R366) -/
  | getAttestationReport (input : List Byte)
  /-- GET_JOURNAL_SIGNATURE: Vendor command 0xC003 returns the signature of a signed journal head. (R366) -/
  | getJournalSignature (input : List Byte)
  /-- READ_ARCHIVE_OBJECT: Vendor command 0xC004 copies an Archive object into log staging. (R366) -/
  | readArchiveObject (object : ArchiveObject)
  /-- GET_DEVICE_CERTIFICATE: Vendor command 0xC005 returns the device certificate. (R366) -/
  | getDeviceCertificate (input : List Byte)
  /-- UNSUPPORTED_OPCODE: An unlisted mailbox opcode returns Unsupported. (R366) -/
  | unsupportedOpcode
  /-- MBOX_BACKGROUND_DONE: A background mailbox command completes and MBOX_DONE is raised. (R365) -/
  | mboxBackgroundDone
  /-- IDE_KEY_CHANGE: IDE_KM over SPDM changes IO_SECURE or MEM_SECURE. (R368) -/
  | ideKeyChange (io mem : Bool)
  /-- BUNDLE_ISSUE: A Reckoner core issues one 128-bit bundle of four slot words. (R376) -/
  | bundleIssue (n : Fin 8)
  /-- NOP: The zero slot word does nothing. (R376) -/
  | nop (n : Fin 8)
  /-- MPY: MPY sets both accumulators of a pair to lane products. (R378) -/
  | mpy (n : Fin 8) (slot1 : Bool) (x a b sh : Fin 32)
  /-- MAC: MAC adds lane products to a pair of accumulators. (R378) -/
  | mac (n : Fin 8) (slot1 : Bool) (x a b sh : Fin 32)
  /-- MSU: MSU subtracts lane products from a pair of accumulators. (R378) -/
  | msu (n : Fin 8) (slot1 : Bool) (x a b sh : Fin 32)
  /-- CMPY: CMPY sets a pair to a complex product. (R378) -/
  | cmpy (n : Fin 8) (slot1 : Bool) (x a b sh : Fin 32)
  /-- CMAC: CMAC adds a complex product to a pair. (R378) -/
  | cmac (n : Fin 8) (slot1 : Bool) (x a b sh : Fin 32)
  /-- CMACJ: CMACJ adds a product with the conjugate of B to a pair. (R378) -/
  | cmacj (n : Fin 8) (slot1 : Bool) (x a b sh : Fin 32)
  /-- EXT: EXT rounds and saturates a pair into two 16-bit lanes. (R382) -/
  | ext (n : Fin 8) (slot1 : Bool) (x a b sh : Fin 32)
  /-- ACLR: ACLR clears a pair and its SATD bits. (R378) -/
  | aclr (n : Fin 8) (slot1 : Bool) (x a b sh : Fin 32)
  /-- AMOV: AMOV loads a pair from two D registers. (R378) -/
  | amov (n : Fin 8) (slot1 : Bool) (x a b sh : Fin 32)
  /-- ARDL: ARDL reads the low 32 bits of an accumulator. (R378) -/
  | ardl (n : Fin 8) (slot1 : Bool) (x a b sh : Fin 32)
  /-- ARDH: ARDH reads the high bits of an accumulator. (R378) -/
  | ardh (n : Fin 8) (slot1 : Bool) (x a b sh : Fin 32)
  /-- ASHL: ASHL shifts a pair left, setting ACCV on overflow. (R378) -/
  | ashl (n : Fin 8) (slot1 : Bool) (x a b sh : Fin 32)
  /-- ASHR: ASHR shifts a pair right arithmetically. (R378) -/
  | ashr (n : Fin 8) (slot1 : Bool) (x a b sh : Fin 32)
  /-- ACS: ACS performs four add-compare-select butterflies and updates the traceback register. (R386) -/
  | acs (n : Fin 8) (slot1 : Bool) (x a b sh : Fin 32)
  /-- ADD2: ADD2 adds per 16-bit lane, wrapping. (R378) -/
  | add2 (n : Fin 8) (slot1 : Bool) (x a b sh : Fin 32)
  /-- ADDS2: ADDS2 adds per lane with saturation. (R378) -/
  | adds2 (n : Fin 8) (slot1 : Bool) (x a b sh : Fin 32)
  /-- SUB2: SUB2 subtracts per lane, wrapping. (R378) -/
  | sub2 (n : Fin 8) (slot1 : Bool) (x a b sh : Fin 32)
  /-- SUBS2: SUBS2 subtracts per lane with saturation. (R378) -/
  | subs2 (n : Fin 8) (slot1 : Bool) (x a b sh : Fin 32)
  /-- ADD: ADD adds 32-bit values. (R378) -/
  | add (n : Fin 8) (slot1 : Bool) (x a b sh : Fin 32)
  /-- SUB: SUB subtracts 32-bit values. (R378) -/
  | sub (n : Fin 8) (slot1 : Bool) (x a b sh : Fin 32)
  /-- AND: AND forms a bitwise and. (R378) -/
  | and (n : Fin 8) (slot1 : Bool) (x a b sh : Fin 32)
  /-- OR: OR forms a bitwise or. (R378) -/
  | or (n : Fin 8) (slot1 : Bool) (x a b sh : Fin 32)
  /-- XOR: XOR forms a bitwise exclusive or. (R378) -/
  | xor (n : Fin 8) (slot1 : Bool) (x a b sh : Fin 32)
  /-- SHL: SHL shifts left. (R378) -/
  | shl (n : Fin 8) (slot1 : Bool) (x a b sh : Fin 32)
  /-- SHR: SHR shifts right logically. (R378) -/
  | shr (n : Fin 8) (slot1 : Bool) (x a b sh : Fin 32)
  /-- ASR: ASR shifts right arithmetically. (R378) -/
  | asr (n : Fin 8) (slot1 : Bool) (x a b sh : Fin 32)
  /-- MIN2: MIN2 takes the per-lane signed minimum. (R378) -/
  | min2 (n : Fin 8) (slot1 : Bool) (x a b sh : Fin 32)
  /-- MAX2: MAX2 takes the per-lane signed maximum. (R378) -/
  | max2 (n : Fin 8) (slot1 : Bool) (x a b sh : Fin 32)
  /-- MOVI: MOVI loads a sign-extended immediate. (R378) -/
  | movi (n : Fin 8) (slot1 : Bool) (x : Fin 32) (imm : BitVec 16)
  /-- MOVHI: MOVHI loads the upper half with an immediate. (R378) -/
  | movhi (n : Fin 8) (slot1 : Bool) (x : Fin 32) (imm : BitVec 16)
  /-- SLT: SLT sets 1 if A is less than B. (R378) -/
  | slt (n : Fin 8) (slot1 : Bool) (x a b sh : Fin 32)
  /-- SEQ: SEQ sets 1 if A equals B. (R378) -/
  | seq (n : Fin 8) (slot1 : Bool) (x a b sh : Fin 32)
  /-- LDH: LDH loads a sign-extended halfword. (R378) -/
  | ldh (n : Fin 8) (d : Fin 32) (an : Fin 8) (mode : Fin 4) (ofs : BitVec 16)
  /-- LDW: LDW loads a word, from DSRAM or the register window. (R378) -/
  | ldw (n : Fin 8) (d : Fin 32) (an : Fin 8) (mode : Fin 4) (ofs : BitVec 16)
  /-- LDD: LDD loads a doubleword into a register pair. (R378) -/
  | ldd (n : Fin 8) (d : Fin 32) (an : Fin 8) (mode : Fin 4) (ofs : BitVec 16)
  /-- STH: STH stores a halfword. (R378) -/
  | sth (n : Fin 8) (d : Fin 32) (an : Fin 8) (mode : Fin 4) (ofs : BitVec 16)
  /-- STW: STW stores a word, to DSRAM or the register window. (R378) -/
  | stw (n : Fin 8) (d : Fin 32) (an : Fin 8) (mode : Fin 4) (ofs : BitVec 16)
  /-- STD: STD stores a register pair. (R378) -/
  | std (n : Fin 8) (d : Fin 32) (an : Fin 8) (mode : Fin 4) (ofs : BitVec 16)
  /-- MOVA: MOVA sets an address register. (R378) -/
  | mova (n : Fin 8) (d : Fin 32) (an : Fin 8)
  /-- MOVDA: MOVDA copies an address register to D. (R378) -/
  | movda (n : Fin 8) (d : Fin 32) (an : Fin 8)
  /-- SETB: SETB sets a circular base register. (R378) -/
  | setb (n : Fin 8) (d : Fin 32) (an : Fin 8)
  /-- SETL: SETL sets a circular length register. (R378) -/
  | setl (n : Fin 8) (d : Fin 32) (an : Fin 8)
  /-- SETM: SETM sets a modify register on RK0 and RK1. (R378) -/
  | setm (n : Fin 8) (d : Fin 32) (k : Fin 4)
  /-- ADDA: ADDA adds D to an address register under circular rules. (R384) -/
  | adda (n : Fin 8) (d : Fin 32) (an : Fin 8)
  /-- BR: BR branches always after two delay slots. (R378) -/
  | br (n : Fin 8) (target : BitVec 14)
  /-- BZ: BZ branches when D is zero. (R378) -/
  | bz (n : Fin 8) (d : Fin 32) (target : BitVec 14)
  /-- BNZ: BNZ branches when D is non-zero. (R378) -/
  | bnz (n : Fin 8) (d : Fin 32) (target : BitVec 14)
  /-- BLT: BLT branches when D is negative. (R378) -/
  | blt (n : Fin 8) (d : Fin 32) (target : BitVec 14)
  /-- BGE: BGE branches when D is non-negative. (R378) -/
  | bge (n : Fin 8) (d : Fin 32) (target : BitVec 14)
  /-- CALL: CALL sets LINK and branches. (R378) -/
  | call (n : Fin 8) (target : BitVec 14)
  /-- JR: JR branches to the address in D. (R378) -/
  | jr (n : Fin 8) (d : Fin 32)
  /-- RET: RET branches to LINK. (R378) -/
  | ret (n : Fin 8)
  /-- LOOP: LOOP opens a hardware loop level with a count from D. (R387) -/
  | loop (n : Fin 8) (d : Fin 32) (target : BitVec 14)
  /-- LOOPI: LOOPI opens a hardware loop level with an immediate count. (R387) -/
  | loopi (n : Fin 8) (count : Fin 1024) (target : BitVec 14)
  /-- MOVTC: MOVTC writes a control register. (R375) -/
  | movtc (n : Fin 8) (d idx : Fin 32)
  /-- MOVFC: MOVFC reads a control register. (R375) -/
  | movfc (n : Fin 8) (d idx : Fin 32)
  /-- TRAP: TRAP enters the trap vector with cause SYSCALL. (R389) -/
  | trap (n : Fin 8) (code : BitVec 8)
  /-- RTI: RTI restores STATUS and resumes at EPC. (R388) -/
  | rti (n : Fin 8)
  /-- EI: EI enables interrupts and clears EXL. (R388) -/
  | ei (n : Fin 8)
  /-- DI: DI disables interrupts. (R388) -/
  | di (n : Fin 8)
  /-- WAIT: WAIT halts issue until an enabled line is pending. (R388) -/
  | wait (n : Fin 8)
  /-- HALT: HALT stops the core and raises HALTED. (R399) -/
  | halt (n : Fin 8)
  /-- BRK: BRK traps with cause BREAK. (R390) -/
  | brk (n : Fin 8)
  /-- INTERRUPT_ENTRY: An enabled pending interrupt line is taken between bundles. (R388) -/
  | interruptEntry (n : Fin 8)
  /-- TRAP_ENTRY: A precise trap enters the trap vector, or halts the core as a double fault. (R389) -/
  | trapEntry (n : Fin 8) (cause : Fin 11) (eaddr : Option Nat) (code : BitVec 8)
  /-- WAIT_WAKE: An enabled line becomes pending and a core in WAIT resumes issue. (R388) -/
  | waitWake (n : Fin 8)
  /-- DMA_DESCRIPTOR: A DMA channel processes one descriptor, completing or halting with an error. (R392) -/
  | dmaDescriptor (n : Fin 8) (ch : Fin 2)
  /-- DMA_TAIL_WRITE: Software writes TAIL and the channel starts processing. (R392) -/
  | dmaTailWrite (n : Fin 8) (ch : Fin 2) (tail : Nat)
  /-- DMA_RESUME: A write of bit 31 to DMAc_STAT retries the halted descriptor. (R392) -/
  | dmaResume (n : Fin 8) (ch : Fin 2)
  /-- LOAD: A LOAD strobe copies a signed image into a stopped core's SRAM. (R395) -/
  | load (o : Origin) (n : Fin 8) (fromHdm : Bool)
  /-- LOAD_VERIFY_DONE: The Plinth verifies the loaded image and sets VALID or wipes it. (R395) -/
  | loadVerifyDone (n : Fin 8)
  /-- RK_CORE_RESET: A RUN to RKn resets the core registers and starts issue at ENTRY. (R399) -/
  | rkCoreReset (o : Origin) (n : Fin 8)
  /-- DEBUG_WINDOW_WRITE: A write to a core's debug window is accepted, clearing MEAS_VALID for ISRAM, or denied.
  (R397) -/
  | debugWindowWrite (o : Origin) (n : Fin 8) (off : Fin 0x200000) (w : Word)
  /-- DEBUG_WINDOW_READ: A read of a core's debug window returns memory while stopped, else 0 and a denial count.
  (R397) -/
  | debugWindowRead (o : Origin) (n : Fin 8) (off : Fin 0x200000)
  /-- DEBUG_STEP: A STEP strobe issues one bundle of a stopped core. (R398) -/
  | debugStep (o : Origin) (n : Fin 8)
  /-- TALLY_TICK: Each reference tick enabled counters add events or threshold ticks. (R404) -/
  | tallyTick (inputs : TallyInputs)
  /-- TALLY_CLR: A write to TLYn.CLR clears the named counters. (R406) -/
  | tallyClr (o : Origin) (n : Fin 8) (mask : BitVec 16)
  /-- TALLY_EN: A write to TLYn.CTL.EN starts or stops the named counters on one tick. (R403) -/
  | tallyEn (o : Origin) (n : Fin 8) (mask : BitVec 16)
  /-- SAMPLE_CLR: A write of CLR to SAMPLE_CTL empties the sample buffer. (R414) -/
  | sampleClr (o : Origin) (n : Fin 8)
  /-- SAMPLE_D0_READ: A read of SAMPLE_D0 latches D1–D3 of the same record. (R411) -/
  | sampleD0Read (o : Origin) (n : Fin 8)
  /-- SAMPLE_D3_READ: A read of SAMPLE_D3 advances INDEX. (R411) -/
  | sampleD3Read (o : Origin) (n : Fin 8)
  /-- FABRIC_CLR: A write to ARM.FCLR or FCLR_HI clears the named fabric counters. (R546) -/
  | fabricClr (o : Origin) (hi : Bool) (mask : Word)
  /-- SCRUB_ACCESS: In an idle bulk slot a scrubber reads the next word or line. (R422) -/
  | scrubAccess (lines : Bool)
  /-- SCRUB_LAP_END: A scrubber passes the last address and publishes the lap time. (R423) -/
  | scrubLapEnd (lines : Bool)
  /-- LAP_SLOW: The lap in progress exceeds LAP_WARN and LAP_SLOW is raised. (R423) -/
  | lapSlow (lines : Bool)
  /-- ECC_CORRECTION: A read meets a correctable error, is served corrected and a write-back queued. (R424) -/
  | eccCorrection (e : CorrectedError)
  /-- CORRECTION_WRITEBACK: A queued write-back is done in the next idle slot. (R424) -/
  | correctionWriteback (lines : Bool)
  /-- ROW_REMAP_COPY_DONE: An LPDDR5X row copy to a spare row ends and the row is redirected. (R426) -/
  | rowRemapCopyDone (line : Nat)
  /-- UNCORRECTABLE_ERROR: A read meets an uncorrectable error, counted and handled by reader. (R428) -/
  | uncorrectableError (place : MemPlace) (reader : UeReader)
  /-- GRANULE_FIRST_WRITE: The first write to an uninitialised granule zero-fills it and sets its map bit. (R420) -/
  | granuleFirstWrite (a : Nat) (bytes : List Byte)
  /-- GRANULE_FILL_DONE: A granule zero-fill completes and waiting accesses proceed. (R420) -/
  | granuleFillDone (g : Nat)
  /-- UNINITIALISED_READ: A read of an uninitialised granule returns zero without a DRAM access. (R420) -/
  | uninitialisedRead (a : Nat)
  /-- FLASH_OP_TIMEOUT: A flash operation overruns, the target is reset and retried, or failed after three. (R435) -/
  | flashOpTimeout (target : Fin 32) (retried : Bool)
  /-- FLASH_READ_DECODE: A flash codeword is decoded, retried at read-retry levels or declared uncorrectable. (R434)
  -/
  | flashReadDecode (target : Fin 32) (b : Nat) (levels : Fin 9) (ok : Bool)
  /-- ARCHIVE_FORMAT: A write of FORMAT to ARC.LAYOUT by the Plinth formats the media. (R436) -/
  | archiveFormat
  /-- FORMAT_DONE: A format completes with two superblocks written. (R436) -/
  | formatDone
  /-- GROWN_BAD: A block grows bad and is replaced from the spare pool. (R439) -/
  | grownBad (b : Nat) (retired : Bool)
  /-- WEAR_LEVEL_MOVE: Erase counts spread too far and Patina moves the least-erased block's data. (R440) -/
  | wearLevelMove (region : Fin 10) (onto : Nat)
  /-- FLASH_REFRESH: A periodic read finds a block too corrected or too old and rewrites it. (R441) -/
  | flashRefresh (b corrections : Nat)
  /-- READ_DISTURB_RELOCATE: A block's read count reaches DISTURB × 10,000 and it is relocated. (R442) -/
  | readDisturbRelocate (b : Nat)
  /-- RING_BUDGET_EVAL: Patina evaluates the ring budget and writes CAST.RING.THIN. (R444) -/
  | ringBudgetEval (waf : Option Nat)
  /-- MRAM_COMMIT: A two-slot MRAM area is committed by marker, payload and marker writes. (R450) -/
  | mramCommit (area : Fin 6) (done : Fin 4)
  /-- SUBMIT_CAPSULE: Mailbox request 0x01 submits a capsule that the Plinth checks in order. (R463) -/
  | submitCapsule
  /-- INSTALL_OFFICER: Capsule 0x01 installs an officer key. (R464) -/
  | installOfficer
  /-- REMOVE_OFFICER: Capsule 0x02 removes an officer key. (R464) -/
  | removeOfficer
  /-- LOAD_PSK: Capsule 0x03 loads a pre-shared key. (R464) -/
  | loadPsk
  /-- CLEAR_PSK: Capsule 0x04 clears the pre-shared key. (R464) -/
  | clearPsk
  /-- WRITE_PO: Capsule 0x05 writes PO fields with origin 0xA. (R464) -/
  | writePo
  /-- SET_TRUST: Capsule 0x06 sets or clears a CA trust entry. (R464) -/
  | setTrust
  /-- SET_ALLOW: Capsule 0x07 sets an attestation allow-list digest. (R464) -/
  | setAllow
  /-- SET_CODE_KEY: Capsule 0x08 sets the customer code key and invalidates RK6's user image. (R464) -/
  | setCodeKey
  /-- SET_SVN_MIN: Capsule 0x09 raises the minimum SVN of an image kind. (R464) -/
  | setSvnMin
  /-- TEST_PORT: Capsule 0x0A opens or closes the test port. (R472) -/
  | testPort
  /-- FORMAT_ARCHIVE: Capsule 0x0B starts an Archive format. (R464) -/
  | formatArchive
  /-- ZEROISE: Capsule 0x0C zeroises the device's secrets. (R470) -/
  | zeroise
  /-- RELEASE: Capsule 0x0D clears named tamper and alarm holds. (R464) -/
  | release
  /-- GET_RESULT: Mailbox request 0x02 returns the last capsule result. (R476) -/
  | getResult
  /-- GET_ATTEST: Mailbox request 0x03 returns an attestation report. (R476) -/
  | getAttest
  /-- GET_JOURNAL_SIG: Mailbox request 0x04 returns a journal head signature. (R476) -/
  | getJournalSig
  /-- GET_CERT: Mailbox request 0x05 returns the device certificate. (R476) -/
  | getCert
  /-- ALS_RESTART: Mailbox request 0x06 gives one manual ALS restart or test pulse. (R476) -/
  | alsRestart
  /-- UNKNOWN_MBX_REQ: An unlisted mailbox REQ returns UNKNOWN_REQ. (R476) -/
  | unknownMbxReq
  /-- MBX_IN: A write to PLN.MBX_IN appends 4 input bytes. (R475) -/
  | mbxIn (o : Origin) (w : Word)
  /-- MBX_OUT_READ: A read of PLN.MBX_OUT returns the next 4 result bytes and advances. (R475) -/
  | mbxOutRead (o : Origin)
  /-- ALARM_ACTION: On TAP_ALARM or TAG_BURST the Plinth takes the configured alarm action. (R468) -/
  | alarmAction (c : Carrier) (tap : Bool)
  /-- ALS_SHUTDOWN: LOS holds for DETECT of emitting time and the ALS hold is set. (R469) -/
  | alsShutdown (c : Carrier)
  /-- ALS_PULSE_START: Every PERIOD from shutdown the ALS hold is released for a restart pulse. (R469) -/
  | alsPulseStart (c : Carrier)
  /-- ALS_PULSE_END: A restart or test pulse ends and the ALS hold is set again. (R469) -/
  | alsPulseEnd (c : Carrier)
  /-- ALS_RECOVERY: LOS clears and the ALS hold is released for good. (R469) -/
  | alsRecovery (c : Carrier)
  /-- TAMPER_INPUT: An enabled tamper input becomes active, latches and zeroises. (R471) -/
  | tamperInput (i : Fin 4)
  /-- ZEROISE_PIN: ZEROISE_N held low for 1 µs zeroises the device. (R470) -/
  | zeroisePin
  /-- TEST_PORT_EXPIRY: The test port's opening time runs out and it closes. (R472) -/
  | testPortExpiry
  /-- RK0_HEARTBEAT_CHECK: An HB_PERIOD passes without an RK0 heartbeat, or RK0 faults, and recovery begins. (R473) -/
  | rk0HeartbeatCheck
  /-- RK0_RECOVERY_RESET: The Plinth resets RK0 and awaits its heartbeat, escalating after three failures. (R473) -/
  | rk0RecoveryReset
  /-- RK0_RECOVERY_END: The first good heartbeat ends the fail-closed hold; 600 s clears the count. (R473) -/
  | rk0RecoveryEnd
  /-- LOCKSTEP_FAIL: A lockstep mismatch or Plinth SRAM UE blanks, disables lasers and clears keys in hardware. (R474)
  -/
  | lockstepFail
  /-- HK_SEQUENCE: A trigger starts a housekeeping conversion sequence, or is counted as overrun. (R479) -/
  | hkSequence (n : Fin 2) (src : Fin 3) (refs temps : Int × Int)
  /-- HK_START: A START strobe starts a housekeeping sequence. (R479) -/
  | hkStart (o : Origin) (n : Fin 2) (readings : List Int)
  /-- HK_SEQUENCE_DONE: A sequence completes, its results written and SEQ_DONE raised. (R479) -/
  | hkSequenceDone (n : Fin 2) (codes : List (List Int)) (refs temps : Int × Int)
  /-- URG_GO: A GO to URG_CTL converts an input urgently or is dropped. (R481) -/
  | urgGo (o : Origin) (n : Fin 2) (input : BitVec 5) (readings : List Int)
  /-- HK_CALIBRATION: HK offset and gain are calibrated at start, by period or on temperature change. (R498) -/
  | hkCalibration (n : Fin 2) (ends : Bool) (offset gain : List (Int × Int)) (refs temps : Int × Int)
  /-- AUX_STEP: At each INTERVAL a channel's output moves toward TARGET or the clear code. (R490) -/
  | auxStep (n : Fin 16)
  /-- AUX_RANGE_CHANGE: A RANGE change drives the clear code and starts a 20 µs hold. (R491) -/
  | auxRangeChange (n : Fin 16)
  /-- RANGE_DONE: A range hold ends and the channel slews to TARGET. (R491) -/
  | rangeDone (n : Fin 16)
  /-- AUXCLR_PIN: AUXCLR_N falls or rises, clearing or releasing every channel. (R492) -/
  | auxclrPin (low : Bool)
  /-- AUX_LADDER_CAL: The first EN after 24 hours calibrates a channel's ladder before enabling it. (R498) -/
  | auxLadderCal (n : Fin 16) (ms : List (Int × Int))
  /-- CAL_MEASUREMENT: An item is measured twice and its trim accepted or rejected. (R497) -/
  | calMeasurement (item unit sub : Nat) (m1 m2 : Int)
  /-- CAL_STORE: The calibration set is committed to MRAM by period, request or shutdown. (R499) -/
  | calStore
  /-- STORE_NOW: A write of STORE_NOW to CAL.CTL requests a calibration commit. (R499) -/
  | storeNow (o : Origin)
  /-- PWR_REQ: A write to PWR.REQ.STATE starts, merges or queues a power-state transition. (R504) -/
  | pwrReq (o : Origin) (state : BitVec 3)
  /-- PWR_ENTRY_ACTION: The action phase of a Sleep or Deep sleep entry runs to completion. (R507) -/
  | pwrEntryAction
  /-- PWR_EXIT: An exit to Run reverses the sleep steps and restarts recorded pages. (R508) -/
  | pwrExit (counts : Nat)
  /-- PWR_TRANSITION_END: A transition ends and any pending request is taken. (R504) -/
  | pwrTransitionEnd
  /-- ORDERLY_SHUTDOWN: Entry to Off persists state, runs the shutdown test and sets OFF_READY. (R509) -/
  | orderlyShutdown (results : List (Option (Nat × Nat)))
  /-- WAKE_SOURCE: An enabled wake source requests Run. (R510) -/
  | wakeSource (source : Fin 7)
  /-- WAKE_IN_PIN: WAKE_IN held low for 10 µs wakes the device. (R510) -/
  | wakeInPin
  /-- PWRGD_LOW: PWRGD low for over 1 µs resets everything outside VDD_AON. (R511) -/
  | pwrgdLow
  /-- AVS_ACK: The regulator acknowledges a voltage request and the next may follow after STEP_GAP. (R513) -/
  | avsAck
  /-- AVS_RETRY: A request unacknowledged after 2 ms is retried, faulting on the third failure. (R513) -/
  | avsRetry
  /-- REG_FAULT_POLL: Once a second a Voltage read checks the held voltage and may clear REG_FAULT. (R515) -/
  | regFaultPoll (within : Bool)
  /-- GOVERNOR_EVAL: Once per EVAL the governor reads danger counters and adjusts the VDD target. (R517) -/
  | governorEval
  /-- LREF_LOSS: Loss of LREF switches TB to the backup oscillator. (R520) -/
  | lrefLoss
  /-- LREF_RETURN: LREF present for 1 ms returns TB to LREF. (R520) -/
  | lrefReturn
  /-- AON_OSC_TRIM: Once per second in Run the always-on oscillator is trimmed against LREF. (R521) -/
  | aonOscTrim (trim : Int)
  /-- TB_SET: A write of SET to TB.CTL loads the time base and appends a TB_SET marker. (R522) -/
  | tbSet (o : Origin)
  /-- TB_ALARM: The count reaches the alarm time and ALARM is raised. (R523) -/
  | tbAlarm
  /-- PPS_EDGE: A PPS_IN edge measures error, slews, steps or loads the time base. (R524) -/
  | ppsEdge
  /-- PPS_LOST: No PPS edge for 2 s clears PPS_LOCK. (R524) -/
  | ppsLost
  /-- PPS_NEXT_WRITE: A write to TB.PPS_NEXT arms the next edge to load the seconds. (R524) -/
  | ppsNextWrite (o : Origin) (sec : Word)
  /-- PPS_OUT_PULSE: PPS_OUT rises at each whole second while enabled and valid. (R525) -/
  | ppsOutPulse
  /-- OD_GO: A write of OD_GO starts an on-demand test of a block or is refused. (R537) -/
  | odGo (o : Origin) (b : BitVec 6)
  /-- OD_TEST_END: An on-demand test ends, the block's registers reset and a record is committed. (R539) -/
  | odTestEnd (result : Option (Nat × Nat))
  /-- OD_DENIED_READ: A read of a page under test returns all ones and is journalled as denied. (R538) -/
  | odDeniedRead (o : Origin) (p : Page) (off : BitVec 10)
  /-- DEVICE_START: PWRGD rising with rails in range runs the start-up sequence to host-ready. (R552) -/
  | deviceStart (report : StartReport)
  /-- TRIAL_SUCCESS: RK0 keeps its heartbeat 60 s after host-ready and the pending slot becomes active. (R556) -/
  | trialSuccess
  /-- TRIAL_FAIL: The trial start misses host-ready or RK0 escalates and the device resets. (R556) -/
  | trialFail
  /-- ONLINE_CORE_RELOAD: During online activation one core is stopped, reloaded from the target slot and run. (R557)
  -/
  | onlineCoreReload
  /-- ONLINE_ACTIVATION_COMMIT: 60 s of RK0 heartbeat after online activation commits the active slot. (R557) -/
  | onlineActivationCommit
  /-- RK0_ESCALATION_RESET: The third failed RK0 reset blanks both carriers and resets the device. (R473) -/
  | rk0EscalationReset
  /-- SKEW_SLEW: At each symbol block boundary the applied TXP or TRC skew moves up to 0.1 ps toward its target.
  (R104) -/
  | skewSlew (c : Carrier) (receive : Bool)
  /-- SNAPSHOT_END: SNAP.US µs after it started, a raw snapshot ends and the armed lanes stop capturing. (R322) -/
  | snapshotEnd
  /-- KQ_ERASE: 10 s after the first message accepted under epoch e + 1, the receiver erases KQ(e) and stops accepting
  MACs under it. (R254) -/
  | kqErase (k : Carrier)
  /-- ZEROISE_N_RELEASE: ZEROISE_N returns high, the cause clears, the private keys are derived again and handshakes
  may start. (R470) -/
  | zeroiseNRelease
  /-- TAMPER_INPUT_CLEAR: An enabled tamper input returns to its inactive level, clearing its TAMPER_IN bit so that a
  RELEASE of the latch can be accepted. (R471) -/
  | tamperInputClear (i : Fin 4)
  /-- VDD_AON_LOSS: Loss of VDD_AON clears every always-on setting, latch, alarm and count, so the next start is a
  power-on. (R567) -/
  | vddAonLoss
  /-- PERST_N_ASSERT: PERST_N asserted resets the host link's PHY and link layers only, taking the link down. (R551)
  -/
  | perstNAssert
  /-- HOST_LINK_UP: Host link training completes, the link comes up at the negotiated rate and width, and LINK_UP is
  raised. (R357) -/
  | hostLinkUp (rate : Fin 5) (width : Fin 4) (mem : Bool)
  /-- LANE_MARGINING_COMMAND: A PCIe Lane Margining at the Receiver command from the host uses the lane's offset
  sampler, or is answered busy while a scan runs. (R352) -/
  | laneMarginingCommand (lane : Fin 8) (begins : Bool)
  /-- MSIX_UNMASK: The host unmasks an MSI-X vector or the function whose pending bit is set, and the held message is
  sent. (R367) -/
  | msixUnmask (vector : Option (Fin 64))
  /-- IN_SERVICE_SECONDS_UPDATE: Every 60 s the device updates the in-service seconds word in the keep store. (R449)
  -/
  | inServiceSecondsUpdate
  /-- ONLINE_ACTIVATION_BUSY: Online activation finds a step, activation or switch still pending after 10 s and ends
  with Busy, changing nothing. (R557) -/
  | onlineActivationBusy
  deriving DecidableEq, Repr

end Sys2Proof
end

