-- ==== Sys2Proof/Decode.lean ====
section
/-! DEFINITION. Decode.lean: the command a word spells by the table's bits. -/
namespace Sys2Proof

/-- The command a word of `nbits` bits spells.  spec/opcode_table.json gives the bits of no row: the commands are accesses
and occurrences, not words, so no word spells one. -/
def decodeTableWord (nbits w : Nat) : Option Instr :=
  match nbits, w with
  | _, _ => none

end Sys2Proof
end

