-- ==== Sys2Proof/Config.lean ====
section
/-! DEFINITION. Config.lean: what one device fixes (its identity and keys) and what the spec names without giving its
body: the cryptographic standards of R7 and the 802.3 block forms of R333.  Each is a constant with no body, so every
statement about the model holds whatever its value.  `freeValue` is the source of the free values: a value the spec
leaves open is this constant applied to a counter of the state and to a width. -/
namespace Sys2Proof.Config

open Sys2Proof (Byte)

/-- A value the spec leaves open: the `n`-th draw.  Log entry 2. -/
opaque freeValue : Nat → Nat

/-- SHAKE256 of FIPS 202 over a byte string, as an `n`-bit value whose lowest byte is the first output byte. -/
opaque shake256 (n : Nat) : List Byte → BitVec n

/-- KMAC256 of SP 800-185: key, data, customization; a 256-bit tag, first byte lowest. -/
opaque kmac256 : List Byte → List Byte → List Byte → BitVec 256

/-- AES-256-GCM of SP 800-38D: ciphertext and tag from key, IV, additional data and plaintext. -/
opaque gcmSeal : BitVec 256 → BitVec 96 → BitVec 128 → BitVec 131584 → BitVec 131584 × BitVec 128

/-- AES-256-GCM: the plaintext when the tag verifies, from key, IV, additional data, ciphertext and tag. -/
opaque gcmOpen : BitVec 256 → BitVec 96 → BitVec 128 → BitVec 131584 → BitVec 128 → Option (BitVec 131584)

/-- ML-KEM-1024 of FIPS 203: a public key from a seed. -/
opaque kemPublic : BitVec 512 → List Byte

/-- ML-KEM-1024: encapsulation, ciphertext and shared secret from a public key and randomness. -/
opaque kemEncap : List Byte → BitVec 256 → List Byte × BitVec 256

/-- ML-KEM-1024: decapsulation, the shared secret from the private seed and a ciphertext. -/
opaque kemDecap : BitVec 512 → List Byte → BitVec 256

/-- ML-DSA-65 of FIPS 204: a signature under the device's identity key. -/
opaque sign : List Byte → List Byte

/-- ML-DSA-65: whether a signature over a message verifies under a public key. -/
opaque verify : List Byte → List Byte → List Byte → Bool

/-- The deterministic random bit generator of the Plinth: the `n`-th draw. -/
opaque drbg : Nat → BitVec 512

/-- The device identity (R457). -/
opaque deviceId : BitVec 256

/-- The unique device secret (R457). -/
opaque uds : List Byte

/-- The device certificate (R459). -/
opaque certificate : List Byte

/-- The Ululyn device CA key, entry 0 of the trust store from manufacture (R458). -/
opaque deviceCa : List Byte

/-- M0, the digest of the boot ROM, and M1, that of Plinth firmware image `n` (R460). -/
opaque bootRom : BitVec 256
opaque plinthImage : Nat → BitVec 256

/-- AES key wrap of SP 800-38F: the value a wrapped block holds under a key, if it unwraps. -/
opaque keyUnwrap : BitVec 256 → List Byte → Option (BitVec 256)

/-- The TYPE a security-log record kind carries; the spec lists the kinds without codes (R466). -/
opaque recordType : Nat → Nat

/-- The error control block of R333 (802.3 transcoding, not given in the spec). -/
opaque errorControlBlock : BitVec 257

/-- The next bit of a checked pattern, 0 PRBS13Q or 1 PRBS31Q, from the bits before it, newest first (802.3dj, not given in the
spec, R350). -/
opaque patternNext : Nat → List Bool → Bool

/-- The local fault block of R333. -/
opaque localFaultBlock : BitVec 257

/-- The trim step of a calibration item in thousandths of the unit its tolerance is stated in, less one (R497); the spec
states it for the ADC items alone. -/
opaque trimStep : Nat → Nat

/-- A power in units of 0.01 nW, in units of 0.001 dBm (R310). -/
opaque milliDbm : Nat → Int

/-- A half-band stage of R311 over its 19 latest samples, newest first; the spec states its response, not its taps. -/
opaque halfBandTaps : List Int → Int

/-- The channel group (R418) and the DRAM row (R426) of an LPDDR5X line; the spec states that channels interleave and a row
holds lines, not the mapping. -/
opaque channelGroup : Nat → Nat
opaque rowOfLine : Nat → Nat

/-- The Ululyn firmware key, which Reckoner supervisor images are signed with (R395). -/
opaque firmwareKey : List Byte

/-- Pattern count and signature the boot ROM holds for a test block (R532). -/
opaque bistPatterns : Nat → Nat
opaque bistSignature : Nat → Nat

/-- The parts of a firmware bundle ("Firmware activation"): the image of each core, by core number, RK6's user image at 8, and
the Plinth firmware; the spec names the parts, not the bundle's layout. -/
opaque firmwareImages : List Byte → List (Option (List Byte))
opaque firmwarePlinth : List Byte → Nat

/-- The stored form of a tap-detection signature in TAPSIG (R315), by its means, shares and percentile. -/
opaque tapRecord : List Int → List Nat → Int → List Byte

/-- The oFEC encoder of the OpenZR+ MSA (R200): from its memory (0: all-zero) and the 1,776 information bits of a block, the
memory after it and the block's 2,048 coded bits in the order they are sent; the earliest bit is the most significant. -/
opaque ofecEncode : Nat → BitVec 1776 → Nat × BitVec 2048

/-- The root-raised-cosine response of R102 for a roll-off code, at a time in 1/60000 symbol from its centre, in units of
2^-16; the spec names the filter and its span, not its scale or its precision. -/
opaque rrcTap : Nat → Int → Int

/-- One symbol block of the loop that steers SYN_x (R115): the next offset, from LOOP_BW, the symbol rate in GBd, the present
offset and the measured one, in 0.001 ppm; the spec states the bandwidths, not the loop's order. -/
opaque loopStep : Nat → Nat → Int → Int → Int

/-- Tolerance, and trim step less one, of a sub-DAC or multiplexer trim (R112), by item 0 to 9. -/
opaque muxTolerance : Nat → Nat
opaque muxStep : Nat → Nat

/-- The oFEC decoder of the OpenZR+ MSA (R200): from the iterations, its memory and the LLRs of its window from the block's first
bit on, the block. -/
opaque ofecDecode : Nat → Nat → List Int → DecodedBlock

/-- Component codewords of an observation that are consistent for a block start `k` bits into it (R204). -/
opaque ofecConsistent : Nat → List Int → Nat

/-- How far the traceback of the pilot channel's Viterbi decoder goes beyond the 96 information bits of R251. -/
opaque tracebackExtra : Nat

/-- One pilot of the frequency loop of CPR_x (R176): the next frequency and integrator, from FO_BW, the symbol rate in GBd, the
present ones and the phase change; the spec states the bandwidths, not the gains. -/
opaque foLoop : Nat → Nat → Int → Int → Int → Int × Int

/-- One LMS update of a gain or tail of MLS_x (R190): the next value, from the present one, the summed gradient and the number of
symbols; the spec states no step. -/
opaque mlsStep : Int → Int → Nat → Int

/-- The channel estimates of R158 at a symbol rate in GBd, from the 164 taps of the active bank, and for the SOP rate those of the
estimate before; the spec names the quantities, not their formation. -/
opaque channelDgd : Nat → List (Int × Int) → Nat
opaque channelSop : Nat → List (Int × Int) → List (Int × Int) → Nat
opaque channelCd : Nat → List (Int × Int) → Int

/-- The share of polarisation X in the received power, in 1/65,536, by the inverse Jones matrix of the active taps (R310); the spec does
not give its formation. -/
opaque channelShare : List (Int × Int) → Nat

end Sys2Proof.Config
end

