-- ==== Sys2Proof/Machine/Bits.lean ====
section
/-! DEFINITION. Machine/Bits.lean: bit fields of a word, two's-complement readings, saturation, byte order, cyclic
redundancy codes and the pseudo-random sequences of the spec. -/
namespace Sys2Proof.Machine

open Sys2Proof (Word Byte)

/-- Bits `lo .. lo+width-1` of a word, as a number. -/
def extract (w : Word) (lo width : Nat) : Nat := (w.toNat >>> lo) % 2 ^ width

/-- The word with ones in bits `lo .. lo+width-1`. -/
def fieldMask (lo width : Nat) : Word := BitVec.ofNat 32 ((2 ^ width - 1) <<< lo)

/-- Replace bits `lo .. lo+width-1` of a word by the low bits of `v`. -/
def deposit (w : Word) (lo width v : Nat) : Word :=
  (w &&& ~~~ fieldMask lo width) ||| BitVec.ofNat 32 ((v % 2 ^ width) <<< lo)

/-- Two's-complement value of the low `width` bits of `v`. -/
def toSigned (width v : Nat) : Int :=
  let u := v % 2 ^ width
  if u < 2 ^ (width - 1) then (u : Int) else (u : Int) - 2 ^ width

/-- The low `width` bits of an integer. -/
def ofSigned (width : Nat) (i : Int) : Nat := (i % 2 ^ width).toNat

/-- Clamp an integer to `lo .. hi`. -/
def clamp (lo hi i : Int) : Int := if i < lo then lo else if i > hi then hi else i

/-- Clamp an integer to the signed range of `width` bits. -/
def satSigned (width : Nat) (i : Int) : Int := clamp (-(2 ^ (width - 1))) (2 ^ (width - 1) - 1) i

/-- A truth value as a bit. -/
def bit (b : Bool) : Nat := if b then 1 else 0

/-- Bit `i` of a number. -/
def testBit (v i : Nat) : Bool := (v >>> i) % 2 = 1

/-- A number with bit `i` set. -/
def setBit (v i : Nat) : Nat := v ||| (1 <<< i)

/-- A number with bit `i` cleared. -/
def clearBit (v i : Nat) : Nat := if testBit v i then v - 2 ^ i else v

/-- Little-endian bytes of a number. -/
def leBytes : Nat → Nat → List Byte
  | 0, _ => []
  | n + 1, v => BitVec.ofNat 8 v :: leBytes n (v / 256)

/-- The number little-endian bytes spell. -/
def ofLeBytes : List Byte → Nat
  | [] => 0
  | b :: bs => b.toNat + 256 * ofLeBytes bs

/-- Big-endian bytes of a number. -/
def beBytes (n v : Nat) : List Byte := (leBytes n v).reverse

/-- The number big-endian bytes spell. -/
def ofBeBytes (bs : List Byte) : Nat := ofLeBytes bs.reverse

/-- Bits of a number, most significant first. -/
def msbBits (n v : Nat) : List Bool := (List.range n).map fun i => testBit v (n - 1 - i)

/-- Bits of a number, least significant first. -/
def lsbBits (n v : Nat) : List Bool := (List.range n).map fun i => testBit v i

/-- The number bits spell, most significant first. -/
def ofMsbBits (bs : List Bool) : Nat := bs.foldl (fun a b => 2 * a + bit b) 0

/-- The number bits spell, least significant first. -/
def ofLsbBits (bs : List Bool) : Nat := ofMsbBits bs.reverse

/-- One step of a cyclic redundancy code of `width` bits with generator `poly`, most significant bit first. -/
def crcStep (width poly : Nat) (r : Nat) (b : Bool) : Nat :=
  let top := testBit r (width - 1)
  let r' := (2 * r) % 2 ^ width
  if top != b then r' ^^^ poly else r'

/-- A cyclic redundancy code over bits in order, without reflection. -/
def crcBits (width poly init xorOut : Nat) (bs : List Bool) : Nat := (bs.foldl (crcStep width poly) init) ^^^ xorOut

/-- Sum of a list of numbers. -/
def sumNat (l : List Nat) : Nat := l.foldl (· + ·) 0

/-- Number of true values in a list. -/
def countTrue (l : List Bool) : Nat := (l.filter id).length

/-- Round-half-up division. -/
def divRound (a b : Nat) : Nat := (2 * a + b) / (2 * b)

/-- An arithmetic shift right by `n` that rounds to the nearest value, halves toward plus infinity. -/
def asrRound (i : Int) (n : Nat) : Int := if n = 0 then i else (i + 2 ^ (n - 1)) / 2 ^ n

end Sys2Proof.Machine
end

