-- ==== Sys2Proof/Machine/Events.lean ====
section
/-! DEFINITION. Machine/Events.lean: the event bits of every page, named PAGE.EVT.NAME as the manual names them (R96,
R122, R145, R173, R199, R216, R218, R245, R270, R288, R307, R309, R345, R355, R372, R401, R413, R456, R477, R488, R495,
R544, R545, R547 and the event sentence of each other chapter). -/
namespace Sys2Proof.Machine

/-! GLB -/
def GLB.EVT.LOCK_ACHIEVED : Nat := 0
def GLB.EVT.LOCK_LOST : Nat := 1

/-! CJ -/
def CJ.EVT.SIGNED : Nat := 0
def CJ.EVT.LOSS : Nat := 1
def CJ.EVT.RESERVE : Nat := 2
def CJ.EVT.BOOT_UNCLEAN : Nat := 3

/-! PWR -/
def PWR.EVT.STATE_CHG : Nat := 0
def PWR.EVT.REFUSED : Nat := 1
def PWR.EVT.SUPERSEDED : Nat := 2
def PWR.EVT.REG_FAIL : Nat := 3
def PWR.EVT.OFF_READY : Nat := 4

/-! TB -/
def TB.EVT.SET : Nat := 0
def TB.EVT.ALARM : Nat := 1
def TB.EVT.PPS_LOCK : Nat := 2
def TB.EVT.PPS_LOST : Nat := 3
def TB.EVT.PPS_STEP : Nat := 4
def TB.EVT.LREF_LOSS : Nat := 5

/-! CAL -/
def CAL.EVT.CAL_REJECT : Nat := 0
def CAL.EVT.STORED : Nat := 1
def CAL.EVT.LOAD_NONE : Nat := 2

/-! BST -/
def BST.EVT.OD_DONE : Nat := 0
def BST.EVT.SD_FAIL : Nat := 1
def BST.EVT.STARTUP_RAN : Nat := 2
def BST.EVT.BLOCK_FAIL : Nat := 3

/-! HK -/
def HK.EVT.SEQ_DONE : Nat := 0
def HK.EVT.TRIG_OVR : Nat := 1
def HK.EVT.URG_DONE : Nat := 2
def HK.EVT.URG_DROP : Nat := 3
def HK.EVT.OVR : Nat := 4
def HK.EVT.PLAUS : Nat := 5

/-! AUX -/
def AUX.EVT.CLR_PIN : Nat := 0
def AUX.EVT.RANGE_DONE : Nat := 1
def AUX.EVT.SLEW_DONE : Nat := 2

/-! TEL -/
def TEL.EVT.SYNC : Nat := 0
def TEL.EVT.TAP_ALARM_A : Nat := 1
def TEL.EVT.TAP_ALARM_B : Nat := 2
def TEL.EVT.OVR : Nat := 3
def TEL.EVT.LEARN_DONE : Nat := 4

/-! FES -/
def FES.EVT.STATE_A : Nat := 0
def FES.EVT.STATE_B : Nat := 1
def FES.EVT.TX_REFUSED_A : Nat := 2
def FES.EVT.TX_REFUSED_B : Nat := 3
def FES.EVT.FAULT_A : Nat := 4
def FES.EVT.FAULT_B : Nat := 5
def FES.EVT.TIA_LIMIT : Nat := 6
def FES.EVT.TIA_SPLIT : Nat := 7
def FES.EVT.FO_MARGIN : Nat := 8
def FES.EVT.CMIS_DONE : Nat := 9
def FES.EVT.MOD_INT : Nat := 10

/-! RPS -/
def RPS.EVT.ALIGNED : Nat := 0
def RPS.EVT.ALIGN_LOST : Nat := 1
def RPS.EVT.ACTIVE_CHG : Nat := 2
def RPS.EVT.BOTH_FAIL : Nat := 3
def RPS.EVT.REALIGN : Nat := 4
def RPS.EVT.DRAM_ON : Nat := 5
def RPS.EVT.SW_DONE : Nat := 6
def RPS.EVT.SW_UNILATERAL : Nat := 7

/-! CAST -/
def CAST.EVT.TRIGGER : Nat := 0
def CAST.EVT.EXTEND : Nat := 1
def CAST.EVT.COMMITTED : Nat := 2
def CAST.EVT.TRIG_IGN : Nat := 3
def CAST.EVT.SNAP_SKIP : Nat := 4
def CAST.EVT.RING_DROP : Nat := 5
def CAST.EVT.LOST : Nat := 6

/-! ARC -/
def ARC.EVT.MEDIA_CHG : Nat := 0
def ARC.EVT.GROWN_BAD : Nat := 1
def ARC.EVT.UE : Nat := 2
def ARC.EVT.TIMEOUT : Nat := 3
def ARC.EVT.TARGET_FAIL : Nat := 4
def ARC.EVT.LIFE_LOW : Nat := 5
def ARC.EVT.THIN_CHG : Nat := 6
def ARC.EVT.FORMAT_DONE : Nat := 7

/-! LPM -/
def LPM.EVT.CE : Nat := 0
def LPM.EVT.UE : Nat := 1
def LPM.EVT.HARD_REMAP : Nat := 2
def LPM.EVT.HARD_NOREMAP : Nat := 3
def LPM.EVT.LAP_SLOW : Nat := 4
def LPM.EVT.LINK_ERR : Nat := 5

/-! ECC -/
def ECC.EVT.CE : Nat := 0
def ECC.EVT.UE : Nat := 1
def ECC.EVT.HARD_REMAP : Nat := 2
def ECC.EVT.HARD_NOREMAP : Nat := 3
def ECC.EVT.LAP_SLOW : Nat := 4
def ECC.EVT.CHK_FAIL : Nat := 5

/-! MRM -/
def MRM.EVT.TORN : Nat := 0
def MRM.EVT.SLOT_LOST : Nat := 1
def MRM.EVT.UE : Nat := 2

/-! QLT -/
def QLT.EVT.SESSION_UP : Nat := 0
def QLT.EVT.SESSION_DOWN : Nat := 1
def QLT.EVT.HS_FAIL : Nat := 2
def QLT.EVT.STEP_DONE : Nat := 3
def QLT.EVT.FALLBACK : Nat := 4
def QLT.EVT.STEP_REFUSED : Nat := 5
def QLT.EVT.WAKE_RX : Nat := 6
def QLT.EVT.RETX_EXHAUSTED : Nat := 7
def QLT.EVT.AUTH_FAIL : Nat := 8
def QLT.EVT.ROLE_CONFLICT : Nat := 9

/-! LRX -/
def LRX.EVT.CLIP : Nat := 0
def LRX.EVT.FAST_STEP : Nat := 1
def LRX.EVT.GAIN_LIMIT : Nat := 2
def LRX.EVT.CAL_DONE : Nat := 3
def LRX.EVT.CAL_FAIL : Nat := 4
def LRX.EVT.SLICE_RETIRED : Nat := 5
def LRX.EVT.HIST_DONE : Nat := 6
def LRX.EVT.SNAP_TRUNC : Nat := 7

/-! LTX -/
def LTX.EVT.CLIP : Nat := 0
def LTX.EVT.CAL_DONE : Nat := 1
def LTX.EVT.CAL_FAIL : Nat := 2

/-! SYN -/
def SYN.EVT.LOCK : Nat := 0
def SYN.EVT.UNLOCK : Nat := 1
def SYN.EVT.CAL_FAIL : Nat := 2

/-! TXP -/
def TXP.EVT.TX_SLIP : Nat := 0
def TXP.EVT.XFADE_DONE : Nat := 1
def TXP.EVT.XFADE_REFUSED : Nat := 2
def TXP.EVT.PCH_UNDERRUN : Nat := 3
def TXP.EVT.HOLDOVER : Nat := 4
def TXP.EVT.GATE_CHANGE : Nat := 5

/-! CDC -/
def CDC.EVT.SLIP : Nat := 0
def CDC.EVT.SCAN_DONE : Nat := 1
def CDC.EVT.SCAN_FAIL : Nat := 2
def CDC.EVT.CD_RANGE : Nat := 3

/-! TRC -/
def TRC.EVT.LOCK : Nat := 0
def TRC.EVT.LOCK_LOST : Nat := 1
def TRC.EVT.RANGE : Nat := 2
def TRC.EVT.SKEW_SET : Nat := 3

/-! EQZ -/
def EQZ.EVT.ACQ_TRACK : Nat := 0
def EQZ.EVT.ACQ_LOST : Nat := 1
def EQZ.EVT.ACQ_RESTART : Nat := 2
def EQZ.EVT.SINGULARITY : Nat := 3
def EQZ.EVT.XFADE_DONE : Nat := 4
def EQZ.EVT.XFADE_REFUSED : Nat := 5
def EQZ.EVT.WRONG_CARRIER : Nat := 6
def EQZ.EVT.SNAP_DONE : Nat := 7

/-! CPR -/
def CPR.EVT.FO_RANGE : Nat := 0
def CPR.EVT.PH_LOCK : Nat := 1
def CPR.EVT.PH_LOST : Nat := 2
def CPR.EVT.CYCLE_SLIP : Nat := 3
def CPR.EVT.SLIP_UNRES : Nat := 4
def CPR.EVT.PCH_OVF : Nat := 5
def CPR.EVT.FO_LOCK : Nat := 6

/-! MLS -/
def MLS.EVT.TRELLIS_RESET : Nat := 0
def MLS.EVT.H1_LIMIT : Nat := 1

/-! DMP -/
def DMP.EVT.ERASE : Nat := 0
def DMP.EVT.SNR_LOW : Nat := 1

/-! FEC -/
def FEC.EVT.LOCK : Nat := 0
def FEC.EVT.LOCK_LOST : Nat := 1
def FEC.EVT.UNCORR : Nat := 2
def FEC.EVT.SD : Nat := 3
def FEC.EVT.SF : Nat := 4
def FEC.EVT.WIN_DONE : Nat := 5

/-! LFM -/
def LFM.EVT.CSF_WRAP : Nat := 0
def LFM.EVT.JUST_SAT : Nat := 1
def LFM.EVT.JUST_OVF : Nat := 2
def LFM.EVT.BLANK_ON : Nat := 3
def LFM.EVT.FRAME_SYNC : Nat := 4
def LFM.EVT.LOF : Nat := 5
def LFM.EVT.HCS_ERR : Nat := 6
def LFM.EVT.MISMATCH : Nat := 7
def LFM.EVT.FECBAD : Nat := 8
def LFM.EVT.SEQ_JUMP : Nat := 9
def LFM.EVT.BLANK_RX : Nat := 10

/-! CRY -/
def CRY.EVT.ACTIVATED : Nat := 0
def CRY.EVT.ACT_ABORT : Nat := 1
def CRY.EVT.TAG_FAIL : Nat := 2
def CRY.EVT.TAG_BURST : Nat := 3
def CRY.EVT.NOKEY : Nat := 4
def CRY.EVT.EXPIRED : Nat := 5
def CRY.EVT.GUARD_BLANK : Nat := 6
def CRY.EVT.KAT_FAIL : Nat := 7
def CRY.EVT.REPLAY : Nat := 8

/-! CPC -/
def CPC.EVT.ING_UP : Nat := 0
def CPC.EVT.ING_DOWN : Nat := 1
def CPC.EVT.EGR_FAULT : Nat := 2
def CPC.EVT.EGR_CLEAR : Nat := 3
def CPC.EVT.ADMIT_CHG : Nat := 4
def CPC.EVT.CAL_ERR : Nat := 5
def CPC.EVT.ING_OVF : Nat := 6
def CPC.EVT.EGR_UNDER : Nat := 7

/-! CLX -/
def CLX.EVT.RX_READY : Nat := 0
def CLX.EVT.RX_LOST : Nat := 1
def CLX.EVT.EI_EXIT : Nat := 2
def CLX.EVT.CHK_SYNC : Nat := 3
def CLX.EVT.CHK_LOST : Nat := 4
def CLX.EVT.EYE_DONE : Nat := 5

/-! HLK -/
def HLK.EVT.LINK_UP : Nat := 0
def HLK.EVT.LINK_DOWN : Nat := 1
def HLK.EVT.SPEED_CHG : Nat := 2
def HLK.EVT.MBOX_DONE : Nat := 3
def HLK.EVT.CXL_EVENT : Nat := 4
def HLK.EVT.CREDIT_STALL : Nat := 5
def HLK.EVT.IDE_CHG : Nat := 6
def HLK.EVT.WR_DROP : Nat := 7
def HLK.EVT.EYE_DONE : Nat := 8

/-! RK -/
def RK.EVT.BREAK : Nat := 0
def RK.EVT.DOUBLE_FAULT : Nat := 1
def RK.EVT.LOAD_DONE : Nat := 2
def RK.EVT.LOAD_FAIL : Nat := 3
def RK.EVT.DMA_DONE : Nat := 4
def RK.EVT.DMA_HALT : Nat := 5
def RK.EVT.UE_TRAP : Nat := 6
def RK.EVT.HALTED : Nat := 7

/-! TLY -/
def TLY.EVT.OVF : Nat := 0
def TLY.EVT.SAMPLE_FULL : Nat := 1

/-! ARM -/
def ARM.EVT.VC_VIOLATION : Nat := 0
def ARM.EVT.SEM_FORCED : Nat := 1
def ARM.EVT.OVF : Nat := 2

/-! PLN -/
def PLN.EVT.MBX_DONE : Nat := 0
def PLN.EVT.CAPSULE : Nat := 1
def PLN.EVT.ZEROISED : Nat := 2
def PLN.EVT.TAMPER : Nat := 3
def PLN.EVT.HOLD_CHG : Nat := 4
def PLN.EVT.ALS : Nat := 5
def PLN.EVT.RK0_FAIL : Nat := 6
def PLN.EVT.TEST_PORT : Nat := 7

end Sys2Proof.Machine
end

