-- ==== Sys2Proof/Machine/Fields.lean ====
section
/-! DEFINITION. Machine/Fields.lean: every register field of the page tables of the spec (one definition per field,
named PAGE.REGISTER.FIELD as the manual names it), its offset, bits, access class (R44), reset value and, for register
arrays, count and stride.  The common header of R38 stands first. -/
namespace Sys2Proof.Machine

/-- The access classes of R44. -/
inductive Access where
  | ro | rwL | rwS | w1c | wo | po
  deriving DecidableEq, Repr

/-- A register field: byte offset in the page of its first instance, lowest bit, width, access class, reset values
(the last one repeats over the remaining instances), number of instances and their distance in bytes. -/
structure Field where
  off : Nat
  lo : Nat
  width : Nat
  acc : Access
  resets : List Nat
  count : Nat
  stride : Nat
  deriving DecidableEq, Repr

/-- The field in instance `i` of its register array. -/
def Field.at (f : Field) (i : Nat) : Field := { f with off := f.off + f.stride * i, resets := f.resets.drop (min i (f.resets.length - 1)), count := 1 }

/-! The common page header (R38-R43, R46, R68). The reset values of PAGE_ID, PAGE_CAP, RUNSTAT.STATE and OWNER are per page (`headerReset`). -/

def HDR.PAGE_ID.ID : Field := ⟨0x000, 0, 32, .ro, [0], 1, 4⟩
def HDR.PAGE_CAP.CAP : Field := ⟨0x004, 0, 32, .ro, [0], 1, 4⟩
def HDR.RUNCTL.CMD : Field := ⟨0x008, 0, 2, .wo, [0], 1, 4⟩
def HDR.RUNSTAT.FAULT : Field := ⟨0x00C, 8, 1, .ro, [0], 1, 4⟩
def HDR.RUNSTAT.STATE : Field := ⟨0x00C, 0, 2, .ro, [0], 1, 4⟩
def HDR.EVT_RAW.EVT : Field := ⟨0x010, 0, 16, .w1c, [0], 1, 4⟩
def HDR.EVT_EN.EN : Field := ⟨0x014, 0, 16, .rwL, [0], 1, 4⟩
def HDR.EVT_PEND.PEND : Field := ⟨0x018, 0, 16, .ro, [0], 1, 4⟩
def HDR.EVT_SET.SET : Field := ⟨0x01C, 0, 16, .wo, [0], 1, 4⟩
def HDR.REFUSED_WR.CLR : Field := ⟨0x020, 31, 1, .wo, [0], 1, 4⟩
def HDR.REFUSED_WR.COUNT : Field := ⟨0x020, 18, 13, .ro, [0], 1, 4⟩
def HDR.REFUSED_WR.LAST_REASON : Field := ⟨0x020, 14, 4, .ro, [0], 1, 4⟩
def HDR.REFUSED_WR.LAST_ORIGIN : Field := ⟨0x020, 10, 4, .ro, [0], 1, 4⟩
def HDR.REFUSED_WR.LAST_WORD : Field := ⟨0x020, 0, 10, .ro, [0], 1, 4⟩
def HDR.ERRLOG.CLR : Field := ⟨0x024, 31, 1, .wo, [0], 1, 4⟩
def HDR.ERRLOG.COUNT : Field := ⟨0x024, 24, 7, .ro, [0], 1, 4⟩
def HDR.ERRLOG.CODE : Field := ⟨0x024, 16, 8, .ro, [0], 1, 4⟩
def HDR.ERRLOG.DETAIL : Field := ⟨0x024, 0, 16, .ro, [0], 1, 4⟩
def HDR.OWNER.MASK : Field := ⟨0x028, 0, 14, .po, [0], 1, 4⟩
def HDR.SEQ.COUNT : Field := ⟨0x02C, 0, 32, .ro, [0], 1, 4⟩

/-- The fields of the common header. -/
def HDR.all : List Field := [HDR.PAGE_ID.ID, HDR.PAGE_CAP.CAP, HDR.RUNCTL.CMD, HDR.RUNSTAT.FAULT, HDR.RUNSTAT.STATE, HDR.EVT_RAW.EVT, HDR.EVT_EN.EN, HDR.EVT_PEND.PEND, HDR.EVT_SET.SET, HDR.REFUSED_WR.CLR, HDR.REFUSED_WR.COUNT, HDR.REFUSED_WR.LAST_REASON, HDR.REFUSED_WR.LAST_ORIGIN, HDR.REFUSED_WR.LAST_WORD, HDR.ERRLOG.CLR, HDR.ERRLOG.COUNT, HDR.ERRLOG.CODE, HDR.ERRLOG.DETAIL, HDR.OWNER.MASK, HDR.SEQ.COUNT]

/-! ARC: the field tables of R454. -/

def ARC.CTL.REFRESH_THR : Field := ⟨0x040, 24, 8, .rwL, [0x28], 1, 4⟩
def ARC.CTL.AGE_MAX : Field := ⟨0x040, 16, 8, .rwL, [9], 1, 4⟩
def ARC.CTL.DISTURB : Field := ⟨0x040, 8, 8, .rwL, [0xa], 1, 4⟩
def ARC.CTL.REFRESH_EN : Field := ⟨0x040, 0, 1, .rwL, [1], 1, 4⟩
def ARC.ENDURANCE.CYCLES : Field := ⟨0x044, 0, 32, .rwL, [0xbb8], 1, 4⟩
def ARC.LIFE.WAF : Field := ⟨0x048, 8, 8, .ro, [0xa], 1, 4⟩
def ARC.LIFE.TARGET : Field := ⟨0x048, 0, 8, .rwL, [0xa], 1, 4⟩
def ARC.LAYOUT.FORMAT : Field := ⟨0x04C, 4, 1, .po, [0], 1, 4⟩
def ARC.LAYOUT.WIN_SHARE : Field := ⟨0x04C, 0, 4, .po, [4], 1, 4⟩
def ARC.STAT.TGT_PRESENT : Field := ⟨0x050, 24, 8, .ro, [0], 1, 4⟩
def ARC.STAT.TGT_FAILED : Field := ⟨0x050, 16, 8, .ro, [0], 1, 4⟩
def ARC.STAT.FORMATTING : Field := ⟨0x050, 3, 1, .ro, [0], 1, 4⟩
def ARC.STAT.READ_ONLY : Field := ⟨0x050, 2, 1, .ro, [0], 1, 4⟩
def ARC.STAT.MEDIA : Field := ⟨0x050, 0, 2, .ro, [0], 1, 4⟩
def ARC.CAP.GB : Field := ⟨0x054, 0, 32, .ro, [0], 1, 4⟩
def ARC.BAD_FACTORY.BLOCKS : Field := ⟨0x058, 0, 20, .ro, [0], 1, 4⟩
def ARC.BAD_GROWN.BLOCKS : Field := ⟨0x05C, 0, 20, .ro, [0], 1, 4⟩
def ARC.SPARE_FREE.BLOCKS : Field := ⟨0x060, 0, 20, .ro, [0], 1, 4⟩
def ARC.PE_AVG.CYCLES : Field := ⟨0x064, 0, 32, .ro, [0], 1, 4⟩
def ARC.PE_MAX.CYCLES : Field := ⟨0x068, 0, 32, .ro, [0], 1, 4⟩
def ARC.LIFE_PROJ.DAYS : Field := ⟨0x06C, 0, 32, .ro, [0xffffffff], 1, 4⟩
def ARC.BUDGET.KBPS : Field := ⟨0x070, 0, 32, .ro, [0], 1, 4⟩
def ARC.REFRESH_CNT.COUNT : Field := ⟨0x074, 0, 32, .ro, [0], 1, 4⟩
def ARC.DISTURB_CNT.COUNT : Field := ⟨0x078, 0, 32, .ro, [0], 1, 4⟩
def ARC.RETRY_CNT.COUNT : Field := ⟨0x07C, 0, 32, .ro, [0], 1, 4⟩
def ARC.UE_CNT.COUNT : Field := ⟨0x080, 0, 32, .ro, [0], 1, 4⟩
def ARC.TIMEOUT_CNT.COUNT : Field := ⟨0x084, 0, 32, .ro, [0], 1, 4⟩
def ARC.WR_FAIL.COUNT : Field := ⟨0x088, 0, 32, .ro, [0], 1, 4⟩
def ARC.TGT_FAIL.MASK : Field := ⟨0x08C, 0, 32, .ro, [0], 1, 4⟩

/-- The block-specific fields of ARC. -/
def ARC.fields : List Field :=
  [ARC.CTL.REFRESH_THR, ARC.CTL.AGE_MAX, ARC.CTL.DISTURB, ARC.CTL.REFRESH_EN, ARC.ENDURANCE.CYCLES, ARC.LIFE.WAF]
  ++ [ARC.LIFE.TARGET, ARC.LAYOUT.FORMAT, ARC.LAYOUT.WIN_SHARE, ARC.STAT.TGT_PRESENT, ARC.STAT.TGT_FAILED, ARC.STAT.FORMATTING]
  ++ [ARC.STAT.READ_ONLY, ARC.STAT.MEDIA, ARC.CAP.GB, ARC.BAD_FACTORY.BLOCKS, ARC.BAD_GROWN.BLOCKS, ARC.SPARE_FREE.BLOCKS]
  ++ [ARC.PE_AVG.CYCLES, ARC.PE_MAX.CYCLES, ARC.LIFE_PROJ.DAYS, ARC.BUDGET.KBPS, ARC.REFRESH_CNT.COUNT, ARC.DISTURB_CNT.COUNT]
  ++ [ARC.RETRY_CNT.COUNT, ARC.UE_CNT.COUNT, ARC.TIMEOUT_CNT.COUNT, ARC.WR_FAIL.COUNT, ARC.TGT_FAIL.MASK]

/-! ARM: the field tables of R27, R29, R412, R546. -/

def ARM.SEM_REFUSE.LAST_SEM : Field := ⟨0x040, 20, 6, .ro, [0], 1, 4⟩
def ARM.SEM_REFUSE.LAST_ORIGIN : Field := ⟨0x040, 16, 4, .ro, [0], 1, 4⟩
def ARM.SEM_REFUSE.ORDER_CNT : Field := ⟨0x040, 0, 16, .ro, [0], 1, 4⟩
def ARM.FCTL.EN : Field := ⟨0x044, 0, 16, .rwL, [0], 1, 4⟩
def ARM.FEN_HI.EN : Field := ⟨0x048, 0, 32, .rwL, [0], 1, 4⟩
def ARM.FCLR.CLR : Field := ⟨0x04C, 0, 32, .wo, [0], 1, 4⟩
def ARM.FEN_TOP.EN_GOV : Field := ⟨0x050, 8, 8, .ro, [0], 1, 4⟩
def ARM.FEN_TOP.EN : Field := ⟨0x050, 0, 8, .rwL, [0], 1, 4⟩
def ARM.FCLR_HI.CLR : Field := ⟨0x054, 0, 24, .wo, [0], 1, 4⟩
def ARM.FOVF_LO.OVF : Field := ⟨0x058, 0, 32, .w1c, [0], 1, 4⟩
def ARM.FOVF_HI.OVF : Field := ⟨0x05C, 0, 32, .w1c, [0], 1, 4⟩
def ARM.SEM.RESULT : Field := ⟨0x100, 18, 2, .ro, [0], 64, 4⟩
def ARM.SEM.CMD : Field := ⟨0x100, 16, 2, .wo, [0], 64, 4⟩
def ARM.SEM.LEVEL : Field := ⟨0x100, 8, 3, .ro, [0, 0, 0, 0, 0, 0, 0, 0, 1, 1, 1, 1, 1, 1, 1, 1, 2, 2, 2, 2, 2, 2, 2, 2, 3, 3, 3, 3, 3, 3, 3, 3, 4, 4, 4, 4, 4, 4, 4, 4, 5, 5, 5, 5, 5, 5, 5, 5, 6, 6, 6, 6, 6, 6, 6, 6, 7], 64, 4⟩
def ARM.SEM.HOLDER : Field := ⟨0x100, 1, 4, .ro, [0], 64, 4⟩
def ARM.SEM.HELD : Field := ⟨0x100, 0, 1, .ro, [0], 64, 4⟩
def ARM.FSEL.THR : Field := ⟨0x200, 16, 16, .rwS, [0], 56, 4⟩
def ARM.FSEL.CHAIN : Field := ⟨0x200, 10, 1, .rwS, [0], 56, 4⟩
def ARM.FSEL.THR_MODE : Field := ⟨0x200, 9, 1, .rwS, [0], 56, 4⟩
def ARM.FSEL.EVENT : Field := ⟨0x200, 0, 8, .rwS, [0], 56, 4⟩
def ARM.FSEL_GOV.THR : Field := ⟨0x2E0, 16, 16, .ro, [0], 8, 4⟩
def ARM.FSEL_GOV.CHAIN : Field := ⟨0x2E0, 10, 1, .ro, [0], 8, 4⟩
def ARM.FSEL_GOV.THR_MODE : Field := ⟨0x2E0, 9, 1, .ro, [0], 8, 4⟩
def ARM.FSEL_GOV.EVENT : Field := ⟨0x2E0, 0, 8, .ro, [0], 8, 4⟩
def ARM.FCNT_LO.COUNT : Field := ⟨0x400, 0, 32, .ro, [0], 64, 8⟩
def ARM.FCNT_HI.COUNT : Field := ⟨0x404, 0, 16, .ro, [0], 64, 8⟩

/-- The block-specific fields of ARM. -/
def ARM.fields : List Field :=
  [ARM.SEM_REFUSE.LAST_SEM, ARM.SEM_REFUSE.LAST_ORIGIN, ARM.SEM_REFUSE.ORDER_CNT, ARM.FCTL.EN, ARM.FEN_HI.EN, ARM.FCLR.CLR]
  ++ [ARM.FEN_TOP.EN_GOV, ARM.FEN_TOP.EN, ARM.FCLR_HI.CLR, ARM.FOVF_LO.OVF, ARM.FOVF_HI.OVF, ARM.SEM.RESULT]
  ++ [ARM.SEM.CMD, ARM.SEM.LEVEL, ARM.SEM.HOLDER, ARM.SEM.HELD, ARM.FSEL.THR, ARM.FSEL.CHAIN]
  ++ [ARM.FSEL.THR_MODE, ARM.FSEL.EVENT, ARM.FSEL_GOV.THR, ARM.FSEL_GOV.CHAIN, ARM.FSEL_GOV.THR_MODE, ARM.FSEL_GOV.EVENT]
  ++ [ARM.FCNT_LO.COUNT, ARM.FCNT_HI.COUNT]

/-! AUX: the field tables of R494. -/

def AUX.STAT.CLR_PIN : Field := ⟨0x040, 16, 1, .ro, [0], 1, 4⟩
def AUX.STAT.SLEWING : Field := ⟨0x040, 0, 16, .ro, [0], 1, 4⟩
def AUX.HOLD.HOLD : Field := ⟨0x044, 0, 16, .ro, [0], 1, 4⟩
def AUX.CFG.EN : Field := ⟨0x080, 31, 1, .rwL, [0], 16, 8⟩
def AUX.CFG.RANGE : Field := ⟨0x080, 30, 1, .rwL, [0], 16, 8⟩
def AUX.CFG.CLEAR : Field := ⟨0x080, 16, 14, .rwS, [0], 16, 8⟩
def AUX.CFG.STEP : Field := ⟨0x080, 8, 8, .rwL, [0x10], 16, 8⟩
def AUX.CFG.INTERVAL : Field := ⟨0x080, 0, 8, .rwL, [1], 16, 8⟩
def AUX.CODE.WRITTEN : Field := ⟨0x084, 31, 1, .ro, [0], 16, 8⟩
def AUX.CODE.OUT : Field := ⟨0x084, 16, 14, .ro, [0], 16, 8⟩
def AUX.CODE.TARGET : Field := ⟨0x084, 0, 14, .rwL, [0], 16, 8⟩

/-- The block-specific fields of AUX. -/
def AUX.fields : List Field :=
  [AUX.STAT.CLR_PIN, AUX.STAT.SLEWING, AUX.HOLD.HOLD, AUX.CFG.EN, AUX.CFG.RANGE, AUX.CFG.CLEAR]
  ++ [AUX.CFG.STEP, AUX.CFG.INTERVAL, AUX.CODE.WRITTEN, AUX.CODE.OUT, AUX.CODE.TARGET]

/-! BST: the field tables of R540. -/

def BST.CTL.BIST_CODE : Field := ⟨0x040, 17, 5, .po, [0x14], 1, 4⟩
def BST.CTL.SD_EN : Field := ⟨0x040, 16, 1, .po, [1], 1, 4⟩
def BST.CTL.OD_BLOCK : Field := ⟨0x040, 8, 6, .rwL, [0], 1, 4⟩
def BST.CTL.OD_GO : Field := ⟨0x040, 0, 1, .wo, [0], 1, 4⟩
def BST.STAT.OD_RESULT : Field := ⟨0x044, 8, 4, .ro, [0], 1, 4⟩
def BST.STAT.HOLD : Field := ⟨0x044, 7, 1, .ro, [0], 1, 4⟩
def BST.STAT.GROUP : Field := ⟨0x044, 4, 3, .ro, [0], 1, 4⟩
def BST.STAT.STARTUP_RAN : Field := ⟨0x044, 3, 1, .ro, [0], 1, 4⟩
def BST.STAT.PHASE : Field := ⟨0x044, 0, 3, .ro, [0], 1, 4⟩
def BST.LAST_SD.MISSING : Field := ⟨0x048, 16, 1, .ro, [0], 1, 4⟩
def BST.LAST_SD.INCOMPLETE : Field := ⟨0x048, 8, 8, .ro, [0], 1, 4⟩
def BST.LAST_SD.FAILED : Field := ⟨0x048, 0, 8, .ro, [0], 1, 4⟩
def BST.BLK_IDX.BLOCK : Field := ⟨0x04C, 0, 6, .rwL, [0], 1, 4⟩
def BST.BLK_STAT.STATUS : Field := ⟨0x050, 0, 8, .ro, [0], 1, 4⟩
def BST.BLK_PAT.COUNT : Field := ⟨0x054, 0, 32, .ro, [0], 1, 4⟩
def BST.BLK_SIG_LO.SIG : Field := ⟨0x058, 0, 32, .ro, [0], 1, 4⟩
def BST.BLK_SIG_HI.SIG : Field := ⟨0x05C, 0, 32, .ro, [0], 1, 4⟩
def BST.OD_DENY.RD : Field := ⟨0x060, 16, 16, .ro, [0], 1, 4⟩
def BST.OD_DENY.WR : Field := ⟨0x060, 0, 16, .ro, [0], 1, 4⟩
def BST.OD_PKT.COUNT : Field := ⟨0x064, 0, 32, .ro, [0], 1, 4⟩

/-- The block-specific fields of BST. -/
def BST.fields : List Field :=
  [BST.CTL.BIST_CODE, BST.CTL.SD_EN, BST.CTL.OD_BLOCK, BST.CTL.OD_GO, BST.STAT.OD_RESULT, BST.STAT.HOLD]
  ++ [BST.STAT.GROUP, BST.STAT.STARTUP_RAN, BST.STAT.PHASE, BST.LAST_SD.MISSING, BST.LAST_SD.INCOMPLETE, BST.LAST_SD.FAILED]
  ++ [BST.BLK_IDX.BLOCK, BST.BLK_STAT.STATUS, BST.BLK_PAT.COUNT, BST.BLK_SIG_LO.SIG, BST.BLK_SIG_HI.SIG, BST.OD_DENY.RD]
  ++ [BST.OD_DENY.WR, BST.OD_PKT.COUNT]

/-! CAL: the field tables of R501. -/

def CAL.CTL.STORE_PERIOD : Field := ⟨0x040, 24, 8, .rwL, [0x3c], 1, 4⟩
def CAL.CTL.HKCAL_PERIOD : Field := ⟨0x040, 16, 8, .rwL, [0xa], 1, 4⟩
def CAL.CTL.TEMP_DELTA : Field := ⟨0x040, 8, 8, .rwL, [0xa], 1, 4⟩
def CAL.CTL.STORE_NOW : Field := ⟨0x040, 0, 1, .wo, [0], 1, 4⟩
def CAL.STAT.LAST_REJ : Field := ⟨0x044, 8, 8, .ro, [0], 1, 4⟩
def CAL.STAT.STORING : Field := ⟨0x044, 2, 1, .ro, [0], 1, 4⟩
def CAL.STAT.FG_RUN : Field := ⟨0x044, 1, 1, .ro, [0], 1, 4⟩
def CAL.STAT.LOADED : Field := ⟨0x044, 0, 1, .ro, [0], 1, 4⟩
def CAL.STORE_CNT.COUNT : Field := ⟨0x048, 0, 32, .ro, [0], 1, 4⟩
def CAL.SEL.ITEM : Field := ⟨0x04C, 8, 8, .rwL, [1], 1, 4⟩
def CAL.SEL.UNIT : Field := ⟨0x04C, 0, 8, .rwL, [0], 1, 4⟩
def CAL.ITEM_CNT.COUNT : Field := ⟨0x050, 0, 32, .ro, [0], 1, 4⟩
def CAL.ITEM_REJ.COUNT : Field := ⟨0x054, 0, 32, .ro, [0], 1, 4⟩
def CAL.ITEM_TIME_LO.NS : Field := ⟨0x058, 0, 32, .ro, [0], 1, 4⟩
def CAL.ITEM_TIME_HI.NS : Field := ⟨0x05C, 0, 32, .ro, [0], 1, 4⟩
def CAL.REC_SEQ.SEQ : Field := ⟨0x060, 0, 32, .ro, [0], 1, 4⟩

/-- The block-specific fields of CAL. -/
def CAL.fields : List Field :=
  [CAL.CTL.STORE_PERIOD, CAL.CTL.HKCAL_PERIOD, CAL.CTL.TEMP_DELTA, CAL.CTL.STORE_NOW, CAL.STAT.LAST_REJ, CAL.STAT.STORING]
  ++ [CAL.STAT.FG_RUN, CAL.STAT.LOADED, CAL.STORE_CNT.COUNT, CAL.SEL.ITEM, CAL.SEL.UNIT, CAL.ITEM_CNT.COUNT]
  ++ [CAL.ITEM_REJ.COUNT, CAL.ITEM_TIME_LO.NS, CAL.ITEM_TIME_HI.NS, CAL.REC_SEQ.SEQ]

/-! CAST: the field tables of R328. -/

def CAST.CTL.SNAP_EN : Field := ⟨0x040, 18, 1, .rwL, [1], 1, 4⟩
def CAST.CTL.TRIG : Field := ⟨0x040, 16, 1, .wo, [0], 1, 4⟩
def CAST.CTL.TRIG_EN : Field := ⟨0x040, 0, 11, .rwL, [0x7ff], 1, 4⟩
def CAST.WINDOW.POST : Field := ⟨0x044, 16, 16, .rwL, [0x3e8], 1, 4⟩
def CAST.WINDOW.PRE : Field := ⟨0x044, 0, 16, .rwL, [0x3e8], 1, 4⟩
def CAST.SNAP.US : Field := ⟨0x048, 0, 11, .rwL, [0x7d0], 1, 4⟩
def CAST.RING.RATE : Field := ⟨0x04C, 4, 20, .ro, [0], 1, 4⟩
def CAST.RING.THIN : Field := ⟨0x04C, 0, 4, .rwL, [0], 1, 4⟩
def CAST.STAT.WSTATE : Field := ⟨0x050, 8, 3, .ro, [0], 1, 4⟩
def CAST.STAT.RK7_WAIT : Field := ⟨0x050, 5, 1, .ro, [0], 1, 4⟩
def CAST.STAT.SNAP_BUSY : Field := ⟨0x050, 4, 1, .ro, [0], 1, 4⟩
def CAST.STAT.HELD : Field := ⟨0x050, 3, 1, .ro, [0], 1, 4⟩
def CAST.STAT.COMMIT : Field := ⟨0x050, 2, 1, .ro, [0], 1, 4⟩
def CAST.STAT.BUF : Field := ⟨0x050, 0, 1, .ro, [0], 1, 4⟩
def CAST.WIN_NO.W : Field := ⟨0x054, 0, 32, .ro, [0], 1, 4⟩
def CAST.WIN_CNT.COUNT : Field := ⟨0x058, 0, 32, .ro, [0], 1, 4⟩
def CAST.TRIG_IGN.COUNT : Field := ⟨0x05C, 0, 32, .ro, [0], 1, 4⟩
def CAST.SNAP_SKIP.COUNT : Field := ⟨0x060, 0, 32, .ro, [0], 1, 4⟩
def CAST.RING_DROP.COUNT : Field := ⟨0x064, 0, 32, .ro, [0], 1, 4⟩
def CAST.LOST.COUNT : Field := ⟨0x068, 0, 32, .ro, [0], 1, 4⟩
def CAST.LAST.CAUSE : Field := ⟨0x06C, 16, 11, .ro, [0], 1, 4⟩
def CAST.LAST.EXTENDED : Field := ⟨0x06C, 0, 1, .ro, [0], 1, 4⟩
def CAST.TRIG_LO.NS : Field := ⟨0x070, 0, 32, .ro, [0], 1, 4⟩
def CAST.TRIG_HI.NS : Field := ⟨0x074, 0, 32, .ro, [0], 1, 4⟩
def CAST.HEAD.HEAD : Field := ⟨0x080, 0, 32, .ro, [0], 8, 4⟩

/-- The block-specific fields of CAST. -/
def CAST.fields : List Field :=
  [CAST.CTL.SNAP_EN, CAST.CTL.TRIG, CAST.CTL.TRIG_EN, CAST.WINDOW.POST, CAST.WINDOW.PRE, CAST.SNAP.US]
  ++ [CAST.RING.RATE, CAST.RING.THIN, CAST.STAT.WSTATE, CAST.STAT.RK7_WAIT, CAST.STAT.SNAP_BUSY, CAST.STAT.HELD]
  ++ [CAST.STAT.COMMIT, CAST.STAT.BUF, CAST.WIN_NO.W, CAST.WIN_CNT.COUNT, CAST.TRIG_IGN.COUNT, CAST.SNAP_SKIP.COUNT]
  ++ [CAST.RING_DROP.COUNT, CAST.LOST.COUNT, CAST.LAST.CAUSE, CAST.LAST.EXTENDED, CAST.TRIG_LO.NS, CAST.TRIG_HI.NS]
  ++ [CAST.HEAD.HEAD]

/-! CDC: the field tables of R170. -/

def CDC.CTL.ROLLOFF : Field := ⟨0x040, 10, 2, .rwS, [1], 1, 4⟩
def CDC.CTL.CD_MODE : Field := ⟨0x040, 8, 2, .rwS, [1], 1, 4⟩
def CDC.CTL.TRACK_EN : Field := ⟨0x040, 0, 1, .rwL, [1], 1, 4⟩
def CDC.CD_SET.CD : Field := ⟨0x044, 0, 18, .rwL, [0], 1, 4⟩
def CDC.CD_APPLIED.CD : Field := ⟨0x048, 0, 18, .ro, [0], 1, 4⟩
def CDC.CD_EST.VALID : Field := ⟨0x04C, 31, 1, .ro, [0], 1, 4⟩
def CDC.CD_EST.EST : Field := ⟨0x04C, 0, 18, .ro, [0], 1, 4⟩
def CDC.SCAN_STAT.RATIO : Field := ⟨0x050, 16, 16, .ro, [0], 1, 4⟩
def CDC.SCAN_STAT.EDGE : Field := ⟨0x050, 15, 1, .ro, [0], 1, 4⟩
def CDC.SCAN_STAT.CAND : Field := ⟨0x050, 0, 9, .ro, [0], 1, 4⟩
def CDC.SLIP_CNT.COUNT : Field := ⟨0x054, 0, 32, .ro, [0], 1, 4⟩
def CDC.SLIP_SPAN.SPAN : Field := ⟨0x058, 0, 8, .ro, [0], 1, 4⟩
def CDC.CHAN_FREQ.FREQ : Field := ⟨0x05C, 0, 21, .ro, [0], 1, 4⟩

/-- The block-specific fields of CDC. -/
def CDC.fields : List Field :=
  [CDC.CTL.ROLLOFF, CDC.CTL.CD_MODE, CDC.CTL.TRACK_EN, CDC.CD_SET.CD, CDC.CD_APPLIED.CD, CDC.CD_EST.VALID]
  ++ [CDC.CD_EST.EST, CDC.SCAN_STAT.RATIO, CDC.SCAN_STAT.EDGE, CDC.SCAN_STAT.CAND, CDC.SLIP_CNT.COUNT, CDC.SLIP_SPAN.SPAN]
  ++ [CDC.CHAN_FREQ.FREQ]

/-! CJ: the field tables of R67. -/

def CJ.CTL.SIGN_NOW : Field := ⟨0x040, 0, 1, .wo, [0], 1, 4⟩
def CJ.NEXT_LO.SEQ_NO : Field := ⟨0x044, 0, 32, .ro, [0], 1, 4⟩
def CJ.NEXT_HI.SEQ_NO : Field := ⟨0x048, 0, 8, .ro, [0], 1, 4⟩
def CJ.FILL.COUNT : Field := ⟨0x04C, 0, 14, .ro, [0], 1, 4⟩
def CJ.OLDEST_LO.SEQ_NO : Field := ⟨0x050, 0, 32, .ro, [0], 1, 4⟩
def CJ.OLDEST_HI.SEQ_NO : Field := ⟨0x054, 0, 8, .ro, [0], 1, 4⟩
def CJ.PERSIST_LO.SEQ_NO : Field := ⟨0x058, 0, 32, .ro, [0], 1, 4⟩
def CJ.PERSIST_HI.SEQ_NO : Field := ⟨0x05C, 0, 8, .ro, [0], 1, 4⟩
def CJ.SIGNED_LO.SEQ_NO : Field := ⟨0x060, 0, 32, .ro, [0], 1, 4⟩
def CJ.SIGNED_HI.SEQ_NO : Field := ⟨0x064, 0, 8, .ro, [0], 1, 4⟩
def CJ.LOSS.UNLOGGED : Field := ⟨0x068, 16, 16, .ro, [0], 1, 4⟩
def CJ.LOSS.ENTRIES : Field := ⟨0x068, 0, 16, .ro, [0], 1, 4⟩
def CJ.HEAD.HEAD : Field := ⟨0x080, 0, 32, .ro, [0], 8, 4⟩

/-- The block-specific fields of CJ. -/
def CJ.fields : List Field :=
  [CJ.CTL.SIGN_NOW, CJ.NEXT_LO.SEQ_NO, CJ.NEXT_HI.SEQ_NO, CJ.FILL.COUNT, CJ.OLDEST_LO.SEQ_NO, CJ.OLDEST_HI.SEQ_NO]
  ++ [CJ.PERSIST_LO.SEQ_NO, CJ.PERSIST_HI.SEQ_NO, CJ.SIGNED_LO.SEQ_NO, CJ.SIGNED_HI.SEQ_NO, CJ.LOSS.UNLOGGED, CJ.LOSS.ENTRIES]
  ++ [CJ.HEAD.HEAD]

/-! CLX: the field tables of R354. -/

def CLX.CTL.EI_WAKE : Field := ⟨0x040, 11, 1, .rwL, [1], 1, 4⟩
def CLX.CTL.RX_INV : Field := ⟨0x040, 10, 1, .rwS, [0], 1, 4⟩
def CLX.CTL.TX_INV : Field := ⟨0x040, 9, 1, .rwS, [0], 1, 4⟩
def CLX.CTL.ADAPT_FREEZE : Field := ⟨0x040, 6, 1, .rwL, [0], 1, 4⟩
def CLX.CTL.RX_EN : Field := ⟨0x040, 1, 1, .rwL, [1], 1, 4⟩
def CLX.CTL.TX_EN : Field := ⟨0x040, 0, 1, .rwL, [1], 1, 4⟩
def CLX.STAT.TX_STATE : Field := ⟨0x044, 8, 2, .ro, [0], 1, 4⟩
def CLX.STAT.RX_STATE : Field := ⟨0x044, 0, 3, .ro, [0], 1, 4⟩
def CLX.TXFIR.PRE3 : Field := ⟨0x048, 24, 6, .rwL, [0], 1, 4⟩
def CLX.TXFIR.PRE2 : Field := ⟨0x048, 18, 6, .rwL, [0], 1, 4⟩
def CLX.TXFIR.PRE1 : Field := ⟨0x048, 12, 6, .rwL, [0x3c], 1, 4⟩
def CLX.TXFIR.MAIN : Field := ⟨0x048, 6, 6, .rwL, [0x38], 1, 4⟩
def CLX.TXFIR.POST1 : Field := ⟨0x048, 0, 6, .rwL, [0], 1, 4⟩
def CLX.RX_EQ.SNR : Field := ⟨0x04C, 24, 8, .ro, [0], 1, 4⟩
def CLX.RX_EQ.DFE1 : Field := ⟨0x04C, 16, 8, .ro, [0], 1, 4⟩
def CLX.RX_EQ.CTLE : Field := ⟨0x04C, 8, 8, .ro, [0], 1, 4⟩
def CLX.PAT_CTL.CHK_EN : Field := ⟨0x050, 11, 1, .rwL, [0], 1, 4⟩
def CLX.PAT_CTL.CHK_PAT : Field := ⟨0x050, 8, 3, .rwL, [0], 1, 4⟩
def CLX.PAT_CTL.GEN_EN : Field := ⟨0x050, 3, 1, .rwL, [0], 1, 4⟩
def CLX.PAT_CTL.GEN_PAT : Field := ⟨0x050, 0, 3, .rwL, [0], 1, 4⟩
def CLX.CHK_STAT.LOSS : Field := ⟨0x054, 16, 16, .ro, [0], 1, 4⟩
def CLX.CHK_STAT.SYNC : Field := ⟨0x054, 0, 1, .ro, [0], 1, 4⟩
def CLX.CHK_BITS_LO.COUNT : Field := ⟨0x058, 0, 32, .ro, [0], 1, 4⟩
def CLX.CHK_BITS_HI.COUNT : Field := ⟨0x05C, 0, 16, .ro, [0], 1, 4⟩
def CLX.CHK_ERR.COUNT : Field := ⟨0x060, 0, 32, .ro, [0], 1, 4⟩
def CLX.INJ_CTL.RATE_LOG2 : Field := ⟨0x064, 8, 6, .rwL, [0x14], 1, 4⟩
def CLX.INJ_CTL.SINGLE : Field := ⟨0x064, 2, 1, .wo, [0], 1, 4⟩
def CLX.INJ_CTL.MODE : Field := ⟨0x064, 0, 2, .rwL, [0], 1, 4⟩
def CLX.INJ_CNT.COUNT : Field := ⟨0x068, 0, 32, .ro, [0], 1, 4⟩
def CLX.EYE_CTL.START : Field := ⟨0x06C, 31, 1, .wo, [0], 1, 4⟩
def CLX.EYE_CTL.EYE : Field := ⟨0x06C, 29, 2, .rwL, [1], 1, 4⟩
def CLX.EYE_CTL.LOG2_UI : Field := ⟨0x06C, 24, 5, .rwL, [0x14], 1, 4⟩
def CLX.EYE_CTL.VOFS : Field := ⟨0x06C, 8, 7, .rwL, [0], 1, 4⟩
def CLX.EYE_CTL.PHASE : Field := ⟨0x06C, 0, 6, .rwL, [0], 1, 4⟩
def CLX.EYE_STAT.OVR : Field := ⟨0x070, 8, 8, .ro, [0], 1, 4⟩
def CLX.EYE_STAT.DONE : Field := ⟨0x070, 1, 1, .ro, [0], 1, 4⟩
def CLX.EYE_STAT.BUSY : Field := ⟨0x070, 0, 1, .ro, [0], 1, 4⟩
def CLX.EYE_ERR.COUNT : Field := ⟨0x074, 0, 32, .ro, [0], 1, 4⟩

/-- The block-specific fields of CLX. -/
def CLX.fields : List Field :=
  [CLX.CTL.EI_WAKE, CLX.CTL.RX_INV, CLX.CTL.TX_INV, CLX.CTL.ADAPT_FREEZE, CLX.CTL.RX_EN, CLX.CTL.TX_EN]
  ++ [CLX.STAT.TX_STATE, CLX.STAT.RX_STATE, CLX.TXFIR.PRE3, CLX.TXFIR.PRE2, CLX.TXFIR.PRE1, CLX.TXFIR.MAIN]
  ++ [CLX.TXFIR.POST1, CLX.RX_EQ.SNR, CLX.RX_EQ.DFE1, CLX.RX_EQ.CTLE, CLX.PAT_CTL.CHK_EN, CLX.PAT_CTL.CHK_PAT]
  ++ [CLX.PAT_CTL.GEN_EN, CLX.PAT_CTL.GEN_PAT, CLX.CHK_STAT.LOSS, CLX.CHK_STAT.SYNC, CLX.CHK_BITS_LO.COUNT, CLX.CHK_BITS_HI.COUNT]
  ++ [CLX.CHK_ERR.COUNT, CLX.INJ_CTL.RATE_LOG2, CLX.INJ_CTL.SINGLE, CLX.INJ_CTL.MODE, CLX.INJ_CNT.COUNT, CLX.EYE_CTL.START]
  ++ [CLX.EYE_CTL.EYE, CLX.EYE_CTL.LOG2_UI, CLX.EYE_CTL.VOFS, CLX.EYE_CTL.PHASE, CLX.EYE_STAT.OVR, CLX.EYE_STAT.DONE]
  ++ [CLX.EYE_STAT.BUSY, CLX.EYE_ERR.COUNT]

/-! CPC: the field tables of R343, R344. -/

def CPC.PORT_CFG.TYPE : Field := ⟨0x040, 0, 8, .rwS, [0], 1, 4⟩
def CPC.CTL.FAULT_HOLD : Field := ⟨0x044, 8, 8, .rwL, [0xa], 1, 4⟩
def CPC.CTL.LF_FWD : Field := ⟨0x044, 0, 1, .rwL, [1], 1, 4⟩
def CPC.CAL.CFG_UNITS : Field := ⟨0x048, 20, 4, .ro, [0], 1, 4⟩
def CPC.CAL.ADMIT : Field := ⟨0x048, 12, 4, .ro, [0], 1, 4⟩
def CPC.CAL.W : Field := ⟨0x048, 8, 3, .ro, [0], 1, 4⟩
def CPC.CAL.POS : Field := ⟨0x048, 0, 8, .ro, [0], 1, 4⟩
def CPC.CAL_ERR.COUNT : Field := ⟨0x04C, 0, 32, .ro, [0], 1, 4⟩
def CPC.ING_OVF.COUNT : Field := ⟨0x050, 0, 32, .ro, [0], 1, 4⟩
def CPC.EGR_UNDER.COUNT : Field := ⟨0x054, 0, 32, .ro, [0], 1, 4⟩
def CPC.PSTAT.HI_BER : Field := ⟨0x080, 7, 1, .ro, [0], 4, 64⟩
def CPC.PSTAT.ADMITTED : Field := ⟨0x080, 6, 1, .ro, [0], 4, 64⟩
def CPC.PSTAT.ESTATE : Field := ⟨0x080, 4, 2, .ro, [0], 4, 64⟩
def CPC.PSTAT.ISTATE : Field := ⟨0x080, 0, 2, .ro, [0], 4, 64⟩
def CPC.IN_BLK_LO.COUNT : Field := ⟨0x084, 0, 32, .ro, [0], 4, 64⟩
def CPC.IN_BLK_HI.COUNT : Field := ⟨0x088, 0, 16, .ro, [0], 4, 64⟩
def CPC.OUT_BLK_LO.COUNT : Field := ⟨0x08C, 0, 32, .ro, [0], 4, 64⟩
def CPC.OUT_BLK_HI.COUNT : Field := ⟨0x090, 0, 16, .ro, [0], 4, 64⟩
def CPC.IN_ERR.COUNT : Field := ⟨0x094, 0, 32, .ro, [0], 4, 64⟩
def CPC.IN_SUBST.COUNT : Field := ⟨0x098, 0, 32, .ro, [0], 4, 64⟩
def CPC.OUT_ECB.COUNT : Field := ⟨0x09C, 0, 32, .ro, [0], 4, 64⟩
def CPC.OUT_LF.COUNT : Field := ⟨0x0A0, 0, 32, .ro, [0], 4, 64⟩
def CPC.RS_CORR.COUNT : Field := ⟨0x0A4, 0, 32, .ro, [0], 4, 64⟩
def CPC.RS_UNCORR.COUNT : Field := ⟨0x0A8, 0, 32, .ro, [0], 4, 64⟩
def CPC.IDLE.INS : Field := ⟨0x0AC, 16, 16, .ro, [0], 4, 64⟩
def CPC.IDLE.DEL : Field := ⟨0x0AC, 0, 16, .ro, [0], 4, 64⟩

/-- The block-specific fields of CPC. -/
def CPC.fields : List Field :=
  [CPC.PORT_CFG.TYPE, CPC.CTL.FAULT_HOLD, CPC.CTL.LF_FWD, CPC.CAL.CFG_UNITS, CPC.CAL.ADMIT, CPC.CAL.W]
  ++ [CPC.CAL.POS, CPC.CAL_ERR.COUNT, CPC.ING_OVF.COUNT, CPC.EGR_UNDER.COUNT, CPC.PSTAT.HI_BER, CPC.PSTAT.ADMITTED]
  ++ [CPC.PSTAT.ESTATE, CPC.PSTAT.ISTATE, CPC.IN_BLK_LO.COUNT, CPC.IN_BLK_HI.COUNT, CPC.OUT_BLK_LO.COUNT, CPC.OUT_BLK_HI.COUNT]
  ++ [CPC.IN_ERR.COUNT, CPC.IN_SUBST.COUNT, CPC.OUT_ECB.COUNT, CPC.OUT_LF.COUNT, CPC.RS_CORR.COUNT, CPC.RS_UNCORR.COUNT]
  ++ [CPC.IDLE.INS, CPC.IDLE.DEL]

/-! CPR: the field tables of R196. -/

def CPR.CTL.PH_TO : Field := ⟨0x040, 28, 4, .rwL, [4], 1, 4⟩
def CPR.CTL.BPS_HALF : Field := ⟨0x040, 16, 7, .rwL, [0x10], 1, 4⟩
def CPR.CTL.SLIP_CONFIRM : Field := ⟨0x040, 12, 3, .rwL, [1], 1, 4⟩
def CPR.CTL.PA_WIN : Field := ⟨0x040, 8, 2, .rwL, [2], 1, 4⟩
def CPR.CTL.FO_BW : Field := ⟨0x040, 4, 2, .rwS, [1], 1, 4⟩
def CPR.CTL.PCH_RX : Field := ⟨0x040, 3, 1, .rwL, [0], 1, 4⟩
def CPR.CTL.JOINT_POL : Field := ⟨0x040, 2, 1, .rwL, [1], 1, 4⟩
def CPR.CTL.BPS_EN : Field := ⟨0x040, 0, 1, .rwL, [1], 1, 4⟩
def CPR.STAT.PCH_ACTIVE : Field := ⟨0x044, 6, 1, .ro, [0], 1, 4⟩
def CPR.STAT.PH_LOCK : Field := ⟨0x044, 5, 1, .ro, [0], 1, 4⟩
def CPR.STAT.FO_LOCK : Field := ⟨0x044, 4, 1, .ro, [0], 1, 4⟩
def CPR.STAT.STATE : Field := ⟨0x044, 0, 3, .ro, [0], 1, 4⟩
def CPR.FO_EST.FO : Field := ⟨0x048, 0, 20, .ro, [0], 1, 4⟩
def CPR.PILOT_SCALE.SCALE : Field := ⟨0x04C, 0, 16, .ro, [0x1000], 1, 4⟩
def CPR.SLIP_CNT.COUNT : Field := ⟨0x050, 0, 32, .ro, [0], 1, 4⟩
def CPR.SLIP_UNRES.COUNT : Field := ⟨0x054, 0, 32, .ro, [0], 1, 4⟩
def CPR.PILOT_ERR.X : Field := ⟨0x058, 16, 16, .ro, [0], 1, 4⟩
def CPR.PILOT_ERR.Y : Field := ⟨0x058, 0, 16, .ro, [0], 1, 4⟩
def CPR.TRAIN_OK.X : Field := ⟨0x05C, 8, 8, .ro, [0], 1, 4⟩
def CPR.TRAIN_OK.Y : Field := ⟨0x05C, 0, 8, .ro, [0], 1, 4⟩
def CPR.ACQ_CNT.FO_FAIL : Field := ⟨0x060, 16, 16, .ro, [0], 1, 4⟩
def CPR.ACQ_CNT.RESTART : Field := ⟨0x060, 0, 16, .ro, [0], 1, 4⟩
def CPR.PCH_BASE.ADDR : Field := ⟨0x064, 4, 15, .rwS, [0], 1, 4⟩
def CPR.PCH_RING.OVF : Field := ⟨0x068, 24, 8, .ro, [0], 1, 4⟩
def CPR.PCH_RING.RD_IDX : Field := ⟨0x068, 16, 8, .rwL, [0], 1, 4⟩
def CPR.PCH_RING.WR_IDX : Field := ⟨0x068, 8, 8, .ro, [0], 1, 4⟩
def CPR.PCH_RING.ENTRIES : Field := ⟨0x068, 0, 8, .rwS, [0x10], 1, 4⟩

/-- The block-specific fields of CPR. -/
def CPR.fields : List Field :=
  [CPR.CTL.PH_TO, CPR.CTL.BPS_HALF, CPR.CTL.SLIP_CONFIRM, CPR.CTL.PA_WIN, CPR.CTL.FO_BW, CPR.CTL.PCH_RX]
  ++ [CPR.CTL.JOINT_POL, CPR.CTL.BPS_EN, CPR.STAT.PCH_ACTIVE, CPR.STAT.PH_LOCK, CPR.STAT.FO_LOCK, CPR.STAT.STATE]
  ++ [CPR.FO_EST.FO, CPR.PILOT_SCALE.SCALE, CPR.SLIP_CNT.COUNT, CPR.SLIP_UNRES.COUNT, CPR.PILOT_ERR.X, CPR.PILOT_ERR.Y]
  ++ [CPR.TRAIN_OK.X, CPR.TRAIN_OK.Y, CPR.ACQ_CNT.FO_FAIL, CPR.ACQ_CNT.RESTART, CPR.PCH_BASE.ADDR, CPR.PCH_RING.OVF]
  ++ [CPR.PCH_RING.RD_IDX, CPR.PCH_RING.WR_IDX, CPR.PCH_RING.ENTRIES]

/-! CRY: the field tables of R244. -/

def CRY.POLICY.LIFE_MULT : Field := ⟨0x040, 20, 4, .po, [3], 1, 4⟩
def CRY.POLICY.REKEY : Field := ⟨0x040, 10, 10, .po, [0x3c], 1, 4⟩
def CRY.POLICY.PSK_REQ : Field := ⟨0x040, 9, 1, .po, [0], 1, 4⟩
def CRY.CTL.RETAIN_LOG2 : Field := ⟨0x044, 8, 4, .rwL, [0xc], 1, 4⟩
def CRY.CTL.TAGFAIL_N : Field := ⟨0x044, 0, 8, .rwL, [0x10], 1, 4⟩
def CRY.TX_STAT.BLANK_CAUSE : Field := ⟨0x048, 28, 4, .ro, [1], 1, 4⟩
def CRY.TX_STAT.PENDING_IDX : Field := ⟨0x048, 6, 2, .ro, [0], 1, 4⟩
def CRY.TX_STAT.ACTIVE_IDX : Field := ⟨0x048, 4, 2, .ro, [0], 1, 4⟩
def CRY.TX_STAT.COMMITTED : Field := ⟨0x048, 3, 1, .ro, [0], 1, 4⟩
def CRY.TX_STAT.PENDING : Field := ⟨0x048, 2, 1, .ro, [0], 1, 4⟩
def CRY.TX_STAT.STATE : Field := ⟨0x048, 0, 2, .ro, [0], 1, 4⟩
def CRY.TX_ACT_LO.CSF : Field := ⟨0x04C, 0, 32, .ro, [0], 1, 4⟩
def CRY.TX_ACT_HI.CSF : Field := ⟨0x050, 0, 8, .ro, [0], 1, 4⟩
def CRY.RX_STAT.VALID : Field := ⟨0x054, 8, 4, .ro, [0], 1, 4⟩
def CRY.RX_STAT.LAST_IDX : Field := ⟨0x054, 4, 2, .ro, [0], 1, 4⟩
def CRY.RX_STAT.STATE : Field := ⟨0x054, 0, 2, .ro, [0], 1, 4⟩
def CRY.TX_SLOT.STATE : Field := ⟨0x058, 30, 2, .ro, [0], 4, 4⟩
def CRY.TX_SLOT.RATCHET : Field := ⟨0x058, 24, 6, .ro, [0], 4, 4⟩
def CRY.TX_SLOT.EPOCH : Field := ⟨0x058, 16, 8, .ro, [0], 4, 4⟩
def CRY.TX_SLOT.KCV : Field := ⟨0x058, 0, 16, .ro, [0], 4, 4⟩
def CRY.RX_SLOT.STATE : Field := ⟨0x068, 30, 2, .ro, [0], 4, 4⟩
def CRY.RX_SLOT.RATCHET : Field := ⟨0x068, 24, 6, .ro, [0], 4, 4⟩
def CRY.RX_SLOT.EPOCH : Field := ⟨0x068, 16, 8, .ro, [0], 4, 4⟩
def CRY.RX_SLOT.KCV : Field := ⟨0x068, 0, 16, .ro, [0], 4, 4⟩
def CRY.TAG_FAIL.COUNT : Field := ⟨0x078, 0, 32, .ro, [0], 1, 4⟩
def CRY.NOKEY.COUNT : Field := ⟨0x07C, 0, 32, .ro, [0], 1, 4⟩
def CRY.REPLAY.COUNT : Field := ⟨0x080, 0, 32, .ro, [0], 1, 4⟩
def CRY.ACT_CNT.DONE : Field := ⟨0x084, 16, 16, .ro, [0], 1, 4⟩
def CRY.ACT_CNT.ABORT : Field := ⟨0x084, 0, 16, .ro, [0], 1, 4⟩
def CRY.KAT.FAIL : Field := ⟨0x088, 1, 1, .ro, [0], 1, 4⟩
def CRY.KAT.PASS : Field := ⟨0x088, 0, 1, .ro, [0], 1, 4⟩

/-- The block-specific fields of CRY. -/
def CRY.fields : List Field :=
  [CRY.POLICY.LIFE_MULT, CRY.POLICY.REKEY, CRY.POLICY.PSK_REQ, CRY.CTL.RETAIN_LOG2, CRY.CTL.TAGFAIL_N, CRY.TX_STAT.BLANK_CAUSE]
  ++ [CRY.TX_STAT.PENDING_IDX, CRY.TX_STAT.ACTIVE_IDX, CRY.TX_STAT.COMMITTED, CRY.TX_STAT.PENDING, CRY.TX_STAT.STATE, CRY.TX_ACT_LO.CSF]
  ++ [CRY.TX_ACT_HI.CSF, CRY.RX_STAT.VALID, CRY.RX_STAT.LAST_IDX, CRY.RX_STAT.STATE, CRY.TX_SLOT.STATE, CRY.TX_SLOT.RATCHET]
  ++ [CRY.TX_SLOT.EPOCH, CRY.TX_SLOT.KCV, CRY.RX_SLOT.STATE, CRY.RX_SLOT.RATCHET, CRY.RX_SLOT.EPOCH, CRY.RX_SLOT.KCV]
  ++ [CRY.TAG_FAIL.COUNT, CRY.NOKEY.COUNT, CRY.REPLAY.COUNT, CRY.ACT_CNT.DONE, CRY.ACT_CNT.ABORT, CRY.KAT.FAIL]
  ++ [CRY.KAT.PASS]

/-! DMP: the field tables of R198. -/

def DMP.CTL.SNR_THR : Field := ⟨0x040, 24, 8, .rwL, [0x64], 1, 4⟩
def DMP.CTL.VAR_LOG2 : Field := ⟨0x040, 16, 4, .rwL, [6], 1, 4⟩
def DMP.CTL.SEG_W : Field := ⟨0x040, 10, 2, .rwL, [1], 1, 4⟩
def DMP.CTL.CLIP_W : Field := ⟨0x040, 8, 2, .rwL, [2], 1, 4⟩
def DMP.CTL.LLR_SCALE : Field := ⟨0x040, 0, 8, .rwL, [0x20], 1, 4⟩
def DMP.SNR.X : Field := ⟨0x044, 16, 16, .ro, [0], 1, 4⟩
def DMP.SNR.Y : Field := ⟨0x044, 0, 16, .ro, [0], 1, 4⟩
def DMP.ERASE_SYM.COUNT : Field := ⟨0x048, 0, 32, .ro, [0], 1, 4⟩
def DMP.CLIPW_SYM.COUNT : Field := ⟨0x04C, 0, 32, .ro, [0], 1, 4⟩
def DMP.SEGW_SYM.COUNT : Field := ⟨0x050, 0, 32, .ro, [0], 1, 4⟩
def DMP.LLR_SAT.COUNT : Field := ⟨0x054, 0, 32, .ro, [0], 1, 4⟩

/-- The block-specific fields of DMP. -/
def DMP.fields : List Field :=
  [DMP.CTL.SNR_THR, DMP.CTL.VAR_LOG2, DMP.CTL.SEG_W, DMP.CTL.CLIP_W, DMP.CTL.LLR_SCALE, DMP.SNR.X]
  ++ [DMP.SNR.Y, DMP.ERASE_SYM.COUNT, DMP.CLIPW_SYM.COUNT, DMP.SEGW_SYM.COUNT, DMP.LLR_SAT.COUNT]

/-! ECC: the field tables of R430. -/

def ECC.CTL.LAP_WARN : Field := ⟨0x040, 8, 8, .rwL, [0xa], 1, 4⟩
def ECC.CTL.HARD_REMAP_EN : Field := ⟨0x040, 1, 1, .rwL, [1], 1, 4⟩
def ECC.CTL.SCRUB_EN : Field := ⟨0x040, 0, 1, .rwL, [1], 1, 4⟩
def ECC.STAT.CHK_FAIL_CNT : Field := ⟨0x044, 16, 16, .ro, [0], 1, 4⟩
def ECC.STAT.HARD_NOREMAP : Field := ⟨0x044, 1, 1, .ro, [0], 1, 4⟩
def ECC.STAT.CHK_FAIL : Field := ⟨0x044, 0, 1, .ro, [0], 1, 4⟩
def ECC.SCRUB.LAPS : Field := ⟨0x048, 16, 16, .ro, [0], 1, 4⟩
def ECC.SCRUB.LAP_MS : Field := ⟨0x048, 0, 16, .ro, [0], 1, 4⟩
def ECC.CE_CNT.COUNT : Field := ⟨0x04C, 0, 32, .ro, [0], 1, 4⟩
def ECC.UE_CNT.COUNT : Field := ⟨0x050, 0, 32, .ro, [0], 1, 4⟩
def ECC.HARD_CNT.REMAPPED : Field := ⟨0x054, 16, 16, .ro, [0], 1, 4⟩
def ECC.HARD_CNT.NOREMAP : Field := ⟨0x054, 0, 16, .ro, [0], 1, 4⟩
def ECC.LAST_CE.GROUP : Field := ⟨0x058, 13, 11, .ro, [0], 1, 4⟩
def ECC.LAST_CE.WORD : Field := ⟨0x058, 0, 13, .ro, [0], 1, 4⟩
def ECC.LAST_UE.GROUP : Field := ⟨0x05C, 13, 11, .ro, [0], 1, 4⟩
def ECC.LAST_UE.WORD : Field := ⟨0x05C, 0, 13, .ro, [0], 1, 4⟩
def ECC.SPARE_FREE.COUNT : Field := ⟨0x060, 0, 14, .ro, [0x2400], 1, 4⟩
def ECC.HIST_OVF.COUNT : Field := ⟨0x064, 0, 32, .ro, [0], 1, 4⟩
def ECC.CHK_FAIL_ID.ID : Field := ⟨0x068, 0, 11, .ro, [0], 1, 4⟩

/-- The block-specific fields of ECC. -/
def ECC.fields : List Field :=
  [ECC.CTL.LAP_WARN, ECC.CTL.HARD_REMAP_EN, ECC.CTL.SCRUB_EN, ECC.STAT.CHK_FAIL_CNT, ECC.STAT.HARD_NOREMAP, ECC.STAT.CHK_FAIL]
  ++ [ECC.SCRUB.LAPS, ECC.SCRUB.LAP_MS, ECC.CE_CNT.COUNT, ECC.UE_CNT.COUNT, ECC.HARD_CNT.REMAPPED, ECC.HARD_CNT.NOREMAP]
  ++ [ECC.LAST_CE.GROUP, ECC.LAST_CE.WORD, ECC.LAST_UE.GROUP, ECC.LAST_UE.WORD, ECC.SPARE_FREE.COUNT, ECC.HIST_OVF.COUNT]
  ++ [ECC.CHK_FAIL_ID.ID]

/-! EQZ: the field tables of R172. -/

def EQZ.CTL.MU_BLIND : Field := ⟨0x040, 12, 4, .rwL, [4], 1, 4⟩
def EQZ.CTL.MU_DD : Field := ⟨0x040, 8, 4, .rwL, [6], 1, 4⟩
def EQZ.CTL.LEAK : Field := ⟨0x040, 6, 2, .rwL, [0], 1, 4⟩
def EQZ.CTL.UPD_LOG2 : Field := ⟨0x040, 4, 2, .rwL, [0], 1, 4⟩
def EQZ.CTL.EXPECT_CARRIER : Field := ⟨0x040, 1, 1, .rwS, [0], 1, 4⟩
def EQZ.CTL.ADAPT_EN : Field := ⟨0x040, 0, 1, .rwL, [1], 1, 4⟩
def EQZ.ACQ_CTL.SYF_TO : Field := ⟨0x044, 12, 4, .rwL, [4], 1, 4⟩
def EQZ.ACQ_CTL.BLIND_TO : Field := ⟨0x044, 8, 4, .rwL, [8], 1, 4⟩
def EQZ.ACQ_CTL.TIMING_TO : Field := ⟨0x044, 4, 4, .rwL, [6], 1, 4⟩
def EQZ.ACQ_CTL.WARM : Field := ⟨0x044, 1, 1, .rwS, [0], 1, 4⟩
def EQZ.ACQ_CTL.RESTART : Field := ⟨0x044, 0, 1, .wo, [0], 1, 4⟩
def EQZ.ACQ_STAT.RESTART_CNT : Field := ⟨0x048, 24, 8, .ro, [0], 1, 4⟩
def EQZ.ACQ_STAT.ADAPT : Field := ⟨0x048, 10, 2, .ro, [0], 1, 4⟩
def EQZ.ACQ_STAT.WRONG_CARRIER : Field := ⟨0x048, 9, 1, .ro, [0], 1, 4⟩
def EQZ.ACQ_STAT.POL_SWAP : Field := ⟨0x048, 8, 1, .ro, [0], 1, 4⟩
def EQZ.ACQ_STAT.STATE : Field := ⟨0x048, 0, 3, .ro, [0], 1, 4⟩
def EQZ.SYF_MISS.LOSS_CNT : Field := ⟨0x04C, 16, 16, .ro, [0], 1, 4⟩
def EQZ.SYF_MISS.MISS : Field := ⟨0x04C, 0, 16, .ro, [0], 1, 4⟩
def EQZ.XFADE_CTL.REFUSED : Field := ⟨0x050, 24, 8, .ro, [0], 1, 4⟩
def EQZ.XFADE_CTL.LOG2_BLOCKS : Field := ⟨0x050, 8, 4, .rwL, [4], 1, 4⟩
def EQZ.XFADE_CTL.INIT : Field := ⟨0x050, 7, 1, .wo, [0], 1, 4⟩
def EQZ.XFADE_CTL.COPY : Field := ⟨0x050, 6, 1, .wo, [0], 1, 4⟩
def EQZ.XFADE_CTL.SWAP : Field := ⟨0x050, 4, 1, .wo, [0], 1, 4⟩
def EQZ.XFADE_CTL.HELD : Field := ⟨0x050, 3, 1, .ro, [0], 1, 4⟩
def EQZ.XFADE_CTL.FADING : Field := ⟨0x050, 2, 1, .ro, [0], 1, 4⟩
def EQZ.XFADE_CTL.TARGET : Field := ⟨0x050, 1, 1, .ro, [0], 1, 4⟩
def EQZ.XFADE_CTL.ACTIVE : Field := ⟨0x050, 0, 1, .ro, [0], 1, 4⟩
def EQZ.COEF_IDX.BANK : Field := ⟨0x054, 9, 1, .rwL, [0], 1, 4⟩
def EQZ.COEF_IDX.FILTER : Field := ⟨0x054, 6, 2, .rwL, [0], 1, 4⟩
def EQZ.COEF_IDX.TAP : Field := ⟨0x054, 0, 6, .rwL, [0], 1, 4⟩
def EQZ.COEF_DATA.IM : Field := ⟨0x058, 16, 16, .rwL, [0], 1, 4⟩
def EQZ.COEF_DATA.RE : Field := ⟨0x058, 0, 16, .rwL, [0], 1, 4⟩
def EQZ.SHADOW.DONE : Field := ⟨0x05C, 8, 1, .ro, [0], 1, 4⟩
def EQZ.SHADOW.SNAP : Field := ⟨0x05C, 0, 1, .wo, [0], 1, 4⟩
def EQZ.SING_CNT.COUNT : Field := ⟨0x060, 0, 32, .ro, [0], 1, 4⟩
def EQZ.CMA_COST.COST : Field := ⟨0x064, 0, 16, .ro, [0], 1, 4⟩
def EQZ.DGD_EST.DGD : Field := ⟨0x068, 0, 12, .ro, [0], 1, 4⟩
def EQZ.SOP_RATE.RATE : Field := ⟨0x06C, 0, 24, .ro, [0], 1, 4⟩
def EQZ.CD_RESID.CD : Field := ⟨0x070, 0, 18, .ro, [0], 1, 4⟩
def EQZ.BANK_MODE.MODE1 : Field := ⟨0x074, 4, 4, .ro, [0xf], 1, 4⟩
def EQZ.BANK_MODE.MODE0 : Field := ⟨0x074, 0, 4, .ro, [0xf], 1, 4⟩

/-- The block-specific fields of EQZ. -/
def EQZ.fields : List Field :=
  [EQZ.CTL.MU_BLIND, EQZ.CTL.MU_DD, EQZ.CTL.LEAK, EQZ.CTL.UPD_LOG2, EQZ.CTL.EXPECT_CARRIER, EQZ.CTL.ADAPT_EN]
  ++ [EQZ.ACQ_CTL.SYF_TO, EQZ.ACQ_CTL.BLIND_TO, EQZ.ACQ_CTL.TIMING_TO, EQZ.ACQ_CTL.WARM, EQZ.ACQ_CTL.RESTART, EQZ.ACQ_STAT.RESTART_CNT]
  ++ [EQZ.ACQ_STAT.ADAPT, EQZ.ACQ_STAT.WRONG_CARRIER, EQZ.ACQ_STAT.POL_SWAP, EQZ.ACQ_STAT.STATE, EQZ.SYF_MISS.LOSS_CNT, EQZ.SYF_MISS.MISS]
  ++ [EQZ.XFADE_CTL.REFUSED, EQZ.XFADE_CTL.LOG2_BLOCKS, EQZ.XFADE_CTL.INIT, EQZ.XFADE_CTL.COPY, EQZ.XFADE_CTL.SWAP, EQZ.XFADE_CTL.HELD]
  ++ [EQZ.XFADE_CTL.FADING, EQZ.XFADE_CTL.TARGET, EQZ.XFADE_CTL.ACTIVE, EQZ.COEF_IDX.BANK, EQZ.COEF_IDX.FILTER, EQZ.COEF_IDX.TAP]
  ++ [EQZ.COEF_DATA.IM, EQZ.COEF_DATA.RE, EQZ.SHADOW.DONE, EQZ.SHADOW.SNAP, EQZ.SING_CNT.COUNT, EQZ.CMA_COST.COST]
  ++ [EQZ.DGD_EST.DGD, EQZ.SOP_RATE.RATE, EQZ.CD_RESID.CD, EQZ.BANK_MODE.MODE1, EQZ.BANK_MODE.MODE0]

/-! EVR: the field tables of R71, R72. -/

def EVR.RT_INDEX.INDEX : Field := ⟨0x040, 0, 11, .rwL, [0], 1, 4⟩
def EVR.RT_DATA.PRIO : Field := ⟨0x044, 16, 2, .rwL, [0], 1, 4⟩
def EVR.RT_DATA.PLN_EN : Field := ⟨0x044, 15, 1, .po, [0], 1, 4⟩
def EVR.RT_DATA.CORE_EN : Field := ⟨0x044, 14, 1, .rwL, [0], 1, 4⟩
def EVR.RT_DATA.LINE : Field := ⟨0x044, 10, 4, .rwL, [0], 1, 4⟩
def EVR.RT_DATA.CORE : Field := ⟨0x044, 7, 3, .rwL, [0], 1, 4⟩
def EVR.RT_DATA.MSIX_EN : Field := ⟨0x044, 6, 1, .rwL, [0], 1, 4⟩
def EVR.RT_DATA.VECTOR : Field := ⟨0x044, 0, 6, .rwL, [0], 1, 4⟩
def EVR.SW_SET.SET : Field := ⟨0x048, 0, 16, .wo, [0], 1, 4⟩
def EVR.SW_CLR.CLR : Field := ⟨0x04C, 0, 16, .wo, [0], 1, 4⟩
def EVR.PEND.PEND : Field := ⟨0x100, 0, 32, .ro, [0], 48, 4⟩

/-- The block-specific fields of EVR. -/
def EVR.fields : List Field :=
  [EVR.RT_INDEX.INDEX, EVR.RT_DATA.PRIO, EVR.RT_DATA.PLN_EN, EVR.RT_DATA.CORE_EN, EVR.RT_DATA.LINE, EVR.RT_DATA.CORE]
  ++ [EVR.RT_DATA.MSIX_EN, EVR.RT_DATA.VECTOR, EVR.SW_SET.SET, EVR.SW_CLR.CLR, EVR.PEND.PEND]

/-! FEC: the field tables of R215. -/

def FEC.CTL.WIN_LOG2 : Field := ⟨0x040, 16, 5, .rwL, [0x14], 1, 4⟩
def FEC.CTL.ITER : Field := ⟨0x040, 12, 4, .rwS, [6], 1, 4⟩
def FEC.CTL.OBS_LOG2 : Field := ⟨0x040, 4, 4, .rwL, [8], 1, 4⟩
def FEC.CTL.SF_UNC : Field := ⟨0x040, 0, 4, .rwL, [0], 1, 4⟩
def FEC.STAT.OFFSET : Field := ⟨0x044, 16, 10, .ro, [0], 1, 4⟩
def FEC.STAT.SF : Field := ⟨0x044, 4, 1, .ro, [0], 1, 4⟩
def FEC.STAT.SD : Field := ⟨0x044, 3, 1, .ro, [0], 1, 4⟩
def FEC.STAT.STATE : Field := ⟨0x044, 0, 2, .ro, [0], 1, 4⟩
def FEC.SD_THR.THR : Field := ⟨0x048, 0, 32, .rwL, [0x28f5c29], 1, 4⟩
def FEC.SF_THR.THR : Field := ⟨0x04C, 0, 32, .rwL, [0x49ba5e3], 1, 4⟩
def FEC.PRE_BER.BER : Field := ⟨0x050, 0, 32, .ro, [0], 1, 4⟩
def FEC.WIN_CNT.COUNT : Field := ⟨0x054, 0, 32, .ro, [0], 1, 4⟩
def FEC.WIN_UNCORR.COUNT : Field := ⟨0x058, 0, 32, .ro, [0], 1, 4⟩
def FEC.WIN_ERASED.COUNT : Field := ⟨0x05C, 0, 32, .ro, [0], 1, 4⟩
def FEC.ERRMAP.COUNT : Field := ⟨0x060, 0, 32, .ro, [0], 8, 4⟩
def FEC.ERRHIST.COUNT : Field := ⟨0x080, 0, 32, .ro, [0], 8, 4⟩
def FEC.CORR_LO.COUNT : Field := ⟨0x0A0, 0, 32, .ro, [0], 1, 4⟩
def FEC.CORR_HI.COUNT : Field := ⟨0x0A4, 0, 16, .ro, [0], 1, 4⟩
def FEC.BLK_LO.COUNT : Field := ⟨0x0A8, 0, 32, .ro, [0], 1, 4⟩
def FEC.BLK_HI.COUNT : Field := ⟨0x0AC, 0, 16, .ro, [0], 1, 4⟩
def FEC.UNCORR_CNT.COUNT : Field := ⟨0x0B0, 0, 32, .ro, [0], 1, 4⟩
def FEC.ERASED_LO.COUNT : Field := ⟨0x0B4, 0, 32, .ro, [0], 1, 4⟩
def FEC.ERASED_HI.COUNT : Field := ⟨0x0B8, 0, 16, .ro, [0], 1, 4⟩
def FEC.HUNT_CNT.LOSS : Field := ⟨0x0BC, 16, 16, .ro, [0], 1, 4⟩
def FEC.HUNT_CNT.HUNT_FAIL : Field := ⟨0x0BC, 0, 16, .ro, [0], 1, 4⟩

/-- The block-specific fields of FEC. -/
def FEC.fields : List Field :=
  [FEC.CTL.WIN_LOG2, FEC.CTL.ITER, FEC.CTL.OBS_LOG2, FEC.CTL.SF_UNC, FEC.STAT.OFFSET, FEC.STAT.SF]
  ++ [FEC.STAT.SD, FEC.STAT.STATE, FEC.SD_THR.THR, FEC.SF_THR.THR, FEC.PRE_BER.BER, FEC.WIN_CNT.COUNT]
  ++ [FEC.WIN_UNCORR.COUNT, FEC.WIN_ERASED.COUNT, FEC.ERRMAP.COUNT, FEC.ERRHIST.COUNT, FEC.CORR_LO.COUNT, FEC.CORR_HI.COUNT]
  ++ [FEC.BLK_LO.COUNT, FEC.BLK_HI.COUNT, FEC.UNCORR_CNT.COUNT, FEC.ERASED_LO.COUNT, FEC.ERASED_HI.COUNT, FEC.HUNT_CNT.LOSS]
  ++ [FEC.HUNT_CNT.HUNT_FAIL]

/-! FES: the field tables of R306. -/

def FES.CTL_A.TIA_POL : Field := ⟨0x040, 7, 1, .rwS, [1], 1, 4⟩
def FES.CTL_A.GAIN_TRACK : Field := ⟨0x040, 6, 1, .rwL, [1], 1, 4⟩
def FES.CTL_A.AUTO : Field := ⟨0x040, 5, 1, .rwL, [1], 1, 4⟩
def FES.CTL_A.TUNE : Field := ⟨0x040, 4, 1, .wo, [0], 1, 4⟩
def FES.CTL_A.CLR_FAULT : Field := ⟨0x040, 3, 1, .wo, [0], 1, 4⟩
def FES.CTL_A.TX_OFF : Field := ⟨0x040, 2, 1, .wo, [0], 1, 4⟩
def FES.CTL_A.TX_REQ : Field := ⟨0x040, 1, 1, .wo, [0], 1, 4⟩
def FES.CTL_A.EN : Field := ⟨0x040, 0, 1, .rwL, [0], 1, 4⟩
def FES.CTL_B.TIA_POL : Field := ⟨0x044, 7, 1, .rwS, [1], 1, 4⟩
def FES.CTL_B.GAIN_TRACK : Field := ⟨0x044, 6, 1, .rwL, [1], 1, 4⟩
def FES.CTL_B.AUTO : Field := ⟨0x044, 5, 1, .rwL, [1], 1, 4⟩
def FES.CTL_B.TUNE : Field := ⟨0x044, 4, 1, .wo, [0], 1, 4⟩
def FES.CTL_B.CLR_FAULT : Field := ⟨0x044, 3, 1, .wo, [0], 1, 4⟩
def FES.CTL_B.TX_OFF : Field := ⟨0x044, 2, 1, .wo, [0], 1, 4⟩
def FES.CTL_B.TX_REQ : Field := ⟨0x044, 1, 1, .wo, [0], 1, 4⟩
def FES.CTL_B.EN : Field := ⟨0x044, 0, 1, .rwL, [0], 1, 4⟩
def FES.CHAN_A.N : Field := ⟨0x048, 0, 12, .rwL, [0], 1, 4⟩
def FES.CHAN_B.N : Field := ⟨0x04C, 0, 12, .rwL, [0], 1, 4⟩
def FES.STAT_A.FAULT_CAUSE : Field := ⟨0x050, 24, 8, .ro, [0], 1, 4⟩
def FES.STAT_A.MOD_STATE : Field := ⟨0x050, 17, 3, .ro, [0], 1, 4⟩
def FES.STAT_A.LOS : Field := ⟨0x050, 16, 1, .ro, [1], 1, 4⟩
def FES.STAT_A.HOLD_CAUSE : Field := ⟨0x050, 8, 3, .ro, [0], 1, 4⟩
def FES.STAT_A.TX_HELD : Field := ⟨0x050, 4, 1, .ro, [0], 1, 4⟩
def FES.STAT_A.STATE : Field := ⟨0x050, 0, 4, .ro, [0], 1, 4⟩
def FES.STAT_B.FAULT_CAUSE : Field := ⟨0x054, 24, 8, .ro, [0], 1, 4⟩
def FES.STAT_B.MOD_STATE : Field := ⟨0x054, 17, 3, .ro, [0], 1, 4⟩
def FES.STAT_B.LOS : Field := ⟨0x054, 16, 1, .ro, [1], 1, 4⟩
def FES.STAT_B.HOLD_CAUSE : Field := ⟨0x054, 8, 3, .ro, [0], 1, 4⟩
def FES.STAT_B.TX_HELD : Field := ⟨0x054, 4, 1, .ro, [0], 1, 4⟩
def FES.STAT_B.STATE : Field := ⟨0x054, 0, 4, .ro, [0], 1, 4⟩
def FES.TXHOLD.MAX : Field := ⟨0x058, 0, 8, .rwL, [0x32], 1, 4⟩
def FES.TIMEOUT.READY_TO : Field := ⟨0x05C, 8, 8, .rwL, [0xa], 1, 4⟩
def FES.TIMEOUT.TUNE_TO : Field := ⟨0x05C, 0, 8, .rwL, [0x3c], 1, 4⟩
def FES.DRV_A.Y : Field := ⟨0x060, 16, 14, .rwL, [0x2000], 1, 4⟩
def FES.DRV_A.X : Field := ⟨0x060, 0, 14, .rwL, [0x2000], 1, 4⟩
def FES.DRV_B.Y : Field := ⟨0x064, 16, 14, .rwL, [0x2000], 1, 4⟩
def FES.DRV_B.X : Field := ⟨0x064, 0, 14, .rwL, [0x2000], 1, 4⟩
def FES.TIA_CFG_A.MAX : Field := ⟨0x068, 16, 14, .rwS, [0x3fff], 1, 4⟩
def FES.TIA_CFG_A.MIN : Field := ⟨0x068, 0, 14, .rwS, [0], 1, 4⟩
def FES.TIA_CFG_B.MAX : Field := ⟨0x06C, 16, 14, .rwS, [0x3fff], 1, 4⟩
def FES.TIA_CFG_B.MIN : Field := ⟨0x06C, 0, 14, .rwS, [0], 1, 4⟩
def FES.GAIN_LOOP.DWELL : Field := ⟨0x070, 8, 8, .rwL, [0xa], 1, 4⟩
def FES.GAIN_LOOP.STEP : Field := ⟨0x070, 0, 8, .rwL, [0x40], 1, 4⟩
def FES.TIA_A.Y : Field := ⟨0x074, 16, 14, .ro, [0], 1, 4⟩
def FES.TIA_A.X : Field := ⟨0x074, 0, 14, .ro, [0], 1, 4⟩
def FES.TIA_B.Y : Field := ⟨0x078, 16, 14, .ro, [0], 1, 4⟩
def FES.TIA_B.X : Field := ⟨0x078, 0, 14, .ro, [0], 1, 4⟩
def FES.LOS_CFG.CLR : Field := ⟨0x07C, 16, 16, .rwL, [0x800], 1, 4⟩
def FES.LOS_CFG.SET : Field := ⟨0x07C, 0, 16, .rwL, [0x400], 1, 4⟩
def FES.WAKE_CFG.THR_B : Field := ⟨0x080, 8, 6, .rwL, [0xa], 1, 4⟩
def FES.WAKE_CFG.THR_A : Field := ⟨0x080, 0, 6, .rwL, [0xa], 1, 4⟩
def FES.CNT_A.FAULTS : Field := ⟨0x084, 24, 8, .ro, [0], 1, 4⟩
def FES.CNT_A.REFUSED : Field := ⟨0x084, 16, 8, .ro, [0], 1, 4⟩
def FES.CNT_A.HELD : Field := ⟨0x084, 0, 16, .ro, [0], 1, 4⟩
def FES.CNT_B.FAULTS : Field := ⟨0x088, 24, 8, .ro, [0], 1, 4⟩
def FES.CNT_B.REFUSED : Field := ⟨0x088, 16, 8, .ro, [0], 1, 4⟩
def FES.CNT_B.HELD : Field := ⟨0x088, 0, 16, .ro, [0], 1, 4⟩
def FES.CMIS_CMD.GO : Field := ⟨0x08C, 31, 1, .wo, [0], 1, 4⟩
def FES.CMIS_CMD.WRITE : Field := ⟨0x08C, 30, 1, .rwL, [0], 1, 4⟩
def FES.CMIS_CMD.MOD : Field := ⟨0x08C, 29, 1, .rwL, [0], 1, 4⟩
def FES.CMIS_CMD.STATUS : Field := ⟨0x08C, 24, 2, .ro, [0], 1, 4⟩
def FES.CMIS_CMD.PAGE : Field := ⟨0x08C, 16, 8, .rwL, [0], 1, 4⟩
def FES.CMIS_CMD.BYTE : Field := ⟨0x08C, 8, 8, .rwL, [0], 1, 4⟩
def FES.CMIS_CMD.WDATA : Field := ⟨0x08C, 0, 8, .rwL, [0], 1, 4⟩
def FES.CMIS_DATA.RDATA : Field := ⟨0x090, 0, 8, .ro, [0], 1, 4⟩

/-- The block-specific fields of FES. -/
def FES.fields : List Field :=
  [FES.CTL_A.TIA_POL, FES.CTL_A.GAIN_TRACK, FES.CTL_A.AUTO, FES.CTL_A.TUNE, FES.CTL_A.CLR_FAULT, FES.CTL_A.TX_OFF]
  ++ [FES.CTL_A.TX_REQ, FES.CTL_A.EN, FES.CTL_B.TIA_POL, FES.CTL_B.GAIN_TRACK, FES.CTL_B.AUTO, FES.CTL_B.TUNE]
  ++ [FES.CTL_B.CLR_FAULT, FES.CTL_B.TX_OFF, FES.CTL_B.TX_REQ, FES.CTL_B.EN, FES.CHAN_A.N, FES.CHAN_B.N]
  ++ [FES.STAT_A.FAULT_CAUSE, FES.STAT_A.MOD_STATE, FES.STAT_A.LOS, FES.STAT_A.HOLD_CAUSE, FES.STAT_A.TX_HELD, FES.STAT_A.STATE]
  ++ [FES.STAT_B.FAULT_CAUSE, FES.STAT_B.MOD_STATE, FES.STAT_B.LOS, FES.STAT_B.HOLD_CAUSE, FES.STAT_B.TX_HELD, FES.STAT_B.STATE]
  ++ [FES.TXHOLD.MAX, FES.TIMEOUT.READY_TO, FES.TIMEOUT.TUNE_TO, FES.DRV_A.Y, FES.DRV_A.X, FES.DRV_B.Y]
  ++ [FES.DRV_B.X, FES.TIA_CFG_A.MAX, FES.TIA_CFG_A.MIN, FES.TIA_CFG_B.MAX, FES.TIA_CFG_B.MIN, FES.GAIN_LOOP.DWELL]
  ++ [FES.GAIN_LOOP.STEP, FES.TIA_A.Y, FES.TIA_A.X, FES.TIA_B.Y, FES.TIA_B.X, FES.LOS_CFG.CLR]
  ++ [FES.LOS_CFG.SET, FES.WAKE_CFG.THR_B, FES.WAKE_CFG.THR_A, FES.CNT_A.FAULTS, FES.CNT_A.REFUSED, FES.CNT_A.HELD]
  ++ [FES.CNT_B.FAULTS, FES.CNT_B.REFUSED, FES.CNT_B.HELD, FES.CMIS_CMD.GO, FES.CMIS_CMD.WRITE, FES.CMIS_CMD.MOD]
  ++ [FES.CMIS_CMD.STATUS, FES.CMIS_CMD.PAGE, FES.CMIS_CMD.BYTE, FES.CMIS_CMD.WDATA, FES.CMIS_DATA.RDATA]

/-! GLB: the field tables of R16, R17. -/

def GLB.LOCKCTL.SKEW_MAX : Field := ⟨0x080, 2, 6, .rwS, [0x1f], 1, 4⟩
def GLB.LOCKCTL.SYN_SRC : Field := ⟨0x080, 1, 1, .rwS, [0], 1, 4⟩
def GLB.LOCKCTL.LOCK_EN : Field := ⟨0x080, 0, 1, .rwS, [0], 1, 4⟩
def GLB.LOCKSTAT.LOST_CNT : Field := ⟨0x084, 16, 16, .ro, [0], 1, 4⟩
def GLB.LOCKSTAT.SKEW : Field := ⟨0x084, 2, 8, .ro, [0], 1, 4⟩
def GLB.LOCKSTAT.STATE : Field := ⟨0x084, 0, 2, .ro, [0], 1, 4⟩

/-- The block-specific fields of GLB. -/
def GLB.fields : List Field :=
  [GLB.LOCKCTL.SKEW_MAX, GLB.LOCKCTL.SYN_SRC, GLB.LOCKCTL.LOCK_EN, GLB.LOCKSTAT.LOST_CNT, GLB.LOCKSTAT.SKEW, GLB.LOCKSTAT.STATE]

/-! HK: the field tables of R487. -/

def HK.CTL.PERIOD : Field := ⟨0x040, 16, 16, .rwL, [0x64], 1, 4⟩
def HK.CTL.SIMUL : Field := ⟨0x040, 14, 1, .rwL, [0], 1, 4⟩
def HK.CTL.TB_LOG2 : Field := ⟨0x040, 9, 5, .rwL, [0xa], 1, 4⟩
def HK.CTL.DISCARD_EN : Field := ⟨0x040, 8, 1, .rwL, [1], 1, 4⟩
def HK.CTL.TRIG_SRC : Field := ⟨0x040, 4, 2, .rwL, [0], 1, 4⟩
def HK.CTL.START : Field := ⟨0x040, 0, 1, .wo, [0], 1, 4⟩
def HK.XCHK.TOL : Field := ⟨0x044, 0, 8, .rwL, [0x20], 1, 4⟩
def HK.STAT.SLOT_NOW : Field := ⟨0x048, 8, 5, .ro, [0], 1, 4⟩
def HK.STAT.CAL_RUN : Field := ⟨0x048, 2, 1, .ro, [0], 1, 4⟩
def HK.STAT.PLAUS : Field := ⟨0x048, 1, 1, .ro, [0], 1, 4⟩
def HK.STAT.BUSY : Field := ⟨0x048, 0, 1, .ro, [0], 1, 4⟩
def HK.OVR_CNT.TRIG_OVR : Field := ⟨0x04C, 16, 16, .ro, [0], 1, 4⟩
def HK.OVR_CNT.URG_DROP : Field := ⟨0x04C, 0, 16, .ro, [0], 1, 4⟩
def HK.XCHK_CNT.XCHK_FAIL : Field := ⟨0x050, 16, 16, .ro, [0], 1, 4⟩
def HK.XCHK_CNT.DISCARDS : Field := ⟨0x050, 0, 16, .ro, [0], 1, 4⟩
def HK.URG_CTL.GO : Field := ⟨0x054, 31, 1, .wo, [0], 1, 4⟩
def HK.URG_CTL.INPUT : Field := ⟨0x054, 0, 5, .rwL, [0], 1, 4⟩
def HK.URG_RESULT.DONE : Field := ⟨0x058, 31, 1, .ro, [0], 1, 4⟩
def HK.URG_RESULT.OVR : Field := ⟨0x058, 30, 1, .ro, [0], 1, 4⟩
def HK.URG_RESULT.CODE : Field := ⟨0x058, 0, 16, .ro, [0], 1, 4⟩
def HK.REF0.CODE : Field := ⟨0x05C, 0, 16, .ro, [0], 1, 4⟩
def HK.TEMP.TEMP : Field := ⟨0x060, 0, 16, .ro, [0], 1, 4⟩
def HK.SEQ_CNT.COUNT : Field := ⟨0x064, 0, 32, .ro, [0], 1, 4⟩
def HK.SLOT.EN : Field := ⟨0x080, 31, 1, .rwL, [1, 0], 32, 4⟩
def HK.SLOT.SHIFT : Field := ⟨0x080, 12, 4, .rwS, [2, 0], 32, 4⟩
def HK.SLOT.AVG : Field := ⟨0x080, 8, 4, .rwS, [2, 1], 32, 4⟩
def HK.SLOT.INPUT : Field := ⟨0x080, 0, 5, .rwS, [8, 0], 32, 4⟩
def HK.RESULT.VALID : Field := ⟨0x100, 31, 1, .ro, [0], 32, 4⟩
def HK.RESULT.OVR : Field := ⟨0x100, 30, 1, .ro, [0], 32, 4⟩
def HK.RESULT.VALUE : Field := ⟨0x100, 0, 24, .ro, [0], 32, 4⟩

/-- The block-specific fields of HK. -/
def HK.fields : List Field :=
  [HK.CTL.PERIOD, HK.CTL.SIMUL, HK.CTL.TB_LOG2, HK.CTL.DISCARD_EN, HK.CTL.TRIG_SRC, HK.CTL.START]
  ++ [HK.XCHK.TOL, HK.STAT.SLOT_NOW, HK.STAT.CAL_RUN, HK.STAT.PLAUS, HK.STAT.BUSY, HK.OVR_CNT.TRIG_OVR]
  ++ [HK.OVR_CNT.URG_DROP, HK.XCHK_CNT.XCHK_FAIL, HK.XCHK_CNT.DISCARDS, HK.URG_CTL.GO, HK.URG_CTL.INPUT, HK.URG_RESULT.DONE]
  ++ [HK.URG_RESULT.OVR, HK.URG_RESULT.CODE, HK.REF0.CODE, HK.TEMP.TEMP, HK.SEQ_CNT.COUNT, HK.SLOT.EN]
  ++ [HK.SLOT.SHIFT, HK.SLOT.AVG, HK.SLOT.INPUT, HK.RESULT.VALID, HK.RESULT.OVR, HK.RESULT.VALUE]

/-! HLK: the field tables of R371. -/

def HLK.CTL.MAX_RATE : Field := ⟨0x040, 6, 2, .rwL, [2], 1, 4⟩
def HLK.CTL.MAX_WIDTH : Field := ⟨0x040, 4, 2, .rwL, [3], 1, 4⟩
def HLK.CTL.CLK_MODE : Field := ⟨0x040, 3, 1, .rwL, [0], 1, 4⟩
def HLK.CTL.ASPM_L1 : Field := ⟨0x040, 2, 1, .rwL, [1], 1, 4⟩
def HLK.CTL.RETRAIN : Field := ⟨0x040, 0, 1, .wo, [0], 1, 4⟩
def HLK.LINK_STAT.SRIS : Field := ⟨0x044, 16, 1, .ro, [0], 1, 4⟩
def HLK.LINK_STAT.L1 : Field := ⟨0x044, 15, 1, .ro, [0], 1, 4⟩
def HLK.LINK_STAT.MEM_EN : Field := ⟨0x044, 14, 1, .ro, [0], 1, 4⟩
def HLK.LINK_STAT.CXL : Field := ⟨0x044, 13, 1, .ro, [0], 1, 4⟩
def HLK.LINK_STAT.UP : Field := ⟨0x044, 12, 1, .ro, [0], 1, 4⟩
def HLK.LINK_STAT.WIDTH : Field := ⟨0x044, 8, 4, .ro, [0], 1, 4⟩
def HLK.LINK_STAT.RATE : Field := ⟨0x044, 0, 3, .ro, [0], 1, 4⟩
def HLK.RETRAIN_CNT.SPEED_CHG : Field := ⟨0x048, 16, 16, .ro, [0], 1, 4⟩
def HLK.RETRAIN_CNT.RECOVERY : Field := ⟨0x048, 0, 16, .ro, [0], 1, 4⟩
def HLK.ACC_ERR.COUNT : Field := ⟨0x04C, 16, 16, .ro, [0], 1, 4⟩
def HLK.ACC_LAST.OFFSET : Field := ⟨0x050, 0, 26, .ro, [0], 1, 4⟩
def HLK.MEM_STAT.WR_DROP : Field := ⟨0x054, 16, 16, .ro, [0], 1, 4⟩
def HLK.MEM_STAT.POISON : Field := ⟨0x054, 0, 16, .ro, [0], 1, 4⟩
def HLK.IDE.MEM_SECURE : Field := ⟨0x058, 2, 1, .ro, [0], 1, 4⟩
def HLK.IDE.IO_SECURE : Field := ⟨0x058, 1, 1, .ro, [0], 1, 4⟩
def HLK.IDE.REQUIRE : Field := ⟨0x058, 0, 1, .po, [0], 1, 4⟩
def HLK.CREDIT.STALL : Field := ⟨0x05C, 0, 16, .ro, [0], 1, 4⟩
def HLK.EARLY_WR.COUNT : Field := ⟨0x060, 0, 32, .ro, [0], 1, 4⟩
def HLK.EYE_LANE.LANE : Field := ⟨0x064, 0, 3, .rwL, [0], 1, 4⟩
def HLK.EYE_CTL.START : Field := ⟨0x068, 31, 1, .wo, [0], 1, 4⟩
def HLK.EYE_CTL.EYE : Field := ⟨0x068, 29, 2, .rwL, [1], 1, 4⟩
def HLK.EYE_CTL.LOG2_UI : Field := ⟨0x068, 24, 5, .rwL, [0x14], 1, 4⟩
def HLK.EYE_CTL.VOFS : Field := ⟨0x068, 8, 7, .rwL, [0], 1, 4⟩
def HLK.EYE_CTL.PHASE : Field := ⟨0x068, 0, 6, .rwL, [0], 1, 4⟩
def HLK.EYE_STAT.OVR : Field := ⟨0x06C, 8, 8, .ro, [0], 1, 4⟩
def HLK.EYE_STAT.DONE : Field := ⟨0x06C, 1, 1, .ro, [0], 1, 4⟩
def HLK.EYE_STAT.BUSY : Field := ⟨0x06C, 0, 1, .ro, [0], 1, 4⟩
def HLK.EYE_ERR.COUNT : Field := ⟨0x070, 0, 32, .ro, [0], 1, 4⟩

/-- The block-specific fields of HLK. -/
def HLK.fields : List Field :=
  [HLK.CTL.MAX_RATE, HLK.CTL.MAX_WIDTH, HLK.CTL.CLK_MODE, HLK.CTL.ASPM_L1, HLK.CTL.RETRAIN, HLK.LINK_STAT.SRIS]
  ++ [HLK.LINK_STAT.L1, HLK.LINK_STAT.MEM_EN, HLK.LINK_STAT.CXL, HLK.LINK_STAT.UP, HLK.LINK_STAT.WIDTH, HLK.LINK_STAT.RATE]
  ++ [HLK.RETRAIN_CNT.SPEED_CHG, HLK.RETRAIN_CNT.RECOVERY, HLK.ACC_ERR.COUNT, HLK.ACC_LAST.OFFSET, HLK.MEM_STAT.WR_DROP, HLK.MEM_STAT.POISON]
  ++ [HLK.IDE.MEM_SECURE, HLK.IDE.IO_SECURE, HLK.IDE.REQUIRE, HLK.CREDIT.STALL, HLK.EARLY_WR.COUNT, HLK.EYE_LANE.LANE]
  ++ [HLK.EYE_CTL.START, HLK.EYE_CTL.EYE, HLK.EYE_CTL.LOG2_UI, HLK.EYE_CTL.VOFS, HLK.EYE_CTL.PHASE, HLK.EYE_STAT.OVR]
  ++ [HLK.EYE_STAT.DONE, HLK.EYE_STAT.BUSY, HLK.EYE_ERR.COUNT]

/-! LFM: the field tables of R95, R217. -/

def LFM.MODE.MODE : Field := ⟨0x040, 0, 4, .rwS, [0], 1, 4⟩
def LFM.TX_CSF_LO.CSF : Field := ⟨0x044, 0, 32, .ro, [0], 1, 4⟩
def LFM.TX_CSF_HI.LF_IDX : Field := ⟨0x048, 8, 6, .ro, [0], 1, 4⟩
def LFM.TX_CSF_HI.CSF : Field := ⟨0x048, 0, 8, .ro, [0], 1, 4⟩
def LFM.TX_LF_LO.COUNT : Field := ⟨0x04C, 0, 32, .ro, [0], 1, 4⟩
def LFM.TX_LF_HI.COUNT : Field := ⟨0x050, 0, 16, .ro, [0], 1, 4⟩
def LFM.TX_DATA_LO.COUNT : Field := ⟨0x054, 0, 32, .ro, [0], 1, 4⟩
def LFM.TX_DATA_HI.COUNT : Field := ⟨0x058, 0, 16, .ro, [0], 1, 4⟩
def LFM.TX_BLANKED.COUNT : Field := ⟨0x05C, 0, 32, .ro, [0], 1, 4⟩
def LFM.JUST_RANGE.CLR : Field := ⟨0x060, 31, 1, .wo, [0], 1, 4⟩
def LFM.JUST_RANGE.MAX_DATA : Field := ⟨0x060, 16, 10, .ro, [0], 1, 4⟩
def LFM.JUST_RANGE.MIN_DATA : Field := ⟨0x060, 0, 10, .ro, [0x200], 1, 4⟩
def LFM.JUST_OVF.COUNT : Field := ⟨0x064, 0, 32, .ro, [0], 1, 4⟩
def LFM.JUST_OCC.COUNT : Field := ⟨0x068, 0, 11, .ro, [0], 1, 4⟩
def LFM.RX_CTL.EXPECT_CARRIER : Field := ⟨0x100, 16, 1, .rwS, [0], 1, 4⟩
def LFM.RX_CTL.LOF_N : Field := ⟨0x100, 8, 4, .rwL, [5], 1, 4⟩
def LFM.RX_CTL.FAW_TOL : Field := ⟨0x100, 0, 4, .rwL, [2], 1, 4⟩
def LFM.RX_STAT.BLANKED : Field := ⟨0x104, 8, 1, .ro, [0], 1, 4⟩
def LFM.RX_STAT.FSTATE : Field := ⟨0x104, 0, 2, .ro, [0], 1, 4⟩
def LFM.RX_CSF_LO.CSF : Field := ⟨0x108, 0, 32, .ro, [0], 1, 4⟩
def LFM.RX_CSF_HI.KEY_IDX : Field := ⟨0x10C, 14, 2, .ro, [0], 1, 4⟩
def LFM.RX_CSF_HI.LF_IDX : Field := ⟨0x10C, 8, 6, .ro, [0], 1, 4⟩
def LFM.RX_CSF_HI.CSF : Field := ⟨0x10C, 0, 8, .ro, [0], 1, 4⟩
def LFM.RX_LF_LO.COUNT : Field := ⟨0x110, 0, 32, .ro, [0], 1, 4⟩
def LFM.RX_LF_HI.COUNT : Field := ⟨0x114, 0, 16, .ro, [0], 1, 4⟩
def LFM.HCS_ERR.COUNT : Field := ⟨0x118, 0, 32, .ro, [0], 1, 4⟩
def LFM.FAW_ERR.COUNT : Field := ⟨0x11C, 0, 32, .ro, [0], 1, 4⟩
def LFM.LOF_CNT.COUNT : Field := ⟨0x120, 0, 32, .ro, [0], 1, 4⟩
def LFM.MISMATCH.COUNT : Field := ⟨0x124, 0, 32, .ro, [0], 1, 4⟩
def LFM.FECBAD_LF.COUNT : Field := ⟨0x128, 0, 32, .ro, [0], 1, 4⟩
def LFM.RX_BLANKED.COUNT : Field := ⟨0x12C, 0, 32, .ro, [0], 1, 4⟩
def LFM.SEQ_JUMP.COUNT : Field := ⟨0x130, 0, 32, .ro, [0], 1, 4⟩
def LFM.RX_DATA_LO.COUNT : Field := ⟨0x134, 0, 32, .ro, [0], 1, 4⟩
def LFM.RX_DATA_HI.COUNT : Field := ⟨0x138, 0, 16, .ro, [0], 1, 4⟩
def LFM.ECB_CNT.COUNT : Field := ⟨0x13C, 0, 32, .ro, [0], 1, 4⟩

/-- The block-specific fields of LFM. -/
def LFM.fields : List Field :=
  [LFM.MODE.MODE, LFM.TX_CSF_LO.CSF, LFM.TX_CSF_HI.LF_IDX, LFM.TX_CSF_HI.CSF, LFM.TX_LF_LO.COUNT, LFM.TX_LF_HI.COUNT]
  ++ [LFM.TX_DATA_LO.COUNT, LFM.TX_DATA_HI.COUNT, LFM.TX_BLANKED.COUNT, LFM.JUST_RANGE.CLR, LFM.JUST_RANGE.MAX_DATA, LFM.JUST_RANGE.MIN_DATA]
  ++ [LFM.JUST_OVF.COUNT, LFM.JUST_OCC.COUNT, LFM.RX_CTL.EXPECT_CARRIER, LFM.RX_CTL.LOF_N, LFM.RX_CTL.FAW_TOL, LFM.RX_STAT.BLANKED]
  ++ [LFM.RX_STAT.FSTATE, LFM.RX_CSF_LO.CSF, LFM.RX_CSF_HI.KEY_IDX, LFM.RX_CSF_HI.LF_IDX, LFM.RX_CSF_HI.CSF, LFM.RX_LF_LO.COUNT]
  ++ [LFM.RX_LF_HI.COUNT, LFM.HCS_ERR.COUNT, LFM.FAW_ERR.COUNT, LFM.LOF_CNT.COUNT, LFM.MISMATCH.COUNT, LFM.FECBAD_LF.COUNT]
  ++ [LFM.RX_BLANKED.COUNT, LFM.SEQ_JUMP.COUNT, LFM.RX_DATA_LO.COUNT, LFM.RX_DATA_HI.COUNT, LFM.ECB_CNT.COUNT]

/-! LPM: the field tables of R431. -/

def LPM.CTL.LAP_WARN : Field := ⟨0x040, 24, 8, .rwL, [0x78], 1, 4⟩
def LPM.CTL.SCRUB_RATE : Field := ⟨0x040, 8, 8, .rwL, [0xa], 1, 4⟩
def LPM.CTL.HARD_REMAP_EN : Field := ⟨0x040, 1, 1, .rwL, [1], 1, 4⟩
def LPM.CTL.SCRUB_EN : Field := ⟨0x040, 0, 1, .rwL, [1], 1, 4⟩
def LPM.STAT.HARD_NOREMAP : Field := ⟨0x044, 2, 1, .ro, [0], 1, 4⟩
def LPM.STAT.SELF_REFRESH : Field := ⟨0x044, 1, 1, .ro, [0], 1, 4⟩
def LPM.STAT.READY : Field := ⟨0x044, 0, 1, .ro, [0], 1, 4⟩
def LPM.INIT_READ.COUNT : Field := ⟨0x048, 0, 32, .ro, [0], 1, 4⟩
def LPM.INIT_GRAN.COUNT : Field := ⟨0x04C, 0, 17, .ro, [0], 1, 4⟩
def LPM.SCRUB.LAPS : Field := ⟨0x050, 16, 16, .ro, [0], 1, 4⟩
def LPM.SCRUB.LAP_S : Field := ⟨0x050, 0, 16, .ro, [0], 1, 4⟩
def LPM.CE_CNT.COUNT : Field := ⟨0x054, 0, 32, .ro, [0], 1, 4⟩
def LPM.UE_CNT.COUNT : Field := ⟨0x058, 0, 32, .ro, [0], 1, 4⟩
def LPM.LINK_ERR.COUNT : Field := ⟨0x05C, 0, 32, .ro, [0], 1, 4⟩
def LPM.HARD_CNT.REMAPPED : Field := ⟨0x060, 16, 16, .ro, [0], 1, 4⟩
def LPM.HARD_CNT.NOREMAP : Field := ⟨0x060, 0, 16, .ro, [0], 1, 4⟩
def LPM.LAST_LO.LINE : Field := ⟨0x064, 0, 32, .ro, [0], 1, 4⟩
def LPM.LAST_HI.LINE : Field := ⟨0x068, 0, 6, .ro, [0], 1, 4⟩
def LPM.SPARE_FREE.COUNT : Field := ⟨0x06C, 0, 9, .ro, [0x100], 1, 4⟩
def LPM.POISONED.COUNT : Field := ⟨0x070, 0, 32, .ro, [0], 1, 4⟩

/-- The block-specific fields of LPM. -/
def LPM.fields : List Field :=
  [LPM.CTL.LAP_WARN, LPM.CTL.SCRUB_RATE, LPM.CTL.HARD_REMAP_EN, LPM.CTL.SCRUB_EN, LPM.STAT.HARD_NOREMAP, LPM.STAT.SELF_REFRESH]
  ++ [LPM.STAT.READY, LPM.INIT_READ.COUNT, LPM.INIT_GRAN.COUNT, LPM.SCRUB.LAPS, LPM.SCRUB.LAP_S, LPM.CE_CNT.COUNT]
  ++ [LPM.UE_CNT.COUNT, LPM.LINK_ERR.COUNT, LPM.HARD_CNT.REMAPPED, LPM.HARD_CNT.NOREMAP, LPM.LAST_LO.LINE, LPM.LAST_HI.LINE]
  ++ [LPM.SPARE_FREE.COUNT, LPM.POISONED.COUNT]

/-! LRX: the field tables of R144. -/

def LRX.AFE_CTL.GAIN_SET : Field := ⟨0x040, 8, 6, .rwL, [0x14], 1, 4⟩
def LRX.AFE_CTL.CTLE : Field := ⟨0x040, 4, 4, .rwL, [6], 1, 4⟩
def LRX.AFE_CTL.CLIP_STEP_EN : Field := ⟨0x040, 3, 1, .rwL, [1], 1, 4⟩
def LRX.AFE_CTL.AGC_MODE : Field := ⟨0x040, 0, 2, .rwL, [1], 1, 4⟩
def LRX.AGC_CFG.CLIP_THR : Field := ⟨0x044, 20, 8, .rwL, [8], 1, 4⟩
def LRX.AGC_CFG.PERIOD : Field := ⟨0x044, 16, 4, .rwL, [2], 1, 4⟩
def LRX.AGC_CFG.TOL : Field := ⟨0x044, 8, 4, .rwL, [2], 1, 4⟩
def LRX.AGC_CFG.TARGET : Field := ⟨0x044, 0, 7, .rwL, [0x12], 1, 4⟩
def LRX.GAIN_STAT.APPLIED : Field := ⟨0x048, 8, 6, .ro, [0x14], 1, 4⟩
def LRX.GAIN_STAT.AT_MAX : Field := ⟨0x048, 3, 1, .ro, [0], 1, 4⟩
def LRX.GAIN_STAT.AT_MIN : Field := ⟨0x048, 2, 1, .ro, [0], 1, 4⟩
def LRX.GAIN_STAT.CLIP_INT : Field := ⟨0x048, 1, 1, .ro, [0], 1, 4⟩
def LRX.GAIN_STAT.SETTLING : Field := ⟨0x048, 0, 1, .ro, [0], 1, 4⟩
def LRX.FAST_CNT.COUNT : Field := ⟨0x04C, 0, 32, .ro, [0], 1, 4⟩
def LRX.CLIP_BLK.COUNT : Field := ⟨0x050, 0, 32, .ro, [0], 1, 4⟩
def LRX.CLIP_INT_CNT.COUNT : Field := ⟨0x054, 0, 32, .ro, [0], 1, 4⟩
def LRX.RMS.RMS : Field := ⟨0x058, 0, 16, .ro, [0], 1, 4⟩
def LRX.CAL_CTL.UNRETIRE : Field := ⟨0x060, 2, 1, .wo, [0], 1, 4⟩
def LRX.CAL_CTL.FG_ON_START : Field := ⟨0x060, 1, 1, .rwS, [1], 1, 4⟩
def LRX.CAL_CTL.BG_EN : Field := ⟨0x060, 0, 1, .rwL, [1], 1, 4⟩
def LRX.ROT_STAT.FROZEN : Field := ⟨0x064, 19, 1, .ro, [0], 1, 4⟩
def LRX.ROT_STAT.RETIRED : Field := ⟨0x064, 18, 1, .ro, [0], 1, 4⟩
def LRX.ROT_STAT.PHASE : Field := ⟨0x064, 16, 2, .ro, [0], 1, 4⟩
def LRX.ROT_STAT.POS : Field := ⟨0x064, 8, 6, .ro, [0], 1, 4⟩
def LRX.ROT_STAT.SPARE : Field := ⟨0x064, 0, 7, .ro, [0x40], 1, 4⟩
def LRX.LAP_CNT.COUNT : Field := ⟨0x068, 0, 32, .ro, [0], 1, 4⟩
def LRX.CAL_REJ.COUNT : Field := ⟨0x06C, 0, 16, .ro, [0], 1, 4⟩
def LRX.SLICE_IDX.SLICE : Field := ⟨0x070, 0, 7, .rwL, [0], 1, 4⟩
def LRX.SLICE_TRIM.REJ_RUN : Field := ⟨0x074, 30, 2, .ro, [0], 1, 4⟩
def LRX.SLICE_TRIM.SKEW : Field := ⟨0x074, 16, 12, .ro, [0], 1, 4⟩
def LRX.SLICE_TRIM.GAIN : Field := ⟨0x074, 8, 8, .ro, [0], 1, 4⟩
def LRX.SLICE_TRIM.OFFSET : Field := ⟨0x074, 0, 8, .ro, [0], 1, 4⟩
def LRX.HIST_CTL.LOG2_SAMPLES : Field := ⟨0x080, 16, 5, .rwL, [0x14], 1, 4⟩
def LRX.HIST_CTL.SLICE : Field := ⟨0x080, 8, 7, .rwL, [0], 1, 4⟩
def LRX.HIST_CTL.ALL : Field := ⟨0x080, 1, 1, .rwL, [1], 1, 4⟩
def LRX.HIST_CTL.START : Field := ⟨0x080, 0, 1, .wo, [0], 1, 4⟩
def LRX.HIST_STAT.OVR : Field := ⟨0x084, 8, 8, .ro, [0], 1, 4⟩
def LRX.HIST_STAT.SLICE_SWAP : Field := ⟨0x084, 3, 1, .ro, [0], 1, 4⟩
def LRX.HIST_STAT.GAIN_CHG : Field := ⟨0x084, 2, 1, .ro, [0], 1, 4⟩
def LRX.HIST_STAT.DONE : Field := ⟨0x084, 1, 1, .ro, [0], 1, 4⟩
def LRX.HIST_STAT.BUSY : Field := ⟨0x084, 0, 1, .ro, [0], 1, 4⟩
def LRX.SNAP_CTL.SLICE : Field := ⟨0x090, 8, 7, .rwL, [0], 1, 4⟩
def LRX.SNAP_CTL.SLICE_MODE : Field := ⟨0x090, 1, 1, .rwL, [0], 1, 4⟩
def LRX.SNAP_CTL.ARM : Field := ⟨0x090, 0, 1, .rwL, [0], 1, 4⟩
def LRX.SNAP_STAT.NO_CLK : Field := ⟨0x094, 4, 1, .ro, [0], 1, 4⟩
def LRX.SNAP_STAT.STOPPED : Field := ⟨0x094, 3, 1, .ro, [0], 1, 4⟩
def LRX.SNAP_STAT.TRUNC : Field := ⟨0x094, 2, 1, .ro, [0], 1, 4⟩
def LRX.SNAP_STAT.CAPTURING : Field := ⟨0x094, 1, 1, .ro, [0], 1, 4⟩
def LRX.SNAP_STAT.ARMED : Field := ⟨0x094, 0, 1, .ro, [0], 1, 4⟩
def LRX.CLIPS.COUNT : Field := ⟨0x200, 0, 32, .ro, [0], 65, 4⟩
def LRX.HIST_B.COUNT : Field := ⟨0x400, 0, 32, .ro, [0], 127, 4⟩

/-- The block-specific fields of LRX. -/
def LRX.fields : List Field :=
  [LRX.AFE_CTL.GAIN_SET, LRX.AFE_CTL.CTLE, LRX.AFE_CTL.CLIP_STEP_EN, LRX.AFE_CTL.AGC_MODE, LRX.AGC_CFG.CLIP_THR, LRX.AGC_CFG.PERIOD]
  ++ [LRX.AGC_CFG.TOL, LRX.AGC_CFG.TARGET, LRX.GAIN_STAT.APPLIED, LRX.GAIN_STAT.AT_MAX, LRX.GAIN_STAT.AT_MIN, LRX.GAIN_STAT.CLIP_INT]
  ++ [LRX.GAIN_STAT.SETTLING, LRX.FAST_CNT.COUNT, LRX.CLIP_BLK.COUNT, LRX.CLIP_INT_CNT.COUNT, LRX.RMS.RMS, LRX.CAL_CTL.UNRETIRE]
  ++ [LRX.CAL_CTL.FG_ON_START, LRX.CAL_CTL.BG_EN, LRX.ROT_STAT.FROZEN, LRX.ROT_STAT.RETIRED, LRX.ROT_STAT.PHASE, LRX.ROT_STAT.POS]
  ++ [LRX.ROT_STAT.SPARE, LRX.LAP_CNT.COUNT, LRX.CAL_REJ.COUNT, LRX.SLICE_IDX.SLICE, LRX.SLICE_TRIM.REJ_RUN, LRX.SLICE_TRIM.SKEW]
  ++ [LRX.SLICE_TRIM.GAIN, LRX.SLICE_TRIM.OFFSET, LRX.HIST_CTL.LOG2_SAMPLES, LRX.HIST_CTL.SLICE, LRX.HIST_CTL.ALL, LRX.HIST_CTL.START]
  ++ [LRX.HIST_STAT.OVR, LRX.HIST_STAT.SLICE_SWAP, LRX.HIST_STAT.GAIN_CHG, LRX.HIST_STAT.DONE, LRX.HIST_STAT.BUSY, LRX.SNAP_CTL.SLICE]
  ++ [LRX.SNAP_CTL.SLICE_MODE, LRX.SNAP_CTL.ARM, LRX.SNAP_STAT.NO_CLK, LRX.SNAP_STAT.STOPPED, LRX.SNAP_STAT.TRUNC, LRX.SNAP_STAT.CAPTURING]
  ++ [LRX.SNAP_STAT.ARMED, LRX.CLIPS.COUNT, LRX.HIST_B.COUNT]

/-! LTX: the field tables of R121. -/

def LTX.PAT_CTL.SQ_HALF : Field := ⟨0x040, 8, 8, .rwL, [0], 1, 4⟩
def LTX.PAT_CTL.INVERT : Field := ⟨0x040, 7, 1, .rwL, [0], 1, 4⟩
def LTX.PAT_CTL.LEVELS : Field := ⟨0x040, 6, 1, .rwL, [0], 1, 4⟩
def LTX.PAT_CTL.POLY : Field := ⟨0x040, 3, 3, .rwL, [0], 1, 4⟩
def LTX.PAT_CTL.MODE : Field := ⟨0x040, 0, 3, .rwL, [0], 1, 4⟩
def LTX.PAT_SEED.SEED : Field := ⟨0x044, 0, 31, .rwL, [0x7fffffff], 1, 4⟩
def LTX.PAT_CODE.CODE : Field := ⟨0x048, 0, 8, .rwL, [0x80], 1, 4⟩
def LTX.PRAM_IDX.INDEX : Field := ⟨0x04C, 0, 11, .rwL, [0], 1, 4⟩
def LTX.PRAM_DATA.SAMPLES : Field := ⟨0x050, 0, 32, .rwL, [0x80808080], 1, 4⟩
def LTX.GAIN.GAIN : Field := ⟨0x054, 0, 13, .rwL, [0x800], 1, 4⟩
def LTX.CLIP_CNT.COUNT : Field := ⟨0x058, 0, 32, .ro, [0], 1, 4⟩
def LTX.STAT.SPARE_SUB : Field := ⟨0x05C, 8, 2, .ro, [0], 1, 4⟩
def LTX.STAT.SPARE_POS : Field := ⟨0x05C, 4, 4, .ro, [0], 1, 4⟩
def LTX.STAT.CAL_BG : Field := ⟨0x05C, 2, 1, .ro, [0], 1, 4⟩
def LTX.STAT.CAL_FG : Field := ⟨0x05C, 1, 1, .ro, [0], 1, 4⟩
def LTX.STAT.GATE : Field := ⟨0x05C, 0, 1, .ro, [0], 1, 4⟩
def LTX.FIR0_T.COEF : Field := ⟨0x080, 0, 10, .rwL, [0, 0, 0, 0, 0x100, 0], 9, 4⟩
def LTX.FIR1_T.COEF : Field := ⟨0x0C0, 0, 10, .rwL, [0, 0, 0, 0, 0x100, 0], 9, 4⟩

/-- The block-specific fields of LTX. -/
def LTX.fields : List Field :=
  [LTX.PAT_CTL.SQ_HALF, LTX.PAT_CTL.INVERT, LTX.PAT_CTL.LEVELS, LTX.PAT_CTL.POLY, LTX.PAT_CTL.MODE, LTX.PAT_SEED.SEED]
  ++ [LTX.PAT_CODE.CODE, LTX.PRAM_IDX.INDEX, LTX.PRAM_DATA.SAMPLES, LTX.GAIN.GAIN, LTX.CLIP_CNT.COUNT, LTX.STAT.SPARE_SUB]
  ++ [LTX.STAT.SPARE_POS, LTX.STAT.CAL_BG, LTX.STAT.CAL_FG, LTX.STAT.GATE, LTX.FIR0_T.COEF, LTX.FIR1_T.COEF]

/-! MLS: the field tables of R197. -/

def MLS.CTL.EST_LOG2 : Field := ⟨0x040, 4, 4, .rwL, [4], 1, 4⟩
def MLS.CTL.H_FIXED : Field := ⟨0x040, 1, 1, .rwL, [0], 1, 4⟩
def MLS.CTL.EN : Field := ⟨0x040, 0, 1, .rwS, [1], 1, 4⟩
def MLS.TRIB.H1 : Field := ⟨0x044, 16, 16, .ro, [0], 4, 4⟩
def MLS.TRIB.H1_SET : Field := ⟨0x044, 0, 16, .rwL, [0], 4, 4⟩
def MLS.RESET_CNT.COUNT : Field := ⟨0x054, 0, 32, .ro, [0], 1, 4⟩
def MLS.LIMIT_CNT.COUNT : Field := ⟨0x058, 0, 32, .ro, [0], 1, 4⟩

/-- The block-specific fields of MLS. -/
def MLS.fields : List Field :=
  [MLS.CTL.EST_LOG2, MLS.CTL.H_FIXED, MLS.CTL.EN, MLS.TRIB.H1, MLS.TRIB.H1_SET, MLS.RESET_CNT.COUNT]
  ++ [MLS.LIMIT_CNT.COUNT]

/-! MRM: the field tables of R455. -/

def MRM.VALID.SLOTS : Field := ⟨0x040, 0, 12, .ro, [0], 1, 4⟩
def MRM.NEWEST.SLOT : Field := ⟨0x044, 0, 6, .ro, [0], 1, 4⟩
def MRM.COMMITS.COUNT : Field := ⟨0x048, 0, 32, .ro, [0], 1, 4⟩
def MRM.START.LOST : Field := ⟨0x04C, 16, 16, .ro, [0], 1, 4⟩
def MRM.START.TORN : Field := ⟨0x04C, 0, 16, .ro, [0], 1, 4⟩
def MRM.CE_CNT.COUNT : Field := ⟨0x050, 0, 32, .ro, [0], 1, 4⟩
def MRM.UE_CNT.COUNT : Field := ⟨0x054, 0, 32, .ro, [0], 1, 4⟩

/-- The block-specific fields of MRM. -/
def MRM.fields : List Field :=
  [MRM.VALID.SLOTS, MRM.NEWEST.SLOT, MRM.COMMITS.COUNT, MRM.START.LOST, MRM.START.TORN, MRM.CE_CNT.COUNT]
  ++ [MRM.UE_CNT.COUNT]

/-! PLN: the field tables of R475. -/

def PLN.STAT.TAMPER_IN : Field := ⟨0x040, 24, 4, .ro, [0], 1, 4⟩
def PLN.STAT.RK0_RESETS : Field := ⟨0x040, 18, 2, .ro, [0], 1, 4⟩
def PLN.STAT.RK0_RECOVERY : Field := ⟨0x040, 17, 1, .ro, [0], 1, 4⟩
def PLN.STAT.ID_OK : Field := ⟨0x040, 16, 1, .ro, [0], 1, 4⟩
def PLN.STAT.PROVISION : Field := ⟨0x040, 8, 1, .ro, [0], 1, 4⟩
def PLN.STAT.SCAN_OPEN : Field := ⟨0x040, 7, 1, .ro, [0], 1, 4⟩
def PLN.STAT.TEST_OPEN : Field := ⟨0x040, 6, 1, .ro, [0], 1, 4⟩
def PLN.STAT.PSK_LOADED : Field := ⟨0x040, 5, 1, .ro, [0], 1, 4⟩
def PLN.STAT.OFFICER_SET : Field := ⟨0x040, 4, 1, .ro, [0], 1, 4⟩
def PLN.STAT.TAMPER_LATCH : Field := ⟨0x040, 3, 1, .ro, [0], 1, 4⟩
def PLN.STAT.ZEROISED : Field := ⟨0x040, 2, 1, .ro, [0], 1, 4⟩
def PLN.STAT.LOCKSTEP_FAIL : Field := ⟨0x040, 1, 1, .ro, [0], 1, 4⟩
def PLN.STAT.READY : Field := ⟨0x040, 0, 1, .ro, [0], 1, 4⟩
def PLN.HOLD.HOLD_B : Field := ⟨0x044, 8, 5, .ro, [0], 1, 4⟩
def PLN.HOLD.HOLD_A : Field := ⟨0x044, 0, 5, .ro, [0], 1, 4⟩
def PLN.POLICY.HB_PERIOD : Field := ⟨0x048, 8, 8, .po, [0xa], 1, 4⟩
def PLN.POLICY.ATTEST_MODE : Field := ⟨0x048, 4, 1, .po, [0], 1, 4⟩
def PLN.POLICY.TAGBURST_ACT : Field := ⟨0x048, 2, 2, .po, [1], 1, 4⟩
def PLN.POLICY.TAP_ACT : Field := ⟨0x048, 0, 2, .po, [1], 1, 4⟩
def PLN.ALS_CFG.PERIOD : Field := ⟨0x04C, 16, 8, .po, [0x64], 1, 4⟩
def PLN.ALS_CFG.DETECT : Field := ⟨0x04C, 8, 8, .po, [5], 1, 4⟩
def PLN.ALS_CFG.EN_B : Field := ⟨0x04C, 1, 1, .po, [1], 1, 4⟩
def PLN.ALS_CFG.EN_A : Field := ⟨0x04C, 0, 1, .po, [1], 1, 4⟩
def PLN.ALS_STAT.PULSES : Field := ⟨0x050, 16, 16, .ro, [0], 1, 4⟩
def PLN.ALS_STAT.STATE_B : Field := ⟨0x050, 2, 2, .ro, [0], 1, 4⟩
def PLN.ALS_STAT.STATE_A : Field := ⟨0x050, 0, 2, .ro, [0], 1, 4⟩
def PLN.TAMPER_CFG.POL : Field := ⟨0x054, 4, 4, .po, [0], 1, 4⟩
def PLN.TAMPER_CFG.EN : Field := ⟨0x054, 0, 4, .po, [0xf], 1, 4⟩
def PLN.TAMPER_STAT.COUNT : Field := ⟨0x058, 16, 16, .ro, [0], 1, 4⟩
def PLN.TAMPER_STAT.LATCHED : Field := ⟨0x058, 0, 4, .ro, [0], 1, 4⟩
def PLN.HOLD_SET.CMD_B : Field := ⟨0x05C, 1, 1, .po, [0], 1, 4⟩
def PLN.HOLD_SET.CMD_A : Field := ⟨0x05C, 0, 1, .po, [0], 1, 4⟩
def PLN.REPLAY_LO.COUNTER : Field := ⟨0x060, 0, 32, .ro, [0], 1, 4⟩
def PLN.REPLAY_HI.COUNTER : Field := ⟨0x064, 0, 32, .ro, [0], 1, 4⟩
def PLN.LAST_CAPS.RESULT : Field := ⟨0x068, 24, 8, .ro, [0], 1, 4⟩
def PLN.LAST_CAPS.CMD : Field := ⟨0x068, 16, 8, .ro, [0], 1, 4⟩
def PLN.LAST_CAPS.ACCEPTED : Field := ⟨0x068, 0, 16, .ro, [0], 1, 4⟩
def PLN.ZERO_CNT.COUNT : Field := ⟨0x06C, 16, 16, .ro, [0], 1, 4⟩
def PLN.ZERO_CNT.LAST_CAUSE : Field := ⟨0x06C, 0, 8, .ro, [0], 1, 4⟩
def PLN.RK0_WATCH.FAILURES : Field := ⟨0x070, 16, 16, .ro, [0], 1, 4⟩
def PLN.RK0_WATCH.RESETS : Field := ⟨0x070, 0, 16, .ro, [0], 1, 4⟩
def PLN.TEST_LEFT.MIN : Field := ⟨0x074, 0, 11, .ro, [0], 1, 4⟩
def PLN.SECLOG_LO.SEQ : Field := ⟨0x078, 0, 32, .ro, [0], 1, 4⟩
def PLN.SECLOG_HI.SEQ : Field := ⟨0x07C, 0, 32, .ro, [0], 1, 4⟩
def PLN.MBX_CTL.GO : Field := ⟨0x080, 31, 1, .wo, [0], 1, 4⟩
def PLN.MBX_CTL.REQ : Field := ⟨0x080, 16, 8, .rwL, [0], 1, 4⟩
def PLN.MBX_CTL.LEN : Field := ⟨0x080, 0, 16, .rwL, [0], 1, 4⟩
def PLN.MBX_STAT.OUT_LEN : Field := ⟨0x084, 16, 16, .ro, [0], 1, 4⟩
def PLN.MBX_STAT.RESULT : Field := ⟨0x084, 8, 8, .ro, [0], 1, 4⟩
def PLN.MBX_STAT.STATE : Field := ⟨0x084, 0, 2, .ro, [0], 1, 4⟩
def PLN.MBX_IN.DATA : Field := ⟨0x088, 0, 32, .wo, [0], 1, 4⟩
def PLN.MBX_OUT.DATA : Field := ⟨0x08C, 0, 32, .ro, [0], 1, 4⟩

/-- The block-specific fields of PLN. -/
def PLN.fields : List Field :=
  [PLN.STAT.TAMPER_IN, PLN.STAT.RK0_RESETS, PLN.STAT.RK0_RECOVERY, PLN.STAT.ID_OK, PLN.STAT.PROVISION, PLN.STAT.SCAN_OPEN]
  ++ [PLN.STAT.TEST_OPEN, PLN.STAT.PSK_LOADED, PLN.STAT.OFFICER_SET, PLN.STAT.TAMPER_LATCH, PLN.STAT.ZEROISED, PLN.STAT.LOCKSTEP_FAIL]
  ++ [PLN.STAT.READY, PLN.HOLD.HOLD_B, PLN.HOLD.HOLD_A, PLN.POLICY.HB_PERIOD, PLN.POLICY.ATTEST_MODE, PLN.POLICY.TAGBURST_ACT]
  ++ [PLN.POLICY.TAP_ACT, PLN.ALS_CFG.PERIOD, PLN.ALS_CFG.DETECT, PLN.ALS_CFG.EN_B, PLN.ALS_CFG.EN_A, PLN.ALS_STAT.PULSES]
  ++ [PLN.ALS_STAT.STATE_B, PLN.ALS_STAT.STATE_A, PLN.TAMPER_CFG.POL, PLN.TAMPER_CFG.EN, PLN.TAMPER_STAT.COUNT, PLN.TAMPER_STAT.LATCHED]
  ++ [PLN.HOLD_SET.CMD_B, PLN.HOLD_SET.CMD_A, PLN.REPLAY_LO.COUNTER, PLN.REPLAY_HI.COUNTER, PLN.LAST_CAPS.RESULT, PLN.LAST_CAPS.CMD]
  ++ [PLN.LAST_CAPS.ACCEPTED, PLN.ZERO_CNT.COUNT, PLN.ZERO_CNT.LAST_CAUSE, PLN.RK0_WATCH.FAILURES, PLN.RK0_WATCH.RESETS, PLN.TEST_LEFT.MIN]
  ++ [PLN.SECLOG_LO.SEQ, PLN.SECLOG_HI.SEQ, PLN.MBX_CTL.GO, PLN.MBX_CTL.REQ, PLN.MBX_CTL.LEN, PLN.MBX_STAT.OUT_LEN]
  ++ [PLN.MBX_STAT.RESULT, PLN.MBX_STAT.STATE, PLN.MBX_IN.DATA, PLN.MBX_OUT.DATA]

/-! PWR: the field tables of R527. -/

def PWR.REQ.STATE : Field := ⟨0x040, 0, 3, .wo, [0], 1, 4⟩
def PWR.STAT.OFF_READY : Field := ⟨0x044, 12, 1, .ro, [0], 1, 4⟩
def PWR.STAT.REG_FAULT : Field := ⟨0x044, 11, 1, .ro, [0], 1, 4⟩
def PWR.STAT.PENDING : Field := ⟨0x044, 8, 3, .ro, [0], 1, 4⟩
def PWR.STAT.PEND_V : Field := ⟨0x044, 7, 1, .ro, [0], 1, 4⟩
def PWR.STAT.TARGET : Field := ⟨0x044, 4, 3, .ro, [0], 1, 4⟩
def PWR.STAT.TRANS : Field := ⟨0x044, 3, 1, .ro, [0], 1, 4⟩
def PWR.STAT.STATE : Field := ⟨0x044, 0, 3, .ro, [0], 1, 4⟩
def PWR.REQ_CNT.SUPERSEDED : Field := ⟨0x048, 16, 16, .ro, [0], 1, 4⟩
def PWR.REQ_CNT.MERGED : Field := ⟨0x048, 0, 16, .ro, [0], 1, 4⟩
def PWR.REFUSE_CNT.COUNT : Field := ⟨0x04C, 0, 32, .ro, [0], 1, 4⟩
def PWR.WAKE_EN.EN : Field := ⟨0x050, 0, 7, .rwL, [0x7f], 1, 4⟩
def PWR.WAKE_STAT.CAUSE : Field := ⟨0x054, 0, 4, .ro, [0], 1, 4⟩
def PWR.GOV_CFG.STEP_GAP : Field := ⟨0x058, 8, 8, .rwL, [0x14], 1, 4⟩
def PWR.GOV_CFG.MODE : Field := ⟨0x058, 0, 2, .rwL, [0], 1, 4⟩
def PWR.GOV_LIM.CEIL : Field := ⟨0x05C, 8, 5, .rwS, [0x1e], 1, 4⟩
def PWR.GOV_LIM.FLOOR : Field := ⟨0x05C, 0, 5, .rwS, [0], 1, 4⟩
def PWR.GOV_POL.EVAL : Field := ⟨0x060, 24, 8, .rwS, [0xa], 1, 4⟩
def PWR.GOV_POL.DOWN_N : Field := ⟨0x060, 16, 8, .rwS, [0xa], 1, 4⟩
def PWR.GOV_POL.UP_FRAC : Field := ⟨0x060, 0, 16, .rwS, [0x28f], 1, 4⟩
def PWR.GOV_FF.SLIP_STEPS : Field := ⟨0x064, 12, 4, .rwS, [2], 1, 4⟩
def PWR.GOV_FF.FF_MAX : Field := ⟨0x064, 8, 4, .rwS, [4], 1, 4⟩
def PWR.GOV_FF.FF_DT : Field := ⟨0x064, 0, 8, .rwS, [5], 1, 4⟩
def PWR.GOV_THR.CLI_OUT : Field := ⟨0x068, 24, 8, .rwS, [0x60], 1, 4⟩
def PWR.GOV_THR.CLI_IN : Field := ⟨0x068, 16, 8, .rwS, [0xa0], 1, 4⟩
def PWR.GOV_THR.LINE_OUT : Field := ⟨0x068, 8, 8, .rwS, [0x10], 1, 4⟩
def PWR.GOV_THR.LINE_IN : Field := ⟨0x068, 0, 8, .rwS, [0x18], 1, 4⟩
def PWR.VDD.RUN_CODE : Field := ⟨0x06C, 24, 5, .ro, [0x1e], 1, 4⟩
def PWR.VDD.MANUAL : Field := ⟨0x06C, 16, 5, .rwL, [0x1e], 1, 4⟩
def PWR.VDD.TARGET : Field := ⟨0x06C, 8, 5, .ro, [0x1e], 1, 4⟩
def PWR.VDD.APPLIED : Field := ⟨0x06C, 0, 5, .ro, [0x1e], 1, 4⟩
def PWR.AVS_STAT.FAIL_CNT : Field := ⟨0x070, 16, 16, .ro, [0], 1, 4⟩
def PWR.AVS_STAT.RETRIES : Field := ⟨0x070, 0, 16, .ro, [0], 1, 4⟩
def PWR.GOV_CNT.UP : Field := ⟨0x074, 16, 16, .ro, [0], 1, 4⟩
def PWR.GOV_CNT.DOWN : Field := ⟨0x074, 0, 16, .ro, [0], 1, 4⟩
def PWR.GOV_EVT.SLIP_UP : Field := ⟨0x078, 16, 16, .ro, [0], 1, 4⟩
def PWR.GOV_EVT.FF_UP : Field := ⟨0x078, 0, 16, .ro, [0], 1, 4⟩
def PWR.REFUSE_IDX.NEWEST : Field := ⟨0x07C, 0, 4, .ro, [0], 1, 4⟩
def PWR.RESUME_LO.PAGES : Field := ⟨0x084, 0, 32, .ro, [0], 1, 4⟩
def PWR.RESUME_HI.PAGES : Field := ⟨0x088, 0, 7, .ro, [0], 1, 4⟩
def PWR.REFUSE_LOG.ENTRY : Field := ⟨0x100, 0, 32, .ro, [0], 16, 4⟩

/-- The block-specific fields of PWR. -/
def PWR.fields : List Field :=
  [PWR.REQ.STATE, PWR.STAT.OFF_READY, PWR.STAT.REG_FAULT, PWR.STAT.PENDING, PWR.STAT.PEND_V, PWR.STAT.TARGET]
  ++ [PWR.STAT.TRANS, PWR.STAT.STATE, PWR.REQ_CNT.SUPERSEDED, PWR.REQ_CNT.MERGED, PWR.REFUSE_CNT.COUNT, PWR.WAKE_EN.EN]
  ++ [PWR.WAKE_STAT.CAUSE, PWR.GOV_CFG.STEP_GAP, PWR.GOV_CFG.MODE, PWR.GOV_LIM.CEIL, PWR.GOV_LIM.FLOOR, PWR.GOV_POL.EVAL]
  ++ [PWR.GOV_POL.DOWN_N, PWR.GOV_POL.UP_FRAC, PWR.GOV_FF.SLIP_STEPS, PWR.GOV_FF.FF_MAX, PWR.GOV_FF.FF_DT, PWR.GOV_THR.CLI_OUT]
  ++ [PWR.GOV_THR.CLI_IN, PWR.GOV_THR.LINE_OUT, PWR.GOV_THR.LINE_IN, PWR.VDD.RUN_CODE, PWR.VDD.MANUAL, PWR.VDD.TARGET]
  ++ [PWR.VDD.APPLIED, PWR.AVS_STAT.FAIL_CNT, PWR.AVS_STAT.RETRIES, PWR.GOV_CNT.UP, PWR.GOV_CNT.DOWN, PWR.GOV_EVT.SLIP_UP]
  ++ [PWR.GOV_EVT.FF_UP, PWR.REFUSE_IDX.NEWEST, PWR.RESUME_LO.PAGES, PWR.RESUME_HI.PAGES, PWR.REFUSE_LOG.ENTRY]

/-! QLT: the field tables of R269. -/

def QLT.CTL.RETX_MAX : Field := ⟨0x040, 12, 4, .rwL, [8], 1, 4⟩
def QLT.CTL.AUTO_STEP : Field := ⟨0x040, 8, 1, .rwL, [1], 1, 4⟩
def QLT.CTL.WAKE_ANSWER : Field := ⟨0x040, 2, 1, .rwL, [1], 1, 4⟩
def QLT.CTL.ROLE_SRC : Field := ⟨0x040, 1, 1, .rwS, [0], 1, 4⟩
def QLT.CTL.ROLE : Field := ⟨0x040, 0, 1, .rwS, [0], 1, 4⟩
def QLT.STAT.EPOCH : Field := ⟨0x044, 24, 8, .ro, [0], 1, 4⟩
def QLT.STAT.RSTATE_B : Field := ⟨0x044, 20, 4, .ro, [0], 1, 4⟩
def QLT.STAT.RSTATE_A : Field := ⟨0x044, 16, 4, .ro, [0], 1, 4⟩
def QLT.STAT.SHARED : Field := ⟨0x044, 15, 1, .ro, [0], 1, 4⟩
def QLT.STAT.ROLE_EFF : Field := ⟨0x044, 14, 1, .ro, [0], 1, 4⟩
def QLT.STAT.PATH_B : Field := ⟨0x044, 12, 2, .ro, [0], 1, 4⟩
def QLT.STAT.PATH_A : Field := ⟨0x044, 10, 2, .ro, [0], 1, 4⟩
def QLT.STAT.SESS_B : Field := ⟨0x044, 4, 3, .ro, [0], 1, 4⟩
def QLT.STAT.SESS_A : Field := ⟨0x044, 0, 3, .ro, [0], 1, 4⟩
def QLT.TARGET.MODE_MASK : Field := ⟨0x048, 8, 6, .rwL, [0x3f], 1, 4⟩
def QLT.TARGET.TARGET_B : Field := ⟨0x048, 4, 4, .rwL, [5], 1, 4⟩
def QLT.TARGET.TARGET_A : Field := ⟨0x048, 0, 4, .rwL, [5], 1, 4⟩
def QLT.STEP_CFG.DWELL : Field := ⟨0x04C, 16, 16, .rwL, [0x64], 1, 4⟩
def QLT.STEP_CFG.TIMEOUT : Field := ⟨0x04C, 8, 8, .rwL, [0xa], 1, 4⟩
def QLT.STEP_CFG.BACKOFF : Field := ⟨0x04C, 0, 8, .rwL, [0x3c], 1, 4⟩
def QLT.STEP_THR.THR : Field := ⟨0x050, 0, 32, .rwL, [0x418937, 0x68db9, 0x14f8b], 3, 4⟩
def QLT.FALL_CFG.SF_HOLD : Field := ⟨0x05C, 8, 8, .rwL, [0x64], 1, 4⟩
def QLT.FALL_CFG.LOF_HOLD : Field := ⟨0x05C, 0, 8, .rwL, [0x14], 1, 4⟩
def QLT.NEG_TARGET.NEG_B : Field := ⟨0x060, 4, 4, .ro, [0], 1, 4⟩
def QLT.NEG_TARGET.NEG_A : Field := ⟨0x060, 0, 4, .ro, [0], 1, 4⟩
def QLT.STEP_CNT.UP : Field := ⟨0x064, 16, 16, .ro, [0], 1, 4⟩
def QLT.STEP_CNT.FALLBACK : Field := ⟨0x064, 0, 16, .ro, [0], 1, 4⟩
def QLT.MSG_TX.COUNT : Field := ⟨0x068, 0, 32, .ro, [0], 1, 4⟩
def QLT.MSG_RX.COUNT : Field := ⟨0x06C, 0, 32, .ro, [0], 1, 4⟩
def QLT.RETX.COUNT : Field := ⟨0x070, 0, 32, .ro, [0], 1, 4⟩
def QLT.DUP.COUNT : Field := ⟨0x074, 0, 32, .ro, [0], 1, 4⟩
def QLT.DISCARD.LAST_CAUSE : Field := ⟨0x078, 28, 4, .ro, [0], 1, 4⟩
def QLT.DISCARD.COUNT : Field := ⟨0x078, 0, 28, .ro, [0], 1, 4⟩
def QLT.REFUSE.LAST_REASON : Field := ⟨0x07C, 24, 8, .ro, [0], 1, 4⟩
def QLT.REFUSE.LAST_TYPE : Field := ⟨0x07C, 16, 8, .ro, [0], 1, 4⟩
def QLT.REFUSE.COUNT : Field := ⟨0x07C, 0, 16, .ro, [0], 1, 4⟩
def QLT.RTTA_LO.RTT : Field := ⟨0x080, 0, 32, .ro, [0], 1, 4⟩
def QLT.RTTA_HI.VALID : Field := ⟨0x084, 31, 1, .ro, [0], 1, 4⟩
def QLT.RTTA_HI.RTT : Field := ⟨0x084, 0, 8, .ro, [0], 1, 4⟩
def QLT.RTTB_LO.RTT : Field := ⟨0x088, 0, 32, .ro, [0], 1, 4⟩
def QLT.RTTB_HI.VALID : Field := ⟨0x08C, 31, 1, .ro, [0], 1, 4⟩
def QLT.RTTB_HI.RTT : Field := ⟨0x08C, 0, 8, .ro, [0], 1, 4⟩
def QLT.TIME_CFG.PERIOD : Field := ⟨0x090, 0, 8, .rwL, [0xa], 1, 4⟩
def QLT.WAKE_CTL.SEND : Field := ⟨0x094, 31, 1, .wo, [0], 1, 4⟩
def QLT.WAKE_CTL.BURSTS : Field := ⟨0x094, 24, 4, .rwL, [8], 1, 4⟩
def QLT.WAKE_CTL.EXPECT_ID : Field := ⟨0x094, 0, 24, .rwL, [0], 1, 4⟩
def QLT.WAKE_STAT.LAST_SRC : Field := ⟨0x098, 24, 2, .ro, [0], 1, 4⟩
def QLT.WAKE_STAT.LAST_ID : Field := ⟨0x098, 0, 24, .ro, [0], 1, 4⟩
def QLT.WAKE_CNT.RX : Field := ⟨0x09C, 24, 8, .ro, [0], 1, 4⟩
def QLT.WAKE_CNT.BAD : Field := ⟨0x09C, 16, 8, .ro, [0], 1, 4⟩
def QLT.WAKE_CNT.TX : Field := ⟨0x09C, 8, 8, .ro, [0], 1, 4⟩
def QLT.PCH_STAT.LOSS : Field := ⟨0x0A0, 16, 16, .ro, [0], 1, 4⟩
def QLT.PCH_STAT.SYNC_B : Field := ⟨0x0A0, 1, 1, .ro, [0], 1, 4⟩
def QLT.PCH_STAT.SYNC_A : Field := ⟨0x0A0, 0, 1, .ro, [0], 1, 4⟩
def QLT.LAST_FAIL.CAUSE : Field := ⟨0x0A4, 0, 8, .ro, [0], 1, 4⟩
def QLT.OWN_ID.IDFRAG : Field := ⟨0x0A8, 0, 24, .ro, [0], 1, 4⟩

/-- The block-specific fields of QLT. -/
def QLT.fields : List Field :=
  [QLT.CTL.RETX_MAX, QLT.CTL.AUTO_STEP, QLT.CTL.WAKE_ANSWER, QLT.CTL.ROLE_SRC, QLT.CTL.ROLE, QLT.STAT.EPOCH]
  ++ [QLT.STAT.RSTATE_B, QLT.STAT.RSTATE_A, QLT.STAT.SHARED, QLT.STAT.ROLE_EFF, QLT.STAT.PATH_B, QLT.STAT.PATH_A]
  ++ [QLT.STAT.SESS_B, QLT.STAT.SESS_A, QLT.TARGET.MODE_MASK, QLT.TARGET.TARGET_B, QLT.TARGET.TARGET_A, QLT.STEP_CFG.DWELL]
  ++ [QLT.STEP_CFG.TIMEOUT, QLT.STEP_CFG.BACKOFF, QLT.STEP_THR.THR, QLT.FALL_CFG.SF_HOLD, QLT.FALL_CFG.LOF_HOLD, QLT.NEG_TARGET.NEG_B]
  ++ [QLT.NEG_TARGET.NEG_A, QLT.STEP_CNT.UP, QLT.STEP_CNT.FALLBACK, QLT.MSG_TX.COUNT, QLT.MSG_RX.COUNT, QLT.RETX.COUNT]
  ++ [QLT.DUP.COUNT, QLT.DISCARD.LAST_CAUSE, QLT.DISCARD.COUNT, QLT.REFUSE.LAST_REASON, QLT.REFUSE.LAST_TYPE, QLT.REFUSE.COUNT]
  ++ [QLT.RTTA_LO.RTT, QLT.RTTA_HI.VALID, QLT.RTTA_HI.RTT, QLT.RTTB_LO.RTT, QLT.RTTB_HI.VALID, QLT.RTTB_HI.RTT]
  ++ [QLT.TIME_CFG.PERIOD, QLT.WAKE_CTL.SEND, QLT.WAKE_CTL.BURSTS, QLT.WAKE_CTL.EXPECT_ID, QLT.WAKE_STAT.LAST_SRC, QLT.WAKE_STAT.LAST_ID]
  ++ [QLT.WAKE_CNT.RX, QLT.WAKE_CNT.BAD, QLT.WAKE_CNT.TX, QLT.PCH_STAT.LOSS, QLT.PCH_STAT.SYNC_B, QLT.PCH_STAT.SYNC_A]
  ++ [QLT.LAST_FAIL.CAUSE, QLT.OWN_ID.IDFRAG]

/-! RK: the field tables of R400. -/

def RK.CORE_CTL.STEP : Field := ⟨0x040, 3, 1, .wo, [0], 1, 4⟩
def RK.CORE_CTL.BP_MODE : Field := ⟨0x040, 1, 1, .rwL, [0], 1, 4⟩
def RK.CORE_CTL.BP_EN : Field := ⟨0x040, 0, 1, .rwL, [0], 1, 4⟩
def RK.BP_ADDR.ADDR : Field := ⟨0x044, 0, 14, .rwL, [0], 1, 4⟩
def RK.PC.PC : Field := ⟨0x048, 0, 14, .ro, [0], 1, 4⟩
def RK.CORE_STAT.LAST_CAUSE : Field := ⟨0x04C, 24, 8, .ro, [0], 1, 4⟩
def RK.CORE_STAT.USER : Field := ⟨0x04C, 7, 1, .ro, [0], 1, 4⟩
def RK.CORE_STAT.EXL : Field := ⟨0x04C, 6, 1, .ro, [0], 1, 4⟩
def RK.CORE_STAT.IE : Field := ⟨0x04C, 5, 1, .ro, [0], 1, 4⟩
def RK.CORE_STAT.WAIT : Field := ⟨0x04C, 4, 1, .ro, [0], 1, 4⟩
def RK.CORE_STAT.INTERLOCK : Field := ⟨0x04C, 3, 1, .ro, [0], 1, 4⟩
def RK.CORE_STAT.DMA1_HALT : Field := ⟨0x04C, 2, 1, .ro, [0], 1, 4⟩
def RK.CORE_STAT.DMA0_HALT : Field := ⟨0x04C, 1, 1, .ro, [0], 1, 4⟩
def RK.CORE_STAT.DOUBLE_FAULT : Field := ⟨0x04C, 0, 1, .ro, [0], 1, 4⟩
def RK.TRAP_CNT.COUNT : Field := ⟨0x050, 0, 32, .ro, [0], 1, 4⟩
def RK.IMG_STAT.RESULT : Field := ⟨0x054, 24, 8, .ro, [0], 1, 4⟩
def RK.IMG_STAT.BUSY : Field := ⟨0x054, 3, 1, .ro, [0], 1, 4⟩
def RK.IMG_STAT.USER_VALID : Field := ⟨0x054, 2, 1, .ro, [0], 1, 4⟩
def RK.IMG_STAT.MEAS_VALID : Field := ⟨0x054, 1, 1, .ro, [0], 1, 4⟩
def RK.IMG_STAT.VALID : Field := ⟨0x054, 0, 1, .ro, [0], 1, 4⟩
def RK.IMG_VER.VERSION : Field := ⟨0x058, 0, 32, .ro, [0], 1, 4⟩
def RK.USER_VER.VERSION : Field := ⟨0x05C, 0, 32, .ro, [0], 1, 4⟩
def RK.LOAD_LO.ADDR : Field := ⟨0x060, 12, 20, .rwS, [0], 1, 4⟩
def RK.LOAD_HI.ADDR : Field := ⟨0x064, 0, 3, .rwS, [0], 1, 4⟩
def RK.LOAD_CTL.SRC : Field := ⟨0x068, 1, 1, .rwS, [0], 1, 4⟩
def RK.LOAD_CTL.LOAD : Field := ⟨0x068, 0, 1, .wo, [0], 1, 4⟩
def RK.HB_CNT.COUNT : Field := ⟨0x06C, 0, 32, .ro, [0], 1, 4⟩
def RK.DBG_CNT.DENY : Field := ⟨0x070, 16, 16, .ro, [0], 1, 4⟩
def RK.DBG_CNT.WR : Field := ⟨0x070, 0, 16, .ro, [0], 1, 4⟩
def RK.DBG_LOCK.LOCK : Field := ⟨0x074, 0, 1, .po, [1], 1, 4⟩
def RK.DMA_WBASE.BASE : Field := ⟨0x078, 0, 25, .po, [0], 1, 4⟩
def RK.DMA_WLIM.LIMIT : Field := ⟨0x07C, 0, 25, .po, [0], 1, 4⟩

/-- The block-specific fields of RK. -/
def RK.fields : List Field :=
  [RK.CORE_CTL.STEP, RK.CORE_CTL.BP_MODE, RK.CORE_CTL.BP_EN, RK.BP_ADDR.ADDR, RK.PC.PC, RK.CORE_STAT.LAST_CAUSE]
  ++ [RK.CORE_STAT.USER, RK.CORE_STAT.EXL, RK.CORE_STAT.IE, RK.CORE_STAT.WAIT, RK.CORE_STAT.INTERLOCK, RK.CORE_STAT.DMA1_HALT]
  ++ [RK.CORE_STAT.DMA0_HALT, RK.CORE_STAT.DOUBLE_FAULT, RK.TRAP_CNT.COUNT, RK.IMG_STAT.RESULT, RK.IMG_STAT.BUSY, RK.IMG_STAT.USER_VALID]
  ++ [RK.IMG_STAT.MEAS_VALID, RK.IMG_STAT.VALID, RK.IMG_VER.VERSION, RK.USER_VER.VERSION, RK.LOAD_LO.ADDR, RK.LOAD_HI.ADDR]
  ++ [RK.LOAD_CTL.SRC, RK.LOAD_CTL.LOAD, RK.HB_CNT.COUNT, RK.DBG_CNT.DENY, RK.DBG_CNT.WR, RK.DBG_LOCK.LOCK]
  ++ [RK.DMA_WBASE.BASE, RK.DMA_WLIM.LIMIT]

/-! RPS: the field tables of R287. -/

def RPS.CTL.GUARD : Field := ⟨0x040, 8, 8, .rwS, [8], 1, 4⟩
def RPS.CTL.AUTO_REALIGN : Field := ⟨0x040, 6, 1, .rwL, [1], 1, 4⟩
def RPS.CTL.MERGE_EN : Field := ⟨0x040, 5, 1, .rwL, [1], 1, 4⟩
def RPS.CTL.REVERT : Field := ⟨0x040, 4, 1, .rwL, [0], 1, 4⟩
def RPS.CTL.PRIMARY : Field := ⟨0x040, 3, 1, .rwL, [0], 1, 4⟩
def RPS.CTL.WORK : Field := ⟨0x040, 2, 1, .rwS, [0], 1, 4⟩
def RPS.CTL.MODE : Field := ⟨0x040, 0, 2, .rwS, [0], 1, 4⟩
def RPS.MAX_DELAY.DELAY : Field := ⟨0x044, 0, 15, .rwS, [0x4e20], 1, 4⟩
def RPS.TIMERS.WTR : Field := ⟨0x048, 24, 8, .rwL, [0x1e], 1, 4⟩
def RPS.TIMERS.HOLDOFF : Field := ⟨0x048, 16, 8, .rwL, [0], 1, 4⟩
def RPS.TIMERS.SW_SETTLE : Field := ⟨0x048, 8, 8, .rwL, [0x14], 1, 4⟩
def RPS.TIMERS.LOSS_HOLD : Field := ⟨0x048, 0, 8, .rwL, [0x14], 1, 4⟩
def RPS.CMD.REALIGN : Field := ⟨0x04C, 8, 1, .wo, [0], 1, 4⟩
def RPS.CMD.ROUTE : Field := ⟨0x04C, 4, 1, .rwL, [0], 1, 4⟩
def RPS.CMD.CMD : Field := ⟨0x04C, 0, 2, .wo, [0], 1, 4⟩
def RPS.STAT.SSTATE : Field := ⟨0x050, 9, 3, .ro, [0], 1, 4⟩
def RPS.STAT.ROUTE_NOW : Field := ⟨0x050, 8, 1, .ro, [0], 1, 4⟩
def RPS.STAT.FORCED : Field := ⟨0x050, 6, 1, .ro, [0], 1, 4⟩
def RPS.STAT.WTR_RUN : Field := ⟨0x050, 5, 1, .ro, [0], 1, 4⟩
def RPS.STAT.DRAM : Field := ⟨0x050, 4, 1, .ro, [0], 1, 4⟩
def RPS.STAT.ACTIVE : Field := ⟨0x050, 3, 1, .ro, [0], 1, 4⟩
def RPS.STAT.ASTATE : Field := ⟨0x050, 0, 3, .ro, [0], 1, 4⟩
def RPS.DELAY.EARLY : Field := ⟨0x054, 31, 1, .ro, [0], 1, 4⟩
def RPS.DELAY.APPLIED : Field := ⟨0x054, 0, 18, .ro, [0], 1, 4⟩
def RPS.DELAY_NS.MEASURED : Field := ⟨0x058, 0, 25, .ro, [0], 1, 4⟩
def RPS.SUBST.COUNT : Field := ⟨0x05C, 0, 32, .ro, [0], 1, 4⟩
def RPS.BOTH_FAIL.COUNT : Field := ⟨0x060, 0, 32, .ro, [0], 1, 4⟩
def RPS.LATE.COUNT : Field := ⟨0x064, 0, 32, .ro, [0], 1, 4⟩
def RPS.SW_CNT.SWITCHES : Field := ⟨0x068, 16, 16, .ro, [0], 1, 4⟩
def RPS.SW_CNT.UNILATERAL : Field := ⟨0x068, 0, 16, .ro, [0], 1, 4⟩
def RPS.REALIGN_LF.COUNT : Field := ⟨0x06C, 0, 32, .ro, [0], 1, 4⟩
def RPS.PAIR_ERR.PROT_ERR : Field := ⟨0x070, 16, 16, .ro, [0], 1, 4⟩
def RPS.PAIR_ERR.HDR_MISMATCH : Field := ⟨0x070, 0, 16, .ro, [0], 1, 4⟩
def RPS.LAST_HIT.CAUSE : Field := ⟨0x074, 24, 8, .ro, [0], 1, 4⟩
def RPS.LAST_HIT.HIT : Field := ⟨0x074, 0, 24, .ro, [0], 1, 4⟩

/-- The block-specific fields of RPS. -/
def RPS.fields : List Field :=
  [RPS.CTL.GUARD, RPS.CTL.AUTO_REALIGN, RPS.CTL.MERGE_EN, RPS.CTL.REVERT, RPS.CTL.PRIMARY, RPS.CTL.WORK]
  ++ [RPS.CTL.MODE, RPS.MAX_DELAY.DELAY, RPS.TIMERS.WTR, RPS.TIMERS.HOLDOFF, RPS.TIMERS.SW_SETTLE, RPS.TIMERS.LOSS_HOLD]
  ++ [RPS.CMD.REALIGN, RPS.CMD.ROUTE, RPS.CMD.CMD, RPS.STAT.SSTATE, RPS.STAT.ROUTE_NOW, RPS.STAT.FORCED]
  ++ [RPS.STAT.WTR_RUN, RPS.STAT.DRAM, RPS.STAT.ACTIVE, RPS.STAT.ASTATE, RPS.DELAY.EARLY, RPS.DELAY.APPLIED]
  ++ [RPS.DELAY_NS.MEASURED, RPS.SUBST.COUNT, RPS.BOTH_FAIL.COUNT, RPS.LATE.COUNT, RPS.SW_CNT.SWITCHES, RPS.SW_CNT.UNILATERAL]
  ++ [RPS.REALIGN_LF.COUNT, RPS.PAIR_ERR.PROT_ERR, RPS.PAIR_ERR.HDR_MISMATCH, RPS.LAST_HIT.CAUSE, RPS.LAST_HIT.HIT]

/-! SYN: the field tables of R308. -/

def SYN.CTL.LOOP_CAL : Field := ⟨0x040, 0, 1, .rwS, [1], 1, 4⟩
def SYN.STAT.BAND : Field := ⟨0x044, 8, 8, .ro, [0], 1, 4⟩
def SYN.STAT.CAL : Field := ⟨0x044, 1, 1, .ro, [0], 1, 4⟩
def SYN.STAT.LOCK : Field := ⟨0x044, 0, 1, .ro, [0], 1, 4⟩
def SYN.FREQ.KHZ : Field := ⟨0x048, 0, 32, .ro, [0], 1, 4⟩
def SYN.LOOP_TRIM.TRIM : Field := ⟨0x04C, 0, 8, .ro, [0x80], 1, 4⟩
def SYN.UNLOCK_CNT.COUNT : Field := ⟨0x050, 0, 32, .ro, [0], 1, 4⟩

/-- The block-specific fields of SYN. -/
def SYN.fields : List Field :=
  [SYN.CTL.LOOP_CAL, SYN.STAT.BAND, SYN.STAT.CAL, SYN.STAT.LOCK, SYN.FREQ.KHZ, SYN.LOOP_TRIM.TRIM]
  ++ [SYN.UNLOCK_CNT.COUNT]

/-! TB: the field tables of R528. -/

def TB.CTL.PPS_OUT_WIDTH : Field := ⟨0x040, 6, 8, .rwL, [0x64], 1, 4⟩
def TB.CTL.PPS_OUT_EN : Field := ⟨0x040, 5, 1, .rwL, [0], 1, 4⟩
def TB.CTL.ALARM_EN : Field := ⟨0x040, 4, 1, .rwL, [0], 1, 4⟩
def TB.CTL.PPS_MODE : Field := ⟨0x040, 2, 2, .rwL, [0], 1, 4⟩
def TB.CTL.SET : Field := ⟨0x040, 0, 1, .wo, [0], 1, 4⟩
def TB.NOW_LO.NS : Field := ⟨0x044, 0, 32, .ro, [0], 1, 4⟩
def TB.NOW_HI.NS : Field := ⟨0x048, 0, 32, .ro, [0], 1, 4⟩
def TB.NOW_FRAC.FRAC : Field := ⟨0x04C, 0, 16, .ro, [0], 1, 4⟩
def TB.SET_LO.NS : Field := ⟨0x050, 0, 32, .rwL, [0], 1, 4⟩
def TB.SET_HI.NS : Field := ⟨0x054, 0, 32, .rwL, [0], 1, 4⟩
def TB.PPS_NEXT.SEC : Field := ⟨0x058, 0, 32, .rwL, [0], 1, 4⟩
def TB.STAT.BACKUP : Field := ⟨0x05C, 5, 1, .ro, [0], 1, 4⟩
def TB.STAT.LREF_OK : Field := ⟨0x05C, 4, 1, .ro, [0], 1, 4⟩
def TB.STAT.PPS_ARMED : Field := ⟨0x05C, 3, 1, .ro, [0], 1, 4⟩
def TB.STAT.PPS_LOCK : Field := ⟨0x05C, 2, 1, .ro, [0], 1, 4⟩
def TB.STAT.TB_EXTRAPOLATED : Field := ⟨0x05C, 1, 1, .ro, [0], 1, 4⟩
def TB.STAT.TB_VALID : Field := ⟨0x05C, 0, 1, .ro, [0], 1, 4⟩
def TB.FREQ_ADJ.ADJ : Field := ⟨0x060, 0, 20, .rwL, [0], 1, 4⟩
def TB.PPS_ERR.NS : Field := ⟨0x064, 0, 32, .ro, [0], 1, 4⟩
def TB.UNCERT.US : Field := ⟨0x068, 0, 32, .ro, [0], 1, 4⟩
def TB.ASLEEP_LO.NS : Field := ⟨0x06C, 0, 32, .ro, [0], 1, 4⟩
def TB.ASLEEP_HI.NS : Field := ⟨0x070, 0, 32, .ro, [0], 1, 4⟩
def TB.ALARM_LO.NS : Field := ⟨0x074, 0, 32, .rwL, [0], 1, 4⟩
def TB.ALARM_HI.NS : Field := ⟨0x078, 0, 32, .rwL, [0], 1, 4⟩
def TB.PPS_CNT.MISSED : Field := ⟨0x07C, 16, 16, .ro, [0], 1, 4⟩
def TB.PPS_CNT.EDGES : Field := ⟨0x07C, 0, 16, .ro, [0], 1, 4⟩

/-- The block-specific fields of TB. -/
def TB.fields : List Field :=
  [TB.CTL.PPS_OUT_WIDTH, TB.CTL.PPS_OUT_EN, TB.CTL.ALARM_EN, TB.CTL.PPS_MODE, TB.CTL.SET, TB.NOW_LO.NS]
  ++ [TB.NOW_HI.NS, TB.NOW_FRAC.FRAC, TB.SET_LO.NS, TB.SET_HI.NS, TB.PPS_NEXT.SEC, TB.STAT.BACKUP]
  ++ [TB.STAT.LREF_OK, TB.STAT.PPS_ARMED, TB.STAT.PPS_LOCK, TB.STAT.TB_EXTRAPOLATED, TB.STAT.TB_VALID, TB.FREQ_ADJ.ADJ]
  ++ [TB.PPS_ERR.NS, TB.UNCERT.US, TB.ASLEEP_LO.NS, TB.ASLEEP_HI.NS, TB.ALARM_LO.NS, TB.ALARM_HI.NS]
  ++ [TB.PPS_CNT.MISSED, TB.PPS_CNT.EDGES]

/-! TEL: the field tables of R327. -/

def TEL.CTL.PIN_EN : Field := ⟨0x040, 1, 1, .rwL, [1], 1, 4⟩
def TEL.CTL.SYNC : Field := ⟨0x040, 0, 1, .wo, [0], 1, 4⟩
def TEL.SYNC_LO.NS : Field := ⟨0x044, 0, 32, .ro, [0], 1, 4⟩
def TEL.SYNC_HI.NS : Field := ⟨0x048, 0, 32, .ro, [0], 1, 4⟩
def TEL.SYNC_CNT.COUNT : Field := ⟨0x04C, 0, 32, .ro, [0], 1, 4⟩
def TEL.HK_ROUTE.ROUTE : Field := ⟨0x050, 0, 32, .rwL, [0], 1, 4⟩
def TEL.MON_SCALE_A.SCALE : Field := ⟨0x054, 0, 16, .rwL, [0x1194], 1, 4⟩
def TEL.MON_SCALE_B.SCALE : Field := ⟨0x058, 0, 16, .rwL, [0x1194], 1, 4⟩
def TEL.RTT_REF_A.NS : Field := ⟨0x05C, 0, 24, .rwL, [0], 1, 4⟩
def TEL.RTT_REF_B.NS : Field := ⟨0x060, 0, 24, .rwL, [0], 1, 4⟩
def TEL.SW_IN.VALUE : Field := ⟨0x064, 0, 32, .rwL, [0], 4, 4⟩
def TEL.TAP_CTL.LEARN_S : Field := ⟨0x074, 16, 8, .rwL, [0x3c], 1, 4⟩
def TEL.TAP_CTL.ACK_B : Field := ⟨0x074, 9, 1, .wo, [0], 1, 4⟩
def TEL.TAP_CTL.ACK_A : Field := ⟨0x074, 8, 1, .wo, [0], 1, 4⟩
def TEL.TAP_CTL.LEARN_B : Field := ⟨0x074, 5, 1, .wo, [0], 1, 4⟩
def TEL.TAP_CTL.LEARN_A : Field := ⟨0x074, 4, 1, .wo, [0], 1, 4⟩
def TEL.TAP_CTL.ARM_B : Field := ⟨0x074, 1, 1, .rwL, [0], 1, 4⟩
def TEL.TAP_CTL.ARM_A : Field := ⟨0x074, 0, 1, .rwL, [0], 1, 4⟩
def TEL.TAP_STAT.RULES_B : Field := ⟨0x078, 24, 5, .ro, [0], 1, 4⟩
def TEL.TAP_STAT.RULES_A : Field := ⟨0x078, 16, 5, .ro, [0], 1, 4⟩
def TEL.TAP_STAT.ABS_SUSP_B : Field := ⟨0x078, 11, 1, .ro, [1], 1, 4⟩
def TEL.TAP_STAT.ABS_SUSP_A : Field := ⟨0x078, 10, 1, .ro, [1], 1, 4⟩
def TEL.TAP_STAT.RULES_RUN : Field := ⟨0x078, 8, 1, .ro, [0], 1, 4⟩
def TEL.TAP_STAT.STATE_B : Field := ⟨0x078, 4, 3, .ro, [0], 1, 4⟩
def TEL.TAP_STAT.STATE_A : Field := ⟨0x078, 0, 3, .ro, [0], 1, 4⟩
def TEL.TAP_RAISE.CARRIER : Field := ⟨0x07C, 8, 1, .wo, [0], 1, 4⟩
def TEL.TAP_RAISE.RULES : Field := ⟨0x07C, 0, 5, .wo, [0], 1, 4⟩
def TEL.SOP_CFG.THR : Field := ⟨0x080, 16, 16, .rwL, [0x64], 1, 4⟩
def TEL.SOP_CFG.DUR : Field := ⟨0x080, 0, 8, .rwL, [2], 1, 4⟩
def TEL.PWR_CFG.ABS : Field := ⟨0x084, 16, 16, .rwL, [0x64], 1, 4⟩
def TEL.PWR_CFG.STEP : Field := ⟨0x084, 0, 16, .rwL, [0x14], 1, 4⟩
def TEL.LEN_CFG.STEP : Field := ⟨0x088, 0, 16, .rwL, [0x3d3], 1, 4⟩
def TEL.PAT_CFG.BER_RATIO : Field := ⟨0x08C, 16, 16, .rwL, [0x20], 1, 4⟩
def TEL.PAT_CFG.SHARE : Field := ⟨0x08C, 0, 16, .rwL, [0x12c], 1, 4⟩
def TEL.ALARM_A_LO.NS : Field := ⟨0x090, 0, 32, .ro, [0], 1, 4⟩
def TEL.ALARM_A_HI.NS : Field := ⟨0x094, 0, 32, .ro, [0], 1, 4⟩
def TEL.ALARM_B_LO.NS : Field := ⟨0x098, 0, 32, .ro, [0], 1, 4⟩
def TEL.ALARM_B_HI.NS : Field := ⟨0x09C, 0, 32, .ro, [0], 1, 4⟩
def TEL.ALARM_CNT.B : Field := ⟨0x0A0, 16, 16, .ro, [0], 1, 4⟩
def TEL.ALARM_CNT.A : Field := ⟨0x0A0, 0, 16, .ro, [0], 1, 4⟩
def TEL.CH_CFG.CAST : Field := ⟨0x100, 9, 1, .rwL, [1], 64, 4⟩
def TEL.CH_CFG.EN : Field := ⟨0x100, 8, 1, .rwL, [1], 64, 4⟩
def TEL.CH_CFG.K : Field := ⟨0x100, 0, 5, .rwS, [0xa, 0xa, 0xa, 4, 0xa, 0xe, 0xe, 0xa, 0xe, 0xa, 0xa, 0xa, 0xa, 0xa, 0xa, 0xa, 0xa, 0xa, 0xa, 0xa, 0xa, 0xd, 0xa, 0xa, 0xa, 0xa, 0xa, 4, 0xa, 0xe, 0xe, 0xa, 0xe, 0xa, 0xa, 0xa, 0xa, 0xa, 0xa, 0xa, 0xa, 0xa, 0xa, 0xa, 0xa, 0xd, 0xa, 0xa, 0xe, 0xe, 0xe, 0xa, 0xa, 0xa, 0xa, 0xe, 0xe, 0xe, 0xe, 0xe, 0xa], 64, 4⟩
def TEL.OUT.VALUE : Field := ⟨0x200, 0, 32, .ro, [0], 64, 4⟩
def TEL.FLAG.M : Field := ⟨0x300, 16, 16, .ro, [0], 64, 4⟩
def TEL.FLAG.SETTLE : Field := ⟨0x300, 8, 8, .ro, [0xf], 64, 4⟩
def TEL.FLAG.SRC_INV : Field := ⟨0x300, 2, 1, .ro, [1], 64, 4⟩
def TEL.FLAG.OVR : Field := ⟨0x300, 1, 1, .ro, [0], 64, 4⟩
def TEL.FLAG.INVALID : Field := ⟨0x300, 0, 1, .ro, [1], 64, 4⟩

/-- The block-specific fields of TEL. -/
def TEL.fields : List Field :=
  [TEL.CTL.PIN_EN, TEL.CTL.SYNC, TEL.SYNC_LO.NS, TEL.SYNC_HI.NS, TEL.SYNC_CNT.COUNT, TEL.HK_ROUTE.ROUTE]
  ++ [TEL.MON_SCALE_A.SCALE, TEL.MON_SCALE_B.SCALE, TEL.RTT_REF_A.NS, TEL.RTT_REF_B.NS, TEL.SW_IN.VALUE, TEL.TAP_CTL.LEARN_S]
  ++ [TEL.TAP_CTL.ACK_B, TEL.TAP_CTL.ACK_A, TEL.TAP_CTL.LEARN_B, TEL.TAP_CTL.LEARN_A, TEL.TAP_CTL.ARM_B, TEL.TAP_CTL.ARM_A]
  ++ [TEL.TAP_STAT.RULES_B, TEL.TAP_STAT.RULES_A, TEL.TAP_STAT.ABS_SUSP_B, TEL.TAP_STAT.ABS_SUSP_A, TEL.TAP_STAT.RULES_RUN, TEL.TAP_STAT.STATE_B]
  ++ [TEL.TAP_STAT.STATE_A, TEL.TAP_RAISE.CARRIER, TEL.TAP_RAISE.RULES, TEL.SOP_CFG.THR, TEL.SOP_CFG.DUR, TEL.PWR_CFG.ABS]
  ++ [TEL.PWR_CFG.STEP, TEL.LEN_CFG.STEP, TEL.PAT_CFG.BER_RATIO, TEL.PAT_CFG.SHARE, TEL.ALARM_A_LO.NS, TEL.ALARM_A_HI.NS]
  ++ [TEL.ALARM_B_LO.NS, TEL.ALARM_B_HI.NS, TEL.ALARM_CNT.B, TEL.ALARM_CNT.A, TEL.CH_CFG.CAST, TEL.CH_CFG.EN]
  ++ [TEL.CH_CFG.K, TEL.OUT.VALUE, TEL.FLAG.M, TEL.FLAG.SETTLE, TEL.FLAG.SRC_INV, TEL.FLAG.OVR]
  ++ [TEL.FLAG.INVALID]

/-! TLY: the field tables of R414. -/

def TLY.CTL.UEN : Field := ⟨0x040, 16, 1, .rwL, [0], 1, 4⟩
def TLY.CTL.EN : Field := ⟨0x040, 0, 16, .rwL, [0], 1, 4⟩
def TLY.CLR.CLR : Field := ⟨0x044, 0, 16, .wo, [0], 1, 4⟩
def TLY.OVF.OVF : Field := ⟨0x048, 0, 16, .w1c, [0], 1, 4⟩
def TLY.SAMPLE_CTL.CLR : Field := ⟨0x04C, 31, 1, .wo, [0], 1, 4⟩
def TLY.SAMPLE_CTL.SRC : Field := ⟨0x04C, 24, 4, .rwS, [0], 1, 4⟩
def TLY.SAMPLE_CTL.STOP_FULL : Field := ⟨0x04C, 21, 1, .rwS, [0], 1, 4⟩
def TLY.SAMPLE_CTL.EN : Field := ⟨0x04C, 20, 1, .rwL, [0], 1, 4⟩
def TLY.SAMPLE_CTL.PERIOD : Field := ⟨0x04C, 0, 16, .rwS, [0x1000], 1, 4⟩
def TLY.SAMPLE_STAT.LOST : Field := ⟨0x050, 16, 16, .ro, [0], 1, 4⟩
def TLY.SAMPLE_STAT.FILL : Field := ⟨0x050, 0, 9, .ro, [0], 1, 4⟩
def TLY.SAMPLE_IDX.INDEX : Field := ⟨0x054, 0, 8, .rwL, [0], 1, 4⟩
def TLY.SAMPLE_D.DATA : Field := ⟨0x058, 0, 32, .ro, [0], 4, 4⟩
def TLY.SEL.THR : Field := ⟨0x080, 16, 16, .rwS, [0], 16, 4⟩
def TLY.SEL.CHAIN : Field := ⟨0x080, 10, 1, .rwS, [0], 16, 4⟩
def TLY.SEL.THR_MODE : Field := ⟨0x080, 9, 1, .rwS, [0], 16, 4⟩
def TLY.SEL.EVENT : Field := ⟨0x080, 0, 8, .rwS, [0], 16, 4⟩
def TLY.CNT_LO.COUNT : Field := ⟨0x100, 0, 32, .ro, [0], 16, 8⟩
def TLY.CNT_HI.COUNT : Field := ⟨0x104, 0, 16, .ro, [0], 16, 8⟩

/-- The block-specific fields of TLY. -/
def TLY.fields : List Field :=
  [TLY.CTL.UEN, TLY.CTL.EN, TLY.CLR.CLR, TLY.OVF.OVF, TLY.SAMPLE_CTL.CLR, TLY.SAMPLE_CTL.SRC]
  ++ [TLY.SAMPLE_CTL.STOP_FULL, TLY.SAMPLE_CTL.EN, TLY.SAMPLE_CTL.PERIOD, TLY.SAMPLE_STAT.LOST, TLY.SAMPLE_STAT.FILL, TLY.SAMPLE_IDX.INDEX]
  ++ [TLY.SAMPLE_D.DATA, TLY.SEL.THR, TLY.SEL.CHAIN, TLY.SEL.THR_MODE, TLY.SEL.EVENT, TLY.CNT_LO.COUNT]
  ++ [TLY.CNT_HI.COUNT]

/-! TRC: the field tables of R171. -/

def TRC.CTL.LOOP_BW : Field := ⟨0x040, 6, 2, .rwS, [1], 1, 4⟩
def TRC.CTL.AUTO_SKEW : Field := ⟨0x040, 5, 1, .rwL, [1], 1, 4⟩
def TRC.STAT.HOLD : Field := ⟨0x044, 4, 1, .ro, [0], 1, 4⟩
def TRC.STAT.JOINT : Field := ⟨0x044, 3, 1, .ro, [0], 1, 4⟩
def TRC.STAT.DET_SRC : Field := ⟨0x044, 2, 1, .ro, [0], 1, 4⟩
def TRC.STAT.RANGE : Field := ⟨0x044, 1, 1, .ro, [0], 1, 4⟩
def TRC.STAT.LOCK : Field := ⟨0x044, 0, 1, .ro, [0], 1, 4⟩
def TRC.FREQ_OFS.OFS : Field := ⟨0x048, 0, 20, .ro, [0], 1, 4⟩
def TRC.LOSS_CNT.COUNT : Field := ⟨0x04C, 0, 32, .ro, [0], 1, 4⟩
def TRC.SKEW.APPLIED : Field := ⟨0x050, 16, 12, .ro, [0], 4, 4⟩
def TRC.SKEW.TARGET : Field := ⟨0x050, 0, 12, .rwL, [0], 4, 4⟩

/-- The block-specific fields of TRC. -/
def TRC.fields : List Field :=
  [TRC.CTL.LOOP_BW, TRC.CTL.AUTO_SKEW, TRC.STAT.HOLD, TRC.STAT.JOINT, TRC.STAT.DET_SRC, TRC.STAT.RANGE]
  ++ [TRC.STAT.LOCK, TRC.FREQ_OFS.OFS, TRC.LOSS_CNT.COUNT, TRC.SKEW.APPLIED, TRC.SKEW.TARGET]

/-! TXP: the field tables of R120. -/

def TXP.CTL.PILOT_BOOST : Field := ⟨0x040, 8, 2, .rwS, [0], 1, 4⟩
def TXP.CTL.LOOP_BW : Field := ⟨0x040, 6, 2, .rwS, [0], 1, 4⟩
def TXP.CTL.TIMING_SRC : Field := ⟨0x040, 5, 1, .rwS, [0], 1, 4⟩
def TXP.CTL.ROLLOFF : Field := ⟨0x040, 0, 2, .rwS, [1], 1, 4⟩
def TXP.STAT.HOLDOVER : Field := ⟨0x044, 5, 1, .ro, [0], 1, 4⟩
def TXP.STAT.LOOP_TRACK : Field := ⟨0x044, 4, 1, .ro, [0], 1, 4⟩
def TXP.STAT.GATE : Field := ⟨0x044, 0, 4, .ro, [0], 1, 4⟩
def TXP.SYF_CNT.COUNT : Field := ⟨0x048, 0, 32, .ro, [0], 1, 4⟩
def TXP.SLIP_CNT.COUNT : Field := ⟨0x04C, 0, 32, .ro, [0], 1, 4⟩
def TXP.IQ_X.PHASE : Field := ⟨0x050, 16, 10, .rwL, [0], 1, 4⟩
def TXP.IQ_X.GAIN : Field := ⟨0x050, 0, 10, .rwL, [0], 1, 4⟩
def TXP.IQ_Y.PHASE : Field := ⟨0x054, 16, 10, .rwL, [0], 1, 4⟩
def TXP.IQ_Y.GAIN : Field := ⟨0x054, 0, 10, .rwL, [0], 1, 4⟩
def TXP.SKEW.APPLIED : Field := ⟨0x058, 16, 12, .ro, [0], 4, 4⟩
def TXP.SKEW.TARGET : Field := ⟨0x058, 0, 12, .rwL, [0], 4, 4⟩
def TXP.FIR_XFADE.REFUSED : Field := ⟨0x068, 24, 8, .ro, [0], 1, 4⟩
def TXP.FIR_XFADE.LOG2_BLOCKS : Field := ⟨0x068, 8, 4, .rwL, [4], 1, 4⟩
def TXP.FIR_XFADE.SWAP : Field := ⟨0x068, 4, 1, .wo, [0], 1, 4⟩
def TXP.FIR_XFADE.HELD : Field := ⟨0x068, 3, 1, .ro, [0], 1, 4⟩
def TXP.FIR_XFADE.FADING : Field := ⟨0x068, 2, 1, .ro, [0], 1, 4⟩
def TXP.FIR_XFADE.TARGET : Field := ⟨0x068, 1, 1, .ro, [0], 1, 4⟩
def TXP.FIR_XFADE.ACTIVE : Field := ⟨0x068, 0, 1, .ro, [0], 1, 4⟩
def TXP.PCH_CTL.CLR : Field := ⟨0x06C, 31, 1, .wo, [0], 1, 4⟩
def TXP.PCH_CTL.FILL : Field := ⟨0x06C, 16, 11, .ro, [0], 1, 4⟩
def TXP.PCH_CTL.UNDERRUN : Field := ⟨0x06C, 8, 8, .ro, [0], 1, 4⟩
def TXP.PCH_CTL.EN : Field := ⟨0x06C, 0, 1, .rwL, [0], 1, 4⟩
def TXP.PCH_DATA.BITS : Field := ⟨0x070, 0, 32, .wo, [0], 1, 4⟩
def TXP.INJ_CTL.RATE_LOG2 : Field := ⟨0x074, 16, 6, .rwL, [0x10], 1, 4⟩
def TXP.INJ_CTL.LANES : Field := ⟨0x074, 12, 4, .rwL, [0], 1, 4⟩
def TXP.INJ_CTL.TARGET : Field := ⟨0x074, 10, 2, .rwL, [0], 1, 4⟩
def TXP.INJ_CTL.SINGLE : Field := ⟨0x074, 2, 1, .wo, [0], 1, 4⟩
def TXP.INJ_CTL.MODE : Field := ⟨0x074, 0, 2, .rwL, [0], 1, 4⟩
def TXP.INJ_CNT.COUNT : Field := ⟨0x078, 0, 32, .ro, [0], 1, 4⟩

/-- The block-specific fields of TXP. -/
def TXP.fields : List Field :=
  [TXP.CTL.PILOT_BOOST, TXP.CTL.LOOP_BW, TXP.CTL.TIMING_SRC, TXP.CTL.ROLLOFF, TXP.STAT.HOLDOVER, TXP.STAT.LOOP_TRACK]
  ++ [TXP.STAT.GATE, TXP.SYF_CNT.COUNT, TXP.SLIP_CNT.COUNT, TXP.IQ_X.PHASE, TXP.IQ_X.GAIN, TXP.IQ_Y.PHASE]
  ++ [TXP.IQ_Y.GAIN, TXP.SKEW.APPLIED, TXP.SKEW.TARGET, TXP.FIR_XFADE.REFUSED, TXP.FIR_XFADE.LOG2_BLOCKS, TXP.FIR_XFADE.SWAP]
  ++ [TXP.FIR_XFADE.HELD, TXP.FIR_XFADE.FADING, TXP.FIR_XFADE.TARGET, TXP.FIR_XFADE.ACTIVE, TXP.PCH_CTL.CLR, TXP.PCH_CTL.FILL]
  ++ [TXP.PCH_CTL.UNDERRUN, TXP.PCH_CTL.EN, TXP.PCH_DATA.BITS, TXP.INJ_CTL.RATE_LOG2, TXP.INJ_CTL.LANES, TXP.INJ_CTL.TARGET]
  ++ [TXP.INJ_CTL.SINGLE, TXP.INJ_CTL.MODE, TXP.INJ_CNT.COUNT]

end Sys2Proof.Machine
end

