-- ==== Sys2Proof/Machine/PageMap.lean ====
section
/-! DEFINITION. Machine/PageMap.lean: the page map of R541 and R543, the per-page values of the common header (R38-R46)
and the reset value of every register word. -/
namespace Sys2Proof.Machine

open Sys2Proof (Page Carrier Origin)

/-- Base address of a page in BAR0 (R541, R543). -/
def pageBase : Page → Nat
  | .glb => 0x00000 | .evr => 0x01000 | .cj => 0x02000 | .pwr => 0x03000 | .tb => 0x04000 | .cal => 0x05000
  | .bst => 0x06000 | .hk n => 0x07000 + n.val * 0x1000 | .aux => 0x09000 | .tel => 0x0A000 | .fes => 0x0B000
  | .rps => 0x0C000 | .cast => 0x0D000 | .arc => 0x0E000 | .lpm => 0x0F000 | .ecc => 0x10000 | .mrm => 0x11000
  | .qlt => 0x12000
  | .lrx n => 0x20000 + n.val * 0x1000
  | .ltx n => 0x28000 + n.val * 0x1000
  | .syn n => 0x30000 + n.val * 0x1000
  | .txp c => 0x40000 + c.idx * 0x10000 | .cdc c => 0x41000 + c.idx * 0x10000 | .eqz c => 0x42000 + c.idx * 0x10000
  | .trc c => 0x43000 + c.idx * 0x10000 | .cpr c => 0x44000 + c.idx * 0x10000 | .mls c => 0x45000 + c.idx * 0x10000
  | .dmp c => 0x46000 + c.idx * 0x10000 | .fec c => 0x47000 + c.idx * 0x10000 | .lfm c => 0x48000 + c.idx * 0x10000
  | .cry c => 0x49000 + c.idx * 0x10000
  | .clx n => 0x60000 + n.val * 0x1000
  | .cpc c => 0x70000 + c.idx * 0x1000
  | .hlk => 0x78000
  | .rk n => 0x80000 + n.val * 0x1000
  | .tly n => 0x88000 + n.val * 0x1000
  | .arm => 0x90000
  | .pln => 0xF0000

/-- The ten carrier pages by their offset (R543). -/
def carrierPage (c : Carrier) : Nat → Option Page
  | 0 => some (.txp c) | 1 => some (.cdc c) | 2 => some (.eqz c) | 3 => some (.trc c) | 4 => some (.cpr c)
  | 5 => some (.mls c) | 6 => some (.dmp c) | 7 => some (.fec c) | 8 => some (.lfm c) | 9 => some (.cry c)
  | _ => none

/-- The page whose 4 KiB page number is `k` (R541-R543). -/
def pageOfNumber (k : Nat) : Option Page :=
  if k ≤ 0x12 then
    [Page.glb, .evr, .cj, .pwr, .tb, .cal, .bst, .hk 0, .hk 1, .aux, .tel, .fes, .rps, .cast, .arc, .lpm, .ecc,
      .mrm, .qlt][k]?
  else if h : 0x20 ≤ k ∧ k < 0x28 then some (.lrx ⟨k - 0x20, by omega⟩)
  else if h : 0x28 ≤ k ∧ k < 0x30 then some (.ltx ⟨k - 0x28, by omega⟩)
  else if h : 0x30 ≤ k ∧ k < 0x33 then some (.syn ⟨k - 0x30, by omega⟩)
  else if 0x40 ≤ k ∧ k < 0x50 then carrierPage .a (k - 0x40)
  else if 0x50 ≤ k ∧ k < 0x60 then carrierPage .b (k - 0x50)
  else if h : 0x60 ≤ k ∧ k < 0x70 then some (.clx ⟨k - 0x60, by omega⟩)
  else if k = 0x70 then some (.cpc .a)
  else if k = 0x71 then some (.cpc .b)
  else if k = 0x78 then some .hlk
  else if h : 0x80 ≤ k ∧ k < 0x88 then some (.rk ⟨k - 0x80, by omega⟩)
  else if h : 0x88 ≤ k ∧ k < 0x90 then some (.tly ⟨k - 0x88, by omega⟩)
  else if k = 0x90 then some .arm
  else if k = 0xF0 then some .pln
  else none

/-- The page an address of BAR0 lies in (R541-R543). -/
def pageOfAddr (addr : Nat) : Option Page := pageOfNumber (addr / 0x1000)

/-- Block type code (R541, R543). -/
def blockType : Page → Nat
  | .glb => 0x01 | .evr => 0x02 | .cj => 0x03 | .pwr => 0x04 | .tb => 0x05 | .cal => 0x06 | .bst => 0x07
  | .hk _ => 0x08 | .aux => 0x09 | .tel => 0x0A | .fes => 0x0B | .rps => 0x0C | .cast => 0x0D | .arc => 0x0E
  | .lpm => 0x0F | .ecc => 0x10 | .mrm => 0x11 | .qlt => 0x12
  | .lrx _ => 0x20 | .ltx _ => 0x21 | .syn _ => 0x22
  | .txp _ => 0x30 | .cdc _ => 0x31 | .eqz _ => 0x32 | .trc _ => 0x33 | .cpr _ => 0x34 | .mls _ => 0x35
  | .dmp _ => 0x36 | .fec _ => 0x37 | .lfm _ => 0x38 | .cry _ => 0x39
  | .clx _ => 0x40 | .cpc _ => 0x41 | .hlk => 0x42 | .rk _ => 0x50 | .tly _ => 0x51 | .arm => 0x52 | .pln => 0x60

/-- Instance number (R541). -/
def pageInstance : Page → Nat
  | .hk n => n.val
  | .lrx n => n.val | .ltx n => n.val | .syn n => n.val
  | .txp c => c.idx | .cdc c => c.idx | .eqz c => c.idx | .trc c => c.idx | .cpr c => c.idx | .mls c => c.idx
  | .dmp c => c.idx | .fec c => c.idx | .lfm c => c.idx | .cry c => c.idx
  | .clx n => n.val | .cpc c => c.idx | .rk n => n.val | .tly n => n.val
  | _ => 0

/-- Event slot (R69, R541, R543). -/
def eventSlot : Page → Nat
  | .glb => 0 | .evr => 1 | .cj => 2 | .pwr => 3 | .tb => 4 | .cal => 5 | .bst => 6 | .hk n => 7 + n.val | .aux => 9
  | .tel => 10 | .fes => 11 | .rps => 12 | .cast => 13 | .arc => 14 | .lpm => 15 | .ecc => 16 | .mrm => 17 | .qlt => 18
  | .arm => 19 | .pln => 20 | .hlk => 21
  | .lrx n => 22 + n.val | .ltx n => 30 + n.val | .syn n => 38 + n.val
  | .txp c => 41 + 10 * c.idx | .cdc c => 42 + 10 * c.idx | .eqz c => 43 + 10 * c.idx | .trc c => 44 + 10 * c.idx
  | .cpr c => 45 + 10 * c.idx | .mls c => 46 + 10 * c.idx | .dmp c => 47 + 10 * c.idx | .fec c => 48 + 10 * c.idx
  | .lfm c => 49 + 10 * c.idx | .cry c => 50 + 10 * c.idx
  | .cpc c => 61 + c.idx | .clx n => 63 + n.val | .rk n => 79 + n.val | .tly n => 87 + n.val

/-- The block-specific fields of a page (R547-R550). -/
def pageFields : Page → List Field
  | .glb => GLB.fields | .evr => EVR.fields | .cj => CJ.fields | .pwr => PWR.fields | .tb => TB.fields
  | .cal => CAL.fields | .bst => BST.fields | .hk _ => HK.fields | .aux => AUX.fields | .tel => TEL.fields
  | .fes => FES.fields | .rps => RPS.fields | .cast => CAST.fields | .arc => ARC.fields | .lpm => LPM.fields
  | .ecc => ECC.fields | .mrm => MRM.fields | .qlt => QLT.fields | .lrx _ => LRX.fields | .ltx _ => LTX.fields
  | .syn _ => SYN.fields | .txp _ => TXP.fields | .cdc _ => CDC.fields | .eqz _ => EQZ.fields | .trc _ => TRC.fields
  | .cpr _ => CPR.fields | .mls _ => MLS.fields | .dmp _ => DMP.fields | .fec _ => FEC.fields | .lfm _ => LFM.fields
  | .cry _ => CRY.fields | .clx _ => CLX.fields | .cpc _ => CPC.fields | .hlk => HLK.fields | .rk _ => RK.fields
  | .tly _ => TLY.fields | .arm => ARM.fields | .pln => PLN.fields

/-- Number of implemented event bits (R39 and the event rule of each chapter). -/
def evtSrc : Page → Nat
  | .glb => 2 | .evr => 0 | .cj => 4 | .pwr => 5 | .tb => 6 | .cal => 3 | .bst => 4 | .hk _ => 6 | .aux => 3
  | .tel => 5 | .fes => 11 | .rps => 8 | .cast => 7 | .arc => 8 | .lpm => 6 | .ecc => 6 | .mrm => 3 | .qlt => 10
  | .lrx _ => 8 | .ltx _ => 3 | .syn _ => 3 | .txp _ => 6 | .cdc _ => 4 | .eqz _ => 8 | .trc _ => 4 | .cpr _ => 7
  | .mls _ => 2 | .dmp _ => 2 | .fec _ => 6 | .lfm _ => 11 | .cry _ => 9 | .clx _ => 6 | .cpc _ => 8 | .hlk => 9
  | .rk _ => 8 | .tly _ => 2 | .arm => 3 | .pln => 8

/-- The pages that run from reset (R41). -/
def runsFromReset : Page → Bool
  | .evr | .cj | .arm | .pwr | .tb | .cal | .bst | .hk _ | .aux | .ecc | .lpm | .arc | .mrm | .pln | .hlk => true
  | _ => false

/-- `PAGE_CAP.STOPPABLE` (R39 and the page-behaviour rule of each chapter): of the pages that run from reset only PWR
can be stopped. -/
def stoppable (p : Page) : Bool := !runsFromReset p || p == .pwr

/-- `PAGE_CAP.BIST_CAP` (R529): the pages of the blocks marked ON. -/
def bistCap : Page → Bool
  | .txp _ | .cdc _ | .eqz _ | .trc _ | .cpr _ | .mls _ | .dmp _ | .fec _ | .lfm _ | .cry _ | .cpc _ | .clx _
  | .rk _ | .tly _ | .qlt | .rps | .tel | .cast | .fes => true
  | _ => false

/-- Carrier of a line lane (R2). -/
def laneCarrier (n : Fin 8) : Carrier := if n.val < 4 then .a else .b

/-- `OWNER.MASK` at reset (R46 and the page-behaviour rule of each chapter). -/
def ownerReset : Page → Nat
  | .cdc c | .trc c | .eqz c | .fec c | .mls c | .dmp c | .lfm c => if c = .a then 0x0437 else 0x04C7
  | .lrx n | .ltx n => if laneCarrier n = .a then 0x0437 else 0x04C7
  | .syn n => if n.val = 0 then 0x0437 else if n.val = 1 then 0x04C7 else 0x0407
  | .txp c | .cpr c => if c = .a then 0x043F else 0x04CF
  | .qlt => 0x040F
  | .fes => 0x04F7
  | .tel => 0x0507
  | .cast => 0x0707
  | .arc => 0x0607
  | .tly n => 0x0407 ||| (1 <<< (2 + n.val))
  | _ => 0x0407

/-- `PAGE_CAP` (R39). -/
def pageCap (p : Page) : Nat :=
  evtSrc p * 0x100
  + (if bistCap p then 8 else 0)
  + (if stoppable p then 4 else 0)
  + (if (pageFields p).any (fun f => f.acc == .rwL) then 2 else 0)
  + (if (pageFields p).any (fun f => f.acc == .po) then 1 else 0)

/-- Reset value of a header word (R38-R46, R68). -/
def headerReset (p : Page) (off : Nat) : Nat :=
  if off = 0x00 then blockType p * 0x10000 + pageInstance p * 0x100 + 1
  else if off = 0x04 then pageCap p
  else if off = 0x0C then (if runsFromReset p then 2 else 0)
  else if off = 0x28 then ownerReset p
  else 0

/-- The instance of a field that lies at byte offset `off` of its page, if any. -/
def Field.instanceAt (f : Field) (off : Nat) : Option Nat :=
  if off < f.off then none
  else
    let d := off - f.off
    if d % f.stride = 0 ∧ d / f.stride < f.count then some (d / f.stride) else none

/-- The fields of a page that lie in the word at byte offset `off`, each at that instance. -/
def fieldsAt (p : Page) (off : Nat) : List Field :=
  ((if off < 0x40 then HDR.all else pageFields p)).filterMap fun f => (f.instanceAt off).map f.at

/-- The two fields whose reset value differs between the carriers: EXPECT_CARRIER of EQZ_x (R172) and LFM_x (R217). -/
def carrierReset (p : Page) (off : Nat) : Nat :=
  match p with
  | .eqz .b => if off = 0x040 then 2 else 0
  | .lfm .b => if off = 0x100 then 0x10000 else 0
  | _ => 0

/-- Reset value of the word at byte offset `off` of page `p`. -/
def pageResetWord (p : Page) (off : Nat) : Nat :=
  if off < 0x40 then headerReset p off
  else (fieldsAt p off).foldl (fun w f => w + f.resets.headD 0 <<< f.lo) (carrierReset p off)

/-- Reset value of the register word at a BAR0 address; addresses with no register read 0 (R47, R542). -/
def resetWord (addr : Nat) : BitVec 32 :=
  match pageOfAddr addr with
  | none => 0
  | some p => BitVec.ofNat 32 (pageResetWord p (addr % 0x1000))

end Sys2Proof.Machine
end

