-- ==== Sys2Proof/Machine/Sparse.lean ====
section
/-! DEFINITION. Machine/Sparse.lean: sparse maps from numbers to values in one canonical form: keys strictly rising, and
no entry equal to what an unlisted key reads as. -/
namespace Sys2Proof.Machine

/-- A sparse map: key and value pairs. -/
abbrev Sparse (α : Type) := List (Nat × α)

/-- The value of a key; an unlisted key reads as `dflt` says. -/
def sparseRead {α : Type} (dflt : Nat → α) (m : Sparse α) (k : Nat) : α :=
  match m.find? (fun e => e.1 == k) with
  | some e => e.2
  | none => dflt k

/-- Insert an entry before the first larger key. -/
def sparseInsert {α : Type} (k : Nat) (v : α) : Sparse α → Sparse α
  | [] => [(k, v)]
  | e :: m => if k < e.1 then (k, v) :: e :: m else e :: sparseInsert k v m

/-- Write a key; writing what an unlisted key reads as removes the entry. -/
def sparseWrite {α : Type} [DecidableEq α] (dflt : Nat → α) (m : Sparse α) (k : Nat) (v : α) : Sparse α :=
  let rest := m.filter (fun e => !(e.1 == k))
  if v = dflt k then rest else sparseInsert k v rest

/-- Keys strictly rise. -/
def sparseSorted {α : Type} : Sparse α → Bool
  | [] => true
  | [_] => true
  | e :: f :: m => decide (e.1 < f.1) && sparseSorted (f :: m)

/-- The canonical form. -/
def sparseWf {α : Type} [DecidableEq α] (dflt : Nat → α) (m : Sparse α) : Bool :=
  sparseSorted m && m.all (fun e => !decide (e.2 = dflt e.1))

end Sys2Proof.Machine
end

