-- ==== Sys2Proof/Machine/State.lean ====
section
/-! DEFINITION. Machine/State.lean: the state of the SQ3208 as plain data, the reasons a step can stop, and the state
right after reset.  Register fields live in `State.regs`, a canonical sparse map over the reset values of the page
tables; the rest of the structure is the state the prose of the spec gives the device outside its registers. -/
namespace Sys2Proof.Machine

open Sys2Proof (Byte Word Carrier PerCarrier Origin Page Instr Message RxFrame TapSignature)

/-- Why a step stops with a fault. -/
inductive Fault where
  /-- A register access names an address outside BAR0's 64 MiB (R362).  Raised by the access commands; safe. -/
  | outsideBar0
  /-- A CXL.mem access names an offset outside the HDM decoder's largest window, 32 GiB (R363).  Raised by the CXL.mem
  commands; safe. -/
  | outsideHdm
  deriving DecidableEq, Repr

/-- Why a command is refused by the model. -/
inductive Refusal where
  /-- No meaning yet for the command with this mnemonic.  Raised by the dispatch arms alone; safe. -/
  | notModelled (mnemonic : String)
  deriving DecidableEq, Repr

/-! ## Chapter 02: journal, event router, reads -/

/-- One 32-byte journal entry (R59), field by field, and the chain head after it. -/
structure JournalEntry where
  timeNs : Nat
  seqNo : Nat
  addr : Nat
  old : Word
  new : Word
  info : Word
  link : Word
  headAfter : BitVec 256
  deriving DecidableEq, Repr

/-- The configuration journal beyond its registers (R59-R66). -/
structure Journal where
  /-- The chain head H(n). -/
  head : BitVec 256
  /-- The on-die buffer, oldest entry first. -/
  buffer : List JournalEntry
  /-- The LPDDR5X ring, oldest entry first. -/
  ring : List JournalEntry
  /-- Entries RK7 has persisted to the Archive, oldest first. -/
  archive : List JournalEntry
  /-- SEQ_NO of the newest persisted entry. -/
  persisted : Option Nat
  /-- Stored signatures: SEQ_NO of the signed head and the signature. -/
  signatures : List (Nat × List Byte)
  /-- Head, SEQ_NO and TIME_NS of the signature being made. -/
  signing : Option (BitVec 256 × Nat × Nat)
  /-- The heads still to be signed after it, oldest first (R62). -/
  signDue : List (BitVec 256 × Nat × Nat)
  /-- Refusals with JOURNAL_FULL since space was last free. -/
  unlogged : Nat
  /-- Only the reserve of R65 is free. -/
  inReserve : Bool
  deriving DecidableEq, Repr

/-- The event router beyond its registers (R70-R73). -/
structure EventRouter where
  /-- Route entries that differ from their reset value, by source number. -/
  routes : Sparse Word
  /-- Accepted route entries that wait for the next event message (R72), by source number, oldest first. -/
  staged : List (Nat × Word)
  /-- Set (true) and clear (false) messages on their way from the pages, oldest first. -/
  messages : List (Nat × Bool)
  /-- Sources EVR holds as pending. -/
  pending : List Nat
  /-- Software sources raised through SW_SET, bits 0-15. -/
  software : Nat
  /-- Sources the Plinth has been notified of, newest first. -/
  plinthNotices : List Nat
  deriving DecidableEq, Repr

/-- A latched _HI half (R582). -/
structure Latch where
  origin : Nat
  loAddr : Nat
  hi : Word
  deriving DecidableEq, Repr

/-- MSI-X delivery of the host function (R367). -/
structure Msix where
  masked : Nat
  functionMask : Bool
  pendingBits : Nat
  /-- Vectors of the messages sent, newest first. -/
  sent : List Nat
  deriving DecidableEq, Repr

/-- The answer to the last read. -/
inductive ReadAnswer where
  | none
  | word (w : Word)
  | double (w : BitVec 64)
  | unsupportedRequest
  | poisoned
  | bytes (b : List Byte)
  deriving DecidableEq, Repr

/-- An ARM semaphore (R25-R28): the holder and, per origin, the result of its last command. -/
structure Semaphore where
  holder : Option Origin
  results : List (Nat × Nat)
  deriving DecidableEq, Repr

/-- The live fields of a register as last accepted, which wait for the page's next application boundary (R44, R53, R55,
R58): BAR0 byte address and word. -/
structure LiveWrite where
  addr : Nat
  value : Word
  deriving DecidableEq, Repr

/-! ## Chapters 03 and 08: framing -/

/-- A transmitted line frame (R80): header, Quolet word, payload, tag. -/
structure LineFrame where
  hdr : BitVec 128
  qlt : BitVec 64
  payload : BitVec 131584
  tag : BitVec 128
  deriving DecidableEq, Repr

/-- A run of bits in transmission order: how many there are, and the number they spell, earliest bit most significant. -/
structure BitQueue where
  len : Nat
  bits : Nat
  deriving DecidableEq, Repr

/-- The transmit half of FEC_x (R79, R202): the memory of the oFEC encoder (0: all-zero), the information bits of the line
frame in progress it has not taken, and the coded bits TXP_x has not taken. -/
structure Encoder where
  mem : Nat
  info : BitQueue
  coded : BitQueue
  deriving DecidableEq, Repr

/-- LFM_x beyond its registers. -/
structure Framer where
  /-- The justification buffer, oldest block first (R86). -/
  buffer : List (BitVec 257)
  /-- The last LF sent was blanked (R89). -/
  lastBlanked : Bool
  /-- The last LF sent. -/
  lastSent : Option LineFrame
  /-- A start waits for the running partner's CSF boundary (R85). -/
  waitJoin : Bool
  /-- A start waits for the partner's RUN in 1+1 (R273). -/
  waitPair : Bool
  /-- Matches seen since the candidate in PRESYNC (R209). -/
  preMatches : Nat
  /-- Consecutive FAW failures in SYNC (R209). -/
  fawFails : Nat
  /-- Expected CSF_NO and LF_IDX (R211). -/
  expected : Option (Nat × Nat)
  /-- 1+1 (R273): D of the LFs the other framer has formed and this one has yet to form, oldest first. -/
  dues : List Nat
  /-- 512 - FILL of the last LF of class FEC_PAYLOAD or DATA since the start (R88). -/
  lastCount : Option Nat
  /-- KEY_IDX of the CSF in progress (R85). -/
  keyIdx : Nat
  deriving DecidableEq, Repr

/-- A statistics window in progress (R206, R207): its blocks and uncorrectable blocks, the erased bits of all and of the
correctable ones, and of the correctable ones the corrected bits by label and the blocks by bin. -/
structure FecWindow where
  blocks : Nat
  uncorr : Nat
  erased : Nat
  erasedGood : Nat
  map : List Nat
  hist : List Nat
  deriving DecidableEq, Repr

/-- A window without a block. -/
def FecWindow.empty : FecWindow := ⟨0, 0, 0, 0, List.replicate 8 0, List.replicate 8 0⟩

/-- FEC_x beyond its registers (R200-R208). -/
structure FecState where
  /-- LLRs of the synchronised stream that the decoder has not taken, oldest first (R192), and the decoder's memory. -/
  llrs : List Int
  decoder : Nat
  /-- The latest decoded blocks in CHECK and LOCK, newest first, at most 256: whether each was uncorrectable. -/
  history : List Bool
  /-- Blocks decoded in CHECK and how many of them were uncorrectable. -/
  checkBlocks : Nat
  checkUncorr : Nat
  window : FecWindow
  /-- WIN_LOG2 of the window in progress. -/
  winLog2 : Nat
  /-- Consecutive windows below the SD and SF conditions. -/
  sdClear : Nat
  sfClear : Nat
  /-- The last decoded block was uncorrectable. -/
  lastBad : Bool
  /-- The transmit half. -/
  encoder : Encoder
  deriving DecidableEq, Repr

/-! ## Chapter 14: client ports -/

/-- What a client port sends in place of, or as, a block (R333, R340). -/
inductive ClientItem where
  | data (b : BitVec 257)
  | errorBlock
  | localFault
  deriving DecidableEq, Repr

/-- CPC_x beyond its registers. -/
structure ClientPcs where
  /-- Per port: data blocks have arrived without interruption since LOCAL_FAULT was entered. -/
  clean : List Bool
  /-- Per port: the items sent to the client by the last command that delivered any, in order. -/
  sent : List (List ClientItem)
  /-- The client ingress EB, oldest block first, with the port of each block (R30). -/
  ingress : List (Fin 4 × ClientIn)
  /-- The client egress EB, oldest block first, with the port of each block; none stands for an error control block (R30).
  -/
  egress : List (Nat × Option (BitVec 257))
  deriving DecidableEq, Repr

/-! ## Chapter 09: encryption and keying -/

/-- A key slot beyond its CRY_x register (R223, R226, R237, R239). -/
structure KeySlot where
  key : BitVec 256
  salt : BitVec 32
  epoch : Nat
  /-- The activation CSF recorded for a receive slot. -/
  announced : Nat
  /-- A replaced receive slot still in its retention. -/
  retained : Bool
  /-- CSF_NO of the first LF accepted under the successor of a retained slot. -/
  retainFrom : Nat
  /-- CSF_NO and LF_IDX of the last LF accepted under the slot. -/
  lastAccepted : Option (Nat × Nat)
  /-- Elapsed time at which the key was loaded, and its life from then, in nanoseconds (R231). -/
  loadedAt : Nat
  lifeNs : Nat
  deriving DecidableEq, Repr

/-- An erased key slot. -/
def KeySlot.empty : KeySlot := ⟨0, 0, 0, 0, false, 0, none, 0, 0⟩

/-- CRY_x beyond its registers. -/
structure CipherState where
  tx : Vector KeySlot 4
  rx : Vector KeySlot 4
  /-- The guard is held by a Plinth command (R229). -/
  plinthHold : Bool
  /-- The guard is held by hardware after a Plinth failure (R229, R474). -/
  hardwareHold : Bool
  /-- Consecutive tag failures (R240). -/
  tagRun : Nat
  /-- The next activation uses index 0 (R227): no activation since the slots were invalidated. -/
  fresh : Bool
  /-- The activation being retried waits until its framer has formed this CSF (R237 step 4). -/
  retryAfter : Option Nat
  /-- The pending activation is confirmed and waits for its partner's (R238). -/
  confirmed : Bool
  /-- Epoch and ratchet of the key this B-end has still to announce in its own direction (R234, R236). -/
  answer : Option (Nat × Nat)
  /-- Elapsed time of the last transmit activation (R234). -/
  activatedAt : Nat
  deriving DecidableEq, Repr

/-! ## Chapter 21: housekeeping, auxiliary outputs, calibration -/

/-- HKA or HKB beyond its registers (R479-R486). -/
structure Housekeeper where
  /-- Simultaneous mode as taken at the start of HKA's last sequence (HKA only). -/
  simul : Bool
  /-- A trigger held until a calibration (R486) or, in HKA, the other converter's sequence (R484) ends. -/
  held : Bool
  /-- Slots stopped since the running sequence began (R485). -/
  skipped : List Nat
  /-- Elapsed time of the newest input-0 code. -/
  refAt : Option Nat
  /-- Consecutive disagreements and agreements of R483. -/
  disagree : Nat
  agree : Nat
  /-- TEMP at the last accepted calibration (R498). -/
  calTemp : Option Int
  deriving DecidableEq, Repr

/-- AUX beyond its registers: one bit per channel. -/
structure AuxState where
  /-- A RANGE change waits for the channel's next step (R491). -/
  rangeWait : Nat
  /-- The enabling of the channel waits for its ladder calibration (R498). -/
  ladderWait : Nat
  deriving DecidableEq, Repr

/-- The calibration record of one item and unit (R497, R499). -/
structure CalCount where
  accepted : Nat
  rejected : Nat
  at_ : Nat
  deriving DecidableEq, Repr

/-- A calibration set as committed (R499). -/
structure CalSet where
  timeNs : Nat
  tempA : Nat
  tempB : Nat
  counts : List (Nat × CalCount)
  trims : List (Nat × Int)
  deriving DecidableEq, Repr

/-- CAL beyond its registers. -/
structure Calibrator where
  /-- Trim codes by 2^24 * ITEM + 2^16 * UNIT + SUB. -/
  trims : Sparse Int
  /-- Records by 256 * ITEM + UNIT. -/
  counts : Sparse CalCount
  /-- Elapsed time of the last commit. -/
  committedAt : Option Nat
  /-- A commit is due and deferred to the 10 s mark. -/
  due : Bool
  deriving DecidableEq, Repr

/-! ## Chapters 04 and 05: the line lanes -/

/-- TXP_x beyond its registers (R101, R106, R111, R116). -/
structure TxDsp where
  /-- The pilot-channel FIFO, oldest bit first. -/
  fifo : List Bool
  /-- Pilot groups begun in this symbol frame. -/
  group : Nat
  /-- The current group sign is -1. -/
  minus : Bool
  /-- LOG2_BLOCKS as applied when the running fade started. -/
  fadeLog2 : Nat
  /-- The DACs read their egress EBs (R111). -/
  reading : Bool
  /-- Offset of SYN_x from the LREF-derived rate, in 0.001 ppm (R115, R116). -/
  synOfs : Int
  /-- A symbol frame has been started since TXP_x started, and the next symbol period within it (R75, R100). -/
  framed : Bool
  pos : Nat
  /-- Target units since the last periodic injection, SINGLE strobes and periodic injections that wait for their unit (R118).
  -/
  units : Nat
  single : Nat
  armed : Nat
  /-- Symbol blocks formed since TXP_x started, and the symbols of the last one: four levels for each period (R102). -/
  blocks : Nat
  window : List (List Int)
  /-- The first block of the running fade (R106). -/
  fadeStart : Nat
  /-- The block the DACs need next (R33, R111). -/
  due : Nat
  deriving DecidableEq, Repr

/-- A lane's samples of one symbol block before its TX FIR (R102-R106), in units of 2^-16 of a tributary level: the block's
number, the banks it fades between and the weight `num / den` of the new one. -/
structure ShapedBlock where
  number : Nat
  old : Nat
  new : Nat
  num : Nat
  den : Nat
  samples : List Int
  deriving DecidableEq, Repr

/-- LTXn beyond its registers (R112, R117, R121). -/
structure TxLane where
  /-- Pattern RAM by word. -/
  pram : Sparse Word
  /-- PAT_CTL.MODE as applied, the PRBS register, the place in the square wave and in the pattern RAM. -/
  patMode : Nat
  prbs : Nat
  square : Nat
  ramPos : Nat
  /-- Foreground calibration has completed since the lane last entered running. -/
  fgDone : Bool
  /-- Blocks that wait for the TX FIR, oldest first, and the eight samples before them, newest first. -/
  shaped : List ShapedBlock
  history : List Int
  /-- The transmit egress EB, oldest block first: number and DAC codes (R30). -/
  egress : List (Nat × List Nat)
  /-- The codes the DAC put out for the last symbol block. -/
  codes : List Nat
  /-- Trims of the sub-DACs and of the multiplexer (R112, R113). -/
  trims : Sparse Int
  deriving DecidableEq, Repr

/-- A raw snapshot's lane capture (R141): the figures at its first sample, what its header counts, and its samples, newest first,
each with whether its block lies in a clipping interval. -/
structure Capture where
  mode : Nat
  single : Bool
  slice : Nat
  startNs : Nat
  fraction : Nat
  gain : Nat
  spare : Nat
  position : Nat
  clipBlocks : Nat
  samples : List (Int × Bool)
  /-- Sample index and gain code of the recorded changes, oldest first, at most 28. -/
  changes : List (Nat × Nat)
  trunc : Bool
  stopped : Bool
  deriving DecidableEq, Repr

/-- A symbol block in a receive ingress elastic buffer (R30, R126): its number, its samples and its clip marker. -/
structure LaneBlock where
  number : Nat
  samples : List Int
  clip : Bool
  deriving DecidableEq, Repr

/-- LRXn beyond its registers (R30, R125-R138). -/
structure LineRx where
  /-- Physical slice at each interleave position. -/
  positions : List Nat
  /-- Consecutive rejections by 4 * slice + item. -/
  rejRuns : Sparse Nat
  /-- Steps of the lap in progress. -/
  lapSteps : Nat
  /-- BG_EN was cleared while a step was under way; that step still completes (R135). -/
  lastStep : Bool
  /-- Foreground calibration done since the lane entered starting (R132). -/
  fgDone : Bool
  /-- Elapsed time of the last gain change and of the last fast step. -/
  gainAt : Option Nat
  fastAt : Option Nat
  /-- The capture in progress, or the last one. -/
  capture : Option Capture
  /-- The receive ingress elastic buffer, oldest block first: 12,288 samples (R30). -/
  ingress : List LaneBlock
  /-- Blocks delivered since numbering began (R126, R137), the number of a block dropped on the four lanes, and the drops
  that RX_SLIP has not yet signalled (R32). -/
  blocks : Nat
  dropped : Option Nat
  lost : Nat
  /-- Clean blocks in a row, clipped samples of the last block, and blocks since the last fast step, at most 64 (R128, R129). -/
  clean : Nat
  clipped : Nat
  sinceFast : Nat
  /-- The last 16,384 samples, newest first (R125). -/
  recent : List Int
  /-- The histogram run in progress: its 127 bins and the samples to come (R138). -/
  bins : List Nat
  histLeft : Nat
  deriving DecidableEq, Repr

/-! ## Chapters 06 and 07: the receive datapath -/

/-- The cycle-slip detector of a polarisation (R178-R183), phases in units of 2^-40 rad: the unwrapped BPS phase, the quarter
turns repaired in it and in the pilot-aided phase, the current run of equal non-zero q, its length, whether unequal values came
before it, and the held segments after the pilot of the last q = 0. -/
structure SlipRun where
  psi : Int
  repaired : Int
  turned : Int
  q : Int
  len : Nat
  mixed : Bool
  since : Nat
  deriving DecidableEq, Repr

/-- A detector without a slip. -/
def SlipRun.clear : SlipRun := ⟨0, 0, 0, 0, 0, false, 0⟩

/-- A run of symbol periods inside CPR_x, in units of 2^-16 of a level, after the NCO: a training block of 512 periods, or pilot
`pilot` and the 63 periods after it; the NCO phase of its first period and its step; the unwrapped phases measured on it (R175,
R177) and the quarter turns by which they differ from the training; its slip and clip markers; and of a training block the
symbol frame count and ANCHORED bit when a record is due (R185). -/
structure RxSegment where
  training : Bool
  pilot : Nat
  x : List (Int × Int)
  y : List (Int × Int)
  nco : Int
  step : Int
  phase : Option (Int × Int)
  turns : Int × Int
  slip : Bool
  clip : Nat
  mark : Option (Nat × Bool)
  deriving DecidableEq, Repr

/-- A symbol period from CPR_x to MLS_x (R174, R180, R188): whether it begins a symbol block, the four tributaries, the signs of a
training or pilot symbol, and its markers. -/
structure RxPeriod where
  first : Bool
  y : List Int
  known : Option (List Int)
  sync : Bool
  slip : Bool
  clip : Nat
  uncertain : Bool
  deriving DecidableEq, Repr

/-- CPR_x beyond its registers (R174-R186). -/
structure CarrierRec where
  /-- Training blocks since entry to FO_FINE or PHASE. -/
  blocks : Nat
  /-- Pilots and wrong pilot signs of X and Y since entry to PHASE, and wrong signs of this symbol frame. -/
  pilots : Nat
  wrongX : Nat
  wrongY : Nat
  frameX : Nat
  frameY : Nat
  /-- Consecutive training blocks below 0.75 in LOCKED. -/
  low : Nat
  /-- Symbol frames received since the start. -/
  syfs : Nat
  /-- A record is due (R185): its symbol frame count and ANCHORED bit. -/
  record : Option (Nat × Bool)
  /-- Soft values of the frame's pilot groups, first group first, and the sum of the group in progress (R184). -/
  softs : List Int
  groupSum : Int
  /-- Negative pilot signs of X and Y in the group that arrives (R186). -/
  groupX : Nat
  groupY : Nat
  /-- The next pilot of the frame; 16,376 when a training block is next. -/
  next : Nat
  /-- The NCO (R176): phase, frequency in 2^-16 of 0.1 MHz, the loop's integrator, and FO_EST at the latest 1,024 pilots, newest
  first. -/
  nco : Int
  freq : Int
  integrator : Int
  foHist : List Int
  /-- Products of the latest 16 pilots with their known symbols, X and Y, newest first, and the latest unwrapped phases (R177). -/
  products : List ((Int × Int) × (Int × Int))
  last : Int × Int
  /-- Segments that wait for the phases after them, oldest first, and the one before them. -/
  segments : List RxSegment
  previous : Option RxSegment
  runX : SlipRun
  runY : SlipRun
  /-- Corrected segments, oldest first: at most 1,024 symbols (R180). -/
  held : List (List RxPeriod)
  /-- Power of the frame's pilots and payload symbols, and their numbers (R177). -/
  pilotPower : Nat
  pilotCount : Nat
  dataPower : Nat
  dataCount : Nat
  /-- Segments that the slip marker still covers (R150, R182). -/
  slipLeft : Nat
  /-- The phase and decision of each symbol last given to EQZ_x, X and Y (R179). -/
  given : List ((Int × (Int × Int)) × (Int × (Int × Int)))
  deriving DecidableEq, Repr

/-- A carrier recovery that has seen nothing. -/
def CarrierRec.clear : CarrierRec where
  blocks := 0
  pilots := 0
  wrongX := 0
  wrongY := 0
  frameX := 0
  frameY := 0
  low := 0
  syfs := 0
  record := none
  softs := []
  groupSum := 0
  groupX := 0
  groupY := 0
  next := 16376
  nco := 0
  freq := 0
  integrator := 0
  foHist := []
  products := []
  last := (0, 0)
  segments := []
  previous := none
  runX := .clear
  runY := .clear
  held := []
  pilotPower := 0
  pilotCount := 0
  dataPower := 0
  dataCount := 0
  slipLeft := 0
  given := []

/-- A symbol period from MLS_x to DMP_x (R189, R194): whether it is payload, for each tributary the metric difference of each
level in units of 2^-16 nat, the model's value and the residual; and its markers. -/
structure SoftPeriod where
  payload : Bool
  delta : List (List Int)
  model : List Int
  resid : List Int
  sync : Bool
  slip : Bool
  clip : Nat
  uncertain : Bool
  deriving DecidableEq, Repr

/-- MLS_x and DMP_x beyond their registers (R188-R194). -/
structure Demapper where
  /-- Gains and tails as estimated, per tributary, in units of 2^-12. -/
  kappa : List Int
  tail : List Int
  /-- Noise variance per tributary, in units of 2^-16. -/
  variance : List Nat
  /-- The last block was erased. -/
  erased : Bool
  /-- SNR_LOW may be raised. -/
  armed : Bool
  /-- Periods from CPR_x, oldest first. -/
  input : List RxPeriod
  /-- Per tributary, the state metrics at the end of the last block by level, and the level decided last (R189). -/
  metrics : List (List (Int × Int))
  last : List Int
  /-- A marked block has passed: the next symbol sets the state metrics to 0 (R191). -/
  resetDue : Bool
  /-- Gradients of gain and tail, symbols and blocks since the last update (R190). -/
  gradK : List Int
  gradH : List Int
  gradN : Nat
  estBlocks : Nat
  /-- Periods from MLS_x to DMP_x, oldest first. -/
  soft : List SoftPeriod
  /-- Squared residuals and model values per tributary, symbols and blocks since the last update (R194). -/
  noise : List Nat
  power : List Nat
  varN : Nat
  varBlocks : Nat
  deriving DecidableEq, Repr

/-- A demapper that has seen nothing. -/
def Demapper.clear : Demapper where
  kappa := [4096, 4096, 4096, 4096]
  tail := [0, 0, 0, 0]
  variance := [65536, 65536, 65536, 65536]
  erased := true
  armed := true
  input := []
  metrics := []
  last := [0, 0, 0, 0]
  resetDue := true
  gradK := [0, 0, 0, 0]
  gradH := [0, 0, 0, 0]
  gradN := 0
  estBlocks := 0
  soft := []
  noise := [0, 0, 0, 0]
  power := [0, 0, 0, 0]
  varN := 0
  varBlocks := 0

/-- CDC_x beyond its registers (R147-R149). -/
structure Dispersion where
  base : Int
  offset : Int
  /-- A CD_SET written in TRACK toward which the applied CD moves. -/
  slew : Option Int
  /-- The samples of a scan are stored. -/
  scanning : Bool
  /-- Output blocks that the slip marker still covers (R150, R152). -/
  slipBlocks : Nat
  deriving DecidableEq, Repr

/-- EQZ_x beyond its registers (R159-R167). -/
structure Equaliser where
  /-- Taps by 164 * bank + 41 * filter + tap, real and imaginary, in units of 2^-22. -/
  taps : Sparse (Int × Int)
  /-- Shadow copy by 41 * filter + tap, in units of 2^-14. -/
  shadow : Sparse (Int × Int)
  /-- Consecutive detections of the expected training block at one index, and consecutive misses. -/
  hits : Nat
  misses : Nat
  /-- SYF_SEARCH has timed out since BLIND was last entered. -/
  timedOut : Bool
  /-- On LOCK, TIMING goes to SYF_SEARCH: a warm start, or a return from TRACK. -/
  toSearch : Bool
  /-- The pages resumed from Sleep or Deep sleep. -/
  resumed : Bool
  /-- A block of the update period in progress carries a slip or clip marker (R155). -/
  marked : Bool
  /-- Symbol index of the latest training detection: the symbol frame position (R166). -/
  index : Nat
  /-- Taps of the active bank at the last channel estimate, by 41 * filter + tap (R158). -/
  estimated : Sparse (Int × Int)
  deriving DecidableEq, Repr

/-! ## Chapter 12: the optics front-end -/

/-- FES of one carrier beyond its registers (R289-R298). -/
structure Optics where
  /-- TXDIS_x is high: the laser output is disabled. -/
  txDisabled : Bool
  /-- FES has told the Plinth to assert TXDIS_x once the gate has closed (R294). -/
  disableWaits : Bool
  /-- MOD_RST_N_x is asserted. -/
  modReset : Bool
  /-- The module is in CMIS low-power mode. -/
  lowPower : Bool
  /-- The module reports wavelength lock, and that the laser settles. -/
  waveLock : Bool
  settling : Bool
  /-- Consecutive monitor readings below SET and above CLR (R305). -/
  below : Nat
  above : Nat
  /-- FO_MARGIN may be raised (R296). -/
  marginArmed : Bool
  /-- Consecutive failed CMIS transactions (R292 cause 0x06). -/
  cmisFails : Nat
  /-- Chips of the wake burst being keyed on TXDIS_x, next chip first (R298). -/
  keying : List Bool
  deriving DecidableEq, Repr

/-! ## Chapters 10 and 20: Quolet and the Plinth -/

/-- A sent message that waits for its acknowledgement (R255). -/
structure Outstanding where
  type : Nat
  msg : Message
  resends : Nat
  deriving DecidableEq, Repr

/-- KQ of an epoch, for both roles (R254). -/
structure MacKey where
  epoch : Nat
  own : BitVec 256
  peer : BitVec 256
  deriving DecidableEq, Repr

/-- An epoch secret S(e,r) (R223). -/
structure Chain where
  epoch : Nat
  ratchet : Nat
  secret : BitVec 512
  /-- Carriers and directions whose KS of this ratchet has been derived (R224). -/
  made : List (Carrier × Nat)
  deriving DecidableEq, Repr

/-- A Quolet session (R258-R262), named by the carrier whose path started it. -/
structure Session where
  /-- R260: 0 DOWN, 1 NEGOTIATE, 2 KEYING, 3 KEYED, 4 FAILED. -/
  state : Nat
  /-- The HELLO of the current exchange has not been accepted yet. -/
  awaitHello : Bool
  nonce : BitVec 256
  /-- SEQ of the next message to send, and of the next one expected. -/
  sendSeq : Nat
  recvSeq : Nat
  unacked : List Outstanding
  /-- Messages that arrived ahead of order: type, message, path. -/
  ahead : List (Nat × Message × Carrier)
  /-- A message has been accepted that nothing sent since acknowledges. -/
  ackDue : Bool
  /-- By TYPE, the last HELLO, CAPS, ATTEST, KEM_INIT and KEM_RESP sent and accepted, as they enter the transcript. -/
  own : List (Nat × List Byte)
  peer : List (Nat × Message)
  heldKem : Option Message
  /-- Seed and epoch of the ML-KEM key pair of a KEM_INIT that waits for its KEM_RESP. -/
  kemSeed : Option (BitVec 512 × Nat)
  /-- Public key and identity of the attested peer. -/
  peerKey : Option (List Byte)
  peerId : BitVec 256
  epoch : Nat
  th : BitVec 256
  /-- Epoch secrets held, newest first (R224). -/
  chains : List Chain
  keys : List MacKey
  /-- A message under the newest epoch has been accepted while an older KQ is held. -/
  kqAging : Bool
  confirmSent : Bool
  confirmed : Bool
  /-- Elapsed time at which the epoch secret was derived. -/
  epochAt : Nat
  /-- A ratchet waits for the instant of R262. -/
  ratchetDue : Bool
  /-- The effective rekey interval I in seconds, as taken at the last ratchet (R234). -/
  interval : Nat
  /-- INB_A and INB_B of the peer's last accepted message. -/
  peerInb : Nat
  /-- TARGET_A, TARGET_B and MODE_MASK of the peer. -/
  peerTargets : Nat × Nat × Nat
  deriving DecidableEq, Repr

/-- A session that is DOWN. -/
def Session.down : Session where
  state := 0
  awaitHello := false
  nonce := 0
  sendSeq := 0
  recvSeq := 0
  unacked := []
  ahead := []
  ackDue := false
  own := []
  peer := []
  heldKem := none
  kemSeed := none
  peerKey := none
  peerId := 0
  epoch := 0
  th := 0
  chains := []
  keys := []
  kqAging := false
  confirmSent := false
  confirmed := false
  epochAt := 0
  ratchetDue := false
  interval := 0
  peerInb := 0
  peerTargets := (0, 0, 1)

/-- The step of a carrier (R264). -/
structure StepRecord where
  fromMode : Nat
  toMode : Nat
  /-- KIND: 0 up, 1 down, 2 resume. -/
  kind : Nat
  n : Nat
  /-- By step (FROM, TO), the backoff in seconds after its last fallback, and the step whose backoff runs. -/
  backoffs : List ((Nat × Nat) × Nat)
  waiting : Option (Nat × Nat)
  /-- The restart of the step has been made; FEC_x has reached LOCK since, and SF has been set since then. -/
  restarted : Bool
  locked : Bool
  failed : Bool
  /-- A STEP_ACK accepted the offer. -/
  accepted : Bool
  /-- Picoseconds of FEC windows over which the receive condition has held without a break. -/
  goodPs : Nat
  deriving DecidableEq, Repr

/-- Wake sending of a carrier (R247, R249): TYPE and bursts left. -/
structure WakeSend where
  type : Nat
  left : Nat
  burst : Nat
  deriving DecidableEq, Repr

/-- A sender's newest burst as a wake receiver has heard it (R248): TYPE, IDFRAG, BURST, the last COPY and how many copies. -/
structure HeardWake where
  type : Nat
  frag : Nat
  burst : Nat
  copy : Nat
  count : Nat
  deriving DecidableEq, Repr

/-- The Viterbi decoding of one phase of the coded pairs (R251): of every encoder state the path metric and the decoded bits not yet
traced back, newest first; the first value of a pair that waits for its second; and the decoded bits, oldest first. -/
structure ViterbiRun where
  paths : List (Int × List Bool)
  half : Option Int
  bits : List Bool
  deriving DecidableEq, Repr

/-- RK1's search of a pilot channel (R251): both phases of the coded pairs, the phase of the word sync, and of the last 16 words in
sync whether each showed MARK, newest first. -/
structure PilotSearch where
  even : ViterbiRun
  odd : ViterbiRun
  phase : Bool
  marks : List Bool
  deriving DecidableEq, Repr

/-- A search that starts from nothing (R251): the odd phase pairs the first value with an erased one. -/
def PilotSearch.start : PilotSearch := ⟨⟨[], none, []⟩, ⟨[], some 0, []⟩, false, []⟩

/-- A sleep agreement (R267): STATE, DELAY, MODE_A and MODE_B. -/
structure SleepPlan where
  state : Nat
  delay : Nat
  modeA : Nat
  modeB : Nat
  deriving DecidableEq, Repr

/-- QLT beyond its registers. -/
structure Quolet where
  sessions : PerCarrier Session
  /-- The session a path belongs to. -/
  owner : PerCarrier (Option Carrier)
  /-- IDFRAG, signed bytes and signature of the first HELLO received on a path. -/
  firstHello : PerCarrier (Option (Nat × List Byte × List Byte))
  /-- Message bytes assembled so far from the pilot channel and in band (R252). -/
  asmPilot : PerCarrier (Option (List Byte))
  asmInband : PerCarrier (Option (List Byte))
  /-- Words and coded bits that wait to be sent. -/
  outInband : PerCarrier (List (BitVec 64))
  outPilot : PerCarrier (List (BitVec 64))
  coded : PerCarrier (List Bool)
  /-- State of the convolutional encoder (R250). -/
  encoder : PerCarrier Nat
  /-- A change of the pilot-channel modulation that the next symbol frame brings (R258). -/
  modulate : PerCarrier (Option Bool)
  steps : PerCarrier StepRecord
  /-- CSF_NO and stamp in 2^-16 ns of the last 4,096 CSF starts, newest first (R265). -/
  txStamps : PerCarrier (List (Nat × Nat))
  rxStamps : PerCarrier (List (Nat × Nat))
  /-- The peer's last REF_CSF. -/
  peerRef : PerCarrier (Option Nat)
  /-- The peer has acknowledged a message that carried INB_x = 1. -/
  inbAcked : PerCarrier Bool
  /-- The agreement of R267, and the request of this end that waits for its answer. -/
  sleepPlan : Option SleepPlan
  sleepAsked : Option SleepPlan
  /-- SEQ of the last REKEY of a carrier. -/
  rekeySeq : PerCarrier (Option Nat)
  wake : PerCarrier (Option WakeSend)
  /-- The bursts each wake receiver has heard, one for each sender and TYPE. -/
  wakeHeard : PerCarrier (List HeardWake)
  /-- RK1's search of each pilot channel (R251). -/
  pilotRx : PerCarrier PilotSearch
  /-- An accepted CALL waits for its ANSWER. -/
  answerDue : PerCarrier Bool
  /-- Channel values of the peer (R256). -/
  peerValues : Sparse Nat
  /-- STRAP0 as sampled at reset (R268). -/
  strapRole : Bool
  /-- ASLEEP and UNCERT, ns, of a wake that the next exchange announces with WAKE (R267). -/
  wakeDue : Option (Nat × Nat)
  deriving DecidableEq, Repr

/-- A capsule (R462). -/
structure Capsule where
  cmd : Nat
  target : BitVec 256
  counter : Nat
  signer : Nat
  body : List Byte
  deriving DecidableEq, Repr

/-- A request to the Plinth's engine (R476), from PLN's mailbox or the host's vendor commands. -/
structure PlinthRequest where
  fromHost : Bool
  req : Nat
  input : List Byte
  deriving DecidableEq, Repr

/-- A record of the security log (R466). -/
structure SecRecord where
  timeNs : Nat
  seqNo : Nat
  kind : Nat
  carrier : Nat
  flags : Nat
  detail : Nat
  prev : BitVec 256
  deriving DecidableEq, Repr

/-- The Plinth beyond its registers. -/
structure Plinth where
  /-- The protected store (R458). -/
  officers : Vector (Option (List Byte)) 4
  psk : Option (BitVec 256)
  trust : Vector (Option (List Byte)) 4
  allow : Vector (Option (BitVec 256)) 8
  codeKey : Option (List Byte)
  svnMin : Sparse Nat
  policy : Word
  alsCfg : Word
  holdSet : Word
  counter : Nat
  logHead : BitVec 256
  /-- The security log, newest record first, and the signatures of its head (R466). -/
  log : List SecRecord
  logSigs : List (Nat × List Byte)
  /-- Measurements M2 to M10 (R460), and the payload digest M12. -/
  measured : Vector (BitVec 256) 9
  calDigest : BitVec 256
  /-- Which Plinth firmware image runs (M1). -/
  firmware : Nat
  /-- The next HELLO carries FRESH = 1 (R256). -/
  fresh : Bool
  lastEpoch : Nat
  /-- The working copies of the private keys are erased (R470). -/
  keysErased : Bool
  /-- ZEROISE_N is low. -/
  zeroiseLow : Bool
  drawn : Nat
  request : Option PlinthRequest
  running : Option Capsule
  mbxIn : List Byte
  mbxOut : List Byte
  /-- CMD, result and per-pair bytes of the last capsule. -/
  lastResult : List Byte
  /-- The COMMAND hold of a test port opened in scan mode (R472). -/
  scanHold : Bool
  /-- RK0.HB_CNT at the last check (R473). -/
  lastBeat : Nat
  /-- RK0 has run since the start, so its watch is on. -/
  rk0Seen : Bool
  /-- Elapsed time at which the open test port closes (R472). -/
  testUntil : Nat
  /-- FAULT_N causes that last until a device reset: a failed checker, a failed self-test block (R471). -/
  faultLatched : Bool
  /-- Such a cause keeps both carriers' lasers disabled (R421, R536). -/
  lasersBarred : Bool
  deriving DecidableEq, Repr

/-! ## Chapter 19: the keep store and the Archive -/

/-- A slot of a two-slot area of the keep store (R450): SEQ, and its content as numbers in the order R449 lists it. -/
structure KeepSlot where
  valid : Bool
  seq : Nat
  payload : List Nat
  deriving DecidableEq, Repr

/-- The keep store (R449): the six two-slot areas in the order of R455, the words of WORDS, and the wear table by block
(bits of R452). -/
structure KeepStore where
  areas : Vector (KeepSlot × KeepSlot) 6
  bootCount : Nat
  openWindow : Nat
  inService : Nat
  formatCount : Nat
  mediaId : Nat
  wear : Sparse Nat
  deriving DecidableEq, Repr

/-- A firmware slot (R446): whether the whole bundle was written and read back, the images of RK0 to RK7 it holds, and
the Plinth firmware image. -/
structure FwSlot where
  complete : Bool
  images : List (Option (List Byte))
  plinthImage : Nat
  deriving DecidableEq, Repr

/-- The Archive beyond its registers. -/
structure Archive where
  /-- A superblock is valid and matches the geometry (R436). -/
  superblock : Bool
  /-- Bytes of an erase block, number of erase blocks and the factory-bad ones. -/
  blockBytes : Nat
  blockCount : Nat
  factoryBad : List Nat
  /-- By block: reads since the last erase (R442), and time-base nanoseconds of the program (R441). -/
  reads : Sparse Nat
  programmed : Sparse Nat
  /-- Elapsed time of each block erase of the last 30 days, newest first (R443). -/
  erasedAt : List Nat
  /-- Consecutive timeouts by target (R435). -/
  timeouts : Sparse Nat
  fw : Vector FwSlot 2
  /-- LIFE_LOW may be raised (R443). -/
  lifeArmed : Bool
  /-- Media identity of the media present. -/
  media : Nat
  /-- The firmware slot a start or an online activation loads from, in place of the active one. -/
  loadSlot : Option Nat
  deriving DecidableEq, Repr

/-! ## Chapter 11: route protection -/

/-- A received LF in RPS's delay buffer (R274). -/
structure RouteCopy where
  csf : Nat
  lf : Nat
  /-- Class of R210: 4, 5 or 6. -/
  cls : Nat
  frame : RxFrame
  /-- Nanoseconds of arrival. -/
  arrival : Nat
  deriving DecidableEq, Repr

/-- RPS beyond its registers. -/
structure RouteProtect where
  /-- Copies that wait for their output instant, oldest first. -/
  held : PerCarrier (List RouteCopy)
  /-- CSF_NO, LF_IDX and arrival of the copies received within MAX_DELAY, newest first. -/
  seen : PerCarrier (List (Nat × Nat × Nat))
  /-- CSF_NO and LF_IDX of the next output instant. -/
  next : Option (Nat × Nat)
  /-- Output instants still to pause. -/
  pause : Nat
  /-- Consecutive LFs matched, instants without a copy, and late copies (R277). -/
  matched : Nat
  absent : PerCarrier Nat
  lateRun : Nat
  /-- A carrier and the LFs from the arrivals of its copies to their instants (R275). -/
  base : Carrier
  lead : Nat
  /-- The carrier that is present in SINGLE. -/
  present : Option Carrier
  /-- The last instant delivered an LF. -/
  delivered : Bool
  /-- A manual selection is in force. -/
  manual : Bool
  /-- ROUTESEL_x is high. -/
  pins : PerCarrier Bool
  /-- Route, CAUSE and N of the switch under way (R282, R283). -/
  route : Nat
  cause : Nat
  n : Nat
  /-- A unilateral switch is to be reported with DONE. -/
  doneDue : Bool
  deriving DecidableEq, Repr

/-! ## Chapter 13: telemetry and Cast -/

/-- A decimator of TEL (R311, R313). -/
structure TelChannel where
  /-- Integrators and comb delays of the CIC, and the 19 latest samples of each half-band stage, newest first. -/
  integ : List Int
  comb : List Int
  first : List Int
  second : List Int
  /-- The last valid value, and the counter a counting channel saw at the last tick. -/
  last : Int
  count : Nat
  /-- Outputs still INVALID. -/
  invalid : Nat
  /-- EN as seen at the last tick. -/
  on : Bool
  /-- An output that waits to be shown: its number, its value before clamping and its tick. -/
  due : Option (Nat × Int × Nat)
  deriving DecidableEq, Repr

/-- A decimator after a reset with `settle` outputs to settle. -/
def TelChannel.clear (last : Int) (count settle : Nat) (on : Bool) : TelChannel :=
  ⟨List.replicate 4 0, List.replicate 4 0, List.replicate 19 0, List.replicate 19 0, last, count, settle, on, none⟩

/-- RK6's watch of a carrier (R314, R315), by channel c + i: the valid outputs since the last INVALID one, newest first; and what a
learn has collected: the number and the sum of the valid outputs, and how often each value of c+3 came. -/
structure TapWatch where
  history : List (List Int)
  counts : List Nat
  sums : List Int
  sop : Sparse Nat
  /-- Rules that have fired and are still to be named in a TAP_RAISE write, one bit each. -/
  fired : Nat
  deriving DecidableEq, Repr

/-- A watch that has seen nothing. -/
def TapWatch.clear : TapWatch := ⟨List.replicate 24 [], List.replicate 24 0, List.replicate 24 0, [], 0⟩

/-- TEL beyond its registers. -/
structure Telemetry where
  channels : Vector TelChannel 64
  /-- Ticks since the reset tick, the instant of the last tick, and a reset due at the next tick (R310, R312). -/
  ticks : Nat
  tickNs : Option Nat
  resetDue : Bool
  taps : PerCarrier TapWatch
  /-- Reference signatures by 2 * carrier + route. -/
  signatures : Vector (Option TapSignature) 4
  /-- FLAGn as latched by the last read of OUTn (R326). -/
  flags : List (Nat × Word)
  deriving DecidableEq, Repr

/-- A record of R318. -/
structure CastRecord where
  channel : Nat
  flags : Nat
  m : Nat
  value : Int
  deriving DecidableEq, Repr

/-- A block of records (R318), newest record first. -/
structure CastBlock where
  timeNs : Nat
  resetNs : Nat
  number : Nat
  thin : Nat
  records : List CastRecord
  deriving DecidableEq, Repr

/-- A window of R321. -/
structure CastWindow where
  number : Nat
  /-- Windows lost before it (R325). -/
  lost : Nat
  openedNs : Nat
  extendedNs : Nat
  startNs : Nat
  endNs : Nat
  bits : Nat
  extended : Bool
  preShort : Bool
  snap : Bool
  /-- TB_VALID and TB_EXTRAPOLATED, bits 0 and 1. -/
  tb : Nat
  ignored : Nat
  deriving DecidableEq, Repr

/-- A committed window as the Archive holds it: header, number of blocks and signature (R323). -/
structure StoredWindow where
  header : List Byte
  signature : List Byte
  deriving DecidableEq, Repr

/-- CAST beyond its registers. -/
structure CastState where
  /-- Blocks of the active history buffer, newest first, and of the frozen one. -/
  active : List CastBlock
  frozen : List CastBlock
  /-- Number of the next history block. -/
  nextBlock : Nat
  /-- Continuous ring: the block being filled, full blocks that wait for the Archive, oldest first, and those stored,
  newest first. -/
  ringOpen : Option CastBlock
  ringWaiting : List CastBlock
  ringStored : List CastBlock
  nextRing : Nat
  /-- Triggers that have occurred and not yet been applied: source bit and time. -/
  arrived : List (Nat × Nat)
  held : Option (Nat × Nat)
  /-- The open window, and the one being committed. -/
  window : Option CastWindow
  committing : Option CastWindow
  /-- Windows lost that no header has recorded yet. -/
  lost : Nat
  /-- Committed windows in the Archive, newest first. -/
  stored : List StoredWindow
  deriving DecidableEq, Repr

/-! ## Chapters 15 and 18: serial lanes, host link and memories -/

/-- The receive checker of a client lane (R350): bits since it seeded, error-free bits since the last error, the positions
of the errors among the last 4,096 bits, newest first, and the bits its next prediction comes from, newest first. -/
structure LaneChecker where
  bits : Nat
  clean : Nat
  errors : List Nat
  recent : List Bool
  deriving DecidableEq, Repr

/-- HLK beyond its registers. -/
structure HostLink where
  /-- PERST_N is asserted. -/
  perst : Bool
  /-- Highest rate code and width the host end offers. -/
  hostRate : Nat
  hostWidth : Nat
  /-- Host lane a Lane Margining command runs on, and whether the last one was answered busy (R352). -/
  margin : Option Nat
  marginBusy : Bool
  /-- Elapsed time of the last WR_DROP event (R364). -/
  dropAt : Option Nat
  deriving DecidableEq, Repr

/-- Answers of the primary mailbox (R365, R366). -/
inductive MboxReturn where
  | none | success | backgroundStarted | invalidInput | unsupported | busy | notFound | failed
  deriving DecidableEq, Repr

/-- An answer with its values and bytes. -/
structure MboxAnswer where
  ret : MboxReturn
  values : List Nat
  bytes : List Byte
  deriving DecidableEq, Repr

/-- A record of the CXL event logs (R365): a General Media Event with its address, or a Memory Module Event. -/
structure CxlRecord where
  handle : Nat
  module : Bool
  address : Nat
  timeNs : Nat
  deriving DecidableEq, Repr

/-- The primary mailbox (R365). -/
structure HostMailbox where
  /-- Opcode of the background command that runs. -/
  background : Option Nat
  answer : MboxAnswer
  /-- Records of the four event logs, oldest first, and the interrupt policy of each. -/
  logs : Vector (List CxlRecord) 4
  policy : List Nat
  nextHandle : Nat
  /-- Memory health is lowered (R427). -/
  healthLow : Bool
  deriving DecidableEq, Repr

/-- What watches a memory (R422-R427); addresses are words (SRAM) or lines (LPDDR5X). -/
structure MemoryWatch where
  /-- The 64 most recently corrected addresses with their elapsed times, newest first. -/
  history : List (Nat × Nat)
  /-- Remapped addresses, and line addresses whose row is being copied. -/
  remapped : List Nat
  copying : List Nat
  /-- Queued write-backs, oldest first. -/
  writeBack : List Nat
  /-- The scrubber's next address, the start of its lap and the last completed lap, ns. -/
  position : Nat
  lapStart : Nat
  lastLap : Option Nat
  /-- LAP_SLOW has been raised since a lap last ended in time. -/
  warned : Bool
  deriving DecidableEq, Repr

/-- The memories of chapter 18. -/
structure Memories where
  sram : MemoryWatch
  lines : MemoryWatch
  /-- LPDDR5X by byte address. -/
  lpddr : Sparse Byte
  /-- The initialised map by 1 MiB granule, and the granules being filled (R420). -/
  granules : Sparse Bool
  filling : List Nat
  /-- Poisoned lines. -/
  poisoned : Sparse Bool
  /-- Checkers that failed the test of R421. -/
  failedCheckers : List Nat
  /-- Elapsed time of the last LINK_ERR event. -/
  linkErrAt : Option Nat
  deriving DecidableEq, Repr

/-! ## Chapters 16 and 17: Reckoner cores and Tally -/

/-- A hardware loop level (R387); it is open while its count is not 0. -/
structure LoopLevel where
  count : Nat
  first : Nat
  last : Nat
  deriving DecidableEq, Repr

/-- A DMA channel of a core (R392). -/
structure DmaChannel where
  ring : Word
  head : Nat
  tail : Nat
  halted : Bool
  error : Nat
  deriving DecidableEq, Repr

/-- Registers of a core that a result in flight goes to (R379). -/
inductive CoreReg where
  | d (n : Nat)
  /-- An accumulator as EXT, ARDL, ARDH, ASHL and ASHR read it. -/
  | slow (n : Nat)
  | ctl (n : Nat)
  deriving DecidableEq, Repr

/-- A result in flight: it is read by bundles issued from number `due` on. -/
structure Flight where
  reg : CoreReg
  value : Nat
  due : Nat
  deriving DecidableEq, Repr

/-- The last bundle issued, for precise sampling (R410). -/
structure IssueRecord where
  pc : Nat
  words : List Word
  user : Bool
  exl : Bool
  /-- The reference tick of its issue (R6, R410). -/
  issuedAt : Nat
  deriving DecidableEq, Repr

/-- A Reckoner core (R374, R375). -/
structure Core where
  d : Vector Word 32
  ac : Vector (BitVec 48) 8
  slow : Vector (BitVec 48) 8
  a : Vector Word 8
  b : Vector Word 8
  l : Vector Word 8
  m : Vector Word 4
  pc : Nat
  status : Word
  epc : Word
  ecause : Word
  eaddr : Word
  vbase : Word
  ien : Word
  link : Word
  loop0 : LoopLevel
  loop1 : LoopLevel
  tb0 : Word
  tb1 : Word
  cbstat : Word
  estatus : Word
  dma0 : DmaChannel
  dma1 : DmaChannel
  /-- Results in flight in the order of issue, and the number of bundles issued. -/
  flights : List Flight
  issued : Nat
  /-- A branch with delay slots left: their number, the target and the branch bundle (R379). -/
  branch : Option (Nat × Nat × Nat)
  /-- Issue waits in WAIT (R388). -/
  waiting : Bool
  lastIssue : IssueRecord
  deriving DecidableEq, Repr

/-- A core right after it enters starting, with PC at `entry` (R374). -/
def Core.reset (entry : Nat) : Core where
  d := .replicate 32 0
  ac := .replicate 8 0
  slow := .replicate 8 0
  a := .replicate 8 0
  b := .replicate 8 0
  l := .replicate 8 0
  m := .replicate 4 0
  pc := entry
  status := 0
  epc := 0
  ecause := 0
  eaddr := 0
  vbase := 0
  ien := 0
  link := 0
  loop0 := ⟨0, 0, 0⟩
  loop1 := ⟨0, 0, 0⟩
  tb0 := 0
  tb1 := 0
  cbstat := 0
  estatus := 0
  dma0 := ⟨0, 0, 0, false, 0⟩
  dma1 := ⟨0, 0, 0, false, 0⟩
  flights := []
  issued := 0
  branch := none
  waiting := false
  lastIssue := ⟨0, [], false, false, 0⟩

/-- A core's loaded image (R394, R395): ENTRY, the user window, SVN by kind, and the image of a load in progress. -/
structure CoreImage where
  entry : Nat
  userEntry : Nat
  window : List Word
  loading : Option (List Byte)
  /-- A load that the copy step has already failed, with its RESULT. -/
  failed : Option Nat
  deriving DecidableEq, Repr

/-- The sample buffer of a TLYn page (R409-R411): records oldest first, events since the last record, and D1 to D3 as
latched by a read of D0. -/
structure SampleBuffer where
  records : List (List Word)
  since : Nat
  latched : List Word
  /-- How many of the newest records wait for the next issue, which gives their latency (R410). -/
  waiting : Nat
  deriving DecidableEq, Repr

/-! ## Chapters 22, 23 and 25: power, time base, self-test, firmware -/

/-- PWR beyond its registers. -/
structure PowerManager where
  /-- What the transition in progress does has been done. -/
  acted : Bool
  /-- `WAKE_STAT` code of the request for Run (R510). -/
  cause : Nat
  /-- The cores, one bit each, and TEL, that ran when Sleep was entered (R508). -/
  cores : Nat
  tel : Bool
  /-- Evaluations in a row that allow a Down, the higher temperature at the last evaluation, and a slip since (R517). -/
  downRuns : Nat
  lastTemp : Int
  slipped : Bool
  /-- Failures of the voltage request in progress (R513, R515). -/
  failures : Nat
  /-- Trim of the always-on oscillator (R521). -/
  aonTrim : Int
  /-- Cause code of the next start (R551). -/
  resetCause : Nat
  /-- A start is due: PWRGD has risen, or a wake has come before PWRGD fell (R509). -/
  startDue : Bool
  deriving DecidableEq, Repr

/-- TB beyond its registers. -/
structure TimeBase where
  /-- Fraction of the count in 2^-16 ns. -/
  frac : Nat
  /-- The alarm has been raised since it was last set. -/
  alarmDone : Bool
  /-- Consecutive PPS edges within 100 ns, and whether edges arrive. -/
  ppsGood : Nat
  ppsPresent : Bool
  /-- Count at the last rise of PPS_OUT. -/
  ppsRise : Option Nat
  deriving DecidableEq, Repr

/-- The state of a test block as last tested (R534): STATUS, applied pattern count and signature. -/
structure BlockResult where
  status : Nat
  patterns : Nat
  signature : Nat
  deriving DecidableEq, Repr

/-- BST beyond its registers. -/
structure SelfTest where
  /-- By block. -/
  blocks : List BlockResult
  /-- The block under on-demand test, with the time base at its start. -/
  testing : Option (Nat × Nat)
  /-- Records RK7 has copied to the BISTREC region, newest first. -/
  copied : List (List Nat)
  /-- Blocks that failed at start-up (R536), and those whose last on-demand test failed (R539). -/
  failedAtStart : List Nat
  failedOnDemand : List Nat
  deriving DecidableEq, Repr

/-- Firmware activation (R446, R555-R557). -/
structure Firmware where
  /-- The start in progress or just made is a trial of the pending slot. -/
  trial : Bool
  /-- Online activation: its target slot, and the cores still to reload, next first. -/
  online : Option Nat
  reload : List Nat
  /-- The target waits for 60 s of heartbeat before it is committed. -/
  commitDue : Option Nat
  /-- Bytes transferred to the inactive slot by Transfer FW so far. -/
  transfer : List Byte
  transferSlot : Option Nat
  deriving DecidableEq, Repr

/-! ## The times the rules measure -/

/-- What a time is measured from (log entry 9).  The times of `Timer.started` run from an event, the others while a condition holds. -/
inductive Timer where
  /-- A message of a session has been sent and resent so often, and waits for its acknowledgement (R255). -/
  | retx (k : Carrier) (seqNo resends : Nat)
  /-- A session is in NEGOTIATE or KEYING; is in FAILED; has no path up (R260). -/
  | handshake (k : Carrier)
  | failed (k : Carrier)
  | pathless (k : Carrier)
  /-- A KQ has been superseded (R254). -/
  | oldKq (k : Carrier)
  /-- TIME was last sent on a path (R265). -/
  | timeSent (x : Carrier)
  /-- A sleep agreement stands (R267). -/
  | sleepPlan
  /-- The peer has acknowledged INB_x = 1 (R258). -/
  | inbAcked (x : Carrier)
  /-- A step has restarted a carrier; the carrier is CONFIRMING; the backoff of a step runs (R264). -/
  | restarted (x : Carrier)
  | confirming (x : Carrier)
  | backoff (x : Carrier)
  /-- A carrier is in SF; is out of frame SYNC (R264, R283). -/
  | inSf (x : Carrier)
  | outOfFrame (x : Carrier)
  /-- ACTIVE holds SF and the other carrier does not; the wait-to-restore time (R278). -/
  | sfAlone
  | waitRestore
  /-- The working carrier is out of frame SYNC and no path of its session is up; ROUTESEL_x was last toggled; a coordinated switch
  settles (R283). -/
  | routeLost
  | toggled
  | settling
  /-- EQZ_x is in an acquisition state, after so many restarts (R165); it fades to a bank (R159). -/
  | acquiring (c : Carrier) (state restarts : Nat)
  | eqzFading (c : Carrier) (target : Nat)
  /-- A wake burst began (R247). -/
  | burst (x : Carrier)
  /-- A module powers up; tunes; an enable is held (R291-R293). -/
  | poweringUp (c : Carrier)
  | tuning (c : Carrier)
  | txHeld (c : Carrier)
  /-- |FO_EST| exceeds 3.0 GHz in LOCKED (R296); the TIA of a polarisation was stepped (R297); the module flags were read (R300). -/
  | foWide (c : Carrier)
  | tiaStepped (c : Carrier) (y : Bool)
  | polled (c : Carrier)
  /-- A running synthesiser is unlocked; it has missed the bound of R303. -/
  | unlocked (n : Fin 3)
  | synLate (n : Fin 3)
  /-- A raw snapshot started (R322). -/
  | snapshot
  /-- Every lane of a client port delivers data; a port's egress state became ERROR, or a run of data blocks began in LOCAL_FAULT
  (R339, R340). -/
  | portReady (c : Carrier) (q : Fin 4)
  | faultHold (c : Carrier) (q : Fin 4)
  /-- A client lane entered its receive state (R347); its last periodic inversion (R351); an eye scan began (R352). -/
  | laneState (n : Fin 16)
  | inverted (n : Fin 16)
  | clientEye (n : Fin 16)
  | hostEye
  /-- The LPDDR5X scrubber last read a line (R422). -/
  | scrubbed
  /-- RK7 started a journal persistence batch (R448); Patina's hourly evaluation (R444); the in-service seconds were updated
  (R449). -/
  | persisted
  | budget
  | inService
  /-- LOS holds while a carrier emits in NORMAL; the carrier was shut down, or last had a periodic pulse; its pulse began (R469). -/
  | losHeld (c : Carrier)
  | alsPeriod (c : Carrier)
  | alsPulse (c : Carrier)
  /-- RK0's heartbeat was last checked; RK0 is stopped; a recovery reset ran it; it has kept its heartbeat since (R473). -/
  | heartbeat
  | rk0Stopped
  | rk0Run
  | rk0Good
  /-- A converter's timer last triggered; its sequence began; its calibration last began (R479, R498). -/
  | hkTimer (n : Fin 2)
  | hkSequence (n : Fin 2)
  | hkCal (n : Fin 2)
  /-- The last step of an AUX channel's grid; its range hold started (R490, R491). -/
  | auxStep (n : Fin 16)
  | auxHold (n : Fin 16)
  /-- The regulator last acknowledged; a request was made, or made again; the regulator was polled (R513, R515). -/
  | avsAcked
  | avsAsked
  | regPolled
  /-- The governor last evaluated (R517); the always-on oscillator was trimmed (R521); PPS_IN last rose (R524). -/
  | governed
  | aonTrimmed
  | ppsEdge
  /-- An online activation was asked for (R557). -/
  | online
  deriving DecidableEq, Repr

/-- Timers that run from an event and not from a condition. -/
def Timer.started : Timer → Bool
  | .timeSent _ | .restarted _ | .toggled | .settling | .burst _ | .tiaStepped _ _ | .polled _ | .synLate _ | .snapshot => true
  | .faultHold _ _ | .laneState _ | .inverted _ | .clientEye _ | .hostEye | .scrubbed | .persisted | .budget | .inService => true
  | .alsPeriod _ | .alsPulse _ | .heartbeat | .rk0Run | .rk0Good => true
  | .hkTimer _ | .hkSequence _ | .hkCal _ | .auxStep _ | .auxHold _ => true
  | .avsAcked | .avsAsked | .regPolled | .governed | .aonTrimmed | .ppsEdge | .online => true
  | _ => false

/-- The state of the device. -/
structure State where
  /-- Register words that differ from their reset value, by BAR0 byte address. -/
  regs : Sparse Word
  /-- Latched _HI halves per origin (R582). -/
  latches : List Latch
  /-- The answer to the last read. -/
  answer : ReadAnswer
  /-- Mailbox Interface Ready: the device is host-ready (R357, R552). -/
  hostReady : Bool
  journal : Journal
  evr : EventRouter
  msix : Msix
  /-- The 64 semaphores of ARM. -/
  semaphores : Vector Semaphore 64
  /-- Consecutive equal CSF pairs seen in ALIGNING (R18). -/
  pairMatches : Nat
  /-- Events of this reference tick not yet added to the counters (R404), by counter event: 256 * core + code for a
  core's own events, 0x1000 + code for the fabric's. -/
  tickEvents : Sparse Nat
  /-- Nanoseconds of the time base (R519). -/
  nowNs : Nat
  /-- Nanoseconds of the Plinth's own elapsed count (R231). -/
  elapsedNs : Nat
  framer : PerCarrier Framer
  fec : PerCarrier FecState
  cpc : PerCarrier ClientPcs
  cipher : PerCarrier CipherState
  /-- HKA and HKB. -/
  hk : Vector Housekeeper 2
  aux : AuxState
  cal : Calibrator
  txDsp : PerCarrier TxDsp
  txLane : Vector TxLane 8
  lineRx : Vector LineRx 8
  carrierRec : PerCarrier CarrierRec
  demapper : PerCarrier Demapper
  dispersion : PerCarrier Dispersion
  equaliser : PerCarrier Equaliser
  /-- CHAN_x.N in force at the laser: the value of the last entry to TUNING (R295). -/
  tunedN : PerCarrier Int
  /-- Data SRAM of the Reckoner cores. -/
  dsram : Vector (Sparse Byte) 8
  optics : PerCarrier Optics
  qlt : Quolet
  plinth : Plinth
  keep : KeepStore
  archive : Archive
  rps : RouteProtect
  tel : Telemetry
  cast : CastState
  /-- Code of the last VDD_CORE request (R310, R512). -/
  vddRequested : Nat
  checkers : Vector LaneChecker 16
  hostLink : HostLink
  mbox : HostMailbox
  memories : Memories
  /-- Instruction SRAM of the Reckoner cores. -/
  isram : Vector (Sparse Byte) 8
  cores : Vector Core 8
  images : Vector CoreImage 8
  /-- Cores whose STEP strobe has been accepted and whose bundle has not been issued yet (R398). -/
  stepsDue : List (Fin 8)
  samples : Vector SampleBuffer 8
  pwrMgr : PowerManager
  timeBase : TimeBase
  selfTest : SelfTest
  firmware : Firmware
  /-- The model's own counter of free values drawn (log entry 2). -/
  freeCount : Nat
  /-- Live writes accepted and not yet in force, at most one for each register. -/
  staged : List LiveWrite
  /-- The times that run, each with the elapsed count at its start (log entry 9). -/
  timers : List (Timer × Nat)
  /-- The commands that wait, first in first out. -/
  pending : List Instr
  deriving DecidableEq, Repr

/-- The same value for both carriers. -/
def both {α : Type} (x : α) : PerCarrier α := ⟨x, x⟩

/-- The state right after reset. -/
def State.reset : State where
  regs := []
  latches := []
  answer := .none
  hostReady := false
  journal := ⟨0, [], [], [], none, [], none, [], 0, false⟩
  evr := ⟨[], [], [], [], 0, []⟩
  msix := ⟨2 ^ 64 - 1, false, 0, []⟩
  semaphores := .replicate 64 ⟨none, []⟩
  pairMatches := 0
  tickEvents := []
  nowNs := 0
  elapsedNs := 0
  framer := both ⟨[], true, none, false, false, 0, 0, none, [], none, 0⟩
  fec := both ⟨[], 0, [], 0, 0, .empty, 20, 0, 0, false, ⟨0, ⟨0, 0⟩, ⟨0, 0⟩⟩⟩
  cpc := both ⟨List.replicate 4 false, List.replicate 4 [], [], []⟩
  cipher := both ⟨.replicate 4 .empty, .replicate 4 .empty, false, false, 0, true, none, false, none, 0⟩
  hk := .replicate 2 ⟨false, false, [], none, 0, 0, none⟩
  aux := ⟨0, 0⟩
  cal := ⟨[], [], none, false⟩
  txDsp := both ⟨[], 0, false, 4, false, 0, false, 0, 0, 0, 0, 0, [], 0, 0⟩
  txLane := .replicate 8 ⟨[], 0, 0x7FFFFFFF, 0, 0, false, [], [], [], [], []⟩
  lineRx := .replicate 8 ⟨List.range 64, [], 0, false, false, none, none, none, [], 0, none, 0, 0, 0, 64, [], [], 0⟩
  carrierRec := both .clear
  demapper := both .clear
  dispersion := both ⟨0, 0, none, false, 0⟩
  equaliser := both ⟨[], [], 0, 0, false, false, false, false, 0, []⟩
  tunedN := both 0
  dsram := .replicate 8 []
  optics := both ⟨true, false, true, false, false, false, 0, 0, true, 0, []⟩
  qlt := {
    sessions := both .down, owner := both none, firstHello := both none, asmPilot := both none, asmInband := both none,
    outInband := both [], outPilot := both [], coded := both [], encoder := both 0, modulate := both none,
    steps := both ⟨0, 0, 0, 0, [], none, false, false, false, false, 0⟩, txStamps := both [], rxStamps := both [], peerRef := both none,
    inbAcked := both false, sleepPlan := none, sleepAsked := none, rekeySeq := both none, wake := both none, wakeHeard := both [],
    pilotRx := both .start,
    answerDue := both false, peerValues := [], strapRole := false,
    wakeDue := none }
  plinth := {
    officers := .replicate 4 none, psk := none, trust := .replicate 4 none, allow := .replicate 8 none,
    codeKey := none, svnMin := [], policy := 0x00000A05, alsCfg := 0x00640503, holdSet := 0, counter := 0, logHead := 0,
    log := [], logSigs := [], measured := .replicate 9 0, calDigest := 0, firmware := 0, fresh := true, lastEpoch := 0,
    keysErased := false, zeroiseLow := false, drawn := 0, request := none, running := none, mbxIn := [], mbxOut := [],
    lastResult := [0, 0], scanHold := false, lastBeat := 0, rk0Seen := false,
    testUntil := 0, faultLatched := false, lasersBarred := false }
  keep := ⟨.replicate 6 (⟨false, 0, []⟩, ⟨false, 0, []⟩), 0, 0, 0, 0, 0, []⟩
  archive := ⟨false, 0, 0, [], [], [], [], [], .replicate 2 ⟨false, [], 0⟩, true, 0, none⟩
  rps := ⟨both [], both [], none, 0, 0, both 0, 0, .a, 0, none, true, false, both false, 0, 0, 0, false⟩
  tel := ⟨.replicate 64 (.clear 0 0 15 true), 0, none, false, both .clear, .replicate 4 none, []⟩
  cast := ⟨[], [], 0, none, [], [], 0, [], none, none, none, 0, []⟩
  vddRequested := 0x1E
  checkers := .replicate 16 ⟨0, 0, [], []⟩
  hostLink := ⟨true, 0, 0, none, false, none⟩
  mbox := ⟨none, ⟨.none, [], []⟩, .replicate 4 [], List.replicate 4 0, 0, false⟩
  memories := ⟨⟨[], [], [], [], 0, 0, none, false⟩, ⟨[], [], [], [], 0, 0, none, false⟩, [], [], [], [], [], none⟩
  isram := .replicate 8 []
  cores := .replicate 8 (.reset 0)
  images := .replicate 8 ⟨0, 0, List.replicate 4 0, none, none⟩
  stepsDue := []
  samples := .replicate 8 ⟨[], 0, [0, 0, 0], 0⟩
  pwrMgr := ⟨false, 0, 0, false, 0, 0, false, 0, 0, 1, true⟩
  timeBase := ⟨0, false, 0, false, none⟩
  selfTest := ⟨List.replicate 58 ⟨0, 0, 0⟩, none, [], [], []⟩
  firmware := ⟨false, none, [], none, [], none⟩
  freeCount := 0
  staged := []
  timers := []
  pending := []

end Sys2Proof.Machine
end

