-- ==== Sys2Proof/Machine/Ops.lean ====
section
/-! DEFINITION. Machine/Ops.lean: the named operations over the register file, the event bits, the error log, the free
values and the configuration journal, which every meaning is written with. -/
namespace Sys2Proof.Machine

open Sys2Proof (Byte Word Carrier PerCarrier Origin Page Instr)

/-- The outcome of a command. -/
abbrev Result := Host.Outcome State Fault Refusal

/-! ## Registers -/

/-- The register word at a BAR0 byte address, as stored. -/
def regRead (s : State) (addr : Nat) : Word := sparseRead resetWord s.regs addr

/-- Store a register word. -/
def regWrite (s : State) (addr : Nat) (w : Word) : State :=
  { s with regs := sparseWrite resetWord s.regs addr w }

/-- The word at byte offset `off` of page `p`, as stored; a page is 4 KiB (R38). -/
def word (s : State) (p : Page) (off : Nat) : Word := regRead s (pageBase p + off % 0x1000)

/-- Store the word at byte offset `off` of page `p`. -/
def setWord (s : State) (p : Page) (off : Nat) (w : Word) : State := regWrite s (pageBase p + off % 0x1000) w

/-- The value of a field. -/
def State.get (s : State) (p : Page) (f : Field) : Nat := extract (word s p f.off) f.lo f.width

/-- Set a field, leaving the word's other bits. -/
def State.set (s : State) (p : Page) (f : Field) (v : Nat) : State :=
  setWord s p f.off (deposit (word s p f.off) f.lo f.width v)

/-- Whether a one-bit field is 1. -/
def State.flag (s : State) (p : Page) (f : Field) : Bool := s.get p f == 1

/-- Set a one-bit field from a truth value. -/
def State.setFlag (s : State) (p : Page) (f : Field) (b : Bool) : State := s.set p f (bit b)

/-- The signed value of a field. -/
def State.getInt (s : State) (p : Page) (f : Field) : Int := toSigned f.width (s.get p f)

/-- Set a field from an integer, in two's complement. -/
def State.setInt (s : State) (p : Page) (f : Field) (i : Int) : State := s.set p f (ofSigned f.width i)

/-- Add to a counter that saturates at all ones. -/
def State.addSat (s : State) (p : Page) (f : Field) (n : Nat) : State :=
  s.set p f (min (s.get p f + n) (2 ^ f.width - 1))

/-- Count one in a counter that saturates at all ones. -/
def State.bump (s : State) (p : Page) (f : Field) : State := s.addSat p f 1

/-- Add to a counter that wraps. -/
def State.addWrap (s : State) (p : Page) (f : Field) (n : Nat) : State := s.set p f (s.get p f + n)

/-- The value a _LO and a _HI field hold together. -/
def State.pair (s : State) (p : Page) (lo hi : Field) : Nat := s.get p lo + s.get p hi * 2 ^ lo.width

/-- Set a _LO and a _HI field together. -/
def State.setPair (s : State) (p : Page) (lo hi : Field) (v : Nat) : State :=
  (s.set p lo v).set p hi (v / 2 ^ lo.width)

/-- Add to a counter held in a _LO and a _HI field; it saturates at all ones. -/
def State.addPair (s : State) (p : Page) (lo hi : Field) (n : Nat) : State :=
  s.setPair p lo hi (min (s.pair p lo hi + n) (2 ^ (lo.width + hi.width) - 1))

/-- Set several fields of a page to zero. -/
def State.clearAll (s : State) (p : Page) (fs : List Field) : State := fs.foldl (fun s f => s.set p f 0) s

/-- Set every instance of a field of a register array to zero. -/
def State.clearArray (s : State) (p : Page) (f : Field) : State :=
  (List.range f.count).foldl (fun s i => s.set p (f.at i) 0) s

/-! ## Live writes that wait (R44, R53, R55, R58) -/

/-- The live fields of the register at a BAR0 address that wait for the page's boundary, as last accepted. -/
def stagedWord (s : State) (addr : Nat) : Option Word := (s.staged.find? fun x => x.addr == addr).map (·.value)

/-- What waits for a register is dropped. -/
def unstage (addr : Nat) (s : State) : State := { s with staged := s.staged.filter fun x => x.addr != addr }

/-- Live fields accepted for a register wait; of several writes only the last is kept (R53). -/
def stage (addr : Nat) (w : Word) (s : State) : State :=
  { s with staged := (s.staged.filter fun x => x.addr != addr) ++ [⟨addr, w⟩] }

/-! ## Run state (R40, R41) -/

/-- `RUNSTAT.STATE`. -/
inductive RunState where
  | stopped | starting | running | stopping
  deriving DecidableEq, Repr

/-- Code of a run state (R40). -/
def RunState.code : RunState → Nat
  | .stopped => 0
  | .starting => 1
  | .running => 2
  | .stopping => 3

/-- The run state of a page. -/
def State.run (s : State) (p : Page) : RunState :=
  match s.get p HDR.RUNSTAT.STATE with
  | 0 => .stopped
  | 1 => .starting
  | 2 => .running
  | _ => .stopping

/-- Set the run state of a page. -/
def State.setRun (s : State) (p : Page) (r : RunState) : State := s.set p HDR.RUNSTAT.STATE r.code

/-- Whether a page is running. -/
def State.running (s : State) (p : Page) : Bool := s.run p == .running

/-- Whether a page is stopped. -/
def State.stopped (s : State) (p : Page) : Bool := s.run p == .stopped

/-! ## Per-carrier structures -/

/-- Change the framer of a carrier. -/
def State.setFramer (s : State) (c : Carrier) (x : Framer) : State := { s with framer := s.framer.set c x }

/-- Change the FEC state of a carrier. -/
def State.setFec (s : State) (c : Carrier) (x : FecState) : State := { s with fec := s.fec.set c x }

/-- Change the client PCS of a carrier. -/
def State.setCpc (s : State) (c : Carrier) (x : ClientPcs) : State := { s with cpc := s.cpc.set c x }

/-- Change the cipher of a carrier. -/
def State.setCipher (s : State) (c : Carrier) (x : CipherState) : State := { s with cipher := s.cipher.set c x }

/-! ## Free values -/

/-- The next free value, below `bound`; log entry 2. -/
def State.free (s : State) (bound : Nat) : Nat := Config.freeValue s.freeCount % bound

/-- Count a free value as drawn. -/
def State.drawn (s : State) : State := { s with freeCount := s.freeCount + 1 }

/-! ## Tally events (R404, R405) -/

/-- Count `n` events of a key in the current reference tick. -/
def countKey (s : State) (key n : Nat) : State :=
  { s with tickEvents := sparseWrite (fun _ => 0) s.tickEvents key (sparseRead (fun _ => 0) s.tickEvents key + n) }

/-- Count fabric events of an event code. -/
def State.countFabric (s : State) (code n : Nat) : State := countKey s (0x1000 + code) n

/-- Count a core's own events of an event code. -/
def State.countCore (s : State) (core : Fin 8) (code n : Nat) : State := countKey s (256 * core.val + code) n

/-! ## Events (R68-R73) -/

/-- Every page. -/
def allPages : List Page := (List.range 0x100).filterMap pageOfNumber

/-- `EVT_PEND` (R68). -/
def State.pend (s : State) (p : Page) : Nat := s.get p HDR.EVT_RAW.EVT &&& s.get p HDR.EVT_EN.EN

/-- Event source number (R69). -/
def sourceOf (p : Page) (b : Nat) : Nat := 16 * eventSlot p + b

/-- The set and clear messages the page sends for the bits of `EVT_PEND` that changed (R70). -/
def pendMessages (p : Page) (before after : Nat) : List (Nat × Bool) :=
  (List.range 16).filterMap fun b =>
    if testBit after b && !testBit before b then some (sourceOf p b, true)
    else if testBit before b && !testBit after b then some (sourceOf p b, false)
    else none

/-- Send the messages of a change of page `p` from `s` to `t`. -/
def sendMessages (p : Page) (s t : State) : State :=
  { t with evr := { t.evr with messages := t.evr.messages ++ pendMessages p (s.pend p) (t.pend p) } }

/-- Set `EVT_RAW`, with the messages that follow. -/
def State.setRaw (s : State) (p : Page) (raw : Nat) : State := sendMessages p s (s.set p HDR.EVT_RAW.EVT raw)

/-- Raise event bit `b` of page `p` (R68). -/
def State.raise (s : State) (p : Page) (b : Nat) : State := s.setRaw p (setBit (s.get p HDR.EVT_RAW.EVT) b)

/-- Raise an event when a condition holds. -/
def State.raiseIf (s : State) (c : Bool) (p : Page) (b : Nat) : State := if c then s.raise p b else s

/-- Record a fault of a page (R42, R40): COUNT saturates, CODE and DETAIL take the last, FAULT is set. -/
def State.errlog (s : State) (p : Page) (code detail : Nat) : State :=
  ((((s.bump p HDR.ERRLOG.COUNT).set p HDR.ERRLOG.CODE code).set p HDR.ERRLOG.DETAIL detail).set p HDR.RUNSTAT.FAULT 1)

/-! ## Cast triggers (R320) -/

/-- The condition of trigger source `b` occurs; it triggers while its bit in TRIG_EN is 1. -/
def noteTrigger (s : State) (b : Nat) : State :=
  if testBit (s.get .cast CAST.CTL.TRIG_EN) b then
    { s with cast := { s.cast with arrived := s.cast.arrived ++ [(b, s.nowNs)] } }
  else s

/-! ## Power states (R503) -/

/-- `PWR.STAT.STATE` codes (R503). -/
def pwrRun : Nat := 0
def pwrIdle : Nat := 1
def pwrSleep : Nat := 2
def pwrDeep : Nat := 3
def pwrOff : Nat := 4

/-- The power state of the device. -/
def State.power (s : State) : Nat := s.get .pwr PWR.STAT.STATE

/-! ## Times (log entry 9) -/

/-- Nanoseconds of a microsecond, a millisecond and a second. -/
def usNs : Nat := 1000
def msNs : Nat := 1000000
def secNs : Nat := 1000000000

/-- Division that rounds up. -/
def ceilDiv (a b : Nat) : Nat := (a + b - 1) / b

/-- The elapsed count at which a timer started; none while it does not run. -/
def timerStart (s : State) (t : Timer) : Option Nat := (s.timers.find? fun e => e.1 == t).map (·.2)

/-- A timer starts, or starts again. -/
def startTimer (t : Timer) (s : State) : State :=
  { s with timers := (s.timers.filter fun e => e.1 != t) ++ [(t, s.elapsedNs)] }

/-- A timer stops. -/
def stopTimer (t : Timer) (s : State) : State := { s with timers := s.timers.filter fun e => e.1 != t }

/-- A timer has run for `ns`.  Below Idle the elapsed count comes only with the exit (R508), and a row speaks for its time. -/
def passed (s : State) (t : Timer) (ns : Nat) : Bool :=
  ns == 0 || decide (pwrIdle < s.power) || match timerStart s t with
    | some n => decide (n + ns ≤ s.elapsedNs)
    | none => false

/-- At least `ns` lie between a timer's start and now; so too when it never started. -/
def spaced (s : State) (t : Timer) (ns : Nat) : Bool :=
  decide (pwrIdle < s.power) || match timerStart s t with
  | some n => decide (n + ns ≤ s.elapsedNs)
  | none => true

/-- A repeated time has run since it last ran out, or since the elapsed count began. -/
def due (s : State) (t : Timer) (ns : Nat) : Bool :=
  decide (pwrIdle < s.power) || decide ((timerStart s t).getD 0 + ns ≤ s.elapsedNs)

/-! ## The initialised map of LPDDR5X (R420) -/

/-- A granule of 1 MiB has been written. -/
def granuleSet (s : State) (g : Nat) : Bool := sparseRead (fun _ => false) s.memories.granules g

/-- Set the bit of the granule that holds byte `a`. -/
def markGranule (s : State) (a : Nat) : State :=
  let g := a / 2 ^ 20
  if granuleSet s g then s
  else
    { s with memories := { s.memories with granules := sparseWrite (fun _ => false) s.memories.granules g true } }.addSat
      .lpm LPM.INIT_GRAN.COUNT 1

/-! ## The configuration journal (R59-R66) -/

/-- Refusal reasons of R50. -/
inductive Reason where
  | none | notOwner | plinthOnly | readOnly | stopOnly | bist | modeConflict | outOfRange | accessSize | stopPrecond
  | transition | reservedOffset | journalFull
  deriving DecidableEq, Repr

/-- Code of a refusal reason (R50). -/
def Reason.code : Reason → Nat
  | .none => 0x0 | .notOwner => 0x1 | .plinthOnly => 0x2 | .readOnly => 0x3 | .stopOnly => 0x4 | .bist => 0x5
  | .modeConflict => 0x6 | .outOfRange => 0x7 | .accessSize => 0x8 | .stopPrecond => 0x9 | .transition => 0xA
  | .reservedOffset => 0xB | .journalFull => 0xC

/-- Entry kinds of R59. -/
inductive EntryKind where
  | accepted | refused | marker | readDenied
  deriving DecidableEq, Repr

/-- Code of an entry kind (R59). -/
def EntryKind.code : EntryKind → Nat
  | .accepted => 0 | .refused => 1 | .marker => 2 | .readDenied => 3

/-- Marker types of R60. -/
inductive Marker where
  | boot | reset | gap | sign | tbSet
  deriving DecidableEq, Repr

/-- Code of a marker type (R60). -/
def Marker.code : Marker → Nat
  | .boot => 1 | .reset => 2 | .gap => 3 | .sign => 4 | .tbSet => 5

/-- Size of the on-die buffer and of its reserve (R63, R65), and of the ring (R63). -/
def journalBuffer : Nat := 8192
def journalReserve : Nat := 64
def journalRing : Nat := 4194304

/-- The INFO word of an entry (R59). -/
def entryInfo (s : State) (origin : Nat) (kind : EntryKind) (reason : Nat) : Word :=
  BitVec.ofNat 32 (origin + kind.code * 0x10 + reason * 0x40 + s.get .tb TB.STAT.TB_VALID * 0x400
    + s.get .tb TB.STAT.TB_EXTRAPOLATED * 0x800)

/-- SEQ_NO of the next entry (R67). -/
def State.nextSeq (s : State) : Nat := s.pair .cj CJ.NEXT_LO.SEQ_NO CJ.NEXT_HI.SEQ_NO

/-- The 32 bytes of an entry (R59). -/
def entryBytes (timeNs seqNo addr : Nat) (old new info link : Word) : List Byte :=
  leBytes 8 timeNs ++ leBytes 5 seqNo ++ leBytes 3 (addr / 4) ++ leBytes 4 old.toNat ++ leBytes 4 new.toNat
    ++ leBytes 4 info.toNat ++ leBytes 4 link.toNat

/-- The newest head is to be signed (R62): at once, or after the signature being made. -/
def requestSignature (s : State) (seqNo timeNs : Nat) : State :=
  let request := (s.journal.head, seqNo, timeNs)
  match s.journal.signing with
  | some _ => { s with journal := { s.journal with signDue := s.journal.signDue ++ [request] } }
  | none => { s with journal := { s.journal with signing := some request } }

/-- Whether only the reserve of R65 is free. -/
def onlyReserve (s : State) : Bool := decide (journalBuffer - journalReserve ≤ s.journal.buffer.length)

/-- The on-die buffer takes `n` more writes without going into its reserve (R65). -/
def journalTakes (s : State) (n : Nat) : Bool := decide (s.journal.buffer.length + n ≤ journalBuffer - journalReserve)

/-- R67: OLDEST names the first entry the ring keeps. -/
def noteOldest (kept : List JournalEntry) (s : State) : State :=
  match kept with
  | [] => s
  | e :: _ => s.setPair .cj CJ.OLDEST_LO.SEQ_NO CJ.OLDEST_HI.SEQ_NO e.seqNo

/-- Move the oldest `n` entries of the on-die buffer to the ring, overwriting the oldest ring entries if need be; answers
the new state and the number of unpersisted entries lost (R63, R64). -/
def spillEntries (s : State) (n : Nat) : State × Nat :=
  let ring := s.journal.ring ++ s.journal.buffer.take n
  let overlay := ring.take (ring.length - journalRing)
  let lost := (overlay.filter fun e =>
    match s.journal.persisted with
    | none => true
    | some k => decide (k < e.seqNo)).length
  let kept := ring.drop (ring.length - journalRing)
  let s := (s.journal.buffer.take n).foldl (fun s e => markGranule s (32 * (e.seqNo % journalRing))) s
  let s := { s with journal := { s.journal with ring := kept, buffer := s.journal.buffer.drop n } }
  let s := s.set .cj CJ.FILL.COUNT s.journal.buffer.length
  (noteOldest kept s, lost)

/-- Put one entry into the buffer, advance the chain head, and start the signature of R62 at a multiple of 65,536. -/
def enterEntry (s : State) (addr : Nat) (old new info : Word) : State :=
  let seqNo := s.nextSeq
  let link := BitVec.ofNat 32 s.journal.head.toNat
  let bytes := entryBytes s.nowNs seqNo addr old new info link
  let head := Config.shake256 256 (leBytes 32 s.journal.head.toNat ++ bytes)
  let e : JournalEntry := ⟨s.nowNs, seqNo, addr, old, new, info, link, head⟩
  let s := { s with journal := { s.journal with head := head, buffer := s.journal.buffer ++ [e] } }
  let s := s.setPair .cj CJ.NEXT_LO.SEQ_NO CJ.NEXT_HI.SEQ_NO (seqNo + 1)
  let s := s.set .cj CJ.FILL.COUNT s.journal.buffer.length
  let s := if seqNo % 65536 = 0 then requestSignature s seqNo s.nowNs else s
  if onlyReserve s && !s.journal.inReserve then
    { s with journal := { s.journal with inReserve := true } }.raise .cj CJ.EVT.RESERVE
  else s

/-- Spill `n` entries to the ring; unpersisted entries the ring overwrites are counted, with a GAP marker and LOSS
(R63, R64). -/
def spillJournal (s : State) (n : Nat) : State :=
  let x := spillEntries s n
  if x.2 = 0 then x.1
  else
    let s := x.1.addSat .cj CJ.LOSS.ENTRIES x.2
    (enterEntry s 0 (BitVec.ofNat 32 x.2) 0 (entryInfo s 0 .marker Marker.gap.code)).raise .cj CJ.EVT.LOSS

/-- Append one entry; a full buffer spills first (R63). -/
def appendEntry (s : State) (addr : Nat) (old new info : Word) : State :=
  let s := if journalBuffer ≤ s.journal.buffer.length then spillJournal s (journalBuffer / 2) else s
  enterEntry s addr old new info

/-- Append a marker (R60). -/
def appendMarker (s : State) (m : Marker) (old new : Nat) : State :=
  appendEntry s 0 (BitVec.ofNat 32 old) (BitVec.ofNat 32 new) (entryInfo s 0 .marker m.code)

/-- Journal an accepted write (R59). -/
def journalAccepted (s : State) (o : Origin) (addr : Nat) (old new : Word) : State :=
  appendEntry s addr old new (entryInfo s o.code .accepted 0)

/-- Journal a refused write (R51, R59). -/
def journalRefused (s : State) (o : Origin) (addr : Nat) (old new : Word) (r : Reason) : State :=
  appendEntry s addr old new (entryInfo s o.code .refused r.code)

/-- Count a refusal with JOURNAL_FULL (R65). -/
def countUnlogged (s : State) : State :=
  { s with journal := { s.journal with unlogged := s.journal.unlogged + 1 } }.bump .cj CJ.LOSS.UNLOGGED

/-- A register write by the device's own sequencers with origin 0x0 (R45, R297): it is stored, counted in SEQ and
journalled like any accepted write; one that changes nothing is neither (R54), and while only the journal's reserve is
free it is refused and counted (R65). -/
def hardwareWrite (s : State) (p : Page) (off : Nat) (w : Word) : State :=
  let old := word s p off
  if old = w then s
  else if onlyReserve s then countUnlogged s
  else
    let s := (unstage (pageBase p + off) (setWord s p off w)).addWrap p HDR.SEQ.COUNT 1
    journalAccepted s .hardware (pageBase p + off) old w

/-- A strobe written by the device's own sequencers with origin 0x0: journalled with the strobe bit shown, not stored. -/
def hardwareStrobe (s : State) (p : Page) (f : Field) : State :=
  if onlyReserve s then countUnlogged s
  else
    let old := word s p f.off
    journalAccepted (s.addWrap p HDR.SEQ.COUNT 1) .hardware (pageBase p + f.off) old (deposit old f.lo f.width 1)

/-! ## The security log (R466) -/

/-- Record kinds that R466 names. -/
inductive SecKind where
  | capsule | zeroise | tamper | alarm | alarmAction | laserHold | rk0Recovery | handshakeFailure | blanking | routed | firmware
  deriving DecidableEq, Repr

/-- The model's number of a record kind. -/
def SecKind.code : SecKind → Nat
  | .capsule => 0 | .zeroise => 1 | .tamper => 2 | .alarm => 3 | .alarmAction => 4 | .laserHold => 5 | .rk0Recovery => 6
  | .handshakeFailure => 7 | .blanking => 8 | .routed => 9 | .firmware => 10

/-- Bytes 0-31 of a record (R466). -/
def secBytes (r : SecRecord) : List Byte :=
  leBytes 8 r.timeNs ++ leBytes 8 r.seqNo ++ leBytes 2 (Config.recordType r.kind) ++ leBytes 1 r.carrier
    ++ leBytes 1 r.flags ++ leBytes 12 r.detail

/-- Write a record to the security log; every 4,096 records the head is signed (R466).  After a lockstep failure no Plinth
firmware runs that could write one (R474). -/
def secLog (s : State) (kind : SecKind) (carrier detail : Nat) : State :=
  if s.flag .pln PLN.STAT.LOCKSTEP_FAIL then s else
  let seqNo := s.pair .pln PLN.SECLOG_LO.SEQ PLN.SECLOG_HI.SEQ
  let r : SecRecord := ⟨s.nowNs, seqNo, kind.code, carrier, 0, detail, s.plinth.logHead⟩
  let head := Config.shake256 256 (leBytes 32 s.plinth.logHead.toNat ++ secBytes r)
  let sigs := if (seqNo + 1) % 4096 = 0 then (seqNo, Config.sign (leBytes 32 head.toNat)) :: s.plinth.logSigs
    else s.plinth.logSigs
  let s := { s with plinth := { s.plinth with log := r :: s.plinth.log, logHead := head, logSigs := sigs } }
  s.setPair .pln PLN.SECLOG_LO.SEQ PLN.SECLOG_HI.SEQ (seqNo + 1)

/-! ## Power management (R503, R505, R517) -/

/-- An entry to a state of at least code `low` has been consented to and has not ended: its pages start no work that would
make them refuse it (R505). -/
def State.entering (s : State) (low : Nat) : Bool :=
  s.flag .pwr PWR.STAT.TRANS && decide (s.power < s.get .pwr PWR.STAT.TARGET) && decide (low ≤ s.get .pwr PWR.STAT.TARGET)

/-- Change PWR's state. -/
def State.setPwr (s : State) (x : PowerManager) : State := { s with pwrMgr := x }

/-- A slip for the governor (R517). -/
def State.noteSlip (s : State) : State := s.setPwr { s.pwrMgr with slipped := true }

/-! ## Memories -/

/-- Read `n` bytes of a byte memory whose unlisted bytes read 0. -/
def readBytes (m : Sparse Byte) (a : Nat) : Nat → List Byte
  | 0 => []
  | n + 1 => sparseRead (fun _ => 0) m a :: readBytes m (a + 1) n

/-- Write bytes to a byte memory whose unlisted bytes read 0. -/
def writeBytes (m : Sparse Byte) (a : Nat) : List Byte → Sparse Byte
  | [] => m
  | b :: bs => writeBytes (sparseWrite (fun _ => 0) m a b) (a + 1) bs

end Sys2Proof.Machine
end

