-- ==== Sys2Proof/Machine/KeepStore.lean ====
section
/-! DEFINITION. Machine/KeepStore.lean: the MRAM keep store (R448-R452, R583) and what the other chapters ask of the
Archive (R436, R437, R439, R445). -/
namespace Sys2Proof.Machine

open Sys2Proof (Byte Word)

/-! ## Two-slot areas (R449-R451) -/

/-- Areas in the order of R455. -/
def areaBoot : Nat := 0
def areaJournal : Nat := 1
def areaCast : Nat := 2
def areaBist : Nat := 3
def areaRemap : Nat := 4
def areaCal : Nat := 5

/-- The two slots of an area. -/
def keepArea (s : State) (a : Nat) : KeepSlot × KeepSlot := s.keep.areas.getD a (⟨false, 0, []⟩, ⟨false, 0, []⟩)

/-- Slot 1 holds the newest valid record of an area. -/
def newestIsOne (x : KeepSlot × KeepSlot) : Bool := x.2.valid && (!x.1.valid || decide (x.1.seq < x.2.seq))

/-- The newest valid slot of an area. -/
def keepNewest (s : State) (a : Nat) : Option KeepSlot :=
  let x := keepArea s a
  if newestIsOne x then some x.2 else if x.1.valid then some x.1 else none

/-- Show an area in VALID and NEWEST (R455). -/
def keepShow (a : Nat) (s : State) : State :=
  let x := keepArea s a
  let clear (v i : Nat) := clearBit v i
  let v := clear (clear (s.get .mrm MRM.VALID.SLOTS) (2 * a)) (2 * a + 1)
  let s := s.set .mrm MRM.VALID.SLOTS (v + bit x.1.valid * 2 ^ (2 * a) + bit x.2.valid * 2 ^ (2 * a + 1))
  s.set .mrm MRM.NEWEST.SLOT (clear (s.get .mrm MRM.NEWEST.SLOT) a + bit (newestIsOne x) * 2 ^ a)

/-- Commit an area (R450): the slot without the newest valid record takes the payload with SEQ one above it. -/
def keepCommit (a : Nat) (payload : List Nat) (s : State) : State :=
  let x := keepArea s a
  let seq := match keepNewest s a with
    | some k => k.seq + 1
    | none => 1
  let k : KeepSlot := ⟨true, seq, payload⟩
  let y := if x.1.valid && !newestIsOne x then (x.1, k) else (k, x.2)
  let s := { s with keep := { s.keep with areas := s.keep.areas.setIfInBounds a y } }
  keepShow a (s.bump .mrm MRM.COMMITS.COUNT)

/-! ## The wear table (R452) -/

/-- A word of the wear table: erase count, region, factory bad, grown bad, retired, and the CRC-8 over them. -/
def wearWord (erases region : Nat) (factory grown retired : Bool) : Nat :=
  let v := min erases 0xFFFFFFFF + region * 2 ^ 32 + bit factory * 2 ^ 40 + bit grown * 2 ^ 41 + bit retired * 2 ^ 42
  v + crcBits 8 0x07 0 0 (msbBits 56 v) * 2 ^ 56

/-- The wear-table word of a block. -/
def wearOf (s : State) (b : Nat) : Nat := sparseRead (fun _ => 0) s.keep.wear b

/-- Write a wear-table word. -/
def putWear (s : State) (b w : Nat) : State :=
  { s with keep := { s.keep with wear := sparseWrite (fun _ => 0) s.keep.wear b w } }

/-- Fields of a wear-table word. -/
def wearErases (w : Nat) : Nat := w % 2 ^ 32
def wearRegion (w : Nat) : Nat := w / 2 ^ 32 % 256
def wearFactory (w : Nat) : Bool := testBit w 40
def wearGrown (w : Nat) : Bool := testBit w 41
def wearRetired (w : Nat) : Bool := testBit w 42
def wearBad (w : Nat) : Bool := wearFactory w || wearGrown w || wearRetired w

/-! ## What the Archive answers its writers -/

/-- `ARC.STAT.MEDIA` codes (R436). -/
def mediaAbsent : Nat := 0
def mediaUnformatted : Nat := 1
def mediaReady : Nat := 2
def mediaDegraded : Nat := 3

/-- The media holds the layout of R437. -/
def mediaFormatted (s : State) : Bool := decide (mediaReady ≤ s.get .arc ARC.STAT.MEDIA)

/-- RK7 runs, and with it Patina (R445). -/
def patinaRuns (s : State) : Bool := s.running (.rk 7)

/-- The Archive takes writes (R439, R445). -/
def archiveTakes (s : State) : Bool :=
  mediaFormatted s && patinaRuns s && !s.flag .arc ARC.STAT.READ_ONLY && !s.flag .arc ARC.STAT.FORMATTING

/-- A write is refused: an empty spare pool counts it in WR_FAIL (R439). -/
def archiveRefuse (s : State) : State :=
  if s.flag .arc ARC.STAT.READ_ONLY then s.bump .arc ARC.WR_FAIL.COUNT else s

end Sys2Proof.Machine
end

