-- ==== Sys2Proof/Machine/Calibration.lean ====
section
/-! DEFINITION. Machine/Calibration.lean: the calibration manager of chapter 21: items and tolerances (R496), the
repeat-agreement rule (R497) and the calibration set (R499, R500).  Measured values are integers in thousandths of the
unit in which R496 or R134 states the item's tolerance. -/
namespace Sys2Proof.Machine

open Sys2Proof (Byte Word Carrier Page)

/-- Units of an item (R496). -/
def calUnits (item : Nat) : Nat :=
  if 1 ≤ item ∧ item ≤ 5 then 8
  else if item = 6 ∨ item = 7 then 3
  else if item = 8 ∨ item = 9 then 2
  else if item = 0xA then 16
  else if item = 0xB then 1
  else 0

/-- An item and unit of R496. -/
def calKnown (item unit : Nat) : Bool := decide (unit < calUnits item)

/-- Sub-items of an item (R496). -/
def calSubs (item : Nat) : Nat :=
  if 1 ≤ item ∧ item ≤ 3 then 65
  else if item = 4 then 64
  else if item = 5 then 3
  else if item = 0xA then 63
  else 1

/-- Whether two measurements of an item agree within its tolerance (R134, R496).  Loop gain is relative, the VCO band
must be the same; the AFE sub-items are termination (mΩ), PGA step gains and CTLE (mdB). -/
def calAgree (item sub : Nat) (m1 m2 : Int) : Bool :=
  let d := (m1 - m2).natAbs
  match item with
  | 1 => d ≤ 125
  | 2 => d ≤ 100
  | 3 => d ≤ 100
  | 4 => d ≤ 50
  | 5 => if sub = 0 then d ≤ 2000 else if sub = 1 then d ≤ 100 else d ≤ 500
  | 6 => d = 0
  | 7 => 20 * d ≤ m1.natAbs
  | 8 => d ≤ 1000
  | 9 => d ≤ 10
  | 0xA => d ≤ 250
  | _ => d ≤ 500

/-- The trim step of an item in thousandths of a unit, as a fraction (R134; the others are the device's own). -/
def calStep (item : Nat) : Nat × Nat :=
  match item with
  | 1 => (125, 4)
  | 2 => (20, 1)
  | 3 => (10, 1)
  | 6 => (1, 1)
  | k => (Config.trimStep k + 1, 1)

/-- Round a quotient to the nearest whole number, ties toward zero. -/
def roundTiesToZero (n : Int) (d : Nat) : Int :=
  let q : Int := ((2 * n.natAbs + d - 1) / (2 * d) : Nat)
  if n < 0 then -q else q

/-- The trim code the mean of two measurements sets (R497). -/
def calMean (item : Nat) (m1 m2 : Int) : Int :=
  let st := calStep item
  roundTiesToZero ((m1 + m2) * st.2) (2 * st.1)

/-- Key of a trim and of a record. -/
def trimKey (item unit sub : Nat) : Nat := item * 2 ^ 24 + unit * 2 ^ 16 + sub
def countKeyOf (item unit : Nat) : Nat := item * 256 + unit

/-- The trim code in force. -/
def trim (s : State) (item unit sub : Nat) : Int := sparseRead (fun _ => 0) s.cal.trims (trimKey item unit sub)

/-- Set a trim code. -/
def setTrim (s : State) (item unit sub : Nat) (v : Int) : State :=
  { s with cal := { s.cal with trims := sparseWrite (fun _ => 0) s.cal.trims (trimKey item unit sub) v } }

/-- No record. -/
def noCount : CalCount := ⟨0, 0, 0⟩

/-- The record of an item and unit. -/
def calCount (s : State) (item unit : Nat) : CalCount :=
  sparseRead (fun _ => noCount) s.cal.counts (countKeyOf item unit)

/-- Replace the record of an item and unit. -/
def setCalCount (s : State) (item unit : Nat) (x : CalCount) : State :=
  { s with cal := { s.cal with counts := sparseWrite (fun _ => noCount) s.cal.counts (countKeyOf item unit) x } }

/-- Largest value of the 32-bit counters of R502. -/
def calSat (n : Nat) : Nat := min n 0xFFFFFFFF

/-- An item is measured twice (R497): the trim is set and counted, or kept, with the rejection counted and raised. -/
def calMeasure (item unit sub : Nat) (m1 m2 : Int) (s : State) : State :=
  let x := calCount s item unit
  if calAgree item sub m1 m2 then
    let s := setTrim s item unit sub (calMean item m1 m2)
    setCalCount s item unit { x with accepted := calSat (x.accepted + 1), at_ := s.nowNs }
  else
    let s := setCalCount s item unit { x with rejected := calSat (x.rejected + 1) }
    (s.set .cal CAL.STAT.LAST_REJ item).raise .cal CAL.EVT.CAL_REJECT

/-- The pairs of measurements of the sub-items of one unit, in order. -/
def calMeasureAll (item unit : Nat) (ms : List (Int × Int)) (s : State) : State :=
  (List.range ms.length).foldl (fun s i =>
    let m := ms.getD i (0, 0)
    calMeasure item unit i m.1 m.2 s) s

/-- A commit becomes due (R499): it is taken at once unless the last one began less than 10 s ago. -/
def calTooSoon (s : State) : Bool :=
  match s.cal.committedAt with
  | none => false
  | some t => decide (s.elapsedNs < t + 10000000000)

/-- A commit falls due of itself (R499): a deferred one, one STORE_PERIOD minutes after the last, or the first after a start. -/
def calStoreDue (s : State) : Bool :=
  s.cal.due || match s.cal.committedAt with
    | none => true
    | some t => decide (t + s.get .cal CAL.CTL.STORE_PERIOD * 60 * secNs ≤ s.elapsedNs)

/-- The calibration set a commit records (R499). -/
def calSnapshot (s : State) : CalSet :=
  ⟨s.nowNs, s.get (.hk 0) HK.TEMP.TEMP, s.get (.hk 1) HK.TEMP.TEMP, s.cal.counts, s.cal.trims⟩

/-- A summary entry of a set (R499). -/
def calSummaryBytes (e : Nat × CalCount) : List Byte :=
  [BitVec.ofNat 8 (e.1 / 256), BitVec.ofNat 8 e.1] ++ leBytes 2 0 ++ leBytes 4 e.2.accepted ++ leBytes 4 e.2.rejected
    ++ leBytes 4 0 ++ leBytes 8 e.2.at_

/-- A trim entry of a set (R499). -/
def calTrimBytes (e : Nat × Int) : List Byte :=
  [BitVec.ofNat 8 (e.1 / 2 ^ 24), BitVec.ofNat 8 (e.1 / 2 ^ 16)] ++ leBytes 2 e.1 ++ leBytes 4 (ofSigned 32 e.2)

/-- The payload of a calibration set (R499). -/
def calSetBytes (x : CalSet) : List Byte :=
  leBytes 8 x.timeNs ++ leBytes 2 x.tempA ++ leBytes 2 x.tempB ++ leBytes 4 x.counts.length
    ++ leBytes 4 x.trims.length ++ leBytes 12 0 ++ x.counts.flatMap calSummaryBytes ++ x.trims.flatMap calTrimBytes

/-- Apply a calibration set (R500). -/
def calApply (x : CalSet) (s : State) : State :=
  { s with cal := { s.cal with trims := x.trims, counts := x.counts } }.set .cal CAL.STAT.LOADED 1

/-- Writes CAL refuses with OUT_OF_RANGE (R501). -/
def calWriteBad (off : Nat) (new : Word) : Bool :=
  if off = CAL.CTL.STORE_PERIOD.off then
    extract new 24 8 == 0 || extract new 16 8 == 0 || extract new 8 8 == 0
  else if off = CAL.SEL.ITEM.off then !calKnown (extract new 8 8) (extract new 0 8)
  else false

end Sys2Proof.Machine
end

