-- ==== Sys2Proof/Machine/FixedPoint.lean ====
section
/-! DEFINITION. Machine/FixedPoint.lean: the powers of ten and the circular functions that the signal rules of chapters 04 to
07 use, in whole units of 2^-40.  The spec gives the functions and no precision: that of the model is log entry 80. -/
namespace Sys2Proof.Machine

/-- One, in units of 2^-40. -/
def fixOne : Int := 2 ^ 40

/-- Product of two fixed-point numbers, rounded down. -/
def fixMul (a b : Int) : Int := a * b / fixOne

/-- The natural logarithm of 10, pi and the square root of 5, rounded to the nearest unit. -/
def fixLnTen : Int := 2531719083691
def fixPi : Int := 3454217652358
def fixRootFive : Int := 2458582741759

/-- The exponential series: 1 + x/1 (1 + x/2 (1 + ...)), 24 terms. -/
def fixExp (x : Int) : Int :=
  (List.range 24).foldr (fun (k : Nat) a => fixOne + fixMul x a / ((k + 1 : Nat) : Int)) fixOne

/-- 1 - x^2/(a (a+1)) (1 - ...): the common part of the sine series (first divisor 2 * 3) and of the cosine series (1 * 2). -/
def fixAlternating (x : Int) (first : Nat) : Int :=
  let q := fixMul x x
  (List.range 12).foldr (fun (k : Nat) a =>
    let d : Int := ((first + 2 * k) * (first + 2 * k + 1) : Nat)
    fixOne - fixMul q a / d) fixOne

/-- Sine and cosine of an angle in radians. -/
def fixSin (x : Int) : Int := fixMul x (fixAlternating x 2)
def fixCos (x : Int) : Int := fixAlternating x 1

/-- The amplitude ratio of a level in 0.01 dB: 10 to the power of h/2000. -/
def fixDecibel (h : Int) : Int := fixExp (h * fixLnTen / 2000)

/-- Nearest whole number of a quotient, ties toward plus infinity. -/
def roundUp (n : Int) (d : Nat) : Int := (2 * n + d) / (2 * d)

/-- Nearest whole number of a quotient, ties away from zero. -/
def roundAway (n : Int) (d : Nat) : Int :=
  let q : Int := ((2 * n.natAbs + d) / (2 * d) : Nat)
  if n < 0 then -q else q

/-- The representative of `a` modulo `period` nearest to `ref`. -/
def nearTo (period : Nat) (ref a : Int) : Int := a + period * roundUp (ref - a) period

/-- A whole turn, and a quarter of one. -/
def fixTurn : Nat := (2 * fixPi).toNat
def fixQuarter : Nat := (fixPi / 2).toNat

/-- The arctangent series, for |t| up to 5/12: t (1 - t^2 (1/3 - t^2 (1/5 - ...))). -/
def fixAtanSeries (t : Int) : Int :=
  let q := fixMul t t
  fixMul t ((List.range 18).foldr (fun (k : Nat) a => fixOne / ((2 * k + 1 : Nat) : Int) - fixMul q a) 0)

/-- The arctangent of a ratio from 0 to 1. -/
def fixAtan (t : Int) : Int :=
  if fixOne * 5 / 12 < t then fixPi / 4 - fixAtanSeries ((fixOne - t) * fixOne / (fixOne + t)) else fixAtanSeries t

/-- The argument of a complex number, from -pi to pi; that of 0 is 0. -/
def fixArg (z : Int × Int) : Int :=
  let u : Int := z.1.natAbs
  let v : Int := z.2.natAbs
  let a := if u = 0 ∧ v = 0 then 0
    else if v ≤ u then fixAtan (v * fixOne / u) else fixPi / 2 - fixAtan (u * fixOne / v)
  let a := if z.1 < 0 then fixPi - a else a
  if z.2 < 0 then -a else a

/-- Bits of a square root, from the greatest down. -/
def isqrtBits (n : Nat) : Nat → Nat → Nat
  | 0, r => r
  | k + 1, r => isqrtBits n k (if (r + 2 ^ k) * (r + 2 ^ k) ≤ n then r + 2 ^ k else r)

/-- The whole part of a square root below 2^64. -/
def isqrt (n : Nat) : Nat := isqrtBits n 64 0

/-- 1/1000 of the exponent of ten of a ratio from 1 to 10, to the nearest: the greatest k with 10^((k - 1/2)/1000) at most it. -/
def fixDecade (p v : Nat) : Nat :=
  [512, 256, 128, 64, 32, 16, 8, 4, 2, 1].foldl (fun k b =>
    if (v : Int) * fixDecibel (2 * ((k + b : Nat) : Int) - 1) ≤ p * fixOne then k + b else k) 0

/-- A power ratio in 0.01 dB, to the nearest; 0 below 0 dB. -/
def ratioDecibel : Nat → Nat → Nat → Nat
  | 0, _, _ => 0xFFFF
  | n + 1, p, v => if 10 * v ≤ p then 1000 + ratioDecibel n p (10 * v) else fixDecade p v

end Sys2Proof.Machine
end

