-- ==== Sys2Proof/Machine/Arch.lean ====
section
/-! DEFINITION. Machine/Arch.lean: chapter 01: carrier lock (R13-R20), the semaphores of ARM (R25-R29) and the
violations of the Plinth channel (R23). -/
namespace Sys2Proof.Machine

open Sys2Proof (Word Carrier Origin Page)

/-! ## Carrier lock -/

/-- `GLB.LOCKSTAT.STATE` codes (R17). -/
def lockIndependent : Nat := 0
def lockAligning : Nat := 1
def lockLocked : Nat := 2
def lockLost : Nat := 3

/-- Carrier lock is enabled: LOCK_EN = 1 (R85). -/
def lockEnabled (s : State) : Bool := s.flag .glb GLB.LOCKCTL.LOCK_EN

/-- `LFM_x.RX_STAT.FSTATE` = SYNC (R209). -/
def inFrame (s : State) (c : Carrier) : Bool := s.get (.lfm c) LFM.RX_STAT.FSTATE == 2

/-- Entry to LOST (R18): counted, LOCK_LOST raised. -/
def lockLose (s : State) : State :=
  (({ s with pairMatches := 0 }.set .glb GLB.LOCKSTAT.STATE lockLost).bump .glb GLB.LOCKSTAT.LOST_CNT).raise .glb
    GLB.EVT.LOCK_LOST

/-- Entry to LOCKED (R18, R20, R154): LOCK_ACHIEVED raised, both interpolators take the joint error. -/
def lockAchieve (s : State) : State :=
  (((s.set .glb GLB.LOCKSTAT.STATE lockLocked).raise .glb GLB.EVT.LOCK_ACHIEVED).set (.trc .a) TRC.STAT.JOINT 1).set
    (.trc .b) TRC.STAT.JOINT 1

/-- A carrier leaves frame: LOCKED becomes LOST (R18). -/
def lockFrameLeft (s : State) : State :=
  if s.get .glb GLB.LOCKSTAT.STATE = lockLocked then lockLose s else s

/-- Both carriers are in frame again: LOST becomes ALIGNING (R18). -/
def lockFrameEntered (s : State) : State :=
  if s.get .glb GLB.LOCKSTAT.STATE = lockLost && inFrame s .a && inFrame s .b then
    { s with pairMatches := 0 }.set .glb GLB.LOCKSTAT.STATE lockAligning
  else s

/-- GLB enters running (R18): with LOCK_EN = 0 the state is INDEPENDENT; with LOCK_EN = 1 INDEPENDENT becomes ALIGNING, and
LOST waits until both carriers are in frame. -/
def lockStart (s : State) : State :=
  if !lockEnabled s then { s with pairMatches := 0 }.set .glb GLB.LOCKSTAT.STATE lockIndependent
  else if s.get .glb GLB.LOCKSTAT.STATE = lockIndependent then
    { s with pairMatches := 0 }.set .glb GLB.LOCKSTAT.STATE lockAligning
  else s

/-- One pair of received CSF boundaries is compared (R18).  `skew` is the distance in whole symbol blocks, none when no
boundary of carrier B lies within SKEW_MAX + 1 blocks.  DESIGN CHOICE (log entry 78): R17 gives no figure for a pair
without a partner, of which R18 says only that it exceeds SKEW_MAX + 1; SKEW then shows its saturation value 0xFF. -/
def csfPairCompare (csfA csfB : BitVec 40) (skew : Option Nat) (s : State) : State :=
  let s := s.set .glb GLB.LOCKSTAT.SKEW (min (skew.getD 0xFF) 0xFF)
  let limit := s.get .glb GLB.LOCKCTL.SKEW_MAX + 1
  let close := match skew with
    | none => false
    | some k => decide (k ≤ limit)
  let ok := close && csfA == csfB && inFrame s .a && inFrame s .b
  if !s.running .glb || !lockEnabled s then s
  else if s.get .glb GLB.LOCKSTAT.STATE = lockAligning then
    if ok then
      if 64 ≤ s.pairMatches + 1 then lockAchieve { s with pairMatches := 0 }
      else { s with pairMatches := s.pairMatches + 1 }
    else { s with pairMatches := 0 }
  else if s.get .glb GLB.LOCKSTAT.STATE = lockLocked then (if ok then s else lockLose s)
  else if s.get .glb GLB.LOCKSTAT.STATE = lockLost then lockFrameEntered s
  else s

/-- On LOST the interpolator of a carrier returns to its own error at the next symbol block boundary (R20). -/
def jointRelease (c : Carrier) (s : State) : State :=
  if s.get .glb GLB.LOCKSTAT.STATE = lockLocked then s else s.set (.trc c) TRC.STAT.JOINT 0

/-! ## Semaphores -/

/-- Level of semaphore n (R25). -/
def semLevel (n : Nat) : Nat := n / 8 + 1

/-- Semaphore n. -/
def semaphore (s : State) (n : Nat) : Semaphore := s.semaphores.getD n ⟨none, []⟩

/-- Replace semaphore n. -/
def setSemaphore (s : State) (n : Nat) (x : Semaphore) : State := { s with semaphores := s.semaphores.setIfInBounds n x }

/-- The highest level an origin holds; 0 for none. -/
def highestLevel (s : State) (o : Origin) : Nat :=
  (List.range 64).foldl (fun m n => if (semaphore s n).holder = some o then max m (semLevel n) else m) 0

/-- Record the result of an origin's last command to a semaphore (R27). -/
def semResult (x : Semaphore) (o : Origin) (r : Nat) : Semaphore :=
  { x with results := (o.code, r) :: x.results.filter fun e => !(e.1 == o.code) }

/-- An acquire command (R26-R28): order refused, busy or granted. -/
def semAcquire (o : Origin) (n : Nat) (s : State) : State :=
  let x := semaphore s n
  if semLevel n ≤ highestLevel s o then
    let s := setSemaphore s n (semResult x o 3)
    ((s.bump .arm ARM.SEM_REFUSE.ORDER_CNT).set .arm ARM.SEM_REFUSE.LAST_SEM n).set .arm ARM.SEM_REFUSE.LAST_ORIGIN o.code
  else
    match x.holder with
    | some _ => setSemaphore s n (semResult x o 2)
    | none => setSemaphore s n (semResult { x with holder := some o } o 1)

/-- A release command (R27): it acts only for the holder.  DESIGN CHOICE (log entry 78): R27 lists no code for a release
that succeeded; RESULT then reads 0b00, none. -/
def semRelease (o : Origin) (n : Nat) (s : State) : State :=
  let x := semaphore s n
  if x.holder = some o then setSemaphore s n (semResult { x with holder := none } o 0) else s

/-- `ARM.SEMn` as an origin reads it (R27). -/
def semWord (s : State) (o : Origin) (n : Nat) : Nat :=
  let x := semaphore s n
  let r := match x.results.find? (fun e => e.1 == o.code) with
    | some e => e.2
    | none => 0
  r * 0x40000 + (n / 8) * 0x100 + (match x.holder with
    | some h => h.code * 2 + 1
    | none => 0)

/-- A core is reset (R28): its semaphores are released, SEM_FORCED raised if it held any.  DESIGN CHOICE (log entry 78): R28
does not say whether a core that held none raises the event; here it does not. -/
def semForce (o : Origin) (s : State) : State :=
  if (s.semaphores.any fun x => x.holder == some o) then
    { s with semaphores := s.semaphores.map fun (x : Semaphore) => if x.holder = some o then { x with holder := none } else x }.raise
      .arm ARM.EVT.SEM_FORCED
  else s

/-! ## The Plinth channel -/

/-- A packet presented on the Plinth channel by another origin is discarded, counted and reported (R23). -/
def vcViolation (o : Origin) (s : State) : State :=
  if o = .plinth then s else (s.countFabric 0x60 1).raise .arm ARM.EVT.VC_VIOLATION

end Sys2Proof.Machine
end

