-- ==== Sys2Proof/Machine/FecEncoder.lean ====
section
/-! DEFINITION. Machine/FecEncoder.lean: the transmit half of FEC_x (R79, R200-R202): the information stream of line frames
laid end to end, and the coded stream that the payload periods carry (R78). -/
namespace Sys2Proof.Machine

open Sys2Proof (Carrier)

/-! ## Queues of bits in transmission order -/

/-- Append the `n` low bits of `v`, most significant first. -/
def BitQueue.push (q : BitQueue) (n v : Nat) : BitQueue := ⟨q.len + n, q.bits * 2 ^ n + v % 2 ^ n⟩

/-- The number the first `n` bits spell, and the bits after them. -/
def BitQueue.pop (q : BitQueue) (n : Nat) : Nat × BitQueue := (q.bits / 2 ^ (q.len - n), ⟨q.len - n, q.bits % 2 ^ (q.len - n)⟩)

/-- Replace the last `n` bits, or all where there are fewer, by the low bits of `v`. -/
def BitQueue.setLast (q : BitQueue) (n v : Nat) : BitQueue :=
  let k := 2 ^ min n q.len
  { q with bits := q.bits / k * k + v % k }

/-! ## The encoder (R200-R202) -/

/-- Information bits of an oFEC block (R201). -/
def infoBits : Nat := 1776

/-- Coded bits of an oFEC block (R201). -/
def codedBits : Nat := 2048

/-- The encoder of a carrier, and its replacement. -/
def encoderOf (s : State) (c : Carrier) : Encoder := (s.fec.get c).encoder
def putEncoder (s : State) (c : Carrier) (e : Encoder) : State := s.setFec c { s.fec.get c with encoder := e }

/-- The encoder when FEC_x enters running (R202): all-zero memory, nothing to encode. -/
def Encoder.initial : Encoder := ⟨0, ⟨0, 0⟩, ⟨0, 0⟩⟩

/-- Encode the next block, where its information bits have arrived (R200). -/
def Encoder.step (e : Encoder) : Encoder :=
  if e.info.len < infoBits then e
  else
    let x := e.info.pop infoBits
    let r := Config.ofecEncode e.mem (BitVec.ofNat 1776 x.1)
    ⟨r.1, x.2, e.coded.push codedBits r.2.toNat⟩

/-- The next `n` coded bits, first bit first, for a symbol period (R78); none while they have not been encoded. -/
def Encoder.take (e : Encoder) (n : Nat) : Option (List Bool × Encoder) :=
  let e := if e.coded.len < n then e.step else e
  if e.coded.len < n then none
  else
    let x := e.coded.pop n
    some (msbBits n x.1, { e with coded := x.2 })

/-- FEC_x takes the bits of the next line frame (R31): it runs, and every whole block of the frames before has been encoded.
DEDUCED, log entry 79. -/
def encoderTakes (s : State) (c : Carrier) : Bool := s.running (.fec c) && decide ((encoderOf s c).info.len < infoBits)

/-- A line frame follows the one before it in the information stream (R79). -/
def sendInfo (c : Carrier) (frame : BitVec 132096) (s : State) : State :=
  let e := encoderOf s c
  putEncoder s c { e with info := e.info.push 132096 frame.toNat }

end Sys2Proof.Machine
end

