-- ==== Sys2Proof/Machine/Cipher.lean ====
section
/-! DEFINITION. Machine/Cipher.lean: chapter 09: key derivation (R223), key slots (R226, R227), the plaintext guard and
the transmit state (R228-R232), activations (R237) and the receive tests (R239-R241). -/
namespace Sys2Proof.Machine

open Sys2Proof (Byte Word Carrier Page)

/-! ## CSF arithmetic (R222) -/

/-- CSF numbers live modulo 2^40. -/
def csfMod : Nat := 2 ^ 40

/-- `x` lies at or after `y` (R222). -/
def csfAtOrAfter (x y : Nat) : Bool := decide ((x + csfMod - y % csfMod) % csfMod < 2 ^ 39)

/-- `x` lies after `y` (R222). -/
def csfAfter (x y : Nat) : Bool := csfAtOrAfter x y && !(x % csfMod == y % csfMod)

/-! ## Key derivation (R223) -/

/-- ASCII bytes of a label. -/
def label (t : String) : List Byte := t.toList.map fun c => BitVec.ofNat 8 c.toNat

/-- E32(v): four bytes, big-endian. -/
def e32 (v : Nat) : List Byte := beBytes 4 v

/-- Epoch secret at ratchet 0 (R223). -/
def epochSecret (ss psk th : BitVec 256) (e : Nat) : BitVec 512 :=
  Config.shake256 512 (label "SQ3208-EPOCH" ++ leBytes 32 ss.toNat ++ leBytes 32 psk.toNat ++ leBytes 32 th.toNat ++ e32 e)

/-- The next ratchet of an epoch secret (R223). -/
def ratchetSecret (x : BitVec 512) : BitVec 512 := Config.shake256 512 (label "SQ3208-RATCHET" ++ leBytes 64 x.toNat)

/-- KS of a carrier and direction (R223): the key is its first 32 bytes, the salt bytes 32-35 read big-endian. -/
def keyStream (x : BitVec 512) (c : Carrier) (d e r : Nat) : BitVec 288 :=
  Config.shake256 288 (label "SQ3208-KEY" ++ leBytes 64 x.toNat ++ [BitVec.ofNat 8 c.idx, BitVec.ofNat 8 d] ++ e32 e
    ++ [BitVec.ofNat 8 r])

/-- K (R223). -/
def keyOf (ks : BitVec 288) : BitVec 256 := BitVec.ofNat 256 ks.toNat

/-- SALT (R223). -/
def saltOf (ks : BitVec 288) : BitVec 32 := BitVec.ofNat 32 (ofBeBytes (leBytes 4 (ks.toNat / 2 ^ 256)))

/-- KCV (R223), read big-endian. -/
def kcvOf (k : BitVec 256) (salt : BitVec 32) : Nat :=
  ofBeBytes (leBytes 2 (Config.shake256 16 (label "SQ3208-KCV" ++ leBytes 32 k.toNat ++ beBytes 4 salt.toNat)).toNat)

/-- The IV of a line frame (R220). -/
def frameIv (salt : BitVec 32) (csf lfIdx carrier role : Nat) : BitVec 96 :=
  BitVec.ofNat 96 (salt.toNat * 2 ^ 64 + (csf % csfMod) * 2 ^ 24 + (lfIdx % 64) * 2 ^ 18 + (carrier % 2) * 2 ^ 17
    + (role % 2) * 2 ^ 16)

/-! ## The blanking pattern (R232) -/

/-- The first `n` bits of the sequence u_k with the 31 bits before the next one, newest first. -/
def blankRun : Nat → List Bool → List Bool
  | 0, _ => []
  | n + 1, w =>
    let u := (w.getD 27 false) != (w.getD 30 false)
    u :: blankRun n (u :: w.take 30)

/-- u_0 .. u_(n-1) (R232). -/
def blankBits (n : Nat) : List Bool :=
  List.replicate (min n 31) true ++ blankRun (n - 31) (List.replicate 31 true)

/-- Payload and tag of a blanked line frame. -/
def blankFrame : BitVec 131584 × BitVec 128 :=
  let v := ofMsbBits (blankBits 131712)
  (BitVec.ofNat 131584 (v / 2 ^ 128), BitVec.ofNat 128 v)

/-! ## Slots (R226) -/

/-- Slot states of R226. -/
def slotEmpty : Nat := 0
def slotLoaded : Nat := 1
def slotActive : Nat := 2
def slotExpired : Nat := 3

/-- State of transmit slot `i`. -/
def txSlotState (s : State) (c : Carrier) (i : Nat) : Nat := s.get (.cry c) (CRY.TX_SLOT.STATE.at i)

/-- State of receive slot `i`. -/
def rxSlotState (s : State) (c : Carrier) (i : Nat) : Nat := s.get (.cry c) (CRY.RX_SLOT.STATE.at i)

/-- The key storage of a slot. -/
def txSlot (s : State) (c : Carrier) (i : Nat) : KeySlot := (s.cipher.get c).tx.getD i .empty
def rxSlot (s : State) (c : Carrier) (i : Nat) : KeySlot := (s.cipher.get c).rx.getD i .empty

/-- Replace the key storage of a slot. -/
def putTxSlot (s : State) (c : Carrier) (i : Nat) (k : KeySlot) : State :=
  s.setCipher c { s.cipher.get c with tx := (s.cipher.get c).tx.setIfInBounds i k }
def putRxSlot (s : State) (c : Carrier) (i : Nat) (k : KeySlot) : State :=
  s.setCipher c { s.cipher.get c with rx := (s.cipher.get c).rx.setIfInBounds i k }

/-- Show a transmit slot in its register. -/
def showTxSlot (s : State) (c : Carrier) (i st ratchet epoch kcv : Nat) : State :=
  (((s.set (.cry c) (CRY.TX_SLOT.STATE.at i) st).set (.cry c) (CRY.TX_SLOT.RATCHET.at i) ratchet).set (.cry c)
    (CRY.TX_SLOT.EPOCH.at i) epoch).set (.cry c) (CRY.TX_SLOT.KCV.at i) kcv

/-- Show a receive slot in its register. -/
def showRxSlot (s : State) (c : Carrier) (i st ratchet epoch kcv : Nat) : State :=
  (((s.set (.cry c) (CRY.RX_SLOT.STATE.at i) st).set (.cry c) (CRY.RX_SLOT.RATCHET.at i) ratchet).set (.cry c)
    (CRY.RX_SLOT.EPOCH.at i) epoch).set (.cry c) (CRY.RX_SLOT.KCV.at i) kcv

/-- Load a transmit slot as LOADED (R237 step 1). -/
def loadTxSlot (s : State) (c : Carrier) (i : Nat) (k : KeySlot) (ratchet epoch kcv : Nat) : State :=
  showTxSlot (putTxSlot s c i k) c i slotLoaded ratchet epoch kcv

/-- `RX_STAT.VALID` and `RX_STAT.STATE` (R241, R244) follow the receive slots. -/
def refreshRx (s : State) (c : Carrier) : State :=
  let valid := sumNat ((List.range 4).map fun i =>
    if rxSlotState s c i = slotLoaded || rxSlotState s c i = slotActive then 2 ^ i else 0)
  let s := s.set (.cry c) CRY.RX_STAT.VALID valid
  s.set (.cry c) CRY.RX_STAT.STATE (if s.running (.cry c) then (if valid = 0 then 1 else 2) else 0)

/-- Load a receive slot as LOADED (R237 step 3). -/
def loadRxSlot (s : State) (c : Carrier) (i : Nat) (k : KeySlot) (ratchet epoch kcv : Nat) : State :=
  refreshRx (showRxSlot (putRxSlot s c i k) c i slotLoaded ratchet epoch kcv) c

/-- Erase a transmit slot and set it to EMPTY. -/
def eraseTxSlot (s : State) (c : Carrier) (i : Nat) : State := showTxSlot (putTxSlot s c i .empty) c i slotEmpty 0 0 0

/-- Erase a receive slot and set it to EMPTY. -/
def eraseRxSlot (s : State) (c : Carrier) (i : Nat) : State :=
  refreshRx (showRxSlot (putRxSlot s c i .empty) c i slotEmpty 0 0 0) c

/-! ## The transmit state (R228, R229) -/

/-- The guard blanks the rest of the line frame in progress (R229): every payload and tag bit that FEC_x has not taken becomes
a bit of the blanking pattern, where the frame's header has left with BLANKED = 0. -/
def blankRest (s : State) (c : Carrier) : State :=
  if (s.framer.get c).lastBlanked then s
  else
    let e := encoderOf s c
    putEncoder s c { e with info := e.info.setLast 131712 (ofMsbBits (blankBits 131712)) }

/-- CRY_x leaves ENCRYPTING for BLANKING with a cause (R228); the guard blanks what is left of the line frame in progress
(R229). -/
def leaveEncrypting (s : State) (c : Carrier) (cause : Nat) : State :=
  if s.get (.cry c) CRY.TX_STAT.STATE = 2 then
    let s := blankRest s c
    let s := (s.set (.cry c) CRY.TX_STAT.STATE 1).set (.cry c) CRY.TX_STAT.BLANK_CAUSE cause
    secLog (s.raise (.cry c) CRY.EVT.GUARD_BLANK) .blanking c.idx cause
  else s

/-- The guard is held by a Plinth command or by hardware after a Plinth failure (R229). -/
def guardHeld (s : State) (c : Carrier) : Bool := (s.cipher.get c).plinthHold || (s.cipher.get c).hardwareHold

/-- The active transmit slot is ACTIVE and not expired. -/
def activeTxValid (s : State) (c : Carrier) : Bool :=
  txSlotState s c (s.get (.cry c) CRY.TX_STAT.ACTIVE_IDX) == slotActive

/-- An LF_IDX 0 boundary (R228): BLANKING becomes ENCRYPTING when a slot is ACTIVE and the guard is not held. -/
def encryptBoundary (s : State) (c : Carrier) : State :=
  if s.get (.cry c) CRY.TX_STAT.STATE = 1 && activeTxValid s c && !guardHeld s c then
    (s.set (.cry c) CRY.TX_STAT.STATE 2).set (.cry c) CRY.TX_STAT.BLANK_CAUSE 0
  else s

/-- The guard releases the LF as ciphertext (R229). -/
def guardReleases (s : State) (c : Carrier) : Bool :=
  s.get (.cry c) CRY.TX_STAT.STATE == 2 && activeTxValid s c && !guardHeld s c

/-- The Plinth commands blanking of a carrier (R228, cause 0x6). -/
def plinthBlank (s : State) (c : Carrier) : State :=
  leaveEncrypting (s.setCipher c { s.cipher.get c with plinthHold := true }) c 6

/-- The Plinth ends its hold of a carrier. -/
def plinthUnblank (s : State) (c : Carrier) : State := s.setCipher c { s.cipher.get c with plinthHold := false }

/-! ## Activations (R237) -/

/-- N of the pending or last activation. -/
def activationCsf (s : State) (c : Carrier) : Nat := s.pair (.cry c) CRY.TX_ACT_LO.CSF CRY.TX_ACT_HI.CSF

/-- Nothing is pending on a carrier (R244). -/
def endActivation (s : State) (c : Carrier) : State :=
  let s := s.setCipher c { s.cipher.get c with confirmed := false }
  ((s.set (.cry c) CRY.TX_STAT.PENDING 0).set (.cry c) CRY.TX_STAT.PENDING_IDX 0).set (.cry c) CRY.TX_STAT.COMMITTED 0

/-- Abandon the pending activation of one carrier (R237 step 4). -/
def abandonOne (s : State) (c : Carrier) : State :=
  if s.flag (.cry c) CRY.TX_STAT.PENDING then
    ((endActivation s c).bump (.cry c) CRY.ACT_CNT.ABORT).raise (.cry c) CRY.EVT.ACT_ABORT
  else s

/-- Abandon a pending activation, and under carrier lock the partner's with it (R237 step 4, R238). -/
def abandonActivation (s : State) (c : Carrier) : State :=
  let s := abandonOne s c
  if lockEnabled s then abandonOne s c.other else s

/-- A framer restart or a zeroisation invalidates the carrier's transmit slots (R227, R230): each is erased, a pending
activation is abandoned, and the next activation uses index 0. -/
def invalidateTx (s : State) (c : Carrier) (cause : Nat) : State :=
  let s := abandonActivation s c
  let s := (List.range 4).foldl (fun s i => eraseTxSlot s c i) s
  let s := s.set (.cry c) CRY.TX_STAT.ACTIVE_IDX 0
  let s := s.setCipher c { s.cipher.get c with fresh := true, retryAfter := none }
  leaveEncrypting s c cause

/-- CSF_NO and LF_IDX of the LF being formed. -/
def txCsf (s : State) (c : Carrier) : Nat := s.pair (.lfm c) LFM.TX_CSF_LO.CSF LFM.TX_CSF_HI.CSF
def txLfIdx (s : State) (c : Carrier) : Nat := s.get (.lfm c) LFM.TX_CSF_HI.LF_IDX

/-- A committed activation takes effect at the first LF of CSF N (R237 step 5). -/
def takeActivation (s : State) (c : Carrier) : State :=
  if s.flag (.cry c) CRY.TX_STAT.PENDING && s.flag (.cry c) CRY.TX_STAT.COMMITTED && txLfIdx s c == 0
      && txCsf s c == activationCsf s c then
    let old := s.get (.cry c) CRY.TX_STAT.ACTIVE_IDX
    let j := s.get (.cry c) CRY.TX_STAT.PENDING_IDX
    let s := if txSlotState s c old = slotActive && old != j then eraseTxSlot s c old else s
    let s := s.set (.cry c) (CRY.TX_SLOT.STATE.at j) slotActive
    let s := s.setCipher c { s.cipher.get c with fresh := false, activatedAt := s.elapsedNs }
    let s := endActivation (s.set (.cry c) CRY.TX_STAT.ACTIVE_IDX j) c
    (s.bump (.cry c) CRY.ACT_CNT.DONE).raise (.cry c) CRY.EVT.ACTIVATED
  else s

/-- The framer forms CSF N - 16 without KEY_CONFIRM (R237 step 4): the activation is abandoned, slot j stays LOADED. -/
def missDeadline (s : State) (c : Carrier) : State :=
  if s.flag (.cry c) CRY.TX_STAT.PENDING && !s.flag (.cry c) CRY.TX_STAT.COMMITTED
      && csfAtOrAfter (txCsf s c + 16) (activationCsf s c) then
    abandonActivation s c
  else s

/-- A key's life is over (R231): LIFE_MULT × I after it was loaded, on the Plinth's elapsed-time count. -/
def slotOver (s : State) (k : KeySlot) : Bool := decide (k.loadedAt + k.lifeNs ≤ s.elapsedNs)

/-- A slot reaches the end of its life (R231). -/
def expireTx (s : State) (c : Carrier) (i : Nat) : State :=
  let st := txSlotState s c i
  if st = slotLoaded || st = slotActive then
    let s := putTxSlot s c i .empty
    let s := (s.set (.cry c) (CRY.TX_SLOT.STATE.at i) slotExpired).set (.cry c) (CRY.TX_SLOT.KCV.at i) 0
    let s := s.raise (.cry c) CRY.EVT.EXPIRED
    let s := if s.flag (.cry c) CRY.TX_STAT.PENDING && s.get (.cry c) CRY.TX_STAT.PENDING_IDX == i then
      abandonActivation s c else s
    if st = slotActive then leaveEncrypting s c 2 else s
  else s

/-- A receive slot reaches the end of its life (R231). -/
def expireRx (s : State) (c : Carrier) (i : Nat) : State :=
  let st := rxSlotState s c i
  if st = slotLoaded || st = slotActive then
    let s := putRxSlot s c i .empty
    let s := (s.set (.cry c) (CRY.RX_SLOT.STATE.at i) slotExpired).set (.cry c) (CRY.RX_SLOT.KCV.at i) 0
    refreshRx (s.raise (.cry c) CRY.EVT.EXPIRED) c
  else s

/-- A slot whose life is over expires (R231); no other does. -/
def expireSlot (s : State) (c : Carrier) (receive : Bool) (i : Nat) : State :=
  if receive then (if slotOver s (rxSlot s c i) then expireRx s c i else s)
  else if slotOver s (txSlot s c i) then expireTx s c i else s

/-- Every slot of a carrier and direction whose life is over expires before the next line frame uses it (R221, R231). -/
def expireOver (s : State) (c : Carrier) (receive : Bool) : State :=
  (List.range 4).foldl (fun s i => expireSlot s c receive i) s

/-- Erase every slot of a carrier in both directions (R233, R470). -/
def eraseAllSlots (s : State) (c : Carrier) (cause : Nat) : State :=
  (List.range 4).foldl (fun s i => eraseRxSlot s c i) (invalidateTx s c cause)

/-! ## Receiving (R237 step 6, R239-R241) -/

/-- (CSF_NO, LF_IDX) lies after the last LF accepted under a slot (R239). -/
def afterLast (last : Option (Nat × Nat)) (csf lf : Nat) : Bool :=
  match last with
  | none => true
  | some (c0, l0) => csfAfter csf c0 || (csf % csfMod == c0 % csfMod && decide (l0 < lf))

/-- The receive slot that is retained, if any. -/
def retainedSlot (s : State) (c : Carrier) : Option Nat :=
  (List.range 4).find? fun i => (rxSlot s c i).retained

/-- The ACTIVE receive slot that is not retained, if any. -/
def activeRxSlot (s : State) (c : Carrier) : Option Nat :=
  (List.range 4).find? fun i => rxSlotState s c i == slotActive && !(rxSlot s c i).retained

/-- The first LF accepted under slot `j` makes it ACTIVE; the previous ACTIVE slot becomes retained and an older
retained slot is erased (R227, R237 step 6). -/
def activateRx (s : State) (c : Carrier) (j csf : Nat) : State :=
  if rxSlotState s c j = slotLoaded then
    let s := match retainedSlot s c with
      | some i => eraseRxSlot s c i
      | none => s
    let s := match activeRxSlot s c with
      | some i => putRxSlot s c i { rxSlot s c i with retained := true, retainFrom := csf }
      | none => s
    refreshRx (s.set (.cry c) (CRY.RX_SLOT.STATE.at j) slotActive) c
  else s

/-- The retained slot's retention has run out (R237 step 6): the received CSF_NO lies 2^RETAIN_LOG2 or more after the first line
frame under the successor; one that lies before it has not advanced (R222). -/
def retentionOver (s : State) (c : Carrier) (i : Nat) : Bool :=
  csfAtOrAfter (s.pair (.lfm c) LFM.RX_CSF_LO.CSF LFM.RX_CSF_HI.CSF)
    ((rxSlot s c i).retainFrom + 2 ^ s.get (.cry c) CRY.CTL.RETAIN_LOG2)

/-- Erase the retained slot once its retention has run out. -/
def expireRetained (s : State) (c : Carrier) : State :=
  match retainedSlot s c with
  | some i => if retentionOver s c i then eraseRxSlot s c i else s
  | none => s

/-- A tag failure lengthens the run of R240; a full run raises TAG_BURST once and starts again. -/
def countTagFailure (s : State) (c : Carrier) : State :=
  let s := (s.bump (.cry c) CRY.TAG_FAIL.COUNT).raise (.cry c) CRY.EVT.TAG_FAIL
  let run := (s.cipher.get c).tagRun + 1
  if s.get (.cry c) CRY.CTL.TAGFAIL_N ≤ run then
    noteTrigger ((s.setCipher c { s.cipher.get c with tagRun := 0 }).raise (.cry c) CRY.EVT.TAG_BURST) (3 + c.idx)
  else s.setCipher c { s.cipher.get c with tagRun := run }

/-- The tests of R239 on one DATA frame; answers the state and the plaintext when all pass. -/
def receiveTests (s : State) (c : Carrier) (csf lf keyIdx carrier role : Nat) (hdr : BitVec 128)
    (payload : BitVec 131584) (tag : BitVec 128) : State × Option (BitVec 131584) :=
  let st := rxSlotState s c keyIdx
  let k := rxSlot s c keyIdx
  if !s.running (.cry c) then (s, none)
  else if !(st == slotLoaded || st == slotActive) then
    ((s.bump (.cry c) CRY.NOKEY.COUNT).raise (.cry c) CRY.EVT.NOKEY, none)
  else if (st == slotLoaded && !csfAtOrAfter csf k.announced) || !afterLast k.lastAccepted csf lf then
    ((s.bump (.cry c) CRY.REPLAY.COUNT).raise (.cry c) CRY.EVT.REPLAY, none)
  else
    match Config.gcmOpen k.key (frameIv k.salt csf lf carrier role) hdr payload tag with
    | none => (countTagFailure s c, none)
    | some p =>
      let s := s.setCipher c { s.cipher.get c with tagRun := 0 }
      let s := activateRx s c keyIdx csf
      let s := putRxSlot s c keyIdx { rxSlot s c keyIdx with lastAccepted := some (csf, lf) }
      (s.set (.cry c) CRY.RX_STAT.LAST_IDX keyIdx, some p)

/-! ## Page behaviour (R228, R243) -/

/-- The counters of CRY_x clear on entry to starting (R243). -/
def cryStart (c : Carrier) (s : State) : State :=
  s.clearAll (.cry c) [CRY.TAG_FAIL.COUNT, CRY.NOKEY.COUNT, CRY.REPLAY.COUNT, CRY.ACT_CNT.DONE, CRY.ACT_CNT.ABORT]

/-- The known-answer test fails (R243): the page stays in starting, the guard blanks with cause 0x4. -/
def cryKatFail (c : Carrier) (s : State) : State :=
  let s := (s.set (.cry c) CRY.KAT.FAIL 1).set (.cry c) CRY.KAT.PASS 0
  ((s.errlog (.cry c) 0x02 0).raise (.cry c) CRY.EVT.KAT_FAIL).set (.cry c) CRY.TX_STAT.BLANK_CAUSE 4

/-- CRY_x reaches running (R228, R241, R243). -/
def cryRunning (c : Carrier) (s : State) : State :=
  let s := (s.set (.cry c) CRY.KAT.FAIL 0).set (.cry c) CRY.KAT.PASS 1
  let s := s.set (.cry c) CRY.TX_STAT.STATE 1
  let s := if activeTxValid s c then s else s.set (.cry c) CRY.TX_STAT.BLANK_CAUSE 1
  refreshRx s c

/-- CRY_x leaves running (R228): STOPPED, cause 0x5 when it was ENCRYPTING. -/
def cryStop (c : Carrier) (s : State) : State :=
  let s := leaveEncrypting s c 5
  (s.set (.cry c) CRY.TX_STAT.STATE 0).set (.cry c) CRY.RX_STAT.STATE 0

end Sys2Proof.Machine
end

