-- ==== Sys2Proof/Machine/Client.lean ====
section
/-! DEFINITION. Machine/Client.lean: chapter 14: port types and admission (R329-R331), calendar rounds (R334-R336),
distribution of received slots (R337), idle adjustment (R338) and port states (R339, R340). -/
namespace Sys2Proof.Machine

open Sys2Proof (Word Carrier Page ClientIn)

/-! ## Ports (R329-R331) -/

/-- Lanes of a port of each type (R329). -/
def portWidth (t : Nat) : Nat := if t = 1 then 2 else if t = 2 then 4 else if t = 3 then 8 else 0

/-- Type code of port position `q` (R329, R343). -/
def portType (s : State) (c : Carrier) (q : Nat) : Nat := (s.get (.cpc c) CPC.PORT_CFG.TYPE >>> (2 * q)) % 4

/-- Weight of a port type (R329). -/
def portWeight (t : Nat) : Nat := if t = 1 then 1 else if t = 2 then 2 else if t = 3 then 4 else 0

/-- A type is allowed at a position (R329). -/
def portAllowed (t q : Nat) : Bool :=
  if t = 2 then q == 0 || q == 2 else if t = 3 then q == 0 else true

/-- Position `q` is covered by a wider port at a lower position (R330). -/
def portCovered (s : State) (c : Carrier) (q : Nat) : Bool :=
  (portType s c 0 == 3 && q != 0) || (portType s c 0 == 2 && q == 1) || (portType s c 2 == 2 && q == 3)

/-- Client capacity of a mode in units of 400 Gb/s (R91). -/
def clientUnits (mode : Nat) : Nat :=
  match mode with
  | 1 => 1 | 2 => 2 | 3 => 2 | 4 => 3 | 5 => 4 | _ => 0

/-- Sum of the configured weights. -/
def configuredUnits (s : State) (c : Carrier) : Nat := sumNat ((List.range 4).map fun q => portWeight (portType s c q))

/-- The mode `QLT.TARGET` names for a carrier. -/
def targetMode (s : State) (c : Carrier) : Nat :=
  match c with
  | .a => s.get .qlt QLT.TARGET.TARGET_A
  | .b => s.get .qlt QLT.TARGET.TARGET_B

/-- A port configuration CPC_x refuses to run with (R330). -/
def portConfigBad (s : State) (c : Carrier) : Bool :=
  (List.range 4).any (fun q =>
    let t := portType s c q
    !portAllowed t q || (portCovered s c q && t != 0))
  || decide (clientUnits (targetMode s c) < configuredUnits s c)

/-- The admitted ports in ascending position (R331): the first that does not fit suspends itself and every port after. -/
def admittedFrom (s : State) (c : Carrier) (units : Nat) : List Nat → List Nat
  | [] => []
  | q :: qs =>
    let w := portWeight (portType s c q)
    if w = 0 then admittedFrom s c units qs
    else if w ≤ units then q :: admittedFrom s c (units - w) qs
    else []

/-- The calendar positions of a set of ports (R334). -/
def calendarOf (s : State) (c : Carrier) (ports : List Nat) : List Nat :=
  ports.flatMap fun q => List.replicate (portWeight (portType s c q)) q

/-- The carrier's calendar: port of each position. -/
def calendar (s : State) (c : Carrier) : List Nat :=
  (List.range (s.get (.cpc c) CPC.CAL.W)).map fun j => (s.get (.cpc c) CPC.CAL.POS >>> (2 * j)) % 4

/-- A port is admitted. -/
def admitted (s : State) (c : Carrier) (q : Nat) : Bool := s.flag (.cpc c) (CPC.PSTAT.ADMITTED.at q)

/-- Egress states of R340. -/
def egSuspended : Nat := 0
def egData : Nat := 1
def egError : Nat := 2
def egLocalFault : Nat := 3

/-- Egress state of a port. -/
def egressState (s : State) (c : Carrier) (q : Nat) : Nat := s.get (.cpc c) (CPC.PSTAT.ESTATE.at q)

/-- Whether a port's data run since LOCAL_FAULT is unbroken. -/
def cleanRun (s : State) (c : Carrier) (q : Nat) : Bool := (s.cpc.get c).clean.getD q false

/-- Set whether a port's data run since LOCAL_FAULT is unbroken. -/
def setClean (s : State) (c : Carrier) (q : Nat) (b : Bool) : State :=
  s.setCpc c { s.cpc.get c with clean := (s.cpc.get c).clean.set q b }

/-- Blocks of ports that are not admitted leave the EBs. -/
def dropPorts (c : Carrier) (keep : Nat → Bool) (s : State) : State :=
  let p := s.cpc.get c
  s.setCpc c { p with ingress := p.ingress.filter fun x => keep x.1.val, egress := p.egress.filter fun x => keep x.1 }

/-- A port position by number. -/
def portFin (q : Nat) : Fin 4 := ⟨q % 4, Nat.mod_lt q (by decide)⟩

/-- Admit ports for a mode (R331, R334, R340): CAL, ADMITTED and the egress states follow. -/
def admitPorts (s : State) (c : Carrier) (mode : Nat) : State :=
  let ports := if s.running (.cpc c) then admittedFrom s c (clientUnits mode) [0, 1, 2, 3] else []
  let cal := calendarOf s c ports
  let was := s.get (.cpc c) CPC.CAL.ADMIT
  let now := sumNat (ports.map fun q => 2 ^ q)
  let s := ((s.set (.cpc c) CPC.CAL.ADMIT now).set (.cpc c) CPC.CAL.W cal.length).set (.cpc c) CPC.CAL.POS
    (sumNat ((List.range cal.length).map fun j => cal.getD j 0 * 4 ^ j))
  let s := (List.range 4).foldl (fun s q =>
    let a := ports.contains q
    let s := s.setFlag (.cpc c) (CPC.PSTAT.ADMITTED.at q) a
    if a then
      let s := if egressState s c q = egSuspended then
          startTimer (.faultHold c (portFin q)) (s.set (.cpc c) (CPC.PSTAT.ESTATE.at q) egError)
        else s
      if s.get (.cpc c) (CPC.PSTAT.ISTATE.at q) = 0 then s.set (.cpc c) (CPC.PSTAT.ISTATE.at q) 1 else s
    else s.set (.cpc c) (CPC.PSTAT.ESTATE.at q) egSuspended) s
  let s := dropPorts c (fun q => ports.contains q) s
  s.raiseIf (was != now) (.cpc c) CPC.EVT.ADMIT_CHG

/-! ## Rounds (R30, R335, R336, R339, R86) -/

/-- Depth of a client EB in blocks (R30). -/
def clientDepth : Nat := 256

/-- The framers CPC_x feeds: its own, and in 1+1 both from CPC_A (R272). -/
def framersFed (s : State) (c : Carrier) : List Carrier :=
  if s.get .rps RPS.CTL.MODE = 1 then (if c = .a then [.a, .b] else []) else [c]

/-- The framers fed that run. -/
def framersOpen (s : State) (c : Carrier) : List Carrier := (framersFed s c).filter fun d => s.running (.lfm d)

/-- The largest justification buffer of a set of framers. -/
def bufferLevel (s : State) (ds : List Carrier) : Nat :=
  ds.foldl (fun m d => max m (s.framer.get d).buffer.length) 0

/-- Append a block to the justification buffers, or drop and count it when one is full (R86); in 1+1 both hold the same
blocks, so a block that one drops neither takes (R273). -/
def justPush (s : State) (c : Carrier) (b : BitVec 257) : State :=
  let ds := framersOpen s c
  if 1024 ≤ bufferLevel s ds then
    ds.foldl (fun s d => (s.bump (.lfm d) LFM.JUST_OVF.COUNT).raise (.lfm d) LFM.EVT.JUST_OVF) s
  else
    ds.foldl (fun s d =>
      let f := s.framer.get d
      (s.setFramer d { f with buffer := f.buffer ++ [b] }).set (.lfm d) LFM.JUST_OCC.COUNT (f.buffer.length + 1)) s

/-- Lanes of port position `q` of a carrier (R329). -/
def portLanes (s : State) (c : Carrier) (q : Nat) : List (Fin 16) :=
  let first := (match c with | .a => 0 | .b => 8) + 2 * q
  (List.finRange 16).filter fun n => decide (first ≤ n.val ∧ n.val < first + portWidth (portType s c q))

/-- Every lane of a port delivers data, being READY (R339, R347). -/
def portDelivers (s : State) (c : Carrier) (q : Nat) : Bool :=
  (portLanes s c q).all fun n => s.get (.clx n) CLX.STAT.RX_STATE == 4

/-- Every lane of a port sends, and sends the PCS stream (R348, R350). -/
def portSends (s : State) (c : Carrier) (q : Nat) : Bool :=
  (portLanes s c q).all fun n => s.get (.clx n) CLX.STAT.TX_STATE == 2 && !s.flag (.clx n) CLX.PAT_CTL.GEN_EN

/-- An admitted port is UP (R339). -/
def portUp (s : State) (c : Carrier) (q : Nat) : Bool := admitted s c q && s.get (.cpc c) (CPC.PSTAT.ISTATE.at q) == 2

/-- Blocks of a port in the client ingress EB. -/
def ingressLevel (s : State) (c : Carrier) (q : Nat) : Nat :=
  ((s.cpc.get c).ingress.filter fun x => x.1.val == q).length

/-- A block arrives from a client port in UP: it enters the ingress EB, or is dropped and counted when the EB is full (R34). -/
def ingressPush (c : Carrier) (s : State) (x : Fin 4 × ClientIn) : State :=
  let p := s.cpc.get c
  if !portUp s c x.1.val then s
  else if p.ingress.length < clientDepth then s.setCpc c { p with ingress := p.ingress ++ [x] }
  else (s.bump (.cpc c) CPC.ING_OVF.COUNT).raise (.cpc c) CPC.EVT.ING_OVF

/-- Take the oldest block of a port out of the ingress EB. -/
def ingressTake (q : Nat) : List (Fin 4 × ClientIn) → Option ClientIn × List (Fin 4 × ClientIn)
  | [] => (none, [])
  | x :: xs =>
    if x.1.val = q then (some x.2, xs)
    else
      let r := ingressTake q xs
      (r.1, x :: r.2)

/-- The block that port `q` contributes to a round (R339), with its counts. -/
def roundBlock (s : State) (c : Carrier) (q : Nat) : State × BitVec 257 :=
  if portUp s c q then
    let p := s.cpc.get c
    let r := ingressTake q p.ingress
    let s := s.setCpc c { p with ingress := r.2 }
    let s := s.addPair (.cpc c) (CPC.IN_BLK_LO.COUNT.at q) (CPC.IN_BLK_HI.COUNT.at q) 1
    match r.1 with
    | some (.good b) => (s, b)
    | _ => (s.bump (.cpc c) (CPC.IN_ERR.COUNT.at q), Config.errorControlBlock)
  else
    (s.bump (.cpc c) (CPC.IN_SUBST.COUNT.at q),
      if s.flag (.cpc c) CPC.CTL.LF_FWD then Config.localFaultBlock else Config.errorControlBlock)

/-- Every admitted port in UP holds its blocks of the next round (R335). -/
def roundReady (s : State) (c : Carrier) : Bool :=
  [0, 1, 2, 3].all fun q => !portUp s c q || decide (portWeight (portType s c q) ≤ ingressLevel s c q)

/-- A round must wait in the client ingress EB: R336 holds it back, or no framer takes it (R31; that blocks wait there while
LFM_x does not run is a DESIGN CHOICE, log entry 78). -/
def roundHeld (s : State) (c : Carrier) : Bool :=
  let w := s.get (.cpc c) CPC.CAL.W
  (framersOpen s c).isEmpty || (512 % w != 0 && decide (510 < bufferLevel s (framersOpen s c) + w))

/-- A round goes to the justification buffer, position by position (R334). -/
def formRound (c : Carrier) (s : State) : State :=
  (calendar s c).foldl (fun s q =>
    let r := roundBlock s c q
    justPush r.1 c r.2) s

/-- RS codewords a port has decoded (R332, R344). -/
def countCodewords (c : Carrier) (rsCorr rsUncorr : List Nat) (s : State) : State :=
  [0, 1, 2, 3].foldl (fun s q =>
    if admitted s c q then
      (s.addSat (.cpc c) (CPC.RS_CORR.COUNT.at q) (rsCorr.getD q 0)).addSat (.cpc c) (CPC.RS_UNCORR.COUNT.at q)
        (rsUncorr.getD q 0)
    else s) s

/-- `blocks` arrive from the client ports, `rsCorr` and `rsUncorr` RS codewords having been decoded on each, and CPC_x forms a
calendar round once it can (R334-R336). -/
def roundWrite (c : Carrier) (blocks : List (Fin 4 × ClientIn)) (rsCorr rsUncorr : List Nat) (s : State) : State :=
  if !s.running (.cpc c) then s
  else
    let s := blocks.foldl (ingressPush c) (countCodewords c rsCorr rsUncorr s)
    if roundReady s c && !roundHeld s c then formRound c s else s

/-! ## Egress (R337, R340) -/

/-- One item offered to a port while its egress state is tracked: the state, the run of LOCAL_FAULT, the item sent. -/
def egressItem (st : Nat) (clean : Bool) (x : Option (BitVec 257)) : Nat × Bool × ClientItem :=
  match x with
  | some b =>
    if st = egData || st = egError then (egData, clean, .data b) else (st, true, .localFault)
  | none =>
    if st = egData then (egError, clean, .errorBlock)
    else if st = egError then (egError, clean, .errorBlock)
    else (st, false, .localFault)

/-- The items a port sends for the blocks it is given (none: an error control block), with the state it ends in. -/
def egressRun : Nat → Bool → List (Option (BitVec 257)) → Nat × Bool × List ClientItem
  | st, clean, [] => (st, clean, [])
  | st, clean, x :: xs =>
    let r := egressItem st clean x
    let t := egressRun r.1 r.2.1 xs
    (t.1, t.2.1, r.2.2 :: t.2.2)

/-- What a port sends to its client: nothing while a lane of it does not send the PCS stream (R348, R350). -/
def portSent (c : Carrier) (q : Nat) (items : List ClientItem) (s : State) : State :=
  s.setCpc c { s.cpc.get c with sent := (s.cpc.get c).sent.set q (if portSends s c q then items else []) }

/-- FAULT_HOLD counts from here: ERROR is entered, or a data block begins an unbroken run in LOCAL_FAULT (R340). -/
def faultHoldStarts (was : Nat) (wasClean : Bool) (xs : List (Option (BitVec 257))) (now : Nat) (clean : Bool) : Bool :=
  (now == egError && (was != egError || xs.any Option.isSome))
    || (now == egLocalFault && clean && (!wasClean || xs.any Option.isNone))

/-- Blocks reach an egress port (R340), in order; none stands for an error control block. -/
def egressBlocks (c : Carrier) (q : Nat) (xs : List (Option (BitVec 257))) (s : State) : State :=
  if admitted s c q && s.running (.cpc c) then
    let r := egressRun (egressState s c q) (cleanRun s c q) xs
    let items := r.2.2
    let data := (items.filter fun i => match i with
      | .data _ => true
      | _ => false).length
    let ecb := (items.filter fun i => i == .errorBlock).length
    let lf := (items.filter fun i => i == .localFault).length
    let s := if faultHoldStarts (egressState s c q) (cleanRun s c q) xs r.1 r.2.1 then startTimer (.faultHold c (portFin q)) s else s
    let s := setClean (s.set (.cpc c) (CPC.PSTAT.ESTATE.at q) r.1) c q r.2.1
    let s := s.addPair (.cpc c) (CPC.OUT_BLK_LO.COUNT.at q) (CPC.OUT_BLK_HI.COUNT.at q) data
    let s := (s.addSat (.cpc c) (CPC.OUT_ECB.COUNT.at q) ecb).addSat (.cpc c) (CPC.OUT_LF.COUNT.at q) lf
    portSent c q items s
  else s

/-- A SUSPENDED port sends `n` local fault blocks while its lanes run (R340). -/
def suspendedSend (c : Carrier) (q n : Nat) (s : State) : State :=
  if egressState s c q = egSuspended && portType s c q != 0 && portSends s c q then
    portSent c q (List.replicate n .localFault) (s.addSat (.cpc c) (CPC.OUT_LF.COUNT.at q) n)
  else s

/-- The blocks of an LF with the port of each, in order (R337). -/
def portBlocks (cal : List Nat) : Nat → List (Option (BitVec 257)) → List (Nat × Option (BitVec 257))
  | _, [] => []
  | i, x :: xs => (cal.getD (i % cal.length) 4, x) :: portBlocks cal (i + 1) xs

/-- The blocks of one LF go to the carrier's egress EB, each for the port of its position (R337).  A count that is not a
multiple of W becomes error control blocks, counted in CAL_ERR.  The EB holds its 256 blocks (R30); what does not fit waits
behind them in the pipeline (R31). -/
def deliverBlocks (c : Carrier) (xs : List (Option (BitVec 257))) (s : State) : State :=
  let cal := calendar s c
  if !s.running (.cpc c) || cal.isEmpty then s
  else
    let bad := !(xs.length % cal.length == 0)
    let s := if bad then (s.bump (.cpc c) CPC.CAL_ERR.COUNT).raise (.cpc c) CPC.EVT.CAL_ERR else s
    let ys := if bad then List.replicate xs.length none else xs
    s.setCpc c { s.cpc.get c with egress := (s.cpc.get c).egress ++ portBlocks cal 0 ys }

/-- The blocks that wait for a port. -/
def egressLevel (s : State) (c : Carrier) (q : Nat) : Nat :=
  ((s.cpc.get c).egress.filter fun x => x.1 == q).length

/-- Take the oldest `n` blocks of a port out of the egress EB. -/
def egressTake (q : Nat) : Nat → List (Nat × Option (BitVec 257)) →
    List (Option (BitVec 257)) × List (Nat × Option (BitVec 257))
  | 0, xs => ([], xs)
  | _, [] => ([], [])
  | n + 1, x :: xs =>
    if x.1 = q then
      let r := egressTake q n xs
      (x.2 :: r.1, r.2)
    else
      let r := egressTake q (n + 1) xs
      (r.1, x :: r.2)

/-- A port sends its next `n` blocks to its client: received blocks as far as the egress EB holds them, or local fault blocks of
its own while it is SUSPENDED (R340). -/
def egressSend (c : Carrier) (q n : Nat) (s : State) : State :=
  if admitted s c q && s.running (.cpc c) then
    let r := egressTake q n (s.cpc.get c).egress
    egressBlocks c q r.1 (s.setCpc c { s.cpc.get c with egress := r.2 })
  else suspendedSend c q n s

/-- FAULT_HOLD has elapsed (R340): ERROR without a data block becomes LOCAL_FAULT, LOCAL_FAULT with an unbroken data run
becomes DATA. -/
def egressFaultHold (c : Carrier) (q : Nat) (s : State) : State :=
  if !passed s (.faultHold c (portFin q)) (s.get (.cpc c) CPC.CTL.FAULT_HOLD * 10 * usNs) then s
  else if egressState s c q = egError then
    (setClean (s.set (.cpc c) (CPC.PSTAT.ESTATE.at q) egLocalFault) c q false).raise (.cpc c) CPC.EVT.EGR_FAULT
  else if egressState s c q = egLocalFault && cleanRun s c q then
    (s.set (.cpc c) (CPC.PSTAT.ESTATE.at q) egData).raise (.cpc c) CPC.EVT.EGR_CLEAR
  else s

/-- A client egress EB holds nothing for its port when the port needs a block (R34, R340). -/
def egressUnderrun (c : Carrier) (q : Nat) (s : State) : State :=
  if admitted s c q && s.running (.cpc c) && egressLevel s c q == 0 then
    egressBlocks c q [none] ((s.bump (.cpc c) CPC.EGR_UNDER.COUNT).raise (.cpc c) CPC.EVT.EGR_UNDER)
  else s

/-- A block does not fit the client ingress EB (R34). -/
def ingressDrop (c : Carrier) (s : State) : State :=
  if s.running (.cpc c) && decide (clientDepth ≤ (s.cpc.get c).ingress.length) then (s.bump (.cpc c) CPC.ING_OVF.COUNT).raise (.cpc c) CPC.EVT.ING_OVF else s

/-- A port in UP holds more than 2 u_q blocks beyond the next round (R335). -/
def ingressAhead (s : State) (c : Carrier) (q : Nat) : Bool :=
  s.running (.cpc c) && portUp s c q && decide (3 * portWeight (portType s c q) < ingressLevel s c q)

/-- The ingress conditions of a port are lost, or have held for 1 ms (R339): UP needs every lane of the port to have delivered
data for as long. -/
def ingressState (c : Carrier) (q : Nat) (up hiBer : Bool) (s : State) : State :=
  if admitted s c q && s.running (.cpc c) then
    let up := up && portDelivers s c q && passed s (.portReady c (portFin q)) msNs
    let was := s.get (.cpc c) (CPC.PSTAT.ISTATE.at q)
    let s := (s.set (.cpc c) (CPC.PSTAT.ISTATE.at q) (if up then 2 else 1)).setFlag (.cpc c) (CPC.PSTAT.HI_BER.at q) hiBer
    if up && was != 2 then s.raise (.cpc c) CPC.EVT.ING_UP
    else if !up && was == 2 then s.raise (.cpc c) CPC.EVT.ING_DOWN
    else s
  else s

/-- A lane stops delivering data: the admitted port it belongs to is DOWN (R339). -/
def lanePortDown (n : Fin 16) (s : State) : State :=
  let c : Carrier := if n.val < 8 then .a else .b
  [0, 1, 2, 3].foldl (fun s q =>
    if (portLanes s c q).contains n && portUp s c q then
      (s.set (.cpc c) (CPC.PSTAT.ISTATE.at q) 1).raise (.cpc c) CPC.EVT.ING_DOWN
    else s) s

/-! ## Page behaviour (R342) -/

/-- Counters of CPC_x clear on entry to starting (R342). -/
def cpcStart (c : Carrier) (s : State) : State :=
  let s := s.clearAll (.cpc c) [CPC.CAL_ERR.COUNT, CPC.ING_OVF.COUNT, CPC.EGR_UNDER.COUNT]
  [CPC.IN_BLK_LO.COUNT, CPC.IN_BLK_HI.COUNT, CPC.OUT_BLK_LO.COUNT, CPC.OUT_BLK_HI.COUNT, CPC.IN_ERR.COUNT,
    CPC.IN_SUBST.COUNT, CPC.OUT_ECB.COUNT, CPC.OUT_LF.COUNT, CPC.RS_CORR.COUNT, CPC.RS_UNCORR.COUNT, CPC.IDLE.INS,
    CPC.IDLE.DEL].foldl (fun s f => s.clearArray (.cpc c) f) s

/-- CPC_x reaches running: ports fit for the carrier's current mode are admitted while LFM_x is not stopped. -/
def cpcRunning (c : Carrier) (s : State) : State :=
  if s.stopped (.lfm c) then s else admitPorts s c (s.get (.lfm c) LFM.MODE.MODE)

/-- CPC_x leaves running: every port is SUSPENDED (R340). -/
def cpcStop (c : Carrier) (s : State) : State :=
  (List.range 4).foldl (fun s q => s.set (.cpc c) (CPC.PSTAT.ESTATE.at q) egSuspended) (dropPorts c (fun _ => false) s)

/-- The page's own write rules (R343). -/
def cpcWriteBad (new : Word) (off : Nat) : Bool := off == CPC.CTL.FAULT_HOLD.off && extract new 8 8 == 0

/-- CFG_UNITS follows PORT_CFG (R343). -/
def cpcWritten (c : Carrier) (off : Nat) (s : State) : State :=
  if off = CPC.PORT_CFG.TYPE.off then s.set (.cpc c) CPC.CAL.CFG_UNITS (configuredUnits s c) else s

end Sys2Proof.Machine
end

