-- ==== Sys2Proof/Machine/LineFrame.lean ====
section
/-! DEFINITION. Machine/LineFrame.lean: chapter 03: modes (R74), the training and pilot sequences (R76, R77), the header
and its check (R82-R84), crypto superframes (R85), fill and justification (R86, R87), blanking (R89) and the framing
controls (R94). -/
namespace Sys2Proof.Machine

open Sys2Proof (Word Carrier Page)

/-! ## Modes (R74) -/

/-- Symbol rate of a mode in GBd; 0 for a reserved code. -/
def symbolRate (mode : Nat) : Nat :=
  match mode with
  | 0 => 60 | 1 => 120 | 2 => 240 | 3 => 120 | 4 => 180 | 5 => 240 | _ => 0

/-- Bits per symbol period. -/
def bitsPerSymbol (mode : Nat) : Nat := if mode ≤ 2 then 4 else 8

/-- The carrier's mode. -/
def lineMode (s : State) (c : Carrier) : Nat := s.get (.lfm c) LFM.MODE.MODE

/-! ## The symbol frame (R75) -/

/-- Symbol periods of a symbol frame. -/
def syfPeriods : Nat := 2 ^ 20

/-- What a symbol period of a symbol frame carries: training symbol `i`, pilot `m`, or payload (R75). -/
inductive PeriodRole where
  | training (i : Nat)
  | pilot (m : Nat)
  | payload
  deriving DecidableEq, Repr

/-- The role of period `i` (R75). -/
def periodRole (i : Nat) : PeriodRole :=
  if i < 512 then .training i else if (i - 512) % 64 = 0 then .pilot ((i - 512) / 64) else .payload

/-! ## Training and pilot sequences (R76, R77) -/

/-- `n` further bits of a sequence whose bit k is bit k-i XOR bit k-j; the history is newest first. -/
def lfsrRun (i j : Nat) : Nat → List Bool → List Bool
  | 0, _ => []
  | n + 1, w =>
    let u := (w.getD (i - 1) false) != (w.getD (j - 1) false)
    u :: lfsrRun i j n (u :: w.take (j - 1))

/-- The first `n` bits of the sequence with a seed of `width` bits, seed bit `width - 1` first, and taps `i` and
`width`. -/
def lfsrBits (width i seed n : Nat) : List Bool :=
  let first := msbBits width seed
  first.take n ++ lfsrRun i width (n - width) first.reverse

/-- The training seeds of a carrier's polarisations X and Y (R77). -/
def trainingSeed : Carrier → Bool → Nat
  | .a, false => 0x07FF
  | .a, true => 0x04D5
  | .b, false => 0x02B3
  | .b, true => 0x061C

/-- The pilot seeds of a carrier's polarisations X and Y (R77). -/
def pilotSeed : Carrier → Bool → Nat
  | .a, false => 0x7FFF
  | .a, true => 0x5A3C
  | .b, false => 0x3C5A
  | .b, true => 0x6E19

/-- A sign bit as +1 or -1. -/
def signOf (b : Bool) : Int := if b then -1 else 1

/-- Pair bits into real and imaginary signs. -/
def signPairs : List Bool → List (Int × Int)
  | a :: b :: rest => (signOf a, signOf b) :: signPairs rest
  | _ => []

/-- The 512 training symbols of a carrier and polarisation (R76); `true` is polarisation Y. -/
def trainingSymbols (c : Carrier) (y : Bool) : List (Int × Int) := signPairs (lfsrBits 11 9 (trainingSeed c y) 1024)

/-- The first `n` pilots of a carrier and polarisation (R77). -/
def pilotSymbols (c : Carrier) (y : Bool) (n : Nat) : List (Int × Int) := signPairs (lfsrBits 15 14 (pilotSeed c y) (2 * n))

/-- Pilot group of pilot `m` (R77). -/
def pilotGroup (m : Nat) : Nat := m / 64

/-- Pilots in group `g` (R77). -/
def pilotGroupSize (g : Nat) : Nat := if g = 255 then 56 else 64

/-! ## Header (R82-R84) -/

/-- The frame alignment word (R80). -/
def alignmentWord : BitVec 64 := 0xF6F628D3A5C093E7

/-- CRC-32C over H[127:32], first bit H[127] (R84). -/
def headerCheck (upper : Nat) : Nat := crcBits 32 0x1EDC6F41 0xFFFFFFFF 0xFFFFFFFF (msbBits 96 upper)

/-- FLAGS (R83). -/
def headerFlags (mode prot clock role carrier blanked : Nat) : Nat :=
  mode * 0x20 + prot * 0x10 + clock * 8 + role * 4 + carrier * 2 + blanked

/-- The header of an LF (R82). -/
def header (csf lfIdx keyIdx fill flags : Nat) : BitVec 128 :=
  let upper := (csf % csfMod) * 2 ^ 56 + (lfIdx % 64) * 2 ^ 50 + (keyIdx % 4) * 2 ^ 48 + (fill % 1024) * 2 ^ 38
    + (flags % 65536) * 2 ^ 22
  BitVec.ofNat 128 (upper * 2 ^ 32 + headerCheck upper)

/-- Fields of a received header (R82, R83). -/
def hdrCsf (h : BitVec 128) : Nat := h.toNat / 2 ^ 88
def hdrLfIdx (h : BitVec 128) : Nat := h.toNat / 2 ^ 82 % 64
def hdrKeyIdx (h : BitVec 128) : Nat := h.toNat / 2 ^ 80 % 4
def hdrFill (h : BitVec 128) : Nat := h.toNat / 2 ^ 70 % 1024
def hdrMode (h : BitVec 128) : Nat := h.toNat / 2 ^ 59 % 16
def hdrProt (h : BitVec 128) : Nat := h.toNat / 2 ^ 58 % 2
def hdrRole (h : BitVec 128) : Nat := h.toNat / 2 ^ 56 % 2
def hdrCarrier (h : BitVec 128) : Nat := h.toNat / 2 ^ 55 % 2
def hdrBlanked (h : BitVec 128) : Nat := h.toNat / 2 ^ 54 % 2

/-- The header passes its check (R84). -/
def hdrOk (h : BitVec 128) : Bool := headerCheck (h.toNat / 2 ^ 32) == h.toNat % 2 ^ 32

/-! ## Transmitting (R85-R89, R229) -/

/-- RPS is configured for 1+1 (R271, R287). -/
def onePlusOne (s : State) : Bool := s.get .rps RPS.CTL.MODE == 1

/-- The 132,096 bits of a line frame in transmission order, bit 0 most significant (R80): FAW, HDR, QLT, RSV sent as 0, the
slots and the tag. -/
def LineFrame.bits (f : LineFrame) : BitVec 132096 :=
  BitVec.ofNat 132096 (((((alignmentWord.toNat * 2 ^ 128 + f.hdr.toNat) * 2 ^ 64 + f.qlt.toNat) * 2 ^ 128) * 2 ^ 131584
    + f.payload.toNat) * 2 ^ 128 + f.tag.toNat)

/-- The payload of an LF: the data blocks in slots 0 to D - 1, then zero fill (R80, R87). -/
def slotPayload (blocks : List (BitVec 257)) : BitVec 131584 :=
  BitVec.ofNat 131584 ((blocks.foldl (fun a b => a * 2 ^ 257 + b.toNat) 0) * 2 ^ (257 * (512 - blocks.length)))

/-- The first `n` slots of a payload (R80). -/
def payloadSlots (p : BitVec 131584) (n : Nat) : List (BitVec 257) :=
  (List.range n).map fun i => BitVec.ofNat 257 (p.toNat / 2 ^ (257 * (511 - i)))

/-- The two framers of 1+1 run as a pair (R273). -/
def pairForms (s : State) : Bool := onePlusOne s && s.running (.lfm .a) && s.running (.lfm .b)

/-- The blocks LFM_x takes for the next LF: the D of R86, or in a 1+1 pair the D the other framer took for this LF (R273). -/
def takeBlocks (s : State) (c : Carrier) : State × List (BitVec 257) :=
  let f := s.framer.get c
  let pair := pairForms s
  let due := if pair then f.dues.head? else none
  let blocks := f.buffer.take (due.getD 512)
  let rest := f.buffer.drop (due.getD 512)
  let s := s.setFramer c { f with buffer := rest, dues := if pair then f.dues.tail else [] }
  let s := s.set (.lfm c) LFM.JUST_OCC.COUNT rest.length
  let g := s.framer.get c.other
  if pair && due.isNone then (s.setFramer c.other { g with dues := g.dues ++ [blocks.length] }, blocks) else (s, blocks)

/-- The next CSF_NO and LF_IDX (R85), CSF_WRAP on the wrap. -/
def advanceCsf (s : State) (c : Carrier) : State :=
  let i := txLfIdx s c
  if i = 63 then
    let n := txCsf s c
    let s := (s.set (.lfm c) LFM.TX_CSF_HI.LF_IDX 0).setPair (.lfm c) LFM.TX_CSF_LO.CSF LFM.TX_CSF_HI.CSF ((n + 1) % csfMod)
    s.raiseIf (n == csfMod - 1) (.lfm c) LFM.EVT.CSF_WRAP
  else s.set (.lfm c) LFM.TX_CSF_HI.LF_IDX (i + 1)

/-- The extremes of D over unblanked LFs (R95). -/
def noteRange (s : State) (c : Carrier) (d : Nat) : State :=
  (s.set (.lfm c) LFM.JUST_RANGE.MAX_DATA (max d (s.get (.lfm c) LFM.JUST_RANGE.MAX_DATA))).set (.lfm c)
    LFM.JUST_RANGE.MIN_DATA (min d (s.get (.lfm c) LFM.JUST_RANGE.MIN_DATA))

/-- LFM_x can form the next LF: it runs, and FEC_x takes its bits (R31). -/
def frameDue (s : State) (c : Carrier) : Bool := s.running (.lfm c) && encoderTakes s c

/-- KEY_IDX of the next LF (R85): the active slot at LF_IDX 0, and the same for the whole CSF. -/
def frameKey (s : State) (c : Carrier) : Nat :=
  if txLfIdx s c = 0 then s.get (.cry c) CRY.TX_STAT.ACTIVE_IDX else (s.framer.get c).keyIdx

/-- The guard releases an LF under a key index (R229). -/
def frameClear (s : State) (c : Carrier) (key : Nat) : Bool := guardReleases s c && txSlotState s c key == slotActive

/-- The FLAGS of the next LF (R83). -/
def frameFlags (s : State) (c : Carrier) (blanked : Bool) : Nat :=
  headerFlags (lineMode s c) (bit (onePlusOne s)) (bit (lockEnabled s)) (s.get .qlt QLT.STAT.ROLE_EFF) c.idx (bit blanked)

/-- The next LF: `blocks` sealed under key slot `key`, or the blanking pattern; `inband` is its Quolet word (R80, R89, R219).
-/
def buildFrame (s : State) (c : Carrier) (inband : BitVec 64) (blocks : List (BitVec 257)) (key : Nat) (clear : Bool) :
    LineFrame :=
  let h := header (txCsf s c) (txLfIdx s c) key (if clear then 512 - blocks.length else 512) (frameFlags s c (!clear))
  let k := txSlot s c key
  let body := if clear then
      Config.gcmSeal k.key (frameIv k.salt (txCsf s c) (txLfIdx s c) c.idx (s.get .qlt QLT.STAT.ROLE_EFF)) h
        (slotPayload blocks)
    else blankFrame
  ⟨h, inband, body.1, body.2⟩

/-- The counts and events of an LF sent with `d` data blocks (R89, R95, R96). -/
def countFrame (c : Carrier) (d : Nat) (clear first : Bool) (s : State) : State :=
  let s := (s.raiseIf (d == 512) (.lfm c) LFM.EVT.JUST_SAT).raiseIf first (.lfm c) LFM.EVT.BLANK_ON
  let s := s.addPair (.lfm c) LFM.TX_LF_LO.COUNT LFM.TX_LF_HI.COUNT 1
  if clear then noteRange (s.addPair (.lfm c) LFM.TX_DATA_LO.COUNT LFM.TX_DATA_HI.COUNT d) c d
  else s.bump (.lfm c) LFM.TX_BLANKED.COUNT

/-- LFM_x forms the next LF (R85-R89, R228, R229, R237), and its bits join the information stream of FEC_x (R79). -/
def formFrame (c : Carrier) (inband : BitVec 64) (s : State) : State :=
  if !frameDue s c then s
  else
    let s := takeActivation (missDeadline (expireOver s c false) c) c
    let s := if txLfIdx s c = 0 then encryptBoundary s c else s
    let taken := takeBlocks s c
    let s := taken.1
    let key := frameKey s c
    let clear := frameClear s c key
    let frame := buildFrame s c inband taken.2 key clear
    let f := s.framer.get c
    let s := s.setFramer c { f with lastBlanked := !clear, lastSent := some frame, keyIdx := key }
    let s := countFrame c taken.2.length clear (!clear && !f.lastBlanked) (sendInfo c frame.bits s)
    advanceCsf s c

/-! ## Page behaviour (R85, R94, R95, R230, R273, R331) -/

/-- The pages that latch `LFM_x.MODE` and gate its STOP (R94). -/
def carrierPages (c : Carrier) : List Page :=
  [.txp c, .cdc c, .eqz c, .trc c, .cpr c, .mls c, .dmp c, .fec c, .cry c]

/-- The line synthesiser of a carrier. -/
def carrierSyn : Carrier → Page
  | .a => .syn 0
  | .b => .syn 1

/-- LFM_x accepts STOP only while its carrier's pages are stopped (R94). -/
def lfmStopBad (s : State) (c : Carrier) : Bool := (carrierPages c ++ [carrierSyn c]).any fun p => !s.stopped p

/-- LFM_x refuses RUN (R94, R272): rates that differ under lock, modes that differ in 1+1. -/
def lfmRunBad (s : State) (c : Carrier) : Bool :=
  (lockEnabled s && symbolRate (lineMode s c) != symbolRate (lineMode s c.other))
  || (onePlusOne s && lineMode s c != lineMode s c.other)

/-- LFM_x enters starting (R85, R95, R217, R230, R273, R331). -/
def lfmStart (c : Carrier) (s : State) : State :=
  let s := s.clearAll (.lfm c)
    [LFM.TX_LF_LO.COUNT, LFM.TX_LF_HI.COUNT, LFM.TX_DATA_LO.COUNT, LFM.TX_DATA_HI.COUNT, LFM.TX_BLANKED.COUNT,
     LFM.JUST_OVF.COUNT, LFM.RX_LF_LO.COUNT, LFM.RX_LF_HI.COUNT, LFM.HCS_ERR.COUNT, LFM.FAW_ERR.COUNT,
     LFM.LOF_CNT.COUNT, LFM.MISMATCH.COUNT, LFM.FECBAD_LF.COUNT, LFM.RX_BLANKED.COUNT, LFM.SEQ_JUMP.COUNT,
     LFM.RX_DATA_LO.COUNT, LFM.RX_DATA_HI.COUNT, LFM.ECB_CNT.COUNT]
  let s := s.clearAll (.lfm c) [LFM.TX_CSF_LO.CSF, LFM.TX_CSF_HI.CSF, LFM.TX_CSF_HI.LF_IDX]
  let f := s.framer.get c
  let partnerRuns := s.running (.lfm c.other)
  let partnerStopped := s.stopped (.lfm c.other)
  let join := (lockEnabled s || onePlusOne s) && partnerRuns
  let pair := onePlusOne s && partnerStopped
  let s := s.setFramer c
    { f with lastBlanked := true, waitJoin := join, waitPair := pair, lastCount := none, dues := [] }
  let g := s.framer.get c.other
  let s := if onePlusOne s then s.setFramer c.other { g with waitPair := false } else s
  let s := invalidateTx s c 8
  admitPorts s c (lineMode s c)

/-- A start of LFM_x still waits for its partner. -/
def lfmWaits (s : State) (c : Carrier) : Bool := (s.framer.get c).waitJoin || (s.framer.get c).waitPair

/-- In 1+1 a framer that starts beside the other takes what its buffer holds, so that both send the same blocks (R273). -/
def copyBuffer (c : Carrier) (s : State) : State :=
  if onePlusOne s then
    let buffer := (s.framer.get c.other).buffer
    (s.setFramer c { s.framer.get c with buffer := buffer, dues := [] }).set (.lfm c) LFM.JUST_OCC.COUNT buffer.length
  else s

/-- A starting framer joins its running partner at the partner's CSF boundary (R85): its first LF carries the partner's
number and LF_IDX 0. -/
def joinPartner (c : Carrier) (s : State) : State :=
  if s.run (.lfm c) = .starting && (s.framer.get c).waitJoin && s.running (.lfm c.other) && txLfIdx s c.other == 0 then
    let s := copyBuffer c (s.setFramer c { s.framer.get c with waitJoin := false })
    let s := s.setFramer c.other { s.framer.get c.other with dues := [] }
    let s := s.setPair (.lfm c) LFM.TX_CSF_LO.CSF LFM.TX_CSF_HI.CSF (txCsf s c.other)
    (s.set (.lfm c) LFM.TX_CSF_HI.LF_IDX 0).setRun (.lfm c) .running
  else s

/-- Both framers are starting and run as a pair: in 1+1 (R273), or under carrier lock (R19). -/
def framersPair (s : State) : Bool :=
  (onePlusOne s || lockEnabled s) && s.run (.lfm .a) == .starting && s.run (.lfm .b) == .starting

/-- Two starting framers of a pair reach running together, with CSF_NO 0 (R19, R273). -/
def pairStart (s : State) : State :=
  if framersPair s && !lfmWaits s .a && !lfmWaits s .b then
    copyBuffer .b ((s.setRun (.lfm .a) .running).setRun (.lfm .b) .running)
  else s

/-- A write of CLR to JUST_RANGE (R95). -/
def clearRange (c : Carrier) (s : State) : State :=
  (s.set (.lfm c) LFM.JUST_RANGE.MAX_DATA 0).set (.lfm c) LFM.JUST_RANGE.MIN_DATA 512

/-- A write to `LFM_x.MODE` is out of range (R74). -/
def modeOutOfRange (new : Word) : Bool := decide (5 < extract new 0 4)

/-- A write to `LFM_x.MODE` conflicts with the partner's rate under lock (R94).  A reserved code has no symbol rate, so it
differs from the partner's and the conflict is found before its range (DESIGN CHOICE, log entry 78). -/
def modeConflict (s : State) (c : Carrier) (new : Word) : Bool :=
  lockEnabled s && !s.stopped (.lfm c.other) && symbolRate (extract new 0 4) != symbolRate (lineMode s c.other)

end Sys2Proof.Machine
end

