-- ==== Sys2Proof/Machine/TxPath.lean ====
section
/-! DEFINITION. Machine/TxPath.lean: chapter 04: mapping (R97-R99), the pilot channel (R101), skew (R104), the TX FIR and
its bank cross-fade (R105-R108), the DAC codes (R109), calibration (R111-R113), the output gate (R114), loop timing
(R115, R116), test patterns and error injection (R117, R118). -/
namespace Sys2Proof.Machine

open Sys2Proof (Word Carrier Page)

/-- Change the transmit DSP of a carrier. -/
def setTxDsp (s : State) (c : Carrier) (x : TxDsp) : State := { s with txDsp := s.txDsp.set c x }

/-- Lane state. -/
def txLane (s : State) (n : Fin 8) : TxLane := s.txLane.get n

/-- Replace a lane's state. -/
def putTxLane (s : State) (n : Fin 8) (x : TxLane) : State := { s with txLane := s.txLane.set n x }

/-- The four line lanes of a carrier, in tributary order XI, XQ, YI, YQ (R2). -/
def carrierLanes : Carrier → List (Fin 8)
  | .a => [0, 1, 2, 3]
  | .b => [4, 5, 6, 7]

/-- Tributary of a lane. -/
def tributary (n : Fin 8) : Nat := n.val % 4

/-- The synthesiser that clocks a carrier's lanes: under carrier lock the one SYN_SRC names (R16, R304). -/
def clockSyn (s : State) (c : Carrier) : Page :=
  if lockEnabled s then (if s.flag .glb GLB.LOCKCTL.SYN_SRC then .syn 1 else .syn 0) else carrierSyn c

/-- That synthesiser is locked. -/
def clockLocked (s : State) (c : Carrier) : Bool := s.flag (clockSyn s c) SYN.STAT.LOCK

/-! ## Mapping (R97-R99) -/

/-- Level of a tributary from its coded bits (R98): one bit, or sign and magnitude. -/
def tributaryLevel : List Bool → Int
  | [b] => 1 - 2 * (bit b : Int)
  | s :: m :: _ => (1 - 2 * (bit s : Int)) * (1 + 2 * (bit m : Int))
  | [] => 0

/-- The four tributary levels XI, XQ, YI, YQ of a payload period (R97). -/
def mapPayload (bits : List Bool) : List Int :=
  let w := bits.length / 4
  (List.range 4).map fun t => tributaryLevel ((bits.drop (t * w)).take w)

/-- The square of A_0 (R99): 5 in DP-16QAM, 1 in DP-QPSK. -/
def pilotPower (mode : Nat) : Nat := if bitsPerSymbol mode = 8 then 5 else 1

/-- A_p of R99 for a PILOT_BOOST in dB, in units of 2^-16 of a level, to the nearest unit. -/
def pilotLevel (mode boost : Nat) : Int :=
  roundUp ((if bitsPerSymbol mode = 8 then fixRootFive else fixOne) * fixDecibel (100 * boost)) (2 ^ 64)

/-! ## Symbol frames and the pilot channel (R100, R101) -/

/-- Where the next symbol period waits for the start of a pilot group, or of a symbol frame (R75, R77): 512 training periods,
then 4,096 periods for each group begun, of which the last has 3,584. -/
def syfLimit (d : TxDsp) : Nat := if d.framed then min (512 + 4096 * d.group) syfPeriods else 0

/-- TXP_x runs and its next period is period 0 of a symbol frame. -/
def syfReady (s : State) (c : Carrier) : Bool :=
  let d := s.txDsp.get c
  s.running (.txp c) && (!d.framed || d.pos == syfPeriods)

/-- A symbol frame begins (R75, R120). -/
def syfBegin (c : Carrier) (s : State) : State :=
  setTxDsp (s.addWrap (.txp c) TXP.SYF_CNT.COUNT 1) c { s.txDsp.get c with group := 0, pos := 0, framed := true }

/-- The other carrier's transmit DSP runs, or is about to, under carrier lock (R100). -/
def syfPartner (s : State) (c : Carrier) : Bool :=
  lockEnabled s && (s.running (.txp c.other) || s.run (.txp c.other) == .starting)

/-- TXP_x starts a symbol frame (R100): under carrier lock both start theirs on the same symbol block. -/
def syfStart (c : Carrier) (s : State) : State :=
  if !syfReady s c then s
  else if syfPartner s c then (if syfReady s c.other then syfBegin c.other (syfBegin c s) else s)
  else syfBegin c s

/-- Show the FIFO's occupancy. -/
def putFifo (s : State) (c : Carrier) (bits : List Bool) : State :=
  (setTxDsp s c { s.txDsp.get c with fifo := bits }).set (.txp c) TXP.PCH_CTL.FILL bits.length

/-- The next symbol period of a carrier is the first of a pilot group. -/
def groupDue (s : State) (c : Carrier) : Bool :=
  let d := s.txDsp.get c
  s.running (.txp c) && d.framed && d.pos == syfLimit d && decide (d.pos < syfPeriods)

/-- The start of a pilot group (R101). -/
def pilotGroupSign (c : Carrier) (s : State) : State :=
  if !groupDue s c then s
  else
    let d := s.txDsp.get c
    let next := { d with group := d.group + 1 }
    if !s.flag (.txp c) TXP.PCH_CTL.EN then setTxDsp s c { next with minus := false }
    else
      match d.fifo with
      | [] =>
        ((setTxDsp s c { next with minus := false }).bump (.txp c) TXP.PCH_CTL.UNDERRUN).raise (.txp c) TXP.EVT.PCH_UNDERRUN
      | b :: bs => putFifo (setTxDsp s c { next with minus := b }) c bs

/-- A write to PCH_DATA does not fit (R101). -/
def pchFull (s : State) (c : Carrier) : Bool := decide (1024 < (s.txDsp.get c).fifo.length + 32)

/-- A write to PCH_DATA appends 32 bits, bit 0 first (R101). -/
def pchAppend (c : Carrier) (w : Word) (s : State) : State :=
  putFifo s c ((s.txDsp.get c).fifo ++ lsbBits 32 w.toNat)

/-- CLR of PCH_CTL empties the FIFO and clears UNDERRUN (R120). -/
def pchClear (c : Carrier) (s : State) : State := (putFifo s c []).set (.txp c) TXP.PCH_CTL.UNDERRUN 0

/-! ## Skew (R104, R153) -/

/-- One step of an applied skew toward its target, at most 0.1 ps. -/
def skewToward (applied target : Int) : Int :=
  if applied < target then applied + 1 else if target < applied then applied - 1 else applied

/-- At a symbol block boundary the four applied skews of TXP_x or TRC_x move toward their targets. -/
def skewSlew (c : Carrier) (receive : Bool) (s : State) : State :=
  let p : Page := if receive then .trc c else .txp c
  let a := if receive then TRC.SKEW.APPLIED else TXP.SKEW.APPLIED
  let t := if receive then TRC.SKEW.TARGET else TXP.SKEW.TARGET
  if s.running p then
    (List.range 4).foldl (fun s i => s.setInt p (a.at i) (skewToward (s.getInt p (a.at i)) (s.getInt p (t.at i)))) s
  else s

/-! ## Bank cross-fade (R106-R108), shared in form with EQZ_x (R159) -/

/-- The fields of a cross-fade register and the events it raises. -/
structure FadeRegs where
  refused : Field
  log2 : Field
  held : Field
  fading : Field
  target : Field
  active : Field
  done : Nat
  refusal : Nat

/-- Those of TXP_x. -/
def txFade : FadeRegs :=
  ⟨TXP.FIR_XFADE.REFUSED, TXP.FIR_XFADE.LOG2_BLOCKS, TXP.FIR_XFADE.HELD, TXP.FIR_XFADE.FADING, TXP.FIR_XFADE.TARGET,
    TXP.FIR_XFADE.ACTIVE, TXP.EVT.XFADE_DONE, TXP.EVT.XFADE_REFUSED⟩

/-- A fade starts from the active bank to the other. -/
def fadeBegin (r : FadeRegs) (p : Page) (s : State) : State :=
  (s.set p r.fading 1).set p r.target (1 - s.get p r.active)

/-- A swap request (R106, R107): it starts, is held, or is refused. -/
def fadeRequest (r : FadeRegs) (p : Page) (s : State) : State :=
  if !s.flag p r.fading then fadeBegin r p s
  else if !s.flag p r.held then s.set p r.held 1
  else (s.bump p r.refused).raise p r.refusal

/-- The last fade block ends (R106, R107): ACTIVE takes the target, a held request starts. -/
def fadeEnd (r : FadeRegs) (p : Page) (s : State) : State :=
  if s.flag p r.fading then
    let s := ((s.set p r.active (s.get p r.target)).set p r.fading 0).raise p r.done
    if s.flag p r.held then fadeBegin r p (s.set p r.held 0) else s
  else s

/-- A fade runs or a request is held. -/
def fadeBusy (r : FadeRegs) (p : Page) (s : State) : Bool := s.flag p r.fading || s.flag p r.held

/-- A fade of TXP_x starts at the next symbol block with LOG2_BLOCKS as it stands (R106). -/
def fadeApplied (c : Carrier) (s : State) : State :=
  let d := s.txDsp.get c
  setTxDsp s c { d with fadeLog2 := s.get (.txp c) TXP.FIR_XFADE.LOG2_BLOCKS, fadeStart := d.blocks }

/-- A SWAP strobe to TXP_x (R106). -/
def txFirSwap (c : Carrier) (s : State) : State :=
  let t := fadeRequest txFade (.txp c) s
  if !s.flag (.txp c) TXP.FIR_XFADE.FADING then fadeApplied c t else t

/-- Every block of the running fade has been formed (R106). -/
def fadeOver (s : State) (c : Carrier) : Bool :=
  let d := s.txDsp.get c
  decide (d.fadeStart + 2 ^ d.fadeLog2 ≤ d.blocks)

/-- A TX FIR fade ends after its last block (R106, R107). -/
def txXfadeEnd (c : Carrier) (s : State) : State :=
  if fadeOver s c then fadeApplied c (fadeEnd txFade (.txp c) s) else s

/-- A write to a FIR coefficient is refused with MODE_CONFLICT (R108). -/
def firConflict (s : State) (n : Fin 8) (off : Nat) : Bool :=
  let p : Page := .txp (laneCarrier n)
  let bank0 := 0x80 ≤ off ∧ off ≤ 0xA0
  let bank1 := 0xC0 ≤ off ∧ off ≤ 0xE0
  s.running p && (decide (bank0 ∨ bank1))
    && (fadeBusy txFade p s
      || (if s.flag p TXP.FIR_XFADE.ACTIVE then decide bank1 else decide bank0))

/-! ## DAC codes (R105, R109) -/

/-- The nine taps of a bank, in units of 1/256. -/
def firTaps (s : State) (n : Fin 8) (bank : Nat) : List Int :=
  (List.range 9).map fun k => s.getInt (.ltx n) ((if bank = 0 then LTX.FIR0_T.COEF else LTX.FIR1_T.COEF).at k)

/-- The FIR output at the newest of nine samples, given newest first.  DESIGN CHOICE (log entry 78): R105 names tap 4 the centre
and gives the others no direction; tap 0 multiplies the newest sample. -/
def firDot (taps window : List Int) : Int := (List.zipWith (· * ·) taps window).foldl (· + ·) 0

/-- FIR outputs over a run of samples, oldest first, with the newest-first history `h` before them. -/
def firRun (taps : List Int) : List Int → List Int → List Int
  | _, [] => []
  | h, x :: xs =>
    let w := (x :: h).take 9
    firDot taps w :: firRun taps w xs

/-- The DAC code of a FIR output mixed as `(m - j) * yOld + j * yNew` over `m` (R106, R109), before clamping.  Samples
are in units of 2^-16 of a tributary level, taps in 1/256, the gain in 1/64. -/
def dacValue (gain m j : Nat) (yOld yNew : Int) : Int :=
  0x80 + roundUp (gain * ((m - j : Int) * yOld + (j : Int) * yNew)) (64 * 256 * 65536 * m)

/-- Clamp a DAC code (R109). -/
def dacClamp (v : Int) : Nat := (clamp 0 0xFF v).toNat

/-- The unclamped DAC values of a block, with the eight samples before it (R105, R106, R109). -/
def dacValues (s : State) (n : Fin 8) (history : List Int) (b : ShapedBlock) : List Int :=
  let gain := s.get (.ltx n) LTX.GAIN.GAIN
  List.zipWith (dacValue gain b.den b.num) (firRun (firTaps s n b.old) history b.samples)
    (firRun (firTaps s n b.new) history b.samples)

/-- A byte of the pattern RAM. -/
def pramSample (x : TxLane) (k : Nat) : Nat :=
  extract (sparseRead (fun _ => 0x80808080) x.pram (k / 4)) (8 * (k % 4)) 8

/-- Number of the first sample of symbol block `k` (R110): sample n belongs to block floor(5n/1536). -/
def firstSample (k : Nat) : Nat := (1536 * k + 4) / 5

/-- Samples of symbol block `k` (R110): 308, 307, 307, 307, 307 in turn. -/
def blockSamples (k : Nat) : Nat := firstSample (k + 1) - firstSample k

/-- The zero code for the samples of a block (R109, R110). -/
def zeroBlock (k : Nat) : List Nat := List.replicate (blockSamples k) 0x80

/-- Depth of a transmit egress EB in symbol blocks (R30). -/
def egressDepth : Nat := 40

/-- A lane's DAC codes of a block (R109, R117): the constant code, the pattern RAM, or the shaped samples, and whether one of
those was clamped. -/
def laneCodes (s : State) (n : Fin 8) (b : ShapedBlock) : List Nat × Bool :=
  let x := txLane s n
  let m := b.samples.length
  if x.patMode = 3 then (List.replicate m (s.get (.ltx n) LTX.PAT_CODE.CODE), false)
  else if x.patMode = 4 then ((List.range m).map (fun i => pramSample x ((x.ramPos + i) % 8192)), false)
  else
    let vs := dacValues s n x.history b
    (vs.map dacClamp, vs.any fun v => decide (v < 0) || decide (0xFF < v))

/-- A lane forms the DAC codes of its next symbol block into its egress EB, where there is room (R30, R31, R105-R109, R117); a
block that the DAC was due before is dropped (R33).  A clamped block is counted while LTXn runs.  DESIGN CHOICE (log entry 78):
R109 counts codes, so a block counts whether or not the gate lets it out, and CODE and RAM, which clamp nothing, never count. -/
def dacBlock (n : Fin 8) (s : State) : State :=
  let x := txLane s n
  match x.shaped with
  | [] => s
  | b :: rest =>
    if egressDepth ≤ x.egress.length then s
    else
      let r := laneCodes s n b
      let late := decide (b.number < (s.txDsp.get (laneCarrier n)).due)
      let s := putTxLane s n { x with
        shaped := rest
        history := (b.samples.reverse ++ x.history).take 8
        ramPos := if x.patMode = 4 then (x.ramPos + b.samples.length) % 8192 else x.ramPos
        egress := if late then x.egress else x.egress ++ [(b.number, r.1)] }
      if r.2 && s.running (.ltx n) then (s.bump (.ltx n) LTX.CLIP_CNT.COUNT).raise (.ltx n) LTX.EVT.CLIP else s

/-- The four DACs of a carrier start reading once every egress EB holds 20 blocks (R111). -/
def dacStart (c : Carrier) (s : State) : State :=
  if s.running (.txp c) && !(s.txDsp.get c).reading
      && (carrierLanes c).all (fun n => decide (20 ≤ (txLane s n).egress.length)) then
    setTxDsp s c { s.txDsp.get c with reading := true }
  else s

/-- The egress EB of a lane holds block `k`. -/
def blockHeld (s : State) (k : Nat) (n : Fin 8) : Bool :=
  match (txLane s n).egress with
  | b :: _ => b.1 == k
  | [] => false

/-- A lane puts out the codes of block `k` behind an open gate, else the zero code (R114, R119); the block leaves its EB. -/
def laneOut (k : Nat) (slip : Bool) (s : State) (n : Fin 8) : State :=
  let x := txLane s n
  let codes := match x.egress with
    | b :: _ => if slip || !s.flag (.ltx n) LTX.STAT.GATE || !s.running (.ltx n) then zeroBlock k else b.2
    | [] => zeroBlock k
  putTxLane s n { x with codes := codes, egress := x.egress.filter fun b => decide (k < b.1) }

/-- The DACs of a carrier are done with the block they needed. -/
def blockOut (c : Carrier) (slip : Bool) (s : State) : State :=
  let k := (s.txDsp.get c).due
  let s := (carrierLanes c).foldl (laneOut k slip) s
  setTxDsp s c { s.txDsp.get c with due := k + 1 }

/-- A transmit slip (R33): the zero code for the block on all four lanes, counted.  Its coded bits are consumed, for TXP_x still
forms the block (R202). -/
def txSlip (c : Carrier) (s : State) : State :=
  if s.running (.txp c) then
    let s := if (s.txDsp.get c).reading then blockOut c true s else s
    ((s.bump (.txp c) TXP.SLIP_CNT.COUNT).raise (.txp c) TXP.EVT.TX_SLIP).noteSlip.countFabric (0x67 + c.idx) 1
  else s

/-- The DACs of a carrier need a symbol block (R33, R111): each reads it from its egress EB; when an EB does not hold it, the
block is a transmit slip. -/
def dacInstant (c : Carrier) (s : State) : State :=
  let d := s.txDsp.get c
  if !s.running (.txp c) || !d.reading then s
  else if (carrierLanes c).all (blockHeld s d.due) then blockOut c false s
  else txSlip c s

/-! ## Calibration (R112, R113) -/

/-- Foreground calibration of the carrier's lanes begins (R112). -/
def fgCalStart (c : Carrier) (s : State) : State :=
  if clockLocked s c then
    (carrierLanes c).foldl (fun s n =>
      if s.running (.ltx n) && !s.flag (.ltx n) LTX.STAT.GATE && !(txLane s n).fgDone then
        s.set (.ltx n) LTX.STAT.CAL_FG 1
      else s) s
  else s

/-- A trim of a lane beside its segments (R112, R113): gain and offset of sub-DACs 0 to 3, phase and duty cycle of the
multiplexer, as items 0 to 9. -/
def muxTrim (s : State) (n : Fin 8) (k : Nat) : Int := sparseRead (fun _ => 0) (txLane s n).trims k

/-- Items of the multiplexer's phase. -/
def muxPhase : Nat := 8

/-- Such a trim is measured twice and accepted or kept under the repeat-agreement rule (R112, R113, R497); the spec states no
tolerance and no step for it. -/
def muxAgree (k : Nat) (m : Int × Int) : Bool := decide ((m.1 - m.2).natAbs ≤ Config.muxTolerance k)
def muxMeasure (n : Fin 8) (k : Nat) (m : Int × Int) (s : State) : State :=
  if muxAgree k m then
    putTxLane s n { txLane s n with
      trims := sparseWrite (fun _ => 0) (txLane s n).trims k (roundTiesToZero (m.1 + m.2) (2 * (Config.muxStep k + 1))) }
  else s

/-- A rejected trim of LTXn (R113). -/
def ltxReject (n : Fin 8) (detail : Nat) (s : State) : State :=
  (s.errlog (.ltx n) 1 detail).raise (.ltx n) LTX.EVT.CAL_FAIL

/-- Foreground calibration of the carrier's lanes completes (R112).  `ms` holds, for each lane, the measurement pairs of its 64
segments and then of its ten other trims. -/
def fgCalDone (c : Carrier) (ms : List (List (Int × Int))) (s : State) : State :=
  (carrierLanes c).foldl (fun s n =>
    if s.flag (.ltx n) LTX.STAT.CAL_FG then
      let m := ms.getD (tributary n) []
      let s := calMeasureAll 4 n.val (m.take 64) s
      let s := (List.range (min 10 (m.length - 64))).foldl (fun s k => muxMeasure n k (m.getD (64 + k) (0, 0)) s) s
      let s := putTxLane (s.set (.ltx n) LTX.STAT.CAL_FG 0) n { txLane s n with fgDone := true }
      s.raise (.ltx n) LTX.EVT.CAL_DONE
    else s) s

/-- A background calibration step ends (R113): the segment under measurement is accepted or rejected, the multiplexer's phase is
tracked from the replica sampler's pair `mux`, and the spare moves on; a lap is 64 steps. -/
def bgCalStep (n : Fin 8) (m1 m2 : Int) (mux : Int × Int) (s : State) : State :=
  if s.flag (.ltx n) LTX.STAT.GATE then
    let sub := s.get (.ltx n) LTX.STAT.SPARE_SUB
    let pos := s.get (.ltx n) LTX.STAT.SPARE_POS
    let s := calMeasure 4 n.val (16 * sub + pos) m1 m2 s
    let s := if calAgree 4 (16 * sub + pos) m1 m2 then s else ltxReject n (16 * sub + pos) s
    let s := if muxAgree muxPhase mux then muxMeasure n muxPhase mux s else ltxReject n (16 * sub + pos) s
    let s := s.set (.ltx n) LTX.STAT.SPARE_POS (pos + 1)
    if pos = 15 then
      (s.set (.ltx n) LTX.STAT.SPARE_SUB (sub + 1)).raiseIf (sub == 3) (.ltx n) LTX.EVT.CAL_DONE
    else s
  else s

/-! ## The output gate (R114) -/

/-- Sequencer state of a carrier in FES (R291). -/
def fesState (s : State) (c : Carrier) : Nat :=
  s.get .fes (if c = .a then FES.STAT_A.STATE else FES.STAT_B.STATE)

/-- The sequencer is in TX_ON, RX_ACQ or LOCKED. -/
def fesEmits (s : State) (c : Carrier) : Bool := decide (5 ≤ fesState s c) && decide (fesState s c ≤ 7)

/-- The Plinth reports the carrier's payload as encrypted or blanked (R114).  The guard of R229 lets nothing else out:
what is not released as ciphertext is blanked, whatever state CRY_x is in. -/
def payloadSafe (_ : State) (_ : Carrier) : Bool := true

/-- The gate of a lane is open (R114). -/
def gateOpen (s : State) (n : Fin 8) : Bool :=
  let c := laneCarrier n
  s.running (.ltx n) && s.running (.txp c) && (txLane s n).fgDone && fesEmits s c && payloadSafe s c

/-- A lane's gate opens or closes (R114): the change is shown and raised, and background calibration runs with it (R113). -/
def setGate (s : State) (n : Fin 8) (now : Bool) : State :=
  let c := laneCarrier n
  if s.flag (.ltx n) LTX.STAT.GATE == now then s
  else
    let g := s.get (.txp c) TXP.STAT.GATE
    let s := (s.setFlag (.ltx n) LTX.STAT.GATE now).setFlag (.ltx n) LTX.STAT.CAL_BG now
    let s := s.set (.txp c) TXP.STAT.GATE (if now then setBit g (tributary n) else clearBit g (tributary n))
    s.raise (.txp c) TXP.EVT.GATE_CHANGE

/-- A stopped lane outputs the zero code (R119). -/
def laneZero (s : State) (n : Fin 8) : State :=
  let s := setGate s n false
  putTxLane s n { txLane s n with codes := (txLane s n).codes.map fun _ => 0x80 }

/-- The gates of a carrier's lanes follow their conditions at a symbol block boundary (R114). -/
def gateChange (c : Carrier) (s : State) : State :=
  (carrierLanes c).foldl (fun s n => setGate s n (gateOpen s n)) s

/-- Every gate of the carrier is closed. -/
def gatesClosed (s : State) (c : Carrier) : Bool := s.get (.txp c) TXP.STAT.GATE == 0

/-! ## Loop timing (R115, R116) -/

/-- The carrier whose synthesiser clocks carrier `c`. -/
def clockCarrier (s : State) (c : Carrier) : Carrier :=
  if lockEnabled s then (if s.flag .glb GLB.LOCKCTL.SYN_SRC then .b else .a) else c

/-- FREQ_OFS of a carrier's TRC_x while it has lock. -/
def trcEstimate (s : State) (c : Carrier) : Option Int :=
  if s.flag (.trc c) TRC.STAT.LOCK then some (s.getInt (.trc c) TRC.FREQ_OFS.OFS) else none

/-- The frequency offset that loop timing follows, in 0.001 ppm (R115): that of TRC_x; in LOCKED that of the joint recovery of
R20, to which both timing errors count alike; otherwise under lock that of the carrier SYN_SRC names (R116).  DEDUCED, log entry
81. -/
def timingEstimate (s : State) (c : Carrier) : Option Int :=
  if lockEnabled s && s.get .glb GLB.LOCKSTAT.STATE == lockLocked then
    match trcEstimate s .a, trcEstimate s .b with
    | some a, some b => some ((a + b) / 2)
    | some a, none => some a
    | none, b => b
  else trcEstimate s (clockCarrier s c)

/-- There is no estimate within the pull range: no lock, or beyond 100 ppm (R115, R116). -/
def timingUnusable (s : State) (c : Carrier) : Bool :=
  match timingEstimate s c with
  | none => true
  | some f => decide (100000 < f.natAbs)

/-- Rate of a line synthesiser in kHz: 1.2 times the symbol rate of the carrier's mode, off by an offset in 0.001 ppm (R115,
R302). -/
def synKhz (mode : Nat) (ofs : Int) : Nat := (roundUp (1200000 * symbolRate mode * (1000000000 + ofs)) 1000000000).toNat

/-- The synthesiser that clocks carrier `c` runs at an offset from the LREF-derived rate. -/
def steerSyn (c : Carrier) (ofs : Int) (s : State) : State :=
  let d := clockCarrier s c
  let s := setTxDsp s d { s.txDsp.get d with synOfs := ofs }
  if s.running (carrierSyn d) then s.set (carrierSyn d) SYN.FREQ.KHZ (synKhz (lineMode s d) ofs) else s

/-- SYN_x follows the measured frequency for one symbol block, with the bandwidth of LOOP_BW (R115). -/
def loopFollow (c : Carrier) (s : State) : State :=
  match timingEstimate s c with
  | some f =>
    if s.running (.txp c) && s.flag (.txp c) TXP.STAT.LOOP_TRACK && !timingUnusable s c then
      let d := clockCarrier s c
      steerSyn c (clamp (-100000) 100000 (Config.loopStep (s.get (.txp c) TXP.CTL.LOOP_BW) (symbolRate (lineMode s c))
        (s.txDsp.get d).synOfs f)) s
    else s
  | none => s

/-- SYN_x enters holdover at the frequency it averaged over the last 1 ms (R116), in 0.001 ppm. -/
def holdover (c : Carrier) (average : Int) (s : State) : State :=
  if s.running (.txp c) && s.flag (.txp c) TXP.CTL.TIMING_SRC && timingUnusable s c
      && !s.flag (.txp c) TXP.STAT.HOLDOVER then
    let s := steerSyn c (clamp (-100000) 100000 average) s
    ((s.set (.txp c) TXP.STAT.HOLDOVER 1).set (.txp c) TXP.STAT.LOOP_TRACK 0).raise (.txp c) TXP.EVT.HOLDOVER
  else s

/-- TRC_x has held lock for 1 ms (R116). -/
def loopResume (c : Carrier) (s : State) : State :=
  if s.running (.txp c) && s.flag (.txp c) TXP.CTL.TIMING_SRC && !timingUnusable s c then
    (s.set (.txp c) TXP.STAT.HOLDOVER 0).set (.txp c) TXP.STAT.LOOP_TRACK 1
  else s

/-! ## Patterns and injection (R117, R118) -/

/-- Degree of a polynomial code. -/
def prbsDegree (poly : Nat) : Nat :=
  match poly with
  | 0 => 7 | 1 => 9 | 2 => 13 | 3 => 15 | 4 => 23 | _ => 31

/-- The delays whose bits a polynomial adds (R117). -/
def prbsTaps (poly : Nat) : List Nat :=
  match poly with
  | 0 => [7, 6] | 1 => [9, 5] | 2 => [13, 12, 2, 1] | 3 => [15, 14] | 4 => [23, 18] | _ => [31, 28]

/-- The next bit of a PRBS register whose bit i is the bit i + 1 places back. -/
def prbsBit (poly reg : Nat) : Bool := (prbsTaps poly).foldl (fun b d => b != testBit reg (d - 1)) false

/-- Shift a bit into a PRBS register. -/
def prbsShift (poly reg : Nat) (b : Bool) : Nat := (2 * reg + bit b) % 2 ^ prbsDegree poly

/-- `n` bits of a PRBS and the register after them. -/
def prbsRun (poly : Nat) : Nat → Nat → List Bool × Nat
  | 0, reg => ([], reg)
  | n + 1, reg =>
    let b := prbsBit poly reg
    let r := prbsRun poly n (prbsShift poly reg b)
    (b :: r.1, r.2)

/-- The lane takes PAT_CTL.MODE at a symbol block boundary (R117); the generator loads PAT_SEED on a change into PRBS. -/
def patternMode (n : Fin 8) (s : State) : State :=
  let x := txLane s n
  let m := s.get (.ltx n) LTX.PAT_CTL.MODE
  if x.patMode = m then s
  else
    let seed := s.get (.ltx n) LTX.PAT_SEED.SEED % 2 ^ prbsDegree (s.get (.ltx n) LTX.PAT_CTL.POLY)
    putTxLane s n { x with patMode := m, prbs := if m = 1 then seed else x.prbs, square := 0, ramPos := 0 }

/-- Tributaries selected for injection. -/
def injectLanes (s : State) (c : Carrier) : Nat :=
  countTrue ((List.range 4).map fun t => testBit (s.get (.txp c) TXP.INJ_CTL.LANES) t)

/-- A SINGLE strobe waits for the next target unit (R118). -/
def injectSingle (c : Carrier) (s : State) : State :=
  let d := s.txDsp.get c
  setTxDsp s c { d with single := d.single + 1 }

/-- A periodic injection falls due (R118): it is made on the unit that completes the period. -/
def injectPeriodic (c : Carrier) (s : State) : State :=
  let d := s.txDsp.get c
  if s.running (.txp c) && s.get (.txp c) TXP.INJ_CTL.MODE == 1 then setTxDsp s c { d with armed := d.armed + 1 } else s

/-! ## Page behaviour (R119-R121) -/

/-- The pattern RAM word PRAM_DATA shows. -/
def pramWord (s : State) (n : Fin 8) : Word :=
  sparseRead (fun _ => 0x80808080) (txLane s n).pram (s.get (.ltx n) LTX.PRAM_IDX.INDEX)

/-- INDEX advances after an access to PRAM_DATA (R121). -/
def pramAdvance (n : Fin 8) (s : State) : State := s.addWrap (.ltx n) LTX.PRAM_IDX.INDEX 1

/-- A write to PRAM_DATA (R121). -/
def pramWrite (n : Fin 8) (w : Word) (s : State) : State :=
  let x := txLane s n
  let i := s.get (.ltx n) LTX.PRAM_IDX.INDEX
  pramAdvance n (putTxLane s n { x with pram := sparseWrite (fun _ => 0x80808080) x.pram i w })

/-- TXP_x refuses RUN under carrier lock when the timing sources differ (R116). -/
def txpRunBad (s : State) (c : Carrier) : Bool :=
  lockEnabled s && s.flag (.txp c) TXP.CTL.TIMING_SRC != s.flag (.txp c.other) TXP.CTL.TIMING_SRC

/-- TXP_x enters starting (R119): its counters clear. -/
def txpStart (c : Carrier) (s : State) : State :=
  let s := s.clearAll (.txp c)
    [TXP.SYF_CNT.COUNT, TXP.SLIP_CNT.COUNT, TXP.FIR_XFADE.REFUSED, TXP.PCH_CTL.UNDERRUN, TXP.INJ_CNT.COUNT,
     TXP.STAT.HOLDOVER, TXP.STAT.LOOP_TRACK]
  let s := setTxDsp s c { s.txDsp.get c with
    group := 0, minus := false, reading := false, framed := false, pos := 0, units := 0, armed := 0, blocks := 0
    window := [], fadeStart := 0, due := 0 }
  let s := (carrierLanes c).foldl (fun s n =>
    putTxLane s n { txLane s n with shaped := [], history := [], egress := [] }) s
  if clockCarrier s c = c then steerSyn c 0 s else s

/-- TXP_x leaves running at the end of a symbol block (R119): from the next block its lanes output the zero code, and the DACs
wait for 20 blocks again. -/
def txpStop (c : Carrier) (s : State) : State :=
  (carrierLanes c).foldl laneZero (setTxDsp s c { s.txDsp.get c with reading := false })

/-- LTXn enters starting. -/
def ltxStart (n : Fin 8) (s : State) : State := s.set (.ltx n) LTX.CLIP_CNT.COUNT 0

/-- LTXn leaves running (R112, R119): a calibration in progress is abandoned, and the lane outputs the zero code. -/
def ltxStop (n : Fin 8) (s : State) : State :=
  let s := laneZero (s.set (.ltx n) LTX.STAT.CAL_FG 0) n
  putTxLane s n { txLane s n with fgDone := false }

/-- Writes TXP_x refuses with OUT_OF_RANGE (R101, R120). -/
def txpWriteBad (s : State) (c : Carrier) (off : Nat) (new : Word) : Bool :=
  if off = TXP.CTL.LOOP_BW.off then extract new 6 2 == 3
  else if off = TXP.FIR_XFADE.SWAP.off then decide (10 < extract new 8 4)
  else if off = TXP.PCH_DATA.BITS.off then pchFull s c
  else if off = TXP.INJ_CTL.MODE.off then
    decide (extract new 16 6 < 4) || decide (40 < extract new 16 6) || extract new 10 2 == 3 || decide (1 < extract new 0 2)
  else false

/-- Writes LTXn refuses with OUT_OF_RANGE (R121). -/
def ltxWriteBad (off : Nat) (new : Word) : Bool :=
  if off = LTX.PAT_CTL.MODE.off then decide (5 < extract new 3 3) || decide (4 < extract new 0 3)
  else if off = LTX.PAT_SEED.SEED.off then extract new 0 31 == 0
  else false

/-- Writes LTXn refuses with MODE_CONFLICT (R108, R121).  DESIGN CHOICE (log entry 78): "the same way" of R108 is read as the
refusal of a write that would change a coefficient, so that a write of the present value, which changes nothing under R54, is
not refused during a fade either. -/
def ltxConflict (s : State) (n : Fin 8) (off : Nat) (old new : Word) : Bool :=
  (off == LTX.PRAM_DATA.SAMPLES.off && s.get (.ltx n) LTX.PAT_CTL.MODE == 4)
  || (firConflict s n off && extract old 0 10 != extract new 0 10)

/-- An accepted write to TXP_x. -/
def txpWritten (c : Carrier) (off : Nat) (new : Word) (s : State) : State :=
  if off = TXP.FIR_XFADE.SWAP.off then (if extract new 4 1 = 1 then txFirSwap c s else s)
  else if off = TXP.PCH_CTL.CLR.off then (if extract new 31 1 = 1 then pchClear c s else s)
  else if off = TXP.PCH_DATA.BITS.off then pchAppend c new s
  else if off = TXP.INJ_CTL.SINGLE.off then (if extract new 2 1 = 1 then injectSingle c s else s)
  else s

/-- An accepted write to LTXn. -/
def ltxWritten (n : Fin 8) (off : Nat) (new : Word) (s : State) : State :=
  if off = LTX.PRAM_DATA.SAMPLES.off then pramWrite n new s else s

end Sys2Proof.Machine
end

