-- ==== Sys2Proof/Machine/TxStream.lean ====
section
/-! DEFINITION. Machine/TxStream.lean: steps 1 to 8 of the transmit DSP (chapter 04) over one symbol block of 256 periods:
symbol framing (R75, R78), mapping (R97-R99), group signs (R101), patterns (R117), error injection (R118), shaping (R102), IQ
pre-compensation (R103) and skew (R104). -/
namespace Sys2Proof.Machine

open Sys2Proof (Carrier Page)

/-! ## Symbol framing and mapping (R75-R78, R97-R99, R118) -/

/-- What the mapping of a symbol block takes from the registers: the mode, A_p, the training and pilot signs of X and Y, the
group sign, and the injection settings. -/
structure MapJob where
  mode : Nat
  pilot : Int
  trainX : List (Int × Int)
  trainY : List (Int × Int)
  pilotX : List (Int × Int)
  pilotY : List (Int × Int)
  sign : Int
  periodic : Bool
  target : Nat
  rateLog2 : Nat
  lanes : Nat

/-- The progress of a block: the next period, the encoder, the injection counts, and the periods mapped, newest first: four
levels in units of 2^-16 and whether injection inverts the selected tributaries. -/
structure MapRun where
  pos : Nat
  encoder : Encoder
  units : Nat
  single : Nat
  armed : Nat
  injected : Nat
  periods : List (List Int × Bool)

/-- The job of a carrier's next block. -/
def mapJob (s : State) (c : Carrier) : MapJob :=
  let mode := lineMode s c
  { mode := mode
    pilot := pilotLevel mode (s.get (.txp c) TXP.CTL.PILOT_BOOST)
    trainX := trainingSymbols c false
    trainY := trainingSymbols c true
    pilotX := pilotSymbols c false 16376
    pilotY := pilotSymbols c true 16376
    sign := if (s.txDsp.get c).minus then -1 else 1
    periodic := s.get (.txp c) TXP.INJ_CTL.MODE == 1 && injectLanes s c != 0
    target := s.get (.txp c) TXP.INJ_CTL.TARGET
    rateLog2 := s.get (.txp c) TXP.INJ_CTL.RATE_LOG2
    lanes := injectLanes s c }

/-- The levels of a training or pilot symbol of signs `x` and `y` at amplitude `a`. -/
def signLevels (a : Int) (x y : Int × Int) : List Int := [a * x.1, a * x.2, a * y.1, a * y.2]

/-- A role is the target unit of INJ_CTL.TARGET (R118). -/
def isTarget (target : Nat) : PeriodRole → Bool
  | .payload => target == 0
  | .pilot _ => target == 1
  | .training _ => target == 2

/-- The levels of a period (R76-R78, R97-R99, R101); none while its coded bits have not been encoded. -/
def periodLevels (j : MapJob) (e : Encoder) : PeriodRole → Option (List Int × Encoder)
  | .training i => some (signLevels j.pilot (j.trainX.getD i (0, 0)) (j.trainY.getD i (0, 0)), e)
  | .pilot m => some (signLevels (j.sign * j.pilot) (j.pilotX.getD m (0, 0)) (j.pilotY.getD m (0, 0)), e)
  | .payload => (e.take (bitsPerSymbol j.mode)).map fun r => ((mapPayload r.1).map (· * 65536), r.2)

/-- Map the next symbol period.  It waits where a periodic injection falls due on it and TX_INJECT_PERIODIC has not come (R118).
-/
def mapPeriod (j : MapJob) (m : MapRun) : Option MapRun :=
  let role := periodRole m.pos
  let unit := isTarget j.target role
  let due := j.periodic && unit && decide (2 ^ j.rateLog2 ≤ m.units + 1)
  if due && m.armed == 0 then none
  else
    (periodLevels j m.encoder role).map fun r =>
      let errors := if unit then m.single + bit due else 0
      { pos := m.pos + 1
        encoder := r.2
        units := if due || !j.periodic then 0 else m.units + bit unit
        single := if unit then 0 else m.single
        armed := m.armed - bit due
        injected := m.injected + errors * j.lanes
        periods := (r.1, errors % 2 == 1) :: m.periods }

/-- Map `n` symbol periods. -/
def mapPeriods (j : MapJob) : Nat → MapRun → Option MapRun
  | 0, m => some m
  | n + 1, m => (mapPeriod j m).bind (mapPeriods j n)

/-- Map the carrier's next symbol block; none where it must wait: for the start of its symbol frame or pilot group, for coded
bits, or for an injection. -/
def mapBlock (s : State) (c : Carrier) : Option MapRun :=
  let d := s.txDsp.get c
  if d.pos < syfLimit d then
    mapPeriods (mapJob s c) 256 ⟨d.pos, encoderOf s c, d.units, d.single, d.armed, 0, []⟩
  else none

/-! ## Patterns (R117) -/

/-- The levels of a PRBS: two levels, one bit each, or four, two bits each (R98). -/
def prbsLevels (four invert : Bool) (bits : List Bool) : List Int :=
  let bits := bits.map (· != invert)
  let width := if four then 2 else 1
  (List.range (bits.length / width)).map fun i => 65536 * tributaryLevel ((bits.drop (i * width)).take width)

/-- The square wave from place `k`: +1 for `half` symbols, then -1 for as many. -/
def squareLevels (half k : Nat) (invert : Bool) (n : Nat) : List Int :=
  (List.range n).map fun i => if decide ((k + i) % (2 * half) < half) == invert then -65536 else 65536

/-- A lane's symbols of a block (step 4): the mapped ones, or its pattern; and the lane with its generator moved on. -/
def laneSymbols (s : State) (n : Fin 8) (mapped : List Int) : List Int × TxLane :=
  let x := txLane s n
  let invert := s.flag (.ltx n) LTX.PAT_CTL.INVERT
  if x.patMode = 1 then
    let four := s.flag (.ltx n) LTX.PAT_CTL.LEVELS
    let r := prbsRun (s.get (.ltx n) LTX.PAT_CTL.POLY) (if four then 2 * mapped.length else mapped.length) x.prbs
    (prbsLevels four invert r.1, { x with prbs := r.2 })
  else if x.patMode = 2 then
    let half := s.get (.ltx n) LTX.PAT_CTL.SQ_HALF + 1
    (squareLevels half x.square invert mapped.length, { x with square := (x.square + mapped.length) % (2 * half) })
  else (mapped, x)

/-! ## Shaping and pre-compensation (R102-R104) -/

/-- The response of the shaping filter over a run of symbols one period apart, of which the first lies `t` before the sample, in
1/60000 symbol: the span is 64 symbols. -/
def shapeSum (rolloff : Nat) : Int → List Int → Int
  | _, [] => 0
  | t, a :: rest =>
    (if t.natAbs ≤ 32 * 60000 then a * Config.rrcTap rolloff t else 0) + shapeSum rolloff (t - 60000) rest

/-- The shaped value of a tributary at sample `k` of block `b`, delayed by `skew` tenths of a picosecond: `symbols` holds the
block before and this one.  Every lane has a common delay of 128 symbols, which leaves room for the skew range (log entry 80). -/
def shapeAt (rolloff rate : Nat) (skew : Int) (b k : Nat) (symbols : List Int) : Int :=
  let rel : Int := 50000 * (firstSample b + k : Nat) - 60000 * 256 * (b : Int)
  shapeSum rolloff (rel + 128 * 60000 - skew * rate * 6) symbols

/-- Q' of R103 from the shaped Q and I, gain in 0.01 dB and phase in 0.02 degrees. -/
def iqCompensate (gain phase q i : Int) : Int :=
  let x := phase * fixPi / 9000
  roundUp (fixDecibel gain * (q * fixOne - i * fixSin x)) (65536 * fixOne * fixCos x).toNat

/-- The samples of tributary `t` over block `b`: shaped, compensated and skewed; `columns` holds the symbols of the four
tributaries over the block before and this one. -/
def laneSamples (s : State) (c : Carrier) (t b : Nat) (columns : List (List Int)) : List Int :=
  let roll := s.get (.txp c) TXP.CTL.ROLLOFF
  let rate := symbolRate (lineMode s c)
  let skew := s.getInt (.txp c) (TXP.SKEW.APPLIED.at t)
  let at_ (u k : Nat) : Int := shapeAt roll rate skew b k (columns.getD u [])
  let gain := s.getInt (.txp c) (if t < 2 then TXP.IQ_X.GAIN else TXP.IQ_Y.GAIN)
  let phase := s.getInt (.txp c) (if t < 2 then TXP.IQ_X.PHASE else TXP.IQ_Y.PHASE)
  (List.range (blockSamples b)).map fun k =>
    if t % 2 = 0 then roundUp (at_ t k) 65536 else iqCompensate gain phase (at_ t k) (at_ (t - 1) k)

/-! ## A symbol block -/

/-- Every lane of the carrier has room for a block before its TX FIR: TXP_x holds 1,024 symbols (R31, R93). -/
def dspRoom (s : State) (c : Carrier) : Bool :=
  (carrierLanes c).all fun n => decide ((txLane s n).shaped.length < 4)

/-- Column `t` of a run of periods. -/
def column (t : Nat) (rows : List (List Int)) : List Int := rows.map fun r => r.getD t 0

/-- The symbols of tributary `t` over a mapped block, after patterns and injection, and its lane. -/
def injectedSymbols (s : State) (c : Carrier) (periods : List (List Int × Bool)) (t : Nat) (n : Fin 8) :
    List Int × TxLane :=
  let r := laneSymbols s n (periods.map fun p => p.1.getD t 0)
  let selected := testBit (s.get (.txp c) TXP.INJ_CTL.LANES) t
  (List.zipWith (fun p v => if p.2 && selected then -v else v) periods r.1, r.2)

/-- The banks of a block and the weight of the new one (R106). -/
def fadeWeights (s : State) (c : Carrier) : Nat × Nat × Nat × Nat :=
  let d := s.txDsp.get c
  let active := s.get (.txp c) TXP.FIR_XFADE.ACTIVE
  if s.flag (.txp c) TXP.FIR_XFADE.FADING then
    let n := 2 ^ d.fadeLog2
    (active, s.get (.txp c) TXP.FIR_XFADE.TARGET, min (d.blocks - d.fadeStart + 1) n, n)
  else (active, active, 0, 1)

/-- TXP_x forms a symbol block on its four lanes. -/
def blockFormed (c : Carrier) (m : MapRun) (s : State) : State :=
  let d := s.txDsp.get c
  let periods := m.periods.reverse
  let lanes := (carrierLanes c).map fun n => injectedSymbols s c periods (tributary n) n
  let old := if d.window.isEmpty then List.replicate 256 [0, 0, 0, 0] else d.window
  let rows := (List.range 256).map fun i => lanes.map fun l => l.1.getD i 0
  let columns := [0, 1, 2, 3].map fun t => column t (old ++ rows)
  let w := fadeWeights s c
  let samples (n : Fin 8) : ShapedBlock :=
    ⟨d.blocks, w.1, w.2.1, w.2.2.1, w.2.2.2, laneSamples s c (tributary n) d.blocks columns⟩
  let t := (carrierLanes c).foldl (fun t n =>
    let x := (lanes.getD (tributary n) ([], txLane s n)).2
    putTxLane t n { x with shaped := x.shaped ++ [samples n] }) s
  let t := putEncoder t c m.encoder
  let t := setTxDsp t c { d with
    pos := m.pos, units := m.units, single := m.single, armed := m.armed, blocks := d.blocks + 1, window := rows }
  t.addSat (.txp c) TXP.INJ_CNT.COUNT m.injected

/-- The symbol block boundary of TXP_x: loop timing moves on, and the next block is formed once it can be. -/
def txBlock (c : Carrier) (s : State) : State :=
  let s := loopFollow c s
  if !s.running (.txp c) || !dspRoom s c then s
  else
    match mapBlock s c with
    | some m => blockFormed c m s
    | none => s

end Sys2Proof.Machine
end

