-- ==== Sys2Proof/Machine/LineRx.lean ====
section
/-! DEFINITION. Machine/LineRx.lean: chapter 05: gain control (R123-R130), the interleaved ADC and its calibration
(R131-R137), histograms (R138) and the lanes' part in raw snapshots (R139-R141). -/
namespace Sys2Proof.Machine

open Sys2Proof (Word Carrier Page)

/-- Lane state. -/
def lineRx (s : State) (n : Fin 8) : LineRx := s.lineRx.get n

/-- Replace a lane's state. -/
def putLineRx (s : State) (n : Fin 8) (x : LineRx) : State := { s with lineRx := s.lineRx.set n x }

/-- The eight lanes. -/
def allLanes : List (Fin 8) := [0, 1, 2, 3, 4, 5, 6, 7]

/-! ## Gain (R123, R125, R128, R130) -/

/-- The four lanes of a carrier deliver samples: all of them run, on a clock (R126, R137). -/
def samplesArrive (s : State) (c : Carrier) : Bool :=
  (carrierLanes c).all fun n => s.running (.lrx n) && !s.flag (.lrx n) LRX.SNAP_STAT.NO_CLK

/-- Lane `n` delivers samples. -/
def laneDelivers (s : State) (n : Fin 8) : Bool := samplesArrive s (laneCarrier n)

/-- A capture in progress records a gain change, at most 28, by the index of the first sample at the new gain (R141). -/
def noteGain (s : State) (n : Fin 8) (c : Nat) : State :=
  let x := lineRx s n
  match x.capture with
  | some k =>
    if s.flag (.lrx n) LRX.SNAP_STAT.CAPTURING && decide (k.changes.length < 28) then
      putLineRx s n { x with capture := some { k with changes := k.changes ++ [(k.samples.length, c)] } }
    else s
  | none => s

/-- The gain code becomes `c` at a block boundary (R125): the limits' flags clear with it. -/
def setGain (n : Fin 8) (c : Nat) (s : State) : State :=
  if s.get (.lrx n) LRX.GAIN_STAT.APPLIED = c then s
  else
    let s := noteGain s n c
    let s := s.set (.lrx n) LRX.GAIN_STAT.APPLIED c
    let s := putLineRx s n { lineRx s n with gainAt := some s.elapsedNs }
    let s := if s.flag (.lrx n) LRX.HIST_STAT.BUSY then s.set (.lrx n) LRX.HIST_STAT.GAIN_CHG 1 else s
    let s := if c = 0 then s else s.set (.lrx n) LRX.GAIN_STAT.AT_MIN 0
    if c = 36 then s else s.set (.lrx n) LRX.GAIN_STAT.AT_MAX 0

/-- `GAIN_STAT.SETTLING`: within 50 ns of a gain change. -/
def gainSettling (s : State) (n : Fin 8) : Bool :=
  match (lineRx s n).gainAt with
  | some t => decide (s.elapsedNs < t + 50)
  | none => false

/-- A fast step was applied in the last 1 ms. -/
def fastRecently (s : State) (n : Fin 8) : Bool :=
  match (lineRx s n).fastAt with
  | some t => decide (s.elapsedNs < t + 1000000)
  | none => false

/-- The RMS of the last 16,384 samples in 1/256 LSB (R125). -/
def rmsCode (l : List Int) : Nat := min (isqrt (65536 * sumNat (l.map fun v => v.natAbs * v.natAbs) / max l.length 1)) 0xFFFF

/-- An AGC period ends in AUTO (R125). -/
def agcPeriod (n : Fin 8) (s : State) : State :=
  if !laneDelivers s n || s.get (.lrx n) LRX.AFE_CTL.AGC_MODE != 1 then s
  else
    let rms := rmsCode (lineRx s n).recent
    let s := s.set (.lrx n) LRX.RMS.RMS rms
    let g := s.get (.lrx n) LRX.GAIN_STAT.APPLIED
    let target := s.get (.lrx n) LRX.AGC_CFG.TARGET
    let tol := s.get (.lrx n) LRX.AGC_CFG.TOL
    if 256 * (target + tol) < rms then setGain n (g - 1) s
    else if rms < 256 * (target - tol) && !fastRecently s n then setGain n (min (g + 1) 36) s
    else s

/-- The block after one with at least CLIP_THR clipped samples begins: the fast step is applied (R128, R130). -/
def fastStep (n : Fin 8) (s : State) : State :=
  let g := s.get (.lrx n) LRX.GAIN_STAT.APPLIED
  let x := lineRx s n
  if laneDelivers s n && s.flag (.lrx n) LRX.AFE_CTL.CLIP_STEP_EN && decide (64 ≤ x.sinceFast)
      && decide (s.get (.lrx n) LRX.AGC_CFG.CLIP_THR ≤ x.clipped) then
    let s := setGain n (g - 2) (putLineRx s n { x with clipped := 0 })
    if g < 2 then s
    else
    let s := putLineRx s n { lineRx s n with fastAt := some s.elapsedNs, sinceFast := 0 }
    (s.bump (.lrx n) LRX.FAST_CNT.COUNT).raise (.lrx n) LRX.EVT.FAST_STEP
  else s

/-- G has sat at a limit for 1 ms (R130). -/
def gainLimit (n : Fin 8) (s : State) : State :=
  let g := s.get (.lrx n) LRX.GAIN_STAT.APPLIED
  if !s.running (.lrx n) then s
  else if g = 0 && !s.flag (.lrx n) LRX.GAIN_STAT.AT_MIN then
    (s.set (.lrx n) LRX.GAIN_STAT.AT_MIN 1).raise (.lrx n) LRX.EVT.GAIN_LIMIT
  else if g = 36 && !s.flag (.lrx n) LRX.GAIN_STAT.AT_MAX then
    (s.set (.lrx n) LRX.GAIN_STAT.AT_MAX 1).raise (.lrx n) LRX.EVT.GAIN_LIMIT
  else s

/-! ## Rotation (R133-R136) -/

/-- Rotation is paused or stopped (R135, R136). -/
def rotationStopped (s : State) (n : Fin 8) : Bool :=
  s.flag (.lrx n) LRX.GAIN_STAT.CLIP_INT || s.flag (.lrx n) LRX.SNAP_STAT.NO_CLK
    || s.flag (.lrx n) LRX.ROT_STAT.RETIRED
    || !(s.flag (.lrx n) LRX.CAL_CTL.BG_EN || (lineRx s n).lastStep)

/-- `ROT_STAT.FROZEN` follows the state; while the lane is not running the spec is silent, and the model shows 0 (DESIGN CHOICE, log
entry 78). -/
def refreshFrozen (s : State) (n : Fin 8) : State :=
  s.setFlag (.lrx n) LRX.ROT_STAT.FROZEN (s.running (.lrx n) && rotationStopped s n)

/-- The codes of a block of the lane (R123, R126): as many as the block has, from -63 to +63. -/
def blockCodes (b : Nat) (codes : List Int) : List Int :=
  (List.range (blockSamples b)).map fun i => clamp (-63) 63 (codes.getD i 0)

/-- The physical slices that convert the samples of block `b`: sample k is converted at position k mod 64 (R131). -/
def blockSlices (x : LineRx) (b : Nat) : List Nat :=
  (List.range (blockSamples b)).map fun i => x.positions.getD ((firstSample b + i) % 64) 0

/-- A code is clipped (R127). -/
def clippedCode (v : Int) : Bool := v.natAbs == 63

/-- The first sample of a capture sets what its header tells of it (R141); the fraction of its time is free (log entry 2). -/
def captureFirst (n : Fin 8) (position : Nat) (k : Capture) (s : State) : State :=
  let k := { k with
    startNs := s.nowNs
    fraction := Config.freeValue s.freeCount % 65536
    gain := s.get (.lrx n) LRX.GAIN_STAT.APPLIED
    spare := s.get (.lrx n) LRX.ROT_STAT.SPARE
    position := position }
  putLineRx s.drawn n { lineRx s n with capture := some k }

/-- A capture in progress takes a block (R139, R141): its samples with their slices and positions, and whether the block lies in
a clipping interval. -/
def captureBlock (n : Fin 8) (b : Nat) (samples : List (Int × Nat)) (s : State) : State :=
  let taken (k : Capture) : List (Nat × (Int × Nat)) :=
    ((List.range samples.length).zip samples).filter fun e => !k.single || e.2.2 == k.slice
  match (lineRx s n).capture with
  | none => s
  | some k =>
    if !s.flag (.lrx n) LRX.SNAP_STAT.CAPTURING then s
    else
      let l := taken k
      let s := match k.samples, l with
        | [], e :: _ => captureFirst n ((firstSample b + e.1) % 64) k s
        | _, _ => s
      let clip := s.flag (.lrx n) LRX.GAIN_STAT.CLIP_INT
      let x := lineRx s n
      let add (k : Capture) : Capture := { k with
        samples := (l.map fun e => (e.2.1, clip)).reverse ++ k.samples
        clipBlocks := k.clipBlocks + bit clip }
      putLineRx s n { x with capture := x.capture.map add }

/-- One more count of a bin: bin i counts code i - 63 (R138). -/
def countBin (bins : List Nat) (v : Int) : List Nat :=
  let i := (v + 63).toNat
  bins.set i (bins.getD i 0 + 1)

/-- A histogram run in progress takes the samples of a block, each with its slice (R138). -/
def histBlock (n : Fin 8) (samples : List (Int × Nat)) (s : State) : State :=
  let x := lineRx s n
  let all := s.flag (.lrx n) LRX.HIST_CTL.ALL
  let slice := s.get (.lrx n) LRX.HIST_CTL.SLICE
  let l := ((samples.filter fun e => all || e.2 == slice).take x.histLeft).map (·.1)
  if s.flag (.lrx n) LRX.HIST_STAT.BUSY then
    putLineRx s n { x with bins := l.foldl countBin x.bins, histLeft := x.histLeft - l.length }
  else s

/-- The clip counters of a block (R127, R129), of which `slices` names the slice of each clipped sample. -/
def clipCounts (n : Fin 8) (slices : List Nat) (s : State) : State :=
  let x := lineRx s n
  let since := min (x.sinceFast + 1) 64
  if slices.isEmpty then putLineRx s n { x with clean := x.clean + 1, clipped := 0, sinceFast := since }
  else
    let s := putLineRx s n { x with clean := 0, clipped := slices.length, sinceFast := since }
    let s := slices.foldl (fun s k => s.bump (.lrx n) (LRX.CLIPS.COUNT.at k)) s
    let s := s.bump (.lrx n) LRX.CLIP_BLK.COUNT
    if s.flag (.lrx n) LRX.GAIN_STAT.CLIP_INT then s
    else
      let s := (s.set (.lrx n) LRX.GAIN_STAT.CLIP_INT 1).bump (.lrx n) LRX.CLIP_INT_CNT.COUNT
      (refreshFrozen s n).raise (.lrx n) LRX.EVT.CLIP

/-- 64 clean blocks end the clipping interval (R129). -/
def clipIntervalEnd (n : Fin 8) (s : State) : State :=
  if s.flag (.lrx n) LRX.GAIN_STAT.CLIP_INT && decide (64 ≤ (lineRx s n).clean) then
    refreshFrozen (s.set (.lrx n) LRX.GAIN_STAT.CLIP_INT 0) n
  else s

/-! ## The receive ingress buffers (R30, R32, R126) -/

/-- Depth of a receive ingress EB in samples (R30). -/
def ingressDepth : Nat := 12288

/-- Samples in a lane's receive ingress EB. -/
def ingressSamples (s : State) (n : Fin 8) : Nat := sumNat ((lineRx s n).ingress.map fun b => b.samples.length)

/-- Take block `b` out of a lane's EB, where it is the newest, and keep it out. -/
def dropBlock (b : Nat) (s : State) (n : Fin 8) : State :=
  let x := lineRx s n
  let keep := match x.ingress.getLast? with
    | some k => if k.number = b then x.ingress.dropLast else x.ingress
    | none => []
  putLineRx s n { x with ingress := keep, dropped := some b }

/-- Block `b` of a lane goes to its EB; where it does not fit it is dropped on the four lanes of the carrier (R32). -/
def ingressBlock (n : Fin 8) (b : Nat) (codes : List Int) (s : State) : State :=
  let x := lineRx s n
  if x.dropped = some b then s
  else if ingressSamples s n + codes.length ≤ ingressDepth then
    putLineRx s n { x with ingress := x.ingress ++ [⟨b, codes, s.flag (.lrx n) LRX.GAIN_STAT.CLIP_INT⟩] }
  else
    let s := putLineRx s n { x with lost := x.lost + 1 }
    (carrierLanes (laneCarrier n)).foldl (dropBlock b) s

/-- The lane is ahead of another of its carrier: block boundaries coincide (R126). -/
def laneAhead (s : State) (n : Fin 8) : Bool :=
  (carrierLanes (laneCarrier n)).any fun k => decide ((lineRx s k).blocks < (lineRx s n).blocks)

/-- CLIP: a block of the lane ends (R126-R129); `codes` holds the codes its slices gave. -/
def laneBlock (n : Fin 8) (codes : List Int) (s : State) : State :=
  if !laneDelivers s n || laneAhead s n then s
  else
    let s := clipIntervalEnd n s
    let x := lineRx s n
    let b := x.blocks
    let codes := blockCodes b codes
    let samples := codes.zip (blockSlices x b)
    let s := putLineRx s n { x with blocks := b + 1, recent := (codes.reverse ++ x.recent).take 16384 }
    let s := clipCounts n ((samples.filter fun e => clippedCode e.1).map (·.2)) s
    ingressBlock n b codes (captureBlock n b samples (histBlock n samples s))

/-- The receive path takes a block from each ingress EB of a carrier, once all four hold one. -/
def lanesTake (c : Carrier) (s : State) : State :=
  if (carrierLanes c).all fun n => !(lineRx s n).ingress.isEmpty then
    (carrierLanes c).foldl (fun s n => putLineRx s n { lineRx s n with ingress := (lineRx s n).ingress.tail }) s
  else s

/-- A drop on the carrier's lanes has not been signalled. -/
def slipWaits (s : State) (c : Carrier) : Bool := (carrierLanes c).any fun n => decide (0 < (lineRx s n).lost)

/-- One drop of the carrier is signalled. -/
def slipSignalled (c : Carrier) (s : State) : State :=
  match (carrierLanes c).find? fun n => decide (0 < (lineRx s n).lost) with
  | some n => putLineRx s n { lineRx s n with lost := (lineRx s n).lost - 1 }
  | none => s

/-! ## Calibration of the slices (R132-R136) -/

/-- Consecutive rejections of an item of a slice. -/
def rejRun (s : State) (n : Fin 8) (slice item : Nat) : Nat :=
  sparseRead (fun _ => 0) (lineRx s n).rejRuns (4 * slice + item)

/-- Set that run. -/
def setRejRun (s : State) (n : Fin 8) (slice item v : Nat) : State :=
  let x := lineRx s n
  putLineRx s n { x with rejRuns := sparseWrite (fun _ => 0) x.rejRuns (4 * slice + item) v }

/-- The mean skew trim of the 64 active positions (R134), to the nearest step. -/
def meanSkew (s : State) (n : Fin 8) : Int :=
  roundAway (((lineRx s n).positions.map fun k => trim s 3 n.val k).foldl (· + ·) 0) 64

/-- The trim of an accepted item (R134): skew is referred to the mean of the active positions, and each trim stays within the range
of its 8-bit or 12-bit code, ±4 LSB, ±2.56 % and ±20.48 ps. -/
def sliceTrim (n : Fin 8) (slice item : Nat) (s : State) : State :=
  let v := trim s (item + 1) n.val slice
  setTrim s (item + 1) n.val slice (if item = 2 then satSigned 12 (v - meanSkew s n) else satSigned 8 v)

/-- One item of a slice is measured twice (R134): item 0 offset, 1 gain, 2 skew. -/
def sliceMeasure (n : Fin 8) (slice item : Nat) (m : Int × Int) (s : State) : State :=
  let s := calMeasure (item + 1) n.val slice m.1 m.2 s
  if calAgree (item + 1) slice m.1 m.2 then setRejRun (sliceTrim n slice item s) n slice item 0
  else
    let s := setRejRun s n slice item (min 3 (rejRun s n slice item + 1))
    ((s.bump (.lrx n) LRX.CAL_REJ.COUNT).errlog (.lrx n) 1 (4 * slice + item)).raise (.lrx n) LRX.EVT.CAL_FAIL

/-- A slice is calibrated: offset, gain and skew. -/
def sliceCal (n : Fin 8) (slice : Nat) (ms : List (Int × Int)) (s : State) : State :=
  [0, 1, 2].foldl (fun s i => sliceMeasure n slice i (ms.getD i (0, 0)) s) s

/-- Some item of a slice has been rejected three times running (R136). -/
def sliceSpent (s : State) (n : Fin 8) (slice : Nat) : Bool := [0, 1, 2].any fun i => decide (3 ≤ rejRun s n slice i)

/-- The spare takes position p and its slice becomes the spare (R133). -/
def exchange (n : Fin 8) (s : State) : State :=
  let x := lineRx s n
  let p := s.get (.lrx n) LRX.ROT_STAT.POS
  let spare := s.get (.lrx n) LRX.ROT_STAT.SPARE
  let out := x.positions.getD p 0
  let s := putLineRx s n { x with positions := x.positions.set p spare }
  let s := (s.set (.lrx n) LRX.ROT_STAT.SPARE out).set (.lrx n) LRX.ROT_STAT.POS ((p + 1) % 64)
  let seen := s.get (.lrx n) LRX.HIST_CTL.SLICE
  if s.flag (.lrx n) LRX.HIST_STAT.BUSY && !s.flag (.lrx n) LRX.HIST_CTL.ALL && (seen == spare || seen == out) then
    s.set (.lrx n) LRX.HIST_STAT.SLICE_SWAP 1
  else s

/-- The end of a step (R133, R136): the spare is exchanged or retired. -/
def stepEnd (n : Fin 8) (s : State) : State :=
  let spare := s.get (.lrx n) LRX.ROT_STAT.SPARE
  let s := putLineRx s n { lineRx s n with lastStep := false }
  if sliceSpent s n spare then
    let s := (s.set (.lrx n) LRX.ROT_STAT.RETIRED 1).raise (.lrx n) LRX.EVT.SLICE_RETIRED
    refreshFrozen (s.errlog (.lrx n) 2 spare) n
  else
    let s := exchange n s
    let steps := (lineRx s n).lapSteps + 1
    let s := putLineRx s n { lineRx s n with lapSteps := steps % 65 }
    let s := if steps = 65 then (s.addWrap (.lrx n) LRX.LAP_CNT.COUNT 1).raise (.lrx n) LRX.EVT.CAL_DONE else s
    refreshFrozen s n

/-- A phase of a step of background calibration ends (R133-R136): the first three measure an item, the fourth applies the trims.  A
phase that a pause cuts short has no end, and begins again after it (R135). -/
def adcStep (n : Fin 8) (m : Int × Int) (s : State) : State :=
  if laneDelivers s n && !rotationStopped s n then
    let phase := s.get (.lrx n) LRX.ROT_STAT.PHASE
    if phase < 3 then
      (sliceMeasure n (s.get (.lrx n) LRX.ROT_STAT.SPARE) phase m s).set (.lrx n) LRX.ROT_STAT.PHASE (phase + 1)
    else stepEnd n (s.set (.lrx n) LRX.ROT_STAT.PHASE 0)
  else s

/-- UNRETIRE (R136). -/
def unretire (n : Fin 8) (s : State) : State :=
  let spare := s.get (.lrx n) LRX.ROT_STAT.SPARE
  let s := [0, 1, 2].foldl (fun s i => setRejRun s n spare i 0) (s.set (.lrx n) LRX.ROT_STAT.RETIRED 0)
  refreshFrozen s n

/-- Foreground calibration is due at a start (R132, R500). -/
def fgDue (s : State) (n : Fin 8) : Bool := s.flag (.lrx n) LRX.CAL_CTL.FG_ON_START || !s.flag .cal CAL.STAT.LOADED

/-- A lane entering starting calibrates its 65 slices and its AFE trims (R132, R496).  `ms` holds three pairs a slice,
`afe` the three AFE pairs. -/
def lrxFgCal (n : Fin 8) (ms : List (List (Int × Int))) (afe : List (Int × Int)) (s : State) : State :=
  if s.run (.lrx n) = .starting && fgDue s n then
    let s := (List.range 65).foldl (fun s k => sliceCal n k (ms.getD k []) s) s
    let s := calMeasureAll 5 n.val (afe.take 3) s
    putLineRx s n { lineRx s n with fgDone := true }
  else s

/-! ## Clock loss (R137) -/

/-- SYN_x loses lock: the carrier's running lanes deliver no samples. -/
def laneClockLoss (c : Carrier) (s : State) : State :=
  if clockLocked s c then s
  else (carrierLanes c).foldl (fun s n =>
    if s.running (.lrx n) then refreshFrozen (s.set (.lrx n) LRX.SNAP_STAT.NO_CLK 1) n else s) s

/-- The lanes of a carrier begin to number their blocks (R126, R137). -/
def numberingBegins (c : Carrier) (s : State) : State :=
  (carrierLanes c).foldl (fun s n => putLineRx s n { lineRx s n with blocks := 0, dropped := none }) s

/-- SYN_x locks again: the four lanes resume on a common edge, and number their blocks from it. -/
def laneClockResume (c : Carrier) (s : State) : State :=
  if clockLocked s c && (carrierLanes c).any fun n => s.flag (.lrx n) LRX.SNAP_STAT.NO_CLK then
    numberingBegins c ((carrierLanes c).foldl (fun s n => refreshFrozen (s.set (.lrx n) LRX.SNAP_STAT.NO_CLK 0) n) s)
  else s

/-! ## Histograms (R138) -/

/-- A START strobe. -/
def histStart (n : Fin 8) (s : State) : State :=
  if s.flag (.lrx n) LRX.HIST_STAT.BUSY then s.bump (.lrx n) LRX.HIST_STAT.OVR
  else
    let s := putLineRx s n { lineRx s n with
      bins := List.replicate 127 0, histLeft := 2 ^ s.get (.lrx n) LRX.HIST_CTL.LOG2_SAMPLES }
    (s.clearAll (.lrx n) [LRX.HIST_STAT.DONE, LRX.HIST_STAT.GAIN_CHG, LRX.HIST_STAT.SLICE_SWAP]).set (.lrx n)
      LRX.HIST_STAT.BUSY 1

/-- A run ends with its last sample: the 127 bins are copied together. -/
def histDone (n : Fin 8) (s : State) : State :=
  let x := lineRx s n
  if s.flag (.lrx n) LRX.HIST_STAT.BUSY && x.histLeft == 0 then
    let s := (List.range 127).foldl (fun s i => s.set (.lrx n) (LRX.HIST_B.COUNT.at i) (x.bins.getD i 0)) s
    ((s.set (.lrx n) LRX.HIST_STAT.BUSY 0).set (.lrx n) LRX.HIST_STAT.DONE 1).raise (.lrx n) LRX.EVT.HIST_DONE
  else s

/-! ## Snapshots (R139-R141) -/

/-- Capture rate of a lane: symbol rate in GBd times 64, or the symbol rate for a single slice. -/
def captureRate (s : State) (n : Fin 8) (single : Bool) : Nat :=
  symbolRate (lineMode s (laneCarrier n)) * (if single then 1 else 64)

/-- Limit on the sum of the rates (R139): 576 or 288 GSa/s, that is 480 or 240 GBd. -/
def captureLimit (s : State) : Nat := (if s.flag .rps RPS.STAT.DRAM then 240 else 480) * 64

/-- A lane is armed. -/
def armed (s : State) (n : Fin 8) : Bool := s.flag (.lrx n) LRX.SNAP_CTL.ARM

/-- Sum of the rates of the armed lanes but `skip`. -/
def armedRate (s : State) (skip : Option (Fin 8)) : Nat :=
  sumNat (allLanes.map fun n =>
    if armed s n && skip != some n then captureRate s n (s.flag (.lrx n) LRX.SNAP_CTL.SLICE_MODE) else 0)

/-- A write to SNAP_CTL is refused with MODE_CONFLICT (R139, R144). -/
def snapConflict (s : State) (n : Fin 8) (old new : Word) : Bool :=
  let single := extract new 1 1 == 1
  let arms := extract new 0 1 == 1
  let changes := extract old 0 1 == 0 || extract old 1 1 != extract new 1 1
  (arms && changes && (!s.running (.lrx n)
    || decide (captureLimit s < armedRate s (some n) + captureRate s n single)))
  || (s.flag (.lrx n) LRX.SNAP_STAT.CAPTURING
    && (extract old 1 1 != extract new 1 1 || extract old 8 7 != extract new 8 7))

/-- A lane's capture begins (R141, R322). -/
def captureBegin (n : Fin 8) (s : State) : State :=
  if armed s n && s.running (.lrx n) then
    let x := lineRx s n
    let k : Capture := ⟨lineMode s (laneCarrier n), s.flag (.lrx n) LRX.SNAP_CTL.SLICE_MODE,
      s.get (.lrx n) LRX.SNAP_CTL.SLICE, s.nowNs, 0, s.get (.lrx n) LRX.GAIN_STAT.APPLIED,
      s.get (.lrx n) LRX.ROT_STAT.SPARE, 0, 0, [], [], false, false⟩
    let s := putLineRx s n { x with capture := some k }
    (s.clearAll (.lrx n) [LRX.SNAP_STAT.STOPPED, LRX.SNAP_STAT.TRUNC]).set (.lrx n) LRX.SNAP_STAT.CAPTURING 1
  else s

/-- A lane's capture ends. -/
def captureEnd (n : Fin 8) (s : State) : State := s.set (.lrx n) LRX.SNAP_STAT.CAPTURING 0

/-- Mark a lane's capture as truncated or stopped. -/
def captureMark (n : Fin 8) (trunc stopped : Bool) (s : State) : State :=
  let x := lineRx s n
  match x.capture with
  | some k =>
    if s.flag (.lrx n) LRX.SNAP_STAT.CAPTURING then
      captureEnd n (putLineRx s n { x with capture := some { k with trunc := trunc, stopped := stopped } })
    else s
  | none => s

/-- A 64-bit word of a capture (R141): nine samples at most, the earliest in the low bits, padded with code 0. -/
def captureWord (l : List (Int × Bool)) : List Byte :=
  leBytes 8 (sumNat ((List.range 9).map fun j => ofSigned 7 (l.getD j (0, false)).1 * 2 ^ (7 * j))
    + 2 ^ 63 * bit (l.any (·.2)))

/-- The words of a capture's samples, earliest first. -/
def captureWords : Nat → List (Int × Bool) → List Byte
  | 0, _ => []
  | _, [] => []
  | n + 1, l => captureWord (l.take 9) ++ captureWords n (l.drop 9)

/-- The bytes of a lane's capture (R141): its 256-byte header and its words. -/
def captureBytes (n : Fin 8) (k : Capture) : List Byte :=
  leBytes 1 n.val ++ leBytes 1 k.mode ++ leBytes 1 (bit k.single + 2 * bit k.trunc + 4 * bit k.stopped)
    ++ leBytes 1 (if k.single then k.slice else 0) ++ leBytes 8 k.startNs ++ leBytes 2 k.fraction ++ leBytes 1 k.gain
    ++ leBytes 1 k.spare ++ leBytes 1 k.position ++ leBytes 3 0 ++ leBytes 4 k.samples.length ++ leBytes 4 k.clipBlocks
    ++ leBytes 4 k.changes.length
    ++ ((List.range 28).flatMap fun i => let e := k.changes.getD i (0, 0); leBytes 4 e.1 ++ leBytes 1 e.2 ++ leBytes 3 0)
    ++ captureWords (k.samples.length + 1) k.samples.reverse

/-- A lane is disarmed because route protection takes LPDDR5X (R140).  The spec gives ERRLOG code 0x04 no DETAIL; the model records
0 (DESIGN CHOICE, log entry 78). -/
def snapDisarm (n : Fin 8) (s : State) : State :=
  let s := captureMark n true false s
  let s := (s.set (.lrx n) LRX.SNAP_CTL.ARM 0).set (.lrx n) LRX.SNAP_STAT.ARMED 0
  ((s.set (.lrx n) LRX.SNAP_STAT.TRUNC 1).errlog (.lrx n) 4 0).raise (.lrx n) LRX.EVT.SNAP_TRUNC

/-- Lanes are disarmed in descending number until the sum fits (R140). -/
def snapTruncate (s : State) : State :=
  allLanes.reverse.foldl (fun s n => if armed s n && decide (captureLimit s < armedRate s none) then snapDisarm n s else s) s

/-! ## Page behaviour (R142-R144) -/

/-- `SLICE_TRIM` of the slice SLICE_IDX names (R144). -/
def sliceTrimWord (s : State) (n : Fin 8) : Nat :=
  let k := s.get (.lrx n) LRX.SLICE_IDX.SLICE
  let run := [0, 1, 2].foldl (fun m i => max m (rejRun s n k i)) 0
  run * 2 ^ 30 + ofSigned 12 (trim s 3 n.val k) * 2 ^ 16 + ofSigned 8 (trim s 2 n.val k) * 2 ^ 8
    + ofSigned 8 (trim s 1 n.val k)

/-- LRXn enters starting (R132, R142): counters clear. -/
def lrxStart (n : Fin 8) (s : State) : State :=
  let s := s.clearAll (.lrx n)
    [LRX.FAST_CNT.COUNT, LRX.CLIP_BLK.COUNT, LRX.CLIP_INT_CNT.COUNT, LRX.LAP_CNT.COUNT, LRX.CAL_REJ.COUNT,
     LRX.HIST_STAT.OVR, LRX.GAIN_STAT.CLIP_INT, LRX.SNAP_STAT.NO_CLK, LRX.ROT_STAT.PHASE]
  let s := s.clearArray (.lrx n) LRX.CLIPS.COUNT
  putLineRx s n { lineRx s n with
    fgDone := false, lastStep := false, ingress := [], lost := 0, clean := 0, clipped := 0, sinceFast := 64, recent := [] }

/-- LRXn reaches running: with the last of its carrier the four lanes begin to deliver blocks (R126). -/
def lrxRunning (n : Fin 8) (s : State) : State := numberingBegins (laneCarrier n) (refreshFrozen s n)

/-- LRXn leaves running (R140). -/
def lrxStop (n : Fin 8) (s : State) : State :=
  let s := if s.flag (.lrx n) LRX.SNAP_STAT.CAPTURING then
      (captureMark n false true s).set (.lrx n) LRX.SNAP_STAT.STOPPED 1
    else s
  s.set (.lrx n) LRX.ROT_STAT.FROZEN 0

/-- Writes LRXn refuses with OUT_OF_RANGE (R144).  R144 gives SNAP_CTL.SLICE as 0-64 and names no refusal of 65-127: the model
accepts them, and no sample is captured from such a slice (DESIGN CHOICE, log entry 78). -/
def lrxWriteBad (off : Nat) (new : Word) : Bool :=
  if off = LRX.AFE_CTL.AGC_MODE.off then
    decide (36 < extract new 8 6) || decide (12 < extract new 4 4) || decide (1 < extract new 0 2)
  else if off = LRX.AGC_CFG.TARGET.off then
    extract new 20 8 == 0 || decide (7 < extract new 16 4) || extract new 8 4 == 0 || decide (extract new 0 7 < 4)
      || decide (40 < extract new 0 7)
  else if off = LRX.SLICE_IDX.SLICE.off then decide (64 < extract new 0 7)
  else if off = LRX.HIST_CTL.ALL.off then
    decide (extract new 16 5 < 10) || decide (64 < extract new 8 7)
  else false

/-- Writes LRXn refuses with MODE_CONFLICT. -/
def lrxConflict (s : State) (n : Fin 8) (off : Nat) (old new : Word) : Bool :=
  off == LRX.SNAP_CTL.ARM.off && snapConflict s n old new

/-- An accepted write to LRXn.  Every accepted write of AFE_CTL writes GAIN_SET (R125). -/
def lrxWritten (n : Fin 8) (off : Nat) (old new : Word) (s : State) : State :=
  if off = LRX.AFE_CTL.GAIN_SET.off then setGain n (extract new 8 6) s
  else if off = LRX.CAL_CTL.BG_EN.off then
    let s := if extract new 2 1 = 1 then unretire n s else s
    let s := if extract old 0 1 = 1 && extract new 0 1 = 0 then
        putLineRx s n { lineRx s n with lastStep := s.running (.lrx n) }
      else if extract new 0 1 = 1 then putLineRx s n { lineRx s n with lastStep := false }
      else s
    refreshFrozen s n
  else if off = LRX.HIST_CTL.START.off then (if extract new 0 1 = 1 then histStart n s else s)
  else if off = LRX.SNAP_CTL.ARM.off then
    let s := s.set (.lrx n) LRX.SNAP_STAT.ARMED (extract new 0 1)
    if extract new 0 1 = 0 then captureEnd n s else s
  else s

end Sys2Proof.Machine
end

