-- ==== Sys2Proof/Machine/PlinthCore.lean ====
section
/-! DEFINITION. Machine/PlinthCore.lean: the Plinth's identity, signatures, random bits, attestation reports and the
verification of a peer's (R457-R461). -/
namespace Sys2Proof.Machine

open Sys2Proof (Byte Word Carrier PerCarrier Origin Page Instr Message)

/-- Change the Plinth's state. -/
def State.setPlinth (s : State) (x : Plinth) : State := { s with plinth := x }

/-- The next draw of the DRBG. -/
def State.random (s : State) : BitVec 512 := Config.drbg s.plinth.drawn

/-- Count a draw of the DRBG. -/
def State.randomDrawn (s : State) : State := s.setPlinth { s.plinth with drawn := s.plinth.drawn + 1 }

/-- SHAKE256 of a byte string, 32 bytes. -/
def digest (b : List Byte) : BitVec 256 := Config.shake256 256 b

/-- A 256-bit value as bytes in order. -/
def bytes32 (x : BitVec 256) : List Byte := leBytes 32 x.toNat

/-- The fragment of an identity a wake word and a HELLO carry (R246). -/
def idFragment (id : BitVec 256) : Nat :=
  ofBeBytes (leBytes 3 (Config.shake256 24 (label "SQ3208-WAKE" ++ bytes32 id)).toNat)

/-- This device's fragment. -/
def ownFragment : Nat := idFragment Config.deviceId

/-- The Plinth signs (R457): nothing while the identity is not proved or the working keys are erased. -/
def canSign (s : State) : Bool := s.flag .pln PLN.STAT.ID_OK && !s.plinth.keysErased

/-- The Plinth's signature over a message; none while it may not sign. -/
def signed (s : State) (m : List Byte) : List Byte := if canSign s then Config.sign m else []

/-! ## Bytes -/

/-- Bytes `a .. a+n-1` of a byte string. -/
def slice (b : List Byte) (a n : Nat) : List Byte := (b.drop a).take n

/-- Little-endian value of `n` bytes at `a`. -/
def leAt (b : List Byte) (a n : Nat) : Nat := ofLeBytes (slice b a n)

/-- Big-endian value of `n` bytes at `a`. -/
def beAt (b : List Byte) (a n : Nat) : Nat := ofBeBytes (slice b a n)

/-! ## The certificate (R459) -/

/-- Length of a certificate. -/
def certLength : Nat := 6893

/-- Fields of a certificate. -/
def certId (b : List Byte) : BitVec 256 := BitVec.ofNat 256 (leAt b 8 32)
def certIssuer (b : List Byte) : List Byte := slice b 40 8
def certNotBefore (b : List Byte) : Nat := leAt b 48 8
def certNotAfter (b : List Byte) : Nat := leAt b 56 8
def certKey (b : List Byte) : List Byte := slice b 64 1952
def certSignature (b : List Byte) : List Byte := slice b 3584 3309

/-- The device identity of a signing key (R457). -/
def identityOf (key : List Byte) : BitVec 256 := digest (label "SQ3208-ID" ++ key)

/-- The CA keys of the protected store (R458); entry 0 is there from manufacture. -/
def trustedKeys (s : State) : List (List Byte) :=
  Config.deviceCa :: ((List.range 4).filterMap fun i => if i = 0 then none else s.plinth.trust.getD i none)

/-- A certificate has the form of R459 and verifies under a CA key (R461 checks 1 and 2). -/
def certTrusted (s : State) (cert : List Byte) : Bool :=
  cert.length == certLength && slice cert 0 8 == [0x53, 0x51, 0x43, 0x54, 1, 0, 0, 0]
    && (trustedKeys s).any (fun k => certIssuer cert == leBytes 8 (Config.shake256 64 k).toNat
      && Config.verify k (slice cert 0 3584) (certSignature cert))
    && certId cert == identityOf (certKey cert)

/-! ## The attestation report (R460) -/

/-- Length of a report. -/
def reportLength : Nat := 3821

/-- A core holds a measured supervisor image. -/
def coreMeasured (s : State) (n : Fin 8) : Bool := s.flag (.rk n) RK.IMG_STAT.VALID && s.flag (.rk n) RK.IMG_STAT.MEAS_VALID

/-- MEASURED (R460): every core's image is measured, and RK6's user image where one is loaded. -/
def allMeasured (s : State) : Bool := (List.finRange 8).all fun n => coreMeasured s n

/-- M2 to M10 as reported (R460): zero without an image, all ones without MEAS_VALID. -/
def reportedMeasure (s : State) (n : Fin 8) : BitVec 256 :=
  if !s.flag (.rk n) RK.IMG_STAT.VALID then 0
  else if !s.flag (.rk n) RK.IMG_STAT.MEAS_VALID then BitVec.allOnes 256
  else s.plinth.measured.getD n.val 0

/-- M10, RK6's user image. -/
def userMeasure (s : State) : BitVec 256 :=
  if !s.flag (.rk 6) RK.IMG_STAT.USER_VALID then 0
  else if !s.flag (.rk 6) RK.IMG_STAT.MEAS_VALID then BitVec.allOnes 256
  else s.plinth.measured.getD 8 0

/-- M0 to M12. -/
def measurements (s : State) : List (BitVec 256) :=
  [Config.bootRom, Config.plinthImage s.plinth.firmware] ++ (List.finRange 8).map (reportedMeasure s)
    ++ [userMeasure s, s.journal.head, s.plinth.calDigest]

/-- Bytes 0-511 of a report for a nonce (R460). -/
def reportBody (s : State) (nonce : BitVec 256) : List Byte :=
  let flags := s.get .tb TB.STAT.TB_VALID + 2 * bit (allMeasured s) + 4 * s.get .pln PLN.STAT.TEST_OPEN
    + 8 * s.get .pln PLN.STAT.ZEROISED
  [0x53, 0x51, 0x41, 0x52, 1, BitVec.ofNat 8 flags, 13, 0] ++ bytes32 Config.deviceId ++ bytes32 nonce
    ++ leBytes 8 s.nowNs ++ leBytes 8 (s.nextSeq - 1) ++ leBytes 4 s.keep.bootCount ++ leBytes 4 0
    ++ (measurements s).flatMap bytes32

/-- A report (R460). -/
def attestReport (s : State) (nonce : BitVec 256) : List Byte :=
  let body := reportBody s nonce
  body ++ signed s body

/-- Fields of a report. -/
def reportFlags (b : List Byte) : Nat := leAt b 5 1
def reportId (b : List Byte) : BitVec 256 := BitVec.ofNat 256 (leAt b 8 32)
def reportNonce (b : List Byte) : BitVec 256 := BitVec.ofNat 256 (leAt b 40 32)

/-- A report verifies under the certificate's key, carries the same identity and nonce, and has MEASURED set and the
test port closed (R461 check 4). -/
def reportGood (cert report : List Byte) (nonce : BitVec 256) : Bool :=
  report.length == reportLength && slice report 0 5 == [0x53, 0x51, 0x41, 0x52, 1]
    && Config.verify (certKey cert) (slice report 0 512) (slice report 512 3309)
    && reportId report == certId cert && reportNonce report == nonce
    && testBit (reportFlags report) 1 && !testBit (reportFlags report) 2

/-- The allow-list admits the measurements of a report (R461 check 5). -/
def allowListed (s : State) (report : List Byte) : Bool :=
  s.get .pln PLN.POLICY.ATTEST_MODE == 0
    || s.plinth.allow.contains (some (digest (slice report 96 352)))

/-- The Plinth accepts a peer's ATTEST (R461), and its own identity is proved (R457). -/
def attestAccepted (s : State) (cert report : List Byte) (nonce : BitVec 256) : Bool :=
  s.flag .pln PLN.STAT.ID_OK && certTrusted s cert
    && (!s.flag .tb TB.STAT.TB_VALID || (decide (certNotBefore cert ≤ s.nowNs) && decide (s.nowNs ≤ certNotAfter cert)))
    && reportGood cert report nonce && allowListed s report

end Sys2Proof.Machine
end

