-- ==== Sys2Proof/Machine/Cast.lean ====
section
/-! DEFINITION. Machine/Cast.lean: the Cast recorder (R318-R326, R328): records, the continuous ring, windows, snapshots,
commits and the chain of heads. -/
namespace Sys2Proof.Machine

open Sys2Proof (Byte Word Carrier Page)

/-- Replace Cast's state. -/
def State.setCast (s : State) (x : CastState) : State := { s with cast := x }

/-! ## Records (R318, R319) -/

/-- Records of a block, and blocks of a 64 MiB history buffer. -/
def castRecords : Nat := 504
def castBlocks : Nat := 16384

/-- The bytes of a record (R318). -/
def recordBytes (r : CastRecord) : List Byte :=
  [BitVec.ofNat 8 r.channel, BitVec.ofNat 8 r.flags] ++ leBytes 2 r.m ++ leBytes 4 (ofSigned 32 r.value)

/-- The 4,096 bytes of a block (R318). -/
def castBlockBytes (b : CastBlock) : List Byte :=
  leBytes 8 b.timeNs ++ leBytes 8 b.resetNs ++ leBytes 4 b.number ++ leBytes 2 b.thin ++ List.replicate 42 0
    ++ b.records.reverse.flatMap recordBytes ++ List.replicate (8 * (castRecords - b.records.length)) 0

/-- Add a record to a list of blocks, newest first; answers the list and the number of the next block. -/
def addRecord (r : CastRecord) (timeNs resetNs thin next : Nat) (bs : List CastBlock) : List CastBlock × Nat :=
  match bs with
  | b :: rest =>
    if b.records.length < castRecords then ({ b with records := r :: b.records } :: rest, next)
    else (⟨timeNs, resetNs, next, thin, [r]⟩ :: b :: rest, next + 1)
  | [] => ([⟨timeNs, resetNs, next, thin, [r]⟩], next + 1)

/-- A ring block is dropped (R319). -/
def ringDropped (s : State) : State := (s.bump .cast CAST.RING_DROP.COUNT).raise .cast CAST.EVT.RING_DROP

/-- A full ring block is handed to the Archive, which has taken those handed before it; a block it cannot take is dropped
(R319, R439, R445). -/
def ringHand (b : CastBlock) (s : State) : State :=
  let s := s.setCast { s.cast with ringOpen := none, ringStored := s.cast.ringWaiting.reverse ++ s.cast.ringStored, ringWaiting := [] }
  if archiveTakes s then s.setCast { s.cast with ringWaiting := [b] } else ringDropped (archiveRefuse s)

/-- Add a record to the continuous ring, when its number is a multiple of 2^THIN (R319). -/
def ringRecord (r : CastRecord) (m at_ resetNs : Nat) (s : State) : State :=
  let thin := s.get .cast CAST.RING.THIN
  if m % 2 ^ thin ≠ 0 then s
  else
    let x := s.cast
    let y := addRecord r at_ resetNs thin x.nextRing x.ringOpen.toList
    let s := s.setCast { x with nextRing := y.2, ringOpen := y.1.head? }
    match y.1 with
    | b :: _ => if castRecords ≤ b.records.length then ringHand b s else s
    | [] => s

/-- HDM offset of the active history buffer (R363). -/
def historyBase (s : State) : Nat := 0x08000000 + 0x4000000 * s.get .cast CAST.STAT.BUF

/-- An output of a recorded channel, of the instant `at_`, is written to the history and the ring (R318, R319). -/
def castRecord (channel flags m : Nat) (value : Int) (at_ resetNs : Nat) (s : State) : State :=
  if !s.running .cast then s
  else
    let r : CastRecord := ⟨channel, flags, m % 65536, value⟩
    let y := addRecord r at_ resetNs (s.get .cast CAST.RING.THIN) s.cast.nextBlock s.cast.active
    let s := markGranule (s.setCast { s.cast with active := y.1.take castBlocks, nextBlock := y.2 })
      (historyBase s + 4096 * ((y.2 - 1) % castBlocks))
    ringRecord r m at_ resetNs s

/-- RING_DROP: the oldest block the Archive has not taken in time is dropped, else the one being filled (R319). -/
def ringDrop (s : State) : State :=
  match s.cast.ringWaiting with
  | _ :: rest => ringDropped (s.setCast { s.cast with ringWaiting := rest })
  | [] =>
    match s.cast.ringOpen with
    | some _ => ringDropped (s.setCast { s.cast with ringOpen := none })
    | none => s

/-! ## Windows (R321, R322) -/

/-- Window states (R321). -/
def castIdle : Nat := 0
def castPost : Nat := 1
def castExtended : Nat := 2

/-- `CAST.STAT.WSTATE`. -/
def castState (s : State) : Nat := s.get .cast CAST.STAT.WSTATE

/-- A commit is in progress. -/
def castCommitting (s : State) : Bool := s.flag .cast CAST.STAT.COMMIT

/-- Cast holds a trigger: a commit is in progress, or an entry to a lower-power state has been consented to (R321, R505). -/
def castHolds (s : State) : Bool := castCommitting s || s.entering pwrSleep

/-- A trigger that is not taken. -/
def castIgnore (s : State) : State := s.bump .cast CAST.TRIG_IGN.COUNT

/-- Time of the oldest record of the active buffer. -/
def oldestRecord (s : State) : Option Nat := (s.cast.active.getLast?).map (·.timeNs)

/-- The start of a window and whether the history falls short of it (R321). -/
def windowStart (s : State) (wanted trigger : Nat) : Nat × Bool :=
  match oldestRecord s with
  | some t => if wanted < t then (t, true) else (wanted, false)
  | none => if wanted < trigger then (trigger, true) else (wanted, false)

/-- The raw snapshot of a window that opens (R322); answers whether it has one. -/
def castSnapshot (s : State) : State × Bool :=
  if !s.flag .cast CAST.CTL.SNAP_EN then (s, false)
  else if s.flag .cast CAST.STAT.SNAP_BUSY then
    ((s.bump .cast CAST.SNAP_SKIP.COUNT).raise .cast CAST.EVT.SNAP_SKIP, false)
  else if allLanes.any (fun n => armed s n && s.running (.lrx n)) then
    (allLanes.foldl (fun s n => captureBegin n s) (startTimer .snapshot (s.set .cast CAST.STAT.SNAP_BUSY 1)), true)
  else (s, false)

/-- A window opens on trigger source `b` at time `t` (R321, R322, R325). -/
def castOpen (b t : Nat) (s : State) : State :=
  let n := s.get .cast CAST.WIN_NO.W
  let pre := s.get .cast CAST.WINDOW.PRE * 1000000
  let post := s.get .cast CAST.WINDOW.POST * 1000000
  let st := windowStart s (t - pre) t
  let y := castSnapshot s
  let s := y.1
  let w : CastWindow := ⟨n, s.cast.lost, t, 0, st.1, t + post, 2 ^ b, false, st.2, y.2,
    s.get .tb TB.STAT.TB_VALID + 2 * s.get .tb TB.STAT.TB_EXTRAPOLATED, 0⟩
  let s := s.setCast { s.cast with window := some w }
  let s := { s with keep := { s.keep with openWindow := n } }
  let s := ((s.addWrap .cast CAST.WIN_NO.W 1).set .cast CAST.STAT.WSTATE castPost).set .cast CAST.LAST.CAUSE (2 ^ b)
  let s := (s.set .cast CAST.LAST.EXTENDED 0).setPair .cast CAST.TRIG_LO.NS CAST.TRIG_HI.NS t
  s.raise .cast CAST.EVT.TRIGGER

/-- A trigger extends the window in POST (R321). -/
def castExtend (b t : Nat) (s : State) : State :=
  match s.cast.window with
  | none => s
  | some w =>
    let bits := w.bits ||| 2 ^ b
    let w := { w with bits := bits, extended := true, extendedNs := t, endNs := t + s.get .cast CAST.WINDOW.POST * 1000000 }
    let s := (s.setCast { s.cast with window := some w }).set .cast CAST.STAT.WSTATE castExtended
    ((s.set .cast CAST.LAST.CAUSE bits).set .cast CAST.LAST.EXTENDED 1).raise .cast CAST.EVT.EXTEND

/-- A trigger arrives while the window is extended (R321). -/
def castPass (s : State) : State :=
  let s := match s.cast.window with
    | none => s
    | some w => s.setCast { s.cast with window := some { w with ignored := w.ignored + 1 } }
  (castIgnore s).raise .cast CAST.EVT.TRIG_IGN

/-- The window's end has been reached at the time `t`. -/
def windowOver (s : State) (t : Nat) : Bool :=
  match s.cast.window with
  | some w => decide (w.endNs ≤ t)
  | none => false

/-- CAST_WINDOW_END: at the window's end the active buffer is frozen and recording continues in the other, empty (R321). -/
def castWindowEnd (s : State) : State :=
  match s.cast.window with
  | none => s
  | some w =>
    if s.nowNs < w.endNs then s
    else
      let st := windowStart s w.startNs w.openedNs
      let w := if st.1 = w.startNs then w else { w with startNs := st.1, preShort := true }
      let s := s.setCast { s.cast with frozen := s.cast.active, active := [], window := none, committing := some w }
      let s := (s.set .cast CAST.STAT.WSTATE castIdle).set .cast CAST.STAT.COMMIT 1
      s.set .cast CAST.STAT.BUF (1 - s.get .cast CAST.STAT.BUF)

/-- A trigger of source `b` that occurred at time `t` arrives (R321); a window that has ended by then is closed first. -/
def castTrigger (b t : Nat) (s : State) : State :=
  let s := if windowOver s t then castWindowEnd s else s
  if !s.running .cast then castIgnore s
  else if castState s = castIdle then
    if !castHolds s && patinaRuns s then castOpen b t s
    else if s.cast.held.isNone then
      (s.setCast { s.cast with held := some (b, t) }).set .cast CAST.STAT.HELD 1
    else castIgnore s
  else if castState s = castPost then castExtend b t s
  else castPass s

/-- CAST_TRIGGER: the oldest occurrence of source `b` that waits is applied; with none waiting, the source occurs now. -/
def castArrives (b : Nat) (s : State) : State :=
  match s.cast.arrived.find? (fun e => e.1 == b) with
  | some e => castTrigger b e.2 (s.setCast { s.cast with arrived := s.cast.arrived.erase e })
  | none => if testBit (s.get .cast CAST.CTL.TRIG_EN) b then castTrigger b s.nowNs s else s

/-- An occurrence of source `b` that reaches Cast at once (R316, R320). -/
def castOccurs (b : Nat) (s : State) : State :=
  if testBit (s.get .cast CAST.CTL.TRIG_EN) b then castTrigger b s.nowNs s else s

/-- CAST_HELD_TRIGGER: the held trigger opens a window once COMMIT is clear and RK7 runs (R321). -/
def castHeld (s : State) : State :=
  match s.cast.held with
  | none => s
  | some (b, t) =>
    if s.running .cast && castState s == castIdle && !castHolds s && patinaRuns s then
      castOpen b t ((s.setCast { s.cast with held := none }).set .cast CAST.STAT.HELD 0)
    else s

/-- SNAPSHOT_END: SNAP.US µs after the start the armed lanes stop capturing (R322). -/
def snapshotEnd (s : State) : State :=
  if !passed s .snapshot (s.get .cast CAST.SNAP.US * usNs) then s
  else allLanes.foldl (fun s n => if s.flag (.lrx n) LRX.SNAP_STAT.CAPTURING then captureEnd n s else s) s

/-! ## Commits (R323, R324) -/

/-- H(w) of the last committed window, as HEAD0 to HEAD7 show it. -/
def castHead (s : State) : Nat := sumNat ((List.range 8).map fun i => s.get .cast (CAST.HEAD.HEAD.at i) * 2 ^ (32 * i))

/-- Show a head. -/
def setCastHead (h : Nat) (s : State) : State :=
  (List.range 8).foldl (fun s i => s.set .cast (CAST.HEAD.HEAD.at i) (h / 2 ^ (32 * i))) s

/-- H(0) (R324). -/
def castHeadZero : BitVec 256 := digest (label "SQ3208-CAST" ++ bytes32 Config.deviceId)

/-- The blocks of a frozen buffer from a window's start to its end, oldest first (R323): a block is left out when all of
its records are later than the end or the next block begins before the start. -/
def windowBlocks (w : CastWindow) : List CastBlock → List CastBlock
  | b :: c :: rest =>
    if c.timeNs ≤ w.startNs then windowBlocks w (c :: rest)
    else if w.endNs < b.timeNs then []
    else b :: windowBlocks w (c :: rest)
  | [b] => if w.endNs < b.timeNs then [] else [b]
  | [] => []

/-- Lanes whose last capture belongs to the window's snapshot. -/
def windowLanes (s : State) (w : CastWindow) : List (Fin 8) :=
  if w.snap then allLanes.filter (fun n => match (lineRx s n).capture with
    | some k => decide (w.openedNs ≤ k.startNs)
    | none => false)
  else []

/-- A capture of the window was cut short. -/
def windowCut (s : State) (w : CastWindow) : Bool :=
  (windowLanes s w).any fun n => match (lineRx s n).capture with
    | some k => k.trunc || k.stopped
    | none => false

/-- Bytes 0-87 of a window's header (R323). -/
def windowHeader (s : State) (w : CastWindow) (blocks : Nat) (head : Nat) : List Byte :=
  let flags := bit w.extended + 2 * bit w.preShort + 4 * bit w.snap + 8 * bit (windowCut s w) + 16 * w.tb
  leBytes 4 w.number ++ leBytes 4 w.lost ++ leBytes 8 w.openedNs ++ leBytes 8 w.extendedNs ++ leBytes 8 w.startNs
    ++ leBytes 8 w.endNs ++ leBytes 2 w.bits ++ leBytes 1 flags
    ++ leBytes 1 (sumNat ((windowLanes s w).map fun n => 2 ^ n.val)) ++ leBytes 4 blocks ++ leBytes 4 w.ignored
    ++ leBytes 4 0 ++ leBytes 32 head

/-- The captures of the window's lanes, in lane order (R141, R323). -/
def windowCaptures (s : State) (w : CastWindow) : List Byte :=
  (windowLanes s w).flatMap fun n => match (lineRx s n).capture with
    | some k => captureBytes n k
    | none => []

/-- H(w) from H(w-1) and D(w) (R324). -/
def nextCastHead (head : Nat) (d : BitVec 256) : BitVec 256 := digest (leBytes 32 head ++ bytes32 d)

/-- CAST_COMMIT: RK7 has written the window and the lanes' captures, the Plinth signs, and the chain advances (R323,
R324). -/
def castCommit (s : State) : State :=
  match s.cast.committing with
  | none => s
  | some w =>
    if !castCommitting s || !patinaRuns s || !canSign s then s
    else if !archiveTakes s then archiveRefuse s
    else
      let blocks := windowBlocks w s.cast.frozen.reverse
      let head := windowHeader s w blocks.length (castHead s)
      let captures := windowCaptures s w
      let d := digest (head ++ blocks.flatMap castBlockBytes ++ captures)
      let h := nextCastHead (castHead s) d
      let sig := signed s (bytes32 h ++ leBytes 4 w.number ++ leBytes 8 w.openedNs)
      let stored : StoredWindow := ⟨head ++ bytes32 d ++ List.replicate 392 0, sig⟩
      let s := s.setCast { s.cast with stored := stored :: s.cast.stored, committing := none, frozen := [], lost := s.cast.lost - w.lost }
      let s := keepCommit areaCast [h.toNat, w.number] (setCastHead h.toNat s)
      let s := (s.set .cast CAST.STAT.COMMIT 0).set .cast CAST.STAT.SNAP_BUSY (s.get .cast CAST.STAT.SNAP_BUSY * bit (!w.snap))
      (s.bump .cast CAST.WIN_CNT.COUNT).raise .cast CAST.EVT.COMMITTED

/-- At a start, the window recorded as open above the last committed one is lost (R325). -/
def castLost (committed : Nat) (s : State) : State :=
  if committed < s.keep.openWindow then
    ((s.setCast { s.cast with lost := s.cast.lost + 1 }).bump .cast CAST.LOST.COUNT).raise .cast CAST.EVT.LOST
  else s

/-! ## Page behaviour (R326, R328) -/

/-- Entry to starting clears the counters (R326). -/
def castStart (s : State) : State :=
  s.clearAll .cast [CAST.WIN_CNT.COUNT, CAST.TRIG_IGN.COUNT, CAST.SNAP_SKIP.COUNT, CAST.RING_DROP.COUNT, CAST.LOST.COUNT]

/-- CAST refuses STOP with STOP_PRECOND, and entry to a low-power state, while a window is open or committed (R326). -/
def castStopBad (s : State) : Bool := castState s != castIdle || castCommitting s

/-- Writes CAST refuses with OUT_OF_RANGE (R328). -/
def castWriteBad (off : Nat) (new : Word) : Bool :=
  if off = CAST.WINDOW.POST.off then
    extract new 16 16 == 0 || decide (60000 < extract new 16 16) || decide (60000 < extract new 0 16)
  else if off = CAST.SNAP.US.off then extract new 0 11 == 0 || decide (2000 < extract new 0 11)
  else false

/-- What an accepted write brings beside the stored word (R320). -/
def castWritten (off : Nat) (new : Word) (s : State) : State :=
  if off = CAST.CTL.TRIG.off && extract new 16 1 == 1 then castOccurs 0 s else s

end Sys2Proof.Machine
end

