-- ==== Sys2Proof/Machine/Memory.lean ====
section
/-! DEFINITION. Machine/Memory.lean: on-die SRAM and LPDDR5X (R415-R431): the initialised map, checkers, scrubbers,
corrections, hard faults and remapping, and the count of uncorrectable errors. -/
namespace Sys2Proof.Machine

open Sys2Proof (Byte Word Carrier Page MemPlace CorrectedError)

/-- Replace the memories. -/
def State.setMem (s : State) (x : Memories) : State := { s with memories := x }

/-! ## LPDDR5X accesses (R419, R420) -/

/-- Addressable bytes and granules. -/
def lpddrBytes : Nat := 124 * 2 ^ 30
def granuleCount : Nat := 126976

/-- A line carries the poison pattern. -/
def poisoned (s : State) (line : Nat) : Bool := sparseRead (fun _ => false) s.memories.poisoned line

/-- An access to a granule that is being filled waits for the fill (R420). -/
def fillDone (g : Nat) (s : State) : State :=
  s.setMem { s.memories with filling := s.memories.filling.filter fun x => !(x == g) }

/-- Write bytes within one line of 64: a clear granule is filled with zero first; the line is no longer poisoned, and a
write-back queued for it is discarded (R420, R424, R428). -/
def lpddrWriteLine (a : Nat) (bs : List Byte) (s : State) : State :=
  let g := a / 2 ^ 20
  let s := fillDone g s
  let s := if granuleSet s g then s
    else
      let s := markGranule s a
      s.setMem { s.memories with filling := g :: s.memories.filling }
  let m := s.memories
  s.setMem { m with
    lpddr := writeBytes m.lpddr a bs
    poisoned := sparseWrite (fun _ => false) m.poisoned (a / 64) false
    lines := { m.lines with writeBack := m.lines.writeBack.filter fun x => !(x == a / 64) } }

/-- Write a byte string from byte address `a` on, line by line; `n` bounds the number of lines. -/
def lpddrWrite (a : Nat) (bs : List Byte) : Nat → State → State
  | 0, s => s
  | n + 1, s =>
    if bs.isEmpty then s
    else
      let k := 64 - a % 64
      lpddrWrite (a + k) (bs.drop k) n (lpddrWriteLine a (bs.take k) s)

/-- Read bytes within one line: a clear granule reads zero and counts in INIT_READ; answers whether the line is
poisoned (R420). -/
def lpddrReadLine (a n : Nat) (s : State) : State × List Byte × Bool :=
  let s := fillDone (a / 2 ^ 20) s
  if granuleSet s (a / 2 ^ 20) then (s, readBytes s.memories.lpddr a n, poisoned s (a / 64))
  else (s.bump .lpm LPM.INIT_READ.COUNT, List.replicate n 0, false)

/-- Read `lines` whole lines from a line-aligned address. -/
def lpddrRead (a : Nat) : Nat → State → State × List Byte × Bool
  | 0, s => (s, [], false)
  | n + 1, s =>
    let x := lpddrReadLine a 64 s
    let y := lpddrRead (a + 64) n x.1
    (y.1, x.2.1 ++ y.2.1, x.2.2 || y.2.2)

/-! ## Checkers (R417, R421) -/

/-- SRAM groups of a page (R541, R543), first and last. -/
def carrierGroups : Page → Option (Nat × Nat)
  | .txp _ => some (892, 895) | .cdc _ => some (896, 911) | .eqz _ => some (912, 913) | .trc _ => some (914, 914)
  | .cpr _ => some (915, 916) | .mls _ => some (917, 917) | .dmp _ => some (918, 918) | .fec _ => some (919, 970)
  | .lfm _ => some (971, 972) | .cry _ => some (973, 973)
  | _ => none

/-- The carrier of a carrier page. -/
def pageCarrier : Page → Option Carrier
  | .txp c => some c | .cdc c => some c | .eqz c => some c | .trc c => some c | .cpr c => some c
  | .mls c => some c | .dmp c => some c | .fec c => some c | .lfm c => some c | .cry c => some c
  | _ => none

/-- The SRAM groups a page uses (R541, R543). -/
def usesGroup (p : Page) (g : Nat) : Bool :=
  match carrierGroups p, pageCarrier p with
  | some (lo, hi), some c => decide (lo + 82 * c.idx ≤ g) && decide (g ≤ hi + 82 * c.idx)
  | _, _ =>
    match p with
    | .evr => g == 1097
    | .cj => decide (104 ≤ g) && decide (g ≤ 107)
    | .pwr => g == 1124
    | .tel => g == 1084
    | .fes => g == 1125
    | .rps => (decide (108 ≤ g) && decide (g ≤ 891)) || (decide (1126 ≤ g) && decide (g ≤ 1151))
    | .cast => decide (1085 ≤ g) && decide (g ≤ 1092)
    | .arc => decide (1104 ≤ g) && decide (g ≤ 1119)
    | .lpm => decide (1120 ≤ g) && decide (g ≤ 1123)
    | .qlt => decide (1093 ≤ g) && decide (g ≤ 1096)
    | .lrx n => g == 1056 + n.val
    | .ltx n => g == 1064 + n.val
    | .cpc c => decide (1072 + 2 * c.idx ≤ g) && decide (g ≤ 1073 + 2 * c.idx)
    | .hlk => decide (1100 ≤ g) && decide (g ≤ 1103)
    | .rk n => decide (12 * n.val ≤ g) && decide (g ≤ 12 * n.val + 11)
    | .tly n => g == 1076 + n.val
    | .arm => decide (1098 ≤ g) && decide (g ≤ 1099)
    | .pln => decide (96 ≤ g) && decide (g ≤ 103)
    | _ => false

/-- A failed checker whose failure stops the whole device from running carriers (R421). -/
def checkerFatal (g : Nat) : Bool :=
  decide (g ≤ 11) || (decide (96 ≤ g) && decide (g ≤ 103)) || decide (1152 ≤ g)

/-- The device runs no carrier until a device reset (R421). -/
def checkersFatal (s : State) : Bool := s.memories.failedCheckers.any checkerFatal

/-- R421 refuses RUN to a page. -/
def checkerRunBad (s : State) (p : Page) : Bool :=
  ((pageCarrier p).isSome && checkersFatal s) || s.memories.failedCheckers.any (fun g => usesGroup p g)

/-- The test of the checkers at a start (R421): failed checkers by number, lowest first. -/
def checkerTest (failed : List Nat) (s : State) : State :=
  match failed with
  | [] => s
  | g :: _ =>
    let s := s.setMem { s.memories with failedCheckers := failed }
    let s := ((s.set .ecc ECC.STAT.CHK_FAIL 1).addSat .ecc ECC.STAT.CHK_FAIL_CNT failed.length).set .ecc ECC.CHK_FAIL_ID.ID g
    s.raise .ecc ECC.EVT.CHK_FAIL

/-! ## Where an error lies -/

/-- Its address in its memory. -/
def placeAddress : MemPlace → Nat
  | .sram g w => 8192 * g + w
  | .line n => n

/-- Its page. -/
def placePage : MemPlace → Page
  | .sram _ _ => .ecc
  | .line _ => .lpm

/-- What watches it. -/
def watchOf (s : State) : MemPlace → MemoryWatch
  | .sram _ _ => s.memories.sram
  | .line _ => s.memories.lines

/-- Replace what watches it. -/
def putWatch (s : State) (p : MemPlace) (w : MemoryWatch) : State :=
  match p with
  | .sram _ _ => s.setMem { s.memories with sram := w }
  | .line _ => s.setMem { s.memories with lines := w }

/-- The spare group an address belongs to: its SRAM group, or its line's channel group (R418, R426). -/
def spareGroup : MemPlace → Nat
  | .sram g _ => g
  | .line n => Config.channelGroup n

/-- Spares of a group that are free (R415, R426). -/
def sparesFree (s : State) (p : MemPlace) : Nat :=
  let w := watchOf s p
  match p with
  | .sram g _ => 8 - (w.remapped.filter fun a => a / 8192 == g).length
  | .line n => 32 - ((w.remapped ++ w.copying).filter fun a => Config.channelGroup a == Config.channelGroup n).length

/-- An address that has been remapped: an SRAM word, or a line of a remapped row. -/
def remapped (s : State) (p : MemPlace) : Bool :=
  match p with
  | .sram _ _ => (watchOf s p).remapped.contains (placeAddress p)
  | .line n => (watchOf s p).remapped.any fun a => Config.rowOfLine a == Config.rowOfLine n

/-! ## Corrections and hard faults (R424-R427) -/

/-- The window of R425, ns. -/
def hardWindow (s : State) (p : MemPlace) : Nat :=
  match (watchOf s p).lastLap, p with
  | some t, _ => 2 * t
  | none, .sram _ _ => 100000000
  | none, .line _ => 2 * (lpddrBytes * 10 / max 1 (s.get .lpm LPM.CTL.SCRUB_RATE))

/-- A hard fault that is not remapped (R427). -/
def hardNoRemap (p : MemPlace) (s : State) : State :=
  match p with
  | .sram _ _ =>
    ((s.set .ecc ECC.STAT.HARD_NOREMAP 1).bump .ecc ECC.HARD_CNT.NOREMAP).raise .ecc ECC.EVT.HARD_NOREMAP
  | .line _ =>
    let s := ((s.set .lpm LPM.STAT.HARD_NOREMAP 1).bump .lpm LPM.HARD_CNT.NOREMAP).raise .lpm LPM.EVT.HARD_NOREMAP
    { s with mbox := { s.mbox with healthLow := true } }

/-- The remap records of the keep store (R426): the number of SRAM words, then the words, then the lines. -/
def remapPayload (s : State) : List Nat :=
  s.memories.sram.remapped.length :: (s.memories.sram.remapped ++ s.memories.lines.remapped)

/-- A remap is done: counted, stored and reported (R426). -/
def remapDone (p : MemPlace) (s : State) : State :=
  let w := watchOf s p
  let s := putWatch s p { w with remapped := w.remapped ++ [(placeAddress p)], copying := w.copying.erase (placeAddress p) }
  let s := keepCommit areaRemap (remapPayload s) s
  match p with
  | .sram _ _ =>
    ((s.bump .ecc ECC.HARD_CNT.REMAPPED).set .ecc ECC.SPARE_FREE.COUNT (s.get .ecc ECC.SPARE_FREE.COUNT - 1)).raise .ecc
      ECC.EVT.HARD_REMAP
  | .line _ =>
    ((s.bump .lpm LPM.HARD_CNT.REMAPPED).set .lpm LPM.SPARE_FREE.COUNT (s.get .lpm LPM.SPARE_FREE.COUNT - 1)).raise .lpm
      LPM.EVT.HARD_REMAP

/-- HARD_REMAP_EN of the place's page. -/
def remapEnabled (s : State) : MemPlace → Bool
  | .sram _ _ => s.flag .ecc ECC.CTL.HARD_REMAP_EN
  | .line _ => s.flag .lpm LPM.CTL.HARD_REMAP_EN

/-- A hard fault (R426, R427): an SRAM word is remapped at once, a line's row is copied first. -/
def hardFault (p : MemPlace) (s : State) : State :=
  if (watchOf s p).copying.contains (placeAddress p) then s
  else if !remapEnabled s p || remapped s p || sparesFree s p == 0 then hardNoRemap p s
  else
    match p with
    | .sram _ _ => remapDone p s
    | .line n =>
      let w := s.memories.lines
      s.setMem { s.memories with lines := { w with copying := w.copying ++ [n] } }

/-- A corrected address enters the history; the oldest entry of a full history is displaced (R425). -/
def enterHistory (p : MemPlace) (s : State) : State :=
  let w := watchOf s p
  let others := w.history.filter fun e => !(e.1 == (placeAddress p))
  let s := putWatch s p { w with history := (((placeAddress p), s.elapsedNs) :: others).take 64 }
  match p with
  | .sram _ _ => if 64 ≤ others.length then s.bump .ecc ECC.HIST_OVF.COUNT else s
  | .line _ => s

/-- Show the place of an error (R416, R430, R431). -/
def showPlace (p : MemPlace) (ue : Bool) (s : State) : State :=
  match p with
  | .sram g w =>
    let word := if 96 ≤ g ∧ g ≤ 103 then 0 else w
    if ue then (s.set .ecc ECC.LAST_UE.GROUP g).set .ecc ECC.LAST_UE.WORD word
    else (s.set .ecc ECC.LAST_CE.GROUP g).set .ecc ECC.LAST_CE.WORD word
  | .line n => 
    let s := s.setPair .lpm LPM.LAST_LO.LINE LPM.LAST_HI.LINE n
    setWord s .lpm LPM.LAST_HI.LINE.off (deposit (word s .lpm LPM.LAST_HI.LINE.off) 6 1 (bit ue))

/-- The core whose SRAM a group is (R415). -/
def groupCore (g : Nat) : Option (Fin 8) := if h : g / 12 < 8 then some ⟨g / 12, h⟩ else none

/-- ECC_CORRECTION: a correctable error is met, by any reader (R424, R425). -/
def eccCorrection (p : MemPlace) (s : State) : State :=
  let w := watchOf s p
  let hard := match w.history.find? (fun e => e.1 == (placeAddress p)) with
    | some e => decide (s.elapsedNs ≤ e.2 + hardWindow s p)
    | none => false
  let s := putWatch s p { w with writeBack := w.writeBack ++ [(placeAddress p)] }
  let s := match p with
    | .sram g _ =>
      let s := (s.bump .ecc ECC.CE_CNT.COUNT).raise .ecc ECC.EVT.CE
      match groupCore g with
      | some n => s.countCore n 0x10 1
      | none => s
    | .line _ => (s.bump .lpm LPM.CE_CNT.COUNT).raise .lpm LPM.EVT.CE
  let s := enterHistory p (showPlace p false s)
  if hard then hardFault p s else s

/-- A link error that link ECC corrects (R418, R431). -/
def linkError (s : State) : State :=
  let s := s.bump .lpm LPM.LINK_ERR.COUNT
  let due := match s.memories.linkErrAt with
    | none => true
    | some t => decide (t + 1000000000 ≤ s.elapsedNs)
  if due then (s.setMem { s.memories with linkErrAt := some s.elapsedNs }).raise .lpm LPM.EVT.LINK_ERR else s

/-- ECC_CORRECTION: what kind of correctable error a read met. -/
def correctedError (e : CorrectedError) (s : State) : State :=
  match e with
  | .place p => eccCorrection p s
  | .link => linkError s
  | .mram => s.bump .mrm MRM.CE_CNT.COUNT

/-- CORRECTION_WRITEBACK: the oldest queued write-back of a memory is done (R424). -/
def writebackDone (lines : Bool) (s : State) : State :=
  let p : MemPlace := if lines then .line 0 else .sram 0 0
  let w := watchOf s p
  putWatch s p { w with writeBack := w.writeBack.tail }

/-- ROW_REMAP_COPY_DONE: the copy of the row that holds line `n` ends (R426). -/
def rowCopyDone (n : Nat) (s : State) : State :=
  if s.memories.lines.copying.contains n then remapDone (.line n) s else s

/-! ## Scrubbing (R422, R423) -/

/-- The scrubbers run while both SCRUB_EN bits are set. -/
def scrubbing (s : State) : Bool := s.flag .ecc ECC.CTL.SCRUB_EN && s.flag .lpm LPM.CTL.SCRUB_EN

/-- Addresses of a lap: the SRAM's words with its spares in use, or the lines of the initialised granules (R415, R422). -/
def lapLength (lines : Bool) (s : State) : Nat :=
  if lines then s.memories.granules.length * 16384 else 1152 * 8192 + s.memories.sram.remapped.length

/-- LAP_WARN in nanoseconds (R430, R431). -/
def lapLimit (lines : Bool) (s : State) : Nat :=
  if lines then s.get .lpm LPM.CTL.LAP_WARN * secNs else s.get .ecc ECC.CTL.LAP_WARN * 10 * msNs

/-- Time of one 64-byte line at SCRUB_RATE (R422). -/
def scrubLineNs (s : State) : Nat := ceilDiv 640 (max 1 (s.get .lpm LPM.CTL.SCRUB_RATE))

/-- SCRUB_ACCESS: the scrubber of a memory reads its next address, queued write-backs going first (R424), and lines no faster than
SCRUB_RATE. -/
def scrubAccess (lines : Bool) (s : State) : State :=
  let p : MemPlace := if lines then .line 0 else .sram 0 0
  let w := watchOf s p
  if !scrubbing s || !w.writeBack.isEmpty || decide (lapLength lines s ≤ w.position)
    || (lines && !spaced s .scrubbed (scrubLineNs s)) then s
  else
    let s := if lines then startTimer .scrubbed s else s
    putWatch s p { w with position := w.position + 1 }

/-- SCRUB_LAP_END: the scrubber passes the last address (R423). -/
def scrubLapEnd (lines : Bool) (s : State) : State :=
  let p : MemPlace := if lines then .line 0 else .sram 0 0
  let w := watchOf s p
  if !scrubbing s || decide (w.position < lapLength lines s) then s
  else
    let lap := s.elapsedNs - w.lapStart
    let s := putWatch s p { w with position := 0, lapStart := s.elapsedNs, lastLap := some lap,
                                   warned := w.warned && decide (lapLimit lines s < lap) }
    if lines then
      (s.addWrap .lpm LPM.SCRUB.LAPS 1).set .lpm LPM.SCRUB.LAP_S (min (lap / secNs) 0xFFFF)
    else (s.addWrap .ecc ECC.SCRUB.LAPS 1).set .ecc ECC.SCRUB.LAP_MS (min (lap / msNs) 0xFFFF)

/-- LAP_SLOW: the lap in progress has run longer than LAP_WARN; once until a lap ends within it (R423). -/
def lapSlow (lines : Bool) (s : State) : State :=
  let p : MemPlace := if lines then .line 0 else .sram 0 0
  let w := watchOf s p
  if !scrubbing s || w.warned || decide (s.elapsedNs ≤ w.lapStart + lapLimit lines s) then s
  else
    let s := putWatch s p { w with warned := true }
    if lines then s.raise .lpm LPM.EVT.LAP_SLOW else s.raise .ecc ECC.EVT.LAP_SLOW

/-! ## Uncorrectable errors (R428) -/

/-- An uncorrectable error is counted, its address shown and UE raised (R428). -/
def countUe (p : MemPlace) (s : State) : State :=
  let s := showPlace p true s
  match p with
  | .sram _ _ => (s.bump .ecc ECC.UE_CNT.COUNT).raise .ecc ECC.EVT.UE
  | .line _ => (s.bump .lpm LPM.UE_CNT.COUNT).raise .lpm LPM.EVT.UE

/-- The scrubber rewrites a line it cannot correct with the poison pattern (R428). -/
def poisonLine (n : Nat) (s : State) : State :=
  if poisoned s n then s
  else
    (s.setMem { s.memories with poisoned := sparseWrite (fun _ => false) s.memories.poisoned n true }).bump .lpm
      LPM.POISONED.COUNT

/-! ## Rows of R420 -/

/-- GRANULE_FIRST_WRITE: a write of a line's bytes to a granule whose bit is clear. -/
def granuleFirstWrite (a : Nat) (bs : List Byte) (s : State) : State :=
  if granuleSet s (a / 2 ^ 20) || lpddrBytes ≤ a then s else lpddrWriteLine (a / 64 * 64) (bs.take 64) s

/-- UNINITIALISED_READ: a read of a line of a granule whose bit is clear returns zero; the bytes are the answer. -/
def uninitialisedRead (a : Nat) (s : State) : State :=
  if granuleSet s (a / 2 ^ 20) then s
  else
    let x := lpddrReadLine (a / 64 * 64) 64 s
    { x.1 with answer := .bytes x.2.1 }

/-! ## Page behaviour (R430, R431) -/

/-- Writes ECC refuses with OUT_OF_RANGE. -/
def eccWriteBad (off : Nat) (new : Word) : Bool := off == ECC.CTL.LAP_WARN.off && extract new 8 8 == 0

/-- Writes LPM refuses with OUT_OF_RANGE. -/
def lpmWriteBad (off : Nat) (new : Word) : Bool :=
  off == LPM.CTL.LAP_WARN.off && (extract new 24 8 == 0 || extract new 8 8 == 0)

end Sys2Proof.Machine
end

