-- ==== Sys2Proof/Machine/Router.lean ====
section
/-! DEFINITION. Machine/Router.lean: the event router (R69-R73): routes, delivery by MSI-X, to a Reckoner line or to the
Plinth, and the software sources. -/
namespace Sys2Proof.Machine

open Sys2Proof (Word Carrier Page)

/-- Sources whose route sets PLN_EN at reset (R72, R467). -/
def plinthSources : List Nat :=
  [sourceOf (.cry .a) CRY.EVT.TAG_BURST, sourceOf (.cry .b) CRY.EVT.TAG_BURST,
   sourceOf (.cry .a) CRY.EVT.EXPIRED, sourceOf (.cry .b) CRY.EVT.EXPIRED,
   sourceOf (.cry .a) CRY.EVT.GUARD_BLANK, sourceOf (.cry .b) CRY.EVT.GUARD_BLANK,
   sourceOf (.cry .a) CRY.EVT.KAT_FAIL, sourceOf (.cry .b) CRY.EVT.KAT_FAIL]
  ++ [sourceOf .tel TEL.EVT.TAP_ALARM_A, sourceOf .tel TEL.EVT.TAP_ALARM_B,
   sourceOf .ecc ECC.EVT.UE, sourceOf .ecc ECC.EVT.HARD_NOREMAP, sourceOf .ecc ECC.EVT.CHK_FAIL,
   sourceOf .lpm LPM.EVT.UE, sourceOf .lpm LPM.EVT.HARD_NOREMAP,
   sourceOf .arc ARC.EVT.UE, sourceOf .arc ARC.EVT.TARGET_FAIL,
   sourceOf .mrm MRM.EVT.SLOT_LOST, sourceOf .mrm MRM.EVT.UE]
  ++ [sourceOf .cj CJ.EVT.LOSS, sourceOf .arm ARM.EVT.VC_VIOLATION,
   sourceOf .fes FES.EVT.FAULT_A, sourceOf .fes FES.EVT.FAULT_B,
   sourceOf (.rk 0) RK.EVT.DOUBLE_FAULT, sourceOf (.rk 0) RK.EVT.HALTED,
   sourceOf (.hk 0) HK.EVT.PLAUS, sourceOf (.hk 1) HK.EVT.PLAUS,
   sourceOf .pwr PWR.EVT.REG_FAIL, sourceOf .tb TB.EVT.LREF_LOSS,
   sourceOf .bst BST.EVT.SD_FAIL, sourceOf .bst BST.EVT.BLOCK_FAIL]

/-- The route entry of a source at reset (R72). -/
def routeReset (src : Nat) : Word := if plinthSources.contains src then 0x8000 else 0

/-- The route entry of a source. -/
def route (s : State) (src : Nat) : Word := sparseRead routeReset s.evr.routes src

/-- A field of a source's route entry. -/
def routeField (s : State) (src : Nat) (f : Field) : Nat := extract (route s src) f.lo f.width

/-- Send the MSI-X message of a vector, or hold it pending while the vector or the function is masked (R70, R367). -/
def sendMsix (s : State) (vector : Nat) : State :=
  if s.msix.functionMask || testBit s.msix.masked vector then
    { s with msix := { s.msix with pendingBits := setBit s.msix.pendingBits vector } }
  else { s with msix := { s.msix with sent := vector :: s.msix.sent } }

/-- Send the MSI-X message of a source's route (R70). -/
def deliverMsix (s : State) (src : Nat) : State :=
  if routeField s src EVR.RT_DATA.MSIX_EN = 1 then sendMsix s (routeField s src EVR.RT_DATA.VECTOR) else s

/-- The Plinth is notified of a source and logs it (R70, R467); after a lockstep failure no firmware does (R474). -/
def notifyPlinth (s : State) (src : Nat) : State :=
  if s.flag .pln PLN.STAT.LOCKSTEP_FAIL then s
  else secLog { s with evr := { s.evr with plinthNotices := src :: s.evr.plinthNotices } } .routed 0 src

/-- Notify the Plinth when a source's route says so (R70). -/
def deliverPlinth (s : State) (src : Nat) : State :=
  if routeField s src EVR.RT_DATA.PLN_EN = 1 then notifyPlinth s src else s

/-- A source becomes pending in EVR and is delivered by its route (R70). -/
def setPending (s : State) (src : Nat) : State :=
  if s.evr.pending.contains src then s
  else
    let s := { s with evr := { s.evr with pending := src :: s.evr.pending } }
    deliverPlinth (deliverMsix s src) src

/-- A source stops being pending in EVR (R70). -/
def clearPending (s : State) (src : Nat) : State :=
  { s with evr := { s.evr with pending := s.evr.pending.filter fun x => !(x == src) } }

/-- Level of interrupt line `line` of core `core`: the OR of the pending sources routed to it (R70). -/
def lineLevel (s : State) (core line : Nat) : Bool :=
  s.evr.pending.any fun src =>
    routeField s src EVR.RT_DATA.CORE_EN == 1 && routeField s src EVR.RT_DATA.CORE == core
      && routeField s src EVR.RT_DATA.LINE == line

/-- The sources whose oldest message in flight is a set message. -/
def waitingSets (s : State) : List Nat :=
  s.evr.messages.filterMap fun m =>
    match s.evr.messages.find? (fun x => x.1 == m.1) with
    | some (src, true) => some src
    | _ => none

/-- Whether source `x` is delivered before source `y`: higher priority, then lower number (R70). -/
def deliverBefore (s : State) (x y : Nat) : Bool :=
  let px := routeField s x EVR.RT_DATA.PRIO
  let py := routeField s y EVR.RT_DATA.PRIO
  decide (py < px) || (px == py && decide (x ≤ y))

/-- The waiting source that is delivered next (R70). -/
def nextSet (s : State) : Option Nat :=
  match waitingSets s with
  | [] => none
  | x :: xs => some (xs.foldl (fun a b => if deliverBefore s a b then a else b) x)

/-- Drop the oldest message of a source. -/
def dropMessage (src : Nat) : List (Nat × Bool) → List (Nat × Bool)
  | [] => []
  | m :: ms => if m.1 == src then ms else m :: dropMessage src ms

/-- The source no longer goes to a vector (R73): a message still held for that vector is withdrawn, unless another pending
source is routed to it. -/
def withdrawMsix (s : State) (vector : Nat) : State :=
  if s.evr.pending.any fun x => routeField s x EVR.RT_DATA.MSIX_EN == 1 && routeField s x EVR.RT_DATA.VECTOR == vector then s
  else { s with msix := { s.msix with pendingBits := clearBit s.msix.pendingBits vector } }

/-- Replace a route entry (R72) with the re-deliveries and withdrawals of R73 for a source that is pending. -/
def setRoute (s : State) (src : Nat) (w : Word) : State :=
  let old := route s src
  let s := { s with evr := { s.evr with routes := sparseWrite routeReset s.evr.routes src w } }
  if s.evr.pending.contains src then
    let s := if extract old 6 1 = 0 && extract w 6 1 = 1 then sendMsix s (extract w 0 6)
      else if extract old 6 1 = 1 && extract w 6 1 = 0 then withdrawMsix s (extract old 0 6)
      else s
    if extract old 15 1 = 0 && extract w 15 1 = 1 then notifyPlinth s src else s
  else s

/-- The route entry of a source as last accepted. -/
def routeAccepted (s : State) (src : Nat) : Word :=
  match s.evr.staged.find? fun x => x.1 == src with
  | some x => x.2
  | none => route s src

/-- An accepted write of RT_DATA waits for the next event message; of several only the last is kept (R53, R72). -/
def stageRoute (s : State) (src : Nat) (w : Word) : State :=
  { s with evr := { s.evr with staged := (s.evr.staged.filter fun x => x.1 != src) ++ [(src, w)] } }

/-- An event message reaches EVR: the route entries accepted since the last one replace theirs (R55, R72). -/
def applyRoutes (s : State) : State :=
  s.evr.staged.foldl (fun s x => setRoute s x.1 x.2) { s with evr := { s.evr with staged := [] } }

/-- EVR takes the next set message (R70). -/
def takeSetMessage (s : State) : State :=
  match nextSet s with
  | none => s
  | some first =>
    let s := applyRoutes s
    let src := (nextSet s).getD first
    setPending { s with evr := { s.evr with messages := dropMessage src s.evr.messages } } src

/-- EVR takes the clear message of a source, when that is the source's oldest message (R70). -/
def takeClearMessage (s : State) (src : Nat) : State :=
  match s.evr.messages.find? (fun x => x.1 == src) with
  | some (_, false) =>
    let s := applyRoutes s
    clearPending { s with evr := { s.evr with messages := dropMessage src s.evr.messages } } src
  | _ => s

/-- Put a source among sources that are in the order of their delivery. -/
def orderInsert (s : State) (x : Nat) : List Nat → List Nat
  | [] => [x]
  | y :: ys => if deliverBefore s x y then x :: y :: ys else y :: orderInsert s x ys

/-- Sources that are due at the same instant in the order of their delivery (R70). -/
def deliveryOrder (s : State) (xs : List Nat) : List Nat := xs.foldr (orderInsert s) []

/-- Raise the software sources named by a mask (R71): those of one write are delivered by priority, then by number (R70).
The write counts as an event message of its sources (DEDUCED, log entry 14). -/
def softwareSet (s : State) (mask : Nat) : State :=
  let s := applyRoutes s
  let s := { s with evr := { s.evr with software := s.evr.software ||| (mask % 0x10000) } }
  let due := ((List.range 16).filter (testBit mask ·)).map (1520 + ·)
  (deliveryOrder s due).foldl setPending s

/-- Clear the software sources named by a mask (R71). -/
def softwareClear (s : State) (mask : Nat) : State :=
  let s := applyRoutes s
  (List.range 16).foldl
    (fun s n =>
      if testBit mask n then
        clearPending { s with evr := { s.evr with software := clearBit s.evr.software n } } (1520 + n)
      else s) s

/-- `EVR.PENDw` (R71): bit b is source 32w + b. -/
def pendWord (s : State) (w : Nat) : Nat :=
  sumNat ((List.range 32).map fun b => if s.evr.pending.contains (32 * w + b) then 2 ^ b else 0)

/-- Unmask a vector (R367): a held message is sent. -/
def unmaskVector (s : State) (vector : Nat) : State :=
  let s := { s with msix := { s.msix with masked := clearBit s.msix.masked vector } }
  if !s.msix.functionMask && testBit s.msix.pendingBits vector then
    { s with msix := { s.msix with pendingBits := clearBit s.msix.pendingBits vector, sent := vector :: s.msix.sent } }
  else s

/-- Unmask the function (R367): the held messages of unmasked vectors are sent in vector order. -/
def unmaskFunction (s : State) : State :=
  let s := { s with msix := { s.msix with functionMask := false } }
  (List.range 64).foldl
    (fun s v =>
      if testBit s.msix.pendingBits v && !testBit s.msix.masked v then
        { s with msix := { s.msix with pendingBits := clearBit s.msix.pendingBits v, sent := v :: s.msix.sent } }
      else s) s

end Sys2Proof.Machine
end

