-- ==== Sys2Proof/Machine/SerialLanes.lean ====
section
/-! DEFINITION. Machine/SerialLanes.lean: the client lanes (R346-R355): receive states, patterns, error injection and the
eye scan. -/
namespace Sys2Proof.Machine

open Sys2Proof (Byte Word Carrier Page ClxEvent EyeLane)

/-! ## Receive and transmit states (R347, R348) -/

/-- `CLXn.STAT.RX_STATE` codes. -/
def clxOff : Nat := 0
def clxIdle : Nat := 1
def clxCdr : Nat := 2
def clxAdapt : Nat := 3
def clxReady : Nat := 4

/-- Receive state of a lane. -/
def clxState (s : State) (n : Fin 16) : Nat := s.get (.clx n) CLX.STAT.RX_STATE

/-- The lane's checker. -/
def laneChecker (s : State) (n : Fin 16) : LaneChecker := s.checkers.get n

/-- Replace it. -/
def putChecker (s : State) (n : Fin 16) (x : LaneChecker) : State := { s with checkers := s.checkers.set n x }

/-- The checker leaves SYNC and seeds itself again. -/
def checkerReseed (n : Fin 16) (s : State) : State := (putChecker s n ⟨0, 0, [], []⟩).set (.clx n) CLX.CHK_STAT.SYNC 0

/-- A running scan of a client lane is abandoned (R352). -/
def clxEyeAbandon (n : Fin 16) (s : State) : State := s.set (.clx n) CLX.EYE_STAT.BUSY 0

/-- Enter a receive state; leaving READY stops the checker and the eye scan, and takes the lane's port DOWN (R339). -/
def clxEnter (n : Fin 16) (st : Nat) (s : State) : State :=
  let was := clxState s n
  let s := startTimer (.laneState n) (s.set (.clx n) CLX.STAT.RX_STATE st)
  if was = clxReady ∧ st ≠ clxReady then lanePortDown n (clxEyeAbandon n (checkerReseed n s)) else s

/-- A lane has been in its receive state for longer than `ns`. -/
def clxOver (s : State) (n : Fin 16) (ns : Nat) : Bool := passed s (.laneState n) (ns + 1)

/-- Bounds of R347 for the lock and for convergence. -/
def clxLockNs : Nat := 2 * msNs
def clxAdaptNs : Nat := 50 * msNs

/-- What adaptation reaches is shown; ADAPT_FREEZE holds the CTLE and DFE settings (R347). -/
def clxAdapted (n : Fin 16) (snr dfe1 ctle : BitVec 8) (s : State) : State :=
  let s := s.set (.clx n) CLX.RX_EQ.SNR snr.toNat
  if s.flag (.clx n) CLX.CTL.ADAPT_FREEZE then s
  else (s.set (.clx n) CLX.RX_EQ.DFE1 dfe1.toNat).set (.clx n) CLX.RX_EQ.CTLE ctle.toNat

/-- CLX_RX_STATE: what moves the receive state (R347). -/
def clxReceive (n : Fin 16) (e : ClxEvent) (s : State) : State :=
  let st := clxState s n
  match e with
  | .signal => if st = clxIdle then clxEnter n clxCdr s else s
  | .cdrLock => if st = clxCdr && !clxOver s n clxLockNs then clxEnter n clxAdapt s else s
  | .adapted snr dfe1 ctle =>
    if st = clxAdapt && !clxOver s n clxAdaptNs then
      (clxEnter n clxReady (clxAdapted n snr dfe1 ctle s)).raise (.clx n) CLX.EVT.RX_READY
    else if st = clxReady then clxAdapted n snr dfe1 ctle s
    else s
  | .lockLost => if st = clxReady then (clxEnter n clxCdr s).raise (.clx n) CLX.EVT.RX_LOST else s
  | .signalGone =>
    if st = clxReady then (clxEnter n clxIdle s).raise (.clx n) CLX.EVT.RX_LOST
    else if st = clxCdr ∨ st = clxAdapt then clxEnter n clxIdle s
    else s

/-- CLX_RX_TIMEOUT: lock or convergence misses its bound (R347, R353). -/
def clxTimeout (n : Fin 16) (s : State) : State :=
  if clxState s n = clxCdr && passed s (.laneState n) clxLockNs then (clxEnter n clxIdle s).errlog (.clx n) 1 0
  else if clxState s n = clxAdapt && passed s (.laneState n) clxAdaptNs then (clxEnter n clxIdle s).errlog (.clx n) 1 1
  else s

/-- The electrical-idle detector is powered: the receiver is, or EI_WAKE is set (R348, R353); in Off nothing is (R349). -/
def clxDetector (s : State) (n : Fin 16) : Bool :=
  (clxState s n != clxOff || s.flag (.clx n) CLX.CTL.EI_WAKE) && s.power != pwrOff

/-- EI_EXIT: the detector sees an exit from electrical idle (R348). -/
def clxEiExit (n : Fin 16) (s : State) : State :=
  if clxDetector s n then s.raise (.clx n) CLX.EVT.EI_EXIT else s

/-- The receiver follows RX_EN and the page's run state (R347). -/
def clxFollow (n : Fin 16) (s : State) : State :=
  let on := s.flag (.clx n) CLX.CTL.RX_EN && s.running (.clx n) && decide (s.power ≤ pwrIdle)
  let s := if !on then (if clxState s n = clxOff then s else clxEnter n clxOff s)
    else if clxState s n = clxOff then clxEnter n clxIdle s
    else s
  let tx := if !s.running (.clx n) then 0
    else if s.flag (.clx n) CLX.CTL.TX_EN && decide (s.power ≤ pwrIdle) then 2 else 1
  s.set (.clx n) CLX.STAT.TX_STATE tx

/-! ## Patterns and injection (R350, R351) -/

/-- Bits over which a loss of sync is judged. -/
def checkerSpan : Nat := 4096

/-- The bit the checker expects next under CHK_PAT. -/
def checkerExpects (s : State) (n : Fin 16) : Bool :=
  Config.patternNext (s.get (.clx n) CLX.PAT_CTL.CHK_PAT) (laneChecker s n).recent

/-- Bits that determine the next bit of any checked pattern (PRBS31Q). -/
def checkerDepth : Nat := 31

/-- CHK_BIT_COMPARE: the checker compares one received bit, Gray-decoded, with the pattern (R350).  Out of SYNC it takes its
seed from the received bits, in SYNC the pattern runs on from it. -/
def checkerBit (n : Fin 16) (received : Bool) (s : State) : State :=
  if !s.flag (.clx n) CLX.PAT_CTL.CHK_EN || clxState s n != clxReady then s
  else
    let x := laneChecker s n
    let expected := checkerExpects s n
    let wrong := received != expected
    let recent := ((if s.flag (.clx n) CLX.CHK_STAT.SYNC then expected else received) :: x.recent).take checkerDepth
    let errors := (if wrong then [x.bits] else []) ++ x.errors.filter fun b => decide (x.bits < b + checkerSpan)
    let clean := if wrong then 0 else x.clean + 1
    let s := putChecker s n ⟨x.bits + 1, clean, errors, recent⟩
    if s.flag (.clx n) CLX.CHK_STAT.SYNC then
      let s := s.addPair (.clx n) CLX.CHK_BITS_LO.COUNT CLX.CHK_BITS_HI.COUNT 1
      let s := if wrong then s.bump (.clx n) CLX.CHK_ERR.COUNT else s
      if 512 < errors.length then ((checkerReseed n s).bump (.clx n) CLX.CHK_STAT.LOSS).raise (.clx n) CLX.EVT.CHK_LOST
      else s
    else if 1024 ≤ clean then
      ((putChecker s n ⟨0, 0, [], recent⟩).set (.clx n) CLX.CHK_STAT.SYNC 1).raise (.clx n) CLX.EVT.CHK_SYNC
    else s

/-- The lane's transmitter is on. -/
def clxSending (s : State) (n : Fin 16) : Bool := s.get (.clx n) CLX.STAT.TX_STATE == 2

/-- One bit of the transmitted stream is inverted (R351). -/
def clxInvert (n : Fin 16) (s : State) : State := if clxSending s n then s.bump (.clx n) CLX.INJ_CNT.COUNT else s

/-- Time of 2^RATE_LOG2 bits at 212.5 Gb/s (R346, R351). -/
def clxPeriodNs (s : State) (n : Fin 16) : Nat := ceilDiv (2 * 2 ^ s.get (.clx n) CLX.INJ_CTL.RATE_LOG2) 425

/-- CLX_INJECT_PERIODIC: 2^RATE_LOG2 bits have passed in periodic mode (R351). -/
def clxPeriodic (n : Fin 16) (s : State) : State :=
  if s.get (.clx n) CLX.INJ_CTL.MODE = 1 && spaced s (.inverted n) (clxPeriodNs s n) then
    clxInvert n (startTimer (.inverted n) s)
  else s

/-! ## Eye scan (R352) -/

/-- Time of an eye scan on a client lane, of 2^LOG2_UI unit intervals at 106.25 GBd (R346, R352). -/
def clxEyeNs (s : State) (n : Fin 16) : Nat := ceilDiv (4 * 2 ^ s.get (.clx n) CLX.EYE_CTL.LOG2_UI) 425

/-- A START strobe on a client lane: ignored and counted while a scan runs; a lane that is not READY has no scan to
run. -/
def clxEyeStart (n : Fin 16) (s : State) : State :=
  if s.flag (.clx n) CLX.EYE_STAT.BUSY then s.bump (.clx n) CLX.EYE_STAT.OVR
  else startTimer (.clientEye n) ((s.set (.clx n) CLX.EYE_STAT.DONE 0).setFlag (.clx n) CLX.EYE_STAT.BUSY (clxState s n == clxReady))

/-- The host link is up. -/
def hostUp (s : State) : Bool := s.flag .hlk HLK.LINK_STAT.UP

/-- Time of an eye scan on a host lane, whose unit interval LINK_STAT.RATE gives (R352, R371). -/
def hostEyeNs (s : State) : Nat :=
  let ui := 2 ^ s.get .hlk HLK.EYE_CTL.LOG2_UI
  match s.get .hlk HLK.LINK_STAT.RATE with
  | 1 => ceilDiv (2 * ui) 5
  | 2 => ceilDiv ui 5
  | 3 => ceilDiv ui 8
  | 4 => ceilDiv ui 16
  | _ => ceilDiv ui 32

/-- The host link goes down; an eye scan of a host lane is abandoned (R352, R359, R551). -/
def linkDown (s : State) : State :=
  if hostUp s then
    (s.clearAll .hlk [HLK.LINK_STAT.UP, HLK.LINK_STAT.RATE, HLK.LINK_STAT.WIDTH, HLK.LINK_STAT.CXL, HLK.LINK_STAT.MEM_EN,
      HLK.LINK_STAT.L1, HLK.LINK_STAT.SRIS, HLK.EYE_STAT.BUSY]).raise .hlk HLK.EVT.LINK_DOWN
  else s

/-- A START strobe on the host lane EYE_LANE names: ignored and counted also while a margining command runs on it. -/
def hlkEyeStart (s : State) : State :=
  if s.flag .hlk HLK.EYE_STAT.BUSY || s.hostLink.margin == some (s.get .hlk HLK.EYE_LANE.LANE) then
    s.bump .hlk HLK.EYE_STAT.OVR
  else startTimer .hostEye ((s.set .hlk HLK.EYE_STAT.DONE 0).setFlag .hlk HLK.EYE_STAT.BUSY (hostUp s))

/-- EYE_DONE: the scan ends after its unit intervals with a mismatch count, at most one each. -/
def eyeDone (l : EyeLane) (mismatches : Nat) (s : State) : State :=
  match l with
  | .client n =>
    if s.flag (.clx n) CLX.EYE_STAT.BUSY && passed s (.clientEye n) (clxEyeNs s n) then
      let s := (s.set (.clx n) CLX.EYE_STAT.BUSY 0).set (.clx n) CLX.EYE_STAT.DONE 1
      (s.set (.clx n) CLX.EYE_ERR.COUNT (min mismatches (2 ^ s.get (.clx n) CLX.EYE_CTL.LOG2_UI))).raise (.clx n) CLX.EVT.EYE_DONE
    else s
  | .host _ =>
    if s.flag .hlk HLK.EYE_STAT.BUSY && passed s .hostEye (hostEyeNs s) then
      let s := (s.set .hlk HLK.EYE_STAT.BUSY 0).set .hlk HLK.EYE_STAT.DONE 1
      (s.set .hlk HLK.EYE_ERR.COUNT (min mismatches (2 ^ s.get .hlk HLK.EYE_CTL.LOG2_UI))).raise .hlk HLK.EVT.EYE_DONE
    else s

/-- EYE_ABANDON: the lane leaves READY, or the host lane retrains, during a scan. -/
def eyeAbandon (l : EyeLane) (s : State) : State :=
  match l with
  | .client n => clxEyeAbandon n s
  | .host _ => s.set .hlk HLK.EYE_STAT.BUSY 0

/-- LANE_MARGINING_COMMAND: a margining command begins or ends on a host lane; one that meets a running scan of the lane is
answered busy. -/
def laneMargin (lane : Fin 8) (begins : Bool) (s : State) : State :=
  if begins then
    let busy := s.flag .hlk HLK.EYE_STAT.BUSY && s.get .hlk HLK.EYE_LANE.LANE == lane.val
    { s with hostLink := { s.hostLink with margin := if busy then s.hostLink.margin else some lane.val, marginBusy := busy } }
  else if s.hostLink.margin = some lane.val then { s with hostLink := { s.hostLink with margin := none } }
  else s

/-! ## Page behaviour (R353, R354) -/

/-- Entry to starting clears the counters. -/
def clxStart (n : Fin 16) (s : State) : State :=
  s.clearAll (.clx n) [CLX.CHK_STAT.LOSS, CLX.CHK_BITS_LO.COUNT, CLX.CHK_BITS_HI.COUNT, CLX.CHK_ERR.COUNT,
    CLX.INJ_CNT.COUNT, CLX.EYE_STAT.OVR]

/-- Sum of the magnitudes of the transmit taps. -/
def clxTapSum (w : Word) : Nat :=
  let mag (lo : Nat) : Nat := (toSigned 6 (extract w lo 6)).natAbs
  mag 24 + mag 18 + mag 12 + extract w 6 6 + mag 0

/-- The eye-scan fields of CLXn and HLK that are refused with OUT_OF_RANGE. -/
def eyeWriteBad (new : Word) : Bool :=
  extract new 29 2 == 3 || decide (extract new 24 5 < 10) || extract new 8 7 == 0x40

/-- Writes CLXn refuses with OUT_OF_RANGE. -/
def clxWriteBad (off : Nat) (new : Word) : Bool :=
  if off = CLX.TXFIR.MAIN.off then decide (64 < clxTapSum new)
  else if off = CLX.PAT_CTL.CHK_EN.off then decide (1 < extract new 8 3) || decide (3 < extract new 0 3)
  else if off = CLX.INJ_CTL.MODE.off then
    decide (extract new 8 6 < 10) || decide (40 < extract new 8 6) || decide (1 < extract new 0 2)
  else if off = CLX.EYE_CTL.START.off then eyeWriteBad new
  else false

/-- What an accepted write brings beside the stored word. -/
def clxWritten (n : Fin 16) (off : Nat) (old new : Word) (s : State) : State :=
  if off = CLX.CTL.RX_EN.off then clxFollow n s
  else if off = CLX.PAT_CTL.CHK_EN.off then
    if extract old 8 4 = extract new 8 4 then s else checkerReseed n s
  else if off = CLX.INJ_CTL.SINGLE.off then
    let s := if extract new 0 2 = 1 && extract old 0 2 != 1 then startTimer (.inverted n) s else s
    if extract new 2 1 = 1 then clxInvert n s else s
  else if off = CLX.EYE_CTL.START.off then (if extract new 31 1 = 1 then clxEyeStart n s else s)
  else s

end Sys2Proof.Machine
end

