-- ==== Sys2Proof/Machine/HostLink.lean ====
section
/-! DEFINITION. Machine/HostLink.lean: the CXL host link (R356-R372): training, recovery, credits, the HDM window, IDE and
the page. -/
namespace Sys2Proof.Machine

open Sys2Proof (Byte Word Carrier Page)

/-- Replace the host link's state. -/
def State.setHost (s : State) (x : HostLink) : State := { s with hostLink := x }

/-! ## Link state (R357, R358) -/

/-- Rate code of MAX_RATE (R371). -/
def hostRateCap (s : State) : Nat := s.get .hlk HLK.CTL.MAX_RATE + 3

/-- Lanes of MAX_WIDTH. -/
def hostWidthCap (s : State) : Nat := 2 ^ s.get .hlk HLK.CTL.MAX_WIDTH

/-- Show a rate and width; CXL operates at 8, 16 and 32 GT/s (R356). -/
def hostShow (rate width : Nat) (s : State) : State :=
  let s := (s.set .hlk HLK.LINK_STAT.RATE rate).set .hlk HLK.LINK_STAT.WIDTH width
  (s.setFlag .hlk HLK.LINK_STAT.CXL (decide (3 ≤ rate))).set .hlk HLK.LINK_STAT.SRIS (s.get .hlk HLK.CTL.CLK_MODE)

/-- PERST_N is released: training starts (R357). -/
def perstRelease (s : State) : State := s.setHost { s.hostLink with perst := false }

/-- PERST_N is asserted: the PHY and link layers are reset and the link goes down; nothing else changes (R551). -/
def perstAssert (s : State) : State := linkDown (s.setHost { s.hostLink with perst := true })

/-- HOST_LINK_UP: training completes with a host that offers a rate and width; `mem` says CXL.mem is enabled (R357). -/
def hostLinkUp (rate width : Nat) (mem : Bool) (s : State) : State :=
  if s.hostLink.perst then s
  else
    let s := s.setHost { s.hostLink with hostRate := rate, hostWidth := width }
    let s := hostShow (min rate (hostRateCap s)) (min width (hostWidthCap s)) s
    let up := hostUp s
    let s := (s.set .hlk HLK.LINK_STAT.UP 1).setFlag .hlk HLK.LINK_STAT.MEM_EN (mem && s.flag .hlk HLK.LINK_STAT.CXL)
    s.raiseIf (!up) .hlk HLK.EVT.LINK_UP

/-- A change of rate or width is counted and reported (R357). -/
def hostSpeed (rate width : Nat) (s : State) : State :=
  if rate = s.get .hlk HLK.LINK_STAT.RATE ∧ width = s.get .hlk HLK.LINK_STAT.WIDTH then hostShow rate width s
  else ((hostShow rate width s).bump .hlk HLK.RETRAIN_CNT.SPEED_CHG).raise .hlk HLK.EVT.SPEED_CHG

/-- The link enters Recovery and comes out at a rate and width no higher than CTL allows (R357, R358); a host-lane eye scan
is abandoned (R352). -/
def hostRecovery (rate width : Nat) (s : State) : State :=
  if !hostUp s then s
  else
    let s := (s.bump .hlk HLK.RETRAIN_CNT.RECOVERY).set .hlk HLK.EYE_STAT.BUSY 0
    hostSpeed (min rate (hostRateCap s)) (min width (hostWidthCap s)) s

/-- A RETRAIN strobe forces Recovery; the link comes out at the highest rate and width both ends offer (R358). -/
def hostRetrain (s : State) : State := hostRecovery s.hostLink.hostRate s.hostLink.hostWidth s

/-- CREDIT_STALL: a transmission has waited more than 1 ms for host credits (R360). -/
def creditStall (s : State) : State :=
  if hostUp s then (s.bump .hlk HLK.CREDIT.STALL).raise .hlk HLK.EVT.CREDIT_STALL else s

/-- IDE_KEY_CHANGE: IDE_KM leaves the streams secure or not (R368). -/
def ideChange (io mem : Bool) (s : State) : State :=
  let same := s.flag .hlk HLK.IDE.IO_SECURE == io && s.flag .hlk HLK.IDE.MEM_SECURE == mem
  ((s.setFlag .hlk HLK.IDE.IO_SECURE io).setFlag .hlk HLK.IDE.MEM_SECURE mem).raiseIf (!same) .hlk HLK.EVT.IDE_CHG

/-! ## The HDM window (R363, R364) -/

/-- Bytes of the HDM decoder's largest window. -/
def hdmBytes : Nat := 32 * 2 ^ 30

/-- First offset of host memory. -/
def hdmHost : Nat := 0x80000000

/-- The bytes of a journal entry (R59). -/
def journalBytes (e : JournalEntry) : List Byte := entryBytes e.timeNs e.seqNo e.addr e.old e.new e.info e.link

/-- The journal slot at an HDM offset: the ring entry whose SEQ_NO falls in it, else zero. -/
def journalSlot (s : State) (k : Nat) : List Byte :=
  match s.journal.ring.find? (fun e => e.seqNo % journalRing == k) with
  | some e => journalBytes e
  | none => List.replicate 32 0

/-- The 64 bytes of a Cast history buffer from an offset within it. -/
def historyLine (bs : List CastBlock) (off : Nat) : List Byte :=
  match bs.find? (fun b => b.number % castBlocks == off / 4096) with
  | some b => slice (castBlockBytes b) (off % 4096) 64
  | none => List.replicate 64 0

/-- The line at an HDM offset, as the read finds it (R363, R364, R420). -/
def hdmLine (off : Nat) (s : State) : State × List Byte × Bool :=
  if off < 0x10000000 then
    let s := if granuleSet s (off / 2 ^ 20) then s else s.bump .lpm LPM.INIT_READ.COUNT
    if off < 0x08000000 then (s, journalSlot s (off / 32) ++ journalSlot s (off / 32 + 1), poisoned s (off / 64))
    else
      let buf := (off - 0x08000000) / 0x4000000
      let bs := if buf = s.get .cast CAST.STAT.BUF then s.cast.active else s.cast.frozen
      (s, historyLine bs ((off - 0x08000000) % 0x4000000), poisoned s (off / 64))
  else if 0x60000000 ≤ off ∧ off < hdmHost then (s, List.replicate 64 0, false)
  else lpddrReadLine off 64 s

/-- Poisoned data is returned and counted (R364); `record` says that a General Media Event record reports it. -/
def hdmPoison (off : Nat) (record : Bool) (s : State) : State :=
  let s := { s.bump .hlk HLK.MEM_STAT.POISON with answer := .poisoned }
  if record then
    let m := s.mbox
    let e : CxlRecord := ⟨m.nextHandle, false, off, s.nowNs⟩
    { s with mbox := { m with logs := m.logs.set 2 (m.logs.get 2 ++ [e]), nextHandle := m.nextHandle + 1 } }.raise .hlk
      HLK.EVT.CXL_EVENT
  else s

/-- A CXL.mem read of a line (R364, R369); none outside the window. -/
def hdmRead (off : Nat) (s : State) : Option State :=
  if hdmBytes ≤ off then none
  else
    let off := off / 64 * 64
    if s.flag .hlk HLK.IDE.REQUIRE && !s.flag .hlk HLK.IDE.MEM_SECURE then some (hdmPoison off false s)
    else
      let x := hdmLine off s
      if x.2.2 then some (hdmPoison off true (countUe (.line (off / 64)) x.1))
      else some { x.1 with answer := .bytes x.2.1 }

/-- A dropped CXL.mem write is counted; the event comes once in 1,000 ms (R364). -/
def hdmDrop (s : State) : State :=
  let s := s.bump .hlk HLK.MEM_STAT.WR_DROP
  let due := match s.hostLink.dropAt with
    | none => true
    | some t => decide (t + 1000000000 ≤ s.elapsedNs)
  if due then (s.setHost { s.hostLink with dropAt := some s.elapsedNs }).raise .hlk HLK.EVT.WR_DROP else s

/-- A CXL.mem write of a line (R364, R369); none outside the window. -/
def hdmWrite (off : Nat) (bs : List Byte) (s : State) : Option State :=
  if hdmBytes ≤ off then none
  else if off < hdmHost then some (hdmDrop s)
  else if s.flag .hlk HLK.IDE.REQUIRE && !s.flag .hlk HLK.IDE.MEM_SECURE then some (hdmDrop s)
  else some (lpddrWriteLine (off / 64 * 64) (bs.take 64) s)

/-! ## Page behaviour (R371) -/

/-- Writes HLK refuses with OUT_OF_RANGE. -/
def hlkWriteBad (off : Nat) (new : Word) : Bool :=
  if off = HLK.CTL.MAX_RATE.off then extract new 6 2 == 3
  else if off = HLK.EYE_CTL.START.off then eyeWriteBad new
  else false

/-- What an accepted write brings beside the stored word. -/
def hlkWritten (off : Nat) (new : Word) (s : State) : State :=
  if off = HLK.CTL.RETRAIN.off && extract new 0 1 == 1 then hostRetrain s
  else if off = HLK.EYE_CTL.START.off && extract new 31 1 == 1 then hlkEyeStart s
  else s

end Sys2Proof.Machine
end

