-- ==== Sys2Proof/Machine/Complex.lean ====
section
/-! DEFINITION. Machine/Complex.lean: complex samples as pairs of integers, for the rules of chapter 07. -/
namespace Sys2Proof.Machine

/-- Product with the conjugate of `p`. -/
def conjMul (p z : Int × Int) : Int × Int := (p.1 * z.1 + p.2 * z.2, p.1 * z.2 - p.2 * z.1)

/-- Sum. -/
def cplxAdd (a b : Int × Int) : Int × Int := (a.1 + b.1, a.2 + b.2)

/-- Sum of a list. -/
def cplxSum (l : List (Int × Int)) : Int × Int := l.foldl cplxAdd (0, 0)

/-- Square. -/
def cplxSquare (z : Int × Int) : Int × Int := (z.1 * z.1 - z.2 * z.2, 2 * z.1 * z.2)

/-- Squared magnitude. -/
def cplxPower (z : Int × Int) : Nat := (z.1 * z.1 + z.2 * z.2).toNat

/-- A sample turned back by an angle: its product with e^(-j angle). -/
def turnBack (angle : Int) (z : Int × Int) : Int × Int :=
  let a := nearTo fixTurn 0 angle
  let c := fixCos a
  let s := fixSin a
  (fixMul z.1 c + fixMul z.2 s, fixMul z.2 c - fixMul z.1 s)

/-- A sample turned back by `q` quarter turns, exactly. -/
def quarterBack (q : Int) (z : Int × Int) : Int × Int :=
  match (q % 4).toNat with
  | 0 => z
  | 1 => (z.2, -z.1)
  | 2 => (-z.1, -z.2)
  | _ => (-z.2, z.1)

end Sys2Proof.Machine
end

