-- ==== Sys2Proof/Machine/Fec.lean ====
section
/-! DEFINITION. Machine/Fec.lean: the FEC half of chapter 08: the decoder states (R204), uncorrectable blocks (R205),
statistics windows (R206-R208) and the loss of frame that follows a loss of FEC lock (R209). -/
namespace Sys2Proof.Machine

open Sys2Proof (Word Carrier Page)

/-- Decoder states of R204. -/
def fecIdle : Nat := 0
def fecHunt : Nat := 1
def fecCheck : Nat := 2
def fecLock : Nat := 3

/-- `FEC_x.STAT.STATE`. -/
def fecState (s : State) (c : Carrier) : Nat := s.get (.fec c) FEC.STAT.STATE

/-- Coded bits of the decoder window (R201). -/
def decoderWindow : Nat := 2 ^ 22

/-- FEC_x is in LOCK. -/
def fecLocked (s : State) (c : Carrier) : Bool := fecState s c == fecLock

/-- The step record of a carrier (R264), and its replacement. -/
def stepOf (s : State) (c : Carrier) : StepRecord := s.qlt.steps.get c
def putStep (s : State) (c : Carrier) (x : StepRecord) : State := { s with qlt := { s.qlt with steps := s.qlt.steps.set c x } }

/-- The in-band word stream of a carrier breaks (R212, R252): a partial message is discarded, counted once with cause 6 (R269). -/
def breakInband (s : State) (c : Carrier) : State :=
  if (s.qlt.asmInband.get c).isSome then
    let s := { s with qlt := { s.qlt with asmInband := s.qlt.asmInband.set c none } }
    (s.bump .qlt QLT.DISCARD.COUNT).set .qlt QLT.DISCARD.LAST_CAUSE 6
  else s

/-- The pilot channel's word stream breaks (R252): a partial message is discarded, counted once with cause 6 (R269). -/
def breakPilot (s : State) (c : Carrier) : State :=
  if (s.qlt.asmPilot.get c).isSome then
    let s := { s with qlt := { s.qlt with asmPilot := s.qlt.asmPilot.set c none } }
    (s.bump .qlt QLT.DISCARD.COUNT).set .qlt QLT.DISCARD.LAST_CAUSE 6
  else s

/-- Leave frame SYNC or PRESYNC for HUNT (R209): carrier lock is told (R18), and the in-band word stream breaks (R212). -/
def frameHunt (s : State) (c : Carrier) : State :=
  let was := inFrame s c
  let s := if was then breakInband s c else s
  let s := s.set (.lfm c) LFM.RX_STAT.FSTATE 0
  let s := s.setFramer c { s.framer.get c with preMatches := 0, fawFails := 0, expected := none }
  let s := putStep s c { stepOf s c with goodPs := 0 }
  if was then lockFrameLeft s else s

/-- SF is set (R208); after a restart of a rate step that has reached LOCK it counts against the step (R264). -/
def setSf (s : State) (c : Carrier) : State :=
  let s := putStep s c { stepOf s c with failed := (stepOf s c).failed || (stepOf s c).locked }
  let was := s.flag (.fec c) FEC.STAT.SF
  let s := s.setFec c { s.fec.get c with sfClear := 0 }
  let s := if was then s else noteTrigger s (5 + c.idx)
  (s.set (.fec c) FEC.STAT.SF 1).raiseIf (!was) (.fec c) FEC.EVT.SF

/-- SD is set (R208). -/
def setSd (s : State) (c : Carrier) : State :=
  let was := s.flag (.fec c) FEC.STAT.SD
  let s := s.setFec c { s.fec.get c with sdClear := 0 }
  (s.set (.fec c) FEC.STAT.SD 1).raiseIf (!was) (.fec c) FEC.EVT.SD

/-- Leave LOCK (R206, R208, R209): the window is discarded, SF is set, the frame state returns to HUNT. -/
def leaveFecLock (s : State) (c : Carrier) : State :=
  frameHunt (setSf (s.setFec c { s.fec.get c with window := .empty }) c) c

/-- Enter a decoder state, with what leaving LOCK brings. -/
def enterFecState (s : State) (c : Carrier) (st : Nat) : State :=
  let s := if fecLocked s c && st != fecLock then leaveFecLock s c else s
  s.set (.fec c) FEC.STAT.STATE st

/-- The first synchronised block arrives (R204): IDLE becomes HUNT. -/
def fecSynchronised (s : State) (c : Carrier) : State :=
  if s.running (.fec c) && fecState s c == fecIdle then enterFecState s c fecHunt else s

/-- A block with the unsynchronised marker arrives, or FEC_x leaves running (R204): any state becomes IDLE, and the synchronised
stream ends. -/
def fecUnsynchronised (s : State) (c : Carrier) : State :=
  let s := s.setFec c { s.fec.get c with llrs := [], decoder := 0 }
  if fecState s c = fecIdle then s else enterFecState s c fecIdle

/-- LLRs of a synchronised block arrive from DMP_x, in the order of R192. -/
def fecInput (c : Carrier) (llrs : List Int) (s : State) : State :=
  if s.running (.fec c) then
    let s := fecSynchronised s c
    let f := s.fec.get c
    s.setFec c { f with llrs := f.llrs ++ llrs }
  else s

/-! ### Hunting (R204) -/

/-- The test of a HUNT observation (R204). -/
def observationPasses (best second : Nat) : Bool := decide (64 ≤ best) && decide (4 * second ≤ best)

/-- Block starts a candidate may take: 2,048/b (R204). -/
def candidateCount (mode : Nat) : Nat := codedBits / bitsPerSymbol mode

/-- Coded bits of an observation (R204). -/
def observationBits (s : State) (c : Carrier) : Nat := 2 ^ s.get (.fec c) FEC.CTL.OBS_LOG2 * codedBits

/-- The best candidate so far, its count and the second-best count, taking in candidate `k` of count `n`. -/
def betterCandidate (x : Nat × Nat × Nat) (k n : Nat) : Nat × Nat × Nat :=
  if x.2.1 < n then (k, n, x.2.1) else (x.1, x.2.1, max x.2.2 n)

/-- The winning candidate of an observation, its count of consistent codewords and the second-best count (R204). -/
def bestCandidate (mode : Nat) (llrs : List Int) : Nat × Nat × Nat :=
  (List.range (candidateCount mode)).foldl
    (fun x k => betterCandidate x k (Config.ofecConsistent (k * bitsPerSymbol mode) llrs)) (0, 0, 0)

/-- A HUNT observation ends once its LLRs have arrived (R204).  Its length is a whole number of blocks, so OFFSET holds for the
stream after it. -/
def huntObservation (c : Carrier) (s : State) : State :=
  let f := s.fec.get c
  let n := observationBits s c
  if fecState s c = fecHunt && s.running (.fec c) && decide (n ≤ f.llrs.length) then
    let mode := lineMode s c
    let x := bestCandidate mode (f.llrs.take n)
    if observationPasses x.2.1 x.2.2 then
      let s := s.setFec c { f with
        llrs := f.llrs.drop (n + x.1 * bitsPerSymbol mode)
        decoder := 0, checkBlocks := 0, checkUncorr := 0, history := [] }
      enterFecState (s.set (.fec c) FEC.STAT.OFFSET x.1) c fecCheck
    else (s.setFec c { f with llrs := f.llrs.drop n }).bump (.fec c) FEC.HUNT_CNT.HUNT_FAIL
  else s

/-! ### Decoding (R200, R203, R205-R207) -/

/-- LLRs of value 0 (R203). -/
def erasures (llrs : List Int) : Nat := (llrs.filter (· == 0)).length

/-- Corrected bits of a correctable block by bit label (R206): a decoded bit that differs from the sign of its LLR.  Bit `i` of a
block has label i mod b, for a block starts with a payload period (R204). -/
def correctedBits (b : Nat) (llrs : List Int) (decoded : BitVec 2048) : List Nat :=
  let wrong := List.zipWith (fun (l : Int) d => decide (l < 0 ∧ d = false) || decide (0 < l ∧ d = true)) llrs
    (msbBits codedBits decoded.toNat)
  (List.range b).map fun label =>
    countTrue ((List.range (codedBits / b)).map fun k => wrong.getD (k * b + label) false)

/-- Bin of ERRHIST for a number of corrected bits (R207): 0, 1, 2-3, 4-7, 8-15, 16-31, 32-63, 64 or more. -/
def histBin (n : Nat) : Nat := if n = 0 then 0 else min 7 (Nat.log2 n + 1)

/-- Add `n` to entry `i` of a list of counts. -/
def addAt (l : List Nat) (i n : Nat) : List Nat := l.set i (l.getD i 0 + n)

/-- A decoded block enters the window in progress (R206, R207). -/
def FecWindow.add (w : FecWindow) (bad : Bool) (erased : Nat) (corrected : List Nat) : FecWindow :=
  if bad then { w with blocks := w.blocks + 1, uncorr := w.uncorr + 1, erased := w.erased + erased }
  else
    { w with
      blocks := w.blocks + 1
      erased := w.erased + erased
      erasedGood := w.erasedGood + erased
      map := (List.range 8).map fun i => w.map.getD i 0 + corrected.getD i 0
      hist := addAt w.hist (histBin (sumNat corrected)) 1 }

/-- More than 128 of the latest 256 blocks are uncorrectable (R204). -/
def lockFails (h : List Bool) : Bool := decide (128 < countTrue (h.take 256))

/-- FEC_x counts a decoded block (R203, R205, R215). -/
def countBlock (c : Carrier) (bad : Bool) (erased : Nat) (corrected : List Nat) (s : State) : State :=
  let f := s.fec.get c
  let s := s.addPair (.fec c) FEC.BLK_LO.COUNT FEC.BLK_HI.COUNT 1
  let s := s.addPair (.fec c) FEC.ERASED_LO.COUNT FEC.ERASED_HI.COUNT erased
  if bad then (s.bump (.fec c) FEC.UNCORR_CNT.COUNT).raiseIf (!f.lastBad) (.fec c) FEC.EVT.UNCORR
  else s.addPair (.fec c) FEC.CORR_LO.COUNT FEC.CORR_HI.COUNT (sumNat corrected)

/-- The decoder decodes its next block in CHECK or LOCK (R200, R203-R206), with the loss of LOCK of R204. -/
def decodeBlock (c : Carrier) (s : State) : State :=
  let f := s.fec.get c
  let llrs := f.llrs.take codedBits
  let r := Config.ofecDecode (s.get (.fec c) FEC.CTL.ITER) f.decoder (f.llrs.take decoderWindow)
  let bad := r.uncorrectable
  let erased := erasures llrs
  let corrected := correctedBits (bitsPerSymbol (lineMode s c)) llrs r.coded
  let locked := fecLocked s c
  let h := (bad :: f.history).take 256
  let s := countBlock c bad erased corrected s
  let s := s.setFec c { f with
    llrs := f.llrs.drop codedBits, decoder := r.memory, history := h, lastBad := bad
    checkBlocks := if locked then f.checkBlocks else f.checkBlocks + 1
    checkUncorr := if locked then f.checkUncorr else f.checkUncorr + bit bad
    window := if locked then f.window.add bad erased corrected else f.window }
  if locked && lockFails h then
    ((enterFecState s c fecHunt).bump (.fec c) FEC.HUNT_CNT.LOSS).raise (.fec c) FEC.EVT.LOCK_LOST
  else s

/-- The decoder has a block to decode: the LLRs of one have arrived, and in CHECK fewer than 64 have been decoded, or in LOCK the
window in progress is not full (R204, R206). -/
def decodeReady (s : State) (c : Carrier) : Bool :=
  let f := s.fec.get c
  s.running (.fec c) && decide (codedBits ≤ f.llrs.length)
    && ((fecState s c == fecCheck && decide (f.checkBlocks < 64))
      || (fecLocked s c && decide (f.window.blocks < 2 ^ f.winLog2)))

/-- Decode at most `n` blocks; with `toBad`, end after the first uncorrectable one. -/
def decodeRun (c : Carrier) (toBad : Bool) : Nat → State → State
  | 0, s => s
  | n + 1, s =>
    if decodeReady s c then
      let s := decodeBlock c s
      if toBad && (s.fec.get c).lastBad then s else decodeRun c toBad n s
    else s

/-- Blocks whose LLRs have arrived. -/
def blocksArrived (s : State) (c : Carrier) : Nat := (s.fec.get c).llrs.length / codedBits

/-- The decoder goes on to the next uncorrectable block (R205), or as far as the LLRs reach. -/
def uncorrectableBlock (c : Carrier) (s : State) : State := decodeRun c true (blocksArrived s c) s

/-- The first 64 blocks at OFFSET are judged once they have been decoded (R204). -/
def checkResult (c : Carrier) (s : State) : State :=
  let s := if fecState s c = fecCheck then decodeRun c false (blocksArrived s c) s else s
  let f := s.fec.get c
  if fecState s c = fecCheck && s.running (.fec c) && decide (64 ≤ f.checkBlocks) then
    if f.checkUncorr ≤ 8 then
      let s := s.setFec c { f with window := .empty, winLog2 := s.get (.fec c) FEC.CTL.WIN_LOG2 }
      let s := putStep s c { stepOf s c with locked := (stepOf s c).restarted }
      (s.set (.fec c) FEC.STAT.STATE fecLock).raise (.fec c) FEC.EVT.LOCK
    else enterFecState s c fecHunt
  else s

/-! ## Statistics windows (R206-R208) -/

/-- PRE_BER of a window (R206). -/
def preBer (corr bits : Nat) : Nat :=
  if bits = 0 then 0xFFFFFFFF else min (divRound (2 ^ 32 * corr) bits) 0xFFFFFFFF

/-- Write eight counts to a register array. -/
def setArray (s : State) (p : Page) (f : Field) (l : List Nat) : State :=
  (List.range f.count).foldl (fun s i => s.set p (f.at i) (min (l.getD i 0) (2 ^ f.width - 1))) s

/-- SD and SF at a window's end (R208). -/
def judgeWindow (s : State) (c : Carrier) (ber uncorr : Nat) : State :=
  let sdBad := decide (s.get (.fec c) FEC.SD_THR.THR ≤ ber)
  let sfBad := decide (s.get (.fec c) FEC.SF_THR.THR ≤ ber) || decide (s.get (.fec c) FEC.CTL.SF_UNC < uncorr)
  let s := if sdBad then setSd s c
    else
      let n := (s.fec.get c).sdClear + 1
      let s := s.setFec c { s.fec.get c with sdClear := n }
      if 4 ≤ n then s.set (.fec c) FEC.STAT.SD 0 else s
  if sfBad then setSf s c
  else
    let n := (s.fec.get c).sfClear + 1
    let s := s.setFec c { s.fec.get c with sfClear := n }
    if 4 ≤ n then s.set (.fec c) FEC.STAT.SF 0 else s

/-- Duration of a statistics window in picoseconds (R90, R206). -/
def windowPs (mode winLog2 : Nat) : Nat :=
  2 ^ winLog2 * 2048 * 131072 * 1000 / (symbolRate mode * bitsPerSymbol mode * 128961)

/-- A window meets the receive condition of R264. -/
def windowGood (s : State) (c : Carrier) (ber uncorr : Nat) : Bool :=
  inFrame s c && uncorr == 0
    && (decide (3 ≤ lineMode s c) || decide (ber < s.get .qlt (QLT.STEP_THR.THR.at (lineMode s c))))

/-- The time over which the receive condition has held grows, or starts afresh (R264). -/
def noteDwell (s : State) (c : Carrier) (ber uncorr winLog2 : Nat) : State :=
  let x := stepOf s c
  putStep s c { x with goodPs := if windowGood s c ber uncorr then x.goodPs + windowPs (lineMode s c) winLog2 else 0 }

/-- The window registers are latched together (R206, R207). -/
def latchWindow (c : Carrier) (w : FecWindow) (s : State) : State :=
  let ber := preBer (sumNat w.map) (codedBits * (w.blocks - w.uncorr) - w.erasedGood)
  let s := (s.set (.fec c) FEC.PRE_BER.BER ber).set (.fec c) FEC.WIN_UNCORR.COUNT (min w.uncorr 0xFFFFFFFF)
  let s := s.set (.fec c) FEC.WIN_ERASED.COUNT (min w.erased 0xFFFFFFFF)
  setArray (setArray s (.fec c) FEC.ERRMAP.COUNT w.map) (.fec c) FEC.ERRHIST.COUNT w.hist

/-- A statistics window ends once its 2^WIN_LOG2 blocks have been decoded (R206-R208). -/
def windowEnd (c : Carrier) (s : State) : State :=
  let s := if fecLocked s c then decodeRun c false (blocksArrived s c) s else s
  let f := s.fec.get c
  if s.running (.fec c) && fecLocked s c && decide (2 ^ f.winLog2 ≤ f.window.blocks) then
    let s := latchWindow c f.window s
    let s := (s.addWrap (.fec c) FEC.WIN_CNT.COUNT 1).raise (.fec c) FEC.EVT.WIN_DONE
    let ber := s.get (.fec c) FEC.PRE_BER.BER
    let s := noteDwell (judgeWindow s c ber f.window.uncorr) c ber f.window.uncorr f.winLog2
    s.setFec c { s.fec.get c with window := .empty, winLog2 := s.get (.fec c) FEC.CTL.WIN_LOG2 }
  else s

/-! ## Page behaviour (R214, R215) -/

/-- FEC_x counters clear on entry to starting (R214). -/
def fecStart (c : Carrier) (s : State) : State :=
  let s := s.clearAll (.fec c)
    [FEC.PRE_BER.BER, FEC.WIN_CNT.COUNT, FEC.WIN_UNCORR.COUNT, FEC.WIN_ERASED.COUNT, FEC.CORR_LO.COUNT,
     FEC.CORR_HI.COUNT, FEC.BLK_LO.COUNT, FEC.BLK_HI.COUNT, FEC.UNCORR_CNT.COUNT, FEC.ERASED_LO.COUNT,
     FEC.ERASED_HI.COUNT, FEC.HUNT_CNT.LOSS, FEC.HUNT_CNT.HUNT_FAIL]
  (s.clearArray (.fec c) FEC.ERRMAP.COUNT).clearArray (.fec c) FEC.ERRHIST.COUNT

/-- FEC_x enters running (R202): the encoder starts from the all-zero state, with nothing to encode. -/
def fecRunning (c : Carrier) (s : State) : State := putEncoder s c .initial

/-- Writes FEC_x refuses with OUT_OF_RANGE (R215). -/
def fecWriteBad (off : Nat) (new : Word) : Bool :=
  off == FEC.CTL.WIN_LOG2.off
  && (decide (extract new 16 5 < 10) || decide (24 < extract new 16 5)
    || decide (extract new 12 4 < 1) || decide (6 < extract new 12 4)
    || decide (extract new 4 4 < 6) || decide (12 < extract new 4 4))

end Sys2Proof.Machine
end

