-- ==== Sys2Proof/Machine/Mlse.lean ====
section
/-! DEFINITION. Machine/Mlse.lean: the MLSE and the soft demapper of chapter 07 (R188-R194).  MLS_ESTIMATE_UPDATE is the end of a
symbol block in MLS_x, SNR_UPDATE its end in DMP_x.  Levels, metrics and variances are in units of 2^-16, gains and tails in
units of 2^-12 (log entry 80). -/
namespace Sys2Proof.Machine

open Sys2Proof (Word Carrier Page)

/-- Change the demapper of a carrier. -/
def setDemapper (s : State) (c : Carrier) (x : Demapper) : State := { s with demapper := s.demapper.set c x }

/-- The levels of a payload period (R98), in units of 2^-16. -/
def payloadLevels (mode : Nat) : List Int :=
  if bitsPerSymbol mode = 8 then [3 * 65536, 65536, -65536, -3 * 65536] else [65536, -65536]

/-- The pilot magnitude per tributary (R177, R188): the payload RMS of a tributary scaled by PILOT_SCALE. -/
def pilotAmplitude (s : State) (c : Carrier) : Int :=
  pilotLevel (lineMode s c) 0 * s.get (.cpr c) CPR.PILOT_SCALE.SCALE / 4096

/-- The levels a tributary may have in a period: all of them, or the one that is known (R188). -/
def periodLevelSet (levels : List Int) (pilot : Int) (t : Nat) (p : RxPeriod) : List Int :=
  match p.known with
  | some signs => [pilot * signs.getD t 0]
  | none => levels

/-- Least of a list of numbers. -/
def leastOf (l : List Int) : Int := l.foldl min (l.headD 0)

/-! ## The trellis (R188-R191) -/

/-- What the branch metric of a tributary takes (R188): gain, tail and noise variance. -/
structure TrellisJob where
  kappa : Int
  tail : Int
  variance : Nat

/-- The model of a level after a level (R188). -/
def TrellisJob.model (j : TrellisJob) (a before : Int) : Int := j.kappa * (4096 * a + j.tail * before) / 2 ^ 24

/-- A branch metric (R188) in units of 2^-16 nat. -/
def TrellisJob.branch (j : TrellisJob) (y a before : Int) : Int :=
  let e := y - j.model a before
  e * e / (2 * (max j.variance 1 : Nat))

/-- The metrics of the paths that end in each level of each period: a period is its levels and its value. -/
def forwardMetrics (j : TrellisJob) : List (Int × Int) → List (List Int × Int) → List (List (Int × Int))
  | _, [] => []
  | states, (levels, y) :: rest =>
    let next := levels.map fun a => (a, leastOf (states.map fun b => b.2 + j.branch y a b.1))
    next :: forwardMetrics j next rest

/-- The least metrics of the paths that leave each level of each period. -/
def backwardMetrics (j : TrellisJob) : List (List Int × Int) → List (List Int)
  | [] => []
  | [(levels, _)] => [levels.map fun _ => 0]
  | (levels, _) :: (nextLevels, y) :: rest =>
    let l := backwardMetrics j ((nextLevels, y) :: rest)
    let next := nextLevels.zip (l.headD [])
    (levels.map fun b => leastOf (next.map fun n => n.2 + j.branch y n.1 b)) :: l

/-- Levels with the metrics of the best path through each, from both directions. -/
def pathMetrics (f : List (Int × Int)) (b : List Int) : List (Int × Int) := List.zipWith (fun x m => (x.1, x.2 + m)) f b

/-- The level of the least metric. -/
def bestLevel (l : List (Int × Int)) : Int :=
  ((l.find? fun x => x.2 == leastOf (l.map (·.2))).getD (0, 0)).1

/-- Delta of each level (R189): clamped at 64 nats. -/
def levelDeltas (l : List (Int × Int)) : List Int :=
  let m := leastOf (l.map (·.2))
  l.map fun x => min (x.2 - m) (64 * 65536)

/-- A tributary over a window (R189): the metrics by level of each period, and the state metrics at the end of its first `n`
periods. -/
def trellisWindow (j : TrellisJob) (states : List (Int × Int)) (window : List (List Int × Int)) (n : Nat) :
    List (List (Int × Int)) × List (Int × Int) :=
  let f := forwardMetrics j states window
  let ends := f.getD (n - 1) states
  let m := leastOf (ends.map (·.2))
  ((List.zipWith pathMetrics f (backwardMetrics j window)).take n, ends.map fun x => (x.1, x.2 - m))

/-- The bypass of R190: the metrics of each period by itself. -/
def bypassWindow (j : TrellisJob) (window : List (List Int × Int)) (n : Nat) : List (List (Int × Int)) :=
  (window.take n).map fun p => p.1.map fun a => (a, j.branch p.2 a 0)

/-- A block carries the slip or the unsynchronised marker. -/
def blockMarked (ps : List RxPeriod) : Bool := ps.any fun p => p.slip || !p.sync

/-- The tail in force on a tributary (R190). -/
def tailInForce (s : State) (c : Carrier) (t : Nat) : Int :=
  if !s.flag (.mls c) MLS.CTL.EN then 0
  else if s.flag (.mls c) MLS.CTL.H_FIXED then s.getInt (.mls c) (MLS.TRIB.H1_SET.at t)
  else (s.demapper.get c).tail.getD t 0

/-- `TRIBt.H1` follows the tail in force (R188, R190). -/
def showTails (s : State) (c : Carrier) : State :=
  (List.range 4).foldl (fun s t => s.setInt (.mls c) (MLS.TRIB.H1.at t) (tailInForce s c t)) s

/-- The state metrics are set to 0 (R191). -/
def resetTrellis (c : Carrier) (s : State) : State :=
  let zero := (payloadLevels (lineMode s c)).map fun a => (a, (0 : Int))
  let s := setDemapper s c { s.demapper.get c with metrics := List.replicate 4 zero, resetDue := false }
  (s.bump (.mls c) MLS.RESET_CNT.COUNT).raise (.mls c) MLS.EVT.TRELLIS_RESET

/-- TRELLIS_RESET: the first symbol after a marked block (R191). -/
def trellisReset (c : Carrier) (s : State) : State :=
  if s.running (.mls c) && (s.demapper.get c).resetDue then resetTrellis c s else s

/-- What a tributary gives for a block (R189): per period the metrics by level, the level decided and the one before it, the
model and the residual; and the state metrics after it. -/
structure TribBlock where
  paths : List (List (Int × Int))
  model : List Int
  resid : List Int
  before : List Int
  decided : List Int
  states : List (Int × Int)

/-- Tributary `t` over a block of `n` periods in its window (R188-R190). -/
def tribBlock (s : State) (c : Carrier) (window : List RxPeriod) (n t : Nat) : TribBlock :=
  let d := s.demapper.get c
  let j : TrellisJob := ⟨d.kappa.getD t 0, tailInForce s c t, d.variance.getD t 0⟩
  let levels := payloadLevels (lineMode s c)
  let w := window.map fun p => (periodLevelSet levels (pilotAmplitude s c) t p, p.y.getD t 0)
  let r := trellisWindow j (d.metrics.getD t []) w n
  let paths := if s.flag (.mls c) MLS.CTL.EN then r.1 else bypassWindow j w n
  let decided := paths.map bestLevel
  let before := d.last.getD t 0 :: decided
  let model := List.zipWith j.model decided before
  ⟨paths, model, List.zipWith (fun (p : RxPeriod) m => p.y.getD t 0 - m) window model, before, decided, r.2⟩

/-- A period for DMP_x, of which `deltas` holds the metric differences of the four tributaries. -/
def softPeriod (p : RxPeriod) (deltas : List (List Int)) (model resid : List Int) : SoftPeriod :=
  { payload := p.known.isNone, delta := deltas, model := model, resid := resid, sync := p.sync, slip := p.slip,
    clip := p.clip, uncertain := p.uncertain }

/-- The marked block of R191: Delta 0 for all levels, and the state metrics are due to be set to 0. -/
def markedBlock (c : Carrier) (block : List RxPeriod) (s : State) : State :=
  let d := s.demapper.get c
  let n := (payloadLevels (lineMode s c)).length
  let soft := block.map fun p => softPeriod p (List.replicate 4 (List.replicate n 0)) [0, 0, 0, 0] [0, 0, 0, 0]
  setDemapper s c { d with input := d.input.drop block.length, soft := d.soft ++ soft, resetDue := true }

/-- The decisions of a block enter the gradients of R190: that of the gain is the residual times the modelled level, that of the
tail the residual times the level before. -/
def addGradients (d : Demapper) (trib : List TribBlock) (n : Nat) : Demapper :=
  let dot (a b : List Int) : Int := (List.zipWith (· * ·) a b).foldl (· + ·) 0
  { d with
    gradK := (List.range 4).map fun t =>
      d.gradK.getD t 0 + ((trib[t]?).map fun x => dot x.resid x.decided).getD 0
    gradH := (List.range 4).map fun t =>
      d.gradH.getD t 0 + ((trib[t]?).map fun x => dot x.resid x.before).getD 0
    gradN := d.gradN + n
    estBlocks := d.estBlocks + 1 }

/-- A synchronised block without slip: the window of R189 is evaluated on the four tributaries. -/
def trellisBlock (c : Carrier) (n : Nat) (s : State) : State :=
  let d := s.demapper.get c
  let window := d.input.take (n + 64)
  let trib := (List.range 4).map (tribBlock s c window n)
  let soft := (List.range n).map fun i =>
    match window[i]? with
    | some p => softPeriod p (trib.map fun x => levelDeltas (x.paths.getD i [])) (trib.map fun x => x.model.getD i 0)
        (trib.map fun x => x.resid.getD i 0)
    | none => ⟨false, [], [], [], false, false, 0, false⟩
  let d := { d with
    input := d.input.drop n, soft := d.soft ++ soft, metrics := trib.map (·.states)
    last := trib.map fun x => x.decided.getD (n - 1) 0 }
  setDemapper s c (addGradients d trib n)

/-- The estimates are updated every 2^EST_LOG2 blocks (R190): tails clamp at ±0.75, each clamp counted. -/
def mlsAdapt (c : Carrier) (s : State) : State :=
  let d := s.demapper.get c
  if d.estBlocks < 2 ^ s.get (.mls c) MLS.CTL.EST_LOG2 then s
  else
    let step (v g : List Int) : List Int := List.zipWith (fun v g => Config.mlsStep v g d.gradN) v g
    let fixed := s.flag (.mls c) MLS.CTL.H_FIXED
    let hs := if fixed then d.tail else step d.tail d.gradH
    let n := countTrue (hs.map fun h => decide (3072 < h.natAbs))
    let s := setDemapper s c { d with
      kappa := step d.kappa d.gradK, tail := hs.map (clamp (-3072) 3072)
      gradK := [0, 0, 0, 0], gradH := [0, 0, 0, 0], gradN := 0, estBlocks := 0 }
    let s := showTails s c
    if n = 0 then s else (s.addSat (.mls c) MLS.LIMIT_CNT.COUNT n).raise (.mls c) MLS.EVT.H1_LIMIT

/-- A symbol block ends in MLS_x (R188-R191), once it and the 64 symbols after it have arrived. -/
def mlsUpdate (c : Carrier) (s : State) : State :=
  let block := (s.demapper.get c).input.take 256
  if !s.running (.mls c) || decide ((s.demapper.get c).input.length < 320) then s
  else if blockMarked block then markedBlock c block s
  else mlsAdapt c (trellisBlock c 256 (trellisReset c s))

/-- Periods pass from CPR_x to MLS_x, which begins with a symbol block. -/
def mlsPush (c : Carrier) (ps : List RxPeriod) (s : State) : State :=
  let d := s.demapper.get c
  let ps := if d.input.isEmpty then ps.dropWhile (!·.first) else ps
  if s.running (.mls c) then setDemapper s c { d with input := d.input ++ ps } else s

/-! ## The demapper (R192-R194, R198) -/

/-- Weight codes of CLIP_W and SEG_W in eighths (R198). -/
def weightEighths (code : Nat) : Nat :=
  match code with
  | 0 => 0 | 1 => 1 | 2 => 2 | _ => 4

/-- The LLRs of a tributary in 2^-16 nat (R193), from its metric differences by level, in the order of R97: levels +1, -1, or
+3, +1, -1, -3 with sign and magnitude bits. -/
def tribLlrs : List Int → List Int
  | [p1, m1] => [m1 - p1]
  | [p3, p1, m1, m3] => [min m1 m3 - min p1 p3, min p3 m3 - min p1 m1]
  | _ => []

/-- A delivered LLR before clamping (R193): the weight in 64ths. -/
def llrValue (l : Int) (weight scale : Nat) : Int := roundAway (l * (weight * scale : Nat)) (65536 * 64 * 16)

/-- A delivered LLR (R193). -/
def llr (l : Int) (weight scale : Nat) : Int := clamp (-31) 31 (llrValue l weight scale)

/-- Weight of tributary `t` of a period in 64ths (R193). -/
def llrWeight (clipW segW : Nat) (p : SoftPeriod) (t : Nat) : Nat :=
  if p.slip || !p.sync then 0
  else (if testBit p.clip t then clipW else 8) * (if p.uncertain then segW else 8)

/-- The LLRs of a payload period before clamping (R192, R193). -/
def periodLlrs (clipW segW scale : Nat) (p : SoftPeriod) : List Int :=
  ((List.range 4).map fun t =>
    (tribLlrs (p.delta.getD t [])).map fun l => llrValue l (llrWeight clipW segW p t) scale).flatten

/-- DMP_x begins to erase blocks (R193). -/
def dmpErase (s : State) (c : Carrier) : State :=
  let d := s.demapper.get c
  if d.erased || !s.running (.dmp c) then s
  else (setDemapper s c { d with erased := true }).raise (.dmp c) DMP.EVT.ERASE

/-- The counts of R193 over a block: erased symbols, and payload symbols that the weights apply to. -/
def countWeights (c : Carrier) (block : List SoftPeriod) (s : State) : State :=
  let payload := block.filter fun p => p.payload && p.sync
  let clips := sumNat (payload.map fun p => countTrue ((List.range 4).map fun t => testBit p.clip t))
  let s := s.addSat (.dmp c) DMP.ERASE_SYM.COUNT (countTrue (block.map fun p => p.slip || !p.sync))
  let s := s.addSat (.dmp c) DMP.CLIPW_SYM.COUNT clips
  s.addSat (.dmp c) DMP.SEGW_SYM.COUNT (countTrue (payload.map fun p => p.uncertain))

/-- The residuals of a block without markers enter the averages of R194. -/
def addNoise (d : Demapper) (block : List SoftPeriod) : Demapper :=
  let payload := block.filter (·.payload)
  let energy (f : SoftPeriod → List Int) (t : Nat) : Nat := sumNat (payload.map fun p => ((f p).getD t 0).natAbs ^ 2)
  { d with
    noise := (List.range 4).map fun t => d.noise.getD t 0 + energy (·.resid) t
    power := (List.range 4).map fun t => d.power.getD t 0 + energy (·.model) t
    varN := d.varN + payload.length
    varBlocks := d.varBlocks + 1 }

/-- SNR of a polarisation in 0.01 dB (R194): payload power over the sum of its two noise variances. -/
def snrOf (power noise : Nat) : Nat := if noise = 0 then 0xFFFF else min (ratioDecibel 66 power noise) 0xFFFF

/-- The estimates of R194 are updated every 2^VAR_LOG2 blocks. -/
def snrLatch (c : Carrier) (s : State) : State :=
  let d := s.demapper.get c
  if d.varBlocks < 2 ^ s.get (.dmp c) DMP.CTL.VAR_LOG2 || d.varN = 0 then s
  else
    let x := snrOf (d.power.getD 0 0 + d.power.getD 1 0) (d.noise.getD 0 0 + d.noise.getD 1 0)
    let y := snrOf (d.power.getD 2 0 + d.power.getD 3 0) (d.noise.getD 2 0 + d.noise.getD 3 0)
    let thr := 10 * s.get (.dmp c) DMP.CTL.SNR_THR
    let low := decide (x < thr) || decide (y < thr)
    let s := setDemapper s c { d with
      variance := d.noise.map fun n => n / (65536 * d.varN)
      armed := !low
      noise := [0, 0, 0, 0], power := [0, 0, 0, 0], varN := 0, varBlocks := 0 }
    let s := (s.set (.dmp c) DMP.SNR.X x).set (.dmp c) DMP.SNR.Y y
    s.raiseIf (low && d.armed) (.dmp c) DMP.EVT.SNR_LOW

/-- DMP_x delivers a block to FEC_x (R174, R192, R193). -/
def demapBlock (c : Carrier) (block : List SoftPeriod) (s : State) : State :=
  let s := countWeights c block s
  if block.any fun p => !p.sync then fecUnsynchronised (dmpErase s c) c
  else
    let s := if block.any (·.slip) then dmpErase s c else setDemapper s c { s.demapper.get c with erased := false }
    let clipW := weightEighths (s.get (.dmp c) DMP.CTL.CLIP_W)
    let segW := weightEighths (s.get (.dmp c) DMP.CTL.SEG_W)
    let scale := s.get (.dmp c) DMP.CTL.LLR_SCALE
    let ls := ((block.filter (·.payload)).map (periodLlrs clipW segW scale)).flatten
    let s := s.addSat (.dmp c) DMP.LLR_SAT.COUNT (countTrue (ls.map fun l => decide (31 < l.natAbs)))
    fecInput c (ls.map (clamp (-31) 31)) s

/-- A symbol block ends in DMP_x (R192-R194). -/
def snrUpdate (c : Carrier) (s : State) : State :=
  let d := s.demapper.get c
  let block := d.soft.take 256
  if !s.running (.dmp c) || decide (d.soft.length < 256) then s
  else
    let s := demapBlock c block (setDemapper s c { d with soft := d.soft.drop 256 })
    if block.any fun p => p.slip || !p.sync || p.clip != 0 then s
    else snrLatch c (setDemapper s c (addNoise (s.demapper.get c) block))

/-! ## Page behaviour (R195, R197, R198) -/

/-- MLS_x enters starting: it begins with a symbol block, and a reset of the trellis (DESIGN CHOICE, log entry 82). -/
def mlsStart (c : Carrier) (s : State) : State :=
  let d := s.demapper.get c
  let s := setDemapper s c { d with input := [], soft := [], resetDue := true, estBlocks := 0, gradN := 0,
                                    gradK := [0, 0, 0, 0], gradH := [0, 0, 0, 0] }
  s.clearAll (.mls c) [MLS.RESET_CNT.COUNT, MLS.LIMIT_CNT.COUNT]

/-- DMP_x enters starting. -/
def dmpStart (c : Carrier) (s : State) : State :=
  let d := s.demapper.get c
  let s := setDemapper s c { d with soft := [], noise := [0, 0, 0, 0], power := [0, 0, 0, 0],
                                    varN := 0, varBlocks := 0 }
  s.clearAll (.dmp c) [DMP.ERASE_SYM.COUNT, DMP.CLIPW_SYM.COUNT, DMP.SEGW_SYM.COUNT, DMP.LLR_SAT.COUNT]

/-- Writes MLS_x refuses with OUT_OF_RANGE (R197). -/
def mlsWriteBad (off : Nat) (new : Word) : Bool :=
  if off = MLS.CTL.EN.off then decide (10 < extract new 4 4)
  else if 0x44 ≤ off ∧ off ≤ 0x50 then decide (0xC00 < (toSigned 16 (extract new 0 16)).natAbs)
  else false

/-- An accepted write to MLS_x. -/
def mlsWritten (c : Carrier) (off : Nat) (s : State) : State := if off ≤ 0x50 then showTails s c else s

/-- Writes DMP_x refuses with OUT_OF_RANGE (R198). -/
def dmpWriteBad (off : Nat) (new : Word) : Bool :=
  off == DMP.CTL.LLR_SCALE.off && (decide (12 < extract new 16 4) || extract new 0 8 == 0)

end Sys2Proof.Machine
end

