-- ==== Sys2Proof/Machine/CarrierRecovery.lean ====
section
/-! DEFINITION. Machine/CarrierRecovery.lean: the carrier recovery of chapter 07: markers (R174), frequency offset (R175, R176),
phase recovery (R177-R179), cycle slips (R180-R183), the pilot-channel records (R184, R185) and the states of CPR_x (R186).
Symbols are in units of 2^-16 of a level, angles in units of 2^-40 rad, a turn back by θ is a product with e^(-jθ). -/
namespace Sys2Proof.Machine

open Sys2Proof (Byte Word Carrier Page)

/-- Change the carrier recovery of a carrier. -/
def setRec (s : State) (c : Carrier) (x : CarrierRec) : State := { s with carrierRec := s.carrierRec.set c x }

/-- States of R186. -/
def cprIdle : Nat := 0
def cprCoarse : Nat := 1
def cprFine : Nat := 2
def cprPhase : Nat := 3
def cprLocked : Nat := 4

/-- `CPR_x.STAT.STATE`. -/
def cprState (s : State) (c : Carrier) : Nat := s.get (.cpr c) CPR.STAT.STATE

/-- CPR_x is LOCKED: the phase lock EQZ_x waits for. -/
def phaseLocked (s : State) (c : Carrier) : Bool := cprState s c == cprLocked

/-- Pick the field of a carrier. -/
def pick (c : Carrier) (a b : Field) : Field := if c = .a then a else b

/-- `PCH_STAT.SYNC_x`. -/
def pchSyncF (x : Carrier) : Field := pick x QLT.PCH_STAT.SYNC_A QLT.PCH_STAT.SYNC_B

/-- A pilot channel leaves word sync, where it is in it (R251): LOSS counts the exit and the word stream breaks (R252). -/
def leaveWordSync (s : State) (c : Carrier) : State :=
  if s.flag .qlt (pchSyncF c) then breakPilot ((s.set .qlt (pchSyncF c) 0).bump .qlt QLT.PCH_STAT.LOSS) c else s

/-- PCH_ACTIVE returns to 0 (R251): RK1's search begins again from nothing. -/
def endPilotSearch (s : State) (c : Carrier) : State :=
  let s := leaveWordSync s c
  { s with qlt := { s.qlt with pilotRx := s.qlt.pilotRx.set c .start } }

/-- `STAT.PH_LOCK` and `STAT.PCH_ACTIVE` follow the state (R186, R196), and RK1's search of the pilot channel follows PCH_ACTIVE
(R251). -/
def cprShow (s : State) (c : Carrier) : State :=
  let st := cprState s c
  let on := s.flag (.cpr c) CPR.CTL.PCH_RX && decide (cprPhase ≤ st)
  let was := s.flag (.cpr c) CPR.STAT.PCH_ACTIVE
  let s := (s.setFlag (.cpr c) CPR.STAT.PH_LOCK (st == cprLocked)).setFlag (.cpr c) CPR.STAT.PCH_ACTIVE on
  if was && !on then endPilotSearch s c else s

/-- Pilots of a symbol frame (R75). -/
def pilotsPerFrame : Nat := 16376

/-! ## What CPR_x passes on (R174, R180) -/

/-- The known signs of the periods of a segment (R76, R77): of training symbol or pilot `i` on X and Y. -/
def knownSigns (x y : Int × Int) : List Int := [x.1, x.2, y.1, y.2]

/-- The training symbols of a carrier, period by period. -/
def trainingKnown (c : Carrier) : List (List Int) :=
  List.zipWith knownSigns (trainingSymbols c false) (trainingSymbols c true)

/-- Pilot `m` of a carrier. -/
def pilotKnown (c : Carrier) (m : Nat) : List Int :=
  knownSigns ((pilotSymbols c false (m + 1)).getD m (0, 0)) ((pilotSymbols c true (m + 1)).getD m (0, 0))

/-- The known symbols of a segment, period by period. -/
def segmentKnown (c : Carrier) (g : RxSegment) : List (Option (List Int)) :=
  if g.training then (trainingKnown c).map some else some (pilotKnown c g.pilot) :: List.replicate 63 none

/-- Period `k` of a segment begins a symbol block: 256 periods from the start of the symbol frame each (R75). -/
def beginsBlock (g : RxSegment) (k : Nat) : Bool := if g.training then k % 256 == 0 else k == 0 && g.pilot % 4 == 0

/-- The periods of a segment with its symbols `xs`, X and Y. -/
def segmentPeriods (c : Carrier) (g : RxSegment) (xs : List ((Int × Int) × (Int × Int))) : List RxPeriod :=
  ((List.range xs.length).zip (xs.zip (segmentKnown c g))).map fun e =>
    { first := beginsBlock g e.1, y := knownSigns e.2.1.1 e.2.1.2, known := e.2.2, sync := false, slip := g.slip,
      clip := g.clip, uncertain := false }

/-- CPR_x passes periods on: it adds the unsynchronised marker while it is not LOCKED (R174). -/
def cprPass (c : Carrier) (ps : List RxPeriod) (s : State) : State :=
  mlsPush c (ps.map fun p => { p with sync := phaseLocked s c }) s

/-- Pass on a list of segments, oldest first. -/
def cprPassAll (c : Carrier) (l : List (List RxPeriod)) (s : State) : State := l.foldl (fun s ps => cprPass c ps s) s

/-- Everything CPR_x holds is passed on as it stands, and its phase stages begin again. -/
def cprFlush (c : Carrier) (s : State) : State :=
  let r := s.carrierRec.get c
  let s := cprPassAll c (r.held ++ r.segments.map fun g => segmentPeriods c g (g.x.zip g.y)) s
  setRec s c { r with
    held := [], segments := [], previous := none, products := [], runX := .clear, runY := .clear, record := none }

/-- The output becomes unsynchronised (R174): the periods on their way to DMP_x with it (DEDUCED, log entry 82). -/
def cprUnsynchronise (c : Carrier) (s : State) : State :=
  let d := s.demapper.get c
  let s := setDemapper s c { d with
    input := d.input.map fun p => { p with sync := false }
    soft := d.soft.map fun p => { p with sync := false } }
  fecUnsynchronised (dmpErase s c) c

/-- Enter a state of CPR_x (R186). -/
def enterCpr (s : State) (c : Carrier) (st : Nat) : State :=
  let was := phaseLocked s c
  let s := cprShow (s.set (.cpr c) CPR.STAT.STATE st) c
  let s := if st ≤ cprCoarse then (cprFlush c s).set (.cpr c) CPR.STAT.FO_LOCK 0 else s
  let r := s.carrierRec.get c
  let s := if st = cprFine then setRec s c { r with blocks := 0, low := 0, foHist := [] }
    else if st = cprPhase then
      setRec s c { r with blocks := 0, pilots := 0, wrongX := 0, wrongY := 0, groupX := 0, groupY := 0, low := 0 }
    else setRec s c { r with blocks := 0, low := 0 }
  if was && st != cprLocked then cprUnsynchronise c s else s

/-- EQZ_x enters TRACK (R186): the next training block begins its symbol frame. -/
def cprTrackEntered (s : State) (c : Carrier) : State :=
  if s.running (.cpr c) && cprState s c == cprIdle then
    enterCpr (setRec s c { s.carrierRec.get c with next := pilotsPerFrame }) c cprCoarse
  else s

/-- EQZ_x leaves TRACK, or CPR_x leaves running (R186). -/
def cprTrackLeft (s : State) (c : Carrier) : State :=
  if cprState s c = cprIdle then s else enterCpr s c cprIdle

/-- A restart to FO_COARSE (R186). -/
def cprRestart (s : State) (c : Carrier) : State := (enterCpr s c cprCoarse).bump (.cpr c) CPR.ACQ_CNT.RESTART

/-! ## Markers (R174) -/

/-- The tributaries with a clip marker (R129, R174): lane t, or that of the other polarisation while POL_SWAP = 1. -/
def clipMarkers (s : State) (c : Carrier) : Nat :=
  sumNat ((carrierLanes c).map fun n =>
    let t := tributary n
    let lane := if s.flag (.eqz c) EQZ.ACQ_STAT.POL_SWAP then (t + 2) % 4 else t
    if s.flag (.lrx n) LRX.GAIN_STAT.CLIP_INT then 2 ^ lane else 0)

/-- A dropped block puts the slip marker on SLIP_SPAN blocks (R150): four segments of 64 periods each. -/
def cprSlipMark (c : Carrier) (blocks : Nat) (s : State) : State :=
  let r := s.carrierRec.get c
  setRec s c { r with slipLeft := max r.slipLeft (4 * blocks) }

/-- `n` segments of 64 periods take their slip marker. -/
def takeSlip (c : Carrier) (n : Nat) (s : State) : State :=
  let r := s.carrierRec.get c
  setRec s c { r with slipLeft := r.slipLeft - n }

/-! ## Frequency offset (R175, R176) -/

/-- ±3.5 GHz in 0.1 MHz (R175, R176). -/
def foLimit : Nat := 35000

/-- The differential products of one polarisation (R175). -/
def coarseProducts (z t : List (Int × Int)) : List (Int × Int) :=
  let d := List.zipWith conjMul t z
  List.zipWith conjMul d (d.drop 1)

/-- Sum of the magnitudes |u|, each to the unit below. -/
def magnitudeSum (l : List (Int × Int)) : Nat := sumNat (l.map fun u => isqrt (cplxPower u))

/-- The coarse estimate of a training block (R175): whether |rho| is at least 0.5, and f in 0.1 MHz. -/
def coarseEstimate (c : Carrier) (rate : Nat) (x y : List (Int × Int)) : Bool × Int :=
  let u := coarseProducts x (trainingSymbols c false) ++ coarseProducts y (trainingSymbols c true)
  let sum := cplxSum u
  let m := magnitudeSum u
  (decide (0 < m ∧ m * m ≤ 4 * cplxPower sum), roundAway (fixArg sum * rate * 10000) fixTurn)

/-- The NCO's phase step per symbol, from its frequency in 2^-16 of 0.1 MHz. -/
def ncoStep (rate : Nat) (freq : Int) : Int := fixTurn * freq / (65536 * 10000 * (max rate 1 : Nat))

/-- FO_EST shows the NCO frequency in 0.1 MHz. -/
def foShown (freq : Int) : Int := satSigned 20 (roundAway freq 65536)

/-- Load the NCO with a frequency in 0.1 MHz (R175). -/
def loadNco (c : Carrier) (fo : Int) (s : State) : State :=
  let r := s.carrierRec.get c
  let s := setRec s c { r with nco := 0, freq := fo * 65536, integrator := 0 }
  s.setInt (.cpr c) CPR.FO_EST.FO fo

/-- Turn the samples of a segment back by the NCO. -/
def ncoTurned (nco step : Int) (z : List (Int × Int)) : List (Int × Int) :=
  ((List.range z.length).zip z).map fun e => turnBack (nco + step * e.1) e.2

/-- The change of a pilot phase, by the nearest representative: modulo a turn, or half a turn with PCH_RX (R176, R177). -/
def phasePeriod (pch : Bool) : Nat := if pch then fixTurn / 2 else fixTurn

/-- The frequency loop takes a pilot phase change (R176). -/
def frequencyLoop (c : Carrier) (change : Int) (s : State) : State :=
  let r := s.carrierRec.get c
  let n := Config.foLoop (s.get (.cpr c) CPR.CTL.FO_BW) (symbolRate (lineMode s c)) r.integrator r.freq change
  let s := setRec s c { r with freq := n.1, integrator := n.2, foHist := (foShown n.1 :: r.foHist).take 1025 }
  s.setInt (.cpr c) CPR.FO_EST.FO (foShown n.1)

/-- FO_EST has changed by less than 2 MHz over 1,024 consecutive pilots (R176). -/
def foSettled (r : CarrierRec) : Bool :=
  let hi := r.foHist.foldl max (r.foHist.headD 0)
  r.foHist.length == 1025 && decide (hi - leastOf r.foHist < 20)

/-- FO_LOCK is set (R176, R186). -/
def foLock (c : Carrier) (s : State) : State :=
  if s.running (.cpr c) && decide (cprFine ≤ cprState s c) && foSettled (s.carrierRec.get c) then
    let was := s.flag (.cpr c) CPR.STAT.FO_LOCK
    let s := (s.set (.cpr c) CPR.STAT.FO_LOCK 1).raiseIf (!was) (.cpr c) CPR.EVT.FO_LOCK
    if cprState s c = cprFine then enterCpr s c cprPhase else s
  else s

/-- FO_EST leaves ±3.5 GHz (R176, R186). -/
def foRange (c : Carrier) (s : State) : State :=
  if s.running (.cpr c) && decide (cprFine ≤ cprState s c)
      && decide (foLimit < (s.getInt (.cpr c) CPR.FO_EST.FO).natAbs) then
    (cprRestart s c).raise (.cpr c) CPR.EVT.FO_RANGE
  else s

/-! ## The pilot-aided phase (R177) -/

/-- The phase of a sum of products: of the squared sum with PCH_RX (R177). -/
def sumPhase (pch : Bool) (z : Int × Int) : Int := if pch then fixArg (cplxSquare z) / 2 else fixArg z

/-- Phases of X and Y from the products of each, X with Y when JOINT_POL = 1. -/
def phasePair (joint pch : Bool) (x y : List (Int × Int)) : Int × Int :=
  if joint then
    let a := sumPhase pch (cplxSum (x ++ y))
    (a, a)
  else (sumPhase pch (cplxSum x), sumPhase pch (cplxSum y))

/-- The nearest representatives of a pair of phases. -/
def unwrapPair (period : Nat) (last a : Int × Int) : Int × Int := (nearTo period last.1 a.1, nearTo period last.2 a.2)

/-- Pilots after the one at the centre of a window of 2^v (R177). -/
def windowLag (v : Nat) : Nat := if v = 0 then 0 else 2 ^ (v - 1) - 1

/-- Give the phases of a pilot to the oldest segment without one. -/
def placePhase (a : Int × Int) : List RxSegment → List RxSegment
  | [] => []
  | g :: rest => if g.phase.isNone then { g with phase := some a } :: rest else g :: placePhase a rest

/-- The pilot-aided estimate moves on (R176, R177): the oldest pilot without a phase takes that of the window around it, once the
window is complete. -/
def pilotPhase (c : Carrier) (s : State) : State :=
  let r := s.carrierRec.get c
  let v := s.get (.cpr c) CPR.CTL.PA_WIN
  let pch := s.flag (.cpr c) CPR.CTL.PCH_RX
  let due := (r.segments.filter fun g => g.phase.isNone).length
  let w := (r.products.drop (due - 1 - windowLag v)).take (2 ^ v)
  if due ≤ windowLag v then s
  else
    let a := phasePair (s.flag (.cpr c) CPR.CTL.JOINT_POL) pch (w.map (·.1)) (w.map (·.2))
    let a := unwrapPair (phasePeriod pch) r.last a
    let change := ((a.1 - r.last.1) + (a.2 - r.last.2)) / 2
    frequencyLoop c change (setRec s c { r with last := a, segments := placePhase a r.segments })

/-- Up to `n` pilots take their phase. -/
def pilotPhases (c : Carrier) : Nat → State → State
  | 0, s => s
  | n + 1, s => pilotPhases c n (pilotPhase c s)

/-- Where a segment's phase lies in it, and its length. -/
def phaseOffset (g : RxSegment) : Int := if g.training then 256 else 0
def segmentLength (g : RxSegment) : Int := if g.training then 512 else 64

/-- The value at `p` on the line through `a` at `pa` and `b` at `pb`. -/
def interpolate (pa a pb b p : Int) : Int := a + (b - a) * (p - pa) / (pb - pa)

/-- The pilot-aided phases of period `k` of a segment, between those of its neighbours (R177). -/
def phaseAt (before : Option RxSegment) (g : RxSegment) (after : Option RxSegment) (k : Int) : Int × Int :=
  let own := g.phase.getD (0, 0)
  let o := phaseOffset g
  let line (q : Int × Int) (place : Int) : Int × Int := (interpolate o own.1 place q.1 k, interpolate o own.2 place q.2 k)
  let other := if k < o then before.map fun b => (b, phaseOffset b - segmentLength b)
    else after.map fun a => (a, segmentLength g + phaseOffset a)
  match other with
  | some (h, place) => line (h.phase.getD own) place
  | none => own

/-- A symbol after the pilot-aided correction: its phases, its samples and its known signs. -/
structure AidedSymbol where
  phase : Int × Int
  x : Int × Int
  y : Int × Int
  known : Option (List Int)

/-- The symbols of a segment after the pilot-aided correction (R177). -/
def aidedSymbols (c : Carrier) (before : Option RxSegment) (g : RxSegment) (after : Option RxSegment) : List AidedSymbol :=
  ((List.range g.x.length).zip ((g.x.zip g.y).zip (segmentKnown c g))).map fun e =>
    let a := phaseAt before g after e.1
    ⟨a, turnBack a.1 e.2.1.1, turnBack a.2 e.2.1.2, e.2.2⟩

/-! ## Blind phase search (R178, R179) -/

/-- The nearest level. -/
def nearestLevel (levels : List Int) (v : Int) : Int :=
  levels.foldl (fun b l => if (v - l).natAbs < (v - b).natAbs then l else b) (levels.headD 0)

/-- The nearest constellation point. -/
def nearestPoint (levels : List Int) (z : Int × Int) : Int × Int := (nearestLevel levels z.1, nearestLevel levels z.2)

/-- Squared distance of a sample to its nearest point, or to the known symbol. -/
def pointDistance (levels : List Int) (known : Option (Int × Int)) (z : Int × Int) : Nat :=
  let p := known.getD (nearestPoint levels z)
  cplxPower (z.1 - p.1, z.2 - p.2)

/-- The known symbol of a polarisation at amplitude `a`. -/
def knownPoint (a : Int) (y : Bool) (k : Option (List Int)) : Option (Int × Int) :=
  k.map fun l => let i := if y then 2 else 0; (a * l.getD i 0, a * l.getD (i + 1) 0)

/-- Test phase ψ_b (R178). -/
def testPhase (b : Nat) : Int := ((b : Int) - 16) * fixPi / 64

/-- The distances of one polarisation of a symbol under the 32 test phases. -/
def phaseDistances (levels : List Int) (a : Int) (y : Bool) (v : AidedSymbol) : List Nat :=
  (List.range 32).map fun b =>
    pointDistance levels (knownPoint a y v.known) (turnBack (testPhase b) (if y then v.y else v.x))

/-- Entry by entry sum of two lists of distances. -/
def addDistances (a b : List Nat) : List Nat := List.zipWith (· + ·) a b

/-- The test phase of least sum over a window of distances (R178), the lowest of equal ones. -/
def leastPhase (w : List (List Nat)) : Int :=
  let sums := w.foldl addDistances (List.replicate 32 0)
  testPhase ((List.range 32).foldl (fun b i => if sums.getD i 0 < sums.getD b 0 then i else b) 0)

/-- Unwrap a run of test phases from `psi` on (R178). -/
def unwrapRun (psi : Int) : List Int → List Int
  | [] => []
  | a :: rest => let p := nearTo fixQuarter psi a; p :: unwrapRun p rest

/-- The unwrapped BPS phases of `n` symbols of a polarisation, of which the first stands at place `from_` of the distances. -/
def bpsRun (half from_ n : Nat) (psi : Int) (dist : List (List Nat)) : List Int :=
  unwrapRun psi ((List.range n).map fun i =>
    leastPhase ((dist.drop (from_ + i - half)).take (min half (from_ + i) + half + 1)))

/-- The BPS phases of a segment, X and Y (R178): `before` and `after` are the symbols on each side. -/
def bpsPhases (s : State) (c : Carrier) (before now after : List AidedSymbol) : List (Int × Int) :=
  let r := s.carrierRec.get c
  let levels := payloadLevels (lineMode s c)
  let a := pilotAmplitude s c
  let half := s.get (.cpr c) CPR.CTL.BPS_HALF
  let all := before ++ now ++ after
  let dx := all.map (phaseDistances levels a false)
  let dy := all.map (phaseDistances levels a true)
  if !s.flag (.cpr c) CPR.CTL.BPS_EN then now.map fun _ => (0, 0)
  else if s.flag (.cpr c) CPR.CTL.JOINT_POL then
    let d := List.zipWith addDistances dx dy
    (bpsRun half before.length now.length r.runX.psi d).map fun p => (p, p)
  else
    (bpsRun half before.length now.length r.runX.psi dx).zip (bpsRun half before.length now.length r.runY.psi dy)

/-- θ_n and d_n of one polarisation (R179): the phase the NCO, the pilots and BPS give, and the nearest point of the symbol turned
back by it. -/
def givenPoint (levels : List Int) (nco aided bps : Int) (z : Int × Int) : Int × (Int × Int) :=
  (nco + aided + bps, nearestPoint levels (turnBack bps z))

/-! ## Cycle slips (R180-R183) -/

/-- The nearest number of quarter turns. -/
def quarters (a : Int) : Int := roundAway a fixQuarter

/-- q_m of a pilot (R180); with PCH_RX only ±1, modulo two (R183). -/
def pilotQuadrant (pch : Bool) (x : SlipRun) (psi : Int) : Int :=
  let q := quarters psi - (x.repaired + x.turned)
  if pch then (if q % 4 = 1 then 1 else if q % 4 = 3 then -1 else 0) else q

/-- Turn one polarisation of a period back by quarter turns. -/
def turnPeriod (y : Bool) (q : Int) (p : RxPeriod) : RxPeriod :=
  let v (i : Nat) : Int := p.y.getD i 0
  let z := if y then quarterBack q (v 2, v 3) else quarterBack q (v 0, v 1)
  { p with y := if y then [v 0, v 1, z.1, z.2] else [z.1, z.2, v 2, v 3] }

/-- Mark the payload of a segment as uncertain. -/
def markUncertain (ps : List RxPeriod) : List RxPeriod := ps.map fun p => { p with uncertain := p.uncertain || p.known.isNone }

/-- Apply `f` to the held segments of which `f`'s argument tells how many come after them. -/
def mapHeld (f : Nat → List RxPeriod → List RxPeriod) (held : List (List RxPeriod)) : List (List RxPeriod) :=
  (List.range held.length).map fun i => f (held.length - 1 - i) (held.getD i [])

/-- The repair of R180 on the symbols held, turned back by `q`: `n` segments have come since pilot m0, whose own segment is turned
after its pilot and becomes uncertain. -/
def repairHeld (joint y : Bool) (q : Int) (n : Nat) (held : List (List RxPeriod)) : List (List RxPeriod) :=
  let turn (p : RxPeriod) : RxPeriod := if joint then turnPeriod true q (turnPeriod false q p) else turnPeriod y q p
  mapHeld (fun k ps =>
    if k < n then ps.map turn
    else if k = n then ps.take 1 ++ (markUncertain (ps.drop 1)).map turn
    else ps) held

/-- The segments from pilot m0's on, but the latest `skip`, become uncertain (R181): `n` have come since pilot m0. -/
def doubtHeld (n skip : Nat) (held : List (List RxPeriod)) : List (List RxPeriod) :=
  mapHeld (fun k ps => if skip ≤ k ∧ k ≤ n then markUncertain ps else ps) held

/-- A slip is repaired (R180): the held symbols, the count and the event. -/
def slipRepaired (c : Carrier) (y : Bool) (q : Int) (n : Nat) (s : State) : State :=
  let r := s.carrierRec.get c
  let s := setRec s c { r with held := repairHeld (s.flag (.cpr c) CPR.CTL.JOINT_POL) y (-q) n r.held }
  (s.bump (.cpr c) CPR.SLIP_CNT.COUNT).raise (.cpr c) CPR.EVT.CYCLE_SLIP

/-- An excursion stays unresolved (R181). -/
def slipUnresolved (c : Carrier) (n skip : Nat) (s : State) : State :=
  let r := s.carrierRec.get c
  let s := setRec s c { r with held := doubtHeld n skip r.held }
  (s.bump (.cpr c) CPR.SLIP_UNRES.COUNT).raise (.cpr c) CPR.EVT.SLIP_UNRES

/-- The detector of a polarisation. -/
def slipRun (s : State) (c : Carrier) (y : Bool) : SlipRun := if y then (s.carrierRec.get c).runY else (s.carrierRec.get c).runX

/-- Replace it. -/
def setRun (s : State) (c : Carrier) (y : Bool) (x : SlipRun) : State :=
  let r := s.carrierRec.get c
  setRec s c (if y then { r with runY := x } else { r with runX := x })

/-- The detector forgets the run in progress. -/
def SlipRun.rest (x : SlipRun) : SlipRun := { x with q := 0, len := 0, mixed := false, since := 0 }

/-- A pilot gives the quadrant `q` (R180, R181): its segment is not yet held, and `since` counts the held segments after that of
the last pilot with q = 0. -/
def judgeQuadrant (c : Carrier) (y : Bool) (q : Int) (s : State) : State :=
  let x := slipRun s c y
  if q = 0 then
    let s := setRun s c y x.rest
    if x.len = 0 then s else slipUnresolved c x.since 0 s
  else
    let equal := q == x.q && x.len != 0
    let len := if equal then x.len + 1 else 1
    let mixed := x.mixed || (!equal && x.len != 0)
    let begins := mixed && equal && len == 2
    let s := setRun s c y { x with q := q, len := len, mixed := mixed && !begins, since := x.since }
    let s := if begins then slipUnresolved c x.since 1 s else s
    if s.get (.cpr c) CPR.CTL.SLIP_CONFIRM + 1 ≤ len && (!mixed || begins) then
      let s := setRun s c y { x.rest with repaired := x.repaired + q }
      slipRepaired c y q x.since s
    else s

/-- A segment has been held: a run in progress grows by it. -/
def growRun (c : Carrier) (y : Bool) (s : State) : State :=
  let x := slipRun s c y
  if x.len = 0 then s else setRun s c y { x with since := x.since + 1 }

/-- The first pilot after a slip-marked block (R182): BPS is anchored to the pilot-aided phase again. -/
def reanchor (c : Carrier) (y : Bool) (s : State) : State :=
  let x := slipRun s c y
  let turned := if s.flag (.cpr c) CPR.CTL.PCH_RX then x.turned else 0
  setRun s c y { x.rest with psi := 0, repaired := 0, turned := turned }

/-- The test at a training block (R182, R183): the BPS phase against the phase measured on the training, from which the pilot-aided
phase differs by `turns`. -/
def trainingSlip (c : Carrier) (y : Bool) (psi turns : Int) (s : State) : State :=
  let x := slipRun s c y
  let q := quarters psi + turns - (x.repaired + x.turned)
  if q = 0 then s
  else slipRepaired c y q 0 (setRun s c y { x with repaired := quarters psi, turned := turns })

/-! ## Soft values and records (R184, R185) -/

/-- A soft value (R184): the sum over the group, of unit signs, with N_g pilots at magnitude `a`. -/
def softValue (sum a : Int) (n : Nat) : Int := clamp (-127) 127 (roundAway (100 * sum) (4 * n * a.toNat))

/-- A pilot enters the sum of its group (R184): `y` holds its tributaries after the phase of R179 as repaired (log entry 82). -/
def softPilot (c : Carrier) (m : Nat) (y : List Int) (s : State) : State :=
  let r := s.carrierRec.get c
  let sum := (List.zipWith (· * ·) (pilotKnown c m) y).foldl (· + ·) r.groupSum
  let g := pilotGroup m
  let first := pilotGroup m * 64
  if m + 1 = first + pilotGroupSize g then
    setRec s c { r with groupSum := 0, softs := r.softs ++ [softValue sum (pilotAmplitude s c) (pilotGroupSize g)] }
  else setRec s c { r with groupSum := sum }

/-- The 272 bytes of a record (R185). -/
def pchRecord (c : Carrier) (syfs : Nat) (anchored : Bool) (vs : List Int) : List Byte :=
  leBytes 4 syfs ++ leBytes 1 c.idx ++ leBytes 1 (bit anchored) ++ leBytes 10 0
    ++ (List.range 256).map fun g => BitVec.ofNat 8 (ofSigned 8 (vs.getD g 0))

/-- After pilot group 255 a record is written to RK1's ring, or an overflow counted (R185). -/
def pchRecordWrite (c : Carrier) (s : State) : State :=
  let r := s.carrierRec.get c
  match r.record with
  | none => s
  | some (syfs, anchored) =>
    if !s.flag (.cpr c) CPR.STAT.PCH_ACTIVE || r.softs.length != 256 then s
    else
      let s := setRec s c { r with record := none }
      let n := s.get (.cpr c) CPR.PCH_RING.ENTRIES
      let wr := s.get (.cpr c) CPR.PCH_RING.WR_IDX
      if (wr + 1) % n = s.get (.cpr c) CPR.PCH_RING.RD_IDX then
        (s.bump (.cpr c) CPR.PCH_RING.OVF).raise (.cpr c) CPR.EVT.PCH_OVF
      else
        let a := 16 * s.get (.cpr c) CPR.PCH_BASE.ADDR + 272 * wr
        let m := writeBytes (s.dsram.get 1) a (pchRecord c syfs anchored r.softs)
        { s with dsram := s.dsram.set 1 m }.set (.cpr c) CPR.PCH_RING.WR_IDX ((wr + 1) % n)

/-! ## A segment leaves the phase stages -/

/-- Segments leave CPR_x while it holds more than 1,024 symbols (R180). -/
def cprRelease (c : Carrier) : Nat → State → State
  | 0, s => s
  | n + 1, s =>
    let r := s.carrierRec.get c
    match r.held with
    | [] => s
    | ps :: rest =>
      if sumNat (r.held.map List.length) ≤ 1024 then s
      else cprRelease c n (cprPass c ps (setRec s c { r with held := rest }))

/-- The detectors take a segment's BPS phases `psi` at the place of its own phase (R180-R183). -/
def detectSlips (c : Carrier) (g : RxSegment) (psi : Int × Int) (s : State) : State :=
  let pch := s.flag (.cpr c) CPR.CTL.PCH_RX
  let one (y : Bool) (p t : Int) (s : State) : State :=
    if g.slip then setRun s c y (slipRun s c y).rest
    else if g.training then trainingSlip c y p t s
    else judgeQuadrant c y (pilotQuadrant pch (slipRun s c y) p) s
  let s := one false psi.1 g.turns.1 s
  if s.flag (.cpr c) CPR.CTL.JOINT_POL then setRun s c true (slipRun s c false) else one true psi.2 g.turns.2 s

/-- Segment `g` with its BPS phases is corrected and held (R178-R184). -/
def holdSegment (c : Carrier) (g : RxSegment) (now : List AidedSymbol) (bps : List (Int × Int)) (s : State) : State :=
  let levels := payloadLevels (lineMode s c)
  let o := (phaseOffset g).toNat
  let r := s.carrierRec.get c
  let given := ((List.range now.length).zip (now.zip bps)).map fun e =>
    let nco := g.nco + g.step * (e.1 : Int)
    let v := e.2.1
    (givenPoint levels nco v.phase.1 e.2.2.1 v.x, givenPoint levels nco v.phase.2 e.2.2.2 v.y)
  let ends := bps.getLastD (0, 0)
  let s := setRec s c { r with
    given := given, runX := { r.runX with psi := ends.1 }, runY := { r.runY with psi := ends.2 } }
  let s := detectSlips c g (bps.getD o (0, 0)) s
  let r := s.carrierRec.get c
  let turned (x : SlipRun) (b : Int) (z : Int × Int) : Int × Int := quarterBack (-(x.repaired + x.turned)) (turnBack b z)
  let xs := (now.zip bps).map fun e => (turned r.runX e.2.1 e.1.x, turned r.runY e.2.2 e.1.y)
  let ps := segmentPeriods c g xs
  let ps := if g.slip then markUncertain ps else ps
  let s := setRec s c { r with held := r.held ++ [ps], segments := r.segments.drop 1, previous := some g }
  let s := growRun c true (growRun c false s)
  let s := if g.training then
      let r := s.carrierRec.get c
      setRec s c { r with record := g.mark, softs := [], groupSum := 0 }
    else softPilot c g.pilot ((ps.map (·.y)).headD []) s
  cprRelease c (s.carrierRec.get c).held.length s

/-- The oldest segment is corrected once its phase and those of the two after it are known (R177, R178). -/
def cprPump (c : Carrier) (s : State) : State :=
  let r := s.carrierRec.get c
  match r.segments with
  | g :: h :: k :: _ =>
    if g.phase.isSome && h.phase.isSome && k.phase.isSome then
      let s := if (r.previous.map (·.slip)).getD false && !g.slip then reanchor c true (reanchor c false s) else s
      let now := aidedSymbols c r.previous g (some h)
      let before := match r.previous with
        | some p => let l := aidedSymbols c none p (some g); l.drop (l.length - 64)
        | none => []
      let after := (aidedSymbols c (some g) h (some k)).take 64
      holdSegment c g now (bpsPhases s c before now after) s
    else s
  | _ => s

/-! ## Pilots (R176, R177, R186) -/

/-- The pilot's sign decision is wrong (R186): the pilot, turned back by the pilot-aided phase, lies opposite to its symbol. -/
def wrongSign (phase : Int) (p z : Int × Int) : Bool := decide ((conjMul p (turnBack phase z)).1 < 0)

/-- Wrong signs of a group of `n` with `k` negative ones: against +1, or against the majority with PCH_RX (R186). -/
def groupWrong (pch : Bool) (n k : Nat) : Nat := if pch then min k (n - k) else k

/-- The sign decisions of a pilot are counted, by group (R186). -/
def countSigns (c : Carrier) (m : Nat) (wrongX wrongY : Bool) (s : State) : State :=
  let r := s.carrierRec.get c
  let x := r.groupX + bit wrongX
  let y := r.groupY + bit wrongY
  let n := pilotGroupSize (pilotGroup m)
  if m + 1 = pilotGroup m * 64 + n then
    let pch := s.flag (.cpr c) CPR.CTL.PCH_RX
    let wx := groupWrong pch n x
    let wy := groupWrong pch n y
    setRec s c { r with
      groupX := 0, groupY := 0, pilots := r.pilots + n, wrongX := r.wrongX + wx, wrongY := r.wrongY + wy
      frameX := r.frameX + wx, frameY := r.frameY + wy }
  else setRec s c { r with groupX := x, groupY := y }

/-- Powers of a segment's pilot and payload symbols (R177). -/
def addPowers (r : CarrierRec) (x y : List (Int × Int)) : CarrierRec :=
  let p := sumNat ((x.take 1 ++ y.take 1).map cplxPower)
  let d := sumNat ((x.drop 1 ++ y.drop 1).map cplxPower)
  { r with
    pilotPower := r.pilotPower + p, pilotCount := r.pilotCount + 2
    dataPower := r.dataPower + d, dataCount := r.dataCount + 126 }

/-- A segment of `n` times 64 periods enters the phase stages behind the NCO. -/
def segmentOf (s : State) (c : Carrier) (training : Bool) (m : Nat) (x y : List (Int × Int)) : RxSegment :=
  let r := s.carrierRec.get c
  let step := ncoStep (symbolRate (lineMode s c)) r.freq
  { training := training, pilot := m, x := ncoTurned r.nco step x, y := ncoTurned r.nco step y, nco := r.nco, step := step,
    phase := none, turns := (0, 0), slip := decide (0 < r.slipLeft), clip := clipMarkers s c, mark := none }

/-- The NCO moves on by the length of a segment. -/
def advanceNco (c : Carrier) (g : RxSegment) (s : State) : State :=
  let r := s.carrierRec.get c
  setRec s c { r with nco := nearTo fixTurn 0 (r.nco + g.step * segmentLength g) }

/-- Pilot `m` and the 63 symbols after it, in FO_FINE and beyond (R176-R186). -/
def trackPilot (c : Carrier) (m : Nat) (x y : List (Int × Int)) (s : State) : State :=
  let g := segmentOf s c false m x y
  let known := pilotKnown c m
  let px := (known.getD 0 0, known.getD 1 0)
  let py := (known.getD 2 0, known.getD 3 0)
  let zx := g.x.headD (0, 0)
  let zy := g.y.headD (0, 0)
  let s := advanceNco c g s
  let r := s.carrierRec.get c
  let r := addPowers { r with
    segments := r.segments ++ [g]
    products := ((conjMul px zx, conjMul py zy) :: r.products).take 16 } g.x g.y
  let s := pilotPhases c 8 (setRec s c r)
  let a := (s.carrierRec.get c).last
  cprPump c (countSigns c m (wrongSign a.1 px zx) (wrongSign a.2 py zy) s)

/-- Before FO_FINE a segment passes on as it is, unsynchronised (R186). -/
def passSegment (c : Carrier) (g : RxSegment) (s : State) : State := cprPass c (segmentPeriods c g (g.x.zip g.y)) s

/-- The next pilot and its payload reach CPR_x (R174-R184); `x` and `y` hold the 64 samples of each polarisation. -/
def pilotArrives (c : Carrier) (x y : List (Int × Int)) (s : State) : State :=
  let r := s.carrierRec.get c
  let m := r.next
  let x := (List.range 64).map fun i => x.getD i (0, 0)
  let y := (List.range 64).map fun i => y.getD i (0, 0)
  if !s.running (.cpr c) || decide (pilotsPerFrame ≤ m) then s
  else
    let s := setRec s c { r with next := m + 1 }
    let s := if cprState s c < cprFine then passSegment c (segmentOf s c false m x y) s else trackPilot c m x y s
    takeSlip c 1 s

/-! ## Training blocks (R175, R177, R182, R185, R186) -/

/-- Correct decisions of a training block on one polarisation: QPSK quadrant decisions (R186). -/
def trainingCorrect (phase : Int) (t z : List (Int × Int)) : Nat :=
  countTrue (List.zipWith (fun t z =>
    let d := turnBack phase z
    decide (0 < t.1 * d.1 ∧ 0 < t.2 * d.2)) t z)

/-- At least 0.90 of the decisions are correct. -/
def trained90 (ok : Nat) : Bool := decide (9 * 512 ≤ 10 * ok)

/-- Fewer than 0.75 of the decisions are correct. -/
def below75 (ok : Nat) : Bool := decide (4 * ok < 3 * 512)

/-- The pilot magnitude over the payload RMS in 2^-12 (R177). -/
def pilotScale (r : CarrierRec) : Nat :=
  min (isqrt (r.pilotPower * r.dataCount * 2 ^ 24 / (r.pilotCount * r.dataPower))) 0xFFFF

/-- The frame's pilot figures are latched at its end (R177, R196). -/
def latchPilots (c : Carrier) (s : State) : State :=
  let r := s.carrierRec.get c
  let s := (s.set (.cpr c) CPR.PILOT_ERR.X (min r.frameX 0xFFFF)).set (.cpr c) CPR.PILOT_ERR.Y (min r.frameY 0xFFFF)
  let s := if r.pilotCount = 0 ∨ r.dataPower = 0 then s else s.set (.cpr c) CPR.PILOT_SCALE.SCALE (pilotScale r)
  setRec s c { r with frameX := 0, frameY := 0, pilotPower := 0, pilotCount := 0, dataPower := 0, dataCount := 0 }

/-- The phases measured on a training block (R177, R182), and the training segment in the run of phases: with PCH_RX it joins the
phases before it modulo half a turn, and `turns` holds the quarter turns between. -/
def trainingSegment (s : State) (c : Carrier) (g : RxSegment) : RxSegment × (Int × Int) :=
  let pch := s.flag (.cpr c) CPR.CTL.PCH_RX
  let r := s.carrierRec.get c
  let true_ := phasePair (s.flag (.cpr c) CPR.CTL.JOINT_POL) false
    (List.zipWith conjMul (trainingSymbols c false) g.x) (List.zipWith conjMul (trainingSymbols c true) g.y)
  let a := unwrapPair (phasePeriod pch) r.last true_
  ({ g with phase := some a, turns := (quarters (a.1 - true_.1) % 4, quarters (a.2 - true_.2) % 4) }, true_)

/-- The state of CPR_x moves on at a training block (R186): `x` and `y` are its raw samples, `frame` the wrong signs of the symbol
frame before it. -/
def trainingState (c : Carrier) (x y : List (Int × Int)) (okX okY : Nat) (frame : Nat × Nat) (s : State) : State :=
  let r := s.carrierRec.get c
  let st := cprState s c
  if st = cprCoarse then
    let e := coarseEstimate c (symbolRate (lineMode s c)) x y
    if e.1 && decide (e.2.natAbs ≤ foLimit) then enterCpr (loadNco c e.2 s) c cprFine
    else
      (s.bump (.cpr c) CPR.ACQ_CNT.FO_FAIL).raiseIf (decide (foLimit < e.2.natAbs)) (.cpr c) CPR.EVT.FO_RANGE
  else if st = cprFine then (if 4 ≤ r.blocks then cprRestart s c else s)
  else if st = cprPhase then
    if trained90 okX && trained90 okY && decide (1024 ≤ r.pilots) && decide (20 * r.wrongX ≤ r.pilots)
        && decide (20 * r.wrongY ≤ r.pilots) then
      (enterCpr s c cprLocked).raise (.cpr c) CPR.EVT.PH_LOCK
    else if s.get (.cpr c) CPR.CTL.PH_TO ≤ r.blocks then cprRestart s c
    else s
  else
    let low := if below75 okX || below75 okY then r.low + 1 else 0
    let s := setRec s c { r with low := low }
    if 2 ≤ low || decide (pilotsPerFrame < 8 * frame.1) || decide (pilotsPerFrame < 8 * frame.2) then
      (enterCpr s c cprPhase).raise (.cpr c) CPR.EVT.PH_LOST
    else s

/-- A training block enters the phase stages or passes on, and its decisions are counted. -/
def trainingEnters (c : Carrier) (g : RxSegment) (okX okY : Nat) (last : Int × Int) (s : State) : State :=
  let s := (s.set (.cpr c) CPR.TRAIN_OK.X (min (okX / 2) 0xFF)).set (.cpr c) CPR.TRAIN_OK.Y (min (okY / 2) 0xFF)
  let r := s.carrierRec.get c
  let keep := decide (cprPhase ≤ cprState s c)
  let r := { r with blocks := r.blocks + 1, syfs := (r.syfs + 1) % 2 ^ 32, next := 0 }
  if cprState s c < cprFine then passSegment c g (setRec s c r)
  else
    let g := { g with mark := if keep then some (r.syfs, trained90 okX && trained90 okY) else none }
    cprPump c (advanceNco c g (setRec s c { r with segments := r.segments ++ [g], last := last }))

/-- A training block reaches CPR_x (R174-R186); `x` and `y` hold the 512 samples of each polarisation. -/
def trainingBlock (c : Carrier) (x y : List (Int × Int)) (s : State) : State :=
  let x := (List.range 512).map fun i => x.getD i (0, 0)
  let y := (List.range 512).map fun i => y.getD i (0, 0)
  if !s.running (.cpr c) || cprState s c == cprIdle then s
  else
    let t := trainingSegment s c (segmentOf s c true 0 x y)
    let okX := trainingCorrect t.2.1 (trainingSymbols c false) t.1.x
    let okY := trainingCorrect t.2.2 (trainingSymbols c true) t.1.y
    let frame := ((s.carrierRec.get c).frameX, (s.carrierRec.get c).frameY)
    let s := trainingEnters c t.1 okX okY (t.1.phase.getD (0, 0)) (latchPilots c s)
    takeSlip c 8 (trainingState c x y okX okY frame s)

/-! ## Page behaviour (R185, R195, R196) -/

/-- CPR_x refuses RUN when its ring does not fit RK1's data SRAM (R185). -/
def cprRunBad (s : State) (c : Carrier) : Bool :=
  decide (524288 < 16 * s.get (.cpr c) CPR.PCH_BASE.ADDR + 272 * s.get (.cpr c) CPR.PCH_RING.ENTRIES)

/-- CPR_x enters starting (R185, R195). -/
def cprStart (c : Carrier) (s : State) : State :=
  let s := s.clearAll (.cpr c)
    [CPR.SLIP_CNT.COUNT, CPR.SLIP_UNRES.COUNT, CPR.PILOT_ERR.X, CPR.PILOT_ERR.Y, CPR.ACQ_CNT.FO_FAIL, CPR.ACQ_CNT.RESTART,
     CPR.PCH_RING.OVF, CPR.PCH_RING.RD_IDX, CPR.PCH_RING.WR_IDX]
  setRec s c { CarrierRec.clear with freq := (s.carrierRec.get c).freq }

/-- Writes CPR_x refuses with OUT_OF_RANGE (R185, R196). -/
def cprWriteBad (s : State) (c : Carrier) (off : Nat) (new : Word) : Bool :=
  if off = CPR.CTL.PH_TO.off then
    extract new 28 4 == 0 || decide (extract new 16 7 < 4) || decide (64 < extract new 16 7) || extract new 4 2 == 3
  else if off = CPR.PCH_RING.ENTRIES.off then
    let n := extract new 0 8
    n == 0 || (n == s.get (.cpr c) CPR.PCH_RING.ENTRIES && decide (n ≤ extract new 16 8))
  else false

/-- An accepted write to CPR_x. -/
def cprWritten (c : Carrier) (off : Nat) (old new : Word) (s : State) : State :=
  if off = CPR.CTL.PCH_RX.off then cprShow s c
  else if off = CPR.PCH_RING.ENTRIES.off then
    if extract old 0 8 != extract new 0 8 then s.clearAll (.cpr c) [CPR.PCH_RING.RD_IDX, CPR.PCH_RING.WR_IDX] else s
  else s

end Sys2Proof.Machine
end

