-- ==== Sys2Proof/Machine/Equalisation.lean ====
section
/-! DEFINITION. Machine/Equalisation.lean: chapter 06: dispersion compensation (R146-R150), timing (R151-R154), the MIMO
equaliser with its banks (R155-R164) and the acquisition sequence (R165-R167). -/
namespace Sys2Proof.Machine

open Sys2Proof (Word Carrier Page)

/-- Change the dispersion compensator of a carrier. -/
def setDispersion (s : State) (c : Carrier) (x : Dispersion) : State := { s with dispersion := s.dispersion.set c x }

/-- Change the equaliser of a carrier. -/
def setEqualiser (s : State) (c : Carrier) (x : Equaliser) : State := { s with equaliser := s.equaliser.set c x }

/-! ## Dispersion (R146-R150) -/

/-- Range of a symbol rate in ps/nm (R146). -/
def cdRange (rate : Nat) : Nat :=
  match rate with
  | 240 => 12000 | 180 => 21000 | 120 => 48000 | _ => 50000

/-- Coarse step S_c of a symbol rate (R146). -/
def cdCoarse (rate : Nat) : Nat :=
  match rate with
  | 240 => 100 | 180 => 178 | 120 => 400 | _ => 1600

/-- Fine step of a symbol rate (R146). -/
def cdFine (rate : Nat) : Nat :=
  match rate with
  | 240 => 10 | 180 => 18 | 120 => 40 | _ => 160

/-- The carrier's symbol rate. -/
def carrierRate (s : State) (c : Carrier) : Nat := symbolRate (lineMode s c)

/-- The applied CD. -/
def cdApplied (s : State) (c : Carrier) : Int := (s.dispersion.get c).base + (s.dispersion.get c).offset

/-- Samples a pulse spreads over (R146): M at a channel frequency in 100 MHz units, rounded up. -/
def cdSpread (cd : Int) (rate freq : Nat) : Nat :=
  if freq = 0 then 0
  else
    let n := 8008 * cd.natAbs * 36 * rate * rate * (1934000 * 1934000)
    let d := 1000000000 * 25 * freq * freq
    (n + d - 1) / d

/-- SLIP_SPAN (R150). -/
def slipSpan (spread : Nat) : Nat := (spread + 308 + 306) / 307 + 1

/-- CD_APPLIED and SLIP_SPAN follow the compensator. -/
def showCd (s : State) (c : Carrier) : State :=
  let cd := cdApplied s c
  let s := s.setInt (.cdc c) CDC.CD_APPLIED.CD cd
  s.set (.cdc c) CDC.SLIP_SPAN.SPAN
    (min 0xFF (slipSpan (cdSpread cd (carrierRate s c) (s.get (.cdc c) CDC.CHAN_FREQ.FREQ))))

/-- Set the base value, clamped to the range with CD_RANGE; the tracking offset is zeroed (R147). -/
def setBase (c : Carrier) (cd : Int) (s : State) : State :=
  let r : Int := cdRange (carrierRate s c)
  let v := clamp (-r) r cd
  let s := setDispersion s c { s.dispersion.get c with base := v, offset := 0, slew := none }
  (showCd s c).raiseIf (v != cd) (.cdc c) CDC.EVT.CD_RANGE

/-- The applied CD moves 1 ps/nm toward a value or along a residual; at the limit it stops and CD_RANGE is raised
(R149). -/
def cdMove (c : Carrier) (d : Int) (s : State) : State :=
  let r : Int := cdRange (carrierRate s c)
  let x := s.dispersion.get c
  let next := cdApplied s c + d
  if next < -r ∨ r < next then s.raise (.cdc c) CDC.EVT.CD_RANGE
  else showCd (setDispersion s c { x with offset := x.offset + d }) c

/-- `CDC_x.CD_SET`. -/
def cdSet (s : State) (c : Carrier) : Int := s.getInt (.cdc c) CDC.CD_SET.CD

/-- Number of coarse candidates on each side of 0 (R147). -/
def coarseReach (rate : Nat) : Nat := cdRange rate / cdCoarse rate

/-- Index of the first greatest metric. -/
def bestIndex (l : List Nat) : Nat :=
  (List.range l.length).foldl (fun b i => if l.getD b 0 < l.getD i 0 then i else b) 0

/-- The median of an odd number of metrics. -/
def median (l : List Nat) : Nat :=
  let h := l.length / 2
  (l.find? fun x => decide ((l.filter fun y => decide (y < x)).length ≤ h)
    && decide (h < (l.filter fun y => decide (y ≤ x)).length)).getD 0

/-! ## Taps (R159-R164) -/

/-- Taps after INIT (R161): h_xx[20] = h_yy[20] = 1.0, in units of 2^-22. -/
def centreTap (k : Nat) : Int × Int := if k % 164 = 20 ∨ k % 164 = 143 then (4194304, 0) else (0, 0)

/-- The shadow copy's value before a first SNAP: the reset value of COEF_DATA (R172). -/
def centreShadow (k : Nat) : Int × Int := if k = 20 ∨ k = 143 then (16384, 0) else (0, 0)

/-- Key of a tap. -/
def tapKey (bank filter tap : Nat) : Nat := 164 * bank + 41 * filter + tap

/-- A tap. -/
def tap (s : State) (c : Carrier) (k : Nat) : Int × Int := sparseRead centreTap (s.equaliser.get c).taps k

/-- Replace a tap. -/
def setTap (s : State) (c : Carrier) (k : Nat) (v : Int × Int) : State :=
  let x := s.equaliser.get c
  setEqualiser s c { x with taps := sparseWrite centreTap x.taps k v }

/-- The active bank. -/
def activeBank (s : State) (c : Carrier) : Nat := s.get (.eqz c) EQZ.XFADE_CTL.ACTIVE

/-- Bank mode of a bank (R164). -/
def bankMode (s : State) (c : Carrier) (b : Nat) : Nat :=
  s.get (.eqz c) (if b = 0 then EQZ.BANK_MODE.MODE0 else EQZ.BANK_MODE.MODE1)

/-- Set the bank mode of a bank. -/
def setBankMode (s : State) (c : Carrier) (b v : Nat) : State :=
  s.set (.eqz c) (if b = 0 then EQZ.BANK_MODE.MODE0 else EQZ.BANK_MODE.MODE1) v

/-- Set a bank to centre taps; its BANK_MODE reads 0xF (R161, R164). -/
def initBank (c : Carrier) (b : Nat) (s : State) : State :=
  let x := s.equaliser.get c
  let s := setEqualiser s c { x with taps := x.taps.filter fun e => !(e.1 / 164 == b) }
  setBankMode s c b 0xF

/-- COPY (R161, R164): the active bank's taps and mode go to the inactive bank. -/
def copyBank (c : Carrier) (s : State) : State :=
  let a := activeBank s c
  let s := (List.range 164).foldl (fun s k => setTap s c (164 * (1 - a) + k) (tap s c (164 * a + k))) s
  setBankMode s c (1 - a) (bankMode s c a)

/-- The rows of the active bank are exchanged (R166). -/
def swapRows (c : Carrier) (s : State) : State :=
  let a := activeBank s c
  let s := (List.range 82).foldl (fun s k =>
    let u := tap s c (164 * a + k)
    let v := tap s c (164 * a + 82 + k)
    setTap (setTap s c (164 * a + k) v) c (164 * a + 82 + k) u) s
  s.set (.eqz c) EQZ.ACQ_STAT.POL_SWAP (1 - s.get (.eqz c) EQZ.ACQ_STAT.POL_SWAP)

/-- Those of EQZ_x. -/
def eqzFade : FadeRegs :=
  ⟨EQZ.XFADE_CTL.REFUSED, EQZ.XFADE_CTL.LOG2_BLOCKS, EQZ.XFADE_CTL.HELD, EQZ.XFADE_CTL.FADING, EQZ.XFADE_CTL.TARGET,
    EQZ.XFADE_CTL.ACTIVE, EQZ.EVT.XFADE_DONE, EQZ.EVT.XFADE_REFUSED⟩

/-- A fade ends at once and a held swap is discarded and counted (R162). -/
def abortFade (c : Carrier) (s : State) : State :=
  if s.flag (.eqz c) EQZ.XFADE_CTL.FADING then
    let s := if s.flag (.eqz c) EQZ.XFADE_CTL.HELD then
        (s.set (.eqz c) EQZ.XFADE_CTL.HELD 0).bump (.eqz c) EQZ.XFADE_CTL.REFUSED
      else s
    fadeEnd eqzFade (.eqz c) s
  else s

/-- SHADOW.SNAP (R163): the shadow takes the upper 16 bits of the active taps. -/
def shadowSnap (c : Carrier) (s : State) : State :=
  let a := activeBank s c
  let m := (List.range 164).foldl (fun m k =>
    let v := tap s c (164 * a + k)
    sparseWrite centreShadow m k (v.1 / 256, v.2 / 256)) (s.equaliser.get c).shadow
  let s := setEqualiser s c { s.equaliser.get c with shadow := m }
  (s.set (.eqz c) EQZ.SHADOW.DONE 1).raise (.eqz c) EQZ.EVT.SNAP_DONE

/-- TAP advances after an access to COEF_DATA; after tap 40 it wraps and FILTER advances (R163). -/
def coefAdvance (c : Carrier) (s : State) : State :=
  let t := s.get (.eqz c) EQZ.COEF_IDX.TAP
  if t < 40 then s.set (.eqz c) EQZ.COEF_IDX.TAP (t + 1)
  else (s.set (.eqz c) EQZ.COEF_IDX.TAP 0).addWrap (.eqz c) EQZ.COEF_IDX.FILTER 1

/-- The filter and tap COEF_IDX selects. -/
def coefIndex (s : State) (c : Carrier) : Nat :=
  41 * s.get (.eqz c) EQZ.COEF_IDX.FILTER + s.get (.eqz c) EQZ.COEF_IDX.TAP

/-- What COEF_DATA reads (R163): the shadow copy for the active bank, the stored value for the other. -/
def coefWord (s : State) (c : Carrier) : Nat :=
  let b := s.get (.eqz c) EQZ.COEF_IDX.BANK
  let v := if b = activeBank s c then sparseRead centreShadow (s.equaliser.get c).shadow (coefIndex s c)
    else
      let t := tap s c (164 * b + coefIndex s c)
      (t.1 / 256, t.2 / 256)
  ofSigned 16 v.2 * 2 ^ 16 + ofSigned 16 v.1

/-- A write to COEF_DATA (R161, R163, R164). -/
def coefWrite (c : Carrier) (w : Word) (s : State) : State :=
  let b := s.get (.eqz c) EQZ.COEF_IDX.BANK
  let v := (256 * toSigned 16 (extract w 0 16), 256 * toSigned 16 (extract w 16 16))
  coefAdvance c (setBankMode (setTap s c (164 * b + coefIndex s c) v) c b 0xF)

/-- A write to COEF_DATA is refused with MODE_CONFLICT (R161). -/
def coefConflict (s : State) (c : Carrier) : Bool :=
  s.running (.eqz c)
    && (fadeBusy eqzFade (.eqz c) s || s.get (.eqz c) EQZ.COEF_IDX.BANK == activeBank s c)

/-! ## Acquisition states (R165) -/

/-- States of R165. -/
def acqIdleState : Nat := 0
def acqScan : Nat := 1
def acqTiming : Nat := 2
def acqBlind : Nat := 3
def acqSearch : Nat := 4
def acqTrack : Nat := 5

/-- `EQZ_x.ACQ_STAT.STATE`. -/
def acqState (s : State) (c : Carrier) : Nat := s.get (.eqz c) EQZ.ACQ_STAT.STATE

/-- Leave TRACK (R158, R165, R186). -/
def leaveTrack (c : Carrier) (s : State) : State :=
  let s := (s.bump (.eqz c) EQZ.SYF_MISS.LOSS_CNT).raise (.eqz c) EQZ.EVT.ACQ_LOST
  let s := s.clearAll (.eqz c) [EQZ.DGD_EST.DGD, EQZ.SOP_RATE.RATE, EQZ.CD_RESID.CD]
  cprTrackLeft s c

/-- Enter an acquisition state (R165). -/
def enterAcq (c : Carrier) (st : Nat) (s : State) : State :=
  let s := if acqState s c = acqTrack && st != acqTrack then leaveTrack c s else s
  let s := s.set (.eqz c) EQZ.ACQ_STAT.STATE st
  let s := s.setFlag (.trc c) TRC.STAT.DET_SRC (decide (acqSearch ≤ st))
  let s := setEqualiser s c { s.equaliser.get c with hits := 0, misses := 0 }
  let s := setDispersion s c { s.dispersion.get c with scanning := false }
  if st = acqTrack then
    cprTrackEntered ((s.set (.eqz c) EQZ.ACQ_STAT.WRONG_CARRIER 0).raise (.eqz c) EQZ.EVT.ACQ_TRACK) c
  else s

/-- CD_MODE (R147). -/
def cdMode (s : State) (c : Carrier) : Nat := s.get (.cdc c) CDC.CTL.CD_MODE

/-- Enter BLIND (R165): the active bank is initialised to centre taps.  A fade that still runs since TRACK ends at once (R162). -/
def enterBlind (c : Carrier) (s : State) : State :=
  let s := abortFade c s
  enterAcq c acqBlind (initBank c (activeBank s c) s)

/-- TIMING has lock (R165). -/
def timingDone (c : Carrier) (s : State) : State :=
  if acqState s c = acqTiming && s.flag (.trc c) TRC.STAT.LOCK then
    if (s.equaliser.get c).toSearch then enterAcq c acqSearch s
    else enterBlind c (setEqualiser s c { s.equaliser.get c with timedOut := false })
  else s

/-- A cold start: CD_SCAN, or TIMING with the base CD of CD_SET (R147, R165). -/
def coldStart (c : Carrier) (s : State) : State :=
  let s := setEqualiser s c { s.equaliser.get c with toSearch := false, timedOut := false }
  if cdMode s c = 0 then timingDone c (enterAcq c acqTiming (setBase c (cdSet s c) s)) else enterAcq c acqScan s

/-- A restart (R165): one that leaves TRACK ends a fade at once (R162). -/
def acqRestart (c : Carrier) (s : State) : State :=
  if acqState s c = acqIdleState then s
  else
    let s := if acqState s c = acqTrack then abortFade c s else s
    coldStart c ((s.bump (.eqz c) EQZ.ACQ_STAT.RESTART_CNT).raise (.eqz c) EQZ.EVT.ACQ_RESTART)

/-- A page leaves running or the lanes stop delivering samples (R165): IDLE. -/
def acqToIdle (c : Carrier) (s : State) : State :=
  if acqState s c = acqIdleState then s else enterAcq c acqIdleState s

/-- SYN_x loses lock: the lanes deliver no samples, and acquisition goes to IDLE (R137, R165). -/
def lanesLose (c : Carrier) (s : State) : State :=
  if clockLocked s c then s else acqToIdle c (laneClockLoss c s)

/-- A start is warm (R167). -/
def startWarm (s : State) (c : Carrier) : Bool :=
  (s.flag (.eqz c) EQZ.ACQ_CTL.WARM || (s.equaliser.get c).resumed) && bankMode s c (activeBank s c) == lineMode s c

/-- CDC_x, TRC_x and EQZ_x run and the lanes deliver samples (R165). -/
def acqReady (s : State) (c : Carrier) : Bool :=
  s.running (.cdc c) && s.running (.trc c) && s.running (.eqz c) && samplesArrive s c

/-- Acquisition leaves IDLE (R165, R167). -/
def acqBegin (c : Carrier) (s : State) : State :=
  if acqState s c = acqIdleState && acqReady s c then
    let warm := startWarm s c
    let s := setEqualiser s c { s.equaliser.get c with resumed := false }
    if warm then
      timingDone c (enterAcq c acqTiming (setEqualiser s c { s.equaliser.get c with toSearch := true, timedOut := false }))
    else coldStart c s
  else s

/-- 65,536 samples are stored for a scan (R148). -/
def scanStart (c : Carrier) (s : State) : State :=
  if acqState s c = acqScan && acqReady s c then setDispersion s c { s.dispersion.get c with scanning := true } else s

/-- A scan finishes with its coarse and fine metrics (R147, R148). -/
def scanComplete (c : Carrier) (coarse fine : List Nat) (s : State) : State :=
  if acqState s c = acqScan && (s.dispersion.get c).scanning then
    let rate := carrierRate s c
    let full := cdMode s c == 1
    let reach := coarseReach rate
    let co := (List.range (2 * reach + 1)).map fun i => coarse.getD i 0
    let fi := (List.range 21).map fun i => fine.getD i 0
    let bc := bestIndex co
    let bf := bestIndex fi
    let centre : Int := if full then ((bc : Int) - reach) * cdCoarse rate else cdSet s c
    let found : Int := centre + ((bf : Int) - 10) * cdFine rate
    let best := if full then max (co.getD bc 0) (fi.getD bf 0) else fi.getD bf 0
    let mid := if full then median co else median fi
    let ok := decide (2 * mid ≤ best)
    let edge := if full then bc == 0 || bc == 2 * reach else bf == 0 || bf == 20
    let ratio := if mid = 0 then 0xFFFF else min (256 * best / mid) 0xFFFF
    let s := (s.set (.cdc c) CDC.SCAN_STAT.RATIO ratio).set (.cdc c) CDC.SCAN_STAT.CAND
      (if full then 2 * reach + 22 else 21)
    let s := s.setFlag (.cdc c) CDC.SCAN_STAT.EDGE edge
    if ok then
      let s := (s.setInt (.cdc c) CDC.CD_EST.EST found).set (.cdc c) CDC.CD_EST.VALID 1
      let s := s.raiseIf edge (.cdc c) CDC.EVT.CD_RANGE
      let s := setBase c found s
      timingDone c (enterAcq c acqTiming (s.raise (.cdc c) CDC.EVT.SCAN_DONE))
    else acqRestart c ((s.set (.cdc c) CDC.CD_EST.VALID 0).raise (.cdc c) CDC.EVT.SCAN_FAIL)
  else s

/-- A tracking step, every 1,024 blocks (R149). -/
def cdTrackStep (c : Carrier) (s : State) : State :=
  if acqState s c = acqTrack && s.running (.cdc c) then
    match (s.dispersion.get c).slew with
    | some t =>
      if cdApplied s c = t then setDispersion s c { s.dispersion.get c with slew := none }
      else cdMove c (if cdApplied s c < t then 1 else -1) s
    | none =>
      let r := s.getInt (.eqz c) EQZ.CD_RESID.CD
      if s.flag (.cdc c) CDC.CTL.TRACK_EN && decide (5 < r.natAbs) then cdMove c (if 0 < r then 1 else -1) s else s
  else s

/-- An accepted write to CD_SET (R149). -/
def cdSetWritten (c : Carrier) (s : State) : State :=
  if acqState s c = acqTrack then setDispersion s c { s.dispersion.get c with slew := some (cdSet s c) }
  else setBase c (cdSet s c) s

/-- A symbol block is dropped on the four lanes of a carrier (R32, R150, R152): SLIP_SPAN blocks carry the slip marker. -/
def rxSlip (c : Carrier) (s : State) : State :=
  if !s.running (.cdc c) then s
  else
    let s := ((s.bump (.cdc c) CDC.SLIP_CNT.COUNT).raise (.cdc c) CDC.EVT.SLIP).noteSlip.countFabric (0x65 + c.idx) 1
    let n := s.get (.cdc c) CDC.SLIP_SPAN.SPAN
    let x := s.dispersion.get c
    cprSlipMark c n (setDispersion s c { x with slipBlocks := max x.slipBlocks n })

/-- RX_SLIP: a drop at the receive ingress EBs is signalled (R32). -/
def rxSlipInstant (c : Carrier) (s : State) : State :=
  if slipWaits s c then rxSlip c (slipSignalled c s) else s

/-- A block passes TRC_x (R152): while it carries the slip marker the loop holds. -/
def holdLoop (c : Carrier) (s : State) : State :=
  let x := s.dispersion.get c
  let s := s.setFlag (.trc c) TRC.STAT.HOLD (s.running (.trc c) && decide (0 < x.slipBlocks))
  setDispersion s c { x with slipBlocks := x.slipBlocks - 1 }

/-- The next block of one of the carrier's ingress EBs carries the clip marker. -/
def clipWaits (s : State) (c : Carrier) : Bool :=
  (carrierLanes c).any fun n => ((lineRx s n).ingress.head?.map (·.clip)).getD false

/-- The symbol block boundary of the receive path: a block leaves the ingress EBs (R30), and its markers reach TRC_x and the
update period of EQZ_x (R152, R155). -/
def rxBlock (c : Carrier) (s : State) : State :=
  if (carrierLanes c).all fun n => !(lineRx s n).ingress.isEmpty then
    let x := s.equaliser.get c
    let marked := x.marked || clipWaits s c || decide (0 < (s.dispersion.get c).slipBlocks)
    holdLoop c (lanesTake c (setEqualiser s c { x with marked := marked }))
  else s

/-! ## Timing (R151-R153) -/

/-- FREQ_OFS has settled (R151). -/
def timingLock (c : Carrier) (ofs : Int) (s : State) : State :=
  if s.running (.trc c) && samplesArrive s c && decide (ofs.natAbs ≤ 200000) then
    let was := s.flag (.trc c) TRC.STAT.LOCK
    let s := (s.setInt (.trc c) TRC.FREQ_OFS.OFS ofs).set (.trc c) TRC.STAT.RANGE 0
    let s := (s.set (.trc c) TRC.STAT.LOCK 1).raiseIf (!was) (.trc c) TRC.EVT.LOCK
    timingDone c s
  else s

/-- LOCK clears (R151), and is counted and raised. -/
def lockClears (c : Carrier) (s : State) : State :=
  if s.flag (.trc c) TRC.STAT.LOCK then
    ((s.set (.trc c) TRC.STAT.LOCK 0).bump (.trc c) TRC.LOSS_CNT.COUNT).raise (.trc c) TRC.EVT.LOCK_LOST
  else s

/-- The loop loses lock (R151): `ofs` is the last offset, none when the input was unusable. -/
def timingLost (c : Carrier) (ofs : Option Int) (s : State) : State :=
  if s.running (.trc c) && s.flag (.trc c) TRC.STAT.LOCK then
    let s := match ofs with
      | some v =>
        let s := s.setInt (.trc c) TRC.FREQ_OFS.OFS (satSigned 20 v)
        if 200000 < v.natAbs then (s.set (.trc c) TRC.STAT.RANGE 1).raise (.trc c) TRC.EVT.RANGE else s
      | none => s
    let s := lockClears c s
    if acqState s c = acqTrack then
      enterAcq c acqTiming (setEqualiser s c { s.equaliser.get c with toSearch := true })
    else s
  else s

/-- Automatic skew targets (R153): `est` holds the target each estimate calls for, in 0.1 ps. -/
def autoSkew (c : Carrier) (est : List Int) (s : State) : State :=
  if s.running (.trc c) && s.flag (.trc c) TRC.CTL.AUTO_SKEW && decide (acqSearch ≤ acqState s c) then
    (List.range 4).foldl (fun s t =>
      let f := TRC.SKEW.TARGET.at t
      let e := satSigned 12 (est.getD t 0)
      if 3 < (e - s.getInt (.trc c) f).natAbs then
        (hardwareWrite s (.trc c) f.off (deposit (word s (.trc c) f.off) f.lo f.width (ofSigned 12 e))).raiseIf
          (!onlyReserve s) (.trc c) TRC.EVT.SKEW_SET
      else s) s
  else s

/-! ## Adaptation (R155-R158) -/

/-- `ACQ_STAT.ADAPT` (R155). -/
def adaptMode (s : State) (c : Carrier) : Nat :=
  if !s.running (.eqz c) || !s.flag (.eqz c) EQZ.CTL.ADAPT_EN || s.flag (.eqz c) EQZ.XFADE_CTL.FADING then 0
  else if acqState s c = acqTrack then (if phaseLocked s c then 2 else 1)
  else if acqState s c = acqBlind ∨ acqState s c = acqSearch then 1
  else 0

/-- Numerator of a new tap part over 2^(28 + MU) (R155): (1 - lambda) h + mu g, with lambda in units of 2^-20. -/
def lmsNumerator (lam mu : Nat) (h g : Int) : Int := h * ((2 ^ 20 - lam : Nat) : Int) * 2 ^ (8 + mu) + g * 2 ^ 20

/-- A new tap part: exact where the 24-bit format holds it.  Its rounding and its value beyond the format are free
(log entry 2). -/
def lmsPart (n : Nat) (lam mu : Nat) (h g : Int) : Int :=
  let num := lmsNumerator lam mu h g
  let q := num / 2 ^ (28 + mu)
  let v := if num % 2 ^ (28 + mu) = 0 then q else q + ((Config.freeValue n % 2 : Nat) : Int)
  if -(2 ^ 23) ≤ v ∧ v < 2 ^ 23 then v else toSigned 24 (Config.freeValue n)

/-- The leak factor of a code in units of 2^-20 (R172). -/
def leakOf (code : Nat) : Nat :=
  match code with
  | 0 => 0 | 1 => 1 | 2 => 16 | _ => 256

/-- An update period ends (R155): `grads` holds the mean gradient of the 164 taps.  A period in which a block carried a slip or clip
marker contributes nothing. -/
def lmsUpdate (c : Carrier) (grads : List (Int × Int)) (s : State) : State :=
  let m := adaptMode s c
  let marked := (s.equaliser.get c).marked
  let s := setEqualiser s c { s.equaliser.get c with marked := false }
  if m = 0 || marked then s
  else
    let old := (s.equaliser.get c).taps
    let a := activeBank s c
    let lam := leakOf (s.get (.eqz c) EQZ.CTL.LEAK)
    let mu := if m = 1 then s.get (.eqz c) EQZ.CTL.MU_BLIND else s.get (.eqz c) EQZ.CTL.MU_DD
    let s := (List.range 164).foldl (fun s k =>
      let h := tap s c (164 * a + k)
      let g := grads.getD k (0, 0)
      let v := (lmsPart s.freeCount lam mu h.1 g.1, lmsPart (s.freeCount + 1) lam mu h.2 g.2)
      setTap s.drawn.drawn c (164 * a + k) v) s
    if (s.equaliser.get c).taps = old then s else setBankMode s c a (lineMode s c)

/-- Every 64 blocks in BLIND (R157): the cross-correlation in 1/1000 and the mean CMA cost in 2^-12. -/
def singularity (c : Carrier) (corr cost : Nat) (s : State) : State :=
  if acqState s c = acqBlind then
    let s := s.set (.eqz c) EQZ.CMA_COST.COST (min cost 0xFFFF)
    if 800 < corr then
      ((initBank c (activeBank s c) s).bump (.eqz c) EQZ.SING_CNT.COUNT).raise (.eqz c) EQZ.EVT.SINGULARITY
    else s
  else s

/-- 10^4 K^2 of a mode's constellation (R155). -/
def cmaK2 (mode : Nat) : Nat := if bitsPerSymbol mode = 4 then 10000 else 17424

/-- The CMA cost has stayed below 0.15 K^2 for 256 blocks (R165). -/
def blindConverged (c : Carrier) (cost : Nat) (s : State) : State :=
  if acqState s c = acqBlind && decide (cost * 100 * 10000 < 4096 * 15 * cmaK2 (lineMode s c)) then
    enterAcq c acqSearch (s.set (.eqz c) EQZ.CMA_COST.COST (min cost 0xFFFF))
  else s

/-- The taps of the active bank, by 41 * filter + tap. -/
def activeTaps (s : State) (c : Carrier) : List (Int × Int) := (List.range 164).map fun k => tap s c (164 * activeBank s c + k)

/-- Channel estimates after 1,024 blocks, from the taps of the active bank (R158). -/
def channelEstimate (c : Carrier) (s : State) : State :=
  if acqState s c = acqTrack then
    let x := s.equaliser.get c
    let rate := carrierRate s c
    let taps := activeTaps s c
    let before := (List.range 164).map (sparseRead centreTap x.estimated)
    let now := (List.range 164).foldl (fun m k => sparseWrite centreTap m k (taps.getD k (0, 0))) []
    let s := setEqualiser s c { x with estimated := now }
    ((s.set (.eqz c) EQZ.DGD_EST.DGD (min (Config.channelDgd rate taps) 0xFFF)).set (.eqz c) EQZ.SOP_RATE.RATE
      (min (Config.channelSop rate taps before) 0xFFFFFF)).setInt (.eqz c) EQZ.CD_RESID.CD
      (satSigned 18 (Config.channelCd rate taps))
  else s

/-! ## Training (R166) -/

/-- The carrier whose training is sought (R166). -/
def expectedCarrier (s : State) (c : Carrier) : Carrier := if s.flag (.eqz c) EQZ.CTL.EXPECT_CARRIER then .b else .a

/-- The expected training block is detected at a symbol index (R165). -/
def trainingHit (c : Carrier) (index : Nat) (s : State) : State :=
  let x := s.equaliser.get c
  if acqState s c = acqSearch then
    let hits := if index = x.index then x.hits + 1 else 1
    if 2 ≤ hits then enterAcq c acqTrack s else setEqualiser s c { x with hits := hits, index := index }
  else if index = x.index then setEqualiser s c { x with misses := 0 }
  else s

/-- The expected training block is missed (R165). -/
def trainingMiss (c : Carrier) (s : State) : State :=
  let x := s.equaliser.get c
  if acqState s c = acqTrack then
    let s := setEqualiser (s.bump (.eqz c) EQZ.SYF_MISS.MISS) c { x with misses := x.misses + 1 }
    if 4 ≤ x.misses + 1 then enterAcq c acqSearch s else s
  else setEqualiser s c { x with hits := 0 }

/-- The correlator's result for a symbol frame (R166): the training sequence found on the outputs X and Y, each by its carrier and
whether it is that of polarisation Y, and the symbol index. -/
def trainingDetect (c : Carrier) (x y : Option (Carrier × Bool)) (index : Nat) (s : State) : State :=
  let e := expectedCarrier s c
  let other := (x == some (e.other, false) && y == some (e.other, true))
    || (x == some (e.other, true) && y == some (e.other, false))
  if acqState s c < acqSearch then s
  else if x = some (e, false) ∧ y = some (e, true) then
    if acqState s c = acqTrack && index != (s.equaliser.get c).index then trainingMiss c s else trainingHit c index s
  else if x = some (e, true) ∧ y = some (e, false) then
    if acqState s c = acqSearch then trainingHit c index (swapRows c s) else trainingMiss c s
  else if other && acqState s c == acqSearch then
    trainingMiss c ((s.set (.eqz c) EQZ.ACQ_STAT.WRONG_CARRIER 1).raise (.eqz c) EQZ.EVT.WRONG_CARRIER)
  else trainingMiss c s

/-- The time of so many blocks of 256 symbols on a carrier, in ns. -/
def blocksNs (s : State) (c : Carrier) (blocks : Nat) : Nat := ceilDiv (blocks * 256) (carrierRate s c)

/-- The timer of the acquisition state. -/
def acqTimer (s : State) (c : Carrier) : Timer := .acquiring c (acqState s c) (s.get (.eqz c) EQZ.ACQ_STAT.RESTART_CNT)

/-- The longest a carrier stays in its acquisition state (R165). -/
def acqLimitNs (s : State) (c : Carrier) : Nat :=
  if acqState s c = acqTiming then blocksNs s c (2 ^ (s.get (.eqz c) EQZ.ACQ_CTL.TIMING_TO + 8))
  else if acqState s c = acqBlind then blocksNs s c (2 ^ (s.get (.eqz c) EQZ.ACQ_CTL.BLIND_TO + 8))
  else blocksNs s c (s.get (.eqz c) EQZ.ACQ_CTL.SYF_TO * 4096)

/-- The blocks of the fade of EQZ_x have passed (R159). -/
def eqzFadeOver (s : State) (c : Carrier) : Bool :=
  passed s (.eqzFading c (s.get (.eqz c) EQZ.XFADE_CTL.TARGET)) (blocksNs s c (2 ^ s.get (.eqz c) EQZ.XFADE_CTL.LOG2_BLOCKS))

/-- TIMING, BLIND or SYF_SEARCH exceeds its timeout (R165). -/
def acqTimeout (c : Carrier) (s : State) : State :=
  let st := acqState s c
  if !passed s (acqTimer s c) (acqLimitNs s c) then s
  else if st = acqTiming ∨ st = acqBlind then acqRestart c s
  else if st = acqSearch then
    if (s.equaliser.get c).timedOut then acqRestart c s
    else
      enterBlind c (setEqualiser s c { s.equaliser.get c with timedOut := true })
  else s

/-! ## Page behaviour (R154, R169-R172) -/

/-- Channel frequency in 100 MHz units of a grid number (R295). -/
def channelFreq (n : Int) : Nat := (1931000 + 125 * n / 2).toNat

/-- CDC_x enters starting (R146, R169). -/
def cdcStart (c : Carrier) (s : State) : State :=
  let s := s.set (.cdc c) CDC.SLIP_CNT.COUNT 0
  showCd (s.set (.cdc c) CDC.CHAN_FREQ.FREQ (channelFreq (s.tunedN.get c))) c

/-- TRC_x enters starting. -/
def trcStart (c : Carrier) (s : State) : State :=
  s.clearAll (.trc c) [TRC.LOSS_CNT.COUNT, TRC.STAT.RANGE, TRC.STAT.HOLD]

/-- TRC_B refuses RUN under lock when the loop bandwidths differ (R154). -/
def trcRunBad (s : State) (c : Carrier) : Bool :=
  c == .b && lockEnabled s && s.get (.trc .a) TRC.CTL.LOOP_BW != s.get (.trc .b) TRC.CTL.LOOP_BW

/-- EQZ_x enters starting. -/
def eqzStart (c : Carrier) (s : State) : State :=
  s.clearAll (.eqz c)
    [EQZ.ACQ_STAT.RESTART_CNT, EQZ.SYF_MISS.LOSS_CNT, EQZ.SYF_MISS.MISS, EQZ.XFADE_CTL.REFUSED, EQZ.SING_CNT.COUNT]

/-- EQZ_x leaves running (R162). -/
def eqzStop (c : Carrier) (s : State) : State := acqToIdle c (abortFade c s)

/-- TRC_x leaves running: LOCK clears (R151). -/
def trcStop (c : Carrier) (s : State) : State := lockClears c (acqToIdle c s)

/-- Writes CDC_x refuses with OUT_OF_RANGE (R170). -/
def cdcWriteBad (off : Nat) (new : Word) : Bool :=
  if off = CDC.CTL.CD_MODE.off then extract new 8 2 == 3
  else if off = CDC.CD_SET.CD.off then decide (50000 < (toSigned 18 (extract new 0 18)).natAbs)
  else false

/-- Writes TRC_x refuses with OUT_OF_RANGE (R171). -/
def trcWriteBad (off : Nat) (new : Word) : Bool := off == TRC.CTL.LOOP_BW.off && extract new 6 2 == 3

/-- Writes EQZ_x refuses with OUT_OF_RANGE (R172). -/
def eqzWriteBad (off : Nat) (new : Word) : Bool :=
  if off = EQZ.ACQ_CTL.WARM.off then
    extract new 12 4 == 0 || decide (12 < extract new 8 4) || decide (12 < extract new 4 4)
  else if off = EQZ.XFADE_CTL.SWAP.off then decide (10 < extract new 8 4)
  else if off = EQZ.COEF_IDX.TAP.off then decide (40 < extract new 0 6)
  else false

/-- Writes EQZ_x refuses with MODE_CONFLICT (R161). -/
def eqzConflict (s : State) (c : Carrier) (off : Nat) (new : Word) : Bool :=
  (off == EQZ.COEF_DATA.RE.off && coefConflict s c)
  || (off == EQZ.XFADE_CTL.SWAP.off && (extract new 6 1 == 1 || extract new 7 1 == 1) && fadeBusy eqzFade (.eqz c) s)

/-- An accepted write to CDC_x. -/
def cdcWritten (c : Carrier) (off : Nat) (s : State) : State := if off = CDC.CD_SET.CD.off then cdSetWritten c s else s

/-- An accepted write to EQZ_x. -/
def eqzWritten (c : Carrier) (off : Nat) (new : Word) (s : State) : State :=
  if off = EQZ.ACQ_CTL.RESTART.off then (if extract new 0 1 = 1 then acqRestart c s else s)
  else if off = EQZ.XFADE_CTL.SWAP.off then
    let s := if extract new 7 1 = 1 then initBank c (activeBank s c) s else s
    let s := if extract new 6 1 = 1 then copyBank c s else s
    if extract new 4 1 = 1 then fadeRequest eqzFade (.eqz c) s else s
  else if off = EQZ.COEF_DATA.RE.off then coefWrite c new s
  else if off = EQZ.SHADOW.SNAP.off then (if extract new 0 1 = 1 then shadowSnap c s else s)
  else s

end Sys2Proof.Machine
end

