-- ==== Sys2Proof/Machine/Housekeeping.lean ====
section
/-! DEFINITION. Machine/Housekeeping.lean: the housekeeping converters of chapter 21 (R478-R488, R498): sequences, urgent
conversions, the cross-check and simultaneous mode.  A converter's reading is an integer code; one outside 0..0xFFFF
stands for an input outside 0-1.2 V and clamps (R482). -/
namespace Sys2Proof.Machine

open Sys2Proof (Word Page)

/-- The state of a converter beyond its registers. -/
def hkOf (s : State) (n : Fin 2) : Housekeeper := s.hk.get n

/-- Replace it. -/
def putHk (s : State) (n : Fin 2) (x : Housekeeper) : State := { s with hk := s.hk.set n x }

/-- The other converter. -/
def hkOther (n : Fin 2) : Fin 2 := if n = 0 then 1 else 0

/-- The code of a reading (R482). -/
def hkCode (v : Int) : Nat := if v < 0 then 0 else if v > 0xFFFF then 0xFFFF else v.toNat

/-- The reading clamps. -/
def hkClamped (v : Int) : Bool := decide (v < 0) || decide (v > 0xFFFF)

/-- What each clamped conversion brings (R482, R488): OVR, and with DISCARD_EN one discarded conversion. -/
def hkClampCount (n : Fin 2) (clamps : Nat) (s : State) : State :=
  if clamps = 0 then s
  else
    let s := if s.flag (.hk n) HK.CTL.DISCARD_EN then s.addSat (.hk n) HK.XCHK_CNT.DISCARDS clamps else s
    s.raise (.hk n) HK.EVT.OVR

/-- The cross-check after an input-0 conversion (R483). -/
def hkCrossCheck (n : Fin 2) (s : State) : State :=
  let other := hkOther n
  let fresh := match (hkOf s other).refAt with
    | none => false
    | some t => decide (s.elapsedNs ≤ t + 10000000)
  if !fresh then s
  else
    let mine := s.get (.hk n) HK.REF0.CODE
    let theirs := s.get (.hk other) HK.REF0.CODE
    let x := hkOf s n
    if s.get (.hk n) HK.XCHK.TOL < (mine - theirs) + (theirs - mine) then
      let s := putHk (s.bump (.hk n) HK.XCHK_CNT.XCHK_FAIL) n { x with disagree := x.disagree + 1, agree := 0 }
      if x.disagree + 1 = 2 && !s.flag (.hk n) HK.STAT.PLAUS then
        (s.set (.hk n) HK.STAT.PLAUS 1).raise (.hk n) HK.EVT.PLAUS
      else s
    else
      let s := putHk s n { x with disagree := 0, agree := x.agree + 1 }
      if 16 ≤ x.agree + 1 then s.set (.hk n) HK.STAT.PLAUS 0 else s

/-- The implicit conversions of inputs 0 and 1 (R479): the reference code, the cross-check, and TEMP. -/
def hkImplicit (n : Fin 2) (ref temp : Int) (s : State) : State :=
  let s := s.set (.hk n) HK.REF0.CODE (hkCode ref)
  let s := putHk s n { hkOf s n with refAt := some s.elapsedNs }
  let s := hkClampCount n (bit (hkClamped ref)) s
  (hkCrossCheck n s).setInt (.hk n) HK.TEMP.TEMP temp

/-- Begin a sequence on one converter. -/
def hkBegin (n : Fin 2) (ref temp : Int) (s : State) : State :=
  let s := startTimer (.hkSequence n) ((s.set (.hk n) HK.STAT.BUSY 1).set (.hk n) HK.STAT.SLOT_NOW 0)
  hkImplicit n ref temp (putHk s n { hkOf s n with skipped := [], held := false })

/-- A trigger is ignored and counted (R481, R486). -/
def hkOverrun (n : Fin 2) (s : State) : State := (s.bump (.hk n) HK.OVR_CNT.TRIG_OVR).raise (.hk n) HK.EVT.TRIG_OVR

/-- A trigger acts on a converter (R479, R481, R484, R486).  `refs` and `temps` are the readings of inputs 0 and 1 of
HKA and HKB. -/
def hkTrigger (n : Fin 2) (refs temps : Int × Int) (s : State) : State :=
  let rd (m : Fin 2) (x : Int × Int) : Int := if m = 0 then x.1 else x.2
  if s.power = pwrDeep ∨ s.power = pwrOff then s
  else if s.power = pwrSleep then hkImplicit n (rd n refs) (rd n temps) s
  else if s.flag (.hk n) HK.STAT.BUSY then hkOverrun n s
  else if s.flag (.hk n) HK.STAT.CAL_RUN then
    if (hkOf s n).held then hkOverrun n s else putHk s n { hkOf s n with held := true }
  else if n = 0 then
    let sim := s.flag (.hk 0) HK.CTL.SIMUL
    if sim && s.flag (.hk 1) HK.STAT.BUSY then
      if (hkOf s 0).held then hkOverrun 0 s else putHk s 0 { hkOf s 0 with held := true }
    else
      let s := putHk s 0 { hkOf s 0 with simul := sim }
      let s := hkBegin 0 refs.1 temps.1 s
      if sim then hkBegin 1 refs.2 temps.2 s else s
  else hkBegin 1 refs.2 temps.2 s

/-- A source has a trigger now (R479): the timer every PERIOD µs, HKTRIG, or an instant that is a multiple of 2^TB_LOG2. -/
def hkSourceDue (s : State) (n : Fin 2) (src : Nat) : Bool :=
  if src = 0 then due s (.hkTimer n) (s.get (.hk n) HK.CTL.PERIOD * usNs)
  else if src = 2 then decide (pwrIdle < s.power) || s.nowNs % 2 ^ s.get (.hk n) HK.CTL.TB_LOG2 == 0
  else true

/-- A trigger of a source reaches a converter (R479): it acts when TRIG_SRC selects the source, and on HKB only outside
simultaneous mode (R484).  In Sleep the 1 ms conversions take source 0 (R486). -/
def hkSourceTrigger (n : Fin 2) (src : Nat) (refs temps : Int × Int) (s : State) : State :=
  if n = 1 && (hkOf s 0).simul then s
  else if s.power = pwrSleep then (if src = 0 then hkTrigger n refs temps s else s)
  else if src < 3 && s.get (.hk n) HK.CTL.TRIG_SRC == src && hkSourceDue s n src then
    hkTrigger n refs temps (if src = 0 then startTimer (.hkTimer n) s else s)
  else s

/-- The result of a slot (R480). -/
def hkResult (codes : List Int) (shift : Nat) : Nat :=
  let sum := sumNat (codes.map hkCode)
  if shift = 0 then sum else (sum + 2 ^ (shift - 1)) / 2 ^ shift

/-- AVG of a slot: HKA's in simultaneous mode (R484). -/
def hkAvg (s : State) (n : Fin 2) (i : Nat) : Nat :=
  if (hkOf s 0).simul then s.get (.hk 0) (HK.SLOT.AVG.at i) else s.get (.hk n) (HK.SLOT.AVG.at i)

/-- One slot of a completed sequence (R479, R480, R482, R485).  Conversions missing from `codes` read 0. -/
def hkSlot (n : Fin 2) (codes : List Int) (i : Nat) (s : State) : State :=
  if s.flag (.hk n) (HK.SLOT.EN.at i) && !(hkOf s n).skipped.contains i then
    let k := 2 ^ hkAvg s n i
    let xs := (List.range k).map fun j => codes.getD j 0
    let clamps := countTrue (xs.map hkClamped)
    let s := s.set (.hk n) HK.STAT.SLOT_NOW i
    let s := hkClampCount n clamps s
    let s := (s.set (.hk n) (HK.RESULT.VALID.at i) 1).setFlag (.hk n) (HK.RESULT.OVR.at i) (clamps != 0)
    s.set (.hk n) (HK.RESULT.VALUE.at i) (hkResult xs (s.get (.hk n) (HK.SLOT.SHIFT.at i)))
  else s

/-- The shortest a sequence of a converter can last (R478, R479): its conversions at 1.0 µs - 2 %, and a gap of 0.2 µs a slot. -/
def hkSequenceNs (s : State) (n : Fin 2) : Nat :=
  let slots := (List.range 32).filter fun i => s.flag (.hk n) (HK.SLOT.EN.at i) && !(hkOf s n).skipped.contains i
  (2 + sumNat (slots.map fun i => 2 ^ hkAvg s n i)) * 980 + (2 + slots.length) * 200

/-- A sequence completes (R479): every slot's result, SEQ_CNT and SEQ_DONE.  A start HKA held for HKB begins (R484). -/
def hkDone (n : Fin 2) (codes : List (List Int)) (refs temps : Int × Int) (s : State) : State :=
  if s.flag (.hk n) HK.STAT.BUSY && passed s (.hkSequence n) (hkSequenceNs s n) then
    let s := (List.range 32).foldl (fun s i => hkSlot n (codes.getD i []) i s) s
    let s := s.set (.hk n) HK.STAT.BUSY 0
    let s := (s.addWrap (.hk n) HK.SEQ_CNT.COUNT 1).raise (.hk n) HK.EVT.SEQ_DONE
    if n = 1 && (hkOf s 0).held && !s.flag (.hk 0) HK.STAT.CAL_RUN && !s.flag (.hk 0) HK.STAT.BUSY then
      hkTrigger 0 refs temps (putHk s 0 { hkOf s 0 with held := false })
    else s
  else s

/-- An urgent conversion (R481, R482): dropped while a conversion is in progress. -/
def hkUrgent (n : Fin 2) (reading : Int) (inConversion : Bool) (s : State) : State :=
  let s := s.set (.hk n) HK.URG_RESULT.DONE 0
  if inConversion && s.flag (.hk n) HK.STAT.BUSY then
    (s.bump (.hk n) HK.OVR_CNT.URG_DROP).raise (.hk n) HK.EVT.URG_DROP
  else
    let s := hkClampCount n (bit (hkClamped reading)) s
    let s := (s.set (.hk n) HK.URG_RESULT.CODE (hkCode reading)).setFlag (.hk n) HK.URG_RESULT.OVR (hkClamped reading)
    (s.set (.hk n) HK.URG_RESULT.DONE 1).raise (.hk n) HK.EVT.URG_DONE

/-- Converters a calibration of `n` covers: both in simultaneous mode (R486). -/
def hkCalibrated (s : State) (n : Fin 2) : List (Fin 2) := if (hkOf s 0).simul then [0, 1] else [n]

/-- A calibration is due (R498): at start, every HKCAL_PERIOD seconds, and when TEMP has moved more than TEMP_DELTA since the last
acceptance. -/
def hkCalDue (s : State) (n : Fin 2) : Bool :=
  spaced s (.hkCal n) (s.get .cal CAL.CTL.HKCAL_PERIOD * secNs)
    || match (hkOf s n).calTemp with
      | some t => decide (50 * s.get .cal CAL.CTL.TEMP_DELTA < (s.getInt (.hk n) HK.TEMP.TEMP - t).natAbs)
      | none => false

/-- A calibration of offset and gain that is due begins, between sequences (R486). -/
def hkCalBegin (n : Fin 2) (s : State) : State :=
  let ms := hkCalibrated s n
  if !ms.any (hkCalDue s) || ms.any fun m => s.flag (.hk m) HK.STAT.BUSY then s
  else ms.foldl (fun s m => startTimer (.hkCal m) (s.set (.hk m) HK.STAT.CAL_RUN 1)) s

/-- A calibration ends (R486, R498): offset and gain are accepted or rejected, and a held trigger starts its sequence.
`offset` and `gain` hold the measurement pairs of HKA and HKB. -/
def hkCalEnd (n : Fin 2) (offset gain : List (Int × Int)) (refs temps : Int × Int) (s : State) : State :=
  let ms := (hkCalibrated s n).filter fun m => s.flag (.hk m) HK.STAT.CAL_RUN
  let s := ms.foldl (fun s m =>
    let o := offset.getD m.val (0, 0)
    let g := gain.getD m.val (0, 0)
    let ok := calAgree 8 0 o.1 o.2 && calAgree 9 0 g.1 g.2
    let s := if ok then putHk s m { hkOf s m with calTemp := some (s.getInt (.hk m) HK.TEMP.TEMP) } else s
    (calMeasure 9 m.val 0 g.1 g.2 (calMeasure 8 m.val 0 o.1 o.2 s)).set (.hk m) HK.STAT.CAL_RUN 0) s
  ms.foldl (fun s m =>
    if (hkOf s m).held then hkTrigger m refs temps (putHk s m { hkOf s m with held := false }) else s) s

/-- The converters lose power in Deep sleep and Off (R486): VALID clears. -/
def hkPowerDown (s : State) : State :=
  [(0 : Fin 2), 1].foldl (fun s n =>
    let s := putHk s n { hkOf s n with held := false, skipped := [] }
    let s := (s.set (.hk n) HK.STAT.BUSY 0).set (.hk n) HK.STAT.CAL_RUN 0
    s.clearArray (.hk n) HK.RESULT.VALID) s

/-! ## Write rules and effects (R485, R487) -/

/-- Slot register of an offset. -/
def hkSlotOf (off : Nat) : Option Nat := if 0x80 ≤ off ∧ off ≤ 0xFC then some ((off - 0x80) / 4) else none

/-- Writes HKA and HKB refuse with OUT_OF_RANGE. -/
def hkWriteBad (off : Nat) (new : Word) : Bool :=
  if off = HK.CTL.PERIOD.off then
    extract new 16 16 == 0 || decide (extract new 9 5 < 10) || decide (30 < extract new 9 5)
  else if off = HK.XCHK.TOL.off then extract new 0 8 == 0
  else if (hkSlotOf off).isSome then
    decide (8 < extract new 12 4) || decide (extract new 8 4 < 1) || decide (8 < extract new 8 4)
  else false

/-- A slot's stop-only fields change while its EN stays 1 (R485). -/
def hkStopOnly (off : Nat) (old new : Word) : Bool :=
  (hkSlotOf off).isSome && extract old 31 1 == 1 && extract new 31 1 == 1
    && (extract old 12 4 != extract new 12 4 || extract old 8 4 != extract new 8 4 || extract old 0 5 != extract new 0 5)

/-- An accepted slot write (R480, R485): VALID clears when EN rises or a stop-only field changes; a slot stopped during a
sequence drops out of it. -/
def hkWritten (n : Fin 2) (off : Nat) (old new : Word) (s : State) : State :=
  match hkSlotOf off with
  | none => s
  | some i =>
    let rise := extract old 31 1 == 0 && extract new 31 1 == 1
    let fields := extract old 12 4 != extract new 12 4 || extract old 8 4 != extract new 8 4
      || extract old 0 5 != extract new 0 5
    let s := if rise || fields then s.set (.hk n) (HK.RESULT.VALID.at i) 0 else s
    if extract old 31 1 == 1 && extract new 31 1 == 0 && s.flag (.hk n) HK.STAT.BUSY then
      putHk s n { hkOf s n with skipped := i :: (hkOf s n).skipped }
    else s

end Sys2Proof.Machine
end

