-- ==== Sys2Proof/Machine/Auxiliary.lean ====
section
/-! DEFINITION. Machine/Auxiliary.lean: the auxiliary outputs of chapter 21 (R489-R495) and their ladder calibration
(R498). -/
namespace Sys2Proof.Machine

open Sys2Proof (Word Page)

/-- A range hold runs on channel `n`. -/
def auxHeld (s : State) (n : Nat) : Bool := testBit (s.get .aux AUX.HOLD.HOLD) n

/-- Channel `n` drives its clear code (R490-R493, R498). -/
def auxCleared (s : State) (n : Nat) : Bool :=
  s.flag .aux AUX.STAT.CLR_PIN || !s.flag .aux (AUX.CFG.EN.at n) || !s.flag .aux (AUX.CODE.WRITTEN.at n)
    || auxHeld s n || testBit s.aux.rangeWait n || testBit s.aux.ladderWait n || s.power == pwrDeep

/-- Code driven by channel `n`. -/
def auxOut (s : State) (n : Nat) : Nat := s.get .aux (AUX.CODE.OUT.at n)

/-- `STAT.SLEWING` of channel `n` follows the state. -/
def auxRefresh (s : State) (n : Nat) : State :=
  let m := s.get .aux AUX.STAT.SLEWING
  let slewing := !auxCleared s n && auxOut s n != s.get .aux (AUX.CODE.TARGET.at n)
  s.set .aux AUX.STAT.SLEWING (if slewing then setBit m n else clearBit m n)

/-- Drive the clear code of channel `n`. -/
def auxDriveClear (s : State) (n : Nat) : State :=
  auxRefresh (s.set .aux (AUX.CODE.OUT.at n) (s.get .aux (AUX.CFG.CLEAR.at n))) n

/-- The next code of a slew by at most `step` codes; 0 is unlimited (R490). -/
def auxSlew (out target step : Nat) : Nat :=
  if step = 0 then target
  else if out ≤ target then min (out + step) target
  else max (out - step) target

/-- The next step of channel `n` falls: INTERVAL µs after the last of its grid (R490). -/
def auxStepDue (s : State) (n : Fin 16) : Bool := spaced s (.auxStep n) (s.get .aux (AUX.CFG.INTERVAL.at n.val) * usNs)

/-- A RANGE change takes effect at a step (R491): the clear code is driven and a hold of 20 µs starts or restarts. -/
def auxRangeChange (n : Fin 16) (s : State) : State :=
  if testBit s.aux.rangeWait n.val && auxStepDue s n then
    let s := { s with aux := { s.aux with rangeWait := clearBit s.aux.rangeWait n.val } }
    let s := startTimer (.auxHold n) (startTimer (.auxStep n) s)
    auxDriveClear (s.set .aux AUX.HOLD.HOLD (setBit (s.get .aux AUX.HOLD.HOLD) n.val)) n.val
  else s

/-- A step of channel `n` falls (R490, R491, R493). -/
def auxStep (n : Fin 16) (s : State) : State :=
  if s.power = pwrOff ∨ s.power = pwrIdle ∨ s.power = pwrSleep ∨ auxStepDue s n = false then s
  else if testBit s.aux.rangeWait n.val then auxRangeChange n s
  else if auxCleared s n.val then auxDriveClear (startTimer (.auxStep n) s) n.val
  else
    let s := startTimer (.auxStep n) s
    let target := s.get .aux (AUX.CODE.TARGET.at n.val)
    let out := auxOut s n.val
    let next := auxSlew out target (s.get .aux (AUX.CFG.STEP.at n.val))
    let s := auxRefresh (s.set .aux (AUX.CODE.OUT.at n.val) next) n.val
    s.raiseIf (next == target && out != target) .aux AUX.EVT.SLEW_DONE

/-- A range hold ends (R491, R495). -/
def auxRangeDone (n : Fin 16) (s : State) : State :=
  if auxHeld s n.val && passed s (.auxHold n) (20 * usNs) then
    auxRefresh ((s.set .aux AUX.HOLD.HOLD (clearBit (s.get .aux AUX.HOLD.HOLD) n.val)).raise .aux AUX.EVT.RANGE_DONE)
      n.val
  else s

/-- AUXCLR_N changes level (R492). -/
def auxPin (low : Bool) (s : State) : State :=
  if low then
    if s.flag .aux AUX.STAT.CLR_PIN then s
    else
      let s := s.set .aux AUX.STAT.CLR_PIN 1
      ((List.range 16).foldl auxDriveClear s).raise .aux AUX.EVT.CLR_PIN
  else (List.range 16).foldl auxRefresh (s.set .aux AUX.STAT.CLR_PIN 0)

/-- A ladder's last acceptance is 24 hours old, or it was never accepted (R498). -/
def ladderOld (s : State) (n : Nat) : Bool :=
  (calCount s 0xA n).accepted == 0 || decide ((calCount s 0xA n).at_ + 86400000000000 ≤ s.nowNs)

/-- The ladder of channel `n` is measured and the channel is enabled (R498). -/
def auxLadderCal (n : Fin 16) (ms : List (Int × Int)) (s : State) : State :=
  if testBit s.aux.ladderWait n.val then
    let s := calMeasureAll 0xA n.val (ms.take 63) s
    auxRefresh { s with aux := { s.aux with ladderWait := clearBit s.aux.ladderWait n.val } } n.val
  else s

/-- Every channel drives its clear code on entry to Deep sleep (R493). -/
def auxDeepSleep (s : State) : State := (List.range 16).foldl auxDriveClear s

/-! ## Write rules and effects (R490, R491, R493, R494) -/

/-- Channel of a CFG or CODE register, and whether it is CODE. -/
def auxRegOf (off : Nat) : Option (Nat × Bool) :=
  if 0x80 ≤ off ∧ off < 0x100 then some ((off - 0x80) / 8, (off - 0x80) % 8 == 4) else none

/-- Writes AUX refuses with OUT_OF_RANGE. -/
def auxWriteBad (off : Nat) (new : Word) : Bool :=
  match auxRegOf off with
  | some (_, false) => extract new 0 8 == 0
  | _ => false

/-- CLEAR changes while the channel's EN stays 1 (R493). -/
def auxStopOnly (off : Nat) (old new : Word) : Bool :=
  match auxRegOf off with
  | some (_, false) => extract old 31 1 == 1 && extract new 31 1 == 1 && extract old 16 14 != extract new 16 14
  | _ => false

/-- An accepted write of CFGn or CODEn. -/
def auxWritten (off : Nat) (old new : Word) (s : State) : State :=
  match auxRegOf off with
  | none => s
  | some (n, true) =>
    let s := if s.flag .aux (AUX.CFG.EN.at n) then s.set .aux (AUX.CODE.WRITTEN.at n) 1 else s
    auxRefresh s n
  | some (n, false) =>
    let rise := extract old 31 1 == 0 && extract new 31 1 == 1
    let s := if rise then
        let s := startTimer (.auxStep ⟨n % 16, Nat.mod_lt n (by decide)⟩) (s.set .aux (AUX.CODE.WRITTEN.at n) 0)
        if ladderOld s n then { s with aux := { s.aux with ladderWait := setBit s.aux.ladderWait n } } else s
      else s
    let s := if extract old 30 1 != extract new 30 1 then
        { s with aux := { s.aux with rangeWait := setBit s.aux.rangeWait n } }
      else s
    auxRefresh s n

/-- A write of an AUX register with origin 0x0, and what it brings unless it is refused (R65). -/
def auxHardware (off : Nat) (new : Word) (s : State) : State :=
  if onlyReserve s then hardwareWrite s .aux off new
  else auxWritten off (word s .aux off) new (hardwareWrite s .aux off new)

/-- FES writes a channel with origin 0x0 (R490, R297): EN, and with EN = 1 the target code. -/
def auxDrive (n : Nat) (target : Option Nat) (s : State) : State :=
  let cfg := AUX.CFG.EN.at n
  let code := AUX.CODE.TARGET.at n
  let s := auxHardware cfg.off (deposit (word s .aux cfg.off) 31 1 (bit target.isSome)) s
  match target with
  | none => s
  | some v => auxHardware code.off (deposit (word s .aux code.off) 0 14 v) s

end Sys2Proof.Machine
end

