-- ==== Sys2Proof/Machine/OpticsControl.lean ====
section
/-! DEFINITION. Machine/OpticsControl.lean: chapter 12: the front-end sequencer (R289-R299), the CMIS subset (R300,
R301), loss of signal (R305) and the synthesisers (R302-R304). -/
namespace Sys2Proof.Machine

open Sys2Proof (Word Carrier Page)

/-- Change the optics of a carrier. -/
def setOptics (s : State) (c : Carrier) (x : Optics) : State := { s with optics := s.optics.set c x }

/-- Offset of `CTL_x`. -/
def fesCtl (c : Carrier) : Nat := if c = .a then 0x40 else 0x44

/-- Fields of `CTL_x` and `STAT_x`. -/
def fesEn (c : Carrier) : Field := pick c FES.CTL_A.EN FES.CTL_B.EN
def fesAuto (c : Carrier) : Field := pick c FES.CTL_A.AUTO FES.CTL_B.AUTO
def fesTrack (c : Carrier) : Field := pick c FES.CTL_A.GAIN_TRACK FES.CTL_B.GAIN_TRACK
def fesPol (c : Carrier) : Field := pick c FES.CTL_A.TIA_POL FES.CTL_B.TIA_POL
def fesStateF (c : Carrier) : Field := pick c FES.STAT_A.STATE FES.STAT_B.STATE
def fesHeldF (c : Carrier) : Field := pick c FES.STAT_A.TX_HELD FES.STAT_B.TX_HELD
def fesCauseF (c : Carrier) : Field := pick c FES.STAT_A.HOLD_CAUSE FES.STAT_B.HOLD_CAUSE
def fesLosF (c : Carrier) : Field := pick c FES.STAT_A.LOS FES.STAT_B.LOS
def fesModF (c : Carrier) : Field := pick c FES.STAT_A.MOD_STATE FES.STAT_B.MOD_STATE
def fesFaultF (c : Carrier) : Field := pick c FES.STAT_A.FAULT_CAUSE FES.STAT_B.FAULT_CAUSE
def fesDrvX (c : Carrier) : Field := pick c FES.DRV_A.X FES.DRV_B.X
def fesDrvY (c : Carrier) : Field := pick c FES.DRV_A.Y FES.DRV_B.Y
def fesTia (c : Carrier) (y : Bool) : Field :=
  if y then pick c FES.TIA_A.Y FES.TIA_B.Y else pick c FES.TIA_A.X FES.TIA_B.X
def fesTiaMin (c : Carrier) : Field := pick c FES.TIA_CFG_A.MIN FES.TIA_CFG_B.MIN
def fesTiaMax (c : Carrier) : Field := pick c FES.TIA_CFG_A.MAX FES.TIA_CFG_B.MAX
def fesHeldCnt (c : Carrier) : Field := pick c FES.CNT_A.HELD FES.CNT_B.HELD
def fesRefCnt (c : Carrier) : Field := pick c FES.CNT_A.REFUSED FES.CNT_B.REFUSED
def fesFaultCnt (c : Carrier) : Field := pick c FES.CNT_A.FAULTS FES.CNT_B.FAULTS

/-- Event bits of a carrier (R307). -/
def fesEvState (c : Carrier) : Nat := FES.EVT.STATE_A + c.idx
def fesEvRefused (c : Carrier) : Nat := FES.EVT.TX_REFUSED_A + c.idx
def fesEvFault (c : Carrier) : Nat := FES.EVT.FAULT_A + c.idx

/-- Sequencer states of R291. -/
def fesDark : Nat := 0
def fesPowered : Nat := 1
def fesTuning : Nat := 2
def fesTuned : Nat := 3
def fesTxReady : Nat := 4
def fesTxOn : Nat := 5
def fesRxAcq : Nat := 6
def fesLocked : Nat := 7
def fesFault : Nat := 8
def fesSafe : Nat := 9

/-- AUX channels of a module (R489). -/
def drvChannel (c : Carrier) (y : Bool) : Nat := 4 * c.idx + bit y
def tiaChannel (c : Carrier) (y : Bool) : Nat := 4 * c.idx + 2 + bit y

/-- Bits of `PLN.HOLD` of a carrier (R469). -/
def plnHold (s : State) (c : Carrier) : Nat := s.get .pln (pick c PLN.HOLD.HOLD_A PLN.HOLD.HOLD_B)

/-- A hold that puts the carrier in SAFE: ALS, TAMPER or FAILURE. -/
def safetyHold (s : State) (c : Carrier) : Bool :=
  testBit (plnHold s c) 0 || testBit (plnHold s c) 1 || testBit (plnHold s c) 4

/-- The Plinth grants a transmit enable (R469, R473). -/
def plinthGrants (s : State) (c : Carrier) : Bool :=
  plnHold s c == 0 && !s.flag .pln PLN.STAT.RK0_RECOVERY && !s.plinth.lasersBarred && !s.flag .pln PLN.STAT.LOCKSTEP_FAIL

/-! ## State changes (R291, R294) -/

/-- Enter a sequencer state; every change raises the carrier's STATE event. -/
def setFes (c : Carrier) (st : Nat) (s : State) : State :=
  if fesState s c = st then s else (s.set .fes (fesStateF c) st).raise .fes (fesEvState c)

/-- A held enable is cancelled without count or event (R293). -/
def cancelHeld (c : Carrier) (s : State) : State := (s.set .fes (fesHeldF c) 0).set .fes (fesCauseF c) 0

/-- FES tells the Plinth to disable the laser output; TXDIS_x rises once the gate has closed (R294). -/
def outputOff (c : Carrier) (s : State) : State :=
  let o := s.optics.get c
  if o.txDisabled then s
  else if gatesClosed s c then setOptics s c { o with txDisabled := true, disableWaits := false }
  else setOptics s c { o with disableWaits := true }

/-- The gate has closed (R294). -/
def outputGateClosed (c : Carrier) (s : State) : State :=
  let o := s.optics.get c
  if o.disableWaits && gatesClosed s c then setOptics s c { o with txDisabled := true, disableWaits := false } else s

/-- The Plinth asserts TXDIS_x for a hold of its own, without waiting for the gate (R294, R469). -/
def outputCut (c : Carrier) (s : State) : State :=
  setOptics s c { s.optics.get c with txDisabled := true, disableWaits := false, keying := [] }

/-- Leave the current state downward: laser output is disabled and a held enable cancelled. -/
def fesLeave (c : Carrier) (st : Nat) (s : State) : State := setFes c st (cancelHeld c (outputOff c s))

/-- The module's AUX channels return to their clear code (R291, R490). -/
def auxRelease (c : Carrier) (s : State) : State :=
  [drvChannel c false, drvChannel c true, tiaChannel c false, tiaChannel c true].foldl (fun s n => auxDrive n none s) s

/-- Entry to DARK for EN = 0 or a stop of FES asserts MOD_RST_N_x; for a power state it leaves the module released, in
low-power mode (R291, R299). -/
def toDark (c : Carrier) (lowPower : Bool) (s : State) : State :=
  if fesState s c = fesFault ∨ fesState s c = fesSafe then s
  else
    let s := auxRelease c (fesLeave c fesDark s)
    setOptics s c { s.optics.get c with
      modReset := !lowPower, lowPower := lowPower, waveLock := false, settling := false, keying := [] }

/-- Entry to TUNING (R291, R295): output is disabled first and CHAN_x.N takes effect. -/
def toTuning (c : Carrier) (s : State) : State :=
  let s := fesLeave c fesTuning s
  let s := setOptics s c { s.optics.get c with waveLock := false, keying := [] }
  { s with tunedN := s.tunedN.set c (s.getInt .fes (pick c FES.CHAN_A.N FES.CHAN_B.N)) }

/-- Entry to FAULT with a cause (R292). -/
def toFault (c : Carrier) (cause : Nat) (s : State) : State :=
  let s := fesLeave c fesFault s
  let s := (s.set .fes (fesFaultF c) cause).bump .fes (fesFaultCnt c)
  (s.errlog .fes cause c.idx).raise .fes (fesEvFault c)

/-! ## Transmit enable (R293) -/

/-- The hold causes present: bit 0 SYN, bit 1 LASER, bit 2 DAC_CAL. -/
def holdCauses (s : State) (c : Carrier) : Nat :=
  bit (!clockLocked s c || s.flag (clockSyn s c) SYN.STAT.CAL)
    + 2 * bit ((s.optics.get c).settling || !(s.optics.get c).waveLock)
    + 4 * bit ((carrierLanes c).any fun n => s.flag (.ltx n) LTX.STAT.CAL_FG)

/-- An enable is refused (R293). -/
def refuseEnable (c : Carrier) (s : State) : State :=
  ((cancelHeld c s).bump .fes (fesRefCnt c)).raise .fes (fesEvRefused c)

/-- Apply an enable: the Plinth releases TXDIS_x (R291, R293). -/
def applyEnable (c : Carrier) (s : State) : State :=
  let s := setOptics s c { s.optics.get c with txDisabled := false, disableWaits := false, keying := [] }
  setFes c fesTxOn (cancelHeld c s)

/-- Keying ends at once and its burst is abandoned (R298). -/
def dropKeying (c : Carrier) (s : State) : State := setOptics s c { s.optics.get c with keying := [] }

/-- A transmit enable in TX_READY (R293, R298). -/
def txEnable (c : Carrier) (s : State) : State :=
  if fesState s c ≠ fesTxReady then s
  else
  let s := dropKeying c s
  if !plinthGrants s c then refuseEnable c s
  else
    let causes := holdCauses s c
    if causes = 0 then applyEnable c s
    else
      let s := if s.flag .fes (fesHeldF c) then s else (s.set .fes (fesHeldF c) 1).bump .fes (fesHeldCnt c)
      s.set .fes (fesCauseF c) causes

/-- TXHOLD.MAX, in units of 100 µs, has passed since an enable was held (R293). -/
def holdOver (s : State) (c : Carrier) : Bool := passed s (.txHeld c) (s.get .fes FES.TXHOLD.MAX * 100 * usNs)

/-- The last hold cause clears (R293): within TXHOLD.MAX the enable is applied, later it is refused. -/
def txHoldRelease (c : Carrier) (s : State) : State :=
  if s.flag .fes (fesHeldF c) && fesState s c == fesTxReady then
    if holdOver s c then refuseEnable c s
    else
    let causes := holdCauses s c
    if causes = 0 then (if plinthGrants s c then applyEnable c s else refuseEnable c s)
    else s.set .fes (fesCauseF c) causes
  else s

/-- TXHOLD.MAX elapses on a held enable (R293). -/
def txHoldTimeout (c : Carrier) (s : State) : State :=
  if s.flag .fes (fesHeldF c) && holdOver s c then refuseEnable c s else s

/-- A TX_REQ below TX_READY is refused with MODE_CONFLICT (R293). -/
def txReqConflict (s : State) (c : Carrier) : Bool :=
  !(decide (fesTxReady ≤ fesState s c) && decide (fesState s c ≤ fesLocked))

/-- A TX_OFF strobe (R291, R293). -/
def txOff (c : Carrier) (s : State) : State :=
  if fesEmits s c then fesLeave c fesTxReady s else cancelHeld c s

/-! ## Following the datapath (R291) -/

/-- TXP_x and the four LTXn of the carrier are running. -/
def txRunning (s : State) (c : Carrier) : Bool :=
  s.running (.txp c) && (carrierLanes c).all fun n => s.running (.ltx n)

/-- The four receive conditions of LOCKED. -/
def rxComplete (s : State) (c : Carrier) : Bool :=
  acqState s c == acqTrack && phaseLocked s c && fecLocked s c && inFrame s c

/-- The transmit side ceases: lane or TXP stopped, clock unlocked, or wavelength unlocked. -/
def fesFollowTx (c : Carrier) (s : State) : State :=
  let s := if fesEmits s c && !txRunning s c then fesLeave c fesTxReady s else s
  let s := if fesEmits s c && (!clockLocked s c || !(s.optics.get c).waveLock) then txEnable c (fesLeave c fesTxReady s)
    else s
  if fesState s c = fesTxReady && !txRunning s c then setFes c fesTuned (cancelHeld c s) else s

/-- The receive side: TX_ON, RX_ACQ and LOCKED follow LOS and the four conditions. -/
def fesFollowRx (c : Carrier) (s : State) : State :=
  let los := s.flag .fes (fesLosF c)
  let s := if los && (fesState s c = fesRxAcq ∨ fesState s c = fesLocked) then setFes c fesTxOn s else s
  let s := if !los && fesState s c == fesTxOn then setFes c fesRxAcq s else s
  if fesState s c = fesRxAcq && rxComplete s c then setFes c fesLocked s
  else if fesState s c = fesLocked && !rxComplete s c then setFes c fesRxAcq s
  else s

/-- FO_MARGIN may be raised again once |FO_EST| is below 2.5 GHz (R296). -/
def rearmMargin (c : Carrier) (s : State) : State :=
  if (s.getInt (.cpr c) CPR.FO_EST.FO).natAbs < 25000 then
    setOptics s c { s.optics.get c with marginArmed := true }
  else s

/-- The sequencer of one carrier follows what the rest of the device did. -/
def fesFollow (c : Carrier) (s : State) : State :=
  if s.running .fes then rearmMargin c (fesFollowRx c (fesFollowTx c s)) else s

/-- Both sequencers follow. -/
def fesFollowBoth (s : State) : State := fesFollow .b (fesFollow .a s)

/-! ## Module power-up and tuning (R291, R292, R295) -/

/-- Outcomes of module power-up: ready, no ModuleReady in time, not CMIS or not tunable. -/
def modReady : Nat := 0
def modTimeout : Nat := 1

/-- Entry to POWERED: the TIA channels are set to the middle of their range and enabled. -/
def toPowered (c : Carrier) (s : State) : State :=
  let s := setFes c fesPowered s
  let mid := (s.get .fes (fesTiaMin c) + s.get .fes (fesTiaMax c)) / 2
  [false, true].foldl (fun s y => auxDrive (tiaChannel c y) (some mid) (s.set .fes (fesTia c y) mid)) s

/-- The module powers up: EN = 1 in DARK (R291). -/
def poweringUp (s : State) (c : Carrier) : Bool := s.running .fes && fesState s c == fesDark && s.flag .fes (fesEn c)

/-- The module reports ModuleReady within READY_TO, or power-up fails (R291, R292). -/
def moduleReady (c : Carrier) (outcome : Nat) (s : State) : State :=
  let late := passed s (.poweringUp c) (s.get .fes FES.TIMEOUT.READY_TO * secNs)
  if poweringUp s c && (if outcome = modReady then !late else outcome != modTimeout || late) then
    let s := setOptics s c { s.optics.get c with modReset := false, lowPower := false }
    if outcome = modReady then
      let s := toPowered c (s.set .fes (fesModF c) 3)
      if s.flag .fes (fesAuto c) then toTuning c s else s
    else toFault c (if outcome = modTimeout then 1 else 2) s
  else s

/-- A TUNE strobe (R291). -/
def tune (c : Carrier) (s : State) : State :=
  let st := fesState s c
  if st = fesPowered ∨ (fesTuned ≤ st ∧ st ≤ fesLocked) then toTuning c s else s

/-- The module reports wavelength lock within TUNE_TO, times out, or reports a tuning error (R291, R292). -/
def wavelengthLock (c : Carrier) (outcome : Nat) (s : State) : State :=
  let late := passed s (.tuning c) (s.get .fes FES.TIMEOUT.TUNE_TO * secNs)
  if fesState s c = fesTuning && (if outcome = 0 then !late else outcome != 1 || late) then
    if outcome = 0 then setFes c fesTuned (setOptics s c { s.optics.get c with waveLock := true, settling := false })
    else toFault c (if outcome = 1 then 3 else 4) s
  else s

/-- DRV_x goes to the driver channels (R297). -/
def driveDrivers (c : Carrier) (s : State) : State :=
  let s := auxDrive (drvChannel c false) (some (s.get .fes (fesDrvX c))) s
  auxDrive (drvChannel c true) (some (s.get .fes (fesDrvY c))) s

/-- The transmit pages run in TUNED: TX_READY, and under AUTO a transmit enable (R291, R293). -/
def txReadyEntry (c : Carrier) (s : State) : State :=
  if s.running .fes && fesState s c == fesTuned && txRunning s c then
    let s := driveDrivers c (setFes c fesTxReady s)
    if s.flag .fes (fesAuto c) then txEnable c s else s
  else s

/-- A write of EN (R291). -/
def fesEnable (c : Carrier) (en : Bool) (s : State) : State :=
  if en then
    if fesState s c = fesDark then setOptics s c { s.optics.get c with modReset := false } else s
  else toDark c false s

/-- CLR_FAULT (R291). -/
def clearFault (c : Carrier) (s : State) : State :=
  if fesState s c = fesFault then
    let s := setFes c fesDark s
    setOptics s c { s.optics.get c with modReset := !s.flag .fes (fesEn c), waveLock := false }
  else s

/-- A cause of R292 arises in the module or on its bus. -/
def fesCause (c : Carrier) (cause : Nat) (s : State) : State :=
  let st := fesState s c
  if s.running .fes && ((fesPowered ≤ st && st ≤ fesLocked) || (st = fesDark && s.flag .fes (fesEn c))) then toFault c cause s
  else s

/-- The Plinth's safety hold of a carrier comes or goes (R291, R293, R469). -/
def safetyFollow (c : Carrier) (s : State) : State :=
  let held := s.flag .fes (fesHeldF c)
  let s := if held && plnHold s c != 0 then refuseEnable c s else s
  if safetyHold s c then
    let s := outputCut c s
    setFes c fesSafe (cancelHeld c s)
  else if fesState s c = fesSafe then
    if (s.optics.get c).waveLock && s.flag .fes (fesEn c) then setFes c fesTuned s
    else setFes c fesDark s
  else s

/-! ## Receive power and gain (R296, R297, R305) -/

/-- A receive-power monitor reading (R305). -/
def losReading (c : Carrier) (code : Nat) (s : State) : State :=
  if !s.running .fes then s
  else
    let o := s.optics.get c
    let below := if code < s.get .fes FES.LOS_CFG.SET then min 2 (o.below + 1) else 0
    let above := if s.get .fes FES.LOS_CFG.CLR < code then min 2 (o.above + 1) else 0
    let s := setOptics s c { o with below := below, above := above }
    if below = 2 then s.set .fes (fesLosF c) 1 else if above = 2 then s.set .fes (fesLosF c) 0 else s

/-- |FO_EST| exceeds 3.0 GHz in LOCKED (R296). -/
def foWide (s : State) (c : Carrier) : Bool :=
  fesState s c == fesLocked && decide (30000 < (s.getInt (.cpr c) CPR.FO_EST.FO).natAbs)

/-- |FO_EST| has exceeded 3.0 GHz for 1 s while LOCKED (R296). -/
def foMargin (c : Carrier) (s : State) : State :=
  if foWide s c && passed s (.foWide c) secNs && (s.optics.get c).marginArmed then
    (setOptics s c { s.optics.get c with marginArmed := false }).raise .fes FES.EVT.FO_MARGIN
  else s

/-- Lanes of a polarisation. -/
def polLanes (c : Carrier) (y : Bool) : List (Fin 8) :=
  if y then (carrierLanes c).drop 2 else (carrierLanes c).take 2

/-- A TIA step of `up` or down, stopped at MIN or MAX with TIA_LIMIT (R297). -/
def tiaStep (c : Carrier) (y up : Bool) (s : State) : State :=
  let code := s.get .fes (fesTia c y)
  let step := s.get .fes FES.GAIN_LOOP.STEP
  let lo := s.get .fes (fesTiaMin c)
  let hi := s.get .fes (fesTiaMax c)
  let rising := up == s.flag .fes (fesPol c)
  let want : Int := if rising then code + step else (code : Int) - step
  let next := (clamp lo hi want).toNat
  let s := auxDrive (tiaChannel c y) (some next) (startTimer (.tiaStepped c y) (s.set .fes (fesTia c y) next))
  s.raiseIf (decide (want < lo) || decide (hi < want)) .fes FES.EVT.TIA_LIMIT

/-- The outer gain loop judges a polarisation, DWELL ms after its last step or later (R297). -/
def tiaJudge (c : Carrier) (y : Bool) (s : State) : State :=
  let st := fesState s c
  let ls := polLanes c y
  if s.running .fes && s.flag .fes (fesTrack c) && decide (fesPowered ≤ st) && decide (st ≤ fesLocked)
      && ls.all (fun n => s.running (.lrx n)) && spaced s (.tiaStepped c y) (s.get .fes FES.GAIN_LOOP.DWELL * msNs) then
    let atMax := ls.any fun n => s.flag (.lrx n) LRX.GAIN_STAT.AT_MAX
    let atMin := ls.any fun n => s.flag (.lrx n) LRX.GAIN_STAT.AT_MIN
    if atMax && atMin then s.raise .fes FES.EVT.TIA_SPLIT
    else if atMax then tiaStep c y true s
    else if atMin then tiaStep c y false s
    else s
  else s

/-! ## CMIS (R300, R301) -/

/-- A GO is refused with MODE_CONFLICT (R301). -/
def cmisConflict (s : State) (new : Word) : Bool :=
  let page := extract new 16 8
  extract new 31 1 == 1
    && ((extract new 30 1 == 1 && !(page == 3 || decide (0x80 ≤ page))) || s.get .fes FES.CMIS_CMD.STATUS == 1)

/-- A CMIS transaction ends: `answer` is the module's data, none on a NAK or a timeout (R292, R301). -/
def cmisTransaction (c : Carrier) (write : Bool) (answer : Option Nat) (s : State) : State :=
  let o := s.optics.get c
  match answer with
  | some d =>
    let s := setOptics s c { o with cmisFails := 0 }
    let s := if write then s else s.set .fes FES.CMIS_DATA.RDATA d
    (s.set .fes FES.CMIS_CMD.STATUS 2).raise .fes FES.EVT.CMIS_DONE
  | none =>
    let s := setOptics s c { o with cmisFails := o.cmisFails + 1 }
    let s := (s.set .fes FES.CMIS_CMD.STATUS 3).raise .fes FES.EVT.CMIS_DONE
    if 3 ≤ o.cmisFails + 1 then fesCause c 6 (setOptics s c { s.optics.get c with cmisFails := 0 }) else s

/-- FES reads the module flags, on MOD_INT_N_x or 100 ms after the last reading (R292, R300): the module state code, wavelength lock, settling, and a laser fault flag. -/
def cmisPoll (c : Carrier) (asserted : Bool) (modState : Nat) (lock settling laserFault : Bool) (s : State) : State :=
  if !s.running .fes || !(asserted || spaced s (.polled c) (100 * msNs)) then s
  else
    let s := startTimer (.polled c) s
    let s := (s.set .fes (fesModF c) modState).raiseIf asserted .fes FES.EVT.MOD_INT
    let st := fesState s c
    let up := decide (fesPowered ≤ st) && decide (st ≤ fesLocked)
    let s := if fesTuned ≤ st then setOptics s c { s.optics.get c with waveLock := lock, settling := settling } else s
    if laserFault then fesCause c 7 s
    else if up && modState % 8 != 3 then fesCause c 5 s
    else fesFollow c s

/-! ## Synthesisers (R302-R304) -/

/-- Output rate in kHz: 1.2 times the symbol rate of the carrier's mode; SYN_C runs at 106.25 GHz (R302, R519). -/
def synRate (s : State) (n : Fin 3) : Nat :=
  if n = 0 then 1200000 * carrierRate s .a else if n = 1 then 1200000 * carrierRate s .b else 106250000

/-- The band, and with LOOP_CAL the loop gain, are calibrated from their measurement pairs (R302). -/
def synCalibrate (n : Fin 3) (band gain : Int × Int) (loopToo : Bool) (s : State) : State :=
  let one (item detail : Nat) (m : Int × Int) (s : State) : State :=
    let s := calMeasure item n.val 0 m.1 m.2 s
    if calAgree item 0 m.1 m.2 then s else (s.errlog (.syn n) 1 detail).raise (.syn n) SYN.EVT.CAL_FAIL
  let s := one 6 0 band s
  let s := s.set (.syn n) SYN.STAT.BAND (ofSigned 8 (trim s 6 n.val 0))
  if loopToo && s.flag (.syn n) SYN.CTL.LOOP_CAL then
    let s := one 7 1 gain s
    s.set (.syn n) SYN.LOOP_TRIM.TRIM (ofSigned 8 (0x80 + trim s 7 n.val 0))
  else s

/-- A synthesiser enters starting: calibration in progress; a line synthesiser starts at the LREF-derived rate (R115). -/
def synStart (n : Fin 3) (s : State) : State :=
  let centre (c : Carrier) (s : State) : State := setTxDsp s c { s.txDsp.get c with synOfs := 0 }
  let s := if n = 0 then centre .a s else if n = 1 then centre .b s else s
  (s.clearAll (.syn n) [SYN.UNLOCK_CNT.COUNT, SYN.STAT.LOCK]).set (.syn n) SYN.STAT.CAL 1

/-- A synthesiser reaches running with LOCK = 1 (R302). -/
def synRunning (n : Fin 3) (band gain : Int × Int) (s : State) : State :=
  let s := synCalibrate n band gain true s
  let s := (s.set (.syn n) SYN.STAT.CAL 0).set (.syn n) SYN.FREQ.KHZ (synRate s n)
  (s.set (.syn n) SYN.STAT.LOCK 1).raise (.syn n) SYN.EVT.LOCK

/-- A synthesiser leaves running. -/
def synStop (n : Fin 3) (s : State) : State :=
  s.clearAll (.syn n) [SYN.STAT.LOCK, SYN.STAT.CAL, SYN.FREQ.KHZ]

/-- A running synthesiser loses lock (R303). -/
def synUnlock (n : Fin 3) (s : State) : State :=
  if s.running (.syn n) && s.flag (.syn n) SYN.STAT.LOCK then
    let s := ((s.set (.syn n) SYN.STAT.LOCK 0).set (.syn n) SYN.STAT.CAL 1).bump (.syn n) SYN.UNLOCK_CNT.COUNT
    fesFollowBoth (lanesLose .b (lanesLose .a (s.raise (.syn n) SYN.EVT.UNLOCK)))
  else s

/-- A running synthesiser is unlocked. -/
def synUnlocked (s : State) (n : Fin 3) : Bool := s.running (.syn n) && !s.flag (.syn n) SYN.STAT.LOCK

/-- A synthesiser that has not relocked within 1.0 ms records it once (R303).  The 1 ms that LREF_OK waits for after LREF's return is
the bound itself. -/
def synLate (n : Fin 3) (s : State) : State :=
  if s.flag .tb TB.STAT.LREF_OK && passed s (.unlocked n) msNs && (timerStart s (.synLate n)).isNone then
    startTimer (.synLate n) (s.errlog (.syn n) 2 0)
  else s

/-- A synthesiser locks again, or is still trying (R303). -/
def synRelock (n : Fin 3) (locked : Bool) (band : Int × Int) (s : State) : State :=
  if synUnlocked s n then
    let s := synLate n s
    if locked then
      let s := synCalibrate n band (0, 0) false (stopTimer (.synLate n) s)
      let s := ((s.set (.syn n) SYN.STAT.CAL 0).set (.syn n) SYN.STAT.LOCK 1).raise (.syn n) SYN.EVT.LOCK
      laneClockResume .b (laneClockResume .a s)
    else s
  else s

/-- The carrier of a line synthesiser. -/
def synCarrier (n : Fin 3) : Option Carrier := if n = 0 then some .a else if n = 1 then some .b else none

/-- A synthesiser refuses STOP (R304). -/
def synStopBad (s : State) (n : Fin 3) : Bool :=
  match synCarrier n with
  | some c => !(s.stopped (.txp c) && (carrierLanes c).all fun k => s.stopped (.ltx k) && s.stopped (.lrx k))
  | none =>
    !((List.finRange 16).all (fun k => s.stopped (.clx k)) && s.stopped (.cpc .a) && s.stopped (.cpc .b)
      && !s.flag .hlk HLK.LINK_STAT.SRIS)

/-- A line synthesiser that SYN_SRC does not name refuses RUN under lock (R304). -/
def synRunBad (s : State) (n : Fin 3) : Bool :=
  lockEnabled s && decide (n.val < 2) && n.val != s.get .glb GLB.LOCKCTL.SYN_SRC

/-! ## Power states and page behaviour (R299, R305, R306) -/

/-- Sleep (R299): a carrier above TUNED moves to TUNED. -/
def fesSleep (c : Carrier) (s : State) : State :=
  let st := fesState s c
  if fesTuned < st ∧ st ≤ fesLocked then fesLeave c fesTuned s else s

/-- FES refuses STOP while a carrier is not DARK (R305). -/
def fesStopBad (s : State) : Bool := fesState s .a != fesDark || fesState s .b != fesDark

/-- FES enters starting: its counters clear. -/
def fesStart (s : State) : State :=
  s.clearAll .fes [FES.CNT_A.FAULTS, FES.CNT_A.REFUSED, FES.CNT_A.HELD, FES.CNT_B.FAULTS, FES.CNT_B.REFUSED, FES.CNT_B.HELD]

/-- FES leaves running. -/
def fesStop (s : State) : State := toDark .b false (toDark .a false s)

/-- Carrier of a register pair at `off` and `off + 4`. -/
def fesPair (base off : Nat) : Option Carrier := if off = base then some .a else if off = base + 4 then some .b else none

/-- Writes FES refuses with OUT_OF_RANGE (R306). -/
def fesWriteBad (off : Nat) (new : Word) : Bool :=
  if (fesPair 0x48 off).isSome then
    decide (toSigned 12 (extract new 0 12) < -288) || decide (480 < toSigned 12 (extract new 0 12))
  else if off = 0x58 then extract new 0 8 == 0
  else if off = 0x5C then extract new 8 8 == 0 || extract new 0 8 == 0
  else if (fesPair 0x68 off).isSome then decide (extract new 16 14 ≤ extract new 0 14)
  else if off = 0x70 then extract new 8 8 == 0 || extract new 0 8 == 0
  else if off = 0x7C then decide (extract new 16 16 ≤ extract new 0 16)
  else if off = 0x80 then
    extract new 8 6 == 0 || decide (30 < extract new 8 6) || extract new 0 6 == 0 || decide (30 < extract new 0 6)
  else false

/-- Writes FES refuses with MODE_CONFLICT (R293, R301). -/
def fesConflict (s : State) (off : Nat) (new : Word) : Bool :=
  match fesPair 0x40 off with
  | some c => extract new 1 1 == 1 && txReqConflict s c
  | none => off == FES.CMIS_CMD.GO.off && cmisConflict s new

/-- An accepted write to FES.  `env` holds the module's answer to a CMIS transaction: 1 and the data, or 0. -/
def fesWritten (off : Nat) (old new : Word) (env : List Int) (s : State) : State :=
  match fesPair 0x40 off with
  | some c =>
    let s := if extract old 0 1 != extract new 0 1 then fesEnable c (extract new 0 1 == 1) s else s
    let s := if extract new 3 1 = 1 then clearFault c s else s
    let s := if extract new 2 1 = 1 then txOff c s else s
    let s := if extract new 4 1 = 1 then tune c s else s
    let s := if extract new 1 1 = 1 then txEnable c s else s
    fesFollow c s
  | none =>
    match fesPair 0x60 off with
    | some c =>
      let st := fesState s c
      if old ≠ new ∧ fesTxReady ≤ st ∧ st ≤ fesLocked then driveDrivers c s else s
    | none =>
      if off = FES.CMIS_CMD.GO.off && extract new 31 1 == 1 then
        let c : Carrier := if extract new 29 1 = 0 then .a else .b
        match env with
        | ok :: d :: _ =>
          cmisTransaction c (extract new 30 1 == 1) (if ok = 0 then none else some (ofSigned 8 d)) s
        | _ => cmisTransaction c (extract new 30 1 == 1) (some (s.free 256)) s.drawn
      else s

end Sys2Proof.Machine
end

