-- ==== Sys2Proof/Machine/QuoletLink.lean ====
section
/-! DEFINITION. Machine/QuoletLink.lean: chapter 10, the carriers of bits: wake words (R246), the convolutional code of
the pilot channel (R250), link words (R252), message layout, MAC and signature (R253, R254), and sending (R255). -/
namespace Sys2Proof.Machine

open Sys2Proof (Byte Word Carrier PerCarrier Origin Page Instr Message)

/-- Change the Quolet state. -/
def State.setQlt (s : State) (x : Quolet) : State := { s with qlt := x }

/-- A session, and its replacement. -/
def session (s : State) (k : Carrier) : Session := s.qlt.sessions.get k
def putSession (s : State) (k : Carrier) (x : Session) : State :=
  s.setQlt { s.qlt with sessions := s.qlt.sessions.set k x }

/-- Session states of R260. -/
def sessDown : Nat := 0
def sessNegotiate : Nat := 1
def sessKeying : Nat := 2
def sessKeyed : Nat := 3
def sessFailed : Nat := 4

/-- The session a path belongs to, and the paths of a session (R258). -/
def ownerOf (s : State) (x : Carrier) : Option Carrier := s.qlt.owner.get x
def members (s : State) (k : Carrier) : List Carrier := [.a, .b].filter fun x => ownerOf s x == some k

/-- The session of a carrier is KEYED. -/
def keyed (s : State) (x : Carrier) : Bool :=
  match ownerOf s x with
  | some k => (session s k).state == sessKeyed
  | none => false

/-- Path states of R258. -/
def pathNone : Nat := 0
def pathPilot : Nat := 1
def pathInband : Nat := 2

/-- `STAT.PATH_x`. -/
def pathState (s : State) (x : Carrier) : Nat := s.get .qlt (pick x QLT.STAT.PATH_A QLT.STAT.PATH_B)

/-- The effective role (R268): 0 A-end, 1 B-end. -/
def ownRole (s : State) : Nat := if s.flag .qlt QLT.CTL.ROLE_SRC then s.get .qlt QLT.CTL.ROLE else bit s.qlt.strapRole

/-- Show the sessions in `QLT.STAT` (R258, R260, R268). -/
def showSessions (s : State) : State :=
  let shown (x : Carrier) : Nat := match ownerOf s x with
    | some k => (session s k).state
    | none => 0
  let epoch := match ownerOf s .a with
    | some k => (session s k).epoch
    | none => 0
  let shared := (ownerOf s .a).isSome && ownerOf s .a == ownerOf s .b
  ((((s.set .qlt QLT.STAT.SESS_A (shown .a)).set .qlt QLT.STAT.SESS_B (shown .b)).setFlag .qlt QLT.STAT.SHARED shared).set
    .qlt QLT.STAT.EPOCH epoch).set .qlt QLT.STAT.ROLE_EFF (ownRole s)

/-! ## Message types and refusal reasons (R256, R257) -/

/-- TYPE codes of R256. -/
def tAck : Nat := 0x00
def tHello : Nat := 0x01
def tCaps : Nat := 0x02
def tAttest : Nat := 0x03
def tKemInit : Nat := 0x04
def tKemResp : Nat := 0x05
def tKeyConfirm : Nat := 0x06
def tRekey : Nat := 0x07
def tRateOffer : Nat := 0x08
def tRateAccept : Nat := 0x09
def tStep : Nat := 0x0A
def tStepAck : Nat := 0x0B
def tRouteSwitch : Nat := 0x0C
def tSleepReq : Nat := 0x0D
def tWake : Nat := 0x0E
def tTelemetry : Nat := 0x0F
def tTime : Nat := 0x10
def tRefuse : Nat := 0x11

/-- Refusal reasons of R257. -/
def badKcv : Nat := 0x01
def slotBusy : Nat := 0x02
def berReason : Nat := 0x03
def pskRequired : Nat := 0x04
def attestFail : Nat := 0x05
def modeNotAllowed : Nat := 0x06
def busyReason : Nat := 0x07
def lateReason : Nat := 0x08
def roleConflict : Nat := 0x09
def configMismatch : Nat := 0x0A
def versionReason : Nat := 0x0B
def keyMismatch : Nat := 0x0C

/-- Discard causes of `DISCARD.LAST_CAUSE` (R269). -/
def dcCrc : Nat := 1
def dcMac : Nat := 2
def dcSig : Nat := 3
def dcState : Nat := 4
def dcUnknown : Nat := 5
def dcPartial : Nat := 6
def dcLen : Nat := 7

/-- Count a discarded message with its cause; a MAC or SIG failure raises AUTH_FAIL (R254, R269). -/
def discard (cause : Nat) (s : State) : State :=
  ((s.bump .qlt QLT.DISCARD.COUNT).set .qlt QLT.DISCARD.LAST_CAUSE cause).raiseIf (cause == dcMac || cause == dcSig) .qlt
    QLT.EVT.AUTH_FAIL

/-- Whether messages of a TYPE are signed (R256). -/
def typeSigned (type : Nat) : Bool := decide (tHello ≤ type) && decide (type ≤ tKemResp)

/-! ## Message bytes (R253, R254) -/

/-- LEN of a message. -/
def messageLength (m : Message) (sig mac : Bool) : Nat :=
  12 + m.body.length + (if sig then 3309 else 0) + (if mac then 33 else 0) + 4

/-- Bytes 0 to the end of BODY, with the given FLAGS. -/
def headBody (type flags len : Nat) (m : Message) : List Byte :=
  [BitVec.ofNat 8 type, BitVec.ofNat 8 flags] ++ beBytes 2 len ++ beBytes 4 m.seq ++ beBytes 4 m.ack ++ m.body

/-- A message carries a signature, or a MAC (FLAGS [0], [1]). -/
def hasSig (m : Message) : Bool := testBit m.flags 0
def hasMac (m : Message) : Bool := testBit m.flags 1

/-- FLAGS with bits [4:2] at 0 (R253). -/
def signedFlags (flags : Nat) : Nat := flags % 4 + flags / 32 * 32

/-- What SIG covers: FLAGS bits [4:2] count as 0 (R253). -/
def signedPart (type : Nat) (m : Message) : List Byte :=
  headBody type (signedFlags m.flags) (messageLength m (hasSig m) (hasMac m)) m

/-- What the MAC covers, with the epoch byte (R254). -/
def macPart (type : Nat) (m : Message) (e : Nat) : List Byte := signedPart type m ++ m.sig ++ [BitVec.ofNat 8 e]

/-- The MAC under a key (R254). -/
def macOf (key : BitVec 256) (type : Nat) (m : Message) (e : Nat) : BitVec 256 :=
  Config.kmac256 (bytes32 key) (macPart type m e) (label "SQ3208-QLT")

/-- A message as it enters the transcript of R259: without its CRC. -/
def transcriptPart (type : Nat) (m : Message) : List Byte :=
  signedPart type m ++ m.sig ++ (match m.mac with
    | some (e, t) => BitVec.ofNat 8 e :: bytes32 t
    | none => [])

/-- CRC-32C of R84 over bytes. -/
def crc32c (b : List Byte) : Nat := crcBits 32 0x1EDC6F41 0xFFFFFFFF 0xFFFFFFFF (b.flatMap fun x => msbBits 8 x.toNat)

/-- All bytes of a message (R253). -/
def messageBytes (type : Nat) (m : Message) : List Byte :=
  let b := headBody type m.flags (messageLength m (hasSig m) (hasMac m)) m ++ m.sig ++ (match m.mac with
    | some (e, t) => BitVec.ofNat 8 e :: bytes32 t
    | none => [])
  b ++ beBytes 4 (crc32c b)

/-- The message bytes spell: its TYPE and fields; none when its parts do not fit its length. -/
def parseMessage (b : List Byte) : Option (Nat × Message) :=
  let flags := beAt b 1 1
  let tail := (if testBit flags 0 then 3309 else 0) + (if testBit flags 1 then 33 else 0) + 4
  if b.length < 12 + tail then none
  else
    let bodyLen := b.length - 12 - tail
    let sigAt := 12 + bodyLen
    let sig := if testBit flags 0 then slice b sigAt 3309 else []
    let macAt := sigAt + sig.length
    let mac := if testBit flags 1 then some (beAt b macAt 1, BitVec.ofNat 256 (leAt b (macAt + 1) 32)) else none
    some (beAt b 0 1, ⟨flags, beAt b 4 4, beAt b 8 4, slice b 12 bodyLen, sig, mac⟩)

/-! ## Link words (R252) -/

/-- The idle word. -/
def idleWord : BitVec 64 := 0x1000000000000000

/-- A data word over at most seven bytes. -/
def dataWord (first last : Bool) (bytes : List Byte) : BitVec 64 :=
  BitVec.ofNat 64 (2 ^ 63 + bit first * 2 ^ 62 + bit last * 2 ^ 61 + 2 * 2 ^ 59 + (bytes.length - 1) * 2 ^ 56
    + ofBeBytes bytes * 2 ^ (8 * (7 - bytes.length)))

/-- The words of a message's bytes, in chunks of seven. -/
def wordsFrom : Nat → Bool → List Byte → List (BitVec 64)
  | 0, _, _ => []
  | n + 1, first, b =>
    if b.length ≤ 7 then [dataWord first true b] else dataWord first false (b.take 7) :: wordsFrom n false (b.drop 7)

/-- The link words of a message. -/
def messageWords (type : Nat) (m : Message) : List (BitVec 64) :=
  let b := messageBytes type m
  wordsFrom b.length true b

/-- Fields of a link word. -/
def wordV (w : BitVec 64) : Bool := testBit w.toNat 63
def wordF (w : BitVec 64) : Bool := testBit w.toNat 62
def wordL (w : BitVec 64) : Bool := testBit w.toNat 61
def wordMark (w : BitVec 64) : Nat := w.toNat / 2 ^ 59 % 4
def wordBytes (w : BitVec 64) : List Byte := (beBytes 7 (w.toNat % 2 ^ 56)).take (w.toNat / 2 ^ 56 % 8 + 1)

/-! ## The convolutional code (R250) -/

/-- Parity of a number's bits. -/
def parity (v : Nat) : Bool := (sumNat ((List.range 7).map fun i => bit (testBit v i))) % 2 == 1

/-- Coded bits of information bits from an encoder state of the last six bits, newest in bit 5: 171 first, then 133. -/
def convEncode : Nat → List Bool → List Bool × Nat
  | st, [] => ([], st)
  | st, b :: bs =>
    let r := bit b * 64 + st
    let rest := convEncode (r / 2) bs
    (parity (r &&& 0o171) :: parity (r &&& 0o133) :: rest.1, rest.2)

/-! ## Sending (R255, R258) -/

/-- The device modulates the pilot channel of carrier `x` (R258). -/
def modulates (s : State) (x : Carrier) : Bool := s.running (.txp x) && s.flag (.txp x) TXP.PCH_CTL.EN

/-- Queue words on every path of a session that is up; a pilot channel whose peer reports INB_x = 1 is left out. -/
def queueWords (s : State) (k : Carrier) (ws : List (BitVec 64)) : State :=
  (members s k).foldl (fun s x =>
    if pathState s x = pathNone then s
    else
      let s := if s.running (.lfm x) then
        s.setQlt { s.qlt with outInband := s.qlt.outInband.set x (s.qlt.outInband.get x ++ ws) } else s
      if modulates s x && !testBit (session s k).peerInb x.idx then
        s.setQlt { s.qlt with outPilot := s.qlt.outPilot.set x (s.qlt.outPilot.get x ++ ws) }
      else s) s

/-- At most this many messages wait for their acknowledgement; later ones wait to be sent (R255). -/
def windowSize : Nat := 16

/-- INB_A and INB_B in FLAGS [4:3] (R253). -/
def inbFlags (s : State) : Nat :=
  8 * bit (pathState s .a == pathInband) + 16 * bit (pathState s .b == pathInband)

/-- Build a message of a session; the MAC key, if any, is given (R253, R254). -/
def buildMessage (s : State) (k : Carrier) (type : Nat) (body : List Byte) (key : Option MacKey) : Message :=
  let x := session s k
  let sig := typeSigned type
  let m : Message := ⟨bit sig + 2 * bit key.isSome + inbFlags s, x.sendSeq, x.recvSeq, body, [], none⟩
  let m := if sig then { m with sig := signed s (signedPart type m) } else m
  match key with
  | some q => { m with mac := some (q.epoch % 256, macOf q.own type m q.epoch) }
  | none => m

/-- Send a message with a stated MAC key: it takes the next SEQ, unless it is an ACK, and its words are queued once the
window has room (R255). -/
def sendWith (k : Carrier) (type : Nat) (body : List Byte) (key : Option MacKey) (s : State) : State :=
  let m := buildMessage s k type body key
  let x := session s k
  let room := decide (x.unacked.length < windowSize)
  let s :=
    if type = tAck then putSession s k { x with ackDue := false }
    else
      let own := if decide (tHello ≤ type) && decide (type ≤ tKemResp) then
          (type, transcriptPart type m) :: x.own.filter (fun e => !(e.1 == type))
        else x.own
      putSession s k
        { x with
          sendSeq := x.sendSeq + 1
          unacked := x.unacked ++ [⟨type, m, 0⟩]
          ackDue := false
          own := own }
  let s := s.bump .qlt QLT.MSG_TX.COUNT
  if type = tAck || room then queueWords s k (messageWords type m) else s

/-- The MAC key of ordinary messages: the newest KQ once KEYED, else none (R254, R260). -/
def sendKey (s : State) (k : Carrier) : Option MacKey :=
  let x := session s k
  if x.state = sessKeyed then x.keys.head? else none

/-- Send a message (R255). -/
def send (k : Carrier) (type : Nat) (body : List Byte) (s : State) : State := sendWith k type body (sendKey s k) s

/-- Send REFUSE (R257): the refused TYPE, its SEQ and a reason. -/
def refuse (k : Carrier) (type seqNo reason : Nat) (s : State) : State :=
  send k tRefuse ([BitVec.ofNat 8 type] ++ beBytes 4 seqNo ++ [BitVec.ofNat 8 reason]) s

/-- An acknowledgement up to `ack` releases messages, and messages that waited for the window are sent (R255). -/
def acknowledge (k : Carrier) (ack : Nat) (s : State) : State :=
  let x := session s k
  let left := x.unacked.filter fun o => decide (ack ≤ o.msg.seq)
  let gone := x.unacked.length - left.length
  let inb (y : Carrier) : Bool := x.unacked.any fun o => decide (o.msg.seq < ack) && testBit o.msg.flags (3 + y.idx)
  let s := putSession s k { x with unacked := left }
  let s := (members s k).foldl (fun s y =>
    if inb y then s.setQlt { s.qlt with inbAcked := s.qlt.inbAcked.set y true } else s) s
  ((left.drop (windowSize - gone)).take gone).foldl (fun s o => queueWords s k (messageWords o.type o.msg)) s

/-- Resend a message with RETX = 1 (R255). -/
def resend (k : Carrier) (o : Outstanding) (s : State) : State :=
  let m := { o.msg with flags := setBit o.msg.flags 2 }
  queueWords (s.bump .qlt QLT.RETX.COUNT) k (messageWords o.type m)

/-- RTT of a carrier in ps; 25 ms while none is valid (R265). -/
def rttPs (s : State) (x : Carrier) : Nat :=
  if s.flag .qlt (pick x QLT.RTTA_HI.VALID QLT.RTTB_HI.VALID) then
    s.get .qlt (pick x QLT.RTTA_LO.RTT QLT.RTTB_LO.RTT)
      + s.get .qlt (pick x QLT.RTTA_HI.RTT QLT.RTTB_HI.RTT) * 2 ^ 32
  else 25000000000

/-- The retransmission time of a message after so many resends, in ns (R255). -/
def retxNs (s : State) (k : Carrier) (resends : Nat) : Nat :=
  let valid := (members s k).filter fun x => s.flag .qlt (pick x QLT.RTTA_HI.VALID QLT.RTTB_HI.VALID)
  let rtt := valid.foldl (fun r x => max r (rttPs s x)) 0
  (if valid.isEmpty then 25 * msNs else max (2 * rtt / 1000) (2 * msNs)) * 2 ^ resends

/-- RK1 runs, and with it Quolet. -/
def quoletRuns (s : State) : Bool := s.running .qlt && s.running (.rk 1)

/-- The next in-band word of a carrier, an idle word when none waits (R252) and while RK1 restarts (R36), and the queue after it.
-/
def nextInband (s : State) (x : Carrier) : BitVec 64 :=
  if quoletRuns s then (s.qlt.outInband.get x).headD idleWord else idleWord
def inbandSent (x : Carrier) (s : State) : State :=
  if quoletRuns s then s.setQlt { s.qlt with outInband := s.qlt.outInband.set x (s.qlt.outInband.get x).tail } else s

/-! ## Lead times (R237, R264, R282) -/

/-- CSFs that a time in picoseconds spans at a mode, rounded up (R90). -/
def csfsIn (mode ps : Nat) : Nat :=
  let num := ps * symbolRate mode * bitsPerSymbol mode * 14314671
  let den := 64 * 129 * 2 ^ 34 * 1000
  (num + den - 1) / den

/-- The least lead of an announced CSF: max(2 x RTT + 5 ms, `floor` CSFs). -/
def leastLead (s : State) (x : Carrier) (floor : Nat) : Nat :=
  max (csfsIn (lineMode s x) (2 * rttPs s x + 5000000000)) floor

/-- The announced CSF, between the least lead and 1 s ahead: a free value in that span (log entry 2). -/
def announcedCsf (s : State) (x : Carrier) (floor : Nat) : Nat :=
  let lo := leastLead s x floor
  let hi := csfsIn (lineMode s x) 1000000000000 - 1
  (txCsf s x + lo + s.free (hi - lo + 1)) % csfMod

end Sys2Proof.Machine
end

