-- ==== Sys2Proof/Machine/Keying.lean ====
section
/-! DEFINITION. Machine/Keying.lean: chapter 09, the Plinth's key schedule: epoch secrets and ratchets (R223, R224, R234,
R235), activations at both ends (R236-R238), and the ratchets of R262. -/
namespace Sys2Proof.Machine

open Sys2Proof (Byte Word Carrier PerCarrier Origin Page Instr Message)

/-! ## Chains (R223, R224) -/

/-- The epoch secret `n` ratchets on (R223), with no KS derived from it yet. -/
def chainTo : Nat → Chain → Chain
  | 0, ch => ch
  | n + 1, ch => chainTo n ⟨ch.epoch, ch.ratchet + 1, ratchetSecret ch.secret, []⟩

/-- An epoch's age has reached a number of seconds, on the Plinth's elapsed-time count (R231, R235). -/
def epochAged (s : State) (k : Carrier) (seconds : Nat) : Bool :=
  decide ((session s k).epochAt + seconds * 1000000000 ≤ s.elapsedNs)

/-- The carriers of a session that its ratchets cover: those whose transmit framer runs (R258). -/
def keyedCarriers (s : State) (k : Carrier) : List Carrier := (members s k).filter fun x => s.running (.lfm x)

/-- S(e,r), held or ratcheted forward from the newest one held of its epoch; none when it has been erased, past ratchet 63, or
where the epoch is 3,600 s old (R223, R224, R235). -/
def chainAt (s : State) (k : Carrier) (e r : Nat) : Option Chain :=
  let x := session s k
  if 63 < r || (e == x.epoch && epochAged s k 3600) then none
  else
    match x.chains.find? (fun ch => ch.epoch == e && ch.ratchet == r), x.chains with
    | some ch, _ => some ch
    | none, ch :: _ => if ch.epoch = e && decide (ch.ratchet < r) then some (chainTo (r - ch.ratchet) ch) else none
    | none, [] => none

/-- A carrier and direction needs no KS of a chain any more: one of it, or of a later one, has been derived. -/
def ksMade (newer : List Chain) (ch : Chain) (x : Carrier) (d : Nat) : Bool := (ch :: newer).any fun c => c.made.contains (x, d)

/-- Erase every S(e,r) that a later one has followed and of which no KS is needed any more (R224); `newer` are those kept so far. -/
def pruneChains (needs : List (Carrier × Nat)) : List Chain → List Chain → List Chain
  | newer, [] => newer.reverse
  | newer, ch :: l =>
    if !newer.isEmpty && needs.all fun n => ksMade newer ch n.1 n.2 then pruneChains needs newer l
    else pruneChains needs (ch :: newer) l

/-- The KS a ratchet of a session owes: both directions of every carrier it covers (R224, R262). -/
def neededKeys (s : State) (k : Carrier) : List (Carrier × Nat) := (keyedCarriers s k).flatMap fun x => [(x, 0), (x, 1)]

/-- Erase the epoch secrets that are needed no more (R224). -/
def dropOldChains (k : Carrier) (s : State) : State :=
  let x := session s k
  putSession s k { x with chains := pruneChains (neededKeys s k) [] x.chains }

/-- A KS of a carrier and direction has been derived from S(e,r): the secret is kept, the newest first, until it is needed no more
(R224). -/
def noteDerived (k x : Carrier) (d : Nat) (ch : Chain) (s : State) : State :=
  let ses := session s k
  let l := if ses.chains.any fun c => c.epoch == ch.epoch && c.ratchet == ch.ratchet then ses.chains else ch :: ses.chains
  let l := l.map fun c => if c.epoch = ch.epoch && c.ratchet = ch.ratchet then { c with made := (x, d) :: c.made } else c
  dropOldChains k (putSession s k { ses with chains := l })

/-! ## What holds up an activation (R262, R264, R267, R285) -/

/-- `STAT.RSTATE_x` (R264): 0 STEADY, 1 OFFERED, 2 COMMITTED, 3 ARMED, 4 RESTARTING, 5 CONFIRMING. -/
def rateState (s : State) (x : Carrier) : Nat := s.get .qlt (pick x QLT.STAT.RSTATE_A QLT.STAT.RSTATE_B)

/-- A step is offered, committed or armed on a carrier (R264). -/
def stepPending (s : State) (x : Carrier) : Bool := decide (1 ≤ rateState s x) && decide (rateState s x ≤ 3)

/-- The 1:1 working carrier of RPS (R281). -/
def workingCarrier (s : State) : Carrier := if s.flag .rps RPS.CTL.WORK then .b else .a

/-- A route switch is requested, committed or under way on the working carrier (R285). -/
def switchPending (s : State) (x : Carrier) : Bool :=
  s.get .rps RPS.CTL.MODE == 2 && x == workingCarrier s && decide (1 ≤ s.get .rps RPS.STAT.SSTATE)
    && decide (s.get .rps RPS.STAT.SSTATE ≤ 3)

/-- A step, route switch or sleep agreement holds up a REKEY on a carrier (R262, R264, R285). -/
def keyingHeld (s : State) (x : Carrier) : Bool :=
  stepPending s x || rateState s x == 4 || switchPending s x || s.qlt.sleepPlan.isSome || s.entering pwrSleep

/-- A path of the session is up. -/
def sessionUp (s : State) (k : Carrier) : Bool := (members s k).any fun x => pathState s x != pathNone

/-- An activation is pending on a carrier. -/
def activationPending (s : State) (x : Carrier) : Bool := s.flag (.cry x) CRY.TX_STAT.PENDING

/-! ## Announcing (R237 steps 1 and 2, R238) -/

/-- The last message of a type accepted from the peer. -/
def peerMessage (s : State) (k : Carrier) (type : Nat) : Option Message :=
  ((session s k).peer.find? fun e => e.1 == type).map (·.2)

/-- Its body, empty when there is none. -/
def peerBody (s : State) (k : Carrier) (type : Nat) : List Byte := ((peerMessage s k type).map (·.body)).getD []

/-- The smallest REKEY over the carriers of a session (R234). -/
def sessionRekey (s : State) (k : Carrier) : Nat :=
  (members s k).foldl (fun m x => min m (s.get (.cry x) CRY.POLICY.REKEY)) 1023

/-- The rekey interval that this end takes at a ratchet (R234): the smaller of its own POLICY value and the one the peer's CAPS
states. -/
def effectiveInterval (s : State) (k : Carrier) : Nat := min (sessionRekey s k) (beAt (peerBody s k tCaps) 3 2)

/-- A ratchet takes the POLICY in force (R234). -/
def takeInterval (k : Carrier) (s : State) : State := putSession s k { session s k with interval := effectiveInterval s k }

/-- A key for a slot, loaded now, with the life LIFE_MULT × I of R231. -/
def newSlot (s : State) (k x : Carrier) (ks : BitVec 288) (e n : Nat) : KeySlot where
  key := keyOf ks
  salt := saltOf ks
  epoch := e
  announced := n
  retained := false
  retainFrom := 0
  lastAccepted := none
  loadedAt := s.elapsedNs
  lifeNs := s.get (.cry x) CRY.POLICY.LIFE_MULT * (session s k).interval * 1000000000

/-- Announce slot `j` for CSF `n` (R237 step 2). -/
def sendRekey (k x : Carrier) (j n : Nat) (s : State) : State :=
  let slot := txSlot s x j
  let r := s.get (.cry x) (CRY.TX_SLOT.RATCHET.at j)
  let kcv := s.get (.cry x) (CRY.TX_SLOT.KCV.at j)
  let s := putTxSlot s x j { slot with announced := n }
  let s := s.setPair (.cry x) CRY.TX_ACT_LO.CSF CRY.TX_ACT_HI.CSF n
  let s := (s.set (.cry x) CRY.TX_STAT.PENDING_IDX j).set (.cry x) CRY.TX_STAT.PENDING 1
  let s := s.setQlt { s.qlt with rekeySeq := s.qlt.rekeySeq.set x (some (session s k).sendSeq) }
  send k tRekey ([BitVec.ofNat 8 x.idx, BitVec.ofNat 8 (ownRole s), BitVec.ofNat 8 j] ++ e32 slot.epoch
    ++ [BitVec.ofNat 8 r] ++ beBytes 5 n ++ beBytes 2 kcv) s

/-- The index of the next activation (R227). -/
def nextIndex (s : State) (x : Carrier) : Nat :=
  if (s.cipher.get x).fresh then 0 else (s.get (.cry x) CRY.TX_STAT.ACTIVE_IDX + 1) % 4

/-- Load the key of a chain into the next slot and announce it (R237 steps 1 and 2). -/
def startActivation (k x : Carrier) (ch : Chain) (n : Nat) (s : State) : State :=
  let j := nextIndex s x
  let ks := keyStream ch.secret x (ownRole s) ch.epoch ch.ratchet
  let s := loadTxSlot s x j (newSlot s k x ks ch.epoch n) ch.ratchet (ch.epoch % 256) (kcvOf (keyOf ks) (saltOf ks))
  let s := noteDerived k x (ownRole s) ch s
  sendRekey k x j n (s.setCipher x { s.cipher.get x with retryAfter := none, answer := none })

/-- Activations may start on carriers of a session now (R236, R262, R473, R557). -/
def announceFree (s : State) (k : Carrier) (xs : List Carrier) : Bool :=
  (session s k).state == sessKeyed && sessionUp s k && !s.flag .pln PLN.STAT.RK0_RECOVERY
    && s.firmware.online.isNone && xs.all fun x => !activationPending s x && !keyingHeld s x

/-- A ratchet may start now. -/
def ratchetFree (s : State) (k : Carrier) : Bool := announceFree s k (keyedCarriers s k)

/-- Both carriers announce the same N under carrier lock (R238). -/
def jointKeying (s : State) : Bool := lockEnabled s

/-- Announce the key of a chain on carriers; under lock with one N. -/
def announceAll (k : Carrier) (ch : Chain) (xs : List Carrier) (s : State) : State :=
  if jointKeying s then
    match xs with
    | [] => s
    | x :: _ =>
      let n := announcedCsf s x 1024
      xs.foldl (fun s x => startActivation k x ch n s) s.drawn
  else xs.foldl (fun s x => startActivation k x ch (announcedCsf s x 1024) s.drawn) s

/-- The next ratchet of the newest epoch: ratchet 0 first, then one more each time; none past ratchet 63 or 3,600 s (R235). -/
def nextChain (s : State) (k : Carrier) : Option Chain :=
  match (session s k).chains with
  | [] => none
  | ch :: _ => chainAt s k ch.epoch (if ch.made.isEmpty then ch.ratchet else ch.ratchet + 1)

/-- Send KEM_INIT for the next epoch (R235, R254, R259): the A-end alone, with no exchange under way. -/
def startExchange (k : Carrier) (s : State) : State :=
  let x := session s k
  if x.state = sessKeyed && ownRole s == 0 && x.kemSeed.isNone && canSign s then
    let seed := s.random
    let s := putSession s.randomDrawn k { x with kemSeed := some (seed, x.epoch + 1) }
    send k tKemInit (e32 (x.epoch + 1) ++ Config.kemPublic seed) s
  else s

/-- A due ratchet starts as soon as it may (R234, R262); the A-end starts a fresh exchange at ratchet 56 (R235). -/
def ratchetTry (k : Carrier) (s : State) : State :=
  let x := session s k
  if x.ratchetDue && ratchetFree s k then
    match nextChain s k with
    | none => s
    | some ch =>
      let s := takeInterval k (putSession s k { session s k with ratchetDue := false })
      let s := announceAll k ch (keyedCarriers s k) s
      if 56 ≤ ch.ratchet then startExchange k s else s
  else s

/-- A ratchet of a session falls due at the A-end (R234, R262). -/
def ratchetDue (k : Carrier) (s : State) : State :=
  if (session s k).state = sessKeyed && ownRole s == 0 then
    ratchetTry k (putSession s k { session s k with ratchetDue := true })
  else s

/-- A ratchet falls due for the session of carrier `x` (R262). -/
def ratchetFor (x : Carrier) (s : State) : State :=
  match ownerOf s x with
  | some k => ratchetDue k s
  | none => s

/-- The rekey interval has passed since the last activation in the A-end to B-end direction (R234). -/
def intervalOver (s : State) (k : Carrier) : Bool :=
  (keyedCarriers s k).all fun x => decide ((s.cipher.get x).activatedAt + (session s k).interval * 1000000000 ≤ s.elapsedNs)

/-- RATCHET_DUE: the interval of the session of carrier `x` has passed (R234). -/
def intervalRatchet (x : Carrier) (s : State) : State :=
  match ownerOf s x with
  | some k => if intervalOver s k then ratchetDue k s else s
  | none => s

/-- The carriers of a session whose B-end key waits to be announced now with carrier `x`'s: under carrier lock every one with a key of
the same ratchet (R238). -/
def answering (s : State) (k x : Carrier) : List Carrier :=
  (keyedCarriers s k).filter fun y =>
    (s.cipher.get y).answer == (s.cipher.get x).answer && (y == x || jointKeying s)

/-- The B-end announces the key of carrier `x` that waits, once no activation is pending (R234, R236, R238). -/
def answerTry (k x : Carrier) (s : State) : State :=
  match (s.cipher.get x).answer with
  | none => s
  | some (e, r) =>
    let xs := answering s k x
    if xs.contains x && announceFree s k xs then
      match chainAt s k e r with
      | some ch => announceAll k ch xs s
      | none => s.setCipher x { s.cipher.get x with answer := none }
    else s

/-- A waiting ratchet of the session of carrier `x`, and the keys its B-end has still to announce, are tried again. -/
def ratchetRetry (x : Carrier) (s : State) : State :=
  match ownerOf s x with
  | some k => answerTry k x.other (answerTry k x (ratchetTry k s))
  | none => s

/-! ## The transmitting end: confirmation, refusal, deadline (R237 step 4, R238) -/

/-- Announce a key that stays LOADED again, with a later N. -/
def retryActivation (k x : Carrier) (n : Nat) (s : State) : State :=
  let j := nextIndex s x
  let s := s.setCipher x { s.cipher.get x with retryAfter := none }
  if txSlotState s x j = slotLoaded && !activationPending s x then sendRekey k x j n s else s

/-- Retry a carrier's abandoned activation now; under carrier lock both with one N. -/
def retryJoint (x : Carrier) (s : State) : State :=
  match ownerOf s x with
  | some k =>
    if (session s k).state = sessKeyed && sessionUp s k then
      let n := announcedCsf s x 1024
      let s := retryActivation k x n s.drawn
      if jointKeying s && ownerOf s x.other == some k then retryActivation k x.other n s else s
    else s
  | none => s

/-- The framer forms CSF N - 16 without a committed activation: it is abandoned and retried at once. -/
def activationDeadline (x : Carrier) (s : State) : State :=
  if activationPending s x && !s.flag (.cry x) CRY.TX_STAT.COMMITTED && csfAtOrAfter (txCsf s x + 16) (activationCsf s x)
  then ratchetRetry x (retryJoint x (abandonActivation s x))
  else s

/-- A refusal of a REKEY arrives: the retry waits until the framer has formed the refused N. -/
def activationRefused (x : Carrier) (s : State) : State :=
  if activationPending s x then
    let n := activationCsf s x
    let s := abandonActivation s x
    let s := s.setCipher x { s.cipher.get x with retryAfter := some n }
    if jointKeying s then s.setCipher x.other { s.cipher.get x.other with retryAfter := some n } else s
  else s

/-- A retry after a refusal comes due once the framer forms the refused N. -/
def retryWaiting (x : Carrier) (s : State) : State :=
  match (s.cipher.get x).retryAfter with
  | some n => if csfAtOrAfter (txCsf s x) n && !activationPending s x then retryJoint x s else s
  | none => s

/-- What falls due in keying when the framer forms an LF: the deadline and a waiting retry. -/
def keyingAtFrame (x : Carrier) (s : State) : State := retryWaiting x (activationDeadline x s)

/-- Commit a confirmed activation; under carrier lock both or neither (R238). -/
def commitActivation (x : Carrier) (s : State) : State :=
  let s := s.setCipher x { s.cipher.get x with confirmed := true }
  if jointKeying s && activationPending s x.other then
    if (s.cipher.get x.other).confirmed then
      (s.set (.cry x) CRY.TX_STAT.COMMITTED 1).set (.cry x.other) CRY.TX_STAT.COMMITTED 1
    else s
  else s.set (.cry x) CRY.TX_STAT.COMMITTED 1

/-- KEY_CONFIRM with CONTEXT 1 (R237 step 4): it commits the pending activation it names before CSF N - 16 is formed. -/
def confirmActivation (x : Carrier) (dir j e r : Nat) (s : State) : State :=
  if activationPending s x && dir == ownRole s && s.get (.cry x) CRY.TX_STAT.PENDING_IDX == j
      && (txSlot s x j).epoch == e && s.get (.cry x) (CRY.TX_SLOT.RATCHET.at j) == r
      && !csfAtOrAfter (txCsf s x + 16) (activationCsf s x) then
    commitActivation x s
  else s

/-- The first LF of CSF N is sent: the activation takes effect and a waiting ratchet may start (R236, R237 step 5). -/
def activationEffect (x : Carrier) (s : State) : State := ratchetRetry x (takeActivation s x)

/-! ## The receiving end (R237 step 3) -/

/-- The B-end, having confirmed a key of the A-end on carrier `x`, owes its own key of the same ratchet (R234), on every carrier of
the session under carrier lock (R238), where it has not derived it yet; it announces it as soon as it may (R236). -/
def answerRatchet (k x : Carrier) (ch : Chain) (s : State) : State :=
  if ownRole s = 1 then
    let made := (session s k).chains.flatMap fun c => if c.epoch = ch.epoch && c.ratchet = ch.ratchet then c.made else []
    let xs := (keyedCarriers s k).filter fun y => (y == x || jointKeying s) && !made.contains (y, 1)
    let s := xs.foldl (fun s y => s.setCipher y { s.cipher.get y with answer := some (ch.epoch, ch.ratchet) }) s
    answerTry k x s
  else s

/-- KEY_CONFIRM for a loaded key. -/
def sendConfirm (k : Carrier) (c d j e r : Nat) (s : State) : State :=
  send k tKeyConfirm ([1, BitVec.ofNat 8 c, BitVec.ofNat 8 d, BitVec.ofNat 8 j] ++ e32 e ++ [BitVec.ofNat 8 r]) s

/-- A REKEY arrives in KEYED (R237 step 3, R264, R285). -/
def rekeyArrives (k x : Carrier) (seqNo d j e r n kcv : Nat) (s : State) : State :=
  if stepPending s x || switchPending s x || s.qlt.sleepPlan.isSome then refuse k tRekey seqNo busyReason s
  else
    let st := rxSlotState s x j
    if st = slotLoaded && (rxSlot s x j).epoch == e && s.get (.cry x) (CRY.RX_SLOT.RATCHET.at j) == r
        && s.get (.cry x) (CRY.RX_SLOT.KCV.at j) == kcv then
      sendConfirm k x.idx d j e r (putRxSlot s x j { rxSlot s x j with announced := n })
    else
    match chainAt s k e r with
    | none => refuse k tRekey seqNo badKcv s
    | some ch =>
      let ks := keyStream ch.secret x d e r
      if kcvOf (keyOf ks) (saltOf ks) ≠ kcv then refuse k tRekey seqNo badKcv s
      else if st = slotEmpty || st = slotExpired then
        let s := if ownRole s = 1 && ch.made.isEmpty then takeInterval k s else s
        let s := loadRxSlot s x j (newSlot s k x ks e n) r (e % 256) kcv
        answerRatchet k x ch (sendConfirm k x.idx d j e r (noteDerived k x d ch s))
      else refuse k tRekey seqNo slotBusy s

/-! ## Epochs (R235, R254) -/

/-- KQ(e, d) (R254). -/
def kqOf (secret : BitVec 512) (d e : Nat) : BitVec 256 :=
  digest (label "SQ3208-QMAC" ++ leBytes 64 secret.toNat ++ [BitVec.ofNat 8 d] ++ e32 e)

/-- An epoch secret is derived: its chain and its KQ are held, the newest first (R223, R254). -/
def installEpoch (k : Carrier) (ss th : BitVec 256) (e : Nat) (s : State) : State :=
  let x := session s k
  let sec := epochSecret ss (s.plinth.psk.getD 0) th e
  let key : MacKey := ⟨e, kqOf sec (ownRole s) e, kqOf sec (1 - ownRole s) e⟩
  putSession s k
    { x with
      th := th
      epoch := e
      chains := pruneChains (neededKeys s k) [] (⟨e, 0, sec, []⟩ :: x.chains)
      keys := key :: x.keys.take 1
      kqAging := false
      kemSeed := none
      epochAt := s.elapsedNs }

/-- The ratchet the newest epoch has reached; 0 while it has used no key. -/
def ratchetNow (s : State) (k : Carrier) : Nat :=
  match (session s k).chains with
  | ch :: _ => ch.ratchet
  | [] => 0

/-- A fresh exchange is due (R235): ratchet 56, or an epoch age of 3,300 s. -/
def exchangeDue (s : State) (k : Carrier) : Bool := decide (56 ≤ ratchetNow s k) || epochAged s k 3300

/-- The epoch is over (R235): ratchet 64 falls due, or its age is 3,600 s. -/
def epochOver (s : State) (k : Carrier) : Bool :=
  (ratchetNow s k == 63 && (session s k).ratchetDue) || epochAged s k 3600

/-- EPOCH_EXCHANGE_START: the exchange starts once it is due (R235). -/
def exchangeWhenDue (k : Carrier) (s : State) : State := if exchangeDue s k then startExchange k s else s

/-- Ratchet 64 or 3,600 s without a new epoch (R235): no further key of the epoch is derived; the exchange is retried. -/
def epochExhausted (k : Carrier) (s : State) : State :=
  let x := session s k
  if x.state = sessKeyed && epochOver s k then startExchange k (putSession s k { x with chains := [] }) else s

/-- 10 s after the first message accepted under epoch e + 1, KQ(e) is erased (R254). -/
def eraseOldKq (k : Carrier) (s : State) : State :=
  let x := session s k
  if x.kqAging && passed s (.oldKq k) (10 * secNs) then putSession s k { x with keys := x.keys.take 1, kqAging := false } else s

end Sys2Proof.Machine
end

