-- ==== Sys2Proof/Machine/Telemetry.lean ====
section
/-! DEFINITION. Machine/Telemetry.lean: the telemetry channels, their decimation, and the tap states of chapter 13
(R310-R317, R326, R327). -/
namespace Sys2Proof.Machine

open Sys2Proof (Word Carrier Page TelInputs TapSignature)

/-- Replace TEL's state. -/
def State.setTel (s : State) (x : Telemetry) : State := { s with tel := x }

/-- A decimator. -/
def telChannel (s : State) (n : Nat) : TelChannel := s.tel.channels.getD n (.clear 0 0 15 false)

/-- Replace a decimator. -/
def putTel (s : State) (n : Nat) (x : TelChannel) : State :=
  s.setTel { s.tel with channels := s.tel.channels.setIfInBounds n x }

/-- k of a channel (R311). -/
def telK (s : State) (n : Nat) : Nat := s.get .tel (TEL.CH_CFG.K.at n)

/-- Settle count S (R311). -/
def telSettle (k : Nat) : Nat := if k = 1 then 9 else if k = 2 then 14 else 15

/-! ## Sources (R310) -/

/-- A source at a tick: its value, whether its condition holds, and for a counting channel the counter itself. -/
structure TelSource where
  value : Int
  valid : Bool
  count : Nat
  deriving DecidableEq, Repr

/-- A source that is not a counter. -/
def plainSource (value : Int) (valid : Bool) : TelSource := ⟨value, valid, 0⟩

/-- A counting source: its increments in units of 2^-16 since a count of `before`; a counter that has been cleared since
counts from zero. -/
def countSource (now before : Nat) (valid : Bool) : TelSource :=
  ⟨((if before ≤ now then now - before else now) * 65536 : Nat), valid, now⟩

/-- FES state POWERED or above (R310). -/
def fesPoweredUp (s : State) (c : Carrier) : Bool := decide (fesPowered ≤ fesState s c) && decide (fesState s c ≤ fesLocked)

/-- Received power in units of 0.01 nW. -/
def monPower (s : State) (c : Carrier) (i : TelInputs) : Nat :=
  match c with
  | .a => i.monA * s.get .tel TEL.MON_SCALE_A.SCALE
  | .b => i.monB * s.get .tel TEL.MON_SCALE_B.SCALE

/-- RTT of a carrier's path against its reference, in ps (R310). -/
def rttSource (s : State) (c : Carrier) : TelSource :=
  let rtt := s.pair .qlt (pick c QLT.RTTA_LO.RTT QLT.RTTB_LO.RTT) (pick c QLT.RTTA_HI.RTT QLT.RTTB_HI.RTT)
  plainSource ((rtt : Int) - 1000 * s.get .tel (pick c TEL.RTT_REF_A.NS TEL.RTT_REF_B.NS))
    (s.flag .qlt (pick c QLT.RTTA_HI.VALID QLT.RTTB_HI.VALID))

/-- The occupancy of a carrier's receive ingress EBs in 1/256 symbol block, the largest of its four lanes (R310, R404); a symbol block is
307.2 samples. -/
def ingressFill (s : State) (c : Carrier) : Nat :=
  ((carrierLanes c).map fun n => ingressSamples s n * 256 * 10 / 3072).foldl max 0

/-- Source `i` of a carrier's 24 (R310). -/
def carrierSource (s : State) (c : Carrier) (i before : Nat) (env : TelInputs) : TelSource :=
  let track := acqState s c == acqTrack
  let locked := cprState s c == cprLocked
  let share := min (Config.channelShare (activeTaps s c)) 65536
  if i = 0 then plainSource (Config.milliDbm (monPower s c env * share / 65536)) track
  else if i = 1 then plainSource (Config.milliDbm (monPower s c env * (65536 - share) / 65536)) track
  else if i = 2 then plainSource (Config.milliDbm (monPower s c env)) (fesPoweredUp s c)
  else if i = 3 then plainSource (s.get (.eqz c) EQZ.SOP_RATE.RATE) track
  else if i = 4 then plainSource (s.get (.eqz c) EQZ.DGD_EST.DGD) track
  else if i = 5 then plainSource (s.getInt (.cdc c) CDC.CD_APPLIED.CD) (s.running (.cdc c))
  else if i = 6 then plainSource (s.getInt (.eqz c) EQZ.CD_RESID.CD) track
  else if i = 7 then plainSource (s.getInt (.cpr c) CPR.FO_EST.FO) locked
  else if i = 8 then plainSource (s.getInt (.trc c) TRC.FREQ_OFS.OFS) (s.flag (.trc c) TRC.STAT.LOCK)
  else if i = 9 then plainSource (min (s.get (.fec c) FEC.PRE_BER.BER) 0x7FFFFFFF) (fecLocked s c)
  else if i ≤ 17 then plainSource (s.get (.fec c) (FEC.ERRMAP.COUNT.at (i - 10))) (fecLocked s c)
  else if i = 18 then plainSource (s.get (.fec c) FEC.WIN_UNCORR.COUNT) (fecLocked s c)
  else if i = 19 then plainSource (s.getInt (.dmp c) DMP.SNR.X) locked
  else if i = 20 then plainSource (s.getInt (.dmp c) DMP.SNR.Y) locked
  else if i = 21 then rttSource s c
  else if i = 22 then countSource (s.get (.cpr c) CPR.SLIP_CNT.COUNT) before locked
  else countSource (s.get (.cry c) CRY.TAG_FAIL.COUNT) before (s.running (.cry c))

/-- The converter slot of channel 56 + i (R327). -/
def slotSource (s : State) (i : Nat) : TelSource :=
  let r := s.get .tel TEL.HK_ROUTE.ROUTE / 2 ^ (8 * i) % 256
  let p : Page := .hk (if testBit r 7 then 1 else 0)
  plainSource (min (s.get p (HK.RESULT.VALUE.at (r % 32))) 65535) (s.flag p (HK.SLOT.EN.at (r % 32)))

/-- The source of channel `n` (R310). -/
def telSource (s : State) (n before : Nat) (env : TelInputs) : TelSource :=
  if n < 24 then carrierSource s .a n before env
  else if n < 48 then carrierSource s .b (n - 24) before env
  else if n = 48 then plainSource (s.getInt (.hk 0) HK.TEMP.TEMP) true
  else if n = 49 then plainSource (s.getInt (.hk 1) HK.TEMP.TEMP) true
  else if n = 50 then plainSource (9000 + 50 * s.vddRequested : Nat) true
  else if n = 51 then plainSource (ingressFill s .a) (samplesArrive s .a)
  else if n = 52 then plainSource (ingressFill s .b) (samplesArrive s .b)
  else if n = 53 then countSource (s.get (.cdc .a) CDC.SLIP_CNT.COUNT) before (s.running (.cdc .a))
  else if n = 54 then countSource (s.get (.cdc .b) CDC.SLIP_CNT.COUNT) before (s.running (.cdc .b))
  else if n = 55 then plainSource (env.pps.getD 0) env.pps.isSome
  else if n < 60 then slotSource s (n - 56)
  else plainSource (s.getInt .tel (TEL.SW_IN.VALUE.at (n - 60))) true

/-! ## Decimation (R311, R313) -/

/-- An exact right shift by `n` bits with ties to the even value (R311). -/
def convergent (i : Int) (n : Nat) : Int :=
  let d : Int := 2 ^ n
  let q := i / d
  let r := i % d
  if 2 * r < d then q else if d < 2 * r then q + 1 else if q % 2 = 0 then q else q + 1

/-- Running sums of the integrators. -/
def integrate (v : Int) : List Int → List Int
  | [] => []
  | i :: is => (i + v) :: integrate (i + v) is

/-- Differences of the combs; answers the delays and the output. -/
def combs (v : Int) : List Int → List Int × Int
  | [] => ([], v)
  | d :: ds =>
    let y := combs (v - d) ds
    (v :: y.1, y.2)

/-- A half-band stage over its samples, newest first (R311): its gain for a constant is exactly 1; otherwise its value is
the one its taps give, which the spec bounds and does not state. -/
def halfBand (xs : List Int) : Int :=
  match xs with
  | [] => 0
  | x :: _ => if xs.all (fun y => y == x) then x else Config.halfBandTaps xs

/-- Push a sample into a half-band stage. -/
def pushSample (v : Int) (xs : List Int) : List Int := (v :: xs).take 19

/-- Feed one tick, at the instant `now`, to a decimator with exponent `k`, as tick number `t` after the reset (R311). -/
def feedChannel (k t now : Nat) (v : Int) (x : TelChannel) : TelChannel :=
  let r := k - 2
  let cic := decide (3 ≤ k)
  let x := if cic then { x with integ := integrate v x.integ } else x
  let stride := if cic then 2 ^ r else 1
  if t % stride ≠ 0 then x
  else
    let y := if cic then combs (x.integ.getLastD 0) x.comb else (x.comb, v)
    let v := if cic then convergent y.2 (4 * r) else v
    let x := { x with comb := y.1, first := pushSample v x.first }
    if t % (2 * stride) ≠ 0 then x
    else
      let v := halfBand x.first
      if k = 1 then { x with due := some (t / 2, v, now) }
      else
        let x := { x with second := pushSample v x.second }
        if t % (4 * stride) ≠ 0 then x else { x with due := some (t / (4 * stride), halfBand x.second, now) }

/-- Clamp to the 32-bit range (R311). -/
def clampWord (v : Int) : Int := satSigned 32 v

/-! ## Tap states and RK6's watch (R314, R315) -/

/-- Tap states (R315). -/
def tapDisarmed : Nat := 0
def tapLearning : Nat := 1
def tapArmed : Nat := 2
def tapAlarm : Nat := 3

/-- Fields of a carrier. -/
def tapStateF (c : Carrier) : Field := pick c TEL.TAP_STAT.STATE_A TEL.TAP_STAT.STATE_B
def tapRulesF (c : Carrier) : Field := pick c TEL.TAP_STAT.RULES_A TEL.TAP_STAT.RULES_B
def tapArmF (c : Carrier) : Field := pick c TEL.TAP_CTL.ARM_A TEL.TAP_CTL.ARM_B
def tapLearnF (c : Carrier) : Field := pick c TEL.TAP_CTL.LEARN_A TEL.TAP_CTL.LEARN_B
def tapAckF (c : Carrier) : Field := pick c TEL.TAP_CTL.ACK_A TEL.TAP_CTL.ACK_B
def tapEvent (c : Carrier) : Nat := TEL.EVT.TAP_ALARM_A + c.idx

/-- `TAP_STAT.STATE_x`. -/
def tapState (s : State) (c : Carrier) : Nat := s.get .tel (tapStateF c)

/-- The route whose signature serves a carrier. -/
def tapRoute (s : State) (c : Carrier) : Nat :=
  if s.get .rps RPS.CTL.MODE = 2 ∧ c = workingCarrier s then s.get .rps RPS.STAT.ROUTE_NOW else 0

/-- The signature of a carrier and route. -/
def tapSignature (s : State) (c : Carrier) (route : Nat) : Option TapSignature :=
  s.tel.signatures.getD (2 * c.idx + route) none

/-- ABS_SUSP_x (R314): no signature exists for the route in use. -/
def absSuspended (s : State) (c : Carrier) : Bool := (tapSignature s c (tapRoute s c)).isNone

/-- RULES_RUN (R317). -/
def rulesRun (s : State) : Bool := s.running (.rk 6)

/-- The watch of a carrier. -/
def tapWatch (s : State) (c : Carrier) : TapWatch := s.tel.taps.get c
def putTap (s : State) (c : Carrier) (x : TapWatch) : State := s.setTel { s.tel with taps := s.tel.taps.set c x }

/-- Every history of a carrier restarts (R315, R317). -/
def tapRestart (c : Carrier) (s : State) : State :=
  putTap s c { tapWatch s c with history := List.replicate 24 [], fired := 0 }

/-- Outputs the rules look back on, by channel c + i (R314). -/
def tapDepth (i : Nat) : Nat :=
  if i ≤ 1 then 72 else if i = 3 then 255 else if 9 ≤ i ∧ i ≤ 17 then 8 else if i = 21 then 36 else 0

/-- Channels c + i that a signature holds something of (R315). -/
def tapChannels : List Nat := [0, 1, 3, 9, 10, 11, 12, 13, 14, 15, 16, 17, 21]

/-- The history of channel c + i. -/
def tapHistory (x : TapWatch) (i : Nat) : List Int := x.history.getD i []

/-- Sum of numbers. -/
def sumInt (l : List Int) : Int := l.foldl (· + ·) 0

/-- Rule SOP: the latest DUR outputs exceed THR. -/
def sopFires (s : State) (x : TapWatch) : Bool :=
  let h := (tapHistory x 3).take (s.get .tel TEL.SOP_CFG.DUR)
  h.length == s.get .tel TEL.SOP_CFG.DUR && h.all fun v => decide ((s.get .tel TEL.SOP_CFG.THR : Int) < v)

/-- Rule POWER on channel c + i, in 0.001 dB: the latest 8 outputs against the 64 before them, and against the signature. -/
def powerFires (s : State) (sig : Option TapSignature) (x : TapWatch) (i : Nat) : Bool :=
  let h := tapHistory x i
  let new := sumInt (h.take 8)
  let off := match sig with
    | some g => decide (80 * s.get .tel TEL.PWR_CFG.ABS ≤ (new - 8 * g.means.getD i 0).natAbs)
    | none => false
  h.length == 72 && (decide (640 * s.get .tel TEL.PWR_CFG.STEP ≤ (8 * new - sumInt (h.drop 8)).natAbs) || off)

/-- Rule LENGTH: the latest 4 outputs against the 32 before them. -/
def lengthFires (s : State) (x : TapWatch) : Bool :=
  let h := tapHistory x 21
  h.length == 36 && decide (32 * s.get .tel TEL.LEN_CFG.STEP ≤ (8 * sumInt (h.take 4) - sumInt (h.drop 4)).natAbs)

/-- ERRMAP labels of a carrier's format. -/
def tapLabels (s : State) (c : Carrier) : List Nat := List.range (if bitsPerSymbol (lineMode s c) = 4 then 4 else 8)

/-- Rule PATTERN: a label's share of the latest 8 ERRMAPs, in 0.01 %, or their mean PRE_BER, against the signature. -/
def patternFires (s : State) (c : Carrier) (sig : TapSignature) (x : TapWatch) : Bool :=
  let label (l : Nat) : Int := sumInt (tapHistory x (10 + l))
  let total := sumInt ((tapLabels s c).map label)
  let full := (9 :: (tapLabels s c).map (10 + ·)).all fun i => (tapHistory x i).length == 8
  let share := decide (0 < total) && (tapLabels s c).any fun l =>
    decide (s.get .tel TEL.PAT_CFG.SHARE * total.natAbs ≤ (10000 * label l - sig.shares.getD l 0 * total).natAbs)
  full && (share || decide ((s.get .tel TEL.PAT_CFG.BER_RATIO : Int) * sig.means.getD 2 0 ≤ 2 * sumInt (tapHistory x 9)))

/-- Rules that hold after an output of channel c + i, one bit each (R314). -/
def tapFires (s : State) (c : Carrier) (i : Nat) (x : TapWatch) : Nat :=
  let sig := tapSignature s c (tapRoute s c)
  if i = 3 then bit (sopFires s x)
  else if i ≤ 1 then 2 * bit (powerFires s sig x i)
  else if i = 21 then 4 * bit (lengthFires s x)
  else match sig with
    | some g => if 9 ≤ i ∧ i ≤ 17 then 8 * bit (patternFires s c g x) else 0
    | none => 0

/-- RK6 takes an output of channel c + i of a carrier: an INVALID one restarts the history; a valid one enters it, counts for a
learn, and the rules of its channel are evaluated (R314, R315, R317). -/
def tapTake (c : Carrier) (i : Nat) (v : Int) (invalid : Bool) (s : State) : State :=
  if !rulesRun s then s
  else
    let x := tapWatch s c
    if invalid then putTap s c { x with history := x.history.set i [] }
    else
      let x := { x with history := x.history.set i ((v :: tapHistory x i).take (tapDepth i)) }
      let x := if tapState s c = tapLearning then
          { x with
            counts := x.counts.set i (x.counts.getD i 0 + 1)
            sums := x.sums.set i (x.sums.getD i 0 + v)
            sop := if i = 3 then sparseWrite (fun _ => 0) x.sop v.toNat (sparseRead (fun _ => 0) x.sop v.toNat + 1) else x.sop }
        else x
      putTap s c { x with fired := x.fired ||| tapFires s c i x }

/-- RK6 takes the output of a channel; channels 48 to 63 belong to no carrier. -/
def tapOutput (n : Nat) (v : Int) (invalid : Bool) (s : State) : State :=
  if n < 24 then tapTake .a n v invalid s else if n < 48 then tapTake .b (n - 24) v invalid s else s

/-- TEL_OUTPUT: channel `n` yields the output that is due: OUTn, FLAGn, OVR and the Cast record (R311, R313, R318). -/
def telOutput (n : Nat) (s : State) : State :=
  let x := telChannel s n
  match x.due with
  | none => s
  | some (m, v, at_) =>
    let ovr := decide (clampWord v ≠ v)
    let invalid := decide (0 < x.invalid)
    let s := putTel s n { x with due := none, invalid := x.invalid - 1 }
    let s := s.setInt .tel (TEL.OUT.VALUE.at n) (clampWord v)
    let s := (s.set .tel (TEL.FLAG.M.at n) m).setFlag .tel (TEL.FLAG.OVR.at n) ovr
    let s := (s.setFlag .tel (TEL.FLAG.INVALID.at n) invalid).raiseIf ovr .tel TEL.EVT.OVR
    let s := tapOutput n (clampWord v) invalid s
    if s.flag .tel (TEL.CH_CFG.CAST.at n) then
      castRecord n (bit invalid + 2 * bit ovr + 4 * bit (m == 1)) m (clampWord v) at_
        (s.pair .tel TEL.SYNC_LO.NS TEL.SYNC_HI.NS) s
    else s

/-- One channel's part of a tick: the source is taken, an invalid tick enters as the last valid value, a channel enabled
since the last tick restarts its chain (R310, R313). -/
def tickChannel (n : Nat) (env : TelInputs) (s : State) : State :=
  let x := telChannel s n
  let k := telK s n
  let on := s.flag .tel (TEL.CH_CFG.EN.at n)
  let src := telSource s n x.count env
  let v := if src.valid then clampWord src.value else x.last
  let x := if on && !x.on then { TelChannel.clear x.last x.count (telSettle k) true with due := none } else x
  let x := { x with last := v, count := src.count, on := on,
                    invalid := if src.valid then x.invalid else telSettle k }
  let s := s.setFlag .tel (TEL.FLAG.SRC_INV.at n) (!src.valid)
  putTel s n (if on then feedChannel k s.tel.ticks s.nowNs v x else { x with due := none })

/-- The reset tick (R312): every filter state and output counter is cleared. -/
def telReset (s : State) : State :=
  let clear (n : Nat) : TelChannel :=
    let x := telChannel s n
    .clear x.last x.count (telSettle (telK s n)) (s.flag .tel (TEL.CH_CFG.EN.at n))
  let s := s.setTel { s.tel with channels := .ofFn fun n => clear n.val, ticks := 0, resetDue := false }
  let s := (s.setPair .tel TEL.SYNC_LO.NS TEL.SYNC_HI.NS s.nowNs).bump .tel TEL.SYNC_CNT.COUNT
  ((List.range 64).foldl (fun s n => (s.set .tel (TEL.FLAG.M.at n) 0).set .tel (TEL.FLAG.INVALID.at n) 1) s).raise .tel
    TEL.EVT.SYNC

/-- An input tick falls now: the time base is at a multiple of 1,024 ns at which no tick has been taken (R310). -/
def telTickDue (s : State) : Bool := s.running .tel && s.nowNs % 1024 == 0 && s.tel.tickNs != some s.nowNs

/-- TEL_TICK (R310): outputs still due are shown first, then every channel takes its source; a reset due falls on this
tick. -/
def telTick (env : TelInputs) (s : State) : State :=
  if !telTickDue s then s
  else
    let s := s.setTel { s.tel with tickNs := some s.nowNs }
    let s := (List.range 64).foldl (fun s n => telOutput n s) s
    if s.tel.resetDue then telReset s
    else
      let s := s.setTel { s.tel with ticks := s.tel.ticks + 1 }
      (List.range 64).foldl (fun s n => tickChannel n env s) s

/-- TEL_SYNC: what makes a reset fall on the next tick: a SYNC edge while PIN_EN is 1 (R312). -/
def telSyncPin (s : State) : State :=
  if s.running .tel && s.flag .tel TEL.CTL.PIN_EN then s.setTel { s.tel with resetDue := true } else s

/-- A reset of the decimators on the next tick (R312): a SYNC write, a start, or an exit from Sleep or Deep sleep. -/
def telResetNext (s : State) : State := s.setTel { s.tel with resetDue := true }

/-! ## What is written to the tap registers (R315, R316) -/

/-- `TAP_STAT` as it reads. -/
def tapStatWord (s : State) : Nat :=
  s.get .tel TEL.TAP_STAT.RULES_B * 2 ^ 24 + s.get .tel TEL.TAP_STAT.RULES_A * 2 ^ 16 + bit (absSuspended s .b) * 2 ^ 11
    + bit (absSuspended s .a) * 2 ^ 10 + bit (rulesRun s) * 2 ^ 8 + tapState s .b * 16 + tapState s .a

/-- A LEARN or ARM that R315 refuses with MODE_CONFLICT. -/
def tapConflict (s : State) (new : Word) : Bool :=
  let bad (c : Carrier) : Bool :=
    (extract new (tapLearnF c).lo 1 == 1 && fesState s c != fesLocked)
      || (extract new (tapArmF c).lo 1 == 1 && !s.flag .tel (tapArmF c) && (tapSignature s c 0).isNone
        && (tapSignature s c 1).isNone)
  bad .a || bad .b

/-- What a write of TAP_CTL does to one carrier (R315). -/
def tapWritten (c : Carrier) (new : Word) (s : State) : State :=
  let strobe (f : Field) : Bool := extract new f.lo 1 == 1
  if strobe (tapAckF c) && tapState s c == tapAlarm then tapRestart c ((s.set .tel (tapStateF c) tapArmed).set .tel (tapRulesF c) 0)
  else if strobe (tapLearnF c) && tapState s c == tapDisarmed then putTap (s.set .tel (tapStateF c) tapLearning) c .clear
  else if strobe (tapArmF c) then (if tapState s c = tapDisarmed then s.set .tel (tapStateF c) tapArmed else s)
  else if strobe (tapAckF c) || strobe (tapLearnF c) then s
  else (s.set .tel (tapStateF c) tapDisarmed).set .tel (tapRulesF c) 0

/-- LEARN_S seconds of valid outputs of every channel of a signature have been collected (R315). -/
def learnFull (s : State) (c : Carrier) : Bool :=
  tapChannels.all fun i =>
    decide (s.get .tel TEL.TAP_CTL.LEARN_S * secNs ≤ (tapWatch s c).counts.getD i 0 * 2 ^ telK s (24 * c.idx + i) * 1024)

/-- The 99.99th percentile of counted values, rising: the least value that 99.99 % do not exceed. -/
def percentile (all : Nat) : Nat → Sparse Nat → Nat
  | _, [] => 0
  | seen, e :: l => if 9999 * all ≤ 10000 * (seen + e.2) then e.1 else percentile all (seen + e.2) l

/-- The signature of what a learn has collected (R315). -/
def learned (x : TapWatch) : TapSignature :=
  let mean (i : Nat) : Int := x.sums.getD i 0 / (x.counts.getD i 0 : Int)
  let labels := (List.range 8).map fun l => (x.sums.getD (10 + l) 0).toNat
  ⟨[mean 0, mean 1, mean 9, mean 21], labels.map fun n => n * 10000 / sumNat labels, percentile (x.counts.getD 3 0) 0 x.sop⟩

/-- LEARN_DONE: LEARN_S seconds of valid outputs are collected and RK7 stores the signature (R315). -/
def learnDone (c : Carrier) (s : State) : State :=
  if tapState s c = tapLearning && learnFull s c && patinaRuns s then
    let sig := learned (tapWatch s c)
    let s := s.setTel { s.tel with signatures := s.tel.signatures.setIfInBounds (2 * c.idx + tapRoute s c) (some sig) }
    (s.set .tel (tapStateF c) tapArmed).raise .tel TEL.EVT.LEARN_DONE
  else s

/-- An accepted write of TAP_RAISE (R315, R316). -/
def tapRaised (c : Carrier) (rules : Nat) (s : State) : State :=
  let fresh := rules &&& (0x1F ^^^ s.get .tel (tapRulesF c))
  let st := tapState s c
  let s := if st = tapArmed then s.set .tel (tapStateF c) tapAlarm else s
  let s := if st = tapArmed ∨ st = tapAlarm then s.set .tel (tapRulesF c) (s.get .tel (tapRulesF c) ||| rules) else s
  if fresh = 0 then s
  else
    let s := s.setPair .tel (pick c TEL.ALARM_A_LO.NS TEL.ALARM_B_LO.NS) (pick c TEL.ALARM_A_HI.NS TEL.ALARM_B_HI.NS) s.nowNs
    let s := (s.bump .tel (pick c TEL.ALARM_CNT.A TEL.ALARM_CNT.B)).raise .tel (tapEvent c)
    castOccurs (1 + c.idx) s

/-! ## Page behaviour (R326, R327) -/

/-- TEL enters starting: counters clear. -/
def telStart (s : State) : State :=
  s.clearAll .tel [TEL.SYNC_CNT.COUNT, TEL.ALARM_CNT.A, TEL.ALARM_CNT.B]

/-- TEL enters running: the decimators reset on the next tick (R312). -/
def telRunning (s : State) : State := telResetNext s

/-- A read of OUTn latches FLAGn (R326). -/
def telOutRead (n : Nat) (s : State) : State :=
  let w := word s .tel (TEL.FLAG.M.at n).off
  let flags := (n, w) :: s.tel.flags.filter fun e => !(e.1 == n)
  s.setTel { s.tel with flags := flags }

/-- `FLAGn` as it reads: as latched by the last read of OUTn, with the settle count of the channel's k. -/
def telFlagWord (s : State) (n : Nat) : Word :=
  let w := match s.tel.flags.find? (fun e => e.1 == n) with
    | some e => e.2
    | none => word s .tel (TEL.FLAG.M.at n).off
  deposit w 8 8 (telSettle (telK s n))

/-- Writes TEL refuses with OUT_OF_RANGE (R327). -/
def telWriteBad (off : Nat) (new : Word) : Bool :=
  let low := extract new 0 16
  let high := extract new 16 16
  if off = TEL.MON_SCALE_A.SCALE.off || off = TEL.MON_SCALE_B.SCALE.off then low == 0
  else if off = TEL.TAP_CTL.LEARN_S.off then decide (extract new 16 8 < 10)
  else if off = TEL.SOP_CFG.THR.off then high == 0 || extract new 0 8 == 0
  else if off = TEL.PWR_CFG.ABS.off then high == 0 || low == 0
  else if off = TEL.LEN_CFG.STEP.off then low == 0
  else if off = TEL.PAT_CFG.SHARE.off then decide (high < 17) || low == 0
  else if 0x100 ≤ off ∧ off < 0x200 then extract new 0 5 == 0 || decide (24 < extract new 0 5)
  else false

/-- What an accepted write brings beside the stored word. -/
def telWritten (off : Nat) (new : Word) (s : State) : State :=
  if off = TEL.CTL.SYNC.off then
    if extract new 0 1 = 1 ∧ s.running .tel then telResetNext s else s
  else if off = TEL.TAP_CTL.LEARN_S.off then tapWritten .b new (tapWritten .a new s)
  else if off = TEL.TAP_RAISE.RULES.off then
    tapRaised (if extract new 8 1 = 1 then .b else .a) (extract new 0 5) s
  else s

end Sys2Proof.Machine
end

