-- ==== Sys2Proof/Machine/Archive.lean ====
section
/-! DEFINITION. Machine/Archive.lean: the Archive's media, Patina's decisions, the ring budget, and the commits of the keep
store (R432-R456, R499). -/
namespace Sys2Proof.Machine

open Sys2Proof (Byte Word Carrier PerCarrier Origin Page Instr)

/-- Change the Archive's state. -/
def State.setArchive (s : State) (x : Archive) : State := { s with archive := x }

/-! ## Blocks and regions (R437, R452) -/

/-- Region codes, in the order of R437; the spare pool last. -/
def regSuper : Nat := 0
def regFw0 : Nat := 1
def regFw1 : Nat := 2
def regJournal : Nat := 3
def regSecLog : Nat := 4
def regTapSig : Nat := 5
def regBistRec : Nat := 6
def regCastWin : Nat := 7
def regCastRing : Nat := 8
def regSpare : Nat := 9

/-- The erase blocks, the good ones, and the good ones of a region. -/
def arcBlocks (s : State) : List Nat := List.range s.archive.blockCount
def goodBlocks (s : State) : List Nat := (arcBlocks s).filter fun b => !wearBad (wearOf s b)
def regionBlocks (s : State) (r : Nat) : List Nat := (goodBlocks s).filter fun b => wearRegion (wearOf s b) == r

/-- Erase counts of blocks. -/
def erasesOf (s : State) (bs : List Nat) : List Nat := bs.map fun b => wearErases (wearOf s b)

/-- The least-erased and the most-erased block of a list. -/
def leastErased (s : State) (bs : List Nat) : Option Nat :=
  bs.foldl (fun m b => match m with
    | none => some b
    | some x => if wearErases (wearOf s b) < wearErases (wearOf s x) then some b else some x) none
def mostErases (s : State) (bs : List Nat) : Nat := (erasesOf s bs).foldl max 0

/-! ## Media state and life (R436, R443) -/

/-- The state the media conditions give once a superblock is valid (R436). -/
def mediaGrade (s : State) : Nat :=
  if s.get .arc ARC.TGT_FAIL.MASK ≠ 0 || decide (100 * (regionBlocks s regSpare).length < (goodBlocks s).length) then mediaDegraded
  else mediaReady

/-- Enter a media state; every change raises MEDIA_CHG. -/
def setMedia (m : Nat) (s : State) : State :=
  if s.get .arc ARC.STAT.MEDIA = m then s else (s.set .arc ARC.STAT.MEDIA m).raise .arc ARC.EVT.MEDIA_CHG

/-- READY and DEGRADED follow the targets and the spare pool. -/
def mediaFollow (s : State) : State := if mediaFormatted s then setMedia (mediaGrade s) s else s

/-- Nanoseconds of 30 days. -/
def thirtyDays : Nat := 2592000000000000

/-- LIFE_PROJ in days (R443). -/
def lifeProject (s : State) : State :=
  let s := s.setArchive { s.archive with erasedAt := s.archive.erasedAt.filter fun t => decide (s.elapsedNs ≤ t + thirtyDays) }
  let n := s.archive.erasedAt.length
  let days := if n = 0 then 0xFFFFFFFF
    else min 0xFFFFFFFF
      ((s.get .arc ARC.ENDURANCE.CYCLES - s.get .arc ARC.PE_AVG.CYCLES) * 30 * (goodBlocks s).length / n)
  let s := s.set .arc ARC.LIFE_PROJ.DAYS days
  if days < 365 then
    if s.archive.lifeArmed then (s.setArchive { s.archive with lifeArmed := false }).raise .arc ARC.EVT.LIFE_LOW else s
  else if 730 < days then s.setArchive { s.archive with lifeArmed := true }
  else s

/-- Show the wear table in the page, with what follows from it. -/
def arcShow (s : State) : State :=
  let good := goodBlocks s
  let s := s.set .arc ARC.PE_AVG.CYCLES (sumNat (erasesOf s good) / max 1 good.length)
  let s := s.set .arc ARC.PE_MAX.CYCLES (mostErases s (arcBlocks s))
  let s := s.set .arc ARC.SPARE_FREE.BLOCKS (regionBlocks s regSpare).length
  let s := s.set .arc ARC.BAD_FACTORY.BLOCKS ((arcBlocks s).filter fun b => wearFactory (wearOf s b)).length
  mediaFollow (lifeProject s)

/-! ## Erase and relocation (R440-R442) -/

/-- Erase a free block and give it to a region. -/
def takeBlock (b region : Nat) (s : State) : State :=
  let w := wearOf s b
  let s := putWear s b (wearWord (wearErases w + 1) region (wearFactory w) (wearGrown w) (wearRetired w))
  s.setArchive { s.archive with
    reads := sparseWrite (fun _ => 0) s.archive.reads b 0
    programmed := sparseWrite (fun _ => 0) s.archive.programmed b s.nowNs
    erasedAt := s.elapsedNs :: s.archive.erasedAt }

/-- A block's data has left it: it goes to the spare pool. -/
def freeBlock (b : Nat) (s : State) : State :=
  let w := wearOf s b
  let s := putWear s b (wearWord (wearErases w) regSpare (wearFactory w) (wearGrown w) (wearRetired w))
  s.setArchive { s.archive with
    reads := sparseWrite (fun _ => 0) s.archive.reads b 0
    programmed := sparseWrite (fun _ => 0) s.archive.programmed b 0 }

/-- Move a block's data onto block `f`. -/
def moveBlock (b f : Nat) (s : State) : State :=
  arcShow (freeBlock b (takeBlock f (wearRegion (wearOf s b)) s))

/-- Rewrite a block's data: onto the free block with the lowest erase count (R440), else in place. -/
def relocate (b : Nat) (s : State) : State :=
  match leastErased s (regionBlocks s regSpare) with
  | some f => moveBlock b f s
  | none => arcShow (takeBlock b (wearRegion (wearOf s b)) s)

/-- A block in use: within the media, good, and of a region. -/
def inUse (s : State) (b : Nat) : Bool :=
  decide (b < s.archive.blockCount) && !wearBad (wearOf s b) && wearRegion (wearOf s b) != regSpare

/-- Patina decides (R445): the media is formatted and RK7 runs. -/
def patinaDecides (s : State) : Bool := mediaFormatted s && patinaRuns s

/-- A block grows bad (R439): a replacement comes from the spare pool; an empty pool makes the media read-only. -/
def grownBad (b : Nat) (retired : Bool) (s : State) : State :=
  if patinaDecides s && inUse s b then
    let w := wearOf s b
    let s := putWear s b (wearWord (wearErases w) (wearRegion w) (wearFactory w) true retired)
    let s := match leastErased s (regionBlocks s regSpare) with
      | some f => takeBlock f (wearRegion w) s
      | none => s
    let s := (s.bump .arc ARC.BAD_GROWN.BLOCKS).raise .arc ARC.EVT.GROWN_BAD
    let s := if (regionBlocks s regSpare).isEmpty then s.set .arc ARC.STAT.READ_ONLY 1 else s
    arcShow s
  else s

/-- WEAR_LEVEL_MOVE (R440): the least-erased block of a persistent region moves onto a free, more-worn block. -/
def wearLevelMove (region onto : Nat) (s : State) : State :=
  let bs := regionBlocks s region
  match leastErased s bs with
  | some b =>
    if patinaDecides s && decide (region < regCastRing) && (regionBlocks s regSpare).contains onto
        && decide (wearErases (wearOf s b) < wearErases (wearOf s onto))
        && decide (max (s.get .arc ARC.ENDURANCE.CYCLES / 20) 16 < mostErases s bs - wearErases (wearOf s b)) then
      moveBlock b onto s
    else s
  | none => s

/-- FLASH_REFRESH (R441): the periodic read of a block, whose worst codeword needed `corrections`. -/
def flashRefresh (b corrections : Nat) (s : State) : State :=
  let age := s.nowNs - sparseRead (fun _ => 0) s.archive.programmed b
  let old := s.flag .tb TB.STAT.TB_VALID && decide (s.get .arc ARC.CTL.AGE_MAX * 864000000000000 < age)
  if patinaDecides s && s.flag .arc ARC.CTL.REFRESH_EN && inUse s b
      && (decide (s.get .arc ARC.CTL.REFRESH_THR < corrections) || old) then
    relocate b (s.bump .arc ARC.REFRESH_CNT.COUNT)
  else s

/-- READ_DISTURB_RELOCATE (R442). -/
def readDisturb (b : Nat) (s : State) : State :=
  if patinaDecides s && inUse s b
      && decide (s.get .arc ARC.CTL.DISTURB * 10000 ≤ sparseRead (fun _ => 0) s.archive.reads b) then
    let s := s.setArchive { s.archive with reads := sparseWrite (fun _ => 0) s.archive.reads b 0 }
    relocate b (s.bump .arc ARC.DISTURB_CNT.COUNT)
  else s

/-! ## Operations on the media (R434, R435) -/

/-- FLASH_OP_TIMEOUT: an operation of a target overruns; the target is reset and the operation retried once. -/
def flashTimeout (t : Fin 32) (retried : Bool) (s : State) : State :=
  if s.get .arc ARC.STAT.MEDIA = mediaAbsent || testBit (s.get .arc ARC.TGT_FAIL.MASK) t.val then s
  else
    let n := sparseRead (fun _ => 0) s.archive.timeouts t.val + 1
    let s := (s.bump .arc ARC.TIMEOUT_CNT.COUNT).raise .arc ARC.EVT.TIMEOUT
    let s := s.setArchive { s.archive with timeouts := sparseWrite (fun _ => 0) s.archive.timeouts t.val (if retried then 0 else n) }
    if n < 3 then s
    else
      let s := s.set .arc ARC.TGT_FAIL.MASK (setBit (s.get .arc ARC.TGT_FAIL.MASK) t.val)
      mediaFollow ((s.bump .arc ARC.STAT.TGT_FAILED).raise .arc ARC.EVT.TARGET_FAIL)

/-- FLASH_READ_DECODE: a codeword of block `b` on target `t` decodes after `levels` read-retry levels, or not at all; data on a
failed target does not (R435). -/
def flashRead (t : Fin 32) (b : Nat) (levels : Fin 9) (ok : Bool) (s : State) : State :=
  if s.get .arc ARC.STAT.MEDIA = mediaAbsent then s
  else
    let s := s.setArchive { s.archive with
      timeouts := sparseWrite (fun _ => 0) s.archive.timeouts t.val 0
      reads := sparseWrite (fun _ => 0) s.archive.reads b (sparseRead (fun _ => 0) s.archive.reads b + 1) }
    if ok && !testBit (s.get .arc ARC.TGT_FAIL.MASK) t.val then s.addSat .arc ARC.RETRY_CNT.COUNT levels.val
    else
      let s := s.addSat .arc ARC.RETRY_CNT.COUNT 8
      grownBad b true ((s.bump .arc ARC.UE_CNT.COUNT).raise .arc ARC.EVT.UE)

/-! ## Format (R436, R437) -/

/-- Blocks that hold `n` bytes. -/
def blocksFor (s : State) (n : Nat) : Nat := (n + s.archive.blockBytes - 1) / max 1 s.archive.blockBytes

/-- Region sizes in blocks for `good` blocks, in the order of R437, the spare pool last. -/
def regionSizes (s : State) (good : Nat) : List Nat :=
  let fixed := [2, blocksFor s (512 * 2 ^ 20), blocksFor s (512 * 2 ^ 20), blocksFor s (16 * 2 ^ 30),
    blocksFor s (4 * 2 ^ 30), blocksFor s (256 * 2 ^ 20), blocksFor s (256 * 2 ^ 20)]
  let spare := good * 3 / 100
  let rest := good - sumNat fixed - spare
  let win := rest * s.get .arc ARC.LAYOUT.WIN_SHARE / 16
  fixed ++ [win, rest - win, spare]

/-- Lay regions over good blocks: region `r` takes the next `n` of them. -/
def layRegions : Nat → List Nat → List Nat → State → State
  | _, [], _, s => s
  | r, n :: sizes, bs, s =>
    layRegions (r + 1) sizes (bs.drop n)
      ((bs.take n).foldl (fun s b => putWear s b (wearWord (wearErases (wearOf s b) + 1) r false false false)) s)

/-- The Plinth's write of FORMAT starts a format. -/
def formatStart (s : State) : State :=
  if s.get .arc ARC.STAT.MEDIA = mediaAbsent then s else s.set .arc ARC.STAT.FORMATTING 1

/-- BOOT payload: active slot, pending slot, state of each slot (0 empty, 1 COMPLETE, 2 failed), trial flag, attempts,
cause of the last start. -/
def bootRecord (s : State) : List Nat :=
  match keepNewest s areaBoot with
  | some k => k.payload
  | none => [0, 0, 0, 0, 0, 0, 0]

/-- FORMAT_DONE: every good block is erased, the layout built and both superblocks written. -/
def formatDone (s : State) : State :=
  if !s.flag .arc ARC.STAT.FORMATTING then s
  else
    let s := s.archive.factoryBad.foldl (fun s b =>
      let w := wearOf s b
      putWear s b (wearWord (wearErases w) (wearRegion w) true (wearGrown w) (wearRetired w))) s
    let good := goodBlocks s
    let s := layRegions 0 (regionSizes s good.length) good s
    let s := s.setArchive { s.archive with
      superblock := true
      reads := []
      programmed := []
      erasedAt := List.replicate good.length s.elapsedNs ++ s.archive.erasedAt
      fw := .replicate 2 ⟨false, [], 0⟩ }
    let s := { s with
      journal := { s.journal with archive := [], signatures := [] }
      cast := { s.cast with ringStored := [], stored := [] }
      plinth := { s.plinth with log := [], logSigs := [] }
      tel := { s.tel with signatures := .replicate 4 none }
      keep := { s.keep with formatCount := s.keep.formatCount + 1, mediaId := s.archive.media } }
    let s := keepCommit areaBoot ((bootRecord s).set 2 0 |>.set 3 0) s
    let s := (s.set .arc ARC.STAT.FORMATTING 0).set .arc ARC.STAT.READ_ONLY (bit (regionBlocks s regSpare).isEmpty)
    let s := setMedia (mediaGrade s) s
    (arcShow s).raise .arc ARC.EVT.FORMAT_DONE

/-! ## The ring budget (R444) -/

/-- `CAST.RING.RATE`: the full-rate record stream in kB/s, 8 bytes an output of every enabled recorded channel (R327). -/
def ringRate (s : State) : Nat :=
  let on := (List.range 64).filter fun n => s.get .tel (TEL.CH_CFG.EN.at n) == 1 && s.get .tel (TEL.CH_CFG.CAST.at n) == 1
  8000000 * sumNat (on.map fun n => 2 ^ (32 - telK s n)) / 2 ^ 42

/-- What an evaluation depends on beside its hour (R444). -/
def ringInputs (s : State) : List Nat :=
  [s.get .arc ARC.ENDURANCE.CYCLES, s.get .arc ARC.LIFE.TARGET, ringRate s, s.get .arc ARC.CAP.GB]

/-- B of R444 in bytes per second. -/
def ringBudget (s : State) : Nat :=
  let ring := regionBlocks s regCastRing
  let left := max (s.get .arc ARC.LIFE.TARGET * 31557600 - s.keep.inService) 2592000
  let cycles := s.get .arc ARC.ENDURANCE.CYCLES * ring.length - sumNat (erasesOf s ring)
  s.archive.blockBytes * cycles * 10 / (left * max 1 (s.get .arc ARC.LIFE.WAF))

/-- The smallest t with RATE / 2^t ≤ B, if one fits. -/
def ringThin (s : State) : Option Nat :=
  (List.range 16).find? fun t => decide (ringRate s * 1000 ≤ ringBudget s * 2 ^ t)

/-- The evaluation up to the write of THIN: WAF as measured, BUDGET, LIFE_PROJ, and LIFE_LOW when no t fits. -/
def ringEvaluate (waf : Option Nat) (s : State) : State :=
  let s := match waf with
    | some w => s.set .arc ARC.LIFE.WAF w
    | none => s
  let s := lifeProject (s.set .arc ARC.BUDGET.KBPS (ringBudget s / 1000))
  if (ringThin s).isNone then s.raise .arc ARC.EVT.LIFE_LOW else s

/-! ## Commits of the keep store (R449-R451, R499) -/

/-- The calibration set is committed now (R499). -/
def calCommit (s : State) : State :=
  let b := calSetBytes (calSnapshot s)
  let s := { s with cal := { s.cal with committedAt := some s.elapsedNs, due := false } }
  let s := keepCommit areaCal (b.map BitVec.toNat) s
  let s := { s with plinth := { s.plinth with calDigest := Config.shake256 256 b } }
  let s := (s.bump .cal CAL.STORE_CNT.COUNT).raise .cal CAL.EVT.STORED
  s.set .cal CAL.REC_SEQ.SEQ (match keepNewest s areaCal with | some k => k.seq | none => 0)

/-- CAL_STORE: a commit that falls due within 10 s of the last waits for that mark (R499). -/
def calStore (s : State) : State :=
  if calTooSoon s then { s with cal := { s.cal with due := true } } else calCommit s

/-- What an area records now. -/
def areaPayload (s : State) (a : Fin 6) : List Nat :=
  if a.val = areaBoot then bootRecord s
  else if a.val = areaJournal then
    match s.journal.archive.getLast? with
    | some e => [e.headAfter.toNat, e.seqNo]
    | none => match keepNewest s areaJournal with
      | some k => k.payload
      | none => [s.journal.head.toNat, 0]
  else if a.val = areaCast then
    match keepNewest s areaCast with
    | some k => k.payload
    | none => [castHead s, s.get .cast CAST.WIN_NO.W]
  else if a.val = areaBist then
    match keepNewest s areaBist with
    | some k => k.payload
    | none => []
  else if a.val = areaRemap then remapPayload s
  else (calSetBytes (calSnapshot s)).map BitVec.toNat

/-- MRAM_COMMIT: the three writes of R450, of which `done` happen before power fails; fewer than three leave the slot
invalid and the other as it was. -/
def mramCommit (a : Fin 6) (done : Fin 4) (s : State) : State :=
  if done.val = 3 then keepCommit a.val (areaPayload s a) s
  else if done.val = 0 then s
  else
    let x := keepArea s a.val
    let torn : KeepSlot := ⟨false, 0, []⟩
    let y := if x.1.valid && !newestIsOne x then (x.1, torn) else (torn, x.2)
    keepShow a.val { s with keep := { s.keep with areas := s.keep.areas.set a y } }

/-! ## The page (R454) -/

/-- OUT_OF_RANGE of ARC. -/
def arcWriteBad (off : Nat) (new : Word) : Bool :=
  if off = 0x040 then
    extract new 24 8 == 0 || decide (72 < extract new 24 8) || extract new 16 8 == 0 || extract new 8 8 == 0
  else if off = 0x044 then decide (new.toNat < 3000) || decide (100000000 < new.toNat)
  else if off = 0x048 then extract new 0 8 == 0 || decide (30 < extract new 0 8)
  else if off = 0x04C then extract new 0 4 == 0 || decide (12 < extract new 0 4)
  else false

/-- What an accepted write to ARC does: FORMAT starts a format and reads 0. -/
def arcWritten (off : Nat) (new : Word) (s : State) : State :=
  if off = 0x04C && testBit new.toNat 4 then formatStart (s.set .arc ARC.LAYOUT.FORMAT 0) else s

end Sys2Proof.Machine
end

