-- ==== Sys2Proof/Machine/Journal.lean ====
section
/-! DEFINITION. Machine/Journal.lean: the stores of the configuration journal and its signatures (R60-R67). -/
namespace Sys2Proof.Machine

open Sys2Proof (Byte Word)

/-- Entries at which the device spills (R63). -/
def journalSpillLevel : Nat := 4096

/-- JOURNAL_SPILL: the device spills `n` entries while the on-die buffer holds 4,096 or more (R63, R64). -/
def journalSpill (n : Nat) (s : State) : State :=
  if journalSpillLevel ≤ s.journal.buffer.length && s.flag .lpm LPM.STAT.READY then
    spillJournal s (min n s.journal.buffer.length)
  else s

/-- JOURNAL_SPACE_RETURN: more than the reserve is free again; the refusals not journalled are accounted for (R65). -/
def journalSpaceReturn (s : State) : State :=
  if onlyReserve s || !s.journal.inReserve then s
  else
    let n := s.journal.unlogged
    let s := { s with journal := { s.journal with inReserve := false, unlogged := 0 } }
    if n = 0 then s else appendMarker s .gap n 0

/-- Entries of the ring that are not persisted, oldest first. -/
def unpersisted (s : State) : List JournalEntry :=
  s.journal.ring.filter fun e => match s.journal.persisted with
    | none => true
    | some k => decide (k < e.seqNo)

/-- Persist entries to the Archive, and the head and SEQ_NO of the last of them to the keep store (R63). -/
def persistEntries (es : List JournalEntry) (s : State) : State :=
  match es.getLast? with
  | none => s
  | some e =>
    let s := { s with journal := { s.journal with archive := s.journal.archive ++ es, persisted := some e.seqNo } }
    let s := s.setPair .cj CJ.PERSIST_LO.SEQ_NO CJ.PERSIST_HI.SEQ_NO e.seqNo
    keepCommit areaJournal [e.headAfter.toNat, e.seqNo] s

/-- JOURNAL_PERSIST_BATCH: RK7 persists up to `n` ring entries in order, at most 65,536 and at most once per second (R63,
R448). -/
def journalPersist (n : Nat) (s : State) : State :=
  if (unpersisted s).isEmpty || !spaced s .persisted secNs then s
  else if archiveTakes s then startTimer .persisted (persistEntries ((unpersisted s).take (min n 65536)) s)
  else archiveRefuse s

/-- An accepted write of SIGN_NOW (R62): the head of the newest entry, the write itself, is to be signed; one that arrives
while a signature is being made is merged with it. -/
def signNow (s : State) : State :=
  match s.journal.signing with
  | some _ => s
  | none => requestSignature s (s.nextSeq - 1) s.nowNs

/-- JOURNAL_SIGNATURE_DONE: the signature is stored in the Archive, then the SIGN marker is appended (R62); the next head
that is due is signed after it. -/
def signatureDone (s : State) : State :=
  match s.journal.signing with
  | none => s
  | some (h, seqNo, t) =>
    if !canSign s then s
    else if !archiveTakes s then archiveRefuse s
    else
      let sig := Config.sign (bytes32 h ++ leBytes 8 seqNo ++ leBytes 8 t)
      let s := { s with journal := { s.journal with
        signing := s.journal.signDue.head?
        signDue := s.journal.signDue.drop 1
        signatures := (seqNo, sig) :: s.journal.signatures } }
      let s := s.setPair .cj CJ.SIGNED_LO.SEQ_NO CJ.SIGNED_HI.SEQ_NO seqNo
      (appendMarker s .sign (seqNo % 2 ^ 32) (seqNo / 2 ^ 32)).raise .cj CJ.EVT.SIGNED

/-- H(0) (R61). -/
def journalHeadZero : BitVec 256 := digest (label "SQ3208-CJ" ++ bytes32 Config.deviceId)

end Sys2Proof.Machine
end

