-- ==== Sys2Proof/Machine/LiveFields.lean ====
section
/-! DEFINITION. Machine/LiveFields.lean: the bits a write carries by access class, and the live fields that wait for their
page's application boundary (R44, R53, R55, R58). -/
namespace Sys2Proof.Machine

open Sys2Proof (Word Carrier PerCarrier Origin Page)

/-! ## The bits of a write by access class (R44) -/

/-- Put a value into the bits of a field. -/
def overlay (w : Word) (f : Field) (v : Nat) : Word := deposit w f.lo f.width v

/-- The fields of a class in the word at an offset. -/
def fieldsOf (p : Page) (off : Nat) (acc : Access) : List Field := (fieldsAt p off).filter fun f => f.acc == acc

/-- The bits of a list of fields taken from another word. -/
def takeFields (fs : List Field) (old v : Word) : Word := fs.foldl (fun w f => overlay w f (extract v f.lo f.width)) old

/-- A register word with the live fields as last accepted (R44). -/
def acceptedOver (s : State) (p : Page) (off : Nat) (w : Word) : Word :=
  match stagedWord s (pageBase p + off) with
  | some v => takeFields (fieldsOf p off .rwL) w v
  | none => w

/-- The stored word of a register, its live fields as last accepted. -/
def acceptedWord (s : State) (p : Page) (off : Nat) : Word := acceptedOver s p off (word s p off)

/-- The strobe bits a write of `v` carries: bits of EVT_SET that stand for no event are reserved (R68). -/
def strobes (p : Page) (off : Nat) (v : Word) : Word :=
  let w := takeFields (fieldsOf p off .wo) 0 v
  if off = HDR.EVT_SET.SET.off then BitVec.ofNat 32 (w.toNat % 2 ^ evtSrc p) else w

/-- A word without its strobe bits, which are never stored. -/
def plainWord (p : Page) (off : Nat) (w : Word) : Word := (fieldsOf p off .wo).foldl (fun w f => overlay w f 0) w

/-- A field of one of the classes changes. -/
def fieldsChange (fs : List Field) (old new : Word) : Bool :=
  fs.any fun f => extract old f.lo f.width != extract new f.lo f.width

/-! ## Application boundaries -/

/-- Pages whose live fields wait for a unit of work (R55): a symbol block, an LF, an oFEC block, a 257b block, a conversion, a
step, an output.  On every other page the completion of the write is the boundary. -/
def hasBoundary : Page → Bool
  | .txp _ | .cdc _ | .eqz _ | .trc _ | .cpr _ | .mls _ | .dmp _ | .lrx _ | .ltx _ => true
  | .lfm _ | .cry _ | .fec _ | .cpc _ | .clx _ | .hk _ | .aux | .tel => true
  | _ => false

/-- Registers of those pages that do not wait (log entry 14): the index registers and data ports of R121, R134 and R163, whose
accesses act one by one, and the registers of TEL that belong to no channel. -/
def accessPort (p : Page) (off : Nat) : Bool :=
  match p with
  | .eqz _ => off == EQZ.COEF_IDX.TAP.off || off == EQZ.COEF_DATA.RE.off
  | .ltx _ => off == LTX.PRAM_IDX.INDEX.off || off == LTX.PRAM_DATA.SAMPLES.off
  | .lrx _ => off == LRX.SLICE_IDX.SLICE.off
  | .tel => decide (off < TEL.CH_CFG.EN.off)
  | _ => false

/-- A write whose live fields wait: one with a strobe is applied whole when the strobe acts (log entry 14). -/
def liveWaits (p : Page) (off : Nat) (v : Word) : Bool :=
  decide (0x40 ≤ off) && hasBoundary p && !accessPort p off && !(fieldsOf p off .rwL).isEmpty && strobes p off v == 0

/-- The pilot-channel encoder starts from the all-zero state when EN goes to 1 (R250). -/
def encoderRestart (c : Carrier) (off : Nat) (old new : Word) (s : State) : State :=
  let en := TXP.PCH_CTL.EN
  if off = en.off && extract old en.lo 1 == 0 && extract new en.lo 1 == 1 then
    s.setQlt { s.qlt with encoder := s.qlt.encoder.set c 0, coded := s.qlt.coded.set c [] }
  else s

/-- What live fields of a register do beside their value when they come into force: `old` and `new` are the words in force
before and after. -/
def liveApplied (p : Page) (off : Nat) (old new : Word) (s : State) : State :=
  match p with
  | .hk n => hkWritten n off old new s
  | .aux => auxWritten off old new s
  | .lrx n => lrxWritten n off old new s
  | .txp c => encoderRestart c off old new s
  | .cdc c => cdcWritten c off s
  | .cpr c => cprWritten c off old new s
  | .mls c => mlsWritten c off s
  | .clx n => clxWritten n off old new s
  | _ => s

/-- The live fields of one register come into force. -/
def applyLive (s : State) (x : LiveWrite) : State :=
  match pageOfAddr x.addr with
  | none => s
  | some p =>
    let off := x.addr % 0x1000
    let old := word s p off
    let new := takeFields (fieldsOf p off .rwL) old x.value
    liveApplied p off old new (setWord (unstage x.addr s) p off new)

/-- The live writes that wait and that `due` admits come into force, in the order of their acceptance. -/
def applyStaged (due : Page → Nat → Bool) (s : State) : State :=
  let admitted (x : LiveWrite) : Bool := match pageOfAddr x.addr with
    | some p => due p (x.addr % 0x1000)
    | none => false
  (s.staged.filter admitted).foldl applyLive s

/-- An application boundary of a page that runs (R55). -/
def pageBoundary (p : Page) (s : State) : State :=
  if s.running p then applyStaged (fun q _ => q == p) s else s

/-- A boundary of several pages. -/
def pagesBoundary (ps : List Page) (s : State) : State := ps.foldl (fun s p => pageBoundary p s) s

/-- A boundary of some registers of a page. -/
def registerBoundary (p : Page) (due : Nat → Bool) (s : State) : State :=
  if s.running p then applyStaged (fun q o => q == p && due o) s else s

/-- The next step of an AUX channel (R55). -/
def auxBoundary (n : Fin 16) (s : State) : State :=
  registerBoundary .aux (fun o => o == (AUX.CFG.EN.at n.val).off || o == (AUX.CODE.TARGET.at n.val).off) s

/-- The next decimated output of a channel of TEL (R55). -/
def telBoundary (n : Fin 64) (s : State) : State := registerBoundary .tel (fun o => o == (TEL.CH_CFG.EN.at n.val).off) s

/-- An input tick of TEL: a channel that is off has no output to wait for, and its fields apply at the tick (log entry 14). -/
def telTickBoundary (s : State) : State :=
  registerBoundary .tel (fun o => (List.range 64).any fun n => o == (TEL.CH_CFG.EN.at n).off && !(telChannel s n).on) s

/-- A line frame of a carrier, sent or received (R55). -/
def frameBoundary (c : Carrier) (s : State) : State := pagesBoundary [.lfm c, .cry c] s

/-- The pages of a carrier that work by symbol blocks (R55). -/
def symbolPages (c : Carrier) : List Page :=
  [.txp c, .cdc c, .eqz c, .trc c, .cpr c, .mls c, .dmp c] ++ (carrierLanes c).map .lrx ++ (carrierLanes c).map .ltx

end Sys2Proof.Machine
end

