-- ==== Sys2Proof/Machine/QuoletRate.lean ====
section
/-! DEFINITION. Machine/QuoletRate.lean: chapter 10, negotiated targets and ladders (R263) and the rate states of R264 up
to the restart of a carrier, which Machine/Restart.lean performs. -/
namespace Sys2Proof.Machine

open Sys2Proof (Byte Word Carrier PerCarrier Origin Page Instr Message)

/-! ## Targets and ladders (R263) -/

/-- A mode is in a mask; bit 0 always reads 1. -/
def inMask (mask mode : Nat) : Bool := mode == 0 || testBit mask mode

/-- The better of two modes: the higher client capacity (R91), ties to the lower code. -/
def betterMode (a b : Nat) : Nat := if clientUnits a < clientUnits b then b else a

/-- The negotiated target of two targets and masks (R263). -/
def negotiated (t1 m1 t2 m2 : Nat) : Nat :=
  if t1 = t2 && inMask m1 t1 && inMask m2 t1 then t1
  else
    let cap := min (clientUnits t1) (clientUnits t2)
    (([0, 1, 2, 3, 4, 5].filter fun m => inMask m1 m && inMask m2 m && decide (clientUnits m ≤ cap))).foldl betterMode 0

/-- The ladder of a negotiated target over the modes of both masks (R263). -/
def ladder (target m1 m2 : Nat) : List Nat :=
  let full := match target with
    | 0 => [0]
    | 1 => [0, 1]
    | 2 => [0, 1, 2]
    | 5 => [0, 1, 2, 5]
    | 3 => [0, 1, 3]
    | 4 => [0, 1, 4]
    | _ => [0]
  full.filter fun m => inMask m1 m && inMask m2 m

/-- The element after, or before, another in a list. -/
def after : List Nat → Nat → Option Nat
  | a :: b :: l, m => if a = m then some b else after (b :: l) m
  | _, _ => none
def before (l : List Nat) (m : Nat) : Option Nat := after l.reverse m

/-- Own TARGET of a carrier and MODE_MASK. -/
def ownTarget (s : State) (x : Carrier) : Nat := s.get .qlt (pick x QLT.TARGET.TARGET_A QLT.TARGET.TARGET_B)
def ownMask (s : State) : Nat := s.get .qlt QLT.TARGET.MODE_MASK

/-- The peer's target of a carrier and mask, as its session holds them. -/
def peerTarget (s : State) (k x : Carrier) : Nat :=
  let t := (session s k).peerTargets
  if x = .a then t.1 else t.2.1
def peerMask (s : State) (k : Carrier) : Nat := (session s k).peerTargets.2.2

/-- `NEG_TARGET` of a carrier. -/
def negTarget (s : State) (x : Carrier) : Nat := s.get .qlt (pick x QLT.NEG_TARGET.NEG_A QLT.NEG_TARGET.NEG_B)

/-- Compute and show the negotiated targets of a session's carriers (R263). -/
def showTargets (k : Carrier) (s : State) : State :=
  (members s k).foldl (fun s x =>
    s.set .qlt (pick x QLT.NEG_TARGET.NEG_A QLT.NEG_TARGET.NEG_B)
      (negotiated (ownTarget s x) (ownMask s) (peerTarget s k x) (peerMask s k))) s

/-- The ladder of a carrier. -/
def ladderOf (s : State) (x : Carrier) : List Nat :=
  match ownerOf s x with
  | some k => ladder (negTarget s x) (ownMask s) (peerMask s k)
  | none => [0]

/-- Send RATE_OFFER (R263). -/
def sendOffer (k : Carrier) (s : State) : State :=
  send k tRateOffer [BitVec.ofNat 8 (ownTarget s .a), BitVec.ofNat 8 (ownTarget s .b), BitVec.ofNat 8 (ownMask s)] s

/-- TARGET or MODE_MASK has changed (R263). -/
def targetChanged (s : State) : State :=
  [Carrier.a, .b].foldl (fun s k =>
    if (session s k).state = sessKeyed && !(members s k).isEmpty then sendOffer k (showTargets k s) else s) s

/-- RATE_OFFER arrives (R263). -/
def offerArrives (k : Carrier) (ta tb mask : Nat) (s : State) : State :=
  let s := showTargets k (putSession s k { session s k with peerTargets := (ta, tb, mask) })
  send k tRateAccept [BitVec.ofNat 8 (negTarget s .a), BitVec.ofNat 8 (negTarget s .b)] s

/-! ## Rate states (R264) -/

/-- Codes of R264. -/
def rsSteady : Nat := 0
def rsOffered : Nat := 1
def rsCommitted : Nat := 2
def rsArmed : Nat := 3
def rsRestarting : Nat := 4
def rsConfirming : Nat := 5

/-- Set a carrier's rate state. -/
def setRate (x : Carrier) (st : Nat) (s : State) : State := s.set .qlt (pick x QLT.STAT.RSTATE_A QLT.STAT.RSTATE_B) st

/-- A step moves both carriers (R264, R280). -/
def jointStep (s : State) : Bool := lockEnabled s || onePlusOne s

/-- The carriers a step of `x` concerns. -/
def stepCarriers (s : State) (x : Carrier) : List Carrier := if jointStep s then [x, x.other] else [x]

/-- Return to STEADY with STEP_REFUSED (R264). -/
def stepLapse (x : Carrier) (s : State) : State := (setRate x rsSteady s).raise .qlt QLT.EVT.STEP_REFUSED

/-- The step of a carrier lapses when its session leaves KEYED (R264). -/
def stepSessionLost (x : Carrier) (s : State) : State := if stepPending s x then stepLapse x s else s

/-- The transmit framer restarts for another cause than the step (R264). -/
def stepFramerRestart (x : Carrier) (s : State) : State :=
  if rateState s x = rsOffered || rateState s x = rsCommitted then stepLapse x s else s

/-- The receive condition holds on a carrier (R264). -/
def receiveCondition (s : State) (x : Carrier) : Bool :=
  fecLocked s x && inFrame s x && decide (s.get .qlt QLT.STEP_CFG.DWELL * 1000000000 ≤ (stepOf s x).goodPs)

/-- STEP for carriers (R256): CARRIERS, FROM, TO, KIND, N. -/
def sendStep (k : Carrier) (mask fromMode toMode kind n : Nat) (s : State) : State :=
  send k tStep ([BitVec.ofNat 8 mask, BitVec.ofNat 8 fromMode, BitVec.ofNat 8 toMode, BitVec.ofNat 8 kind] ++ beBytes 5 n) s

/-- Record a step of a carrier. -/
def recordStep (x : Carrier) (fromMode toMode kind n : Nat) (s : State) : State :=
  putStep s x { stepOf s x with fromMode := fromMode, toMode := toMode, kind := kind, n := n, accepted := false, restarted := false }

/-- A carrier may be offered a step up, but for the receive condition (R264). -/
def stepReady (s : State) (k x : Carrier) : Bool :=
  rateState s x == rsSteady && ownerOf s x == some k && !activationPending s x && (stepOf s x).waiting.isNone
    && !switchPending s x && s.qlt.sleepPlan.isNone && !s.entering pwrSleep && (after (ladderOf s x) (lineMode s x)).isSome

/-- CARRIERS of a list. -/
def carrierMask (xs : List Carrier) : Nat := sumNat (xs.map fun x => 2 ^ x.idx)

/-- Send the STEP or STEPs of one joint move with one N: one STEP when all carriers have the same FROM and TO. -/
def sendSteps (k : Carrier) (moves : List (Carrier × Nat × Nat)) (kind n : Nat) (s : State) : State :=
  match moves with
  | [] => s
  | (_, f, t) :: _ =>
    if moves.all fun m => m.2.1 == f && m.2.2 == t then sendStep k (carrierMask (moves.map (·.1))) f t kind n s
    else moves.foldl (fun s m => sendStep k (2 ^ m.1.idx) m.2.1 m.2.2 kind n s) s

/-- The A-end offers a step up (R264). -/
def stepOffer (x : Carrier) (s : State) : State :=
  match ownerOf s x with
  | none => s
  | some k =>
    let xs := stepCarriers s x
    let moves := xs.map fun y => (y, lineMode s y, (after (ladderOf s y) (lineMode s y)).getD 0)
    let rates := moves.map fun m => symbolRate m.2.2
    if ownRole s == 0 && (session s k).state == sessKeyed && s.flag .qlt QLT.CTL.AUTO_STEP
        && xs.all (fun y => stepReady s k y && receiveCondition s y) && rates.all (fun r => r == rates.headD 0) then
      let n := announcedCsf s x 64
      let s := moves.foldl (fun s m => setRate m.1 rsOffered (recordStep m.1 m.2.1 m.2.2 0 n s)) s.drawn
      sendSteps k moves 0 n s
    else s

/-- CSF N - 16 is formed while OFFERED (R264). -/
def offerDeadline (x : Carrier) (s : State) : State :=
  if rateState s x = rsOffered && csfAtOrAfter (txCsf s x + 16) (stepOf s x).n then
    (stepCarriers s x).foldl (fun s y => if rateState s y = rsOffered then stepLapse y s else s) s
  else s

/-- The carriers a CARRIERS byte names. -/
def maskCarriers (mask : Nat) : List Carrier := [Carrier.a, .b].filter fun x => testBit mask x.idx

/-- STEP_ACK (R256): CARRIERS, TO, N, RESULT. -/
def sendStepAck (k : Carrier) (mask toMode n result : Nat) (s : State) : State :=
  send k tStepAck ([BitVec.ofNat 8 mask, BitVec.ofNat 8 toMode] ++ beBytes 5 n ++ [BitVec.ofNat 8 result]) s

/-- Why the B-end does not arm for a step up: 0 when it does (R264). -/
def stepObjection (s : State) (k : Carrier) (xs : List Carrier) (toMode : Nat) : Nat :=
  if xs.any fun x => ownerOf s x != some k || rateState s x != rsSteady || switchPending s x || s.qlt.sleepPlan.isSome
  then busyReason
  else if xs.any fun x => !(inMask (ownMask s) toMode) || after (ladderOf s x) (lineMode s x) != some toMode then modeNotAllowed
  else if xs.any fun x => !receiveCondition s x then berReason
  else 0

/-- A STEP up or a resume arrives at the B-end (R264): it arms both carriers of a joint step, or neither. -/
def stepUpArrives (k : Carrier) (mask fromMode toMode kind n : Nat) (s : State) : State :=
  let xs := maskCarriers mask
  let why := stepObjection s k xs toMode
  if why = 0 then
    let s := xs.foldl (fun s x => setRate x rsArmed (recordStep x fromMode toMode kind n s)) s
    sendStepAck k mask toMode n 0 s
  else
    let s := if jointStep s then
        [Carrier.a, .b].foldl (fun s x =>
          if rateState s x = rsArmed && (stepOf s x).n == n then stepLapse x s else s) s
      else s
    sendStepAck k mask toMode n why s

/-- A STEP down arrives: it is followed as in ARMED and never refused; a down wins over an up, and of two downs the lower
TO applies (R264). -/
def stepDownArrives (mask fromMode toMode n : Nat) (s : State) : State :=
  (maskCarriers mask).foldl (fun s x =>
    if rateState s x = rsRestarting && (stepOf s x).kind == 1 && !(stepOf s x).restarted then
      putStep s x { stepOf s x with toMode := min toMode (stepOf s x).toMode }
    else
      (setRate x rsArmed (recordStep x fromMode toMode 1 n s)).bump .qlt QLT.STEP_CNT.FALLBACK) s

/-- A STEP arrives (R264). -/
def stepArrives (k : Carrier) (seqNo mask fromMode toMode kind n : Nat) (s : State) : State :=
  if kind = 1 then stepDownArrives mask fromMode toMode n s
  else if ownRole s = 0 then refuse k tStep seqNo roleConflict s
  else stepUpArrives k mask fromMode toMode kind n s

/-- A STEP_ACK arrives at the A-end (R264). -/
def stepAckArrives (mask toMode n result : Nat) (s : State) : State :=
  let xs := (maskCarriers mask).filter fun x =>
    rateState s x == rsOffered && (stepOf s x).n == n && (stepOf s x).toMode == toMode
  if result = 0 then
    let xs := xs.filter fun x => !csfAtOrAfter (txCsf s x + 16) n
    let s := xs.foldl (fun s x => putStep s x { stepOf s x with accepted := true }) s
    let ready (x : Carrier) : Bool := rateState s x == rsOffered && (stepOf s x).accepted
    xs.foldl (fun t x => if (stepCarriers s x).all ready then
      (stepCarriers s x).foldl (fun t y => setRate y rsCommitted t) t else t) s
  else
    xs.foldl (fun s x => (stepCarriers s x).foldl (fun s y =>
      if rateState s y = rsOffered then stepLapse y s else s) s) s

/-- A REFUSE of a STEP arrives (R264). -/
def stepRefusedBy (k : Carrier) (s : State) : State :=
  (members s k).foldl (fun s x => if rateState s x = rsOffered then stepLapse x s else s) s

/-- An ARMED carrier sees CSF N + 64 in the old mode (R264). -/
def armedLapse (x : Carrier) (s : State) : State :=
  if rateState s x = rsArmed && inFrame s x
      && csfAtOrAfter (s.pair (.lfm x) LFM.RX_CSF_LO.CSF LFM.RX_CSF_HI.CSF) ((stepOf s x).n + 64) then stepLapse x s
  else s

/-- An ARMED carrier sees a SEQ_JUMP (R211, R264). -/
def armedJump (x : Carrier) (s : State) : State := if rateState s x = rsArmed then stepLapse x s else s

/-- The mode of a step down (R264): after a change of target the highest rung at or below it that carries no more than
the current mode; else the previous rung.  None in mode 0x0. -/
def downTo (s : State) (x : Carrier) : Option Nat :=
  let m := lineMode s x
  let l := ladderOf s x
  if m = 0 then none
  else if l.contains m then before l m
  else (l.filter fun r => decide (clientUnits r ≤ clientUnits m)).getLast?

/-- SF has held for SF_HOLD, in units of 10 ms (R264). -/
def sfHeld (s : State) (t : Timer) : Bool := passed s t (s.get .qlt QLT.FALL_CFG.SF_HOLD * 10 * msNs)

/-- A step down is due on a carrier: SF for SF_HOLD, no frame SYNC for LOF_HOLD, or a mode off the ladder (R264). -/
def downDue (s : State) (x : Carrier) : Bool :=
  (s.flag (.fec x) FEC.STAT.SF && sfHeld s (.inSf x))
  || (!inFrame s x && passed s (.outOfFrame x) (s.get .qlt QLT.FALL_CFG.LOF_HOLD * 10 * msNs))
  || !(ladderOf s x).contains (lineMode s x)

/-- A step down starts, announced and not acknowledged (R264). -/
def stepDown (x : Carrier) (s : State) : State :=
  match ownerOf s x with
  | none => s
  | some k =>
    if rateState s x = rsSteady && downDue s x && (downTo s x).isSome then
      let xs := (stepCarriers s x).filter fun y => (downTo s y).isSome
      let n := announcedCsf s x 64
      let moves := xs.map fun y => (y, lineMode s y, (downTo s y).getD 0)
      let s := moves.foldl (fun s m =>
        (setRate m.1 rsRestarting (recordStep m.1 m.2.1 m.2.2 1 n s)).bump .qlt QLT.STEP_CNT.FALLBACK) s.drawn
      sendSteps k moves 1 n s
    else s

/-- TIMEOUT has passed since the restart of a carrier, in units of 10 ms (R264). -/
def stepTimedOut (s : State) (x : Carrier) : Bool := passed s (.restarted x) (s.get .qlt QLT.STEP_CFG.TIMEOUT * 10 * msNs)

/-- The restarted carrier reaches FEC LOCK and frame SYNC within TIMEOUT (R264). -/
def stepConfirming (x : Carrier) (s : State) : State :=
  if rateState s x = rsRestarting && (stepOf s x).restarted && fecLocked s x && inFrame s x && !stepTimedOut s x then
    setRate x rsConfirming (putStep s x { stepOf s x with failed := false })
  else s

/-- SF_HOLD passes without SF (R264). -/
def stepDone (x : Carrier) (s : State) : State :=
  if rateState s x = rsConfirming && !(stepOf s x).failed && sfHeld s (.confirming x) then
    let r := stepOf s x
    let up := r.kind != 1
    let s := putStep s x
      { r with
        restarted := false
        locked := false
        backoffs := if up then r.backoffs.filter fun e => e.1 != (r.fromMode, r.toMode) else r.backoffs }
    let s := if up then s.bump .qlt QLT.STEP_CNT.UP else s
    (setRate x rsSteady s).raise .qlt QLT.EVT.STEP_DONE
  else s

/-- The backoff in seconds that a step has run last; none before its first fallback, or since it completed (R264). -/
def backoffOf (s : State) (x : Carrier) (step : Nat × Nat) : Option Nat :=
  ((stepOf s x).backoffs.find? fun e => e.1 == step).map (·.2)

/-- The backoff after a fallback from a step up: BACKOFF first, then doubled up to 3,600 s (R264). -/
def nextBackoff (s : State) (x : Carrier) (step : Nat × Nat) : Nat :=
  match backoffOf s x step with
  | none => s.get .qlt QLT.STEP_CFG.BACKOFF
  | some n => min 3600 (2 * n)

/-- The backoff that runs expires (R264). -/
def backoffEnd (x : Carrier) (s : State) : State :=
  match (stepOf s x).waiting with
  | none => s
  | some step =>
    if passed s (.backoff x) ((backoffOf s x step).getD 0 * secNs) then putStep s x { stepOf s x with waiting := none } else s

end Sys2Proof.Machine
end

