-- ==== Sys2Proof/Machine/RouteProtect.lean ====
section
/-! DEFINITION. Machine/RouteProtect.lean: chapter 11: the 1+1 selector with its delay buffer (R272-R279) and the 1:1
route switch (R281-R285). -/
namespace Sys2Proof.Machine

open Sys2Proof (Byte Word Carrier PerCarrier Origin Page Instr Message RxFrame)

/-- Change the state of RPS. -/
def State.setRps (s : State) (x : RouteProtect) : State := { s with rps := x }

/-- Pair states of R277. -/
def raOff : Nat := 0
def raSearch : Nat := 1
def raSingle : Nat := 2
def raAligned : Nat := 3
def raDrift : Nat := 4

/-- `STAT.ASTATE`, and the ACTIVE carrier. -/
def pairState (s : State) : Nat := s.get .rps RPS.STAT.ASTATE
def activeCarrier (s : State) : Carrier := if s.flag .rps RPS.STAT.ACTIVE then .b else .a

/-- RPS runs in 1+1. -/
def pairRuns (s : State) : Bool := s.running .rps && onePlusOne s

/-- A carrier is present (R277, R278). -/
def carrierPresent (s : State) (c : Carrier) : Bool :=
  if pairState s = raSingle then s.rps.present == some c
  else pairState s == raAligned || pairState s == raDrift

/-- LFs a delay in nanoseconds spans at the exact rate of R90, rounded up. -/
def lfsIn (mode ns : Nat) : Nat :=
  let den := 129 * 2 ^ 34
  (ns * symbolRate mode * bitsPerSymbol mode * 14314671 + den - 1) / den

/-! ## ACTIVE (R278) -/

/-- The carrier the device reverts to. -/
def primaryCarrier (s : State) : Carrier := if s.flag .rps RPS.CTL.PRIMARY then .b else .a

/-- The wait-to-restore time runs, as `STAT.WTR_RUN` shows (R278). -/
def wtrRuns (s : State) : Bool :=
  pairRuns s && s.flag .rps RPS.CTL.REVERT && activeCarrier s != primaryCarrier s && carrierPresent s (primaryCarrier s)
    && !s.flag (.fec (primaryCarrier s)) FEC.STAT.SF && !s.flag .rps RPS.STAT.FORCED && !s.rps.manual

/-- ACTIVE changes (R278). -/
def setActive (c : Carrier) (s : State) : State :=
  if activeCarrier s = c then s
  else ((s.set .rps RPS.STAT.ACTIVE c.idx).bump .rps RPS.SW_CNT.SWITCHES).raise .rps RPS.EVT.ACTIVE_CHG

/-- The ACTIVE carrier fails: ACTIVE moves unless a forced command holds it. -/
def activeFails (s : State) : State :=
  if s.flag .rps RPS.STAT.FORCED then s
  else setActive (activeCarrier s).other (s.setRps { s.rps with manual := false })

/-- ACTIVE is in SF and the other carrier is not (R278). -/
def sfAlone (s : State) : Bool :=
  pairRuns s && s.flag (.fec (activeCarrier s)) FEC.STAT.SF && !s.flag (.fec (activeCarrier s).other) FEC.STAT.SF

/-- ACTIVE has held SF for HOLDOFF ms while the other carrier does not (R278). -/
def sfHoldoff (s : State) : State :=
  if sfAlone s && passed s .sfAlone (s.get .rps RPS.TIMERS.HOLDOFF * msNs) && carrierPresent s (activeCarrier s).other then
    activeFails s
  else s

/-- The wait-to-restore time, in units of 10 s, ends (R278). -/
def wtrExpiry (s : State) : State :=
  if wtrRuns s && passed s .waitRestore (s.get .rps RPS.TIMERS.WTR * 10 * secNs) then setActive (primaryCarrier s) s else s

/-! ## Delay (R274, R275) -/

/-- MEASURED in LFs, and the carrier whose copies come earlier (R274, R275). -/
def measuredLfs (s : State) : Nat := lfsIn (lineMode s .a) (s.get .rps RPS.DELAY_NS.MEASURED)
def earlyCarrier (s : State) : Carrier := if s.flag .rps RPS.DELAY.EARLY then .b else .a

/-- LFs from the arrival of the earlier copy, and of the later copy, to their instant (R275). -/
def earlyLead (s : State) : Nat := if earlyCarrier s = s.rps.base then s.rps.lead else s.rps.lead + measuredLfs s
def lateLead (s : State) : Int := if earlyCarrier s = s.rps.base then (s.rps.lead : Int) - measuredLfs s else s.rps.lead

/-- `DELAY.APPLIED` follows the distance and never decreases (R275). -/
def showApplied (s : State) : State :=
  s.set .rps RPS.DELAY.APPLIED (min (max (s.get .rps RPS.DELAY.APPLIED) (earlyLead s)) (2 ^ 18 - 1))

/-- Raise APPLIED by pausing the output (R275). -/
def raiseApplied (lfs : Nat) (s : State) : State :=
  if lfs = 0 then showApplied s
  else
    let s := showApplied (s.setRps { s.rps with pause := s.rps.pause + lfs, lead := s.rps.lead + lfs })
    (s.addSat .rps RPS.REALIGN_LF.COUNT lfs).raise .rps RPS.EVT.REALIGN

/-- The on-die store holds the pair (R274). -/
def storeHolds (s : State) : Bool := decide (measuredLfs s + 2 * s.get .rps RPS.CTL.GUARD + 1 ≤ 3200)

/-- Delay is in LPDDR5X while the on-die store cannot hold the pair (R274, R288), with the snapshot limits that follow. -/
def dramFollow (s : State) : State :=
  if !pairRuns s then s
  else if storeHolds s then s.set .rps RPS.STAT.DRAM 0
  else if s.flag .rps RPS.STAT.DRAM then s
  else snapTruncate ((s.set .rps RPS.STAT.DRAM 1).raise .rps RPS.EVT.DRAM_ON)

/-- The later route's copies arrive at least GUARD LFs before their instants after this (R275). -/
def realign (s : State) : State := raiseApplied ((s.get .rps RPS.CTL.GUARD : Int) - lateLead s).toNat s

/-- Entry to SINGLE from SEARCH: APPLIED = GUARD from the arrivals of the route in frame (R275). -/
def singleFromSearch (c : Carrier) (csf lf : Nat) (s : State) : State :=
  let guard := s.get .rps RPS.CTL.GUARD
  let s := s.setRps { s.rps with present := some c, next := some (csf, lf), pause := guard, matched := 0, base := c, lead := guard }
  let s := ((s.set .rps RPS.STAT.ASTATE raSingle).set .rps RPS.DELAY.APPLIED guard).set .rps RPS.DELAY.EARLY c.idx
  if activeCarrier s = c then s else activeFails s

/-- 64 LFs matched on both carriers (R277): a joining route that is the later one is realigned; one that is the earlier only
lengthens the distance APPLIED counts (R275). -/
def enterAligned (s : State) : State :=
  let s := s.setRps { s.rps with absent := both 0, lateRun := 0 }
  let s := if s.rps.present = some (earlyCarrier s) then realign s else showApplied s
  dramFollow ((s.set .rps RPS.STAT.ASTATE raAligned).raise .rps RPS.EVT.ALIGNED)

/-- One carrier has had no copy at 64 instants (R277, R278): the distance is that of the other's arrivals, APPLIED is kept. -/
def enterSingle (c : Carrier) (s : State) : State :=
  let lead := if c = earlyCarrier s then earlyLead s else (lateLead s).toNat
  let s := s.setRps { s.rps with present := some c, matched := 0, base := c, lead := lead }
  let s := (s.set .rps RPS.STAT.ASTATE raSingle).raise .rps RPS.EVT.ALIGN_LOST
  if activeCarrier s = c then s else activeFails s

/-- DRIFT ends in a realignment (R275, R277). -/
def realignDrift (s : State) : State :=
  if pairState s = raDrift then
    let s := s.setRps { s.rps with lateRun := 0 }
    (realign s).set .rps RPS.STAT.ASTATE raAligned
  else s

/-- The changes of the pair state that matching, absence and lateness bring (R277). -/
def pairStep (s : State) : State :=
  if !pairRuns s then s
  else if pairState s = raSingle then
    if !inFrame s .a && !inFrame s .b then
      s.setRps { s.rps with present := none, next := none, held := both [] } |>.set .rps RPS.STAT.ASTATE raSearch
    else if 64 ≤ s.rps.matched then enterAligned s
    else s
  else if pairState s = raAligned || pairState s = raDrift then
    if 64 ≤ s.rps.absent.a then enterSingle .b s
    else if 64 ≤ s.rps.absent.b then enterSingle .a s
    else if pairState s = raAligned && 64 ≤ s.rps.lateRun then
      let s := s.set .rps RPS.STAT.ASTATE raDrift
      if s.flag .rps RPS.CTL.AUTO_REALIGN then realignDrift s else s
    else s
  else s

/-! ## Arrivals and output instants (R274-R276) -/

/-- Place of a copy in the numbering. -/
def copyBefore (csf lf csf2 lf2 : Nat) : Bool := csfAfter csf2 csf || (csf2 % csfMod == csf % csfMod && decide (lf < lf2))

/-- The next number (R85). -/
def nextNumber (csf lf : Nat) : Nat × Nat := if lf = 63 then ((csf + 1) % csfMod, 0) else (csf, lf + 1)

/-- An LF of class 4-6 enters the delay buffer (R274), is matched with its copy (R276, R277) and may be late. -/
def copyArrives (c : Carrier) (x : RouteCopy) (prot : Bool) (s : State) : State :=
  if !prot then s.bump .rps RPS.PAIR_ERR.PROT_ERR
  else
    let s := if pairState s = raSearch then singleFromSearch c x.csf x.lf s else s
    let window := s.get .rps RPS.MAX_DELAY.DELAY * 1000
    let fresh := (s.rps.seen.get c).filter fun e => decide (x.arrival - e.2.2 ≤ window)
    let mate := (s.rps.seen.get c.other).find? fun e => e.1 == x.csf && e.2.1 == x.lf && decide (x.arrival - e.2.2 ≤ window)
    let s := s.setRps { s.rps with seen := s.rps.seen.set c ((x.csf, x.lf, x.arrival) :: fresh) }
    let late := match s.rps.next with
      | some (n, i) => copyBefore x.csf x.lf n i
      | none => false
    let s := match mate with
      | some e =>
        let s := s.set .rps RPS.DELAY_NS.MEASURED (min (x.arrival - e.2.2) (2 ^ 25 - 1))
        let s := s.set .rps RPS.DELAY.EARLY c.other.idx
        s.setRps { s.rps with matched := s.rps.matched + 1 }
      | none => if s.get .rps RPS.DELAY.EARLY = c.other.idx then s.setRps { s.rps with matched := 0 } else s
    let paired := pairState s == raAligned || pairState s == raDrift
    let s := if late then
        if paired then
          let s := s.bump .rps RPS.LATE.COUNT
          s.setRps { s.rps with lateRun := s.rps.lateRun + 1 }
        else s
      else
        s.setRps { s.rps with
          lateRun := if mate.isSome then 0 else s.rps.lateRun
          held := s.rps.held.set c (s.rps.held.get c ++ [x]) }
    pairStep (dramFollow s)

/-- The copy of a carrier at an instant. -/
def copyAt (s : State) (c : Carrier) (csf lf : Nat) : Option RouteCopy :=
  (s.rps.held.get c).find? fun x => x.csf == csf && x.lf == lf

/-- Test one copy in its own CRY_x (R239, R276): its plaintext slots when it passes. -/
def testCopy (s : State) (c : Carrier) (x : Option RouteCopy) : State × Option (List (Option (BitVec 257))) :=
  match x with
  | some x =>
    if x.cls = 6 then
      let h := x.frame.hdr
      let r := receiveTests s c x.csf x.lf (hdrKeyIdx h) (hdrCarrier h) (hdrRole h) h x.frame.payload x.frame.tag
      (r.1, r.2.map fun p => (payloadSlots p (512 - hdrFill h)).map some)
    else (s, none)
  | none => (s, none)

/-- Error control blocks stand for the ACTIVE copy (R88, R210, R239). -/
def substituteCount (s : State) (c : Carrier) (x : Option RouteCopy) : Nat :=
  match x with
  | some x => if x.cls = 4 then ((s.framer.get c).lastCount.getD 504) else 512 - hdrFill x.frame.hdr
  | none => (s.framer.get c).lastCount.getD 504

/-- Copies whose FILL differ are counted (R276). -/
def fillMismatch (a b : Option RouteCopy) : Bool :=
  match a, b with
  | some x, some y => hdrFill x.frame.hdr != hdrFill y.frame.hdr
  | _, _ => false

/-- No carrier delivers an instant (R276): counted; the event and the trigger come with the first after a delivery. -/
def bothFail (s : State) : State :=
  let s := s.bump .rps RPS.BOTH_FAIL.COUNT
  if s.rps.delivered then noteTrigger (s.raise .rps RPS.EVT.BOTH_FAIL) 7 else s

/-- An output instant (R276).  The counters of a stopped LFM_x hold (R217). -/
def outputInstant (s : State) : State :=
  if !pairRuns s then s
  else if 0 < s.rps.pause then s.setRps { s.rps with pause := s.rps.pause - 1 }
  else
    match s.rps.next with
    | none => s
    | some (csf, lf) =>
      let c := activeCarrier s
      let xa := copyAt s c csf lf
      let xb := copyAt s c.other csf lf
      let drop (l : List RouteCopy) : List RouteCopy := l.filter fun x => !(x.csf == csf && x.lf == lf)
      let count (y : Carrier) (x : Option RouteCopy) (s : State) : State :=
        s.setRps { s.rps with absent := s.rps.absent.set y (if x.isSome then 0 else s.rps.absent.get y + 1) }
      let sendBlocks (n : Nat) (s : State) : State := if s.running (.lfm c) then s.addSat (.lfm c) LFM.ECB_CNT.COUNT n else s
      let s := s.setRps { s.rps with
        next := some (nextNumber csf lf)
        held := ⟨drop s.rps.held.a, drop s.rps.held.b⟩ }
      let s := count c.other xb (count c xa s)
      let s := if fillMismatch xa xb then s.bump .rps RPS.PAIR_ERR.HDR_MISMATCH else s
      let ra := testCopy s c xa
      let rb := testCopy ra.1 c.other xb
      let s := rb.1
      let deliver (blocks : List (Option (BitVec 257))) (s : State) : State :=
        let s := s.setRps { s.rps with delivered := true }
        deliverBlocks .a blocks (if s.running (.lfm c) then
          s.addPair (.lfm c) LFM.RX_DATA_LO.COUNT LFM.RX_DATA_HI.COUNT blocks.length else s)
      let s := match ra.2, rb.2 with
        | some blocks, _ => deliver blocks s
        | none, some blocks =>
          if s.flag .rps RPS.CTL.MERGE_EN then deliver blocks (s.bump .rps RPS.SUBST.COUNT)
          else
            let n := substituteCount s c xa
            let s := bothFail s
            deliverBlocks .a (List.replicate n none) (sendBlocks n (s.setRps { s.rps with delivered := false }))
        | none, none =>
          let n := substituteCount s c xa
          let s := bothFail s
          deliverBlocks .a (List.replicate n none) (sendBlocks n (s.setRps { s.rps with delivered := false }))
      pairStep s

/-! ## 1:1 switching (R281-R285) -/

/-- Switch states of R283. -/
def swIdle : Nat := 0
def swRequested : Nat := 1
def swCommitted : Nat := 2
def swSwitching : Nat := 3
def swUnilateral : Nat := 4

/-- `STAT.SSTATE`. -/
def switchState (s : State) : Nat := s.get .rps RPS.STAT.SSTATE
def setSwitch (st : Nat) (s : State) : State := s.set .rps RPS.STAT.SSTATE st

/-- RPS runs in 1:1. -/
def switchRuns (s : State) : Bool := s.running .rps && s.get .rps RPS.CTL.MODE == 2

/-- The session of the working carrier, with a path up. -/
def switchSession (s : State) : Option Carrier :=
  match ownerOf s (workingCarrier s) with
  | some k => if sessionUp s k then some k else none
  | none => none

/-- Drive ROUTESEL_x of the working carrier (R281). -/
def driveRoute (route : Nat) (s : State) : State :=
  let w := workingCarrier s
  startTimer .toggled
    ((s.setRps { s.rps with pins := (s.rps.pins.set w (route == 1)).set w.other false }).set .rps RPS.STAT.ROUTE_NOW route)

/-- ROUTE_SWITCH (R256, R282): PHASE, ROUTE, CAUSE, N. -/
def sendRoute (k : Carrier) (phase route cause n : Nat) (s : State) : State :=
  send k tRouteSwitch ([BitVec.ofNat 8 phase, BitVec.ofNat 8 route, BitVec.ofNat 8 cause] ++ beBytes 5 n) s

/-- Request a switch (R283). -/
def switchRequest (route cause : Nat) (s : State) : State :=
  if switchRuns s && switchState s == swIdle && !s.entering pwrSleep && route != s.get .rps RPS.STAT.ROUTE_NOW then
    match switchSession s with
    | some k =>
      let n := announcedCsf s (workingCarrier s) 64
      let s := s.drawn.setRps { s.drawn.rps with route := route, cause := cause, n := n }
      sendRoute k 0 route cause n (setSwitch swRequested s)
    | none => s
  else s

/-- SF, or no frame SYNC, on the working carrier for HOLDOFF ms (R283); a forced command holds the route. -/
def switchOnFailure (s : State) : State :=
  let w := workingCarrier s
  let holdoff := s.get .rps RPS.TIMERS.HOLDOFF * msNs
  if s.flag .rps RPS.STAT.FORCED then s
  else if s.flag (.fec w) FEC.STAT.SF && passed s (.inSf w) holdoff then
    switchRequest (1 - s.get .rps RPS.STAT.ROUTE_NOW) 2 s
  else if !inFrame s w && passed s (.outOfFrame w) holdoff then switchRequest (1 - s.get .rps RPS.STAT.ROUTE_NOW) 3 s
  else s

/-- The accepter's own N, within one CSF of the requester's switch (R282): the requester's framer is half a round trip ahead of the
CSF that arrives.  Out of frame no CSF arrives to count from, and N is announced as for a request. -/
def acceptedCsf (s : State) (w : Carrier) (asked : Nat) : Nat :=
  if inFrame s w then
    let wait := (asked % csfMod + csfMod - s.pair (.lfm w) LFM.RX_CSF_LO.CSF LFM.RX_CSF_HI.CSF) % csfMod
    (txCsf s w + (wait - csfsIn (lineMode s w) (rttPs s w / 2))) % csfMod
  else announcedCsf s w 64

/-- A ROUTE_SWITCH request arrives in KEYED (R283, R285). -/
def switchAsked (k : Carrier) (seqNo route cause asked : Nat) (s : State) : State :=
  let w := workingCarrier s
  let crossing := switchState s == swRequested && ownRole s == 1
  if !switchRuns s || stepPending s w || !(switchState s == swIdle || crossing) then
    refuse k tRouteSwitch seqNo busyReason s
  else
    let n := acceptedCsf s w asked
    let s := s.drawn.setRps { s.drawn.rps with route := route, cause := cause, n := n }
    sendRoute k 1 route cause n (setSwitch swCommitted s)

/-- The accept arrives before CSF N - 16 is formed (R283). -/
def switchAccepted (s : State) : State :=
  if switchState s = swRequested && !csfAtOrAfter (txCsf s (workingCarrier s) + 16) s.rps.n then setSwitch swCommitted s
  else s

/-- A refusal arrives (R283). -/
def switchRefused (s : State) : State := if switchState s = swRequested then setSwitch swIdle s else s

/-- CSF N - 16 is formed before the accept (R283). -/
def switchDeadline (s : State) : State :=
  if switchState s = swRequested && csfAtOrAfter (txCsf s (workingCarrier s) + 16) s.rps.n then setSwitch swIdle s else s

/-- The framer ends CSF N - 1 (R283): SW_SETTLE runs. -/
def switchToggle (s : State) : State :=
  if switchState s = swCommitted && csfAtOrAfter (txCsf s (workingCarrier s)) s.rps.n then
    startTimer .settling (setSwitch swSwitching (driveRoute s.rps.route s))
  else s

/-- SW_SETTLE in ns (R283). -/
def settleNs (s : State) : Nat := s.get .rps RPS.TIMERS.SW_SETTLE * msNs

/-- SW_SETTLE after the toggle the equaliser's acquisition is restarted with origin 0x0 (R283). -/
def switchSettled (s : State) : State :=
  if switchState s = swSwitching && passed s .settling (settleNs s) then
    let w := workingCarrier s
    let s := stopTimer .settling s
    let t := hardwareStrobe s (.eqz w) EQZ.ACQ_CTL.RESTART
    if onlyReserve s then t else acqRestart w t
  else s

/-- The working carrier regains frame SYNC (R283, R284); `hitUs` is the measured hit. -/
def switchDone (hitUs : Nat) (s : State) : State :=
  let st := switchState s
  if (st = swSwitching || st = swUnilateral) && inFrame s (workingCarrier s) then
    let s := (s.set .rps RPS.LAST_HIT.CAUSE (if st = swUnilateral then 4 else s.rps.cause)).set .rps RPS.LAST_HIT.HIT
      (min hitUs (2 ^ 24 - 1))
    let s := setSwitch swIdle ((s.bump .rps RPS.SW_CNT.SWITCHES).raise .rps RPS.EVT.SW_DONE)
    if st = swUnilateral then
      match switchSession s with
      | some k => sendRoute k 2 (s.get .rps RPS.STAT.ROUTE_NOW) 4 (txCsf s (workingCarrier s)) s
      | none => s.setRps { s.rps with doneDue := true }
    else s
  else s

/-- T: the time after which UNILATERAL toggles again, three times as long at the B-end (R283). -/
def toggleNs (s : State) : Nat := (settleNs s + 20 * msNs) * (if ownRole s = 0 then 1 else 3)

/-- The working carrier is out of frame SYNC while no path of its session is up (R283). -/
def routeLost (s : State) : Bool := switchRuns s && !inFrame s (workingCarrier s) && (switchSession s).isNone

/-- No frame SYNC within the timer (R283): entry to UNILATERAL toggles at once; a later toggle is counted. -/
def switchUnilateral (s : State) : State :=
  let st := switchState s
  let other := 1 - s.get .rps RPS.STAT.ROUTE_NOW
  if !switchRuns s || inFrame s (workingCarrier s) || s.flag .rps RPS.STAT.FORCED then s
  else if st = swUnilateral && passed s .toggled (toggleNs s) then
    ((driveRoute other s).bump .rps RPS.SW_CNT.UNILATERAL).raise .rps RPS.EVT.SW_UNILATERAL
  else if (st = swSwitching && passed s .toggled (settleNs s + 10 * msNs))
      || (st = swIdle && routeLost s && passed s .routeLost (s.get .rps RPS.TIMERS.LOSS_HOLD * msNs)) then
    setSwitch swUnilateral (driveRoute other s)
  else s

/-- DONE reports a unilateral switch once a path is up again (R282). -/
def switchReport (s : State) : State :=
  if s.rps.doneDue then
    match switchSession s with
    | some k =>
      if (session s k).state = sessKeyed then
        sendRoute k 2 (s.get .rps RPS.STAT.ROUTE_NOW) 4 (txCsf s (workingCarrier s))
          (s.setRps { s.rps with doneDue := false })
      else s
    | none => s
  else s

/-! ## Commands and page behaviour (R278, R286, R287) -/

/-- A manual command (R278, R283). -/
def routeManual (route : Nat) (s : State) : State :=
  if pairRuns s then
    let c : Carrier := if route = 1 then .b else .a
    if carrierPresent s c && !s.flag (.fec c) FEC.STAT.SF && !s.flag .rps RPS.STAT.FORCED then
      setActive c (s.setRps { s.rps with manual := true })
    else s
  else switchRequest route 0 s

/-- A forced command (R278, R283). -/
def routeForced (route : Nat) (s : State) : State :=
  if pairRuns s then setActive (if route = 1 then .b else .a) (s.set .rps RPS.STAT.FORCED 1)
  else if switchRuns s then switchRequest route 1 (s.set .rps RPS.STAT.FORCED 1)
  else s

/-- A clear command (R278). -/
def routeClear (s : State) : State := (s.set .rps RPS.STAT.FORCED 0).setRps { s.rps with manual := false }

/-- The effect of an accepted write of RPS (R277, R278). -/
def rpsWritten (off : Nat) (new : Word) (s : State) : State :=
  if off = RPS.CMD.CMD.off then
    let route := extract new RPS.CMD.ROUTE.lo 1
    let s := if extract new RPS.CMD.REALIGN.lo 1 = 1 then realignDrift s else s
    match extract new RPS.CMD.CMD.lo 2 with
    | 1 => routeManual route s
    | 2 => routeForced route s
    | 3 => routeClear s
    | _ => s
  else if off = RPS.CTL.MODE.off then
    if pairState s = raDrift && s.flag .rps RPS.CTL.AUTO_REALIGN then realignDrift s else s
  else s

/-- Values RPS refuses with OUT_OF_RANGE (R271, R287). -/
def rpsWriteBad (off : Nat) (new : Word) : Bool :=
  (off == 0x40 && (extract new 0 2 == 3 || decide (extract new 8 8 < 2)))
  || (off == 0x44 && (extract new 0 15 == 0 || decide (20000 < extract new 0 15)))
  || (off == 0x48 && (extract new 24 8 == 0 || extract new 8 8 == 0 || decide (40 < extract new 8 8)
      || extract new 0 8 == 0))

/-- 1+1 excludes carrier lock (R14, R272). -/
def rpsConflict (s : State) (off : Nat) (new : Word) : Bool := off == 0x40 && extract new 0 2 == 1 && lockEnabled s

/-- RPS refuses a STOP with STOP_PRECOND (R272, R286). -/
def rpsStopBad (s : State) : Bool :=
  if onePlusOne s then !s.stopped (.lfm .a) || !s.stopped (.lfm .b)
  else s.get .rps RPS.CTL.MODE == 2 && !s.stopped (.lfm (workingCarrier s))

/-- Counters clear on entry to starting (R286). -/
def rpsStart (s : State) : State :=
  s.clearAll .rps [RPS.SUBST.COUNT, RPS.BOTH_FAIL.COUNT, RPS.LATE.COUNT, RPS.SW_CNT.SWITCHES, RPS.SW_CNT.UNILATERAL,
    RPS.REALIGN_LF.COUNT, RPS.PAIR_ERR.PROT_ERR, RPS.PAIR_ERR.HDR_MISMATCH]

/-- RPS reaches running (R277). -/
def rpsRunning (s : State) : State := if onePlusOne s then s.set .rps RPS.STAT.ASTATE raSearch else s

/-- RPS leaves running (R275, R277). -/
def rpsStop (s : State) : State :=
  let s := s.setRps { s.rps with
    held := both [], seen := both [], next := none, pause := 0, matched := 0, absent := both 0, lateRun := 0,
    present := none, delivered := true, manual := false, n := 0, lead := 0 }
  s.clearAll .rps [RPS.STAT.ASTATE, RPS.STAT.SSTATE, RPS.STAT.DRAM, RPS.STAT.FORCED, RPS.DELAY.APPLIED]

end Sys2Proof.Machine
end

