-- ==== Sys2Proof/Machine/QuoletSession.lean ====
section
/-! DEFINITION. Machine/QuoletSession.lean: chapter 10, paths and sessions (R258, R260), the handshake (R259, R261), the
checks and sequencing of received messages (R252, R254, R255), and the messages of R256. -/
namespace Sys2Proof.Machine

open Sys2Proof (Byte Word Carrier PerCarrier Origin Page Instr Message RxFrame)

/-! ## Entering states (R260) -/

/-- HELLO (R256). -/
def helloBody (s : State) (nonce : BitVec 256) : List Byte :=
  [1, BitVec.ofNat 8 (ownRole s), BitVec.ofNat 8 (bit s.plinth.fresh)] ++ beBytes 4 s.plinth.lastEpoch
    ++ beBytes 3 ownFragment ++ bytes32 nonce

/-- PSK_REQ over the carriers of a session (R225, R234). -/
def sessionPskReq (s : State) (k : Carrier) : Bool := (members s k).any fun x => s.flag (.cry x) CRY.POLICY.PSK_REQ

/-- CAPS (R256). -/
def capsBody (s : State) (k : Carrier) : List Byte :=
  let config := bit (lockEnabled s) + 2 * s.get .rps RPS.CTL.MODE
  let carriers := bit (s.running (.lfm .a)) + 2 * bit (s.running (.lfm .b))
  [BitVec.ofNat 8 (ownMask s), BitVec.ofNat 8 (ownTarget s .a), BitVec.ofNat 8 (ownTarget s .b)]
    ++ beBytes 2 (sessionRekey s k)
    ++ [BitVec.ofNat 8 (bit (sessionPskReq s k) + 2 * bit s.plinth.psk.isSome), BitVec.ofNat 8 config,
      BitVec.ofNat 8 carriers]

/-- ATTEST (R256, R461), bound to the peer's NONCE. -/
def attestBody (s : State) (peerNonce : BitVec 256) : List Byte :=
  let report := attestReport s peerNonce
  beBytes 2 Config.certificate.length ++ Config.certificate ++ beBytes 2 report.length ++ report

/-- What the end of a KEYED session brings to its carriers (R264, R267). -/
def leaveKeyed (k : Carrier) (s : State) : State :=
  if (session s k).state = sessKeyed then
    let s := (members s k).foldl (fun s x => stepSessionLost x s) s
    s.setQlt { s.qlt with sleepPlan := none, sleepAsked := none }
  else s

/-- A handshake may start (R470). -/
def handshakeAllowed (s : State) : Bool := !s.plinth.zeroiseLow && !s.plinth.keysErased

/-- Entry to NEGOTIATE (R255, R260): a new exchange with SEQ 0 and a new NONCE; HELLO and CAPS are sent at once. -/
def enterNegotiate (k : Carrier) (s : State) : State :=
  if !handshakeAllowed s then s
  else
    let s := leaveKeyed k s
    let nonce : BitVec 256 := BitVec.ofNat 256 s.random.toNat
    let inb := (session s k).peerInb
    let s := putSession s.randomDrawn k { Session.down with
      state := sessNegotiate, awaitHello := true, nonce := nonce, peerInb := inb }
    let s := match s.qlt.wakeDue with
      | some w => send k tWake ([1] ++ beBytes 8 w.1 ++ beBytes 4 w.2) (s.setQlt { s.qlt with wakeDue := none })
      | none => s
    let s := send k tHello (helloBody s nonce) s
    showSessions (send k tCaps (capsBody s k) s)

/-- Entry to DOWN (R260). -/
def sessionDown (k : Carrier) (s : State) : State :=
  let was := (session s k).state
  let s := leaveKeyed k s
  let s := (members s k).foldl (fun s x => s.setQlt { s.qlt with owner := s.qlt.owner.set x none }) s
  showSessions ((putSession s k .down).raiseIf (was != sessDown) .qlt QLT.EVT.SESSION_DOWN)

/-- Entry to FAILED with a cause (R260, R261): secrets and keys derived for the session are erased. -/
def sessionFailed (k : Carrier) (cause : Nat) (s : State) : State :=
  let s := putSession s k { session s k with
    state := sessFailed, heldKem := none, kemSeed := none, chains := [], keys := [], confirmSent := false,
    confirmed := false, unacked := [] }
  let s := (s.set .qlt QLT.LAST_FAIL.CAUSE cause).raise .qlt QLT.EVT.HS_FAIL
  showSessions (secLog s .handshakeFailure k.idx cause)

/-- A check of the handshake fails: the matching REFUSE is sent (R260). -/
def failHandshake (k : Carrier) (type seqNo reason : Nat) (s : State) : State :=
  let s := s.raiseIf (reason == roleConflict) .qlt QLT.EVT.ROLE_CONFLICT
  sessionFailed k reason (refuse k type seqNo reason s)

/-! ## Paths (R258) -/

/-- The state a path is in (R258). -/
def pathNow (s : State) (x : Carrier) : Nat :=
  if inFrame s x then pathInband
  else if s.flag (.cpr x) CPR.STAT.PCH_ACTIVE && s.flag .qlt (pchSyncF x) then pathPilot
  else pathNone

/-- The attested peer of a session has signed a path's first HELLO; until it is attested the membership is not tested (R258). -/
def helloMember (key : Option (List Byte)) (part sig : List Byte) : Bool :=
  match key with
  | some key => Config.verify key part sig
  | none => true

/-- A path that comes up starts a session of its own, unless one past DOWN whose peer sent the same IDFRAG holds its first
HELLO (R258). -/
def pathJoins (s : State) (x : Carrier) : Option Carrier :=
  let y := x.other
  match s.qlt.firstHello.get x, ownerOf s y with
  | some (frag, part, sig), some k =>
    match (session s k).peer.find? (fun e => e.1 == tHello) with
    | some e =>
      if (session s k).state ≠ sessDown && beAt e.2.body 7 3 == frag && helloMember (session s k).peerKey part sig then some k
      else none
    | none => none
  | _, _ => none

/-- Give a path to a session. -/
def joinPath (x k : Carrier) (s : State) : State :=
  let s := s.setQlt { s.qlt with owner := s.qlt.owner.set x (some k) }
  showSessions (ratchetDue k (showTargets k s))

/-- Start a session of the path's own (R258, R260). -/
def startSession (x : Carrier) (s : State) : State :=
  let s := s.setQlt { s.qlt with owner := s.qlt.owner.set x (some x) }
  enterNegotiate x (putSession s x .down)

/-- The partial message of a word stream is discarded, counted once (R252). -/
def dropPartial (x : Carrier) (pilot : Bool) (s : State) : State :=
  if pilot then breakPilot s x else breakInband s x

/-- A path's state changes (R258), with the sessions that form or are joined, and the validity of its RTT (R265). -/
def pathChange (x : Carrier) (s : State) : State :=
  if !s.running .qlt then s
  else
    let st := pathNow s x
    let was := pathState s x
    let s := s.set .qlt (pick x QLT.STAT.PATH_A QLT.STAT.PATH_B) st
    let s := if was = pathInband && st != pathInband then
        dropPartial x false (s.set .qlt (pick x QLT.RTTA_HI.VALID QLT.RTTB_HI.VALID) 0) else s
    let s := if st = pathNone then s.setQlt { s.qlt with firstHello := s.qlt.firstHello.set x none } else s
    if st != pathNone && (ownerOf s x).isNone then
      match pathJoins s x with
      | some k => joinPath x k s
      | none => startSession x s
    else if st != pathNone && ownerOf s x == some x && (session s x).state == sessDown then enterNegotiate x s
    else showSessions s

/-- No path of a session has been up for 1 s (R260). -/
def sessionPathless (k : Carrier) (s : State) : State :=
  if (members s k).isEmpty || sessionUp s k || !passed s (.pathless k) secNs then s else sessionDown k s

/-- 5 s pass in NEGOTIATE or KEYING (R260). -/
def handshakeTimeout (k : Carrier) (s : State) : State :=
  let st := (session s k).state
  if (st = sessNegotiate || st = sessKeying) && passed s (.handshake k) (5 * secNs) then sessionFailed k 0x80 s else s

/-- 10 s after FAILED with a path up (R260). -/
def failedRetry (k : Carrier) (s : State) : State :=
  if (session s k).state = sessFailed && sessionUp s k && passed s (.failed k) (10 * secNs) then enterNegotiate k s else s

/-! ## The handshake (R259-R261) -/

/-- Keep a message of the peer. -/
def keepPeer (k : Carrier) (type : Nat) (m : Message) (s : State) : State :=
  let x := session s k
  putSession s k { x with peer := (type, m) :: x.peer.filter fun e => !(e.1 == type) }

/-- A message in the transcript (R259): own or peer's. -/
def transcriptOwn (s : State) (k : Carrier) (type : Nat) : List Byte :=
  (((session s k).own.find? fun e => e.1 == type).map (·.2)).getD []
def transcriptPeer (s : State) (k : Carrier) (type : Nat) : List Byte :=
  ((peerMessage s k type).map (transcriptPart type)).getD []

/-- The message the A-end, or the B-end, sent. -/
def transcriptOf (s : State) (k : Carrier) (role type : Nat) : List Byte :=
  if ownRole s = role then transcriptOwn s k type else transcriptPeer s k type

/-- th of a full handshake (R259). -/
def handshakeHash (s : State) (k : Carrier) : BitVec 256 :=
  digest (label "SQ3208-TH" ++ transcriptOf s k 0 tHello ++ transcriptOf s k 1 tHello ++ transcriptOf s k 0 tCaps
    ++ transcriptOf s k 1 tCaps ++ transcriptOf s k 0 tAttest ++ transcriptOf s k 1 tAttest
    ++ transcriptOf s k 0 tKemInit ++ transcriptOf s k 1 tKemResp)

/-- th_e of a fresh exchange within a keyed session (R259). -/
def renewalHash (s : State) (k : Carrier) : BitVec 256 :=
  digest (label "SQ3208-TH" ++ bytes32 (session s k).th ++ transcriptOf s k 0 tKemInit ++ transcriptOf s k 1 tKemResp)

/-- The epoch of a full handshake (R259). -/
def handshakeEpoch (s : State) (k : Carrier) : Nat :=
  let b := peerBody s k tHello
  if s.plinth.fresh || beAt b 2 1 == 1 then 0 else max s.plinth.lastEpoch (beAt b 3 4) + 1

/-- CERT and REPORT of an ATTEST body. -/
def attestCert (b : List Byte) : List Byte := slice b 2 (beAt b 0 2)
def attestReportOf (b : List Byte) : List Byte := slice b (4 + beAt b 0 2) (beAt b (2 + beAt b 0 2) 2)

/-- The signature of a peer's message verifies under a public key (R254). -/
def signatureGood (key : List Byte) (type : Nat) (m : Message) : Bool :=
  hasSig m && Config.verify key (signedPart type m) m.sig

/-- Carrier B's session gives way to carrier A's when both have attested the same device and A's is KEYED (R258). -/
def mergeSessions (s : State) : State :=
  let a := session s .a
  let b := session s .b
  if ownerOf s .a == some .a && ownerOf s .b == some .b && a.state == sessKeyed && a.peerKey.isSome && b.peerKey.isSome
      && a.peerId == b.peerId then
    joinPath .b .a (sessionDown .b s)
  else s

/-- Entry to KEYED (R260, R262, R263, R470). -/
def enterKeyed (k : Carrier) (s : State) : State :=
  let s := putSession s k { session s k with state := sessKeyed }
  let s := s.setPlinth { s.plinth with fresh := false, lastEpoch := (session s k).epoch }
  let s := (s.set .pln PLN.STAT.ZEROISED 0).raise .qlt QLT.EVT.SESSION_UP
  let s := sendOffer k (showTargets k s)
  mergeSessions (showSessions (ratchetDue k s))

/-- KEY_CONFIRM with CONTEXT 0, under the KQ of the new epoch (R261). -/
def sendHandshakeConfirm (k : Carrier) (s : State) : State :=
  let x := session s k
  let s := sendWith k tKeyConfirm ([0] ++ e32 x.epoch ++ bytes32 x.th) x.keys.head? s
  let s := putSession s k { session s k with confirmSent := true }
  if (session s k).confirmed then enterKeyed k s else s

/-- Both ends have derived S(e, 0): the handshake confirms it, a renewal shows the new epoch (R235, R254, R261). -/
def derived (k : Carrier) (ss : BitVec 256) (e : Nat) (s : State) : State :=
  if (session s k).state = sessKeyed then
    let s := installEpoch k ss (renewalHash s k) e s
    showSessions (s.setPlinth { s.plinth with lastEpoch := e })
  else sendHandshakeConfirm k (installEpoch k ss (handshakeHash s k) e s)

/-- The B-end processes KEM_INIT (R260): encapsulation, KEM_RESP under the current epoch, then the new secret. -/
def processKemInit (k : Carrier) (m : Message) (s : State) : State :=
  let e := beAt m.body 0 4
  let r := Config.kemEncap (m.body.drop 4) (BitVec.ofNat 256 s.random.toNat)
  let s := keepPeer k tKemInit m s.randomDrawn
  derived k r.2 e (send k tKemResp (e32 e ++ r.1) s)

/-- A joined path whose first HELLO the attested peer has not signed leaves the session and starts its own (R258). -/
def confirmMembers (k : Carrier) (key : List Byte) (s : State) : State :=
  let y := k.other
  match s.qlt.firstHello.get y with
  | some (_, part, sig) => if ownerOf s y = some k && !Config.verify key part sig then startSession y s else s
  | none => s

/-- The checks between NEGOTIATE and KEYING, in the order of R260, once both HELLOs, CAPSs and ATTESTs are held. -/
def tryKeying (k : Carrier) (s : State) : State :=
  let x := session s k
  match peerMessage s k tHello, peerMessage s k tCaps, peerMessage s k tAttest with
  | some h, some c, some a =>
    if x.state ≠ sessNegotiate || !(x.own.any fun e => e.1 == tAttest) then s
    else
      let cert := attestCert a.body
      let key := certKey cert
      if !attestAccepted s cert (attestReportOf a.body) x.nonce then failHandshake k tAttest a.seq attestFail s
      else if !signatureGood key tHello h || !signatureGood key tCaps c then failHandshake k tAttest a.seq attestFail s
      else if beAt h.body 0 1 ≠ 1 then failHandshake k tHello h.seq versionReason s
      else if beAt h.body 1 1 = ownRole s then failHandshake k tHello h.seq roleConflict s
      else if sessionPskReq s k && s.plinth.psk.isNone then failHandshake k tCaps c.seq pskRequired s
      else if beAt c.body 6 1 ≠ beAt (capsBody s k) 6 1 then failHandshake k tCaps c.seq configMismatch s
      else
        let s := putSession s k { session s k with
          state := sessKeying, peerKey := some key, peerId := certId cert, epoch := handshakeEpoch s k,
          peerTargets := (beAt c.body 1 1, beAt c.body 2 1, beAt c.body 0 1) }
        let s := showSessions (confirmMembers k key s)
        if ownRole s = 0 then
          let seed := s.random
          let s := putSession s.randomDrawn k { session s k with kemSeed := some (seed, (session s k).epoch) }
          send k tKemInit (e32 (session s k).epoch ++ Config.kemPublic seed) s
        else
          match (session s k).heldKem with
          | some m =>
            let s := putSession s k { session s k with heldKem := none }
            if !signatureGood key tKemInit m then discard dcSig s
            else if beAt m.body 0 4 = (session s k).epoch then processKemInit k m s
            else failHandshake k tKemInit m.seq configMismatch s
          | none => s
  | _, _, _ => s

/-- Send ATTEST bound to the peer's NONCE (R260). -/
def sendAttest (k : Carrier) (s : State) : State :=
  send k tAttest (attestBody s (BitVec.ofNat 256 (leAt (peerBody s k tHello) 10 32))) s

/-- HELLO is accepted (R255, R260). `known` says whether its NONCE is that of the last accepted HELLO. -/
def helloArrives (k : Carrier) (m : Message) (known first : Bool) (s : State) : State :=
  let st := (session s k).state
  if known then keepPeer k tHello m s
  else if st = sessKeyed then
    let s := enterNegotiate k s
    let s := putSession s k { session s k with awaitHello := false, recvSeq := m.seq + 1, ackDue := true }
    sendAttest k (keepPeer k tHello m s)
  else if st = sessNegotiate || st = sessKeying then
    let s := putSession s k { session s k with
      state := sessNegotiate, kemSeed := none, heldKem := none, chains := [], keys := [], confirmSent := false,
      confirmed := false, peer := if first then (session s k).peer else [] }
    let s := keepPeer k tHello m s
    let s := if first then s
      else
        let s := send k tHello (helloBody s (session s k).nonce) s
        send k tCaps (capsBody s k) s
    tryKeying k (sendAttest k (showSessions s))
  else keepPeer k tHello m s

/-- KEM_INIT (R259, R260). -/
def kemInitArrives (k : Carrier) (m : Message) (s : State) : State :=
  let x := session s k
  if x.state ≠ sessKeyed && beAt (peerBody s k tHello) 1 1 = 1 then failHandshake k tKemInit m.seq roleConflict s
  else if ownRole s ≠ 1 then discard dcState s
  else if x.state = sessNegotiate then putSession s k { x with heldKem := some m }
  else if x.state = sessKeying then
    if beAt m.body 0 4 = x.epoch then processKemInit k m s else failHandshake k tKemInit m.seq configMismatch s
  else if x.state = sessKeyed then
    if beAt m.body 0 4 = x.epoch + 1 then processKemInit k m s else refuse k tKemInit m.seq configMismatch s
  else discard dcState s

/-- KEM_RESP (R260). -/
def kemRespArrives (k : Carrier) (m : Message) (s : State) : State :=
  let x := session s k
  if x.state ≠ sessKeyed && beAt (peerBody s k tHello) 1 1 = 0 then failHandshake k tKemResp m.seq roleConflict s
  else
    match x.kemSeed with
    | some (seed, e) =>
      if ownRole s = 0 && beAt m.body 0 4 = e && (x.state == sessKeying || x.state == sessKeyed) then
        derived k (Config.kemDecap seed (m.body.drop 4)) e (keepPeer k tKemResp m s)
      else discard dcState s
    | none => discard dcState s

/-- KEY_CONFIRM with CONTEXT 0 (R261): MAC, EPOCH and th are checked in that order; any failure is KEY_MISMATCH. -/
def handshakeConfirmed (k : Carrier) (m : Message) (s : State) : State :=
  let x := session s k
  let good := match x.keys.head?, m.mac with
    | some q, some (e, t) => e == q.epoch % 256 && t == macOf q.peer tKeyConfirm m q.epoch
      && beAt m.body 1 4 == x.epoch && BitVec.ofNat 256 (leAt m.body 5 32) == x.th
    | _, _ => false
  if good then
    let s := putSession s k { x with confirmed := true }
    if x.confirmSent then enterKeyed k s else s
  else failHandshake k tKeyConfirm m.seq keyMismatch s

/-- REFUSE (R257, R260, R264, R283). -/
def refuseArrives (k : Carrier) (refType refSeq reason : Nat) (s : State) : State :=
  let s := ((s.bump .qlt QLT.REFUSE.COUNT).set .qlt QLT.REFUSE.LAST_TYPE refType).set .qlt QLT.REFUSE.LAST_REASON reason
  let st := (session s k).state
  if st = sessNegotiate || st = sessKeying then
    sessionFailed k reason (s.raiseIf (reason == roleConflict) .qlt QLT.EVT.ROLE_CONFLICT)
  else if st = sessKeyed then
    if refType = tRekey then
      (members s k).foldl (fun s x => if s.qlt.rekeySeq.get x = some refSeq then activationRefused x s else s) s
    else if refType = tStep then stepRefusedBy k s
    else if refType = tRouteSwitch then switchRefused s
    else if refType = tSleepReq then s.setQlt { s.qlt with sleepAsked := none }
    else if refType = tKemInit then putSession s k { session s k with kemSeed := none }
    else s
  else s

/-! ## Sleep and time (R265, R267) -/

/-- A step, activation or route switch is pending on a carrier of a session (R267). -/
def sleepObjection (s : State) (k : Carrier) : Bool :=
  (members s k).any fun x => stepPending s x || rateState s x == rsRestarting || activationPending s x || switchPending s x

/-- SLEEP_REQ (R256): PHASE, STATE, DELAY, MODE_A, MODE_B. -/
def sendSleep (k : Carrier) (phase : Nat) (p : SleepPlan) (s : State) : State :=
  send k tSleepReq ([BitVec.ofNat 8 phase, BitVec.ofNat 8 p.state] ++ beBytes 2 p.delay
    ++ [BitVec.ofNat 8 p.modeA, BitVec.ofNat 8 p.modeB]) s

/-- This end asks for a coordinated sleep (R267). -/
def sleepAsk (k : Carrier) (state delay : Nat) (s : State) : State :=
  if (session s k).state = sessKeyed && s.qlt.sleepAsked.isNone && s.qlt.sleepPlan.isNone && !sleepObjection s k then
    let p : SleepPlan := ⟨state, delay, lineMode s .a, lineMode s .b⟩
    sendSleep k 0 p (s.setQlt { s.qlt with sleepAsked := some p })
  else s

/-- SLEEP_REQ arrives (R267). -/
def sleepArrives (k : Carrier) (seqNo phase : Nat) (p : SleepPlan) (s : State) : State :=
  if phase = 0 then
    if sleepObjection s k || (s.qlt.sleepAsked.isSome && ownRole s == 0) then refuse k tSleepReq seqNo busyReason s
    else
      let q : SleepPlan := { p with modeA := lineMode s .a, modeB := lineMode s .b }
      sendSleep k 1 q (s.setQlt { s.qlt with sleepPlan := some q, sleepAsked := none })
  else
    match s.qlt.sleepAsked with
    | some a => if a.state = p.state then s.setQlt { s.qlt with sleepPlan := some p, sleepAsked := none } else s
    | none => s

/-- This end cancels an agreed sleep before DELAY has passed (R267). -/
def sleepCancel (k : Carrier) (s : State) : State :=
  if (session s k).state = sessKeyed && (s.qlt.sleepPlan.isSome || s.qlt.sleepAsked.isSome) then
    send k tWake ([0] ++ beBytes 8 0 ++ beBytes 4 0) (s.setQlt { s.qlt with sleepPlan := none, sleepAsked := none })
  else s

/-- WAKE arrives (R267): CAUSE 0 cancels an agreement. -/
def wakeArrives (cause : Nat) (s : State) : State :=
  if cause = 0 then s.setQlt { s.qlt with sleepPlan := none, sleepAsked := none } else s

/-- A stamp kept for a CSF. -/
def stampOf (l : List (Nat × Nat)) (csf : Nat) : Option Nat := (l.find? fun e => e.1 == csf).map (·.2)

/-- Keep a stamp; the last 4,096 are kept (R265). -/
def keepStamp (x : Carrier) (receive : Bool) (csf stamp : Nat) (s : State) : State :=
  if receive then
    s.setQlt { s.qlt with rxStamps := s.qlt.rxStamps.set x (((csf, stamp) :: s.qlt.rxStamps.get x).take 4096) }
  else s.setQlt { s.qlt with txStamps := s.qlt.txStamps.set x (((csf, stamp) :: s.qlt.txStamps.get x).take 4096) }

/-- RTT in ps from stamps in 2^-16 ns (R265). -/
def rttOf (rxRef refTx peerTx echoRx : Nat) : Nat :=
  ((((rxRef : Int) - refTx) - ((peerTx : Int) - echoRx)) * 1000 / 65536).toNat

/-- TIME arrives (R265). -/
def timeArrives (c refCsf refTx echoCsf echoRx : Nat) (s : State) : State :=
  let x : Carrier := if c = 0 then .a else .b
  let s := s.setQlt { s.qlt with peerRef := s.qlt.peerRef.set x (some refCsf) }
  if echoCsf = 0 && echoRx = 0 || pathState s x != pathInband then s
  else
    match stampOf (s.qlt.rxStamps.get x) refCsf, stampOf (s.qlt.txStamps.get x) echoCsf with
    | some rx, some own =>
      let rtt := rttOf rx own refTx echoRx
      let s := (s.set .qlt (pick x QLT.RTTA_LO.RTT QLT.RTTB_LO.RTT) rtt).set .qlt (pick x QLT.RTTA_HI.RTT QLT.RTTB_HI.RTT)
        (rtt / 2 ^ 32)
      s.set .qlt (pick x QLT.RTTA_HI.VALID QLT.RTTB_HI.VALID) 1
    | _, _ => s

/-- RK1 sends TIME on an INBAND path every PERIOD ms; REF_CSF was formed at most 1,024 CSFs ago (R265). -/
def timeSend (x : Carrier) (s : State) : State :=
  match ownerOf s x, (s.qlt.txStamps.get x).head? with
  | some k, some (csf, stamp) =>
    if quoletRuns s && pathState s x == pathInband && s.get .qlt QLT.TIME_CFG.PERIOD != 0
        && spaced s (.timeSent x) (s.get .qlt QLT.TIME_CFG.PERIOD * msNs) && csfAtOrAfter (csf + 1024) (txCsf s x)
        && (session s k).state != sessDown && (session s k).state != sessFailed then
      let echo := match s.qlt.peerRef.get x with
        | some r => match stampOf (s.qlt.rxStamps.get x) r with
          | some t => (r, t)
          | none => (0, 0)
        | none => (0, 0)
      send k tTime ([BitVec.ofNat 8 x.idx] ++ beBytes 5 csf ++ beBytes 10 stamp ++ beBytes 5 echo.1 ++ beBytes 10 echo.2)
        (startTimer (.timeSent x) s)
    else s
  | _, _ => s

/-! ## Delivery (R254-R256, R260) -/

/-- The BODY length fits its TYPE (R256). -/
def lengthFits (type : Nat) (b : List Byte) : Bool :=
  let n := b.length
  match type with
  | 0x00 => n == 0
  | 0x01 => n == 42
  | 0x02 => n == 8
  | 0x03 => decide (4 ≤ n) && n == 4 + beAt b 0 2 + beAt b (2 + beAt b 0 2) 2
  | 0x04 | 0x05 => n == 1572
  | 0x06 => if beAt b 0 1 = 0 then n == 37 else n == 9
  | 0x07 => n == 15
  | 0x08 => n == 3
  | 0x09 => n == 2
  | 0x0A => n == 9
  | 0x0B => n == 8
  | 0x0C => n == 8
  | 0x0D => n == 6
  | 0x0E => n == 13
  | 0x0F => decide (1 ≤ n) && n == 1 + 5 * beAt b 0 1
  | 0x10 => n == 31
  | 0x11 => n == 6
  | _ => false

/-- A message is known by its TYPE (R256). -/
def typeKnown (type : Nat) : Bool := decide (type ≤ tRefuse)

/-- Messages accepted before KEYED (R260). -/
def typeEarly (type : Nat) : Bool := decide (type ≤ tKeyConfirm) || type == tTime || type == tRefuse

/-- A handshake KEY_CONFIRM, whose MAC R261 checks. -/
def handshakeConfirm (s : State) (k : Carrier) (type : Nat) (m : Message) : Bool :=
  type == tKeyConfirm && beAt m.body 0 1 == 0 && (session s k).state == sessKeying

/-- The MAC check (R254, R260): a MAC must verify under the peer's KQ that its epoch byte names; in KEYED only HELLO may
come without one. -/
def macGood (s : State) (k : Carrier) (type : Nat) (m : Message) : Bool :=
  match m.mac with
  | some (e, t) => handshakeConfirm s k type m
      || (session s k).keys.any fun q => q.epoch % 256 == e && t == macOf q.peer type m q.epoch
  | none => !((session s k).state == sessKeyed) || type == tHello

/-- The SIG check (R254, R256): under the attested peer's key, or for an ATTEST under its own certificate's; before any
key is known it waits for the checks of `tryKeying`. -/
def sigGood (s : State) (k : Carrier) (type : Nat) (m : Message) : Bool :=
  if typeSigned type then
    if type = tAttest then signatureGood (certKey (attestCert m.body)) type m
    else
      match (session s k).peerKey with
      | some key => signatureGood key type m
      | none => hasSig m
  else true

/-- The path states of FLAGS [4:3] of an accepted message (R253, R258): a change sets the modulation of the next symbol
frame. -/
def noteInband (k : Carrier) (m : Message) (s : State) : State :=
  let inb := m.flags / 8 % 4
  let s := putSession s k { session s k with peerInb := inb }
  (members s k).foldl (fun s x =>
    let want := !testBit inb x.idx
    let due := if want = s.flag (.txp x) TXP.PCH_CTL.EN then none else some want
    s.setQlt { s.qlt with modulate := s.qlt.modulate.set x due }) s

/-- The first HELLO received on a path is kept (R258), and may show that the path belongs to the other carrier's
session, whose attested peer must have signed it. -/
def firstHelloOn (x : Carrier) (m : Message) (s : State) : State :=
  if (s.qlt.firstHello.get x).isSome then s
  else s.setQlt { s.qlt with
    firstHello := s.qlt.firstHello.set x (some (beAt m.body 7 3, signedPart tHello m, m.sig)) }

/-- A HELLO on a path of its own session shows the peer of the other carrier's session (R258). -/
def helloJoins (s : State) (x : Carrier) (m : Message) : Option Carrier :=
  match ownerOf s x.other with
  | some k =>
    if k = x.other && ownerOf s x != some k && (session s k).state != sessDown && (session s k).state != sessNegotiate
        && beAt (peerBody s k tHello) 7 3 == beAt m.body 7 3
        && (match (session s k).peerKey with
          | some key => signatureGood key tHello m
          | none => false) then some k
    else none
  | none => none

/-- This end sends the outputs of some channels (R256). -/
def telemetrySend (k : Carrier) (channels : List (Fin 64)) (s : State) : State :=
  if (session s k).state = sessKeyed then
    let entry (n : Fin 64) : List Byte := beBytes 1 n.val ++ beBytes 4 (s.get .tel (TEL.OUT.VALUE.at n.val))
    send k tTelemetry (beBytes 1 channels.length ++ channels.flatMap entry) s
  else s

/-- The channel values of a TELEMETRY body (R256). -/
def telemetryArrives (b : List Byte) (s : State) : State :=
  let entry (v : Sparse Nat) (i : Nat) : Sparse Nat :=
    sparseWrite (fun _ => 0) v (beAt b (1 + 5 * i) 1) (beAt b (2 + 5 * i) 4)
  s.setQlt { s.qlt with peerValues := (List.range (beAt b 0 1)).foldl entry s.qlt.peerValues }

/-- What a delivered message does, by TYPE (R256). -/
def handle (k x : Carrier) (type : Nat) (m : Message) (s : State) : State :=
  let b := m.body
  match type with
  | 0x01 => helloArrives k m true false s
  | 0x02 => tryKeying k (keepPeer k tCaps m s)
  | 0x03 =>
    if reportNonce (attestReportOf b) = (session s k).nonce then mergeSessions (tryKeying k (keepPeer k tAttest m s))
    else discard dcState s
  | 0x04 => kemInitArrives k m s
  | 0x05 => kemRespArrives k m s
  | 0x06 =>
    if beAt b 0 1 = 0 then
      if (session s k).state = sessKeying then handshakeConfirmed k m s else discard dcState s
    else if (session s k).state = sessKeyed then
      let c : Carrier := if beAt b 1 1 = 0 then .a else .b
      confirmActivation c (beAt b 2 1) (beAt b 3 1) (beAt b 4 4) (beAt b 8 1) s
    else discard dcState s
  | 0x07 =>
    let c : Carrier := if beAt b 0 1 = 0 then .a else .b
    rekeyArrives k c m.seq (beAt b 1 1) (beAt b 2 1) (beAt b 3 4) (beAt b 7 1) (beAt b 8 5) (beAt b 13 2) s
  | 0x08 => offerArrives k (beAt b 0 1) (beAt b 1 1) (beAt b 2 1) s
  | 0x09 => showTargets k s
  | 0x0A => stepArrives k m.seq (beAt b 0 1) (beAt b 1 1) (beAt b 2 1) (beAt b 3 1) (beAt b 4 5) s
  | 0x0B => stepAckArrives (beAt b 0 1) (beAt b 1 1) (beAt b 2 5) (beAt b 7 1) s
  | 0x0C =>
    if beAt b 0 1 = 0 then switchAsked k m.seq (beAt b 1 1) (beAt b 2 1) (beAt b 3 5) s
    else if beAt b 0 1 = 1 then switchAccepted s
    else s
  | 0x0D => sleepArrives k m.seq (beAt b 0 1) ⟨beAt b 1 1, beAt b 2 2, beAt b 4 1, beAt b 5 1⟩ s
  | 0x0E => wakeArrives (beAt b 0 1) s
  | 0x0F => telemetryArrives b s
  | 0x10 => timeArrives (beAt b 0 1) (beAt b 1 5) (beAt b 6 10) (beAt b 16 5) (beAt b 21 10) s
  | 0x11 => refuseArrives k (beAt b 0 1) (beAt b 1 4) (beAt b 5 1) s
  | _ => (fun _ => s) x

/-- Count an accepted message and take its acknowledgement and path flags. -/
def accepted (k : Carrier) (m : Message) (s : State) : State :=
  let x := session s k
  let newest := match x.keys, m.mac with
    | q :: _ :: _, some (e, _) => q.epoch % 256 == e
    | _, _ => false
  let s := putSession s k { x with kqAging := x.kqAging || newest }
  noteInband k m (acknowledge k m.ack (s.bump .qlt QLT.MSG_RX.COUNT))

/-- A message whose turn has come (R254, R255, R260): MAC, then SIG, then the state's filter; answers whether it is
acknowledged. -/
def deliver (k x : Carrier) (type : Nat) (m : Message) (s : State) : State × Bool :=
  if !macGood s k type m then (discard dcMac s, false)
  else if !sigGood s k type m then (discard dcSig s, false)
  else if !typeKnown type then (discard dcUnknown (accepted k m s), true)
  else if !lengthFits type m.body then (discard dcLen (accepted k m s), true)
  else if (session s k).state ≠ sessKeyed && !typeEarly type then (discard dcState s, false)
  else (handle k x type m (accepted k m s), true)

/-- Take the messages held ahead of order whose turn has come (R255). -/
def releaseAhead : Nat → Carrier → State → State
  | 0, _, s => s
  | n + 1, k, s =>
    let ses := session s k
    match ses.ahead.find? (fun e => e.2.1.seq == ses.recvSeq) with
    | none => s
    | some e =>
      let s := putSession s k { ses with ahead := ses.ahead.filter fun f => !(f.2.1.seq == ses.recvSeq) }
      let s := putSession s k { session s k with recvSeq := ses.recvSeq + 1, ackDue := true }
      let r := deliver k e.2.2 e.1 e.2.1 s
      if r.2 then releaseAhead n k r.1
      else putSession r.1 k { session r.1 k with recvSeq := ses.recvSeq }

/-- A HELLO restarts receive sequencing (R255): it is accepted at its own SEQ. -/
def restartSequence (k : Carrier) (m : Message) (s : State) : State :=
  let first := (session s k).awaitHello
  let s := accepted k m s
  let s := putSession s k { session s k with awaitHello := false, recvSeq := m.seq + 1, ahead := [], ackDue := true }
  helloArrives k m false first s

/-- The HELLO's NONCE is that of the peer's last accepted HELLO. -/
def sameNonce (s : State) (k : Carrier) (m : Message) : Bool :=
  slice (peerBody s k tHello) 10 32 == slice m.body 10 32

/-- A message arrives complete on a path (R254, R255), while RK1 runs (R36). -/
def receiveMessage (x : Carrier) (type : Nat) (m : Message) (s : State) : State :=
  if !quoletRuns s then s
  else
    let s := if type = tHello && lengthFits type m.body then firstHelloOn x m s else s
    let join := if type = tHello then helloJoins s x m else none
    match join with
    | some k => joinPath x k (if (ownerOf s x).isSome then sessionDown x s else s)
    | none =>
      match ownerOf s x with
      | none => discard dcState s
      | some k =>
        let ses := session s k
        if ses.state = sessDown then discard dcState s
        else if type = tAck then
          if macGood s k type m then (if lengthFits type m.body then accepted k m s else discard dcLen s)
          else discard dcMac s
        else if type = tHello && lengthFits type m.body && (ses.awaitHello || !sameNonce s k m) then
          if sigGood s k type m then restartSequence k m s else discard dcSig s
        else if ses.awaitHello then discard dcState s
        else if m.seq < ses.recvSeq then
          putSession (s.bump .qlt QLT.DUP.COUNT) k { ses with ackDue := true }
        else if ses.recvSeq < m.seq then
          if windowSize ≤ ses.ahead.length || (ses.ahead.any fun e => e.2.1.seq == m.seq) then s
          else putSession s k { ses with ahead := ses.ahead ++ [(type, m, x)] }
        else
          let s := putSession s k { ses with recvSeq := ses.recvSeq + 1, ackDue := true }
          let r := deliver k x type m s
          if r.2 then releaseAhead windowSize k r.1
          else putSession r.1 k { session r.1 k with recvSeq := ses.recvSeq, ackDue := ses.ackDue }

/-! ## Link words (R252) -/

/-- A message's CRC fails (R254); that of a handshake's KEY_CONFIRM fails the handshake (R261). -/
def crcFails (x : Carrier) (b : List Byte) (s : State) : State :=
  match ownerOf s x with
  | some k =>
    if (session s k).state = sessKeying && beAt b 0 1 == tKeyConfirm && beAt b 12 1 == 0 then
      failHandshake k tKeyConfirm (beAt b 4 4) keyMismatch s
    else discard dcCrc s
  | none => discard dcCrc s

/-- The bytes of a message are complete (R252, R254): LEN, then CRC. -/
def messageComplete (x : Carrier) (b : List Byte) (s : State) : State :=
  let len := beAt b 2 2
  if len ≠ b.length || len < 16 || 16384 < len then discard dcLen s
  else if beAt b (b.length - 4) 4 ≠ crc32c (b.take (b.length - 4)) then crcFails x b s
  else
    match parseMessage b with
    | some (type, m) => receiveMessage x type m s
    | none => discard dcLen s

/-- A link word arrives on a path; none stands for a flagged word or a missing-word marker (R212, R252).  While RK1 restarts none is
taken (R36). -/
def linkWord (x : Carrier) (pilot : Bool) (w : Option (BitVec 64)) (s : State) : State :=
  if !quoletRuns s then s
  else
    match w with
    | none => dropPartial x pilot s
    | some w =>
      if wordMark w ≠ 2 || !wordV w then s
      else
        let s := if wordF w then dropPartial x pilot s else s
        let held := if wordF w then some [] else (if pilot then s.qlt.asmPilot else s.qlt.asmInband).get x
        match held with
        | none => s
        | some b =>
          let b := b ++ wordBytes w
          let keep := if wordL w then none else some b
          let s := if pilot then s.setQlt { s.qlt with asmPilot := s.qlt.asmPilot.set x keep }
            else s.setQlt { s.qlt with asmInband := s.qlt.asmInband.set x keep }
          if wordL w then messageComplete x b s else s

/-! ## Timers (R254, R255) -/

/-- A message's retransmission time expires (R255). -/
def retxTimeout (k : Carrier) (seqNo : Nat) (s : State) : State :=
  let ses := session s k
  match (ses.unacked.take windowSize).find? (fun o => o.msg.seq == seqNo) with
  | none => s
  | some o =>
    if !quoletRuns s || !passed s (.retx k seqNo o.resends) (retxNs s k o.resends) then s
    else if s.get .qlt QLT.CTL.RETX_MAX ≤ o.resends then
      sessionDown k ((s.set .qlt QLT.LAST_FAIL.CAUSE 0x81).raise .qlt QLT.EVT.RETX_EXHAUSTED)
    else
      let s := putSession s k { ses with
        unacked := ses.unacked.map fun p => if p.msg.seq = seqNo then { p with resends := p.resends + 1 } else p }
      resend k o s

/-- 1 ms after accepting a message with nothing else sent (R255). -/
def ackTimer (k : Carrier) (s : State) : State := if quoletRuns s && (session s k).ackDue then send k tAck [] s else s

/-! ## Page behaviour (R268) -/

/-- Counters of QLT clear on entry to starting (R268). -/
def qltStart (s : State) : State :=
  showSessions (s.clearAll .qlt [QLT.STEP_CNT.UP, QLT.STEP_CNT.FALLBACK, QLT.MSG_TX.COUNT, QLT.MSG_RX.COUNT,
    QLT.RETX.COUNT, QLT.DUP.COUNT, QLT.DISCARD.COUNT, QLT.REFUSE.COUNT, QLT.WAKE_CNT.RX, QLT.WAKE_CNT.BAD,
    QLT.WAKE_CNT.TX, QLT.PCH_STAT.LOSS])

/-- A stop ends every session as if entering DOWN (R268). -/
def qltStop (s : State) : State := sessionDown .b (sessionDown .a s)

/-- Values QLT refuses with OUT_OF_RANGE (R269). -/
def qltWriteBad (off : Nat) (new : Word) : Bool :=
  (off == 0x40 && extract new 12 4 == 0)
  || (off == 0x48 && (decide (5 < extract new 0 4) || decide (5 < extract new 4 4)))
  || (off == 0x4C && (decide (extract new 16 16 < 10) || decide (10000 < extract new 16 16) || extract new 8 8 == 0
      || extract new 0 8 == 0))
  || (off == 0x5C && (extract new 8 8 == 0 || extract new 0 8 == 0))
  || (off == 0x94 && extract new 24 4 == 0)

end Sys2Proof.Machine
end

