-- ==== Sys2Proof/Machine/Flags.lean ====
section
/-! DEFINITION. Machine/Flags.lean: the STATUS bits of a Reckoner core (R375) and the arithmetic that sets them: the
accumulators of R381, the rounding of R382, the saturating lanes of R378 and the butterflies of R386. -/
namespace Sys2Proof.Machine

open Sys2Proof (Word)

/-! ## STATUS (R375) -/

/-- Bits of STATUS. -/
def stIe : Nat := 0
def stMode : Nat := 1
def stSat : Nat := 2
def stAccv : Nat := 3
def stExtsat : Nat := 4
def stAccvTe : Nat := 5
def stExl : Nat := 6
def stSatd : Nat := 8

/-- A bit of STATUS. -/
def statusBit (w : Word) (b : Nat) : Bool := w.getLsbD b

/-- Set or clear a bit of STATUS. -/
def statusSet (w : Word) (b : Nat) (v : Bool) : Word := deposit w b 1 (bit v)

/-! ## Lanes (R374) -/

/-- The 16-bit lanes of a D register, signed. -/
def laneL (w : Word) : Int := toSigned 16 w.toNat
def laneH (w : Word) : Int := toSigned 16 (w.toNat / 2 ^ 16)

/-- A D register from two lanes, each wrapped to 16 bits. -/
def lanes (l h : Int) : Word := BitVec.ofNat 32 (ofSigned 16 l + ofSigned 16 h * 2 ^ 16)

/-! ## Accumulators (R381) -/

/-- The value of an accumulator. -/
def accValue (x : BitVec 48) : Int := toSigned 48 x.toNat

/-- An accumulator holding a value modulo 2^48. -/
def accOf (v : Int) : BitVec 48 := BitVec.ofNat 48 (ofSigned 48 v)

/-- The value lies outside the guard bits. -/
def accOverflows (v : Int) : Bool := decide (v < -(2 ^ 47)) || decide (2 ^ 47 - 1 < v)

/-- What a slot does to the sticky bits of STATUS: ACCV, EXTSAT, and the SATD bits it sets and clears. -/
structure FlagEffect where
  accv : Bool
  extsat : Bool
  satdSet : List Nat
  satdClear : List Nat
  deriving DecidableEq, Repr

/-- No effect on the sticky bits. -/
def FlagEffect.none : FlagEffect := ⟨false, false, [], []⟩

/-- Both effects. -/
def flagBoth (x y : FlagEffect) : FlagEffect :=
  ⟨x.accv || y.accv, x.extsat || y.extsat, x.satdSet ++ y.satdSet, x.satdClear ++ y.satdClear⟩

/-- Apply an effect to STATUS. -/
def flagApply (w : Word) (e : FlagEffect) : Word :=
  let w := if e.accv then statusSet w stAccv true else w
  let w := if e.extsat then statusSet w stExtsat true else w
  let w := e.satdClear.foldl (fun w n => statusSet w (stSatd + n) false) w
  e.satdSet.foldl (fun w n => statusSet w (stSatd + n) true) w

/-- The result of putting the exact value `v` into accumulator `n`: wrapping, or with SAT saturating at the first overflow
(R381). -/
def accResult (status : Word) (n : Nat) (v : Int) : BitVec 48 × FlagEffect :=
  if !accOverflows v then (accOf v, .none)
  else if statusBit status stSat then (accOf (if v < 0 then -(2 ^ 47) else 2 ^ 47 - 1), ⟨true, false, [n], []⟩)
  else (accOf v, ⟨true, false, [], []⟩)

/-- Accumulator `n` stays as it is under the MAC-family operations: its SATD bit is set in SAT mode (R381). -/
def accHeld (status : Word) (n : Nat) : Bool := statusBit status stSat && statusBit status (stSatd + n)

/-- Add to accumulator `n`, unless it is held (R381). -/
def accAdd (status : Word) (n : Nat) (old : BitVec 48) (v : Int) : BitVec 48 × FlagEffect :=
  if accHeld status n then (old, .none)
  else accResult status n (accValue old + v)

/-- Write accumulator `n` and clear its SATD bit (R381). -/
def accPut (n : Nat) (v : Int) : BitVec 48 × FlagEffect := (accOf v, ⟨false, false, [], [n]⟩)

/-- Rounding half up and saturation of EXT (R382); true when it clamps. -/
def extRound (v : Int) (sh : Nat) : Int × Bool :=
  let r := asrRound v sh
  (satSigned 16 r, decide (satSigned 16 r ≠ r))

/-! ## Per-lane operations (R378) -/

/-- A saturating lane; true when it saturates. -/
def laneSat (v : Int) : Int × Bool := (satSigned 16 v, decide (satSigned 16 v ≠ v))

/-- Both lanes by `f`, saturating. -/
def lanesSat (f : Int → Int → Int) (a b : Word) : Word × Bool :=
  let l := laneSat (f (laneL a) (laneL b))
  let h := laneSat (f (laneH a) (laneH b))
  (lanes l.1 h.1, l.2 || h.2)

/-! ## Add-compare-select (R386) -/

/-- A 16-bit sum that wraps. -/
def wrap16 (v : Int) : Int := toSigned 16 (ofSigned 16 v)

/-- Choose between the candidate from a and the candidate from b: the latter when the wrapped difference is negative. -/
def acsChoose (fromA fromB : Int) : Int × Bool :=
  if wrap16 (fromB - fromA) < 0 then (wrap16 fromB, true) else (wrap16 fromA, false)

/-- One butterfly: the new metrics, and decision bits for top and bottom. -/
def butterfly (old : Word) (lam : Int) : Word × Nat :=
  let a := laneL old
  let b := laneH old
  let top := acsChoose (a + lam) (b - lam)
  let bottom := acsChoose (a - lam) (b + lam)
  (lanes top.1 bottom.1, bit top.2 + 2 * bit bottom.2)

/-- The four butterflies of an ACS: new metrics and the eight decision bits. -/
def acsQuad (old : List Word) (b0 b1 : Word) : List Word × Nat :=
  let lam := [laneL b0, laneH b0, laneL b1, laneH b1]
  let r := (List.range 4).map fun i => butterfly (old.getD i 0) (lam.getD i 0)
  (r.map (·.1), sumNat ((List.range 4).map fun i => ((r.map (·.2)).getD i 0) * 4 ^ i))

end Sys2Proof.Machine
end

