-- ==== Sys2Proof/Machine/Operands.lean ====
section
/-! DEFINITION. Machine/Operands.lean: the slot-word formats of the Reckoner cores (R376, R377), the control registers as
MOVC reads them (R375), address operands (R383-R385) and results in flight (R379). -/
namespace Sys2Proof.Machine

open Sys2Proof (Word Byte Page)

/-! ## The state of a core -/

/-- A core. -/
def coreAt (s : State) (n : Fin 8) : Core := s.cores.get n

/-- Replace a core. -/
def putCore (s : State) (n : Fin 8) (x : Core) : State := { s with cores := s.cores.set n x }

/-- A core's image. -/
def image (s : State) (n : Fin 8) : CoreImage := s.images.get n

/-- Replace a core's image. -/
def putImage (s : State) (n : Fin 8) (x : CoreImage) : State := { s with images := s.images.set n x }

/-- A core's data and instruction SRAM. -/
def coreData (s : State) (n : Fin 8) : Sparse Byte := s.dsram.get n
def coreCode (s : State) (n : Fin 8) : Sparse Byte := s.isram.get n

/-- Replace them. -/
def putData (s : State) (n : Fin 8) (m : Sparse Byte) : State := { s with dsram := s.dsram.set n m }
def putCode (s : State) (n : Fin 8) (m : Sparse Byte) : State := { s with isram := s.isram.set n m }

/-- Bytes of a core's instruction and data SRAM. -/
def isramBytes : Nat := 2 ^ 18
def dsramBytes : Nat := 2 ^ 19

/-! ## Formats (R377) -/

/-- A slot word's fields. -/
def opOf (w : Word) : Nat := extract w 26 6
def xOf (w : Word) : Nat := extract w 21 5
def aOf (w : Word) : Nat := extract w 16 5
def bOf (w : Word) : Nat := extract w 11 5
def shOf (w : Word) : Nat := extract w 6 5
def immOf (w : Word) : Nat := extract w 0 16
def pairOf (w : Word) : Nat := extract w 21 2
def anOf (w : Word) : Nat := extract w 18 3
def modeOf (w : Word) : Nat := extract w 16 2
def ofsOf (w : Word) : Int := toSigned 16 (extract w 0 16)
def targetOf (w : Word) : Nat := extract w 0 14
def countOf (w : Word) : Nat := extract w 16 10

/-- Format M: opcode, X, A, B, S. -/
def formatM (op x a b sh : Nat) : Word :=
  BitVec.ofNat 32 (op * 2 ^ 26 + x % 32 * 2 ^ 21 + a % 32 * 2 ^ 16 + b % 32 * 2 ^ 11 + sh % 32 * 2 ^ 6)

/-- Format I: opcode, X, IMM16. -/
def formatI (op x imm : Nat) : Word := BitVec.ofNat 32 (op * 2 ^ 26 + x % 32 * 2 ^ 21 + imm % 2 ^ 16)

/-- Format L: opcode, D, An, MODE, OFS. -/
def formatL (op d an mode : Nat) (ofs : BitVec 16) : Word :=
  BitVec.ofNat 32 (op * 2 ^ 26 + d % 32 * 2 ^ 21 + an % 8 * 2 ^ 18 + mode % 4 * 2 ^ 16 + ofs.toNat)

/-- Format C: opcode, D, IDX, target. -/
def formatC (op d idx target : Nat) : Word :=
  BitVec.ofNat 32 (op * 2 ^ 26 + d % 32 * 2 ^ 21 + idx % 32 * 2 ^ 16 + target % 2 ^ 14)

/-- LOOPI: opcode, count, target. -/
def formatLoop (count target : Nat) : Word :=
  BitVec.ofNat 32 (0x0A * 2 ^ 26 + count % 1024 * 2 ^ 16 + target % 2 ^ 14)

/-- A MAC-slot word is a listed opcode whose fixed bits are as R377 states, with the operand rules of R386. -/
def macLegal (w : Word) : Bool :=
  let op := opOf w
  if w = 0 then true
  else if op = 0x1E ∨ op = 0x1F then aOf w == 0
  else if op = 0x0A ∨ op = 0x0B then extract w 0 6 == 0 && decide (shOf w < 8)
  else if op = 0x0E then extract w 0 6 == 0 && xOf w % 4 == 0 && aOf w % 4 == 0 && bOf w % 2 == 0
  else if (1 ≤ op ∧ op ≤ 0x0D) ∨ (0x10 ≤ op ∧ op ≤ 0x1D) ∨ op = 0x20 ∨ op = 0x21 then extract w 0 6 == 0
  else false

/-- M registers exist on RK0 and RK1 only (R374, R378). -/
def hasM (n : Fin 8) : Bool := decide (n.val ≤ 1)

/-- An LS-slot word is a listed opcode; an access uses a MODE the core has, and a doubleword an even D (R378). -/
def lsLegal (n : Fin 8) (w : Word) : Bool :=
  let op := opOf w
  if w = 0 then true
  else if 1 ≤ op ∧ op ≤ 6 then
    (modeOf w ≠ 3) && (hasM n || modeOf w ≠ 2) && ((op ≠ 3 && op ≠ 6) || xOf w % 2 == 0)
  else if op = 0x0D then hasM n
  else op == 0x09 || op == 0x0A || op == 0x0B || op == 0x0C || op == 0x0F

/-- A CT-slot word is a listed opcode whose bits [15:14] are 0; a MOVC names a register that exists (R375, R377). -/
def ctLegal (w : Word) : Bool :=
  let op := opOf w
  if w = 0 then true
  else if op = 0x0B ∨ op = 0x0C then extract w 14 2 == 0 && decide (aOf w ≤ 29)
  else decide (1 ≤ op) && decide (op ≤ 0x13) && extract w 14 2 == 0

/-- A CT-slot word that is a branch, CALL, JR, RET, LOOP or LOOPI (R380, R387). -/
def ctJumps (w : Word) : Bool := decide (1 ≤ opOf w) && decide (opOf w ≤ 0x0A)

/-! ## Control registers (R375) -/

/-- A DMA channel. -/
def dmaChannel (x : Core) (c : Nat) : DmaChannel := if c = 0 then x.dma0 else x.dma1

/-- Replace a DMA channel. -/
def putDma (x : Core) (c : Nat) (d : DmaChannel) : Core := if c = 0 then { x with dma0 := d } else { x with dma1 := d }

/-- DMAc_PTR and DMAc_STAT as they read (R392). -/
def dmaPtr (d : DmaChannel) : Word := BitVec.ofNat 32 (d.head * 256 + d.tail)
def dmaStat (d : DmaChannel) : Word := if d.halted then BitVec.ofNat 32 (2 + d.error * 16) else 0

/-- A control register as MOVFC reads it; `lines` are the levels of the interrupt lines. -/
def readCtl (x : Core) (window : List Word) (lines : Nat) (nowNs : Nat) (i : Nat) : Word :=
  match i with
  | 0 => x.status
  | 1 => x.epc
  | 2 => x.ecause
  | 3 => x.eaddr
  | 4 => x.vbase
  | 5 => x.ien
  | 6 => BitVec.ofNat 32 lines
  | 7 => x.link
  | 8 => BitVec.ofNat 32 x.loop0.count
  | 9 => BitVec.ofNat 32 x.loop0.first
  | 10 => BitVec.ofNat 32 x.loop0.last
  | 11 => BitVec.ofNat 32 x.loop1.count
  | 12 => BitVec.ofNat 32 x.loop1.first
  | 13 => BitVec.ofNat 32 x.loop1.last
  | 14 => x.tb0
  | 15 => x.tb1
  | 16 => x.cbstat
  | 18 => x.estatus
  | 19 => BitVec.ofNat 32 nowNs
  | 20 => window.getD 0 0
  | 21 => window.getD 1 0
  | 22 => window.getD 2 0
  | 23 => window.getD 3 0
  | 24 => x.dma0.ring
  | 25 => dmaPtr x.dma0
  | 26 => dmaStat x.dma0
  | 27 => x.dma1.ring
  | 28 => dmaPtr x.dma1
  | 29 => dmaStat x.dma1
  | _ => 0

/-- Bits of STATUS a MOVTC writes: in user mode [5:2], else all but the reserved ones; MODE exists on RK6 alone (R375). -/
def statusMask (n : Fin 8) (user : Bool) : Word :=
  if user then 0x0000003C else if n = 6 then 0x0000FF7F else 0x0000FF7D

/-- Put a value into the part of a control register MOVTC writes (R375, R392).  A bundle address has 14 bits; VBASE is a
multiple of 128; a write clears CBSTAT. -/
def writeCtl (n : Fin 8) (user : Bool) (i v : Nat) (x : Core) : Core :=
  let w : Word := BitVec.ofNat 32 v
  match i with
  | 0 => { x with status := (x.status &&& ~~~ statusMask n user) ||| (w &&& statusMask n user) }
  | 1 => { x with epc := w }
  | 2 => { x with ecause := w }
  | 3 => { x with eaddr := w }
  | 4 => { x with vbase := BitVec.ofNat 32 (v % 16384 / 128 * 128) }
  | 5 => { x with ien := BitVec.ofNat 32 (v % 65536) }
  | 7 => { x with link := w }
  | 8 => { x with loop0 := { x.loop0 with count := v % 2 ^ 32 } }
  | 9 => { x with loop0 := { x.loop0 with first := v % 2 ^ 32 } }
  | 10 => { x with loop0 := { x.loop0 with last := v % 2 ^ 32 } }
  | 11 => { x with loop1 := { x.loop1 with count := v % 2 ^ 32 } }
  | 12 => { x with loop1 := { x.loop1 with first := v % 2 ^ 32 } }
  | 13 => { x with loop1 := { x.loop1 with last := v % 2 ^ 32 } }
  | 14 => { x with tb0 := w }
  | 15 => { x with tb1 := w }
  | 16 => { x with cbstat := 0 }
  | 18 => { x with estatus := w }
  | _ => x

/-- Control registers user code may read and may write (R375). -/
def userReads (i : Nat) : Bool :=
  i == 0 || (decide (7 ≤ i) && decide (i ≤ 16)) || (decide (19 ≤ i) && decide (i ≤ 23))
def userWrites (i : Nat) : Bool := i == 0 || (decide (7 ≤ i) && decide (i ≤ 15))

/-- Latency of a MOVTC (R379). -/
def movtcLatency (i : Nat) : Nat :=
  if i = 0 ∨ i = 5 ∨ (8 ≤ i ∧ i ≤ 13) then 2 else 1

/-! ## Results in flight (R379, R380) -/

/-- Numbers under which a user-mode MOVTC to STATUS and the decision bits of an ACS in MAC slot 0 or 1 are in flight. -/
def userStatus : Nat := 32
def tracebackShift (slot : Nat) : Nat := 33 + slot

/-- The decision bits of an ACS enter the traceback register (R386). -/
def shiftTraceback (tb : Word) (bits : Nat) : Word := (tb <<< 8) ||| BitVec.ofNat 32 bits

/-- Land one result. -/
def landFlight (n : Fin 8) (x : Core) (f : Flight) : Core :=
  match f.reg with
  | .d k => { x with d := x.d.setIfInBounds k (BitVec.ofNat 32 f.value) }
  | .slow k => { x with slow := x.slow.setIfInBounds k (BitVec.ofNat 48 f.value) }
  | .ctl i =>
    if i = userStatus then writeCtl n true 0 f.value x
    else if i = tracebackShift 0 then { x with tb0 := shiftTraceback x.tb0 f.value }
    else if i = tracebackShift 1 then { x with tb1 := shiftTraceback x.tb1 f.value }
    else writeCtl n false i f.value x

/-- Land the results due for the bundle about to issue; the later-issued of two that complete together wins (R380). -/
def landDue (n : Fin 8) (x : Core) : Core :=
  let due := x.flights.filter fun f => decide (f.due ≤ x.issued)
  { due.foldl (landFlight n) x with flights := x.flights.filter fun f => !decide (f.due ≤ x.issued) }

/-- Land every result, in order of completion: every issued bundle completes (R388, R399). -/
def landAll (n : Fin 8) (x : Core) : Core :=
  let late (k : Nat) : List Flight := x.flights.filter fun f => f.due == x.issued + k
  let now := x.flights.filter fun f => decide (f.due ≤ x.issued)
  { (now ++ late 1 ++ late 2 ++ late 3).foldl (landFlight n) x with flights := [] }

/-! ## Addresses (R383-R385) -/

/-- A remainder from 0 to l-1. -/
def wrapInto (base l v : Int) : Int := base + (v - base) % l

/-- What an address operand gives: the address accessed, An afterwards, and whether the pointer was reduced into its
window. -/
structure AddressUse where
  addr : Nat
  next : Word
  reduced : Bool
  deriving DecidableEq, Repr

/-- Address register `i` used with offset `off`: `post` modifies it, otherwise the offset is added for the access alone
(R384, R385). -/
def useAddress (x : Core) (i : Nat) (off : Int) (post : Bool) : AddressUse :=
  let a : Int := (x.a.getD i 0).toNat
  let b : Int := (x.b.getD i 0).toNat
  let l : Int := (x.l.getD i 0).toNat
  if l = 0 then
    if post then ⟨a.toNat, BitVec.ofInt 32 (a + off), false⟩ else ⟨ofSigned 32 (a + off), x.a.getD i 0, false⟩
  else
    let r := wrapInto b l a
    let moved := wrapInto b l (r + off)
    if post then ⟨ofSigned 32 r, BitVec.ofInt 32 moved, decide (r ≠ a)⟩
    else ⟨ofSigned 32 (wrapInto b l (a + off)), x.a.getD i 0, decide (r ≠ a)⟩

/-- Note a reduction in CBSTAT (R385). -/
def noteReduced (i : Nat) (x : Core) : Core :=
  let n := min (extract x.cbstat 16 16 + 1) 0xFFFF
  { x with cbstat := BitVec.ofNat 32 (n * 2 ^ 16 + i * 2 ^ 8 + 1) }

/-- The address use of an LS access by its MODE (R378). -/
def accessAddress (x : Core) (w : Word) : AddressUse :=
  let i := anOf w
  if modeOf w = 0 then useAddress x i (ofsOf w) false
  else if modeOf w = 1 then useAddress x i (ofsOf w) true
  else useAddress x i (toSigned 32 (x.m.getD (immOf w % 4) 0).toNat) true

/-- First address of the register window. -/
def windowBase : Nat := 0x08000000

/-- An address of the register window (R383). -/
def inWindow (a : Nat) : Bool := decide (windowBase ≤ a) && decide (a < 0x0C000000)

/-- Bytes of an LS access. -/
def accessSize (op : Nat) : Nat := if op = 1 ∨ op = 4 then 2 else if op = 2 ∨ op = 5 then 4 else 8

end Sys2Proof.Machine
end

