-- ==== Sys2Proof/Machine/Reckoner.lean ====
section
/-! DEFINITION. Machine/Reckoner.lean: the Reckoner cores (R373-R401) but for the issue of a bundle, which needs the
register window: what the MAC slots compute, traps and interrupts, DMA, image loading and the debug window. -/
namespace Sys2Proof.Machine

open Sys2Proof (Word Byte Page Carrier Origin)

/-! ## MAC slots (R378, R381, R382, R386) -/

/-- What a MAC slot does: D registers with their latencies, accumulators, sticky bits, and the decision bits of an ACS. -/
structure MacEffect where
  d : List (Nat × Word × Nat)
  ac : List (Nat × BitVec 48)
  flags : FlagEffect
  tb : Option Nat
  overflow : Bool
  deriving DecidableEq, Repr

/-- No effect. -/
def MacEffect.none : MacEffect := ⟨[], [], .none, .none, false⟩

/-- An effect on one D register. -/
def macD (x : Nat) (w : Word) (latency : Nat) (sat : Bool) : MacEffect :=
  ⟨[(x, w, latency)], [], ⟨false, sat, [], []⟩, .none, false⟩

/-- An effect on a pair of accumulators. -/
def macPair (p : Nat) (x y : BitVec 48 × FlagEffect) : MacEffect :=
  let f := flagBoth x.2 y.2
  ⟨[], [(2 * p, x.1), (2 * p + 1, y.1)], f, .none, f.accv⟩

/-- Real and imaginary parts of A·B, or of A·conj(B). -/
def complexRe (a b : Word) (conj : Bool) : Int :=
  laneL a * laneL b + (if conj then 1 else -1) * (laneH a * laneH b)
def complexIm (a b : Word) (conj : Bool) : Int :=
  laneH a * laneL b + (if conj then -1 else 1) * (laneL a * laneH b)

/-- The products a pair takes: lane products, or a complex product. -/
def macProducts (op : Nat) (a b : Word) : Int × Int :=
  if op ≤ 3 then (laneL a * laneL b, laneH a * laneH b) else (complexRe a b (op == 6), complexIm a b (op == 6))

/-- MPY, MAC, MSU and the complex forms. -/
def macProduct (x : Core) (op p : Nat) (a b : Word) : MacEffect :=
  let v := macProducts op a b
  let acc (n : Nat) : BitVec 48 := x.ac.getD n 0
  if op = 1 ∨ op = 4 then macPair p (accPut (2 * p) v.1) (accPut (2 * p + 1) v.2)
  else
    let sign : Int := if op = 3 then -1 else 1
    macPair p (accAdd x.status (2 * p) (acc (2 * p)) (sign * v.1))
      (accAdd x.status (2 * p + 1) (acc (2 * p + 1)) (sign * v.2))

/-- EXT (R382). -/
def macExt (x : Core) (w : Word) : MacEffect :=
  let p := aOf w % 4
  let l := extRound (accValue (x.slow.getD (2 * p) 0)) (shOf w)
  let h := extRound (accValue (x.slow.getD (2 * p + 1) 0)) (shOf w)
  macD (xOf w) (lanes l.1 h.1) 2 (l.2 || h.2)

/-- ASHL and ASHR; a held accumulator is left as it is (R381: only ACLR, AMOV, MPY and CMPY write it). DEDUCED. -/
def macShift (x : Core) (w : Word) (left : Bool) : MacEffect :=
  let p := pairOf w
  let v (n : Nat) : Int := accValue (x.slow.getD n 0)
  let f (n : Nat) : BitVec 48 × FlagEffect :=
    if accHeld x.status n then (x.ac.getD n 0, .none)
    else if left then accResult x.status n (v n * 2 ^ shOf w) else (accOf (v n / 2 ^ shOf w), .none)
  macPair p (f (2 * p)) (f (2 * p + 1))

/-- ACS (R386). -/
def macAcs (x : Core) (w : Word) : MacEffect :=
  let d (n : Nat) : Word := x.d.getD n 0
  let q := acsQuad ((List.range 4).map fun i => d (aOf w + i)) (d (bOf w)) (d (bOf w + 1))
  ⟨(List.range 4).map fun i => (xOf w + i, q.1.getD i 0, 2), [], .none, some q.2, false⟩

/-- A 32-bit or per-lane operation on A and B (R378). -/
def macAlu (op : Nat) (a b : Word) (sh : Nat) : Word × Bool :=
  if op = 0x10 then (lanes (laneL a + laneL b) (laneH a + laneH b), false)
  else if op = 0x11 then lanesSat (· + ·) a b
  else if op = 0x12 then (lanes (laneL a - laneL b) (laneH a - laneH b), false)
  else if op = 0x13 then lanesSat (· - ·) a b
  else if op = 0x14 then (a + b, false)
  else if op = 0x15 then (a - b, false)
  else if op = 0x16 then (a &&& b, false)
  else if op = 0x17 then (a ||| b, false)
  else if op = 0x18 then (a ^^^ b, false)
  else if op = 0x19 then (a <<< sh, false)
  else if op = 0x1A then (a >>> sh, false)
  else if op = 0x1B then (a.sshiftRight sh, false)
  else if op = 0x1C then (lanes (min (laneL a) (laneL b)) (min (laneH a) (laneH b)), false)
  else if op = 0x1D then (lanes (max (laneL a) (laneL b)) (max (laneH a) (laneH b)), false)
  else if op = 0x20 then (BitVec.ofNat 32 (bit (a.slt b)), false)
  else (BitVec.ofNat 32 (bit (a == b)), false)

/-- What a MAC-slot word does. -/
def macSlot (x : Core) (w : Word) : MacEffect :=
  let op := opOf w
  let a := x.d.getD (aOf w) 0
  let b := x.d.getD (bOf w) 0
  let p := pairOf w
  if op = 0 then .none
  else if op ≤ 6 then macProduct x op p a b
  else if op = 7 then macExt x w
  else if op = 8 then macPair p (accPut (2 * p) 0) (accPut (2 * p + 1) 0)
  else if op = 9 then macPair p (accPut (2 * p) a.toInt) (accPut (2 * p + 1) b.toInt)
  else if op = 0xA then macD (xOf w) (BitVec.ofNat 32 (x.slow.getD (shOf w) 0).toNat) 1 false
  else if op = 0xB then macD (xOf w) (BitVec.ofInt 32 (accValue (x.slow.getD (shOf w) 0) / 2 ^ 32)) 1 false
  else if op = 0xC then macShift x w true
  else if op = 0xD then macShift x w false
  else if op = 0xE then macAcs x w
  else if op = 0x1E then macD (xOf w) (BitVec.ofInt 32 (toSigned 16 (immOf w))) 1 false
  else if op = 0x1F then macD (xOf w) (deposit (x.d.getD (xOf w) 0) 16 16 (immOf w)) 1 false
  else
    let r := macAlu op a b (shOf w)
    macD (xOf w) r.1 1 r.2

/-! ## Registers a bundle writes (R380) -/

/-- Codes of the registers a MAC slot writes: D n, 100 + n for accumulators, 300 + n for control registers. -/
def macDests (slot : Nat) (w : Word) : List Nat :=
  let op := opOf w
  if op = 0 then []
  else if op ≤ 6 ∨ op = 8 ∨ op = 9 ∨ op = 0xC ∨ op = 0xD then [100 + 2 * pairOf w, 101 + 2 * pairOf w]
  else if op = 0xE then [xOf w, xOf w + 1, xOf w + 2, xOf w + 3, 314 + slot]
  else [xOf w]

/-- Codes of the registers an LS slot writes: 200 + n for An, 210 for Bn, 220 for Ln, 230 for Mk. -/
def lsDests (w : Word) : List Nat :=
  let op := opOf w
  let post := if modeOf w = 0 then [] else [200 + anOf w]
  if op = 1 ∨ op = 2 then xOf w :: post
  else if op = 3 then xOf w :: (xOf w + 1) :: post
  else if 4 ≤ op ∧ op ≤ 6 then post
  else if op = 9 ∨ op = 0xF then [200 + anOf w]
  else if op = 0xA then [xOf w]
  else if op = 0xB then [210 + anOf w]
  else if op = 0xC then [220 + anOf w]
  else if op = 0xD then [230 + immOf w % 4]
  else []

/-- Codes of the registers a CT slot writes. -/
def ctDests (w : Word) : List Nat :=
  let op := opOf w
  if op = 6 then [307] else if op = 0xB then [300 + aOf w] else if op = 0xC then [xOf w] else []

/-- Two slots of the bundle write one register (R380). -/
def destsClash : List (List Nat) → Bool
  | [] => false
  | l :: ls => ls.any (fun m => l.any m.contains) || destsClash ls

/-! ## Traps and interrupts (R388-R390) -/

/-- Trap causes (R390). -/
def causeIllegal : Nat := 1
def causePriv : Nat := 2
def causeFetchUe : Nat := 3
def causeLoadUe : Nat := 4
def causeAlign : Nat := 5
def causeAccess : Nat := 6
def causeAccv : Nat := 7
def causeLoopNest : Nat := 8
def causeSyscall : Nat := 9
def causeBreak : Nat := 0xA

/-- Issue ends: every issued bundle completes and the page is stopped (R389, R399). -/
def coreHalt (n : Fin 8) (s : State) : State :=
  (putCore s n { landAll n (coreAt s n) with waiting := false }).setRun (.rk n) .stopped

/-- The entry common to interrupts and traps (R388): ESTATUS, EPC, ECAUSE, IE = 0, supervisor mode, EXL = 1. -/
def enterHandler (x : Core) (epc ecause offset : Nat) : Core :=
  let st := statusSet (statusSet (statusSet x.status stIe false) stMode false) stExl true
  { x with estatus := x.status, epc := BitVec.ofNat 32 epc, ecause := BitVec.ofNat 32 ecause, status := st,
           pc := (x.vbase.toNat + offset) % 16384, branch := none, waiting := false }

/-- A trap with a cause, an EADDR where the cause has one, a SYSCALL code and the bundle to resume at; a trap while EXL is 1
is a double fault (R389). -/
def trapEnter (n : Fin 8) (cause : Nat) (eaddr : Option Nat) (code epc : Nat) (s : State) : State :=
  let x := landAll n (coreAt s n)
  if statusBit x.status stExl then
    let s := (coreHalt n s).set (.rk n) RK.CORE_STAT.DOUBLE_FAULT 1
    (s.errlog (.rk n) 1 (extract x.ecause 0 16)).raise (.rk n) RK.EVT.DOUBLE_FAULT
  else
    let x := match eaddr with
      | some a => { x with eaddr := BitVec.ofNat 32 a }
      | none => x
    let s := putCore s n (enterHandler x epc (cause + code * 256) 64)
    let s := ((s.bump (.rk n) RK.TRAP_CNT.COUNT).set (.rk n) RK.CORE_STAT.LAST_CAUSE cause).countCore n 0x0B 1
    s.raiseIf (cause == causeFetchUe || cause == causeLoadUe) (.rk n) RK.EVT.UE_TRAP

/-- The bundle a trap of the bundle at PC resumes at: the branch bundle for a trap in a delay slot (R389). -/
def trapEpc (x : Core) : Nat := match x.branch with
  | some (_, _, b) => b
  | none => x.pc

/-- Levels of the interrupt lines of a core, as IPEND shows them (R375, R388). -/
def lineLevels (s : State) (n : Fin 8) : Nat :=
  sumNat ((List.range 16).map fun l => bit (lineLevel s n.val l) * 2 ^ l)

/-- The highest line that is pending and enabled. -/
def pendingLine (s : State) (n : Fin 8) : Option Nat :=
  let en := lineLevels s n &&& (coreAt s n).ien.toNat
  (List.range 16).reverse.find? fun l => testBit en l

/-- INTERRUPT_ENTRY: the highest enabled line is taken while IE is 1, between bundles and not in a delay slot (R388). -/
def interruptEntry (n : Fin 8) (s : State) : State :=
  let x := coreAt s n
  match pendingLine s n with
  | none => s
  | some l =>
    if s.running (.rk n) && statusBit x.status stIe && x.branch.isNone then
      let x := landAll n x
      let s := putCore s n (enterHandler x x.pc (0x80 + l) (4 * l))
      (s.set (.rk n) RK.CORE_STAT.LAST_CAUSE (0x80 + l)).countCore n 0x0A 1
    else s

/-- WAIT_WAKE: a core in WAIT resumes issue once an enabled line is pending, even while IE is 0 (R388). -/
def waitWake (n : Fin 8) (s : State) : State :=
  if (coreAt s n).waiting && (pendingLine s n).isSome then putCore s n { coreAt s n with waiting := false } else s

/-- A write to HBEAT (R399). -/
def heartbeat (n : Fin 8) (s : State) : State := s.addWrap (.rk n) RK.HB_CNT.COUNT 1

/-! ## DMA (R391, R392) -/

/-- A channel of a core. -/
def coreDma (s : State) (n : Fin 8) (c : Fin 2) : DmaChannel := dmaChannel (coreAt s n) c.val

/-- Replace it. -/
def setCoreDma (s : State) (n : Fin 8) (c : Fin 2) (d : DmaChannel) : State := putCore s n (putDma (coreAt s n) c.val d)

/-- DSRAM address of descriptor `i` of a ring. -/
def dmaDescriptorAt (d : DmaChannel) (i : Nat) : Nat := extract d.ring 4 15 * 16 + 16 * i

/-- Entries of a ring. -/
def dmaEntries (d : DmaChannel) : Nat := extract d.ring 24 8

/-- STATUS of the descriptor at HEAD is written (R391). -/
def dmaStatus (n : Fin 8) (c : Fin 2) (v : Nat) (s : State) : State :=
  let d := coreDma s n c
  putData s n (writeBytes (coreData s n) (dmaDescriptorAt d d.head + 15) [BitVec.ofNat 8 v])

/-- The channel halts on an error: 1 RANGE, 2 UE, 3 DESCRIPTOR (R392). -/
def dmaFail (n : Fin 8) (c : Fin 2) (error : Nat) (s : State) : State :=
  let s := dmaStatus n c (0x80 + error) s
  let s := setCoreDma s n c { coreDma s n c with halted := true, error := error }
  (s.errlog (.rk n) 3 (256 * c.val + error)).raise (.rk n) RK.EVT.DMA_HALT

/-- The DMA window of a core, bytes of LPDDR5X (R392, R400). -/
def dmaWindow (s : State) (n : Fin 8) : Nat × Nat :=
  (s.get (.rk n) RK.DMA_WBASE.BASE * 4096, s.get (.rk n) RK.DMA_WLIM.LIMIT * 4096)

/-- The descriptor has completed: STATUS after the data, IRQ, and HEAD moves on. -/
def dmaDone (n : Fin 8) (c : Fin 2) (irq : Bool) (s : State) : State :=
  let s := dmaStatus n c 1 s
  let d := coreDma s n c
  let s := setCoreDma s n c { d with head := (d.head + 1) % max 1 (dmaEntries d) }
  (s.raiseIf irq (.rk n) RK.EVT.DMA_DONE).countCore n 0x0F 1

/-- DMA_DESCRIPTOR: the channel processes the descriptor at HEAD (R392). -/
def dmaDescriptor (n : Fin 8) (c : Fin 2) (s : State) : State :=
  let d := coreDma s n c
  if d.halted || d.head == d.tail || dmaEntries d ≤ d.head then s
  else
    let bs := readBytes (coreData s n) (dmaDescriptorAt d d.head) 16
    let remote := leAt bs 0 8
    let loc := leAt bs 8 4
    let len := leAt bs 12 2
    let ctl := leAt bs 14 1
    let size := 64 * len
    let w := dmaWindow s n
    if remote % 64 ≠ 0 ∨ loc % 64 ≠ 0 ∨ len = 0 ∨ testBit ctl 2 = false then dmaFail n c 3 s
    else if remote < w.1 ∨ w.2 < remote + size ∨ dsramBytes < loc + size ∨ lpddrBytes < remote + size then dmaFail n c 1 s
    else if testBit ctl 0 then
      dmaDone n c (testBit ctl 1) (lpddrWrite remote (readBytes (coreData s n) loc size) len s)
    else
      let x := lpddrRead remote len s
      if x.2.2 then dmaFail n c 2 x.1
      else dmaDone n c (testBit ctl 1) (putData x.1 n (writeBytes (coreData x.1 n) loc x.2.1))

/-- Software writes TAIL (R392). -/
def dmaTail (n : Fin 8) (c : Fin 2) (tail : Nat) (s : State) : State :=
  setCoreDma s n c { coreDma s n c with tail := tail % 256 }

/-- A write of 1 to DMAc_STAT [31] retries the halted descriptor (R392). -/
def dmaResume (n : Fin 8) (c : Fin 2) (s : State) : State := setCoreDma s n c { coreDma s n c with halted := false, error := 0 }

/-- MOVTC to a control register that acts at once: HBEAT and the DMA registers (R375, R392, R399). -/
def movtcAct (n : Fin 8) (i : Nat) (w : Word) (s : State) : State :=
  let c : Fin 2 := if i < 27 then 0 else 1
  if i = 17 then heartbeat n s
  else if i = 24 ∨ i = 27 then setCoreDma s n c { coreDma s n c with ring := w &&& 0xFF07FFF0 }
  else if i = 25 ∨ i = 28 then dmaTail n c (w.toNat % 256) s
  else if (i = 26 ∨ i = 29) ∧ w.getLsbD 31 then dmaResume n c s
  else s

/-! ## Signed images (R394-R396) -/

/-- RESULT codes (R396). -/
def loadOk : Nat := 1
def loadBadFormat : Nat := 2
def loadWrongCore : Nat := 3
def loadSigFail : Nat := 4
def loadDigestFail : Nat := 5
def loadRollback : Nat := 6
def loadRange : Nat := 7
def loadUe : Nat := 8
def loadNoSupervisor : Nat := 9

/-- Fields of an image's header (R394). -/
def imgKind (b : List Byte) : Nat := leAt b 5 1
def imgCores (b : List Byte) : Nat := leAt b 6 2
def imgVersion (b : List Byte) : Nat := leAt b 8 4
def imgSvn (b : List Byte) : Nat := leAt b 12 4
def imgEntry (b : List Byte) : Nat := leAt b 16 2
def imgIlen (b : List Byte) : Nat := leAt b 20 4
def imgIofs (b : List Byte) : Nat := leAt b 24 4
def imgDlen (b : List Byte) : Nat := leAt b 28 4
def imgDofs (b : List Byte) : Nat := leAt b 32 4
def imgWindow (b : List Byte) : List Word := (List.range 4).map fun i => BitVec.ofNat 32 (leAt b (36 + 4 * i) 4)
def imgDigest (b : List Byte) : List Byte := slice b 64 32
def imgSigner (b : List Byte) : List Byte := slice b 96 8

/-- Length of a signature. -/
def signatureLength : Nat := 3309

/-- Length of an image. -/
def imgLength (b : List Byte) : Nat := 256 + imgIlen b + imgDlen b + signatureLength

/-- The header has the form of R394. -/
def imgFormatOk (n : Fin 8) (b : List Byte) : Bool :=
  slice b 0 5 == [0x52, 0x4B, 0x49, 0x4D, 1] && decide (imgKind b ≤ 1) && imgIlen b % 16 == 0 && imgIofs b % 16 == 0
    && imgDlen b % 64 == 0 && imgDofs b % 64 == 0 && leAt b 18 2 == 0 && (slice b 52 12).all (· == 0)
    && (slice b 104 152).all (· == 0) && ((n = 6 ∧ imgKind b = 0) || (imgWindow b).all (· == 0))

/-- The contents lie in the core's memories, and a user image's within the user window (R395). -/
def imgFits (window : List Word) (b : List Byte) : Bool :=
  let w (i : Nat) : Nat := (window.getD i 0).toNat
  let lo (i : Nat) : Nat := if imgKind b = 1 then w i else 0
  let hi (i limit : Nat) : Nat := if imgKind b = 1 then min (w i) limit else limit
  decide (lo 0 ≤ imgIofs b) && decide (imgIofs b + imgIlen b ≤ hi 1 isramBytes)
    && decide (lo 2 ≤ imgDofs b) && decide (imgDofs b + imgDlen b ≤ hi 3 dsramBytes)

/-- The part of a firmware bundle that is a core's image. -/
def bundleImage (s : State) (n : Fin 8) : Option (List Byte) :=
  let active := match keepNewest s areaBoot with
    | some k => some (k.payload.getD 0 0)
    | none => none
  match s.archive.loadSlot.orElse fun _ => active with
  | some i => (s.archive.fw.getD i ⟨false, [], 0⟩).images.getD n.val none
  | none => none

/-- The image a LOAD names, and whether reading it met an uncorrectable error; none when the source lies outside host
memory or holds nothing (R395). -/
def loadSource (n : Fin 8) (s : State) : State × Option (List Byte × Bool) :=
  if s.flag (.rk n) RK.LOAD_CTL.SRC then (s, (bundleImage s n).map fun b => (b, false))
  else
    let a := s.get (.rk n) RK.LOAD_LO.ADDR * 4096 + s.get (.rk n) RK.LOAD_HI.ADDR * 2 ^ 32
    if a < 0x80000000 ∨ 2 ^ 35 < a + 256 then (s, none)
    else
      let h := lpddrRead a 4 s
      let len := imgLength h.2.1
      if 2 ^ 35 < a + len then (h.1, none)
      else
        let r := lpddrRead a ((len + 63) / 64) h.1
        (r.1, some (r.2.1.take len, r.2.2))

/-- The RESULT the copy step already gives, if it fails (R396). -/
def loadCheck (s : State) (n : Fin 8) (b : List Byte) (ue : Bool) : Option Nat :=
  if ue then some loadUe
  else if !imgFormatOk n b || b.length != imgLength b then some loadBadFormat
  else if !testBit (imgCores b) n.val || (imgKind b == 1 && n != 6) then some loadWrongCore
  else if imgKind b = 1 ∧ s.flag (.rk n) RK.IMG_STAT.VALID = false then some loadNoSupervisor
  else if !imgFits (image s n).window b then some loadRange
  else none

/-- Copy the contents into the core's SRAM; a supervisor image zeroes the rest of ISRAM (R395 step 2). -/
def loadCopy (n : Fin 8) (b : List Byte) (s : State) : State :=
  let code := if imgKind b = 0 then [] else coreCode s n
  let s := putCode s n (writeBytes code (imgIofs b) (slice b 256 (imgIlen b)))
  putData s n (writeBytes (coreData s n) (imgDofs b) (slice b (256 + imgIlen b) (imgDlen b)))

/-- A LOAD strobe (R395 steps 1 and 2). -/
def loadStart (n : Fin 8) (s : State) : State :=
  let r := loadSource n s
  let s := r.1.set (.rk n) RK.IMG_STAT.BUSY 1
  match r.2 with
  | none => putImage s n { image s n with loading := some [], failed := some loadRange }
  | some (b, ue) =>
    match loadCheck s n b ue with
    | some e => putImage s n { image s n with loading := some b, failed := some e }
    | none => loadCopy n b (putImage s n { image s n with loading := some b, failed := none })

/-- The contents as they stand in the core's SRAM. -/
def loadedContents (s : State) (n : Fin 8) (b : List Byte) : List Byte :=
  readBytes (coreCode s n) (imgIofs b) (imgIlen b) ++ readBytes (coreData s n) (imgDofs b) (imgDlen b)

/-- The key a kind of image is verified with. -/
def imageKey (s : State) (kind : Nat) : Option (List Byte) :=
  if kind = 0 then some Config.firmwareKey else s.plinth.codeKey

/-- The Plinth's verdict on a copied image (R395 step 3). -/
def loadVerdict (s : State) (n : Fin 8) (b : List Byte) : Nat :=
  let contents := loadedContents s n b
  let sig := slice b (imgLength b - signatureLength) signatureLength
  if bytes32 (digest contents) != imgDigest b then loadDigestFail
  else
    match imageKey s (imgKind b) with
    | none => loadSigFail
    | some k =>
      if imgSigner b != leBytes 8 (Config.shake256 64 k).toNat || !Config.verify k (slice b 0 256 ++ contents) sig then
        loadSigFail
      else if imgSvn b < sparseRead (fun _ => 0) s.plinth.svnMin (imgKind b) then loadRollback
      else loadOk

/-- Write zero to every SRAM range a load wrote (R395 step 4). -/
def loadWipe (n : Fin 8) (b : List Byte) (s : State) : State :=
  let code := if imgKind b = 0 then [] else writeBytes (coreCode s n) (imgIofs b) (List.replicate (imgIlen b) 0)
  let s := putCode s n code
  putData s n (writeBytes (coreData s n) (imgDofs b) (List.replicate (imgDlen b) 0))

/-- A load fails with a RESULT. -/
def loadFailed (n : Fin 8) (b : List Byte) (copied : Bool) (result : Nat) (s : State) : State :=
  let s := if copied then loadWipe n b s else s
  let s := if imgKind b = 1 then s.set (.rk n) RK.IMG_STAT.USER_VALID 0 else s.set (.rk n) RK.IMG_STAT.VALID 0
  let s := (s.set (.rk n) RK.IMG_STAT.RESULT result).set (.rk n) RK.IMG_STAT.BUSY 0
  (s.errlog (.rk n) 2 result).raise (.rk n) RK.EVT.LOAD_FAIL

/-- A load succeeds: the measurement is recorded and the image is valid (R395 step 4). -/
def loadSucceeded (n : Fin 8) (b : List Byte) (s : State) : State :=
  let user := imgKind b == 1
  let m := digest (slice b 0 256 ++ loadedContents s n b)
  let s := s.setPlinth { s.plinth with measured := s.plinth.measured.setIfInBounds (if user then 8 else n.val) m }
  let s := if user then
      let s := putImage s n { image s n with userEntry := imgEntry b }
      (s.set (.rk n) RK.IMG_STAT.USER_VALID 1).set (.rk n) RK.USER_VER.VERSION (imgVersion b)
    else
      let s := putImage s n { image s n with entry := imgEntry b % 16384, window := imgWindow b }
      let s := ((s.set (.rk n) RK.IMG_STAT.VALID 1).set (.rk n) RK.IMG_VER.VERSION (imgVersion b)).set (.rk n)
        RK.IMG_STAT.USER_VALID 0
      (s.set (.rk n) RK.USER_VER.VERSION 0)
  let s := ((s.set (.rk n) RK.IMG_STAT.MEAS_VALID 1).set (.rk n) RK.IMG_STAT.RESULT loadOk).set (.rk n) RK.IMG_STAT.BUSY 0
  s.raise (.rk n) RK.EVT.LOAD_DONE

/-- LOAD_VERIFY_DONE: the Plinth has verified the copy in SRAM (R395 steps 3 and 4). -/
def loadVerify (n : Fin 8) (s : State) : State :=
  let x := image s n
  match x.loading with
  | none => s
  | some b =>
    let s := putImage s n { x with loading := none, failed := none }
    match x.failed with
    | some e => loadFailed n b false e s
    | none =>
      let v := loadVerdict s n b
      if v = loadOk then loadSucceeded n b s else loadFailed n b true v s

/-- A LOAD that R396 refuses with MODE_CONFLICT. -/
def loadConflict (s : State) (n : Fin 8) (new : Word) : Bool :=
  extract new 0 1 == 1 && (!s.stopped (.rk n) || s.flag (.rk n) RK.IMG_STAT.BUSY)

/-! ## Debug window (R397) -/

/-- The core and the offset in its window of a BAR0 address. -/
def debugCore (a : Nat) : Option (Fin 8 × Nat) :=
  if 0x01000000 ≤ a then
    if h : (a - 0x01000000) / 0x200000 < 8 then some (⟨(a - 0x01000000) / 0x200000, h⟩, (a - 0x01000000) % 0x200000)
    else none
  else none

/-- A denied access. -/
def debugDeny (n : Fin 8) (s : State) : State := s.bump (.rk n) RK.DBG_CNT.DENY

/-- A 32-bit read through the debug window. -/
def debugRead (n : Fin 8) (off : Nat) (s : State) : State × Word :=
  if !s.stopped (.rk n) then (debugDeny n s, 0)
  else if off < 0x40000 then (s, BitVec.ofNat 32 (ofLeBytes (readBytes (coreCode s n) off 4)))
  else if 0x100000 ≤ off ∧ off < 0x180000 then
    (s, BitVec.ofNat 32 (ofLeBytes (readBytes (coreData s n) (off - 0x100000) 4)))
  else (s, 0)

/-- A 32-bit write through the debug window by an origin: not journalled; one to ISRAM clears MEAS_VALID. -/
def debugWrite (o : Origin) (n : Fin 8) (off : Nat) (w : Word) (s : State) : State :=
  let owned := testBit (s.get (.rk n) HDR.OWNER.MASK) o.code
  if !s.stopped (.rk n) || s.flag (.rk n) RK.DBG_LOCK.LOCK || !owned then debugDeny n s
  else
    let s := s.bump (.rk n) RK.DBG_CNT.WR
    if off < 0x40000 then
      (putCode s n (writeBytes (coreCode s n) off (leBytes 4 w.toNat))).set (.rk n) RK.IMG_STAT.MEAS_VALID 0
    else if 0x100000 ≤ off ∧ off < 0x180000 then
      putData s n (writeBytes (coreData s n) (off - 0x100000) (leBytes 4 w.toNat))
    else s

/-! ## Page behaviour (R399, R400) -/

/-- A RUN to a core that R399 refuses with MODE_CONFLICT. -/
def coreRunBad (s : State) (n : Fin 8) : Bool := !s.flag (.rk n) RK.IMG_STAT.VALID

/-- The core is reset: registers cleared, PC at ENTRY, counters cleared, its semaphores released (R374, R399, R28); RK6's firmware
restarts every history of its tap watch (R317). -/
def coreStart (n : Fin 8) (s : State) : State :=
  let s := putCore s n (.reset (image s n).entry)
  let s := if n = 6 then { s with tel := { s.tel with taps := both .clear } } else s
  (s.clearAll (.rk n) [RK.TRAP_CNT.COUNT, RK.DBG_CNT.DENY, RK.DBG_CNT.WR, RK.HB_CNT.COUNT, RK.CORE_STAT.LAST_CAUSE]).set
    (.rk n) RK.CORE_STAT.DOUBLE_FAULT 0

/-- `RKn.PC` and `RKn.CORE_STAT` as they read (R400). -/
def corePcWord (s : State) (n : Fin 8) : Word := BitVec.ofNat 32 (coreAt s n).pc
def coreStatWord (s : State) (n : Fin 8) : Word :=
  let x := coreAt s n
  BitVec.ofNat 32 (s.get (.rk n) RK.CORE_STAT.LAST_CAUSE * 2 ^ 24 + bit (statusBit x.status stMode) * 128
    + bit (statusBit x.status stExl) * 64 + bit (statusBit x.status stIe) * 32 + bit x.waiting * 16
    + bit x.dma1.halted * 4 + bit x.dma0.halted * 2 + s.get (.rk n) RK.CORE_STAT.DOUBLE_FAULT)

/-- Writes RKn refuses with MODE_CONFLICT: LOAD (R396), STEP and setting BP_EN while debugging is locked (R398). -/
def coreConflict (s : State) (n : Fin 8) (off : Nat) (old new : Word) : Bool :=
  if off = RK.LOAD_CTL.LOAD.off then loadConflict s n new
  else if off = RK.CORE_CTL.STEP.off then
    s.flag (.rk n) RK.DBG_LOCK.LOCK && (extract new 3 1 == 1 || (extract new 0 1 == 1 && extract old 0 1 == 0))
  else false

/-- What an accepted write brings beside the stored word: a STEP of a stopped core waits to be issued, a LOAD begins. -/
def coreWritten (n : Fin 8) (off : Nat) (new : Word) (s : State) : State :=
  if off = RK.CORE_CTL.STEP.off && extract new 3 1 == 1 && s.stopped (.rk n) then { s with stepsDue := s.stepsDue ++ [n] }
  else if off = RK.LOAD_CTL.LOAD.off && extract new 0 1 == 1 then loadStart n s
  else s

end Sys2Proof.Machine
end

