-- ==== Sys2Proof/Machine/Plinth.lean ====
section
/-! DEFINITION. Machine/Plinth.lean: laser holds and automatic shutdown, alarms, zeroisation, tamper, the test port, the
watch on RK0, the lockstep failure, and the Plinth's mailbox with the capsules that need no register write
(R462-R477). -/
namespace Sys2Proof.Machine

open Sys2Proof (Byte Word Carrier PerCarrier Origin Page Instr)

/-- FAULT_N is asserted: the OR of its causes (R471, R421, R536, R474). -/
def faultN (s : State) : Bool :=
  s.get .pln PLN.TAMPER_STAT.LATCHED != 0 || s.plinth.faultLatched || s.flag .pln PLN.STAT.LOCKSTEP_FAIL

/-! ## Laser holds (R469) -/

/-- Bits of `PLN.HOLD` (R469). -/
def holdAls : Nat := 0
def holdTamper : Nat := 1
def holdAlarm : Nat := 2
def holdCommand : Nat := 3
def holdFailure : Nat := 4

/-- HOLD field of a carrier. -/
def holdF (c : Carrier) : Field := pick c PLN.HOLD.HOLD_A PLN.HOLD.HOLD_B

/-- The guard of a carrier is held while an ALARM, COMMAND or FAILURE hold is set (R469, R473). -/
def holdGuard (c : Carrier) (s : State) : State :=
  let h := plnHold s c
  if testBit h holdAlarm || testBit h holdCommand || testBit h holdFailure then plinthBlank s c else plinthUnblank s c

/-- Change the holds of a carrier, with what follows at the laser and at the guard. -/
def changeHold (c : Carrier) (h : Nat) (s : State) : State :=
  if h = plnHold s c then s
  else
    let s := secLog ((s.set .pln (holdF c) h).raise .pln PLN.EVT.HOLD_CHG) .laserHold c.idx h
    safetyFollow c (holdGuard c s)

/-- Set and clear one hold of a carrier. -/
def setHold (c : Carrier) (b : Nat) (s : State) : State := changeHold c (setBit (plnHold s c) b) s
def clearHold (c : Carrier) (b : Nat) (s : State) : State := changeHold c (clearBit (plnHold s c) b) s

/-- Set a hold on both carriers. -/
def setHoldBoth (b : Nat) (s : State) : State := setHold .b b (setHold .a b s)

/-! ## Automatic laser shutdown (R469) -/

/-- States of ALS. -/
def alsNormal : Nat := 0
def alsShut : Nat := 1
def alsPulse : Nat := 2
def alsTest : Nat := 3

/-- ALS state and enable of a carrier. -/
def alsF (c : Carrier) : Field := pick c PLN.ALS_STAT.STATE_A PLN.ALS_STAT.STATE_B
def alsState (s : State) (c : Carrier) : Nat := s.get .pln (alsF c)
def alsOn (s : State) (c : Carrier) : Bool := s.flag .pln (pick c PLN.ALS_CFG.EN_A PLN.ALS_CFG.EN_B)

/-- Enter an ALS state. -/
def setAls (c : Carrier) (st : Nat) (s : State) : State := (s.set .pln (alsF c) st).raise .pln PLN.EVT.ALS

/-- LOS counts toward DETECT (R469): the carrier emits, in NORMAL. -/
def losCounts (s : State) (c : Carrier) : Bool :=
  alsOn s c && alsState s c == alsNormal && fesEmits s c && s.flag .fes (fesLosF c)

/-- LOS has held for DETECT of emitting time (R469). -/
def alsShutdown (c : Carrier) (s : State) : State :=
  if losCounts s c && passed s (.losHeld c) (s.get .pln PLN.ALS_CFG.DETECT * 100 * msNs) then
    startTimer (.alsPeriod c) (setHold c holdAls (setAls c alsShut s))
  else s

/-- A pulse begins in SHUTDOWN: PERIOD has passed, or the mailbox asks for one. -/
def alsPulseIn (c : Carrier) (st : Nat) (s : State) : State :=
  startTimer (.alsPulse c) (clearHold c holdAls ((setAls c st s).bump .pln PLN.ALS_STAT.PULSES))

/-- PERIOD has passed from shutdown, or from the last pulse it brought. -/
def alsPulseStart (c : Carrier) (s : State) : State :=
  if alsState s c = alsShut && passed s (.alsPeriod c) (s.get .pln PLN.ALS_CFG.PERIOD * secNs) then
    startTimer (.alsPeriod c) (alsPulseIn c alsPulse s)
  else s

/-- Least length of a pulse: 2.00 s - 0.25 s, or 90 s for test (R469). -/
def alsPulseNs (st : Nat) : Nat := if st = alsTest then 90 * secNs else 1750 * msNs

/-- The pulse ends with LOS still set. -/
def alsPulseEnd (c : Carrier) (s : State) : State :=
  if (alsState s c = alsPulse || alsState s c = alsTest) && passed s (.alsPulse c) (alsPulseNs (alsState s c)) then setHold c holdAls (setAls c alsShut s) else s

/-- LOS clears in any state. -/
def alsRecovery (c : Carrier) (s : State) : State :=
  if alsState s c ≠ alsNormal && !s.flag .fes (fesLosF c) then clearHold c holdAls (setAls c alsNormal s) else s

/-! ## Zeroisation (R470) -/

/-- Codes of `ZERO_CNT.LAST_CAUSE` (R475). -/
def zeroPin : Nat := 1
def zeroTamper : Nat := 2
def zeroCapsule : Nat := 3
def zeroAlarm : Nat := 4
def zeroScan : Nat := 5
def zeroHardware : Nat := 6

/-- Enabled tamper inputs that are active. -/
def tamperActive (s : State) : Nat := s.get .pln PLN.STAT.TAMPER_IN &&& s.get .pln PLN.TAMPER_CFG.EN

/-- The private keys are derived again once the cause has cleared (R470). -/
def keysRestore (s : State) : State :=
  if tamperActive s = 0 && !s.plinth.zeroiseLow && !s.flag .pln PLN.STAT.LOCKSTEP_FAIL then
    s.setPlinth { s.plinth with keysErased := false }
  else s

/-- Zeroise (R470). -/
def zeroise (cause : Nat) (s : State) : State :=
  let s := eraseAllSlots (eraseAllSlots s .a 3) .b 3
  let s := sessionDown .b (sessionDown .a s)
  let s := s.randomDrawn
  let s := s.setPlinth { s.plinth with psk := none, fresh := true, keysErased := true }
  let s := (s.set .pln PLN.STAT.PSK_LOADED 0).set .pln PLN.STAT.ZEROISED 1
  let s := (s.bump .pln PLN.ZERO_CNT.COUNT).set .pln PLN.ZERO_CNT.LAST_CAUSE cause
  let s := secLog (s.raise .pln PLN.EVT.ZEROISED) .zeroise 0 cause
  keysRestore s

/-- ZEROISE_N has been low for 1 us. -/
def zeroisePin (s : State) : State :=
  if s.plinth.zeroiseLow then s else zeroise zeroPin (s.setPlinth { s.plinth with zeroiseLow := true })

/-- ZEROISE_N is high again. -/
def zeroiseRelease (s : State) : State := keysRestore (s.setPlinth { s.plinth with zeroiseLow := false })

/-! ## Mailbox and capsules (R462-R465, R476) -/

/-- Result codes of R463 and R476. -/
def capOk : Nat := 0x00
def capBadFormat : Nat := 0x01
def capWrongDevice : Nat := 0x02
def capSigFail : Nat := 0x03
def capReplay : Nat := 0x04
def capUnknownKey : Nat := 0x05
def capNotAllowed : Nat := 0x06
def capBusy : Nat := 0x07
def capBadBody : Nat := 0x08
def capAborted : Nat := 0x09
def mbxUnknown : Nat := 0x11
def mbxBadLen : Nat := 0x12
def mbxNotFound : Nat := 0x13

/-- States of `MBX_STAT`. -/
def mbxIdle : Nat := 0
def mbxBusy : Nat := 1
def mbxDone : Nat := 2
def mbxError : Nat := 3

/-- Show a result in PLN's mailbox. -/
def mbxShow (result : Nat) (out : List Byte) (s : State) : State :=
  let s := s.setPlinth { s.plinth with mbxOut := out }
  let s := (s.set .pln PLN.MBX_STAT.OUT_LEN out.length).set .pln PLN.MBX_STAT.RESULT result
  (s.set .pln PLN.MBX_STAT.STATE (if result = capOk then mbxDone else mbxError)).raise .pln PLN.EVT.MBX_DONE

/-- What a vendor command returns for a result (R366, R476). -/
def vendorReturn (result : Nat) : MboxReturn :=
  if result = capOk then .success else if result = capBusy then .busy else if result = mbxBadLen then .invalidInput
  else if result = mbxNotFound then .notFound else .failed

/-- The request in progress ends with a result and bytes. -/
def mbxFinish (result : Nat) (out : List Byte) (s : State) : State :=
  match s.plinth.request with
  | none => s
  | some r =>
    let s := s.setPlinth { s.plinth with request := none }
    if r.fromHost then
      { s with mbox := { s.mbox with background := none, answer := ⟨vendorReturn result, [result], out⟩ } }.raise .hlk HLK.EVT.MBOX_DONE
    else mbxShow result out s

/-- A capsule ends (R463): LAST_CAPS, the record of the security log, and the request it came by. -/
def capsuleEnd (cmd result : Nat) (pairs : List Byte) (s : State) : State :=
  let s := (s.set .pln PLN.LAST_CAPS.RESULT result).set .pln PLN.LAST_CAPS.CMD cmd
  let s := if result = capOk then s.bump .pln PLN.LAST_CAPS.ACCEPTED else s
  let s := s.setPlinth { s.plinth with running := none,
                                       lastResult := [BitVec.ofNat 8 cmd, BitVec.ofNat 8 result] ++ pairs }
  let s := secLog (s.raise .pln PLN.EVT.CAPSULE) .capsule 0 (cmd + 256 * result)
  mbxFinish result [] s

/-- A capsule that runs is cut short (R471, R473). -/
def capsuleAbort (s : State) : State :=
  match s.plinth.running with
  | some x => capsuleEnd x.cmd capAborted [] s
  | none => s

/-- Key tag: the first 8 bytes of SHAKE256 of a public key. -/
def keyTag (k : List Byte) : Nat := (Config.shake256 64 k).toNat

/-- Officer keys installed. -/
def officerKeys (s : State) : List (List Byte) := s.plinth.officers.toList.filterMap id

/-- The capsule a byte string holds, when check 1 of R463 passes (R462). -/
def parseCapsule (b : List Byte) : Option Capsule :=
  if b.length ≤ 16384 && slice b 0 5 == [0x53, 0x51, 0x43, 0x50, 1] && decide (64 ≤ b.length)
      && b.length == 64 + leAt b 56 4 + signatureLength && decide (1 ≤ leAt b 5 1) && decide (leAt b 5 1 ≤ 0x0D) then
    some ⟨leAt b 5 1, BitVec.ofNat 256 (leAt b 8 32), leAt b 40 8, leAt b 48 8, slice b 64 (leAt b 56 4)⟩
  else none

/-- Keys that may have signed a capsule: the officers it names, or the key a provisioning capsule installs (R463, R465). -/
def capsuleKeys (s : State) (x : Capsule) : List (List Byte) :=
  let known := officerKeys s
  let named := known.filter fun k => keyTag k == x.signer
  let own := slice x.body 1 1952
  if known.isEmpty && s.flag .pln PLN.STAT.PROVISION && x.cmd == 1 && x.body.length == 1953 && keyTag own == x.signer then
    [own]
  else named

/-- Checks 1 to 5 of R463, in order. -/
def capsuleCheck (s : State) (b : List Byte) : Nat × Option Capsule :=
  match parseCapsule b with
  | none => (capBadFormat, none)
  | some x =>
    if !s.flag .pln PLN.STAT.ID_OK || x.target ≠ Config.deviceId then (capWrongDevice, none)
    else
      let keys := capsuleKeys s x
      if keys.isEmpty then (capUnknownKey, none)
      else if !keys.any (fun k => Config.verify k (b.take (b.length - signatureLength)) (b.drop (b.length - signatureLength))) then
        (capSigFail, none)
      else if x.counter ≤ s.plinth.counter then (capReplay, none)
      else (capOk, some x)

/-- SUBMIT_CAPSULE: checks 1 to 5, and the new counter is committed before the capsule acts (R463). -/
def submitCapsule (s : State) : State :=
  match s.plinth.request with
  | some r =>
    if r.req ≠ 1 || s.plinth.running.isSome then s
    else
      match capsuleCheck s r.input with
      | (_, some x) =>
        (s.setPlinth { s.plinth with counter := x.counter, running := some x }).setPair .pln PLN.REPLAY_LO.COUNTER
          PLN.REPLAY_HI.COUNTER x.counter
      | (result, none) => capsuleEnd (leAt r.input 5 1) result [] s
  | none => s

/-- Run a capsule that passed checks 1 to 5: the fail-closed hold accepts none (R473); otherwise its action answers the
result of check 6 and the new state. -/
def runCapsule (cmd : Nat) (act : List Byte → State → Nat × State) (s : State) : State :=
  match s.plinth.running with
  | some x =>
    if x.cmd ≠ cmd then s
    else if s.flag .pln PLN.STAT.RK0_RECOVERY then capsuleEnd cmd capNotAllowed [] s
    else
      let r := act x.body s
      capsuleEnd cmd r.1 [] r.2
  | none => s

/-- Show whether an officer key is installed. -/
def officerShow (s : State) : State := s.setFlag .pln PLN.STAT.OFFICER_SET (!(officerKeys s).isEmpty)

/-- INSTALL_OFFICER (R464). -/
def installOfficer (b : List Byte) (s : State) : Nat × State :=
  let i := leAt b 0 1
  if b.length ≠ 1953 || decide (3 < i) then (capBadBody, s)
  else if (s.plinth.officers.getD i none).isSome then (capNotAllowed, s)
  else (capOk, officerShow (s.setPlinth { s.plinth with officers := s.plinth.officers.setIfInBounds i (some (slice b 1 1952)) }))

/-- REMOVE_OFFICER (R464). -/
def removeOfficer (b : List Byte) (s : State) : Nat × State :=
  let i := leAt b 0 1
  if b.length ≠ 1 || decide (3 < i) then (capBadBody, s)
  else if (s.plinth.officers.getD i none).isSome && (officerKeys s).length == 1 then (capNotAllowed, s)
  else (capOk, officerShow (s.setPlinth { s.plinth with officers := s.plinth.officers.setIfInBounds i none }))

/-- Seed d || z of the device transport key (R457). -/
def transportSeed : BitVec 512 := Config.shake256 512 (label "SQ3208-KEM" ++ Config.uds)

/-- LOAD_PSK (R464). -/
def loadPsk (b : List Byte) (s : State) : Nat × State :=
  if b.length ≠ 1608 then (capBadBody, s)
  else
    let ss := Config.kemDecap transportSeed (b.take 1568)
    match Config.keyUnwrap (digest (label "SQ3208-PSK" ++ bytes32 ss)) (b.drop 1568) with
    | none => (capBadBody, s)
    | some k => (capOk, (s.setPlinth { s.plinth with psk := some k }).set .pln PLN.STAT.PSK_LOADED 1)

/-- CLEAR_PSK (R464). -/
def clearPsk (b : List Byte) (s : State) : Nat × State :=
  if b.isEmpty then (capOk, (s.setPlinth { s.plinth with psk := none }).set .pln PLN.STAT.PSK_LOADED 0) else (capBadBody, s)

/-- SET_TRUST (R464). -/
def setTrust (b : List Byte) (s : State) : Nat × State :=
  let i := leAt b 0 1
  if b.length ≠ 1953 || i == 0 || decide (3 < i) then (capBadBody, s)
  else
    let key := slice b 1 1952
    (capOk, s.setPlinth { s.plinth with trust := s.plinth.trust.setIfInBounds i (if key.all (· == 0) then none else some key) })

/-- SET_ALLOW (R464). -/
def setAllow (b : List Byte) (s : State) : Nat × State :=
  let i := leAt b 0 1
  if b.length ≠ 33 || decide (7 < i) then (capBadBody, s)
  else (capOk, s.setPlinth { s.plinth with allow := s.plinth.allow.setIfInBounds i (some (BitVec.ofNat 256 (leAt b 1 32))) })

/-- SET_CODE_KEY (R464): RK6's user image is invalidated. -/
def setCodeKey (b : List Byte) (s : State) : Nat × State :=
  if b.length ≠ 1952 then (capBadBody, s)
  else (capOk, (s.setPlinth { s.plinth with codeKey := some b }).set (.rk 6) RK.IMG_STAT.USER_VALID 0)

/-- SET_SVN_MIN (R464). -/
def setSvnMin (b : List Byte) (s : State) : Nat × State :=
  let kind := leAt b 0 1
  let svn := leAt b 1 4
  if b.length ≠ 5 || decide (1 < kind) then (capBadBody, s)
  else if svn < sparseRead (fun _ => 0) s.plinth.svnMin kind then (capNotAllowed, s)
  else (capOk, s.setPlinth { s.plinth with svnMin := sparseWrite (fun _ => 0) s.plinth.svnMin kind svn })

/-! ## The test port (R472) -/

/-- The port closes. -/
def closeTestPort (s : State) : State :=
  if s.flag .pln PLN.STAT.TEST_OPEN then
    ((s.set .pln PLN.STAT.TEST_OPEN 0).set .pln PLN.STAT.SCAN_OPEN 0).raise .pln PLN.EVT.TEST_PORT
  else s

/-- The port opens for the stated minutes. -/
def openTestPort (scan : Bool) (minutes : Nat) (s : State) : State :=
  let s := if scan then
      let s := zeroise zeroScan s
      setHoldBoth holdCommand (s.setPlinth { s.plinth with scanHold := true })
    else s
  let s := s.setPlinth { s.plinth with testUntil := s.elapsedNs + minutes * 60000000000 }
  ((s.set .pln PLN.STAT.TEST_OPEN 1).setFlag .pln PLN.STAT.SCAN_OPEN scan).raise .pln PLN.EVT.TEST_PORT

/-- TEST_PORT_EXPIRY: the stated minutes are over. -/
def testPortExpiry (s : State) : State :=
  if s.plinth.testUntil ≤ s.elapsedNs ∨ pwrIdle < s.power then closeTestPort s else s

/-- Minutes left open, rounded up (R475). -/
def testLeft (s : State) : Nat :=
  if s.flag .pln PLN.STAT.TEST_OPEN then (s.plinth.testUntil - s.elapsedNs + 59999999999) / 60000000000 else 0

/-- TEST_PORT (R464, R472). -/
def testPort (b : List Byte) (s : State) : Nat × State :=
  let mode := leAt b 0 1
  let minutes := leAt b 1 2
  if b.length ≠ 3 || decide (2 < mode) then (capBadBody, s)
  else if mode = 0 then (capOk, closeTestPort s)
  else if minutes = 0 || decide (1440 < minutes) then (capBadBody, s)
  else (capOk, openTestPort (mode == 2) minutes s)

/-- ZEROISE (R464). -/
def zeroiseCapsule (b : List Byte) (s : State) : Nat × State :=
  if b.isEmpty then (capOk, zeroise zeroCapsule s) else (capBadBody, s)

/-- RELEASE (R464). -/
def release (b : List Byte) (s : State) : Nat × State :=
  let mask := leAt b 0 1
  if b.length ≠ 1 then (capBadBody, s)
  else if testBit mask 0 && tamperActive s != 0 then (capNotAllowed, s)
  else
    let s := if testBit mask 0 then
        let s := (s.set .pln PLN.TAMPER_STAT.LATCHED 0).set .pln PLN.STAT.TAMPER_LATCH 0
        clearHold .b holdTamper (clearHold .a holdTamper s)
      else s
    let s := if testBit mask 1 then clearHold .a holdAlarm s else s
    (capOk, if testBit mask 2 then clearHold .b holdAlarm s else s)

/-! ## Requests other than capsules (R476) -/

/-- Answer the request in progress when it has this number. -/
def answerRequest (req : Nat) (act : List Byte → State → Nat × List Byte × State) (s : State) : State :=
  match s.plinth.request with
  | some r =>
    if r.req ≠ req then s
    else
      let a := act r.input s
      mbxFinish a.1 a.2.1 a.2.2
  | none => s

/-- GET_RESULT. -/
def getResult (b : List Byte) (s : State) : Nat × List Byte × State :=
  if b.isEmpty then (capOk, s.plinth.lastResult, s) else (mbxBadLen, [], s)

/-- GET_ATTEST: nothing is signed while the Plinth may not sign (R457, R470). -/
def getAttest (b : List Byte) (s : State) : Nat × List Byte × State :=
  if b.length ≠ 32 then (mbxBadLen, [], s)
  else if !canSign s then (capNotAllowed, [], s)
  else (capOk, attestReport s (BitVec.ofNat 256 (ofLeBytes b)), s)

/-- GET_JOURNAL_SIG. -/
def getJournalSig (b : List Byte) (s : State) : Nat × List Byte × State :=
  if b.length ≠ 8 then (mbxBadLen, [], s)
  else
    match s.journal.signatures.find? fun e => e.1 == ofLeBytes b with
    | some e => (capOk, e.2, s)
    | none => (mbxNotFound, [], s)

/-- GET_CERT. -/
def getCert (b : List Byte) (s : State) : Nat × List Byte × State :=
  if b.isEmpty then (capOk, Config.certificate, s) else (mbxBadLen, [], s)

/-- ALS_RESTART. -/
def alsRestart (b : List Byte) (s : State) : Nat × List Byte × State :=
  let c : Carrier := if leAt b 0 1 = 0 then .a else .b
  if b.length ≠ 2 then (mbxBadLen, [], s)
  else if decide (1 < leAt b 0 1) || decide (1 < leAt b 1 1) || alsState s c != alsShut then (capNotAllowed, [], s)
  else (capOk, [], alsPulseIn c (if leAt b 1 1 = 0 then alsPulse else alsTest) s)

/-- A request R476 does not list. -/
def unknownRequest (s : State) : State :=
  match s.plinth.request with
  | some r => if r.req = 0 || decide (6 < r.req) then mbxFinish mbxUnknown [] s else s
  | none => s

/-- A read of MBX_OUT: the next four result bytes (R475). -/
def mbxOutWord (s : State) : Word := BitVec.ofNat 32 (ofLeBytes (s.plinth.mbxOut.take 4))
def mbxOutRead (s : State) : State := s.setPlinth { s.plinth with mbxOut := s.plinth.mbxOut.drop 4 }

/-- GO starts a request; one while the host's path runs another is answered BUSY (R476). -/
def mbxGo (s : State) : State :=
  let len := s.get .pln PLN.MBX_CTL.LEN
  let r : PlinthRequest := ⟨false, s.get .pln PLN.MBX_CTL.REQ, s.plinth.mbxIn.take len⟩
  let s := s.setPlinth { s.plinth with mbxIn := [] }
  if s.plinth.request.isSome then mbxShow capBusy [] s
  else (s.setPlinth { s.plinth with request := some r }).set .pln PLN.MBX_STAT.STATE mbxBusy

/-! ## Alarms (R468) -/

/-- The Plinth's action on an alarm of a carrier it has been notified of (R468). -/
def alarmAction (c : Carrier) (tap : Bool) (s : State) : State :=
  let src := if tap then sourceOf .tel (match c with | .a => TEL.EVT.TAP_ALARM_A | .b => TEL.EVT.TAP_ALARM_B)
    else sourceOf (.cry c) CRY.EVT.TAG_BURST
  if !s.evr.plinthNotices.contains src || s.flag .pln PLN.STAT.LOCKSTEP_FAIL then s
  else
    let s := { s with evr := { s.evr with plinthNotices := s.evr.plinthNotices.erase src } }
    let act := s.get .pln (if tap then PLN.POLICY.TAP_ACT else PLN.POLICY.TAGBURST_ACT)
    let s := secLog s .alarm c.idx src
    if act = 0 then s
    else if act = 1 then
      match ownerOf s c with
      | some k => startExchange k (secLog s .alarmAction c.idx act)
      | none => s
    else if act = 2 then
      if testBit (plnHold s c) holdAlarm then s
      else castOccurs 10 (setHold c holdAlarm (secLog s .alarmAction c.idx act))
    else if s.flag .pln PLN.STAT.ZEROISED then s
    else castOccurs 10 (zeroise zeroAlarm (secLog s .alarmAction c.idx act))

/-! ## Tamper (R471) -/

/-- Enabled tamper inputs become active. -/
def tamper (mask : Nat) (s : State) : State :=
  let s := s.set .pln PLN.TAMPER_STAT.LATCHED (s.get .pln PLN.TAMPER_STAT.LATCHED ||| mask)
  let s := (s.set .pln PLN.STAT.TAMPER_LATCH 1).bump .pln PLN.TAMPER_STAT.COUNT
  let s := secLog (s.raise .pln PLN.EVT.TAMPER) .tamper 0 mask
  let s := zeroise zeroTamper (capsuleAbort s)
  closeTestPort (setHoldBoth holdTamper s)

/-- Input `i` has been active for 10 us. -/
def tamperInput (i : Fin 4) (s : State) : State :=
  let was := tamperActive s
  let s := s.set .pln PLN.STAT.TAMPER_IN (setBit (s.get .pln PLN.STAT.TAMPER_IN) i.val)
  if testBit (tamperActive s) i.val && !testBit was i.val then tamper (2 ^ i.val) s else s

/-- Input `i` returns to its inactive level. -/
def tamperClear (i : Fin 4) (s : State) : State :=
  keysRestore (s.set .pln PLN.STAT.TAMPER_IN (clearBit (s.get .pln PLN.STAT.TAMPER_IN) i.val))

/-- TAMPER_CFG changes: an input whose polarity flips changes between active and inactive, and one enabled while active acts
(R471). -/
def tamperConfig (old new : Word) (s : State) : State :=
  let was := s.get .pln PLN.STAT.TAMPER_IN &&& extract old 0 4
  let input := s.get .pln PLN.STAT.TAMPER_IN ^^^ (extract old 4 4 ^^^ extract new 4 4)
  let s := s.set .pln PLN.STAT.TAMPER_IN input
  let fresh := tamperActive s &&& (15 - was)
  if fresh = 0 then keysRestore s else tamper fresh s

/-- HOLD_SET changes: the COMMAND holds follow, but for those of a port opened in scan mode (R469, R472). -/
def commandHolds (s : State) : State :=
  let one (c : Carrier) (f : Field) (s : State) : State :=
    if s.flag .pln f then setHold c holdCommand s else if s.plinth.scanHold then s else clearHold c holdCommand s
  one .b PLN.HOLD_SET.CMD_B (one .a PLN.HOLD_SET.CMD_A s)

/-! ## The watch on RK0 (R473) -/

/-- An RK0 failure: the fail-closed hold begins and a running capsule is cut short. -/
def rk0Failure (s : State) : State :=
  let s := (s.set .pln PLN.STAT.RK0_RECOVERY 1).bump .pln PLN.RK0_WATCH.FAILURES
  capsuleAbort (secLog (stopTimer .rk0Good (s.raise .pln PLN.EVT.RK0_FAIL)) .rk0Recovery 0 0)

/-- HB_PERIOD (R475). -/
def hbPeriodNs (s : State) : Nat := s.get .pln PLN.POLICY.HB_PERIOD * 10 * msNs

/-- RK0_HEARTBEAT_CHECK: the end of an HB_PERIOD with no change, a fault of RK0, or a STOP of RK0 more than 1 s old. -/
def heartbeatCheck (s : State) : State :=
  let beat := s.get (.rk 0) RK.HB_CNT.COUNT
  if !s.plinth.rk0Seen || decide (pwrIdle < s.power) || s.flag .pln PLN.STAT.RK0_RECOVERY || s.flag .pln PLN.STAT.LOCKSTEP_FAIL then s
  else if s.running (.rk 0) then
    if !passed s .heartbeat (hbPeriodNs s) then s
    else if beat = s.plinth.lastBeat then rk0Failure s
    else startTimer .heartbeat (s.setPlinth { s.plinth with lastBeat := beat })
  else if testBit (s.get (.rk 0) HDR.EVT_RAW.EVT) RK.EVT.DOUBLE_FAULT || testBit (s.get (.rk 0) HDR.EVT_RAW.EVT) RK.EVT.HALTED
      || passed s .rk0Stopped (secNs + 1) then rk0Failure s
  else s

/-- The first good heartbeat after a reset ends the hold; 600 s of heartbeat return the count to 0. -/
def recoveryEnd (s : State) : State :=
  let beat := s.get (.rk 0) RK.HB_CNT.COUNT
  if s.flag .pln PLN.STAT.RK0_RECOVERY then
    if s.running (.rk 0) && beat != s.plinth.lastBeat && !testBit (plnHold s .a) holdFailure then
      let s := secLog (s.set .pln PLN.STAT.RK0_RECOVERY 0) .rk0Recovery 0 1
      let s := startTimer .rk0Good (startTimer .heartbeat s)
      s.setPlinth { s.plinth with lastBeat := beat }
    else s
  else if passed s .rk0Good (600 * secNs) && s.running (.rk 0) then s.set .pln PLN.STAT.RK0_RESETS 0
  else s

/-! ## When the Plinth fails (R474) -/

/-- A lockstep mismatch, or an uncorrectable error in the Plinth's SRAM: the hardware acts without firmware. -/
def lockstepFail (s : State) : State :=
  if s.flag .pln PLN.STAT.LOCKSTEP_FAIL then s
  else
    let one (c : Carrier) (s : State) : State :=
      outputCut c (leaveEncrypting (s.setCipher c { s.cipher.get c with hardwareHold := true }) c 7)
    let s := (s.set .pln PLN.STAT.LOCKSTEP_FAIL 1).set .pln PLN.STAT.READY 0
    let s := one .b (one .a s)
    let s := zeroise zeroHardware s
    s.setPlinth { s.plinth with request := none, running := none, mbxIn := [], mbxOut := [] }

/-! ## The page (R475) -/

/-- OUT_OF_RANGE of PLN. -/
def plnWriteBad (off : Nat) (new : Word) : Bool :=
  (off == 0x048 && (extract new 8 8 == 0 || decide (100 < extract new 8 8)))
    || (off == 0x04C && (decide (extract new 16 8 < 100) || extract new 8 8 == 0 || decide (30 < extract new 8 8)))

/-- MODE_CONFLICT of PLN (R474, R476): a GO while busy, before LEN bytes, or after a lockstep failure. -/
def plnConflict (s : State) (off : Nat) (new : Word) : Bool :=
  off == 0x080 && extract new 31 1 == 1
    && (s.get .pln PLN.MBX_STAT.STATE == mbxBusy || decide (s.plinth.mbxIn.length < extract new 0 16)
      || s.flag .pln PLN.STAT.LOCKSTEP_FAIL)

/-- What an accepted write to PLN does. -/
def plnWritten (off : Nat) (old new : Word) (s : State) : State :=
  if off = 0x048 then s.setPlinth { s.plinth with policy := word s .pln off }
  else if off = 0x04C then s.setPlinth { s.plinth with alsCfg := word s .pln off }
  else if off = 0x054 then tamperConfig old new s
  else if off = 0x05C then commandHolds (s.setPlinth { s.plinth with holdSet := word s .pln off })
  else if off = 0x080 then (if extract new 31 1 = 1 then mbxGo s else s)
  else if off = 0x088 then s.setPlinth { s.plinth with mbxIn := s.plinth.mbxIn ++ leBytes 4 new.toNat }
  else s

end Sys2Proof.Machine
end

