-- ==== Sys2Proof/Machine/SelfTest.lean ====
section
/-! DEFINITION. Machine/SelfTest.lean: logic BIST at shutdown, at start-up and on demand (R529-R540). -/
namespace Sys2Proof.Machine

open Sys2Proof (Byte Word Carrier Page)

/-- Change BST's state. -/
def State.setBst (s : State) (x : SelfTest) : State := { s with selfTest := x }

/-! ## Test blocks (R529) -/

/-- The ten pages of a carrier in the order of R529. -/
def bistCarrier (c : Carrier) : List Page :=
  [.txp c, .cdc c, .eqz c, .trc c, .cpr c, .mls c, .dmp c, .fec c, .lfm c, .cry c]

/-- The pages of a test block. -/
def blockPages (b : Nat) : List Page :=
  if b < 10 then ((bistCarrier .a)[b]?).toList
  else if b < 20 then ((bistCarrier .b)[b - 10]?).toList
  else if b = 20 then [.cpc .a]
  else if b = 21 then [.cpc .b]
  else if h : 22 ≤ b ∧ b < 38 then [.clx ⟨b - 22, by omega⟩]
  else if h : 38 ≤ b ∧ b < 46 then [.rk ⟨b - 38, by omega⟩, .tly ⟨b - 38, by omega⟩]
  else if b = 46 then [.glb, .evr, .cj]
  else if b = 47 then [.qlt]
  else if b = 48 then [.rps]
  else if b = 49 then [.tel]
  else if b = 50 then [.cast]
  else if b = 51 then [.fes]
  else if b = 52 then [.cal, .hk 0, .hk 1, .aux]
  else if b = 53 then [.arc]
  else if b = 54 then [.lpm]
  else if b = 55 then [.pln]
  else if b = 57 then [.pwr, .hlk, .ecc, .mrm]
  else []

/-- The power group of a block. -/
def blockGroup (b : Nat) : Nat :=
  if b < 20 then [3, 1, 1, 1, 1, 1, 1, 3, 3, 3, 3, 2, 2, 2, 2, 2, 2, 3, 3, 3].getD b 0
  else if b < 38 then 4
  else if b < 53 then 5
  else 6

/-- A block that can be tested on demand. -/
def blockOn (b : Nat) : Bool := decide (b < 46) || (decide (47 ≤ b) && decide (b ≤ 51))

/-- A page is under on-demand test. -/
def underTest (s : State) (p : Page) : Bool :=
  match s.selfTest.testing with
  | some (b, _) => (blockPages b).contains p
  | none => false

/-- A failed block bars the whole device from running carriers (R536). -/
def bistFatal (s : State) : Bool := s.selfTest.failedAtStart.any fun b => b == 55 || b == 56 || b == 38

/-- RUN to a page is refused with MODE_CONFLICT (R536, R539). -/
def bistRunBad (s : State) (p : Page) : Bool :=
  let carrier := (bistCarrier .a).contains p || (bistCarrier .b).contains p
  (carrier && bistFatal s) || (s.selfTest.failedAtStart ++ s.selfTest.failedOnDemand).any fun b => (blockPages b).contains p

/-! ## Results and records (R532, R534) -/

/-- STATUS codes. -/
def bistNotRun : Nat := 0
def bistStarted : Nat := 1
def bistPass : Nat := 2
def bistFail : Nat := 3
def bistIncomplete : Nat := 4

/-- What a test of a block gives: the applied pattern count and signature, or none when it is cut short (R532). -/
def blockResult (b : Nat) (r : Option (Nat × Nat)) : BlockResult :=
  match r with
  | none => ⟨bistIncomplete, 0, 0⟩
  | some (n, sig) => ⟨if n = Config.bistPatterns b ∧ sig = Config.bistSignature b then bistPass else bistFail, n, sig⟩

/-- Results of a pass over all blocks. -/
def passResults (rs : List (Option (Nat × Nat))) : List BlockResult :=
  (List.range 58).map fun b => blockResult b (rs.getD b none)

/-- A record (R534) as numbers: boot count, KIND, start and end times, then STATUS, count and signature of every block. -/
def bistRecord (s : State) (kind start stop : Nat) (bs : List BlockResult) : List Nat :=
  [s.keep.bootCount, kind, start, stop] ++ bs.flatMap fun x => [x.status, x.patterns, x.signature]

/-- Block results of a record. -/
def recordResult (r : List Nat) (b : Nat) : BlockResult :=
  ⟨r.getD (4 + 3 * b) 0, r.getD (5 + 3 * b) 0, r.getD (6 + 3 * b) 0⟩

/-! ## The shutdown test (R533) -/

/-- Step 4 of R509: the STARTED record, the test, the final record. -/
def shutdownTest (rs : List (Option (Nat × Nat))) (s : State) : State :=
  if !s.flag .bst BST.CTL.SD_EN then
    keepCommit areaBist (bistRecord s 1 s.nowNs s.nowNs (List.replicate 58 ⟨bistNotRun, 0, 0⟩)) s
  else
    let s := keepCommit areaBist (bistRecord s 1 s.nowNs 0 (List.replicate 58 ⟨bistStarted, 0, 0⟩)) s
    let code := s.get .bst BST.CTL.BIST_CODE
    let s := { s.set .pwr PWR.VDD.APPLIED code with vddRequested := code }
    let bs := passResults rs
    let s := keepCommit areaBist (bistRecord s 1 s.nowNs s.nowNs bs) (s.setBst { s.selfTest with blocks := bs })
    s.raiseIf (bs.any fun x => x.status != bistPass) .bst BST.EVT.SD_FAIL

/-- The newest record says that the previous shutdown was orderly: a final KIND 1 record of the run before this one. -/
def shutdownOrderly (s : State) : Bool :=
  match keepNewest s areaBist with
  | some k => k.payload.getD 1 0 == 1 && k.payload.getD 0 0 + 1 == s.keep.bootCount
      && (List.range 58).all fun b => (recordResult k.payload b).status != bistStarted
  | none => false

/-! ## At start-up (R535, R536) -/

/-- LAST_SD of the record found, and whether start-up LBIST runs; the boot count already counts this start. -/
def bistRead (s : State) : State × Bool :=
  match keepNewest s areaBist with
  | none => (s.set .bst BST.LAST_SD.MISSING 1, true)
  | some k =>
    let bs := (List.range 58).map fun b => (recordResult k.payload b)
    let stale := k.payload.getD 1 0 == 1 && k.payload.getD 0 0 + 1 != s.keep.bootCount
    let s := (s.setFlag .bst BST.LAST_SD.MISSING stale).set .bst BST.LAST_SD.FAILED
      (bs.filter fun x => x.status == bistFail).length
    let s := s.set .bst BST.LAST_SD.INCOMPLETE
      (bs.filter fun x => x.status != bistFail && x.status != bistPass).length
    let bs := bs.map fun x => if x.status = bistStarted then { x with status := bistIncomplete } else x
    (s.setBst { s.selfTest with blocks := bs }, stale || bs.any fun x => x.status != bistPass)

/-- Start-up LBIST, and what its failures bar until a device reset. -/
def startupTest (rs : List (Option (Nat × Nat))) (s : State) : State :=
  let bs := passResults rs
  let failed := (List.range 58).filter fun b => (bs.getD b ⟨bistPass, 0, 0⟩).status != bistPass
  let s := s.setBst { s.selfTest with blocks := bs, failedAtStart := failed }
  let s := keepCommit areaBist (bistRecord s 2 s.nowNs s.nowNs bs) s
  let s := (s.set .bst BST.STAT.STARTUP_RAN 1).raise .bst BST.EVT.STARTUP_RAN
  if failed.isEmpty then s
  else
    let s := s.raise .bst BST.EVT.BLOCK_FAIL
    { s with plinth := { s.plinth with faultLatched := true, lasersBarred := s.plinth.lasersBarred || bistFatal s } }

/-- RK7 copies a final record to the BISTREC region (R534). -/
def copyRecord (s : State) : State :=
  match keepNewest s areaBist with
  | some k => if archiveTakes s then s.setBst { s.selfTest with copied := k.payload :: s.selfTest.copied } else s
  | none => s

/-! ## On demand (R537-R539) -/

/-- A GO is refused with MODE_CONFLICT (R537, R505). -/
def odConflict (s : State) (new : Word) : Bool :=
  let b := extract new 8 6
  let lfm (c : Carrier) : Bool := !s.stopped (.lfm c)
  extract new 0 1 == 1 && (!blockOn b || (blockPages b).any (fun p => !s.stopped p) || s.selfTest.testing.isSome
    || (b == 9 && lfm .a) || (b == 19 && lfm .b) || s.entering pwrIdle)

/-- GO: the test of the block begins; the Plinth erases the slots of a cipher. -/
def odGo (s : State) : State :=
  let b := s.get .bst BST.CTL.OD_BLOCK
  let s := if b = 9 then eraseAllSlots s .a 3 else if b = 19 then eraseAllSlots s .b 3 else s
  let s := (s.set .bst BST.STAT.PHASE 3).set .bst BST.STAT.GROUP (blockGroup b)
  s.setBst { s.selfTest with testing := some (b, s.nowNs) }

/-- The word a test leaves at an offset of a page: its reset value, but OWNER and the PO fields as before (R539). -/
def reinitWord (s : State) (p : Page) (off : Nat) : Word :=
  let old := word s p off
  ((fieldsAt p off).filter fun f => f.acc == Access.po).foldl
    (fun w f => match f.instanceAt off with
      | some _ => deposit w f.lo f.width (extract old f.lo f.width)
      | none => w) (resetWord (pageBase p + off))

/-- Every register word of a page takes its value after a test; nothing waits for its boundary any more. -/
def reinitPage (s : State) (p : Page) : State :=
  let s := { s with staged := s.staged.filter fun x => pageOfAddr x.addr != some p }
  let offs := (s.regs.filter fun e => decide (pageBase p ≤ e.1) && decide (e.1 < pageBase p + 4096)).map fun e => e.1 - pageBase p
  sendMessages p s (offs.foldl (fun t off => setWord t p off (reinitWord s p off)) s)

/-- The state of a page outside its registers and its SRAM after a test: its reset value (R531). -/
def reinitState (s : State) (p : Page) : State :=
  let r := State.reset
  match p with
  | .txp c => { s with txDsp := s.txDsp.set c (r.txDsp.get c) }
  | .cdc c => { s with dispersion := s.dispersion.set c (r.dispersion.get c) }
  | .eqz c => { s with equaliser := s.equaliser.set c (r.equaliser.get c) }
  | .cpr c => { s with carrierRec := s.carrierRec.set c (r.carrierRec.get c) }
  | .dmp c => { s with demapper := s.demapper.set c (r.demapper.get c) }
  | .fec c => { s with fec := s.fec.set c (r.fec.get c) }
  | .lfm c => { s with framer := s.framer.set c (r.framer.get c) }
  | .cry c => { s with cipher := s.cipher.set c { r.cipher.get c with plinthHold := (s.cipher.get c).plinthHold } }
  | .cpc c => { s with cpc := s.cpc.set c (r.cpc.get c) }
  | .clx n => { s with checkers := s.checkers.set n (r.checkers.get n) }
  | .rk n => { s with cores := s.cores.set n (.reset 0), images := s.images.set n ⟨0, 0, List.replicate 4 0, none, none⟩ }
  | .tly n => { s with samples := s.samples.set n ⟨[], 0, [0, 0, 0], 0⟩ }
  | .qlt => { s with qlt := { r.qlt with strapRole := s.qlt.strapRole } }
  | .rps => { s with rps := { r.rps with pins := s.rps.pins } }
  | .tel => { s with tel := { r.tel with signatures := s.tel.signatures } }
  | .cast => { s with cast := { s.cast with arrived := [], held := none, ringOpen := none } }
  | .fes => { s with optics := r.optics }
  | _ => s

/-- OD_TEST_END: the block's pages are re-initialised and stopped, and the record committed. -/
def odTestEnd (r : Option (Nat × Nat)) (s : State) : State :=
  match s.selfTest.testing with
  | none => s
  | some (b, start) =>
    let x := blockResult b r
    let s := (blockPages b).foldl (fun s p => reinitState (reinitPage s p) p) s
    let others := s.selfTest.failedOnDemand.filter (· != b)
    let s := s.setBst { s.selfTest with
      testing := none
      blocks := s.selfTest.blocks.set b x
      failedOnDemand := if x.status = bistPass then others else b :: others }
    let bs := (List.range 58).map fun i => if i = b then x else ⟨bistNotRun, 0, 0⟩
    let s := keepCommit areaBist (bistRecord s 3 start s.nowNs bs) s
    let s := ((s.set .bst BST.STAT.OD_RESULT x.status).set .bst BST.STAT.PHASE 0).set .bst BST.STAT.GROUP 0
    (s.raiseIf (x.status != bistPass) .bst BST.EVT.BLOCK_FAIL).raise .bst BST.EVT.OD_DONE

/-- A read of a page under test (R538): it is journalled into the journal's reserve too where only that is free, since R65 bars writes
alone from it (DESIGN CHOICE, log entry 78). -/
def odDeniedRead (origin : Nat) (p : Page) (off : Nat) (s : State) : State :=
  let s := s.bump .bst BST.OD_DENY.RD
  appendEntry s (pageBase p + off) (BitVec.allOnes 32) (BitVec.allOnes 32) (entryInfo s origin .readDenied 5)

/-! ## The page (R540) -/

/-- The block BLK_IDX selects. -/
def blockShown (s : State) : BlockResult := s.selfTest.blocks.getD (s.get .bst BST.BLK_IDX.BLOCK) ⟨0, 0, 0⟩

/-- OUT_OF_RANGE of BST. -/
def bstWriteBad (off : Nat) (new : Word) : Bool :=
  if off = 0x040 then decide (57 < extract new 8 6) || decide (30 < extract new 17 5)
  else if off = 0x04C then decide (57 < extract new 0 6)
  else false

end Sys2Proof.Machine
end

