-- ==== Sys2Proof/Machine/Tally.lean ====
section
/-! DEFINITION. Machine/Tally.lean: the Tally counters of the cores and the fabric counters of ARM (R402-R414, R546). -/
namespace Sys2Proof.Machine

open Sys2Proof (Word Carrier Page TallyInputs)

/-! ## Event codes (R405) -/

/-- A listed event code. -/
def tallyListed (e : Nat) : Bool :=
  decide (e ≤ 0x12) || (decide (0x40 ≤ e) && decide (e ≤ 0x4A)) || (decide (0x60 ≤ e) && decide (e ≤ 0x69))

/-- A code of an occupancy. -/
def tallyOccupancy (e : Nat) : Bool := decide (0x40 ≤ e) && decide (e ≤ 0x4A)

/-- A core-local code. -/
def tallyLocal (e : Nat) : Bool := decide (2 ≤ e) && decide (e ≤ 0x12)

/-- A code precise sampling can use. -/
def tallyAttributable (e : Nat) : Bool :=
  (decide (2 ≤ e) && decide (e ≤ 0xE)) || e == 0x11 || e == 0x12

/-- A selection: its fields. -/
structure TallySel where
  thr : Nat
  chain : Bool
  thrMode : Bool
  event : Nat
  deriving DecidableEq, Repr

/-- Read a selection word. -/
def tallySel (w : Word) : TallySel := ⟨extract w 16 16, extract w 10 1 == 1, extract w 9 1 == 1, extract w 0 8⟩

/-- A SEL write that R405 and R406 refuse with OUT_OF_RANGE. -/
def tallySelBad (k : Nat) (fabric : Bool) (w : Word) : Bool :=
  let x := tallySel w
  !tallyListed x.event || x.thrMode != tallyOccupancy x.event || (fabric && tallyLocal x.event) || (k == 0 && x.chain)

/-! ## One tick (R402-R406) -/

/-- The largest value among the four lanes of a carrier (R404). -/
def largestLane (c : Carrier) (f : Fin 8 → Nat) : Nat := ((carrierLanes c).map f).foldl max 0

/-- The occupancy of a source: symbol blocks of a line EB, 257b blocks of a client EB or a justification buffer, entries of the journal
buffer (R30, R405). -/
def tallyLevel (s : State) (e : Nat) : Nat :=
  let c : Carrier := if e % 2 = 0 then .a else .b
  if e = 0x40 ∨ e = 0x41 then largestLane c fun n => (s.lineRx.get n).ingress.length
  else if e = 0x42 ∨ e = 0x43 then largestLane c fun n => (s.txLane.get n).egress.length
  else if e = 0x44 ∨ e = 0x45 then (s.cpc.get c).ingress.length
  else if e = 0x46 ∨ e = 0x47 then (s.cpc.get c).egress.length
  else if e = 0x48 then s.journal.buffer.length
  else if e = 0x49 then (s.framer.get .a).buffer.length
  else (s.framer.get .b).buffer.length

/-- Events of a code in this tick; `core` is the core whose page counts, none for ARM. -/
def tallyEvents (s : State) (i : TallyInputs) (core : Option (Fin 8)) (e : Nat) : Nat :=
  let recorded (key : Nat) : Nat := sparseRead (fun _ => 0) s.tickEvents key
  if e = 0 then 0
  else if e = 1 then 1
  else if tallyLocal e then
    match core with
    | none => 0
    | some n =>
      if e = 3 then bit (i.interlock.contains n)
      else if e = 4 then bit ((s.cores.get n).waiting && s.running (.rk n))
      else recorded (256 * n.val + e)
  else if 0x61 ≤ e ∧ e ≤ 0x64 then i.packets.getD (e - 0x61) 0
  else recorded (0x1000 + e)

/-- What a selection adds in this tick, before chaining. -/
def tallyAdds (s : State) (i : TallyInputs) (core : Option (Fin 8)) (x : TallySel) : Nat :=
  if x.thrMode then bit (decide (x.thr < tallyLevel s x.event)) else tallyEvents s i core x.event

/-- Width of a counter. -/
def tallyModulus : Nat := 2 ^ 48

/-- Pages that hold counters. -/
inductive TallyPage where
  | core (n : Fin 8)
  | fabric
  deriving DecidableEq, Repr

/-- The page. -/
def TallyPage.page : TallyPage → Page
  | .core n => .tly n
  | .fabric => .arm

/-- Number of counters. -/
def TallyPage.size : TallyPage → Nat
  | .core _ => 16
  | .fabric => 64

/-- The selection word of counter k. -/
def tallySelWord (s : State) (t : TallyPage) (k : Nat) : Word :=
  match t with
  | .core n => word s (.tly n) (0x80 + 4 * k)
  | .fabric => word s .arm (0x200 + 4 * k)

/-- Counter k. -/
def tallyCount (s : State) (t : TallyPage) (k : Nat) : Nat :=
  match t with
  | .core n => s.pair (.tly n) (TLY.CNT_LO.COUNT.at k) (TLY.CNT_HI.COUNT.at k)
  | .fabric => s.pair .arm (ARM.FCNT_LO.COUNT.at k) (ARM.FCNT_HI.COUNT.at k)

/-- Set counter k. -/
def setTallyCount (s : State) (t : TallyPage) (k v : Nat) : State :=
  match t with
  | .core n => s.setPair (.tly n) (TLY.CNT_LO.COUNT.at k) (TLY.CNT_HI.COUNT.at k) v
  | .fabric => s.setPair .arm (ARM.FCNT_LO.COUNT.at k) (ARM.FCNT_HI.COUNT.at k) v

/-- Counter k is enabled (R402, R403, R546). -/
def tallyEnabled (s : State) (t : TallyPage) (k : Nat) : Bool :=
  match t with
  | .core n => testBit (s.get (.tly n) TLY.CTL.EN) k
  | .fabric =>
    if k < 16 then testBit (s.get .arm ARM.FCTL.EN) k
    else if k < 48 then testBit (s.get .arm ARM.FEN_HI.EN) (k - 16)
    else if k < 56 then testBit (s.get .arm ARM.FEN_TOP.EN) (k - 48)
    else testBit (s.get .arm ARM.FEN_TOP.EN_GOV) (k - 56)

/-- A counter wraps (R406): its OVF bit is set; OVF is raised unless the next counter chains to it. -/
def tallyWrapped (s : State) (t : TallyPage) (k : Nat) : State :=
  let chained := decide (k + 1 < t.size) && (tallySel (tallySelWord s t (k + 1))).chain
  match t with
  | .core n =>
    (s.set (.tly n) TLY.OVF.OVF (setBit (s.get (.tly n) TLY.OVF.OVF) k)).raiseIf (!chained) (.tly n) TLY.EVT.OVF
  | .fabric =>
    let f := if k < 32 then ARM.FOVF_LO.OVF else ARM.FOVF_HI.OVF
    (s.set .arm f (setBit (s.get .arm f) (k % 32))).raiseIf (!chained) .arm ARM.EVT.OVF

/-! ## Precise sampling (R409-R411) -/

/-- The sample buffer of a page. -/
def sampleBuffer (s : State) (n : Fin 8) : SampleBuffer := s.samples.get n

/-- Replace it. -/
def putSample (s : State) (n : Fin 8) (x : SampleBuffer) : State := { s with samples := s.samples.set n x }

/-- Slot of the word an event belongs to; 3 for bundle-level events (R410). -/
def sampleSlot (x : IssueRecord) (e : Nat) : Nat :=
  let isAcs (i : Nat) : Bool := (x.words.getD i 0).toNat / 2 ^ 26 == 0xE
  let isMac (i : Nat) : Bool :=
    let op := (x.words.getD i 0).toNat / 2 ^ 26
    decide (1 ≤ op) && decide (op ≤ 0xD)
  if e = 0xD then (if isAcs 0 then 0 else 1)
  else if e = 0xE then (if isMac 0 then 0 else 1)
  else if (5 ≤ e ∧ e ≤ 8) ∨ e = 0x12 then 2
  else 3

/-- A record of R410; its D1 follows with the core's next issue. -/
def sampleRecord (s : State) (n : Fin 8) (k : Nat) : List Word :=
  let x := (s.cores.get n).lastIssue
  let e := (tallySel (tallySelWord s (.core n) k)).event
  let slot := sampleSlot x e
  let op := (x.words.getD slot 0).toNat / 2 ^ 26
  [BitVec.ofNat 32 (x.pc % 16384 + slot * 2 ^ 14 + op * 2 ^ 16 + bit x.user * 2 ^ 22 + bit x.exl * 2 ^ 23),
   0, BitVec.ofNat 32 s.nowNs, BitVec.ofNat 32 (tallyCount s (.core n) k)]

/-- Write one record (R411). -/
def writeSample (n : Fin 8) (r : List Word) (s : State) : State :=
  let x := sampleBuffer s n
  if x.records.length < 256 then
    let records := x.records ++ [r]
    let s := (putSample s n { x with records := records, waiting := x.waiting + 1 }).set (.tly n) TLY.SAMPLE_STAT.FILL records.length
    s.raiseIf (records.length == 256) (.tly n) TLY.EVT.SAMPLE_FULL
  else
    let s := s.bump (.tly n) TLY.SAMPLE_STAT.LOST
    if s.flag (.tly n) TLY.SAMPLE_CTL.STOP_FULL then s else 
      putSample s n { x with records := x.records.tail ++ [r], waiting := min 256 (x.waiting + 1) }

/-- `n` records in a row. -/
def writeSamples (core : Fin 8) (k : Nat) : Nat → State → State
  | 0, s => s
  | m + 1, s => writeSamples core k m (writeSample core (sampleRecord s core k) s)

/-- Counter k of a page has counted `added` events (R409). -/
def sampleEvents (t : TallyPage) (k added : Nat) (s : State) : State :=
  match t with
  | .fabric => s
  | .core n =>
    if !s.flag (.tly n) TLY.SAMPLE_CTL.EN || s.get (.tly n) TLY.SAMPLE_CTL.SRC != k then s
    else
      let x := sampleBuffer s n
      let period := max 1 (s.get (.tly n) TLY.SAMPLE_CTL.PERIOD)
      let total := x.since + added
      writeSamples n k (total / period) (putSample s n { x with since := total % period })

/-- Counters of a page in order; the flag says whether the counter before wrapped in this tick. -/
def tallyCounters (t : TallyPage) (i : TallyInputs) : List Nat → Bool → State → State
  | [], _, s => s
  | k :: ks, wrapped, s =>
    let x := tallySel (tallySelWord s t k)
    let core := match t with
      | .core n => some n
      | .fabric => none
    let adds := if !tallyEnabled s t k then 0 else if x.chain then bit wrapped else tallyAdds s i core x
    if adds = 0 then tallyCounters t i ks false s
    else
      let v := tallyCount s t k + adds
      let wraps := decide (tallyModulus ≤ v)
      let s := setTallyCount s t k (v % tallyModulus)
      let s := if wraps then tallyWrapped s t k else s
      tallyCounters t i ks wraps (sampleEvents t k adds s)

/-- One page in a tick (R402). -/
def tallyPage (i : TallyInputs) (s : State) (t : TallyPage) : State :=
  if s.running t.page && decide (s.power ≤ pwrIdle) then tallyCounters t i (List.range t.size) false s else s

/-- Every page with counters. -/
def tallyPages : List TallyPage :=
  [.core 0, .core 1, .core 2, .core 3, .core 4, .core 5, .core 6, .core 7, .fabric]

/-- TALLY_TICK: one reference tick (R404). -/
def tallyTick (i : TallyInputs) (s : State) : State :=
  { tallyPages.foldl (tallyPage i) s with tickEvents := [] }

/-! ## Writes and reads (R406, R411, R414, R546) -/

/-- Clear the counters a mask names. -/
def tallyClear (t : TallyPage) (first mask : Nat) (s : State) : State :=
  (List.range 32).foldl (fun s j => if testBit mask j && decide (first + j < t.size) then setTallyCount s t (first + j) 0 else s) s

/-- SAMPLE_CTL.CLR (R414). -/
def sampleClear (n : Fin 8) (s : State) : State :=
  let s := putSample s n { sampleBuffer s n with records := [], waiting := 0 }
  (s.set (.tly n) TLY.SAMPLE_STAT.FILL 0).set (.tly n) TLY.SAMPLE_STAT.LOST 0

/-- The record INDEX names; zero beyond those held. -/
def sampleAt (s : State) (n : Fin 8) : List Word :=
  (sampleBuffer s n).records.getD (s.get (.tly n) TLY.SAMPLE_IDX.INDEX) [0, 0, 0, 0]

/-- A read of D0 latches D1 to D3 of the same record (R411). -/
def sampleD0Read (n : Fin 8) (s : State) : State := putSample s n { sampleBuffer s n with latched := (sampleAt s n).tail }

/-- A read of D3 advances INDEX (R411). -/
def sampleD3Read (n : Fin 8) (s : State) : State := s.addWrap (.tly n) TLY.SAMPLE_IDX.INDEX 1

/-- SAMPLE_D0 to SAMPLE_D3 as they read. -/
def sampleWord (s : State) (n : Fin 8) (i : Nat) : Word :=
  if i = 0 then (sampleAt s n).getD 0 0 else (sampleBuffer s n).latched.getD (i - 1) 0

/-- A RUN that R409 refuses with MODE_CONFLICT. -/
def tallyRunBad (s : State) (n : Fin 8) : Bool :=
  let k := s.get (.tly n) TLY.SAMPLE_CTL.SRC
  s.flag (.tly n) TLY.SAMPLE_CTL.EN && !tallyAttributable (tallySel (tallySelWord s (.core n) k)).event

/-- Writes TLYn refuses with OUT_OF_RANGE. -/
def tallyWriteBad (off : Nat) (new : Word) : Bool :=
  if off = TLY.SAMPLE_CTL.PERIOD.off then extract new 0 16 == 0
  else if 0x80 ≤ off ∧ off < 0xC0 then tallySelBad ((off - 0x80) / 4) false new
  else false

/-- Writes ARM refuses with OUT_OF_RANGE. -/
def armWriteBad (off : Nat) (new : Word) : Bool :=
  if 0x200 ≤ off ∧ off < 0x2E0 then tallySelBad ((off - 0x200) / 4) true new else false

/-- What an accepted write of TLYn brings beside the stored word. -/
def tallyWritten (n : Fin 8) (off : Nat) (new : Word) (s : State) : State :=
  if off = TLY.CLR.CLR.off then tallyClear (.core n) 0 (extract new 0 16) s
  else if off = TLY.SAMPLE_CTL.CLR.off && extract new 31 1 == 1 then sampleClear n s
  else s

/-- What an accepted write of ARM's fabric registers brings beside the stored word. -/
def fabricWritten (off : Nat) (new : Word) (s : State) : State :=
  if off = ARM.FCLR.CLR.off then tallyClear .fabric 0 new.toNat s
  else if off = ARM.FCLR_HI.CLR.off then tallyClear .fabric 32 (extract new 0 24) s
  else s

end Sys2Proof.Machine
end

