-- ==== Sys2Proof/Machine/PageRun.lean ====
section
/-! DEFINITION. Machine/PageRun.lean: the run state of every page (R40, R41): what a RUN or a STOP is refused for, and what
entering starting, running, stopping and stopped brings with it. -/
namespace Sys2Proof.Machine

open Sys2Proof (Word Carrier PerCarrier Origin Page)

/-! ## The pages of the line (R94, R506) -/

/-- Synthesiser that clocks nothing but a line carrier. -/
def lineSyn (n : Fin 3) : Bool := decide (n.val < 2)

/-- A line page of R506. -/
def linePage : Page → Bool
  | .txp _ | .cdc _ | .eqz _ | .trc _ | .cpr _ | .mls _ | .dmp _ | .fec _ | .lfm _ | .cry _ | .lrx _ | .ltx _ => true
  | .syn n => lineSyn n
  | _ => false

/-- The line pages of a carrier, in the order R507 stops them: the carrier's pages, its lanes, its synthesiser, LFM_x. -/
def linePagesOf (c : Carrier) : List Page :=
  carrierPages c ++ (carrierLanes c).map .ltx ++ (carrierLanes c).map .lrx ++ [carrierSyn c, .lfm c]

/-- Every line page. -/
def linePages : List Page := linePagesOf .a ++ linePagesOf .b

/-- The carrier whose `LFM_x.MODE` a page latches on entry to starting (R94). -/
def modeCarrier : Page → Option Carrier
  | .txp c | .cdc c | .eqz c | .trc c | .cpr c | .mls c | .dmp c | .fec c | .cry c => some c
  | .syn n => synCarrier n
  | _ => none

/-! ## RUN -/

/-- Refusals of RUN that one chapter states for one kind of page. -/
def ownRunBad (s : State) : Page → Bool
  | .lfm c => lfmRunBad s c
  | .txp c => txpRunBad s c || (onePlusOne s && s.flag (.txp c) TXP.CTL.TIMING_SRC)
  | .trc c => trcRunBad s c
  | .cpr c => cprRunBad s c
  | .cpc c => (c == .b && onePlusOne s) || portConfigBad s c
  | .syn n => synRunBad s n
  | .clx _ => !s.running (.syn 2)
  | .rk n => coreRunBad s n
  | .tly n => tallyRunBad s n
  | _ => false

/-- A RUN to a stopped page is refused with MODE_CONFLICT: R94, R421, R536, R539 and the page's own chapter. -/
def runBad (s : State) (p : Page) : Bool :=
  ownRunBad s p || checkerRunBad s p || bistRunBad s p
  || (match modeCarrier p with
      | some c => !s.running (.lfm c)
      | none => false)

/-- What entry to starting does on one kind of page. -/
def ownStart (p : Page) (s : State) : State :=
  match p with
  | .txp c => txpStart c s
  | .ltx n => ltxStart n s
  | .lrx n => lrxStart n s
  | .cdc c => cdcStart c s
  | .trc c => trcStart c s
  | .eqz c => eqzStart c s
  | .cpr c => cprStart c s
  | .mls c => mlsStart c s
  | .dmp c => dmpStart c s
  | .fec c => fecStart c s
  | .lfm c => stepFramerRestart c (lfmStart c s)
  | .cry c => cryStart c s
  | .cpc c => cpcStart c s
  | .clx n => clxStart n s
  | .syn n => synStart n s
  | .tel => telStart s
  | .cast => castStart s
  | .rps => rpsStart s
  | .qlt => qltStart s
  | .fes => fesStart s
  | .rk n => semForce (.rk n) (coreStart n s)
  | _ => s

/-- A stopped page accepts RUN: it enters starting and FAULT clears (R40, R41).  Live writes that it accepted while stopped
come into force: the page applies the whole setting when it starts (R56, R58; DEDUCED, log entry 14). -/
def enterStarting (p : Page) (s : State) : State :=
  ownStart p (applyStaged (fun q _ => q == p) ((s.setRun p .starting).set p HDR.RUNSTAT.FAULT 0))

/-! ## Running -/

/-- The clock a starting page waits for: its bound counts from the later of RUN and SYN_x lock (R119, R142, R169, R195, R214,
R243). -/
def clockReady (s : State) (p : Page) : Bool :=
  match p with
  | .syn _ => true
  | .lrx n => clockLocked s (laneCarrier n)
  | p => match modeCarrier p with
    | some c => clockLocked s c
    | none => true

/-- A starting page can be ready (R41, R85, R132, R273): line pages come up in Run alone. -/
def startReady (s : State) (p : Page) : Bool :=
  clockReady s p && (!linePage p || s.power == pwrRun) &&
    (match p with
     | .lrx n => !fgDue s n || (lineRx s n).fgDone
     | .lfm c => !lfmWaits s c
     | _ => true)

/-- What entry to running does on one kind of page; `band` and `gain` are the pairs a synthesiser measures. -/
def ownRunning (p : Page) (band gain : Int × Int) (s : State) : State :=
  match p with
  | .glb => lockStart s
  | .lrx n => lrxRunning n s
  | .cpr c => if acqState s c = acqTrack then cprTrackEntered s c else s
  | .fec c => fecRunning c s
  | .lfm c => ratchetFor c s
  | .cry c => cryRunning c s
  | .cpc c => cpcRunning c s
  | .clx n => clxFollow n s
  | .syn n => synRunning n band gain s
  | .tel => telRunning s
  | .rps => rpsRunning s
  | .fes => fesFollowBoth s
  | .rk n => if n = 0 then startTimer .rk0Good (startTimer .heartbeat (s.setPlinth { s.plinth with rk0Seen := true, lastBeat := 0 })) else s
  | _ => s

/-- A page enters running; the optics front-end follows (R291). -/
def enterRunning (p : Page) (band gain : Int × Int) (s : State) : State :=
  fesFollowBoth (ownRunning p band gain (s.setRun p .running))

/-- PAGE_START_COMPLETE (R41): a starting page that is ready enters running.  `ok` is the outcome of a known-answer test
(R243).  In 1+1 and under carrier lock two starting framers enter running together (R19, R273). -/
def pageStarted (p : Page) (ok : Bool) (band gain : Int × Int) (s : State) : State :=
  if s.run p != .starting || !startReady s p then s
  else match p with
    | .cry c => if ok then enterRunning p band gain s else cryKatFail c s
    | .lfm c =>
      if framersPair s then ratchetFor .b (ratchetFor .a (pairStart s))
      else enterRunning p band gain s
    | p => enterRunning p band gain s

/-- ERRLOG code of a start that overruns its bound: while the carrier's clock is unlocked (R119, R142, R169, R195, R214,
R243), or of a synthesiser (R302). -/
def overrunCode (s : State) (p : Page) : Option Nat :=
  match p with
  | .syn _ => some 2
  | .lrx n => if clockLocked s (laneCarrier n) then none else some 3
  | p => match modeCarrier p with
    | some c => if clockLocked s c then none else some 1
    | none => none

/-- PAGE_BOUND_OVERRUN (R41): FAULT is set and the page stays in starting or stopping. -/
def pageOverrun (p : Page) (s : State) : State :=
  match s.run p with
  | .starting =>
    match overrunCode s p with
    | some code => s.errlog p code 0
    | none => s.set p HDR.RUNSTAT.FAULT 1
  | .stopping => s.set p HDR.RUNSTAT.FAULT 1
  | _ => s

/-! ## STOP -/

/-- Refusals of STOP with STOP_PRECOND (R15, R41, R94, R214, R272, R286, R304, R305, R326). -/
def stopBad (s : State) (p : Page) : Bool :=
  !stoppable p ||
    (match p with
     | .glb => [Carrier.a, .b].any fun c => [Page.txp c, .trc c, .lfm c].any fun q => !s.stopped q
     | .lfm c => lfmStopBad s c
     | .fec c => !s.stopped (.txp c)
     | .syn n => synStopBad s n
     | .fes => fesStopBad s
     | .cast => castStopBad s
     | .rps => rpsStopBad s
     | _ => false)

/-- What leaving running does on one kind of page. -/
def ownStop (p : Page) (s : State) : State :=
  match p with
  | .txp c => txpStop c s
  | .ltx n => ltxStop n s
  | .lrx n => acqToIdle (laneCarrier n) (lrxStop n s)
  | .cdc c => acqToIdle c s
  | .trc c => trcStop c s
  | .eqz c => eqzStop c s
  | .cpr c => cprTrackLeft s c
  | .mls c => cprUnsynchronise c s
  | .dmp c => fecUnsynchronised s c
  | .fec c => fecUnsynchronised s c
  | .lfm c => frameHunt s c
  | .cry c => cryStop c s
  | .cpc c => cpcStop c s
  | .clx n => clxFollow n s
  | .syn n => synStop n s
  | .rps => rpsStop s
  | .qlt => qltStop s
  | .fes => fesStop s
  | .rk n => coreHalt n s
  | _ => s

/-- A running page accepts STOP: it leaves running for stopping (R41). -/
def enterStopping (p : Page) (s : State) : State :=
  let s := s.setRun p .stopping
  fesFollowBoth ((ownStop p s).setRun p .stopping)

/-- PAGE_STOP_COMPLETE (R41): a stopping page reaches its boundary. -/
def pageStopped (p : Page) (s : State) : State :=
  if s.run p = .stopping then s.setRun p .stopped else s

/-! ## RUN and STOP by the device's own sequencers (R45, R507, R508) -/

/-- The journal entry of a RUN or STOP with origin 0x0. -/
def hardwareRunctl (p : Page) (cmd : Nat) (s : State) : State :=
  journalAccepted (s.addWrap p HDR.SEQ.COUNT 1) .hardware (pageBase p + HDR.RUNCTL.CMD.off) 0 (BitVec.ofNat 32 cmd)

/-- PWR stops a running page and waits until it is stopped (R507); with only the journal's reserve free the write is refused
(R65). -/
def hardwareStop (p : Page) (s : State) : State :=
  if s.run p != .running then s
  else if onlyReserve s then countUnlogged s
  else pageStopped p (enterStopping p (hardwareRunctl p 2 s))

/-- PWR writes RUN to a stopped page (R508); with only the journal's reserve free the write is refused (R65). -/
def hardwareRun (p : Page) (s : State) : State :=
  if s.run p != .stopped then s
  else if onlyReserve s then countUnlogged s
  else enterStarting p (hardwareRunctl p 1 s)

end Sys2Proof.Machine
end

