-- ==== Sys2Proof/Machine/QuoletWake.lean ====
section
/-! DEFINITION. Machine/QuoletWake.lean: chapter 10, the wake word (R246-R249) and its keying (R298). -/
namespace Sys2Proof.Machine

open Sys2Proof (Byte Word Carrier PerCarrier Origin Page Instr)

/-- CHECK of a wake word (R246). -/
def wakeCheck (upper : Nat) : Nat := crcBits 16 0x1021 0xFFFF 0 (msbBits 48 upper)

/-- A wake word (R246). -/
def wakeWord (type frag burst copy : Nat) : BitVec 64 :=
  let upper := 0xB47 * 2 ^ 36 + type % 16 * 2 ^ 32 + frag % 2 ^ 24 * 2 ^ 8 + burst % 16 * 2 ^ 4 + copy % 16
  BitVec.ofNat 64 (upper * 2 ^ 16 + wakeCheck upper)

/-- Fields of a wake word. -/
def wakeSync (w : BitVec 64) : Nat := w.toNat / 2 ^ 52
def wakeType (w : BitVec 64) : Nat := w.toNat / 2 ^ 48 % 16
def wakeFrag (w : BitVec 64) : Nat := w.toNat / 2 ^ 24 % 2 ^ 24
def wakeBurstNo (w : BitVec 64) : Nat := w.toNat / 2 ^ 20 % 16
def wakeCopy (w : BitVec 64) : Nat := w.toNat / 2 ^ 16 % 16
def wakeOk (w : BitVec 64) : Bool := wakeCheck (w.toNat / 2 ^ 16) == w.toNat % 2 ^ 16

/-- The chips of a word (R247): lead-in, Manchester code, gap. -/
def wakeChips (w : BitVec 64) : List Bool :=
  List.replicate 8 true ++ (msbBits 64 w.toNat).flatMap (fun b => if b then [false, true] else [true, false])
    ++ List.replicate 24 false

/-- The chips of a burst: eight copies (R247). -/
def burstChips (type burst : Nat) : List Bool :=
  (List.range 8).flatMap fun i => wakeChips (wakeWord type ownFragment burst i)

/-- The Plinth keys a carrier's laser: TUNED or TX_READY, and no hold (R298, R469). -/
def keyable (s : State) (x : Carrier) : Bool :=
  (fesState s x == fesTuned || fesState s x == fesTxReady) && plnHold s x == 0 && !s.plinth.lasersBarred
    && !s.flag .pln PLN.STAT.LOCKSTEP_FAIL

/-- Set a carrier's wake sending. -/
def setWake (x : Carrier) (w : Option WakeSend) (s : State) : State := s.setQlt { s.qlt with wake := s.qlt.wake.set x w }

/-- CALL bursts start on each carrier that may be keyed (R249). -/
def wakeSend (s : State) : State :=
  [Carrier.a, .b].foldl (fun s x =>
    if keyable s x then setWake x (some ⟨1, s.get .qlt QLT.WAKE_CTL.BURSTS, 0⟩) s else s) s

/-- On leaving Sleep, Deep sleep or Off for any other reason than an accepted CALL, CALL bursts start on each carrier, as soon as its
laser may be keyed (R249); causes 1 and 2 are the wake receivers (R510). -/
def exitCall (cause : Nat) (s : State) : State :=
  if cause = 1 || cause = 2 then s
  else [Carrier.a, .b].foldl (fun s x => setWake x (some ⟨1, s.get .qlt QLT.WAKE_CTL.BURSTS, 0⟩) s) s

/-- Chips of one wake word: lead-in, code and gap (R247). -/
def wordChips : Nat := 160

/-- An accepted ANSWER ends a carrier's sending at the end of the current word (R247). -/
def endKeying (s : State) (x : Carrier) : State :=
  let k := (s.optics.get x).keying
  setOptics (setWake x none s) x { s.optics.get x with keying := k.take (k.length % wordChips) }

/-- The next burst of a carrier, 1 s after the one before it (R247, R249): CALL until BURSTS are sent, ANSWER until its receiver
reaches RX_ACQ. -/
def wakeBurst (x : Carrier) (s : State) : State :=
  match s.qlt.wake.get x with
  | none => s
  | some w =>
    if w.left = 0 || (w.type = 2 && decide (fesRxAcq ≤ fesState s x)) then setWake x none s
    else if !keyable s x || (w.burst != 0 && !spaced s (.burst x) secNs) then s
    else
      let s := startTimer (.burst x) s
      let s := (setOptics s x { s.optics.get x with keying := burstChips w.type w.burst }).bump .qlt QLT.WAKE_CNT.TX
      setWake x (if w.left = 1 then none else some ⟨w.type, w.left - 1, w.burst + 1⟩) s

/-- An accepted CALL is answered once the laser may be keyed, with at most two bursts (R249). -/
def answerSend (x : Carrier) (s : State) : State :=
  if s.qlt.answerDue.get x && s.flag .qlt QLT.CTL.WAKE_ANSWER && keyable s x then
    setWake x (some ⟨2, 2, 0⟩) (s.setQlt { s.qlt with answerDue := s.qlt.answerDue.set x false })
  else s

/-- EXPECT_ID admits a fragment (R248). -/
def expected (s : State) (frag : Nat) : Bool :=
  s.get .qlt QLT.WAKE_CTL.EXPECT_ID == 0 || s.get .qlt QLT.WAKE_CTL.EXPECT_ID == frag

/-- A sender's burst after one more of its copies (R248): a copy of another burst, or one that does not follow the last copy, begins
the count again. -/
def hearWake (l : List HeardWake) (w : BitVec 64) : HeardWake :=
  match l.find? fun h => h.type == wakeType w && h.frag == wakeFrag w with
  | some h =>
    ⟨wakeType w, wakeFrag w, wakeBurstNo w, wakeCopy w,
      if h.burst = wakeBurstNo w && decide (h.copy < wakeCopy w) then h.count + 1 else 1⟩
  | none => ⟨wakeType w, wakeFrag w, wakeBurstNo w, wakeCopy w, 1⟩

/-- A wake word arrives on a receiver (R248); answers whether a CALL was accepted. -/
def wakeWordRx (x : Carrier) (w : BitVec 64) (s : State) : State × Bool :=
  if wakeSync w ≠ 0xB47 then (s, false)
  else if !wakeOk w then (s.bump .qlt QLT.WAKE_CNT.BAD, false)
  else if wakeType w ≠ 1 && wakeType w ≠ 2 then (s, false)
  else
    let l := s.qlt.wakeHeard.get x
    let h := hearWake l w
    let others := l.filter fun e => !(e.type == h.type && e.frag == h.frag)
    let s := s.setQlt { s.qlt with wakeHeard := s.qlt.wakeHeard.set x (h :: others) }
    if h.count = 2 && expected s (wakeFrag w) then
      let s := (s.bump .qlt QLT.WAKE_CNT.RX).set .qlt QLT.WAKE_STAT.LAST_ID (wakeFrag w)
      let s := s.set .qlt QLT.WAKE_STAT.LAST_SRC (x.idx + 1)
      if wakeType w = 1 then
        (s.setQlt { s.qlt with answerDue := s.qlt.answerDue.set x true }, true)
      else
        (endKeying (endKeying s .a) .b, false)
    else (s, false)

/-- The effect of an accepted write of QLT (R249, R263, R268). -/
def qltWritten (off : Nat) (old new : Word) (s : State) : State :=
  if off = QLT.TARGET.TARGET_A.off then
    (if old = new then s else targetChanged s)
  else if off = QLT.WAKE_CTL.SEND.off && extract new QLT.WAKE_CTL.SEND.lo 1 = 1 then wakeSend s
  else if off = QLT.CTL.ROLE.off then showSessions s
  else s

end Sys2Proof.Machine
end

