-- ==== Sys2Proof/Machine/Power.lean ====
section
/-! DEFINITION. Machine/Power.lean: power states, the regulator, the slack governor and the time base (chapter 22). -/
namespace Sys2Proof.Machine

open Sys2Proof (Word Carrier PerCarrier Origin Page)

/-! ## The core voltage (R512-R515, R518) -/

/-- A voltage request is on its way: it is acknowledged when APPLIED takes its code. -/
def vddInFlight (s : State) : Bool := s.vddRequested != s.get .pwr PWR.VDD.APPLIED

/-- The governor rules the rail: Run or Idle with no transition. -/
def governorTime (s : State) : Bool := !s.flag .pwr PWR.STAT.TRANS && decide (s.power ≤ pwrIdle)

/-- Clamp a code to FLOOR and CEIL. -/
def vddClamp (s : State) (v : Int) : Nat :=
  (clamp (s.get .pwr PWR.GOV_LIM.FLOOR) (s.get .pwr PWR.GOV_LIM.CEIL) v).toNat

/-- `GOV_CFG.MODE` codes. -/
def govAuto : Nat := 0
def govHold : Nat := 1
def govManual : Nat := 2

/-- The mode the governor acts in: a stopped PWR behaves as HOLD (R518). -/
def governorMode (s : State) : Nat := if s.running .pwr then s.get .pwr PWR.GOV_CFG.MODE else govHold

/-- The code the rail moves toward: the power state's in a transition and below Idle, the governor's in AUTO, MANUAL in
MANUAL mode, none in HOLD (R514, R517, R518). -/
def vddGoal (s : State) : Option Nat :=
  if !governorTime s then some (s.get .pwr PWR.VDD.TARGET)
  else if governorMode s = govAuto then some (s.get .pwr PWR.VDD.TARGET)
  else if governorMode s = govManual then some (vddClamp s (s.get .pwr PWR.VDD.MANUAL))
  else none

/-- The next request, one code toward the goal, when none is in flight and the regulator has not failed (R512, R513, R515). -/
def vddMove (s : State) : State :=
  match vddGoal s with
  | none => s
  | some g =>
    let s := s.set .pwr PWR.VDD.TARGET g
    let a := s.get .pwr PWR.VDD.APPLIED
    if vddInFlight s || s.flag .pwr PWR.STAT.REG_FAULT || a == g then s
    else
      let s := startTimer .avsAsked (s.setPwr { s.pwrMgr with failures := 0 })
      { s with vddRequested := if a < g then a + 1 else a - 1 }

/-- STEP_GAP (R513). -/
def stepGapNs (s : State) : Nat := s.get .pwr PWR.GOV_CFG.STEP_GAP * usNs

/-- AVS_ACK: the regulator acknowledges the request in flight, which PWR issues no sooner than STEP_GAP after the last
acknowledgement (R513). -/
def avsAck (s : State) : State :=
  if !vddInFlight s || !spaced s .avsAcked (stepGapNs s) then s
  else
    let s := startTimer .avsAcked s
    let old := s.get .pwr PWR.VDD.APPLIED
    let new := s.vddRequested
    let s := s.set .pwr PWR.VDD.APPLIED new
    let s := if s.power = pwrRun && !s.flag .pwr PWR.STAT.TRANS then s.set .pwr PWR.VDD.RUN_CODE new else s
    let s := if governorTime s then s.bump .pwr (if old < new then PWR.GOV_CNT.UP else PWR.GOV_CNT.DOWN) else s
    vddMove (s.setPwr { s.pwrMgr with failures := 0 })

/-- AVS_RETRY: 2 ms without an acknowledgement (R513); the third failure of one request sets REG_FAULT (R515). -/
def avsRetry (s : State) : State :=
  if !vddInFlight s || !passed s .avsAsked (2 * msNs) || !spaced s .avsAcked (2 * msNs + stepGapNs s) then s
  else if s.pwrMgr.failures < 2 then
    (startTimer .avsAsked (s.setPwr { s.pwrMgr with failures := s.pwrMgr.failures + 1 })).bump .pwr PWR.AVS_STAT.RETRIES
  else
    let s := startTimer .regPolled s
    let s := { s.setPwr { s.pwrMgr with failures := 0 } with vddRequested := s.get .pwr PWR.VDD.APPLIED }
    ((s.set .pwr PWR.STAT.REG_FAULT 1).bump .pwr PWR.AVS_STAT.FAIL_CNT).raise .pwr PWR.EVT.REG_FAIL

/-- REG_FAULT_POLL: the Voltage read of each second; `within` says that it reports the held voltage within 5 mV (R515). -/
def regFaultPoll (within : Bool) (s : State) : State :=
  if !s.flag .pwr PWR.STAT.REG_FAULT || !spaced s .regPolled secNs then s
  else if within then vddMove (s.set .pwr PWR.STAT.REG_FAULT 0)
  else startTimer .regPolled s

/-! ## The slack governor (R516, R517) -/

/-- THR of a governor counter (R516). -/
def governorThreshold (s : State) (i : Nat) : Nat :=
  s.get .pwr ([PWR.GOV_THR.LINE_IN, PWR.GOV_THR.LINE_OUT, PWR.GOV_THR.CLI_IN, PWR.GOV_THR.CLI_OUT].getD (i / 2)
    PWR.GOV_THR.LINE_IN)

/-- PWR sets the governor's counters and enables them while it runs in AUTO mode (R412, R516, R546). -/
def governorFollow (s : State) : State :=
  let s := (List.range 8).foldl (fun s i =>
    let s := s.set .arm (ARM.FSEL_GOV.EVENT.at i) (0x40 + i)
    let s := s.set .arm (ARM.FSEL_GOV.THR_MODE.at i) 1
    s.set .arm (ARM.FSEL_GOV.THR.at i) (governorThreshold s i)) s
  s.set .arm ARM.FEN_TOP.EN_GOV (if s.running .pwr && s.get .pwr PWR.GOV_CFG.MODE == govAuto then 0xFF else 0)

/-- The island of an EB runs (R516). -/
def islandRuns (s : State) (i : Nat) : Bool :=
  let c := if i % 2 = 0 then Carrier.a else .b
  if i < 2 then samplesArrive s c
  else if i < 4 then s.running (.txp c) && (s.txDsp.get c).reading
  else s.running (.cpc c)

/-- Danger ticks of an EB over an evaluation of `ticks` reference ticks (R516). -/
def dangerTicks (s : State) (ticks i : Nat) : Nat :=
  let n := tallyCount s .fabric (56 + i)
  if !islandRuns s i then 0
  else if (i / 2) % 2 = 0 then n
  else ticks - n

/-- The higher of the two temperatures, in 0.01 degrees (R517). -/
def hotter (s : State) : Int := max (s.getInt (.hk 0) HK.TEMP.TEMP) (s.getInt (.hk 1) HK.TEMP.TEMP)

/-- GOVERNOR_EVAL (R517). -/
def governorEval (s : State) : State :=
  if !governorTime s || governorMode s != govAuto || s.flag .pwr PWR.STAT.REG_FAULT
    || !due s .governed (s.get .pwr PWR.GOV_POL.EVAL * 10 * usNs) then s
  else
    let s := startTimer .governed s
    let ticks := s.get .pwr PWR.GOV_POL.EVAL * 10000
    let d := ((List.range 8).map (dangerTicks s ticks)).foldl max 0
    let s := tallyClear .fabric 56 0xFF s
    let up := decide (s.get .pwr PWR.GOV_POL.UP_FRAC * ticks < d * 65536)
    let slip := s.pwrMgr.slipped
    let runs := if d = 0 && !slip && !up then s.pwrMgr.downRuns + 1 else 0
    let down := decide (s.get .pwr PWR.GOV_POL.DOWN_N ≤ runs)
    let rise := hotter s - s.pwrMgr.lastTemp
    let dt : Int := 10 * s.get .pwr PWR.GOV_FF.FF_DT
    let forward := if dt ≤ rise then min (rise / dt) (s.get .pwr PWR.GOV_FF.FF_MAX) else 0
    let raises : Int := bit up + forward + (if slip then s.get .pwr PWR.GOV_FF.SLIP_STEPS else 0)
    let delta : Int := if 0 < raises then raises else if down then -1 else 0
    let s := s.setPwr { s.pwrMgr with downRuns := runs, lastTemp := hotter s, slipped := false }
    let s := if 0 < forward then s.bump .pwr PWR.GOV_EVT.FF_UP else s
    let s := if slip then s.bump .pwr PWR.GOV_EVT.SLIP_UP else s
    vddMove (s.set .pwr PWR.VDD.TARGET (vddClamp s (s.get .pwr PWR.VDD.TARGET + delta)))

/-! ## Consent (R505, R506) -/

/-- REASON codes of R506. -/
def refusedBusy : Nat := 1
def refusedRegulator : Nat := 2
def refusedRunning : Nat := 3
def refusedBist : Nat := 4
def refusedPeer : Nat := 5

/-- REASON a page refuses a state with, if it refuses (R506). -/
def pageRefusal (s : State) (t : Nat) (p : Page) : Option Nat :=
  if underTest s p then some refusedBist
  else if t = pwrIdle then (if linePage p && s.running p then some refusedRunning else none)
  else if p = .cast then (if castStopBad s then some refusedBusy else none)
  else if p = .arc then (if s.flag .arc ARC.STAT.FORMATTING then some refusedBusy else none)
  else if p = .qlt then
    (if [Carrier.a, .b].any fun x => stepPending s x || activationPending s x || switchPending s x then some refusedPeer
     else none)
  else none

/-- A REFUSE_LOG word (R506). -/
def refusalWord (block inst t reason : Nat) : Nat := block * 0x10000 + inst * 0x100 + t * 0x10 + reason

/-- Pages in the order of their event slots. -/
def pagesBySlot : List Page :=
  (List.range 95).filterMap fun n => allPages.find? fun p => eventSlot p == n

/-- The REFUSE_LOG words of the refusals of an entry, the regulator last. -/
def refusals (s : State) (t : Nat) : List Nat :=
  (pagesBySlot.filterMap fun p => (pageRefusal s t p).map fun r => refusalWord (blockType p) (pageInstance p) t r)
  ++ (if s.flag .pwr PWR.STAT.REG_FAULT then [refusalWord 0xFFFF 0 t refusedRegulator] else [])

/-- Append a word to REFUSE_LOG, which keeps the newest 16 (R505). -/
def logRefusal (s : State) (w : Nat) : State :=
  let first := s.get .pwr (PWR.REFUSE_LOG.ENTRY.at 0) == 0
  let i := if first then 0 else (s.get .pwr PWR.REFUSE_IDX.NEWEST + 1) % 16
  (s.set .pwr (PWR.REFUSE_LOG.ENTRY.at i) w).set .pwr PWR.REFUSE_IDX.NEWEST i

/-! ## Requests (R504) -/

/-- `WAKE_STAT.CAUSE` codes beyond the bits of WAKE_EN (R510). -/
def wakeTamper : Nat := 7
def wakeRegister : Nat := 8

/-- The level-1 semaphore the transition holds, while it is free (R504). -/
def holdTransition (s : State) : State :=
  let x := semaphore s 0
  match x.holder with
  | none => setSemaphore s 0 { x with holder := some .hardware }
  | some _ => s

/-- It is freed with the transition's last step. -/
def freeTransition (s : State) : State :=
  let x := semaphore s 0
  if x.holder = some .hardware then setSemaphore s 0 { x with holder := none } else s

/-- A transition to a state starts. -/
def beginTransition (t : Nat) (s : State) : State :=
  let s := holdTransition (s.setPwr { s.pwrMgr with acted := false })
  (s.set .pwr PWR.STAT.TRANS 1).set .pwr PWR.STAT.TARGET t

/-- The pending slot takes a request. -/
def holdRequest (t : Nat) (s : State) : State := (s.set .pwr PWR.STAT.PEND_V 1).set .pwr PWR.STAT.PENDING t

/-- An exit toward Run starts, for a cause; the rail rises to RUN_CODE (R508). -/
def beginExit (cause : Nat) (s : State) : State :=
  let deep := decide (pwrSleep ≤ s.power)
  let s := (beginTransition pwrRun s).set .pwr PWR.WAKE_STAT.CAUSE cause
  if deep then vddMove (s.set .pwr PWR.VDD.TARGET (s.get .pwr PWR.VDD.RUN_CODE)) else s

/-- An entry is asked for: it is refused, or starts (R505). -/
def beginEntry (t : Nat) (s : State) : State :=
  match refusals s t with
  | [] => beginTransition t s
  | ws => ((ws.foldl logRefusal s).bump .pwr PWR.REFUSE_CNT.COUNT).raise .pwr PWR.EVT.REFUSED

/-- A request in a stable state (R504): from Off only a start follows (R509); a state between goes by way of Run. -/
def takeRequest (t cause : Nat) (s : State) : State :=
  if t = s.power then s
  else if s.power = pwrOff then (if t = pwrRun then s.setPwr { s.pwrMgr with startDue := true } else s)
  else if s.power < t then beginEntry t s
  else if t = pwrRun then beginExit cause s
  else beginExit cause (holdRequest t s)

/-- A request that meets an occupied or free pending slot (R504). -/
def pendRequest (t : Nat) (s : State) : State :=
  if !s.flag .pwr PWR.STAT.PEND_V then holdRequest t s
  else if s.get .pwr PWR.STAT.PENDING = t then s.bump .pwr PWR.REQ_CNT.MERGED
  else ((holdRequest t s).bump .pwr PWR.REQ_CNT.SUPERSEDED).raise .pwr PWR.EVT.SUPERSEDED

/-- A request for a power state (R504), with the WAKE_STAT code of a request for Run.  During an online activation it waits
in the pending slot (R557). -/
def powerRequest (t cause : Nat) (s : State) : State :=
  let s := if t = pwrRun then s.setPwr { s.pwrMgr with cause := cause } else s
  if s.flag .pwr PWR.STAT.TRANS then
    if t = s.get .pwr PWR.STAT.TARGET then s.bump .pwr PWR.REQ_CNT.MERGED else pendRequest t s
  else if s.firmware.online.isSome then pendRequest t s
  else takeRequest t cause s

/-- A pending request is taken as a new request (R504). -/
def takePending (s : State) : State :=
  if s.flag .pwr PWR.STAT.PEND_V then
    let t := s.get .pwr PWR.STAT.PENDING
    takeRequest t s.pwrMgr.cause (s.clearAll .pwr [PWR.STAT.PEND_V, PWR.STAT.PENDING])
  else s

/-! ## Entry (R507) -/

/-- RESUME bits of the line pages that run: bit k is event slot 22 + k. -/
def resumeBits (s : State) : Nat :=
  linePages.foldl (fun w p => if s.running p then setBit w (eventSlot p - 22) else w) 0

/-- Step 1 of R507. -/
def stopLine (s : State) : State :=
  let w := resumeBits s
  let s := (s.set .pwr PWR.RESUME_LO.PAGES w).set .pwr PWR.RESUME_HI.PAGES (w / 2 ^ 32)
  linePages.foldl (fun s p => hardwareStop p s) s

/-- Step 2: slots, secrets and sessions; an agreement of R267 outlives its session. -/
def endKeys (s : State) : State :=
  let plan := s.qlt.sleepPlan
  let s := eraseAllSlots (eraseAllSlots s .a 3) .b 3
  let s := sessionDown .b (sessionDown .a s)
  s.setQlt { s.qlt with sleepPlan := plan }

/-- Step 3: the cores halt, TEL stops, LPDDR5X enters self-refresh. -/
def stopCores (s : State) : State :=
  let run := sumNat ((List.finRange 8).map fun n => bit (s.running (.rk n)) * 2 ^ n.val)
  let s := s.setPwr { s.pwrMgr with cores := run, tel := s.running .tel }
  let s := (List.finRange 8).foldl (fun s n => if s.running (.rk n) then coreHalt n s else s) s
  let s := if s.running .tel then s.setRun .tel .stopped else s
  s.set .lpm LPM.STAT.SELF_REFRESH 1

/-- Steps 1 to 3, with what R299 has FES do; from Sleep only FES moves further. -/
def sleepSteps (t : Nat) (s : State) : State :=
  let s := if s.power ≤ pwrIdle then stopCores (endKeys (stopLine s)) else s
  let s := if t = pwrSleep then fesSleep .b (fesSleep .a s) else toDark .b true (toDark .a true s)
  if t = pwrSleep then s else hkPowerDown (auxDeepSleep s)

/-- Code of step 5 (R507). -/
def sleepCode (s : State) (t : Nat) : Nat :=
  let floor := s.get .pwr PWR.GOV_LIM.FLOOR
  if t = pwrSleep then max floor (s.get .pwr PWR.VDD.RUN_CODE - 8) else floor

/-- The RUN and STOP writes of origin 0x0 that a transition makes at most: to every line page, every core and TEL. -/
def transitionWrites : Nat := linePages.length + 9

/-- PWR_ENTRY_ACTION: the action phase of an entry to Idle, Sleep or Deep sleep (R505, R507).  While the journal would refuse
PWR's writes (R65) the action waits. -/
def entryAction (s : State) : State :=
  let t := s.get .pwr PWR.STAT.TARGET
  if !s.flag .pwr PWR.STAT.TRANS || s.pwrMgr.acted || t ≤ s.power || t = pwrOff then s
  else if t ≠ pwrIdle ∧ !journalTakes s transitionWrites then countUnlogged s
  else
    let s := if t = pwrIdle then s
      else
        let s := sleepSteps t s
        vddMove (s.set .pwr PWR.VDD.TARGET (sleepCode s t))
    s.setPwr { s.pwrMgr with acted := true }

/-! ## Exit (R508, R521) -/

/-- TB advances by the count of the always-on oscillator (R521). -/
def tbAdvance (counts : Nat) (s : State) : State :=
  let frac := s.timeBase.frac + counts * 37888
  let ns := counts * 30517 + frac / 65536
  let asleep := counts * 30517 + counts * 37888 / 65536
  let s := { s with nowNs := (s.nowNs + ns) % 2 ^ 64, elapsedNs := s.elapsedNs + ns, timeBase := { s.timeBase with frac := frac % 65536 } }
  let s := s.setPair .tb TB.ASLEEP_LO.NS TB.ASLEEP_HI.NS asleep
  let s := s.set .tb TB.STAT.TB_EXTRAPOLATED 1
  s.set .tb TB.UNCERT.US (31 + (20 * counts + 32767) / 32768)

/-- The pages recorded on entry, LFM_x first, then the clock and the rest (R508). -/
def resumeOrder : List Page :=
  [Page.lfm .a, .lfm .b, .syn 0, .syn 1] ++ linePages.filter fun p => match p with
    | .lfm _ => false
    | .syn _ => false
    | _ => true

/-- A carrier resumes in the MODE of the agreement, as a step of KIND 2 (R267). -/
def resumeStep (x : Carrier) (plan : SleepPlan) (s : State) : State :=
  let mode := match x with | .a => plan.modeA | .b => plan.modeB
  if mode = 0 || !testBit (s.get .pwr PWR.RESUME_LO.PAGES + s.get .pwr PWR.RESUME_HI.PAGES * 2 ^ 32) (eventSlot (.lfm x) - 22)
  then s
  else
    let s := if lineMode s x = mode then s
      else hardwareWrite s (.lfm x) LFM.MODE.MODE.off (deposit (word s (.lfm x) LFM.MODE.MODE.off) LFM.MODE.MODE.lo LFM.MODE.MODE.width mode)
    let r := stepOf s x
    let s := putStep s x ⟨mode, mode, 2, 0, r.backoffs, none, true, false, false, true, 0⟩
    startTimer (.restarted x) (setRate x rsRestarting s)

/-- Step 4 of R508, with R143, R167 and R267. -/
def resumeLine (s : State) : State :=
  let s := match s.qlt.sleepPlan with
    | some plan => (resumeStep .b plan (resumeStep .a plan s)).setQlt { s.qlt with sleepPlan := none }
    | none => s
  let w := s.get .pwr PWR.RESUME_LO.PAGES + s.get .pwr PWR.RESUME_HI.PAGES * 2 ^ 32
  let s := resumeOrder.foldl (fun s p => if testBit w (eventSlot p - 22) then hardwareRun p s else s) s
  let s := allLanes.foldl (fun s n => putLineRx s n { lineRx s n with fgDone := true }) s
  [Carrier.a, .b].foldl (fun s c => setEqualiser s c { s.equaliser.get c with resumed := true }) s

/-- Quolet after an exit: the exchange announces the wake (R267), and CALL is sent unless a CALL woke the device (R249). -/
def resumeQuolet (s : State) : State :=
  let asleep := s.pair .tb TB.ASLEEP_LO.NS TB.ASLEEP_HI.NS
  let s := s.setQlt { s.qlt with wakeDue := some (asleep, s.get .tb TB.UNCERT.US * 1000) }
  exitCall (s.get .pwr PWR.WAKE_STAT.CAUSE) s

/-- PWR_EXIT: an exit to Run, `counts` being what the always-on counter counted (R508).  From Idle the two line synthesisers
restart.  While the journal would refuse PWR's writes (R65) the exit waits. -/
def exitAction (counts : Nat) (s : State) : State :=
  if !s.flag .pwr PWR.STAT.TRANS || s.pwrMgr.acted || s.get .pwr PWR.STAT.TARGET != pwrRun then s
  else if !journalTakes s transitionWrites then countUnlogged s
  else if s.power = pwrIdle then
    let s := [(0 : Fin 3), 1].foldl (fun s n => if synRunBad s n then s else hardwareRun (.syn n) s) s
    s.setPwr { s.pwrMgr with acted := true }
  else if vddInFlight s then s
  else
    let s := tbAdvance counts s
    let s := s.set .lpm LPM.STAT.SELF_REFRESH 0
    let run := s.pwrMgr.cores
    let s := (List.finRange 8).foldl (fun s n => if testBit run n.val then hardwareRun (.rk n) s else s) s
    let s := if s.pwrMgr.tel then hardwareRun .tel s else s
    let s := resumeQuolet (resumeLine s)
    s.setPwr { s.pwrMgr with acted := true }

/-! ## The end of a transition (R504) -/

/-- The rail has reached its code, or stays where a failed regulator holds it (R514, R515). -/
def railReached (s : State) : Bool :=
  s.flag .pwr PWR.STAT.REG_FAULT || s.get .pwr PWR.VDD.APPLIED == s.get .pwr PWR.VDD.TARGET

/-- The client lanes follow the power state (R349). -/
def lanesFollowPower (s : State) : State := (List.finRange 16).foldl (fun s n => clxFollow n s) s

/-- The host link follows the power state: in Sleep and Deep sleep it is in L1 where ASPM_L1 accepts it, in Off it is down
(R359). -/
def linkFollowPower (t : Nat) (s : State) : State :=
  if t = pwrOff then linkDown s
  else s.setFlag .hlk HLK.LINK_STAT.L1 (decide (pwrSleep ≤ t) && hostUp s && s.flag .hlk HLK.CTL.ASPM_L1)

/-- The device is in the state a transition led to. -/
def enterPower (t : Nat) (s : State) : State :=
  let s := linkFollowPower t s
  let s := (s.clearAll .pwr [PWR.STAT.TRANS, PWR.STAT.TARGET]).set .pwr PWR.STAT.STATE t
  lanesFollowPower (freeTransition (s.raise .pwr PWR.EVT.STATE_CHG))

/-- PWR_TRANSITION_END: the target is reached; a pending request is taken. -/
def transitionEnd (s : State) : State :=
  let t := s.get .pwr PWR.STAT.TARGET
  let moved := decide (pwrSleep ≤ t) || decide (pwrSleep ≤ s.power)
  if !s.flag .pwr PWR.STAT.TRANS || !s.pwrMgr.acted || (moved && !railReached s) then s
  else takePending (enterPower t s)

/-! ## Off (R509) -/

/-- Step 3 of R509: the calibration set, the journal and the Cast ring are persisted. -/
def persistAll (s : State) : State :=
  let s := calCommit s
  let s := if s.journal.buffer.isEmpty then s else spillJournal s s.journal.buffer.length
  if mediaFormatted s && !s.flag .arc ARC.STAT.READ_ONLY && !s.flag .arc ARC.STAT.FORMATTING then
    let s := persistEntries (unpersisted s) s
    s.setCast { s.cast with
      ringStored := s.cast.ringOpen.toList ++ s.cast.ringWaiting.reverse ++ s.cast.ringStored
      ringOpen := none
      ringWaiting := [] }
  else s

/-- ORDERLY_SHUTDOWN: the entry to Off, with the results of the shutdown test (R509, R533).  A pending request for Run is
then a wake from Off. -/
def orderlyShutdown (rs : List (Option (Nat × Nat))) (s : State) : State :=
  if !s.flag .pwr PWR.STAT.TRANS || s.get .pwr PWR.STAT.TARGET != pwrOff || s.power == pwrOff then s
  else
    let s := shutdownTest rs (persistAll (sleepSteps pwrOff s))
    let s := (s.setRps { s.rps with pins := both false }).set .rps RPS.STAT.ROUTE_NOW 0
    let s := (s.set .pwr PWR.STAT.OFF_READY 1).raise .pwr PWR.EVT.OFF_READY
    takePending (enterPower pwrOff s)

/-! ## Wakes (R510, R511) -/

/-- A source wakes the device from a power state (R510). -/
def wakesFrom (state bit : Nat) : Bool :=
  if state = pwrIdle then true
  else if state = pwrSleep ∨ state = pwrDeep then true
  else if state = pwrOff then decide (bit ≤ 2) || bit == wakeTamper
  else false

/-- A wake source requests Run; in a transition it acts as a request (R510).  Tamper needs no enable. -/
def wake (bit : Nat) (s : State) : State :=
  if bit != wakeTamper && !testBit (s.get .pwr PWR.WAKE_EN.EN) bit then s
  else if s.flag .pwr PWR.STAT.TRANS || wakesFrom s.power bit then powerRequest pwrRun bit s
  else s

/-- A register access while the device is in Idle returns it to Run (R510). -/
def accessWakes (s : State) : State :=
  if s.power = pwrIdle && !s.flag .pwr PWR.STAT.TRANS then powerRequest pwrRun wakeRegister s else s

/-- SLEEP_DELAY_EXPIRY: DELAY ms after the accept QLT requests the agreed state with origin 0x0 (R267, R504). -/
def sleepDue (s : State) : State :=
  match s.qlt.sleepPlan with
  | none => s
  | some p =>
    if !s.running .qlt || !passed s .sleepPlan (p.delay * msNs) then s
    else if onlyReserve s then countUnlogged s
    else
      let s := journalAccepted (s.addWrap .pwr HDR.SEQ.COUNT 1) .hardware (pageBase .pwr + PWR.REQ.STATE.off) 0
        (BitVec.ofNat 32 p.state)
      let s := powerRequest p.state wakeRegister s
      if s.flag .pwr PWR.STAT.TRANS then s else s.setQlt { s.qlt with sleepPlan := none }

/-! ## The time base (R519-R525) -/

/-- The line and client synthesisers. -/
def synthesisers : List (Fin 3) := [0, 1, 2]

/-- LREF_LOSS (R520): TB runs on from the backup oscillator; the synthesisers lose lock (R303). -/
def lrefLoss (s : State) : State :=
  if !s.flag .tb TB.STAT.LREF_OK then s
  else
    let s := (s.set .tb TB.STAT.LREF_OK 0).set .tb TB.STAT.BACKUP 1
    let s := (s.set .tb TB.STAT.TB_EXTRAPOLATED 1).raise .tb TB.EVT.LREF_LOSS
    synthesisers.foldl (fun s n => synUnlock n s) s

/-- LREF_RETURN: LREF has been present for 1 ms (R520). -/
def lrefReturn (s : State) : State := (s.set .tb TB.STAT.LREF_OK 1).set .tb TB.STAT.BACKUP 0

/-- AON_OSC_TRIM: the always-on oscillator is trimmed against LREF (R521). -/
def aonTrim (trim : Int) (s : State) : State :=
  if s.power = pwrRun && s.flag .tb TB.STAT.LREF_OK && due s .aonTrimmed secNs then
    startTimer .aonTrimmed (s.setPwr { s.pwrMgr with aonTrim := trim })
  else s

/-- Set the count (R522): a TB_SET marker keeps the time before. -/
def tbSet (ns : Nat) (s : State) : State :=
  let before := s.nowNs
  let s := { s with nowNs := ns % 2 ^ 64, timeBase := { s.timeBase with frac := 0 } }
  let s := s.set .tb TB.STAT.TB_VALID 1
  let s := s.clearAll .tb [TB.STAT.TB_EXTRAPOLATED, TB.UNCERT.US]
  appendMarker (s.raise .tb TB.EVT.SET) .tbSet (before % 2 ^ 32) 0

/-- The alarm time. -/
def alarmAt (s : State) : Nat := s.pair .tb TB.ALARM_LO.NS TB.ALARM_HI.NS

/-- The alarm is raised, and wakes the device (R523). -/
def alarmRaise (s : State) : State :=
  wake 6 ({ s with timeBase := { s.timeBase with alarmDone := true } }.raise .tb TB.EVT.ALARM)

/-- TB_ALARM: the count, or the always-on counter for it, reaches the alarm time (R523). -/
def tbAlarm (s : State) : State :=
  let reached := decide (alarmAt s ≤ s.nowNs) || s.power == pwrSleep || s.power == pwrDeep
  if s.flag .tb TB.CTL.ALARM_EN && !s.timeBase.alarmDone && reached then alarmRaise s else s

/-- Distance of the count from the nearest whole second (R524). -/
def ppsError (ns : Nat) : Int :=
  let r := ns % 1000000000
  if r ≤ 500000000 then r else (r : Int) - 1000000000

/-- The lock of PPS from the error of an edge (R524). -/
def ppsLock (e : Int) (s : State) : State :=
  let x := s.timeBase
  if e.natAbs < 100 then
    let s := { s with timeBase := { x with ppsGood := x.ppsGood + 1, ppsPresent := true } }
    if 4 ≤ x.ppsGood + 1 && !s.flag .tb TB.STAT.PPS_LOCK then (s.set .tb TB.STAT.PPS_LOCK 1).raise .tb TB.EVT.PPS_LOCK else s
  else
    let s := { s with timeBase := { x with ppsGood := 0, ppsPresent := true } }
    if 1000 < e.natAbs then s.set .tb TB.STAT.PPS_LOCK 0 else s

/-- The frequency loop adjusts FREQ_ADJ within 10 ppm; the spec does not state the loop (R524). -/
def ppsSlew (s : State) : State :=
  (s.drawn).setInt .tb TB.FREQ_ADJ.ADJ ((s.free 20001 : Int) - 10000)

/-- PPS_EDGE: a rising edge of PPS_IN (R524). -/
def ppsEdge (s : State) : State :=
  let mode := s.get .tb TB.CTL.PPS_MODE
  if mode = 0 then s
  else
    let e := ppsError s.nowNs
    let s := startTimer .ppsEdge ((s.bump .tb TB.PPS_CNT.EDGES).setInt .tb TB.PPS_ERR.NS e)
    let s := ppsLock e s
    if s.flag .tb TB.STAT.PPS_ARMED then
      let s := { s with
        nowNs := s.get .tb TB.PPS_NEXT.SEC * 1000000000 % 2 ^ 64
        timeBase := { s.timeBase with frac := 0 } }
      (s.set .tb TB.STAT.TB_VALID 1).set .tb TB.STAT.PPS_ARMED 0
    else if mode = 2 && decide (1000000 < e.natAbs) then
      let s := { s with nowNs := ((s.nowNs : Int) - e).toNat % 2 ^ 64 }
      (s.clearAll .tb [TB.STAT.TB_EXTRAPOLATED, TB.UNCERT.US]).raise .tb TB.EVT.PPS_STEP
    else ppsSlew s

/-- PPS_LOST: no edge for 2 s (R524). -/
def ppsLost (s : State) : State :=
  if s.get .tb TB.CTL.PPS_MODE = 0 || !s.timeBase.ppsPresent || !passed s .ppsEdge (2 * secNs) then s
  else
    let s := { s with timeBase := { s.timeBase with ppsGood := 0, ppsPresent := false } }
    ((s.set .tb TB.STAT.PPS_LOCK 0).bump .tb TB.PPS_CNT.MISSED).raise .tb TB.EVT.PPS_LOST

/-- PPS_OUT_PULSE: PPS_OUT rises at a whole second (R525). -/
def ppsPulse (s : State) : State :=
  if s.flag .tb TB.CTL.PPS_OUT_EN && s.flag .tb TB.STAT.TB_VALID && s.nowNs % 1000000000 == 0 then
    { s with timeBase := { s.timeBase with ppsRise := some s.nowNs } }
  else s

/-- The level of PPS_OUT (R525). -/
def ppsOut (s : State) : Bool :=
  s.flag .tb TB.CTL.PPS_OUT_EN && s.flag .tb TB.STAT.TB_VALID &&
    (match s.timeBase.ppsRise with
     | some t => decide (t ≤ s.nowNs) && decide (s.nowNs < t + s.get .tb TB.CTL.PPS_OUT_WIDTH * 1000000)
     | none => false)

/-! ## Write rules and effects (R522-R528) -/

/-- Writes PWR refuses with OUT_OF_RANGE (R527). -/
def pwrWriteBad (off : Nat) (new : Word) : Bool :=
  if off = PWR.REQ.STATE.off then decide (4 < extract new 0 3)
  else if off = PWR.GOV_CFG.MODE.off then extract new 8 8 == 0 || extract new 0 2 == 3
  else if off = PWR.GOV_LIM.CEIL.off then
    decide (30 < extract new 8 5) || decide (30 < extract new 0 5) || decide (extract new 8 5 < extract new 0 5)
  else if off = PWR.GOV_POL.EVAL.off then extract new 24 8 == 0 || extract new 16 8 == 0
  else if off = PWR.GOV_FF.FF_DT.off then extract new 0 8 == 0
  else if off = PWR.GOV_THR.LINE_IN.off then
    [0, 8].any fun lo => extract new lo 8 == 0 || decide (39 < extract new lo 8)
  else if off = PWR.VDD.MANUAL.off then decide (30 < extract new 16 5)
  else false

/-- The effect of an accepted write of PWR. -/
def pwrWritten (off : Nat) (new : Word) (s : State) : State :=
  if off = PWR.REQ.STATE.off then powerRequest (extract new 0 3) wakeRegister s
  else if off = PWR.GOV_CFG.MODE.off || off = PWR.VDD.MANUAL.off then vddMove (governorFollow s)
  else s

/-- Writes TB refuses with OUT_OF_RANGE (R528). -/
def tbWriteBad (off : Nat) (new : Word) : Bool :=
  if off = TB.CTL.SET.off then extract new 6 8 == 0 || extract new 2 2 == 3
  else if off = TB.FREQ_ADJ.ADJ.off then
    decide (toSigned 20 (extract new 0 20) < -200000) || decide (200000 < toSigned 20 (extract new 0 20))
  else false

/-- Host and core writes to FREQ_ADJ are refused in modes 1 and 2 (R524). -/
def tbConflict (s : State) (o : Origin) (off : Nat) : Bool :=
  let own := match o with
    | .host => true
    | .rk _ => true
    | _ => false
  off == TB.FREQ_ADJ.ADJ.off && own && s.get .tb TB.CTL.PPS_MODE != 0

/-- The effect of an accepted write of TB. -/
def tbWritten (off : Nat) (old new : Word) (s : State) : State :=
  if off = TB.CTL.SET.off then
    let s := if extract new TB.CTL.SET.lo 1 = 1 then tbSet (s.pair .tb TB.SET_LO.NS TB.SET_HI.NS) s else s
    if extract old TB.CTL.ALARM_EN.lo 1 = 0 && extract new TB.CTL.ALARM_EN.lo 1 = 1 then
      let s := { s with timeBase := { s.timeBase with alarmDone := false } }
      if alarmAt s ≤ s.nowNs then alarmRaise s else s
    else s
  else if off = TB.ALARM_LO.NS.off || off = TB.ALARM_HI.NS.off then
    { s with timeBase := { s.timeBase with alarmDone := false } }
  else if off = TB.PPS_NEXT.SEC.off then s.set .tb TB.STAT.PPS_ARMED 1
  else s

end Sys2Proof.Machine
end

