-- ==== Sys2Proof/Machine/Access.lean ====
section
/-! DEFINITION. Machine/Access.lean: register reads and writes as the pages judge them (R4, R5, R38-R58, R71-R73, R361, R542,
R582): what a register shows, the refusals of R49 in their order, and what an accepted write does. -/
namespace Sys2Proof.Machine

open Sys2Proof (Byte Word Carrier PerCarrier Origin Page)

/-! ## What a register shows -/

/-- The CAL record that SEL names (R500). -/
def calSelected (s : State) : CalCount := calCount s (s.get .cal CAL.SEL.ITEM) (s.get .cal CAL.SEL.UNIT)

/-- A word of `n` bits held elsewhere in the state, by its 32-bit index. -/
def wordOf (v index : Nat) : Word := BitVec.ofNat 32 (v / 2 ^ (32 * index))

/-- A register that shows state held outside the register file. -/
def viewWord (s : State) (o : Origin) (p : Page) (off : Nat) (w : Word) : Word :=
  match p with
  | .evr =>
    if off = 0x044 then routeAccepted s (s.get .evr EVR.RT_INDEX.INDEX)
    else if 0x100 ≤ off ∧ off < 0x1C0 then BitVec.ofNat 32 (pendWord s ((off - 0x100) / 4))
    else w
  | .arm => if 0x100 ≤ off ∧ off < 0x200 then BitVec.ofNat 32 (semWord s o ((off - 0x100) / 4)) else w
  | .cj => if 0x080 ≤ off ∧ off < 0x0A0 then wordOf s.journal.head.toNat ((off - 0x080) / 4) else w
  | .cal =>
    if off = 0x050 then BitVec.ofNat 32 (calSelected s).accepted
    else if off = 0x054 then BitVec.ofNat 32 (calSelected s).rejected
    else if off = 0x058 then wordOf (calSelected s).at_ 0
    else if off = 0x05C then wordOf (calSelected s).at_ 1
    else w
  | .bst =>
    if off = 0x050 then BitVec.ofNat 32 ((blockShown s).status % 256)
    else if off = 0x054 then BitVec.ofNat 32 (blockShown s).patterns
    else if off = 0x058 then wordOf (blockShown s).signature 0
    else if off = 0x05C then wordOf (blockShown s).signature 1
    else w
  | .eqz c =>
    if off = 0x048 then overlay w EQZ.ACQ_STAT.ADAPT (adaptMode s c)
    else if off = 0x058 then BitVec.ofNat 32 (coefWord s c)
    else w
  | .ltx n => if off = 0x050 then pramWord s n else w
  | .lrx n =>
    if off = 0x048 then overlay w LRX.GAIN_STAT.SETTLING (bit (gainSettling s n))
    else if off = 0x074 then BitVec.ofNat 32 (sliceTrimWord s n)
    else w
  | .tly n => if 0x058 ≤ off ∧ off < 0x068 then sampleWord s n ((off - 0x058) / 4) else w
  | .pln =>
    if off = 0x074 then BitVec.ofNat 32 (testLeft s)
    else if off = 0x08C then mbxOutWord s
    else w
  | .tb =>
    if off = 0x044 then wordOf s.nowNs 0
    else if off = 0x048 then wordOf s.nowNs 1
    else if off = 0x04C then BitVec.ofNat 32 s.timeBase.frac
    else w
  | .rps => if off = RPS.STAT.WTR_RUN.off then overlay w RPS.STAT.WTR_RUN (bit (wtrRuns s)) else w
  | .qlt => if off = 0x0A8 then BitVec.ofNat 32 ownFragment else w
  | .tel =>
    if off = 0x078 then BitVec.ofNat 32 (tapStatWord s)
    else if 0x300 ≤ off ∧ off < 0x400 then telFlagWord s ((off - 0x300) / 4)
    else w
  | .cast =>
    if off = 0x04C then overlay w CAST.RING.RATE (min (ringRate s) (2 ^ 20 - 1))
    else if off = 0x050 then overlay w CAST.STAT.RK7_WAIT (bit (!patinaRuns s))
    else w
  | .rk n =>
    if off = 0x048 then corePcWord s n
    else if off = 0x04C then coreStatWord s n
    else w
  | _ => w

/-- The value of the register at byte offset `off` of page `p` as origin `o` reads it; strobes read 0, live fields read as
last accepted. -/
def shownWord (s : State) (o : Origin) (p : Page) (off : Nat) : Word :=
  if off = HDR.EVT_PEND.PEND.off then BitVec.ofNat 32 (s.pend p)
  else acceptedOver s p off (viewWord s o p off (word s p off))

/-! ## Reads (R47, R361, R538, R542, R582) -/

/-- Offsets of the _LO registers of a page that have a _HI partner (R582): first offset, number and distance. -/
def loRegisters : Page → List (Nat × Nat × Nat)
  | .arm => [(0x400, 64, 8), (0x058, 1, 8)]
  | .bst => [(0x058, 1, 8)]
  | .cal => [(0x058, 1, 8)]
  | .cast => [(0x070, 1, 8)]
  | .cj => [(0x044, 1, 8), (0x050, 3, 8)]
  | .clx _ => [(0x058, 1, 8)]
  | .cpc _ => [(0x084, 4, 64), (0x08C, 4, 64)]
  | .cry _ => [(0x04C, 1, 8)]
  | .fec _ => [(0x0A0, 2, 8), (0x0B4, 1, 8)]
  | .lfm _ => [(0x044, 3, 8), (0x108, 2, 8), (0x134, 1, 8)]
  | .lpm => [(0x064, 1, 8)]
  | .pln => [(0x060, 1, 8), (0x078, 1, 8)]
  | .pwr => [(0x084, 1, 8)]
  | .qlt => [(0x080, 2, 8)]
  | .rk _ => [(0x060, 1, 8)]
  | .tb => [(0x044, 1, 8), (0x050, 1, 8), (0x06C, 2, 8)]
  | .tel => [(0x044, 1, 8), (0x090, 2, 8)]
  | .tly _ => [(0x100, 16, 8)]
  | _ => []

/-- Whether a register is the _LO half of a pair. -/
def isLo (p : Page) (off : Nat) : Bool :=
  (loRegisters p).any fun e => decide (e.1 ≤ off) && (off - e.1) % e.2.2 == 0 && decide ((off - e.1) / e.2.2 < e.2.1)

/-- Keep the latch of an origin for the register at an address. -/
def putLatch (o : Origin) (addr : Nat) (hi : Word) (s : State) : State :=
  { s with latches := ⟨o.code, addr, hi⟩ :: s.latches.filter fun l => !(l.origin == o.code && l.loAddr == addr) }

/-- The latched value an origin holds for the register at an address. -/
def latched (s : State) (o : Origin) (addr : Nat) : Option Word :=
  (s.latches.find? fun l => l.origin == o.code && l.loAddr == addr).map (·.hi)

/-- A read of X_LO latches X_HI for its origin (R582); a read of TB.NOW_LO latches NOW_FRAC as well (R528). -/
def latchHigh (o : Origin) (p : Page) (off : Nat) (s : State) : State :=
  if isLo p off then
    let s := putLatch o (pageBase p + off + 4) (shownWord s o p (off + 4)) s
    if p = .tb ∧ off = TB.NOW_LO.NS.off then
      putLatch o (pageBase p + TB.NOW_FRAC.FRAC.off) (shownWord s o p TB.NOW_FRAC.FRAC.off) s
    else s
  else s

/-- What reading a register does beside its value (R121, R163, R326, R411, R475). -/
def readEffect (p : Page) (off : Nat) (s : State) : State :=
  match p with
  | .tel => if 0x200 ≤ off ∧ off < 0x300 then telOutRead ((off - 0x200) / 4) s else s
  | .tly n =>
    if off = 0x058 then sampleD0Read n s
    else if off = 0x064 then sampleD3Read n s
    else s
  | .pln => if off = 0x08C then mbxOutRead s else s
  | .eqz c => if off = 0x058 then coefAdvance c s else s
  | .ltx n => if off = 0x050 then pramAdvance n s else s
  | _ => s

/-- A read of the register at byte offset `off` of page `p`. -/
def readPage (o : Origin) (p : Page) (off : Nat) (s : State) : State × Word :=
  if underTest s p then (odDeniedRead o.code p off s, BitVec.allOnes 32)
  else if (fieldsAt p off).isEmpty then (s, 0)
  else
    let w := (latched s o (pageBase p + off)).getD (shownWord s o p off)
    (readEffect p off (latchHigh o p off s), w)

/-- A 32-bit read of BAR0 by an origin: the debug window of R397, a page, or neither (R542). -/
def readReg (o : Origin) (addr : Nat) (s : State) : State × Word :=
  match debugCore addr with
  | some (n, off) => debugRead n off s
  | none =>
    match pageOfAddr addr with
    | none => (s, 0)
    | some p => readPage o p (addr % 0x1000) s

/-- A naturally aligned 8-byte read: two registers, a _LO and _HI pair as one value (R361). -/
def readDouble (o : Origin) (addr : Nat) (s : State) : State × BitVec 64 :=
  let lo := readReg o addr s
  let hi := readReg o (addr + 4) lo.1
  (hi.1, BitVec.ofNat 64 (hi.2.toNat * 2 ^ 32 + lo.2.toNat))

/-! ## What a write would bring -/

/-- The origins a page admits (R46), with the test port's gate (R472), the IDE requirement (R369) and TAP_RAISE for RK6
alone (R316). -/
def mayWrite (s : State) (o : Origin) (p : Page) (off : Nat) : Bool :=
  testBit (s.get p HDR.OWNER.MASK) o.code
  && (match o with
      | .testPort => s.flag .pln PLN.STAT.TEST_OPEN
      | .host => p == .pln || !s.flag .hlk HLK.IDE.REQUIRE || s.flag .hlk HLK.IDE.IO_SECURE
      | _ => true)
  && (p != .tel || off != TEL.TAP_RAISE.RULES.off || o == .rk 6)

/-- Clear the bits written 1 in the W1C fields. -/
def clearFields (fs : List Field) (old v : Word) : Word :=
  fs.foldl (fun w f => overlay w f (extract old f.lo f.width - (extract old f.lo f.width &&& extract v f.lo f.width))) old

/-- The stored word after an accepted write of `v` over `old`; OWNER keeps its fixed bits (R46). -/
def keptWord (p : Page) (off : Nat) (old v : Word) : Word :=
  let w := clearFields (fieldsOf p off .w1c) (plainWord p off old) v
  let w := takeFields (fieldsOf p off .rwL) w v
  let w := takeFields (fieldsOf p off .rwS) w v
  let w := takeFields (fieldsOf p off .po) w v
  if off = HDR.OWNER.MASK.off then w ||| 0x401 else w

/-- The word a write leaves, strobes shown. -/
def newWord (p : Page) (off : Nat) (old v : Word) : Word := keptWord p off old v ||| strobes p off v

/-- Registers every write of which is a change: data without strobes (R54), and a power request (R504). -/
def alwaysChanges (p : Page) (off : Nat) : Bool :=
  match p with
  | .txp _ => off == TXP.PCH_DATA.BITS.off
  | .pln => off == PLN.MBX_IN.DATA.off
  | .pwr => off == PWR.REQ.STATE.off
  | _ => false

/-- A command field whose value has no effect (R27, R40, R41). -/
def idleCommand (s : State) (p : Page) (off : Nat) (v : Word) : Bool :=
  if off = HDR.RUNCTL.CMD.off then
    match extract v 0 2 with
    | 1 => s.running p
    | 2 => s.stopped p
    | _ => true
  else if p = .arm ∧ 0x100 ≤ off ∧ off < 0x200 then
    let c := extract v ARM.SEM.CMD.lo 2
    c == 0 || c == 3
  else false

/-- Whether a write changes anything (R54). -/
def writeChanges (s : State) (p : Page) (off : Nat) (old v : Word) : Bool :=
  alwaysChanges p off || (!idleCommand s p off v && newWord p off old v != old)

/-! ## Refusals (R49, R50) -/

/-- A stop-only field changes where that is not allowed (R44); a housekeeping slot, an auxiliary channel and a fabric
counter are stopped relative to their own enable (R485, R493, R546). -/
def stopOnlyBad (s : State) (p : Page) (off : Nat) (old new : Word) : Bool :=
  match p with
  | .hk _ => hkStopOnly off old new
  | .aux => auxStopOnly off old new
  | .arm =>
    decide (0x200 ≤ off) && decide (off < 0x300) && tallyEnabled s .fabric ((off - 0x200) / 4)
      && fieldsChange (fieldsOf p off .rwS) old new
  | p => !s.stopped p && fieldsChange (fieldsOf p off .rwS) old new

/-- TRANSITION, STOP_PRECOND and MODE_CONFLICT of a write to RUNCTL (R40, R41). -/
def runctlRefusal (s : State) (p : Page) (cmd : Nat) : Reason :=
  if cmd ≠ 1 ∧ cmd ≠ 2 then .none
  else
    match s.run p with
    | .starting => .transition
    | .stopping => .transition
    | .running => if cmd = 2 ∧ stopBad s p then .stopPrecond else .none
    | .stopped => if cmd = 1 ∧ runBad s p then .modeConflict else .none

/-- Writes refused with MODE_CONFLICT by the page's own rules. -/
def modeConflictBad (s : State) (o : Origin) (p : Page) (off : Nat) (old new : Word) : Bool :=
  match p with
  | .glb => off == GLB.LOCKCTL.LOCK_EN.off && extract new 0 1 == 1 && extract old 0 1 == 0 && onePlusOne s
  | .lfm c => off == LFM.MODE.MODE.off && modeConflict s c new
  | .ltx n => ltxConflict s n off old new
  | .lrx n => lrxConflict s n off old new
  | .eqz c => eqzConflict s c off new
  | .fes => fesConflict s off new
  | .rps => rpsConflict s off new
  | .pln => plnConflict s off new
  | .bst => off == BST.CTL.OD_GO.off && odConflict s new
  | .rk n => coreConflict s n off old new
  | .tel => off == TEL.TAP_CTL.ARM_A.off && tapConflict s new
  | .tb => tbConflict s o off
  | .hlk =>
    off == HLK.CTL.CLK_MODE.off && extract new 3 1 == 1 && extract old 3 1 == 0 && !s.running (.syn 2)
  | _ => false

/-- Writes LFM_x refuses with OUT_OF_RANGE (R95, R217). -/
def lfmWriteBad (off : Nat) (new : Word) : Bool :=
  if off = LFM.MODE.MODE.off then modeOutOfRange new
  else if off = LFM.RX_CTL.LOF_N.off then decide (extract new 8 4 < 2) || decide (8 < extract new 0 4)
  else false

/-- Writes CRY_x refuses with OUT_OF_RANGE (R241). -/
def cryWriteBad (off : Nat) (new : Word) : Bool :=
  if off = CRY.POLICY.REKEY.off then
    let life := extract new 20 4
    let rekey := extract new 10 10
    decide (life < 2) || decide (4 < life) || rekey == 0 || decide (1000 < rekey)
  else if off = CRY.CTL.TAGFAIL_N.off then decide (extract new 8 4 < 8) || extract new 0 8 == 0
  else false

/-- Writes refused with OUT_OF_RANGE by the page's own rules. -/
def rangeBad (s : State) (p : Page) (off : Nat) (new : Word) : Bool :=
  match p with
  | .evr => off == EVR.RT_INDEX.INDEX.off && decide (1535 < extract new 0 11)
  | .pwr => pwrWriteBad off new
  | .tb => tbWriteBad off new
  | .cal => calWriteBad off new
  | .bst => bstWriteBad off new
  | .hk _ => hkWriteBad off new
  | .aux => auxWriteBad off new
  | .tel => telWriteBad off new
  | .fes => fesWriteBad off new
  | .rps => rpsWriteBad off new
  | .cast => castWriteBad off new
  | .arc => arcWriteBad off new
  | .lpm => lpmWriteBad off new
  | .ecc => eccWriteBad off new
  | .qlt => qltWriteBad off new
  | .lrx _ => lrxWriteBad off new
  | .ltx _ => ltxWriteBad off new
  | .txp c => txpWriteBad s c off new
  | .cdc _ => cdcWriteBad off new
  | .trc _ => trcWriteBad off new
  | .eqz _ => eqzWriteBad off new
  | .cpr c => cprWriteBad s c off new
  | .mls _ => mlsWriteBad off new
  | .dmp _ => dmpWriteBad off new
  | .fec _ => fecWriteBad off new
  | .lfm _ => lfmWriteBad off new
  | .cry _ => cryWriteBad off new
  | .cpc _ => cpcWriteBad new off
  | .clx _ => clxWriteBad off new
  | .hlk => hlkWriteBad off new
  | .tly _ => tallyWriteBad off new
  | .arm => armWriteBad off new
  | .pln => plnWriteBad off new
  | _ => false

/-- The page's own rules (R49, step 6). -/
def ownRefusal (s : State) (o : Origin) (p : Page) (off : Nat) (old new : Word) : Reason :=
  if off = HDR.RUNCTL.CMD.off then runctlRefusal s p (extract new 0 2)
  else if off < 0x40 then .none
  else if modeConflictBad s o p off old new then .modeConflict
  else if rangeBad s p off new then .outOfRange
  else .none

/-- The outcome of a write of `v` by origin `o` (R49, R65). -/
def writeReason (s : State) (o : Origin) (p : Page) (off : Nat) (v : Word) : Reason :=
  let old := shownWord s o p off
  let new := newWord p off old v
  if onlyReserve s && o != .plinth then .journalFull
  else if underTest s p then .bist
  else if !mayWrite s o p off then .notOwner
  else if o != .plinth && fieldsChange (fieldsOf p off .po) old new then .plinthOnly
  else if (fieldsAt p off).isEmpty then .reservedOffset
  else if (fieldsAt p off).all (fun f => f.acc == .ro) then .readOnly
  else if stopOnlyBad s p off old new then .stopOnly
  else ownRefusal s o p off old new

/-! ## Accepted writes -/

/-- Readings a write's effect takes from outside: `n` of them, a free value for each that is missing. -/
def fillEnv : Nat → List Int → State → List Int × State
  | 0, _, s => ([], s)
  | n + 1, [], s =>
    let r := fillEnv n [] s.drawn
    ((s.free 65536 : Int) :: r.1, r.2)
  | n + 1, e :: es, s =>
    let r := fillEnv n es s
    (e :: r.1, r.2)

/-- A START strobe (R479): it acts under every trigger source, in simultaneous mode through HKA alone (R484). -/
def hkStart (n : Fin 2) (env : List Int) (s : State) : State :=
  if (n = 1 && (hkOf s 0).simul) || s.power = pwrSleep then s
  else
    let r := fillEnv 4 env s
    hkTrigger n (r.1.getD 0 0, r.1.getD 1 0) (r.1.getD 2 0, r.1.getD 3 0) r.2

/-- URG_CTL.GO (R481): `env` holds the reading, then 1 where a conversion is in progress. -/
def hkGo (n : Fin 2) (env : List Int) (s : State) : State :=
  let r := fillEnv 2 env s
  hkUrgent n (r.1.getD 0 0) (r.1.getD 1 0 == 1) r.2

/-- A SEM command (R26, R27). -/
def semCommand (o : Origin) (n cmd : Nat) (s : State) : State :=
  if cmd = 1 then semAcquire o n s else if cmd = 2 then semRelease o n s else s

/-- Event bits of a page whose cause is a condition that the page still shows (R68; DEDUCED, log entry 18): a fault or a
degraded state with a status of its own, as against an event of an instant. -/
def lastingCauses (s : State) (p : Page) : Nat :=
  let lasting (holds : Bool) (event : Nat) : Nat := if holds then 2 ^ event else 0
  match p with
  | .cj => lasting s.journal.inReserve CJ.EVT.RESERVE
  | .pwr => lasting (s.flag .pwr PWR.STAT.REG_FAULT) PWR.EVT.REG_FAIL
  | .tb => lasting (s.flag .tb TB.STAT.BACKUP) TB.EVT.LREF_LOSS
  | .hk n => lasting (s.flag (.hk n) HK.STAT.PLAUS) HK.EVT.PLAUS
  | .fes => sumNat ([Carrier.a, .b].map fun c => lasting (fesState s c == fesFault) (fesEvFault c))
  | .arc => lasting (s.get .arc ARC.STAT.TGT_FAILED != 0) ARC.EVT.TARGET_FAIL
  | .ecc => lasting (s.flag .ecc ECC.STAT.CHK_FAIL) ECC.EVT.CHK_FAIL
  | .lrx n => lasting (s.flag (.lrx n) LRX.ROT_STAT.RETIRED) LRX.EVT.SLICE_RETIRED
  | .txp c => lasting (s.flag (.txp c) TXP.STAT.HOLDOVER) TXP.EVT.HOLDOVER
  | .trc c => lasting (s.flag (.trc c) TRC.STAT.RANGE) TRC.EVT.RANGE
  | .eqz c => lasting (s.flag (.eqz c) EQZ.ACQ_STAT.WRONG_CARRIER) EQZ.EVT.WRONG_CARRIER
  | .fec c => lasting (s.flag (.fec c) FEC.STAT.SD) FEC.EVT.SD + lasting (s.flag (.fec c) FEC.STAT.SF) FEC.EVT.SF
  | .cry c => lasting (s.flag (.cry c) CRY.KAT.FAIL) CRY.EVT.KAT_FAIL
  | .pln => lasting (s.get .pln PLN.STAT.TAMPER_IN != 0) PLN.EVT.TAMPER
  | _ => 0

/-- A write of 1s to EVT_RAW (R68): the bits fall, and those whose cause persists rise again. -/
def rawCleared (p : Page) (mask : Nat) (s : State) : State :=
  let raw := s.get p HDR.EVT_RAW.EVT
  let cleared := raw &&& mask
  let again := cleared &&& lastingCauses s p
  let s := s.setRaw p (raw - cleared)
  if again = 0 then s else s.setRaw p (s.get p HDR.EVT_RAW.EVT ||| again)

/-- What an accepted write of a header register does (R40-R42, R68). -/
def headerWritten (p : Page) (off : Nat) (v : Word) (s : State) : State :=
  if off = HDR.RUNCTL.CMD.off then
    match extract v 0 2, s.run p with
    | 1, .stopped => enterStarting p s
    | 2, .running =>
      let s := enterStopping p s
      if p = .pwr then governorFollow s else s
    | _, _ => s
  else if off = HDR.EVT_RAW.EVT.off then rawCleared p (extract v 0 16) s
  else if off = HDR.EVT_EN.EN.off then sendMessages p s (s.set p HDR.EVT_EN.EN (extract v 0 16))
  else if off = HDR.EVT_SET.SET.off then s.setRaw p (s.get p HDR.EVT_RAW.EVT ||| v.toNat % 2 ^ evtSrc p)
  else if off = HDR.REFUSED_WR.CLR.off && extract v 31 1 == 1 then
    s.clearAll p [HDR.REFUSED_WR.COUNT, HDR.REFUSED_WR.LAST_REASON, HDR.REFUSED_WR.LAST_ORIGIN, HDR.REFUSED_WR.LAST_WORD]
  else if off = HDR.ERRLOG.CLR.off && extract v 31 1 == 1 then
    s.clearAll p [HDR.ERRLOG.COUNT, HDR.ERRLOG.CODE, HDR.ERRLOG.DETAIL]
  else s

/-- What an accepted write of a block-specific register does beside the stored word.  `old` and `new` are the word before
and after it, strobes shown; `env` the readings it takes from outside. -/
def blockWritten (o : Origin) (p : Page) (off : Nat) (old new : Word) (env : List Int) (s : State) : State :=
  match p with
  | .evr =>
    if off = EVR.RT_DATA.VECTOR.off then stageRoute s (s.get .evr EVR.RT_INDEX.INDEX) new
    else if off = EVR.SW_SET.SET.off then softwareSet s (extract new 0 16)
    else if off = EVR.SW_CLR.CLR.off then softwareClear s (extract new 0 16)
    else s
  | .cj => if off = CJ.CTL.SIGN_NOW.off && extract new 0 1 == 1 then signNow s else s
  | .pwr => pwrWritten off new s
  | .tb => tbWritten off old new s
  | .cal => if off = CAL.CTL.STORE_NOW.off && extract new CAL.CTL.STORE_NOW.lo 1 == 1 then calStore s else s
  | .bst => if off = BST.CTL.OD_GO.off && extract new 0 1 == 1 then odGo s else s
  | .hk n =>
    if off = HK.CTL.START.off then (if extract new 0 1 = 1 then hkStart n env s else s)
    else if off = HK.URG_CTL.GO.off then (if extract new 31 1 = 1 then hkGo n env s else s)
    else hkWritten n off old new s
  | .aux => auxWritten off old new s
  | .tel => telWritten off new s
  | .fes => fesWritten off old new env s
  | .rps => rpsWritten off new s
  | .cast => castWritten off new s
  | .arc => arcWritten off new s
  | .qlt => qltWritten off old new s
  | .lrx n => lrxWritten n off old new s
  | .ltx n => ltxWritten n off new s
  | .txp c => encoderRestart c off old new (txpWritten c off new s)
  | .cdc c => cdcWritten c off s
  | .eqz c => eqzWritten c off new s
  | .cpr c => cprWritten c off old new s
  | .mls c => mlsWritten c off s
  | .lfm c => if off = LFM.JUST_RANGE.CLR.off && extract new 31 1 == 1 then clearRange c s else s
  | .clx n => clxWritten n off old new s
  | .cpc c => cpcWritten c off s
  | .hlk => hlkWritten off new s
  | .rk n => coreWritten n off new s
  | .tly n => tallyWritten n off new s
  | .arm =>
    if 0x100 ≤ off ∧ off < 0x200 then semCommand o ((off - 0x100) / 4) (extract new ARM.SEM.CMD.lo 2) s
    else fabricWritten off new s
  | .pln => plnWritten off old new s
  | _ => s

/-- Registers whose value is held outside the register file: the write itself stores nothing there. -/
def heldElsewhere (p : Page) (off : Nat) : Bool :=
  off == HDR.EVT_RAW.EVT.off || off == HDR.EVT_EN.EN.off
  || (match p with
      | .evr => off == EVR.RT_DATA.VECTOR.off
      | .eqz _ => off == EQZ.COEF_DATA.RE.off
      | .ltx _ => off == LTX.PRAM_DATA.SAMPLES.off
      | _ => false)

/-- Writes of a value already held that still act: AFE_CTL writes GAIN_SET at the next boundary (R125), a data port moves its
index (R121, R163), and PPS_NEXT arms (R524). -/
def unchangedWritten (p : Page) (off : Nat) (old v : Word) (s : State) : State :=
  match p with
  | .lrx _ => if off = LRX.AFE_CTL.GAIN_SET.off then stage (pageBase p + off) v s else s
  | .eqz c => if off = EQZ.COEF_DATA.RE.off then coefAdvance c s else s
  | .ltx n => if off = LTX.PRAM_DATA.SAMPLES.off then pramAdvance n s else s
  | .tb => if off = TB.PPS_NEXT.SEC.off then tbWritten off old (newWord p off old v) s else s
  | _ => s

/-- What an accepted write does at once beside the stored word: of a write whose live fields wait, what its other fields
do. -/
def writeEffect (o : Origin) (p : Page) (off : Nat) (old v : Word) (env : List Int) (s : State) : State :=
  if off < 0x40 then headerWritten p off v s
  else
    let new := newWord p off old v
    if liveWaits p off v then
      let atOnce := takeFields (fieldsOf p off .rwL) new old
      if atOnce = old then s else blockWritten o p off old atOnce env s
    else blockWritten o p off old new env s

/-- Registers whose other fields the strobe itself changes: the journal's NEW shows what it left there. -/
def strobeShown (p : Page) (off : Nat) : Bool :=
  off == HDR.REFUSED_WR.CLR.off || off == HDR.ERRLOG.CLR.off ||
    match p with
    | .lfm _ => off == LFM.JUST_RANGE.CLR.off
    | .txp _ => off == TXP.PCH_CTL.CLR.off || off == TXP.FIR_XFADE.SWAP.off
    | .eqz _ => off == EQZ.XFADE_CTL.SWAP.off || off == EQZ.SHADOW.SNAP.off
    | .cpr _ => off == CPR.PCH_RING.ENTRIES.off
    | .fes => off == FES.CMIS_CMD.GO.off
    | .arm => decide (0x100 ≤ off) && decide (off < 0x200)
    | _ => false

/-- NEW of an accepted write (R59): the register after it, with the strobes written as 1 shown as 1. -/
def shownNew (o : Origin) (p : Page) (off : Nat) (old v : Word) (env : List Int) (s : State) : Word :=
  if strobeShown p off then shownWord (writeEffect o p off old v env s) o p off ||| strobes p off v
  else newWord p off old v

/-- Store an accepted write: live fields with a boundary wait for it (R44, R55), the others are in force at once. -/
def storeWrite (p : Page) (off : Nat) (v : Word) (s : State) : State :=
  let inForce := word s p off
  let kept := keptWord p off inForce v
  if heldElsewhere p off then s
  else if liveWaits p off v then
    stage (pageBase p + off) v (setWord s p off (takeFields (fieldsOf p off .rwL) kept inForce))
  else unstage (pageBase p + off) (setWord s p off kept)

/-- A write the page accepts and that changes something: it is stored, counted, journalled, and takes effect. -/
def acceptWrite (o : Origin) (p : Page) (off : Nat) (v : Word) (env : List Int) (s : State) : State :=
  let old := shownWord s o p off
  let s := storeWrite p off v s
  let new := shownNew o p off old v env s
  let s := s.addWrap p HDR.SEQ.COUNT 1
  let s := journalAccepted s o (pageBase p + off) old new
  writeEffect o p off old v env s

/-- Record a refusal in the page (R42, R51). -/
def noteRefused (o : Origin) (p : Page) (off : Nat) (r : Reason) (s : State) : State :=
  let s := s.bump p HDR.REFUSED_WR.COUNT
  let s := s.set p HDR.REFUSED_WR.LAST_REASON r.code
  let s := s.set p HDR.REFUSED_WR.LAST_ORIGIN o.code
  s.set p HDR.REFUSED_WR.LAST_WORD (off / 4)

/-- A refused write (R51): counted and journalled; under test in BST alone (R538), for want of journal space in CJ alone
(R65). -/
def refuseWrite (o : Origin) (p : Page) (off : Nat) (v : Word) (r : Reason) (s : State) : State :=
  let s := s.countFabric 0x69 1
  match r with
  | .journalFull => countUnlogged s
  | .bist => journalRefused (s.bump .bst BST.OD_DENY.WR) o (pageBase p + off) 0 v r
  | r => journalRefused (noteRefused o p off r s) o (pageBase p + off) (shownWord s o p off) v r

/-- A page judges a 32-bit write (R48, R49). -/
def writePage (o : Origin) (p : Page) (off : Nat) (v : Word) (env : List Int) (s : State) : State :=
  match writeReason s o p off v with
  | .none =>
    if writeChanges s p off (shownWord s o p off) v then acceptWrite o p off v env s
    else unchangedWritten p off (shownWord s o p off) v s
  | r => refuseWrite o p off v r s

/-- A write to an address of BAR0 in no page (R542). -/
def writeUnmapped (o : Origin) (addr : Nat) (v : Word) (s : State) : State :=
  if onlyReserve s && o != .plinth then countUnlogged s else journalRefused s o addr 0 v .reservedOffset

/-- A 32-bit write of BAR0 without what follows in Patina. -/
def writeOnce (o : Origin) (addr : Nat) (v : Word) (env : List Int) (s : State) : State :=
  match debugCore addr with
  | some (n, off) => debugWrite o n off v s
  | none =>
    match pageOfAddr addr with
    | none => writeUnmapped o addr v s
    | some p => writePage o p (addr % 0x1000) v env s

/-- Patina writes THIN after an evaluation (R444), with RK7's origin. -/
def thinWrite (s : State) : State :=
  if !patinaRuns s then s
  else
    let t := (ringThin s).getD 15
    if s.get .cast CAST.RING.THIN = t then s
    else
      let s := writeOnce (.rk 7) (pageBase .cast + CAST.RING.THIN.off) (overlay (plainWord .cast CAST.RING.THIN.off (word s .cast CAST.RING.THIN.off)) CAST.RING.THIN t) [] s
      if s.get .cast CAST.RING.THIN = t then s.raise .arc ARC.EVT.THIN_CHG else s

/-- Patina evaluates the ring budget when what it depends on has changed from `s` to `t` (R444). -/
def ringFollow (s t : State) : State :=
  if patinaRuns t && ringInputs s != ringInputs t then thinWrite (ringEvaluate none t) else t

/-- A 32-bit write of BAR0 by an origin. -/
def writeReg (o : Origin) (addr : Nat) (v : Word) (env : List Int) (s : State) : State :=
  ringFollow s (writeOnce o addr v env s)

/-- A write of one field by a core or the Plinth, the word's other bits as they are. -/
def writeField (o : Origin) (p : Page) (f : Field) (v : Nat) (s : State) : State :=
  writeReg o (pageBase p + f.off) (overlay (plainWord p f.off (acceptedWord s p f.off)) f v) [] s

/-! ## Accesses of the host (R357, R361) -/

/-- The registers a write of `n` bytes at `addr` covers. -/
def coveredWords (addr n : Nat) : List Nat :=
  (List.range ((addr % 4 + n + 3) / 4)).map fun i => addr / 4 * 4 + 4 * i

/-- A write that is not an aligned 4-byte write with all byte enables (R361): refused in each register it covers, counted
once. -/
def misalignedWrite (addr n : Nat) (v : Word) (s : State) : State :=
  let s := (coveredWords addr n).foldl (fun s a =>
    match pageOfAddr a with
    | none => writeUnmapped .host a v s
    | some p =>
      if onlyReserve s then countUnlogged (s.countFabric 0x69 1)
      else refuseWrite .host p (a % 0x1000) v .accessSize s) s
  (s.bump .hlk HLK.ACC_ERR.COUNT).set .hlk HLK.ACC_LAST.OFFSET addr

end Sys2Proof.Machine
end

