-- ==== Sys2Proof/Machine/Issue.lean ====
section
/-! DEFINITION. Machine/Issue.lean: the issue of a bundle by a Reckoner core (R376-R390, R393, R398): the traps it may meet,
what its four slots do, hardware loops and branches, and the register window. -/
namespace Sys2Proof.Machine

open Sys2Proof (Word Byte Page Carrier Origin)

/-- The four slot words of a bundle (R376). -/
structure Bundle where
  mac0 : Word
  mac1 : Word
  ls : Word
  ct : Word
  deriving DecidableEq, Repr

/-- The bundle at a bundle address of a core's ISRAM. -/
def bundleAt (s : State) (n : Fin 8) (pc : Nat) : Bundle :=
  let w (i : Nat) : Word := BitVec.ofNat 32 (ofLeBytes (readBytes (coreCode s n) (16 * pc + 4 * i) 4))
  ⟨w 0, w 1, w 2, w 3⟩

/-- The core runs user code. -/
def userMode (x : Core) : Bool := statusBit x.status stMode

/-! ## Traps of a bundle (R380, R383, R387, R390, R393) -/

/-- The levels that are open, and the target and count of a LOOP or LOOPI. -/
def loopOpen (l : LoopLevel) : Bool := l.count != 0
def loopCount (x : Core) (ct : Word) : Nat :=
  if opOf ct = 0x09 then extract (x.d.getD (xOf ct) 0) 0 16 else countOf ct
def ctLoops (ct : Word) : Bool := opOf ct == 0x09 || opOf ct == 0x0A

/-- The bundle at PC is the last of an open loop level. -/
def atLoopEnd (x : Core) : Bool :=
  (loopOpen x.loop0 && x.pc == x.loop0.last) || (loopOpen x.loop1 && x.pc == x.loop1.last)

/-- A level 1 that would not lie within level 0 (R387). -/
def loopOutside (x : Core) (ct : Word) : Bool :=
  ctLoops ct && loopOpen x.loop0 && !loopOpen x.loop1 && loopCount x ct != 0
    && (decide (x.pc + 1 < x.loop0.first) || decide (x.loop0.last < targetOf ct))

/-- The bundle breaks a rule of R377, R380, R386 or R387. -/
def bundleIllegal (n : Fin 8) (x : Core) (b : Bundle) : Bool :=
  !macLegal b.mac0 || !macLegal b.mac1 || !lsLegal n b.ls || !ctLegal b.ct
    || destsClash [macDests 0 b.mac0, macDests 1 b.mac1, lsDests b.ls, ctDests b.ct]
    || (ctJumps b.ct && (x.branch.isSome || atLoopEnd x)) || loopOutside x b.ct

/-- A supervisor instruction or control register in user mode (R375, R393). -/
def bundlePriv (x : Core) (b : Bundle) : Bool :=
  let op := opOf b.ct
  userMode x && ((op == 0x0B && !userWrites (aOf b.ct)) || (op == 0x0C && !userReads (aOf b.ct))
    || (decide (0x0E ≤ op) && decide (op ≤ 0x12)))

/-- The LS word accesses memory, and whether it loads. -/
def lsAccesses (w : Word) : Bool := decide (1 ≤ opOf w) && decide (opOf w ≤ 6)
def lsLoads (w : Word) : Bool := decide (opOf w ≤ 3)

/-- User code may make this access (R393, R408). -/
def userAccess (s : State) (w : Word) (a size : Nat) : Bool :=
  let win := (image s 6).window
  if inWindow a then
    opOf w == 2 && pageOfAddr (a % windowBase) == some (.tly 6) && s.flag (.tly 6) TLY.CTL.UEN
  else decide ((win.getD 2 0).toNat ≤ a) && decide (a + size ≤ (win.getD 3 0).toNat)

/-- An access that lies nowhere, or not where its mode may go (R383, R393). -/
def accessBad (s : State) (x : Core) (w : Word) (a : Nat) : Bool :=
  let size := accessSize (opOf w)
  let lies := if inWindow a then size == 4 else decide (a + size ≤ dsramBytes)
  !lies || (userMode x && !userAccess s w a size)

/-- A user fetch outside the ISRAM window (R393). -/
def fetchBad (s : State) (x : Core) : Bool :=
  let win := (image s 6).window
  userMode x && (decide (16 * x.pc < (win.getD 0 0).toNat) || decide ((win.getD 1 0).toNat < 16 * x.pc + 16))

/-- The core stands at an enabled breakpoint (R398).
DEDUCED (log 84): a BP_EN set before DBG_LOCK was locked still acts. -/
def atBreakpoint (s : State) (n : Fin 8) : Bool :=
  s.flag (.rk n) RK.CORE_CTL.BP_EN && s.get (.rk n) RK.BP_ADDR.ADDR == (coreAt s n).pc

/-- The trap a bundle meets, if any: cause, EADDR and SYSCALL code. -/
def bundleTrap (s : State) (n : Fin 8) (x : Core) (b : Bundle) : Option (Nat × Option Nat × Nat) :=
  let a := (accessAddress x b.ls).addr
  if fetchBad s x then some (causeAccess, some (16 * x.pc), 0)
  else if bundleIllegal n x b then some (causeIllegal, none, 0)
  else if bundlePriv x b then some (causePriv, none, 0)
  else if ctLoops b.ct && loopOpen x.loop0 && loopOpen x.loop1 then some (causeLoopNest, none, 0)
  else if lsAccesses b.ls && a % accessSize (opOf b.ls) != 0 then some (causeAlign, some a, 0)
  else if lsAccesses b.ls && accessBad s x b.ls a then some (causeAccess, some a, 0)
  else if opOf b.ct = 0x0D then some (causeSyscall, none, extract b.ct 0 8)
  else if opOf b.ct = 0x13 then some (causeBreak, none, 0)
  else none

/-! ## The slots of a bundle -/

/-- A result on its way to a D register. -/
def flightD (x : Core) (k : Nat) (w : Word) (latency : Nat) : Flight := ⟨.d k, w.toNat, x.issued + latency⟩

/-- Bundles after which an accumulator is read by EXT, ARDL, ARDH, ASHL and ASHR (R379). -/
def slowLatency (op : Nat) : Nat := if op ≤ 6 then 2 else 1

/-- Apply a MAC slot computed from the operands before the bundle. -/
def applyMac (slot : Nat) (w : Word) (e : MacEffect) (x : Core) : Core :=
  let ds := e.d.map fun r => flightD x r.1 r.2.1 r.2.2
  let slows : List Flight := e.ac.map fun r => ⟨.slow r.1, r.2.toNat, x.issued + slowLatency (opOf w)⟩
  let tbs : List Flight := match e.tb with
    | some t => [⟨.ctl (tracebackShift slot), t, x.issued + 2⟩]
    | none => []
  { x with
      ac := e.ac.foldl (fun l r => l.setIfInBounds r.1 r.2) x.ac
      status := flagApply x.status e.flags
      flights := x.flights ++ ds ++ slows ++ tbs }

/-- A value loaded from DSRAM: per opcode, D registers with their words. -/
def loadedWords (op d : Nat) (bs : List Byte) : List (Nat × Word) :=
  if op = 1 then [(d, BitVec.ofInt 32 (toSigned 16 (ofLeBytes (bs.take 2))))]
  else if op = 2 then [(d, BitVec.ofNat 32 (ofLeBytes (bs.take 4)))]
  else [(d, BitVec.ofNat 32 (ofLeBytes (bs.take 4))), (d + 1, BitVec.ofNat 32 (ofLeBytes ((bs.drop 4).take 4)))]

/-- The bytes a store writes (R378). -/
def storedBytes (y : Core) (w : Word) : List Byte :=
  let d (k : Nat) : Nat := (y.d.getD k 0).toNat
  if opOf w = 4 then leBytes 2 (d (xOf w))
  else if opOf w = 5 then leBytes 4 (d (xOf w))
  else leBytes 4 (d (xOf w)) ++ leBytes 4 (d (xOf w + 1))

/-- An address register is modified, and a reduction noted (R384, R385). -/
def moveAddress (i : Nat) (u : AddressUse) (x : Core) : Core :=
  let x := { x with a := x.a.setIfInBounds i u.next }
  if u.reduced then noteReduced i x else x

/-- What an LS slot does to the core's own registers; `y` is the core before the bundle. -/
def applyLs (n : Fin 8) (y : Core) (w : Word) (s : State) (x : Core) : Core :=
  let op := opOf w
  let d := y.d.getD (xOf w) 0
  if lsAccesses w then
    let u := accessAddress y w
    let x := moveAddress (anOf w) u x
    if lsLoads w && !inWindow u.addr then
      let rs := loadedWords op (xOf w) (readBytes (coreData s n) u.addr (accessSize op))
      { x with flights := x.flights ++ rs.map fun r => flightD x r.1 r.2 3 }
    else x
  else if op = 0x09 then { x with a := x.a.setIfInBounds (anOf w) d }
  else if op = 0x0A then { x with flights := x.flights ++ [flightD x (xOf w) (y.a.getD (anOf w) 0) 1] }
  else if op = 0x0B then { x with b := x.b.setIfInBounds (anOf w) d }
  else if op = 0x0C then { x with l := x.l.setIfInBounds (anOf w) d }
  else if op = 0x0D then { x with m := x.m.setIfInBounds (immOf w % 4) d }
  else if op = 0x0F then moveAddress (anOf w) (useAddress y (anOf w) (toSigned 32 d.toNat) true) x
  else x

/-- A level after the bundle at its LE has issued (R387). -/
def loopStep (l : LoopLevel) (pc : Nat) : LoopLevel × Bool :=
  if l.count ≠ 0 ∧ pc = l.last then ({ l with count := l.count - 1 }, decide (l.count ≠ 1)) else (l, false)

/-- The next bundle by the hardware loops alone: the inner level decides first (R387); true for a loop-back. -/
def loopNext (x : Core) : Core × Nat × Bool :=
  let i := loopStep x.loop1 x.pc
  if i.2 then ({ x with loop1 := i.1 }, i.1.first % 16384, true)
  else
    let o := loopStep x.loop0 x.pc
    ({ x with loop1 := i.1, loop0 := o.1 }, (if o.2 then o.1.first % 16384 else (x.pc + 1) % 16384), o.2)

/-- Take a branch slot's countdown: after the second delay slot issue goes to the target (R379). -/
def branchNext (x : Core) (next : Nat) : Core :=
  match x.branch with
  | some (k, target, b) =>
    if k ≤ 1 then { x with branch := none, pc := target } else { x with branch := some (k - 1, target, b), pc := next }
  | none => { x with pc := next }

/-- The branch condition of a CT word (R378). -/
def branchTaken (y : Core) (w : Word) : Bool :=
  let d := y.d.getD (xOf w) 0
  let op := opOf w
  if op = 1 then true
  else if op = 2 then d == 0
  else if op = 3 then d != 0
  else if op = 4 then d.getLsbD 31
  else if op = 5 then !d.getLsbD 31
  else op == 6 || op == 7 || op == 8

/-- Where a taken branch goes. -/
def branchTarget (y : Core) (w : Word) : Nat :=
  if opOf w = 7 then (y.d.getD (xOf w) 0).toNat % 16384
  else if opOf w = 8 then y.link.toNat % 16384
  else targetOf w

/-- Open the lowest free level, or skip the body of a count of 0 (R387). -/
def openLoop (y : Core) (w : Word) (x : Core) : Core :=
  let lvl : LoopLevel := ⟨loopCount y w, (y.pc + 1) % 16384, targetOf w⟩
  if loopCount y w = 0 then { x with pc := (targetOf w + 1) % 16384 }
  else if !loopOpen y.loop0 then { x with loop0 := lvl }
  else { x with loop1 := lvl }

/-- Control registers a MOVTC acts on at once, beside the core's registers. -/
def movtcActs (i : Nat) : Bool := i == 17 || (decide (24 ≤ i) && decide (i ≤ 29))

/-- What a CT slot does to the core's registers once PC stands at the next bundle; `y` is the core before the bundle. -/
def applyCt (n : Fin 8) (y : Core) (w : Word) (window : List Word) (lines nowNs : Nat) (x : Core) : Core :=
  let op := opOf w
  if 1 ≤ op ∧ op ≤ 8 then
    let x := if op = 6 then { x with link := BitVec.ofNat 32 ((y.pc + 3) % 16384) } else x
    if branchTaken y w then { x with branch := some (2, branchTarget y w, y.pc) } else x
  else if op = 9 ∨ op = 0x0A then openLoop y w x
  else if op = 0x0B then
    let i := aOf w
    if movtcActs i then x
    else
      let k := if userMode y ∧ i = 0 then userStatus else i
      { x with flights := x.flights ++ [⟨.ctl k, (y.d.getD (xOf w) 0).toNat, x.issued + movtcLatency i⟩] }
  else if op = 0x0C then { x with flights := x.flights ++ [flightD x (xOf w) (readCtl y window lines nowNs (aOf w)) 1] }
  else if op = 0x0E then
    { x with
        status := (x.status &&& ~~~ statusMask n false) ||| (y.estatus &&& statusMask n false)
        pc := y.epc.toNat % 16384
        branch := none }
  else if op = 0x0F then { x with status := statusSet (statusSet x.status stIe true) stExl false }
  else if op = 0x10 then { x with status := statusSet x.status stIe false }
  else if op = 0x11 then { x with waiting := true }
  else x

/-! ## The effect of a bundle outside the core -/

/-- Words of the ECC groups a DSRAM byte lies in (R415). -/
def dsramWord (n : Fin 8) (a : Nat) : MemPlace := .sram (12 * n.val + 4 + a / 65536) (a % 65536 / 8)

/-- A store to DSRAM: a write-back queued for the word is discarded (R424). -/
def storeData (n : Fin 8) (a : Nat) (bs : List Byte) (s : State) : State :=
  let s := putData s n (writeBytes (coreData s n) a bs)
  let m := s.memories
  s.setMem { m with
    sram := { m.sram with writeBack := m.sram.writeBack.filter fun k => !(k == placeAddress (dsramWord n a)) } }

/-- The access of an LS slot beyond the core: a DSRAM store or the register window (R383); `y` is the core before the
bundle. -/
def lsAccess (n : Fin 8) (y : Core) (w : Word) (s : State) : State :=
  if !lsAccesses w then s
  else
    let a := (accessAddress y w).addr
    if inWindow a then
      if lsLoads w then
        let r := readReg (.rk n) (a % windowBase) s
        let x := coreAt r.1 n
        (putCore r.1 n { x with flights := x.flights ++ [⟨.d (xOf w), r.2.toNat, x.issued⟩] }).countCore n 0x07 1
      else (writeReg (.rk n) (a % windowBase) (y.d.getD (xOf w) 0) [] s).countCore n 0x08 1
    else if lsLoads w then s.countCore n 0x05 1
    else (storeData n a (storedBytes y w) s).countCore n 0x06 1

/-- The MAC-family operations of a bundle: ACS, and the others that use the accumulators. -/
def acsCount (b : Bundle) : Nat := countTrue [opOf b.mac0 == 0x0E, opOf b.mac1 == 0x0E]
def macFamily (w : Word) : Bool := decide (1 ≤ opOf w) && decide (opOf w ≤ 0x0D)
def macCount (b : Bundle) : Nat := countTrue [macFamily b.mac0, macFamily b.mac1]

/-- A pointer reduction in the LS slot (R385). -/
def lsReduces (y : Core) (w : Word) : Bool :=
  if lsAccesses w then (accessAddress y w).reduced
  else if opOf w = 0x0F then (useAddress y (anOf w) 0 true).reduced
  else false

/-- Count the core's own events of a bundle (R405). -/
def countBundle (n : Fin 8) (y : Core) (b : Bundle) (loopBack : Bool) (s : State) : State :=
  let s := s.countCore n 0x02 1
  let s := if branchTaken y b.ct && decide (1 ≤ opOf b.ct) && decide (opOf b.ct ≤ 8) then s.countCore n 0x09 1 else s
  let s := if loopBack then s.countCore n 0x0C 1 else s
  let s := if acsCount b = 0 then s else s.countCore n 0x0D (acsCount b)
  let s := if macCount b = 0 then s else s.countCore n 0x0E (macCount b)
  let s := if userMode y then s.countCore n 0x11 1 else s
  if lsReduces y b.ls then s.countCore n 0x12 1 else s

/-- A core issues its next bundle: the records of the last one get D1, the reference ticks between the two issues, saturating at
24 bits (R410). -/
def closeSamples (n : Fin 8) (issued : Nat) (s : State) : State :=
  let x := s.samples.get n
  let d := BitVec.ofNat 32 (min (2 ^ 24 - 1) (s.elapsedNs - issued))
  let done := x.records.length - x.waiting
  let records := x.records.take done ++ (x.records.drop done).map fun r => r.set 1 d
  { s with samples := s.samples.set n { x with records := records, waiting := 0 } }

/-- A bundle that meets no trap: its slots read the core `y` as it stands before, then write; `y` has its due results
landed. -/
def runBundle (n : Fin 8) (y : Core) (b : Bundle) (s : State) : State :=
  let e0 := macSlot y b.mac0
  let e1 := macSlot y b.mac1
  let x := applyMac 1 b.mac1 e1 (applyMac 0 b.mac0 e0 y)
  let x := applyLs n y b.ls s x
  let lp := loopNext x
  let x := branchNext lp.1 lp.2.1
  let x := applyCt n y b.ct (image s n).window (lineLevels s n) s.nowNs x
  let x := { x with
      issued := x.issued + 1
      lastIssue := ⟨y.pc, [b.mac0, b.mac1, b.ls, b.ct], userMode y, statusBit y.status stExl, s.elapsedNs⟩ }
  let s := closeSamples n y.lastIssue.issuedAt s
  let s := countBundle n y b lp.2.2 (putCore s n x)
  let s := lsAccess n y b.ls s
  let s := if opOf b.ct = 0x0B ∧ movtcActs (aOf b.ct) then movtcAct n (aOf b.ct) (y.d.getD (xOf b.ct) 0) s else s
  let s := if opOf b.ct = 0x12 then (coreHalt n s).raise (.rk n) RK.EVT.HALTED else s
  if (e0.overflow || e1.overflow) && statusBit y.status stAccvTe then
    trapEnter n causeAccv none 0 (coreAt s n).pc s
  else s

/-- Issue a bundle (R376): results due land, then the bundle traps or runs. -/
def issueWords (n : Fin 8) (b : Bundle) (s : State) : State :=
  let y := landDue n (coreAt s n)
  let s := putCore s n y
  match bundleTrap s n y b with
  | some (cause, eaddr, code) => trapEnter n cause eaddr code (trapEpc y) s
  | none => runBundle n y b s

/-- Reaching BP_ADDR before issue (R398): `step` is a STEP strobe, which a breakpoint with BP_MODE = 0 does not hold. -/
def issueAt (n : Fin 8) (b : Bundle) (step : Bool) (s : State) : State :=
  if atBreakpoint s n then
    if s.flag (.rk n) RK.CORE_CTL.BP_MODE then
      let y := landDue n (coreAt s n)
      trapEnter n causeBreak none 0 (trapEpc y) (putCore s n y)
    else if step then issueWords n b s
    else (coreHalt n s).raise (.rk n) RK.EVT.BREAK
  else issueWords n b s

/-- Give the core a bundle of slot words to issue: it issues while the page runs and the core does not wait. -/
def issueBundle (n : Fin 8) (b : Bundle) (s : State) : State :=
  if !s.running (.rk n) || (coreAt s n).waiting then s else issueAt n b false s

/-- A STEP strobe on a stopped core with debugging unlocked: one bundle issues and completes (R398). -/
def stepCore (n : Fin 8) (s : State) : State :=
  if !s.stopped (.rk n) || s.flag (.rk n) RK.DBG_LOCK.LOCK then s
  else
    let s := issueAt n (bundleAt s n (coreAt s n).pc) true s
    putCore s n (landAll n (coreAt s n))

/-- Carry out the STEP strobes that writes have left waiting, at most `fuel` of them. -/
def drainSteps : Nat → State → State
  | 0, s => s
  | k + 1, s =>
    match s.stepsDue with
    | [] => s
    | n :: ns => drainSteps k (stepCore n { s with stepsDue := ns })

/-- A step may itself write STEP to another core: as many strobes as cores are carried out. -/
def settle (s : State) : State := drainSteps 8 s

/-- A register write with the steps it strobes. -/
def writeSettled (o : Origin) (addr : Nat) (v : Word) (env : List Int) (s : State) : State :=
  settle (writeReg o addr v env s)

/-- BUNDLE_ISSUE: the core fetches the bundle at PC and issues it (R376). -/
def bundleIssue (n : Fin 8) (s : State) : State := settle (issueBundle n (bundleAt s n (coreAt s n).pc) s)

/-- A core issues a bundle that holds one word, with NOPs in the other slots. -/
def issueMac (n : Fin 8) (slot1 : Bool) (w : Word) (s : State) : State :=
  settle (issueBundle n (if slot1 then ⟨0, w, 0, 0⟩ else ⟨w, 0, 0, 0⟩) s)
def issueLs (n : Fin 8) (w : Word) (s : State) : State := settle (issueBundle n ⟨0, 0, w, 0⟩ s)
def issueCt (n : Fin 8) (w : Word) (s : State) : State := settle (issueBundle n ⟨0, 0, 0, w⟩ s)

end Sys2Proof.Machine
end

