-- ==== Sys2Proof/Machine/Restart.lean ====
section
/-! DEFINITION. Machine/Restart.lean: what the supervising cores do by register writes for Quolet: the restart of a carrier
in a new mode (R264, R94) and the pilot channel of R101, R250 and R258. -/
namespace Sys2Proof.Machine

open Sys2Proof (Word Byte Page Carrier Origin)

/-! ## The restart of a carrier (R94, R264) -/

/-- The core that supervises a carrier's dispersion compensation. -/
def supervisor : Carrier → Origin
  | .a => .rk 2
  | .b => .rk 4

/-- A RUN (1) or STOP (2) written by an origin. -/
def writeRunctl (o : Origin) (p : Page) (cmd : Nat) (s : State) : State :=
  writeReg o (pageBase p + HDR.RUNCTL.CMD.off) (BitVec.ofNat 32 cmd) [] s

/-- RK0 stops a page and waits until it is stopped. -/
def stopAndWait (s : State) (p : Page) : State := pageStopped p (writeRunctl (.rk 0) p 2 s)

/-- The applied CD becomes CD_SET, and CD_MODE PRESET_FINE, while CDC_x is stopped (R264). -/
def presetFine (c : Carrier) (applied : Int) (s : State) : State :=
  let s := writeField (supervisor c) (.cdc c) CDC.CD_SET.CD (ofSigned CDC.CD_SET.CD.width applied) s
  writeField (supervisor c) (.cdc c) CDC.CTL.CD_MODE 2 s

/-- Erase every slot of a carrier (R230, R264). -/
def eraseSlots (s : State) (c : Carrier) : State :=
  (List.range 4).foldl (fun s i => eraseRxSlot (eraseTxSlot s c i) c i) s

/-- The order in which the pages of carriers run again: LFM_x first, then the synthesisers, then the rest (R94). -/
def runOrder (ps : List Page) : List Page :=
  let lfm (p : Page) : Bool := match p with | .lfm _ => true | _ => false
  let syn (p : Page) : Bool := match p with | .syn _ => true | _ => false
  ps.filter lfm ++ ps.filter syn ++ ps.filter fun p => !lfm p && !syn p

/-- Stop-change-restart of carriers, each with its new MODE; only the pages that were not stopped run again. -/
def restartCarriers (xs : List Carrier) (mode : Carrier → Nat) (s : State) : State :=
  let pages := (xs.flatMap linePagesOf).filter fun p => !s.stopped p
  let applied := xs.map fun x => (x, cdApplied s x)
  let s := pages.foldl stopAndWait s
  let s := applied.foldl (fun s e => presetFine e.1 e.2 s) s
  let s := xs.foldl (fun s x => writeField (.rk 0) (.lfm x) LFM.MODE.MODE (mode x) s) s
  let s := xs.foldl eraseSlots s
  (runOrder pages).foldl (fun s p => writeRunctl (.rk 0) p 1 s) s

/-- A carrier's step is due to restart it: the A-end's framer has finished CSF N-1, the armed receiver has left SYNC after
CSF N-16, or the framer of an announced step down has finished CSF N-1 (R264). -/
def restartDue (s : State) (x : Carrier) : Bool :=
  let r := stepOf s x
  let ended := csfAtOrAfter (txCsf s x) r.n
  let st := rateState s x
  (st == rsCommitted && ended)
  || (st == rsArmed && !inFrame s x
      && csfAtOrAfter (s.pair (.lfm x) LFM.RX_CSF_LO.CSF LFM.RX_CSF_HI.CSF + 16) r.n)
  || (st == rsRestarting && r.kind == 1 && !r.restarted && ended)

/-- The carrier's record once its restart has been made: TIMEOUT runs. -/
def noteRestarted (s : State) (x : Carrier) : State :=
  startTimer (.restarted x)
    (setRate x rsRestarting (putStep s x { stepOf s x with restarted := true, locked := false, failed := false }))

/-- STEP_RESTART: the carriers of the step restart, each in its own new mode (R264). -/
def stepRestart (x : Carrier) (s : State) : State :=
  if !restartDue s x then s
  else
    let xs := stepCarriers s x
    let mode (y : Carrier) : Nat := (stepOf s y).toMode
    xs.foldl noteRestarted (restartCarriers xs mode (xs.foldl noteRestarted s))

/-- The mode a fallback restarts a carrier in: the previous rung; 0x0 stays 0x0 (R264). -/
def fallbackMode (s : State) (x : Carrier) : Nat :=
  let m := lineMode s x
  (before (ladderOf s x) m).getD (if (ladderOf s x).contains m then m else (stepOf s x).fromMode)

/-- One carrier's record at a fallback: after a step up the backoff starts (R264). -/
def noteFallback (m : Nat) (s : State) (x : Carrier) : State :=
  let r := stepOf s x
  let up := r.kind == 0 && ownRole s == 0
  let step := (r.fromMode, r.toMode)
  let r := { r with
    fromMode := lineMode s x
    toMode := m
    kind := if r.kind = 2 then 2 else 1
    backoffs := if up then (step, nextBackoff s x step) :: r.backoffs.filter (fun e => e.1 != step) else r.backoffs
    waiting := if up then some step else r.waiting }
  ((putStep s x r).bump .qlt QLT.STEP_CNT.FALLBACK).raise .qlt QLT.EVT.FALLBACK

/-- FALLBACK: TIMEOUT passes without CONFIRMING, or SF is set after the restart (R264). -/
def fallback (x : Carrier) (s : State) : State :=
  let st := rateState s x
  if (st = rsRestarting && (stepOf s x).restarted && (stepTimedOut s x || (stepOf s x).failed))
      || (st = rsConfirming && (stepOf s x).failed) then
    let xs := stepCarriers s x
    let modes := xs.map fun y => (y, fallbackMode s y)
    let mode (y : Carrier) : Nat := ((modes.find? fun e => e.1 == y).map (·.2)).getD 0
    let s := modes.foldl (fun s e => noteFallback e.2 s e.1) s
    xs.foldl noteRestarted (restartCarriers xs mode (xs.foldl noteRestarted s))
  else s

/-! ## The pilot channel (R101, R250, R258) -/

/-- Have at least 32 coded bits at hand: a queued word, or an idle word, is coded bit 63 first (R250, R252). -/
def codeWord (x : Carrier) (s : State) : State :=
  if 32 ≤ (s.qlt.coded.get x).length then s
  else
    let w := (s.qlt.outPilot.get x).headD idleWord
    let e := convEncode (s.qlt.encoder.get x) (msbBits 64 w.toNat)
    s.setQlt { s.qlt with
      outPilot := s.qlt.outPilot.set x (s.qlt.outPilot.get x).tail
      coded := s.qlt.coded.set x (s.qlt.coded.get x ++ e.1)
      encoder := s.qlt.encoder.set x e.2 }

/-- RK1 appends coded bits while 32 of them fit. -/
def feedPilot (x : Carrier) : Nat → State → State
  | 0, s => s
  | n + 1, s =>
    if !quoletRuns s || !modulates s x || pchFull s x then s
    else
      let s := codeWord x s
      let bits := s.qlt.coded.get x
      let s := s.setQlt { s.qlt with coded := s.qlt.coded.set x (bits.drop 32) }
      let w := BitVec.ofNat 32 (ofLsbBits (bits.take 32))
      feedPilot x n (writeReg (.rk 1) (pageBase (.txp x) + TXP.PCH_DATA.BITS.off) w [] s)

/-- PILOT_GROUP_SIGN: RK1 keeps the FIFO filled, 32 writes at most, and the group takes its bit (R101). -/
def groupSign (x : Carrier) (s : State) : State := pilotGroupSign x (feedPilot x 32 s)

/-- PCH_MODULATION_CHANGE: at the symbol-frame boundary the modulation stops, with CLR, or resumes (R258). -/
def modulationChange (x : Carrier) (s : State) : State :=
  match s.qlt.modulate.get x with
  | none => s
  | some on =>
    if !quoletRuns s then s
    else
      let s := s.setQlt { s.qlt with modulate := s.qlt.modulate.set x none }
      let w := overlay (plainWord (.txp x) TXP.PCH_CTL.EN.off (word s (.txp x) TXP.PCH_CTL.EN.off)) TXP.PCH_CTL.EN (bit on)
      let w := if on then w else overlay w TXP.PCH_CTL.CLR 1
      let s := if on then s else s.setQlt { s.qlt with outPilot := s.qlt.outPilot.set x [] }
      writeReg (.rk 1) (pageBase (.txp x) + TXP.PCH_CTL.EN.off) w [] s

/-- PCH_RX_CLEAR: 1 ms after the peer has acknowledged a message with INB_x = 1 (R258). -/
def pchRxClear (x : Carrier) (s : State) : State :=
  if quoletRuns s && s.qlt.inbAcked.get x && passed s (.inbAcked x) msNs then
    writeField (.rk 1) (.cpr x) CPR.CTL.PCH_RX 0 (s.setQlt { s.qlt with inbAcked := s.qlt.inbAcked.set x false })
  else s

/-- PATH_STATE_CHANGE: a path that leaves INBAND has its pilot channel received again (R258). -/
def pathMoved (x : Carrier) (s : State) : State :=
  let was := pathState s x
  let s := pathChange x s
  if was = pathInband && pathState s x != pathInband && quoletRuns s then writeField (.rk 1) (.cpr x) CPR.CTL.PCH_RX 1 s
  else s

end Sys2Proof.Machine
end

