-- ==== Sys2Proof/Machine/PilotChannel.lean ====
section
/-! DEFINITION. Machine/PilotChannel.lean: RK1's reception of the pilot channel (R251): the records of R185, Viterbi decoding of the code
of R250, the phase of the coded pairs and the word boundaries of R252. -/
namespace Sys2Proof.Machine

open Sys2Proof (Byte Word Carrier Page Origin)

/-! ## Viterbi decoding (R250, R251) -/

/-- How a soft value matches a coded bit: a positive value stands for 0 (R184). -/
def softMatch (v : Int) (b : Bool) : Int := if b then -v else v

/-- The better of the two ways into encoder state `n` with a pair of soft values, its bit in front; equal ways by the lower state
(log entry 82). -/
def viterbiInto (paths : List (Int × List Bool)) (v w : Int) (n : Nat) : Int × List Bool :=
  let enter (st : Nat) : Int × List Bool :=
    let r := n / 32 * 64 + st
    let p := paths.getD st (0, [])
    (p.1 + softMatch v (parity (r &&& 0o171)) + softMatch w (parity (r &&& 0o133)), (n / 32 == 1) :: p.2)
  let a := enter (2 * (n % 32))
  let b := enter (2 * (n % 32) + 1)
  if b.1 ≤ a.1 then a else b

/-- The path of the greatest metric. -/
def bestPath (paths : List (Int × List Bool)) : Int × List Bool :=
  paths.foldl (fun m p => if m.1 < p.1 then p else m) (paths.headD (0, []))

/-- The traceback depth: at least 96 information bits (R251). -/
def tracebackDepth : Nat := 96 + Config.tracebackExtra

/-- One coded pair: every path grows by a bit, and the bit beyond the traceback is read from the best path. -/
def viterbiPair (r : ViterbiRun) (v w : Int) : ViterbiRun :=
  let paths := (List.range 64).map (viterbiInto r.paths v w)
  let out := (bestPath paths).2.drop tracebackDepth
  ⟨paths.map fun p => (p.1, p.2.take tracebackDepth), none, r.bits ++ out⟩

/-- One soft value joins a phase. -/
def viterbiTake (r : ViterbiRun) (v : Int) : ViterbiRun :=
  match r.half with
  | none => { r with half := some v }
  | some u => viterbiPair r u v

/-- One soft value joins both phases of the coded pairs. -/
def searchTake (p : PilotSearch) (v : Int) : PilotSearch := { p with even := viterbiTake p.even v, odd := viterbiTake p.odd v }

/-- The odd phase has the better path metric (R251). -/
def oddBetter (p : PilotSearch) : Bool := decide ((bestPath p.even.paths).1 < (bestPath p.odd.paths).1)

/-! ## Word boundaries (R251, R252) -/

/-- The word that starts at a bit shows MARK = 0b10. -/
def markAt (bits : List Bool) (i : Nat) : Bool := bits.getD (i + 3) false && !bits.getD (i + 4) false

/-- 16 consecutive words that start with the first bit are decoded and show MARK. -/
def wordsHere (bits : List Bool) : Bool :=
  decide (1024 ≤ bits.length) && (List.range 16).all fun n => markAt bits (64 * n)

/-- The first bit offset at which 16 consecutive words show MARK. -/
def findWords : List Bool → Option Nat
  | [] => none
  | b :: bits => if wordsHere (b :: bits) then some 0 else (findWords bits).map (· + 1)

/-- The decoded bits of the phase in sync, and their replacement; the other phase keeps none. -/
def syncBits (p : PilotSearch) : List Bool := if p.phase then p.odd.bits else p.even.bits
def putSyncBits (p : PilotSearch) (bits : List Bool) : PilotSearch :=
  { p with
    even := { p.even with bits := if p.phase then [] else bits }
    odd := { p.odd with bits := if p.phase then bits else [] } }

/-- Replace RK1's search of a pilot channel. -/
def putSearch (x : Carrier) (p : PilotSearch) (s : State) : State := s.setQlt { s.qlt with pilotRx := s.qlt.pilotRx.set x p }

/-- RK1 consumes the next record of its ring, if there is one, and advances RD_IDX (R185). -/
def takeRecord (x : Carrier) (s : State) : State :=
  let rd := extract (acceptedWord s (.cpr x) CPR.PCH_RING.RD_IDX.off) CPR.PCH_RING.RD_IDX.lo CPR.PCH_RING.RD_IDX.width
  if rd = s.get (.cpr x) CPR.PCH_RING.WR_IDX then s
  else
    let a := 16 * s.get (.cpr x) CPR.PCH_BASE.ADDR + 272 * rd + 16
    let vs := (readBytes (s.dsram.get 1) a 256).map fun b => toSigned 8 b.toNat
    let p := vs.foldl searchTake (s.qlt.pilotRx.get x)
    let p := if s.flag .qlt (pchSyncF x) then putSyncBits p (syncBits p) else p
    writeField (.rk 1) (.cpr x) CPR.PCH_RING.RD_IDX ((rd + 1) % s.get (.cpr x) CPR.PCH_RING.ENTRIES) (putSearch x p s)

/-- RK1 consumes the records that wait while it receives the pilot channel (R185, R251). -/
def takeRecords (x : Carrier) (s : State) : State :=
  if quoletRuns s && s.flag (.cpr x) CPR.STAT.PCH_ACTIVE then
    (List.range (s.get (.cpr x) CPR.PCH_RING.ENTRIES)).foldl (fun s _ => takeRecord x s) s
  else s

/-- Only the bits that may still begin a run of 16 words are kept. -/
def recentBits (r : ViterbiRun) : ViterbiRun := { r with bits := r.bits.drop (r.bits.length - 1023) }

/-- The search in the phase of the better path metric, and where 16 words show MARK there (R251). -/
def choosePhase (p : PilotSearch) : PilotSearch := { p with phase := oddBetter p }
def wordsAt (p : PilotSearch) : Option Nat := findWords (syncBits p)

/-- The words that follow the 16 at bit `i` are in sync. -/
def syncAt (p : PilotSearch) (i : Nat) : PilotSearch :=
  putSyncBits { p with marks := List.replicate 16 true } ((syncBits p).drop (i + 1024))

/-- The search looks for word boundaries (R251). -/
def searchWords (x : Carrier) (s : State) : State :=
  let p := choosePhase (s.qlt.pilotRx.get x)
  match wordsAt p with
  | some i => putSearch x (syncAt p i) (s.set .qlt (pchSyncF x) 1)
  | none => putSearch x { p with even := recentBits p.even, odd := recentBits p.odd } s

/-- PCH_WORD_SYNC: RK1 takes its records and looks for word sync where the pilot channel is not in it (R251). -/
def wordSync (x : Carrier) (s : State) : State :=
  let s := takeRecords x s
  if quoletRuns s && s.flag (.cpr x) CPR.STAT.PCH_ACTIVE && !s.flag .qlt (pchSyncF x) then searchWords x s else s

/-- 8 of the last 16 words in sync did not show MARK. -/
def marksLost (p : PilotSearch) : Bool := decide (8 ≤ (p.marks.filter fun m => !m).length)

/-- PCH_WORD_SYNC_LOSS: the pilot channel leaves word sync (R251). -/
def wordSyncLoss (x : Carrier) (s : State) : State :=
  let p := s.qlt.pilotRx.get x
  if s.flag .qlt (pchSyncF x) && marksLost p then leaveWordSync (putSearch x { p with marks := [] } s) x else s

/-- LINK_WORD on a pilot channel: the next word of the stream in sync, if 64 bits of it are decoded (R251, R252). -/
def pilotWord (x : Carrier) (s : State) : State :=
  let s := takeRecords x s
  let p := s.qlt.pilotRx.get x
  let bits := syncBits p
  if !(quoletRuns s && s.flag .qlt (pchSyncF x)) || bits.length < 64 then s
  else
    let p := putSyncBits { p with marks := (markAt bits 0 :: p.marks).take 16 } (bits.drop 64)
    linkWord x true (some (BitVec.ofNat 64 (ofMsbBits (bits.take 64)))) (putSearch x p s)

/-- LINK_WORD: a link word arrives on a path (R252). -/
def wordArrives (x : Carrier) (w : Sys2Proof.LinkArrival) (s : State) : State :=
  match w with
  | .pilot => pilotWord x s
  | .inband v => linkWord x false v s

end Sys2Proof.Machine
end

