-- ==== Sys2Proof/Machine/Capsules.lean ====
section
/-! DEFINITION. Capsules.lean: the capsules that write registers (WRITE_PO and FORMAT_ARCHIVE, R464), the Plinth's reset of
RK0 (R473), and STOP, LOAD and RUN of a core by the device. -/
namespace Sys2Proof.Machine

/-- The result byte of one pair (R464): the refusal reason of R50, 0 where the write is accepted. -/
def pairReason (s : State) (off : Nat) (v : Word) : Nat :=
  if off % 4 ≠ 0 then Reason.accessSize.code
  else
    match debugCore off with
    | some (n, _) =>
      if !testBit (s.get (.rk n) HDR.OWNER.MASK) Origin.plinth.code then Reason.notOwner.code
      else if !s.stopped (.rk n) || s.flag (.rk n) RK.DBG_LOCK.LOCK then Reason.modeConflict.code
      else Reason.none.code
    | none =>
      match pageOfAddr off with
      | none => Reason.reservedOffset.code
      | some p => (writeReason s .plinth p (off % 0x1000) v).code

/-- Write one pair with origin 0xA. -/
def writePair (off : Nat) (v : Word) (s : State) : State :=
  if off % 4 = 0 then writeReg .plinth off v [] s
  else
    match pageOfAddr off with
    | none => writeUnmapped .plinth off v s
    | some p => refuseWrite .plinth p (off % 0x1000 / 4 * 4) v .accessSize s

/-- The offset and value of pair `i` of a WRITE_PO body. -/
def poPair (b : List Byte) (i : Nat) : Nat × Word := (leAt b (2 + 8 * i) 4, BitVec.ofNat 32 (leAt b (6 + 8 * i) 4))

/-- The body asks for a format, which FORMAT_ARCHIVE alone may (R464). -/
def poFormats (b : List Byte) : Bool :=
  (List.range (leAt b 0 2)).any fun i =>
    (poPair b i).1 == pageBase .arc + ARC.LAYOUT.FORMAT.off && testBit (poPair b i).2.toNat 4

/-- Write the pairs in turn; answers the result bytes. -/
def writePairs (b : List Byte) : List Nat → List Byte → State → List Byte × State
  | [], out, s => (out, s)
  | i :: is, out, s =>
    let x := poPair b i
    writePairs b is (out ++ [BitVec.ofNat 8 (pairReason s x.1 x.2)]) (writePair x.1 x.2 s)

/-- WRITE_PO runs after checks 1 to 5, but not under the fail-closed hold (R463, R473). -/
def runWritePo (s : State) : State :=
  match s.plinth.running with
  | some x =>
    if x.cmd ≠ 5 then s
    else if s.flag .pln PLN.STAT.RK0_RECOVERY then capsuleEnd 5 capNotAllowed [] s
    else if x.body.length ≠ 2 + 8 * leAt x.body 0 2 || poFormats x.body then capsuleEnd 5 capBadBody [] s
    else
      let r := writePairs x.body (List.range (leAt x.body 0 2)) [] s
      settle (capsuleEnd 5 capOk r.1 r.2)
  | none => s

/-- FORMAT_ARCHIVE (R464): the identity must be that of the media present, and the Plinth writes FORMAT. -/
def formatArchive (b : List Byte) (s : State) : Nat × State :=
  if b.length ≠ 8 then (capBadBody, s)
  else if s.get .arc ARC.STAT.MEDIA = mediaAbsent || ofLeBytes b != s.archive.media then (capNotAllowed, s)
  else
    let v := overlay (plainWord .arc ARC.LAYOUT.FORMAT.off (word s .arc ARC.LAYOUT.FORMAT.off)) ARC.LAYOUT.FORMAT 1
    if writeReason s .plinth .arc ARC.LAYOUT.FORMAT.off v != .none then (capNotAllowed, s)
    else (capOk, writeReg .plinth (pageBase .arc + ARC.LAYOUT.FORMAT.off) v [] s)

/-- Load an image into a core and verify it (R395 steps 2 to 4). -/
def loadImage (n : Fin 8) (image? : Option (List Byte)) (s : State) : State :=
  let s := s.set (.rk n) RK.IMG_STAT.BUSY 1
  match image? with
  | none => loadVerify n (putImage s n { image s n with loading := some [], failed := some loadRange })
  | some b =>
    match loadCheck s n b false with
    | some e => loadVerify n (putImage s n { image s n with loading := some b, failed := some e })
    | none => loadVerify n (loadCopy n b (putImage s n { image s n with loading := some b, failed := none }))

/-- An accepted RUN of a core brings it to running. -/
def coreUp (n : Fin 8) (s : State) : State := pageStarted (.rk n) true (0, 0) (0, 0) s

/-- The heartbeat that a reset of this failure must bring is not yet late (R473). -/
def rk0Awaited (s : State) : Bool := !spaced s .rk0Run (2 * hbPeriodNs s)

/-- RK0_RECOVERY_RESET: one of at most three resets of RK0, which is first reloaded if its image or its measurement is not
valid (R473). -/
def recoveryReset (s : State) : State :=
  let n := s.get .pln PLN.STAT.RK0_RESETS
  if !s.flag .pln PLN.STAT.RK0_RECOVERY || decide (3 ≤ n) || s.flag .pln PLN.STAT.LOCKSTEP_FAIL || rk0Awaited s then s
  else
    let s := pageStopped (.rk 0) (writeRunctl .plinth (.rk 0) 2 s)
    let good := s.flag (.rk 0) RK.IMG_STAT.VALID && s.flag (.rk 0) RK.IMG_STAT.MEAS_VALID
    let s := if good then s
      else
        let v := overlay (overlay 0 RK.LOAD_CTL.SRC 1) RK.LOAD_CTL.LOAD 1
        loadVerify 0 (writeReg .plinth (pageBase (.rk 0) + RK.LOAD_CTL.LOAD.off) v [] s)
    let s := coreUp 0 (writeRunctl .plinth (.rk 0) 1 s)
    let s := (s.set .pln PLN.STAT.RK0_RESETS (n + 1)).bump .pln PLN.RK0_WATCH.RESETS
    let s := secLog s .rk0Recovery 0 2
    startTimer .rk0Run (s.setPlinth { s.plinth with lastBeat := s.get (.rk 0) RK.HB_CNT.COUNT })

/-- STOP, LOAD with SRC = 1 and RUN of a core by the device (R557 step 3); answers whether the load ended OK. -/
def deviceReload (n : Fin 8) (slot : Nat) (s : State) : State × Bool :=
  if !journalTakes s 3 then (countUnlogged s, false) else
  let s := hardwareStop (.rk n) s
  let v := overlay (overlay 0 RK.LOAD_CTL.SRC 1) RK.LOAD_CTL.LOAD 1
  let s := journalAccepted (s.addWrap (.rk n) HDR.SEQ.COUNT 1) .hardware (pageBase (.rk n) + RK.LOAD_CTL.LOAD.off) 0 v
  let images := (s.archive.fw.getD slot ⟨false, [], 0⟩).images
  let s := loadImage n (images.getD n.val none) s
  let ok := s.get (.rk n) RK.IMG_STAT.RESULT == loadOk
  let s := if ok && n == 6 && (images.getD 8 none).isSome then loadImage n (images.getD 8 none) s else s
  let ok := ok && s.get (.rk n) RK.IMG_STAT.RESULT == loadOk
  (if s.flag (.rk n) RK.IMG_STAT.VALID && !runBad s (.rk n) then coreUp n (hardwareRun (.rk n) s) else s, ok)

end Sys2Proof.Machine
end

