-- ==== Sys2Proof/Machine/Start.lean ====
section
/-! DEFINITION. Start.lean: device resets (R473, R511, R551, R556, R567), the start-up sequence (R451, R552 to R554, R583) and
trial starts (R556). -/
namespace Sys2Proof.Machine

/-- Words held on VDD_AON, with the bits held (R567), the wake cause of R510 and the level of the tamper inputs (R471). -/
def alwaysOnWords : List (Page × Nat × Word) :=
  [(.pwr, PWR.WAKE_EN.EN.off, BitVec.allOnes 32), (.pwr, PWR.WAKE_STAT.CAUSE.off, BitVec.allOnes 32),
   (.fes, FES.WAKE_CFG.THR_A.off, BitVec.allOnes 32),
   (.qlt, QLT.WAKE_CTL.EXPECT_ID.off, fieldMask QLT.WAKE_CTL.EXPECT_ID.lo QLT.WAKE_CTL.EXPECT_ID.width),
   (.tb, TB.CTL.ALARM_EN.off, fieldMask TB.CTL.ALARM_EN.lo TB.CTL.ALARM_EN.width),
   (.tb, TB.ALARM_LO.NS.off, BitVec.allOnes 32), (.tb, TB.ALARM_HI.NS.off, BitVec.allOnes 32),
   (.pln, PLN.TAMPER_CFG.EN.off, BitVec.allOnes 32),
   (.pln, PLN.TAMPER_STAT.LATCHED.off, fieldMask PLN.TAMPER_STAT.LATCHED.lo PLN.TAMPER_STAT.LATCHED.width),
   (.pln, PLN.STAT.TAMPER_IN.off, fieldMask PLN.STAT.TAMPER_IN.lo PLN.STAT.TAMPER_IN.width)]

/-- Registers restored from the keep store and the protected store: the numbers of the security log (R466). -/
def storedWords : List (Page × Nat × Word) :=
  [(.pln, PLN.SECLOG_LO.SEQ.off, BitVec.allOnes 32), (.pln, PLN.SECLOG_HI.SEQ.off, BitVec.allOnes 32)]

/-- Keep the masked bits of some words of `s` in `t`. -/
def keepWords (s : State) (ws : List (Page × Nat × Word)) (t : State) : State :=
  ws.foldl (fun t x => setWord t x.1 x.2.1 ((word t x.1 x.2.1 &&& ~~~x.2.2) ||| (word s x.1 x.2.1 &&& x.2.2))) t

/-- The part of the Plinth's state that its protected store and the Archive hold (R458, R466). -/
def plinthStored (x : Plinth) : Plinth :=
  { State.reset.plinth with
    officers := x.officers
    psk := x.psk
    trust := x.trust
    allow := x.allow
    codeKey := x.codeKey
    svnMin := x.svnMin
    policy := x.policy
    alsCfg := x.alsCfg
    holdSet := x.holdSet
    counter := x.counter
    logHead := x.logHead
    log := x.log
    logSigs := x.logSigs
    zeroiseLow := x.zeroiseLow
    drawn := x.drawn }

/-- Everything outside VDD_AON is reset (R511), and with `aon` false VDD_AON too (R567).  The keep store, the Archive's
media, the device's pins and the model's own counters stay.  A start is then due, with its cause of R551. -/
def deviceReset (cause : Nat) (aon : Bool) (s : State) : State :=
  let r := State.reset
  let woken := s.power = pwrOff ∧ s.pwrMgr.startDue = true
  let s := if woken then s.set .pwr PWR.WAKE_STAT.CAUSE s.pwrMgr.cause else s
  let t : State := { r with
    elapsedNs := s.elapsedNs
    keep := s.keep
    archive := { s.archive with timeouts := [], loadSlot := none }
    plinth := plinthStored s.plinth
    journal := { r.journal with
      archive := s.journal.archive
      persisted := s.journal.persisted
      signatures := s.journal.signatures }
    cast := { r.cast with
      stored := s.cast.stored
      ringStored := s.cast.ringStored }
    selfTest := { r.selfTest with copied := s.selfTest.copied }
    tel := { r.tel with signatures := s.tel.signatures }
    hostLink := { r.hostLink with
      perst := s.hostLink.perst
      hostRate := s.hostLink.hostRate
      hostWidth := s.hostLink.hostWidth }
    qlt := { r.qlt with
      answerDue := if aon then s.qlt.answerDue else r.qlt.answerDue
      wakeHeard := if aon then s.qlt.wakeHeard else r.qlt.wakeHeard }
    pwrMgr := { r.pwrMgr with
      aonTrim := if aon then s.pwrMgr.aonTrim else 0
      resetCause := cause }
    freeCount := s.freeCount
    pending := s.pending }
  keepWords s (if aon then alwaysOnWords ++ storedWords else storedWords) t

/-- PWRGD has been low for more than 1 us (R511). -/
def pwrgdLow (s : State) : State := deviceReset 2 true s

/-- VDD_AON is lost (R567). -/
def vddAonLoss (s : State) : State := deviceReset 1 false s

/-- A start is the device's first (R583). -/
def firstStart (s : State) : Bool := s.keep.bootCount == 0 && s.keep.areas.all fun x => !x.1.valid && !x.2.valid

/-- The tamper latch is served before any other start-up step (R471). -/
def startTamper (s : State) : State :=
  if s.get .pln PLN.TAMPER_STAT.LATCHED = 0 then s
  else setHoldBoth holdTamper (zeroise zeroTamper (s.set .pln PLN.STAT.TAMPER_LATCH 1))

/-- The newest valid slot of each area wins (R451). -/
def startArea (first : Bool) (s : State) (a : Nat) : State :=
  let x := keepArea s a
  let s := keepShow a s
  if first then s
  else if !x.1.valid && !x.2.valid then (s.bump .mrm MRM.START.LOST).raise .mrm MRM.EVT.SLOT_LOST
  else if !x.1.valid || !x.2.valid then (s.bump .mrm MRM.START.TORN).raise .mrm MRM.EVT.TORN
  else s

/-- Remap records are applied (R426, R451). -/
def startRemaps (s : State) : State :=
  match keepNewest s areaRemap with
  | none => s
  | some k =>
    let n := k.payload.getD 0 0
    let words := (k.payload.drop 1).take n
    let lines := k.payload.drop (1 + n)
    let s := s.setMem { s.memories with
      sram := { s.memories.sram with remapped := words }
      lines := { s.memories.lines with remapped := lines } }
    let s := s.set .ecc ECC.SPARE_FREE.COUNT (s.get .ecc ECC.SPARE_FREE.COUNT - words.length)
    s.set .lpm LPM.SPARE_FREE.COUNT (s.get .lpm LPM.SPARE_FREE.COUNT - lines.length)

/-- The checkers are tested; a failure asserts FAULT_N (R421). -/
def startCheckers (failed : List Nat) (s : State) : State :=
  if failed.isEmpty then s
  else
    let s := checkerTest failed s
    s.setPlinth { s.plinth with faultLatched := true, lasersBarred := s.plinth.lasersBarred || checkersFatal s }

/-- The Plinth unwraps the UDS and restores the protected store and the PO fields (R457, R458, R475). -/
def startPlinth (udsOk : Bool) (s : State) : State :=
  let s := (s.setFlag .pln PLN.STAT.ID_OK udsOk).set .pln PLN.STAT.READY 1
  let s := setWord s .pln PLN.POLICY.HB_PERIOD.off s.plinth.policy
  let s := setWord s .pln PLN.ALS_CFG.PERIOD.off s.plinth.alsCfg
  let s := commandHolds (setWord s .pln PLN.HOLD_SET.CMD_A.off s.plinth.holdSet)
  let s := s.setPair .pln PLN.REPLAY_LO.COUNTER PLN.REPLAY_HI.COUNTER s.plinth.counter
  officerShow (s.setFlag .pln PLN.STAT.PSK_LOADED s.plinth.psk.isSome)

/-- PWR has requested RUN_CODE one code at a time (R512 to R514), and the governor's counters follow it (R516). -/
def startVoltage (s : State) : State :=
  let v := s.get .pwr PWR.VDD.RUN_CODE
  governorFollow ({ (s.set .pwr PWR.VDD.TARGET v).set .pwr PWR.VDD.APPLIED v with vddRequested := v })

/-- Read a stored calibration set (R499). -/
def calSetOf (b : List Byte) : CalSet :=
  let nc := leAt b 12 4
  let nt := leAt b 16 4
  { timeNs := leAt b 0 8
    tempA := leAt b 8 2
    tempB := leAt b 10 2
    counts := (List.range nc).map fun i =>
      let o := 32 + 24 * i
      (256 * leAt b o 1 + leAt b (o + 1) 1, ⟨leAt b (o + 4) 4, leAt b (o + 8) 4, leAt b (o + 16) 8⟩)
    trims := (List.range nt).map fun i =>
      let o := 32 + 24 * nc + 8 * i
      (2 ^ 24 * leAt b o 1 + 2 ^ 16 * leAt b (o + 1) 1 + leAt b (o + 2) 2, toSigned 32 (leAt b (o + 4) 4)) }

/-- CAL applies the newest valid set (R500). -/
def startCalibration (s : State) : State :=
  match keepNewest s areaCal with
  | none => s.raise .cal CAL.EVT.LOAD_NONE
  | some k =>
    let b := k.payload.map (BitVec.ofNat 8)
    let s := calApply (calSetOf b) s
    let s := s.setPlinth { s.plinth with calDigest := Config.shake256 256 b }
    s.set .cal CAL.REC_SEQ.SEQ k.seq

/-- The media state is set (R436).  Media other than the last hold nothing the model knows. -/
def startMedia (x : MediaReport) (s : State) : State :=
  let s := if x.identity = s.archive.media then s
    else { s with
      archive := { s.archive with
        reads := []
        programmed := []
        erasedAt := []
        fw := .replicate 2 ⟨false, [], 0⟩ }
      journal := { s.journal with archive := [], signatures := [] }
      cast := { s.cast with stored := [], ringStored := [] } }
  let s := s.setArchive { s.archive with
    superblock := x.superblock
    blockBytes := x.blockBytes
    blockCount := x.blockCount
    factoryBad := x.factoryBad
    media := x.identity }
  let s := (s.set .arc ARC.STAT.TGT_PRESENT x.targets).set .arc ARC.STAT.TGT_FAILED x.failed.eraseDups.length
  let s := s.set .arc ARC.TGT_FAIL.MASK (sumNat (x.failed.eraseDups.map fun t => 2 ^ t.val))
  let s := s.set .arc ARC.CAP.GB (x.blockBytes * x.blockCount / 1000000000)
  if x.targets = 0 then setMedia mediaAbsent s
  else if !x.superblock then
    let s := setMedia mediaUnformatted s
    if s.keep.formatCount = 0 then formatStart s else s
  else
    let s := arcShow (setMedia mediaReady s)
    s.set .arc ARC.STAT.READ_ONLY (bit (regionBlocks s regSpare).isEmpty)

/-- A firmware slot may be used: its bundle is COMPLETE and no load from it has failed (R446, R553). -/
def slotUsable (s : State) (i : Nat) : Bool :=
  mediaFormatted s && (s.archive.fw.getD i ⟨false, [], 0⟩).complete && (bootRecord s).getD (2 + i) 0 != 2

/-- The boot slot chosen from the BOOT area, and whether it is a trial (R553). -/
def bootSlot (s : State) : Option Nat × Bool :=
  let r := bootRecord s
  let active := r.getD 0 0
  if !mediaFormatted s then (none, false)
  else if r.getD 4 0 = 1 ∧ r.getD 5 0 < 2 then (some (r.getD 1 0), true)
  else if slotUsable s active then (some active, false)
  else if slotUsable s (1 - active) then (some (1 - active), false)
  else (none, false)

/-- Commit a changed entry of the BOOT area. -/
def bootCommit (i v : Nat) (s : State) : State := keepCommit areaBoot ((bootRecord s).set i v) s

/-- Load the cores in turn, RK0 first, and RK6's user image where the bundle has one; answers whether each ended OK. -/
def loadSlotImages (images : List (Option (List Byte))) : List (Fin 8 × Nat) → State → State × Bool
  | [], s => (s, true)
  | (n, k) :: rest, s =>
    let s := loadImage n (images.getD k none) s
    if s.get (.rk n) RK.IMG_STAT.RESULT = loadOk then loadSlotImages images rest s else (s, false)

/-- The images of a slot. -/
def loadFirmware (i : Nat) (s : State) : State × Bool :=
  let x := s.archive.fw.getD i ⟨false, [], 0⟩
  let plan := (List.finRange 8).map fun n => (n, n.val)
  let r := loadSlotImages x.images (plan ++ (if (x.images.getD 8 none).isSome then [(6, 8)] else [])) s
  if r.2 then (r.1.setPlinth { r.1.plinth with firmware := x.plinthImage }, true) else r

/-- No slot can be used: no core holds a valid image (R554). -/
def noImages (s : State) : State :=
  (List.finRange 8).foldl (fun s n =>
    s.clearAll (.rk n) [RK.IMG_STAT.VALID, RK.IMG_STAT.MEAS_VALID, RK.IMG_STAT.USER_VALID]) s

/-- Load from a slot; a failure marks it and the start uses the other slot if that is COMPLETE (R553). -/
def startFirmware (s : State) : State :=
  match bootSlot s with
  | (none, _) => noImages s
  | (some i, trial) =>
    let s := { s with firmware := { s.firmware with trial := trial } }
    let s := if trial then bootCommit 5 ((bootRecord s).getD 5 0 + 1) s else s
    let r := loadFirmware i s
    if r.2 then r.1
    else
      let s := bootCommit (2 + i) 2 r.1
      if !slotUsable s (1 - i) then noImages s
      else
        let r := loadFirmware (1 - i) s
        if r.2 then r.1 else noImages (bootCommit (2 + (1 - i)) 2 r.1)

/-- RK0 runs, once loaded (R552). -/
def startRk0 (s : State) : State := if runBad s (.rk 0) then s else coreUp 0 (enterStarting (.rk 0) s)

/-- Highest SEQ_NO of some entries, plus 1. -/
def seqAfter (es : List JournalEntry) : Nat := es.foldl (fun n e => max n (e.seqNo + 1)) 0

/-- The journal continues with its markers (R60, R66, R451, R583). -/
def startJournal (first orderly : Bool) (cause : Nat) (s : State) : State :=
  let go (head : BitVec 256) (next : Nat) (s : State) : State :=
    { s with journal := { s.journal with head := head } }.setPair .cj CJ.NEXT_LO.SEQ_NO CJ.NEXT_HI.SEQ_NO next
  let boots := s.keep.bootCount
  let s := if first then appendMarker (go journalHeadZero 0 s) .boot boots 1
    else match keepNewest s areaJournal with
      | some k =>
        let n := k.payload.getD 1 0
        let s := go (BitVec.ofNat 256 (k.payload.getD 0 0)) (n + 1) s
        let s := s.setPair .cj CJ.PERSIST_LO.SEQ_NO CJ.PERSIST_HI.SEQ_NO n
        let s := { s with journal := { s.journal with persisted := some n } }
        appendMarker s .boot boots (bit orderly)
      | none => appendMarker (appendMarker (go journalHeadZero (seqAfter s.journal.archive) s) .boot boots 0) .gap 0xFFFFFFFF 0
  let unclean := !first && (!orderly || (keepNewest s areaJournal).isNone)
  appendMarker (s.raiseIf unclean .cj CJ.EVT.BOOT_UNCLEAN) .reset cause 0

/-- H(w) and w of the newest window header in CASTWIN (R323, R451). -/
def newestWindow (s : State) : Nat × Nat :=
  match s.cast.stored with
  | [] => (castHeadZero.toNat, 0)
  | x :: _ => ((nextCastHead (leAt x.header 56 32) (BitVec.ofNat 256 (leAt x.header 88 32))).toNat, leAt x.header 0 4)

/-- The Cast chain continues from the committed head (R325, R451, R583). -/
def startCast (first : Bool) (s : State) : State :=
  let h := if first then (castHeadZero.toNat, 0)
    else match keepNewest s areaCast with
      | some k => (k.payload.getD 0 0, k.payload.getD 1 0)
      | none => newestWindow s
  let s := castLost h.2 (setCastHead h.1 s)
  s.set .cast CAST.WIN_NO.W (max h.2 s.keep.openWindow + 1)

/-- A start that leaves Off (R503: VDD_AON alone was powered, causes 1 and 2 of R551) sends CALL unless an accepted CALL, whose
ANSWER is due, brought it (R249). -/
def leaveOff (s : State) : State :=
  if s.qlt.answerDue.get .a || s.qlt.answerDue.get .b then s else exitCall 0 s

/-- DEVICE_START: the start-up sequence (R552), from PWRGD rising or from a wake that comes before PWRGD falls (R509). -/
def deviceStart (x : StartReport) (s : State) : State :=
  if !s.pwrMgr.startDue || (s.hostReady && s.power != pwrOff) then s
  else
    let s := if s.power = pwrOff then deviceReset 2 true s else s
    let cause := s.pwrMgr.resetCause
    let s := s.setPwr { s.pwrMgr with startDue := false }
    let s := s.setQlt { s.qlt with strapRole := x.strap0 }
    let s := startTamper (s.setFlag .pln PLN.STAT.PROVISION x.strap3)
    let first := firstStart s
    let s := { s with keep := { s.keep with bootCount := s.keep.bootCount + 1 } }
    let s := (List.range 6).foldl (startArea first) s
    let s := startCheckers x.checkers (startRemaps s)
    let orderly := shutdownOrderly s
    let r := bistRead s
    let s := if r.2 then startupTest x.lbist r.1 else r.1
    let s := startCalibration ((startVoltage (startPlinth x.udsOk s)).set .lpm LPM.STAT.READY 1)
    let s := startFirmware (startMedia x.media s)
    let s := startCast first (startJournal first orderly cause s)
    let s := startRk0 (s.set .tb TB.STAT.LREF_OK 1)
    let s := bootCommit 6 cause s
    let s := if cause ≤ 2 then leaveOff s else s
    if s.firmware.trial && !x.inTime then s else startTimer .rk0Good { s with hostReady := true }

/-- TRIAL_SUCCESS: RK0 has kept its heartbeat for 60 s after host-ready (R556). -/
def trialSuccess (s : State) : State :=
  if !s.firmware.trial || !s.hostReady || !s.running (.rk 0) || s.flag .pln PLN.STAT.RK0_RECOVERY || !passed s .rk0Good (60 * secNs) then s
  else
    let r := bootRecord s
    let s := keepCommit areaBoot (((r.set 0 (r.getD 1 0)).set 4 0).set 5 0) s
    { s with firmware := { s.firmware with trial := false } }

/-- RK0 has failed its third reset. -/
def rk0Escalated (s : State) : Bool :=
  s.flag .pln PLN.STAT.RK0_RECOVERY && s.get .pln PLN.STAT.RK0_RESETS == 3 && !rk0Awaited s

/-- TRIAL_FAIL: a trial start misses host-ready, or RK0 escalates within its 60 s, and the device resets itself (R556). -/
def trialFail (s : State) : State :=
  if s.firmware.trial && (!s.hostReady || rk0Escalated s) then deviceReset 4 true s else s

/-- RK0_ESCALATION_RESET: the third failed reset blanks both carriers and resets the device (R473, R556). -/
def rk0Escalation (s : State) : State :=
  if !rk0Escalated s then s
  else
    let s := setHoldBoth holdFailure s
    let s := plinthBlank (plinthBlank s .a) .b
    deviceReset (if s.firmware.trial then 4 else 3) true (secLog s .rk0Recovery 0 3)

end Sys2Proof.Machine
end

