-- ==== Sys2Proof/Machine/Firmware.lean ====
section
/-! DEFINITION. Firmware.lean: the CXL mailbox (R365, R366, R369): its firmware commands (R446, R555 to R557), its vendor
commands (R476), and the commands of CXL 2.0 it lists. -/
namespace Sys2Proof.Machine

/-! ## The mailbox (R365) -/

def State.setMbox (s : State) (x : HostMailbox) : State := { s with mbox := x }

/-- Answer the command in the mailbox. -/
def mboxAnswer (ret : MboxReturn) (values : List Nat) (bytes : List Byte) (s : State) : State :=
  s.setMbox { s.mbox with answer := ⟨ret, values, bytes⟩ }

/-- While IDE is required and CXL.io has no secure stream, only these three are answered (R369). -/
def mboxBarred (s : State) (opcode : Nat) : Bool :=
  s.flag .hlk HLK.IDE.REQUIRE && !s.flag .hlk HLK.IDE.IO_SECURE && opcode != 0xC000 && opcode != 0xC001 && opcode != 0xC005

/-- A command reaches the mailbox once it is ready (R357). -/
def mboxCommand (opcode : Nat) (act : State → State) (s : State) : State :=
  if !s.hostReady then s
  else if mboxBarred s opcode then mboxAnswer .unsupported [] [] s
  else act s

/-- A background command starts, or finds another one running (R365). -/
def mboxBackground (opcode : Nat) (act : State → State) (s : State) : State :=
  mboxCommand opcode (fun s =>
    if s.mbox.background.isSome then mboxAnswer .busy [] [] s else act s) s

/-- The background command is under way. -/
def mboxStarted (opcode : Nat) (s : State) : State :=
  mboxAnswer .backgroundStarted [] [] (s.setMbox { s.mbox with background := some opcode })

/-- The background command completes (R365). -/
def mboxDone (ret : MboxReturn) (s : State) : State :=
  (mboxAnswer ret [] [] (s.setMbox { s.mbox with background := none })).raise .hlk HLK.EVT.MBOX_DONE

/-- UNSUPPORTED_OPCODE. -/
def unsupportedOpcode (s : State) : State := mboxCommand 0 (mboxAnswer .unsupported [] []) s

/-! ## Event records (R365, R366) -/

def recordValues (r : CxlRecord) : List Nat := [r.handle, bit r.module, r.address, r.timeNs]

/-- GET_EVENT_RECORDS: the number of records of a log and each record's handle, kind, address and time, oldest first. -/
def getEventRecords (log : Fin 4) (s : State) : State :=
  mboxCommand 0x0100 (fun s =>
    let rs := s.mbox.logs.get log
    mboxAnswer .success (rs.length :: rs.flatMap recordValues) [] s) s

/-- CLEAR_EVENT_RECORDS: every record, or those of the handles given, all of which must be in the log. -/
def clearEventRecords (log : Fin 4) (all : Bool) (handles : List Nat) (s : State) : State :=
  mboxCommand 0x0101 (fun s =>
    let rs := s.mbox.logs.get log
    if !all && !handles.all (fun h => rs.any fun r => r.handle == h) then mboxAnswer .invalidInput [] [] s
    else
      let kept := if all then [] else rs.filter fun r => !handles.contains r.handle
      mboxAnswer .success [] [] (s.setMbox { s.mbox with logs := s.mbox.logs.set log kept })) s

/-- The vector CXL_EVENT is routed to (R365). -/
def eventVector (s : State) : Nat := routeField s (sourceOf .hlk HLK.EVT.CXL_EVENT) EVR.RT_DATA.VECTOR

/-- GET_EVENT_INTERRUPT_POLICY: the setting of each log and the vector. -/
def getEventPolicy (s : State) : State :=
  mboxCommand 0x0102 (fun s => mboxAnswer .success (s.mbox.policy ++ [eventVector s]) [] s) s

/-- SET_EVENT_INTERRUPT_POLICY. -/
def setEventPolicy (settings : Fin 4 → Nat) (s : State) : State :=
  mboxCommand 0x0103 (fun s =>
    mboxAnswer .success [] [] (s.setMbox { s.mbox with policy := (List.finRange 4).map settings })) s

/-! ## Time, logs, identity and health (R366) -/

/-- GET_TIMESTAMP. -/
def getTimestamp (s : State) : State := mboxCommand 0x0300 (fun s => mboxAnswer .success [s.nowNs] [] s) s

/-- SET_TIMESTAMP: the time base is written with origin 0x1, as software sets it (R522). -/
def setTimestamp (ns : BitVec 64) (s : State) : State :=
  mboxCommand 0x0301 (fun s =>
    let ctl := overlay (plainWord .tb TB.CTL.SET.off (word s .tb TB.CTL.SET.off)) TB.CTL.SET 1
    let ok := writeReason s .host .tb TB.CTL.SET.off ctl == .none
    let s := writeReg .host (pageBase .tb + TB.SET_LO.NS.off) (ns.setWidth 32) [] s
    let s := writeReg .host (pageBase .tb + TB.SET_HI.NS.off) ((ns >>> 32).setWidth 32) [] s
    let s := writeReg .host (pageBase .tb + TB.CTL.SET.off) ctl [] s
    mboxAnswer (if ok then .success else .failed) [] [] s) s

/-- Opcodes of R366. -/
def mboxOpcodes : List Nat :=
  [0x0100, 0x0101, 0x0102, 0x0103, 0x0200, 0x0201, 0x0202, 0x0300, 0x0301, 0x0400, 0x0401, 0x4000, 0x4200, 0xC000, 0xC001,
    0xC002, 0xC003, 0xC004, 0xC005]

/-- GET_SUPPORTED_LOGS: the Command Effects Log alone. -/
def getSupportedLogs (s : State) : State := mboxCommand 0x0400 (fun s => mboxAnswer .success [1] [] s) s

/-- GET_LOG: the opcodes of the Command Effects Log; another log is not held. -/
def getLog (effects : Bool) (s : State) : State :=
  mboxCommand 0x0401 (fun s =>
    if effects then mboxAnswer .success mboxOpcodes [] s else mboxAnswer .invalidInput [] [] s) s

/-- IDENTIFY_MEMORY_DEVICE: volatile and persistent capacity in bytes. -/
def identifyMemory (s : State) : State := mboxCommand 0x4000 (fun s => mboxAnswer .success [32 * 2 ^ 30, 0] [] s) s

/-- GET_HEALTH_INFO: whether the health of the memory is lowered (R427). -/
def getHealth (s : State) : State := mboxCommand 0x4200 (fun s => mboxAnswer .success [bit s.mbox.healthLow] [] s) s

/-! ## Firmware (R446, R553 to R557) -/

/-- The slot the boot pointers name as active. -/
def activeSlot (s : State) : Nat := (bootRecord s).getD 0 0

/-- GET_FW_INFO: slots, active slot, pending slot of a trial (both from 1), COMPLETE slots, and online activation. -/
def getFwInfo (s : State) : State :=
  mboxCommand 0x0200 (fun s =>
    let r := bootRecord s
    let complete (i : Nat) := bit (s.archive.fw.getD i ⟨false, [], 0⟩).complete
    mboxAnswer .success [2, activeSlot s + 1, if r.getD 4 0 = 1 then r.getD 1 0 + 1 else 0, complete 0 + 2 * complete 1, 1] []
      s) s

/-- TRANSFER_FW: the next part of a bundle for the inactive slot, from offset 0; after its last part the slot is COMPLETE. -/
def transferFw (slot : Fin 2) (offset : Nat) (data : List Byte) (last : Bool) (s : State) : State :=
  mboxBackground 0x0201 (fun s =>
    let sofar := if offset = 0 then [] else s.firmware.transfer
    if slot.val = activeSlot s || !archiveTakes s || offset != sofar.length
        || (offset != 0 && s.firmware.transferSlot != some slot.val) then mboxAnswer .invalidInput [] [] s
    else
      let b := sofar ++ data
      let x : FwSlot := if last then ⟨true, Config.firmwareImages b, Config.firmwarePlinth b⟩ else ⟨false, [], 0⟩
      let s := s.setArchive { s.archive with fw := s.archive.fw.set slot x }
      let s := { s with firmware := { s.firmware with
        transfer := if last then [] else b
        transferSlot := if last then none else some slot.val } }
      mboxStarted 0x0201 (bootCommit (2 + slot.val) (bit last) s)) s

/-- An image passes the checks of R395 that do not need it in a core's SRAM: format, signer, digest, signature, SVN. -/
def imageGood (s : State) (n : Fin 8) (b : List Byte) : Bool :=
  let contents := slice b 256 (imgIlen b + imgDlen b)
  let sig := slice b (imgLength b - signatureLength) signatureLength
  imgFormatOk n b && b.length == imgLength b && testBit (imgCores b) n.val && (imgKind b == 0 || n == 6)
    && bytes32 (digest contents) == imgDigest b
    && (match imageKey s (imgKind b) with
        | none => false
        | some k => imgSigner b == leBytes 8 (Config.shake256 64 k).toNat && Config.verify k (slice b 0 256 ++ contents) sig
            && decide (sparseRead (fun _ => 0) s.plinth.svnMin (imgKind b) ≤ imgSvn b))

/-- Every image of a slot passes (R555). -/
def slotGood (s : State) (i : Nat) : Bool :=
  let x := s.archive.fw.getD i ⟨false, [], 0⟩
  x.complete && (List.finRange 8).all (fun n => match x.images.getD n.val none with
    | some b => imageGood s n b && imgKind b == 0
    | none => false)
  && (match x.images.getD 8 none with
    | some b => imageGood s 6 b && imgKind b == 1
    | none => true)

/-- The cores in the order of R557 step 3. -/
def reloadOrder : List Nat := [7, 6, 2, 3, 4, 5, 1, 0]

/-- ACTIVATE_FW: the Plinth verifies the slot (R555), then activation waits for the next reset (R556) or is done online
(R557). -/
def activateFw (slot : Fin 2) (online : Bool) (s : State) : State :=
  mboxBackground 0x0202 (fun s =>
    if !slotGood s slot.val then mboxAnswer .invalidInput [] [] (secLog s .firmware 0 slot.val)
    else if online then
      if (s.archive.fw.getD slot.val ⟨false, [], 0⟩).plinthImage != s.plinth.firmware then mboxAnswer .invalidInput [] [] s
      else mboxStarted 0x0202 (startTimer .online { s with firmware := { s.firmware with
        online := some slot.val
        reload := reloadOrder } })
    else
      let r := bootRecord s
      mboxStarted 0x0202 (keepCommit areaBoot (((r.set 1 slot.val).set 4 1).set 5 0) s)) s

/-- A rate step, key activation or route switch is pending on a carrier (R264, R237, R283). -/
def activationWaits (s : State) : Bool :=
  [Carrier.a, Carrier.b].any fun x => stepPending s x || activationPending s x || switchPending s x

/-- Online activation is over: what it deferred is taken up. -/
def onlineOver (s : State) : State :=
  let s := { s with firmware := { s.firmware with
    online := none
    reload := [] } }
  takePending (ratchetRetry .b (ratchetRetry .a s))

/-- ONLINE_CORE_RELOAD: the next core is stopped, loaded from the target slot and run (R557 step 3).  After a failed load it
is loaded from the active slot and the command ends with an error. -/
def onlineReload (s : State) : State :=
  match s.firmware.online, s.firmware.reload with
  | some slot, k :: rest =>
    if rest.length = 7 ∧ activationWaits s = true then s
    else
      let n := Fin.ofNat 8 k
      let r := deviceReload n slot s
      if r.2 then { r.1 with firmware := { r.1.firmware with reload := rest } }
      else onlineOver (mboxDone .failed (deviceReload n (activeSlot s) r.1).1)
  | _, _ => s

/-- ONLINE_ACTIVATION_BUSY: something is still pending after 10 s (R557 step 1). -/
def onlineBusy (s : State) : State :=
  match s.firmware.online with
  | some _ =>
    if s.firmware.reload.length = 8 ∧ activationWaits s = true ∧ passed s .online (10 * secNs) = true then
      onlineOver (mboxDone .busy s)
    else s
  | none => s

/-- RK0 has beaten since its RUN. -/
def rk0Beats (s : State) : Bool :=
  s.running (.rk 0) && s.get (.rk 0) RK.HB_CNT.COUNT != 0 && !s.flag .pln PLN.STAT.RK0_RECOVERY

/-- ONLINE_ACTIVATION_COMMIT: 60 s of heartbeat make the target the active slot (R557 step 5). -/
def onlineCommit (s : State) : State :=
  match s.firmware.commitDue with
  | some slot =>
    if !rk0Beats s || !passed s .rk0Good (60 * secNs) then s
    else bootCommit 0 slot { s with firmware := { s.firmware with commitDue := none } }
  | none => s

/-! ## Vendor commands (R366, R476) -/

/-- SUBMIT_CAPSULE_CMD: the capsule goes to the Plinth, in the background. -/
def submitCapsuleCmd (b : List Byte) (s : State) : State :=
  mboxBackground 0xC000 (fun s =>
    if s.plinth.request.isSome || s.plinth.running.isSome then mboxAnswer .busy [capBusy] [] s
    else if s.flag .pln PLN.STAT.LOCKSTEP_FAIL then mboxAnswer .failed [] [] s
    else mboxStarted 0xC000 (s.setPlinth { s.plinth with request := some ⟨true, 1, b⟩ })) s

/-- A request to the Plinth that it answers at once; one that runs on either path makes it BUSY. -/
def vendorRequest (opcode : Nat) (input : List Byte) (act : List Byte → State → Nat × List Byte × State) (s : State) : State :=
  mboxCommand opcode (fun s =>
    if s.plinth.request.isSome || s.plinth.running.isSome then mboxAnswer .busy [capBusy] [] s
    else if s.flag .pln PLN.STAT.LOCKSTEP_FAIL then mboxAnswer .failed [] [] s
    else
      let r := act input s
      mboxAnswer (vendorReturn r.1) [r.1] r.2.1 r.2.2) s

/-- The bytes of an Archive object, if it was ever written (R438). -/
def archiveObject (s : State) : ArchiveObject → Option (List Byte)
  | .entry q => (s.journal.archive.find? fun e => e.seqNo == q).map journalBytes
  | .signature q => (s.journal.signatures.find? fun e => e.1 == q).map Prod.snd
  | .security q => (s.plinth.log.find? fun r => r.seqNo == q).map fun r => secBytes r ++ leBytes 32 r.prev.toNat
  | .tapSignature i => (s.tel.signatures.getD i.val none).map fun x => Config.tapRecord x.means x.shares x.sop
  | .selfTest k => s.selfTest.copied[k]?.map fun r =>
      leBytes 4 (r.getD 0 0) ++ leBytes 4 (r.getD 1 0) ++ leBytes 8 (r.getD 2 0) ++ leBytes 8 (r.getD 3 0) ++ leBytes 8 0
        ++ (List.range 58).flatMap fun b =>
          let x := recordResult r b
          [BitVec.ofNat 8 b, BitVec.ofNat 8 x.status, BitVec.ofNat 8 (blockGroup b), 0] ++ leBytes 4 x.patterns
            ++ leBytes 8 x.signature
  | .window w => (s.cast.stored.find? fun x => leAt x.header 0 4 == w).map fun x => x.header ++ x.signature
  | .ring n => (s.cast.ringStored.find? fun b => b.number == n).map castBlockBytes

/-- HDM offset of log staging (R363). -/
def logStaging : Nat := 0x50000000

/-- READ_ARCHIVE_OBJECT: an object is copied into log staging. -/
def readArchive (o : ArchiveObject) (s : State) : State :=
  mboxBackground 0xC004 (fun s =>
    match (if mediaFormatted s then archiveObject s o else none) with
    | none => mboxAnswer .notFound [] [] s
    | some b => mboxStarted 0xC004 (lpddrWrite logStaging b ((b.length + 63) / 64) s)) s

/-- MBOX_BACKGROUND_DONE: the background command completes; an online activation once RK0 beats again (R557 step 4), a
capsule when the Plinth has ended it. -/
def mboxBackgroundDone (s : State) : State :=
  match s.mbox.background with
  | none => s
  | some op =>
    if op = 0xC000 then s
    else
      match s.firmware.online with
      | some slot =>
        if op != 0x0202 then mboxDone .success s
        else if s.firmware.reload.isEmpty && rk0Beats s then
          let s := onlineOver (mboxDone .success s)
          { s with firmware := { s.firmware with commitDue := some slot } }
        else s
      | none => mboxDone .success s

end Sys2Proof.Machine
end

