-- ==== Sys2Proof/Machine/Errors.lean ====
section
/-! DEFINITION. Errors.lean: uncorrectable memory errors by reader (R428, R452). -/
namespace Sys2Proof.Machine

/-- The state memory of a stage that the model holds returns to its reset content (R428). -/
def stageReset (s : State) : Page → State
  | .eqz c => initBank c 1 (initBank c 0 (setEqualiser s c { s.equaliser.get c with shadow := [] }))
  | .ltx n =>
    let s := putTxLane s n { txLane s n with pram := [] }
    [LTX.FIR0_T.COEF, LTX.FIR1_T.COEF].foldl (fun s f =>
      (List.range f.count).foldl (fun s i =>
        setWord s (.ltx n) (f.off + f.stride * i) (resetWord (pageBase (.ltx n) + f.off + f.stride * i))) s) s
  | .txp c => pchClear c s
  | .mls c | .dmp c =>
    setDemapper s c { s.demapper.get c with
      kappa := State.reset.demapper.a.kappa
      tail := State.reset.demapper.a.tail
      variance := State.reset.demapper.a.variance }
  | .lfm c => s.setFramer c { s.framer.get c with buffer := [] }
  | .tly n => putSample s n { sampleBuffer s n with records := [], waiting := 0 }
  | _ => s

/-- Symbol blocks that used lost contents are sent as transmit slips, or reach the decoder as erasures (R428, R33). -/
def stageSlip (s : State) : Page → State
  | .txp c => txSlip c s
  | .ltx n => txSlip (laneCarrier n) s
  | .cdc c | .eqz c | .trc c | .cpr c | .mls c | .dmp c => rxSlip c s
  | .lrx n => rxSlip (laneCarrier n) s
  | _ => s

/-- A datapath stage meets an uncorrectable error in its state memory. -/
def stageError (p : Page) (group : Nat) (s : State) : State := stageSlip (stageReset (s.errlog p 0xE0 group) p) p

/-- CJ loses an entry of its buffer or ring. -/
def journalError (seqNo : Nat) (s : State) : State :=
  let gone (l : List JournalEntry) : List JournalEntry := l.filter fun e => e.seqNo != seqNo
  let s := { s with journal := { s.journal with buffer := gone s.journal.buffer, ring := gone s.journal.ring } }
  let s := (s.set .cj CJ.FILL.COUNT s.journal.buffer.length).addSat .cj CJ.LOSS.ENTRIES 1
  appendMarker (s.raise .cj CJ.EVT.LOSS) .gap 1 0

/-- Replace item `i` of the records of the blocks, newest first. -/
def spoilRecord : List CastBlock → Nat → List CastBlock
  | [], _ => []
  | b :: bs, i =>
    if i < b.records.length then
      { b with records := b.records.set i { b.records.getD i ⟨0, 0, 0, 0⟩ with
        flags := setBit (b.records.getD i ⟨0, 0, 0, 0⟩).flags 0
        value := 0 } } :: bs
    else b :: spoilRecord bs (i - b.records.length)

/-- A copy of the delay store fails the tests of R276: its payload counts as flagged bad. -/
def delayError (c : Carrier) (s : State) : State :=
  match s.rps.held.get c with
  | [] => s
  | x :: xs => s.setRps { s.rps with held := s.rps.held.set c ({ x with cls := 5 } :: xs) }

/-- A slot or a wear word with an uncorrectable error counts as invalid (R452). -/
def mramError (area slot : Nat) (s : State) : State :=
  let x := keepArea s area
  let bad : KeepSlot := ⟨false, 0, []⟩
  let y := if slot = 0 then (bad, x.2) else (x.1, bad)
  keepShow area { s.bump .mrm MRM.UE_CNT.COUNT with keep := { s.keep with areas := s.keep.areas.setIfInBounds area y } }

/-- A wear word takes PE_MAX as its count and is rewritten (R452). -/
def wearError (b : Nat) (s : State) : State :=
  let w := wearOf s b
  let s := (s.bump .mrm MRM.UE_CNT.COUNT).raise .mrm MRM.EVT.UE
  arcShow (putWear s b (wearWord (s.get .arc ARC.PE_MAX.CYCLES) (wearRegion w) (wearFactory w) (wearGrown w) (wearRetired w)))

/-- The reader's outcome (R428). -/
def ueOutcome (p : MemPlace) (r : UeReader) (s : State) : State :=
  match r with
  | .fetch n => if s.running (.rk n) then trapEnter n causeFetchUe (some (16 * (coreAt s n).pc)) 0 (trapEpc (coreAt s n)) s else s
  | .load n a => if s.running (.rk n) then trapEnter n causeLoadUe (some a) 0 (trapEpc (coreAt s n)) s else s
  | .dma n c => if (coreDma s n c).halted then s else dmaFail n c 2 s
  | .host => hdmPoison (64 * placeAddress p) true s
  | .stage q => match p with
    | .sram g _ => stageError q g s
    | .line _ => s
  | .delayStore c => delayError c s
  | .journal q => journalError q s
  | .cast i => s.setCast { s.cast with active := spoilRecord s.cast.active i }
  | .plinth => lockstepFail s
  | .scrubber => match p with
    | .line n => poisonLine n s
    | .sram _ _ => s
  | .mram a i => (mramError a i s).raise .mrm MRM.EVT.UE
  | .wear b => wearError b s

/-- UNCORRECTABLE_ERROR: counted in its memory's page, but for MRAM, and handled by its reader. -/
def uncorrectable (p : MemPlace) (r : UeReader) (s : State) : State :=
  match r with
  | .mram _ _ => ueOutcome p r s
  | .wear _ => ueOutcome p r s
  | r => ueOutcome p r (countUe p s)

end Sys2Proof.Machine
end

