-- ==== Sys2Proof/Machine/RxFrame.lean ====
section
/-! DEFINITION. Machine/RxFrame.lean: the receive half of chapter 08: frame states (R209), classes (R210), the sequence
check (R211), the Quolet word (R212) and delivery (R88, R89, R239). -/
namespace Sys2Proof.Machine

open Sys2Proof (Byte Word Carrier PerCarrier Origin Page Instr Message RxFrame)

/-- Bits in which two words differ. -/
def bitDistance (a b : BitVec 64) : Nat := countTrue (msbBits 64 (a ^^^ b).toNat)

/-- The FAW matches within FAW_TOL bits (R209). -/
def fawMatches (s : State) (c : Carrier) (f : RxFrame) : Bool :=
  decide (bitDistance f.faw alignmentWord ≤ s.get (.lfm c) LFM.RX_CTL.FAW_TOL)

/-- The header passes HCS with no bad-flagged bit (R209). -/
def headerPasses (f : RxFrame) : Bool := hdrOk f.hdr && !f.hdrBad

/-- A candidate or frame position is checked (R209). -/
def framePosition (c : Carrier) (f : RxFrame) (s : State) : State :=
  if !s.running (.lfm c) || !fecLocked s c then s
  else
    let x := s.framer.get c
    let st := s.get (.lfm c) LFM.RX_STAT.FSTATE
    let ok := fawMatches s c f && headerPasses f
    if st = 0 then
      if ok then (s.setFramer c { x with preMatches := 0 }).set (.lfm c) LFM.RX_STAT.FSTATE 1 else s
    else if st = 1 then
      if !ok then frameHunt s c
      else if x.preMatches + 1 < 2 then s.setFramer c { x with preMatches := x.preMatches + 1 }
      else
        let s := s.setFramer c { x with preMatches := 0, fawFails := 0, expected := none }
        lockFrameEntered ((s.set (.lfm c) LFM.RX_STAT.FSTATE 2).raise (.lfm c) LFM.EVT.FRAME_SYNC)
    else if fawMatches s c f then s.setFramer c { x with fawFails := 0 }
    else
      let s := s.bump (.lfm c) LFM.FAW_ERR.COUNT
      if s.get (.lfm c) LFM.RX_CTL.LOF_N ≤ x.fawFails + 1 then
        noteTrigger (((frameHunt s c).bump (.lfm c) LFM.LOF_CNT.COUNT).raise (.lfm c) LFM.EVT.LOF) (8 + c.idx)
      else s.setFramer c { x with fawFails := x.fawFails + 1 }

/-- The class of an LF in SYNC (R210). -/
def frameClass (s : State) (c : Carrier) (f : RxFrame) : Nat :=
  if f.hdrBad then 1
  else if !hdrOk f.hdr then 2
  else if hdrMode f.hdr ≠ lineMode s c || hdrCarrier f.hdr ≠ s.get (.lfm c) LFM.RX_CTL.EXPECT_CARRIER then 3
  else if hdrBlanked f.hdr = 1 then 4
  else if f.payloadBad then 5
  else 6

/-- Send error control blocks toward the client in place of discarded slots (R88, R210). -/
def sendEcb (c : Carrier) (n : Nat) (s : State) : State :=
  deliverBlocks c (List.replicate n none) (s.addSat (.lfm c) LFM.ECB_CNT.COUNT n)

/-- The count of R88 when the header cannot be used. -/
def lastUnblanked (s : State) (c : Carrier) : Nat := (s.framer.get c).lastCount.getD 504

/-- The expected number advances at every LF position (R211). -/
def advanceExpected (c : Carrier) (s : State) : State :=
  let x := s.framer.get c
  s.setFramer c { x with expected := x.expected.map fun e => nextNumber e.1 e.2 }

/-- The sequence check of an LF of class 4-6 (R211), with what a jump means for an armed step (R264). -/
def sequenceCheck (c : Carrier) (csf lf : Nat) (s : State) : State :=
  let x := s.framer.get c
  let s := s.setFramer c { x with expected := some (csf, lf) }
  match x.expected with
  | none => s
  | some e =>
    if e = (csf, lf) then s
    else armedJump c ((s.bump (.lfm c) LFM.SEQ_JUMP.COUNT).raise (.lfm c) LFM.EVT.SEQ_JUMP)

/-- The header's numbers are shown (R216). -/
def showReceived (c : Carrier) (f : RxFrame) (s : State) : State :=
  let s := s.setPair (.lfm c) LFM.RX_CSF_LO.CSF LFM.RX_CSF_HI.CSF (hdrCsf f.hdr)
  (s.set (.lfm c) LFM.RX_CSF_HI.LF_IDX (hdrLfIdx f.hdr)).set (.lfm c) LFM.RX_CSF_HI.KEY_IDX (hdrKeyIdx f.hdr)

/-- A DATA frame is tested by CRY_x and delivered, or discarded for error control blocks (R88, R239, R241). -/
def receiveData (c : Carrier) (f : RxFrame) (s : State) : State :=
  let n := 512 - hdrFill f.hdr
  let r := receiveTests s c (hdrCsf f.hdr) (hdrLfIdx f.hdr) (hdrKeyIdx f.hdr) (hdrCarrier f.hdr) (hdrRole f.hdr) f.hdr
    f.payload f.tag
  match r.2 with
  | some p =>
    deliverBlocks c ((payloadSlots p n).map some)
      (r.1.addPair (.lfm c) LFM.RX_DATA_LO.COUNT LFM.RX_DATA_HI.COUNT n)
  | none => sendEcb c n r.1

/-- The first blanked LF after an unblanked one at the A-end brings a ratchet (R210, R262). -/
def noteBlanked (c : Carrier) (s : State) : State :=
  let first := !s.flag (.lfm c) LFM.RX_STAT.BLANKED
  let s := (s.bump (.lfm c) LFM.RX_BLANKED.COUNT).set (.lfm c) LFM.RX_STAT.BLANKED 1
  if first then ratchetFor c (s.raise (.lfm c) LFM.EVT.BLANK_RX) else s

/-- A received LF in SYNC (R88, R89, R210-R212, R239, R274); `arrival` is its arrival in nanoseconds. -/
def classifyFrame (c : Carrier) (f : RxFrame) (arrival : Nat) (s : State) : State :=
  if !inFrame s c || !s.running (.lfm c) then s
  else
    let k := frameClass s c f
    let csf := hdrCsf f.hdr
    let lf := hdrLfIdx f.hdr
    let n := 512 - hdrFill f.hdr
    let s := advanceExpected c s
    if k ≤ 3 then
      let s := if k = 1 then (s.bump (.lfm c) LFM.FECBAD_LF.COUNT).raise (.lfm c) LFM.EVT.FECBAD
        else if k = 2 then (s.bump (.lfm c) LFM.HCS_ERR.COUNT).raise (.lfm c) LFM.EVT.HCS_ERR
        else (s.bump (.lfm c) LFM.MISMATCH.COUNT).raise (.lfm c) LFM.EVT.MISMATCH
      let s := linkWord c false none s
      if pairRuns s then s else sendEcb c (lastUnblanked s c) s
    else
      let s := showReceived c f (sequenceCheck c csf lf s)
      let s := expireOver (expireRetained s c) c true
      let s := if k = 4 then noteBlanked c s else s.set (.lfm c) LFM.RX_STAT.BLANKED 0
      let s := if k = 5 then (s.bump (.lfm c) LFM.FECBAD_LF.COUNT).raise (.lfm c) LFM.EVT.FECBAD
        else if k = 6 then s.addPair (.lfm c) LFM.RX_LF_LO.COUNT LFM.RX_LF_HI.COUNT 1
        else s
      let ecb := lastUnblanked s c
      let s := if k = 4 then s else s.setFramer c { s.framer.get c with lastCount := some n }
      let s := if pairRuns s then copyArrives c ⟨csf, lf, k, f, arrival⟩ (hdrProt f.hdr == 1) s
        else if k = 4 then sendEcb c ecb s
        else if k = 5 then sendEcb c n s
        else receiveData c f s
      let s := armedLapse c s
      linkWord c false (if f.qltBad then none else some f.qlt) s

end Sys2Proof.Machine
end

