-- ==== Sys2Proof/Machine/Timers.lean ====
section
/-! DEFINITION. Machine/Timers.lean: which of the times that the rules measure run while a condition holds (log entry 9). -/
namespace Sys2Proof.Machine

open Sys2Proof (Carrier)

/-- A timer runs when its condition holds. -/
def timerIf (b : Bool) (t : Timer) : List Timer := if b then [t] else []

/-- The timers of a session (R254, R255, R260). -/
def sessionTimers (s : State) (k : Carrier) : List Timer :=
  let x := session s k
  (if x.state = sessDown then [] else (x.unacked.take windowSize).map fun o => .retx k o.msg.seq o.resends)
    ++ timerIf (x.state == sessNegotiate || x.state == sessKeying) (.handshake k)
    ++ timerIf (x.state == sessFailed) (.failed k)
    ++ timerIf (!(members s k).isEmpty && !sessionUp s k) (.pathless k)
    ++ timerIf x.kqAging (.oldKq k)

/-- The timers of a carrier (R159, R165, R258, R264, R291-R296). -/
def carrierTimers (s : State) (x : Carrier) : List Timer :=
  timerIf (s.qlt.inbAcked.get x) (.inbAcked x)
    ++ timerIf (rateState s x == rsConfirming) (.confirming x)
    ++ timerIf (stepOf s x).waiting.isSome (.backoff x)
    ++ timerIf (s.flag (.fec x) FEC.STAT.SF) (.inSf x)
    ++ timerIf (!inFrame s x) (.outOfFrame x)
    ++ timerIf (poweringUp s x) (.poweringUp x)
    ++ timerIf (fesState s x == fesTuning) (.tuning x)
    ++ timerIf (s.flag .fes (fesHeldF x)) (.txHeld x)
    ++ timerIf (foWide s x) (.foWide x)
    ++ timerIf (losCounts s x) (.losHeld x)
    ++ timerIf (acqState s x == acqTiming || acqState s x == acqBlind || acqState s x == acqSearch) (acqTimer s x)
    ++ timerIf (s.flag (.eqz x) EQZ.XFADE_CTL.FADING) (.eqzFading x (s.get (.eqz x) EQZ.XFADE_CTL.TARGET))

/-- The timers of the client ports of a carrier (R339). -/
def portTimers (s : State) (c : Carrier) : List Timer :=
  if !s.running (.cpc c) then []
  else (List.finRange 4).flatMap fun q => timerIf (admitted s c q.val && portDelivers s c q.val) (.portReady c q)

/-- The timers whose condition holds. -/
def runningTimers (s : State) : List Timer :=
  timerIf (s.plinth.rk0Seen && !s.running (.rk 0)) .rk0Stopped
    ++ portTimers s .a ++ portTimers s .b ++ sessionTimers s .a ++ sessionTimers s .b ++ carrierTimers s .a ++ carrierTimers s .b
    ++ timerIf s.qlt.sleepPlan.isSome .sleepPlan ++ timerIf (sfAlone s) .sfAlone ++ timerIf (wtrRuns s) .waitRestore
    ++ timerIf (routeLost s) .routeLost ++ (List.finRange 3).flatMap fun n => timerIf (synUnlocked s n) (.unlocked n)

/-- The timers of conditions follow them: one whose condition has begun starts now, one whose condition has ended stops. -/
def followTimers (s : State) : State :=
  { s with timers := (s.timers.filter fun e => e.1.started)
    ++ (runningTimers s).map fun t => (t, (timerStart s t).getD s.elapsedNs) }

end Sys2Proof.Machine
end

