-- ==== Sys2Proof/Machine/Commands.lean ====
section
/-! DEFINITION. Machine/Commands.lean: what the commands share: a BAR0 access as it reaches the block (R357, R361, R510),
and the field and word writes that the strobe commands are. -/
namespace Sys2Proof.Machine

open Sys2Proof (Byte Word Carrier PerCarrier Origin Page Instr)

/-- A command ends in state `t`, having found `s`: it leaves the queue as it found it, for the queue is the step's. -/
def endsIn (s t : State) : Result := .next { t with pending := s.pending }

/-- BAR0 is 64 MiB (R540). -/
def inBar0 (addr : Nat) : Bool := decide (addr < 0x4000000)

/-- A register access while the device is in Idle returns it to Run (R510); a write of PWR.REQ is a request itself. -/
def busAccess (o : Origin) (addr : Nat) (s : State) : State :=
  if o = .hardware || addr == pageBase .pwr + PWR.REQ.STATE.off then s else accessWakes s

/-- Until host-ready the host's BAR0 writes are discarded unjournalled and counted, and its reads return 0 (R357). -/
def tooEarly (o : Origin) (s : State) : Bool := o == .host && !s.hostReady

/-- A 32-bit BAR0 write by an origin. -/
def busWrite (o : Origin) (addr : Nat) (v : Word) (readings : List Int) (s : State) : State :=
  if tooEarly o s then s.bump .hlk HLK.EARLY_WR.COUNT
  else writeSettled o addr v readings (busAccess o addr s)

/-- A write that is no aligned 32-bit write with all byte enables (R361). -/
def oddWrite (addr len : Nat) (v : Word) (s : State) : State :=
  if tooEarly .host s then s.bump .hlk HLK.EARLY_WR.COUNT
  else misalignedWrite addr len v (busAccess .host addr s)

/-- A 4-byte or 8-byte BAR0 read by an origin (R361): one that is not naturally aligned completes with Unsupported
Request. -/
def busRead (o : Origin) (addr : Nat) (wide : Bool) (s : State) : State :=
  if addr % (if wide then 8 else 4) ≠ 0 then { busAccess o addr s with answer := .unsupportedRequest }
  else if tooEarly o s then { s with answer := if wide then .double 0 else .word 0 }
  else if wide then
    let r := readDouble o addr (busAccess o addr s)
    { r.1 with answer := .double r.2 }
  else
    let r := readReg o addr (busAccess o addr s)
    { r.1 with answer := .word r.2 }

/-- A write of the register at byte offset `off` of a page. -/
def wordWrite (o : Origin) (p : Page) (off : Nat) (v : Word) (s : State) : State :=
  busWrite o (pageBase p + off) v [] s

/-- A write of some fields of a register, its other bits as they stand. -/
def fieldWrites (o : Origin) (p : Page) (off : Nat) (vs : List (Field × Nat)) (s : State) : State :=
  wordWrite o p off (vs.foldl (fun w e => overlay w e.1 e.2) (plainWord p off (acceptedWord s p off))) s

/-- A write of one field, its register's other bits as they stand. -/
def fieldWrite (o : Origin) (p : Page) (f : Field) (v : Nat) (readings : List Int) (s : State) : State :=
  busWrite o (pageBase p + f.off) (overlay (plainWord p f.off (acceptedWord s p f.off)) f v) readings s

/-- A write of the register at `off`, or a read of it. -/
def wordAccess (o : Origin) (p : Page) (off : Nat) (value : Option Word) (s : State) : State :=
  match value with
  | some v => wordWrite o p off v s
  | none => busRead o (pageBase p + off) false s

/-- A selection command of RPS.CMD for a route (R278). -/
def routeCommand (cmd route : Nat) : Word := overlay (overlay 0 RPS.CMD.ROUTE route) RPS.CMD.CMD cmd

/-- Idle control characters inserted and deleted at a client port are counted (R335, R338). -/
def idleCount (c : Carrier) (q inserted deleted : Nat) (s : State) : State :=
  if !(admitted s c q && s.running (.cpc c)) then s
  else (s.addSat (.cpc c) (CPC.IDLE.INS.at q) inserted).addSat (.cpc c) (CPC.IDLE.DEL.at q) deleted

/-- The debug window of a core in BAR0 (R397). -/
def debugBase (n : Fin 8) : Nat := 0x01000000 + n.val * 0x200000

/-- A page whose boundary comes about once a nanosecond (R55): a symbol block, an oFEC block or a 257b block. -/
def tickPage : Page → Bool
  | .txp _ | .cdc _ | .eqz _ | .trc _ | .cpr _ | .mls _ | .dmp _ | .lrx _ | .ltx _ | .fec _ | .cpc _ | .clx _ => true
  | _ => false

/-- What an empty queue does (log entry 6): the block idles.  While it runs or is in Idle the time base and the Plinth's
elapsed count advance by 1 ns (R519, R231), and the pages that work by symbol blocks, oFEC blocks and 257b blocks reach an
application boundary (log entry 14), after the times that have begun or ended are noted (log entry 9); asleep and in Off their time comes with the exit (R508). -/
def idleTick (s : State) : State :=
  if s.power = pwrRun ∨ s.power = pwrIdle then
    let s := followTimers s
    let s := { s with nowNs := (s.nowNs + 1) % 2 ^ 64, elapsedNs := s.elapsedNs + 1 }
    applyStaged (fun p _ => tickPage p && s.running p) s
  else s

end Sys2Proof.Machine
end

