-- ==== Sys2Proof/Machine/ControlCommands.lean ====
section
/-! DEFINITION. Machine/ControlCommands.lean: the commands of the control model, the register file, events, semaphores
and lock (chapters 01, 02): pages, registers, events, semaphores, clocks. -/
namespace Sys2Proof.Machine

open Sys2Proof (Byte Word Carrier PerCarrier Origin Page Instr)

/-- RUNCTL_RUN (R41): A RUN command to a page's RUNCTL moves a stopped page to starting, or is refused or ignored by
state. -/
def execRunctlRun (o : Origin) (p : Page) (s : State) : Result :=
  endsIn s (fieldWrite o p HDR.RUNCTL.CMD 1 [] s)

/-- RUNCTL_STOP (R41): A STOP command to a page's RUNCTL moves a running page to stopping, subject to its
precondition. -/
def execRunctlStop (o : Origin) (p : Page) (s : State) : Result :=
  endsIn s (fieldWrite o p HDR.RUNCTL.CMD 2 [] s)

/-- PAGE_START_COMPLETE (R41): A starting page becomes ready and enters running within its start bound. -/
def execPageStartComplete (p : Page) (ok : Bool) (band gain : Int × Int) (s : State) : Result :=
  endsIn s <|
    let t := fesFollowBoth (pageStarted p ok band gain s)
    if p = .pwr then governorFollow t else t

/-- PAGE_STOP_COMPLETE (R41): A stopping page reaches its next application boundary and enters stopped. -/
def execPageStopComplete (p : Page) (s : State) : Result :=
  endsIn s (fesFollowBoth (pageStopped p s))

/-- PAGE_BOUND_OVERRUN (R41): A page overruns its start or stop bound, sets FAULT and stays in transition. -/
def execPageBoundOverrun (p : Page) (s : State) : Result :=
  endsIn s (fesFollowBoth (pageOverrun p s))

/-- REGISTER_WRITE (R49): A write to a register with no row of its own is checked, applied or refused, and journalled.
-/
def execRegisterWrite (o : Origin) (addr : Nat) (w : Word) (readings : List Int) (s : State) : Result :=
  if inBar0 addr then endsIn s (if addr % 4 = 0 then busWrite o addr w readings s else oddWrite addr 4 w s)
  else .fault .outsideBar0

/-- HOST_MISALIGNED_ACCESS (R361): A host access that is not an aligned 32-bit write or an aligned 4/8-byte read is
refused with ACCESS_SIZE or completes with Unsupported Request. -/
def execHostMisalignedAccess (write : Bool) (addr len : Nat) (w : Word) (s : State) : Result :=
  if inBar0 (addr + len - 1) then endsIn s (if write then oddWrite addr len w s else { accessWakes s with answer := .unsupportedRequest })
  else .fault .outsideBar0

/-- UNMAPPED_BAR0_WRITE (R542): A write to a BAR0 address in no page is discarded and journalled as refused with
RESERVED_OFFSET. -/
def execUnmappedBar0Write (o : Origin) (addr : Nat) (w : Word) (s : State) : Result :=
  if inBar0 addr then endsIn s (busWrite o addr w [] s)
  else .fault .outsideBar0

/-- EARLY_BAR0_WRITE (R357): A BAR0 write before host-ready is discarded unjournalled and counted in EARLY_WR. -/
def execEarlyBar0Write (addr : Nat) (w : Word) (s : State) : Result :=
  if inBar0 addr then endsIn s (busWrite .host addr w [] s)
  else .fault .outsideBar0

/-- REFUSED_WR_CLR (R42): A write of CLR to REFUSED_WR clears its count and last-refusal fields. -/
def execRefusedWrClr (o : Origin) (p : Page) (s : State) : Result :=
  endsIn s (fieldWrite o p HDR.REFUSED_WR.CLR 1 [] s)

/-- ERRLOG_CLR (R42): A write of CLR to ERRLOG clears its count, code and detail. -/
def execErrlogClr (o : Origin) (p : Page) (s : State) : Result :=
  endsIn s (fieldWrite o p HDR.ERRLOG.CLR 1 [] s)

/-- EVT_RAW_CLEAR (R68): A write of 1 to an EVT_RAW bit clears that event bit, unless its cause persists. -/
def execEvtRawClear (o : Origin) (p : Page) (mask : BitVec 16) (s : State) : Result :=
  endsIn s (wordWrite o p HDR.EVT_RAW.EVT.off (mask.setWidth 32) s)

/-- EVT_SET (R68): A write to EVT_SET raises the named implemented event bits as the events would. -/
def execEvtSet (o : Origin) (p : Page) (mask : BitVec 16) (s : State) : Result :=
  endsIn s (wordWrite o p HDR.EVT_SET.SET.off (mask.setWidth 32) s)

/-- X_LO_READ_LATCH (R582): A read of an X_LO register latches its X_HI partner for the reading origin. -/
def execXLoReadLatch (o : Origin) (addr : Nat) (wide : Bool) (s : State) : Result :=
  if inBar0 addr then endsIn s (busRead o addr wide s)
  else .fault .outsideBar0

/-- EVR_SET_MESSAGE (R70): EVR receives a set message for a source whose pending bit rose and delivers it by its
route. -/
def execEvrSetMessage (s : State) : Result :=
  endsIn s (takeSetMessage s)

/-- EVR_CLEAR_MESSAGE (R70): EVR receives a clear message for a source whose pending bit fell. -/
def execEvrClearMessage (src : Nat) (s : State) : Result :=
  endsIn s (takeClearMessage s src)

/-- RT_DATA_WRITE (R73): A write to EVR.RT_DATA replaces the route entry at the next event message, re-delivering
pending sources as stated. -/
def execRtDataWrite (o : Origin) (w : Word) (s : State) : Result :=
  endsIn s (wordWrite o .evr EVR.RT_DATA.CORE.off w s)

/-- SW_SET (R71): A write to EVR.SW_SET raises the named software sources. -/
def execSwSet (o : Origin) (mask : BitVec 16) (s : State) : Result :=
  endsIn s (wordWrite o .evr EVR.SW_SET.SET.off (mask.setWidth 32) s)

/-- SW_CLR (R71): A write to EVR.SW_CLR clears the named software sources. -/
def execSwClr (o : Origin) (mask : BitVec 16) (s : State) : Result :=
  endsIn s (wordWrite o .evr EVR.SW_CLR.CLR.off (mask.setWidth 32) s)

/-- SEM_ACQUIRE (R26): An acquire command to ARM.SEMn is granted, found busy or refused for lock order. -/
def execSemAcquire (o : Origin) (n : Fin 64) (s : State) : Result :=
  endsIn s (fieldWrite o .arm (ARM.SEM.CMD.at n.val) 1 [] s)

/-- SEM_RELEASE (R27): A release command to ARM.SEMn frees it if the origin holds it. -/
def execSemRelease (o : Origin) (n : Fin 64) (s : State) : Result :=
  endsIn s (fieldWrite o .arm (ARM.SEM.CMD.at n.val) 2 [] s)

/-- VC_VIOLATION (R23): A packet from a non-Plinth origin on the Plinth channel is discarded at the first router and
reported. -/
def execVcViolation (o : Origin) (s : State) : Result :=
  endsIn s (if o = .plinth then s else vcViolation o s)

/-- CSF_PAIR_COMPARE (R18): Once per CSF the received CSF boundaries of both carriers are paired and the lock state
updated. -/
def execCsfPairCompare (csfA csfB : BitVec 40) (skew : Option Nat) (s : State) : Result :=
  endsIn s (csfPairCompare csfA csfB skew s)

/-- JOINT_TIMING_RELEASE (R20): On entry to LOST each interpolator returns to its own carrier's error at the next
symbol block boundary. -/
def execJointTimingRelease (c : Carrier) (s : State) : Result :=
  endsIn s (jointRelease c s)

/-- RX_SLIP (R32): A line receive ingress EB would overflow, so a whole symbol block is dropped on all four lanes and
a slip marker sent on. -/
def execRxSlip (c : Carrier) (s : State) : Result :=
  endsIn s (fesFollowBoth (rxSlipInstant c s))

/-- TX_SLIP (R33): A line transmit egress EB is empty when the DAC needs a block, so the zero code is sent and
counted. -/
def execTxSlip (c : Carrier) (s : State) : Result :=
  endsIn s (dacInstant c s)

/-- CLIENT_INGRESS_DROP (R34): A 257b block that does not fit a full client ingress EB is dropped and counted. -/
def execClientIngressDrop (c : Carrier) (s : State) : Result :=
  endsIn s (ingressDrop c s)

/-- CLIENT_EGRESS_UNDERRUN (R34): A client egress EB is empty when its port needs a block, so an error control block
is sent. -/
def execClientEgressUnderrun (c : Carrier) (q : Fin 4) (s : State) : Result :=
  endsIn s (egressUnderrun c q.val s)

/-- JOURNAL_SPILL (R63): The on-die journal buffer holds 4,096 or more entries and spills entries to the LPDDR5X ring.
-/
def execJournalSpill (n : Nat) (s : State) : Result :=
  endsIn s (journalSpill n s)

/-- JOURNAL_PERSIST_BATCH (R63): RK7 persists a batch of ring entries to the Archive and writes the head to MRAM. -/
def execJournalPersistBatch (n : Nat) (s : State) : Result :=
  endsIn s (journalPersist n s)

/-- JOURNAL_SPACE_RETURN (R65): Space returns to the on-die buffer and a GAP marker for the unlogged refusals is
appended. -/
def execJournalSpaceReturn (s : State) : Result :=
  endsIn s (journalSpaceReturn s)

/-- SIGN_NOW (R62): A write of SIGN_NOW to CJ.CTL requests a Plinth signature of the chain head. -/
def execSignNow (o : Origin) (s : State) : Result :=
  endsIn s (fieldWrite o .cj CJ.CTL.SIGN_NOW 1 [] s)

/-- JOURNAL_SIGNATURE_DONE (R62): The Plinth's head signature completes, is stored and a SIGN marker appended. -/
def execJournalSignatureDone (s : State) : Result :=
  endsIn s (signatureDone s)

end Sys2Proof.Machine
end

