-- ==== Sys2Proof/Machine/LineCommands.lean ====
section
/-! DEFINITION. Machine/LineCommands.lean: the commands of line framing and the transmit path (chapters 03, 04):
framing, transmit DSP, DACs. -/
namespace Sys2Proof.Machine

open Sys2Proof (Byte Word Carrier PerCarrier Origin Page Instr)

/-- LF_HEADER_FORM (R86): LFM_x forms an LF header, takes D blocks from the justification buffer and sets FILL, key
index and BLANKED. -/
def execLfHeaderForm (c : Carrier) (s : State) : Result :=
  endsIn s <|
    if frameDue s c then
      let s := keyingAtFrame c (frameBoundary c s)
      ratchetRetry c (inbandSent c (formFrame c (nextInband s c) s))
    else s

/-- LFM_JOIN_PARTNER (R85): A starting LFM waits for its running partner's CSF boundary and then sends its first LF
with the partner's number. -/
def execLfmJoinPartner (c : Carrier) (s : State) : Result :=
  endsIn s (joinPartner c s)

/-- LFM_PAIR_START (R273): In 1+1 a framer written RUN waits until the other's RUN is accepted and both start
together. -/
def execLfmPairStart (s : State) : Result :=
  endsIn s (pairStart s)

/-- CPC_ROUND_WRITE (R334): CPC_x forms a calendar round of W blocks and writes it to the justification buffer. -/
def execCpcRoundWrite (c : Carrier) (blocks : List (Fin 4 × ClientIn)) (rsCorr rsUncorr : List Nat) (s : State) : Result :=
  endsIn s (roundWrite c blocks rsCorr rsUncorr (pageBoundary (.cpc c) s))

/-- JUST_RANGE_CLR (R95): A write of CLR to LFM_x.JUST_RANGE resets MIN_DATA and MAX_DATA. -/
def execJustRangeClr (o : Origin) (c : Carrier) (s : State) : Result :=
  endsIn s (fieldWrite o (.lfm c) LFM.JUST_RANGE.CLR 1 [] s)

/-- RX_FRAME_POSITION (R209): At each candidate or frame position the FAW and header are checked and the receive frame
state updated. -/
def execRxFramePosition (c : Carrier) (f : RxFrame) (s : State) : Result :=
  endsIn s (fesFollowBoth (framePosition c f (frameBoundary c s)))

/-- RX_LF_CLASSIFY (R210): A received LF in SYNC is sorted into one class and delivered, discarded or passed to CRY_x.
-/
def execRxLfClassify (c : Carrier) (f : RxFrame) (arrival : Nat) (s : State) : Result :=
  endsIn s (fesFollowBoth (classifyFrame c f arrival (frameBoundary c s)))

/-- SYF_START (R100): TXP_x starts a symbol frame with its training block. -/
def execSyfStart (c : Carrier) (s : State) : Result :=
  endsIn s (syfStart c s)

/-- PILOT_GROUP_SIGN (R101): At the start of a pilot group TXP_x takes one bit from the pilot-channel FIFO, or counts
an underrun. -/
def execPilotGroupSign (c : Carrier) (s : State) : Result :=
  endsIn s (groupSign c s)

/-- PCH_DATA (R101): A write to TXP_x.PCH_DATA appends 32 bits to the pilot-channel FIFO or is refused if full. -/
def execPchData (o : Origin) (c : Carrier) (w : Word) (s : State) : Result :=
  endsIn s (wordWrite o (.txp c) TXP.PCH_DATA.BITS.off w s)

/-- PCH_CTL_CLR (R120): A write of CLR to TXP_x.PCH_CTL empties the FIFO and clears UNDERRUN. -/
def execPchCtlClr (o : Origin) (c : Carrier) (s : State) : Result :=
  endsIn s (fieldWrite o (.txp c) TXP.PCH_CTL.CLR 1 [] s)

/-- TX_FIR_SWAP (R106): A SWAP strobe to TXP_x.FIR_XFADE starts, holds or refuses a bank cross-fade. -/
def execTxFirSwap (o : Origin) (c : Carrier) (w : Word) (s : State) : Result :=
  endsIn s (wordWrite o (.txp c) TXP.FIR_XFADE.SWAP.off (overlay w TXP.FIR_XFADE.SWAP 1) s)

/-- TX_XFADE_END (R106): The last fade block ends, ACTIVE takes the target bank and a held swap starts. -/
def execTxXfadeEnd (c : Carrier) (s : State) : Result :=
  endsIn s (txXfadeEnd c s)

/-- DAC_START (R111): Once all four egress EBs hold 20 blocks the carrier's DACs start reading on one edge. -/
def execDacStart (c : Carrier) (s : State) : Result :=
  endsIn s (dacStart c s)

/-- LTX_FG_CAL_START (R112): Foreground DAC calibration begins once LTXn runs and SYN_x is locked. -/
def execLtxFgCalStart (c : Carrier) (s : State) : Result :=
  endsIn s (fgCalStart c s)

/-- LTX_FG_CAL_DONE (R112): Foreground DAC calibration of the carrier's lanes completes and CAL_DONE is raised. -/
def execLtxFgCalDone (c : Carrier) (ms : List (List (Int × Int))) (s : State) : Result :=
  endsIn s (fgCalDone c ms s)

/-- LTX_BG_CAL_STEP (R113): Every 100 µs the spare DAC segment measures the next segment and a trim is accepted or
rejected. -/
def execLtxBgCalStep (n : Fin 8) (m1 m2 : Int) (mux : Int × Int) (s : State) : Result :=
  endsIn s (bgCalStep n m1 m2 mux s)

/-- GATE_CHANGE (R114): A lane's output gate opens or closes at a symbol block boundary. -/
def execGateChange (c : Carrier) (s : State) : Result :=
  endsIn s (gateChange c (pagesBoundary (symbolPages c) s))

/-- HOLDOVER (R116): TRC_x loses lock or leaves the pull range and SYN_x holds its averaged frequency. -/
def execHoldover (c : Carrier) (average : Int) (s : State) : Result :=
  endsIn s (holdover c average s)

/-- LOOP_TRACK_RESUME (R116): TRC_x has held lock for 1 ms and loop tracking resumes. -/
def execLoopTrackResume (c : Carrier) (s : State) : Result :=
  endsIn s (loopResume c s)

/-- LTX_PATTERN_MODE (R117): A change of LTXn.PAT_CTL.MODE switches the lane's content at the next symbol block. -/
def execLtxPatternMode (n : Fin 8) (s : State) : Result :=
  endsIn s (patternMode n (pageBoundary (.ltx n) s))

/-- TX_INJECT_SINGLE (R118): A SINGLE strobe to TXP_x.INJ_CTL injects one error on each selected tributary. -/
def execTxInjectSingle (o : Origin) (c : Carrier) (w : Word) (s : State) : Result :=
  endsIn s (wordWrite o (.txp c) TXP.INJ_CTL.SINGLE.off (overlay w TXP.INJ_CTL.SINGLE 1) s)

/-- TX_INJECT_PERIODIC (R118): Every 2^RATE_LOG2 target units a periodic error is injected. -/
def execTxInjectPeriodic (c : Carrier) (s : State) : Result :=
  endsIn s (injectPeriodic c s)

/-- PRAM_DATA_ACCESS (R121): An access to LTXn.PRAM_DATA reads or writes pattern RAM and advances the index. -/
def execPramDataAccess (o : Origin) (n : Fin 8) (value : Option Word) (s : State) : Result :=
  endsIn s (wordAccess o (.ltx n) LTX.PRAM_DATA.SAMPLES.off value s)

/-- DAC_CLIP (R109): A symbol block with a clamped DAC code increments CLIP_CNT and raises CLIP. -/
def execDacClip (n : Fin 8) (s : State) : Result :=
  endsIn s (dacBlock n (pageBoundary (.ltx n) s))

/-- SKEW_SLEW (R104): At each symbol block boundary the applied TXP or TRC skew moves up to 0.1 ps toward its target.
-/
def execSkewSlew (c : Carrier) (receive : Bool) (s : State) : Result :=
  endsIn s <|
    let t := pagesBoundary (symbolPages c) s
    fesFollowBoth (if receive then rxBlock c (skewSlew c true t) else txBlock c (skewSlew c false t))

end Sys2Proof.Machine
end

