-- ==== Sys2Proof/Machine/ReceiveCommands.lean ====
section
/-! DEFINITION. Machine/ReceiveCommands.lean: the commands of the line receivers, equalisation, carrier recovery and
FEC (chapters 05 to 08): converters, equalisers, carrier recovery, FEC. -/
namespace Sys2Proof.Machine

open Sys2Proof (Byte Word Carrier PerCarrier Origin Page Instr)

/-- AGC_PERIOD (R125): At each AGC period the slow gain loop measures RMS and steps G by at most 0.5 dB. -/
def execAgcPeriod (n : Fin 8) (s : State) : Result :=
  endsIn s (fesFollowBoth (agcPeriod n s))

/-- GAIN_SET (R125): A write to LRXn.AFE_CTL.GAIN_SET sets G at the next block boundary. -/
def execGainSet (o : Origin) (n : Fin 8) (code : BitVec 6) (s : State) : Result :=
  endsIn s (fesFollowBoth (fieldWrite o (.lrx n) LRX.AFE_CTL.GAIN_SET code.toNat [] s))

/-- FAST_STEP (R128): A block ending with at least CLIP_THR clipped samples lowers G by 1 dB. -/
def execFastStep (n : Fin 8) (s : State) : Result :=
  endsIn s (fesFollowBoth (fastStep n s))

/-- CLIP (R129): The first block with a clipped sample opens a clipping interval. -/
def execClip (n : Fin 8) (codes : List Int) (s : State) : Result :=
  endsIn s (fesFollowBoth (laneBlock n codes (pageBoundary (.lrx n) s)))

/-- CLIP_INTERVAL_END (R129): 64 consecutive clean blocks end the clipping interval. -/
def execClipIntervalEnd (n : Fin 8) (s : State) : Result :=
  endsIn s (fesFollowBoth (clipIntervalEnd n s))

/-- GAIN_LIMIT (R130): G has sat at its limit for 1 ms, so AT_MIN or AT_MAX is set. -/
def execGainLimit (n : Fin 8) (s : State) : Result :=
  endsIn s (fesFollowBoth (gainLimit n s))

/-- LRX_FG_CAL (R132): A lane entering starting with FG_ON_START calibrates all 65 slices before delivering samples.
-/
def execLrxFgCal (n : Fin 8) (ms : List (List (Int × Int))) (afe : List (Int × Int)) (s : State) : Result :=
  endsIn s (fesFollowBoth (lrxFgCal n ms afe s))

/-- ADC_BG_CAL_STEP (R133): Each 2^18 slice conversions the spare slice is calibrated and exchanged into position p.
-/
def execAdcBgCalStep (n : Fin 8) (m : Int × Int) (s : State) : Result :=
  endsIn s (fesFollowBoth (adcStep n m s))

/-- UNRETIRE (R136): A write of UNRETIRE clears RETIRED and restarts rotation. -/
def execUnretire (o : Origin) (n : Fin 8) (s : State) : Result :=
  endsIn s (fesFollowBoth (fieldWrite o (.lrx n) LRX.CAL_CTL.UNRETIRE 1 [] s))

/-- LANE_CLOCK_LOSS (R137): SYN_x loses lock, so the lanes stop delivering samples and set NO_CLK. -/
def execLaneClockLoss (c : Carrier) (s : State) : Result :=
  endsIn s (fesFollowBoth (lanesLose c s))

/-- LANE_CLOCK_RESUME (R137): SYN_x locks again and the carrier's lanes resume on a common edge. -/
def execLaneClockResume (c : Carrier) (s : State) : Result :=
  endsIn s (fesFollowBoth (laneClockResume c s))

/-- HIST_START (R138): A START strobe to LRXn.HIST_CTL begins a histogram run or is counted as OVR. -/
def execHistStart (o : Origin) (n : Fin 8) (w : Word) (s : State) : Result :=
  endsIn s (fesFollowBoth (wordWrite o (.lrx n) LRX.HIST_CTL.START.off (overlay w LRX.HIST_CTL.START 1) s))

/-- HIST_DONE (R138): A histogram run ends and its bins are copied. -/
def execHistDone (n : Fin 8) (s : State) : Result :=
  endsIn s (fesFollowBoth (histDone n s))

/-- SNAP_ARM (R139): A write of LRXn.SNAP_CTL.ARM arms the lane for capture within the rate limit. -/
def execSnapArm (o : Origin) (n : Fin 8) (w : Word) (s : State) : Result :=
  endsIn s (fesFollowBoth (wordWrite o (.lrx n) LRX.SNAP_CTL.ARM.off (overlay w LRX.SNAP_CTL.ARM 1) s))

/-- CD_SCAN_START (R148): Acquisition enters CD_SCAN and 65,536 samples are stored. -/
def execCdScanStart (c : Carrier) (s : State) : Result :=
  endsIn s (fesFollowBoth (scanStart c s))

/-- CD_SCAN_COMPLETE (R148): The candidate scan finishes and succeeds or fails by the ratio test. -/
def execCdScanComplete (c : Carrier) (coarse fine : List Nat) (s : State) : Result :=
  endsIn s (fesFollowBoth (scanComplete c coarse fine s))

/-- CD_TRACK_STEP (R149): Every 1,024 blocks in TRACK the CD tracking offset moves 1 ps/nm if the residual exceeds 5
ps/nm. -/
def execCdTrackStep (c : Carrier) (s : State) : Result :=
  endsIn s (fesFollowBoth (cdTrackStep c s))

/-- CD_SET_WRITE (R149): A write to CDC_x.CD_SET applies at once, or slews in TRACK. -/
def execCdSetWrite (o : Origin) (c : Carrier) (cd : BitVec 18) (s : State) : Result :=
  endsIn s (fesFollowBoth (fieldWrite o (.cdc c) CDC.CD_SET.CD cd.toNat [] s))

/-- TIMING_LOCK (R151): FREQ_OFS has changed by under 0.5 ppm over 1,024 blocks and TRC_x sets LOCK. -/
def execTimingLock (c : Carrier) (ofs : Int) (s : State) : Result :=
  endsIn s (fesFollowBoth (timingLock c ofs s))

/-- TIMING_LOCK_LOST (R151): Frequency drift, range or unusable input clears TRC_x LOCK. -/
def execTimingLockLost (c : Carrier) (ofs : Option Int) (s : State) : Result :=
  endsIn s (fesFollowBoth (timingLost c ofs s))

/-- AUTO_SKEW_ESTIMATE (R153): The device estimates tributary delays from training and writes new skew targets. -/
def execAutoSkewEstimate (c : Carrier) (est : List Int) (s : State) : Result :=
  endsIn s (fesFollowBoth (autoSkew c est s))

/-- EQZ_LMS_UPDATE (R155): At the end of an update period every equaliser tap is updated by block LMS. -/
def execEqzLmsUpdate (c : Carrier) (grads : List (Int × Int)) (s : State) : Result :=
  endsIn s (fesFollowBoth (lmsUpdate c grads s))

/-- SINGULARITY (R157): In BLIND a cross-correlation above 0.8 over 64 blocks re-initialises the active bank. -/
def execSingularity (c : Carrier) (corr cost : Nat) (s : State) : Result :=
  endsIn s (fesFollowBoth (singularity c corr cost s))

/-- CHANNEL_ESTIMATE (R158): Every 1,024 blocks DGD, SOP rate and residual CD are estimated from the active bank. -/
def execChannelEstimate (c : Carrier) (s : State) : Result :=
  endsIn s (fesFollowBoth (channelEstimate c s))

/-- EQZ_SWAP (R159): A SWAP strobe to EQZ_x.XFADE_CTL starts, holds or refuses a bank cross-fade. -/
def execEqzSwap (o : Origin) (c : Carrier) (w : Word) (s : State) : Result :=
  endsIn s (fesFollowBoth (wordWrite o (.eqz c) EQZ.XFADE_CTL.SWAP.off (overlay w EQZ.XFADE_CTL.SWAP 1) s))

/-- EQZ_XFADE_END (R159): The equaliser fade ends, ACTIVE takes the target bank and a held swap starts. -/
def execEqzXfadeEnd (c : Carrier) (s : State) : Result :=
  endsIn s (fesFollowBoth (if eqzFadeOver s c then fadeEnd eqzFade (.eqz c) s else s))

/-- EQZ_COPY (R161): A COPY strobe copies the active bank into the inactive bank at the next block. -/
def execEqzCopy (o : Origin) (c : Carrier) (s : State) : Result :=
  endsIn s (fesFollowBoth (fieldWrite o (.eqz c) EQZ.XFADE_CTL.COPY 1 [] s))

/-- EQZ_INIT (R161): An INIT strobe sets the active bank to centre taps at the next block. -/
def execEqzInit (o : Origin) (c : Carrier) (s : State) : Result :=
  endsIn s (fesFollowBoth (fieldWrite o (.eqz c) EQZ.XFADE_CTL.INIT 1 [] s))

/-- COEF_DATA_ACCESS (R163): An access to EQZ_x.COEF_DATA reads or writes a coefficient and advances TAP. -/
def execCoefDataAccess (o : Origin) (c : Carrier) (value : Option Word) (s : State) : Result :=
  endsIn s (wordAccess o (.eqz c) EQZ.COEF_DATA.RE.off value s)

/-- SHADOW_SNAP (R163): A SNAP strobe fills the shadow copy from the active taps at the next block. -/
def execShadowSnap (o : Origin) (c : Carrier) (s : State) : Result :=
  endsIn s (fesFollowBoth (fieldWrite o (.eqz c) EQZ.SHADOW.SNAP 1 [] s))

/-- ACQ_BEGIN (R165): CDC, TRC and EQZ all run with samples, so acquisition leaves IDLE. -/
def execAcqBegin (c : Carrier) (s : State) : Result :=
  endsIn s (fesFollowBoth (acqBegin c s))

/-- ACQ_TIMEOUT (R165): TIMING, BLIND or SYF_SEARCH exceeds its timeout and acquisition restarts or returns to BLIND.
-/
def execAcqTimeout (c : Carrier) (s : State) : Result :=
  endsIn s (fesFollowBoth (acqTimeout c s))

/-- BLIND_CONVERGED (R165): The CMA cost stays low for 256 blocks and BLIND moves to SYF_SEARCH. -/
def execBlindConverged (c : Carrier) (cost : Nat) (s : State) : Result :=
  endsIn s (fesFollowBoth (blindConverged c cost s))

/-- TRAINING_DETECT (R166): A training block is correlated, confirming or missing the SYF position and possibly
swapping rows. -/
def execTrainingDetect (c : Carrier) (x y : Option (Carrier × Bool)) (index : Nat) (s : State) : Result :=
  endsIn s (fesFollowBoth (trainingDetect c x y index s))

/-- ACQ_RESTART (R165): A write of RESTART to EQZ_x.ACQ_CTL restarts acquisition. -/
def execAcqRestart (o : Origin) (c : Carrier) (s : State) : Result :=
  endsIn s (fesFollowBoth (fieldWrite o (.eqz c) EQZ.ACQ_CTL.RESTART 1 [] s))

/-- CPR_TRAINING_BLOCK (R186): CPR_x processes a training block: coarse frequency estimate, phase check and state
change. -/
def execCprTrainingBlock (c : Carrier) (x y : List (Int × Int)) (s : State) : Result :=
  endsIn s (fesFollowBoth (trainingBlock c x y s))

/-- FO_LOCK (R176): FO_EST has changed by under 2 MHz over 1,024 pilots and FO_LOCK is set. -/
def execFoLock (c : Carrier) (s : State) : Result :=
  endsIn s (fesFollowBoth (foLock c s))

/-- FO_RANGE (R176): FO_EST leaves ±3.5 GHz and acquisition restarts at FO_COARSE. -/
def execFoRange (c : Carrier) (s : State) : Result :=
  endsIn s (fesFollowBoth (foRange c s))

/-- PILOT_SLIP_CHECK (R180): At each pilot the quadrant q is formed and a cycle slip confirmed, repaired or left
unresolved. -/
def execPilotSlipCheck (c : Carrier) (x y : List (Int × Int)) (s : State) : Result :=
  endsIn s (fesFollowBoth (pilotArrives c x y s))

/-- PCH_RECORD_WRITE (R185): After pilot group 255 CPR_x writes a 272-byte soft-value record to RK1's ring or counts
an overflow. -/
def execPchRecordWrite (c : Carrier) (s : State) : Result :=
  endsIn s (pchRecordWrite c s)

/-- PCH_RING_ENTRIES (R185): A write to CPR_x.PCH_RING.ENTRIES resets both ring indices. -/
def execPchRingEntries (o : Origin) (c : Carrier) (entries : BitVec 8) (s : State) : Result :=
  endsIn s (fieldWrite o (.cpr c) CPR.PCH_RING.ENTRIES entries.toNat [] s)

/-- MLS_ESTIMATE_UPDATE (R190): Every 2^EST_LOG2 blocks the MLSE gain and tail estimates are updated. -/
def execMlsEstimateUpdate (c : Carrier) (s : State) : Result :=
  endsIn s (mlsUpdate c s)

/-- TRELLIS_RESET (R191): After a slip or unsynchronised block every state metric is set to 0. -/
def execTrellisReset (c : Carrier) (s : State) : Result :=
  endsIn s (trellisReset c s)

/-- SNR_UPDATE (R194): Every 2^VAR_LOG2 blocks the noise variance and SNR are updated and SNR_LOW may be raised. -/
def execSnrUpdate (c : Carrier) (s : State) : Result :=
  endsIn s (fesFollowBoth (snrUpdate c s))

/-- FEC_HUNT_OBSERVATION (R204): A block-alignment observation ends and passes to CHECK or starts again. -/
def execFecHuntObservation (c : Carrier) (s : State) : Result :=
  endsIn s (fesFollowBoth (huntObservation c s))

/-- FEC_CHECK_RESULT (R204): The first 64 blocks at OFFSET are judged and the decoder enters LOCK or HUNT. -/
def execFecCheckResult (c : Carrier) (s : State) : Result :=
  endsIn s (fesFollowBoth (checkResult c s))

/-- UNCORRECTABLE_BLOCK (R205): A decoded oFEC block is uncorrectable, is counted and its bits are flagged bad. -/
def execUncorrectableBlock (c : Carrier) (s : State) : Result :=
  endsIn s (fesFollowBoth (uncorrectableBlock c (pageBoundary (.fec c) s)))

/-- FEC_WINDOW_END (R206): A statistics window ends, its registers latch and SD and SF are judged. -/
def execFecWindowEnd (c : Carrier) (s : State) : Result :=
  endsIn s (fesFollowBoth (windowEnd c s))

end Sys2Proof.Machine
end

