-- ==== Sys2Proof/Machine/QuoletCommands.lean ====
section
/-! DEFINITION. Machine/QuoletCommands.lean: the commands of keying and the Quolet (chapters 09, 10): keys, wake
words, messages, rate steps, coordinated sleep. -/
namespace Sys2Proof.Machine

open Sys2Proof (Byte Word Carrier PerCarrier Origin Page Instr)

/-- RATCHET_DUE (R234): The rekey interval elapses and the A-end's Plinth starts a ratchet. -/
def execRatchetDue (x : Carrier) (s : State) : Result :=
  endsIn s (intervalRatchet x s)

/-- REKEY_ANNOUNCE (R237): The transmitting Plinth derives a key, loads the next slot and sends REKEY with activation
CSF N. -/
def execRekeyAnnounce (x : Carrier) (s : State) : Result :=
  endsIn s (ratchetRetry x s)

/-- ACTIVATION_DEADLINE (R237): The framer forms CSF N − 16 without KEY_CONFIRM and the activation is abandoned and
retried. -/
def execActivationDeadline (x : Carrier) (s : State) : Result :=
  endsIn s (activationDeadline x s)

/-- ACTIVATION_TAKE_EFFECT (R237): The first LF of CSF N is sent under the new slot and the old transmit slot is
erased. -/
def execActivationTakeEffect (x : Carrier) (s : State) : Result :=
  endsIn s (activationEffect x s)

/-- RETAINED_SLOT_EXPIRY (R237): The received CSF_NO advances 2^RETAIN_LOG2 beyond the new slot's first LF and the
retained slot is erased. -/
def execRetainedSlotExpiry (c : Carrier) (s : State) : Result :=
  endsIn s (expireRetained s c)

/-- SLOT_EXPIRY (R231): A key slot reaches LIFE_MULT × I since loading, is erased and marked EXPIRED. -/
def execSlotExpiry (c : Carrier) (receive : Bool) (i : Fin 4) (s : State) : Result :=
  endsIn s (expireSlot s c receive i.val)

/-- EPOCH_EXCHANGE_START (R235): Ratchet 56 or an epoch age of 3,300 s starts a fresh ML-KEM exchange. -/
def execEpochExchangeStart (x : Carrier) (s : State) : Result :=
  endsIn s <|
    match ownerOf s x with
    | some k => exchangeWhenDue k s
    | none => s

/-- EPOCH_EXHAUSTED (R235): Ratchet 64 or 3,600 s is reached without a new epoch and no further key is derived. -/
def execEpochExhausted (x : Carrier) (s : State) : Result :=
  endsIn s <|
    match ownerOf s x with
    | some k => epochExhausted k s
    | none => s

/-- WAKE_SEND (R249): A write of SEND to QLT.WAKE_CTL starts CALL bursts. -/
def execWakeSend (o : Origin) (w : Word) (s : State) : Result :=
  endsIn s (wordWrite o .qlt QLT.WAKE_CTL.SEND.off (overlay w QLT.WAKE_CTL.SEND 1) s)

/-- WAKE_BURST (R247): Each second a burst of 8 wake words is keyed on the laser until BURSTS are sent or an ANSWER is
accepted. -/
def execWakeBurst (x : Carrier) (s : State) : Result :=
  endsIn s (wakeBurst x s)

/-- WAKE_WORD_RX (R248): A wake word arrives on a wake receiver and is accepted after two matching copies. -/
def execWakeWordRx (x : Carrier) (w : BitVec 64) (s : State) : Result :=
  endsIn s <|
    let r := wakeWordRx x w s
    if r.2 then wake (1 + x.idx) (r.1.raiseIf (r.1.power == pwrRun) .qlt QLT.EVT.WAKE_RX) else r.1

/-- ANSWER_SEND (R249): After accepting a CALL the device answers with ANSWER bursts once its laser may be keyed. -/
def execAnswerSend (x : Carrier) (s : State) : Result :=
  endsIn s (answerSend x s)

/-- PCH_WORD_SYNC (R251): 16 consecutive words with MARK = 0b10 bring a pilot channel into word sync. -/
def execPchWordSync (x : Carrier) (s : State) : Result :=
  endsIn s (wordSync x s)

/-- PCH_WORD_SYNC_LOSS (R251): 8 of 16 words without MARK take the pilot channel out of word sync. -/
def execPchWordSyncLoss (x : Carrier) (s : State) : Result :=
  endsIn s (wordSyncLoss x s)

/-- LINK_WORD (R252): A 64-bit link word arrives on a path and is assembled into a message or discarded. -/
def execLinkWord (x : Carrier) (w : LinkArrival) (s : State) : Result :=
  endsIn s (switchReport (wordArrives x w s))

/-- ACK (R255): An ACK message advances the peer's acknowledged sequence. -/
def execAck (x : Carrier) (m : Message) (s : State) : Result :=
  endsIn s (switchReport (receiveMessage x tAck m s))

/-- HELLO (R255): A HELLO message starts or restarts the exchange and its sequencing. -/
def execHello (x : Carrier) (m : Message) (s : State) : Result :=
  endsIn s (switchReport (receiveMessage x tHello m s))

/-- CAPS (R256): A CAPS message records the peer's modes, targets, rekey and configuration. -/
def execCaps (x : Carrier) (m : Message) (s : State) : Result :=
  endsIn s (switchReport (receiveMessage x tCaps m s))

/-- ATTEST (R461): An ATTEST message's certificate and report are verified by the Plinth or set aside. -/
def execAttest (x : Carrier) (m : Message) (s : State) : Result :=
  endsIn s (switchReport (receiveMessage x tAttest m s))

/-- KEM_INIT (R260): A KEM_INIT message is processed by the B-end, held, or refused for role or epoch. -/
def execKemInit (x : Carrier) (m : Message) (s : State) : Result :=
  endsIn s (switchReport (receiveMessage x tKemInit m s))

/-- KEM_RESP (R260): A KEM_RESP message completes the ML-KEM exchange at the A-end. -/
def execKemResp (x : Carrier) (m : Message) (s : State) : Result :=
  endsIn s (switchReport (receiveMessage x tKemResp m s))

/-- KEY_CONFIRM (R261): A KEY_CONFIRM message completes a handshake or commits a key activation. -/
def execKeyConfirm (x : Carrier) (m : Message) (s : State) : Result :=
  endsIn s (switchReport (receiveMessage x tKeyConfirm m s))

/-- REKEY (R237): A REKEY message is checked and the key loaded into the receive slot or refused. -/
def execRekey (x : Carrier) (m : Message) (s : State) : Result :=
  endsIn s (switchReport (receiveMessage x tRekey m s))

/-- RATE_OFFER (R263): A RATE_OFFER message recomputes the negotiated target and is answered. -/
def execRateOffer (x : Carrier) (m : Message) (s : State) : Result :=
  endsIn s (switchReport (receiveMessage x tRateOffer m s))

/-- RATE_ACCEPT (R263): A RATE_ACCEPT message confirms the negotiated targets. -/
def execRateAccept (x : Carrier) (m : Message) (s : State) : Result :=
  endsIn s (switchReport (receiveMessage x tRateAccept m s))

/-- STEP (R264): A STEP message arms, refuses or follows a rate step on the named carriers. -/
def execStep (x : Carrier) (m : Message) (s : State) : Result :=
  endsIn s (switchReport (receiveMessage x tStep m s))

/-- STEP_ACK (R264): A STEP_ACK message commits or refuses an offered rate step. -/
def execStepAck (x : Carrier) (m : Message) (s : State) : Result :=
  endsIn s (switchReport (receiveMessage x tStepAck m s))

/-- ROUTE_SWITCH (R283): A ROUTE_SWITCH message requests, accepts or reports a 1:1 route switch. -/
def execRouteSwitch (x : Carrier) (m : Message) (s : State) : Result :=
  endsIn s (switchReport (receiveMessage x tRouteSwitch m s))

/-- SLEEP_REQ (R267): A SLEEP_REQ message requests or accepts a coordinated sleep. -/
def execSleepReq (x : Carrier) (r : SleepRequest) (s : State) : Result :=
  endsIn s <|
    match r with
    | .received m => switchReport (receiveMessage x tSleepReq m s)
    | .ask state delay =>
      match ownerOf s x with
      | some k => sleepAsk k state delay s
      | none => s

/-- WAKE_MSG (R267): A WAKE message cancels a sleep or reports a resumption. -/
def execWakeMsg (x : Carrier) (r : WakeRequest) (s : State) : Result :=
  endsIn s <|
    match r with
    | .received m => switchReport (receiveMessage x tWake m s)
    | .cancel =>
      match ownerOf s x with
      | some k => sleepCancel k s
      | none => s

/-- TELEMETRY (R256): A TELEMETRY message delivers peer channel values. -/
def execTelemetry (x : Carrier) (r : TelemetryRequest) (s : State) : Result :=
  endsIn s <|
    match r with
    | .received m => switchReport (receiveMessage x tTelemetry m s)
    | .send channels =>
      match ownerOf s x with
      | some k => telemetrySend k channels s
      | none => s

/-- TIME_MSG (R265): A TIME message updates the round-trip measurement of its path. -/
def execTimeMsg (x : Carrier) (m : Message) (s : State) : Result :=
  endsIn s (switchReport (receiveMessage x tTime m s))

/-- REFUSE (R257): A REFUSE message is counted and acted on by its referenced type. -/
def execRefuse (x : Carrier) (m : Message) (s : State) : Result :=
  endsIn s (switchReport (receiveMessage x tRefuse m s))

/-- UNKNOWN_TYPE_MESSAGE (R255): A message of unknown TYPE is acknowledged and discarded. -/
def execUnknownTypeMessage (x : Carrier) (type : BitVec 8) (m : Message) (s : State) : Result :=
  endsIn s (switchReport (receiveMessage x type.toNat m s))

/-- RETX_TIMEOUT (R255): An unacknowledged message's retransmission time expires and it is resent or the session ends.
-/
def execRetxTimeout (k : Carrier) (seqNo : Nat) (s : State) : Result :=
  endsIn s (retxTimeout k seqNo s)

/-- ACK_TIMER (R255): 1 ms after accepting a message with nothing else to send, an ACK is sent. -/
def execAckTimer (k : Carrier) (s : State) : Result :=
  endsIn s (ackTimer k s)

/-- TIME_SEND (R265): Every TIME.PERIOD ms RK1 sends TIME on each INBAND path. -/
def execTimeSend (x : Carrier) (s : State) : Result :=
  endsIn s (timeSend x s)

/-- CSF_TIMESTAMP (R265): The transmit or receive instant of each CSF start is stamped. -/
def execCsfTimestamp (x : Carrier) (receive : Bool) (csf stamp : Nat) (s : State) : Result :=
  endsIn s (keepStamp x receive csf stamp s)

/-- PATH_STATE_CHANGE (R258): A path's state changes among NONE, PILOT and INBAND and sessions form or join. -/
def execPathStateChange (x : Carrier) (s : State) : Result :=
  endsIn s (switchReport (pathMoved x s))

/-- HANDSHAKE_TIMEOUT (R260): 5 s pass in NEGOTIATE or KEYING without KEYED and the session enters FAILED. -/
def execHandshakeTimeout (k : Carrier) (s : State) : Result :=
  endsIn s (handshakeTimeout k s)

/-- FAILED_RETRY (R260): 10 s after FAILED with a path up the session returns to NEGOTIATE. -/
def execFailedRetry (k : Carrier) (s : State) : Result :=
  endsIn s (failedRetry k s)

/-- SESSION_PATHLESS (R260): No path of a session has been up for 1 s and it goes DOWN. -/
def execSessionPathless (k : Carrier) (s : State) : Result :=
  endsIn s (sessionPathless k s)

/-- PCH_MODULATION_CHANGE (R258): At the SYF boundary after an INB_x change the pilot channel modulation stops or
resumes. -/
def execPchModulationChange (x : Carrier) (s : State) : Result :=
  endsIn s (modulationChange x s)

/-- PCH_RX_CLEAR (R258): 1 ms after the peer acknowledges INB_x = 1, RK1 clears PCH_RX. -/
def execPchRxClear (x : Carrier) (s : State) : Result :=
  endsIn s (pchRxClear x s)

/-- STEP_OFFER (R264): The A-end's receive condition holds and it sends STEP up to the next rung. -/
def execStepOffer (x : Carrier) (s : State) : Result :=
  endsIn s (stepOffer x s)

/-- STEP_OFFER_DEADLINE (R264): CSF N − 16 is formed while OFFERED and the step returns to STEADY. -/
def execStepOfferDeadline (x : Carrier) (s : State) : Result :=
  endsIn s (offerDeadline x s)

/-- STEP_RESTART (R264): The framer ends CSF N − 1, or the armed receiver loses SYNC, and the carrier restarts in the
new mode. -/
def execStepRestart (x : Carrier) (s : State) : Result :=
  endsIn s (stepRestart x s)

/-- ARMED_LAPSE (R264): An ARMED B-end sees CSF N + 64 in the old mode or a SEQ_JUMP and returns to STEADY. -/
def execArmedLapse (x : Carrier) (jump : Bool) (s : State) : Result :=
  endsIn s (if jump then armedJump x s else armedLapse x s)

/-- STEP_CONFIRMING (R264): The restarted carrier reaches FEC LOCK and SYNC within TIMEOUT and enters CONFIRMING. -/
def execStepConfirming (x : Carrier) (s : State) : Result :=
  endsIn s (stepConfirming x s)

/-- STEP_DONE (R264): SF_HOLD passes without SF in CONFIRMING and the step completes. -/
def execStepDone (x : Carrier) (s : State) : Result :=
  endsIn s (stepDone x s)

/-- FALLBACK (R264): TIMEOUT expires or SF is set and the carrier restarts in the previous rung. -/
def execFallback (x : Carrier) (s : State) : Result :=
  endsIn s (fallback x s)

/-- STEP_DOWN (R264): SF, loss of SYNC or a target change starts an unacknowledged step down. -/
def execStepDown (x : Carrier) (s : State) : Result :=
  endsIn s (stepDown x s)

/-- STEP_BACKOFF_END (R264): The backoff after a fallback expires and the step may be offered again. -/
def execStepBackoffEnd (x : Carrier) (s : State) : Result :=
  endsIn s (backoffEnd x s)

/-- SLEEP_DELAY_EXPIRY (R267): DELAY ms after an accepted SLEEP_REQ the device requests the agreed state. -/
def execSleepDelayExpiry (s : State) : Result :=
  endsIn s (sleepDue s)

/-- KQ_ERASE (R254): 10 s after the first message accepted under epoch e + 1, the receiver erases KQ(e) and stops
accepting MACs under it. -/
def execKqErase (k : Carrier) (s : State) : Result :=
  endsIn s (eraseOldKq k s)

end Sys2Proof.Machine
end

