-- ==== Sys2Proof/Machine/RouteCommands.lean ====
section
/-! DEFINITION. Machine/RouteCommands.lean: the commands of route protection, the optics front end, telemetry and Cast
(chapters 11 to 13): route protection, optics, telemetry, tap detection, Cast. -/
namespace Sys2Proof.Machine

open Sys2Proof (Byte Word Carrier PerCarrier Origin Page Instr)

/-- RPS_OUTPUT_INSTANT (R276): At each output instant the selector delivers the ACTIVE copy, the other copy or error
control blocks. -/
def execRpsOutputInstant (s : State) : Result :=
  endsIn s (outputInstant s)

/-- RPS_PAIR_STATE (R277): Matching, absence or lateness of copies changes the pair state. -/
def execRpsPairState (s : State) : Result :=
  endsIn s (pairStep s)

/-- REALIGN (R275): The pair in DRIFT has APPLIED raised, pausing the output for the added LFs. -/
def execRealign (s : State) : Result :=
  endsIn s (realignDrift s)

/-- RPS_CMD_REALIGN (R277): A write of REALIGN to RPS.CMD realigns a DRIFT pair. -/
def execRpsCmdRealign (o : Origin) (s : State) : Result :=
  endsIn s (fieldWrite o .rps RPS.CMD.REALIGN 1 [] s)

/-- RPS_CMD_MANUAL (R278): A manual command selects ACTIVE or starts a 1:1 switch request. -/
def execRpsCmdManual (o : Origin) (route : Fin 2) (s : State) : Result :=
  endsIn s (wordWrite o .rps RPS.CMD.CMD.off (routeCommand 1 route.val) s)

/-- RPS_CMD_FORCED (R278): A forced command holds ACTIVE or the 1:1 route whatever the failures. -/
def execRpsCmdForced (o : Origin) (route : Fin 2) (s : State) : Result :=
  endsIn s (wordWrite o .rps RPS.CMD.CMD.off (routeCommand 2 route.val) s)

/-- RPS_CMD_CLEAR (R278): A clear command releases a forced or manual selection. -/
def execRpsCmdClear (o : Origin) (route : Fin 2) (s : State) : Result :=
  endsIn s (wordWrite o .rps RPS.CMD.CMD.off (routeCommand 3 route.val) s)

/-- RPS_SF_HOLDOFF (R278): The ACTIVE carrier has held SF for HOLDOFF ms and ACTIVE moves. -/
def execRpsSfHoldoff (s : State) : Result :=
  endsIn s (sfHoldoff s)

/-- WTR_EXPIRY (R278): The wait-to-restore time ends and ACTIVE reverts to PRIMARY. -/
def execWtrExpiry (s : State) : Result :=
  endsIn s (wtrExpiry s)

/-- RPS_DRAM_ON (R274): The on-die store cannot hold the pair and delay moves to LPDDR5X. -/
def execRpsDramOn (s : State) : Result :=
  endsIn s (dramFollow s)

/-- SW_REQUEST (R283): A command, SF or loss of SYNC on the working carrier for HOLDOFF sends a 1:1 switch request. -/
def execSwRequest (s : State) : Result :=
  endsIn s (switchOnFailure s)

/-- SW_REQUEST_DEADLINE (R283): CSF N − 16 is formed before the accept and the request lapses. -/
def execSwRequestDeadline (s : State) : Result :=
  endsIn s (switchDeadline s)

/-- SW_TOGGLE (R283): The framer ends CSF N − 1 and ROUTESEL_x is toggled to the new route. -/
def execSwToggle (s : State) : Result :=
  endsIn s (switchToggle s)

/-- SW_SETTLE_EXPIRY (R283): SW_SETTLE ms after the toggle the equaliser acquisition is restarted. -/
def execSwSettleExpiry (s : State) : Result :=
  endsIn s (switchSettled s)

/-- SW_DONE (R283): The working carrier regains frame SYNC after a switch and the hit is recorded. -/
def execSwDone (hitUs : Nat) (s : State) : Result :=
  endsIn s (switchDone hitUs s)

/-- SW_UNILATERAL (R283): No frame SYNC within the timer, so the device toggles the route alone. -/
def execSwUnilateral (s : State) : Result :=
  endsIn s (switchUnilateral s)

/-- FES_EN (R291): A write of FES.CTL_x.EN enables the carrier out of DARK or returns it to DARK. -/
def execFesEn (o : Origin) (c : Carrier) (en : Bool) (s : State) : Result :=
  endsIn s (fieldWrite o .fes (fesEn c) (bit en) [] s)

/-- MODULE_READY (R291): The module reports ModuleReady after reset release, or times out to FAULT. -/
def execModuleReady (c : Carrier) (outcome : Fin 3) (s : State) : Result :=
  endsIn s (moduleReady c outcome.val s)

/-- TUNE (R291): A TUNE strobe or AUTO starts laser tuning. -/
def execTune (o : Origin) (c : Carrier) (s : State) : Result :=
  endsIn s (fieldWrite o .fes (pick c FES.CTL_A.TUNE FES.CTL_B.TUNE) 1 [] s)

/-- WAVELENGTH_LOCK (R291): The module reports wavelength lock and the carrier enters TUNED. -/
def execWavelengthLock (c : Carrier) (outcome : Fin 3) (s : State) : Result :=
  endsIn s (wavelengthLock c outcome.val s)

/-- TX_READY_ENTRY (R291): TXP_x and all LTXn run and the carrier enters TX_READY, writing the driver codes. -/
def execTxReadyEntry (c : Carrier) (s : State) : Result :=
  endsIn s (txReadyEntry c s)

/-- TX_REQ (R293): A transmit enable is applied, held or refused. -/
def execTxReq (o : Origin) (c : Carrier) (s : State) : Result :=
  endsIn s (fieldWrite o .fes (pick c FES.CTL_A.TX_REQ FES.CTL_B.TX_REQ) 1 [] s)

/-- TX_HOLD_RELEASE (R293): The last hold cause of a held enable clears and the enable is applied. -/
def execTxHoldRelease (c : Carrier) (s : State) : Result :=
  endsIn s (txHoldRelease c s)

/-- TX_HOLD_TIMEOUT (R293): TXHOLD.MAX elapses on a held enable and it is refused. -/
def execTxHoldTimeout (c : Carrier) (s : State) : Result :=
  endsIn s (txHoldTimeout c s)

/-- TX_OFF (R291): A TX_OFF strobe disables output and cancels a held enable. -/
def execTxOff (o : Origin) (c : Carrier) (s : State) : Result :=
  endsIn s (fieldWrite o .fes (pick c FES.CTL_A.TX_OFF FES.CTL_B.TX_OFF) 1 [] s)

/-- CLR_FAULT (R291): A CLR_FAULT strobe returns a FAULT carrier to DARK. -/
def execClrFault (o : Origin) (c : Carrier) (s : State) : Result :=
  endsIn s (fieldWrite o .fes (pick c FES.CTL_A.CLR_FAULT FES.CTL_B.CLR_FAULT) 1 [] s)

/-- LOS_READING (R305): A receive-power monitor reading sets or clears LOS after two readings. -/
def execLosReading (c : Carrier) (code : Nat) (s : State) : Result :=
  endsIn s (fesFollowBoth (losReading c code s))

/-- FES_FAULT (R292): A module or CMIS failure moves the carrier to FAULT. -/
def execFesFault (c : Carrier) (cause : Nat) (s : State) : Result :=
  endsIn s (fesCause c cause s)

/-- SAFETY_HOLD_STATE (R291): A Plinth safety hold moves the carrier to SAFE, and its release returns it. -/
def execSafetyHoldState (c : Carrier) (s : State) : Result :=
  endsIn s (safetyFollow c s)

/-- FO_MARGIN (R296): |FO_EST| above 3.0 GHz for 1 s while LOCKED raises FO_MARGIN. -/
def execFoMargin (c : Carrier) (s : State) : Result :=
  endsIn s (foMargin c s)

/-- TIA_GAIN_STEP (R297): After DWELL the outer gain loop judges each polarisation and steps the TIA gain. -/
def execTiaGainStep (c : Carrier) (y : Bool) (s : State) : Result :=
  endsIn s (tiaJudge c y s)

/-- CMIS_GO (R301): A GO to FES.CMIS_CMD performs one CMIS read or write transaction. -/
def execCmisGo (o : Origin) (w : Word) (readings : List Int) (s : State) : Result :=
  endsIn s (busWrite o (pageBase .fes + FES.CMIS_CMD.GO.off) (overlay w FES.CMIS_CMD.GO 1) readings s)

/-- CMIS_FLAG_POLL (R300): MOD_INT_N assertion or the 100 ms timer makes FES read the module flags. -/
def execCmisFlagPoll (c : Carrier) (asserted : Bool) (modState : Nat) (lock settling laserFault : Bool) (s : State) :
    Result :=
  endsIn s (cmisPoll c asserted modState lock settling laserFault s)

/-- SYN_UNLOCK (R303): A running synthesiser loses lock, clears LOCK and raises UNLOCK. -/
def execSynUnlock (n : Fin 3) (s : State) : Result :=
  endsIn s (synUnlock n s)

/-- SYN_RELOCK (R303): A synthesiser locks again and raises LOCK, or records a fault if late. -/
def execSynRelock (n : Fin 3) (locked : Bool) (band : Int × Int) (s : State) : Result :=
  endsIn s (synRelock n locked band s)

/-- RK6 names the rules that have fired and are not in alarm yet in a TAP_RAISE write, while the carrier is ARMED or in ALARM (R314,
R315). -/
def tapRaiseDue (c : Carrier) (s : State) : State :=
  let x := tapWatch s c
  let fresh := x.fired &&& (0x1F ^^^ s.get .tel (tapRulesF c))
  if x.fired = 0 then s
  else
    let s := putTap s c { x with fired := 0 }
    if fresh = 0 || !(tapState s c == tapArmed || tapState s c == tapAlarm) then s
    else wordWrite (.rk 6) .tel TEL.TAP_RAISE.RULES.off
      (overlay (overlay 0 TEL.TAP_RAISE.CARRIER c.idx) TEL.TAP_RAISE.RULES fresh) s

/-- TEL_TICK (R310): Every 1.024 µs each channel samples its source and feeds its filter. -/
def execTelTick (inputs : TelInputs) (s : State) : Result :=
  endsIn s (tapRaiseDue .b (tapRaiseDue .a (telTick inputs (telTickBoundary s))))

/-- TEL_OUTPUT (R311): A channel's decimator yields an output, flagged INVALID or OVR as applicable. -/
def execTelOutput (n : Fin 64) (s : State) : Result :=
  endsIn s (tapRaiseDue .b (tapRaiseDue .a (telOutput n.val (telBoundary n s))))

/-- TEL_SYNC (R312): A SYNC edge, SYNC write, start or wake resets all decimators on the next tick. -/
def execTelSync (o : Option Origin) (s : State) : Result :=
  endsIn s <|
    match o with
    | some o => fieldWrite o .tel TEL.CTL.SYNC 1 [] s
    | none => telSyncPin s

/-- LEARN (R315): A LEARN strobe starts learning a signature or is refused. -/
def execLearn (o : Origin) (c : Carrier) (s : State) : Result :=
  endsIn s (fieldWrite o .tel (tapLearnF c) 1 [] s)

/-- LEARN_DONE (R315): LEARN_S seconds of valid outputs are collected and the signature stored. -/
def execLearnDone (c : Carrier) (s : State) : Result :=
  endsIn s (learnDone c s)

/-- TAP_ARM (R315): A write of ARM_x arms or disarms tap detection. -/
def execTapArm (o : Origin) (c : Carrier) (arm : Bool) (s : State) : Result :=
  endsIn s (fieldWrite o .tel (tapArmF c) (bit arm) [] s)

/-- TAP_ACK (R315): An ACK strobe returns an ALARM carrier to ARMED. -/
def execTapAck (o : Origin) (c : Carrier) (s : State) : Result :=
  endsIn s (fieldWrite o .tel (tapAckF c) 1 [] s)

/-- TAP_RAISE (R316): A write to TEL.TAP_RAISE from RK6 raises a tap alarm and triggers Cast. -/
def execTapRaise (o : Origin) (c : Carrier) (rules : BitVec 5) (s : State) : Result :=
  endsIn s (wordWrite o .tel TEL.TAP_RAISE.RULES.off (overlay (overlay 0 TEL.TAP_RAISE.CARRIER c.idx) TEL.TAP_RAISE.RULES
    rules.toNat) s)

/-- RING_DROP (R319): The Archive cannot take a ring block in time and it is dropped. -/
def execRingDrop (s : State) : Result :=
  endsIn s (ringDrop s)

/-- CAST_TRIGGER (R321): A trigger opens, extends, is held or is ignored by the window state. -/
def execCastTrigger (b : Fin 11) (s : State) : Result :=
  endsIn s (castArrives b.val s)

/-- CAST_SW_TRIG (R320): A write of TRIG to CAST.CTL gives one software trigger. -/
def execCastSwTrig (o : Origin) (s : State) : Result :=
  endsIn s (fieldWrite o .cast CAST.CTL.TRIG 1 [] s)

/-- CAST_HELD_TRIGGER (R321): COMMIT clears with RK7 running and the held trigger opens a window. -/
def execCastHeldTrigger (s : State) : Result :=
  endsIn s (castHeld s)

/-- CAST_WINDOW_END (R321): The window end is reached and the active buffer is frozen for commit. -/
def execCastWindowEnd (s : State) : Result :=
  endsIn s (castWindowEnd s)

/-- CAST_COMMIT (R324): RK7 finishes writing a window and the Plinth signs it, advancing the Cast chain. -/
def execCastCommit (s : State) : Result :=
  endsIn s (castCommit s)

/-- SNAPSHOT_END (R322): SNAP.US µs after it started, a raw snapshot ends and the armed lanes stop capturing. -/
def execSnapshotEnd (s : State) : Result :=
  endsIn s (snapshotEnd s)

end Sys2Proof.Machine
end

