-- ==== Sys2Proof/Machine/ClientCommands.lean ====
section
/-! DEFINITION. Machine/ClientCommands.lean: the commands of the client side, the serial lanes and the host link
(chapters 14, 15): client ports, serial lanes, host link, mailbox. -/
namespace Sys2Proof.Machine

open Sys2Proof (Byte Word Carrier PerCarrier Origin Page Instr)

/-- IDLE_DELETE (R335): A faster port deletes idle characters to keep pace with the calendar. -/
def execIdleDelete (c : Carrier) (q : Fin 4) (s : State) : Result :=
  endsIn s (if ingressAhead s c q.val then idleCount c q.val 0 1 s else s)

/-- IDLE_INSERT (R338): An egress port inserts or deletes idle characters to match the arriving stream. -/
def execIdleInsert (c : Carrier) (q : Fin 4) (inserted deleted : Nat) (s : State) : Result :=
  endsIn s (idleCount c q.val inserted deleted s)

/-- INGRESS_PORT_STATE (R339): A port's ingress conditions are lost or have held for 1 ms, changing UP or DOWN. -/
def execIngressPortState (c : Carrier) (q : Fin 4) (up hiBer : Bool) (s : State) : Result :=
  endsIn s (ingressState c q.val up hiBer s)

/-- EGRESS_PORT_STATE (R340): Received blocks move a port's egress state among DATA and ERROR. -/
def execEgressPortState (c : Carrier) (q : Fin 4) (n : Nat) (s : State) : Result :=
  endsIn s (egressSend c q.val n (pageBoundary (.cpc c) s))

/-- EGRESS_FAULT_HOLD (R340): FAULT_HOLD elapses in ERROR or LOCAL_FAULT and the egress state changes. -/
def execEgressFaultHold (c : Carrier) (q : Fin 4) (s : State) : Result :=
  endsIn s (egressFaultHold c q.val s)

/-- CLX_RX_STATE (R347): Signal detection, CDR lock, adaptation or their loss move a client lane's receive state. -/
def execClxRxState (n : Fin 16) (e : ClxEvent) (s : State) : Result :=
  endsIn s (clxReceive n e s)

/-- CLX_RX_TIMEOUT (R347): CDR lock or adaptation misses its bound and the lane returns to IDLE. -/
def execClxRxTimeout (n : Fin 16) (s : State) : Result :=
  endsIn s (clxTimeout n s)

/-- EI_EXIT (R348): The electrical-idle detector sees signal above 150 mVppd. -/
def execEiExit (n : Fin 16) (s : State) : Result :=
  endsIn s (if clxDetector s n && s.flag (.clx n) CLX.CTL.EI_WAKE then wake 4 (clxEiExit n s) else clxEiExit n s)

/-- CHK_BIT_COMPARE (R350): The pattern checker compares received bits, gaining or losing sync. -/
def execChkBitCompare (n : Fin 16) (bit : Bool) (s : State) : Result :=
  endsIn s (checkerBit n bit (pageBoundary (.clx n) s))

/-- CLX_INJECT_SINGLE (R351): A SINGLE strobe to CLXn.INJ_CTL inverts one transmitted bit. -/
def execClxInjectSingle (o : Origin) (n : Fin 16) (w : Word) (s : State) : Result :=
  endsIn s (wordWrite o (.clx n) CLX.INJ_CTL.SINGLE.off (overlay w CLX.INJ_CTL.SINGLE 1) s)

/-- CLX_INJECT_PERIODIC (R351): Every 2^RATE_LOG2 bits a periodic inversion is made. -/
def execClxInjectPeriodic (n : Fin 16) (s : State) : Result :=
  endsIn s (clxPeriodic n (pageBoundary (.clx n) s))

/-- EYE_START (R352): A START strobe begins an eye scan or is counted as OVR. -/
def execEyeStart (o : Origin) (lane : Option (Fin 16)) (w : Word) (s : State) : Result :=
  endsIn s <|
    match lane with
    | some n => wordWrite o (.clx n) CLX.EYE_CTL.START.off (overlay w CLX.EYE_CTL.START 1) s
    | none => wordWrite o .hlk HLK.EYE_CTL.START.off (overlay w HLK.EYE_CTL.START 1) s

/-- EYE_DONE (R352): An eye scan ends and its mismatch count is copied. -/
def execEyeDone (lane : EyeLane) (mismatches : Nat) (s : State) : Result :=
  endsIn s (eyeDone lane mismatches s)

/-- EYE_ABANDON (R352): The lane leaves READY or retrains during a scan and it is abandoned. -/
def execEyeAbandon (lane : EyeLane) (s : State) : Result :=
  endsIn s (eyeAbandon lane s)

/-- PERST_RELEASE (R357): PERST_N release starts host link training. -/
def execPerstRelease (s : State) : Result :=
  endsIn s (perstRelease s)

/-- RETRAIN (R358): A RETRAIN strobe forces Recovery and applies pending link settings. -/
def execRetrain (o : Origin) (s : State) : Result :=
  endsIn s (fieldWrite o .hlk HLK.CTL.RETRAIN 1 [] s)

/-- LINK_RECOVERY (R357): The host link enters Recovery or changes rate or width. -/
def execLinkRecovery (rate : Fin 5) (width : Fin 4) (s : State) : Result :=
  endsIn s (hostRecovery (rate.val + 1) (2 ^ width.val) s)

/-- CREDIT_STALL (R360): A transmission waits over 1 ms for host credits. -/
def execCreditStall (s : State) : Result :=
  endsIn s (creditStall s)

/-- CXL_MEM_READ (R364): A CXL.mem read of the HDM window is served, poisoned or zero-filled. -/
def execCxlMemRead (off : Nat) (s : State) : Result :=
  match hdmRead off s with
  | some t => endsIn s t
  | none => .fault .outsideHdm

/-- CXL_MEM_WRITE (R364): A CXL.mem write is applied to host memory or dropped. -/
def execCxlMemWrite (off : Nat) (bytes : List Byte) (s : State) : Result :=
  match hdmWrite off bytes s with
  | some t => endsIn s t
  | none => .fault .outsideHdm

/-- GET_EVENT_RECORDS (R366): Mailbox 0x0100 returns CXL event records. -/
def execGetEventRecords (log : Fin 4) (s : State) : Result :=
  endsIn s (getEventRecords log s)

/-- CLEAR_EVENT_RECORDS (R366): Mailbox 0x0101 clears CXL event records. -/
def execClearEventRecords (log : Fin 4) (all : Bool) (handles : List Nat) (s : State) : Result :=
  endsIn s (clearEventRecords log all handles s)

/-- GET_EVENT_INTERRUPT_POLICY (R366): Mailbox 0x0102 reports the event interrupt vector. -/
def execGetEventInterruptPolicy (s : State) : Result :=
  endsIn s (getEventPolicy s)

/-- SET_EVENT_INTERRUPT_POLICY (R366): Mailbox 0x0103 sets the event interrupt policy. -/
def execSetEventInterruptPolicy (info warning failure fatal : Nat) (s : State) : Result :=
  endsIn s (setEventPolicy (fun i => [info, warning, failure, fatal].getD i.val 0) s)

/-- GET_FW_INFO (R366): Mailbox 0x0200 reports the two firmware slots. -/
def execGetFwInfo (s : State) : Result :=
  endsIn s (getFwInfo s)

/-- TRANSFER_FW (R446): Mailbox 0x0201 writes a firmware bundle to the inactive slot. -/
def execTransferFw (slot : Fin 2) (offset : Nat) (data : List Byte) (last : Bool) (s : State) : Result :=
  endsIn s (transferFw slot offset data last s)

/-- ACTIVATE_FW (R555): Mailbox 0x0202 verifies a slot and activates it online or at next reset. -/
def execActivateFw (slot : Fin 2) (online : Bool) (s : State) : Result :=
  endsIn s (activateFw slot online s)

/-- GET_TIMESTAMP (R366): Mailbox 0x0300 returns the time base. -/
def execGetTimestamp (s : State) : Result :=
  endsIn s (getTimestamp s)

/-- SET_TIMESTAMP (R366): Mailbox 0x0301 sets the time base and appends a TB_SET marker. -/
def execSetTimestamp (ns : BitVec 64) (s : State) : Result :=
  endsIn s (setTimestamp ns s)

/-- GET_SUPPORTED_LOGS (R366): Mailbox 0x0400 lists the supported logs. -/
def execGetSupportedLogs (s : State) : Result :=
  endsIn s (getSupportedLogs s)

/-- GET_LOG (R366): Mailbox 0x0401 returns the Command Effects Log. -/
def execGetLog (effects : Bool) (s : State) : Result :=
  endsIn s (getLog effects s)

/-- IDENTIFY_MEMORY_DEVICE (R366): Mailbox 0x4000 reports 32 GiB volatile capacity. -/
def execIdentifyMemoryDevice (s : State) : Result :=
  endsIn s (identifyMemory s)

/-- GET_HEALTH_INFO (R366): Mailbox 0x4200 returns health information. -/
def execGetHealthInfo (s : State) : Result :=
  endsIn s (getHealth s)

/-- SUBMIT_CAPSULE_CMD (R366): Vendor command 0xC000 delivers a capsule to the Plinth. -/
def execSubmitCapsuleCmd (capsule : List Byte) (s : State) : Result :=
  endsIn s (submitCapsuleCmd capsule s)

/-- GET_CAPSULE_RESULT (R366): Vendor command 0xC001 returns the last capsule result. -/
def execGetCapsuleResult (input : List Byte) (s : State) : Result :=
  endsIn s (vendorRequest 0xC001 input getResult s)

/-- GET_ATTESTATION_REPORT (R366): Vendor command 0xC002 returns a signed attestation report for a nonce. -/
def execGetAttestationReport (input : List Byte) (s : State) : Result :=
  endsIn s (vendorRequest 0xC002 input getAttest s)

/-- GET_JOURNAL_SIGNATURE (R366): Vendor command 0xC003 returns the signature of a signed journal head. -/
def execGetJournalSignature (input : List Byte) (s : State) : Result :=
  endsIn s (vendorRequest 0xC003 input getJournalSig s)

/-- READ_ARCHIVE_OBJECT (R366): Vendor command 0xC004 copies an Archive object into log staging. -/
def execReadArchiveObject (object : ArchiveObject) (s : State) : Result :=
  endsIn s (readArchive object s)

/-- GET_DEVICE_CERTIFICATE (R366): Vendor command 0xC005 returns the device certificate. -/
def execGetDeviceCertificate (input : List Byte) (s : State) : Result :=
  endsIn s (vendorRequest 0xC005 input getCert s)

/-- UNSUPPORTED_OPCODE (R366): An unlisted mailbox opcode returns Unsupported. -/
def execUnsupportedOpcode (s : State) : Result :=
  endsIn s (unsupportedOpcode s)

/-- MBOX_BACKGROUND_DONE (R365): A background mailbox command completes and MBOX_DONE is raised. -/
def execMboxBackgroundDone (s : State) : Result :=
  endsIn s (mboxBackgroundDone s)

/-- IDE_KEY_CHANGE (R368): IDE_KM over SPDM changes IO_SECURE or MEM_SECURE. -/
def execIdeKeyChange (io mem : Bool) (s : State) : Result :=
  endsIn s (ideChange io mem s)

/-- PERST_N_ASSERT (R551): PERST_N asserted resets the host link's PHY and link layers only, taking the link down. -/
def execPerstNAssert (s : State) : Result :=
  endsIn s (perstAssert s)

/-- HOST_LINK_UP (R357): Host link training completes, the link comes up at the negotiated rate and width, and LINK_UP
is raised. -/
def execHostLinkUp (rate : Fin 5) (width : Fin 4) (mem : Bool) (s : State) : Result :=
  endsIn s (hostLinkUp (rate.val + 1) (2 ^ width.val) mem s)

/-- LANE_MARGINING_COMMAND (R352): A PCIe Lane Margining at the Receiver command from the host uses the lane's offset
sampler, or is answered busy while a scan runs. -/
def execLaneMarginingCommand (lane : Fin 8) (begins : Bool) (s : State) : Result :=
  endsIn s (laneMargin lane begins s)

/-- MSIX_UNMASK (R367): The host unmasks an MSI-X vector or the function whose pending bit is set, and the held
message is sent. -/
def execMsixUnmask (vector : Option (Fin 64)) (s : State) : Result :=
  endsIn s <|
    match vector with
    | some v => unmaskVector s v.val
    | none => unmaskFunction s

end Sys2Proof.Machine
end

