-- ==== Sys2Proof/Machine/CoreCommands.lean ====
section
/-! DEFINITION. Machine/CoreCommands.lean: the commands of the Reckoner cores and the Tally counters (chapters 16,
17): bundles, slot words, traps, DMA, loading, debug, counters. -/
namespace Sys2Proof.Machine

open Sys2Proof (Byte Word Carrier PerCarrier Origin Page Instr)

/-- BUNDLE_ISSUE (R376): A Reckoner core issues one 128-bit bundle of four slot words. -/
def execBundleIssue (n : Fin 8) (s : State) : Result :=
  endsIn s (bundleIssue n s)

/-- NOP (R376): The zero slot word does nothing. -/
def execNop (n : Fin 8) (s : State) : Result :=
  endsIn s (settle (issueBundle n ⟨0, 0, 0, 0⟩ s))

/-- MPY (R378): MPY sets both accumulators of a pair to lane products. -/
def execMpy (n : Fin 8) (slot1 : Bool) (x a b sh : Fin 32) (s : State) : Result :=
  endsIn s (issueMac n slot1 (formatM 0x01 x.val a.val b.val sh.val) s)

/-- MAC (R378): MAC adds lane products to a pair of accumulators. -/
def execMac (n : Fin 8) (slot1 : Bool) (x a b sh : Fin 32) (s : State) : Result :=
  endsIn s (issueMac n slot1 (formatM 0x02 x.val a.val b.val sh.val) s)

/-- MSU (R378): MSU subtracts lane products from a pair of accumulators. -/
def execMsu (n : Fin 8) (slot1 : Bool) (x a b sh : Fin 32) (s : State) : Result :=
  endsIn s (issueMac n slot1 (formatM 0x03 x.val a.val b.val sh.val) s)

/-- CMPY (R378): CMPY sets a pair to a complex product. -/
def execCmpy (n : Fin 8) (slot1 : Bool) (x a b sh : Fin 32) (s : State) : Result :=
  endsIn s (issueMac n slot1 (formatM 0x04 x.val a.val b.val sh.val) s)

/-- CMAC (R378): CMAC adds a complex product to a pair. -/
def execCmac (n : Fin 8) (slot1 : Bool) (x a b sh : Fin 32) (s : State) : Result :=
  endsIn s (issueMac n slot1 (formatM 0x05 x.val a.val b.val sh.val) s)

/-- CMACJ (R378): CMACJ adds a product with the conjugate of B to a pair. -/
def execCmacj (n : Fin 8) (slot1 : Bool) (x a b sh : Fin 32) (s : State) : Result :=
  endsIn s (issueMac n slot1 (formatM 0x06 x.val a.val b.val sh.val) s)

/-- EXT (R382): EXT rounds and saturates a pair into two 16-bit lanes. -/
def execExt (n : Fin 8) (slot1 : Bool) (x a b sh : Fin 32) (s : State) : Result :=
  endsIn s (issueMac n slot1 (formatM 0x07 x.val a.val b.val sh.val) s)

/-- ACLR (R378): ACLR clears a pair and its SATD bits. -/
def execAclr (n : Fin 8) (slot1 : Bool) (x a b sh : Fin 32) (s : State) : Result :=
  endsIn s (issueMac n slot1 (formatM 0x08 x.val a.val b.val sh.val) s)

/-- AMOV (R378): AMOV loads a pair from two D registers. -/
def execAmov (n : Fin 8) (slot1 : Bool) (x a b sh : Fin 32) (s : State) : Result :=
  endsIn s (issueMac n slot1 (formatM 0x09 x.val a.val b.val sh.val) s)

/-- ARDL (R378): ARDL reads the low 32 bits of an accumulator. -/
def execArdl (n : Fin 8) (slot1 : Bool) (x a b sh : Fin 32) (s : State) : Result :=
  endsIn s (issueMac n slot1 (formatM 0x0A x.val a.val b.val sh.val) s)

/-- ARDH (R378): ARDH reads the high bits of an accumulator. -/
def execArdh (n : Fin 8) (slot1 : Bool) (x a b sh : Fin 32) (s : State) : Result :=
  endsIn s (issueMac n slot1 (formatM 0x0B x.val a.val b.val sh.val) s)

/-- ASHL (R378): ASHL shifts a pair left, setting ACCV on overflow. -/
def execAshl (n : Fin 8) (slot1 : Bool) (x a b sh : Fin 32) (s : State) : Result :=
  endsIn s (issueMac n slot1 (formatM 0x0C x.val a.val b.val sh.val) s)

/-- ASHR (R378): ASHR shifts a pair right arithmetically. -/
def execAshr (n : Fin 8) (slot1 : Bool) (x a b sh : Fin 32) (s : State) : Result :=
  endsIn s (issueMac n slot1 (formatM 0x0D x.val a.val b.val sh.val) s)

/-- ACS (R386): ACS performs four add-compare-select butterflies and updates the traceback register. -/
def execAcs (n : Fin 8) (slot1 : Bool) (x a b sh : Fin 32) (s : State) : Result :=
  endsIn s (issueMac n slot1 (formatM 0x0E x.val a.val b.val sh.val) s)

/-- ADD2 (R378): ADD2 adds per 16-bit lane, wrapping. -/
def execAdd2 (n : Fin 8) (slot1 : Bool) (x a b sh : Fin 32) (s : State) : Result :=
  endsIn s (issueMac n slot1 (formatM 0x10 x.val a.val b.val sh.val) s)

/-- ADDS2 (R378): ADDS2 adds per lane with saturation. -/
def execAdds2 (n : Fin 8) (slot1 : Bool) (x a b sh : Fin 32) (s : State) : Result :=
  endsIn s (issueMac n slot1 (formatM 0x11 x.val a.val b.val sh.val) s)

/-- SUB2 (R378): SUB2 subtracts per lane, wrapping. -/
def execSub2 (n : Fin 8) (slot1 : Bool) (x a b sh : Fin 32) (s : State) : Result :=
  endsIn s (issueMac n slot1 (formatM 0x12 x.val a.val b.val sh.val) s)

/-- SUBS2 (R378): SUBS2 subtracts per lane with saturation. -/
def execSubs2 (n : Fin 8) (slot1 : Bool) (x a b sh : Fin 32) (s : State) : Result :=
  endsIn s (issueMac n slot1 (formatM 0x13 x.val a.val b.val sh.val) s)

/-- ADD (R378): ADD adds 32-bit values. -/
def execAdd (n : Fin 8) (slot1 : Bool) (x a b sh : Fin 32) (s : State) : Result :=
  endsIn s (issueMac n slot1 (formatM 0x14 x.val a.val b.val sh.val) s)

/-- SUB (R378): SUB subtracts 32-bit values. -/
def execSub (n : Fin 8) (slot1 : Bool) (x a b sh : Fin 32) (s : State) : Result :=
  endsIn s (issueMac n slot1 (formatM 0x15 x.val a.val b.val sh.val) s)

/-- AND (R378): AND forms a bitwise and. -/
def execAnd (n : Fin 8) (slot1 : Bool) (x a b sh : Fin 32) (s : State) : Result :=
  endsIn s (issueMac n slot1 (formatM 0x16 x.val a.val b.val sh.val) s)

/-- OR (R378): OR forms a bitwise or. -/
def execOr (n : Fin 8) (slot1 : Bool) (x a b sh : Fin 32) (s : State) : Result :=
  endsIn s (issueMac n slot1 (formatM 0x17 x.val a.val b.val sh.val) s)

/-- XOR (R378): XOR forms a bitwise exclusive or. -/
def execXor (n : Fin 8) (slot1 : Bool) (x a b sh : Fin 32) (s : State) : Result :=
  endsIn s (issueMac n slot1 (formatM 0x18 x.val a.val b.val sh.val) s)

/-- SHL (R378): SHL shifts left. -/
def execShl (n : Fin 8) (slot1 : Bool) (x a b sh : Fin 32) (s : State) : Result :=
  endsIn s (issueMac n slot1 (formatM 0x19 x.val a.val b.val sh.val) s)

/-- SHR (R378): SHR shifts right logically. -/
def execShr (n : Fin 8) (slot1 : Bool) (x a b sh : Fin 32) (s : State) : Result :=
  endsIn s (issueMac n slot1 (formatM 0x1A x.val a.val b.val sh.val) s)

/-- ASR (R378): ASR shifts right arithmetically. -/
def execAsr (n : Fin 8) (slot1 : Bool) (x a b sh : Fin 32) (s : State) : Result :=
  endsIn s (issueMac n slot1 (formatM 0x1B x.val a.val b.val sh.val) s)

/-- MIN2 (R378): MIN2 takes the per-lane signed minimum. -/
def execMin2 (n : Fin 8) (slot1 : Bool) (x a b sh : Fin 32) (s : State) : Result :=
  endsIn s (issueMac n slot1 (formatM 0x1C x.val a.val b.val sh.val) s)

/-- MAX2 (R378): MAX2 takes the per-lane signed maximum. -/
def execMax2 (n : Fin 8) (slot1 : Bool) (x a b sh : Fin 32) (s : State) : Result :=
  endsIn s (issueMac n slot1 (formatM 0x1D x.val a.val b.val sh.val) s)

/-- MOVI (R378): MOVI loads a sign-extended immediate. -/
def execMovi (n : Fin 8) (slot1 : Bool) (x : Fin 32) (imm : BitVec 16) (s : State) : Result :=
  endsIn s (issueMac n slot1 (formatI 0x1E x.val imm.toNat) s)

/-- MOVHI (R378): MOVHI loads the upper half with an immediate. -/
def execMovhi (n : Fin 8) (slot1 : Bool) (x : Fin 32) (imm : BitVec 16) (s : State) : Result :=
  endsIn s (issueMac n slot1 (formatI 0x1F x.val imm.toNat) s)

/-- SLT (R378): SLT sets 1 if A is less than B. -/
def execSlt (n : Fin 8) (slot1 : Bool) (x a b sh : Fin 32) (s : State) : Result :=
  endsIn s (issueMac n slot1 (formatM 0x20 x.val a.val b.val sh.val) s)

/-- SEQ (R378): SEQ sets 1 if A equals B. -/
def execSeq (n : Fin 8) (slot1 : Bool) (x a b sh : Fin 32) (s : State) : Result :=
  endsIn s (issueMac n slot1 (formatM 0x21 x.val a.val b.val sh.val) s)

/-- LDH (R378): LDH loads a sign-extended halfword. -/
def execLdh (n : Fin 8) (d : Fin 32) (an : Fin 8) (mode : Fin 4) (ofs : BitVec 16) (s : State) : Result :=
  endsIn s (issueLs n (formatL 0x01 d.val an.val mode.val ofs) s)

/-- LDW (R378): LDW loads a word, from DSRAM or the register window. -/
def execLdw (n : Fin 8) (d : Fin 32) (an : Fin 8) (mode : Fin 4) (ofs : BitVec 16) (s : State) : Result :=
  endsIn s (issueLs n (formatL 0x02 d.val an.val mode.val ofs) s)

/-- LDD (R378): LDD loads a doubleword into a register pair. -/
def execLdd (n : Fin 8) (d : Fin 32) (an : Fin 8) (mode : Fin 4) (ofs : BitVec 16) (s : State) : Result :=
  endsIn s (issueLs n (formatL 0x03 d.val an.val mode.val ofs) s)

/-- STH (R378): STH stores a halfword. -/
def execSth (n : Fin 8) (d : Fin 32) (an : Fin 8) (mode : Fin 4) (ofs : BitVec 16) (s : State) : Result :=
  endsIn s (issueLs n (formatL 0x04 d.val an.val mode.val ofs) s)

/-- STW (R378): STW stores a word, to DSRAM or the register window. -/
def execStw (n : Fin 8) (d : Fin 32) (an : Fin 8) (mode : Fin 4) (ofs : BitVec 16) (s : State) : Result :=
  endsIn s (issueLs n (formatL 0x05 d.val an.val mode.val ofs) s)

/-- STD (R378): STD stores a register pair. -/
def execStd (n : Fin 8) (d : Fin 32) (an : Fin 8) (mode : Fin 4) (ofs : BitVec 16) (s : State) : Result :=
  endsIn s (issueLs n (formatL 0x06 d.val an.val mode.val ofs) s)

/-- MOVA (R378): MOVA sets an address register. -/
def execMova (n : Fin 8) (d : Fin 32) (an : Fin 8) (s : State) : Result :=
  endsIn s (issueLs n (formatL 0x09 d.val an.val 0 0) s)

/-- MOVDA (R378): MOVDA copies an address register to D. -/
def execMovda (n : Fin 8) (d : Fin 32) (an : Fin 8) (s : State) : Result :=
  endsIn s (issueLs n (formatL 0x0A d.val an.val 0 0) s)

/-- SETB (R378): SETB sets a circular base register. -/
def execSetb (n : Fin 8) (d : Fin 32) (an : Fin 8) (s : State) : Result :=
  endsIn s (issueLs n (formatL 0x0B d.val an.val 0 0) s)

/-- SETL (R378): SETL sets a circular length register. -/
def execSetl (n : Fin 8) (d : Fin 32) (an : Fin 8) (s : State) : Result :=
  endsIn s (issueLs n (formatL 0x0C d.val an.val 0 0) s)

/-- SETM (R378): SETM sets a modify register on RK0 and RK1. -/
def execSetm (n : Fin 8) (d : Fin 32) (k : Fin 4) (s : State) : Result :=
  endsIn s (issueLs n (formatL 0x0D d.val 0 0 (BitVec.ofNat 16 k.val)) s)

/-- ADDA (R384): ADDA adds D to an address register under circular rules. -/
def execAdda (n : Fin 8) (d : Fin 32) (an : Fin 8) (s : State) : Result :=
  endsIn s (issueLs n (formatL 0x0F d.val an.val 0 0) s)

/-- BR (R378): BR branches always after two delay slots. -/
def execBr (n : Fin 8) (target : BitVec 14) (s : State) : Result :=
  endsIn s (issueCt n (formatC 0x01 0 0 target.toNat) s)

/-- BZ (R378): BZ branches when D is zero. -/
def execBz (n : Fin 8) (d : Fin 32) (target : BitVec 14) (s : State) : Result :=
  endsIn s (issueCt n (formatC 0x02 d.val 0 target.toNat) s)

/-- BNZ (R378): BNZ branches when D is non-zero. -/
def execBnz (n : Fin 8) (d : Fin 32) (target : BitVec 14) (s : State) : Result :=
  endsIn s (issueCt n (formatC 0x03 d.val 0 target.toNat) s)

/-- BLT (R378): BLT branches when D is negative. -/
def execBlt (n : Fin 8) (d : Fin 32) (target : BitVec 14) (s : State) : Result :=
  endsIn s (issueCt n (formatC 0x04 d.val 0 target.toNat) s)

/-- BGE (R378): BGE branches when D is non-negative. -/
def execBge (n : Fin 8) (d : Fin 32) (target : BitVec 14) (s : State) : Result :=
  endsIn s (issueCt n (formatC 0x05 d.val 0 target.toNat) s)

/-- CALL (R378): CALL sets LINK and branches. -/
def execCall (n : Fin 8) (target : BitVec 14) (s : State) : Result :=
  endsIn s (issueCt n (formatC 0x06 0 0 target.toNat) s)

/-- JR (R378): JR branches to the address in D. -/
def execJr (n : Fin 8) (d : Fin 32) (s : State) : Result :=
  endsIn s (issueCt n (formatC 0x07 d.val 0 0) s)

/-- RET (R378): RET branches to LINK. -/
def execRet (n : Fin 8) (s : State) : Result :=
  endsIn s (issueCt n (formatC 0x08 0 0 0) s)

/-- LOOP (R387): LOOP opens a hardware loop level with a count from D. -/
def execLoop (n : Fin 8) (d : Fin 32) (target : BitVec 14) (s : State) : Result :=
  endsIn s (issueCt n (formatC 0x09 d.val 0 target.toNat) s)

/-- LOOPI (R387): LOOPI opens a hardware loop level with an immediate count. -/
def execLoopi (n : Fin 8) (count : Fin 1024) (target : BitVec 14) (s : State) : Result :=
  endsIn s (issueCt n (formatLoop count.val target.toNat) s)

/-- MOVTC (R375): MOVTC writes a control register. -/
def execMovtc (n : Fin 8) (d idx : Fin 32) (s : State) : Result :=
  endsIn s (issueCt n (formatC 0x0B d.val idx.val 0) s)

/-- MOVFC (R375): MOVFC reads a control register. -/
def execMovfc (n : Fin 8) (d idx : Fin 32) (s : State) : Result :=
  endsIn s (issueCt n (formatC 0x0C d.val idx.val 0) s)

/-- TRAP (R389): TRAP enters the trap vector with cause SYSCALL. -/
def execTrap (n : Fin 8) (code : BitVec 8) (s : State) : Result :=
  endsIn s (issueCt n (formatC 0x0D 0 0 code.toNat) s)

/-- RTI (R388): RTI restores STATUS and resumes at EPC. -/
def execRti (n : Fin 8) (s : State) : Result :=
  endsIn s (issueCt n (formatC 0x0E 0 0 0) s)

/-- EI (R388): EI enables interrupts and clears EXL. -/
def execEi (n : Fin 8) (s : State) : Result :=
  endsIn s (issueCt n (formatC 0x0F 0 0 0) s)

/-- DI (R388): DI disables interrupts. -/
def execDi (n : Fin 8) (s : State) : Result :=
  endsIn s (issueCt n (formatC 0x10 0 0 0) s)

/-- WAIT (R388): WAIT halts issue until an enabled line is pending. -/
def execWait (n : Fin 8) (s : State) : Result :=
  endsIn s (issueCt n (formatC 0x11 0 0 0) s)

/-- HALT (R399): HALT stops the core and raises HALTED. -/
def execHalt (n : Fin 8) (s : State) : Result :=
  endsIn s (issueCt n (formatC 0x12 0 0 0) s)

/-- BRK (R390): BRK traps with cause BREAK. -/
def execBrk (n : Fin 8) (s : State) : Result :=
  endsIn s (issueCt n (formatC 0x13 0 0 0) s)

/-- INTERRUPT_ENTRY (R388): An enabled pending interrupt line is taken between bundles. -/
def execInterruptEntry (n : Fin 8) (s : State) : Result :=
  endsIn s (interruptEntry n s)

/-- TRAP_ENTRY (R389): A precise trap enters the trap vector, or halts the core as a double fault. -/
def execTrapEntry (n : Fin 8) (cause : Fin 11) (eaddr : Option Nat) (code : BitVec 8) (s : State) : Result :=
  endsIn s <|
    if s.running (.rk n) then
      let x := landDue n (coreAt s n)
      trapEnter n cause.val eaddr code.toNat (trapEpc x) (putCore s n x)
    else s

/-- WAIT_WAKE (R388): An enabled line becomes pending and a core in WAIT resumes issue. -/
def execWaitWake (n : Fin 8) (s : State) : Result :=
  endsIn s (waitWake n s)

/-- DMA_DESCRIPTOR (R392): A DMA channel processes one descriptor, completing or halting with an error. -/
def execDmaDescriptor (n : Fin 8) (ch : Fin 2) (s : State) : Result :=
  endsIn s (dmaDescriptor n ch s)

/-- DMA_TAIL_WRITE (R392): Software writes TAIL and the channel starts processing. -/
def execDmaTailWrite (n : Fin 8) (ch : Fin 2) (tail : Nat) (s : State) : Result :=
  endsIn s (dmaTail n ch tail s)

/-- DMA_RESUME (R392): A write of bit 31 to DMAc_STAT retries the halted descriptor. -/
def execDmaResume (n : Fin 8) (ch : Fin 2) (s : State) : Result :=
  endsIn s (dmaResume n ch s)

/-- LOAD (R395): A LOAD strobe copies a signed image into a stopped core's SRAM. -/
def execLoad (o : Origin) (n : Fin 8) (fromHdm : Bool) (s : State) : Result :=
  endsIn s (fieldWrites o (.rk n) RK.LOAD_CTL.LOAD.off [(RK.LOAD_CTL.SRC, bit fromHdm), (RK.LOAD_CTL.LOAD, 1)] s)

/-- LOAD_VERIFY_DONE (R395): The Plinth verifies the loaded image and sets VALID or wipes it. -/
def execLoadVerifyDone (n : Fin 8) (s : State) : Result :=
  endsIn s (loadVerify n s)

/-- RK_CORE_RESET (R399): A RUN to RKn resets the core registers and starts issue at ENTRY. -/
def execRkCoreReset (o : Origin) (n : Fin 8) (s : State) : Result :=
  endsIn s (coreUp n (fieldWrite o (.rk n) HDR.RUNCTL.CMD 1 [] s))

/-- DEBUG_WINDOW_WRITE (R397): A write to a core's debug window is accepted, clearing MEAS_VALID for ISRAM, or denied.
-/
def execDebugWindowWrite (o : Origin) (n : Fin 8) (off : Fin 0x200000) (w : Word) (s : State) : Result :=
  endsIn s (busWrite o (debugBase n + off.val / 4 * 4) w [] s)

/-- DEBUG_WINDOW_READ (R397): A read of a core's debug window returns memory while stopped, else 0 and a denial count.
-/
def execDebugWindowRead (o : Origin) (n : Fin 8) (off : Fin 0x200000) (s : State) : Result :=
  endsIn s (busRead o (debugBase n + off.val / 4 * 4) false s)

/-- DEBUG_STEP (R398): A STEP strobe issues one bundle of a stopped core. -/
def execDebugStep (o : Origin) (n : Fin 8) (s : State) : Result :=
  endsIn s (fieldWrite o (.rk n) RK.CORE_CTL.STEP 1 [] s)

/-- TALLY_TICK (R404): Each reference tick enabled counters add events or threshold ticks. -/
def execTallyTick (inputs : TallyInputs) (s : State) : Result :=
  endsIn s (tallyTick inputs s)

/-- TALLY_CLR (R406): A write to TLYn.CLR clears the named counters. -/
def execTallyClr (o : Origin) (n : Fin 8) (mask : BitVec 16) (s : State) : Result :=
  endsIn s (wordWrite o (.tly n) TLY.CLR.CLR.off (mask.setWidth 32) s)

/-- TALLY_EN (R403): A write to TLYn.CTL.EN starts or stops the named counters on one tick. -/
def execTallyEn (o : Origin) (n : Fin 8) (mask : BitVec 16) (s : State) : Result :=
  endsIn s (fieldWrite o (.tly n) TLY.CTL.EN mask.toNat [] s)

/-- SAMPLE_CLR (R414): A write of CLR to SAMPLE_CTL empties the sample buffer. -/
def execSampleClr (o : Origin) (n : Fin 8) (s : State) : Result :=
  endsIn s (fieldWrite o (.tly n) TLY.SAMPLE_CTL.CLR 1 [] s)

/-- SAMPLE_D0_READ (R411): A read of SAMPLE_D0 latches D1–D3 of the same record. -/
def execSampleD0Read (o : Origin) (n : Fin 8) (s : State) : Result :=
  endsIn s (busRead o (pageBase (.tly n) + TLY.SAMPLE_D.DATA.off) false s)

/-- SAMPLE_D3_READ (R411): A read of SAMPLE_D3 advances INDEX. -/
def execSampleD3Read (o : Origin) (n : Fin 8) (s : State) : Result :=
  endsIn s (busRead o (pageBase (.tly n) + (TLY.SAMPLE_D.DATA.at 3).off) false s)

/-- FABRIC_CLR (R546): A write to ARM.FCLR or FCLR_HI clears the named fabric counters. -/
def execFabricClr (o : Origin) (hi : Bool) (mask : Word) (s : State) : Result :=
  endsIn s (wordWrite o .arm (if hi then ARM.FCLR_HI.CLR.off else ARM.FCLR.CLR.off) mask s)

end Sys2Proof.Machine
end

