-- ==== Sys2Proof/Machine/MemoryCommands.lean ====
section
/-! DEFINITION. Machine/MemoryCommands.lean: the commands of memories, ECC and the Archive (chapters 18, 19):
scrubbing, corrections, granules, flash, MRAM. -/
namespace Sys2Proof.Machine

open Sys2Proof (Byte Word Carrier PerCarrier Origin Page Instr)

/-- SCRUB_ACCESS (R422): In an idle bulk slot a scrubber reads the next word or line. -/
def execScrubAccess (lines : Bool) (s : State) : Result :=
  endsIn s (scrubAccess lines s)

/-- SCRUB_LAP_END (R423): A scrubber passes the last address and publishes the lap time. -/
def execScrubLapEnd (lines : Bool) (s : State) : Result :=
  endsIn s (scrubLapEnd lines s)

/-- LAP_SLOW (R423): The lap in progress exceeds LAP_WARN and LAP_SLOW is raised. -/
def execLapSlow (lines : Bool) (s : State) : Result :=
  endsIn s (lapSlow lines s)

/-- ECC_CORRECTION (R424): A read meets a correctable error, is served corrected and a write-back queued. -/
def execEccCorrection (e : CorrectedError) (s : State) : Result :=
  endsIn s (correctedError e s)

/-- CORRECTION_WRITEBACK (R424): A queued write-back is done in the next idle slot. -/
def execCorrectionWriteback (lines : Bool) (s : State) : Result :=
  endsIn s (writebackDone lines s)

/-- ROW_REMAP_COPY_DONE (R426): An LPDDR5X row copy to a spare row ends and the row is redirected. -/
def execRowRemapCopyDone (line : Nat) (s : State) : Result :=
  endsIn s (rowCopyDone line s)

/-- UNCORRECTABLE_ERROR (R428): A read meets an uncorrectable error, counted and handled by reader. -/
def execUncorrectableError (place : MemPlace) (reader : UeReader) (s : State) : Result :=
  endsIn s <|
    let t := uncorrectable place reader s
    ringFollow s t

/-- GRANULE_FIRST_WRITE (R420): The first write to an uninitialised granule zero-fills it and sets its map bit. -/
def execGranuleFirstWrite (a : Nat) (bytes : List Byte) (s : State) : Result :=
  endsIn s (granuleFirstWrite a bytes s)

/-- GRANULE_FILL_DONE (R420): A granule zero-fill completes and waiting accesses proceed. -/
def execGranuleFillDone (g : Nat) (s : State) : Result :=
  endsIn s (fillDone g s)

/-- UNINITIALISED_READ (R420): A read of an uninitialised granule returns zero without a DRAM access. -/
def execUninitialisedRead (a : Nat) (s : State) : Result :=
  endsIn s (uninitialisedRead a s)

/-- FLASH_OP_TIMEOUT (R435): A flash operation overruns, the target is reset and retried, or failed after three. -/
def execFlashOpTimeout (target : Fin 32) (retried : Bool) (s : State) : Result :=
  endsIn s (ringFollow s (flashTimeout target retried s))

/-- FLASH_READ_DECODE (R434): A flash codeword is decoded, retried at read-retry levels or declared uncorrectable. -/
def execFlashReadDecode (target : Fin 32) (b : Nat) (levels : Fin 9) (ok : Bool) (s : State) : Result :=
  endsIn s (ringFollow s (flashRead target b levels ok s))

/-- ARCHIVE_FORMAT (R436): A write of FORMAT to ARC.LAYOUT by the Plinth formats the media. -/
def execArchiveFormat (s : State) : Result :=
  endsIn s (fieldWrite .plinth .arc ARC.LAYOUT.FORMAT 1 [] s)

/-- FORMAT_DONE (R436): A format completes with two superblocks written. -/
def execFormatDone (s : State) : Result :=
  endsIn s (ringFollow s (formatDone s))

/-- GROWN_BAD (R439): A block grows bad and is replaced from the spare pool. -/
def execGrownBad (b : Nat) (retired : Bool) (s : State) : Result :=
  endsIn s (ringFollow s (grownBad b retired s))

/-- WEAR_LEVEL_MOVE (R440): Erase counts spread too far and Patina moves the least-erased block's data. -/
def execWearLevelMove (region : Fin 10) (onto : Nat) (s : State) : Result :=
  endsIn s (ringFollow s (wearLevelMove region.val onto s))

/-- FLASH_REFRESH (R441): A periodic read finds a block too corrected or too old and rewrites it. -/
def execFlashRefresh (b corrections : Nat) (s : State) : Result :=
  endsIn s (ringFollow s (flashRefresh b corrections s))

/-- READ_DISTURB_RELOCATE (R442): A block's read count reaches DISTURB × 10,000 and it is relocated. -/
def execReadDisturbRelocate (b : Nat) (s : State) : Result :=
  endsIn s (ringFollow s (readDisturb b s))

/-- RING_BUDGET_EVAL (R444): Patina evaluates the ring budget, an hour after its last, and writes CAST.RING.THIN. -/
def execRingBudgetEval (waf : Option Nat) (s : State) : Result :=
  endsIn s (if patinaRuns s && due s .budget (3600 * secNs) then thinWrite (ringEvaluate waf (startTimer .budget s)) else s)

/-- MRAM_COMMIT (R450): A two-slot MRAM area is committed by marker, payload and marker writes. -/
def execMramCommit (area : Fin 6) (done : Fin 4) (s : State) : Result :=
  endsIn s (mramCommit area done s)

end Sys2Proof.Machine
end

