-- ==== Sys2Proof/Machine/PlinthCommands.lean ====
section
/-! DEFINITION. Machine/PlinthCommands.lean: the commands of the Plinth (chapter 20): capsules, mailbox, laser safety,
tamper, zeroisation. -/
namespace Sys2Proof.Machine

open Sys2Proof (Byte Word Carrier PerCarrier Origin Page Instr)

/-- SUBMIT_CAPSULE (R463): Mailbox request 0x01 submits a capsule that the Plinth checks in order. -/
def execSubmitCapsule (s : State) : Result :=
  endsIn s (submitCapsule s)

/-- INSTALL_OFFICER (R464): Capsule 0x01 installs an officer key. -/
def execInstallOfficer (s : State) : Result :=
  endsIn s (runCapsule 0x01 installOfficer s)

/-- REMOVE_OFFICER (R464): Capsule 0x02 removes an officer key. -/
def execRemoveOfficer (s : State) : Result :=
  endsIn s (runCapsule 0x02 removeOfficer s)

/-- LOAD_PSK (R464): Capsule 0x03 loads a pre-shared key. -/
def execLoadPsk (s : State) : Result :=
  endsIn s (runCapsule 0x03 loadPsk s)

/-- CLEAR_PSK (R464): Capsule 0x04 clears the pre-shared key. -/
def execClearPsk (s : State) : Result :=
  endsIn s (runCapsule 0x04 clearPsk s)

/-- WRITE_PO (R464): Capsule 0x05 writes PO fields with origin 0xA. -/
def execWritePo (s : State) : Result :=
  endsIn s (runWritePo s)

/-- SET_TRUST (R464): Capsule 0x06 sets or clears a CA trust entry. -/
def execSetTrust (s : State) : Result :=
  endsIn s (runCapsule 0x06 setTrust s)

/-- SET_ALLOW (R464): Capsule 0x07 sets an attestation allow-list digest. -/
def execSetAllow (s : State) : Result :=
  endsIn s (runCapsule 0x07 setAllow s)

/-- SET_CODE_KEY (R464): Capsule 0x08 sets the customer code key and invalidates RK6's user image. -/
def execSetCodeKey (s : State) : Result :=
  endsIn s (runCapsule 0x08 setCodeKey s)

/-- SET_SVN_MIN (R464): Capsule 0x09 raises the minimum SVN of an image kind. -/
def execSetSvnMin (s : State) : Result :=
  endsIn s (runCapsule 0x09 setSvnMin s)

/-- TEST_PORT (R472): Capsule 0x0A opens or closes the test port. -/
def execTestPort (s : State) : Result :=
  endsIn s (runCapsule 0x0A testPort s)

/-- FORMAT_ARCHIVE (R464): Capsule 0x0B starts an Archive format. -/
def execFormatArchive (s : State) : Result :=
  endsIn s (runCapsule 0x0B formatArchive s)

/-- ZEROISE (R470): Capsule 0x0C zeroises the device's secrets. -/
def execZeroise (s : State) : Result :=
  endsIn s (runCapsule 0x0C zeroiseCapsule s)

/-- RELEASE (R464): Capsule 0x0D clears named tamper and alarm holds. -/
def execRelease (s : State) : Result :=
  endsIn s (runCapsule 0x0D release s)

/-- GET_RESULT (R476): Mailbox request 0x02 returns the last capsule result. -/
def execGetResult (s : State) : Result :=
  endsIn s (answerRequest 2 getResult s)

/-- GET_ATTEST (R476): Mailbox request 0x03 returns an attestation report. -/
def execGetAttest (s : State) : Result :=
  endsIn s (answerRequest 3 getAttest s)

/-- GET_JOURNAL_SIG (R476): Mailbox request 0x04 returns a journal head signature. -/
def execGetJournalSig (s : State) : Result :=
  endsIn s (answerRequest 4 getJournalSig s)

/-- GET_CERT (R476): Mailbox request 0x05 returns the device certificate. -/
def execGetCert (s : State) : Result :=
  endsIn s (answerRequest 5 getCert s)

/-- ALS_RESTART (R476): Mailbox request 0x06 gives one manual ALS restart or test pulse. -/
def execAlsRestart (s : State) : Result :=
  endsIn s (answerRequest 6 alsRestart s)

/-- UNKNOWN_MBX_REQ (R476): An unlisted mailbox REQ returns UNKNOWN_REQ. -/
def execUnknownMbxReq (s : State) : Result :=
  endsIn s (unknownRequest s)

/-- MBX_IN (R475): A write to PLN.MBX_IN appends 4 input bytes. -/
def execMbxIn (o : Origin) (w : Word) (s : State) : Result :=
  endsIn s (wordWrite o .pln PLN.MBX_IN.DATA.off w s)

/-- MBX_OUT_READ (R475): A read of PLN.MBX_OUT returns the next 4 result bytes and advances. -/
def execMbxOutRead (o : Origin) (s : State) : Result :=
  endsIn s (busRead o (pageBase .pln + PLN.MBX_OUT.DATA.off) false s)

/-- ALARM_ACTION (R468): On TAP_ALARM or TAG_BURST the Plinth takes the configured alarm action. -/
def execAlarmAction (c : Carrier) (tap : Bool) (s : State) : Result :=
  endsIn s (alarmAction c tap s)

/-- ALS_SHUTDOWN (R469): LOS holds for DETECT of emitting time and the ALS hold is set. -/
def execAlsShutdown (c : Carrier) (s : State) : Result :=
  endsIn s (alsShutdown c s)

/-- ALS_PULSE_START (R469): Every PERIOD from shutdown the ALS hold is released for a restart pulse. -/
def execAlsPulseStart (c : Carrier) (s : State) : Result :=
  endsIn s (alsPulseStart c s)

/-- ALS_PULSE_END (R469): A restart or test pulse ends and the ALS hold is set again. -/
def execAlsPulseEnd (c : Carrier) (s : State) : Result :=
  endsIn s (alsPulseEnd c s)

/-- ALS_RECOVERY (R469): LOS clears and the ALS hold is released for good. -/
def execAlsRecovery (c : Carrier) (s : State) : Result :=
  endsIn s (alsRecovery c s)

/-- TAMPER_INPUT (R471): An enabled tamper input becomes active, latches and zeroises. -/
def execTamperInput (i : Fin 4) (s : State) : Result :=
  endsIn s <|
    let t := tamperInput i s
    if testBit (tamperActive t) i.val && !testBit (tamperActive s) i.val then wake wakeTamper t else t

/-- ZEROISE_PIN (R470): ZEROISE_N held low for 1 µs zeroises the device. -/
def execZeroisePin (s : State) : Result :=
  endsIn s (zeroisePin s)

/-- TEST_PORT_EXPIRY (R472): The test port's opening time runs out and it closes. -/
def execTestPortExpiry (s : State) : Result :=
  endsIn s (testPortExpiry s)

/-- RK0_HEARTBEAT_CHECK (R473): An HB_PERIOD passes without an RK0 heartbeat, or RK0 faults, and recovery begins. -/
def execRk0HeartbeatCheck (s : State) : Result :=
  endsIn s (heartbeatCheck s)

/-- RK0_RECOVERY_RESET (R473): The Plinth resets RK0 and awaits its heartbeat, escalating after three failures. -/
def execRk0RecoveryReset (s : State) : Result :=
  endsIn s (recoveryReset s)

/-- RK0_RECOVERY_END (R473): The first good heartbeat ends the fail-closed hold; 600 s clears the count. -/
def execRk0RecoveryEnd (s : State) : Result :=
  endsIn s (recoveryEnd s)

/-- LOCKSTEP_FAIL (R474): A lockstep mismatch or Plinth SRAM UE blanks, disables lasers and clears keys in hardware.
-/
def execLockstepFail (s : State) : Result :=
  endsIn s (lockstepFail s)

/-- RK0_ESCALATION_RESET (R473): The third failed RK0 reset blanks both carriers and resets the device. -/
def execRk0EscalationReset (s : State) : Result :=
  endsIn s (rk0Escalation s)

/-- ZEROISE_N_RELEASE (R470): ZEROISE_N returns high, the cause clears, the private keys are derived again and
handshakes may start. -/
def execZeroiseNRelease (s : State) : Result :=
  endsIn s (zeroiseRelease s)

/-- TAMPER_INPUT_CLEAR (R471): An enabled tamper input returns to its inactive level, clearing its TAMPER_IN bit so
that a RELEASE of the latch can be accepted. -/
def execTamperInputClear (i : Fin 4) (s : State) : Result :=
  endsIn s (tamperClear i s)

end Sys2Proof.Machine
end

