-- ==== Sys2Proof/Machine/DeviceCommands.lean ====
section
/-! DEFINITION. Machine/DeviceCommands.lean: the commands of housekeeping, power, clocks, self test and start
(chapters 21 to 23, 25): housekeeping, auxiliary outputs, power, time, self test, start-up. -/
namespace Sys2Proof.Machine

open Sys2Proof (Byte Word Carrier PerCarrier Origin Page Instr)

/-- HK_SEQUENCE (R479): A trigger starts a housekeeping conversion sequence, or is counted as overrun. -/
def execHkSequence (n : Fin 2) (src : Fin 3) (refs temps : Int × Int) (s : State) : Result :=
  endsIn s (hkSourceTrigger n src.val refs temps (pageBoundary (.hk n) s))

/-- HK_START (R479): A START strobe starts a housekeeping sequence. -/
def execHkStart (o : Origin) (n : Fin 2) (readings : List Int) (s : State) : Result :=
  endsIn s (fieldWrite o (.hk n) HK.CTL.START 1 readings s)

/-- HK_SEQUENCE_DONE (R479): A sequence completes, its results written and SEQ_DONE raised. -/
def execHkSequenceDone (n : Fin 2) (codes : List (List Int)) (refs temps : Int × Int) (s : State) : Result :=
  endsIn s (hkDone n codes refs temps s)

/-- URG_GO (R481): A GO to URG_CTL converts an input urgently or is dropped. -/
def execUrgGo (o : Origin) (n : Fin 2) (input : BitVec 5) (readings : List Int) (s : State) : Result :=
  endsIn s (busWrite o (pageBase (.hk n) + HK.URG_CTL.GO.off) (overlay (overlay 0 HK.URG_CTL.INPUT input.toNat)
    HK.URG_CTL.GO 1) readings s)

/-- HK_CALIBRATION (R498): HK offset and gain are calibrated at start, by period or on temperature change. -/
def execHkCalibration (n : Fin 2) (ends : Bool) (offset gain : List (Int × Int)) (refs temps : Int × Int) (s : State)
    : Result :=
  endsIn s (if ends then hkCalEnd n offset gain refs temps s else hkCalBegin n s)

/-- AUX_STEP (R490): At each INTERVAL a channel's output moves toward TARGET or the clear code. -/
def execAuxStep (n : Fin 16) (s : State) : Result :=
  endsIn s (auxStep n (auxBoundary n s))

/-- AUX_RANGE_CHANGE (R491): A RANGE change drives the clear code and starts a 20 µs hold. -/
def execAuxRangeChange (n : Fin 16) (s : State) : Result :=
  endsIn s (auxRangeChange n s)

/-- RANGE_DONE (R491): A range hold ends and the channel slews to TARGET. -/
def execRangeDone (n : Fin 16) (s : State) : Result :=
  endsIn s (auxRangeDone n s)

/-- AUXCLR_PIN (R492): AUXCLR_N falls or rises, clearing or releasing every channel. -/
def execAuxclrPin (low : Bool) (s : State) : Result :=
  endsIn s (auxPin low s)

/-- AUX_LADDER_CAL (R498): The first EN after 24 hours calibrates a channel's ladder before enabling it. -/
def execAuxLadderCal (n : Fin 16) (ms : List (Int × Int)) (s : State) : Result :=
  endsIn s (auxLadderCal n ms s)

/-- CAL_MEASUREMENT (R497): An item is measured twice and its trim accepted or rejected. -/
def execCalMeasurement (item unit sub : Nat) (m1 m2 : Int) (s : State) : Result :=
  endsIn s (if calKnown item unit && decide (sub < calSubs item) then calMeasure item unit sub m1 m2 s else s)

/-- CAL_STORE (R499): The calibration set is committed to MRAM by period, request or shutdown. -/
def execCalStore (s : State) : Result :=
  endsIn s (if calStoreDue s then calStore s else s)

/-- STORE_NOW (R499): A write of STORE_NOW to CAL.CTL requests a calibration commit. -/
def execStoreNow (o : Origin) (s : State) : Result :=
  endsIn s (fieldWrite o .cal CAL.CTL.STORE_NOW 1 [] s)

/-- PWR_REQ (R504): A write to PWR.REQ.STATE starts, merges or queues a power-state transition. -/
def execPwrReq (o : Origin) (state : BitVec 3) (s : State) : Result :=
  endsIn s (wordWrite o .pwr PWR.REQ.STATE.off (state.setWidth 32) s)

/-- PWR_ENTRY_ACTION (R507): The action phase of a Sleep or Deep sleep entry runs to completion. -/
def execPwrEntryAction (s : State) : Result :=
  endsIn s (entryAction s)

/-- PWR_EXIT (R508): An exit to Run reverses the sleep steps and restarts recorded pages. -/
def execPwrExit (counts : Nat) (s : State) : Result :=
  endsIn s (exitAction counts s)

/-- PWR_TRANSITION_END (R504): A transition ends and any pending request is taken. -/
def execPwrTransitionEnd (s : State) : Result :=
  endsIn s (transitionEnd s)

/-- ORDERLY_SHUTDOWN (R509): Entry to Off persists state, runs the shutdown test and sets OFF_READY. -/
def execOrderlyShutdown (results : List (Option (Nat × Nat))) (s : State) : Result :=
  endsIn s (orderlyShutdown results s)

/-- WAKE_SOURCE (R510): An enabled wake source requests Run. -/
def execWakeSource (source : Fin 7) (s : State) : Result :=
  endsIn s (wake source.val s)

/-- WAKE_IN_PIN (R510): WAKE_IN held low for 10 µs wakes the device. -/
def execWakeInPin (s : State) : Result :=
  endsIn s (wake 0 s)

/-- PWRGD_LOW (R511): PWRGD low for over 1 µs resets everything outside VDD_AON. -/
def execPwrgdLow (s : State) : Result :=
  endsIn s (pwrgdLow s)

/-- AVS_ACK (R513): The regulator acknowledges a voltage request and the next may follow after STEP_GAP. -/
def execAvsAck (s : State) : Result :=
  endsIn s (avsAck s)

/-- AVS_RETRY (R513): A request unacknowledged after 2 ms is retried, faulting on the third failure. -/
def execAvsRetry (s : State) : Result :=
  endsIn s (avsRetry s)

/-- REG_FAULT_POLL (R515): Once a second a Voltage read checks the held voltage and may clear REG_FAULT. -/
def execRegFaultPoll (within : Bool) (s : State) : Result :=
  endsIn s (regFaultPoll within s)

/-- GOVERNOR_EVAL (R517): Once per EVAL the governor reads danger counters and adjusts the VDD target. -/
def execGovernorEval (s : State) : Result :=
  endsIn s (governorEval s)

/-- LREF_LOSS (R520): Loss of LREF switches TB to the backup oscillator. -/
def execLrefLoss (s : State) : Result :=
  endsIn s (lrefLoss s)

/-- LREF_RETURN (R520): LREF present for 1 ms returns TB to LREF. -/
def execLrefReturn (s : State) : Result :=
  endsIn s (lrefReturn s)

/-- AON_OSC_TRIM (R521): Once per second in Run the always-on oscillator is trimmed against LREF. -/
def execAonOscTrim (trim : Int) (s : State) : Result :=
  endsIn s (aonTrim trim s)

/-- TB_SET (R522): A write of SET to TB.CTL loads the time base and appends a TB_SET marker. -/
def execTbSet (o : Origin) (s : State) : Result :=
  endsIn s (fieldWrite o .tb TB.CTL.SET 1 [] s)

/-- TB_ALARM (R523): The count reaches the alarm time and ALARM is raised. -/
def execTbAlarm (s : State) : Result :=
  endsIn s (tbAlarm s)

/-- PPS_EDGE (R524): A PPS_IN edge measures error, slews, steps or loads the time base. -/
def execPpsEdge (s : State) : Result :=
  endsIn s (ppsEdge s)

/-- PPS_LOST (R524): No PPS edge for 2 s clears PPS_LOCK. -/
def execPpsLost (s : State) : Result :=
  endsIn s (ppsLost s)

/-- PPS_NEXT_WRITE (R524): A write to TB.PPS_NEXT arms the next edge to load the seconds. -/
def execPpsNextWrite (o : Origin) (sec : Word) (s : State) : Result :=
  endsIn s (wordWrite o .tb TB.PPS_NEXT.SEC.off sec s)

/-- PPS_OUT_PULSE (R525): PPS_OUT rises at each whole second while enabled and valid. -/
def execPpsOutPulse (s : State) : Result :=
  endsIn s (ppsPulse s)

/-- OD_GO (R537): A write of OD_GO starts an on-demand test of a block or is refused. -/
def execOdGo (o : Origin) (b : BitVec 6) (s : State) : Result :=
  endsIn s (fieldWrites o .bst BST.CTL.OD_GO.off [(BST.CTL.OD_BLOCK, b.toNat), (BST.CTL.OD_GO, 1)] s)

/-- OD_TEST_END (R539): An on-demand test ends, the block's registers reset and a record is committed. -/
def execOdTestEnd (result : Option (Nat × Nat)) (s : State) : Result :=
  endsIn s (odTestEnd result s)

/-- OD_DENIED_READ (R538): A read of a page under test returns all ones and is journalled as denied. -/
def execOdDeniedRead (o : Origin) (p : Page) (off : BitVec 10) (s : State) : Result :=
  endsIn s (busRead o (pageBase p + 4 * off.toNat) false s)

/-- DEVICE_START (R552): PWRGD rising with rails in range runs the start-up sequence to host-ready. -/
def execDeviceStart (report : StartReport) (s : State) : Result :=
  endsIn s (deviceStart report s)

/-- TRIAL_SUCCESS (R556): RK0 keeps its heartbeat 60 s after host-ready and the pending slot becomes active. -/
def execTrialSuccess (s : State) : Result :=
  endsIn s (trialSuccess s)

/-- TRIAL_FAIL (R556): The trial start misses host-ready or RK0 escalates and the device resets. -/
def execTrialFail (s : State) : Result :=
  endsIn s (trialFail s)

/-- ONLINE_CORE_RELOAD (R557): During online activation one core is stopped, reloaded from the target slot and run. -/
def execOnlineCoreReload (s : State) : Result :=
  endsIn s (onlineReload s)

/-- ONLINE_ACTIVATION_COMMIT (R557): 60 s of RK0 heartbeat after online activation commits the active slot. -/
def execOnlineActivationCommit (s : State) : Result :=
  endsIn s (onlineCommit s)

/-- VDD_AON_LOSS (R567): Loss of VDD_AON clears every always-on setting, latch, alarm and count, so the next start is
a power-on. -/
def execVddAonLoss (s : State) : Result :=
  endsIn s (vddAonLoss s)

/-- IN_SERVICE_SECONDS_UPDATE (R449): Every 60 s the device updates the in-service seconds word in the keep store. -/
def execInServiceSecondsUpdate (s : State) : Result :=
  endsIn s (if due s .inService (60 * secNs) then
    startTimer .inService { s with keep := { s.keep with inService := s.keep.inService + 60 } } else s)

/-- ONLINE_ACTIVATION_BUSY (R557): Online activation finds a step, activation or switch still pending after 10 s and
ends with Busy, changing nothing. -/
def execOnlineActivationBusy (s : State) : Result :=
  endsIn s (onlineBusy s)

end Sys2Proof.Machine
end

