-- ==== Sys2Proof/Machine/Dispatch.lean ====
section
/-! DEFINITION. Machine/Dispatch.lean: one arm for each command, each a direct call of its meaning. -/
namespace Sys2Proof.Machine

open Sys2Proof (Instr)

/-- What a command does to everything but the queue. -/
def exec (i : Instr) (s : State) : Host.Outcome State Fault Refusal :=
  match i with
  | .runctlRun o p => Sys2Proof.Machine.execRunctlRun o p s
  | .runctlStop o p => Sys2Proof.Machine.execRunctlStop o p s
  | .pageStartComplete p ok band gain => Sys2Proof.Machine.execPageStartComplete p ok band gain s
  | .pageStopComplete p => Sys2Proof.Machine.execPageStopComplete p s
  | .pageBoundOverrun p => Sys2Proof.Machine.execPageBoundOverrun p s
  | .registerWrite o addr w readings => Sys2Proof.Machine.execRegisterWrite o addr w readings s
  | .hostMisalignedAccess write addr len w => Sys2Proof.Machine.execHostMisalignedAccess write addr len w s
  | .unmappedBar0Write o addr w => Sys2Proof.Machine.execUnmappedBar0Write o addr w s
  | .earlyBar0Write addr w => Sys2Proof.Machine.execEarlyBar0Write addr w s
  | .refusedWrClr o p => Sys2Proof.Machine.execRefusedWrClr o p s
  | .errlogClr o p => Sys2Proof.Machine.execErrlogClr o p s
  | .evtRawClear o p mask => Sys2Proof.Machine.execEvtRawClear o p mask s
  | .evtSet o p mask => Sys2Proof.Machine.execEvtSet o p mask s
  | .xLoReadLatch o addr wide => Sys2Proof.Machine.execXLoReadLatch o addr wide s
  | .evrSetMessage => Sys2Proof.Machine.execEvrSetMessage s
  | .evrClearMessage src => Sys2Proof.Machine.execEvrClearMessage src s
  | .rtDataWrite o w => Sys2Proof.Machine.execRtDataWrite o w s
  | .swSet o mask => Sys2Proof.Machine.execSwSet o mask s
  | .swClr o mask => Sys2Proof.Machine.execSwClr o mask s
  | .semAcquire o n => Sys2Proof.Machine.execSemAcquire o n s
  | .semRelease o n => Sys2Proof.Machine.execSemRelease o n s
  | .vcViolation o => Sys2Proof.Machine.execVcViolation o s
  | .csfPairCompare csfA csfB skew => Sys2Proof.Machine.execCsfPairCompare csfA csfB skew s
  | .jointTimingRelease c => Sys2Proof.Machine.execJointTimingRelease c s
  | .rxSlip c => Sys2Proof.Machine.execRxSlip c s
  | .txSlip c => Sys2Proof.Machine.execTxSlip c s
  | .clientIngressDrop c => Sys2Proof.Machine.execClientIngressDrop c s
  | .clientEgressUnderrun c q => Sys2Proof.Machine.execClientEgressUnderrun c q s
  | .journalSpill n => Sys2Proof.Machine.execJournalSpill n s
  | .journalPersistBatch n => Sys2Proof.Machine.execJournalPersistBatch n s
  | .journalSpaceReturn => Sys2Proof.Machine.execJournalSpaceReturn s
  | .signNow o => Sys2Proof.Machine.execSignNow o s
  | .journalSignatureDone => Sys2Proof.Machine.execJournalSignatureDone s
  | .lfHeaderForm c => Sys2Proof.Machine.execLfHeaderForm c s
  | .lfmJoinPartner c => Sys2Proof.Machine.execLfmJoinPartner c s
  | .lfmPairStart => Sys2Proof.Machine.execLfmPairStart s
  | .cpcRoundWrite c blocks rsCorr rsUncorr => Sys2Proof.Machine.execCpcRoundWrite c blocks rsCorr rsUncorr s
  | .justRangeClr o c => Sys2Proof.Machine.execJustRangeClr o c s
  | .rxFramePosition c f => Sys2Proof.Machine.execRxFramePosition c f s
  | .rxLfClassify c f arrival => Sys2Proof.Machine.execRxLfClassify c f arrival s
  | .syfStart c => Sys2Proof.Machine.execSyfStart c s
  | .pilotGroupSign c => Sys2Proof.Machine.execPilotGroupSign c s
  | .pchData o c w => Sys2Proof.Machine.execPchData o c w s
  | .pchCtlClr o c => Sys2Proof.Machine.execPchCtlClr o c s
  | .txFirSwap o c w => Sys2Proof.Machine.execTxFirSwap o c w s
  | .txXfadeEnd c => Sys2Proof.Machine.execTxXfadeEnd c s
  | .dacStart c => Sys2Proof.Machine.execDacStart c s
  | .ltxFgCalStart c => Sys2Proof.Machine.execLtxFgCalStart c s
  | .ltxFgCalDone c ms => Sys2Proof.Machine.execLtxFgCalDone c ms s
  | .ltxBgCalStep n m1 m2 mux => Sys2Proof.Machine.execLtxBgCalStep n m1 m2 mux s
  | .gateChange c => Sys2Proof.Machine.execGateChange c s
  | .holdover c average => Sys2Proof.Machine.execHoldover c average s
  | .loopTrackResume c => Sys2Proof.Machine.execLoopTrackResume c s
  | .ltxPatternMode n => Sys2Proof.Machine.execLtxPatternMode n s
  | .txInjectSingle o c w => Sys2Proof.Machine.execTxInjectSingle o c w s
  | .txInjectPeriodic c => Sys2Proof.Machine.execTxInjectPeriodic c s
  | .pramDataAccess o n value => Sys2Proof.Machine.execPramDataAccess o n value s
  | .dacClip n => Sys2Proof.Machine.execDacClip n s
  | .agcPeriod n => Sys2Proof.Machine.execAgcPeriod n s
  | .gainSet o n code => Sys2Proof.Machine.execGainSet o n code s
  | .fastStep n => Sys2Proof.Machine.execFastStep n s
  | .clip n codes => Sys2Proof.Machine.execClip n codes s
  | .clipIntervalEnd n => Sys2Proof.Machine.execClipIntervalEnd n s
  | .gainLimit n => Sys2Proof.Machine.execGainLimit n s
  | .lrxFgCal n ms afe => Sys2Proof.Machine.execLrxFgCal n ms afe s
  | .adcBgCalStep n m => Sys2Proof.Machine.execAdcBgCalStep n m s
  | .unretire o n => Sys2Proof.Machine.execUnretire o n s
  | .laneClockLoss c => Sys2Proof.Machine.execLaneClockLoss c s
  | .laneClockResume c => Sys2Proof.Machine.execLaneClockResume c s
  | .histStart o n w => Sys2Proof.Machine.execHistStart o n w s
  | .histDone n => Sys2Proof.Machine.execHistDone n s
  | .snapArm o n w => Sys2Proof.Machine.execSnapArm o n w s
  | .cdScanStart c => Sys2Proof.Machine.execCdScanStart c s
  | .cdScanComplete c coarse fine => Sys2Proof.Machine.execCdScanComplete c coarse fine s
  | .cdTrackStep c => Sys2Proof.Machine.execCdTrackStep c s
  | .cdSetWrite o c cd => Sys2Proof.Machine.execCdSetWrite o c cd s
  | .timingLock c ofs => Sys2Proof.Machine.execTimingLock c ofs s
  | .timingLockLost c ofs => Sys2Proof.Machine.execTimingLockLost c ofs s
  | .autoSkewEstimate c est => Sys2Proof.Machine.execAutoSkewEstimate c est s
  | .eqzLmsUpdate c grads => Sys2Proof.Machine.execEqzLmsUpdate c grads s
  | .singularity c corr cost => Sys2Proof.Machine.execSingularity c corr cost s
  | .channelEstimate c => Sys2Proof.Machine.execChannelEstimate c s
  | .eqzSwap o c w => Sys2Proof.Machine.execEqzSwap o c w s
  | .eqzXfadeEnd c => Sys2Proof.Machine.execEqzXfadeEnd c s
  | .eqzCopy o c => Sys2Proof.Machine.execEqzCopy o c s
  | .eqzInit o c => Sys2Proof.Machine.execEqzInit o c s
  | .coefDataAccess o c value => Sys2Proof.Machine.execCoefDataAccess o c value s
  | .shadowSnap o c => Sys2Proof.Machine.execShadowSnap o c s
  | .acqBegin c => Sys2Proof.Machine.execAcqBegin c s
  | .acqTimeout c => Sys2Proof.Machine.execAcqTimeout c s
  | .blindConverged c cost => Sys2Proof.Machine.execBlindConverged c cost s
  | .trainingDetect c x y index => Sys2Proof.Machine.execTrainingDetect c x y index s
  | .acqRestart o c => Sys2Proof.Machine.execAcqRestart o c s
  | .cprTrainingBlock c x y => Sys2Proof.Machine.execCprTrainingBlock c x y s
  | .foLock c => Sys2Proof.Machine.execFoLock c s
  | .foRange c => Sys2Proof.Machine.execFoRange c s
  | .pilotSlipCheck c x y => Sys2Proof.Machine.execPilotSlipCheck c x y s
  | .pchRecordWrite c => Sys2Proof.Machine.execPchRecordWrite c s
  | .pchRingEntries o c entries => Sys2Proof.Machine.execPchRingEntries o c entries s
  | .mlsEstimateUpdate c => Sys2Proof.Machine.execMlsEstimateUpdate c s
  | .trellisReset c => Sys2Proof.Machine.execTrellisReset c s
  | .snrUpdate c => Sys2Proof.Machine.execSnrUpdate c s
  | .fecHuntObservation c => Sys2Proof.Machine.execFecHuntObservation c s
  | .fecCheckResult c => Sys2Proof.Machine.execFecCheckResult c s
  | .uncorrectableBlock c => Sys2Proof.Machine.execUncorrectableBlock c s
  | .fecWindowEnd c => Sys2Proof.Machine.execFecWindowEnd c s
  | .ratchetDue x => Sys2Proof.Machine.execRatchetDue x s
  | .rekeyAnnounce x => Sys2Proof.Machine.execRekeyAnnounce x s
  | .activationDeadline x => Sys2Proof.Machine.execActivationDeadline x s
  | .activationTakeEffect x => Sys2Proof.Machine.execActivationTakeEffect x s
  | .retainedSlotExpiry c => Sys2Proof.Machine.execRetainedSlotExpiry c s
  | .slotExpiry c receive n => Sys2Proof.Machine.execSlotExpiry c receive n s
  | .epochExchangeStart x => Sys2Proof.Machine.execEpochExchangeStart x s
  | .epochExhausted x => Sys2Proof.Machine.execEpochExhausted x s
  | .wakeSend o w => Sys2Proof.Machine.execWakeSend o w s
  | .wakeBurst x => Sys2Proof.Machine.execWakeBurst x s
  | .wakeWordRx x w => Sys2Proof.Machine.execWakeWordRx x w s
  | .answerSend x => Sys2Proof.Machine.execAnswerSend x s
  | .pchWordSync x => Sys2Proof.Machine.execPchWordSync x s
  | .pchWordSyncLoss x => Sys2Proof.Machine.execPchWordSyncLoss x s
  | .linkWord x w => Sys2Proof.Machine.execLinkWord x w s
  | .ack x m => Sys2Proof.Machine.execAck x m s
  | .hello x m => Sys2Proof.Machine.execHello x m s
  | .caps x m => Sys2Proof.Machine.execCaps x m s
  | .attest x m => Sys2Proof.Machine.execAttest x m s
  | .kemInit x m => Sys2Proof.Machine.execKemInit x m s
  | .kemResp x m => Sys2Proof.Machine.execKemResp x m s
  | .keyConfirm x m => Sys2Proof.Machine.execKeyConfirm x m s
  | .rekey x m => Sys2Proof.Machine.execRekey x m s
  | .rateOffer x m => Sys2Proof.Machine.execRateOffer x m s
  | .rateAccept x m => Sys2Proof.Machine.execRateAccept x m s
  | .step x m => Sys2Proof.Machine.execStep x m s
  | .stepAck x m => Sys2Proof.Machine.execStepAck x m s
  | .routeSwitch x m => Sys2Proof.Machine.execRouteSwitch x m s
  | .sleepReq x r => Sys2Proof.Machine.execSleepReq x r s
  | .wakeMsg x r => Sys2Proof.Machine.execWakeMsg x r s
  | .telemetry x r => Sys2Proof.Machine.execTelemetry x r s
  | .timeMsg x m => Sys2Proof.Machine.execTimeMsg x m s
  | .refuse x m => Sys2Proof.Machine.execRefuse x m s
  | .unknownTypeMessage x type m => Sys2Proof.Machine.execUnknownTypeMessage x type m s
  | .retxTimeout k seqNo => Sys2Proof.Machine.execRetxTimeout k seqNo s
  | .ackTimer k => Sys2Proof.Machine.execAckTimer k s
  | .timeSend x => Sys2Proof.Machine.execTimeSend x s
  | .csfTimestamp x receive csf stamp => Sys2Proof.Machine.execCsfTimestamp x receive csf stamp s
  | .pathStateChange x => Sys2Proof.Machine.execPathStateChange x s
  | .handshakeTimeout k => Sys2Proof.Machine.execHandshakeTimeout k s
  | .failedRetry k => Sys2Proof.Machine.execFailedRetry k s
  | .sessionPathless k => Sys2Proof.Machine.execSessionPathless k s
  | .pchModulationChange x => Sys2Proof.Machine.execPchModulationChange x s
  | .pchRxClear x => Sys2Proof.Machine.execPchRxClear x s
  | .stepOffer x => Sys2Proof.Machine.execStepOffer x s
  | .stepOfferDeadline x => Sys2Proof.Machine.execStepOfferDeadline x s
  | .stepRestart x => Sys2Proof.Machine.execStepRestart x s
  | .armedLapse x jump => Sys2Proof.Machine.execArmedLapse x jump s
  | .stepConfirming x => Sys2Proof.Machine.execStepConfirming x s
  | .stepDone x => Sys2Proof.Machine.execStepDone x s
  | .fallback x => Sys2Proof.Machine.execFallback x s
  | .stepDown x => Sys2Proof.Machine.execStepDown x s
  | .stepBackoffEnd x => Sys2Proof.Machine.execStepBackoffEnd x s
  | .sleepDelayExpiry => Sys2Proof.Machine.execSleepDelayExpiry s
  | .rpsOutputInstant => Sys2Proof.Machine.execRpsOutputInstant s
  | .rpsPairState => Sys2Proof.Machine.execRpsPairState s
  | .realign => Sys2Proof.Machine.execRealign s
  | .rpsCmdRealign o => Sys2Proof.Machine.execRpsCmdRealign o s
  | .rpsCmdManual o route => Sys2Proof.Machine.execRpsCmdManual o route s
  | .rpsCmdForced o route => Sys2Proof.Machine.execRpsCmdForced o route s
  | .rpsCmdClear o route => Sys2Proof.Machine.execRpsCmdClear o route s
  | .rpsSfHoldoff => Sys2Proof.Machine.execRpsSfHoldoff s
  | .wtrExpiry => Sys2Proof.Machine.execWtrExpiry s
  | .rpsDramOn => Sys2Proof.Machine.execRpsDramOn s
  | .swRequest => Sys2Proof.Machine.execSwRequest s
  | .swRequestDeadline => Sys2Proof.Machine.execSwRequestDeadline s
  | .swToggle => Sys2Proof.Machine.execSwToggle s
  | .swSettleExpiry => Sys2Proof.Machine.execSwSettleExpiry s
  | .swDone hitUs => Sys2Proof.Machine.execSwDone hitUs s
  | .swUnilateral => Sys2Proof.Machine.execSwUnilateral s
  | .fesEn o c en => Sys2Proof.Machine.execFesEn o c en s
  | .moduleReady c outcome => Sys2Proof.Machine.execModuleReady c outcome s
  | .tune o c => Sys2Proof.Machine.execTune o c s
  | .wavelengthLock c outcome => Sys2Proof.Machine.execWavelengthLock c outcome s
  | .txReadyEntry c => Sys2Proof.Machine.execTxReadyEntry c s
  | .txReq o c => Sys2Proof.Machine.execTxReq o c s
  | .txHoldRelease c => Sys2Proof.Machine.execTxHoldRelease c s
  | .txHoldTimeout c => Sys2Proof.Machine.execTxHoldTimeout c s
  | .txOff o c => Sys2Proof.Machine.execTxOff o c s
  | .clrFault o c => Sys2Proof.Machine.execClrFault o c s
  | .losReading c code => Sys2Proof.Machine.execLosReading c code s
  | .fesFault c cause => Sys2Proof.Machine.execFesFault c cause s
  | .safetyHoldState c => Sys2Proof.Machine.execSafetyHoldState c s
  | .foMargin c => Sys2Proof.Machine.execFoMargin c s
  | .tiaGainStep c y => Sys2Proof.Machine.execTiaGainStep c y s
  | .cmisGo o w readings => Sys2Proof.Machine.execCmisGo o w readings s
  | .cmisFlagPoll c asserted modState lock settling laserFault => Sys2Proof.Machine.execCmisFlagPoll c asserted modState lock settling laserFault s
  | .synUnlock n => Sys2Proof.Machine.execSynUnlock n s
  | .synRelock n locked band => Sys2Proof.Machine.execSynRelock n locked band s
  | .telTick inputs => Sys2Proof.Machine.execTelTick inputs s
  | .telOutput n => Sys2Proof.Machine.execTelOutput n s
  | .telSync o => Sys2Proof.Machine.execTelSync o s
  | .learn o c => Sys2Proof.Machine.execLearn o c s
  | .learnDone c => Sys2Proof.Machine.execLearnDone c s
  | .tapArm o c arm => Sys2Proof.Machine.execTapArm o c arm s
  | .tapAck o c => Sys2Proof.Machine.execTapAck o c s
  | .tapRaise o c rules => Sys2Proof.Machine.execTapRaise o c rules s
  | .ringDrop => Sys2Proof.Machine.execRingDrop s
  | .castTrigger b => Sys2Proof.Machine.execCastTrigger b s
  | .castSwTrig o => Sys2Proof.Machine.execCastSwTrig o s
  | .castHeldTrigger => Sys2Proof.Machine.execCastHeldTrigger s
  | .castWindowEnd => Sys2Proof.Machine.execCastWindowEnd s
  | .castCommit => Sys2Proof.Machine.execCastCommit s
  | .idleDelete c q => Sys2Proof.Machine.execIdleDelete c q s
  | .idleInsert c q inserted deleted => Sys2Proof.Machine.execIdleInsert c q inserted deleted s
  | .ingressPortState c q up hiBer => Sys2Proof.Machine.execIngressPortState c q up hiBer s
  | .egressPortState c q n => Sys2Proof.Machine.execEgressPortState c q n s
  | .egressFaultHold c q => Sys2Proof.Machine.execEgressFaultHold c q s
  | .clxRxState n e => Sys2Proof.Machine.execClxRxState n e s
  | .clxRxTimeout n => Sys2Proof.Machine.execClxRxTimeout n s
  | .eiExit n => Sys2Proof.Machine.execEiExit n s
  | .chkBitCompare n bit => Sys2Proof.Machine.execChkBitCompare n bit s
  | .clxInjectSingle o n w => Sys2Proof.Machine.execClxInjectSingle o n w s
  | .clxInjectPeriodic n => Sys2Proof.Machine.execClxInjectPeriodic n s
  | .eyeStart o lane w => Sys2Proof.Machine.execEyeStart o lane w s
  | .eyeDone lane mismatches => Sys2Proof.Machine.execEyeDone lane mismatches s
  | .eyeAbandon lane => Sys2Proof.Machine.execEyeAbandon lane s
  | .perstRelease => Sys2Proof.Machine.execPerstRelease s
  | .retrain o => Sys2Proof.Machine.execRetrain o s
  | .linkRecovery rate width => Sys2Proof.Machine.execLinkRecovery rate width s
  | .creditStall => Sys2Proof.Machine.execCreditStall s
  | .cxlMemRead off => Sys2Proof.Machine.execCxlMemRead off s
  | .cxlMemWrite off bytes => Sys2Proof.Machine.execCxlMemWrite off bytes s
  | .getEventRecords log => Sys2Proof.Machine.execGetEventRecords log s
  | .clearEventRecords log all handles => Sys2Proof.Machine.execClearEventRecords log all handles s
  | .getEventInterruptPolicy => Sys2Proof.Machine.execGetEventInterruptPolicy s
  | .setEventInterruptPolicy info warning failure fatal => Sys2Proof.Machine.execSetEventInterruptPolicy info warning failure fatal s
  | .getFwInfo => Sys2Proof.Machine.execGetFwInfo s
  | .transferFw slot offset data last => Sys2Proof.Machine.execTransferFw slot offset data last s
  | .activateFw slot online => Sys2Proof.Machine.execActivateFw slot online s
  | .getTimestamp => Sys2Proof.Machine.execGetTimestamp s
  | .setTimestamp ns => Sys2Proof.Machine.execSetTimestamp ns s
  | .getSupportedLogs => Sys2Proof.Machine.execGetSupportedLogs s
  | .getLog effects => Sys2Proof.Machine.execGetLog effects s
  | .identifyMemoryDevice => Sys2Proof.Machine.execIdentifyMemoryDevice s
  | .getHealthInfo => Sys2Proof.Machine.execGetHealthInfo s
  | .submitCapsuleCmd capsule => Sys2Proof.Machine.execSubmitCapsuleCmd capsule s
  | .getCapsuleResult input => Sys2Proof.Machine.execGetCapsuleResult input s
  | .getAttestationReport input => Sys2Proof.Machine.execGetAttestationReport input s
  | .getJournalSignature input => Sys2Proof.Machine.execGetJournalSignature input s
  | .readArchiveObject object => Sys2Proof.Machine.execReadArchiveObject object s
  | .getDeviceCertificate input => Sys2Proof.Machine.execGetDeviceCertificate input s
  | .unsupportedOpcode => Sys2Proof.Machine.execUnsupportedOpcode s
  | .mboxBackgroundDone => Sys2Proof.Machine.execMboxBackgroundDone s
  | .ideKeyChange io mem => Sys2Proof.Machine.execIdeKeyChange io mem s
  | .bundleIssue n => Sys2Proof.Machine.execBundleIssue n s
  | .nop n => Sys2Proof.Machine.execNop n s
  | .mpy n slot1 x a b sh => Sys2Proof.Machine.execMpy n slot1 x a b sh s
  | .mac n slot1 x a b sh => Sys2Proof.Machine.execMac n slot1 x a b sh s
  | .msu n slot1 x a b sh => Sys2Proof.Machine.execMsu n slot1 x a b sh s
  | .cmpy n slot1 x a b sh => Sys2Proof.Machine.execCmpy n slot1 x a b sh s
  | .cmac n slot1 x a b sh => Sys2Proof.Machine.execCmac n slot1 x a b sh s
  | .cmacj n slot1 x a b sh => Sys2Proof.Machine.execCmacj n slot1 x a b sh s
  | .ext n slot1 x a b sh => Sys2Proof.Machine.execExt n slot1 x a b sh s
  | .aclr n slot1 x a b sh => Sys2Proof.Machine.execAclr n slot1 x a b sh s
  | .amov n slot1 x a b sh => Sys2Proof.Machine.execAmov n slot1 x a b sh s
  | .ardl n slot1 x a b sh => Sys2Proof.Machine.execArdl n slot1 x a b sh s
  | .ardh n slot1 x a b sh => Sys2Proof.Machine.execArdh n slot1 x a b sh s
  | .ashl n slot1 x a b sh => Sys2Proof.Machine.execAshl n slot1 x a b sh s
  | .ashr n slot1 x a b sh => Sys2Proof.Machine.execAshr n slot1 x a b sh s
  | .acs n slot1 x a b sh => Sys2Proof.Machine.execAcs n slot1 x a b sh s
  | .add2 n slot1 x a b sh => Sys2Proof.Machine.execAdd2 n slot1 x a b sh s
  | .adds2 n slot1 x a b sh => Sys2Proof.Machine.execAdds2 n slot1 x a b sh s
  | .sub2 n slot1 x a b sh => Sys2Proof.Machine.execSub2 n slot1 x a b sh s
  | .subs2 n slot1 x a b sh => Sys2Proof.Machine.execSubs2 n slot1 x a b sh s
  | .add n slot1 x a b sh => Sys2Proof.Machine.execAdd n slot1 x a b sh s
  | .sub n slot1 x a b sh => Sys2Proof.Machine.execSub n slot1 x a b sh s
  | .and n slot1 x a b sh => Sys2Proof.Machine.execAnd n slot1 x a b sh s
  | .or n slot1 x a b sh => Sys2Proof.Machine.execOr n slot1 x a b sh s
  | .xor n slot1 x a b sh => Sys2Proof.Machine.execXor n slot1 x a b sh s
  | .shl n slot1 x a b sh => Sys2Proof.Machine.execShl n slot1 x a b sh s
  | .shr n slot1 x a b sh => Sys2Proof.Machine.execShr n slot1 x a b sh s
  | .asr n slot1 x a b sh => Sys2Proof.Machine.execAsr n slot1 x a b sh s
  | .min2 n slot1 x a b sh => Sys2Proof.Machine.execMin2 n slot1 x a b sh s
  | .max2 n slot1 x a b sh => Sys2Proof.Machine.execMax2 n slot1 x a b sh s
  | .movi n slot1 x imm => Sys2Proof.Machine.execMovi n slot1 x imm s
  | .movhi n slot1 x imm => Sys2Proof.Machine.execMovhi n slot1 x imm s
  | .slt n slot1 x a b sh => Sys2Proof.Machine.execSlt n slot1 x a b sh s
  | .seq n slot1 x a b sh => Sys2Proof.Machine.execSeq n slot1 x a b sh s
  | .ldh n d an mode ofs => Sys2Proof.Machine.execLdh n d an mode ofs s
  | .ldw n d an mode ofs => Sys2Proof.Machine.execLdw n d an mode ofs s
  | .ldd n d an mode ofs => Sys2Proof.Machine.execLdd n d an mode ofs s
  | .sth n d an mode ofs => Sys2Proof.Machine.execSth n d an mode ofs s
  | .stw n d an mode ofs => Sys2Proof.Machine.execStw n d an mode ofs s
  | .std n d an mode ofs => Sys2Proof.Machine.execStd n d an mode ofs s
  | .mova n d an => Sys2Proof.Machine.execMova n d an s
  | .movda n d an => Sys2Proof.Machine.execMovda n d an s
  | .setb n d an => Sys2Proof.Machine.execSetb n d an s
  | .setl n d an => Sys2Proof.Machine.execSetl n d an s
  | .setm n d k => Sys2Proof.Machine.execSetm n d k s
  | .adda n d an => Sys2Proof.Machine.execAdda n d an s
  | .br n target => Sys2Proof.Machine.execBr n target s
  | .bz n d target => Sys2Proof.Machine.execBz n d target s
  | .bnz n d target => Sys2Proof.Machine.execBnz n d target s
  | .blt n d target => Sys2Proof.Machine.execBlt n d target s
  | .bge n d target => Sys2Proof.Machine.execBge n d target s
  | .call n target => Sys2Proof.Machine.execCall n target s
  | .jr n d => Sys2Proof.Machine.execJr n d s
  | .ret n => Sys2Proof.Machine.execRet n s
  | .loop n d target => Sys2Proof.Machine.execLoop n d target s
  | .loopi n count target => Sys2Proof.Machine.execLoopi n count target s
  | .movtc n d idx => Sys2Proof.Machine.execMovtc n d idx s
  | .movfc n d idx => Sys2Proof.Machine.execMovfc n d idx s
  | .trap n code => Sys2Proof.Machine.execTrap n code s
  | .rti n => Sys2Proof.Machine.execRti n s
  | .ei n => Sys2Proof.Machine.execEi n s
  | .di n => Sys2Proof.Machine.execDi n s
  | .wait n => Sys2Proof.Machine.execWait n s
  | .halt n => Sys2Proof.Machine.execHalt n s
  | .brk n => Sys2Proof.Machine.execBrk n s
  | .interruptEntry n => Sys2Proof.Machine.execInterruptEntry n s
  | .trapEntry n cause eaddr code => Sys2Proof.Machine.execTrapEntry n cause eaddr code s
  | .waitWake n => Sys2Proof.Machine.execWaitWake n s
  | .dmaDescriptor n ch => Sys2Proof.Machine.execDmaDescriptor n ch s
  | .dmaTailWrite n ch tail => Sys2Proof.Machine.execDmaTailWrite n ch tail s
  | .dmaResume n ch => Sys2Proof.Machine.execDmaResume n ch s
  | .load o n fromHdm => Sys2Proof.Machine.execLoad o n fromHdm s
  | .loadVerifyDone n => Sys2Proof.Machine.execLoadVerifyDone n s
  | .rkCoreReset o n => Sys2Proof.Machine.execRkCoreReset o n s
  | .debugWindowWrite o n off w => Sys2Proof.Machine.execDebugWindowWrite o n off w s
  | .debugWindowRead o n off => Sys2Proof.Machine.execDebugWindowRead o n off s
  | .debugStep o n => Sys2Proof.Machine.execDebugStep o n s
  | .tallyTick inputs => Sys2Proof.Machine.execTallyTick inputs s
  | .tallyClr o n mask => Sys2Proof.Machine.execTallyClr o n mask s
  | .tallyEn o n mask => Sys2Proof.Machine.execTallyEn o n mask s
  | .sampleClr o n => Sys2Proof.Machine.execSampleClr o n s
  | .sampleD0Read o n => Sys2Proof.Machine.execSampleD0Read o n s
  | .sampleD3Read o n => Sys2Proof.Machine.execSampleD3Read o n s
  | .fabricClr o hi mask => Sys2Proof.Machine.execFabricClr o hi mask s
  | .scrubAccess lines => Sys2Proof.Machine.execScrubAccess lines s
  | .scrubLapEnd lines => Sys2Proof.Machine.execScrubLapEnd lines s
  | .lapSlow lines => Sys2Proof.Machine.execLapSlow lines s
  | .eccCorrection e => Sys2Proof.Machine.execEccCorrection e s
  | .correctionWriteback lines => Sys2Proof.Machine.execCorrectionWriteback lines s
  | .rowRemapCopyDone line => Sys2Proof.Machine.execRowRemapCopyDone line s
  | .uncorrectableError place reader => Sys2Proof.Machine.execUncorrectableError place reader s
  | .granuleFirstWrite a bytes => Sys2Proof.Machine.execGranuleFirstWrite a bytes s
  | .granuleFillDone g => Sys2Proof.Machine.execGranuleFillDone g s
  | .uninitialisedRead a => Sys2Proof.Machine.execUninitialisedRead a s
  | .flashOpTimeout target retried => Sys2Proof.Machine.execFlashOpTimeout target retried s
  | .flashReadDecode target b levels ok => Sys2Proof.Machine.execFlashReadDecode target b levels ok s
  | .archiveFormat => Sys2Proof.Machine.execArchiveFormat s
  | .formatDone => Sys2Proof.Machine.execFormatDone s
  | .grownBad b retired => Sys2Proof.Machine.execGrownBad b retired s
  | .wearLevelMove region onto => Sys2Proof.Machine.execWearLevelMove region onto s
  | .flashRefresh b corrections => Sys2Proof.Machine.execFlashRefresh b corrections s
  | .readDisturbRelocate b => Sys2Proof.Machine.execReadDisturbRelocate b s
  | .ringBudgetEval waf => Sys2Proof.Machine.execRingBudgetEval waf s
  | .mramCommit area done => Sys2Proof.Machine.execMramCommit area done s
  | .submitCapsule => Sys2Proof.Machine.execSubmitCapsule s
  | .installOfficer => Sys2Proof.Machine.execInstallOfficer s
  | .removeOfficer => Sys2Proof.Machine.execRemoveOfficer s
  | .loadPsk => Sys2Proof.Machine.execLoadPsk s
  | .clearPsk => Sys2Proof.Machine.execClearPsk s
  | .writePo => Sys2Proof.Machine.execWritePo s
  | .setTrust => Sys2Proof.Machine.execSetTrust s
  | .setAllow => Sys2Proof.Machine.execSetAllow s
  | .setCodeKey => Sys2Proof.Machine.execSetCodeKey s
  | .setSvnMin => Sys2Proof.Machine.execSetSvnMin s
  | .testPort => Sys2Proof.Machine.execTestPort s
  | .formatArchive => Sys2Proof.Machine.execFormatArchive s
  | .zeroise => Sys2Proof.Machine.execZeroise s
  | .release => Sys2Proof.Machine.execRelease s
  | .getResult => Sys2Proof.Machine.execGetResult s
  | .getAttest => Sys2Proof.Machine.execGetAttest s
  | .getJournalSig => Sys2Proof.Machine.execGetJournalSig s
  | .getCert => Sys2Proof.Machine.execGetCert s
  | .alsRestart => Sys2Proof.Machine.execAlsRestart s
  | .unknownMbxReq => Sys2Proof.Machine.execUnknownMbxReq s
  | .mbxIn o w => Sys2Proof.Machine.execMbxIn o w s
  | .mbxOutRead o => Sys2Proof.Machine.execMbxOutRead o s
  | .alarmAction c tap => Sys2Proof.Machine.execAlarmAction c tap s
  | .alsShutdown c => Sys2Proof.Machine.execAlsShutdown c s
  | .alsPulseStart c => Sys2Proof.Machine.execAlsPulseStart c s
  | .alsPulseEnd c => Sys2Proof.Machine.execAlsPulseEnd c s
  | .alsRecovery c => Sys2Proof.Machine.execAlsRecovery c s
  | .tamperInput n => Sys2Proof.Machine.execTamperInput n s
  | .zeroisePin => Sys2Proof.Machine.execZeroisePin s
  | .testPortExpiry => Sys2Proof.Machine.execTestPortExpiry s
  | .rk0HeartbeatCheck => Sys2Proof.Machine.execRk0HeartbeatCheck s
  | .rk0RecoveryReset => Sys2Proof.Machine.execRk0RecoveryReset s
  | .rk0RecoveryEnd => Sys2Proof.Machine.execRk0RecoveryEnd s
  | .lockstepFail => Sys2Proof.Machine.execLockstepFail s
  | .hkSequence n src refs temps => Sys2Proof.Machine.execHkSequence n src refs temps s
  | .hkStart o n readings => Sys2Proof.Machine.execHkStart o n readings s
  | .hkSequenceDone n codes refs temps => Sys2Proof.Machine.execHkSequenceDone n codes refs temps s
  | .urgGo o n input readings => Sys2Proof.Machine.execUrgGo o n input readings s
  | .hkCalibration n ends offset gain refs temps => Sys2Proof.Machine.execHkCalibration n ends offset gain refs temps s
  | .auxStep n => Sys2Proof.Machine.execAuxStep n s
  | .auxRangeChange n => Sys2Proof.Machine.execAuxRangeChange n s
  | .rangeDone n => Sys2Proof.Machine.execRangeDone n s
  | .auxclrPin low => Sys2Proof.Machine.execAuxclrPin low s
  | .auxLadderCal n ms => Sys2Proof.Machine.execAuxLadderCal n ms s
  | .calMeasurement item unit sub m1 m2 => Sys2Proof.Machine.execCalMeasurement item unit sub m1 m2 s
  | .calStore => Sys2Proof.Machine.execCalStore s
  | .storeNow o => Sys2Proof.Machine.execStoreNow o s
  | .pwrReq o state => Sys2Proof.Machine.execPwrReq o state s
  | .pwrEntryAction => Sys2Proof.Machine.execPwrEntryAction s
  | .pwrExit counts => Sys2Proof.Machine.execPwrExit counts s
  | .pwrTransitionEnd => Sys2Proof.Machine.execPwrTransitionEnd s
  | .orderlyShutdown results => Sys2Proof.Machine.execOrderlyShutdown results s
  | .wakeSource source => Sys2Proof.Machine.execWakeSource source s
  | .wakeInPin => Sys2Proof.Machine.execWakeInPin s
  | .pwrgdLow => Sys2Proof.Machine.execPwrgdLow s
  | .avsAck => Sys2Proof.Machine.execAvsAck s
  | .avsRetry => Sys2Proof.Machine.execAvsRetry s
  | .regFaultPoll within => Sys2Proof.Machine.execRegFaultPoll within s
  | .governorEval => Sys2Proof.Machine.execGovernorEval s
  | .lrefLoss => Sys2Proof.Machine.execLrefLoss s
  | .lrefReturn => Sys2Proof.Machine.execLrefReturn s
  | .aonOscTrim trim => Sys2Proof.Machine.execAonOscTrim trim s
  | .tbSet o => Sys2Proof.Machine.execTbSet o s
  | .tbAlarm => Sys2Proof.Machine.execTbAlarm s
  | .ppsEdge => Sys2Proof.Machine.execPpsEdge s
  | .ppsLost => Sys2Proof.Machine.execPpsLost s
  | .ppsNextWrite o sec => Sys2Proof.Machine.execPpsNextWrite o sec s
  | .ppsOutPulse => Sys2Proof.Machine.execPpsOutPulse s
  | .odGo o b => Sys2Proof.Machine.execOdGo o b s
  | .odTestEnd result => Sys2Proof.Machine.execOdTestEnd result s
  | .odDeniedRead o p off => Sys2Proof.Machine.execOdDeniedRead o p off s
  | .deviceStart report => Sys2Proof.Machine.execDeviceStart report s
  | .trialSuccess => Sys2Proof.Machine.execTrialSuccess s
  | .trialFail => Sys2Proof.Machine.execTrialFail s
  | .onlineCoreReload => Sys2Proof.Machine.execOnlineCoreReload s
  | .onlineActivationCommit => Sys2Proof.Machine.execOnlineActivationCommit s
  | .rk0EscalationReset => Sys2Proof.Machine.execRk0EscalationReset s
  | .skewSlew c receive => Sys2Proof.Machine.execSkewSlew c receive s
  | .snapshotEnd => Sys2Proof.Machine.execSnapshotEnd s
  | .kqErase k => Sys2Proof.Machine.execKqErase k s
  | .zeroiseNRelease => Sys2Proof.Machine.execZeroiseNRelease s
  | .tamperInputClear n => Sys2Proof.Machine.execTamperInputClear n s
  | .vddAonLoss => Sys2Proof.Machine.execVddAonLoss s
  | .perstNAssert => Sys2Proof.Machine.execPerstNAssert s
  | .hostLinkUp rate width mem => Sys2Proof.Machine.execHostLinkUp rate width mem s
  | .laneMarginingCommand lane begins => Sys2Proof.Machine.execLaneMarginingCommand lane begins s
  | .msixUnmask vector => Sys2Proof.Machine.execMsixUnmask vector s
  | .inServiceSecondsUpdate => Sys2Proof.Machine.execInServiceSecondsUpdate s
  | .onlineActivationBusy => Sys2Proof.Machine.execOnlineActivationBusy s

end Sys2Proof.Machine
end

