-- ==== Sys2Proof/WellFormed.lean ====
section
/-! DEFINITION. WellFormed.lean: the operands a command may carry.  Operand types bound what they can (a lane is a `Fin 8`);
the checks here bound the rest. -/
namespace Sys2Proof

/-- A 32-bit register of BAR0 (R540, R361). -/
def addressOk (addr : Nat) : Bool := decide (addr < 0x4000000) && addr % 4 == 0

/-- An address inside a page (R541-R543) or a core's debug window (R397). -/
def addressMapped (addr : Nat) : Bool :=
  (Machine.pageOfAddr addr).isSome || (decide (0x1000000 ≤ addr) && decide (addr < 0x2000000))

/-- An access R361 serves as it stands: an aligned read of 4 or 8 bytes. -/
def accessServed (addr len : Nat) : Bool := (len == 4 && addr % 4 == 0) || (len == 8 && addr % 8 == 0)

/-- Message fields fit the layout of R253: FLAGS [7:5] are 0, SEQ and ACK have 32 bits, LEN is at most 16,384. -/
def messageOk (m : Message) : Bool :=
  decide (m.flags < 32) && decide (m.seq < 2 ^ 32) && decide (m.ack < 2 ^ 32)
    && decide (16 + m.body.length + m.sig.length + (if m.mac.isSome then 33 else 0) ≤ 16384)
    && (m.sig.length == 0 || m.sig.length == 3309) && (match m.mac with | some e => decide (e.1 < 256) | none => true)

/-- A line of memory: 64 bytes at a multiple of 64 below a bound (R364, R420). -/
def lineOk (bound a : Nat) (bytes : List Byte) : Bool := decide (a < bound) && a % 64 == 0 && bytes.length == 64

/-- What a coordinated sleep can ask for (R267): Sleep, Deep sleep or Off, after a 16-bit DELAY. -/
def sleepOk : SleepRequest → Bool
  | .received m => messageOk m
  | .ask state delay => decide (1 ≤ state) && decide (state ≤ 3) && decide (delay < 65536)

/-- The operands of a command are as its row can carry them. -/
def wellFormed : Instr → Bool
  | .registerWrite _ addr _ _ => addressOk addr
  | .hostMisalignedAccess write addr len _ =>
    decide (1 ≤ len) && decide (addr + len ≤ 0x4000000) && (write || !accessServed addr len)
  | .unmappedBar0Write _ addr _ => addressOk addr && !addressMapped addr
  | .earlyBar0Write addr _ => addressOk addr
  | .xLoReadLatch _ addr wide => addressOk addr && (!wide || addr % 8 == 0)
  | .vcViolation o => o != .plinth
  | .cxlMemRead off => decide (off < 32 * 2 ^ 30) && off % 64 == 0
  | .cxlMemWrite off bytes => lineOk (32 * 2 ^ 30) off bytes
  | .granuleFirstWrite a bytes => lineOk (124 * 2 ^ 30) a bytes
  | .uninitialisedRead a => decide (a < 124 * 2 ^ 30) && a % 64 == 0
  | .granuleFillDone g => decide (g < 124 * 2 ^ 10)
  | .rowRemapCopyDone line => decide (line < 124 * 2 ^ 24)
  | .trapEntry _ cause _ _ => cause.val != 0
  | .unknownTypeMessage _ type m => decide (0x11 < type.toNat) && messageOk m
  | .ack _ m => messageOk m
  | .hello _ m => messageOk m
  | .caps _ m => messageOk m
  | .attest _ m => messageOk m
  | .kemInit _ m => messageOk m
  | .kemResp _ m => messageOk m
  | .keyConfirm _ m => messageOk m
  | .rekey _ m => messageOk m
  | .rateOffer _ m => messageOk m
  | .rateAccept _ m => messageOk m
  | .step _ m => messageOk m
  | .stepAck _ m => messageOk m
  | .routeSwitch _ m => messageOk m
  | .timeMsg _ m => messageOk m
  | .refuse _ m => messageOk m
  | .sleepReq _ r => sleepOk r
  | .wakeMsg _ (.received m) => messageOk m
  | .telemetry _ (.received m) => messageOk m
  | _ => true

end Sys2Proof
end

