-- ==== Sys2Proof/Safety.lean ====
section
/-! DEFINITION. Safety.lean: what a run without a stop is, in the terms the statements use. -/
namespace Sys2Proof.Machine

open Sys2Proof (Byte)

/-- The canonical form of a byte memory: addresses rise and no entry holds what an unlisted byte reads as. -/
def byteMapWf (m : Sparse Byte) : Bool := sparseWf (fun _ => 0) m

/-- The canonical form of the LPDDR5X maps. -/
def Memories.wf (m : Memories) : Bool :=
  byteMapWf m.lpddr && sparseWf (fun _ => false) m.granules && sparseWf (fun _ => false) m.poisoned

/-- The canonical form of the register file (R4). -/
def State.regsWf (s : State) : Bool := sparseWf resetWord s.regs

/-- The register file and every memory are in canonical form, so that equal contents are equal data. -/
def State.wf (s : State) : Bool :=
  s.regsWf && sparseWf (fun _ => 0) s.tickEvents && s.dsram.all byteMapWf && s.isram.all byteMapWf && s.memories.wf

end Sys2Proof.Machine

namespace Sys2Proof.Safety

open Sys2Proof Sys2Proof.Machine

/-- A command ends in a next state. -/
def Completes (c : Instr) (s : State) : Prop := ∃ t, exec c s = .next t

/-- A command ends in a next state of which `P` holds. -/
def Ends (c : Instr) (s : State) (P : State → Prop) : Prop := ∃ t, exec c s = .next t ∧ P t

/-- A write of `v` to the register at `off` of page `p` is taken: the host, if it is the origin, is ready (R357), the device
is not in Idle (R510), no core's step waits, nothing of R49 refuses the write, and it changes something (R54). -/
abbrev Takes (o : Origin) (p : Page) (off : Nat) (v : Word) (s : State) : Prop :=
  (o = .host → s.hostReady = true) ∧ s.power ≠ pwrIdle ∧ s.stepsDue = [] ∧ writeReason s o p off v = .none ∧
    writeChanges s p off (shownWord s o p off) v = true

/-- A write of one field is taken, the register's other bits as last accepted and its other strobes 0. -/
abbrev TakesField (o : Origin) (p : Page) (f : Field) (v : Nat) (s : State) : Prop :=
  Takes o p f.off (overlay (plainWord p f.off (acceptedWord s p f.off)) f v) s

/-- Pages that Patina's own write leaves alone: it may follow every write (R444) and reaches CAST, ARC, CJ and LPM. -/
def aloof (p : Page) : Bool := !(p == .cast || p == .arc || p == .cj || p == .lpm)

/-- A message on path `x` of session `k` whose turn has come: Quolet and RK1 run (R36), no HELLO is awaited, it is the next in sequence with
none held ahead, its MAC is good and its length fits its TYPE (R254, R255). -/
abbrev InTurn (x k : Carrier) (type : Nat) (m : Message) (s : State) : Prop :=
  quoletRuns s = true ∧ ownerOf s x = some k ∧ (session s k).awaitHello = false ∧ (session s k).ahead = [] ∧
    m.seq = (session s k).recvSeq ∧ macGood s k type m = true ∧ lengthFits type m.body = true

/-- A mailbox command reaches its meaning: the device is ready (R357) and nothing bars the opcode. -/
abbrev MailboxTakes (opcode : Nat) (s : State) : Prop := s.hostReady = true ∧ mboxBarred s opcode = false

/-- A saturating counter of one field has counted one. -/
abbrev Counted (p : Page) (f : Field) (s t : State) : Prop := t.get p f = min (s.get p f + 1) (2 ^ f.width - 1)

/-- A core with the results due for its next bundle landed, and a D register of it. -/
abbrev landed (s : State) (n : Fin 8) : Core := landDue n (coreAt s n)
abbrev dreg (s : State) (n : Fin 8) (k : Nat) : Word := (landed s n).d.getD k 0

/-- Bundles of one slot word. -/
abbrev macBundle (slot1 : Bool) (w : Word) : Bundle := if slot1 then ⟨0, w, 0, 0⟩ else ⟨w, 0, 0, 0⟩
abbrev lsBundle (w : Word) : Bundle := ⟨0, 0, w, 0⟩
abbrev ctBundle (w : Word) : Bundle := ⟨0, 0, 0, w⟩

/-- A core takes a bundle: its page runs, it does not wait in WAIT, it does not stand at a breakpoint, and no STEP strobe of
another core waits. -/
abbrev TakesBundle (n : Fin 8) (s : State) : Prop :=
  s.running (.rk n) = true ∧ (coreAt s n).waiting = false ∧ atBreakpoint s n = false ∧ s.stepsDue = []

/-- The trap a bundle that the core takes meets. -/
abbrev trapOf (n : Fin 8) (b : Bundle) (s : State) : Option (Nat × Option Nat × Nat) :=
  bundleTrap (putCore s n (landed s n)) n (landed s n) b

/-- A core takes a bundle and the bundle meets no trap (R376, R380, R390). -/
abbrev Issues (n : Fin 8) (b : Bundle) (s : State) : Prop := TakesBundle n s ∧ trapOf n b s = none

/-- Register D `k` receives `w`, readable `latency` bundles after this one (R379). -/
abbrev Delivers (n : Fin 8) (k : Nat) (w : Word) (latency : Nat) (s t : State) : Prop :=
  flightD (landed s n) k w latency ∈ (coreAt t n).flights

/-- Beside core `n` and the events counted in a tick nothing has changed. -/
abbrev CoreOnly (n : Fin 8) (s t : State) : Prop :=
  t = { s with cores := t.cores, tickEvents := t.tickEvents } ∧ ∀ k, k ≠ n → coreAt t k = coreAt s k

/-- Beside core `n`, the events of a tick, the core's DSRAM and the queued write-backs of SRAM nothing has changed. -/
abbrev StoreOnly (n : Fin 8) (s t : State) : Prop :=
  t = { s with
    cores := t.cores
    tickEvents := t.tickEvents
    dsram := t.dsram
    memories := { s.memories with sram := { s.memories.sram with writeBack := t.memories.sram.writeBack } } } ∧
    ∀ k, k ≠ n → coreAt t k = coreAt s k ∧ coreData t k = coreData s k

/-- A bundle leaves the core's D registers, exception registers, special registers and DMA channels as its landed results
left them. -/
abbrev DataKept (n : Fin 8) (s t : State) : Prop :=
  (coreAt t n).d = (landed s n).d ∧ (coreAt t n).epc = (landed s n).epc ∧ (coreAt t n).ecause = (landed s n).ecause ∧
    (coreAt t n).eaddr = (landed s n).eaddr ∧ (coreAt t n).estatus = (landed s n).estatus ∧
    (coreAt t n).vbase = (landed s n).vbase ∧ (coreAt t n).ien = (landed s n).ien ∧ (coreAt t n).tb0 = (landed s n).tb0 ∧
    (coreAt t n).tb1 = (landed s n).tb1 ∧ (coreAt t n).dma0 = (landed s n).dma0 ∧ (coreAt t n).dma1 = (landed s n).dma1

/-- It leaves the address, base, length and modifier registers. -/
abbrev PointersKept (n : Fin 8) (s t : State) : Prop :=
  (coreAt t n).a = (landed s n).a ∧ (coreAt t n).b = (landed s n).b ∧ (coreAt t n).l = (landed s n).l ∧
    (coreAt t n).m = (landed s n).m ∧ (coreAt t n).cbstat = (landed s n).cbstat

/-- It leaves the accumulators. -/
abbrev AccumulatorsKept (n : Fin 8) (s t : State) : Prop :=
  (coreAt t n).ac = (landed s n).ac ∧ (coreAt t n).slow = (landed s n).slow

/-- It leaves the link register and STATUS. -/
abbrev LinkKept (n : Fin 8) (s t : State) : Prop := (coreAt t n).link = (landed s n).link
abbrev StatusKept (n : Fin 8) (s t : State) : Prop := (coreAt t n).status = (landed s n).status

/-- What an access of the register at `off` of page `p` finds: a device in Idle is woken (R510). -/
abbrev reached (o : Origin) (p : Page) (off : Nat) (s : State) : State := busAccess o (pageBase p + off) s

/-- An origin's 32-bit access of a register: the host waits for host-ready (R357), no core's STEP strobe waits. -/
abbrev Accesses (o : Origin) (off : Nat) (s : State) : Prop :=
  off < 0x1000 ∧ off % 4 = 0 ∧ (o = .host → s.hostReady = true) ∧ s.stepsDue = []

/-- The newest journal entry of `t` has this ADDR, OLD, NEW, INFO and TIME_NS (R59). -/
abbrev Journalled (addr : Nat) (old new info : Word) (timeNs : Nat) (t : State) : Prop :=
  (t.journal.buffer.getLast?.map fun e => (e.addr, e.old, e.new, e.info, e.timeNs)) = some (addr, old, new, info, timeNs)

/-- The refusal of a write of `w` is counted in the page's REFUSED_WR, whose LAST fields describe it, and journalled
(R51, R59). -/
abbrev Refused (r : Reason) (o : Origin) (p : Page) (off : Nat) (w : Word) (s t : State) : Prop :=
  Counted p HDR.REFUSED_WR.COUNT s t ∧ t.get p HDR.REFUSED_WR.LAST_REASON = r.code ∧
    t.get p HDR.REFUSED_WR.LAST_ORIGIN = o.code ∧ t.get p HDR.REFUSED_WR.LAST_WORD = off / 4 ∧
    Journalled (pageBase p + off) (shownWord s o p off) w (entryInfo s o.code .refused r.code) s.nowNs t

/-- The commands that address something outside the windows the spec gives the device, and the fault they end in. -/
def outsideWindows : Instr → Option Fault
  | .registerWrite _ addr _ _ | .unmappedBar0Write _ addr _ | .earlyBar0Write addr _ | .xLoReadLatch _ addr _ =>
    if inBar0 addr then none else some .outsideBar0
  | .hostMisalignedAccess _ addr len _ => if inBar0 (addr + len - 1) then none else some .outsideBar0
  | .cxlMemRead off => if off < hdmBytes then none else some .outsideHdm
  | .cxlMemWrite off _ => if off < hdmBytes then none else some .outsideHdm
  | _ => none

/-- The pages that any write of a register may change beside its own: the journal and its ring in memory (R59, R62), PWR, which
an access wakes from Idle (R510), the counts of an early (R357) and a tested (R538) page, and THIN with what it depends on (R444). -/
def wrotePage (q : Page) : Bool := q matches .cj | .lpm | .pwr | .hlk | .bst | .cast | .arc

/-- `s` with the parts of `t` that any write of a register may change, the live fields that wait for a boundary (R55) and the times
that begin with a request to the regulator among them. -/
def wroteState (s t : State) : State :=
  { s with
    regs := t.regs
    journal := t.journal
    evr := t.evr
    memories := t.memories
    tickEvents := t.tickEvents
    archive := t.archive
    semaphores := t.semaphores
    vddRequested := t.vddRequested
    pwrMgr := t.pwrMgr
    staged := t.staged
    timers := t.timers }

/-- A command changes no register outside the pages of `pages`, and nothing else than `rest` takes from the next state. -/
def Frame (c : Instr) (pages : Page → Bool) (rest : State → State → State) : Prop :=
  ∀ s t, exec c s = .next t → t = rest s t ∧ ∀ q off, pages q = false → word t q off = word s q off

/-- The same of a command that writes a register, while no core's STEP strobe waits. -/
def WriteFrame (c : Instr) (pages : Page → Bool) (rest : State → State → State) : Prop :=
  ∀ s t, s.stepsDue = [] → exec c s = .next t → t = rest s t ∧ ∀ q off, pages q = false → word t q off = word s q off

/-- Every command that waits is well formed. -/
def QueueOk (s : State) : Prop := ∀ c ∈ s.pending, wellFormed c = true

/-- `k` steps run without a fault or a refusal. -/
def Runs : Nat → State → Prop
  | 0, _ => True
  | k + 1, s => ∃ t, step s = .next t ∧ Runs k t

end Sys2Proof.Safety
end

