-- ==== Sys2Proof/Certificates/Slice0/Obligations.lean ====
section
/-! DEFINITION. Certificates/Slice0/Obligations.lean: the statements for the provers.  The completion statements have one
clause a command or form: under conditions on the state and the operands alone, exec ends in a next state of which the
stated facts hold. -/
open Sys2Proof Sys2Proof.Machine Sys2Proof.Safety

/-- A step takes the command at the front of the queue and runs it on the state with the queue's rest. -/
def Obligations.StepRunsTheFrontCommand : Prop :=
  ∀ (c : Instr) (rest : List Instr) (s : State), s.pending = c :: rest → step s = exec c { s with pending := rest }

/-- The model's own choice (log 6, log 9, log 14): on an empty queue the block idles. In Run and Idle the time base (R519) and
the Plinth's elapsed count (R231) advance by 1 ns, the times that run while a condition holds begin or end, and the live
fields that wait on a running page of symbol blocks, oFEC blocks or 257b blocks come into force; with none waiting nothing
else changes, and in every other power state nothing changes. -/
def Obligations.AnEmptyQueueIdles : Prop :=
  ∀ s : State, s.pending = [] → ∃ t, step s = .next t ∧
    (s.power ≠ pwrRun ∧ s.power ≠ pwrIdle → t = s) ∧
    (s.power = pwrRun ∨ s.power = pwrIdle → t.nowNs = (s.nowNs + 1) % 2 ^ 64 ∧ t.elapsedNs = s.elapsedNs + 1 ∧
      t.staged = s.staged.filter (fun x => !((pageOfAddr x.addr).any fun p => tickPage p && s.running p)) ∧
      (s.staged = [] → t = { s with nowNs := t.nowNs, elapsedNs := t.elapsedNs, timers := (followTimers s).timers }))

/-- The state after reset has its register file, counters and memories in canonical form. -/
def Obligations.ResetIsWellFormed : Prop :=
  State.reset.wf = true

/-- Every step keeps the canonical form of the register file, the event counts and every memory, from every state that has it,
whatever the command. -/
def Obligations.WellFormedIsKept : Prop :=
  ∀ s t : State, s.wf = true → step s = .next t → t.wf = true

/-- No command changes the queue: a step takes its front command away and leaves the rest in order. -/
def Obligations.CommandsKeepTheQueue : Prop :=
  (∀ (c : Instr) (s t : State), exec c s = .next t → t.pending = s.pending) ∧
  (∀ (c : Instr) (rest : List Instr) (s t : State), s.pending = c :: rest → step s = .next t → t.pending = rest)

/-- Every command ends in a next state, whatever its operands and the state, but for the accesses of an address outside BAR0
(R362) or of an offset outside the HDM window (R363), which end in the fault of their name; nothing is refused. -/
def Obligations.OnlyAbsentAddressesStop : Prop :=
  ∀ (c : Instr) (s : State),
    (outsideWindows c = none → ∃ t, exec c s = .next t) ∧
    (∀ f, outsideWindows c = some f → exec c s = .fault f) ∧
    (∀ r, exec c s ≠ .refused r)

/-- What reset leaves: every page's write, refusal, error and event counts at 0 and no fault (R40, R42, R43, R68), the line,
client and core pages stopped and EVR, CJ and PLN running (R41), OWNER.MASK of GLB and RPS (R46), and values of the field
tables of FEC, RPS and ARC (R215, R287, R454). -/
def Obligations.ResetValues : Prop :=
  (∀ p : Page, State.reset.get p HDR.SEQ.COUNT = 0 ∧ State.reset.get p HDR.REFUSED_WR.COUNT = 0 ∧
    State.reset.get p HDR.ERRLOG.COUNT = 0 ∧ State.reset.get p HDR.EVT_RAW.EVT = 0 ∧ State.reset.get p HDR.RUNSTAT.FAULT = 0) ∧
  (∀ c : Carrier, State.reset.stopped (.lfm c) = true ∧ State.reset.stopped (.fec c) = true ∧ State.reset.stopped (.cry c) = true ∧
    State.reset.stopped (.cpc c) = true ∧ State.reset.get (.fec c) FEC.SD_THR.THR = 0x028F5C29 ∧
    State.reset.get (.fec c) FEC.SF_THR.THR = 0x049BA5E3) ∧
  (∀ n : Fin 8, State.reset.stopped (.rk n) = true ∧ State.reset.stopped (.lrx n) = true ∧ State.reset.stopped (.ltx n) = true) ∧
  State.reset.running .evr = true ∧ State.reset.running .cj = true ∧ State.reset.running .pln = true ∧
  State.reset.get .glb HDR.OWNER.MASK = 0x0407 ∧ State.reset.get .rps HDR.OWNER.MASK = 0x0407 ∧
  State.reset.get .rps RPS.MAX_DELAY.DELAY = 0x4E20 ∧ State.reset.get .rps RPS.TIMERS.WTR = 0x1E ∧
  State.reset.get .rps RPS.CTL.MODE = 0 ∧ State.reset.get .arc ARC.ENDURANCE.CYCLES = 0xBB8

/-- RUNCTL_RUN, RUNCTL_STOP and the completion and overrun of a start or a stop (R40, R41): an accepted RUN enters starting, an
accepted STOP stopping, a ready start ends in running, a stop in stopped, and an overrun sets FAULT and stays. Readings of
the model's own that the values rest on: log 7, 12, 13. -/
def Obligations.PageTransitionsComplete : Prop :=
  (∀ (o : Origin) (p : Page) (s : State),
    TakesField o p HDR.RUNCTL.CMD 1 s →
    Ends (.runctlRun o p) s fun t =>
      t.run p = .starting) ∧
  (∀ (o : Origin) (p : Page) (s : State),
    TakesField o p HDR.RUNCTL.CMD 2 s →
    Ends (.runctlStop o p) s fun t =>
      t.run p = .stopping) ∧
  (∀ (p : Page) (ok : Bool) (band gain : Int × Int) (s : State),
    s.run p = .starting →
    startReady s p = true →
    ok = true →
    Ends (.pageStartComplete p ok band gain) s fun t =>
      t.run p = .running) ∧
  (∀ (p : Page) (s : State),
    s.run p = .stopping →
    Ends (.pageStopComplete p) s fun t =>
      t.run p = .stopped) ∧
  (∀ (p : Page) (s : State),
    (s.run p = .starting ∨ s.run p = .stopping) →
    Ends (.pageBoundOverrun p) s fun t =>
      t.flag p HDR.RUNSTAT.FAULT = true ∧
      t.run p = s.run p)

/-- The access commands of BAR0 (R44, R49, R51, R55, R357, R361, R542, R582): an accepted write of a register without further
effect is counted and its fields are stored, live fields that wait for a boundary (R44, R55) as accepted values, a write
outside the pages is journalled as refused, an early one counted, an odd one refused or answered, and a read of a _LO
register latches its partner. Readings of the model's own that the values rest on: log 13, 14, 15, 16, 49. -/
def Obligations.RegisterAccessesComplete : Prop :=
  (∀ (o : Origin) (p : Page) (off : Nat) (w : Word) (readings : List Int) (s : State),
    off < 0x1000 ∧ off % 4 = 0 ∧ off ≠ HDR.SEQ.COUNT.off ∧ heldElsewhere p off = false →
    Takes o p off w s →
    (∀ u : State, writeEffect o p off (shownWord s o p off) w readings u = u) →
    Ends (.registerWrite o (pageBase p + off) w readings) s fun t =>
      (aloof p = true ∧ liveWaits p off w = false → word t p off = keptWord p off (word s p off) w) ∧
      (aloof p = true ∧ liveWaits p off w = true → stagedWord t (pageBase p + off) = some w ∧
        word t p off = takeFields (fieldsOf p off .rwL) (keptWord p off (word s p off) w) (word s p off)) ∧
      (aloof p = true → t.get p HDR.SEQ.COUNT = (s.get p HDR.SEQ.COUNT + 1) % 2 ^ 32)) ∧
  (∀ (o : Origin) (addr : Nat) (w : Word) (s : State),
    addr < 0x4000000 ∧ debugCore addr = none ∧ pageOfAddr addr = none →
    (o = .host → s.hostReady = true) ∧ s.power ≠ pwrIdle ∧ s.stepsDue = [] →
    (o = .plinth ∨ onlyReserve s = false) →
    Ends (.unmappedBar0Write o addr w) s fun t =>
      (t.journal.buffer.getLast?.map fun e => (e.addr, e.old, e.new)) = some (addr, 0, w)) ∧
  (∀ (addr : Nat) (w : Word) (s : State),
    addr < 0x4000000 →
    s.hostReady = false →
    Ends (.earlyBar0Write addr w) s fun t =>
      t.get .hlk HLK.EARLY_WR.COUNT = min (s.get .hlk HLK.EARLY_WR.COUNT + 1) (2 ^ HLK.EARLY_WR.COUNT.width - 1)) ∧
  (∀ (addr len : Nat) (w : Word) (s : State),
    addr + len - 1 < 0x4000000 →
    Ends (.hostMisalignedAccess false addr len w) s fun t =>
      t.answer = .unsupportedRequest) ∧
  (∀ (addr len : Nat) (w : Word) (s : State),
    addr + len - 1 < 0x4000000 ∧ addr < 2 ^ 26 →
    s.hostReady = true →
    Ends (.hostMisalignedAccess true addr len w) s fun t =>
      t.get .hlk HLK.ACC_LAST.OFFSET = addr) ∧
  (∀ (o : Origin) (p : Page) (off : Nat) (s : State),
    off < 0x1000 ∧ off % 4 = 0 ∧ isLo p off = true →
    (o = .host → s.hostReady = true) ∧ s.power ≠ pwrIdle ∧ underTest s p = false →
    Ends (.xLoReadLatch o (pageBase p + off) false) s fun t =>
      latched t o (pageBase p + off + 4) = some (shownWord s o p (off + 4)))

/-- Accepted writes of the common header (R42, R68): CLR empties REFUSED_WR and ERRLOG, a 1 clears an event bit, EVT_SET raises
the page's own events. Readings of the model's own that the values rest on: log 5, 13, 18. -/
def Obligations.HeaderWritesComplete : Prop :=
  (∀ (o : Origin) (p : Page) (s : State),
    TakesField o p HDR.REFUSED_WR.CLR 1 s →
    Ends (.refusedWrClr o p) s fun t =>
      (aloof p = true → t.get p HDR.REFUSED_WR.COUNT = 0 ∧ t.get p HDR.REFUSED_WR.LAST_REASON = 0)) ∧
  (∀ (o : Origin) (p : Page) (s : State),
    TakesField o p HDR.ERRLOG.CLR 1 s →
    Ends (.errlogClr o p) s fun t =>
      (aloof p = true → t.get p HDR.ERRLOG.COUNT = 0 ∧ t.get p HDR.ERRLOG.CODE = 0 ∧ t.get p HDR.ERRLOG.DETAIL = 0)) ∧
  (∀ (o : Origin) (p : Page) (mask : BitVec 16) (s : State),
    Takes o p HDR.EVT_RAW.EVT.off (mask.setWidth 32) s →
    Ends (.evtRawClear o p mask) s fun t =>
      (aloof p = true → t.get p HDR.EVT_RAW.EVT = s.get p HDR.EVT_RAW.EVT - (s.get p HDR.EVT_RAW.EVT &&& mask.toNat))) ∧
  (∀ (o : Origin) (p : Page) (mask : BitVec 16) (s : State),
    Takes o p HDR.EVT_SET.SET.off (mask.setWidth 32) s →
    Ends (.evtSet o p mask) s fun t =>
      (aloof p = true → t.get p HDR.EVT_RAW.EVT = s.get p HDR.EVT_RAW.EVT ||| mask.toNat % 2 ^ evtSrc p))

/-- EVR takes messages, at which waiting route entries come into force, and route entries (R70 to R72), software events are set
and cleared (R71), semaphores acquired and released (R26, R27), and a packet of another origin on the Plinth's channel is
reported (R23). Readings of the model's own that the values rest on: log 14, 17, 18, 78. -/
def Obligations.EventAndSemaphoreCommandsComplete : Prop :=
  (∀ (s : State),
    (nextSet s).isSome = true →
    Ends (.evrSetMessage) s fun t =>
      (∀ src, nextSet (applyRoutes s) = some src → src ∈ t.evr.pending) ∧
      t.evr.staged = []) ∧
  (∀ (src : Nat) (s : State),
    (s.evr.messages.find? (fun (x : Nat × Bool) => x.1 == src)).map Prod.snd = some false →
    Ends (.evrClearMessage src) s fun t =>
      t.evr.pending.contains src = false) ∧
  (∀ (o : Origin) (w : Word) (s : State),
    Takes o .evr EVR.RT_DATA.VECTOR.off w s →
    Ends (.rtDataWrite o w) s fun t =>
      routeAccepted t (s.get .evr EVR.RT_INDEX.INDEX) =
        newWord .evr EVR.RT_DATA.VECTOR.off (shownWord s o .evr EVR.RT_DATA.VECTOR.off) w ∧
      t.evr.routes = s.evr.routes) ∧
  (∀ (o : Origin) (mask : BitVec 16) (s : State),
    Takes o .evr EVR.SW_SET.SET.off (mask.setWidth 32) s →
    Ends (.swSet o mask) s fun t =>
      (∀ n : Fin 16, mask.getLsbD n.val = true → t.evr.pending.contains (1520 + n.val) = true)) ∧
  (∀ (o : Origin) (mask : BitVec 16) (s : State),
    Takes o .evr EVR.SW_CLR.CLR.off (mask.setWidth 32) s →
    Ends (.swClr o mask) s fun t =>
      (∀ n : Fin 16, mask.getLsbD n.val = true → t.evr.pending.contains (1520 + n.val) = false)) ∧
  (∀ (o : Origin) (n : Fin 64) (s : State),
    TakesField o .arm (ARM.SEM.CMD.at n.val) 1 s →
    (semaphore s n.val).holder = none ∧ highestLevel s o < semLevel n.val →
    Ends (.semAcquire o n) s fun t =>
      (semaphore t n.val).holder = some o) ∧
  (∀ (o : Origin) (n : Fin 64) (s : State),
    TakesField o .arm (ARM.SEM.CMD.at n.val) 2 s →
    (semaphore s n.val).holder = some o →
    Ends (.semRelease o n) s fun t =>
      (semaphore t n.val).holder = none) ∧
  (∀ (o : Origin) (s : State),
    o ≠ .plinth →
    Ends (.vcViolation o) s fun t =>
      t.get .arm HDR.EVT_RAW.EVT = setBit (s.get .arm HDR.EVT_RAW.EVT) ARM.EVT.VC_VIOLATION)

/-- Received boundaries are compared and the lock released (R18, R20); slips, drops and underruns count in their page (R32 to
R34). Readings of the model's own that the values rest on: log 10, 20. -/
def Obligations.TimingCommandsComplete : Prop :=
  (∀ (csfA csfB : BitVec 40) (skew : Option Nat) (s : State),
    Ends (.csfPairCompare csfA csfB skew) s fun t =>
      t.get .glb GLB.LOCKSTAT.SKEW = min (skew.getD 0xFF) 0xFF) ∧
  (∀ (c : Carrier) (s : State),
    s.get .glb GLB.LOCKSTAT.STATE ≠ lockLocked →
    Ends (.jointTimingRelease c) s fun t =>
      t.get (.trc c) TRC.STAT.JOINT = 0) ∧
  (∀ (c : Carrier) (s : State),
    s.running (.cdc c) = true ∧ slipWaits s c = true →
    Ends (.rxSlip c) s fun t =>
      t.get (.cdc c) CDC.SLIP_CNT.COUNT = min (s.get (.cdc c) CDC.SLIP_CNT.COUNT + 1) (2 ^ CDC.SLIP_CNT.COUNT.width - 1) ∧
      t.pwrMgr.slipped = true) ∧
  (∀ (c : Carrier) (s : State),
    s.running (.txp c) = true ∧ (s.txDsp.get c).reading = true →
    (carrierLanes c).all (blockHeld s (s.txDsp.get c).due) = false →
    Ends (.txSlip c) s fun t =>
      t.get (.txp c) TXP.SLIP_CNT.COUNT = min (s.get (.txp c) TXP.SLIP_CNT.COUNT + 1) (2 ^ TXP.SLIP_CNT.COUNT.width - 1) ∧
      t.pwrMgr.slipped = true) ∧
  (∀ (c : Carrier) (s : State),
    s.running (.cpc c) = true ∧ (s.cpc.get c).ingress.length ≥ clientDepth →
    Ends (.clientIngressDrop c) s fun t =>
      t.get (.cpc c) CPC.ING_OVF.COUNT = min (s.get (.cpc c) CPC.ING_OVF.COUNT + 1) (2 ^ CPC.ING_OVF.COUNT.width - 1)) ∧
  (∀ (c : Carrier) (q : Fin 4) (s : State),
    s.running (.cpc c) = true ∧ admitted s c q.val = true →
    Ends (.clientEgressUnderrun c q) s fun t =>
      t.get (.cpc c) CPC.EGR_UNDER.COUNT = min (s.get (.cpc c) CPC.EGR_UNDER.COUNT + 1) (2 ^ CPC.EGR_UNDER.COUNT.width - 1))

/-- The journal's own commands (R62, R63, R65): a spill empties the buffer's oldest entries, RK7 persists ring entries, space
that returns ends the count of refusals, SIGN_NOW requests a signature and a finished one is stored. Readings of the model's
own that the values rest on: log 3, 9, 11, 12. -/
def Obligations.JournalCommandsComplete : Prop :=
  (∀ (n : Nat) (s : State),
    journalSpillLevel ≤ s.journal.buffer.length ∧ s.flag .lpm LPM.STAT.READY = true →
    (spillEntries s (min n s.journal.buffer.length)).2 = 0 →
    Ends (.journalSpill n) s fun t =>
      t.journal.buffer = s.journal.buffer.drop n ∧
      t.get .cj CJ.FILL.COUNT = (s.journal.buffer.drop n).length % 2 ^ CJ.FILL.COUNT.width) ∧
  (∀ (n : Nat) (s : State),
    (unpersisted s).isEmpty = false ∧ archiveTakes s = true ∧ spaced s .persisted secNs = true →
    Ends (.journalPersistBatch n) s fun t =>
      t.journal.archive = s.journal.archive ++ (unpersisted s).take (min n 65536)) ∧
  (∀ (s : State),
    onlyReserve s = false ∧ s.journal.inReserve = true →
    Ends (.journalSpaceReturn) s fun t =>
      t.journal.unlogged = 0) ∧
  (∀ (o : Origin) (s : State),
    TakesField o .cj CJ.CTL.SIGN_NOW 1 s →
    Ends (.signNow o) s fun t =>
      t.journal.signing.isSome = true) ∧
  (∀ (s : State),
    s.journal.signing.isSome = true ∧ canSign s = true ∧ archiveTakes s = true →
    Ends (.journalSignatureDone) s fun t =>
      (∀ x, s.journal.signing = some x → t.journal.signatures =
        (x.2.1, Config.sign (bytes32 x.1 ++ leBytes 8 x.2.1 ++ leBytes 8 x.2.2)) :: s.journal.signatures))

/-- The framer's commands (R85, R95, R209, R210, R273, R334): a formed LF is counted, a framer joins its partner or starts with
it, a calendar round takes its ports' RS counts, CLR resets JUST_RANGE, a frame word that fails is counted, and an LF whose
header check fails is counted. Readings of the model's own that the values rest on: log 3, 10, 14, 33, 79. -/
def Obligations.FramingCommandsComplete : Prop :=
  (∀ (c : Carrier) (s : State),
    frameDue s c = true →
    Ends (.lfHeaderForm c) s fun t =>
      t.pair (.lfm c) LFM.TX_LF_LO.COUNT LFM.TX_LF_HI.COUNT =
        min (s.pair (.lfm c) LFM.TX_LF_LO.COUNT LFM.TX_LF_HI.COUNT + 1) (2 ^
        (LFM.TX_LF_LO.COUNT.width + LFM.TX_LF_HI.COUNT.width) - 1)) ∧
  (∀ (c : Carrier) (s : State),
    s.run (.lfm c) = .starting ∧ (s.framer.get c).waitJoin = true →
    s.running (.lfm c.other) = true ∧ txLfIdx s c.other = 0 →
    Ends (.lfmJoinPartner c) s fun t =>
      t.run (.lfm c) = .running ∧
      txCsf t c = txCsf s c.other ∧
      txLfIdx t c = 0) ∧
  (∀ (s : State),
    framersPair s = true →
    lfmWaits s .a = false ∧ lfmWaits s .b = false →
    Ends (.lfmPairStart) s fun t =>
      t.run (.lfm .a) = .running ∧
      t.run (.lfm .b) = .running ∧
      (onePlusOne s = true → (t.framer.get .b).buffer = (s.framer.get .a).buffer)) ∧
  (∀ (c : Carrier) (blocks : List (Fin 4 × ClientIn)) (rsCorr rsUncorr : List Nat) (q : Fin 4) (s : State),
    s.running (.cpc c) = true ∧ admitted s c q.val = true →
    Ends (.cpcRoundWrite c blocks rsCorr rsUncorr) s fun t =>
      t.get (.cpc c) (CPC.RS_CORR.COUNT.at q.val) =
        min (s.get (.cpc c) (CPC.RS_CORR.COUNT.at q.val) + rsCorr.getD q.val 0) (2 ^ CPC.RS_CORR.COUNT.width - 1) ∧
      t.get (.cpc c) (CPC.RS_UNCORR.COUNT.at q.val) =
        min (s.get (.cpc c) (CPC.RS_UNCORR.COUNT.at q.val) + rsUncorr.getD q.val 0) (2 ^ CPC.RS_UNCORR.COUNT.width - 1)) ∧
  (∀ (o : Origin) (c : Carrier) (s : State),
    TakesField o (.lfm c) LFM.JUST_RANGE.CLR 1 s →
    Ends (.justRangeClr o c) s fun t =>
      t.get (.lfm c) LFM.JUST_RANGE.MAX_DATA = 0 ∧
      t.get (.lfm c) LFM.JUST_RANGE.MIN_DATA = 512) ∧
  (∀ (c : Carrier) (f : RxFrame) (s : State),
    s.running (.lfm c) = true ∧ fecLocked s c = true →
    s.get (.lfm c) LFM.RX_STAT.FSTATE = 2 ∧ fawMatches (frameBoundary c s) c f = false →
    Ends (.rxFramePosition c f) s fun t =>
      t.get (.lfm c) LFM.FAW_ERR.COUNT = min (s.get (.lfm c) LFM.FAW_ERR.COUNT + 1) (2 ^ LFM.FAW_ERR.COUNT.width - 1)) ∧
  (∀ (c : Carrier) (f : RxFrame) (arrival : Nat) (s : State),
    s.running (.lfm c) = true ∧ inFrame s c = true ∧ frameClass (frameBoundary c s) c f = 2 →
    Ends (.rxLfClassify c f arrival) s fun t =>
      t.get (.lfm c) LFM.HCS_ERR.COUNT = min (s.get (.lfm c) LFM.HCS_ERR.COUNT + 1) (2 ^ LFM.HCS_ERR.COUNT.width - 1))

/-- The commands of TXP (R100, R101, R106, R107, R111, R118, R120): a symbol frame is counted, a pilot group takes its bit,
PCH_DATA appends 32 bits, CLR empties the FIFO, a fade starts and ends, the DACs start to read, injections wait for their
unit. Readings of the model's own that the values rest on: log 14, 38, 80, 81. -/
def Obligations.TransmitCommandsComplete : Prop :=
  (∀ (c : Carrier) (s : State),
    syfReady s c = true ∧ (syfPartner s c = true → syfReady s c.other = true) →
    Ends (.syfStart c) s fun t =>
      t.get (.txp c) TXP.SYF_CNT.COUNT = (s.get (.txp c) TXP.SYF_CNT.COUNT + 1) % 2 ^ TXP.SYF_CNT.COUNT.width ∧
      (t.txDsp.get c).group = 0 ∧
      (t.txDsp.get c).pos = 0) ∧
  (∀ (c : Carrier) (s : State),
    groupDue (feedPilot c 32 s) c = true →
    Ends (.pilotGroupSign c) s fun t =>
      (t.txDsp.get c).minus = (s.flag (.txp c) TXP.PCH_CTL.EN && ((feedPilot c 32 s).txDsp.get c).fifo.headD false) ∧
      (s.flag (.txp c) TXP.PCH_CTL.EN = true → (t.txDsp.get c).fifo = ((feedPilot c 32 s).txDsp.get c).fifo.tail) ∧
      (t.txDsp.get c).group = ((feedPilot c 32 s).txDsp.get c).group + 1) ∧
  (∀ (o : Origin) (c : Carrier) (w : Word) (s : State),
    Takes o (.txp c) TXP.PCH_DATA.BITS.off w s →
    Ends (.pchData o c w) s fun t =>
      (t.txDsp.get c).fifo = (s.txDsp.get c).fifo ++ lsbBits 32 w.toNat) ∧
  (∀ (o : Origin) (c : Carrier) (s : State),
    TakesField o (.txp c) TXP.PCH_CTL.CLR 1 s →
    Ends (.pchCtlClr o c) s fun t =>
      (t.txDsp.get c).fifo = [] ∧
      t.get (.txp c) TXP.PCH_CTL.UNDERRUN = 0 ∧
      t.get (.txp c) TXP.PCH_CTL.FILL = 0) ∧
  (∀ (o : Origin) (c : Carrier) (w : Word) (s : State),
    Takes o (.txp c) TXP.FIR_XFADE.SWAP.off (overlay w TXP.FIR_XFADE.SWAP 1) s →
    s.flag (.txp c) TXP.FIR_XFADE.FADING = false →
    Ends (.txFirSwap o c w) s fun t =>
      t.flag (.txp c) TXP.FIR_XFADE.FADING = true) ∧
  (∀ (c : Carrier) (s : State),
    s.flag (.txp c) TXP.FIR_XFADE.FADING = true ∧ s.flag (.txp c) TXP.FIR_XFADE.HELD = false →
    fadeOver s c = true →
    Ends (.txXfadeEnd c) s fun t =>
      t.get (.txp c) TXP.FIR_XFADE.ACTIVE = s.get (.txp c) TXP.FIR_XFADE.TARGET ∧
      t.flag (.txp c) TXP.FIR_XFADE.FADING = false) ∧
  (∀ (c : Carrier) (s : State),
    s.running (.txp c) = true ∧ (carrierLanes c).all (fun n => decide (20 ≤ (txLane s n).egress.length)) = true →
    Ends (.dacStart c) s fun t =>
      (t.txDsp.get c).reading = true) ∧
  (∀ (o : Origin) (c : Carrier) (w : Word) (s : State),
    Takes o (.txp c) TXP.INJ_CTL.SINGLE.off (overlay w TXP.INJ_CTL.SINGLE 1) s →
    s.running (.txp c) = true →
    Ends (.txInjectSingle o c w) s fun t =>
      (t.txDsp.get c).single = (s.txDsp.get c).single + 1) ∧
  (∀ (c : Carrier) (s : State),
    s.running (.txp c) = true ∧ s.get (.txp c) TXP.INJ_CTL.MODE = 1 →
    Ends (.txInjectPeriodic c) s fun t =>
      (t.txDsp.get c).armed = (s.txDsp.get c).armed + 1)

/-- The commands of LTX and of the transmit loop (R98, R112 to R114, R116, R117, R121): calibrations start, step and end, gates
follow their conditions, holdover is entered and left, the pattern is taken, PRAM_DATA stores its word, and the DAC codes
and skews move. Readings of the model's own that the values rest on: log 10, 14, 27, 28, 78, 80. -/
def Obligations.LaneTransmitCommandsComplete : Prop :=
  (∀ (c : Carrier) (n : Fin 8) (s : State),
    clockLocked s c = true ∧ n ∈ carrierLanes c ∧ s.running (.ltx n) = true →
    s.flag (.ltx n) LTX.STAT.GATE = false ∧ (txLane s n).fgDone = false →
    Ends (.ltxFgCalStart c) s fun t =>
      t.flag (.ltx n) LTX.STAT.CAL_FG = true) ∧
  (∀ (c : Carrier) (ms : List (List (Int × Int))) (n : Fin 8) (s : State),
    n ∈ carrierLanes c ∧ s.flag (.ltx n) LTX.STAT.CAL_FG = true →
    Ends (.ltxFgCalDone c ms) s fun t =>
      t.flag (.ltx n) LTX.STAT.CAL_FG = false) ∧
  (∀ (n : Fin 8) (m1 m2 : Int) (mux : Int × Int) (s : State),
    s.flag (.ltx n) LTX.STAT.GATE = true →
    Ends (.ltxBgCalStep n m1 m2 mux) s fun t =>
      t.get (.ltx n) LTX.STAT.SPARE_POS = (s.get (.ltx n) LTX.STAT.SPARE_POS + 1) % 16) ∧
  (∀ (c : Carrier) (n : Fin 8) (s : State),
    n ∈ carrierLanes c →
    Ends (.gateChange c) s fun t =>
      t.flag (.ltx n) LTX.STAT.GATE = gateOpen (pagesBoundary (symbolPages c) s) n) ∧
  (∀ (c : Carrier) (average : Int) (s : State),
    s.running (.txp c) = true ∧ s.flag (.txp c) TXP.CTL.TIMING_SRC = true →
    timingUnusable s c = true ∧ s.flag (.txp c) TXP.STAT.HOLDOVER = false →
    Ends (.holdover c average) s fun t =>
      t.flag (.txp c) TXP.STAT.HOLDOVER = true ∧
      t.flag (.txp c) TXP.STAT.LOOP_TRACK = false ∧
      (t.txDsp.get (clockCarrier s c)).synOfs = clamp (-100000) 100000 average) ∧
  (∀ (c : Carrier) (s : State),
    s.running (.txp c) = true ∧ s.flag (.txp c) TXP.CTL.TIMING_SRC = true ∧ timingUnusable s c = false →
    Ends (.loopTrackResume c) s fun t =>
      t.flag (.txp c) TXP.STAT.HOLDOVER = false ∧
      t.flag (.txp c) TXP.STAT.LOOP_TRACK = true) ∧
  (∀ (n : Fin 8) (s : State),
    Ends (.ltxPatternMode n) s fun t =>
      (txLane t n).patMode = (pageBoundary (.ltx n) s).get (.ltx n) LTX.PAT_CTL.MODE) ∧
  (∀ (o : Origin) (n : Fin 8) (w : Word) (s : State),
    Takes o (.ltx n) LTX.PRAM_DATA.SAMPLES.off w s →
    Ends (.pramDataAccess o n (some w)) s fun t =>
      sparseRead (fun _ => 0x80808080) (txLane t n).pram (s.get (.ltx n) LTX.PRAM_IDX.INDEX) = w ∧
      t.get (.ltx n) LTX.PRAM_IDX.INDEX = (s.get (.ltx n) LTX.PRAM_IDX.INDEX + 1) % 2 ^ LTX.PRAM_IDX.INDEX.width) ∧
  (∀ (n : Fin 8) (k : ShapedBlock) (rest : List ShapedBlock) (s : State),
    (txLane s n).shaped = k :: rest ∧ (txLane s n).egress.length < egressDepth →
    (s.txDsp.get (laneCarrier n)).due ≤ k.number ∧ s.running (.ltx n) = true →
    (laneCodes (pageBoundary (.ltx n) s) n k).2 = true →
    Ends (.dacClip n) s fun t =>
      t.get (.ltx n) LTX.CLIP_CNT.COUNT = min (s.get (.ltx n) LTX.CLIP_CNT.COUNT + 1) (2 ^ LTX.CLIP_CNT.COUNT.width - 1) ∧
      (txLane t n).egress = (txLane s n).egress ++ [(k.number, (laneCodes (pageBoundary (.ltx n) s) n k).1)] ∧
      (txLane t n).shaped = rest) ∧
  (∀ (n : Fin 8) (k : ShapedBlock) (rest : List ShapedBlock) (s : State),
    (txLane s n).shaped = k :: rest ∧ (txLane s n).egress.length < egressDepth →
    (laneCodes (pageBoundary (.ltx n) s) n k).2 = false →
    Ends (.dacClip n) s fun t =>
      t.get (.ltx n) LTX.CLIP_CNT.COUNT = s.get (.ltx n) LTX.CLIP_CNT.COUNT ∧
      (txLane t n).shaped = rest) ∧
  (∀ (c : Carrier) (i : Fin 4) (s : State),
    s.running (.txp c) = true →
    Ends (.skewSlew c false) s fun t =>
      t.getInt (.txp c) (TXP.SKEW.APPLIED.at i.val) =
        skewToward ((pagesBoundary (symbolPages c) s).getInt (.txp c) (TXP.SKEW.APPLIED.at i.val)) ((pagesBoundary
        (symbolPages c) s).getInt (.txp c) (TXP.SKEW.TARGET.at i.val)))

/-- The commands of LRX (R125 to R136): an AGC period in AUTO shows the RMS, a gain is accepted and applied at the next block,
the gain is stepped or found at its limit, a block's clipping is counted and ends, calibrations are taken, the clock's loss
is shown, histograms and snapshots are armed and end. Readings of the model's own that the values rest on: log 10, 14, 21,
28, 29, 76. -/
def Obligations.ReceiveLaneCommandsComplete : Prop :=
  (∀ (n : Fin 8) (s : State),
    laneDelivers s n = true ∧ s.get (.lrx n) LRX.AFE_CTL.AGC_MODE = 1 →
    Ends (.agcPeriod n) s fun t =>
      t.get (.lrx n) LRX.RMS.RMS = rmsCode (lineRx s n).recent) ∧
  (∀ (n : Fin 8) (s : State),
    s.get (.lrx n) LRX.AFE_CTL.AGC_MODE ≠ 1 →
    Ends (.agcPeriod n) s fun t =>
      t.get (.lrx n) LRX.RMS.RMS = s.get (.lrx n) LRX.RMS.RMS) ∧
  (∀ (o : Origin) (n : Fin 8) (code : BitVec 6) (s : State),
    TakesField o (.lrx n) LRX.AFE_CTL.GAIN_SET code.toNat s →
    Ends (.gainSet o n code) s fun t =>
      stagedWord t (pageBase (.lrx n) + LRX.AFE_CTL.GAIN_SET.off) =
        some (overlay (plainWord (.lrx n) LRX.AFE_CTL.GAIN_SET.off (acceptedWord s
        (.lrx n) LRX.AFE_CTL.GAIN_SET.off)) LRX.AFE_CTL.GAIN_SET code.toNat) ∧
      t.get (.lrx n) LRX.GAIN_STAT.APPLIED = s.get (.lrx n) LRX.GAIN_STAT.APPLIED) ∧
  (∀ (n : Fin 8) (s : State),
    laneDelivers s n = true ∧ s.flag (.lrx n) LRX.AFE_CTL.CLIP_STEP_EN = true →
    64 ≤ (lineRx s n).sinceFast →
    s.get (.lrx n) LRX.AGC_CFG.CLIP_THR ≤ (lineRx s n).clipped ∧ 2 ≤ s.get (.lrx n) LRX.GAIN_STAT.APPLIED →
    Ends (.fastStep n) s fun t =>
      t.get (.lrx n) LRX.GAIN_STAT.APPLIED = s.get (.lrx n) LRX.GAIN_STAT.APPLIED - 2 ∧
      t.get (.lrx n) LRX.FAST_CNT.COUNT = min (s.get (.lrx n) LRX.FAST_CNT.COUNT + 1) (2 ^ LRX.FAST_CNT.COUNT.width - 1)) ∧
  (∀ (n : Fin 8) (codes : List Int) (s : State),
    laneDelivers (pageBoundary (.lrx n) s) n = true ∧ laneAhead (pageBoundary (.lrx n) s) n = false →
    (blockCodes (lineRx (pageBoundary (.lrx n) s) n).blocks codes).any clippedCode = true →
    Ends (.clip n codes) s fun t =>
      (lineRx t n).blocks = (lineRx (pageBoundary (.lrx n) s) n).blocks + 1 ∧
      t.get (.lrx n) LRX.CLIP_BLK.COUNT = min (s.get (.lrx n) LRX.CLIP_BLK.COUNT + 1) (2 ^ LRX.CLIP_BLK.COUNT.width - 1) ∧
      t.flag (.lrx n) LRX.GAIN_STAT.CLIP_INT = true) ∧
  (∀ (n : Fin 8) (codes : List Int) (s : State),
    laneDelivers (pageBoundary (.lrx n) s) n = true ∧ laneAhead (pageBoundary (.lrx n) s) n = false →
    (blockCodes (lineRx (pageBoundary (.lrx n) s) n).blocks codes).any clippedCode = false →
    Ends (.clip n codes) s fun t =>
      (lineRx t n).blocks = (lineRx (pageBoundary (.lrx n) s) n).blocks + 1 ∧
      t.get (.lrx n) LRX.CLIP_BLK.COUNT = s.get (.lrx n) LRX.CLIP_BLK.COUNT) ∧
  (∀ (n : Fin 8) (codes : List Int) (w : Word) (s : State),
    s.running (.lrx n) = true ∧ s.staged = [⟨pageBase (.lrx n) + LRX.AFE_CTL.GAIN_SET.off, w⟩] →
    Ends (.clip n codes) s fun t =>
      t.get (.lrx n) LRX.GAIN_STAT.APPLIED = extract w 8 6 ∧
      t.staged = []) ∧
  (∀ (n : Fin 8) (codes : List Int) (w : Word) (s : State),
    s.running (.lrx n) = true ∧ s.staged = [⟨pageBase (.lrx n) + LRX.SNAP_CTL.ARM.off, w⟩] →
    extract w LRX.SNAP_CTL.ARM.lo 1 = 1 ∧ (lineRx s n).capture = none →
    Ends (.clip n codes) s fun t =>
      t.flag (.lrx n) LRX.SNAP_STAT.ARMED = true ∧
      t.staged = []) ∧
  (∀ (n : Fin 8) (s : State),
    64 ≤ (lineRx s n).clean →
    Ends (.clipIntervalEnd n) s fun t =>
      t.flag (.lrx n) LRX.GAIN_STAT.CLIP_INT = false) ∧
  (∀ (n : Fin 8) (s : State),
    s.running (.lrx n) = true ∧ s.get (.lrx n) LRX.GAIN_STAT.APPLIED = 36 →
    Ends (.gainLimit n) s fun t =>
      t.flag (.lrx n) LRX.GAIN_STAT.AT_MAX = true) ∧
  (∀ (n : Fin 8) (ms : List (List (Int × Int))) (afe : List (Int × Int)) (s : State),
    s.run (.lrx n) = .starting ∧ fgDue s n = true →
    Ends (.lrxFgCal n ms afe) s fun t =>
      (lineRx t n).fgDone = true) ∧
  (∀ (n : Fin 8) (m : Int × Int) (s : State),
    laneDelivers s n = true ∧ rotationStopped s n = false →
    s.get (.lrx n) LRX.ROT_STAT.PHASE < 3 →
    Ends (.adcBgCalStep n m) s fun t =>
      t.get (.lrx n) LRX.ROT_STAT.PHASE = s.get (.lrx n) LRX.ROT_STAT.PHASE + 1) ∧
  (∀ (n : Fin 8) (m : Int × Int) (s : State),
    laneDelivers s n = true ∧ rotationStopped s n = false →
    s.get (.lrx n) LRX.ROT_STAT.PHASE = 3 →
    Ends (.adcBgCalStep n m) s fun t =>
      t.get (.lrx n) LRX.ROT_STAT.PHASE = 0 ∧
      (lineRx t n).lastStep = false) ∧
  (∀ (o : Origin) (n : Fin 8) (s : State),
    TakesField o (.lrx n) LRX.CAL_CTL.UNRETIRE 1 s →
    Ends (.unretire o n) s fun t =>
      t.flag (.lrx n) LRX.ROT_STAT.RETIRED = false) ∧
  (∀ (c : Carrier) (n : Fin 8) (s : State),
    clockLocked s c = false ∧ n ∈ carrierLanes c ∧ s.running (.lrx n) = true →
    Ends (.laneClockLoss c) s fun t =>
      t.flag (.lrx n) LRX.SNAP_STAT.NO_CLK = true) ∧
  (∀ (c : Carrier) (n : Fin 8) (s : State),
    clockLocked s c = true ∧ n ∈ carrierLanes c →
    Ends (.laneClockResume c) s fun t =>
      t.flag (.lrx n) LRX.SNAP_STAT.NO_CLK = false) ∧
  (∀ (o : Origin) (n : Fin 8) (w : Word) (s : State),
    Takes o (.lrx n) LRX.HIST_CTL.START.off (overlay w LRX.HIST_CTL.START 1) s →
    s.flag (.lrx n) LRX.HIST_STAT.BUSY = false →
    Ends (.histStart o n w) s fun t =>
      t.flag (.lrx n) LRX.HIST_STAT.BUSY = true ∧
      t.flag (.lrx n) LRX.HIST_STAT.DONE = false) ∧
  (∀ (n : Fin 8) (s : State),
    s.flag (.lrx n) LRX.HIST_STAT.BUSY = true ∧ (lineRx s n).histLeft = 0 →
    Ends (.histDone n) s fun t =>
      (∀ i : Fin 127, t.get (.lrx n) (LRX.HIST_B.COUNT.at i.val) = (lineRx s n).bins.getD i.val 0 % 2 ^ LRX.HIST_B.COUNT.width) ∧
      t.flag (.lrx n) LRX.HIST_STAT.BUSY = false ∧
      t.flag (.lrx n) LRX.HIST_STAT.DONE = true) ∧
  (∀ (o : Origin) (n : Fin 8) (w : Word) (s : State),
    Takes o (.lrx n) LRX.SNAP_CTL.ARM.off (overlay w LRX.SNAP_CTL.ARM 1) s →
    Ends (.snapArm o n w) s fun t =>
      stagedWord t (pageBase (.lrx n) + LRX.SNAP_CTL.ARM.off) = some (overlay w LRX.SNAP_CTL.ARM 1))

/-- The commands of CDC and TRC (R147 to R149, R151, R153): a scan starts and ends, tracking settles, CD_SET is taken, timing
locks and is lost, and estimated skews set their targets. Readings of the model's own that the values rest on: log 10, 14,
20, 22, 23, 76. -/
def Obligations.DispersionAndTimingCommandsComplete : Prop :=
  (∀ (c : Carrier) (s : State),
    acqState s c = acqScan ∧ acqReady s c = true →
    Ends (.cdScanStart c) s fun t =>
      (t.dispersion.get c).scanning = true) ∧
  (∀ (c : Carrier) (coarse fine : List Nat) (s : State),
    acqState s c = acqScan ∧ (s.dispersion.get c).scanning = true ∧ cdMode s c ≠ 1 →
    Ends (.cdScanComplete c coarse fine) s fun t =>
      t.get (.cdc c) CDC.SCAN_STAT.CAND = 21 ∧
      (t.dispersion.get c).scanning = false) ∧
  (∀ (c : Carrier) (s : State),
    acqState s c = acqTrack ∧ s.running (.cdc c) = true ∧ (s.dispersion.get c).slew = some (cdApplied s c) →
    Ends (.cdTrackStep c) s fun t =>
      (t.dispersion.get c).slew = none) ∧
  (∀ (o : Origin) (c : Carrier) (cd : BitVec 18) (s : State),
    TakesField o (.cdc c) CDC.CD_SET.CD cd.toNat s →
    Ends (.cdSetWrite o c cd) s fun t =>
      stagedWord t (pageBase (.cdc c) + CDC.CD_SET.CD.off) =
        some (overlay (plainWord (.cdc c) CDC.CD_SET.CD.off (acceptedWord s (.cdc c) CDC.CD_SET.CD.off)) CDC.CD_SET.CD cd.toNat)) ∧
  (∀ (c : Carrier) (ofs : Int) (s : State),
    s.running (.trc c) = true ∧ samplesArrive s c = true ∧ ofs.natAbs ≤ 200000 →
    Ends (.timingLock c ofs) s fun t =>
      t.flag (.trc c) TRC.STAT.LOCK = true ∧
      t.getInt (.trc c) TRC.FREQ_OFS.OFS = ofs) ∧
  (∀ (c : Carrier) (ofs : Option Int) (s : State),
    s.running (.trc c) = true ∧ s.flag (.trc c) TRC.STAT.LOCK = true →
    Ends (.timingLockLost c ofs) s fun t =>
      t.flag (.trc c) TRC.STAT.LOCK = false ∧
      t.get (.trc c) TRC.LOSS_CNT.COUNT = min (s.get (.trc c) TRC.LOSS_CNT.COUNT + 1) (2 ^ TRC.LOSS_CNT.COUNT.width - 1)) ∧
  (∀ (c : Carrier) (est : List Int) (i : Fin 4) (s : State),
    s.running (.trc c) = true ∧ s.flag (.trc c) TRC.CTL.AUTO_SKEW = true ∧ acqSearch ≤ acqState s c →
    3 < (satSigned 12 (est.getD i.val 0) - s.getInt (.trc c) (TRC.SKEW.TARGET.at i.val)).natAbs →
    s.journal.buffer = [] →
    Ends (.autoSkewEstimate c est) s fun t =>
      t.getInt (.trc c) (TRC.SKEW.TARGET.at i.val) = satSigned 12 (est.getD i.val 0))

/-- The commands of EQZ (R155, R157, R158, R161, R163, R164): an update draws its roundings and a marked period changes no tap,
a singularity and the channel estimates are shown, banks fade, are copied, set to centre taps and read, and a coefficient is
written. Readings of the model's own that the values rest on: log 2, 9, 10, 14, 76. -/
def Obligations.EqualiserCommandsComplete : Prop :=
  (∀ (c : Carrier) (grads : List (Int × Int)) (s : State),
    adaptMode s c ≠ 0 ∧ (s.equaliser.get c).marked = false →
    Ends (.eqzLmsUpdate c grads) s fun t =>
      ((t.equaliser.get c).taps ≠ (s.equaliser.get c).taps → bankMode t c (activeBank s c) = lineMode s c) ∧
      t.freeCount = s.freeCount + 328) ∧
  (∀ (c : Carrier) (grads : List (Int × Int)) (s : State),
    (s.equaliser.get c).marked = true →
    Ends (.eqzLmsUpdate c grads) s fun t =>
      (t.equaliser.get c).marked = false ∧
      (t.equaliser.get c).taps = (s.equaliser.get c).taps) ∧
  (∀ (c : Carrier) (corr cost : Nat) (s : State),
    acqState s c = acqBlind ∧ 800 < corr →
    Ends (.singularity c corr cost) s fun t =>
      t.get (.eqz c) EQZ.SING_CNT.COUNT = min (s.get (.eqz c) EQZ.SING_CNT.COUNT + 1) (2 ^ EQZ.SING_CNT.COUNT.width - 1) ∧
      t.get (.eqz c) EQZ.CMA_COST.COST = min cost 0xFFFF) ∧
  (∀ (c : Carrier) (s : State),
    acqState s c = acqTrack →
    Ends (.channelEstimate c) s fun t =>
      t.get (.eqz c) EQZ.DGD_EST.DGD = min (Config.channelDgd (carrierRate s c) (activeTaps s c)) 0xFFF ∧
      t.getInt (.eqz c) EQZ.CD_RESID.CD = satSigned 18 (Config.channelCd (carrierRate s c) (activeTaps s c)) ∧
      activeTaps t c = activeTaps s c) ∧
  (∀ (o : Origin) (c : Carrier) (w : Word) (s : State),
    Takes o (.eqz c) EQZ.XFADE_CTL.SWAP.off (overlay w EQZ.XFADE_CTL.SWAP 1) s →
    s.flag (.eqz c) EQZ.XFADE_CTL.FADING = false →
    Ends (.eqzSwap o c w) s fun t =>
      t.flag (.eqz c) EQZ.XFADE_CTL.FADING = true) ∧
  (∀ (c : Carrier) (s : State),
    s.flag (.eqz c) EQZ.XFADE_CTL.FADING = true ∧ s.flag (.eqz c) EQZ.XFADE_CTL.HELD = false ∧ eqzFadeOver s c = true →
    Ends (.eqzXfadeEnd c) s fun t =>
      t.get (.eqz c) EQZ.XFADE_CTL.ACTIVE = s.get (.eqz c) EQZ.XFADE_CTL.TARGET ∧
      t.flag (.eqz c) EQZ.XFADE_CTL.FADING = false) ∧
  (∀ (o : Origin) (c : Carrier) (s : State),
    TakesField o (.eqz c) EQZ.XFADE_CTL.COPY 1 s →
    Ends (.eqzCopy o c) s fun t =>
      bankMode t c (1 - activeBank s c) = bankMode s c (activeBank s c)) ∧
  (∀ (o : Origin) (c : Carrier) (s : State),
    TakesField o (.eqz c) EQZ.XFADE_CTL.INIT 1 s →
    Ends (.eqzInit o c) s fun t =>
      bankMode t c (activeBank s c) = 0xF) ∧
  (∀ (o : Origin) (c : Carrier) (w : Word) (s : State),
    Takes o (.eqz c) EQZ.COEF_DATA.RE.off w s →
    Ends (.coefDataAccess o c (some w)) s fun t =>
      tap t c (164 * s.get (.eqz c) EQZ.COEF_IDX.BANK + coefIndex s c) =
        (256 * toSigned 16 (extract w 0 16), 256 * toSigned 16 (extract w 16 16))) ∧
  (∀ (o : Origin) (c : Carrier) (s : State),
    TakesField o (.eqz c) EQZ.SHADOW.SNAP 1 s →
    Ends (.shadowSnap o c) s fun t =>
      t.flag (.eqz c) EQZ.SHADOW.DONE = true)

/-- The commands of acquisition and of CPR (R165, R166, R175, R176, R180, R185, R186): acquisition begins, times out, converges,
hears the wrong carrier and restarts; the expected training enters TRACK and a swapped one exchanges the rows, a training
block latches the frame's pilot errors, the frequency locks or leaves its range, a pilot is taken, a record is written or
overflows and the ring's size is taken. Readings of the model's own that the values rest on: log 9, 10, 14, 22, 31, 76, 82. -/
def Obligations.AcquisitionCommandsComplete : Prop :=
  (∀ (c : Carrier) (s : State),
    acqState s c = acqIdleState ∧ acqReady s c = true →
    Ends (.acqBegin c) s fun t =>
      acqState t c ≠ acqIdleState) ∧
  (∀ (c : Carrier) (s : State),
    (acqState s c = acqTiming ∨ acqState s c = acqBlind) →
    passed s (acqTimer s c) (acqLimitNs s c) = true →
    Ends (.acqTimeout c) s fun t =>
      t.get (.eqz c) EQZ.ACQ_STAT.RESTART_CNT = min (s.get (.eqz c) EQZ.ACQ_STAT.RESTART_CNT + 1)
        (2 ^ EQZ.ACQ_STAT.RESTART_CNT.width - 1)) ∧
  (∀ (c : Carrier) (cost : Nat) (s : State),
    acqState s c = acqBlind ∧ cost * 100 * 10000 < 4096 * 15 * cmaK2 (lineMode s c) →
    Ends (.blindConverged c cost) s fun t =>
      acqState t c = acqSearch) ∧
  (∀ (c : Carrier) (x y : Option (Carrier × Bool)) (index : Nat) (s : State),
    acqState s c = acqSearch →
    x = some ((expectedCarrier s c).other, false) ∧ y = some ((expectedCarrier s c).other, true) →
    Ends (.trainingDetect c x y index) s fun t =>
      t.flag (.eqz c) EQZ.ACQ_STAT.WRONG_CARRIER = true) ∧
  (∀ (c : Carrier) (x y : Option (Carrier × Bool)) (index : Nat) (s : State),
    acqState s c = acqSearch ∧ (s.equaliser.get c).index = index ∧ 1 ≤ (s.equaliser.get c).hits →
    x = some (expectedCarrier s c, false) ∧ y = some (expectedCarrier s c, true) →
    Ends (.trainingDetect c x y index) s fun t =>
      acqState t c = acqTrack) ∧
  (∀ (c : Carrier) (x y : Option (Carrier × Bool)) (index : Nat) (s : State),
    acqState s c = acqSearch ∧ (s.equaliser.get c).hits = 0 →
    x = some (expectedCarrier s c, true) ∧ y = some (expectedCarrier s c, false) →
    Ends (.trainingDetect c x y index) s fun t =>
      (t.equaliser.get c).hits = 1 ∧
      (t.equaliser.get c).index = index ∧
      t.flag (.eqz c) EQZ.ACQ_STAT.POL_SWAP = !s.flag (.eqz c) EQZ.ACQ_STAT.POL_SWAP) ∧
  (∀ (o : Origin) (c : Carrier) (s : State),
    TakesField o (.eqz c) EQZ.ACQ_CTL.RESTART 1 s →
    acqState s c ≠ acqIdleState →
    Ends (.acqRestart o c) s fun t =>
      t.get (.eqz c) EQZ.ACQ_STAT.RESTART_CNT = min (s.get (.eqz c) EQZ.ACQ_STAT.RESTART_CNT + 1)
        (2 ^ EQZ.ACQ_STAT.RESTART_CNT.width - 1)) ∧
  (∀ (c : Carrier) (x y : List (Int × Int)) (s : State),
    s.running (.cpr c) = true ∧ cprState s c ≠ cprIdle →
    Ends (.cprTrainingBlock c x y) s fun t =>
      t.get (.cpr c) CPR.PILOT_ERR.X = min (s.carrierRec.get c).frameX 0xFFFF ∧
      t.get (.cpr c) CPR.PILOT_ERR.Y = min (s.carrierRec.get c).frameY 0xFFFF ∧
      (t.carrierRec.get c).next = 0) ∧
  (∀ (c : Carrier) (s : State),
    s.running (.cpr c) = true ∧ cprFine ≤ cprState s c ∧ foSettled (s.carrierRec.get c) = true →
    Ends (.foLock c) s fun t =>
      t.flag (.cpr c) CPR.STAT.FO_LOCK = true) ∧
  (∀ (c : Carrier) (s : State),
    s.running (.cpr c) = true ∧ cprFine ≤ cprState s c ∧ foLimit < (s.getInt (.cpr c) CPR.FO_EST.FO).natAbs →
    Ends (.foRange c) s fun t =>
      cprState t c = cprCoarse ∧
      t.get (.cpr c) CPR.ACQ_CNT.RESTART = min (s.get (.cpr c) CPR.ACQ_CNT.RESTART + 1) (2 ^ CPR.ACQ_CNT.RESTART.width - 1)) ∧
  (∀ (c : Carrier) (x y : List (Int × Int)) (s : State),
    s.running (.cpr c) = true ∧ (s.carrierRec.get c).next < pilotsPerFrame →
    Ends (.pilotSlipCheck c x y) s fun t =>
      (t.carrierRec.get c).next = (s.carrierRec.get c).next + 1) ∧
  (∀ (c : Carrier) (s : State),
    (s.carrierRec.get c).record.isSome = true ∧ s.flag (.cpr c) CPR.STAT.PCH_ACTIVE = true ∧
      (s.carrierRec.get c).softs.length = 256 →
    Ends (.pchRecordWrite c) s fun t =>
      (t.carrierRec.get c).record = none ∧
      ((s.get (.cpr c) CPR.PCH_RING.WR_IDX + 1) % s.get (.cpr c) CPR.PCH_RING.ENTRIES ≠ s.get (.cpr c) CPR.PCH_RING.RD_IDX →
        t.get (.cpr c) CPR.PCH_RING.WR_IDX = (s.get (.cpr c) CPR.PCH_RING.WR_IDX + 1) % s.get
        (.cpr c) CPR.PCH_RING.ENTRIES % 2 ^ CPR.PCH_RING.WR_IDX.width) ∧
      ((s.get (.cpr c) CPR.PCH_RING.WR_IDX + 1) % s.get (.cpr c) CPR.PCH_RING.ENTRIES = s.get (.cpr c) CPR.PCH_RING.RD_IDX →
        Counted (.cpr c) CPR.PCH_RING.OVF s t ∧ t.dsram = s.dsram)) ∧
  (∀ (o : Origin) (c : Carrier) (entries : BitVec 8) (s : State),
    TakesField o (.cpr c) CPR.PCH_RING.ENTRIES entries.toNat s →
    Ends (.pchRingEntries o c entries) s fun t =>
      t.get (.cpr c) CPR.PCH_RING.ENTRIES = entries.toNat)

/-- The commands of MLS, DMP and FEC (R189 to R194, R204 to R206): a symbol block passes MLS_x and, marked, asks for a trellis
reset, which is counted, the SNR is shown, a hunt observation moves to CHECK or fails, a good check to LOCK, a decoded block
is counted, uncorrectable or not, a window's end restarts its counts. Readings of the model's own that the values rest on:
log 10, 14, 31, 32, 76, 82. -/
def Obligations.DecodingCommandsComplete : Prop :=
  (∀ (c : Carrier) (s : State),
    s.running (.mls c) = true ∧ 320 ≤ (s.demapper.get c).input.length →
    blockMarked ((s.demapper.get c).input.take 256) = false →
    Ends (.mlsEstimateUpdate c) s fun t =>
      (t.demapper.get c).input = (s.demapper.get c).input.drop 256 ∧
      (t.demapper.get c).soft.length = (s.demapper.get c).soft.length + 256) ∧
  (∀ (c : Carrier) (s : State),
    s.running (.mls c) = true ∧ 320 ≤ (s.demapper.get c).input.length →
    blockMarked ((s.demapper.get c).input.take 256) = true →
    Ends (.mlsEstimateUpdate c) s fun t =>
      (t.demapper.get c).input = (s.demapper.get c).input.drop 256 ∧
      (t.demapper.get c).soft.length = (s.demapper.get c).soft.length + 256 ∧
      (t.demapper.get c).resetDue = true ∧
      (t.demapper.get c).kappa = (s.demapper.get c).kappa) ∧
  (∀ (c : Carrier) (s : State),
    s.running (.mls c) = true ∧ (s.demapper.get c).resetDue = true →
    Ends (.trellisReset c) s fun t =>
      (t.demapper.get c).resetDue = false ∧
      t.get (.mls c) MLS.RESET_CNT.COUNT = min (s.get (.mls c) MLS.RESET_CNT.COUNT + 1) (2 ^ MLS.RESET_CNT.COUNT.width - 1)) ∧
  (∀ (c : Carrier) (block : List SoftPeriod) (d : Demapper) (s : State),
    s.running (.dmp c) = true ∧ 256 ≤ (s.demapper.get c).soft.length →
    block = (s.demapper.get c).soft.take 256 ∧ d = addNoise (s.demapper.get c) block →
    (block.any fun p => p.slip || !p.sync || p.clip != 0) = false →
    2 ^ s.get (.dmp c) DMP.CTL.VAR_LOG2 ≤ d.varBlocks ∧ d.varN ≠ 0 →
    Ends (.snrUpdate c) s fun t =>
      t.get (.dmp c) DMP.SNR.X = snrOf (d.power.getD 0 0 + d.power.getD 1 0) (d.noise.getD 0 0 + d.noise.getD 1 0) ∧
      t.get (.dmp c) DMP.SNR.Y = snrOf (d.power.getD 2 0 + d.power.getD 3 0) (d.noise.getD 2 0 + d.noise.getD 3 0) ∧
      ((t.demapper.get c).variance = d.noise.map fun n => n / (65536 * d.varN)) ∧
      (t.demapper.get c).soft = (s.demapper.get c).soft.drop 256) ∧
  (∀ (c : Carrier) (s : State),
    s.running (.dmp c) = true ∧ 256 ≤ (s.demapper.get c).soft.length →
    ((s.demapper.get c).soft.take 256).any (fun p => p.slip || !p.sync || p.clip != 0) = true →
    Ends (.snrUpdate c) s fun t =>
      (t.demapper.get c).soft = (s.demapper.get c).soft.drop 256 ∧
      (t.demapper.get c).variance = (s.demapper.get c).variance ∧
      t.get (.dmp c) DMP.SNR.X = s.get (.dmp c) DMP.SNR.X) ∧
  (∀ (c : Carrier) (x : Nat × Nat × Nat) (s : State),
    s.running (.fec c) = true ∧ fecState s c = fecHunt ∧ observationBits s c ≤ (s.fec.get c).llrs.length →
    x = bestCandidate (lineMode s c) ((s.fec.get c).llrs.take (observationBits s c)) →
    Ends (.fecHuntObservation c) s fun t =>
      (observationPasses x.2.1 x.2.2 = true → fecState t c = fecCheck ∧ (t.fec.get c).checkBlocks = 0) ∧
      (observationPasses x.2.1 x.2.2 = false → fecState t c = fecHunt ∧ Counted (.fec c) FEC.HUNT_CNT.HUNT_FAIL s t)) ∧
  (∀ (c : Carrier) (s : State),
    s.running (.fec c) = true ∧ fecState s c = fecCheck →
    64 ≤ (s.fec.get c).checkBlocks ∧ (s.fec.get c).checkUncorr ≤ 8 →
    Ends (.fecCheckResult c) s fun t =>
      fecState t c = fecLock) ∧
  (∀ (c : Carrier) (d : DecodedBlock) (s : State),
    decodeReady (pageBoundary (.fec c) s) c = true ∧ (s.fec.get c).llrs.length < 2 * codedBits →
    d = Config.ofecDecode ((pageBoundary (.fec c) s).get (.fec c) FEC.CTL.ITER) (s.fec.get c).decoder
      ((s.fec.get c).llrs.take decoderWindow) →
    Ends (.uncorrectableBlock c) s fun t =>
      (d.uncorrectable = true → Counted (.fec c) FEC.UNCORR_CNT.COUNT s t) ∧
      (d.uncorrectable = false → t.get (.fec c) FEC.UNCORR_CNT.COUNT = s.get (.fec c) FEC.UNCORR_CNT.COUNT) ∧
      t.pair (.fec c) FEC.BLK_LO.COUNT FEC.BLK_HI.COUNT =
        min (s.pair (.fec c) FEC.BLK_LO.COUNT FEC.BLK_HI.COUNT + 1) (2 ^ (FEC.BLK_LO.COUNT.width + FEC.BLK_HI.COUNT.width) - 1)) ∧
  (∀ (c : Carrier) (s : State),
    s.running (.fec c) = true ∧ fecLocked s c = true ∧ 2 ^ (s.fec.get c).winLog2 ≤ (s.fec.get c).window.blocks →
    Ends (.fecWindowEnd c) s fun t =>
      (t.fec.get c).window = .empty ∧
      t.get (.fec c) FEC.WIN_UNCORR.COUNT = min (s.fec.get c).window.uncorr 0xFFFFFFFF ∧
      t.get (.fec c) FEC.WIN_CNT.COUNT = (s.get (.fec c) FEC.WIN_CNT.COUNT + 1) % 2 ^ FEC.WIN_CNT.COUNT.width)

/-- The commands of keying (R231, R234, R235, R237, R254): a ratchet falls due and is announced, an activation is abandoned, or
takes effect, slots expire, an epoch's exchange starts or the epoch is exhausted, an old KQ is erased. Readings of the
model's own that the values rest on: log 2, 3, 9, 34, 83. -/
def Obligations.KeyingCommandsComplete : Prop :=
  (∀ (x k : Carrier) (s : State),
    ownerOf s x = some k ∧ (session s k).state = sessKeyed ∧ ownRole s = 0 →
    intervalOver s k = true ∧ ratchetFree s k = false →
    Ends (.ratchetDue x) s fun t =>
      (session t k).ratchetDue = true) ∧
  (∀ (x k : Carrier) (ch : Chain) (s : State),
    ownerOf s x = some k ∧ (session s k).ratchetDue = true →
    ratchetFree s k = true ∧ nextChain s k = some ch →
    Ends (.rekeyAnnounce x) s fun t =>
      (session t k).ratchetDue = false ∧
      (∀ y ∈ keyedCarriers s k, activationPending t y = true)) ∧
  (∀ (x : Carrier) (s : State),
    activationPending s x = true ∧ s.flag (.cry x) CRY.TX_STAT.COMMITTED = false →
    csfAtOrAfter (txCsf s x + 16) (activationCsf s x) = true →
    keyed s x = false →
    Ends (.activationDeadline x) s fun t =>
      activationPending t x = false ∧
      Counted (.cry x) CRY.ACT_CNT.ABORT s t) ∧
  (∀ (x : Carrier) (s : State),
    activationPending s x = true ∧ s.flag (.cry x) CRY.TX_STAT.COMMITTED = true →
    txLfIdx s x = 0 ∧ txCsf s x = activationCsf s x ∧ ownerOf s x = none →
    Ends (.activationTakeEffect x) s fun t =>
      (s.get (.cry x) CRY.TX_STAT.PENDING_IDX < 4 →
        t.get (.cry x) CRY.TX_STAT.ACTIVE_IDX = s.get (.cry x) CRY.TX_STAT.PENDING_IDX) ∧
      activationPending t x = false ∧
      Counted (.cry x) CRY.ACT_CNT.DONE s t) ∧
  (∀ (c : Carrier) (i : Fin 4) (s : State),
    retainedSlot s c = some i.val ∧ retentionOver s c i = true →
    Ends (.retainedSlotExpiry c) s fun t =>
      rxSlotState t c i = slotEmpty ∧
      rxSlot t c i = .empty) ∧
  (∀ (c : Carrier) (receive : Bool) (i : Fin 4) (s : State),
    (receive = false → txSlotState s c i = slotLoaded ∨ txSlotState s c i = slotActive) →
    (receive = true → rxSlotState s c i = slotLoaded ∨ rxSlotState s c i = slotActive) →
    slotOver s (if receive then rxSlot s c i else txSlot s c i) = true →
    Ends (.slotExpiry c receive i) s fun t =>
      (receive = false → txSlotState t c i = slotExpired ∧ txSlot t c i = .empty) ∧
      (receive = true → rxSlotState t c i = slotExpired ∧ rxSlot t c i = .empty)) ∧
  (∀ (x k : Carrier) (s : State),
    ownerOf s x = some k ∧ (session s k).state = sessKeyed ∧ ownRole s = 0 →
    exchangeDue s k = true ∧ (session s k).kemSeed = none ∧ canSign s = true →
    Ends (.epochExchangeStart x) s fun t =>
      (session t k).kemSeed = some (s.random, (session s k).epoch + 1)) ∧
  (∀ (x k : Carrier) (s : State),
    ownerOf s x = some k ∧ (session s k).state = sessKeyed ∧ epochOver s k = true →
    Ends (.epochExhausted x) s fun t =>
      (session t k).chains = []) ∧
  (∀ (k : Carrier) (s : State),
    (session s k).kqAging = true ∧ passed s (.oldKq k) (10 * secNs) = true →
    Ends (.kqErase k) s fun t =>
      (session t k).keys = (session s k).keys.take 1 ∧
      (session t k).kqAging = false)

/-- The commands below messages (R247 to R252, R258): CALL starts, a burst is keyed, a damaged wake word is counted and a second
good copy accepted, an answer starts, word sync is gained where 16 words show their MARK and lost, a link word begins a
message or drops a partial one, and the pilot modulation follows the peer's path. Readings of the model's own that the
values rest on: log 9, 35, 36, 78, 82. -/
def Obligations.WakeAndWordCommandsComplete : Prop :=
  (∀ (o : Origin) (w : Word) (y : Carrier) (s : State),
    Takes o .qlt QLT.WAKE_CTL.SEND.off (overlay w QLT.WAKE_CTL.SEND 1) s →
    keyable s y = true →
    Ends (.wakeSend o w) s fun t =>
      t.qlt.wake.get y = some ⟨1, t.get .qlt QLT.WAKE_CTL.BURSTS, 0⟩) ∧
  (∀ (x : Carrier) (v : WakeSend) (s : State),
    s.qlt.wake.get x = some v ∧ v.left ≠ 0 ∧ v.type = 1 ∧ keyable s x = true →
    (v.burst = 0 ∨ spaced s (.burst x) secNs = true) →
    Ends (.wakeBurst x) s fun t =>
      (t.optics.get x).keying = burstChips 1 v.burst ∧
      Counted .qlt QLT.WAKE_CNT.TX s t ∧
      t.qlt.wake.get x = (if v.left = 1 then none else some ⟨1, v.left - 1, v.burst + 1⟩)) ∧
  (∀ (x : Carrier) (w : BitVec 64) (s : State),
    wakeSync w = 0xB47 ∧ wakeOk w = false →
    Ends (.wakeWordRx x w) s fun t =>
      Counted .qlt QLT.WAKE_CNT.BAD s t) ∧
  (∀ (x : Carrier) (w : BitVec 64) (s : State),
    wakeSync w = 0xB47 ∧ wakeOk w = true ∧ wakeType w = 2 ∧ expected s (wakeFrag w) = true →
    (hearWake (s.qlt.wakeHeard.get x) w).count = 2 →
    Ends (.wakeWordRx x w) s fun t =>
      Counted .qlt QLT.WAKE_CNT.RX s t ∧
      t.get .qlt QLT.WAKE_STAT.LAST_ID = wakeFrag w ∧
      t.qlt.wake.get x = none ∧
      t.qlt.wake.get x.other = none ∧
      (t.optics.get x).keying = (s.optics.get x).keying.take ((s.optics.get x).keying.length % wordChips)) ∧
  (∀ (x : Carrier) (s : State),
    s.qlt.answerDue.get x = true ∧ s.flag .qlt QLT.CTL.WAKE_ANSWER = true ∧ keyable s x = true →
    Ends (.answerSend x) s fun t =>
      t.qlt.wake.get x = some ⟨2, 2, 0⟩ ∧
      t.qlt.answerDue.get x = false) ∧
  (∀ (x : Carrier) (s : State),
    quoletRuns (takeRecords x s) = true ∧ (takeRecords x s).flag (.cpr x) CPR.STAT.PCH_ACTIVE = true →
    (wordsAt (choosePhase ((takeRecords x s).qlt.pilotRx.get x))).isSome = true →
    Ends (.pchWordSync x) s fun t =>
      t.flag .qlt (pchSyncF x) = true) ∧
  (∀ (x : Carrier) (s : State),
    (takeRecords x s).flag .qlt (pchSyncF x) = false →
    wordsAt (choosePhase ((takeRecords x s).qlt.pilotRx.get x)) = none →
    Ends (.pchWordSync x) s fun t =>
      t.flag .qlt (pchSyncF x) = false) ∧
  (∀ (x : Carrier) (s : State),
    s.flag .qlt (pchSyncF x) = true ∧ marksLost (s.qlt.pilotRx.get x) = true →
    Ends (.pchWordSyncLoss x) s fun t =>
      t.flag .qlt (pchSyncF x) = false ∧
      Counted .qlt QLT.PCH_STAT.LOSS s t ∧
      t.qlt.asmPilot.get x = none) ∧
  (∀ (x : Carrier) (w : BitVec 64) (s : State),
    quoletRuns s = true ∧ wordMark w = 2 ∧ wordV w = true ∧ wordF w = true ∧ wordL w = false →
    Ends (.linkWord x (.inband (some w))) s fun t =>
      t.qlt.asmInband.get x = some (wordBytes w)) ∧
  (∀ (x : Carrier) (s : State),
    quoletRuns s = true →
    Ends (.linkWord x (.inband none)) s fun t =>
      t.qlt.asmInband.get x = none) ∧
  (∀ (x : Carrier) (u : State) (w : BitVec 64) (s : State),
    u = takeRecords x s ∧ quoletRuns u = true ∧ u.flag .qlt (pchSyncF x) = true →
    64 ≤ (syncBits (u.qlt.pilotRx.get x)).length ∧ w = BitVec.ofNat 64 (ofMsbBits ((syncBits (u.qlt.pilotRx.get x)).take 64)) →
    wordMark w = 2 ∧ wordV w = true ∧ wordF w = true ∧ wordL w = false →
    Ends (.linkWord x .pilot) s fun t =>
      t.qlt.asmPilot.get x = some (wordBytes w) ∧
      syncBits (t.qlt.pilotRx.get x) = (syncBits (u.qlt.pilotRx.get x)).drop 64) ∧
  (∀ (x : Carrier) (s : State),
    s.running .qlt = true →
    Ends (.pathStateChange x) s fun t =>
      pathState t x = pathNow s x) ∧
  (∀ (x : Carrier) (on : Bool) (s : State),
    quoletRuns s = true ∧ s.qlt.modulate.get x = some on →
    Ends (.pchModulationChange x) s fun t =>
      t.qlt.modulate.get x = none) ∧
  (∀ (x : Carrier) (s : State),
    quoletRuns s = true ∧ s.qlt.inbAcked.get x = true ∧ passed s (.inbAcked x) msNs = true →
    Ends (.pchRxClear x) s fun t =>
      t.qlt.inbAcked.get x = false)

/-- The handshake's messages (R254, R255, R256, R260, R461): an ACK is counted, a HELLO takes its SEQ, CAPS and a matching
ATTEST are kept, KEM_INIT is held or KEM_RESP completes the exchange, KEY_CONFIRM commits an activation, and an unknown TYPE
is counted and discarded. Readings of the model's own that the values rest on: log 3, 35, 83. -/
def Obligations.HandshakeMessagesComplete : Prop :=
  (∀ (x k : Carrier) (m : Message) (s : State),
    quoletRuns s = true ∧ ownerOf s x = some k ∧ (session s k).state ≠ sessDown →
    macGood s k tAck m = true ∧ m.body = [] →
    Ends (.ack x m) s fun t =>
      Counted .qlt QLT.MSG_RX.COUNT s t) ∧
  (∀ (x k : Carrier) (m : Message) (s : State),
    quoletRuns s = true ∧ ownerOf s x = some k ∧ (session s k).state = sessNegotiate ∧ (session s k).awaitHello = true →
    lengthFits tHello m.body = true ∧ sigGood s k tHello m = true →
    helloJoins (firstHelloOn x m s) x m = none ∧ (session s k).heldKem = none →
    Ends (.hello x m) s fun t =>
      (session t k).awaitHello = false ∧
      (session t k).recvSeq = m.seq + 1) ∧
  (∀ (x k : Carrier) (m : Message) (s : State),
    InTurn x k tCaps m s ∧ (session s k).state = sessNegotiate ∧ (session s k).heldKem = none →
    (session s .a).state ≠ sessKeyed →
    Ends (.caps x m) s fun t =>
      (sigGood s k tCaps m = true → peerMessage t k tCaps = some m) ∧
      (sigGood s k tCaps m = false → t.get .qlt QLT.DISCARD.LAST_CAUSE = dcSig)) ∧
  (∀ (x k : Carrier) (m : Message) (s : State),
    InTurn x k tAttest m s ∧ (session s k).state = sessNegotiate ∧ (session s k).heldKem = none →
    (session s .a).state ≠ sessKeyed ∧ reportNonce (attestReportOf m.body) = (session s k).nonce →
    Ends (.attest x m) s fun t =>
      (sigGood s k tAttest m = true → peerMessage t k tAttest = some m) ∧
      (sigGood s k tAttest m = false → t.get .qlt QLT.DISCARD.LAST_CAUSE = dcSig)) ∧
  (∀ (x k : Carrier) (m : Message) (s : State),
    InTurn x k tKemInit m s ∧ (session s k).state = sessNegotiate ∧ ownRole s = 1 →
    beAt (peerBody s k tHello) 1 1 ≠ 1 →
    Ends (.kemInit x m) s fun t =>
      (sigGood s k tKemInit m = true → (session t k).heldKem = some m) ∧
      (sigGood s k tKemInit m = false → t.get .qlt QLT.DISCARD.LAST_CAUSE = dcSig)) ∧
  (∀ (x k : Carrier) (m : Message) (seed : BitVec 512) (s : State),
    InTurn x k tKemResp m s ∧ (session s k).state = sessKeying ∧ ownRole s = 0 →
    beAt (peerBody s k tHello) 1 1 ≠ 0 ∧ (session s k).kemSeed = some (seed, beAt m.body 0 4) ∧
      (session s k).confirmed = false →
    Ends (.kemResp x m) s fun t =>
      (sigGood s k tKemResp m = true → (session t k).confirmSent = true ∧ (session t k).epoch = beAt m.body 0 4) ∧
      (sigGood s k tKemResp m = false → t.get .qlt QLT.DISCARD.LAST_CAUSE = dcSig)) ∧
  (∀ (x k c : Carrier) (m : Message) (s : State),
    InTurn x k tKeyConfirm m s ∧ (session s k).state = sessKeyed →
    beAt m.body 0 1 ≠ 0 ∧ c = (if beAt m.body 1 1 = 0 then .a else .b) →
    activationPending s c = true ∧ beAt m.body 2 1 = ownRole s ∧ s.get (.cry c) CRY.TX_STAT.PENDING_IDX = beAt m.body 3 1 →
    (txSlot s c (beAt m.body 3 1)).epoch = beAt m.body 4 4 ∧
      s.get (.cry c) (CRY.TX_SLOT.RATCHET.at (beAt m.body 3 1)) = beAt m.body 8 1 →
    csfAtOrAfter (txCsf s c + 16) (activationCsf s c) = false ∧ jointKeying s = false →
    Ends (.keyConfirm x m) s fun t =>
      t.flag (.cry c) CRY.TX_STAT.COMMITTED = true) ∧
  (∀ (x k : Carrier) (type : BitVec 8) (m : Message) (s : State),
    quoletRuns s = true ∧ ownerOf s x = some k ∧ (session s k).state ≠ sessDown →
    (session s k).awaitHello = false ∧ (session s k).ahead = [] ∧ m.seq = (session s k).recvSeq →
    macGood s k type.toNat m = true ∧ sigGood s k type.toNat m = true ∧ tRefuse < type.toNat →
    Ends (.unknownTypeMessage x type m) s fun t =>
      t.get .qlt QLT.DISCARD.LAST_CAUSE = dcUnknown ∧
      Counted .qlt QLT.MSG_RX.COUNT s t)

/-- The messages of a keyed session (R237, R256, R257, R263, R264, R265, R267, R283): REKEY loads a receive slot, RATE_OFFER and
RATE_ACCEPT set targets, STEP and STEP_ACK move the rate state, ROUTE_SWITCH is accepted, sleep is asked for, accepted and
cancelled, telemetry and TIME are kept, REFUSE is counted. Readings of the model's own that the values rest on: log 34, 36,
39, 83. -/
def Obligations.KeyedMessagesComplete : Prop :=
  (∀ (x k c : Carrier) (m : Message) (ch : Chain) (s : State),
    InTurn x k tRekey m s ∧ (session s k).state = sessKeyed ∧ c = (if beAt m.body 0 1 = 0 then .a else .b) →
    stepPending s c = false ∧ switchPending s c = false ∧ s.qlt.sleepPlan = none →
    chainAt s k (beAt m.body 3 4) (beAt m.body 7 1) = some ch ∧ beAt m.body 2 1 < 4 →
    (rxSlotState s c (beAt m.body 2 1) = slotEmpty ∨ rxSlotState s c (beAt m.body 2 1) = slotExpired) →
    Ends (.rekey x m) s fun t =>
      (kcvOf (keyOf (keyStream ch.secret c (beAt m.body 1 1) (beAt m.body 3 4) (beAt m.body 7 1))) (saltOf
        (keyStream ch.secret c (beAt m.body 1 1) (beAt m.body 3 4) (beAt m.body 7 1))) = beAt m.body 13 2 →
        rxSlotState t c (beAt m.body 2 1) = slotLoaded)) ∧
  (∀ (x k : Carrier) (m : Message) (s : State),
    InTurn x k tRateOffer m s ∧ (session s k).state = sessKeyed →
    Ends (.rateOffer x m) s fun t =>
      (session t k).peerTargets = (beAt m.body 0 1, beAt m.body 1 1, beAt m.body 2 1)) ∧
  (∀ (x k : Carrier) (m : Message) (s : State),
    InTurn x k tRateAccept m s ∧ (session s k).state = sessKeyed →
    Ends (.rateAccept x m) s fun t =>
      negTarget t x = negotiated (ownTarget s x) (ownMask s) (peerTarget s k x) (peerMask s k)) ∧
  (∀ (x k y : Carrier) (m : Message) (s : State),
    InTurn x k tStep m s ∧ (session s k).state = sessKeyed →
    beAt m.body 3 1 = 1 ∧ y ∈ maskCarriers (beAt m.body 0 1) ∧ rateState s y ≠ rsRestarting →
    Ends (.step x m) s fun t =>
      rateState t y = rsArmed ∧
      (stepOf t y).toMode = beAt m.body 2 1) ∧
  (∀ (x k y : Carrier) (m : Message) (s : State),
    InTurn x k tStepAck m s ∧ (session s k).state = sessKeyed →
    y ∈ maskCarriers (beAt m.body 0 1) ∧ beAt m.body 7 1 = 0 ∧ jointStep s = false →
    rateState s y = rsOffered ∧ (stepOf s y).n = beAt m.body 2 5 ∧ (stepOf s y).toMode = beAt m.body 1 1 →
    csfAtOrAfter (txCsf s y + 16) (beAt m.body 2 5) = false →
    Ends (.stepAck x m) s fun t =>
      rateState t y = rsCommitted) ∧
  (∀ (x k : Carrier) (m : Message) (s : State),
    InTurn x k tRouteSwitch m s ∧ (session s k).state = sessKeyed ∧ beAt m.body 0 1 = 0 →
    switchRuns s = true ∧ switchState s = swIdle ∧ stepPending s (workingCarrier s) = false ∧ s.qlt.sleepPlan = none →
    Ends (.routeSwitch x m) s fun t =>
      switchState t = swCommitted ∧
      t.rps.route = beAt m.body 1 1) ∧
  (∀ (x k : Carrier) (state delay : Nat) (s : State),
    ownerOf s x = some k ∧ (session s k).state = sessKeyed ∧ s.qlt.sleepAsked = none ∧ s.qlt.sleepPlan = none →
    sleepObjection s k = false →
    Ends (.sleepReq x (.ask state delay)) s fun t =>
      t.qlt.sleepAsked = some ⟨state, delay, lineMode s .a, lineMode s .b⟩) ∧
  (∀ (x k : Carrier) (m : Message) (s : State),
    InTurn x k tSleepReq m s ∧ (session s k).state = sessKeyed ∧ beAt m.body 0 1 = 0 →
    sleepObjection s k = false ∧ s.qlt.sleepAsked = none →
    Ends (.sleepReq x (.received m)) s fun t =>
      t.qlt.sleepPlan = some ⟨beAt m.body 1 1, beAt m.body 2 2, lineMode s .a, lineMode s .b⟩) ∧
  (∀ (x k : Carrier) (m : Message) (s : State),
    InTurn x k tWake m s ∧ (session s k).state = sessKeyed ∧ beAt m.body 0 1 = 0 →
    Ends (.wakeMsg x (.received m)) s fun t =>
      t.qlt.sleepPlan = none ∧
      t.qlt.sleepAsked = none) ∧
  (∀ (x k : Carrier) (s : State),
    ownerOf s x = some k ∧ (session s k).state = sessKeyed →
    (s.qlt.sleepPlan.isSome = true ∨ s.qlt.sleepAsked.isSome = true) →
    Ends (.wakeMsg x .cancel) s fun t =>
      t.qlt.sleepPlan = none ∧
      t.qlt.sleepAsked = none ∧
      Counted .qlt QLT.MSG_TX.COUNT s t) ∧
  (∀ (x k : Carrier) (m : Message) (s : State),
    InTurn x k tTelemetry m s ∧ (session s k).state = sessKeyed →
    Ends (.telemetry x (.received m)) s fun t =>
      t.qlt.peerValues = (telemetryArrives m.body s).qlt.peerValues) ∧
  (∀ (x k : Carrier) (channels : List (Fin 64)) (s : State),
    ownerOf s x = some k ∧ (session s k).state = sessKeyed →
    Ends (.telemetry x (.send channels)) s fun t =>
      Counted .qlt QLT.MSG_TX.COUNT s t) ∧
  (∀ (x k : Carrier) (m : Message) (s : State),
    InTurn x k tTime m s ∧ (session s k).state ≠ sessDown →
    Ends (.timeMsg x m) s fun t =>
      t.qlt.peerRef.get (if beAt m.body 0 1 = 0 then .a else .b) = some (beAt m.body 1 5)) ∧
  (∀ (x k : Carrier) (m : Message) (s : State),
    InTurn x k tRefuse m s ∧ (session s k).state ≠ sessDown →
    Ends (.refuse x m) s fun t =>
      Counted .qlt QLT.REFUSE.COUNT s t ∧
      t.get .qlt QLT.REFUSE.LAST_TYPE = beAt m.body 0 1 ∧
      t.get .qlt QLT.REFUSE.LAST_REASON = beAt m.body 5 1)

/-- The timers of sessions (R255, R260, R265): resending, acknowledging, sending TIME, stamping CSF starts, the handshake's and
the failed session's timeout, and a session whose paths are gone. Readings of the model's own that the values rest on: log
9, 36. -/
def Obligations.SessionTimersComplete : Prop :=
  (∀ (k : Carrier) (seqNo : Nat) (o : Outstanding) (s : State),
    ((session s k).unacked.take windowSize).find? (fun z => z.msg.seq == seqNo) = some o →
    quoletRuns s = true ∧ o.resends < s.get .qlt QLT.CTL.RETX_MAX →
    passed s (.retx k seqNo o.resends) (retxNs s k o.resends) = true →
    Ends (.retxTimeout k seqNo) s fun t =>
      Counted .qlt QLT.RETX.COUNT s t) ∧
  (∀ (k : Carrier) (s : State),
    quoletRuns s = true ∧ (session s k).ackDue = true →
    Ends (.ackTimer k) s fun t =>
      (session t k).ackDue = false ∧
      Counted .qlt QLT.MSG_TX.COUNT s t) ∧
  (∀ (x k : Carrier) (e : Nat × Nat) (s : State),
    ownerOf s x = some k ∧ (s.qlt.txStamps.get x).head? = some e ∧ quoletRuns s = true →
    pathState s x = pathInband ∧ s.get .qlt QLT.TIME_CFG.PERIOD ≠ 0 ∧ csfAtOrAfter (e.1 + 1024) (txCsf s x) = true →
    spaced s (.timeSent x) (s.get .qlt QLT.TIME_CFG.PERIOD * msNs) = true →
    (session s k).state ≠ sessDown ∧ (session s k).state ≠ sessFailed →
    Ends (.timeSend x) s fun t =>
      Counted .qlt QLT.MSG_TX.COUNT s t) ∧
  (∀ (x : Carrier) (receive : Bool) (csf stamp : Nat) (s : State),
    Ends (.csfTimestamp x receive csf stamp) s fun t =>
      ((if receive then t.qlt.rxStamps else t.qlt.txStamps).get x).head? = some (csf, stamp)) ∧
  (∀ (k : Carrier) (s : State),
    ((session s k).state = sessNegotiate ∨ (session s k).state = sessKeying) →
    passed s (.handshake k) (5 * secNs) = true →
    Ends (.handshakeTimeout k) s fun t =>
      (session t k).state = sessFailed ∧
      t.get .qlt QLT.LAST_FAIL.CAUSE = 0x80) ∧
  (∀ (k : Carrier) (s : State),
    (session s k).state = sessFailed ∧ sessionUp s k = true ∧ handshakeAllowed s = true →
    passed s (.failed k) (10 * secNs) = true →
    Ends (.failedRetry k) s fun t =>
      (session t k).state = sessNegotiate ∧
      (session t k).awaitHello = true) ∧
  (∀ (k x : Carrier) (s : State),
    ownerOf s x = some k ∧ sessionUp s k = false ∧ passed s (.pathless k) secNs = true →
    Ends (.sessionPathless k) s fun t =>
      (session t k).state = sessDown ∧
      ownerOf t x = none)

/-- The commands of a rate step (R264): offered, lapsed, restarted, armed and lapsed, confirming, done, fallen back, stepped
down, the backoff's end; and the agreed sleep that falls due (R267). Readings of the model's own that the values rest on:
log 2, 9, 37. -/
def Obligations.RateStepCommandsComplete : Prop :=
  (∀ (x k : Carrier) (s : State),
    ownerOf s x = some k ∧ (session s k).state = sessKeyed ∧ ownRole s = 0 ∧ s.flag .qlt QLT.CTL.AUTO_STEP = true →
    jointStep s = false ∧ stepReady s k x = true ∧ receiveCondition s x = true →
    Ends (.stepOffer x) s fun t =>
      rateState t x = rsOffered ∧
      (stepOf t x).toMode = (after (ladderOf s x) (lineMode s x)).getD 0) ∧
  (∀ (x : Carrier) (s : State),
    rateState s x = rsOffered ∧ csfAtOrAfter (txCsf s x + 16) (stepOf s x).n = true →
    Ends (.stepOfferDeadline x) s fun t =>
      rateState t x = rsSteady) ∧
  (∀ (x : Carrier) (s : State),
    restartDue s x = true →
    Ends (.stepRestart x) s fun t =>
      rateState t x = rsRestarting ∧
      (stepOf t x).restarted = true) ∧
  (∀ (x : Carrier) (jump : Bool) (s : State),
    rateState s x = rsArmed →
    (jump = false → inFrame s x = true ∧ csfAtOrAfter (s.pair (.lfm x) LFM.RX_CSF_LO.CSF LFM.RX_CSF_HI.CSF)
      ((stepOf s x).n + 64) = true) →
    Ends (.armedLapse x jump) s fun t =>
      rateState t x = rsSteady) ∧
  (∀ (x : Carrier) (s : State),
    rateState s x = rsRestarting ∧ (stepOf s x).restarted = true ∧ fecLocked s x = true ∧ inFrame s x = true ∧
      stepTimedOut s x = false →
    Ends (.stepConfirming x) s fun t =>
      rateState t x = rsConfirming) ∧
  (∀ (x : Carrier) (s : State),
    rateState s x = rsConfirming ∧ (stepOf s x).failed = false ∧ (stepOf s x).kind ≠ 1 ∧ sfHeld s (.confirming x) = true →
    Ends (.stepDone x) s fun t =>
      rateState t x = rsSteady ∧
      backoffOf t x ((stepOf s x).fromMode, (stepOf s x).toMode) = none ∧
      Counted .qlt QLT.STEP_CNT.UP s t) ∧
  (∀ (x : Carrier) (s : State),
    rateState s x = rsRestarting ∧ (stepOf s x).restarted = true →
    (stepTimedOut s x = true ∨ (stepOf s x).failed = true) →
    Ends (.fallback x) s fun t =>
      rateState t x = rsRestarting ∧
      (stepOf t x).toMode = fallbackMode s x) ∧
  (∀ (x k : Carrier) (mode : Nat) (s : State),
    ownerOf s x = some k ∧ rateState s x = rsSteady ∧ downDue s x = true ∧ downTo s x = some mode →
    Ends (.stepDown x) s fun t =>
      rateState t x = rsRestarting ∧
      (stepOf t x).kind = 1) ∧
  (∀ (x : Carrier) (step : Nat × Nat) (s : State),
    (stepOf s x).waiting = some step ∧ passed s (.backoff x) ((backoffOf s x step).getD 0 * secNs) = true →
    Ends (.stepBackoffEnd x) s fun t =>
      (stepOf t x).waiting = none) ∧
  (∀ (p : SleepPlan) (s : State),
    s.qlt.sleepPlan = some p ∧ s.running .qlt = true ∧ onlyReserve s = false ∧ passed s .sleepPlan (p.delay * msNs) = true →
    Ends (.sleepDelayExpiry) s fun t =>
      t.get .pwr HDR.SEQ.COUNT = (s.get .pwr HDR.SEQ.COUNT + 1) % 2 ^ HDR.SEQ.COUNT.width)

/-- The commands of 1+1 (R274 to R278): an output instant passes its pause or its number, the pair state moves, the delay is
realigned, a carrier is selected manually, by force, by SF and by the end of the wait-to-restore time, and the delay moves
to LPDDR5X. Readings of the model's own that the values rest on: log 9, 40. -/
def Obligations.RouteProtectionCommandsComplete : Prop :=
  (∀ (s : State),
    pairRuns s = true ∧ 0 < s.rps.pause →
    Ends (.rpsOutputInstant) s fun t =>
      t.rps.pause = s.rps.pause - 1) ∧
  (∀ (csf lf : Nat) (s : State),
    pairRuns s = true ∧ s.rps.pause = 0 ∧ s.rps.next = some (csf, lf) ∧ pairState s = raAligned →
    Ends (.rpsOutputInstant) s fun t =>
      t.rps.next = some (nextNumber csf lf)) ∧
  (∀ (s : State),
    pairRuns s = true ∧ pairState s = raSingle ∧ inFrame s .a = false ∧ inFrame s .b = false →
    Ends (.rpsPairState) s fun t =>
      pairState t = raSearch ∧
      t.rps.next = none) ∧
  (∀ (s : State),
    pairRuns s = true ∧ pairState s = raSingle ∧ (inFrame s .a = true ∨ inFrame s .b = true) ∧ 64 ≤ s.rps.matched →
    Ends (.rpsPairState) s fun t =>
      pairState t = raAligned) ∧
  (∀ (s : State),
    pairState s = raDrift →
    Ends (.realign) s fun t =>
      pairState t = raAligned ∧
      t.rps.pause = s.rps.pause + ((s.get .rps RPS.CTL.GUARD : Int) - lateLead s).toNat ∧
      t.rps.lead = s.rps.lead + ((s.get .rps RPS.CTL.GUARD : Int) - lateLead s).toNat) ∧
  (∀ (o : Origin) (s : State),
    TakesField o .rps RPS.CMD.REALIGN 1 s →
    pairState s = raDrift →
    Ends (.rpsCmdRealign o) s fun t =>
      pairState t = raAligned) ∧
  (∀ (o : Origin) (route : Fin 2) (c : Carrier) (s : State),
    Takes o .rps RPS.CMD.CMD.off (routeCommand 1 route.val) s →
    pairRuns s = true ∧ c.idx = route.val ∧ carrierPresent s c = true ∧ s.flag (.fec c) FEC.STAT.SF = false ∧
      s.flag .rps RPS.STAT.FORCED = false →
    Ends (.rpsCmdManual o route) s fun t =>
      activeCarrier t = c ∧
      t.rps.manual = true) ∧
  (∀ (o : Origin) (route : Fin 2) (c : Carrier) (s : State),
    Takes o .rps RPS.CMD.CMD.off (routeCommand 2 route.val) s →
    pairRuns s = true ∧ c.idx = route.val →
    Ends (.rpsCmdForced o route) s fun t =>
      activeCarrier t = c ∧
      t.flag .rps RPS.STAT.FORCED = true) ∧
  (∀ (o : Origin) (route : Fin 2) (s : State),
    Takes o .rps RPS.CMD.CMD.off (routeCommand 3 route.val) s →
    Ends (.rpsCmdClear o route) s fun t =>
      t.flag .rps RPS.STAT.FORCED = false ∧
      t.rps.manual = false) ∧
  (∀ (s : State),
    pairRuns s = true ∧ s.flag (.fec (activeCarrier s)) FEC.STAT.SF = true →
    s.flag (.fec (activeCarrier s).other) FEC.STAT.SF = false ∧ carrierPresent s (activeCarrier s).other = true ∧
      s.flag .rps RPS.STAT.FORCED = false →
    passed s .sfAlone (s.get .rps RPS.TIMERS.HOLDOFF * msNs) = true →
    Ends (.rpsSfHoldoff) s fun t =>
      activeCarrier t = (activeCarrier s).other ∧
      Counted .rps RPS.SW_CNT.SWITCHES s t) ∧
  (∀ (s : State),
    wtrRuns s = true ∧ passed s .waitRestore (s.get .rps RPS.TIMERS.WTR * 10 * secNs) = true →
    Ends (.wtrExpiry) s fun t =>
      activeCarrier t = (if s.flag .rps RPS.CTL.PRIMARY then .b else .a)) ∧
  (∀ (s : State),
    pairRuns s = true ∧ storeHolds s = false ∧ s.flag .rps RPS.STAT.DRAM = false →
    Ends (.rpsDramOn) s fun t =>
      t.flag .rps RPS.STAT.DRAM = true)

/-- The commands of the 1:1 switch (R281, R283, R284): requested on a failure, lapsed at the deadline, toggled at CSF N, the
equaliser restarted, done with its hit, and unilateral. Readings of the model's own that the values rest on: log 2, 9, 40. -/
def Obligations.RouteSwitchCommandsComplete : Prop :=
  (∀ (k : Carrier) (s : State),
    switchRuns s = true ∧ switchState s = swIdle ∧ s.entering pwrSleep = false ∧ switchSession s = some k →
    s.flag .rps RPS.STAT.FORCED = false →
    ((s.flag (.fec (workingCarrier s)) FEC.STAT.SF = true ∧
      passed s (.inSf (workingCarrier s)) (s.get .rps RPS.TIMERS.HOLDOFF * msNs) = true) ∨
      (inFrame s (workingCarrier s) = false ∧ passed s (.outOfFrame (workingCarrier s))
      (s.get .rps RPS.TIMERS.HOLDOFF * msNs) = true)) →
    Ends (.swRequest) s fun t =>
      switchState t = swRequested ∧
      t.rps.route = 1 - s.get .rps RPS.STAT.ROUTE_NOW) ∧
  (∀ (s : State),
    switchState s = swRequested ∧ csfAtOrAfter (txCsf s (workingCarrier s) + 16) s.rps.n = true →
    Ends (.swRequestDeadline) s fun t =>
      switchState t = swIdle) ∧
  (∀ (s : State),
    switchState s = swCommitted ∧ csfAtOrAfter (txCsf s (workingCarrier s)) s.rps.n = true ∧ s.rps.route < 2 →
    Ends (.swToggle) s fun t =>
      switchState t = swSwitching ∧
      t.get .rps RPS.STAT.ROUTE_NOW = s.rps.route ∧
      t.rps.pins.get (workingCarrier s) = (s.rps.route == 1)) ∧
  (∀ (c : Carrier) (s : State),
    switchState s = swSwitching ∧ c = workingCarrier s ∧ acqState s c ≠ acqIdleState ∧ passed s .settling (settleNs s) = true →
    Ends (.swSettleExpiry) s fun t =>
      Counted (.eqz c) EQZ.ACQ_STAT.RESTART_CNT s t) ∧
  (∀ (hitUs : Nat) (s : State),
    switchState s = swSwitching ∧ inFrame s (workingCarrier s) = true →
    Ends (.swDone hitUs) s fun t =>
      switchState t = swIdle ∧
      t.get .rps RPS.LAST_HIT.HIT = min hitUs (2 ^ 24 - 1) ∧
      Counted .rps RPS.SW_CNT.SWITCHES s t) ∧
  (∀ (s : State),
    switchRuns s = true ∧ inFrame s (workingCarrier s) = false ∧ s.flag .rps RPS.STAT.FORCED = false ∧
      switchState s = swSwitching →
    passed s .toggled (settleNs s + 10 * msNs) = true →
    Ends (.swUnilateral) s fun t =>
      switchState t = swUnilateral ∧
      t.get .rps RPS.STAT.ROUTE_NOW = 1 - s.get .rps RPS.STAT.ROUTE_NOW)

/-- The commands of FES and SYN (R291 to R305): a module is enabled, powered, tuned, locked, made ready, enabled and disabled, a
fault is entered and cleared, LOS is set, a safety hold disables the laser, the margin and gain judged, the module read, and
a synthesiser loses and regains lock. Readings of the model's own that the values rest on: log 9, 10, 24, 25, 26. -/
def Obligations.OpticsCommandsComplete : Prop :=
  (∀ (o : Origin) (c : Carrier) (en : Bool) (s : State),
    TakesField o .fes (fesEn c) (bit en) s →
    s.flag .fes (fesEn c) ≠ en →
    (en = true → fesState s c = fesDark) →
    (en = false → fesState s c ≠ fesFault ∧ fesState s c ≠ fesSafe) →
    Ends (.fesEn o c en) s fun t =>
      fesState t c = fesDark ∧
      (t.optics.get c).modReset = !en) ∧
  (∀ (c : Carrier) (s : State),
    passed s (.poweringUp c) (s.get .fes FES.TIMEOUT.READY_TO * secNs) = false →
    s.running .fes = true ∧ fesState s c = fesDark ∧ s.flag .fes (fesEn c) = true →
    Ends (.moduleReady c 0) s fun t =>
      fesState t c = (if s.flag .fes (fesAuto c) then fesTuning else fesPowered) ∧
      (t.optics.get c).modReset = false) ∧
  (∀ (o : Origin) (c : Carrier) (s : State),
    TakesField o .fes (pick c FES.CTL_A.TUNE FES.CTL_B.TUNE) 1 s →
    (fesState s c = fesPowered ∨ (fesTuned ≤ fesState s c ∧ fesState s c ≤ fesLocked)) →
    Ends (.tune o c) s fun t =>
      fesState t c = fesTuning) ∧
  (∀ (c : Carrier) (s : State),
    passed s (.tuning c) (s.get .fes FES.TIMEOUT.TUNE_TO * secNs) = false →
    fesState s c = fesTuning →
    Ends (.wavelengthLock c 0) s fun t =>
      fesState t c = fesTuned ∧
      (t.optics.get c).waveLock = true) ∧
  (∀ (c : Carrier) (s : State),
    s.running .fes = true ∧ fesState s c = fesTuned ∧ txRunning s c = true ∧ s.flag .fes (fesAuto c) = false →
    Ends (.txReadyEntry c) s fun t =>
      fesState t c = fesTxReady) ∧
  (∀ (o : Origin) (c : Carrier) (s : State),
    TakesField o .fes (pick c FES.CTL_A.TX_REQ FES.CTL_B.TX_REQ) 1 s →
    fesState s c = fesTxReady ∧ plinthGrants s c = true ∧ holdCauses s c = 0 ∧ txRunning s c = true →
    Ends (.txReq o c) s fun t =>
      fesEmits t c = true ∧
      (t.optics.get c).txDisabled = false) ∧
  (∀ (c : Carrier) (s : State),
    s.flag .fes (fesHeldF c) = true ∧ fesState s c = fesTxReady ∧ holdCauses s c = 0 ∧ plinthGrants s c = true ∧
      holdOver s c = false →
    Ends (.txHoldRelease c) s fun t =>
      fesState t c = fesTxOn ∧
      (s.flag .fes (fesHeldF c) = true → t.flag .fes (fesHeldF c) = false)) ∧
  (∀ (c : Carrier) (s : State),
    s.flag .fes (fesHeldF c) = true ∧ holdOver s c = true →
    Ends (.txHoldTimeout c) s fun t =>
      t.flag .fes (fesHeldF c) = false ∧
      Counted .fes (fesRefCnt c) s t) ∧
  (∀ (o : Origin) (c : Carrier) (s : State),
    TakesField o .fes (pick c FES.CTL_A.TX_OFF FES.CTL_B.TX_OFF) 1 s →
    fesEmits s c = true →
    Ends (.txOff o c) s fun t =>
      fesEmits t c = false ∧
      t.flag .fes (fesHeldF c) = false) ∧
  (∀ (o : Origin) (c : Carrier) (s : State),
    TakesField o .fes (pick c FES.CTL_A.CLR_FAULT FES.CTL_B.CLR_FAULT) 1 s →
    fesState s c = fesFault →
    Ends (.clrFault o c) s fun t =>
      fesState t c = fesDark) ∧
  (∀ (c : Carrier) (code : Nat) (s : State),
    s.running .fes = true ∧ code < s.get .fes FES.LOS_CFG.SET ∧ 1 ≤ (s.optics.get c).below →
    Ends (.losReading c code) s fun t =>
      t.flag .fes (fesLosF c) = true) ∧
  (∀ (c : Carrier) (cause : Nat) (s : State),
    s.running .fes = true ∧ fesPowered ≤ fesState s c ∧ fesState s c ≤ fesLocked ∧ cause < 256 →
    Ends (.fesFault c cause) s fun t =>
      fesState t c = fesFault ∧
      t.get .fes (fesFaultF c) = cause ∧
      Counted .fes (fesFaultCnt c) s t) ∧
  (∀ (c : Carrier) (s : State),
    safetyHold s c = true →
    Ends (.safetyHoldState c) s fun t =>
      fesState t c = fesSafe ∧
      (t.optics.get c).txDisabled = true) ∧
  (∀ (c : Carrier) (s : State),
    fesState s c = fesLocked ∧ 30000 < (s.getInt (.cpr c) CPR.FO_EST.FO).natAbs ∧ (s.optics.get c).marginArmed = true ∧
      passed s (.foWide c) secNs = true →
    Ends (.foMargin c) s fun t =>
      (t.optics.get c).marginArmed = false) ∧
  (∀ (c : Carrier) (y : Bool) (s : State),
    s.running .fes = true ∧ s.flag .fes (fesTrack c) = true ∧ fesPowered ≤ fesState s c ∧ fesState s c ≤ fesLocked →
    (polLanes c y).all (fun n => s.running (.lrx n)) = true ∧
      (polLanes c y).any (fun n => s.flag (.lrx n) LRX.GAIN_STAT.AT_MIN) = false →
    (polLanes c y).any (fun n => s.flag (.lrx n) LRX.GAIN_STAT.AT_MAX) = true ∧ s.flag .fes (fesPol c) = true →
    spaced s (.tiaStepped c y) (s.get .fes FES.GAIN_LOOP.DWELL * msNs) = true →
    s.get .fes (fesTiaMin c) < s.get .fes (fesTiaMax c) ∧
      s.get .fes (fesTia c y) + s.get .fes FES.GAIN_LOOP.STEP ≤ s.get .fes (fesTiaMax c) ∧
      s.get .fes (fesTiaMin c) ≤ s.get .fes (fesTia c y) →
    Ends (.tiaGainStep c y) s fun t =>
      t.get .fes (fesTia c y) = s.get .fes (fesTia c y) + s.get .fes FES.GAIN_LOOP.STEP) ∧
  (∀ (o : Origin) (w : Word) (d : Int) (s : State),
    Takes o .fes FES.CMIS_CMD.GO.off (overlay w FES.CMIS_CMD.GO 1) s →
    Ends (.cmisGo o w [1, d]) s fun t =>
      t.get .fes FES.CMIS_CMD.STATUS = 2) ∧
  (∀ (c : Carrier) (asserted : Bool) (modState : Nat) (lock settling laserFault : Bool) (s : State),
    s.running .fes = true →
    Ends (.cmisFlagPoll c asserted modState lock settling laserFault) s fun t =>
      t.get .fes (fesModF c) = modState % 8) ∧
  (∀ (n : Fin 3) (s : State),
    s.running (.syn n) = true ∧ s.flag (.syn n) SYN.STAT.LOCK = true →
    Ends (.synUnlock n) s fun t =>
      t.flag (.syn n) SYN.STAT.LOCK = false ∧
      Counted (.syn n) SYN.UNLOCK_CNT.COUNT s t) ∧
  (∀ (n : Fin 3) (band : Int × Int) (s : State),
    s.running (.syn n) = true ∧ s.flag (.syn n) SYN.STAT.LOCK = false →
    Ends (.synRelock n true band) s fun t =>
      t.flag (.syn n) SYN.STAT.LOCK = true ∧
      t.flag (.syn n) SYN.STAT.CAL = false)

/-- The commands of TEL (R310, R311, R312, R315, R316): a tick is counted or resets the decimators, a channel shows its output,
a reset is asked for, and the tap states of R315 follow LEARN, the signature, ARM, ACK and a raise. Readings of the model's
own that the values rest on: log 10, 41, 42. -/
def Obligations.TelemetryAndTapCommandsComplete : Prop :=
  (∀ (inputs : TelInputs) (s : State),
    telTickDue s = true →
    Ends (.telTick inputs) s fun t =>
      t.tel.ticks = (if s.tel.resetDue then 0 else s.tel.ticks + 1) ∧
      (s.tel.resetDue = true → Counted .tel TEL.SYNC_CNT.COUNT s t)) ∧
  (∀ (n : Fin 64) (m : Nat) (v : Int) (tick : Nat) (s : State),
    (telChannel s n.val).due = some (m, v, tick) →
    Ends (.telOutput n) s fun t =>
      t.getInt .tel (TEL.OUT.VALUE.at n.val) = clampWord v ∧
      t.get .tel (TEL.FLAG.M.at n.val) = m % 65536 ∧
      (telChannel t n.val).due = none) ∧
  (∀ (s : State),
    s.running .tel = true ∧ s.flag .tel TEL.CTL.PIN_EN = true →
    Ends (.telSync none) s fun t =>
      t.tel.resetDue = true) ∧
  (∀ (o : Origin) (s : State),
    TakesField o .tel TEL.CTL.SYNC 1 s →
    s.running .tel = true →
    Ends (.telSync (some o)) s fun t =>
      t.tel.resetDue = true) ∧
  (∀ (o : Origin) (c : Carrier) (s : State),
    TakesField o .tel (tapLearnF c) 1 s →
    tapState s c = tapDisarmed →
    Ends (.learn o c) s fun t =>
      tapState t c = tapLearning) ∧
  (∀ (c : Carrier) (s : State),
    tapState s c = tapLearning ∧ learnFull s c = true ∧ patinaRuns s = true →
    Ends (.learnDone c) s fun t =>
      tapState t c = tapArmed ∧
      tapSignature t c (tapRoute s c) = some (learned (tapWatch s c))) ∧
  (∀ (o : Origin) (c : Carrier) (arm : Bool) (s : State),
    TakesField o .tel (tapArmF c) (bit arm) s →
    (tapState s c = tapDisarmed ∨ arm = false) →
    Ends (.tapArm o c arm) s fun t =>
      tapState t c = (if arm then tapArmed else tapDisarmed)) ∧
  (∀ (o : Origin) (c : Carrier) (s : State),
    TakesField o .tel (tapAckF c) 1 s →
    tapState s c = tapAlarm →
    Ends (.tapAck o c) s fun t =>
      tapState t c = tapArmed ∧
      t.get .tel (tapRulesF c) = 0) ∧
  (∀ (o : Origin) (c : Carrier) (rules : BitVec 5) (s : State),
    Takes o .tel TEL.TAP_RAISE.RULES.off (overlay (overlay 0 TEL.TAP_RAISE.CARRIER c.idx) TEL.TAP_RAISE.RULES rules.toNat) s →
    tapState s c = tapArmed →
    Ends (.tapRaise o c rules) s fun t =>
      tapState t c = tapAlarm ∧
      t.get .tel (tapRulesF c) = s.get .tel (tapRulesF c) ||| rules.toNat)

/-- The commands of CAST (R319 to R324): a ring block is dropped, a trigger opens a window, a write of TRIG does, a held trigger
does once it may, a window ends and its history freezes, a committed window is counted, captures end. Readings of the
model's own that the values rest on: log 9, 33, 43, 44. -/
def Obligations.CastCommandsComplete : Prop :=
  (∀ (s : State),
    (s.cast.ringWaiting ≠ [] ∨ s.cast.ringOpen.isSome = true) →
    Ends (.ringDrop) s fun t =>
      Counted .cast CAST.RING_DROP.COUNT s t) ∧
  (∀ (b : Fin 11) (s : State),
    s.running .cast = true ∧ testBit (s.get .cast CAST.CTL.TRIG_EN) b.val = true ∧ s.cast.arrived = [] →
    castState s = castIdle ∧ castHolds s = false ∧ patinaRuns s = true →
    Ends (.castTrigger b) s fun t =>
      castState t = castPost ∧
      t.get .cast CAST.LAST.CAUSE = 2 ^ b.val ∧
      t.get .cast CAST.WIN_NO.W = (s.get .cast CAST.WIN_NO.W + 1) % 2 ^ CAST.WIN_NO.W.width) ∧
  (∀ (o : Origin) (s : State),
    TakesField o .cast CAST.CTL.TRIG 1 s →
    s.running .cast = true ∧ testBit (s.get .cast CAST.CTL.TRIG_EN) 0 = true →
    castState s = castIdle ∧ castHolds s = false ∧ patinaRuns s = true →
    Ends (.castSwTrig o) s fun t =>
      castState t = castPost ∧
      t.get .cast CAST.LAST.CAUSE = 1) ∧
  (∀ (b time : Nat) (s : State),
    s.cast.held = some (b, time) ∧ s.running .cast = true ∧ castState s = castIdle ∧ castHolds s = false ∧ patinaRuns s = true →
    Ends (.castHeldTrigger) s fun t =>
      castState t = castPost ∧
      t.cast.held = none ∧
      t.flag .cast CAST.STAT.HELD = false) ∧
  (∀ (v : CastWindow) (s : State),
    s.cast.window = some v →
    Ends (.castWindowEnd) s fun t =>
      castState t = castIdle ∧
      castCommitting t = true ∧
      t.cast.frozen = s.cast.active ∧
      t.cast.active = []) ∧
  (∀ (v : CastWindow) (s : State),
    s.cast.committing = some v ∧ castCommitting s = true ∧ patinaRuns s = true ∧ canSign s = true ∧ archiveTakes s = true →
    Ends (.castCommit) s fun t =>
      castCommitting t = false ∧
      t.cast.committing = none ∧
      Counted .cast CAST.WIN_CNT.COUNT s t) ∧
  (∀ (n : Fin 8) (s : State),
    passed s .snapshot (s.get .cast CAST.SNAP.US * usNs) = true →
    Ends (.snapshotEnd) s fun t =>
      t.flag (.lrx n) LRX.SNAP_STAT.CAPTURING = false)

/-- The commands of client ports and client lanes (R335 to R352): idles are counted, a port comes up or goes down, blocks pass
or are replaced, a fault is held, a lane's receive state moves, times out and wakes, patterns are compared and errors
injected, and an eye scan starts, ends or is abandoned. Readings of the model's own that the values rest on: log 3, 9, 10,
45, 46, 65. -/
def Obligations.ClientPortCommandsComplete : Prop :=
  (∀ (c : Carrier) (q : Fin 4) (s : State),
    ingressAhead s c q.val = true →
    Ends (.idleDelete c q) s fun t =>
      Counted (.cpc c) (CPC.IDLE.DEL.at q.val) s t) ∧
  (∀ (c : Carrier) (q : Fin 4) (inserted deleted : Nat) (s : State),
    admitted s c q.val = true ∧ s.running (.cpc c) = true →
    Ends (.idleInsert c q inserted deleted) s fun t =>
      t.get (.cpc c) (CPC.IDLE.INS.at q.val) = min (s.get (.cpc c) (CPC.IDLE.INS.at q.val) + inserted)
        (2 ^ CPC.IDLE.INS.width - 1) ∧
      t.get (.cpc c) (CPC.IDLE.DEL.at q.val) = min (s.get (.cpc c) (CPC.IDLE.DEL.at q.val) + deleted)
        (2 ^ CPC.IDLE.DEL.width - 1)) ∧
  (∀ (c : Carrier) (q : Fin 4) (isUp hiBer : Bool) (s : State),
    admitted s c q.val = true ∧ s.running (.cpc c) = true →
    Ends (.ingressPortState c q isUp hiBer) s fun t =>
      t.get (.cpc c) (CPC.PSTAT.ISTATE.at q.val) =
        (if isUp && portDelivers s c q.val && passed s (.portReady c q) msNs then 2 else 1) ∧
      t.flag (.cpc c) (CPC.PSTAT.HI_BER.at q.val) = hiBer) ∧
  (∀ (c : Carrier) (q : Fin 4) (n : Nat) (s : State),
    admitted s c q.val = true ∧ s.running (.cpc c) = true →
    Ends (.egressPortState c q n) s fun t =>
      (t.cpc.get c).egress = (egressTake q.val n (s.cpc.get c).egress).2) ∧
  (∀ (c : Carrier) (q : Fin 4) (x : BitVec 257) (s : State),
    (egressTake q.val 1 (s.cpc.get c).egress).1 = [some x] →
    admitted s c q.val = true ∧ s.running (.cpc c) = true →
    (egressState s c q.val = egData ∨ egressState s c q.val = egError) →
    Ends (.egressPortState c q 1) s fun t =>
      egressState t c q.val = egData ∧
      t.pair (.cpc c) (CPC.OUT_BLK_LO.COUNT.at q.val) (CPC.OUT_BLK_HI.COUNT.at q.val) =
        min (s.pair (.cpc c) (CPC.OUT_BLK_LO.COUNT.at q.val) (CPC.OUT_BLK_HI.COUNT.at q.val) + 1) (2 ^
        (CPC.OUT_BLK_LO.COUNT.width + CPC.OUT_BLK_HI.COUNT.width) - 1)) ∧
  (∀ (c : Carrier) (q : Fin 4) (s : State),
    (egressTake q.val 1 (s.cpc.get c).egress).1 = [none] →
    admitted s c q.val = true ∧ s.running (.cpc c) = true →
    (egressState s c q.val = egData ∨ egressState s c q.val = egError) →
    Ends (.egressPortState c q 1) s fun t =>
      egressState t c q.val = egError ∧
      Counted (.cpc c) (CPC.OUT_ECB.COUNT.at q.val) s t) ∧
  (∀ (c : Carrier) (q : Fin 4) (s : State),
    egressState s c q.val = egError ∧ passed s (.faultHold c q) (s.get (.cpc c) CPC.CTL.FAULT_HOLD * 10 * usNs) = true →
    Ends (.egressFaultHold c q) s fun t =>
      egressState t c q.val = egLocalFault) ∧
  (∀ (n : Fin 16) (s : State),
    clxState s n = clxIdle →
    Ends (.clxRxState n .signal) s fun t =>
      clxState t n = clxCdr) ∧
  (∀ (n : Fin 16) (snr dfe1 ctle : BitVec 8) (s : State),
    clxState s n = clxAdapt ∧ clxOver s n clxAdaptNs = false →
    Ends (.clxRxState n (.adapted snr dfe1 ctle)) s fun t =>
      clxState t n = clxReady ∧
      t.get (.clx n) CLX.RX_EQ.SNR = snr.toNat ∧
      (s.flag (.clx n) CLX.CTL.ADAPT_FREEZE = false → t.get (.clx n) CLX.RX_EQ.CTLE = ctle.toNat)) ∧
  (∀ (n : Fin 16) (s : State),
    clxState s n = clxReady →
    Ends (.clxRxState n .lockLost) s fun t =>
      clxState t n = clxCdr ∧
      t.flag (.clx n) CLX.CHK_STAT.SYNC = false ∧
      t.flag (.clx n) CLX.EYE_STAT.BUSY = false) ∧
  (∀ (n : Fin 16) (s : State),
    ((clxState s n = clxCdr ∧ passed s (.laneState n) clxLockNs = true) ∨ (clxState s n = clxAdapt ∧
      passed s (.laneState n) clxAdaptNs = true)) →
    Ends (.clxRxTimeout n) s fun t =>
      clxState t n = clxIdle) ∧
  (∀ (n : Fin 16) (s : State),
    clxDetector s n = true ∧ s.flag (.clx n) CLX.CTL.EI_WAKE = false →
    Ends (.eiExit n) s fun t =>
      testBit (t.get (.clx n) HDR.EVT_RAW.EVT) CLX.EVT.EI_EXIT = true) ∧
  (∀ (n : Fin 16) (received : Bool) (s : State),
    (pageBoundary (.clx n) s).flag (.clx n) CLX.PAT_CTL.CHK_EN = true ∧ clxState s n = clxReady →
    (pageBoundary (.clx n) s).flag (.clx n) CLX.CHK_STAT.SYNC = true →
    Ends (.chkBitCompare n received) s fun t =>
      t.pair (.clx n) CLX.CHK_BITS_LO.COUNT CLX.CHK_BITS_HI.COUNT =
        min (s.pair (.clx n) CLX.CHK_BITS_LO.COUNT CLX.CHK_BITS_HI.COUNT + 1) (2 ^
        (CLX.CHK_BITS_LO.COUNT.width + CLX.CHK_BITS_HI.COUNT.width) - 1) ∧
      (received ≠ checkerExpects (pageBoundary (.clx n) s) n → Counted (.clx n) CLX.CHK_ERR.COUNT s t)) ∧
  (∀ (o : Origin) (n : Fin 16) (w : Word) (s : State),
    Takes o (.clx n) CLX.INJ_CTL.SINGLE.off (overlay w CLX.INJ_CTL.SINGLE 1) s →
    clxSending s n = true →
    Ends (.clxInjectSingle o n w) s fun t =>
      Counted (.clx n) CLX.INJ_CNT.COUNT s t) ∧
  (∀ (n : Fin 16) (s : State),
    (pageBoundary (.clx n) s).get (.clx n) CLX.INJ_CTL.MODE = 1 ∧ clxSending s n = true →
    spaced (pageBoundary (.clx n) s) (.inverted n) (clxPeriodNs (pageBoundary (.clx n) s) n) = true →
    Ends (.clxInjectPeriodic n) s fun t =>
      Counted (.clx n) CLX.INJ_CNT.COUNT s t) ∧
  (∀ (o : Origin) (n : Fin 16) (w : Word) (s : State),
    Takes o (.clx n) CLX.EYE_CTL.START.off (overlay w CLX.EYE_CTL.START 1) s →
    s.flag (.clx n) CLX.EYE_STAT.BUSY = false →
    Ends (.eyeStart o (some n) w) s fun t =>
      t.flag (.clx n) CLX.EYE_STAT.DONE = false ∧
      t.flag (.clx n) CLX.EYE_STAT.BUSY = (clxState s n == clxReady)) ∧
  (∀ (o : Origin) (w : Word) (s : State),
    Takes o .hlk HLK.EYE_CTL.START.off (overlay w HLK.EYE_CTL.START 1) s →
    s.flag .hlk HLK.EYE_STAT.BUSY = false ∧ s.hostLink.margin = none →
    Ends (.eyeStart o none w) s fun t =>
      t.flag .hlk HLK.EYE_STAT.DONE = false ∧
      t.flag .hlk HLK.EYE_STAT.BUSY = hostUp s) ∧
  (∀ (n : Fin 16) (mismatches : Nat) (s : State),
    s.flag (.clx n) CLX.EYE_STAT.BUSY = true ∧ passed s (.clientEye n) (clxEyeNs s n) = true →
    Ends (.eyeDone (.client n) mismatches) s fun t =>
      t.flag (.clx n) CLX.EYE_STAT.BUSY = false ∧
      t.flag (.clx n) CLX.EYE_STAT.DONE = true ∧
      t.get (.clx n) CLX.EYE_ERR.COUNT = min mismatches (2 ^ s.get (.clx n) CLX.EYE_CTL.LOG2_UI)) ∧
  (∀ (n : Fin 8) (mismatches : Nat) (s : State),
    s.flag .hlk HLK.EYE_STAT.BUSY = true ∧ passed s .hostEye (hostEyeNs s) = true →
    Ends (.eyeDone (.host n) mismatches) s fun t =>
      t.flag .hlk HLK.EYE_STAT.BUSY = false ∧
      t.get .hlk HLK.EYE_ERR.COUNT = min mismatches (2 ^ s.get .hlk HLK.EYE_CTL.LOG2_UI)) ∧
  (∀ (n : Fin 16) (s : State),
    Ends (.eyeAbandon (.client n)) s fun t =>
      t.flag (.clx n) CLX.EYE_STAT.BUSY = false) ∧
  (∀ (n : Fin 8) (s : State),
    Ends (.eyeAbandon (.host n)) s fun t =>
      t.flag .hlk HLK.EYE_STAT.BUSY = false)

/-- The commands of the host link (R352, R357, R358, R360, R364, R367, R368, R551): training, recovery, PERST_N, credits, IDE,
margining, reads and writes of the HDM window, and the release of held interrupts. Readings of the model's own that the
values rest on: log 19, 46, 49. -/
def Obligations.HostLinkCommandsComplete : Prop :=
  (∀ (s : State),
    Ends (.perstRelease) s fun t =>
      t.hostLink.perst = false) ∧
  (∀ (s : State),
    Ends (.perstNAssert) s fun t =>
      t.hostLink.perst = true ∧
      hostUp t = false) ∧
  (∀ (rate : Fin 5) (width : Fin 4) (mem : Bool) (s : State),
    s.hostLink.perst = false →
    Ends (.hostLinkUp rate width mem) s fun t =>
      hostUp t = true ∧
      t.get .hlk HLK.LINK_STAT.RATE = min (rate.val + 1) (hostRateCap s) ∧
      t.flag .hlk HLK.LINK_STAT.CXL = decide (3 ≤ min (rate.val + 1) (hostRateCap s))) ∧
  (∀ (o : Origin) (s : State),
    TakesField o .hlk HLK.CTL.RETRAIN 1 s →
    hostUp s = true →
    Ends (.retrain o) s fun t =>
      Counted .hlk HLK.RETRAIN_CNT.RECOVERY s t ∧
      t.flag .hlk HLK.EYE_STAT.BUSY = false) ∧
  (∀ (rate : Fin 5) (width : Fin 4) (s : State),
    hostUp s = true →
    Ends (.linkRecovery rate width) s fun t =>
      Counted .hlk HLK.RETRAIN_CNT.RECOVERY s t ∧
      t.get .hlk HLK.LINK_STAT.RATE = min (rate.val + 1) (hostRateCap s)) ∧
  (∀ (s : State),
    hostUp s = true →
    Ends (.creditStall) s fun t =>
      Counted .hlk HLK.CREDIT.STALL s t) ∧
  (∀ (io mem : Bool) (s : State),
    Ends (.ideKeyChange io mem) s fun t =>
      t.flag .hlk HLK.IDE.IO_SECURE = io ∧
      t.flag .hlk HLK.IDE.MEM_SECURE = mem) ∧
  (∀ (lane : Fin 8) (begins : Bool) (s : State),
    s.flag .hlk HLK.EYE_STAT.BUSY = false →
    (begins = false → s.hostLink.margin = some lane.val) →
    Ends (.laneMarginingCommand lane begins) s fun t =>
      t.hostLink.margin = (if begins then some lane.val else none)) ∧
  (∀ (off : Nat) (s : State),
    hdmHost ≤ off ∧ off < hdmBytes ∧ s.flag .hlk HLK.IDE.REQUIRE = false →
    granuleSet s (off / 64 * 64 / 2 ^ 20) = true ∧ poisoned s (off / 64) = false ∧ s.memories.filling = [] →
    Ends (.cxlMemRead off) s fun t =>
      t.answer = .bytes (readBytes s.memories.lpddr (off / 64 * 64) 64)) ∧
  (∀ (off : Nat) (s : State),
    hdmHost ≤ off ∧ off < hdmBytes ∧ s.flag .hlk HLK.IDE.REQUIRE = false →
    granuleSet s (off / 64 * 64 / 2 ^ 20) = false ∧ s.memories.filling = [] →
    Ends (.cxlMemRead off) s fun t =>
      t.answer = .bytes (List.replicate 64 0) ∧
      Counted .lpm LPM.INIT_READ.COUNT s t) ∧
  (∀ (off : Nat) (bytes : List Byte) (s : State),
    hdmHost ≤ off ∧ off < hdmBytes ∧ s.flag .hlk HLK.IDE.REQUIRE = false ∧ bytes.length = 64 →
    Ends (.cxlMemWrite off bytes) s fun t =>
      readBytes t.memories.lpddr (off / 64 * 64) 64 = bytes ∧
      poisoned t (off / 64) = false) ∧
  (∀ (off : Nat) (bytes : List Byte) (s : State),
    off < hdmHost →
    Ends (.cxlMemWrite off bytes) s fun t =>
      Counted .hlk HLK.MEM_STAT.WR_DROP s t ∧
      t.memories = s.memories) ∧
  (∀ (v : Fin 64) (s : State),
    Ends (.msixUnmask (some v)) s fun t =>
      testBit t.msix.masked v.val = false ∧
      (s.msix.functionMask = false → testBit s.msix.pendingBits v.val = true → t.msix.sent = v.val :: s.msix.sent)) ∧
  (∀ (s : State),
    Ends (.msixUnmask none) s fun t =>
      t.msix.functionMask = false)

/-- The mailbox commands (R365, R366), each with the answer it gives when the device is ready and the command may be taken:
event records, interrupt policy, firmware, timestamp, logs, identity, health, capsules, attestation, signatures, Archive
objects, certificate, an unsupported opcode, and the end of a background command. Readings of the model's own that the
values rest on: log 47, 48. -/
def Obligations.MailboxCommandsComplete : Prop :=
  (∀ (log : Fin 4) (s : State),
    MailboxTakes 0x0100 s →
    Ends (.getEventRecords log) s fun t =>
      t.mbox.answer.ret = .success ∧
      t.mbox.answer.values.head? = some (s.mbox.logs.getD log.val []).length) ∧
  (∀ (log : Fin 4) (handles : List Nat) (s : State),
    MailboxTakes 0x0101 s →
    Ends (.clearEventRecords log true handles) s fun t =>
      t.mbox.answer.ret = .success ∧
      t.mbox.logs = s.mbox.logs.set log.val []) ∧
  (∀ (s : State),
    MailboxTakes 0x0102 s →
    Ends (.getEventInterruptPolicy) s fun t =>
      t.mbox.answer = ⟨.success, s.mbox.policy ++ [eventVector s], []⟩) ∧
  (∀ (info warning failure fatal : Nat) (s : State),
    MailboxTakes 0x0103 s →
    Ends (.setEventInterruptPolicy info warning failure fatal) s fun t =>
      t.mbox.answer.ret = .success ∧
      t.mbox.policy = [info, warning, failure, fatal]) ∧
  (∀ (s : State),
    MailboxTakes 0x0200 s →
    Ends (.getFwInfo) s fun t =>
      t.mbox.answer.ret = .success ∧
      t.mbox.answer.values.head? = some 2) ∧
  (∀ (slot : Fin 2) (data : List Byte) (last : Bool) (s : State),
    MailboxTakes 0x0201 s ∧ s.mbox.background = none →
    slot.val ≠ activeSlot s ∧ archiveTakes s = true →
    Ends (.transferFw slot 0 data last) s fun t =>
      t.mbox.answer = ⟨.backgroundStarted, [], []⟩ ∧
      t.mbox.background = some 0x0201 ∧
      t.firmware.transfer = (if last then [] else data)) ∧
  (∀ (slot : Fin 2) (s : State),
    MailboxTakes 0x0202 s ∧ s.mbox.background = none →
    Ends (.activateFw slot false) s fun t =>
      (slotGood s slot.val = true → t.mbox.answer = ⟨.backgroundStarted, [], []⟩ ∧ t.mbox.background = some 0x0202) ∧
      (slotGood s slot.val = false → t.mbox.answer = ⟨.invalidInput, [], []⟩)) ∧
  (∀ (s : State),
    MailboxTakes 0x0300 s →
    Ends (.getTimestamp) s fun t =>
      t.mbox.answer = ⟨.success, [s.nowNs], []⟩) ∧
  (∀ (ns : BitVec 64) (s : State),
    MailboxTakes 0x0301 s →
    writeReason s .host .tb TB.CTL.SET.off (overlay (plainWord .tb TB.CTL.SET.off (word s .tb TB.CTL.SET.off)) TB.CTL.SET 1) =
      .none →
    Ends (.setTimestamp ns) s fun t =>
      t.mbox.answer = ⟨.success, [], []⟩) ∧
  (∀ (s : State),
    MailboxTakes 0x0400 s →
    Ends (.getSupportedLogs) s fun t =>
      t.mbox.answer = ⟨.success, [1], []⟩) ∧
  (∀ (s : State),
    MailboxTakes 0x0401 s →
    Ends (.getLog true) s fun t =>
      t.mbox.answer = ⟨.success, mboxOpcodes, []⟩) ∧
  (∀ (s : State),
    MailboxTakes 0x4000 s →
    Ends (.identifyMemoryDevice) s fun t =>
      t.mbox.answer = ⟨.success, [32 * 2 ^ 30, 0], []⟩) ∧
  (∀ (s : State),
    MailboxTakes 0x4200 s →
    Ends (.getHealthInfo) s fun t =>
      t.mbox.answer = ⟨.success, [bit s.mbox.healthLow], []⟩) ∧
  (∀ (capsule : List Byte) (s : State),
    MailboxTakes 0xC000 s ∧ s.mbox.background = none →
    s.plinth.request = none ∧ s.plinth.running = none ∧ s.flag .pln PLN.STAT.LOCKSTEP_FAIL = false →
    Ends (.submitCapsuleCmd capsule) s fun t =>
      t.mbox.answer = ⟨.backgroundStarted, [], []⟩ ∧
      t.plinth.request = some ⟨true, 1, capsule⟩) ∧
  (∀ (s : State),
    MailboxTakes 0xC001 s →
    s.plinth.request = none ∧ s.plinth.running = none ∧ s.flag .pln PLN.STAT.LOCKSTEP_FAIL = false →
    Ends (.getCapsuleResult []) s fun t =>
      t.mbox.answer = ⟨.success, [capOk], s.plinth.lastResult⟩) ∧
  (∀ (nonce : List Byte) (s : State),
    MailboxTakes 0xC002 s ∧ nonce.length = 32 ∧ canSign s = true →
    s.plinth.request = none ∧ s.plinth.running = none ∧ s.flag .pln PLN.STAT.LOCKSTEP_FAIL = false →
    Ends (.getAttestationReport nonce) s fun t =>
      t.mbox.answer = ⟨.success, [capOk], attestReport s (BitVec.ofNat 256 (ofLeBytes nonce))⟩) ∧
  (∀ (input : List Byte) (e : Nat × List Byte) (s : State),
    MailboxTakes 0xC003 s ∧ input.length = 8 ∧ s.journal.signatures.find? (fun z => z.1 == ofLeBytes input) = some e →
    s.plinth.request = none ∧ s.plinth.running = none ∧ s.flag .pln PLN.STAT.LOCKSTEP_FAIL = false →
    Ends (.getJournalSignature input) s fun t =>
      t.mbox.answer = ⟨.success, [capOk], e.2⟩) ∧
  (∀ (object : ArchiveObject) (content : List Byte) (s : State),
    MailboxTakes 0xC004 s ∧ s.mbox.background = none ∧ mediaFormatted s = true ∧ archiveObject s object = some content →
    Ends (.readArchiveObject object) s fun t =>
      t.mbox.answer = ⟨.backgroundStarted, [], []⟩ ∧
      t.mbox.background = some 0xC004) ∧
  (∀ (s : State),
    MailboxTakes 0xC005 s →
    s.plinth.request = none ∧ s.plinth.running = none ∧ s.flag .pln PLN.STAT.LOCKSTEP_FAIL = false →
    Ends (.getDeviceCertificate []) s fun t =>
      t.mbox.answer = ⟨.success, [capOk], Config.certificate⟩) ∧
  (∀ (s : State),
    s.hostReady = true →
    Ends (.unsupportedOpcode) s fun t =>
      t.mbox.answer = ⟨.unsupported, [], []⟩) ∧
  (∀ (op : Nat) (s : State),
    s.mbox.background = some op ∧ op ≠ 0xC000 ∧ s.firmware.online = none →
    Ends (.mboxBackgroundDone) s fun t =>
      t.mbox.answer = ⟨.success, [], []⟩ ∧
      t.mbox.background = none)

/-- The operations of the MAC slots on D registers (R378): a bundle that holds the word and meets no trap delivers the result
the operation's row gives, readable one bundle later (R379). Readings of the model's own that the values rest on: log 51,
53. -/
def Obligations.AluCommandsComplete : Prop :=
  (∀ (n : Fin 8) (slot1 : Bool) (x a b sh : Fin 32) (s : State),
    Issues n (macBundle slot1 (formatM 0x10 x.val a.val b.val sh.val)) s →
    Ends (.add2 n slot1 x a b sh) s fun t =>
      Delivers n x.val (lanes (laneL (dreg s n a.val) + laneL (dreg s n b.val)) (laneH (dreg s n a.val) + laneH
        (dreg s n b.val))) 1 s t ∧
      CoreOnly n s t ∧ DataKept n s t ∧ PointersKept n s t ∧ AccumulatorsKept n s t ∧ LinkKept n s t ∧ StatusKept n s t) ∧
  (∀ (n : Fin 8) (slot1 : Bool) (x a b sh : Fin 32) (s : State),
    Issues n (macBundle slot1 (formatM 0x11 x.val a.val b.val sh.val)) s →
    Ends (.adds2 n slot1 x a b sh) s fun t =>
      Delivers n x.val (lanes (satSigned 16 (laneL (dreg s n a.val) + laneL (dreg s n b.val))) (satSigned 16 (laneH
        (dreg s n a.val) + laneH (dreg s n b.val)))) 1 s t ∧
      CoreOnly n s t ∧ DataKept n s t ∧ PointersKept n s t ∧ AccumulatorsKept n s t ∧ LinkKept n s t ∧
      ((coreAt t n).status = if laneL (dreg s n a.val) + laneL (dreg s n b.val) ≠ satSigned 16 (laneL (dreg s n a.val) + laneL
        (dreg s n b.val)) ∨ laneH (dreg s n a.val) + laneH (dreg s n b.val) ≠ satSigned 16 (laneH (dreg s n a.val) + laneH
        (dreg s n b.val)) then statusSet (landed s n).status stExtsat true else (landed s n).status)) ∧
  (∀ (n : Fin 8) (slot1 : Bool) (x a b sh : Fin 32) (s : State),
    Issues n (macBundle slot1 (formatM 0x12 x.val a.val b.val sh.val)) s →
    Ends (.sub2 n slot1 x a b sh) s fun t =>
      Delivers n x.val (lanes (laneL (dreg s n a.val) - laneL (dreg s n b.val)) (laneH (dreg s n a.val) - laneH
        (dreg s n b.val))) 1 s t ∧
      CoreOnly n s t ∧ DataKept n s t ∧ PointersKept n s t ∧ AccumulatorsKept n s t ∧ LinkKept n s t ∧ StatusKept n s t) ∧
  (∀ (n : Fin 8) (slot1 : Bool) (x a b sh : Fin 32) (s : State),
    Issues n (macBundle slot1 (formatM 0x13 x.val a.val b.val sh.val)) s →
    Ends (.subs2 n slot1 x a b sh) s fun t =>
      Delivers n x.val (lanes (satSigned 16 (laneL (dreg s n a.val) - laneL (dreg s n b.val))) (satSigned 16 (laneH
        (dreg s n a.val) - laneH (dreg s n b.val)))) 1 s t ∧
      CoreOnly n s t ∧ DataKept n s t ∧ PointersKept n s t ∧ AccumulatorsKept n s t ∧ LinkKept n s t ∧
      ((coreAt t n).status = if laneL (dreg s n a.val) - laneL (dreg s n b.val) ≠ satSigned 16 (laneL (dreg s n a.val) - laneL
        (dreg s n b.val)) ∨ laneH (dreg s n a.val) - laneH (dreg s n b.val) ≠ satSigned 16 (laneH (dreg s n a.val) - laneH
        (dreg s n b.val)) then statusSet (landed s n).status stExtsat true else (landed s n).status)) ∧
  (∀ (n : Fin 8) (slot1 : Bool) (x a b sh : Fin 32) (s : State),
    Issues n (macBundle slot1 (formatM 0x14 x.val a.val b.val sh.val)) s →
    Ends (.add n slot1 x a b sh) s fun t =>
      Delivers n x.val ((dreg s n a.val) + (dreg s n b.val)) 1 s t ∧
      CoreOnly n s t ∧ DataKept n s t ∧ PointersKept n s t ∧ AccumulatorsKept n s t ∧ LinkKept n s t ∧ StatusKept n s t) ∧
  (∀ (n : Fin 8) (slot1 : Bool) (x a b sh : Fin 32) (s : State),
    Issues n (macBundle slot1 (formatM 0x15 x.val a.val b.val sh.val)) s →
    Ends (.sub n slot1 x a b sh) s fun t =>
      Delivers n x.val ((dreg s n a.val) - (dreg s n b.val)) 1 s t ∧
      CoreOnly n s t ∧ DataKept n s t ∧ PointersKept n s t ∧ AccumulatorsKept n s t ∧ LinkKept n s t ∧ StatusKept n s t) ∧
  (∀ (n : Fin 8) (slot1 : Bool) (x a b sh : Fin 32) (s : State),
    Issues n (macBundle slot1 (formatM 0x16 x.val a.val b.val sh.val)) s →
    Ends (.and n slot1 x a b sh) s fun t =>
      Delivers n x.val ((dreg s n a.val) &&& (dreg s n b.val)) 1 s t ∧
      CoreOnly n s t ∧ DataKept n s t ∧ PointersKept n s t ∧ AccumulatorsKept n s t ∧ LinkKept n s t ∧ StatusKept n s t) ∧
  (∀ (n : Fin 8) (slot1 : Bool) (x a b sh : Fin 32) (s : State),
    Issues n (macBundle slot1 (formatM 0x17 x.val a.val b.val sh.val)) s →
    Ends (.or n slot1 x a b sh) s fun t =>
      Delivers n x.val ((dreg s n a.val) ||| (dreg s n b.val)) 1 s t ∧
      CoreOnly n s t ∧ DataKept n s t ∧ PointersKept n s t ∧ AccumulatorsKept n s t ∧ LinkKept n s t ∧ StatusKept n s t) ∧
  (∀ (n : Fin 8) (slot1 : Bool) (x a b sh : Fin 32) (s : State),
    Issues n (macBundle slot1 (formatM 0x18 x.val a.val b.val sh.val)) s →
    Ends (.xor n slot1 x a b sh) s fun t =>
      Delivers n x.val ((dreg s n a.val) ^^^ (dreg s n b.val)) 1 s t ∧
      CoreOnly n s t ∧ DataKept n s t ∧ PointersKept n s t ∧ AccumulatorsKept n s t ∧ LinkKept n s t ∧ StatusKept n s t) ∧
  (∀ (n : Fin 8) (slot1 : Bool) (x a b sh : Fin 32) (s : State),
    Issues n (macBundle slot1 (formatM 0x19 x.val a.val b.val sh.val)) s →
    Ends (.shl n slot1 x a b sh) s fun t =>
      Delivers n x.val ((dreg s n a.val) <<< sh.val) 1 s t ∧
      CoreOnly n s t ∧ DataKept n s t ∧ PointersKept n s t ∧ AccumulatorsKept n s t ∧ LinkKept n s t ∧ StatusKept n s t) ∧
  (∀ (n : Fin 8) (slot1 : Bool) (x a b sh : Fin 32) (s : State),
    Issues n (macBundle slot1 (formatM 0x1A x.val a.val b.val sh.val)) s →
    Ends (.shr n slot1 x a b sh) s fun t =>
      Delivers n x.val ((dreg s n a.val) >>> sh.val) 1 s t ∧
      CoreOnly n s t ∧ DataKept n s t ∧ PointersKept n s t ∧ AccumulatorsKept n s t ∧ LinkKept n s t ∧ StatusKept n s t) ∧
  (∀ (n : Fin 8) (slot1 : Bool) (x a b sh : Fin 32) (s : State),
    Issues n (macBundle slot1 (formatM 0x1B x.val a.val b.val sh.val)) s →
    Ends (.asr n slot1 x a b sh) s fun t =>
      Delivers n x.val ((dreg s n a.val).sshiftRight sh.val) 1 s t ∧
      CoreOnly n s t ∧ DataKept n s t ∧ PointersKept n s t ∧ AccumulatorsKept n s t ∧ LinkKept n s t ∧ StatusKept n s t) ∧
  (∀ (n : Fin 8) (slot1 : Bool) (x a b sh : Fin 32) (s : State),
    Issues n (macBundle slot1 (formatM 0x1C x.val a.val b.val sh.val)) s →
    Ends (.min2 n slot1 x a b sh) s fun t =>
      Delivers n x.val (lanes (min (laneL (dreg s n a.val)) (laneL (dreg s n b.val))) (min (laneH (dreg s n a.val)) (laneH
        (dreg s n b.val)))) 1 s t ∧
      CoreOnly n s t ∧ DataKept n s t ∧ PointersKept n s t ∧ AccumulatorsKept n s t ∧ LinkKept n s t ∧ StatusKept n s t) ∧
  (∀ (n : Fin 8) (slot1 : Bool) (x a b sh : Fin 32) (s : State),
    Issues n (macBundle slot1 (formatM 0x1D x.val a.val b.val sh.val)) s →
    Ends (.max2 n slot1 x a b sh) s fun t =>
      Delivers n x.val (lanes (max (laneL (dreg s n a.val)) (laneL (dreg s n b.val))) (max (laneH (dreg s n a.val)) (laneH
        (dreg s n b.val)))) 1 s t ∧
      CoreOnly n s t ∧ DataKept n s t ∧ PointersKept n s t ∧ AccumulatorsKept n s t ∧ LinkKept n s t ∧ StatusKept n s t) ∧
  (∀ (n : Fin 8) (slot1 : Bool) (x a b sh : Fin 32) (s : State),
    Issues n (macBundle slot1 (formatM 0x20 x.val a.val b.val sh.val)) s →
    Ends (.slt n slot1 x a b sh) s fun t =>
      Delivers n x.val (if (dreg s n a.val).slt (dreg s n b.val) then 1 else 0) 1 s t ∧
      CoreOnly n s t ∧ DataKept n s t ∧ PointersKept n s t ∧ AccumulatorsKept n s t ∧ LinkKept n s t ∧ StatusKept n s t) ∧
  (∀ (n : Fin 8) (slot1 : Bool) (x a b sh : Fin 32) (s : State),
    Issues n (macBundle slot1 (formatM 0x21 x.val a.val b.val sh.val)) s →
    Ends (.seq n slot1 x a b sh) s fun t =>
      Delivers n x.val (if (dreg s n a.val) = (dreg s n b.val) then 1 else 0) 1 s t ∧
      CoreOnly n s t ∧ DataKept n s t ∧ PointersKept n s t ∧ AccumulatorsKept n s t ∧ LinkKept n s t ∧ StatusKept n s t) ∧
  (∀ (n : Fin 8) (slot1 : Bool) (x : Fin 32) (imm : BitVec 16) (s : State),
    Issues n (macBundle slot1 (formatI 0x1E x.val imm.toNat)) s →
    Ends (.movi n slot1 x imm) s fun t =>
      Delivers n x.val (imm.signExtend 32) 1 s t ∧
      CoreOnly n s t ∧ DataKept n s t ∧ PointersKept n s t ∧ AccumulatorsKept n s t ∧ LinkKept n s t ∧ StatusKept n s t) ∧
  (∀ (n : Fin 8) (slot1 : Bool) (x : Fin 32) (imm : BitVec 16) (s : State),
    Issues n (macBundle slot1 (formatI 0x1F x.val imm.toNat)) s →
    Ends (.movhi n slot1 x imm) s fun t =>
      Delivers n x.val ((imm ++ (dreg s n x.val).setWidth 16 : BitVec 32)) 1 s t ∧
      CoreOnly n s t ∧ DataKept n s t ∧ PointersKept n s t ∧ AccumulatorsKept n s t ∧ LinkKept n s t ∧ StatusKept n s t) ∧
  (∀ (n : Fin 8) (s : State),
    Issues n ⟨0, 0, 0, 0⟩ s →
    (landed s n).branch = none ∧ loopOpen (landed s n).loop0 = false ∧ loopOpen (landed s n).loop1 = false →
    Ends (.nop n) s fun t =>
      (coreAt t n).pc = ((landed s n).pc + 1) % 16384 ∧
      (coreAt t n).issued = (landed s n).issued + 1 ∧
      CoreOnly n s t ∧ DataKept n s t ∧ PointersKept n s t ∧ AccumulatorsKept n s t ∧ LinkKept n s t ∧ StatusKept n s t) ∧
  (∀ (n : Fin 8) (s : State),
    Issues n (bundleAt s n (coreAt s n).pc) s →
    lsAccesses (bundleAt s n (coreAt s n).pc).ls = false →
    Ends (.bundleIssue n) s fun t =>
      (coreAt t n).issued = (landed s n).issued + 1 ∧
      (coreAt t n).lastIssue.pc = (landed s n).pc)

/-- The operations on accumulators (R378, R381, R382, R386): products are put into, added to or subtracted from the pair, a
complex product with or without the conjugate, EXT rounds and saturates, the pair is cleared, set, read and shifted, and ACS
delivers four words of new metrics two bundles later. Readings of the model's own that the values rest on: log 51, 52, 53. -/
def Obligations.AccumulatorCommandsComplete : Prop :=
  (∀ (n : Fin 8) (slot1 : Bool) (x a b sh : Fin 32) (s : State),
    Issues n (macBundle slot1 (formatM 0x01 x.val a.val b.val sh.val)) s →
    Ends (.mpy n slot1 x a b sh) s fun t =>
      (coreAt t n).ac.getD (2 * (x.val % 4)) 0 = accOf (laneL (dreg s n a.val) * laneL (dreg s n b.val)) ∧
      (coreAt t n).ac.getD (2 * (x.val % 4) + 1) 0 = accOf (laneH (dreg s n a.val) * laneH (dreg s n b.val)) ∧
      (∀ k : Fin 8, k.val / 2 ≠ x.val % 4 → (coreAt t n).ac.getD k.val 0 = (landed s n).ac.getD k.val 0) ∧
      (statusBit (landed s n).status stAccvTe = false → CoreOnly n s t ∧ DataKept n s t ∧ PointersKept n s t ∧ LinkKept n s t ∧
        (coreAt t n).slow = (landed s n).slow) ∧
      (statusBit (landed s n).status stAccvTe = false →
        (coreAt t n).status = flagApply (landed s n).status (flagBoth (accPut (2 * (x.val % 4)) 0).2 (accPut (2 *
        (x.val % 4) + 1) 0).2))) ∧
  (∀ (n : Fin 8) (slot1 : Bool) (x a b sh : Fin 32) (s : State),
    Issues n (macBundle slot1 (formatM 0x02 x.val a.val b.val sh.val)) s →
    Ends (.mac n slot1 x a b sh) s fun t =>
      (coreAt t n).ac.getD (2 * (x.val % 4)) 0 = (accAdd (landed s n).status (2 * (x.val % 4)) ((landed s n).ac.getD (2 *
        (x.val % 4)) 0) (laneL (dreg s n a.val) * laneL (dreg s n b.val))).1 ∧
      (coreAt t n).ac.getD (2 * (x.val % 4) + 1) 0 =
        (accAdd (landed s n).status (2 * (x.val % 4) + 1) ((landed s n).ac.getD (2 * (x.val % 4) + 1) 0) (laneH
        (dreg s n a.val) * laneH (dreg s n b.val))).1 ∧
      (∀ k : Fin 8, k.val / 2 ≠ x.val % 4 → (coreAt t n).ac.getD k.val 0 = (landed s n).ac.getD k.val 0) ∧
      (statusBit (landed s n).status stAccvTe = false → CoreOnly n s t ∧ DataKept n s t ∧ PointersKept n s t ∧ LinkKept n s t ∧
        (coreAt t n).slow = (landed s n).slow) ∧
      (statusBit (landed s n).status stAccvTe = false →
        (coreAt t n).status = flagApply (landed s n).status (flagBoth (accAdd (landed s n).status (2 * (x.val % 4))
        ((landed s n).ac.getD (2 * (x.val % 4)) 0) (laneL (dreg s n a.val) * laneL (dreg s n b.val))).2 (accAdd
        (landed s n).status (2 * (x.val % 4) + 1) ((landed s n).ac.getD (2 * (x.val % 4) + 1) 0) (laneH
        (dreg s n a.val) * laneH (dreg s n b.val))).2))) ∧
  (∀ (n : Fin 8) (slot1 : Bool) (x a b sh : Fin 32) (s : State),
    Issues n (macBundle slot1 (formatM 0x03 x.val a.val b.val sh.val)) s →
    Ends (.msu n slot1 x a b sh) s fun t =>
      (coreAt t n).ac.getD (2 * (x.val % 4)) 0 = (accAdd (landed s n).status (2 * (x.val % 4)) ((landed s n).ac.getD (2 *
        (x.val % 4)) 0) (-(laneL (dreg s n a.val) * laneL (dreg s n b.val)))).1 ∧
      (coreAt t n).ac.getD (2 * (x.val % 4) + 1) 0 =
        (accAdd (landed s n).status (2 * (x.val % 4) + 1) ((landed s n).ac.getD (2 * (x.val % 4) + 1) 0) (-(laneH
        (dreg s n a.val) * laneH (dreg s n b.val)))).1 ∧
      (∀ k : Fin 8, k.val / 2 ≠ x.val % 4 → (coreAt t n).ac.getD k.val 0 = (landed s n).ac.getD k.val 0) ∧
      (statusBit (landed s n).status stAccvTe = false → CoreOnly n s t ∧ DataKept n s t ∧ PointersKept n s t ∧ LinkKept n s t ∧
        (coreAt t n).slow = (landed s n).slow) ∧
      (statusBit (landed s n).status stAccvTe = false →
        (coreAt t n).status = flagApply (landed s n).status (flagBoth (accAdd (landed s n).status (2 * (x.val % 4))
        ((landed s n).ac.getD (2 * (x.val % 4)) 0) (-(laneL (dreg s n a.val) * laneL (dreg s n b.val)))).2 (accAdd
        (landed s n).status (2 * (x.val % 4) + 1) ((landed s n).ac.getD (2 * (x.val % 4) + 1) 0) (-(laneH
        (dreg s n a.val) * laneH (dreg s n b.val)))).2))) ∧
  (∀ (n : Fin 8) (slot1 : Bool) (x a b sh : Fin 32) (s : State),
    Issues n (macBundle slot1 (formatM 0x04 x.val a.val b.val sh.val)) s →
    Ends (.cmpy n slot1 x a b sh) s fun t =>
      (coreAt t n).ac.getD (2 * (x.val % 4)) 0 = accOf (laneL (dreg s n a.val) * laneL (dreg s n b.val) - laneH
        (dreg s n a.val) * laneH (dreg s n b.val)) ∧
      (coreAt t n).ac.getD (2 * (x.val % 4) + 1) 0 =
        accOf (laneH (dreg s n a.val) * laneL (dreg s n b.val) + laneL (dreg s n a.val) * laneH (dreg s n b.val)) ∧
      (∀ k : Fin 8, k.val / 2 ≠ x.val % 4 → (coreAt t n).ac.getD k.val 0 = (landed s n).ac.getD k.val 0) ∧
      (statusBit (landed s n).status stAccvTe = false → CoreOnly n s t ∧ DataKept n s t ∧ PointersKept n s t ∧ LinkKept n s t ∧
        (coreAt t n).slow = (landed s n).slow) ∧
      (statusBit (landed s n).status stAccvTe = false →
        (coreAt t n).status = flagApply (landed s n).status (flagBoth (accPut (2 * (x.val % 4)) 0).2 (accPut (2 *
        (x.val % 4) + 1) 0).2))) ∧
  (∀ (n : Fin 8) (slot1 : Bool) (x a b sh : Fin 32) (s : State),
    Issues n (macBundle slot1 (formatM 0x05 x.val a.val b.val sh.val)) s →
    Ends (.cmac n slot1 x a b sh) s fun t =>
      (coreAt t n).ac.getD (2 * (x.val % 4)) 0 = (accAdd (landed s n).status (2 * (x.val % 4)) ((landed s n).ac.getD (2 *
        (x.val % 4)) 0) (laneL (dreg s n a.val) * laneL (dreg s n b.val) - laneH (dreg s n a.val) * laneH (dreg s n b.val))).1 ∧
      (coreAt t n).ac.getD (2 * (x.val % 4) + 1) 0 =
        (accAdd (landed s n).status (2 * (x.val % 4) + 1) ((landed s n).ac.getD (2 * (x.val % 4) + 1) 0) (laneH
        (dreg s n a.val) * laneL (dreg s n b.val) + laneL (dreg s n a.val) * laneH (dreg s n b.val))).1 ∧
      (∀ k : Fin 8, k.val / 2 ≠ x.val % 4 → (coreAt t n).ac.getD k.val 0 = (landed s n).ac.getD k.val 0) ∧
      (statusBit (landed s n).status stAccvTe = false → CoreOnly n s t ∧ DataKept n s t ∧ PointersKept n s t ∧ LinkKept n s t ∧
        (coreAt t n).slow = (landed s n).slow) ∧
      (statusBit (landed s n).status stAccvTe = false →
        (coreAt t n).status = flagApply (landed s n).status (flagBoth (accAdd (landed s n).status (2 * (x.val % 4))
        ((landed s n).ac.getD (2 * (x.val % 4)) 0) (laneL (dreg s n a.val) * laneL (dreg s n b.val) - laneH
        (dreg s n a.val) * laneH (dreg s n b.val))).2 (accAdd (landed s n).status (2 * (x.val % 4) + 1) ((landed s n).ac.getD
        (2 * (x.val % 4) + 1) 0) (laneH (dreg s n a.val) * laneL (dreg s n b.val) + laneL (dreg s n a.val) * laneH
        (dreg s n b.val))).2))) ∧
  (∀ (n : Fin 8) (slot1 : Bool) (x a b sh : Fin 32) (s : State),
    Issues n (macBundle slot1 (formatM 0x06 x.val a.val b.val sh.val)) s →
    Ends (.cmacj n slot1 x a b sh) s fun t =>
      (coreAt t n).ac.getD (2 * (x.val % 4)) 0 = (accAdd (landed s n).status (2 * (x.val % 4)) ((landed s n).ac.getD (2 *
        (x.val % 4)) 0) (laneL (dreg s n a.val) * laneL (dreg s n b.val) + laneH (dreg s n a.val) * laneH (dreg s n b.val))).1 ∧
      (coreAt t n).ac.getD (2 * (x.val % 4) + 1) 0 =
        (accAdd (landed s n).status (2 * (x.val % 4) + 1) ((landed s n).ac.getD (2 * (x.val % 4) + 1) 0) (laneH
        (dreg s n a.val) * laneL (dreg s n b.val) - laneL (dreg s n a.val) * laneH (dreg s n b.val))).1 ∧
      (∀ k : Fin 8, k.val / 2 ≠ x.val % 4 → (coreAt t n).ac.getD k.val 0 = (landed s n).ac.getD k.val 0) ∧
      (statusBit (landed s n).status stAccvTe = false → CoreOnly n s t ∧ DataKept n s t ∧ PointersKept n s t ∧ LinkKept n s t ∧
        (coreAt t n).slow = (landed s n).slow) ∧
      (statusBit (landed s n).status stAccvTe = false →
        (coreAt t n).status = flagApply (landed s n).status (flagBoth (accAdd (landed s n).status (2 * (x.val % 4))
        ((landed s n).ac.getD (2 * (x.val % 4)) 0) (laneL (dreg s n a.val) * laneL (dreg s n b.val) + laneH
        (dreg s n a.val) * laneH (dreg s n b.val))).2 (accAdd (landed s n).status (2 * (x.val % 4) + 1) ((landed s n).ac.getD
        (2 * (x.val % 4) + 1) 0) (laneH (dreg s n a.val) * laneL (dreg s n b.val) - laneL (dreg s n a.val) * laneH
        (dreg s n b.val))).2))) ∧
  (∀ (n : Fin 8) (slot1 : Bool) (x a b sh : Fin 32) (s : State),
    Issues n (macBundle slot1 (formatM 0x07 x.val a.val b.val sh.val)) s →
    Ends (.ext n slot1 x a b sh) s fun t =>
      Delivers n x.val (lanes (extRound (accValue ((landed s n).slow.getD (2 * (a.val % 4)) 0)) sh.val).1 (extRound (accValue
        ((landed s n).slow.getD (2 * (a.val % 4) + 1) 0)) sh.val).1) 2 s t ∧
      CoreOnly n s t ∧ DataKept n s t ∧ PointersKept n s t ∧ AccumulatorsKept n s t ∧ LinkKept n s t ∧
      ((coreAt t n).status = if (extRound (accValue ((landed s n).slow.getD (2 * (a.val % 4)) 0)) sh.val).2 = true ∨
        (extRound (accValue ((landed s n).slow.getD (2 * (a.val % 4) + 1) 0)) sh.val).2 =
        true then statusSet (landed s n).status stExtsat true else (landed s n).status)) ∧
  (∀ (n : Fin 8) (slot1 : Bool) (x a b sh : Fin 32) (s : State),
    Issues n (macBundle slot1 (formatM 0x08 x.val a.val b.val sh.val)) s →
    Ends (.aclr n slot1 x a b sh) s fun t =>
      (coreAt t n).ac.getD (2 * (x.val % 4)) 0 = 0 ∧
      (coreAt t n).ac.getD (2 * (x.val % 4) + 1) 0 = 0 ∧
      (∀ k : Fin 8, k.val / 2 ≠ x.val % 4 → (coreAt t n).ac.getD k.val 0 = (landed s n).ac.getD k.val 0) ∧
      (statusBit (landed s n).status stAccvTe = false → CoreOnly n s t ∧ DataKept n s t ∧ PointersKept n s t ∧ LinkKept n s t ∧
        (coreAt t n).slow = (landed s n).slow) ∧
      (statusBit (landed s n).status stAccvTe = false →
        (coreAt t n).status = flagApply (landed s n).status (flagBoth (accPut (2 * (x.val % 4)) 0).2 (accPut (2 *
        (x.val % 4) + 1) 0).2))) ∧
  (∀ (n : Fin 8) (slot1 : Bool) (x a b sh : Fin 32) (s : State),
    Issues n (macBundle slot1 (formatM 0x09 x.val a.val b.val sh.val)) s →
    Ends (.amov n slot1 x a b sh) s fun t =>
      (coreAt t n).ac.getD (2 * (x.val % 4)) 0 = accOf (dreg s n a.val).toInt ∧
      (coreAt t n).ac.getD (2 * (x.val % 4) + 1) 0 = accOf (dreg s n b.val).toInt ∧
      (∀ k : Fin 8, k.val / 2 ≠ x.val % 4 → (coreAt t n).ac.getD k.val 0 = (landed s n).ac.getD k.val 0) ∧
      (statusBit (landed s n).status stAccvTe = false → CoreOnly n s t ∧ DataKept n s t ∧ PointersKept n s t ∧ LinkKept n s t ∧
        (coreAt t n).slow = (landed s n).slow) ∧
      (statusBit (landed s n).status stAccvTe = false →
        (coreAt t n).status = flagApply (landed s n).status (flagBoth (accPut (2 * (x.val % 4)) 0).2 (accPut (2 *
        (x.val % 4) + 1) 0).2))) ∧
  (∀ (n : Fin 8) (slot1 : Bool) (x a b sh : Fin 32) (s : State),
    Issues n (macBundle slot1 (formatM 0x0A x.val a.val b.val sh.val)) s →
    Ends (.ardl n slot1 x a b sh) s fun t =>
      Delivers n x.val (((landed s n).slow.getD sh.val 0).setWidth 32) 1 s t ∧
      CoreOnly n s t ∧ DataKept n s t ∧ PointersKept n s t ∧ AccumulatorsKept n s t ∧ LinkKept n s t) ∧
  (∀ (n : Fin 8) (slot1 : Bool) (x a b sh : Fin 32) (s : State),
    Issues n (macBundle slot1 (formatM 0x0B x.val a.val b.val sh.val)) s →
    Ends (.ardh n slot1 x a b sh) s fun t =>
      Delivers n x.val (BitVec.ofInt 32 ((accValue ((landed s n).slow.getD (sh.val) 0)) / 2 ^ 32)) 1 s t ∧
      CoreOnly n s t ∧ DataKept n s t ∧ PointersKept n s t ∧ AccumulatorsKept n s t ∧ LinkKept n s t) ∧
  (∀ (n : Fin 8) (slot1 : Bool) (x a b sh : Fin 32) (s : State),
    Issues n (macBundle slot1 (formatM 0x0C x.val a.val b.val sh.val)) s →
    Ends (.ashl n slot1 x a b sh) s fun t =>
      (coreAt t n).ac.getD (2 * (x.val % 4)) 0 = (if accHeld (landed s n).status (2 * (x.val % 4)) then (((landed s n).ac.getD
        (2 * (x.val % 4)) 0), .none) else accResult (landed s n).status (2 * (x.val % 4)) ((accValue ((landed s n).slow.getD
        (2 * (x.val % 4)) 0)) * 2 ^ sh.val)).1 ∧
      (coreAt t n).ac.getD (2 * (x.val % 4) + 1) 0 =
        (if accHeld (landed s n).status (2 * (x.val % 4) + 1) then (((landed s n).ac.getD (2 *
        (x.val % 4) + 1) 0), .none) else accResult (landed s n).status (2 * (x.val % 4) + 1) ((accValue
        ((landed s n).slow.getD (2 * (x.val % 4) + 1) 0)) * 2 ^ sh.val)).1 ∧
      (∀ k : Fin 8, k.val / 2 ≠ x.val % 4 → (coreAt t n).ac.getD k.val 0 = (landed s n).ac.getD k.val 0) ∧
      (statusBit (landed s n).status stAccvTe = false → CoreOnly n s t ∧ DataKept n s t ∧ PointersKept n s t ∧ LinkKept n s t ∧
        (coreAt t n).slow = (landed s n).slow) ∧
      (statusBit (landed s n).status stAccvTe = false →
        (coreAt t n).status = flagApply (landed s n).status (flagBoth (if accHeld (landed s n).status (2 * (x.val % 4)) then
        (((landed s n).ac.getD (2 * (x.val % 4)) 0), .none) else accResult (landed s n).status (2 * (x.val % 4)) ((accValue
        ((landed s n).slow.getD (2 * (x.val % 4)) 0)) * 2 ^ sh.val)).2 (if accHeld (landed s n).status (2 *
        (x.val % 4) + 1) then (((landed s n).ac.getD (2 * (x.val % 4) + 1) 0), .none) else accResult (landed s n).status (2 *
        (x.val % 4) + 1) ((accValue ((landed s n).slow.getD (2 * (x.val % 4) + 1) 0)) * 2 ^ sh.val)).2))) ∧
  (∀ (n : Fin 8) (slot1 : Bool) (x a b sh : Fin 32) (s : State),
    Issues n (macBundle slot1 (formatM 0x0D x.val a.val b.val sh.val)) s →
    Ends (.ashr n slot1 x a b sh) s fun t =>
      (coreAt t n).ac.getD (2 * (x.val % 4)) 0 = (if accHeld (landed s n).status (2 * (x.val % 4)) then (((landed s n).ac.getD
        (2 * (x.val % 4)) 0), .none) else (accOf ((accValue ((landed s n).slow.getD (2 *
        (x.val % 4)) 0)) / 2 ^ sh.val), FlagEffect.none)).1 ∧
      (coreAt t n).ac.getD (2 * (x.val % 4) + 1) 0 =
        (if accHeld (landed s n).status (2 * (x.val % 4) + 1) then (((landed s n).ac.getD (2 *
        (x.val % 4) + 1) 0), .none) else (accOf ((accValue ((landed s n).slow.getD (2 *
        (x.val % 4) + 1) 0)) / 2 ^ sh.val), FlagEffect.none)).1 ∧
      (∀ k : Fin 8, k.val / 2 ≠ x.val % 4 → (coreAt t n).ac.getD k.val 0 = (landed s n).ac.getD k.val 0) ∧
      (statusBit (landed s n).status stAccvTe = false → CoreOnly n s t ∧ DataKept n s t ∧ PointersKept n s t ∧ LinkKept n s t ∧
        (coreAt t n).slow = (landed s n).slow) ∧
      (statusBit (landed s n).status stAccvTe = false →
        (coreAt t n).status = flagApply (landed s n).status (flagBoth (if accHeld (landed s n).status (2 * (x.val % 4)) then
        (((landed s n).ac.getD (2 * (x.val % 4)) 0), .none) else (accOf ((accValue ((landed s n).slow.getD (2 *
        (x.val % 4)) 0)) / 2 ^ sh.val), FlagEffect.none)).2 (if accHeld (landed s n).status (2 * (x.val % 4) + 1) then
        (((landed s n).ac.getD (2 * (x.val % 4) + 1) 0), .none) else (accOf ((accValue ((landed s n).slow.getD (2 *
        (x.val % 4) + 1) 0)) / 2 ^ sh.val), FlagEffect.none)).2))) ∧
  (∀ (n : Fin 8) (slot1 : Bool) (x a b sh : Fin 32) (i : Fin 4) (s : State),
    Issues n (macBundle slot1 (formatM 0x0E x.val a.val b.val sh.val)) s →
    Ends (.acs n slot1 x a b sh) s fun t =>
      Delivers n (x.val + i.val) ((acsQuad ((List.range 4).map fun j => dreg s n (a.val + j)) (dreg s n b.val) (dreg s n
        (b.val + 1))).1.getD i.val 0) 2 s t ∧
      CoreOnly n s t ∧ DataKept n s t ∧ PointersKept n s t ∧ AccumulatorsKept n s t ∧ LinkKept n s t)

/-- The operations of the LS slot (R378, R383, R384): a load from DSRAM delivers its data three bundles later, a store from D
registers stands in DSRAM, each moves its address register as its MODE says, and address, base, length and modifier
registers are set and read. Readings of the model's own that the values rest on: log 51, 53. -/
def Obligations.LoadStoreCommandsComplete : Prop :=
  (∀ (n : Fin 8) (d : Fin 32) (an : Fin 8) (mode : Fin 4) (ofs : BitVec 16) (s : State),
    Issues n (lsBundle (formatL 0x01 d.val an.val mode.val ofs)) s →
    inWindow (accessAddress (landed s n) (formatL 0x01 d.val an.val mode.val ofs)).addr = false →
    Ends (.ldh n d an mode ofs) s fun t =>
      Delivers n d.val (BitVec.ofInt 32 (toSigned 16 (ofLeBytes (readBytes (coreData s n) ((accessAddress (landed s n)
        (formatL 0x01 d.val an.val mode.val ofs)).addr) 2)))) 3 s t ∧
      (coreAt t n).a.getD an.val 0 = (accessAddress (landed s n) (formatL 0x01 d.val an.val mode.val ofs)).next ∧
      CoreOnly n s t ∧ DataKept n s t ∧ AccumulatorsKept n s t ∧ LinkKept n s t ∧
      (∀ k : Fin 8, k ≠ an → (coreAt t n).a.getD k.val 0 = (landed s n).a.getD k.val 0) ∧ (coreAt t n).b = (landed s n).b ∧
        (coreAt t n).l = (landed s n).l ∧ (coreAt t n).m = (landed s n).m) ∧
  (∀ (n : Fin 8) (d : Fin 32) (an : Fin 8) (mode : Fin 4) (ofs : BitVec 16) (s : State),
    Issues n (lsBundle (formatL 0x02 d.val an.val mode.val ofs)) s →
    inWindow (accessAddress (landed s n) (formatL 0x02 d.val an.val mode.val ofs)).addr = false →
    Ends (.ldw n d an mode ofs) s fun t =>
      Delivers n d.val (BitVec.ofNat 32 (ofLeBytes (readBytes (coreData s n) ((accessAddress (landed s n)
        (formatL 0x02 d.val an.val mode.val ofs)).addr) 4))) 3 s t ∧
      (coreAt t n).a.getD an.val 0 = (accessAddress (landed s n) (formatL 0x02 d.val an.val mode.val ofs)).next ∧
      CoreOnly n s t ∧ DataKept n s t ∧ AccumulatorsKept n s t ∧ LinkKept n s t ∧
      (∀ k : Fin 8, k ≠ an → (coreAt t n).a.getD k.val 0 = (landed s n).a.getD k.val 0) ∧ (coreAt t n).b = (landed s n).b ∧
        (coreAt t n).l = (landed s n).l ∧ (coreAt t n).m = (landed s n).m) ∧
  (∀ (n : Fin 8) (d : Fin 32) (an : Fin 8) (mode : Fin 4) (ofs : BitVec 16) (s : State),
    Issues n (lsBundle (formatL 0x03 d.val an.val mode.val ofs)) s →
    inWindow (accessAddress (landed s n) (formatL 0x03 d.val an.val mode.val ofs)).addr = false →
    Ends (.ldd n d an mode ofs) s fun t =>
      Delivers n d.val (BitVec.ofNat 32 (ofLeBytes (readBytes (coreData s n) ((accessAddress (landed s n)
        (formatL 0x03 d.val an.val mode.val ofs)).addr) 4))) 3 s t ∧
      Delivers n (d.val + 1) (BitVec.ofNat 32 (ofLeBytes (readBytes (coreData s n) ((accessAddress (landed s n)
        (formatL 0x03 d.val an.val mode.val ofs)).addr + 4) 4))) 3 s t ∧
      (coreAt t n).a.getD an.val 0 = (accessAddress (landed s n) (formatL 0x03 d.val an.val mode.val ofs)).next ∧
      CoreOnly n s t ∧ DataKept n s t ∧ AccumulatorsKept n s t ∧ LinkKept n s t ∧
      (∀ k : Fin 8, k ≠ an → (coreAt t n).a.getD k.val 0 = (landed s n).a.getD k.val 0) ∧ (coreAt t n).b = (landed s n).b ∧
        (coreAt t n).l = (landed s n).l ∧ (coreAt t n).m = (landed s n).m) ∧
  (∀ (n : Fin 8) (d : Fin 32) (an : Fin 8) (mode : Fin 4) (ofs : BitVec 16) (s : State),
    Issues n (lsBundle (formatL 0x02 d.val an.val mode.val ofs)) s →
    inWindow (accessAddress (landed s n) (formatL 0x02 d.val an.val mode.val ofs)).addr = true →
    Ends (.ldw n d an mode ofs) s fun t =>
      (coreAt t n).a.getD an.val 0 = (accessAddress (landed s n) (formatL 0x02 d.val an.val mode.val ofs)).next ∧
      (coreAt t n).issued = (landed s n).issued + 1) ∧
  (∀ (n : Fin 8) (d : Fin 32) (an : Fin 8) (mode : Fin 4) (ofs : BitVec 16) (s : State),
    Issues n (lsBundle (formatL 0x04 d.val an.val mode.val ofs)) s →
    inWindow (accessAddress (landed s n) (formatL 0x04 d.val an.val mode.val ofs)).addr = false →
    Ends (.sth n d an mode ofs) s fun t =>
      readBytes (coreData t n) ((accessAddress (landed s n) (formatL 0x04 d.val an.val mode.val ofs)).addr) 2 =
        leBytes 2 (dreg s n d.val).toNat ∧
      (coreAt t n).a.getD an.val 0 = (accessAddress (landed s n) (formatL 0x04 d.val an.val mode.val ofs)).next ∧
      StoreOnly n s t ∧ DataKept n s t ∧ AccumulatorsKept n s t ∧ LinkKept n s t ∧
      (∀ k : Fin 8, k ≠ an → (coreAt t n).a.getD k.val 0 = (landed s n).a.getD k.val 0) ∧ (coreAt t n).b = (landed s n).b ∧
        (coreAt t n).l = (landed s n).l ∧ (coreAt t n).m = (landed s n).m ∧
      (∀ k, ¬ ((accessAddress (landed s n) (formatL 0x04 d.val an.val mode.val ofs)).addr ≤ k ∧
        k < (accessAddress (landed s n) (formatL 0x04 d.val an.val mode.val ofs)).addr + accessSize 0x04) →
        sparseRead (fun _ => 0) (coreData t n) k = sparseRead (fun _ => 0) (coreData s n) k)) ∧
  (∀ (n : Fin 8) (d : Fin 32) (an : Fin 8) (mode : Fin 4) (ofs : BitVec 16) (s : State),
    Issues n (lsBundle (formatL 0x05 d.val an.val mode.val ofs)) s →
    inWindow (accessAddress (landed s n) (formatL 0x05 d.val an.val mode.val ofs)).addr = false →
    Ends (.stw n d an mode ofs) s fun t =>
      readBytes (coreData t n) ((accessAddress (landed s n) (formatL 0x05 d.val an.val mode.val ofs)).addr) 4 =
        leBytes 4 (dreg s n d.val).toNat ∧
      (coreAt t n).a.getD an.val 0 = (accessAddress (landed s n) (formatL 0x05 d.val an.val mode.val ofs)).next ∧
      StoreOnly n s t ∧ DataKept n s t ∧ AccumulatorsKept n s t ∧ LinkKept n s t ∧
      (∀ k : Fin 8, k ≠ an → (coreAt t n).a.getD k.val 0 = (landed s n).a.getD k.val 0) ∧ (coreAt t n).b = (landed s n).b ∧
        (coreAt t n).l = (landed s n).l ∧ (coreAt t n).m = (landed s n).m ∧
      (∀ k, ¬ ((accessAddress (landed s n) (formatL 0x05 d.val an.val mode.val ofs)).addr ≤ k ∧
        k < (accessAddress (landed s n) (formatL 0x05 d.val an.val mode.val ofs)).addr + accessSize 0x05) →
        sparseRead (fun _ => 0) (coreData t n) k = sparseRead (fun _ => 0) (coreData s n) k)) ∧
  (∀ (n : Fin 8) (d : Fin 32) (an : Fin 8) (mode : Fin 4) (ofs : BitVec 16) (s : State),
    Issues n (lsBundle (formatL 0x06 d.val an.val mode.val ofs)) s →
    inWindow (accessAddress (landed s n) (formatL 0x06 d.val an.val mode.val ofs)).addr = false →
    Ends (.std n d an mode ofs) s fun t =>
      readBytes (coreData t n) ((accessAddress (landed s n) (formatL 0x06 d.val an.val mode.val ofs)).addr) 8 =
        leBytes 4 (dreg s n d.val).toNat ++ leBytes 4 (dreg s n (d.val + 1)).toNat ∧
      (coreAt t n).a.getD an.val 0 = (accessAddress (landed s n) (formatL 0x06 d.val an.val mode.val ofs)).next ∧
      StoreOnly n s t ∧ DataKept n s t ∧ AccumulatorsKept n s t ∧ LinkKept n s t ∧
      (∀ k : Fin 8, k ≠ an → (coreAt t n).a.getD k.val 0 = (landed s n).a.getD k.val 0) ∧ (coreAt t n).b = (landed s n).b ∧
        (coreAt t n).l = (landed s n).l ∧ (coreAt t n).m = (landed s n).m ∧
      (∀ k, ¬ ((accessAddress (landed s n) (formatL 0x06 d.val an.val mode.val ofs)).addr ≤ k ∧
        k < (accessAddress (landed s n) (formatL 0x06 d.val an.val mode.val ofs)).addr + accessSize 0x06) →
        sparseRead (fun _ => 0) (coreData t n) k = sparseRead (fun _ => 0) (coreData s n) k)) ∧
  (∀ (n : Fin 8) (d : Fin 32) (an : Fin 8) (mode : Fin 4) (ofs : BitVec 16) (s : State),
    Issues n (lsBundle (formatL 0x05 d.val an.val mode.val ofs)) s →
    inWindow (accessAddress (landed s n) (formatL 0x05 d.val an.val mode.val ofs)).addr = true →
    Ends (.stw n d an mode ofs) s fun t =>
      t.pending = s.pending) ∧
  (∀ (n : Fin 8) (d : Fin 32) (an : Fin 8) (s : State),
    Issues n (lsBundle (formatL 0x09 d.val an.val 0 0)) s →
    Ends (.mova n d an) s fun t =>
      (coreAt t n).a.getD an.val 0 = dreg s n d.val ∧
      CoreOnly n s t ∧ DataKept n s t ∧ AccumulatorsKept n s t ∧ LinkKept n s t ∧
      (∀ k : Fin 8, k ≠ an → (coreAt t n).a.getD k.val 0 = (landed s n).a.getD k.val 0) ∧ (coreAt t n).b = (landed s n).b ∧
        (coreAt t n).l = (landed s n).l ∧ (coreAt t n).m = (landed s n).m) ∧
  (∀ (n : Fin 8) (d : Fin 32) (an : Fin 8) (s : State),
    Issues n (lsBundle (formatL 0x0A d.val an.val 0 0)) s →
    Ends (.movda n d an) s fun t =>
      Delivers n d.val ((landed s n).a.getD an.val 0) 1 s t ∧
      CoreOnly n s t ∧ DataKept n s t ∧ AccumulatorsKept n s t ∧ LinkKept n s t ∧
      PointersKept n s t) ∧
  (∀ (n : Fin 8) (d : Fin 32) (an : Fin 8) (s : State),
    Issues n (lsBundle (formatL 0x0B d.val an.val 0 0)) s →
    Ends (.setb n d an) s fun t =>
      (coreAt t n).b.getD an.val 0 = dreg s n d.val ∧
      CoreOnly n s t ∧ DataKept n s t ∧ AccumulatorsKept n s t ∧ LinkKept n s t ∧
      (∀ k : Fin 8, k ≠ an → (coreAt t n).b.getD k.val 0 = (landed s n).b.getD k.val 0) ∧ (coreAt t n).a = (landed s n).a ∧
        (coreAt t n).l = (landed s n).l ∧ (coreAt t n).m = (landed s n).m) ∧
  (∀ (n : Fin 8) (d : Fin 32) (an : Fin 8) (s : State),
    Issues n (lsBundle (formatL 0x0C d.val an.val 0 0)) s →
    Ends (.setl n d an) s fun t =>
      (coreAt t n).l.getD an.val 0 = dreg s n d.val ∧
      CoreOnly n s t ∧ DataKept n s t ∧ AccumulatorsKept n s t ∧ LinkKept n s t ∧
      (∀ k : Fin 8, k ≠ an → (coreAt t n).l.getD k.val 0 = (landed s n).l.getD k.val 0) ∧ (coreAt t n).a = (landed s n).a ∧
        (coreAt t n).b = (landed s n).b ∧ (coreAt t n).m = (landed s n).m) ∧
  (∀ (n : Fin 8) (d : Fin 32) (k : Fin 4) (s : State),
    Issues n (lsBundle (formatL 0x0D d.val 0 0 (BitVec.ofNat 16 k.val))) s →
    Ends (.setm n d k) s fun t =>
      (coreAt t n).m.getD k.val 0 = dreg s n d.val ∧
      CoreOnly n s t ∧ DataKept n s t ∧ AccumulatorsKept n s t ∧ LinkKept n s t ∧
      (∀ j : Fin 4, j ≠ k → (coreAt t n).m.getD j.val 0 = (landed s n).m.getD j.val 0) ∧ (coreAt t n).a = (landed s n).a ∧
        (coreAt t n).b = (landed s n).b ∧ (coreAt t n).l = (landed s n).l) ∧
  (∀ (n : Fin 8) (d : Fin 32) (an : Fin 8) (s : State),
    Issues n (lsBundle (formatL 0x0F d.val an.val 0 0)) s →
    Ends (.adda n d an) s fun t =>
      (coreAt t n).a.getD an.val 0 = (useAddress (landed s n) an.val (toSigned 32 (dreg s n d.val).toNat) true).next ∧
      CoreOnly n s t ∧ DataKept n s t ∧ AccumulatorsKept n s t ∧ LinkKept n s t ∧
      ((landed s n).l.getD an.val 0 = 0 → (coreAt t n).a.getD an.val 0 = (landed s n).a.getD an.val 0 + dreg s n d.val) ∧
      (∀ k : Fin 8, k ≠ an → (coreAt t n).a.getD k.val 0 = (landed s n).a.getD k.val 0) ∧ (coreAt t n).b = (landed s n).b ∧
        (coreAt t n).l = (landed s n).l ∧ (coreAt t n).m = (landed s n).m)

/-- The operations of the CT slot (R378): a taken branch has two delay slots before its target, CALL links, loops open the outer
level, control registers are written and read, TRAP and BRK take their exception and RTI returns from one, EI, DI, WAIT and
HALT change STATUS, issue and the run state; and the core's own entries (R388 to R390). Readings of the model's own that the
values rest on: log 50, 51, 53. -/
def Obligations.ControlTransferCommandsComplete : Prop :=
  (∀ (n : Fin 8) (target : BitVec 14) (s : State),
    Issues n (ctBundle (formatC 0x01 0 0 target.toNat)) s →
    Ends (.br n target) s fun t =>
      (coreAt t n).branch = some (2, target.toNat, (landed s n).pc) ∧
      CoreOnly n s t ∧ DataKept n s t ∧ PointersKept n s t ∧ AccumulatorsKept n s t ∧ LinkKept n s t ∧ StatusKept n s t) ∧
  (∀ (n : Fin 8) (d : Fin 32) (target : BitVec 14) (s : State),
    Issues n (ctBundle (formatC 0x02 d.val 0 target.toNat)) s →
    Ends (.bz n d target) s fun t =>
      ((coreAt t n).branch = if dreg s n d.val = 0 then some (2, target.toNat, (landed s n).pc) else none) ∧
      CoreOnly n s t ∧ DataKept n s t ∧ PointersKept n s t ∧ AccumulatorsKept n s t ∧ LinkKept n s t ∧ StatusKept n s t) ∧
  (∀ (n : Fin 8) (d : Fin 32) (target : BitVec 14) (s : State),
    Issues n (ctBundle (formatC 0x03 d.val 0 target.toNat)) s →
    Ends (.bnz n d target) s fun t =>
      ((coreAt t n).branch = if dreg s n d.val ≠ 0 then some (2, target.toNat, (landed s n).pc) else none) ∧
      CoreOnly n s t ∧ DataKept n s t ∧ PointersKept n s t ∧ AccumulatorsKept n s t ∧ LinkKept n s t ∧ StatusKept n s t) ∧
  (∀ (n : Fin 8) (d : Fin 32) (target : BitVec 14) (s : State),
    Issues n (ctBundle (formatC 0x04 d.val 0 target.toNat)) s →
    Ends (.blt n d target) s fun t =>
      ((coreAt t n).branch = if (dreg s n d.val).toInt < 0 then some (2, target.toNat, (landed s n).pc) else none) ∧
      CoreOnly n s t ∧ DataKept n s t ∧ PointersKept n s t ∧ AccumulatorsKept n s t ∧ LinkKept n s t ∧ StatusKept n s t) ∧
  (∀ (n : Fin 8) (d : Fin 32) (target : BitVec 14) (s : State),
    Issues n (ctBundle (formatC 0x05 d.val 0 target.toNat)) s →
    Ends (.bge n d target) s fun t =>
      ((coreAt t n).branch = if 0 ≤ (dreg s n d.val).toInt then some (2, target.toNat, (landed s n).pc) else none) ∧
      CoreOnly n s t ∧ DataKept n s t ∧ PointersKept n s t ∧ AccumulatorsKept n s t ∧ LinkKept n s t ∧ StatusKept n s t) ∧
  (∀ (n : Fin 8) (target : BitVec 14) (s : State),
    Issues n (ctBundle (formatC 0x06 0 0 target.toNat)) s →
    Ends (.call n target) s fun t =>
      (coreAt t n).branch = some (2, target.toNat, (landed s n).pc) ∧
      (coreAt t n).link = BitVec.ofNat 32 (((landed s n).pc + 3) % 16384) ∧
      CoreOnly n s t ∧ DataKept n s t ∧ PointersKept n s t ∧ AccumulatorsKept n s t ∧ StatusKept n s t) ∧
  (∀ (n : Fin 8) (d : Fin 32) (s : State),
    Issues n (ctBundle (formatC 0x07 d.val 0 0)) s →
    Ends (.jr n d) s fun t =>
      (coreAt t n).branch = some (2, (dreg s n d.val).toNat % 16384, (landed s n).pc) ∧
      CoreOnly n s t ∧ DataKept n s t ∧ PointersKept n s t ∧ AccumulatorsKept n s t ∧ LinkKept n s t ∧ StatusKept n s t) ∧
  (∀ (n : Fin 8) (s : State),
    Issues n (ctBundle (formatC 0x08 0 0 0)) s →
    Ends (.ret n) s fun t =>
      (coreAt t n).branch = some (2, (landed s n).link.toNat % 16384, (landed s n).pc) ∧
      CoreOnly n s t ∧ DataKept n s t ∧ PointersKept n s t ∧ AccumulatorsKept n s t ∧ LinkKept n s t ∧ StatusKept n s t) ∧
  (∀ (n : Fin 8) (d : Fin 32) (target : BitVec 14) (s : State),
    Issues n (ctBundle (formatC 0x09 d.val 0 target.toNat)) s →
    (dreg s n d.val).toNat % 65536 ≠ 0 ∧ loopOpen (landed s n).loop0 = false →
    Ends (.loop n d target) s fun t =>
      (coreAt t n).loop0 = ⟨(dreg s n d.val).toNat % 65536, ((landed s n).pc + 1) % 16384, target.toNat⟩ ∧
      CoreOnly n s t ∧ DataKept n s t ∧ PointersKept n s t ∧ AccumulatorsKept n s t ∧ LinkKept n s t ∧ StatusKept n s t) ∧
  (∀ (n : Fin 8) (d : Fin 32) (target : BitVec 14) (s : State),
    Issues n (ctBundle (formatC 0x09 d.val 0 target.toNat)) s →
    (dreg s n d.val).toNat % 65536 ≠ 0 ∧ loopOpen (landed s n).loop0 = true →
    Ends (.loop n d target) s fun t =>
      (coreAt t n).loop1 = ⟨(dreg s n d.val).toNat % 65536, ((landed s n).pc + 1) % 16384, target.toNat⟩ ∧
      CoreOnly n s t ∧ DataKept n s t ∧ PointersKept n s t ∧ AccumulatorsKept n s t ∧ LinkKept n s t ∧ StatusKept n s t) ∧
  (∀ (n : Fin 8) (d : Fin 32) (target : BitVec 14) (s : State),
    Issues n (ctBundle (formatC 0x09 d.val 0 target.toNat)) s →
    (dreg s n d.val).toNat % 65536 = 0 →
    Ends (.loop n d target) s fun t =>
      (coreAt t n).pc = (target.toNat + 1) % 16384 ∧
      CoreOnly n s t ∧ DataKept n s t ∧ PointersKept n s t ∧ AccumulatorsKept n s t ∧ LinkKept n s t ∧ StatusKept n s t) ∧
  (∀ (n : Fin 8) (count : Fin 1024) (target : BitVec 14) (s : State),
    Issues n (ctBundle (formatLoop count.val target.toNat)) s →
    count.val = 0 →
    Ends (.loopi n count target) s fun t =>
      (coreAt t n).pc = (target.toNat + 1) % 16384 ∧
      CoreOnly n s t ∧ DataKept n s t ∧ PointersKept n s t ∧ AccumulatorsKept n s t ∧ LinkKept n s t ∧ StatusKept n s t) ∧
  (∀ (n : Fin 8) (count : Fin 1024) (target : BitVec 14) (s : State),
    Issues n (ctBundle (formatLoop count.val target.toNat)) s →
    count.val ≠ 0 ∧ loopOpen (landed s n).loop0 = false →
    Ends (.loopi n count target) s fun t =>
      (coreAt t n).loop0 = ⟨count.val, ((landed s n).pc + 1) % 16384, target.toNat⟩ ∧
      CoreOnly n s t ∧ DataKept n s t ∧ PointersKept n s t ∧ AccumulatorsKept n s t ∧ LinkKept n s t ∧ StatusKept n s t) ∧
  (∀ (n : Fin 8) (d idx : Fin 32) (s : State),
    Issues n (ctBundle (formatC 0x0B d.val idx.val 0)) s →
    movtcActs idx.val = false ∧ userMode (landed s n) = false →
    Ends (.movtc n d idx) s fun t =>
      (⟨.ctl idx.val, (dreg s n d.val).toNat, (landed s n).issued + movtcLatency idx.val⟩ : Flight) ∈ (coreAt t n).flights ∧
      CoreOnly n s t ∧ DataKept n s t ∧ PointersKept n s t ∧ AccumulatorsKept n s t ∧ LinkKept n s t ∧ StatusKept n s t) ∧
  (∀ (n : Fin 8) (d : Fin 32) (s : State),
    Issues n (ctBundle (formatC 0x0B d.val 17 0)) s →
    Ends (.movtc n d 17) s fun t =>
      t.get (.rk n) RK.HB_CNT.COUNT = (s.get (.rk n) RK.HB_CNT.COUNT + 1) % 2 ^ RK.HB_CNT.COUNT.width) ∧
  (∀ (n : Fin 8) (d idx : Fin 32) (s : State),
    Issues n (ctBundle (formatC 0x0C d.val idx.val 0)) s →
    Ends (.movfc n d idx) s fun t =>
      Delivers n d.val (readCtl (landed s n) (image s n).window (lineLevels s n) s.nowNs idx.val) 1 s t ∧
      CoreOnly n s t ∧ DataKept n s t ∧ PointersKept n s t ∧ AccumulatorsKept n s t ∧ LinkKept n s t ∧ StatusKept n s t) ∧
  (∀ (n : Fin 8) (code : BitVec 8) (s : State),
    TakesBundle n s →
    trapOf n (ctBundle (formatC 0x0D 0 0 code.toNat)) s = some (causeSyscall, none, code.toNat) →
    statusBit (landAll n (landed s n)).status stExl = false →
    Ends (.trap n code) s fun t =>
      (coreAt t n).ecause = BitVec.ofNat 32 (causeSyscall + code.toNat * 256) ∧
      (coreAt t n).epc = BitVec.ofNat 32 (trapEpc (landed s n)) ∧
      (coreAt t n).estatus = (landAll n (landed s n)).status ∧
      (coreAt t n).pc = ((landAll n (landed s n)).vbase.toNat + 64) % 16384 ∧
      statusBit (coreAt t n).status stExl = true ∧ statusBit (coreAt t n).status stIe = false ∧
        statusBit (coreAt t n).status stMode = false) ∧
  (∀ (n : Fin 8) (s : State),
    TakesBundle n s →
    trapOf n (ctBundle (formatC 0x13 0 0 0)) s = some (causeBreak, none, 0) →
    statusBit (landAll n (landed s n)).status stExl = false →
    Ends (.brk n) s fun t =>
      (coreAt t n).ecause = BitVec.ofNat 32 (causeBreak + 0 * 256) ∧
      (coreAt t n).epc = BitVec.ofNat 32 (trapEpc (landed s n)) ∧
      (coreAt t n).estatus = (landAll n (landed s n)).status ∧
      (coreAt t n).pc = ((landAll n (landed s n)).vbase.toNat + 64) % 16384 ∧
      statusBit (coreAt t n).status stExl = true ∧ statusBit (coreAt t n).status stIe = false ∧
        statusBit (coreAt t n).status stMode = false) ∧
  (∀ (n : Fin 8) (s : State),
    Issues n (ctBundle (formatC 0x0E 0 0 0)) s →
    Ends (.rti n) s fun t =>
      (coreAt t n).pc = (landed s n).epc.toNat % 16384 ∧
      (coreAt t n).branch = none ∧
      (coreAt t n).status = ((landed s n).status &&& ~~~ statusMask n false) ||| ((landed s n).estatus &&& statusMask n false) ∧
      CoreOnly n s t ∧ DataKept n s t ∧ PointersKept n s t ∧ AccumulatorsKept n s t ∧ LinkKept n s t) ∧
  (∀ (n : Fin 8) (s : State),
    Issues n (ctBundle (formatC 0x0F 0 0 0)) s →
    Ends (.ei n) s fun t =>
      (coreAt t n).status = statusSet (statusSet (landed s n).status stIe true) stExl false ∧
      CoreOnly n s t ∧ DataKept n s t ∧ PointersKept n s t ∧ AccumulatorsKept n s t ∧ LinkKept n s t) ∧
  (∀ (n : Fin 8) (s : State),
    Issues n (ctBundle (formatC 0x10 0 0 0)) s →
    Ends (.di n) s fun t =>
      (coreAt t n).status = statusSet (landed s n).status stIe false ∧
      CoreOnly n s t ∧ DataKept n s t ∧ PointersKept n s t ∧ AccumulatorsKept n s t ∧ LinkKept n s t) ∧
  (∀ (n : Fin 8) (s : State),
    Issues n (ctBundle (formatC 0x11 0 0 0)) s →
    Ends (.wait n) s fun t =>
      (coreAt t n).waiting = true ∧
      CoreOnly n s t ∧ DataKept n s t ∧ PointersKept n s t ∧ AccumulatorsKept n s t ∧ LinkKept n s t ∧ StatusKept n s t) ∧
  (∀ (n : Fin 8) (s : State),
    Issues n (ctBundle (formatC 0x12 0 0 0)) s →
    Ends (.halt n) s fun t =>
      t.run (.rk n) = .stopped ∧
      (coreAt t n).flights = []) ∧
  (∀ (n : Fin 8) (line : Nat) (s : State),
    pendingLine s n = some line ∧ s.running (.rk n) = true ∧ statusBit (coreAt s n).status stIe = true ∧
      (coreAt s n).branch = none →
    Ends (.interruptEntry n) s fun t =>
      (coreAt t n).ecause = BitVec.ofNat 32 (0x80 + line) ∧
      (coreAt t n).epc = BitVec.ofNat 32 (landAll n (coreAt s n)).pc ∧
      (coreAt t n).pc = ((landAll n (coreAt s n)).vbase.toNat + 4 * line) % 16384 ∧
      (coreAt t n).estatus = (landAll n (coreAt s n)).status ∧
      statusBit (coreAt t n).status stIe = false) ∧
  (∀ (n : Fin 8) (cause : Fin 11) (eaddr : Option Nat) (code : BitVec 8) (s : State),
    s.running (.rk n) = true ∧ statusBit (landAll n (landed s n)).status stExl = false →
    Ends (.trapEntry n cause eaddr code) s fun t =>
      (coreAt t n).ecause = BitVec.ofNat 32 (cause.val + code.toNat * 256) ∧
      ((coreAt t n).eaddr = match eaddr with | some a => BitVec.ofNat 32 a | none => (landAll n (landed s n)).eaddr) ∧
      (coreAt t n).epc = BitVec.ofNat 32 (trapEpc (landed s n)) ∧
      (coreAt t n).pc = ((landAll n (landed s n)).vbase.toNat + 64) % 16384 ∧
      Counted (.rk n) RK.TRAP_CNT.COUNT s t) ∧
  (∀ (n : Fin 8) (s : State),
    (coreAt s n).waiting = true ∧ (pendingLine s n).isSome = true →
    Ends (.waitWake n) s fun t =>
      (coreAt t n).waiting = false)

/-- The commands about a core (R391 to R399): a DMA descriptor completes, a tail write, a resume, a load begins and ends with
its verdict, a core is reset, the debug window writes and reads a stopped core, and a single step issues one bundle.
Readings of the model's own that the values rest on: log 3, 51, 54. -/
def Obligations.CoreSystemCommandsComplete : Prop :=
  (∀ (n : Fin 8) (ch : Fin 2) (desc : List Byte) (s : State),
    desc = (readBytes (coreData s n) (dmaDescriptorAt (coreDma s n ch) (coreDma s n ch).head) 16) →
    (coreDma s n ch).halted = false ∧ (coreDma s n ch).head ≠ (coreDma s n ch).tail ∧
      (coreDma s n ch).head < dmaEntries (coreDma s n ch) →
    leAt desc 0 8 % 64 = 0 ∧ leAt desc 8 4 % 64 = 0 ∧ leAt desc 12 2 ≠ 0 ∧ testBit (leAt desc 14 1) 2 = true ∧
      testBit (leAt desc 14 1) 0 = true →
    (dmaWindow s n).1 ≤ leAt desc 0 8 ∧ leAt desc 0 8 + 64 * leAt desc 12 2 ≤ (dmaWindow s n).2 →
    leAt desc 8 4 + 64 * leAt desc 12 2 ≤ dsramBytes ∧ leAt desc 0 8 + 64 * leAt desc 12 2 ≤ lpddrBytes →
    Ends (.dmaDescriptor n ch) s fun t =>
      (coreDma t n ch).head = ((coreDma s n ch).head + 1) % dmaEntries (coreDma s n ch) ∧
      readBytes (coreData t n) (dmaDescriptorAt (coreDma s n ch) (coreDma s n ch).head + 15) 1 = [1]) ∧
  (∀ (n : Fin 8) (ch : Fin 2) (tail : Nat) (s : State),
    Ends (.dmaTailWrite n ch tail) s fun t =>
      (coreDma t n ch).tail = tail % 256) ∧
  (∀ (n : Fin 8) (ch : Fin 2) (s : State),
    Ends (.dmaResume n ch) s fun t =>
      (coreDma t n ch).halted = false ∧
      (coreDma t n ch).error = 0) ∧
  (∀ (o : Origin) (n : Fin 8) (fromHdm : Bool) (s : State),
    Takes o (.rk n) RK.LOAD_CTL.LOAD.off (overlay (overlay (plainWord (.rk n) RK.LOAD_CTL.LOAD.off (word s
      (.rk n) RK.LOAD_CTL.LOAD.off)) RK.LOAD_CTL.SRC (bit fromHdm)) RK.LOAD_CTL.LOAD 1) s →
    Ends (.load o n fromHdm) s fun t =>
      t.flag (.rk n) RK.IMG_STAT.BUSY = true ∧
      (image t n).loading.isSome = true) ∧
  (∀ (n : Fin 8) (img : List Byte) (s : State),
    (image s n).loading = some img →
    Ends (.loadVerifyDone n) s fun t =>
      t.flag (.rk n) RK.IMG_STAT.BUSY = false ∧
      t.get (.rk n) RK.IMG_STAT.RESULT = ((image s n).failed.getD (loadVerdict s n img)) % 2 ^ RK.IMG_STAT.RESULT.width ∧
      (image t n).loading = none) ∧
  (∀ (o : Origin) (n : Fin 8) (s : State),
    TakesField o (.rk n) HDR.RUNCTL.CMD 1 s →
    s.stopped (.rk n) = true →
    Ends (.rkCoreReset o n) s fun t =>
      t.run (.rk n) = .running ∧
      (coreAt t n).pc = (image s n).entry ∧
      (coreAt t n).status = 0) ∧
  (∀ (o : Origin) (n : Fin 8) (off : Fin 0x200000) (w : Word) (s : State),
    (o = .host → s.hostReady = true) ∧ s.power ≠ pwrIdle ∧ s.stepsDue = [] ∧ s.stopped (.rk n) = true →
    off.val < 0x40000 ∧ s.flag (.rk n) RK.DBG_LOCK.LOCK = false ∧ testBit (s.get (.rk n) HDR.OWNER.MASK) o.code = true →
    Ends (.debugWindowWrite o n off w) s fun t =>
      readBytes (coreCode t n) (off.val / 4 * 4) 4 = leBytes 4 w.toNat ∧
      Counted (.rk n) RK.DBG_CNT.WR s t ∧
      t.flag (.rk n) RK.IMG_STAT.MEAS_VALID = false) ∧
  (∀ (o : Origin) (n : Fin 8) (off : Fin 0x200000) (s : State),
    (o = .host → s.hostReady = true) ∧ s.power ≠ pwrIdle ∧ s.stepsDue = [] ∧ s.stopped (.rk n) = true →
    off.val < 0x40000 →
    Ends (.debugWindowRead o n off) s fun t =>
      t.answer = .word (BitVec.ofNat 32 (ofLeBytes (readBytes (coreCode s n) (off.val / 4 * 4) 4)))) ∧
  (∀ (o : Origin) (n : Fin 8) (s : State),
    TakesField o (.rk n) RK.CORE_CTL.STEP 1 s →
    s.stopped (.rk n) = true ∧ atBreakpoint s n = false →
    trapOf n (bundleAt s n (coreAt s n).pc) s = none ∧ lsAccesses (bundleAt s n (coreAt s n).pc).ls = false ∧
      opOf (bundleAt s n (coreAt s n).pc).ct ≠ 0x0B →
    Ends (.debugStep o n) s fun t =>
      (coreAt t n).issued = (coreAt s n).issued + 1 ∧
      (coreAt t n).flights = [])

/-- The commands of the counters (R402 to R414, R546): a reference tick takes the recorded events and counts a cycle, counters
are cleared and enabled, a sample record is latched and stepped over, the samples are cleared, and the fabric counters are
cleared. Readings of the model's own that the values rest on: log 30, 55. -/
def Obligations.TallyCommandsComplete : Prop :=
  (∀ (inputs : TallyInputs) (n : Fin 8) (s : State),
    s.running (.tly n) = true ∧ s.power ≤ pwrIdle ∧ tallyEnabled s (.core n) 0 = true ∧ tallySelWord s (.core n) 0 = 1 →
    Ends (.tallyTick inputs) s fun t =>
      t.tickEvents = [] ∧
      tallyCount t (.core n) 0 = (tallyCount s (.core n) 0 + 1) % 2 ^ 48) ∧
  (∀ (o : Origin) (n : Fin 8) (mask : BitVec 16) (k : Fin 16) (s : State),
    Takes o (.tly n) TLY.CLR.CLR.off (mask.setWidth 32) s →
    mask.getLsbD k.val = true →
    Ends (.tallyClr o n mask) s fun t =>
      tallyCount t (.core n) k.val = 0) ∧
  (∀ (o : Origin) (n : Fin 8) (mask : BitVec 16) (s : State),
    TakesField o (.tly n) TLY.CTL.EN mask.toNat s →
    Ends (.tallyEn o n mask) s fun t =>
      t.get (.tly n) TLY.CTL.EN = mask.toNat) ∧
  (∀ (o : Origin) (n : Fin 8) (s : State),
    TakesField o (.tly n) TLY.SAMPLE_CTL.CLR 1 s →
    Ends (.sampleClr o n) s fun t =>
      (sampleBuffer t n).records = [] ∧
      t.get (.tly n) TLY.SAMPLE_STAT.FILL = 0 ∧
      t.get (.tly n) TLY.SAMPLE_STAT.LOST = 0) ∧
  (∀ (o : Origin) (n : Fin 8) (s : State),
    (o = .host → s.hostReady = true) ∧ s.power ≠ pwrIdle ∧ underTest s (.tly n) = false →
    Ends (.sampleD0Read o n) s fun t =>
      (sampleBuffer t n).latched = (sampleAt s n).tail ∧
      t.answer = .word ((sampleAt s n).getD 0 0)) ∧
  (∀ (o : Origin) (n : Fin 8) (s : State),
    (o = .host → s.hostReady = true) ∧ s.power ≠ pwrIdle ∧ underTest s (.tly n) = false →
    Ends (.sampleD3Read o n) s fun t =>
      t.get (.tly n) TLY.SAMPLE_IDX.INDEX = (s.get (.tly n) TLY.SAMPLE_IDX.INDEX + 1) % 2 ^ TLY.SAMPLE_IDX.INDEX.width) ∧
  (∀ (o : Origin) (mask : Word) (k : Fin 24) (s : State),
    Takes o .arm ARM.FCLR_HI.CLR.off mask s →
    mask.getLsbD k.val = true →
    Ends (.fabricClr o true mask) s fun t =>
      tallyCount t .fabric (32 + k.val) = 0) ∧
  (∀ (o : Origin) (mask : Word) (k : Fin 32) (s : State),
    Takes o .arm ARM.FCLR.CLR.off mask s →
    mask.getLsbD k.val = true →
    Ends (.fabricClr o false mask) s fun t =>
      tallyCount t .fabric k.val = 0)

/-- The commands of the memories (R420 to R428, R450): a scrubber reads on and ends a lap, a slow lap is reported once, a
corrected error queues a write-back that an idle slot does, a row copy ends, an uncorrectable error is counted and has its
reader's outcome, a granule is filled at its first write and reads zero before it, and an MRAM area is committed or torn.
Readings of the model's own that the values rest on: log 8, 9, 56, 60. -/
def Obligations.MemoryCommandsComplete : Prop :=
  (∀ (lines : Bool) (s : State),
    scrubbing s = true ∧ (watchOf s (if lines then .line 0 else .sram 0 0)).writeBack = [] →
    (watchOf s (if lines then .line 0 else .sram 0 0)).position < lapLength lines s →
    (lines = true → spaced s .scrubbed (scrubLineNs s) = true) →
    Ends (.scrubAccess lines) s fun t =>
      (watchOf t (if lines then .line 0 else .sram 0 0)).position =
        (watchOf s (if lines then .line 0 else .sram 0 0)).position + 1) ∧
  (∀ (s : State),
    scrubbing s = true ∧ lapLength true s ≤ s.memories.lines.position →
    Ends (.scrubLapEnd true) s fun t =>
      t.memories.lines.position = 0 ∧
      t.get .lpm LPM.SCRUB.LAPS = (s.get .lpm LPM.SCRUB.LAPS + 1) % 2 ^ LPM.SCRUB.LAPS.width ∧
      t.get .lpm LPM.SCRUB.LAP_S = min ((s.elapsedNs - s.memories.lines.lapStart) / 1000000000) 0xFFFF ∧
      t.memories.lines.lapStart = s.elapsedNs) ∧
  (∀ (s : State),
    scrubbing s = true ∧ lapLength false s ≤ s.memories.sram.position →
    Ends (.scrubLapEnd false) s fun t =>
      t.memories.sram.position = 0 ∧
      t.get .ecc ECC.SCRUB.LAPS = (s.get .ecc ECC.SCRUB.LAPS + 1) % 2 ^ ECC.SCRUB.LAPS.width ∧
      t.get .ecc ECC.SCRUB.LAP_MS = min ((s.elapsedNs - s.memories.sram.lapStart) / 1000000) 0xFFFF ∧
      t.memories.sram.lapStart = s.elapsedNs) ∧
  (∀ (s : State),
    scrubbing s = true ∧ s.memories.lines.warned = false ∧ s.memories.lines.lapStart + lapLimit true s < s.elapsedNs →
    Ends (.lapSlow true) s fun t =>
      testBit (t.get .lpm HDR.EVT_RAW.EVT) LPM.EVT.LAP_SLOW = true ∧
      t.memories.lines.warned = true) ∧
  (∀ (s : State),
    scrubbing s = true ∧ s.memories.sram.warned = false ∧ s.memories.sram.lapStart + lapLimit false s < s.elapsedNs →
    Ends (.lapSlow false) s fun t =>
      testBit (t.get .ecc HDR.EVT_RAW.EVT) ECC.EVT.LAP_SLOW = true ∧
      t.memories.sram.warned = true) ∧
  (∀ (g word : Nat) (s : State),
    Ends (.eccCorrection (.place (.sram g word))) s fun t =>
      Counted .ecc ECC.CE_CNT.COUNT s t ∧
      t.memories.sram.writeBack = s.memories.sram.writeBack ++ [placeAddress (.sram g word)] ∧
      testBit (t.get .ecc HDR.EVT_RAW.EVT) ECC.EVT.CE = true ∧
      t.get .ecc ECC.LAST_CE.GROUP = g % 2 ^ ECC.LAST_CE.GROUP.width) ∧
  (∀ (n : Nat) (s : State),
    Ends (.eccCorrection (.place (.line n))) s fun t =>
      Counted .lpm LPM.CE_CNT.COUNT s t ∧
      t.memories.lines.writeBack = s.memories.lines.writeBack ++ [n] ∧
      testBit (t.get .lpm HDR.EVT_RAW.EVT) LPM.EVT.CE = true) ∧
  (∀ (s : State),
    Ends (.eccCorrection .link) s fun t =>
      Counted .lpm LPM.LINK_ERR.COUNT s t) ∧
  (∀ (s : State),
    Ends (.eccCorrection .mram) s fun t =>
      Counted .mrm MRM.CE_CNT.COUNT s t) ∧
  (∀ (lines : Bool) (s : State),
    Ends (.correctionWriteback lines) s fun t =>
      (watchOf t (if lines then .line 0 else .sram 0 0)).writeBack =
        (watchOf s (if lines then .line 0 else .sram 0 0)).writeBack.tail) ∧
  (∀ (line : Nat) (s : State),
    line ∈ s.memories.lines.copying →
    Ends (.rowRemapCopyDone line) s fun t =>
      t.memories.lines.remapped = s.memories.lines.remapped ++ [line] ∧
      t.memories.lines.copying = s.memories.lines.copying.erase line ∧
      Counted .lpm LPM.HARD_CNT.REMAPPED s t ∧
      t.get .lpm LPM.SPARE_FREE.COUNT = s.get .lpm LPM.SPARE_FREE.COUNT - 1 ∧
      testBit (t.get .lpm HDR.EVT_RAW.EVT) LPM.EVT.HARD_REMAP = true) ∧
  (∀ (g word : Nat) (s : State),
    Ends (.uncorrectableError (.sram g word) .scrubber) s fun t =>
      Counted .ecc ECC.UE_CNT.COUNT s t ∧
      testBit (t.get .ecc HDR.EVT_RAW.EVT) ECC.EVT.UE = true ∧
      t.get .ecc ECC.LAST_UE.GROUP = g % 2 ^ ECC.LAST_UE.GROUP.width) ∧
  (∀ (n : Nat) (s : State),
    Ends (.uncorrectableError (.line n) .scrubber) s fun t =>
      poisoned t n = true ∧
      Counted .lpm LPM.UE_CNT.COUNT s t ∧
      testBit (t.get .lpm HDR.EVT_RAW.EVT) LPM.EVT.UE = true) ∧
  (∀ (n : Nat) (s : State),
    Ends (.uncorrectableError (.line n) .host) s fun t =>
      t.answer = .poisoned ∧
      Counted .hlk HLK.MEM_STAT.POISON s t) ∧
  (∀ (g word : Nat) (n : Fin 8) (s : State),
    s.running (.rk n) = true ∧ statusBit (landAll n (coreAt s n)).status stExl = false →
    Ends (.uncorrectableError (.sram g word) (.fetch n)) s fun t =>
      (coreAt t n).ecause = BitVec.ofNat 32 causeFetchUe ∧
      (coreAt t n).eaddr = BitVec.ofNat 32 (16 * (coreAt s n).pc)) ∧
  (∀ (g word : Nat) (n : Fin 8) (a : Nat) (s : State),
    s.running (.rk n) = true ∧ statusBit (landAll n (coreAt s n)).status stExl = false →
    Ends (.uncorrectableError (.sram g word) (.load n a)) s fun t =>
      (coreAt t n).ecause = BitVec.ofNat 32 causeLoadUe ∧
      (coreAt t n).eaddr = BitVec.ofNat 32 a) ∧
  (∀ (p : MemPlace) (n : Fin 8) (ch : Fin 2) (s : State),
    (coreDma s n ch).halted = false →
    Ends (.uncorrectableError p (.dma n ch)) s fun t =>
      (coreDma t n ch).halted = true ∧ (coreDma t n ch).error = 2) ∧
  (∀ (p : MemPlace) (s : State),
    Ends (.uncorrectableError p .plinth) s fun t =>
      t.flag .pln PLN.STAT.LOCKSTEP_FAIL = true) ∧
  (∀ (p : MemPlace) (q : Nat) (s : State),
    Ends (.uncorrectableError p (.journal q)) s fun t =>
      testBit (t.get .cj HDR.EVT_RAW.EVT) CJ.EVT.LOSS = true) ∧
  (∀ (p : MemPlace) (area slot : Nat) (s : State),
    Ends (.uncorrectableError p (.mram area slot)) s fun t =>
      Counted .mrm MRM.UE_CNT.COUNT s t ∧
      testBit (t.get .mrm HDR.EVT_RAW.EVT) MRM.EVT.UE = true) ∧
  (∀ (p : MemPlace) (k : Nat) (s : State),
    Ends (.uncorrectableError p (.wear k)) s fun t =>
      Counted .mrm MRM.UE_CNT.COUNT s t ∧
      wearErases (wearOf t k) = min (s.get .arc ARC.PE_MAX.CYCLES) 0xFFFFFFFF) ∧
  (∀ (a : Nat) (bytes : List Byte) (s : State),
    granuleSet s (a / 2 ^ 20) = false ∧ a < lpddrBytes →
    Ends (.granuleFirstWrite a bytes) s fun t =>
      granuleSet t (a / 2 ^ 20) = true ∧
      Counted .lpm LPM.INIT_GRAN.COUNT s t ∧
      readBytes t.memories.lpddr (a / 64 * 64) (bytes.take 64).length = bytes.take 64 ∧
      poisoned t (a / 64) = false) ∧
  (∀ (g : Nat) (s : State),
    Ends (.granuleFillDone g) s fun t =>
      (t.memories.filling = s.memories.filling.filter fun x => !(x == g))) ∧
  (∀ (a : Nat) (s : State),
    granuleSet s (a / 2 ^ 20) = false →
    Ends (.uninitialisedRead a) s fun t =>
      t.answer = .bytes (List.replicate 64 0) ∧
      Counted .lpm LPM.INIT_READ.COUNT s t) ∧
  (∀ (area : Fin 6) (s : State),
    Ends (.mramCommit area 3) s fun t =>
      keepNewest t area.val = some ⟨true, ((keepNewest s area.val).map (·.seq)).getD 0 + 1, areaPayload s area⟩) ∧
  (∀ (area : Fin 6) (done : Fin 4) (s : State),
    (done.val = 1 ∨ done.val = 2) →
    (keepArea s area.val).1.valid = true ∧ newestIsOne (keepArea s area.val) = false →
    Ends (.mramCommit area done) s fun t =>
      keepArea t area.val = ((keepArea s area.val).1, ⟨false, 0, []⟩))

/-- The commands of the Archive (R434 to R444): a target that overruns is retried and after three fails, a codeword decodes or
grows its block bad, a format starts and ends, a block is replaced, levelled, refreshed or relocated, and the ring budget is
evaluated. Readings of the model's own that the values rest on: log 9, 10, 58, 59. -/
def Obligations.ArchiveCommandsComplete : Prop :=
  (∀ (target : Fin 32) (retried : Bool) (s : State),
    s.get .arc ARC.STAT.MEDIA ≠ mediaAbsent ∧ testBit (s.get .arc ARC.TGT_FAIL.MASK) target.val = false →
    Ends (.flashOpTimeout target retried) s fun t =>
      Counted .arc ARC.TIMEOUT_CNT.COUNT s t ∧
      testBit (t.get .arc ARC.TGT_FAIL.MASK) target.val = decide (2 ≤ sparseRead (fun _ => 0) s.archive.timeouts target.val) ∧
      testBit (t.get .arc HDR.EVT_RAW.EVT) ARC.EVT.TIMEOUT = true) ∧
  (∀ (target : Fin 32) (k : Nat) (levels : Fin 9) (s : State),
    s.get .arc ARC.STAT.MEDIA ≠ mediaAbsent →
    Ends (.flashReadDecode target k levels true) s fun t =>
      t.get .arc ARC.RETRY_CNT.COUNT = min (s.get .arc ARC.RETRY_CNT.COUNT + levels.val) (2 ^ ARC.RETRY_CNT.COUNT.width - 1) ∧
      sparseRead (fun _ => 0) t.archive.reads k = sparseRead (fun _ => 0) s.archive.reads k + 1 ∧
      sparseRead (fun _ => 0) t.archive.timeouts target.val = 0) ∧
  (∀ (target : Fin 32) (k : Nat) (levels : Fin 9) (s : State),
    s.get .arc ARC.STAT.MEDIA ≠ mediaAbsent →
    Ends (.flashReadDecode target k levels false) s fun t =>
      t.get .arc ARC.RETRY_CNT.COUNT = min (s.get .arc ARC.RETRY_CNT.COUNT + 8) (2 ^ ARC.RETRY_CNT.COUNT.width - 1) ∧
      Counted .arc ARC.UE_CNT.COUNT s t ∧
      testBit (t.get .arc HDR.EVT_RAW.EVT) ARC.EVT.UE = true) ∧
  (∀ (s : State),
    TakesField .plinth .arc ARC.LAYOUT.FORMAT 1 s →
    s.get .arc ARC.STAT.MEDIA ≠ mediaAbsent →
    Ends (.archiveFormat) s fun t =>
      t.flag .arc ARC.STAT.FORMATTING = true ∧
      t.get .arc ARC.LAYOUT.FORMAT = 0) ∧
  (∀ (s : State),
    s.flag .arc ARC.STAT.FORMATTING = true →
    Ends (.formatDone) s fun t =>
      t.flag .arc ARC.STAT.FORMATTING = false ∧
      t.archive.superblock = true ∧
      t.plinth.log = [] ∧ t.cast.stored = [] ∧
      t.keep.formatCount = s.keep.formatCount + 1 ∧
      testBit (t.get .arc HDR.EVT_RAW.EVT) ARC.EVT.FORMAT_DONE = true) ∧
  (∀ (k : Nat) (retired : Bool) (s : State),
    patinaDecides s = true ∧ inUse s k = true →
    Ends (.grownBad k retired) s fun t =>
      wearGrown (wearOf t k) = true ∧
      wearRetired (wearOf t k) = retired ∧
      Counted .arc ARC.BAD_GROWN.BLOCKS s t ∧
      testBit (t.get .arc HDR.EVT_RAW.EVT) ARC.EVT.GROWN_BAD = true) ∧
  (∀ (region : Fin 10) (onto : Nat) (k : Nat) (s : State),
    leastErased s (regionBlocks s region.val) = some k →
    patinaDecides s = true ∧ region.val < regCastRing ∧ onto ∈ regionBlocks s regSpare →
    wearErases (wearOf s k) < wearErases (wearOf s onto) →
    max (s.get .arc ARC.ENDURANCE.CYCLES / 20) 16 < mostErases s (regionBlocks s region.val) - wearErases (wearOf s k) →
    Ends (.wearLevelMove region onto) s fun t =>
      wearRegion (wearOf t onto) = region.val ∧
      wearErases (wearOf t onto) = min (wearErases (wearOf s onto) + 1) 0xFFFFFFFF ∧
      wearRegion (wearOf t k) = regSpare) ∧
  (∀ (k corrections : Nat) (s : State),
    patinaDecides s = true ∧ s.flag .arc ARC.CTL.REFRESH_EN = true ∧ inUse s k = true →
    s.get .arc ARC.CTL.REFRESH_THR < corrections →
    Ends (.flashRefresh k corrections) s fun t =>
      Counted .arc ARC.REFRESH_CNT.COUNT s t) ∧
  (∀ (k : Nat) (s : State),
    patinaDecides s = true ∧ inUse s k = true →
    s.get .arc ARC.CTL.DISTURB * 10000 ≤ sparseRead (fun _ => 0) s.archive.reads k →
    Ends (.readDisturbRelocate k) s fun t =>
      Counted .arc ARC.DISTURB_CNT.COUNT s t ∧
      sparseRead (fun _ => 0) t.archive.reads k = 0) ∧
  (∀ (waf : Option Nat) (s : State),
    patinaRuns s = true ∧ due s .budget (3600 * secNs) = true →
    s.get .cast CAST.RING.THIN = (ringThin (ringEvaluate waf (startTimer .budget s))).getD 15 →
    Ends (.ringBudgetEval waf) s fun t =>
      t.get .arc ARC.LIFE.WAF = (match waf with | some w => w % 256 | none => s.get .arc ARC.LIFE.WAF) ∧
      t.get .cast CAST.RING.THIN = s.get .cast CAST.RING.THIN) ∧
  (∀ (waf : Option Nat) (k : Nat) (s : State),
    patinaRuns s = true ∧ due s .budget (3600 * secNs) = true →
    (ringThin (ringEvaluate waf (startTimer .budget s))).getD 15 = k →
    TakesField (.rk 7) .cast CAST.RING.THIN k (ringEvaluate waf (startTimer .budget s)) →
    Ends (.ringBudgetEval waf) s fun t =>
      t.get .cast CAST.RING.THIN = k ∧
      testBit (t.get .arc HDR.EVT_RAW.EVT) ARC.EVT.THIN_CHG = true)

/-- The capsule commands (R462 to R464, R470, R472): a submitted capsule has the result of checks 1 to 5 and its counter
committed, and each capsule that runs with a body of its form, outside the fail-closed hold, ends OK with its effect.
Readings of the model's own that the values rest on: log 3, 61. -/
def Obligations.CapsuleCommandsComplete : Prop :=
  (∀ (r : PlinthRequest) (s : State),
    s.plinth.request = some r ∧ r.req = 1 ∧ s.plinth.running = none →
    Ends (.submitCapsule) s fun t =>
      t.plinth.running = (capsuleCheck s r.input).2 ∧
      ((capsuleCheck s r.input).2 = none → t.plinth.lastResult =
        [BitVec.ofNat 8 (leAt r.input 5 1), BitVec.ofNat 8 (capsuleCheck s r.input).1] ∧ t.plinth.request = none ∧
        t.plinth.counter = s.plinth.counter) ∧
      t.plinth.counter = ((capsuleCheck s r.input).2.map (·.counter)).getD s.plinth.counter) ∧
  (∀ (x : Capsule) (s : State),
    s.plinth.running = some x ∧ x.cmd = 0x01 ∧ s.flag .pln PLN.STAT.RK0_RECOVERY = false →
    x.body.length = 1953 ∧ leAt x.body 0 1 ≤ 3 ∧ s.plinth.officers.getD (leAt x.body 0 1) none = none →
    Ends (.installOfficer) s fun t =>
      t.plinth.officers = s.plinth.officers.setIfInBounds (leAt x.body 0 1) (some (slice x.body 1 1952)) ∧
      t.flag .pln PLN.STAT.OFFICER_SET = true ∧
      t.plinth.running = none ∧ t.plinth.lastResult = [1, 0]) ∧
  (∀ (x : Capsule) (s : State),
    s.plinth.running = some x ∧ x.cmd = 0x02 ∧ s.flag .pln PLN.STAT.RK0_RECOVERY = false →
    x.body.length = 1 ∧ leAt x.body 0 1 ≤ 3 ∧ (officerKeys s).length ≠ 1 →
    Ends (.removeOfficer) s fun t =>
      t.plinth.officers = s.plinth.officers.setIfInBounds (leAt x.body 0 1) none ∧
      t.plinth.running = none ∧ t.plinth.lastResult = [2, 0]) ∧
  (∀ (x : Capsule) (s : State),
    s.plinth.running = some x ∧ x.cmd = 0x03 ∧ s.flag .pln PLN.STAT.RK0_RECOVERY = false →
    x.body.length = 1608 →
    Ends (.loadPsk) s fun t =>
      t.plinth.psk = (match Config.keyUnwrap (digest (label "SQ3208-PSK" ++ bytes32 (Config.kemDecap transportSeed
        (x.body.take 1568)))) (x.body.drop 1568) with | some k => some k | none => s.plinth.psk) ∧
      t.plinth.lastResult = [3, if (Config.keyUnwrap (digest (label "SQ3208-PSK" ++ bytes32 (Config.kemDecap transportSeed
        (x.body.take 1568)))) (x.body.drop 1568)).isSome then 0 else 8] ∧
      t.plinth.running = none) ∧
  (∀ (x : Capsule) (s : State),
    s.plinth.running = some x ∧ x.cmd = 0x04 ∧ s.flag .pln PLN.STAT.RK0_RECOVERY = false ∧ x.body = [] →
    Ends (.clearPsk) s fun t =>
      t.plinth.psk = none ∧ t.flag .pln PLN.STAT.PSK_LOADED = false ∧
      t.plinth.running = none ∧ t.plinth.lastResult = [4, 0]) ∧
  (∀ (x : Capsule) (off : Nat) (v : Word) (p : Page) (s : State),
    s.plinth.running = some x ∧ x.cmd = 0x05 ∧ s.flag .pln PLN.STAT.RK0_RECOVERY = false →
    x.body = [1, 0] ++ leBytes 4 off ++ leBytes 4 v.toNat ∧ poFormats x.body = false →
    off % 4 = 0 ∧ off < 2 ^ 32 ∧ debugCore off = none ∧ pageOfAddr off = some p ∧
      writeReason s .plinth p (off % 0x1000) v ≠ .none →
    Ends (.writePo) s fun t =>
      t.plinth.running = none ∧
      t.plinth.lastResult = [5, 0, BitVec.ofNat 8 (writeReason s .plinth p (off % 0x1000) v).code]) ∧
  (∀ (x : Capsule) (v : Nat) (s : State),
    s.plinth.running = some x ∧ x.cmd = 0x05 ∧ s.flag .pln PLN.STAT.RK0_RECOVERY = false ∧ s.stepsDue = [] →
    v < 4 ∧ x.body = [1, 0] ++ leBytes 4 (pageBase .pln + PLN.HOLD_SET.CMD_A.off) ++ leBytes 4 v →
    writeReason s .plinth .pln PLN.HOLD_SET.CMD_A.off (BitVec.ofNat 32 v) = .none →
    Ends (.writePo) s fun t =>
      t.get .pln PLN.HOLD_SET.CMD_A = v / 2 ^ PLN.HOLD_SET.CMD_A.lo % 2 ∧
        t.get .pln PLN.HOLD_SET.CMD_B = v / 2 ^ PLN.HOLD_SET.CMD_B.lo % 2 ∧
      t.plinth.running = none ∧ t.plinth.lastResult = [5, 0, 0]) ∧
  (∀ (x : Capsule) (s : State),
    s.plinth.running = some x ∧ x.cmd = 0x06 ∧ s.flag .pln PLN.STAT.RK0_RECOVERY = false →
    x.body.length = 1953 ∧ 1 ≤ leAt x.body 0 1 ∧ leAt x.body 0 1 ≤ 3 →
    Ends (.setTrust) s fun t =>
      t.plinth.trust = s.plinth.trust.setIfInBounds (leAt x.body 0 1) (if (slice x.body 1 1952).all
        (· == 0) then none else some (slice x.body 1 1952)) ∧
      t.plinth.running = none ∧ t.plinth.lastResult = [6, 0]) ∧
  (∀ (x : Capsule) (s : State),
    s.plinth.running = some x ∧ x.cmd = 0x07 ∧ s.flag .pln PLN.STAT.RK0_RECOVERY = false →
    x.body.length = 33 ∧ leAt x.body 0 1 ≤ 7 →
    Ends (.setAllow) s fun t =>
      t.plinth.allow = s.plinth.allow.setIfInBounds (leAt x.body 0 1) (some (BitVec.ofNat 256 (leAt x.body 1 32))) ∧
      t.plinth.running = none ∧ t.plinth.lastResult = [7, 0]) ∧
  (∀ (x : Capsule) (s : State),
    s.plinth.running = some x ∧ x.cmd = 0x08 ∧ s.flag .pln PLN.STAT.RK0_RECOVERY = false →
    x.body.length = 1952 →
    Ends (.setCodeKey) s fun t =>
      t.plinth.codeKey = some x.body ∧ t.flag (.rk 6) RK.IMG_STAT.USER_VALID = false ∧
      t.plinth.running = none ∧ t.plinth.lastResult = [8, 0]) ∧
  (∀ (x : Capsule) (s : State),
    s.plinth.running = some x ∧ x.cmd = 0x09 ∧ s.flag .pln PLN.STAT.RK0_RECOVERY = false →
    x.body.length = 5 ∧ leAt x.body 0 1 ≤ 1 ∧ sparseRead (fun _ => 0) s.plinth.svnMin (leAt x.body 0 1) ≤ leAt x.body 1 4 →
    Ends (.setSvnMin) s fun t =>
      sparseRead (fun _ => 0) t.plinth.svnMin (leAt x.body 0 1) = leAt x.body 1 4 ∧
      t.plinth.running = none ∧ t.plinth.lastResult = [9, 0]) ∧
  (∀ (x : Capsule) (s : State),
    s.plinth.running = some x ∧ x.cmd = 0x0A ∧ s.flag .pln PLN.STAT.RK0_RECOVERY = false →
    x.body.length = 3 ∧ (leAt x.body 0 1 = 1 ∨ leAt x.body 0 1 = 2) ∧ 1 ≤ leAt x.body 1 2 ∧ leAt x.body 1 2 ≤ 1440 →
    Ends (.testPort) s fun t =>
      t.flag .pln PLN.STAT.TEST_OPEN = true ∧ t.flag .pln PLN.STAT.SCAN_OPEN = (leAt x.body 0 1 == 2) ∧
      t.plinth.testUntil = s.elapsedNs + leAt x.body 1 2 * 60000000000 ∧
      (leAt x.body 0 1 = 2 → t.plinth.psk = none ∧ t.flag .pln PLN.STAT.ZEROISED = true ∧
        testBit (plnHold t .a) holdCommand = true ∧ testBit (plnHold t .b) holdCommand = true) ∧
      t.plinth.running = none ∧ t.plinth.lastResult = [0x0A, 0]) ∧
  (∀ (x : Capsule) (s : State),
    s.plinth.running = some x ∧ x.cmd = 0x0A ∧ s.flag .pln PLN.STAT.RK0_RECOVERY = false →
    x.body.length = 3 ∧ leAt x.body 0 1 = 0 →
    Ends (.testPort) s fun t =>
      t.flag .pln PLN.STAT.TEST_OPEN = false ∧
      t.plinth.running = none ∧ t.plinth.lastResult = [0x0A, 0]) ∧
  (∀ (x : Capsule) (s : State),
    s.plinth.running = some x ∧ x.cmd = 0x0B ∧ s.flag .pln PLN.STAT.RK0_RECOVERY = false →
    x.body.length = 8 ∧ s.get .arc ARC.STAT.MEDIA ≠ mediaAbsent ∧ ofLeBytes x.body = s.archive.media →
    writeReason s .plinth .arc ARC.LAYOUT.FORMAT.off (overlay (plainWord .arc ARC.LAYOUT.FORMAT.off
      (word s .arc ARC.LAYOUT.FORMAT.off)) ARC.LAYOUT.FORMAT 1) = .none →
    writeChanges s .arc ARC.LAYOUT.FORMAT.off (shownWord s .plinth .arc ARC.LAYOUT.FORMAT.off) (overlay
      (plainWord .arc ARC.LAYOUT.FORMAT.off (word s .arc ARC.LAYOUT.FORMAT.off)) ARC.LAYOUT.FORMAT 1) = true →
    Ends (.formatArchive) s fun t =>
      t.flag .arc ARC.STAT.FORMATTING = true ∧
      t.plinth.running = none ∧ t.plinth.lastResult = [0x0B, 0]) ∧
  (∀ (x : Capsule) (s : State),
    s.plinth.running = some x ∧ x.cmd = 0x0C ∧ s.flag .pln PLN.STAT.RK0_RECOVERY = false ∧ x.body = [] →
    Ends (.zeroise) s fun t =>
      t.plinth.psk = none ∧ t.flag .pln PLN.STAT.PSK_LOADED = false ∧ t.flag .pln PLN.STAT.ZEROISED = true ∧
        t.plinth.fresh = true ∧
      Counted .pln PLN.ZERO_CNT.COUNT s t ∧
      t.get .pln PLN.ZERO_CNT.LAST_CAUSE = zeroCapsule ∧
      (session t .a).state = sessDown ∧ (session t .b).state = sessDown ∧
      t.plinth.running = none ∧ t.plinth.lastResult = [0x0C, 0]) ∧
  (∀ (x : Capsule) (s : State),
    s.plinth.running = some x ∧ x.cmd = 0x0D ∧ s.flag .pln PLN.STAT.RK0_RECOVERY = false ∧ x.body.length = 1 →
    (testBit (leAt x.body 0 1) 0 = true → tamperActive s = 0) →
    Ends (.release) s fun t =>
      (testBit (leAt x.body 0 1) 0 = true → t.get .pln PLN.TAMPER_STAT.LATCHED = 0 ∧
        testBit (plnHold t .a) holdTamper = false ∧ testBit (plnHold t .b) holdTamper = false) ∧
      (testBit (leAt x.body 0 1) 1 = true → testBit (plnHold t .a) holdAlarm = false) ∧
      (testBit (leAt x.body 0 1) 2 = true → testBit (plnHold t .b) holdAlarm = false) ∧
      t.plinth.running = none ∧ t.plinth.lastResult = [0x0D, 0]) ∧
  (∀ (o : Origin) (w : Word) (s : State),
    Takes o .pln PLN.MBX_IN.DATA.off w s →
    Ends (.mbxIn o w) s fun t =>
      t.plinth.mbxIn = s.plinth.mbxIn ++ leBytes 4 w.toNat) ∧
  (∀ (o : Origin) (s : State),
    (o = .host → s.hostReady = true) ∧ s.power ≠ pwrIdle →
    Ends (.mbxOutRead o) s fun t =>
      t.plinth.mbxOut = s.plinth.mbxOut.drop 4 ∧
      t.answer = .word (BitVec.ofNat 32 (ofLeBytes (s.plinth.mbxOut.take 4)))) ∧
  (∀ (r : PlinthRequest) (s : State),
    s.plinth.request = some r ∧ r.req = 2 ∧ r.fromHost = false ∧ r.input = [] →
    Ends (.getResult) s fun t =>
      t.plinth.mbxOut = s.plinth.lastResult ∧
      t.plinth.request = none ∧ t.get .pln PLN.MBX_STAT.STATE = mbxDone ∧ t.get .pln PLN.MBX_STAT.RESULT = capOk) ∧
  (∀ (r : PlinthRequest) (s : State),
    s.plinth.request = some r ∧ r.req = 3 ∧ r.fromHost = false ∧ r.input.length = 32 ∧ canSign s = true →
    Ends (.getAttest) s fun t =>
      t.plinth.mbxOut = attestReport s (BitVec.ofNat 256 (ofLeBytes r.input)) ∧
      t.plinth.request = none ∧ t.get .pln PLN.MBX_STAT.STATE = mbxDone ∧ t.get .pln PLN.MBX_STAT.RESULT = capOk) ∧
  (∀ (r : PlinthRequest) (e : Nat × List Byte) (s : State),
    s.plinth.request = some r ∧ r.req = 4 ∧ r.fromHost = false ∧ r.input.length = 8 →
    s.journal.signatures.find? (fun y => y.1 == ofLeBytes r.input) = some e →
    Ends (.getJournalSig) s fun t =>
      t.plinth.mbxOut = e.2 ∧
      t.plinth.request = none ∧ t.get .pln PLN.MBX_STAT.STATE = mbxDone ∧ t.get .pln PLN.MBX_STAT.RESULT = capOk) ∧
  (∀ (r : PlinthRequest) (s : State),
    s.plinth.request = some r ∧ r.req = 5 ∧ r.fromHost = false ∧ r.input = [] →
    Ends (.getCert) s fun t =>
      t.plinth.mbxOut = Config.certificate ∧
      t.plinth.request = none ∧ t.get .pln PLN.MBX_STAT.STATE = mbxDone ∧ t.get .pln PLN.MBX_STAT.RESULT = capOk) ∧
  (∀ (r : PlinthRequest) (c : Carrier) (mode : Nat) (s : State),
    s.plinth.request = some r ∧ r.req = 6 ∧ r.fromHost = false ∧ r.input = [BitVec.ofNat 8 c.idx, BitVec.ofNat 8 mode] ∧
      mode ≤ 1 →
    alsState s c = alsShut →
    Ends (.alsRestart) s fun t =>
      alsState t c = (if mode = 0 then alsPulse else alsTest) ∧
      testBit (plnHold t c) holdAls = false ∧
      t.plinth.request = none ∧ t.get .pln PLN.MBX_STAT.STATE = mbxDone ∧ t.get .pln PLN.MBX_STAT.RESULT = capOk) ∧
  (∀ (r : PlinthRequest) (s : State),
    s.plinth.request = some r ∧ (r.req = 0 ∨ 6 < r.req) ∧ r.fromHost = false →
    Ends (.unknownMbxReq) s fun t =>
      t.plinth.request = none ∧ t.get .pln PLN.MBX_STAT.STATE = mbxError ∧ t.get .pln PLN.MBX_STAT.RESULT = mbxUnknown ∧
      testBit (t.get .pln HDR.EVT_RAW.EVT) PLN.EVT.MBX_DONE = true)

/-- The commands of the safety functions (R468 to R474): an alarm has its configured action, automatic laser shutdown moves
through its states and its hold, a tamper input latches and zeroises, ZEROISE_N falls and rises, the test port times out,
RK0 fails, is reset, recovers or escalates, and lockstep fails. Readings of the model's own that the values rest on: log 9,
25, 63, 64. -/
def Obligations.SafetyCommandsComplete : Prop :=
  (∀ (c : Carrier) (s : State),
    (sourceOf .tel (match c with | .a => TEL.EVT.TAP_ALARM_A | .b => TEL.EVT.TAP_ALARM_B)) ∈ s.evr.plinthNotices ∧
      s.flag .pln PLN.STAT.LOCKSTEP_FAIL = false →
    s.get .pln PLN.POLICY.TAP_ACT = 2 →
    Ends (.alarmAction c true) s fun t =>
      testBit (plnHold t c) holdAlarm = true) ∧
  (∀ (c : Carrier) (s : State),
    sourceOf (.cry c) CRY.EVT.TAG_BURST ∈ s.evr.plinthNotices ∧ s.flag .pln PLN.STAT.LOCKSTEP_FAIL = false →
    s.get .pln PLN.POLICY.TAGBURST_ACT = 3 →
    Ends (.alarmAction c false) s fun t =>
      t.flag .pln PLN.STAT.ZEROISED = true ∧
      (s.flag .pln PLN.STAT.ZEROISED = false → t.plinth.psk = none ∧ t.get .pln PLN.ZERO_CNT.LAST_CAUSE = zeroAlarm)) ∧
  (∀ (c : Carrier) (s : State),
    losCounts s c = true ∧ passed s (.losHeld c) (s.get .pln PLN.ALS_CFG.DETECT * 100 * msNs) = true →
    Ends (.alsShutdown c) s fun t =>
      alsState t c = alsShut ∧ testBit (plnHold t c) holdAls = true ∧
      (t.optics.get c).txDisabled = true) ∧
  (∀ (c : Carrier) (s : State),
    alsState s c = alsShut ∧ passed s (.alsPeriod c) (s.get .pln PLN.ALS_CFG.PERIOD * secNs) = true →
    Ends (.alsPulseStart c) s fun t =>
      alsState t c = alsPulse ∧ testBit (plnHold t c) holdAls = false ∧
      Counted .pln PLN.ALS_STAT.PULSES s t) ∧
  (∀ (c : Carrier) (s : State),
    (alsState s c = alsPulse ∨ alsState s c = alsTest) →
    passed s (.alsPulse c) (alsPulseNs (alsState s c)) = true →
    Ends (.alsPulseEnd c) s fun t =>
      alsState t c = alsShut ∧ testBit (plnHold t c) holdAls = true) ∧
  (∀ (c : Carrier) (s : State),
    alsState s c ≠ alsNormal ∧ s.flag .fes (fesLosF c) = false →
    Ends (.alsRecovery c) s fun t =>
      alsState t c = alsNormal ∧ testBit (plnHold t c) holdAls = false) ∧
  (∀ (i : Fin 4) (s : State),
    testBit (s.get .pln PLN.TAMPER_CFG.EN) i.val = true ∧ testBit (s.get .pln PLN.STAT.TAMPER_IN) i.val = false →
    Ends (.tamperInput i) s fun t =>
      testBit (t.get .pln PLN.TAMPER_STAT.LATCHED) i.val = true ∧
      t.flag .pln PLN.STAT.TAMPER_LATCH = true ∧ t.flag .pln PLN.STAT.ZEROISED = true ∧ t.plinth.psk = none ∧
      testBit (plnHold t .a) holdTamper = true ∧ testBit (plnHold t .b) holdTamper = true ∧
      t.flag .pln PLN.STAT.TEST_OPEN = false ∧ t.plinth.running = none) ∧
  (∀ (s : State),
    s.plinth.zeroiseLow = false →
    Ends (.zeroisePin) s fun t =>
      t.plinth.psk = none ∧ t.flag .pln PLN.STAT.ZEROISED = true ∧ t.plinth.keysErased = true ∧ t.plinth.zeroiseLow = true ∧
      t.get .pln PLN.ZERO_CNT.LAST_CAUSE = zeroPin ∧
      Counted .pln PLN.ZERO_CNT.COUNT s t) ∧
  (∀ (s : State),
    s.plinth.testUntil ≤ s.elapsedNs →
    Ends (.testPortExpiry) s fun t =>
      t.flag .pln PLN.STAT.TEST_OPEN = false ∧
      (s.flag .pln PLN.STAT.TEST_OPEN = true → t.flag .pln PLN.STAT.SCAN_OPEN = false ∧
        testBit (t.get .pln HDR.EVT_RAW.EVT) PLN.EVT.TEST_PORT = true)) ∧
  (∀ (s : State),
    s.plinth.rk0Seen = true ∧ s.power ≤ pwrIdle ∧ s.flag .pln PLN.STAT.RK0_RECOVERY = false ∧
      s.flag .pln PLN.STAT.LOCKSTEP_FAIL = false →
    ((s.running (.rk 0) = true ∧ passed s .heartbeat (hbPeriodNs s) = true ∧
      s.get (.rk 0) RK.HB_CNT.COUNT = s.plinth.lastBeat) ∨ (s.running (.rk 0) = false ∧
      passed s .rk0Stopped (secNs + 1) = true)) →
    Ends (.rk0HeartbeatCheck) s fun t =>
      t.flag .pln PLN.STAT.RK0_RECOVERY = true ∧ t.plinth.running = none ∧
      Counted .pln PLN.RK0_WATCH.FAILURES s t ∧
      testBit (t.get .pln HDR.EVT_RAW.EVT) PLN.EVT.RK0_FAIL = true) ∧
  (∀ (s : State),
    s.flag .pln PLN.STAT.RK0_RECOVERY = true ∧ s.get .pln PLN.STAT.RK0_RESETS < 3 ∧
      s.flag .pln PLN.STAT.LOCKSTEP_FAIL = false ∧ rk0Awaited s = false →
    Ends (.rk0RecoveryReset) s fun t =>
      t.get .pln PLN.STAT.RK0_RESETS = s.get .pln PLN.STAT.RK0_RESETS + 1 ∧
      Counted .pln PLN.RK0_WATCH.RESETS s t ∧
      t.plinth.lastBeat = t.get (.rk 0) RK.HB_CNT.COUNT) ∧
  (∀ (s : State),
    s.flag .pln PLN.STAT.RK0_RECOVERY = true ∧ s.running (.rk 0) = true ∧ s.get (.rk 0) RK.HB_CNT.COUNT ≠ s.plinth.lastBeat ∧
      testBit (plnHold s .a) holdFailure = false →
    Ends (.rk0RecoveryEnd) s fun t =>
      t.flag .pln PLN.STAT.RK0_RECOVERY = false ∧
      t.plinth.lastBeat = s.get (.rk 0) RK.HB_CNT.COUNT) ∧
  (∀ (s : State),
    s.flag .pln PLN.STAT.RK0_RECOVERY = false ∧ s.running (.rk 0) = true ∧ passed s .rk0Good (600 * secNs) = true →
    Ends (.rk0RecoveryEnd) s fun t =>
      t.get .pln PLN.STAT.RK0_RESETS = 0) ∧
  (∀ (s : State),
    s.flag .pln PLN.STAT.LOCKSTEP_FAIL = false →
    Ends (.lockstepFail) s fun t =>
      t.flag .pln PLN.STAT.LOCKSTEP_FAIL = true ∧ t.flag .pln PLN.STAT.READY = false ∧
      (t.optics.get .a).txDisabled = true ∧ (t.optics.get .b).txDisabled = true ∧
      (t.cipher.get .a).hardwareHold = true ∧ (t.cipher.get .b).hardwareHold = true ∧
      t.plinth.psk = none ∧ t.plinth.request = none ∧ t.plinth.running = none ∧ t.plinth.keysErased = true) ∧
  (∀ (s : State),
    rk0Escalated s = true →
    Ends (.rk0EscalationReset) s fun t =>
      t.pwrMgr.resetCause = (if s.firmware.trial then 4 else 3) ∧
      t.hostReady = false ∧ t.plinth.running = none ∧ t.flag .pln PLN.STAT.RK0_RECOVERY = false) ∧
  (∀ (s : State),
    Ends (.zeroiseNRelease) s fun t =>
      t.plinth.zeroiseLow = false ∧
      (tamperActive s = 0 ∧ s.flag .pln PLN.STAT.LOCKSTEP_FAIL = false → t.plinth.keysErased = false)) ∧
  (∀ (i : Fin 4) (s : State),
    Ends (.tamperInputClear i) s fun t =>
      testBit (t.get .pln PLN.STAT.TAMPER_IN) i.val = false ∧
      testBit (t.get .pln PLN.TAMPER_STAT.LATCHED) i.val = testBit (s.get .pln PLN.TAMPER_STAT.LATCHED) i.val)

/-- The commands of housekeeping, the auxiliary outputs and calibration (R479 to R499): a trigger or START begins a sequence, a
sequence ends with its results, an urgent conversion answers or is dropped, a calibration begins and ends, an output slews,
changes range, is cleared by its pin and has its ladder measured, a measurement is accepted or rejected, and the set is
committed. Readings of the model's own that the values rest on: log 9, 10, 28, 65. -/
def Obligations.SensorCommandsComplete : Prop :=
  (∀ (n : Fin 2) (src : Fin 3) (refs temps : Int × Int) (s : State),
    hkSourceDue (pageBoundary (.hk n) s) n src.val = true →
    s.power ≤ pwrIdle ∧ (pageBoundary (.hk n) s).get (.hk n) HK.CTL.TRIG_SRC = src.val ∧
      (pageBoundary (.hk n) s).flag (.hk n) HK.STAT.BUSY = false ∧
      (pageBoundary (.hk n) s).flag (.hk n) HK.STAT.CAL_RUN = false →
    (n = 1 → (hkOf (pageBoundary (.hk n) s) 0).simul = false) →
    (n = 0 → (pageBoundary (.hk n) s).flag (.hk 0) HK.CTL.SIMUL = false) →
    Ends (.hkSequence n src refs temps) s fun t =>
      t.flag (.hk n) HK.STAT.BUSY = true ∧
      t.get (.hk n) HK.REF0.CODE = hkCode (if n = 0 then refs.1 else refs.2) ∧
      t.getInt (.hk n) HK.TEMP.TEMP = toSigned 16 (ofSigned 16 (if n = 0 then temps.1 else temps.2))) ∧
  (∀ (n : Fin 2) (src : Fin 3) (refs temps : Int × Int) (s : State),
    hkSourceDue (pageBoundary (.hk n) s) n src.val = true →
    s.power ≤ pwrIdle ∧ (pageBoundary (.hk n) s).get (.hk n) HK.CTL.TRIG_SRC = src.val ∧
      (pageBoundary (.hk n) s).flag (.hk n) HK.STAT.BUSY = true →
    (n = 1 → (hkOf (pageBoundary (.hk n) s) 0).simul = false) →
    Ends (.hkSequence n src refs temps) s fun t =>
      Counted (.hk n) HK.OVR_CNT.TRIG_OVR (pageBoundary (.hk n) s) t ∧
      testBit (t.get (.hk n) HDR.EVT_RAW.EVT) HK.EVT.TRIG_OVR = true) ∧
  (∀ (o : Origin) (n : Fin 2) (refA refB tempA tempB : Int) (s : State),
    TakesField o (.hk n) HK.CTL.START 1 s →
    s.power = pwrRun ∧ s.flag (.hk n) HK.STAT.BUSY = false ∧ s.flag (.hk n) HK.STAT.CAL_RUN = false →
    (n = 1 → (hkOf s 0).simul = false) →
    (n = 0 → s.flag (.hk 0) HK.CTL.SIMUL = false) →
    Ends (.hkStart o n [refA, refB, tempA, tempB]) s fun t =>
      t.flag (.hk n) HK.STAT.BUSY = true ∧
      t.get (.hk n) HK.REF0.CODE = hkCode (if n = 0 then refA else refB)) ∧
  (∀ (n : Fin 2) (codes : List (List Int)) (refs temps : Int × Int) (i : Fin 32) (s : State),
    s.flag (.hk n) HK.STAT.BUSY = true ∧ passed s (.hkSequence n) (hkSequenceNs s n) = true →
    s.flag (.hk n) (HK.SLOT.EN.at i.val) = true ∧ i.val ∉ (hkOf s n).skipped →
    Ends (.hkSequenceDone n codes refs temps) s fun t =>
      t.get (.hk n) HK.SEQ_CNT.COUNT = (s.get (.hk n) HK.SEQ_CNT.COUNT + 1) % 2 ^ HK.SEQ_CNT.COUNT.width ∧
      t.flag (.hk n) (HK.RESULT.VALID.at i.val) = true ∧
      t.get (.hk n) (HK.RESULT.VALUE.at i.val) = hkResult ((List.range (2 ^ hkAvg s n i.val)).map fun j =>
        (codes.getD i.val []).getD j 0) (s.get (.hk n) (HK.SLOT.SHIFT.at i.val)) % 2 ^ HK.RESULT.VALUE.width ∧
      testBit (t.get (.hk n) HDR.EVT_RAW.EVT) HK.EVT.SEQ_DONE = true) ∧
  (∀ (o : Origin) (n : Fin 2) (input : BitVec 5) (reading conv : Int) (s : State),
    Takes o (.hk n) HK.URG_CTL.GO.off (overlay (overlay 0 HK.URG_CTL.INPUT input.toNat) HK.URG_CTL.GO 1) s →
    (conv ≠ 1 ∨ s.flag (.hk n) HK.STAT.BUSY = false) →
    Ends (.urgGo o n input [reading, conv]) s fun t =>
      t.get (.hk n) HK.URG_RESULT.CODE = hkCode reading ∧ t.flag (.hk n) HK.URG_RESULT.DONE = true ∧
        t.flag (.hk n) HK.URG_RESULT.OVR = hkClamped reading ∧
      testBit (t.get (.hk n) HDR.EVT_RAW.EVT) HK.EVT.URG_DONE = true) ∧
  (∀ (o : Origin) (n : Fin 2) (input : BitVec 5) (reading : Int) (s : State),
    Takes o (.hk n) HK.URG_CTL.GO.off (overlay (overlay 0 HK.URG_CTL.INPUT input.toNat) HK.URG_CTL.GO 1) s →
    s.flag (.hk n) HK.STAT.BUSY = true →
    Ends (.urgGo o n input [reading, 1]) s fun t =>
      Counted (.hk n) HK.OVR_CNT.URG_DROP s t ∧
      t.flag (.hk n) HK.URG_RESULT.DONE = false) ∧
  (∀ (n : Fin 2) (offset gain : List (Int × Int)) (refs temps : Int × Int) (s : State),
    (∀ m ∈ hkCalibrated s n, s.flag (.hk m) HK.STAT.BUSY = false) ∧ (hkCalibrated s n).any (hkCalDue s) = true →
    Ends (.hkCalibration n false offset gain refs temps) s fun t =>
      (∀ m ∈ hkCalibrated s n, t.flag (.hk m) HK.STAT.CAL_RUN = true)) ∧
  (∀ (n : Fin 2) (offset gain : List (Int × Int)) (refs temps : Int × Int) (s : State),
    s.flag (.hk n) HK.STAT.CAL_RUN = true ∧ (hkOf s 0).simul = false →
    calAgree 8 0 (offset.getD n.val (0, 0)).1 (offset.getD n.val (0, 0)).2 = true ∧
      calAgree 9 0 (gain.getD n.val (0, 0)).1 (gain.getD n.val (0, 0)).2 = true →
    Ends (.hkCalibration n true offset gain refs temps) s fun t =>
      t.flag (.hk n) HK.STAT.CAL_RUN = false ∧
      trim t 8 n.val 0 = calMean 8 (offset.getD n.val (0, 0)).1 (offset.getD n.val (0, 0)).2 ∧
      (calCount t 9 n.val).accepted = min ((calCount s 9 n.val).accepted + 1) 0xFFFFFFFF) ∧
  (∀ (n : Fin 16) (s : State),
    s.power = pwrRun ∧ auxCleared (auxBoundary n s) n.val = false ∧ auxStepDue (auxBoundary n s) n = true →
    Ends (.auxStep n) s fun t =>
      auxOut t n.val = auxSlew (auxOut (auxBoundary n s) n.val) ((auxBoundary n s).get .aux (AUX.CODE.TARGET.at n.val))
        ((auxBoundary n s).get .aux (AUX.CFG.STEP.at n.val))) ∧
  (∀ (n : Fin 16) (s : State),
    testBit s.aux.rangeWait n.val = true ∧ auxStepDue s n = true →
    Ends (.auxRangeChange n) s fun t =>
      auxHeld t n.val = true ∧ testBit t.aux.rangeWait n.val = false ∧
      auxOut t n.val = s.get .aux (AUX.CFG.CLEAR.at n.val)) ∧
  (∀ (n : Fin 16) (s : State),
    auxHeld s n.val = true ∧ passed s (.auxHold n) (20 * usNs) = true →
    Ends (.rangeDone n) s fun t =>
      auxHeld t n.val = false ∧
      testBit (t.get .aux HDR.EVT_RAW.EVT) AUX.EVT.RANGE_DONE = true) ∧
  (∀ (n : Fin 16) (s : State),
    s.flag .aux AUX.STAT.CLR_PIN = false →
    Ends (.auxclrPin true) s fun t =>
      t.flag .aux AUX.STAT.CLR_PIN = true ∧
      auxOut t n.val = s.get .aux (AUX.CFG.CLEAR.at n.val) ∧
      testBit (t.get .aux HDR.EVT_RAW.EVT) AUX.EVT.CLR_PIN = true) ∧
  (∀ (s : State),
    Ends (.auxclrPin false) s fun t =>
      t.flag .aux AUX.STAT.CLR_PIN = false) ∧
  (∀ (n : Fin 16) (s : State),
    testBit s.aux.ladderWait n.val = true →
    Ends (.auxLadderCal n []) s fun t =>
      testBit t.aux.ladderWait n.val = false) ∧
  (∀ (n : Fin 16) (m : Int × Int) (s : State),
    testBit s.aux.ladderWait n.val = true ∧ calAgree 0xA 0 m.1 m.2 = true →
    Ends (.auxLadderCal n [m]) s fun t =>
      testBit t.aux.ladderWait n.val = false ∧
      trim t 0xA n.val 0 = calMean 0xA m.1 m.2 ∧
      (calCount t 0xA n.val).accepted = min ((calCount s 0xA n.val).accepted + 1) 0xFFFFFFFF ∧
        (calCount t 0xA n.val).at_ = s.nowNs) ∧
  (∀ (item unit sub : Nat) (m1 m2 : Int) (s : State),
    calAgree item sub m1 m2 = true →
    Ends (.calMeasurement item unit sub m1 m2) s fun t =>
      trim t item unit sub = calMean item m1 m2 ∧
      (calCount t item unit).accepted = min ((calCount s item unit).accepted + 1) 0xFFFFFFFF ∧
        (calCount t item unit).at_ = s.nowNs) ∧
  (∀ (item unit sub : Nat) (m1 m2 : Int) (s : State),
    calAgree item sub m1 m2 = false →
    Ends (.calMeasurement item unit sub m1 m2) s fun t =>
      trim t item unit sub = trim s item unit sub ∧
      (calCount t item unit).rejected = min ((calCount s item unit).rejected + 1) 0xFFFFFFFF ∧
      t.get .cal CAL.STAT.LAST_REJ = item % 2 ^ CAL.STAT.LAST_REJ.width ∧
        testBit (t.get .cal HDR.EVT_RAW.EVT) CAL.EVT.CAL_REJECT = true) ∧
  (∀ (s : State),
    calStoreDue s = true ∧ calTooSoon s = false →
    Ends (.calStore) s fun t =>
      t.cal.committedAt = some s.elapsedNs ∧ t.cal.due = false ∧
      (keepNewest t areaCal).map (·.payload) = some ((calSetBytes (calSnapshot s)).map BitVec.toNat) ∧
      Counted .cal CAL.STORE_CNT.COUNT s t ∧
      testBit (t.get .cal HDR.EVT_RAW.EVT) CAL.EVT.STORED = true) ∧
  (∀ (s : State),
    calStoreDue s = true ∧ calTooSoon s = true →
    Ends (.calStore) s fun t =>
      t.cal.due = true ∧ t.cal.committedAt = s.cal.committedAt) ∧
  (∀ (o : Origin) (s : State),
    TakesField o .cal CAL.CTL.STORE_NOW 1 s →
    calTooSoon s = false →
    Ends (.storeNow o) s fun t =>
      t.cal.committedAt = some s.elapsedNs ∧ t.cal.due = false)

/-- The commands of the power manager (R504 to R517, R567): a request starts a transition, merges or waits, an entry acts, an
exit acts, a transition ends, the device shuts down, wakes, loses PWRGD or VDD_AON, the regulator acknowledges, fails and
recovers, and the governor moves the target. Readings of the model's own that the values rest on: log 9, 10, 66, 67, 68. -/
def Obligations.PowerCommandsComplete : Prop :=
  (∀ (o : Origin) (target : BitVec 3) (s : State),
    Takes o .pwr PWR.REQ.STATE.off (target.setWidth 32) s →
    s.flag .pwr PWR.STAT.TRANS = false ∧ s.firmware.online = none ∧ s.power = pwrRun ∧ 1 ≤ target.toNat →
    target.toNat ≤ pwrOff ∧ refusals s target.toNat = [] →
    Ends (.pwrReq o target) s fun t =>
      t.flag .pwr PWR.STAT.TRANS = true ∧ t.get .pwr PWR.STAT.TARGET = target.toNat) ∧
  (∀ (o : Origin) (target : BitVec 3) (s : State),
    Takes o .pwr PWR.REQ.STATE.off (target.setWidth 32) s →
    s.flag .pwr PWR.STAT.TRANS = true ∧ s.get .pwr PWR.STAT.TARGET = target.toNat →
    Ends (.pwrReq o target) s fun t =>
      Counted .pwr PWR.REQ_CNT.MERGED s t) ∧
  (∀ (o : Origin) (target : BitVec 3) (s : State),
    Takes o .pwr PWR.REQ.STATE.off (target.setWidth 32) s →
    s.flag .pwr PWR.STAT.TRANS = true ∧ s.get .pwr PWR.STAT.TARGET ≠ target.toNat ∧ s.flag .pwr PWR.STAT.PEND_V = false →
    Ends (.pwrReq o target) s fun t =>
      t.flag .pwr PWR.STAT.PEND_V = true ∧ t.get .pwr PWR.STAT.PENDING = target.toNat) ∧
  (∀ (s : State),
    s.flag .pwr PWR.STAT.TRANS = true ∧ s.pwrMgr.acted = false ∧ s.get .pwr PWR.STAT.TARGET = pwrIdle ∧ s.power = pwrRun →
    Ends (.pwrEntryAction) s fun t =>
      t.pwrMgr.acted = true) ∧
  (∀ (s : State),
    s.flag .pwr PWR.STAT.TRANS = true ∧ s.pwrMgr.acted = false ∧ s.get .pwr PWR.STAT.TARGET = pwrSleep ∧ s.power = pwrRun →
    Ends (.pwrEntryAction) s fun t =>
      t.pwrMgr.acted = true ∧
      t.flag .lpm LPM.STAT.SELF_REFRESH = true ∧
      (session t .a).state = sessDown ∧ (session t .b).state = sessDown ∧
      t.get .pwr PWR.VDD.TARGET = sleepCode s pwrSleep ∧
      t.get .pwr PWR.RESUME_LO.PAGES = resumeBits s % 2 ^ 32 ∧
        t.get .pwr PWR.RESUME_HI.PAGES = resumeBits s / 2 ^ 32 % 2 ^ PWR.RESUME_HI.PAGES.width) ∧
  (∀ (counts : Nat) (s : State),
    s.flag .pwr PWR.STAT.TRANS = true ∧ s.pwrMgr.acted = false ∧ s.get .pwr PWR.STAT.TARGET = pwrRun ∧ s.power ≠ pwrIdle ∧
      vddInFlight s = false →
    Ends (.pwrExit counts) s fun t =>
      t.pwrMgr.acted = true ∧
      t.flag .lpm LPM.STAT.SELF_REFRESH = false ∧
      t.flag .tb TB.STAT.TB_EXTRAPOLATED = true ∧
      t.nowNs = (s.nowNs + counts * 30517 + (s.timeBase.frac + counts * 37888) / 65536) % 2 ^ 64) ∧
  (∀ (s : State),
    s.flag .pwr PWR.STAT.TRANS = true ∧ s.pwrMgr.acted = true ∧ s.flag .pwr PWR.STAT.PEND_V = false →
    ((pwrSleep ≤ s.get .pwr PWR.STAT.TARGET ∨ pwrSleep ≤ s.power) → railReached s = true) →
    Ends (.pwrTransitionEnd) s fun t =>
      t.power = s.get .pwr PWR.STAT.TARGET ∧ t.flag .pwr PWR.STAT.TRANS = false ∧
      testBit (t.get .pwr HDR.EVT_RAW.EVT) PWR.EVT.STATE_CHG = true) ∧
  (∀ (results : List (Option (Nat × Nat))) (s : State),
    s.flag .pwr PWR.STAT.TRANS = true ∧ s.get .pwr PWR.STAT.TARGET = pwrOff ∧ s.power ≠ pwrOff ∧
      s.flag .pwr PWR.STAT.PEND_V = false →
    Ends (.orderlyShutdown results) s fun t =>
      t.power = pwrOff ∧ t.flag .pwr PWR.STAT.OFF_READY = true ∧
      testBit (t.get .pwr HDR.EVT_RAW.EVT) PWR.EVT.OFF_READY = true) ∧
  (∀ (source : Fin 7) (s : State),
    testBit (s.get .pwr PWR.WAKE_EN.EN) source.val = true ∧ s.flag .pwr PWR.STAT.TRANS = false ∧ s.firmware.online = none →
    1 ≤ s.power ∧ s.power ≤ pwrDeep →
    Ends (.wakeSource source) s fun t =>
      t.flag .pwr PWR.STAT.TRANS = true ∧ t.get .pwr PWR.STAT.TARGET = pwrRun ∧ t.get .pwr PWR.WAKE_STAT.CAUSE = source.val) ∧
  (∀ (s : State),
    testBit (s.get .pwr PWR.WAKE_EN.EN) 0 = true ∧ s.flag .pwr PWR.STAT.TRANS = false ∧ s.firmware.online = none →
    1 ≤ s.power ∧ s.power ≤ pwrDeep →
    Ends (.wakeInPin) s fun t =>
      t.flag .pwr PWR.STAT.TRANS = true ∧ t.get .pwr PWR.STAT.TARGET = pwrRun ∧ t.get .pwr PWR.WAKE_STAT.CAUSE = 0) ∧
  (∀ (s : State),
    Ends (.pwrgdLow) s fun t =>
      t.hostReady = false ∧ t.pwrMgr.startDue = true ∧ t.stepsDue = [] ∧ t.journal.buffer = [] ∧
      t.keep = s.keep ∧ t.nowNs = 0) ∧
  (∀ (s : State),
    Ends (.vddAonLoss) s fun t =>
      t.hostReady = false ∧ t.pwrMgr.startDue = true ∧ t.pwrMgr.aonTrim = 0 ∧
      t.keep = s.keep ∧ t.get .pwr PWR.WAKE_EN.EN = State.reset.get .pwr PWR.WAKE_EN.EN) ∧
  (∀ (s : State),
    vddInFlight s = true ∧ spaced s .avsAcked (stepGapNs s) = true →
    Ends (.avsAck) s fun t =>
      t.get .pwr PWR.VDD.APPLIED = s.vddRequested % 2 ^ PWR.VDD.APPLIED.width ∧
      t.pwrMgr.failures = 0) ∧
  (∀ (s : State),
    vddInFlight s = true ∧ s.pwrMgr.failures < 2 →
    passed s .avsAsked (2 * msNs) = true ∧ spaced s .avsAcked (2 * msNs + stepGapNs s) = true →
    Ends (.avsRetry) s fun t =>
      t.pwrMgr.failures = s.pwrMgr.failures + 1 ∧
      Counted .pwr PWR.AVS_STAT.RETRIES s t) ∧
  (∀ (s : State),
    vddInFlight s = true ∧ 2 ≤ s.pwrMgr.failures →
    passed s .avsAsked (2 * msNs) = true ∧ spaced s .avsAcked (2 * msNs + stepGapNs s) = true →
    Ends (.avsRetry) s fun t =>
      t.flag .pwr PWR.STAT.REG_FAULT = true ∧ vddInFlight t = false ∧
      Counted .pwr PWR.AVS_STAT.FAIL_CNT s t ∧
      testBit (t.get .pwr HDR.EVT_RAW.EVT) PWR.EVT.REG_FAIL = true) ∧
  (∀ (within : Bool) (s : State),
    s.flag .pwr PWR.STAT.REG_FAULT = true ∧ spaced s .regPolled secNs = true →
    Ends (.regFaultPoll within) s fun t =>
      t.flag .pwr PWR.STAT.REG_FAULT = !within) ∧
  (∀ (s : State),
    governorTime s = true ∧ governorMode s = govAuto ∧ s.flag .pwr PWR.STAT.REG_FAULT = false →
    due s .governed (s.get .pwr PWR.GOV_POL.EVAL * 10 * usNs) = true →
    Ends (.governorEval) s fun t =>
      t.pwrMgr.lastTemp = hotter s ∧ t.pwrMgr.slipped = false ∧
      (tallyCount t .fabric 63) = 0 ∧
      (s.get .pwr PWR.GOV_LIM.FLOOR ≤ s.get .pwr PWR.GOV_LIM.CEIL → s.get .pwr PWR.GOV_LIM.FLOOR ≤ t.get .pwr PWR.VDD.TARGET ∧
        t.get .pwr PWR.VDD.TARGET ≤ s.get .pwr PWR.GOV_LIM.CEIL))

/-- The commands of the time base (R520 to R525): the reference is lost and returns, the always-on oscillator is trimmed, the
count is set with a marker of the time before, the alarm is raised, an edge of PPS_IN is measured and acts, edges stop, a
second is armed, and PPS_OUT rises. Readings of the model's own that the values rest on: log 9, 10, 68. -/
def Obligations.TimeCommandsComplete : Prop :=
  (∀ (s : State),
    s.flag .tb TB.STAT.LREF_OK = true →
    Ends (.lrefLoss) s fun t =>
      t.flag .tb TB.STAT.LREF_OK = false ∧ t.flag .tb TB.STAT.BACKUP = true ∧ t.flag .tb TB.STAT.TB_EXTRAPOLATED = true ∧
      testBit (t.get .tb HDR.EVT_RAW.EVT) TB.EVT.LREF_LOSS = true) ∧
  (∀ (s : State),
    Ends (.lrefReturn) s fun t =>
      t.flag .tb TB.STAT.LREF_OK = true ∧ t.flag .tb TB.STAT.BACKUP = false) ∧
  (∀ (trim : Int) (s : State),
    s.power = pwrRun ∧ s.flag .tb TB.STAT.LREF_OK = true ∧ due s .aonTrimmed secNs = true →
    Ends (.aonOscTrim trim) s fun t =>
      t.pwrMgr.aonTrim = trim) ∧
  (∀ (o : Origin) (s : State),
    TakesField o .tb TB.CTL.SET 1 s →
    Ends (.tbSet o) s fun t =>
      t.nowNs = s.pair .tb TB.SET_LO.NS TB.SET_HI.NS ∧
      t.flag .tb TB.STAT.TB_VALID = true ∧ t.flag .tb TB.STAT.TB_EXTRAPOLATED = false ∧ t.get .tb TB.UNCERT.US = 0 ∧
      testBit (t.get .tb HDR.EVT_RAW.EVT) TB.EVT.SET = true) ∧
  (∀ (s : State),
    s.flag .tb TB.CTL.ALARM_EN = true ∧ s.timeBase.alarmDone = false ∧
      (alarmAt s ≤ s.nowNs ∨ s.power = pwrSleep ∨ s.power = pwrDeep) →
    Ends (.tbAlarm) s fun t =>
      t.timeBase.alarmDone = true ∧
      testBit (t.get .tb HDR.EVT_RAW.EVT) TB.EVT.ALARM = true) ∧
  (∀ (s : State),
    s.get .tb TB.CTL.PPS_MODE ≠ 0 ∧ s.flag .tb TB.STAT.PPS_ARMED = true →
    Ends (.ppsEdge) s fun t =>
      t.nowNs = s.get .tb TB.PPS_NEXT.SEC * 1000000000 % 2 ^ 64 ∧
      t.flag .tb TB.STAT.TB_VALID = true ∧ t.flag .tb TB.STAT.PPS_ARMED = false ∧
      Counted .tb TB.PPS_CNT.EDGES s t) ∧
  (∀ (s : State),
    s.get .tb TB.CTL.PPS_MODE ≠ 0 ∧ s.flag .tb TB.STAT.PPS_ARMED = false →
    Ends (.ppsEdge) s fun t =>
      t.getInt .tb TB.PPS_ERR.NS = toSigned TB.PPS_ERR.NS.width (ofSigned TB.PPS_ERR.NS.width (ppsError s.nowNs)) ∧
      Counted .tb TB.PPS_CNT.EDGES s t ∧
      (s.get .tb TB.CTL.PPS_MODE = 2 ∧ 1000000 < (ppsError s.nowNs).natAbs →
        t.nowNs = ((s.nowNs : Int) - ppsError s.nowNs).toNat % 2 ^ 64 ∧
        testBit (t.get .tb HDR.EVT_RAW.EVT) TB.EVT.PPS_STEP = true) ∧
      (s.get .tb TB.CTL.PPS_MODE = 1 → t.nowNs = s.nowNs)) ∧
  (∀ (s : State),
    s.get .tb TB.CTL.PPS_MODE ≠ 0 ∧ s.timeBase.ppsPresent = true ∧ passed s .ppsEdge (2 * secNs) = true →
    Ends (.ppsLost) s fun t =>
      t.flag .tb TB.STAT.PPS_LOCK = false ∧
      Counted .tb TB.PPS_CNT.MISSED s t ∧
      testBit (t.get .tb HDR.EVT_RAW.EVT) TB.EVT.PPS_LOST = true) ∧
  (∀ (o : Origin) (sec : Word) (s : State),
    Takes o .tb TB.PPS_NEXT.SEC.off sec s →
    Ends (.ppsNextWrite o sec) s fun t =>
      t.get .tb TB.PPS_NEXT.SEC = sec.toNat ∧ t.flag .tb TB.STAT.PPS_ARMED = true) ∧
  (∀ (s : State),
    s.flag .tb TB.CTL.PPS_OUT_EN = true ∧ s.flag .tb TB.STAT.TB_VALID = true ∧ s.nowNs % 1000000000 = 0 →
    Ends (.ppsOutPulse) s fun t =>
      t.timeBase.ppsRise = some s.nowNs ∧
      (0 < s.get .tb TB.CTL.PPS_OUT_WIDTH → ppsOut t = true))

/-- The commands of self-test and start-up (R449, R537 to R539, R552, R556, R557): an on-demand test begins, denies reads and
ends, the device starts, a trial succeeds or fails, an online activation reloads a core, gives up or is committed, and the
in-service time is updated. Readings of the model's own that the values rest on: log 3, 9, 69, 70, 71. -/
def Obligations.TestAndStartCommandsComplete : Prop :=
  (∀ (o : Origin) (k : BitVec 6) (s : State),
    Takes o .bst BST.CTL.OD_GO.off (overlay (overlay (plainWord .bst BST.CTL.OD_GO.off
      (word s .bst BST.CTL.OD_GO.off)) BST.CTL.OD_BLOCK k.toNat) BST.CTL.OD_GO 1) s →
    Ends (.odGo o k) s fun t =>
      t.selfTest.testing = some (k.toNat, s.nowNs) ∧
      t.get .bst BST.STAT.PHASE = 3) ∧
  (∀ (result : Option (Nat × Nat)) (k start : Nat) (s : State),
    s.selfTest.testing = some (k, start) →
    Ends (.odTestEnd result) s fun t =>
      t.selfTest.testing = none ∧
      t.get .bst BST.STAT.OD_RESULT = (blockResult k result).status ∧
      t.selfTest.blocks = s.selfTest.blocks.set k (blockResult k result) ∧
      testBit (t.get .bst HDR.EVT_RAW.EVT) BST.EVT.OD_DONE = true) ∧
  (∀ (o : Origin) (p : Page) (off : BitVec 10) (s : State),
    (o = .host → s.hostReady = true) ∧ s.power ≠ pwrIdle ∧ underTest s p = true →
    Ends (.odDeniedRead o p off) s fun t =>
      t.answer = .word 0xFFFFFFFF ∧
      Counted .bst BST.OD_DENY.RD s t) ∧
  (∀ (report : StartReport) (s : State),
    s.pwrMgr.startDue = true ∧ (s.hostReady = false ∨ s.power = pwrOff) →
    Ends (.deviceStart report) s fun t =>
      t.pwrMgr.startDue = false ∧
      t.keep.bootCount = s.keep.bootCount + 1 ∧
      t.qlt.strapRole = report.strap0 ∧
      t.hostReady = !(t.firmware.trial && !report.inTime) ∧
      t.flag .tb TB.STAT.LREF_OK = true) ∧
  (∀ (s : State),
    s.firmware.trial = true ∧ s.hostReady = true ∧ s.running (.rk 0) = true ∧ s.flag .pln PLN.STAT.RK0_RECOVERY = false →
    passed s .rk0Good (60 * secNs) = true →
    Ends (.trialSuccess) s fun t =>
      t.firmware.trial = false ∧
      (keepNewest t areaBoot).map (·.payload) = some ((((bootRecord s).set 0 ((bootRecord s).getD 1 0)).set 4 0).set 5 0)) ∧
  (∀ (s : State),
    s.firmware.trial = true ∧ (s.hostReady = false ∨ rk0Escalated s = true) →
    Ends (.trialFail) s fun t =>
      t.pwrMgr.resetCause = 4 ∧ t.pwrMgr.startDue = true ∧ t.hostReady = false) ∧
  (∀ (slot k : Nat) (rest : List Nat) (s : State),
    s.firmware.online = some slot ∧ s.firmware.reload = k :: rest ∧ (rest.length ≠ 7 ∨ activationWaits s = false) →
    Ends (.onlineCoreReload) s fun t =>
      ((deviceReload (Fin.ofNat 8 k) slot s).2 = true → t.firmware.reload = rest) ∧
      ((deviceReload (Fin.ofNat 8 k) slot s).2 = false → t.firmware.online = none ∧ t.firmware.reload = [])) ∧
  (∀ (slot : Nat) (s : State),
    s.firmware.commitDue = some slot ∧ rk0Beats s = true ∧ passed s .rk0Good (60 * secNs) = true →
    Ends (.onlineActivationCommit) s fun t =>
      t.firmware.commitDue = none ∧
      (keepNewest t areaBoot).map (·.payload) = some ((bootRecord s).set 0 slot)) ∧
  (∀ (s : State),
    due s .inService (60 * secNs) = true →
    Ends (.inServiceSecondsUpdate) s fun t =>
      t.keep.inService = s.keep.inService + 60) ∧
  (∀ (slot : Nat) (s : State),
    s.firmware.online = some slot ∧ s.firmware.reload.length = 8 ∧ activationWaits s = true ∧
      passed s .online (10 * secNs) = true →
    Ends (.onlineActivationBusy) s fun t =>
      t.firmware.online = none ∧ t.firmware.reload = [] ∧
      testBit (t.get .hlk HDR.EVT_RAW.EVT) HLK.EVT.MBOX_DONE = true)

/-- R14: a write that sets LOCK_EN while RPS is configured for 1+1, and one that configures 1+1 while LOCK_EN = 1, is refused
with MODE_CONFLICT where nothing else of R49 refuses it, changes neither register, is counted in the REFUSED_WR of the page
written and journalled. Readings of the model's own that the values rest on: log 15. -/
def Obligations.CarrierLockExcludesRouteProtection : Prop :=
  (∀ (o : Origin) (w : Word) (readings : List Int) (s : State),
    Accesses o GLB.LOCKCTL.LOCK_EN.off s →
    (reached o .glb GLB.LOCKCTL.LOCK_EN.off s).get .rps RPS.CTL.MODE = 1 ∧ extract w 0 1 = 1 ∧
      (reached o .glb GLB.LOCKCTL.LOCK_EN.off s).get .glb GLB.LOCKCTL.LOCK_EN = 0 →
    writeReason ((reached o .glb GLB.LOCKCTL.LOCK_EN.off s).set .rps RPS.CTL.MODE 0) o .glb GLB.LOCKCTL.LOCK_EN.off w = .none →
    Ends (.registerWrite o (pageBase .glb + GLB.LOCKCTL.LOCK_EN.off) w readings) s fun t =>
      Refused .modeConflict o .glb GLB.LOCKCTL.LOCK_EN.off w (reached o .glb GLB.LOCKCTL.LOCK_EN.off s) t ∧
      t.get .glb GLB.LOCKCTL.LOCK_EN = 0 ∧ t.get .rps RPS.CTL.MODE = 1) ∧
  (∀ (o : Origin) (w : Word) (readings : List Int) (s : State),
    Accesses o RPS.CTL.MODE.off s →
    (reached o .rps RPS.CTL.MODE.off s).get .glb GLB.LOCKCTL.LOCK_EN = 1 ∧ extract w 0 2 = 1 →
    writeReason ((reached o .rps RPS.CTL.MODE.off s).set .glb GLB.LOCKCTL.LOCK_EN 0) o .rps RPS.CTL.MODE.off w = .none →
    Ends (.registerWrite o (pageBase .rps + RPS.CTL.MODE.off) w readings) s fun t =>
      Refused .modeConflict o .rps RPS.CTL.MODE.off w (reached o .rps RPS.CTL.MODE.off s) t ∧
      t.get .glb GLB.LOCKCTL.LOCK_EN = 1 ∧ t.get .rps RPS.CTL.MODE = (reached o .rps RPS.CTL.MODE.off s).get .rps RPS.CTL.MODE)

/-- R26: an acquire command for a semaphore of a level not greater than the highest its origin holds answers RESULT 0b11, is
counted in SEM_REFUSE and leaves the semaphore's holder; a release frees the semaphore, whatever else its origin holds.
Readings of the model's own that the values rest on: log 17. -/
def Obligations.SemaphoresAreTakenInOrder : Prop :=
  (∀ (o : Origin) (n : Fin 64) (s : State),
    TakesField o .arm (ARM.SEM.CMD.at n.val) 1 s →
    semLevel n.val ≤ highestLevel s o →
    Ends (.semAcquire o n) s fun t =>
      extract (shownWord t o .arm (ARM.SEM.RESULT.at n.val).off) ARM.SEM.RESULT.lo ARM.SEM.RESULT.width = 3 ∧
      Counted .arm ARM.SEM_REFUSE.ORDER_CNT s t ∧
      (∀ k : Fin 64, (semaphore t k.val).holder = (semaphore s k.val).holder)) ∧
  (∀ (o : Origin) (n : Fin 64) (s : State),
    TakesField o .arm (ARM.SEM.CMD.at n.val) 2 s →
    (semaphore s n.val).holder = some o →
    Ends (.semRelease o n) s fun t =>
      (semaphore t n.val).holder = none ∧
      (∀ k : Fin 64, k ≠ n → (semaphore t k.val).holder = (semaphore s k.val).holder))

/-- R47: whatever the origin and the page, a 32-bit read returns the register's value, or 0 where no register is, and only a
page under on-demand test answers all ones (R538). After the latch of a _LO register the partner returns what was latched
(R582); what a strobe, a popping or a clearing read does beside is not stated here. Readings of the model's own that the
values rest on: log 4, 15. -/
def Obligations.AnyOriginReadsAnyPage : Prop :=
  (∀ (o : Origin) (p : Page) (off : Nat) (s : State),
    Accesses o off s →
    underTest (reached o p off s) p = false ∧ (fieldsAt p off).isEmpty = true →
    Ends (.xLoReadLatch o (pageBase p + off) false) s fun t =>
      t = { reached o p off s with answer := .word 0 }) ∧
  (∀ (o : Origin) (p : Page) (off : Nat) (s : State),
    Accesses o off s →
    underTest (reached o p off s) p = false ∧ (fieldsAt p off).isEmpty = false →
    Ends (.xLoReadLatch o (pageBase p + off) false) s fun t =>
      t.answer = .word ((latched (reached o p off s) o (pageBase p + off)).getD (shownWord (reached o p off s) o p off))) ∧
  (∀ (o : Origin) (p : Page) (off : Nat) (s : State),
    Accesses o off s →
    underTest (reached o p off s) p = true →
    Ends (.xLoReadLatch o (pageBase p + off) false) s fun t =>
      t.answer = .word 0xFFFFFFFF ∧
      Counted .bst BST.OD_DENY.RD (reached o p off s) t ∧
      Journalled (pageBase p + off) 0xFFFFFFFF 0xFFFFFFFF (entryInfo (reached o p off s) o.code .readDenied 5)
        (reached o p off s).nowNs t)

/-- R51: a refused write changes no field; it is counted in REFUSED_WR with the LAST fields and journalled as a refusal. One
with JOURNAL_FULL is counted in CJ.LOSS.UNLOGGED alone, and a GAP marker accounts for it when space returns (R65); one with
BIST is counted in BST.OD_DENY and journalled, and leaves the page's REFUSED_WR (R538). The command ends as an accepted
write does. Readings of the model's own that the values rest on: log 11, 12, 15. -/
def Obligations.RefusedWritesChangeNoField : Prop :=
  (∀ (o : Origin) (p : Page) (off : Nat) (w : Word) (readings : List Int) (s : State),
    Accesses o off s →
    writeReason (reached o p off s) o p off w ≠ .none ∧ writeReason (reached o p off s) o p off w ≠ .bist ∧
      writeReason (reached o p off s) o p off w ≠ .journalFull →
    Ends (.registerWrite o (pageBase p + off) w readings) s fun t =>
      Refused (writeReason (reached o p off s) o p off w) o p off w (reached o p off s) t ∧
      t = { reached o p off s with regs := t.regs, journal := t.journal, evr := t.evr, memories := t.memories, tickEvents :=
        t.tickEvents } ∧
      (∀ q k, q ≠ .cj → q ≠ .lpm → ¬(q = p ∧ k % 0x1000 = HDR.REFUSED_WR.COUNT.off) → word t q k = word (reached o p off s) q k)) ∧
  (∀ (o : Origin) (p : Page) (off : Nat) (w : Word) (readings : List Int) (s : State),
    Accesses o off s →
    writeReason (reached o p off s) o p off w = .journalFull →
    Ends (.registerWrite o (pageBase p + off) w readings) s fun t =>
      Counted .cj CJ.LOSS.UNLOGGED (reached o p off s) t ∧
        t.journal = { (reached o p off s).journal with unlogged := (reached o p off s).journal.unlogged + 1 } ∧
      t = { reached o p off s with regs := t.regs, journal := t.journal, tickEvents := t.tickEvents } ∧
      (∀ q k, ¬(q = .cj ∧ k % 0x1000 = CJ.LOSS.UNLOGGED.off) → word t q k = word (reached o p off s) q k)) ∧
  (∀ (o : Origin) (p : Page) (off : Nat) (w : Word) (readings : List Int) (s : State),
    Accesses o off s →
    writeReason (reached o p off s) o p off w = .bist →
    Ends (.registerWrite o (pageBase p + off) w readings) s fun t =>
      Counted .bst BST.OD_DENY.WR (reached o p off s) t ∧
      Journalled (pageBase p + off) 0 w (entryInfo (reached o p off s) o.code .refused Reason.bist.code)
        (reached o p off s).nowNs t ∧
      t = { reached o p off s with regs := t.regs, journal := t.journal, evr := t.evr, memories := t.memories, tickEvents :=
        t.tickEvents } ∧
      (∀ q k, q ≠ .cj → q ≠ .lpm → ¬(q = .bst ∧ k % 0x1000 = BST.OD_DENY.WR.off) → word t q k = word (reached o p off s) q k)) ∧
  (∀ (s : State),
    onlyReserve s = false ∧ s.journal.inReserve = true ∧ s.journal.unlogged ≠ 0 →
    Ends (.journalSpaceReturn) s fun t =>
      Journalled 0 (BitVec.ofNat 32 s.journal.unlogged) 0 (entryInfo s 0 .marker Marker.gap.code) s.nowNs t ∧
      t.journal.unlogged = 0)

/-- R382: EXT delivers in each lane the accumulator of the pair plus half of 2^S, divided by 2^S and rounded down (S = 0:
unchanged), clamped to 16 bits, and sets STATUS.EXTSAT where it clamps, which otherwise stays; 1.5 becomes 2 and -1.5
becomes -1. Readings of the model's own that the values rest on: log 53. -/
def Obligations.ExtRoundsHalfUp : Prop :=
  (∀ (n : Fin 8) (slot1 : Bool) (x a b sh : Fin 32) (lo hi rlo rhi : Int) (s : State),
    Issues n (macBundle slot1 (formatM 0x07 x.val a.val b.val sh.val)) s →
    lo = ((landed s n).slow.getD (2 * (a.val % 4)) 0).toInt ∧ hi = ((landed s n).slow.getD (2 * (a.val % 4) + 1) 0).toInt →
    rlo = (if sh.val = 0 then lo else (lo + 2 ^ (sh.val - 1)) / 2 ^ sh.val) ∧
      rhi = (if sh.val = 0 then hi else (hi + 2 ^ (sh.val - 1)) / 2 ^ sh.val) →
    Ends (.ext n slot1 x a b sh) s fun t =>
      Delivers n x.val (BitVec.ofInt 16 (max (-32768) (min 32767 rhi)) ++ BitVec.ofInt 16 (max (-32768) (min 32767 rlo))) 2 s t ∧
      statusBit (coreAt t n).status stExtsat = (statusBit (landed s n).status stExtsat || decide (rlo < -32768 ∨ 32767 < rlo ∨
        rhi < -32768 ∨ 32767 < rhi)) ∧
      (sh.val = 1 → (lo = 3 → rlo = 2) ∧ (lo = -3 → rlo = -1)))

/-- R49: the order of the refusals. A write to a page under test is refused with BIST, one whose origin OWNER.MASK leaves out
with NOT_OWNER, one that changes a Plinth-only field from another origin with PLINTH_ONLY, one of an empty offset with
RESERVED_OFFSET, one of a register without a writable field with READ_ONLY and one that changes a stop-only field of a page
that is not stopped with STOP_ONLY, each where none before it applies. HK, AUX and the fabric counters, whose stop-only
fields follow an enable of their own (R485, R493, R546), and the origins that a gate beside OWNER.MASK shuts out (R316,
R369, R472) have no clause here. Readings of the model's own that the values rest on: log 11, 15. -/
def Obligations.TheFirstReasonRefuses : Prop :=
  (∀ (o : Origin) (p : Page) (off : Nat) (w : Word) (readings : List Int) (s : State),
    Accesses o off s ∧ (o = .plinth ∨ onlyReserve (reached o p off s) = false) →
    underTest (reached o p off s) p = false ∧ testBit ((reached o p off s).get p HDR.OWNER.MASK) o.code = false →
    Ends (.registerWrite o (pageBase p + off) w readings) s fun t =>
      Refused .notOwner o p off w (reached o p off s) t) ∧
  (∀ (o : Origin) (p : Page) (off : Nat) (w : Word) (readings : List Int) (s : State),
    Accesses o off s ∧ o ≠ .plinth ∧ onlyReserve (reached o p off s) = false →
    underTest (reached o p off s) p = false ∧ mayWrite (reached o p off s) o p off = true →
    fieldsChange (fieldsOf p off .po) (shownWord (reached o p off s) o p off) (newWord p off (shownWord
      (reached o p off s) o p off) w) = true →
    Ends (.registerWrite o (pageBase p + off) w readings) s fun t =>
      Refused .plinthOnly o p off w (reached o p off s) t) ∧
  (∀ (o : Origin) (p : Page) (off : Nat) (w : Word) (readings : List Int) (s : State),
    Accesses o off s ∧ (o = .plinth ∨ onlyReserve (reached o p off s) = false) →
    underTest (reached o p off s) p = false ∧ mayWrite (reached o p off s) o p off = true ∧ (fieldsAt p off).isEmpty = true →
    Ends (.registerWrite o (pageBase p + off) w readings) s fun t =>
      Refused .reservedOffset o p off w (reached o p off s) t) ∧
  (∀ (o : Origin) (p : Page) (off : Nat) (w : Word) (readings : List Int) (s : State),
    Accesses o off s ∧ (o = .plinth ∨ onlyReserve (reached o p off s) = false) →
    underTest (reached o p off s) p = false ∧ mayWrite (reached o p off s) o p off = true ∧ (fieldsAt p off).isEmpty = false →
    (fieldsAt p off).all (fun f => f.acc == .ro) = true →
    Ends (.registerWrite o (pageBase p + off) w readings) s fun t =>
      Refused .readOnly o p off w (reached o p off s) t) ∧
  (∀ (o : Origin) (p : Page) (off : Nat) (w : Word) (readings : List Int) (s : State),
    Accesses o off s ∧ (o = .plinth ∨ onlyReserve (reached o p off s) = false) →
    underTest (reached o p off s) p = false ∧ mayWrite (reached o p off s) o p off = true ∧
      (o = .plinth ∨ fieldsOf p off .po = []) →
    (p matches .hk _ | .aux | .arm) = false ∧ (reached o p off s).stopped p = false →
    fieldsChange (fieldsOf p off .rwS) (shownWord (reached o p off s) o p off) (newWord p off (shownWord
      (reached o p off s) o p off) w) = true →
    Ends (.registerWrite o (pageBase p + off) w readings) s fun t =>
      Refused .stopOnly o p off w (reached o p off s) t) ∧
  (∀ (o : Origin) (p : Page) (off : Nat) (w : Word) (readings : List Int) (s : State),
    Accesses o off s ∧ (o = .plinth ∨ onlyReserve (reached o p off s) = false) →
    underTest (reached o p off s) p = true →
    Ends (.registerWrite o (pageBase p + off) w readings) s fun t =>
      Journalled (pageBase p + off) 0 w (entryInfo (reached o p off s) o.code .refused Reason.bist.code)
        (reached o p off s).nowNs t)

/-- R61: the head after an entry is SHAKE256 of the head before and the entry's 32 bytes, with the low word of that head as LINK
(R59), shown for a refused write and for a GAP marker while the buffer has room (R63 spills it first otherwise). Readings of
the model's own that the values rest on: log 3, 12. -/
def Obligations.EveryEntryAdvancesTheChain : Prop :=
  (∀ (o : Origin) (p : Page) (off : Nat) (w : Word) (readings : List Int) (s : State),
    Accesses o off s ∧ (reached o p off s).journal.buffer.length < journalBuffer →
    writeReason (reached o p off s) o p off w ≠ .none ∧ writeReason (reached o p off s) o p off w ≠ .bist ∧
      writeReason (reached o p off s) o p off w ≠ .journalFull →
    Ends (.registerWrite o (pageBase p + off) w readings) s fun t =>
      t.nextSeq = ((reached o p off s).nextSeq + 1) % 2 ^ 40 ∧
      t.journal.head = Config.shake256 256 (leBytes 32 (reached o p off s).journal.head.toNat ++ entryBytes
        (reached o p off s).nowNs (reached o p off s).nextSeq (pageBase p + off) (shownWord (reached o p off s) o p off) w
        (entryInfo (reached o p off s) o.code .refused (writeReason (reached o p off s) o p off w).code) (BitVec.ofNat 32
        (reached o p off s).journal.head.toNat))) ∧
  (∀ (s : State),
    onlyReserve s = false ∧ s.journal.inReserve = true ∧ s.journal.unlogged ≠ 0 →
    Ends (.journalSpaceReturn) s fun t =>
      t.nextSeq = (s.nextSeq + 1) % 2 ^ 40 ∧
      t.journal.head = Config.shake256 256 (leBytes 32 s.journal.head.toNat ++ entryBytes s.nowNs s.nextSeq 0
        (BitVec.ofNat 32 s.journal.unlogged) 0 (entryInfo s 0 .marker Marker.gap.code) (BitVec.ofNat 32 s.journal.head.toNat)))

/-- What the commands of the control model, the line transmit path and the line receive path leave alone, one clause a command:
where exec answers a next state, every register outside the named kinds of pages keeps its word and every part of the state
that is not named stays as it was. A command that writes a register (WriteFrame) may also change what any write does: the
journal, the refusal counts, THIN and the wake from Idle. -/
def Obligations.ControlAndLineFrames : Prop :=
  (∀ (o : Origin) (p : Page), WriteFrame (.runctlRun o p) (fun q => wrotePage q || q == p || (q matches .tel | .fes
    | .rps | .qlt | .lrx _ | .ltx _ | .syn _ | .txp _ | .cdc _ | .eqz _ | .trc _ | .cpr _ | .mls _ | .dmp _ | .fec _
    | .lfm _ | .cry _ | .clx _ | .cpc _ | .rk _ | .arm | .pln))
    (fun s t => { wroteState s t with
      framer := t.framer
      fec := t.fec
      cpc := t.cpc
      cipher := t.cipher
      txDsp := t.txDsp
      txLane := t.txLane
      lineRx := t.lineRx
      carrierRec := t.carrierRec
      demapper := t.demapper
      plinth := t.plinth
      tel := t.tel
      cores := t.cores })) ∧
  (∀ (o : Origin) (p : Page), WriteFrame (.runctlStop o p) (fun q => wrotePage q || q == p || (q matches .glb | .aux
    | .fes | .rps | .qlt | .lrx _ | .ltx _ | .syn _ | .txp _ | .eqz _ | .trc _ | .cpr _ | .dmp _ | .fec _ | .lfm _
    | .cry _ | .clx _ | .cpc _ | .rk _ | .arm | .pln))
    (fun s t => { wroteState s t with
      pairMatches := t.pairMatches
      framer := t.framer
      fec := t.fec
      cpc := t.cpc
      aux := t.aux
      txDsp := t.txDsp
      txLane := t.txLane
      lineRx := t.lineRx
      carrierRec := t.carrierRec
      demapper := t.demapper
      dispersion := t.dispersion
      equaliser := t.equaliser
      optics := t.optics
      qlt := t.qlt
      plinth := t.plinth
      rps := t.rps
      cast := t.cast
      checkers := t.checkers
      cores := t.cores })) ∧
  (∀ (p : Page) (ok : Bool) (band : Int × Int) (gain : Int × Int), Frame (.pageStartComplete p ok band gain) (fun _ => true)
    (fun s t => { s with
      regs := t.regs
      evr := t.evr
      pairMatches := t.pairMatches
      framer := t.framer
      fec := t.fec
      cpc := t.cpc
      cipher := t.cipher
      cal := t.cal
      lineRx := t.lineRx
      carrierRec := t.carrierRec
      demapper := t.demapper
      optics := t.optics
      qlt := t.qlt
      plinth := t.plinth
      tel := t.tel
      cast := t.cast
      checkers := t.checkers
      freeCount := t.freeCount
      timers := t.timers })) ∧
  (∀ (p : Page), Frame (.pageStopComplete p) (fun q => (q == p) || (q matches .fes))
    (fun s t => { s with regs := t.regs, evr := t.evr, optics := t.optics })) ∧
  (∀ (p : Page), Frame (.pageBoundOverrun p) (fun q => (q == p) || (q matches .fes))
    (fun s t => { s with regs := t.regs, evr := t.evr, optics := t.optics })) ∧
  (∀ (write : Bool) (addr : Nat) (len : Nat) (w : Word), Frame (.hostMisalignedAccess write addr len w) (fun _ => true)
    (fun s t => { s with
      regs := t.regs
      answer := t.answer
      journal := t.journal
      evr := t.evr
      semaphores := t.semaphores
      tickEvents := t.tickEvents
      vddRequested := t.vddRequested
      memories := t.memories
      pwrMgr := t.pwrMgr
      timers := t.timers })) ∧
  (∀ (o : Origin) (p : Page), WriteFrame (.refusedWrClr o p) (fun q => wrotePage q || q == p) wroteState) ∧
  (∀ (o : Origin) (p : Page), WriteFrame (.errlogClr o p) (fun q => wrotePage q || q == p) wroteState) ∧
  (∀ (o : Origin) (p : Page) (mask : BitVec 16), WriteFrame (.evtRawClear o p mask) (fun q => wrotePage q || q == p)
    wroteState) ∧
  (∀ (o : Origin) (p : Page) (mask : BitVec 16), WriteFrame (.evtSet o p mask) (fun q => wrotePage q || q == p) wroteState) ∧
  (∀ (o : Origin) (addr : Nat) (wide : Bool), Frame (.xLoReadLatch o addr wide) (fun q => q matches .cj | .pwr | .bst
    | .lpm | .ltx _ | .eqz _ | .rk _ | .tly _)
    (fun s t => { s with
      regs := t.regs
      latches := t.latches
      answer := t.answer
      journal := t.journal
      evr := t.evr
      semaphores := t.semaphores
      plinth := t.plinth
      tel := t.tel
      vddRequested := t.vddRequested
      memories := t.memories
      samples := t.samples
      pwrMgr := t.pwrMgr
      timers := t.timers })) ∧
  (Frame .evrSetMessage (fun q => q matches .pln)
    (fun s t => { s with regs := t.regs, evr := t.evr, msix := t.msix, plinth := t.plinth })) ∧
  (∀ (src : Nat), Frame (.evrClearMessage src) (fun q => q matches .pln)
    (fun s t => { s with regs := t.regs, evr := t.evr, msix := t.msix, plinth := t.plinth })) ∧
  (∀ (o : Origin) (w : Word), WriteFrame (.rtDataWrite o w) (fun q => wrotePage q || (q matches .evr | .pln))
    (fun s t => { wroteState s t with msix := t.msix, plinth := t.plinth })) ∧
  (∀ (o : Origin) (mask : BitVec 16), WriteFrame (.swSet o mask) (fun q => wrotePage q || (q matches .evr | .pln))
    (fun s t => { wroteState s t with msix := t.msix, plinth := t.plinth })) ∧
  (∀ (o : Origin) (mask : BitVec 16), WriteFrame (.swClr o mask) (fun q => wrotePage q || (q matches .evr | .pln))
    (fun s t => { wroteState s t with msix := t.msix, plinth := t.plinth })) ∧
  (∀ (o : Origin) (n : Fin 64), WriteFrame (.semAcquire o n) (fun q => wrotePage q || (q matches .arm)) wroteState) ∧
  (∀ (o : Origin) (n : Fin 64), WriteFrame (.semRelease o n) (fun q => wrotePage q || (q matches .arm)) wroteState) ∧
  (∀ (o : Origin), Frame (.vcViolation o) (fun q => q matches .arm)
    (fun s t => { s with regs := t.regs, evr := t.evr, tickEvents := t.tickEvents })) ∧
  (∀ (csfA : BitVec 40) (csfB : BitVec 40) (skew : Option Nat), Frame (.csfPairCompare csfA csfB skew)
    (fun q => q matches .glb | .trc _) (fun s t => { s with regs := t.regs, evr := t.evr, pairMatches := t.pairMatches })) ∧
  (∀ (c : Carrier), Frame (.jointTimingRelease c) (fun q => q matches .trc _) (fun s t => { s with regs := t.regs })) ∧
  (∀ (c : Carrier), Frame (.rxSlip c) (fun q => q matches .fes | .cdc _)
    (fun s t => { s with
      regs := t.regs
      evr := t.evr
      tickEvents := t.tickEvents
      lineRx := t.lineRx
      carrierRec := t.carrierRec
      dispersion := t.dispersion
      optics := t.optics
      pwrMgr := t.pwrMgr })) ∧
  (∀ (c : Carrier), Frame (.txSlip c) (fun q => q matches .txp _)
    (fun s t => { s with
      regs := t.regs
      evr := t.evr
      tickEvents := t.tickEvents
      txDsp := t.txDsp
      txLane := t.txLane
      pwrMgr := t.pwrMgr })) ∧
  (∀ (c : Carrier), Frame (.clientIngressDrop c) (fun q => q matches .cpc _)
    (fun s t => { s with regs := t.regs, evr := t.evr })) ∧
  (∀ (c : Carrier) (q : Fin 4), Frame (.clientEgressUnderrun c q) (fun q => q matches .cpc _)
    (fun s t => { s with regs := t.regs, evr := t.evr, cpc := t.cpc, timers := t.timers })) ∧
  (∀ (n : Nat), Frame (.journalSpill n) (fun q => q matches .cj | .lpm)
    (fun s t => { s with regs := t.regs, journal := t.journal, evr := t.evr, memories := t.memories })) ∧
  (∀ (n : Nat), Frame (.journalPersistBatch n) (fun q => q matches .cj | .arc | .mrm)
    (fun s t => { s with regs := t.regs, journal := t.journal, keep := t.keep, timers := t.timers })) ∧
  (Frame .journalSpaceReturn (fun q => q matches .cj | .lpm)
    (fun s t => { s with regs := t.regs, journal := t.journal, evr := t.evr, memories := t.memories })) ∧
  (∀ (o : Origin), WriteFrame (.signNow o) wrotePage wroteState) ∧
  (Frame .journalSignatureDone (fun q => q matches .cj | .arc | .lpm)
    (fun s t => { s with regs := t.regs, journal := t.journal, evr := t.evr, memories := t.memories })) ∧
  (∀ (c : Carrier), Frame (.lfHeaderForm c) (fun q => q matches .qlt | .lfm _ | .cry _ | .pln)
    (fun s t => { s with
      regs := t.regs
      evr := t.evr
      framer := t.framer
      fec := t.fec
      cipher := t.cipher
      qlt := t.qlt
      plinth := t.plinth
      freeCount := t.freeCount
      staged := t.staged })) ∧
  (∀ (c : Carrier), Frame (.lfmJoinPartner c) (fun q => q matches .lfm _)
    (fun s t => { s with regs := t.regs, framer := t.framer })) ∧
  (Frame .lfmPairStart (fun q => q matches .lfm _) (fun s t => { s with regs := t.regs, framer := t.framer })) ∧
  (∀ (c : Carrier) (blocks : List (Fin 4 × ClientIn)) (rsCorr : List Nat) (rsUncorr : List Nat), Frame
    (.cpcRoundWrite c blocks rsCorr rsUncorr) (fun q => q matches .lfm _ | .cpc _)
    (fun s t => { s with regs := t.regs, evr := t.evr, framer := t.framer, cpc := t.cpc, staged := t.staged })) ∧
  (∀ (o : Origin) (c : Carrier), WriteFrame (.justRangeClr o c) (fun q => wrotePage q || (q matches .lfm _)) wroteState) ∧
  (∀ (c : Carrier) (f : RxFrame), Frame (.rxFramePosition c f) (fun q => q matches .glb | .fes | .qlt | .lfm _ | .cry _)
    (fun s t => { s with
      regs := t.regs
      evr := t.evr
      pairMatches := t.pairMatches
      framer := t.framer
      optics := t.optics
      qlt := t.qlt
      cast := t.cast
      staged := t.staged })) ∧
  (∀ (c : Carrier) (f : RxFrame) (arrival : Nat), Frame (.rxLfClassify c f arrival) (fun q => q matches .fes | .rps
    | .qlt | .lrx _ | .lfm _ | .cry _ | .cpc _ | .pln)
    (fun s t => { s with
      regs := t.regs
      evr := t.evr
      framer := t.framer
      fec := t.fec
      cpc := t.cpc
      cipher := t.cipher
      lineRx := t.lineRx
      optics := t.optics
      qlt := t.qlt
      plinth := t.plinth
      rps := t.rps
      cast := t.cast
      freeCount := t.freeCount
      staged := t.staged })) ∧
  (∀ (c : Carrier), Frame (.syfStart c) (fun q => q matches .txp _) (fun s t => { s with regs := t.regs, txDsp := t.txDsp })) ∧
  (∀ (o : Origin) (c : Carrier) (w : Word), WriteFrame (.pchData o c w) (fun q => wrotePage q || (q matches .txp _))
    (fun s t => { wroteState s t with txDsp := t.txDsp, qlt := t.qlt })) ∧
  (∀ (o : Origin) (c : Carrier), WriteFrame (.pchCtlClr o c) (fun q => wrotePage q || (q matches .txp _))
    (fun s t => { wroteState s t with txDsp := t.txDsp, qlt := t.qlt })) ∧
  (∀ (o : Origin) (c : Carrier) (w : Word), WriteFrame (.txFirSwap o c w) (fun q => wrotePage q || (q matches .txp _))
    (fun s t => { wroteState s t with txDsp := t.txDsp, qlt := t.qlt })) ∧
  (∀ (c : Carrier), Frame (.txXfadeEnd c) (fun q => q matches .txp _)
    (fun s t => { s with regs := t.regs, evr := t.evr, txDsp := t.txDsp })) ∧
  (∀ (c : Carrier), Frame (.dacStart c) (fun _ => false) (fun s t => { s with txDsp := t.txDsp })) ∧
  (∀ (c : Carrier), Frame (.ltxFgCalStart c) (fun q => q matches .ltx _) (fun s t => { s with regs := t.regs })) ∧
  (∀ (c : Carrier) (ms : List (List (Int × Int))), Frame (.ltxFgCalDone c ms) (fun q => q matches .cal | .ltx _)
    (fun s t => { s with regs := t.regs, evr := t.evr, cal := t.cal, txLane := t.txLane })) ∧
  (∀ (n : Fin 8) (m1 : Int) (m2 : Int) (mux : Int × Int), Frame (.ltxBgCalStep n m1 m2 mux) (fun q => q matches .cal | .ltx _)
    (fun s t => { s with regs := t.regs, evr := t.evr, cal := t.cal, txLane := t.txLane })) ∧
  (∀ (c : Carrier), Frame (.gateChange c) (fun q => q matches .qlt | .lrx _ | .ltx _ | .txp _ | .cdc _ | .eqz _
    | .trc _ | .cpr _ | .mls _ | .dmp _)
    (fun s t => { s with
      regs := t.regs
      evr := t.evr
      lineRx := t.lineRx
      dispersion := t.dispersion
      qlt := t.qlt
      staged := t.staged })) ∧
  (∀ (c : Carrier) (average : Int), Frame (.holdover c average) (fun q => q matches .syn _ | .txp _)
    (fun s t => { s with regs := t.regs, evr := t.evr, txDsp := t.txDsp })) ∧
  (∀ (c : Carrier), Frame (.loopTrackResume c) (fun q => q matches .txp _) (fun s t => { s with regs := t.regs })) ∧
  (∀ (n : Fin 8), Frame (.ltxPatternMode n) (fun q => q matches .ltx _)
    (fun s t => { s with regs := t.regs, txLane := t.txLane, staged := t.staged })) ∧
  (∀ (o : Origin) (c : Carrier) (w : Word), WriteFrame (.txInjectSingle o c w) (fun q => wrotePage q || (q matches .txp _))
    (fun s t => { wroteState s t with txDsp := t.txDsp, qlt := t.qlt })) ∧
  (∀ (c : Carrier), Frame (.txInjectPeriodic c) (fun _ => false) (fun s t => { s with txDsp := t.txDsp })) ∧
  (∀ (o : Origin) (n : Fin 8) (value : Option Word), WriteFrame (.pramDataAccess o n value) (fun q => wrotePage q ||
    (q matches .ltx _ | .eqz _ | .rk _ | .tly _))
    (fun s t => { wroteState s t with
      latches := t.latches
      answer := t.answer
      txLane := t.txLane
      plinth := t.plinth
      tel := t.tel
      samples := t.samples })) ∧
  (∀ (n : Fin 8), Frame (.dacClip n) (fun q => q matches .ltx _)
    (fun s t => { s with regs := t.regs, evr := t.evr, txLane := t.txLane, staged := t.staged })) ∧
  (∀ (c : Carrier) (receive : Bool), Frame (.skewSlew c receive) (fun q => q matches .fes | .qlt | .lrx _ | .ltx _
    | .syn _ | .txp _ | .cdc _ | .eqz _ | .trc _ | .cpr _ | .mls _ | .dmp _)
    (fun s t => { s with
      regs := t.regs
      evr := t.evr
      fec := t.fec
      txDsp := t.txDsp
      txLane := t.txLane
      lineRx := t.lineRx
      dispersion := t.dispersion
      equaliser := t.equaliser
      optics := t.optics
      qlt := t.qlt
      staged := t.staged })) ∧
  (∀ (n : Fin 8), Frame (.agcPeriod n) (fun q => q matches .fes | .lrx _)
    (fun s t => { s with regs := t.regs, evr := t.evr, lineRx := t.lineRx, optics := t.optics })) ∧
  (∀ (o : Origin) (n : Fin 8) (code : BitVec 6), WriteFrame (.gainSet o n code) (fun q => wrotePage q ||
    (q matches .fes | .lrx _)) (fun s t => { wroteState s t with lineRx := t.lineRx, optics := t.optics })) ∧
  (∀ (n : Fin 8), Frame (.fastStep n) (fun q => q matches .fes | .lrx _)
    (fun s t => { s with regs := t.regs, evr := t.evr, lineRx := t.lineRx, optics := t.optics })) ∧
  (∀ (n : Fin 8) (codes : List Int), Frame (.clip n codes) (fun q => q matches .fes | .lrx _)
    (fun s t => { s with
      regs := t.regs
      evr := t.evr
      lineRx := t.lineRx
      optics := t.optics
      freeCount := t.freeCount
      staged := t.staged })) ∧
  (∀ (n : Fin 8), Frame (.clipIntervalEnd n) (fun q => q matches .fes | .lrx _)
    (fun s t => { s with regs := t.regs, evr := t.evr, optics := t.optics })) ∧
  (∀ (n : Fin 8), Frame (.gainLimit n) (fun q => q matches .fes | .lrx _)
    (fun s t => { s with regs := t.regs, evr := t.evr, optics := t.optics })) ∧
  (∀ (n : Fin 8) (ms : List (List (Int × Int))) (afe : List (Int × Int)), Frame (.lrxFgCal n ms afe)
    (fun q => q matches .cal | .fes | .lrx _)
    (fun s t => { s with regs := t.regs, evr := t.evr, cal := t.cal, lineRx := t.lineRx, optics := t.optics })) ∧
  (∀ (n : Fin 8) (m : Int × Int), Frame (.adcBgCalStep n m) (fun q => q matches .cal | .fes | .lrx _)
    (fun s t => { s with regs := t.regs, evr := t.evr, cal := t.cal, lineRx := t.lineRx, optics := t.optics })) ∧
  (∀ (o : Origin) (n : Fin 8), WriteFrame (.unretire o n) (fun q => wrotePage q || (q matches .fes | .lrx _))
    (fun s t => { wroteState s t with lineRx := t.lineRx, optics := t.optics })) ∧
  (∀ (c : Carrier), Frame (.laneClockLoss c) (fun q => q matches .glb | .fes | .qlt | .lrx _ | .eqz _ | .trc _
    | .cpr _ | .dmp _ | .fec _ | .lfm _)
    (fun s t => { s with
      regs := t.regs
      evr := t.evr
      pairMatches := t.pairMatches
      framer := t.framer
      fec := t.fec
      carrierRec := t.carrierRec
      demapper := t.demapper
      dispersion := t.dispersion
      equaliser := t.equaliser
      optics := t.optics
      qlt := t.qlt
      cast := t.cast })) ∧
  (∀ (c : Carrier), Frame (.laneClockResume c) (fun q => q matches .fes | .lrx _)
    (fun s t => { s with regs := t.regs, evr := t.evr, lineRx := t.lineRx, optics := t.optics })) ∧
  (∀ (o : Origin) (n : Fin 8) (w : Word), WriteFrame (.histStart o n w) (fun q => wrotePage q || (q matches .fes | .lrx _))
    (fun s t => { wroteState s t with lineRx := t.lineRx, optics := t.optics })) ∧
  (∀ (n : Fin 8), Frame (.histDone n) (fun q => q matches .fes | .lrx _)
    (fun s t => { s with regs := t.regs, evr := t.evr, optics := t.optics })) ∧
  (∀ (o : Origin) (n : Fin 8) (w : Word), WriteFrame (.snapArm o n w) (fun q => wrotePage q || (q matches .fes | .lrx _))
    (fun s t => { wroteState s t with lineRx := t.lineRx, optics := t.optics })) ∧
  (∀ (c : Carrier), Frame (.cdScanStart c) (fun q => q matches .fes)
    (fun s t => { s with regs := t.regs, evr := t.evr, dispersion := t.dispersion, optics := t.optics })) ∧
  (∀ (c : Carrier) (coarse : List Nat) (fine : List Nat), Frame (.cdScanComplete c coarse fine)
    (fun q => q matches .glb | .fes | .qlt | .cdc _ | .eqz _ | .trc _ | .cpr _ | .dmp _ | .fec _ | .lfm _)
    (fun s t => { s with
      regs := t.regs
      evr := t.evr
      pairMatches := t.pairMatches
      framer := t.framer
      fec := t.fec
      carrierRec := t.carrierRec
      demapper := t.demapper
      dispersion := t.dispersion
      equaliser := t.equaliser
      optics := t.optics
      qlt := t.qlt
      cast := t.cast })) ∧
  (∀ (c : Carrier), Frame (.cdTrackStep c) (fun q => q matches .fes | .cdc _)
    (fun s t => { s with regs := t.regs, evr := t.evr, dispersion := t.dispersion, optics := t.optics })) ∧
  (∀ (o : Origin) (c : Carrier) (cd : BitVec 18), WriteFrame (.cdSetWrite o c cd) (fun q => wrotePage q ||
    (q matches .fes | .cdc _)) (fun s t => { wroteState s t with dispersion := t.dispersion, optics := t.optics })) ∧
  (∀ (c : Carrier) (ofs : Int), Frame (.timingLock c ofs) (fun q => q matches .glb | .fes | .qlt | .eqz _ | .trc _
    | .cpr _ | .dmp _ | .fec _ | .lfm _)
    (fun s t => { s with
      regs := t.regs
      evr := t.evr
      pairMatches := t.pairMatches
      framer := t.framer
      fec := t.fec
      carrierRec := t.carrierRec
      demapper := t.demapper
      dispersion := t.dispersion
      equaliser := t.equaliser
      optics := t.optics
      qlt := t.qlt
      cast := t.cast })) ∧
  (∀ (c : Carrier) (ofs : Option Int), Frame (.timingLockLost c ofs) (fun q => q matches .glb | .fes | .qlt | .eqz _
    | .trc _ | .cpr _ | .dmp _ | .fec _ | .lfm _)
    (fun s t => { s with
      regs := t.regs
      evr := t.evr
      pairMatches := t.pairMatches
      framer := t.framer
      fec := t.fec
      carrierRec := t.carrierRec
      demapper := t.demapper
      dispersion := t.dispersion
      equaliser := t.equaliser
      optics := t.optics
      qlt := t.qlt
      cast := t.cast })) ∧
  (∀ (c : Carrier) (est : List Int), Frame (.autoSkewEstimate c est) (fun q => q matches .cj | .fes | .lpm | .trc _)
    (fun s t => { s with
      regs := t.regs
      journal := t.journal
      evr := t.evr
      optics := t.optics
      memories := t.memories
      staged := t.staged })) ∧
  (∀ (c : Carrier) (grads : List (Int × Int)), Frame (.eqzLmsUpdate c grads) (fun q => q matches .fes | .eqz _)
    (fun s t => { s with
      regs := t.regs
      evr := t.evr
      equaliser := t.equaliser
      optics := t.optics
      freeCount := t.freeCount })) ∧
  (∀ (c : Carrier) (corr : Nat) (cost : Nat), Frame (.singularity c corr cost) (fun q => q matches .fes | .eqz _)
    (fun s t => { s with regs := t.regs, evr := t.evr, equaliser := t.equaliser, optics := t.optics })) ∧
  (∀ (c : Carrier), Frame (.channelEstimate c) (fun q => q matches .fes | .eqz _)
    (fun s t => { s with regs := t.regs, evr := t.evr, equaliser := t.equaliser, optics := t.optics })) ∧
  (∀ (o : Origin) (c : Carrier) (w : Word), WriteFrame (.eqzSwap o c w) (fun q => wrotePage q || (q matches .glb
    | .fes | .qlt | .cdc _ | .eqz _ | .trc _ | .cpr _ | .dmp _ | .fec _ | .lfm _))
    (fun s t => { wroteState s t with
      pairMatches := t.pairMatches
      framer := t.framer
      fec := t.fec
      carrierRec := t.carrierRec
      demapper := t.demapper
      dispersion := t.dispersion
      equaliser := t.equaliser
      optics := t.optics
      qlt := t.qlt
      cast := t.cast })) ∧
  (∀ (c : Carrier), Frame (.eqzXfadeEnd c) (fun q => q matches .fes | .eqz _)
    (fun s t => { s with regs := t.regs, evr := t.evr, optics := t.optics })) ∧
  (∀ (o : Origin) (c : Carrier), WriteFrame (.eqzCopy o c) (fun q => wrotePage q || (q matches .glb | .fes | .qlt
    | .cdc _ | .eqz _ | .trc _ | .cpr _ | .dmp _ | .fec _ | .lfm _))
    (fun s t => { wroteState s t with
      pairMatches := t.pairMatches
      framer := t.framer
      fec := t.fec
      carrierRec := t.carrierRec
      demapper := t.demapper
      dispersion := t.dispersion
      equaliser := t.equaliser
      optics := t.optics
      qlt := t.qlt
      cast := t.cast })) ∧
  (∀ (o : Origin) (c : Carrier), WriteFrame (.eqzInit o c) (fun q => wrotePage q || (q matches .glb | .fes | .qlt
    | .cdc _ | .eqz _ | .trc _ | .cpr _ | .dmp _ | .fec _ | .lfm _))
    (fun s t => { wroteState s t with
      pairMatches := t.pairMatches
      framer := t.framer
      fec := t.fec
      carrierRec := t.carrierRec
      demapper := t.demapper
      dispersion := t.dispersion
      equaliser := t.equaliser
      optics := t.optics
      qlt := t.qlt
      cast := t.cast })) ∧
  (∀ (o : Origin) (c : Carrier) (value : Option Word), WriteFrame (.coefDataAccess o c value) (fun q => wrotePage q ||
    (q matches .glb | .qlt | .ltx _ | .cdc _ | .eqz _ | .trc _ | .cpr _ | .dmp _ | .fec _ | .lfm _ | .rk _ | .tly _))
    (fun s t => { wroteState s t with
      latches := t.latches
      answer := t.answer
      pairMatches := t.pairMatches
      framer := t.framer
      fec := t.fec
      carrierRec := t.carrierRec
      demapper := t.demapper
      dispersion := t.dispersion
      equaliser := t.equaliser
      qlt := t.qlt
      plinth := t.plinth
      tel := t.tel
      cast := t.cast
      samples := t.samples })) ∧
  (∀ (o : Origin) (c : Carrier), WriteFrame (.shadowSnap o c) (fun q => wrotePage q || (q matches .glb | .fes | .qlt
    | .cdc _ | .eqz _ | .trc _ | .cpr _ | .dmp _ | .fec _ | .lfm _))
    (fun s t => { wroteState s t with
      pairMatches := t.pairMatches
      framer := t.framer
      fec := t.fec
      carrierRec := t.carrierRec
      demapper := t.demapper
      dispersion := t.dispersion
      equaliser := t.equaliser
      optics := t.optics
      qlt := t.qlt
      cast := t.cast })) ∧
  (∀ (c : Carrier), Frame (.acqBegin c) (fun q => q matches .glb | .fes | .qlt | .cdc _ | .eqz _ | .trc _ | .cpr _
    | .dmp _ | .fec _ | .lfm _)
    (fun s t => { s with
      regs := t.regs
      evr := t.evr
      pairMatches := t.pairMatches
      framer := t.framer
      fec := t.fec
      carrierRec := t.carrierRec
      demapper := t.demapper
      dispersion := t.dispersion
      equaliser := t.equaliser
      optics := t.optics
      qlt := t.qlt
      cast := t.cast })) ∧
  (∀ (c : Carrier), Frame (.acqTimeout c) (fun q => q matches .glb | .fes | .qlt | .cdc _ | .eqz _ | .trc _ | .cpr _
    | .dmp _ | .fec _ | .lfm _)
    (fun s t => { s with
      regs := t.regs
      evr := t.evr
      pairMatches := t.pairMatches
      framer := t.framer
      fec := t.fec
      carrierRec := t.carrierRec
      demapper := t.demapper
      dispersion := t.dispersion
      equaliser := t.equaliser
      optics := t.optics
      qlt := t.qlt
      cast := t.cast })) ∧
  (∀ (c : Carrier) (cost : Nat), Frame (.blindConverged c cost) (fun q => q matches .glb | .fes | .qlt | .eqz _
    | .trc _ | .cpr _ | .dmp _ | .fec _ | .lfm _)
    (fun s t => { s with
      regs := t.regs
      evr := t.evr
      pairMatches := t.pairMatches
      framer := t.framer
      fec := t.fec
      carrierRec := t.carrierRec
      demapper := t.demapper
      dispersion := t.dispersion
      equaliser := t.equaliser
      optics := t.optics
      qlt := t.qlt
      cast := t.cast })) ∧
  (∀ (c : Carrier) (x : Option (Carrier × Bool)) (y : Option (Carrier × Bool)) (index : Nat), Frame
    (.trainingDetect c x y index) (fun q => q matches .glb | .fes | .qlt | .eqz _ | .trc _ | .cpr _ | .dmp _ | .fec _
    | .lfm _)
    (fun s t => { s with
      regs := t.regs
      evr := t.evr
      pairMatches := t.pairMatches
      framer := t.framer
      fec := t.fec
      carrierRec := t.carrierRec
      demapper := t.demapper
      dispersion := t.dispersion
      equaliser := t.equaliser
      optics := t.optics
      qlt := t.qlt
      cast := t.cast })) ∧
  (∀ (o : Origin) (c : Carrier), WriteFrame (.acqRestart o c) (fun q => wrotePage q || (q matches .glb | .fes | .qlt
    | .cdc _ | .eqz _ | .trc _ | .cpr _ | .dmp _ | .fec _ | .lfm _))
    (fun s t => { wroteState s t with
      pairMatches := t.pairMatches
      framer := t.framer
      fec := t.fec
      carrierRec := t.carrierRec
      demapper := t.demapper
      dispersion := t.dispersion
      equaliser := t.equaliser
      optics := t.optics
      qlt := t.qlt
      cast := t.cast })) ∧
  (∀ (c : Carrier) (x : List (Int × Int)) (y : List (Int × Int)), Frame (.cprTrainingBlock c x y)
    (fun q => q matches .glb | .fes | .qlt | .cpr _ | .dmp _ | .fec _ | .lfm _)
    (fun s t => { s with
      regs := t.regs
      evr := t.evr
      pairMatches := t.pairMatches
      framer := t.framer
      fec := t.fec
      carrierRec := t.carrierRec
      demapper := t.demapper
      optics := t.optics
      qlt := t.qlt
      cast := t.cast })) ∧
  (∀ (c : Carrier), Frame (.foLock c) (fun q => q matches .glb | .fes | .qlt | .cpr _ | .dmp _ | .fec _ | .lfm _)
    (fun s t => { s with
      regs := t.regs
      evr := t.evr
      pairMatches := t.pairMatches
      framer := t.framer
      fec := t.fec
      carrierRec := t.carrierRec
      demapper := t.demapper
      optics := t.optics
      qlt := t.qlt
      cast := t.cast })) ∧
  (∀ (c : Carrier), Frame (.foRange c) (fun q => q matches .glb | .fes | .qlt | .cpr _ | .dmp _ | .fec _ | .lfm _)
    (fun s t => { s with
      regs := t.regs
      evr := t.evr
      pairMatches := t.pairMatches
      framer := t.framer
      fec := t.fec
      carrierRec := t.carrierRec
      demapper := t.demapper
      optics := t.optics
      qlt := t.qlt
      cast := t.cast })) ∧
  (∀ (c : Carrier) (x : List (Int × Int)) (y : List (Int × Int)), Frame (.pilotSlipCheck c x y)
    (fun q => q matches .fes | .cpr _)
    (fun s t => { s with
      regs := t.regs
      evr := t.evr
      carrierRec := t.carrierRec
      demapper := t.demapper
      optics := t.optics })) ∧
  (∀ (c : Carrier), Frame (.pchRecordWrite c) (fun q => q matches .cpr _)
    (fun s t => { s with regs := t.regs, evr := t.evr, carrierRec := t.carrierRec, dsram := t.dsram })) ∧
  (∀ (o : Origin) (c : Carrier) (entries : BitVec 8), WriteFrame (.pchRingEntries o c entries) (fun q => wrotePage q ||
    (q matches .qlt | .cpr _)) (fun s t => { wroteState s t with qlt := t.qlt })) ∧
  (∀ (c : Carrier), Frame (.mlsEstimateUpdate c) (fun q => q matches .mls _)
    (fun s t => { s with regs := t.regs, evr := t.evr, demapper := t.demapper })) ∧
  (∀ (c : Carrier), Frame (.trellisReset c) (fun q => q matches .mls _)
    (fun s t => { s with regs := t.regs, evr := t.evr, demapper := t.demapper })) ∧
  (∀ (c : Carrier), Frame (.snrUpdate c) (fun q => q matches .glb | .fes | .qlt | .dmp _ | .fec _ | .lfm _)
    (fun s t => { s with
      regs := t.regs
      evr := t.evr
      pairMatches := t.pairMatches
      framer := t.framer
      fec := t.fec
      demapper := t.demapper
      optics := t.optics
      qlt := t.qlt
      cast := t.cast })) ∧
  (∀ (c : Carrier), Frame (.fecHuntObservation c) (fun q => q matches .glb | .fes | .qlt | .fec _ | .lfm _)
    (fun s t => { s with
      regs := t.regs
      evr := t.evr
      pairMatches := t.pairMatches
      framer := t.framer
      fec := t.fec
      optics := t.optics
      qlt := t.qlt
      cast := t.cast })) ∧
  (∀ (c : Carrier), Frame (.fecCheckResult c) (fun q => q matches .glb | .fes | .qlt | .fec _ | .lfm _)
    (fun s t => { s with
      regs := t.regs
      evr := t.evr
      pairMatches := t.pairMatches
      framer := t.framer
      fec := t.fec
      optics := t.optics
      qlt := t.qlt
      cast := t.cast })) ∧
  (∀ (c : Carrier), Frame (.uncorrectableBlock c) (fun q => q matches .glb | .fes | .qlt | .fec _ | .lfm _)
    (fun s t => { s with
      regs := t.regs
      evr := t.evr
      pairMatches := t.pairMatches
      framer := t.framer
      fec := t.fec
      optics := t.optics
      qlt := t.qlt
      cast := t.cast
      staged := t.staged })) ∧
  (∀ (c : Carrier), Frame (.fecWindowEnd c) (fun q => q matches .glb | .fes | .qlt | .fec _ | .lfm _)
    (fun s t => { s with
      regs := t.regs
      evr := t.evr
      pairMatches := t.pairMatches
      framer := t.framer
      fec := t.fec
      optics := t.optics
      qlt := t.qlt
      cast := t.cast }))

/-- What the commands of Quolet, keying, the route, the optics, telemetry and Cast leave alone, one clause a command: where exec
answers a next state, every register outside the named kinds of pages keeps its word and every part of the state that is not
named stays as it was. A command that writes a register (WriteFrame) may also change what any write does: the journal, the
refusal counts, THIN and the wake from Idle. -/
def Obligations.LinkAndRouteFrames : Prop :=
  (∀ (x : Carrier), Frame (.ratchetDue x) (fun q => q matches .qlt | .cry _)
    (fun s t => { s with regs := t.regs, cipher := t.cipher, qlt := t.qlt, plinth := t.plinth, freeCount := t.freeCount })) ∧
  (∀ (x : Carrier), Frame (.rekeyAnnounce x) (fun q => q matches .qlt | .cry _)
    (fun s t => { s with regs := t.regs, cipher := t.cipher, qlt := t.qlt, plinth := t.plinth, freeCount := t.freeCount })) ∧
  (∀ (x : Carrier), Frame (.activationDeadline x) (fun q => q matches .qlt | .cry _)
    (fun s t => { s with
      regs := t.regs
      evr := t.evr
      cipher := t.cipher
      qlt := t.qlt
      plinth := t.plinth
      freeCount := t.freeCount })) ∧
  (∀ (x : Carrier), Frame (.activationTakeEffect x) (fun q => q matches .qlt | .cry _)
    (fun s t => { s with
      regs := t.regs
      evr := t.evr
      cipher := t.cipher
      qlt := t.qlt
      plinth := t.plinth
      freeCount := t.freeCount })) ∧
  (∀ (c : Carrier), Frame (.retainedSlotExpiry c) (fun q => q matches .cry _)
    (fun s t => { s with regs := t.regs, cipher := t.cipher })) ∧
  (∀ (c : Carrier) (receive : Bool) (i : Fin 4), Frame (.slotExpiry c receive i) (fun q => q matches .cry _ | .pln)
    (fun s t => { s with regs := t.regs, evr := t.evr, fec := t.fec, cipher := t.cipher, plinth := t.plinth })) ∧
  (∀ (x : Carrier), Frame (.epochExchangeStart x) (fun q => q matches .qlt)
    (fun s t => { s with regs := t.regs, qlt := t.qlt, plinth := t.plinth })) ∧
  (∀ (x : Carrier), Frame (.epochExhausted x) (fun q => q matches .qlt)
    (fun s t => { s with regs := t.regs, qlt := t.qlt, plinth := t.plinth })) ∧
  (∀ (o : Origin) (w : Word), WriteFrame (.wakeSend o w) (fun q => wrotePage q || (q matches .qlt))
    (fun s t => { wroteState s t with qlt := t.qlt })) ∧
  (∀ (x : Carrier), Frame (.wakeBurst x) (fun q => q matches .qlt)
    (fun s t => { s with regs := t.regs, optics := t.optics, qlt := t.qlt, timers := t.timers })) ∧
  (∀ (x : Carrier) (w : BitVec 64), Frame (.wakeWordRx x w) (fun q => q matches .pwr | .qlt)
    (fun s t => { s with
      regs := t.regs
      evr := t.evr
      semaphores := t.semaphores
      optics := t.optics
      qlt := t.qlt
      vddRequested := t.vddRequested
      pwrMgr := t.pwrMgr
      timers := t.timers })) ∧
  (∀ (x : Carrier), Frame (.answerSend x) (fun _ => false) (fun s t => { s with qlt := t.qlt })) ∧
  (∀ (x : Carrier), WriteFrame (.pchWordSync x) (fun q => wrotePage q || (q matches .qlt | .cpr _))
    (fun s t => { wroteState s t with qlt := t.qlt })) ∧
  (∀ (x : Carrier), Frame (.pchWordSyncLoss x) (fun q => q matches .qlt) (fun s t => { s with regs := t.regs, qlt := t.qlt })) ∧
  (∀ (x : Carrier) (w : LinkArrival), WriteFrame (.linkWord x w) (fun q => wrotePage q || (q matches .rps | .qlt
    | .cpr _ | .cry _ | .pln))
    (fun s t => { wroteState s t with
      cipher := t.cipher
      qlt := t.qlt
      plinth := t.plinth
      rps := t.rps
      freeCount := t.freeCount })) ∧
  (∀ (x : Carrier) (m : Message), Frame (.ack x m) (fun q => q matches .rps | .qlt | .cry _ | .pln)
    (fun s t => { s with
      regs := t.regs
      evr := t.evr
      cipher := t.cipher
      qlt := t.qlt
      plinth := t.plinth
      rps := t.rps
      freeCount := t.freeCount })) ∧
  (∀ (x : Carrier) (m : Message), Frame (.hello x m) (fun q => q matches .rps | .qlt | .cry _ | .pln)
    (fun s t => { s with
      regs := t.regs
      evr := t.evr
      cipher := t.cipher
      qlt := t.qlt
      plinth := t.plinth
      rps := t.rps
      freeCount := t.freeCount })) ∧
  (∀ (x : Carrier) (m : Message), Frame (.caps x m) (fun q => q matches .rps | .qlt | .cry _ | .pln)
    (fun s t => { s with
      regs := t.regs
      evr := t.evr
      cipher := t.cipher
      qlt := t.qlt
      plinth := t.plinth
      rps := t.rps
      freeCount := t.freeCount })) ∧
  (∀ (x : Carrier) (m : Message), Frame (.attest x m) (fun q => q matches .rps | .qlt | .cry _ | .pln)
    (fun s t => { s with
      regs := t.regs
      evr := t.evr
      cipher := t.cipher
      qlt := t.qlt
      plinth := t.plinth
      rps := t.rps
      freeCount := t.freeCount })) ∧
  (∀ (x : Carrier) (m : Message), Frame (.kemInit x m) (fun q => q matches .rps | .qlt | .cry _ | .pln)
    (fun s t => { s with
      regs := t.regs
      evr := t.evr
      cipher := t.cipher
      qlt := t.qlt
      plinth := t.plinth
      rps := t.rps
      freeCount := t.freeCount })) ∧
  (∀ (x : Carrier) (m : Message), Frame (.kemResp x m) (fun q => q matches .rps | .qlt | .cry _ | .pln)
    (fun s t => { s with
      regs := t.regs
      evr := t.evr
      cipher := t.cipher
      qlt := t.qlt
      plinth := t.plinth
      rps := t.rps
      freeCount := t.freeCount })) ∧
  (∀ (x : Carrier) (m : Message), Frame (.keyConfirm x m) (fun q => q matches .rps | .qlt | .cry _ | .pln)
    (fun s t => { s with
      regs := t.regs
      evr := t.evr
      cipher := t.cipher
      qlt := t.qlt
      plinth := t.plinth
      rps := t.rps
      freeCount := t.freeCount })) ∧
  (∀ (x : Carrier) (m : Message), Frame (.rekey x m) (fun q => q matches .rps | .qlt | .cry _ | .pln)
    (fun s t => { s with
      regs := t.regs
      evr := t.evr
      cipher := t.cipher
      qlt := t.qlt
      plinth := t.plinth
      rps := t.rps
      freeCount := t.freeCount })) ∧
  (∀ (x : Carrier) (m : Message), Frame (.rateOffer x m) (fun q => q matches .rps | .qlt | .cry _ | .pln)
    (fun s t => { s with
      regs := t.regs
      evr := t.evr
      cipher := t.cipher
      qlt := t.qlt
      plinth := t.plinth
      rps := t.rps
      freeCount := t.freeCount })) ∧
  (∀ (x : Carrier) (m : Message), Frame (.rateAccept x m) (fun q => q matches .rps | .qlt | .cry _ | .pln)
    (fun s t => { s with
      regs := t.regs
      evr := t.evr
      cipher := t.cipher
      qlt := t.qlt
      plinth := t.plinth
      rps := t.rps
      freeCount := t.freeCount })) ∧
  (∀ (x : Carrier) (m : Message), Frame (.step x m) (fun q => q matches .rps | .qlt | .cry _ | .pln)
    (fun s t => { s with
      regs := t.regs
      evr := t.evr
      cipher := t.cipher
      qlt := t.qlt
      plinth := t.plinth
      rps := t.rps
      freeCount := t.freeCount })) ∧
  (∀ (x : Carrier) (m : Message), Frame (.stepAck x m) (fun q => q matches .rps | .qlt | .cry _ | .pln)
    (fun s t => { s with
      regs := t.regs
      evr := t.evr
      cipher := t.cipher
      qlt := t.qlt
      plinth := t.plinth
      rps := t.rps
      freeCount := t.freeCount })) ∧
  (∀ (x : Carrier) (m : Message), Frame (.routeSwitch x m) (fun q => q matches .rps | .qlt | .cry _ | .pln)
    (fun s t => { s with
      regs := t.regs
      evr := t.evr
      cipher := t.cipher
      qlt := t.qlt
      plinth := t.plinth
      rps := t.rps
      freeCount := t.freeCount })) ∧
  (∀ (x : Carrier) (r : SleepRequest), Frame (.sleepReq x r) (fun q => q matches .rps | .qlt | .cry _ | .pln)
    (fun s t => { s with
      regs := t.regs
      evr := t.evr
      cipher := t.cipher
      qlt := t.qlt
      plinth := t.plinth
      rps := t.rps
      freeCount := t.freeCount })) ∧
  (∀ (x : Carrier) (r : WakeRequest), Frame (.wakeMsg x r) (fun q => q matches .rps | .qlt | .cry _ | .pln)
    (fun s t => { s with
      regs := t.regs
      evr := t.evr
      cipher := t.cipher
      qlt := t.qlt
      plinth := t.plinth
      rps := t.rps
      freeCount := t.freeCount })) ∧
  (∀ (x : Carrier) (r : TelemetryRequest), Frame (.telemetry x r) (fun q => q matches .rps | .qlt | .cry _ | .pln)
    (fun s t => { s with
      regs := t.regs
      evr := t.evr
      cipher := t.cipher
      qlt := t.qlt
      plinth := t.plinth
      rps := t.rps
      freeCount := t.freeCount })) ∧
  (∀ (x : Carrier) (m : Message), Frame (.timeMsg x m) (fun q => q matches .rps | .qlt | .cry _ | .pln)
    (fun s t => { s with
      regs := t.regs
      evr := t.evr
      cipher := t.cipher
      qlt := t.qlt
      plinth := t.plinth
      rps := t.rps
      freeCount := t.freeCount })) ∧
  (∀ (x : Carrier) (m : Message), Frame (.refuse x m) (fun q => q matches .rps | .qlt | .cry _ | .pln)
    (fun s t => { s with
      regs := t.regs
      evr := t.evr
      cipher := t.cipher
      qlt := t.qlt
      plinth := t.plinth
      rps := t.rps
      freeCount := t.freeCount })) ∧
  (∀ (x : Carrier) (type : BitVec 8) (m : Message), Frame (.unknownTypeMessage x type m) (fun q => q matches .rps
    | .qlt | .cry _ | .pln)
    (fun s t => { s with
      regs := t.regs
      evr := t.evr
      cipher := t.cipher
      qlt := t.qlt
      plinth := t.plinth
      rps := t.rps
      freeCount := t.freeCount })) ∧
  (∀ (k : Carrier) (seqNo : Nat), Frame (.retxTimeout k seqNo) (fun q => q matches .qlt)
    (fun s t => { s with regs := t.regs, evr := t.evr, qlt := t.qlt })) ∧
  (∀ (k : Carrier), Frame (.ackTimer k) (fun q => q matches .qlt) (fun s t => { s with regs := t.regs, qlt := t.qlt })) ∧
  (∀ (x : Carrier), Frame (.timeSend x) (fun q => q matches .qlt)
    (fun s t => { s with regs := t.regs, qlt := t.qlt, timers := t.timers })) ∧
  (∀ (x : Carrier) (receive : Bool) (csf : Nat) (stamp : Nat), Frame (.csfTimestamp x receive csf stamp) (fun _ => false)
    (fun s t => { s with qlt := t.qlt })) ∧
  (∀ (k : Carrier), Frame (.handshakeTimeout k) (fun q => q matches .qlt | .pln)
    (fun s t => { s with regs := t.regs, evr := t.evr, qlt := t.qlt, plinth := t.plinth })) ∧
  (∀ (k : Carrier), Frame (.failedRetry k) (fun q => q matches .qlt)
    (fun s t => { s with regs := t.regs, evr := t.evr, qlt := t.qlt, plinth := t.plinth })) ∧
  (∀ (k : Carrier), Frame (.sessionPathless k) (fun q => q matches .qlt)
    (fun s t => { s with regs := t.regs, evr := t.evr, qlt := t.qlt })) ∧
  (∀ (x : Carrier), Frame (.stepOffer x) (fun q => q matches .qlt)
    (fun s t => { s with regs := t.regs, qlt := t.qlt, freeCount := t.freeCount })) ∧
  (∀ (x : Carrier), Frame (.stepOfferDeadline x) (fun q => q matches .qlt)
    (fun s t => { s with regs := t.regs, evr := t.evr })) ∧
  (∀ (x : Carrier) (jump : Bool), Frame (.armedLapse x jump) (fun q => q matches .qlt)
    (fun s t => { s with regs := t.regs, evr := t.evr })) ∧
  (∀ (x : Carrier), Frame (.stepConfirming x) (fun q => q matches .qlt) (fun s t => { s with regs := t.regs, qlt := t.qlt })) ∧
  (∀ (x : Carrier), Frame (.stepDone x) (fun q => q matches .qlt)
    (fun s t => { s with regs := t.regs, evr := t.evr, qlt := t.qlt })) ∧
  (∀ (x : Carrier), Frame (.stepDown x) (fun q => q matches .qlt)
    (fun s t => { s with regs := t.regs, qlt := t.qlt, freeCount := t.freeCount })) ∧
  (∀ (x : Carrier), Frame (.stepBackoffEnd x) (fun _ => false) (fun s t => { s with qlt := t.qlt })) ∧
  (Frame .sleepDelayExpiry (fun q => q matches .cj | .pwr | .lpm)
    (fun s t => { s with
      regs := t.regs
      journal := t.journal
      evr := t.evr
      semaphores := t.semaphores
      qlt := t.qlt
      vddRequested := t.vddRequested
      memories := t.memories
      pwrMgr := t.pwrMgr
      timers := t.timers })) ∧
  (∀ (k : Carrier), Frame (.kqErase k) (fun _ => false) (fun s t => { s with qlt := t.qlt })) ∧
  (Frame .rpsOutputInstant (fun q => q matches .rps | .lrx _ | .lfm _ | .cry _ | .cpc _)
    (fun s t => { s with
      regs := t.regs
      evr := t.evr
      cpc := t.cpc
      cipher := t.cipher
      lineRx := t.lineRx
      rps := t.rps
      cast := t.cast })) ∧
  (Frame .rpsPairState (fun q => q matches .rps | .lrx _)
    (fun s t => { s with regs := t.regs, evr := t.evr, lineRx := t.lineRx, rps := t.rps })) ∧
  (Frame .realign (fun q => q matches .rps) (fun s t => { s with regs := t.regs, evr := t.evr, rps := t.rps })) ∧
  (∀ (o : Origin), WriteFrame (.rpsCmdRealign o) (fun q => wrotePage q || (q matches .rps | .qlt))
    (fun s t => { wroteState s t with qlt := t.qlt, rps := t.rps, freeCount := t.freeCount })) ∧
  (∀ (o : Origin) (route : Fin 2), WriteFrame (.rpsCmdManual o route) (fun q => wrotePage q || (q matches .rps | .qlt))
    (fun s t => { wroteState s t with qlt := t.qlt, rps := t.rps, freeCount := t.freeCount })) ∧
  (∀ (o : Origin) (route : Fin 2), WriteFrame (.rpsCmdForced o route) (fun q => wrotePage q || (q matches .rps | .qlt))
    (fun s t => { wroteState s t with qlt := t.qlt, rps := t.rps, freeCount := t.freeCount })) ∧
  (∀ (o : Origin) (route : Fin 2), WriteFrame (.rpsCmdClear o route) (fun q => wrotePage q || (q matches .rps | .qlt))
    (fun s t => { wroteState s t with qlt := t.qlt, rps := t.rps, freeCount := t.freeCount })) ∧
  (Frame .rpsSfHoldoff (fun q => q matches .rps) (fun s t => { s with regs := t.regs, evr := t.evr, rps := t.rps })) ∧
  (Frame .wtrExpiry (fun q => q matches .rps) (fun s t => { s with regs := t.regs, evr := t.evr })) ∧
  (Frame .rpsDramOn (fun q => q matches .rps | .lrx _)
    (fun s t => { s with regs := t.regs, evr := t.evr, lineRx := t.lineRx })) ∧
  (Frame .swRequest (fun q => q matches .rps | .qlt)
    (fun s t => { s with regs := t.regs, qlt := t.qlt, rps := t.rps, freeCount := t.freeCount })) ∧
  (Frame .swRequestDeadline (fun q => q matches .rps) (fun s t => { s with regs := t.regs })) ∧
  (Frame .swToggle (fun q => q matches .rps) (fun s t => { s with regs := t.regs, rps := t.rps, timers := t.timers })) ∧
  (Frame .swSettleExpiry (fun q => q matches .glb | .cj | .lpm | .qlt | .cdc _ | .eqz _ | .trc _ | .cpr _ | .dmp _
    | .fec _ | .lfm _)
    (fun s t => { s with
      regs := t.regs
      journal := t.journal
      evr := t.evr
      pairMatches := t.pairMatches
      framer := t.framer
      fec := t.fec
      carrierRec := t.carrierRec
      demapper := t.demapper
      dispersion := t.dispersion
      equaliser := t.equaliser
      qlt := t.qlt
      cast := t.cast
      memories := t.memories
      timers := t.timers })) ∧
  (∀ (hitUs : Nat), Frame (.swDone hitUs) (fun q => q matches .rps | .qlt)
    (fun s t => { s with regs := t.regs, evr := t.evr, qlt := t.qlt, rps := t.rps })) ∧
  (Frame .swUnilateral (fun q => q matches .rps)
    (fun s t => { s with regs := t.regs, evr := t.evr, rps := t.rps, timers := t.timers })) ∧
  (∀ (o : Origin) (c : Carrier) (en : Bool), WriteFrame (.fesEn o c en) (fun q => wrotePage q || (q matches .aux | .fes))
    (fun s t => { wroteState s t with aux := t.aux, tunedN := t.tunedN, optics := t.optics, freeCount := t.freeCount })) ∧
  (∀ (c : Carrier) (outcome : Fin 3), Frame (.moduleReady c outcome) (fun q => q matches .cj | .aux | .fes | .lpm)
    (fun s t => { s with
      regs := t.regs
      journal := t.journal
      evr := t.evr
      aux := t.aux
      tunedN := t.tunedN
      optics := t.optics
      memories := t.memories
      staged := t.staged
      timers := t.timers })) ∧
  (∀ (o : Origin) (c : Carrier), WriteFrame (.tune o c) (fun q => wrotePage q || (q matches .aux | .fes))
    (fun s t => { wroteState s t with aux := t.aux, tunedN := t.tunedN, optics := t.optics, freeCount := t.freeCount })) ∧
  (∀ (c : Carrier) (outcome : Fin 3), Frame (.wavelengthLock c outcome) (fun q => q matches .fes)
    (fun s t => { s with regs := t.regs, evr := t.evr, optics := t.optics })) ∧
  (∀ (c : Carrier), Frame (.txReadyEntry c) (fun q => q matches .cj | .aux | .fes | .lpm)
    (fun s t => { s with
      regs := t.regs
      journal := t.journal
      evr := t.evr
      aux := t.aux
      optics := t.optics
      memories := t.memories
      staged := t.staged
      timers := t.timers })) ∧
  (∀ (o : Origin) (c : Carrier), WriteFrame (.txReq o c) (fun q => wrotePage q || (q matches .aux | .fes))
    (fun s t => { wroteState s t with aux := t.aux, tunedN := t.tunedN, optics := t.optics, freeCount := t.freeCount })) ∧
  (∀ (c : Carrier), Frame (.txHoldRelease c) (fun q => q matches .fes)
    (fun s t => { s with regs := t.regs, evr := t.evr, optics := t.optics })) ∧
  (∀ (c : Carrier), Frame (.txHoldTimeout c) (fun q => q matches .fes) (fun s t => { s with regs := t.regs, evr := t.evr })) ∧
  (∀ (o : Origin) (c : Carrier), WriteFrame (.txOff o c) (fun q => wrotePage q || (q matches .aux | .fes))
    (fun s t => { wroteState s t with aux := t.aux, tunedN := t.tunedN, optics := t.optics, freeCount := t.freeCount })) ∧
  (∀ (o : Origin) (c : Carrier), WriteFrame (.clrFault o c) (fun q => wrotePage q || (q matches .aux | .fes))
    (fun s t => { wroteState s t with aux := t.aux, tunedN := t.tunedN, optics := t.optics, freeCount := t.freeCount })) ∧
  (∀ (c : Carrier) (code : Nat), Frame (.losReading c code) (fun q => q matches .fes)
    (fun s t => { s with regs := t.regs, evr := t.evr, optics := t.optics })) ∧
  (∀ (c : Carrier) (cause : Nat), Frame (.fesFault c cause) (fun q => q matches .fes)
    (fun s t => { s with regs := t.regs, evr := t.evr, optics := t.optics })) ∧
  (∀ (c : Carrier), Frame (.safetyHoldState c) (fun q => q matches .fes)
    (fun s t => { s with regs := t.regs, evr := t.evr, optics := t.optics })) ∧
  (∀ (c : Carrier), Frame (.foMargin c) (fun q => q matches .fes)
    (fun s t => { s with regs := t.regs, evr := t.evr, optics := t.optics })) ∧
  (∀ (c : Carrier) (y : Bool), Frame (.tiaGainStep c y) (fun q => q matches .cj | .aux | .fes | .lpm)
    (fun s t => { s with
      regs := t.regs
      journal := t.journal
      evr := t.evr
      aux := t.aux
      memories := t.memories
      staged := t.staged
      timers := t.timers })) ∧
  (∀ (o : Origin) (w : Word) (readings : List Int), WriteFrame (.cmisGo o w readings) (fun q => wrotePage q ||
    (q matches .aux | .fes))
    (fun s t => { wroteState s t with aux := t.aux, tunedN := t.tunedN, optics := t.optics, freeCount := t.freeCount })) ∧
  (∀ (c : Carrier) (asserted : Bool) (modState : Nat) (lock : Bool) (settling : Bool) (laserFault : Bool), Frame
    (.cmisFlagPoll c asserted modState lock settling laserFault) (fun q => q matches .fes)
    (fun s t => { s with regs := t.regs, evr := t.evr, optics := t.optics, timers := t.timers })) ∧
  (∀ (n : Fin 3), Frame (.synUnlock n) (fun q => q matches .glb | .fes | .qlt | .lrx _ | .syn _ | .eqz _ | .trc _
    | .cpr _ | .dmp _ | .fec _ | .lfm _)
    (fun s t => { s with
      regs := t.regs
      evr := t.evr
      pairMatches := t.pairMatches
      framer := t.framer
      fec := t.fec
      carrierRec := t.carrierRec
      demapper := t.demapper
      dispersion := t.dispersion
      equaliser := t.equaliser
      optics := t.optics
      qlt := t.qlt
      cast := t.cast })) ∧
  (∀ (n : Fin 3) (locked : Bool) (band : Int × Int), Frame (.synRelock n locked band) (fun q => q matches .cal
    | .lrx _ | .syn _)
    (fun s t => { s with regs := t.regs, evr := t.evr, cal := t.cal, lineRx := t.lineRx, timers := t.timers })) ∧
  (∀ (inputs : TelInputs), WriteFrame (.telTick inputs) (fun q => wrotePage q || (q matches .tel | .lrx _))
    (fun s t => { wroteState s t with lineRx := t.lineRx, keep := t.keep, tel := t.tel, cast := t.cast })) ∧
  (∀ (n : Fin 64), WriteFrame (.telOutput n) (fun q => wrotePage q || (q matches .tel | .lrx _))
    (fun s t => { wroteState s t with lineRx := t.lineRx, keep := t.keep, tel := t.tel, cast := t.cast })) ∧
  (∀ (o : Option Origin), WriteFrame (.telSync o) (fun q => wrotePage q || (q matches .tel | .lrx _))
    (fun s t => { wroteState s t with lineRx := t.lineRx, keep := t.keep, tel := t.tel, cast := t.cast })) ∧
  (∀ (o : Origin) (c : Carrier), WriteFrame (.learn o c) (fun q => wrotePage q || (q matches .tel | .lrx _))
    (fun s t => { wroteState s t with lineRx := t.lineRx, keep := t.keep, tel := t.tel, cast := t.cast })) ∧
  (∀ (c : Carrier), Frame (.learnDone c) (fun q => q matches .tel)
    (fun s t => { s with regs := t.regs, evr := t.evr, tel := t.tel })) ∧
  (∀ (o : Origin) (c : Carrier) (arm : Bool), WriteFrame (.tapArm o c arm) (fun q => wrotePage q || (q matches .tel | .lrx _))
    (fun s t => { wroteState s t with lineRx := t.lineRx, keep := t.keep, tel := t.tel, cast := t.cast })) ∧
  (∀ (o : Origin) (c : Carrier), WriteFrame (.tapAck o c) (fun q => wrotePage q || (q matches .tel | .lrx _))
    (fun s t => { wroteState s t with lineRx := t.lineRx, keep := t.keep, tel := t.tel, cast := t.cast })) ∧
  (∀ (o : Origin) (c : Carrier) (rules : BitVec 5), WriteFrame (.tapRaise o c rules) (fun q => wrotePage q ||
    (q matches .tel | .lrx _))
    (fun s t => { wroteState s t with lineRx := t.lineRx, keep := t.keep, tel := t.tel, cast := t.cast })) ∧
  (Frame .ringDrop (fun q => q matches .cast) (fun s t => { s with regs := t.regs, evr := t.evr, cast := t.cast })) ∧
  (∀ (b : Fin 11), Frame (.castTrigger b) (fun q => q matches .cast | .lrx _)
    (fun s t => { s with
      regs := t.regs
      evr := t.evr
      lineRx := t.lineRx
      keep := t.keep
      cast := t.cast
      timers := t.timers })) ∧
  (∀ (o : Origin), WriteFrame (.castSwTrig o) (fun q => wrotePage q || (q matches .lrx _))
    (fun s t => { wroteState s t with lineRx := t.lineRx, keep := t.keep, cast := t.cast })) ∧
  (Frame .castHeldTrigger (fun q => q matches .cast | .lrx _)
    (fun s t => { s with
      regs := t.regs
      evr := t.evr
      lineRx := t.lineRx
      keep := t.keep
      cast := t.cast
      timers := t.timers })) ∧
  (Frame .castWindowEnd (fun q => q matches .cast) (fun s t => { s with regs := t.regs, cast := t.cast })) ∧
  (Frame .castCommit (fun q => q matches .cast | .arc | .mrm)
    (fun s t => { s with regs := t.regs, evr := t.evr, keep := t.keep, cast := t.cast })) ∧
  (Frame .snapshotEnd (fun q => q matches .lrx _) (fun s t => { s with regs := t.regs }))

/-- What the commands of the client side, the host link, the cores, Tally, the memories and the Archive leave alone, one clause
a command: where exec answers a next state, every register outside the named kinds of pages keeps its word and every part of
the state that is not named stays as it was. A command that writes a register (WriteFrame) may also change what any write
does: the journal, the refusal counts, THIN and the wake from Idle. -/
def Obligations.ClientCoreAndMemoryFrames : Prop :=
  (∀ (c : Carrier) (q : Fin 4), Frame (.idleDelete c q) (fun q => q matches .cpc _) (fun s t => { s with regs := t.regs })) ∧
  (∀ (c : Carrier) (q : Fin 4) (inserted : Nat) (deleted : Nat), Frame (.idleInsert c q inserted deleted)
    (fun q => q matches .cpc _) (fun s t => { s with regs := t.regs })) ∧
  (∀ (c : Carrier) (q : Fin 4) (up : Bool) (hiBer : Bool), Frame (.ingressPortState c q up hiBer) (fun q => q matches .cpc _)
    (fun s t => { s with regs := t.regs, evr := t.evr })) ∧
  (∀ (c : Carrier) (q : Fin 4) (n : Nat), Frame (.egressPortState c q n) (fun q => q matches .cpc _)
    (fun s t => { s with regs := t.regs, cpc := t.cpc, staged := t.staged, timers := t.timers })) ∧
  (∀ (c : Carrier) (q : Fin 4), Frame (.egressFaultHold c q) (fun q => q matches .cpc _)
    (fun s t => { s with regs := t.regs, evr := t.evr, cpc := t.cpc })) ∧
  (∀ (n : Fin 16) (e : ClxEvent), Frame (.clxRxState n e) (fun q => q matches .clx _ | .cpc _)
    (fun s t => { s with regs := t.regs, evr := t.evr, checkers := t.checkers, timers := t.timers })) ∧
  (∀ (n : Fin 16), Frame (.clxRxTimeout n) (fun q => q matches .clx _ | .cpc _)
    (fun s t => { s with regs := t.regs, evr := t.evr, checkers := t.checkers, timers := t.timers })) ∧
  (∀ (n : Fin 16), Frame (.eiExit n) (fun q => q matches .pwr | .clx _)
    (fun s t => { s with
      regs := t.regs
      evr := t.evr
      semaphores := t.semaphores
      vddRequested := t.vddRequested
      pwrMgr := t.pwrMgr
      timers := t.timers })) ∧
  (∀ (n : Fin 16) (bit : Bool), Frame (.chkBitCompare n bit) (fun q => q matches .clx _ | .cpc _)
    (fun s t => { s with regs := t.regs, evr := t.evr, checkers := t.checkers, staged := t.staged, timers := t.timers })) ∧
  (∀ (o : Origin) (n : Fin 16) (w : Word), WriteFrame (.clxInjectSingle o n w) (fun q => wrotePage q ||
    (q matches .clx _ | .cpc _)) (fun s t => { wroteState s t with checkers := t.checkers })) ∧
  (∀ (n : Fin 16), Frame (.clxInjectPeriodic n) (fun q => q matches .clx _ | .cpc _)
    (fun s t => { s with regs := t.regs, evr := t.evr, checkers := t.checkers, staged := t.staged, timers := t.timers })) ∧
  (∀ (o : Origin) (lane : Option (Fin 16)) (w : Word), WriteFrame (.eyeStart o lane w) (fun q => wrotePage q ||
    (q matches .clx _ | .cpc _)) (fun s t => { wroteState s t with checkers := t.checkers })) ∧
  (∀ (lane : EyeLane) (mismatches : Nat), Frame (.eyeDone lane mismatches) (fun q => q matches .clx _ | .hlk)
    (fun s t => { s with regs := t.regs, evr := t.evr })) ∧
  (∀ (lane : EyeLane), Frame (.eyeAbandon lane) (fun q => q matches .clx _ | .hlk) (fun s t => { s with regs := t.regs })) ∧
  (Frame .perstRelease (fun _ => false) (fun s t => { s with hostLink := t.hostLink })) ∧
  (∀ (o : Origin), WriteFrame (.retrain o) wrotePage wroteState) ∧
  (∀ (rate : Fin 5) (width : Fin 4), Frame (.linkRecovery rate width) (fun q => q matches .hlk)
    (fun s t => { s with regs := t.regs, evr := t.evr })) ∧
  (Frame .creditStall (fun q => q matches .hlk) (fun s t => { s with regs := t.regs, evr := t.evr })) ∧
  (∀ (off : Nat), Frame (.cxlMemRead off) (fun q => q matches .lpm | .ecc | .hlk)
    (fun s t => { s with regs := t.regs, answer := t.answer, evr := t.evr, mbox := t.mbox, memories := t.memories })) ∧
  (∀ (off : Nat) (bytes : List Byte), Frame (.cxlMemWrite off bytes) (fun q => q matches .lpm | .hlk)
    (fun s t => { s with regs := t.regs, evr := t.evr, hostLink := t.hostLink, memories := t.memories })) ∧
  (∀ (log : Fin 4), Frame (.getEventRecords log) (fun _ => false) (fun s t => { s with mbox := t.mbox })) ∧
  (∀ (log : Fin 4) (all : Bool) (handles : List Nat), Frame (.clearEventRecords log all handles) (fun _ => false)
    (fun s t => { s with mbox := t.mbox })) ∧
  (Frame .getEventInterruptPolicy (fun _ => false) (fun s t => { s with mbox := t.mbox })) ∧
  (∀ (info : Nat) (warning : Nat) (failure : Nat) (fatal : Nat), Frame
    (.setEventInterruptPolicy info warning failure fatal) (fun _ => false) (fun s t => { s with mbox := t.mbox })) ∧
  (Frame .getFwInfo (fun _ => false) (fun s t => { s with mbox := t.mbox })) ∧
  (∀ (slot : Fin 2) (offset : Nat) (data : List Byte) (last : Bool), Frame (.transferFw slot offset data last)
    (fun q => q matches .mrm)
    (fun s t => { s with regs := t.regs, keep := t.keep, archive := t.archive, mbox := t.mbox, firmware := t.firmware })) ∧
  (∀ (slot : Fin 2) (online : Bool), Frame (.activateFw slot online) (fun q => q matches .mrm | .pln)
    (fun s t => { s with
      regs := t.regs
      plinth := t.plinth
      keep := t.keep
      mbox := t.mbox
      firmware := t.firmware
      timers := t.timers })) ∧
  (Frame .getTimestamp (fun _ => false) (fun s t => { s with mbox := t.mbox })) ∧
  (Frame .getSupportedLogs (fun _ => false) (fun s t => { s with mbox := t.mbox })) ∧
  (∀ (effects : Bool), Frame (.getLog effects) (fun _ => false) (fun s t => { s with mbox := t.mbox })) ∧
  (Frame .identifyMemoryDevice (fun _ => false) (fun s t => { s with mbox := t.mbox })) ∧
  (Frame .getHealthInfo (fun _ => false) (fun s t => { s with mbox := t.mbox })) ∧
  (∀ (capsule : List Byte), Frame (.submitCapsuleCmd capsule) (fun _ => false)
    (fun s t => { s with plinth := t.plinth, mbox := t.mbox })) ∧
  (∀ (input : List Byte), Frame (.getCapsuleResult input) (fun _ => false) (fun s t => { s with mbox := t.mbox })) ∧
  (∀ (input : List Byte), Frame (.getAttestationReport input) (fun _ => false) (fun s t => { s with mbox := t.mbox })) ∧
  (∀ (input : List Byte), Frame (.getJournalSignature input) (fun _ => false) (fun s t => { s with mbox := t.mbox })) ∧
  (∀ (object : ArchiveObject), Frame (.readArchiveObject object) (fun q => q matches .lpm)
    (fun s t => { s with regs := t.regs, mbox := t.mbox, memories := t.memories })) ∧
  (∀ (input : List Byte), Frame (.getDeviceCertificate input) (fun _ => false) (fun s t => { s with mbox := t.mbox })) ∧
  (Frame .unsupportedOpcode (fun _ => false) (fun s t => { s with mbox := t.mbox })) ∧
  (Frame .mboxBackgroundDone (fun q => q matches .pwr | .qlt | .cry _ | .hlk)
    (fun s t => { s with
      regs := t.regs
      evr := t.evr
      semaphores := t.semaphores
      cipher := t.cipher
      qlt := t.qlt
      plinth := t.plinth
      vddRequested := t.vddRequested
      mbox := t.mbox
      pwrMgr := t.pwrMgr
      firmware := t.firmware
      freeCount := t.freeCount
      timers := t.timers })) ∧
  (∀ (io : Bool) (mem : Bool), Frame (.ideKeyChange io mem) (fun q => q matches .hlk)
    (fun s t => { s with regs := t.regs, evr := t.evr })) ∧
  (Frame .perstNAssert (fun q => q matches .hlk) (fun s t => { s with regs := t.regs, evr := t.evr, hostLink := t.hostLink })) ∧
  (∀ (rate : Fin 5) (width : Fin 4) (mem : Bool), Frame (.hostLinkUp rate width mem) (fun q => q matches .hlk)
    (fun s t => { s with regs := t.regs, evr := t.evr, hostLink := t.hostLink })) ∧
  (∀ (lane : Fin 8) (begins : Bool), Frame (.laneMarginingCommand lane begins) (fun _ => false)
    (fun s t => { s with hostLink := t.hostLink })) ∧
  (∀ (vector : Option (Fin 64)), Frame (.msixUnmask vector) (fun _ => false) (fun s t => { s with msix := t.msix })) ∧
  (∀ (n : Fin 8), Frame (.interruptEntry n) (fun q => q matches .rk _)
    (fun s t => { s with regs := t.regs, tickEvents := t.tickEvents, cores := t.cores })) ∧
  (∀ (n : Fin 8) (cause : Fin 11) (eaddr : Option Nat) (code : BitVec 8), Frame (.trapEntry n cause eaddr code)
    (fun q => q matches .rk _)
    (fun s t => { s with regs := t.regs, evr := t.evr, tickEvents := t.tickEvents, cores := t.cores })) ∧
  (∀ (n : Fin 8), Frame (.waitWake n) (fun _ => false) (fun s t => { s with cores := t.cores })) ∧
  (∀ (n : Fin 8) (ch : Fin 2), Frame (.dmaDescriptor n ch) (fun q => q matches .lpm | .rk _)
    (fun s t => { s with
      regs := t.regs
      evr := t.evr
      tickEvents := t.tickEvents
      dsram := t.dsram
      memories := t.memories
      cores := t.cores })) ∧
  (∀ (n : Fin 8) (ch : Fin 2) (tail : Nat), Frame (.dmaTailWrite n ch tail) (fun _ => false)
    (fun s t => { s with cores := t.cores })) ∧
  (∀ (n : Fin 8) (ch : Fin 2), Frame (.dmaResume n ch) (fun _ => false) (fun s t => { s with cores := t.cores })) ∧
  (∀ (o : Origin) (n : Fin 8) (fromHdm : Bool), WriteFrame (.load o n fromHdm) (fun q => wrotePage q || (q matches .rk _))
    (fun s t => { wroteState s t with dsram := t.dsram, isram := t.isram, images := t.images })) ∧
  (∀ (n : Fin 8), Frame (.loadVerifyDone n) (fun q => q matches .rk _)
    (fun s t => { s with
      regs := t.regs
      evr := t.evr
      dsram := t.dsram
      plinth := t.plinth
      isram := t.isram
      images := t.images })) ∧
  (∀ (o : Origin) (n : Fin 8) (off : Fin 2097152) (w : Word), WriteFrame (.debugWindowWrite o n off w)
    (fun q => wrotePage q || (q matches .rk _)) (fun s t => { wroteState s t with dsram := t.dsram, isram := t.isram })) ∧
  (∀ (o : Origin) (n : Fin 8) (off : Fin 2097152), Frame (.debugWindowRead o n off) (fun q => q matches .cj | .pwr
    | .bst | .lpm | .ltx _ | .eqz _ | .rk _ | .tly _)
    (fun s t => { s with
      regs := t.regs
      latches := t.latches
      answer := t.answer
      journal := t.journal
      evr := t.evr
      semaphores := t.semaphores
      plinth := t.plinth
      tel := t.tel
      vddRequested := t.vddRequested
      memories := t.memories
      samples := t.samples
      pwrMgr := t.pwrMgr
      timers := t.timers })) ∧
  (∀ (inputs : TallyInputs), Frame (.tallyTick inputs) (fun q => q matches .tly _ | .arm)
    (fun s t => { s with regs := t.regs, evr := t.evr, tickEvents := t.tickEvents, samples := t.samples })) ∧
  (∀ (o : Origin) (n : Fin 8) (mask : BitVec 16), WriteFrame (.tallyClr o n mask) (fun q => wrotePage q ||
    (q matches .tly _ | .arm)) (fun s t => { wroteState s t with samples := t.samples })) ∧
  (∀ (o : Origin) (n : Fin 8) (mask : BitVec 16), WriteFrame (.tallyEn o n mask) (fun q => wrotePage q ||
    (q matches .tly _ | .arm)) (fun s t => { wroteState s t with samples := t.samples })) ∧
  (∀ (o : Origin) (n : Fin 8), WriteFrame (.sampleClr o n) (fun q => wrotePage q || (q matches .tly _ | .arm))
    (fun s t => { wroteState s t with samples := t.samples })) ∧
  (∀ (o : Origin) (n : Fin 8), Frame (.sampleD0Read o n) (fun q => q matches .cj | .pwr | .bst | .lpm | .ltx _
    | .eqz _ | .rk _ | .tly _)
    (fun s t => { s with
      regs := t.regs
      latches := t.latches
      answer := t.answer
      journal := t.journal
      evr := t.evr
      semaphores := t.semaphores
      plinth := t.plinth
      tel := t.tel
      vddRequested := t.vddRequested
      memories := t.memories
      samples := t.samples
      pwrMgr := t.pwrMgr
      timers := t.timers })) ∧
  (∀ (o : Origin) (n : Fin 8), Frame (.sampleD3Read o n) (fun q => q matches .cj | .pwr | .bst | .lpm | .ltx _
    | .eqz _ | .rk _ | .tly _)
    (fun s t => { s with
      regs := t.regs
      latches := t.latches
      answer := t.answer
      journal := t.journal
      evr := t.evr
      semaphores := t.semaphores
      plinth := t.plinth
      tel := t.tel
      vddRequested := t.vddRequested
      memories := t.memories
      samples := t.samples
      pwrMgr := t.pwrMgr
      timers := t.timers })) ∧
  (∀ (o : Origin) (hi : Bool) (mask : Word), WriteFrame (.fabricClr o hi mask) (fun q => wrotePage q ||
    (q matches .tly _ | .arm)) wroteState) ∧
  (∀ (lines : Bool), Frame (.scrubAccess lines) (fun _ => false)
    (fun s t => { s with memories := t.memories, timers := t.timers })) ∧
  (∀ (lines : Bool), Frame (.scrubLapEnd lines) (fun q => q matches .lpm | .ecc)
    (fun s t => { s with regs := t.regs, memories := t.memories })) ∧
  (∀ (lines : Bool), Frame (.lapSlow lines) (fun q => q matches .lpm | .ecc)
    (fun s t => { s with regs := t.regs, evr := t.evr, memories := t.memories })) ∧
  (∀ (e : CorrectedError), Frame (.eccCorrection e) (fun q => q matches .lpm | .ecc | .mrm)
    (fun s t => { s with
      regs := t.regs
      evr := t.evr
      tickEvents := t.tickEvents
      keep := t.keep
      mbox := t.mbox
      memories := t.memories })) ∧
  (∀ (lines : Bool), Frame (.correctionWriteback lines) (fun _ => false) (fun s t => { s with memories := t.memories })) ∧
  (∀ (line : Nat), Frame (.rowRemapCopyDone line) (fun q => q matches .lpm | .ecc | .mrm)
    (fun s t => { s with regs := t.regs, evr := t.evr, keep := t.keep, memories := t.memories })) ∧
  (∀ (a : Nat) (bytes : List Byte), Frame (.granuleFirstWrite a bytes) (fun q => q matches .lpm)
    (fun s t => { s with regs := t.regs, memories := t.memories })) ∧
  (∀ (g : Nat), Frame (.granuleFillDone g) (fun _ => false) (fun s t => { s with memories := t.memories })) ∧
  (∀ (a : Nat), Frame (.uninitialisedRead a) (fun q => q matches .lpm)
    (fun s t => { s with regs := t.regs, answer := t.answer, memories := t.memories })) ∧
  (∀ (target : Fin 32) (retried : Bool), WriteFrame (.flashOpTimeout target retried) wrotePage wroteState) ∧
  (∀ (target : Fin 32) (b : Nat) (levels : Fin 9) (ok : Bool), WriteFrame (.flashReadDecode target b levels ok) wrotePage
    (fun s t => { wroteState s t with keep := t.keep })) ∧
  (WriteFrame .archiveFormat wrotePage wroteState) ∧
  (WriteFrame .formatDone (fun q => wrotePage q || (q matches .mrm))
    (fun s t => { wroteState s t with plinth := t.plinth, keep := t.keep, tel := t.tel, cast := t.cast })) ∧
  (∀ (b : Nat) (retired : Bool), WriteFrame (.grownBad b retired) wrotePage
    (fun s t => { wroteState s t with keep := t.keep })) ∧
  (∀ (region : Fin 10) (onto : Nat), WriteFrame (.wearLevelMove region onto) wrotePage
    (fun s t => { wroteState s t with keep := t.keep })) ∧
  (∀ (b : Nat) (corrections : Nat), WriteFrame (.flashRefresh b corrections) wrotePage
    (fun s t => { wroteState s t with keep := t.keep })) ∧
  (∀ (b : Nat), WriteFrame (.readDisturbRelocate b) wrotePage (fun s t => { wroteState s t with keep := t.keep })) ∧
  (∀ (waf : Option Nat), WriteFrame (.ringBudgetEval waf) wrotePage wroteState) ∧
  (∀ (area : Fin 6) (done : Fin 4), Frame (.mramCommit area done) (fun q => q matches .mrm)
    (fun s t => { s with regs := t.regs, keep := t.keep }))

/-- What the commands of the Plinth, the sensors, power, time, self-test and firmware leave alone, one clause a command: where
exec answers a next state, every register outside the named kinds of pages keeps its word and every part of the state that
is not named stays as it was. A command that writes a register (WriteFrame) may also change what any write does: the
journal, the refusal counts, THIN and the wake from Idle. -/
def Obligations.PlinthAndDeviceFrames : Prop :=
  (Frame .submitCapsule (fun q => q matches .hlk | .pln)
    (fun s t => { s with regs := t.regs, evr := t.evr, plinth := t.plinth, mbox := t.mbox })) ∧
  (Frame .installOfficer (fun q => q matches .hlk | .pln)
    (fun s t => { s with regs := t.regs, evr := t.evr, plinth := t.plinth, mbox := t.mbox })) ∧
  (Frame .removeOfficer (fun q => q matches .hlk | .pln)
    (fun s t => { s with regs := t.regs, evr := t.evr, plinth := t.plinth, mbox := t.mbox })) ∧
  (Frame .loadPsk (fun q => q matches .hlk | .pln)
    (fun s t => { s with regs := t.regs, evr := t.evr, plinth := t.plinth, mbox := t.mbox })) ∧
  (Frame .clearPsk (fun q => q matches .hlk | .pln)
    (fun s t => { s with regs := t.regs, evr := t.evr, plinth := t.plinth, mbox := t.mbox })) ∧
  (Frame .setTrust (fun q => q matches .hlk | .pln)
    (fun s t => { s with regs := t.regs, evr := t.evr, plinth := t.plinth, mbox := t.mbox })) ∧
  (Frame .setAllow (fun q => q matches .hlk | .pln)
    (fun s t => { s with regs := t.regs, evr := t.evr, plinth := t.plinth, mbox := t.mbox })) ∧
  (Frame .setCodeKey (fun q => q matches .hlk | .rk _ | .pln)
    (fun s t => { s with regs := t.regs, evr := t.evr, plinth := t.plinth, mbox := t.mbox })) ∧
  (Frame .setSvnMin (fun q => q matches .hlk | .pln)
    (fun s t => { s with regs := t.regs, evr := t.evr, plinth := t.plinth, mbox := t.mbox })) ∧
  (Frame .testPort (fun q => q matches .fes | .qlt | .cry _ | .hlk | .pln)
    (fun s t => { s with
      regs := t.regs
      evr := t.evr
      fec := t.fec
      cipher := t.cipher
      optics := t.optics
      qlt := t.qlt
      plinth := t.plinth
      mbox := t.mbox })) ∧
  (Frame .zeroise (fun q => q matches .qlt | .cry _ | .hlk | .pln)
    (fun s t => { s with
      regs := t.regs
      evr := t.evr
      fec := t.fec
      cipher := t.cipher
      qlt := t.qlt
      plinth := t.plinth
      mbox := t.mbox })) ∧
  (Frame .release (fun q => q matches .fes | .cry _ | .hlk | .pln)
    (fun s t => { s with
      regs := t.regs
      evr := t.evr
      fec := t.fec
      cipher := t.cipher
      optics := t.optics
      plinth := t.plinth
      mbox := t.mbox })) ∧
  (Frame .getResult (fun q => q matches .hlk | .pln)
    (fun s t => { s with regs := t.regs, evr := t.evr, plinth := t.plinth, mbox := t.mbox })) ∧
  (Frame .getAttest (fun q => q matches .hlk | .pln)
    (fun s t => { s with regs := t.regs, evr := t.evr, plinth := t.plinth, mbox := t.mbox })) ∧
  (Frame .getJournalSig (fun q => q matches .hlk | .pln)
    (fun s t => { s with regs := t.regs, evr := t.evr, plinth := t.plinth, mbox := t.mbox })) ∧
  (Frame .getCert (fun q => q matches .hlk | .pln)
    (fun s t => { s with regs := t.regs, evr := t.evr, plinth := t.plinth, mbox := t.mbox })) ∧
  (Frame .alsRestart (fun q => q matches .fes | .cry _ | .hlk | .pln)
    (fun s t => { s with
      regs := t.regs
      evr := t.evr
      fec := t.fec
      cipher := t.cipher
      optics := t.optics
      plinth := t.plinth
      mbox := t.mbox
      timers := t.timers })) ∧
  (Frame .unknownMbxReq (fun q => q matches .hlk | .pln)
    (fun s t => { s with regs := t.regs, evr := t.evr, plinth := t.plinth, mbox := t.mbox })) ∧
  (∀ (o : Origin) (w : Word), WriteFrame (.mbxIn o w) (fun q => wrotePage q || (q matches .fes | .qlt | .cry _ | .pln))
    (fun s t => { wroteState s t with
      fec := t.fec
      cipher := t.cipher
      optics := t.optics
      qlt := t.qlt
      plinth := t.plinth
      mbox := t.mbox })) ∧
  (∀ (o : Origin), Frame (.mbxOutRead o) (fun q => q matches .cj | .pwr | .bst | .lpm | .ltx _ | .eqz _ | .rk _ | .tly _)
    (fun s t => { s with
      regs := t.regs
      latches := t.latches
      answer := t.answer
      journal := t.journal
      evr := t.evr
      semaphores := t.semaphores
      plinth := t.plinth
      tel := t.tel
      vddRequested := t.vddRequested
      memories := t.memories
      samples := t.samples
      pwrMgr := t.pwrMgr
      timers := t.timers })) ∧
  (∀ (c : Carrier) (tap : Bool), Frame (.alarmAction c tap) (fun q => q matches .fes | .cast | .qlt | .lrx _ | .cry _ | .pln)
    (fun s t => { s with
      regs := t.regs
      evr := t.evr
      fec := t.fec
      cipher := t.cipher
      lineRx := t.lineRx
      optics := t.optics
      qlt := t.qlt
      plinth := t.plinth
      keep := t.keep
      cast := t.cast
      timers := t.timers })) ∧
  (∀ (c : Carrier), Frame (.alsShutdown c) (fun q => q matches .fes | .cry _ | .pln)
    (fun s t => { s with
      regs := t.regs
      evr := t.evr
      fec := t.fec
      cipher := t.cipher
      optics := t.optics
      plinth := t.plinth
      timers := t.timers })) ∧
  (∀ (c : Carrier), Frame (.alsPulseStart c) (fun q => q matches .fes | .cry _ | .pln)
    (fun s t => { s with
      regs := t.regs
      evr := t.evr
      fec := t.fec
      cipher := t.cipher
      optics := t.optics
      plinth := t.plinth
      timers := t.timers })) ∧
  (∀ (c : Carrier), Frame (.alsPulseEnd c) (fun q => q matches .fes | .cry _ | .pln)
    (fun s t => { s with
      regs := t.regs
      evr := t.evr
      fec := t.fec
      cipher := t.cipher
      optics := t.optics
      plinth := t.plinth })) ∧
  (∀ (c : Carrier), Frame (.alsRecovery c) (fun q => q matches .fes | .cry _ | .pln)
    (fun s t => { s with
      regs := t.regs
      evr := t.evr
      fec := t.fec
      cipher := t.cipher
      optics := t.optics
      plinth := t.plinth })) ∧
  (∀ (i : Fin 4), Frame (.tamperInput i) (fun q => q matches .pwr | .fes | .qlt | .cry _ | .hlk | .pln)
    (fun s t => { s with
      regs := t.regs
      evr := t.evr
      semaphores := t.semaphores
      fec := t.fec
      cipher := t.cipher
      optics := t.optics
      qlt := t.qlt
      plinth := t.plinth
      vddRequested := t.vddRequested
      mbox := t.mbox
      pwrMgr := t.pwrMgr
      timers := t.timers })) ∧
  (Frame .zeroisePin (fun q => q matches .qlt | .cry _ | .pln)
    (fun s t => { s with regs := t.regs, evr := t.evr, fec := t.fec, cipher := t.cipher, qlt := t.qlt, plinth := t.plinth })) ∧
  (Frame .testPortExpiry (fun q => q matches .pln) (fun s t => { s with regs := t.regs, evr := t.evr })) ∧
  (Frame .rk0HeartbeatCheck (fun q => q matches .hlk | .pln)
    (fun s t => { s with regs := t.regs, evr := t.evr, plinth := t.plinth, mbox := t.mbox, timers := t.timers })) ∧
  (Frame .rk0RecoveryEnd (fun q => q matches .pln)
    (fun s t => { s with regs := t.regs, plinth := t.plinth, timers := t.timers })) ∧
  (Frame .lockstepFail (fun q => q matches .qlt | .cry _ | .pln)
    (fun s t => { s with
      regs := t.regs
      evr := t.evr
      fec := t.fec
      cipher := t.cipher
      optics := t.optics
      qlt := t.qlt
      plinth := t.plinth })) ∧
  (Frame .zeroiseNRelease (fun _ => false) (fun s t => { s with plinth := t.plinth })) ∧
  (∀ (i : Fin 4), Frame (.tamperInputClear i) (fun q => q matches .pln)
    (fun s t => { s with regs := t.regs, plinth := t.plinth })) ∧
  (∀ (n : Fin 2) (src : Fin 3) (refs : Int × Int) (temps : Int × Int), Frame (.hkSequence n src refs temps)
    (fun q => q matches .hk _)
    (fun s t => { s with regs := t.regs, evr := t.evr, hk := t.hk, staged := t.staged, timers := t.timers })) ∧
  (∀ (o : Origin) (n : Fin 2) (readings : List Int), WriteFrame (.hkStart o n readings) (fun q => wrotePage q ||
    (q matches .hk _)) (fun s t => { wroteState s t with hk := t.hk, freeCount := t.freeCount })) ∧
  (∀ (n : Fin 2) (codes : List (List Int)) (refs : Int × Int) (temps : Int × Int), Frame
    (.hkSequenceDone n codes refs temps) (fun q => q matches .hk _)
    (fun s t => { s with regs := t.regs, evr := t.evr, hk := t.hk, timers := t.timers })) ∧
  (∀ (o : Origin) (n : Fin 2) (input : BitVec 5) (readings : List Int), WriteFrame (.urgGo o n input readings)
    (fun q => wrotePage q || (q matches .hk _)) (fun s t => { wroteState s t with freeCount := t.freeCount })) ∧
  (∀ (n : Fin 2) (ends : Bool) (offset : List (Int × Int)) (gain : List (Int × Int)) (refs : Int × Int)
    (temps : Int × Int), Frame (.hkCalibration n ends offset gain refs temps) (fun q => q matches .cal | .hk _)
    (fun s t => { s with regs := t.regs, evr := t.evr, hk := t.hk, cal := t.cal, timers := t.timers })) ∧
  (∀ (n : Fin 16), Frame (.auxStep n) (fun q => q matches .aux)
    (fun s t => { s with regs := t.regs, evr := t.evr, aux := t.aux, staged := t.staged, timers := t.timers })) ∧
  (∀ (n : Fin 16), Frame (.auxRangeChange n) (fun q => q matches .aux)
    (fun s t => { s with regs := t.regs, aux := t.aux, timers := t.timers })) ∧
  (∀ (n : Fin 16), Frame (.rangeDone n) (fun q => q matches .aux) (fun s t => { s with regs := t.regs, evr := t.evr })) ∧
  (∀ (low : Bool), Frame (.auxclrPin low) (fun q => q matches .aux) (fun s t => { s with regs := t.regs, evr := t.evr })) ∧
  (∀ (n : Fin 16) (ms : List (Int × Int)), Frame (.auxLadderCal n ms) (fun q => q matches .cal | .aux)
    (fun s t => { s with regs := t.regs, evr := t.evr, aux := t.aux, cal := t.cal })) ∧
  (∀ (item : Nat) (unit : Nat) (sub : Nat) (m1 : Int) (m2 : Int), Frame (.calMeasurement item unit sub m1 m2)
    (fun q => q matches .cal) (fun s t => { s with regs := t.regs, evr := t.evr, cal := t.cal })) ∧
  (Frame .calStore (fun q => q matches .cal | .mrm)
    (fun s t => { s with regs := t.regs, evr := t.evr, cal := t.cal, plinth := t.plinth, keep := t.keep })) ∧
  (∀ (o : Origin), WriteFrame (.storeNow o) (fun q => wrotePage q || (q matches .cal | .mrm))
    (fun s t => { wroteState s t with cal := t.cal, plinth := t.plinth, keep := t.keep })) ∧
  (∀ (o : Origin) (state : BitVec 3), WriteFrame (.pwrReq o state) (fun q => wrotePage q || (q matches .arm)) wroteState) ∧
  (∀ (counts : Nat), Frame (.pwrExit counts) (fun _ => true)
    (fun s t => { s with
      regs := t.regs
      journal := t.journal
      evr := t.evr
      semaphores := t.semaphores
      nowNs := t.nowNs
      elapsedNs := t.elapsedNs
      framer := t.framer
      fec := t.fec
      cpc := t.cpc
      cipher := t.cipher
      txDsp := t.txDsp
      txLane := t.txLane
      lineRx := t.lineRx
      carrierRec := t.carrierRec
      demapper := t.demapper
      equaliser := t.equaliser
      qlt := t.qlt
      plinth := t.plinth
      tel := t.tel
      memories := t.memories
      cores := t.cores
      pwrMgr := t.pwrMgr
      timeBase := t.timeBase
      staged := t.staged
      timers := t.timers })) ∧
  (Frame .pwrTransitionEnd (fun q => q matches .pwr | .clx _ | .cpc _ | .hlk)
    (fun s t => { s with
      regs := t.regs
      evr := t.evr
      semaphores := t.semaphores
      vddRequested := t.vddRequested
      checkers := t.checkers
      pwrMgr := t.pwrMgr
      timers := t.timers })) ∧
  (∀ (source : Fin 7), Frame (.wakeSource source) (fun q => q matches .pwr)
    (fun s t => { s with
      regs := t.regs
      evr := t.evr
      semaphores := t.semaphores
      vddRequested := t.vddRequested
      pwrMgr := t.pwrMgr
      timers := t.timers })) ∧
  (Frame .wakeInPin (fun q => q matches .pwr)
    (fun s t => { s with
      regs := t.regs
      evr := t.evr
      semaphores := t.semaphores
      vddRequested := t.vddRequested
      pwrMgr := t.pwrMgr
      timers := t.timers })) ∧
  (Frame .avsAck (fun q => q matches .pwr)
    (fun s t => { s with regs := t.regs, vddRequested := t.vddRequested, pwrMgr := t.pwrMgr, timers := t.timers })) ∧
  (Frame .avsRetry (fun q => q matches .pwr)
    (fun s t => { s with
      regs := t.regs
      evr := t.evr
      vddRequested := t.vddRequested
      pwrMgr := t.pwrMgr
      timers := t.timers })) ∧
  (∀ (within : Bool), Frame (.regFaultPoll within) (fun q => q matches .pwr)
    (fun s t => { s with regs := t.regs, vddRequested := t.vddRequested, pwrMgr := t.pwrMgr, timers := t.timers })) ∧
  (Frame .governorEval (fun q => q matches .pwr | .tly _ | .arm)
    (fun s t => { s with regs := t.regs, vddRequested := t.vddRequested, pwrMgr := t.pwrMgr, timers := t.timers })) ∧
  (Frame .lrefLoss (fun q => q matches .glb | .tb | .fes | .qlt | .lrx _ | .syn _ | .eqz _ | .trc _ | .cpr _ | .dmp _
    | .fec _ | .lfm _)
    (fun s t => { s with
      regs := t.regs
      evr := t.evr
      pairMatches := t.pairMatches
      framer := t.framer
      fec := t.fec
      carrierRec := t.carrierRec
      demapper := t.demapper
      dispersion := t.dispersion
      equaliser := t.equaliser
      optics := t.optics
      qlt := t.qlt
      cast := t.cast })) ∧
  (Frame .lrefReturn (fun q => q matches .tb) (fun s t => { s with regs := t.regs })) ∧
  (∀ (trim : Int), Frame (.aonOscTrim trim) (fun _ => false) (fun s t => { s with pwrMgr := t.pwrMgr, timers := t.timers })) ∧
  (∀ (o : Origin), WriteFrame (.tbSet o) (fun q => wrotePage q || (q matches .tb))
    (fun s t => { wroteState s t with nowNs := t.nowNs, timeBase := t.timeBase })) ∧
  (Frame .tbAlarm (fun q => q matches .pwr | .tb)
    (fun s t => { s with
      regs := t.regs
      evr := t.evr
      semaphores := t.semaphores
      vddRequested := t.vddRequested
      pwrMgr := t.pwrMgr
      timeBase := t.timeBase
      timers := t.timers })) ∧
  (Frame .ppsEdge (fun q => q matches .tb)
    (fun s t => { s with
      regs := t.regs
      evr := t.evr
      nowNs := t.nowNs
      timeBase := t.timeBase
      freeCount := t.freeCount
      timers := t.timers })) ∧
  (Frame .ppsLost (fun q => q matches .tb) (fun s t => { s with regs := t.regs, evr := t.evr, timeBase := t.timeBase })) ∧
  (∀ (o : Origin) (sec : Word), WriteFrame (.ppsNextWrite o sec) (fun q => wrotePage q || (q matches .tb))
    (fun s t => { wroteState s t with nowNs := t.nowNs, timeBase := t.timeBase })) ∧
  (Frame .ppsOutPulse (fun _ => false) (fun s t => { s with timeBase := t.timeBase })) ∧
  (∀ (o : Origin) (b : BitVec 6), WriteFrame (.odGo o b) (fun q => wrotePage q || (q matches .cry _ | .pln))
    (fun s t => { wroteState s t with fec := t.fec, cipher := t.cipher, plinth := t.plinth, selfTest := t.selfTest })) ∧
  (∀ (o : Origin) (p : Page) (off : BitVec 10), Frame (.odDeniedRead o p off) (fun q => q matches .cj | .pwr | .bst
    | .lpm | .ltx _ | .eqz _ | .rk _ | .tly _)
    (fun s t => { s with
      regs := t.regs
      latches := t.latches
      answer := t.answer
      journal := t.journal
      evr := t.evr
      semaphores := t.semaphores
      plinth := t.plinth
      tel := t.tel
      vddRequested := t.vddRequested
      memories := t.memories
      samples := t.samples
      pwrMgr := t.pwrMgr
      timers := t.timers })) ∧
  (Frame .trialSuccess (fun q => q matches .mrm)
    (fun s t => { s with regs := t.regs, keep := t.keep, firmware := t.firmware })) ∧
  (Frame .onlineActivationCommit (fun q => q matches .mrm)
    (fun s t => { s with regs := t.regs, keep := t.keep, firmware := t.firmware })) ∧
  (Frame .inServiceSecondsUpdate (fun _ => false) (fun s t => { s with keep := t.keep, timers := t.timers })) ∧
  (Frame .onlineActivationBusy (fun q => q matches .pwr | .qlt | .cry _ | .hlk)
    (fun s t => { s with
      regs := t.regs
      evr := t.evr
      semaphores := t.semaphores
      cipher := t.cipher
      qlt := t.qlt
      plinth := t.plinth
      vddRequested := t.vddRequested
      mbox := t.mbox
      pwrMgr := t.pwrMgr
      firmware := t.firmware
      freeCount := t.freeCount
      timers := t.timers }))
end

