-- ==== Sys2Proof/Laws/Registers.lean ====
section
/-! SUPPORT. Laws/Registers.lean: the laws of the sparse maps and of the register file: read after write, and the canonical
form kept. -/
namespace Sys2Proof.Machine

set_option Elab.async false

open Sys2Proof (Word Page)

section sparse

variable {α : Type}

theorem find_sparseInsert_same (k : Nat) (v : α) (m : Sparse α) (h : ∀ e ∈ m, e.1 ≠ k) :
    (sparseInsert k v m).find? (fun e => e.1 == k) = some (k, v) := by
  induction m with
  | nil => simp [sparseInsert]
  | cons e m ih =>
    simp only [sparseInsert]
    split
    · simp
    · have he : (e.1 == k) = false := by simpa using h e (by simp)
      simp only [List.find?_cons, he]
      exact ih fun x hx => h x (by simp [hx])

theorem find_sparseInsert_other (k j : Nat) (v : α) (m : Sparse α) (h : k ≠ j) :
    (sparseInsert k v m).find? (fun e => e.1 == j) = m.find? (fun e => e.1 == j) := by
  have hk : (k == j) = false := by simpa using h
  induction m with
  | nil => simp [sparseInsert, h]
  | cons e m ih =>
    simp only [sparseInsert]
    split
    · simp [List.find?_cons, hk]
    · simp only [List.find?_cons, ih]

theorem find_filter_other (k j : Nat) (m : Sparse α) (h : k ≠ j) :
    (m.filter (fun e => !(e.1 == k))).find? (fun e => e.1 == j) = m.find? (fun e => e.1 == j) := by
  induction m with
  | nil => rfl
  | cons e m ih =>
    by_cases he : e.1 = k
    · have : (e.1 == j) = false := by simp [he, h]
      simp [List.filter_cons, he, List.find?_cons, ih, h]
    · simp [List.filter_cons, he, List.find?_cons, ih]

variable [DecidableEq α]

/-- A read after a write of the same key gives the value written. -/
@[simp] theorem sparseRead_write_same (d : Nat → α) (m : Sparse α) (k : Nat) (v : α) :
    sparseRead d (sparseWrite d m k v) k = v := by
  unfold sparseRead sparseWrite
  by_cases hv : v = d k
  · have : (m.filter (fun e => !(e.1 == k))).find? (fun e => e.1 == k) = none := by
      simp [List.find?_eq_none]
    simp only [hv, if_pos, this]
  · simp only [hv, if_false]
    rw [find_sparseInsert_same]
    intro e he
    simpa using (List.mem_filter.mp he).2

/-- A write of a key leaves every other key as it was. -/
theorem sparseRead_write_other (d : Nat → α) (m : Sparse α) (k j : Nat) (v : α) (h : k ≠ j) :
    sparseRead d (sparseWrite d m k v) j = sparseRead d m j := by
  unfold sparseRead sparseWrite
  by_cases hv : v = d k
  · simp only [hv, if_pos, find_filter_other k j m h]
  · simp only [hv, if_false, find_sparseInsert_other k j v _ h, find_filter_other k j m h]

theorem sparseSorted_iff (m : Sparse α) : sparseSorted m = true ↔ m.Pairwise (fun a b => a.1 < b.1) := by
  induction m with
  | nil => simp [sparseSorted]
  | cons e m ih =>
    cases m with
    | nil => simp [sparseSorted]
    | cons f m =>
      simp only [sparseSorted, Bool.and_eq_true, decide_eq_true_eq, ih]
      constructor
      · rintro ⟨h1, h2⟩
        refine List.Pairwise.cons ?_ h2
        intro x hx
        rcases List.mem_cons.mp hx with rfl | hx
        · exact h1
        · exact h1.trans ((List.pairwise_cons.mp h2).1 x hx)
      · intro h
        have := List.pairwise_cons.mp h
        exact ⟨this.1 f (by simp), this.2⟩

theorem pairwise_sparseInsert (k : Nat) (v : α) (m : Sparse α) (hm : m.Pairwise (fun a b => a.1 < b.1))
    (hk : ∀ e ∈ m, e.1 ≠ k) : (sparseInsert k v m).Pairwise (fun a b => a.1 < b.1) := by
  induction m with
  | nil => simp [sparseInsert]
  | cons e m ih =>
    have hc := List.pairwise_cons.mp hm
    simp only [sparseInsert]
    split
    · next hlt =>
      refine List.Pairwise.cons ?_ hm
      intro x hx
      rcases List.mem_cons.mp hx with rfl | hx
      · exact hlt
      · exact hlt.trans (hc.1 x hx)
    · next hge =>
      refine List.Pairwise.cons ?_ (ih hc.2 fun x hx => hk x (by simp [hx]))
      intro x hx
      have hmem : x = (k, v) ∨ x ∈ m := by
        clear ih hm hk hc hge
        induction m with
        | nil => simpa [sparseInsert] using hx
        | cons f m ih2 =>
          simp only [sparseInsert] at hx
          split at hx
          · rcases List.mem_cons.mp hx with h | h
            · exact .inl h
            · exact .inr h
          · rcases List.mem_cons.mp hx with h | h
            · exact .inr (by simp [h])
            · rcases ih2 h with h | h
              · exact .inl h
              · exact .inr (by simp [h])
      rcases hmem with rfl | h
      · have := hk e (by simp)
        simp only
        omega
      · exact hc.1 x h

theorem mem_sparseInsert (k : Nat) (v : α) (m : Sparse α) (x : Nat × α) (hx : x ∈ sparseInsert k v m) :
    x = (k, v) ∨ x ∈ m := by
  induction m with
  | nil => simpa [sparseInsert] using hx
  | cons f m ih =>
    simp only [sparseInsert] at hx
    split at hx
    · rcases List.mem_cons.mp hx with h | h
      · exact .inl h
      · exact .inr h
    · rcases List.mem_cons.mp hx with h | h
      · exact .inr (by simp [h])
      · rcases ih h with h | h
        · exact .inl h
        · exact .inr (by simp [h])

/-- A write keeps the canonical form. -/
theorem sparseWrite_wf (d : Nat → α) (m : Sparse α) (k : Nat) (v : α) (h : sparseWf d m = true) :
    sparseWf d (sparseWrite d m k v) = true := by
  simp only [sparseWf, Bool.and_eq_true, List.all_eq_true, sparseSorted_iff] at h ⊢
  have hs : (m.filter (fun e => !(e.1 == k))).Pairwise (fun a b => a.1 < b.1) := h.1.filter _
  have ha : ∀ x ∈ m.filter (fun e => !(e.1 == k)), (!decide (x.2 = d x.1)) = true :=
    fun x hx => h.2 x (List.mem_filter.mp hx).1
  unfold sparseWrite
  by_cases hv : v = d k
  · simp only [hv, if_pos]
    exact ⟨hs, ha⟩
  · simp only [hv, if_false]
    refine ⟨pairwise_sparseInsert k v _ hs ?_, ?_⟩
    · intro e he
      simpa using (List.mem_filter.mp he).2
    · intro x hx
      rcases mem_sparseInsert k v _ x hx with rfl | hx
      · simpa using hv
      · exact ha x hx

end sparse

theorem regWrite_wf (s : State) (a : Nat) (w : Word) (h : s.regsWf = true) : (regWrite s a w).regsWf = true :=
  sparseWrite_wf resetWord s.regs a w h

@[simp] theorem regRead_regWrite_same (s : State) (a : Nat) (w : Word) : regRead (regWrite s a w) a = w := by
  simp [regRead, regWrite]

theorem regRead_regWrite_other (s : State) (a b : Nat) (w : Word) (h : a ≠ b) :
    regRead (regWrite s a w) b = regRead s b := by
  simp [regRead, regWrite, sparseRead_write_other _ _ _ _ _ h]

/-! ## Bit fields -/

theorem testBit_fieldMask (lo width i : Nat) (h : i < 32) :
    (fieldMask lo width).getLsbD i = (decide (lo ≤ i) && decide (i < lo + width)) := by
  simp only [fieldMask, BitVec.getLsbD_ofNat, Nat.testBit_shiftLeft, Nat.testBit_two_pow_sub_one, h, decide_true,
    Bool.true_and]
  by_cases h1 : lo ≤ i
  · simp [h1, Nat.sub_lt_iff_lt_add h1, Nat.add_comm]
  · simp [h1]

theorem testBit_deposit (w : Word) (lo width v i : Nat) (h : i < 32) :
    (deposit w lo width v).getLsbD i =
      if lo ≤ i ∧ i < lo + width then v.testBit (i - lo) else w.getLsbD i := by
  simp only [deposit, BitVec.getLsbD_or, BitVec.getLsbD_and, BitVec.getLsbD_not, testBit_fieldMask _ _ _ h,
    BitVec.getLsbD_ofNat, Nat.testBit_shiftLeft, Nat.testBit_mod_two_pow, h, decide_true, Bool.true_and]
  by_cases h1 : lo ≤ i <;> by_cases h2 : i < lo + width
  · simp [h1, h2, show i - lo < width by omega]
  · simp [h1, h2, show ¬ (i - lo < width) by omega]
  · simp [h1]
  · simp [h1]

theorem testBit_extract (w : Word) (lo width i : Nat) :
    (extract w lo width).testBit i = (decide (i < width) && w.getLsbD (lo + i)) := by
  simp [extract, Nat.testBit_mod_two_pow, Nat.testBit_shiftRight, BitVec.getLsbD]

/-- A field reads what was put into it, modulo its width. -/
theorem extract_deposit_same (w : Word) (lo width v : Nat) (h : lo + width ≤ 32) :
    extract (deposit w lo width v) lo width = v % 2 ^ width := by
  apply Nat.eq_of_testBit_eq
  intro i
  rw [testBit_extract, Nat.testBit_mod_two_pow]
  by_cases hi : i < width
  · rw [testBit_deposit _ _ _ _ _ (by omega)]
    simp [hi]
  · simp [hi]

/-- Fields with no bit in common do not disturb each other. -/
theorem extract_deposit_other (w : Word) (lo width v lo2 width2 : Nat) (h : lo2 + width2 ≤ 32)
    (hd : lo + width ≤ lo2 ∨ lo2 + width2 ≤ lo) :
    extract (deposit w lo width v) lo2 width2 = extract w lo2 width2 := by
  apply Nat.eq_of_testBit_eq
  intro i
  rw [testBit_extract, testBit_extract]
  by_cases hi : i < width2
  · rw [testBit_deposit _ _ _ _ _ (by omega), if_neg (by omega)]
  · simp [hi]

/-! ## Addresses of the pages -/

theorem pageBase_dvd (p : Page) : pageBase p % 0x1000 = 0 := by
  cases p <;> simp only [pageBase] <;> omega

theorem pageOfNumber_pageBase (p : Page) : pageOfNumber (pageBase p / 0x1000) = some p := by
  cases p
  case hk n => revert n; decide
  case lrx n => revert n; decide
  case ltx n => revert n; decide
  case syn n => revert n; decide
  case clx n => revert n; decide
  case rk n => revert n; decide
  case tly n => revert n; decide
  case txp c => cases c <;> decide
  case cdc c => cases c <;> decide
  case eqz c => cases c <;> decide
  case trc c => cases c <;> decide
  case cpr c => cases c <;> decide
  case mls c => cases c <;> decide
  case dmp c => cases c <;> decide
  case fec c => cases c <;> decide
  case lfm c => cases c <;> decide
  case cry c => cases c <;> decide
  case cpc c => cases c <;> decide
  all_goals decide

/-- Two pages share no address. -/
theorem pageBase_ne (p q : Page) (a b : Nat) (h : p ≠ q) (ha : a < 0x1000) (hb : b < 0x1000) :
    pageBase p + a ≠ pageBase q + b := by
  intro he
  apply h
  have hp := pageBase_dvd p
  have hq := pageBase_dvd q
  have : pageBase p / 0x1000 = pageBase q / 0x1000 := by omega
  have h1 := pageOfNumber_pageBase p
  rw [this, pageOfNumber_pageBase q] at h1
  exact (Option.some.inj h1).symm

/-- The page an address within a page lies in. -/
theorem pageOfAddr_pageBase (p : Page) (a : Nat) (h : a < 0x1000) : pageOfAddr (pageBase p + a) = some p := by
  have hp := pageBase_dvd p
  have : (pageBase p + a) / 0x1000 = pageBase p / 0x1000 := by omega
  rw [pageOfAddr, this, pageOfNumber_pageBase]

/-! ## Words of the pages -/

@[simp] theorem word_setWord_same (s : State) (p : Page) (a : Nat) (w : Word) : word (setWord s p a w) p a = w := by
  simp [word, setWord]

/-- Storing a word leaves the other words of its page. -/
theorem word_setWord_off (s : State) (p : Page) (a b : Nat) (w : Word) (h : a % 0x1000 ≠ b % 0x1000) :
    word (setWord s p a w) p b = word s p b := by
  have : pageBase p + a % 0x1000 ≠ pageBase p + b % 0x1000 := by omega
  simp [word, setWord, regRead_regWrite_other _ _ _ _ this]

/-- Storing a word leaves the words of the other pages. -/
theorem word_setWord_page (s : State) (p q : Page) (a b : Nat) (w : Word) (h : p ≠ q) :
    word (setWord s p a w) q b = word s q b := by
  have := pageBase_ne p q (a % 0x1000) (b % 0x1000) h (Nat.mod_lt _ (by decide)) (Nat.mod_lt _ (by decide))
  simp [word, setWord, regRead_regWrite_other _ _ _ _ this]

/-! ## Fields of the register file -/

/-- Setting a field: it then reads the value, modulo its width. -/
theorem get_set_same (s : State) (p : Page) (f : Field) (v : Nat) (h : f.lo + f.width ≤ 32) :
    (s.set p f v).get p f = v % 2 ^ f.width := by
  simp [State.get, State.set, extract_deposit_same _ _ _ _ h]

/-- Setting a field leaves a field of the same register with no bit in common. -/
theorem get_set_disjoint (s : State) (p : Page) (f g : Field) (v : Nat) (ho : f.off = g.off) (h : g.lo + g.width ≤ 32)
    (hd : f.lo + f.width ≤ g.lo ∨ g.lo + g.width ≤ f.lo) : (s.set p f v).get p g = s.get p g := by
  simp [State.get, State.set, ho, extract_deposit_other _ _ _ _ _ _ h hd]

/-- Setting a field leaves the fields of the page's other registers. -/
theorem get_set_off (s : State) (p : Page) (f g : Field) (v : Nat) (h : f.off % 0x1000 ≠ g.off % 0x1000) :
    (s.set p f v).get p g = s.get p g := by
  simp [State.get, State.set, word_setWord_off _ _ _ _ _ h]

/-- Setting a field of one page leaves the fields of another. -/
theorem get_set_page (s : State) (p q : Page) (f g : Field) (v : Nat) (h : p ≠ q) : (s.set p f v).get q g = s.get q g := by
  simp [State.get, State.set, word_setWord_page _ _ _ _ _ _ h]

theorem set_wf (s : State) (p : Page) (f : Field) (v : Nat) (h : s.regsWf = true) : (s.set p f v).regsWf = true :=
  regWrite_wf _ _ _ h

/-- Setting a field changes the register file alone. -/
theorem set_eq (s : State) (p : Page) (f : Field) (v : Nat) : s.set p f v = { s with regs := (s.set p f v).regs } := rfl

end Sys2Proof.Machine
end

