-- ==== Sys2Proof/Laws/State.lean ====
section
/-! SUPPORT. Laws/State.lean: what one update of a field of State changes, and `Within`: a state reached from another by
changes to some parts alone.  A set of parts is a number: bit `i` from 1 to 53 stands for the field `i` of State in the
order of its declaration, a bit from 64 on for the registers of the pages of one kind.  Every operation of the machine
has one lemma in these files that says which parts it can change, for its callers to cite in place of its body. -/
namespace Sys2Proof.Machine

set_option Elab.async false

open Sys2Proof (Byte Word Carrier PerCarrier Origin Page Instr)

/-- The part of the registers of a page's kind. -/
def pageBit : Page → Nat
  | .glb => 18446744073709551616
  | .evr => 36893488147419103232
  | .cj => 73786976294838206464
  | .pwr => 147573952589676412928
  | .tb => 295147905179352825856
  | .cal => 590295810358705651712
  | .bst => 1180591620717411303424
  | .hk _ => 2361183241434822606848
  | .aux => 4722366482869645213696
  | .tel => 9444732965739290427392
  | .fes => 18889465931478580854784
  | .rps => 37778931862957161709568
  | .cast => 75557863725914323419136
  | .arc => 151115727451828646838272
  | .lpm => 302231454903657293676544
  | .ecc => 604462909807314587353088
  | .mrm => 1208925819614629174706176
  | .qlt => 2417851639229258349412352
  | .lrx _ => 4835703278458516698824704
  | .ltx _ => 9671406556917033397649408
  | .syn _ => 19342813113834066795298816
  | .txp _ => 38685626227668133590597632
  | .cdc _ => 77371252455336267181195264
  | .eqz _ => 154742504910672534362390528
  | .trc _ => 309485009821345068724781056
  | .cpr _ => 618970019642690137449562112
  | .mls _ => 1237940039285380274899124224
  | .dmp _ => 2475880078570760549798248448
  | .fec _ => 4951760157141521099596496896
  | .lfm _ => 9903520314283042199192993792
  | .cry _ => 19807040628566084398385987584
  | .clx _ => 39614081257132168796771975168
  | .cpc _ => 79228162514264337593543950336
  | .hlk => 158456325028528675187087900672
  | .rk _ => 316912650057057350374175801344
  | .tly _ => 633825300114114700748351602688
  | .arm => 1267650600228229401496703205376
  | .pln => 2535301200456458802993406410752

/-! The bit of each kind, kept from unfolding: a mask is a long number. -/

@[simp] theorem pageBit_glb : pageBit .glb = 18446744073709551616 := by
  unfold pageBit
  rfl
@[simp] theorem pageBit_evr : pageBit .evr = 36893488147419103232 := by
  unfold pageBit
  rfl
@[simp] theorem pageBit_cj : pageBit .cj = 73786976294838206464 := by
  unfold pageBit
  rfl
@[simp] theorem pageBit_pwr : pageBit .pwr = 147573952589676412928 := by
  unfold pageBit
  rfl
@[simp] theorem pageBit_tb : pageBit .tb = 295147905179352825856 := by
  unfold pageBit
  rfl
@[simp] theorem pageBit_cal : pageBit .cal = 590295810358705651712 := by
  unfold pageBit
  rfl
@[simp] theorem pageBit_bst : pageBit .bst = 1180591620717411303424 := by
  unfold pageBit
  rfl
@[simp] theorem pageBit_hk (x : Fin 2) : pageBit (.hk x) = 2361183241434822606848 := by
  unfold pageBit
  rfl
@[simp] theorem pageBit_aux : pageBit .aux = 4722366482869645213696 := by
  unfold pageBit
  rfl
@[simp] theorem pageBit_tel : pageBit .tel = 9444732965739290427392 := by
  unfold pageBit
  rfl
@[simp] theorem pageBit_fes : pageBit .fes = 18889465931478580854784 := by
  unfold pageBit
  rfl
@[simp] theorem pageBit_rps : pageBit .rps = 37778931862957161709568 := by
  unfold pageBit
  rfl
@[simp] theorem pageBit_cast : pageBit .cast = 75557863725914323419136 := by
  unfold pageBit
  rfl
@[simp] theorem pageBit_arc : pageBit .arc = 151115727451828646838272 := by
  unfold pageBit
  rfl
@[simp] theorem pageBit_lpm : pageBit .lpm = 302231454903657293676544 := by
  unfold pageBit
  rfl
@[simp] theorem pageBit_ecc : pageBit .ecc = 604462909807314587353088 := by
  unfold pageBit
  rfl
@[simp] theorem pageBit_mrm : pageBit .mrm = 1208925819614629174706176 := by
  unfold pageBit
  rfl
@[simp] theorem pageBit_qlt : pageBit .qlt = 2417851639229258349412352 := by
  unfold pageBit
  rfl
@[simp] theorem pageBit_lrx (x : Fin 8) : pageBit (.lrx x) = 4835703278458516698824704 := by
  unfold pageBit
  rfl
@[simp] theorem pageBit_ltx (x : Fin 8) : pageBit (.ltx x) = 9671406556917033397649408 := by
  unfold pageBit
  rfl
@[simp] theorem pageBit_syn (x : Fin 3) : pageBit (.syn x) = 19342813113834066795298816 := by
  unfold pageBit
  rfl
@[simp] theorem pageBit_txp (x : Carrier) : pageBit (.txp x) = 38685626227668133590597632 := by
  unfold pageBit
  rfl
@[simp] theorem pageBit_cdc (x : Carrier) : pageBit (.cdc x) = 77371252455336267181195264 := by
  unfold pageBit
  rfl
@[simp] theorem pageBit_eqz (x : Carrier) : pageBit (.eqz x) = 154742504910672534362390528 := by
  unfold pageBit
  rfl
@[simp] theorem pageBit_trc (x : Carrier) : pageBit (.trc x) = 309485009821345068724781056 := by
  unfold pageBit
  rfl
@[simp] theorem pageBit_cpr (x : Carrier) : pageBit (.cpr x) = 618970019642690137449562112 := by
  unfold pageBit
  rfl
@[simp] theorem pageBit_mls (x : Carrier) : pageBit (.mls x) = 1237940039285380274899124224 := by
  unfold pageBit
  rfl
@[simp] theorem pageBit_dmp (x : Carrier) : pageBit (.dmp x) = 2475880078570760549798248448 := by
  unfold pageBit
  rfl
@[simp] theorem pageBit_fec (x : Carrier) : pageBit (.fec x) = 4951760157141521099596496896 := by
  unfold pageBit
  rfl
@[simp] theorem pageBit_lfm (x : Carrier) : pageBit (.lfm x) = 9903520314283042199192993792 := by
  unfold pageBit
  rfl
@[simp] theorem pageBit_cry (x : Carrier) : pageBit (.cry x) = 19807040628566084398385987584 := by
  unfold pageBit
  rfl
@[simp] theorem pageBit_clx (x : Fin 16) : pageBit (.clx x) = 39614081257132168796771975168 := by
  unfold pageBit
  rfl
@[simp] theorem pageBit_cpc (x : Carrier) : pageBit (.cpc x) = 79228162514264337593543950336 := by
  unfold pageBit
  rfl
@[simp] theorem pageBit_hlk : pageBit .hlk = 158456325028528675187087900672 := by
  unfold pageBit
  rfl
@[simp] theorem pageBit_rk (x : Fin 8) : pageBit (.rk x) = 316912650057057350374175801344 := by
  unfold pageBit
  rfl
@[simp] theorem pageBit_tly (x : Fin 8) : pageBit (.tly x) = 633825300114114700748351602688 := by
  unfold pageBit
  rfl
@[simp] theorem pageBit_arm : pageBit .arm = 1267650600228229401496703205376 := by
  unfold pageBit
  rfl
@[simp] theorem pageBit_pln : pageBit .pln = 2535301200456458802993406410752 := by
  unfold pageBit
  rfl

theorem pageBit_ne_zero (p : Page) : pageBit p ≠ 0 := by
  cases p <;> simp [pageBit]

/-- `t` differs from `s` in the parts of `K` alone, and is as canonical as `s`. -/
structure Within (K : Nat) (s t : State) : Prop where
  latches : K.testBit 1 = false → t.latches = s.latches
  answer : K.testBit 2 = false → t.answer = s.answer
  hostReady : K.testBit 3 = false → t.hostReady = s.hostReady
  journal : K.testBit 4 = false → t.journal = s.journal
  evr : K.testBit 5 = false → t.evr = s.evr
  msix : K.testBit 6 = false → t.msix = s.msix
  semaphores : K.testBit 7 = false → t.semaphores = s.semaphores
  pairMatches : K.testBit 8 = false → t.pairMatches = s.pairMatches
  tickEvents : K.testBit 9 = false → t.tickEvents = s.tickEvents
  nowNs : K.testBit 10 = false → t.nowNs = s.nowNs
  elapsedNs : K.testBit 11 = false → t.elapsedNs = s.elapsedNs
  framer : K.testBit 12 = false → t.framer = s.framer
  fec : K.testBit 13 = false → t.fec = s.fec
  cpc : K.testBit 14 = false → t.cpc = s.cpc
  cipher : K.testBit 15 = false → t.cipher = s.cipher
  hk : K.testBit 16 = false → t.hk = s.hk
  aux : K.testBit 17 = false → t.aux = s.aux
  cal : K.testBit 18 = false → t.cal = s.cal
  txDsp : K.testBit 19 = false → t.txDsp = s.txDsp
  txLane : K.testBit 20 = false → t.txLane = s.txLane
  lineRx : K.testBit 21 = false → t.lineRx = s.lineRx
  carrierRec : K.testBit 22 = false → t.carrierRec = s.carrierRec
  demapper : K.testBit 23 = false → t.demapper = s.demapper
  dispersion : K.testBit 24 = false → t.dispersion = s.dispersion
  equaliser : K.testBit 25 = false → t.equaliser = s.equaliser
  tunedN : K.testBit 26 = false → t.tunedN = s.tunedN
  dsram : K.testBit 27 = false → t.dsram = s.dsram
  optics : K.testBit 28 = false → t.optics = s.optics
  qlt : K.testBit 29 = false → t.qlt = s.qlt
  plinth : K.testBit 30 = false → t.plinth = s.plinth
  keep : K.testBit 31 = false → t.keep = s.keep
  archive : K.testBit 32 = false → t.archive = s.archive
  rps : K.testBit 33 = false → t.rps = s.rps
  tel : K.testBit 34 = false → t.tel = s.tel
  cast : K.testBit 35 = false → t.cast = s.cast
  vddRequested : K.testBit 36 = false → t.vddRequested = s.vddRequested
  checkers : K.testBit 37 = false → t.checkers = s.checkers
  hostLink : K.testBit 38 = false → t.hostLink = s.hostLink
  mbox : K.testBit 39 = false → t.mbox = s.mbox
  memories : K.testBit 40 = false → t.memories = s.memories
  isram : K.testBit 41 = false → t.isram = s.isram
  cores : K.testBit 42 = false → t.cores = s.cores
  images : K.testBit 43 = false → t.images = s.images
  stepsDue : K.testBit 44 = false → t.stepsDue = s.stepsDue
  samples : K.testBit 45 = false → t.samples = s.samples
  pwrMgr : K.testBit 46 = false → t.pwrMgr = s.pwrMgr
  timeBase : K.testBit 47 = false → t.timeBase = s.timeBase
  selfTest : K.testBit 48 = false → t.selfTest = s.selfTest
  firmware : K.testBit 49 = false → t.firmware = s.firmware
  freeCount : K.testBit 50 = false → t.freeCount = s.freeCount
  staged : K.testBit 51 = false → t.staged = s.staged
  timers : K.testBit 52 = false → t.timers = s.timers
  pending : K.testBit 53 = false → t.pending = s.pending
  page : ∀ p off, pageBit p &&& K = 0 → word t p off = word s p off
  wf : s.wf = true → t.wf = true

namespace Within

theorem refl (K : Nat) (s : State) : Within K s s := by
  constructor <;> intros <;> first | rfl | assumption

/-- A part of a set is a part of a larger one. -/
theorem sub {a b K : Nat} (hk : b ||| K = K) (h : a ||| b = b) : a ||| K = K := by
  rw [← hk, ← Nat.or_assoc, h]

/-- The state that a pair answers first. -/
theorem fst {K : Nat} {s t : State} {β : Type} {b : β} (h : Within K s t) : Within K s (t, b).1 := h

/-- The state that a pair answers second. -/
theorem snd {K : Nat} {s t : State} {β : Type} {b : β} (h : Within K s t) : Within K s (b, t).2 := h

/-- The state that a triple answers third. -/
theorem sndSnd {K : Nat} {s t : State} {β γ : Type} {b : β} {c : γ} (h : Within K s t) : Within K s (b, c, t).2.2 := h

/-- The registers of every page. -/
theorem all {M K : Nat} (hk : M ||| K = K) (p : Page) (hM : 5070602400894470861913103269888 ||| M = M := by simp) :
    pageBit p ||| K = K :=
  sub (sub hk hM) (by cases p <;> simp)

/-- A part of `K` is not outside it. -/
theorem clash {K i : Nat} (hk : 2 ^ i ||| K = K) (hx : K.testBit i = false) : False := by
  rw [← hk, Nat.testBit_or, Nat.testBit_two_pow_self, Bool.true_or] at hx
  exact Bool.noConfusion hx

/-- When everything may change, only the canonical form is left to show. -/
theorem everything {K : Nat} {s t : State} (hk : 5070602400894488876311612751870 ||| K = K) (hw : s.wf = true → t.wf = true) :
    Within K s t :=
  {
    latches := fun hx => (clash (i := 1) (sub hk (by simp)) hx).elim
    answer := fun hx => (clash (i := 2) (sub hk (by simp)) hx).elim
    hostReady := fun hx => (clash (i := 3) (sub hk (by simp)) hx).elim
    journal := fun hx => (clash (i := 4) (sub hk (by simp)) hx).elim
    evr := fun hx => (clash (i := 5) (sub hk (by simp)) hx).elim
    msix := fun hx => (clash (i := 6) (sub hk (by simp)) hx).elim
    semaphores := fun hx => (clash (i := 7) (sub hk (by simp)) hx).elim
    pairMatches := fun hx => (clash (i := 8) (sub hk (by simp)) hx).elim
    tickEvents := fun hx => (clash (i := 9) (sub hk (by simp)) hx).elim
    nowNs := fun hx => (clash (i := 10) (sub hk (by simp)) hx).elim
    elapsedNs := fun hx => (clash (i := 11) (sub hk (by simp)) hx).elim
    framer := fun hx => (clash (i := 12) (sub hk (by simp)) hx).elim
    fec := fun hx => (clash (i := 13) (sub hk (by simp)) hx).elim
    cpc := fun hx => (clash (i := 14) (sub hk (by simp)) hx).elim
    cipher := fun hx => (clash (i := 15) (sub hk (by simp)) hx).elim
    hk := fun hx => (clash (i := 16) (sub hk (by simp)) hx).elim
    aux := fun hx => (clash (i := 17) (sub hk (by simp)) hx).elim
    cal := fun hx => (clash (i := 18) (sub hk (by simp)) hx).elim
    txDsp := fun hx => (clash (i := 19) (sub hk (by simp)) hx).elim
    txLane := fun hx => (clash (i := 20) (sub hk (by simp)) hx).elim
    lineRx := fun hx => (clash (i := 21) (sub hk (by simp)) hx).elim
    carrierRec := fun hx => (clash (i := 22) (sub hk (by simp)) hx).elim
    demapper := fun hx => (clash (i := 23) (sub hk (by simp)) hx).elim
    dispersion := fun hx => (clash (i := 24) (sub hk (by simp)) hx).elim
    equaliser := fun hx => (clash (i := 25) (sub hk (by simp)) hx).elim
    tunedN := fun hx => (clash (i := 26) (sub hk (by simp)) hx).elim
    dsram := fun hx => (clash (i := 27) (sub hk (by simp)) hx).elim
    optics := fun hx => (clash (i := 28) (sub hk (by simp)) hx).elim
    qlt := fun hx => (clash (i := 29) (sub hk (by simp)) hx).elim
    plinth := fun hx => (clash (i := 30) (sub hk (by simp)) hx).elim
    keep := fun hx => (clash (i := 31) (sub hk (by simp)) hx).elim
    archive := fun hx => (clash (i := 32) (sub hk (by simp)) hx).elim
    rps := fun hx => (clash (i := 33) (sub hk (by simp)) hx).elim
    tel := fun hx => (clash (i := 34) (sub hk (by simp)) hx).elim
    cast := fun hx => (clash (i := 35) (sub hk (by simp)) hx).elim
    vddRequested := fun hx => (clash (i := 36) (sub hk (by simp)) hx).elim
    checkers := fun hx => (clash (i := 37) (sub hk (by simp)) hx).elim
    hostLink := fun hx => (clash (i := 38) (sub hk (by simp)) hx).elim
    mbox := fun hx => (clash (i := 39) (sub hk (by simp)) hx).elim
    memories := fun hx => (clash (i := 40) (sub hk (by simp)) hx).elim
    isram := fun hx => (clash (i := 41) (sub hk (by simp)) hx).elim
    cores := fun hx => (clash (i := 42) (sub hk (by simp)) hx).elim
    images := fun hx => (clash (i := 43) (sub hk (by simp)) hx).elim
    stepsDue := fun hx => (clash (i := 44) (sub hk (by simp)) hx).elim
    samples := fun hx => (clash (i := 45) (sub hk (by simp)) hx).elim
    pwrMgr := fun hx => (clash (i := 46) (sub hk (by simp)) hx).elim
    timeBase := fun hx => (clash (i := 47) (sub hk (by simp)) hx).elim
    selfTest := fun hx => (clash (i := 48) (sub hk (by simp)) hx).elim
    firmware := fun hx => (clash (i := 49) (sub hk (by simp)) hx).elim
    freeCount := fun hx => (clash (i := 50) (sub hk (by simp)) hx).elim
    staged := fun hx => (clash (i := 51) (sub hk (by simp)) hx).elim
    timers := fun hx => (clash (i := 52) (sub hk (by simp)) hx).elim
    pending := fun hx => (clash (i := 53) (sub hk (by simp)) hx).elim
    page := fun p off hx => by
      have h1 : pageBit p ||| K = K := all hk p
      have h2 : pageBit p = 0 := by
        rw [← h1, Nat.and_or_distrib_left] at hx
        simp only [Nat.and_self] at hx
        exact (Nat.or_eq_zero_iff.mp hx).1
      exact absurd h2 (by cases p <;> simp)
    wf := hw }

/-- What changes within `K` changes within every larger `M`. -/
theorem mono {K M : Nat} {s t : State} (h : Within K s t) (hM : K ||| M = M) : Within M s t := by
  have hb : ∀ i, M.testBit i = false → K.testBit i = false := fun i hx => by
    rw [← hM, Nat.testBit_or, Bool.or_eq_false_iff] at hx
    exact hx.1
  exact {
    latches := fun hx => h.latches (hb _ hx)
    answer := fun hx => h.answer (hb _ hx)
    hostReady := fun hx => h.hostReady (hb _ hx)
    journal := fun hx => h.journal (hb _ hx)
    evr := fun hx => h.evr (hb _ hx)
    msix := fun hx => h.msix (hb _ hx)
    semaphores := fun hx => h.semaphores (hb _ hx)
    pairMatches := fun hx => h.pairMatches (hb _ hx)
    tickEvents := fun hx => h.tickEvents (hb _ hx)
    nowNs := fun hx => h.nowNs (hb _ hx)
    elapsedNs := fun hx => h.elapsedNs (hb _ hx)
    framer := fun hx => h.framer (hb _ hx)
    fec := fun hx => h.fec (hb _ hx)
    cpc := fun hx => h.cpc (hb _ hx)
    cipher := fun hx => h.cipher (hb _ hx)
    hk := fun hx => h.hk (hb _ hx)
    aux := fun hx => h.aux (hb _ hx)
    cal := fun hx => h.cal (hb _ hx)
    txDsp := fun hx => h.txDsp (hb _ hx)
    txLane := fun hx => h.txLane (hb _ hx)
    lineRx := fun hx => h.lineRx (hb _ hx)
    carrierRec := fun hx => h.carrierRec (hb _ hx)
    demapper := fun hx => h.demapper (hb _ hx)
    dispersion := fun hx => h.dispersion (hb _ hx)
    equaliser := fun hx => h.equaliser (hb _ hx)
    tunedN := fun hx => h.tunedN (hb _ hx)
    dsram := fun hx => h.dsram (hb _ hx)
    optics := fun hx => h.optics (hb _ hx)
    qlt := fun hx => h.qlt (hb _ hx)
    plinth := fun hx => h.plinth (hb _ hx)
    keep := fun hx => h.keep (hb _ hx)
    archive := fun hx => h.archive (hb _ hx)
    rps := fun hx => h.rps (hb _ hx)
    tel := fun hx => h.tel (hb _ hx)
    cast := fun hx => h.cast (hb _ hx)
    vddRequested := fun hx => h.vddRequested (hb _ hx)
    checkers := fun hx => h.checkers (hb _ hx)
    hostLink := fun hx => h.hostLink (hb _ hx)
    mbox := fun hx => h.mbox (hb _ hx)
    memories := fun hx => h.memories (hb _ hx)
    isram := fun hx => h.isram (hb _ hx)
    cores := fun hx => h.cores (hb _ hx)
    images := fun hx => h.images (hb _ hx)
    stepsDue := fun hx => h.stepsDue (hb _ hx)
    samples := fun hx => h.samples (hb _ hx)
    pwrMgr := fun hx => h.pwrMgr (hb _ hx)
    timeBase := fun hx => h.timeBase (hb _ hx)
    selfTest := fun hx => h.selfTest (hb _ hx)
    firmware := fun hx => h.firmware (hb _ hx)
    freeCount := fun hx => h.freeCount (hb _ hx)
    staged := fun hx => h.staged (hb _ hx)
    timers := fun hx => h.timers (hb _ hx)
    pending := fun hx => h.pending (hb _ hx)
    page := fun p off hx => h.page p off (by
      rw [← hM, Nat.and_or_distrib_left] at hx
      exact (Nat.or_eq_zero_iff.mp hx).1)
    wf := h.wf }

theorem ite {K : Nat} {s x y : State} {c : Prop} [Decidable c] (hx : Within K s x) (hy : Within K s y) :
    Within K s (if c then x else y) := by
  split <;> assumption

theorem foldl {α : Type} {K : Nat} {s : State} {f : State → α → State} (l : List α)
    (hf : ∀ t x, Within K s t → Within K s (f t x)) : ∀ {t : State}, Within K s t → Within K s (l.foldl f t) := by
  induction l with
  | nil => exact fun h => h
  | cons x l ih => exact fun h => ih (hf _ x h)

/-! One update of one field. -/

theorem upd_latches {K : Nat} {s t : State} (h : Within K s t) (hk : 2 ||| K = K) (x) :
    Within K s { t with latches := x } :=
  { h with latches := fun hx => (clash (i := 1) hk hx).elim, page := h.page, wf := h.wf }

theorem upd_answer {K : Nat} {s t : State} (h : Within K s t) (hk : 4 ||| K = K) (x) :
    Within K s { t with answer := x } :=
  { h with answer := fun hx => (clash (i := 2) hk hx).elim, page := h.page, wf := h.wf }

theorem upd_hostReady {K : Nat} {s t : State} (h : Within K s t) (hk : 8 ||| K = K) (x) :
    Within K s { t with hostReady := x } :=
  { h with hostReady := fun hx => (clash (i := 3) hk hx).elim, page := h.page, wf := h.wf }

theorem upd_journal {K : Nat} {s t : State} (h : Within K s t) (hk : 16 ||| K = K) (x) :
    Within K s { t with journal := x } :=
  { h with journal := fun hx => (clash (i := 4) hk hx).elim, page := h.page, wf := h.wf }

theorem upd_evr {K : Nat} {s t : State} (h : Within K s t) (hk : 32 ||| K = K) (x) :
    Within K s { t with evr := x } :=
  { h with evr := fun hx => (clash (i := 5) hk hx).elim, page := h.page, wf := h.wf }

theorem upd_msix {K : Nat} {s t : State} (h : Within K s t) (hk : 64 ||| K = K) (x) :
    Within K s { t with msix := x } :=
  { h with msix := fun hx => (clash (i := 6) hk hx).elim, page := h.page, wf := h.wf }

theorem upd_semaphores {K : Nat} {s t : State} (h : Within K s t) (hk : 128 ||| K = K) (x) :
    Within K s { t with semaphores := x } :=
  { h with semaphores := fun hx => (clash (i := 7) hk hx).elim, page := h.page, wf := h.wf }

theorem upd_pairMatches {K : Nat} {s t : State} (h : Within K s t) (hk : 256 ||| K = K) (x) :
    Within K s { t with pairMatches := x } :=
  { h with pairMatches := fun hx => (clash (i := 8) hk hx).elim, page := h.page, wf := h.wf }

theorem upd_nowNs {K : Nat} {s t : State} (h : Within K s t) (hk : 1024 ||| K = K) (x) :
    Within K s { t with nowNs := x } :=
  { h with nowNs := fun hx => (clash (i := 10) hk hx).elim, page := h.page, wf := h.wf }

theorem upd_elapsedNs {K : Nat} {s t : State} (h : Within K s t) (hk : 2048 ||| K = K) (x) :
    Within K s { t with elapsedNs := x } :=
  { h with elapsedNs := fun hx => (clash (i := 11) hk hx).elim, page := h.page, wf := h.wf }

theorem upd_framer {K : Nat} {s t : State} (h : Within K s t) (hk : 4096 ||| K = K) (x) :
    Within K s { t with framer := x } :=
  { h with framer := fun hx => (clash (i := 12) hk hx).elim, page := h.page, wf := h.wf }

theorem upd_fec {K : Nat} {s t : State} (h : Within K s t) (hk : 8192 ||| K = K) (x) :
    Within K s { t with fec := x } :=
  { h with fec := fun hx => (clash (i := 13) hk hx).elim, page := h.page, wf := h.wf }

theorem upd_cpc {K : Nat} {s t : State} (h : Within K s t) (hk : 16384 ||| K = K) (x) :
    Within K s { t with cpc := x } :=
  { h with cpc := fun hx => (clash (i := 14) hk hx).elim, page := h.page, wf := h.wf }

theorem upd_cipher {K : Nat} {s t : State} (h : Within K s t) (hk : 32768 ||| K = K) (x) :
    Within K s { t with cipher := x } :=
  { h with cipher := fun hx => (clash (i := 15) hk hx).elim, page := h.page, wf := h.wf }

theorem upd_hk {K : Nat} {s t : State} (h : Within K s t) (hk : 65536 ||| K = K) (x) :
    Within K s { t with hk := x } :=
  { h with hk := fun hx => (clash (i := 16) hk hx).elim, page := h.page, wf := h.wf }

theorem upd_aux {K : Nat} {s t : State} (h : Within K s t) (hk : 131072 ||| K = K) (x) :
    Within K s { t with aux := x } :=
  { h with aux := fun hx => (clash (i := 17) hk hx).elim, page := h.page, wf := h.wf }

theorem upd_cal {K : Nat} {s t : State} (h : Within K s t) (hk : 262144 ||| K = K) (x) :
    Within K s { t with cal := x } :=
  { h with cal := fun hx => (clash (i := 18) hk hx).elim, page := h.page, wf := h.wf }

theorem upd_txDsp {K : Nat} {s t : State} (h : Within K s t) (hk : 524288 ||| K = K) (x) :
    Within K s { t with txDsp := x } :=
  { h with txDsp := fun hx => (clash (i := 19) hk hx).elim, page := h.page, wf := h.wf }

theorem upd_txLane {K : Nat} {s t : State} (h : Within K s t) (hk : 1048576 ||| K = K) (x) :
    Within K s { t with txLane := x } :=
  { h with txLane := fun hx => (clash (i := 20) hk hx).elim, page := h.page, wf := h.wf }

theorem upd_lineRx {K : Nat} {s t : State} (h : Within K s t) (hk : 2097152 ||| K = K) (x) :
    Within K s { t with lineRx := x } :=
  { h with lineRx := fun hx => (clash (i := 21) hk hx).elim, page := h.page, wf := h.wf }

theorem upd_carrierRec {K : Nat} {s t : State} (h : Within K s t) (hk : 4194304 ||| K = K) (x) :
    Within K s { t with carrierRec := x } :=
  { h with carrierRec := fun hx => (clash (i := 22) hk hx).elim, page := h.page, wf := h.wf }

theorem upd_demapper {K : Nat} {s t : State} (h : Within K s t) (hk : 8388608 ||| K = K) (x) :
    Within K s { t with demapper := x } :=
  { h with demapper := fun hx => (clash (i := 23) hk hx).elim, page := h.page, wf := h.wf }

theorem upd_dispersion {K : Nat} {s t : State} (h : Within K s t) (hk : 16777216 ||| K = K) (x) :
    Within K s { t with dispersion := x } :=
  { h with dispersion := fun hx => (clash (i := 24) hk hx).elim, page := h.page, wf := h.wf }

theorem upd_equaliser {K : Nat} {s t : State} (h : Within K s t) (hk : 33554432 ||| K = K) (x) :
    Within K s { t with equaliser := x } :=
  { h with equaliser := fun hx => (clash (i := 25) hk hx).elim, page := h.page, wf := h.wf }

theorem upd_tunedN {K : Nat} {s t : State} (h : Within K s t) (hk : 67108864 ||| K = K) (x) :
    Within K s { t with tunedN := x } :=
  { h with tunedN := fun hx => (clash (i := 26) hk hx).elim, page := h.page, wf := h.wf }

theorem upd_optics {K : Nat} {s t : State} (h : Within K s t) (hk : 268435456 ||| K = K) (x) :
    Within K s { t with optics := x } :=
  { h with optics := fun hx => (clash (i := 28) hk hx).elim, page := h.page, wf := h.wf }

theorem upd_qlt {K : Nat} {s t : State} (h : Within K s t) (hk : 536870912 ||| K = K) (x) :
    Within K s { t with qlt := x } :=
  { h with qlt := fun hx => (clash (i := 29) hk hx).elim, page := h.page, wf := h.wf }

theorem upd_plinth {K : Nat} {s t : State} (h : Within K s t) (hk : 1073741824 ||| K = K) (x) :
    Within K s { t with plinth := x } :=
  { h with plinth := fun hx => (clash (i := 30) hk hx).elim, page := h.page, wf := h.wf }

theorem upd_keep {K : Nat} {s t : State} (h : Within K s t) (hk : 2147483648 ||| K = K) (x) :
    Within K s { t with keep := x } :=
  { h with keep := fun hx => (clash (i := 31) hk hx).elim, page := h.page, wf := h.wf }

theorem upd_archive {K : Nat} {s t : State} (h : Within K s t) (hk : 4294967296 ||| K = K) (x) :
    Within K s { t with archive := x } :=
  { h with archive := fun hx => (clash (i := 32) hk hx).elim, page := h.page, wf := h.wf }

theorem upd_rps {K : Nat} {s t : State} (h : Within K s t) (hk : 8589934592 ||| K = K) (x) :
    Within K s { t with rps := x } :=
  { h with rps := fun hx => (clash (i := 33) hk hx).elim, page := h.page, wf := h.wf }

theorem upd_tel {K : Nat} {s t : State} (h : Within K s t) (hk : 17179869184 ||| K = K) (x) :
    Within K s { t with tel := x } :=
  { h with tel := fun hx => (clash (i := 34) hk hx).elim, page := h.page, wf := h.wf }

theorem upd_cast {K : Nat} {s t : State} (h : Within K s t) (hk : 34359738368 ||| K = K) (x) :
    Within K s { t with cast := x } :=
  { h with cast := fun hx => (clash (i := 35) hk hx).elim, page := h.page, wf := h.wf }

theorem upd_vddRequested {K : Nat} {s t : State} (h : Within K s t) (hk : 68719476736 ||| K = K) (x) :
    Within K s { t with vddRequested := x } :=
  { h with vddRequested := fun hx => (clash (i := 36) hk hx).elim, page := h.page, wf := h.wf }

theorem upd_checkers {K : Nat} {s t : State} (h : Within K s t) (hk : 137438953472 ||| K = K) (x) :
    Within K s { t with checkers := x } :=
  { h with checkers := fun hx => (clash (i := 37) hk hx).elim, page := h.page, wf := h.wf }

theorem upd_hostLink {K : Nat} {s t : State} (h : Within K s t) (hk : 274877906944 ||| K = K) (x) :
    Within K s { t with hostLink := x } :=
  { h with hostLink := fun hx => (clash (i := 38) hk hx).elim, page := h.page, wf := h.wf }

theorem upd_mbox {K : Nat} {s t : State} (h : Within K s t) (hk : 549755813888 ||| K = K) (x) :
    Within K s { t with mbox := x } :=
  { h with mbox := fun hx => (clash (i := 39) hk hx).elim, page := h.page, wf := h.wf }

theorem upd_cores {K : Nat} {s t : State} (h : Within K s t) (hk : 4398046511104 ||| K = K) (x) :
    Within K s { t with cores := x } :=
  { h with cores := fun hx => (clash (i := 42) hk hx).elim, page := h.page, wf := h.wf }

theorem upd_images {K : Nat} {s t : State} (h : Within K s t) (hk : 8796093022208 ||| K = K) (x) :
    Within K s { t with images := x } :=
  { h with images := fun hx => (clash (i := 43) hk hx).elim, page := h.page, wf := h.wf }

theorem upd_stepsDue {K : Nat} {s t : State} (h : Within K s t) (hk : 17592186044416 ||| K = K) (x) :
    Within K s { t with stepsDue := x } :=
  { h with stepsDue := fun hx => (clash (i := 44) hk hx).elim, page := h.page, wf := h.wf }

theorem upd_samples {K : Nat} {s t : State} (h : Within K s t) (hk : 35184372088832 ||| K = K) (x) :
    Within K s { t with samples := x } :=
  { h with samples := fun hx => (clash (i := 45) hk hx).elim, page := h.page, wf := h.wf }

theorem upd_pwrMgr {K : Nat} {s t : State} (h : Within K s t) (hk : 70368744177664 ||| K = K) (x) :
    Within K s { t with pwrMgr := x } :=
  { h with pwrMgr := fun hx => (clash (i := 46) hk hx).elim, page := h.page, wf := h.wf }

theorem upd_timeBase {K : Nat} {s t : State} (h : Within K s t) (hk : 140737488355328 ||| K = K) (x) :
    Within K s { t with timeBase := x } :=
  { h with timeBase := fun hx => (clash (i := 47) hk hx).elim, page := h.page, wf := h.wf }

theorem upd_selfTest {K : Nat} {s t : State} (h : Within K s t) (hk : 281474976710656 ||| K = K) (x) :
    Within K s { t with selfTest := x } :=
  { h with selfTest := fun hx => (clash (i := 48) hk hx).elim, page := h.page, wf := h.wf }

theorem upd_firmware {K : Nat} {s t : State} (h : Within K s t) (hk : 562949953421312 ||| K = K) (x) :
    Within K s { t with firmware := x } :=
  { h with firmware := fun hx => (clash (i := 49) hk hx).elim, page := h.page, wf := h.wf }

theorem upd_freeCount {K : Nat} {s t : State} (h : Within K s t) (hk : 1125899906842624 ||| K = K) (x) :
    Within K s { t with freeCount := x } :=
  { h with freeCount := fun hx => (clash (i := 50) hk hx).elim, page := h.page, wf := h.wf }

theorem upd_staged {K : Nat} {s t : State} (h : Within K s t) (hk : 2251799813685248 ||| K = K) (x) :
    Within K s { t with staged := x } :=
  { h with staged := fun hx => (clash (i := 51) hk hx).elim, page := h.page, wf := h.wf }

theorem upd_timers {K : Nat} {s t : State} (h : Within K s t) (hk : 4503599627370496 ||| K = K) (x) :
    Within K s { t with timers := x } :=
  { h with timers := fun hx => (clash (i := 52) hk hx).elim, page := h.page, wf := h.wf }

theorem upd_pending {K : Nat} {s t : State} (h : Within K s t) (hk : 9007199254740992 ||| K = K) (x) :
    Within K s { t with pending := x } :=
  { h with pending := fun hx => (clash (i := 53) hk hx).elim, page := h.page, wf := h.wf }


theorem upd_tickEvents {K : Nat} {s t : State} (h : Within K s t) (hk : 512 ||| K = K) (x : Sparse Nat)
    (hx : sparseWf (fun _ => 0) t.tickEvents = true → sparseWf (fun _ => 0) x = true) :
    Within K s { t with tickEvents := x } :=
  { h with
    tickEvents := fun hb => (clash (i := 9) hk hb).elim
    page := h.page
    wf := fun hs => by
      have := h.wf hs
      simp only [State.wf, Bool.and_eq_true] at this ⊢
      exact ⟨⟨⟨⟨this.1.1.1.1, hx this.1.1.1.2⟩, this.1.1.2⟩, this.1.2⟩, this.2⟩ }

theorem upd_dsram {K : Nat} {s t : State} (h : Within K s t) (hk : 134217728 ||| K = K) (x : Vector (Sparse Byte) 8)
    (hx : t.dsram.all byteMapWf = true → x.all byteMapWf = true) : Within K s { t with dsram := x } :=
  { h with
    dsram := fun hb => (clash (i := 27) hk hb).elim
    page := h.page
    wf := fun hs => by
      have := h.wf hs
      simp only [State.wf, Bool.and_eq_true] at this ⊢
      exact ⟨⟨⟨this.1.1.1, hx this.1.1.2⟩, this.1.2⟩, this.2⟩ }

theorem upd_isram {K : Nat} {s t : State} (h : Within K s t) (hk : 2199023255552 ||| K = K) (x : Vector (Sparse Byte) 8)
    (hx : t.isram.all byteMapWf = true → x.all byteMapWf = true) : Within K s { t with isram := x } :=
  { h with
    isram := fun hb => (clash (i := 41) hk hb).elim
    page := h.page
    wf := fun hs => by
      have := h.wf hs
      simp only [State.wf, Bool.and_eq_true] at this ⊢
      exact ⟨⟨this.1.1, hx this.1.2⟩, this.2⟩ }

theorem upd_memories {K : Nat} {s t : State} (h : Within K s t) (hk : 1099511627776 ||| K = K) (x : Memories)
    (hx : t.memories.wf = true → x.wf = true) : Within K s { t with memories := x } :=
  { h with
    memories := fun hb => (clash (i := 40) hk hb).elim
    page := h.page
    wf := fun hs => by
      have := h.wf hs
      simp only [State.wf, Bool.and_eq_true] at this ⊢
      exact ⟨this.1, hx this.2⟩ }

theorem setWord {K : Nat} {s t : State} (h : Within K s t) (p : Page) (off : Nat) (w : Word)
    (hp : pageBit p ||| K = K) : Within K s (setWord t p off w) :=
  { h with
    page := fun q o hq => by
      have hne : p ≠ q := by
        rintro rfl
        have := pageBit_ne_zero p
        rw [← hp, Nat.and_or_distrib_left, Nat.and_self] at hq
        have := Nat.or_eq_zero_iff.mp hq
        omega
      rw [word_setWord_page _ _ _ _ _ _ hne]
      exact h.page q o hq
    wf := fun hs => by
      have := h.wf hs
      simp only [State.wf, Bool.and_eq_true] at this ⊢
      exact ⟨⟨⟨⟨regWrite_wf _ _ _ this.1.1.1.1, this.1.1.1.2⟩, this.1.1.2⟩, this.1.2⟩, this.2⟩ }

theorem trans {K : Nat} {s t u : State} (h : Within K s t) (g : Within K t u) : Within K s u := by
  constructor
  case page => exact fun p off hp => (g.page p off hp).trans (h.page p off hp)
  case wf => exact fun hs => g.wf (h.wf hs)
  case latches => exact fun hx => (g.latches hx).trans (h.latches hx)
  case answer => exact fun hx => (g.answer hx).trans (h.answer hx)
  case hostReady => exact fun hx => (g.hostReady hx).trans (h.hostReady hx)
  case journal => exact fun hx => (g.journal hx).trans (h.journal hx)
  case evr => exact fun hx => (g.evr hx).trans (h.evr hx)
  case msix => exact fun hx => (g.msix hx).trans (h.msix hx)
  case semaphores => exact fun hx => (g.semaphores hx).trans (h.semaphores hx)
  case pairMatches => exact fun hx => (g.pairMatches hx).trans (h.pairMatches hx)
  case tickEvents => exact fun hx => (g.tickEvents hx).trans (h.tickEvents hx)
  case nowNs => exact fun hx => (g.nowNs hx).trans (h.nowNs hx)
  case elapsedNs => exact fun hx => (g.elapsedNs hx).trans (h.elapsedNs hx)
  case framer => exact fun hx => (g.framer hx).trans (h.framer hx)
  case fec => exact fun hx => (g.fec hx).trans (h.fec hx)
  case cpc => exact fun hx => (g.cpc hx).trans (h.cpc hx)
  case cipher => exact fun hx => (g.cipher hx).trans (h.cipher hx)
  case hk => exact fun hx => (g.hk hx).trans (h.hk hx)
  case aux => exact fun hx => (g.aux hx).trans (h.aux hx)
  case cal => exact fun hx => (g.cal hx).trans (h.cal hx)
  case txDsp => exact fun hx => (g.txDsp hx).trans (h.txDsp hx)
  case txLane => exact fun hx => (g.txLane hx).trans (h.txLane hx)
  case lineRx => exact fun hx => (g.lineRx hx).trans (h.lineRx hx)
  case carrierRec => exact fun hx => (g.carrierRec hx).trans (h.carrierRec hx)
  case demapper => exact fun hx => (g.demapper hx).trans (h.demapper hx)
  case dispersion => exact fun hx => (g.dispersion hx).trans (h.dispersion hx)
  case equaliser => exact fun hx => (g.equaliser hx).trans (h.equaliser hx)
  case tunedN => exact fun hx => (g.tunedN hx).trans (h.tunedN hx)
  case dsram => exact fun hx => (g.dsram hx).trans (h.dsram hx)
  case optics => exact fun hx => (g.optics hx).trans (h.optics hx)
  case qlt => exact fun hx => (g.qlt hx).trans (h.qlt hx)
  case plinth => exact fun hx => (g.plinth hx).trans (h.plinth hx)
  case keep => exact fun hx => (g.keep hx).trans (h.keep hx)
  case archive => exact fun hx => (g.archive hx).trans (h.archive hx)
  case rps => exact fun hx => (g.rps hx).trans (h.rps hx)
  case tel => exact fun hx => (g.tel hx).trans (h.tel hx)
  case cast => exact fun hx => (g.cast hx).trans (h.cast hx)
  case vddRequested => exact fun hx => (g.vddRequested hx).trans (h.vddRequested hx)
  case checkers => exact fun hx => (g.checkers hx).trans (h.checkers hx)
  case hostLink => exact fun hx => (g.hostLink hx).trans (h.hostLink hx)
  case mbox => exact fun hx => (g.mbox hx).trans (h.mbox hx)
  case memories => exact fun hx => (g.memories hx).trans (h.memories hx)
  case isram => exact fun hx => (g.isram hx).trans (h.isram hx)
  case cores => exact fun hx => (g.cores hx).trans (h.cores hx)
  case images => exact fun hx => (g.images hx).trans (h.images hx)
  case stepsDue => exact fun hx => (g.stepsDue hx).trans (h.stepsDue hx)
  case samples => exact fun hx => (g.samples hx).trans (h.samples hx)
  case pwrMgr => exact fun hx => (g.pwrMgr hx).trans (h.pwrMgr hx)
  case timeBase => exact fun hx => (g.timeBase hx).trans (h.timeBase hx)
  case selfTest => exact fun hx => (g.selfTest hx).trans (h.selfTest hx)
  case firmware => exact fun hx => (g.firmware hx).trans (h.firmware hx)
  case freeCount => exact fun hx => (g.freeCount hx).trans (h.freeCount hx)
  case staged => exact fun hx => (g.staged hx).trans (h.staged hx)
  case timers => exact fun hx => (g.timers hx).trans (h.timers hx)
  case pending => exact fun hx => (g.pending hx).trans (h.pending hx)
/-! Updates of several fields at once. -/

theorem upd_cores_images {K : Nat} {s t : State} (h : Within K s t) (h0 : 4398046511104 ||| K = K) (h1 : 8796093022208 ||| K = K)
    (x0) (x1) : Within K s { t with cores := x0, images := x1 } :=
  { h with
    cores := fun hx => (clash (i := 42) h0 hx).elim
    images := fun hx => (clash (i := 43) h1 hx).elim
    page := h.page
    wf := h.wf }

theorem upd_journal_plinth_keep_tel_cast {K : Nat} {s t : State} (h : Within K s t) (h0 : 16 ||| K = K) (h1 : 1073741824 ||| K = K) (h2 : 2147483648 ||| K = K) (h3 : 17179869184 ||| K = K) (h4 : 34359738368 ||| K = K)
    (x0) (x1) (x2) (x3) (x4) : Within K s { t with journal := x0, plinth := x1, keep := x2, tel := x3, cast := x4 } :=
  { h with
    journal := fun hx => (clash (i := 4) h0 hx).elim
    plinth := fun hx => (clash (i := 30) h1 hx).elim
    keep := fun hx => (clash (i := 31) h2 hx).elim
    tel := fun hx => (clash (i := 34) h3 hx).elim
    cast := fun hx => (clash (i := 35) h4 hx).elim
    page := h.page
    wf := h.wf }

theorem upd_nowNs_elapsedNs_timeBase {K : Nat} {s t : State} (h : Within K s t) (h0 : 1024 ||| K = K) (h1 : 2048 ||| K = K) (h2 : 140737488355328 ||| K = K)
    (x0) (x1) (x2) : Within K s { t with nowNs := x0, elapsedNs := x1, timeBase := x2 } :=
  { h with
    nowNs := fun hx => (clash (i := 10) h0 hx).elim
    elapsedNs := fun hx => (clash (i := 11) h1 hx).elim
    timeBase := fun hx => (clash (i := 47) h2 hx).elim
    page := h.page
    wf := h.wf }

theorem upd_nowNs_timeBase {K : Nat} {s t : State} (h : Within K s t) (h0 : 1024 ||| K = K) (h1 : 140737488355328 ||| K = K)
    (x0) (x1) : Within K s { t with nowNs := x0, timeBase := x1 } :=
  { h with
    nowNs := fun hx => (clash (i := 10) h0 hx).elim
    timeBase := fun hx => (clash (i := 47) h1 hx).elim
    page := h.page
    wf := h.wf }

theorem upd_journal_archive_cast {K : Nat} {s t : State} (h : Within K s t) (h0 : 16 ||| K = K) (h1 : 4294967296 ||| K = K) (h2 : 34359738368 ||| K = K)
    (x0) (x1) (x2) : Within K s { t with journal := x0, archive := x1, cast := x2 } :=
  { h with
    journal := fun hx => (clash (i := 4) h0 hx).elim
    archive := fun hx => (clash (i := 32) h1 hx).elim
    cast := fun hx => (clash (i := 35) h2 hx).elim
    page := h.page
    wf := h.wf }

theorem upd_nowNs_elapsedNs {K : Nat} {s t : State} (h : Within K s t) (h0 : 1024 ||| K = K) (h1 : 2048 ||| K = K)
    (x0) (x1) : Within K s { t with nowNs := x0, elapsedNs := x1 } :=
  { h with
    nowNs := fun hx => (clash (i := 10) h0 hx).elim
    elapsedNs := fun hx => (clash (i := 11) h1 hx).elim
    page := h.page
    wf := h.wf }

end Within

/-! Canonical memories. -/

theorem writeBytes_wf (m : Sparse Byte) (a : Nat) (bs : List Byte) (h : byteMapWf m = true) :
    byteMapWf (writeBytes m a bs) = true := by
  induction bs generalizing m a with
  | nil => exact h
  | cons b bs ih => exact ih _ _ (sparseWrite_wf _ _ _ _ h)

theorem byteMapWf_ite {c : Prop} [Decidable c] {a b : Sparse Byte} (ha : byteMapWf a = true) (hb : byteMapWf b = true) :
    byteMapWf (if c then a else b) = true := by
  split
  · exact ha
  · exact hb

theorem get_wf (l : Vector (Sparse Byte) 8) (i : Fin 8) (h : l.all byteMapWf = true) : byteMapWf (l.get i) = true := by
  rw [Vector.all_eq_true] at h
  exact h i.val i.isLt

theorem set_all_wf (l : Vector (Sparse Byte) 8) (i : Nat) (hi : i < 8) (m : Sparse Byte) (h : l.all byteMapWf = true)
    (hm : byteMapWf m = true) : (l.set i m hi).all byteMapWf = true := by
  rw [Vector.all_eq_true] at h ⊢
  intro j hj
  rw [Vector.getElem_set]
  split
  · exact hm
  · exact h j hj

theorem Memories.wf_of {a b : MemoryWatch} {lp : Sparse Byte} {gr po : Sparse Bool} {fi fa : List Nat} {li : Option Nat}
    (h1 : byteMapWf lp = true) (h2 : sparseWf (fun _ => false) gr = true) (h3 : sparseWf (fun _ => false) po = true) :
    (Memories.mk a b lp gr fi po fa li).wf = true := by
  simp [Memories.wf, h1, h2, h3]

theorem Memories.wf_lpddr {m : Memories} (h : m.wf = true) : byteMapWf m.lpddr = true := by
  simp only [Memories.wf, Bool.and_eq_true] at h; exact h.1.1

theorem Memories.wf_granules {m : Memories} (h : m.wf = true) : sparseWf (fun _ => false) m.granules = true := by
  simp only [Memories.wf, Bool.and_eq_true] at h; exact h.1.2

theorem Memories.wf_poisoned {m : Memories} (h : m.wf = true) : sparseWf (fun _ => false) m.poisoned = true := by
  simp only [Memories.wf, Bool.and_eq_true] at h; exact h.2

end Sys2Proof.Machine
end

