-- ==== Sys2Proof/Laws/Ops.lean ====
section
/-! SUPPORT. Laws/Ops.lean: the parts of the state that each operation of Machine/Ops.lean can change. -/
namespace Sys2Proof.Machine

set_option Elab.async false

open Sys2Proof

theorem State.set_within {K : Nat} {s0 s : State} {p : Page} {f : Field} {v : Nat} (h : Within K s0 s) (hp : pageBit p ||| K = K) :
    Within K s0 (State.set s p f v) := by
  unfold State.set
  exact (Within.setWord h _ _ _ hp)

theorem State.setFlag_within {K : Nat} {s0 s : State} {p : Page} {f : Field} {b : Bool} (h : Within K s0 s) (hp : pageBit p ||| K = K) :
    Within K s0 (State.setFlag s p f b) := by
  unfold State.setFlag
  exact (State.set_within h hp)

theorem State.setInt_within {K : Nat} {s0 s : State} {p : Page} {f : Field} {i : Int} (h : Within K s0 s) (hp : pageBit p ||| K = K) :
    Within K s0 (State.setInt s p f i) := by
  unfold State.setInt
  exact (State.set_within h hp)

theorem State.addSat_within {K : Nat} {s0 s : State} {p : Page} {f : Field} {n : Nat} (h : Within K s0 s) (hp : pageBit p ||| K = K) :
    Within K s0 (State.addSat s p f n) := by
  unfold State.addSat
  exact (State.set_within h hp)

theorem State.bump_within {K : Nat} {s0 s : State} {p : Page} {f : Field} (h : Within K s0 s) (hp : pageBit p ||| K = K) :
    Within K s0 (State.bump s p f) := by
  unfold State.bump
  exact (State.addSat_within h hp)

theorem State.addWrap_within {K : Nat} {s0 s : State} {p : Page} {f : Field} {n : Nat} (h : Within K s0 s) (hp : pageBit p ||| K = K) :
    Within K s0 (State.addWrap s p f n) := by
  unfold State.addWrap
  exact (State.set_within h hp)

theorem State.setPair_within {K : Nat} {s0 s : State} {p : Page} {lo : Field} {y3 : Field} {v : Nat} (h : Within K s0 s) (hp : pageBit p ||| K = K) :
    Within K s0 (State.setPair s p lo y3 v) := by
  unfold State.setPair
  exact (State.set_within (State.set_within h hp) hp)

theorem State.addPair_within {K : Nat} {s0 s : State} {p : Page} {lo : Field} {y3 : Field} {n : Nat} (h : Within K s0 s) (hp : pageBit p ||| K = K) :
    Within K s0 (State.addPair s p lo y3 n) := by
  unfold State.addPair
  exact (State.setPair_within h hp)

theorem State.clearAll_within {K : Nat} {s0 s : State} {p : Page} {fs : List Field} (h : Within K s0 s) (hp : pageBit p ||| K = K) :
    Within K s0 (State.clearAll s p fs) := by
  unfold State.clearAll
  exact (Within.foldl _ (fun _ _ h1 => (State.set_within h1 hp))
    h)

theorem State.clearArray_within {K : Nat} {s0 s : State} {p : Page} {f : Field} (h : Within K s0 s) (hp : pageBit p ||| K = K) :
    Within K s0 (State.clearArray s p f) := by
  unfold State.clearArray
  exact (Within.foldl _ (fun _ _ h1 => (State.set_within h1 hp))
    h)

theorem unstage_within {K : Nat} {addr : Nat} {s0 s : State} (h : Within K s0 s) (hk : 2251799813685248 ||| K = K) :
    Within K s0 (unstage addr s) := by
  unfold unstage
  exact (Within.upd_staged h hk _)

theorem stage_within {K : Nat} {addr : Nat} {w : Word} {s0 s : State} (h : Within K s0 s) (hk : 2251799813685248 ||| K = K) :
    Within K s0 (stage addr w s) := by
  unfold stage
  exact (Within.upd_staged h hk _)

theorem State.setRun_within {K : Nat} {s0 s : State} {p : Page} {r : RunState} (h : Within K s0 s) (hp : pageBit p ||| K = K) :
    Within K s0 (State.setRun s p r) := by
  unfold State.setRun
  exact (State.set_within h hp)

theorem State.setFramer_within {K : Nat} {s0 s : State} {c : Carrier} {x : Framer} (h : Within K s0 s) (hk : 4096 ||| K = K) :
    Within K s0 (State.setFramer s c x) := by
  unfold State.setFramer
  exact (Within.upd_framer h hk _)

theorem State.setFec_within {K : Nat} {s0 s : State} {c : Carrier} {x : FecState} (h : Within K s0 s) (hk : 8192 ||| K = K) :
    Within K s0 (State.setFec s c x) := by
  unfold State.setFec
  exact (Within.upd_fec h hk _)

theorem State.setCpc_within {K : Nat} {s0 s : State} {c : Carrier} {x : ClientPcs} (h : Within K s0 s) (hk : 16384 ||| K = K) :
    Within K s0 (State.setCpc s c x) := by
  unfold State.setCpc
  exact (Within.upd_cpc h hk _)

theorem State.setCipher_within {K : Nat} {s0 s : State} {c : Carrier} {x : CipherState} (h : Within K s0 s) (hk : 32768 ||| K = K) :
    Within K s0 (State.setCipher s c x) := by
  unfold State.setCipher
  exact (Within.upd_cipher h hk _)

theorem State.drawn_within {K : Nat} {s0 s : State} (h : Within K s0 s) (hk : 1125899906842624 ||| K = K) :
    Within K s0 (State.drawn s) := by
  unfold State.drawn
  exact (Within.upd_freeCount h hk _)

theorem countKey_within {K : Nat} {s0 s : State} {key n : Nat} (h : Within K s0 s) (hk : 512 ||| K = K) :
    Within K s0 (countKey s key n) := by
  unfold countKey
  exact Within.upd_tickEvents h hk _ (sparseWrite_wf _ _ _ _)

theorem State.countFabric_within {K : Nat} {s0 s : State} {code : Nat} {n : Nat} (h : Within K s0 s) (hk : 512 ||| K = K) :
    Within K s0 (State.countFabric s code n) := by
  unfold State.countFabric
  exact (countKey_within h hk)

theorem State.countCore_within {K : Nat} {s0 s : State} {core : Fin 8} {code : Nat} {n : Nat} (h : Within K s0 s) (hk : 512 ||| K = K) :
    Within K s0 (State.countCore s core code n) := by
  unfold State.countCore
  exact (countKey_within h hk)

theorem sendMessages_within {K : Nat} {p : Page} {s : State} {s0 y2 : State} (h : Within K s0 y2) (hk : 32 ||| K = K) :
    Within K s0 (sendMessages p s y2) := by
  unfold sendMessages
  extract_lets -merge -useContext x1
  try clear_value x1
  exact (Within.upd_evr h hk _)

theorem State.setRaw_within {K : Nat} {s0 s : State} {p : Page} {raw : Nat} (h : Within K s0 s) (hk : 32 ||| K = K) (hp : pageBit p ||| K = K) :
    Within K s0 (State.setRaw s p raw) := by
  unfold State.setRaw
  exact (sendMessages_within (State.set_within h hp) hk)

theorem State.raise_within {K : Nat} {s0 s : State} {p : Page} {b : Nat} (h : Within K s0 s) (hk : 32 ||| K = K) (hp : pageBit p ||| K = K) :
    Within K s0 (State.raise s p b) := by
  unfold State.raise
  exact (State.setRaw_within h hk hp)

theorem State.raiseIf_within {K : Nat} {s0 s : State} {c : Bool} {p : Page} {b : Nat} (h : Within K s0 s) (hk : 32 ||| K = K) (hp : pageBit p ||| K = K) :
    Within K s0 (State.raiseIf s c p b) := by
  unfold State.raiseIf
  exact (Within.ite (State.raise_within h hk hp)
    h)

theorem State.errlog_within {K : Nat} {s0 s : State} {p : Page} {code : Nat} {detail : Nat} (h : Within K s0 s) (hp : pageBit p ||| K = K) :
    Within K s0 (State.errlog s p code detail) := by
  unfold State.errlog
  exact (State.set_within
    (State.set_within
      (State.set_within (State.bump_within h hp) hp) hp) hp)

theorem noteTrigger_within {K : Nat} {s0 s : State} {b : Nat} (h : Within K s0 s) (hk : 34359738368 ||| K = K) :
    Within K s0 (noteTrigger s b) := by
  unfold noteTrigger
  extract_lets -merge -useContext x1
  try clear_value x1
  exact (Within.ite (Within.upd_cast h hk _)
    h)

theorem startTimer_within {K : Nat} {y0 : Timer} {s0 s : State} (h : Within K s0 s) (hk : 4503599627370496 ||| K = K) :
    Within K s0 (startTimer y0 s) := by
  unfold startTimer
  exact (Within.upd_timers h hk _)

theorem stopTimer_within {K : Nat} {y0 : Timer} {s0 s : State} (h : Within K s0 s) (hk : 4503599627370496 ||| K = K) :
    Within K s0 (stopTimer y0 s) := by
  unfold stopTimer
  exact (Within.upd_timers h hk _)

theorem markGranule_within {K : Nat} {s0 s : State} {a : Nat} (h : Within K s0 s)
    (hk : 302231454904756805304320 ||| K = K) : Within K s0 (markGranule s a) := by
  unfold markGranule
  dsimp -proj only
  refine Within.ite h (State.addSat_within (Within.upd_memories h (Within.sub hk (by simp)) _ ?_)
    (Within.sub hk (by simp)))
  intro hm
  simp only [Memories.wf, Bool.and_eq_true] at hm ⊢
  exact ⟨⟨hm.1.1, sparseWrite_wf _ _ _ _ hm.1.2⟩, hm.2⟩

theorem requestSignature_within {K : Nat} {s0 s : State} {seqNo : Nat} {timeNs : Nat} (h : Within K s0 s) (hk : 16 ||| K = K) :
    Within K s0 (requestSignature s seqNo timeNs) := by
  unfold requestSignature
  extract_lets -merge -useContext x1 x2 x3
  try clear_value x1
  try clear_value x2
  try clear_value x3
  split
  · skip
    exact (Within.upd_journal h hk _)
  · skip
    exact (Within.upd_journal h hk _)

theorem noteOldest_within {K : Nat} {kept : List JournalEntry} {s0 s : State} (h : Within K s0 s) (hk : 73786976294838206464 ||| K = K) :
    Within K s0 (noteOldest kept s) := by
  unfold noteOldest
  split
  · skip
    exact h
  · skip
    exact (State.setPair_within h (Within.sub hk (by simp)))

theorem spillEntries_within {K : Nat} {s0 s : State} {n : Nat} (h : Within K s0 s) (hk : 302305241881051643510800 ||| K = K) :
    Within K s0 (spillEntries s n).1 := by
  unfold spillEntries
  extract_lets -merge -useContext x1 x2 x3 x4 x5 x6 x7 x8
  try clear_value x1
  try clear_value x2
  try clear_value x3
  try clear_value x4
  have h5 : Within K s0 x5 := by
    unfold x5
    exact (Within.foldl _ (fun _ _ h9 => (markGranule_within h9 (Within.sub hk (by simp))))
      h)
  clear_value x5
  try clear_value x6
  have h7 : Within K s0 x7 := by
    unfold x7
    exact (Within.upd_journal h5 (Within.sub hk (by simp)) _)
  clear_value x7
  have h8 : Within K s0 x8 := by
    unfold x8
    exact (State.set_within h7 (Within.sub hk (by simp)))
  clear_value x8
  exact (Within.fst (noteOldest_within h8 (Within.sub hk (by simp))))

theorem enterEntry_within {K : Nat} {s0 s : State} {addr : Nat} {old : Word} {new : Word} {info : Word} (h : Within K s0 s) (hk : 73786976294838206512 ||| K = K) :
    Within K s0 (enterEntry s addr old new info) := by
  unfold enterEntry
  extract_lets -merge -useContext x1 x2 x3 x4 x5 x6 x7 x8 x9 x10 x11
  try clear_value x1
  try clear_value x2
  try clear_value x3
  try clear_value x4
  try clear_value x5
  try clear_value x6
  have h7 : Within K s0 x7 := by
    unfold x7
    exact (Within.upd_journal h (Within.sub hk (by simp)) _)
  clear_value x7
  have h8 : Within K s0 x8 := by
    unfold x8
    exact (State.setPair_within h7 (Within.sub hk (by simp)))
  clear_value x8
  have h9 : Within K s0 x9 := by
    unfold x9
    exact (State.set_within h8 (Within.sub hk (by simp)))
  clear_value x9
  have h10 : Within K s0 x10 := by
    unfold x10
    exact (Within.ite (requestSignature_within h9 (Within.sub hk (by simp)))
      h9)
  clear_value x10
  try clear_value x11
  exact (Within.ite (State.raise_within
      (Within.upd_journal h10 (Within.sub hk (by simp)) _) (Within.sub hk (by simp)) (Within.sub hk (by simp)))
    h10)

theorem spillJournal_within {K : Nat} {s0 s : State} {n : Nat} (h : Within K s0 s) (hk : 302305241881051643510832 ||| K = K) :
    Within K s0 (spillJournal s n) := by
  unfold spillJournal
  extract_lets -merge -useContext x1 x2
  have h1 : Within K s0 x1.1 := by
    unfold x1
    exact (spillEntries_within h (Within.sub hk (by simp)))
  clear_value x1
  have h2 : Within K s0 x2 := by
    unfold x2
    exact (State.addSat_within h1 (Within.sub hk (by simp)))
  clear_value x2
  exact (Within.ite h1
    (State.raise_within
      (enterEntry_within h2 (Within.sub hk (by simp))) (Within.sub hk (by simp)) (Within.sub hk (by simp))))

theorem appendEntry_within {K : Nat} {s0 s : State} {addr : Nat} {old : Word} {new : Word} {info : Word} (h : Within K s0 s) (hk : 302305241881051643510832 ||| K = K) :
    Within K s0 (appendEntry s addr old new info) := by
  unfold appendEntry
  extract_lets -merge -useContext x1
  have h1 : Within K s0 x1 := by
    unfold x1
    exact (Within.ite (spillJournal_within h hk)
      h)
  clear_value x1
  exact (enterEntry_within h1 (Within.sub hk (by simp)))

theorem appendMarker_within {K : Nat} {s0 s : State} {m : Marker} {old : Nat} {new : Nat} (h : Within K s0 s) (hk : 302305241881051643510832 ||| K = K) :
    Within K s0 (appendMarker s m old new) := by
  unfold appendMarker
  exact (appendEntry_within h hk)

theorem journalAccepted_within {K : Nat} {s0 s : State} {o : Origin} {addr : Nat} {old : Word} {new : Word} (h : Within K s0 s) (hk : 302305241881051643510832 ||| K = K) :
    Within K s0 (journalAccepted s o addr old new) := by
  unfold journalAccepted
  exact (appendEntry_within h hk)

theorem journalRefused_within {K : Nat} {s0 s : State} {o : Origin} {addr : Nat} {old : Word} {new : Word} {r : Reason} (h : Within K s0 s) (hk : 302305241881051643510832 ||| K = K) :
    Within K s0 (journalRefused s o addr old new r) := by
  unfold journalRefused
  exact (appendEntry_within h hk)

theorem countUnlogged_within {K : Nat} {s0 s : State} (h : Within K s0 s) (hk : 73786976294838206480 ||| K = K) :
    Within K s0 (countUnlogged s) := by
  unfold countUnlogged
  extract_lets -merge -useContext x1
  try clear_value x1
  exact (State.bump_within
    (Within.upd_journal h (Within.sub hk (by simp)) _) (Within.sub hk (by simp)))

theorem hardwareWrite_within {K : Nat} {s0 s : State} {p : Page} {y2 : Nat} {w : Word} (h : Within K s0 s) (hk : 302305244132851457196080 ||| K = K) (hp : pageBit p ||| K = K) :
    Within K s0 (hardwareWrite s p y2 w) := by
  unfold hardwareWrite
  extract_lets -merge -useContext x1 x2
  try clear_value x1
  have h2 : Within K s0 x2 := by
    unfold x2
    exact (State.addWrap_within
      (unstage_within (Within.setWord h _ _ _ hp) (Within.sub hk (by simp))) hp)
  clear_value x2
  exact (Within.ite h
    (Within.ite (countUnlogged_within h (Within.sub hk (by simp)))
      (journalAccepted_within h2 (Within.sub hk (by simp)))))

theorem hardwareStrobe_within {K : Nat} {s0 s : State} {p : Page} {f : Field} (h : Within K s0 s) (hk : 302305241881051643510832 ||| K = K) (hp : pageBit p ||| K = K) :
    Within K s0 (hardwareStrobe s p f) := by
  unfold hardwareStrobe
  extract_lets -merge -useContext x1
  try clear_value x1
  exact (Within.ite (countUnlogged_within h (Within.sub hk (by simp)))
    (journalAccepted_within (State.addWrap_within h hp) hk))

theorem secLog_within {K : Nat} {s0 s : State} {kind : SecKind} {carrier : Nat} {detail : Nat} (h : Within K s0 s) (hk : 2535301200456458802994480152576 ||| K = K) :
    Within K s0 (secLog s kind carrier detail) := by
  unfold secLog
  extract_lets -merge -useContext x1 x2 x3 x4 x5 x6
  try clear_value x1
  try clear_value x2
  try clear_value x3
  try clear_value x5
  have h6 : Within K s0 x6 := by
    unfold x6
    exact (Within.upd_plinth h (Within.sub hk (by simp)) _)
  clear_value x6
  exact (Within.ite h
    (State.setPair_within h6 (Within.sub hk (by simp))))

theorem State.setPwr_within {K : Nat} {s0 s : State} {x : PowerManager} (h : Within K s0 s) (hk : 70368744177664 ||| K = K) :
    Within K s0 (State.setPwr s x) := by
  unfold State.setPwr
  exact (Within.upd_pwrMgr h hk _)

theorem State.noteSlip_within {K : Nat} {s0 s : State} (h : Within K s0 s) (hk : 70368744177664 ||| K = K) :
    Within K s0 (State.noteSlip s) := by
  unfold State.noteSlip
  extract_lets -merge -useContext x1
  try clear_value x1
  exact (State.setPwr_within h hk)

end Sys2Proof.Machine
end

