-- ==== Sys2Proof/Laws/KeepStore.lean ====
section
/-! SUPPORT. Laws/KeepStore.lean: the parts of the state that each operation of Machine/KeepStore.lean can change. -/
namespace Sys2Proof.Machine

set_option Elab.async false

open Sys2Proof

theorem keepShow_within {K : Nat} {a : Nat} {s0 s : State} (h : Within K s0 s) (hk : 1208925819614629174706176 ||| K = K) :
    Within K s0 (keepShow a s) := by
  unfold keepShow
  extract_lets -merge -useContext x1 x2 x3 x4
  try clear_value x1
  try clear_value x2
  try clear_value x3
  have h4 : Within K s0 x4 := by
    unfold x4
    exact (State.set_within h (Within.sub hk (by simp)))
  clear_value x4
  exact (State.set_within h4 (Within.sub hk (by simp)))

theorem keepCommit_within {K : Nat} {a : Nat} {payload : List Nat} {s0 s : State} (h : Within K s0 s) (hk : 1208925819614631322189824 ||| K = K) :
    Within K s0 (keepCommit a payload s) := by
  unfold keepCommit
  extract_lets -merge -useContext x1 x2 x3 x4 x5 x6
  try clear_value x1
  try clear_value x2
  try clear_value x3
  try clear_value x4
  try clear_value x5
  have h6 : Within K s0 x6 := by
    unfold x6
    exact (Within.upd_keep h (Within.sub hk (by simp)) _)
  clear_value x6
  exact (keepShow_within
    (State.bump_within h6 (Within.sub hk (by simp))) (Within.sub hk (by simp)))

theorem putWear_within {K : Nat} {s0 s : State} {b : Nat} {w : Nat} (h : Within K s0 s) (hk : 2147483648 ||| K = K) :
    Within K s0 (putWear s b w) := by
  unfold putWear
  extract_lets -merge -useContext x1
  try clear_value x1
  exact (Within.upd_keep h hk _)

theorem archiveRefuse_within {K : Nat} {s0 s : State} (h : Within K s0 s) (hk : 151115727451828646838272 ||| K = K) :
    Within K s0 (archiveRefuse s) := by
  unfold archiveRefuse
  exact (Within.ite (State.bump_within h (Within.sub hk (by simp)))
    h)

end Sys2Proof.Machine
end

