-- ==== Sys2Proof/Laws/Calibration.lean ====
section
/-! SUPPORT. Laws/Calibration.lean: the parts of the state that each operation of Machine/Calibration.lean can change. -/
namespace Sys2Proof.Machine

set_option Elab.async false

open Sys2Proof

theorem setTrim_within {K : Nat} {s0 s : State} {item : Nat} {unit : Nat} {sub : Nat} {v : Int} (h : Within K s0 s) (hk : 262144 ||| K = K) :
    Within K s0 (setTrim s item unit sub v) := by
  unfold setTrim
  extract_lets -merge -useContext x1
  try clear_value x1
  exact (Within.upd_cal h hk _)

theorem setCalCount_within {K : Nat} {s0 s : State} {item : Nat} {unit : Nat} {x : CalCount} (h : Within K s0 s) (hk : 262144 ||| K = K) :
    Within K s0 (setCalCount s item unit x) := by
  unfold setCalCount
  extract_lets -merge -useContext x1
  try clear_value x1
  exact (Within.upd_cal h hk _)

theorem calMeasure_within {K : Nat} {item : Nat} {unit : Nat} {sub : Nat} {m1 : Int} {m2 : Int} {s0 s : State} (h : Within K s0 s) (hk : 590295810358705913888 ||| K = K) :
    Within K s0 (calMeasure item unit sub m1 m2 s) := by
  unfold calMeasure
  extract_lets -merge -useContext x1 x2 x3
  try clear_value x1
  have h2 : Within K s0 x2 := by
    unfold x2
    exact (setTrim_within h (Within.sub hk (by simp)))
  clear_value x2
  have h3 : Within K s0 x3 := by
    unfold x3
    exact (setCalCount_within h (Within.sub hk (by simp)))
  clear_value x3
  exact (Within.ite (setCalCount_within h2 (Within.sub hk (by simp)))
    (State.raise_within
      (State.set_within h3 (Within.sub hk (by simp))) (Within.sub hk (by simp)) (Within.sub hk (by simp))))

theorem calMeasureAll_within {K : Nat} {item : Nat} {unit : Nat} {ms : List (Int × Int)} {s0 s : State} (h : Within K s0 s) (hk : 590295810358705913888 ||| K = K) :
    Within K s0 (calMeasureAll item unit ms s) := by
  unfold calMeasureAll
  exact (Within.foldl _ (fun _ _ h1 => (by
      extract_lets -merge -useContext x2
      try clear_value x2
      exact (calMeasure_within h1 hk)))
    h)

theorem calApply_within {K : Nat} {x : CalSet} {s0 s : State} (h : Within K s0 s) (hk : 590295810358705913856 ||| K = K) :
    Within K s0 (calApply x s) := by
  unfold calApply
  extract_lets -merge -useContext x1
  try clear_value x1
  exact (State.set_within
    (Within.upd_cal h (Within.sub hk (by simp)) _) (Within.sub hk (by simp)))

end Sys2Proof.Machine
end

