-- ==== Sys2Proof/Laws/FecEncoder.lean ====
section
/-! SUPPORT. Laws/FecEncoder.lean: the parts of the state that each operation of Machine/FecEncoder.lean can change. -/
namespace Sys2Proof.Machine

set_option Elab.async false

open Sys2Proof

theorem putEncoder_within {K : Nat} {s0 s : State} {c : Carrier} {y2 : Encoder} (h : Within K s0 s) (hk : 8192 ||| K = K) :
    Within K s0 (putEncoder s c y2) := by
  unfold putEncoder
  extract_lets -merge -useContext x1
  try clear_value x1
  exact (State.setFec_within h hk)

theorem sendInfo_within {K : Nat} {c : Carrier} {frame : BitVec 132096} {s0 s : State} (h : Within K s0 s) (hk : 8192 ||| K = K) :
    Within K s0 (sendInfo c frame s) := by
  unfold sendInfo
  extract_lets -merge -useContext x1
  try clear_value x1
  exact (putEncoder_within h hk)

end Sys2Proof.Machine
end

