-- ==== Sys2Proof/Laws/Arch.lean ====
section
/-! SUPPORT. Laws/Arch.lean: the parts of the state that each operation of Machine/Arch.lean can change. -/
namespace Sys2Proof.Machine

set_option Elab.async false

open Sys2Proof

theorem lockLose_within {K : Nat} {s0 s : State} (h : Within K s0 s) (hk : 18446744073709551904 ||| K = K) :
    Within K s0 (lockLose s) := by
  unfold lockLose
  exact (State.raise_within
    (State.bump_within
      (State.set_within
        (Within.upd_pairMatches h (Within.sub hk (by simp)) _) (Within.sub hk (by simp))) (Within.sub hk (by simp))) (Within.sub hk (by simp)) (Within.sub hk (by simp)))

theorem lockAchieve_within {K : Nat} {s0 s : State} (h : Within K s0 s) (hk : 309485028268089142434332704 ||| K = K) :
    Within K s0 (lockAchieve s) := by
  unfold lockAchieve
  exact (State.set_within
    (State.set_within
      (State.raise_within
        (State.set_within h (Within.sub hk (by simp))) (Within.sub hk (by simp)) (Within.sub hk (by simp))) (Within.sub hk (by simp))) (Within.sub hk (by simp)))

theorem lockFrameLeft_within {K : Nat} {s0 s : State} (h : Within K s0 s) (hk : 18446744073709551904 ||| K = K) :
    Within K s0 (lockFrameLeft s) := by
  unfold lockFrameLeft
  exact (Within.ite (lockLose_within h hk)
    h)

theorem lockFrameEntered_within {K : Nat} {s0 s : State} (h : Within K s0 s) (hk : 18446744073709551872 ||| K = K) :
    Within K s0 (lockFrameEntered s) := by
  unfold lockFrameEntered
  exact (Within.ite (State.set_within
      (Within.upd_pairMatches h (Within.sub hk (by simp)) _) (Within.sub hk (by simp)))
    h)

theorem lockStart_within {K : Nat} {s0 s : State} (h : Within K s0 s) (hk : 18446744073709551872 ||| K = K) :
    Within K s0 (lockStart s) := by
  unfold lockStart
  exact (Within.ite (State.set_within
      (Within.upd_pairMatches h (Within.sub hk (by simp)) _) (Within.sub hk (by simp)))
    (Within.ite (State.set_within
        (Within.upd_pairMatches h (Within.sub hk (by simp)) _) (Within.sub hk (by simp)))
      h))

theorem csfPairCompare_within {K : Nat} {csfA : BitVec 40} {csfB : BitVec 40} {skew : Option Nat} {s0 s : State} (h : Within K s0 s) (hk : 309485028268089142434332960 ||| K = K) :
    Within K s0 (csfPairCompare csfA csfB skew s) := by
  unfold csfPairCompare
  extract_lets -merge -useContext x1 x2 x3 x4
  have h1 : Within K s0 x1 := by
    unfold x1
    exact (State.set_within h (Within.sub hk (by simp)))
  clear_value x1
  try clear_value x2
  try clear_value x3
  try clear_value x4
  exact (Within.ite h1
    (Within.ite (Within.ite (Within.ite (lockAchieve_within
            (Within.upd_pairMatches h1 (Within.sub hk (by simp)) _) (Within.sub hk (by simp)))
          (Within.upd_pairMatches h1 (Within.sub hk (by simp)) _))
        (Within.upd_pairMatches h1 (Within.sub hk (by simp)) _))
      (Within.ite (Within.ite h1
          (lockLose_within h1 (Within.sub hk (by simp))))
        (Within.ite (lockFrameEntered_within h1 (Within.sub hk (by simp)))
          h1))))

theorem jointRelease_within {K : Nat} {c : Carrier} {s0 s : State} (h : Within K s0 s) (hk : 309485009821345068724781056 ||| K = K) :
    Within K s0 (jointRelease c s) := by
  unfold jointRelease
  exact (Within.ite h
    (State.set_within h (Within.sub hk (by simp))))

theorem setSemaphore_within {K : Nat} {s0 s : State} {n : Nat} {x : Semaphore} (h : Within K s0 s) (hk : 128 ||| K = K) :
    Within K s0 (setSemaphore s n x) := by
  unfold setSemaphore
  exact (Within.upd_semaphores h hk _)

theorem semAcquire_within {K : Nat} {o : Origin} {n : Nat} {s0 s : State} (h : Within K s0 s) (hk : 1267650600228229401496703205504 ||| K = K) :
    Within K s0 (semAcquire o n s) := by
  unfold semAcquire
  extract_lets -merge -useContext x1 x2
  try clear_value x1
  have h2 : Within K s0 x2 := by
    unfold x2
    exact (setSemaphore_within h (Within.sub hk (by simp)))
  clear_value x2
  exact (Within.ite (State.set_within
      (State.set_within
        (State.bump_within h2 (Within.sub hk (by simp))) (Within.sub hk (by simp))) (Within.sub hk (by simp)))
    (by
      split
      · skip
        exact (setSemaphore_within h (Within.sub hk (by simp)))
      · skip
        exact (setSemaphore_within h (Within.sub hk (by simp)))))

theorem semRelease_within {K : Nat} {o : Origin} {n : Nat} {s0 s : State} (h : Within K s0 s) (hk : 128 ||| K = K) :
    Within K s0 (semRelease o n s) := by
  unfold semRelease
  extract_lets -merge -useContext x1
  try clear_value x1
  exact (Within.ite (setSemaphore_within h hk)
    h)

theorem semForce_within {K : Nat} {o : Origin} {s0 s : State} (h : Within K s0 s) (hk : 1267650600228229401496703205536 ||| K = K) :
    Within K s0 (semForce o s) := by
  unfold semForce
  exact (Within.ite (State.raise_within
      (Within.upd_semaphores h (Within.sub hk (by simp)) _) (Within.sub hk (by simp)) (Within.sub hk (by simp)))
    h)

theorem vcViolation_within {K : Nat} {o : Origin} {s0 s : State} (h : Within K s0 s) (hk : 1267650600228229401496703205920 ||| K = K) :
    Within K s0 (vcViolation o s) := by
  unfold vcViolation
  exact (Within.ite h
    (State.raise_within
      (State.countFabric_within h (Within.sub hk (by simp))) (Within.sub hk (by simp)) (Within.sub hk (by simp))))

end Sys2Proof.Machine
end

