-- ==== Sys2Proof/Laws/Cipher.lean ====
section
/-! SUPPORT. Laws/Cipher.lean: the parts of the state that each operation of Machine/Cipher.lean can change. -/
namespace Sys2Proof.Machine

set_option Elab.async false

open Sys2Proof

theorem putTxSlot_within {K : Nat} {s0 s : State} {c : Carrier} {i : Nat} {k : KeySlot} (h : Within K s0 s) (hk : 32768 ||| K = K) :
    Within K s0 (putTxSlot s c i k) := by
  unfold putTxSlot
  extract_lets -merge -useContext x1
  try clear_value x1
  exact (State.setCipher_within h hk)

theorem putRxSlot_within {K : Nat} {s0 s : State} {c : Carrier} {i : Nat} {k : KeySlot} (h : Within K s0 s) (hk : 32768 ||| K = K) :
    Within K s0 (putRxSlot s c i k) := by
  unfold putRxSlot
  extract_lets -merge -useContext x1
  try clear_value x1
  exact (State.setCipher_within h hk)

theorem showTxSlot_within {K : Nat} {s0 s : State} {c : Carrier} {i : Nat} {st : Nat} {ratchet : Nat} {epoch : Nat} {kcv : Nat} (h : Within K s0 s) (hk : 19807040628566084398385987584 ||| K = K) :
    Within K s0 (showTxSlot s c i st ratchet epoch kcv) := by
  unfold showTxSlot
  exact (State.set_within
    (State.set_within
      (State.set_within
        (State.set_within h (Within.sub hk (by simp))) (Within.sub hk (by simp))) (Within.sub hk (by simp))) (Within.sub hk (by simp)))

theorem showRxSlot_within {K : Nat} {s0 s : State} {c : Carrier} {i : Nat} {st : Nat} {ratchet : Nat} {epoch : Nat} {kcv : Nat} (h : Within K s0 s) (hk : 19807040628566084398385987584 ||| K = K) :
    Within K s0 (showRxSlot s c i st ratchet epoch kcv) := by
  unfold showRxSlot
  exact (State.set_within
    (State.set_within
      (State.set_within
        (State.set_within h (Within.sub hk (by simp))) (Within.sub hk (by simp))) (Within.sub hk (by simp))) (Within.sub hk (by simp)))

theorem loadTxSlot_within {K : Nat} {s0 s : State} {c : Carrier} {i : Nat} {k : KeySlot} {ratchet : Nat} {epoch : Nat} {kcv : Nat} (h : Within K s0 s) (hk : 19807040628566084398386020352 ||| K = K) :
    Within K s0 (loadTxSlot s c i k ratchet epoch kcv) := by
  unfold loadTxSlot
  exact (showTxSlot_within
    (putTxSlot_within h (Within.sub hk (by simp))) (Within.sub hk (by simp)))

theorem refreshRx_within {K : Nat} {s0 s : State} {c : Carrier} (h : Within K s0 s) (hk : 19807040628566084398385987584 ||| K = K) :
    Within K s0 (refreshRx s c) := by
  unfold refreshRx
  extract_lets -merge -useContext x1 x2
  try clear_value x1
  have h2 : Within K s0 x2 := by
    unfold x2
    exact (State.set_within h (Within.sub hk (by simp)))
  clear_value x2
  exact (State.set_within h2 (Within.sub hk (by simp)))

theorem loadRxSlot_within {K : Nat} {s0 s : State} {c : Carrier} {i : Nat} {k : KeySlot} {ratchet : Nat} {epoch : Nat} {kcv : Nat} (h : Within K s0 s) (hk : 19807040628566084398386020352 ||| K = K) :
    Within K s0 (loadRxSlot s c i k ratchet epoch kcv) := by
  unfold loadRxSlot
  exact (refreshRx_within
    (showRxSlot_within
      (putRxSlot_within h (Within.sub hk (by simp))) (Within.sub hk (by simp))) (Within.sub hk (by simp)))

theorem eraseTxSlot_within {K : Nat} {s0 s : State} {c : Carrier} {i : Nat} (h : Within K s0 s) (hk : 19807040628566084398386020352 ||| K = K) :
    Within K s0 (eraseTxSlot s c i) := by
  unfold eraseTxSlot
  exact (showTxSlot_within
    (putTxSlot_within h (Within.sub hk (by simp))) (Within.sub hk (by simp)))

theorem eraseRxSlot_within {K : Nat} {s0 s : State} {c : Carrier} {i : Nat} (h : Within K s0 s) (hk : 19807040628566084398386020352 ||| K = K) :
    Within K s0 (eraseRxSlot s c i) := by
  unfold eraseRxSlot
  exact (refreshRx_within
    (showRxSlot_within
      (putRxSlot_within h (Within.sub hk (by simp))) (Within.sub hk (by simp))) (Within.sub hk (by simp)))

theorem blankRest_within {K : Nat} {s0 s : State} {c : Carrier} (h : Within K s0 s) (hk : 8192 ||| K = K) :
    Within K s0 (blankRest s c) := by
  unfold blankRest
  extract_lets -merge -useContext x1
  try clear_value x1
  exact (Within.ite h
    (putEncoder_within h hk))

theorem leaveEncrypting_within {K : Nat} {s0 s : State} {c : Carrier} {cause : Nat} (h : Within K s0 s) (hk : 2555108241085024887392866148384 ||| K = K) :
    Within K s0 (leaveEncrypting s c cause) := by
  unfold leaveEncrypting
  extract_lets -merge -useContext x1 x2
  have h1 : Within K s0 x1 := by
    unfold x1
    exact (blankRest_within h (Within.sub hk (by simp)))
  clear_value x1
  have h2 : Within K s0 x2 := by
    unfold x2
    exact (State.set_within
      (State.set_within h1 (Within.sub hk (by simp))) (Within.sub hk (by simp)))
  clear_value x2
  exact (Within.ite (secLog_within
      (State.raise_within h2 (Within.sub hk (by simp)) (Within.sub hk (by simp))) (Within.sub hk (by simp)))
    h)

theorem encryptBoundary_within {K : Nat} {s0 s : State} {c : Carrier} (h : Within K s0 s) (hk : 19807040628566084398385987584 ||| K = K) :
    Within K s0 (encryptBoundary s c) := by
  unfold encryptBoundary
  exact (Within.ite (State.set_within
      (State.set_within h (Within.sub hk (by simp))) (Within.sub hk (by simp)))
    h)

theorem plinthBlank_within {K : Nat} {s0 s : State} {c : Carrier} (h : Within K s0 s) (hk : 2555108241085024887392866181152 ||| K = K) :
    Within K s0 (plinthBlank s c) := by
  unfold plinthBlank
  extract_lets -merge -useContext x1
  try clear_value x1
  exact (leaveEncrypting_within
    (State.setCipher_within h (Within.sub hk (by simp))) (Within.sub hk (by simp)))

theorem plinthUnblank_within {K : Nat} {s0 s : State} {c : Carrier} (h : Within K s0 s) (hk : 32768 ||| K = K) :
    Within K s0 (plinthUnblank s c) := by
  unfold plinthUnblank
  extract_lets -merge -useContext x1
  try clear_value x1
  exact (State.setCipher_within h hk)

theorem endActivation_within {K : Nat} {s0 s : State} {c : Carrier} (h : Within K s0 s) (hk : 19807040628566084398386020352 ||| K = K) :
    Within K s0 (endActivation s c) := by
  unfold endActivation
  extract_lets -merge -useContext x1 x2
  try clear_value x1
  have h2 : Within K s0 x2 := by
    unfold x2
    exact (State.setCipher_within h (Within.sub hk (by simp)))
  clear_value x2
  exact (State.set_within
    (State.set_within
      (State.set_within h2 (Within.sub hk (by simp))) (Within.sub hk (by simp))) (Within.sub hk (by simp)))

theorem abandonOne_within {K : Nat} {s0 s : State} {c : Carrier} (h : Within K s0 s) (hk : 19807040628566084398386020384 ||| K = K) :
    Within K s0 (abandonOne s c) := by
  unfold abandonOne
  exact (Within.ite (State.raise_within
      (State.bump_within
        (endActivation_within h (Within.sub hk (by simp))) (Within.sub hk (by simp))) (Within.sub hk (by simp)) (Within.sub hk (by simp)))
    h)

theorem abandonActivation_within {K : Nat} {s0 s : State} {c : Carrier} (h : Within K s0 s) (hk : 19807040628566084398386020384 ||| K = K) :
    Within K s0 (abandonActivation s c) := by
  unfold abandonActivation
  extract_lets -merge -useContext x1
  have h1 : Within K s0 x1 := by
    unfold x1
    exact (abandonOne_within h hk)
  clear_value x1
  exact (Within.ite (abandonOne_within h1 hk)
    h1)

theorem invalidateTx_within {K : Nat} {s0 s : State} {c : Carrier} {cause : Nat} (h : Within K s0 s) (hk : 2555108241085024887392866181152 ||| K = K) :
    Within K s0 (invalidateTx s c cause) := by
  unfold invalidateTx
  extract_lets -merge -useContext x1 x2 x3 x4 x5
  have h1 : Within K s0 x1 := by
    unfold x1
    exact (abandonActivation_within h (Within.sub hk (by simp)))
  clear_value x1
  have h2 : Within K s0 x2 := by
    unfold x2
    exact (Within.foldl _ (fun _ _ h6 => (eraseTxSlot_within h6 (Within.sub hk (by simp))))
      h1)
  clear_value x2
  have h3 : Within K s0 x3 := by
    unfold x3
    exact (State.set_within h2 (Within.sub hk (by simp)))
  clear_value x3
  try clear_value x4
  have h5 : Within K s0 x5 := by
    unfold x5
    exact (State.setCipher_within h3 (Within.sub hk (by simp)))
  clear_value x5
  exact (leaveEncrypting_within h5 (Within.sub hk (by simp)))

theorem takeActivation_within {K : Nat} {s0 s : State} {c : Carrier} (h : Within K s0 s) (hk : 19807040628566084398386020384 ||| K = K) :
    Within K s0 (takeActivation s c) := by
  unfold takeActivation
  extract_lets -merge -useContext x1 x2 x3 x4 x5 x6 x7
  try clear_value x1
  try clear_value x2
  have h3 : Within K s0 x3 := by
    unfold x3
    exact (Within.ite (eraseTxSlot_within h (Within.sub hk (by simp)))
      h)
  clear_value x3
  have h4 : Within K s0 x4 := by
    unfold x4
    exact (State.set_within h3 (Within.sub hk (by simp)))
  clear_value x4
  try clear_value x5
  have h6 : Within K s0 x6 := by
    unfold x6
    exact (State.setCipher_within h4 (Within.sub hk (by simp)))
  clear_value x6
  have h7 : Within K s0 x7 := by
    unfold x7
    exact (endActivation_within
      (State.set_within h6 (Within.sub hk (by simp))) (Within.sub hk (by simp)))
  clear_value x7
  exact (Within.ite (State.raise_within
      (State.bump_within h7 (Within.sub hk (by simp))) (Within.sub hk (by simp)) (Within.sub hk (by simp)))
    h)

theorem missDeadline_within {K : Nat} {s0 s : State} {c : Carrier} (h : Within K s0 s) (hk : 19807040628566084398386020384 ||| K = K) :
    Within K s0 (missDeadline s c) := by
  unfold missDeadline
  exact (Within.ite (abandonActivation_within h hk)
    h)

theorem expireTx_within {K : Nat} {s0 s : State} {c : Carrier} {i : Nat} (h : Within K s0 s) (hk : 2555108241085024887392866181152 ||| K = K) :
    Within K s0 (expireTx s c i) := by
  unfold expireTx
  extract_lets -merge -useContext x1 x2 x3 x4 x5
  try clear_value x1
  have h2 : Within K s0 x2 := by
    unfold x2
    exact (putTxSlot_within h (Within.sub hk (by simp)))
  clear_value x2
  have h3 : Within K s0 x3 := by
    unfold x3
    exact (State.set_within
      (State.set_within h2 (Within.sub hk (by simp))) (Within.sub hk (by simp)))
  clear_value x3
  have h4 : Within K s0 x4 := by
    unfold x4
    exact (State.raise_within h3 (Within.sub hk (by simp)) (Within.sub hk (by simp)))
  clear_value x4
  have h5 : Within K s0 x5 := by
    unfold x5
    exact (Within.ite (abandonActivation_within h4 (Within.sub hk (by simp)))
      h4)
  clear_value x5
  exact (Within.ite (Within.ite (leaveEncrypting_within h5 (Within.sub hk (by simp)))
      h5)
    h)

theorem expireRx_within {K : Nat} {s0 s : State} {c : Carrier} {i : Nat} (h : Within K s0 s) (hk : 19807040628566084398386020384 ||| K = K) :
    Within K s0 (expireRx s c i) := by
  unfold expireRx
  extract_lets -merge -useContext x1 x2 x3
  try clear_value x1
  have h2 : Within K s0 x2 := by
    unfold x2
    exact (putRxSlot_within h (Within.sub hk (by simp)))
  clear_value x2
  have h3 : Within K s0 x3 := by
    unfold x3
    exact (State.set_within
      (State.set_within h2 (Within.sub hk (by simp))) (Within.sub hk (by simp)))
  clear_value x3
  exact (Within.ite (refreshRx_within
      (State.raise_within h3 (Within.sub hk (by simp)) (Within.sub hk (by simp))) (Within.sub hk (by simp)))
    h)

theorem expireSlot_within {K : Nat} {s0 s : State} {c : Carrier} {receive : Bool} {i : Nat} (h : Within K s0 s) (hk : 2555108241085024887392866181152 ||| K = K) :
    Within K s0 (expireSlot s c receive i) := by
  unfold expireSlot
  exact (Within.ite (Within.ite (expireRx_within h (Within.sub hk (by simp)))
      h)
    (Within.ite (expireTx_within h hk)
      h))

theorem expireOver_within {K : Nat} {s0 s : State} {c : Carrier} {receive : Bool} (h : Within K s0 s) (hk : 2555108241085024887392866181152 ||| K = K) :
    Within K s0 (expireOver s c receive) := by
  unfold expireOver
  exact (Within.foldl _ (fun _ _ h1 => (expireSlot_within h1 hk))
    h)

theorem eraseAllSlots_within {K : Nat} {s0 s : State} {c : Carrier} {cause : Nat} (h : Within K s0 s) (hk : 2555108241085024887392866181152 ||| K = K) :
    Within K s0 (eraseAllSlots s c cause) := by
  unfold eraseAllSlots
  exact (Within.foldl _ (fun _ _ h1 => (eraseRxSlot_within h1 (Within.sub hk (by simp))))
    (invalidateTx_within h hk))

theorem activateRx_within {K : Nat} {s0 s : State} {c : Carrier} {j : Nat} {csf : Nat} (h : Within K s0 s) (hk : 19807040628566084398386020352 ||| K = K) :
    Within K s0 (activateRx s c j csf) := by
  unfold activateRx
  extract_lets -merge -useContext x1 x2
  have h1 : Within K s0 x1 := by
    unfold x1
    split
    · skip
      exact (eraseRxSlot_within h hk)
    · skip
      exact h
  clear_value x1
  have h2 : Within K s0 x2 := by
    unfold x2
    split
    · skip
      extract_lets -merge -useContext x3
      try clear_value x3
      exact (putRxSlot_within h1 (Within.sub hk (by simp)))
    · skip
      exact h1
  clear_value x2
  exact (Within.ite (refreshRx_within
      (State.set_within h2 (Within.sub hk (by simp))) (Within.sub hk (by simp)))
    h)

theorem expireRetained_within {K : Nat} {s0 s : State} {c : Carrier} (h : Within K s0 s) (hk : 19807040628566084398386020352 ||| K = K) :
    Within K s0 (expireRetained s c) := by
  unfold expireRetained
  split
  · skip
    exact (Within.ite (eraseRxSlot_within h hk)
      h)
  · skip
    exact h

theorem countTagFailure_within {K : Nat} {s0 s : State} {c : Carrier} (h : Within K s0 s) (hk : 19807040628566084432745758752 ||| K = K) :
    Within K s0 (countTagFailure s c) := by
  unfold countTagFailure
  extract_lets -merge -useContext x1 x2 x3 x4
  have h1 : Within K s0 x1 := by
    unfold x1
    exact (State.raise_within
      (State.bump_within h (Within.sub hk (by simp))) (Within.sub hk (by simp)) (Within.sub hk (by simp)))
  clear_value x1
  try clear_value x2
  try clear_value x3
  try clear_value x4
  exact (Within.ite (noteTrigger_within
      (State.raise_within
        (State.setCipher_within h1 (Within.sub hk (by simp))) (Within.sub hk (by simp)) (Within.sub hk (by simp))) (Within.sub hk (by simp)))
    (State.setCipher_within h1 (Within.sub hk (by simp))))

theorem receiveTests_within {K : Nat} {s0 s : State} {c : Carrier} {csf : Nat} {lf : Nat} {keyIdx : Nat} {carrier : Nat} {role : Nat} {hdr : BitVec 128} {payload : BitVec 131584} {tag : BitVec 128} (h : Within K s0 s) (hk : 19807040628566084432745758752 ||| K = K) :
    Within K s0 (receiveTests s c csf lf keyIdx carrier role hdr payload tag).1 := by
  unfold receiveTests
  extract_lets -merge -useContext x1 x2 x3 x4 x5 x6 x7
  try clear_value x1
  try clear_value x2
  try clear_value x3
  have h4 : Within K s0 x4 := by
    unfold x4
    exact (State.setCipher_within h (Within.sub hk (by simp)))
  clear_value x4
  have h5 : Within K s0 x5 := by
    unfold x5
    exact (activateRx_within h4 (Within.sub hk (by simp)))
  clear_value x5
  try clear_value x6
  have h7 : Within K s0 x7 := by
    unfold x7
    exact (putRxSlot_within h5 (Within.sub hk (by simp)))
  clear_value x7
  split
  · skip
    exact (Within.fst h)
  · skip
    split
    · skip
      exact (Within.fst (State.raise_within
        (State.bump_within h (Within.sub hk (by simp))) (Within.sub hk (by simp)) (Within.sub hk (by simp))))
    · skip
      split
      · skip
        exact (Within.fst (State.raise_within
          (State.bump_within h (Within.sub hk (by simp))) (Within.sub hk (by simp)) (Within.sub hk (by simp))))
      · skip
        split
        · skip
          exact (Within.fst (countTagFailure_within h hk))
        · skip
          exact (Within.fst (State.set_within h7 (Within.sub hk (by simp))))

theorem cryStart_within {K : Nat} {c : Carrier} {s0 s : State} (h : Within K s0 s) (hk : 19807040628566084398385987584 ||| K = K) :
    Within K s0 (cryStart c s) := by
  unfold cryStart
  exact (State.clearAll_within h (Within.sub hk (by simp)))

theorem cryKatFail_within {K : Nat} {c : Carrier} {s0 s : State} (h : Within K s0 s) (hk : 19807040628566084398385987616 ||| K = K) :
    Within K s0 (cryKatFail c s) := by
  unfold cryKatFail
  extract_lets -merge -useContext x1
  have h1 : Within K s0 x1 := by
    unfold x1
    exact (State.set_within
      (State.set_within h (Within.sub hk (by simp))) (Within.sub hk (by simp)))
  clear_value x1
  exact (State.set_within
    (State.raise_within
      (State.errlog_within h1 (Within.sub hk (by simp))) (Within.sub hk (by simp)) (Within.sub hk (by simp))) (Within.sub hk (by simp)))

theorem cryRunning_within {K : Nat} {c : Carrier} {s0 s : State} (h : Within K s0 s) (hk : 19807040628566084398385987584 ||| K = K) :
    Within K s0 (cryRunning c s) := by
  unfold cryRunning
  extract_lets -merge -useContext x1 x2 x3
  have h1 : Within K s0 x1 := by
    unfold x1
    exact (State.set_within
      (State.set_within h (Within.sub hk (by simp))) (Within.sub hk (by simp)))
  clear_value x1
  have h2 : Within K s0 x2 := by
    unfold x2
    exact (State.set_within h1 (Within.sub hk (by simp)))
  clear_value x2
  have h3 : Within K s0 x3 := by
    unfold x3
    exact (Within.ite h2
      (State.set_within h2 (Within.sub hk (by simp))))
  clear_value x3
  exact (refreshRx_within h3 hk)

theorem cryStop_within {K : Nat} {c : Carrier} {s0 s : State} (h : Within K s0 s) (hk : 2555108241085024887392866148384 ||| K = K) :
    Within K s0 (cryStop c s) := by
  unfold cryStop
  extract_lets -merge -useContext x1
  have h1 : Within K s0 x1 := by
    unfold x1
    exact (leaveEncrypting_within h hk)
  clear_value x1
  exact (State.set_within
    (State.set_within h1 (Within.sub hk (by simp))) (Within.sub hk (by simp)))

end Sys2Proof.Machine
end

