-- ==== Sys2Proof/Laws/Client.lean ====
section
/-! SUPPORT. Laws/Client.lean: the parts of the state that each operation of Machine/Client.lean can change. -/
namespace Sys2Proof.Machine

set_option Elab.async false

open Sys2Proof

theorem setClean_within {K : Nat} {s0 s : State} {c : Carrier} {q : Nat} {b : Bool} (h : Within K s0 s) (hk : 16384 ||| K = K) :
    Within K s0 (setClean s c q b) := by
  unfold setClean
  extract_lets -merge -useContext x1
  try clear_value x1
  exact (State.setCpc_within h hk)

theorem dropPorts_within {K : Nat} {c : Carrier} {keep : Nat → Bool} {s0 s : State} (h : Within K s0 s) (hk : 16384 ||| K = K) :
    Within K s0 (dropPorts c keep s) := by
  unfold dropPorts
  extract_lets -merge -useContext x1
  try clear_value x1
  exact (State.setCpc_within h hk)

theorem admitPorts_within {K : Nat} {s0 s : State} {c : Carrier} {mode : Nat} (h : Within K s0 s) (hk : 79228162514268841193171337248 ||| K = K) :
    Within K s0 (admitPorts s c mode) := by
  unfold admitPorts
  extract_lets -merge -useContext x1 x2 x3 x4 x5 x6 x7
  try clear_value x1
  try clear_value x2
  try clear_value x3
  try clear_value x4
  have h5 : Within K s0 x5 := by
    unfold x5
    exact (State.set_within
      (State.set_within
        (State.set_within h (Within.sub hk (by simp))) (Within.sub hk (by simp))) (Within.sub hk (by simp)))
  clear_value x5
  have h6 : Within K s0 x6 := by
    unfold x6
    exact (Within.foldl _ (fun _ _ h8 => (by
        extract_lets -merge -useContext x9 x10 x11
        try clear_value x9
        have h10 : Within K s0 x10 := by
          unfold x10
          exact (State.setFlag_within h8 (Within.sub hk (by simp)))
        clear_value x10
        have h11 : Within K s0 x11 := by
          unfold x11
          exact (Within.ite (startTimer_within
              (State.set_within h10 (Within.sub hk (by simp))) (Within.sub hk (by simp)))
            h10)
        clear_value x11
        exact (Within.ite (Within.ite (State.set_within h11 (Within.sub hk (by simp)))
            h11)
          (State.set_within h10 (Within.sub hk (by simp))))))
      h5)
  clear_value x6
  have h7 : Within K s0 x7 := by
    unfold x7
    exact (dropPorts_within h6 (Within.sub hk (by simp)))
  clear_value x7
  exact (State.raiseIf_within h7 (Within.sub hk (by simp)) (Within.sub hk (by simp)))

theorem justPush_within {K : Nat} {s0 s : State} {c : Carrier} {b : BitVec 257} (h : Within K s0 s) (hk : 9903520314283042199192997920 ||| K = K) :
    Within K s0 (justPush s c b) := by
  unfold justPush
  extract_lets -merge -useContext x1
  try clear_value x1
  exact (Within.ite (Within.foldl _ (fun _ _ h2 => (State.raise_within
        (State.bump_within h2 (Within.sub hk (by simp))) (Within.sub hk (by simp)) (Within.sub hk (by simp))))
      h)
    (Within.foldl _ (fun _ _ h3 => (by
        extract_lets -merge -useContext x4
        try clear_value x4
        exact (State.set_within
          (State.setFramer_within h3 (Within.sub hk (by simp))) (Within.sub hk (by simp)))))
      h))

theorem ingressPush_within {K : Nat} {c : Carrier} {s0 s : State} {x : Fin 4 × ClientIn} (h : Within K s0 s) (hk : 79228162514264337593543966752 ||| K = K) :
    Within K s0 (ingressPush c s x) := by
  unfold ingressPush
  extract_lets -merge -useContext x1
  try clear_value x1
  exact (Within.ite h
    (Within.ite (State.setCpc_within h (Within.sub hk (by simp)))
      (State.raise_within
        (State.bump_within h (Within.sub hk (by simp))) (Within.sub hk (by simp)) (Within.sub hk (by simp)))))

theorem roundBlock_within {K : Nat} {s0 s : State} {c : Carrier} {q : Nat} (h : Within K s0 s) (hk : 79228162514264337593543966720 ||| K = K) :
    Within K s0 (roundBlock s c q).1 := by
  unfold roundBlock
  extract_lets -merge -useContext x1 x2 x3 x4
  try clear_value x1
  try clear_value x2
  have h3 : Within K s0 x3 := by
    unfold x3
    exact (State.setCpc_within h (Within.sub hk (by simp)))
  clear_value x3
  have h4 : Within K s0 x4 := by
    unfold x4
    exact (State.addPair_within h3 (Within.sub hk (by simp)))
  clear_value x4
  split
  · skip
    split
    · skip
      exact (Within.fst h4)
    · skip
      exact (Within.fst (State.bump_within h4 (Within.sub hk (by simp))))
  · skip
    exact (Within.fst (State.bump_within h (Within.sub hk (by simp))))

theorem formRound_within {K : Nat} {c : Carrier} {s0 s : State} (h : Within K s0 s) (hk : 89131682828547379792736964640 ||| K = K) :
    Within K s0 (formRound c s) := by
  unfold formRound
  exact (Within.foldl _ (fun _ _ h1 => (by
      extract_lets -merge -useContext x2
      have h2 : Within K s0 x2.1 := by
        unfold x2
        exact (roundBlock_within h1 (Within.sub hk (by simp)))
      clear_value x2
      exact (justPush_within h2 (Within.sub hk (by simp)))))
    h)

theorem countCodewords_within {K : Nat} {c : Carrier} {rsCorr : List Nat} {rsUncorr : List Nat} {s0 s : State} (h : Within K s0 s) (hk : 79228162514264337593543950336 ||| K = K) :
    Within K s0 (countCodewords c rsCorr rsUncorr s) := by
  unfold countCodewords
  exact (Within.foldl _ (fun _ _ h1 => (Within.ite (State.addSat_within
        (State.addSat_within h1 (Within.sub hk (by simp))) (Within.sub hk (by simp)))
      h1))
    h)

theorem roundWrite_within {K : Nat} {c : Carrier} {blocks : List (Fin 4 × ClientIn)} {rsCorr : List Nat} {rsUncorr : List Nat} {s0 s : State} (h : Within K s0 s) (hk : 89131682828547379792736964640 ||| K = K) :
    Within K s0 (roundWrite c blocks rsCorr rsUncorr s) := by
  unfold roundWrite
  extract_lets -merge -useContext x1
  have h1 : Within K s0 x1 := by
    unfold x1
    exact (Within.foldl _ (fun _ _ h2 => (ingressPush_within h2 (Within.sub hk (by simp))))
      (countCodewords_within h (Within.sub hk (by simp))))
  clear_value x1
  exact (Within.ite h
    (Within.ite (formRound_within h1 hk)
      h1))

theorem portSent_within {K : Nat} {c : Carrier} {q : Nat} {items : List ClientItem} {s0 s : State} (h : Within K s0 s) (hk : 16384 ||| K = K) :
    Within K s0 (portSent c q items s) := by
  unfold portSent
  extract_lets -merge -useContext x1
  try clear_value x1
  exact (State.setCpc_within h hk)

theorem egressBlocks_within {K : Nat} {c : Carrier} {q : Nat} {xs : List (Option (BitVec 257))} {s0 s : State} (h : Within K s0 s) (hk : 79228162514268841193171337216 ||| K = K) :
    Within K s0 (egressBlocks c q xs s) := by
  unfold egressBlocks
  extract_lets -merge -useContext x1 x2 x3 x4 x5 x6 x7 x8 x9
  try clear_value x1
  try clear_value x2
  try clear_value x3
  try clear_value x4
  try clear_value x5
  have h6 : Within K s0 x6 := by
    unfold x6
    exact (Within.ite (startTimer_within h (Within.sub hk (by simp)))
      h)
  clear_value x6
  have h7 : Within K s0 x7 := by
    unfold x7
    exact (setClean_within
      (State.set_within h6 (Within.sub hk (by simp))) (Within.sub hk (by simp)))
  clear_value x7
  have h8 : Within K s0 x8 := by
    unfold x8
    exact (State.addPair_within h7 (Within.sub hk (by simp)))
  clear_value x8
  have h9 : Within K s0 x9 := by
    unfold x9
    exact (State.addSat_within
      (State.addSat_within h8 (Within.sub hk (by simp))) (Within.sub hk (by simp)))
  clear_value x9
  exact (Within.ite (portSent_within h9 (Within.sub hk (by simp)))
    h)

theorem suspendedSend_within {K : Nat} {c : Carrier} {q : Nat} {n : Nat} {s0 s : State} (h : Within K s0 s) (hk : 79228162514264337593543966720 ||| K = K) :
    Within K s0 (suspendedSend c q n s) := by
  unfold suspendedSend
  exact (Within.ite (portSent_within
      (State.addSat_within h (Within.sub hk (by simp))) (Within.sub hk (by simp)))
    h)

theorem deliverBlocks_within {K : Nat} {c : Carrier} {xs : List (Option (BitVec 257))} {s0 s : State} (h : Within K s0 s) (hk : 79228162514264337593543966752 ||| K = K) :
    Within K s0 (deliverBlocks c xs s) := by
  unfold deliverBlocks
  extract_lets -merge -useContext x1 x2 x3 x4 x5
  try clear_value x1
  try clear_value x2
  have h3 : Within K s0 x3 := by
    unfold x3
    exact (Within.ite (State.raise_within
        (State.bump_within h (Within.sub hk (by simp))) (Within.sub hk (by simp)) (Within.sub hk (by simp)))
      h)
  clear_value x3
  try clear_value x4
  try clear_value x5
  exact (Within.ite h
    (State.setCpc_within h3 (Within.sub hk (by simp))))

theorem egressSend_within {K : Nat} {c : Carrier} {q : Nat} {n : Nat} {s0 s : State} (h : Within K s0 s) (hk : 79228162514268841193171337216 ||| K = K) :
    Within K s0 (egressSend c q n s) := by
  unfold egressSend
  extract_lets -merge -useContext x1 x2
  try clear_value x1
  try clear_value x2
  exact (Within.ite (egressBlocks_within
      (State.setCpc_within h (Within.sub hk (by simp))) hk)
    (suspendedSend_within h (Within.sub hk (by simp))))

theorem egressFaultHold_within {K : Nat} {c : Carrier} {q : Nat} {s0 s : State} (h : Within K s0 s) (hk : 79228162514264337593543966752 ||| K = K) :
    Within K s0 (egressFaultHold c q s) := by
  unfold egressFaultHold
  exact (Within.ite h
    (Within.ite (State.raise_within
        (setClean_within
          (State.set_within h (Within.sub hk (by simp))) (Within.sub hk (by simp))) (Within.sub hk (by simp)) (Within.sub hk (by simp)))
      (Within.ite (State.raise_within
          (State.set_within h (Within.sub hk (by simp))) (Within.sub hk (by simp)) (Within.sub hk (by simp)))
        h)))

theorem egressUnderrun_within {K : Nat} {c : Carrier} {q : Nat} {s0 s : State} (h : Within K s0 s) (hk : 79228162514268841193171337248 ||| K = K) :
    Within K s0 (egressUnderrun c q s) := by
  unfold egressUnderrun
  exact (Within.ite (egressBlocks_within
      (State.raise_within
        (State.bump_within h (Within.sub hk (by simp))) (Within.sub hk (by simp)) (Within.sub hk (by simp))) (Within.sub hk (by simp)))
    h)

theorem ingressDrop_within {K : Nat} {c : Carrier} {s0 s : State} (h : Within K s0 s) (hk : 79228162514264337593543950368 ||| K = K) :
    Within K s0 (ingressDrop c s) := by
  unfold ingressDrop
  exact (Within.ite (State.raise_within
      (State.bump_within h (Within.sub hk (by simp))) (Within.sub hk (by simp)) (Within.sub hk (by simp)))
    h)

theorem ingressState_within {K : Nat} {c : Carrier} {q : Nat} {up : Bool} {hiBer : Bool} {s0 s : State} (h : Within K s0 s) (hk : 79228162514264337593543950368 ||| K = K) :
    Within K s0 (ingressState c q up hiBer s) := by
  unfold ingressState
  extract_lets -merge -useContext x1 x2 x3
  try clear_value x1
  try clear_value x2
  have h3 : Within K s0 x3 := by
    unfold x3
    exact (State.setFlag_within
      (State.set_within h (Within.sub hk (by simp))) (Within.sub hk (by simp)))
  clear_value x3
  exact (Within.ite (Within.ite (State.raise_within h3 (Within.sub hk (by simp)) (Within.sub hk (by simp)))
      (Within.ite (State.raise_within h3 (Within.sub hk (by simp)) (Within.sub hk (by simp)))
        h3))
    h)

theorem lanePortDown_within {K : Nat} {n : Fin 16} {s0 s : State} (h : Within K s0 s) (hk : 79228162514264337593543950368 ||| K = K) :
    Within K s0 (lanePortDown n s) := by
  unfold lanePortDown
  extract_lets -merge -useContext x1
  try clear_value x1
  exact (Within.foldl _ (fun _ _ h2 => (Within.ite (State.raise_within
        (State.set_within h2 (Within.sub hk (by simp))) (Within.sub hk (by simp)) (Within.sub hk (by simp)))
      h2))
    h)

theorem cpcStart_within {K : Nat} {c : Carrier} {s0 s : State} (h : Within K s0 s) (hk : 79228162514264337593543950336 ||| K = K) :
    Within K s0 (cpcStart c s) := by
  unfold cpcStart
  extract_lets -merge -useContext x1
  have h1 : Within K s0 x1 := by
    unfold x1
    exact (State.clearAll_within h (Within.sub hk (by simp)))
  clear_value x1
  exact (Within.foldl _ (fun _ _ h2 => (State.clearArray_within h2 (Within.sub hk (by simp))))
    h1)

theorem cpcRunning_within {K : Nat} {c : Carrier} {s0 s : State} (h : Within K s0 s) (hk : 79228162514268841193171337248 ||| K = K) :
    Within K s0 (cpcRunning c s) := by
  unfold cpcRunning
  exact (Within.ite h
    (admitPorts_within h hk))

theorem cpcStop_within {K : Nat} {c : Carrier} {s0 s : State} (h : Within K s0 s) (hk : 79228162514264337593543966720 ||| K = K) :
    Within K s0 (cpcStop c s) := by
  unfold cpcStop
  exact (Within.foldl _ (fun _ _ h1 => (State.set_within h1 (Within.sub hk (by simp))))
    (dropPorts_within h (Within.sub hk (by simp))))

theorem cpcWritten_within {K : Nat} {c : Carrier} {y1 : Nat} {s0 s : State} (h : Within K s0 s) (hk : 79228162514264337593543950336 ||| K = K) :
    Within K s0 (cpcWritten c y1 s) := by
  unfold cpcWritten
  exact (Within.ite (State.set_within h (Within.sub hk (by simp)))
    h)

end Sys2Proof.Machine
end

