-- ==== Sys2Proof/Laws/LineFrame.lean ====
section
/-! SUPPORT. Laws/LineFrame.lean: the parts of the state that each operation of Machine/LineFrame.lean can change. -/
namespace Sys2Proof.Machine

set_option Elab.async false

open Sys2Proof

@[simp] theorem pageBit_carrierSyn (c : Carrier) : pageBit (carrierSyn c) = 2 ^ (64 + 20) := by
  cases c <;> simp [carrierSyn]

theorem takeBlocks_within {K : Nat} {s0 s : State} {c : Carrier} (h : Within K s0 s) (hk : 9903520314283042199192997888 ||| K = K) :
    Within K s0 (takeBlocks s c).1 := by
  unfold takeBlocks
  extract_lets -merge -useContext x1 x2 x3 x4 x5 x6 x7 x8
  try clear_value x1
  try clear_value x2
  try clear_value x3
  try clear_value x4
  try clear_value x5
  have h6 : Within K s0 x6 := by
    unfold x6
    exact (State.setFramer_within h (Within.sub hk (by simp)))
  clear_value x6
  have h7 : Within K s0 x7 := by
    unfold x7
    exact (State.set_within h6 (Within.sub hk (by simp)))
  clear_value x7
  try clear_value x8
  split
  · skip
    exact (Within.fst (State.setFramer_within h7 (Within.sub hk (by simp))))
  · skip
    exact (Within.fst h7)

theorem advanceCsf_within {K : Nat} {s0 s : State} {c : Carrier} (h : Within K s0 s) (hk : 9903520314283042199192993824 ||| K = K) :
    Within K s0 (advanceCsf s c) := by
  unfold advanceCsf
  extract_lets -merge -useContext x1 x2 x3
  try clear_value x1
  try clear_value x2
  have h3 : Within K s0 x3 := by
    unfold x3
    exact (State.setPair_within
      (State.set_within h (Within.sub hk (by simp))) (Within.sub hk (by simp)))
  clear_value x3
  exact (Within.ite (State.raiseIf_within h3 (Within.sub hk (by simp)) (Within.sub hk (by simp)))
    (State.set_within h (Within.sub hk (by simp))))

theorem noteRange_within {K : Nat} {s0 s : State} {c : Carrier} {d : Nat} (h : Within K s0 s) (hk : 9903520314283042199192993792 ||| K = K) :
    Within K s0 (noteRange s c d) := by
  unfold noteRange
  exact (State.set_within
    (State.set_within h (Within.sub hk (by simp))) (Within.sub hk (by simp)))

theorem countFrame_within {K : Nat} {c : Carrier} {d : Nat} {clear : Bool} {first : Bool} {s0 s : State} (h : Within K s0 s) (hk : 9903520314283042199192993824 ||| K = K) :
    Within K s0 (countFrame c d clear first s) := by
  unfold countFrame
  extract_lets -merge -useContext x1 x2
  have h1 : Within K s0 x1 := by
    unfold x1
    exact (State.raiseIf_within
      (State.raiseIf_within h (Within.sub hk (by simp)) (Within.sub hk (by simp))) (Within.sub hk (by simp)) (Within.sub hk (by simp)))
  clear_value x1
  have h2 : Within K s0 x2 := by
    unfold x2
    exact (State.addPair_within h1 (Within.sub hk (by simp)))
  clear_value x2
  exact (Within.ite (noteRange_within
      (State.addPair_within h2 (Within.sub hk (by simp))) (Within.sub hk (by simp)))
    (State.bump_within h2 (Within.sub hk (by simp))))

theorem formFrame_within {K : Nat} {c : Carrier} {inband : BitVec 64} {s0 s : State} (h : Within K s0 s) (hk : 2565011761399307929592059179040 ||| K = K) :
    Within K s0 (formFrame c inband s) := by
  unfold formFrame
  extract_lets -merge -useContext x1 x2 x3 x4 x5 x6 x7 x8 x9 x10
  have h1 : Within K s0 x1 := by
    unfold x1
    exact (takeActivation_within
      (missDeadline_within
        (expireOver_within h (Within.sub hk (by simp))) (Within.sub hk (by simp))) (Within.sub hk (by simp)))
  clear_value x1
  have h2 : Within K s0 x2 := by
    unfold x2
    exact (Within.ite (encryptBoundary_within h1 (Within.sub hk (by simp)))
      h1)
  clear_value x2
  have h3 : Within K s0 x3.1 := by
    unfold x3
    exact (takeBlocks_within h2 (Within.sub hk (by simp)))
  clear_value x3
  have h4 : Within K s0 x4 := by
    unfold x4
    exact h3
  clear_value x4
  try clear_value x5
  try clear_value x6
  try clear_value x7
  try clear_value x8
  have h9 : Within K s0 x9 := by
    unfold x9
    exact (State.setFramer_within h4 (Within.sub hk (by simp)))
  clear_value x9
  have h10 : Within K s0 x10 := by
    unfold x10
    exact (countFrame_within
      (sendInfo_within h9 (Within.sub hk (by simp))) (Within.sub hk (by simp)))
  clear_value x10
  exact (Within.ite h
    (advanceCsf_within h10 (Within.sub hk (by simp))))

theorem lfmStart_within {K : Nat} {c : Carrier} {s0 s : State} (h : Within K s0 s) (hk : 2644239923913576770785230516256 ||| K = K) :
    Within K s0 (lfmStart c s) := by
  unfold lfmStart
  extract_lets -merge -useContext x1 x2 x3 x4 x5 x6 x7 x8 x9 x10 x11
  have h1 : Within K s0 x1 := by
    unfold x1
    exact (State.clearAll_within h (Within.sub hk (by simp)))
  clear_value x1
  have h2 : Within K s0 x2 := by
    unfold x2
    exact (State.clearAll_within h1 (Within.sub hk (by simp)))
  clear_value x2
  try clear_value x3
  try clear_value x4
  try clear_value x5
  try clear_value x6
  try clear_value x7
  have h8 : Within K s0 x8 := by
    unfold x8
    exact (State.setFramer_within h2 (Within.sub hk (by simp)))
  clear_value x8
  try clear_value x9
  have h10 : Within K s0 x10 := by
    unfold x10
    exact (Within.ite (State.setFramer_within h8 (Within.sub hk (by simp)))
      h8)
  clear_value x10
  have h11 : Within K s0 x11 := by
    unfold x11
    exact (invalidateTx_within h10 (Within.sub hk (by simp)))
  clear_value x11
  exact (admitPorts_within h11 (Within.sub hk (by simp)))

theorem copyBuffer_within {K : Nat} {c : Carrier} {s0 s : State} (h : Within K s0 s) (hk : 9903520314283042199192997888 ||| K = K) :
    Within K s0 (copyBuffer c s) := by
  unfold copyBuffer
  extract_lets -merge -useContext x1 x2
  try clear_value x1
  try clear_value x2
  exact (Within.ite (State.set_within
      (State.setFramer_within h (Within.sub hk (by simp))) (Within.sub hk (by simp)))
    h)

theorem joinPartner_within {K : Nat} {c : Carrier} {s0 s : State} (h : Within K s0 s) (hk : 9903520314283042199192997888 ||| K = K) :
    Within K s0 (joinPartner c s) := by
  unfold joinPartner
  extract_lets -merge -useContext x1 x2 x3 x4 x5
  try clear_value x1
  have h2 : Within K s0 x2 := by
    unfold x2
    exact (copyBuffer_within
      (State.setFramer_within h (Within.sub hk (by simp))) hk)
  clear_value x2
  try clear_value x3
  have h4 : Within K s0 x4 := by
    unfold x4
    exact (State.setFramer_within h2 (Within.sub hk (by simp)))
  clear_value x4
  have h5 : Within K s0 x5 := by
    unfold x5
    exact (State.setPair_within h4 (Within.sub hk (by simp)))
  clear_value x5
  exact (Within.ite (State.setRun_within
      (State.set_within h5 (Within.sub hk (by simp))) (Within.sub hk (by simp)))
    h)

theorem pairStart_within {K : Nat} {s0 s : State} (h : Within K s0 s) (hk : 9903520314283042199192997888 ||| K = K) :
    Within K s0 (pairStart s) := by
  unfold pairStart
  exact (Within.ite (copyBuffer_within
      (State.setRun_within
        (State.setRun_within h (Within.sub hk (by simp))) (Within.sub hk (by simp))) hk)
    h)

theorem clearRange_within {K : Nat} {c : Carrier} {s0 s : State} (h : Within K s0 s) (hk : 9903520314283042199192993792 ||| K = K) :
    Within K s0 (clearRange c s) := by
  unfold clearRange
  exact (State.set_within
    (State.set_within h (Within.sub hk (by simp))) (Within.sub hk (by simp)))

end Sys2Proof.Machine
end

