-- ==== Sys2Proof/Laws/TxPath.lean ====
section
/-! SUPPORT. Laws/TxPath.lean: the parts of the state that each operation of Machine/TxPath.lean can change. -/
namespace Sys2Proof.Machine

set_option Elab.async false

open Sys2Proof

@[simp] theorem pageBit_clockSyn (s : State) (c : Carrier) : pageBit (clockSyn s c) = 2 ^ (64 + 20) := by
  unfold clockSyn
  split
  · split <;> simp
  · simp

theorem setTxDsp_within {K : Nat} {s0 s : State} {c : Carrier} {x : TxDsp} (h : Within K s0 s) (hk : 524288 ||| K = K) :
    Within K s0 (setTxDsp s c x) := by
  unfold setTxDsp
  exact (Within.upd_txDsp h hk _)

theorem putTxLane_within {K : Nat} {s0 s : State} {n : Fin 8} {x : TxLane} (h : Within K s0 s) (hk : 1048576 ||| K = K) :
    Within K s0 (putTxLane s n x) := by
  unfold putTxLane
  exact (Within.upd_txLane h hk _)

theorem syfBegin_within {K : Nat} {c : Carrier} {s0 s : State} (h : Within K s0 s) (hk : 38685626227668133591121920 ||| K = K) :
    Within K s0 (syfBegin c s) := by
  unfold syfBegin
  extract_lets -merge -useContext x1
  try clear_value x1
  exact (setTxDsp_within
    (State.addWrap_within h (Within.sub hk (by simp))) (Within.sub hk (by simp)))

theorem syfStart_within {K : Nat} {c : Carrier} {s0 s : State} (h : Within K s0 s) (hk : 38685626227668133591121920 ||| K = K) :
    Within K s0 (syfStart c s) := by
  unfold syfStart
  exact (Within.ite h
    (Within.ite (Within.ite (syfBegin_within (syfBegin_within h hk) hk)
        h)
      (syfBegin_within h hk)))

theorem putFifo_within {K : Nat} {s0 s : State} {c : Carrier} {bits : List Bool} (h : Within K s0 s) (hk : 38685626227668133591121920 ||| K = K) :
    Within K s0 (putFifo s c bits) := by
  unfold putFifo
  extract_lets -merge -useContext x1
  try clear_value x1
  exact (State.set_within
    (setTxDsp_within h (Within.sub hk (by simp))) (Within.sub hk (by simp)))

theorem pilotGroupSign_within {K : Nat} {c : Carrier} {s0 s : State} (h : Within K s0 s) (hk : 38685626227668133591121952 ||| K = K) :
    Within K s0 (pilotGroupSign c s) := by
  unfold pilotGroupSign
  extract_lets -merge -useContext x1 x2
  try clear_value x1
  try clear_value x2
  exact (Within.ite h
    (Within.ite (setTxDsp_within h (Within.sub hk (by simp)))
      (by
        split
        · skip
          exact (State.raise_within
            (State.bump_within
              (setTxDsp_within h (Within.sub hk (by simp))) (Within.sub hk (by simp))) (Within.sub hk (by simp)) (Within.sub hk (by simp)))
        · skip
          exact (putFifo_within
            (setTxDsp_within h (Within.sub hk (by simp))) (Within.sub hk (by simp))))))

theorem pchAppend_within {K : Nat} {c : Carrier} {w : Word} {s0 s : State} (h : Within K s0 s) (hk : 38685626227668133591121920 ||| K = K) :
    Within K s0 (pchAppend c w s) := by
  unfold pchAppend
  exact (putFifo_within h hk)

theorem pchClear_within {K : Nat} {c : Carrier} {s0 s : State} (h : Within K s0 s) (hk : 38685626227668133591121920 ||| K = K) :
    Within K s0 (pchClear c s) := by
  unfold pchClear
  exact (State.set_within (putFifo_within h hk) (Within.sub hk (by simp)))

theorem skewSlew_within {K : Nat} {c : Carrier} {receive : Bool} {s0 s : State} (h : Within K s0 s) (hk : 348170636049013202315378688 ||| K = K) :
    Within K s0 (skewSlew c receive s) := by
  unfold skewSlew
  extract_lets -merge -useContext x1 x2 x3
  try clear_value x2
  try clear_value x3
  exact (Within.ite (Within.foldl _ (fun _ _ h4 => (State.setInt_within h4 (Within.sub hk (by unfold x1; split <;> simp))))
      h)
    h)

theorem fadeBegin_within {K : Nat} {r : FadeRegs} {p : Page} {s0 s : State} (h : Within K s0 s) (hp : pageBit p ||| K = K) :
    Within K s0 (fadeBegin r p s) := by
  unfold fadeBegin
  exact (State.set_within (State.set_within h hp) hp)

theorem fadeRequest_within {K : Nat} {r : FadeRegs} {p : Page} {s0 s : State} (h : Within K s0 s) (hk : 32 ||| K = K) (hp : pageBit p ||| K = K) :
    Within K s0 (fadeRequest r p s) := by
  unfold fadeRequest
  exact (Within.ite (fadeBegin_within h hp)
    (Within.ite (State.set_within h hp)
      (State.raise_within (State.bump_within h hp) hk hp)))

theorem fadeEnd_within {K : Nat} {r : FadeRegs} {p : Page} {s0 s : State} (h : Within K s0 s) (hk : 32 ||| K = K) (hp : pageBit p ||| K = K) :
    Within K s0 (fadeEnd r p s) := by
  unfold fadeEnd
  extract_lets -merge -useContext x1
  have h1 : Within K s0 x1 := by
    unfold x1
    exact (State.raise_within
      (State.set_within (State.set_within h hp) hp) hk hp)
  clear_value x1
  exact (Within.ite (Within.ite (fadeBegin_within (State.set_within h1 hp) hp)
      h1)
    h)

theorem fadeApplied_within {K : Nat} {c : Carrier} {s0 s : State} (h : Within K s0 s) (hk : 524288 ||| K = K) :
    Within K s0 (fadeApplied c s) := by
  unfold fadeApplied
  extract_lets -merge -useContext x1
  try clear_value x1
  exact (setTxDsp_within h hk)

theorem txFirSwap_within {K : Nat} {c : Carrier} {s0 s : State} (h : Within K s0 s) (hk : 38685626227668133591121952 ||| K = K) :
    Within K s0 (txFirSwap c s) := by
  unfold txFirSwap
  extract_lets -merge -useContext x1
  have h1 : Within K s0 x1 := by
    unfold x1
    exact (fadeRequest_within h (Within.sub hk (by simp)) (Within.sub hk (by simp)))
  clear_value x1
  exact (Within.ite (fadeApplied_within h1 (Within.sub hk (by simp)))
    h1)

theorem txXfadeEnd_within {K : Nat} {c : Carrier} {s0 s : State} (h : Within K s0 s) (hk : 38685626227668133591121952 ||| K = K) :
    Within K s0 (txXfadeEnd c s) := by
  unfold txXfadeEnd
  exact (Within.ite (fadeApplied_within
      (fadeEnd_within h (Within.sub hk (by simp)) (Within.sub hk (by simp))) (Within.sub hk (by simp)))
    h)

theorem dacBlock_within {K : Nat} {n : Fin 8} {s0 s : State} (h : Within K s0 s) (hk : 9671406556917033398698016 ||| K = K) :
    Within K s0 (dacBlock n s) := by
  unfold dacBlock
  extract_lets -merge -useContext x1
  try clear_value x1
  split
  · skip
    exact h
  · skip
    extract_lets -merge -useContext x2 x3 x4
    try clear_value x2
    try clear_value x3
    have h4 : Within K s0 x4 := by
      unfold x4
      exact (putTxLane_within h (Within.sub hk (by simp)))
    clear_value x4
    exact (Within.ite h
      (Within.ite (State.raise_within
          (State.bump_within h4 (Within.sub hk (by simp))) (Within.sub hk (by simp)) (Within.sub hk (by simp)))
        h4))

theorem dacStart_within {K : Nat} {c : Carrier} {s0 s : State} (h : Within K s0 s) (hk : 524288 ||| K = K) :
    Within K s0 (dacStart c s) := by
  unfold dacStart
  extract_lets -merge -useContext x1
  try clear_value x1
  exact (Within.ite (setTxDsp_within h hk)
    h)

theorem laneOut_within {K : Nat} {k : Nat} {slip : Bool} {s0 s : State} {n : Fin 8} (h : Within K s0 s) (hk : 1048576 ||| K = K) :
    Within K s0 (laneOut k slip s n) := by
  unfold laneOut
  extract_lets -merge -useContext x1 x2
  try clear_value x1
  try clear_value x2
  exact (putTxLane_within h hk)

theorem blockOut_within {K : Nat} {c : Carrier} {slip : Bool} {s0 s : State} (h : Within K s0 s) (hk : 1572864 ||| K = K) :
    Within K s0 (blockOut c slip s) := by
  unfold blockOut
  extract_lets -merge -useContext x1 x2 x3
  try clear_value x1
  have h2 : Within K s0 x2 := by
    unfold x2
    exact (Within.foldl _ (fun _ _ h4 => (laneOut_within h4 (Within.sub hk (by simp))))
      h)
  clear_value x2
  try clear_value x3
  exact (setTxDsp_within h2 (Within.sub hk (by simp)))

theorem txSlip_within {K : Nat} {c : Carrier} {s0 s : State} (h : Within K s0 s) (hk : 38685626227738502336348704 ||| K = K) :
    Within K s0 (txSlip c s) := by
  unfold txSlip
  extract_lets -merge -useContext x1
  have h1 : Within K s0 x1 := by
    unfold x1
    exact (Within.ite (blockOut_within h (Within.sub hk (by simp)))
      h)
  clear_value x1
  exact (Within.ite (State.countFabric_within
      (State.noteSlip_within
        (State.raise_within
          (State.bump_within h1 (Within.sub hk (by simp))) (Within.sub hk (by simp)) (Within.sub hk (by simp))) (Within.sub hk (by simp))) (Within.sub hk (by simp)))
    h)

theorem dacInstant_within {K : Nat} {c : Carrier} {s0 s : State} (h : Within K s0 s) (hk : 38685626227738502336348704 ||| K = K) :
    Within K s0 (dacInstant c s) := by
  unfold dacInstant
  extract_lets -merge -useContext x1
  try clear_value x1
  exact (Within.ite h
    (Within.ite (blockOut_within h (Within.sub hk (by simp)))
      (txSlip_within h hk)))

theorem fgCalStart_within {K : Nat} {c : Carrier} {s0 s : State} (h : Within K s0 s) (hk : 9671406556917033397649408 ||| K = K) :
    Within K s0 (fgCalStart c s) := by
  unfold fgCalStart
  exact (Within.ite (Within.foldl _ (fun _ _ h1 => (Within.ite (State.set_within h1 (Within.sub hk (by simp)))
        h1))
      h)
    h)

theorem muxMeasure_within {K : Nat} {n : Fin 8} {k : Nat} {m : Int × Int} {s0 s : State} (h : Within K s0 s) (hk : 1048576 ||| K = K) :
    Within K s0 (muxMeasure n k m s) := by
  unfold muxMeasure
  extract_lets -merge -useContext x1
  try clear_value x1
  exact (Within.ite (putTxLane_within h hk)
    h)

theorem ltxReject_within {K : Nat} {n : Fin 8} {detail : Nat} {s0 s : State} (h : Within K s0 s) (hk : 9671406556917033397649440 ||| K = K) :
    Within K s0 (ltxReject n detail s) := by
  unfold ltxReject
  exact (State.raise_within
    (State.errlog_within h (Within.sub hk (by simp))) (Within.sub hk (by simp)) (Within.sub hk (by simp)))

theorem fgCalDone_within {K : Nat} {c : Carrier} {ms : List (List (Int × Int))} {s0 s : State} (h : Within K s0 s) (hk : 9671996852727392104611872 ||| K = K) :
    Within K s0 (fgCalDone c ms s) := by
  unfold fgCalDone
  exact (Within.foldl _ (fun _ _ h1 => (Within.ite (by
        extract_lets -merge -useContext x2 x3 x4 x5 x6
        have h3 : Within K s0 x3 := by
          unfold x3
          exact (calMeasureAll_within h1 (Within.sub hk (by simp)))
        clear_value x3
        have h4 : Within K s0 x4 := by
          unfold x4
          exact (Within.foldl _ (fun _ _ h7 => (muxMeasure_within h7 (Within.sub hk (by simp))))
            h3)
        clear_value x4
        try clear_value x5
        have h6 : Within K s0 x6 := by
          unfold x6
          exact (putTxLane_within
            (State.set_within h4 (Within.sub hk (by simp))) (Within.sub hk (by simp)))
        clear_value x6
        exact (State.raise_within h6 (Within.sub hk (by simp)) (Within.sub hk (by simp))))
      h1))
    h)

theorem bgCalStep_within {K : Nat} {n : Fin 8} {m1 : Int} {m2 : Int} {mux : Int × Int} {s0 s : State} (h : Within K s0 s) (hk : 9671996852727392104611872 ||| K = K) :
    Within K s0 (bgCalStep n m1 m2 mux s) := by
  unfold bgCalStep
  extract_lets -merge -useContext x1 x2 x3 x4 x5 x6
  try clear_value x1
  try clear_value x2
  have h3 : Within K s0 x3 := by
    unfold x3
    exact (calMeasure_within h (Within.sub hk (by simp)))
  clear_value x3
  have h4 : Within K s0 x4 := by
    unfold x4
    exact (Within.ite h3
      (ltxReject_within h3 (Within.sub hk (by simp))))
  clear_value x4
  have h5 : Within K s0 x5 := by
    unfold x5
    exact (Within.ite (muxMeasure_within h4 (Within.sub hk (by simp)))
      (ltxReject_within h4 (Within.sub hk (by simp))))
  clear_value x5
  have h6 : Within K s0 x6 := by
    unfold x6
    exact (State.set_within h5 (Within.sub hk (by simp)))
  clear_value x6
  exact (Within.ite (Within.ite (State.raiseIf_within
        (State.set_within h6 (Within.sub hk (by simp))) (Within.sub hk (by simp)) (Within.sub hk (by simp)))
      h6)
    h)

theorem setGate_within {K : Nat} {s0 s : State} {n : Fin 8} {now : Bool} (h : Within K s0 s) (hk : 48357032784585166988247072 ||| K = K) :
    Within K s0 (setGate s n now) := by
  unfold setGate
  extract_lets -merge -useContext x1 x2 x3 x4
  try clear_value x1
  try clear_value x2
  have h3 : Within K s0 x3 := by
    unfold x3
    exact (State.setFlag_within
      (State.setFlag_within h (Within.sub hk (by simp))) (Within.sub hk (by simp)))
  clear_value x3
  have h4 : Within K s0 x4 := by
    unfold x4
    exact (State.set_within h3 (Within.sub hk (by simp)))
  clear_value x4
  exact (Within.ite h
    (State.raise_within h4 (Within.sub hk (by simp)) (Within.sub hk (by simp))))

theorem laneZero_within {K : Nat} {s0 s : State} {n : Fin 8} (h : Within K s0 s) (hk : 48357032784585166989295648 ||| K = K) :
    Within K s0 (laneZero s n) := by
  unfold laneZero
  extract_lets -merge -useContext x1 x2
  have h1 : Within K s0 x1 := by
    unfold x1
    exact (setGate_within h (Within.sub hk (by simp)))
  clear_value x1
  try clear_value x2
  exact (putTxLane_within h1 (Within.sub hk (by simp)))

theorem gateChange_within {K : Nat} {c : Carrier} {s0 s : State} (h : Within K s0 s) (hk : 48357032784585166988247072 ||| K = K) :
    Within K s0 (gateChange c s) := by
  unfold gateChange
  exact (Within.foldl _ (fun _ _ h1 => (setGate_within h1 hk))
    h)

theorem steerSyn_within {K : Nat} {c : Carrier} {ofs : Int} {s0 s : State} (h : Within K s0 s) (hk : 19342813113834066795823104 ||| K = K) :
    Within K s0 (steerSyn c ofs s) := by
  unfold steerSyn
  extract_lets -merge -useContext x1 x2 x3
  try clear_value x1
  try clear_value x2
  have h3 : Within K s0 x3 := by
    unfold x3
    exact (setTxDsp_within h (Within.sub hk (by simp)))
  clear_value x3
  exact (Within.ite (State.set_within h3 (Within.sub hk (by simp)))
    h3)

theorem loopFollow_within {K : Nat} {c : Carrier} {s0 s : State} (h : Within K s0 s) (hk : 19342813113834066795823104 ||| K = K) :
    Within K s0 (loopFollow c s) := by
  unfold loopFollow
  extract_lets -merge -useContext x1
  try clear_value x1
  split
  · skip
    exact (Within.ite (steerSyn_within h hk)
      h)
  · skip
    exact h

theorem holdover_within {K : Nat} {c : Carrier} {average : Int} {s0 s : State} (h : Within K s0 s) (hk : 58028439341502200386420768 ||| K = K) :
    Within K s0 (holdover c average s) := by
  unfold holdover
  extract_lets -merge -useContext x1
  have h1 : Within K s0 x1 := by
    unfold x1
    exact (steerSyn_within h (Within.sub hk (by simp)))
  clear_value x1
  exact (Within.ite (State.raise_within
      (State.set_within
        (State.set_within h1 (Within.sub hk (by simp))) (Within.sub hk (by simp))) (Within.sub hk (by simp)) (Within.sub hk (by simp)))
    h)

theorem loopResume_within {K : Nat} {c : Carrier} {s0 s : State} (h : Within K s0 s) (hk : 38685626227668133590597632 ||| K = K) :
    Within K s0 (loopResume c s) := by
  unfold loopResume
  exact (Within.ite (State.set_within
      (State.set_within h (Within.sub hk (by simp))) (Within.sub hk (by simp)))
    h)

theorem patternMode_within {K : Nat} {n : Fin 8} {s0 s : State} (h : Within K s0 s) (hk : 1048576 ||| K = K) :
    Within K s0 (patternMode n s) := by
  unfold patternMode
  extract_lets -merge -useContext x1 x2 x3
  try clear_value x1
  try clear_value x2
  try clear_value x3
  exact (Within.ite h
    (putTxLane_within h hk))

theorem injectSingle_within {K : Nat} {c : Carrier} {s0 s : State} (h : Within K s0 s) (hk : 524288 ||| K = K) :
    Within K s0 (injectSingle c s) := by
  unfold injectSingle
  extract_lets -merge -useContext x1
  try clear_value x1
  exact (setTxDsp_within h hk)

theorem injectPeriodic_within {K : Nat} {c : Carrier} {s0 s : State} (h : Within K s0 s) (hk : 524288 ||| K = K) :
    Within K s0 (injectPeriodic c s) := by
  unfold injectPeriodic
  extract_lets -merge -useContext x1
  try clear_value x1
  exact (Within.ite (setTxDsp_within h hk)
    h)

theorem pramAdvance_within {K : Nat} {n : Fin 8} {s0 s : State} (h : Within K s0 s) (hk : 9671406556917033397649408 ||| K = K) :
    Within K s0 (pramAdvance n s) := by
  unfold pramAdvance
  exact (State.addWrap_within h (Within.sub hk (by simp)))

theorem pramWrite_within {K : Nat} {n : Fin 8} {w : Word} {s0 s : State} (h : Within K s0 s) (hk : 9671406556917033398697984 ||| K = K) :
    Within K s0 (pramWrite n w s) := by
  unfold pramWrite
  extract_lets -merge -useContext x1 x2
  try clear_value x1
  try clear_value x2
  exact (pramAdvance_within
    (putTxLane_within h (Within.sub hk (by simp))) (Within.sub hk (by simp)))

theorem txpStart_within {K : Nat} {c : Carrier} {s0 s : State} (h : Within K s0 s) (hk : 58028439341502200387469312 ||| K = K) :
    Within K s0 (txpStart c s) := by
  unfold txpStart
  extract_lets -merge -useContext x1 x2 x3 x4
  have h1 : Within K s0 x1 := by
    unfold x1
    exact (State.clearAll_within h (Within.sub hk (by simp)))
  clear_value x1
  try clear_value x2
  have h3 : Within K s0 x3 := by
    unfold x3
    exact (setTxDsp_within h1 (Within.sub hk (by simp)))
  clear_value x3
  have h4 : Within K s0 x4 := by
    unfold x4
    exact (Within.foldl _ (fun _ _ h5 => (putTxLane_within h5 (Within.sub hk (by simp))))
      h3)
  clear_value x4
  exact (Within.ite (steerSyn_within h4 (Within.sub hk (by simp)))
    h4)

theorem txpStop_within {K : Nat} {c : Carrier} {s0 s : State} (h : Within K s0 s) (hk : 48357032784585166989819936 ||| K = K) :
    Within K s0 (txpStop c s) := by
  unfold txpStop
  extract_lets -merge -useContext x1
  try clear_value x1
  exact (Within.foldl _ (fun _ _ h2 => (laneZero_within h2 (Within.sub hk (by simp))))
    (setTxDsp_within h (Within.sub hk (by simp))))

theorem ltxStart_within {K : Nat} {n : Fin 8} {s0 s : State} (h : Within K s0 s) (hk : 9671406556917033397649408 ||| K = K) :
    Within K s0 (ltxStart n s) := by
  unfold ltxStart
  exact (State.set_within h (Within.sub hk (by simp)))

theorem ltxStop_within {K : Nat} {n : Fin 8} {s0 s : State} (h : Within K s0 s) (hk : 48357032784585166989295648 ||| K = K) :
    Within K s0 (ltxStop n s) := by
  unfold ltxStop
  extract_lets -merge -useContext x1 x2
  have h1 : Within K s0 x1 := by
    unfold x1
    exact (laneZero_within
      (State.set_within h (Within.sub hk (by simp))) hk)
  clear_value x1
  try clear_value x2
  exact (putTxLane_within h1 (Within.sub hk (by simp)))

theorem txpWritten_within {K : Nat} {c : Carrier} {y1 : Nat} {new : Word} {s0 s : State} (h : Within K s0 s) (hk : 38685626227668133591121952 ||| K = K) :
    Within K s0 (txpWritten c y1 new s) := by
  unfold txpWritten
  exact (Within.ite (Within.ite (txFirSwap_within h hk)
      h)
    (Within.ite (Within.ite (pchClear_within h (Within.sub hk (by simp)))
        h)
      (Within.ite (pchAppend_within h (Within.sub hk (by simp)))
        (Within.ite (Within.ite (injectSingle_within h (Within.sub hk (by simp)))
            h)
          h))))

theorem ltxWritten_within {K : Nat} {n : Fin 8} {y1 : Nat} {new : Word} {s0 s : State} (h : Within K s0 s) (hk : 9671406556917033398697984 ||| K = K) :
    Within K s0 (ltxWritten n y1 new s) := by
  unfold ltxWritten
  exact (Within.ite (pramWrite_within h hk)
    h)

end Sys2Proof.Machine
end

