-- ==== Sys2Proof/Laws/TxStream.lean ====
section
/-! SUPPORT. Laws/TxStream.lean: the parts of the state that each operation of Machine/TxStream.lean can change. -/
namespace Sys2Proof.Machine

set_option Elab.async false

open Sys2Proof

theorem blockFormed_within {K : Nat} {c : Carrier} {m : MapRun} {s0 s : State} (h : Within K s0 s) (hk : 38685626227668133592178688 ||| K = K) :
    Within K s0 (blockFormed c m s) := by
  unfold blockFormed
  extract_lets -merge -useContext x1 x2 x3 x4 x5 x6 x7 x8 x9 x10 x11
  try clear_value x1
  try clear_value x4
  try clear_value x5
  try clear_value x6
  try clear_value x7
  try clear_value x8
  have h9 : Within K s0 x9 := by
    unfold x9
    exact (Within.foldl _ (fun _ _ h12 => (by
        extract_lets -merge -useContext x13
        try clear_value x13
        exact (putTxLane_within h12 (Within.sub hk (by simp)))))
      h)
  clear_value x9
  have h10 : Within K s0 x10 := by
    unfold x10
    exact (putEncoder_within h9 (Within.sub hk (by simp)))
  clear_value x10
  have h11 : Within K s0 x11 := by
    unfold x11
    exact (setTxDsp_within h10 (Within.sub hk (by simp)))
  clear_value x11
  exact (State.addSat_within h11 (Within.sub hk (by simp)))

theorem txBlock_within {K : Nat} {c : Carrier} {s0 s : State} (h : Within K s0 s) (hk : 58028439341502200387477504 ||| K = K) :
    Within K s0 (txBlock c s) := by
  unfold txBlock
  extract_lets -merge -useContext x1
  have h1 : Within K s0 x1 := by
    unfold x1
    exact (loopFollow_within h (Within.sub hk (by simp)))
  clear_value x1
  exact (Within.ite h1
    (by
      split
      · skip
        exact (blockFormed_within h1 (Within.sub hk (by simp)))
      · skip
        exact h1))

end Sys2Proof.Machine
end

