-- ==== Sys2Proof/Laws/LineRx.lean ====
section
/-! SUPPORT. Laws/LineRx.lean: the parts of the state that each operation of Machine/LineRx.lean can change. -/
namespace Sys2Proof.Machine

set_option Elab.async false

open Sys2Proof

theorem putLineRx_within {K : Nat} {s0 s : State} {n : Fin 8} {x : LineRx} (h : Within K s0 s) (hk : 2097152 ||| K = K) :
    Within K s0 (putLineRx s n x) := by
  unfold putLineRx
  exact (Within.upd_lineRx h hk _)

theorem noteGain_within {K : Nat} {s0 s : State} {n : Fin 8} {c : Nat} (h : Within K s0 s) (hk : 2097152 ||| K = K) :
    Within K s0 (noteGain s n c) := by
  unfold noteGain
  extract_lets -merge -useContext x1
  try clear_value x1
  split
  · skip
    exact (Within.ite (putLineRx_within h hk)
      h)
  · skip
    exact h

theorem setGain_within {K : Nat} {n : Fin 8} {c : Nat} {s0 s : State} (h : Within K s0 s) (hk : 4835703278458516700921856 ||| K = K) :
    Within K s0 (setGain n c s) := by
  unfold setGain
  extract_lets -merge -useContext x1 x2 x3 x4 x5 x6
  have h1 : Within K s0 x1 := by
    unfold x1
    exact (noteGain_within h (Within.sub hk (by simp)))
  clear_value x1
  have h2 : Within K s0 x2 := by
    unfold x2
    exact (State.set_within h1 (Within.sub hk (by simp)))
  clear_value x2
  try clear_value x3
  have h4 : Within K s0 x4 := by
    unfold x4
    exact (putLineRx_within h2 (Within.sub hk (by simp)))
  clear_value x4
  have h5 : Within K s0 x5 := by
    unfold x5
    exact (Within.ite (State.set_within h4 (Within.sub hk (by simp)))
      h4)
  clear_value x5
  have h6 : Within K s0 x6 := by
    unfold x6
    exact (Within.ite h5
      (State.set_within h5 (Within.sub hk (by simp))))
  clear_value x6
  exact (Within.ite h
    (Within.ite h6
      (State.set_within h6 (Within.sub hk (by simp)))))

theorem agcPeriod_within {K : Nat} {n : Fin 8} {s0 s : State} (h : Within K s0 s) (hk : 4835703278458516700921856 ||| K = K) :
    Within K s0 (agcPeriod n s) := by
  unfold agcPeriod
  extract_lets -merge -useContext x1 x2 x3 x4 x5
  try clear_value x1
  have h2 : Within K s0 x2 := by
    unfold x2
    exact (State.set_within h (Within.sub hk (by simp)))
  clear_value x2
  try clear_value x3
  try clear_value x4
  try clear_value x5
  exact (Within.ite h
    (Within.ite (setGain_within h2 hk)
      (Within.ite (setGain_within h2 hk)
        h2)))

theorem fastStep_within {K : Nat} {n : Fin 8} {s0 s : State} (h : Within K s0 s) (hk : 4835703278458516700921888 ||| K = K) :
    Within K s0 (fastStep n s) := by
  unfold fastStep
  extract_lets -merge -useContext x1 x2 x3 x4 x5
  try clear_value x1
  try clear_value x2
  have h3 : Within K s0 x3 := by
    unfold x3
    exact (setGain_within
      (putLineRx_within h (Within.sub hk (by simp))) (Within.sub hk (by simp)))
  clear_value x3
  try clear_value x4
  have h5 : Within K s0 x5 := by
    unfold x5
    exact (putLineRx_within h3 (Within.sub hk (by simp)))
  clear_value x5
  exact (Within.ite (Within.ite h3
      (State.raise_within
        (State.bump_within h5 (Within.sub hk (by simp))) (Within.sub hk (by simp)) (Within.sub hk (by simp))))
    h)

theorem gainLimit_within {K : Nat} {n : Fin 8} {s0 s : State} (h : Within K s0 s) (hk : 4835703278458516698824736 ||| K = K) :
    Within K s0 (gainLimit n s) := by
  unfold gainLimit
  extract_lets -merge -useContext x1
  try clear_value x1
  exact (Within.ite h
    (Within.ite (State.raise_within
        (State.set_within h (Within.sub hk (by simp))) (Within.sub hk (by simp)) (Within.sub hk (by simp)))
      (Within.ite (State.raise_within
          (State.set_within h (Within.sub hk (by simp))) (Within.sub hk (by simp)) (Within.sub hk (by simp)))
        h)))

theorem refreshFrozen_within {K : Nat} {s0 s : State} {n : Fin 8} (h : Within K s0 s) (hk : 4835703278458516698824704 ||| K = K) :
    Within K s0 (refreshFrozen s n) := by
  unfold refreshFrozen
  exact (State.setFlag_within h (Within.sub hk (by simp)))

theorem captureFirst_within {K : Nat} {n : Fin 8} {position : Nat} {k : Capture} {s0 s : State} (h : Within K s0 s) (hk : 1125899908939776 ||| K = K) :
    Within K s0 (captureFirst n position k s) := by
  unfold captureFirst
  extract_lets -merge -useContext x1 x2
  try clear_value x1
  try clear_value x2
  exact (putLineRx_within
    (State.drawn_within h (Within.sub hk (by simp))) (Within.sub hk (by simp)))

theorem captureBlock_within {K : Nat} {n : Fin 8} {b : Nat} {samples : List (Int × Nat)} {s0 s : State} (h : Within K s0 s) (hk : 1125899908939776 ||| K = K) :
    Within K s0 (captureBlock n b samples s) := by
  unfold captureBlock
  extract_lets -merge -useContext x1
  try clear_value x1
  split
  · skip
    exact h
  · skip
    extract_lets -merge -useContext x2 x3 x4 x5 x6
    have h3 : Within K s0 x3 := by
      unfold x3
      split
      · skip
        exact (captureFirst_within h hk)
      · skip
        exact h
    clear_value x3
    try clear_value x4
    try clear_value x5
    try clear_value x6
    exact (Within.ite h
      (putLineRx_within h3 (Within.sub hk (by simp))))

theorem histBlock_within {K : Nat} {n : Fin 8} {samples : List (Int × Nat)} {s0 s : State} (h : Within K s0 s) (hk : 2097152 ||| K = K) :
    Within K s0 (histBlock n samples s) := by
  unfold histBlock
  extract_lets -merge -useContext x1 x2 x3 x4
  try clear_value x1
  try clear_value x2
  try clear_value x3
  try clear_value x4
  exact (Within.ite (putLineRx_within h hk)
    h)

theorem clipCounts_within {K : Nat} {n : Fin 8} {slices : List Nat} {s0 s : State} (h : Within K s0 s) (hk : 4835703278458516700921888 ||| K = K) :
    Within K s0 (clipCounts n slices s) := by
  unfold clipCounts
  extract_lets -merge -useContext x1 x2 x3 x4 x5 x6
  try clear_value x1
  try clear_value x2
  have h3 : Within K s0 x3 := by
    unfold x3
    exact (putLineRx_within h (Within.sub hk (by simp)))
  clear_value x3
  have h4 : Within K s0 x4 := by
    unfold x4
    exact (Within.foldl _ (fun _ _ h7 => (State.bump_within h7 (Within.sub hk (by simp))))
      h3)
  clear_value x4
  have h5 : Within K s0 x5 := by
    unfold x5
    exact (State.bump_within h4 (Within.sub hk (by simp)))
  clear_value x5
  have h6 : Within K s0 x6 := by
    unfold x6
    exact (State.bump_within
      (State.set_within h5 (Within.sub hk (by simp))) (Within.sub hk (by simp)))
  clear_value x6
  exact (Within.ite (putLineRx_within h (Within.sub hk (by simp)))
    (Within.ite h5
      (State.raise_within
        (refreshFrozen_within h6 (Within.sub hk (by simp))) (Within.sub hk (by simp)) (Within.sub hk (by simp)))))

theorem clipIntervalEnd_within {K : Nat} {n : Fin 8} {s0 s : State} (h : Within K s0 s) (hk : 4835703278458516698824704 ||| K = K) :
    Within K s0 (clipIntervalEnd n s) := by
  unfold clipIntervalEnd
  exact (Within.ite (refreshFrozen_within
      (State.set_within h (Within.sub hk (by simp))) hk)
    h)

theorem dropBlock_within {K : Nat} {b : Nat} {s0 s : State} {n : Fin 8} (h : Within K s0 s) (hk : 2097152 ||| K = K) :
    Within K s0 (dropBlock b s n) := by
  unfold dropBlock
  extract_lets -merge -useContext x1 x2
  try clear_value x1
  try clear_value x2
  exact (putLineRx_within h hk)

theorem ingressBlock_within {K : Nat} {n : Fin 8} {b : Nat} {codes : List Int} {s0 s : State} (h : Within K s0 s) (hk : 2097152 ||| K = K) :
    Within K s0 (ingressBlock n b codes s) := by
  unfold ingressBlock
  extract_lets -merge -useContext x1 x2
  try clear_value x1
  have h2 : Within K s0 x2 := by
    unfold x2
    exact (putLineRx_within h hk)
  clear_value x2
  exact (Within.ite h
    (Within.ite (putLineRx_within h hk)
      (Within.foldl _ (fun _ _ h3 => (dropBlock_within h3 hk))
        h2)))

theorem laneBlock_within {K : Nat} {n : Fin 8} {codes : List Int} {s0 s : State} (h : Within K s0 s) (hk : 4835703279584416607764512 ||| K = K) :
    Within K s0 (laneBlock n codes s) := by
  unfold laneBlock
  extract_lets -merge -useContext x1 x2 x3 x4 x5 x6 x7
  have h1 : Within K s0 x1 := by
    unfold x1
    exact (clipIntervalEnd_within h (Within.sub hk (by simp)))
  clear_value x1
  try clear_value x2
  try clear_value x3
  try clear_value x4
  have h6 : Within K s0 x6 := by
    unfold x6
    exact (putLineRx_within h1 (Within.sub hk (by simp)))
  clear_value x6
  have h7 : Within K s0 x7 := by
    unfold x7
    exact (clipCounts_within h6 (Within.sub hk (by simp)))
  clear_value x7
  exact (Within.ite h
    (ingressBlock_within
      (captureBlock_within
        (histBlock_within h7 (Within.sub hk (by simp))) (Within.sub hk (by simp))) (Within.sub hk (by simp))))

theorem lanesTake_within {K : Nat} {c : Carrier} {s0 s : State} (h : Within K s0 s) (hk : 2097152 ||| K = K) :
    Within K s0 (lanesTake c s) := by
  unfold lanesTake
  exact (Within.ite (Within.foldl _ (fun _ _ h1 => (putLineRx_within h1 hk))
      h)
    h)

theorem slipSignalled_within {K : Nat} {c : Carrier} {s0 s : State} (h : Within K s0 s) (hk : 2097152 ||| K = K) :
    Within K s0 (slipSignalled c s) := by
  unfold slipSignalled
  split
  · skip
    extract_lets -merge -useContext x1
    try clear_value x1
    exact (putLineRx_within h hk)
  · skip
    exact h

theorem setRejRun_within {K : Nat} {s0 s : State} {n : Fin 8} {slice : Nat} {item : Nat} {v : Nat} (h : Within K s0 s) (hk : 2097152 ||| K = K) :
    Within K s0 (setRejRun s n slice item v) := by
  unfold setRejRun
  extract_lets -merge -useContext x1
  try clear_value x1
  exact (putLineRx_within h hk)

theorem sliceTrim_within {K : Nat} {n : Fin 8} {slice : Nat} {item : Nat} {s0 s : State} (h : Within K s0 s) (hk : 262144 ||| K = K) :
    Within K s0 (sliceTrim n slice item s) := by
  unfold sliceTrim
  extract_lets -merge -useContext x1
  try clear_value x1
  exact (setTrim_within h hk)

theorem sliceMeasure_within {K : Nat} {n : Fin 8} {slice : Nat} {item : Nat} {m : Int × Int} {s0 s : State} (h : Within K s0 s) (hk : 4836293574268875406835744 ||| K = K) :
    Within K s0 (sliceMeasure n slice item m s) := by
  unfold sliceMeasure
  extract_lets -merge -useContext x1 x2
  have h1 : Within K s0 x1 := by
    unfold x1
    exact (calMeasure_within h (Within.sub hk (by simp)))
  clear_value x1
  have h2 : Within K s0 x2 := by
    unfold x2
    exact (setRejRun_within h1 (Within.sub hk (by simp)))
  clear_value x2
  exact (Within.ite (setRejRun_within
      (sliceTrim_within h1 (Within.sub hk (by simp))) (Within.sub hk (by simp)))
    (State.raise_within
      (State.errlog_within
        (State.bump_within h2 (Within.sub hk (by simp))) (Within.sub hk (by simp))) (Within.sub hk (by simp)) (Within.sub hk (by simp))))

theorem sliceCal_within {K : Nat} {n : Fin 8} {slice : Nat} {ms : List (Int × Int)} {s0 s : State} (h : Within K s0 s) (hk : 4836293574268875406835744 ||| K = K) :
    Within K s0 (sliceCal n slice ms s) := by
  unfold sliceCal
  exact (Within.foldl _ (fun _ _ h1 => (sliceMeasure_within h1 hk))
    h)

theorem exchange_within {K : Nat} {n : Fin 8} {s0 s : State} (h : Within K s0 s) (hk : 4835703278458516700921856 ||| K = K) :
    Within K s0 (exchange n s) := by
  unfold exchange
  extract_lets -merge -useContext x1 x2 x3 x4 x5 x6 x7
  try clear_value x1
  try clear_value x2
  try clear_value x3
  try clear_value x4
  have h5 : Within K s0 x5 := by
    unfold x5
    exact (putLineRx_within h (Within.sub hk (by simp)))
  clear_value x5
  have h6 : Within K s0 x6 := by
    unfold x6
    exact (State.set_within
      (State.set_within h5 (Within.sub hk (by simp))) (Within.sub hk (by simp)))
  clear_value x6
  try clear_value x7
  exact (Within.ite (State.set_within h6 (Within.sub hk (by simp)))
    h6)

theorem stepEnd_within {K : Nat} {n : Fin 8} {s0 s : State} (h : Within K s0 s) (hk : 4835703278458516700921888 ||| K = K) :
    Within K s0 (stepEnd n s) := by
  unfold stepEnd
  extract_lets -merge -useContext x1 x2 x3 x4 x5 x6 x7 x8 x9
  try clear_value x1
  try clear_value x2
  have h3 : Within K s0 x3 := by
    unfold x3
    exact (putLineRx_within h (Within.sub hk (by simp)))
  clear_value x3
  have h4 : Within K s0 x4 := by
    unfold x4
    exact (State.raise_within
      (State.set_within h3 (Within.sub hk (by simp))) (Within.sub hk (by simp)) (Within.sub hk (by simp)))
  clear_value x4
  have h5 : Within K s0 x5 := by
    unfold x5
    exact (exchange_within h3 (Within.sub hk (by simp)))
  clear_value x5
  try clear_value x6
  try clear_value x7
  have h8 : Within K s0 x8 := by
    unfold x8
    exact (putLineRx_within h5 (Within.sub hk (by simp)))
  clear_value x8
  have h9 : Within K s0 x9 := by
    unfold x9
    exact (Within.ite (State.raise_within
        (State.addWrap_within h8 (Within.sub hk (by simp))) (Within.sub hk (by simp)) (Within.sub hk (by simp)))
      h8)
  clear_value x9
  exact (Within.ite (refreshFrozen_within
      (State.errlog_within h4 (Within.sub hk (by simp))) (Within.sub hk (by simp)))
    (refreshFrozen_within h9 (Within.sub hk (by simp))))

theorem adcStep_within {K : Nat} {n : Fin 8} {m : Int × Int} {s0 s : State} (h : Within K s0 s) (hk : 4836293574268875406835744 ||| K = K) :
    Within K s0 (adcStep n m s) := by
  unfold adcStep
  extract_lets -merge -useContext x1
  try clear_value x1
  exact (Within.ite (Within.ite (State.set_within (sliceMeasure_within h hk) (Within.sub hk (by simp)))
      (stepEnd_within
        (State.set_within h (Within.sub hk (by simp))) (Within.sub hk (by simp))))
    h)

theorem unretire_within {K : Nat} {n : Fin 8} {s0 s : State} (h : Within K s0 s) (hk : 4835703278458516700921856 ||| K = K) :
    Within K s0 (unretire n s) := by
  unfold unretire
  extract_lets -merge -useContext x1 x2
  try clear_value x1
  have h2 : Within K s0 x2 := by
    unfold x2
    exact (Within.foldl _ (fun _ _ h3 => (setRejRun_within h3 (Within.sub hk (by simp))))
      (State.set_within h (Within.sub hk (by simp))))
  clear_value x2
  exact (refreshFrozen_within h2 (Within.sub hk (by simp)))

theorem lrxFgCal_within {K : Nat} {n : Fin 8} {ms : List (List (Int × Int))} {afe : List (Int × Int)} {s0 s : State} (h : Within K s0 s) (hk : 4836293574268875406835744 ||| K = K) :
    Within K s0 (lrxFgCal n ms afe s) := by
  unfold lrxFgCal
  extract_lets -merge -useContext x1 x2 x3
  have h1 : Within K s0 x1 := by
    unfold x1
    exact (Within.foldl _ (fun _ _ h4 => (sliceCal_within h4 hk))
      h)
  clear_value x1
  have h2 : Within K s0 x2 := by
    unfold x2
    exact (calMeasureAll_within h1 (Within.sub hk (by simp)))
  clear_value x2
  try clear_value x3
  exact (Within.ite (putLineRx_within h2 (Within.sub hk (by simp)))
    h)

theorem laneClockLoss_within {K : Nat} {c : Carrier} {s0 s : State} (h : Within K s0 s) (hk : 4835703278458516698824704 ||| K = K) :
    Within K s0 (laneClockLoss c s) := by
  unfold laneClockLoss
  exact (Within.ite h
    (Within.foldl _ (fun _ _ h1 => (Within.ite (refreshFrozen_within
          (State.set_within h1 (Within.sub hk (by simp))) hk)
        h1))
      h))

theorem numberingBegins_within {K : Nat} {c : Carrier} {s0 s : State} (h : Within K s0 s) (hk : 2097152 ||| K = K) :
    Within K s0 (numberingBegins c s) := by
  unfold numberingBegins
  exact (Within.foldl _ (fun _ _ h1 => (putLineRx_within h1 hk))
    h)

theorem laneClockResume_within {K : Nat} {c : Carrier} {s0 s : State} (h : Within K s0 s) (hk : 4835703278458516700921856 ||| K = K) :
    Within K s0 (laneClockResume c s) := by
  unfold laneClockResume
  exact (Within.ite (numberingBegins_within
      (Within.foldl _ (fun _ _ h1 => (refreshFrozen_within
          (State.set_within h1 (Within.sub hk (by simp))) (Within.sub hk (by simp))))
        h) (Within.sub hk (by simp)))
    h)

theorem histStart_within {K : Nat} {n : Fin 8} {s0 s : State} (h : Within K s0 s) (hk : 4835703278458516700921856 ||| K = K) :
    Within K s0 (histStart n s) := by
  unfold histStart
  extract_lets -merge -useContext x1 x2
  try clear_value x1
  have h2 : Within K s0 x2 := by
    unfold x2
    exact (putLineRx_within h (Within.sub hk (by simp)))
  clear_value x2
  exact (Within.ite (State.bump_within h (Within.sub hk (by simp)))
    (State.set_within
      (State.clearAll_within h2 (Within.sub hk (by simp))) (Within.sub hk (by simp))))

theorem histDone_within {K : Nat} {n : Fin 8} {s0 s : State} (h : Within K s0 s) (hk : 4835703278458516698824736 ||| K = K) :
    Within K s0 (histDone n s) := by
  unfold histDone
  extract_lets -merge -useContext x1 x2
  try clear_value x1
  have h2 : Within K s0 x2 := by
    unfold x2
    exact (Within.foldl _ (fun _ _ h3 => (State.set_within h3 (Within.sub hk (by simp))))
      h)
  clear_value x2
  exact (Within.ite (State.raise_within
      (State.set_within
        (State.set_within h2 (Within.sub hk (by simp))) (Within.sub hk (by simp))) (Within.sub hk (by simp)) (Within.sub hk (by simp)))
    h)

theorem captureBegin_within {K : Nat} {n : Fin 8} {s0 s : State} (h : Within K s0 s) (hk : 4835703278458516700921856 ||| K = K) :
    Within K s0 (captureBegin n s) := by
  unfold captureBegin
  extract_lets -merge -useContext x1 x2 x3
  try clear_value x1
  try clear_value x2
  have h3 : Within K s0 x3 := by
    unfold x3
    exact (putLineRx_within h (Within.sub hk (by simp)))
  clear_value x3
  exact (Within.ite (State.set_within
      (State.clearAll_within h3 (Within.sub hk (by simp))) (Within.sub hk (by simp)))
    h)

theorem captureEnd_within {K : Nat} {n : Fin 8} {s0 s : State} (h : Within K s0 s) (hk : 4835703278458516698824704 ||| K = K) :
    Within K s0 (captureEnd n s) := by
  unfold captureEnd
  exact (State.set_within h (Within.sub hk (by simp)))

theorem captureMark_within {K : Nat} {n : Fin 8} {trunc : Bool} {stopped : Bool} {s0 s : State} (h : Within K s0 s) (hk : 4835703278458516700921856 ||| K = K) :
    Within K s0 (captureMark n trunc stopped s) := by
  unfold captureMark
  extract_lets -merge -useContext x1
  try clear_value x1
  split
  · skip
    exact (Within.ite (captureEnd_within
        (putLineRx_within h (Within.sub hk (by simp))) (Within.sub hk (by simp)))
      h)
  · skip
    exact h

theorem snapDisarm_within {K : Nat} {n : Fin 8} {s0 s : State} (h : Within K s0 s) (hk : 4835703278458516700921888 ||| K = K) :
    Within K s0 (snapDisarm n s) := by
  unfold snapDisarm
  extract_lets -merge -useContext x1 x2
  have h1 : Within K s0 x1 := by
    unfold x1
    exact (captureMark_within h (Within.sub hk (by simp)))
  clear_value x1
  have h2 : Within K s0 x2 := by
    unfold x2
    exact (State.set_within
      (State.set_within h1 (Within.sub hk (by simp))) (Within.sub hk (by simp)))
  clear_value x2
  exact (State.raise_within
    (State.errlog_within
      (State.set_within h2 (Within.sub hk (by simp))) (Within.sub hk (by simp))) (Within.sub hk (by simp)) (Within.sub hk (by simp)))

theorem snapTruncate_within {K : Nat} {s0 s : State} (h : Within K s0 s) (hk : 4835703278458516700921888 ||| K = K) :
    Within K s0 (snapTruncate s) := by
  unfold snapTruncate
  exact (Within.foldl _ (fun _ _ h1 => (Within.ite (snapDisarm_within h1 hk)
      h1))
    h)

theorem lrxStart_within {K : Nat} {n : Fin 8} {s0 s : State} (h : Within K s0 s) (hk : 4835703278458516700921856 ||| K = K) :
    Within K s0 (lrxStart n s) := by
  unfold lrxStart
  extract_lets -merge -useContext x1 x2 x3
  have h1 : Within K s0 x1 := by
    unfold x1
    exact (State.clearAll_within h (Within.sub hk (by simp)))
  clear_value x1
  have h2 : Within K s0 x2 := by
    unfold x2
    exact (State.clearArray_within h1 (Within.sub hk (by simp)))
  clear_value x2
  try clear_value x3
  exact (putLineRx_within h2 (Within.sub hk (by simp)))

theorem lrxRunning_within {K : Nat} {n : Fin 8} {s0 s : State} (h : Within K s0 s) (hk : 4835703278458516700921856 ||| K = K) :
    Within K s0 (lrxRunning n s) := by
  unfold lrxRunning
  exact (numberingBegins_within
    (refreshFrozen_within h (Within.sub hk (by simp))) (Within.sub hk (by simp)))

theorem lrxStop_within {K : Nat} {n : Fin 8} {s0 s : State} (h : Within K s0 s) (hk : 4835703278458516700921856 ||| K = K) :
    Within K s0 (lrxStop n s) := by
  unfold lrxStop
  extract_lets -merge -useContext x1
  have h1 : Within K s0 x1 := by
    unfold x1
    exact (Within.ite (State.set_within (captureMark_within h hk) (Within.sub hk (by simp)))
      h)
  clear_value x1
  exact (State.set_within h1 (Within.sub hk (by simp)))

theorem lrxWritten_within {K : Nat} {n : Fin 8} {y1 : Nat} {old : Word} {new : Word} {s0 s : State} (h : Within K s0 s) (hk : 4835703278458516700921856 ||| K = K) :
    Within K s0 (lrxWritten n y1 old new s) := by
  unfold lrxWritten
  extract_lets -merge -useContext x1 x2 x3 x4 x5
  have h1 : Within K s0 x1 := by
    unfold x1
    exact (Within.ite (unretire_within h hk)
      h)
  clear_value x1
  try clear_value x2
  try clear_value x3
  have h4 : Within K s0 x4 := by
    unfold x4
    exact (Within.ite (putLineRx_within h1 (Within.sub hk (by simp)))
      (Within.ite (putLineRx_within h1 (Within.sub hk (by simp)))
        h1))
  clear_value x4
  have h5 : Within K s0 x5 := by
    unfold x5
    exact (State.set_within h (Within.sub hk (by simp)))
  clear_value x5
  exact (Within.ite (setGain_within h hk)
    (Within.ite (refreshFrozen_within h4 (Within.sub hk (by simp)))
      (Within.ite (Within.ite (histStart_within h hk)
          h)
        (Within.ite (Within.ite (captureEnd_within h5 (Within.sub hk (by simp)))
            h5)
          h))))

end Sys2Proof.Machine
end

