-- ==== Sys2Proof/Laws/PlinthCore.lean ====
section
/-! SUPPORT. Laws/PlinthCore.lean: the parts of the state that each operation of Machine/PlinthCore.lean can change. -/
namespace Sys2Proof.Machine

set_option Elab.async false

open Sys2Proof

theorem State.setPlinth_within {K : Nat} {s0 s : State} {x : Plinth} (h : Within K s0 s) (hk : 1073741824 ||| K = K) :
    Within K s0 (State.setPlinth s x) := by
  unfold State.setPlinth
  exact (Within.upd_plinth h hk _)

theorem State.randomDrawn_within {K : Nat} {s0 s : State} (h : Within K s0 s) (hk : 1073741824 ||| K = K) :
    Within K s0 (State.randomDrawn s) := by
  unfold State.randomDrawn
  extract_lets -merge -useContext x1
  try clear_value x1
  exact (State.setPlinth_within h hk)

end Sys2Proof.Machine
end

