-- ==== Sys2Proof/Laws/Cast.lean ====
section
/-! SUPPORT. Laws/Cast.lean: the parts of the state that each operation of Machine/Cast.lean can change. -/
namespace Sys2Proof.Machine

set_option Elab.async false

open Sys2Proof

theorem State.setCast_within {K : Nat} {s0 s : State} {x : CastState} (h : Within K s0 s) (hk : 34359738368 ||| K = K) :
    Within K s0 (State.setCast s x) := by
  unfold State.setCast
  exact (Within.upd_cast h hk _)

theorem ringDropped_within {K : Nat} {s0 s : State} (h : Within K s0 s) (hk : 75557863725914323419168 ||| K = K) :
    Within K s0 (ringDropped s) := by
  unfold ringDropped
  exact (State.raise_within
    (State.bump_within h (Within.sub hk (by simp))) (Within.sub hk (by simp)) (Within.sub hk (by simp)))

theorem ringHand_within {K : Nat} {b : CastBlock} {s0 s : State} (h : Within K s0 s) (hk : 226673591177777329995808 ||| K = K) :
    Within K s0 (ringHand b s) := by
  unfold ringHand
  extract_lets -merge -useContext x1 x2 x3
  try clear_value x1
  have h2 : Within K s0 x2 := by
    unfold x2
    exact (State.setCast_within h (Within.sub hk (by simp)))
  clear_value x2
  try clear_value x3
  exact (Within.ite (State.setCast_within h2 (Within.sub hk (by simp)))
    (ringDropped_within
      (archiveRefuse_within h2 (Within.sub hk (by simp))) (Within.sub hk (by simp))))

theorem ringRecord_within {K : Nat} {r : CastRecord} {m : Nat} {at_ : Nat} {resetNs : Nat} {s0 s : State} (h : Within K s0 s) (hk : 226673591177777329995808 ||| K = K) :
    Within K s0 (ringRecord r m at_ resetNs s) := by
  unfold ringRecord
  extract_lets -merge -useContext x1 x2 x3 x4
  try clear_value x1
  try clear_value x2
  try clear_value x3
  have h4 : Within K s0 x4 := by
    unfold x4
    exact (State.setCast_within h (Within.sub hk (by simp)))
  clear_value x4
  exact (Within.ite h
    (by
      split
      · skip
        exact (Within.ite (ringHand_within h4 hk)
          h4)
      · skip
        exact h4))

theorem castRecord_within {K : Nat} {channel : Nat} {flags : Nat} {m : Nat} {value : Int} {at_ : Nat} {resetNs : Nat} {s0 s : State} (h : Within K s0 s) (hk : 528905046082534135300128 ||| K = K) :
    Within K s0 (castRecord channel flags m value at_ resetNs s) := by
  unfold castRecord
  extract_lets -merge -useContext x1 x2 x3 x4
  try clear_value x1
  try clear_value x2
  try clear_value x3
  have h4 : Within K s0 x4 := by
    unfold x4
    exact (markGranule_within
      (State.setCast_within h (Within.sub hk (by simp))) (Within.sub hk (by simp)))
  clear_value x4
  exact (Within.ite h
    (ringRecord_within h4 (Within.sub hk (by simp))))

theorem ringDrop_within {K : Nat} {s0 s : State} (h : Within K s0 s) (hk : 75557863725948683157536 ||| K = K) :
    Within K s0 (ringDrop s) := by
  unfold ringDrop
  extract_lets -merge -useContext x1 x2
  try clear_value x1
  try clear_value x2
  split
  · skip
    exact (ringDropped_within
      (State.setCast_within h (Within.sub hk (by simp))) (Within.sub hk (by simp)))
  · skip
    split
    · skip
      exact (ringDropped_within
        (State.setCast_within h (Within.sub hk (by simp))) (Within.sub hk (by simp)))
    · skip
      exact h

theorem castIgnore_within {K : Nat} {s0 s : State} (h : Within K s0 s) (hk : 75557863725914323419136 ||| K = K) :
    Within K s0 (castIgnore s) := by
  unfold castIgnore
  exact (State.bump_within h (Within.sub hk (by simp)))

theorem castSnapshot_within {K : Nat} {s0 s : State} (h : Within K s0 s) (hk : 4911261146688030651711520 ||| K = K) :
    Within K s0 (castSnapshot s).1 := by
  unfold castSnapshot
  split
  · skip
    exact (Within.fst h)
  · skip
    split
    · skip
      exact (Within.fst (State.raise_within
        (State.bump_within h (Within.sub hk (by simp))) (Within.sub hk (by simp)) (Within.sub hk (by simp))))
    · skip
      split
      · skip
        exact (Within.fst (Within.foldl _ (fun _ _ h1 => (captureBegin_within h1 (Within.sub hk (by simp))))
          (startTimer_within
            (State.set_within h (Within.sub hk (by simp))) (Within.sub hk (by simp)))))
      · skip
        exact (Within.fst h)

theorem castOpen_within {K : Nat} {b : Nat} {y1 : Nat} {s0 s : State} (h : Within K s0 s) (hk : 4911261146688067158933536 ||| K = K) :
    Within K s0 (castOpen b y1 s) := by
  unfold castOpen
  extract_lets -merge -useContext x1 x2 x3 x4 x5 x6 x7 x8 x9 x10 x11 x12 x13
  try clear_value x1
  try clear_value x2
  try clear_value x3
  try clear_value x4
  have h5 : Within K s0 x5.1 := by
    unfold x5
    exact (castSnapshot_within h (Within.sub hk (by simp)))
  clear_value x5
  have h6 : Within K s0 x6 := by
    unfold x6
    exact h5
  clear_value x6
  try clear_value x7
  try clear_value x8
  have h9 : Within K s0 x9 := by
    unfold x9
    exact (State.setCast_within h6 (Within.sub hk (by simp)))
  clear_value x9
  try clear_value x10
  have h11 : Within K s0 x11 := by
    unfold x11
    exact (Within.upd_keep h9 (Within.sub hk (by simp)) _)
  clear_value x11
  have h12 : Within K s0 x12 := by
    unfold x12
    exact (State.set_within
      (State.set_within
        (State.addWrap_within h11 (Within.sub hk (by simp))) (Within.sub hk (by simp))) (Within.sub hk (by simp)))
  clear_value x12
  have h13 : Within K s0 x13 := by
    unfold x13
    exact (State.setPair_within
      (State.set_within h12 (Within.sub hk (by simp))) (Within.sub hk (by simp)))
  clear_value x13
  exact (State.raise_within h13 (Within.sub hk (by simp)) (Within.sub hk (by simp)))

theorem castExtend_within {K : Nat} {b : Nat} {y1 : Nat} {s0 s : State} (h : Within K s0 s) (hk : 75557863725948683157536 ||| K = K) :
    Within K s0 (castExtend b y1 s) := by
  unfold castExtend
  extract_lets -merge -useContext x1
  try clear_value x1
  split
  · skip
    exact h
  · skip
    extract_lets -merge -useContext x2 x3 x4
    try clear_value x2
    try clear_value x3
    have h4 : Within K s0 x4 := by
      unfold x4
      exact (State.set_within
        (State.setCast_within h (Within.sub hk (by simp))) (Within.sub hk (by simp)))
    clear_value x4
    exact (State.raise_within
      (State.set_within
        (State.set_within h4 (Within.sub hk (by simp))) (Within.sub hk (by simp))) (Within.sub hk (by simp)) (Within.sub hk (by simp)))

theorem castPass_within {K : Nat} {s0 s : State} (h : Within K s0 s) (hk : 75557863725948683157536 ||| K = K) :
    Within K s0 (castPass s) := by
  unfold castPass
  extract_lets -merge -useContext x1 x2
  try clear_value x1
  have h2 : Within K s0 x2 := by
    unfold x2
    split
    · skip
      exact h
    · skip
      exact (State.setCast_within h (Within.sub hk (by simp)))
  clear_value x2
  exact (State.raise_within
    (castIgnore_within h2 (Within.sub hk (by simp))) (Within.sub hk (by simp)) (Within.sub hk (by simp)))

theorem castWindowEnd_within {K : Nat} {s0 s : State} (h : Within K s0 s) (hk : 75557863725948683157504 ||| K = K) :
    Within K s0 (castWindowEnd s) := by
  unfold castWindowEnd
  extract_lets -merge -useContext x1
  try clear_value x1
  split
  · skip
    exact h
  · skip
    extract_lets -merge -useContext x2 x3 x4 x5
    try clear_value x2
    try clear_value x3
    have h4 : Within K s0 x4 := by
      unfold x4
      exact (State.setCast_within h (Within.sub hk (by simp)))
    clear_value x4
    have h5 : Within K s0 x5 := by
      unfold x5
      exact (State.set_within
        (State.set_within h4 (Within.sub hk (by simp))) (Within.sub hk (by simp)))
    clear_value x5
    exact (Within.ite h
      (State.set_within h5 (Within.sub hk (by simp))))

theorem castTrigger_within {K : Nat} {b : Nat} {y1 : Nat} {s0 s : State} (h : Within K s0 s) (hk : 4911261146688067158933536 ||| K = K) :
    Within K s0 (castTrigger b y1 s) := by
  unfold castTrigger
  extract_lets -merge -useContext x1 x2
  have h1 : Within K s0 x1 := by
    unfold x1
    exact (Within.ite (castWindowEnd_within h (Within.sub hk (by simp)))
      h)
  clear_value x1
  try clear_value x2
  exact (Within.ite (castIgnore_within h1 (Within.sub hk (by simp)))
    (Within.ite (Within.ite (castOpen_within h1 hk)
        (Within.ite (State.set_within
            (State.setCast_within h1 (Within.sub hk (by simp))) (Within.sub hk (by simp)))
          (castIgnore_within h1 (Within.sub hk (by simp)))))
      (Within.ite (castExtend_within h1 (Within.sub hk (by simp)))
        (castPass_within h1 (Within.sub hk (by simp))))))

theorem castArrives_within {K : Nat} {b : Nat} {s0 s : State} (h : Within K s0 s) (hk : 4911261146688067158933536 ||| K = K) :
    Within K s0 (castArrives b s) := by
  unfold castArrives
  extract_lets -merge -useContext x1
  try clear_value x1
  split
  · skip
    exact (castTrigger_within
      (State.setCast_within h (Within.sub hk (by simp))) hk)
  · skip
    exact (Within.ite (castTrigger_within h hk)
      h)

theorem castOccurs_within {K : Nat} {b : Nat} {s0 s : State} (h : Within K s0 s) (hk : 4911261146688067158933536 ||| K = K) :
    Within K s0 (castOccurs b s) := by
  unfold castOccurs
  exact (Within.ite (castTrigger_within h hk)
    h)

theorem castHeld_within {K : Nat} {s0 s : State} (h : Within K s0 s) (hk : 4911261146688067158933536 ||| K = K) :
    Within K s0 (castHeld s) := by
  unfold castHeld
  extract_lets -merge -useContext x1
  try clear_value x1
  split
  · skip
    exact h
  · skip
    exact (Within.ite (castOpen_within
        (State.set_within
          (State.setCast_within h (Within.sub hk (by simp))) (Within.sub hk (by simp))) hk)
      h)

theorem snapshotEnd_within {K : Nat} {s0 s : State} (h : Within K s0 s) (hk : 4835703278458516698824704 ||| K = K) :
    Within K s0 (snapshotEnd s) := by
  unfold snapshotEnd
  exact (Within.ite h
    (Within.foldl _ (fun _ _ h1 => (Within.ite (captureEnd_within h1 hk)
        h1))
      h))

theorem setCastHead_within {K : Nat} {y0 : Nat} {s0 s : State} (h : Within K s0 s) (hk : 75557863725914323419136 ||| K = K) :
    Within K s0 (setCastHead y0 s) := by
  unfold setCastHead
  exact (Within.foldl _ (fun _ _ h1 => (State.set_within h1 (Within.sub hk (by simp))))
    h)

theorem castCommit_within {K : Nat} {s0 s : State} (h : Within K s0 s) (hk : 1435599410792408652185632 ||| K = K) :
    Within K s0 (castCommit s) := by
  unfold castCommit
  extract_lets -merge -useContext x1
  try clear_value x1
  split
  · skip
    exact h
  · skip
    extract_lets -merge -useContext x2 x3 x4 x5 x6 x7 x8 x9 x10 x11
    try clear_value x2
    try clear_value x3
    try clear_value x4
    try clear_value x5
    try clear_value x6
    try clear_value x7
    try clear_value x8
    have h9 : Within K s0 x9 := by
      unfold x9
      exact (State.setCast_within h (Within.sub hk (by simp)))
    clear_value x9
    have h10 : Within K s0 x10 := by
      unfold x10
      exact (keepCommit_within
        (setCastHead_within h9 (Within.sub hk (by simp))) (Within.sub hk (by simp)))
    clear_value x10
    have h11 : Within K s0 x11 := by
      unfold x11
      exact (State.set_within
        (State.set_within h10 (Within.sub hk (by simp))) (Within.sub hk (by simp)))
    clear_value x11
    exact (Within.ite h
      (Within.ite (archiveRefuse_within h (Within.sub hk (by simp)))
        (State.raise_within
          (State.bump_within h11 (Within.sub hk (by simp))) (Within.sub hk (by simp)) (Within.sub hk (by simp)))))

theorem castLost_within {K : Nat} {committed : Nat} {s0 s : State} (h : Within K s0 s) (hk : 75557863725948683157536 ||| K = K) :
    Within K s0 (castLost committed s) := by
  unfold castLost
  extract_lets -merge -useContext x1
  try clear_value x1
  exact (Within.ite (State.raise_within
      (State.bump_within
        (State.setCast_within h (Within.sub hk (by simp))) (Within.sub hk (by simp))) (Within.sub hk (by simp)) (Within.sub hk (by simp)))
    h)

theorem castStart_within {K : Nat} {s0 s : State} (h : Within K s0 s) (hk : 75557863725914323419136 ||| K = K) :
    Within K s0 (castStart s) := by
  unfold castStart
  exact (State.clearAll_within h (Within.sub hk (by simp)))

theorem castWritten_within {K : Nat} {y0 : Nat} {new : Word} {s0 s : State} (h : Within K s0 s) (hk : 4911261146688067158933536 ||| K = K) :
    Within K s0 (castWritten y0 new s) := by
  unfold castWritten
  exact (Within.ite (castOccurs_within h hk)
    h)

end Sys2Proof.Machine
end

