-- ==== Sys2Proof/Laws/Memory.lean ====
section
/-! SUPPORT. Laws/Memory.lean: the parts of the state that each operation of Machine/Memory.lean can change. -/
namespace Sys2Proof.Machine

set_option Elab.async false

open Sys2Proof

theorem State.setMem_within {K : Nat} {s0 s : State} {m : Memories} (h : Within K s0 s)
    (hm : s.memories.wf = true → m.wf = true) (hk : 1099511627776 ||| K = K) : Within K s0 (s.setMem m) := by
  unfold State.setMem
  exact Within.upd_memories h hk _ hm

theorem fillDone_within {K : Nat} {g : Nat} {s0 s : State} (h : Within K s0 s) (hk : 1099511627776 ||| K = K) :
    Within K s0 (fillDone g s) := by
  unfold fillDone
  extract_lets -merge -useContext x1
  exact (State.setMem_within h (fun w => (Memories.wf_of (Memories.wf_lpddr w) (Memories.wf_granules w) (Memories.wf_poisoned w))) hk)

theorem lpddrWriteLine_within {K : Nat} {a : Nat} {bs : List Byte} {s0 s : State} (h : Within K s0 s) (hk : 302231454904756805304320 ||| K = K) :
    Within K s0 (lpddrWriteLine a bs s) := by
  unfold lpddrWriteLine
  extract_lets -merge -useContext x1 x2 x3 x4 x5 x6 x7
  try clear_value x1
  have h2 : Within K s0 x2 := by
    unfold x2
    exact (fillDone_within h (Within.sub hk (by simp)))
  clear_value x2
  have h3 : Within K s0 x3 := by
    unfold x3
    exact (markGranule_within h2 hk)
  clear_value x3
  have h5 : Within K s0 x5 := by
    unfold x5
    exact (Within.ite h2
      (State.setMem_within h3 (fun w => (Memories.wf_of (Memories.wf_lpddr w) (Memories.wf_granules w) (Memories.wf_poisoned w))) (Within.sub hk (by simp))))
  clear_value x5
  exact (State.setMem_within h5 (fun w => (Memories.wf_of (writeBytes_wf _ _ _ (Memories.wf_lpddr w)) (Memories.wf_granules w) (sparseWrite_wf _ _ _ _ (Memories.wf_poisoned w)))) (Within.sub hk (by simp)))

theorem lpddrWrite_within {K : Nat} {s0 : State} {n a : Nat} {bs : List Byte}
    {s : State} (h : Within K s0 s) (hk : 302231454904756805304320 ||| K = K) : Within K s0 (lpddrWrite a bs n s) := by
  induction n generalizing s a bs with
  | zero => exact h
  | succ n ih =>
    rw [lpddrWrite]
    exact Within.ite h (ih (lpddrWriteLine_within h hk))

theorem lpddrReadLine_within {K : Nat} {a : Nat} {n : Nat} {s0 s : State} (h : Within K s0 s) (hk : 302231454904756805304320 ||| K = K) :
    Within K s0 (lpddrReadLine a n s).1 := by
  unfold lpddrReadLine
  extract_lets -merge -useContext x1
  have h1 : Within K s0 x1 := by
    unfold x1
    exact (fillDone_within h (Within.sub hk (by simp)))
  clear_value x1
  split
  · skip
    exact (Within.fst h1)
  · skip
    exact (Within.fst (State.bump_within h1 (Within.sub hk (by simp))))

theorem lpddrRead_within {K : Nat} {s0 : State} {n a : Nat}
    {s : State} (h : Within K s0 s) (hk : 302231454904756805304320 ||| K = K) : Within K s0 (lpddrRead a n s).1 := by
  induction n generalizing s a with
  | zero => exact h
  | succ n ih => exact ih (lpddrReadLine_within h (Within.sub hk (by simp)))

theorem checkerTest_within {K : Nat} {failed : List Nat} {s0 s : State} (h : Within K s0 s) (hk : 604462909808414098980896 ||| K = K) :
    Within K s0 (checkerTest failed s) := by
  unfold checkerTest
  extract_lets -merge -useContext x1 x2
  have h2 : Within K s0 x2 := by
    unfold x2
    exact (State.setMem_within h (fun w => (Memories.wf_of (Memories.wf_lpddr w) (Memories.wf_granules w) (Memories.wf_poisoned w))) (Within.sub hk (by simp)))
  clear_value x2
  split
  · skip
    exact h
  · skip
    extract_lets -merge -useContext x3
    have h3 : Within K s0 x3 := by
      unfold x3
      exact (State.set_within
        (State.addSat_within
          (State.set_within h2 (Within.sub hk (by simp))) (Within.sub hk (by simp))) (Within.sub hk (by simp)))
    clear_value x3
    exact (State.raise_within h3 (Within.sub hk (by simp)) (Within.sub hk (by simp)))

theorem putWatch_within {K : Nat} {s0 s : State} {p : MemPlace} {w : MemoryWatch} (h : Within K s0 s) (hk : 1099511627776 ||| K = K) :
    Within K s0 (putWatch s p w) := by
  unfold putWatch
  extract_lets -merge -useContext x1 x2
  split
  · skip
    exact (State.setMem_within h (fun w => (Memories.wf_of (Memories.wf_lpddr w) (Memories.wf_granules w) (Memories.wf_poisoned w))) hk)
  · skip
    exact (State.setMem_within h (fun w => (Memories.wf_of (Memories.wf_lpddr w) (Memories.wf_granules w) (Memories.wf_poisoned w))) hk)

theorem hardNoRemap_within {K : Nat} {p : MemPlace} {s0 s : State} (h : Within K s0 s) (hk : 906694364711521636843552 ||| K = K) :
    Within K s0 (hardNoRemap p s) := by
  unfold hardNoRemap
  extract_lets -merge -useContext x1 x2
  have h1 : Within K s0 x1 := by
    unfold x1
    exact (State.raise_within
      (State.bump_within
        (State.set_within h (Within.sub hk (by simp))) (Within.sub hk (by simp))) (Within.sub hk (by simp)) (Within.sub hk (by simp)))
  clear_value x1
  try clear_value x2
  split
  · skip
    exact (State.raise_within
      (State.bump_within
        (State.set_within h (Within.sub hk (by simp))) (Within.sub hk (by simp))) (Within.sub hk (by simp)) (Within.sub hk (by simp)))
  · skip
    exact (Within.upd_mbox h1 (Within.sub hk (by simp)) _)

theorem remapDone_within {K : Nat} {p : MemPlace} {s0 s : State} (h : Within K s0 s) (hk : 2115620184326702714847264 ||| K = K) :
    Within K s0 (remapDone p s) := by
  unfold remapDone
  extract_lets -merge -useContext x1 x2 x3
  have h2 : Within K s0 x2 := by
    unfold x2
    exact (putWatch_within h (Within.sub hk (by simp)))
  clear_value x2
  have h3 : Within K s0 x3 := by
    unfold x3
    exact (keepCommit_within h2 (Within.sub hk (by simp)))
  clear_value x3
  split
  · skip
    exact (State.raise_within
      (State.set_within
        (State.bump_within h3 (Within.sub hk (by simp))) (Within.sub hk (by simp))) (Within.sub hk (by simp)) (Within.sub hk (by simp)))
  · skip
    exact (State.raise_within
      (State.set_within
        (State.bump_within h3 (Within.sub hk (by simp))) (Within.sub hk (by simp))) (Within.sub hk (by simp)) (Within.sub hk (by simp)))

theorem hardFault_within {K : Nat} {p : MemPlace} {s0 s : State} (h : Within K s0 s) (hk : 2115620184327252470661152 ||| K = K) :
    Within K s0 (hardFault p s) := by
  unfold hardFault
  extract_lets -merge -useContext x1 x2
  exact (Within.ite h
    (Within.ite (hardNoRemap_within h (Within.sub hk (by simp)))
      (by
        split
        · skip
          exact (remapDone_within h (Within.sub hk (by simp)))
        · skip
          exact (State.setMem_within h (fun w => (Memories.wf_of (Memories.wf_lpddr w) (Memories.wf_granules w) (Memories.wf_poisoned w))) (Within.sub hk (by simp))))))

theorem enterHistory_within {K : Nat} {p : MemPlace} {s0 s : State} (h : Within K s0 s) (hk : 604462909808414098980864 ||| K = K) :
    Within K s0 (enterHistory p s) := by
  unfold enterHistory
  extract_lets -merge -useContext x1 x2 x3
  have h3 : Within K s0 x3 := by
    unfold x3
    exact (putWatch_within h (Within.sub hk (by simp)))
  clear_value x3
  split
  · skip
    exact (Within.ite (State.bump_within h3 (Within.sub hk (by simp)))
      h3)
  · skip
    exact h3

theorem showPlace_within {K : Nat} {p : MemPlace} {ue : Bool} {s0 s : State} (h : Within K s0 s) (hk : 906694364710971881029632 ||| K = K) :
    Within K s0 (showPlace p ue s) := by
  unfold showPlace
  split
  · skip
    extract_lets -merge -useContext x1
    try clear_value x1
    exact (Within.ite (State.set_within
        (State.set_within h (Within.sub hk (by simp))) (Within.sub hk (by simp)))
      (State.set_within
        (State.set_within h (Within.sub hk (by simp))) (Within.sub hk (by simp))))
  · skip
    extract_lets -merge -useContext x2
    have h2 : Within K s0 x2 := by
      unfold x2
      exact (State.setPair_within h (Within.sub hk (by simp)))
    clear_value x2
    exact (Within.setWord h2 _ _ _ (Within.sub hk (by simp)))

theorem eccCorrection_within {K : Nat} {p : MemPlace} {s0 s : State} (h : Within K s0 s) (hk : 2115620184327252470661664 ||| K = K) :
    Within K s0 (eccCorrection p s) := by
  unfold eccCorrection
  extract_lets -merge -useContext x1 x2 x3 x4 x5 x6
  try clear_value x2
  have h3 : Within K s0 x3 := by
    unfold x3
    exact (putWatch_within h (Within.sub hk (by simp)))
  clear_value x3
  have h4 : Within K s0 x4 := by
    unfold x4
    exact (State.raise_within
      (State.bump_within h3 (Within.sub hk (by simp))) (Within.sub hk (by simp)) (Within.sub hk (by simp)))
  clear_value x4
  have h5 : Within K s0 x5 := by
    unfold x5
    split
    · skip
      split
      · skip
        exact (State.countCore_within h4 (Within.sub hk (by simp)))
      · skip
        exact h4
    · skip
      exact (State.raise_within
        (State.bump_within h3 (Within.sub hk (by simp))) (Within.sub hk (by simp)) (Within.sub hk (by simp)))
  clear_value x5
  have h6 : Within K s0 x6 := by
    unfold x6
    exact (enterHistory_within
      (showPlace_within h5 (Within.sub hk (by simp))) (Within.sub hk (by simp)))
  clear_value x6
  exact (Within.ite (hardFault_within h6 (Within.sub hk (by simp)))
    h6)

theorem linkError_within {K : Nat} {s0 s : State} (h : Within K s0 s) (hk : 302231454904756805304352 ||| K = K) :
    Within K s0 (linkError s) := by
  unfold linkError
  extract_lets -merge -useContext x1 x2 x3
  have h1 : Within K s0 x1 := by
    unfold x1
    exact (State.bump_within h (Within.sub hk (by simp)))
  clear_value x1
  try clear_value x2
  exact (Within.ite (State.raise_within
      (State.setMem_within h1 (fun w => (Memories.wf_of (Memories.wf_lpddr w) (Memories.wf_granules w) (Memories.wf_poisoned w))) (Within.sub hk (by simp))) (Within.sub hk (by simp)) (Within.sub hk (by simp)))
    h1)

theorem correctedError_within {K : Nat} {y0 : CorrectedError} {s0 s : State} (h : Within K s0 s) (hk : 2115620184327252470661664 ||| K = K) :
    Within K s0 (correctedError y0 s) := by
  unfold correctedError
  split
  · skip
    exact (eccCorrection_within h hk)
  · skip
    exact (linkError_within h (Within.sub hk (by simp)))
  · skip
    exact (State.bump_within h (Within.sub hk (by simp)))

theorem writebackDone_within {K : Nat} {lines : Bool} {s0 s : State} (h : Within K s0 s) (hk : 1099511627776 ||| K = K) :
    Within K s0 (writebackDone lines s) := by
  unfold writebackDone
  extract_lets -merge -useContext x1 x2
  try clear_value x1
  exact (putWatch_within h hk)

theorem rowCopyDone_within {K : Nat} {n : Nat} {s0 s : State} (h : Within K s0 s) (hk : 2115620184326702714847264 ||| K = K) :
    Within K s0 (rowCopyDone n s) := by
  unfold rowCopyDone
  exact (Within.ite (remapDone_within h hk)
    h)

theorem scrubAccess_within {K : Nat} {lines : Bool} {s0 s : State} (h : Within K s0 s) (hk : 4504699138998272 ||| K = K) :
    Within K s0 (scrubAccess lines s) := by
  unfold scrubAccess
  extract_lets -merge -useContext x1 x2 x3
  try clear_value x1
  have h3 : Within K s0 x3 := by
    unfold x3
    exact (Within.ite (startTimer_within h (Within.sub hk (by simp)))
      h)
  clear_value x3
  exact (Within.ite h
    (putWatch_within h3 (Within.sub hk (by simp))))

theorem scrubLapEnd_within {K : Nat} {lines : Bool} {s0 s : State} (h : Within K s0 s) (hk : 906694364712071392657408 ||| K = K) :
    Within K s0 (scrubLapEnd lines s) := by
  unfold scrubLapEnd
  extract_lets -merge -useContext x1 x2 x3 x4
  try clear_value x1
  try clear_value x3
  have h4 : Within K s0 x4 := by
    unfold x4
    exact (putWatch_within h (Within.sub hk (by simp)))
  clear_value x4
  exact (Within.ite h
    (Within.ite (State.set_within
        (State.addWrap_within h4 (Within.sub hk (by simp))) (Within.sub hk (by simp)))
      (State.set_within
        (State.addWrap_within h4 (Within.sub hk (by simp))) (Within.sub hk (by simp)))))

theorem lapSlow_within {K : Nat} {lines : Bool} {s0 s : State} (h : Within K s0 s) (hk : 906694364712071392657440 ||| K = K) :
    Within K s0 (lapSlow lines s) := by
  unfold lapSlow
  extract_lets -merge -useContext x1 x2 x3
  try clear_value x1
  have h3 : Within K s0 x3 := by
    unfold x3
    exact (putWatch_within h (Within.sub hk (by simp)))
  clear_value x3
  exact (Within.ite h
    (Within.ite (State.raise_within h3 (Within.sub hk (by simp)) (Within.sub hk (by simp)))
      (State.raise_within h3 (Within.sub hk (by simp)) (Within.sub hk (by simp)))))

theorem countUe_within {K : Nat} {p : MemPlace} {s0 s : State} (h : Within K s0 s) (hk : 906694364710971881029664 ||| K = K) :
    Within K s0 (countUe p s) := by
  unfold countUe
  extract_lets -merge -useContext x1
  have h1 : Within K s0 x1 := by
    unfold x1
    exact (showPlace_within h (Within.sub hk (by simp)))
  clear_value x1
  split
  · skip
    exact (State.raise_within
      (State.bump_within h1 (Within.sub hk (by simp))) (Within.sub hk (by simp)) (Within.sub hk (by simp)))
  · skip
    exact (State.raise_within
      (State.bump_within h1 (Within.sub hk (by simp))) (Within.sub hk (by simp)) (Within.sub hk (by simp)))

theorem poisonLine_within {K : Nat} {n : Nat} {s0 s : State} (h : Within K s0 s) (hk : 302231454904756805304320 ||| K = K) :
    Within K s0 (poisonLine n s) := by
  unfold poisonLine
  extract_lets -merge -useContext x1
  exact (Within.ite h
    (State.bump_within
      (State.setMem_within h (fun w => (Memories.wf_of (Memories.wf_lpddr w) (Memories.wf_granules w) (sparseWrite_wf _ _ _ _ (Memories.wf_poisoned w)))) (Within.sub hk (by simp))) (Within.sub hk (by simp))))

theorem granuleFirstWrite_within {K : Nat} {a : Nat} {bs : List Byte} {s0 s : State} (h : Within K s0 s) (hk : 302231454904756805304320 ||| K = K) :
    Within K s0 (granuleFirstWrite a bs s) := by
  unfold granuleFirstWrite
  exact (Within.ite h
    (lpddrWriteLine_within h hk))

theorem uninitialisedRead_within {K : Nat} {a : Nat} {s0 s : State} (h : Within K s0 s) (hk : 302231454904756805304324 ||| K = K) :
    Within K s0 (uninitialisedRead a s) := by
  unfold uninitialisedRead
  extract_lets -merge -useContext x1 x2
  have h1 : Within K s0 x1.1 := by
    unfold x1
    exact (lpddrReadLine_within h (Within.sub hk (by simp)))
  clear_value x1
  have h2 : Within K s0 x2 := by
    unfold x2
    exact h1
  clear_value x2
  exact (Within.ite h
    (Within.upd_answer h2 (Within.sub hk (by simp)) _))

end Sys2Proof.Machine
end

