-- ==== Sys2Proof/Laws/Router.lean ====
section
/-! SUPPORT. Laws/Router.lean: the parts of the state that each operation of Machine/Router.lean can change. -/
namespace Sys2Proof.Machine

set_option Elab.async false

open Sys2Proof

theorem sendMsix_within {K : Nat} {s0 s : State} {vector : Nat} (h : Within K s0 s) (hk : 64 ||| K = K) :
    Within K s0 (sendMsix s vector) := by
  unfold sendMsix
  extract_lets -merge -useContext x1 x2
  try clear_value x1
  try clear_value x2
  exact (Within.ite (Within.upd_msix h hk _)
    (Within.upd_msix h hk _))

theorem deliverMsix_within {K : Nat} {s0 s : State} {src : Nat} (h : Within K s0 s) (hk : 64 ||| K = K) :
    Within K s0 (deliverMsix s src) := by
  unfold deliverMsix
  exact (Within.ite (sendMsix_within h hk)
    h)

theorem notifyPlinth_within {K : Nat} {s0 s : State} {src : Nat} (h : Within K s0 s) (hk : 2535301200456458802994480152608 ||| K = K) :
    Within K s0 (notifyPlinth s src) := by
  unfold notifyPlinth
  extract_lets -merge -useContext x1
  try clear_value x1
  exact (Within.ite h
    (secLog_within
      (Within.upd_evr h (Within.sub hk (by simp)) _) (Within.sub hk (by simp))))

theorem deliverPlinth_within {K : Nat} {s0 s : State} {src : Nat} (h : Within K s0 s) (hk : 2535301200456458802994480152608 ||| K = K) :
    Within K s0 (deliverPlinth s src) := by
  unfold deliverPlinth
  exact (Within.ite (notifyPlinth_within h hk)
    h)

theorem setPending_within {K : Nat} {s0 s : State} {src : Nat} (h : Within K s0 s) (hk : 2535301200456458802994480152672 ||| K = K) :
    Within K s0 (setPending s src) := by
  unfold setPending
  extract_lets -merge -useContext x1 x2
  try clear_value x1
  have h2 : Within K s0 x2 := by
    unfold x2
    exact (Within.upd_evr h (Within.sub hk (by simp)) _)
  clear_value x2
  exact (Within.ite h
    (deliverPlinth_within
      (deliverMsix_within h2 (Within.sub hk (by simp))) (Within.sub hk (by simp))))

theorem clearPending_within {K : Nat} {s0 s : State} {src : Nat} (h : Within K s0 s) (hk : 32 ||| K = K) :
    Within K s0 (clearPending s src) := by
  unfold clearPending
  extract_lets -merge -useContext x1
  try clear_value x1
  exact (Within.upd_evr h hk _)

theorem withdrawMsix_within {K : Nat} {s0 s : State} {vector : Nat} (h : Within K s0 s) (hk : 64 ||| K = K) :
    Within K s0 (withdrawMsix s vector) := by
  unfold withdrawMsix
  extract_lets -merge -useContext x1
  try clear_value x1
  exact (Within.ite h
    (Within.upd_msix h hk _))

theorem setRoute_within {K : Nat} {s0 s : State} {src : Nat} {w : Word} (h : Within K s0 s) (hk : 2535301200456458802994480152672 ||| K = K) :
    Within K s0 (setRoute s src w) := by
  unfold setRoute
  extract_lets -merge -useContext x1 x2 x3 x4
  try clear_value x1
  try clear_value x2
  have h3 : Within K s0 x3 := by
    unfold x3
    exact (Within.upd_evr h (Within.sub hk (by simp)) _)
  clear_value x3
  have h4 : Within K s0 x4 := by
    unfold x4
    exact (Within.ite (sendMsix_within h3 (Within.sub hk (by simp)))
      (Within.ite (withdrawMsix_within h3 (Within.sub hk (by simp)))
        h3))
  clear_value x4
  exact (Within.ite (Within.ite (notifyPlinth_within h4 (Within.sub hk (by simp)))
      h4)
    h3)

theorem stageRoute_within {K : Nat} {s0 s : State} {src : Nat} {w : Word} (h : Within K s0 s) (hk : 32 ||| K = K) :
    Within K s0 (stageRoute s src w) := by
  unfold stageRoute
  extract_lets -merge -useContext x1
  try clear_value x1
  exact (Within.upd_evr h hk _)

theorem applyRoutes_within {K : Nat} {s0 s : State} (h : Within K s0 s) (hk : 2535301200456458802994480152672 ||| K = K) :
    Within K s0 (applyRoutes s) := by
  unfold applyRoutes
  extract_lets -merge -useContext x1
  try clear_value x1
  exact (Within.foldl _ (fun _ _ h2 => (setRoute_within h2 hk))
    (Within.upd_evr h (Within.sub hk (by simp)) _))

theorem takeSetMessage_within {K : Nat} {s0 s : State} (h : Within K s0 s) (hk : 2535301200456458802994480152672 ||| K = K) :
    Within K s0 (takeSetMessage s) := by
  unfold takeSetMessage
  extract_lets -merge -useContext x1 x2
  have h1 : Within K s0 x1 := by
    unfold x1
    exact (applyRoutes_within h hk)
  clear_value x1
  try clear_value x2
  split
  · skip
    exact h
  · skip
    extract_lets -merge -useContext x3
    try clear_value x3
    exact (setPending_within
      (Within.upd_evr h1 (Within.sub hk (by simp)) _) hk)

theorem takeClearMessage_within {K : Nat} {s0 s : State} {src : Nat} (h : Within K s0 s) (hk : 2535301200456458802994480152672 ||| K = K) :
    Within K s0 (takeClearMessage s src) := by
  unfold takeClearMessage
  extract_lets -merge -useContext x1 x2
  have h1 : Within K s0 x1 := by
    unfold x1
    exact (applyRoutes_within h hk)
  clear_value x1
  try clear_value x2
  split
  · skip
    exact (clearPending_within
      (Within.upd_evr h1 (Within.sub hk (by simp)) _) (Within.sub hk (by simp)))
  · skip
    exact h

theorem softwareSet_within {K : Nat} {s0 s : State} {mask : Nat} (h : Within K s0 s) (hk : 2535301200456458802994480152672 ||| K = K) :
    Within K s0 (softwareSet s mask) := by
  unfold softwareSet
  extract_lets -merge -useContext x1 x2 x3 x4
  have h1 : Within K s0 x1 := by
    unfold x1
    exact (applyRoutes_within h hk)
  clear_value x1
  try clear_value x2
  have h3 : Within K s0 x3 := by
    unfold x3
    exact (Within.upd_evr h1 (Within.sub hk (by simp)) _)
  clear_value x3
  try clear_value x4
  exact (Within.foldl _ (fun _ _ h5 => (setPending_within h5 hk))
    h3)

theorem softwareClear_within {K : Nat} {s0 s : State} {mask : Nat} (h : Within K s0 s) (hk : 2535301200456458802994480152672 ||| K = K) :
    Within K s0 (softwareClear s mask) := by
  unfold softwareClear
  extract_lets -merge -useContext x1
  have h1 : Within K s0 x1 := by
    unfold x1
    exact (applyRoutes_within h hk)
  clear_value x1
  exact (Within.foldl _ (fun _ _ h2 => (Within.ite (clearPending_within
        (Within.upd_evr h2 (Within.sub hk (by simp)) _) (Within.sub hk (by simp)))
      h2))
    h1)

theorem unmaskVector_within {K : Nat} {s0 s : State} {vector : Nat} (h : Within K s0 s) (hk : 64 ||| K = K) :
    Within K s0 (unmaskVector s vector) := by
  unfold unmaskVector
  extract_lets -merge -useContext x1 x2 x3
  try clear_value x1
  have h2 : Within K s0 x2 := by
    unfold x2
    exact (Within.upd_msix h hk _)
  clear_value x2
  try clear_value x3
  exact (Within.ite (Within.upd_msix h2 hk _)
    h2)

theorem unmaskFunction_within {K : Nat} {s0 s : State} (h : Within K s0 s) (hk : 64 ||| K = K) :
    Within K s0 (unmaskFunction s) := by
  unfold unmaskFunction
  extract_lets -merge -useContext x1 x2
  try clear_value x1
  have h2 : Within K s0 x2 := by
    unfold x2
    exact (Within.upd_msix h hk _)
  clear_value x2
  exact (Within.foldl _ (fun _ _ h3 => (Within.ite (Within.upd_msix h3 hk _)
      h3))
    h2)

end Sys2Proof.Machine
end

