-- ==== Sys2Proof/Laws/SerialLanes.lean ====
section
/-! SUPPORT. Laws/SerialLanes.lean: the parts of the state that each operation of Machine/SerialLanes.lean can change. -/
namespace Sys2Proof.Machine

set_option Elab.async false

open Sys2Proof

theorem putChecker_within {K : Nat} {s0 s : State} {n : Fin 16} {x : LaneChecker} (h : Within K s0 s) (hk : 137438953472 ||| K = K) :
    Within K s0 (putChecker s n x) := by
  unfold putChecker
  exact (Within.upd_checkers h hk _)

theorem checkerReseed_within {K : Nat} {n : Fin 16} {s0 s : State} (h : Within K s0 s) (hk : 39614081257132168934210928640 ||| K = K) :
    Within K s0 (checkerReseed n s) := by
  unfold checkerReseed
  exact (State.set_within
    (putChecker_within h (Within.sub hk (by simp))) (Within.sub hk (by simp)))

theorem clxEyeAbandon_within {K : Nat} {n : Fin 16} {s0 s : State} (h : Within K s0 s) (hk : 39614081257132168796771975168 ||| K = K) :
    Within K s0 (clxEyeAbandon n s) := by
  unfold clxEyeAbandon
  exact (State.set_within h (Within.sub hk (by simp)))

theorem clxEnter_within {K : Nat} {n : Fin 16} {st : Nat} {s0 s : State} (h : Within K s0 s) (hk : 118842243771401010127382249504 ||| K = K) :
    Within K s0 (clxEnter n st s) := by
  unfold clxEnter
  extract_lets -merge -useContext x1 x2
  try clear_value x1
  have h2 : Within K s0 x2 := by
    unfold x2
    exact (startTimer_within
      (State.set_within h (Within.sub hk (by simp))) (Within.sub hk (by simp)))
  clear_value x2
  exact (Within.ite (lanePortDown_within
      (clxEyeAbandon_within
        (checkerReseed_within h2 (Within.sub hk (by simp))) (Within.sub hk (by simp))) (Within.sub hk (by simp)))
    h2)

theorem clxAdapted_within {K : Nat} {n : Fin 16} {snr : BitVec 8} {dfe1 : BitVec 8} {ctle : BitVec 8} {s0 s : State} (h : Within K s0 s) (hk : 39614081257132168796771975168 ||| K = K) :
    Within K s0 (clxAdapted n snr dfe1 ctle s) := by
  unfold clxAdapted
  extract_lets -merge -useContext x1
  have h1 : Within K s0 x1 := by
    unfold x1
    exact (State.set_within h (Within.sub hk (by simp)))
  clear_value x1
  exact (Within.ite h1
    (State.set_within
      (State.set_within h1 (Within.sub hk (by simp))) (Within.sub hk (by simp))))

theorem clxReceive_within {K : Nat} {n : Fin 16} {y1 : ClxEvent} {s0 s : State} (h : Within K s0 s) (hk : 118842243771401010127382249504 ||| K = K) :
    Within K s0 (clxReceive n y1 s) := by
  unfold clxReceive
  extract_lets -merge -useContext x1
  try clear_value x1
  split
  · skip
    exact (Within.ite (clxEnter_within h hk)
      h)
  · skip
    exact (Within.ite (clxEnter_within h hk)
      h)
  · skip
    exact (Within.ite (State.raise_within
        (clxEnter_within
          (clxAdapted_within h (Within.sub hk (by simp))) hk) (Within.sub hk (by simp)) (Within.sub hk (by simp)))
      (Within.ite (clxAdapted_within h (Within.sub hk (by simp)))
        h))
  · skip
    exact (Within.ite (State.raise_within (clxEnter_within h hk) (Within.sub hk (by simp)) (Within.sub hk (by simp)))
      h)
  · skip
    exact (Within.ite (State.raise_within (clxEnter_within h hk) (Within.sub hk (by simp)) (Within.sub hk (by simp)))
      (Within.ite (clxEnter_within h hk)
        h))

theorem clxTimeout_within {K : Nat} {n : Fin 16} {s0 s : State} (h : Within K s0 s) (hk : 118842243771401010127382249504 ||| K = K) :
    Within K s0 (clxTimeout n s) := by
  unfold clxTimeout
  exact (Within.ite (State.errlog_within (clxEnter_within h hk) (Within.sub hk (by simp)))
    (Within.ite (State.errlog_within (clxEnter_within h hk) (Within.sub hk (by simp)))
      h))

theorem clxEiExit_within {K : Nat} {n : Fin 16} {s0 s : State} (h : Within K s0 s) (hk : 39614081257132168796771975200 ||| K = K) :
    Within K s0 (clxEiExit n s) := by
  unfold clxEiExit
  exact (Within.ite (State.raise_within h (Within.sub hk (by simp)) (Within.sub hk (by simp)))
    h)

theorem clxFollow_within {K : Nat} {n : Fin 16} {s0 s : State} (h : Within K s0 s) (hk : 118842243771401010127382249504 ||| K = K) :
    Within K s0 (clxFollow n s) := by
  unfold clxFollow
  extract_lets -merge -useContext x1 x2 x3
  try clear_value x1
  have h2 : Within K s0 x2 := by
    unfold x2
    exact (Within.ite (Within.ite h
        (clxEnter_within h hk))
      (Within.ite (clxEnter_within h hk)
        h))
  clear_value x2
  try clear_value x3
  exact (State.set_within h2 (Within.sub hk (by simp)))

theorem checkerBit_within {K : Nat} {n : Fin 16} {received : Bool} {s0 s : State} (h : Within K s0 s) (hk : 39614081257132168934210928672 ||| K = K) :
    Within K s0 (checkerBit n received s) := by
  unfold checkerBit
  extract_lets -merge -useContext x1 x2 x3 x4 x5 x6 x7 x8 x9
  try clear_value x1
  try clear_value x2
  try clear_value x3
  try clear_value x4
  try clear_value x5
  try clear_value x6
  have h7 : Within K s0 x7 := by
    unfold x7
    exact (putChecker_within h (Within.sub hk (by simp)))
  clear_value x7
  have h8 : Within K s0 x8 := by
    unfold x8
    exact (State.addPair_within h7 (Within.sub hk (by simp)))
  clear_value x8
  have h9 : Within K s0 x9 := by
    unfold x9
    exact (Within.ite (State.bump_within h8 (Within.sub hk (by simp)))
      h8)
  clear_value x9
  exact (Within.ite h
    (Within.ite (Within.ite (State.raise_within
          (State.bump_within
            (checkerReseed_within h9 (Within.sub hk (by simp))) (Within.sub hk (by simp))) (Within.sub hk (by simp)) (Within.sub hk (by simp)))
        h9)
      (Within.ite (State.raise_within
          (State.set_within
            (putChecker_within h7 (Within.sub hk (by simp))) (Within.sub hk (by simp))) (Within.sub hk (by simp)) (Within.sub hk (by simp)))
        h7)))

theorem clxInvert_within {K : Nat} {n : Fin 16} {s0 s : State} (h : Within K s0 s) (hk : 39614081257132168796771975168 ||| K = K) :
    Within K s0 (clxInvert n s) := by
  unfold clxInvert
  exact (Within.ite (State.bump_within h (Within.sub hk (by simp)))
    h)

theorem clxPeriodic_within {K : Nat} {n : Fin 16} {s0 s : State} (h : Within K s0 s) (hk : 39614081257136672396399345664 ||| K = K) :
    Within K s0 (clxPeriodic n s) := by
  unfold clxPeriodic
  exact (Within.ite (clxInvert_within
      (startTimer_within h (Within.sub hk (by simp))) (Within.sub hk (by simp)))
    h)

theorem clxEyeStart_within {K : Nat} {n : Fin 16} {s0 s : State} (h : Within K s0 s) (hk : 39614081257136672396399345664 ||| K = K) :
    Within K s0 (clxEyeStart n s) := by
  unfold clxEyeStart
  exact (Within.ite (State.bump_within h (Within.sub hk (by simp)))
    (startTimer_within
      (State.setFlag_within
        (State.set_within h (Within.sub hk (by simp))) (Within.sub hk (by simp))) (Within.sub hk (by simp))))

theorem linkDown_within {K : Nat} {s0 s : State} (h : Within K s0 s) (hk : 158456325028528675187087900704 ||| K = K) :
    Within K s0 (linkDown s) := by
  unfold linkDown
  exact (Within.ite (State.raise_within
      (State.clearAll_within h (Within.sub hk (by simp))) (Within.sub hk (by simp)) (Within.sub hk (by simp)))
    h)

theorem hlkEyeStart_within {K : Nat} {s0 s : State} (h : Within K s0 s) (hk : 158456325028533178786715271168 ||| K = K) :
    Within K s0 (hlkEyeStart s) := by
  unfold hlkEyeStart
  exact (Within.ite (State.bump_within h (Within.sub hk (by simp)))
    (startTimer_within
      (State.setFlag_within
        (State.set_within h (Within.sub hk (by simp))) (Within.sub hk (by simp))) (Within.sub hk (by simp))))

theorem eyeDone_within {K : Nat} {l : EyeLane} {mismatches : Nat} {s0 s : State} (h : Within K s0 s) (hk : 198070406285660843983859875872 ||| K = K) :
    Within K s0 (eyeDone l mismatches s) := by
  unfold eyeDone
  extract_lets -merge -useContext x1
  have h1 : Within K s0 x1 := by
    unfold x1
    exact (State.set_within
      (State.set_within h (Within.sub hk (by simp))) (Within.sub hk (by simp)))
  clear_value x1
  split
  · skip
    extract_lets -merge -useContext x2
    have h2 : Within K s0 x2 := by
      unfold x2
      exact (State.set_within
        (State.set_within h (Within.sub hk (by simp))) (Within.sub hk (by simp)))
    clear_value x2
    exact (Within.ite (State.raise_within
        (State.set_within h2 (Within.sub hk (by simp))) (Within.sub hk (by simp)) (Within.sub hk (by simp)))
      h)
  · skip
    exact (Within.ite (State.raise_within
        (State.set_within h1 (Within.sub hk (by simp))) (Within.sub hk (by simp)) (Within.sub hk (by simp)))
      h)

theorem eyeAbandon_within {K : Nat} {l : EyeLane} {s0 s : State} (h : Within K s0 s) (hk : 198070406285660843983859875840 ||| K = K) :
    Within K s0 (eyeAbandon l s) := by
  unfold eyeAbandon
  split
  · skip
    exact (clxEyeAbandon_within h (Within.sub hk (by simp)))
  · skip
    exact (State.set_within h (Within.sub hk (by simp)))

theorem laneMargin_within {K : Nat} {lane : Fin 8} {begins : Bool} {s0 s : State} (h : Within K s0 s) (hk : 274877906944 ||| K = K) :
    Within K s0 (laneMargin lane begins s) := by
  unfold laneMargin
  extract_lets -merge -useContext x1 x2 x3
  try clear_value x1
  try clear_value x2
  try clear_value x3
  exact (Within.ite (Within.upd_hostLink h hk _)
    (Within.ite (Within.upd_hostLink h hk _)
      h))

theorem clxStart_within {K : Nat} {n : Fin 16} {s0 s : State} (h : Within K s0 s) (hk : 39614081257132168796771975168 ||| K = K) :
    Within K s0 (clxStart n s) := by
  unfold clxStart
  exact (State.clearAll_within h (Within.sub hk (by simp)))

theorem clxWritten_within {K : Nat} {n : Fin 16} {y1 : Nat} {old : Word} {new : Word} {s0 s : State} (h : Within K s0 s) (hk : 118842243771401010127382249504 ||| K = K) :
    Within K s0 (clxWritten n y1 old new s) := by
  unfold clxWritten
  extract_lets -merge -useContext x1
  have h1 : Within K s0 x1 := by
    unfold x1
    exact (Within.ite (startTimer_within h (Within.sub hk (by simp)))
      h)
  clear_value x1
  exact (Within.ite (clxFollow_within h hk)
    (Within.ite (Within.ite h
        (checkerReseed_within h (Within.sub hk (by simp))))
      (Within.ite (Within.ite (clxInvert_within h1 (Within.sub hk (by simp)))
          h1)
        (Within.ite (Within.ite (clxEyeStart_within h (Within.sub hk (by simp)))
            h)
          h))))

end Sys2Proof.Machine
end

