-- ==== Sys2Proof/Laws/HostLink.lean ====
section
/-! SUPPORT. Laws/HostLink.lean: the parts of the state that each operation of Machine/HostLink.lean can change. -/
namespace Sys2Proof.Machine

set_option Elab.async false

open Sys2Proof

theorem State.setHost_within {K : Nat} {s0 s : State} {x : HostLink} (h : Within K s0 s) (hk : 274877906944 ||| K = K) :
    Within K s0 (State.setHost s x) := by
  unfold State.setHost
  exact (Within.upd_hostLink h hk _)

theorem hostShow_within {K : Nat} {rate : Nat} {width : Nat} {s0 s : State} (h : Within K s0 s) (hk : 158456325028528675187087900672 ||| K = K) :
    Within K s0 (hostShow rate width s) := by
  unfold hostShow
  extract_lets -merge -useContext x1
  have h1 : Within K s0 x1 := by
    unfold x1
    exact (State.set_within
      (State.set_within h (Within.sub hk (by simp))) (Within.sub hk (by simp)))
  clear_value x1
  exact (State.set_within
    (State.setFlag_within h1 (Within.sub hk (by simp))) (Within.sub hk (by simp)))

theorem perstRelease_within {K : Nat} {s0 s : State} (h : Within K s0 s) (hk : 274877906944 ||| K = K) :
    Within K s0 (perstRelease s) := by
  unfold perstRelease
  extract_lets -merge -useContext x1
  try clear_value x1
  exact (State.setHost_within h hk)

theorem perstAssert_within {K : Nat} {s0 s : State} (h : Within K s0 s) (hk : 158456325028528675461965807648 ||| K = K) :
    Within K s0 (perstAssert s) := by
  unfold perstAssert
  extract_lets -merge -useContext x1
  try clear_value x1
  exact (linkDown_within
    (State.setHost_within h (Within.sub hk (by simp))) (Within.sub hk (by simp)))

theorem hostLinkUp_within {K : Nat} {rate : Nat} {width : Nat} {mem : Bool} {s0 s : State} (h : Within K s0 s) (hk : 158456325028528675461965807648 ||| K = K) :
    Within K s0 (hostLinkUp rate width mem s) := by
  unfold hostLinkUp
  extract_lets -merge -useContext x1 x2 x3 x4 x5
  try clear_value x1
  have h2 : Within K s0 x2 := by
    unfold x2
    exact (State.setHost_within h (Within.sub hk (by simp)))
  clear_value x2
  have h3 : Within K s0 x3 := by
    unfold x3
    exact (hostShow_within h2 (Within.sub hk (by simp)))
  clear_value x3
  try clear_value x4
  have h5 : Within K s0 x5 := by
    unfold x5
    exact (State.setFlag_within
      (State.set_within h3 (Within.sub hk (by simp))) (Within.sub hk (by simp)))
  clear_value x5
  exact (Within.ite h
    (State.raiseIf_within h5 (Within.sub hk (by simp)) (Within.sub hk (by simp))))

theorem hostSpeed_within {K : Nat} {rate : Nat} {width : Nat} {s0 s : State} (h : Within K s0 s) (hk : 158456325028528675187087900704 ||| K = K) :
    Within K s0 (hostSpeed rate width s) := by
  unfold hostSpeed
  exact (Within.ite (hostShow_within h (Within.sub hk (by simp)))
    (State.raise_within
      (State.bump_within
        (hostShow_within h (Within.sub hk (by simp))) (Within.sub hk (by simp))) (Within.sub hk (by simp)) (Within.sub hk (by simp))))

theorem hostRecovery_within {K : Nat} {rate : Nat} {width : Nat} {s0 s : State} (h : Within K s0 s) (hk : 158456325028528675187087900704 ||| K = K) :
    Within K s0 (hostRecovery rate width s) := by
  unfold hostRecovery
  extract_lets -merge -useContext x1
  have h1 : Within K s0 x1 := by
    unfold x1
    exact (State.set_within
      (State.bump_within h (Within.sub hk (by simp))) (Within.sub hk (by simp)))
  clear_value x1
  exact (Within.ite h
    (hostSpeed_within h1 hk))

theorem hostRetrain_within {K : Nat} {s0 s : State} (h : Within K s0 s) (hk : 158456325028528675187087900704 ||| K = K) :
    Within K s0 (hostRetrain s) := by
  unfold hostRetrain
  exact (hostRecovery_within h hk)

theorem creditStall_within {K : Nat} {s0 s : State} (h : Within K s0 s) (hk : 158456325028528675187087900704 ||| K = K) :
    Within K s0 (creditStall s) := by
  unfold creditStall
  exact (Within.ite (State.raise_within
      (State.bump_within h (Within.sub hk (by simp))) (Within.sub hk (by simp)) (Within.sub hk (by simp)))
    h)

theorem ideChange_within {K : Nat} {io : Bool} {mem : Bool} {s0 s : State} (h : Within K s0 s) (hk : 158456325028528675187087900704 ||| K = K) :
    Within K s0 (ideChange io mem s) := by
  unfold ideChange
  extract_lets -merge -useContext x1
  try clear_value x1
  exact (State.raiseIf_within
    (State.setFlag_within
      (State.setFlag_within h (Within.sub hk (by simp))) (Within.sub hk (by simp))) (Within.sub hk (by simp)) (Within.sub hk (by simp)))

theorem hdmLine_within {K : Nat} {y0 : Nat} {s0 s : State} (h : Within K s0 s) (hk : 302231454904756805304320 ||| K = K) :
    Within K s0 (hdmLine y0 s).1 := by
  unfold hdmLine
  extract_lets -merge -useContext x1 x2 x3
  have h1 : Within K s0 x1 := by
    unfold x1
    exact (Within.ite h
      (State.bump_within h (Within.sub hk (by simp))))
  clear_value x1
  try clear_value x2
  try clear_value x3
  split
  · skip
    split
    · skip
      exact (Within.fst h1)
    · skip
      exact (Within.fst h1)
  · skip
    split
    · skip
      exact (Within.fst h)
    · skip
      exact (lpddrReadLine_within h hk)

theorem hdmPoison_within {K : Nat} {y0 : Nat} {record : Bool} {s0 s : State} (h : Within K s0 s) (hk : 158456325028528675736843714596 ||| K = K) :
    Within K s0 (hdmPoison y0 record s) := by
  unfold hdmPoison
  extract_lets -merge -useContext x1 x2 x3 x4
  have h1 : Within K s0 x1 := by
    unfold x1
    exact (State.bump_within h (Within.sub hk (by simp)))
  clear_value x1
  have h2 : Within K s0 x2 := by
    unfold x2
    exact (Within.upd_answer h1 (Within.sub hk (by simp)) _)
  clear_value x2
  try clear_value x3
  try clear_value x4
  exact (Within.ite (State.raise_within
      (Within.upd_mbox h2 (Within.sub hk (by simp)) _) (Within.sub hk (by simp)) (Within.sub hk (by simp)))
    h2)

theorem hdmRead_within {K : Nat} {off : Nat} {s0 s t : State} (h : Within K s0 s)
    (hk : 158457231722893387808236372004 ||| K = K) (e : hdmRead off s = some t) : Within K s0 t := by
  unfold hdmRead at e
  split at e
  · cases e
  · extract_lets -merge -useContext x1 x2 at e
    split at e
    · cases e
      exact hdmPoison_within h (Within.sub hk (by simp))
    · split at e
      · cases e
        exact hdmPoison_within (countUe_within (hdmLine_within h (Within.sub hk (by simp))) (Within.sub hk (by simp)))
          (Within.sub hk (by simp))
      · cases e
        exact Within.upd_answer (hdmLine_within h (Within.sub hk (by simp))) (Within.sub hk (by simp)) _

theorem hdmDrop_within {K : Nat} {s0 s : State} (h : Within K s0 s) (hk : 158456325028528675461965807648 ||| K = K) :
    Within K s0 (hdmDrop s) := by
  unfold hdmDrop
  extract_lets -merge -useContext x1 x2 x3
  have h1 : Within K s0 x1 := by
    unfold x1
    exact (State.bump_within h (Within.sub hk (by simp)))
  clear_value x1
  try clear_value x2
  try clear_value x3
  exact (Within.ite (State.raise_within
      (State.setHost_within h1 (Within.sub hk (by simp))) (Within.sub hk (by simp)) (Within.sub hk (by simp)))
    h1)

theorem hdmWrite_within {K : Nat} {off : Nat} {bs : List Byte} {s0 s t : State} (h : Within K s0 s)
    (hk : 158456627259983580218771111968 ||| K = K) (e : hdmWrite off bs s = some t) : Within K s0 t := by
  unfold hdmWrite at e
  split at e
  · cases e
  · split at e
    · cases e
      exact hdmDrop_within h (Within.sub hk (by simp))
    · split at e
      · cases e
        exact hdmDrop_within h (Within.sub hk (by simp))
      · cases e
        exact lpddrWriteLine_within h (Within.sub hk (by simp))

theorem hlkWritten_within {K : Nat} {y0 : Nat} {new : Word} {s0 s : State} (h : Within K s0 s) (hk : 158456325028533178786715271200 ||| K = K) :
    Within K s0 (hlkWritten y0 new s) := by
  unfold hlkWritten
  exact (Within.ite (hostRetrain_within h (Within.sub hk (by simp)))
    (Within.ite (hlkEyeStart_within h (Within.sub hk (by simp)))
      h))

end Sys2Proof.Machine
end

