-- ==== Sys2Proof/Laws/SelfTest.lean ====
section
/-! SUPPORT. Laws/SelfTest.lean: the parts of the state that each operation of Machine/SelfTest.lean can change. -/
namespace Sys2Proof.Machine

set_option Elab.async false

open Sys2Proof

theorem State.setBst_within {K : Nat} {s0 s : State} {x : SelfTest} (h : Within K s0 s) (hk : 281474976710656 ||| K = K) :
    Within K s0 (State.setBst s x) := by
  unfold State.setBst
  exact (Within.upd_selfTest h hk _)

theorem shutdownTest_within {K : Nat} {rs : List (Option (Nat × Nat))} {s0 s : State} (h : Within K s0 s) (hk : 1210253985469482106093600 ||| K = K) :
    Within K s0 (shutdownTest rs s) := by
  unfold shutdownTest
  extract_lets -merge -useContext x1 x2 x3 x4 x5 x6 x7
  have h1 : Within K s0 x1 := by
    unfold x1
    exact (keepCommit_within h (Within.sub hk (by simp)))
  clear_value x1
  try clear_value x2
  have h3 : Within K s0 x3 := by
    unfold x3
    exact (State.set_within h1 (Within.sub hk (by simp)))
  clear_value x3
  have h4 : Within K s0 x4 := by
    unfold x4
    exact (Within.upd_vddRequested h3 (Within.sub hk (by simp)) _)
  clear_value x4
  try clear_value x5
  try clear_value x6
  have h7 : Within K s0 x7 := by
    unfold x7
    exact (keepCommit_within
      (State.setBst_within h4 (Within.sub hk (by simp))) (Within.sub hk (by simp)))
  clear_value x7
  exact (Within.ite (keepCommit_within h (Within.sub hk (by simp)))
    (State.raiseIf_within h7 (Within.sub hk (by simp)) (Within.sub hk (by simp))))

theorem bistRead_within {K : Nat} {s0 s : State} (h : Within K s0 s) (hk : 1180591902192388014080 ||| K = K) :
    Within K s0 (bistRead s).1 := by
  unfold bistRead
  split
  · skip
    exact (Within.fst (State.set_within h (Within.sub hk (by simp))))
  · skip
    extract_lets -merge -useContext x1 x2 x3 x4 x5 x6
    try clear_value x1
    try clear_value x2
    have h3 : Within K s0 x3 := by
      unfold x3
      exact (State.set_within
        (State.setFlag_within h (Within.sub hk (by simp))) (Within.sub hk (by simp)))
    clear_value x3
    have h4 : Within K s0 x4 := by
      unfold x4
      exact (State.set_within h3 (Within.sub hk (by simp)))
    clear_value x4
    try clear_value x5
    try clear_value x6
    exact (Within.fst (State.setBst_within h4 (Within.sub hk (by simp))))

theorem startupTest_within {K : Nat} {rs : List (Option (Nat × Nat))} {s0 s : State} (h : Within K s0 s) (hk : 1210106411516824783945760 ||| K = K) :
    Within K s0 (startupTest rs s) := by
  unfold startupTest
  extract_lets -merge -useContext x1 x2 x3 x4 x5 x6 x7 x8
  try clear_value x1
  try clear_value x2
  try clear_value x3
  have h4 : Within K s0 x4 := by
    unfold x4
    exact (State.setBst_within h (Within.sub hk (by simp)))
  clear_value x4
  have h5 : Within K s0 x5 := by
    unfold x5
    exact (keepCommit_within h4 (Within.sub hk (by simp)))
  clear_value x5
  have h6 : Within K s0 x6 := by
    unfold x6
    exact (State.raise_within
      (State.set_within h5 (Within.sub hk (by simp))) (Within.sub hk (by simp)) (Within.sub hk (by simp)))
  clear_value x6
  have h7 : Within K s0 x7 := by
    unfold x7
    exact (State.raise_within h6 (Within.sub hk (by simp)) (Within.sub hk (by simp)))
  clear_value x7
  try clear_value x8
  exact (Within.ite h6
    (Within.upd_plinth h7 (Within.sub hk (by simp)) _))

theorem copyRecord_within {K : Nat} {s0 s : State} (h : Within K s0 s) (hk : 281474976710656 ||| K = K) :
    Within K s0 (copyRecord s) := by
  unfold copyRecord
  extract_lets -merge -useContext x1
  try clear_value x1
  split
  · skip
    exact (Within.ite (State.setBst_within h hk)
      h)
  · skip
    exact h

theorem odGo_within {K : Nat} {s0 s : State} (h : Within K s0 s) (hk : 2555108242265616789585254195232 ||| K = K) :
    Within K s0 (odGo s) := by
  unfold odGo
  extract_lets -merge -useContext x1 x2 x3 x4
  try clear_value x1
  have h2 : Within K s0 x2 := by
    unfold x2
    exact (Within.ite (eraseAllSlots_within h (Within.sub hk (by simp)))
      (Within.ite (eraseAllSlots_within h (Within.sub hk (by simp)))
        h))
  clear_value x2
  have h3 : Within K s0 x3 := by
    unfold x3
    exact (State.set_within
      (State.set_within h2 (Within.sub hk (by simp))) (Within.sub hk (by simp)))
  clear_value x3
  try clear_value x4
  exact (State.setBst_within h3 (Within.sub hk (by simp)))

theorem reinitPage_within {K : Nat} {s0 s : State} {p : Page} (h : Within K s0 s) (hk : 2251799813685280 ||| K = K) (hp : pageBit p ||| K = K) :
    Within K s0 (reinitPage s p) := by
  unfold reinitPage
  extract_lets -merge -useContext x1 x2
  have h1 : Within K s0 x1 := by
    unfold x1
    exact (Within.upd_staged h (Within.sub hk (by simp)) _)
  clear_value x1
  try clear_value x2
  exact (sendMessages_within
    (Within.foldl _ (fun _ _ h3 => (Within.setWord h3 _ _ _ hp))
      h1) (Within.sub hk (by simp)))

theorem reinitState_within {K : Nat} {s0 s : State} {p : Page} (h : Within K s0 s) (hk : 48576948924416 ||| K = K) :
    Within K s0 (reinitState s p) := by
  cases p with
  | txp c => exact Within.upd_txDsp h (Within.sub hk (by simp)) _
  | cdc c => exact Within.upd_dispersion h (Within.sub hk (by simp)) _
  | eqz c => exact Within.upd_equaliser h (Within.sub hk (by simp)) _
  | cpr c => exact Within.upd_carrierRec h (Within.sub hk (by simp)) _
  | dmp c => exact Within.upd_demapper h (Within.sub hk (by simp)) _
  | fec c => exact Within.upd_fec h (Within.sub hk (by simp)) _
  | lfm c => exact Within.upd_framer h (Within.sub hk (by simp)) _
  | cry c => exact Within.upd_cipher h (Within.sub hk (by simp)) _
  | cpc c => exact Within.upd_cpc h (Within.sub hk (by simp)) _
  | clx n => exact Within.upd_checkers h (Within.sub hk (by simp)) _
  | rk n => exact Within.upd_cores_images h (Within.sub hk (by simp)) (Within.sub hk (by simp)) _ _
  | tly n => exact Within.upd_samples h (Within.sub hk (by simp)) _
  | qlt => exact Within.upd_qlt h (Within.sub hk (by simp)) _
  | rps => exact Within.upd_rps h (Within.sub hk (by simp)) _
  | tel => exact Within.upd_tel h (Within.sub hk (by simp)) _
  | cast => exact Within.upd_cast h (Within.sub hk (by simp)) _
  | fes => exact Within.upd_optics h (Within.sub hk (by simp)) _
  | _ => exact h

theorem odTestEnd_within {K : Nat} {r : Option (Nat × Nat)} {s0 s : State} (h : Within K s0 s) (hk : 5070602400894473443766990073888 ||| K = K) :
    Within K s0 (odTestEnd r s) := by
  unfold odTestEnd
  split
  · skip
    exact h
  · skip
    extract_lets -merge -useContext x1 x2 x3 x4 x5 x6 x7 x8
    try clear_value x1
    have h2 : Within K s0 x2 := by
      unfold x2
      exact (Within.foldl _ (fun _ _ h9 => (reinitState_within
          (reinitPage_within h9 (Within.sub hk (by simp)) (Within.all hk _)) (Within.sub hk (by simp))))
        h)
    clear_value x2
    try clear_value x3
    try clear_value x4
    have h5 : Within K s0 x5 := by
      unfold x5
      exact (State.setBst_within h2 (Within.sub hk (by simp)))
    clear_value x5
    try clear_value x6
    have h7 : Within K s0 x7 := by
      unfold x7
      exact (keepCommit_within h5 (Within.sub hk (by simp)))
    clear_value x7
    have h8 : Within K s0 x8 := by
      unfold x8
      exact (State.set_within
        (State.set_within
          (State.set_within h7 (Within.sub hk (by simp))) (Within.sub hk (by simp))) (Within.sub hk (by simp)))
    clear_value x8
    exact (State.raise_within
      (State.raiseIf_within h8 (Within.sub hk (by simp)) (Within.sub hk (by simp))) (Within.sub hk (by simp)) (Within.sub hk (by simp)))

theorem odDeniedRead_within {K : Nat} {origin : Nat} {p : Page} {y2 : Nat} {s0 s : State} (h : Within K s0 s) (hk : 303485833501769054814256 ||| K = K) :
    Within K s0 (odDeniedRead origin p y2 s) := by
  unfold odDeniedRead
  extract_lets -merge -useContext x1
  have h1 : Within K s0 x1 := by
    unfold x1
    exact (State.bump_within h (Within.sub hk (by simp)))
  clear_value x1
  exact (appendEntry_within h1 (Within.sub hk (by simp)))

end Sys2Proof.Machine
end

