-- ==== Sys2Proof/Laws/Journal.lean ====
section
/-! SUPPORT. Laws/Journal.lean: the parts of the state that each operation of Machine/Journal.lean can change. -/
namespace Sys2Proof.Machine

set_option Elab.async false

open Sys2Proof

theorem journalSpill_within {K : Nat} {n : Nat} {s0 s : State} (h : Within K s0 s) (hk : 302305241881051643510832 ||| K = K) :
    Within K s0 (journalSpill n s) := by
  unfold journalSpill
  exact (Within.ite (spillJournal_within h hk)
    h)

theorem journalSpaceReturn_within {K : Nat} {s0 s : State} (h : Within K s0 s) (hk : 302305241881051643510832 ||| K = K) :
    Within K s0 (journalSpaceReturn s) := by
  unfold journalSpaceReturn
  extract_lets -merge -useContext x1 x2 x3
  try clear_value x1
  try clear_value x2
  have h3 : Within K s0 x3 := by
    unfold x3
    exact (Within.upd_journal h (Within.sub hk (by simp)) _)
  clear_value x3
  exact (Within.ite h
    (Within.ite h3
      (appendMarker_within h3 hk)))

theorem persistEntries_within {K : Nat} {es : List JournalEntry} {s0 s : State} (h : Within K s0 s) (hk : 1208999606590926160396304 ||| K = K) :
    Within K s0 (persistEntries es s) := by
  unfold persistEntries
  extract_lets -merge -useContext x1
  try clear_value x1
  split
  · skip
    exact h
  · skip
    extract_lets -merge -useContext x2 x3
    have h2 : Within K s0 x2 := by
      unfold x2
      exact (Within.upd_journal h (Within.sub hk (by simp)) _)
    clear_value x2
    have h3 : Within K s0 x3 := by
      unfold x3
      exact (State.setPair_within h2 (Within.sub hk (by simp)))
    clear_value x3
    exact (keepCommit_within h3 (Within.sub hk (by simp)))

theorem journalPersist_within {K : Nat} {n : Nat} {s0 s : State} (h : Within K s0 s) (hk : 1360115338546354434605072 ||| K = K) :
    Within K s0 (journalPersist n s) := by
  unfold journalPersist
  exact (Within.ite h
    (Within.ite (startTimer_within
        (persistEntries_within h (Within.sub hk (by simp))) (Within.sub hk (by simp)))
      (archiveRefuse_within h (Within.sub hk (by simp)))))

theorem signNow_within {K : Nat} {s0 s : State} (h : Within K s0 s) (hk : 16 ||| K = K) :
    Within K s0 (signNow s) := by
  unfold signNow
  split
  · skip
    exact h
  · skip
    exact (requestSignature_within h hk)

theorem signatureDone_within {K : Nat} {s0 s : State} (h : Within K s0 s) (hk : 453420969332880290349104 ||| K = K) :
    Within K s0 (signatureDone s) := by
  unfold signatureDone
  extract_lets -merge -useContext x1
  try clear_value x1
  split
  · skip
    exact h
  · skip
    extract_lets -merge -useContext x2 x3 x4
    try clear_value x2
    have h3 : Within K s0 x3 := by
      unfold x3
      exact (Within.upd_journal h (Within.sub hk (by simp)) _)
    clear_value x3
    have h4 : Within K s0 x4 := by
      unfold x4
      exact (State.setPair_within h3 (Within.sub hk (by simp)))
    clear_value x4
    exact (Within.ite h
      (Within.ite (archiveRefuse_within h (Within.sub hk (by simp)))
        (State.raise_within
          (appendMarker_within h4 (Within.sub hk (by simp))) (Within.sub hk (by simp)) (Within.sub hk (by simp)))))

end Sys2Proof.Machine
end

