-- ==== Sys2Proof/Laws/Auxiliary.lean ====
section
/-! SUPPORT. Laws/Auxiliary.lean: the parts of the state that each operation of Machine/Auxiliary.lean can change. -/
namespace Sys2Proof.Machine

set_option Elab.async false

open Sys2Proof

theorem auxRefresh_within {K : Nat} {s0 s : State} {n : Nat} (h : Within K s0 s) (hk : 4722366482869645213696 ||| K = K) :
    Within K s0 (auxRefresh s n) := by
  unfold auxRefresh
  extract_lets -merge -useContext x1 x2
  try clear_value x1
  try clear_value x2
  exact (State.set_within h (Within.sub hk (by simp)))

theorem auxDriveClear_within {K : Nat} {s0 s : State} {n : Nat} (h : Within K s0 s) (hk : 4722366482869645213696 ||| K = K) :
    Within K s0 (auxDriveClear s n) := by
  unfold auxDriveClear
  exact (auxRefresh_within
    (State.set_within h (Within.sub hk (by simp))) hk)

theorem auxRangeChange_within {K : Nat} {n : Fin 16} {s0 s : State} (h : Within K s0 s) (hk : 4722370986469272715264 ||| K = K) :
    Within K s0 (auxRangeChange n s) := by
  unfold auxRangeChange
  extract_lets -merge -useContext x1 x2 x3
  try clear_value x1
  have h2 : Within K s0 x2 := by
    unfold x2
    exact (Within.upd_aux h (Within.sub hk (by simp)) _)
  clear_value x2
  have h3 : Within K s0 x3 := by
    unfold x3
    exact (startTimer_within
      (startTimer_within h2 (Within.sub hk (by simp))) (Within.sub hk (by simp)))
  clear_value x3
  exact (Within.ite (auxDriveClear_within
      (State.set_within h3 (Within.sub hk (by simp))) (Within.sub hk (by simp)))
    h)

theorem auxStep_within {K : Nat} {n : Fin 16} {s0 s : State} (h : Within K s0 s) (hk : 4722370986469272715296 ||| K = K) :
    Within K s0 (auxStep n s) := by
  unfold auxStep
  extract_lets -merge -useContext x1 x2 x3 x4 x5
  have h1 : Within K s0 x1 := by
    unfold x1
    exact (startTimer_within h (Within.sub hk (by simp)))
  clear_value x1
  try clear_value x2
  try clear_value x3
  try clear_value x4
  have h5 : Within K s0 x5 := by
    unfold x5
    exact (auxRefresh_within
      (State.set_within h1 (Within.sub hk (by simp))) (Within.sub hk (by simp)))
  clear_value x5
  exact (Within.ite h
    (Within.ite (auxRangeChange_within h (Within.sub hk (by simp)))
      (Within.ite (auxDriveClear_within
          (startTimer_within h (Within.sub hk (by simp))) (Within.sub hk (by simp)))
        (State.raiseIf_within h5 (Within.sub hk (by simp)) (Within.sub hk (by simp))))))

theorem auxRangeDone_within {K : Nat} {n : Fin 16} {s0 s : State} (h : Within K s0 s) (hk : 4722366482869645213728 ||| K = K) :
    Within K s0 (auxRangeDone n s) := by
  unfold auxRangeDone
  exact (Within.ite (auxRefresh_within
      (State.raise_within
        (State.set_within h (Within.sub hk (by simp))) (Within.sub hk (by simp)) (Within.sub hk (by simp))) (Within.sub hk (by simp)))
    h)

theorem auxPin_within {K : Nat} {low : Bool} {s0 s : State} (h : Within K s0 s) (hk : 4722366482869645213728 ||| K = K) :
    Within K s0 (auxPin low s) := by
  unfold auxPin
  extract_lets -merge -useContext x1
  have h1 : Within K s0 x1 := by
    unfold x1
    exact (State.set_within h (Within.sub hk (by simp)))
  clear_value x1
  exact (Within.ite (Within.ite h
      (State.raise_within
        (Within.foldl _ (fun _ _ h2 => (auxDriveClear_within h2 (Within.sub hk (by simp))))
          h1) (Within.sub hk (by simp)) (Within.sub hk (by simp))))
    (Within.foldl _ (fun _ _ h3 => (auxRefresh_within h3 (Within.sub hk (by simp))))
      (State.set_within h (Within.sub hk (by simp)))))

theorem auxLadderCal_within {K : Nat} {n : Fin 16} {ms : List (Int × Int)} {s0 s : State} (h : Within K s0 s) (hk : 5312662293228351258656 ||| K = K) :
    Within K s0 (auxLadderCal n ms s) := by
  unfold auxLadderCal
  extract_lets -merge -useContext x1 x2
  have h1 : Within K s0 x1 := by
    unfold x1
    exact (calMeasureAll_within h (Within.sub hk (by simp)))
  clear_value x1
  try clear_value x2
  exact (Within.ite (auxRefresh_within
      (Within.upd_aux h1 (Within.sub hk (by simp)) _) (Within.sub hk (by simp)))
    h)

theorem auxDeepSleep_within {K : Nat} {s0 s : State} (h : Within K s0 s) (hk : 4722366482869645213696 ||| K = K) :
    Within K s0 (auxDeepSleep s) := by
  unfold auxDeepSleep
  exact (Within.foldl _ (fun _ _ h1 => (auxDriveClear_within h1 hk))
    h)

theorem auxWritten_within {K : Nat} {y0 : Nat} {old : Word} {new : Word} {s0 s : State} (h : Within K s0 s) (hk : 4722370986469272715264 ||| K = K) :
    Within K s0 (auxWritten y0 old new s) := by
  unfold auxWritten
  extract_lets -merge -useContext x1
  try clear_value x1
  split
  · skip
    exact h
  · skip
    extract_lets -merge -useContext x2
    have h2 : Within K s0 x2 := by
      unfold x2
      exact (Within.ite (State.set_within h (Within.sub hk (by simp)))
        h)
    clear_value x2
    exact (auxRefresh_within h2 (Within.sub hk (by simp)))
  · skip
    extract_lets -merge -useContext x3 x4 x5 x6 x7
    have h3 : Within K s0 x3 := by
      unfold x3
      exact (startTimer_within
        (State.set_within h (Within.sub hk (by simp))) (Within.sub hk (by simp)))
    clear_value x3
    try clear_value x4
    have h5 : Within K s0 x5 := by
      unfold x5
      exact (Within.ite (Within.ite (Within.upd_aux h3 (Within.sub hk (by simp)) _)
          h3)
        h)
    clear_value x5
    try clear_value x6
    have h7 : Within K s0 x7 := by
      unfold x7
      exact (Within.ite (Within.upd_aux h5 (Within.sub hk (by simp)) _)
        h5)
    clear_value x7
    exact (auxRefresh_within h7 (Within.sub hk (by simp)))

theorem auxHardware_within {K : Nat} {y0 : Nat} {new : Word} {s0 s : State} (h : Within K s0 s) (hk : 307027615119320729911344 ||| K = K) :
    Within K s0 (auxHardware y0 new s) := by
  unfold auxHardware
  exact (Within.ite (hardwareWrite_within h (Within.sub hk (by simp)) (Within.sub hk (by simp)))
    (auxWritten_within
      (hardwareWrite_within h (Within.sub hk (by simp)) (Within.sub hk (by simp))) (Within.sub hk (by simp))))

theorem auxDrive_within {K : Nat} {n : Nat} {target : Option Nat} {s0 s : State} (h : Within K s0 s) (hk : 307027615119320729911344 ||| K = K) :
    Within K s0 (auxDrive n target s) := by
  unfold auxDrive
  extract_lets -merge -useContext x1 x2 x3
  try clear_value x1
  try clear_value x2
  have h3 : Within K s0 x3 := by
    unfold x3
    exact (auxHardware_within h hk)
  clear_value x3
  split
  · skip
    exact h3
  · skip
    exact (auxHardware_within h3 hk)

end Sys2Proof.Machine
end

