-- ==== Sys2Proof/Laws/Fec.lean ====
section
/-! SUPPORT. Laws/Fec.lean: the parts of the state that each operation of Machine/Fec.lean can change. -/
namespace Sys2Proof.Machine

set_option Elab.async false

open Sys2Proof

theorem putStep_within {K : Nat} {s0 s : State} {c : Carrier} {x : StepRecord} (h : Within K s0 s) (hk : 536870912 ||| K = K) :
    Within K s0 (putStep s c x) := by
  unfold putStep
  extract_lets -merge -useContext x1
  try clear_value x1
  exact (Within.upd_qlt h hk _)

theorem breakInband_within {K : Nat} {s0 s : State} {c : Carrier} (h : Within K s0 s) (hk : 2417851639229258886283264 ||| K = K) :
    Within K s0 (breakInband s c) := by
  unfold breakInband
  extract_lets -merge -useContext x1 x2
  try clear_value x1
  have h2 : Within K s0 x2 := by
    unfold x2
    exact (Within.upd_qlt h (Within.sub hk (by simp)) _)
  clear_value x2
  exact (Within.ite (State.set_within
      (State.bump_within h2 (Within.sub hk (by simp))) (Within.sub hk (by simp)))
    h)

theorem breakPilot_within {K : Nat} {s0 s : State} {c : Carrier} (h : Within K s0 s) (hk : 2417851639229258886283264 ||| K = K) :
    Within K s0 (breakPilot s c) := by
  unfold breakPilot
  extract_lets -merge -useContext x1 x2
  try clear_value x1
  have h2 : Within K s0 x2 := by
    unfold x2
    exact (Within.upd_qlt h (Within.sub hk (by simp)) _)
  clear_value x2
  exact (Within.ite (State.set_within
      (State.bump_within h2 (Within.sub hk (by simp))) (Within.sub hk (by simp)))
    h)

theorem frameHunt_within {K : Nat} {s0 s : State} {c : Carrier} (h : Within K s0 s) (hk : 9905938184369015531788833056 ||| K = K) :
    Within K s0 (frameHunt s c) := by
  unfold frameHunt
  extract_lets -merge -useContext x1 x2 x3 x4 x5 x6 x7
  try clear_value x1
  have h2 : Within K s0 x2 := by
    unfold x2
    exact (Within.ite (breakInband_within h (Within.sub hk (by simp)))
      h)
  clear_value x2
  have h3 : Within K s0 x3 := by
    unfold x3
    exact (State.set_within h2 (Within.sub hk (by simp)))
  clear_value x3
  try clear_value x4
  have h5 : Within K s0 x5 := by
    unfold x5
    exact (State.setFramer_within h3 (Within.sub hk (by simp)))
  clear_value x5
  try clear_value x6
  have h7 : Within K s0 x7 := by
    unfold x7
    exact (putStep_within h5 (Within.sub hk (by simp)))
  clear_value x7
  exact (Within.ite (lockFrameLeft_within h7 (Within.sub hk (by simp)))
    h7)

theorem setSf_within {K : Nat} {s0 s : State} {c : Carrier} (h : Within K s0 s) (hk : 4951760157141521134493114400 ||| K = K) :
    Within K s0 (setSf s c) := by
  unfold setSf
  extract_lets -merge -useContext x1 x2 x3 x4 x5 x6
  try clear_value x1
  have h2 : Within K s0 x2 := by
    unfold x2
    exact (putStep_within h (Within.sub hk (by simp)))
  clear_value x2
  try clear_value x3
  try clear_value x4
  have h5 : Within K s0 x5 := by
    unfold x5
    exact (State.setFec_within h2 (Within.sub hk (by simp)))
  clear_value x5
  have h6 : Within K s0 x6 := by
    unfold x6
    exact (Within.ite h5
      (noteTrigger_within h5 (Within.sub hk (by simp))))
  clear_value x6
  exact (State.raiseIf_within
    (State.set_within h6 (Within.sub hk (by simp))) (Within.sub hk (by simp)) (Within.sub hk (by simp)))

theorem setSd_within {K : Nat} {s0 s : State} {c : Carrier} (h : Within K s0 s) (hk : 4951760157141521099596505120 ||| K = K) :
    Within K s0 (setSd s c) := by
  unfold setSd
  extract_lets -merge -useContext x1 x2 x3
  try clear_value x1
  try clear_value x2
  have h3 : Within K s0 x3 := by
    unfold x3
    exact (State.setFec_within h (Within.sub hk (by simp)))
  clear_value x3
  exact (State.raiseIf_within
    (State.set_within h3 (Within.sub hk (by simp))) (Within.sub hk (by simp)) (Within.sub hk (by simp)))

theorem leaveFecLock_within {K : Nat} {s0 s : State} {c : Carrier} (h : Within K s0 s) (hk : 14857698341510536665745076512 ||| K = K) :
    Within K s0 (leaveFecLock s c) := by
  unfold leaveFecLock
  extract_lets -merge -useContext x1
  try clear_value x1
  exact (frameHunt_within
    (setSf_within
      (State.setFec_within h (Within.sub hk (by simp))) (Within.sub hk (by simp))) (Within.sub hk (by simp)))

theorem enterFecState_within {K : Nat} {s0 s : State} {c : Carrier} {st : Nat} (h : Within K s0 s) (hk : 14857698341510536665745076512 ||| K = K) :
    Within K s0 (enterFecState s c st) := by
  unfold enterFecState
  extract_lets -merge -useContext x1
  have h1 : Within K s0 x1 := by
    unfold x1
    exact (Within.ite (leaveFecLock_within h hk)
      h)
  clear_value x1
  exact (State.set_within h1 (Within.sub hk (by simp)))

theorem fecSynchronised_within {K : Nat} {s0 s : State} {c : Carrier} (h : Within K s0 s) (hk : 14857698341510536665745076512 ||| K = K) :
    Within K s0 (fecSynchronised s c) := by
  unfold fecSynchronised
  exact (Within.ite (enterFecState_within h hk)
    h)

theorem fecUnsynchronised_within {K : Nat} {s0 s : State} {c : Carrier} (h : Within K s0 s) (hk : 14857698341510536665745076512 ||| K = K) :
    Within K s0 (fecUnsynchronised s c) := by
  unfold fecUnsynchronised
  extract_lets -merge -useContext x1 x2
  try clear_value x1
  have h2 : Within K s0 x2 := by
    unfold x2
    exact (State.setFec_within h (Within.sub hk (by simp)))
  clear_value x2
  exact (Within.ite h2
    (enterFecState_within h2 hk))

theorem fecInput_within {K : Nat} {c : Carrier} {llrs : List Int} {s0 s : State} (h : Within K s0 s) (hk : 14857698341510536665745076512 ||| K = K) :
    Within K s0 (fecInput c llrs s) := by
  unfold fecInput
  extract_lets -merge -useContext x1 x2
  have h1 : Within K s0 x1 := by
    unfold x1
    exact (fecSynchronised_within h hk)
  clear_value x1
  try clear_value x2
  exact (Within.ite (State.setFec_within h1 (Within.sub hk (by simp)))
    h)

theorem huntObservation_within {K : Nat} {c : Carrier} {s0 s : State} (h : Within K s0 s) (hk : 14857698341510536665745076512 ||| K = K) :
    Within K s0 (huntObservation c s) := by
  unfold huntObservation
  extract_lets -merge -useContext x1 x2 x3 x4 x5
  try clear_value x1
  try clear_value x2
  try clear_value x3
  try clear_value x4
  have h5 : Within K s0 x5 := by
    unfold x5
    exact (State.setFec_within h (Within.sub hk (by simp)))
  clear_value x5
  exact (Within.ite (Within.ite (enterFecState_within
        (State.set_within h5 (Within.sub hk (by simp))) hk)
      (State.bump_within
        (State.setFec_within h (Within.sub hk (by simp))) (Within.sub hk (by simp))))
    h)

theorem countBlock_within {K : Nat} {c : Carrier} {bad : Bool} {erased : Nat} {corrected : List Nat} {s0 s : State} (h : Within K s0 s) (hk : 4951760157141521099596496928 ||| K = K) :
    Within K s0 (countBlock c bad erased corrected s) := by
  unfold countBlock
  extract_lets -merge -useContext x1 x2 x3
  try clear_value x1
  have h2 : Within K s0 x2 := by
    unfold x2
    exact (State.addPair_within h (Within.sub hk (by simp)))
  clear_value x2
  have h3 : Within K s0 x3 := by
    unfold x3
    exact (State.addPair_within h2 (Within.sub hk (by simp)))
  clear_value x3
  exact (Within.ite (State.raiseIf_within
      (State.bump_within h3 (Within.sub hk (by simp))) (Within.sub hk (by simp)) (Within.sub hk (by simp)))
    (State.addPair_within h3 (Within.sub hk (by simp))))

theorem decodeBlock_within {K : Nat} {c : Carrier} {s0 s : State} (h : Within K s0 s) (hk : 14857698341510536665745076512 ||| K = K) :
    Within K s0 (decodeBlock c s) := by
  unfold decodeBlock
  extract_lets -merge -useContext x1 x2 x3 x4 x5 x6 x7 x8 x9 x10
  try clear_value x1
  try clear_value x2
  try clear_value x3
  try clear_value x4
  try clear_value x5
  try clear_value x6
  try clear_value x7
  try clear_value x8
  have h9 : Within K s0 x9 := by
    unfold x9
    exact (countBlock_within h (Within.sub hk (by simp)))
  clear_value x9
  have h10 : Within K s0 x10 := by
    unfold x10
    exact (State.setFec_within h9 (Within.sub hk (by simp)))
  clear_value x10
  exact (Within.ite (State.raise_within
      (State.bump_within (enterFecState_within h10 hk) (Within.sub hk (by simp))) (Within.sub hk (by simp)) (Within.sub hk (by simp)))
    h10)

theorem decodeRun_within {K : Nat} {c : Carrier} {toBad : Bool} {n : Nat} {s0 s : State} (h : Within K s0 s)
    (hk : 14857698341510536665745076512 ||| K = K) : Within K s0 (decodeRun c toBad n s) := by
  induction n generalizing s with
  | zero => exact h
  | succ n ih =>
    have h1 : Within K s0 (decodeBlock c s) := decodeBlock_within h hk
    exact Within.ite (Within.ite h1 (ih h1)) h

theorem uncorrectableBlock_within {K : Nat} {c : Carrier} {s0 s : State} (h : Within K s0 s) (hk : 14857698341510536665745076512 ||| K = K) :
    Within K s0 (uncorrectableBlock c s) := by
  unfold uncorrectableBlock
  exact (decodeRun_within h hk)

theorem checkResult_within {K : Nat} {c : Carrier} {s0 s : State} (h : Within K s0 s) (hk : 14857698341510536665745076512 ||| K = K) :
    Within K s0 (checkResult c s) := by
  unfold checkResult
  extract_lets -merge -useContext x1 x2 x3 x4 x5
  have h1 : Within K s0 x1 := by
    unfold x1
    exact (Within.ite (decodeRun_within h hk)
      h)
  clear_value x1
  try clear_value x2
  have h3 : Within K s0 x3 := by
    unfold x3
    exact (State.setFec_within h1 (Within.sub hk (by simp)))
  clear_value x3
  try clear_value x4
  have h5 : Within K s0 x5 := by
    unfold x5
    exact (putStep_within h3 (Within.sub hk (by simp)))
  clear_value x5
  exact (Within.ite (Within.ite (State.raise_within
        (State.set_within h5 (Within.sub hk (by simp))) (Within.sub hk (by simp)) (Within.sub hk (by simp)))
      (enterFecState_within h1 hk))
    h1)

theorem setArray_within {K : Nat} {s0 s : State} {p : Page} {f : Field} {l : List Nat} (h : Within K s0 s) (hp : pageBit p ||| K = K) :
    Within K s0 (setArray s p f l) := by
  unfold setArray
  exact (Within.foldl _ (fun _ _ h1 => (State.set_within h1 hp))
    h)

theorem judgeWindow_within {K : Nat} {s0 s : State} {c : Carrier} {ber : Nat} {uncorr : Nat} (h : Within K s0 s) (hk : 4951760157141521134493114400 ||| K = K) :
    Within K s0 (judgeWindow s c ber uncorr) := by
  unfold judgeWindow
  extract_lets -merge -useContext x1 x2 x3 x4 x5 x6 x7 x8 x9
  try clear_value x1
  try clear_value x2
  try clear_value x3
  try clear_value x4
  have h5 : Within K s0 x5 := by
    unfold x5
    exact (State.setFec_within h (Within.sub hk (by simp)))
  clear_value x5
  have h6 : Within K s0 x6 := by
    unfold x6
    exact (Within.ite (setSd_within h (Within.sub hk (by simp)))
      (Within.ite (State.set_within h5 (Within.sub hk (by simp)))
        h5))
  clear_value x6
  try clear_value x7
  try clear_value x8
  have h9 : Within K s0 x9 := by
    unfold x9
    exact (State.setFec_within h6 (Within.sub hk (by simp)))
  clear_value x9
  exact (Within.ite (setSf_within h6 hk)
    (Within.ite (State.set_within h9 (Within.sub hk (by simp)))
      h9))

theorem noteDwell_within {K : Nat} {s0 s : State} {c : Carrier} {ber : Nat} {uncorr : Nat} {winLog2 : Nat} (h : Within K s0 s) (hk : 536870912 ||| K = K) :
    Within K s0 (noteDwell s c ber uncorr winLog2) := by
  unfold noteDwell
  extract_lets -merge -useContext x1
  try clear_value x1
  exact (putStep_within h hk)

theorem latchWindow_within {K : Nat} {c : Carrier} {w : FecWindow} {s0 s : State} (h : Within K s0 s) (hk : 4951760157141521099596496896 ||| K = K) :
    Within K s0 (latchWindow c w s) := by
  unfold latchWindow
  extract_lets -merge -useContext x1 x2 x3
  try clear_value x1
  have h2 : Within K s0 x2 := by
    unfold x2
    exact (State.set_within
      (State.set_within h (Within.sub hk (by simp))) (Within.sub hk (by simp)))
  clear_value x2
  have h3 : Within K s0 x3 := by
    unfold x3
    exact (State.set_within h2 (Within.sub hk (by simp)))
  clear_value x3
  exact (setArray_within
    (setArray_within h3 (Within.sub hk (by simp))) (Within.sub hk (by simp)))

theorem windowEnd_within {K : Nat} {c : Carrier} {s0 s : State} (h : Within K s0 s) (hk : 14857698341510536665745076512 ||| K = K) :
    Within K s0 (windowEnd c s) := by
  unfold windowEnd
  extract_lets -merge -useContext x1 x2 x3 x4 x5 x6 x7
  have h1 : Within K s0 x1 := by
    unfold x1
    exact (Within.ite (decodeRun_within h hk)
      h)
  clear_value x1
  try clear_value x2
  have h3 : Within K s0 x3 := by
    unfold x3
    exact (latchWindow_within h1 (Within.sub hk (by simp)))
  clear_value x3
  have h4 : Within K s0 x4 := by
    unfold x4
    exact (State.raise_within
      (State.addWrap_within h3 (Within.sub hk (by simp))) (Within.sub hk (by simp)) (Within.sub hk (by simp)))
  clear_value x4
  try clear_value x5
  have h6 : Within K s0 x6 := by
    unfold x6
    exact (noteDwell_within
      (judgeWindow_within h4 (Within.sub hk (by simp))) (Within.sub hk (by simp)))
  clear_value x6
  try clear_value x7
  exact (Within.ite (State.setFec_within h6 (Within.sub hk (by simp)))
    h1)

theorem fecStart_within {K : Nat} {c : Carrier} {s0 s : State} (h : Within K s0 s) (hk : 4951760157141521099596496896 ||| K = K) :
    Within K s0 (fecStart c s) := by
  unfold fecStart
  extract_lets -merge -useContext x1
  have h1 : Within K s0 x1 := by
    unfold x1
    exact (State.clearAll_within h (Within.sub hk (by simp)))
  clear_value x1
  exact (State.clearArray_within
    (State.clearArray_within h1 (Within.sub hk (by simp))) (Within.sub hk (by simp)))

theorem fecRunning_within {K : Nat} {c : Carrier} {s0 s : State} (h : Within K s0 s) (hk : 8192 ||| K = K) :
    Within K s0 (fecRunning c s) := by
  unfold fecRunning
  exact (putEncoder_within h hk)

end Sys2Proof.Machine
end

