-- ==== Sys2Proof/Laws/Mlse.lean ====
section
/-! SUPPORT. Laws/Mlse.lean: the parts of the state that each operation of Machine/Mlse.lean can change. -/
namespace Sys2Proof.Machine

set_option Elab.async false

open Sys2Proof

theorem setDemapper_within {K : Nat} {s0 s : State} {c : Carrier} {x : Demapper} (h : Within K s0 s) (hk : 8388608 ||| K = K) :
    Within K s0 (setDemapper s c x) := by
  unfold setDemapper
  exact (Within.upd_demapper h hk _)

theorem showTails_within {K : Nat} {s0 s : State} {c : Carrier} (h : Within K s0 s) (hk : 1237940039285380274899124224 ||| K = K) :
    Within K s0 (showTails s c) := by
  unfold showTails
  exact (Within.foldl _ (fun _ _ h1 => (State.setInt_within h1 (Within.sub hk (by simp))))
    h)

theorem resetTrellis_within {K : Nat} {c : Carrier} {s0 s : State} (h : Within K s0 s) (hk : 1237940039285380274907512864 ||| K = K) :
    Within K s0 (resetTrellis c s) := by
  unfold resetTrellis
  extract_lets -merge -useContext x1 x2 x3
  try clear_value x2
  have h3 : Within K s0 x3 := by
    unfold x3
    exact (setDemapper_within h (Within.sub hk (by simp)))
  clear_value x3
  exact (State.raise_within
    (State.bump_within h3 (Within.sub hk (by simp))) (Within.sub hk (by simp)) (Within.sub hk (by simp)))

theorem trellisReset_within {K : Nat} {c : Carrier} {s0 s : State} (h : Within K s0 s) (hk : 1237940039285380274907512864 ||| K = K) :
    Within K s0 (trellisReset c s) := by
  unfold trellisReset
  exact (Within.ite (resetTrellis_within h hk)
    h)

theorem markedBlock_within {K : Nat} {c : Carrier} {block : List RxPeriod} {s0 s : State} (h : Within K s0 s) (hk : 8388608 ||| K = K) :
    Within K s0 (markedBlock c block s) := by
  unfold markedBlock
  extract_lets -merge -useContext x1 x2 x3
  try clear_value x1
  try clear_value x2
  try clear_value x3
  exact (setDemapper_within h hk)

theorem trellisBlock_within {K : Nat} {c : Carrier} {n : Nat} {s0 s : State} (h : Within K s0 s) (hk : 8388608 ||| K = K) :
    Within K s0 (trellisBlock c n s) := by
  unfold trellisBlock
  extract_lets -merge -useContext x1 x2 x3 x4 x5
  try clear_value x1
  try clear_value x2
  try clear_value x3
  try clear_value x4
  try clear_value x5
  exact (setDemapper_within h hk)

theorem mlsAdapt_within {K : Nat} {c : Carrier} {s0 s : State} (h : Within K s0 s) (hk : 1237940039285380274907512864 ||| K = K) :
    Within K s0 (mlsAdapt c s) := by
  unfold mlsAdapt
  extract_lets -merge -useContext x1 x2 x3 x4 x5 x6 x7
  try clear_value x1
  try clear_value x2
  try clear_value x3
  try clear_value x4
  try clear_value x5
  have h6 : Within K s0 x6 := by
    unfold x6
    exact (setDemapper_within h (Within.sub hk (by simp)))
  clear_value x6
  have h7 : Within K s0 x7 := by
    unfold x7
    exact (showTails_within h6 (Within.sub hk (by simp)))
  clear_value x7
  exact (Within.ite h
    (Within.ite h7
      (State.raise_within
        (State.addSat_within h7 (Within.sub hk (by simp))) (Within.sub hk (by simp)) (Within.sub hk (by simp)))))

theorem mlsUpdate_within {K : Nat} {c : Carrier} {s0 s : State} (h : Within K s0 s) (hk : 1237940039285380274907512864 ||| K = K) :
    Within K s0 (mlsUpdate c s) := by
  unfold mlsUpdate
  extract_lets -merge -useContext x1
  try clear_value x1
  exact (Within.ite h
    (Within.ite (markedBlock_within h (Within.sub hk (by simp)))
      (mlsAdapt_within
        (trellisBlock_within (trellisReset_within h hk) (Within.sub hk (by simp))) hk)))

theorem mlsPush_within {K : Nat} {c : Carrier} {ps : List RxPeriod} {s0 s : State} (h : Within K s0 s) (hk : 8388608 ||| K = K) :
    Within K s0 (mlsPush c ps s) := by
  unfold mlsPush
  extract_lets -merge -useContext x1 x2
  try clear_value x1
  try clear_value x2
  exact (Within.ite (setDemapper_within h hk)
    h)

theorem dmpErase_within {K : Nat} {s0 s : State} {c : Carrier} (h : Within K s0 s) (hk : 2475880078570760549806637088 ||| K = K) :
    Within K s0 (dmpErase s c) := by
  unfold dmpErase
  extract_lets -merge -useContext x1
  try clear_value x1
  exact (Within.ite h
    (State.raise_within
      (setDemapper_within h (Within.sub hk (by simp))) (Within.sub hk (by simp)) (Within.sub hk (by simp))))

theorem countWeights_within {K : Nat} {c : Carrier} {block : List SoftPeriod} {s0 s : State} (h : Within K s0 s) (hk : 2475880078570760549798248448 ||| K = K) :
    Within K s0 (countWeights c block s) := by
  unfold countWeights
  extract_lets -merge -useContext x1 x2 x3 x4
  try clear_value x1
  try clear_value x2
  have h3 : Within K s0 x3 := by
    unfold x3
    exact (State.addSat_within h (Within.sub hk (by simp)))
  clear_value x3
  have h4 : Within K s0 x4 := by
    unfold x4
    exact (State.addSat_within h3 (Within.sub hk (by simp)))
  clear_value x4
  exact (State.addSat_within h4 (Within.sub hk (by simp)))

theorem snrLatch_within {K : Nat} {c : Carrier} {s0 s : State} (h : Within K s0 s) (hk : 2475880078570760549806637088 ||| K = K) :
    Within K s0 (snrLatch c s) := by
  unfold snrLatch
  extract_lets -merge -useContext x1 x2 x3 x4 x5 x6 x7
  try clear_value x1
  try clear_value x2
  try clear_value x3
  try clear_value x4
  try clear_value x5
  have h6 : Within K s0 x6 := by
    unfold x6
    exact (setDemapper_within h (Within.sub hk (by simp)))
  clear_value x6
  have h7 : Within K s0 x7 := by
    unfold x7
    exact (State.set_within
      (State.set_within h6 (Within.sub hk (by simp))) (Within.sub hk (by simp)))
  clear_value x7
  exact (Within.ite h
    (State.raiseIf_within h7 (Within.sub hk (by simp)) (Within.sub hk (by simp))))

theorem demapBlock_within {K : Nat} {c : Carrier} {block : List SoftPeriod} {s0 s : State} (h : Within K s0 s) (hk : 17333578420081297215551713568 ||| K = K) :
    Within K s0 (demapBlock c block s) := by
  unfold demapBlock
  extract_lets -merge -useContext x1 x2 x3 x4 x5 x6 x7 x8
  have h1 : Within K s0 x1 := by
    unfold x1
    exact (countWeights_within h (Within.sub hk (by simp)))
  clear_value x1
  try clear_value x2
  have h3 : Within K s0 x3 := by
    unfold x3
    exact (Within.ite (dmpErase_within h1 (Within.sub hk (by simp)))
      (setDemapper_within h1 (Within.sub hk (by simp))))
  clear_value x3
  try clear_value x4
  try clear_value x5
  try clear_value x6
  try clear_value x7
  have h8 : Within K s0 x8 := by
    unfold x8
    exact (State.addSat_within h3 (Within.sub hk (by simp)))
  clear_value x8
  exact (Within.ite (fecUnsynchronised_within
      (dmpErase_within h1 (Within.sub hk (by simp))) (Within.sub hk (by simp)))
    (fecInput_within h8 (Within.sub hk (by simp))))

theorem snrUpdate_within {K : Nat} {c : Carrier} {s0 s : State} (h : Within K s0 s) (hk : 17333578420081297215551713568 ||| K = K) :
    Within K s0 (snrUpdate c s) := by
  unfold snrUpdate
  extract_lets -merge -useContext x1 x2 x3
  try clear_value x1
  try clear_value x2
  have h3 : Within K s0 x3 := by
    unfold x3
    exact (demapBlock_within
      (setDemapper_within h (Within.sub hk (by simp))) hk)
  clear_value x3
  exact (Within.ite h
    (Within.ite h3
      (snrLatch_within
        (setDemapper_within h3 (Within.sub hk (by simp))) (Within.sub hk (by simp)))))

theorem mlsStart_within {K : Nat} {c : Carrier} {s0 s : State} (h : Within K s0 s) (hk : 1237940039285380274907512832 ||| K = K) :
    Within K s0 (mlsStart c s) := by
  unfold mlsStart
  extract_lets -merge -useContext x1 x2
  try clear_value x1
  have h2 : Within K s0 x2 := by
    unfold x2
    exact (setDemapper_within h (Within.sub hk (by simp)))
  clear_value x2
  exact (State.clearAll_within h2 (Within.sub hk (by simp)))

theorem dmpStart_within {K : Nat} {c : Carrier} {s0 s : State} (h : Within K s0 s) (hk : 2475880078570760549806637056 ||| K = K) :
    Within K s0 (dmpStart c s) := by
  unfold dmpStart
  extract_lets -merge -useContext x1 x2
  try clear_value x1
  have h2 : Within K s0 x2 := by
    unfold x2
    exact (setDemapper_within h (Within.sub hk (by simp)))
  clear_value x2
  exact (State.clearAll_within h2 (Within.sub hk (by simp)))

theorem mlsWritten_within {K : Nat} {c : Carrier} {y1 : Nat} {s0 s : State} (h : Within K s0 s) (hk : 1237940039285380274899124224 ||| K = K) :
    Within K s0 (mlsWritten c y1 s) := by
  unfold mlsWritten
  exact (Within.ite (showTails_within h hk)
    h)

end Sys2Proof.Machine
end

