-- ==== Sys2Proof/Laws/CarrierRecovery.lean ====
section
/-! SUPPORT. Laws/CarrierRecovery.lean: the parts of the state that each operation of Machine/CarrierRecovery.lean can change. -/
namespace Sys2Proof.Machine

set_option Elab.async false

open Sys2Proof

theorem setRec_within {K : Nat} {s0 s : State} {c : Carrier} {x : CarrierRec} (h : Within K s0 s) (hk : 4194304 ||| K = K) :
    Within K s0 (setRec s c x) := by
  unfold setRec
  exact (Within.upd_carrierRec h hk _)

theorem leaveWordSync_within {K : Nat} {s0 s : State} {c : Carrier} (h : Within K s0 s) (hk : 2417851639229258886283264 ||| K = K) :
    Within K s0 (leaveWordSync s c) := by
  unfold leaveWordSync
  exact (Within.ite (breakPilot_within
      (State.bump_within
        (State.set_within h (Within.sub hk (by simp))) (Within.sub hk (by simp))) hk)
    h)

theorem endPilotSearch_within {K : Nat} {s0 s : State} {c : Carrier} (h : Within K s0 s) (hk : 2417851639229258886283264 ||| K = K) :
    Within K s0 (endPilotSearch s c) := by
  unfold endPilotSearch
  extract_lets -merge -useContext x1 x2
  have h1 : Within K s0 x1 := by
    unfold x1
    exact (leaveWordSync_within h hk)
  clear_value x1
  try clear_value x2
  exact (Within.upd_qlt h1 (Within.sub hk (by simp)) _)

theorem cprShow_within {K : Nat} {s0 s : State} {c : Carrier} (h : Within K s0 s) (hk : 621387871281919396335845376 ||| K = K) :
    Within K s0 (cprShow s c) := by
  unfold cprShow
  extract_lets -merge -useContext x1 x2 x3 x4
  try clear_value x1
  try clear_value x2
  try clear_value x3
  have h4 : Within K s0 x4 := by
    unfold x4
    exact (State.setFlag_within
      (State.setFlag_within h (Within.sub hk (by simp))) (Within.sub hk (by simp)))
  clear_value x4
  exact (Within.ite (endPilotSearch_within h4 (Within.sub hk (by simp)))
    h4)

theorem cprPass_within {K : Nat} {c : Carrier} {ps : List RxPeriod} {s0 s : State} (h : Within K s0 s) (hk : 8388608 ||| K = K) :
    Within K s0 (cprPass c ps s) := by
  unfold cprPass
  exact (mlsPush_within h hk)

theorem cprPassAll_within {K : Nat} {c : Carrier} {l : List (List RxPeriod)} {s0 s : State} (h : Within K s0 s) (hk : 8388608 ||| K = K) :
    Within K s0 (cprPassAll c l s) := by
  unfold cprPassAll
  exact (Within.foldl _ (fun _ _ h1 => (cprPass_within h1 hk))
    h)

theorem cprFlush_within {K : Nat} {c : Carrier} {s0 s : State} (h : Within K s0 s) (hk : 12582912 ||| K = K) :
    Within K s0 (cprFlush c s) := by
  unfold cprFlush
  extract_lets -merge -useContext x1 x2
  try clear_value x1
  have h2 : Within K s0 x2 := by
    unfold x2
    exact (cprPassAll_within h (Within.sub hk (by simp)))
  clear_value x2
  exact (setRec_within h2 (Within.sub hk (by simp)))

theorem cprUnsynchronise_within {K : Nat} {c : Carrier} {s0 s : State} (h : Within K s0 s) (hk : 17333578420081297215551713568 ||| K = K) :
    Within K s0 (cprUnsynchronise c s) := by
  unfold cprUnsynchronise
  extract_lets -merge -useContext x1 x2
  try clear_value x1
  have h2 : Within K s0 x2 := by
    unfold x2
    exact (setDemapper_within h (Within.sub hk (by simp)))
  clear_value x2
  exact (fecUnsynchronised_within
    (dmpErase_within h2 (Within.sub hk (by simp))) (Within.sub hk (by simp)))

theorem enterCpr_within {K : Nat} {s0 s : State} {c : Carrier} {st : Nat} (h : Within K s0 s) (hk : 17952548439723987353005469984 ||| K = K) :
    Within K s0 (enterCpr s c st) := by
  unfold enterCpr
  extract_lets -merge -useContext x1 x2 x3 x4 x5
  try clear_value x1
  have h2 : Within K s0 x2 := by
    unfold x2
    exact (cprShow_within
      (State.set_within h (Within.sub hk (by simp))) (Within.sub hk (by simp)))
  clear_value x2
  have h3 : Within K s0 x3 := by
    unfold x3
    exact (Within.ite (State.set_within
        (cprFlush_within h2 (Within.sub hk (by simp))) (Within.sub hk (by simp)))
      h2)
  clear_value x3
  try clear_value x4
  have h5 : Within K s0 x5 := by
    unfold x5
    exact (Within.ite (setRec_within h3 (Within.sub hk (by simp)))
      (Within.ite (setRec_within h3 (Within.sub hk (by simp)))
        (setRec_within h3 (Within.sub hk (by simp)))))
  clear_value x5
  exact (Within.ite (cprUnsynchronise_within h5 (Within.sub hk (by simp)))
    h5)

theorem cprTrackEntered_within {K : Nat} {s0 s : State} {c : Carrier} (h : Within K s0 s) (hk : 17952548439723987353005469984 ||| K = K) :
    Within K s0 (cprTrackEntered s c) := by
  unfold cprTrackEntered
  extract_lets -merge -useContext x1
  try clear_value x1
  exact (Within.ite (enterCpr_within
      (setRec_within h (Within.sub hk (by simp))) hk)
    h)

theorem cprTrackLeft_within {K : Nat} {s0 s : State} {c : Carrier} (h : Within K s0 s) (hk : 17952548439723987353005469984 ||| K = K) :
    Within K s0 (cprTrackLeft s c) := by
  unfold cprTrackLeft
  exact (Within.ite h
    (enterCpr_within h hk))

theorem cprRestart_within {K : Nat} {s0 s : State} {c : Carrier} (h : Within K s0 s) (hk : 17952548439723987353005469984 ||| K = K) :
    Within K s0 (cprRestart s c) := by
  unfold cprRestart
  exact (State.bump_within (enterCpr_within h hk) (Within.sub hk (by simp)))

theorem cprSlipMark_within {K : Nat} {c : Carrier} {blocks : Nat} {s0 s : State} (h : Within K s0 s) (hk : 4194304 ||| K = K) :
    Within K s0 (cprSlipMark c blocks s) := by
  unfold cprSlipMark
  extract_lets -merge -useContext x1
  try clear_value x1
  exact (setRec_within h hk)

theorem takeSlip_within {K : Nat} {c : Carrier} {n : Nat} {s0 s : State} (h : Within K s0 s) (hk : 4194304 ||| K = K) :
    Within K s0 (takeSlip c n s) := by
  unfold takeSlip
  extract_lets -merge -useContext x1
  try clear_value x1
  exact (setRec_within h hk)

theorem loadNco_within {K : Nat} {c : Carrier} {fo : Int} {s0 s : State} (h : Within K s0 s) (hk : 618970019642690137453756416 ||| K = K) :
    Within K s0 (loadNco c fo s) := by
  unfold loadNco
  extract_lets -merge -useContext x1 x2
  try clear_value x1
  have h2 : Within K s0 x2 := by
    unfold x2
    exact (setRec_within h (Within.sub hk (by simp)))
  clear_value x2
  exact (State.setInt_within h2 (Within.sub hk (by simp)))

theorem frequencyLoop_within {K : Nat} {c : Carrier} {change : Int} {s0 s : State} (h : Within K s0 s) (hk : 618970019642690137453756416 ||| K = K) :
    Within K s0 (frequencyLoop c change s) := by
  unfold frequencyLoop
  extract_lets -merge -useContext x1 x2 x3
  try clear_value x1
  try clear_value x2
  have h3 : Within K s0 x3 := by
    unfold x3
    exact (setRec_within h (Within.sub hk (by simp)))
  clear_value x3
  exact (State.setInt_within h3 (Within.sub hk (by simp)))

theorem foLock_within {K : Nat} {c : Carrier} {s0 s : State} (h : Within K s0 s) (hk : 17952548439723987353005469984 ||| K = K) :
    Within K s0 (foLock c s) := by
  unfold foLock
  extract_lets -merge -useContext x1 x2
  try clear_value x1
  have h2 : Within K s0 x2 := by
    unfold x2
    exact (State.raiseIf_within
      (State.set_within h (Within.sub hk (by simp))) (Within.sub hk (by simp)) (Within.sub hk (by simp)))
  clear_value x2
  exact (Within.ite (Within.ite (enterCpr_within h2 hk)
      h2)
    h)

theorem foRange_within {K : Nat} {c : Carrier} {s0 s : State} (h : Within K s0 s) (hk : 17952548439723987353005469984 ||| K = K) :
    Within K s0 (foRange c s) := by
  unfold foRange
  exact (Within.ite (State.raise_within (cprRestart_within h hk) (Within.sub hk (by simp)) (Within.sub hk (by simp)))
    h)

theorem pilotPhase_within {K : Nat} {c : Carrier} {s0 s : State} (h : Within K s0 s) (hk : 618970019642690137453756416 ||| K = K) :
    Within K s0 (pilotPhase c s) := by
  unfold pilotPhase
  extract_lets -merge -useContext x1 x2 x3 x4 x5 x6 x7 x8
  try clear_value x1
  try clear_value x2
  try clear_value x3
  try clear_value x4
  try clear_value x6
  try clear_value x7
  try clear_value x8
  exact (Within.ite h
    (frequencyLoop_within
      (setRec_within h (Within.sub hk (by simp))) hk))

theorem pilotPhases_within {K : Nat} {c : Carrier} {n : Nat} {s0 s : State} (h : Within K s0 s)
    (hk : 618970019642690137453756416 ||| K = K) : Within K s0 (pilotPhases c n s) := by
  induction n generalizing s with
  | zero => exact h
  | succ n ih => exact ih (pilotPhase_within h hk)

theorem slipRepaired_within {K : Nat} {c : Carrier} {y : Bool} {q : Int} {n : Nat} {s0 s : State} (h : Within K s0 s) (hk : 618970019642690137453756448 ||| K = K) :
    Within K s0 (slipRepaired c y q n s) := by
  unfold slipRepaired
  extract_lets -merge -useContext x1 x2
  try clear_value x1
  have h2 : Within K s0 x2 := by
    unfold x2
    exact (setRec_within h (Within.sub hk (by simp)))
  clear_value x2
  exact (State.raise_within
    (State.bump_within h2 (Within.sub hk (by simp))) (Within.sub hk (by simp)) (Within.sub hk (by simp)))

theorem slipUnresolved_within {K : Nat} {c : Carrier} {n : Nat} {skip : Nat} {s0 s : State} (h : Within K s0 s) (hk : 618970019642690137453756448 ||| K = K) :
    Within K s0 (slipUnresolved c n skip s) := by
  unfold slipUnresolved
  extract_lets -merge -useContext x1 x2
  try clear_value x1
  have h2 : Within K s0 x2 := by
    unfold x2
    exact (setRec_within h (Within.sub hk (by simp)))
  clear_value x2
  exact (State.raise_within
    (State.bump_within h2 (Within.sub hk (by simp))) (Within.sub hk (by simp)) (Within.sub hk (by simp)))

theorem setRun_within {K : Nat} {s0 s : State} {c : Carrier} {y : Bool} {x : SlipRun} (h : Within K s0 s) (hk : 4194304 ||| K = K) :
    Within K s0 (setRun s c y x) := by
  unfold setRun
  extract_lets -merge -useContext x1
  try clear_value x1
  exact (setRec_within h hk)

theorem judgeQuadrant_within {K : Nat} {c : Carrier} {y : Bool} {q : Int} {s0 s : State} (h : Within K s0 s) (hk : 618970019642690137453756448 ||| K = K) :
    Within K s0 (judgeQuadrant c y q s) := by
  unfold judgeQuadrant
  extract_lets -merge -useContext x1 x2 x3 x4 x5 x6 x7 x8 x9 x10
  try clear_value x1
  have h2 : Within K s0 x2 := by
    unfold x2
    exact (setRun_within h (Within.sub hk (by simp)))
  clear_value x2
  try clear_value x3
  try clear_value x4
  try clear_value x5
  try clear_value x6
  have h7 : Within K s0 x7 := by
    unfold x7
    exact (setRun_within h (Within.sub hk (by simp)))
  clear_value x7
  have h8 : Within K s0 x8 := by
    unfold x8
    exact (Within.ite (slipUnresolved_within h7 hk)
      h7)
  clear_value x8
  try clear_value x9
  have h10 : Within K s0 x10 := by
    unfold x10
    exact (setRun_within h8 (Within.sub hk (by simp)))
  clear_value x10
  exact (Within.ite (Within.ite h2
      (slipUnresolved_within h2 hk))
    (Within.ite (slipRepaired_within h10 hk)
      h8))

theorem growRun_within {K : Nat} {c : Carrier} {y : Bool} {s0 s : State} (h : Within K s0 s) (hk : 4194304 ||| K = K) :
    Within K s0 (growRun c y s) := by
  unfold growRun
  extract_lets -merge -useContext x1
  try clear_value x1
  exact (Within.ite h
    (setRun_within h hk))

theorem reanchor_within {K : Nat} {c : Carrier} {y : Bool} {s0 s : State} (h : Within K s0 s) (hk : 4194304 ||| K = K) :
    Within K s0 (reanchor c y s) := by
  unfold reanchor
  extract_lets -merge -useContext x1 x2 x3
  try clear_value x1
  try clear_value x2
  try clear_value x3
  exact (setRun_within h hk)

theorem trainingSlip_within {K : Nat} {c : Carrier} {y : Bool} {psi : Int} {turns : Int} {s0 s : State} (h : Within K s0 s) (hk : 618970019642690137453756448 ||| K = K) :
    Within K s0 (trainingSlip c y psi turns s) := by
  unfold trainingSlip
  extract_lets -merge -useContext x1 x2
  try clear_value x1
  try clear_value x2
  exact (Within.ite h
    (slipRepaired_within
      (setRun_within h (Within.sub hk (by simp))) hk))

theorem softPilot_within {K : Nat} {c : Carrier} {m : Nat} {y : List Int} {s0 s : State} (h : Within K s0 s) (hk : 4194304 ||| K = K) :
    Within K s0 (softPilot c m y s) := by
  unfold softPilot
  extract_lets -merge -useContext x1 x2 x3 x4
  try clear_value x1
  try clear_value x2
  try clear_value x3
  try clear_value x4
  exact (Within.ite (setRec_within h hk)
    (setRec_within h hk))

theorem pchRecordWrite_within {K : Nat} {c : Carrier} {s0 s : State} (h : Within K s0 s)
    (hk : 618970019642690137587974176 ||| K = K) : Within K s0 (pchRecordWrite c s) := by
  unfold pchRecordWrite
  extract_lets -merge -useContext x1 x2 x3 x4 x5
  have h2 : Within K s0 x2 := setRec_within h (Within.sub hk (by simp))
  clear_value x5 x4 x3 x2 x1
  split
  · exact h
  · extract_lets -merge -useContext x6
    have h6 : x2.dsram.all byteMapWf = true → byteMapWf x6 = true := fun w => writeBytes_wf _ _ _ (get_wf _ 1 w)
    clear_value x6
    exact Within.ite h (Within.ite (State.raise_within (State.bump_within h2 (Within.sub hk (by simp)))
      (Within.sub hk (by simp)) (Within.sub hk (by simp)))
      (State.set_within (Within.upd_dsram h2 (Within.sub hk (by simp)) _ fun w => set_all_wf _ _ _ _ w (h6 w))
        (Within.sub hk (by simp))))

theorem cprRelease_within {K : Nat} {c : Carrier} {n : Nat} {s0 s : State} (h : Within K s0 s)
    (hk : 12582912 ||| K = K) : Within K s0 (cprRelease c n s) := by
  induction n generalizing s with
  | zero => exact h
  | succ n ih =>
    unfold cprRelease
    extract_lets -merge -useContext x1
    clear_value x1
    split
    · exact h
    · exact Within.ite h (ih (cprPass_within (setRec_within h (Within.sub hk (by simp))) (Within.sub hk (by simp))))

theorem detectSlips_within {K : Nat} {c : Carrier} {g : RxSegment} {psi : Int × Int} {s0 s : State} (h : Within K s0 s) (hk : 618970019642690137453756448 ||| K = K) :
    Within K s0 (detectSlips c g psi s) := by
  unfold detectSlips
  extract_lets -merge -useContext x1 x2 x3
  try clear_value x1
  have f2 : ∀ a0 a1 a2 t, Within K s0 t → Within K s0 (x2 a0 a1 a2 t) := by
    unfold x2
    exact fun _ _ _ _ h2 => (Within.ite (setRun_within h2 (Within.sub hk (by simp)))
      (Within.ite (trainingSlip_within h2 hk)
        (judgeQuadrant_within h2 hk)))
  clear_value x2
  have h3 : Within K s0 x3 := by
    unfold x3
    exact (f2 _ _ _ _ h)
  clear_value x3
  exact (Within.ite (setRun_within h3 (Within.sub hk (by simp)))
    (f2 _ _ _ _ h3))

theorem holdSegment_within {K : Nat} {c : Carrier} {g : RxSegment} {now : List AidedSymbol} {bps : List (Int × Int)} {s0 s : State} (h : Within K s0 s) (hk : 618970019642690137462145056 ||| K = K) :
    Within K s0 (holdSegment c g now bps s) := by
  unfold holdSegment
  extract_lets -merge -useContext x1 x2 x3 x4 x5 x6 x7 x8 x9 x10 x11 x12 x13 x14 x15 x16 x17 x18
  try clear_value x1
  try clear_value x2
  try clear_value x3
  try clear_value x5
  try clear_value x6
  try clear_value x7
  have h8 : Within K s0 x8 := by
    unfold x8
    exact (setRec_within h (Within.sub hk (by simp)))
  clear_value x8
  have h9 : Within K s0 x9 := by
    unfold x9
    exact (detectSlips_within h8 (Within.sub hk (by simp)))
  clear_value x9
  try clear_value x10
  try clear_value x11
  try clear_value x13
  try clear_value x14
  have h15 : Within K s0 x15 := by
    unfold x15
    exact (setRec_within h9 (Within.sub hk (by simp)))
  clear_value x15
  have h16 : Within K s0 x16 := by
    unfold x16
    exact (growRun_within
      (growRun_within h15 (Within.sub hk (by simp))) (Within.sub hk (by simp)))
  clear_value x16
  try clear_value x17
  have h18 : Within K s0 x18 := by
    unfold x18
    exact (Within.ite (setRec_within h16 (Within.sub hk (by simp)))
      (softPilot_within h16 (Within.sub hk (by simp))))
  clear_value x18
  exact (cprRelease_within h18 (Within.sub hk (by simp)))

theorem cprPump_within {K : Nat} {c : Carrier} {s0 s : State} (h : Within K s0 s) (hk : 618970019642690137462145056 ||| K = K) :
    Within K s0 (cprPump c s) := by
  unfold cprPump
  extract_lets -merge -useContext x1
  try clear_value x1
  split
  · skip
    extract_lets -merge -useContext x2 x3 x4 x5
    have h2 : Within K s0 x2 := by
      unfold x2
      exact (Within.ite (reanchor_within
          (reanchor_within h (Within.sub hk (by simp))) (Within.sub hk (by simp)))
        h)
    clear_value x2
    try clear_value x3
    try clear_value x4
    try clear_value x5
    exact (Within.ite (holdSegment_within h2 hk)
      h)
  · skip
    exact h

theorem countSigns_within {K : Nat} {c : Carrier} {m : Nat} {wrongX : Bool} {wrongY : Bool} {s0 s : State} (h : Within K s0 s) (hk : 4194304 ||| K = K) :
    Within K s0 (countSigns c m wrongX wrongY s) := by
  unfold countSigns
  extract_lets -merge -useContext x1 x2 x3 x4 x5 x6 x7
  try clear_value x1
  try clear_value x2
  try clear_value x3
  try clear_value x4
  try clear_value x5
  try clear_value x6
  try clear_value x7
  exact (Within.ite (setRec_within h hk)
    (setRec_within h hk))

theorem advanceNco_within {K : Nat} {c : Carrier} {g : RxSegment} {s0 s : State} (h : Within K s0 s) (hk : 4194304 ||| K = K) :
    Within K s0 (advanceNco c g s) := by
  unfold advanceNco
  extract_lets -merge -useContext x1
  try clear_value x1
  exact (setRec_within h hk)

theorem trackPilot_within {K : Nat} {c : Carrier} {m : Nat} {x : List (Int × Int)} {y : List (Int × Int)} {s0 s : State} (h : Within K s0 s) (hk : 618970019642690137462145056 ||| K = K) :
    Within K s0 (trackPilot c m x y s) := by
  unfold trackPilot
  extract_lets -merge -useContext x1 x2 x3 x4 x5 x6 x7 x8 x9 x10 x11
  try clear_value x1
  try clear_value x2
  try clear_value x3
  try clear_value x4
  try clear_value x5
  try clear_value x6
  have h7 : Within K s0 x7 := by
    unfold x7
    exact (advanceNco_within h (Within.sub hk (by simp)))
  clear_value x7
  try clear_value x8
  try clear_value x9
  have h10 : Within K s0 x10 := by
    unfold x10
    exact (pilotPhases_within
      (setRec_within h7 (Within.sub hk (by simp))) (Within.sub hk (by simp)))
  clear_value x10
  try clear_value x11
  exact (cprPump_within
    (countSigns_within h10 (Within.sub hk (by simp))) hk)

theorem passSegment_within {K : Nat} {c : Carrier} {g : RxSegment} {s0 s : State} (h : Within K s0 s) (hk : 8388608 ||| K = K) :
    Within K s0 (passSegment c g s) := by
  unfold passSegment
  exact (cprPass_within h hk)

theorem pilotArrives_within {K : Nat} {c : Carrier} {x : List (Int × Int)} {y : List (Int × Int)} {s0 s : State} (h : Within K s0 s) (hk : 618970019642690137462145056 ||| K = K) :
    Within K s0 (pilotArrives c x y s) := by
  unfold pilotArrives
  extract_lets -merge -useContext x1 x2 x3 x4 x5 x6
  try clear_value x1
  try clear_value x2
  have h5 : Within K s0 x5 := by
    unfold x5
    exact (setRec_within h (Within.sub hk (by simp)))
  clear_value x5
  have h6 : Within K s0 x6 := by
    unfold x6
    exact (Within.ite (passSegment_within h5 (Within.sub hk (by simp)))
      (trackPilot_within h5 hk))
  clear_value x6
  exact (Within.ite h
    (takeSlip_within h6 (Within.sub hk (by simp))))

theorem latchPilots_within {K : Nat} {c : Carrier} {s0 s : State} (h : Within K s0 s) (hk : 618970019642690137453756416 ||| K = K) :
    Within K s0 (latchPilots c s) := by
  unfold latchPilots
  extract_lets -merge -useContext x1 x2 x3
  try clear_value x1
  have h2 : Within K s0 x2 := by
    unfold x2
    exact (State.set_within
      (State.set_within h (Within.sub hk (by simp))) (Within.sub hk (by simp)))
  clear_value x2
  have h3 : Within K s0 x3 := by
    unfold x3
    exact (Within.ite h2
      (State.set_within h2 (Within.sub hk (by simp))))
  clear_value x3
  exact (setRec_within h3 (Within.sub hk (by simp)))

theorem trainingState_within {K : Nat} {c : Carrier} {x : List (Int × Int)} {y : List (Int × Int)} {okX : Nat} {okY : Nat} {frame : Nat × Nat} {s0 s : State} (h : Within K s0 s) (hk : 17952548439723987353005469984 ||| K = K) :
    Within K s0 (trainingState c x y okX okY frame s) := by
  unfold trainingState
  extract_lets -merge -useContext x1 x2 x3 x4 x5
  try clear_value x1
  try clear_value x2
  try clear_value x3
  try clear_value x4
  have h5 : Within K s0 x5 := by
    unfold x5
    exact (setRec_within h (Within.sub hk (by simp)))
  clear_value x5
  exact (Within.ite (Within.ite (enterCpr_within
        (loadNco_within h (Within.sub hk (by simp))) hk)
      (State.raiseIf_within
        (State.bump_within h (Within.sub hk (by simp))) (Within.sub hk (by simp)) (Within.sub hk (by simp))))
    (Within.ite (Within.ite (cprRestart_within h hk)
        h)
      (Within.ite (Within.ite (State.raise_within (enterCpr_within h hk) (Within.sub hk (by simp)) (Within.sub hk (by simp)))
          (Within.ite (cprRestart_within h hk)
            h))
        (Within.ite (State.raise_within (enterCpr_within h5 hk) (Within.sub hk (by simp)) (Within.sub hk (by simp)))
          h5))))

theorem trainingEnters_within {K : Nat} {c : Carrier} {g : RxSegment} {okX : Nat} {okY : Nat} {last : Int × Int} {s0 s : State} (h : Within K s0 s) (hk : 618970019642690137462145056 ||| K = K) :
    Within K s0 (trainingEnters c g okX okY last s) := by
  unfold trainingEnters
  extract_lets -merge -useContext x1 x2 x3 x4 x5
  have h1 : Within K s0 x1 := by
    unfold x1
    exact (State.set_within
      (State.set_within h (Within.sub hk (by simp))) (Within.sub hk (by simp)))
  clear_value x1
  try clear_value x2
  try clear_value x3
  try clear_value x4
  try clear_value x5
  exact (Within.ite (passSegment_within
      (setRec_within h1 (Within.sub hk (by simp))) (Within.sub hk (by simp)))
    (cprPump_within
      (advanceNco_within
        (setRec_within h1 (Within.sub hk (by simp))) (Within.sub hk (by simp))) hk))

theorem trainingBlock_within {K : Nat} {c : Carrier} {x : List (Int × Int)} {y : List (Int × Int)} {s0 s : State} (h : Within K s0 s) (hk : 17952548439723987353005469984 ||| K = K) :
    Within K s0 (trainingBlock c x y s) := by
  unfold trainingBlock
  extract_lets -merge -useContext x1 x2 x3 x4 x5 x6 x7
  try clear_value x3
  try clear_value x4
  try clear_value x5
  try clear_value x6
  have h7 : Within K s0 x7 := by
    unfold x7
    exact (trainingEnters_within
      (latchPilots_within h (Within.sub hk (by simp))) (Within.sub hk (by simp)))
  clear_value x7
  exact (Within.ite h
    (takeSlip_within (trainingState_within h7 hk) (Within.sub hk (by simp))))

theorem cprStart_within {K : Nat} {c : Carrier} {s0 s : State} (h : Within K s0 s) (hk : 618970019642690137453756416 ||| K = K) :
    Within K s0 (cprStart c s) := by
  unfold cprStart
  extract_lets -merge -useContext x1 x2
  have h1 : Within K s0 x1 := by
    unfold x1
    exact (State.clearAll_within h (Within.sub hk (by simp)))
  clear_value x1
  try clear_value x2
  exact (setRec_within h1 (Within.sub hk (by simp)))

theorem cprWritten_within {K : Nat} {c : Carrier} {y1 : Nat} {old : Word} {new : Word} {s0 s : State} (h : Within K s0 s) (hk : 621387871281919396335845376 ||| K = K) :
    Within K s0 (cprWritten c y1 old new s) := by
  unfold cprWritten
  exact (Within.ite (cprShow_within h hk)
    (Within.ite (Within.ite (State.clearAll_within h (Within.sub hk (by simp)))
        h)
      h))

end Sys2Proof.Machine
end

