-- ==== Sys2Proof/Laws/Equalisation.lean ====
section
/-! SUPPORT. Laws/Equalisation.lean: the parts of the state that each operation of Machine/Equalisation.lean can change. -/
namespace Sys2Proof.Machine

set_option Elab.async false

open Sys2Proof

theorem setDispersion_within {K : Nat} {s0 s : State} {c : Carrier} {x : Dispersion} (h : Within K s0 s) (hk : 16777216 ||| K = K) :
    Within K s0 (setDispersion s c x) := by
  unfold setDispersion
  exact (Within.upd_dispersion h hk _)

theorem setEqualiser_within {K : Nat} {s0 s : State} {c : Carrier} {x : Equaliser} (h : Within K s0 s) (hk : 33554432 ||| K = K) :
    Within K s0 (setEqualiser s c x) := by
  unfold setEqualiser
  exact (Within.upd_equaliser h hk _)

theorem showCd_within {K : Nat} {s0 s : State} {c : Carrier} (h : Within K s0 s) (hk : 77371252455336267181195264 ||| K = K) :
    Within K s0 (showCd s c) := by
  unfold showCd
  extract_lets -merge -useContext x1 x2
  try clear_value x1
  have h2 : Within K s0 x2 := by
    unfold x2
    exact (State.setInt_within h (Within.sub hk (by simp)))
  clear_value x2
  exact (State.set_within h2 (Within.sub hk (by simp)))

theorem setBase_within {K : Nat} {c : Carrier} {cd : Int} {s0 s : State} (h : Within K s0 s) (hk : 77371252455336267197972512 ||| K = K) :
    Within K s0 (setBase c cd s) := by
  unfold setBase
  extract_lets -merge -useContext x1 x2 x3 x4
  try clear_value x1
  try clear_value x2
  try clear_value x3
  have h4 : Within K s0 x4 := by
    unfold x4
    exact (setDispersion_within h (Within.sub hk (by simp)))
  clear_value x4
  exact (State.raiseIf_within
    (showCd_within h4 (Within.sub hk (by simp))) (Within.sub hk (by simp)) (Within.sub hk (by simp)))

theorem cdMove_within {K : Nat} {c : Carrier} {d : Int} {s0 s : State} (h : Within K s0 s) (hk : 77371252455336267197972512 ||| K = K) :
    Within K s0 (cdMove c d s) := by
  unfold cdMove
  extract_lets -merge -useContext x1 x2 x3
  try clear_value x1
  try clear_value x2
  try clear_value x3
  exact (Within.ite (State.raise_within h (Within.sub hk (by simp)) (Within.sub hk (by simp)))
    (showCd_within
      (setDispersion_within h (Within.sub hk (by simp))) (Within.sub hk (by simp))))

theorem setTap_within {K : Nat} {s0 s : State} {c : Carrier} {k : Nat} {v : Int × Int} (h : Within K s0 s) (hk : 33554432 ||| K = K) :
    Within K s0 (setTap s c k v) := by
  unfold setTap
  extract_lets -merge -useContext x1
  try clear_value x1
  exact (setEqualiser_within h hk)

theorem setBankMode_within {K : Nat} {s0 s : State} {c : Carrier} {b : Nat} {v : Nat} (h : Within K s0 s) (hk : 154742504910672534362390528 ||| K = K) :
    Within K s0 (setBankMode s c b v) := by
  unfold setBankMode
  exact (State.set_within h (Within.sub hk (by simp)))

theorem initBank_within {K : Nat} {c : Carrier} {b : Nat} {s0 s : State} (h : Within K s0 s) (hk : 154742504910672534395944960 ||| K = K) :
    Within K s0 (initBank c b s) := by
  unfold initBank
  extract_lets -merge -useContext x1 x2
  try clear_value x1
  have h2 : Within K s0 x2 := by
    unfold x2
    exact (setEqualiser_within h (Within.sub hk (by simp)))
  clear_value x2
  exact (setBankMode_within h2 (Within.sub hk (by simp)))

theorem copyBank_within {K : Nat} {c : Carrier} {s0 s : State} (h : Within K s0 s) (hk : 154742504910672534395944960 ||| K = K) :
    Within K s0 (copyBank c s) := by
  unfold copyBank
  extract_lets -merge -useContext x1 x2
  try clear_value x1
  have h2 : Within K s0 x2 := by
    unfold x2
    exact (Within.foldl _ (fun _ _ h3 => (setTap_within h3 (Within.sub hk (by simp))))
      h)
  clear_value x2
  exact (setBankMode_within h2 (Within.sub hk (by simp)))

theorem swapRows_within {K : Nat} {c : Carrier} {s0 s : State} (h : Within K s0 s) (hk : 154742504910672534395944960 ||| K = K) :
    Within K s0 (swapRows c s) := by
  unfold swapRows
  extract_lets -merge -useContext x1 x2
  try clear_value x1
  have h2 : Within K s0 x2 := by
    unfold x2
    exact (Within.foldl _ (fun _ _ h3 => (by
        extract_lets -merge -useContext x4 x5
        try clear_value x4
        try clear_value x5
        exact (setTap_within
          (setTap_within h3 (Within.sub hk (by simp))) (Within.sub hk (by simp)))))
      h)
  clear_value x2
  exact (State.set_within h2 (Within.sub hk (by simp)))

theorem abortFade_within {K : Nat} {c : Carrier} {s0 s : State} (h : Within K s0 s) (hk : 154742504910672534362390560 ||| K = K) :
    Within K s0 (abortFade c s) := by
  unfold abortFade
  extract_lets -merge -useContext x1
  have h1 : Within K s0 x1 := by
    unfold x1
    exact (Within.ite (State.bump_within
        (State.set_within h (Within.sub hk (by simp))) (Within.sub hk (by simp)))
      h)
  clear_value x1
  exact (Within.ite (fadeEnd_within h1 (Within.sub hk (by simp)) (Within.sub hk (by simp)))
    h)

theorem shadowSnap_within {K : Nat} {c : Carrier} {s0 s : State} (h : Within K s0 s) (hk : 154742504910672534395944992 ||| K = K) :
    Within K s0 (shadowSnap c s) := by
  unfold shadowSnap
  extract_lets -merge -useContext x1 x2 x3 x4
  try clear_value x1
  try clear_value x3
  have h4 : Within K s0 x4 := by
    unfold x4
    exact (setEqualiser_within h (Within.sub hk (by simp)))
  clear_value x4
  exact (State.raise_within
    (State.set_within h4 (Within.sub hk (by simp))) (Within.sub hk (by simp)) (Within.sub hk (by simp)))

theorem coefAdvance_within {K : Nat} {c : Carrier} {s0 s : State} (h : Within K s0 s) (hk : 154742504910672534362390528 ||| K = K) :
    Within K s0 (coefAdvance c s) := by
  unfold coefAdvance
  extract_lets -merge -useContext x1
  try clear_value x1
  exact (Within.ite (State.set_within h (Within.sub hk (by simp)))
    (State.addWrap_within
      (State.set_within h (Within.sub hk (by simp))) (Within.sub hk (by simp))))

theorem coefWrite_within {K : Nat} {c : Carrier} {w : Word} {s0 s : State} (h : Within K s0 s) (hk : 154742504910672534395944960 ||| K = K) :
    Within K s0 (coefWrite c w s) := by
  unfold coefWrite
  extract_lets -merge -useContext x1 x2
  try clear_value x1
  try clear_value x2
  exact (coefAdvance_within
    (setBankMode_within
      (setTap_within h (Within.sub hk (by simp))) (Within.sub hk (by simp))) (Within.sub hk (by simp)))

theorem leaveTrack_within {K : Nat} {c : Carrier} {s0 s : State} (h : Within K s0 s) (hk : 18107290944634659887367860512 ||| K = K) :
    Within K s0 (leaveTrack c s) := by
  unfold leaveTrack
  extract_lets -merge -useContext x1 x2
  have h1 : Within K s0 x1 := by
    unfold x1
    exact (State.raise_within
      (State.bump_within h (Within.sub hk (by simp))) (Within.sub hk (by simp)) (Within.sub hk (by simp)))
  clear_value x1
  have h2 : Within K s0 x2 := by
    unfold x2
    exact (State.clearAll_within h1 (Within.sub hk (by simp)))
  clear_value x2
  exact (cprTrackLeft_within h2 (Within.sub hk (by simp)))

theorem enterAcq_within {K : Nat} {c : Carrier} {st : Nat} {s0 s : State} (h : Within K s0 s) (hk : 18416775954456004956142973216 ||| K = K) :
    Within K s0 (enterAcq c st s) := by
  unfold enterAcq
  extract_lets -merge -useContext x1 x2 x3 x4 x5 x6 x7
  have h1 : Within K s0 x1 := by
    unfold x1
    exact (Within.ite (leaveTrack_within h (Within.sub hk (by simp)))
      h)
  clear_value x1
  have h2 : Within K s0 x2 := by
    unfold x2
    exact (State.set_within h1 (Within.sub hk (by simp)))
  clear_value x2
  have h3 : Within K s0 x3 := by
    unfold x3
    exact (State.setFlag_within h2 (Within.sub hk (by simp)))
  clear_value x3
  try clear_value x4
  have h5 : Within K s0 x5 := by
    unfold x5
    exact (setEqualiser_within h3 (Within.sub hk (by simp)))
  clear_value x5
  try clear_value x6
  have h7 : Within K s0 x7 := by
    unfold x7
    exact (setDispersion_within h5 (Within.sub hk (by simp)))
  clear_value x7
  exact (Within.ite (cprTrackEntered_within
      (State.raise_within
        (State.set_within h7 (Within.sub hk (by simp))) (Within.sub hk (by simp)) (Within.sub hk (by simp))) (Within.sub hk (by simp)))
    h7)

theorem enterBlind_within {K : Nat} {c : Carrier} {s0 s : State} (h : Within K s0 s) (hk : 18416775954456004956142973216 ||| K = K) :
    Within K s0 (enterBlind c s) := by
  unfold enterBlind
  extract_lets -merge -useContext x1
  have h1 : Within K s0 x1 := by
    unfold x1
    exact (abortFade_within h (Within.sub hk (by simp)))
  clear_value x1
  exact (enterAcq_within
    (initBank_within h1 (Within.sub hk (by simp))) hk)

theorem timingDone_within {K : Nat} {c : Carrier} {s0 s : State} (h : Within K s0 s) (hk : 18416775954456004956142973216 ||| K = K) :
    Within K s0 (timingDone c s) := by
  unfold timingDone
  extract_lets -merge -useContext x1
  try clear_value x1
  exact (Within.ite (Within.ite (enterAcq_within h hk)
      (enterBlind_within
        (setEqualiser_within h (Within.sub hk (by simp))) hk))
    h)

theorem coldStart_within {K : Nat} {c : Carrier} {s0 s : State} (h : Within K s0 s) (hk : 18494147206911341223324168480 ||| K = K) :
    Within K s0 (coldStart c s) := by
  unfold coldStart
  extract_lets -merge -useContext x1 x2
  try clear_value x1
  have h2 : Within K s0 x2 := by
    unfold x2
    exact (setEqualiser_within h (Within.sub hk (by simp)))
  clear_value x2
  exact (Within.ite (timingDone_within
      (enterAcq_within
        (setBase_within h2 (Within.sub hk (by simp))) (Within.sub hk (by simp))) (Within.sub hk (by simp)))
    (enterAcq_within h2 (Within.sub hk (by simp))))

theorem acqRestart_within {K : Nat} {c : Carrier} {s0 s : State} (h : Within K s0 s) (hk : 18494147206911341223324168480 ||| K = K) :
    Within K s0 (acqRestart c s) := by
  unfold acqRestart
  extract_lets -merge -useContext x1
  have h1 : Within K s0 x1 := by
    unfold x1
    exact (Within.ite (abortFade_within h (Within.sub hk (by simp)))
      h)
  clear_value x1
  exact (Within.ite h
    (coldStart_within
      (State.raise_within
        (State.bump_within h1 (Within.sub hk (by simp))) (Within.sub hk (by simp)) (Within.sub hk (by simp))) hk))

theorem acqToIdle_within {K : Nat} {c : Carrier} {s0 s : State} (h : Within K s0 s) (hk : 18416775954456004956142973216 ||| K = K) :
    Within K s0 (acqToIdle c s) := by
  unfold acqToIdle
  exact (Within.ite h
    (enterAcq_within h hk))

theorem lanesLose_within {K : Nat} {c : Carrier} {s0 s : State} (h : Within K s0 s) (hk : 18421611657734463472841797920 ||| K = K) :
    Within K s0 (lanesLose c s) := by
  unfold lanesLose
  exact (Within.ite h
    (acqToIdle_within
      (laneClockLoss_within h (Within.sub hk (by simp))) (Within.sub hk (by simp))))

theorem acqBegin_within {K : Nat} {c : Carrier} {s0 s : State} (h : Within K s0 s) (hk : 18494147206911341223324168480 ||| K = K) :
    Within K s0 (acqBegin c s) := by
  unfold acqBegin
  extract_lets -merge -useContext x1 x2 x3 x4
  try clear_value x1
  try clear_value x2
  have h3 : Within K s0 x3 := by
    unfold x3
    exact (setEqualiser_within h (Within.sub hk (by simp)))
  clear_value x3
  try clear_value x4
  exact (Within.ite (Within.ite (timingDone_within
        (enterAcq_within
          (setEqualiser_within h3 (Within.sub hk (by simp))) (Within.sub hk (by simp))) (Within.sub hk (by simp)))
      (coldStart_within h3 hk))
    h)

theorem scanStart_within {K : Nat} {c : Carrier} {s0 s : State} (h : Within K s0 s) (hk : 16777216 ||| K = K) :
    Within K s0 (scanStart c s) := by
  unfold scanStart
  extract_lets -merge -useContext x1
  try clear_value x1
  exact (Within.ite (setDispersion_within h hk)
    h)

theorem scanComplete_within {K : Nat} {c : Carrier} {coarse : List Nat} {fine : List Nat} {s0 s : State} (h : Within K s0 s) (hk : 18494147206911341223324168480 ||| K = K) :
    Within K s0 (scanComplete c coarse fine s) := by
  unfold scanComplete
  extract_lets -merge -useContext x1 x2 x3 x4 x5 x6 x7 x8 x9 x10 x11 x12 x13 x14 x15 x16 x17 x18 x19
  try clear_value x1
  try clear_value x2
  try clear_value x3
  try clear_value x4
  try clear_value x5
  try clear_value x6
  try clear_value x7
  try clear_value x8
  try clear_value x9
  try clear_value x10
  try clear_value x11
  try clear_value x12
  try clear_value x13
  try clear_value x14
  have h15 : Within K s0 x15 := by
    unfold x15
    exact (State.set_within
      (State.set_within h (Within.sub hk (by simp))) (Within.sub hk (by simp)))
  clear_value x15
  have h16 : Within K s0 x16 := by
    unfold x16
    exact (State.setFlag_within h15 (Within.sub hk (by simp)))
  clear_value x16
  have h17 : Within K s0 x17 := by
    unfold x17
    exact (State.set_within
      (State.setInt_within h16 (Within.sub hk (by simp))) (Within.sub hk (by simp)))
  clear_value x17
  have h18 : Within K s0 x18 := by
    unfold x18
    exact (State.raiseIf_within h17 (Within.sub hk (by simp)) (Within.sub hk (by simp)))
  clear_value x18
  have h19 : Within K s0 x19 := by
    unfold x19
    exact (setBase_within h18 (Within.sub hk (by simp)))
  clear_value x19
  exact (Within.ite (Within.ite (timingDone_within
        (enterAcq_within
          (State.raise_within h19 (Within.sub hk (by simp)) (Within.sub hk (by simp))) (Within.sub hk (by simp))) (Within.sub hk (by simp)))
      (acqRestart_within
        (State.raise_within
          (State.set_within h16 (Within.sub hk (by simp))) (Within.sub hk (by simp)) (Within.sub hk (by simp))) hk))
    h)

theorem cdTrackStep_within {K : Nat} {c : Carrier} {s0 s : State} (h : Within K s0 s) (hk : 77371252455336267197972512 ||| K = K) :
    Within K s0 (cdTrackStep c s) := by
  unfold cdTrackStep
  extract_lets -merge -useContext x1 x2
  try clear_value x1
  try clear_value x2
  exact (Within.ite (by
      split
      · skip
        exact (Within.ite (setDispersion_within h (Within.sub hk (by simp)))
          (cdMove_within h hk))
      · skip
        exact (Within.ite (cdMove_within h hk)
          h))
    h)

theorem cdSetWritten_within {K : Nat} {c : Carrier} {s0 s : State} (h : Within K s0 s) (hk : 77371252455336267197972512 ||| K = K) :
    Within K s0 (cdSetWritten c s) := by
  unfold cdSetWritten
  extract_lets -merge -useContext x1
  try clear_value x1
  exact (Within.ite (setDispersion_within h (Within.sub hk (by simp)))
    (setBase_within h hk))

theorem rxSlip_within {K : Nat} {c : Carrier} {s0 s : State} (h : Within K s0 s) (hk : 77371252455406635946344992 ||| K = K) :
    Within K s0 (rxSlip c s) := by
  unfold rxSlip
  extract_lets -merge -useContext x1 x2 x3
  have h1 : Within K s0 x1 := by
    unfold x1
    exact (State.countFabric_within
      (State.noteSlip_within
        (State.raise_within
          (State.bump_within h (Within.sub hk (by simp))) (Within.sub hk (by simp)) (Within.sub hk (by simp))) (Within.sub hk (by simp))) (Within.sub hk (by simp)))
  clear_value x1
  try clear_value x2
  try clear_value x3
  exact (Within.ite h
    (cprSlipMark_within
      (setDispersion_within h1 (Within.sub hk (by simp))) (Within.sub hk (by simp))))

theorem rxSlipInstant_within {K : Nat} {c : Carrier} {s0 s : State} (h : Within K s0 s) (hk : 77371252455406635948442144 ||| K = K) :
    Within K s0 (rxSlipInstant c s) := by
  unfold rxSlipInstant
  exact (Within.ite (rxSlip_within
      (slipSignalled_within h (Within.sub hk (by simp))) (Within.sub hk (by simp)))
    h)

theorem holdLoop_within {K : Nat} {c : Carrier} {s0 s : State} (h : Within K s0 s) (hk : 309485009821345068741558272 ||| K = K) :
    Within K s0 (holdLoop c s) := by
  unfold holdLoop
  extract_lets -merge -useContext x1 x2
  try clear_value x1
  have h2 : Within K s0 x2 := by
    unfold x2
    exact (State.setFlag_within h (Within.sub hk (by simp)))
  clear_value x2
  exact (setDispersion_within h2 (Within.sub hk (by simp)))

theorem rxBlock_within {K : Nat} {c : Carrier} {s0 s : State} (h : Within K s0 s) (hk : 309485009821345068777209856 ||| K = K) :
    Within K s0 (rxBlock c s) := by
  unfold rxBlock
  extract_lets -merge -useContext x1 x2
  try clear_value x1
  try clear_value x2
  exact (Within.ite (holdLoop_within
      (lanesTake_within
        (setEqualiser_within h (Within.sub hk (by simp))) (Within.sub hk (by simp))) (Within.sub hk (by simp)))
    h)

theorem timingLock_within {K : Nat} {c : Carrier} {ofs : Int} {s0 s : State} (h : Within K s0 s) (hk : 18416775954456004956142973216 ||| K = K) :
    Within K s0 (timingLock c ofs s) := by
  unfold timingLock
  extract_lets -merge -useContext x1 x2 x3
  try clear_value x1
  have h2 : Within K s0 x2 := by
    unfold x2
    exact (State.set_within
      (State.setInt_within h (Within.sub hk (by simp))) (Within.sub hk (by simp)))
  clear_value x2
  have h3 : Within K s0 x3 := by
    unfold x3
    exact (State.raiseIf_within
      (State.set_within h2 (Within.sub hk (by simp))) (Within.sub hk (by simp)) (Within.sub hk (by simp)))
  clear_value x3
  exact (Within.ite (timingDone_within h3 hk)
    h)

theorem lockClears_within {K : Nat} {c : Carrier} {s0 s : State} (h : Within K s0 s) (hk : 309485009821345068724781088 ||| K = K) :
    Within K s0 (lockClears c s) := by
  unfold lockClears
  exact (Within.ite (State.raise_within
      (State.bump_within
        (State.set_within h (Within.sub hk (by simp))) (Within.sub hk (by simp))) (Within.sub hk (by simp)) (Within.sub hk (by simp)))
    h)

theorem timingLost_within {K : Nat} {c : Carrier} {ofs : Option Int} {s0 s : State} (h : Within K s0 s) (hk : 18416775954456004956142973216 ||| K = K) :
    Within K s0 (timingLost c ofs s) := by
  unfold timingLost
  extract_lets -merge -useContext x1 x2 x3
  have h1 : Within K s0 x1 := by
    unfold x1
    split
    · skip
      extract_lets -merge -useContext x4
      have h4 : Within K s0 x4 := by
        unfold x4
        exact (State.setInt_within h (Within.sub hk (by simp)))
      clear_value x4
      exact (Within.ite (State.raise_within
          (State.set_within h4 (Within.sub hk (by simp))) (Within.sub hk (by simp)) (Within.sub hk (by simp)))
        h4)
    · skip
      exact h
  clear_value x1
  have h2 : Within K s0 x2 := by
    unfold x2
    exact (lockClears_within h1 (Within.sub hk (by simp)))
  clear_value x2
  try clear_value x3
  exact (Within.ite (Within.ite (enterAcq_within
        (setEqualiser_within h2 (Within.sub hk (by simp))) hk)
      h2)
    h)

theorem autoSkew_within {K : Nat} {c : Carrier} {est : List Int} {s0 s : State} (h : Within K s0 s) (hk : 309787315065477920181977136 ||| K = K) :
    Within K s0 (autoSkew c est s) := by
  unfold autoSkew
  exact (Within.ite (Within.foldl _ (fun _ _ h1 => (by
        extract_lets -merge -useContext x2 x3
        try clear_value x2
        try clear_value x3
        exact (Within.ite (State.raiseIf_within
            (hardwareWrite_within h1 (Within.sub hk (by simp)) (Within.sub hk (by simp))) (Within.sub hk (by simp)) (Within.sub hk (by simp)))
          h1)))
      h)
    h)

theorem lmsUpdate_within {K : Nat} {c : Carrier} {grads : List (Int × Int)} {s0 s : State} (h : Within K s0 s) (hk : 154742504911798434302787584 ||| K = K) :
    Within K s0 (lmsUpdate c grads s) := by
  unfold lmsUpdate
  extract_lets -merge -useContext x1 x2 x3 x4 x5 x6 x7 x8 x9
  try clear_value x1
  try clear_value x2
  try clear_value x3
  have h4 : Within K s0 x4 := by
    unfold x4
    exact (setEqualiser_within h (Within.sub hk (by simp)))
  clear_value x4
  try clear_value x6
  try clear_value x7
  try clear_value x8
  have h9 : Within K s0 x9 := by
    unfold x9
    exact (Within.foldl _ (fun _ _ h10 => (by
        extract_lets -merge -useContext x11 x12 x13
        try clear_value x11
        try clear_value x12
        try clear_value x13
        exact (setTap_within
          (State.drawn_within
            (State.drawn_within h10 (Within.sub hk (by simp))) (Within.sub hk (by simp))) (Within.sub hk (by simp)))))
      h4)
  clear_value x9
  exact (Within.ite h4
    (Within.ite h9
      (setBankMode_within h9 (Within.sub hk (by simp)))))

theorem singularity_within {K : Nat} {c : Carrier} {corr : Nat} {cost : Nat} {s0 s : State} (h : Within K s0 s) (hk : 154742504910672534395944992 ||| K = K) :
    Within K s0 (singularity c corr cost s) := by
  unfold singularity
  extract_lets -merge -useContext x1
  have h1 : Within K s0 x1 := by
    unfold x1
    exact (State.set_within h (Within.sub hk (by simp)))
  clear_value x1
  exact (Within.ite (Within.ite (State.raise_within
        (State.bump_within
          (initBank_within h1 (Within.sub hk (by simp))) (Within.sub hk (by simp))) (Within.sub hk (by simp)) (Within.sub hk (by simp)))
      h1)
    h)

theorem blindConverged_within {K : Nat} {c : Carrier} {cost : Nat} {s0 s : State} (h : Within K s0 s) (hk : 18416775954456004956142973216 ||| K = K) :
    Within K s0 (blindConverged c cost s) := by
  unfold blindConverged
  exact (Within.ite (enterAcq_within
      (State.set_within h (Within.sub hk (by simp))) hk)
    h)

theorem channelEstimate_within {K : Nat} {c : Carrier} {s0 s : State} (h : Within K s0 s) (hk : 154742504910672534395944960 ||| K = K) :
    Within K s0 (channelEstimate c s) := by
  unfold channelEstimate
  extract_lets -merge -useContext x1 x2 x3 x4 x5 x6
  try clear_value x1
  try clear_value x2
  have h6 : Within K s0 x6 := by
    unfold x6
    exact (setEqualiser_within h (Within.sub hk (by simp)))
  clear_value x6
  exact (Within.ite (State.setInt_within
      (State.set_within
        (State.set_within h6 (Within.sub hk (by simp))) (Within.sub hk (by simp))) (Within.sub hk (by simp)))
    h)

theorem trainingHit_within {K : Nat} {c : Carrier} {index : Nat} {s0 s : State} (h : Within K s0 s) (hk : 18416775954456004956142973216 ||| K = K) :
    Within K s0 (trainingHit c index s) := by
  unfold trainingHit
  extract_lets -merge -useContext x1 x2
  try clear_value x1
  try clear_value x2
  exact (Within.ite (Within.ite (enterAcq_within h hk)
      (setEqualiser_within h (Within.sub hk (by simp))))
    (Within.ite (setEqualiser_within h (Within.sub hk (by simp)))
      h))

theorem trainingMiss_within {K : Nat} {c : Carrier} {s0 s : State} (h : Within K s0 s) (hk : 18416775954456004956142973216 ||| K = K) :
    Within K s0 (trainingMiss c s) := by
  unfold trainingMiss
  extract_lets -merge -useContext x1 x2
  try clear_value x1
  have h2 : Within K s0 x2 := by
    unfold x2
    exact (setEqualiser_within
      (State.bump_within h (Within.sub hk (by simp))) (Within.sub hk (by simp)))
  clear_value x2
  exact (Within.ite (Within.ite (enterAcq_within h2 hk)
      h2)
    (setEqualiser_within h (Within.sub hk (by simp))))

theorem trainingDetect_within {K : Nat} {c : Carrier} {x : Option (Carrier × Bool)} {y : Option (Carrier × Bool)} {index : Nat} {s0 s : State} (h : Within K s0 s) (hk : 18416775954456004956142973216 ||| K = K) :
    Within K s0 (trainingDetect c x y index s) := by
  unfold trainingDetect
  extract_lets -merge -useContext x1 x2
  try clear_value x1
  try clear_value x2
  exact (Within.ite h
    (Within.ite (Within.ite (trainingMiss_within h hk)
        (trainingHit_within h hk))
      (Within.ite (Within.ite (trainingHit_within
            (swapRows_within h (Within.sub hk (by simp))) hk)
          (trainingMiss_within h hk))
        (Within.ite (trainingMiss_within
            (State.raise_within
              (State.set_within h (Within.sub hk (by simp))) (Within.sub hk (by simp)) (Within.sub hk (by simp))) hk)
          (trainingMiss_within h hk)))))

theorem acqTimeout_within {K : Nat} {c : Carrier} {s0 s : State} (h : Within K s0 s) (hk : 18494147206911341223324168480 ||| K = K) :
    Within K s0 (acqTimeout c s) := by
  unfold acqTimeout
  extract_lets -merge -useContext x1 x2
  try clear_value x1
  try clear_value x2
  exact (Within.ite h (Within.ite (acqRestart_within h hk)
    (Within.ite (Within.ite (acqRestart_within h hk)
        (enterBlind_within
          (setEqualiser_within h (Within.sub hk (by simp))) (Within.sub hk (by simp))))
      h)))

theorem cdcStart_within {K : Nat} {c : Carrier} {s0 s : State} (h : Within K s0 s) (hk : 77371252455336267181195264 ||| K = K) :
    Within K s0 (cdcStart c s) := by
  unfold cdcStart
  extract_lets -merge -useContext x1
  have h1 : Within K s0 x1 := by
    unfold x1
    exact (State.set_within h (Within.sub hk (by simp)))
  clear_value x1
  exact (showCd_within
    (State.set_within h1 (Within.sub hk (by simp))) hk)

theorem trcStart_within {K : Nat} {c : Carrier} {s0 s : State} (h : Within K s0 s) (hk : 309485009821345068724781056 ||| K = K) :
    Within K s0 (trcStart c s) := by
  unfold trcStart
  exact (State.clearAll_within h (Within.sub hk (by simp)))

theorem eqzStart_within {K : Nat} {c : Carrier} {s0 s : State} (h : Within K s0 s) (hk : 154742504910672534362390528 ||| K = K) :
    Within K s0 (eqzStart c s) := by
  unfold eqzStart
  exact (State.clearAll_within h (Within.sub hk (by simp)))

theorem eqzStop_within {K : Nat} {c : Carrier} {s0 s : State} (h : Within K s0 s) (hk : 18416775954456004956142973216 ||| K = K) :
    Within K s0 (eqzStop c s) := by
  unfold eqzStop
  exact (acqToIdle_within
    (abortFade_within h (Within.sub hk (by simp))) hk)

theorem trcStop_within {K : Nat} {c : Carrier} {s0 s : State} (h : Within K s0 s) (hk : 18416775954456004956142973216 ||| K = K) :
    Within K s0 (trcStop c s) := by
  unfold trcStop
  exact (lockClears_within (acqToIdle_within h hk) (Within.sub hk (by simp)))

theorem cdcWritten_within {K : Nat} {c : Carrier} {y1 : Nat} {s0 s : State} (h : Within K s0 s) (hk : 77371252455336267197972512 ||| K = K) :
    Within K s0 (cdcWritten c y1 s) := by
  unfold cdcWritten
  exact (Within.ite (cdSetWritten_within h hk)
    h)

theorem eqzWritten_within {K : Nat} {c : Carrier} {y1 : Nat} {new : Word} {s0 s : State} (h : Within K s0 s) (hk : 18494147206911341223324168480 ||| K = K) :
    Within K s0 (eqzWritten c y1 new s) := by
  unfold eqzWritten
  extract_lets -merge -useContext x1 x2
  have h1 : Within K s0 x1 := by
    unfold x1
    exact (Within.ite (initBank_within h (Within.sub hk (by simp)))
      h)
  clear_value x1
  have h2 : Within K s0 x2 := by
    unfold x2
    exact (Within.ite (copyBank_within h1 (Within.sub hk (by simp)))
      h1)
  clear_value x2
  exact (Within.ite (Within.ite (acqRestart_within h hk)
      h)
    (Within.ite (Within.ite (fadeRequest_within h2 (Within.sub hk (by simp)) (Within.sub hk (by simp)))
        h2)
      (Within.ite (coefWrite_within h (Within.sub hk (by simp)))
        (Within.ite (Within.ite (shadowSnap_within h (Within.sub hk (by simp)))
            h)
          h))))

end Sys2Proof.Machine
end

