-- ==== Sys2Proof/Laws/OpticsControl.lean ====
section
/-! SUPPORT. Laws/OpticsControl.lean: the parts of the state that each operation of Machine/OpticsControl.lean can change. -/
namespace Sys2Proof.Machine

set_option Elab.async false

open Sys2Proof

theorem setOptics_within {K : Nat} {s0 s : State} {c : Carrier} {x : Optics} (h : Within K s0 s) (hk : 268435456 ||| K = K) :
    Within K s0 (setOptics s c x) := by
  unfold setOptics
  exact (Within.upd_optics h hk _)

theorem setFes_within {K : Nat} {c : Carrier} {st : Nat} {s0 s : State} (h : Within K s0 s) (hk : 18889465931478580854816 ||| K = K) :
    Within K s0 (setFes c st s) := by
  unfold setFes
  exact (Within.ite h
    (State.raise_within
      (State.set_within h (Within.sub hk (by simp))) (Within.sub hk (by simp)) (Within.sub hk (by simp))))

theorem cancelHeld_within {K : Nat} {c : Carrier} {s0 s : State} (h : Within K s0 s) (hk : 18889465931478580854784 ||| K = K) :
    Within K s0 (cancelHeld c s) := by
  unfold cancelHeld
  exact (State.set_within
    (State.set_within h (Within.sub hk (by simp))) (Within.sub hk (by simp)))

theorem outputOff_within {K : Nat} {c : Carrier} {s0 s : State} (h : Within K s0 s) (hk : 268435456 ||| K = K) :
    Within K s0 (outputOff c s) := by
  unfold outputOff
  extract_lets -merge -useContext x1
  try clear_value x1
  exact (Within.ite h
    (Within.ite (setOptics_within h hk)
      (setOptics_within h hk)))

theorem outputGateClosed_within {K : Nat} {c : Carrier} {s0 s : State} (h : Within K s0 s) (hk : 268435456 ||| K = K) :
    Within K s0 (outputGateClosed c s) := by
  unfold outputGateClosed
  extract_lets -merge -useContext x1
  try clear_value x1
  exact (Within.ite (setOptics_within h hk)
    h)

theorem outputCut_within {K : Nat} {c : Carrier} {s0 s : State} (h : Within K s0 s) (hk : 268435456 ||| K = K) :
    Within K s0 (outputCut c s) := by
  unfold outputCut
  extract_lets -merge -useContext x1
  try clear_value x1
  exact (setOptics_within h hk)

theorem fesLeave_within {K : Nat} {c : Carrier} {st : Nat} {s0 s : State} (h : Within K s0 s) (hk : 18889465931478849290272 ||| K = K) :
    Within K s0 (fesLeave c st s) := by
  unfold fesLeave
  exact (setFes_within
    (cancelHeld_within
      (outputOff_within h (Within.sub hk (by simp))) (Within.sub hk (by simp))) (Within.sub hk (by simp)))

theorem auxRelease_within {K : Nat} {c : Carrier} {s0 s : State} (h : Within K s0 s) (hk : 307027615119320729911344 ||| K = K) :
    Within K s0 (auxRelease c s) := by
  unfold auxRelease
  exact (Within.foldl _ (fun _ _ h1 => (auxDrive_within h1 hk))
    h)

theorem toDark_within {K : Nat} {c : Carrier} {lowPower : Bool} {s0 s : State} (h : Within K s0 s) (hk : 325917081050799579201584 ||| K = K) :
    Within K s0 (toDark c lowPower s) := by
  unfold toDark
  extract_lets -merge -useContext x1 x2
  have h1 : Within K s0 x1 := by
    unfold x1
    exact (auxRelease_within
      (fesLeave_within h (Within.sub hk (by simp))) (Within.sub hk (by simp)))
  clear_value x1
  try clear_value x2
  exact (Within.ite h
    (setOptics_within h1 (Within.sub hk (by simp))))

theorem toTuning_within {K : Nat} {c : Carrier} {s0 s : State} (h : Within K s0 s) (hk : 18889465931478916399136 ||| K = K) :
    Within K s0 (toTuning c s) := by
  unfold toTuning
  extract_lets -merge -useContext x1 x2 x3
  have h1 : Within K s0 x1 := by
    unfold x1
    exact (fesLeave_within h (Within.sub hk (by simp)))
  clear_value x1
  try clear_value x2
  have h3 : Within K s0 x3 := by
    unfold x3
    exact (setOptics_within h1 (Within.sub hk (by simp)))
  clear_value x3
  exact (Within.upd_tunedN h3 (Within.sub hk (by simp)) _)

theorem toFault_within {K : Nat} {c : Carrier} {cause : Nat} {s0 s : State} (h : Within K s0 s) (hk : 18889465931478849290272 ||| K = K) :
    Within K s0 (toFault c cause s) := by
  unfold toFault
  extract_lets -merge -useContext x1 x2
  have h1 : Within K s0 x1 := by
    unfold x1
    exact (fesLeave_within h hk)
  clear_value x1
  have h2 : Within K s0 x2 := by
    unfold x2
    exact (State.bump_within
      (State.set_within h1 (Within.sub hk (by simp))) (Within.sub hk (by simp)))
  clear_value x2
  exact (State.raise_within
    (State.errlog_within h2 (Within.sub hk (by simp))) (Within.sub hk (by simp)) (Within.sub hk (by simp)))

theorem refuseEnable_within {K : Nat} {c : Carrier} {s0 s : State} (h : Within K s0 s) (hk : 18889465931478580854816 ||| K = K) :
    Within K s0 (refuseEnable c s) := by
  unfold refuseEnable
  exact (State.raise_within
    (State.bump_within
      (cancelHeld_within h (Within.sub hk (by simp))) (Within.sub hk (by simp))) (Within.sub hk (by simp)) (Within.sub hk (by simp)))

theorem applyEnable_within {K : Nat} {c : Carrier} {s0 s : State} (h : Within K s0 s) (hk : 18889465931478849290272 ||| K = K) :
    Within K s0 (applyEnable c s) := by
  unfold applyEnable
  extract_lets -merge -useContext x1 x2
  try clear_value x1
  have h2 : Within K s0 x2 := by
    unfold x2
    exact (setOptics_within h (Within.sub hk (by simp)))
  clear_value x2
  exact (setFes_within
    (cancelHeld_within h2 (Within.sub hk (by simp))) (Within.sub hk (by simp)))

theorem dropKeying_within {K : Nat} {c : Carrier} {s0 s : State} (h : Within K s0 s) (hk : 268435456 ||| K = K) :
    Within K s0 (dropKeying c s) := by
  unfold dropKeying
  extract_lets -merge -useContext x1
  try clear_value x1
  exact (setOptics_within h hk)

theorem txEnable_within {K : Nat} {c : Carrier} {s0 s : State} (h : Within K s0 s) (hk : 18889465931478849290272 ||| K = K) :
    Within K s0 (txEnable c s) := by
  unfold txEnable
  extract_lets -merge -useContext x1 x2 x3
  have h1 : Within K s0 x1 := by
    unfold x1
    exact (dropKeying_within h (Within.sub hk (by simp)))
  clear_value x1
  try clear_value x2
  have h3 : Within K s0 x3 := by
    unfold x3
    exact (Within.ite h1
      (State.bump_within
        (State.set_within h1 (Within.sub hk (by simp))) (Within.sub hk (by simp))))
  clear_value x3
  exact (Within.ite h
    (Within.ite (refuseEnable_within h1 (Within.sub hk (by simp)))
      (Within.ite (applyEnable_within h1 hk)
        (State.set_within h3 (Within.sub hk (by simp))))))

theorem txHoldRelease_within {K : Nat} {c : Carrier} {s0 s : State} (h : Within K s0 s) (hk : 18889465931478849290272 ||| K = K) :
    Within K s0 (txHoldRelease c s) := by
  unfold txHoldRelease
  extract_lets -merge -useContext x1
  try clear_value x1
  exact (Within.ite (Within.ite (refuseEnable_within h (Within.sub hk (by simp)))
      (Within.ite (Within.ite (applyEnable_within h hk)
          (refuseEnable_within h (Within.sub hk (by simp))))
        (State.set_within h (Within.sub hk (by simp)))))
    h)

theorem txHoldTimeout_within {K : Nat} {c : Carrier} {s0 s : State} (h : Within K s0 s) (hk : 18889465931478580854816 ||| K = K) :
    Within K s0 (txHoldTimeout c s) := by
  unfold txHoldTimeout
  exact (Within.ite (refuseEnable_within h hk)
    h)

theorem txOff_within {K : Nat} {c : Carrier} {s0 s : State} (h : Within K s0 s) (hk : 18889465931478849290272 ||| K = K) :
    Within K s0 (txOff c s) := by
  unfold txOff
  exact (Within.ite (fesLeave_within h hk)
    (cancelHeld_within h (Within.sub hk (by simp))))

theorem fesFollowTx_within {K : Nat} {c : Carrier} {s0 s : State} (h : Within K s0 s) (hk : 18889465931478849290272 ||| K = K) :
    Within K s0 (fesFollowTx c s) := by
  unfold fesFollowTx
  extract_lets -merge -useContext x1 x2
  have h1 : Within K s0 x1 := by
    unfold x1
    exact (Within.ite (fesLeave_within h hk)
      h)
  clear_value x1
  have h2 : Within K s0 x2 := by
    unfold x2
    exact (Within.ite (txEnable_within (fesLeave_within h1 hk) hk)
      h1)
  clear_value x2
  exact (Within.ite (setFes_within
      (cancelHeld_within h2 (Within.sub hk (by simp))) (Within.sub hk (by simp)))
    h2)

theorem fesFollowRx_within {K : Nat} {c : Carrier} {s0 s : State} (h : Within K s0 s) (hk : 18889465931478580854816 ||| K = K) :
    Within K s0 (fesFollowRx c s) := by
  unfold fesFollowRx
  extract_lets -merge -useContext x1 x2 x3
  try clear_value x1
  have h2 : Within K s0 x2 := by
    unfold x2
    exact (Within.ite (setFes_within h hk)
      h)
  clear_value x2
  have h3 : Within K s0 x3 := by
    unfold x3
    exact (Within.ite (setFes_within h2 hk)
      h2)
  clear_value x3
  exact (Within.ite (setFes_within h3 hk)
    (Within.ite (setFes_within h3 hk)
      h3))

theorem rearmMargin_within {K : Nat} {c : Carrier} {s0 s : State} (h : Within K s0 s) (hk : 268435456 ||| K = K) :
    Within K s0 (rearmMargin c s) := by
  unfold rearmMargin
  extract_lets -merge -useContext x1
  try clear_value x1
  exact (Within.ite (setOptics_within h hk)
    h)

theorem fesFollow_within {K : Nat} {c : Carrier} {s0 s : State} (h : Within K s0 s) (hk : 18889465931478849290272 ||| K = K) :
    Within K s0 (fesFollow c s) := by
  unfold fesFollow
  exact (Within.ite (rearmMargin_within
      (fesFollowRx_within (fesFollowTx_within h hk) (Within.sub hk (by simp))) (Within.sub hk (by simp)))
    h)

theorem fesFollowBoth_within {K : Nat} {s0 s : State} (h : Within K s0 s) (hk : 18889465931478849290272 ||| K = K) :
    Within K s0 (fesFollowBoth s) := by
  unfold fesFollowBoth
  exact (fesFollow_within (fesFollow_within h hk) hk)

theorem toPowered_within {K : Nat} {c : Carrier} {s0 s : State} (h : Within K s0 s) (hk : 325917081050799310766128 ||| K = K) :
    Within K s0 (toPowered c s) := by
  unfold toPowered
  extract_lets -merge -useContext x1 x2
  have h1 : Within K s0 x1 := by
    unfold x1
    exact (setFes_within h (Within.sub hk (by simp)))
  clear_value x1
  try clear_value x2
  exact (Within.foldl _ (fun _ _ h3 => (auxDrive_within
      (State.set_within h3 (Within.sub hk (by simp))) (Within.sub hk (by simp))))
    h1)

theorem moduleReady_within {K : Nat} {c : Carrier} {outcome : Nat} {s0 s : State} (h : Within K s0 s) (hk : 325917081050799646310448 ||| K = K) :
    Within K s0 (moduleReady c outcome s) := by
  unfold moduleReady
  extract_lets -merge -useContext x1 x2 x3 x4
  try clear_value x1
  try clear_value x2
  have h3 : Within K s0 x3 := by
    unfold x3
    exact (setOptics_within h (Within.sub hk (by simp)))
  clear_value x3
  have h4 : Within K s0 x4 := by
    unfold x4
    exact (toPowered_within
      (State.set_within h3 (Within.sub hk (by simp))) (Within.sub hk (by simp)))
  clear_value x4
  exact (Within.ite (Within.ite (Within.ite (toTuning_within h4 (Within.sub hk (by simp)))
        h4)
      (toFault_within h3 (Within.sub hk (by simp))))
    h)

theorem tune_within {K : Nat} {c : Carrier} {s0 s : State} (h : Within K s0 s) (hk : 18889465931478916399136 ||| K = K) :
    Within K s0 (tune c s) := by
  unfold tune
  extract_lets -merge -useContext x1
  try clear_value x1
  exact (Within.ite (toTuning_within h hk)
    h)

theorem wavelengthLock_within {K : Nat} {c : Carrier} {outcome : Nat} {s0 s : State} (h : Within K s0 s) (hk : 18889465931478849290272 ||| K = K) :
    Within K s0 (wavelengthLock c outcome s) := by
  unfold wavelengthLock
  extract_lets -merge -useContext x1 x2
  try clear_value x1
  try clear_value x2
  exact (Within.ite (Within.ite (setFes_within
        (setOptics_within h (Within.sub hk (by simp))) (Within.sub hk (by simp)))
      (toFault_within h hk))
    h)

theorem driveDrivers_within {K : Nat} {c : Carrier} {s0 s : State} (h : Within K s0 s) (hk : 307027615119320729911344 ||| K = K) :
    Within K s0 (driveDrivers c s) := by
  unfold driveDrivers
  extract_lets -merge -useContext x1
  have h1 : Within K s0 x1 := by
    unfold x1
    exact (auxDrive_within h hk)
  clear_value x1
  exact (auxDrive_within h1 hk)

theorem txReadyEntry_within {K : Nat} {c : Carrier} {s0 s : State} (h : Within K s0 s) (hk : 325917081050799579201584 ||| K = K) :
    Within K s0 (txReadyEntry c s) := by
  unfold txReadyEntry
  extract_lets -merge -useContext x1
  have h1 : Within K s0 x1 := by
    unfold x1
    exact (driveDrivers_within
      (setFes_within h (Within.sub hk (by simp))) (Within.sub hk (by simp)))
  clear_value x1
  exact (Within.ite (Within.ite (txEnable_within h1 (Within.sub hk (by simp)))
      h1)
    h)

theorem fesEnable_within {K : Nat} {c : Carrier} {en : Bool} {s0 s : State} (h : Within K s0 s) (hk : 325917081050799579201584 ||| K = K) :
    Within K s0 (fesEnable c en s) := by
  unfold fesEnable
  extract_lets -merge -useContext x1
  try clear_value x1
  exact (Within.ite (Within.ite (setOptics_within h (Within.sub hk (by simp)))
      h)
    (toDark_within h hk))

theorem clearFault_within {K : Nat} {c : Carrier} {s0 s : State} (h : Within K s0 s) (hk : 18889465931478849290272 ||| K = K) :
    Within K s0 (clearFault c s) := by
  unfold clearFault
  extract_lets -merge -useContext x1 x2
  have h1 : Within K s0 x1 := by
    unfold x1
    exact (setFes_within h (Within.sub hk (by simp)))
  clear_value x1
  try clear_value x2
  exact (Within.ite (setOptics_within h1 (Within.sub hk (by simp)))
    h)

theorem fesCause_within {K : Nat} {c : Carrier} {cause : Nat} {s0 s : State} (h : Within K s0 s) (hk : 18889465931478849290272 ||| K = K) :
    Within K s0 (fesCause c cause s) := by
  unfold fesCause
  extract_lets -merge -useContext x1
  try clear_value x1
  exact (Within.ite (toFault_within h hk)
    h)

theorem safetyFollow_within {K : Nat} {c : Carrier} {s0 s : State} (h : Within K s0 s) (hk : 18889465931478849290272 ||| K = K) :
    Within K s0 (safetyFollow c s) := by
  unfold safetyFollow
  extract_lets -merge -useContext x1 x2 x3
  try clear_value x1
  have h2 : Within K s0 x2 := by
    unfold x2
    exact (Within.ite (refuseEnable_within h (Within.sub hk (by simp)))
      h)
  clear_value x2
  have h3 : Within K s0 x3 := by
    unfold x3
    exact (outputCut_within h2 (Within.sub hk (by simp)))
  clear_value x3
  exact (Within.ite (setFes_within
      (cancelHeld_within h3 (Within.sub hk (by simp))) (Within.sub hk (by simp)))
    (Within.ite (Within.ite (setFes_within h2 (Within.sub hk (by simp)))
        (setFes_within h2 (Within.sub hk (by simp))))
      h2))

theorem losReading_within {K : Nat} {c : Carrier} {code : Nat} {s0 s : State} (h : Within K s0 s) (hk : 18889465931478849290240 ||| K = K) :
    Within K s0 (losReading c code s) := by
  unfold losReading
  extract_lets -merge -useContext x1 x2 x3 x4
  try clear_value x1
  try clear_value x2
  try clear_value x3
  have h4 : Within K s0 x4 := by
    unfold x4
    exact (setOptics_within h (Within.sub hk (by simp)))
  clear_value x4
  exact (Within.ite h
    (Within.ite (State.set_within h4 (Within.sub hk (by simp)))
      (Within.ite (State.set_within h4 (Within.sub hk (by simp)))
        h4)))

theorem foMargin_within {K : Nat} {c : Carrier} {s0 s : State} (h : Within K s0 s) (hk : 18889465931478849290272 ||| K = K) :
    Within K s0 (foMargin c s) := by
  unfold foMargin
  extract_lets -merge -useContext x1
  try clear_value x1
  exact (Within.ite (State.raise_within
      (setOptics_within h (Within.sub hk (by simp))) (Within.sub hk (by simp)) (Within.sub hk (by simp)))
    h)

theorem tiaStep_within {K : Nat} {c : Carrier} {y : Bool} {up : Bool} {s0 s : State} (h : Within K s0 s) (hk : 325917081050799310766128 ||| K = K) :
    Within K s0 (tiaStep c y up s) := by
  unfold tiaStep
  extract_lets -merge -useContext x1 x2 x3 x4 x5 x6 x7 x8
  try clear_value x1
  try clear_value x2
  try clear_value x3
  try clear_value x4
  try clear_value x5
  try clear_value x6
  try clear_value x7
  have h8 : Within K s0 x8 := by
    unfold x8
    exact (auxDrive_within
      (startTimer_within
        (State.set_within h (Within.sub hk (by simp))) (Within.sub hk (by simp))) (Within.sub hk (by simp)))
  clear_value x8
  exact (State.raiseIf_within h8 (Within.sub hk (by simp)) (Within.sub hk (by simp)))

theorem tiaJudge_within {K : Nat} {c : Carrier} {y : Bool} {s0 s : State} (h : Within K s0 s) (hk : 325917081050799310766128 ||| K = K) :
    Within K s0 (tiaJudge c y s) := by
  unfold tiaJudge
  extract_lets -merge -useContext x1 x2 x3 x4
  try clear_value x1
  try clear_value x2
  try clear_value x3
  try clear_value x4
  exact (Within.ite (Within.ite (State.raise_within h (Within.sub hk (by simp)) (Within.sub hk (by simp)))
      (Within.ite (tiaStep_within h hk)
        (Within.ite (tiaStep_within h hk)
          h)))
    h)

theorem cmisTransaction_within {K : Nat} {c : Carrier} {write : Bool} {answer : Option Nat} {s0 s : State} (h : Within K s0 s) (hk : 18889465931478849290272 ||| K = K) :
    Within K s0 (cmisTransaction c write answer s) := by
  unfold cmisTransaction
  extract_lets -merge -useContext x1 x2 x3 x4 x5
  try clear_value x1
  have h2 : Within K s0 x2 := by
    unfold x2
    exact (setOptics_within h (Within.sub hk (by simp)))
  clear_value x2
  have h3 : Within K s0 x3 := by
    unfold x3
    exact (setOptics_within h (Within.sub hk (by simp)))
  clear_value x3
  have h4 : Within K s0 x4 := by
    unfold x4
    exact (State.raise_within
      (State.set_within h3 (Within.sub hk (by simp))) (Within.sub hk (by simp)) (Within.sub hk (by simp)))
  clear_value x4
  try clear_value x5
  split
  · skip
    extract_lets -merge -useContext x6
    have h6 : Within K s0 x6 := by
      unfold x6
      exact (Within.ite h2
        (State.set_within h2 (Within.sub hk (by simp))))
    clear_value x6
    exact (State.raise_within
      (State.set_within h6 (Within.sub hk (by simp))) (Within.sub hk (by simp)) (Within.sub hk (by simp)))
  · skip
    exact (Within.ite (fesCause_within
        (setOptics_within h4 (Within.sub hk (by simp))) hk)
      h4)

theorem cmisPoll_within {K : Nat} {c : Carrier} {asserted : Bool} {modState : Nat} {lock : Bool} {settling : Bool} {laserFault : Bool} {s0 s : State} (h : Within K s0 s) (hk : 18889470435078476660768 ||| K = K) :
    Within K s0 (cmisPoll c asserted modState lock settling laserFault s) := by
  unfold cmisPoll
  extract_lets -merge -useContext x1 x2 x3 x4 x5 x6
  have h1 : Within K s0 x1 := by
    unfold x1
    exact (startTimer_within h (Within.sub hk (by simp)))
  clear_value x1
  have h2 : Within K s0 x2 := by
    unfold x2
    exact (State.raiseIf_within
      (State.set_within h1 (Within.sub hk (by simp))) (Within.sub hk (by simp)) (Within.sub hk (by simp)))
  clear_value x2
  try clear_value x3
  try clear_value x4
  try clear_value x5
  have h6 : Within K s0 x6 := by
    unfold x6
    exact (Within.ite (setOptics_within h2 (Within.sub hk (by simp)))
      h2)
  clear_value x6
  exact (Within.ite h
    (Within.ite (fesCause_within h6 (Within.sub hk (by simp)))
      (Within.ite (fesCause_within h6 (Within.sub hk (by simp)))
        (fesFollow_within h6 (Within.sub hk (by simp))))))

theorem synCalibrate_within {K : Nat} {n : Fin 3} {band : Int × Int} {gain : Int × Int} {loopToo : Bool} {s0 s : State} (h : Within K s0 s) (hk : 19343403409644425501212704 ||| K = K) :
    Within K s0 (synCalibrate n band gain loopToo s) := by
  unfold synCalibrate
  extract_lets -merge -useContext x1 x2 x3 x4
  have f1 : ∀ a0 a1 a2 t, Within K s0 t → Within K s0 (x1 a0 a1 a2 t) := by
    unfold x1
    exact fun _ _ _ _ h1 => (by
      extract_lets -merge -useContext x5
      have h5 : Within K s0 x5 := by
        unfold x5
        exact (calMeasure_within h1 (Within.sub hk (by simp)))
      clear_value x5
      exact (Within.ite h5
        (State.raise_within
          (State.errlog_within h5 (Within.sub hk (by simp))) (Within.sub hk (by simp)) (Within.sub hk (by simp)))))
  clear_value x1
  have h2 : Within K s0 x2 := by
    unfold x2
    exact (f1 _ _ _ _ h)
  clear_value x2
  have h3 : Within K s0 x3 := by
    unfold x3
    exact (State.set_within h2 (Within.sub hk (by simp)))
  clear_value x3
  have h4 : Within K s0 x4 := by
    unfold x4
    exact (f1 _ _ _ _ h3)
  clear_value x4
  exact (Within.ite (State.set_within h4 (Within.sub hk (by simp)))
    h3)

theorem synStart_within {K : Nat} {n : Fin 3} {s0 s : State} (h : Within K s0 s) (hk : 19342813113834066795823104 ||| K = K) :
    Within K s0 (synStart n s) := by
  unfold synStart
  extract_lets -merge -useContext x1 x2
  have f1 : ∀ a0 t, Within K s0 t → Within K s0 (x1 a0 t) := by
    unfold x1
    exact fun _ _ h1 => (setTxDsp_within h1 (Within.sub hk (by simp)))
  clear_value x1
  have h2 : Within K s0 x2 := by
    unfold x2
    exact (Within.ite (f1 _ _ h)
      (Within.ite (f1 _ _ h)
        h))
  clear_value x2
  exact (State.set_within
    (State.clearAll_within h2 (Within.sub hk (by simp))) (Within.sub hk (by simp)))

theorem synRunning_within {K : Nat} {n : Fin 3} {band : Int × Int} {gain : Int × Int} {s0 s : State} (h : Within K s0 s) (hk : 19343403409644425501212704 ||| K = K) :
    Within K s0 (synRunning n band gain s) := by
  unfold synRunning
  extract_lets -merge -useContext x1 x2
  have h1 : Within K s0 x1 := by
    unfold x1
    exact (synCalibrate_within h hk)
  clear_value x1
  have h2 : Within K s0 x2 := by
    unfold x2
    exact (State.set_within
      (State.set_within h1 (Within.sub hk (by simp))) (Within.sub hk (by simp)))
  clear_value x2
  exact (State.raise_within
    (State.set_within h2 (Within.sub hk (by simp))) (Within.sub hk (by simp)) (Within.sub hk (by simp)))

theorem synStop_within {K : Nat} {n : Fin 3} {s0 s : State} (h : Within K s0 s) (hk : 19342813113834066795298816 ||| K = K) :
    Within K s0 (synStop n s) := by
  unfold synStop
  exact (State.clearAll_within h (Within.sub hk (by simp)))

theorem synUnlock_within {K : Nat} {n : Fin 3} {s0 s : State} (h : Within K s0 s) (hk : 18440973360314229018486386976 ||| K = K) :
    Within K s0 (synUnlock n s) := by
  unfold synUnlock
  extract_lets -merge -useContext x1
  have h1 : Within K s0 x1 := by
    unfold x1
    exact (State.bump_within
      (State.set_within
        (State.set_within h (Within.sub hk (by simp))) (Within.sub hk (by simp))) (Within.sub hk (by simp)))
  clear_value x1
  exact (Within.ite (fesFollowBoth_within
      (lanesLose_within
        (lanesLose_within
          (State.raise_within h1 (Within.sub hk (by simp)) (Within.sub hk (by simp))) (Within.sub hk (by simp))) (Within.sub hk (by simp))) (Within.sub hk (by simp)))
    h)

theorem synLate_within {K : Nat} {n : Fin 3} {s0 s : State} (h : Within K s0 s) (hk : 19342813118337666422669312 ||| K = K) :
    Within K s0 (synLate n s) := by
  unfold synLate
  exact (Within.ite (startTimer_within
      (State.errlog_within h (Within.sub hk (by simp))) (Within.sub hk (by simp)))
    h)

theorem synRelock_within {K : Nat} {n : Fin 3} {locked : Bool} {band : Int × Int} {s0 s : State} (h : Within K s0 s) (hk : 24179106692606541829505056 ||| K = K) :
    Within K s0 (synRelock n locked band s) := by
  unfold synRelock
  extract_lets -merge -useContext x1 x2 x3
  have h1 : Within K s0 x1 := by
    unfold x1
    exact (synLate_within h (Within.sub hk (by simp)))
  clear_value x1
  have h2 : Within K s0 x2 := by
    unfold x2
    exact (synCalibrate_within
      (stopTimer_within h1 (Within.sub hk (by simp))) (Within.sub hk (by simp)))
  clear_value x2
  have h3 : Within K s0 x3 := by
    unfold x3
    exact (State.raise_within
      (State.set_within
        (State.set_within h2 (Within.sub hk (by simp))) (Within.sub hk (by simp))) (Within.sub hk (by simp)) (Within.sub hk (by simp)))
  clear_value x3
  exact (Within.ite (Within.ite (laneClockResume_within
        (laneClockResume_within h3 (Within.sub hk (by simp))) (Within.sub hk (by simp)))
      h1)
    h)

theorem fesSleep_within {K : Nat} {c : Carrier} {s0 s : State} (h : Within K s0 s) (hk : 18889465931478849290272 ||| K = K) :
    Within K s0 (fesSleep c s) := by
  unfold fesSleep
  extract_lets -merge -useContext x1
  try clear_value x1
  exact (Within.ite (fesLeave_within h hk)
    h)

theorem fesStart_within {K : Nat} {s0 s : State} (h : Within K s0 s) (hk : 18889465931478580854784 ||| K = K) :
    Within K s0 (fesStart s) := by
  unfold fesStart
  exact (State.clearAll_within h (Within.sub hk (by simp)))

theorem fesStop_within {K : Nat} {s0 s : State} (h : Within K s0 s) (hk : 325917081050799579201584 ||| K = K) :
    Within K s0 (fesStop s) := by
  unfold fesStop
  exact (toDark_within (toDark_within h hk) hk)

theorem fesWritten_within {K : Nat} {y0 : Nat} {old : Word} {new : Word} {env : List Int} {s0 s : State} (h : Within K s0 s) (hk : 325917082176699553153072 ||| K = K) :
    Within K s0 (fesWritten y0 old new env s) := by
  unfold fesWritten
  extract_lets -merge -useContext x1
  try clear_value x1
  split
  · skip
    extract_lets -merge -useContext x2 x3 x4 x5 x6
    have h2 : Within K s0 x2 := by
      unfold x2
      exact (Within.ite (fesEnable_within h (Within.sub hk (by simp)))
        h)
    clear_value x2
    have h3 : Within K s0 x3 := by
      unfold x3
      exact (Within.ite (clearFault_within h2 (Within.sub hk (by simp)))
        h2)
    clear_value x3
    have h4 : Within K s0 x4 := by
      unfold x4
      exact (Within.ite (txOff_within h3 (Within.sub hk (by simp)))
        h3)
    clear_value x4
    have h5 : Within K s0 x5 := by
      unfold x5
      exact (Within.ite (tune_within h4 (Within.sub hk (by simp)))
        h4)
    clear_value x5
    have h6 : Within K s0 x6 := by
      unfold x6
      exact (Within.ite (txEnable_within h5 (Within.sub hk (by simp)))
        h5)
    clear_value x6
    exact (fesFollow_within h6 (Within.sub hk (by simp)))
  · skip
    split
    · skip
      extract_lets -merge -useContext x7
      try clear_value x7
      exact (Within.ite (driveDrivers_within h (Within.sub hk (by simp)))
        h)
    · skip
      exact (Within.ite (by
          split
          · skip
            exact (cmisTransaction_within h (Within.sub hk (by simp)))
          · skip
            exact (cmisTransaction_within
              (State.drawn_within h (Within.sub hk (by simp))) (Within.sub hk (by simp))))
        h)

end Sys2Proof.Machine
end

