-- ==== Sys2Proof/Laws/QuoletLink.lean ====
section
/-! SUPPORT. Laws/QuoletLink.lean: the parts of the state that each operation of Machine/QuoletLink.lean can change. -/
namespace Sys2Proof.Machine

set_option Elab.async false

open Sys2Proof

theorem State.setQlt_within {K : Nat} {s0 s : State} {x : Quolet} (h : Within K s0 s) (hk : 536870912 ||| K = K) :
    Within K s0 (State.setQlt s x) := by
  unfold State.setQlt
  exact (Within.upd_qlt h hk _)

theorem putSession_within {K : Nat} {s0 s : State} {k : Carrier} {x : Session} (h : Within K s0 s) (hk : 536870912 ||| K = K) :
    Within K s0 (putSession s k x) := by
  unfold putSession
  extract_lets -merge -useContext x1
  try clear_value x1
  exact (State.setQlt_within h hk)

theorem showSessions_within {K : Nat} {s0 s : State} (h : Within K s0 s) (hk : 2417851639229258349412352 ||| K = K) :
    Within K s0 (showSessions s) := by
  unfold showSessions
  extract_lets -merge -useContext x1 x2 x3
  try clear_value x1
  try clear_value x2
  try clear_value x3
  exact (State.set_within
    (State.set_within
      (State.setFlag_within
        (State.set_within
          (State.set_within h (Within.sub hk (by simp))) (Within.sub hk (by simp))) (Within.sub hk (by simp))) (Within.sub hk (by simp))) (Within.sub hk (by simp)))

theorem discard_within {K : Nat} {cause : Nat} {s0 s : State} (h : Within K s0 s) (hk : 2417851639229258349412384 ||| K = K) :
    Within K s0 (discard cause s) := by
  unfold discard
  exact (State.raiseIf_within
    (State.set_within
      (State.bump_within h (Within.sub hk (by simp))) (Within.sub hk (by simp))) (Within.sub hk (by simp)) (Within.sub hk (by simp)))

theorem queueWords_within {K : Nat} {s0 s : State} {k : Carrier} {ws : List (BitVec 64)} (h : Within K s0 s) (hk : 536870912 ||| K = K) :
    Within K s0 (queueWords s k ws) := by
  unfold queueWords
  exact (Within.foldl _ (fun _ _ h1 => (Within.ite h1
      (by
        extract_lets -merge -useContext x2 x3 x4
        try clear_value x2
        have h3 : Within K s0 x3 := by
          unfold x3
          exact (Within.ite (State.setQlt_within h1 hk)
            h1)
        clear_value x3
        try clear_value x4
        exact (Within.ite (State.setQlt_within h3 hk)
          h3))))
    h)

theorem sendWith_within {K : Nat} {k : Carrier} {type : Nat} {body : List Byte} {key : Option MacKey} {s0 s : State} (h : Within K s0 s) (hk : 2417851639229258886283264 ||| K = K) :
    Within K s0 (sendWith k type body key s) := by
  unfold sendWith
  extract_lets -merge -useContext x1 x2 x3 x4 x5 x6
  try clear_value x1
  try clear_value x2
  try clear_value x3
  have h5 : Within K s0 x5 := by
    unfold x5
    exact (Within.ite (putSession_within h (Within.sub hk (by simp)))
      (putSession_within h (Within.sub hk (by simp))))
  clear_value x5
  have h6 : Within K s0 x6 := by
    unfold x6
    exact (State.bump_within h5 (Within.sub hk (by simp)))
  clear_value x6
  exact (Within.ite (queueWords_within h6 (Within.sub hk (by simp)))
    h6)

theorem send_within {K : Nat} {k : Carrier} {type : Nat} {body : List Byte} {s0 s : State} (h : Within K s0 s) (hk : 2417851639229258886283264 ||| K = K) :
    Within K s0 (send k type body s) := by
  unfold send
  exact (sendWith_within h hk)

theorem refuse_within {K : Nat} {k : Carrier} {type : Nat} {seqNo : Nat} {reason : Nat} {s0 s : State} (h : Within K s0 s) (hk : 2417851639229258886283264 ||| K = K) :
    Within K s0 (refuse k type seqNo reason s) := by
  unfold refuse
  exact (send_within h hk)

theorem acknowledge_within {K : Nat} {k : Carrier} {ack : Nat} {s0 s : State} (h : Within K s0 s) (hk : 536870912 ||| K = K) :
    Within K s0 (acknowledge k ack s) := by
  unfold acknowledge
  extract_lets -merge -useContext x1 x2 x3 x4 x5 x6
  try clear_value x1
  try clear_value x2
  try clear_value x3
  try clear_value x4
  have h5 : Within K s0 x5 := by
    unfold x5
    exact (putSession_within h hk)
  clear_value x5
  have h6 : Within K s0 x6 := by
    unfold x6
    exact (Within.foldl _ (fun _ _ h7 => (Within.ite (State.setQlt_within h7 hk)
        h7))
      h5)
  clear_value x6
  exact (Within.foldl _ (fun _ _ h8 => (queueWords_within h8 hk))
    h6)

theorem resend_within {K : Nat} {k : Carrier} {o : Outstanding} {s0 s : State} (h : Within K s0 s) (hk : 2417851639229258886283264 ||| K = K) :
    Within K s0 (resend k o s) := by
  unfold resend
  extract_lets -merge -useContext x1 x2
  try clear_value x1
  try clear_value x2
  exact (queueWords_within
    (State.bump_within h (Within.sub hk (by simp))) (Within.sub hk (by simp)))

theorem inbandSent_within {K : Nat} {x : Carrier} {s0 s : State} (h : Within K s0 s) (hk : 536870912 ||| K = K) :
    Within K s0 (inbandSent x s) := by
  unfold inbandSent
  extract_lets -merge -useContext x1
  try clear_value x1
  exact (Within.ite (State.setQlt_within h hk)
    h)

end Sys2Proof.Machine
end

