-- ==== Sys2Proof/Laws/Keying.lean ====
section
/-! SUPPORT. Laws/Keying.lean: the parts of the state that each operation of Machine/Keying.lean can change. -/
namespace Sys2Proof.Machine

set_option Elab.async false

open Sys2Proof

theorem dropOldChains_within {K : Nat} {k : Carrier} {s0 s : State} (h : Within K s0 s) (hk : 536870912 ||| K = K) :
    Within K s0 (dropOldChains k s) := by
  unfold dropOldChains
  extract_lets -merge -useContext x1
  try clear_value x1
  exact (putSession_within h hk)

theorem noteDerived_within {K : Nat} {k : Carrier} {x : Carrier} {d : Nat} {ch : Chain} {s0 s : State} (h : Within K s0 s) (hk : 536870912 ||| K = K) :
    Within K s0 (noteDerived k x d ch s) := by
  unfold noteDerived
  extract_lets -merge -useContext x1 x2 x3
  try clear_value x1
  try clear_value x2
  try clear_value x3
  exact (dropOldChains_within (putSession_within h hk) hk)

theorem takeInterval_within {K : Nat} {k : Carrier} {s0 s : State} (h : Within K s0 s) (hk : 536870912 ||| K = K) :
    Within K s0 (takeInterval k s) := by
  unfold takeInterval
  extract_lets -merge -useContext x1
  try clear_value x1
  exact (putSession_within h hk)

theorem sendRekey_within {K : Nat} {k : Carrier} {x : Carrier} {j : Nat} {n : Nat} {s0 s : State} (h : Within K s0 s) (hk : 19809458480205313657272303616 ||| K = K) :
    Within K s0 (sendRekey k x j n s) := by
  unfold sendRekey
  extract_lets -merge -useContext x1 x2 x3 x4 x5 x6 x7 x8
  try clear_value x1
  try clear_value x2
  try clear_value x3
  have h4 : Within K s0 x4 := by
    unfold x4
    exact (putTxSlot_within h (Within.sub hk (by simp)))
  clear_value x4
  have h5 : Within K s0 x5 := by
    unfold x5
    exact (State.setPair_within h4 (Within.sub hk (by simp)))
  clear_value x5
  have h6 : Within K s0 x6 := by
    unfold x6
    exact (State.set_within
      (State.set_within h5 (Within.sub hk (by simp))) (Within.sub hk (by simp)))
  clear_value x6
  try clear_value x7
  have h8 : Within K s0 x8 := by
    unfold x8
    exact (State.setQlt_within h6 (Within.sub hk (by simp)))
  clear_value x8
  exact (send_within h8 (Within.sub hk (by simp)))

theorem startActivation_within {K : Nat} {k : Carrier} {x : Carrier} {ch : Chain} {n : Nat} {s0 s : State} (h : Within K s0 s) (hk : 19809458480205313657272303616 ||| K = K) :
    Within K s0 (startActivation k x ch n s) := by
  unfold startActivation
  extract_lets -merge -useContext x1 x2 x3 x4 x5
  try clear_value x1
  try clear_value x2
  have h3 : Within K s0 x3 := by
    unfold x3
    exact (loadTxSlot_within h (Within.sub hk (by simp)))
  clear_value x3
  have h4 : Within K s0 x4 := by
    unfold x4
    exact (noteDerived_within h3 (Within.sub hk (by simp)))
  clear_value x4
  try clear_value x5
  exact (sendRekey_within
    (State.setCipher_within h4 (Within.sub hk (by simp))) hk)

theorem announceAll_within {K : Nat} {k : Carrier} {ch : Chain} {xs : List Carrier} {s0 s : State} (h : Within K s0 s) (hk : 19809458480206439557179146240 ||| K = K) :
    Within K s0 (announceAll k ch xs s) := by
  unfold announceAll
  exact (Within.ite (by
      split
      · skip
        exact h
      · skip
        extract_lets -merge -useContext x1
        try clear_value x1
        exact (Within.foldl _ (fun _ _ h2 => (startActivation_within h2 (Within.sub hk (by simp))))
          (State.drawn_within h (Within.sub hk (by simp)))))
    (Within.foldl _ (fun _ _ h3 => (startActivation_within
        (State.drawn_within h3 (Within.sub hk (by simp))) (Within.sub hk (by simp))))
      h))

theorem startExchange_within {K : Nat} {k : Carrier} {s0 s : State} (h : Within K s0 s) (hk : 2417851639229259960025088 ||| K = K) :
    Within K s0 (startExchange k s) := by
  unfold startExchange
  extract_lets -merge -useContext x1 x2 x3
  try clear_value x1
  try clear_value x2
  have h3 : Within K s0 x3 := by
    unfold x3
    exact (putSession_within
      (State.randomDrawn_within h (Within.sub hk (by simp))) (Within.sub hk (by simp)))
  clear_value x3
  exact (Within.ite (send_within h3 (Within.sub hk (by simp)))
    h)

theorem ratchetTry_within {K : Nat} {k : Carrier} {s0 s : State} (h : Within K s0 s) (hk : 19809458480206439558252888064 ||| K = K) :
    Within K s0 (ratchetTry k s) := by
  unfold ratchetTry
  extract_lets -merge -useContext x1 x2 x3
  try clear_value x1
  try clear_value x2
  have h3 : Within K s0 x3 := by
    unfold x3
    exact (takeInterval_within
      (putSession_within h (Within.sub hk (by simp))) (Within.sub hk (by simp)))
  clear_value x3
  exact (Within.ite (by
      split
      · skip
        exact h
      · skip
        extract_lets -merge -useContext x4
        have h4 : Within K s0 x4 := by
          unfold x4
          exact (announceAll_within h3 (Within.sub hk (by simp)))
        clear_value x4
        exact (Within.ite (startExchange_within h4 (Within.sub hk (by simp)))
          h4))
    h)

theorem ratchetDue_within {K : Nat} {k : Carrier} {s0 s : State} (h : Within K s0 s) (hk : 19809458480206439558252888064 ||| K = K) :
    Within K s0 (ratchetDue k s) := by
  unfold ratchetDue
  extract_lets -merge -useContext x1
  try clear_value x1
  exact (Within.ite (ratchetTry_within
      (putSession_within h (Within.sub hk (by simp))) hk)
    h)

theorem ratchetFor_within {K : Nat} {x : Carrier} {s0 s : State} (h : Within K s0 s) (hk : 19809458480206439558252888064 ||| K = K) :
    Within K s0 (ratchetFor x s) := by
  unfold ratchetFor
  split
  · skip
    exact (ratchetDue_within h hk)
  · skip
    exact h

theorem intervalRatchet_within {K : Nat} {x : Carrier} {s0 s : State} (h : Within K s0 s) (hk : 19809458480206439558252888064 ||| K = K) :
    Within K s0 (intervalRatchet x s) := by
  unfold intervalRatchet
  split
  · skip
    exact (Within.ite (ratchetDue_within h hk)
      h)
  · skip
    exact h

theorem answerTry_within {K : Nat} {k : Carrier} {x : Carrier} {s0 s : State} (h : Within K s0 s) (hk : 19809458480206439557179146240 ||| K = K) :
    Within K s0 (answerTry k x s) := by
  unfold answerTry
  extract_lets -merge -useContext x1 x2
  try clear_value x1
  try clear_value x2
  split
  · skip
    exact h
  · skip
    exact (Within.ite (by
        split
        · skip
          exact (announceAll_within h hk)
        · skip
          exact (State.setCipher_within h (Within.sub hk (by simp))))
      h)

theorem ratchetRetry_within {K : Nat} {x : Carrier} {s0 s : State} (h : Within K s0 s) (hk : 19809458480206439558252888064 ||| K = K) :
    Within K s0 (ratchetRetry x s) := by
  unfold ratchetRetry
  split
  · skip
    exact (answerTry_within
      (answerTry_within (ratchetTry_within h hk) (Within.sub hk (by simp))) (Within.sub hk (by simp)))
  · skip
    exact h

theorem retryActivation_within {K : Nat} {k : Carrier} {x : Carrier} {n : Nat} {s0 s : State} (h : Within K s0 s) (hk : 19809458480205313657272303616 ||| K = K) :
    Within K s0 (retryActivation k x n s) := by
  unfold retryActivation
  extract_lets -merge -useContext x1 x2 x3
  try clear_value x1
  try clear_value x2
  have h3 : Within K s0 x3 := by
    unfold x3
    exact (State.setCipher_within h (Within.sub hk (by simp)))
  clear_value x3
  exact (Within.ite (sendRekey_within h3 hk)
    h3)

theorem retryJoint_within {K : Nat} {x : Carrier} {s0 s : State} (h : Within K s0 s) (hk : 19809458480206439557179146240 ||| K = K) :
    Within K s0 (retryJoint x s) := by
  unfold retryJoint
  extract_lets -merge -useContext x1
  try clear_value x1
  split
  · skip
    extract_lets -merge -useContext x2
    have h2 : Within K s0 x2 := by
      unfold x2
      exact (retryActivation_within
        (State.drawn_within h (Within.sub hk (by simp))) (Within.sub hk (by simp)))
    clear_value x2
    exact (Within.ite (Within.ite (retryActivation_within h2 (Within.sub hk (by simp)))
        h2)
      h)
  · skip
    exact h

theorem activationDeadline_within {K : Nat} {x : Carrier} {s0 s : State} (h : Within K s0 s) (hk : 19809458480206439558252888096 ||| K = K) :
    Within K s0 (activationDeadline x s) := by
  unfold activationDeadline
  exact (Within.ite (ratchetRetry_within
      (retryJoint_within
        (abandonActivation_within h (Within.sub hk (by simp))) (Within.sub hk (by simp))) (Within.sub hk (by simp)))
    h)

theorem activationRefused_within {K : Nat} {x : Carrier} {s0 s : State} (h : Within K s0 s) (hk : 19807040628566084398386020384 ||| K = K) :
    Within K s0 (activationRefused x s) := by
  unfold activationRefused
  extract_lets -merge -useContext x1 x2 x3 x4 x5
  try clear_value x1
  have h2 : Within K s0 x2 := by
    unfold x2
    exact (abandonActivation_within h hk)
  clear_value x2
  try clear_value x3
  have h4 : Within K s0 x4 := by
    unfold x4
    exact (State.setCipher_within h2 (Within.sub hk (by simp)))
  clear_value x4
  try clear_value x5
  exact (Within.ite (Within.ite (State.setCipher_within h4 (Within.sub hk (by simp)))
      h4)
    h)

theorem retryWaiting_within {K : Nat} {x : Carrier} {s0 s : State} (h : Within K s0 s) (hk : 19809458480206439557179146240 ||| K = K) :
    Within K s0 (retryWaiting x s) := by
  unfold retryWaiting
  split
  · skip
    exact (Within.ite (retryJoint_within h hk)
      h)
  · skip
    exact h

theorem keyingAtFrame_within {K : Nat} {x : Carrier} {s0 s : State} (h : Within K s0 s) (hk : 19809458480206439558252888096 ||| K = K) :
    Within K s0 (keyingAtFrame x s) := by
  unfold keyingAtFrame
  exact (retryWaiting_within
    (activationDeadline_within h hk) (Within.sub hk (by simp)))

theorem commitActivation_within {K : Nat} {x : Carrier} {s0 s : State} (h : Within K s0 s) (hk : 19807040628566084398386020352 ||| K = K) :
    Within K s0 (commitActivation x s) := by
  unfold commitActivation
  extract_lets -merge -useContext x1 x2
  try clear_value x1
  have h2 : Within K s0 x2 := by
    unfold x2
    exact (State.setCipher_within h (Within.sub hk (by simp)))
  clear_value x2
  exact (Within.ite (Within.ite (State.set_within
        (State.set_within h2 (Within.sub hk (by simp))) (Within.sub hk (by simp)))
      h2)
    (State.set_within h2 (Within.sub hk (by simp))))

theorem confirmActivation_within {K : Nat} {x : Carrier} {dir : Nat} {j : Nat} {y3 : Nat} {r : Nat} {s0 s : State} (h : Within K s0 s) (hk : 19807040628566084398386020352 ||| K = K) :
    Within K s0 (confirmActivation x dir j y3 r s) := by
  unfold confirmActivation
  exact (Within.ite (commitActivation_within h hk)
    h)

theorem activationEffect_within {K : Nat} {x : Carrier} {s0 s : State} (h : Within K s0 s) (hk : 19809458480206439558252888096 ||| K = K) :
    Within K s0 (activationEffect x s) := by
  unfold activationEffect
  exact (ratchetRetry_within
    (takeActivation_within h (Within.sub hk (by simp))) (Within.sub hk (by simp)))

theorem answerRatchet_within {K : Nat} {k : Carrier} {x : Carrier} {ch : Chain} {s0 s : State} (h : Within K s0 s) (hk : 19809458480206439557179146240 ||| K = K) :
    Within K s0 (answerRatchet k x ch s) := by
  unfold answerRatchet
  extract_lets -merge -useContext x1 x2 x3
  try clear_value x2
  have h3 : Within K s0 x3 := by
    unfold x3
    exact (Within.foldl _ (fun _ _ h4 => (State.setCipher_within h4 (Within.sub hk (by simp))))
      h)
  clear_value x3
  exact (Within.ite (answerTry_within h3 hk)
    h)

theorem sendConfirm_within {K : Nat} {k : Carrier} {c : Nat} {d : Nat} {j : Nat} {y4 : Nat} {r : Nat} {s0 s : State} (h : Within K s0 s) (hk : 2417851639229258886283264 ||| K = K) :
    Within K s0 (sendConfirm k c d j y4 r s) := by
  unfold sendConfirm
  exact (send_within h hk)

theorem rekeyArrives_within {K : Nat} {k : Carrier} {x : Carrier} {seqNo : Nat} {d : Nat} {j : Nat} {y5 : Nat} {r : Nat} {n : Nat} {kcv : Nat} {s0 s : State} (h : Within K s0 s) (hk : 19809458480206439557179146240 ||| K = K) :
    Within K s0 (rekeyArrives k x seqNo d j y5 r n kcv s) := by
  unfold rekeyArrives
  extract_lets -merge -useContext x1 x2
  try clear_value x1
  try clear_value x2
  exact (Within.ite (refuse_within h (Within.sub hk (by simp)))
    (Within.ite (sendConfirm_within
        (putRxSlot_within h (Within.sub hk (by simp))) (Within.sub hk (by simp)))
      (by
        split
        · skip
          exact (refuse_within h (Within.sub hk (by simp)))
        · skip
          extract_lets -merge -useContext x3 x4 x5
          try clear_value x3
          have h4 : Within K s0 x4 := by
            unfold x4
            exact (Within.ite (takeInterval_within h (Within.sub hk (by simp)))
              h)
          clear_value x4
          have h5 : Within K s0 x5 := by
            unfold x5
            exact (loadRxSlot_within h4 (Within.sub hk (by simp)))
          clear_value x5
          exact (Within.ite (refuse_within h (Within.sub hk (by simp)))
            (Within.ite (answerRatchet_within
                (sendConfirm_within
                  (noteDerived_within h5 (Within.sub hk (by simp))) (Within.sub hk (by simp))) hk)
              (refuse_within h (Within.sub hk (by simp))))))))

theorem installEpoch_within {K : Nat} {k : Carrier} {ss : BitVec 256} {th : BitVec 256} {y3 : Nat} {s0 s : State} (h : Within K s0 s) (hk : 536870912 ||| K = K) :
    Within K s0 (installEpoch k ss th y3 s) := by
  unfold installEpoch
  extract_lets -merge -useContext x1 x2 x3
  try clear_value x1
  try clear_value x2
  try clear_value x3
  exact (putSession_within h hk)

theorem exchangeWhenDue_within {K : Nat} {k : Carrier} {s0 s : State} (h : Within K s0 s) (hk : 2417851639229259960025088 ||| K = K) :
    Within K s0 (exchangeWhenDue k s) := by
  unfold exchangeWhenDue
  exact (Within.ite (startExchange_within h hk)
    h)

theorem epochExhausted_within {K : Nat} {k : Carrier} {s0 s : State} (h : Within K s0 s) (hk : 2417851639229259960025088 ||| K = K) :
    Within K s0 (epochExhausted k s) := by
  unfold epochExhausted
  extract_lets -merge -useContext x1
  try clear_value x1
  exact (Within.ite (startExchange_within
      (putSession_within h (Within.sub hk (by simp))) hk)
    h)

theorem eraseOldKq_within {K : Nat} {k : Carrier} {s0 s : State} (h : Within K s0 s) (hk : 536870912 ||| K = K) :
    Within K s0 (eraseOldKq k s) := by
  unfold eraseOldKq
  extract_lets -merge -useContext x1
  try clear_value x1
  exact (Within.ite (putSession_within h hk)
    h)

end Sys2Proof.Machine
end

