-- ==== Sys2Proof/Laws/QuoletRate.lean ====
section
/-! SUPPORT. Laws/QuoletRate.lean: the parts of the state that each operation of Machine/QuoletRate.lean can change. -/
namespace Sys2Proof.Machine

set_option Elab.async false

open Sys2Proof

theorem showTargets_within {K : Nat} {k : Carrier} {s0 s : State} (h : Within K s0 s) (hk : 2417851639229258349412352 ||| K = K) :
    Within K s0 (showTargets k s) := by
  unfold showTargets
  exact (Within.foldl _ (fun _ _ h1 => (State.set_within h1 (Within.sub hk (by simp))))
    h)

theorem sendOffer_within {K : Nat} {k : Carrier} {s0 s : State} (h : Within K s0 s) (hk : 2417851639229258886283264 ||| K = K) :
    Within K s0 (sendOffer k s) := by
  unfold sendOffer
  exact (send_within h hk)

theorem targetChanged_within {K : Nat} {s0 s : State} (h : Within K s0 s) (hk : 2417851639229258886283264 ||| K = K) :
    Within K s0 (targetChanged s) := by
  unfold targetChanged
  exact (Within.foldl _ (fun _ _ h1 => (Within.ite (sendOffer_within
        (showTargets_within h1 (Within.sub hk (by simp))) hk)
      h1))
    h)

theorem offerArrives_within {K : Nat} {k : Carrier} {ta : Nat} {tb : Nat} {mask : Nat} {s0 s : State} (h : Within K s0 s) (hk : 2417851639229258886283264 ||| K = K) :
    Within K s0 (offerArrives k ta tb mask s) := by
  unfold offerArrives
  extract_lets -merge -useContext x1 x2
  try clear_value x1
  have h2 : Within K s0 x2 := by
    unfold x2
    exact (showTargets_within
      (putSession_within h (Within.sub hk (by simp))) (Within.sub hk (by simp)))
  clear_value x2
  exact (send_within h2 hk)

theorem setRate_within {K : Nat} {x : Carrier} {st : Nat} {s0 s : State} (h : Within K s0 s) (hk : 2417851639229258349412352 ||| K = K) :
    Within K s0 (setRate x st s) := by
  unfold setRate
  exact (State.set_within h (Within.sub hk (by simp)))

theorem stepLapse_within {K : Nat} {x : Carrier} {s0 s : State} (h : Within K s0 s) (hk : 2417851639229258349412384 ||| K = K) :
    Within K s0 (stepLapse x s) := by
  unfold stepLapse
  exact (State.raise_within
    (setRate_within h (Within.sub hk (by simp))) (Within.sub hk (by simp)) (Within.sub hk (by simp)))

theorem stepSessionLost_within {K : Nat} {x : Carrier} {s0 s : State} (h : Within K s0 s) (hk : 2417851639229258349412384 ||| K = K) :
    Within K s0 (stepSessionLost x s) := by
  unfold stepSessionLost
  exact (Within.ite (stepLapse_within h hk)
    h)

theorem stepFramerRestart_within {K : Nat} {x : Carrier} {s0 s : State} (h : Within K s0 s) (hk : 2417851639229258349412384 ||| K = K) :
    Within K s0 (stepFramerRestart x s) := by
  unfold stepFramerRestart
  exact (Within.ite (stepLapse_within h hk)
    h)

theorem sendStep_within {K : Nat} {k : Carrier} {mask : Nat} {fromMode : Nat} {toMode : Nat} {kind : Nat} {n : Nat} {s0 s : State} (h : Within K s0 s) (hk : 2417851639229258886283264 ||| K = K) :
    Within K s0 (sendStep k mask fromMode toMode kind n s) := by
  unfold sendStep
  exact (send_within h hk)

theorem recordStep_within {K : Nat} {x : Carrier} {fromMode : Nat} {toMode : Nat} {kind : Nat} {n : Nat} {s0 s : State} (h : Within K s0 s) (hk : 536870912 ||| K = K) :
    Within K s0 (recordStep x fromMode toMode kind n s) := by
  unfold recordStep
  extract_lets -merge -useContext x1
  try clear_value x1
  exact (putStep_within h hk)

theorem sendSteps_within {K : Nat} {k : Carrier} {moves : List (Carrier × Nat × Nat)} {kind : Nat} {n : Nat} {s0 s : State} (h : Within K s0 s) (hk : 2417851639229258886283264 ||| K = K) :
    Within K s0 (sendSteps k moves kind n s) := by
  unfold sendSteps
  split
  · skip
    exact h
  · skip
    exact (Within.ite (sendStep_within h hk)
      (Within.foldl _ (fun _ _ h1 => (sendStep_within h1 hk))
        h))

theorem stepOffer_within {K : Nat} {x : Carrier} {s0 s : State} (h : Within K s0 s) (hk : 2417851640355158793125888 ||| K = K) :
    Within K s0 (stepOffer x s) := by
  unfold stepOffer
  extract_lets -merge -useContext x1 x2 x3 x4 x5
  try clear_value x1
  try clear_value x3
  try clear_value x4
  have h5 : Within K s0 x5 := by
    unfold x5
    exact (Within.foldl _ (fun _ _ h6 => (setRate_within
        (recordStep_within h6 (Within.sub hk (by simp))) (Within.sub hk (by simp))))
      (State.drawn_within h (Within.sub hk (by simp))))
  clear_value x5
  split
  · skip
    exact h
  · skip
    exact (Within.ite (sendSteps_within h5 (Within.sub hk (by simp)))
      h)

theorem offerDeadline_within {K : Nat} {x : Carrier} {s0 s : State} (h : Within K s0 s) (hk : 2417851639229258349412384 ||| K = K) :
    Within K s0 (offerDeadline x s) := by
  unfold offerDeadline
  exact (Within.ite (Within.foldl _ (fun _ _ h1 => (Within.ite (stepLapse_within h1 hk)
        h1))
      h)
    h)

theorem sendStepAck_within {K : Nat} {k : Carrier} {mask : Nat} {toMode : Nat} {n : Nat} {result : Nat} {s0 s : State} (h : Within K s0 s) (hk : 2417851639229258886283264 ||| K = K) :
    Within K s0 (sendStepAck k mask toMode n result s) := by
  unfold sendStepAck
  exact (send_within h hk)

theorem stepUpArrives_within {K : Nat} {k : Carrier} {mask : Nat} {fromMode : Nat} {toMode : Nat} {kind : Nat} {n : Nat} {s0 s : State} (h : Within K s0 s) (hk : 2417851639229258886283296 ||| K = K) :
    Within K s0 (stepUpArrives k mask fromMode toMode kind n s) := by
  unfold stepUpArrives
  extract_lets -merge -useContext x1 x2 x3 x4
  try clear_value x1
  try clear_value x2
  have h3 : Within K s0 x3 := by
    unfold x3
    exact (Within.foldl _ (fun _ _ h5 => (setRate_within
        (recordStep_within h5 (Within.sub hk (by simp))) (Within.sub hk (by simp))))
      h)
  clear_value x3
  have h4 : Within K s0 x4 := by
    unfold x4
    exact (Within.ite (Within.foldl _ (fun _ _ h6 => (Within.ite (stepLapse_within h6 (Within.sub hk (by simp)))
          h6))
        h)
      h)
  clear_value x4
  exact (Within.ite (sendStepAck_within h3 (Within.sub hk (by simp)))
    (sendStepAck_within h4 (Within.sub hk (by simp))))

theorem stepDownArrives_within {K : Nat} {mask : Nat} {fromMode : Nat} {toMode : Nat} {n : Nat} {s0 s : State} (h : Within K s0 s) (hk : 2417851639229258886283264 ||| K = K) :
    Within K s0 (stepDownArrives mask fromMode toMode n s) := by
  unfold stepDownArrives
  exact (Within.foldl _ (fun _ _ h1 => (Within.ite (putStep_within h1 (Within.sub hk (by simp)))
      (State.bump_within
        (setRate_within
          (recordStep_within h1 (Within.sub hk (by simp))) (Within.sub hk (by simp))) (Within.sub hk (by simp)))))
    h)

theorem stepArrives_within {K : Nat} {k : Carrier} {seqNo : Nat} {mask : Nat} {fromMode : Nat} {toMode : Nat} {kind : Nat} {n : Nat} {s0 s : State} (h : Within K s0 s) (hk : 2417851639229258886283296 ||| K = K) :
    Within K s0 (stepArrives k seqNo mask fromMode toMode kind n s) := by
  unfold stepArrives
  exact (Within.ite (stepDownArrives_within h (Within.sub hk (by simp)))
    (Within.ite (refuse_within h (Within.sub hk (by simp)))
      (stepUpArrives_within h hk)))

theorem stepAckArrives_within {K : Nat} {mask : Nat} {toMode : Nat} {n : Nat} {result : Nat} {s0 s : State} (h : Within K s0 s) (hk : 2417851639229258886283296 ||| K = K) :
    Within K s0 (stepAckArrives mask toMode n result s) := by
  unfold stepAckArrives
  extract_lets -merge -useContext x1 x2 x3 x4
  try clear_value x1
  try clear_value x2
  have h3 : Within K s0 x3 := by
    unfold x3
    exact (Within.foldl _ (fun _ _ h5 => (putStep_within h5 (Within.sub hk (by simp))))
      h)
  clear_value x3
  try clear_value x4
  exact (Within.ite (Within.foldl _ (fun _ _ h6 => (Within.ite (Within.foldl _ (fun _ _ h7 => (setRate_within h7 (Within.sub hk (by simp))))
          h6)
        h6))
      h3)
    (Within.foldl _ (fun _ _ h8 => (Within.foldl _ (fun _ _ h9 => (Within.ite (stepLapse_within h9 (Within.sub hk (by simp)))
          h9))
        h8))
      h))

theorem stepRefusedBy_within {K : Nat} {k : Carrier} {s0 s : State} (h : Within K s0 s) (hk : 2417851639229258349412384 ||| K = K) :
    Within K s0 (stepRefusedBy k s) := by
  unfold stepRefusedBy
  exact (Within.foldl _ (fun _ _ h1 => (Within.ite (stepLapse_within h1 hk)
      h1))
    h)

theorem armedLapse_within {K : Nat} {x : Carrier} {s0 s : State} (h : Within K s0 s) (hk : 2417851639229258349412384 ||| K = K) :
    Within K s0 (armedLapse x s) := by
  unfold armedLapse
  exact (Within.ite (stepLapse_within h hk)
    h)

theorem armedJump_within {K : Nat} {x : Carrier} {s0 s : State} (h : Within K s0 s) (hk : 2417851639229258349412384 ||| K = K) :
    Within K s0 (armedJump x s) := by
  unfold armedJump
  exact (Within.ite (stepLapse_within h hk)
    h)

theorem stepDown_within {K : Nat} {x : Carrier} {s0 s : State} (h : Within K s0 s) (hk : 2417851640355158793125888 ||| K = K) :
    Within K s0 (stepDown x s) := by
  unfold stepDown
  extract_lets -merge -useContext x1 x2 x3 x4
  try clear_value x1
  try clear_value x2
  have h4 : Within K s0 x4 := by
    unfold x4
    exact (Within.foldl _ (fun _ _ h5 => (State.bump_within
        (setRate_within
          (recordStep_within h5 (Within.sub hk (by simp))) (Within.sub hk (by simp))) (Within.sub hk (by simp))))
      (State.drawn_within h (Within.sub hk (by simp))))
  clear_value x4
  split
  · skip
    exact h
  · skip
    exact (Within.ite (sendSteps_within h4 (Within.sub hk (by simp)))
      h)

theorem stepConfirming_within {K : Nat} {x : Carrier} {s0 s : State} (h : Within K s0 s) (hk : 2417851639229258886283264 ||| K = K) :
    Within K s0 (stepConfirming x s) := by
  unfold stepConfirming
  extract_lets -merge -useContext x1
  try clear_value x1
  exact (Within.ite (setRate_within
      (putStep_within h (Within.sub hk (by simp))) (Within.sub hk (by simp)))
    h)

theorem stepDone_within {K : Nat} {x : Carrier} {s0 s : State} (h : Within K s0 s) (hk : 2417851639229258886283296 ||| K = K) :
    Within K s0 (stepDone x s) := by
  unfold stepDone
  extract_lets -merge -useContext x1 x2 x3 x4
  try clear_value x1
  try clear_value x2
  have h3 : Within K s0 x3 := by
    unfold x3
    exact (putStep_within h (Within.sub hk (by simp)))
  clear_value x3
  have h4 : Within K s0 x4 := by
    unfold x4
    exact (Within.ite (State.bump_within h3 (Within.sub hk (by simp)))
      h3)
  clear_value x4
  exact (Within.ite (State.raise_within
      (setRate_within h4 (Within.sub hk (by simp))) (Within.sub hk (by simp)) (Within.sub hk (by simp)))
    h)

theorem backoffEnd_within {K : Nat} {x : Carrier} {s0 s : State} (h : Within K s0 s) (hk : 536870912 ||| K = K) :
    Within K s0 (backoffEnd x s) := by
  unfold backoffEnd
  extract_lets -merge -useContext x1
  try clear_value x1
  split
  · skip
    exact h
  · skip
    exact (Within.ite (putStep_within h hk)
      h)

end Sys2Proof.Machine
end

