-- ==== Sys2Proof/Laws/RouteProtect.lean ====
section
/-! SUPPORT. Laws/RouteProtect.lean: the parts of the state that each operation of Machine/RouteProtect.lean can change. -/
namespace Sys2Proof.Machine

set_option Elab.async false

open Sys2Proof

theorem State.setRps_within {K : Nat} {s0 s : State} {x : RouteProtect} (h : Within K s0 s) (hk : 8589934592 ||| K = K) :
    Within K s0 (State.setRps s x) := by
  unfold State.setRps
  exact (Within.upd_rps h hk _)

theorem setActive_within {K : Nat} {c : Carrier} {s0 s : State} (h : Within K s0 s) (hk : 37778931862957161709600 ||| K = K) :
    Within K s0 (setActive c s) := by
  unfold setActive
  exact (Within.ite h
    (State.raise_within
      (State.bump_within
        (State.set_within h (Within.sub hk (by simp))) (Within.sub hk (by simp))) (Within.sub hk (by simp)) (Within.sub hk (by simp))))

theorem activeFails_within {K : Nat} {s0 s : State} (h : Within K s0 s) (hk : 37778931862965751644192 ||| K = K) :
    Within K s0 (activeFails s) := by
  unfold activeFails
  extract_lets -merge -useContext x1
  try clear_value x1
  exact (Within.ite h
    (setActive_within
      (State.setRps_within h (Within.sub hk (by simp))) (Within.sub hk (by simp))))

theorem sfHoldoff_within {K : Nat} {s0 s : State} (h : Within K s0 s) (hk : 37778931862965751644192 ||| K = K) :
    Within K s0 (sfHoldoff s) := by
  unfold sfHoldoff
  exact (Within.ite (activeFails_within h hk)
    h)

theorem wtrExpiry_within {K : Nat} {s0 s : State} (h : Within K s0 s) (hk : 37778931862957161709600 ||| K = K) :
    Within K s0 (wtrExpiry s) := by
  unfold wtrExpiry
  exact (Within.ite (setActive_within h hk)
    h)

theorem showApplied_within {K : Nat} {s0 s : State} (h : Within K s0 s) (hk : 37778931862957161709568 ||| K = K) :
    Within K s0 (showApplied s) := by
  unfold showApplied
  exact (State.set_within h (Within.sub hk (by simp)))

theorem raiseApplied_within {K : Nat} {lfs : Nat} {s0 s : State} (h : Within K s0 s) (hk : 37778931862965751644192 ||| K = K) :
    Within K s0 (raiseApplied lfs s) := by
  unfold raiseApplied
  extract_lets -merge -useContext x1 x2
  try clear_value x1
  have h2 : Within K s0 x2 := by
    unfold x2
    exact (showApplied_within
      (State.setRps_within h (Within.sub hk (by simp))) (Within.sub hk (by simp)))
  clear_value x2
  exact (Within.ite (showApplied_within h (Within.sub hk (by simp)))
    (State.raise_within
      (State.addSat_within h2 (Within.sub hk (by simp))) (Within.sub hk (by simp)) (Within.sub hk (by simp))))

theorem dramFollow_within {K : Nat} {s0 s : State} (h : Within K s0 s) (hk : 4873482210321473862631456 ||| K = K) :
    Within K s0 (dramFollow s) := by
  unfold dramFollow
  exact (Within.ite h
    (Within.ite (State.set_within h (Within.sub hk (by simp)))
      (Within.ite h
        (snapTruncate_within
          (State.raise_within
            (State.set_within h (Within.sub hk (by simp))) (Within.sub hk (by simp)) (Within.sub hk (by simp))) (Within.sub hk (by simp))))))

theorem realign_within {K : Nat} {s0 s : State} (h : Within K s0 s) (hk : 37778931862965751644192 ||| K = K) :
    Within K s0 (realign s) := by
  unfold realign
  exact (raiseApplied_within h hk)

theorem singleFromSearch_within {K : Nat} {c : Carrier} {csf : Nat} {lf : Nat} {s0 s : State} (h : Within K s0 s) (hk : 37778931862965751644192 ||| K = K) :
    Within K s0 (singleFromSearch c csf lf s) := by
  unfold singleFromSearch
  extract_lets -merge -useContext x1 x2 x3 x4
  try clear_value x1
  try clear_value x2
  have h3 : Within K s0 x3 := by
    unfold x3
    exact (State.setRps_within h (Within.sub hk (by simp)))
  clear_value x3
  have h4 : Within K s0 x4 := by
    unfold x4
    exact (State.set_within
      (State.set_within
        (State.set_within h3 (Within.sub hk (by simp))) (Within.sub hk (by simp))) (Within.sub hk (by simp)))
  clear_value x4
  exact (Within.ite h4
    (activeFails_within h4 hk))

theorem enterAligned_within {K : Nat} {s0 s : State} (h : Within K s0 s) (hk : 4873482210321482452566048 ||| K = K) :
    Within K s0 (enterAligned s) := by
  unfold enterAligned
  extract_lets -merge -useContext x1 x2 x3
  try clear_value x1
  have h2 : Within K s0 x2 := by
    unfold x2
    exact (State.setRps_within h (Within.sub hk (by simp)))
  clear_value x2
  have h3 : Within K s0 x3 := by
    unfold x3
    exact (Within.ite (realign_within h2 (Within.sub hk (by simp)))
      (showApplied_within h2 (Within.sub hk (by simp))))
  clear_value x3
  exact (dramFollow_within
    (State.raise_within
      (State.set_within h3 (Within.sub hk (by simp))) (Within.sub hk (by simp)) (Within.sub hk (by simp))) (Within.sub hk (by simp)))

theorem enterSingle_within {K : Nat} {c : Carrier} {s0 s : State} (h : Within K s0 s) (hk : 37778931862965751644192 ||| K = K) :
    Within K s0 (enterSingle c s) := by
  unfold enterSingle
  extract_lets -merge -useContext x1 x2 x3 x4
  try clear_value x1
  try clear_value x2
  have h3 : Within K s0 x3 := by
    unfold x3
    exact (State.setRps_within h (Within.sub hk (by simp)))
  clear_value x3
  have h4 : Within K s0 x4 := by
    unfold x4
    exact (State.raise_within
      (State.set_within h3 (Within.sub hk (by simp))) (Within.sub hk (by simp)) (Within.sub hk (by simp)))
  clear_value x4
  exact (Within.ite h4
    (activeFails_within h4 hk))

theorem realignDrift_within {K : Nat} {s0 s : State} (h : Within K s0 s) (hk : 37778931862965751644192 ||| K = K) :
    Within K s0 (realignDrift s) := by
  unfold realignDrift
  extract_lets -merge -useContext x1 x2
  try clear_value x1
  have h2 : Within K s0 x2 := by
    unfold x2
    exact (State.setRps_within h (Within.sub hk (by simp)))
  clear_value x2
  exact (Within.ite (State.set_within (realign_within h2 hk) (Within.sub hk (by simp)))
    h)

theorem pairStep_within {K : Nat} {s0 s : State} (h : Within K s0 s) (hk : 4873482210321482452566048 ||| K = K) :
    Within K s0 (pairStep s) := by
  unfold pairStep
  extract_lets -merge -useContext x1 x2
  try clear_value x1
  have h2 : Within K s0 x2 := by
    unfold x2
    exact (State.set_within h (Within.sub hk (by simp)))
  clear_value x2
  exact (Within.ite h
    (Within.ite (Within.ite (State.set_within
          (State.setRps_within h (Within.sub hk (by simp))) (Within.sub hk (by simp)))
        (Within.ite (enterAligned_within h hk)
          h))
      (Within.ite (Within.ite (enterSingle_within h (Within.sub hk (by simp)))
          (Within.ite (enterSingle_within h (Within.sub hk (by simp)))
            (Within.ite (Within.ite (realignDrift_within h2 (Within.sub hk (by simp)))
                h2)
              h)))
        h)))

theorem copyArrives_within {K : Nat} {c : Carrier} {x : RouteCopy} {prot : Bool} {s0 s : State} (h : Within K s0 s) (hk : 4873482210321482452566048 ||| K = K) :
    Within K s0 (copyArrives c x prot s) := by
  unfold copyArrives
  extract_lets -merge -useContext x1 x2 x3 x4 x5 x6 x7 x8 x9 x10 x11 x12 x13 x14
  have h1 : Within K s0 x1 := by
    unfold x1
    exact (Within.ite (singleFromSearch_within h (Within.sub hk (by simp)))
      h)
  clear_value x1
  try clear_value x2
  try clear_value x4
  try clear_value x5
  have h6 : Within K s0 x6 := by
    unfold x6
    exact (State.setRps_within h1 (Within.sub hk (by simp)))
  clear_value x6
  try clear_value x7
  try clear_value x8
  have h9 : Within K s0 x9 := by
    unfold x9
    split
    · skip
      extract_lets -merge -useContext x15 x16 x17
      have h15 : Within K s0 x15 := by
        unfold x15
        exact (State.set_within h6 (Within.sub hk (by simp)))
      clear_value x15
      have h16 : Within K s0 x16 := by
        unfold x16
        exact (State.set_within h15 (Within.sub hk (by simp)))
      clear_value x16
      try clear_value x17
      exact (State.setRps_within h16 (Within.sub hk (by simp)))
    · skip
      exact (Within.ite (State.setRps_within h6 (Within.sub hk (by simp)))
        h6)
  clear_value x9
  try clear_value x10
  have h11 : Within K s0 x11 := by
    unfold x11
    exact (State.bump_within h9 (Within.sub hk (by simp)))
  clear_value x11
  try clear_value x12
  try clear_value x13
  have h14 : Within K s0 x14 := by
    unfold x14
    exact (Within.ite (Within.ite (State.setRps_within h11 (Within.sub hk (by simp)))
        h9)
      (State.setRps_within h9 (Within.sub hk (by simp))))
  clear_value x14
  exact (Within.ite (State.bump_within h (Within.sub hk (by simp)))
    (pairStep_within
      (dramFollow_within h14 (Within.sub hk (by simp))) hk))

theorem testCopy_within {K : Nat} {s0 s : State} {c : Carrier} {x : Option RouteCopy} (h : Within K s0 s) (hk : 19807040628566084432745758752 ||| K = K) :
    Within K s0 (testCopy s c x).1 := by
  unfold testCopy
  split
  · skip
    extract_lets -merge -useContext x1 x2
    try clear_value x1
    have h2 : Within K s0 x2.1 := by
      unfold x2
      exact (receiveTests_within h hk)
    clear_value x2
    split
    · skip
      exact (Within.fst h2)
    · skip
      exact (Within.fst h)
  · skip
    exact (Within.fst h)

theorem bothFail_within {K : Nat} {s0 s : State} (h : Within K s0 s) (hk : 37778931862991521447968 ||| K = K) :
    Within K s0 (bothFail s) := by
  unfold bothFail
  extract_lets -merge -useContext x1
  have h1 : Within K s0 x1 := by
    unfold x1
    exact (State.bump_within h (Within.sub hk (by simp)))
  clear_value x1
  exact (Within.ite (noteTrigger_within
      (State.raise_within h1 (Within.sub hk (by simp)) (Within.sub hk (by simp))) (Within.sub hk (by simp)))
    h1)

theorem outputInstant_within {K : Nat} {s0 s : State} (h : Within K s0 s) (hk : 108943596939323785707935285280 ||| K = K) :
    Within K s0 (outputInstant s) := by
  unfold outputInstant
  extract_lets -merge -useContext x1 x2 x3 x4 x5 x6
  try clear_value x1
  try clear_value x2
  have f3 : ∀ a0 a1 t, Within K s0 t → Within K s0 (x3 a0 a1 t) := by
    unfold x3
    exact fun _ _ _ h3 => (State.setRps_within h3 (Within.sub hk (by simp)))
  clear_value x3
  have f4 : ∀ a0 t, Within K s0 t → Within K s0 (x4 a0 t) := by
    unfold x4
    exact fun _ _ h4 => (Within.ite (State.addSat_within h4 (Within.sub hk (by simp)))
      h4)
  clear_value x4
  try clear_value x5
  have f6 : ∀ a0 t, Within K s0 t → Within K s0 (x6 a0 t) := by
    unfold x6
    exact fun _ _ h6 => (by
      extract_lets -merge -useContext x7 x8
      try clear_value x7
      have h8 : Within K s0 x8 := by
        unfold x8
        exact (State.setRps_within h6 (Within.sub hk (by simp)))
      clear_value x8
      exact (deliverBlocks_within
        (Within.ite (State.addPair_within h8 (Within.sub hk (by simp)))
          h8) (Within.sub hk (by simp))))
  clear_value x6
  exact (Within.ite h
    (Within.ite (State.setRps_within h (Within.sub hk (by simp)))
      (by
        split
        · skip
          exact h
        · skip
          extract_lets -merge -useContext x9 x10 x11 x12 x13 x14 x15 x16 x17 x18 x19 x20 x21 x22 x23 x24
          try clear_value x9
          try clear_value x10
          try clear_value x11
          have h12 : Within K s0 x12 := by
            unfold x12
            exact (State.setRps_within h (Within.sub hk (by simp)))
          clear_value x12
          have h13 : Within K s0 x13 := by
            unfold x13
            exact (f3 _ _ _ (f3 _ _ _ h12))
          clear_value x13
          have h14 : Within K s0 x14 := by
            unfold x14
            exact (Within.ite (State.bump_within h13 (Within.sub hk (by simp)))
              h13)
          clear_value x14
          have h15 : Within K s0 x15.1 := by
            unfold x15
            exact (testCopy_within h14 (Within.sub hk (by simp)))
          clear_value x15
          have h16 : Within K s0 x16.1 := by
            unfold x16
            exact (testCopy_within h15 (Within.sub hk (by simp)))
          clear_value x16
          have h17 : Within K s0 x17 := by
            unfold x17
            exact h16
          clear_value x17
          try clear_value x18
          have h19 : Within K s0 x19 := by
            unfold x19
            exact (bothFail_within h17 (Within.sub hk (by simp)))
          clear_value x19
          try clear_value x20
          try clear_value x21
          have h22 : Within K s0 x22 := by
            unfold x22
            exact (bothFail_within h17 (Within.sub hk (by simp)))
          clear_value x22
          try clear_value x23
          have h24 : Within K s0 x24 := by
            unfold x24
            split
            · skip
              exact (f6 _ _ h17)
            · skip
              exact (Within.ite (f6 _ _ (State.bump_within h17 (Within.sub hk (by simp))))
                (deliverBlocks_within
                  (f4 _ _ (State.setRps_within h19 (Within.sub hk (by simp)))) (Within.sub hk (by simp))))
            · skip
              exact (deliverBlocks_within
                (f4 _ _ (State.setRps_within h22 (Within.sub hk (by simp)))) (Within.sub hk (by simp)))
          clear_value x24
          exact (pairStep_within h24 (Within.sub hk (by simp))))))

theorem setSwitch_within {K : Nat} {st : Nat} {s0 s : State} (h : Within K s0 s) (hk : 37778931862957161709568 ||| K = K) :
    Within K s0 (setSwitch st s) := by
  unfold setSwitch
  exact (State.set_within h (Within.sub hk (by simp)))

theorem driveRoute_within {K : Nat} {route : Nat} {s0 s : State} (h : Within K s0 s) (hk : 37778936366565379014656 ||| K = K) :
    Within K s0 (driveRoute route s) := by
  unfold driveRoute
  extract_lets -merge -useContext x1 x2
  try clear_value x1
  try clear_value x2
  exact (startTimer_within
    (State.set_within
      (State.setRps_within h (Within.sub hk (by simp))) (Within.sub hk (by simp))) (Within.sub hk (by simp)))

theorem sendRoute_within {K : Nat} {k : Carrier} {phase : Nat} {route : Nat} {cause : Nat} {n : Nat} {s0 s : State} (h : Within K s0 s) (hk : 2417851639229258886283264 ||| K = K) :
    Within K s0 (sendRoute k phase route cause n s) := by
  unfold sendRoute
  exact (send_within h hk)

theorem switchRequest_within {K : Nat} {route : Nat} {cause : Nat} {s0 s : State} (h : Within K s0 s) (hk : 2455630572218124544770048 ||| K = K) :
    Within K s0 (switchRequest route cause s) := by
  unfold switchRequest
  extract_lets -merge -useContext x1 x2 x3
  try clear_value x1
  try clear_value x2
  have h3 : Within K s0 x3 := by
    unfold x3
    exact (State.setRps_within
      (State.drawn_within h (Within.sub hk (by simp))) (Within.sub hk (by simp)))
  clear_value x3
  exact (Within.ite (by
      split
      · skip
        exact (sendRoute_within
          (setSwitch_within h3 (Within.sub hk (by simp))) (Within.sub hk (by simp)))
      · skip
        exact h)
    h)

theorem switchOnFailure_within {K : Nat} {s0 s : State} (h : Within K s0 s) (hk : 2455630572218124544770048 ||| K = K) :
    Within K s0 (switchOnFailure s) := by
  unfold switchOnFailure
  extract_lets -merge -useContext x1 x2
  try clear_value x1
  try clear_value x2
  exact (Within.ite h
    (Within.ite (switchRequest_within h hk)
      (Within.ite (switchRequest_within h hk)
        h)))

theorem switchAsked_within {K : Nat} {k : Carrier} {seqNo : Nat} {route : Nat} {cause : Nat} {asked : Nat} {s0 s : State} (h : Within K s0 s) (hk : 2455630572218124544770048 ||| K = K) :
    Within K s0 (switchAsked k seqNo route cause asked s) := by
  unfold switchAsked
  extract_lets -merge -useContext x1 x2 x3 x4 x5
  try clear_value x1
  try clear_value x2
  try clear_value x3
  try clear_value x4
  have h5 : Within K s0 x5 := by
    unfold x5
    exact (State.setRps_within
      (State.drawn_within h (Within.sub hk (by simp))) (Within.sub hk (by simp)))
  clear_value x5
  exact (Within.ite (refuse_within h (Within.sub hk (by simp)))
    (sendRoute_within
      (setSwitch_within h5 (Within.sub hk (by simp))) (Within.sub hk (by simp))))

theorem switchAccepted_within {K : Nat} {s0 s : State} (h : Within K s0 s) (hk : 37778931862957161709568 ||| K = K) :
    Within K s0 (switchAccepted s) := by
  unfold switchAccepted
  exact (Within.ite (setSwitch_within h hk)
    h)

theorem switchRefused_within {K : Nat} {s0 s : State} (h : Within K s0 s) (hk : 37778931862957161709568 ||| K = K) :
    Within K s0 (switchRefused s) := by
  unfold switchRefused
  exact (Within.ite (setSwitch_within h hk)
    h)

theorem switchDeadline_within {K : Nat} {s0 s : State} (h : Within K s0 s) (hk : 37778931862957161709568 ||| K = K) :
    Within K s0 (switchDeadline s) := by
  unfold switchDeadline
  exact (Within.ite (setSwitch_within h hk)
    h)

theorem switchToggle_within {K : Nat} {s0 s : State} (h : Within K s0 s) (hk : 37778936366565379014656 ||| K = K) :
    Within K s0 (switchToggle s) := by
  unfold switchToggle
  exact (Within.ite (startTimer_within
      (setSwitch_within (driveRoute_within h hk) (Within.sub hk (by simp))) (Within.sub hk (by simp)))
    h)

theorem switchSettled_within {K : Nat} {s0 s : State} (h : Within K s0 s) (hk : 18494449512157725874595049776 ||| K = K) :
    Within K s0 (switchSettled s) := by
  unfold switchSettled
  extract_lets -merge -useContext x1 x2 x3
  try clear_value x1
  have h2 : Within K s0 x2 := by
    unfold x2
    exact (stopTimer_within h (Within.sub hk (by simp)))
  clear_value x2
  have h3 : Within K s0 x3 := by
    unfold x3
    exact (hardwareStrobe_within h2 (Within.sub hk (by simp)) (Within.sub hk (by simp)))
  clear_value x3
  exact (Within.ite (Within.ite h3
      (acqRestart_within h3 (Within.sub hk (by simp))))
    h)

theorem switchDone_within {K : Nat} {hitUs : Nat} {s0 s : State} (h : Within K s0 s) (hk : 2455630571092224637927456 ||| K = K) :
    Within K s0 (switchDone hitUs s) := by
  unfold switchDone
  extract_lets -merge -useContext x1 x2 x3 x4
  try clear_value x1
  have h2 : Within K s0 x2 := by
    unfold x2
    exact (State.set_within
      (State.set_within h (Within.sub hk (by simp))) (Within.sub hk (by simp)))
  clear_value x2
  have h3 : Within K s0 x3 := by
    unfold x3
    exact (setSwitch_within
      (State.raise_within
        (State.bump_within h2 (Within.sub hk (by simp))) (Within.sub hk (by simp)) (Within.sub hk (by simp))) (Within.sub hk (by simp)))
  clear_value x3
  try clear_value x4
  exact (Within.ite (Within.ite (by
        split
        · skip
          exact (sendRoute_within h3 (Within.sub hk (by simp)))
        · skip
          exact (State.setRps_within h3 (Within.sub hk (by simp))))
      h3)
    h)

theorem switchUnilateral_within {K : Nat} {s0 s : State} (h : Within K s0 s) (hk : 37778936366565379014688 ||| K = K) :
    Within K s0 (switchUnilateral s) := by
  unfold switchUnilateral
  extract_lets -merge -useContext x1 x2
  try clear_value x1
  try clear_value x2
  exact (Within.ite h
    (Within.ite (State.raise_within
        (State.bump_within
          (driveRoute_within h (Within.sub hk (by simp))) (Within.sub hk (by simp))) (Within.sub hk (by simp)) (Within.sub hk (by simp)))
      (Within.ite (setSwitch_within
          (driveRoute_within h (Within.sub hk (by simp))) (Within.sub hk (by simp)))
        h)))

theorem switchReport_within {K : Nat} {s0 s : State} (h : Within K s0 s) (hk : 2417851639229267476217856 ||| K = K) :
    Within K s0 (switchReport s) := by
  unfold switchReport
  extract_lets -merge -useContext x1
  try clear_value x1
  exact (Within.ite (by
      split
      · skip
        exact (Within.ite (sendRoute_within
            (State.setRps_within h (Within.sub hk (by simp))) (Within.sub hk (by simp)))
          h)
      · skip
        exact h)
    h)

theorem routeManual_within {K : Nat} {route : Nat} {s0 s : State} (h : Within K s0 s) (hk : 2455630572218124544770080 ||| K = K) :
    Within K s0 (routeManual route s) := by
  unfold routeManual
  extract_lets -merge -useContext x1 x2
  try clear_value x1
  try clear_value x2
  exact (Within.ite (Within.ite (setActive_within
        (State.setRps_within h (Within.sub hk (by simp))) (Within.sub hk (by simp)))
      h)
    (switchRequest_within h (Within.sub hk (by simp))))

theorem routeForced_within {K : Nat} {route : Nat} {s0 s : State} (h : Within K s0 s) (hk : 2455630572218124544770080 ||| K = K) :
    Within K s0 (routeForced route s) := by
  unfold routeForced
  exact (Within.ite (setActive_within
      (State.set_within h (Within.sub hk (by simp))) (Within.sub hk (by simp)))
    (Within.ite (switchRequest_within
        (State.set_within h (Within.sub hk (by simp))) (Within.sub hk (by simp)))
      h))

theorem routeClear_within {K : Nat} {s0 s : State} (h : Within K s0 s) (hk : 37778931862965751644160 ||| K = K) :
    Within K s0 (routeClear s) := by
  unfold routeClear
  extract_lets -merge -useContext x1
  try clear_value x1
  exact (State.setRps_within
    (State.set_within h (Within.sub hk (by simp))) (Within.sub hk (by simp)))

theorem rpsWritten_within {K : Nat} {y0 : Nat} {new : Word} {s0 s : State} (h : Within K s0 s) (hk : 2455630572218124544770080 ||| K = K) :
    Within K s0 (rpsWritten y0 new s) := by
  unfold rpsWritten
  extract_lets -merge -useContext x1 x2
  try clear_value x1
  have h2 : Within K s0 x2 := by
    unfold x2
    exact (Within.ite (realignDrift_within h (Within.sub hk (by simp)))
      h)
  clear_value x2
  exact (Within.ite (by
      split
      · skip
        exact (routeManual_within h2 hk)
      · skip
        exact (routeForced_within h2 hk)
      · skip
        exact (routeClear_within h2 (Within.sub hk (by simp)))
      · skip
        exact h2)
    (Within.ite (Within.ite (realignDrift_within h (Within.sub hk (by simp)))
        h)
      h))

theorem rpsStart_within {K : Nat} {s0 s : State} (h : Within K s0 s) (hk : 37778931862957161709568 ||| K = K) :
    Within K s0 (rpsStart s) := by
  unfold rpsStart
  exact (State.clearAll_within h (Within.sub hk (by simp)))

theorem rpsRunning_within {K : Nat} {s0 s : State} (h : Within K s0 s) (hk : 37778931862957161709568 ||| K = K) :
    Within K s0 (rpsRunning s) := by
  unfold rpsRunning
  exact (Within.ite (State.set_within h (Within.sub hk (by simp)))
    h)

theorem rpsStop_within {K : Nat} {s0 s : State} (h : Within K s0 s) (hk : 37778931862965751644160 ||| K = K) :
    Within K s0 (rpsStop s) := by
  unfold rpsStop
  extract_lets -merge -useContext x1 x2
  try clear_value x1
  have h2 : Within K s0 x2 := by
    unfold x2
    exact (State.setRps_within h (Within.sub hk (by simp)))
  clear_value x2
  exact (State.clearAll_within h2 (Within.sub hk (by simp)))

end Sys2Proof.Machine
end

