-- ==== Sys2Proof/Laws/QuoletSession.lean ====
section
/-! SUPPORT. Laws/QuoletSession.lean: the parts of the state that each operation of Machine/QuoletSession.lean can change. -/
namespace Sys2Proof.Machine

set_option Elab.async false

open Sys2Proof

theorem leaveKeyed_within {K : Nat} {k : Carrier} {s0 s : State} (h : Within K s0 s) (hk : 2417851639229258886283296 ||| K = K) :
    Within K s0 (leaveKeyed k s) := by
  unfold leaveKeyed
  extract_lets -merge -useContext x1 x2
  have h1 : Within K s0 x1 := by
    unfold x1
    exact (Within.foldl _ (fun _ _ h3 => (stepSessionLost_within h3 (Within.sub hk (by simp))))
      h)
  clear_value x1
  try clear_value x2
  exact (Within.ite (State.setQlt_within h1 (Within.sub hk (by simp)))
    h)

theorem enterNegotiate_within {K : Nat} {k : Carrier} {s0 s : State} (h : Within K s0 s) (hk : 2417851639229259960025120 ||| K = K) :
    Within K s0 (enterNegotiate k s) := by
  unfold enterNegotiate
  extract_lets -merge -useContext x1 x2 x3 x4 x5 x6 x7 x8
  have h1 : Within K s0 x1 := by
    unfold x1
    exact (leaveKeyed_within h (Within.sub hk (by simp)))
  clear_value x1
  try clear_value x2
  try clear_value x3
  try clear_value x4
  have h5 : Within K s0 x5 := by
    unfold x5
    exact (putSession_within
      (State.randomDrawn_within h1 (Within.sub hk (by simp))) (Within.sub hk (by simp)))
  clear_value x5
  try clear_value x6
  have h7 : Within K s0 x7 := by
    unfold x7
    split
    · skip
      exact (send_within
        (State.setQlt_within h5 (Within.sub hk (by simp))) (Within.sub hk (by simp)))
    · skip
      exact h5
  clear_value x7
  have h8 : Within K s0 x8 := by
    unfold x8
    exact (send_within h7 (Within.sub hk (by simp)))
  clear_value x8
  exact (Within.ite h
    (showSessions_within
      (send_within h8 (Within.sub hk (by simp))) (Within.sub hk (by simp))))

theorem sessionDown_within {K : Nat} {k : Carrier} {s0 s : State} (h : Within K s0 s) (hk : 2417851639229258886283296 ||| K = K) :
    Within K s0 (sessionDown k s) := by
  unfold sessionDown
  extract_lets -merge -useContext x1 x2 x3
  try clear_value x1
  have h2 : Within K s0 x2 := by
    unfold x2
    exact (leaveKeyed_within h hk)
  clear_value x2
  have h3 : Within K s0 x3 := by
    unfold x3
    exact (Within.foldl _ (fun _ _ h4 => (State.setQlt_within h4 (Within.sub hk (by simp))))
      h2)
  clear_value x3
  exact (showSessions_within
    (State.raiseIf_within
      (putSession_within h3 (Within.sub hk (by simp))) (Within.sub hk (by simp)) (Within.sub hk (by simp))) (Within.sub hk (by simp)))

theorem sessionFailed_within {K : Nat} {k : Carrier} {cause : Nat} {s0 s : State} (h : Within K s0 s) (hk : 2535303618308098032253366435872 ||| K = K) :
    Within K s0 (sessionFailed k cause s) := by
  unfold sessionFailed
  extract_lets -merge -useContext x1 x2 x3
  try clear_value x1
  have h2 : Within K s0 x2 := by
    unfold x2
    exact (putSession_within h (Within.sub hk (by simp)))
  clear_value x2
  have h3 : Within K s0 x3 := by
    unfold x3
    exact (State.raise_within
      (State.set_within h2 (Within.sub hk (by simp))) (Within.sub hk (by simp)) (Within.sub hk (by simp)))
  clear_value x3
  exact (showSessions_within
    (secLog_within h3 (Within.sub hk (by simp))) (Within.sub hk (by simp)))

theorem failHandshake_within {K : Nat} {k : Carrier} {type : Nat} {seqNo : Nat} {reason : Nat} {s0 s : State} (h : Within K s0 s) (hk : 2535303618308098032253366435872 ||| K = K) :
    Within K s0 (failHandshake k type seqNo reason s) := by
  unfold failHandshake
  extract_lets -merge -useContext x1
  have h1 : Within K s0 x1 := by
    unfold x1
    exact (State.raiseIf_within h (Within.sub hk (by simp)) (Within.sub hk (by simp)))
  clear_value x1
  exact (sessionFailed_within
    (refuse_within h1 (Within.sub hk (by simp))) hk)

theorem joinPath_within {K : Nat} {x : Carrier} {k : Carrier} {s0 s : State} (h : Within K s0 s) (hk : 19809458480206439558252888064 ||| K = K) :
    Within K s0 (joinPath x k s) := by
  unfold joinPath
  extract_lets -merge -useContext x1 x2
  try clear_value x1
  have h2 : Within K s0 x2 := by
    unfold x2
    exact (State.setQlt_within h (Within.sub hk (by simp)))
  clear_value x2
  exact (showSessions_within
    (ratchetDue_within
      (showTargets_within h2 (Within.sub hk (by simp))) hk) (Within.sub hk (by simp)))

theorem startSession_within {K : Nat} {x : Carrier} {s0 s : State} (h : Within K s0 s) (hk : 2417851639229259960025120 ||| K = K) :
    Within K s0 (startSession x s) := by
  unfold startSession
  extract_lets -merge -useContext x1 x2
  try clear_value x1
  have h2 : Within K s0 x2 := by
    unfold x2
    exact (State.setQlt_within h (Within.sub hk (by simp)))
  clear_value x2
  exact (enterNegotiate_within
    (putSession_within h2 (Within.sub hk (by simp))) hk)

theorem dropPartial_within {K : Nat} {x : Carrier} {pilot : Bool} {s0 s : State} (h : Within K s0 s) (hk : 2417851639229258886283264 ||| K = K) :
    Within K s0 (dropPartial x pilot s) := by
  unfold dropPartial
  exact (Within.ite (breakPilot_within h hk)
    (breakInband_within h hk))

theorem pathChange_within {K : Nat} {x : Carrier} {s0 s : State} (h : Within K s0 s) (hk : 19809458480206439558252888096 ||| K = K) :
    Within K s0 (pathChange x s) := by
  unfold pathChange
  extract_lets -merge -useContext x1 x2 x3 x4 x5 x6
  try clear_value x1
  try clear_value x2
  have h3 : Within K s0 x3 := by
    unfold x3
    exact (State.set_within h (Within.sub hk (by simp)))
  clear_value x3
  have h4 : Within K s0 x4 := by
    unfold x4
    exact (Within.ite (dropPartial_within
        (State.set_within h3 (Within.sub hk (by simp))) (Within.sub hk (by simp)))
      h3)
  clear_value x4
  try clear_value x5
  have h6 : Within K s0 x6 := by
    unfold x6
    exact (Within.ite (State.setQlt_within h4 (Within.sub hk (by simp)))
      h4)
  clear_value x6
  exact (Within.ite h
    (Within.ite (by
        split
        · skip
          exact (joinPath_within h6 (Within.sub hk (by simp)))
        · skip
          exact (startSession_within h6 (Within.sub hk (by simp))))
      (Within.ite (enterNegotiate_within h6 (Within.sub hk (by simp)))
        (showSessions_within h6 (Within.sub hk (by simp))))))

theorem sessionPathless_within {K : Nat} {k : Carrier} {s0 s : State} (h : Within K s0 s) (hk : 2417851639229258886283296 ||| K = K) :
    Within K s0 (sessionPathless k s) := by
  unfold sessionPathless
  exact (Within.ite h
    (sessionDown_within h hk))

theorem handshakeTimeout_within {K : Nat} {k : Carrier} {s0 s : State} (h : Within K s0 s) (hk : 2535303618308098032253366435872 ||| K = K) :
    Within K s0 (handshakeTimeout k s) := by
  unfold handshakeTimeout
  extract_lets -merge -useContext x1
  try clear_value x1
  exact (Within.ite (sessionFailed_within h hk)
    h)

theorem failedRetry_within {K : Nat} {k : Carrier} {s0 s : State} (h : Within K s0 s) (hk : 2417851639229259960025120 ||| K = K) :
    Within K s0 (failedRetry k s) := by
  unfold failedRetry
  exact (Within.ite (enterNegotiate_within h hk)
    h)

theorem keepPeer_within {K : Nat} {k : Carrier} {type : Nat} {m : Message} {s0 s : State} (h : Within K s0 s) (hk : 536870912 ||| K = K) :
    Within K s0 (keepPeer k type m s) := by
  unfold keepPeer
  extract_lets -merge -useContext x1
  try clear_value x1
  exact (putSession_within h hk)

theorem mergeSessions_within {K : Nat} {s0 s : State} (h : Within K s0 s) (hk : 19809458480206439558252888096 ||| K = K) :
    Within K s0 (mergeSessions s) := by
  unfold mergeSessions
  extract_lets -merge -useContext x1 x2
  try clear_value x1
  try clear_value x2
  exact (Within.ite (joinPath_within
      (sessionDown_within h (Within.sub hk (by simp))) (Within.sub hk (by simp)))
    h)

theorem enterKeyed_within {K : Nat} {k : Carrier} {s0 s : State} (h : Within K s0 s) (hk : 2555110658936665242551659298848 ||| K = K) :
    Within K s0 (enterKeyed k s) := by
  unfold enterKeyed
  extract_lets -merge -useContext x1 x2 x3 x4 x5 x6
  try clear_value x1
  have h2 : Within K s0 x2 := by
    unfold x2
    exact (putSession_within h (Within.sub hk (by simp)))
  clear_value x2
  try clear_value x3
  have h4 : Within K s0 x4 := by
    unfold x4
    exact (State.setPlinth_within h2 (Within.sub hk (by simp)))
  clear_value x4
  have h5 : Within K s0 x5 := by
    unfold x5
    exact (State.raise_within
      (State.set_within h4 (Within.sub hk (by simp))) (Within.sub hk (by simp)) (Within.sub hk (by simp)))
  clear_value x5
  have h6 : Within K s0 x6 := by
    unfold x6
    exact (sendOffer_within
      (showTargets_within h5 (Within.sub hk (by simp))) (Within.sub hk (by simp)))
  clear_value x6
  exact (mergeSessions_within
    (showSessions_within
      (ratchetDue_within h6 (Within.sub hk (by simp))) (Within.sub hk (by simp))) (Within.sub hk (by simp)))

theorem sendHandshakeConfirm_within {K : Nat} {k : Carrier} {s0 s : State} (h : Within K s0 s) (hk : 2555110658936665242551659298848 ||| K = K) :
    Within K s0 (sendHandshakeConfirm k s) := by
  unfold sendHandshakeConfirm
  extract_lets -merge -useContext x1 x2 x3 x4
  try clear_value x1
  have h2 : Within K s0 x2 := by
    unfold x2
    exact (sendWith_within h (Within.sub hk (by simp)))
  clear_value x2
  try clear_value x3
  have h4 : Within K s0 x4 := by
    unfold x4
    exact (putSession_within h2 (Within.sub hk (by simp)))
  clear_value x4
  exact (Within.ite (enterKeyed_within h4 hk)
    h4)

theorem derived_within {K : Nat} {k : Carrier} {ss : BitVec 256} {y2 : Nat} {s0 s : State} (h : Within K s0 s) (hk : 2555110658936665242551659298848 ||| K = K) :
    Within K s0 (derived k ss y2 s) := by
  unfold derived
  extract_lets -merge -useContext x1 x2
  have h1 : Within K s0 x1 := by
    unfold x1
    exact (installEpoch_within h (Within.sub hk (by simp)))
  clear_value x1
  try clear_value x2
  exact (Within.ite (showSessions_within
      (State.setPlinth_within h1 (Within.sub hk (by simp))) (Within.sub hk (by simp)))
    (sendHandshakeConfirm_within
      (installEpoch_within h (Within.sub hk (by simp))) hk))

theorem processKemInit_within {K : Nat} {k : Carrier} {m : Message} {s0 s : State} (h : Within K s0 s) (hk : 2555110658936665242551659298848 ||| K = K) :
    Within K s0 (processKemInit k m s) := by
  unfold processKemInit
  extract_lets -merge -useContext x1 x2 x3
  try clear_value x1
  try clear_value x2
  have h3 : Within K s0 x3 := by
    unfold x3
    exact (keepPeer_within
      (State.randomDrawn_within h (Within.sub hk (by simp))) (Within.sub hk (by simp)))
  clear_value x3
  exact (derived_within
    (send_within h3 (Within.sub hk (by simp))) hk)

theorem confirmMembers_within {K : Nat} {k : Carrier} {key : List Byte} {s0 s : State} (h : Within K s0 s) (hk : 2417851639229259960025120 ||| K = K) :
    Within K s0 (confirmMembers k key s) := by
  unfold confirmMembers
  extract_lets -merge -useContext x1
  try clear_value x1
  split
  · skip
    exact (Within.ite (startSession_within h hk)
      h)
  · skip
    exact h

theorem tryKeying_within {K : Nat} {k : Carrier} {s0 s : State} (h : Within K s0 s) (hk : 2555110658936665242551659298848 ||| K = K) :
    Within K s0 (tryKeying k s) := by
  unfold tryKeying
  extract_lets -merge -useContext x1 x2
  try clear_value x1
  try clear_value x2
  split
  · skip
    extract_lets -merge -useContext x3 x4 x5 x6 x7 x8 x9 x10 x11
    try clear_value x3
    try clear_value x4
    have h5 : Within K s0 x5 := by
      unfold x5
      exact (putSession_within h (Within.sub hk (by simp)))
    clear_value x5
    have h6 : Within K s0 x6 := by
      unfold x6
      exact (showSessions_within
        (confirmMembers_within h5 (Within.sub hk (by simp))) (Within.sub hk (by simp)))
    clear_value x6
    try clear_value x7
    try clear_value x8
    have h9 : Within K s0 x9 := by
      unfold x9
      exact (putSession_within
        (State.randomDrawn_within h6 (Within.sub hk (by simp))) (Within.sub hk (by simp)))
    clear_value x9
    try clear_value x10
    have h11 : Within K s0 x11 := by
      unfold x11
      exact (putSession_within h6 (Within.sub hk (by simp)))
    clear_value x11
    exact (Within.ite h
      (Within.ite (failHandshake_within h (Within.sub hk (by simp)))
        (Within.ite (failHandshake_within h (Within.sub hk (by simp)))
          (Within.ite (failHandshake_within h (Within.sub hk (by simp)))
            (Within.ite (failHandshake_within h (Within.sub hk (by simp)))
              (Within.ite (failHandshake_within h (Within.sub hk (by simp)))
                (Within.ite (failHandshake_within h (Within.sub hk (by simp)))
                  (Within.ite (send_within h9 (Within.sub hk (by simp)))
                    (by
                      split
                      · skip
                        exact (Within.ite (discard_within h11 (Within.sub hk (by simp)))
                          (Within.ite (processKemInit_within h11 hk)
                            (failHandshake_within h11 (Within.sub hk (by simp)))))
                      · skip
                        exact h6)))))))))
  · skip
    exact h

theorem sendAttest_within {K : Nat} {k : Carrier} {s0 s : State} (h : Within K s0 s) (hk : 2417851639229258886283264 ||| K = K) :
    Within K s0 (sendAttest k s) := by
  unfold sendAttest
  exact (send_within h hk)

theorem helloArrives_within {K : Nat} {k : Carrier} {m : Message} {known : Bool} {first : Bool} {s0 s : State} (h : Within K s0 s) (hk : 2555110658936665242551659298848 ||| K = K) :
    Within K s0 (helloArrives k m known first s) := by
  unfold helloArrives
  extract_lets -merge -useContext x1 x2 x3 x4 x5 x6 x7 x8 x9
  try clear_value x1
  have h2 : Within K s0 x2 := by
    unfold x2
    exact (enterNegotiate_within h (Within.sub hk (by simp)))
  clear_value x2
  try clear_value x3
  have h4 : Within K s0 x4 := by
    unfold x4
    exact (putSession_within h2 (Within.sub hk (by simp)))
  clear_value x4
  try clear_value x5
  have h6 : Within K s0 x6 := by
    unfold x6
    exact (putSession_within h (Within.sub hk (by simp)))
  clear_value x6
  have h7 : Within K s0 x7 := by
    unfold x7
    exact (keepPeer_within h6 (Within.sub hk (by simp)))
  clear_value x7
  have h8 : Within K s0 x8 := by
    unfold x8
    exact (send_within h7 (Within.sub hk (by simp)))
  clear_value x8
  have h9 : Within K s0 x9 := by
    unfold x9
    exact (Within.ite h7
      (send_within h8 (Within.sub hk (by simp))))
  clear_value x9
  exact (Within.ite (keepPeer_within h (Within.sub hk (by simp)))
    (Within.ite (sendAttest_within
        (keepPeer_within h4 (Within.sub hk (by simp))) (Within.sub hk (by simp)))
      (Within.ite (tryKeying_within
          (sendAttest_within
            (showSessions_within h9 (Within.sub hk (by simp))) (Within.sub hk (by simp))) hk)
        (keepPeer_within h (Within.sub hk (by simp))))))

theorem kemInitArrives_within {K : Nat} {k : Carrier} {m : Message} {s0 s : State} (h : Within K s0 s) (hk : 2555110658936665242551659298848 ||| K = K) :
    Within K s0 (kemInitArrives k m s) := by
  unfold kemInitArrives
  extract_lets -merge -useContext x1
  try clear_value x1
  exact (Within.ite (failHandshake_within h (Within.sub hk (by simp)))
    (Within.ite (discard_within h (Within.sub hk (by simp)))
      (Within.ite (putSession_within h (Within.sub hk (by simp)))
        (Within.ite (Within.ite (processKemInit_within h hk)
            (failHandshake_within h (Within.sub hk (by simp))))
          (Within.ite (Within.ite (processKemInit_within h hk)
              (refuse_within h (Within.sub hk (by simp))))
            (discard_within h (Within.sub hk (by simp))))))))

theorem kemRespArrives_within {K : Nat} {k : Carrier} {m : Message} {s0 s : State} (h : Within K s0 s) (hk : 2555110658936665242551659298848 ||| K = K) :
    Within K s0 (kemRespArrives k m s) := by
  unfold kemRespArrives
  extract_lets -merge -useContext x1
  try clear_value x1
  exact (Within.ite (failHandshake_within h (Within.sub hk (by simp)))
    (by
      split
      · skip
        exact (Within.ite (derived_within
            (keepPeer_within h (Within.sub hk (by simp))) hk)
          (discard_within h (Within.sub hk (by simp))))
      · skip
        exact (discard_within h (Within.sub hk (by simp)))))

theorem handshakeConfirmed_within {K : Nat} {k : Carrier} {m : Message} {s0 s : State} (h : Within K s0 s) (hk : 2555110658936665242551659298848 ||| K = K) :
    Within K s0 (handshakeConfirmed k m s) := by
  unfold handshakeConfirmed
  extract_lets -merge -useContext x1 x2 x3
  try clear_value x1
  try clear_value x2
  have h3 : Within K s0 x3 := by
    unfold x3
    exact (putSession_within h (Within.sub hk (by simp)))
  clear_value x3
  exact (Within.ite (Within.ite (enterKeyed_within h3 hk)
      h3)
    (failHandshake_within h (Within.sub hk (by simp))))

theorem refuseArrives_within {K : Nat} {k : Carrier} {refType : Nat} {refSeq : Nat} {reason : Nat} {s0 s : State} (h : Within K s0 s) (hk : 2555110696715595979608914165792 ||| K = K) :
    Within K s0 (refuseArrives k refType refSeq reason s) := by
  unfold refuseArrives
  extract_lets -merge -useContext x1 x2 x3 x4
  have h1 : Within K s0 x1 := by
    unfold x1
    exact (State.set_within
      (State.set_within
        (State.bump_within h (Within.sub hk (by simp))) (Within.sub hk (by simp))) (Within.sub hk (by simp)))
  clear_value x1
  try clear_value x2
  try clear_value x3
  try clear_value x4
  exact (Within.ite (sessionFailed_within
      (State.raiseIf_within h1 (Within.sub hk (by simp)) (Within.sub hk (by simp))) (Within.sub hk (by simp)))
    (Within.ite (Within.ite (Within.foldl _ (fun _ _ h5 => (Within.ite (activationRefused_within h5 (Within.sub hk (by simp)))
            h5))
          h1)
        (Within.ite (stepRefusedBy_within h1 (Within.sub hk (by simp)))
          (Within.ite (switchRefused_within h1 (Within.sub hk (by simp)))
            (Within.ite (State.setQlt_within h1 (Within.sub hk (by simp)))
              (Within.ite (putSession_within h1 (Within.sub hk (by simp)))
                h1)))))
      h1))

theorem sendSleep_within {K : Nat} {k : Carrier} {phase : Nat} {p : SleepPlan} {s0 s : State} (h : Within K s0 s) (hk : 2417851639229258886283264 ||| K = K) :
    Within K s0 (sendSleep k phase p s) := by
  unfold sendSleep
  exact (send_within h hk)

theorem sleepAsk_within {K : Nat} {k : Carrier} {state : Nat} {delay : Nat} {s0 s : State} (h : Within K s0 s) (hk : 2417851639229258886283264 ||| K = K) :
    Within K s0 (sleepAsk k state delay s) := by
  unfold sleepAsk
  extract_lets -merge -useContext x1 x2
  try clear_value x1
  try clear_value x2
  exact (Within.ite (sendSleep_within
      (State.setQlt_within h (Within.sub hk (by simp))) hk)
    h)

theorem sleepArrives_within {K : Nat} {k : Carrier} {seqNo : Nat} {phase : Nat} {p : SleepPlan} {s0 s : State} (h : Within K s0 s) (hk : 2417851639229258886283264 ||| K = K) :
    Within K s0 (sleepArrives k seqNo phase p s) := by
  unfold sleepArrives
  extract_lets -merge -useContext x1 x2 x3
  try clear_value x1
  try clear_value x2
  try clear_value x3
  exact (Within.ite (Within.ite (refuse_within h hk)
      (sendSleep_within
        (State.setQlt_within h (Within.sub hk (by simp))) hk))
    (by
      split
      · skip
        exact (Within.ite (State.setQlt_within h (Within.sub hk (by simp)))
          h)
      · skip
        exact h))

theorem sleepCancel_within {K : Nat} {k : Carrier} {s0 s : State} (h : Within K s0 s) (hk : 2417851639229258886283264 ||| K = K) :
    Within K s0 (sleepCancel k s) := by
  unfold sleepCancel
  extract_lets -merge -useContext x1
  try clear_value x1
  exact (Within.ite (send_within
      (State.setQlt_within h (Within.sub hk (by simp))) hk)
    h)

theorem wakeArrives_within {K : Nat} {cause : Nat} {s0 s : State} (h : Within K s0 s) (hk : 536870912 ||| K = K) :
    Within K s0 (wakeArrives cause s) := by
  unfold wakeArrives
  extract_lets -merge -useContext x1
  try clear_value x1
  exact (Within.ite (State.setQlt_within h hk)
    h)

theorem keepStamp_within {K : Nat} {x : Carrier} {receive : Bool} {csf : Nat} {stamp : Nat} {s0 s : State} (h : Within K s0 s) (hk : 536870912 ||| K = K) :
    Within K s0 (keepStamp x receive csf stamp s) := by
  unfold keepStamp
  extract_lets -merge -useContext x1 x2
  try clear_value x1
  try clear_value x2
  exact (Within.ite (State.setQlt_within h hk)
    (State.setQlt_within h hk))

theorem timeArrives_within {K : Nat} {c : Nat} {refCsf : Nat} {refTx : Nat} {echoCsf : Nat} {echoRx : Nat} {s0 s : State} (h : Within K s0 s) (hk : 2417851639229258886283264 ||| K = K) :
    Within K s0 (timeArrives c refCsf refTx echoCsf echoRx s) := by
  unfold timeArrives
  extract_lets -merge -useContext x1 x2 x3
  try clear_value x1
  try clear_value x2
  have h3 : Within K s0 x3 := by
    unfold x3
    exact (State.setQlt_within h (Within.sub hk (by simp)))
  clear_value x3
  exact (Within.ite h3
    (by
      split
      · skip
        extract_lets -merge -useContext x4 x5
        try clear_value x4
        have h5 : Within K s0 x5 := by
          unfold x5
          exact (State.set_within
            (State.set_within h3 (Within.sub hk (by simp))) (Within.sub hk (by simp)))
        clear_value x5
        exact (State.set_within h5 (Within.sub hk (by simp)))
      · skip
        exact h3))

theorem timeSend_within {K : Nat} {x : Carrier} {s0 s : State} (h : Within K s0 s) (hk : 2417851643732858513653760 ||| K = K) :
    Within K s0 (timeSend x s) := by
  unfold timeSend
  extract_lets -merge -useContext x1
  try clear_value x1
  split
  · skip
    exact (Within.ite (send_within
        (startTimer_within h (Within.sub hk (by simp))) (Within.sub hk (by simp)))
      h)
  · skip
    exact h

theorem noteInband_within {K : Nat} {k : Carrier} {m : Message} {s0 s : State} (h : Within K s0 s) (hk : 536870912 ||| K = K) :
    Within K s0 (noteInband k m s) := by
  unfold noteInband
  extract_lets -merge -useContext x1 x2 x3
  try clear_value x1
  try clear_value x2
  have h3 : Within K s0 x3 := by
    unfold x3
    exact (putSession_within h hk)
  clear_value x3
  exact (Within.foldl _ (fun _ _ h4 => (by
      extract_lets -merge -useContext x5 x6 x7
      try clear_value x5
      try clear_value x6
      try clear_value x7
      exact (State.setQlt_within h4 hk)))
    h3)

theorem firstHelloOn_within {K : Nat} {x : Carrier} {m : Message} {s0 s : State} (h : Within K s0 s) (hk : 536870912 ||| K = K) :
    Within K s0 (firstHelloOn x m s) := by
  unfold firstHelloOn
  extract_lets -merge -useContext x1
  try clear_value x1
  exact (Within.ite h
    (State.setQlt_within h hk))

theorem telemetrySend_within {K : Nat} {k : Carrier} {channels : List (Fin 64)} {s0 s : State} (h : Within K s0 s) (hk : 2417851639229258886283264 ||| K = K) :
    Within K s0 (telemetrySend k channels s) := by
  unfold telemetrySend
  extract_lets -merge -useContext x1
  try clear_value x1
  exact (Within.ite (send_within h hk)
    h)

theorem telemetryArrives_within {K : Nat} {b : List Byte} {s0 s : State} (h : Within K s0 s) (hk : 536870912 ||| K = K) :
    Within K s0 (telemetryArrives b s) := by
  unfold telemetryArrives
  extract_lets -merge -useContext x1 x2
  try clear_value x1
  try clear_value x2
  exact (State.setQlt_within h hk)

theorem handle_within {K : Nat} {k : Carrier} {x : Carrier} {type : Nat} {m : Message} {s0 s : State} (h : Within K s0 s) (hk : 2555110696715597105517410943008 ||| K = K) :
    Within K s0 (handle k x type m s) := by
  unfold handle
  extract_lets -merge -useContext x1 x2 x3
  try clear_value x1
  try clear_value x2
  try clear_value x3
  split
  · skip
    exact (helloArrives_within h (Within.sub hk (by simp)))
  · skip
    exact (tryKeying_within
      (keepPeer_within h (Within.sub hk (by simp))) (Within.sub hk (by simp)))
  · skip
    exact (Within.ite (mergeSessions_within
        (tryKeying_within
          (keepPeer_within h (Within.sub hk (by simp))) (Within.sub hk (by simp))) (Within.sub hk (by simp)))
      (discard_within h (Within.sub hk (by simp))))
  · skip
    exact (kemInitArrives_within h (Within.sub hk (by simp)))
  · skip
    exact (kemRespArrives_within h (Within.sub hk (by simp)))
  · skip
    exact (Within.ite (Within.ite (handshakeConfirmed_within h (Within.sub hk (by simp)))
        (discard_within h (Within.sub hk (by simp))))
      (Within.ite (confirmActivation_within h (Within.sub hk (by simp)))
        (discard_within h (Within.sub hk (by simp)))))
  · skip
    exact (rekeyArrives_within h (Within.sub hk (by simp)))
  · skip
    exact (offerArrives_within h (Within.sub hk (by simp)))
  · skip
    exact (showTargets_within h (Within.sub hk (by simp)))
  · skip
    exact (stepArrives_within h (Within.sub hk (by simp)))
  · skip
    exact (stepAckArrives_within h (Within.sub hk (by simp)))
  · skip
    exact (Within.ite (switchAsked_within h (Within.sub hk (by simp)))
      (Within.ite (switchAccepted_within h (Within.sub hk (by simp)))
        h))
  · skip
    exact (sleepArrives_within h (Within.sub hk (by simp)))
  · skip
    exact (wakeArrives_within h (Within.sub hk (by simp)))
  · skip
    exact (telemetryArrives_within h (Within.sub hk (by simp)))
  · skip
    exact (timeArrives_within h (Within.sub hk (by simp)))
  · skip
    exact (refuseArrives_within h (Within.sub hk (by simp)))
  · skip
    exact h

theorem accepted_within {K : Nat} {k : Carrier} {m : Message} {s0 s : State} (h : Within K s0 s) (hk : 2417851639229258886283264 ||| K = K) :
    Within K s0 (accepted k m s) := by
  unfold accepted
  extract_lets -merge -useContext x1 x2 x3
  try clear_value x1
  try clear_value x2
  have h3 : Within K s0 x3 := by
    unfold x3
    exact (putSession_within h (Within.sub hk (by simp)))
  clear_value x3
  exact (noteInband_within
    (acknowledge_within
      (State.bump_within h3 (Within.sub hk (by simp))) (Within.sub hk (by simp))) (Within.sub hk (by simp)))

theorem deliver_within {K : Nat} {k : Carrier} {x : Carrier} {type : Nat} {m : Message} {s0 s : State} (h : Within K s0 s) (hk : 2555110696715597105517410943008 ||| K = K) :
    Within K s0 (deliver k x type m s).1 := by
  unfold deliver
  split
  · skip
    exact (Within.fst (discard_within h (Within.sub hk (by simp))))
  · skip
    split
    · skip
      exact (Within.fst (discard_within h (Within.sub hk (by simp))))
    · skip
      split
      · skip
        exact (Within.fst (discard_within
          (accepted_within h (Within.sub hk (by simp))) (Within.sub hk (by simp))))
      · skip
        split
        · skip
          exact (Within.fst (discard_within
            (accepted_within h (Within.sub hk (by simp))) (Within.sub hk (by simp))))
        · skip
          split
          · skip
            exact (Within.fst (discard_within h (Within.sub hk (by simp))))
          · skip
            exact (Within.fst (handle_within
              (accepted_within h (Within.sub hk (by simp))) hk))

theorem releaseAhead_within {K : Nat} {s0 : State} {n : Nat} {k : Carrier}
    {s : State} (h : Within K s0 s) (hk : 2555110696715597105517410943008 ||| K = K) : Within K s0 (releaseAhead n k s) := by
  induction n generalizing s k with
  | zero => exact h
  | succ n ih =>
    unfold releaseAhead
    extract_lets -merge -useContext x1 x2 x3 x4
    have h4 : Within K s0 x4 :=
      putSession_within (putSession_within h (Within.sub hk (by simp))) (Within.sub hk (by simp))
    clear_value x4 x3 x2 x1
    split
    · exact h
    · extract_lets -merge -useContext x5
      have h5 : Within K s0 x5.1 := deliver_within h4 hk
      clear_value x5
      exact Within.ite (ih h5) (putSession_within h5 (Within.sub hk (by simp)))

theorem restartSequence_within {K : Nat} {k : Carrier} {m : Message} {s0 s : State} (h : Within K s0 s) (hk : 2555110658936665242551659298848 ||| K = K) :
    Within K s0 (restartSequence k m s) := by
  unfold restartSequence
  extract_lets -merge -useContext x1 x2 x3 x4
  try clear_value x1
  have h2 : Within K s0 x2 := by
    unfold x2
    exact (accepted_within h (Within.sub hk (by simp)))
  clear_value x2
  try clear_value x3
  have h4 : Within K s0 x4 := by
    unfold x4
    exact (putSession_within h2 (Within.sub hk (by simp)))
  clear_value x4
  exact (helloArrives_within h4 hk)

theorem receiveMessage_within {K : Nat} {x : Carrier} {type : Nat} {m : Message} {s0 s : State} (h : Within K s0 s) (hk : 2555110696715597105517410943008 ||| K = K) :
    Within K s0 (receiveMessage x type m s) := by
  unfold receiveMessage
  extract_lets -merge -useContext x1 x2
  have h1 : Within K s0 x1 := by
    unfold x1
    exact (Within.ite (firstHelloOn_within h (Within.sub hk (by simp)))
      h)
  clear_value x1
  try clear_value x2
  exact (Within.ite h
    (by
      split
      · skip
        exact (joinPath_within
          (Within.ite (sessionDown_within h1 (Within.sub hk (by simp)))
            h1) (Within.sub hk (by simp)))
      · skip
        split
        · skip
          exact (discard_within h1 (Within.sub hk (by simp)))
        · skip
          extract_lets -merge -useContext x3 x4 x5 x6
          try clear_value x3
          have h4 : Within K s0 x4 := by
            unfold x4
            exact (putSession_within h1 (Within.sub hk (by simp)))
          clear_value x4
          have h5 : Within K s0 x5.1 := by
            unfold x5
            exact (deliver_within h4 hk)
          clear_value x5
          try clear_value x6
          exact (Within.ite (discard_within h1 (Within.sub hk (by simp)))
            (Within.ite (Within.ite (Within.ite (accepted_within h1 (Within.sub hk (by simp)))
                  (discard_within h1 (Within.sub hk (by simp))))
                (discard_within h1 (Within.sub hk (by simp))))
              (Within.ite (Within.ite (restartSequence_within h1 (Within.sub hk (by simp)))
                  (discard_within h1 (Within.sub hk (by simp))))
                (Within.ite (discard_within h1 (Within.sub hk (by simp)))
                  (Within.ite (putSession_within
                      (State.bump_within h1 (Within.sub hk (by simp))) (Within.sub hk (by simp)))
                    (Within.ite (Within.ite h1
                        (putSession_within h1 (Within.sub hk (by simp))))
                      (Within.ite (releaseAhead_within h5 hk)
                        (putSession_within h5 (Within.sub hk (by simp))))))))))))

theorem crcFails_within {K : Nat} {x : Carrier} {b : List Byte} {s0 s : State} (h : Within K s0 s) (hk : 2535303618308098032253366435872 ||| K = K) :
    Within K s0 (crcFails x b s) := by
  unfold crcFails
  split
  · skip
    exact (Within.ite (failHandshake_within h hk)
      (discard_within h (Within.sub hk (by simp))))
  · skip
    exact (discard_within h (Within.sub hk (by simp)))

theorem messageComplete_within {K : Nat} {x : Carrier} {b : List Byte} {s0 s : State} (h : Within K s0 s) (hk : 2555110696715597105517410943008 ||| K = K) :
    Within K s0 (messageComplete x b s) := by
  unfold messageComplete
  extract_lets -merge -useContext x1
  try clear_value x1
  exact (Within.ite (discard_within h (Within.sub hk (by simp)))
    (Within.ite (crcFails_within h (Within.sub hk (by simp)))
      (by
        split
        · skip
          exact (receiveMessage_within h hk)
        · skip
          exact (discard_within h (Within.sub hk (by simp))))))

theorem linkWord_within {K : Nat} {x : Carrier} {pilot : Bool} {w : Option (BitVec 64)} {s0 s : State} (h : Within K s0 s) (hk : 2555110696715597105517410943008 ||| K = K) :
    Within K s0 (linkWord x pilot w s) := by
  unfold linkWord
  exact (Within.ite h
    (by
      split
      · skip
        exact (dropPartial_within h (Within.sub hk (by simp)))
      · skip
        extract_lets -merge -useContext x1 x2 x3 x4
        have h1 : Within K s0 x1 := by
          unfold x1
          exact (Within.ite (dropPartial_within h (Within.sub hk (by simp)))
            h)
        clear_value x1
        try clear_value x2
        try clear_value x3
        try clear_value x4
        exact (Within.ite h
          (by
            split
            · skip
              exact h1
            · skip
              extract_lets -merge -useContext x5 x6 x7
              try clear_value x5
              try clear_value x6
              have h7 : Within K s0 x7 := by
                unfold x7
                exact (Within.ite (State.setQlt_within h1 (Within.sub hk (by simp)))
                  (State.setQlt_within h1 (Within.sub hk (by simp))))
              clear_value x7
              exact (Within.ite (messageComplete_within h7 hk)
                h7)))))

theorem retxTimeout_within {K : Nat} {k : Carrier} {seqNo : Nat} {s0 s : State} (h : Within K s0 s) (hk : 2417851639229258886283296 ||| K = K) :
    Within K s0 (retxTimeout k seqNo s) := by
  unfold retxTimeout
  extract_lets -merge -useContext x1 x2
  try clear_value x1
  have h2 : Within K s0 x2 := by
    unfold x2
    exact (putSession_within h (Within.sub hk (by simp)))
  clear_value x2
  split
  · skip
    exact h
  · skip
    exact (Within.ite h
      (Within.ite (sessionDown_within
          (State.raise_within
            (State.set_within h (Within.sub hk (by simp))) (Within.sub hk (by simp)) (Within.sub hk (by simp))) hk)
        (resend_within h2 (Within.sub hk (by simp)))))

theorem ackTimer_within {K : Nat} {k : Carrier} {s0 s : State} (h : Within K s0 s) (hk : 2417851639229258886283264 ||| K = K) :
    Within K s0 (ackTimer k s) := by
  unfold ackTimer
  exact (Within.ite (send_within h hk)
    h)

theorem qltStart_within {K : Nat} {s0 s : State} (h : Within K s0 s) (hk : 2417851639229258349412352 ||| K = K) :
    Within K s0 (qltStart s) := by
  unfold qltStart
  exact (showSessions_within
    (State.clearAll_within h (Within.sub hk (by simp))) hk)

theorem qltStop_within {K : Nat} {s0 s : State} (h : Within K s0 s) (hk : 2417851639229258886283296 ||| K = K) :
    Within K s0 (qltStop s) := by
  unfold qltStop
  exact (sessionDown_within (sessionDown_within h hk) hk)

end Sys2Proof.Machine
end

