-- ==== Sys2Proof/Laws/Operands.lean ====
section
/-! SUPPORT. Laws/Operands.lean: the parts of the state that each operation of Machine/Operands.lean can change. -/
namespace Sys2Proof.Machine

set_option Elab.async false

open Sys2Proof

theorem coreData_wf (s : State) (n : Fin 8) (h : s.dsram.all byteMapWf = true) : byteMapWf (coreData s n) = true :=
  get_wf _ _ h

theorem coreCode_wf (s : State) (n : Fin 8) (h : s.isram.all byteMapWf = true) : byteMapWf (coreCode s n) = true :=
  get_wf _ _ h

theorem putCore_within {K : Nat} {s0 s : State} {n : Fin 8} {x : Core} (h : Within K s0 s) (hk : 4398046511104 ||| K = K) :
    Within K s0 (putCore s n x) := by
  unfold putCore
  exact (Within.upd_cores h hk _)

theorem putImage_within {K : Nat} {s0 s : State} {n : Fin 8} {x : CoreImage} (h : Within K s0 s) (hk : 8796093022208 ||| K = K) :
    Within K s0 (putImage s n x) := by
  unfold putImage
  exact (Within.upd_images h hk _)

theorem putData_within {K : Nat} {s0 s : State} {n : Fin 8} {m : Sparse Byte} (h : Within K s0 s)
    (hm : s.dsram.all byteMapWf = true → byteMapWf m = true) (hk : 134217728 ||| K = K) :
    Within K s0 (putData s n m) := by
  unfold putData
  exact Within.upd_dsram h hk _ fun hs => set_all_wf _ _ _ _ hs (hm hs)

theorem putCode_within {K : Nat} {s0 s : State} {n : Fin 8} {m : Sparse Byte} (h : Within K s0 s)
    (hm : s.isram.all byteMapWf = true → byteMapWf m = true) (hk : 2199023255552 ||| K = K) :
    Within K s0 (putCode s n m) := by
  unfold putCode
  exact Within.upd_isram h hk _ fun hs => set_all_wf _ _ _ _ hs (hm hs)

end Sys2Proof.Machine
end

