-- ==== Sys2Proof/Laws/Reckoner.lean ====
section
/-! SUPPORT. Laws/Reckoner.lean: the parts of the state that each operation of Machine/Reckoner.lean can change. -/
namespace Sys2Proof.Machine

set_option Elab.async false

open Sys2Proof

theorem coreHalt_within {K : Nat} {n : Fin 8} {s0 s : State} (h : Within K s0 s) (hk : 316912650057057354772222312448 ||| K = K) :
    Within K s0 (coreHalt n s) := by
  unfold coreHalt
  extract_lets -merge -useContext x1
  try clear_value x1
  exact (State.setRun_within
    (putCore_within h (Within.sub hk (by simp))) (Within.sub hk (by simp)))

theorem trapEnter_within {K : Nat} {n : Fin 8} {cause : Nat} {eaddr : Option Nat} {code : Nat} {epc : Nat} {s0 s : State} (h : Within K s0 s) (hk : 316912650057057354772222312992 ||| K = K) :
    Within K s0 (trapEnter n cause eaddr code epc s) := by
  unfold trapEnter
  extract_lets -merge -useContext x1 x2 x3 x4 x5
  try clear_value x1
  have h2 : Within K s0 x2 := by
    unfold x2
    exact (State.set_within
      (coreHalt_within h (Within.sub hk (by simp))) (Within.sub hk (by simp)))
  clear_value x2
  try clear_value x3
  have h4 : Within K s0 x4 := by
    unfold x4
    exact (putCore_within h (Within.sub hk (by simp)))
  clear_value x4
  have h5 : Within K s0 x5 := by
    unfold x5
    exact (State.countCore_within
      (State.set_within
        (State.bump_within h4 (Within.sub hk (by simp))) (Within.sub hk (by simp))) (Within.sub hk (by simp)))
  clear_value x5
  exact (Within.ite (State.raise_within
      (State.errlog_within h2 (Within.sub hk (by simp))) (Within.sub hk (by simp)) (Within.sub hk (by simp)))
    (State.raiseIf_within h5 (Within.sub hk (by simp)) (Within.sub hk (by simp))))

theorem interruptEntry_within {K : Nat} {n : Fin 8} {s0 s : State} (h : Within K s0 s) (hk : 316912650057057354772222312960 ||| K = K) :
    Within K s0 (interruptEntry n s) := by
  unfold interruptEntry
  extract_lets -merge -useContext x1 x2
  try clear_value x1
  try clear_value x2
  split
  · skip
    exact h
  · skip
    extract_lets -merge -useContext x3
    have h3 : Within K s0 x3 := by
      unfold x3
      exact (putCore_within h (Within.sub hk (by simp)))
    clear_value x3
    exact (Within.ite (State.countCore_within
        (State.set_within h3 (Within.sub hk (by simp))) (Within.sub hk (by simp)))
      h)

theorem waitWake_within {K : Nat} {n : Fin 8} {s0 s : State} (h : Within K s0 s) (hk : 4398046511104 ||| K = K) :
    Within K s0 (waitWake n s) := by
  unfold waitWake
  extract_lets -merge -useContext x1
  try clear_value x1
  exact (Within.ite (putCore_within h hk)
    h)

theorem heartbeat_within {K : Nat} {n : Fin 8} {s0 s : State} (h : Within K s0 s) (hk : 316912650057057350374175801344 ||| K = K) :
    Within K s0 (heartbeat n s) := by
  unfold heartbeat
  exact (State.addWrap_within h (Within.sub hk (by simp)))

theorem setCoreDma_within {K : Nat} {s0 s : State} {n : Fin 8} {c : Fin 2} {d : DmaChannel} (h : Within K s0 s) (hk : 4398046511104 ||| K = K) :
    Within K s0 (setCoreDma s n c d) := by
  unfold setCoreDma
  exact (putCore_within h hk)

theorem dmaStatus_within {K : Nat} {n : Fin 8} {c : Fin 2} {v : Nat} {s0 s : State} (h : Within K s0 s) (hk : 134217728 ||| K = K) :
    Within K s0 (dmaStatus n c v s) := by
  unfold dmaStatus
  extract_lets -merge -useContext x1
  try clear_value x1
  exact (putData_within h (fun w => (writeBytes_wf _ _ _ (coreData_wf _ _ w))) hk)

theorem dmaFail_within {K : Nat} {n : Fin 8} {c : Fin 2} {error : Nat} {s0 s : State} (h : Within K s0 s) (hk : 316912650057057354772356530208 ||| K = K) :
    Within K s0 (dmaFail n c error s) := by
  unfold dmaFail
  extract_lets -merge -useContext x1 x2 x3
  have h1 : Within K s0 x1 := by
    unfold x1
    exact (dmaStatus_within h (Within.sub hk (by simp)))
  clear_value x1
  try clear_value x2
  have h3 : Within K s0 x3 := by
    unfold x3
    exact (setCoreDma_within h1 (Within.sub hk (by simp)))
  clear_value x3
  exact (State.raise_within
    (State.errlog_within h3 (Within.sub hk (by simp))) (Within.sub hk (by simp)) (Within.sub hk (by simp)))

theorem dmaDone_within {K : Nat} {n : Fin 8} {c : Fin 2} {irq : Bool} {s0 s : State} (h : Within K s0 s) (hk : 316912650057057354772356530720 ||| K = K) :
    Within K s0 (dmaDone n c irq s) := by
  unfold dmaDone
  extract_lets -merge -useContext x1 x2 x3
  have h1 : Within K s0 x1 := by
    unfold x1
    exact (dmaStatus_within h (Within.sub hk (by simp)))
  clear_value x1
  try clear_value x2
  have h3 : Within K s0 x3 := by
    unfold x3
    exact (setCoreDma_within h1 (Within.sub hk (by simp)))
  clear_value x3
  exact (State.countCore_within
    (State.raiseIf_within h3 (Within.sub hk (by simp)) (Within.sub hk (by simp))) (Within.sub hk (by simp)))

theorem dmaDescriptor_within {K : Nat} {n : Fin 8} {c : Fin 2} {s0 s : State} (h : Within K s0 s) (hk : 316912952288512259529161835040 ||| K = K) :
    Within K s0 (dmaDescriptor n c s) := by
  unfold dmaDescriptor
  extract_lets -merge -useContext x1 x2 x3 x4 x5 x6 x7 x8 x9
  try clear_value x1
  try clear_value x2
  try clear_value x3
  try clear_value x4
  try clear_value x5
  try clear_value x6
  try clear_value x7
  try clear_value x8
  have h9 : Within K s0 x9.1 := by
    unfold x9
    exact (lpddrRead_within h (Within.sub hk (by simp)))
  clear_value x9
  exact (Within.ite h
    (Within.ite (dmaFail_within h (Within.sub hk (by simp)))
      (Within.ite (dmaFail_within h (Within.sub hk (by simp)))
        (Within.ite (dmaDone_within
            (lpddrWrite_within h (Within.sub hk (by simp))) (Within.sub hk (by simp)))
          (Within.ite (dmaFail_within h9 (Within.sub hk (by simp)))
            (dmaDone_within
              (putData_within h9 (fun w => (writeBytes_wf _ _ _ (coreData_wf _ _ w))) (Within.sub hk (by simp))) (Within.sub hk (by simp))))))))

theorem dmaTail_within {K : Nat} {n : Fin 8} {c : Fin 2} {tail : Nat} {s0 s : State} (h : Within K s0 s) (hk : 4398046511104 ||| K = K) :
    Within K s0 (dmaTail n c tail s) := by
  unfold dmaTail
  extract_lets -merge -useContext x1
  try clear_value x1
  exact (setCoreDma_within h hk)

theorem dmaResume_within {K : Nat} {n : Fin 8} {c : Fin 2} {s0 s : State} (h : Within K s0 s) (hk : 4398046511104 ||| K = K) :
    Within K s0 (dmaResume n c s) := by
  unfold dmaResume
  extract_lets -merge -useContext x1
  try clear_value x1
  exact (setCoreDma_within h hk)

theorem movtcAct_within {K : Nat} {n : Fin 8} {i : Nat} {w : Word} {s0 s : State} (h : Within K s0 s) (hk : 316912650057057354772222312448 ||| K = K) :
    Within K s0 (movtcAct n i w s) := by
  unfold movtcAct
  extract_lets -merge -useContext x1 x2
  try clear_value x1
  try clear_value x2
  exact (Within.ite (heartbeat_within h (Within.sub hk (by simp)))
    (Within.ite (setCoreDma_within h (Within.sub hk (by simp)))
      (Within.ite (dmaTail_within h (Within.sub hk (by simp)))
        (Within.ite (dmaResume_within h (Within.sub hk (by simp)))
          h))))

theorem loadSource_within {K : Nat} {n : Fin 8} {s0 s : State} (h : Within K s0 s) (hk : 302231454904756805304320 ||| K = K) :
    Within K s0 (loadSource n s).1 := by
  unfold loadSource
  extract_lets -merge -useContext x1 x2 x3 x4
  try clear_value x1
  have h2 : Within K s0 x2.1 := by
    unfold x2
    exact (lpddrRead_within h hk)
  clear_value x2
  try clear_value x3
  have h4 : Within K s0 x4.1 := by
    unfold x4
    exact (lpddrRead_within h2 hk)
  clear_value x4
  split
  · skip
    exact (Within.fst h)
  · skip
    split
    · skip
      exact (Within.fst h)
    · skip
      split
      · skip
        exact (Within.fst h2)
      · skip
        exact (Within.fst h4)

theorem loadCopy_within {K : Nat} {n : Fin 8} {b : List Byte} {s0 s : State} (h : Within K s0 s) (hk : 2199157473280 ||| K = K) :
    Within K s0 (loadCopy n b s) := by
  unfold loadCopy
  extract_lets -merge -useContext x1 x2
  have h2 : Within K s0 x2 := by
    unfold x2
    exact (putCode_within h (fun w => (writeBytes_wf _ _ _ (byteMapWf_ite rfl (coreCode_wf _ _ w)))) (Within.sub hk (by simp)))
  clear_value x2
  exact (putData_within h2 (fun w => (writeBytes_wf _ _ _ (coreData_wf _ _ w))) (Within.sub hk (by simp)))

theorem loadStart_within {K : Nat} {n : Fin 8} {s0 s : State} (h : Within K s0 s) (hk : 316912952288512266126231601152 ||| K = K) :
    Within K s0 (loadStart n s) := by
  unfold loadStart
  extract_lets -merge -useContext x1 x2 x3 x4 x5
  have h1 : Within K s0 x1.1 := by
    unfold x1
    exact (loadSource_within h (Within.sub hk (by simp)))
  clear_value x1
  have h2 : Within K s0 x2 := by
    unfold x2
    exact (State.set_within h1 (Within.sub hk (by simp)))
  clear_value x2
  try clear_value x3
  try clear_value x4
  try clear_value x5
  split
  · skip
    exact (putImage_within h2 (Within.sub hk (by simp)))
  · skip
    split
    · skip
      exact (putImage_within h2 (Within.sub hk (by simp)))
    · skip
      exact (loadCopy_within
        (putImage_within h2 (Within.sub hk (by simp))) (Within.sub hk (by simp)))

theorem loadWipe_within {K : Nat} {n : Fin 8} {b : List Byte} {s0 s : State} (h : Within K s0 s) (hk : 2199157473280 ||| K = K) :
    Within K s0 (loadWipe n b s) := by
  unfold loadWipe
  extract_lets -merge -useContext x1 x2
  have h2 : Within K s0 x2 := by
    unfold x2
    exact (putCode_within h (fun w => (byteMapWf_ite rfl (writeBytes_wf _ _ _ (coreCode_wf _ _ w)))) (Within.sub hk (by simp)))
  clear_value x2
  exact (putData_within h2 (fun w => (writeBytes_wf _ _ _ (coreData_wf _ _ w))) (Within.sub hk (by simp)))

theorem loadFailed_within {K : Nat} {n : Fin 8} {b : List Byte} {copied : Bool} {result : Nat} {s0 s : State} (h : Within K s0 s) (hk : 316912650057057352573333274656 ||| K = K) :
    Within K s0 (loadFailed n b copied result s) := by
  unfold loadFailed
  extract_lets -merge -useContext x1 x2 x3
  have h1 : Within K s0 x1 := by
    unfold x1
    exact (Within.ite (loadWipe_within h (Within.sub hk (by simp)))
      h)
  clear_value x1
  have h2 : Within K s0 x2 := by
    unfold x2
    exact (Within.ite (State.set_within h1 (Within.sub hk (by simp)))
      (State.set_within h1 (Within.sub hk (by simp))))
  clear_value x2
  have h3 : Within K s0 x3 := by
    unfold x3
    exact (State.set_within
      (State.set_within h2 (Within.sub hk (by simp))) (Within.sub hk (by simp)))
  clear_value x3
  exact (State.raise_within
    (State.errlog_within h3 (Within.sub hk (by simp))) (Within.sub hk (by simp)) (Within.sub hk (by simp)))

theorem loadSucceeded_within {K : Nat} {n : Fin 8} {b : List Byte} {s0 s : State} (h : Within K s0 s) (hk : 316912650057057359171342565408 ||| K = K) :
    Within K s0 (loadSucceeded n b s) := by
  unfold loadSucceeded
  extract_lets -merge -useContext x1 x2 x3 x4 x5 x6 x7 x8 x9 x10 x11
  try clear_value x1
  try clear_value x2
  try clear_value x3
  have h4 : Within K s0 x4 := by
    unfold x4
    exact (State.setPlinth_within h (Within.sub hk (by simp)))
  clear_value x4
  try clear_value x5
  have h6 : Within K s0 x6 := by
    unfold x6
    exact (putImage_within h4 (Within.sub hk (by simp)))
  clear_value x6
  try clear_value x7
  have h8 : Within K s0 x8 := by
    unfold x8
    exact (putImage_within h4 (Within.sub hk (by simp)))
  clear_value x8
  have h9 : Within K s0 x9 := by
    unfold x9
    exact (State.set_within
      (State.set_within
        (State.set_within h8 (Within.sub hk (by simp))) (Within.sub hk (by simp))) (Within.sub hk (by simp)))
  clear_value x9
  have h10 : Within K s0 x10 := by
    unfold x10
    exact (Within.ite (State.set_within
        (State.set_within h6 (Within.sub hk (by simp))) (Within.sub hk (by simp)))
      (State.set_within h9 (Within.sub hk (by simp))))
  clear_value x10
  have h11 : Within K s0 x11 := by
    unfold x11
    exact (State.set_within
      (State.set_within
        (State.set_within h10 (Within.sub hk (by simp))) (Within.sub hk (by simp))) (Within.sub hk (by simp)))
  clear_value x11
  exact (State.raise_within h11 (Within.sub hk (by simp)) (Within.sub hk (by simp)))

theorem loadVerify_within {K : Nat} {n : Fin 8} {s0 s : State} (h : Within K s0 s) (hk : 316912650057057361370500038688 ||| K = K) :
    Within K s0 (loadVerify n s) := by
  unfold loadVerify
  extract_lets -merge -useContext x1 x2
  try clear_value x1
  have h2 : Within K s0 x2 := by
    unfold x2
    exact (putImage_within h (Within.sub hk (by simp)))
  clear_value x2
  split
  · skip
    exact h
  · skip
    extract_lets -merge -useContext x3
    try clear_value x3
    split
    · skip
      exact (loadFailed_within h2 (Within.sub hk (by simp)))
    · skip
      exact (Within.ite (loadSucceeded_within h2 (Within.sub hk (by simp)))
        (loadFailed_within h2 (Within.sub hk (by simp))))

theorem debugDeny_within {K : Nat} {n : Fin 8} {s0 s : State} (h : Within K s0 s) (hk : 316912650057057350374175801344 ||| K = K) :
    Within K s0 (debugDeny n s) := by
  unfold debugDeny
  exact (State.bump_within h (Within.sub hk (by simp)))

theorem debugRead_within {K : Nat} {n : Fin 8} {y1 : Nat} {s0 s : State} (h : Within K s0 s) (hk : 316912650057057350374175801344 ||| K = K) :
    Within K s0 (debugRead n y1 s).1 := by
  unfold debugRead
  split
  · skip
    exact (Within.fst (debugDeny_within h hk))
  · skip
    split
    · skip
      exact (Within.fst h)
    · skip
      split
      · skip
        exact (Within.fst h)
      · skip
        exact (Within.fst h)

theorem debugWrite_within {K : Nat} {o : Origin} {n : Fin 8} {y2 : Nat} {w : Word} {s0 s : State} (h : Within K s0 s) (hk : 316912650057057352573333274624 ||| K = K) :
    Within K s0 (debugWrite o n y2 w s) := by
  unfold debugWrite
  extract_lets -merge -useContext x1 x2
  try clear_value x1
  have h2 : Within K s0 x2 := by
    unfold x2
    exact (State.bump_within h (Within.sub hk (by simp)))
  clear_value x2
  exact (Within.ite (debugDeny_within h (Within.sub hk (by simp)))
    (Within.ite (State.set_within
        (putCode_within h2 (fun w => (writeBytes_wf _ _ _ (coreCode_wf _ _ w))) (Within.sub hk (by simp))) (Within.sub hk (by simp)))
      (Within.ite (putData_within h2 (fun w => (writeBytes_wf _ _ _ (coreData_wf _ _ w))) (Within.sub hk (by simp)))
        h2)))

theorem coreStart_within {K : Nat} {n : Fin 8} {s0 s : State} (h : Within K s0 s) (hk : 316912650057057354789402181632 ||| K = K) :
    Within K s0 (coreStart n s) := by
  unfold coreStart
  extract_lets -merge -useContext x1 x2 x3
  have h1 : Within K s0 x1 := by
    unfold x1
    exact (putCore_within h (Within.sub hk (by simp)))
  clear_value x1
  try clear_value x2
  have h3 : Within K s0 x3 := by
    unfold x3
    exact (Within.ite (Within.upd_tel h1 (Within.sub hk (by simp)) _)
      h1)
  clear_value x3
  exact (State.set_within
    (State.clearAll_within h3 (Within.sub hk (by simp))) (Within.sub hk (by simp)))

theorem coreWritten_within {K : Nat} {n : Fin 8} {y1 : Nat} {new : Word} {s0 s : State} (h : Within K s0 s) (hk : 316912952288512283718417645568 ||| K = K) :
    Within K s0 (coreWritten n y1 new s) := by
  unfold coreWritten
  exact (Within.ite (Within.upd_stepsDue h (Within.sub hk (by simp)) _)
    (Within.ite (loadStart_within h (Within.sub hk (by simp)))
      h))

end Sys2Proof.Machine
end

