-- ==== Sys2Proof/Laws/Plinth.lean ====
section
/-! SUPPORT. Laws/Plinth.lean: the parts of the state that each operation of Machine/Plinth.lean can change. -/
namespace Sys2Proof.Machine

set_option Elab.async false

open Sys2Proof

theorem holdGuard_within {K : Nat} {c : Carrier} {s0 s : State} (h : Within K s0 s) (hk : 2555108241085024887392866181152 ||| K = K) :
    Within K s0 (holdGuard c s) := by
  unfold holdGuard
  extract_lets -merge -useContext x1
  try clear_value x1
  exact (Within.ite (plinthBlank_within h hk)
    (plinthUnblank_within h (Within.sub hk (by simp))))

theorem changeHold_within {K : Nat} {c : Carrier} {y1 : Nat} {s0 s : State} (h : Within K s0 s) (hk : 2555108259974490818871715471392 ||| K = K) :
    Within K s0 (changeHold c y1 s) := by
  unfold changeHold
  extract_lets -merge -useContext x1
  have h1 : Within K s0 x1 := by
    unfold x1
    exact (secLog_within
      (State.raise_within
        (State.set_within h (Within.sub hk (by simp))) (Within.sub hk (by simp)) (Within.sub hk (by simp))) (Within.sub hk (by simp)))
  clear_value x1
  exact (Within.ite h
    (safetyFollow_within
      (holdGuard_within h1 (Within.sub hk (by simp))) (Within.sub hk (by simp))))

theorem setHold_within {K : Nat} {c : Carrier} {b : Nat} {s0 s : State} (h : Within K s0 s) (hk : 2555108259974490818871715471392 ||| K = K) :
    Within K s0 (setHold c b s) := by
  unfold setHold
  exact (changeHold_within h hk)

theorem clearHold_within {K : Nat} {c : Carrier} {b : Nat} {s0 s : State} (h : Within K s0 s) (hk : 2555108259974490818871715471392 ||| K = K) :
    Within K s0 (clearHold c b s) := by
  unfold clearHold
  exact (changeHold_within h hk)

theorem setHoldBoth_within {K : Nat} {b : Nat} {s0 s : State} (h : Within K s0 s) (hk : 2555108259974490818871715471392 ||| K = K) :
    Within K s0 (setHoldBoth b s) := by
  unfold setHoldBoth
  exact (setHold_within (setHold_within h hk) hk)

theorem setAls_within {K : Nat} {c : Carrier} {st : Nat} {s0 s : State} (h : Within K s0 s) (hk : 2535301200456458802993406410784 ||| K = K) :
    Within K s0 (setAls c st s) := by
  unfold setAls
  exact (State.raise_within
    (State.set_within h (Within.sub hk (by simp))) (Within.sub hk (by simp)) (Within.sub hk (by simp)))

theorem alsShutdown_within {K : Nat} {c : Carrier} {s0 s : State} (h : Within K s0 s) (hk : 2555108259974495322471342841888 ||| K = K) :
    Within K s0 (alsShutdown c s) := by
  unfold alsShutdown
  exact (Within.ite (startTimer_within
      (setHold_within
        (setAls_within h (Within.sub hk (by simp))) (Within.sub hk (by simp))) (Within.sub hk (by simp)))
    h)

theorem alsPulseIn_within {K : Nat} {c : Carrier} {st : Nat} {s0 s : State} (h : Within K s0 s) (hk : 2555108259974495322471342841888 ||| K = K) :
    Within K s0 (alsPulseIn c st s) := by
  unfold alsPulseIn
  exact (startTimer_within
    (clearHold_within
      (State.bump_within
        (setAls_within h (Within.sub hk (by simp))) (Within.sub hk (by simp))) (Within.sub hk (by simp))) (Within.sub hk (by simp)))

theorem alsPulseStart_within {K : Nat} {c : Carrier} {s0 s : State} (h : Within K s0 s) (hk : 2555108259974495322471342841888 ||| K = K) :
    Within K s0 (alsPulseStart c s) := by
  unfold alsPulseStart
  exact (Within.ite (startTimer_within (alsPulseIn_within h hk) (Within.sub hk (by simp)))
    h)

theorem alsPulseEnd_within {K : Nat} {c : Carrier} {s0 s : State} (h : Within K s0 s) (hk : 2555108259974490818871715471392 ||| K = K) :
    Within K s0 (alsPulseEnd c s) := by
  unfold alsPulseEnd
  exact (Within.ite (setHold_within
      (setAls_within h (Within.sub hk (by simp))) hk)
    h)

theorem alsRecovery_within {K : Nat} {c : Carrier} {s0 s : State} (h : Within K s0 s) (hk : 2555108259974490818871715471392 ||| K = K) :
    Within K s0 (alsRecovery c s) := by
  unfold alsRecovery
  exact (Within.ite (clearHold_within
      (setAls_within h (Within.sub hk (by simp))) hk)
    h)

theorem keysRestore_within {K : Nat} {s0 s : State} (h : Within K s0 s) (hk : 1073741824 ||| K = K) :
    Within K s0 (keysRestore s) := by
  unfold keysRestore
  extract_lets -merge -useContext x1
  try clear_value x1
  exact (Within.ite (State.setPlinth_within h hk)
    h)

theorem zeroise_within {K : Nat} {cause : Nat} {s0 s : State} (h : Within K s0 s) (hk : 2555110658936664116651752464416 ||| K = K) :
    Within K s0 (zeroise cause s) := by
  unfold zeroise
  extract_lets -merge -useContext x1 x2 x3 x4 x5 x6 x7 x8
  have h1 : Within K s0 x1 := by
    unfold x1
    exact (eraseAllSlots_within
      (eraseAllSlots_within h (Within.sub hk (by simp))) (Within.sub hk (by simp)))
  clear_value x1
  have h2 : Within K s0 x2 := by
    unfold x2
    exact (sessionDown_within
      (sessionDown_within h1 (Within.sub hk (by simp))) (Within.sub hk (by simp)))
  clear_value x2
  have h3 : Within K s0 x3 := by
    unfold x3
    exact (State.randomDrawn_within h2 (Within.sub hk (by simp)))
  clear_value x3
  try clear_value x4
  have h5 : Within K s0 x5 := by
    unfold x5
    exact (State.setPlinth_within h3 (Within.sub hk (by simp)))
  clear_value x5
  have h6 : Within K s0 x6 := by
    unfold x6
    exact (State.set_within
      (State.set_within h5 (Within.sub hk (by simp))) (Within.sub hk (by simp)))
  clear_value x6
  have h7 : Within K s0 x7 := by
    unfold x7
    exact (State.set_within
      (State.bump_within h6 (Within.sub hk (by simp))) (Within.sub hk (by simp)))
  clear_value x7
  have h8 : Within K s0 x8 := by
    unfold x8
    exact (secLog_within
      (State.raise_within h7 (Within.sub hk (by simp)) (Within.sub hk (by simp))) (Within.sub hk (by simp)))
  clear_value x8
  exact (keysRestore_within h8 (Within.sub hk (by simp)))

theorem zeroisePin_within {K : Nat} {s0 s : State} (h : Within K s0 s) (hk : 2555110658936664116651752464416 ||| K = K) :
    Within K s0 (zeroisePin s) := by
  unfold zeroisePin
  extract_lets -merge -useContext x1
  try clear_value x1
  exact (Within.ite h
    (zeroise_within
      (State.setPlinth_within h (Within.sub hk (by simp))) hk))

theorem zeroiseRelease_within {K : Nat} {s0 s : State} (h : Within K s0 s) (hk : 1073741824 ||| K = K) :
    Within K s0 (zeroiseRelease s) := by
  unfold zeroiseRelease
  extract_lets -merge -useContext x1
  try clear_value x1
  exact (keysRestore_within (State.setPlinth_within h hk) hk)

theorem mbxShow_within {K : Nat} {result : Nat} {out : List Byte} {s0 s : State} (h : Within K s0 s) (hk : 2535301200456458802994480152608 ||| K = K) :
    Within K s0 (mbxShow result out s) := by
  unfold mbxShow
  extract_lets -merge -useContext x1 x2 x3
  try clear_value x1
  have h2 : Within K s0 x2 := by
    unfold x2
    exact (State.setPlinth_within h (Within.sub hk (by simp)))
  clear_value x2
  have h3 : Within K s0 x3 := by
    unfold x3
    exact (State.set_within
      (State.set_within h2 (Within.sub hk (by simp))) (Within.sub hk (by simp)))
  clear_value x3
  exact (State.raise_within
    (State.set_within h3 (Within.sub hk (by simp))) (Within.sub hk (by simp)) (Within.sub hk (by simp)))

theorem mbxFinish_within {K : Nat} {result : Nat} {out : List Byte} {s0 s : State} (h : Within K s0 s) (hk : 2693757525484987478731323867168 ||| K = K) :
    Within K s0 (mbxFinish result out s) := by
  unfold mbxFinish
  extract_lets -merge -useContext x1 x2 x3
  try clear_value x1
  have h2 : Within K s0 x2 := by
    unfold x2
    exact (State.setPlinth_within h (Within.sub hk (by simp)))
  clear_value x2
  try clear_value x3
  split
  · skip
    exact h
  · skip
    exact (Within.ite (State.raise_within
        (Within.upd_mbox h2 (Within.sub hk (by simp)) _) (Within.sub hk (by simp)) (Within.sub hk (by simp)))
      (mbxShow_within h2 (Within.sub hk (by simp))))

theorem capsuleEnd_within {K : Nat} {cmd : Nat} {result : Nat} {pairs : List Byte} {s0 s : State} (h : Within K s0 s) (hk : 2693757525484987478731323867168 ||| K = K) :
    Within K s0 (capsuleEnd cmd result pairs s) := by
  unfold capsuleEnd
  extract_lets -merge -useContext x1 x2 x3 x4 x5
  have h1 : Within K s0 x1 := by
    unfold x1
    exact (State.set_within
      (State.set_within h (Within.sub hk (by simp))) (Within.sub hk (by simp)))
  clear_value x1
  have h2 : Within K s0 x2 := by
    unfold x2
    exact (Within.ite (State.bump_within h1 (Within.sub hk (by simp)))
      h1)
  clear_value x2
  try clear_value x3
  have h4 : Within K s0 x4 := by
    unfold x4
    exact (State.setPlinth_within h2 (Within.sub hk (by simp)))
  clear_value x4
  have h5 : Within K s0 x5 := by
    unfold x5
    exact (secLog_within
      (State.raise_within h4 (Within.sub hk (by simp)) (Within.sub hk (by simp))) (Within.sub hk (by simp)))
  clear_value x5
  exact (mbxFinish_within h5 hk)

theorem capsuleAbort_within {K : Nat} {s0 s : State} (h : Within K s0 s) (hk : 2693757525484987478731323867168 ||| K = K) :
    Within K s0 (capsuleAbort s) := by
  unfold capsuleAbort
  split
  · skip
    exact (capsuleEnd_within h hk)
  · skip
    exact h

theorem submitCapsule_within {K : Nat} {s0 s : State} (h : Within K s0 s) (hk : 2693757525484987478731323867168 ||| K = K) :
    Within K s0 (submitCapsule s) := by
  unfold submitCapsule
  extract_lets -merge -useContext x1
  try clear_value x1
  split
  · skip
    exact (Within.ite h
      (by
        split
        · skip
          exact (State.setPair_within
            (State.setPlinth_within h (Within.sub hk (by simp))) (Within.sub hk (by simp)))
        · skip
          exact (capsuleEnd_within h hk)))
  · skip
    exact h

theorem runCapsule_within {K : Nat} {cmd : Nat} {act : List Byte → State → Nat × State} {s0 s : State} (h : Within K s0 s) (hf1 : ∀ a0 t, Within K s0 t → Within K s0 (act a0 t).2) (hk : 2693757525484987478731323867168 ||| K = K) :
    Within K s0 (runCapsule cmd act s) := by
  unfold runCapsule
  split
  · skip
    extract_lets -merge -useContext x1
    have h1 : Within K s0 x1.2 := by
      unfold x1
      exact (hf1 _ _ h)
    clear_value x1
    exact (Within.ite h
      (Within.ite (capsuleEnd_within h hk)
        (capsuleEnd_within h1 hk)))
  · skip
    exact h

theorem officerShow_within {K : Nat} {s0 s : State} (h : Within K s0 s) (hk : 2535301200456458802993406410752 ||| K = K) :
    Within K s0 (officerShow s) := by
  unfold officerShow
  exact (State.setFlag_within h (Within.sub hk (by simp)))

theorem installOfficer_within {K : Nat} {b : List Byte} {s0 s : State} (h : Within K s0 s) (hk : 2535301200456458802994480152576 ||| K = K) :
    Within K s0 (installOfficer b s).2 := by
  unfold installOfficer
  extract_lets -merge -useContext x1 x2
  try clear_value x1
  try clear_value x2
  split
  · skip
    exact (Within.snd h)
  · skip
    split
    · skip
      exact (Within.snd h)
    · skip
      exact (Within.snd (officerShow_within
        (State.setPlinth_within h (Within.sub hk (by simp))) (Within.sub hk (by simp))))

theorem removeOfficer_within {K : Nat} {b : List Byte} {s0 s : State} (h : Within K s0 s) (hk : 2535301200456458802994480152576 ||| K = K) :
    Within K s0 (removeOfficer b s).2 := by
  unfold removeOfficer
  extract_lets -merge -useContext x1 x2
  try clear_value x1
  try clear_value x2
  split
  · skip
    exact (Within.snd h)
  · skip
    split
    · skip
      exact (Within.snd h)
    · skip
      exact (Within.snd (officerShow_within
        (State.setPlinth_within h (Within.sub hk (by simp))) (Within.sub hk (by simp))))

theorem loadPsk_within {K : Nat} {b : List Byte} {s0 s : State} (h : Within K s0 s) (hk : 2535301200456458802994480152576 ||| K = K) :
    Within K s0 (loadPsk b s).2 := by
  unfold loadPsk
  extract_lets -merge -useContext x1 x2
  try clear_value x1
  try clear_value x2
  split
  · skip
    exact (Within.snd h)
  · skip
    split
    · skip
      exact (Within.snd h)
    · skip
      exact (Within.snd (State.set_within
        (State.setPlinth_within h (Within.sub hk (by simp))) (Within.sub hk (by simp))))

theorem clearPsk_within {K : Nat} {b : List Byte} {s0 s : State} (h : Within K s0 s) (hk : 2535301200456458802994480152576 ||| K = K) :
    Within K s0 (clearPsk b s).2 := by
  unfold clearPsk
  extract_lets -merge -useContext x1
  try clear_value x1
  split
  · skip
    exact (Within.snd (State.set_within
      (State.setPlinth_within h (Within.sub hk (by simp))) (Within.sub hk (by simp))))
  · skip
    exact (Within.snd h)

theorem setTrust_within {K : Nat} {b : List Byte} {s0 s : State} (h : Within K s0 s) (hk : 1073741824 ||| K = K) :
    Within K s0 (setTrust b s).2 := by
  unfold setTrust
  extract_lets -merge -useContext x1 x2 x3
  try clear_value x1
  try clear_value x2
  try clear_value x3
  split
  · skip
    exact (Within.snd h)
  · skip
    exact (Within.snd (State.setPlinth_within h hk))

theorem setAllow_within {K : Nat} {b : List Byte} {s0 s : State} (h : Within K s0 s) (hk : 1073741824 ||| K = K) :
    Within K s0 (setAllow b s).2 := by
  unfold setAllow
  extract_lets -merge -useContext x1 x2
  try clear_value x1
  try clear_value x2
  split
  · skip
    exact (Within.snd h)
  · skip
    exact (Within.snd (State.setPlinth_within h hk))

theorem setCodeKey_within {K : Nat} {b : List Byte} {s0 s : State} (h : Within K s0 s) (hk : 316912650057057350375249543168 ||| K = K) :
    Within K s0 (setCodeKey b s).2 := by
  unfold setCodeKey
  extract_lets -merge -useContext x1
  try clear_value x1
  split
  · skip
    exact (Within.snd h)
  · skip
    exact (Within.snd (State.set_within
      (State.setPlinth_within h (Within.sub hk (by simp))) (Within.sub hk (by simp))))

theorem setSvnMin_within {K : Nat} {b : List Byte} {s0 s : State} (h : Within K s0 s) (hk : 1073741824 ||| K = K) :
    Within K s0 (setSvnMin b s).2 := by
  unfold setSvnMin
  extract_lets -merge -useContext x1 x2 x3
  try clear_value x1
  try clear_value x2
  try clear_value x3
  split
  · skip
    exact (Within.snd h)
  · skip
    split
    · skip
      exact (Within.snd h)
    · skip
      exact (Within.snd (State.setPlinth_within h hk))

theorem closeTestPort_within {K : Nat} {s0 s : State} (h : Within K s0 s) (hk : 2535301200456458802993406410784 ||| K = K) :
    Within K s0 (closeTestPort s) := by
  unfold closeTestPort
  exact (Within.ite (State.raise_within
      (State.set_within
        (State.set_within h (Within.sub hk (by simp))) (Within.sub hk (by simp))) (Within.sub hk (by simp)) (Within.sub hk (by simp)))
    h)

theorem openTestPort_within {K : Nat} {scan : Bool} {minutes : Nat} {s0 s : State} (h : Within K s0 s) (hk : 2555110677826130048130601754656 ||| K = K) :
    Within K s0 (openTestPort scan minutes s) := by
  unfold openTestPort
  extract_lets -merge -useContext x1 x2 x3 x4 x5
  have h1 : Within K s0 x1 := by
    unfold x1
    exact (zeroise_within h (Within.sub hk (by simp)))
  clear_value x1
  try clear_value x2
  have h3 : Within K s0 x3 := by
    unfold x3
    exact (Within.ite (setHoldBoth_within
        (State.setPlinth_within h1 (Within.sub hk (by simp))) (Within.sub hk (by simp)))
      h)
  clear_value x3
  try clear_value x4
  have h5 : Within K s0 x5 := by
    unfold x5
    exact (State.setPlinth_within h3 (Within.sub hk (by simp)))
  clear_value x5
  exact (State.raise_within
    (State.setFlag_within
      (State.set_within h5 (Within.sub hk (by simp))) (Within.sub hk (by simp))) (Within.sub hk (by simp)) (Within.sub hk (by simp)))

theorem testPortExpiry_within {K : Nat} {s0 s : State} (h : Within K s0 s) (hk : 2535301200456458802993406410784 ||| K = K) :
    Within K s0 (testPortExpiry s) := by
  unfold testPortExpiry
  exact (Within.ite (closeTestPort_within h hk)
    h)

theorem testPort_within {K : Nat} {b : List Byte} {s0 s : State} (h : Within K s0 s) (hk : 2555110677826130048130601754656 ||| K = K) :
    Within K s0 (testPort b s).2 := by
  unfold testPort
  extract_lets -merge -useContext x1 x2
  try clear_value x1
  try clear_value x2
  split
  · skip
    exact (Within.snd h)
  · skip
    split
    · skip
      exact (Within.snd (closeTestPort_within h (Within.sub hk (by simp))))
    · skip
      split
      · skip
        exact (Within.snd h)
      · skip
        exact (Within.snd (openTestPort_within h hk))

theorem zeroiseCapsule_within {K : Nat} {b : List Byte} {s0 s : State} (h : Within K s0 s) (hk : 2555110658936664116651752464416 ||| K = K) :
    Within K s0 (zeroiseCapsule b s).2 := by
  unfold zeroiseCapsule
  split
  · skip
    exact (Within.snd (zeroise_within h hk))
  · skip
    exact (Within.snd h)

theorem release_within {K : Nat} {b : List Byte} {s0 s : State} (h : Within K s0 s) (hk : 2555108259974490818871715471392 ||| K = K) :
    Within K s0 (release b s).2 := by
  unfold release
  extract_lets -merge -useContext x1 x2 x3 x4
  try clear_value x1
  have h2 : Within K s0 x2 := by
    unfold x2
    exact (State.set_within
      (State.set_within h (Within.sub hk (by simp))) (Within.sub hk (by simp)))
  clear_value x2
  have h3 : Within K s0 x3 := by
    unfold x3
    exact (Within.ite (clearHold_within (clearHold_within h2 hk) hk)
      h)
  clear_value x3
  have h4 : Within K s0 x4 := by
    unfold x4
    exact (Within.ite (clearHold_within h3 hk)
      h3)
  clear_value x4
  split
  · skip
    exact (Within.snd h)
  · skip
    split
    · skip
      exact (Within.snd h)
    · skip
      exact (Within.snd (Within.ite (clearHold_within h4 hk)
        h4))

theorem answerRequest_within {K : Nat} {req : Nat} {act : List Byte → State → Nat × List Byte × State} {s0 s : State} (h : Within K s0 s) (hf1 : ∀ a0 t, Within K s0 t → Within K s0 (act a0 t).2.2) (hk : 2693757525484987478731323867168 ||| K = K) :
    Within K s0 (answerRequest req act s) := by
  unfold answerRequest
  split
  · skip
    extract_lets -merge -useContext x1
    have h1 : Within K s0 x1.2.2 := by
      unfold x1
      exact (hf1 _ _ h)
    clear_value x1
    exact (Within.ite h
      (mbxFinish_within h1 hk))
  · skip
    exact h

theorem getResult_within {K : Nat} {b : List Byte} {s0 s : State} (h : Within K s0 s) :
    Within K s0 (getResult b s).2.2 := by
  unfold getResult
  split
  · skip
    exact (Within.sndSnd h)
  · skip
    exact (Within.sndSnd h)

theorem getAttest_within {K : Nat} {b : List Byte} {s0 s : State} (h : Within K s0 s) :
    Within K s0 (getAttest b s).2.2 := by
  unfold getAttest
  split
  · skip
    exact (Within.sndSnd h)
  · skip
    split
    · skip
      exact (Within.sndSnd h)
    · skip
      exact (Within.sndSnd h)

theorem getJournalSig_within {K : Nat} {b : List Byte} {s0 s : State} (h : Within K s0 s) :
    Within K s0 (getJournalSig b s).2.2 := by
  unfold getJournalSig
  split
  · skip
    exact (Within.sndSnd h)
  · skip
    split
    · skip
      exact (Within.sndSnd h)
    · skip
      exact (Within.sndSnd h)

theorem getCert_within {K : Nat} {b : List Byte} {s0 s : State} (h : Within K s0 s) :
    Within K s0 (getCert b s).2.2 := by
  unfold getCert
  split
  · skip
    exact (Within.sndSnd h)
  · skip
    exact (Within.sndSnd h)

theorem alsRestart_within {K : Nat} {b : List Byte} {s0 s : State} (h : Within K s0 s) (hk : 2555108259974495322471342841888 ||| K = K) :
    Within K s0 (alsRestart b s).2.2 := by
  unfold alsRestart
  extract_lets -merge -useContext x1
  try clear_value x1
  split
  · skip
    exact (Within.sndSnd h)
  · skip
    split
    · skip
      exact (Within.sndSnd h)
    · skip
      exact (Within.sndSnd (alsPulseIn_within h hk))

theorem unknownRequest_within {K : Nat} {s0 s : State} (h : Within K s0 s) (hk : 2693757525484987478731323867168 ||| K = K) :
    Within K s0 (unknownRequest s) := by
  unfold unknownRequest
  split
  · skip
    exact (Within.ite (mbxFinish_within h hk)
      h)
  · skip
    exact h

theorem mbxOutRead_within {K : Nat} {s0 s : State} (h : Within K s0 s) (hk : 1073741824 ||| K = K) :
    Within K s0 (mbxOutRead s) := by
  unfold mbxOutRead
  extract_lets -merge -useContext x1
  try clear_value x1
  exact (State.setPlinth_within h hk)

theorem mbxGo_within {K : Nat} {s0 s : State} (h : Within K s0 s) (hk : 2535301200456458802994480152608 ||| K = K) :
    Within K s0 (mbxGo s) := by
  unfold mbxGo
  extract_lets -merge -useContext x1 x2 x3 x4 x5
  try clear_value x1
  try clear_value x2
  try clear_value x3
  have h4 : Within K s0 x4 := by
    unfold x4
    exact (State.setPlinth_within h (Within.sub hk (by simp)))
  clear_value x4
  try clear_value x5
  exact (Within.ite (mbxShow_within h4 hk)
    (State.set_within
      (State.setPlinth_within h4 (Within.sub hk (by simp))) (Within.sub hk (by simp))))

theorem alarmAction_within {K : Nat} {c : Carrier} {tap : Bool} {s0 s : State} (h : Within K s0 s) (hk : 2555115589087276736197760688160 ||| K = K) :
    Within K s0 (alarmAction c tap s) := by
  unfold alarmAction
  extract_lets -merge -useContext x1 x2 x3 x4 x5
  try clear_value x1
  try clear_value x2
  have h3 : Within K s0 x3 := by
    unfold x3
    exact (Within.upd_evr h (Within.sub hk (by simp)) _)
  clear_value x3
  try clear_value x4
  have h5 : Within K s0 x5 := by
    unfold x5
    exact (secLog_within h3 (Within.sub hk (by simp)))
  clear_value x5
  exact (Within.ite h
    (Within.ite h5
      (Within.ite (by
          split
          · skip
            exact (startExchange_within
              (secLog_within h5 (Within.sub hk (by simp))) (Within.sub hk (by simp)))
          · skip
            exact h5)
        (Within.ite (Within.ite h5
            (castOccurs_within
              (setHold_within
                (secLog_within h5 (Within.sub hk (by simp))) (Within.sub hk (by simp))) (Within.sub hk (by simp))))
          (Within.ite h5
            (castOccurs_within
              (zeroise_within
                (secLog_within h5 (Within.sub hk (by simp))) (Within.sub hk (by simp))) (Within.sub hk (by simp))))))))

theorem tamper_within {K : Nat} {mask : Nat} {s0 s : State} (h : Within K s0 s) (hk : 2713567002854658723867445469216 ||| K = K) :
    Within K s0 (tamper mask s) := by
  unfold tamper
  extract_lets -merge -useContext x1 x2 x3 x4
  have h1 : Within K s0 x1 := by
    unfold x1
    exact (State.set_within h (Within.sub hk (by simp)))
  clear_value x1
  have h2 : Within K s0 x2 := by
    unfold x2
    exact (State.bump_within
      (State.set_within h1 (Within.sub hk (by simp))) (Within.sub hk (by simp)))
  clear_value x2
  have h3 : Within K s0 x3 := by
    unfold x3
    exact (secLog_within
      (State.raise_within h2 (Within.sub hk (by simp)) (Within.sub hk (by simp))) (Within.sub hk (by simp)))
  clear_value x3
  have h4 : Within K s0 x4 := by
    unfold x4
    exact (zeroise_within
      (capsuleAbort_within h3 (Within.sub hk (by simp))) (Within.sub hk (by simp)))
  clear_value x4
  exact (closeTestPort_within
    (setHoldBoth_within h4 (Within.sub hk (by simp))) (Within.sub hk (by simp)))

theorem tamperInput_within {K : Nat} {i : Fin 4} {s0 s : State} (h : Within K s0 s) (hk : 2713567002854658723867445469216 ||| K = K) :
    Within K s0 (tamperInput i s) := by
  unfold tamperInput
  extract_lets -merge -useContext x1 x2
  try clear_value x1
  have h2 : Within K s0 x2 := by
    unfold x2
    exact (State.set_within h (Within.sub hk (by simp)))
  clear_value x2
  exact (Within.ite (tamper_within h2 hk)
    h2)

theorem tamperClear_within {K : Nat} {i : Fin 4} {s0 s : State} (h : Within K s0 s) (hk : 2535301200456458802994480152576 ||| K = K) :
    Within K s0 (tamperClear i s) := by
  unfold tamperClear
  exact (keysRestore_within
    (State.set_within h (Within.sub hk (by simp))) (Within.sub hk (by simp)))

theorem tamperConfig_within {K : Nat} {old : Word} {new : Word} {s0 s : State} (h : Within K s0 s) (hk : 2713567002854658723867445469216 ||| K = K) :
    Within K s0 (tamperConfig old new s) := by
  unfold tamperConfig
  extract_lets -merge -useContext x1 x2 x3 x4
  try clear_value x1
  try clear_value x2
  have h3 : Within K s0 x3 := by
    unfold x3
    exact (State.set_within h (Within.sub hk (by simp)))
  clear_value x3
  try clear_value x4
  exact (Within.ite (keysRestore_within h3 (Within.sub hk (by simp)))
    (tamper_within h3 hk))

theorem commandHolds_within {K : Nat} {s0 s : State} (h : Within K s0 s) (hk : 2555108259974490818871715471392 ||| K = K) :
    Within K s0 (commandHolds s) := by
  unfold commandHolds
  extract_lets -merge -useContext x1
  have f1 : ∀ a0 a1 t, Within K s0 t → Within K s0 (x1 a0 a1 t) := by
    unfold x1
    exact fun _ _ _ h1 => (Within.ite (setHold_within h1 hk)
      (Within.ite h1
        (clearHold_within h1 hk)))
  clear_value x1
  exact (f1 _ _ _ (f1 _ _ _ h))

theorem rk0Failure_within {K : Nat} {s0 s : State} (h : Within K s0 s) (hk : 2693757525484991982330951237664 ||| K = K) :
    Within K s0 (rk0Failure s) := by
  unfold rk0Failure
  extract_lets -merge -useContext x1
  have h1 : Within K s0 x1 := by
    unfold x1
    exact (State.bump_within
      (State.set_within h (Within.sub hk (by simp))) (Within.sub hk (by simp)))
  clear_value x1
  exact (capsuleAbort_within
    (secLog_within
      (stopTimer_within
        (State.raise_within h1 (Within.sub hk (by simp)) (Within.sub hk (by simp))) (Within.sub hk (by simp))) (Within.sub hk (by simp))) (Within.sub hk (by simp)))

theorem heartbeatCheck_within {K : Nat} {s0 s : State} (h : Within K s0 s) (hk : 2693757525484991982330951237664 ||| K = K) :
    Within K s0 (heartbeatCheck s) := by
  unfold heartbeatCheck
  extract_lets -merge -useContext x1 x2
  try clear_value x1
  try clear_value x2
  exact (Within.ite h
    (Within.ite (Within.ite h
        (Within.ite (rk0Failure_within h hk)
          (startTimer_within
            (State.setPlinth_within h (Within.sub hk (by simp))) (Within.sub hk (by simp)))))
      (Within.ite (rk0Failure_within h hk)
        h)))

theorem recoveryEnd_within {K : Nat} {s0 s : State} (h : Within K s0 s) (hk : 2535301200456463306594107523072 ||| K = K) :
    Within K s0 (recoveryEnd s) := by
  unfold recoveryEnd
  extract_lets -merge -useContext x1 x2 x3 x4
  try clear_value x1
  have h2 : Within K s0 x2 := by
    unfold x2
    exact (secLog_within
      (State.set_within h (Within.sub hk (by simp))) (Within.sub hk (by simp)))
  clear_value x2
  have h3 : Within K s0 x3 := by
    unfold x3
    exact (startTimer_within
      (startTimer_within h2 (Within.sub hk (by simp))) (Within.sub hk (by simp)))
  clear_value x3
  try clear_value x4
  exact (Within.ite (Within.ite (State.setPlinth_within h3 (Within.sub hk (by simp)))
      h)
    (Within.ite (State.set_within h (Within.sub hk (by simp)))
      h))

theorem lockstepFail_within {K : Nat} {s0 s : State} (h : Within K s0 s) (hk : 2555110658936664116652020899872 ||| K = K) :
    Within K s0 (lockstepFail s) := by
  unfold lockstepFail
  extract_lets -merge -useContext x1 x2 x3 x4 x5
  have f1 : ∀ a0 t, Within K s0 t → Within K s0 (x1 a0 t) := by
    unfold x1
    exact fun _ _ h1 => (outputCut_within
      (leaveEncrypting_within
        (State.setCipher_within h1 (Within.sub hk (by simp))) (Within.sub hk (by simp))) (Within.sub hk (by simp)))
  clear_value x1
  have h2 : Within K s0 x2 := by
    unfold x2
    exact (State.set_within
      (State.set_within h (Within.sub hk (by simp))) (Within.sub hk (by simp)))
  clear_value x2
  have h3 : Within K s0 x3 := by
    unfold x3
    exact (f1 _ _ (f1 _ _ h2))
  clear_value x3
  have h4 : Within K s0 x4 := by
    unfold x4
    exact (zeroise_within h3 (Within.sub hk (by simp)))
  clear_value x4
  try clear_value x5
  exact (Within.ite h
    (State.setPlinth_within h4 (Within.sub hk (by simp))))

theorem plnWritten_within {K : Nat} {y0 : Nat} {old : Word} {new : Word} {s0 s : State} (h : Within K s0 s) (hk : 2713567002854658723867445469216 ||| K = K) :
    Within K s0 (plnWritten y0 old new s) := by
  unfold plnWritten
  extract_lets -merge -useContext x1 x2 x3 x4
  try clear_value x1
  try clear_value x2
  try clear_value x3
  try clear_value x4
  exact (Within.ite (State.setPlinth_within h (Within.sub hk (by simp)))
    (Within.ite (State.setPlinth_within h (Within.sub hk (by simp)))
      (Within.ite (tamperConfig_within h hk)
        (Within.ite (commandHolds_within
            (State.setPlinth_within h (Within.sub hk (by simp))) (Within.sub hk (by simp)))
          (Within.ite (Within.ite (mbxGo_within h (Within.sub hk (by simp)))
              h)
            (Within.ite (State.setPlinth_within h (Within.sub hk (by simp)))
              h))))))

end Sys2Proof.Machine
end

