-- ==== Sys2Proof/Laws/Tally.lean ====
section
/-! SUPPORT. Laws/Tally.lean: the parts of the state that each operation of Machine/Tally.lean can change. -/
namespace Sys2Proof.Machine

set_option Elab.async false

open Sys2Proof

theorem setTallyCount_within {K : Nat} {s0 s : State} {y1 : TallyPage} {k : Nat} {v : Nat} (h : Within K s0 s) (hk : 1901475900342344102245054808064 ||| K = K) :
    Within K s0 (setTallyCount s y1 k v) := by
  unfold setTallyCount
  split
  · skip
    exact (State.setPair_within h (Within.sub hk (by simp)))
  · skip
    exact (State.setPair_within h (Within.sub hk (by simp)))

theorem tallyWrapped_within {K : Nat} {s0 s : State} {y1 : TallyPage} {k : Nat} (h : Within K s0 s) (hk : 1901475900342344102245054808096 ||| K = K) :
    Within K s0 (tallyWrapped s y1 k) := by
  unfold tallyWrapped
  extract_lets -merge -useContext x1 x2
  try clear_value x1
  try clear_value x2
  split
  · skip
    exact (State.raiseIf_within
      (State.set_within h (Within.sub hk (by simp))) (Within.sub hk (by simp)) (Within.sub hk (by simp)))
  · skip
    exact (State.raiseIf_within
      (State.set_within h (Within.sub hk (by simp))) (Within.sub hk (by simp)) (Within.sub hk (by simp)))

theorem putSample_within {K : Nat} {s0 s : State} {n : Fin 8} {x : SampleBuffer} (h : Within K s0 s) (hk : 35184372088832 ||| K = K) :
    Within K s0 (putSample s n x) := by
  unfold putSample
  exact (Within.upd_samples h hk _)

theorem writeSample_within {K : Nat} {n : Fin 8} {r : List Word} {s0 s : State} (h : Within K s0 s) (hk : 633825300114114735932723691552 ||| K = K) :
    Within K s0 (writeSample n r s) := by
  unfold writeSample
  extract_lets -merge -useContext x1 x2 x3 x4
  try clear_value x1
  try clear_value x2
  have h3 : Within K s0 x3 := by
    unfold x3
    exact (State.set_within
      (putSample_within h (Within.sub hk (by simp))) (Within.sub hk (by simp)))
  clear_value x3
  have h4 : Within K s0 x4 := by
    unfold x4
    exact (State.bump_within h (Within.sub hk (by simp)))
  clear_value x4
  exact (Within.ite (State.raiseIf_within h3 (Within.sub hk (by simp)) (Within.sub hk (by simp)))
    (Within.ite h4
      (putSample_within h4 (Within.sub hk (by simp)))))

theorem writeSamples_within {K : Nat} {s0 : State} {core : Fin 8} {k : Nat} {n : Nat} {s : State} (h : Within K s0 s) (hk : 633825300114114735932723691552 ||| K = K) : Within K s0 (writeSamples core k n s) := by
  induction n generalizing s with
  | zero => exact h
  | succ n ih => exact ih (writeSample_within h hk)

theorem sampleEvents_within {K : Nat} {y0 : TallyPage} {k : Nat} {added : Nat} {s0 s : State} (h : Within K s0 s) (hk : 633825300114114735932723691552 ||| K = K) :
    Within K s0 (sampleEvents y0 k added s) := by
  unfold sampleEvents
  split
  · skip
    exact h
  · skip
    extract_lets -merge -useContext x1 x2 x3
    try clear_value x1
    try clear_value x2
    try clear_value x3
    exact (Within.ite h
      (writeSamples_within
        (putSample_within h (Within.sub hk (by simp))) hk))

theorem tallyCounters_within {K : Nat} {s0 : State} {t : TallyPage} {i : TallyInputs}
    {l : List Nat} {b : Bool} {s : State} (h : Within K s0 s) (hk : 1901475900342344137429426896928 ||| K = K) :
    Within K s0 (tallyCounters t i l b s) := by
  induction l generalizing s b with
  | nil => exact h
  | cons k ks ih =>
    unfold tallyCounters
    extract_lets -merge -useContext x1 x2 x3 x4 x5 x6 x7
    have h6 : Within K s0 x6 := setTallyCount_within h (Within.sub hk (by simp))
    have h7 : Within K s0 x7 := Within.ite (tallyWrapped_within h6 (Within.sub hk (by simp))) h6
    clear_value x7 x6 x5 x4 x3 x2 x1
    exact Within.ite (ih h) (ih (sampleEvents_within h7 (Within.sub hk (by simp))))

theorem tallyPage_within {K : Nat} {i : TallyInputs} {s0 s : State} {y2 : TallyPage} (h : Within K s0 s) (hk : 1901475900342344137429426896928 ||| K = K) :
    Within K s0 (tallyPage i s y2) := by
  unfold tallyPage
  exact (Within.ite (tallyCounters_within h hk)
    h)

theorem tallyTick_within {K : Nat} {i : TallyInputs} {s0 s : State} (h : Within K s0 s) (hk : 1901475900342344137429426897440 ||| K = K) :
    Within K s0 (tallyTick i s) := by
  unfold tallyTick
  extract_lets -merge -useContext x1
  have h1 : Within K s0 x1 := by
    unfold x1
    exact (Within.foldl _ (fun _ _ h2 => (tallyPage_within h2 (Within.sub hk (by simp))))
      h)
  clear_value x1
  exact (Within.upd_tickEvents h1 (Within.sub hk (by simp)) _ (fun w => rfl))

theorem tallyClear_within {K : Nat} {y0 : TallyPage} {first : Nat} {mask : Nat} {s0 s : State} (h : Within K s0 s) (hk : 1901475900342344102245054808064 ||| K = K) :
    Within K s0 (tallyClear y0 first mask s) := by
  unfold tallyClear
  exact (Within.foldl _ (fun _ _ h1 => (Within.ite (setTallyCount_within h1 hk)
      h1))
    h)

theorem sampleClear_within {K : Nat} {n : Fin 8} {s0 s : State} (h : Within K s0 s) (hk : 633825300114114735932723691520 ||| K = K) :
    Within K s0 (sampleClear n s) := by
  unfold sampleClear
  extract_lets -merge -useContext x1 x2
  try clear_value x1
  have h2 : Within K s0 x2 := by
    unfold x2
    exact (putSample_within h (Within.sub hk (by simp)))
  clear_value x2
  exact (State.set_within
    (State.set_within h2 (Within.sub hk (by simp))) (Within.sub hk (by simp)))

theorem sampleD0Read_within {K : Nat} {n : Fin 8} {s0 s : State} (h : Within K s0 s) (hk : 35184372088832 ||| K = K) :
    Within K s0 (sampleD0Read n s) := by
  unfold sampleD0Read
  extract_lets -merge -useContext x1
  try clear_value x1
  exact (putSample_within h hk)

theorem sampleD3Read_within {K : Nat} {n : Fin 8} {s0 s : State} (h : Within K s0 s) (hk : 633825300114114700748351602688 ||| K = K) :
    Within K s0 (sampleD3Read n s) := by
  unfold sampleD3Read
  exact (State.addWrap_within h (Within.sub hk (by simp)))

theorem tallyWritten_within {K : Nat} {n : Fin 8} {y1 : Nat} {new : Word} {s0 s : State} (h : Within K s0 s) (hk : 1901475900342344137429426896896 ||| K = K) :
    Within K s0 (tallyWritten n y1 new s) := by
  unfold tallyWritten
  exact (Within.ite (tallyClear_within h (Within.sub hk (by simp)))
    (Within.ite (sampleClear_within h (Within.sub hk (by simp)))
      h))

theorem fabricWritten_within {K : Nat} {y0 : Nat} {new : Word} {s0 s : State} (h : Within K s0 s) (hk : 1901475900342344102245054808064 ||| K = K) :
    Within K s0 (fabricWritten y0 new s) := by
  unfold fabricWritten
  exact (Within.ite (tallyClear_within h hk)
    (Within.ite (tallyClear_within h hk)
      h))

end Sys2Proof.Machine
end

