-- ==== Sys2Proof/Laws/Housekeeping.lean ====
section
/-! SUPPORT. Laws/Housekeeping.lean: the parts of the state that each operation of Machine/Housekeeping.lean can change. -/
namespace Sys2Proof.Machine

set_option Elab.async false

open Sys2Proof

theorem putHk_within {K : Nat} {s0 s : State} {n : Fin 2} {x : Housekeeper} (h : Within K s0 s) (hk : 65536 ||| K = K) :
    Within K s0 (putHk s n x) := by
  unfold putHk
  exact (Within.upd_hk h hk _)

theorem hkClampCount_within {K : Nat} {n : Fin 2} {clamps : Nat} {s0 s : State} (h : Within K s0 s) (hk : 2361183241434822606880 ||| K = K) :
    Within K s0 (hkClampCount n clamps s) := by
  unfold hkClampCount
  extract_lets -merge -useContext x1
  have h1 : Within K s0 x1 := by
    unfold x1
    exact (Within.ite (State.addSat_within h (Within.sub hk (by simp)))
      h)
  clear_value x1
  exact (Within.ite h
    (State.raise_within h1 (Within.sub hk (by simp)) (Within.sub hk (by simp))))

theorem hkCrossCheck_within {K : Nat} {n : Fin 2} {s0 s : State} (h : Within K s0 s) (hk : 2361183241434822672416 ||| K = K) :
    Within K s0 (hkCrossCheck n s) := by
  unfold hkCrossCheck
  extract_lets -merge -useContext x1 x2 x3 x4 x5 x6 x7
  try clear_value x1
  try clear_value x2
  try clear_value x3
  try clear_value x4
  try clear_value x5
  have h6 : Within K s0 x6 := by
    unfold x6
    exact (putHk_within
      (State.bump_within h (Within.sub hk (by simp))) (Within.sub hk (by simp)))
  clear_value x6
  have h7 : Within K s0 x7 := by
    unfold x7
    exact (putHk_within h (Within.sub hk (by simp)))
  clear_value x7
  exact (Within.ite h
    (Within.ite (Within.ite (State.raise_within
          (State.set_within h6 (Within.sub hk (by simp))) (Within.sub hk (by simp)) (Within.sub hk (by simp)))
        h6)
      (Within.ite (State.set_within h7 (Within.sub hk (by simp)))
        h7)))

theorem hkImplicit_within {K : Nat} {n : Fin 2} {ref : Int} {temp : Int} {s0 s : State} (h : Within K s0 s) (hk : 2361183241434822672416 ||| K = K) :
    Within K s0 (hkImplicit n ref temp s) := by
  unfold hkImplicit
  extract_lets -merge -useContext x1 x2 x3 x4
  have h1 : Within K s0 x1 := by
    unfold x1
    exact (State.set_within h (Within.sub hk (by simp)))
  clear_value x1
  try clear_value x2
  have h3 : Within K s0 x3 := by
    unfold x3
    exact (putHk_within h1 (Within.sub hk (by simp)))
  clear_value x3
  have h4 : Within K s0 x4 := by
    unfold x4
    exact (hkClampCount_within h3 (Within.sub hk (by simp)))
  clear_value x4
  exact (State.setInt_within (hkCrossCheck_within h4 hk) (Within.sub hk (by simp)))

theorem hkBegin_within {K : Nat} {n : Fin 2} {ref : Int} {temp : Int} {s0 s : State} (h : Within K s0 s) (hk : 2361187745034450042912 ||| K = K) :
    Within K s0 (hkBegin n ref temp s) := by
  unfold hkBegin
  extract_lets -merge -useContext x1 x2
  have h1 : Within K s0 x1 := by
    unfold x1
    exact (startTimer_within
      (State.set_within
        (State.set_within h (Within.sub hk (by simp))) (Within.sub hk (by simp))) (Within.sub hk (by simp)))
  clear_value x1
  try clear_value x2
  exact (hkImplicit_within
    (putHk_within h1 (Within.sub hk (by simp))) (Within.sub hk (by simp)))

theorem hkOverrun_within {K : Nat} {n : Fin 2} {s0 s : State} (h : Within K s0 s) (hk : 2361183241434822606880 ||| K = K) :
    Within K s0 (hkOverrun n s) := by
  unfold hkOverrun
  exact (State.raise_within
    (State.bump_within h (Within.sub hk (by simp))) (Within.sub hk (by simp)) (Within.sub hk (by simp)))

theorem hkTrigger_within {K : Nat} {n : Fin 2} {refs : Int × Int} {temps : Int × Int} {s0 s : State} (h : Within K s0 s) (hk : 2361187745034450042912 ||| K = K) :
    Within K s0 (hkTrigger n refs temps s) := by
  unfold hkTrigger
  extract_lets -merge -useContext x1 x2 x3 x4 x5 x6 x7
  try clear_value x1
  try clear_value x2
  try clear_value x3
  try clear_value x4
  try clear_value x5
  have h6 : Within K s0 x6 := by
    unfold x6
    exact (putHk_within h (Within.sub hk (by simp)))
  clear_value x6
  have h7 : Within K s0 x7 := by
    unfold x7
    exact (hkBegin_within h6 hk)
  clear_value x7
  exact (Within.ite h
    (Within.ite (hkImplicit_within h (Within.sub hk (by simp)))
      (Within.ite (hkOverrun_within h (Within.sub hk (by simp)))
        (Within.ite (Within.ite (hkOverrun_within h (Within.sub hk (by simp)))
            (putHk_within h (Within.sub hk (by simp))))
          (Within.ite (Within.ite (Within.ite (hkOverrun_within h (Within.sub hk (by simp)))
                (putHk_within h (Within.sub hk (by simp))))
              (Within.ite (hkBegin_within h7 hk)
                h7))
            (hkBegin_within h hk))))))

theorem hkSourceTrigger_within {K : Nat} {n : Fin 2} {src : Nat} {refs : Int × Int} {temps : Int × Int} {s0 s : State} (h : Within K s0 s) (hk : 2361187745034450042912 ||| K = K) :
    Within K s0 (hkSourceTrigger n src refs temps s) := by
  unfold hkSourceTrigger
  exact (Within.ite h
    (Within.ite (Within.ite (hkTrigger_within h hk)
        h)
      (Within.ite (hkTrigger_within
          (Within.ite (startTimer_within h (Within.sub hk (by simp)))
            h) hk)
        h)))

theorem hkSlot_within {K : Nat} {n : Fin 2} {codes : List Int} {i : Nat} {s0 s : State} (h : Within K s0 s) (hk : 2361183241434822606880 ||| K = K) :
    Within K s0 (hkSlot n codes i s) := by
  unfold hkSlot
  extract_lets -merge -useContext x1 x2 x3 x4 x5 x6
  try clear_value x1
  try clear_value x2
  try clear_value x3
  have h4 : Within K s0 x4 := by
    unfold x4
    exact (State.set_within h (Within.sub hk (by simp)))
  clear_value x4
  have h5 : Within K s0 x5 := by
    unfold x5
    exact (hkClampCount_within h4 hk)
  clear_value x5
  have h6 : Within K s0 x6 := by
    unfold x6
    exact (State.setFlag_within
      (State.set_within h5 (Within.sub hk (by simp))) (Within.sub hk (by simp)))
  clear_value x6
  exact (Within.ite (State.set_within h6 (Within.sub hk (by simp)))
    h)

theorem hkDone_within {K : Nat} {n : Fin 2} {codes : List (List Int)} {refs : Int × Int} {temps : Int × Int} {s0 s : State} (h : Within K s0 s) (hk : 2361187745034450042912 ||| K = K) :
    Within K s0 (hkDone n codes refs temps s) := by
  unfold hkDone
  extract_lets -merge -useContext x1 x2 x3 x4
  have h1 : Within K s0 x1 := by
    unfold x1
    exact (Within.foldl _ (fun _ _ h5 => (hkSlot_within h5 (Within.sub hk (by simp))))
      h)
  clear_value x1
  have h2 : Within K s0 x2 := by
    unfold x2
    exact (State.set_within h1 (Within.sub hk (by simp)))
  clear_value x2
  have h3 : Within K s0 x3 := by
    unfold x3
    exact (State.raise_within
      (State.addWrap_within h2 (Within.sub hk (by simp))) (Within.sub hk (by simp)) (Within.sub hk (by simp)))
  clear_value x3
  try clear_value x4
  exact (Within.ite (Within.ite (hkTrigger_within
        (putHk_within h3 (Within.sub hk (by simp))) hk)
      h3)
    h)

theorem hkUrgent_within {K : Nat} {n : Fin 2} {reading : Int} {inConversion : Bool} {s0 s : State} (h : Within K s0 s) (hk : 2361183241434822606880 ||| K = K) :
    Within K s0 (hkUrgent n reading inConversion s) := by
  unfold hkUrgent
  extract_lets -merge -useContext x1 x2 x3
  have h1 : Within K s0 x1 := by
    unfold x1
    exact (State.set_within h (Within.sub hk (by simp)))
  clear_value x1
  have h2 : Within K s0 x2 := by
    unfold x2
    exact (hkClampCount_within h1 hk)
  clear_value x2
  have h3 : Within K s0 x3 := by
    unfold x3
    exact (State.setFlag_within
      (State.set_within h2 (Within.sub hk (by simp))) (Within.sub hk (by simp)))
  clear_value x3
  exact (Within.ite (State.raise_within
      (State.bump_within h1 (Within.sub hk (by simp))) (Within.sub hk (by simp)) (Within.sub hk (by simp)))
    (State.raise_within
      (State.set_within h3 (Within.sub hk (by simp))) (Within.sub hk (by simp)) (Within.sub hk (by simp))))

theorem hkCalBegin_within {K : Nat} {n : Fin 2} {s0 s : State} (h : Within K s0 s) (hk : 2361187745034449977344 ||| K = K) :
    Within K s0 (hkCalBegin n s) := by
  unfold hkCalBegin
  extract_lets -merge -useContext x1
  try clear_value x1
  exact (Within.ite h
    (Within.foldl _ (fun _ _ h2 => (startTimer_within
        (State.set_within h2 (Within.sub hk (by simp))) (Within.sub hk (by simp))))
      h))

theorem hkCalEnd_within {K : Nat} {n : Fin 2} {offset : List (Int × Int)} {gain : List (Int × Int)} {refs : Int × Int} {temps : Int × Int} {s0 s : State} (h : Within K s0 s) (hk : 2951483555393155956768 ||| K = K) :
    Within K s0 (hkCalEnd n offset gain refs temps s) := by
  unfold hkCalEnd
  extract_lets -merge -useContext x1 x2
  try clear_value x1
  have h2 : Within K s0 x2 := by
    unfold x2
    exact (Within.foldl _ (fun _ _ h3 => (by
        extract_lets -merge -useContext x4 x5 x6 x7 x8
        try clear_value x4
        try clear_value x5
        try clear_value x6
        try clear_value x7
        have h8 : Within K s0 x8 := by
          unfold x8
          exact (Within.ite (putHk_within h3 (Within.sub hk (by simp)))
            h3)
        clear_value x8
        exact (State.set_within
          (calMeasure_within
            (calMeasure_within h8 (Within.sub hk (by simp))) (Within.sub hk (by simp))) (Within.sub hk (by simp)))))
      h)
  clear_value x2
  exact (Within.foldl _ (fun _ _ h9 => (Within.ite (hkTrigger_within
        (putHk_within h9 (Within.sub hk (by simp))) (Within.sub hk (by simp)))
      h9))
    h2)

theorem hkPowerDown_within {K : Nat} {s0 s : State} (h : Within K s0 s) (hk : 2361183241434822672384 ||| K = K) :
    Within K s0 (hkPowerDown s) := by
  unfold hkPowerDown
  exact (Within.foldl _ (fun _ _ h1 => (by
      extract_lets -merge -useContext x2 x3 x4
      try clear_value x2
      have h3 : Within K s0 x3 := by
        unfold x3
        exact (putHk_within h1 (Within.sub hk (by simp)))
      clear_value x3
      have h4 : Within K s0 x4 := by
        unfold x4
        exact (State.set_within
          (State.set_within h3 (Within.sub hk (by simp))) (Within.sub hk (by simp)))
      clear_value x4
      exact (State.clearArray_within h4 (Within.sub hk (by simp)))))
    h)

theorem hkWritten_within {K : Nat} {n : Fin 2} {y1 : Nat} {old : Word} {new : Word} {s0 s : State} (h : Within K s0 s) (hk : 2361183241434822672384 ||| K = K) :
    Within K s0 (hkWritten n y1 old new s) := by
  unfold hkWritten
  extract_lets -merge -useContext x1 x2
  try clear_value x1
  try clear_value x2
  split
  · skip
    exact h
  · skip
    extract_lets -merge -useContext x3 x4
    have h3 : Within K s0 x3 := by
      unfold x3
      exact (Within.ite (State.set_within h (Within.sub hk (by simp)))
        h)
    clear_value x3
    try clear_value x4
    exact (Within.ite (putHk_within h3 (Within.sub hk (by simp)))
      h3)

end Sys2Proof.Machine
end

