-- ==== Sys2Proof/Laws/Telemetry.lean ====
section
/-! SUPPORT. Laws/Telemetry.lean: the parts of the state that each operation of Machine/Telemetry.lean can change. -/
namespace Sys2Proof.Machine

set_option Elab.async false

open Sys2Proof

theorem State.setTel_within {K : Nat} {s0 s : State} {x : Telemetry} (h : Within K s0 s) (hk : 17179869184 ||| K = K) :
    Within K s0 (State.setTel s x) := by
  unfold State.setTel
  exact (Within.upd_tel h hk _)

theorem putTel_within {K : Nat} {s0 s : State} {n : Nat} {x : TelChannel} (h : Within K s0 s) (hk : 17179869184 ||| K = K) :
    Within K s0 (putTel s n x) := by
  unfold putTel
  extract_lets -merge -useContext x1
  try clear_value x1
  exact (State.setTel_within h hk)

theorem putTap_within {K : Nat} {s0 s : State} {c : Carrier} {x : TapWatch} (h : Within K s0 s) (hk : 17179869184 ||| K = K) :
    Within K s0 (putTap s c x) := by
  unfold putTap
  extract_lets -merge -useContext x1
  try clear_value x1
  exact (State.setTel_within h hk)

theorem tapRestart_within {K : Nat} {c : Carrier} {s0 s : State} (h : Within K s0 s) (hk : 17179869184 ||| K = K) :
    Within K s0 (tapRestart c s) := by
  unfold tapRestart
  extract_lets -merge -useContext x1
  try clear_value x1
  exact (putTap_within h hk)

theorem tapTake_within {K : Nat} {c : Carrier} {i : Nat} {v : Int} {invalid : Bool} {s0 s : State} (h : Within K s0 s) (hk : 17179869184 ||| K = K) :
    Within K s0 (tapTake c i v invalid s) := by
  unfold tapTake
  extract_lets -merge -useContext x1 x2 x3
  try clear_value x1
  try clear_value x2
  try clear_value x3
  exact (Within.ite h
    (Within.ite (putTap_within h hk)
      (putTap_within h hk)))

theorem tapOutput_within {K : Nat} {n : Nat} {v : Int} {invalid : Bool} {s0 s : State} (h : Within K s0 s) (hk : 17179869184 ||| K = K) :
    Within K s0 (tapOutput n v invalid s) := by
  unfold tapOutput
  exact (Within.ite (tapTake_within h hk)
    (Within.ite (tapTake_within h hk)
      h))

theorem telOutput_within {K : Nat} {n : Nat} {s0 s : State} (h : Within K s0 s) (hk : 538349779048290605596704 ||| K = K) :
    Within K s0 (telOutput n s) := by
  unfold telOutput
  extract_lets -merge -useContext x1 x2 x3
  try clear_value x1
  try clear_value x2
  have h3 : Within K s0 x3 := by
    unfold x3
    exact (putTel_within h (Within.sub hk (by simp)))
  clear_value x3
  split
  · skip
    exact h
  · skip
    extract_lets -merge -useContext x4 x5 x6 x7 x8
    try clear_value x4
    have h5 : Within K s0 x5 := by
      unfold x5
      exact (State.setInt_within h3 (Within.sub hk (by simp)))
    clear_value x5
    have h6 : Within K s0 x6 := by
      unfold x6
      exact (State.setFlag_within
        (State.set_within h5 (Within.sub hk (by simp))) (Within.sub hk (by simp)))
    clear_value x6
    have h7 : Within K s0 x7 := by
      unfold x7
      exact (State.raiseIf_within
        (State.setFlag_within h6 (Within.sub hk (by simp))) (Within.sub hk (by simp)) (Within.sub hk (by simp)))
    clear_value x7
    have h8 : Within K s0 x8 := by
      unfold x8
      exact (tapOutput_within h7 (Within.sub hk (by simp)))
    clear_value x8
    exact (Within.ite (castRecord_within h8 (Within.sub hk (by simp)))
      h8)

theorem tickChannel_within {K : Nat} {n : Nat} {env : TelInputs} {s0 s : State} (h : Within K s0 s) (hk : 9444732965756470296576 ||| K = K) :
    Within K s0 (tickChannel n env s) := by
  unfold tickChannel
  extract_lets -merge -useContext x1 x2 x3 x4 x5 x6 x7 x8 x9
  try clear_value x1
  try clear_value x2
  try clear_value x3
  try clear_value x4
  try clear_value x5
  try clear_value x6
  try clear_value x7
  try clear_value x8
  have h9 : Within K s0 x9 := by
    unfold x9
    exact (State.setFlag_within h (Within.sub hk (by simp)))
  clear_value x9
  exact (putTel_within h9 (Within.sub hk (by simp)))

theorem telReset_within {K : Nat} {s0 s : State} (h : Within K s0 s) (hk : 9444732965756470296608 ||| K = K) :
    Within K s0 (telReset s) := by
  unfold telReset
  extract_lets -merge -useContext x1 x2 x3 x4
  try clear_value x1
  try clear_value x2
  have h3 : Within K s0 x3 := by
    unfold x3
    exact (State.setTel_within h (Within.sub hk (by simp)))
  clear_value x3
  have h4 : Within K s0 x4 := by
    unfold x4
    exact (State.bump_within
      (State.setPair_within h3 (Within.sub hk (by simp))) (Within.sub hk (by simp)))
  clear_value x4
  exact (State.raise_within
    (Within.foldl _ (fun _ _ h5 => (State.set_within
        (State.set_within h5 (Within.sub hk (by simp))) (Within.sub hk (by simp))))
      h4) (Within.sub hk (by simp)) (Within.sub hk (by simp)))

theorem telTick_within {K : Nat} {env : TelInputs} {s0 s : State} (h : Within K s0 s) (hk : 538349779048290605596704 ||| K = K) :
    Within K s0 (telTick env s) := by
  unfold telTick
  extract_lets -merge -useContext x1 x2 x3 x4 x5
  try clear_value x1
  have h2 : Within K s0 x2 := by
    unfold x2
    exact (State.setTel_within h (Within.sub hk (by simp)))
  clear_value x2
  have h3 : Within K s0 x3 := by
    unfold x3
    exact (Within.foldl _ (fun _ _ h6 => (telOutput_within h6 hk))
      h2)
  clear_value x3
  try clear_value x4
  have h5 : Within K s0 x5 := by
    unfold x5
    exact (State.setTel_within h3 (Within.sub hk (by simp)))
  clear_value x5
  exact (Within.ite h
    (Within.ite (telReset_within h3 (Within.sub hk (by simp)))
      (Within.foldl _ (fun _ _ h7 => (tickChannel_within h7 (Within.sub hk (by simp))))
        h5)))

theorem telSyncPin_within {K : Nat} {s0 s : State} (h : Within K s0 s) (hk : 17179869184 ||| K = K) :
    Within K s0 (telSyncPin s) := by
  unfold telSyncPin
  extract_lets -merge -useContext x1
  try clear_value x1
  exact (Within.ite (State.setTel_within h hk)
    h)

theorem telResetNext_within {K : Nat} {s0 s : State} (h : Within K s0 s) (hk : 17179869184 ||| K = K) :
    Within K s0 (telResetNext s) := by
  unfold telResetNext
  extract_lets -merge -useContext x1
  try clear_value x1
  exact (State.setTel_within h hk)

theorem tapWritten_within {K : Nat} {c : Carrier} {new : Word} {s0 s : State} (h : Within K s0 s) (hk : 9444732965756470296576 ||| K = K) :
    Within K s0 (tapWritten c new s) := by
  unfold tapWritten
  extract_lets -merge -useContext x1
  try clear_value x1
  exact (Within.ite (tapRestart_within
      (State.set_within
        (State.set_within h (Within.sub hk (by simp))) (Within.sub hk (by simp))) (Within.sub hk (by simp)))
    (Within.ite (putTap_within
        (State.set_within h (Within.sub hk (by simp))) (Within.sub hk (by simp)))
      (Within.ite (Within.ite (State.set_within h (Within.sub hk (by simp)))
          h)
        (Within.ite h
          (State.set_within
            (State.set_within h (Within.sub hk (by simp))) (Within.sub hk (by simp)))))))

theorem learnDone_within {K : Nat} {c : Carrier} {s0 s : State} (h : Within K s0 s) (hk : 9444732965756470296608 ||| K = K) :
    Within K s0 (learnDone c s) := by
  unfold learnDone
  extract_lets -merge -useContext x1 x2 x3
  try clear_value x1
  try clear_value x2
  have h3 : Within K s0 x3 := by
    unfold x3
    exact (State.setTel_within h (Within.sub hk (by simp)))
  clear_value x3
  exact (Within.ite (State.raise_within
      (State.set_within h3 (Within.sub hk (by simp))) (Within.sub hk (by simp)) (Within.sub hk (by simp)))
    h)

theorem tapRaised_within {K : Nat} {c : Carrier} {rules : Nat} {s0 s : State} (h : Within K s0 s) (hk : 4920705879653806449360928 ||| K = K) :
    Within K s0 (tapRaised c rules s) := by
  unfold tapRaised
  extract_lets -merge -useContext x1 x2 x3 x4 x5 x6
  try clear_value x1
  try clear_value x2
  have h3 : Within K s0 x3 := by
    unfold x3
    exact (Within.ite (State.set_within h (Within.sub hk (by simp)))
      h)
  clear_value x3
  have h4 : Within K s0 x4 := by
    unfold x4
    exact (Within.ite (State.set_within h3 (Within.sub hk (by simp)))
      h3)
  clear_value x4
  have h5 : Within K s0 x5 := by
    unfold x5
    exact (State.setPair_within h4 (Within.sub hk (by simp)))
  clear_value x5
  have h6 : Within K s0 x6 := by
    unfold x6
    exact (State.raise_within
      (State.bump_within h5 (Within.sub hk (by simp))) (Within.sub hk (by simp)) (Within.sub hk (by simp)))
  clear_value x6
  exact (Within.ite h4
    (castOccurs_within h6 (Within.sub hk (by simp))))

theorem telStart_within {K : Nat} {s0 s : State} (h : Within K s0 s) (hk : 9444732965739290427392 ||| K = K) :
    Within K s0 (telStart s) := by
  unfold telStart
  exact (State.clearAll_within h (Within.sub hk (by simp)))

theorem telRunning_within {K : Nat} {s0 s : State} (h : Within K s0 s) (hk : 17179869184 ||| K = K) :
    Within K s0 (telRunning s) := by
  unfold telRunning
  exact (telResetNext_within h hk)

theorem telOutRead_within {K : Nat} {n : Nat} {s0 s : State} (h : Within K s0 s) (hk : 17179869184 ||| K = K) :
    Within K s0 (telOutRead n s) := by
  unfold telOutRead
  extract_lets -merge -useContext x1 x2 x3
  try clear_value x1
  try clear_value x3
  exact (State.setTel_within h hk)

theorem telWritten_within {K : Nat} {y0 : Nat} {new : Word} {s0 s : State} (h : Within K s0 s) (hk : 4920705879653823629230112 ||| K = K) :
    Within K s0 (telWritten y0 new s) := by
  unfold telWritten
  exact (Within.ite (Within.ite (telResetNext_within h (Within.sub hk (by simp)))
      h)
    (Within.ite (tapWritten_within
        (tapWritten_within h (Within.sub hk (by simp))) (Within.sub hk (by simp)))
      (Within.ite (tapRaised_within h (Within.sub hk (by simp)))
        h)))

end Sys2Proof.Machine
end

