-- ==== Sys2Proof/Laws/LiveFields.lean ====
section
/-! SUPPORT. Laws/LiveFields.lean: the parts of the state that each operation of Machine/LiveFields.lean can change. -/
namespace Sys2Proof.Machine

set_option Elab.async false

open Sys2Proof

theorem encoderRestart_within {K : Nat} {c : Carrier} {y1 : Nat} {old : Word} {new : Word} {s0 s : State} (h : Within K s0 s) (hk : 536870912 ||| K = K) :
    Within K s0 (encoderRestart c y1 old new s) := by
  unfold encoderRestart
  extract_lets -merge -useContext x1 x2
  try clear_value x1
  try clear_value x2
  exact (Within.ite (State.setQlt_within h hk)
    h)

theorem liveApplied_within {K : Nat} {p : Page} {y1 : Nat} {old : Word} {new : Word} {s0 s : State} (h : Within K s0 s) (hk : 120783785721251828886984130592 ||| K = K) :
    Within K s0 (liveApplied p y1 old new s) := by
  unfold liveApplied
  split
  · skip
    exact (hkWritten_within h (Within.sub hk (by simp)))
  · skip
    exact (auxWritten_within h (Within.sub hk (by simp)))
  · skip
    exact (lrxWritten_within h (Within.sub hk (by simp)))
  · skip
    exact (encoderRestart_within h (Within.sub hk (by simp)))
  · skip
    exact (cdcWritten_within h (Within.sub hk (by simp)))
  · skip
    exact (cprWritten_within h (Within.sub hk (by simp)))
  · skip
    exact (mlsWritten_within h (Within.sub hk (by simp)))
  · skip
    exact (clxWritten_within h (Within.sub hk (by simp)))
  · skip
    exact h

theorem applyLive_within {K : Nat} {s0 s : State} {x : LiveWrite} (h : Within K s0 s) (hk : 5070602400894477617450539221024 ||| K = K) :
    Within K s0 (applyLive s x) := by
  unfold applyLive
  extract_lets -merge -useContext x1
  try clear_value x1
  split
  · skip
    exact h
  · skip
    extract_lets -merge -useContext x2 x3
    try clear_value x2
    try clear_value x3
    exact (liveApplied_within
      (Within.setWord
        (unstage_within h (Within.sub hk (by simp))) _ _ _ (Within.all hk _)) (Within.sub hk (by simp)))

theorem applyStaged_within {K : Nat} {due : Page → Nat → Bool} {s0 s : State} (h : Within K s0 s) (hk : 5070602400894477617450539221024 ||| K = K) :
    Within K s0 (applyStaged due s) := by
  unfold applyStaged
  extract_lets -merge -useContext x1
  try clear_value x1
  exact (Within.foldl _ (fun _ _ h2 => (applyLive_within h2 hk))
    h)

theorem pageBoundary_within {K : Nat} {p : Page} {s0 s : State} (h : Within K s0 s) (hk : 5070602400894477617450539221024 ||| K = K) :
    Within K s0 (pageBoundary p s) := by
  unfold pageBoundary
  exact (Within.ite (applyStaged_within h hk)
    h)

theorem pagesBoundary_within {K : Nat} {ps : List Page} {s0 s : State} (h : Within K s0 s) (hk : 5070602400894477617450539221024 ||| K = K) :
    Within K s0 (pagesBoundary ps s) := by
  unfold pagesBoundary
  exact (Within.foldl _ (fun _ _ h1 => (pageBoundary_within h1 hk))
    h)

theorem registerBoundary_within {K : Nat} {p : Page} {due : Nat → Bool} {s0 s : State} (h : Within K s0 s) (hk : 5070602400894477617450539221024 ||| K = K) :
    Within K s0 (registerBoundary p due s) := by
  unfold registerBoundary
  exact (Within.ite (applyStaged_within h hk)
    h)

theorem auxBoundary_within {K : Nat} {n : Fin 16} {s0 s : State} (h : Within K s0 s) (hk : 5070602400894477617450539221024 ||| K = K) :
    Within K s0 (auxBoundary n s) := by
  unfold auxBoundary
  exact (registerBoundary_within h hk)

theorem telBoundary_within {K : Nat} {n : Fin 64} {s0 s : State} (h : Within K s0 s) (hk : 5070602400894477617450539221024 ||| K = K) :
    Within K s0 (telBoundary n s) := by
  unfold telBoundary
  exact (registerBoundary_within h hk)

theorem telTickBoundary_within {K : Nat} {s0 s : State} (h : Within K s0 s) (hk : 5070602400894477617450539221024 ||| K = K) :
    Within K s0 (telTickBoundary s) := by
  unfold telTickBoundary
  exact (registerBoundary_within h hk)

theorem frameBoundary_within {K : Nat} {c : Carrier} {s0 s : State} (h : Within K s0 s) (hk : 5070602400894477617450539221024 ||| K = K) :
    Within K s0 (frameBoundary c s) := by
  unfold frameBoundary
  exact (pagesBoundary_within h hk)

end Sys2Proof.Machine
end

