-- ==== Sys2Proof/Laws/PageRun.lean ====
section
/-! SUPPORT. Laws/PageRun.lean: the parts of the state that each operation of Machine/PageRun.lean can change. -/
namespace Sys2Proof.Machine

set_option Elab.async false

open Sys2Proof

theorem ownStart_within {K : Nat} {p : Page} {s0 s : State} (h : Within K s0 s) (hk : 4278318499589633994898324123808 ||| K = K) :
    Within K s0 (ownStart p s) := by
  unfold ownStart
  split
  · skip
    exact (txpStart_within h (Within.sub hk (by simp)))
  · skip
    exact (ltxStart_within h (Within.sub hk (by simp)))
  · skip
    exact (lrxStart_within h (Within.sub hk (by simp)))
  · skip
    exact (cdcStart_within h (Within.sub hk (by simp)))
  · skip
    exact (trcStart_within h (Within.sub hk (by simp)))
  · skip
    exact (eqzStart_within h (Within.sub hk (by simp)))
  · skip
    exact (cprStart_within h (Within.sub hk (by simp)))
  · skip
    exact (mlsStart_within h (Within.sub hk (by simp)))
  · skip
    exact (dmpStart_within h (Within.sub hk (by simp)))
  · skip
    exact (fecStart_within h (Within.sub hk (by simp)))
  · skip
    exact (stepFramerRestart_within
      (lfmStart_within h (Within.sub hk (by simp))) (Within.sub hk (by simp)))
  · skip
    exact (cryStart_within h (Within.sub hk (by simp)))
  · skip
    exact (cpcStart_within h (Within.sub hk (by simp)))
  · skip
    exact (clxStart_within h (Within.sub hk (by simp)))
  · skip
    exact (synStart_within h (Within.sub hk (by simp)))
  · skip
    exact (telStart_within h (Within.sub hk (by simp)))
  · skip
    exact (castStart_within h (Within.sub hk (by simp)))
  · skip
    exact (rpsStart_within h (Within.sub hk (by simp)))
  · skip
    exact (qltStart_within h (Within.sub hk (by simp)))
  · skip
    exact (fesStart_within h (Within.sub hk (by simp)))
  · skip
    exact (semForce_within
      (coreStart_within h (Within.sub hk (by simp))) (Within.sub hk (by simp)))
  · skip
    exact h

theorem enterStarting_within {K : Nat} {p : Page} {s0 s : State} (h : Within K s0 s) (hk : 5070602400894477621866853560480 ||| K = K) (hp : pageBit p ||| K = K) :
    Within K s0 (enterStarting p s) := by
  unfold enterStarting
  exact (ownStart_within
    (applyStaged_within
      (State.set_within (State.setRun_within h hp) hp) (Within.sub hk (by simp))) (Within.sub hk (by simp)))

theorem ownRunning_within {K : Nat} {p : Page} {band : Int × Int} {gain : Int × Int} {s0 s : State} (h : Within K s0 s) (hk : 156626068614778105175147344160 ||| K = K) :
    Within K s0 (ownRunning p band gain s) := by
  unfold ownRunning
  extract_lets -merge -useContext x1
  try clear_value x1
  split
  · skip
    exact (lockStart_within h (Within.sub hk (by simp)))
  · skip
    exact (lrxRunning_within h (Within.sub hk (by simp)))
  · skip
    exact (Within.ite (cprTrackEntered_within h (Within.sub hk (by simp)))
      h)
  · skip
    exact (fecRunning_within h (Within.sub hk (by simp)))
  · skip
    exact (ratchetFor_within h (Within.sub hk (by simp)))
  · skip
    exact (cryRunning_within h (Within.sub hk (by simp)))
  · skip
    exact (cpcRunning_within h (Within.sub hk (by simp)))
  · skip
    exact (clxFollow_within h (Within.sub hk (by simp)))
  · skip
    exact (synRunning_within h (Within.sub hk (by simp)))
  · skip
    exact (telRunning_within h (Within.sub hk (by simp)))
  · skip
    exact (rpsRunning_within h (Within.sub hk (by simp)))
  · skip
    exact (fesFollowBoth_within h (Within.sub hk (by simp)))
  · skip
    exact (Within.ite (startTimer_within
        (startTimer_within
          (State.setPlinth_within h (Within.sub hk (by simp))) (Within.sub hk (by simp))) (Within.sub hk (by simp)))
      h)
  · skip
    exact h

theorem enterRunning_within {K : Nat} {p : Page} {band : Int × Int} {gain : Int × Int} {s0 s : State} (h : Within K s0 s) (hk : 156626068614778105175147344160 ||| K = K) (hp : pageBit p ||| K = K) :
    Within K s0 (enterRunning p band gain s) := by
  unfold enterRunning
  exact (fesFollowBoth_within
    (ownRunning_within (State.setRun_within h hp) hk) (Within.sub hk (by simp)))

theorem pageStarted_within {K : Nat} {p : Page} {ok : Bool} {band : Int × Int} {gain : Int × Int} {s0 s : State} (h : Within K s0 s) (hk : 5070602400894476491603510096160 ||| K = K) (hp : pageBit p ||| K = K) :
    Within K s0 (pageStarted p ok band gain s) := by
  unfold pageStarted
  exact (Within.ite h
    (by
      split
      · skip
        exact (Within.ite (enterRunning_within h (Within.sub hk (by simp)) hp)
          (cryKatFail_within h (Within.sub hk (by simp))))
      · skip
        exact (Within.ite (ratchetFor_within
            (ratchetFor_within
              (pairStart_within h (Within.sub hk (by simp))) (Within.sub hk (by simp))) (Within.sub hk (by simp)))
          (enterRunning_within h (Within.sub hk (by simp)) hp))
      · skip
        exact (enterRunning_within h (Within.sub hk (by simp)) (Within.all hk _))))

theorem pageOverrun_within {K : Nat} {p : Page} {s0 s : State} (h : Within K s0 s) (hp : pageBit p ||| K = K) :
    Within K s0 (pageOverrun p s) := by
  unfold pageOverrun
  split
  · skip
    split
    · skip
      exact (State.errlog_within h hp)
    · skip
      exact (State.set_within h hp)
  · skip
    exact (State.set_within h hp)
  · skip
    exact h

theorem ownStop_within {K : Nat} {p : Page} {s0 s : State} (h : Within K s0 s) (hk : 3009352810113124545164803207472 ||| K = K) :
    Within K s0 (ownStop p s) := by
  unfold ownStop
  split
  · skip
    exact (txpStop_within h (Within.sub hk (by simp)))
  · skip
    exact (ltxStop_within h (Within.sub hk (by simp)))
  · skip
    exact (acqToIdle_within
      (lrxStop_within h (Within.sub hk (by simp))) (Within.sub hk (by simp)))
  · skip
    exact (acqToIdle_within h (Within.sub hk (by simp)))
  · skip
    exact (trcStop_within h (Within.sub hk (by simp)))
  · skip
    exact (eqzStop_within h (Within.sub hk (by simp)))
  · skip
    exact (cprTrackLeft_within h (Within.sub hk (by simp)))
  · skip
    exact (cprUnsynchronise_within h (Within.sub hk (by simp)))
  · skip
    exact (fecUnsynchronised_within h (Within.sub hk (by simp)))
  · skip
    exact (fecUnsynchronised_within h (Within.sub hk (by simp)))
  · skip
    exact (frameHunt_within h (Within.sub hk (by simp)))
  · skip
    exact (cryStop_within h (Within.sub hk (by simp)))
  · skip
    exact (cpcStop_within h (Within.sub hk (by simp)))
  · skip
    exact (clxFollow_within h (Within.sub hk (by simp)))
  · skip
    exact (synStop_within h (Within.sub hk (by simp)))
  · skip
    exact (rpsStop_within h (Within.sub hk (by simp)))
  · skip
    exact (qltStop_within h (Within.sub hk (by simp)))
  · skip
    exact (fesStop_within h (Within.sub hk (by simp)))
  · skip
    exact (coreHalt_within h (Within.sub hk (by simp)))
  · skip
    exact h

theorem enterStopping_within {K : Nat} {p : Page} {s0 s : State} (h : Within K s0 s) (hk : 3009352810113124545164803207472 ||| K = K) (hp : pageBit p ||| K = K) :
    Within K s0 (enterStopping p s) := by
  unfold enterStopping
  extract_lets -merge -useContext x1
  have h1 : Within K s0 x1 := by
    unfold x1
    exact (State.setRun_within h hp)
  clear_value x1
  exact (fesFollowBoth_within
    (State.setRun_within (ownStop_within h1 hk) hp) (Within.sub hk (by simp)))

theorem pageStopped_within {K : Nat} {p : Page} {s0 s : State} (h : Within K s0 s) (hp : pageBit p ||| K = K) :
    Within K s0 (pageStopped p s) := by
  unfold pageStopped
  exact (Within.ite (State.setRun_within h hp)
    h)

theorem hardwareRunctl_within {K : Nat} {p : Page} {cmd : Nat} {s0 s : State} (h : Within K s0 s) (hk : 302305241881051643510832 ||| K = K) (hp : pageBit p ||| K = K) :
    Within K s0 (hardwareRunctl p cmd s) := by
  unfold hardwareRunctl
  exact (journalAccepted_within (State.addWrap_within h hp) hk)

theorem hardwareStop_within {K : Nat} {p : Page} {s0 s : State} (h : Within K s0 s) (hk : 3009352810113124545164803207472 ||| K = K) (hp : pageBit p ||| K = K) :
    Within K s0 (hardwareStop p s) := by
  unfold hardwareStop
  exact (Within.ite h
    (Within.ite (countUnlogged_within h (Within.sub hk (by simp)))
      (pageStopped_within
        (enterStopping_within
          (hardwareRunctl_within h (Within.sub hk (by simp)) hp) hk hp) hp)))

theorem hardwareRun_within {K : Nat} {p : Page} {s0 s : State} (h : Within K s0 s) (hk : 5070602400894477622966365188272 ||| K = K) (hp : pageBit p ||| K = K) :
    Within K s0 (hardwareRun p s) := by
  unfold hardwareRun
  exact (Within.ite h
    (Within.ite (countUnlogged_within h (Within.sub hk (by simp)))
      (enterStarting_within
        (hardwareRunctl_within h (Within.sub hk (by simp)) hp) (Within.sub hk (by simp)) hp)))

end Sys2Proof.Machine
end

