-- ==== Sys2Proof/Laws/Archive.lean ====
section
/-! SUPPORT. Laws/Archive.lean: the parts of the state that each operation of Machine/Archive.lean can change. -/
namespace Sys2Proof.Machine

set_option Elab.async false

open Sys2Proof

theorem State.setArchive_within {K : Nat} {s0 s : State} {x : Archive} (h : Within K s0 s) (hk : 4294967296 ||| K = K) :
    Within K s0 (State.setArchive s x) := by
  unfold State.setArchive
  exact (Within.upd_archive h hk _)

theorem setMedia_within {K : Nat} {m : Nat} {s0 s : State} (h : Within K s0 s) (hk : 151115727451828646838304 ||| K = K) :
    Within K s0 (setMedia m s) := by
  unfold setMedia
  exact (Within.ite h
    (State.raise_within
      (State.set_within h (Within.sub hk (by simp))) (Within.sub hk (by simp)) (Within.sub hk (by simp))))

theorem mediaFollow_within {K : Nat} {s0 s : State} (h : Within K s0 s) (hk : 151115727451828646838304 ||| K = K) :
    Within K s0 (mediaFollow s) := by
  unfold mediaFollow
  exact (Within.ite (setMedia_within h hk)
    h)

theorem lifeProject_within {K : Nat} {s0 s : State} (h : Within K s0 s) (hk : 151115727451832941805600 ||| K = K) :
    Within K s0 (lifeProject s) := by
  unfold lifeProject
  extract_lets -merge -useContext x1 x2 x3 x4 x5 x6 x7
  try clear_value x1
  have h2 : Within K s0 x2 := by
    unfold x2
    exact (State.setArchive_within h (Within.sub hk (by simp)))
  clear_value x2
  try clear_value x3
  try clear_value x4
  have h5 : Within K s0 x5 := by
    unfold x5
    exact (State.set_within h2 (Within.sub hk (by simp)))
  clear_value x5
  try clear_value x6
  try clear_value x7
  exact (Within.ite (Within.ite (State.raise_within
        (State.setArchive_within h5 (Within.sub hk (by simp))) (Within.sub hk (by simp)) (Within.sub hk (by simp)))
      h5)
    (Within.ite (State.setArchive_within h5 (Within.sub hk (by simp)))
      h5))

theorem arcShow_within {K : Nat} {s0 s : State} (h : Within K s0 s) (hk : 151115727451832941805600 ||| K = K) :
    Within K s0 (arcShow s) := by
  unfold arcShow
  extract_lets -merge -useContext x1 x2 x3 x4 x5
  try clear_value x1
  have h2 : Within K s0 x2 := by
    unfold x2
    exact (State.set_within h (Within.sub hk (by simp)))
  clear_value x2
  have h3 : Within K s0 x3 := by
    unfold x3
    exact (State.set_within h2 (Within.sub hk (by simp)))
  clear_value x3
  have h4 : Within K s0 x4 := by
    unfold x4
    exact (State.set_within h3 (Within.sub hk (by simp)))
  clear_value x4
  have h5 : Within K s0 x5 := by
    unfold x5
    exact (State.set_within h4 (Within.sub hk (by simp)))
  clear_value x5
  exact (mediaFollow_within (lifeProject_within h5 hk) (Within.sub hk (by simp)))

theorem takeBlock_within {K : Nat} {b : Nat} {region : Nat} {s0 s : State} (h : Within K s0 s) (hk : 6442450944 ||| K = K) :
    Within K s0 (takeBlock b region s) := by
  unfold takeBlock
  extract_lets -merge -useContext x1 x2 x3
  try clear_value x1
  have h2 : Within K s0 x2 := by
    unfold x2
    exact (putWear_within h (Within.sub hk (by simp)))
  clear_value x2
  try clear_value x3
  exact (State.setArchive_within h2 (Within.sub hk (by simp)))

theorem freeBlock_within {K : Nat} {b : Nat} {s0 s : State} (h : Within K s0 s) (hk : 6442450944 ||| K = K) :
    Within K s0 (freeBlock b s) := by
  unfold freeBlock
  extract_lets -merge -useContext x1 x2 x3
  try clear_value x1
  have h2 : Within K s0 x2 := by
    unfold x2
    exact (putWear_within h (Within.sub hk (by simp)))
  clear_value x2
  try clear_value x3
  exact (State.setArchive_within h2 (Within.sub hk (by simp)))

theorem moveBlock_within {K : Nat} {b : Nat} {f : Nat} {s0 s : State} (h : Within K s0 s) (hk : 151115727451835089289248 ||| K = K) :
    Within K s0 (moveBlock b f s) := by
  unfold moveBlock
  exact (arcShow_within
    (freeBlock_within
      (takeBlock_within h (Within.sub hk (by simp))) (Within.sub hk (by simp))) (Within.sub hk (by simp)))

theorem relocate_within {K : Nat} {b : Nat} {s0 s : State} (h : Within K s0 s) (hk : 151115727451835089289248 ||| K = K) :
    Within K s0 (relocate b s) := by
  unfold relocate
  split
  · skip
    exact (moveBlock_within h hk)
  · skip
    exact (arcShow_within
      (takeBlock_within h (Within.sub hk (by simp))) (Within.sub hk (by simp)))

theorem grownBad_within {K : Nat} {b : Nat} {retired : Bool} {s0 s : State} (h : Within K s0 s) (hk : 151115727451835089289248 ||| K = K) :
    Within K s0 (grownBad b retired s) := by
  unfold grownBad
  extract_lets -merge -useContext x1 x2 x3 x4 x5
  try clear_value x1
  have h2 : Within K s0 x2 := by
    unfold x2
    exact (putWear_within h (Within.sub hk (by simp)))
  clear_value x2
  have h3 : Within K s0 x3 := by
    unfold x3
    split
    · skip
      exact (takeBlock_within h2 (Within.sub hk (by simp)))
    · skip
      exact h2
  clear_value x3
  have h4 : Within K s0 x4 := by
    unfold x4
    exact (State.raise_within
      (State.bump_within h3 (Within.sub hk (by simp))) (Within.sub hk (by simp)) (Within.sub hk (by simp)))
  clear_value x4
  have h5 : Within K s0 x5 := by
    unfold x5
    exact (Within.ite (State.set_within h4 (Within.sub hk (by simp)))
      h4)
  clear_value x5
  exact (Within.ite (arcShow_within h5 (Within.sub hk (by simp)))
    h)

theorem wearLevelMove_within {K : Nat} {region : Nat} {onto : Nat} {s0 s : State} (h : Within K s0 s) (hk : 151115727451835089289248 ||| K = K) :
    Within K s0 (wearLevelMove region onto s) := by
  unfold wearLevelMove
  extract_lets -merge -useContext x1
  try clear_value x1
  split
  · skip
    exact (Within.ite (moveBlock_within h hk)
      h)
  · skip
    exact h

theorem flashRefresh_within {K : Nat} {b : Nat} {corrections : Nat} {s0 s : State} (h : Within K s0 s) (hk : 151115727451835089289248 ||| K = K) :
    Within K s0 (flashRefresh b corrections s) := by
  unfold flashRefresh
  extract_lets -merge -useContext x1 x2
  try clear_value x1
  try clear_value x2
  exact (Within.ite (relocate_within
      (State.bump_within h (Within.sub hk (by simp))) hk)
    h)

theorem readDisturb_within {K : Nat} {b : Nat} {s0 s : State} (h : Within K s0 s) (hk : 151115727451835089289248 ||| K = K) :
    Within K s0 (readDisturb b s) := by
  unfold readDisturb
  extract_lets -merge -useContext x1 x2
  try clear_value x1
  have h2 : Within K s0 x2 := by
    unfold x2
    exact (State.setArchive_within h (Within.sub hk (by simp)))
  clear_value x2
  exact (Within.ite (relocate_within
      (State.bump_within h2 (Within.sub hk (by simp))) hk)
    h)

theorem flashTimeout_within {K : Nat} {y0 : Fin 32} {retried : Bool} {s0 s : State} (h : Within K s0 s) (hk : 151115727451832941805600 ||| K = K) :
    Within K s0 (flashTimeout y0 retried s) := by
  unfold flashTimeout
  extract_lets -merge -useContext x1 x2 x3 x4 x5
  try clear_value x1
  have h2 : Within K s0 x2 := by
    unfold x2
    exact (State.raise_within
      (State.bump_within h (Within.sub hk (by simp))) (Within.sub hk (by simp)) (Within.sub hk (by simp)))
  clear_value x2
  try clear_value x3
  have h4 : Within K s0 x4 := by
    unfold x4
    exact (State.setArchive_within h2 (Within.sub hk (by simp)))
  clear_value x4
  have h5 : Within K s0 x5 := by
    unfold x5
    exact (State.set_within h4 (Within.sub hk (by simp)))
  clear_value x5
  exact (Within.ite h
    (Within.ite h4
      (mediaFollow_within
        (State.raise_within
          (State.bump_within h5 (Within.sub hk (by simp))) (Within.sub hk (by simp)) (Within.sub hk (by simp))) (Within.sub hk (by simp)))))

theorem flashRead_within {K : Nat} {y0 : Fin 32} {b : Nat} {levels : Fin 9} {ok : Bool} {s0 s : State} (h : Within K s0 s) (hk : 151115727451835089289248 ||| K = K) :
    Within K s0 (flashRead y0 b levels ok s) := by
  unfold flashRead
  extract_lets -merge -useContext x1 x2 x3
  try clear_value x1
  have h2 : Within K s0 x2 := by
    unfold x2
    exact (State.setArchive_within h (Within.sub hk (by simp)))
  clear_value x2
  have h3 : Within K s0 x3 := by
    unfold x3
    exact (State.addSat_within h2 (Within.sub hk (by simp)))
  clear_value x3
  exact (Within.ite h
    (Within.ite (State.addSat_within h2 (Within.sub hk (by simp)))
      (grownBad_within
        (State.raise_within
          (State.bump_within h3 (Within.sub hk (by simp))) (Within.sub hk (by simp)) (Within.sub hk (by simp))) hk)))

theorem layRegions_within {K : Nat} {s0 : State} {r : Nat} {l bs : List Nat} {s : State}
    (h : Within K s0 s) (hk : 2147483648 ||| K = K) : Within K s0 (layRegions r l bs s) := by
  induction l generalizing s r bs with
  | nil => exact h
  | cons n l ih => exact ih (Within.foldl _ (fun _ _ h1 => putWear_within h1 hk) h)

theorem formatStart_within {K : Nat} {s0 s : State} (h : Within K s0 s) (hk : 151115727451828646838272 ||| K = K) :
    Within K s0 (formatStart s) := by
  unfold formatStart
  exact (Within.ite h
    (State.set_within h (Within.sub hk (by simp))))

theorem formatDone_within {K : Nat} {s0 s : State} (h : Within K s0 s) (hk : 1360041547066516877344816 ||| K = K) :
    Within K s0 (formatDone s) := by
  unfold formatDone
  extract_lets -merge -useContext x1 x2 x3 x4 x5 x6 x7 x8 x9 x10 x11 x12 x13 x14
  have h1 : Within K s0 x1 := by
    unfold x1
    exact (Within.foldl _ (fun _ _ h15 => (by
        extract_lets -merge -useContext x16
        try clear_value x16
        exact (putWear_within h15 (Within.sub hk (by simp)))))
      h)
  clear_value x1
  try clear_value x2
  have h3 : Within K s0 x3 := by
    unfold x3
    exact (layRegions_within h1 (Within.sub hk (by simp)))
  clear_value x3
  try clear_value x4
  have h5 : Within K s0 x5 := by
    unfold x5
    exact (State.setArchive_within h3 (Within.sub hk (by simp)))
  clear_value x5
  try clear_value x6
  try clear_value x7
  try clear_value x8
  try clear_value x9
  try clear_value x10
  have h11 : Within K s0 x11 := by
    unfold x11
    exact (Within.upd_journal_plinth_keep_tel_cast h5 (Within.sub hk (by simp)) (Within.sub hk (by simp)) (Within.sub hk (by simp)) (Within.sub hk (by simp)) (Within.sub hk (by simp)) _ _ _ _ _)
  clear_value x11
  have h12 : Within K s0 x12 := by
    unfold x12
    exact (keepCommit_within h11 (Within.sub hk (by simp)))
  clear_value x12
  have h13 : Within K s0 x13 := by
    unfold x13
    exact (State.set_within
      (State.set_within h12 (Within.sub hk (by simp))) (Within.sub hk (by simp)))
  clear_value x13
  have h14 : Within K s0 x14 := by
    unfold x14
    exact (setMedia_within h13 (Within.sub hk (by simp)))
  clear_value x14
  exact (Within.ite h
    (State.raise_within
      (arcShow_within h14 (Within.sub hk (by simp))) (Within.sub hk (by simp)) (Within.sub hk (by simp))))

theorem ringEvaluate_within {K : Nat} {waf : Option Nat} {s0 s : State} (h : Within K s0 s) (hk : 151115727451832941805600 ||| K = K) :
    Within K s0 (ringEvaluate waf s) := by
  unfold ringEvaluate
  extract_lets -merge -useContext x1 x2
  have h1 : Within K s0 x1 := by
    unfold x1
    split
    · skip
      exact (State.set_within h (Within.sub hk (by simp)))
    · skip
      exact h
  clear_value x1
  have h2 : Within K s0 x2 := by
    unfold x2
    exact (lifeProject_within
      (State.set_within h1 (Within.sub hk (by simp))) hk)
  clear_value x2
  exact (Within.ite (State.raise_within h2 (Within.sub hk (by simp)) (Within.sub hk (by simp)))
    h2)

theorem calCommit_within {K : Nat} {s0 s : State} (h : Within K s0 s) (hk : 1209516115424991101845536 ||| K = K) :
    Within K s0 (calCommit s) := by
  unfold calCommit
  extract_lets -merge -useContext x1 x2 x3 x4 x5 x6 x7
  try clear_value x1
  try clear_value x2
  have h3 : Within K s0 x3 := by
    unfold x3
    exact (Within.upd_cal h (Within.sub hk (by simp)) _)
  clear_value x3
  have h4 : Within K s0 x4 := by
    unfold x4
    exact (keepCommit_within h3 (Within.sub hk (by simp)))
  clear_value x4
  try clear_value x5
  have h6 : Within K s0 x6 := by
    unfold x6
    exact (Within.upd_plinth h4 (Within.sub hk (by simp)) _)
  clear_value x6
  have h7 : Within K s0 x7 := by
    unfold x7
    exact (State.raise_within
      (State.bump_within h6 (Within.sub hk (by simp))) (Within.sub hk (by simp)) (Within.sub hk (by simp)))
  clear_value x7
  exact (State.set_within h7 (Within.sub hk (by simp)))

theorem calStore_within {K : Nat} {s0 s : State} (h : Within K s0 s) (hk : 1209516115424991101845536 ||| K = K) :
    Within K s0 (calStore s) := by
  unfold calStore
  extract_lets -merge -useContext x1
  try clear_value x1
  exact (Within.ite (Within.upd_cal h (Within.sub hk (by simp)) _)
    (calCommit_within h hk))

theorem mramCommit_within {K : Nat} {a : Fin 6} {done : Fin 4} {s0 s : State} (h : Within K s0 s) (hk : 1208925819614631322189824 ||| K = K) :
    Within K s0 (mramCommit a done s) := by
  unfold mramCommit
  extract_lets -merge -useContext x1 x2 x3 x4
  try clear_value x1
  try clear_value x2
  try clear_value x3
  try clear_value x4
  exact (Within.ite (keepCommit_within h hk)
    (Within.ite h
      (keepShow_within
        (Within.upd_keep h (Within.sub hk (by simp)) _) (Within.sub hk (by simp)))))

theorem arcWritten_within {K : Nat} {y0 : Nat} {new : Word} {s0 s : State} (h : Within K s0 s) (hk : 151115727451828646838272 ||| K = K) :
    Within K s0 (arcWritten y0 new s) := by
  unfold arcWritten
  exact (Within.ite (formatStart_within
      (State.set_within h (Within.sub hk (by simp))) hk)
    h)

end Sys2Proof.Machine
end

