-- ==== Sys2Proof/Laws/QuoletWake.lean ====
section
/-! SUPPORT. Laws/QuoletWake.lean: the parts of the state that each operation of Machine/QuoletWake.lean can change. -/
namespace Sys2Proof.Machine

set_option Elab.async false

open Sys2Proof

theorem setWake_within {K : Nat} {x : Carrier} {w : Option WakeSend} {s0 s : State} (h : Within K s0 s) (hk : 536870912 ||| K = K) :
    Within K s0 (setWake x w s) := by
  unfold setWake
  extract_lets -merge -useContext x1
  try clear_value x1
  exact (State.setQlt_within h hk)

theorem wakeSend_within {K : Nat} {s0 s : State} (h : Within K s0 s) (hk : 536870912 ||| K = K) :
    Within K s0 (wakeSend s) := by
  unfold wakeSend
  exact (Within.foldl _ (fun _ _ h1 => (Within.ite (setWake_within h1 hk)
      h1))
    h)

theorem exitCall_within {K : Nat} {cause : Nat} {s0 s : State} (h : Within K s0 s) (hk : 536870912 ||| K = K) :
    Within K s0 (exitCall cause s) := by
  unfold exitCall
  exact (Within.ite h
    (Within.foldl _ (fun _ _ h1 => (setWake_within h1 hk))
      h))

theorem endKeying_within {K : Nat} {s0 s : State} {x : Carrier} (h : Within K s0 s) (hk : 805306368 ||| K = K) :
    Within K s0 (endKeying s x) := by
  unfold endKeying
  extract_lets -merge -useContext x1 x2
  try clear_value x1
  try clear_value x2
  exact (setOptics_within
    (setWake_within h (Within.sub hk (by simp))) (Within.sub hk (by simp)))

theorem wakeBurst_within {K : Nat} {x : Carrier} {s0 s : State} (h : Within K s0 s) (hk : 2417851643732858782089216 ||| K = K) :
    Within K s0 (wakeBurst x s) := by
  unfold wakeBurst
  extract_lets -merge -useContext x1 x2
  have h1 : Within K s0 x1 := by
    unfold x1
    exact (startTimer_within h (Within.sub hk (by simp)))
  clear_value x1
  try clear_value x2
  split
  · skip
    exact h
  · skip
    extract_lets -merge -useContext x3
    have h3 : Within K s0 x3 := by
      unfold x3
      exact (State.bump_within
        (setOptics_within h1 (Within.sub hk (by simp))) (Within.sub hk (by simp)))
    clear_value x3
    exact (Within.ite (setWake_within h (Within.sub hk (by simp)))
      (Within.ite h
        (setWake_within h3 (Within.sub hk (by simp)))))

theorem answerSend_within {K : Nat} {x : Carrier} {s0 s : State} (h : Within K s0 s) (hk : 536870912 ||| K = K) :
    Within K s0 (answerSend x s) := by
  unfold answerSend
  extract_lets -merge -useContext x1
  try clear_value x1
  exact (Within.ite (setWake_within (State.setQlt_within h hk) hk)
    h)

theorem wakeWordRx_within {K : Nat} {x : Carrier} {w : BitVec 64} {s0 s : State} (h : Within K s0 s) (hk : 2417851639229259154718720 ||| K = K) :
    Within K s0 (wakeWordRx x w s).1 := by
  unfold wakeWordRx
  extract_lets -merge -useContext x1 x2 x3 x4 x5 x6 x7 x8
  try clear_value x1
  try clear_value x2
  try clear_value x3
  try clear_value x4
  have h5 : Within K s0 x5 := by
    unfold x5
    exact (State.setQlt_within h (Within.sub hk (by simp)))
  clear_value x5
  have h6 : Within K s0 x6 := by
    unfold x6
    exact (State.set_within
      (State.bump_within h5 (Within.sub hk (by simp))) (Within.sub hk (by simp)))
  clear_value x6
  have h7 : Within K s0 x7 := by
    unfold x7
    exact (State.set_within h6 (Within.sub hk (by simp)))
  clear_value x7
  try clear_value x8
  split
  · skip
    exact (Within.fst h)
  · skip
    split
    · skip
      exact (Within.fst (State.bump_within h (Within.sub hk (by simp))))
    · skip
      split
      · skip
        exact (Within.fst h)
      · skip
        split
        · skip
          split
          · skip
            exact (Within.fst (State.setQlt_within h7 (Within.sub hk (by simp))))
          · skip
            exact (Within.fst (endKeying_within
              (endKeying_within h7 (Within.sub hk (by simp))) (Within.sub hk (by simp))))
        · skip
          exact (Within.fst h5)

theorem qltWritten_within {K : Nat} {y0 : Nat} {old : Word} {new : Word} {s0 s : State} (h : Within K s0 s) (hk : 2417851639229258886283264 ||| K = K) :
    Within K s0 (qltWritten y0 old new s) := by
  unfold qltWritten
  exact (Within.ite (Within.ite h
      (targetChanged_within h hk))
    (Within.ite (wakeSend_within h (Within.sub hk (by simp)))
      (Within.ite (showSessions_within h (Within.sub hk (by simp)))
        h)))

end Sys2Proof.Machine
end

