-- ==== Sys2Proof/Laws/Power.lean ====
section
/-! SUPPORT. Laws/Power.lean: the parts of the state that each operation of Machine/Power.lean can change. -/
namespace Sys2Proof.Machine

set_option Elab.async false

open Sys2Proof

theorem vddMove_within {K : Nat} {s0 s : State} (h : Within K s0 s) (hk : 147578526626767437824 ||| K = K) :
    Within K s0 (vddMove s) := by
  unfold vddMove
  split
  · skip
    exact h
  · skip
    extract_lets -merge -useContext x1 x2 x3 x4
    have h1 : Within K s0 x1 := by
      unfold x1
      exact (State.set_within h (Within.sub hk (by simp)))
    clear_value x1
    try clear_value x2
    try clear_value x3
    have h4 : Within K s0 x4 := by
      unfold x4
      exact (startTimer_within
        (State.setPwr_within h1 (Within.sub hk (by simp))) (Within.sub hk (by simp)))
    clear_value x4
    exact (Within.ite h1
      (Within.upd_vddRequested h4 (Within.sub hk (by simp)) _))

theorem avsAck_within {K : Nat} {s0 s : State} (h : Within K s0 s) (hk : 147578526626767437824 ||| K = K) :
    Within K s0 (avsAck s) := by
  unfold avsAck
  extract_lets -merge -useContext x1 x2 x3 x4 x5 x6 x7
  have h1 : Within K s0 x1 := by
    unfold x1
    exact (startTimer_within h (Within.sub hk (by simp)))
  clear_value x1
  try clear_value x2
  try clear_value x3
  have h4 : Within K s0 x4 := by
    unfold x4
    exact (State.set_within h1 (Within.sub hk (by simp)))
  clear_value x4
  have h5 : Within K s0 x5 := by
    unfold x5
    exact (Within.ite (State.set_within h4 (Within.sub hk (by simp)))
      h4)
  clear_value x5
  have h6 : Within K s0 x6 := by
    unfold x6
    exact (Within.ite (State.bump_within h5 (Within.sub hk (by simp)))
      h5)
  clear_value x6
  try clear_value x7
  exact (Within.ite h
    (vddMove_within
      (State.setPwr_within h6 (Within.sub hk (by simp))) hk))

theorem avsRetry_within {K : Nat} {s0 s : State} (h : Within K s0 s) (hk : 147578526626767437856 ||| K = K) :
    Within K s0 (avsRetry s) := by
  unfold avsRetry
  extract_lets -merge -useContext x1 x2 x3 x4 x5
  try clear_value x1
  have h2 : Within K s0 x2 := by
    unfold x2
    exact (startTimer_within h (Within.sub hk (by simp)))
  clear_value x2
  try clear_value x3
  have h4 : Within K s0 x4 := by
    unfold x4
    exact (State.setPwr_within h2 (Within.sub hk (by simp)))
  clear_value x4
  have h5 : Within K s0 x5 := by
    unfold x5
    exact (Within.upd_vddRequested h4 (Within.sub hk (by simp)) _)
  clear_value x5
  exact (Within.ite h
    (Within.ite (State.bump_within
        (startTimer_within
          (State.setPwr_within h (Within.sub hk (by simp))) (Within.sub hk (by simp))) (Within.sub hk (by simp)))
      (State.raise_within
        (State.bump_within
          (State.set_within h5 (Within.sub hk (by simp))) (Within.sub hk (by simp))) (Within.sub hk (by simp)) (Within.sub hk (by simp)))))

theorem regFaultPoll_within {K : Nat} {within : Bool} {s0 s : State} (h : Within K s0 s) (hk : 147578526626767437824 ||| K = K) :
    Within K s0 (regFaultPoll within s) := by
  unfold regFaultPoll
  exact (Within.ite h
    (Within.ite (vddMove_within
        (State.set_within h (Within.sub hk (by simp))) hk)
      (startTimer_within h (Within.sub hk (by simp)))))

theorem governorFollow_within {K : Nat} {s0 s : State} (h : Within K s0 s) (hk : 1267650600228229401496703205376 ||| K = K) :
    Within K s0 (governorFollow s) := by
  unfold governorFollow
  extract_lets -merge -useContext x1
  have h1 : Within K s0 x1 := by
    unfold x1
    exact (Within.foldl _ (fun _ _ h2 => (by
        extract_lets -merge -useContext x3 x4
        have h3 : Within K s0 x3 := by
          unfold x3
          exact (State.set_within h2 (Within.sub hk (by simp)))
        clear_value x3
        have h4 : Within K s0 x4 := by
          unfold x4
          exact (State.set_within h3 (Within.sub hk (by simp)))
        clear_value x4
        exact (State.set_within h4 (Within.sub hk (by simp)))))
      h)
  clear_value x1
  exact (State.set_within h1 (Within.sub hk (by simp)))

theorem governorEval_within {K : Nat} {s0 s : State} (h : Within K s0 s) (hk : 1901475900489922628871822245888 ||| K = K) :
    Within K s0 (governorEval s) := by
  unfold governorEval
  extract_lets -merge -useContext x1 x2 x3 x4 x5 x6 x7 x8 x9 x10 x11 x12 x13 x14 x15 x16 x17
  have h1 : Within K s0 x1 := by
    unfold x1
    exact (startTimer_within h (Within.sub hk (by simp)))
  clear_value x1
  try clear_value x2
  try clear_value x3
  have h4 : Within K s0 x4 := by
    unfold x4
    exact (tallyClear_within h1 (Within.sub hk (by simp)))
  clear_value x4
  try clear_value x5
  try clear_value x6
  try clear_value x7
  try clear_value x8
  try clear_value x9
  try clear_value x10
  try clear_value x11
  try clear_value x12
  try clear_value x13
  try clear_value x14
  have h15 : Within K s0 x15 := by
    unfold x15
    exact (State.setPwr_within h4 (Within.sub hk (by simp)))
  clear_value x15
  have h16 : Within K s0 x16 := by
    unfold x16
    exact (Within.ite (State.bump_within h15 (Within.sub hk (by simp)))
      h15)
  clear_value x16
  have h17 : Within K s0 x17 := by
    unfold x17
    exact (Within.ite (State.bump_within h16 (Within.sub hk (by simp)))
      h16)
  clear_value x17
  exact (Within.ite h
    (vddMove_within
      (State.set_within h17 (Within.sub hk (by simp))) (Within.sub hk (by simp))))

theorem logRefusal_within {K : Nat} {s0 s : State} {w : Nat} (h : Within K s0 s) (hk : 147573952589676412928 ||| K = K) :
    Within K s0 (logRefusal s w) := by
  unfold logRefusal
  extract_lets -merge -useContext x1 x2
  try clear_value x1
  try clear_value x2
  exact (State.set_within
    (State.set_within h (Within.sub hk (by simp))) (Within.sub hk (by simp)))

theorem holdTransition_within {K : Nat} {s0 s : State} (h : Within K s0 s) (hk : 128 ||| K = K) :
    Within K s0 (holdTransition s) := by
  unfold holdTransition
  extract_lets -merge -useContext x1
  try clear_value x1
  split
  · skip
    exact (setSemaphore_within h hk)
  · skip
    exact h

theorem freeTransition_within {K : Nat} {s0 s : State} (h : Within K s0 s) (hk : 128 ||| K = K) :
    Within K s0 (freeTransition s) := by
  unfold freeTransition
  extract_lets -merge -useContext x1
  try clear_value x1
  exact (Within.ite (setSemaphore_within h hk)
    h)

theorem beginTransition_within {K : Nat} {y0 : Nat} {s0 s : State} (h : Within K s0 s) (hk : 147574022958420590720 ||| K = K) :
    Within K s0 (beginTransition y0 s) := by
  unfold beginTransition
  extract_lets -merge -useContext x1 x2
  try clear_value x1
  have h2 : Within K s0 x2 := by
    unfold x2
    exact (holdTransition_within
      (State.setPwr_within h (Within.sub hk (by simp))) (Within.sub hk (by simp)))
  clear_value x2
  exact (State.set_within
    (State.set_within h2 (Within.sub hk (by simp))) (Within.sub hk (by simp)))

theorem holdRequest_within {K : Nat} {y0 : Nat} {s0 s : State} (h : Within K s0 s) (hk : 147573952589676412928 ||| K = K) :
    Within K s0 (holdRequest y0 s) := by
  unfold holdRequest
  exact (State.set_within
    (State.set_within h (Within.sub hk (by simp))) (Within.sub hk (by simp)))

theorem beginExit_within {K : Nat} {cause : Nat} {s0 s : State} (h : Within K s0 s) (hk : 147578526626767437952 ||| K = K) :
    Within K s0 (beginExit cause s) := by
  unfold beginExit
  extract_lets -merge -useContext x1 x2
  try clear_value x1
  have h2 : Within K s0 x2 := by
    unfold x2
    exact (State.set_within
      (beginTransition_within h (Within.sub hk (by simp))) (Within.sub hk (by simp)))
  clear_value x2
  exact (Within.ite (vddMove_within
      (State.set_within h2 (Within.sub hk (by simp))) (Within.sub hk (by simp)))
    h2)

theorem beginEntry_within {K : Nat} {y0 : Nat} {s0 s : State} (h : Within K s0 s) (hk : 147574022958420590752 ||| K = K) :
    Within K s0 (beginEntry y0 s) := by
  unfold beginEntry
  split
  · skip
    exact (beginTransition_within h (Within.sub hk (by simp)))
  · skip
    exact (State.raise_within
      (State.bump_within
        (Within.foldl _ (fun _ _ h1 => (logRefusal_within h1 (Within.sub hk (by simp))))
          h) (Within.sub hk (by simp))) (Within.sub hk (by simp)) (Within.sub hk (by simp)))

theorem takeRequest_within {K : Nat} {y0 : Nat} {cause : Nat} {s0 s : State} (h : Within K s0 s) (hk : 147578526626767437984 ||| K = K) :
    Within K s0 (takeRequest y0 cause s) := by
  unfold takeRequest
  extract_lets -merge -useContext x1
  try clear_value x1
  exact (Within.ite h
    (Within.ite (Within.ite (State.setPwr_within h (Within.sub hk (by simp)))
        h)
      (Within.ite (beginEntry_within h (Within.sub hk (by simp)))
        (Within.ite (beginExit_within h (Within.sub hk (by simp)))
          (beginExit_within
            (holdRequest_within h (Within.sub hk (by simp))) (Within.sub hk (by simp)))))))

theorem pendRequest_within {K : Nat} {y0 : Nat} {s0 s : State} (h : Within K s0 s) (hk : 147573952589676412960 ||| K = K) :
    Within K s0 (pendRequest y0 s) := by
  unfold pendRequest
  exact (Within.ite (holdRequest_within h (Within.sub hk (by simp)))
    (Within.ite (State.bump_within h (Within.sub hk (by simp)))
      (State.raise_within
        (State.bump_within
          (holdRequest_within h (Within.sub hk (by simp))) (Within.sub hk (by simp))) (Within.sub hk (by simp)) (Within.sub hk (by simp)))))

theorem powerRequest_within {K : Nat} {y0 : Nat} {cause : Nat} {s0 s : State} (h : Within K s0 s) (hk : 147578526626767437984 ||| K = K) :
    Within K s0 (powerRequest y0 cause s) := by
  unfold powerRequest
  extract_lets -merge -useContext x1 x2
  try clear_value x1
  have h2 : Within K s0 x2 := by
    unfold x2
    exact (Within.ite (State.setPwr_within h (Within.sub hk (by simp)))
      h)
  clear_value x2
  exact (Within.ite (Within.ite (State.bump_within h2 (Within.sub hk (by simp)))
      (pendRequest_within h2 (Within.sub hk (by simp))))
    (Within.ite (pendRequest_within h2 (Within.sub hk (by simp)))
      (takeRequest_within h2 hk)))

theorem takePending_within {K : Nat} {s0 s : State} (h : Within K s0 s) (hk : 147578526626767437984 ||| K = K) :
    Within K s0 (takePending s) := by
  unfold takePending
  extract_lets -merge -useContext x1
  try clear_value x1
  exact (Within.ite (takeRequest_within
      (State.clearAll_within h (Within.sub hk (by simp))) hk)
    h)

theorem stopLine_within {K : Nat} {s0 s : State} (h : Within K s0 s) (hk : 5070602400894477622992436883760 ||| K = K) :
    Within K s0 (stopLine s) := by
  unfold stopLine
  extract_lets -merge -useContext x1 x2
  try clear_value x1
  have h2 : Within K s0 x2 := by
    unfold x2
    exact (State.set_within
      (State.set_within h (Within.sub hk (by simp))) (Within.sub hk (by simp)))
  clear_value x2
  exact (Within.foldl _ (fun _ _ h3 => (hardwareStop_within h3 (Within.sub hk (by simp)) (Within.all hk _)))
    h2)

theorem endKeys_within {K : Nat} {s0 s : State} (h : Within K s0 s) (hk : 2555110658936664116651752464416 ||| K = K) :
    Within K s0 (endKeys s) := by
  unfold endKeys
  extract_lets -merge -useContext x1 x2 x3 x4
  try clear_value x1
  have h2 : Within K s0 x2 := by
    unfold x2
    exact (eraseAllSlots_within
      (eraseAllSlots_within h (Within.sub hk (by simp))) (Within.sub hk (by simp)))
  clear_value x2
  have h3 : Within K s0 x3 := by
    unfold x3
    exact (sessionDown_within
      (sessionDown_within h2 (Within.sub hk (by simp))) (Within.sub hk (by simp)))
  clear_value x3
  try clear_value x4
  exact (State.setQlt_within h3 (Within.sub hk (by simp)))

theorem stopCores_within {K : Nat} {s0 s : State} (h : Within K s0 s) (hk : 316912961733245294537550594048 ||| K = K) :
    Within K s0 (stopCores s) := by
  unfold stopCores
  extract_lets -merge -useContext x1 x2 x3 x4 x5
  try clear_value x1
  try clear_value x2
  have h3 : Within K s0 x3 := by
    unfold x3
    exact (State.setPwr_within h (Within.sub hk (by simp)))
  clear_value x3
  have h4 : Within K s0 x4 := by
    unfold x4
    exact (Within.foldl _ (fun _ _ h6 => (Within.ite (coreHalt_within h6 (Within.sub hk (by simp)))
        h6))
      h3)
  clear_value x4
  have h5 : Within K s0 x5 := by
    unfold x5
    exact (Within.ite (State.setRun_within h4 (Within.sub hk (by simp)))
      h4)
  clear_value x5
  exact (State.set_within h5 (Within.sub hk (by simp)))

theorem sleepSteps_within {K : Nat} {y0 : Nat} {s0 s : State} (h : Within K s0 s) (hk : 5070602400894477693361181159728 ||| K = K) :
    Within K s0 (sleepSteps y0 s) := by
  unfold sleepSteps
  extract_lets -merge -useContext x1 x2
  have h1 : Within K s0 x1 := by
    unfold x1
    exact (Within.ite (stopCores_within
        (endKeys_within
          (stopLine_within h (Within.sub hk (by simp))) (Within.sub hk (by simp))) (Within.sub hk (by simp)))
      h)
  clear_value x1
  have h2 : Within K s0 x2 := by
    unfold x2
    exact (Within.ite (fesSleep_within
        (fesSleep_within h1 (Within.sub hk (by simp))) (Within.sub hk (by simp)))
      (toDark_within
        (toDark_within h1 (Within.sub hk (by simp))) (Within.sub hk (by simp))))
  clear_value x2
  exact (Within.ite h2
    (hkPowerDown_within
      (auxDeepSleep_within h2 (Within.sub hk (by simp))) (Within.sub hk (by simp))))

theorem entryAction_within {K : Nat} {s0 s : State} (h : Within K s0 s) (hk : 5070602400894477693429900636464 ||| K = K) :
    Within K s0 (entryAction s) := by
  unfold entryAction
  extract_lets -merge -useContext x1 x2 x3 x4
  try clear_value x1
  have h2 : Within K s0 x2 := by
    unfold x2
    exact (sleepSteps_within h (Within.sub hk (by simp)))
  clear_value x2
  have h3 : Within K s0 x3 := by
    unfold x3
    exact (Within.ite h
      (vddMove_within
        (State.set_within h2 (Within.sub hk (by simp))) (Within.sub hk (by simp))))
  clear_value x3
  try clear_value x4
  exact (Within.ite h
    (Within.ite (countUnlogged_within h (Within.sub hk (by simp)))
      (State.setPwr_within h3 (Within.sub hk (by simp)))))

theorem tbAdvance_within {K : Nat} {counts : Nat} {s0 s : State} (h : Within K s0 s) (hk : 295148045916841184256 ||| K = K) :
    Within K s0 (tbAdvance counts s) := by
  unfold tbAdvance
  extract_lets -merge -useContext x1 x2 x3 x4 x5 x6 x7
  try clear_value x1
  try clear_value x2
  try clear_value x3
  try clear_value x4
  have h5 : Within K s0 x5 := by
    unfold x5
    exact (Within.upd_nowNs_elapsedNs_timeBase h (Within.sub hk (by simp)) (Within.sub hk (by simp)) (Within.sub hk (by simp)) _ _ _)
  clear_value x5
  have h6 : Within K s0 x6 := by
    unfold x6
    exact (State.setPair_within h5 (Within.sub hk (by simp)))
  clear_value x6
  have h7 : Within K s0 x7 := by
    unfold x7
    exact (State.set_within h6 (Within.sub hk (by simp)))
  clear_value x7
  exact (State.set_within h7 (Within.sub hk (by simp)))

theorem resumeStep_within {K : Nat} {x : Carrier} {plan : SleepPlan} {s0 s : State} (h : Within K s0 s) (hk : 9906240471170907909163843632 ||| K = K) :
    Within K s0 (resumeStep x plan s) := by
  unfold resumeStep
  extract_lets -merge -useContext x1 x2 x3 x4
  try clear_value x1
  have h2 : Within K s0 x2 := by
    unfold x2
    exact (Within.ite h
      (hardwareWrite_within h (Within.sub hk (by simp)) (Within.sub hk (by simp))))
  clear_value x2
  try clear_value x3
  have h4 : Within K s0 x4 := by
    unfold x4
    exact (putStep_within h2 (Within.sub hk (by simp)))
  clear_value x4
  exact (Within.ite h
    (startTimer_within
      (setRate_within h4 (Within.sub hk (by simp))) (Within.sub hk (by simp))))

theorem resumeLine_within {K : Nat} {s0 s : State} (h : Within K s0 s) (hk : 5070602400894477622966398742704 ||| K = K) :
    Within K s0 (resumeLine s) := by
  unfold resumeLine
  extract_lets -merge -useContext x1 x2 x3 x4 x5
  try clear_value x1
  have h2 : Within K s0 x2 := by
    unfold x2
    split
    · skip
      exact (State.setQlt_within
        (resumeStep_within
          (resumeStep_within h (Within.sub hk (by simp))) (Within.sub hk (by simp))) (Within.sub hk (by simp)))
    · skip
      exact h
  clear_value x2
  try clear_value x3
  have h4 : Within K s0 x4 := by
    unfold x4
    exact (Within.foldl _ (fun _ _ h6 => (Within.ite (hardwareRun_within h6 (Within.sub hk (by simp)) (Within.all hk _))
        h6))
      h2)
  clear_value x4
  have h5 : Within K s0 x5 := by
    unfold x5
    exact (Within.foldl _ (fun _ _ h7 => (putLineRx_within h7 (Within.sub hk (by simp))))
      h4)
  clear_value x5
  exact (Within.foldl _ (fun _ _ h8 => (setEqualiser_within h8 (Within.sub hk (by simp))))
    h5)

theorem resumeQuolet_within {K : Nat} {s0 s : State} (h : Within K s0 s) (hk : 536870912 ||| K = K) :
    Within K s0 (resumeQuolet s) := by
  unfold resumeQuolet
  extract_lets -merge -useContext x1 x2 x3
  try clear_value x1
  try clear_value x2
  have h3 : Within K s0 x3 := by
    unfold x3
    exact (State.setQlt_within h hk)
  clear_value x3
  exact (exitCall_within h3 hk)

theorem exitAction_within {K : Nat} {counts : Nat} {s0 s : State} (h : Within K s0 s) (hk : 5070602400894477834072631278768 ||| K = K) :
    Within K s0 (exitAction counts s) := by
  unfold exitAction
  extract_lets -merge -useContext x1 x2 x3 x4 x5 x6 x7 x8 x9
  have h1 : Within K s0 x1 := by
    unfold x1
    exact (Within.foldl _ (fun _ _ h10 => (Within.ite h10
        (hardwareRun_within h10 (Within.sub hk (by simp)) (Within.sub hk (by simp)))))
      h)
  clear_value x1
  try clear_value x2
  have h3 : Within K s0 x3 := by
    unfold x3
    exact (tbAdvance_within h (Within.sub hk (by simp)))
  clear_value x3
  have h4 : Within K s0 x4 := by
    unfold x4
    exact (State.set_within h3 (Within.sub hk (by simp)))
  clear_value x4
  try clear_value x5
  have h6 : Within K s0 x6 := by
    unfold x6
    exact (Within.foldl _ (fun _ _ h11 => (Within.ite (hardwareRun_within h11 (Within.sub hk (by simp)) (Within.sub hk (by simp)))
        h11))
      h4)
  clear_value x6
  have h7 : Within K s0 x7 := by
    unfold x7
    exact (Within.ite (hardwareRun_within h6 (Within.sub hk (by simp)) (Within.sub hk (by simp)))
      h6)
  clear_value x7
  have h8 : Within K s0 x8 := by
    unfold x8
    exact (resumeQuolet_within
      (resumeLine_within h7 (Within.sub hk (by simp))) (Within.sub hk (by simp)))
  clear_value x8
  try clear_value x9
  exact (Within.ite h
    (Within.ite (countUnlogged_within h (Within.sub hk (by simp)))
      (Within.ite (State.setPwr_within h1 (Within.sub hk (by simp)))
        (Within.ite h
          (State.setPwr_within h8 (Within.sub hk (by simp)))))))

theorem lanesFollowPower_within {K : Nat} {s0 s : State} (h : Within K s0 s) (hk : 118842243771401010127382249504 ||| K = K) :
    Within K s0 (lanesFollowPower s) := by
  unfold lanesFollowPower
  exact (Within.foldl _ (fun _ _ h1 => (clxFollow_within h1 hk))
    h)

theorem linkFollowPower_within {K : Nat} {y0 : Nat} {s0 s : State} (h : Within K s0 s) (hk : 158456325028528675187087900704 ||| K = K) :
    Within K s0 (linkFollowPower y0 s) := by
  unfold linkFollowPower
  exact (Within.ite (linkDown_within h hk)
    (State.setFlag_within h (Within.sub hk (by simp))))

theorem enterPower_within {K : Nat} {y0 : Nat} {s0 s : State} (h : Within K s0 s) (hk : 277298568947503637904146563232 ||| K = K) :
    Within K s0 (enterPower y0 s) := by
  unfold enterPower
  extract_lets -merge -useContext x1 x2
  have h1 : Within K s0 x1 := by
    unfold x1
    exact (linkFollowPower_within h (Within.sub hk (by simp)))
  clear_value x1
  have h2 : Within K s0 x2 := by
    unfold x2
    exact (State.set_within
      (State.clearAll_within h1 (Within.sub hk (by simp))) (Within.sub hk (by simp)))
  clear_value x2
  exact (lanesFollowPower_within
    (freeTransition_within
      (State.raise_within h2 (Within.sub hk (by simp)) (Within.sub hk (by simp))) (Within.sub hk (by simp))) (Within.sub hk (by simp)))

theorem transitionEnd_within {K : Nat} {s0 s : State} (h : Within K s0 s) (hk : 277298568947503708341610217632 ||| K = K) :
    Within K s0 (transitionEnd s) := by
  unfold transitionEnd
  extract_lets -merge -useContext x1 x2
  try clear_value x1
  try clear_value x2
  exact (Within.ite h
    (takePending_within
      (enterPower_within h (Within.sub hk (by simp))) (Within.sub hk (by simp))))

theorem persistAll_within {K : Nat} {s0 s : State} (h : Within K s0 s) (hk : 1511821357306077105094704 ||| K = K) :
    Within K s0 (persistAll s) := by
  unfold persistAll
  extract_lets -merge -useContext x1 x2 x3 x4
  have h1 : Within K s0 x1 := by
    unfold x1
    exact (calCommit_within h (Within.sub hk (by simp)))
  clear_value x1
  have h2 : Within K s0 x2 := by
    unfold x2
    exact (Within.ite h1
      (spillJournal_within h1 (Within.sub hk (by simp))))
  clear_value x2
  have h3 : Within K s0 x3 := by
    unfold x3
    exact (persistEntries_within h2 (Within.sub hk (by simp)))
  clear_value x3
  try clear_value x4
  exact (Within.ite (State.setCast_within h3 (Within.sub hk (by simp)))
    h2)

theorem orderlyShutdown_within {K : Nat} {rs : List (Option (Nat × Nat))} {s0 s : State} (h : Within K s0 s) (hk : 5070602400894477974907025093040 ||| K = K) :
    Within K s0 (orderlyShutdown rs s) := by
  unfold orderlyShutdown
  extract_lets -merge -useContext x1 x2 x3 x4
  have h1 : Within K s0 x1 := by
    unfold x1
    exact (shutdownTest_within
      (persistAll_within
        (sleepSteps_within h (Within.sub hk (by simp))) (Within.sub hk (by simp))) (Within.sub hk (by simp)))
  clear_value x1
  try clear_value x2
  have h3 : Within K s0 x3 := by
    unfold x3
    exact (State.set_within
      (State.setRps_within h1 (Within.sub hk (by simp))) (Within.sub hk (by simp)))
  clear_value x3
  have h4 : Within K s0 x4 := by
    unfold x4
    exact (State.raise_within
      (State.set_within h3 (Within.sub hk (by simp))) (Within.sub hk (by simp)) (Within.sub hk (by simp)))
  clear_value x4
  exact (Within.ite h
    (takePending_within
      (enterPower_within h4 (Within.sub hk (by simp))) (Within.sub hk (by simp))))

theorem wake_within {K : Nat} {bit : Nat} {s0 s : State} (h : Within K s0 s) (hk : 147578526626767437984 ||| K = K) :
    Within K s0 (wake bit s) := by
  unfold wake
  exact (Within.ite h
    (Within.ite (powerRequest_within h hk)
      h))

theorem accessWakes_within {K : Nat} {s0 s : State} (h : Within K s0 s) (hk : 147578526626767437984 ||| K = K) :
    Within K s0 (accessWakes s) := by
  unfold accessWakes
  exact (Within.ite (powerRequest_within h hk)
    h)

theorem sleepDue_within {K : Nat} {s0 s : State} (h : Within K s0 s) (hk : 302452820407678947819696 ||| K = K) :
    Within K s0 (sleepDue s) := by
  unfold sleepDue
  split
  · skip
    exact h
  · skip
    extract_lets -merge -useContext x1 x2 x3
    have h1 : Within K s0 x1 := by
      unfold x1
      exact (journalAccepted_within
        (State.addWrap_within h (Within.sub hk (by simp))) (Within.sub hk (by simp)))
    clear_value x1
    have h2 : Within K s0 x2 := by
      unfold x2
      exact (powerRequest_within h1 (Within.sub hk (by simp)))
    clear_value x2
    try clear_value x3
    exact (Within.ite h
      (Within.ite (countUnlogged_within h (Within.sub hk (by simp)))
        (Within.ite h2
          (State.setQlt_within h2 (Within.sub hk (by simp))))))

theorem lrefLoss_within {K : Nat} {s0 s : State} (h : Within K s0 s) (hk : 18440973655462134197839212832 ||| K = K) :
    Within K s0 (lrefLoss s) := by
  unfold lrefLoss
  extract_lets -merge -useContext x1 x2
  have h1 : Within K s0 x1 := by
    unfold x1
    exact (State.set_within
      (State.set_within h (Within.sub hk (by simp))) (Within.sub hk (by simp)))
  clear_value x1
  have h2 : Within K s0 x2 := by
    unfold x2
    exact (State.raise_within
      (State.set_within h1 (Within.sub hk (by simp))) (Within.sub hk (by simp)) (Within.sub hk (by simp)))
  clear_value x2
  exact (Within.ite h
    (Within.foldl _ (fun _ _ h3 => (synUnlock_within h3 (Within.sub hk (by simp))))
      h2))

theorem lrefReturn_within {K : Nat} {s0 s : State} (h : Within K s0 s) (hk : 295147905179352825856 ||| K = K) :
    Within K s0 (lrefReturn s) := by
  unfold lrefReturn
  exact (State.set_within
    (State.set_within h (Within.sub hk (by simp))) (Within.sub hk (by simp)))

theorem aonTrim_within {K : Nat} {trim : Int} {s0 s : State} (h : Within K s0 s) (hk : 4573968371548160 ||| K = K) :
    Within K s0 (aonTrim trim s) := by
  unfold aonTrim
  extract_lets -merge -useContext x1
  try clear_value x1
  exact (Within.ite (startTimer_within
      (State.setPwr_within h (Within.sub hk (by simp))) (Within.sub hk (by simp)))
    h)

theorem tbSet_within {K : Nat} {ns : Nat} {s0 s : State} (h : Within K s0 s) (hk : 302600389926968484693040 ||| K = K) :
    Within K s0 (tbSet ns s) := by
  unfold tbSet
  extract_lets -merge -useContext x1 x2 x3 x4 x5
  try clear_value x1
  try clear_value x2
  have h3 : Within K s0 x3 := by
    unfold x3
    exact (Within.upd_nowNs_timeBase h (Within.sub hk (by simp)) (Within.sub hk (by simp)) _ _)
  clear_value x3
  have h4 : Within K s0 x4 := by
    unfold x4
    exact (State.set_within h3 (Within.sub hk (by simp)))
  clear_value x4
  have h5 : Within K s0 x5 := by
    unfold x5
    exact (State.clearAll_within h4 (Within.sub hk (by simp)))
  clear_value x5
  exact (appendMarker_within
    (State.raise_within h5 (Within.sub hk (by simp)) (Within.sub hk (by simp))) (Within.sub hk (by simp)))

theorem alarmRaise_within {K : Nat} {s0 s : State} (h : Within K s0 s) (hk : 442726572543608619168 ||| K = K) :
    Within K s0 (alarmRaise s) := by
  unfold alarmRaise
  extract_lets -merge -useContext x1
  try clear_value x1
  exact (wake_within
    (State.raise_within
      (Within.upd_timeBase h (Within.sub hk (by simp)) _) (Within.sub hk (by simp)) (Within.sub hk (by simp))) (Within.sub hk (by simp)))

theorem tbAlarm_within {K : Nat} {s0 s : State} (h : Within K s0 s) (hk : 442726572543608619168 ||| K = K) :
    Within K s0 (tbAlarm s) := by
  unfold tbAlarm
  extract_lets -merge -useContext x1
  try clear_value x1
  exact (Within.ite (alarmRaise_within h hk)
    h)

theorem ppsLock_within {K : Nat} {y0 : Int} {s0 s : State} (h : Within K s0 s) (hk : 295148045916841181216 ||| K = K) :
    Within K s0 (ppsLock y0 s) := by
  unfold ppsLock
  extract_lets -merge -useContext x1 x2 x3
  try clear_value x1
  have h2 : Within K s0 x2 := by
    unfold x2
    exact (Within.upd_timeBase h (Within.sub hk (by simp)) _)
  clear_value x2
  have h3 : Within K s0 x3 := by
    unfold x3
    exact (Within.upd_timeBase h (Within.sub hk (by simp)) _)
  clear_value x3
  exact (Within.ite (Within.ite (State.raise_within
        (State.set_within h2 (Within.sub hk (by simp))) (Within.sub hk (by simp)) (Within.sub hk (by simp)))
      h2)
    (Within.ite (State.set_within h3 (Within.sub hk (by simp)))
      h3))

theorem ppsSlew_within {K : Nat} {s0 s : State} (h : Within K s0 s) (hk : 295149031079259668480 ||| K = K) :
    Within K s0 (ppsSlew s) := by
  unfold ppsSlew
  exact (State.setInt_within
    (State.drawn_within h (Within.sub hk (by simp))) (Within.sub hk (by simp)))

theorem ppsEdge_within {K : Nat} {s0 s : State} (h : Within K s0 s) (hk : 295153675416375395360 ||| K = K) :
    Within K s0 (ppsEdge s) := by
  unfold ppsEdge
  extract_lets -merge -useContext x1 x2 x3 x4 x5 x6 x7
  try clear_value x1
  try clear_value x2
  have h3 : Within K s0 x3 := by
    unfold x3
    exact (startTimer_within
      (State.setInt_within
        (State.bump_within h (Within.sub hk (by simp))) (Within.sub hk (by simp))) (Within.sub hk (by simp)))
  clear_value x3
  have h4 : Within K s0 x4 := by
    unfold x4
    exact (ppsLock_within h3 (Within.sub hk (by simp)))
  clear_value x4
  try clear_value x5
  have h6 : Within K s0 x6 := by
    unfold x6
    exact (Within.upd_nowNs_timeBase h4 (Within.sub hk (by simp)) (Within.sub hk (by simp)) _ _)
  clear_value x6
  have h7 : Within K s0 x7 := by
    unfold x7
    exact (Within.upd_nowNs h4 (Within.sub hk (by simp)) _)
  clear_value x7
  exact (Within.ite h
    (Within.ite (State.set_within
        (State.set_within h6 (Within.sub hk (by simp))) (Within.sub hk (by simp)))
      (Within.ite (State.raise_within
          (State.clearAll_within h7 (Within.sub hk (by simp))) (Within.sub hk (by simp)) (Within.sub hk (by simp)))
        (ppsSlew_within h4 (Within.sub hk (by simp))))))

theorem ppsLost_within {K : Nat} {s0 s : State} (h : Within K s0 s) (hk : 295148045916841181216 ||| K = K) :
    Within K s0 (ppsLost s) := by
  unfold ppsLost
  extract_lets -merge -useContext x1 x2
  try clear_value x1
  have h2 : Within K s0 x2 := by
    unfold x2
    exact (Within.upd_timeBase h (Within.sub hk (by simp)) _)
  clear_value x2
  exact (Within.ite h
    (State.raise_within
      (State.bump_within
        (State.set_within h2 (Within.sub hk (by simp))) (Within.sub hk (by simp))) (Within.sub hk (by simp)) (Within.sub hk (by simp))))

theorem ppsPulse_within {K : Nat} {s0 s : State} (h : Within K s0 s) (hk : 140737488355328 ||| K = K) :
    Within K s0 (ppsPulse s) := by
  unfold ppsPulse
  extract_lets -merge -useContext x1
  try clear_value x1
  exact (Within.ite (Within.upd_timeBase h hk _)
    h)

theorem pwrWritten_within {K : Nat} {y0 : Nat} {new : Word} {s0 s : State} (h : Within K s0 s) (hk : 1267650600375807928123470643360 ||| K = K) :
    Within K s0 (pwrWritten y0 new s) := by
  unfold pwrWritten
  exact (Within.ite (powerRequest_within h (Within.sub hk (by simp)))
    (Within.ite (vddMove_within
        (governorFollow_within h (Within.sub hk (by simp))) (Within.sub hk (by simp)))
      h))

theorem tbWritten_within {K : Nat} {y0 : Nat} {old : Word} {new : Word} {s0 s : State} (h : Within K s0 s) (hk : 302747968453595252130992 ||| K = K) :
    Within K s0 (tbWritten y0 old new s) := by
  unfold tbWritten
  extract_lets -merge -useContext x1 x2 x3 x4
  have h1 : Within K s0 x1 := by
    unfold x1
    exact (Within.ite (tbSet_within h (Within.sub hk (by simp)))
      h)
  clear_value x1
  try clear_value x2
  have h3 : Within K s0 x3 := by
    unfold x3
    exact (Within.upd_timeBase h1 (Within.sub hk (by simp)) _)
  clear_value x3
  try clear_value x4
  exact (Within.ite (Within.ite (Within.ite (alarmRaise_within h3 (Within.sub hk (by simp)))
        h3)
      h1)
    (Within.ite (Within.upd_timeBase h (Within.sub hk (by simp)) _)
      (Within.ite (State.set_within h (Within.sub hk (by simp)))
        h)))

end Sys2Proof.Machine
end

