-- ==== Sys2Proof/Laws/Access.lean ====
section
/-! SUPPORT. Laws/Access.lean: the parts of the state that each operation of Machine/Access.lean can change. -/
namespace Sys2Proof.Machine

set_option Elab.async false

open Sys2Proof

theorem putLatch_within {K : Nat} {o : Origin} {addr : Nat} {y2 : Word} {s0 s : State} (h : Within K s0 s) (hk : 2 ||| K = K) :
    Within K s0 (putLatch o addr y2 s) := by
  unfold putLatch
  exact (Within.upd_latches h hk _)

theorem latchHigh_within {K : Nat} {o : Origin} {p : Page} {y2 : Nat} {s0 s : State} (h : Within K s0 s) (hk : 2 ||| K = K) :
    Within K s0 (latchHigh o p y2 s) := by
  unfold latchHigh
  extract_lets -merge -useContext x1
  have h1 : Within K s0 x1 := by
    unfold x1
    exact (putLatch_within h hk)
  clear_value x1
  exact (Within.ite (Within.ite (putLatch_within h1 hk)
      h1)
    h)

theorem readEffect_within {K : Nat} {p : Page} {y1 : Nat} {s0 s : State} (h : Within K s0 s) (hk : 633989714025582325518737342464 ||| K = K) :
    Within K s0 (readEffect p y1 s) := by
  unfold readEffect
  split
  · skip
    exact (Within.ite (telOutRead_within h (Within.sub hk (by simp)))
      h)
  · skip
    exact (Within.ite (sampleD0Read_within h (Within.sub hk (by simp)))
      (Within.ite (sampleD3Read_within h (Within.sub hk (by simp)))
        h))
  · skip
    exact (Within.ite (mbxOutRead_within h (Within.sub hk (by simp)))
      h)
  · skip
    exact (Within.ite (coefAdvance_within h (Within.sub hk (by simp)))
      h)
  · skip
    exact (Within.ite (pramAdvance_within h (Within.sub hk (by simp)))
      h)
  · skip
    exact h

theorem readPage_within {K : Nat} {o : Origin} {p : Page} {y2 : Nat} {s0 s : State} (h : Within K s0 s) (hk : 633990017511415827287792156722 ||| K = K) :
    Within K s0 (readPage o p y2 s).1 := by
  unfold readPage
  extract_lets -merge -useContext x1
  try clear_value x1
  split
  · skip
    exact (Within.fst (odDeniedRead_within h (Within.sub hk (by simp))))
  · skip
    split
    · skip
      exact (Within.fst h)
    · skip
      exact (Within.fst (readEffect_within
        (latchHigh_within h (Within.sub hk (by simp))) (Within.sub hk (by simp))))

theorem readReg_within {K : Nat} {o : Origin} {addr : Nat} {s0 s : State} (h : Within K s0 s) (hk : 950902667568473177661967958066 ||| K = K) :
    Within K s0 (readReg o addr s).1 := by
  unfold readReg
  split
  · skip
    exact (debugRead_within h (Within.sub hk (by simp)))
  · skip
    split
    · skip
      exact (Within.fst h)
    · skip
      exact (readPage_within h (Within.sub hk (by simp)))

theorem readDouble_within {K : Nat} {o : Origin} {addr : Nat} {s0 s : State} (h : Within K s0 s) (hk : 950902667568473177661967958066 ||| K = K) :
    Within K s0 (readDouble o addr s).1 := by
  unfold readDouble
  extract_lets -merge -useContext x1 x2
  have h1 : Within K s0 x1.1 := by
    unfold x1
    exact (readReg_within h hk)
  clear_value x1
  have h2 : Within K s0 x2.1 := by
    unfold x2
    exact (readReg_within h1 hk)
  clear_value x2
  exact (Within.fst h2)

theorem fillEnv_within {K : Nat} {s0 : State} {n : Nat} {l : List Int} {s : State}
    (h : Within K s0 s) (hk : 1125899906842624 ||| K = K) : Within K s0 (fillEnv n l s).2 := by
  induction n generalizing s l with
  | zero => exact h
  | succ n ih =>
    cases l with
    | nil => exact ih (State.drawn_within h hk)
    | cons e l => exact ih h

theorem hkStart_within {K : Nat} {n : Fin 2} {env : List Int} {s0 s : State} (h : Within K s0 s) (hk : 2361188870934356885536 ||| K = K) :
    Within K s0 (hkStart n env s) := by
  unfold hkStart
  extract_lets -merge -useContext x1
  have h1 : Within K s0 x1.2 := by
    unfold x1
    exact (fillEnv_within h (Within.sub hk (by simp)))
  clear_value x1
  exact (Within.ite h
    (hkTrigger_within h1 (Within.sub hk (by simp))))

theorem hkGo_within {K : Nat} {n : Fin 2} {env : List Int} {s0 s : State} (h : Within K s0 s) (hk : 2361184367334729449504 ||| K = K) :
    Within K s0 (hkGo n env s) := by
  unfold hkGo
  extract_lets -merge -useContext x1
  have h1 : Within K s0 x1.2 := by
    unfold x1
    exact (fillEnv_within h (Within.sub hk (by simp)))
  clear_value x1
  exact (hkUrgent_within h1 (Within.sub hk (by simp)))

theorem semCommand_within {K : Nat} {o : Origin} {n : Nat} {cmd : Nat} {s0 s : State} (h : Within K s0 s) (hk : 1267650600228229401496703205504 ||| K = K) :
    Within K s0 (semCommand o n cmd s) := by
  unfold semCommand
  exact (Within.ite (semAcquire_within h hk)
    (Within.ite (semRelease_within h (Within.sub hk (by simp)))
      h))

theorem rawCleared_within {K : Nat} {p : Page} {mask : Nat} {s0 s : State} (h : Within K s0 s) (hk : 32 ||| K = K) (hp : pageBit p ||| K = K) :
    Within K s0 (rawCleared p mask s) := by
  unfold rawCleared
  extract_lets -merge -useContext x1 x2 x3 x4
  try clear_value x1
  try clear_value x2
  try clear_value x3
  have h4 : Within K s0 x4 := by
    unfold x4
    exact (State.setRaw_within h hk hp)
  clear_value x4
  exact (Within.ite h4
    (State.setRaw_within h4 hk hp))

theorem headerWritten_within {K : Nat} {p : Page} {y1 : Nat} {v : Word} {s0 s : State} (h : Within K s0 s) (hk : 5070602400894477623009616851376 ||| K = K) (hp : pageBit p ||| K = K) :
    Within K s0 (headerWritten p y1 v s) := by
  unfold headerWritten
  extract_lets -merge -useContext x1
  have h1 : Within K s0 x1 := by
    unfold x1
    exact (enterStopping_within h (Within.sub hk (by simp)) hp)
  clear_value x1
  exact (Within.ite (by
      split
      · skip
        exact (enterStarting_within h (Within.sub hk (by simp)) hp)
      · skip
        exact (Within.ite (governorFollow_within h1 (Within.sub hk (by simp)))
          h1)
      · skip
        exact h)
    (Within.ite (rawCleared_within h (Within.sub hk (by simp)) hp)
      (Within.ite (sendMessages_within (State.set_within h hp) (Within.sub hk (by simp)))
        (Within.ite (State.setRaw_within h (Within.sub hk (by simp)) hp)
          (Within.ite (State.clearAll_within h hp)
            (Within.ite (State.clearAll_within h hp)
              h))))))

theorem blockWritten_within {K : Nat} {o : Origin} {p : Page} {y2 : Nat} {old : Word} {new : Word} {env : List Int} {s0 s : State} (h : Within K s0 s) (hk : 5070582453581562171956383430128 ||| K = K) :
    Within K s0 (blockWritten o p y2 old new env s) := by
  unfold blockWritten
  split
  · skip
    exact (Within.ite (stageRoute_within h (Within.sub hk (by simp)))
      (Within.ite (softwareSet_within h (Within.sub hk (by simp)))
        (Within.ite (softwareClear_within h (Within.sub hk (by simp)))
          h)))
  · skip
    exact (Within.ite (signNow_within h (Within.sub hk (by simp)))
      h)
  · skip
    exact (pwrWritten_within h (Within.sub hk (by simp)))
  · skip
    exact (tbWritten_within h (Within.sub hk (by simp)))
  · skip
    exact (Within.ite (calStore_within h (Within.sub hk (by simp)))
      h)
  · skip
    exact (Within.ite (odGo_within h (Within.sub hk (by simp)))
      h)
  · skip
    exact (Within.ite (Within.ite (hkStart_within h (Within.sub hk (by simp)))
        h)
      (Within.ite (Within.ite (hkGo_within h (Within.sub hk (by simp)))
          h)
        (hkWritten_within h (Within.sub hk (by simp)))))
  · skip
    exact (auxWritten_within h (Within.sub hk (by simp)))
  · skip
    exact (telWritten_within h (Within.sub hk (by simp)))
  · skip
    exact (fesWritten_within h (Within.sub hk (by simp)))
  · skip
    exact (rpsWritten_within h (Within.sub hk (by simp)))
  · skip
    exact (castWritten_within h (Within.sub hk (by simp)))
  · skip
    exact (arcWritten_within h (Within.sub hk (by simp)))
  · skip
    exact (qltWritten_within h (Within.sub hk (by simp)))
  · skip
    exact (lrxWritten_within h (Within.sub hk (by simp)))
  · skip
    exact (ltxWritten_within h (Within.sub hk (by simp)))
  · skip
    exact (encoderRestart_within
      (txpWritten_within h (Within.sub hk (by simp))) (Within.sub hk (by simp)))
  · skip
    exact (cdcWritten_within h (Within.sub hk (by simp)))
  · skip
    exact (eqzWritten_within h (Within.sub hk (by simp)))
  · skip
    exact (cprWritten_within h (Within.sub hk (by simp)))
  · skip
    exact (mlsWritten_within h (Within.sub hk (by simp)))
  · skip
    exact (Within.ite (clearRange_within h (Within.sub hk (by simp)))
      h)
  · skip
    exact (clxWritten_within h (Within.sub hk (by simp)))
  · skip
    exact (cpcWritten_within h (Within.sub hk (by simp)))
  · skip
    exact (hlkWritten_within h (Within.sub hk (by simp)))
  · skip
    exact (coreWritten_within h (Within.sub hk (by simp)))
  · skip
    exact (tallyWritten_within h (Within.sub hk (by simp)))
  · skip
    exact (Within.ite (semCommand_within h (Within.sub hk (by simp)))
      (fabricWritten_within h (Within.sub hk (by simp))))
  · skip
    exact (plnWritten_within h (Within.sub hk (by simp)))
  · skip
    exact h

theorem unchangedWritten_within {K : Nat} {p : Page} {y1 : Nat} {old : Word} {v : Word} {s0 s : State} (h : Within K s0 s) (hk : 164716659438294962825856176 ||| K = K) :
    Within K s0 (unchangedWritten p y1 old v s) := by
  unfold unchangedWritten
  split
  · skip
    exact (Within.ite (stage_within h (Within.sub hk (by simp)))
      h)
  · skip
    exact (Within.ite (coefAdvance_within h (Within.sub hk (by simp)))
      h)
  · skip
    exact (Within.ite (pramAdvance_within h (Within.sub hk (by simp)))
      h)
  · skip
    exact (Within.ite (tbWritten_within h (Within.sub hk (by simp)))
      h)
  · skip
    exact h

theorem writeEffect_within {K : Nat} {o : Origin} {p : Page} {y2 : Nat} {old : Word} {v : Word} {env : List Int} {s0 s : State} (h : Within K s0 s) (hk : 5070602400894479305883231712752 ||| K = K) (hp : pageBit p ||| K = K) :
    Within K s0 (writeEffect o p y2 old v env s) := by
  unfold writeEffect
  extract_lets -merge -useContext x1 x2
  try clear_value x1
  try clear_value x2
  exact (Within.ite (headerWritten_within h (Within.sub hk (by simp)) hp)
    (Within.ite (Within.ite h
        (blockWritten_within h (Within.sub hk (by simp))))
      (blockWritten_within h (Within.sub hk (by simp)))))

theorem storeWrite_within {K : Nat} {p : Page} {y1 : Nat} {v : Word} {s0 s : State} (h : Within K s0 s) (hk : 2251799813685248 ||| K = K) (hp : pageBit p ||| K = K) :
    Within K s0 (storeWrite p y1 v s) := by
  unfold storeWrite
  extract_lets -merge -useContext x1 x2
  try clear_value x1
  try clear_value x2
  exact (Within.ite h
    (Within.ite (stage_within (Within.setWord h _ _ _ hp) hk)
      (unstage_within (Within.setWord h _ _ _ hp) hk)))

theorem acceptWrite_within {K : Nat} {o : Origin} {p : Page} {y2 : Nat} {v : Word} {env : List Int} {s0 s : State} (h : Within K s0 s) (hk : 5070602400894479305883231712752 ||| K = K) (hp : pageBit p ||| K = K) :
    Within K s0 (acceptWrite o p y2 v env s) := by
  unfold acceptWrite
  extract_lets -merge -useContext x1 x2 x3 x4 x5
  try clear_value x1
  have h2 : Within K s0 x2 := by
    unfold x2
    exact (storeWrite_within h (Within.sub hk (by simp)) hp)
  clear_value x2
  try clear_value x3
  have h4 : Within K s0 x4 := by
    unfold x4
    exact (State.addWrap_within h2 hp)
  clear_value x4
  have h5 : Within K s0 x5 := by
    unfold x5
    exact (journalAccepted_within h4 (Within.sub hk (by simp)))
  clear_value x5
  exact (writeEffect_within h5 hk hp)

theorem noteRefused_within {K : Nat} {o : Origin} {p : Page} {y2 : Nat} {r : Reason} {s0 s : State} (h : Within K s0 s) (hp : pageBit p ||| K = K) :
    Within K s0 (noteRefused o p y2 r s) := by
  unfold noteRefused
  extract_lets -merge -useContext x1 x2 x3
  have h1 : Within K s0 x1 := by
    unfold x1
    exact (State.bump_within h hp)
  clear_value x1
  have h2 : Within K s0 x2 := by
    unfold x2
    exact (State.set_within h1 hp)
  clear_value x2
  have h3 : Within K s0 x3 := by
    unfold x3
    exact (State.set_within h2 hp)
  clear_value x3
  exact (State.set_within h3 hp)

theorem refuseWrite_within {K : Nat} {o : Origin} {p : Page} {y2 : Nat} {v : Word} {r : Reason} {s0 s : State} (h : Within K s0 s) (hk : 303485833501769054814768 ||| K = K) (hp : pageBit p ||| K = K) :
    Within K s0 (refuseWrite o p y2 v r s) := by
  unfold refuseWrite
  extract_lets -merge -useContext x1
  have h1 : Within K s0 x1 := by
    unfold x1
    exact (State.countFabric_within h (Within.sub hk (by simp)))
  clear_value x1
  split
  · skip
    exact (countUnlogged_within h1 (Within.sub hk (by simp)))
  · skip
    exact (journalRefused_within
      (State.bump_within h1 (Within.sub hk (by simp))) (Within.sub hk (by simp)))
  · skip
    exact (journalRefused_within (noteRefused_within h1 hp) (Within.sub hk (by simp)))

theorem writePage_within {K : Nat} {o : Origin} {p : Page} {y2 : Nat} {v : Word} {env : List Int} {s0 s : State} (h : Within K s0 s) (hk : 5070602400894479305883231713264 ||| K = K) (hp : pageBit p ||| K = K) :
    Within K s0 (writePage o p y2 v env s) := by
  unfold writePage
  split
  · skip
    exact (Within.ite (acceptWrite_within h (Within.sub hk (by simp)) hp)
      (unchangedWritten_within h (Within.sub hk (by simp))))
  · skip
    exact (refuseWrite_within h (Within.sub hk (by simp)) hp)

theorem writeUnmapped_within {K : Nat} {o : Origin} {addr : Nat} {v : Word} {s0 s : State} (h : Within K s0 s) (hk : 302305241881051643510832 ||| K = K) :
    Within K s0 (writeUnmapped o addr v s) := by
  unfold writeUnmapped
  exact (Within.ite (countUnlogged_within h (Within.sub hk (by simp)))
    (journalRefused_within h hk))

theorem writeOnce_within {K : Nat} {o : Origin} {addr : Nat} {v : Word} {env : List Int} {s0 s : State} (h : Within K s0 s) (hk : 5070602400894479305883231713264 ||| K = K) :
    Within K s0 (writeOnce o addr v env s) := by
  unfold writeOnce
  split
  · skip
    exact (debugWrite_within h (Within.sub hk (by simp)))
  · skip
    split
    · skip
      exact (writeUnmapped_within h (Within.sub hk (by simp)))
    · skip
      exact (writePage_within h hk (Within.all hk _))

theorem thinWrite_within {K : Nat} {s0 s : State} (h : Within K s0 s) (hk : 5070602400894479305883231713264 ||| K = K) :
    Within K s0 (thinWrite s) := by
  unfold thinWrite
  extract_lets -merge -useContext x1 x2
  try clear_value x1
  have h2 : Within K s0 x2 := by
    unfold x2
    exact (writeOnce_within h hk)
  clear_value x2
  exact (Within.ite h
    (Within.ite h
      (Within.ite (State.raise_within h2 (Within.sub hk (by simp)) (Within.sub hk (by simp)))
        h2)))

theorem ringFollow_within {K : Nat} {s : State} {s0 y1 : State} (h : Within K s0 y1) (hk : 5070602400894479305887526680560 ||| K = K) :
    Within K s0 (ringFollow s y1) := by
  unfold ringFollow
  exact (Within.ite (thinWrite_within
      (ringEvaluate_within h (Within.sub hk (by simp))) (Within.sub hk (by simp)))
    h)

theorem writeReg_within {K : Nat} {o : Origin} {addr : Nat} {v : Word} {env : List Int} {s0 s : State} (h : Within K s0 s) (hk : 5070602400894479305887526680560 ||| K = K) :
    Within K s0 (writeReg o addr v env s) := by
  unfold writeReg
  exact (ringFollow_within
    (writeOnce_within h (Within.sub hk (by simp))) hk)

theorem writeField_within {K : Nat} {o : Origin} {p : Page} {f : Field} {v : Nat} {s0 s : State} (h : Within K s0 s) (hk : 5070602400894479305887526680560 ||| K = K) :
    Within K s0 (writeField o p f v s) := by
  unfold writeField
  exact (writeReg_within h hk)

theorem misalignedWrite_within {K : Nat} {addr : Nat} {n : Nat} {v : Word} {s0 s : State} (h : Within K s0 s) (hk : 5070602400894470863012614898224 ||| K = K) :
    Within K s0 (misalignedWrite addr n v s) := by
  unfold misalignedWrite
  extract_lets -merge -useContext x1
  have h1 : Within K s0 x1 := by
    unfold x1
    exact (Within.foldl _ (fun _ _ h2 => (by
        split
        · skip
          exact (writeUnmapped_within h2 (Within.sub hk (by simp)))
        · skip
          exact (Within.ite (countUnlogged_within
              (State.countFabric_within h2 (Within.sub hk (by simp))) (Within.sub hk (by simp)))
            (refuseWrite_within h2 (Within.sub hk (by simp)) (Within.all hk _)))))
      h)
  clear_value x1
  exact (State.set_within
    (State.bump_within h1 (Within.sub hk (by simp))) (Within.sub hk (by simp)))

end Sys2Proof.Machine
end

