-- ==== Sys2Proof/Laws/Boundaries.lean ====
section
/-! SUPPORT. Laws/Boundaries.lean: what an application boundary can change (R55): the live writes that wait, the registers of the
pages it admits, and what their live fields do there. -/
namespace Sys2Proof.Machine

set_option Elab.async false

open Sys2Proof

@[simp] theorem word_stage (s : State) (a : Nat) (w : Word) (p : Page) (off : Nat) : word (stage a w s) p off = word s p off := rfl
@[simp] theorem word_unstage (s : State) (a : Nat) (p : Page) (off : Nat) : word (unstage a s) p off = word s p off := rfl

/-- The last value accepted for a register is the one that waits (R53). -/
@[simp] theorem stagedWord_stage (s : State) (a : Nat) (w : Word) : stagedWord (stage a w s) a = some w := by
  have h : (s.staged.filter fun x => x.addr != a).find? (fun x => x.addr == a) = none := by
    rw [List.find?_eq_none]
    intro x hx
    simpa using (List.mem_filter.mp hx).2
  simp [stagedWord, stage, List.find?_append, h]

theorem stagedWord_stage_other (s : State) (a b : Nat) (w : Word) (hab : a ≠ b) :
    stagedWord (stage a w s) b = stagedWord s b := by
  have hb : (a == b) = false := by simpa using hab
  simp only [stagedWord, stage, List.find?_append, List.find?_filter, List.find?_cons, hb, List.find?_nil, Option.or_none]
  congr 2
  funext x
  by_cases hx : x.addr = b
  · simp [hx, Ne.symm hab]
  · simp [hx]

@[simp] theorem stagedWord_unstage (s : State) (a : Nat) : stagedWord (unstage a s) a = none := by
  have h : (s.staged.filter fun x => x.addr != a).find? (fun x => x.addr == a) = none := by
    rw [List.find?_eq_none]
    intro x hx
    simpa using (List.mem_filter.mp hx).2
  simp [stagedWord, unstage, h]

/-- What the live fields of one register can change, by their page. -/
theorem applyLive_by {K : Nat} {s0 s : State} {x : LiveWrite} {p : Page} (h : Within K s0 s)
    (hx : pageOfAddr x.addr = some p) (hs : 2251799813685248 ||| K = K) (hp : pageBit p ||| K = K)
    (he : ∀ off old new u, Within K s0 u → Within K s0 (liveApplied p off old new u)) : Within K s0 (applyLive s x) := by
  unfold applyLive
  rw [hx]
  exact he _ _ _ _ (Within.setWord (unstage_within h hs) _ _ _ hp)

/-- A boundary changes what the live fields of the pages it admits change. -/
theorem applyStaged_by {K : Nat} {s0 s : State} {due : Page → Nat → Bool} (h : Within K s0 s)
    (hs : 2251799813685248 ||| K = K) (hp : ∀ q o, due q o = true → pageBit q ||| K = K)
    (he : ∀ q o, due q o = true → ∀ off old new u, Within K s0 u → Within K s0 (liveApplied q off old new u)) :
    Within K s0 (applyStaged due s) := by
  unfold applyStaged
  extract_lets admitted
  have hl : ∀ x ∈ s.staged.filter admitted, admitted x = true := fun x hx => (List.mem_filter.mp hx).2
  generalize s.staged.filter admitted = l at hl
  induction l generalizing s with
  | nil => exact h
  | cons x l ih =>
    have hx : admitted x = true := hl x (List.mem_cons_self ..)
    refine ih (s := applyLive s x) ?_ fun y hy => hl y (List.mem_cons_of_mem _ hy)
    simp only [admitted] at hx
    split at hx
    · exact applyLive_by h ‹_› hs (hp _ _ hx) (he _ _ hx)
    · cases hx

/-- A boundary of some registers of one page. -/
theorem registerBoundary_by {K : Nat} {s0 s : State} {p : Page} {due : Nat → Bool} (h : Within K s0 s)
    (hs : 2251799813685248 ||| K = K) (hp : pageBit p ||| K = K)
    (he : ∀ off old new u, Within K s0 u → Within K s0 (liveApplied p off old new u)) :
    Within K s0 (registerBoundary p due s) := by
  have hq : ∀ (q : Page) (o : Nat), (q == p && due o) = true → q = p := fun q o hd => by
    simp only [Bool.and_eq_true, beq_iff_eq] at hd; exact hd.1
  exact Within.ite (applyStaged_by h hs (fun q o hd => hq q o hd ▸ hp) fun q o hd => hq q o hd ▸ he) h

/-- A boundary of one page. -/
theorem pageBoundary_by {K : Nat} {s0 s : State} {p : Page} (h : Within K s0 s) (hs : 2251799813685248 ||| K = K)
    (hp : pageBit p ||| K = K) (he : ∀ off old new u, Within K s0 u → Within K s0 (liveApplied p off old new u)) :
    Within K s0 (pageBoundary p s) := by
  have hq : ∀ q : Page, (q == p) = true → q = p := fun q hd => by simpa using hd
  exact Within.ite (applyStaged_by h hs (fun q _ hd => hq q hd ▸ hp) fun q _ hd => hq q hd ▸ he) h

/-- A boundary of several pages. -/
theorem pagesBoundary_by {K : Nat} {s0 s : State} {ps : List Page} (h : Within K s0 s) (hs : 2251799813685248 ||| K = K)
    (hp : ∀ p ∈ ps, pageBit p ||| K = K)
    (he : ∀ p ∈ ps, ∀ off old new u, Within K s0 u → Within K s0 (liveApplied p off old new u)) :
    Within K s0 (pagesBoundary ps s) := by
  unfold pagesBoundary
  induction ps generalizing s with
  | nil => exact h
  | cons p ps ih =>
    exact ih (pageBoundary_by h hs (hp p (List.mem_cons_self ..)) (he p (List.mem_cons_self ..)))
      (fun q hq => hp q (List.mem_cons_of_mem _ hq)) fun q hq => he q (List.mem_cons_of_mem _ hq)

/-- A boundary with nothing waiting changes nothing. -/
theorem pageBoundary_of_none {s : State} (p : Page) (h : s.staged = []) : pageBoundary p s = s := by
  simp [pageBoundary, applyStaged, h]

end Sys2Proof.Machine
end

