-- ==== Sys2Proof/Laws/Issue.lean ====
section
/-! SUPPORT. Laws/Issue.lean: the parts of the state that each operation of Machine/Issue.lean can change. -/
namespace Sys2Proof.Machine

set_option Elab.async false

open Sys2Proof

theorem storeData_within {K : Nat} {n : Fin 8} {a : Nat} {bs : List Byte} {s0 s : State} (h : Within K s0 s) (hk : 1099645845504 ||| K = K) :
    Within K s0 (storeData n a bs s) := by
  unfold storeData
  extract_lets -merge -useContext x1 x2 x3
  have h1 : Within K s0 x1 := by
    unfold x1
    exact (putData_within h (fun w => (writeBytes_wf _ _ _ (coreData_wf _ _ w))) (Within.sub hk (by simp)))
  clear_value x1
  exact (State.setMem_within h1 (fun w => (Memories.wf_of (Memories.wf_lpddr w) (Memories.wf_granules w) (Memories.wf_poisoned w))) (Within.sub hk (by simp)))

theorem lsAccess_within {K : Nat} {n : Fin 8} {y : Core} {w : Word} {s0 s : State} (h : Within K s0 s) (hk : 5070602400894479305887526680562 ||| K = K) :
    Within K s0 (lsAccess n y w s) := by
  unfold lsAccess
  extract_lets -merge -useContext x1 x2 x3
  try clear_value x1
  have h2 : Within K s0 x2.1 := by
    unfold x2
    exact (readReg_within h (Within.sub hk (by simp)))
  clear_value x2
  try clear_value x3
  exact (Within.ite h
    (Within.ite (Within.ite (State.countCore_within
          (putCore_within h2 (Within.sub hk (by simp))) (Within.sub hk (by simp)))
        (State.countCore_within
          (writeReg_within h (Within.sub hk (by simp))) (Within.sub hk (by simp))))
      (Within.ite (State.countCore_within h (Within.sub hk (by simp)))
        (State.countCore_within
          (storeData_within h (Within.sub hk (by simp))) (Within.sub hk (by simp))))))

theorem countBundle_within {K : Nat} {n : Fin 8} {y : Core} {b : Bundle} {loopBack : Bool} {s0 s : State} (h : Within K s0 s) (hk : 512 ||| K = K) :
    Within K s0 (countBundle n y b loopBack s) := by
  unfold countBundle
  extract_lets -merge -useContext x1 x2 x3 x4 x5 x6
  have h1 : Within K s0 x1 := by
    unfold x1
    exact (State.countCore_within h hk)
  clear_value x1
  have h2 : Within K s0 x2 := by
    unfold x2
    exact (Within.ite (State.countCore_within h1 hk)
      h1)
  clear_value x2
  have h3 : Within K s0 x3 := by
    unfold x3
    exact (Within.ite (State.countCore_within h2 hk)
      h2)
  clear_value x3
  have h4 : Within K s0 x4 := by
    unfold x4
    exact (Within.ite h3
      (State.countCore_within h3 hk))
  clear_value x4
  have h5 : Within K s0 x5 := by
    unfold x5
    exact (Within.ite h4
      (State.countCore_within h4 hk))
  clear_value x5
  have h6 : Within K s0 x6 := by
    unfold x6
    exact (Within.ite (State.countCore_within h5 hk)
      h5)
  clear_value x6
  exact (Within.ite (State.countCore_within h6 hk)
    h6)

theorem closeSamples_within {K : Nat} {n : Fin 8} {issued : Nat} {s0 s : State} (h : Within K s0 s) (hk : 35184372088832 ||| K = K) :
    Within K s0 (closeSamples n issued s) := by
  unfold closeSamples
  extract_lets -merge -useContext x1 x2 x3 x4
  try clear_value x1
  try clear_value x2
  try clear_value x3
  try clear_value x4
  exact (Within.upd_samples h hk _)

theorem runBundle_within {K : Nat} {n : Fin 8} {y : Core} {b : Bundle} {s0 s : State} (h : Within K s0 s) (hk : 5070602400894479305887526680562 ||| K = K) :
    Within K s0 (runBundle n y b s) := by
  unfold runBundle
  extract_lets -merge -useContext x1 x2 x3 x4 x5 x6 x7 x8 x9 x10 x11 x12 x13
  try clear_value x1
  try clear_value x2
  try clear_value x3
  try clear_value x4
  try clear_value x5
  try clear_value x6
  try clear_value x7
  try clear_value x8
  have h9 : Within K s0 x9 := by
    unfold x9
    exact (closeSamples_within h (Within.sub hk (by simp)))
  clear_value x9
  have h10 : Within K s0 x10 := by
    unfold x10
    exact (countBundle_within
      (putCore_within h9 (Within.sub hk (by simp))) (Within.sub hk (by simp)))
  clear_value x10
  have h11 : Within K s0 x11 := by
    unfold x11
    exact (lsAccess_within h10 hk)
  clear_value x11
  have h12 : Within K s0 x12 := by
    unfold x12
    exact (Within.ite (movtcAct_within h11 (Within.sub hk (by simp)))
      h11)
  clear_value x12
  have h13 : Within K s0 x13 := by
    unfold x13
    exact (Within.ite (State.raise_within
        (coreHalt_within h12 (Within.sub hk (by simp))) (Within.sub hk (by simp)) (Within.sub hk (by simp)))
      h12)
  clear_value x13
  exact (Within.ite (trapEnter_within h13 (Within.sub hk (by simp)))
    h13)

theorem issueWords_within {K : Nat} {n : Fin 8} {b : Bundle} {s0 s : State} (h : Within K s0 s) (hk : 5070602400894479305887526680562 ||| K = K) :
    Within K s0 (issueWords n b s) := by
  unfold issueWords
  extract_lets -merge -useContext x1 x2
  try clear_value x1
  have h2 : Within K s0 x2 := by
    unfold x2
    exact (putCore_within h (Within.sub hk (by simp)))
  clear_value x2
  split
  · skip
    exact (trapEnter_within h2 (Within.sub hk (by simp)))
  · skip
    exact (runBundle_within h2 hk)

theorem issueAt_within {K : Nat} {n : Fin 8} {b : Bundle} {step : Bool} {s0 s : State} (h : Within K s0 s) (hk : 5070602400894479305887526680562 ||| K = K) :
    Within K s0 (issueAt n b step s) := by
  unfold issueAt
  extract_lets -merge -useContext x1
  try clear_value x1
  exact (Within.ite (Within.ite (trapEnter_within
        (putCore_within h (Within.sub hk (by simp))) (Within.sub hk (by simp)))
      (Within.ite (issueWords_within h hk)
        (State.raise_within
          (coreHalt_within h (Within.sub hk (by simp))) (Within.sub hk (by simp)) (Within.sub hk (by simp)))))
    (issueWords_within h hk))

theorem issueBundle_within {K : Nat} {n : Fin 8} {b : Bundle} {s0 s : State} (h : Within K s0 s) (hk : 5070602400894479305887526680562 ||| K = K) :
    Within K s0 (issueBundle n b s) := by
  unfold issueBundle
  exact (Within.ite h
    (issueAt_within h hk))

theorem stepCore_within {K : Nat} {n : Fin 8} {s0 s : State} (h : Within K s0 s) (hk : 5070602400894479305887526680562 ||| K = K) :
    Within K s0 (stepCore n s) := by
  unfold stepCore
  extract_lets -merge -useContext x1
  have h1 : Within K s0 x1 := by
    unfold x1
    exact (issueAt_within h hk)
  clear_value x1
  exact (Within.ite h
    (putCore_within h1 (Within.sub hk (by simp))))

theorem drainSteps_within {K : Nat} {s0 : State} {n : Nat} {s : State}
    (h : Within K s0 s) (hk : 5070602400894479305887526680562 ||| K = K) : Within K s0 (drainSteps n s) := by
  induction n generalizing s with
  | zero => exact h
  | succ n ih =>
    unfold drainSteps
    split
    · exact h
    · exact ih (stepCore_within (Within.upd_stepsDue h (Within.sub hk (by simp)) _) hk)

theorem settle_within {K : Nat} {s0 s : State} (h : Within K s0 s) (hk : 5070602400894479305887526680562 ||| K = K) :
    Within K s0 (settle s) := by
  unfold settle
  exact (drainSteps_within h hk)

theorem writeSettled_within {K : Nat} {o : Origin} {addr : Nat} {v : Word} {env : List Int} {s0 s : State} (h : Within K s0 s) (hk : 5070602400894479305887526680562 ||| K = K) :
    Within K s0 (writeSettled o addr v env s) := by
  unfold writeSettled
  exact (settle_within
    (writeReg_within h (Within.sub hk (by simp))) hk)

theorem bundleIssue_within {K : Nat} {n : Fin 8} {s0 s : State} (h : Within K s0 s) (hk : 5070602400894479305887526680562 ||| K = K) :
    Within K s0 (bundleIssue n s) := by
  unfold bundleIssue
  exact (settle_within (issueBundle_within h hk) hk)

theorem issueMac_within {K : Nat} {n : Fin 8} {slot1 : Bool} {w : Word} {s0 s : State} (h : Within K s0 s) (hk : 5070602400894479305887526680562 ||| K = K) :
    Within K s0 (issueMac n slot1 w s) := by
  unfold issueMac
  exact (settle_within (issueBundle_within h hk) hk)

theorem issueLs_within {K : Nat} {n : Fin 8} {w : Word} {s0 s : State} (h : Within K s0 s) (hk : 5070602400894479305887526680562 ||| K = K) :
    Within K s0 (issueLs n w s) := by
  unfold issueLs
  exact (settle_within (issueBundle_within h hk) hk)

theorem issueCt_within {K : Nat} {n : Fin 8} {w : Word} {s0 s : State} (h : Within K s0 s) (hk : 5070602400894479305887526680562 ||| K = K) :
    Within K s0 (issueCt n w s) := by
  unfold issueCt
  exact (settle_within (issueBundle_within h hk) hk)

end Sys2Proof.Machine
end

