-- ==== Sys2Proof/Laws/Restart.lean ====
section
/-! SUPPORT. Laws/Restart.lean: the parts of the state that each operation of Machine/Restart.lean can change. -/
namespace Sys2Proof.Machine

set_option Elab.async false

open Sys2Proof

theorem writeRunctl_within {K : Nat} {o : Origin} {p : Page} {cmd : Nat} {s0 s : State} (h : Within K s0 s) (hk : 5070602400894479305887526680560 ||| K = K) :
    Within K s0 (writeRunctl o p cmd s) := by
  unfold writeRunctl
  exact (writeReg_within h hk)

theorem stopAndWait_within {K : Nat} {s0 s : State} {p : Page} (h : Within K s0 s) (hk : 5070602400894479305887526680560 ||| K = K) (hp : pageBit p ||| K = K) :
    Within K s0 (stopAndWait s p) := by
  unfold stopAndWait
  exact (pageStopped_within (writeRunctl_within h hk) hp)

theorem presetFine_within {K : Nat} {c : Carrier} {applied : Int} {s0 s : State} (h : Within K s0 s) (hk : 5070602400894479305887526680560 ||| K = K) :
    Within K s0 (presetFine c applied s) := by
  unfold presetFine
  extract_lets -merge -useContext x1
  have h1 : Within K s0 x1 := by
    unfold x1
    exact (writeField_within h hk)
  clear_value x1
  exact (writeField_within h1 hk)

theorem eraseSlots_within {K : Nat} {s0 s : State} {c : Carrier} (h : Within K s0 s) (hk : 19807040628566084398386020352 ||| K = K) :
    Within K s0 (eraseSlots s c) := by
  unfold eraseSlots
  exact (Within.foldl _ (fun _ _ h1 => (eraseRxSlot_within (eraseTxSlot_within h1 hk) hk))
    h)

theorem restartCarriers_within {K : Nat} {xs : List Carrier} {mode : Carrier → Nat} {s0 s : State} (h : Within K s0 s) (hk : 5070602400894479305887526680560 ||| K = K) :
    Within K s0 (restartCarriers xs mode s) := by
  unfold restartCarriers
  extract_lets -merge -useContext x1 x2 x3 x4 x5 x6
  try clear_value x1
  have h3 : Within K s0 x3 := by
    unfold x3
    exact (Within.foldl _ (fun _ _ h7 => (stopAndWait_within h7 hk (Within.all hk _)))
      h)
  clear_value x3
  have h4 : Within K s0 x4 := by
    unfold x4
    exact (Within.foldl _ (fun _ _ h8 => (presetFine_within h8 hk))
      h3)
  clear_value x4
  have h5 : Within K s0 x5 := by
    unfold x5
    exact (Within.foldl _ (fun _ _ h9 => (writeField_within h9 hk))
      h4)
  clear_value x5
  have h6 : Within K s0 x6 := by
    unfold x6
    exact (Within.foldl _ (fun _ _ h10 => (eraseSlots_within h10 (Within.sub hk (by simp))))
      h5)
  clear_value x6
  exact (Within.foldl _ (fun _ _ h11 => (writeRunctl_within h11 hk))
    h6)

theorem noteRestarted_within {K : Nat} {s0 s : State} {x : Carrier} (h : Within K s0 s) (hk : 2417851643732858513653760 ||| K = K) :
    Within K s0 (noteRestarted s x) := by
  unfold noteRestarted
  extract_lets -merge -useContext x1
  try clear_value x1
  exact (startTimer_within
    (setRate_within
      (putStep_within h (Within.sub hk (by simp))) (Within.sub hk (by simp))) (Within.sub hk (by simp)))

theorem stepRestart_within {K : Nat} {x : Carrier} {s0 s : State} (h : Within K s0 s) (hk : 5070602400894479305887526680560 ||| K = K) :
    Within K s0 (stepRestart x s) := by
  unfold stepRestart
  extract_lets -merge -useContext x1 x2
  try clear_value x1
  try clear_value x2
  exact (Within.ite h
    (Within.foldl _ (fun _ _ h3 => (noteRestarted_within h3 (Within.sub hk (by simp))))
      (restartCarriers_within
        (Within.foldl _ (fun _ _ h4 => (noteRestarted_within h4 (Within.sub hk (by simp))))
          h) hk)))

theorem noteFallback_within {K : Nat} {m : Nat} {s0 s : State} {x : Carrier} (h : Within K s0 s) (hk : 2417851639229258886283296 ||| K = K) :
    Within K s0 (noteFallback m s x) := by
  unfold noteFallback
  extract_lets -merge -useContext x1 x2 x3 x4
  try clear_value x1
  try clear_value x2
  try clear_value x3
  try clear_value x4
  exact (State.raise_within
    (State.bump_within
      (putStep_within h (Within.sub hk (by simp))) (Within.sub hk (by simp))) (Within.sub hk (by simp)) (Within.sub hk (by simp)))

theorem fallback_within {K : Nat} {x : Carrier} {s0 s : State} (h : Within K s0 s) (hk : 5070602400894479305887526680560 ||| K = K) :
    Within K s0 (fallback x s) := by
  unfold fallback
  extract_lets -merge -useContext x1 x2 x3 x4 x5
  try clear_value x1
  try clear_value x2
  try clear_value x4
  have h5 : Within K s0 x5 := by
    unfold x5
    exact (Within.foldl _ (fun _ _ h6 => (noteFallback_within h6 (Within.sub hk (by simp))))
      h)
  clear_value x5
  exact (Within.ite (Within.foldl _ (fun _ _ h7 => (noteRestarted_within h7 (Within.sub hk (by simp))))
      (restartCarriers_within
        (Within.foldl _ (fun _ _ h8 => (noteRestarted_within h8 (Within.sub hk (by simp))))
          h5) hk))
    h)

theorem codeWord_within {K : Nat} {x : Carrier} {s0 s : State} (h : Within K s0 s) (hk : 536870912 ||| K = K) :
    Within K s0 (codeWord x s) := by
  unfold codeWord
  extract_lets -merge -useContext x1 x2 x3
  try clear_value x1
  try clear_value x2
  try clear_value x3
  exact (Within.ite h
    (State.setQlt_within h hk))

theorem feedPilot_within {K : Nat} {s0 : State} {x : Carrier} {n : Nat}
    {s : State} (h : Within K s0 s) (hk : 5070602400894479305887526680560 ||| K = K) : Within K s0 (feedPilot x n s) := by
  induction n generalizing s with
  | zero => exact h
  | succ n ih =>
    unfold feedPilot
    exact Within.ite h (ih (writeReg_within (State.setQlt_within (codeWord_within h (Within.sub hk (by simp)))
      (Within.sub hk (by simp))) hk))

theorem groupSign_within {K : Nat} {x : Carrier} {s0 s : State} (h : Within K s0 s) (hk : 5070602400894479305887526680560 ||| K = K) :
    Within K s0 (groupSign x s) := by
  unfold groupSign
  exact (pilotGroupSign_within (feedPilot_within h hk) (Within.sub hk (by simp)))

theorem modulationChange_within {K : Nat} {x : Carrier} {s0 s : State} (h : Within K s0 s) (hk : 5070602400894479305887526680560 ||| K = K) :
    Within K s0 (modulationChange x s) := by
  unfold modulationChange
  extract_lets -merge -useContext x1 x2 x3
  try clear_value x1
  have h2 : Within K s0 x2 := by
    unfold x2
    exact (State.setQlt_within h (Within.sub hk (by simp)))
  clear_value x2
  try clear_value x3
  split
  · skip
    exact h
  · skip
    extract_lets -merge -useContext x4 x5 x6
    try clear_value x4
    try clear_value x5
    have h6 : Within K s0 x6 := by
      unfold x6
      exact (Within.ite h2
        (State.setQlt_within h2 (Within.sub hk (by simp))))
    clear_value x6
    exact (Within.ite h
      (writeReg_within h6 hk))

theorem pchRxClear_within {K : Nat} {x : Carrier} {s0 s : State} (h : Within K s0 s) (hk : 5070602400894479305887526680560 ||| K = K) :
    Within K s0 (pchRxClear x s) := by
  unfold pchRxClear
  extract_lets -merge -useContext x1
  try clear_value x1
  exact (Within.ite (writeField_within
      (State.setQlt_within h (Within.sub hk (by simp))) hk)
    h)

theorem pathMoved_within {K : Nat} {x : Carrier} {s0 s : State} (h : Within K s0 s) (hk : 5070602400894479305887526680560 ||| K = K) :
    Within K s0 (pathMoved x s) := by
  unfold pathMoved
  extract_lets -merge -useContext x1 x2
  try clear_value x1
  have h2 : Within K s0 x2 := by
    unfold x2
    exact (pathChange_within h (Within.sub hk (by simp)))
  clear_value x2
  exact (Within.ite (writeField_within h2 hk)
    h2)

end Sys2Proof.Machine
end

