-- ==== Sys2Proof/Laws/Capsules.lean ====
section
/-! SUPPORT. Laws/Capsules.lean: the parts of the state that each operation of Machine/Capsules.lean can change. -/
namespace Sys2Proof.Machine

set_option Elab.async false

open Sys2Proof

theorem writePair_within {K : Nat} {y0 : Nat} {v : Word} {s0 s : State} (h : Within K s0 s) (hk : 5070602400894479305887526680560 ||| K = K) :
    Within K s0 (writePair y0 v s) := by
  unfold writePair
  exact (Within.ite (writeReg_within h hk)
    (by
      split
      · skip
        exact (writeUnmapped_within h (Within.sub hk (by simp)))
      · skip
        exact (refuseWrite_within h (Within.sub hk (by simp)) (Within.all hk _))))

theorem writePairs_within {K : Nat} {s0 : State} {b : List Byte} {l : List Nat} {out : List Byte} {s : State} (h : Within K s0 s) (hk : 5070602400894479305887526680560 ||| K = K) : Within K s0 (writePairs b l out s).2 := by
  induction l generalizing s out with
  | nil => exact h
  | cons i l ih => exact ih (writePair_within h hk)

theorem runWritePo_within {K : Nat} {s0 s : State} (h : Within K s0 s) (hk : 5070602400894479305887526680562 ||| K = K) :
    Within K s0 (runWritePo s) := by
  unfold runWritePo
  split
  · skip
    extract_lets -merge -useContext x1
    have h1 : Within K s0 x1.2 := by
      unfold x1
      exact (writePairs_within h (Within.sub hk (by simp)))
    clear_value x1
    exact (Within.ite h
      (Within.ite (capsuleEnd_within h (Within.sub hk (by simp)))
        (Within.ite (capsuleEnd_within h (Within.sub hk (by simp)))
          (settle_within
            (capsuleEnd_within h1 (Within.sub hk (by simp))) hk))))
  · skip
    exact h

theorem formatArchive_within {K : Nat} {b : List Byte} {s0 s : State} (h : Within K s0 s) (hk : 5070602400894479305887526680560 ||| K = K) :
    Within K s0 (formatArchive b s).2 := by
  unfold formatArchive
  extract_lets -merge -useContext x1
  try clear_value x1
  split
  · skip
    exact (Within.snd h)
  · skip
    split
    · skip
      exact (Within.snd h)
    · skip
      split
      · skip
        exact (Within.snd h)
      · skip
        exact (Within.snd (writeReg_within h hk))

theorem loadImage_within {K : Nat} {n : Fin 8} {y1 : Option (List Byte)} {s0 s : State} (h : Within K s0 s) (hk : 316912650057057361370500038688 ||| K = K) :
    Within K s0 (loadImage n y1 s) := by
  unfold loadImage
  extract_lets -merge -useContext x1 x2 x3 x4
  have h1 : Within K s0 x1 := by
    unfold x1
    exact (State.set_within h (Within.sub hk (by simp)))
  clear_value x1
  try clear_value x2
  try clear_value x3
  try clear_value x4
  split
  · skip
    exact (loadVerify_within
      (putImage_within h1 (Within.sub hk (by simp))) hk)
  · skip
    split
    · skip
      exact (loadVerify_within
        (putImage_within h1 (Within.sub hk (by simp))) hk)
    · skip
      exact (loadVerify_within
        (loadCopy_within
          (putImage_within h1 (Within.sub hk (by simp))) (Within.sub hk (by simp))) hk)

theorem coreUp_within {K : Nat} {n : Fin 8} {s0 s : State} (h : Within K s0 s) (hk : 5070602400894476491603510096160 ||| K = K) :
    Within K s0 (coreUp n s) := by
  unfold coreUp
  exact (pageStarted_within h hk (Within.sub hk (by simp)))

theorem recoveryReset_within {K : Nat} {s0 s : State} (h : Within K s0 s) (hk : 5070602400894479305887526680560 ||| K = K) :
    Within K s0 (recoveryReset s) := by
  unfold recoveryReset
  extract_lets -merge -useContext x1 x2 x3 x4 x5 x6 x7 x8 x9
  try clear_value x1
  have h2 : Within K s0 x2 := by
    unfold x2
    exact (pageStopped_within (writeRunctl_within h hk) (Within.sub hk (by simp)))
  clear_value x2
  try clear_value x3
  try clear_value x4
  have h5 : Within K s0 x5 := by
    unfold x5
    exact (Within.ite h2
      (loadVerify_within (writeReg_within h2 hk) (Within.sub hk (by simp))))
  clear_value x5
  have h6 : Within K s0 x6 := by
    unfold x6
    exact (coreUp_within (writeRunctl_within h5 hk) (Within.sub hk (by simp)))
  clear_value x6
  have h7 : Within K s0 x7 := by
    unfold x7
    exact (State.bump_within
      (State.set_within h6 (Within.sub hk (by simp))) (Within.sub hk (by simp)))
  clear_value x7
  have h8 : Within K s0 x8 := by
    unfold x8
    exact (secLog_within h7 (Within.sub hk (by simp)))
  clear_value x8
  try clear_value x9
  exact (Within.ite h
    (startTimer_within
      (State.setPlinth_within h8 (Within.sub hk (by simp))) (Within.sub hk (by simp))))

theorem deviceReload_within {K : Nat} {n : Fin 8} {slot : Nat} {s0 s : State} (h : Within K s0 s) (hk : 5070602400894478759904774451632 ||| K = K) :
    Within K s0 (deviceReload n slot s).1 := by
  unfold deviceReload
  extract_lets -merge -useContext x1 x2 x3 x4 x5 x6 x7 x8
  have h1 : Within K s0 x1 := by
    unfold x1
    exact (hardwareStop_within h (Within.sub hk (by simp)) (Within.sub hk (by simp)))
  clear_value x1
  try clear_value x2
  have h3 : Within K s0 x3 := by
    unfold x3
    exact (journalAccepted_within
      (State.addWrap_within h1 (Within.sub hk (by simp))) (Within.sub hk (by simp)))
  clear_value x3
  try clear_value x4
  have h5 : Within K s0 x5 := by
    unfold x5
    exact (loadImage_within h3 (Within.sub hk (by simp)))
  clear_value x5
  try clear_value x6
  have h7 : Within K s0 x7 := by
    unfold x7
    exact (Within.ite (loadImage_within h5 (Within.sub hk (by simp)))
      h5)
  clear_value x7
  try clear_value x8
  split
  · skip
    exact (Within.fst (countUnlogged_within h (Within.sub hk (by simp))))
  · skip
    exact (Within.fst (Within.ite (coreUp_within
        (hardwareRun_within h7 (Within.sub hk (by simp)) (Within.sub hk (by simp))) (Within.sub hk (by simp)))
      h7))

end Sys2Proof.Machine
end

