-- ==== Sys2Proof/Laws/Start.lean ====
section
/-! SUPPORT. Laws/Start.lean: the parts of the state that each operation of Machine/Start.lean can change. -/
namespace Sys2Proof.Machine

set_option Elab.async false

open Sys2Proof

theorem keepWords_within {K : Nat} {s : State} {ws : List (Page × Nat × Word)} {s0 y2 : State} (h : Within K s0 y2) (hk : 5070602400894470861913103269888 ||| K = K) :
    Within K s0 (keepWords s ws y2) := by
  unfold keepWords
  exact (Within.foldl _ (fun _ _ h1 => (Within.setWord h1 _ _ _ (Within.all hk _)))
    h)

theorem deviceReset_within {K : Nat} {cause : Nat} {aon : Bool} {s0 s : State} (h : Within K s0 s)
    (hk : 5070602400894488876311612751870 ||| K = K) : Within K s0 (deviceReset cause aon s) := by
  refine Within.everything hk fun hw => ?_
  unfold deviceReset
  exact (keepWords_within (K := 5070602400894470861913103269888) (Within.refl _ _) (by simp)).wf (by
    simp [State.wf, State.regsWf, Memories.wf, byteMapWf, sparseWf, sparseSorted, State.reset, Vector.all_replicate])

theorem pwrgdLow_within {K : Nat} {s0 s : State} (h : Within K s0 s) (hk : 5070602400894488876311612751870 ||| K = K) :
    Within K s0 (pwrgdLow s) := by
  unfold pwrgdLow
  exact (deviceReset_within h hk)

theorem vddAonLoss_within {K : Nat} {s0 s : State} (h : Within K s0 s) (hk : 5070602400894488876311612751870 ||| K = K) :
    Within K s0 (vddAonLoss s) := by
  unfold vddAonLoss
  exact (deviceReset_within h hk)

theorem startTamper_within {K : Nat} {s0 s : State} (h : Within K s0 s) (hk : 2555110677826130048130601754656 ||| K = K) :
    Within K s0 (startTamper s) := by
  unfold startTamper
  exact (Within.ite h
    (setHoldBoth_within
      (zeroise_within
        (State.set_within h (Within.sub hk (by simp))) (Within.sub hk (by simp))) (Within.sub hk (by simp))))

theorem startArea_within {K : Nat} {first : Bool} {s0 s : State} {a : Nat} (h : Within K s0 s) (hk : 1208925819614629174706208 ||| K = K) :
    Within K s0 (startArea first s a) := by
  unfold startArea
  extract_lets -merge -useContext x1 x2
  try clear_value x1
  have h2 : Within K s0 x2 := by
    unfold x2
    exact (keepShow_within h (Within.sub hk (by simp)))
  clear_value x2
  exact (Within.ite h2
    (Within.ite (State.raise_within
        (State.bump_within h2 (Within.sub hk (by simp))) (Within.sub hk (by simp)) (Within.sub hk (by simp)))
      (Within.ite (State.raise_within
          (State.bump_within h2 (Within.sub hk (by simp))) (Within.sub hk (by simp)) (Within.sub hk (by simp)))
        h2)))

theorem startRemaps_within {K : Nat} {s0 s : State} (h : Within K s0 s) (hk : 906694364712071392657408 ||| K = K) :
    Within K s0 (startRemaps s) := by
  unfold startRemaps
  extract_lets -merge -useContext x1 x2 x3
  split
  · skip
    exact h
  · skip
    extract_lets -merge -useContext x4 x5 x6 x7 x8
    try clear_value x4
    try clear_value x5
    try clear_value x6
    have h7 : Within K s0 x7 := by
      unfold x7
      exact (State.setMem_within h (fun w => (Memories.wf_of (Memories.wf_lpddr w) (Memories.wf_granules w) (Memories.wf_poisoned w))) (Within.sub hk (by simp)))
    clear_value x7
    have h8 : Within K s0 x8 := by
      unfold x8
      exact (State.set_within h7 (Within.sub hk (by simp)))
    clear_value x8
    exact (State.set_within h8 (Within.sub hk (by simp)))

theorem startCheckers_within {K : Nat} {failed : List Nat} {s0 s : State} (h : Within K s0 s) (hk : 604462909808415172722720 ||| K = K) :
    Within K s0 (startCheckers failed s) := by
  unfold startCheckers
  extract_lets -merge -useContext x1 x2
  have h1 : Within K s0 x1 := by
    unfold x1
    exact (checkerTest_within h (Within.sub hk (by simp)))
  clear_value x1
  try clear_value x2
  exact (Within.ite h
    (State.setPlinth_within h1 (Within.sub hk (by simp))))

theorem startPlinth_within {K : Nat} {udsOk : Bool} {s0 s : State} (h : Within K s0 s) (hk : 2555108259974490818871715471392 ||| K = K) :
    Within K s0 (startPlinth udsOk s) := by
  unfold startPlinth
  extract_lets -merge -useContext x1 x2 x3 x4 x5
  have h1 : Within K s0 x1 := by
    unfold x1
    exact (State.set_within
      (State.setFlag_within h (Within.sub hk (by simp))) (Within.sub hk (by simp)))
  clear_value x1
  have h2 : Within K s0 x2 := by
    unfold x2
    exact (Within.setWord h1 _ _ _ (Within.sub hk (by simp)))
  clear_value x2
  have h3 : Within K s0 x3 := by
    unfold x3
    exact (Within.setWord h2 _ _ _ (Within.sub hk (by simp)))
  clear_value x3
  have h4 : Within K s0 x4 := by
    unfold x4
    exact (commandHolds_within
      (Within.setWord h3 _ _ _ (Within.sub hk (by simp))) hk)
  clear_value x4
  have h5 : Within K s0 x5 := by
    unfold x5
    exact (State.setPair_within h4 (Within.sub hk (by simp)))
  clear_value x5
  exact (officerShow_within
    (State.setFlag_within h5 (Within.sub hk (by simp))) (Within.sub hk (by simp)))

theorem startVoltage_within {K : Nat} {s0 s : State} (h : Within K s0 s) (hk : 1267650600375803354155099095040 ||| K = K) :
    Within K s0 (startVoltage s) := by
  unfold startVoltage
  extract_lets -merge -useContext x1 x2
  try clear_value x1
  have h2 : Within K s0 x2 := by
    unfold x2
    exact (State.set_within
      (State.set_within h (Within.sub hk (by simp))) (Within.sub hk (by simp)))
  clear_value x2
  exact (governorFollow_within
    (Within.upd_vddRequested h2 (Within.sub hk (by simp)) _) (Within.sub hk (by simp)))

theorem startCalibration_within {K : Nat} {s0 s : State} (h : Within K s0 s) (hk : 590295810359779655712 ||| K = K) :
    Within K s0 (startCalibration s) := by
  unfold startCalibration
  split
  · skip
    exact (State.raise_within h (Within.sub hk (by simp)) (Within.sub hk (by simp)))
  · skip
    extract_lets -merge -useContext x1 x2 x3 x4
    try clear_value x1
    have h2 : Within K s0 x2 := by
      unfold x2
      exact (calApply_within h (Within.sub hk (by simp)))
    clear_value x2
    try clear_value x3
    have h4 : Within K s0 x4 := by
      unfold x4
      exact (State.setPlinth_within h2 (Within.sub hk (by simp)))
    clear_value x4
    exact (State.set_within h4 (Within.sub hk (by simp)))

theorem startMedia_within {K : Nat} {x : MediaReport} {s0 s : State} (h : Within K s0 s) (hk : 151115727451867301543984 ||| K = K) :
    Within K s0 (startMedia x s) := by
  unfold startMedia
  extract_lets -merge -useContext x1 x2 x3 x4 x5 x6 x7 x8 x9 x10 x11
  try clear_value x1
  try clear_value x2
  try clear_value x3
  have h4 : Within K s0 x4 := by
    unfold x4
    exact (Within.ite h
      (Within.upd_journal_archive_cast h (Within.sub hk (by simp)) (Within.sub hk (by simp)) (Within.sub hk (by simp)) _ _ _))
  clear_value x4
  try clear_value x5
  have h6 : Within K s0 x6 := by
    unfold x6
    exact (State.setArchive_within h4 (Within.sub hk (by simp)))
  clear_value x6
  have h7 : Within K s0 x7 := by
    unfold x7
    exact (State.set_within
      (State.set_within h6 (Within.sub hk (by simp))) (Within.sub hk (by simp)))
  clear_value x7
  have h8 : Within K s0 x8 := by
    unfold x8
    exact (State.set_within h7 (Within.sub hk (by simp)))
  clear_value x8
  have h9 : Within K s0 x9 := by
    unfold x9
    exact (State.set_within h8 (Within.sub hk (by simp)))
  clear_value x9
  have h10 : Within K s0 x10 := by
    unfold x10
    exact (setMedia_within h9 (Within.sub hk (by simp)))
  clear_value x10
  have h11 : Within K s0 x11 := by
    unfold x11
    exact (arcShow_within
      (setMedia_within h9 (Within.sub hk (by simp))) (Within.sub hk (by simp)))
  clear_value x11
  exact (Within.ite (setMedia_within h9 (Within.sub hk (by simp)))
    (Within.ite (Within.ite (formatStart_within h10 (Within.sub hk (by simp)))
        h10)
      (State.set_within h11 (Within.sub hk (by simp)))))

theorem bootCommit_within {K : Nat} {i : Nat} {v : Nat} {s0 s : State} (h : Within K s0 s) (hk : 1208925819614631322189824 ||| K = K) :
    Within K s0 (bootCommit i v s) := by
  unfold bootCommit
  exact (keepCommit_within h hk)

theorem loadSlotImages_within {K : Nat} {s0 : State} {images : List (Option (List Byte))}
    {l : List (Fin 8 × Nat)} {s : State} (h : Within K s0 s) (hk : 316912650057057361370500038688 ||| K = K) :
    Within K s0 (loadSlotImages images l s).1 := by
  induction l generalizing s with
  | nil => exact h
  | cons x l ih =>
    unfold loadSlotImages
    have h1 := loadImage_within (n := x.1) (y1 := images.getD x.2 none) h hk
    dsimp only
    generalize loadImage _ _ _ = y at h1
    split
    · exact ih h1
    · exact h1

theorem loadFirmware_within {K : Nat} {i : Nat} {s0 s : State} (h : Within K s0 s) (hk : 316912650057057361370500038688 ||| K = K) :
    Within K s0 (loadFirmware i s).1 := by
  unfold loadFirmware
  extract_lets -merge -useContext x1 x2 x3 x4
  try clear_value x1
  have h3 : Within K s0 x3.1 := by
    unfold x3
    exact (loadSlotImages_within h hk)
  clear_value x3
  try clear_value x4
  split
  · skip
    exact (Within.fst (State.setPlinth_within h3 (Within.sub hk (by simp))))
  · skip
    exact h3

theorem noImages_within {K : Nat} {s0 s : State} (h : Within K s0 s) (hk : 316912650057057350374175801344 ||| K = K) :
    Within K s0 (noImages s) := by
  unfold noImages
  exact (Within.foldl _ (fun _ _ h1 => (State.clearAll_within h1 (Within.sub hk (by simp))))
    h)

theorem startFirmware_within {K : Nat} {s0 s : State} (h : Within K s0 s) (hk : 316913858982877538951775649824 ||| K = K) :
    Within K s0 (startFirmware s) := by
  unfold startFirmware
  extract_lets -merge -useContext x1
  try clear_value x1
  split
  · skip
    exact (noImages_within h (Within.sub hk (by simp)))
  · skip
    extract_lets -merge -useContext x2 x3 x4 x5 x6
    have h2 : Within K s0 x2 := by
      unfold x2
      exact (Within.upd_firmware h (Within.sub hk (by simp)) _)
    clear_value x2
    have h3 : Within K s0 x3 := by
      unfold x3
      exact (Within.ite (bootCommit_within h2 (Within.sub hk (by simp)))
        h2)
    clear_value x3
    have h4 : Within K s0 x4.1 := by
      unfold x4
      exact (loadFirmware_within h3 (Within.sub hk (by simp)))
    clear_value x4
    have h5 : Within K s0 x5 := by
      unfold x5
      exact (bootCommit_within h4 (Within.sub hk (by simp)))
    clear_value x5
    have h6 : Within K s0 x6.1 := by
      unfold x6
      exact (loadFirmware_within h5 (Within.sub hk (by simp)))
    clear_value x6
    exact (Within.ite h4
      (Within.ite (noImages_within h5 (Within.sub hk (by simp)))
        (Within.ite h6
          (noImages_within
            (bootCommit_within h6 (Within.sub hk (by simp))) (Within.sub hk (by simp))))))

theorem startRk0_within {K : Nat} {s0 s : State} (h : Within K s0 s) (hk : 5070602400894478747801388839328 ||| K = K) :
    Within K s0 (startRk0 s) := by
  unfold startRk0
  exact (Within.ite h
    (coreUp_within
      (enterStarting_within h (Within.sub hk (by simp)) (Within.sub hk (by simp))) (Within.sub hk (by simp))))

theorem startJournal_within {K : Nat} {first : Bool} {orderly : Bool} {cause : Nat} {s0 s : State} (h : Within K s0 s) (hk : 302305241881051643510832 ||| K = K) :
    Within K s0 (startJournal first orderly cause s) := by
  unfold startJournal
  extract_lets -merge -useContext x1 x2 x3 x4
  have f1 : ∀ a0 a1 t, Within K s0 t → Within K s0 (x1 a0 a1 t) := by
    unfold x1
    exact fun _ _ _ h1 => (State.setPair_within
      (Within.upd_journal h1 (Within.sub hk (by simp)) _) (Within.sub hk (by simp)))
  clear_value x1
  try clear_value x2
  have h3 : Within K s0 x3 := by
    unfold x3
    exact (Within.ite (appendMarker_within (f1 _ _ _ h) hk)
      (by
        split
        · skip
          extract_lets -merge -useContext x5 x6 x7 x8 x9
          try clear_value x5
          have h6 : Within K s0 x6 := by
            unfold x6
            exact (f1 _ _ _ h)
          clear_value x6
          have h7 : Within K s0 x7 := by
            unfold x7
            exact (State.setPair_within h6 (Within.sub hk (by simp)))
          clear_value x7
          try clear_value x8
          have h9 : Within K s0 x9 := by
            unfold x9
            exact (Within.upd_journal h7 (Within.sub hk (by simp)) _)
          clear_value x9
          exact (appendMarker_within h9 hk)
        · skip
          exact (appendMarker_within
            (appendMarker_within (f1 _ _ _ h) hk) hk)))
  clear_value x3
  try clear_value x4
  exact (appendMarker_within
    (State.raiseIf_within h3 (Within.sub hk (by simp)) (Within.sub hk (by simp))) hk)

theorem startCast_within {K : Nat} {first : Bool} {s0 s : State} (h : Within K s0 s) (hk : 75557863725948683157536 ||| K = K) :
    Within K s0 (startCast first s) := by
  unfold startCast
  extract_lets -merge -useContext x1 x2
  try clear_value x1
  have h2 : Within K s0 x2 := by
    unfold x2
    exact (castLost_within
      (setCastHead_within h (Within.sub hk (by simp))) hk)
  clear_value x2
  exact (State.set_within h2 (Within.sub hk (by simp)))

theorem leaveOff_within {K : Nat} {s0 s : State} (h : Within K s0 s) (hk : 536870912 ||| K = K) :
    Within K s0 (leaveOff s) := by
  unfold leaveOff
  exact (Within.ite h
    (exitCall_within h hk))

theorem deviceStart_within {K : Nat} {x : StartReport} {s0 s : State} (h : Within K s0 s) (hk : 5070602400894488876311612751870 ||| K = K) :
    Within K s0 (deviceStart x s) := by
  unfold deviceStart
  extract_lets -merge -useContext x1 x2 x3 x4 x5 x6 x7 x8 x9 x10 x11 x12 x13 x14 x15 x16 x17 x18 x19 x20 x21
  have h1 : Within K s0 x1 := by
    unfold x1
    exact (Within.ite (deviceReset_within h hk)
      h)
  clear_value x1
  try clear_value x2
  try clear_value x3
  have h4 : Within K s0 x4 := by
    unfold x4
    exact (State.setPwr_within h1 (Within.sub hk (by simp)))
  clear_value x4
  try clear_value x5
  have h6 : Within K s0 x6 := by
    unfold x6
    exact (State.setQlt_within h4 (Within.sub hk (by simp)))
  clear_value x6
  have h7 : Within K s0 x7 := by
    unfold x7
    exact (startTamper_within
      (State.setFlag_within h6 (Within.sub hk (by simp))) (Within.sub hk (by simp)))
  clear_value x7
  try clear_value x8
  try clear_value x9
  have h10 : Within K s0 x10 := by
    unfold x10
    exact (Within.upd_keep h7 (Within.sub hk (by simp)) _)
  clear_value x10
  have h11 : Within K s0 x11 := by
    unfold x11
    exact (Within.foldl _ (fun _ _ h22 => (startArea_within h22 (Within.sub hk (by simp))))
      h10)
  clear_value x11
  have h12 : Within K s0 x12 := by
    unfold x12
    exact (startCheckers_within
      (startRemaps_within h11 (Within.sub hk (by simp))) (Within.sub hk (by simp)))
  clear_value x12
  try clear_value x13
  have h14 : Within K s0 x14.1 := by
    unfold x14
    exact (bistRead_within h12 (Within.sub hk (by simp)))
  clear_value x14
  have h15 : Within K s0 x15 := by
    unfold x15
    exact (Within.ite (startupTest_within h14 (Within.sub hk (by simp)))
      h14)
  clear_value x15
  have h16 : Within K s0 x16 := by
    unfold x16
    exact (startCalibration_within
      (State.set_within
        (startVoltage_within
          (startPlinth_within h15 (Within.sub hk (by simp))) (Within.sub hk (by simp))) (Within.sub hk (by simp))) (Within.sub hk (by simp)))
  clear_value x16
  have h17 : Within K s0 x17 := by
    unfold x17
    exact (startFirmware_within
      (startMedia_within h16 (Within.sub hk (by simp))) (Within.sub hk (by simp)))
  clear_value x17
  have h18 : Within K s0 x18 := by
    unfold x18
    exact (startCast_within
      (startJournal_within h17 (Within.sub hk (by simp))) (Within.sub hk (by simp)))
  clear_value x18
  have h19 : Within K s0 x19 := by
    unfold x19
    exact (startRk0_within
      (State.set_within h18 (Within.sub hk (by simp))) (Within.sub hk (by simp)))
  clear_value x19
  have h20 : Within K s0 x20 := by
    unfold x20
    exact (bootCommit_within h19 (Within.sub hk (by simp)))
  clear_value x20
  have h21 : Within K s0 x21 := by
    unfold x21
    exact (Within.ite (leaveOff_within h20 (Within.sub hk (by simp)))
      h20)
  clear_value x21
  exact (Within.ite h
    (Within.ite h21
      (startTimer_within
        (Within.upd_hostReady h21 (Within.sub hk (by simp)) _) (Within.sub hk (by simp)))))

theorem trialSuccess_within {K : Nat} {s0 s : State} (h : Within K s0 s) (hk : 1208925820177581275611136 ||| K = K) :
    Within K s0 (trialSuccess s) := by
  unfold trialSuccess
  extract_lets -merge -useContext x1 x2 x3
  try clear_value x1
  have h2 : Within K s0 x2 := by
    unfold x2
    exact (keepCommit_within h (Within.sub hk (by simp)))
  clear_value x2
  try clear_value x3
  exact (Within.ite h
    (Within.upd_firmware h2 (Within.sub hk (by simp)) _))

theorem trialFail_within {K : Nat} {s0 s : State} (h : Within K s0 s) (hk : 5070602400894488876311612751870 ||| K = K) :
    Within K s0 (trialFail s) := by
  unfold trialFail
  exact (Within.ite (deviceReset_within h hk)
    h)

theorem rk0Escalation_within {K : Nat} {s0 s : State} (h : Within K s0 s) (hk : 5070602400894488876311612751870 ||| K = K) :
    Within K s0 (rk0Escalation s) := by
  unfold rk0Escalation
  extract_lets -merge -useContext x1 x2
  have h1 : Within K s0 x1 := by
    unfold x1
    exact (setHoldBoth_within h (Within.sub hk (by simp)))
  clear_value x1
  have h2 : Within K s0 x2 := by
    unfold x2
    exact (plinthBlank_within
      (plinthBlank_within h1 (Within.sub hk (by simp))) (Within.sub hk (by simp)))
  clear_value x2
  exact (Within.ite h
    (deviceReset_within
      (secLog_within h2 (Within.sub hk (by simp))) hk))

end Sys2Proof.Machine
end

