-- ==== Sys2Proof/Laws/Firmware.lean ====
section
/-! SUPPORT. Laws/Firmware.lean: the parts of the state that each operation of Machine/Firmware.lean can change. -/
namespace Sys2Proof.Machine

set_option Elab.async false

open Sys2Proof

theorem State.setMbox_within {K : Nat} {s0 s : State} {x : HostMailbox} (h : Within K s0 s) (hk : 549755813888 ||| K = K) :
    Within K s0 (State.setMbox s x) := by
  unfold State.setMbox
  exact (Within.upd_mbox h hk _)

theorem mboxAnswer_within {K : Nat} {ret : MboxReturn} {values : List Nat} {bytes : List Byte} {s0 s : State} (h : Within K s0 s) (hk : 549755813888 ||| K = K) :
    Within K s0 (mboxAnswer ret values bytes s) := by
  unfold mboxAnswer
  extract_lets -merge -useContext x1
  try clear_value x1
  exact (State.setMbox_within h hk)

theorem mboxCommand_within {K : Nat} {opcode : Nat} {act : State → State} {s0 s : State} (h : Within K s0 s) (hf1 : ∀  t, Within K s0 t → Within K s0 (act  t)) (hk : 549755813888 ||| K = K) :
    Within K s0 (mboxCommand opcode act s) := by
  unfold mboxCommand
  exact (Within.ite h
    (Within.ite (mboxAnswer_within h hk)
      (hf1  _ h)))

theorem mboxBackground_within {K : Nat} {opcode : Nat} {act : State → State} {s0 s : State} (h : Within K s0 s) (hf1 : ∀  t, Within K s0 t → Within K s0 (act  t)) (hk : 549755813888 ||| K = K) :
    Within K s0 (mboxBackground opcode act s) := by
  unfold mboxBackground
  exact (mboxCommand_within h (fun _ h1 => (Within.ite (mboxAnswer_within h1 hk)
      (hf1  _ h1))) hk)

theorem mboxStarted_within {K : Nat} {opcode : Nat} {s0 s : State} (h : Within K s0 s) (hk : 549755813888 ||| K = K) :
    Within K s0 (mboxStarted opcode s) := by
  unfold mboxStarted
  extract_lets -merge -useContext x1
  try clear_value x1
  exact (mboxAnswer_within (State.setMbox_within h hk) hk)

theorem mboxDone_within {K : Nat} {ret : MboxReturn} {s0 s : State} (h : Within K s0 s) (hk : 158456325028528675736843714592 ||| K = K) :
    Within K s0 (mboxDone ret s) := by
  unfold mboxDone
  extract_lets -merge -useContext x1
  try clear_value x1
  exact (State.raise_within
    (mboxAnswer_within
      (State.setMbox_within h (Within.sub hk (by simp))) (Within.sub hk (by simp))) (Within.sub hk (by simp)) (Within.sub hk (by simp)))

theorem unsupportedOpcode_within {K : Nat} {s0 s : State} (h : Within K s0 s) (hk : 549755813888 ||| K = K) :
    Within K s0 (unsupportedOpcode s) := by
  unfold unsupportedOpcode
  exact (mboxCommand_within h (fun _ h1 => (mboxAnswer_within h1 hk)) hk)

theorem getEventRecords_within {K : Nat} {log : Fin 4} {s0 s : State} (h : Within K s0 s) (hk : 549755813888 ||| K = K) :
    Within K s0 (getEventRecords log s) := by
  unfold getEventRecords
  exact (mboxCommand_within h (fun _ h1 => (by
      extract_lets -merge -useContext x2
      try clear_value x2
      exact (mboxAnswer_within h1 hk))) hk)

theorem clearEventRecords_within {K : Nat} {log : Fin 4} {all : Bool} {handles : List Nat} {s0 s : State} (h : Within K s0 s) (hk : 549755813888 ||| K = K) :
    Within K s0 (clearEventRecords log all handles s) := by
  unfold clearEventRecords
  exact (mboxCommand_within h (fun _ h1 => (by
      extract_lets -merge -useContext x2 x3 x4
      try clear_value x2
      try clear_value x3
      try clear_value x4
      exact (Within.ite (mboxAnswer_within h1 hk)
        (mboxAnswer_within (State.setMbox_within h1 hk) hk)))) hk)

theorem getEventPolicy_within {K : Nat} {s0 s : State} (h : Within K s0 s) (hk : 549755813888 ||| K = K) :
    Within K s0 (getEventPolicy s) := by
  unfold getEventPolicy
  exact (mboxCommand_within h (fun _ h1 => (mboxAnswer_within h1 hk)) hk)

theorem setEventPolicy_within {K : Nat} {settings : Fin 4 → Nat} {s0 s : State} (h : Within K s0 s) (hk : 549755813888 ||| K = K) :
    Within K s0 (setEventPolicy settings s) := by
  unfold setEventPolicy
  exact (mboxCommand_within h (fun _ h1 => (mboxAnswer_within (State.setMbox_within h1 hk) hk)) hk)

theorem getTimestamp_within {K : Nat} {s0 s : State} (h : Within K s0 s) (hk : 549755813888 ||| K = K) :
    Within K s0 (getTimestamp s) := by
  unfold getTimestamp
  exact (mboxCommand_within h (fun _ h1 => (mboxAnswer_within h1 hk)) hk)

theorem setTimestamp_within {K : Nat} {ns : BitVec 64} {s0 s : State} (h : Within K s0 s) (hk : 5070602400894479305887526680560 ||| K = K) :
    Within K s0 (setTimestamp ns s) := by
  unfold setTimestamp
  exact (mboxCommand_within h (fun _ h1 => (by
      extract_lets -merge -useContext x2 x3 x4 x5 x6
      try clear_value x2
      try clear_value x3
      have h4 : Within K s0 x4 := by
        unfold x4
        exact (writeReg_within h1 hk)
      clear_value x4
      have h5 : Within K s0 x5 := by
        unfold x5
        exact (writeReg_within h4 hk)
      clear_value x5
      have h6 : Within K s0 x6 := by
        unfold x6
        exact (writeReg_within h5 hk)
      clear_value x6
      exact (mboxAnswer_within h6 (Within.sub hk (by simp))))) (Within.sub hk (by simp)))

theorem getSupportedLogs_within {K : Nat} {s0 s : State} (h : Within K s0 s) (hk : 549755813888 ||| K = K) :
    Within K s0 (getSupportedLogs s) := by
  unfold getSupportedLogs
  exact (mboxCommand_within h (fun _ h1 => (mboxAnswer_within h1 hk)) hk)

theorem getLog_within {K : Nat} {effects : Bool} {s0 s : State} (h : Within K s0 s) (hk : 549755813888 ||| K = K) :
    Within K s0 (getLog effects s) := by
  unfold getLog
  exact (mboxCommand_within h (fun _ h1 => (Within.ite (mboxAnswer_within h1 hk)
      (mboxAnswer_within h1 hk))) hk)

theorem identifyMemory_within {K : Nat} {s0 s : State} (h : Within K s0 s) (hk : 549755813888 ||| K = K) :
    Within K s0 (identifyMemory s) := by
  unfold identifyMemory
  exact (mboxCommand_within h (fun _ h1 => (mboxAnswer_within h1 hk)) hk)

theorem getHealth_within {K : Nat} {s0 s : State} (h : Within K s0 s) (hk : 549755813888 ||| K = K) :
    Within K s0 (getHealth s) := by
  unfold getHealth
  exact (mboxCommand_within h (fun _ h1 => (mboxAnswer_within h1 hk)) hk)

theorem getFwInfo_within {K : Nat} {s0 s : State} (h : Within K s0 s) (hk : 549755813888 ||| K = K) :
    Within K s0 (getFwInfo s) := by
  unfold getFwInfo
  exact (mboxCommand_within h (fun _ h1 => (by
      extract_lets -merge -useContext x2 x3
      try clear_value x2
      try clear_value x3
      exact (mboxAnswer_within h1 hk))) hk)

theorem transferFw_within {K : Nat} {slot : Fin 2} {offset : Nat} {data : List Byte} {last : Bool} {s0 s : State} (h : Within K s0 s) (hk : 1208925820178135326392320 ||| K = K) :
    Within K s0 (transferFw slot offset data last s) := by
  unfold transferFw
  exact (mboxBackground_within h (fun _ h1 => (by
      extract_lets -merge -useContext x2 x3 x4 x5 x6 x7 x8
      try clear_value x2
      try clear_value x3
      try clear_value x4
      try clear_value x5
      have h6 : Within K s0 x6 := by
        unfold x6
        exact (State.setArchive_within h1 (Within.sub hk (by simp)))
      clear_value x6
      try clear_value x7
      have h8 : Within K s0 x8 := by
        unfold x8
        exact (Within.upd_firmware h6 (Within.sub hk (by simp)) _)
      clear_value x8
      exact (Within.ite (mboxAnswer_within h1 (Within.sub hk (by simp)))
        (mboxStarted_within
          (bootCommit_within h8 (Within.sub hk (by simp))) (Within.sub hk (by simp)))))) (Within.sub hk (by simp)))

theorem activateFw_within {K : Nat} {slot : Fin 2} {online : Bool} {s0 s : State} (h : Within K s0 s) (hk : 2535302409382283484725138948096 ||| K = K) :
    Within K s0 (activateFw slot online s) := by
  unfold activateFw
  exact (mboxBackground_within h (fun _ h1 => (Within.ite (mboxAnswer_within
        (secLog_within h1 (Within.sub hk (by simp))) (Within.sub hk (by simp)))
      (Within.ite (Within.ite (mboxAnswer_within h1 (Within.sub hk (by simp)))
          (mboxStarted_within
            (startTimer_within
              (Within.upd_firmware h1 (Within.sub hk (by simp)) _) (Within.sub hk (by simp))) (Within.sub hk (by simp))))
        (by
          extract_lets -merge -useContext x2
          try clear_value x2
          exact (mboxStarted_within
            (keepCommit_within h1 (Within.sub hk (by simp))) (Within.sub hk (by simp))))))) (Within.sub hk (by simp)))

theorem onlineOver_within {K : Nat} {s0 s : State} (h : Within K s0 s) (hk : 19809458627785529134973747360 ||| K = K) :
    Within K s0 (onlineOver s) := by
  unfold onlineOver
  extract_lets -merge -useContext x1 x2
  try clear_value x1
  have h2 : Within K s0 x2 := by
    unfold x2
    exact (Within.upd_firmware h (Within.sub hk (by simp)) _)
  clear_value x2
  exact (takePending_within
    (ratchetRetry_within
      (ratchetRetry_within h2 (Within.sub hk (by simp))) (Within.sub hk (by simp))) (Within.sub hk (by simp)))

theorem onlineReload_within {K : Nat} {s0 s : State} (h : Within K s0 s) (hk : 5070602400894479393841947341232 ||| K = K) :
    Within K s0 (onlineReload s) := by
  unfold onlineReload
  split
  · skip
    extract_lets -merge -useContext x1 x2 x3 x4
    try clear_value x1
    have h2 : Within K s0 x2.1 := by
      unfold x2
      exact (deviceReload_within h (Within.sub hk (by simp)))
    clear_value x2
    have h3 : Within K s0 x3 := by
      unfold x3
      exact h2
    clear_value x3
    try clear_value x4
    exact (Within.ite h
      (Within.ite (Within.upd_firmware h3 (Within.sub hk (by simp)) _)
        (onlineOver_within
          (mboxDone_within
            (deviceReload_within h2 (Within.sub hk (by simp))) (Within.sub hk (by simp))) (Within.sub hk (by simp)))))
  · skip
    exact h

theorem onlineBusy_within {K : Nat} {s0 s : State} (h : Within K s0 s) (hk : 178265783656314204871817461920 ||| K = K) :
    Within K s0 (onlineBusy s) := by
  unfold onlineBusy
  split
  · skip
    exact (Within.ite (onlineOver_within
        (mboxDone_within h (Within.sub hk (by simp))) (Within.sub hk (by simp)))
      h)
  · skip
    exact h

theorem onlineCommit_within {K : Nat} {s0 s : State} (h : Within K s0 s) (hk : 1208925820177581275611136 ||| K = K) :
    Within K s0 (onlineCommit s) := by
  unfold onlineCommit
  extract_lets -merge -useContext x1
  try clear_value x1
  split
  · skip
    exact (Within.ite h
      (bootCommit_within
        (Within.upd_firmware h (Within.sub hk (by simp)) _) (Within.sub hk (by simp))))
  · skip
    exact h

theorem submitCapsuleCmd_within {K : Nat} {b : List Byte} {s0 s : State} (h : Within K s0 s) (hk : 550829555712 ||| K = K) :
    Within K s0 (submitCapsuleCmd b s) := by
  unfold submitCapsuleCmd
  exact (mboxBackground_within h (fun _ h1 => (Within.ite (mboxAnswer_within h1 (Within.sub hk (by simp)))
      (Within.ite (mboxAnswer_within h1 (Within.sub hk (by simp)))
        (mboxStarted_within
          (State.setPlinth_within h1 (Within.sub hk (by simp))) (Within.sub hk (by simp)))))) (Within.sub hk (by simp)))

theorem vendorRequest_within {K : Nat} {opcode : Nat} {input : List Byte} {act : List Byte → State → Nat × List Byte × State} {s0 s : State} (h : Within K s0 s) (hf2 : ∀ a0 t, Within K s0 t → Within K s0 (act a0 t).2.2) (hk : 549755813888 ||| K = K) :
    Within K s0 (vendorRequest opcode input act s) := by
  unfold vendorRequest
  exact (mboxCommand_within h (fun _ h1 => (Within.ite (mboxAnswer_within h1 hk)
      (Within.ite (mboxAnswer_within h1 hk)
        (by
          extract_lets -merge -useContext x2
          have h2 : Within K s0 x2.2.2 := by
            unfold x2
            exact (hf2 _ _ h1)
          clear_value x2
          exact (mboxAnswer_within h2 hk))))) hk)

theorem readArchive_within {K : Nat} {o : ArchiveObject} {s0 s : State} (h : Within K s0 s) (hk : 302231454905306561118208 ||| K = K) :
    Within K s0 (readArchive o s) := by
  unfold readArchive
  exact (mboxBackground_within h (fun _ h1 => (by
      split
      · skip
        exact (mboxAnswer_within h1 (Within.sub hk (by simp)))
      · skip
        exact (mboxStarted_within
          (lpddrWrite_within h1 (Within.sub hk (by simp))) (Within.sub hk (by simp))))) (Within.sub hk (by simp)))

theorem mboxBackgroundDone_within {K : Nat} {s0 s : State} (h : Within K s0 s) (hk : 178265783656314204871817461920 ||| K = K) :
    Within K s0 (mboxBackgroundDone s) := by
  unfold mboxBackgroundDone
  extract_lets -merge -useContext x1 x2
  have h1 : Within K s0 x1 := by
    unfold x1
    exact (onlineOver_within
      (mboxDone_within h (Within.sub hk (by simp))) (Within.sub hk (by simp)))
  clear_value x1
  try clear_value x2
  split
  · skip
    exact h
  · skip
    exact (Within.ite h
      (by
        split
        · skip
          exact (Within.ite (mboxDone_within h (Within.sub hk (by simp)))
            (Within.ite (Within.upd_firmware h1 (Within.sub hk (by simp)) _)
              h))
        · skip
          exact (mboxDone_within h (Within.sub hk (by simp)))))

end Sys2Proof.Machine
end

