-- ==== Sys2Proof/Laws/Errors.lean ====
section
/-! SUPPORT. Laws/Errors.lean: the parts of the state that each operation of Machine/Errors.lean can change. -/
namespace Sys2Proof.Machine

set_option Elab.async false

open Sys2Proof

theorem stageReset_within {K : Nat} {s0 s : State} {x : Page} (h : Within K s0 s) (hk : 203099537695292885766246400 ||| K = K) :
    Within K s0 (stageReset s x) := by
  unfold stageReset
  split
  · skip
    extract_lets -merge -useContext x1
    try clear_value x1
    exact (initBank_within
      (initBank_within
        (setEqualiser_within h (Within.sub hk (by simp))) (Within.sub hk (by simp))) (Within.sub hk (by simp)))
  · skip
    extract_lets -merge -useContext x2 x3
    try clear_value x2
    have h3 : Within K s0 x3 := by
      unfold x3
      exact (putTxLane_within h (Within.sub hk (by simp)))
    clear_value x3
    exact (Within.foldl _ (fun _ _ h4 => (Within.foldl _ (fun _ _ h5 => (Within.setWord h5 _ _ _ (Within.sub hk (by simp))))
        h4))
      h3)
  · skip
    exact (pchClear_within h (Within.sub hk (by simp)))
  · skip
    extract_lets -merge -useContext x6
    try clear_value x6
    exact (setDemapper_within h (Within.sub hk (by simp)))
  · skip
    extract_lets -merge -useContext x7
    try clear_value x7
    exact (setDemapper_within h (Within.sub hk (by simp)))
  · skip
    extract_lets -merge -useContext x8
    try clear_value x8
    exact (State.setFramer_within h (Within.sub hk (by simp)))
  · skip
    extract_lets -merge -useContext x9
    try clear_value x9
    exact (putSample_within h (Within.sub hk (by simp)))
  · skip
    exact h

theorem stageSlip_within {K : Nat} {s0 s : State} {x : Page} (h : Within K s0 s) (hk : 116056878683074769538515488 ||| K = K) :
    Within K s0 (stageSlip s x) := by
  unfold stageSlip
  split
  · skip
    exact (txSlip_within h (Within.sub hk (by simp)))
  · skip
    exact (txSlip_within h (Within.sub hk (by simp)))
  · skip
    exact (rxSlip_within h (Within.sub hk (by simp)))
  · skip
    exact (rxSlip_within h (Within.sub hk (by simp)))
  · skip
    exact (rxSlip_within h (Within.sub hk (by simp)))
  · skip
    exact (rxSlip_within h (Within.sub hk (by simp)))
  · skip
    exact (rxSlip_within h (Within.sub hk (by simp)))
  · skip
    exact (rxSlip_within h (Within.sub hk (by simp)))
  · skip
    exact (rxSlip_within h (Within.sub hk (by simp)))
  · skip
    exact h

theorem stageError_within {K : Nat} {p : Page} {group : Nat} {s0 s : State} (h : Within K s0 s) (hk : 280470790150699521712591392 ||| K = K) (hp : pageBit p ||| K = K) :
    Within K s0 (stageError p group s) := by
  unfold stageError
  exact (stageSlip_within
    (stageReset_within (State.errlog_within h hp) (Within.sub hk (by simp))) (Within.sub hk (by simp)))

theorem journalError_within {K : Nat} {seqNo : Nat} {s0 s : State} (h : Within K s0 s) (hk : 302305241881051643510832 ||| K = K) :
    Within K s0 (journalError seqNo s) := by
  unfold journalError
  extract_lets -merge -useContext x1 x2 x3 x4
  try clear_value x1
  try clear_value x2
  have h3 : Within K s0 x3 := by
    unfold x3
    exact (Within.upd_journal h (Within.sub hk (by simp)) _)
  clear_value x3
  have h4 : Within K s0 x4 := by
    unfold x4
    exact (State.addSat_within
      (State.set_within h3 (Within.sub hk (by simp))) (Within.sub hk (by simp)))
  clear_value x4
  exact (appendMarker_within
    (State.raise_within h4 (Within.sub hk (by simp)) (Within.sub hk (by simp))) hk)

theorem delayError_within {K : Nat} {c : Carrier} {s0 s : State} (h : Within K s0 s) (hk : 8589934592 ||| K = K) :
    Within K s0 (delayError c s) := by
  unfold delayError
  extract_lets -merge -useContext x1
  try clear_value x1
  split
  · skip
    exact h
  · skip
    exact (State.setRps_within h hk)

theorem mramError_within {K : Nat} {area : Nat} {slot : Nat} {s0 s : State} (h : Within K s0 s) (hk : 1208925819614631322189824 ||| K = K) :
    Within K s0 (mramError area slot s) := by
  unfold mramError
  extract_lets -merge -useContext x1 x2 x3 x4 x5
  try clear_value x1
  try clear_value x2
  try clear_value x3
  have h4 : Within K s0 x4 := by
    unfold x4
    exact (State.bump_within h (Within.sub hk (by simp)))
  clear_value x4
  try clear_value x5
  exact (keepShow_within
    (Within.upd_keep h4 (Within.sub hk (by simp)) _) (Within.sub hk (by simp)))

theorem wearError_within {K : Nat} {b : Nat} {s0 s : State} (h : Within K s0 s) (hk : 1360041547066464263995424 ||| K = K) :
    Within K s0 (wearError b s) := by
  unfold wearError
  extract_lets -merge -useContext x1 x2
  try clear_value x1
  have h2 : Within K s0 x2 := by
    unfold x2
    exact (State.raise_within
      (State.bump_within h (Within.sub hk (by simp))) (Within.sub hk (by simp)) (Within.sub hk (by simp)))
  clear_value x2
  exact (arcShow_within
    (putWear_within h2 (Within.sub hk (by simp))) (Within.sub hk (by simp)))

theorem ueOutcome_within {K : Nat} {p : MemPlace} {r : UeReader} {s0 s : State} (h : Within K s0 s) (hk : 5070602400894470973565003412020 ||| K = K) :
    Within K s0 (ueOutcome p r s) := by
  unfold ueOutcome
  extract_lets -merge -useContext x1
  try clear_value x1
  split
  · skip
    exact (Within.ite (trapEnter_within h (Within.sub hk (by simp)))
      h)
  · skip
    exact (Within.ite (trapEnter_within h (Within.sub hk (by simp)))
      h)
  · skip
    exact (Within.ite h
      (dmaFail_within h (Within.sub hk (by simp))))
  · skip
    exact (hdmPoison_within h (Within.sub hk (by simp)))
  · skip
    split
    · skip
      exact (stageError_within h (Within.sub hk (by simp)) (Within.all hk _))
    · skip
      exact h
  · skip
    exact (delayError_within h (Within.sub hk (by simp)))
  · skip
    exact (journalError_within h (Within.sub hk (by simp)))
  · skip
    exact (State.setCast_within h (Within.sub hk (by simp)))
  · skip
    exact (lockstepFail_within h (Within.sub hk (by simp)))
  · skip
    split
    · skip
      exact (poisonLine_within h (Within.sub hk (by simp)))
    · skip
      exact h
  · skip
    exact (State.raise_within
      (mramError_within h (Within.sub hk (by simp))) (Within.sub hk (by simp)) (Within.sub hk (by simp)))
  · skip
    exact (wearError_within h (Within.sub hk (by simp)))

theorem uncorrectable_within {K : Nat} {p : MemPlace} {r : UeReader} {s0 s : State} (h : Within K s0 s) (hk : 5070602400894470973565003412020 ||| K = K) :
    Within K s0 (uncorrectable p r s) := by
  unfold uncorrectable
  split
  · skip
    exact (ueOutcome_within h hk)
  · skip
    exact (ueOutcome_within h hk)
  · skip
    exact (ueOutcome_within
      (countUe_within h (Within.sub hk (by simp))) hk)

end Sys2Proof.Machine
end

