-- ==== Sys2Proof/Laws/Timers.lean ====
section
/-! SUPPORT. Laws/Timers.lean: the parts of the state that each operation of Machine/Timers.lean can change. -/
namespace Sys2Proof.Machine

set_option Elab.async false

open Sys2Proof

theorem followTimers_within {K : Nat} {s0 s : State} (h : Within K s0 s) (hk : 4503599627370496 ||| K = K) :
    Within K s0 (followTimers s) := by
  unfold followTimers
  exact (Within.upd_timers h hk _)

end Sys2Proof.Machine
end

