-- ==== Sys2Proof/Laws/RxFrame.lean ====
section
/-! SUPPORT. Laws/RxFrame.lean: the parts of the state that each operation of Machine/RxFrame.lean can change. -/
namespace Sys2Proof.Machine

set_option Elab.async false

open Sys2Proof

theorem framePosition_within {K : Nat} {c : Carrier} {f : RxFrame} {s0 s : State} (h : Within K s0 s) (hk : 9905938184369015566148571424 ||| K = K) :
    Within K s0 (framePosition c f s) := by
  unfold framePosition
  extract_lets -merge -useContext x1 x2 x3 x4 x5
  try clear_value x1
  try clear_value x2
  try clear_value x3
  have h4 : Within K s0 x4 := by
    unfold x4
    exact (State.setFramer_within h (Within.sub hk (by simp)))
  clear_value x4
  have h5 : Within K s0 x5 := by
    unfold x5
    exact (State.bump_within h (Within.sub hk (by simp)))
  clear_value x5
  exact (Within.ite h
    (Within.ite (Within.ite (State.set_within
          (State.setFramer_within h (Within.sub hk (by simp))) (Within.sub hk (by simp)))
        h)
      (Within.ite (Within.ite (frameHunt_within h (Within.sub hk (by simp)))
          (Within.ite (State.setFramer_within h (Within.sub hk (by simp)))
            (lockFrameEntered_within
              (State.raise_within
                (State.set_within h4 (Within.sub hk (by simp))) (Within.sub hk (by simp)) (Within.sub hk (by simp))) (Within.sub hk (by simp)))))
        (Within.ite (State.setFramer_within h (Within.sub hk (by simp)))
          (Within.ite (noteTrigger_within
              (State.raise_within
                (State.bump_within
                  (frameHunt_within h5 (Within.sub hk (by simp))) (Within.sub hk (by simp))) (Within.sub hk (by simp)) (Within.sub hk (by simp))) (Within.sub hk (by simp)))
            (State.setFramer_within h5 (Within.sub hk (by simp))))))))

theorem sendEcb_within {K : Nat} {c : Carrier} {n : Nat} {s0 s : State} (h : Within K s0 s) (hk : 89131682828547379792736960544 ||| K = K) :
    Within K s0 (sendEcb c n s) := by
  unfold sendEcb
  exact (deliverBlocks_within
    (State.addSat_within h (Within.sub hk (by simp))) (Within.sub hk (by simp)))

theorem advanceExpected_within {K : Nat} {c : Carrier} {s0 s : State} (h : Within K s0 s) (hk : 4096 ||| K = K) :
    Within K s0 (advanceExpected c s) := by
  unfold advanceExpected
  extract_lets -merge -useContext x1
  try clear_value x1
  exact (State.setFramer_within h hk)

theorem sequenceCheck_within {K : Nat} {c : Carrier} {csf : Nat} {lf : Nat} {s0 s : State} (h : Within K s0 s) (hk : 9905938165922271457542410272 ||| K = K) :
    Within K s0 (sequenceCheck c csf lf s) := by
  unfold sequenceCheck
  extract_lets -merge -useContext x1 x2
  try clear_value x1
  have h2 : Within K s0 x2 := by
    unfold x2
    exact (State.setFramer_within h (Within.sub hk (by simp)))
  clear_value x2
  split
  · skip
    exact h2
  · skip
    exact (Within.ite h2
      (armedJump_within
        (State.raise_within
          (State.bump_within h2 (Within.sub hk (by simp))) (Within.sub hk (by simp)) (Within.sub hk (by simp))) (Within.sub hk (by simp))))

theorem showReceived_within {K : Nat} {c : Carrier} {f : RxFrame} {s0 s : State} (h : Within K s0 s) (hk : 9903520314283042199192993792 ||| K = K) :
    Within K s0 (showReceived c f s) := by
  unfold showReceived
  extract_lets -merge -useContext x1
  have h1 : Within K s0 x1 := by
    unfold x1
    exact (State.setPair_within h (Within.sub hk (by simp)))
  clear_value x1
  exact (State.set_within
    (State.set_within h1 (Within.sub hk (by simp))) (Within.sub hk (by simp)))

theorem receiveData_within {K : Nat} {c : Carrier} {f : RxFrame} {s0 s : State} (h : Within K s0 s) (hk : 108938723457113464225482719264 ||| K = K) :
    Within K s0 (receiveData c f s) := by
  unfold receiveData
  extract_lets -merge -useContext x1 x2
  try clear_value x1
  have h2 : Within K s0 x2.1 := by
    unfold x2
    exact (receiveTests_within h (Within.sub hk (by simp)))
  clear_value x2
  split
  · skip
    exact (deliverBlocks_within
      (State.addPair_within h2 (Within.sub hk (by simp))) (Within.sub hk (by simp)))
  · skip
    exact (sendEcb_within h2 (Within.sub hk (by simp)))

theorem noteBlanked_within {K : Nat} {c : Carrier} {s0 s : State} (h : Within K s0 s) (hk : 29712978794489481757445881888 ||| K = K) :
    Within K s0 (noteBlanked c s) := by
  unfold noteBlanked
  extract_lets -merge -useContext x1 x2
  try clear_value x1
  have h2 : Within K s0 x2 := by
    unfold x2
    exact (State.set_within
      (State.bump_within h (Within.sub hk (by simp))) (Within.sub hk (by simp)))
  clear_value x2
  exact (Within.ite (ratchetFor_within
      (State.raise_within h2 (Within.sub hk (by simp)) (Within.sub hk (by simp))) (Within.sub hk (by simp)))
    h2)

theorem classifyFrame_within {K : Nat} {c : Carrier} {f : RxFrame} {arrival : Nat} {s0 s : State} (h : Within K s0 s) (hk : 2644247215247422943861208576032 ||| K = K) :
    Within K s0 (classifyFrame c f arrival s) := by
  unfold classifyFrame
  extract_lets -merge -useContext x1 x2 x3 x4 x5 x6 x7 x8 x9 x10 x11 x12 x13 x14 x15 x16
  try clear_value x1
  try clear_value x2
  try clear_value x3
  try clear_value x4
  have h5 : Within K s0 x5 := by
    unfold x5
    exact (advanceExpected_within h (Within.sub hk (by simp)))
  clear_value x5
  have h6 : Within K s0 x6 := by
    unfold x6
    exact (Within.ite (State.raise_within
        (State.bump_within h5 (Within.sub hk (by simp))) (Within.sub hk (by simp)) (Within.sub hk (by simp)))
      (Within.ite (State.raise_within
          (State.bump_within h5 (Within.sub hk (by simp))) (Within.sub hk (by simp)) (Within.sub hk (by simp)))
        (State.raise_within
          (State.bump_within h5 (Within.sub hk (by simp))) (Within.sub hk (by simp)) (Within.sub hk (by simp)))))
  clear_value x6
  have h7 : Within K s0 x7 := by
    unfold x7
    exact (linkWord_within h6 (Within.sub hk (by simp)))
  clear_value x7
  have h8 : Within K s0 x8 := by
    unfold x8
    exact (showReceived_within
      (sequenceCheck_within h5 (Within.sub hk (by simp))) (Within.sub hk (by simp)))
  clear_value x8
  have h9 : Within K s0 x9 := by
    unfold x9
    exact (expireOver_within
      (expireRetained_within h8 (Within.sub hk (by simp))) (Within.sub hk (by simp)))
  clear_value x9
  have h10 : Within K s0 x10 := by
    unfold x10
    exact (Within.ite (noteBlanked_within h9 (Within.sub hk (by simp)))
      (State.set_within h9 (Within.sub hk (by simp))))
  clear_value x10
  have h11 : Within K s0 x11 := by
    unfold x11
    exact (Within.ite (State.raise_within
        (State.bump_within h10 (Within.sub hk (by simp))) (Within.sub hk (by simp)) (Within.sub hk (by simp)))
      (Within.ite (State.addPair_within h10 (Within.sub hk (by simp)))
        h10))
  clear_value x11
  try clear_value x12
  try clear_value x13
  have h14 : Within K s0 x14 := by
    unfold x14
    exact (Within.ite h11
      (State.setFramer_within h11 (Within.sub hk (by simp))))
  clear_value x14
  have h15 : Within K s0 x15 := by
    unfold x15
    exact (Within.ite (copyArrives_within h14 (Within.sub hk (by simp)))
      (Within.ite (sendEcb_within h14 (Within.sub hk (by simp)))
        (Within.ite (sendEcb_within h14 (Within.sub hk (by simp)))
          (receiveData_within h14 (Within.sub hk (by simp))))))
  clear_value x15
  have h16 : Within K s0 x16 := by
    unfold x16
    exact (armedLapse_within h15 (Within.sub hk (by simp)))
  clear_value x16
  exact (Within.ite h
    (Within.ite (Within.ite h7
        (sendEcb_within h7 (Within.sub hk (by simp))))
      (linkWord_within h16 (Within.sub hk (by simp)))))

end Sys2Proof.Machine
end

