-- ==== Sys2Proof/Laws/Commands.lean ====
section
/-! SUPPORT. Laws/Commands.lean: the parts of the state that each operation of Machine/Commands.lean can change. -/
namespace Sys2Proof.Machine

set_option Elab.async false

open Sys2Proof

/-- What a command that ends in `u` but for the queue changes is what leads to `u`, without the queue. -/
theorem endsIn_within {K : Nat} {s u t : State} (h : Within (K ||| 2 ^ 53) s u) (e : endsIn s u = .next t) :
    Within K s t := by
  have hb : ∀ i, i ≠ 53 → K.testBit i = false → (K ||| 2 ^ 53).testBit i = false := fun i hi hx => by
    rw [Nat.testBit_or, hx, Nat.testBit_two_pow_of_ne (Ne.symm hi)]; rfl
  cases e
  exact {
    latches := fun hx => h.latches (hb _ (by decide) hx)
    answer := fun hx => h.answer (hb _ (by decide) hx)
    hostReady := fun hx => h.hostReady (hb _ (by decide) hx)
    journal := fun hx => h.journal (hb _ (by decide) hx)
    evr := fun hx => h.evr (hb _ (by decide) hx)
    msix := fun hx => h.msix (hb _ (by decide) hx)
    semaphores := fun hx => h.semaphores (hb _ (by decide) hx)
    pairMatches := fun hx => h.pairMatches (hb _ (by decide) hx)
    tickEvents := fun hx => h.tickEvents (hb _ (by decide) hx)
    nowNs := fun hx => h.nowNs (hb _ (by decide) hx)
    elapsedNs := fun hx => h.elapsedNs (hb _ (by decide) hx)
    framer := fun hx => h.framer (hb _ (by decide) hx)
    fec := fun hx => h.fec (hb _ (by decide) hx)
    cpc := fun hx => h.cpc (hb _ (by decide) hx)
    cipher := fun hx => h.cipher (hb _ (by decide) hx)
    hk := fun hx => h.hk (hb _ (by decide) hx)
    aux := fun hx => h.aux (hb _ (by decide) hx)
    cal := fun hx => h.cal (hb _ (by decide) hx)
    txDsp := fun hx => h.txDsp (hb _ (by decide) hx)
    txLane := fun hx => h.txLane (hb _ (by decide) hx)
    lineRx := fun hx => h.lineRx (hb _ (by decide) hx)
    carrierRec := fun hx => h.carrierRec (hb _ (by decide) hx)
    demapper := fun hx => h.demapper (hb _ (by decide) hx)
    dispersion := fun hx => h.dispersion (hb _ (by decide) hx)
    equaliser := fun hx => h.equaliser (hb _ (by decide) hx)
    tunedN := fun hx => h.tunedN (hb _ (by decide) hx)
    dsram := fun hx => h.dsram (hb _ (by decide) hx)
    optics := fun hx => h.optics (hb _ (by decide) hx)
    qlt := fun hx => h.qlt (hb _ (by decide) hx)
    plinth := fun hx => h.plinth (hb _ (by decide) hx)
    keep := fun hx => h.keep (hb _ (by decide) hx)
    archive := fun hx => h.archive (hb _ (by decide) hx)
    rps := fun hx => h.rps (hb _ (by decide) hx)
    tel := fun hx => h.tel (hb _ (by decide) hx)
    cast := fun hx => h.cast (hb _ (by decide) hx)
    vddRequested := fun hx => h.vddRequested (hb _ (by decide) hx)
    checkers := fun hx => h.checkers (hb _ (by decide) hx)
    hostLink := fun hx => h.hostLink (hb _ (by decide) hx)
    mbox := fun hx => h.mbox (hb _ (by decide) hx)
    memories := fun hx => h.memories (hb _ (by decide) hx)
    isram := fun hx => h.isram (hb _ (by decide) hx)
    cores := fun hx => h.cores (hb _ (by decide) hx)
    images := fun hx => h.images (hb _ (by decide) hx)
    stepsDue := fun hx => h.stepsDue (hb _ (by decide) hx)
    samples := fun hx => h.samples (hb _ (by decide) hx)
    pwrMgr := fun hx => h.pwrMgr (hb _ (by decide) hx)
    timeBase := fun hx => h.timeBase (hb _ (by decide) hx)
    selfTest := fun hx => h.selfTest (hb _ (by decide) hx)
    firmware := fun hx => h.firmware (hb _ (by decide) hx)
    freeCount := fun hx => h.freeCount (hb _ (by decide) hx)
    staged := fun hx => h.staged (hb _ (by decide) hx)
    timers := fun hx => h.timers (hb _ (by decide) hx)
    pending := fun _ => rfl
    page := fun p off hx => h.page p off (by
      rw [Nat.and_or_distrib_left, hx]
      cases p <;> simp)
    wf := h.wf }

theorem busAccess_within {K : Nat} {o : Origin} {addr : Nat} {s0 s : State} (h : Within K s0 s) (hk : 147578526626767437984 ||| K = K) :
    Within K s0 (busAccess o addr s) := by
  unfold busAccess
  exact (Within.ite h
    (accessWakes_within h hk))

theorem busWrite_within {K : Nat} {o : Origin} {addr : Nat} {v : Word} {readings : List Int} {s0 s : State} (h : Within K s0 s) (hk : 5070602400894479305887526680562 ||| K = K) :
    Within K s0 (busWrite o addr v readings s) := by
  unfold busWrite
  exact (Within.ite (State.bump_within h (Within.sub hk (by simp)))
    (writeSettled_within
      (busAccess_within h (Within.sub hk (by simp))) hk))

theorem oddWrite_within {K : Nat} {addr : Nat} {len : Nat} {v : Word} {s0 s : State} (h : Within K s0 s) (hk : 5070602400894475437049705923248 ||| K = K) :
    Within K s0 (oddWrite addr len v s) := by
  unfold oddWrite
  exact (Within.ite (State.bump_within h (Within.sub hk (by simp)))
    (misalignedWrite_within
      (busAccess_within h (Within.sub hk (by simp))) (Within.sub hk (by simp))))

theorem busRead_within {K : Nat} {o : Origin} {addr : Nat} {wide : Bool} {s0 s : State} (h : Within K s0 s) (hk : 950902667716051704288735396022 ||| K = K) :
    Within K s0 (busRead o addr wide s) := by
  unfold busRead
  extract_lets -merge -useContext x1 x2 x3 x4 x5
  have h1 : Within K s0 x1 := by
    unfold x1
    exact (busAccess_within h (Within.sub hk (by simp)))
  clear_value x1
  have h2 : Within K s0 x2.1 := by
    unfold x2
    exact (readDouble_within
      (busAccess_within h (Within.sub hk (by simp))) (Within.sub hk (by simp)))
  clear_value x2
  have h3 : Within K s0 x3 := by
    unfold x3
    exact h2
  clear_value x3
  have h4 : Within K s0 x4.1 := by
    unfold x4
    exact (readReg_within
      (busAccess_within h (Within.sub hk (by simp))) (Within.sub hk (by simp)))
  clear_value x4
  have h5 : Within K s0 x5 := by
    unfold x5
    exact h4
  clear_value x5
  exact (Within.ite (Within.upd_answer h1 (Within.sub hk (by simp)) _)
    (Within.ite (Within.upd_answer h (Within.sub hk (by simp)) _)
      (Within.ite (Within.upd_answer h3 (Within.sub hk (by simp)) _)
        (Within.upd_answer h5 (Within.sub hk (by simp)) _))))

theorem wordWrite_within {K : Nat} {o : Origin} {p : Page} {y2 : Nat} {v : Word} {s0 s : State} (h : Within K s0 s) (hk : 5070602400894479305887526680562 ||| K = K) :
    Within K s0 (wordWrite o p y2 v s) := by
  unfold wordWrite
  exact (busWrite_within h hk)

theorem fieldWrites_within {K : Nat} {o : Origin} {p : Page} {y2 : Nat} {vs : List (Field × Nat)} {s0 s : State} (h : Within K s0 s) (hk : 5070602400894479305887526680562 ||| K = K) :
    Within K s0 (fieldWrites o p y2 vs s) := by
  unfold fieldWrites
  exact (wordWrite_within h hk)

theorem fieldWrite_within {K : Nat} {o : Origin} {p : Page} {f : Field} {v : Nat} {readings : List Int} {s0 s : State} (h : Within K s0 s) (hk : 5070602400894479305887526680562 ||| K = K) :
    Within K s0 (fieldWrite o p f v readings s) := by
  unfold fieldWrite
  exact (busWrite_within h hk)

theorem wordAccess_within {K : Nat} {o : Origin} {p : Page} {y2 : Nat} {value : Option Word} {s0 s : State} (h : Within K s0 s) (hk : 5070602400894479305887526680566 ||| K = K) :
    Within K s0 (wordAccess o p y2 value s) := by
  unfold wordAccess
  split
  · skip
    exact (wordWrite_within h (Within.sub hk (by simp)))
  · skip
    exact (busRead_within h (Within.sub hk (by simp)))

theorem idleCount_within {K : Nat} {c : Carrier} {q : Nat} {inserted : Nat} {deleted : Nat} {s0 s : State} (h : Within K s0 s) (hk : 79228162514264337593543950336 ||| K = K) :
    Within K s0 (idleCount c q inserted deleted s) := by
  unfold idleCount
  exact (Within.ite h
    (State.addSat_within
      (State.addSat_within h (Within.sub hk (by simp))) (Within.sub hk (by simp))))

theorem idleTick_within {K : Nat} {s0 s : State} (h : Within K s0 s) (hk : 5070602400894477617450539224096 ||| K = K) :
    Within K s0 (idleTick s) := by
  unfold idleTick
  extract_lets -merge -useContext x1 x2
  have h1 : Within K s0 x1 := by
    unfold x1
    exact (followTimers_within h (Within.sub hk (by simp)))
  clear_value x1
  have h2 : Within K s0 x2 := by
    unfold x2
    exact (Within.upd_nowNs_elapsedNs h1 (Within.sub hk (by simp)) (Within.sub hk (by simp)) _ _)
  clear_value x2
  exact (Within.ite (applyStaged_within h2 (Within.sub hk (by simp)))
    h)

end Sys2Proof.Machine
end

