-- ==== Sys2Proof/Laws/ControlCommands.lean ====
section
/-! SUPPORT. Laws/ControlCommands.lean: the parts of the state that each operation of Machine/ControlCommands.lean can change. -/
namespace Sys2Proof.Machine

set_option Elab.async false

open Sys2Proof

theorem execRunctlRun_within {o : Origin} {p : Page} {s : State} {t : State} (e : execRunctlRun o p s = .next t) :
    Within 5070602400894479305887526680562 s t := by
  exact endsIn_within (fieldWrite_within (Within.refl _ _) (by simp)) e

theorem execRunctlStop_within {o : Origin} {p : Page} {s : State} {t : State} (e : execRunctlStop o p s = .next t) :
    Within 5070602400894479305887526680562 s t := by
  exact endsIn_within (fieldWrite_within (Within.refl _ _) (by simp)) e

theorem execPageStartComplete_within {p : Page} {ok : Bool} {band : Int × Int} {gain : Int × Int} {s : State} {t : State} (e : execPageStartComplete p ok band gain s = .next t) :
    Within 5070602400894476491603510096160 s t := by
  exact endsIn_within (by
    extract_lets -merge -useContext x1
    have h1 : Within (5070602400894476491603510096160 ||| 2 ^ 53) s x1 := by
      unfold x1
      exact (fesFollowBoth_within
        (pageStarted_within (Within.refl _ _) (by simp) (Within.all (M := 5070602400894470861913103269888) (by simp) _)) (by simp))
    clear_value x1
    exact (Within.ite (governorFollow_within h1 (by simp))
      h1)) e

theorem execPageStopComplete_within {p : Page} {s : State} {t : State} (e : execPageStopComplete p s = .next t) :
    Within 5070602400894470861913371705376 s t := by
  exact endsIn_within (fesFollowBoth_within
    (pageStopped_within (Within.refl _ _) (Within.all (M := 5070602400894470861913103269888) (by simp) _)) (by simp)) e

theorem execPageBoundOverrun_within {p : Page} {s : State} {t : State} (e : execPageBoundOverrun p s = .next t) :
    Within 5070602400894470861913371705376 s t := by
  exact endsIn_within (fesFollowBoth_within
    (pageOverrun_within (Within.refl _ _) (Within.all (M := 5070602400894470861913103269888) (by simp) _)) (by simp)) e

theorem execRegisterWrite_within {o : Origin} {addr : Nat} {w : Word} {readings : List Int} {s t : State} (e : execRegisterWrite o addr w readings s = .next t) :
    Within 5070602400894479305887526680562 s t := by
  unfold execRegisterWrite at e
  split at e
  · exact endsIn_within (Within.ite (busWrite_within (Within.refl _ _) (by simp)) (oddWrite_within (Within.refl _ _) (by simp))) e
  · cases e

theorem execHostMisalignedAccess_within {write : Bool} {addr len : Nat} {w : Word} {s t : State} (e : execHostMisalignedAccess write addr len w s = .next t) :
    Within 5070602400894475437049705923252 s t := by
  unfold execHostMisalignedAccess at e
  split at e
  · exact endsIn_within (Within.ite (oddWrite_within (Within.refl _ _) (by simp))
      (Within.upd_answer (accessWakes_within (Within.refl _ _) (by simp)) (by simp) _)) e
  · cases e

theorem execUnmappedBar0Write_within {o : Origin} {addr : Nat} {w : Word} {s t : State} (e : execUnmappedBar0Write o addr w s = .next t) :
    Within 5070602400894479305887526680562 s t := by
  unfold execUnmappedBar0Write at e
  split at e
  · exact endsIn_within (busWrite_within (Within.refl _ _) (by simp)) e
  · cases e

theorem execEarlyBar0Write_within {addr : Nat} {w : Word} {s t : State} (e : execEarlyBar0Write addr w s = .next t) :
    Within 5070602400894479305887526680562 s t := by
  unfold execEarlyBar0Write at e
  split at e
  · exact endsIn_within (busWrite_within (Within.refl _ _) (by simp)) e
  · cases e

theorem execRefusedWrClr_within {o : Origin} {p : Page} {s : State} {t : State} (e : execRefusedWrClr o p s = .next t) :
    Within 5070602400894479305887526680562 s t := by
  exact endsIn_within (fieldWrite_within (Within.refl _ _) (by simp)) e

theorem execErrlogClr_within {o : Origin} {p : Page} {s : State} {t : State} (e : execErrlogClr o p s = .next t) :
    Within 5070602400894479305887526680562 s t := by
  exact endsIn_within (fieldWrite_within (Within.refl _ _) (by simp)) e

theorem execEvtRawClear_within {o : Origin} {p : Page} {mask : BitVec 16} {s : State} {t : State} (e : execEvtRawClear o p mask s = .next t) :
    Within 5070602400894479305887526680562 s t := by
  exact endsIn_within (wordWrite_within (Within.refl _ _) (by simp)) e

theorem execEvtSet_within {o : Origin} {p : Page} {mask : BitVec 16} {s : State} {t : State} (e : execEvtSet o p mask s = .next t) :
    Within 5070602400894479305887526680562 s t := by
  exact endsIn_within (wordWrite_within (Within.refl _ _) (by simp)) e

theorem execXLoReadLatch_within {o : Origin} {addr : Nat} {wide : Bool} {s t : State} (e : execXLoReadLatch o addr wide s = .next t) :
    Within 950902667716051704288735396022 s t := by
  unfold execXLoReadLatch at e
  split at e
  · exact endsIn_within (busRead_within (Within.refl _ _) (by simp)) e
  · cases e

theorem execEvrSetMessage_within {s : State} {t : State} (e : execEvrSetMessage s = .next t) :
    Within 2535301200456458802994480152672 s t := by
  exact endsIn_within (takeSetMessage_within (Within.refl _ _) (by simp)) e

theorem execEvrClearMessage_within {src : Nat} {s : State} {t : State} (e : execEvrClearMessage src s = .next t) :
    Within 2535301200456458802994480152672 s t := by
  exact endsIn_within (takeClearMessage_within (Within.refl _ _) (by simp)) e

theorem execRtDataWrite_within {o : Origin} {w : Word} {s : State} {t : State} (e : execRtDataWrite o w s = .next t) :
    Within 5070602400894479305887526680562 s t := by
  exact endsIn_within (wordWrite_within (Within.refl _ _) (by simp)) e

theorem execSwSet_within {o : Origin} {mask : BitVec 16} {s : State} {t : State} (e : execSwSet o mask s = .next t) :
    Within 5070602400894479305887526680562 s t := by
  exact endsIn_within (wordWrite_within (Within.refl _ _) (by simp)) e

theorem execSwClr_within {o : Origin} {mask : BitVec 16} {s : State} {t : State} (e : execSwClr o mask s = .next t) :
    Within 5070602400894479305887526680562 s t := by
  exact endsIn_within (wordWrite_within (Within.refl _ _) (by simp)) e

theorem execSemAcquire_within {o : Origin} {n : Fin 64} {s : State} {t : State} (e : execSemAcquire o n s = .next t) :
    Within 5070602400894479305887526680562 s t := by
  exact endsIn_within (fieldWrite_within (Within.refl _ _) (by simp)) e

theorem execSemRelease_within {o : Origin} {n : Fin 64} {s : State} {t : State} (e : execSemRelease o n s = .next t) :
    Within 5070602400894479305887526680562 s t := by
  exact endsIn_within (fieldWrite_within (Within.refl _ _) (by simp)) e

theorem execVcViolation_within {o : Origin} {s : State} {t : State} (e : execVcViolation o s = .next t) :
    Within 1267650600228229401496703205920 s t := by
  exact endsIn_within (Within.ite (Within.refl _ _)
    (vcViolation_within (Within.refl _ _) (by simp))) e

theorem execCsfPairCompare_within {csfA : BitVec 40} {csfB : BitVec 40} {skew : Option Nat} {s : State} {t : State} (e : execCsfPairCompare csfA csfB skew s = .next t) :
    Within 309485028268089142434332960 s t := by
  exact endsIn_within (csfPairCompare_within (Within.refl _ _) (by simp)) e

theorem execJointTimingRelease_within {c : Carrier} {s : State} {t : State} (e : execJointTimingRelease c s = .next t) :
    Within 309485009821345068724781056 s t := by
  exact endsIn_within (jointRelease_within (Within.refl _ _) (by simp)) e

theorem execRxSlip_within {c : Carrier} {s : State} {t : State} (e : execRxSlip c s = .next t) :
    Within 77390141921338114797732384 s t := by
  exact endsIn_within (fesFollowBoth_within
    (rxSlipInstant_within (Within.refl _ _) (by simp)) (by simp)) e

theorem execTxSlip_within {c : Carrier} {s : State} {t : State} (e : execTxSlip c s = .next t) :
    Within 38685626227738502336348704 s t := by
  exact endsIn_within (dacInstant_within (Within.refl _ _) (by simp)) e

theorem execClientIngressDrop_within {c : Carrier} {s : State} {t : State} (e : execClientIngressDrop c s = .next t) :
    Within 79228162514264337593543950368 s t := by
  exact endsIn_within (ingressDrop_within (Within.refl _ _) (by simp)) e

theorem execClientEgressUnderrun_within {c : Carrier} {q : Fin 4} {s : State} {t : State} (e : execClientEgressUnderrun c q s = .next t) :
    Within 79228162514268841193171337248 s t := by
  exact endsIn_within (egressUnderrun_within (Within.refl _ _) (by simp)) e

theorem execJournalSpill_within {n : Nat} {s : State} {t : State} (e : execJournalSpill n s = .next t) :
    Within 302305241881051643510832 s t := by
  exact endsIn_within (journalSpill_within (Within.refl _ _) (by simp)) e

theorem execJournalPersistBatch_within {n : Nat} {s : State} {t : State} (e : execJournalPersistBatch n s = .next t) :
    Within 1360115338546354434605072 s t := by
  exact endsIn_within (journalPersist_within (Within.refl _ _) (by simp)) e

theorem execJournalSpaceReturn_within {s : State} {t : State} (e : execJournalSpaceReturn s = .next t) :
    Within 302305241881051643510832 s t := by
  exact endsIn_within (journalSpaceReturn_within (Within.refl _ _) (by simp)) e

theorem execSignNow_within {o : Origin} {s : State} {t : State} (e : execSignNow o s = .next t) :
    Within 5070602400894479305887526680562 s t := by
  exact endsIn_within (fieldWrite_within (Within.refl _ _) (by simp)) e

theorem execJournalSignatureDone_within {s : State} {t : State} (e : execJournalSignatureDone s = .next t) :
    Within 453420969332880290349104 s t := by
  exact endsIn_within (signatureDone_within (Within.refl _ _) (by simp)) e

end Sys2Proof.Machine
end

