-- ==== Sys2Proof/Laws/LineCommands.lean ====
section
/-! SUPPORT. Laws/LineCommands.lean: the parts of the state that each operation of Machine/LineCommands.lean can change. -/
namespace Sys2Proof.Machine

set_option Elab.async false

open Sys2Proof

theorem execLfHeaderForm_within {c : Carrier} {s : State} {t : State} (e : execLfHeaderForm c s = .next t) :
    Within 5070602400894478743351519850528 s t := by
  exact endsIn_within (Within.ite (by
      extract_lets -merge -useContext x1
      have h1 : Within (5070602400894478743351519850528 ||| 2 ^ 53) s x1 := by
        unfold x1
        exact (keyingAtFrame_within
          (frameBoundary_within (Within.refl _ _) (by simp)) (by simp))
      clear_value x1
      exact (ratchetRetry_within
        (inbandSent_within
          (formFrame_within h1 (by simp)) (by simp)) (by simp)))
    (Within.refl _ _)) e

theorem execLfmJoinPartner_within {c : Carrier} {s : State} {t : State} (e : execLfmJoinPartner c s = .next t) :
    Within 9903520314283042199192997888 s t := by
  exact endsIn_within (joinPartner_within (Within.refl _ _) (by simp)) e

theorem execLfmPairStart_within {s : State} {t : State} (e : execLfmPairStart s = .next t) :
    Within 9903520314283042199192997888 s t := by
  exact endsIn_within (pairStart_within (Within.refl _ _) (by simp)) e

theorem execCpcRoundWrite_within {c : Carrier} {blocks : List (Fin 4 × ClientIn)} {rsCorr : List Nat} {rsUncorr : List Nat} {s : State} {t : State} (e : execCpcRoundWrite c blocks rsCorr rsUncorr s = .next t) :
    Within 5070602400894477617450539241504 s t := by
  exact endsIn_within (roundWrite_within
    (pageBoundary_within (Within.refl _ _) (by simp)) (by simp)) e

theorem execJustRangeClr_within {o : Origin} {c : Carrier} {s : State} {t : State} (e : execJustRangeClr o c s = .next t) :
    Within 5070602400894479305887526680562 s t := by
  exact endsIn_within (fieldWrite_within (Within.refl _ _) (by simp)) e

theorem execRxFramePosition_within {c : Carrier} {f : RxFrame} {s : State} {t : State} (e : execRxFramePosition c f s = .next t) :
    Within 5070602400894477617485167399200 s t := by
  exact endsIn_within (fesFollowBoth_within
    (framePosition_within
      (frameBoundary_within (Within.refl _ _) (by simp)) (by simp)) (by simp)) e

theorem execRxLfClassify_within {c : Carrier} {f : RxFrame} {arrival : Nat} {s : State} {t : State} (e : execRxLfClassify c f arrival s = .next t) :
    Within 5070602400894478743394737975328 s t := by
  exact endsIn_within (fesFollowBoth_within
    (classifyFrame_within
      (frameBoundary_within (Within.refl _ _) (by simp)) (by simp)) (by simp)) e

theorem execSyfStart_within {c : Carrier} {s : State} {t : State} (e : execSyfStart c s = .next t) :
    Within 38685626227668133591121920 s t := by
  exact endsIn_within (syfStart_within (Within.refl _ _) (by simp)) e

theorem execPilotGroupSign_within {c : Carrier} {s : State} {t : State} (e : execPilotGroupSign c s = .next t) :
    Within 5070602400894479305887526680560 s t := by
  exact endsIn_within (groupSign_within (Within.refl _ _) (by simp)) e

theorem execPchData_within {o : Origin} {c : Carrier} {w : Word} {s : State} {t : State} (e : execPchData o c w s = .next t) :
    Within 5070602400894479305887526680562 s t := by
  exact endsIn_within (wordWrite_within (Within.refl _ _) (by simp)) e

theorem execPchCtlClr_within {o : Origin} {c : Carrier} {s : State} {t : State} (e : execPchCtlClr o c s = .next t) :
    Within 5070602400894479305887526680562 s t := by
  exact endsIn_within (fieldWrite_within (Within.refl _ _) (by simp)) e

theorem execTxFirSwap_within {o : Origin} {c : Carrier} {w : Word} {s : State} {t : State} (e : execTxFirSwap o c w s = .next t) :
    Within 5070602400894479305887526680562 s t := by
  exact endsIn_within (wordWrite_within (Within.refl _ _) (by simp)) e

theorem execTxXfadeEnd_within {c : Carrier} {s : State} {t : State} (e : execTxXfadeEnd c s = .next t) :
    Within 38685626227668133591121952 s t := by
  exact endsIn_within (txXfadeEnd_within (Within.refl _ _) (by simp)) e

theorem execDacStart_within {c : Carrier} {s : State} {t : State} (e : execDacStart c s = .next t) :
    Within 524288 s t := by
  exact endsIn_within (dacStart_within (Within.refl _ _) (by simp)) e

theorem execLtxFgCalStart_within {c : Carrier} {s : State} {t : State} (e : execLtxFgCalStart c s = .next t) :
    Within 9671406556917033397649408 s t := by
  exact endsIn_within (fgCalStart_within (Within.refl _ _) (by simp)) e

theorem execLtxFgCalDone_within {c : Carrier} {ms : List (List (Int × Int))} {s : State} {t : State} (e : execLtxFgCalDone c ms s = .next t) :
    Within 9671996852727392104611872 s t := by
  exact endsIn_within (fgCalDone_within (Within.refl _ _) (by simp)) e

theorem execLtxBgCalStep_within {n : Fin 8} {m1 : Int} {m2 : Int} {mux : Int × Int} {s : State} {t : State} (e : execLtxBgCalStep n m1 m2 mux s = .next t) :
    Within 9671996852727392104611872 s t := by
  exact endsIn_within (bgCalStep_within (Within.refl _ _) (by simp)) e

theorem execGateChange_within {c : Carrier} {s : State} {t : State} (e : execGateChange c s = .next t) :
    Within 5070602400894477617450539221024 s t := by
  exact endsIn_within (gateChange_within
    (pagesBoundary_within (Within.refl _ _) (by simp)) (by simp)) e

theorem execHoldover_within {c : Carrier} {average : Int} {s : State} {t : State} (e : execHoldover c average s = .next t) :
    Within 58028439341502200386420768 s t := by
  exact endsIn_within (holdover_within (Within.refl _ _) (by simp)) e

theorem execLoopTrackResume_within {c : Carrier} {s : State} {t : State} (e : execLoopTrackResume c s = .next t) :
    Within 38685626227668133590597632 s t := by
  exact endsIn_within (loopResume_within (Within.refl _ _) (by simp)) e

theorem execLtxPatternMode_within {n : Fin 8} {s : State} {t : State} (e : execLtxPatternMode n s = .next t) :
    Within 5070602400894477617450540269600 s t := by
  exact endsIn_within (patternMode_within
    (pageBoundary_within (Within.refl _ _) (by simp)) (by simp)) e

theorem execTxInjectSingle_within {o : Origin} {c : Carrier} {w : Word} {s : State} {t : State} (e : execTxInjectSingle o c w s = .next t) :
    Within 5070602400894479305887526680562 s t := by
  exact endsIn_within (wordWrite_within (Within.refl _ _) (by simp)) e

theorem execTxInjectPeriodic_within {c : Carrier} {s : State} {t : State} (e : execTxInjectPeriodic c s = .next t) :
    Within 524288 s t := by
  exact endsIn_within (injectPeriodic_within (Within.refl _ _) (by simp)) e

theorem execPramDataAccess_within {o : Origin} {n : Fin 8} {value : Option Word} {s : State} {t : State} (e : execPramDataAccess o n value s = .next t) :
    Within 5070602400894479305887526680566 s t := by
  exact endsIn_within (wordAccess_within (Within.refl _ _) (by simp)) e

theorem execDacClip_within {n : Fin 8} {s : State} {t : State} (e : execDacClip n s = .next t) :
    Within 5070602400894477617450540269600 s t := by
  exact endsIn_within (dacBlock_within
    (pageBoundary_within (Within.refl _ _) (by simp)) (by simp)) e

theorem execSkewSlew_within {c : Carrier} {receive : Bool} {s : State} {t : State} (e : execSkewSlew c receive s = .next t) :
    Within 5070602400894477617450842791968 s t := by
  exact endsIn_within (by
    extract_lets -merge -useContext x1
    have h1 : Within (5070602400894477617450842791968 ||| 2 ^ 53) s x1 := by
      unfold x1
      exact (pagesBoundary_within (Within.refl _ _) (by simp))
    clear_value x1
    exact (fesFollowBoth_within
      (Within.ite (rxBlock_within
          (skewSlew_within h1 (by simp)) (by simp))
        (txBlock_within
          (skewSlew_within h1 (by simp)) (by simp))) (by simp))) e

end Sys2Proof.Machine
end

