-- ==== Sys2Proof/Laws/ReceiveCommands.lean ====
section
/-! SUPPORT. Laws/ReceiveCommands.lean: the parts of the state that each operation of Machine/ReceiveCommands.lean can change. -/
namespace Sys2Proof.Machine

set_option Elab.async false

open Sys2Proof

theorem execAgcPeriod_within {n : Fin 8} {s : State} {t : State} (e : execAgcPeriod n s = .next t) :
    Within 4854592744389995550212128 s t := by
  exact endsIn_within (fesFollowBoth_within
    (agcPeriod_within (Within.refl _ _) (by simp)) (by simp)) e

theorem execGainSet_within {o : Origin} {n : Fin 8} {code : BitVec 6} {s : State} {t : State} (e : execGainSet o n code s = .next t) :
    Within 5070602400894479305887526680562 s t := by
  exact endsIn_within (fesFollowBoth_within
    (fieldWrite_within (Within.refl _ _) (by simp)) (by simp)) e

theorem execFastStep_within {n : Fin 8} {s : State} {t : State} (e : execFastStep n s = .next t) :
    Within 4854592744389995550212128 s t := by
  exact endsIn_within (fesFollowBoth_within
    (fastStep_within (Within.refl _ _) (by simp)) (by simp)) e

theorem execClip_within {n : Fin 8} {codes : List Int} {s : State} {t : State} (e : execClip n codes s = .next t) :
    Within 5070602400894478743350714499104 s t := by
  exact endsIn_within (fesFollowBoth_within
    (laneBlock_within
      (pageBoundary_within (Within.refl _ _) (by simp)) (by simp)) (by simp)) e

theorem execClipIntervalEnd_within {n : Fin 8} {s : State} {t : State} (e : execClipIntervalEnd n s = .next t) :
    Within 4854592744389995548114976 s t := by
  exact endsIn_within (fesFollowBoth_within
    (clipIntervalEnd_within (Within.refl _ _) (by simp)) (by simp)) e

theorem execGainLimit_within {n : Fin 8} {s : State} {t : State} (e : execGainLimit n s = .next t) :
    Within 4854592744389995548114976 s t := by
  exact endsIn_within (fesFollowBoth_within
    (gainLimit_within (Within.refl _ _) (by simp)) (by simp)) e

theorem execLrxFgCal_within {n : Fin 8} {ms : List (List (Int × Int))} {afe : List (Int × Int)} {s : State} {t : State} (e : execLrxFgCal n ms afe s = .next t) :
    Within 4855183040200354256125984 s t := by
  exact endsIn_within (fesFollowBoth_within
    (lrxFgCal_within (Within.refl _ _) (by simp)) (by simp)) e

theorem execAdcBgCalStep_within {n : Fin 8} {m : Int × Int} {s : State} {t : State} (e : execAdcBgCalStep n m s = .next t) :
    Within 4855183040200354256125984 s t := by
  exact endsIn_within (fesFollowBoth_within
    (adcStep_within (Within.refl _ _) (by simp)) (by simp)) e

theorem execUnretire_within {o : Origin} {n : Fin 8} {s : State} {t : State} (e : execUnretire o n s = .next t) :
    Within 5070602400894479305887526680562 s t := by
  exact endsIn_within (fesFollowBoth_within
    (fieldWrite_within (Within.refl _ _) (by simp)) (by simp)) e

theorem execLaneClockLoss_within {c : Carrier} {s : State} {t : State} (e : execLaneClockLoss c s = .next t) :
    Within 18421630547200394951691088160 s t := by
  exact endsIn_within (fesFollowBoth_within
    (lanesLose_within (Within.refl _ _) (by simp)) (by simp)) e

theorem execLaneClockResume_within {c : Carrier} {s : State} {t : State} (e : execLaneClockResume c s = .next t) :
    Within 4854592744389995550212128 s t := by
  exact endsIn_within (fesFollowBoth_within
    (laneClockResume_within (Within.refl _ _) (by simp)) (by simp)) e

theorem execHistStart_within {o : Origin} {n : Fin 8} {w : Word} {s : State} {t : State} (e : execHistStart o n w s = .next t) :
    Within 5070602400894479305887526680562 s t := by
  exact endsIn_within (fesFollowBoth_within
    (wordWrite_within (Within.refl _ _) (by simp)) (by simp)) e

theorem execHistDone_within {n : Fin 8} {s : State} {t : State} (e : execHistDone n s = .next t) :
    Within 4854592744389995548114976 s t := by
  exact endsIn_within (fesFollowBoth_within
    (histDone_within (Within.refl _ _) (by simp)) (by simp)) e

theorem execSnapArm_within {o : Origin} {n : Fin 8} {w : Word} {s : State} {t : State} (e : execSnapArm o n w s = .next t) :
    Within 5070602400894479305887526680562 s t := by
  exact endsIn_within (fesFollowBoth_within
    (wordWrite_within (Within.refl _ _) (by simp)) (by simp)) e

theorem execCdScanStart_within {c : Carrier} {s : State} {t : State} (e : execCdScanStart c s = .next t) :
    Within 18889465931478866067488 s t := by
  exact endsIn_within (fesFollowBoth_within
    (scanStart_within (Within.refl _ _) (by simp)) (by simp)) e

theorem execCdScanComplete_within {c : Carrier} {coarse : List Nat} {fine : List Nat} {s : State} {t : State} (e : execCdScanComplete c coarse fine s = .next t) :
    Within 18494166096377272702173458720 s t := by
  exact endsIn_within (fesFollowBoth_within
    (scanComplete_within (Within.refl _ _) (by simp)) (by simp)) e

theorem execCdTrackStep_within {c : Carrier} {s : State} {t : State} (e : execCdTrackStep c s = .next t) :
    Within 77390141921267746047262752 s t := by
  exact endsIn_within (fesFollowBoth_within
    (cdTrackStep_within (Within.refl _ _) (by simp)) (by simp)) e

theorem execCdSetWrite_within {o : Origin} {c : Carrier} {cd : BitVec 18} {s : State} {t : State} (e : execCdSetWrite o c cd s = .next t) :
    Within 5070602400894479305887526680562 s t := by
  exact endsIn_within (fesFollowBoth_within
    (fieldWrite_within (Within.refl _ _) (by simp)) (by simp)) e

theorem execTimingLock_within {c : Carrier} {ofs : Int} {s : State} {t : State} (e : execTimingLock c ofs s = .next t) :
    Within 18416794843921936434992263456 s t := by
  exact endsIn_within (fesFollowBoth_within
    (timingLock_within (Within.refl _ _) (by simp)) (by simp)) e

theorem execTimingLockLost_within {c : Carrier} {ofs : Option Int} {s : State} {t : State} (e : execTimingLockLost c ofs s = .next t) :
    Within 18416794843921936434992263456 s t := by
  exact endsIn_within (fesFollowBoth_within
    (timingLost_within (Within.refl _ _) (by simp)) (by simp)) e

theorem execAutoSkewEstimate_within {c : Carrier} {est : List Int} {s : State} {t : State} (e : execAutoSkewEstimate c est s = .next t) :
    Within 309806204531409399031267376 s t := by
  exact endsIn_within (fesFollowBoth_within
    (autoSkew_within (Within.refl _ _) (by simp)) (by simp)) e

theorem execEqzLmsUpdate_within {c : Carrier} {grads : List (Int × Int)} {s : State} {t : State} (e : execEqzLmsUpdate c grads s = .next t) :
    Within 154761394377729913152077856 s t := by
  exact endsIn_within (fesFollowBoth_within
    (lmsUpdate_within (Within.refl _ _) (by simp)) (by simp)) e

theorem execSingularity_within {c : Carrier} {corr : Nat} {cost : Nat} {s : State} {t : State} (e : execSingularity c corr cost s = .next t) :
    Within 154761394376604013245235232 s t := by
  exact endsIn_within (fesFollowBoth_within
    (singularity_within (Within.refl _ _) (by simp)) (by simp)) e

theorem execChannelEstimate_within {c : Carrier} {s : State} {t : State} (e : execChannelEstimate c s = .next t) :
    Within 154761394376604013245235232 s t := by
  exact endsIn_within (fesFollowBoth_within
    (channelEstimate_within (Within.refl _ _) (by simp)) (by simp)) e

theorem execEqzSwap_within {o : Origin} {c : Carrier} {w : Word} {s : State} {t : State} (e : execEqzSwap o c w s = .next t) :
    Within 5070602400894479305887526680562 s t := by
  exact endsIn_within (fesFollowBoth_within
    (wordWrite_within (Within.refl _ _) (by simp)) (by simp)) e

theorem execEqzXfadeEnd_within {c : Carrier} {s : State} {t : State} (e : execEqzXfadeEnd c s = .next t) :
    Within 154761394376604013211680800 s t := by
  exact endsIn_within (fesFollowBoth_within
    (Within.ite (fadeEnd_within (Within.refl _ _) (by simp) (by simp)) (Within.refl _ _)) (by simp)) e

theorem execEqzCopy_within {o : Origin} {c : Carrier} {s : State} {t : State} (e : execEqzCopy o c s = .next t) :
    Within 5070602400894479305887526680562 s t := by
  exact endsIn_within (fesFollowBoth_within
    (fieldWrite_within (Within.refl _ _) (by simp)) (by simp)) e

theorem execEqzInit_within {o : Origin} {c : Carrier} {s : State} {t : State} (e : execEqzInit o c s = .next t) :
    Within 5070602400894479305887526680562 s t := by
  exact endsIn_within (fesFollowBoth_within
    (fieldWrite_within (Within.refl _ _) (by simp)) (by simp)) e

theorem execCoefDataAccess_within {o : Origin} {c : Carrier} {value : Option Word} {s : State} {t : State} (e : execCoefDataAccess o c value s = .next t) :
    Within 5070602400894479305887526680566 s t := by
  exact endsIn_within (wordAccess_within (Within.refl _ _) (by simp)) e

theorem execShadowSnap_within {o : Origin} {c : Carrier} {s : State} {t : State} (e : execShadowSnap o c s = .next t) :
    Within 5070602400894479305887526680562 s t := by
  exact endsIn_within (fesFollowBoth_within
    (fieldWrite_within (Within.refl _ _) (by simp)) (by simp)) e

theorem execAcqBegin_within {c : Carrier} {s : State} {t : State} (e : execAcqBegin c s = .next t) :
    Within 18494166096377272702173458720 s t := by
  exact endsIn_within (fesFollowBoth_within
    (acqBegin_within (Within.refl _ _) (by simp)) (by simp)) e

theorem execAcqTimeout_within {c : Carrier} {s : State} {t : State} (e : execAcqTimeout c s = .next t) :
    Within 18494166096377272702173458720 s t := by
  exact endsIn_within (fesFollowBoth_within
    (acqTimeout_within (Within.refl _ _) (by simp)) (by simp)) e

theorem execBlindConverged_within {c : Carrier} {cost : Nat} {s : State} {t : State} (e : execBlindConverged c cost s = .next t) :
    Within 18416794843921936434992263456 s t := by
  exact endsIn_within (fesFollowBoth_within
    (blindConverged_within (Within.refl _ _) (by simp)) (by simp)) e

theorem execTrainingDetect_within {c : Carrier} {x : Option (Carrier × Bool)} {y : Option (Carrier × Bool)} {index : Nat} {s : State} {t : State} (e : execTrainingDetect c x y index s = .next t) :
    Within 18416794843921936434992263456 s t := by
  exact endsIn_within (fesFollowBoth_within
    (trainingDetect_within (Within.refl _ _) (by simp)) (by simp)) e

theorem execAcqRestart_within {o : Origin} {c : Carrier} {s : State} {t : State} (e : execAcqRestart o c s = .next t) :
    Within 5070602400894479305887526680562 s t := by
  exact endsIn_within (fesFollowBoth_within
    (fieldWrite_within (Within.refl _ _) (by simp)) (by simp)) e

theorem execCprTrainingBlock_within {c : Carrier} {x : List (Int × Int)} {y : List (Int × Int)} {s : State} {t : State} (e : execCprTrainingBlock c x y s = .next t) :
    Within 17952567329189918831854760224 s t := by
  exact endsIn_within (fesFollowBoth_within
    (trainingBlock_within (Within.refl _ _) (by simp)) (by simp)) e

theorem execFoLock_within {c : Carrier} {s : State} {t : State} (e : execFoLock c s = .next t) :
    Within 17952567329189918831854760224 s t := by
  exact endsIn_within (fesFollowBoth_within
    (foLock_within (Within.refl _ _) (by simp)) (by simp)) e

theorem execFoRange_within {c : Carrier} {s : State} {t : State} (e : execFoRange c s = .next t) :
    Within 17952567329189918831854760224 s t := by
  exact endsIn_within (fesFollowBoth_within
    (foRange_within (Within.refl _ _) (by simp)) (by simp)) e

theorem execPilotSlipCheck_within {c : Carrier} {x : List (Int × Int)} {y : List (Int × Int)} {s : State} {t : State} (e : execPilotSlipCheck c x y s = .next t) :
    Within 618988909108621616311435296 s t := by
  exact endsIn_within (fesFollowBoth_within
    (pilotArrives_within (Within.refl _ _) (by simp)) (by simp)) e

theorem execPchRecordWrite_within {c : Carrier} {s : State} {t : State} (e : execPchRecordWrite c s = .next t) :
    Within 618970019642690137587974176 s t := by
  exact endsIn_within (pchRecordWrite_within (Within.refl _ _) (by simp)) e

theorem execPchRingEntries_within {o : Origin} {c : Carrier} {entries : BitVec 8} {s : State} {t : State} (e : execPchRingEntries o c entries s = .next t) :
    Within 5070602400894479305887526680562 s t := by
  exact endsIn_within (fieldWrite_within (Within.refl _ _) (by simp)) e

theorem execMlsEstimateUpdate_within {c : Carrier} {s : State} {t : State} (e : execMlsEstimateUpdate c s = .next t) :
    Within 1237940039285380274907512864 s t := by
  exact endsIn_within (mlsUpdate_within (Within.refl _ _) (by simp)) e

theorem execTrellisReset_within {c : Carrier} {s : State} {t : State} (e : execTrellisReset c s = .next t) :
    Within 1237940039285380274907512864 s t := by
  exact endsIn_within (trellisReset_within (Within.refl _ _) (by simp)) e

theorem execSnrUpdate_within {c : Carrier} {s : State} {t : State} (e : execSnrUpdate c s = .next t) :
    Within 17333597309547228694401003808 s t := by
  exact endsIn_within (fesFollowBoth_within
    (snrUpdate_within (Within.refl _ _) (by simp)) (by simp)) e

theorem execFecHuntObservation_within {c : Carrier} {s : State} {t : State} (e : execFecHuntObservation c s = .next t) :
    Within 14857717230976468144594366752 s t := by
  exact endsIn_within (fesFollowBoth_within
    (huntObservation_within (Within.refl _ _) (by simp)) (by simp)) e

theorem execFecCheckResult_within {c : Carrier} {s : State} {t : State} (e : execFecCheckResult c s = .next t) :
    Within 14857717230976468144594366752 s t := by
  exact endsIn_within (fesFollowBoth_within
    (checkResult_within (Within.refl _ _) (by simp)) (by simp)) e

theorem execUncorrectableBlock_within {c : Carrier} {s : State} {t : State} (e : execUncorrectableBlock c s = .next t) :
    Within 5070602400894477617485167407392 s t := by
  exact endsIn_within (fesFollowBoth_within
    (uncorrectableBlock_within
      (pageBoundary_within (Within.refl _ _) (by simp)) (by simp)) (by simp)) e

theorem execFecWindowEnd_within {c : Carrier} {s : State} {t : State} (e : execFecWindowEnd c s = .next t) :
    Within 14857717230976468144594366752 s t := by
  exact endsIn_within (fesFollowBoth_within
    (windowEnd_within (Within.refl _ _) (by simp)) (by simp)) e

end Sys2Proof.Machine
end

