-- ==== Sys2Proof/Laws/PilotChannel.lean ====
section
/-! SUPPORT. Laws/PilotChannel.lean: the parts of the state that each operation of Machine/PilotChannel.lean can change. -/
namespace Sys2Proof.Machine

set_option Elab.async false

open Sys2Proof

theorem putSearch_within {K : Nat} {x : Carrier} {p : PilotSearch} {s0 s : State} (h : Within K s0 s) (hk : 536870912 ||| K = K) :
    Within K s0 (putSearch x p s) := by
  unfold putSearch
  extract_lets -merge -useContext x1
  try clear_value x1
  exact (State.setQlt_within h hk)

theorem takeRecord_within {K : Nat} {x : Carrier} {s0 s : State} (h : Within K s0 s) (hk : 5070602400894479305887526680560 ||| K = K) :
    Within K s0 (takeRecord x s) := by
  unfold takeRecord
  extract_lets -merge -useContext x1 x2 x3 x4 x5
  try clear_value x1
  try clear_value x2
  try clear_value x3
  try clear_value x4
  try clear_value x5
  exact (Within.ite h
    (writeField_within
      (putSearch_within h (Within.sub hk (by simp))) hk))

theorem takeRecords_within {K : Nat} {x : Carrier} {s0 s : State} (h : Within K s0 s) (hk : 5070602400894479305887526680560 ||| K = K) :
    Within K s0 (takeRecords x s) := by
  unfold takeRecords
  exact (Within.ite (Within.foldl _ (fun _ _ h1 => (takeRecord_within h1 hk))
      h)
    h)

theorem searchWords_within {K : Nat} {x : Carrier} {s0 s : State} (h : Within K s0 s) (hk : 2417851639229258886283264 ||| K = K) :
    Within K s0 (searchWords x s) := by
  unfold searchWords
  extract_lets -merge -useContext x1
  try clear_value x1
  split
  · skip
    exact (putSearch_within
      (State.set_within h (Within.sub hk (by simp))) (Within.sub hk (by simp)))
  · skip
    exact (putSearch_within h (Within.sub hk (by simp)))

theorem wordSync_within {K : Nat} {x : Carrier} {s0 s : State} (h : Within K s0 s) (hk : 5070602400894479305887526680560 ||| K = K) :
    Within K s0 (wordSync x s) := by
  unfold wordSync
  extract_lets -merge -useContext x1
  have h1 : Within K s0 x1 := by
    unfold x1
    exact (takeRecords_within h hk)
  clear_value x1
  exact (Within.ite (searchWords_within h1 (Within.sub hk (by simp)))
    h1)

theorem wordSyncLoss_within {K : Nat} {x : Carrier} {s0 s : State} (h : Within K s0 s) (hk : 2417851639229258886283264 ||| K = K) :
    Within K s0 (wordSyncLoss x s) := by
  unfold wordSyncLoss
  extract_lets -merge -useContext x1
  try clear_value x1
  exact (Within.ite (leaveWordSync_within
      (putSearch_within h (Within.sub hk (by simp))) hk)
    h)

theorem pilotWord_within {K : Nat} {x : Carrier} {s0 s : State} (h : Within K s0 s) (hk : 5070602400894479305887526680560 ||| K = K) :
    Within K s0 (pilotWord x s) := by
  unfold pilotWord
  extract_lets -merge -useContext x1 x2 x3 x4
  have h1 : Within K s0 x1 := by
    unfold x1
    exact (takeRecords_within h hk)
  clear_value x1
  try clear_value x2
  try clear_value x3
  try clear_value x4
  exact (Within.ite h1
    (linkWord_within
      (putSearch_within h1 (Within.sub hk (by simp))) (Within.sub hk (by simp))))

theorem wordArrives_within {K : Nat} {x : Carrier} {w : LinkArrival} {s0 s : State} (h : Within K s0 s) (hk : 5070602400894479305887526680560 ||| K = K) :
    Within K s0 (wordArrives x w s) := by
  unfold wordArrives
  split
  · skip
    exact (pilotWord_within h hk)
  · skip
    exact (linkWord_within h (Within.sub hk (by simp)))

end Sys2Proof.Machine
end

