-- ==== Sys2Proof/Laws/QuoletCommands.lean ====
section
/-! SUPPORT. Laws/QuoletCommands.lean: the parts of the state that each operation of Machine/QuoletCommands.lean can change. -/
namespace Sys2Proof.Machine

set_option Elab.async false

open Sys2Proof

theorem execRatchetDue_within {x : Carrier} {s : State} {t : State} (e : execRatchetDue x s = .next t) :
    Within 19809458480206439558252888064 s t := by
  exact endsIn_within (intervalRatchet_within (Within.refl _ _) (by simp)) e

theorem execRekeyAnnounce_within {x : Carrier} {s : State} {t : State} (e : execRekeyAnnounce x s = .next t) :
    Within 19809458480206439558252888064 s t := by
  exact endsIn_within (ratchetRetry_within (Within.refl _ _) (by simp)) e

theorem execActivationDeadline_within {x : Carrier} {s : State} {t : State} (e : execActivationDeadline x s = .next t) :
    Within 19809458480206439558252888096 s t := by
  exact endsIn_within (activationDeadline_within (Within.refl _ _) (by simp)) e

theorem execActivationTakeEffect_within {x : Carrier} {s : State} {t : State} (e : execActivationTakeEffect x s = .next t) :
    Within 19809458480206439558252888096 s t := by
  exact endsIn_within (activationEffect_within (Within.refl _ _) (by simp)) e

theorem execRetainedSlotExpiry_within {c : Carrier} {s : State} {t : State} (e : execRetainedSlotExpiry c s = .next t) :
    Within 19807040628566084398386020352 s t := by
  exact endsIn_within (expireRetained_within (Within.refl _ _) (by simp)) e

theorem execSlotExpiry_within {c : Carrier} {receive : Bool} {i : Fin 4} {s : State} {t : State} (e : execSlotExpiry c receive i s = .next t) :
    Within 2555108241085024887392866181152 s t := by
  exact endsIn_within (expireSlot_within (Within.refl _ _) (by simp)) e

theorem execEpochExchangeStart_within {x : Carrier} {s : State} {t : State} (e : execEpochExchangeStart x s = .next t) :
    Within 2417851639229259960025088 s t := by
  exact endsIn_within (by
    split
    · skip
      exact (exchangeWhenDue_within (Within.refl _ _) (by simp))
    · skip
      exact (Within.refl _ _)) e

theorem execEpochExhausted_within {x : Carrier} {s : State} {t : State} (e : execEpochExhausted x s = .next t) :
    Within 2417851639229259960025088 s t := by
  exact endsIn_within (by
    split
    · skip
      exact (epochExhausted_within (Within.refl _ _) (by simp))
    · skip
      exact (Within.refl _ _)) e

theorem execWakeSend_within {o : Origin} {w : Word} {s : State} {t : State} (e : execWakeSend o w s = .next t) :
    Within 5070602400894479305887526680562 s t := by
  exact endsIn_within (wordWrite_within (Within.refl _ _) (by simp)) e

theorem execWakeBurst_within {x : Carrier} {s : State} {t : State} (e : execWakeBurst x s = .next t) :
    Within 2417851643732858782089216 s t := by
  exact endsIn_within (wakeBurst_within (Within.refl _ _) (by simp)) e

theorem execWakeWordRx_within {x : Carrier} {w : BitVec 64} {s : State} {t : State} (e : execWakeWordRx x w s = .next t) :
    Within 2417999217755885922156704 s t := by
  exact endsIn_within (by
    extract_lets -merge -useContext x1
    have h1 : Within (2417999217755885922156704 ||| 2 ^ 53) s x1.1 := by
      unfold x1
      exact (wakeWordRx_within (Within.refl _ _) (by simp))
    clear_value x1
    exact (Within.ite (wake_within
        (State.raiseIf_within h1 (by simp) (by simp)) (by simp))
      h1)) e

theorem execAnswerSend_within {x : Carrier} {s : State} {t : State} (e : execAnswerSend x s = .next t) :
    Within 536870912 s t := by
  exact endsIn_within (answerSend_within (Within.refl _ _) (by simp)) e

theorem execPchWordSync_within {x : Carrier} {s : State} {t : State} (e : execPchWordSync x s = .next t) :
    Within 5070602400894479305887526680560 s t := by
  exact endsIn_within (wordSync_within (Within.refl _ _) (by simp)) e

theorem execPchWordSyncLoss_within {x : Carrier} {s : State} {t : State} (e : execPchWordSyncLoss x s = .next t) :
    Within 2417851639229258886283264 s t := by
  exact endsIn_within (wordSyncLoss_within (Within.refl _ _) (by simp)) e

theorem execLinkWord_within {x : Carrier} {w : LinkArrival} {s : State} {t : State} (e : execLinkWord x w s = .next t) :
    Within 5070602400894479305887526680560 s t := by
  exact endsIn_within (switchReport_within
    (wordArrives_within (Within.refl _ _) (by simp)) (by simp)) e

theorem execAck_within {x : Carrier} {m : Message} {s : State} {t : State} (e : execAck x m s = .next t) :
    Within 2555110696715597105517410943008 s t := by
  exact endsIn_within (switchReport_within
    (receiveMessage_within (Within.refl _ _) (by simp)) (by simp)) e

theorem execHello_within {x : Carrier} {m : Message} {s : State} {t : State} (e : execHello x m s = .next t) :
    Within 2555110696715597105517410943008 s t := by
  exact endsIn_within (switchReport_within
    (receiveMessage_within (Within.refl _ _) (by simp)) (by simp)) e

theorem execCaps_within {x : Carrier} {m : Message} {s : State} {t : State} (e : execCaps x m s = .next t) :
    Within 2555110696715597105517410943008 s t := by
  exact endsIn_within (switchReport_within
    (receiveMessage_within (Within.refl _ _) (by simp)) (by simp)) e

theorem execAttest_within {x : Carrier} {m : Message} {s : State} {t : State} (e : execAttest x m s = .next t) :
    Within 2555110696715597105517410943008 s t := by
  exact endsIn_within (switchReport_within
    (receiveMessage_within (Within.refl _ _) (by simp)) (by simp)) e

theorem execKemInit_within {x : Carrier} {m : Message} {s : State} {t : State} (e : execKemInit x m s = .next t) :
    Within 2555110696715597105517410943008 s t := by
  exact endsIn_within (switchReport_within
    (receiveMessage_within (Within.refl _ _) (by simp)) (by simp)) e

theorem execKemResp_within {x : Carrier} {m : Message} {s : State} {t : State} (e : execKemResp x m s = .next t) :
    Within 2555110696715597105517410943008 s t := by
  exact endsIn_within (switchReport_within
    (receiveMessage_within (Within.refl _ _) (by simp)) (by simp)) e

theorem execKeyConfirm_within {x : Carrier} {m : Message} {s : State} {t : State} (e : execKeyConfirm x m s = .next t) :
    Within 2555110696715597105517410943008 s t := by
  exact endsIn_within (switchReport_within
    (receiveMessage_within (Within.refl _ _) (by simp)) (by simp)) e

theorem execRekey_within {x : Carrier} {m : Message} {s : State} {t : State} (e : execRekey x m s = .next t) :
    Within 2555110696715597105517410943008 s t := by
  exact endsIn_within (switchReport_within
    (receiveMessage_within (Within.refl _ _) (by simp)) (by simp)) e

theorem execRateOffer_within {x : Carrier} {m : Message} {s : State} {t : State} (e : execRateOffer x m s = .next t) :
    Within 2555110696715597105517410943008 s t := by
  exact endsIn_within (switchReport_within
    (receiveMessage_within (Within.refl _ _) (by simp)) (by simp)) e

theorem execRateAccept_within {x : Carrier} {m : Message} {s : State} {t : State} (e : execRateAccept x m s = .next t) :
    Within 2555110696715597105517410943008 s t := by
  exact endsIn_within (switchReport_within
    (receiveMessage_within (Within.refl _ _) (by simp)) (by simp)) e

theorem execStep_within {x : Carrier} {m : Message} {s : State} {t : State} (e : execStep x m s = .next t) :
    Within 2555110696715597105517410943008 s t := by
  exact endsIn_within (switchReport_within
    (receiveMessage_within (Within.refl _ _) (by simp)) (by simp)) e

theorem execStepAck_within {x : Carrier} {m : Message} {s : State} {t : State} (e : execStepAck x m s = .next t) :
    Within 2555110696715597105517410943008 s t := by
  exact endsIn_within (switchReport_within
    (receiveMessage_within (Within.refl _ _) (by simp)) (by simp)) e

theorem execRouteSwitch_within {x : Carrier} {m : Message} {s : State} {t : State} (e : execRouteSwitch x m s = .next t) :
    Within 2555110696715597105517410943008 s t := by
  exact endsIn_within (switchReport_within
    (receiveMessage_within (Within.refl _ _) (by simp)) (by simp)) e

theorem execSleepReq_within {x : Carrier} {r : SleepRequest} {s : State} {t : State} (e : execSleepReq x r s = .next t) :
    Within 2555110696715597105517410943008 s t := by
  exact endsIn_within (by
    split
    · skip
      exact (switchReport_within
        (receiveMessage_within (Within.refl _ _) (by simp)) (by simp))
    · skip
      split
      · skip
        exact (sleepAsk_within (Within.refl _ _) (by simp))
      · skip
        exact (Within.refl _ _)) e

theorem execWakeMsg_within {x : Carrier} {r : WakeRequest} {s : State} {t : State} (e : execWakeMsg x r s = .next t) :
    Within 2555110696715597105517410943008 s t := by
  exact endsIn_within (by
    split
    · skip
      exact (switchReport_within
        (receiveMessage_within (Within.refl _ _) (by simp)) (by simp))
    · skip
      split
      · skip
        exact (sleepCancel_within (Within.refl _ _) (by simp))
      · skip
        exact (Within.refl _ _)) e

theorem execTelemetry_within {x : Carrier} {r : TelemetryRequest} {s : State} {t : State} (e : execTelemetry x r s = .next t) :
    Within 2555110696715597105517410943008 s t := by
  exact endsIn_within (by
    split
    · skip
      exact (switchReport_within
        (receiveMessage_within (Within.refl _ _) (by simp)) (by simp))
    · skip
      split
      · skip
        exact (telemetrySend_within (Within.refl _ _) (by simp))
      · skip
        exact (Within.refl _ _)) e

theorem execTimeMsg_within {x : Carrier} {m : Message} {s : State} {t : State} (e : execTimeMsg x m s = .next t) :
    Within 2555110696715597105517410943008 s t := by
  exact endsIn_within (switchReport_within
    (receiveMessage_within (Within.refl _ _) (by simp)) (by simp)) e

theorem execRefuse_within {x : Carrier} {m : Message} {s : State} {t : State} (e : execRefuse x m s = .next t) :
    Within 2555110696715597105517410943008 s t := by
  exact endsIn_within (switchReport_within
    (receiveMessage_within (Within.refl _ _) (by simp)) (by simp)) e

theorem execUnknownTypeMessage_within {x : Carrier} {type : BitVec 8} {m : Message} {s : State} {t : State} (e : execUnknownTypeMessage x type m s = .next t) :
    Within 2555110696715597105517410943008 s t := by
  exact endsIn_within (switchReport_within
    (receiveMessage_within (Within.refl _ _) (by simp)) (by simp)) e

theorem execRetxTimeout_within {k : Carrier} {seqNo : Nat} {s : State} {t : State} (e : execRetxTimeout k seqNo s = .next t) :
    Within 2417851639229258886283296 s t := by
  exact endsIn_within (retxTimeout_within (Within.refl _ _) (by simp)) e

theorem execAckTimer_within {k : Carrier} {s : State} {t : State} (e : execAckTimer k s = .next t) :
    Within 2417851639229258886283264 s t := by
  exact endsIn_within (ackTimer_within (Within.refl _ _) (by simp)) e

theorem execTimeSend_within {x : Carrier} {s : State} {t : State} (e : execTimeSend x s = .next t) :
    Within 2417851643732858513653760 s t := by
  exact endsIn_within (timeSend_within (Within.refl _ _) (by simp)) e

theorem execCsfTimestamp_within {x : Carrier} {receive : Bool} {csf : Nat} {stamp : Nat} {s : State} {t : State} (e : execCsfTimestamp x receive csf stamp s = .next t) :
    Within 536870912 s t := by
  exact endsIn_within (keepStamp_within (Within.refl _ _) (by simp)) e

theorem execPathStateChange_within {x : Carrier} {s : State} {t : State} (e : execPathStateChange x s = .next t) :
    Within 5070602400894479305887526680560 s t := by
  exact endsIn_within (switchReport_within
    (pathMoved_within (Within.refl _ _) (by simp)) (by simp)) e

theorem execHandshakeTimeout_within {k : Carrier} {s : State} {t : State} (e : execHandshakeTimeout k s = .next t) :
    Within 2535303618308098032253366435872 s t := by
  exact endsIn_within (handshakeTimeout_within (Within.refl _ _) (by simp)) e

theorem execFailedRetry_within {k : Carrier} {s : State} {t : State} (e : execFailedRetry k s = .next t) :
    Within 2417851639229259960025120 s t := by
  exact endsIn_within (failedRetry_within (Within.refl _ _) (by simp)) e

theorem execSessionPathless_within {k : Carrier} {s : State} {t : State} (e : execSessionPathless k s = .next t) :
    Within 2417851639229258886283296 s t := by
  exact endsIn_within (sessionPathless_within (Within.refl _ _) (by simp)) e

theorem execPchModulationChange_within {x : Carrier} {s : State} {t : State} (e : execPchModulationChange x s = .next t) :
    Within 5070602400894479305887526680560 s t := by
  exact endsIn_within (modulationChange_within (Within.refl _ _) (by simp)) e

theorem execPchRxClear_within {x : Carrier} {s : State} {t : State} (e : execPchRxClear x s = .next t) :
    Within 5070602400894479305887526680560 s t := by
  exact endsIn_within (pchRxClear_within (Within.refl _ _) (by simp)) e

theorem execStepOffer_within {x : Carrier} {s : State} {t : State} (e : execStepOffer x s = .next t) :
    Within 2417851640355158793125888 s t := by
  exact endsIn_within (stepOffer_within (Within.refl _ _) (by simp)) e

theorem execStepOfferDeadline_within {x : Carrier} {s : State} {t : State} (e : execStepOfferDeadline x s = .next t) :
    Within 2417851639229258349412384 s t := by
  exact endsIn_within (offerDeadline_within (Within.refl _ _) (by simp)) e

theorem execStepRestart_within {x : Carrier} {s : State} {t : State} (e : execStepRestart x s = .next t) :
    Within 5070602400894479305887526680560 s t := by
  exact endsIn_within (stepRestart_within (Within.refl _ _) (by simp)) e

theorem execArmedLapse_within {x : Carrier} {jump : Bool} {s : State} {t : State} (e : execArmedLapse x jump s = .next t) :
    Within 2417851639229258349412384 s t := by
  exact endsIn_within (Within.ite (armedJump_within (Within.refl _ _) (by simp))
    (armedLapse_within (Within.refl _ _) (by simp))) e

theorem execStepConfirming_within {x : Carrier} {s : State} {t : State} (e : execStepConfirming x s = .next t) :
    Within 2417851639229258886283264 s t := by
  exact endsIn_within (stepConfirming_within (Within.refl _ _) (by simp)) e

theorem execStepDone_within {x : Carrier} {s : State} {t : State} (e : execStepDone x s = .next t) :
    Within 2417851639229258886283296 s t := by
  exact endsIn_within (stepDone_within (Within.refl _ _) (by simp)) e

theorem execFallback_within {x : Carrier} {s : State} {t : State} (e : execFallback x s = .next t) :
    Within 5070602400894479305887526680560 s t := by
  exact endsIn_within (fallback_within (Within.refl _ _) (by simp)) e

theorem execStepDown_within {x : Carrier} {s : State} {t : State} (e : execStepDown x s = .next t) :
    Within 2417851640355158793125888 s t := by
  exact endsIn_within (stepDown_within (Within.refl _ _) (by simp)) e

theorem execStepBackoffEnd_within {x : Carrier} {s : State} {t : State} (e : execStepBackoffEnd x s = .next t) :
    Within 536870912 s t := by
  exact endsIn_within (backoffEnd_within (Within.refl _ _) (by simp)) e

theorem execSleepDelayExpiry_within {s : State} {t : State} (e : execSleepDelayExpiry s = .next t) :
    Within 302452820407678947819696 s t := by
  exact endsIn_within (sleepDue_within (Within.refl _ _) (by simp)) e

theorem execKqErase_within {k : Carrier} {s : State} {t : State} (e : execKqErase k s = .next t) :
    Within 536870912 s t := by
  exact endsIn_within (eraseOldKq_within (Within.refl _ _) (by simp)) e

end Sys2Proof.Machine
end

