-- ==== Sys2Proof/Laws/RouteCommands.lean ====
section
/-! SUPPORT. Laws/RouteCommands.lean: the parts of the state that each operation of Machine/RouteCommands.lean can change. -/
namespace Sys2Proof.Machine

set_option Elab.async false

open Sys2Proof

theorem execRpsOutputInstant_within {s : State} {t : State} (e : execRpsOutputInstant s = .next t) :
    Within 108943596939323785707935285280 s t := by
  exact endsIn_within (outputInstant_within (Within.refl _ _) (by simp)) e

theorem execRpsPairState_within {s : State} {t : State} (e : execRpsPairState s = .next t) :
    Within 4873482210321482452566048 s t := by
  exact endsIn_within (pairStep_within (Within.refl _ _) (by simp)) e

theorem execRealign_within {s : State} {t : State} (e : execRealign s = .next t) :
    Within 37778931862965751644192 s t := by
  exact endsIn_within (realignDrift_within (Within.refl _ _) (by simp)) e

theorem execRpsCmdRealign_within {o : Origin} {s : State} {t : State} (e : execRpsCmdRealign o s = .next t) :
    Within 5070602400894479305887526680562 s t := by
  exact endsIn_within (fieldWrite_within (Within.refl _ _) (by simp)) e

theorem execRpsCmdManual_within {o : Origin} {route : Fin 2} {s : State} {t : State} (e : execRpsCmdManual o route s = .next t) :
    Within 5070602400894479305887526680562 s t := by
  exact endsIn_within (wordWrite_within (Within.refl _ _) (by simp)) e

theorem execRpsCmdForced_within {o : Origin} {route : Fin 2} {s : State} {t : State} (e : execRpsCmdForced o route s = .next t) :
    Within 5070602400894479305887526680562 s t := by
  exact endsIn_within (wordWrite_within (Within.refl _ _) (by simp)) e

theorem execRpsCmdClear_within {o : Origin} {route : Fin 2} {s : State} {t : State} (e : execRpsCmdClear o route s = .next t) :
    Within 5070602400894479305887526680562 s t := by
  exact endsIn_within (wordWrite_within (Within.refl _ _) (by simp)) e

theorem execRpsSfHoldoff_within {s : State} {t : State} (e : execRpsSfHoldoff s = .next t) :
    Within 37778931862965751644192 s t := by
  exact endsIn_within (sfHoldoff_within (Within.refl _ _) (by simp)) e

theorem execWtrExpiry_within {s : State} {t : State} (e : execWtrExpiry s = .next t) :
    Within 37778931862957161709600 s t := by
  exact endsIn_within (wtrExpiry_within (Within.refl _ _) (by simp)) e

theorem execRpsDramOn_within {s : State} {t : State} (e : execRpsDramOn s = .next t) :
    Within 4873482210321473862631456 s t := by
  exact endsIn_within (dramFollow_within (Within.refl _ _) (by simp)) e

theorem execSwRequest_within {s : State} {t : State} (e : execSwRequest s = .next t) :
    Within 2455630572218124544770048 s t := by
  exact endsIn_within (switchOnFailure_within (Within.refl _ _) (by simp)) e

theorem execSwRequestDeadline_within {s : State} {t : State} (e : execSwRequestDeadline s = .next t) :
    Within 37778931862957161709568 s t := by
  exact endsIn_within (switchDeadline_within (Within.refl _ _) (by simp)) e

theorem execSwToggle_within {s : State} {t : State} (e : execSwToggle s = .next t) :
    Within 37778936366565379014656 s t := by
  exact endsIn_within (switchToggle_within (Within.refl _ _) (by simp)) e

theorem execSwSettleExpiry_within {s : State} {t : State} (e : execSwSettleExpiry s = .next t) :
    Within 18494449512157725874595049776 s t := by
  exact endsIn_within (switchSettled_within (Within.refl _ _) (by simp)) e

theorem execSwDone_within {hitUs : Nat} {s : State} {t : State} (e : execSwDone hitUs s = .next t) :
    Within 2455630571092224637927456 s t := by
  exact endsIn_within (switchDone_within (Within.refl _ _) (by simp)) e

theorem execSwUnilateral_within {s : State} {t : State} (e : execSwUnilateral s = .next t) :
    Within 37778936366565379014688 s t := by
  exact endsIn_within (switchUnilateral_within (Within.refl _ _) (by simp)) e

theorem execFesEn_within {o : Origin} {c : Carrier} {en : Bool} {s : State} {t : State} (e : execFesEn o c en s = .next t) :
    Within 5070602400894479305887526680562 s t := by
  exact endsIn_within (fieldWrite_within (Within.refl _ _) (by simp)) e

theorem execModuleReady_within {c : Carrier} {outcome : Fin 3} {s : State} {t : State} (e : execModuleReady c outcome s = .next t) :
    Within 325917081050799646310448 s t := by
  exact endsIn_within (moduleReady_within (Within.refl _ _) (by simp)) e

theorem execTune_within {o : Origin} {c : Carrier} {s : State} {t : State} (e : execTune o c s = .next t) :
    Within 5070602400894479305887526680562 s t := by
  exact endsIn_within (fieldWrite_within (Within.refl _ _) (by simp)) e

theorem execWavelengthLock_within {c : Carrier} {outcome : Fin 3} {s : State} {t : State} (e : execWavelengthLock c outcome s = .next t) :
    Within 18889465931478849290272 s t := by
  exact endsIn_within (wavelengthLock_within (Within.refl _ _) (by simp)) e

theorem execTxReadyEntry_within {c : Carrier} {s : State} {t : State} (e : execTxReadyEntry c s = .next t) :
    Within 325917081050799579201584 s t := by
  exact endsIn_within (txReadyEntry_within (Within.refl _ _) (by simp)) e

theorem execTxReq_within {o : Origin} {c : Carrier} {s : State} {t : State} (e : execTxReq o c s = .next t) :
    Within 5070602400894479305887526680562 s t := by
  exact endsIn_within (fieldWrite_within (Within.refl _ _) (by simp)) e

theorem execTxHoldRelease_within {c : Carrier} {s : State} {t : State} (e : execTxHoldRelease c s = .next t) :
    Within 18889465931478849290272 s t := by
  exact endsIn_within (txHoldRelease_within (Within.refl _ _) (by simp)) e

theorem execTxHoldTimeout_within {c : Carrier} {s : State} {t : State} (e : execTxHoldTimeout c s = .next t) :
    Within 18889465931478580854816 s t := by
  exact endsIn_within (txHoldTimeout_within (Within.refl _ _) (by simp)) e

theorem execTxOff_within {o : Origin} {c : Carrier} {s : State} {t : State} (e : execTxOff o c s = .next t) :
    Within 5070602400894479305887526680562 s t := by
  exact endsIn_within (fieldWrite_within (Within.refl _ _) (by simp)) e

theorem execClrFault_within {o : Origin} {c : Carrier} {s : State} {t : State} (e : execClrFault o c s = .next t) :
    Within 5070602400894479305887526680562 s t := by
  exact endsIn_within (fieldWrite_within (Within.refl _ _) (by simp)) e

theorem execLosReading_within {c : Carrier} {code : Nat} {s : State} {t : State} (e : execLosReading c code s = .next t) :
    Within 18889465931478849290272 s t := by
  exact endsIn_within (fesFollowBoth_within
    (losReading_within (Within.refl _ _) (by simp)) (by simp)) e

theorem execFesFault_within {c : Carrier} {cause : Nat} {s : State} {t : State} (e : execFesFault c cause s = .next t) :
    Within 18889465931478849290272 s t := by
  exact endsIn_within (fesCause_within (Within.refl _ _) (by simp)) e

theorem execSafetyHoldState_within {c : Carrier} {s : State} {t : State} (e : execSafetyHoldState c s = .next t) :
    Within 18889465931478849290272 s t := by
  exact endsIn_within (safetyFollow_within (Within.refl _ _) (by simp)) e

theorem execFoMargin_within {c : Carrier} {s : State} {t : State} (e : execFoMargin c s = .next t) :
    Within 18889465931478849290272 s t := by
  exact endsIn_within (foMargin_within (Within.refl _ _) (by simp)) e

theorem execTiaGainStep_within {c : Carrier} {y : Bool} {s : State} {t : State} (e : execTiaGainStep c y s = .next t) :
    Within 325917081050799310766128 s t := by
  exact endsIn_within (tiaJudge_within (Within.refl _ _) (by simp)) e

theorem execCmisGo_within {o : Origin} {w : Word} {readings : List Int} {s : State} {t : State} (e : execCmisGo o w readings s = .next t) :
    Within 5070602400894479305887526680562 s t := by
  exact endsIn_within (busWrite_within (Within.refl _ _) (by simp)) e

theorem execCmisFlagPoll_within {c : Carrier} {asserted : Bool} {modState : Nat} {lock : Bool} {settling : Bool} {laserFault : Bool} {s : State} {t : State} (e : execCmisFlagPoll c asserted modState lock settling laserFault s = .next t) :
    Within 18889470435078476660768 s t := by
  exact endsIn_within (cmisPoll_within (Within.refl _ _) (by simp)) e

theorem execSynUnlock_within {n : Fin 3} {s : State} {t : State} (e : execSynUnlock n s = .next t) :
    Within 18440973360314229018486386976 s t := by
  exact endsIn_within (synUnlock_within (Within.refl _ _) (by simp)) e

theorem execSynRelock_within {n : Fin 3} {locked : Bool} {band : Int × Int} {s : State} {t : State} (e : execSynRelock n locked band s = .next t) :
    Within 24179106692606541829505056 s t := by
  exact endsIn_within (synRelock_within (Within.refl _ _) (by simp)) e

theorem tapRaiseDue_within {K : Nat} {c : Carrier} {s0 s : State} (h : Within K s0 s) (hk : 5070602400894479305887526680562 ||| K = K) :
    Within K s0 (tapRaiseDue c s) := by
  unfold tapRaiseDue
  extract_lets -merge -useContext x1 x2 x3
  try clear_value x1
  try clear_value x2
  have h3 : Within K s0 x3 := by
    unfold x3
    exact (putTap_within h (Within.sub hk (by simp)))
  clear_value x3
  exact (Within.ite h
    (Within.ite h3
      (wordWrite_within h3 hk)))

theorem execTelTick_within {inputs : TelInputs} {s : State} {t : State} (e : execTelTick inputs s = .next t) :
    Within 5070602400894479305887526680562 s t := by
  exact endsIn_within (tapRaiseDue_within
    (tapRaiseDue_within
      (telTick_within
        (telTickBoundary_within (Within.refl _ _) (by simp)) (by simp)) (by simp)) (by simp)) e

theorem execTelOutput_within {n : Fin 64} {s : State} {t : State} (e : execTelOutput n s = .next t) :
    Within 5070602400894479305887526680562 s t := by
  exact endsIn_within (tapRaiseDue_within
    (tapRaiseDue_within
      (telOutput_within
        (telBoundary_within (Within.refl _ _) (by simp)) (by simp)) (by simp)) (by simp)) e

theorem execTelSync_within {o : Option Origin} {s : State} {t : State} (e : execTelSync o s = .next t) :
    Within 5070602400894479305887526680562 s t := by
  exact endsIn_within (by
    split
    · skip
      exact (fieldWrite_within (Within.refl _ _) (by simp))
    · skip
      exact (telSyncPin_within (Within.refl _ _) (by simp))) e

theorem execLearn_within {o : Origin} {c : Carrier} {s : State} {t : State} (e : execLearn o c s = .next t) :
    Within 5070602400894479305887526680562 s t := by
  exact endsIn_within (fieldWrite_within (Within.refl _ _) (by simp)) e

theorem execLearnDone_within {c : Carrier} {s : State} {t : State} (e : execLearnDone c s = .next t) :
    Within 9444732965756470296608 s t := by
  exact endsIn_within (learnDone_within (Within.refl _ _) (by simp)) e

theorem execTapArm_within {o : Origin} {c : Carrier} {arm : Bool} {s : State} {t : State} (e : execTapArm o c arm s = .next t) :
    Within 5070602400894479305887526680562 s t := by
  exact endsIn_within (fieldWrite_within (Within.refl _ _) (by simp)) e

theorem execTapAck_within {o : Origin} {c : Carrier} {s : State} {t : State} (e : execTapAck o c s = .next t) :
    Within 5070602400894479305887526680562 s t := by
  exact endsIn_within (fieldWrite_within (Within.refl _ _) (by simp)) e

theorem execTapRaise_within {o : Origin} {c : Carrier} {rules : BitVec 5} {s : State} {t : State} (e : execTapRaise o c rules s = .next t) :
    Within 5070602400894479305887526680562 s t := by
  exact endsIn_within (wordWrite_within (Within.refl _ _) (by simp)) e

theorem execRingDrop_within {s : State} {t : State} (e : execRingDrop s = .next t) :
    Within 75557863725948683157536 s t := by
  exact endsIn_within (ringDrop_within (Within.refl _ _) (by simp)) e

theorem execCastTrigger_within {b : Fin 11} {s : State} {t : State} (e : execCastTrigger b s = .next t) :
    Within 4911261146688067158933536 s t := by
  exact endsIn_within (castArrives_within (Within.refl _ _) (by simp)) e

theorem execCastSwTrig_within {o : Origin} {s : State} {t : State} (e : execCastSwTrig o s = .next t) :
    Within 5070602400894479305887526680562 s t := by
  exact endsIn_within (fieldWrite_within (Within.refl _ _) (by simp)) e

theorem execCastHeldTrigger_within {s : State} {t : State} (e : execCastHeldTrigger s = .next t) :
    Within 4911261146688067158933536 s t := by
  exact endsIn_within (castHeld_within (Within.refl _ _) (by simp)) e

theorem execCastWindowEnd_within {s : State} {t : State} (e : execCastWindowEnd s = .next t) :
    Within 75557863725948683157504 s t := by
  exact endsIn_within (castWindowEnd_within (Within.refl _ _) (by simp)) e

theorem execCastCommit_within {s : State} {t : State} (e : execCastCommit s = .next t) :
    Within 1435599410792408652185632 s t := by
  exact endsIn_within (castCommit_within (Within.refl _ _) (by simp)) e

theorem execSnapshotEnd_within {s : State} {t : State} (e : execSnapshotEnd s = .next t) :
    Within 4835703278458516698824704 s t := by
  exact endsIn_within (snapshotEnd_within (Within.refl _ _) (by simp)) e

end Sys2Proof.Machine
end

