-- ==== Sys2Proof/Laws/ClientCommands.lean ====
section
/-! SUPPORT. Laws/ClientCommands.lean: the parts of the state that each operation of Machine/ClientCommands.lean can change. -/
namespace Sys2Proof.Machine

set_option Elab.async false

open Sys2Proof

theorem execIdleDelete_within {c : Carrier} {q : Fin 4} {s : State} {t : State} (e : execIdleDelete c q s = .next t) :
    Within 79228162514264337593543950336 s t := by
  exact endsIn_within (Within.ite (idleCount_within (Within.refl _ _) (by simp))
    (Within.refl _ _)) e

theorem execIdleInsert_within {c : Carrier} {q : Fin 4} {inserted : Nat} {deleted : Nat} {s : State} {t : State} (e : execIdleInsert c q inserted deleted s = .next t) :
    Within 79228162514264337593543950336 s t := by
  exact endsIn_within (idleCount_within (Within.refl _ _) (by simp)) e

theorem execIngressPortState_within {c : Carrier} {q : Fin 4} {up : Bool} {hiBer : Bool} {s : State} {t : State} (e : execIngressPortState c q up hiBer s = .next t) :
    Within 79228162514264337593543950368 s t := by
  exact endsIn_within (ingressState_within (Within.refl _ _) (by simp)) e

theorem execEgressPortState_within {c : Carrier} {q : Fin 4} {n : Nat} {s : State} {t : State} (e : execEgressPortState c q n s = .next t) :
    Within 5070602400894477617450539237408 s t := by
  exact endsIn_within (egressSend_within
    (pageBoundary_within (Within.refl _ _) (by simp)) (by simp)) e

theorem execEgressFaultHold_within {c : Carrier} {q : Fin 4} {s : State} {t : State} (e : execEgressFaultHold c q s = .next t) :
    Within 79228162514264337593543966752 s t := by
  exact endsIn_within (egressFaultHold_within (Within.refl _ _) (by simp)) e

theorem execClxRxState_within {n : Fin 16} {y1 : ClxEvent} {s : State} {t : State} (e : execClxRxState n y1 s = .next t) :
    Within 118842243771401010127382249504 s t := by
  exact endsIn_within (clxReceive_within (Within.refl _ _) (by simp)) e

theorem execClxRxTimeout_within {n : Fin 16} {s : State} {t : State} (e : execClxRxTimeout n s = .next t) :
    Within 118842243771401010127382249504 s t := by
  exact endsIn_within (clxTimeout_within (Within.refl _ _) (by simp)) e

theorem execEiExit_within {n : Fin 16} {s : State} {t : State} (e : execEiExit n s = .next t) :
    Within 39614081404710695423539413152 s t := by
  exact endsIn_within (Within.ite (wake_within
      (clxEiExit_within (Within.refl _ _) (by simp)) (by simp))
    (clxEiExit_within (Within.refl _ _) (by simp))) e

theorem execChkBitCompare_within {n : Fin 16} {bit : Bool} {s : State} {t : State} (e : execChkBitCompare n bit s = .next t) :
    Within 5070602400894477617450539221024 s t := by
  exact endsIn_within (checkerBit_within
    (pageBoundary_within (Within.refl _ _) (by simp)) (by simp)) e

theorem execClxInjectSingle_within {o : Origin} {n : Fin 16} {w : Word} {s : State} {t : State} (e : execClxInjectSingle o n w s = .next t) :
    Within 5070602400894479305887526680562 s t := by
  exact endsIn_within (wordWrite_within (Within.refl _ _) (by simp)) e

theorem execClxInjectPeriodic_within {n : Fin 16} {s : State} {t : State} (e : execClxInjectPeriodic n s = .next t) :
    Within 5070602400894477617450539221024 s t := by
  exact endsIn_within (clxPeriodic_within
    (pageBoundary_within (Within.refl _ _) (by simp)) (by simp)) e

theorem execEyeStart_within {o : Origin} {lane : Option (Fin 16)} {w : Word} {s : State} {t : State} (e : execEyeStart o lane w s = .next t) :
    Within 5070602400894479305887526680562 s t := by
  exact endsIn_within (by
    split
    · skip
      exact (wordWrite_within (Within.refl _ _) (by simp))
    · skip
      exact (wordWrite_within (Within.refl _ _) (by simp))) e

theorem execEyeDone_within {lane : EyeLane} {mismatches : Nat} {s : State} {t : State} (e : execEyeDone lane mismatches s = .next t) :
    Within 198070406285660843983859875872 s t := by
  exact endsIn_within (eyeDone_within (Within.refl _ _) (by simp)) e

theorem execEyeAbandon_within {lane : EyeLane} {s : State} {t : State} (e : execEyeAbandon lane s = .next t) :
    Within 198070406285660843983859875840 s t := by
  exact endsIn_within (eyeAbandon_within (Within.refl _ _) (by simp)) e

theorem execPerstRelease_within {s : State} {t : State} (e : execPerstRelease s = .next t) :
    Within 274877906944 s t := by
  exact endsIn_within (perstRelease_within (Within.refl _ _) (by simp)) e

theorem execRetrain_within {o : Origin} {s : State} {t : State} (e : execRetrain o s = .next t) :
    Within 5070602400894479305887526680562 s t := by
  exact endsIn_within (fieldWrite_within (Within.refl _ _) (by simp)) e

theorem execLinkRecovery_within {rate : Fin 5} {width : Fin 4} {s : State} {t : State} (e : execLinkRecovery rate width s = .next t) :
    Within 158456325028528675187087900704 s t := by
  exact endsIn_within (hostRecovery_within (Within.refl _ _) (by simp)) e

theorem execCreditStall_within {s : State} {t : State} (e : execCreditStall s = .next t) :
    Within 158456325028528675187087900704 s t := by
  exact endsIn_within (creditStall_within (Within.refl _ _) (by simp)) e

theorem execCxlMemRead_within {off : Nat} {s t : State} (e : execCxlMemRead off s = .next t) :
    Within 158457231722893387808236372004 s t := by
  unfold execCxlMemRead at e
  split at e
  · exact endsIn_within (hdmRead_within (Within.refl _ _) (by simp) ‹_›) e
  · cases e

theorem execCxlMemWrite_within {off : Nat} {bytes : List Byte} {s t : State} (e : execCxlMemWrite off bytes s = .next t) :
    Within 158456627259983580218771111968 s t := by
  unfold execCxlMemWrite at e
  split at e
  · exact endsIn_within (hdmWrite_within (Within.refl _ _) (by simp) ‹_›) e
  · cases e

theorem execGetEventRecords_within {log : Fin 4} {s : State} {t : State} (e : execGetEventRecords log s = .next t) :
    Within 549755813888 s t := by
  exact endsIn_within (getEventRecords_within (Within.refl _ _) (by simp)) e

theorem execClearEventRecords_within {log : Fin 4} {all : Bool} {handles : List Nat} {s : State} {t : State} (e : execClearEventRecords log all handles s = .next t) :
    Within 549755813888 s t := by
  exact endsIn_within (clearEventRecords_within (Within.refl _ _) (by simp)) e

theorem execGetEventInterruptPolicy_within {s : State} {t : State} (e : execGetEventInterruptPolicy s = .next t) :
    Within 549755813888 s t := by
  exact endsIn_within (getEventPolicy_within (Within.refl _ _) (by simp)) e

theorem execSetEventInterruptPolicy_within {info : Nat} {warning : Nat} {failure : Nat} {fatal : Nat} {s : State} {t : State} (e : execSetEventInterruptPolicy info warning failure fatal s = .next t) :
    Within 549755813888 s t := by
  exact endsIn_within (setEventPolicy_within (Within.refl _ _) (by simp)) e

theorem execGetFwInfo_within {s : State} {t : State} (e : execGetFwInfo s = .next t) :
    Within 549755813888 s t := by
  exact endsIn_within (getFwInfo_within (Within.refl _ _) (by simp)) e

theorem execTransferFw_within {slot : Fin 2} {offset : Nat} {data : List Byte} {last : Bool} {s : State} {t : State} (e : execTransferFw slot offset data last s = .next t) :
    Within 1208925820178135326392320 s t := by
  exact endsIn_within (transferFw_within (Within.refl _ _) (by simp)) e

theorem execActivateFw_within {slot : Fin 2} {online : Bool} {s : State} {t : State} (e : execActivateFw slot online s = .next t) :
    Within 2535302409382283484725138948096 s t := by
  exact endsIn_within (activateFw_within (Within.refl _ _) (by simp)) e

theorem execGetTimestamp_within {s : State} {t : State} (e : execGetTimestamp s = .next t) :
    Within 549755813888 s t := by
  exact endsIn_within (getTimestamp_within (Within.refl _ _) (by simp)) e

theorem execSetTimestamp_within {ns : BitVec 64} {s : State} {t : State} (e : execSetTimestamp ns s = .next t) :
    Within 5070602400894479305887526680560 s t := by
  exact endsIn_within (setTimestamp_within (Within.refl _ _) (by simp)) e

theorem execGetSupportedLogs_within {s : State} {t : State} (e : execGetSupportedLogs s = .next t) :
    Within 549755813888 s t := by
  exact endsIn_within (getSupportedLogs_within (Within.refl _ _) (by simp)) e

theorem execGetLog_within {effects : Bool} {s : State} {t : State} (e : execGetLog effects s = .next t) :
    Within 549755813888 s t := by
  exact endsIn_within (getLog_within (Within.refl _ _) (by simp)) e

theorem execIdentifyMemoryDevice_within {s : State} {t : State} (e : execIdentifyMemoryDevice s = .next t) :
    Within 549755813888 s t := by
  exact endsIn_within (identifyMemory_within (Within.refl _ _) (by simp)) e

theorem execGetHealthInfo_within {s : State} {t : State} (e : execGetHealthInfo s = .next t) :
    Within 549755813888 s t := by
  exact endsIn_within (getHealth_within (Within.refl _ _) (by simp)) e

theorem execSubmitCapsuleCmd_within {capsule : List Byte} {s : State} {t : State} (e : execSubmitCapsuleCmd capsule s = .next t) :
    Within 550829555712 s t := by
  exact endsIn_within (submitCapsuleCmd_within (Within.refl _ _) (by simp)) e

theorem execGetCapsuleResult_within {input : List Byte} {s : State} {t : State} (e : execGetCapsuleResult input s = .next t) :
    Within 549755813888 s t := by
  exact endsIn_within (vendorRequest_within (Within.refl _ _) (fun _ _ h1 => (getResult_within h1)) (by simp)) e

theorem execGetAttestationReport_within {input : List Byte} {s : State} {t : State} (e : execGetAttestationReport input s = .next t) :
    Within 549755813888 s t := by
  exact endsIn_within (vendorRequest_within (Within.refl _ _) (fun _ _ h1 => (getAttest_within h1)) (by simp)) e

theorem execGetJournalSignature_within {input : List Byte} {s : State} {t : State} (e : execGetJournalSignature input s = .next t) :
    Within 549755813888 s t := by
  exact endsIn_within (vendorRequest_within (Within.refl _ _) (fun _ _ h1 => (getJournalSig_within h1)) (by simp)) e

theorem execReadArchiveObject_within {object : ArchiveObject} {s : State} {t : State} (e : execReadArchiveObject object s = .next t) :
    Within 302231454905306561118208 s t := by
  exact endsIn_within (readArchive_within (Within.refl _ _) (by simp)) e

theorem execGetDeviceCertificate_within {input : List Byte} {s : State} {t : State} (e : execGetDeviceCertificate input s = .next t) :
    Within 549755813888 s t := by
  exact endsIn_within (vendorRequest_within (Within.refl _ _) (fun _ _ h1 => (getCert_within h1)) (by simp)) e

theorem execUnsupportedOpcode_within {s : State} {t : State} (e : execUnsupportedOpcode s = .next t) :
    Within 549755813888 s t := by
  exact endsIn_within (unsupportedOpcode_within (Within.refl _ _) (by simp)) e

theorem execMboxBackgroundDone_within {s : State} {t : State} (e : execMboxBackgroundDone s = .next t) :
    Within 178265783656314204871817461920 s t := by
  exact endsIn_within (mboxBackgroundDone_within (Within.refl _ _) (by simp)) e

theorem execIdeKeyChange_within {io : Bool} {mem : Bool} {s : State} {t : State} (e : execIdeKeyChange io mem s = .next t) :
    Within 158456325028528675187087900704 s t := by
  exact endsIn_within (ideChange_within (Within.refl _ _) (by simp)) e

theorem execPerstNAssert_within {s : State} {t : State} (e : execPerstNAssert s = .next t) :
    Within 158456325028528675461965807648 s t := by
  exact endsIn_within (perstAssert_within (Within.refl _ _) (by simp)) e

theorem execHostLinkUp_within {rate : Fin 5} {width : Fin 4} {mem : Bool} {s : State} {t : State} (e : execHostLinkUp rate width mem s = .next t) :
    Within 158456325028528675461965807648 s t := by
  exact endsIn_within (hostLinkUp_within (Within.refl _ _) (by simp)) e

theorem execLaneMarginingCommand_within {lane : Fin 8} {begins : Bool} {s : State} {t : State} (e : execLaneMarginingCommand lane begins s = .next t) :
    Within 274877906944 s t := by
  exact endsIn_within (laneMargin_within (Within.refl _ _) (by simp)) e

theorem execMsixUnmask_within {vector : Option (Fin 64)} {s : State} {t : State} (e : execMsixUnmask vector s = .next t) :
    Within 64 s t := by
  exact endsIn_within (by
    split
    · skip
      exact (unmaskVector_within (Within.refl _ _) (by simp))
    · skip
      exact (unmaskFunction_within (Within.refl _ _) (by simp))) e

end Sys2Proof.Machine
end

