-- ==== Sys2Proof/Laws/CoreCommands.lean ====
section
/-! SUPPORT. Laws/CoreCommands.lean: the parts of the state that each operation of Machine/CoreCommands.lean can change. -/
namespace Sys2Proof.Machine

set_option Elab.async false

open Sys2Proof

theorem execBundleIssue_within {n : Fin 8} {s : State} {t : State} (e : execBundleIssue n s = .next t) :
    Within 5070602400894479305887526680562 s t := by
  exact endsIn_within (bundleIssue_within (Within.refl _ _) (by simp)) e

theorem execNop_within {n : Fin 8} {s : State} {t : State} (e : execNop n s = .next t) :
    Within 5070602400894479305887526680562 s t := by
  exact endsIn_within (settle_within
    (issueBundle_within (Within.refl _ _) (by simp)) (by simp)) e

theorem execMpy_within {n : Fin 8} {slot1 : Bool} {x : Fin 32} {a : Fin 32} {b : Fin 32} {sh : Fin 32} {s : State} {t : State} (e : execMpy n slot1 x a b sh s = .next t) :
    Within 5070602400894479305887526680562 s t := by
  exact endsIn_within (issueMac_within (Within.refl _ _) (by simp)) e

theorem execMac_within {n : Fin 8} {slot1 : Bool} {x : Fin 32} {a : Fin 32} {b : Fin 32} {sh : Fin 32} {s : State} {t : State} (e : execMac n slot1 x a b sh s = .next t) :
    Within 5070602400894479305887526680562 s t := by
  exact endsIn_within (issueMac_within (Within.refl _ _) (by simp)) e

theorem execMsu_within {n : Fin 8} {slot1 : Bool} {x : Fin 32} {a : Fin 32} {b : Fin 32} {sh : Fin 32} {s : State} {t : State} (e : execMsu n slot1 x a b sh s = .next t) :
    Within 5070602400894479305887526680562 s t := by
  exact endsIn_within (issueMac_within (Within.refl _ _) (by simp)) e

theorem execCmpy_within {n : Fin 8} {slot1 : Bool} {x : Fin 32} {a : Fin 32} {b : Fin 32} {sh : Fin 32} {s : State} {t : State} (e : execCmpy n slot1 x a b sh s = .next t) :
    Within 5070602400894479305887526680562 s t := by
  exact endsIn_within (issueMac_within (Within.refl _ _) (by simp)) e

theorem execCmac_within {n : Fin 8} {slot1 : Bool} {x : Fin 32} {a : Fin 32} {b : Fin 32} {sh : Fin 32} {s : State} {t : State} (e : execCmac n slot1 x a b sh s = .next t) :
    Within 5070602400894479305887526680562 s t := by
  exact endsIn_within (issueMac_within (Within.refl _ _) (by simp)) e

theorem execCmacj_within {n : Fin 8} {slot1 : Bool} {x : Fin 32} {a : Fin 32} {b : Fin 32} {sh : Fin 32} {s : State} {t : State} (e : execCmacj n slot1 x a b sh s = .next t) :
    Within 5070602400894479305887526680562 s t := by
  exact endsIn_within (issueMac_within (Within.refl _ _) (by simp)) e

theorem execExt_within {n : Fin 8} {slot1 : Bool} {x : Fin 32} {a : Fin 32} {b : Fin 32} {sh : Fin 32} {s : State} {t : State} (e : execExt n slot1 x a b sh s = .next t) :
    Within 5070602400894479305887526680562 s t := by
  exact endsIn_within (issueMac_within (Within.refl _ _) (by simp)) e

theorem execAclr_within {n : Fin 8} {slot1 : Bool} {x : Fin 32} {a : Fin 32} {b : Fin 32} {sh : Fin 32} {s : State} {t : State} (e : execAclr n slot1 x a b sh s = .next t) :
    Within 5070602400894479305887526680562 s t := by
  exact endsIn_within (issueMac_within (Within.refl _ _) (by simp)) e

theorem execAmov_within {n : Fin 8} {slot1 : Bool} {x : Fin 32} {a : Fin 32} {b : Fin 32} {sh : Fin 32} {s : State} {t : State} (e : execAmov n slot1 x a b sh s = .next t) :
    Within 5070602400894479305887526680562 s t := by
  exact endsIn_within (issueMac_within (Within.refl _ _) (by simp)) e

theorem execArdl_within {n : Fin 8} {slot1 : Bool} {x : Fin 32} {a : Fin 32} {b : Fin 32} {sh : Fin 32} {s : State} {t : State} (e : execArdl n slot1 x a b sh s = .next t) :
    Within 5070602400894479305887526680562 s t := by
  exact endsIn_within (issueMac_within (Within.refl _ _) (by simp)) e

theorem execArdh_within {n : Fin 8} {slot1 : Bool} {x : Fin 32} {a : Fin 32} {b : Fin 32} {sh : Fin 32} {s : State} {t : State} (e : execArdh n slot1 x a b sh s = .next t) :
    Within 5070602400894479305887526680562 s t := by
  exact endsIn_within (issueMac_within (Within.refl _ _) (by simp)) e

theorem execAshl_within {n : Fin 8} {slot1 : Bool} {x : Fin 32} {a : Fin 32} {b : Fin 32} {sh : Fin 32} {s : State} {t : State} (e : execAshl n slot1 x a b sh s = .next t) :
    Within 5070602400894479305887526680562 s t := by
  exact endsIn_within (issueMac_within (Within.refl _ _) (by simp)) e

theorem execAshr_within {n : Fin 8} {slot1 : Bool} {x : Fin 32} {a : Fin 32} {b : Fin 32} {sh : Fin 32} {s : State} {t : State} (e : execAshr n slot1 x a b sh s = .next t) :
    Within 5070602400894479305887526680562 s t := by
  exact endsIn_within (issueMac_within (Within.refl _ _) (by simp)) e

theorem execAcs_within {n : Fin 8} {slot1 : Bool} {x : Fin 32} {a : Fin 32} {b : Fin 32} {sh : Fin 32} {s : State} {t : State} (e : execAcs n slot1 x a b sh s = .next t) :
    Within 5070602400894479305887526680562 s t := by
  exact endsIn_within (issueMac_within (Within.refl _ _) (by simp)) e

theorem execAdd2_within {n : Fin 8} {slot1 : Bool} {x : Fin 32} {a : Fin 32} {b : Fin 32} {sh : Fin 32} {s : State} {t : State} (e : execAdd2 n slot1 x a b sh s = .next t) :
    Within 5070602400894479305887526680562 s t := by
  exact endsIn_within (issueMac_within (Within.refl _ _) (by simp)) e

theorem execAdds2_within {n : Fin 8} {slot1 : Bool} {x : Fin 32} {a : Fin 32} {b : Fin 32} {sh : Fin 32} {s : State} {t : State} (e : execAdds2 n slot1 x a b sh s = .next t) :
    Within 5070602400894479305887526680562 s t := by
  exact endsIn_within (issueMac_within (Within.refl _ _) (by simp)) e

theorem execSub2_within {n : Fin 8} {slot1 : Bool} {x : Fin 32} {a : Fin 32} {b : Fin 32} {sh : Fin 32} {s : State} {t : State} (e : execSub2 n slot1 x a b sh s = .next t) :
    Within 5070602400894479305887526680562 s t := by
  exact endsIn_within (issueMac_within (Within.refl _ _) (by simp)) e

theorem execSubs2_within {n : Fin 8} {slot1 : Bool} {x : Fin 32} {a : Fin 32} {b : Fin 32} {sh : Fin 32} {s : State} {t : State} (e : execSubs2 n slot1 x a b sh s = .next t) :
    Within 5070602400894479305887526680562 s t := by
  exact endsIn_within (issueMac_within (Within.refl _ _) (by simp)) e

theorem execAdd_within {n : Fin 8} {slot1 : Bool} {x : Fin 32} {a : Fin 32} {b : Fin 32} {sh : Fin 32} {s : State} {t : State} (e : execAdd n slot1 x a b sh s = .next t) :
    Within 5070602400894479305887526680562 s t := by
  exact endsIn_within (issueMac_within (Within.refl _ _) (by simp)) e

theorem execSub_within {n : Fin 8} {slot1 : Bool} {x : Fin 32} {a : Fin 32} {b : Fin 32} {sh : Fin 32} {s : State} {t : State} (e : execSub n slot1 x a b sh s = .next t) :
    Within 5070602400894479305887526680562 s t := by
  exact endsIn_within (issueMac_within (Within.refl _ _) (by simp)) e

theorem execAnd_within {n : Fin 8} {slot1 : Bool} {x : Fin 32} {a : Fin 32} {b : Fin 32} {sh : Fin 32} {s : State} {t : State} (e : execAnd n slot1 x a b sh s = .next t) :
    Within 5070602400894479305887526680562 s t := by
  exact endsIn_within (issueMac_within (Within.refl _ _) (by simp)) e

theorem execOr_within {n : Fin 8} {slot1 : Bool} {x : Fin 32} {a : Fin 32} {b : Fin 32} {sh : Fin 32} {s : State} {t : State} (e : execOr n slot1 x a b sh s = .next t) :
    Within 5070602400894479305887526680562 s t := by
  exact endsIn_within (issueMac_within (Within.refl _ _) (by simp)) e

theorem execXor_within {n : Fin 8} {slot1 : Bool} {x : Fin 32} {a : Fin 32} {b : Fin 32} {sh : Fin 32} {s : State} {t : State} (e : execXor n slot1 x a b sh s = .next t) :
    Within 5070602400894479305887526680562 s t := by
  exact endsIn_within (issueMac_within (Within.refl _ _) (by simp)) e

theorem execShl_within {n : Fin 8} {slot1 : Bool} {x : Fin 32} {a : Fin 32} {b : Fin 32} {sh : Fin 32} {s : State} {t : State} (e : execShl n slot1 x a b sh s = .next t) :
    Within 5070602400894479305887526680562 s t := by
  exact endsIn_within (issueMac_within (Within.refl _ _) (by simp)) e

theorem execShr_within {n : Fin 8} {slot1 : Bool} {x : Fin 32} {a : Fin 32} {b : Fin 32} {sh : Fin 32} {s : State} {t : State} (e : execShr n slot1 x a b sh s = .next t) :
    Within 5070602400894479305887526680562 s t := by
  exact endsIn_within (issueMac_within (Within.refl _ _) (by simp)) e

theorem execAsr_within {n : Fin 8} {slot1 : Bool} {x : Fin 32} {a : Fin 32} {b : Fin 32} {sh : Fin 32} {s : State} {t : State} (e : execAsr n slot1 x a b sh s = .next t) :
    Within 5070602400894479305887526680562 s t := by
  exact endsIn_within (issueMac_within (Within.refl _ _) (by simp)) e

theorem execMin2_within {n : Fin 8} {slot1 : Bool} {x : Fin 32} {a : Fin 32} {b : Fin 32} {sh : Fin 32} {s : State} {t : State} (e : execMin2 n slot1 x a b sh s = .next t) :
    Within 5070602400894479305887526680562 s t := by
  exact endsIn_within (issueMac_within (Within.refl _ _) (by simp)) e

theorem execMax2_within {n : Fin 8} {slot1 : Bool} {x : Fin 32} {a : Fin 32} {b : Fin 32} {sh : Fin 32} {s : State} {t : State} (e : execMax2 n slot1 x a b sh s = .next t) :
    Within 5070602400894479305887526680562 s t := by
  exact endsIn_within (issueMac_within (Within.refl _ _) (by simp)) e

theorem execMovi_within {n : Fin 8} {slot1 : Bool} {x : Fin 32} {imm : BitVec 16} {s : State} {t : State} (e : execMovi n slot1 x imm s = .next t) :
    Within 5070602400894479305887526680562 s t := by
  exact endsIn_within (issueMac_within (Within.refl _ _) (by simp)) e

theorem execMovhi_within {n : Fin 8} {slot1 : Bool} {x : Fin 32} {imm : BitVec 16} {s : State} {t : State} (e : execMovhi n slot1 x imm s = .next t) :
    Within 5070602400894479305887526680562 s t := by
  exact endsIn_within (issueMac_within (Within.refl _ _) (by simp)) e

theorem execSlt_within {n : Fin 8} {slot1 : Bool} {x : Fin 32} {a : Fin 32} {b : Fin 32} {sh : Fin 32} {s : State} {t : State} (e : execSlt n slot1 x a b sh s = .next t) :
    Within 5070602400894479305887526680562 s t := by
  exact endsIn_within (issueMac_within (Within.refl _ _) (by simp)) e

theorem execSeq_within {n : Fin 8} {slot1 : Bool} {x : Fin 32} {a : Fin 32} {b : Fin 32} {sh : Fin 32} {s : State} {t : State} (e : execSeq n slot1 x a b sh s = .next t) :
    Within 5070602400894479305887526680562 s t := by
  exact endsIn_within (issueMac_within (Within.refl _ _) (by simp)) e

theorem execLdh_within {n : Fin 8} {d : Fin 32} {an : Fin 8} {mode : Fin 4} {ofs : BitVec 16} {s : State} {t : State} (e : execLdh n d an mode ofs s = .next t) :
    Within 5070602400894479305887526680562 s t := by
  exact endsIn_within (issueLs_within (Within.refl _ _) (by simp)) e

theorem execLdw_within {n : Fin 8} {d : Fin 32} {an : Fin 8} {mode : Fin 4} {ofs : BitVec 16} {s : State} {t : State} (e : execLdw n d an mode ofs s = .next t) :
    Within 5070602400894479305887526680562 s t := by
  exact endsIn_within (issueLs_within (Within.refl _ _) (by simp)) e

theorem execLdd_within {n : Fin 8} {d : Fin 32} {an : Fin 8} {mode : Fin 4} {ofs : BitVec 16} {s : State} {t : State} (e : execLdd n d an mode ofs s = .next t) :
    Within 5070602400894479305887526680562 s t := by
  exact endsIn_within (issueLs_within (Within.refl _ _) (by simp)) e

theorem execSth_within {n : Fin 8} {d : Fin 32} {an : Fin 8} {mode : Fin 4} {ofs : BitVec 16} {s : State} {t : State} (e : execSth n d an mode ofs s = .next t) :
    Within 5070602400894479305887526680562 s t := by
  exact endsIn_within (issueLs_within (Within.refl _ _) (by simp)) e

theorem execStw_within {n : Fin 8} {d : Fin 32} {an : Fin 8} {mode : Fin 4} {ofs : BitVec 16} {s : State} {t : State} (e : execStw n d an mode ofs s = .next t) :
    Within 5070602400894479305887526680562 s t := by
  exact endsIn_within (issueLs_within (Within.refl _ _) (by simp)) e

theorem execStd_within {n : Fin 8} {d : Fin 32} {an : Fin 8} {mode : Fin 4} {ofs : BitVec 16} {s : State} {t : State} (e : execStd n d an mode ofs s = .next t) :
    Within 5070602400894479305887526680562 s t := by
  exact endsIn_within (issueLs_within (Within.refl _ _) (by simp)) e

theorem execMova_within {n : Fin 8} {d : Fin 32} {an : Fin 8} {s : State} {t : State} (e : execMova n d an s = .next t) :
    Within 5070602400894479305887526680562 s t := by
  exact endsIn_within (issueLs_within (Within.refl _ _) (by simp)) e

theorem execMovda_within {n : Fin 8} {d : Fin 32} {an : Fin 8} {s : State} {t : State} (e : execMovda n d an s = .next t) :
    Within 5070602400894479305887526680562 s t := by
  exact endsIn_within (issueLs_within (Within.refl _ _) (by simp)) e

theorem execSetb_within {n : Fin 8} {d : Fin 32} {an : Fin 8} {s : State} {t : State} (e : execSetb n d an s = .next t) :
    Within 5070602400894479305887526680562 s t := by
  exact endsIn_within (issueLs_within (Within.refl _ _) (by simp)) e

theorem execSetl_within {n : Fin 8} {d : Fin 32} {an : Fin 8} {s : State} {t : State} (e : execSetl n d an s = .next t) :
    Within 5070602400894479305887526680562 s t := by
  exact endsIn_within (issueLs_within (Within.refl _ _) (by simp)) e

theorem execSetm_within {n : Fin 8} {d : Fin 32} {k : Fin 4} {s : State} {t : State} (e : execSetm n d k s = .next t) :
    Within 5070602400894479305887526680562 s t := by
  exact endsIn_within (issueLs_within (Within.refl _ _) (by simp)) e

theorem execAdda_within {n : Fin 8} {d : Fin 32} {an : Fin 8} {s : State} {t : State} (e : execAdda n d an s = .next t) :
    Within 5070602400894479305887526680562 s t := by
  exact endsIn_within (issueLs_within (Within.refl _ _) (by simp)) e

theorem execBr_within {n : Fin 8} {target : BitVec 14} {s : State} {t : State} (e : execBr n target s = .next t) :
    Within 5070602400894479305887526680562 s t := by
  exact endsIn_within (issueCt_within (Within.refl _ _) (by simp)) e

theorem execBz_within {n : Fin 8} {d : Fin 32} {target : BitVec 14} {s : State} {t : State} (e : execBz n d target s = .next t) :
    Within 5070602400894479305887526680562 s t := by
  exact endsIn_within (issueCt_within (Within.refl _ _) (by simp)) e

theorem execBnz_within {n : Fin 8} {d : Fin 32} {target : BitVec 14} {s : State} {t : State} (e : execBnz n d target s = .next t) :
    Within 5070602400894479305887526680562 s t := by
  exact endsIn_within (issueCt_within (Within.refl _ _) (by simp)) e

theorem execBlt_within {n : Fin 8} {d : Fin 32} {target : BitVec 14} {s : State} {t : State} (e : execBlt n d target s = .next t) :
    Within 5070602400894479305887526680562 s t := by
  exact endsIn_within (issueCt_within (Within.refl _ _) (by simp)) e

theorem execBge_within {n : Fin 8} {d : Fin 32} {target : BitVec 14} {s : State} {t : State} (e : execBge n d target s = .next t) :
    Within 5070602400894479305887526680562 s t := by
  exact endsIn_within (issueCt_within (Within.refl _ _) (by simp)) e

theorem execCall_within {n : Fin 8} {target : BitVec 14} {s : State} {t : State} (e : execCall n target s = .next t) :
    Within 5070602400894479305887526680562 s t := by
  exact endsIn_within (issueCt_within (Within.refl _ _) (by simp)) e

theorem execJr_within {n : Fin 8} {d : Fin 32} {s : State} {t : State} (e : execJr n d s = .next t) :
    Within 5070602400894479305887526680562 s t := by
  exact endsIn_within (issueCt_within (Within.refl _ _) (by simp)) e

theorem execRet_within {n : Fin 8} {s : State} {t : State} (e : execRet n s = .next t) :
    Within 5070602400894479305887526680562 s t := by
  exact endsIn_within (issueCt_within (Within.refl _ _) (by simp)) e

theorem execLoop_within {n : Fin 8} {d : Fin 32} {target : BitVec 14} {s : State} {t : State} (e : execLoop n d target s = .next t) :
    Within 5070602400894479305887526680562 s t := by
  exact endsIn_within (issueCt_within (Within.refl _ _) (by simp)) e

theorem execLoopi_within {n : Fin 8} {count : Fin 1024} {target : BitVec 14} {s : State} {t : State} (e : execLoopi n count target s = .next t) :
    Within 5070602400894479305887526680562 s t := by
  exact endsIn_within (issueCt_within (Within.refl _ _) (by simp)) e

theorem execMovtc_within {n : Fin 8} {d : Fin 32} {idx : Fin 32} {s : State} {t : State} (e : execMovtc n d idx s = .next t) :
    Within 5070602400894479305887526680562 s t := by
  exact endsIn_within (issueCt_within (Within.refl _ _) (by simp)) e

theorem execMovfc_within {n : Fin 8} {d : Fin 32} {idx : Fin 32} {s : State} {t : State} (e : execMovfc n d idx s = .next t) :
    Within 5070602400894479305887526680562 s t := by
  exact endsIn_within (issueCt_within (Within.refl _ _) (by simp)) e

theorem execTrap_within {n : Fin 8} {code : BitVec 8} {s : State} {t : State} (e : execTrap n code s = .next t) :
    Within 5070602400894479305887526680562 s t := by
  exact endsIn_within (issueCt_within (Within.refl _ _) (by simp)) e

theorem execRti_within {n : Fin 8} {s : State} {t : State} (e : execRti n s = .next t) :
    Within 5070602400894479305887526680562 s t := by
  exact endsIn_within (issueCt_within (Within.refl _ _) (by simp)) e

theorem execEi_within {n : Fin 8} {s : State} {t : State} (e : execEi n s = .next t) :
    Within 5070602400894479305887526680562 s t := by
  exact endsIn_within (issueCt_within (Within.refl _ _) (by simp)) e

theorem execDi_within {n : Fin 8} {s : State} {t : State} (e : execDi n s = .next t) :
    Within 5070602400894479305887526680562 s t := by
  exact endsIn_within (issueCt_within (Within.refl _ _) (by simp)) e

theorem execWait_within {n : Fin 8} {s : State} {t : State} (e : execWait n s = .next t) :
    Within 5070602400894479305887526680562 s t := by
  exact endsIn_within (issueCt_within (Within.refl _ _) (by simp)) e

theorem execHalt_within {n : Fin 8} {s : State} {t : State} (e : execHalt n s = .next t) :
    Within 5070602400894479305887526680562 s t := by
  exact endsIn_within (issueCt_within (Within.refl _ _) (by simp)) e

theorem execBrk_within {n : Fin 8} {s : State} {t : State} (e : execBrk n s = .next t) :
    Within 5070602400894479305887526680562 s t := by
  exact endsIn_within (issueCt_within (Within.refl _ _) (by simp)) e

theorem execInterruptEntry_within {n : Fin 8} {s : State} {t : State} (e : execInterruptEntry n s = .next t) :
    Within 316912650057057354772222312960 s t := by
  exact endsIn_within (interruptEntry_within (Within.refl _ _) (by simp)) e

theorem execTrapEntry_within {n : Fin 8} {cause : Fin 11} {eaddr : Option Nat} {code : BitVec 8} {s : State} {t : State} (e : execTrapEntry n cause eaddr code s = .next t) :
    Within 316912650057057354772222312992 s t := by
  exact endsIn_within (Within.ite (by
      extract_lets -merge -useContext x1
      try clear_value x1
      exact (trapEnter_within
        (putCore_within (Within.refl _ _) (by simp)) (by simp)))
    (Within.refl _ _)) e

theorem execWaitWake_within {n : Fin 8} {s : State} {t : State} (e : execWaitWake n s = .next t) :
    Within 4398046511104 s t := by
  exact endsIn_within (waitWake_within (Within.refl _ _) (by simp)) e

theorem execDmaDescriptor_within {n : Fin 8} {ch : Fin 2} {s : State} {t : State} (e : execDmaDescriptor n ch s = .next t) :
    Within 316912952288512259529161835040 s t := by
  exact endsIn_within (dmaDescriptor_within (Within.refl _ _) (by simp)) e

theorem execDmaTailWrite_within {n : Fin 8} {ch : Fin 2} {tail : Nat} {s : State} {t : State} (e : execDmaTailWrite n ch tail s = .next t) :
    Within 4398046511104 s t := by
  exact endsIn_within (dmaTail_within (Within.refl _ _) (by simp)) e

theorem execDmaResume_within {n : Fin 8} {ch : Fin 2} {s : State} {t : State} (e : execDmaResume n ch s = .next t) :
    Within 4398046511104 s t := by
  exact endsIn_within (dmaResume_within (Within.refl _ _) (by simp)) e

theorem execLoad_within {o : Origin} {n : Fin 8} {fromHdm : Bool} {s : State} {t : State} (e : execLoad o n fromHdm s = .next t) :
    Within 5070602400894479305887526680562 s t := by
  exact endsIn_within (fieldWrites_within (Within.refl _ _) (by simp)) e

theorem execLoadVerifyDone_within {n : Fin 8} {s : State} {t : State} (e : execLoadVerifyDone n s = .next t) :
    Within 316912650057057361370500038688 s t := by
  exact endsIn_within (loadVerify_within (Within.refl _ _) (by simp)) e

theorem execRkCoreReset_within {o : Origin} {n : Fin 8} {s : State} {t : State} (e : execRkCoreReset o n s = .next t) :
    Within 5070602400894479305887526680562 s t := by
  exact endsIn_within (coreUp_within
    (fieldWrite_within (Within.refl _ _) (by simp)) (by simp)) e

theorem execDebugWindowWrite_within {o : Origin} {n : Fin 8} {y2 : Fin 2097152} {w : Word} {s : State} {t : State} (e : execDebugWindowWrite o n y2 w s = .next t) :
    Within 5070602400894479305887526680562 s t := by
  exact endsIn_within (busWrite_within (Within.refl _ _) (by simp)) e

theorem execDebugWindowRead_within {o : Origin} {n : Fin 8} {y2 : Fin 2097152} {s : State} {t : State} (e : execDebugWindowRead o n y2 s = .next t) :
    Within 950902667716051704288735396022 s t := by
  exact endsIn_within (busRead_within (Within.refl _ _) (by simp)) e

theorem execDebugStep_within {o : Origin} {n : Fin 8} {s : State} {t : State} (e : execDebugStep o n s = .next t) :
    Within 5070602400894479305887526680562 s t := by
  exact endsIn_within (fieldWrite_within (Within.refl _ _) (by simp)) e

theorem execTallyTick_within {inputs : TallyInputs} {s : State} {t : State} (e : execTallyTick inputs s = .next t) :
    Within 1901475900342344137429426897440 s t := by
  exact endsIn_within (tallyTick_within (Within.refl _ _) (by simp)) e

theorem execTallyClr_within {o : Origin} {n : Fin 8} {mask : BitVec 16} {s : State} {t : State} (e : execTallyClr o n mask s = .next t) :
    Within 5070602400894479305887526680562 s t := by
  exact endsIn_within (wordWrite_within (Within.refl _ _) (by simp)) e

theorem execTallyEn_within {o : Origin} {n : Fin 8} {mask : BitVec 16} {s : State} {t : State} (e : execTallyEn o n mask s = .next t) :
    Within 5070602400894479305887526680562 s t := by
  exact endsIn_within (fieldWrite_within (Within.refl _ _) (by simp)) e

theorem execSampleClr_within {o : Origin} {n : Fin 8} {s : State} {t : State} (e : execSampleClr o n s = .next t) :
    Within 5070602400894479305887526680562 s t := by
  exact endsIn_within (fieldWrite_within (Within.refl _ _) (by simp)) e

theorem execSampleD0Read_within {o : Origin} {n : Fin 8} {s : State} {t : State} (e : execSampleD0Read o n s = .next t) :
    Within 950902667716051704288735396022 s t := by
  exact endsIn_within (busRead_within (Within.refl _ _) (by simp)) e

theorem execSampleD3Read_within {o : Origin} {n : Fin 8} {s : State} {t : State} (e : execSampleD3Read o n s = .next t) :
    Within 950902667716051704288735396022 s t := by
  exact endsIn_within (busRead_within (Within.refl _ _) (by simp)) e

theorem execFabricClr_within {o : Origin} {y1 : Bool} {mask : Word} {s : State} {t : State} (e : execFabricClr o y1 mask s = .next t) :
    Within 5070602400894479305887526680562 s t := by
  exact endsIn_within (wordWrite_within (Within.refl _ _) (by simp)) e

end Sys2Proof.Machine
end

