-- ==== Sys2Proof/Laws/MemoryCommands.lean ====
section
/-! SUPPORT. Laws/MemoryCommands.lean: the parts of the state that each operation of Machine/MemoryCommands.lean can change. -/
namespace Sys2Proof.Machine

set_option Elab.async false

open Sys2Proof

theorem execScrubAccess_within {lines : Bool} {s : State} {t : State} (e : execScrubAccess lines s = .next t) :
    Within 4504699138998272 s t := by
  exact endsIn_within (scrubAccess_within (Within.refl _ _) (by simp)) e

theorem execScrubLapEnd_within {lines : Bool} {s : State} {t : State} (e : execScrubLapEnd lines s = .next t) :
    Within 906694364712071392657408 s t := by
  exact endsIn_within (scrubLapEnd_within (Within.refl _ _) (by simp)) e

theorem execLapSlow_within {lines : Bool} {s : State} {t : State} (e : execLapSlow lines s = .next t) :
    Within 906694364712071392657440 s t := by
  exact endsIn_within (lapSlow_within (Within.refl _ _) (by simp)) e

theorem execEccCorrection_within {y0 : CorrectedError} {s : State} {t : State} (e : execEccCorrection y0 s = .next t) :
    Within 2115620184327252470661664 s t := by
  exact endsIn_within (correctedError_within (Within.refl _ _) (by simp)) e

theorem execCorrectionWriteback_within {lines : Bool} {s : State} {t : State} (e : execCorrectionWriteback lines s = .next t) :
    Within 1099511627776 s t := by
  exact endsIn_within (writebackDone_within (Within.refl _ _) (by simp)) e

theorem execRowRemapCopyDone_within {line : Nat} {s : State} {t : State} (e : execRowRemapCopyDone line s = .next t) :
    Within 2115620184326702714847264 s t := by
  exact endsIn_within (rowCopyDone_within (Within.refl _ _) (by simp)) e

theorem execUncorrectableError_within {place : MemPlace} {reader : UeReader} {s : State} {t : State} (e : execUncorrectableError place reader s = .next t) :
    Within 5070602400894479305887526680564 s t := by
  exact endsIn_within (by
    extract_lets -merge -useContext x1
    have h1 : Within (5070602400894479305887526680564 ||| 2 ^ 53) s x1 := by
      unfold x1
      exact (uncorrectable_within (Within.refl _ _) (by simp))
    clear_value x1
    exact (ringFollow_within h1 (by simp))) e

theorem execGranuleFirstWrite_within {a : Nat} {bytes : List Byte} {s : State} {t : State} (e : execGranuleFirstWrite a bytes s = .next t) :
    Within 302231454904756805304320 s t := by
  exact endsIn_within (granuleFirstWrite_within (Within.refl _ _) (by simp)) e

theorem execGranuleFillDone_within {g : Nat} {s : State} {t : State} (e : execGranuleFillDone g s = .next t) :
    Within 1099511627776 s t := by
  exact endsIn_within (fillDone_within (Within.refl _ _) (by simp)) e

theorem execUninitialisedRead_within {a : Nat} {s : State} {t : State} (e : execUninitialisedRead a s = .next t) :
    Within 302231454904756805304324 s t := by
  exact endsIn_within (uninitialisedRead_within (Within.refl _ _) (by simp)) e

theorem execFlashOpTimeout_within {target : Fin 32} {retried : Bool} {s : State} {t : State} (e : execFlashOpTimeout target retried s = .next t) :
    Within 5070602400894479305887526680560 s t := by
  exact endsIn_within (ringFollow_within
    (flashTimeout_within (Within.refl _ _) (by simp)) (by simp)) e

theorem execFlashReadDecode_within {target : Fin 32} {b : Nat} {levels : Fin 9} {ok : Bool} {s : State} {t : State} (e : execFlashReadDecode target b levels ok s = .next t) :
    Within 5070602400894479305887526680560 s t := by
  exact endsIn_within (ringFollow_within
    (flashRead_within (Within.refl _ _) (by simp)) (by simp)) e

theorem execArchiveFormat_within {s : State} {t : State} (e : execArchiveFormat s = .next t) :
    Within 5070602400894479305887526680562 s t := by
  exact endsIn_within (fieldWrite_within (Within.refl _ _) (by simp)) e

theorem execFormatDone_within {s : State} {t : State} (e : execFormatDone s = .next t) :
    Within 5070602400894479305887526680560 s t := by
  exact endsIn_within (ringFollow_within
    (formatDone_within (Within.refl _ _) (by simp)) (by simp)) e

theorem execGrownBad_within {b : Nat} {retired : Bool} {s : State} {t : State} (e : execGrownBad b retired s = .next t) :
    Within 5070602400894479305887526680560 s t := by
  exact endsIn_within (ringFollow_within
    (grownBad_within (Within.refl _ _) (by simp)) (by simp)) e

theorem execWearLevelMove_within {region : Fin 10} {onto : Nat} {s : State} {t : State} (e : execWearLevelMove region onto s = .next t) :
    Within 5070602400894479305887526680560 s t := by
  exact endsIn_within (ringFollow_within
    (wearLevelMove_within (Within.refl _ _) (by simp)) (by simp)) e

theorem execFlashRefresh_within {b : Nat} {corrections : Nat} {s : State} {t : State} (e : execFlashRefresh b corrections s = .next t) :
    Within 5070602400894479305887526680560 s t := by
  exact endsIn_within (ringFollow_within
    (flashRefresh_within (Within.refl _ _) (by simp)) (by simp)) e

theorem execReadDisturbRelocate_within {b : Nat} {s : State} {t : State} (e : execReadDisturbRelocate b s = .next t) :
    Within 5070602400894479305887526680560 s t := by
  exact endsIn_within (ringFollow_within
    (readDisturb_within (Within.refl _ _) (by simp)) (by simp)) e

theorem execRingBudgetEval_within {waf : Option Nat} {s : State} {t : State} (e : execRingBudgetEval waf s = .next t) :
    Within 5070602400894479305887526680560 s t := by
  exact endsIn_within (Within.ite (thinWrite_within
      (ringEvaluate_within
        (startTimer_within (Within.refl _ _) (by simp)) (by simp)) (by simp))
    (Within.refl _ _)) e

theorem execMramCommit_within {area : Fin 6} {done : Fin 4} {s : State} {t : State} (e : execMramCommit area done s = .next t) :
    Within 1208925819614631322189824 s t := by
  exact endsIn_within (mramCommit_within (Within.refl _ _) (by simp)) e

end Sys2Proof.Machine
end

