-- ==== Sys2Proof/Laws/PlinthCommands.lean ====
section
/-! SUPPORT. Laws/PlinthCommands.lean: the parts of the state that each operation of Machine/PlinthCommands.lean can change. -/
namespace Sys2Proof.Machine

set_option Elab.async false

open Sys2Proof

theorem execSubmitCapsule_within {s : State} {t : State} (e : execSubmitCapsule s = .next t) :
    Within 2693757525484987478731323867168 s t := by
  exact endsIn_within (submitCapsule_within (Within.refl _ _) (by simp)) e

theorem execInstallOfficer_within {s : State} {t : State} (e : execInstallOfficer s = .next t) :
    Within 2693757525484987478731323867168 s t := by
  exact endsIn_within (runCapsule_within (Within.refl _ _) (fun _ _ h1 => (installOfficer_within h1 (by simp))) (by simp)) e

theorem execRemoveOfficer_within {s : State} {t : State} (e : execRemoveOfficer s = .next t) :
    Within 2693757525484987478731323867168 s t := by
  exact endsIn_within (runCapsule_within (Within.refl _ _) (fun _ _ h1 => (removeOfficer_within h1 (by simp))) (by simp)) e

theorem execLoadPsk_within {s : State} {t : State} (e : execLoadPsk s = .next t) :
    Within 2693757525484987478731323867168 s t := by
  exact endsIn_within (runCapsule_within (Within.refl _ _) (fun _ _ h1 => (loadPsk_within h1 (by simp))) (by simp)) e

theorem execClearPsk_within {s : State} {t : State} (e : execClearPsk s = .next t) :
    Within 2693757525484987478731323867168 s t := by
  exact endsIn_within (runCapsule_within (Within.refl _ _) (fun _ _ h1 => (clearPsk_within h1 (by simp))) (by simp)) e

theorem execWritePo_within {s : State} {t : State} (e : execWritePo s = .next t) :
    Within 5070602400894479305887526680562 s t := by
  exact endsIn_within (runWritePo_within (Within.refl _ _) (by simp)) e

theorem execSetTrust_within {s : State} {t : State} (e : execSetTrust s = .next t) :
    Within 2693757525484987478731323867168 s t := by
  exact endsIn_within (runCapsule_within (Within.refl _ _) (fun _ _ h1 => (setTrust_within h1 (by simp))) (by simp)) e

theorem execSetAllow_within {s : State} {t : State} (e : execSetAllow s = .next t) :
    Within 2693757525484987478731323867168 s t := by
  exact endsIn_within (runCapsule_within (Within.refl _ _) (fun _ _ h1 => (setAllow_within h1 (by simp))) (by simp)) e

theorem execSetCodeKey_within {s : State} {t : State} (e : execSetCodeKey s = .next t) :
    Within 3010670175542044829105499668512 s t := by
  exact endsIn_within (runCapsule_within (Within.refl _ _) (fun _ _ h1 => (setCodeKey_within h1 (by simp))) (by simp)) e

theorem execSetSvnMin_within {s : State} {t : State} (e : execSetSvnMin s = .next t) :
    Within 2693757525484987478731323867168 s t := by
  exact endsIn_within (runCapsule_within (Within.refl _ _) (fun _ _ h1 => (setSvnMin_within h1 (by simp))) (by simp)) e

theorem execTestPort_within {s : State} {t : State} (e : execTestPort s = .next t) :
    Within 2713567002854658723867445469216 s t := by
  exact endsIn_within (runCapsule_within (Within.refl _ _) (fun _ _ h1 => (testPort_within h1 (by simp))) (by simp)) e

theorem execFormatArchive_within {s : State} {t : State} (e : execFormatArchive s = .next t) :
    Within 5070602400894479305887526680560 s t := by
  exact endsIn_within (runCapsule_within (Within.refl _ _) (fun _ _ h1 => (formatArchive_within h1 (by simp))) (by simp)) e

theorem execZeroise_within {s : State} {t : State} (e : execZeroise s = .next t) :
    Within 2713566983965192792388596178976 s t := by
  exact endsIn_within (runCapsule_within (Within.refl _ _) (fun _ _ h1 => (zeroiseCapsule_within h1 (by simp))) (by simp)) e

theorem execRelease_within {s : State} {t : State} (e : execRelease s = .next t) :
    Within 2713564585003019494608559185952 s t := by
  exact endsIn_within (runCapsule_within (Within.refl _ _) (fun _ _ h1 => (release_within h1 (by simp))) (by simp)) e

theorem execGetResult_within {s : State} {t : State} (e : execGetResult s = .next t) :
    Within 2693757525484987478731323867168 s t := by
  exact endsIn_within (answerRequest_within (Within.refl _ _) (fun _ _ h1 => (getResult_within h1)) (by simp)) e

theorem execGetAttest_within {s : State} {t : State} (e : execGetAttest s = .next t) :
    Within 2693757525484987478731323867168 s t := by
  exact endsIn_within (answerRequest_within (Within.refl _ _) (fun _ _ h1 => (getAttest_within h1)) (by simp)) e

theorem execGetJournalSig_within {s : State} {t : State} (e : execGetJournalSig s = .next t) :
    Within 2693757525484987478731323867168 s t := by
  exact endsIn_within (answerRequest_within (Within.refl _ _) (fun _ _ h1 => (getJournalSig_within h1)) (by simp)) e

theorem execGetCert_within {s : State} {t : State} (e : execGetCert s = .next t) :
    Within 2693757525484987478731323867168 s t := by
  exact endsIn_within (answerRequest_within (Within.refl _ _) (fun _ _ h1 => (getCert_within h1)) (by simp)) e

theorem execAlsRestart_within {s : State} {t : State} (e : execAlsRestart s = .next t) :
    Within 2713564585003023998208186556448 s t := by
  exact endsIn_within (answerRequest_within (Within.refl _ _) (fun _ _ h1 => (alsRestart_within h1 (by simp))) (by simp)) e

theorem execUnknownMbxReq_within {s : State} {t : State} (e : execUnknownMbxReq s = .next t) :
    Within 2693757525484987478731323867168 s t := by
  exact endsIn_within (unknownRequest_within (Within.refl _ _) (by simp)) e

theorem execMbxIn_within {o : Origin} {w : Word} {s : State} {t : State} (e : execMbxIn o w s = .next t) :
    Within 5070602400894479305887526680562 s t := by
  exact endsIn_within (wordWrite_within (Within.refl _ _) (by simp)) e

theorem execMbxOutRead_within {o : Origin} {s : State} {t : State} (e : execMbxOutRead o s = .next t) :
    Within 950902667716051704288735396022 s t := by
  exact endsIn_within (busRead_within (Within.refl _ _) (by simp)) e

theorem execAlarmAction_within {c : Carrier} {tap : Bool} {s : State} {t : State} (e : execAlarmAction c tap s = .next t) :
    Within 2555115589087276736197760688160 s t := by
  exact endsIn_within (alarmAction_within (Within.refl _ _) (by simp)) e

theorem execAlsShutdown_within {c : Carrier} {s : State} {t : State} (e : execAlsShutdown c s = .next t) :
    Within 2555108259974495322471342841888 s t := by
  exact endsIn_within (alsShutdown_within (Within.refl _ _) (by simp)) e

theorem execAlsPulseStart_within {c : Carrier} {s : State} {t : State} (e : execAlsPulseStart c s = .next t) :
    Within 2555108259974495322471342841888 s t := by
  exact endsIn_within (alsPulseStart_within (Within.refl _ _) (by simp)) e

theorem execAlsPulseEnd_within {c : Carrier} {s : State} {t : State} (e : execAlsPulseEnd c s = .next t) :
    Within 2555108259974490818871715471392 s t := by
  exact endsIn_within (alsPulseEnd_within (Within.refl _ _) (by simp)) e

theorem execAlsRecovery_within {c : Carrier} {s : State} {t : State} (e : execAlsRecovery c s = .next t) :
    Within 2555108259974490818871715471392 s t := by
  exact endsIn_within (alsRecovery_within (Within.refl _ _) (by simp)) e

theorem execTamperInput_within {i : Fin 4} {s : State} {t : State} (e : execTamperInput i s = .next t) :
    Within 2713567003002237250494212907168 s t := by
  exact endsIn_within (by
    extract_lets -merge -useContext x1
    have h1 : Within (2713567003002237250494212907168 ||| 2 ^ 53) s x1 := by
      unfold x1
      exact (tamperInput_within (Within.refl _ _) (by simp))
    clear_value x1
    exact (Within.ite (wake_within h1 (by simp))
      h1)) e

theorem execZeroisePin_within {s : State} {t : State} (e : execZeroisePin s = .next t) :
    Within 2555110658936664116651752464416 s t := by
  exact endsIn_within (zeroisePin_within (Within.refl _ _) (by simp)) e

theorem execTestPortExpiry_within {s : State} {t : State} (e : execTestPortExpiry s = .next t) :
    Within 2535301200456458802993406410784 s t := by
  exact endsIn_within (testPortExpiry_within (Within.refl _ _) (by simp)) e

theorem execRk0HeartbeatCheck_within {s : State} {t : State} (e : execRk0HeartbeatCheck s = .next t) :
    Within 2693757525484991982330951237664 s t := by
  exact endsIn_within (heartbeatCheck_within (Within.refl _ _) (by simp)) e

theorem execRk0RecoveryReset_within {s : State} {t : State} (e : execRk0RecoveryReset s = .next t) :
    Within 5070602400894479305887526680560 s t := by
  exact endsIn_within (recoveryReset_within (Within.refl _ _) (by simp)) e

theorem execRk0RecoveryEnd_within {s : State} {t : State} (e : execRk0RecoveryEnd s = .next t) :
    Within 2535301200456463306594107523072 s t := by
  exact endsIn_within (recoveryEnd_within (Within.refl _ _) (by simp)) e

theorem execLockstepFail_within {s : State} {t : State} (e : execLockstepFail s = .next t) :
    Within 2555110658936664116652020899872 s t := by
  exact endsIn_within (lockstepFail_within (Within.refl _ _) (by simp)) e

theorem execRk0EscalationReset_within {s : State} {t : State} (e : execRk0EscalationReset s = .next t) :
    Within 5070602400894479869112358010878 s t := by
  exact endsIn_within (rk0Escalation_within (Within.refl _ _) (by simp)) e

theorem execZeroiseNRelease_within {s : State} {t : State} (e : execZeroiseNRelease s = .next t) :
    Within 1073741824 s t := by
  exact endsIn_within (zeroiseRelease_within (Within.refl _ _) (by simp)) e

theorem execTamperInputClear_within {i : Fin 4} {s : State} {t : State} (e : execTamperInputClear i s = .next t) :
    Within 2535301200456458802994480152576 s t := by
  exact endsIn_within (tamperClear_within (Within.refl _ _) (by simp)) e

end Sys2Proof.Machine
end

