-- ==== Sys2Proof/Laws/DeviceCommands.lean ====
section
/-! SUPPORT. Laws/DeviceCommands.lean: the parts of the state that each operation of Machine/DeviceCommands.lean can change. -/
namespace Sys2Proof.Machine

set_option Elab.async false

open Sys2Proof

theorem execHkSequence_within {n : Fin 2} {src : Fin 3} {refs : Int × Int} {temps : Int × Int} {s : State} {t : State} (e : execHkSequence n src refs temps s = .next t) :
    Within 5070602400894477617450539221024 s t := by
  exact endsIn_within (hkSourceTrigger_within
    (pageBoundary_within (Within.refl _ _) (by simp)) (by simp)) e

theorem execHkStart_within {o : Origin} {n : Fin 2} {readings : List Int} {s : State} {t : State} (e : execHkStart o n readings s = .next t) :
    Within 5070602400894479305887526680562 s t := by
  exact endsIn_within (fieldWrite_within (Within.refl _ _) (by simp)) e

theorem execHkSequenceDone_within {n : Fin 2} {codes : List (List Int)} {refs : Int × Int} {temps : Int × Int} {s : State} {t : State} (e : execHkSequenceDone n codes refs temps s = .next t) :
    Within 2361187745034450042912 s t := by
  exact endsIn_within (hkDone_within (Within.refl _ _) (by simp)) e

theorem execUrgGo_within {o : Origin} {n : Fin 2} {input : BitVec 5} {readings : List Int} {s : State} {t : State} (e : execUrgGo o n input readings s = .next t) :
    Within 5070602400894479305887526680562 s t := by
  exact endsIn_within (busWrite_within (Within.refl _ _) (by simp)) e

theorem execHkCalibration_within {n : Fin 2} {ends : Bool} {offset : List (Int × Int)} {gain : List (Int × Int)} {refs : Int × Int} {temps : Int × Int} {s : State} {t : State} (e : execHkCalibration n ends offset gain refs temps s = .next t) :
    Within 2951483555393155956768 s t := by
  exact endsIn_within (Within.ite (hkCalEnd_within (Within.refl _ _) (by simp))
    (hkCalBegin_within (Within.refl _ _) (by simp))) e

theorem execAuxStep_within {n : Fin 16} {s : State} {t : State} (e : execAuxStep n s = .next t) :
    Within 5070602400894477617450539221024 s t := by
  exact endsIn_within (auxStep_within
    (auxBoundary_within (Within.refl _ _) (by simp)) (by simp)) e

theorem execAuxRangeChange_within {n : Fin 16} {s : State} {t : State} (e : execAuxRangeChange n s = .next t) :
    Within 4722370986469272715264 s t := by
  exact endsIn_within (auxRangeChange_within (Within.refl _ _) (by simp)) e

theorem execRangeDone_within {n : Fin 16} {s : State} {t : State} (e : execRangeDone n s = .next t) :
    Within 4722366482869645213728 s t := by
  exact endsIn_within (auxRangeDone_within (Within.refl _ _) (by simp)) e

theorem execAuxclrPin_within {low : Bool} {s : State} {t : State} (e : execAuxclrPin low s = .next t) :
    Within 4722366482869645213728 s t := by
  exact endsIn_within (auxPin_within (Within.refl _ _) (by simp)) e

theorem execAuxLadderCal_within {n : Fin 16} {ms : List (Int × Int)} {s : State} {t : State} (e : execAuxLadderCal n ms s = .next t) :
    Within 5312662293228351258656 s t := by
  exact endsIn_within (auxLadderCal_within (Within.refl _ _) (by simp)) e

theorem execCalMeasurement_within {item : Nat} {unit : Nat} {sub : Nat} {m1 : Int} {m2 : Int} {s : State} {t : State} (e : execCalMeasurement item unit sub m1 m2 s = .next t) :
    Within 590295810358705913888 s t := by
  exact endsIn_within (Within.ite (calMeasure_within (Within.refl _ _) (by simp))
    (Within.refl _ _)) e

theorem execCalStore_within {s : State} {t : State} (e : execCalStore s = .next t) :
    Within 1209516115424991101845536 s t := by
  exact endsIn_within (Within.ite (calStore_within (Within.refl _ _) (by simp))
    (Within.refl _ _)) e

theorem execStoreNow_within {o : Origin} {s : State} {t : State} (e : execStoreNow o s = .next t) :
    Within 5070602400894479305887526680562 s t := by
  exact endsIn_within (fieldWrite_within (Within.refl _ _) (by simp)) e

theorem execPwrReq_within {o : Origin} {state : BitVec 3} {s : State} {t : State} (e : execPwrReq o state s = .next t) :
    Within 5070602400894479305887526680562 s t := by
  exact endsIn_within (wordWrite_within (Within.refl _ _) (by simp)) e

theorem execPwrEntryAction_within {s : State} {t : State} (e : execPwrEntryAction s = .next t) :
    Within 5070602400894477693429900636464 s t := by
  exact endsIn_within (entryAction_within (Within.refl _ _) (by simp)) e

theorem execPwrExit_within {counts : Nat} {s : State} {t : State} (e : execPwrExit counts s = .next t) :
    Within 5070602400894477834072631278768 s t := by
  exact endsIn_within (exitAction_within (Within.refl _ _) (by simp)) e

theorem execPwrTransitionEnd_within {s : State} {t : State} (e : execPwrTransitionEnd s = .next t) :
    Within 277298568947503708341610217632 s t := by
  exact endsIn_within (transitionEnd_within (Within.refl _ _) (by simp)) e

theorem execOrderlyShutdown_within {results : List (Option (Nat × Nat))} {s : State} {t : State} (e : execOrderlyShutdown results s = .next t) :
    Within 5070602400894477974907025093040 s t := by
  exact endsIn_within (orderlyShutdown_within (Within.refl _ _) (by simp)) e

theorem execWakeSource_within {source : Fin 7} {s : State} {t : State} (e : execWakeSource source s = .next t) :
    Within 147578526626767437984 s t := by
  exact endsIn_within (wake_within (Within.refl _ _) (by simp)) e

theorem execWakeInPin_within {s : State} {t : State} (e : execWakeInPin s = .next t) :
    Within 147578526626767437984 s t := by
  exact endsIn_within (wake_within (Within.refl _ _) (by simp)) e

theorem execPwrgdLow_within {s : State} {t : State} (e : execPwrgdLow s = .next t) :
    Within 5070602400894479869112358010878 s t := by
  exact endsIn_within (pwrgdLow_within (Within.refl _ _) (by simp)) e

theorem execAvsAck_within {s : State} {t : State} (e : execAvsAck s = .next t) :
    Within 147578526626767437824 s t := by
  exact endsIn_within (avsAck_within (Within.refl _ _) (by simp)) e

theorem execAvsRetry_within {s : State} {t : State} (e : execAvsRetry s = .next t) :
    Within 147578526626767437856 s t := by
  exact endsIn_within (avsRetry_within (Within.refl _ _) (by simp)) e

theorem execRegFaultPoll_within {within : Bool} {s : State} {t : State} (e : execRegFaultPoll within s = .next t) :
    Within 147578526626767437824 s t := by
  exact endsIn_within (regFaultPoll_within (Within.refl _ _) (by simp)) e

theorem execGovernorEval_within {s : State} {t : State} (e : execGovernorEval s = .next t) :
    Within 1901475900489922628871822245888 s t := by
  exact endsIn_within (governorEval_within (Within.refl _ _) (by simp)) e

theorem execLrefLoss_within {s : State} {t : State} (e : execLrefLoss s = .next t) :
    Within 18440973655462134197839212832 s t := by
  exact endsIn_within (lrefLoss_within (Within.refl _ _) (by simp)) e

theorem execLrefReturn_within {s : State} {t : State} (e : execLrefReturn s = .next t) :
    Within 295147905179352825856 s t := by
  exact endsIn_within (lrefReturn_within (Within.refl _ _) (by simp)) e

theorem execAonOscTrim_within {trim : Int} {s : State} {t : State} (e : execAonOscTrim trim s = .next t) :
    Within 4573968371548160 s t := by
  exact endsIn_within (aonTrim_within (Within.refl _ _) (by simp)) e

theorem execTbSet_within {o : Origin} {s : State} {t : State} (e : execTbSet o s = .next t) :
    Within 5070602400894479305887526680562 s t := by
  exact endsIn_within (fieldWrite_within (Within.refl _ _) (by simp)) e

theorem execTbAlarm_within {s : State} {t : State} (e : execTbAlarm s = .next t) :
    Within 442726572543608619168 s t := by
  exact endsIn_within (tbAlarm_within (Within.refl _ _) (by simp)) e

theorem execPpsEdge_within {s : State} {t : State} (e : execPpsEdge s = .next t) :
    Within 295153675416375395360 s t := by
  exact endsIn_within (ppsEdge_within (Within.refl _ _) (by simp)) e

theorem execPpsLost_within {s : State} {t : State} (e : execPpsLost s = .next t) :
    Within 295148045916841181216 s t := by
  exact endsIn_within (ppsLost_within (Within.refl _ _) (by simp)) e

theorem execPpsNextWrite_within {o : Origin} {sec : Word} {s : State} {t : State} (e : execPpsNextWrite o sec s = .next t) :
    Within 5070602400894479305887526680562 s t := by
  exact endsIn_within (wordWrite_within (Within.refl _ _) (by simp)) e

theorem execPpsOutPulse_within {s : State} {t : State} (e : execPpsOutPulse s = .next t) :
    Within 140737488355328 s t := by
  exact endsIn_within (ppsPulse_within (Within.refl _ _) (by simp)) e

theorem execOdGo_within {o : Origin} {b : BitVec 6} {s : State} {t : State} (e : execOdGo o b s = .next t) :
    Within 5070602400894479305887526680562 s t := by
  exact endsIn_within (fieldWrites_within (Within.refl _ _) (by simp)) e

theorem execOdTestEnd_within {result : Option (Nat × Nat)} {s : State} {t : State} (e : execOdTestEnd result s = .next t) :
    Within 5070602400894473443766990073888 s t := by
  exact endsIn_within (odTestEnd_within (Within.refl _ _) (by simp)) e

theorem execOdDeniedRead_within {o : Origin} {p : Page} {y2 : BitVec 10} {s : State} {t : State} (e : execOdDeniedRead o p y2 s = .next t) :
    Within 950902667716051704288735396022 s t := by
  exact endsIn_within (busRead_within (Within.refl _ _) (by simp)) e

theorem execDeviceStart_within {report : StartReport} {s : State} {t : State} (e : execDeviceStart report s = .next t) :
    Within 5070602400894479869112358010878 s t := by
  exact endsIn_within (deviceStart_within (Within.refl _ _) (by simp)) e

theorem execTrialSuccess_within {s : State} {t : State} (e : execTrialSuccess s = .next t) :
    Within 1208925820177581275611136 s t := by
  exact endsIn_within (trialSuccess_within (Within.refl _ _) (by simp)) e

theorem execTrialFail_within {s : State} {t : State} (e : execTrialFail s = .next t) :
    Within 5070602400894479869112358010878 s t := by
  exact endsIn_within (trialFail_within (Within.refl _ _) (by simp)) e

theorem execOnlineCoreReload_within {s : State} {t : State} (e : execOnlineCoreReload s = .next t) :
    Within 5070602400894479393841947341232 s t := by
  exact endsIn_within (onlineReload_within (Within.refl _ _) (by simp)) e

theorem execOnlineActivationCommit_within {s : State} {t : State} (e : execOnlineActivationCommit s = .next t) :
    Within 1208925820177581275611136 s t := by
  exact endsIn_within (onlineCommit_within (Within.refl _ _) (by simp)) e

theorem execVddAonLoss_within {s : State} {t : State} (e : execVddAonLoss s = .next t) :
    Within 5070602400894479869112358010878 s t := by
  exact endsIn_within (vddAonLoss_within (Within.refl _ _) (by simp)) e

theorem execInServiceSecondsUpdate_within {s : State} {t : State} (e : execInServiceSecondsUpdate s = .next t) :
    Within 4503601774854144 s t := by
  exact endsIn_within (Within.ite (startTimer_within
      (Within.upd_keep (Within.refl _ _) (by simp) _) (by simp))
    (Within.refl _ _)) e

theorem execOnlineActivationBusy_within {s : State} {t : State} (e : execOnlineActivationBusy s = .next t) :
    Within 178265783656314204871817461920 s t := by
  exact endsIn_within (onlineBusy_within (Within.refl _ _) (by simp)) e

end Sys2Proof.Machine
end

