-- ==== Sys2Proof/Laws/Dispatch.lean ====
section
/-! SUPPORT. Laws/Dispatch.lean: what every command leaves unchanged. -/
namespace Sys2Proof.Machine

set_option Elab.async false

open Sys2Proof (Instr)

/-- Every command keeps the queue and the canonical form; anything else it may change. -/
theorem exec_within {i : Instr} {s t : State} (e : exec i s = .next t) :
    Within 5070602400894479869112358010878 s t :=
  match i, e with
  | .runctlRun _ _, e => (execRunctlRun_within e).mono (by simp)
  | .runctlStop _ _, e => (execRunctlStop_within e).mono (by simp)
  | .pageStartComplete _ _ _ _, e => (execPageStartComplete_within e).mono (by simp)
  | .pageStopComplete _, e => (execPageStopComplete_within e).mono (by simp)
  | .pageBoundOverrun _, e => (execPageBoundOverrun_within e).mono (by simp)
  | .registerWrite _ _ _ _, e => (execRegisterWrite_within e).mono (by simp)
  | .hostMisalignedAccess _ _ _ _, e => (execHostMisalignedAccess_within e).mono (by simp)
  | .unmappedBar0Write _ _ _, e => (execUnmappedBar0Write_within e).mono (by simp)
  | .earlyBar0Write _ _, e => (execEarlyBar0Write_within e).mono (by simp)
  | .refusedWrClr _ _, e => (execRefusedWrClr_within e).mono (by simp)
  | .errlogClr _ _, e => (execErrlogClr_within e).mono (by simp)
  | .evtRawClear _ _ _, e => (execEvtRawClear_within e).mono (by simp)
  | .evtSet _ _ _, e => (execEvtSet_within e).mono (by simp)
  | .xLoReadLatch _ _ _, e => (execXLoReadLatch_within e).mono (by simp)
  | .evrSetMessage, e => (execEvrSetMessage_within e).mono (by simp)
  | .evrClearMessage _, e => (execEvrClearMessage_within e).mono (by simp)
  | .rtDataWrite _ _, e => (execRtDataWrite_within e).mono (by simp)
  | .swSet _ _, e => (execSwSet_within e).mono (by simp)
  | .swClr _ _, e => (execSwClr_within e).mono (by simp)
  | .semAcquire _ _, e => (execSemAcquire_within e).mono (by simp)
  | .semRelease _ _, e => (execSemRelease_within e).mono (by simp)
  | .vcViolation _, e => (execVcViolation_within e).mono (by simp)
  | .csfPairCompare _ _ _, e => (execCsfPairCompare_within e).mono (by simp)
  | .jointTimingRelease _, e => (execJointTimingRelease_within e).mono (by simp)
  | .rxSlip _, e => (execRxSlip_within e).mono (by simp)
  | .txSlip _, e => (execTxSlip_within e).mono (by simp)
  | .clientIngressDrop _, e => (execClientIngressDrop_within e).mono (by simp)
  | .clientEgressUnderrun _ _, e => (execClientEgressUnderrun_within e).mono (by simp)
  | .journalSpill _, e => (execJournalSpill_within e).mono (by simp)
  | .journalPersistBatch _, e => (execJournalPersistBatch_within e).mono (by simp)
  | .journalSpaceReturn, e => (execJournalSpaceReturn_within e).mono (by simp)
  | .signNow _, e => (execSignNow_within e).mono (by simp)
  | .journalSignatureDone, e => (execJournalSignatureDone_within e).mono (by simp)
  | .lfHeaderForm _, e => (execLfHeaderForm_within e).mono (by simp)
  | .lfmJoinPartner _, e => (execLfmJoinPartner_within e).mono (by simp)
  | .lfmPairStart, e => (execLfmPairStart_within e).mono (by simp)
  | .cpcRoundWrite _ _ _ _, e => (execCpcRoundWrite_within e).mono (by simp)
  | .justRangeClr _ _, e => (execJustRangeClr_within e).mono (by simp)
  | .rxFramePosition _ _, e => (execRxFramePosition_within e).mono (by simp)
  | .rxLfClassify _ _ _, e => (execRxLfClassify_within e).mono (by simp)
  | .syfStart _, e => (execSyfStart_within e).mono (by simp)
  | .pilotGroupSign _, e => (execPilotGroupSign_within e).mono (by simp)
  | .pchData _ _ _, e => (execPchData_within e).mono (by simp)
  | .pchCtlClr _ _, e => (execPchCtlClr_within e).mono (by simp)
  | .txFirSwap _ _ _, e => (execTxFirSwap_within e).mono (by simp)
  | .txXfadeEnd _, e => (execTxXfadeEnd_within e).mono (by simp)
  | .dacStart _, e => (execDacStart_within e).mono (by simp)
  | .ltxFgCalStart _, e => (execLtxFgCalStart_within e).mono (by simp)
  | .ltxFgCalDone _ _, e => (execLtxFgCalDone_within e).mono (by simp)
  | .ltxBgCalStep _ _ _ _, e => (execLtxBgCalStep_within e).mono (by simp)
  | .gateChange _, e => (execGateChange_within e).mono (by simp)
  | .holdover _ _, e => (execHoldover_within e).mono (by simp)
  | .loopTrackResume _, e => (execLoopTrackResume_within e).mono (by simp)
  | .ltxPatternMode _, e => (execLtxPatternMode_within e).mono (by simp)
  | .txInjectSingle _ _ _, e => (execTxInjectSingle_within e).mono (by simp)
  | .txInjectPeriodic _, e => (execTxInjectPeriodic_within e).mono (by simp)
  | .pramDataAccess _ _ _, e => (execPramDataAccess_within e).mono (by simp)
  | .dacClip _, e => (execDacClip_within e).mono (by simp)
  | .agcPeriod _, e => (execAgcPeriod_within e).mono (by simp)
  | .gainSet _ _ _, e => (execGainSet_within e).mono (by simp)
  | .fastStep _, e => (execFastStep_within e).mono (by simp)
  | .clip _ _, e => (execClip_within e).mono (by simp)
  | .clipIntervalEnd _, e => (execClipIntervalEnd_within e).mono (by simp)
  | .gainLimit _, e => (execGainLimit_within e).mono (by simp)
  | .lrxFgCal _ _ _, e => (execLrxFgCal_within e).mono (by simp)
  | .adcBgCalStep _ _, e => (execAdcBgCalStep_within e).mono (by simp)
  | .unretire _ _, e => (execUnretire_within e).mono (by simp)
  | .laneClockLoss _, e => (execLaneClockLoss_within e).mono (by simp)
  | .laneClockResume _, e => (execLaneClockResume_within e).mono (by simp)
  | .histStart _ _ _, e => (execHistStart_within e).mono (by simp)
  | .histDone _, e => (execHistDone_within e).mono (by simp)
  | .snapArm _ _ _, e => (execSnapArm_within e).mono (by simp)
  | .cdScanStart _, e => (execCdScanStart_within e).mono (by simp)
  | .cdScanComplete _ _ _, e => (execCdScanComplete_within e).mono (by simp)
  | .cdTrackStep _, e => (execCdTrackStep_within e).mono (by simp)
  | .cdSetWrite _ _ _, e => (execCdSetWrite_within e).mono (by simp)
  | .timingLock _ _, e => (execTimingLock_within e).mono (by simp)
  | .timingLockLost _ _, e => (execTimingLockLost_within e).mono (by simp)
  | .autoSkewEstimate _ _, e => (execAutoSkewEstimate_within e).mono (by simp)
  | .eqzLmsUpdate _ _, e => (execEqzLmsUpdate_within e).mono (by simp)
  | .singularity _ _ _, e => (execSingularity_within e).mono (by simp)
  | .channelEstimate _, e => (execChannelEstimate_within e).mono (by simp)
  | .eqzSwap _ _ _, e => (execEqzSwap_within e).mono (by simp)
  | .eqzXfadeEnd _, e => (execEqzXfadeEnd_within e).mono (by simp)
  | .eqzCopy _ _, e => (execEqzCopy_within e).mono (by simp)
  | .eqzInit _ _, e => (execEqzInit_within e).mono (by simp)
  | .coefDataAccess _ _ _, e => (execCoefDataAccess_within e).mono (by simp)
  | .shadowSnap _ _, e => (execShadowSnap_within e).mono (by simp)
  | .acqBegin _, e => (execAcqBegin_within e).mono (by simp)
  | .acqTimeout _, e => (execAcqTimeout_within e).mono (by simp)
  | .blindConverged _ _, e => (execBlindConverged_within e).mono (by simp)
  | .trainingDetect _ _ _ _, e => (execTrainingDetect_within e).mono (by simp)
  | .acqRestart _ _, e => (execAcqRestart_within e).mono (by simp)
  | .cprTrainingBlock _ _ _, e => (execCprTrainingBlock_within e).mono (by simp)
  | .foLock _, e => (execFoLock_within e).mono (by simp)
  | .foRange _, e => (execFoRange_within e).mono (by simp)
  | .pilotSlipCheck _ _ _, e => (execPilotSlipCheck_within e).mono (by simp)
  | .pchRecordWrite _, e => (execPchRecordWrite_within e).mono (by simp)
  | .pchRingEntries _ _ _, e => (execPchRingEntries_within e).mono (by simp)
  | .mlsEstimateUpdate _, e => (execMlsEstimateUpdate_within e).mono (by simp)
  | .trellisReset _, e => (execTrellisReset_within e).mono (by simp)
  | .snrUpdate _, e => (execSnrUpdate_within e).mono (by simp)
  | .fecHuntObservation _, e => (execFecHuntObservation_within e).mono (by simp)
  | .fecCheckResult _, e => (execFecCheckResult_within e).mono (by simp)
  | .uncorrectableBlock _, e => (execUncorrectableBlock_within e).mono (by simp)
  | .fecWindowEnd _, e => (execFecWindowEnd_within e).mono (by simp)
  | .ratchetDue _, e => (execRatchetDue_within e).mono (by simp)
  | .rekeyAnnounce _, e => (execRekeyAnnounce_within e).mono (by simp)
  | .activationDeadline _, e => (execActivationDeadline_within e).mono (by simp)
  | .activationTakeEffect _, e => (execActivationTakeEffect_within e).mono (by simp)
  | .retainedSlotExpiry _, e => (execRetainedSlotExpiry_within e).mono (by simp)
  | .slotExpiry _ _ _, e => (execSlotExpiry_within e).mono (by simp)
  | .epochExchangeStart _, e => (execEpochExchangeStart_within e).mono (by simp)
  | .epochExhausted _, e => (execEpochExhausted_within e).mono (by simp)
  | .wakeSend _ _, e => (execWakeSend_within e).mono (by simp)
  | .wakeBurst _, e => (execWakeBurst_within e).mono (by simp)
  | .wakeWordRx _ _, e => (execWakeWordRx_within e).mono (by simp)
  | .answerSend _, e => (execAnswerSend_within e).mono (by simp)
  | .pchWordSync _, e => (execPchWordSync_within e).mono (by simp)
  | .pchWordSyncLoss _, e => (execPchWordSyncLoss_within e).mono (by simp)
  | .linkWord _ _, e => (execLinkWord_within e).mono (by simp)
  | .ack _ _, e => (execAck_within e).mono (by simp)
  | .hello _ _, e => (execHello_within e).mono (by simp)
  | .caps _ _, e => (execCaps_within e).mono (by simp)
  | .attest _ _, e => (execAttest_within e).mono (by simp)
  | .kemInit _ _, e => (execKemInit_within e).mono (by simp)
  | .kemResp _ _, e => (execKemResp_within e).mono (by simp)
  | .keyConfirm _ _, e => (execKeyConfirm_within e).mono (by simp)
  | .rekey _ _, e => (execRekey_within e).mono (by simp)
  | .rateOffer _ _, e => (execRateOffer_within e).mono (by simp)
  | .rateAccept _ _, e => (execRateAccept_within e).mono (by simp)
  | .step _ _, e => (execStep_within e).mono (by simp)
  | .stepAck _ _, e => (execStepAck_within e).mono (by simp)
  | .routeSwitch _ _, e => (execRouteSwitch_within e).mono (by simp)
  | .sleepReq _ _, e => (execSleepReq_within e).mono (by simp)
  | .wakeMsg _ _, e => (execWakeMsg_within e).mono (by simp)
  | .telemetry _ _, e => (execTelemetry_within e).mono (by simp)
  | .timeMsg _ _, e => (execTimeMsg_within e).mono (by simp)
  | .refuse _ _, e => (execRefuse_within e).mono (by simp)
  | .unknownTypeMessage _ _ _, e => (execUnknownTypeMessage_within e).mono (by simp)
  | .retxTimeout _ _, e => (execRetxTimeout_within e).mono (by simp)
  | .ackTimer _, e => (execAckTimer_within e).mono (by simp)
  | .timeSend _, e => (execTimeSend_within e).mono (by simp)
  | .csfTimestamp _ _ _ _, e => (execCsfTimestamp_within e).mono (by simp)
  | .pathStateChange _, e => (execPathStateChange_within e).mono (by simp)
  | .handshakeTimeout _, e => (execHandshakeTimeout_within e).mono (by simp)
  | .failedRetry _, e => (execFailedRetry_within e).mono (by simp)
  | .sessionPathless _, e => (execSessionPathless_within e).mono (by simp)
  | .pchModulationChange _, e => (execPchModulationChange_within e).mono (by simp)
  | .pchRxClear _, e => (execPchRxClear_within e).mono (by simp)
  | .stepOffer _, e => (execStepOffer_within e).mono (by simp)
  | .stepOfferDeadline _, e => (execStepOfferDeadline_within e).mono (by simp)
  | .stepRestart _, e => (execStepRestart_within e).mono (by simp)
  | .armedLapse _ _, e => (execArmedLapse_within e).mono (by simp)
  | .stepConfirming _, e => (execStepConfirming_within e).mono (by simp)
  | .stepDone _, e => (execStepDone_within e).mono (by simp)
  | .fallback _, e => (execFallback_within e).mono (by simp)
  | .stepDown _, e => (execStepDown_within e).mono (by simp)
  | .stepBackoffEnd _, e => (execStepBackoffEnd_within e).mono (by simp)
  | .sleepDelayExpiry, e => (execSleepDelayExpiry_within e).mono (by simp)
  | .rpsOutputInstant, e => (execRpsOutputInstant_within e).mono (by simp)
  | .rpsPairState, e => (execRpsPairState_within e).mono (by simp)
  | .realign, e => (execRealign_within e).mono (by simp)
  | .rpsCmdRealign _, e => (execRpsCmdRealign_within e).mono (by simp)
  | .rpsCmdManual _ _, e => (execRpsCmdManual_within e).mono (by simp)
  | .rpsCmdForced _ _, e => (execRpsCmdForced_within e).mono (by simp)
  | .rpsCmdClear _ _, e => (execRpsCmdClear_within e).mono (by simp)
  | .rpsSfHoldoff, e => (execRpsSfHoldoff_within e).mono (by simp)
  | .wtrExpiry, e => (execWtrExpiry_within e).mono (by simp)
  | .rpsDramOn, e => (execRpsDramOn_within e).mono (by simp)
  | .swRequest, e => (execSwRequest_within e).mono (by simp)
  | .swRequestDeadline, e => (execSwRequestDeadline_within e).mono (by simp)
  | .swToggle, e => (execSwToggle_within e).mono (by simp)
  | .swSettleExpiry, e => (execSwSettleExpiry_within e).mono (by simp)
  | .swDone _, e => (execSwDone_within e).mono (by simp)
  | .swUnilateral, e => (execSwUnilateral_within e).mono (by simp)
  | .fesEn _ _ _, e => (execFesEn_within e).mono (by simp)
  | .moduleReady _ _, e => (execModuleReady_within e).mono (by simp)
  | .tune _ _, e => (execTune_within e).mono (by simp)
  | .wavelengthLock _ _, e => (execWavelengthLock_within e).mono (by simp)
  | .txReadyEntry _, e => (execTxReadyEntry_within e).mono (by simp)
  | .txReq _ _, e => (execTxReq_within e).mono (by simp)
  | .txHoldRelease _, e => (execTxHoldRelease_within e).mono (by simp)
  | .txHoldTimeout _, e => (execTxHoldTimeout_within e).mono (by simp)
  | .txOff _ _, e => (execTxOff_within e).mono (by simp)
  | .clrFault _ _, e => (execClrFault_within e).mono (by simp)
  | .losReading _ _, e => (execLosReading_within e).mono (by simp)
  | .fesFault _ _, e => (execFesFault_within e).mono (by simp)
  | .safetyHoldState _, e => (execSafetyHoldState_within e).mono (by simp)
  | .foMargin _, e => (execFoMargin_within e).mono (by simp)
  | .tiaGainStep _ _, e => (execTiaGainStep_within e).mono (by simp)
  | .cmisGo _ _ _, e => (execCmisGo_within e).mono (by simp)
  | .cmisFlagPoll _ _ _ _ _ _, e => (execCmisFlagPoll_within e).mono (by simp)
  | .synUnlock _, e => (execSynUnlock_within e).mono (by simp)
  | .synRelock _ _ _, e => (execSynRelock_within e).mono (by simp)
  | .telTick _, e => (execTelTick_within e).mono (by simp)
  | .telOutput _, e => (execTelOutput_within e).mono (by simp)
  | .telSync _, e => (execTelSync_within e).mono (by simp)
  | .learn _ _, e => (execLearn_within e).mono (by simp)
  | .learnDone _, e => (execLearnDone_within e).mono (by simp)
  | .tapArm _ _ _, e => (execTapArm_within e).mono (by simp)
  | .tapAck _ _, e => (execTapAck_within e).mono (by simp)
  | .tapRaise _ _ _, e => (execTapRaise_within e).mono (by simp)
  | .ringDrop, e => (execRingDrop_within e).mono (by simp)
  | .castTrigger _, e => (execCastTrigger_within e).mono (by simp)
  | .castSwTrig _, e => (execCastSwTrig_within e).mono (by simp)
  | .castHeldTrigger, e => (execCastHeldTrigger_within e).mono (by simp)
  | .castWindowEnd, e => (execCastWindowEnd_within e).mono (by simp)
  | .castCommit, e => (execCastCommit_within e).mono (by simp)
  | .idleDelete _ _, e => (execIdleDelete_within e).mono (by simp)
  | .idleInsert _ _ _ _, e => (execIdleInsert_within e).mono (by simp)
  | .ingressPortState _ _ _ _, e => (execIngressPortState_within e).mono (by simp)
  | .egressPortState _ _ _, e => (execEgressPortState_within e).mono (by simp)
  | .egressFaultHold _ _, e => (execEgressFaultHold_within e).mono (by simp)
  | .clxRxState _ _, e => (execClxRxState_within e).mono (by simp)
  | .clxRxTimeout _, e => (execClxRxTimeout_within e).mono (by simp)
  | .eiExit _, e => (execEiExit_within e).mono (by simp)
  | .chkBitCompare _ _, e => (execChkBitCompare_within e).mono (by simp)
  | .clxInjectSingle _ _ _, e => (execClxInjectSingle_within e).mono (by simp)
  | .clxInjectPeriodic _, e => (execClxInjectPeriodic_within e).mono (by simp)
  | .eyeStart _ _ _, e => (execEyeStart_within e).mono (by simp)
  | .eyeDone _ _, e => (execEyeDone_within e).mono (by simp)
  | .eyeAbandon _, e => (execEyeAbandon_within e).mono (by simp)
  | .perstRelease, e => (execPerstRelease_within e).mono (by simp)
  | .retrain _, e => (execRetrain_within e).mono (by simp)
  | .linkRecovery _ _, e => (execLinkRecovery_within e).mono (by simp)
  | .creditStall, e => (execCreditStall_within e).mono (by simp)
  | .cxlMemRead _, e => (execCxlMemRead_within e).mono (by simp)
  | .cxlMemWrite _ _, e => (execCxlMemWrite_within e).mono (by simp)
  | .getEventRecords _, e => (execGetEventRecords_within e).mono (by simp)
  | .clearEventRecords _ _ _, e => (execClearEventRecords_within e).mono (by simp)
  | .getEventInterruptPolicy, e => (execGetEventInterruptPolicy_within e).mono (by simp)
  | .setEventInterruptPolicy _ _ _ _, e => (execSetEventInterruptPolicy_within e).mono (by simp)
  | .getFwInfo, e => (execGetFwInfo_within e).mono (by simp)
  | .transferFw _ _ _ _, e => (execTransferFw_within e).mono (by simp)
  | .activateFw _ _, e => (execActivateFw_within e).mono (by simp)
  | .getTimestamp, e => (execGetTimestamp_within e).mono (by simp)
  | .setTimestamp _, e => (execSetTimestamp_within e).mono (by simp)
  | .getSupportedLogs, e => (execGetSupportedLogs_within e).mono (by simp)
  | .getLog _, e => (execGetLog_within e).mono (by simp)
  | .identifyMemoryDevice, e => (execIdentifyMemoryDevice_within e).mono (by simp)
  | .getHealthInfo, e => (execGetHealthInfo_within e).mono (by simp)
  | .submitCapsuleCmd _, e => (execSubmitCapsuleCmd_within e).mono (by simp)
  | .getCapsuleResult _, e => (execGetCapsuleResult_within e).mono (by simp)
  | .getAttestationReport _, e => (execGetAttestationReport_within e).mono (by simp)
  | .getJournalSignature _, e => (execGetJournalSignature_within e).mono (by simp)
  | .readArchiveObject _, e => (execReadArchiveObject_within e).mono (by simp)
  | .getDeviceCertificate _, e => (execGetDeviceCertificate_within e).mono (by simp)
  | .unsupportedOpcode, e => (execUnsupportedOpcode_within e).mono (by simp)
  | .mboxBackgroundDone, e => (execMboxBackgroundDone_within e).mono (by simp)
  | .ideKeyChange _ _, e => (execIdeKeyChange_within e).mono (by simp)
  | .bundleIssue _, e => (execBundleIssue_within e).mono (by simp)
  | .nop _, e => (execNop_within e).mono (by simp)
  | .mpy _ _ _ _ _ _, e => (execMpy_within e).mono (by simp)
  | .mac _ _ _ _ _ _, e => (execMac_within e).mono (by simp)
  | .msu _ _ _ _ _ _, e => (execMsu_within e).mono (by simp)
  | .cmpy _ _ _ _ _ _, e => (execCmpy_within e).mono (by simp)
  | .cmac _ _ _ _ _ _, e => (execCmac_within e).mono (by simp)
  | .cmacj _ _ _ _ _ _, e => (execCmacj_within e).mono (by simp)
  | .ext _ _ _ _ _ _, e => (execExt_within e).mono (by simp)
  | .aclr _ _ _ _ _ _, e => (execAclr_within e).mono (by simp)
  | .amov _ _ _ _ _ _, e => (execAmov_within e).mono (by simp)
  | .ardl _ _ _ _ _ _, e => (execArdl_within e).mono (by simp)
  | .ardh _ _ _ _ _ _, e => (execArdh_within e).mono (by simp)
  | .ashl _ _ _ _ _ _, e => (execAshl_within e).mono (by simp)
  | .ashr _ _ _ _ _ _, e => (execAshr_within e).mono (by simp)
  | .acs _ _ _ _ _ _, e => (execAcs_within e).mono (by simp)
  | .add2 _ _ _ _ _ _, e => (execAdd2_within e).mono (by simp)
  | .adds2 _ _ _ _ _ _, e => (execAdds2_within e).mono (by simp)
  | .sub2 _ _ _ _ _ _, e => (execSub2_within e).mono (by simp)
  | .subs2 _ _ _ _ _ _, e => (execSubs2_within e).mono (by simp)
  | .add _ _ _ _ _ _, e => (execAdd_within e).mono (by simp)
  | .sub _ _ _ _ _ _, e => (execSub_within e).mono (by simp)
  | .and _ _ _ _ _ _, e => (execAnd_within e).mono (by simp)
  | .or _ _ _ _ _ _, e => (execOr_within e).mono (by simp)
  | .xor _ _ _ _ _ _, e => (execXor_within e).mono (by simp)
  | .shl _ _ _ _ _ _, e => (execShl_within e).mono (by simp)
  | .shr _ _ _ _ _ _, e => (execShr_within e).mono (by simp)
  | .asr _ _ _ _ _ _, e => (execAsr_within e).mono (by simp)
  | .min2 _ _ _ _ _ _, e => (execMin2_within e).mono (by simp)
  | .max2 _ _ _ _ _ _, e => (execMax2_within e).mono (by simp)
  | .movi _ _ _ _, e => (execMovi_within e).mono (by simp)
  | .movhi _ _ _ _, e => (execMovhi_within e).mono (by simp)
  | .slt _ _ _ _ _ _, e => (execSlt_within e).mono (by simp)
  | .seq _ _ _ _ _ _, e => (execSeq_within e).mono (by simp)
  | .ldh _ _ _ _ _, e => (execLdh_within e).mono (by simp)
  | .ldw _ _ _ _ _, e => (execLdw_within e).mono (by simp)
  | .ldd _ _ _ _ _, e => (execLdd_within e).mono (by simp)
  | .sth _ _ _ _ _, e => (execSth_within e).mono (by simp)
  | .stw _ _ _ _ _, e => (execStw_within e).mono (by simp)
  | .std _ _ _ _ _, e => (execStd_within e).mono (by simp)
  | .mova _ _ _, e => (execMova_within e).mono (by simp)
  | .movda _ _ _, e => (execMovda_within e).mono (by simp)
  | .setb _ _ _, e => (execSetb_within e).mono (by simp)
  | .setl _ _ _, e => (execSetl_within e).mono (by simp)
  | .setm _ _ _, e => (execSetm_within e).mono (by simp)
  | .adda _ _ _, e => (execAdda_within e).mono (by simp)
  | .br _ _, e => (execBr_within e).mono (by simp)
  | .bz _ _ _, e => (execBz_within e).mono (by simp)
  | .bnz _ _ _, e => (execBnz_within e).mono (by simp)
  | .blt _ _ _, e => (execBlt_within e).mono (by simp)
  | .bge _ _ _, e => (execBge_within e).mono (by simp)
  | .call _ _, e => (execCall_within e).mono (by simp)
  | .jr _ _, e => (execJr_within e).mono (by simp)
  | .ret _, e => (execRet_within e).mono (by simp)
  | .loop _ _ _, e => (execLoop_within e).mono (by simp)
  | .loopi _ _ _, e => (execLoopi_within e).mono (by simp)
  | .movtc _ _ _, e => (execMovtc_within e).mono (by simp)
  | .movfc _ _ _, e => (execMovfc_within e).mono (by simp)
  | .trap _ _, e => (execTrap_within e).mono (by simp)
  | .rti _, e => (execRti_within e).mono (by simp)
  | .ei _, e => (execEi_within e).mono (by simp)
  | .di _, e => (execDi_within e).mono (by simp)
  | .wait _, e => (execWait_within e).mono (by simp)
  | .halt _, e => (execHalt_within e).mono (by simp)
  | .brk _, e => (execBrk_within e).mono (by simp)
  | .interruptEntry _, e => (execInterruptEntry_within e).mono (by simp)
  | .trapEntry _ _ _ _, e => (execTrapEntry_within e).mono (by simp)
  | .waitWake _, e => (execWaitWake_within e).mono (by simp)
  | .dmaDescriptor _ _, e => (execDmaDescriptor_within e).mono (by simp)
  | .dmaTailWrite _ _ _, e => (execDmaTailWrite_within e).mono (by simp)
  | .dmaResume _ _, e => (execDmaResume_within e).mono (by simp)
  | .load _ _ _, e => (execLoad_within e).mono (by simp)
  | .loadVerifyDone _, e => (execLoadVerifyDone_within e).mono (by simp)
  | .rkCoreReset _ _, e => (execRkCoreReset_within e).mono (by simp)
  | .debugWindowWrite _ _ _ _, e => (execDebugWindowWrite_within e).mono (by simp)
  | .debugWindowRead _ _ _, e => (execDebugWindowRead_within e).mono (by simp)
  | .debugStep _ _, e => (execDebugStep_within e).mono (by simp)
  | .tallyTick _, e => (execTallyTick_within e).mono (by simp)
  | .tallyClr _ _ _, e => (execTallyClr_within e).mono (by simp)
  | .tallyEn _ _ _, e => (execTallyEn_within e).mono (by simp)
  | .sampleClr _ _, e => (execSampleClr_within e).mono (by simp)
  | .sampleD0Read _ _, e => (execSampleD0Read_within e).mono (by simp)
  | .sampleD3Read _ _, e => (execSampleD3Read_within e).mono (by simp)
  | .fabricClr _ _ _, e => (execFabricClr_within e).mono (by simp)
  | .scrubAccess _, e => (execScrubAccess_within e).mono (by simp)
  | .scrubLapEnd _, e => (execScrubLapEnd_within e).mono (by simp)
  | .lapSlow _, e => (execLapSlow_within e).mono (by simp)
  | .eccCorrection _, e => (execEccCorrection_within e).mono (by simp)
  | .correctionWriteback _, e => (execCorrectionWriteback_within e).mono (by simp)
  | .rowRemapCopyDone _, e => (execRowRemapCopyDone_within e).mono (by simp)
  | .uncorrectableError _ _, e => (execUncorrectableError_within e).mono (by simp)
  | .granuleFirstWrite _ _, e => (execGranuleFirstWrite_within e).mono (by simp)
  | .granuleFillDone _, e => (execGranuleFillDone_within e).mono (by simp)
  | .uninitialisedRead _, e => (execUninitialisedRead_within e).mono (by simp)
  | .flashOpTimeout _ _, e => (execFlashOpTimeout_within e).mono (by simp)
  | .flashReadDecode _ _ _ _, e => (execFlashReadDecode_within e).mono (by simp)
  | .archiveFormat, e => (execArchiveFormat_within e).mono (by simp)
  | .formatDone, e => (execFormatDone_within e).mono (by simp)
  | .grownBad _ _, e => (execGrownBad_within e).mono (by simp)
  | .wearLevelMove _ _, e => (execWearLevelMove_within e).mono (by simp)
  | .flashRefresh _ _, e => (execFlashRefresh_within e).mono (by simp)
  | .readDisturbRelocate _, e => (execReadDisturbRelocate_within e).mono (by simp)
  | .ringBudgetEval _, e => (execRingBudgetEval_within e).mono (by simp)
  | .mramCommit _ _, e => (execMramCommit_within e).mono (by simp)
  | .submitCapsule, e => (execSubmitCapsule_within e).mono (by simp)
  | .installOfficer, e => (execInstallOfficer_within e).mono (by simp)
  | .removeOfficer, e => (execRemoveOfficer_within e).mono (by simp)
  | .loadPsk, e => (execLoadPsk_within e).mono (by simp)
  | .clearPsk, e => (execClearPsk_within e).mono (by simp)
  | .writePo, e => (execWritePo_within e).mono (by simp)
  | .setTrust, e => (execSetTrust_within e).mono (by simp)
  | .setAllow, e => (execSetAllow_within e).mono (by simp)
  | .setCodeKey, e => (execSetCodeKey_within e).mono (by simp)
  | .setSvnMin, e => (execSetSvnMin_within e).mono (by simp)
  | .testPort, e => (execTestPort_within e).mono (by simp)
  | .formatArchive, e => (execFormatArchive_within e).mono (by simp)
  | .zeroise, e => (execZeroise_within e).mono (by simp)
  | .release, e => (execRelease_within e).mono (by simp)
  | .getResult, e => (execGetResult_within e).mono (by simp)
  | .getAttest, e => (execGetAttest_within e).mono (by simp)
  | .getJournalSig, e => (execGetJournalSig_within e).mono (by simp)
  | .getCert, e => (execGetCert_within e).mono (by simp)
  | .alsRestart, e => (execAlsRestart_within e).mono (by simp)
  | .unknownMbxReq, e => (execUnknownMbxReq_within e).mono (by simp)
  | .mbxIn _ _, e => (execMbxIn_within e).mono (by simp)
  | .mbxOutRead _, e => (execMbxOutRead_within e).mono (by simp)
  | .alarmAction _ _, e => (execAlarmAction_within e).mono (by simp)
  | .alsShutdown _, e => (execAlsShutdown_within e).mono (by simp)
  | .alsPulseStart _, e => (execAlsPulseStart_within e).mono (by simp)
  | .alsPulseEnd _, e => (execAlsPulseEnd_within e).mono (by simp)
  | .alsRecovery _, e => (execAlsRecovery_within e).mono (by simp)
  | .tamperInput _, e => (execTamperInput_within e).mono (by simp)
  | .zeroisePin, e => (execZeroisePin_within e).mono (by simp)
  | .testPortExpiry, e => (execTestPortExpiry_within e).mono (by simp)
  | .rk0HeartbeatCheck, e => (execRk0HeartbeatCheck_within e).mono (by simp)
  | .rk0RecoveryReset, e => (execRk0RecoveryReset_within e).mono (by simp)
  | .rk0RecoveryEnd, e => (execRk0RecoveryEnd_within e).mono (by simp)
  | .lockstepFail, e => (execLockstepFail_within e).mono (by simp)
  | .hkSequence _ _ _ _, e => (execHkSequence_within e).mono (by simp)
  | .hkStart _ _ _, e => (execHkStart_within e).mono (by simp)
  | .hkSequenceDone _ _ _ _, e => (execHkSequenceDone_within e).mono (by simp)
  | .urgGo _ _ _ _, e => (execUrgGo_within e).mono (by simp)
  | .hkCalibration _ _ _ _ _ _, e => (execHkCalibration_within e).mono (by simp)
  | .auxStep _, e => (execAuxStep_within e).mono (by simp)
  | .auxRangeChange _, e => (execAuxRangeChange_within e).mono (by simp)
  | .rangeDone _, e => (execRangeDone_within e).mono (by simp)
  | .auxclrPin _, e => (execAuxclrPin_within e).mono (by simp)
  | .auxLadderCal _ _, e => (execAuxLadderCal_within e).mono (by simp)
  | .calMeasurement _ _ _ _ _, e => (execCalMeasurement_within e).mono (by simp)
  | .calStore, e => (execCalStore_within e).mono (by simp)
  | .storeNow _, e => (execStoreNow_within e).mono (by simp)
  | .pwrReq _ _, e => (execPwrReq_within e).mono (by simp)
  | .pwrEntryAction, e => (execPwrEntryAction_within e).mono (by simp)
  | .pwrExit _, e => (execPwrExit_within e).mono (by simp)
  | .pwrTransitionEnd, e => (execPwrTransitionEnd_within e).mono (by simp)
  | .orderlyShutdown _, e => (execOrderlyShutdown_within e).mono (by simp)
  | .wakeSource _, e => (execWakeSource_within e).mono (by simp)
  | .wakeInPin, e => (execWakeInPin_within e).mono (by simp)
  | .pwrgdLow, e => (execPwrgdLow_within e).mono (by simp)
  | .avsAck, e => (execAvsAck_within e).mono (by simp)
  | .avsRetry, e => (execAvsRetry_within e).mono (by simp)
  | .regFaultPoll _, e => (execRegFaultPoll_within e).mono (by simp)
  | .governorEval, e => (execGovernorEval_within e).mono (by simp)
  | .lrefLoss, e => (execLrefLoss_within e).mono (by simp)
  | .lrefReturn, e => (execLrefReturn_within e).mono (by simp)
  | .aonOscTrim _, e => (execAonOscTrim_within e).mono (by simp)
  | .tbSet _, e => (execTbSet_within e).mono (by simp)
  | .tbAlarm, e => (execTbAlarm_within e).mono (by simp)
  | .ppsEdge, e => (execPpsEdge_within e).mono (by simp)
  | .ppsLost, e => (execPpsLost_within e).mono (by simp)
  | .ppsNextWrite _ _, e => (execPpsNextWrite_within e).mono (by simp)
  | .ppsOutPulse, e => (execPpsOutPulse_within e).mono (by simp)
  | .odGo _ _, e => (execOdGo_within e).mono (by simp)
  | .odTestEnd _, e => (execOdTestEnd_within e).mono (by simp)
  | .odDeniedRead _ _ _, e => (execOdDeniedRead_within e).mono (by simp)
  | .deviceStart _, e => (execDeviceStart_within e).mono (by simp)
  | .trialSuccess, e => (execTrialSuccess_within e).mono (by simp)
  | .trialFail, e => (execTrialFail_within e).mono (by simp)
  | .onlineCoreReload, e => (execOnlineCoreReload_within e).mono (by simp)
  | .onlineActivationCommit, e => (execOnlineActivationCommit_within e).mono (by simp)
  | .rk0EscalationReset, e => (execRk0EscalationReset_within e).mono (by simp)
  | .skewSlew _ _, e => (execSkewSlew_within e).mono (by simp)
  | .snapshotEnd, e => (execSnapshotEnd_within e).mono (by simp)
  | .kqErase _, e => (execKqErase_within e).mono (by simp)
  | .zeroiseNRelease, e => (execZeroiseNRelease_within e).mono (by simp)
  | .tamperInputClear _, e => (execTamperInputClear_within e).mono (by simp)
  | .vddAonLoss, e => (execVddAonLoss_within e).mono (by simp)
  | .perstNAssert, e => (execPerstNAssert_within e).mono (by simp)
  | .hostLinkUp _ _ _, e => (execHostLinkUp_within e).mono (by simp)
  | .laneMarginingCommand _ _, e => (execLaneMarginingCommand_within e).mono (by simp)
  | .msixUnmask _, e => (execMsixUnmask_within e).mono (by simp)
  | .inServiceSecondsUpdate, e => (execInServiceSecondsUpdate_within e).mono (by simp)
  | .onlineActivationBusy, e => (execOnlineActivationBusy_within e).mono (by simp)

end Sys2Proof.Machine
end

