-- ==== Sys2Proof/Laws/Updates.lean ====
section
/-! SUPPORT. Laws/Updates.lean: what each named update leaves of each field, one lemma for each. -/
namespace Sys2Proof.Machine

set_option Elab.async false

open Sys2Proof (Word Byte)

/-! ## setWord -/

section

variable (s : State) (p : Page) (off : Nat) (w : Word)

@[simp] theorem setWord_latches : (setWord s p off w).latches = s.latches := rfl
@[simp] theorem setWord_answer : (setWord s p off w).answer = s.answer := rfl
@[simp] theorem setWord_hostReady : (setWord s p off w).hostReady = s.hostReady := rfl
@[simp] theorem setWord_journal : (setWord s p off w).journal = s.journal := rfl
@[simp] theorem setWord_evr : (setWord s p off w).evr = s.evr := rfl
@[simp] theorem setWord_msix : (setWord s p off w).msix = s.msix := rfl
@[simp] theorem setWord_semaphores : (setWord s p off w).semaphores = s.semaphores := rfl
@[simp] theorem setWord_pairMatches : (setWord s p off w).pairMatches = s.pairMatches := rfl
@[simp] theorem setWord_tickEvents : (setWord s p off w).tickEvents = s.tickEvents := rfl
@[simp] theorem setWord_nowNs : (setWord s p off w).nowNs = s.nowNs := rfl
@[simp] theorem setWord_elapsedNs : (setWord s p off w).elapsedNs = s.elapsedNs := rfl
@[simp] theorem setWord_framer : (setWord s p off w).framer = s.framer := rfl
@[simp] theorem setWord_fec : (setWord s p off w).fec = s.fec := rfl
@[simp] theorem setWord_cpc : (setWord s p off w).cpc = s.cpc := rfl
@[simp] theorem setWord_cipher : (setWord s p off w).cipher = s.cipher := rfl
@[simp] theorem setWord_hk : (setWord s p off w).hk = s.hk := rfl
@[simp] theorem setWord_aux : (setWord s p off w).aux = s.aux := rfl
@[simp] theorem setWord_cal : (setWord s p off w).cal = s.cal := rfl
@[simp] theorem setWord_txDsp : (setWord s p off w).txDsp = s.txDsp := rfl
@[simp] theorem setWord_txLane : (setWord s p off w).txLane = s.txLane := rfl
@[simp] theorem setWord_lineRx : (setWord s p off w).lineRx = s.lineRx := rfl
@[simp] theorem setWord_carrierRec : (setWord s p off w).carrierRec = s.carrierRec := rfl
@[simp] theorem setWord_demapper : (setWord s p off w).demapper = s.demapper := rfl
@[simp] theorem setWord_dispersion : (setWord s p off w).dispersion = s.dispersion := rfl
@[simp] theorem setWord_equaliser : (setWord s p off w).equaliser = s.equaliser := rfl
@[simp] theorem setWord_tunedN : (setWord s p off w).tunedN = s.tunedN := rfl
@[simp] theorem setWord_dsram : (setWord s p off w).dsram = s.dsram := rfl
@[simp] theorem setWord_optics : (setWord s p off w).optics = s.optics := rfl
@[simp] theorem setWord_qlt : (setWord s p off w).qlt = s.qlt := rfl
@[simp] theorem setWord_plinth : (setWord s p off w).plinth = s.plinth := rfl
@[simp] theorem setWord_keep : (setWord s p off w).keep = s.keep := rfl
@[simp] theorem setWord_archive : (setWord s p off w).archive = s.archive := rfl
@[simp] theorem setWord_rps : (setWord s p off w).rps = s.rps := rfl
@[simp] theorem setWord_tel : (setWord s p off w).tel = s.tel := rfl
@[simp] theorem setWord_cast : (setWord s p off w).cast = s.cast := rfl
@[simp] theorem setWord_vddRequested : (setWord s p off w).vddRequested = s.vddRequested := rfl
@[simp] theorem setWord_checkers : (setWord s p off w).checkers = s.checkers := rfl
@[simp] theorem setWord_hostLink : (setWord s p off w).hostLink = s.hostLink := rfl
@[simp] theorem setWord_mbox : (setWord s p off w).mbox = s.mbox := rfl
@[simp] theorem setWord_memories : (setWord s p off w).memories = s.memories := rfl
@[simp] theorem setWord_isram : (setWord s p off w).isram = s.isram := rfl
@[simp] theorem setWord_cores : (setWord s p off w).cores = s.cores := rfl
@[simp] theorem setWord_images : (setWord s p off w).images = s.images := rfl
@[simp] theorem setWord_stepsDue : (setWord s p off w).stepsDue = s.stepsDue := rfl
@[simp] theorem setWord_samples : (setWord s p off w).samples = s.samples := rfl
@[simp] theorem setWord_pwrMgr : (setWord s p off w).pwrMgr = s.pwrMgr := rfl
@[simp] theorem setWord_timeBase : (setWord s p off w).timeBase = s.timeBase := rfl
@[simp] theorem setWord_selfTest : (setWord s p off w).selfTest = s.selfTest := rfl
@[simp] theorem setWord_firmware : (setWord s p off w).firmware = s.firmware := rfl
@[simp] theorem setWord_freeCount : (setWord s p off w).freeCount = s.freeCount := rfl
@[simp] theorem setWord_staged : (setWord s p off w).staged = s.staged := rfl
@[simp] theorem setWord_timers : (setWord s p off w).timers = s.timers := rfl
@[simp] theorem setWord_pending : (setWord s p off w).pending = s.pending := rfl

end

/-! ## State.set -/

section

variable (s : State) (p : Page) (f : Field) (v : Nat)

@[simp] theorem State.set_latches : (s.set p f v).latches = s.latches := rfl
@[simp] theorem State.set_answer : (s.set p f v).answer = s.answer := rfl
@[simp] theorem State.set_hostReady : (s.set p f v).hostReady = s.hostReady := rfl
@[simp] theorem State.set_journal : (s.set p f v).journal = s.journal := rfl
@[simp] theorem State.set_evr : (s.set p f v).evr = s.evr := rfl
@[simp] theorem State.set_msix : (s.set p f v).msix = s.msix := rfl
@[simp] theorem State.set_semaphores : (s.set p f v).semaphores = s.semaphores := rfl
@[simp] theorem State.set_pairMatches : (s.set p f v).pairMatches = s.pairMatches := rfl
@[simp] theorem State.set_tickEvents : (s.set p f v).tickEvents = s.tickEvents := rfl
@[simp] theorem State.set_nowNs : (s.set p f v).nowNs = s.nowNs := rfl
@[simp] theorem State.set_elapsedNs : (s.set p f v).elapsedNs = s.elapsedNs := rfl
@[simp] theorem State.set_framer : (s.set p f v).framer = s.framer := rfl
@[simp] theorem State.set_fec : (s.set p f v).fec = s.fec := rfl
@[simp] theorem State.set_cpc : (s.set p f v).cpc = s.cpc := rfl
@[simp] theorem State.set_cipher : (s.set p f v).cipher = s.cipher := rfl
@[simp] theorem State.set_hk : (s.set p f v).hk = s.hk := rfl
@[simp] theorem State.set_aux : (s.set p f v).aux = s.aux := rfl
@[simp] theorem State.set_cal : (s.set p f v).cal = s.cal := rfl
@[simp] theorem State.set_txDsp : (s.set p f v).txDsp = s.txDsp := rfl
@[simp] theorem State.set_txLane : (s.set p f v).txLane = s.txLane := rfl
@[simp] theorem State.set_lineRx : (s.set p f v).lineRx = s.lineRx := rfl
@[simp] theorem State.set_carrierRec : (s.set p f v).carrierRec = s.carrierRec := rfl
@[simp] theorem State.set_demapper : (s.set p f v).demapper = s.demapper := rfl
@[simp] theorem State.set_dispersion : (s.set p f v).dispersion = s.dispersion := rfl
@[simp] theorem State.set_equaliser : (s.set p f v).equaliser = s.equaliser := rfl
@[simp] theorem State.set_tunedN : (s.set p f v).tunedN = s.tunedN := rfl
@[simp] theorem State.set_dsram : (s.set p f v).dsram = s.dsram := rfl
@[simp] theorem State.set_optics : (s.set p f v).optics = s.optics := rfl
@[simp] theorem State.set_qlt : (s.set p f v).qlt = s.qlt := rfl
@[simp] theorem State.set_plinth : (s.set p f v).plinth = s.plinth := rfl
@[simp] theorem State.set_keep : (s.set p f v).keep = s.keep := rfl
@[simp] theorem State.set_archive : (s.set p f v).archive = s.archive := rfl
@[simp] theorem State.set_rps : (s.set p f v).rps = s.rps := rfl
@[simp] theorem State.set_tel : (s.set p f v).tel = s.tel := rfl
@[simp] theorem State.set_cast : (s.set p f v).cast = s.cast := rfl
@[simp] theorem State.set_vddRequested : (s.set p f v).vddRequested = s.vddRequested := rfl
@[simp] theorem State.set_checkers : (s.set p f v).checkers = s.checkers := rfl
@[simp] theorem State.set_hostLink : (s.set p f v).hostLink = s.hostLink := rfl
@[simp] theorem State.set_mbox : (s.set p f v).mbox = s.mbox := rfl
@[simp] theorem State.set_memories : (s.set p f v).memories = s.memories := rfl
@[simp] theorem State.set_isram : (s.set p f v).isram = s.isram := rfl
@[simp] theorem State.set_cores : (s.set p f v).cores = s.cores := rfl
@[simp] theorem State.set_images : (s.set p f v).images = s.images := rfl
@[simp] theorem State.set_stepsDue : (s.set p f v).stepsDue = s.stepsDue := rfl
@[simp] theorem State.set_samples : (s.set p f v).samples = s.samples := rfl
@[simp] theorem State.set_pwrMgr : (s.set p f v).pwrMgr = s.pwrMgr := rfl
@[simp] theorem State.set_timeBase : (s.set p f v).timeBase = s.timeBase := rfl
@[simp] theorem State.set_selfTest : (s.set p f v).selfTest = s.selfTest := rfl
@[simp] theorem State.set_firmware : (s.set p f v).firmware = s.firmware := rfl
@[simp] theorem State.set_freeCount : (s.set p f v).freeCount = s.freeCount := rfl
@[simp] theorem State.set_staged : (s.set p f v).staged = s.staged := rfl
@[simp] theorem State.set_timers : (s.set p f v).timers = s.timers := rfl
@[simp] theorem State.set_pending : (s.set p f v).pending = s.pending := rfl

end

/-! ## State.bump -/

section

variable (s : State) (p : Page) (f : Field)

@[simp] theorem State.bump_latches : (s.bump p f).latches = s.latches := rfl
@[simp] theorem State.bump_answer : (s.bump p f).answer = s.answer := rfl
@[simp] theorem State.bump_hostReady : (s.bump p f).hostReady = s.hostReady := rfl
@[simp] theorem State.bump_journal : (s.bump p f).journal = s.journal := rfl
@[simp] theorem State.bump_evr : (s.bump p f).evr = s.evr := rfl
@[simp] theorem State.bump_msix : (s.bump p f).msix = s.msix := rfl
@[simp] theorem State.bump_semaphores : (s.bump p f).semaphores = s.semaphores := rfl
@[simp] theorem State.bump_pairMatches : (s.bump p f).pairMatches = s.pairMatches := rfl
@[simp] theorem State.bump_tickEvents : (s.bump p f).tickEvents = s.tickEvents := rfl
@[simp] theorem State.bump_nowNs : (s.bump p f).nowNs = s.nowNs := rfl
@[simp] theorem State.bump_elapsedNs : (s.bump p f).elapsedNs = s.elapsedNs := rfl
@[simp] theorem State.bump_framer : (s.bump p f).framer = s.framer := rfl
@[simp] theorem State.bump_fec : (s.bump p f).fec = s.fec := rfl
@[simp] theorem State.bump_cpc : (s.bump p f).cpc = s.cpc := rfl
@[simp] theorem State.bump_cipher : (s.bump p f).cipher = s.cipher := rfl
@[simp] theorem State.bump_hk : (s.bump p f).hk = s.hk := rfl
@[simp] theorem State.bump_aux : (s.bump p f).aux = s.aux := rfl
@[simp] theorem State.bump_cal : (s.bump p f).cal = s.cal := rfl
@[simp] theorem State.bump_txDsp : (s.bump p f).txDsp = s.txDsp := rfl
@[simp] theorem State.bump_txLane : (s.bump p f).txLane = s.txLane := rfl
@[simp] theorem State.bump_lineRx : (s.bump p f).lineRx = s.lineRx := rfl
@[simp] theorem State.bump_carrierRec : (s.bump p f).carrierRec = s.carrierRec := rfl
@[simp] theorem State.bump_demapper : (s.bump p f).demapper = s.demapper := rfl
@[simp] theorem State.bump_dispersion : (s.bump p f).dispersion = s.dispersion := rfl
@[simp] theorem State.bump_equaliser : (s.bump p f).equaliser = s.equaliser := rfl
@[simp] theorem State.bump_tunedN : (s.bump p f).tunedN = s.tunedN := rfl
@[simp] theorem State.bump_dsram : (s.bump p f).dsram = s.dsram := rfl
@[simp] theorem State.bump_optics : (s.bump p f).optics = s.optics := rfl
@[simp] theorem State.bump_qlt : (s.bump p f).qlt = s.qlt := rfl
@[simp] theorem State.bump_plinth : (s.bump p f).plinth = s.plinth := rfl
@[simp] theorem State.bump_keep : (s.bump p f).keep = s.keep := rfl
@[simp] theorem State.bump_archive : (s.bump p f).archive = s.archive := rfl
@[simp] theorem State.bump_rps : (s.bump p f).rps = s.rps := rfl
@[simp] theorem State.bump_tel : (s.bump p f).tel = s.tel := rfl
@[simp] theorem State.bump_cast : (s.bump p f).cast = s.cast := rfl
@[simp] theorem State.bump_vddRequested : (s.bump p f).vddRequested = s.vddRequested := rfl
@[simp] theorem State.bump_checkers : (s.bump p f).checkers = s.checkers := rfl
@[simp] theorem State.bump_hostLink : (s.bump p f).hostLink = s.hostLink := rfl
@[simp] theorem State.bump_mbox : (s.bump p f).mbox = s.mbox := rfl
@[simp] theorem State.bump_memories : (s.bump p f).memories = s.memories := rfl
@[simp] theorem State.bump_isram : (s.bump p f).isram = s.isram := rfl
@[simp] theorem State.bump_cores : (s.bump p f).cores = s.cores := rfl
@[simp] theorem State.bump_images : (s.bump p f).images = s.images := rfl
@[simp] theorem State.bump_stepsDue : (s.bump p f).stepsDue = s.stepsDue := rfl
@[simp] theorem State.bump_samples : (s.bump p f).samples = s.samples := rfl
@[simp] theorem State.bump_pwrMgr : (s.bump p f).pwrMgr = s.pwrMgr := rfl
@[simp] theorem State.bump_timeBase : (s.bump p f).timeBase = s.timeBase := rfl
@[simp] theorem State.bump_selfTest : (s.bump p f).selfTest = s.selfTest := rfl
@[simp] theorem State.bump_firmware : (s.bump p f).firmware = s.firmware := rfl
@[simp] theorem State.bump_freeCount : (s.bump p f).freeCount = s.freeCount := rfl
@[simp] theorem State.bump_staged : (s.bump p f).staged = s.staged := rfl
@[simp] theorem State.bump_timers : (s.bump p f).timers = s.timers := rfl
@[simp] theorem State.bump_pending : (s.bump p f).pending = s.pending := rfl

end

/-! ## State.addSat -/

section

variable (s : State) (p : Page) (f : Field) (n : Nat)

@[simp] theorem State.addSat_latches : (s.addSat p f n).latches = s.latches := rfl
@[simp] theorem State.addSat_answer : (s.addSat p f n).answer = s.answer := rfl
@[simp] theorem State.addSat_hostReady : (s.addSat p f n).hostReady = s.hostReady := rfl
@[simp] theorem State.addSat_journal : (s.addSat p f n).journal = s.journal := rfl
@[simp] theorem State.addSat_evr : (s.addSat p f n).evr = s.evr := rfl
@[simp] theorem State.addSat_msix : (s.addSat p f n).msix = s.msix := rfl
@[simp] theorem State.addSat_semaphores : (s.addSat p f n).semaphores = s.semaphores := rfl
@[simp] theorem State.addSat_pairMatches : (s.addSat p f n).pairMatches = s.pairMatches := rfl
@[simp] theorem State.addSat_tickEvents : (s.addSat p f n).tickEvents = s.tickEvents := rfl
@[simp] theorem State.addSat_nowNs : (s.addSat p f n).nowNs = s.nowNs := rfl
@[simp] theorem State.addSat_elapsedNs : (s.addSat p f n).elapsedNs = s.elapsedNs := rfl
@[simp] theorem State.addSat_framer : (s.addSat p f n).framer = s.framer := rfl
@[simp] theorem State.addSat_fec : (s.addSat p f n).fec = s.fec := rfl
@[simp] theorem State.addSat_cpc : (s.addSat p f n).cpc = s.cpc := rfl
@[simp] theorem State.addSat_cipher : (s.addSat p f n).cipher = s.cipher := rfl
@[simp] theorem State.addSat_hk : (s.addSat p f n).hk = s.hk := rfl
@[simp] theorem State.addSat_aux : (s.addSat p f n).aux = s.aux := rfl
@[simp] theorem State.addSat_cal : (s.addSat p f n).cal = s.cal := rfl
@[simp] theorem State.addSat_txDsp : (s.addSat p f n).txDsp = s.txDsp := rfl
@[simp] theorem State.addSat_txLane : (s.addSat p f n).txLane = s.txLane := rfl
@[simp] theorem State.addSat_lineRx : (s.addSat p f n).lineRx = s.lineRx := rfl
@[simp] theorem State.addSat_carrierRec : (s.addSat p f n).carrierRec = s.carrierRec := rfl
@[simp] theorem State.addSat_demapper : (s.addSat p f n).demapper = s.demapper := rfl
@[simp] theorem State.addSat_dispersion : (s.addSat p f n).dispersion = s.dispersion := rfl
@[simp] theorem State.addSat_equaliser : (s.addSat p f n).equaliser = s.equaliser := rfl
@[simp] theorem State.addSat_tunedN : (s.addSat p f n).tunedN = s.tunedN := rfl
@[simp] theorem State.addSat_dsram : (s.addSat p f n).dsram = s.dsram := rfl
@[simp] theorem State.addSat_optics : (s.addSat p f n).optics = s.optics := rfl
@[simp] theorem State.addSat_qlt : (s.addSat p f n).qlt = s.qlt := rfl
@[simp] theorem State.addSat_plinth : (s.addSat p f n).plinth = s.plinth := rfl
@[simp] theorem State.addSat_keep : (s.addSat p f n).keep = s.keep := rfl
@[simp] theorem State.addSat_archive : (s.addSat p f n).archive = s.archive := rfl
@[simp] theorem State.addSat_rps : (s.addSat p f n).rps = s.rps := rfl
@[simp] theorem State.addSat_tel : (s.addSat p f n).tel = s.tel := rfl
@[simp] theorem State.addSat_cast : (s.addSat p f n).cast = s.cast := rfl
@[simp] theorem State.addSat_vddRequested : (s.addSat p f n).vddRequested = s.vddRequested := rfl
@[simp] theorem State.addSat_checkers : (s.addSat p f n).checkers = s.checkers := rfl
@[simp] theorem State.addSat_hostLink : (s.addSat p f n).hostLink = s.hostLink := rfl
@[simp] theorem State.addSat_mbox : (s.addSat p f n).mbox = s.mbox := rfl
@[simp] theorem State.addSat_memories : (s.addSat p f n).memories = s.memories := rfl
@[simp] theorem State.addSat_isram : (s.addSat p f n).isram = s.isram := rfl
@[simp] theorem State.addSat_cores : (s.addSat p f n).cores = s.cores := rfl
@[simp] theorem State.addSat_images : (s.addSat p f n).images = s.images := rfl
@[simp] theorem State.addSat_stepsDue : (s.addSat p f n).stepsDue = s.stepsDue := rfl
@[simp] theorem State.addSat_samples : (s.addSat p f n).samples = s.samples := rfl
@[simp] theorem State.addSat_pwrMgr : (s.addSat p f n).pwrMgr = s.pwrMgr := rfl
@[simp] theorem State.addSat_timeBase : (s.addSat p f n).timeBase = s.timeBase := rfl
@[simp] theorem State.addSat_selfTest : (s.addSat p f n).selfTest = s.selfTest := rfl
@[simp] theorem State.addSat_firmware : (s.addSat p f n).firmware = s.firmware := rfl
@[simp] theorem State.addSat_freeCount : (s.addSat p f n).freeCount = s.freeCount := rfl
@[simp] theorem State.addSat_staged : (s.addSat p f n).staged = s.staged := rfl
@[simp] theorem State.addSat_timers : (s.addSat p f n).timers = s.timers := rfl
@[simp] theorem State.addSat_pending : (s.addSat p f n).pending = s.pending := rfl

end

/-! ## State.setFlag -/

section

variable (s : State) (p : Page) (f : Field) (b : Bool)

@[simp] theorem State.setFlag_latches : (s.setFlag p f b).latches = s.latches := rfl
@[simp] theorem State.setFlag_answer : (s.setFlag p f b).answer = s.answer := rfl
@[simp] theorem State.setFlag_hostReady : (s.setFlag p f b).hostReady = s.hostReady := rfl
@[simp] theorem State.setFlag_journal : (s.setFlag p f b).journal = s.journal := rfl
@[simp] theorem State.setFlag_evr : (s.setFlag p f b).evr = s.evr := rfl
@[simp] theorem State.setFlag_msix : (s.setFlag p f b).msix = s.msix := rfl
@[simp] theorem State.setFlag_semaphores : (s.setFlag p f b).semaphores = s.semaphores := rfl
@[simp] theorem State.setFlag_pairMatches : (s.setFlag p f b).pairMatches = s.pairMatches := rfl
@[simp] theorem State.setFlag_tickEvents : (s.setFlag p f b).tickEvents = s.tickEvents := rfl
@[simp] theorem State.setFlag_nowNs : (s.setFlag p f b).nowNs = s.nowNs := rfl
@[simp] theorem State.setFlag_elapsedNs : (s.setFlag p f b).elapsedNs = s.elapsedNs := rfl
@[simp] theorem State.setFlag_framer : (s.setFlag p f b).framer = s.framer := rfl
@[simp] theorem State.setFlag_fec : (s.setFlag p f b).fec = s.fec := rfl
@[simp] theorem State.setFlag_cpc : (s.setFlag p f b).cpc = s.cpc := rfl
@[simp] theorem State.setFlag_cipher : (s.setFlag p f b).cipher = s.cipher := rfl
@[simp] theorem State.setFlag_hk : (s.setFlag p f b).hk = s.hk := rfl
@[simp] theorem State.setFlag_aux : (s.setFlag p f b).aux = s.aux := rfl
@[simp] theorem State.setFlag_cal : (s.setFlag p f b).cal = s.cal := rfl
@[simp] theorem State.setFlag_txDsp : (s.setFlag p f b).txDsp = s.txDsp := rfl
@[simp] theorem State.setFlag_txLane : (s.setFlag p f b).txLane = s.txLane := rfl
@[simp] theorem State.setFlag_lineRx : (s.setFlag p f b).lineRx = s.lineRx := rfl
@[simp] theorem State.setFlag_carrierRec : (s.setFlag p f b).carrierRec = s.carrierRec := rfl
@[simp] theorem State.setFlag_demapper : (s.setFlag p f b).demapper = s.demapper := rfl
@[simp] theorem State.setFlag_dispersion : (s.setFlag p f b).dispersion = s.dispersion := rfl
@[simp] theorem State.setFlag_equaliser : (s.setFlag p f b).equaliser = s.equaliser := rfl
@[simp] theorem State.setFlag_tunedN : (s.setFlag p f b).tunedN = s.tunedN := rfl
@[simp] theorem State.setFlag_dsram : (s.setFlag p f b).dsram = s.dsram := rfl
@[simp] theorem State.setFlag_optics : (s.setFlag p f b).optics = s.optics := rfl
@[simp] theorem State.setFlag_qlt : (s.setFlag p f b).qlt = s.qlt := rfl
@[simp] theorem State.setFlag_plinth : (s.setFlag p f b).plinth = s.plinth := rfl
@[simp] theorem State.setFlag_keep : (s.setFlag p f b).keep = s.keep := rfl
@[simp] theorem State.setFlag_archive : (s.setFlag p f b).archive = s.archive := rfl
@[simp] theorem State.setFlag_rps : (s.setFlag p f b).rps = s.rps := rfl
@[simp] theorem State.setFlag_tel : (s.setFlag p f b).tel = s.tel := rfl
@[simp] theorem State.setFlag_cast : (s.setFlag p f b).cast = s.cast := rfl
@[simp] theorem State.setFlag_vddRequested : (s.setFlag p f b).vddRequested = s.vddRequested := rfl
@[simp] theorem State.setFlag_checkers : (s.setFlag p f b).checkers = s.checkers := rfl
@[simp] theorem State.setFlag_hostLink : (s.setFlag p f b).hostLink = s.hostLink := rfl
@[simp] theorem State.setFlag_mbox : (s.setFlag p f b).mbox = s.mbox := rfl
@[simp] theorem State.setFlag_memories : (s.setFlag p f b).memories = s.memories := rfl
@[simp] theorem State.setFlag_isram : (s.setFlag p f b).isram = s.isram := rfl
@[simp] theorem State.setFlag_cores : (s.setFlag p f b).cores = s.cores := rfl
@[simp] theorem State.setFlag_images : (s.setFlag p f b).images = s.images := rfl
@[simp] theorem State.setFlag_stepsDue : (s.setFlag p f b).stepsDue = s.stepsDue := rfl
@[simp] theorem State.setFlag_samples : (s.setFlag p f b).samples = s.samples := rfl
@[simp] theorem State.setFlag_pwrMgr : (s.setFlag p f b).pwrMgr = s.pwrMgr := rfl
@[simp] theorem State.setFlag_timeBase : (s.setFlag p f b).timeBase = s.timeBase := rfl
@[simp] theorem State.setFlag_selfTest : (s.setFlag p f b).selfTest = s.selfTest := rfl
@[simp] theorem State.setFlag_firmware : (s.setFlag p f b).firmware = s.firmware := rfl
@[simp] theorem State.setFlag_freeCount : (s.setFlag p f b).freeCount = s.freeCount := rfl
@[simp] theorem State.setFlag_staged : (s.setFlag p f b).staged = s.staged := rfl
@[simp] theorem State.setFlag_timers : (s.setFlag p f b).timers = s.timers := rfl
@[simp] theorem State.setFlag_pending : (s.setFlag p f b).pending = s.pending := rfl

end

/-! ## State.setFramer -/

section

variable (s : State) (c : Carrier) (x : Framer)

@[simp] theorem State.setFramer_regs : (State.setFramer s c x).regs = s.regs := rfl
@[simp] theorem State.setFramer_latches : (State.setFramer s c x).latches = s.latches := rfl
@[simp] theorem State.setFramer_answer : (State.setFramer s c x).answer = s.answer := rfl
@[simp] theorem State.setFramer_hostReady : (State.setFramer s c x).hostReady = s.hostReady := rfl
@[simp] theorem State.setFramer_journal : (State.setFramer s c x).journal = s.journal := rfl
@[simp] theorem State.setFramer_evr : (State.setFramer s c x).evr = s.evr := rfl
@[simp] theorem State.setFramer_msix : (State.setFramer s c x).msix = s.msix := rfl
@[simp] theorem State.setFramer_semaphores : (State.setFramer s c x).semaphores = s.semaphores := rfl
@[simp] theorem State.setFramer_pairMatches : (State.setFramer s c x).pairMatches = s.pairMatches := rfl
@[simp] theorem State.setFramer_tickEvents : (State.setFramer s c x).tickEvents = s.tickEvents := rfl
@[simp] theorem State.setFramer_nowNs : (State.setFramer s c x).nowNs = s.nowNs := rfl
@[simp] theorem State.setFramer_elapsedNs : (State.setFramer s c x).elapsedNs = s.elapsedNs := rfl
@[simp] theorem State.setFramer_framer : (State.setFramer s c x).framer = s.framer.set c x := rfl
@[simp] theorem State.setFramer_fec : (State.setFramer s c x).fec = s.fec := rfl
@[simp] theorem State.setFramer_cpc : (State.setFramer s c x).cpc = s.cpc := rfl
@[simp] theorem State.setFramer_cipher : (State.setFramer s c x).cipher = s.cipher := rfl
@[simp] theorem State.setFramer_hk : (State.setFramer s c x).hk = s.hk := rfl
@[simp] theorem State.setFramer_aux : (State.setFramer s c x).aux = s.aux := rfl
@[simp] theorem State.setFramer_cal : (State.setFramer s c x).cal = s.cal := rfl
@[simp] theorem State.setFramer_txDsp : (State.setFramer s c x).txDsp = s.txDsp := rfl
@[simp] theorem State.setFramer_txLane : (State.setFramer s c x).txLane = s.txLane := rfl
@[simp] theorem State.setFramer_lineRx : (State.setFramer s c x).lineRx = s.lineRx := rfl
@[simp] theorem State.setFramer_carrierRec : (State.setFramer s c x).carrierRec = s.carrierRec := rfl
@[simp] theorem State.setFramer_demapper : (State.setFramer s c x).demapper = s.demapper := rfl
@[simp] theorem State.setFramer_dispersion : (State.setFramer s c x).dispersion = s.dispersion := rfl
@[simp] theorem State.setFramer_equaliser : (State.setFramer s c x).equaliser = s.equaliser := rfl
@[simp] theorem State.setFramer_tunedN : (State.setFramer s c x).tunedN = s.tunedN := rfl
@[simp] theorem State.setFramer_dsram : (State.setFramer s c x).dsram = s.dsram := rfl
@[simp] theorem State.setFramer_optics : (State.setFramer s c x).optics = s.optics := rfl
@[simp] theorem State.setFramer_qlt : (State.setFramer s c x).qlt = s.qlt := rfl
@[simp] theorem State.setFramer_plinth : (State.setFramer s c x).plinth = s.plinth := rfl
@[simp] theorem State.setFramer_keep : (State.setFramer s c x).keep = s.keep := rfl
@[simp] theorem State.setFramer_archive : (State.setFramer s c x).archive = s.archive := rfl
@[simp] theorem State.setFramer_rps : (State.setFramer s c x).rps = s.rps := rfl
@[simp] theorem State.setFramer_tel : (State.setFramer s c x).tel = s.tel := rfl
@[simp] theorem State.setFramer_cast : (State.setFramer s c x).cast = s.cast := rfl
@[simp] theorem State.setFramer_vddRequested : (State.setFramer s c x).vddRequested = s.vddRequested := rfl
@[simp] theorem State.setFramer_checkers : (State.setFramer s c x).checkers = s.checkers := rfl
@[simp] theorem State.setFramer_hostLink : (State.setFramer s c x).hostLink = s.hostLink := rfl
@[simp] theorem State.setFramer_mbox : (State.setFramer s c x).mbox = s.mbox := rfl
@[simp] theorem State.setFramer_memories : (State.setFramer s c x).memories = s.memories := rfl
@[simp] theorem State.setFramer_isram : (State.setFramer s c x).isram = s.isram := rfl
@[simp] theorem State.setFramer_cores : (State.setFramer s c x).cores = s.cores := rfl
@[simp] theorem State.setFramer_images : (State.setFramer s c x).images = s.images := rfl
@[simp] theorem State.setFramer_stepsDue : (State.setFramer s c x).stepsDue = s.stepsDue := rfl
@[simp] theorem State.setFramer_samples : (State.setFramer s c x).samples = s.samples := rfl
@[simp] theorem State.setFramer_pwrMgr : (State.setFramer s c x).pwrMgr = s.pwrMgr := rfl
@[simp] theorem State.setFramer_timeBase : (State.setFramer s c x).timeBase = s.timeBase := rfl
@[simp] theorem State.setFramer_selfTest : (State.setFramer s c x).selfTest = s.selfTest := rfl
@[simp] theorem State.setFramer_firmware : (State.setFramer s c x).firmware = s.firmware := rfl
@[simp] theorem State.setFramer_freeCount : (State.setFramer s c x).freeCount = s.freeCount := rfl
@[simp] theorem State.setFramer_staged : (State.setFramer s c x).staged = s.staged := rfl
@[simp] theorem State.setFramer_timers : (State.setFramer s c x).timers = s.timers := rfl
@[simp] theorem State.setFramer_pending : (State.setFramer s c x).pending = s.pending := rfl
@[simp] theorem State.setFramer_word (q : Page) (off : Nat) : word (State.setFramer s c x) q off = word s q off := rfl
@[simp] theorem State.setFramer_get (q : Page) (g : Field) : State.get (State.setFramer s c x) q g = s.get q g := rfl
@[simp] theorem State.setFramer_flag (q : Page) (g : Field) : State.flag (State.setFramer s c x) q g = s.flag q g := rfl

end

/-! ## State.setFec -/

section

variable (s : State) (c : Carrier) (x : FecState)

@[simp] theorem State.setFec_regs : (State.setFec s c x).regs = s.regs := rfl
@[simp] theorem State.setFec_latches : (State.setFec s c x).latches = s.latches := rfl
@[simp] theorem State.setFec_answer : (State.setFec s c x).answer = s.answer := rfl
@[simp] theorem State.setFec_hostReady : (State.setFec s c x).hostReady = s.hostReady := rfl
@[simp] theorem State.setFec_journal : (State.setFec s c x).journal = s.journal := rfl
@[simp] theorem State.setFec_evr : (State.setFec s c x).evr = s.evr := rfl
@[simp] theorem State.setFec_msix : (State.setFec s c x).msix = s.msix := rfl
@[simp] theorem State.setFec_semaphores : (State.setFec s c x).semaphores = s.semaphores := rfl
@[simp] theorem State.setFec_pairMatches : (State.setFec s c x).pairMatches = s.pairMatches := rfl
@[simp] theorem State.setFec_tickEvents : (State.setFec s c x).tickEvents = s.tickEvents := rfl
@[simp] theorem State.setFec_nowNs : (State.setFec s c x).nowNs = s.nowNs := rfl
@[simp] theorem State.setFec_elapsedNs : (State.setFec s c x).elapsedNs = s.elapsedNs := rfl
@[simp] theorem State.setFec_framer : (State.setFec s c x).framer = s.framer := rfl
@[simp] theorem State.setFec_fec : (State.setFec s c x).fec = s.fec.set c x := rfl
@[simp] theorem State.setFec_cpc : (State.setFec s c x).cpc = s.cpc := rfl
@[simp] theorem State.setFec_cipher : (State.setFec s c x).cipher = s.cipher := rfl
@[simp] theorem State.setFec_hk : (State.setFec s c x).hk = s.hk := rfl
@[simp] theorem State.setFec_aux : (State.setFec s c x).aux = s.aux := rfl
@[simp] theorem State.setFec_cal : (State.setFec s c x).cal = s.cal := rfl
@[simp] theorem State.setFec_txDsp : (State.setFec s c x).txDsp = s.txDsp := rfl
@[simp] theorem State.setFec_txLane : (State.setFec s c x).txLane = s.txLane := rfl
@[simp] theorem State.setFec_lineRx : (State.setFec s c x).lineRx = s.lineRx := rfl
@[simp] theorem State.setFec_carrierRec : (State.setFec s c x).carrierRec = s.carrierRec := rfl
@[simp] theorem State.setFec_demapper : (State.setFec s c x).demapper = s.demapper := rfl
@[simp] theorem State.setFec_dispersion : (State.setFec s c x).dispersion = s.dispersion := rfl
@[simp] theorem State.setFec_equaliser : (State.setFec s c x).equaliser = s.equaliser := rfl
@[simp] theorem State.setFec_tunedN : (State.setFec s c x).tunedN = s.tunedN := rfl
@[simp] theorem State.setFec_dsram : (State.setFec s c x).dsram = s.dsram := rfl
@[simp] theorem State.setFec_optics : (State.setFec s c x).optics = s.optics := rfl
@[simp] theorem State.setFec_qlt : (State.setFec s c x).qlt = s.qlt := rfl
@[simp] theorem State.setFec_plinth : (State.setFec s c x).plinth = s.plinth := rfl
@[simp] theorem State.setFec_keep : (State.setFec s c x).keep = s.keep := rfl
@[simp] theorem State.setFec_archive : (State.setFec s c x).archive = s.archive := rfl
@[simp] theorem State.setFec_rps : (State.setFec s c x).rps = s.rps := rfl
@[simp] theorem State.setFec_tel : (State.setFec s c x).tel = s.tel := rfl
@[simp] theorem State.setFec_cast : (State.setFec s c x).cast = s.cast := rfl
@[simp] theorem State.setFec_vddRequested : (State.setFec s c x).vddRequested = s.vddRequested := rfl
@[simp] theorem State.setFec_checkers : (State.setFec s c x).checkers = s.checkers := rfl
@[simp] theorem State.setFec_hostLink : (State.setFec s c x).hostLink = s.hostLink := rfl
@[simp] theorem State.setFec_mbox : (State.setFec s c x).mbox = s.mbox := rfl
@[simp] theorem State.setFec_memories : (State.setFec s c x).memories = s.memories := rfl
@[simp] theorem State.setFec_isram : (State.setFec s c x).isram = s.isram := rfl
@[simp] theorem State.setFec_cores : (State.setFec s c x).cores = s.cores := rfl
@[simp] theorem State.setFec_images : (State.setFec s c x).images = s.images := rfl
@[simp] theorem State.setFec_stepsDue : (State.setFec s c x).stepsDue = s.stepsDue := rfl
@[simp] theorem State.setFec_samples : (State.setFec s c x).samples = s.samples := rfl
@[simp] theorem State.setFec_pwrMgr : (State.setFec s c x).pwrMgr = s.pwrMgr := rfl
@[simp] theorem State.setFec_timeBase : (State.setFec s c x).timeBase = s.timeBase := rfl
@[simp] theorem State.setFec_selfTest : (State.setFec s c x).selfTest = s.selfTest := rfl
@[simp] theorem State.setFec_firmware : (State.setFec s c x).firmware = s.firmware := rfl
@[simp] theorem State.setFec_freeCount : (State.setFec s c x).freeCount = s.freeCount := rfl
@[simp] theorem State.setFec_staged : (State.setFec s c x).staged = s.staged := rfl
@[simp] theorem State.setFec_timers : (State.setFec s c x).timers = s.timers := rfl
@[simp] theorem State.setFec_pending : (State.setFec s c x).pending = s.pending := rfl
@[simp] theorem State.setFec_word (q : Page) (off : Nat) : word (State.setFec s c x) q off = word s q off := rfl
@[simp] theorem State.setFec_get (q : Page) (g : Field) : State.get (State.setFec s c x) q g = s.get q g := rfl
@[simp] theorem State.setFec_flag (q : Page) (g : Field) : State.flag (State.setFec s c x) q g = s.flag q g := rfl

end

/-! ## State.setCpc -/

section

variable (s : State) (c : Carrier) (x : ClientPcs)

@[simp] theorem State.setCpc_regs : (State.setCpc s c x).regs = s.regs := rfl
@[simp] theorem State.setCpc_latches : (State.setCpc s c x).latches = s.latches := rfl
@[simp] theorem State.setCpc_answer : (State.setCpc s c x).answer = s.answer := rfl
@[simp] theorem State.setCpc_hostReady : (State.setCpc s c x).hostReady = s.hostReady := rfl
@[simp] theorem State.setCpc_journal : (State.setCpc s c x).journal = s.journal := rfl
@[simp] theorem State.setCpc_evr : (State.setCpc s c x).evr = s.evr := rfl
@[simp] theorem State.setCpc_msix : (State.setCpc s c x).msix = s.msix := rfl
@[simp] theorem State.setCpc_semaphores : (State.setCpc s c x).semaphores = s.semaphores := rfl
@[simp] theorem State.setCpc_pairMatches : (State.setCpc s c x).pairMatches = s.pairMatches := rfl
@[simp] theorem State.setCpc_tickEvents : (State.setCpc s c x).tickEvents = s.tickEvents := rfl
@[simp] theorem State.setCpc_nowNs : (State.setCpc s c x).nowNs = s.nowNs := rfl
@[simp] theorem State.setCpc_elapsedNs : (State.setCpc s c x).elapsedNs = s.elapsedNs := rfl
@[simp] theorem State.setCpc_framer : (State.setCpc s c x).framer = s.framer := rfl
@[simp] theorem State.setCpc_fec : (State.setCpc s c x).fec = s.fec := rfl
@[simp] theorem State.setCpc_cpc : (State.setCpc s c x).cpc = s.cpc.set c x := rfl
@[simp] theorem State.setCpc_cipher : (State.setCpc s c x).cipher = s.cipher := rfl
@[simp] theorem State.setCpc_hk : (State.setCpc s c x).hk = s.hk := rfl
@[simp] theorem State.setCpc_aux : (State.setCpc s c x).aux = s.aux := rfl
@[simp] theorem State.setCpc_cal : (State.setCpc s c x).cal = s.cal := rfl
@[simp] theorem State.setCpc_txDsp : (State.setCpc s c x).txDsp = s.txDsp := rfl
@[simp] theorem State.setCpc_txLane : (State.setCpc s c x).txLane = s.txLane := rfl
@[simp] theorem State.setCpc_lineRx : (State.setCpc s c x).lineRx = s.lineRx := rfl
@[simp] theorem State.setCpc_carrierRec : (State.setCpc s c x).carrierRec = s.carrierRec := rfl
@[simp] theorem State.setCpc_demapper : (State.setCpc s c x).demapper = s.demapper := rfl
@[simp] theorem State.setCpc_dispersion : (State.setCpc s c x).dispersion = s.dispersion := rfl
@[simp] theorem State.setCpc_equaliser : (State.setCpc s c x).equaliser = s.equaliser := rfl
@[simp] theorem State.setCpc_tunedN : (State.setCpc s c x).tunedN = s.tunedN := rfl
@[simp] theorem State.setCpc_dsram : (State.setCpc s c x).dsram = s.dsram := rfl
@[simp] theorem State.setCpc_optics : (State.setCpc s c x).optics = s.optics := rfl
@[simp] theorem State.setCpc_qlt : (State.setCpc s c x).qlt = s.qlt := rfl
@[simp] theorem State.setCpc_plinth : (State.setCpc s c x).plinth = s.plinth := rfl
@[simp] theorem State.setCpc_keep : (State.setCpc s c x).keep = s.keep := rfl
@[simp] theorem State.setCpc_archive : (State.setCpc s c x).archive = s.archive := rfl
@[simp] theorem State.setCpc_rps : (State.setCpc s c x).rps = s.rps := rfl
@[simp] theorem State.setCpc_tel : (State.setCpc s c x).tel = s.tel := rfl
@[simp] theorem State.setCpc_cast : (State.setCpc s c x).cast = s.cast := rfl
@[simp] theorem State.setCpc_vddRequested : (State.setCpc s c x).vddRequested = s.vddRequested := rfl
@[simp] theorem State.setCpc_checkers : (State.setCpc s c x).checkers = s.checkers := rfl
@[simp] theorem State.setCpc_hostLink : (State.setCpc s c x).hostLink = s.hostLink := rfl
@[simp] theorem State.setCpc_mbox : (State.setCpc s c x).mbox = s.mbox := rfl
@[simp] theorem State.setCpc_memories : (State.setCpc s c x).memories = s.memories := rfl
@[simp] theorem State.setCpc_isram : (State.setCpc s c x).isram = s.isram := rfl
@[simp] theorem State.setCpc_cores : (State.setCpc s c x).cores = s.cores := rfl
@[simp] theorem State.setCpc_images : (State.setCpc s c x).images = s.images := rfl
@[simp] theorem State.setCpc_stepsDue : (State.setCpc s c x).stepsDue = s.stepsDue := rfl
@[simp] theorem State.setCpc_samples : (State.setCpc s c x).samples = s.samples := rfl
@[simp] theorem State.setCpc_pwrMgr : (State.setCpc s c x).pwrMgr = s.pwrMgr := rfl
@[simp] theorem State.setCpc_timeBase : (State.setCpc s c x).timeBase = s.timeBase := rfl
@[simp] theorem State.setCpc_selfTest : (State.setCpc s c x).selfTest = s.selfTest := rfl
@[simp] theorem State.setCpc_firmware : (State.setCpc s c x).firmware = s.firmware := rfl
@[simp] theorem State.setCpc_freeCount : (State.setCpc s c x).freeCount = s.freeCount := rfl
@[simp] theorem State.setCpc_staged : (State.setCpc s c x).staged = s.staged := rfl
@[simp] theorem State.setCpc_timers : (State.setCpc s c x).timers = s.timers := rfl
@[simp] theorem State.setCpc_pending : (State.setCpc s c x).pending = s.pending := rfl
@[simp] theorem State.setCpc_word (q : Page) (off : Nat) : word (State.setCpc s c x) q off = word s q off := rfl
@[simp] theorem State.setCpc_get (q : Page) (g : Field) : State.get (State.setCpc s c x) q g = s.get q g := rfl
@[simp] theorem State.setCpc_flag (q : Page) (g : Field) : State.flag (State.setCpc s c x) q g = s.flag q g := rfl

end

/-! ## State.setCipher -/

section

variable (s : State) (c : Carrier) (x : CipherState)

@[simp] theorem State.setCipher_regs : (State.setCipher s c x).regs = s.regs := rfl
@[simp] theorem State.setCipher_latches : (State.setCipher s c x).latches = s.latches := rfl
@[simp] theorem State.setCipher_answer : (State.setCipher s c x).answer = s.answer := rfl
@[simp] theorem State.setCipher_hostReady : (State.setCipher s c x).hostReady = s.hostReady := rfl
@[simp] theorem State.setCipher_journal : (State.setCipher s c x).journal = s.journal := rfl
@[simp] theorem State.setCipher_evr : (State.setCipher s c x).evr = s.evr := rfl
@[simp] theorem State.setCipher_msix : (State.setCipher s c x).msix = s.msix := rfl
@[simp] theorem State.setCipher_semaphores : (State.setCipher s c x).semaphores = s.semaphores := rfl
@[simp] theorem State.setCipher_pairMatches : (State.setCipher s c x).pairMatches = s.pairMatches := rfl
@[simp] theorem State.setCipher_tickEvents : (State.setCipher s c x).tickEvents = s.tickEvents := rfl
@[simp] theorem State.setCipher_nowNs : (State.setCipher s c x).nowNs = s.nowNs := rfl
@[simp] theorem State.setCipher_elapsedNs : (State.setCipher s c x).elapsedNs = s.elapsedNs := rfl
@[simp] theorem State.setCipher_framer : (State.setCipher s c x).framer = s.framer := rfl
@[simp] theorem State.setCipher_fec : (State.setCipher s c x).fec = s.fec := rfl
@[simp] theorem State.setCipher_cpc : (State.setCipher s c x).cpc = s.cpc := rfl
@[simp] theorem State.setCipher_cipher : (State.setCipher s c x).cipher = s.cipher.set c x := rfl
@[simp] theorem State.setCipher_hk : (State.setCipher s c x).hk = s.hk := rfl
@[simp] theorem State.setCipher_aux : (State.setCipher s c x).aux = s.aux := rfl
@[simp] theorem State.setCipher_cal : (State.setCipher s c x).cal = s.cal := rfl
@[simp] theorem State.setCipher_txDsp : (State.setCipher s c x).txDsp = s.txDsp := rfl
@[simp] theorem State.setCipher_txLane : (State.setCipher s c x).txLane = s.txLane := rfl
@[simp] theorem State.setCipher_lineRx : (State.setCipher s c x).lineRx = s.lineRx := rfl
@[simp] theorem State.setCipher_carrierRec : (State.setCipher s c x).carrierRec = s.carrierRec := rfl
@[simp] theorem State.setCipher_demapper : (State.setCipher s c x).demapper = s.demapper := rfl
@[simp] theorem State.setCipher_dispersion : (State.setCipher s c x).dispersion = s.dispersion := rfl
@[simp] theorem State.setCipher_equaliser : (State.setCipher s c x).equaliser = s.equaliser := rfl
@[simp] theorem State.setCipher_tunedN : (State.setCipher s c x).tunedN = s.tunedN := rfl
@[simp] theorem State.setCipher_dsram : (State.setCipher s c x).dsram = s.dsram := rfl
@[simp] theorem State.setCipher_optics : (State.setCipher s c x).optics = s.optics := rfl
@[simp] theorem State.setCipher_qlt : (State.setCipher s c x).qlt = s.qlt := rfl
@[simp] theorem State.setCipher_plinth : (State.setCipher s c x).plinth = s.plinth := rfl
@[simp] theorem State.setCipher_keep : (State.setCipher s c x).keep = s.keep := rfl
@[simp] theorem State.setCipher_archive : (State.setCipher s c x).archive = s.archive := rfl
@[simp] theorem State.setCipher_rps : (State.setCipher s c x).rps = s.rps := rfl
@[simp] theorem State.setCipher_tel : (State.setCipher s c x).tel = s.tel := rfl
@[simp] theorem State.setCipher_cast : (State.setCipher s c x).cast = s.cast := rfl
@[simp] theorem State.setCipher_vddRequested : (State.setCipher s c x).vddRequested = s.vddRequested := rfl
@[simp] theorem State.setCipher_checkers : (State.setCipher s c x).checkers = s.checkers := rfl
@[simp] theorem State.setCipher_hostLink : (State.setCipher s c x).hostLink = s.hostLink := rfl
@[simp] theorem State.setCipher_mbox : (State.setCipher s c x).mbox = s.mbox := rfl
@[simp] theorem State.setCipher_memories : (State.setCipher s c x).memories = s.memories := rfl
@[simp] theorem State.setCipher_isram : (State.setCipher s c x).isram = s.isram := rfl
@[simp] theorem State.setCipher_cores : (State.setCipher s c x).cores = s.cores := rfl
@[simp] theorem State.setCipher_images : (State.setCipher s c x).images = s.images := rfl
@[simp] theorem State.setCipher_stepsDue : (State.setCipher s c x).stepsDue = s.stepsDue := rfl
@[simp] theorem State.setCipher_samples : (State.setCipher s c x).samples = s.samples := rfl
@[simp] theorem State.setCipher_pwrMgr : (State.setCipher s c x).pwrMgr = s.pwrMgr := rfl
@[simp] theorem State.setCipher_timeBase : (State.setCipher s c x).timeBase = s.timeBase := rfl
@[simp] theorem State.setCipher_selfTest : (State.setCipher s c x).selfTest = s.selfTest := rfl
@[simp] theorem State.setCipher_firmware : (State.setCipher s c x).firmware = s.firmware := rfl
@[simp] theorem State.setCipher_freeCount : (State.setCipher s c x).freeCount = s.freeCount := rfl
@[simp] theorem State.setCipher_staged : (State.setCipher s c x).staged = s.staged := rfl
@[simp] theorem State.setCipher_timers : (State.setCipher s c x).timers = s.timers := rfl
@[simp] theorem State.setCipher_pending : (State.setCipher s c x).pending = s.pending := rfl
@[simp] theorem State.setCipher_word (q : Page) (off : Nat) : word (State.setCipher s c x) q off = word s q off := rfl
@[simp] theorem State.setCipher_get (q : Page) (g : Field) : State.get (State.setCipher s c x) q g = s.get q g := rfl
@[simp] theorem State.setCipher_flag (q : Page) (g : Field) : State.flag (State.setCipher s c x) q g = s.flag q g := rfl

end

/-! ## State.drawn -/

section

variable (s : State)

@[simp] theorem State.drawn_regs : (State.drawn s).regs = s.regs := rfl
@[simp] theorem State.drawn_latches : (State.drawn s).latches = s.latches := rfl
@[simp] theorem State.drawn_answer : (State.drawn s).answer = s.answer := rfl
@[simp] theorem State.drawn_hostReady : (State.drawn s).hostReady = s.hostReady := rfl
@[simp] theorem State.drawn_journal : (State.drawn s).journal = s.journal := rfl
@[simp] theorem State.drawn_evr : (State.drawn s).evr = s.evr := rfl
@[simp] theorem State.drawn_msix : (State.drawn s).msix = s.msix := rfl
@[simp] theorem State.drawn_semaphores : (State.drawn s).semaphores = s.semaphores := rfl
@[simp] theorem State.drawn_pairMatches : (State.drawn s).pairMatches = s.pairMatches := rfl
@[simp] theorem State.drawn_tickEvents : (State.drawn s).tickEvents = s.tickEvents := rfl
@[simp] theorem State.drawn_nowNs : (State.drawn s).nowNs = s.nowNs := rfl
@[simp] theorem State.drawn_elapsedNs : (State.drawn s).elapsedNs = s.elapsedNs := rfl
@[simp] theorem State.drawn_framer : (State.drawn s).framer = s.framer := rfl
@[simp] theorem State.drawn_fec : (State.drawn s).fec = s.fec := rfl
@[simp] theorem State.drawn_cpc : (State.drawn s).cpc = s.cpc := rfl
@[simp] theorem State.drawn_cipher : (State.drawn s).cipher = s.cipher := rfl
@[simp] theorem State.drawn_hk : (State.drawn s).hk = s.hk := rfl
@[simp] theorem State.drawn_aux : (State.drawn s).aux = s.aux := rfl
@[simp] theorem State.drawn_cal : (State.drawn s).cal = s.cal := rfl
@[simp] theorem State.drawn_txDsp : (State.drawn s).txDsp = s.txDsp := rfl
@[simp] theorem State.drawn_txLane : (State.drawn s).txLane = s.txLane := rfl
@[simp] theorem State.drawn_lineRx : (State.drawn s).lineRx = s.lineRx := rfl
@[simp] theorem State.drawn_carrierRec : (State.drawn s).carrierRec = s.carrierRec := rfl
@[simp] theorem State.drawn_demapper : (State.drawn s).demapper = s.demapper := rfl
@[simp] theorem State.drawn_dispersion : (State.drawn s).dispersion = s.dispersion := rfl
@[simp] theorem State.drawn_equaliser : (State.drawn s).equaliser = s.equaliser := rfl
@[simp] theorem State.drawn_tunedN : (State.drawn s).tunedN = s.tunedN := rfl
@[simp] theorem State.drawn_dsram : (State.drawn s).dsram = s.dsram := rfl
@[simp] theorem State.drawn_optics : (State.drawn s).optics = s.optics := rfl
@[simp] theorem State.drawn_qlt : (State.drawn s).qlt = s.qlt := rfl
@[simp] theorem State.drawn_plinth : (State.drawn s).plinth = s.plinth := rfl
@[simp] theorem State.drawn_keep : (State.drawn s).keep = s.keep := rfl
@[simp] theorem State.drawn_archive : (State.drawn s).archive = s.archive := rfl
@[simp] theorem State.drawn_rps : (State.drawn s).rps = s.rps := rfl
@[simp] theorem State.drawn_tel : (State.drawn s).tel = s.tel := rfl
@[simp] theorem State.drawn_cast : (State.drawn s).cast = s.cast := rfl
@[simp] theorem State.drawn_vddRequested : (State.drawn s).vddRequested = s.vddRequested := rfl
@[simp] theorem State.drawn_checkers : (State.drawn s).checkers = s.checkers := rfl
@[simp] theorem State.drawn_hostLink : (State.drawn s).hostLink = s.hostLink := rfl
@[simp] theorem State.drawn_mbox : (State.drawn s).mbox = s.mbox := rfl
@[simp] theorem State.drawn_memories : (State.drawn s).memories = s.memories := rfl
@[simp] theorem State.drawn_isram : (State.drawn s).isram = s.isram := rfl
@[simp] theorem State.drawn_cores : (State.drawn s).cores = s.cores := rfl
@[simp] theorem State.drawn_images : (State.drawn s).images = s.images := rfl
@[simp] theorem State.drawn_stepsDue : (State.drawn s).stepsDue = s.stepsDue := rfl
@[simp] theorem State.drawn_samples : (State.drawn s).samples = s.samples := rfl
@[simp] theorem State.drawn_pwrMgr : (State.drawn s).pwrMgr = s.pwrMgr := rfl
@[simp] theorem State.drawn_timeBase : (State.drawn s).timeBase = s.timeBase := rfl
@[simp] theorem State.drawn_selfTest : (State.drawn s).selfTest = s.selfTest := rfl
@[simp] theorem State.drawn_firmware : (State.drawn s).firmware = s.firmware := rfl
@[simp] theorem State.drawn_freeCount : (State.drawn s).freeCount = s.freeCount + 1 := rfl
@[simp] theorem State.drawn_staged : (State.drawn s).staged = s.staged := rfl
@[simp] theorem State.drawn_timers : (State.drawn s).timers = s.timers := rfl
@[simp] theorem State.drawn_pending : (State.drawn s).pending = s.pending := rfl
@[simp] theorem State.drawn_word (q : Page) (off : Nat) : word (State.drawn s) q off = word s q off := rfl
@[simp] theorem State.drawn_get (q : Page) (g : Field) : State.get (State.drawn s) q g = s.get q g := rfl
@[simp] theorem State.drawn_flag (q : Page) (g : Field) : State.flag (State.drawn s) q g = s.flag q g := rfl

end

/-! ## State.setPwr -/

section

variable (s : State) (x : PowerManager)

@[simp] theorem State.setPwr_regs : (State.setPwr s x).regs = s.regs := rfl
@[simp] theorem State.setPwr_latches : (State.setPwr s x).latches = s.latches := rfl
@[simp] theorem State.setPwr_answer : (State.setPwr s x).answer = s.answer := rfl
@[simp] theorem State.setPwr_hostReady : (State.setPwr s x).hostReady = s.hostReady := rfl
@[simp] theorem State.setPwr_journal : (State.setPwr s x).journal = s.journal := rfl
@[simp] theorem State.setPwr_evr : (State.setPwr s x).evr = s.evr := rfl
@[simp] theorem State.setPwr_msix : (State.setPwr s x).msix = s.msix := rfl
@[simp] theorem State.setPwr_semaphores : (State.setPwr s x).semaphores = s.semaphores := rfl
@[simp] theorem State.setPwr_pairMatches : (State.setPwr s x).pairMatches = s.pairMatches := rfl
@[simp] theorem State.setPwr_tickEvents : (State.setPwr s x).tickEvents = s.tickEvents := rfl
@[simp] theorem State.setPwr_nowNs : (State.setPwr s x).nowNs = s.nowNs := rfl
@[simp] theorem State.setPwr_elapsedNs : (State.setPwr s x).elapsedNs = s.elapsedNs := rfl
@[simp] theorem State.setPwr_framer : (State.setPwr s x).framer = s.framer := rfl
@[simp] theorem State.setPwr_fec : (State.setPwr s x).fec = s.fec := rfl
@[simp] theorem State.setPwr_cpc : (State.setPwr s x).cpc = s.cpc := rfl
@[simp] theorem State.setPwr_cipher : (State.setPwr s x).cipher = s.cipher := rfl
@[simp] theorem State.setPwr_hk : (State.setPwr s x).hk = s.hk := rfl
@[simp] theorem State.setPwr_aux : (State.setPwr s x).aux = s.aux := rfl
@[simp] theorem State.setPwr_cal : (State.setPwr s x).cal = s.cal := rfl
@[simp] theorem State.setPwr_txDsp : (State.setPwr s x).txDsp = s.txDsp := rfl
@[simp] theorem State.setPwr_txLane : (State.setPwr s x).txLane = s.txLane := rfl
@[simp] theorem State.setPwr_lineRx : (State.setPwr s x).lineRx = s.lineRx := rfl
@[simp] theorem State.setPwr_carrierRec : (State.setPwr s x).carrierRec = s.carrierRec := rfl
@[simp] theorem State.setPwr_demapper : (State.setPwr s x).demapper = s.demapper := rfl
@[simp] theorem State.setPwr_dispersion : (State.setPwr s x).dispersion = s.dispersion := rfl
@[simp] theorem State.setPwr_equaliser : (State.setPwr s x).equaliser = s.equaliser := rfl
@[simp] theorem State.setPwr_tunedN : (State.setPwr s x).tunedN = s.tunedN := rfl
@[simp] theorem State.setPwr_dsram : (State.setPwr s x).dsram = s.dsram := rfl
@[simp] theorem State.setPwr_optics : (State.setPwr s x).optics = s.optics := rfl
@[simp] theorem State.setPwr_qlt : (State.setPwr s x).qlt = s.qlt := rfl
@[simp] theorem State.setPwr_plinth : (State.setPwr s x).plinth = s.plinth := rfl
@[simp] theorem State.setPwr_keep : (State.setPwr s x).keep = s.keep := rfl
@[simp] theorem State.setPwr_archive : (State.setPwr s x).archive = s.archive := rfl
@[simp] theorem State.setPwr_rps : (State.setPwr s x).rps = s.rps := rfl
@[simp] theorem State.setPwr_tel : (State.setPwr s x).tel = s.tel := rfl
@[simp] theorem State.setPwr_cast : (State.setPwr s x).cast = s.cast := rfl
@[simp] theorem State.setPwr_vddRequested : (State.setPwr s x).vddRequested = s.vddRequested := rfl
@[simp] theorem State.setPwr_checkers : (State.setPwr s x).checkers = s.checkers := rfl
@[simp] theorem State.setPwr_hostLink : (State.setPwr s x).hostLink = s.hostLink := rfl
@[simp] theorem State.setPwr_mbox : (State.setPwr s x).mbox = s.mbox := rfl
@[simp] theorem State.setPwr_memories : (State.setPwr s x).memories = s.memories := rfl
@[simp] theorem State.setPwr_isram : (State.setPwr s x).isram = s.isram := rfl
@[simp] theorem State.setPwr_cores : (State.setPwr s x).cores = s.cores := rfl
@[simp] theorem State.setPwr_images : (State.setPwr s x).images = s.images := rfl
@[simp] theorem State.setPwr_stepsDue : (State.setPwr s x).stepsDue = s.stepsDue := rfl
@[simp] theorem State.setPwr_samples : (State.setPwr s x).samples = s.samples := rfl
@[simp] theorem State.setPwr_pwrMgr : (State.setPwr s x).pwrMgr = x := rfl
@[simp] theorem State.setPwr_timeBase : (State.setPwr s x).timeBase = s.timeBase := rfl
@[simp] theorem State.setPwr_selfTest : (State.setPwr s x).selfTest = s.selfTest := rfl
@[simp] theorem State.setPwr_firmware : (State.setPwr s x).firmware = s.firmware := rfl
@[simp] theorem State.setPwr_freeCount : (State.setPwr s x).freeCount = s.freeCount := rfl
@[simp] theorem State.setPwr_staged : (State.setPwr s x).staged = s.staged := rfl
@[simp] theorem State.setPwr_timers : (State.setPwr s x).timers = s.timers := rfl
@[simp] theorem State.setPwr_pending : (State.setPwr s x).pending = s.pending := rfl
@[simp] theorem State.setPwr_word (q : Page) (off : Nat) : word (State.setPwr s x) q off = word s q off := rfl
@[simp] theorem State.setPwr_get (q : Page) (g : Field) : State.get (State.setPwr s x) q g = s.get q g := rfl
@[simp] theorem State.setPwr_flag (q : Page) (g : Field) : State.flag (State.setPwr s x) q g = s.flag q g := rfl

end

/-! ## setSemaphore -/

section

variable (s : State) (n : Nat) (x : Semaphore)

@[simp] theorem setSemaphore_regs : (setSemaphore s n x).regs = s.regs := rfl
@[simp] theorem setSemaphore_latches : (setSemaphore s n x).latches = s.latches := rfl
@[simp] theorem setSemaphore_answer : (setSemaphore s n x).answer = s.answer := rfl
@[simp] theorem setSemaphore_hostReady : (setSemaphore s n x).hostReady = s.hostReady := rfl
@[simp] theorem setSemaphore_journal : (setSemaphore s n x).journal = s.journal := rfl
@[simp] theorem setSemaphore_evr : (setSemaphore s n x).evr = s.evr := rfl
@[simp] theorem setSemaphore_msix : (setSemaphore s n x).msix = s.msix := rfl
@[simp] theorem setSemaphore_semaphores : (setSemaphore s n x).semaphores = s.semaphores.setIfInBounds n x := rfl
@[simp] theorem setSemaphore_pairMatches : (setSemaphore s n x).pairMatches = s.pairMatches := rfl
@[simp] theorem setSemaphore_tickEvents : (setSemaphore s n x).tickEvents = s.tickEvents := rfl
@[simp] theorem setSemaphore_nowNs : (setSemaphore s n x).nowNs = s.nowNs := rfl
@[simp] theorem setSemaphore_elapsedNs : (setSemaphore s n x).elapsedNs = s.elapsedNs := rfl
@[simp] theorem setSemaphore_framer : (setSemaphore s n x).framer = s.framer := rfl
@[simp] theorem setSemaphore_fec : (setSemaphore s n x).fec = s.fec := rfl
@[simp] theorem setSemaphore_cpc : (setSemaphore s n x).cpc = s.cpc := rfl
@[simp] theorem setSemaphore_cipher : (setSemaphore s n x).cipher = s.cipher := rfl
@[simp] theorem setSemaphore_hk : (setSemaphore s n x).hk = s.hk := rfl
@[simp] theorem setSemaphore_aux : (setSemaphore s n x).aux = s.aux := rfl
@[simp] theorem setSemaphore_cal : (setSemaphore s n x).cal = s.cal := rfl
@[simp] theorem setSemaphore_txDsp : (setSemaphore s n x).txDsp = s.txDsp := rfl
@[simp] theorem setSemaphore_txLane : (setSemaphore s n x).txLane = s.txLane := rfl
@[simp] theorem setSemaphore_lineRx : (setSemaphore s n x).lineRx = s.lineRx := rfl
@[simp] theorem setSemaphore_carrierRec : (setSemaphore s n x).carrierRec = s.carrierRec := rfl
@[simp] theorem setSemaphore_demapper : (setSemaphore s n x).demapper = s.demapper := rfl
@[simp] theorem setSemaphore_dispersion : (setSemaphore s n x).dispersion = s.dispersion := rfl
@[simp] theorem setSemaphore_equaliser : (setSemaphore s n x).equaliser = s.equaliser := rfl
@[simp] theorem setSemaphore_tunedN : (setSemaphore s n x).tunedN = s.tunedN := rfl
@[simp] theorem setSemaphore_dsram : (setSemaphore s n x).dsram = s.dsram := rfl
@[simp] theorem setSemaphore_optics : (setSemaphore s n x).optics = s.optics := rfl
@[simp] theorem setSemaphore_qlt : (setSemaphore s n x).qlt = s.qlt := rfl
@[simp] theorem setSemaphore_plinth : (setSemaphore s n x).plinth = s.plinth := rfl
@[simp] theorem setSemaphore_keep : (setSemaphore s n x).keep = s.keep := rfl
@[simp] theorem setSemaphore_archive : (setSemaphore s n x).archive = s.archive := rfl
@[simp] theorem setSemaphore_rps : (setSemaphore s n x).rps = s.rps := rfl
@[simp] theorem setSemaphore_tel : (setSemaphore s n x).tel = s.tel := rfl
@[simp] theorem setSemaphore_cast : (setSemaphore s n x).cast = s.cast := rfl
@[simp] theorem setSemaphore_vddRequested : (setSemaphore s n x).vddRequested = s.vddRequested := rfl
@[simp] theorem setSemaphore_checkers : (setSemaphore s n x).checkers = s.checkers := rfl
@[simp] theorem setSemaphore_hostLink : (setSemaphore s n x).hostLink = s.hostLink := rfl
@[simp] theorem setSemaphore_mbox : (setSemaphore s n x).mbox = s.mbox := rfl
@[simp] theorem setSemaphore_memories : (setSemaphore s n x).memories = s.memories := rfl
@[simp] theorem setSemaphore_isram : (setSemaphore s n x).isram = s.isram := rfl
@[simp] theorem setSemaphore_cores : (setSemaphore s n x).cores = s.cores := rfl
@[simp] theorem setSemaphore_images : (setSemaphore s n x).images = s.images := rfl
@[simp] theorem setSemaphore_stepsDue : (setSemaphore s n x).stepsDue = s.stepsDue := rfl
@[simp] theorem setSemaphore_samples : (setSemaphore s n x).samples = s.samples := rfl
@[simp] theorem setSemaphore_pwrMgr : (setSemaphore s n x).pwrMgr = s.pwrMgr := rfl
@[simp] theorem setSemaphore_timeBase : (setSemaphore s n x).timeBase = s.timeBase := rfl
@[simp] theorem setSemaphore_selfTest : (setSemaphore s n x).selfTest = s.selfTest := rfl
@[simp] theorem setSemaphore_firmware : (setSemaphore s n x).firmware = s.firmware := rfl
@[simp] theorem setSemaphore_freeCount : (setSemaphore s n x).freeCount = s.freeCount := rfl
@[simp] theorem setSemaphore_staged : (setSemaphore s n x).staged = s.staged := rfl
@[simp] theorem setSemaphore_timers : (setSemaphore s n x).timers = s.timers := rfl
@[simp] theorem setSemaphore_pending : (setSemaphore s n x).pending = s.pending := rfl
@[simp] theorem setSemaphore_word (q : Page) (off : Nat) : word (setSemaphore s n x) q off = word s q off := rfl
@[simp] theorem setSemaphore_get (q : Page) (g : Field) : State.get (setSemaphore s n x) q g = s.get q g := rfl
@[simp] theorem setSemaphore_flag (q : Page) (g : Field) : State.flag (setSemaphore s n x) q g = s.flag q g := rfl

end

/-! ## setTxDsp -/

section

variable (s : State) (c : Carrier) (x : TxDsp)

@[simp] theorem setTxDsp_regs : (setTxDsp s c x).regs = s.regs := rfl
@[simp] theorem setTxDsp_latches : (setTxDsp s c x).latches = s.latches := rfl
@[simp] theorem setTxDsp_answer : (setTxDsp s c x).answer = s.answer := rfl
@[simp] theorem setTxDsp_hostReady : (setTxDsp s c x).hostReady = s.hostReady := rfl
@[simp] theorem setTxDsp_journal : (setTxDsp s c x).journal = s.journal := rfl
@[simp] theorem setTxDsp_evr : (setTxDsp s c x).evr = s.evr := rfl
@[simp] theorem setTxDsp_msix : (setTxDsp s c x).msix = s.msix := rfl
@[simp] theorem setTxDsp_semaphores : (setTxDsp s c x).semaphores = s.semaphores := rfl
@[simp] theorem setTxDsp_pairMatches : (setTxDsp s c x).pairMatches = s.pairMatches := rfl
@[simp] theorem setTxDsp_tickEvents : (setTxDsp s c x).tickEvents = s.tickEvents := rfl
@[simp] theorem setTxDsp_nowNs : (setTxDsp s c x).nowNs = s.nowNs := rfl
@[simp] theorem setTxDsp_elapsedNs : (setTxDsp s c x).elapsedNs = s.elapsedNs := rfl
@[simp] theorem setTxDsp_framer : (setTxDsp s c x).framer = s.framer := rfl
@[simp] theorem setTxDsp_fec : (setTxDsp s c x).fec = s.fec := rfl
@[simp] theorem setTxDsp_cpc : (setTxDsp s c x).cpc = s.cpc := rfl
@[simp] theorem setTxDsp_cipher : (setTxDsp s c x).cipher = s.cipher := rfl
@[simp] theorem setTxDsp_hk : (setTxDsp s c x).hk = s.hk := rfl
@[simp] theorem setTxDsp_aux : (setTxDsp s c x).aux = s.aux := rfl
@[simp] theorem setTxDsp_cal : (setTxDsp s c x).cal = s.cal := rfl
@[simp] theorem setTxDsp_txDsp : (setTxDsp s c x).txDsp = s.txDsp.set c x := rfl
@[simp] theorem setTxDsp_txLane : (setTxDsp s c x).txLane = s.txLane := rfl
@[simp] theorem setTxDsp_lineRx : (setTxDsp s c x).lineRx = s.lineRx := rfl
@[simp] theorem setTxDsp_carrierRec : (setTxDsp s c x).carrierRec = s.carrierRec := rfl
@[simp] theorem setTxDsp_demapper : (setTxDsp s c x).demapper = s.demapper := rfl
@[simp] theorem setTxDsp_dispersion : (setTxDsp s c x).dispersion = s.dispersion := rfl
@[simp] theorem setTxDsp_equaliser : (setTxDsp s c x).equaliser = s.equaliser := rfl
@[simp] theorem setTxDsp_tunedN : (setTxDsp s c x).tunedN = s.tunedN := rfl
@[simp] theorem setTxDsp_dsram : (setTxDsp s c x).dsram = s.dsram := rfl
@[simp] theorem setTxDsp_optics : (setTxDsp s c x).optics = s.optics := rfl
@[simp] theorem setTxDsp_qlt : (setTxDsp s c x).qlt = s.qlt := rfl
@[simp] theorem setTxDsp_plinth : (setTxDsp s c x).plinth = s.plinth := rfl
@[simp] theorem setTxDsp_keep : (setTxDsp s c x).keep = s.keep := rfl
@[simp] theorem setTxDsp_archive : (setTxDsp s c x).archive = s.archive := rfl
@[simp] theorem setTxDsp_rps : (setTxDsp s c x).rps = s.rps := rfl
@[simp] theorem setTxDsp_tel : (setTxDsp s c x).tel = s.tel := rfl
@[simp] theorem setTxDsp_cast : (setTxDsp s c x).cast = s.cast := rfl
@[simp] theorem setTxDsp_vddRequested : (setTxDsp s c x).vddRequested = s.vddRequested := rfl
@[simp] theorem setTxDsp_checkers : (setTxDsp s c x).checkers = s.checkers := rfl
@[simp] theorem setTxDsp_hostLink : (setTxDsp s c x).hostLink = s.hostLink := rfl
@[simp] theorem setTxDsp_mbox : (setTxDsp s c x).mbox = s.mbox := rfl
@[simp] theorem setTxDsp_memories : (setTxDsp s c x).memories = s.memories := rfl
@[simp] theorem setTxDsp_isram : (setTxDsp s c x).isram = s.isram := rfl
@[simp] theorem setTxDsp_cores : (setTxDsp s c x).cores = s.cores := rfl
@[simp] theorem setTxDsp_images : (setTxDsp s c x).images = s.images := rfl
@[simp] theorem setTxDsp_stepsDue : (setTxDsp s c x).stepsDue = s.stepsDue := rfl
@[simp] theorem setTxDsp_samples : (setTxDsp s c x).samples = s.samples := rfl
@[simp] theorem setTxDsp_pwrMgr : (setTxDsp s c x).pwrMgr = s.pwrMgr := rfl
@[simp] theorem setTxDsp_timeBase : (setTxDsp s c x).timeBase = s.timeBase := rfl
@[simp] theorem setTxDsp_selfTest : (setTxDsp s c x).selfTest = s.selfTest := rfl
@[simp] theorem setTxDsp_firmware : (setTxDsp s c x).firmware = s.firmware := rfl
@[simp] theorem setTxDsp_freeCount : (setTxDsp s c x).freeCount = s.freeCount := rfl
@[simp] theorem setTxDsp_staged : (setTxDsp s c x).staged = s.staged := rfl
@[simp] theorem setTxDsp_timers : (setTxDsp s c x).timers = s.timers := rfl
@[simp] theorem setTxDsp_pending : (setTxDsp s c x).pending = s.pending := rfl
@[simp] theorem setTxDsp_word (q : Page) (off : Nat) : word (setTxDsp s c x) q off = word s q off := rfl
@[simp] theorem setTxDsp_get (q : Page) (g : Field) : State.get (setTxDsp s c x) q g = s.get q g := rfl
@[simp] theorem setTxDsp_flag (q : Page) (g : Field) : State.flag (setTxDsp s c x) q g = s.flag q g := rfl

end

/-! ## putTxLane -/

section

variable (s : State) (n : Fin 8) (x : TxLane)

@[simp] theorem putTxLane_regs : (putTxLane s n x).regs = s.regs := rfl
@[simp] theorem putTxLane_latches : (putTxLane s n x).latches = s.latches := rfl
@[simp] theorem putTxLane_answer : (putTxLane s n x).answer = s.answer := rfl
@[simp] theorem putTxLane_hostReady : (putTxLane s n x).hostReady = s.hostReady := rfl
@[simp] theorem putTxLane_journal : (putTxLane s n x).journal = s.journal := rfl
@[simp] theorem putTxLane_evr : (putTxLane s n x).evr = s.evr := rfl
@[simp] theorem putTxLane_msix : (putTxLane s n x).msix = s.msix := rfl
@[simp] theorem putTxLane_semaphores : (putTxLane s n x).semaphores = s.semaphores := rfl
@[simp] theorem putTxLane_pairMatches : (putTxLane s n x).pairMatches = s.pairMatches := rfl
@[simp] theorem putTxLane_tickEvents : (putTxLane s n x).tickEvents = s.tickEvents := rfl
@[simp] theorem putTxLane_nowNs : (putTxLane s n x).nowNs = s.nowNs := rfl
@[simp] theorem putTxLane_elapsedNs : (putTxLane s n x).elapsedNs = s.elapsedNs := rfl
@[simp] theorem putTxLane_framer : (putTxLane s n x).framer = s.framer := rfl
@[simp] theorem putTxLane_fec : (putTxLane s n x).fec = s.fec := rfl
@[simp] theorem putTxLane_cpc : (putTxLane s n x).cpc = s.cpc := rfl
@[simp] theorem putTxLane_cipher : (putTxLane s n x).cipher = s.cipher := rfl
@[simp] theorem putTxLane_hk : (putTxLane s n x).hk = s.hk := rfl
@[simp] theorem putTxLane_aux : (putTxLane s n x).aux = s.aux := rfl
@[simp] theorem putTxLane_cal : (putTxLane s n x).cal = s.cal := rfl
@[simp] theorem putTxLane_txDsp : (putTxLane s n x).txDsp = s.txDsp := rfl
@[simp] theorem putTxLane_txLane : (putTxLane s n x).txLane = s.txLane.set n x := rfl
@[simp] theorem putTxLane_lineRx : (putTxLane s n x).lineRx = s.lineRx := rfl
@[simp] theorem putTxLane_carrierRec : (putTxLane s n x).carrierRec = s.carrierRec := rfl
@[simp] theorem putTxLane_demapper : (putTxLane s n x).demapper = s.demapper := rfl
@[simp] theorem putTxLane_dispersion : (putTxLane s n x).dispersion = s.dispersion := rfl
@[simp] theorem putTxLane_equaliser : (putTxLane s n x).equaliser = s.equaliser := rfl
@[simp] theorem putTxLane_tunedN : (putTxLane s n x).tunedN = s.tunedN := rfl
@[simp] theorem putTxLane_dsram : (putTxLane s n x).dsram = s.dsram := rfl
@[simp] theorem putTxLane_optics : (putTxLane s n x).optics = s.optics := rfl
@[simp] theorem putTxLane_qlt : (putTxLane s n x).qlt = s.qlt := rfl
@[simp] theorem putTxLane_plinth : (putTxLane s n x).plinth = s.plinth := rfl
@[simp] theorem putTxLane_keep : (putTxLane s n x).keep = s.keep := rfl
@[simp] theorem putTxLane_archive : (putTxLane s n x).archive = s.archive := rfl
@[simp] theorem putTxLane_rps : (putTxLane s n x).rps = s.rps := rfl
@[simp] theorem putTxLane_tel : (putTxLane s n x).tel = s.tel := rfl
@[simp] theorem putTxLane_cast : (putTxLane s n x).cast = s.cast := rfl
@[simp] theorem putTxLane_vddRequested : (putTxLane s n x).vddRequested = s.vddRequested := rfl
@[simp] theorem putTxLane_checkers : (putTxLane s n x).checkers = s.checkers := rfl
@[simp] theorem putTxLane_hostLink : (putTxLane s n x).hostLink = s.hostLink := rfl
@[simp] theorem putTxLane_mbox : (putTxLane s n x).mbox = s.mbox := rfl
@[simp] theorem putTxLane_memories : (putTxLane s n x).memories = s.memories := rfl
@[simp] theorem putTxLane_isram : (putTxLane s n x).isram = s.isram := rfl
@[simp] theorem putTxLane_cores : (putTxLane s n x).cores = s.cores := rfl
@[simp] theorem putTxLane_images : (putTxLane s n x).images = s.images := rfl
@[simp] theorem putTxLane_stepsDue : (putTxLane s n x).stepsDue = s.stepsDue := rfl
@[simp] theorem putTxLane_samples : (putTxLane s n x).samples = s.samples := rfl
@[simp] theorem putTxLane_pwrMgr : (putTxLane s n x).pwrMgr = s.pwrMgr := rfl
@[simp] theorem putTxLane_timeBase : (putTxLane s n x).timeBase = s.timeBase := rfl
@[simp] theorem putTxLane_selfTest : (putTxLane s n x).selfTest = s.selfTest := rfl
@[simp] theorem putTxLane_firmware : (putTxLane s n x).firmware = s.firmware := rfl
@[simp] theorem putTxLane_freeCount : (putTxLane s n x).freeCount = s.freeCount := rfl
@[simp] theorem putTxLane_staged : (putTxLane s n x).staged = s.staged := rfl
@[simp] theorem putTxLane_timers : (putTxLane s n x).timers = s.timers := rfl
@[simp] theorem putTxLane_pending : (putTxLane s n x).pending = s.pending := rfl
@[simp] theorem putTxLane_word (q : Page) (off : Nat) : word (putTxLane s n x) q off = word s q off := rfl
@[simp] theorem putTxLane_get (q : Page) (g : Field) : State.get (putTxLane s n x) q g = s.get q g := rfl
@[simp] theorem putTxLane_flag (q : Page) (g : Field) : State.flag (putTxLane s n x) q g = s.flag q g := rfl

end

/-! ## putLineRx -/

section

variable (s : State) (n : Fin 8) (x : LineRx)

@[simp] theorem putLineRx_regs : (putLineRx s n x).regs = s.regs := rfl
@[simp] theorem putLineRx_latches : (putLineRx s n x).latches = s.latches := rfl
@[simp] theorem putLineRx_answer : (putLineRx s n x).answer = s.answer := rfl
@[simp] theorem putLineRx_hostReady : (putLineRx s n x).hostReady = s.hostReady := rfl
@[simp] theorem putLineRx_journal : (putLineRx s n x).journal = s.journal := rfl
@[simp] theorem putLineRx_evr : (putLineRx s n x).evr = s.evr := rfl
@[simp] theorem putLineRx_msix : (putLineRx s n x).msix = s.msix := rfl
@[simp] theorem putLineRx_semaphores : (putLineRx s n x).semaphores = s.semaphores := rfl
@[simp] theorem putLineRx_pairMatches : (putLineRx s n x).pairMatches = s.pairMatches := rfl
@[simp] theorem putLineRx_tickEvents : (putLineRx s n x).tickEvents = s.tickEvents := rfl
@[simp] theorem putLineRx_nowNs : (putLineRx s n x).nowNs = s.nowNs := rfl
@[simp] theorem putLineRx_elapsedNs : (putLineRx s n x).elapsedNs = s.elapsedNs := rfl
@[simp] theorem putLineRx_framer : (putLineRx s n x).framer = s.framer := rfl
@[simp] theorem putLineRx_fec : (putLineRx s n x).fec = s.fec := rfl
@[simp] theorem putLineRx_cpc : (putLineRx s n x).cpc = s.cpc := rfl
@[simp] theorem putLineRx_cipher : (putLineRx s n x).cipher = s.cipher := rfl
@[simp] theorem putLineRx_hk : (putLineRx s n x).hk = s.hk := rfl
@[simp] theorem putLineRx_aux : (putLineRx s n x).aux = s.aux := rfl
@[simp] theorem putLineRx_cal : (putLineRx s n x).cal = s.cal := rfl
@[simp] theorem putLineRx_txDsp : (putLineRx s n x).txDsp = s.txDsp := rfl
@[simp] theorem putLineRx_txLane : (putLineRx s n x).txLane = s.txLane := rfl
@[simp] theorem putLineRx_lineRx : (putLineRx s n x).lineRx = s.lineRx.set n x := rfl
@[simp] theorem putLineRx_carrierRec : (putLineRx s n x).carrierRec = s.carrierRec := rfl
@[simp] theorem putLineRx_demapper : (putLineRx s n x).demapper = s.demapper := rfl
@[simp] theorem putLineRx_dispersion : (putLineRx s n x).dispersion = s.dispersion := rfl
@[simp] theorem putLineRx_equaliser : (putLineRx s n x).equaliser = s.equaliser := rfl
@[simp] theorem putLineRx_tunedN : (putLineRx s n x).tunedN = s.tunedN := rfl
@[simp] theorem putLineRx_dsram : (putLineRx s n x).dsram = s.dsram := rfl
@[simp] theorem putLineRx_optics : (putLineRx s n x).optics = s.optics := rfl
@[simp] theorem putLineRx_qlt : (putLineRx s n x).qlt = s.qlt := rfl
@[simp] theorem putLineRx_plinth : (putLineRx s n x).plinth = s.plinth := rfl
@[simp] theorem putLineRx_keep : (putLineRx s n x).keep = s.keep := rfl
@[simp] theorem putLineRx_archive : (putLineRx s n x).archive = s.archive := rfl
@[simp] theorem putLineRx_rps : (putLineRx s n x).rps = s.rps := rfl
@[simp] theorem putLineRx_tel : (putLineRx s n x).tel = s.tel := rfl
@[simp] theorem putLineRx_cast : (putLineRx s n x).cast = s.cast := rfl
@[simp] theorem putLineRx_vddRequested : (putLineRx s n x).vddRequested = s.vddRequested := rfl
@[simp] theorem putLineRx_checkers : (putLineRx s n x).checkers = s.checkers := rfl
@[simp] theorem putLineRx_hostLink : (putLineRx s n x).hostLink = s.hostLink := rfl
@[simp] theorem putLineRx_mbox : (putLineRx s n x).mbox = s.mbox := rfl
@[simp] theorem putLineRx_memories : (putLineRx s n x).memories = s.memories := rfl
@[simp] theorem putLineRx_isram : (putLineRx s n x).isram = s.isram := rfl
@[simp] theorem putLineRx_cores : (putLineRx s n x).cores = s.cores := rfl
@[simp] theorem putLineRx_images : (putLineRx s n x).images = s.images := rfl
@[simp] theorem putLineRx_stepsDue : (putLineRx s n x).stepsDue = s.stepsDue := rfl
@[simp] theorem putLineRx_samples : (putLineRx s n x).samples = s.samples := rfl
@[simp] theorem putLineRx_pwrMgr : (putLineRx s n x).pwrMgr = s.pwrMgr := rfl
@[simp] theorem putLineRx_timeBase : (putLineRx s n x).timeBase = s.timeBase := rfl
@[simp] theorem putLineRx_selfTest : (putLineRx s n x).selfTest = s.selfTest := rfl
@[simp] theorem putLineRx_firmware : (putLineRx s n x).firmware = s.firmware := rfl
@[simp] theorem putLineRx_freeCount : (putLineRx s n x).freeCount = s.freeCount := rfl
@[simp] theorem putLineRx_staged : (putLineRx s n x).staged = s.staged := rfl
@[simp] theorem putLineRx_timers : (putLineRx s n x).timers = s.timers := rfl
@[simp] theorem putLineRx_pending : (putLineRx s n x).pending = s.pending := rfl
@[simp] theorem putLineRx_word (q : Page) (off : Nat) : word (putLineRx s n x) q off = word s q off := rfl
@[simp] theorem putLineRx_get (q : Page) (g : Field) : State.get (putLineRx s n x) q g = s.get q g := rfl
@[simp] theorem putLineRx_flag (q : Page) (g : Field) : State.flag (putLineRx s n x) q g = s.flag q g := rfl

end

/-! ## State.setPlinth -/

section

variable (s : State) (x : Plinth)

@[simp] theorem State.setPlinth_regs : (State.setPlinth s x).regs = s.regs := rfl
@[simp] theorem State.setPlinth_latches : (State.setPlinth s x).latches = s.latches := rfl
@[simp] theorem State.setPlinth_answer : (State.setPlinth s x).answer = s.answer := rfl
@[simp] theorem State.setPlinth_hostReady : (State.setPlinth s x).hostReady = s.hostReady := rfl
@[simp] theorem State.setPlinth_journal : (State.setPlinth s x).journal = s.journal := rfl
@[simp] theorem State.setPlinth_evr : (State.setPlinth s x).evr = s.evr := rfl
@[simp] theorem State.setPlinth_msix : (State.setPlinth s x).msix = s.msix := rfl
@[simp] theorem State.setPlinth_semaphores : (State.setPlinth s x).semaphores = s.semaphores := rfl
@[simp] theorem State.setPlinth_pairMatches : (State.setPlinth s x).pairMatches = s.pairMatches := rfl
@[simp] theorem State.setPlinth_tickEvents : (State.setPlinth s x).tickEvents = s.tickEvents := rfl
@[simp] theorem State.setPlinth_nowNs : (State.setPlinth s x).nowNs = s.nowNs := rfl
@[simp] theorem State.setPlinth_elapsedNs : (State.setPlinth s x).elapsedNs = s.elapsedNs := rfl
@[simp] theorem State.setPlinth_framer : (State.setPlinth s x).framer = s.framer := rfl
@[simp] theorem State.setPlinth_fec : (State.setPlinth s x).fec = s.fec := rfl
@[simp] theorem State.setPlinth_cpc : (State.setPlinth s x).cpc = s.cpc := rfl
@[simp] theorem State.setPlinth_cipher : (State.setPlinth s x).cipher = s.cipher := rfl
@[simp] theorem State.setPlinth_hk : (State.setPlinth s x).hk = s.hk := rfl
@[simp] theorem State.setPlinth_aux : (State.setPlinth s x).aux = s.aux := rfl
@[simp] theorem State.setPlinth_cal : (State.setPlinth s x).cal = s.cal := rfl
@[simp] theorem State.setPlinth_txDsp : (State.setPlinth s x).txDsp = s.txDsp := rfl
@[simp] theorem State.setPlinth_txLane : (State.setPlinth s x).txLane = s.txLane := rfl
@[simp] theorem State.setPlinth_lineRx : (State.setPlinth s x).lineRx = s.lineRx := rfl
@[simp] theorem State.setPlinth_carrierRec : (State.setPlinth s x).carrierRec = s.carrierRec := rfl
@[simp] theorem State.setPlinth_demapper : (State.setPlinth s x).demapper = s.demapper := rfl
@[simp] theorem State.setPlinth_dispersion : (State.setPlinth s x).dispersion = s.dispersion := rfl
@[simp] theorem State.setPlinth_equaliser : (State.setPlinth s x).equaliser = s.equaliser := rfl
@[simp] theorem State.setPlinth_tunedN : (State.setPlinth s x).tunedN = s.tunedN := rfl
@[simp] theorem State.setPlinth_dsram : (State.setPlinth s x).dsram = s.dsram := rfl
@[simp] theorem State.setPlinth_optics : (State.setPlinth s x).optics = s.optics := rfl
@[simp] theorem State.setPlinth_qlt : (State.setPlinth s x).qlt = s.qlt := rfl
@[simp] theorem State.setPlinth_plinth : (State.setPlinth s x).plinth = x := rfl
@[simp] theorem State.setPlinth_keep : (State.setPlinth s x).keep = s.keep := rfl
@[simp] theorem State.setPlinth_archive : (State.setPlinth s x).archive = s.archive := rfl
@[simp] theorem State.setPlinth_rps : (State.setPlinth s x).rps = s.rps := rfl
@[simp] theorem State.setPlinth_tel : (State.setPlinth s x).tel = s.tel := rfl
@[simp] theorem State.setPlinth_cast : (State.setPlinth s x).cast = s.cast := rfl
@[simp] theorem State.setPlinth_vddRequested : (State.setPlinth s x).vddRequested = s.vddRequested := rfl
@[simp] theorem State.setPlinth_checkers : (State.setPlinth s x).checkers = s.checkers := rfl
@[simp] theorem State.setPlinth_hostLink : (State.setPlinth s x).hostLink = s.hostLink := rfl
@[simp] theorem State.setPlinth_mbox : (State.setPlinth s x).mbox = s.mbox := rfl
@[simp] theorem State.setPlinth_memories : (State.setPlinth s x).memories = s.memories := rfl
@[simp] theorem State.setPlinth_isram : (State.setPlinth s x).isram = s.isram := rfl
@[simp] theorem State.setPlinth_cores : (State.setPlinth s x).cores = s.cores := rfl
@[simp] theorem State.setPlinth_images : (State.setPlinth s x).images = s.images := rfl
@[simp] theorem State.setPlinth_stepsDue : (State.setPlinth s x).stepsDue = s.stepsDue := rfl
@[simp] theorem State.setPlinth_samples : (State.setPlinth s x).samples = s.samples := rfl
@[simp] theorem State.setPlinth_pwrMgr : (State.setPlinth s x).pwrMgr = s.pwrMgr := rfl
@[simp] theorem State.setPlinth_timeBase : (State.setPlinth s x).timeBase = s.timeBase := rfl
@[simp] theorem State.setPlinth_selfTest : (State.setPlinth s x).selfTest = s.selfTest := rfl
@[simp] theorem State.setPlinth_firmware : (State.setPlinth s x).firmware = s.firmware := rfl
@[simp] theorem State.setPlinth_freeCount : (State.setPlinth s x).freeCount = s.freeCount := rfl
@[simp] theorem State.setPlinth_staged : (State.setPlinth s x).staged = s.staged := rfl
@[simp] theorem State.setPlinth_timers : (State.setPlinth s x).timers = s.timers := rfl
@[simp] theorem State.setPlinth_pending : (State.setPlinth s x).pending = s.pending := rfl
@[simp] theorem State.setPlinth_word (q : Page) (off : Nat) : word (State.setPlinth s x) q off = word s q off := rfl
@[simp] theorem State.setPlinth_get (q : Page) (g : Field) : State.get (State.setPlinth s x) q g = s.get q g := rfl
@[simp] theorem State.setPlinth_flag (q : Page) (g : Field) : State.flag (State.setPlinth s x) q g = s.flag q g := rfl

end

/-! ## State.setCast -/

section

variable (s : State) (x : CastState)

@[simp] theorem State.setCast_regs : (State.setCast s x).regs = s.regs := rfl
@[simp] theorem State.setCast_latches : (State.setCast s x).latches = s.latches := rfl
@[simp] theorem State.setCast_answer : (State.setCast s x).answer = s.answer := rfl
@[simp] theorem State.setCast_hostReady : (State.setCast s x).hostReady = s.hostReady := rfl
@[simp] theorem State.setCast_journal : (State.setCast s x).journal = s.journal := rfl
@[simp] theorem State.setCast_evr : (State.setCast s x).evr = s.evr := rfl
@[simp] theorem State.setCast_msix : (State.setCast s x).msix = s.msix := rfl
@[simp] theorem State.setCast_semaphores : (State.setCast s x).semaphores = s.semaphores := rfl
@[simp] theorem State.setCast_pairMatches : (State.setCast s x).pairMatches = s.pairMatches := rfl
@[simp] theorem State.setCast_tickEvents : (State.setCast s x).tickEvents = s.tickEvents := rfl
@[simp] theorem State.setCast_nowNs : (State.setCast s x).nowNs = s.nowNs := rfl
@[simp] theorem State.setCast_elapsedNs : (State.setCast s x).elapsedNs = s.elapsedNs := rfl
@[simp] theorem State.setCast_framer : (State.setCast s x).framer = s.framer := rfl
@[simp] theorem State.setCast_fec : (State.setCast s x).fec = s.fec := rfl
@[simp] theorem State.setCast_cpc : (State.setCast s x).cpc = s.cpc := rfl
@[simp] theorem State.setCast_cipher : (State.setCast s x).cipher = s.cipher := rfl
@[simp] theorem State.setCast_hk : (State.setCast s x).hk = s.hk := rfl
@[simp] theorem State.setCast_aux : (State.setCast s x).aux = s.aux := rfl
@[simp] theorem State.setCast_cal : (State.setCast s x).cal = s.cal := rfl
@[simp] theorem State.setCast_txDsp : (State.setCast s x).txDsp = s.txDsp := rfl
@[simp] theorem State.setCast_txLane : (State.setCast s x).txLane = s.txLane := rfl
@[simp] theorem State.setCast_lineRx : (State.setCast s x).lineRx = s.lineRx := rfl
@[simp] theorem State.setCast_carrierRec : (State.setCast s x).carrierRec = s.carrierRec := rfl
@[simp] theorem State.setCast_demapper : (State.setCast s x).demapper = s.demapper := rfl
@[simp] theorem State.setCast_dispersion : (State.setCast s x).dispersion = s.dispersion := rfl
@[simp] theorem State.setCast_equaliser : (State.setCast s x).equaliser = s.equaliser := rfl
@[simp] theorem State.setCast_tunedN : (State.setCast s x).tunedN = s.tunedN := rfl
@[simp] theorem State.setCast_dsram : (State.setCast s x).dsram = s.dsram := rfl
@[simp] theorem State.setCast_optics : (State.setCast s x).optics = s.optics := rfl
@[simp] theorem State.setCast_qlt : (State.setCast s x).qlt = s.qlt := rfl
@[simp] theorem State.setCast_plinth : (State.setCast s x).plinth = s.plinth := rfl
@[simp] theorem State.setCast_keep : (State.setCast s x).keep = s.keep := rfl
@[simp] theorem State.setCast_archive : (State.setCast s x).archive = s.archive := rfl
@[simp] theorem State.setCast_rps : (State.setCast s x).rps = s.rps := rfl
@[simp] theorem State.setCast_tel : (State.setCast s x).tel = s.tel := rfl
@[simp] theorem State.setCast_cast : (State.setCast s x).cast = x := rfl
@[simp] theorem State.setCast_vddRequested : (State.setCast s x).vddRequested = s.vddRequested := rfl
@[simp] theorem State.setCast_checkers : (State.setCast s x).checkers = s.checkers := rfl
@[simp] theorem State.setCast_hostLink : (State.setCast s x).hostLink = s.hostLink := rfl
@[simp] theorem State.setCast_mbox : (State.setCast s x).mbox = s.mbox := rfl
@[simp] theorem State.setCast_memories : (State.setCast s x).memories = s.memories := rfl
@[simp] theorem State.setCast_isram : (State.setCast s x).isram = s.isram := rfl
@[simp] theorem State.setCast_cores : (State.setCast s x).cores = s.cores := rfl
@[simp] theorem State.setCast_images : (State.setCast s x).images = s.images := rfl
@[simp] theorem State.setCast_stepsDue : (State.setCast s x).stepsDue = s.stepsDue := rfl
@[simp] theorem State.setCast_samples : (State.setCast s x).samples = s.samples := rfl
@[simp] theorem State.setCast_pwrMgr : (State.setCast s x).pwrMgr = s.pwrMgr := rfl
@[simp] theorem State.setCast_timeBase : (State.setCast s x).timeBase = s.timeBase := rfl
@[simp] theorem State.setCast_selfTest : (State.setCast s x).selfTest = s.selfTest := rfl
@[simp] theorem State.setCast_firmware : (State.setCast s x).firmware = s.firmware := rfl
@[simp] theorem State.setCast_freeCount : (State.setCast s x).freeCount = s.freeCount := rfl
@[simp] theorem State.setCast_staged : (State.setCast s x).staged = s.staged := rfl
@[simp] theorem State.setCast_timers : (State.setCast s x).timers = s.timers := rfl
@[simp] theorem State.setCast_pending : (State.setCast s x).pending = s.pending := rfl
@[simp] theorem State.setCast_word (q : Page) (off : Nat) : word (State.setCast s x) q off = word s q off := rfl
@[simp] theorem State.setCast_get (q : Page) (g : Field) : State.get (State.setCast s x) q g = s.get q g := rfl
@[simp] theorem State.setCast_flag (q : Page) (g : Field) : State.flag (State.setCast s x) q g = s.flag q g := rfl

end

/-! ## State.setMem -/

section

variable (s : State) (x : Memories)

@[simp] theorem State.setMem_regs : (State.setMem s x).regs = s.regs := rfl
@[simp] theorem State.setMem_latches : (State.setMem s x).latches = s.latches := rfl
@[simp] theorem State.setMem_answer : (State.setMem s x).answer = s.answer := rfl
@[simp] theorem State.setMem_hostReady : (State.setMem s x).hostReady = s.hostReady := rfl
@[simp] theorem State.setMem_journal : (State.setMem s x).journal = s.journal := rfl
@[simp] theorem State.setMem_evr : (State.setMem s x).evr = s.evr := rfl
@[simp] theorem State.setMem_msix : (State.setMem s x).msix = s.msix := rfl
@[simp] theorem State.setMem_semaphores : (State.setMem s x).semaphores = s.semaphores := rfl
@[simp] theorem State.setMem_pairMatches : (State.setMem s x).pairMatches = s.pairMatches := rfl
@[simp] theorem State.setMem_tickEvents : (State.setMem s x).tickEvents = s.tickEvents := rfl
@[simp] theorem State.setMem_nowNs : (State.setMem s x).nowNs = s.nowNs := rfl
@[simp] theorem State.setMem_elapsedNs : (State.setMem s x).elapsedNs = s.elapsedNs := rfl
@[simp] theorem State.setMem_framer : (State.setMem s x).framer = s.framer := rfl
@[simp] theorem State.setMem_fec : (State.setMem s x).fec = s.fec := rfl
@[simp] theorem State.setMem_cpc : (State.setMem s x).cpc = s.cpc := rfl
@[simp] theorem State.setMem_cipher : (State.setMem s x).cipher = s.cipher := rfl
@[simp] theorem State.setMem_hk : (State.setMem s x).hk = s.hk := rfl
@[simp] theorem State.setMem_aux : (State.setMem s x).aux = s.aux := rfl
@[simp] theorem State.setMem_cal : (State.setMem s x).cal = s.cal := rfl
@[simp] theorem State.setMem_txDsp : (State.setMem s x).txDsp = s.txDsp := rfl
@[simp] theorem State.setMem_txLane : (State.setMem s x).txLane = s.txLane := rfl
@[simp] theorem State.setMem_lineRx : (State.setMem s x).lineRx = s.lineRx := rfl
@[simp] theorem State.setMem_carrierRec : (State.setMem s x).carrierRec = s.carrierRec := rfl
@[simp] theorem State.setMem_demapper : (State.setMem s x).demapper = s.demapper := rfl
@[simp] theorem State.setMem_dispersion : (State.setMem s x).dispersion = s.dispersion := rfl
@[simp] theorem State.setMem_equaliser : (State.setMem s x).equaliser = s.equaliser := rfl
@[simp] theorem State.setMem_tunedN : (State.setMem s x).tunedN = s.tunedN := rfl
@[simp] theorem State.setMem_dsram : (State.setMem s x).dsram = s.dsram := rfl
@[simp] theorem State.setMem_optics : (State.setMem s x).optics = s.optics := rfl
@[simp] theorem State.setMem_qlt : (State.setMem s x).qlt = s.qlt := rfl
@[simp] theorem State.setMem_plinth : (State.setMem s x).plinth = s.plinth := rfl
@[simp] theorem State.setMem_keep : (State.setMem s x).keep = s.keep := rfl
@[simp] theorem State.setMem_archive : (State.setMem s x).archive = s.archive := rfl
@[simp] theorem State.setMem_rps : (State.setMem s x).rps = s.rps := rfl
@[simp] theorem State.setMem_tel : (State.setMem s x).tel = s.tel := rfl
@[simp] theorem State.setMem_cast : (State.setMem s x).cast = s.cast := rfl
@[simp] theorem State.setMem_vddRequested : (State.setMem s x).vddRequested = s.vddRequested := rfl
@[simp] theorem State.setMem_checkers : (State.setMem s x).checkers = s.checkers := rfl
@[simp] theorem State.setMem_hostLink : (State.setMem s x).hostLink = s.hostLink := rfl
@[simp] theorem State.setMem_mbox : (State.setMem s x).mbox = s.mbox := rfl
@[simp] theorem State.setMem_memories : (State.setMem s x).memories = x := rfl
@[simp] theorem State.setMem_isram : (State.setMem s x).isram = s.isram := rfl
@[simp] theorem State.setMem_cores : (State.setMem s x).cores = s.cores := rfl
@[simp] theorem State.setMem_images : (State.setMem s x).images = s.images := rfl
@[simp] theorem State.setMem_stepsDue : (State.setMem s x).stepsDue = s.stepsDue := rfl
@[simp] theorem State.setMem_samples : (State.setMem s x).samples = s.samples := rfl
@[simp] theorem State.setMem_pwrMgr : (State.setMem s x).pwrMgr = s.pwrMgr := rfl
@[simp] theorem State.setMem_timeBase : (State.setMem s x).timeBase = s.timeBase := rfl
@[simp] theorem State.setMem_selfTest : (State.setMem s x).selfTest = s.selfTest := rfl
@[simp] theorem State.setMem_firmware : (State.setMem s x).firmware = s.firmware := rfl
@[simp] theorem State.setMem_freeCount : (State.setMem s x).freeCount = s.freeCount := rfl
@[simp] theorem State.setMem_staged : (State.setMem s x).staged = s.staged := rfl
@[simp] theorem State.setMem_timers : (State.setMem s x).timers = s.timers := rfl
@[simp] theorem State.setMem_pending : (State.setMem s x).pending = s.pending := rfl
@[simp] theorem State.setMem_word (q : Page) (off : Nat) : word (State.setMem s x) q off = word s q off := rfl
@[simp] theorem State.setMem_get (q : Page) (g : Field) : State.get (State.setMem s x) q g = s.get q g := rfl
@[simp] theorem State.setMem_flag (q : Page) (g : Field) : State.flag (State.setMem s x) q g = s.flag q g := rfl

end

/-! ## putChecker -/

section

variable (s : State) (n : Fin 16) (x : LaneChecker)

@[simp] theorem putChecker_regs : (putChecker s n x).regs = s.regs := rfl
@[simp] theorem putChecker_latches : (putChecker s n x).latches = s.latches := rfl
@[simp] theorem putChecker_answer : (putChecker s n x).answer = s.answer := rfl
@[simp] theorem putChecker_hostReady : (putChecker s n x).hostReady = s.hostReady := rfl
@[simp] theorem putChecker_journal : (putChecker s n x).journal = s.journal := rfl
@[simp] theorem putChecker_evr : (putChecker s n x).evr = s.evr := rfl
@[simp] theorem putChecker_msix : (putChecker s n x).msix = s.msix := rfl
@[simp] theorem putChecker_semaphores : (putChecker s n x).semaphores = s.semaphores := rfl
@[simp] theorem putChecker_pairMatches : (putChecker s n x).pairMatches = s.pairMatches := rfl
@[simp] theorem putChecker_tickEvents : (putChecker s n x).tickEvents = s.tickEvents := rfl
@[simp] theorem putChecker_nowNs : (putChecker s n x).nowNs = s.nowNs := rfl
@[simp] theorem putChecker_elapsedNs : (putChecker s n x).elapsedNs = s.elapsedNs := rfl
@[simp] theorem putChecker_framer : (putChecker s n x).framer = s.framer := rfl
@[simp] theorem putChecker_fec : (putChecker s n x).fec = s.fec := rfl
@[simp] theorem putChecker_cpc : (putChecker s n x).cpc = s.cpc := rfl
@[simp] theorem putChecker_cipher : (putChecker s n x).cipher = s.cipher := rfl
@[simp] theorem putChecker_hk : (putChecker s n x).hk = s.hk := rfl
@[simp] theorem putChecker_aux : (putChecker s n x).aux = s.aux := rfl
@[simp] theorem putChecker_cal : (putChecker s n x).cal = s.cal := rfl
@[simp] theorem putChecker_txDsp : (putChecker s n x).txDsp = s.txDsp := rfl
@[simp] theorem putChecker_txLane : (putChecker s n x).txLane = s.txLane := rfl
@[simp] theorem putChecker_lineRx : (putChecker s n x).lineRx = s.lineRx := rfl
@[simp] theorem putChecker_carrierRec : (putChecker s n x).carrierRec = s.carrierRec := rfl
@[simp] theorem putChecker_demapper : (putChecker s n x).demapper = s.demapper := rfl
@[simp] theorem putChecker_dispersion : (putChecker s n x).dispersion = s.dispersion := rfl
@[simp] theorem putChecker_equaliser : (putChecker s n x).equaliser = s.equaliser := rfl
@[simp] theorem putChecker_tunedN : (putChecker s n x).tunedN = s.tunedN := rfl
@[simp] theorem putChecker_dsram : (putChecker s n x).dsram = s.dsram := rfl
@[simp] theorem putChecker_optics : (putChecker s n x).optics = s.optics := rfl
@[simp] theorem putChecker_qlt : (putChecker s n x).qlt = s.qlt := rfl
@[simp] theorem putChecker_plinth : (putChecker s n x).plinth = s.plinth := rfl
@[simp] theorem putChecker_keep : (putChecker s n x).keep = s.keep := rfl
@[simp] theorem putChecker_archive : (putChecker s n x).archive = s.archive := rfl
@[simp] theorem putChecker_rps : (putChecker s n x).rps = s.rps := rfl
@[simp] theorem putChecker_tel : (putChecker s n x).tel = s.tel := rfl
@[simp] theorem putChecker_cast : (putChecker s n x).cast = s.cast := rfl
@[simp] theorem putChecker_vddRequested : (putChecker s n x).vddRequested = s.vddRequested := rfl
@[simp] theorem putChecker_checkers : (putChecker s n x).checkers = s.checkers.set n x := rfl
@[simp] theorem putChecker_hostLink : (putChecker s n x).hostLink = s.hostLink := rfl
@[simp] theorem putChecker_mbox : (putChecker s n x).mbox = s.mbox := rfl
@[simp] theorem putChecker_memories : (putChecker s n x).memories = s.memories := rfl
@[simp] theorem putChecker_isram : (putChecker s n x).isram = s.isram := rfl
@[simp] theorem putChecker_cores : (putChecker s n x).cores = s.cores := rfl
@[simp] theorem putChecker_images : (putChecker s n x).images = s.images := rfl
@[simp] theorem putChecker_stepsDue : (putChecker s n x).stepsDue = s.stepsDue := rfl
@[simp] theorem putChecker_samples : (putChecker s n x).samples = s.samples := rfl
@[simp] theorem putChecker_pwrMgr : (putChecker s n x).pwrMgr = s.pwrMgr := rfl
@[simp] theorem putChecker_timeBase : (putChecker s n x).timeBase = s.timeBase := rfl
@[simp] theorem putChecker_selfTest : (putChecker s n x).selfTest = s.selfTest := rfl
@[simp] theorem putChecker_firmware : (putChecker s n x).firmware = s.firmware := rfl
@[simp] theorem putChecker_freeCount : (putChecker s n x).freeCount = s.freeCount := rfl
@[simp] theorem putChecker_staged : (putChecker s n x).staged = s.staged := rfl
@[simp] theorem putChecker_timers : (putChecker s n x).timers = s.timers := rfl
@[simp] theorem putChecker_pending : (putChecker s n x).pending = s.pending := rfl
@[simp] theorem putChecker_word (q : Page) (off : Nat) : word (putChecker s n x) q off = word s q off := rfl
@[simp] theorem putChecker_get (q : Page) (g : Field) : State.get (putChecker s n x) q g = s.get q g := rfl
@[simp] theorem putChecker_flag (q : Page) (g : Field) : State.flag (putChecker s n x) q g = s.flag q g := rfl

end

/-! ## State.setHost -/

section

variable (s : State) (x : HostLink)

@[simp] theorem State.setHost_regs : (State.setHost s x).regs = s.regs := rfl
@[simp] theorem State.setHost_latches : (State.setHost s x).latches = s.latches := rfl
@[simp] theorem State.setHost_answer : (State.setHost s x).answer = s.answer := rfl
@[simp] theorem State.setHost_hostReady : (State.setHost s x).hostReady = s.hostReady := rfl
@[simp] theorem State.setHost_journal : (State.setHost s x).journal = s.journal := rfl
@[simp] theorem State.setHost_evr : (State.setHost s x).evr = s.evr := rfl
@[simp] theorem State.setHost_msix : (State.setHost s x).msix = s.msix := rfl
@[simp] theorem State.setHost_semaphores : (State.setHost s x).semaphores = s.semaphores := rfl
@[simp] theorem State.setHost_pairMatches : (State.setHost s x).pairMatches = s.pairMatches := rfl
@[simp] theorem State.setHost_tickEvents : (State.setHost s x).tickEvents = s.tickEvents := rfl
@[simp] theorem State.setHost_nowNs : (State.setHost s x).nowNs = s.nowNs := rfl
@[simp] theorem State.setHost_elapsedNs : (State.setHost s x).elapsedNs = s.elapsedNs := rfl
@[simp] theorem State.setHost_framer : (State.setHost s x).framer = s.framer := rfl
@[simp] theorem State.setHost_fec : (State.setHost s x).fec = s.fec := rfl
@[simp] theorem State.setHost_cpc : (State.setHost s x).cpc = s.cpc := rfl
@[simp] theorem State.setHost_cipher : (State.setHost s x).cipher = s.cipher := rfl
@[simp] theorem State.setHost_hk : (State.setHost s x).hk = s.hk := rfl
@[simp] theorem State.setHost_aux : (State.setHost s x).aux = s.aux := rfl
@[simp] theorem State.setHost_cal : (State.setHost s x).cal = s.cal := rfl
@[simp] theorem State.setHost_txDsp : (State.setHost s x).txDsp = s.txDsp := rfl
@[simp] theorem State.setHost_txLane : (State.setHost s x).txLane = s.txLane := rfl
@[simp] theorem State.setHost_lineRx : (State.setHost s x).lineRx = s.lineRx := rfl
@[simp] theorem State.setHost_carrierRec : (State.setHost s x).carrierRec = s.carrierRec := rfl
@[simp] theorem State.setHost_demapper : (State.setHost s x).demapper = s.demapper := rfl
@[simp] theorem State.setHost_dispersion : (State.setHost s x).dispersion = s.dispersion := rfl
@[simp] theorem State.setHost_equaliser : (State.setHost s x).equaliser = s.equaliser := rfl
@[simp] theorem State.setHost_tunedN : (State.setHost s x).tunedN = s.tunedN := rfl
@[simp] theorem State.setHost_dsram : (State.setHost s x).dsram = s.dsram := rfl
@[simp] theorem State.setHost_optics : (State.setHost s x).optics = s.optics := rfl
@[simp] theorem State.setHost_qlt : (State.setHost s x).qlt = s.qlt := rfl
@[simp] theorem State.setHost_plinth : (State.setHost s x).plinth = s.plinth := rfl
@[simp] theorem State.setHost_keep : (State.setHost s x).keep = s.keep := rfl
@[simp] theorem State.setHost_archive : (State.setHost s x).archive = s.archive := rfl
@[simp] theorem State.setHost_rps : (State.setHost s x).rps = s.rps := rfl
@[simp] theorem State.setHost_tel : (State.setHost s x).tel = s.tel := rfl
@[simp] theorem State.setHost_cast : (State.setHost s x).cast = s.cast := rfl
@[simp] theorem State.setHost_vddRequested : (State.setHost s x).vddRequested = s.vddRequested := rfl
@[simp] theorem State.setHost_checkers : (State.setHost s x).checkers = s.checkers := rfl
@[simp] theorem State.setHost_hostLink : (State.setHost s x).hostLink = x := rfl
@[simp] theorem State.setHost_mbox : (State.setHost s x).mbox = s.mbox := rfl
@[simp] theorem State.setHost_memories : (State.setHost s x).memories = s.memories := rfl
@[simp] theorem State.setHost_isram : (State.setHost s x).isram = s.isram := rfl
@[simp] theorem State.setHost_cores : (State.setHost s x).cores = s.cores := rfl
@[simp] theorem State.setHost_images : (State.setHost s x).images = s.images := rfl
@[simp] theorem State.setHost_stepsDue : (State.setHost s x).stepsDue = s.stepsDue := rfl
@[simp] theorem State.setHost_samples : (State.setHost s x).samples = s.samples := rfl
@[simp] theorem State.setHost_pwrMgr : (State.setHost s x).pwrMgr = s.pwrMgr := rfl
@[simp] theorem State.setHost_timeBase : (State.setHost s x).timeBase = s.timeBase := rfl
@[simp] theorem State.setHost_selfTest : (State.setHost s x).selfTest = s.selfTest := rfl
@[simp] theorem State.setHost_firmware : (State.setHost s x).firmware = s.firmware := rfl
@[simp] theorem State.setHost_freeCount : (State.setHost s x).freeCount = s.freeCount := rfl
@[simp] theorem State.setHost_staged : (State.setHost s x).staged = s.staged := rfl
@[simp] theorem State.setHost_timers : (State.setHost s x).timers = s.timers := rfl
@[simp] theorem State.setHost_pending : (State.setHost s x).pending = s.pending := rfl
@[simp] theorem State.setHost_word (q : Page) (off : Nat) : word (State.setHost s x) q off = word s q off := rfl
@[simp] theorem State.setHost_get (q : Page) (g : Field) : State.get (State.setHost s x) q g = s.get q g := rfl
@[simp] theorem State.setHost_flag (q : Page) (g : Field) : State.flag (State.setHost s x) q g = s.flag q g := rfl

end

/-! ## State.setBst -/

section

variable (s : State) (x : SelfTest)

@[simp] theorem State.setBst_regs : (State.setBst s x).regs = s.regs := rfl
@[simp] theorem State.setBst_latches : (State.setBst s x).latches = s.latches := rfl
@[simp] theorem State.setBst_answer : (State.setBst s x).answer = s.answer := rfl
@[simp] theorem State.setBst_hostReady : (State.setBst s x).hostReady = s.hostReady := rfl
@[simp] theorem State.setBst_journal : (State.setBst s x).journal = s.journal := rfl
@[simp] theorem State.setBst_evr : (State.setBst s x).evr = s.evr := rfl
@[simp] theorem State.setBst_msix : (State.setBst s x).msix = s.msix := rfl
@[simp] theorem State.setBst_semaphores : (State.setBst s x).semaphores = s.semaphores := rfl
@[simp] theorem State.setBst_pairMatches : (State.setBst s x).pairMatches = s.pairMatches := rfl
@[simp] theorem State.setBst_tickEvents : (State.setBst s x).tickEvents = s.tickEvents := rfl
@[simp] theorem State.setBst_nowNs : (State.setBst s x).nowNs = s.nowNs := rfl
@[simp] theorem State.setBst_elapsedNs : (State.setBst s x).elapsedNs = s.elapsedNs := rfl
@[simp] theorem State.setBst_framer : (State.setBst s x).framer = s.framer := rfl
@[simp] theorem State.setBst_fec : (State.setBst s x).fec = s.fec := rfl
@[simp] theorem State.setBst_cpc : (State.setBst s x).cpc = s.cpc := rfl
@[simp] theorem State.setBst_cipher : (State.setBst s x).cipher = s.cipher := rfl
@[simp] theorem State.setBst_hk : (State.setBst s x).hk = s.hk := rfl
@[simp] theorem State.setBst_aux : (State.setBst s x).aux = s.aux := rfl
@[simp] theorem State.setBst_cal : (State.setBst s x).cal = s.cal := rfl
@[simp] theorem State.setBst_txDsp : (State.setBst s x).txDsp = s.txDsp := rfl
@[simp] theorem State.setBst_txLane : (State.setBst s x).txLane = s.txLane := rfl
@[simp] theorem State.setBst_lineRx : (State.setBst s x).lineRx = s.lineRx := rfl
@[simp] theorem State.setBst_carrierRec : (State.setBst s x).carrierRec = s.carrierRec := rfl
@[simp] theorem State.setBst_demapper : (State.setBst s x).demapper = s.demapper := rfl
@[simp] theorem State.setBst_dispersion : (State.setBst s x).dispersion = s.dispersion := rfl
@[simp] theorem State.setBst_equaliser : (State.setBst s x).equaliser = s.equaliser := rfl
@[simp] theorem State.setBst_tunedN : (State.setBst s x).tunedN = s.tunedN := rfl
@[simp] theorem State.setBst_dsram : (State.setBst s x).dsram = s.dsram := rfl
@[simp] theorem State.setBst_optics : (State.setBst s x).optics = s.optics := rfl
@[simp] theorem State.setBst_qlt : (State.setBst s x).qlt = s.qlt := rfl
@[simp] theorem State.setBst_plinth : (State.setBst s x).plinth = s.plinth := rfl
@[simp] theorem State.setBst_keep : (State.setBst s x).keep = s.keep := rfl
@[simp] theorem State.setBst_archive : (State.setBst s x).archive = s.archive := rfl
@[simp] theorem State.setBst_rps : (State.setBst s x).rps = s.rps := rfl
@[simp] theorem State.setBst_tel : (State.setBst s x).tel = s.tel := rfl
@[simp] theorem State.setBst_cast : (State.setBst s x).cast = s.cast := rfl
@[simp] theorem State.setBst_vddRequested : (State.setBst s x).vddRequested = s.vddRequested := rfl
@[simp] theorem State.setBst_checkers : (State.setBst s x).checkers = s.checkers := rfl
@[simp] theorem State.setBst_hostLink : (State.setBst s x).hostLink = s.hostLink := rfl
@[simp] theorem State.setBst_mbox : (State.setBst s x).mbox = s.mbox := rfl
@[simp] theorem State.setBst_memories : (State.setBst s x).memories = s.memories := rfl
@[simp] theorem State.setBst_isram : (State.setBst s x).isram = s.isram := rfl
@[simp] theorem State.setBst_cores : (State.setBst s x).cores = s.cores := rfl
@[simp] theorem State.setBst_images : (State.setBst s x).images = s.images := rfl
@[simp] theorem State.setBst_stepsDue : (State.setBst s x).stepsDue = s.stepsDue := rfl
@[simp] theorem State.setBst_samples : (State.setBst s x).samples = s.samples := rfl
@[simp] theorem State.setBst_pwrMgr : (State.setBst s x).pwrMgr = s.pwrMgr := rfl
@[simp] theorem State.setBst_timeBase : (State.setBst s x).timeBase = s.timeBase := rfl
@[simp] theorem State.setBst_selfTest : (State.setBst s x).selfTest = x := rfl
@[simp] theorem State.setBst_firmware : (State.setBst s x).firmware = s.firmware := rfl
@[simp] theorem State.setBst_freeCount : (State.setBst s x).freeCount = s.freeCount := rfl
@[simp] theorem State.setBst_staged : (State.setBst s x).staged = s.staged := rfl
@[simp] theorem State.setBst_timers : (State.setBst s x).timers = s.timers := rfl
@[simp] theorem State.setBst_pending : (State.setBst s x).pending = s.pending := rfl
@[simp] theorem State.setBst_word (q : Page) (off : Nat) : word (State.setBst s x) q off = word s q off := rfl
@[simp] theorem State.setBst_get (q : Page) (g : Field) : State.get (State.setBst s x) q g = s.get q g := rfl
@[simp] theorem State.setBst_flag (q : Page) (g : Field) : State.flag (State.setBst s x) q g = s.flag q g := rfl

end

/-! ## putStep -/

section

variable (s : State) (c : Carrier) (x : StepRecord)

@[simp] theorem putStep_regs : (putStep s c x).regs = s.regs := rfl
@[simp] theorem putStep_latches : (putStep s c x).latches = s.latches := rfl
@[simp] theorem putStep_answer : (putStep s c x).answer = s.answer := rfl
@[simp] theorem putStep_hostReady : (putStep s c x).hostReady = s.hostReady := rfl
@[simp] theorem putStep_journal : (putStep s c x).journal = s.journal := rfl
@[simp] theorem putStep_evr : (putStep s c x).evr = s.evr := rfl
@[simp] theorem putStep_msix : (putStep s c x).msix = s.msix := rfl
@[simp] theorem putStep_semaphores : (putStep s c x).semaphores = s.semaphores := rfl
@[simp] theorem putStep_pairMatches : (putStep s c x).pairMatches = s.pairMatches := rfl
@[simp] theorem putStep_tickEvents : (putStep s c x).tickEvents = s.tickEvents := rfl
@[simp] theorem putStep_nowNs : (putStep s c x).nowNs = s.nowNs := rfl
@[simp] theorem putStep_elapsedNs : (putStep s c x).elapsedNs = s.elapsedNs := rfl
@[simp] theorem putStep_framer : (putStep s c x).framer = s.framer := rfl
@[simp] theorem putStep_fec : (putStep s c x).fec = s.fec := rfl
@[simp] theorem putStep_cpc : (putStep s c x).cpc = s.cpc := rfl
@[simp] theorem putStep_cipher : (putStep s c x).cipher = s.cipher := rfl
@[simp] theorem putStep_hk : (putStep s c x).hk = s.hk := rfl
@[simp] theorem putStep_aux : (putStep s c x).aux = s.aux := rfl
@[simp] theorem putStep_cal : (putStep s c x).cal = s.cal := rfl
@[simp] theorem putStep_txDsp : (putStep s c x).txDsp = s.txDsp := rfl
@[simp] theorem putStep_txLane : (putStep s c x).txLane = s.txLane := rfl
@[simp] theorem putStep_lineRx : (putStep s c x).lineRx = s.lineRx := rfl
@[simp] theorem putStep_carrierRec : (putStep s c x).carrierRec = s.carrierRec := rfl
@[simp] theorem putStep_demapper : (putStep s c x).demapper = s.demapper := rfl
@[simp] theorem putStep_dispersion : (putStep s c x).dispersion = s.dispersion := rfl
@[simp] theorem putStep_equaliser : (putStep s c x).equaliser = s.equaliser := rfl
@[simp] theorem putStep_tunedN : (putStep s c x).tunedN = s.tunedN := rfl
@[simp] theorem putStep_dsram : (putStep s c x).dsram = s.dsram := rfl
@[simp] theorem putStep_optics : (putStep s c x).optics = s.optics := rfl
@[simp] theorem putStep_qlt : (putStep s c x).qlt = { s.qlt with steps := s.qlt.steps.set c x } := rfl
@[simp] theorem putStep_plinth : (putStep s c x).plinth = s.plinth := rfl
@[simp] theorem putStep_keep : (putStep s c x).keep = s.keep := rfl
@[simp] theorem putStep_archive : (putStep s c x).archive = s.archive := rfl
@[simp] theorem putStep_rps : (putStep s c x).rps = s.rps := rfl
@[simp] theorem putStep_tel : (putStep s c x).tel = s.tel := rfl
@[simp] theorem putStep_cast : (putStep s c x).cast = s.cast := rfl
@[simp] theorem putStep_vddRequested : (putStep s c x).vddRequested = s.vddRequested := rfl
@[simp] theorem putStep_checkers : (putStep s c x).checkers = s.checkers := rfl
@[simp] theorem putStep_hostLink : (putStep s c x).hostLink = s.hostLink := rfl
@[simp] theorem putStep_mbox : (putStep s c x).mbox = s.mbox := rfl
@[simp] theorem putStep_memories : (putStep s c x).memories = s.memories := rfl
@[simp] theorem putStep_isram : (putStep s c x).isram = s.isram := rfl
@[simp] theorem putStep_cores : (putStep s c x).cores = s.cores := rfl
@[simp] theorem putStep_images : (putStep s c x).images = s.images := rfl
@[simp] theorem putStep_stepsDue : (putStep s c x).stepsDue = s.stepsDue := rfl
@[simp] theorem putStep_samples : (putStep s c x).samples = s.samples := rfl
@[simp] theorem putStep_pwrMgr : (putStep s c x).pwrMgr = s.pwrMgr := rfl
@[simp] theorem putStep_timeBase : (putStep s c x).timeBase = s.timeBase := rfl
@[simp] theorem putStep_selfTest : (putStep s c x).selfTest = s.selfTest := rfl
@[simp] theorem putStep_firmware : (putStep s c x).firmware = s.firmware := rfl
@[simp] theorem putStep_freeCount : (putStep s c x).freeCount = s.freeCount := rfl
@[simp] theorem putStep_staged : (putStep s c x).staged = s.staged := rfl
@[simp] theorem putStep_timers : (putStep s c x).timers = s.timers := rfl
@[simp] theorem putStep_pending : (putStep s c x).pending = s.pending := rfl
@[simp] theorem putStep_word (q : Page) (off : Nat) : word (putStep s c x) q off = word s q off := rfl
@[simp] theorem putStep_get (q : Page) (g : Field) : State.get (putStep s c x) q g = s.get q g := rfl
@[simp] theorem putStep_flag (q : Page) (g : Field) : State.flag (putStep s c x) q g = s.flag q g := rfl

end

/-! ## setDemapper -/

section

variable (s : State) (c : Carrier) (x : Demapper)

@[simp] theorem setDemapper_regs : (setDemapper s c x).regs = s.regs := rfl
@[simp] theorem setDemapper_latches : (setDemapper s c x).latches = s.latches := rfl
@[simp] theorem setDemapper_answer : (setDemapper s c x).answer = s.answer := rfl
@[simp] theorem setDemapper_hostReady : (setDemapper s c x).hostReady = s.hostReady := rfl
@[simp] theorem setDemapper_journal : (setDemapper s c x).journal = s.journal := rfl
@[simp] theorem setDemapper_evr : (setDemapper s c x).evr = s.evr := rfl
@[simp] theorem setDemapper_msix : (setDemapper s c x).msix = s.msix := rfl
@[simp] theorem setDemapper_semaphores : (setDemapper s c x).semaphores = s.semaphores := rfl
@[simp] theorem setDemapper_pairMatches : (setDemapper s c x).pairMatches = s.pairMatches := rfl
@[simp] theorem setDemapper_tickEvents : (setDemapper s c x).tickEvents = s.tickEvents := rfl
@[simp] theorem setDemapper_nowNs : (setDemapper s c x).nowNs = s.nowNs := rfl
@[simp] theorem setDemapper_elapsedNs : (setDemapper s c x).elapsedNs = s.elapsedNs := rfl
@[simp] theorem setDemapper_framer : (setDemapper s c x).framer = s.framer := rfl
@[simp] theorem setDemapper_fec : (setDemapper s c x).fec = s.fec := rfl
@[simp] theorem setDemapper_cpc : (setDemapper s c x).cpc = s.cpc := rfl
@[simp] theorem setDemapper_cipher : (setDemapper s c x).cipher = s.cipher := rfl
@[simp] theorem setDemapper_hk : (setDemapper s c x).hk = s.hk := rfl
@[simp] theorem setDemapper_aux : (setDemapper s c x).aux = s.aux := rfl
@[simp] theorem setDemapper_cal : (setDemapper s c x).cal = s.cal := rfl
@[simp] theorem setDemapper_txDsp : (setDemapper s c x).txDsp = s.txDsp := rfl
@[simp] theorem setDemapper_txLane : (setDemapper s c x).txLane = s.txLane := rfl
@[simp] theorem setDemapper_lineRx : (setDemapper s c x).lineRx = s.lineRx := rfl
@[simp] theorem setDemapper_carrierRec : (setDemapper s c x).carrierRec = s.carrierRec := rfl
@[simp] theorem setDemapper_demapper : (setDemapper s c x).demapper = s.demapper.set c x := rfl
@[simp] theorem setDemapper_dispersion : (setDemapper s c x).dispersion = s.dispersion := rfl
@[simp] theorem setDemapper_equaliser : (setDemapper s c x).equaliser = s.equaliser := rfl
@[simp] theorem setDemapper_tunedN : (setDemapper s c x).tunedN = s.tunedN := rfl
@[simp] theorem setDemapper_dsram : (setDemapper s c x).dsram = s.dsram := rfl
@[simp] theorem setDemapper_optics : (setDemapper s c x).optics = s.optics := rfl
@[simp] theorem setDemapper_qlt : (setDemapper s c x).qlt = s.qlt := rfl
@[simp] theorem setDemapper_plinth : (setDemapper s c x).plinth = s.plinth := rfl
@[simp] theorem setDemapper_keep : (setDemapper s c x).keep = s.keep := rfl
@[simp] theorem setDemapper_archive : (setDemapper s c x).archive = s.archive := rfl
@[simp] theorem setDemapper_rps : (setDemapper s c x).rps = s.rps := rfl
@[simp] theorem setDemapper_tel : (setDemapper s c x).tel = s.tel := rfl
@[simp] theorem setDemapper_cast : (setDemapper s c x).cast = s.cast := rfl
@[simp] theorem setDemapper_vddRequested : (setDemapper s c x).vddRequested = s.vddRequested := rfl
@[simp] theorem setDemapper_checkers : (setDemapper s c x).checkers = s.checkers := rfl
@[simp] theorem setDemapper_hostLink : (setDemapper s c x).hostLink = s.hostLink := rfl
@[simp] theorem setDemapper_mbox : (setDemapper s c x).mbox = s.mbox := rfl
@[simp] theorem setDemapper_memories : (setDemapper s c x).memories = s.memories := rfl
@[simp] theorem setDemapper_isram : (setDemapper s c x).isram = s.isram := rfl
@[simp] theorem setDemapper_cores : (setDemapper s c x).cores = s.cores := rfl
@[simp] theorem setDemapper_images : (setDemapper s c x).images = s.images := rfl
@[simp] theorem setDemapper_stepsDue : (setDemapper s c x).stepsDue = s.stepsDue := rfl
@[simp] theorem setDemapper_samples : (setDemapper s c x).samples = s.samples := rfl
@[simp] theorem setDemapper_pwrMgr : (setDemapper s c x).pwrMgr = s.pwrMgr := rfl
@[simp] theorem setDemapper_timeBase : (setDemapper s c x).timeBase = s.timeBase := rfl
@[simp] theorem setDemapper_selfTest : (setDemapper s c x).selfTest = s.selfTest := rfl
@[simp] theorem setDemapper_firmware : (setDemapper s c x).firmware = s.firmware := rfl
@[simp] theorem setDemapper_freeCount : (setDemapper s c x).freeCount = s.freeCount := rfl
@[simp] theorem setDemapper_staged : (setDemapper s c x).staged = s.staged := rfl
@[simp] theorem setDemapper_timers : (setDemapper s c x).timers = s.timers := rfl
@[simp] theorem setDemapper_pending : (setDemapper s c x).pending = s.pending := rfl
@[simp] theorem setDemapper_word (q : Page) (off : Nat) : word (setDemapper s c x) q off = word s q off := rfl
@[simp] theorem setDemapper_get (q : Page) (g : Field) : State.get (setDemapper s c x) q g = s.get q g := rfl
@[simp] theorem setDemapper_flag (q : Page) (g : Field) : State.flag (setDemapper s c x) q g = s.flag q g := rfl

end

/-! ## setRec -/

section

variable (s : State) (c : Carrier) (x : CarrierRec)

@[simp] theorem setRec_regs : (setRec s c x).regs = s.regs := rfl
@[simp] theorem setRec_latches : (setRec s c x).latches = s.latches := rfl
@[simp] theorem setRec_answer : (setRec s c x).answer = s.answer := rfl
@[simp] theorem setRec_hostReady : (setRec s c x).hostReady = s.hostReady := rfl
@[simp] theorem setRec_journal : (setRec s c x).journal = s.journal := rfl
@[simp] theorem setRec_evr : (setRec s c x).evr = s.evr := rfl
@[simp] theorem setRec_msix : (setRec s c x).msix = s.msix := rfl
@[simp] theorem setRec_semaphores : (setRec s c x).semaphores = s.semaphores := rfl
@[simp] theorem setRec_pairMatches : (setRec s c x).pairMatches = s.pairMatches := rfl
@[simp] theorem setRec_tickEvents : (setRec s c x).tickEvents = s.tickEvents := rfl
@[simp] theorem setRec_nowNs : (setRec s c x).nowNs = s.nowNs := rfl
@[simp] theorem setRec_elapsedNs : (setRec s c x).elapsedNs = s.elapsedNs := rfl
@[simp] theorem setRec_framer : (setRec s c x).framer = s.framer := rfl
@[simp] theorem setRec_fec : (setRec s c x).fec = s.fec := rfl
@[simp] theorem setRec_cpc : (setRec s c x).cpc = s.cpc := rfl
@[simp] theorem setRec_cipher : (setRec s c x).cipher = s.cipher := rfl
@[simp] theorem setRec_hk : (setRec s c x).hk = s.hk := rfl
@[simp] theorem setRec_aux : (setRec s c x).aux = s.aux := rfl
@[simp] theorem setRec_cal : (setRec s c x).cal = s.cal := rfl
@[simp] theorem setRec_txDsp : (setRec s c x).txDsp = s.txDsp := rfl
@[simp] theorem setRec_txLane : (setRec s c x).txLane = s.txLane := rfl
@[simp] theorem setRec_lineRx : (setRec s c x).lineRx = s.lineRx := rfl
@[simp] theorem setRec_carrierRec : (setRec s c x).carrierRec = s.carrierRec.set c x := rfl
@[simp] theorem setRec_demapper : (setRec s c x).demapper = s.demapper := rfl
@[simp] theorem setRec_dispersion : (setRec s c x).dispersion = s.dispersion := rfl
@[simp] theorem setRec_equaliser : (setRec s c x).equaliser = s.equaliser := rfl
@[simp] theorem setRec_tunedN : (setRec s c x).tunedN = s.tunedN := rfl
@[simp] theorem setRec_dsram : (setRec s c x).dsram = s.dsram := rfl
@[simp] theorem setRec_optics : (setRec s c x).optics = s.optics := rfl
@[simp] theorem setRec_qlt : (setRec s c x).qlt = s.qlt := rfl
@[simp] theorem setRec_plinth : (setRec s c x).plinth = s.plinth := rfl
@[simp] theorem setRec_keep : (setRec s c x).keep = s.keep := rfl
@[simp] theorem setRec_archive : (setRec s c x).archive = s.archive := rfl
@[simp] theorem setRec_rps : (setRec s c x).rps = s.rps := rfl
@[simp] theorem setRec_tel : (setRec s c x).tel = s.tel := rfl
@[simp] theorem setRec_cast : (setRec s c x).cast = s.cast := rfl
@[simp] theorem setRec_vddRequested : (setRec s c x).vddRequested = s.vddRequested := rfl
@[simp] theorem setRec_checkers : (setRec s c x).checkers = s.checkers := rfl
@[simp] theorem setRec_hostLink : (setRec s c x).hostLink = s.hostLink := rfl
@[simp] theorem setRec_mbox : (setRec s c x).mbox = s.mbox := rfl
@[simp] theorem setRec_memories : (setRec s c x).memories = s.memories := rfl
@[simp] theorem setRec_isram : (setRec s c x).isram = s.isram := rfl
@[simp] theorem setRec_cores : (setRec s c x).cores = s.cores := rfl
@[simp] theorem setRec_images : (setRec s c x).images = s.images := rfl
@[simp] theorem setRec_stepsDue : (setRec s c x).stepsDue = s.stepsDue := rfl
@[simp] theorem setRec_samples : (setRec s c x).samples = s.samples := rfl
@[simp] theorem setRec_pwrMgr : (setRec s c x).pwrMgr = s.pwrMgr := rfl
@[simp] theorem setRec_timeBase : (setRec s c x).timeBase = s.timeBase := rfl
@[simp] theorem setRec_selfTest : (setRec s c x).selfTest = s.selfTest := rfl
@[simp] theorem setRec_firmware : (setRec s c x).firmware = s.firmware := rfl
@[simp] theorem setRec_freeCount : (setRec s c x).freeCount = s.freeCount := rfl
@[simp] theorem setRec_staged : (setRec s c x).staged = s.staged := rfl
@[simp] theorem setRec_timers : (setRec s c x).timers = s.timers := rfl
@[simp] theorem setRec_pending : (setRec s c x).pending = s.pending := rfl
@[simp] theorem setRec_word (q : Page) (off : Nat) : word (setRec s c x) q off = word s q off := rfl
@[simp] theorem setRec_get (q : Page) (g : Field) : State.get (setRec s c x) q g = s.get q g := rfl
@[simp] theorem setRec_flag (q : Page) (g : Field) : State.flag (setRec s c x) q g = s.flag q g := rfl

end

/-! ## setDispersion -/

section

variable (s : State) (c : Carrier) (x : Dispersion)

@[simp] theorem setDispersion_regs : (setDispersion s c x).regs = s.regs := rfl
@[simp] theorem setDispersion_latches : (setDispersion s c x).latches = s.latches := rfl
@[simp] theorem setDispersion_answer : (setDispersion s c x).answer = s.answer := rfl
@[simp] theorem setDispersion_hostReady : (setDispersion s c x).hostReady = s.hostReady := rfl
@[simp] theorem setDispersion_journal : (setDispersion s c x).journal = s.journal := rfl
@[simp] theorem setDispersion_evr : (setDispersion s c x).evr = s.evr := rfl
@[simp] theorem setDispersion_msix : (setDispersion s c x).msix = s.msix := rfl
@[simp] theorem setDispersion_semaphores : (setDispersion s c x).semaphores = s.semaphores := rfl
@[simp] theorem setDispersion_pairMatches : (setDispersion s c x).pairMatches = s.pairMatches := rfl
@[simp] theorem setDispersion_tickEvents : (setDispersion s c x).tickEvents = s.tickEvents := rfl
@[simp] theorem setDispersion_nowNs : (setDispersion s c x).nowNs = s.nowNs := rfl
@[simp] theorem setDispersion_elapsedNs : (setDispersion s c x).elapsedNs = s.elapsedNs := rfl
@[simp] theorem setDispersion_framer : (setDispersion s c x).framer = s.framer := rfl
@[simp] theorem setDispersion_fec : (setDispersion s c x).fec = s.fec := rfl
@[simp] theorem setDispersion_cpc : (setDispersion s c x).cpc = s.cpc := rfl
@[simp] theorem setDispersion_cipher : (setDispersion s c x).cipher = s.cipher := rfl
@[simp] theorem setDispersion_hk : (setDispersion s c x).hk = s.hk := rfl
@[simp] theorem setDispersion_aux : (setDispersion s c x).aux = s.aux := rfl
@[simp] theorem setDispersion_cal : (setDispersion s c x).cal = s.cal := rfl
@[simp] theorem setDispersion_txDsp : (setDispersion s c x).txDsp = s.txDsp := rfl
@[simp] theorem setDispersion_txLane : (setDispersion s c x).txLane = s.txLane := rfl
@[simp] theorem setDispersion_lineRx : (setDispersion s c x).lineRx = s.lineRx := rfl
@[simp] theorem setDispersion_carrierRec : (setDispersion s c x).carrierRec = s.carrierRec := rfl
@[simp] theorem setDispersion_demapper : (setDispersion s c x).demapper = s.demapper := rfl
@[simp] theorem setDispersion_dispersion : (setDispersion s c x).dispersion = s.dispersion.set c x := rfl
@[simp] theorem setDispersion_equaliser : (setDispersion s c x).equaliser = s.equaliser := rfl
@[simp] theorem setDispersion_tunedN : (setDispersion s c x).tunedN = s.tunedN := rfl
@[simp] theorem setDispersion_dsram : (setDispersion s c x).dsram = s.dsram := rfl
@[simp] theorem setDispersion_optics : (setDispersion s c x).optics = s.optics := rfl
@[simp] theorem setDispersion_qlt : (setDispersion s c x).qlt = s.qlt := rfl
@[simp] theorem setDispersion_plinth : (setDispersion s c x).plinth = s.plinth := rfl
@[simp] theorem setDispersion_keep : (setDispersion s c x).keep = s.keep := rfl
@[simp] theorem setDispersion_archive : (setDispersion s c x).archive = s.archive := rfl
@[simp] theorem setDispersion_rps : (setDispersion s c x).rps = s.rps := rfl
@[simp] theorem setDispersion_tel : (setDispersion s c x).tel = s.tel := rfl
@[simp] theorem setDispersion_cast : (setDispersion s c x).cast = s.cast := rfl
@[simp] theorem setDispersion_vddRequested : (setDispersion s c x).vddRequested = s.vddRequested := rfl
@[simp] theorem setDispersion_checkers : (setDispersion s c x).checkers = s.checkers := rfl
@[simp] theorem setDispersion_hostLink : (setDispersion s c x).hostLink = s.hostLink := rfl
@[simp] theorem setDispersion_mbox : (setDispersion s c x).mbox = s.mbox := rfl
@[simp] theorem setDispersion_memories : (setDispersion s c x).memories = s.memories := rfl
@[simp] theorem setDispersion_isram : (setDispersion s c x).isram = s.isram := rfl
@[simp] theorem setDispersion_cores : (setDispersion s c x).cores = s.cores := rfl
@[simp] theorem setDispersion_images : (setDispersion s c x).images = s.images := rfl
@[simp] theorem setDispersion_stepsDue : (setDispersion s c x).stepsDue = s.stepsDue := rfl
@[simp] theorem setDispersion_samples : (setDispersion s c x).samples = s.samples := rfl
@[simp] theorem setDispersion_pwrMgr : (setDispersion s c x).pwrMgr = s.pwrMgr := rfl
@[simp] theorem setDispersion_timeBase : (setDispersion s c x).timeBase = s.timeBase := rfl
@[simp] theorem setDispersion_selfTest : (setDispersion s c x).selfTest = s.selfTest := rfl
@[simp] theorem setDispersion_firmware : (setDispersion s c x).firmware = s.firmware := rfl
@[simp] theorem setDispersion_freeCount : (setDispersion s c x).freeCount = s.freeCount := rfl
@[simp] theorem setDispersion_staged : (setDispersion s c x).staged = s.staged := rfl
@[simp] theorem setDispersion_timers : (setDispersion s c x).timers = s.timers := rfl
@[simp] theorem setDispersion_pending : (setDispersion s c x).pending = s.pending := rfl
@[simp] theorem setDispersion_word (q : Page) (off : Nat) : word (setDispersion s c x) q off = word s q off := rfl
@[simp] theorem setDispersion_get (q : Page) (g : Field) : State.get (setDispersion s c x) q g = s.get q g := rfl
@[simp] theorem setDispersion_flag (q : Page) (g : Field) : State.flag (setDispersion s c x) q g = s.flag q g := rfl

end

/-! ## setEqualiser -/

section

variable (s : State) (c : Carrier) (x : Equaliser)

@[simp] theorem setEqualiser_regs : (setEqualiser s c x).regs = s.regs := rfl
@[simp] theorem setEqualiser_latches : (setEqualiser s c x).latches = s.latches := rfl
@[simp] theorem setEqualiser_answer : (setEqualiser s c x).answer = s.answer := rfl
@[simp] theorem setEqualiser_hostReady : (setEqualiser s c x).hostReady = s.hostReady := rfl
@[simp] theorem setEqualiser_journal : (setEqualiser s c x).journal = s.journal := rfl
@[simp] theorem setEqualiser_evr : (setEqualiser s c x).evr = s.evr := rfl
@[simp] theorem setEqualiser_msix : (setEqualiser s c x).msix = s.msix := rfl
@[simp] theorem setEqualiser_semaphores : (setEqualiser s c x).semaphores = s.semaphores := rfl
@[simp] theorem setEqualiser_pairMatches : (setEqualiser s c x).pairMatches = s.pairMatches := rfl
@[simp] theorem setEqualiser_tickEvents : (setEqualiser s c x).tickEvents = s.tickEvents := rfl
@[simp] theorem setEqualiser_nowNs : (setEqualiser s c x).nowNs = s.nowNs := rfl
@[simp] theorem setEqualiser_elapsedNs : (setEqualiser s c x).elapsedNs = s.elapsedNs := rfl
@[simp] theorem setEqualiser_framer : (setEqualiser s c x).framer = s.framer := rfl
@[simp] theorem setEqualiser_fec : (setEqualiser s c x).fec = s.fec := rfl
@[simp] theorem setEqualiser_cpc : (setEqualiser s c x).cpc = s.cpc := rfl
@[simp] theorem setEqualiser_cipher : (setEqualiser s c x).cipher = s.cipher := rfl
@[simp] theorem setEqualiser_hk : (setEqualiser s c x).hk = s.hk := rfl
@[simp] theorem setEqualiser_aux : (setEqualiser s c x).aux = s.aux := rfl
@[simp] theorem setEqualiser_cal : (setEqualiser s c x).cal = s.cal := rfl
@[simp] theorem setEqualiser_txDsp : (setEqualiser s c x).txDsp = s.txDsp := rfl
@[simp] theorem setEqualiser_txLane : (setEqualiser s c x).txLane = s.txLane := rfl
@[simp] theorem setEqualiser_lineRx : (setEqualiser s c x).lineRx = s.lineRx := rfl
@[simp] theorem setEqualiser_carrierRec : (setEqualiser s c x).carrierRec = s.carrierRec := rfl
@[simp] theorem setEqualiser_demapper : (setEqualiser s c x).demapper = s.demapper := rfl
@[simp] theorem setEqualiser_dispersion : (setEqualiser s c x).dispersion = s.dispersion := rfl
@[simp] theorem setEqualiser_equaliser : (setEqualiser s c x).equaliser = s.equaliser.set c x := rfl
@[simp] theorem setEqualiser_tunedN : (setEqualiser s c x).tunedN = s.tunedN := rfl
@[simp] theorem setEqualiser_dsram : (setEqualiser s c x).dsram = s.dsram := rfl
@[simp] theorem setEqualiser_optics : (setEqualiser s c x).optics = s.optics := rfl
@[simp] theorem setEqualiser_qlt : (setEqualiser s c x).qlt = s.qlt := rfl
@[simp] theorem setEqualiser_plinth : (setEqualiser s c x).plinth = s.plinth := rfl
@[simp] theorem setEqualiser_keep : (setEqualiser s c x).keep = s.keep := rfl
@[simp] theorem setEqualiser_archive : (setEqualiser s c x).archive = s.archive := rfl
@[simp] theorem setEqualiser_rps : (setEqualiser s c x).rps = s.rps := rfl
@[simp] theorem setEqualiser_tel : (setEqualiser s c x).tel = s.tel := rfl
@[simp] theorem setEqualiser_cast : (setEqualiser s c x).cast = s.cast := rfl
@[simp] theorem setEqualiser_vddRequested : (setEqualiser s c x).vddRequested = s.vddRequested := rfl
@[simp] theorem setEqualiser_checkers : (setEqualiser s c x).checkers = s.checkers := rfl
@[simp] theorem setEqualiser_hostLink : (setEqualiser s c x).hostLink = s.hostLink := rfl
@[simp] theorem setEqualiser_mbox : (setEqualiser s c x).mbox = s.mbox := rfl
@[simp] theorem setEqualiser_memories : (setEqualiser s c x).memories = s.memories := rfl
@[simp] theorem setEqualiser_isram : (setEqualiser s c x).isram = s.isram := rfl
@[simp] theorem setEqualiser_cores : (setEqualiser s c x).cores = s.cores := rfl
@[simp] theorem setEqualiser_images : (setEqualiser s c x).images = s.images := rfl
@[simp] theorem setEqualiser_stepsDue : (setEqualiser s c x).stepsDue = s.stepsDue := rfl
@[simp] theorem setEqualiser_samples : (setEqualiser s c x).samples = s.samples := rfl
@[simp] theorem setEqualiser_pwrMgr : (setEqualiser s c x).pwrMgr = s.pwrMgr := rfl
@[simp] theorem setEqualiser_timeBase : (setEqualiser s c x).timeBase = s.timeBase := rfl
@[simp] theorem setEqualiser_selfTest : (setEqualiser s c x).selfTest = s.selfTest := rfl
@[simp] theorem setEqualiser_firmware : (setEqualiser s c x).firmware = s.firmware := rfl
@[simp] theorem setEqualiser_freeCount : (setEqualiser s c x).freeCount = s.freeCount := rfl
@[simp] theorem setEqualiser_staged : (setEqualiser s c x).staged = s.staged := rfl
@[simp] theorem setEqualiser_timers : (setEqualiser s c x).timers = s.timers := rfl
@[simp] theorem setEqualiser_pending : (setEqualiser s c x).pending = s.pending := rfl
@[simp] theorem setEqualiser_word (q : Page) (off : Nat) : word (setEqualiser s c x) q off = word s q off := rfl
@[simp] theorem setEqualiser_get (q : Page) (g : Field) : State.get (setEqualiser s c x) q g = s.get q g := rfl
@[simp] theorem setEqualiser_flag (q : Page) (g : Field) : State.flag (setEqualiser s c x) q g = s.flag q g := rfl

end

/-! ## setOptics -/

section

variable (s : State) (c : Carrier) (x : Optics)

@[simp] theorem setOptics_regs : (setOptics s c x).regs = s.regs := rfl
@[simp] theorem setOptics_latches : (setOptics s c x).latches = s.latches := rfl
@[simp] theorem setOptics_answer : (setOptics s c x).answer = s.answer := rfl
@[simp] theorem setOptics_hostReady : (setOptics s c x).hostReady = s.hostReady := rfl
@[simp] theorem setOptics_journal : (setOptics s c x).journal = s.journal := rfl
@[simp] theorem setOptics_evr : (setOptics s c x).evr = s.evr := rfl
@[simp] theorem setOptics_msix : (setOptics s c x).msix = s.msix := rfl
@[simp] theorem setOptics_semaphores : (setOptics s c x).semaphores = s.semaphores := rfl
@[simp] theorem setOptics_pairMatches : (setOptics s c x).pairMatches = s.pairMatches := rfl
@[simp] theorem setOptics_tickEvents : (setOptics s c x).tickEvents = s.tickEvents := rfl
@[simp] theorem setOptics_nowNs : (setOptics s c x).nowNs = s.nowNs := rfl
@[simp] theorem setOptics_elapsedNs : (setOptics s c x).elapsedNs = s.elapsedNs := rfl
@[simp] theorem setOptics_framer : (setOptics s c x).framer = s.framer := rfl
@[simp] theorem setOptics_fec : (setOptics s c x).fec = s.fec := rfl
@[simp] theorem setOptics_cpc : (setOptics s c x).cpc = s.cpc := rfl
@[simp] theorem setOptics_cipher : (setOptics s c x).cipher = s.cipher := rfl
@[simp] theorem setOptics_hk : (setOptics s c x).hk = s.hk := rfl
@[simp] theorem setOptics_aux : (setOptics s c x).aux = s.aux := rfl
@[simp] theorem setOptics_cal : (setOptics s c x).cal = s.cal := rfl
@[simp] theorem setOptics_txDsp : (setOptics s c x).txDsp = s.txDsp := rfl
@[simp] theorem setOptics_txLane : (setOptics s c x).txLane = s.txLane := rfl
@[simp] theorem setOptics_lineRx : (setOptics s c x).lineRx = s.lineRx := rfl
@[simp] theorem setOptics_carrierRec : (setOptics s c x).carrierRec = s.carrierRec := rfl
@[simp] theorem setOptics_demapper : (setOptics s c x).demapper = s.demapper := rfl
@[simp] theorem setOptics_dispersion : (setOptics s c x).dispersion = s.dispersion := rfl
@[simp] theorem setOptics_equaliser : (setOptics s c x).equaliser = s.equaliser := rfl
@[simp] theorem setOptics_tunedN : (setOptics s c x).tunedN = s.tunedN := rfl
@[simp] theorem setOptics_dsram : (setOptics s c x).dsram = s.dsram := rfl
@[simp] theorem setOptics_optics : (setOptics s c x).optics = s.optics.set c x := rfl
@[simp] theorem setOptics_qlt : (setOptics s c x).qlt = s.qlt := rfl
@[simp] theorem setOptics_plinth : (setOptics s c x).plinth = s.plinth := rfl
@[simp] theorem setOptics_keep : (setOptics s c x).keep = s.keep := rfl
@[simp] theorem setOptics_archive : (setOptics s c x).archive = s.archive := rfl
@[simp] theorem setOptics_rps : (setOptics s c x).rps = s.rps := rfl
@[simp] theorem setOptics_tel : (setOptics s c x).tel = s.tel := rfl
@[simp] theorem setOptics_cast : (setOptics s c x).cast = s.cast := rfl
@[simp] theorem setOptics_vddRequested : (setOptics s c x).vddRequested = s.vddRequested := rfl
@[simp] theorem setOptics_checkers : (setOptics s c x).checkers = s.checkers := rfl
@[simp] theorem setOptics_hostLink : (setOptics s c x).hostLink = s.hostLink := rfl
@[simp] theorem setOptics_mbox : (setOptics s c x).mbox = s.mbox := rfl
@[simp] theorem setOptics_memories : (setOptics s c x).memories = s.memories := rfl
@[simp] theorem setOptics_isram : (setOptics s c x).isram = s.isram := rfl
@[simp] theorem setOptics_cores : (setOptics s c x).cores = s.cores := rfl
@[simp] theorem setOptics_images : (setOptics s c x).images = s.images := rfl
@[simp] theorem setOptics_stepsDue : (setOptics s c x).stepsDue = s.stepsDue := rfl
@[simp] theorem setOptics_samples : (setOptics s c x).samples = s.samples := rfl
@[simp] theorem setOptics_pwrMgr : (setOptics s c x).pwrMgr = s.pwrMgr := rfl
@[simp] theorem setOptics_timeBase : (setOptics s c x).timeBase = s.timeBase := rfl
@[simp] theorem setOptics_selfTest : (setOptics s c x).selfTest = s.selfTest := rfl
@[simp] theorem setOptics_firmware : (setOptics s c x).firmware = s.firmware := rfl
@[simp] theorem setOptics_freeCount : (setOptics s c x).freeCount = s.freeCount := rfl
@[simp] theorem setOptics_staged : (setOptics s c x).staged = s.staged := rfl
@[simp] theorem setOptics_timers : (setOptics s c x).timers = s.timers := rfl
@[simp] theorem setOptics_pending : (setOptics s c x).pending = s.pending := rfl
@[simp] theorem setOptics_word (q : Page) (off : Nat) : word (setOptics s c x) q off = word s q off := rfl
@[simp] theorem setOptics_get (q : Page) (g : Field) : State.get (setOptics s c x) q g = s.get q g := rfl
@[simp] theorem setOptics_flag (q : Page) (g : Field) : State.flag (setOptics s c x) q g = s.flag q g := rfl

end

/-! ## State.setQlt -/

section

variable (s : State) (x : Quolet)

@[simp] theorem State.setQlt_regs : (State.setQlt s x).regs = s.regs := rfl
@[simp] theorem State.setQlt_latches : (State.setQlt s x).latches = s.latches := rfl
@[simp] theorem State.setQlt_answer : (State.setQlt s x).answer = s.answer := rfl
@[simp] theorem State.setQlt_hostReady : (State.setQlt s x).hostReady = s.hostReady := rfl
@[simp] theorem State.setQlt_journal : (State.setQlt s x).journal = s.journal := rfl
@[simp] theorem State.setQlt_evr : (State.setQlt s x).evr = s.evr := rfl
@[simp] theorem State.setQlt_msix : (State.setQlt s x).msix = s.msix := rfl
@[simp] theorem State.setQlt_semaphores : (State.setQlt s x).semaphores = s.semaphores := rfl
@[simp] theorem State.setQlt_pairMatches : (State.setQlt s x).pairMatches = s.pairMatches := rfl
@[simp] theorem State.setQlt_tickEvents : (State.setQlt s x).tickEvents = s.tickEvents := rfl
@[simp] theorem State.setQlt_nowNs : (State.setQlt s x).nowNs = s.nowNs := rfl
@[simp] theorem State.setQlt_elapsedNs : (State.setQlt s x).elapsedNs = s.elapsedNs := rfl
@[simp] theorem State.setQlt_framer : (State.setQlt s x).framer = s.framer := rfl
@[simp] theorem State.setQlt_fec : (State.setQlt s x).fec = s.fec := rfl
@[simp] theorem State.setQlt_cpc : (State.setQlt s x).cpc = s.cpc := rfl
@[simp] theorem State.setQlt_cipher : (State.setQlt s x).cipher = s.cipher := rfl
@[simp] theorem State.setQlt_hk : (State.setQlt s x).hk = s.hk := rfl
@[simp] theorem State.setQlt_aux : (State.setQlt s x).aux = s.aux := rfl
@[simp] theorem State.setQlt_cal : (State.setQlt s x).cal = s.cal := rfl
@[simp] theorem State.setQlt_txDsp : (State.setQlt s x).txDsp = s.txDsp := rfl
@[simp] theorem State.setQlt_txLane : (State.setQlt s x).txLane = s.txLane := rfl
@[simp] theorem State.setQlt_lineRx : (State.setQlt s x).lineRx = s.lineRx := rfl
@[simp] theorem State.setQlt_carrierRec : (State.setQlt s x).carrierRec = s.carrierRec := rfl
@[simp] theorem State.setQlt_demapper : (State.setQlt s x).demapper = s.demapper := rfl
@[simp] theorem State.setQlt_dispersion : (State.setQlt s x).dispersion = s.dispersion := rfl
@[simp] theorem State.setQlt_equaliser : (State.setQlt s x).equaliser = s.equaliser := rfl
@[simp] theorem State.setQlt_tunedN : (State.setQlt s x).tunedN = s.tunedN := rfl
@[simp] theorem State.setQlt_dsram : (State.setQlt s x).dsram = s.dsram := rfl
@[simp] theorem State.setQlt_optics : (State.setQlt s x).optics = s.optics := rfl
@[simp] theorem State.setQlt_qlt : (State.setQlt s x).qlt = x := rfl
@[simp] theorem State.setQlt_plinth : (State.setQlt s x).plinth = s.plinth := rfl
@[simp] theorem State.setQlt_keep : (State.setQlt s x).keep = s.keep := rfl
@[simp] theorem State.setQlt_archive : (State.setQlt s x).archive = s.archive := rfl
@[simp] theorem State.setQlt_rps : (State.setQlt s x).rps = s.rps := rfl
@[simp] theorem State.setQlt_tel : (State.setQlt s x).tel = s.tel := rfl
@[simp] theorem State.setQlt_cast : (State.setQlt s x).cast = s.cast := rfl
@[simp] theorem State.setQlt_vddRequested : (State.setQlt s x).vddRequested = s.vddRequested := rfl
@[simp] theorem State.setQlt_checkers : (State.setQlt s x).checkers = s.checkers := rfl
@[simp] theorem State.setQlt_hostLink : (State.setQlt s x).hostLink = s.hostLink := rfl
@[simp] theorem State.setQlt_mbox : (State.setQlt s x).mbox = s.mbox := rfl
@[simp] theorem State.setQlt_memories : (State.setQlt s x).memories = s.memories := rfl
@[simp] theorem State.setQlt_isram : (State.setQlt s x).isram = s.isram := rfl
@[simp] theorem State.setQlt_cores : (State.setQlt s x).cores = s.cores := rfl
@[simp] theorem State.setQlt_images : (State.setQlt s x).images = s.images := rfl
@[simp] theorem State.setQlt_stepsDue : (State.setQlt s x).stepsDue = s.stepsDue := rfl
@[simp] theorem State.setQlt_samples : (State.setQlt s x).samples = s.samples := rfl
@[simp] theorem State.setQlt_pwrMgr : (State.setQlt s x).pwrMgr = s.pwrMgr := rfl
@[simp] theorem State.setQlt_timeBase : (State.setQlt s x).timeBase = s.timeBase := rfl
@[simp] theorem State.setQlt_selfTest : (State.setQlt s x).selfTest = s.selfTest := rfl
@[simp] theorem State.setQlt_firmware : (State.setQlt s x).firmware = s.firmware := rfl
@[simp] theorem State.setQlt_freeCount : (State.setQlt s x).freeCount = s.freeCount := rfl
@[simp] theorem State.setQlt_staged : (State.setQlt s x).staged = s.staged := rfl
@[simp] theorem State.setQlt_timers : (State.setQlt s x).timers = s.timers := rfl
@[simp] theorem State.setQlt_pending : (State.setQlt s x).pending = s.pending := rfl
@[simp] theorem State.setQlt_word (q : Page) (off : Nat) : word (State.setQlt s x) q off = word s q off := rfl
@[simp] theorem State.setQlt_get (q : Page) (g : Field) : State.get (State.setQlt s x) q g = s.get q g := rfl
@[simp] theorem State.setQlt_flag (q : Page) (g : Field) : State.flag (State.setQlt s x) q g = s.flag q g := rfl

end

/-! ## State.setRps -/

section

variable (s : State) (x : RouteProtect)

@[simp] theorem State.setRps_regs : (State.setRps s x).regs = s.regs := rfl
@[simp] theorem State.setRps_latches : (State.setRps s x).latches = s.latches := rfl
@[simp] theorem State.setRps_answer : (State.setRps s x).answer = s.answer := rfl
@[simp] theorem State.setRps_hostReady : (State.setRps s x).hostReady = s.hostReady := rfl
@[simp] theorem State.setRps_journal : (State.setRps s x).journal = s.journal := rfl
@[simp] theorem State.setRps_evr : (State.setRps s x).evr = s.evr := rfl
@[simp] theorem State.setRps_msix : (State.setRps s x).msix = s.msix := rfl
@[simp] theorem State.setRps_semaphores : (State.setRps s x).semaphores = s.semaphores := rfl
@[simp] theorem State.setRps_pairMatches : (State.setRps s x).pairMatches = s.pairMatches := rfl
@[simp] theorem State.setRps_tickEvents : (State.setRps s x).tickEvents = s.tickEvents := rfl
@[simp] theorem State.setRps_nowNs : (State.setRps s x).nowNs = s.nowNs := rfl
@[simp] theorem State.setRps_elapsedNs : (State.setRps s x).elapsedNs = s.elapsedNs := rfl
@[simp] theorem State.setRps_framer : (State.setRps s x).framer = s.framer := rfl
@[simp] theorem State.setRps_fec : (State.setRps s x).fec = s.fec := rfl
@[simp] theorem State.setRps_cpc : (State.setRps s x).cpc = s.cpc := rfl
@[simp] theorem State.setRps_cipher : (State.setRps s x).cipher = s.cipher := rfl
@[simp] theorem State.setRps_hk : (State.setRps s x).hk = s.hk := rfl
@[simp] theorem State.setRps_aux : (State.setRps s x).aux = s.aux := rfl
@[simp] theorem State.setRps_cal : (State.setRps s x).cal = s.cal := rfl
@[simp] theorem State.setRps_txDsp : (State.setRps s x).txDsp = s.txDsp := rfl
@[simp] theorem State.setRps_txLane : (State.setRps s x).txLane = s.txLane := rfl
@[simp] theorem State.setRps_lineRx : (State.setRps s x).lineRx = s.lineRx := rfl
@[simp] theorem State.setRps_carrierRec : (State.setRps s x).carrierRec = s.carrierRec := rfl
@[simp] theorem State.setRps_demapper : (State.setRps s x).demapper = s.demapper := rfl
@[simp] theorem State.setRps_dispersion : (State.setRps s x).dispersion = s.dispersion := rfl
@[simp] theorem State.setRps_equaliser : (State.setRps s x).equaliser = s.equaliser := rfl
@[simp] theorem State.setRps_tunedN : (State.setRps s x).tunedN = s.tunedN := rfl
@[simp] theorem State.setRps_dsram : (State.setRps s x).dsram = s.dsram := rfl
@[simp] theorem State.setRps_optics : (State.setRps s x).optics = s.optics := rfl
@[simp] theorem State.setRps_qlt : (State.setRps s x).qlt = s.qlt := rfl
@[simp] theorem State.setRps_plinth : (State.setRps s x).plinth = s.plinth := rfl
@[simp] theorem State.setRps_keep : (State.setRps s x).keep = s.keep := rfl
@[simp] theorem State.setRps_archive : (State.setRps s x).archive = s.archive := rfl
@[simp] theorem State.setRps_rps : (State.setRps s x).rps = x := rfl
@[simp] theorem State.setRps_tel : (State.setRps s x).tel = s.tel := rfl
@[simp] theorem State.setRps_cast : (State.setRps s x).cast = s.cast := rfl
@[simp] theorem State.setRps_vddRequested : (State.setRps s x).vddRequested = s.vddRequested := rfl
@[simp] theorem State.setRps_checkers : (State.setRps s x).checkers = s.checkers := rfl
@[simp] theorem State.setRps_hostLink : (State.setRps s x).hostLink = s.hostLink := rfl
@[simp] theorem State.setRps_mbox : (State.setRps s x).mbox = s.mbox := rfl
@[simp] theorem State.setRps_memories : (State.setRps s x).memories = s.memories := rfl
@[simp] theorem State.setRps_isram : (State.setRps s x).isram = s.isram := rfl
@[simp] theorem State.setRps_cores : (State.setRps s x).cores = s.cores := rfl
@[simp] theorem State.setRps_images : (State.setRps s x).images = s.images := rfl
@[simp] theorem State.setRps_stepsDue : (State.setRps s x).stepsDue = s.stepsDue := rfl
@[simp] theorem State.setRps_samples : (State.setRps s x).samples = s.samples := rfl
@[simp] theorem State.setRps_pwrMgr : (State.setRps s x).pwrMgr = s.pwrMgr := rfl
@[simp] theorem State.setRps_timeBase : (State.setRps s x).timeBase = s.timeBase := rfl
@[simp] theorem State.setRps_selfTest : (State.setRps s x).selfTest = s.selfTest := rfl
@[simp] theorem State.setRps_firmware : (State.setRps s x).firmware = s.firmware := rfl
@[simp] theorem State.setRps_freeCount : (State.setRps s x).freeCount = s.freeCount := rfl
@[simp] theorem State.setRps_staged : (State.setRps s x).staged = s.staged := rfl
@[simp] theorem State.setRps_timers : (State.setRps s x).timers = s.timers := rfl
@[simp] theorem State.setRps_pending : (State.setRps s x).pending = s.pending := rfl
@[simp] theorem State.setRps_word (q : Page) (off : Nat) : word (State.setRps s x) q off = word s q off := rfl
@[simp] theorem State.setRps_get (q : Page) (g : Field) : State.get (State.setRps s x) q g = s.get q g := rfl
@[simp] theorem State.setRps_flag (q : Page) (g : Field) : State.flag (State.setRps s x) q g = s.flag q g := rfl

end

/-! ## putCore -/

section

variable (s : State) (n : Fin 8) (x : Core)

@[simp] theorem putCore_regs : (putCore s n x).regs = s.regs := rfl
@[simp] theorem putCore_latches : (putCore s n x).latches = s.latches := rfl
@[simp] theorem putCore_answer : (putCore s n x).answer = s.answer := rfl
@[simp] theorem putCore_hostReady : (putCore s n x).hostReady = s.hostReady := rfl
@[simp] theorem putCore_journal : (putCore s n x).journal = s.journal := rfl
@[simp] theorem putCore_evr : (putCore s n x).evr = s.evr := rfl
@[simp] theorem putCore_msix : (putCore s n x).msix = s.msix := rfl
@[simp] theorem putCore_semaphores : (putCore s n x).semaphores = s.semaphores := rfl
@[simp] theorem putCore_pairMatches : (putCore s n x).pairMatches = s.pairMatches := rfl
@[simp] theorem putCore_tickEvents : (putCore s n x).tickEvents = s.tickEvents := rfl
@[simp] theorem putCore_nowNs : (putCore s n x).nowNs = s.nowNs := rfl
@[simp] theorem putCore_elapsedNs : (putCore s n x).elapsedNs = s.elapsedNs := rfl
@[simp] theorem putCore_framer : (putCore s n x).framer = s.framer := rfl
@[simp] theorem putCore_fec : (putCore s n x).fec = s.fec := rfl
@[simp] theorem putCore_cpc : (putCore s n x).cpc = s.cpc := rfl
@[simp] theorem putCore_cipher : (putCore s n x).cipher = s.cipher := rfl
@[simp] theorem putCore_hk : (putCore s n x).hk = s.hk := rfl
@[simp] theorem putCore_aux : (putCore s n x).aux = s.aux := rfl
@[simp] theorem putCore_cal : (putCore s n x).cal = s.cal := rfl
@[simp] theorem putCore_txDsp : (putCore s n x).txDsp = s.txDsp := rfl
@[simp] theorem putCore_txLane : (putCore s n x).txLane = s.txLane := rfl
@[simp] theorem putCore_lineRx : (putCore s n x).lineRx = s.lineRx := rfl
@[simp] theorem putCore_carrierRec : (putCore s n x).carrierRec = s.carrierRec := rfl
@[simp] theorem putCore_demapper : (putCore s n x).demapper = s.demapper := rfl
@[simp] theorem putCore_dispersion : (putCore s n x).dispersion = s.dispersion := rfl
@[simp] theorem putCore_equaliser : (putCore s n x).equaliser = s.equaliser := rfl
@[simp] theorem putCore_tunedN : (putCore s n x).tunedN = s.tunedN := rfl
@[simp] theorem putCore_dsram : (putCore s n x).dsram = s.dsram := rfl
@[simp] theorem putCore_optics : (putCore s n x).optics = s.optics := rfl
@[simp] theorem putCore_qlt : (putCore s n x).qlt = s.qlt := rfl
@[simp] theorem putCore_plinth : (putCore s n x).plinth = s.plinth := rfl
@[simp] theorem putCore_keep : (putCore s n x).keep = s.keep := rfl
@[simp] theorem putCore_archive : (putCore s n x).archive = s.archive := rfl
@[simp] theorem putCore_rps : (putCore s n x).rps = s.rps := rfl
@[simp] theorem putCore_tel : (putCore s n x).tel = s.tel := rfl
@[simp] theorem putCore_cast : (putCore s n x).cast = s.cast := rfl
@[simp] theorem putCore_vddRequested : (putCore s n x).vddRequested = s.vddRequested := rfl
@[simp] theorem putCore_checkers : (putCore s n x).checkers = s.checkers := rfl
@[simp] theorem putCore_hostLink : (putCore s n x).hostLink = s.hostLink := rfl
@[simp] theorem putCore_mbox : (putCore s n x).mbox = s.mbox := rfl
@[simp] theorem putCore_memories : (putCore s n x).memories = s.memories := rfl
@[simp] theorem putCore_isram : (putCore s n x).isram = s.isram := rfl
@[simp] theorem putCore_cores : (putCore s n x).cores = s.cores.set n x := rfl
@[simp] theorem putCore_images : (putCore s n x).images = s.images := rfl
@[simp] theorem putCore_stepsDue : (putCore s n x).stepsDue = s.stepsDue := rfl
@[simp] theorem putCore_samples : (putCore s n x).samples = s.samples := rfl
@[simp] theorem putCore_pwrMgr : (putCore s n x).pwrMgr = s.pwrMgr := rfl
@[simp] theorem putCore_timeBase : (putCore s n x).timeBase = s.timeBase := rfl
@[simp] theorem putCore_selfTest : (putCore s n x).selfTest = s.selfTest := rfl
@[simp] theorem putCore_firmware : (putCore s n x).firmware = s.firmware := rfl
@[simp] theorem putCore_freeCount : (putCore s n x).freeCount = s.freeCount := rfl
@[simp] theorem putCore_staged : (putCore s n x).staged = s.staged := rfl
@[simp] theorem putCore_timers : (putCore s n x).timers = s.timers := rfl
@[simp] theorem putCore_pending : (putCore s n x).pending = s.pending := rfl
@[simp] theorem putCore_word (q : Page) (off : Nat) : word (putCore s n x) q off = word s q off := rfl
@[simp] theorem putCore_get (q : Page) (g : Field) : State.get (putCore s n x) q g = s.get q g := rfl
@[simp] theorem putCore_flag (q : Page) (g : Field) : State.flag (putCore s n x) q g = s.flag q g := rfl

end

/-! ## putImage -/

section

variable (s : State) (n : Fin 8) (x : CoreImage)

@[simp] theorem putImage_regs : (putImage s n x).regs = s.regs := rfl
@[simp] theorem putImage_latches : (putImage s n x).latches = s.latches := rfl
@[simp] theorem putImage_answer : (putImage s n x).answer = s.answer := rfl
@[simp] theorem putImage_hostReady : (putImage s n x).hostReady = s.hostReady := rfl
@[simp] theorem putImage_journal : (putImage s n x).journal = s.journal := rfl
@[simp] theorem putImage_evr : (putImage s n x).evr = s.evr := rfl
@[simp] theorem putImage_msix : (putImage s n x).msix = s.msix := rfl
@[simp] theorem putImage_semaphores : (putImage s n x).semaphores = s.semaphores := rfl
@[simp] theorem putImage_pairMatches : (putImage s n x).pairMatches = s.pairMatches := rfl
@[simp] theorem putImage_tickEvents : (putImage s n x).tickEvents = s.tickEvents := rfl
@[simp] theorem putImage_nowNs : (putImage s n x).nowNs = s.nowNs := rfl
@[simp] theorem putImage_elapsedNs : (putImage s n x).elapsedNs = s.elapsedNs := rfl
@[simp] theorem putImage_framer : (putImage s n x).framer = s.framer := rfl
@[simp] theorem putImage_fec : (putImage s n x).fec = s.fec := rfl
@[simp] theorem putImage_cpc : (putImage s n x).cpc = s.cpc := rfl
@[simp] theorem putImage_cipher : (putImage s n x).cipher = s.cipher := rfl
@[simp] theorem putImage_hk : (putImage s n x).hk = s.hk := rfl
@[simp] theorem putImage_aux : (putImage s n x).aux = s.aux := rfl
@[simp] theorem putImage_cal : (putImage s n x).cal = s.cal := rfl
@[simp] theorem putImage_txDsp : (putImage s n x).txDsp = s.txDsp := rfl
@[simp] theorem putImage_txLane : (putImage s n x).txLane = s.txLane := rfl
@[simp] theorem putImage_lineRx : (putImage s n x).lineRx = s.lineRx := rfl
@[simp] theorem putImage_carrierRec : (putImage s n x).carrierRec = s.carrierRec := rfl
@[simp] theorem putImage_demapper : (putImage s n x).demapper = s.demapper := rfl
@[simp] theorem putImage_dispersion : (putImage s n x).dispersion = s.dispersion := rfl
@[simp] theorem putImage_equaliser : (putImage s n x).equaliser = s.equaliser := rfl
@[simp] theorem putImage_tunedN : (putImage s n x).tunedN = s.tunedN := rfl
@[simp] theorem putImage_dsram : (putImage s n x).dsram = s.dsram := rfl
@[simp] theorem putImage_optics : (putImage s n x).optics = s.optics := rfl
@[simp] theorem putImage_qlt : (putImage s n x).qlt = s.qlt := rfl
@[simp] theorem putImage_plinth : (putImage s n x).plinth = s.plinth := rfl
@[simp] theorem putImage_keep : (putImage s n x).keep = s.keep := rfl
@[simp] theorem putImage_archive : (putImage s n x).archive = s.archive := rfl
@[simp] theorem putImage_rps : (putImage s n x).rps = s.rps := rfl
@[simp] theorem putImage_tel : (putImage s n x).tel = s.tel := rfl
@[simp] theorem putImage_cast : (putImage s n x).cast = s.cast := rfl
@[simp] theorem putImage_vddRequested : (putImage s n x).vddRequested = s.vddRequested := rfl
@[simp] theorem putImage_checkers : (putImage s n x).checkers = s.checkers := rfl
@[simp] theorem putImage_hostLink : (putImage s n x).hostLink = s.hostLink := rfl
@[simp] theorem putImage_mbox : (putImage s n x).mbox = s.mbox := rfl
@[simp] theorem putImage_memories : (putImage s n x).memories = s.memories := rfl
@[simp] theorem putImage_isram : (putImage s n x).isram = s.isram := rfl
@[simp] theorem putImage_cores : (putImage s n x).cores = s.cores := rfl
@[simp] theorem putImage_images : (putImage s n x).images = s.images.set n x := rfl
@[simp] theorem putImage_stepsDue : (putImage s n x).stepsDue = s.stepsDue := rfl
@[simp] theorem putImage_samples : (putImage s n x).samples = s.samples := rfl
@[simp] theorem putImage_pwrMgr : (putImage s n x).pwrMgr = s.pwrMgr := rfl
@[simp] theorem putImage_timeBase : (putImage s n x).timeBase = s.timeBase := rfl
@[simp] theorem putImage_selfTest : (putImage s n x).selfTest = s.selfTest := rfl
@[simp] theorem putImage_firmware : (putImage s n x).firmware = s.firmware := rfl
@[simp] theorem putImage_freeCount : (putImage s n x).freeCount = s.freeCount := rfl
@[simp] theorem putImage_staged : (putImage s n x).staged = s.staged := rfl
@[simp] theorem putImage_timers : (putImage s n x).timers = s.timers := rfl
@[simp] theorem putImage_pending : (putImage s n x).pending = s.pending := rfl
@[simp] theorem putImage_word (q : Page) (off : Nat) : word (putImage s n x) q off = word s q off := rfl
@[simp] theorem putImage_get (q : Page) (g : Field) : State.get (putImage s n x) q g = s.get q g := rfl
@[simp] theorem putImage_flag (q : Page) (g : Field) : State.flag (putImage s n x) q g = s.flag q g := rfl

end

/-! ## putData -/

section

variable (s : State) (n : Fin 8) (m : Sparse Byte)

@[simp] theorem putData_regs : (putData s n m).regs = s.regs := rfl
@[simp] theorem putData_latches : (putData s n m).latches = s.latches := rfl
@[simp] theorem putData_answer : (putData s n m).answer = s.answer := rfl
@[simp] theorem putData_hostReady : (putData s n m).hostReady = s.hostReady := rfl
@[simp] theorem putData_journal : (putData s n m).journal = s.journal := rfl
@[simp] theorem putData_evr : (putData s n m).evr = s.evr := rfl
@[simp] theorem putData_msix : (putData s n m).msix = s.msix := rfl
@[simp] theorem putData_semaphores : (putData s n m).semaphores = s.semaphores := rfl
@[simp] theorem putData_pairMatches : (putData s n m).pairMatches = s.pairMatches := rfl
@[simp] theorem putData_tickEvents : (putData s n m).tickEvents = s.tickEvents := rfl
@[simp] theorem putData_nowNs : (putData s n m).nowNs = s.nowNs := rfl
@[simp] theorem putData_elapsedNs : (putData s n m).elapsedNs = s.elapsedNs := rfl
@[simp] theorem putData_framer : (putData s n m).framer = s.framer := rfl
@[simp] theorem putData_fec : (putData s n m).fec = s.fec := rfl
@[simp] theorem putData_cpc : (putData s n m).cpc = s.cpc := rfl
@[simp] theorem putData_cipher : (putData s n m).cipher = s.cipher := rfl
@[simp] theorem putData_hk : (putData s n m).hk = s.hk := rfl
@[simp] theorem putData_aux : (putData s n m).aux = s.aux := rfl
@[simp] theorem putData_cal : (putData s n m).cal = s.cal := rfl
@[simp] theorem putData_txDsp : (putData s n m).txDsp = s.txDsp := rfl
@[simp] theorem putData_txLane : (putData s n m).txLane = s.txLane := rfl
@[simp] theorem putData_lineRx : (putData s n m).lineRx = s.lineRx := rfl
@[simp] theorem putData_carrierRec : (putData s n m).carrierRec = s.carrierRec := rfl
@[simp] theorem putData_demapper : (putData s n m).demapper = s.demapper := rfl
@[simp] theorem putData_dispersion : (putData s n m).dispersion = s.dispersion := rfl
@[simp] theorem putData_equaliser : (putData s n m).equaliser = s.equaliser := rfl
@[simp] theorem putData_tunedN : (putData s n m).tunedN = s.tunedN := rfl
@[simp] theorem putData_dsram : (putData s n m).dsram = s.dsram.set n m := rfl
@[simp] theorem putData_optics : (putData s n m).optics = s.optics := rfl
@[simp] theorem putData_qlt : (putData s n m).qlt = s.qlt := rfl
@[simp] theorem putData_plinth : (putData s n m).plinth = s.plinth := rfl
@[simp] theorem putData_keep : (putData s n m).keep = s.keep := rfl
@[simp] theorem putData_archive : (putData s n m).archive = s.archive := rfl
@[simp] theorem putData_rps : (putData s n m).rps = s.rps := rfl
@[simp] theorem putData_tel : (putData s n m).tel = s.tel := rfl
@[simp] theorem putData_cast : (putData s n m).cast = s.cast := rfl
@[simp] theorem putData_vddRequested : (putData s n m).vddRequested = s.vddRequested := rfl
@[simp] theorem putData_checkers : (putData s n m).checkers = s.checkers := rfl
@[simp] theorem putData_hostLink : (putData s n m).hostLink = s.hostLink := rfl
@[simp] theorem putData_mbox : (putData s n m).mbox = s.mbox := rfl
@[simp] theorem putData_memories : (putData s n m).memories = s.memories := rfl
@[simp] theorem putData_isram : (putData s n m).isram = s.isram := rfl
@[simp] theorem putData_cores : (putData s n m).cores = s.cores := rfl
@[simp] theorem putData_images : (putData s n m).images = s.images := rfl
@[simp] theorem putData_stepsDue : (putData s n m).stepsDue = s.stepsDue := rfl
@[simp] theorem putData_samples : (putData s n m).samples = s.samples := rfl
@[simp] theorem putData_pwrMgr : (putData s n m).pwrMgr = s.pwrMgr := rfl
@[simp] theorem putData_timeBase : (putData s n m).timeBase = s.timeBase := rfl
@[simp] theorem putData_selfTest : (putData s n m).selfTest = s.selfTest := rfl
@[simp] theorem putData_firmware : (putData s n m).firmware = s.firmware := rfl
@[simp] theorem putData_freeCount : (putData s n m).freeCount = s.freeCount := rfl
@[simp] theorem putData_staged : (putData s n m).staged = s.staged := rfl
@[simp] theorem putData_timers : (putData s n m).timers = s.timers := rfl
@[simp] theorem putData_pending : (putData s n m).pending = s.pending := rfl
@[simp] theorem putData_word (q : Page) (off : Nat) : word (putData s n m) q off = word s q off := rfl
@[simp] theorem putData_get (q : Page) (g : Field) : State.get (putData s n m) q g = s.get q g := rfl
@[simp] theorem putData_flag (q : Page) (g : Field) : State.flag (putData s n m) q g = s.flag q g := rfl

end

/-! ## putCode -/

section

variable (s : State) (n : Fin 8) (m : Sparse Byte)

@[simp] theorem putCode_regs : (putCode s n m).regs = s.regs := rfl
@[simp] theorem putCode_latches : (putCode s n m).latches = s.latches := rfl
@[simp] theorem putCode_answer : (putCode s n m).answer = s.answer := rfl
@[simp] theorem putCode_hostReady : (putCode s n m).hostReady = s.hostReady := rfl
@[simp] theorem putCode_journal : (putCode s n m).journal = s.journal := rfl
@[simp] theorem putCode_evr : (putCode s n m).evr = s.evr := rfl
@[simp] theorem putCode_msix : (putCode s n m).msix = s.msix := rfl
@[simp] theorem putCode_semaphores : (putCode s n m).semaphores = s.semaphores := rfl
@[simp] theorem putCode_pairMatches : (putCode s n m).pairMatches = s.pairMatches := rfl
@[simp] theorem putCode_tickEvents : (putCode s n m).tickEvents = s.tickEvents := rfl
@[simp] theorem putCode_nowNs : (putCode s n m).nowNs = s.nowNs := rfl
@[simp] theorem putCode_elapsedNs : (putCode s n m).elapsedNs = s.elapsedNs := rfl
@[simp] theorem putCode_framer : (putCode s n m).framer = s.framer := rfl
@[simp] theorem putCode_fec : (putCode s n m).fec = s.fec := rfl
@[simp] theorem putCode_cpc : (putCode s n m).cpc = s.cpc := rfl
@[simp] theorem putCode_cipher : (putCode s n m).cipher = s.cipher := rfl
@[simp] theorem putCode_hk : (putCode s n m).hk = s.hk := rfl
@[simp] theorem putCode_aux : (putCode s n m).aux = s.aux := rfl
@[simp] theorem putCode_cal : (putCode s n m).cal = s.cal := rfl
@[simp] theorem putCode_txDsp : (putCode s n m).txDsp = s.txDsp := rfl
@[simp] theorem putCode_txLane : (putCode s n m).txLane = s.txLane := rfl
@[simp] theorem putCode_lineRx : (putCode s n m).lineRx = s.lineRx := rfl
@[simp] theorem putCode_carrierRec : (putCode s n m).carrierRec = s.carrierRec := rfl
@[simp] theorem putCode_demapper : (putCode s n m).demapper = s.demapper := rfl
@[simp] theorem putCode_dispersion : (putCode s n m).dispersion = s.dispersion := rfl
@[simp] theorem putCode_equaliser : (putCode s n m).equaliser = s.equaliser := rfl
@[simp] theorem putCode_tunedN : (putCode s n m).tunedN = s.tunedN := rfl
@[simp] theorem putCode_dsram : (putCode s n m).dsram = s.dsram := rfl
@[simp] theorem putCode_optics : (putCode s n m).optics = s.optics := rfl
@[simp] theorem putCode_qlt : (putCode s n m).qlt = s.qlt := rfl
@[simp] theorem putCode_plinth : (putCode s n m).plinth = s.plinth := rfl
@[simp] theorem putCode_keep : (putCode s n m).keep = s.keep := rfl
@[simp] theorem putCode_archive : (putCode s n m).archive = s.archive := rfl
@[simp] theorem putCode_rps : (putCode s n m).rps = s.rps := rfl
@[simp] theorem putCode_tel : (putCode s n m).tel = s.tel := rfl
@[simp] theorem putCode_cast : (putCode s n m).cast = s.cast := rfl
@[simp] theorem putCode_vddRequested : (putCode s n m).vddRequested = s.vddRequested := rfl
@[simp] theorem putCode_checkers : (putCode s n m).checkers = s.checkers := rfl
@[simp] theorem putCode_hostLink : (putCode s n m).hostLink = s.hostLink := rfl
@[simp] theorem putCode_mbox : (putCode s n m).mbox = s.mbox := rfl
@[simp] theorem putCode_memories : (putCode s n m).memories = s.memories := rfl
@[simp] theorem putCode_isram : (putCode s n m).isram = s.isram.set n m := rfl
@[simp] theorem putCode_cores : (putCode s n m).cores = s.cores := rfl
@[simp] theorem putCode_images : (putCode s n m).images = s.images := rfl
@[simp] theorem putCode_stepsDue : (putCode s n m).stepsDue = s.stepsDue := rfl
@[simp] theorem putCode_samples : (putCode s n m).samples = s.samples := rfl
@[simp] theorem putCode_pwrMgr : (putCode s n m).pwrMgr = s.pwrMgr := rfl
@[simp] theorem putCode_timeBase : (putCode s n m).timeBase = s.timeBase := rfl
@[simp] theorem putCode_selfTest : (putCode s n m).selfTest = s.selfTest := rfl
@[simp] theorem putCode_firmware : (putCode s n m).firmware = s.firmware := rfl
@[simp] theorem putCode_freeCount : (putCode s n m).freeCount = s.freeCount := rfl
@[simp] theorem putCode_staged : (putCode s n m).staged = s.staged := rfl
@[simp] theorem putCode_timers : (putCode s n m).timers = s.timers := rfl
@[simp] theorem putCode_pending : (putCode s n m).pending = s.pending := rfl
@[simp] theorem putCode_word (q : Page) (off : Nat) : word (putCode s n m) q off = word s q off := rfl
@[simp] theorem putCode_get (q : Page) (g : Field) : State.get (putCode s n m) q g = s.get q g := rfl
@[simp] theorem putCode_flag (q : Page) (g : Field) : State.flag (putCode s n m) q g = s.flag q g := rfl

end

/-! ## putSample -/

section

variable (s : State) (n : Fin 8) (x : SampleBuffer)

@[simp] theorem putSample_regs : (putSample s n x).regs = s.regs := rfl
@[simp] theorem putSample_latches : (putSample s n x).latches = s.latches := rfl
@[simp] theorem putSample_answer : (putSample s n x).answer = s.answer := rfl
@[simp] theorem putSample_hostReady : (putSample s n x).hostReady = s.hostReady := rfl
@[simp] theorem putSample_journal : (putSample s n x).journal = s.journal := rfl
@[simp] theorem putSample_evr : (putSample s n x).evr = s.evr := rfl
@[simp] theorem putSample_msix : (putSample s n x).msix = s.msix := rfl
@[simp] theorem putSample_semaphores : (putSample s n x).semaphores = s.semaphores := rfl
@[simp] theorem putSample_pairMatches : (putSample s n x).pairMatches = s.pairMatches := rfl
@[simp] theorem putSample_tickEvents : (putSample s n x).tickEvents = s.tickEvents := rfl
@[simp] theorem putSample_nowNs : (putSample s n x).nowNs = s.nowNs := rfl
@[simp] theorem putSample_elapsedNs : (putSample s n x).elapsedNs = s.elapsedNs := rfl
@[simp] theorem putSample_framer : (putSample s n x).framer = s.framer := rfl
@[simp] theorem putSample_fec : (putSample s n x).fec = s.fec := rfl
@[simp] theorem putSample_cpc : (putSample s n x).cpc = s.cpc := rfl
@[simp] theorem putSample_cipher : (putSample s n x).cipher = s.cipher := rfl
@[simp] theorem putSample_hk : (putSample s n x).hk = s.hk := rfl
@[simp] theorem putSample_aux : (putSample s n x).aux = s.aux := rfl
@[simp] theorem putSample_cal : (putSample s n x).cal = s.cal := rfl
@[simp] theorem putSample_txDsp : (putSample s n x).txDsp = s.txDsp := rfl
@[simp] theorem putSample_txLane : (putSample s n x).txLane = s.txLane := rfl
@[simp] theorem putSample_lineRx : (putSample s n x).lineRx = s.lineRx := rfl
@[simp] theorem putSample_carrierRec : (putSample s n x).carrierRec = s.carrierRec := rfl
@[simp] theorem putSample_demapper : (putSample s n x).demapper = s.demapper := rfl
@[simp] theorem putSample_dispersion : (putSample s n x).dispersion = s.dispersion := rfl
@[simp] theorem putSample_equaliser : (putSample s n x).equaliser = s.equaliser := rfl
@[simp] theorem putSample_tunedN : (putSample s n x).tunedN = s.tunedN := rfl
@[simp] theorem putSample_dsram : (putSample s n x).dsram = s.dsram := rfl
@[simp] theorem putSample_optics : (putSample s n x).optics = s.optics := rfl
@[simp] theorem putSample_qlt : (putSample s n x).qlt = s.qlt := rfl
@[simp] theorem putSample_plinth : (putSample s n x).plinth = s.plinth := rfl
@[simp] theorem putSample_keep : (putSample s n x).keep = s.keep := rfl
@[simp] theorem putSample_archive : (putSample s n x).archive = s.archive := rfl
@[simp] theorem putSample_rps : (putSample s n x).rps = s.rps := rfl
@[simp] theorem putSample_tel : (putSample s n x).tel = s.tel := rfl
@[simp] theorem putSample_cast : (putSample s n x).cast = s.cast := rfl
@[simp] theorem putSample_vddRequested : (putSample s n x).vddRequested = s.vddRequested := rfl
@[simp] theorem putSample_checkers : (putSample s n x).checkers = s.checkers := rfl
@[simp] theorem putSample_hostLink : (putSample s n x).hostLink = s.hostLink := rfl
@[simp] theorem putSample_mbox : (putSample s n x).mbox = s.mbox := rfl
@[simp] theorem putSample_memories : (putSample s n x).memories = s.memories := rfl
@[simp] theorem putSample_isram : (putSample s n x).isram = s.isram := rfl
@[simp] theorem putSample_cores : (putSample s n x).cores = s.cores := rfl
@[simp] theorem putSample_images : (putSample s n x).images = s.images := rfl
@[simp] theorem putSample_stepsDue : (putSample s n x).stepsDue = s.stepsDue := rfl
@[simp] theorem putSample_samples : (putSample s n x).samples = s.samples.set n x := rfl
@[simp] theorem putSample_pwrMgr : (putSample s n x).pwrMgr = s.pwrMgr := rfl
@[simp] theorem putSample_timeBase : (putSample s n x).timeBase = s.timeBase := rfl
@[simp] theorem putSample_selfTest : (putSample s n x).selfTest = s.selfTest := rfl
@[simp] theorem putSample_firmware : (putSample s n x).firmware = s.firmware := rfl
@[simp] theorem putSample_freeCount : (putSample s n x).freeCount = s.freeCount := rfl
@[simp] theorem putSample_staged : (putSample s n x).staged = s.staged := rfl
@[simp] theorem putSample_timers : (putSample s n x).timers = s.timers := rfl
@[simp] theorem putSample_pending : (putSample s n x).pending = s.pending := rfl
@[simp] theorem putSample_word (q : Page) (off : Nat) : word (putSample s n x) q off = word s q off := rfl
@[simp] theorem putSample_get (q : Page) (g : Field) : State.get (putSample s n x) q g = s.get q g := rfl
@[simp] theorem putSample_flag (q : Page) (g : Field) : State.flag (putSample s n x) q g = s.flag q g := rfl

end

/-! ## putHk -/

section

variable (s : State) (n : Fin 2) (x : Housekeeper)

@[simp] theorem putHk_regs : (putHk s n x).regs = s.regs := rfl
@[simp] theorem putHk_latches : (putHk s n x).latches = s.latches := rfl
@[simp] theorem putHk_answer : (putHk s n x).answer = s.answer := rfl
@[simp] theorem putHk_hostReady : (putHk s n x).hostReady = s.hostReady := rfl
@[simp] theorem putHk_journal : (putHk s n x).journal = s.journal := rfl
@[simp] theorem putHk_evr : (putHk s n x).evr = s.evr := rfl
@[simp] theorem putHk_msix : (putHk s n x).msix = s.msix := rfl
@[simp] theorem putHk_semaphores : (putHk s n x).semaphores = s.semaphores := rfl
@[simp] theorem putHk_pairMatches : (putHk s n x).pairMatches = s.pairMatches := rfl
@[simp] theorem putHk_tickEvents : (putHk s n x).tickEvents = s.tickEvents := rfl
@[simp] theorem putHk_nowNs : (putHk s n x).nowNs = s.nowNs := rfl
@[simp] theorem putHk_elapsedNs : (putHk s n x).elapsedNs = s.elapsedNs := rfl
@[simp] theorem putHk_framer : (putHk s n x).framer = s.framer := rfl
@[simp] theorem putHk_fec : (putHk s n x).fec = s.fec := rfl
@[simp] theorem putHk_cpc : (putHk s n x).cpc = s.cpc := rfl
@[simp] theorem putHk_cipher : (putHk s n x).cipher = s.cipher := rfl
@[simp] theorem putHk_hk : (putHk s n x).hk = s.hk.set n x := rfl
@[simp] theorem putHk_aux : (putHk s n x).aux = s.aux := rfl
@[simp] theorem putHk_cal : (putHk s n x).cal = s.cal := rfl
@[simp] theorem putHk_txDsp : (putHk s n x).txDsp = s.txDsp := rfl
@[simp] theorem putHk_txLane : (putHk s n x).txLane = s.txLane := rfl
@[simp] theorem putHk_lineRx : (putHk s n x).lineRx = s.lineRx := rfl
@[simp] theorem putHk_carrierRec : (putHk s n x).carrierRec = s.carrierRec := rfl
@[simp] theorem putHk_demapper : (putHk s n x).demapper = s.demapper := rfl
@[simp] theorem putHk_dispersion : (putHk s n x).dispersion = s.dispersion := rfl
@[simp] theorem putHk_equaliser : (putHk s n x).equaliser = s.equaliser := rfl
@[simp] theorem putHk_tunedN : (putHk s n x).tunedN = s.tunedN := rfl
@[simp] theorem putHk_dsram : (putHk s n x).dsram = s.dsram := rfl
@[simp] theorem putHk_optics : (putHk s n x).optics = s.optics := rfl
@[simp] theorem putHk_qlt : (putHk s n x).qlt = s.qlt := rfl
@[simp] theorem putHk_plinth : (putHk s n x).plinth = s.plinth := rfl
@[simp] theorem putHk_keep : (putHk s n x).keep = s.keep := rfl
@[simp] theorem putHk_archive : (putHk s n x).archive = s.archive := rfl
@[simp] theorem putHk_rps : (putHk s n x).rps = s.rps := rfl
@[simp] theorem putHk_tel : (putHk s n x).tel = s.tel := rfl
@[simp] theorem putHk_cast : (putHk s n x).cast = s.cast := rfl
@[simp] theorem putHk_vddRequested : (putHk s n x).vddRequested = s.vddRequested := rfl
@[simp] theorem putHk_checkers : (putHk s n x).checkers = s.checkers := rfl
@[simp] theorem putHk_hostLink : (putHk s n x).hostLink = s.hostLink := rfl
@[simp] theorem putHk_mbox : (putHk s n x).mbox = s.mbox := rfl
@[simp] theorem putHk_memories : (putHk s n x).memories = s.memories := rfl
@[simp] theorem putHk_isram : (putHk s n x).isram = s.isram := rfl
@[simp] theorem putHk_cores : (putHk s n x).cores = s.cores := rfl
@[simp] theorem putHk_images : (putHk s n x).images = s.images := rfl
@[simp] theorem putHk_stepsDue : (putHk s n x).stepsDue = s.stepsDue := rfl
@[simp] theorem putHk_samples : (putHk s n x).samples = s.samples := rfl
@[simp] theorem putHk_pwrMgr : (putHk s n x).pwrMgr = s.pwrMgr := rfl
@[simp] theorem putHk_timeBase : (putHk s n x).timeBase = s.timeBase := rfl
@[simp] theorem putHk_selfTest : (putHk s n x).selfTest = s.selfTest := rfl
@[simp] theorem putHk_firmware : (putHk s n x).firmware = s.firmware := rfl
@[simp] theorem putHk_freeCount : (putHk s n x).freeCount = s.freeCount := rfl
@[simp] theorem putHk_staged : (putHk s n x).staged = s.staged := rfl
@[simp] theorem putHk_timers : (putHk s n x).timers = s.timers := rfl
@[simp] theorem putHk_pending : (putHk s n x).pending = s.pending := rfl
@[simp] theorem putHk_word (q : Page) (off : Nat) : word (putHk s n x) q off = word s q off := rfl
@[simp] theorem putHk_get (q : Page) (g : Field) : State.get (putHk s n x) q g = s.get q g := rfl
@[simp] theorem putHk_flag (q : Page) (g : Field) : State.flag (putHk s n x) q g = s.flag q g := rfl

end

/-! ## State.setTel -/

section

variable (s : State) (x : Telemetry)

@[simp] theorem State.setTel_regs : (State.setTel s x).regs = s.regs := rfl
@[simp] theorem State.setTel_latches : (State.setTel s x).latches = s.latches := rfl
@[simp] theorem State.setTel_answer : (State.setTel s x).answer = s.answer := rfl
@[simp] theorem State.setTel_hostReady : (State.setTel s x).hostReady = s.hostReady := rfl
@[simp] theorem State.setTel_journal : (State.setTel s x).journal = s.journal := rfl
@[simp] theorem State.setTel_evr : (State.setTel s x).evr = s.evr := rfl
@[simp] theorem State.setTel_msix : (State.setTel s x).msix = s.msix := rfl
@[simp] theorem State.setTel_semaphores : (State.setTel s x).semaphores = s.semaphores := rfl
@[simp] theorem State.setTel_pairMatches : (State.setTel s x).pairMatches = s.pairMatches := rfl
@[simp] theorem State.setTel_tickEvents : (State.setTel s x).tickEvents = s.tickEvents := rfl
@[simp] theorem State.setTel_nowNs : (State.setTel s x).nowNs = s.nowNs := rfl
@[simp] theorem State.setTel_elapsedNs : (State.setTel s x).elapsedNs = s.elapsedNs := rfl
@[simp] theorem State.setTel_framer : (State.setTel s x).framer = s.framer := rfl
@[simp] theorem State.setTel_fec : (State.setTel s x).fec = s.fec := rfl
@[simp] theorem State.setTel_cpc : (State.setTel s x).cpc = s.cpc := rfl
@[simp] theorem State.setTel_cipher : (State.setTel s x).cipher = s.cipher := rfl
@[simp] theorem State.setTel_hk : (State.setTel s x).hk = s.hk := rfl
@[simp] theorem State.setTel_aux : (State.setTel s x).aux = s.aux := rfl
@[simp] theorem State.setTel_cal : (State.setTel s x).cal = s.cal := rfl
@[simp] theorem State.setTel_txDsp : (State.setTel s x).txDsp = s.txDsp := rfl
@[simp] theorem State.setTel_txLane : (State.setTel s x).txLane = s.txLane := rfl
@[simp] theorem State.setTel_lineRx : (State.setTel s x).lineRx = s.lineRx := rfl
@[simp] theorem State.setTel_carrierRec : (State.setTel s x).carrierRec = s.carrierRec := rfl
@[simp] theorem State.setTel_demapper : (State.setTel s x).demapper = s.demapper := rfl
@[simp] theorem State.setTel_dispersion : (State.setTel s x).dispersion = s.dispersion := rfl
@[simp] theorem State.setTel_equaliser : (State.setTel s x).equaliser = s.equaliser := rfl
@[simp] theorem State.setTel_tunedN : (State.setTel s x).tunedN = s.tunedN := rfl
@[simp] theorem State.setTel_dsram : (State.setTel s x).dsram = s.dsram := rfl
@[simp] theorem State.setTel_optics : (State.setTel s x).optics = s.optics := rfl
@[simp] theorem State.setTel_qlt : (State.setTel s x).qlt = s.qlt := rfl
@[simp] theorem State.setTel_plinth : (State.setTel s x).plinth = s.plinth := rfl
@[simp] theorem State.setTel_keep : (State.setTel s x).keep = s.keep := rfl
@[simp] theorem State.setTel_archive : (State.setTel s x).archive = s.archive := rfl
@[simp] theorem State.setTel_rps : (State.setTel s x).rps = s.rps := rfl
@[simp] theorem State.setTel_tel : (State.setTel s x).tel = x := rfl
@[simp] theorem State.setTel_cast : (State.setTel s x).cast = s.cast := rfl
@[simp] theorem State.setTel_vddRequested : (State.setTel s x).vddRequested = s.vddRequested := rfl
@[simp] theorem State.setTel_checkers : (State.setTel s x).checkers = s.checkers := rfl
@[simp] theorem State.setTel_hostLink : (State.setTel s x).hostLink = s.hostLink := rfl
@[simp] theorem State.setTel_mbox : (State.setTel s x).mbox = s.mbox := rfl
@[simp] theorem State.setTel_memories : (State.setTel s x).memories = s.memories := rfl
@[simp] theorem State.setTel_isram : (State.setTel s x).isram = s.isram := rfl
@[simp] theorem State.setTel_cores : (State.setTel s x).cores = s.cores := rfl
@[simp] theorem State.setTel_images : (State.setTel s x).images = s.images := rfl
@[simp] theorem State.setTel_stepsDue : (State.setTel s x).stepsDue = s.stepsDue := rfl
@[simp] theorem State.setTel_samples : (State.setTel s x).samples = s.samples := rfl
@[simp] theorem State.setTel_pwrMgr : (State.setTel s x).pwrMgr = s.pwrMgr := rfl
@[simp] theorem State.setTel_timeBase : (State.setTel s x).timeBase = s.timeBase := rfl
@[simp] theorem State.setTel_selfTest : (State.setTel s x).selfTest = s.selfTest := rfl
@[simp] theorem State.setTel_firmware : (State.setTel s x).firmware = s.firmware := rfl
@[simp] theorem State.setTel_freeCount : (State.setTel s x).freeCount = s.freeCount := rfl
@[simp] theorem State.setTel_staged : (State.setTel s x).staged = s.staged := rfl
@[simp] theorem State.setTel_timers : (State.setTel s x).timers = s.timers := rfl
@[simp] theorem State.setTel_pending : (State.setTel s x).pending = s.pending := rfl
@[simp] theorem State.setTel_word (q : Page) (off : Nat) : word (State.setTel s x) q off = word s q off := rfl
@[simp] theorem State.setTel_get (q : Page) (g : Field) : State.get (State.setTel s x) q g = s.get q g := rfl
@[simp] theorem State.setTel_flag (q : Page) (g : Field) : State.flag (State.setTel s x) q g = s.flag q g := rfl

end

/-! ## State.setArchive -/

section

variable (s : State) (x : Archive)

@[simp] theorem State.setArchive_regs : (State.setArchive s x).regs = s.regs := rfl
@[simp] theorem State.setArchive_latches : (State.setArchive s x).latches = s.latches := rfl
@[simp] theorem State.setArchive_answer : (State.setArchive s x).answer = s.answer := rfl
@[simp] theorem State.setArchive_hostReady : (State.setArchive s x).hostReady = s.hostReady := rfl
@[simp] theorem State.setArchive_journal : (State.setArchive s x).journal = s.journal := rfl
@[simp] theorem State.setArchive_evr : (State.setArchive s x).evr = s.evr := rfl
@[simp] theorem State.setArchive_msix : (State.setArchive s x).msix = s.msix := rfl
@[simp] theorem State.setArchive_semaphores : (State.setArchive s x).semaphores = s.semaphores := rfl
@[simp] theorem State.setArchive_pairMatches : (State.setArchive s x).pairMatches = s.pairMatches := rfl
@[simp] theorem State.setArchive_tickEvents : (State.setArchive s x).tickEvents = s.tickEvents := rfl
@[simp] theorem State.setArchive_nowNs : (State.setArchive s x).nowNs = s.nowNs := rfl
@[simp] theorem State.setArchive_elapsedNs : (State.setArchive s x).elapsedNs = s.elapsedNs := rfl
@[simp] theorem State.setArchive_framer : (State.setArchive s x).framer = s.framer := rfl
@[simp] theorem State.setArchive_fec : (State.setArchive s x).fec = s.fec := rfl
@[simp] theorem State.setArchive_cpc : (State.setArchive s x).cpc = s.cpc := rfl
@[simp] theorem State.setArchive_cipher : (State.setArchive s x).cipher = s.cipher := rfl
@[simp] theorem State.setArchive_hk : (State.setArchive s x).hk = s.hk := rfl
@[simp] theorem State.setArchive_aux : (State.setArchive s x).aux = s.aux := rfl
@[simp] theorem State.setArchive_cal : (State.setArchive s x).cal = s.cal := rfl
@[simp] theorem State.setArchive_txDsp : (State.setArchive s x).txDsp = s.txDsp := rfl
@[simp] theorem State.setArchive_txLane : (State.setArchive s x).txLane = s.txLane := rfl
@[simp] theorem State.setArchive_lineRx : (State.setArchive s x).lineRx = s.lineRx := rfl
@[simp] theorem State.setArchive_carrierRec : (State.setArchive s x).carrierRec = s.carrierRec := rfl
@[simp] theorem State.setArchive_demapper : (State.setArchive s x).demapper = s.demapper := rfl
@[simp] theorem State.setArchive_dispersion : (State.setArchive s x).dispersion = s.dispersion := rfl
@[simp] theorem State.setArchive_equaliser : (State.setArchive s x).equaliser = s.equaliser := rfl
@[simp] theorem State.setArchive_tunedN : (State.setArchive s x).tunedN = s.tunedN := rfl
@[simp] theorem State.setArchive_dsram : (State.setArchive s x).dsram = s.dsram := rfl
@[simp] theorem State.setArchive_optics : (State.setArchive s x).optics = s.optics := rfl
@[simp] theorem State.setArchive_qlt : (State.setArchive s x).qlt = s.qlt := rfl
@[simp] theorem State.setArchive_plinth : (State.setArchive s x).plinth = s.plinth := rfl
@[simp] theorem State.setArchive_keep : (State.setArchive s x).keep = s.keep := rfl
@[simp] theorem State.setArchive_archive : (State.setArchive s x).archive = x := rfl
@[simp] theorem State.setArchive_rps : (State.setArchive s x).rps = s.rps := rfl
@[simp] theorem State.setArchive_tel : (State.setArchive s x).tel = s.tel := rfl
@[simp] theorem State.setArchive_cast : (State.setArchive s x).cast = s.cast := rfl
@[simp] theorem State.setArchive_vddRequested : (State.setArchive s x).vddRequested = s.vddRequested := rfl
@[simp] theorem State.setArchive_checkers : (State.setArchive s x).checkers = s.checkers := rfl
@[simp] theorem State.setArchive_hostLink : (State.setArchive s x).hostLink = s.hostLink := rfl
@[simp] theorem State.setArchive_mbox : (State.setArchive s x).mbox = s.mbox := rfl
@[simp] theorem State.setArchive_memories : (State.setArchive s x).memories = s.memories := rfl
@[simp] theorem State.setArchive_isram : (State.setArchive s x).isram = s.isram := rfl
@[simp] theorem State.setArchive_cores : (State.setArchive s x).cores = s.cores := rfl
@[simp] theorem State.setArchive_images : (State.setArchive s x).images = s.images := rfl
@[simp] theorem State.setArchive_stepsDue : (State.setArchive s x).stepsDue = s.stepsDue := rfl
@[simp] theorem State.setArchive_samples : (State.setArchive s x).samples = s.samples := rfl
@[simp] theorem State.setArchive_pwrMgr : (State.setArchive s x).pwrMgr = s.pwrMgr := rfl
@[simp] theorem State.setArchive_timeBase : (State.setArchive s x).timeBase = s.timeBase := rfl
@[simp] theorem State.setArchive_selfTest : (State.setArchive s x).selfTest = s.selfTest := rfl
@[simp] theorem State.setArchive_firmware : (State.setArchive s x).firmware = s.firmware := rfl
@[simp] theorem State.setArchive_freeCount : (State.setArchive s x).freeCount = s.freeCount := rfl
@[simp] theorem State.setArchive_staged : (State.setArchive s x).staged = s.staged := rfl
@[simp] theorem State.setArchive_timers : (State.setArchive s x).timers = s.timers := rfl
@[simp] theorem State.setArchive_pending : (State.setArchive s x).pending = s.pending := rfl
@[simp] theorem State.setArchive_word (q : Page) (off : Nat) : word (State.setArchive s x) q off = word s q off := rfl
@[simp] theorem State.setArchive_get (q : Page) (g : Field) : State.get (State.setArchive s x) q g = s.get q g := rfl
@[simp] theorem State.setArchive_flag (q : Page) (g : Field) : State.flag (State.setArchive s x) q g = s.flag q g := rfl

end

/-! ## State.setMbox -/

section

variable (s : State) (x : HostMailbox)

@[simp] theorem State.setMbox_regs : (State.setMbox s x).regs = s.regs := rfl
@[simp] theorem State.setMbox_latches : (State.setMbox s x).latches = s.latches := rfl
@[simp] theorem State.setMbox_answer : (State.setMbox s x).answer = s.answer := rfl
@[simp] theorem State.setMbox_hostReady : (State.setMbox s x).hostReady = s.hostReady := rfl
@[simp] theorem State.setMbox_journal : (State.setMbox s x).journal = s.journal := rfl
@[simp] theorem State.setMbox_evr : (State.setMbox s x).evr = s.evr := rfl
@[simp] theorem State.setMbox_msix : (State.setMbox s x).msix = s.msix := rfl
@[simp] theorem State.setMbox_semaphores : (State.setMbox s x).semaphores = s.semaphores := rfl
@[simp] theorem State.setMbox_pairMatches : (State.setMbox s x).pairMatches = s.pairMatches := rfl
@[simp] theorem State.setMbox_tickEvents : (State.setMbox s x).tickEvents = s.tickEvents := rfl
@[simp] theorem State.setMbox_nowNs : (State.setMbox s x).nowNs = s.nowNs := rfl
@[simp] theorem State.setMbox_elapsedNs : (State.setMbox s x).elapsedNs = s.elapsedNs := rfl
@[simp] theorem State.setMbox_framer : (State.setMbox s x).framer = s.framer := rfl
@[simp] theorem State.setMbox_fec : (State.setMbox s x).fec = s.fec := rfl
@[simp] theorem State.setMbox_cpc : (State.setMbox s x).cpc = s.cpc := rfl
@[simp] theorem State.setMbox_cipher : (State.setMbox s x).cipher = s.cipher := rfl
@[simp] theorem State.setMbox_hk : (State.setMbox s x).hk = s.hk := rfl
@[simp] theorem State.setMbox_aux : (State.setMbox s x).aux = s.aux := rfl
@[simp] theorem State.setMbox_cal : (State.setMbox s x).cal = s.cal := rfl
@[simp] theorem State.setMbox_txDsp : (State.setMbox s x).txDsp = s.txDsp := rfl
@[simp] theorem State.setMbox_txLane : (State.setMbox s x).txLane = s.txLane := rfl
@[simp] theorem State.setMbox_lineRx : (State.setMbox s x).lineRx = s.lineRx := rfl
@[simp] theorem State.setMbox_carrierRec : (State.setMbox s x).carrierRec = s.carrierRec := rfl
@[simp] theorem State.setMbox_demapper : (State.setMbox s x).demapper = s.demapper := rfl
@[simp] theorem State.setMbox_dispersion : (State.setMbox s x).dispersion = s.dispersion := rfl
@[simp] theorem State.setMbox_equaliser : (State.setMbox s x).equaliser = s.equaliser := rfl
@[simp] theorem State.setMbox_tunedN : (State.setMbox s x).tunedN = s.tunedN := rfl
@[simp] theorem State.setMbox_dsram : (State.setMbox s x).dsram = s.dsram := rfl
@[simp] theorem State.setMbox_optics : (State.setMbox s x).optics = s.optics := rfl
@[simp] theorem State.setMbox_qlt : (State.setMbox s x).qlt = s.qlt := rfl
@[simp] theorem State.setMbox_plinth : (State.setMbox s x).plinth = s.plinth := rfl
@[simp] theorem State.setMbox_keep : (State.setMbox s x).keep = s.keep := rfl
@[simp] theorem State.setMbox_archive : (State.setMbox s x).archive = s.archive := rfl
@[simp] theorem State.setMbox_rps : (State.setMbox s x).rps = s.rps := rfl
@[simp] theorem State.setMbox_tel : (State.setMbox s x).tel = s.tel := rfl
@[simp] theorem State.setMbox_cast : (State.setMbox s x).cast = s.cast := rfl
@[simp] theorem State.setMbox_vddRequested : (State.setMbox s x).vddRequested = s.vddRequested := rfl
@[simp] theorem State.setMbox_checkers : (State.setMbox s x).checkers = s.checkers := rfl
@[simp] theorem State.setMbox_hostLink : (State.setMbox s x).hostLink = s.hostLink := rfl
@[simp] theorem State.setMbox_mbox : (State.setMbox s x).mbox = x := rfl
@[simp] theorem State.setMbox_memories : (State.setMbox s x).memories = s.memories := rfl
@[simp] theorem State.setMbox_isram : (State.setMbox s x).isram = s.isram := rfl
@[simp] theorem State.setMbox_cores : (State.setMbox s x).cores = s.cores := rfl
@[simp] theorem State.setMbox_images : (State.setMbox s x).images = s.images := rfl
@[simp] theorem State.setMbox_stepsDue : (State.setMbox s x).stepsDue = s.stepsDue := rfl
@[simp] theorem State.setMbox_samples : (State.setMbox s x).samples = s.samples := rfl
@[simp] theorem State.setMbox_pwrMgr : (State.setMbox s x).pwrMgr = s.pwrMgr := rfl
@[simp] theorem State.setMbox_timeBase : (State.setMbox s x).timeBase = s.timeBase := rfl
@[simp] theorem State.setMbox_selfTest : (State.setMbox s x).selfTest = s.selfTest := rfl
@[simp] theorem State.setMbox_firmware : (State.setMbox s x).firmware = s.firmware := rfl
@[simp] theorem State.setMbox_freeCount : (State.setMbox s x).freeCount = s.freeCount := rfl
@[simp] theorem State.setMbox_staged : (State.setMbox s x).staged = s.staged := rfl
@[simp] theorem State.setMbox_timers : (State.setMbox s x).timers = s.timers := rfl
@[simp] theorem State.setMbox_pending : (State.setMbox s x).pending = s.pending := rfl
@[simp] theorem State.setMbox_word (q : Page) (off : Nat) : word (State.setMbox s x) q off = word s q off := rfl
@[simp] theorem State.setMbox_get (q : Page) (g : Field) : State.get (State.setMbox s x) q g = s.get q g := rfl
@[simp] theorem State.setMbox_flag (q : Page) (g : Field) : State.flag (State.setMbox s x) q g = s.flag q g := rfl

end

end Sys2Proof.Machine
end

