-- ==== Sys2Proof/Laws/Writes.lean ====
section
/-! SUPPORT. Laws/Writes.lean: what the write of one register can change: what its own effect can, and what any write can
(the waiting live fields, the journal, the refusal counts, THIN and the wake from Idle). -/
namespace Sys2Proof.Machine

set_option Elab.async false

open Sys2Proof

/-- The parts of the state that any write of a register can change beside the register and its effect. -/
def anyWrite : Nat := 158456855335534133129989063344

/-- A write of CAST.RING has no effect beside the stored word. -/
theorem writeEffect_castRing (o : Origin) (old v : Word) (env : List Int) (s : State) :
    writeEffect o .cast CAST.RING.THIN.off old v env s = s := rfl

/-- No register of a page lies in a debug window. -/
theorem debugCore_pageBase (p : Page) (off : Nat) (h : off < 0x1000) : debugCore (pageBase p + off) = none := by
  have hp : pageBase p < 0x100000 := by
    cases p with
    | txp c | cdc c | eqz c | trc c | cpr c | mls c | dmp c | fec c | lfm c | cry c | cpc c => cases c <;> simp [pageBase, Carrier.idx]
    | _ => simp [pageBase] <;> omega
  simp [debugCore, show ¬0x1000000 ≤ pageBase p + off by omega]

theorem settle_of_none {s : State} (h : s.stepsDue = []) : settle s = s := by
  simp [settle, drainSteps, h]

/-- A page's write, by what its effect can change. -/
theorem writePage_by {K : Nat} {o : Origin} {p : Page} {off : Nat} {v : Word} {env : List Int} {s0 s : State}
    (h : Within K s0 s) (hk : anyWrite ||| K = K) (hp : pageBit p ||| K = K)
    (he : ∀ old u, Within K s0 u → Within K s0 (writeEffect o p off old v env u))
    (hu : ∀ old, Within K s0 (unchangedWritten p off old v s)) : Within K s0 (writePage o p off v env s) := by
  have ha : Within K s0 (acceptWrite o p off v env s) := by
    unfold acceptWrite
    extract_lets -merge -useContext x1 x2 x3 x4 x5
    have h2 : Within K s0 x2 := storeWrite_within h (Within.sub hk (by simp [anyWrite])) hp
    exact he _ _ (journalAccepted_within (State.addWrap_within h2 hp) (Within.sub hk (by simp [anyWrite])))
  unfold writePage
  split
  · exact Within.ite ha (hu _)
  · exact refuseWrite_within h (Within.sub hk (by simp [anyWrite])) hp

/-- Patina's own write of THIN. -/
theorem thinWrite_narrow {K : Nat} {s0 s : State} (h : Within K s0 s) (hk : anyWrite ||| K = K) :
    Within K s0 (thinWrite s) := by
  have hc : pageBit .cast ||| K = K := Within.sub hk (by simp [anyWrite, pageBit])
  have hw : ∀ o v env, Within K s0 (writeOnce o (pageBase .cast + CAST.RING.THIN.off) v env s) := fun o v env =>
    writePage_by (p := .cast) (off := CAST.RING.THIN.off) h hk hc (fun _ _ hu => hu) (fun _ => h)
  unfold thinWrite
  extract_lets -merge -useContext x1 x2
  have h2 : Within K s0 x2 := hw _ _ _
  exact Within.ite h (Within.ite h (Within.ite (State.raise_within h2 (Within.sub hk (by simp [anyWrite]))
    (Within.sub hk (by simp [anyWrite, pageBit]))) h2))

theorem ringFollow_narrow {K : Nat} {s s0 t : State} (h : Within K s0 t) (hk : anyWrite ||| K = K) :
    Within K s0 (ringFollow s t) := by
  unfold ringFollow
  exact Within.ite (thinWrite_narrow (ringEvaluate_within h (Within.sub hk (by simp [anyWrite]))) hk) h

/-- A write of the register at `off` of page `p`, by what its effect can change.  `hs` says that STEP is not among it. -/
theorem busWrite_by {K : Nat} {o : Origin} {p : Page} {off : Nat} {v : Word} {env : List Int} {s : State}
    (hoff : off < 0x1000) (hk : anyWrite ||| K = K) (hp : pageBit p ||| K = K) (hs : K.testBit 44 = false)
    (hd : s.stepsDue = [])
    (he : ∀ old u, Within K s u → Within K s (writeEffect o p off old v env u))
    (hu : ∀ old u, Within K s u → Within K s (unchangedWritten p off old v u)) :
    Within K s (busWrite o (pageBase p + off) v env s) := by
  unfold busWrite
  refine Within.ite (State.bump_within (Within.refl _ _) (Within.sub hk (by simp [anyWrite, pageBit]))) ?_
  have h1 : Within K s (busAccess o (pageBase p + off) s) :=
    busAccess_within (Within.refl _ _) (Within.sub hk (by simp [anyWrite]))
  have hw : Within K s (writeReg o (pageBase p + off) v env (busAccess o (pageBase p + off) s)) := by
    unfold writeReg
    refine ringFollow_narrow ?_ hk
    unfold writeOnce
    rw [debugCore_pageBase p off hoff, pageOfAddr_pageBase p off hoff]
    simp only [Nat.add_mod, pageBase_dvd, Nat.mod_eq_of_lt hoff, Nat.zero_add]
    exact writePage_by h1 hk hp he (fun old => hu old _ h1)
  unfold writeSettled
  rw [settle_of_none ((hw.stepsDue hs).trans hd)]
  exact hw

end Sys2Proof.Machine
end

