-- ==== Sys2Proof/Tests/States.lean ====
section
/-! SUPPORT. Tests/States.lean: the small states that the tests and the witnesses start from. -/
namespace Sys2Proof.Tests

open Sys2Proof.Machine

/-- The reset state with some fields set. -/
def put (xs : List (Sys2Proof.Page × Field × Nat)) (s : State := State.reset) : State :=
  xs.foldl (fun s x => s.set x.1 x.2.1 x.2.2) s

/-- A timer that started at 0, and far more than any time of the spec since. -/
def clocked (tm : Timer) (s : State := State.reset) : State :=
  { s with timers := [(tm, 0)], elapsedNs := 10 ^ 15 }

/-- The reset state with some pages running. -/
def up (ps : List Sys2Proof.Page) (s : State := State.reset) : State :=
  ps.foldl (fun s p => s.setRun p .running) s

/-- A state whose host is ready. -/
def ready (s : State := State.reset) : State := { s with hostReady := true }

/-- Carrier A's path in a session of its own, with Quolet and RK1 running. -/
def inSession (x : Session) (s : State := State.reset) : State :=
  let s := up [.qlt, .rk 1] s
  putSession (s.setQlt { s.qlt with owner := s.qlt.owner.set .a (some .a) }) .a x

/-- A session in a state of R260, and a KEYED one with one MAC key. -/
def inState (st : Nat) : Session := { Session.down with state := st }
def keyedSession : Session := { inState sessKeyed with keys := [⟨0, 0, 0⟩] }

/-- A message with a body, and the same under the MAC key of `keyedSession`. -/
def plain (body : List Sys2Proof.Byte) : Sys2Proof.Message := ⟨0, 0, 0, body, [], none⟩
def sealed (type : Nat) (body : List Sys2Proof.Byte) : Sys2Proof.Message :=
  ⟨2, 0, 0, body, [], some (0, macOf 0 type ⟨2, 0, 0, body, [], none⟩ 0)⟩

/-- A running core with some registers set. -/
def coreIn (n : Fin 8) (f : Core → Core := id) (s : State := State.reset) : State :=
  putCore (up [.rk n] s) n (f (coreAt s n))

/-- Source 9 pending and routed to line 4 of core 5. -/
def lineIn (s : State) : State := { s with evr := { s.evr with routes := [(9, 0x5280)], pending := [9] } }

/-- A capsule that has passed checks 1 to 5, and a request to the Plinth's engine from PLN's mailbox. -/
def capsule (cmd : Nat) (body : List Sys2Proof.Byte) (s : State := State.reset) : State :=
  s.setPlinth { s.plinth with request := some ⟨false, 1, []⟩, running := some ⟨cmd, 0, 7, 0, body⟩ }
def asked (req : Nat) (input : List Sys2Proof.Byte) (s : State := State.reset) : State :=
  s.setPlinth { s.plinth with request := some ⟨false, req, input⟩ }

/-- A carrier whose DACs have started to read, a lane whose ingress EB has dropped a block, a full client ingress EB, and
egress EBs that hold `k` blocks each. -/
def reading (c : Carrier) (s : State := State.reset) : State := setTxDsp s c { s.txDsp.get c with reading := true }
def lostBlock (n : Fin 8) (s : State := State.reset) : State := putLineRx s n { lineRx s n with lost := 1 }
def fullIngress (c : Carrier) (s : State := State.reset) : State :=
  s.setCpc c { s.cpc.get c with ingress := List.replicate 256 (0, .uncorrectable) }
def codesHeld (k : Nat) (c : Carrier) (s : State := State.reset) : State :=
  (carrierLanes c).foldl (fun s n => putTxLane s n { txLane s n with egress := List.replicate k (0, []) }) s

/-- RK1 has decoded `n` link words of a pilot channel. -/
def heardWords (x : Carrier) (n : Nat) (s : State := State.reset) : State :=
  let p := s.qlt.pilotRx.get x
  putSearch x { p with even := { p.even with bits := (List.replicate n (msbBits 64 0xD300000000000001)).flatten } } s

/-- A port ahead of the calendar, and one whose egress EB holds a block. -/
def ahead (c : Carrier) (q : Fin 4) (s : State := State.reset) : State :=
  let s := up [.cpc c] ((s.set (.cpc c) (CPC.PSTAT.ADMITTED.at q.val) 1).set (.cpc c) (CPC.PSTAT.ISTATE.at q.val) 2)
  s.setCpc c { s.cpc.get c with ingress := List.replicate 250 (q, .uncorrectable) }
def waitingOut (c : Carrier) (q : Nat) (b : Option (BitVec 257)) (s : State := State.reset) : State :=
  s.setCpc c { s.cpc.get c with egress := [(q, b)] }

/-- The line receivers of each carrier. -/
def lanesA : List Sys2Proof.Page := [.lrx 0, .lrx 1, .lrx 2, .lrx 3]
def lanesB : List Sys2Proof.Page := [.lrx 4, .lrx 5, .lrx 6, .lrx 7]

/-- 256 payload periods for DMP_x, clipped or not, and a carrier that has received them in the last block of a period of R194. -/
def softs (clipped : Bool) : List SoftPeriod :=
  List.replicate 256 ⟨true, [], [3, 3, 3, 3], [1, 1, 1, 1], true, false, bif clipped then 1 else 0, false⟩
def softIn (c : Carrier) (block : List SoftPeriod) (s : State := State.reset) : State :=
  setDemapper s c { s.demapper.get c with soft := block, varBlocks := 1023 }

/-- A lane after eight large samples, a block of one sample that waits for the TX FIR, and a lane with such blocks. -/
def loud (n : Fin 8) (s : State := State.reset) : State :=
  putTxLane s n { txLane s n with history := List.replicate 8 (2 ^ 60) }
def shaped (number : Nat) (v : Int) : ShapedBlock := ⟨number, 0, 0, 1, 1, [v]⟩
def shapedIn (n : Fin 8) (bs : List ShapedBlock) (s : State := State.reset) : State :=
  putTxLane s n { txLane s n with shaped := bs }

/-- FEC_A in the state `state`, `checked` blocks into CHECK, with a whole observation of LLRs waiting; what its code makes of them
is unseen, an opaque value of Config. -/
def unseen (state checked : Nat) : State :=
  (up [.fec .a] (put [(.fec .a, FEC.STAT.STATE, state), (.fec .a, FEC.CTL.OBS_LOG2, 0), (.fec .a, FEC.CTL.ITER, 3)])).setFec .a
    { State.reset.fec.get .a with llrs := List.replicate 2048 0, checkBlocks := checked }

end Sys2Proof.Tests
end

