-- ==== Sys2Proof/Tests/Slice0.lean ====
section
/-! SUPPORT. Tests/Slice0.lean: the smoke tests of WellFormed, witnesses for the statements about the step and the frames, and
small tests of one step each, whose expected values are worked out by hand from the rule that the test names. -/
namespace Sys2Proof.Tests

open Sys2Proof Sys2Proof.Machine Sys2Proof.Safety

set_option maxRecDepth 20000
set_option Elab.async false

/-! Each check of `wellFormed` refuses a term. -/

/-- A message whose 9-bit FLAGS do not fit the byte of R253. -/
def wideFlags : Sys2Proof.Message := ⟨0x100, 0, 0, [], [], none⟩

theorem test_a_register_address_is_aligned : wellFormed (.registerWrite .host 0x11 0 []) = false := by decide
theorem test_a_register_lies_in_bar0 : wellFormed (.registerWrite .host 0x4000000 0 []) = false := by decide
theorem test_an_odd_access_has_a_byte : wellFormed (.hostMisalignedAccess true 0 0 0) = false := by decide
theorem test_an_odd_access_lies_in_bar0 : wellFormed (.hostMisalignedAccess true 0x3FFFFFF 2 0) = false := by decide
theorem test_an_aligned_read_is_served : wellFormed (.hostMisalignedAccess false 8 8 0) = false := by decide
theorem test_a_page_is_not_unmapped : wellFormed (.unmappedBar0Write .host 0x12FFC 0) = false := by decide
theorem test_a_debug_window_is_not_unmapped : wellFormed (.unmappedBar0Write .host 0x1FFFFFC 0) = false := by decide
theorem test_an_early_write_is_aligned : wellFormed (.earlyBar0Write 2 0) = false := by decide
theorem test_a_wide_read_is_aligned : wellFormed (.xLoReadLatch .host 4 true) = false := by decide
theorem test_the_plinth_needs_no_channel : wellFormed (.vcViolation .plinth) = false := by decide
theorem test_a_line_is_read_whole : wellFormed (.cxlMemRead 63) = false := by decide
theorem test_the_hdm_window_ends : wellFormed (.cxlMemRead (32 * 2 ^ 30)) = false := by decide
theorem test_a_line_has_64_bytes : wellFormed (.cxlMemWrite 0 [1]) = false := by decide
theorem test_a_granule_lies_in_memory :
    wellFormed (.granuleFirstWrite (124 * 2 ^ 30) (List.replicate 64 0)) = false := by decide
theorem test_a_read_line_lies_in_memory : wellFormed (.uninitialisedRead (124 * 2 ^ 30)) = false := by decide
theorem test_a_filled_granule_exists : wellFormed (.granuleFillDone (124 * 2 ^ 10)) = false := by decide
theorem test_a_remapped_line_exists : wellFormed (.rowRemapCopyDone (124 * 2 ^ 24)) = false := by decide
theorem test_a_trap_has_a_cause : wellFormed (.trapEntry 0 0 none 0) = false := by decide
theorem test_hello_is_known : wellFormed (.unknownTypeMessage .a 1 (plain [])) = false := by decide
theorem test_message_flags_fit :
    [wellFormed (.unknownTypeMessage .a 0x20 wideFlags), wellFormed (.ack .a wideFlags), wellFormed (.hello .a wideFlags),
      wellFormed (.caps .a wideFlags), wellFormed (.attest .a wideFlags), wellFormed (.kemInit .a wideFlags),
      wellFormed (.kemResp .a wideFlags), wellFormed (.keyConfirm .a wideFlags), wellFormed (.rekey .a wideFlags),
      wellFormed (.rateOffer .a wideFlags), wellFormed (.rateAccept .a wideFlags), wellFormed (.step .a wideFlags),
      wellFormed (.stepAck .a wideFlags), wellFormed (.routeSwitch .a wideFlags), wellFormed (.timeMsg .a wideFlags),
      wellFormed (.refuse .a wideFlags), wellFormed (.sleepReq .a (.received wideFlags)),
      wellFormed (.wakeMsg .a (.received wideFlags)), wellFormed (.telemetry .a (.received wideFlags))]
      = List.replicate 19 false := by decide
theorem test_sequence_numbers_have_32_bits : wellFormed (.ack .a ⟨0, 2 ^ 32, 0, [], [], none⟩) = false := by decide
theorem test_acknowledged_numbers_have_32_bits : wellFormed (.ack .a ⟨0, 0, 2 ^ 32, [], [], none⟩) = false := by decide
theorem test_a_message_has_at_most_16384_bytes :
    wellFormed (.ack .a (plain (List.replicate 16369 0))) = false := by decide +kernel
theorem test_a_signature_has_its_length : wellFormed (.ack .a ⟨1, 0, 0, [], [0], none⟩) = false := by decide
theorem test_an_epoch_is_a_byte : wellFormed (.ack .a ⟨2, 0, 0, [], [], some (256, 0)⟩) = false := by decide
theorem test_run_is_no_sleep : wellFormed (.sleepReq .a (.ask 0 0)) = false := by decide

/-! What meets the hypotheses of the statements about the step, the queue, the stops and the frames. -/

/-- A state with one command waiting. -/
def waiting (c : Instr) : State := { State.reset with pending := [c] }

theorem witness_StepRunsTheFrontCommand :
    ∃ (c : Instr) (rest : List Instr) (s : State), s.pending = c :: rest := ⟨_, _, waiting .getTimestamp, rfl⟩
theorem witness_AnEmptyQueueIdles :
    (∃ s : State, s.pending = [] ∧ s.power = pwrRun) ∧ (∃ s : State, s.pending = [] ∧ s.power = pwrIdle) ∧
    (∃ s : State, s.pending = [] ∧ s.power ≠ pwrRun ∧ s.power ≠ pwrIdle) :=
  ⟨⟨State.reset, by decide +kernel⟩, ⟨put [(.pwr, PWR.STAT.STATE, 1)], by decide +kernel⟩,
    ⟨put [(.pwr, PWR.STAT.STATE, 2)], by decide +kernel⟩⟩
theorem witness_WellFormedIsKept : ∃ s t : State, s.wf = true ∧ step s = .next t :=
  ⟨waiting .getTimestamp, _, by decide +kernel, rfl⟩
theorem witness_CommandsKeepTheQueue :
    (∃ (c : Instr) (s t : State), exec c s = .next t) ∧
    (∃ (c : Instr) (rest : List Instr) (s t : State), s.pending = c :: rest ∧ step s = .next t) :=
  ⟨⟨.getTimestamp, State.reset, _, rfl⟩, ⟨_, _, waiting .getTimestamp, _, rfl, rfl⟩⟩
theorem witness_OnlyAbsentAddressesStop :
    outsideWindows (.registerWrite .host 0x3FFFFFC 0 []) = none ∧
    outsideWindows (.registerWrite .host 0x4000000 0 []) = some .outsideBar0 ∧
    outsideWindows (.hostMisalignedAccess false 0x3FFFFFF 1 0) = none ∧
    outsideWindows (.hostMisalignedAccess false 0x3FFFFFF 2 0) = some .outsideBar0 ∧
    outsideWindows (.cxlMemRead (hdmBytes - 64)) = none ∧ outsideWindows (.cxlMemRead hdmBytes) = some .outsideHdm := by
  decide +kernel
theorem witness_ControlAndLineFrames :
    (∃ s t : State, exec (.pageStopComplete .pln) s = .next t) ∧
    (∃ s t : State, s.stepsDue = [] ∧ exec (.runctlRun .host .qlt) s = .next t) :=
  ⟨⟨State.reset, _, rfl⟩, ⟨State.reset, _, rfl, rfl⟩⟩
theorem witness_LinkAndRouteFrames :
    (∃ s t : State, exec (.ratchetDue .a) s = .next t) ∧
    (∃ s t : State, s.stepsDue = [] ∧ exec (.castSwTrig .host) s = .next t) :=
  ⟨⟨State.reset, _, rfl⟩, ⟨State.reset, _, rfl, rfl⟩⟩
theorem witness_ClientCoreAndMemoryFrames :
    (∃ s t : State, exec .perstRelease s = .next t) ∧
    (∃ s t : State, s.stepsDue = [] ∧ exec (.fabricClr .host true 1) s = .next t) :=
  ⟨⟨State.reset, _, rfl⟩, ⟨State.reset, _, rfl, rfl⟩⟩
theorem witness_PlinthAndDeviceFrames :
    (∃ s t : State, exec .submitCapsule s = .next t) ∧
    (∃ s t : State, s.stepsDue = [] ∧ exec (.pwrReq .host 1) s = .next t) :=
  ⟨⟨State.reset, _, rfl⟩, ⟨State.reset, _, rfl, rfl⟩⟩

/-! Steps with the values of the spec's worked examples. -/

/-- The state one step later, with `c` in front of the queue. -/
def after (c : Instr) (s : State) : State :=
  match step { s with pending := [c] } with
  | .next t => t
  | _ => s

/-- Chapter 2, "enabling carrier lock": a write of GLB.LOCKCTL while GLB runs is refused with STOP_ONLY. -/
theorem test_lockctl_is_written_in_stopped :
    word (after (.registerWrite .host 0x80 0x39 []) (ready (up [.glb]))) .glb 0x20 = 0x00050420 := by decide +kernel
/-- Chapter 2, routing source 962: the core's value with PLN_EN as it stands is accepted, one that clears it is refused. -/
theorem test_a_core_keeps_pln_en :
    let s := { put [(.evr, EVR.RT_INDEX.INDEX, 962)] with evr := { State.reset.evr with routes := [(962, 0x8000)] } }
    (after (.rtDataWrite (.rk 0) 0x3CE89) s).evr.staged = [(962, 0x3CE89)] ∧
      (after (.rtDataWrite (.rk 0) 0x34E89) s).get .evr HDR.REFUSED_WR.LAST_REASON = Reason.plinthOnly.code := by
  decide +kernel
/-- R72: the entry accepted last takes the place of the one in force at the next event message. -/
theorem test_a_route_waits_for_a_message :
    (after (.evrClearMessage 40) { State.reset with evr := { State.reset.evr with
      staged := [(962, 0x3CE89)], messages := [(40, false)] } }).evr.routes = [(962, 0x3CE89)] := by decide +kernel
/-- Chapter 24, a stray host write of EQZ_B.ACQ_STAT: REFUSED_WR, and INFO of its journal entry. -/
theorem test_a_stray_write_is_traced :
    let t := after (.registerWrite .host 0x52048 0 []) (ready (put [(.tb, TB.STAT.TB_VALID, 1)]))
    word t (.eqz .b) 0x20 = 0x0004C412 ∧
      (t.journal.buffer.getLast?.map fun e => (e.addr, e.info)) = some (0x52048, 0x4D1) := by decide +kernel
/-- Chapter 24, an uncorrectable error in group 1,005: FEC_B's PAGE_ID and ERRLOG. -/
theorem test_an_uncorrectable_error_reaches_its_page :
    let t := after (.uncorrectableError (.sram 1005 0x123) (.stage (.fec .b))) State.reset
    word t (.fec .b) 0 = 0x00370101 ∧ word t (.fec .b) 0x24 = 0x01E003ED ∧ word t .ecc ECC.LAST_UE.GROUP.off = 0x007DA123 := by
  decide +kernel
/-- Chapter 4, the bank swap: a second SWAP is held, a third refused. -/
theorem test_a_second_swap_is_held :
    let s := after (.txFirSwap .host .a 0x510) (ready)
    word s (.txp .a) TXP.FIR_XFADE.SWAP.off = 0x506 ∧
      word (after (.txFirSwap .host .a 0x510) s) (.txp .a) TXP.FIR_XFADE.SWAP.off = 0x50E := by decide +kernel
theorem test_a_third_swap_is_refused :
    let s := after (.txFirSwap .host .a 0x510) (after (.txFirSwap .host .a 0x510) (after (.txFirSwap .host .a 0x510) ready))
    word s (.txp .a) TXP.FIR_XFADE.SWAP.off = 0x0100050E := by decide +kernel
/-- Chapter 5, the first clipped block of lane 5 at gain code 20. -/
theorem test_a_clipped_block_opens_an_interval :
    word (after (.clip 5 [63]) (up lanesB (put [(.lrx 5, LRX.GAIN_STAT.APPLIED, 20)]))) (.lrx 5) LRX.GAIN_STAT.APPLIED.off
      = 0x1402 := by decide +kernel
/-- Chapter 9, a ratchet starts: once an activation has taken effect TX_STAT reads 0x22, with no slot pending. -/
theorem test_nothing_is_pending_after_an_activation :
    let s := put [(.cry .a, CRY.TX_STAT.PENDING, 1), (.cry .a, CRY.TX_STAT.COMMITTED, 1), (.cry .a, CRY.TX_STAT.PENDING_IDX, 2),
      (.cry .a, CRY.TX_STAT.ACTIVE_IDX, 1)]
    (after (.activationTakeEffect .a) s).get (.cry .a) CRY.TX_STAT.PENDING_IDX = 0 := by decide +kernel
/-- Chapter 16, the trellis bundle: its results and decision bits. -/
theorem test_acs_decides :
    let s := coreIn 1 fun c => { c with d := (((c.d.set 8 0x80107FF0).set 9 0x00F00100).set 12 0xFFEC000C) }
    let c := coreAt (after (.acs 1 false 16 8 12 0) s) 1
    [flightD (coreAt s 1) 16 0x7FE47FFC 2, flightD (coreAt s 1) 17 0x00DC00EC 2].all (c.flights.contains ·) = true ∧
      (c.flights.getLast?.map (·.value)) = some 8 := by decide +kernel
/-- Chapter 16, EXT at S = 16 of 98,304 and −98,304: both ties go up. -/
theorem test_ext_ties_go_up :
    let s := coreIn 1 fun c => { c with slow := (c.slow.set 0 98304).set 1 (-98304) }
    (coreAt (after (.ext 1 false 3 0 0 16) s) 1).flights.contains (flightD (coreAt s 1) 3 0xFFFF0002 2) = true := by
  decide +kernel
/-- Chapter 16, the ring at B2 with L2 = 0x100: the access at 0x20F8 leaves A2 at the base. -/
theorem test_a_ring_wraps :
    let s := coreIn 1 fun c => { c with b := c.b.set 2 0x2000, l := c.l.set 2 0x100, a := c.a.set 2 0x20F8 }
    (coreAt (after (.ldw 1 4 2 1 8) s) 1).a.getD 2 0 = 0x2000 := by decide +kernel
/-- Chapter 16, the ring shortened to 0x40 while A2 = 0x2048. -/
theorem test_a_shortened_ring_is_entered :
    let s := coreIn 1 fun c => { c with b := c.b.set 2 0x2000, l := c.l.set 2 0x40, a := c.a.set 2 0x2048 }
    let c := coreAt (after (.ldw 1 4 2 1 8) s) 1
    c.a.getD 2 0 = 0x2010 ∧ c.cbstat = 0x00010201 := by decide +kernel

/-- The table gives its commands no bits, so no word spells one. -/
theorem test_no_word_spells_a_command (nbits w : Nat) : decodeTableWord nbits w = none := rfl

end Sys2Proof.Tests
end

