-- ==== Sys2Proof/Tests/Witnesses.lean ====
section
/-! SUPPORT. Tests/Witnesses.lean: a state and operands that meet the hypotheses of every clause of the completion and rule
statements. -/
namespace Sys2Proof.Tests

open Sys2Proof Sys2Proof.Machine Sys2Proof.Safety

set_option maxRecDepth 20000
set_option Elab.async false
set_option linter.unusedVariables false

/-- The MAC of `sealed` verifies under the one key of the session, whatever the MAC function is. -/
theorem inTurn_sealed {s : State} {type : Nat} {body : List Sys2Proof.Byte}
    (h : quoletRuns s = true ∧ ownerOf s .a = some .a ∧ (session s .a).awaitHello = false ∧ (session s .a).ahead = [] ∧
      0 = (session s .a).recvSeq ∧ (session s .a).keys = [⟨0, 0, 0⟩] ∧ lengthFits type body = true) :
    InTurn .a .a type (sealed type body) s := by
  obtain ⟨h1, h2, h3, h4, h5, h6, h7⟩ := h
  refine ⟨h1, h2, h3, h4, h5, ?_, h7⟩
  simp only [macGood, sealed, h6, List.any_cons, Bool.or_eq_true]
  right; left
  simp [macOf, macPart, signedPart, headBody, messageLength, hasMac, hasSig]
  rfl

theorem witness_PageTransitionsComplete :
    (∃ (o : Origin) (p : Page) (s : State), TakesField o p HDR.RUNCTL.CMD 1 s) ∧
    (∃ (o : Origin) (p : Page) (s : State), TakesField o p HDR.RUNCTL.CMD 2 s) ∧
    (∃ (p : Page) (ok : Bool) (band gain : Int × Int) (s : State), s.run p = .starting ∧ startReady s p = true ∧ ok = true) ∧
    (∃ (p : Page) (s : State), s.run p = .stopping) ∧
    (∃ (p : Page) (s : State), (s.run p = .starting ∨ s.run p = .stopping)) :=
  ⟨⟨.host, .cast, ready (up [.rk 7]), by decide +kernel⟩,
   ⟨.host, .cast, ready (up [.rk 7, .cast]), by decide +kernel⟩,
   ⟨.hk 0, true, (0,0), (0,0), put [(.hk 0, HDR.RUNSTAT.STATE, 1)], by decide +kernel⟩,
   ⟨.pln, put [(.pln, HDR.RUNSTAT.STATE, 3)], by decide +kernel⟩,
   ⟨.fes, put [(.fes, HDR.RUNSTAT.STATE, 3)], by decide +kernel⟩⟩

theorem witness_RegisterAccessesComplete :
    (∃ (o : Origin) (p : Page) (off : Nat) (w : Word) (readings : List Int) (s : State), (off < 0x1000 ∧ off % 4 = 0 ∧
      off ≠ HDR.SEQ.COUNT.off ∧ heldElsewhere p off = false) ∧ Takes o p off w s ∧ (∀ u : State,
      writeEffect o p off (shownWord s o p off) w readings u = u)) ∧
    (∃ (o : Origin) (p : Page) (off : Nat) (w : Word) (readings : List Int) (s : State), (off < 0x1000 ∧ off % 4 = 0 ∧
      off ≠ HDR.SEQ.COUNT.off ∧ heldElsewhere p off = false) ∧ Takes o p off w s ∧ (∀ u : State,
      writeEffect o p off (shownWord s o p off) w readings u = u)) ∧
    (∃ (o : Origin) (addr : Nat) (w : Word) (s : State), (addr < 0x4000000 ∧ debugCore addr = none ∧
      pageOfAddr addr = none) ∧ ((o = .host → s.hostReady = true) ∧ s.power ≠ pwrIdle ∧ s.stepsDue = []) ∧
      (o = .plinth ∨ onlyReserve s = false)) ∧
    (∃ (o : Origin) (addr : Nat) (w : Word) (s : State), (addr < 0x4000000 ∧ debugCore addr = none ∧
      pageOfAddr addr = none) ∧ ((o = .host → s.hostReady = true) ∧ s.power ≠ pwrIdle ∧ s.stepsDue = []) ∧
      (o = .plinth ∨ onlyReserve s = false)) ∧
    (∃ (addr : Nat) (w : Word) (s : State), addr < 0x4000000 ∧ s.hostReady = false) ∧
    (∃ (addr len : Nat) (w : Word) (s : State), addr + len - 1 < 0x4000000) ∧
    (∃ (addr len : Nat) (w : Word) (s : State), (addr + len - 1 < 0x4000000 ∧ addr < 2 ^ 26) ∧ s.hostReady = true) ∧
    (∃ (addr len : Nat) (w : Word) (s : State), (addr + len - 1 < 0x4000000 ∧ addr < 2 ^ 26) ∧ s.hostReady = true) ∧
    (∃ (o : Origin) (p : Page) (off : Nat) (s : State), (off < 0x1000 ∧ off % 4 = 0 ∧ isLo p off = true) ∧
      ((o = .host → s.hostReady = true) ∧ s.power ≠ pwrIdle ∧ underTest s p = false)) ∧
    (∃ (o : Origin) (p : Page) (off : Nat) (s : State), (off < 0x1000 ∧ off % 4 = 0 ∧ isLo p off = true) ∧
      ((o = .host → s.hostReady = true) ∧ s.power ≠ pwrIdle ∧ underTest s p = false)) ∧
    (∃ (o : Origin) (p : Page) (off : Nat) (s : State), (off < 0x1000 ∧ off % 4 = 0 ∧ isLo p off = true) ∧
      ((o = .host → s.hostReady = true) ∧ s.power ≠ pwrIdle ∧ underTest s p = false)) :=
  ⟨⟨.host, .fec .a, FEC.SD_THR.THR.off, 5, [], ready, by decide +kernel, by decide +kernel, fun _ => rfl⟩,
   ⟨.host, .glb, GLB.LOCKCTL.SKEW_MAX.off, 0x8, [], ready, by decide +kernel, by decide +kernel, fun _ => rfl⟩,
   ⟨.host, 0x13000, 7, ready, by decide +kernel⟩,
   ⟨.plinth, 0x3FFFFFC, 9, State.reset, by decide +kernel⟩,
   ⟨0x3FFFFFC, 1, State.reset, by decide +kernel⟩,
   ⟨5, 8, 0, State.reset, by decide +kernel⟩,
   ⟨5, 2, 0, ready, by decide +kernel⟩,
   ⟨0x3FFFFFF, 1, 0, ready, by decide +kernel⟩,
   ⟨.host, .tb, 0x044, ready, by decide +kernel⟩,
   ⟨.rk 3, .tly 6, 0x100, ready, by decide +kernel⟩,
   ⟨.rk 3, .arm, 0x5F8, ready, by decide +kernel⟩⟩

theorem witness_HeaderWritesComplete :
    (∃ (o : Origin) (p : Page) (s : State), TakesField o p HDR.REFUSED_WR.CLR 1 s) ∧
    (∃ (o : Origin) (p : Page) (s : State), TakesField o p HDR.ERRLOG.CLR 1 s) ∧
    (∃ (o : Origin) (p : Page) (mask : BitVec 16) (s : State), Takes o p HDR.EVT_RAW.EVT.off (mask.setWidth 32) s) ∧
    (∃ (o : Origin) (p : Page) (mask : BitVec 16) (s : State), Takes o p HDR.EVT_SET.SET.off (mask.setWidth 32) s) :=
  ⟨⟨.plinth, .pln, put [(.pln, HDR.REFUSED_WR.COUNT, 3)], by decide +kernel⟩,
   ⟨.host, .rk 7, ready (put [(.rk 7, HDR.ERRLOG.COUNT, 3)]), by decide +kernel⟩,
   ⟨.host, .pln, 0xFFFF, ready (put [(.pln, HDR.EVT_RAW.EVT, 0x5)]), by decide +kernel⟩,
   ⟨.host, .clx 15, 0x3, ready (put [(.clx 15, HDR.EVT_RAW.EVT, 0x4)]), by decide +kernel⟩⟩

theorem witness_EventAndSemaphoreCommandsComplete :
    (∃ (s : State), (nextSet s).isSome = true) ∧
    (∃ (src : Nat) (s : State), (s.evr.messages.find? (fun (x : Nat × Bool) => x.1 == src)).map Prod.snd = some false) ∧
    (∃ (o : Origin) (w : Word) (s : State), Takes o .evr EVR.RT_DATA.VECTOR.off w s) ∧
    (∃ (o : Origin) (mask : BitVec 16) (s : State), Takes o .evr EVR.SW_SET.SET.off (mask.setWidth 32) s) ∧
    (∃ (o : Origin) (mask : BitVec 16) (s : State), Takes o .evr EVR.SW_CLR.CLR.off (mask.setWidth 32) s) ∧
    (∃ (o : Origin) (n : Fin 64) (s : State), TakesField o .arm (ARM.SEM.CMD.at n.val) 1 s ∧
      ((semaphore s n.val).holder = none ∧ highestLevel s o < semLevel n.val)) ∧
    (∃ (o : Origin) (n : Fin 64) (s : State), TakesField o .arm (ARM.SEM.CMD.at n.val) 1 s ∧
      ((semaphore s n.val).holder = none ∧ highestLevel s o < semLevel n.val)) ∧
    (∃ (o : Origin) (n : Fin 64) (s : State), TakesField o .arm (ARM.SEM.CMD.at n.val) 2 s ∧
      (semaphore s n.val).holder = some o) ∧
    (∃ (o : Origin) (s : State), o ≠ .plinth) :=
  ⟨⟨{ State.reset with evr := { State.reset.evr with messages := [(40, true)] } }, by decide +kernel⟩,
   ⟨40, { State.reset with evr := { State.reset.evr with messages := [(40, false)], pending := [40, 3] } }, by decide +kernel⟩,
   ⟨.host, 0x41, ready (put [(.evr, EVR.RT_INDEX.INDEX, 1535)]), by decide +kernel⟩,
   ⟨.host, 0x8001, ready, by decide +kernel⟩,
   ⟨.host, 0x8001, ready { State.reset with evr := { State.reset.evr with software := 0x8001, pending := [1535, 1520] } },
     by decide +kernel⟩,
   ⟨.host, 63, ready, by decide +kernel⟩,
   ⟨.rk 0, 8, ready, by decide +kernel⟩,
   ⟨.host, 63, ready (setSemaphore State.reset 63 ⟨some .host, []⟩), by decide +kernel⟩,
   ⟨.host, State.reset, by decide +kernel⟩⟩

theorem witness_TimingCommandsComplete :
    (∃ (c : Carrier) (s : State), s.get .glb GLB.LOCKSTAT.STATE ≠ lockLocked) ∧
    (∃ (c : Carrier) (s : State), (s.running (.cdc c) = true ∧ slipWaits s c = true)) ∧
    (∃ (c : Carrier) (s : State), (s.running (.txp c) = true ∧ (s.txDsp.get c).reading = true) ∧
      (carrierLanes c).all (blockHeld s (s.txDsp.get c).due) = false) ∧
    (∃ (c : Carrier) (s : State), (s.running (.cpc c) = true ∧ (s.cpc.get c).ingress.length ≥ clientDepth)) ∧
    (∃ (c : Carrier) (q : Fin 4) (s : State), (s.running (.cpc c) = true ∧ admitted s c q.val = true)) :=
  ⟨⟨.b, put [(.trc .b, TRC.STAT.JOINT, 1)], by decide +kernel⟩,
   ⟨.a, lostBlock 3 (up [.cdc .a, .dmp .a]), by decide +kernel⟩,
   ⟨.b, reading .b (up [.txp .b]), by decide +kernel⟩,
   ⟨.b, fullIngress .b (up [.cpc .b]), by decide +kernel⟩,
   ⟨.a, 3, up [.cpc .a] (put [(.cpc .a, CPC.PSTAT.ADMITTED.at 3, 1)]), by decide +kernel⟩⟩

theorem witness_JournalCommandsComplete :
    (∃ (n : Nat) (s : State), (journalSpillLevel ≤ s.journal.buffer.length ∧ s.flag .lpm LPM.STAT.READY = true) ∧
      (spillEntries s (min n s.journal.buffer.length)).2 = 0) ∧
    (∃ (n : Nat) (s : State), ((unpersisted s).isEmpty = false ∧ archiveTakes s = true ∧ spaced s .persisted secNs = true)) ∧
    (∃ (s : State), (onlyReserve s = false ∧ s.journal.inReserve = true)) ∧
    (∃ (o : Origin) (s : State), TakesField o .cj CJ.CTL.SIGN_NOW 1 s) ∧
    (∃ (s : State), (s.journal.signing.isSome = true ∧ canSign s = true ∧ archiveTakes s = true)) :=
  ⟨⟨1, put [(.lpm, LPM.STAT.READY, 1)]
    { State.reset with journal := { State.reset.journal with buffer := List.replicate 4096 ⟨0, 0, 0, 0, 0, 0, 0, 0⟩ } },
    by decide +kernel⟩,
   ⟨1, up [.rk 7] (put [(.arc, ARC.STAT.MEDIA, 2)]
     { State.reset with journal := { State.reset.journal with ring := [⟨0, 3, 0, 0, 0, 0, 0, 0⟩] } }), by decide +kernel⟩,
   ⟨{ State.reset with journal := { State.reset.journal with inReserve := true, unlogged := 5 } }, by decide +kernel⟩,
   ⟨.host, ready (up [.cj]), by decide +kernel⟩,
   ⟨up [.rk 7] (put [(.arc, ARC.STAT.MEDIA, 2), (.pln, PLN.STAT.ID_OK,
     1)] { State.reset with journal := { State.reset.journal with signing := some (7, 8, 9) } }), by decide +kernel⟩⟩

theorem witness_FramingCommandsComplete :
    (∃ (c : Carrier) (s : State), frameDue s c = true) ∧
    (∃ (c : Carrier) (s : State), (s.run (.lfm c) = .starting ∧ (s.framer.get c).waitJoin = true) ∧
      (s.running (.lfm c.other) = true ∧ txLfIdx s c.other = 0)) ∧
    (∃ (s : State), framersPair s = true ∧ (lfmWaits s .a = false ∧ lfmWaits s .b = false)) ∧
    (∃ (c : Carrier) (blocks : List (Fin 4 × ClientIn)) (rsCorr rsUncorr : List Nat) (q : Fin 4) (s : State),
      (s.running (.cpc c) = true ∧ admitted s c q.val = true)) ∧
    (∃ (o : Origin) (c : Carrier) (s : State), TakesField o (.lfm c) LFM.JUST_RANGE.CLR 1 s) ∧
    (∃ (c : Carrier) (f : RxFrame) (s : State), (s.running (.lfm c) = true ∧ fecLocked s c = true) ∧
      (s.get (.lfm c) LFM.RX_STAT.FSTATE = 2 ∧ fawMatches (frameBoundary c s) c f = false)) ∧
    (∃ (c : Carrier) (f : RxFrame) (arrival : Nat) (s : State), (s.running (.lfm c) = true ∧ inFrame s c = true ∧
      frameClass (frameBoundary c s) c f = 2)) :=
  ⟨⟨.b, up [.lfm .b, .fec .b], by decide +kernel⟩,
   ⟨.a, (put [(.lfm .a, HDR.RUNSTAT.STATE, 1),(.lfm .b, HDR.RUNSTAT.STATE, 2),(.lfm .b, LFM.TX_CSF_LO.CSF,
     77)]).setFramer .a { State.reset.framer.get .a with waitJoin := true }, by decide +kernel⟩,
   ⟨put [(.glb, GLB.LOCKCTL.LOCK_EN, 1),(.lfm .a, HDR.RUNSTAT.STATE, 1),(.lfm .b, HDR.RUNSTAT.STATE, 1)], by decide +kernel⟩,
   ⟨.a, [], [1,2,3,4], [5,6,7,8], 3, up [.cpc .a, .lfm .a] (put [(.cpc .a, CPC.PSTAT.ADMITTED.at 3, 1)]), by decide +kernel⟩,
   ⟨.host, .b, ready (put [(.lfm .b, LFM.JUST_RANGE.MAX_DATA, 9)]), by decide +kernel⟩,
   ⟨.a, ⟨0, 0, 0, 0, 0, false, false, false⟩, up [.lfm .a] (put [(.fec .a, FEC.STAT.STATE, 3),(.lfm .a, LFM.RX_STAT.FSTATE,
     2)]), by decide +kernel⟩,
   ⟨.a, ⟨0, 1, 0, 0, 0, false, false, false⟩, 5, up [.lfm .a] (put [(.lfm .a, LFM.RX_STAT.FSTATE, 2)]), by decide +kernel⟩⟩

theorem witness_TransmitCommandsComplete :
    (∃ (c : Carrier) (s : State), (syfReady s c = true ∧ (syfPartner s c = true → syfReady s c.other = true))) ∧
    (∃ (c : Carrier) (s : State), groupDue (feedPilot c 32 s) c = true) ∧
    (∃ (o : Origin) (c : Carrier) (w : Word) (s : State), Takes o (.txp c) TXP.PCH_DATA.BITS.off w s) ∧
    (∃ (o : Origin) (c : Carrier) (s : State), TakesField o (.txp c) TXP.PCH_CTL.CLR 1 s) ∧
    (∃ (o : Origin) (c : Carrier) (w : Word) (s : State), Takes o (.txp c) TXP.FIR_XFADE.SWAP.off (overlay w
      TXP.FIR_XFADE.SWAP 1) s ∧ s.flag (.txp c) TXP.FIR_XFADE.FADING = false) ∧
    (∃ (c : Carrier) (s : State), (s.flag (.txp c) TXP.FIR_XFADE.FADING = true ∧
      s.flag (.txp c) TXP.FIR_XFADE.HELD = false) ∧ fadeOver s c = true) ∧
    (∃ (c : Carrier) (s : State), (s.running (.txp c) = true ∧ (carrierLanes c).all (fun n => decide (20 ≤ (txLane s
      n).egress.length)) = true)) ∧
    (∃ (o : Origin) (c : Carrier) (w : Word) (s : State), Takes o (.txp c) TXP.INJ_CTL.SINGLE.off (overlay w
      TXP.INJ_CTL.SINGLE 1) s ∧ s.running (.txp c) = true) ∧
    (∃ (c : Carrier) (s : State), (s.running (.txp c) = true ∧ s.get (.txp c) TXP.INJ_CTL.MODE = 1)) :=
  ⟨⟨.b, up [.txp .b] (put [(.txp .b, TXP.SYF_CNT.COUNT, 0xFFFFFFFF)]), by decide +kernel⟩,
   ⟨.b, setTxDsp (up [.txp .b] (put [(.txp .b, TXP.PCH_CTL.EN, 1)])) .b
     { State.reset.txDsp.get .b with fifo := [true, false, true], framed := true, pos := 512 }, by decide +kernel⟩,
   ⟨.host, .a, 0, ready, by decide +kernel⟩,
   ⟨.host, .b, setTxDsp (ready (put [(.txp .b, TXP.PCH_CTL.UNDERRUN,
     2)])) .b { State.reset.txDsp.get .b with fifo := [true, false, true] }, by decide +kernel⟩,
   ⟨.host, .a, 3, ready, by decide +kernel⟩,
   ⟨.b, setTxDsp (put [(.txp .b, TXP.FIR_XFADE.FADING, 1),(.txp .b, TXP.FIR_XFADE.TARGET,
     1)]) .b { State.reset.txDsp.get .b with fadeLog2 := 5, fadeStart := 100, blocks := 132 }, by decide +kernel⟩,
   ⟨.a, codesHeld 20 .a (up [.txp .a]), by decide +kernel⟩,
   ⟨.host, .a, 0x10F000, ready (up [.txp .a]), by decide +kernel⟩,
   ⟨.a, up [.txp .a] (put [(.txp .a, TXP.INJ_CTL.MODE, 1)]), by decide +kernel⟩⟩

theorem witness_LaneTransmitCommandsComplete :
    (∃ (c : Carrier) (n : Fin 8) (s : State), (clockLocked s c = true ∧ n ∈ carrierLanes c ∧ s.running (.ltx n) = true) ∧
      (s.flag (.ltx n) LTX.STAT.GATE = false ∧ (txLane s n).fgDone = false)) ∧
    (∃ (c : Carrier) (ms : List (List (Int × Int))) (n : Fin 8) (s : State), (n ∈ carrierLanes c ∧
      s.flag (.ltx n) LTX.STAT.CAL_FG = true)) ∧
    (∃ (n : Fin 8) (m1 m2 : Int) (mux : Int × Int) (s : State), s.flag (.ltx n) LTX.STAT.GATE = true) ∧
    (∃ (c : Carrier) (n : Fin 8) (s : State), n ∈ carrierLanes c) ∧
    (∃ (c : Carrier) (average : Int) (s : State), (s.running (.txp c) = true ∧ s.flag (.txp c) TXP.CTL.TIMING_SRC = true) ∧
      (timingUnusable s c = true ∧ s.flag (.txp c) TXP.STAT.HOLDOVER = false)) ∧
    (∃ (c : Carrier) (s : State), (s.running (.txp c) = true ∧ s.flag (.txp c) TXP.CTL.TIMING_SRC = true ∧
      timingUnusable s c = false)) ∧
    (∃ (o : Origin) (n : Fin 8) (w : Word) (s : State), Takes o (.ltx n) LTX.PRAM_DATA.SAMPLES.off w s) ∧
    (∃ (n : Fin 8) (k : ShapedBlock) (rest : List ShapedBlock) (s : State), ((txLane s n).shaped = k :: rest ∧
      (txLane s n).egress.length < egressDepth) ∧ ((s.txDsp.get (laneCarrier n)).due ≤ k.number ∧
      s.running (.ltx n) = true) ∧ (laneCodes (pageBoundary (.ltx n) s) n k).2 = true) ∧
    (∃ (n : Fin 8) (k : ShapedBlock) (rest : List ShapedBlock) (s : State), ((txLane s n).shaped = k :: rest ∧
      (txLane s n).egress.length < egressDepth) ∧ (laneCodes (pageBoundary (.ltx n) s) n k).2 = false) ∧
    (∃ (c : Carrier) (i : Fin 4) (s : State), s.running (.txp c) = true) :=
  ⟨⟨.a, 3, up [.ltx 3] (put [(.syn 0, SYN.STAT.LOCK, 1)]), by decide +kernel⟩,
   ⟨.b, [[(1,1)],[(2,9000)],[],[(5,5)]], 7, put [(.ltx 7, LTX.STAT.CAL_FG, 1),(.ltx 5, LTX.STAT.CAL_FG, 1)],
     by decide +kernel⟩,
   ⟨7, 1, 7000, (0, 9000), put [(.ltx 7, LTX.STAT.GATE, 1),(.ltx 7, LTX.STAT.SPARE_POS, 15)], by decide +kernel⟩,
   ⟨.a, 2, put [(.ltx 2, LTX.STAT.GATE, 1)], by decide +kernel⟩,
   ⟨.b, -7, up [.txp .b] (put [(.txp .b, TXP.CTL.TIMING_SRC, 1)]), by decide +kernel⟩,
   ⟨.b, up [.txp .b] (put [(.txp .b, TXP.CTL.TIMING_SRC, 1),(.trc .b, TRC.STAT.LOCK, 1)]), by decide +kernel⟩,
   ⟨.host, 7, 5, ready (put [(.ltx 7, LTX.PRAM_IDX.INDEX, 2047)]), by decide +kernel⟩,
   ⟨0, shaped 7 (2 ^ 60), [], shapedIn 0 [shaped 7 (2 ^ 60)] (loud 0 (up [.ltx 0] (put [(.ltx 0, LTX.GAIN.GAIN, 64)]))),
     by decide +kernel⟩,
   ⟨4, shaped 7 0, [shaped 8 0], shapedIn 4 [shaped 7 0, shaped 8 0] (up [.ltx 4]), by decide +kernel⟩,
   ⟨.a, 3, up [.txp .a] (put [(.txp .a, TXP.SKEW.TARGET.at 3, 5)]), by decide +kernel⟩⟩

theorem witness_ReceiveLaneCommandsComplete :
    (∃ (n : Fin 8) (s : State), (laneDelivers s n = true ∧ s.get (.lrx n) LRX.AFE_CTL.AGC_MODE = 1)) ∧
    (∃ (n : Fin 8) (s : State), s.get (.lrx n) LRX.AFE_CTL.AGC_MODE ≠ 1) ∧
    (∃ (o : Origin) (n : Fin 8) (code : BitVec 6) (s : State), TakesField o (.lrx n) LRX.AFE_CTL.GAIN_SET code.toNat s) ∧
    (∃ (n : Fin 8) (s : State), (laneDelivers s n = true ∧ s.flag (.lrx n) LRX.AFE_CTL.CLIP_STEP_EN = true) ∧
      64 ≤ (lineRx s n).sinceFast ∧ (s.get (.lrx n) LRX.AGC_CFG.CLIP_THR ≤ (lineRx s n).clipped ∧
      2 ≤ s.get (.lrx n) LRX.GAIN_STAT.APPLIED)) ∧
    (∃ (n : Fin 8) (codes : List Int) (s : State), (laneDelivers (pageBoundary (.lrx n) s) n = true ∧
      laneAhead (pageBoundary (.lrx n) s) n = false) ∧ (blockCodes (lineRx (pageBoundary (.lrx n) s) n).blocks codes).any
      clippedCode = true) ∧
    (∃ (n : Fin 8) (codes : List Int) (s : State), (laneDelivers (pageBoundary (.lrx n) s) n = true ∧
      laneAhead (pageBoundary (.lrx n) s) n = false) ∧ (blockCodes (lineRx (pageBoundary (.lrx n) s) n).blocks codes).any
      clippedCode = false) ∧
    (∃ (n : Fin 8) (codes : List Int) (w : Word) (s : State), (s.running (.lrx n) = true ∧
      s.staged = [⟨pageBase (.lrx n) + LRX.AFE_CTL.GAIN_SET.off, w⟩])) ∧
    (∃ (n : Fin 8) (codes : List Int) (w : Word) (s : State), (s.running (.lrx n) = true ∧
      s.staged = [⟨pageBase (.lrx n) + LRX.SNAP_CTL.ARM.off, w⟩]) ∧ (extract w LRX.SNAP_CTL.ARM.lo 1 = 1 ∧
      (lineRx s n).capture = none)) ∧
    (∃ (n : Fin 8) (s : State), 64 ≤ (lineRx s n).clean) ∧
    (∃ (n : Fin 8) (s : State), (s.running (.lrx n) = true ∧ s.get (.lrx n) LRX.GAIN_STAT.APPLIED = 36)) ∧
    (∃ (n : Fin 8) (ms : List (List (Int × Int))) (afe : List (Int × Int)) (s : State), (s.run (.lrx n) = .starting ∧
      fgDue s n = true)) ∧
    (∃ (n : Fin 8) (m : Int × Int) (s : State), (laneDelivers s n = true ∧ rotationStopped s n = false) ∧
      s.get (.lrx n) LRX.ROT_STAT.PHASE < 3) ∧
    (∃ (n : Fin 8) (m : Int × Int) (s : State), (laneDelivers s n = true ∧ rotationStopped s n = false) ∧
      s.get (.lrx n) LRX.ROT_STAT.PHASE < 3) ∧
    (∃ (n : Fin 8) (m : Int × Int) (s : State), (laneDelivers s n = true ∧ rotationStopped s n = false) ∧
      s.get (.lrx n) LRX.ROT_STAT.PHASE = 3) ∧
    (∃ (o : Origin) (n : Fin 8) (s : State), TakesField o (.lrx n) LRX.CAL_CTL.UNRETIRE 1 s) ∧
    (∃ (c : Carrier) (n : Fin 8) (s : State), (clockLocked s c = false ∧ n ∈ carrierLanes c ∧ s.running (.lrx n) = true)) ∧
    (∃ (c : Carrier) (n : Fin 8) (s : State), (clockLocked s c = true ∧ n ∈ carrierLanes c)) ∧
    (∃ (o : Origin) (n : Fin 8) (w : Word) (s : State), Takes o (.lrx n) LRX.HIST_CTL.START.off (overlay w LRX.HIST_CTL.START
      1) s ∧ s.flag (.lrx n) LRX.HIST_STAT.BUSY = false) ∧
    (∃ (n : Fin 8) (s : State), (s.flag (.lrx n) LRX.HIST_STAT.BUSY = true ∧ (lineRx s n).histLeft = 0)) ∧
    (∃ (o : Origin) (n : Fin 8) (w : Word) (s : State), Takes o (.lrx n) LRX.SNAP_CTL.ARM.off (overlay w LRX.SNAP_CTL.ARM 1)
      s) :=
  ⟨⟨7, putLineRx (up lanesB (put [(.lrx 7, LRX.AFE_CTL.AGC_MODE, 1)])) 7 { lineRx State.reset 7 with recent := [3, -63] },
    by decide +kernel⟩,
   ⟨7, up lanesB (put [(.lrx 7, LRX.AFE_CTL.AGC_MODE, 0)]), by decide +kernel⟩,
   ⟨.host, 3, 36, ready, by decide +kernel⟩,
   ⟨0, putLineRx (up lanesA (put [(.lrx 0, LRX.AFE_CTL.CLIP_STEP_EN, 1),(.lrx 0, LRX.GAIN_STAT.APPLIED,
     2)])) 0 { lineRx State.reset 0 with clipped := 65, sinceFast := 64 }, by decide +kernel⟩,
   ⟨1, [0, -63], up lanesA, by decide +kernel⟩,
   ⟨1, [0, -62], up lanesA, by decide +kernel⟩,
   ⟨1, [5], 0x2400, stage (pageBase (.lrx 1) + LRX.AFE_CTL.GAIN_SET.off) 0x2400 (up lanesA), by decide +kernel⟩,
   ⟨1, [5], 0x1, stage (pageBase (.lrx 1) + LRX.SNAP_CTL.ARM.off) 0x1 (up lanesA), by decide +kernel⟩,
   ⟨1, putLineRx (put [(.lrx 1, LRX.GAIN_STAT.CLIP_INT, 1)]) 1 { lineRx State.reset 1 with clean := 64 }, by decide +kernel⟩,
   ⟨1, up [.lrx 1] (put [(.lrx 1, LRX.GAIN_STAT.APPLIED, 36)]), by decide +kernel⟩,
   ⟨1, [], [(1,1)], put [(.lrx 1, HDR.RUNSTAT.STATE, 1)], by decide +kernel⟩,
   ⟨1, (2, 9000), up lanesA (put [(.lrx 1, LRX.CAL_CTL.BG_EN, 1)]), by decide +kernel⟩,
   ⟨1, (1, 1), up lanesA (put [(.lrx 1, LRX.CAL_CTL.BG_EN, 1),(.lrx 1, LRX.ROT_STAT.PHASE, 2)]), by decide +kernel⟩,
   ⟨1, (2, 9000), up lanesA (put [(.lrx 1, LRX.CAL_CTL.BG_EN, 1),(.lrx 1, LRX.ROT_STAT.PHASE, 3)]), by decide +kernel⟩,
   ⟨.host, 3, ready (put [(.lrx 3, LRX.ROT_STAT.RETIRED, 1)]), by decide +kernel⟩,
   ⟨.b, 4, up [.lrx 4, .lrx 6], by decide +kernel⟩,
   ⟨.b, 7, put [(.lrx 7, LRX.SNAP_STAT.NO_CLK, 1),(.syn 1, SYN.STAT.LOCK, 1)], by decide +kernel⟩,
   ⟨.host, 3, 0x100002, ready (put [(.lrx 3, LRX.HIST_STAT.DONE, 1)]), by decide +kernel⟩,
   ⟨3, putLineRx (put [(.lrx 3, LRX.HIST_STAT.BUSY, 1)]) 3 { lineRx State.reset 3 with bins := [1, 2, 3] }, by decide +kernel⟩,
   ⟨.host, 3, 0, ready (up [.lrx 3]), by decide +kernel⟩⟩

theorem witness_DispersionAndTimingCommandsComplete :
    (∃ (c : Carrier) (s : State), (acqState s c = acqScan ∧ acqReady s c = true)) ∧
    (∃ (c : Carrier) (coarse fine : List Nat) (s : State), (acqState s c = acqScan ∧ (s.dispersion.get c).scanning = true ∧
      cdMode s c ≠ 1)) ∧
    (∃ (c : Carrier) (s : State), (acqState s c = acqTrack ∧ s.running (.cdc c) = true ∧
      (s.dispersion.get c).slew = some (cdApplied s c))) ∧
    (∃ (o : Origin) (c : Carrier) (cd : BitVec 18) (s : State), TakesField o (.cdc c) CDC.CD_SET.CD cd.toNat s) ∧
    (∃ (c : Carrier) (ofs : Int) (s : State), (s.running (.trc c) = true ∧ samplesArrive s c = true ∧ ofs.natAbs ≤ 200000)) ∧
    (∃ (c : Carrier) (ofs : Int) (s : State), (s.running (.trc c) = true ∧ samplesArrive s c = true ∧ ofs.natAbs ≤ 200000)) ∧
    (∃ (c : Carrier) (ofs : Option Int) (s : State), (s.running (.trc c) = true ∧ s.flag (.trc c) TRC.STAT.LOCK = true)) ∧
    (∃ (c : Carrier) (est : List Int) (i : Fin 4) (s : State), (s.running (.trc c) = true ∧
      s.flag (.trc c) TRC.CTL.AUTO_SKEW = true ∧ acqSearch ≤ acqState s c) ∧
      3 < (satSigned 12 (est.getD i.val 0) - s.getInt (.trc c) (TRC.SKEW.TARGET.at i.val)).natAbs ∧ s.journal.buffer = []) :=
  ⟨⟨.a, up ([.cdc .a, .trc .a, .eqz .a] ++ (carrierLanes .a).map Page.lrx) (put [(.eqz .a, EQZ.ACQ_STAT.STATE, 1),(.syn 0,
    SYN.STAT.LOCK, 1)]), by decide +kernel⟩,
   ⟨.a, [], [0, 9, 1], setDispersion (put [(.eqz .a, EQZ.ACQ_STAT.STATE, 1),(.cdc .a, CDC.CTL.CD_MODE,
     2)]) .a { State.reset.dispersion.get .a with scanning := true }, by decide +kernel⟩,
   ⟨.b, setDispersion (up [.cdc .b] (put [(.eqz .b, EQZ.ACQ_STAT.STATE,
     5)])) .b { State.reset.dispersion.get .b with slew := some 0 }, by decide +kernel⟩,
   ⟨.host, .a, 77, ready, by decide +kernel⟩,
   ⟨.a, -200000, up ([.trc .a] ++ (carrierLanes .a).map Page.lrx) (put [(.syn 0, SYN.STAT.LOCK, 1)]), by decide +kernel⟩,
   ⟨.a, 200000, up ([.trc .a] ++ (carrierLanes .a).map Page.lrx) (put [(.syn 0, SYN.STAT.LOCK, 1),(.eqz .a,
     EQZ.ACQ_STAT.STATE, 2)]), by decide +kernel⟩,
   ⟨.a, some 300000, up [.trc .a] (put [(.trc .a, TRC.STAT.LOCK, 1),(.eqz .a, EQZ.ACQ_STAT.STATE, 5)]), by decide +kernel⟩,
   ⟨.a, [9,-9,9,-5000], 3, up [.trc .a] (put [(.trc .a, TRC.CTL.AUTO_SKEW, 1),(.eqz .a, EQZ.ACQ_STAT.STATE, 4)]),
     by decide +kernel⟩⟩

theorem witness_EqualiserCommandsComplete :
    (∃ (c : Carrier) (grads : List (Int × Int)) (s : State), (adaptMode s c ≠ 0 ∧ (s.equaliser.get c).marked = false)) ∧
    (∃ (c : Carrier) (grads : List (Int × Int)) (s : State), (s.equaliser.get c).marked = true) ∧
    (∃ (c : Carrier) (corr cost : Nat) (s : State), (acqState s c = acqBlind ∧ 800 < corr)) ∧
    (∃ (c : Carrier) (s : State), acqState s c = acqTrack) ∧
    (∃ (o : Origin) (c : Carrier) (w : Word) (s : State), Takes o (.eqz c) EQZ.XFADE_CTL.SWAP.off (overlay w
      EQZ.XFADE_CTL.SWAP 1) s ∧ s.flag (.eqz c) EQZ.XFADE_CTL.FADING = false) ∧
    (∃ (c : Carrier) (s : State), (s.flag (.eqz c) EQZ.XFADE_CTL.FADING = true ∧ s.flag (.eqz c) EQZ.XFADE_CTL.HELD = false ∧
      eqzFadeOver s c = true)) ∧
    (∃ (o : Origin) (c : Carrier) (s : State), TakesField o (.eqz c) EQZ.XFADE_CTL.COPY 1 s) ∧
    (∃ (o : Origin) (c : Carrier) (s : State), TakesField o (.eqz c) EQZ.XFADE_CTL.INIT 1 s) ∧
    (∃ (o : Origin) (c : Carrier) (w : Word) (s : State), Takes o (.eqz c) EQZ.COEF_DATA.RE.off w s) ∧
    (∃ (o : Origin) (c : Carrier) (s : State), TakesField o (.eqz c) EQZ.SHADOW.SNAP 1 s) :=
  ⟨⟨.a, [(1,2)], up [.eqz .a] (put [(.eqz .a, EQZ.ACQ_STAT.STATE, 3)]), by decide +kernel⟩,
   ⟨.a, [(1,2)], setEqualiser (up [.eqz .a] (put [(.eqz .a, EQZ.ACQ_STAT.STATE,
     3)])) .a { State.reset.equaliser.get .a with marked := true }, by decide +kernel⟩,
   ⟨.b, 801, 70000, put [(.eqz .b, EQZ.ACQ_STAT.STATE, 3)], by decide +kernel⟩,
   ⟨.b, put [(.eqz .b, EQZ.ACQ_STAT.STATE, 5)], by decide +kernel⟩,
   ⟨.host, .a, 3, ready, by decide +kernel⟩,
   ⟨.b, clocked (.eqzFading .b 1) (put [(.eqz .b, EQZ.XFADE_CTL.FADING, 1),(.eqz .b, EQZ.XFADE_CTL.TARGET, 1)]),
     by decide +kernel⟩,
   ⟨.host, .a, ready (put [(.eqz .a, EQZ.BANK_MODE.MODE0, 3)]), by decide +kernel⟩,
   ⟨.host, .a, ready (put [(.eqz .a, EQZ.BANK_MODE.MODE0, 3)]), by decide +kernel⟩,
   ⟨.host, .a, 0x8000FFFF, ready (put [(.eqz .a, EQZ.COEF_IDX.BANK, 1),(.eqz .a, EQZ.COEF_IDX.TAP, 40),(.eqz .a,
     EQZ.COEF_IDX.FILTER, 3)]), by decide +kernel⟩,
   ⟨.host, .a, ready, by decide +kernel⟩⟩

theorem witness_AcquisitionCommandsComplete :
    (∃ (c : Carrier) (s : State), (acqState s c = acqIdleState ∧ acqReady s c = true)) ∧
    (∃ (c : Carrier) (s : State), (acqState s c = acqTiming ∨ acqState s c = acqBlind) ∧
      passed s (acqTimer s c) (acqLimitNs s c) = true) ∧
    (∃ (c : Carrier) (cost : Nat) (s : State), (acqState s c = acqBlind ∧
      cost * 100 * 10000 < 4096 * 15 * cmaK2 (lineMode s c))) ∧
    (∃ (c : Carrier) (x y : Option (Carrier × Bool)) (index : Nat) (s : State), acqState s c = acqSearch ∧
      (x = some ((expectedCarrier s c).other, false) ∧ y = some ((expectedCarrier s c).other, true))) ∧
    (∃ (c : Carrier) (x y : Option (Carrier × Bool)) (index : Nat) (s : State), (acqState s c = acqSearch ∧
      (s.equaliser.get c).index = index ∧ 1 ≤ (s.equaliser.get c).hits) ∧ (x = some (expectedCarrier s c, false) ∧
      y = some (expectedCarrier s c, true))) ∧
    (∃ (c : Carrier) (x y : Option (Carrier × Bool)) (index : Nat) (s : State), (acqState s c = acqSearch ∧
      (s.equaliser.get c).hits = 0) ∧ (x = some (expectedCarrier s c, true) ∧ y = some (expectedCarrier s c, false))) ∧
    (∃ (o : Origin) (c : Carrier) (s : State), TakesField o (.eqz c) EQZ.ACQ_CTL.RESTART 1 s ∧ acqState s c ≠ acqIdleState) ∧
    (∃ (c : Carrier) (x y : List (Int × Int)) (s : State), (s.running (.cpr c) = true ∧ cprState s c ≠ cprIdle)) ∧
    (∃ (c : Carrier) (s : State), (s.running (.cpr c) = true ∧ cprFine ≤ cprState s c ∧
      foSettled (s.carrierRec.get c) = true)) ∧
    (∃ (c : Carrier) (s : State), (s.running (.cpr c) = true ∧ cprFine ≤ cprState s c ∧
      foLimit < (s.getInt (.cpr c) CPR.FO_EST.FO).natAbs)) ∧
    (∃ (c : Carrier) (x y : List (Int × Int)) (s : State), (s.running (.cpr c) = true ∧
      (s.carrierRec.get c).next < pilotsPerFrame)) ∧
    (∃ (c : Carrier) (x y : List (Int × Int)) (s : State), (s.running (.cpr c) = true ∧
      (s.carrierRec.get c).next < pilotsPerFrame)) ∧
    (∃ (c : Carrier) (s : State), ((s.carrierRec.get c).record.isSome = true ∧ s.flag (.cpr c) CPR.STAT.PCH_ACTIVE = true ∧
      (s.carrierRec.get c).softs.length = 256)) ∧
    (∃ (o : Origin) (c : Carrier) (entries : BitVec 8) (s : State),
      TakesField o (.cpr c) CPR.PCH_RING.ENTRIES entries.toNat s) :=
  ⟨⟨.a, up ([.cdc .a, .trc .a, .eqz .a] ++ (carrierLanes .a).map Page.lrx) (put [(.syn 0, SYN.STAT.LOCK, 1)]),
    by decide +kernel⟩,
   ⟨.a, clocked (.acquiring .a 3 0) (put [(.eqz .a, EQZ.ACQ_STAT.STATE, 3)]), by decide +kernel⟩,
   ⟨.a, 0, put [(.eqz .a, EQZ.ACQ_STAT.STATE, 3)], by decide +kernel⟩,
   ⟨.a, some (.b, false), some (.b, true), 5, put [(.eqz .a, EQZ.ACQ_STAT.STATE, 4)], by decide +kernel⟩,
   ⟨.a, some (.a, false), some (.a, true), 5, setEqualiser (put [(.eqz .a, EQZ.ACQ_STAT.STATE,
     4)]) .a { State.reset.equaliser.get .a with index := 5, hits := 1 }, by decide +kernel⟩,
   ⟨.a, some (.a, true), some (.a, false), 5, put [(.eqz .a, EQZ.ACQ_STAT.STATE, 4)], by decide +kernel⟩,
   ⟨.host, .a, ready (put [(.eqz .a, EQZ.ACQ_STAT.STATE, 5)]), by decide +kernel⟩,
   ⟨.a, [], [], setRec (up [.cpr .a] (put [(.cpr .a, CPR.STAT.STATE,
     4)])) .a { State.reset.carrierRec.get .a with frameY := 70000, next := 16376 }, by decide +kernel⟩,
   ⟨.a, setRec (up [.cpr .a] (put [(.cpr .a, CPR.STAT.STATE, 2)])) .a
     { State.reset.carrierRec.get .a with foHist := List.replicate 1024 7 ++ [26] }, by decide +kernel⟩,
   ⟨.a, (up [.cpr .a] (put [(.cpr .a, CPR.STAT.STATE, 4)])).setInt (.cpr .a) CPR.FO_EST.FO (-35001), by decide +kernel⟩,
   ⟨.a, [(4096, 0)], [], setRec (up [.cpr .a] (put [(.cpr .a, CPR.STAT.STATE, 4),(.cpr .a, CPR.CTL.BPS_EN,
     1)])) .a { State.reset.carrierRec.get .a with next := 5 }, by decide +kernel⟩,
   ⟨.a, [], [], setRec (up [.cpr .a]) .a { State.reset.carrierRec.get .a with next := 16375 }, by decide +kernel⟩,
   ⟨.a, setRec (put [(.cpr .a, CPR.STAT.PCH_ACTIVE, 1),(.cpr .a, CPR.PCH_RING.ENTRIES,
     4)]) .a { State.reset.carrierRec.get .a with record := some (7, true), softs := List.replicate 256 3 },
     by decide +kernel⟩,
   ⟨.host, .b, 64, ready, by decide +kernel⟩⟩

theorem witness_DecodingCommandsComplete :
    (∃ (c : Carrier) (s : State), (s.running (.mls c) = true ∧ 320 ≤ (s.demapper.get c).input.length) ∧
      blockMarked ((s.demapper.get c).input.take 256) = false) ∧
    (∃ (c : Carrier) (s : State), (s.running (.mls c) = true ∧ 320 ≤ (s.demapper.get c).input.length) ∧
      blockMarked ((s.demapper.get c).input.take 256) = true) ∧
    (∃ (c : Carrier) (s : State), (s.running (.mls c) = true ∧ (s.demapper.get c).resetDue = true)) ∧
    (∃ (c : Carrier) (block : List SoftPeriod) (d : Demapper) (s : State), (s.running (.dmp c) = true ∧
      256 ≤ (s.demapper.get c).soft.length) ∧ (block = (s.demapper.get c).soft.take 256 ∧
      d = addNoise (s.demapper.get c) block) ∧ (block.any fun p => p.slip || !p.sync || p.clip != 0) = false ∧
      (2 ^ s.get (.dmp c) DMP.CTL.VAR_LOG2 ≤ d.varBlocks ∧ d.varN ≠ 0)) ∧
    (∃ (c : Carrier) (s : State), (s.running (.dmp c) = true ∧ 256 ≤ (s.demapper.get c).soft.length) ∧
      ((s.demapper.get c).soft.take 256).any (fun p => p.slip || !p.sync || p.clip != 0) = true) ∧
    (∃ (c : Carrier) (x : Nat × Nat × Nat) (s : State), (s.running (.fec c) = true ∧ fecState s c = fecHunt ∧
      observationBits s c ≤ (s.fec.get c).llrs.length) ∧ x = bestCandidate (lineMode s c) ((s.fec.get c).llrs.take
      (observationBits s c))) ∧
    (∃ (c : Carrier) (s : State), (s.running (.fec c) = true ∧ fecState s c = fecCheck) ∧ (64 ≤ (s.fec.get c).checkBlocks ∧
      (s.fec.get c).checkUncorr ≤ 8)) ∧
    (∃ (c : Carrier) (d : DecodedBlock) (s : State), (decodeReady (pageBoundary (.fec c) s) c = true ∧
      (s.fec.get c).llrs.length < 2 * codedBits) ∧ d = Config.ofecDecode ((pageBoundary (.fec c) s).get (.fec c)
      FEC.CTL.ITER) (s.fec.get c).decoder ((s.fec.get c).llrs.take decoderWindow)) ∧
    (∃ (c : Carrier) (d : DecodedBlock) (s : State), (decodeReady (pageBoundary (.fec c) s) c = true ∧
      (s.fec.get c).llrs.length < 2 * codedBits) ∧ d = Config.ofecDecode ((pageBoundary (.fec c) s).get (.fec c)
      FEC.CTL.ITER) (s.fec.get c).decoder ((s.fec.get c).llrs.take decoderWindow)) ∧
    (∃ (c : Carrier) (s : State), (s.running (.fec c) = true ∧ fecLocked s c = true ∧
      2 ^ (s.fec.get c).winLog2 ≤ (s.fec.get c).window.blocks)) :=
  ⟨⟨.a, setDemapper (up [.mls .a]) .a
    { State.reset.demapper.get .a with input := List.replicate 320 ⟨false, [], none, true, false, 0, false⟩ },
    by decide +kernel⟩,
   ⟨.a, setDemapper (up [.mls .a]) .a
     { State.reset.demapper.get .a with input := List.replicate 320 ⟨false, [], none, false, false, 0, false⟩ },
     by decide +kernel⟩,
   ⟨.a, setDemapper (up [.mls .a]) .a { State.reset.demapper.get .a with resetDue := true }, by decide +kernel⟩,
   ⟨.a, softs false, addNoise ((softIn .a (softs false)).demapper.get .a) (softs false),
     softIn .a (softs false) (up [.dmp .a]), by decide +kernel⟩,
   ⟨.a, softIn .a (softs true) (up [.dmp .a]), by decide +kernel⟩,
   ⟨.a, bestCandidate (lineMode (unseen 1 0) .a) (((unseen 1 0).fec.get .a).llrs.take (observationBits (unseen 1 0) .a)),
     unseen 1 0, by decide +kernel, rfl⟩,
   ⟨.a, (up [.fec .a] (put [(.fec .a, FEC.STAT.STATE, 2)])).setFec .a
     { State.reset.fec.get .a with checkBlocks := 64, checkUncorr := 8 }, by decide +kernel⟩,
   ⟨.a, Config.ofecDecode ((pageBoundary (.fec .a) (unseen 3 0)).get (.fec .a) FEC.CTL.ITER) ((unseen 3 0).fec.get
     .a).decoder (((unseen 3 0).fec.get .a).llrs.take decoderWindow), unseen 3 0, by decide +kernel, rfl⟩,
   ⟨.a, Config.ofecDecode ((pageBoundary (.fec .a) (unseen 2 63)).get (.fec .a) FEC.CTL.ITER) ((unseen 2 63).fec.get
     .a).decoder (((unseen 2 63).fec.get .a).llrs.take decoderWindow), unseen 2 63, by decide +kernel, rfl⟩,
   ⟨.a, (up [.fec .a] (put [(.fec .a, FEC.STAT.STATE, 3)])).setFec .a
     { State.reset.fec.get .a with winLog2 := 4, window := ⟨16, 3, 5, 5, [1, 2, 3, 4], [1]⟩ }, by decide +kernel⟩⟩

theorem witness_KeyingCommandsComplete :
    (∃ (x k : Carrier) (s : State), (ownerOf s x = some k ∧ (session s k).state = sessKeyed ∧ ownRole s = 0) ∧
      (intervalOver s k = true ∧ ratchetFree s k = false)) ∧
    (∃ (x k : Carrier) (ch : Chain) (s : State), (ownerOf s x = some k ∧ (session s k).ratchetDue = true) ∧
      (ratchetFree s k = true ∧ nextChain s k = some ch)) ∧
    (∃ (x : Carrier) (s : State), (activationPending s x = true ∧ s.flag (.cry x) CRY.TX_STAT.COMMITTED = false) ∧
      csfAtOrAfter (txCsf s x + 16) (activationCsf s x) = true ∧ keyed s x = false) ∧
    (∃ (x : Carrier) (s : State), (activationPending s x = true ∧ s.flag (.cry x) CRY.TX_STAT.COMMITTED = true) ∧
      (txLfIdx s x = 0 ∧ txCsf s x = activationCsf s x ∧ ownerOf s x = none)) ∧
    (∃ (c : Carrier) (i : Fin 4) (s : State), (retainedSlot s c = some i.val ∧ retentionOver s c i = true)) ∧
    (∃ (c : Carrier) (receive : Bool) (i : Fin 4) (s : State), (receive = false → txSlotState s c i = slotLoaded ∨
      txSlotState s c i = slotActive) ∧ (receive = true → rxSlotState s c i = slotLoaded ∨ rxSlotState s c i = slotActive) ∧
      (slotOver s (if receive then rxSlot s c i else txSlot s c i) = true)) ∧
    (∃ (x k : Carrier) (s : State), (ownerOf s x = some k ∧ (session s k).state = sessKeyed ∧ ownRole s = 0) ∧
      (exchangeDue s k = true ∧ (session s k).kemSeed = none ∧ canSign s = true)) ∧
    (∃ (x k : Carrier) (s : State), (ownerOf s x = some k ∧ (session s k).state = sessKeyed ∧ epochOver s k = true)) ∧
    (∃ (k : Carrier) (s : State), ((session s k).kqAging = true ∧ passed s (.oldKq k) (10 * secNs) = true)) :=
  ⟨⟨.a, .a, inSession keyedSession, by decide +kernel⟩,
   ⟨.a, .a, ⟨1, 0, 0, []⟩, inSession { keyedSession with ratchetDue := true, chains := [⟨1, 0, 0, []⟩] } (up [.lfm .a] (put
     [(.qlt, QLT.STAT.PATH_A, 1)])), by decide +kernel⟩,
   ⟨.b, put [(.cry .b, CRY.TX_STAT.PENDING, 1)], by decide +kernel⟩,
   ⟨.b, put [(.cry .b, CRY.TX_STAT.PENDING, 1),(.cry .b, CRY.TX_STAT.COMMITTED, 1),(.cry .b, CRY.TX_STAT.PENDING_IDX, 2)],
     by decide +kernel⟩,
   ⟨.b, 1, putRxSlot (put [(.lfm .b, LFM.RX_CSF_LO.CSF, 65540)]) .b 1 ⟨0, 0, 0, 0, true, 0, none, 0, 0⟩, by decide +kernel⟩,
   ⟨.b, true, 3, put [(.cry .b, CRY.RX_SLOT.STATE.at 3, 2)], by decide +kernel⟩,
   ⟨.a, .a, inSession { keyedSession with chains := [⟨0, 56, 0, []⟩] } (put [(.pln, PLN.STAT.ID_OK, 1)]), by decide +kernel⟩,
   ⟨.a, .a, inSession { keyedSession with chains := [⟨0, 63, 0, [(.a, 0)]⟩], ratchetDue := true }, by decide +kernel⟩,
   ⟨.a, clocked (.oldKq .a) (inSession { keyedSession with kqAging := true, keys := [⟨1, 0, 0⟩, ⟨0, 0, 0⟩] }),
     by decide +kernel⟩⟩

theorem witness_WakeAndWordCommandsComplete :
    (∃ (o : Origin) (w : Word) (y : Carrier) (s : State), Takes o .qlt QLT.WAKE_CTL.SEND.off (overlay w QLT.WAKE_CTL.SEND 1)
      s ∧ keyable s y = true) ∧
    (∃ (x : Carrier) (v : WakeSend) (s : State), (s.qlt.wake.get x = some v ∧ v.left ≠ 0 ∧ v.type = 1 ∧ keyable s x = true) ∧
      (v.burst = 0 ∨ spaced s (.burst x) secNs = true)) ∧
    (∃ (x : Carrier) (w : BitVec 64) (s : State), (wakeSync w = 0xB47 ∧ wakeOk w = false)) ∧
    (∃ (x : Carrier) (w : BitVec 64) (s : State), (wakeSync w = 0xB47 ∧ wakeOk w = true ∧ wakeType w = 2 ∧
      expected s (wakeFrag w) = true) ∧ (hearWake (s.qlt.wakeHeard.get x) w).count = 2) ∧
    (∃ (x : Carrier) (s : State), (s.qlt.answerDue.get x = true ∧ s.flag .qlt QLT.CTL.WAKE_ANSWER = true ∧
      keyable s x = true)) ∧
    (∃ (x : Carrier) (s : State), (quoletRuns (takeRecords x s) = true ∧
      (takeRecords x s).flag (.cpr x) CPR.STAT.PCH_ACTIVE = true) ∧
      (wordsAt (choosePhase ((takeRecords x s).qlt.pilotRx.get x))).isSome = true) ∧
    (∃ (x : Carrier) (s : State), (takeRecords x s).flag .qlt (pchSyncF x) = false ∧
      wordsAt (choosePhase ((takeRecords x s).qlt.pilotRx.get x)) = none) ∧
    (∃ (x : Carrier) (s : State), (s.flag .qlt (pchSyncF x) = true ∧ marksLost (s.qlt.pilotRx.get x) = true)) ∧
    (∃ (x : Carrier) (w : BitVec 64) (s : State), (quoletRuns s = true ∧ wordMark w = 2 ∧ wordV w = true ∧ wordF w = true ∧
      wordL w = false)) ∧
    (∃ (x : Carrier) (s : State), quoletRuns s = true) ∧
    (∃ (x : Carrier) (u : State) (w : BitVec 64) (s : State), (u = takeRecords x s ∧ quoletRuns u = true ∧
      u.flag .qlt (pchSyncF x) = true) ∧ (64 ≤ (syncBits (u.qlt.pilotRx.get x)).length ∧
      w = BitVec.ofNat 64 (ofMsbBits ((syncBits (u.qlt.pilotRx.get x)).take 64))) ∧ (wordMark w = 2 ∧ wordV w = true ∧
      wordF w = true ∧ wordL w = false)) ∧
    (∃ (x : Carrier) (s : State), s.running .qlt = true) ∧
    (∃ (x : Carrier) (on : Bool) (s : State), (quoletRuns s = true ∧ s.qlt.modulate.get x = some on)) ∧
    (∃ (x : Carrier) (s : State), (quoletRuns s = true ∧ s.qlt.inbAcked.get x = true ∧ passed s (.inbAcked x) msNs = true)) :=
  ⟨⟨.host, 0x3000000, .b, ready (put [(.fes, FES.STAT_B.STATE, 4)]), by decide +kernel⟩,
   ⟨.b, ⟨1, 1, 3⟩, setWake .b (some ⟨1, 1, 3⟩) (put [(.fes, FES.STAT_B.STATE, 4)]), by decide +kernel⟩,
   ⟨.b, 0xB470000000000001, State.reset, by decide +kernel⟩,
   ⟨.b, wakeWord 2 77 3 4, State.reset.setQlt
     { State.reset.qlt with wakeHeard := State.reset.qlt.wakeHeard.set .b [⟨2, 77, 3, 2, 1⟩] }, by decide +kernel⟩,
   ⟨.b, (put [(.fes, FES.STAT_B.STATE, 4)]).setQlt { State.reset.qlt with answerDue := ⟨false, true⟩ }, by decide +kernel⟩,
   ⟨.b, heardWords .b 16 (up [.qlt, .rk 1] (put [(.cpr .b, CPR.STAT.PCH_ACTIVE, 1)])), by decide +kernel⟩,
   ⟨.b, heardWords .b 15 (up [.qlt, .rk 1] (put [(.cpr .b, CPR.STAT.PCH_ACTIVE, 1)])), by decide +kernel⟩,
   ⟨.b, (put [(.qlt, QLT.PCH_STAT.SYNC_B, 1)]).setQlt
     { State.reset.qlt with pilotRx := State.reset.qlt.pilotRx.set .b { State.reset.qlt.pilotRx.get .b with marks := List.replicate 8 false ++ List.replicate 8 true } }, by decide +kernel⟩,
   ⟨.a, 0xD700000000000001, up [.qlt, .rk 1], by decide +kernel⟩,
   ⟨.b, (up [.qlt, .rk 1]).setQlt { State.reset.qlt with asmInband := ⟨some [1], some [2]⟩ }, by decide +kernel⟩,
   ⟨.b, takeRecords .b (heardWords .b 1 (up [.qlt, .rk 1] (put [(.qlt, QLT.PCH_STAT.SYNC_B, 1)]))), 0xD300000000000001,
     heardWords .b 1 (up [.qlt, .rk 1] (put [(.qlt, QLT.PCH_STAT.SYNC_B, 1)])), by decide +kernel⟩,
   ⟨.b, up [.qlt] (put [(.lfm .b, LFM.RX_STAT.FSTATE, 2)]), by decide +kernel⟩,
   ⟨.b, false, (up [.qlt, .rk 1]).setQlt { State.reset.qlt with modulate := ⟨none, some false⟩ }, by decide +kernel⟩,
   ⟨.b, clocked (.inbAcked .b) ((up [.qlt, .rk 1]).setQlt { State.reset.qlt with inbAcked := ⟨false, true⟩ }),
     by decide +kernel⟩⟩

theorem witness_HandshakeMessagesComplete :
    (∃ (x k : Carrier) (m : Message) (s : State), (quoletRuns s = true ∧ ownerOf s x = some k ∧
      (session s k).state ≠ sessDown) ∧ (macGood s k tAck m = true ∧ m.body = [])) ∧
    (∃ (x k : Carrier) (m : Message) (s : State), (quoletRuns s = true ∧ ownerOf s x = some k ∧
      (session s k).state = sessNegotiate ∧ (session s k).awaitHello = true) ∧ (lengthFits tHello m.body = true ∧
      sigGood s k tHello m = true) ∧ (helloJoins (firstHelloOn x m s) x m = none ∧ (session s k).heldKem = none)) ∧
    (∃ (x k : Carrier) (m : Message) (s : State), (InTurn x k tCaps m s ∧ (session s k).state = sessNegotiate ∧
      (session s k).heldKem = none) ∧ (session s .a).state ≠ sessKeyed) ∧
    (∃ (x k : Carrier) (m : Message) (s : State), (InTurn x k tAttest m s ∧ (session s k).state = sessNegotiate ∧
      (session s k).heldKem = none) ∧ ((session s .a).state ≠ sessKeyed ∧
      reportNonce (attestReportOf m.body) = (session s k).nonce)) ∧
    (∃ (x k : Carrier) (m : Message) (s : State), (InTurn x k tKemInit m s ∧ (session s k).state = sessNegotiate ∧
      ownRole s = 1) ∧ beAt (peerBody s k tHello) 1 1 ≠ 1) ∧
    (∃ (x k : Carrier) (m : Message) (seed : BitVec 512) (s : State), (InTurn x k tKemResp m s ∧
      (session s k).state = sessKeying ∧ ownRole s = 0) ∧ (beAt (peerBody s k tHello) 1 1 ≠ 0 ∧
      (session s k).kemSeed = some (seed, beAt m.body 0 4) ∧ (session s k).confirmed = false)) ∧
    (∃ (x k c : Carrier) (m : Message) (s : State), (InTurn x k tKeyConfirm m s ∧ (session s k).state = sessKeyed) ∧
      (beAt m.body 0 1 ≠ 0 ∧ c = (if beAt m.body 1 1 = 0 then .a else .b)) ∧ (activationPending s c = true ∧
      beAt m.body 2 1 = ownRole s ∧ s.get (.cry c) CRY.TX_STAT.PENDING_IDX = beAt m.body 3 1) ∧
      ((txSlot s c (beAt m.body 3 1)).epoch = beAt m.body 4 4 ∧ s.get (.cry c) (CRY.TX_SLOT.RATCHET.at (beAt m.body 3 1)) =
      beAt m.body 8 1) ∧ (csfAtOrAfter (txCsf s c + 16) (activationCsf s c) = false ∧ jointKeying s = false)) ∧
    (∃ (x k : Carrier) (type : BitVec 8) (m : Message) (s : State), (quoletRuns s = true ∧ ownerOf s x = some k ∧
      (session s k).state ≠ sessDown) ∧ ((session s k).awaitHello = false ∧ (session s k).ahead = [] ∧
      m.seq = (session s k).recvSeq) ∧ (macGood s k type.toNat m = true ∧ sigGood s k type.toNat m = true ∧
      tRefuse < type.toNat)) ∧
    (∃ (x k : Carrier) (type : BitVec 8) (m : Message) (s : State), (quoletRuns s = true ∧ ownerOf s x = some k ∧
      (session s k).state ≠ sessDown) ∧ ((session s k).awaitHello = false ∧ (session s k).ahead = [] ∧
      m.seq = (session s k).recvSeq) ∧ (macGood s k type.toNat m = true ∧ sigGood s k type.toNat m = true ∧
      tRefuse < type.toNat)) :=
  ⟨⟨.a, .a, plain [], inSession (inState 1), by decide +kernel⟩,
   ⟨.a, .a, ⟨1, 5, 0, List.replicate 42 0, [], none⟩, inSession { inState 1 with awaitHello := true }, by decide +kernel⟩,
   ⟨.a, .a, { plain [0,0,0,0,0,0,0,0] with flags := 1 }, inSession (inState 1), by decide +kernel⟩,
   ⟨.a, .a, { plain [0,0,0,0] with flags := 1 }, inSession (inState 1), by decide +kernel⟩,
   ⟨.a, .a, { plain (List.replicate 1572 0) with flags := 1 }, inSession (inState 1) (put [(.qlt, QLT.CTL.ROLE_SRC, 1),(.qlt,
     QLT.CTL.ROLE, 1)]), by decide +kernel⟩,
   ⟨.a, .a, { plain (List.replicate 1572 0) with flags := 1 }, 0,
     inSession { inState 2 with kemSeed := some (0, 0), peer := [(1, plain [0, 1])] }, by decide +kernel⟩,
   ⟨.a, .a, .b, sealed tKeyConfirm [1, 1, 0, 0, 0, 0, 0, 0, 0], inSession keyedSession (put [(.cry .b, CRY.TX_STAT.PENDING,
     1),(.cry .b, CRY.TX_ACT_LO.CSF, 100)]), ⟨inTurn_sealed (by decide +kernel), by decide +kernel⟩, by decide +kernel,
     by decide +kernel, by decide +kernel, by decide +kernel⟩,
   ⟨.a, .a, 0x12, plain [], inSession (inState 1), by decide +kernel⟩,
   ⟨.a, .a, 0xFF, plain [], inSession (inState 4), by decide +kernel⟩⟩

theorem witness_KeyedMessagesComplete :
    (∃ (x k c : Carrier) (m : Message) (ch : Chain) (s : State), (InTurn x k tRekey m s ∧ (session s k).state = sessKeyed ∧
      c = (if beAt m.body 0 1 = 0 then .a else .b)) ∧ (stepPending s c = false ∧ switchPending s c = false ∧
      s.qlt.sleepPlan = none) ∧ (chainAt s k (beAt m.body 3 4) (beAt m.body 7 1) = some ch ∧ beAt m.body 2 1 < 4) ∧
      (rxSlotState s c (beAt m.body 2 1) = slotEmpty ∨ rxSlotState s c (beAt m.body 2 1) = slotExpired)) ∧
    (∃ (x k : Carrier) (m : Message) (s : State), (InTurn x k tRateOffer m s ∧ (session s k).state = sessKeyed)) ∧
    (∃ (x k : Carrier) (m : Message) (s : State), (InTurn x k tRateAccept m s ∧ (session s k).state = sessKeyed)) ∧
    (∃ (x k y : Carrier) (m : Message) (s : State), (InTurn x k tStep m s ∧ (session s k).state = sessKeyed) ∧
      (beAt m.body 3 1 = 1 ∧ y ∈ maskCarriers (beAt m.body 0 1) ∧ rateState s y ≠ rsRestarting)) ∧
    (∃ (x k y : Carrier) (m : Message) (s : State), (InTurn x k tStepAck m s ∧ (session s k).state = sessKeyed) ∧
      (y ∈ maskCarriers (beAt m.body 0 1) ∧ beAt m.body 7 1 = 0 ∧ jointStep s = false) ∧ (rateState s y = rsOffered ∧
      (stepOf s y).n = beAt m.body 2 5 ∧ (stepOf s y).toMode = beAt m.body 1 1) ∧
      csfAtOrAfter (txCsf s y + 16) (beAt m.body 2 5) = false) ∧
    (∃ (x k : Carrier) (m : Message) (s : State), (InTurn x k tRouteSwitch m s ∧ (session s k).state = sessKeyed ∧
      beAt m.body 0 1 = 0) ∧ (switchRuns s = true ∧ switchState s = swIdle ∧ stepPending s (workingCarrier s) = false ∧
      s.qlt.sleepPlan = none)) ∧
    (∃ (x k : Carrier) (state delay : Nat) (s : State), (ownerOf s x = some k ∧ (session s k).state = sessKeyed ∧
      s.qlt.sleepAsked = none ∧ s.qlt.sleepPlan = none) ∧ sleepObjection s k = false) ∧
    (∃ (x k : Carrier) (m : Message) (s : State), (InTurn x k tSleepReq m s ∧ (session s k).state = sessKeyed ∧
      beAt m.body 0 1 = 0) ∧ (sleepObjection s k = false ∧ s.qlt.sleepAsked = none)) ∧
    (∃ (x k : Carrier) (m : Message) (s : State), (InTurn x k tWake m s ∧ (session s k).state = sessKeyed ∧
      beAt m.body 0 1 = 0)) ∧
    (∃ (x k : Carrier) (s : State), (ownerOf s x = some k ∧ (session s k).state = sessKeyed) ∧
      (s.qlt.sleepPlan.isSome = true ∨ s.qlt.sleepAsked.isSome = true)) ∧
    (∃ (x k : Carrier) (m : Message) (s : State), (InTurn x k tTelemetry m s ∧ (session s k).state = sessKeyed)) ∧
    (∃ (x k : Carrier) (channels : List (Fin 64)) (s : State), (ownerOf s x = some k ∧ (session s k).state = sessKeyed)) ∧
    (∃ (x k : Carrier) (m : Message) (s : State), (InTurn x k tTime m s ∧ (session s k).state ≠ sessDown)) ∧
    (∃ (x k : Carrier) (m : Message) (s : State), (InTurn x k tRefuse m s ∧ (session s k).state ≠ sessDown)) :=
  ⟨⟨.a, .a, .b, sealed tRekey [1, 1, 3, 0, 0, 0, 0, 0, 0, 0, 0, 1, 0, 0, 0], ⟨0, 0, 0, []⟩,
    inSession { keyedSession with chains := [⟨0, 0, 0, []⟩] }, ⟨inTurn_sealed (by decide +kernel), by decide +kernel⟩,
    by decide +kernel, by decide +kernel, by decide +kernel⟩,
   ⟨.a, .a, sealed tRateOffer [1, 2, 7], inSession keyedSession, ⟨inTurn_sealed (by decide +kernel), by decide +kernel⟩⟩,
   ⟨.a, .a, sealed tRateAccept [1, 2], inSession { keyedSession with peerTargets := (1, 1, 3) } (put [(.qlt,
     QLT.TARGET.TARGET_A, 1)]), ⟨inTurn_sealed (by decide +kernel), by decide +kernel⟩⟩,
   ⟨.a, .a, .b, sealed tStep [3, 2, 1, 1, 0, 0, 0, 0, 9], inSession keyedSession, ⟨inTurn_sealed (by decide +kernel),
     by decide +kernel⟩, by decide +kernel⟩,
   ⟨.a, .a, .a, sealed tStepAck [3, 0, 0, 0, 0, 0, 99, 0], putStep (inSession keyedSession (put [(.qlt, QLT.STAT.RSTATE_A,
     1)])) .a { State.reset.qlt.steps.a with n := 99 }, ⟨inTurn_sealed (by decide +kernel), by decide +kernel⟩,
     by decide +kernel, by decide +kernel, by decide +kernel⟩,
   ⟨.a, .a, sealed tRouteSwitch [0, 3, 1, 0, 0, 0, 0, 0], up [.rps] (inSession keyedSession (put [(.rps, RPS.CTL.MODE, 2)])),
     ⟨inTurn_sealed (by decide +kernel), by decide +kernel⟩, by decide +kernel⟩,
   ⟨.a, .a, 3, 100, inSession keyedSession, by decide +kernel⟩,
   ⟨.a, .a, sealed tSleepReq [0, 3, 0, 100, 0, 0], inSession keyedSession, ⟨inTurn_sealed (by decide +kernel),
     by decide +kernel⟩, by decide +kernel⟩,
   ⟨.a, .a, sealed tWake (List.replicate 13 0), (fun (z : State) => z.setQlt { z.qlt with sleepPlan := some ⟨3, 1, 0, 0⟩ })
     (inSession keyedSession), ⟨inTurn_sealed (by decide +kernel), by decide +kernel⟩⟩,
   ⟨.a, .a, (fun (z : State) => z.setQlt { z.qlt with sleepPlan := some ⟨3, 1, 0, 0⟩ }) (inSession keyedSession),
     by decide +kernel⟩,
   ⟨.a, .a, sealed tTelemetry [1, 9, 1, 2, 3, 4], inSession keyedSession, ⟨inTurn_sealed (by decide +kernel),
     by decide +kernel⟩⟩,
   ⟨.a, .a, [1, 63], inSession keyedSession, by decide +kernel⟩,
   ⟨.a, .a, plain ([1, 0, 0, 0, 0, 9] ++ List.replicate 25 0), inSession (inState 1), by decide +kernel⟩,
   ⟨.a, .a, plain [7, 0, 0, 0, 1, 2], inSession (inState 1), by decide +kernel⟩⟩

theorem witness_SessionTimersComplete :
    (∃ (k : Carrier) (seqNo : Nat) (o : Outstanding) (s : State),
      ((session s k).unacked.take windowSize).find? (fun z => z.msg.seq == seqNo) = some o ∧ (quoletRuns s = true ∧
      o.resends < s.get .qlt QLT.CTL.RETX_MAX) ∧ passed s (.retx k seqNo o.resends) (retxNs s k o.resends) = true) ∧
    (∃ (k : Carrier) (s : State), (quoletRuns s = true ∧ (session s k).ackDue = true)) ∧
    (∃ (x k : Carrier) (e : Nat × Nat) (s : State), (ownerOf s x = some k ∧ (s.qlt.txStamps.get x).head? = some e ∧
      quoletRuns s = true) ∧ (pathState s x = pathInband ∧ s.get .qlt QLT.TIME_CFG.PERIOD ≠ 0 ∧
      csfAtOrAfter (e.1 + 1024) (txCsf s x) = true) ∧ spaced s (.timeSent x) (s.get .qlt QLT.TIME_CFG.PERIOD * msNs) = true ∧
      ((session s k).state ≠ sessDown ∧ (session s k).state ≠ sessFailed)) ∧
    (∃ (k : Carrier) (s : State), ((session s k).state = sessNegotiate ∨ (session s k).state = sessKeying) ∧
      passed s (.handshake k) (5 * secNs) = true) ∧
    (∃ (k : Carrier) (s : State), ((session s k).state = sessFailed ∧ sessionUp s k = true ∧ handshakeAllowed s = true) ∧
      passed s (.failed k) (10 * secNs) = true) ∧
    (∃ (k x : Carrier) (s : State), (ownerOf s x = some k ∧ sessionUp s k = false ∧ passed s (.pathless k) secNs = true)) :=
  ⟨⟨.a, 0, ⟨2, plain [], 0⟩, clocked (.retx .a 0 0) (inSession { inState 1 with unacked := [⟨2, plain [], 0⟩] }),
    by decide +kernel⟩,
   ⟨.a, inSession { inState 1 with ackDue := true }, by decide +kernel⟩,
   ⟨.a, .a, (1, 2), (fun (z : State) => z.setQlt { z.qlt with txStamps := ⟨[(1, 2)], []⟩ }) (inSession (inState 1) (put
     [(.qlt, QLT.STAT.PATH_A, 2)])), by decide +kernel⟩,
   ⟨.a, clocked (.handshake .a) (inSession (inState 2)), by decide +kernel⟩,
   ⟨.a, clocked (.failed .a) (inSession (inState 4) (put [(.qlt, QLT.STAT.PATH_A, 1)])), by decide +kernel⟩,
   ⟨.a, .a, clocked (.pathless .a) (inSession (inState 3)), by decide +kernel⟩⟩

theorem witness_RateStepCommandsComplete :
    (∃ (x k : Carrier) (s : State), (ownerOf s x = some k ∧ (session s k).state = sessKeyed ∧ ownRole s = 0 ∧
      s.flag .qlt QLT.CTL.AUTO_STEP = true) ∧ (jointStep s = false ∧ stepReady s k x = true ∧ receiveCondition s x = true)) ∧
    (∃ (x : Carrier) (s : State), (rateState s x = rsOffered ∧ csfAtOrAfter (txCsf s x + 16) (stepOf s x).n = true)) ∧
    (∃ (x : Carrier) (s : State), restartDue s x = true) ∧
    (∃ (x : Carrier) (jump : Bool) (s : State), rateState s x = rsArmed ∧ (jump = false → inFrame s x = true ∧
      csfAtOrAfter (s.pair (.lfm x) LFM.RX_CSF_LO.CSF LFM.RX_CSF_HI.CSF) ((stepOf s x).n + 64) = true)) ∧
    (∃ (x : Carrier) (s : State), (rateState s x = rsRestarting ∧ (stepOf s x).restarted = true ∧ fecLocked s x = true ∧
      inFrame s x = true ∧ stepTimedOut s x = false)) ∧
    (∃ (x : Carrier) (s : State), (rateState s x = rsConfirming ∧ (stepOf s x).failed = false ∧ (stepOf s x).kind ≠ 1 ∧
      sfHeld s (.confirming x) = true)) ∧
    (∃ (x : Carrier) (s : State), (rateState s x = rsRestarting ∧ (stepOf s x).restarted = true) ∧
      (stepTimedOut s x = true ∨ (stepOf s x).failed = true)) ∧
    (∃ (x k : Carrier) (mode : Nat) (s : State), (ownerOf s x = some k ∧ rateState s x = rsSteady ∧ downDue s x = true ∧
      downTo s x = some mode)) ∧
    (∃ (x : Carrier) (step : Nat × Nat) (s : State), ((stepOf s x).waiting = some step ∧
      passed s (.backoff x) ((backoffOf s x step).getD 0 * secNs) = true)) ∧
    (∃ (p : SleepPlan) (s : State), (s.qlt.sleepPlan = some p ∧ s.running .qlt = true ∧ onlyReserve s = false ∧
      passed s .sleepPlan (p.delay * msNs) = true)) :=
  ⟨⟨.a, .a, putStep (inSession { keyedSession with peerTargets := (1, 1, 3) } (put [(.qlt, QLT.NEG_TARGET.NEG_A, 1),(.qlt,
    QLT.CTL.AUTO_STEP, 1),(.qlt, QLT.TARGET.MODE_MASK, 3),(.fec .a, FEC.STAT.STATE, 3),(.lfm .a, LFM.RX_STAT.FSTATE,
    2)])) .a { State.reset.qlt.steps.a with goodPs := 9000000000000 }, by decide +kernel⟩,
   ⟨.b, put [(.qlt, QLT.STAT.RSTATE_B, 1)], by decide +kernel⟩,
   ⟨.b, put [(.qlt, QLT.STAT.RSTATE_B, 2)], by decide +kernel⟩,
   ⟨.b, true, put [(.qlt, QLT.STAT.RSTATE_B, 3)], by decide +kernel⟩,
   ⟨.b, putStep (put [(.qlt, QLT.STAT.RSTATE_B, 4),(.lfm .b, LFM.RX_STAT.FSTATE, 2),(.fec .b, FEC.STAT.STATE,
     3)]) .b { State.reset.qlt.steps.b with restarted := true }, by decide +kernel⟩,
   ⟨.b, clocked (.confirming .b) (putStep (put [(.qlt, QLT.STAT.RSTATE_B,
     5)]) .b { State.reset.qlt.steps.b with fromMode := 1, toMode := 2, backoffs := [((1, 2), 60)] }), by decide +kernel⟩,
   ⟨.b, clocked (.restarted .b) (putStep (put [(.qlt, QLT.STAT.RSTATE_B,
     4)]) .b { State.reset.qlt.steps.b with restarted := true }), by decide +kernel⟩,
   ⟨.a, .a, 0, inSession keyedSession (put [(.lfm .a, LFM.MODE.MODE, 1)]), by decide +kernel⟩,
   ⟨.b, (1, 2), clocked (.backoff .b) (putStep State.reset .b
     { State.reset.qlt.steps.b with waiting := some (1, 2), backoffs := [((1, 2), 60)] }), by decide +kernel⟩,
   ⟨⟨1, 1, 0, 0⟩, clocked .sleepPlan ((fun (z : State) => z.setQlt { z.qlt with sleepPlan := some ⟨1, 1, 0, 0⟩ }) (inSession
     keyedSession)), by decide +kernel⟩⟩

theorem witness_RouteProtectionCommandsComplete :
    (∃ (s : State), (pairRuns s = true ∧ 0 < s.rps.pause)) ∧
    (∃ (csf lf : Nat) (s : State), (pairRuns s = true ∧ s.rps.pause = 0 ∧ s.rps.next = some (csf, lf) ∧
      pairState s = raAligned)) ∧
    (∃ (s : State), (pairRuns s = true ∧ pairState s = raSingle ∧ inFrame s .a = false ∧ inFrame s .b = false)) ∧
    (∃ (s : State), (pairRuns s = true ∧ pairState s = raSingle ∧ (inFrame s .a = true ∨ inFrame s .b = true) ∧
      64 ≤ s.rps.matched)) ∧
    (∃ (s : State), pairState s = raDrift) ∧
    (∃ (o : Origin) (s : State), TakesField o .rps RPS.CMD.REALIGN 1 s ∧ pairState s = raDrift) ∧
    (∃ (o : Origin) (route : Fin 2) (c : Carrier) (s : State), Takes o .rps RPS.CMD.CMD.off (routeCommand 1 route.val) s ∧
      (pairRuns s = true ∧ c.idx = route.val ∧ carrierPresent s c = true ∧ s.flag (.fec c) FEC.STAT.SF = false ∧
      s.flag .rps RPS.STAT.FORCED = false)) ∧
    (∃ (o : Origin) (route : Fin 2) (c : Carrier) (s : State), Takes o .rps RPS.CMD.CMD.off (routeCommand 2 route.val) s ∧
      (pairRuns s = true ∧ c.idx = route.val)) ∧
    (∃ (o : Origin) (route : Fin 2) (s : State), Takes o .rps RPS.CMD.CMD.off (routeCommand 3 route.val) s) ∧
    (∃ (s : State), (pairRuns s = true ∧ s.flag (.fec (activeCarrier s)) FEC.STAT.SF = true) ∧
      (s.flag (.fec (activeCarrier s).other) FEC.STAT.SF = false ∧ carrierPresent s (activeCarrier s).other = true ∧
      s.flag .rps RPS.STAT.FORCED = false) ∧ passed s .sfAlone (s.get .rps RPS.TIMERS.HOLDOFF * msNs) = true) ∧
    (∃ (s : State), (wtrRuns s = true ∧ passed s .waitRestore (s.get .rps RPS.TIMERS.WTR * 10 * secNs) = true)) ∧
    (∃ (s : State), (pairRuns s = true ∧ storeHolds s = false ∧ s.flag .rps RPS.STAT.DRAM = false)) :=
  ⟨⟨(fun (z : State) => z.setRps { z.rps with pause := 2 }) (up [.rps] (put [(.rps, RPS.CTL.MODE, 1)])), by decide +kernel⟩,
   ⟨7, 63, (fun (z : State) => z.setRps { z.rps with next := some (7, 63) }) (up [.rps] (put [(.rps, RPS.CTL.MODE, 1),(.rps,
     RPS.STAT.ASTATE, 3)])), by decide +kernel⟩,
   ⟨up [.rps] (put [(.rps, RPS.CTL.MODE, 1),(.rps, RPS.STAT.ASTATE, 2)]), by decide +kernel⟩,
   ⟨(fun (z : State) => z.setRps { z.rps with matched := 64 }) (up [.rps] (put [(.rps, RPS.CTL.MODE, 1),(.rps,
     RPS.STAT.ASTATE, 2),(.lfm .b, LFM.RX_STAT.FSTATE, 2)])), by decide +kernel⟩,
   ⟨put [(.rps, RPS.STAT.ASTATE, 4),(.rps, RPS.DELAY_NS.MEASURED, 900000)], by decide +kernel⟩,
   ⟨.host, ready (put [(.rps, RPS.STAT.ASTATE, 4)]), by decide +kernel⟩,
   ⟨.host, 1, .b, ready (up [.rps] (put [(.rps, RPS.CTL.MODE, 1),(.rps, RPS.STAT.ASTATE, 3)])), by decide +kernel⟩,
   ⟨.host, 1, .b, ready (up [.rps] (put [(.rps, RPS.CTL.MODE, 1),(.rps, RPS.STAT.ASTATE, 3)])), by decide +kernel⟩,
   ⟨.host, 1, ready (put [(.rps, RPS.STAT.FORCED, 1)]), by decide +kernel⟩,
   ⟨clocked .sfAlone (up [.rps] (put [(.rps, RPS.CTL.MODE, 1),(.rps, RPS.STAT.ASTATE, 3),(.fec .a, FEC.STAT.SF, 1)])),
     by decide +kernel⟩,
   ⟨clocked .waitRestore (up [.rps] (put [(.rps, RPS.CTL.MODE, 1),(.rps, RPS.CTL.REVERT, 1),(.rps, RPS.STAT.ASTATE, 3),(.rps,
     RPS.STAT.ACTIVE, 1)])), by decide +kernel⟩,
   ⟨up [.rps] (put [(.rps, RPS.CTL.MODE, 1),(.rps, RPS.DELAY_NS.MEASURED, 20000000)]), by decide +kernel⟩⟩

theorem witness_RouteSwitchCommandsComplete :
    (∃ (k : Carrier) (s : State), (switchRuns s = true ∧ switchState s = swIdle ∧ s.entering pwrSleep = false ∧
      switchSession s = some k) ∧ s.flag .rps RPS.STAT.FORCED = false ∧
      ((s.flag (.fec (workingCarrier s)) FEC.STAT.SF = true ∧ passed s (.inSf (workingCarrier s)) (s.get .rps
      RPS.TIMERS.HOLDOFF * msNs) = true) ∨ (inFrame s (workingCarrier s) = false ∧
      passed s (.outOfFrame (workingCarrier s)) (s.get .rps RPS.TIMERS.HOLDOFF * msNs) = true))) ∧
    (∃ (s : State), (switchState s = swRequested ∧ csfAtOrAfter (txCsf s (workingCarrier s) + 16) s.rps.n = true)) ∧
    (∃ (s : State), (switchState s = swCommitted ∧ csfAtOrAfter (txCsf s (workingCarrier s)) s.rps.n = true ∧
      s.rps.route < 2)) ∧
    (∃ (c : Carrier) (s : State), (switchState s = swSwitching ∧ c = workingCarrier s ∧ acqState s c ≠ acqIdleState ∧
      passed s .settling (settleNs s) = true)) ∧
    (∃ (hitUs : Nat) (s : State), (switchState s = swSwitching ∧ inFrame s (workingCarrier s) = true)) ∧
    (∃ (s : State), (switchRuns s = true ∧ inFrame s (workingCarrier s) = false ∧ s.flag .rps RPS.STAT.FORCED = false ∧
      switchState s = swSwitching) ∧ passed s .toggled (settleNs s + 10 * msNs) = true) :=
  ⟨⟨.a, clocked (.inSf .a) (up [.rps] (inSession (inState 1) (put [(.rps, RPS.CTL.MODE, 2),(.fec .a, FEC.STAT.SF, 1),(.qlt,
    QLT.STAT.PATH_A, 1)]))), by decide +kernel⟩,
   ⟨put [(.rps, RPS.STAT.SSTATE, 1)], by decide +kernel⟩,
   ⟨(put [(.rps, RPS.STAT.SSTATE, 2)]).setRps { State.reset.rps with route := 1 }, by decide +kernel⟩,
   ⟨.a, clocked .settling (put [(.rps, RPS.STAT.SSTATE, 3),(.eqz .a, EQZ.ACQ_STAT.STATE, 3)]), by decide +kernel⟩,
   ⟨2000000000, put [(.rps, RPS.STAT.SSTATE, 3),(.lfm .a, LFM.RX_STAT.FSTATE, 2)], by decide +kernel⟩,
   ⟨clocked .toggled (up [.rps] (put [(.rps, RPS.CTL.MODE, 2),(.rps, RPS.STAT.SSTATE, 3)])), by decide +kernel⟩⟩

theorem witness_OpticsCommandsComplete :
    (∃ (o : Origin) (c : Carrier) (en : Bool) (s : State), TakesField o .fes (fesEn c) (bit en) s ∧
      s.flag .fes (fesEn c) ≠ en ∧ (en = true → fesState s c = fesDark) ∧ (en = false → fesState s c ≠ fesFault ∧
      fesState s c ≠ fesSafe)) ∧
    (∃ (c : Carrier) (s : State), passed s (.poweringUp c) (s.get .fes FES.TIMEOUT.READY_TO * secNs) = false ∧
      (s.running .fes = true ∧ fesState s c = fesDark ∧ s.flag .fes (fesEn c) = true)) ∧
    (∃ (o : Origin) (c : Carrier) (s : State), TakesField o .fes (pick c FES.CTL_A.TUNE FES.CTL_B.TUNE) 1 s ∧
      (fesState s c = fesPowered ∨ (fesTuned ≤ fesState s c ∧ fesState s c ≤ fesLocked))) ∧
    (∃ (c : Carrier) (s : State), passed s (.tuning c) (s.get .fes FES.TIMEOUT.TUNE_TO * secNs) = false ∧
      fesState s c = fesTuning) ∧
    (∃ (c : Carrier) (s : State), (s.running .fes = true ∧ fesState s c = fesTuned ∧ txRunning s c = true ∧
      s.flag .fes (fesAuto c) = false)) ∧
    (∃ (o : Origin) (c : Carrier) (s : State), TakesField o .fes (pick c FES.CTL_A.TX_REQ FES.CTL_B.TX_REQ) 1 s ∧
      (fesState s c = fesTxReady ∧ plinthGrants s c = true ∧ holdCauses s c = 0 ∧ txRunning s c = true)) ∧
    (∃ (c : Carrier) (s : State), (s.flag .fes (fesHeldF c) = true ∧ fesState s c = fesTxReady ∧ holdCauses s c = 0 ∧
      plinthGrants s c = true ∧ holdOver s c = false)) ∧
    (∃ (c : Carrier) (s : State), (s.flag .fes (fesHeldF c) = true ∧ holdOver s c = true)) ∧
    (∃ (o : Origin) (c : Carrier) (s : State), TakesField o .fes (pick c FES.CTL_A.TX_OFF FES.CTL_B.TX_OFF) 1 s ∧
      fesEmits s c = true) ∧
    (∃ (o : Origin) (c : Carrier) (s : State), TakesField o .fes (pick c FES.CTL_A.CLR_FAULT FES.CTL_B.CLR_FAULT) 1 s ∧
      fesState s c = fesFault) ∧
    (∃ (c : Carrier) (code : Nat) (s : State), (s.running .fes = true ∧ code < s.get .fes FES.LOS_CFG.SET ∧
      1 ≤ (s.optics.get c).below)) ∧
    (∃ (c : Carrier) (cause : Nat) (s : State), (s.running .fes = true ∧ fesPowered ≤ fesState s c ∧
      fesState s c ≤ fesLocked ∧ cause < 256)) ∧
    (∃ (c : Carrier) (s : State), safetyHold s c = true) ∧
    (∃ (c : Carrier) (s : State), (fesState s c = fesLocked ∧ 30000 < (s.getInt (.cpr c) CPR.FO_EST.FO).natAbs ∧
      (s.optics.get c).marginArmed = true ∧ passed s (.foWide c) secNs = true)) ∧
    (∃ (c : Carrier) (y : Bool) (s : State), (s.running .fes = true ∧ s.flag .fes (fesTrack c) = true ∧
      fesPowered ≤ fesState s c ∧ fesState s c ≤ fesLocked) ∧ ((polLanes c y).all (fun n => s.running (.lrx n)) = true ∧
      (polLanes c y).any (fun n => s.flag (.lrx n) LRX.GAIN_STAT.AT_MIN) = false) ∧
      ((polLanes c y).any (fun n => s.flag (.lrx n) LRX.GAIN_STAT.AT_MAX) = true ∧ s.flag .fes (fesPol c) = true) ∧
      spaced s (.tiaStepped c y) (s.get .fes FES.GAIN_LOOP.DWELL * msNs) = true ∧
      (s.get .fes (fesTiaMin c) < s.get .fes (fesTiaMax c) ∧ s.get .fes (fesTia c y) + s.get .fes FES.GAIN_LOOP.STEP ≤ s.get
      .fes (fesTiaMax c) ∧ s.get .fes (fesTiaMin c) ≤ s.get .fes (fesTia c y))) ∧
    (∃ (o : Origin) (w : Word) (d : Int) (s : State), Takes o .fes FES.CMIS_CMD.GO.off (overlay w FES.CMIS_CMD.GO 1) s) ∧
    (∃ (c : Carrier) (asserted : Bool) (modState : Nat) (lock settling laserFault : Bool) (s : State), s.running .fes = true) ∧
    (∃ (n : Fin 3) (s : State), (s.running (.syn n) = true ∧ s.flag (.syn n) SYN.STAT.LOCK = true)) ∧
    (∃ (n : Fin 3) (band : Int × Int) (s : State), (s.running (.syn n) = true ∧ s.flag (.syn n) SYN.STAT.LOCK = false)) :=
  ⟨⟨.host, .b, true, ready, by decide +kernel⟩,
   ⟨.b, up [.fes] (put [(.fes, FES.CTL_B.EN, 1)]), by decide +kernel⟩,
   ⟨.host, .b, ready (put [(.fes, FES.STAT_B.STATE, 4)]), by decide +kernel⟩,
   ⟨.b, (put [(.fes, FES.STAT_B.STATE, 2)]), by decide +kernel⟩,
   ⟨.b, up [.fes, .txp .b, .ltx 4, .ltx 5, .ltx 6, .ltx 7] (put [(.fes, FES.STAT_B.STATE, 3),(.fes, FES.CTL_B.AUTO, 0)]),
     by decide +kernel⟩,
   ⟨.host, .b, (fun (z : State) => { z with optics := { z.optics with b := { z.optics.b with waveLock := true } } }) (ready
     (up [.fes, .txp .b, .ltx 4, .ltx 5, .ltx 6, .ltx 7] (put [(.fes, FES.STAT_B.STATE, 4),(.syn 1, SYN.STAT.LOCK, 1)]))),
     by decide +kernel⟩,
   ⟨.b, (fun (z : State) => { z with optics := { z.optics with b := { z.optics.b with waveLock := true } } }) (put [(.fes,
     FES.STAT_B.STATE, 4),(.fes, FES.STAT_B.TX_HELD, 1),(.syn 1, SYN.STAT.LOCK, 1)]), by decide +kernel⟩,
   ⟨.b, clocked (.txHeld .b) (put [(.fes, FES.STAT_B.TX_HELD, 1)]), by decide +kernel⟩,
   ⟨.host, .b, ready (put [(.fes, FES.STAT_B.STATE, 6)]), by decide +kernel⟩,
   ⟨.host, .b, ready (put [(.fes, FES.STAT_B.STATE, 8)]), by decide +kernel⟩,
   ⟨.b, 5, (fun (z : State) => { z with optics := { z.optics with b := { z.optics.b with below := 1 } } }) (up [.fes] (put
     [(.fes, FES.LOS_CFG.SET, 100)])), by decide +kernel⟩,
   ⟨.b, 7, up [.fes] (put [(.fes, FES.STAT_B.STATE, 6)]), by decide +kernel⟩,
   ⟨.b, put [(.pln, PLN.HOLD.HOLD_B, 1),(.fes, FES.STAT_B.STATE, 6)], by decide +kernel⟩,
   ⟨.b, clocked (.foWide .b) (put [(.fes, FES.STAT_B.STATE, 7),(.cpr .b, CPR.FO_EST.FO, 30001)]), by decide +kernel⟩,
   ⟨.b, true, up [.fes, .lrx 6, .lrx 7] (put [(.fes, FES.STAT_B.STATE, 7),(.fes, FES.CTL_B.GAIN_TRACK, 1),(.fes,
     FES.CTL_B.TIA_POL, 1),(.lrx 7, LRX.GAIN_STAT.AT_MAX, 1),(.lrx 6, LRX.GAIN_STAT.AT_MIN, 0),(.fes, FES.TIA_CFG_B.MIN,
     1),(.fes, FES.TIA_CFG_B.MAX, 9000),(.fes, FES.TIA_B.Y, 100)]), by decide +kernel⟩,
   ⟨.host, 0x30000, 77, ready, by decide +kernel⟩,
   ⟨.b, true, 3, true, false, false, up [.fes], by decide +kernel⟩,
   ⟨1, up [.syn 1] (put [(.syn 1, SYN.STAT.LOCK, 1)]), by decide +kernel⟩,
   ⟨1, (1, 1), up [.syn 1], by decide +kernel⟩⟩

theorem witness_TelemetryAndTapCommandsComplete :
    (∃ (inputs : TelInputs) (s : State), telTickDue s = true) ∧
    (∃ (n : Fin 64) (m : Nat) (v : Int) (tick : Nat) (s : State), (telChannel s n.val).due = some (m, v, tick)) ∧
    (∃ (s : State), (s.running .tel = true ∧ s.flag .tel TEL.CTL.PIN_EN = true)) ∧
    (∃ (o : Origin) (s : State), TakesField o .tel TEL.CTL.SYNC 1 s ∧ s.running .tel = true) ∧
    (∃ (o : Origin) (c : Carrier) (s : State), TakesField o .tel (tapLearnF c) 1 s ∧ tapState s c = tapDisarmed) ∧
    (∃ (c : Carrier) (s : State), (tapState s c = tapLearning ∧ learnFull s c = true ∧ patinaRuns s = true)) ∧
    (∃ (o : Origin) (c : Carrier) (arm : Bool) (s : State), TakesField o .tel (tapArmF c) (bit arm) s ∧
      (tapState s c = tapDisarmed ∨ arm = false)) ∧
    (∃ (o : Origin) (c : Carrier) (s : State), TakesField o .tel (tapAckF c) 1 s ∧ tapState s c = tapAlarm) ∧
    (∃ (o : Origin) (c : Carrier) (rules : BitVec 5) (s : State),
      Takes o .tel TEL.TAP_RAISE.RULES.off (overlay (overlay 0 TEL.TAP_RAISE.CARRIER c.idx) TEL.TAP_RAISE.RULES rules.toNat)
      s ∧ tapState s c = tapArmed) :=
  ⟨⟨⟨0, 0, none⟩, up [.tel], by decide +kernel⟩,
   ⟨63, 65537, -5, 7, putTel State.reset 63 { telChannel State.reset 63 with due := some (65537, -5, 7) }, by decide +kernel⟩,
   ⟨up [.tel] (put [(.tel, TEL.CTL.PIN_EN, 1)]), by decide +kernel⟩,
   ⟨.host, ready (up [.tel]), by decide +kernel⟩,
   ⟨.host, .b, ready (put [(.fes, FES.STAT_B.STATE, 7)]), by decide +kernel⟩,
   ⟨.b, (fun (z : State) => putTap z .b
     { z.tel.taps.b with counts := List.replicate 22 4000000, sums := List.replicate 22 8000000, sop := [(2, 4000000)] }) (up
     [.rk 7] (put [(.tel, TEL.TAP_STAT.STATE_B, 1),(.tel, TEL.TAP_CTL.LEARN_S, 1)])), by decide +kernel⟩,
   ⟨.host, .b, false, ready (put [(.tel, TEL.TAP_CTL.ARM_B, 1),(.tel, TEL.TAP_STAT.STATE_B, 3)]), by decide +kernel⟩,
   ⟨.host, .b, ready (put [(.tel, TEL.TAP_STAT.STATE_B, 3),(.tel, TEL.TAP_STAT.RULES_B, 3)]), by decide +kernel⟩,
   ⟨.rk 6, .b, 5, ready (put [(.tel, TEL.TAP_STAT.STATE_B, 2)]), by decide +kernel⟩⟩

theorem witness_CastCommandsComplete :
    (∃ (s : State), (s.cast.ringWaiting ≠ [] ∨ s.cast.ringOpen.isSome = true)) ∧
    (∃ (b : Fin 11) (s : State), (s.running .cast = true ∧ testBit (s.get .cast CAST.CTL.TRIG_EN) b.val = true ∧
      s.cast.arrived = []) ∧ (castState s = castIdle ∧ castHolds s = false ∧ patinaRuns s = true)) ∧
    (∃ (o : Origin) (s : State), TakesField o .cast CAST.CTL.TRIG 1 s ∧ (s.running .cast = true ∧
      testBit (s.get .cast CAST.CTL.TRIG_EN) 0 = true) ∧ (castState s = castIdle ∧ castHolds s = false ∧ patinaRuns s = true)) ∧
    (∃ (b time : Nat) (s : State), (s.cast.held = some (b, time) ∧ s.running .cast = true ∧ castState s = castIdle ∧
      castHolds s = false ∧ patinaRuns s = true)) ∧
    (∃ (v : CastWindow) (s : State), s.cast.window = some v) ∧
    (∃ (v : CastWindow) (s : State), (s.cast.committing = some v ∧ castCommitting s = true ∧ patinaRuns s = true ∧
      canSign s = true ∧ archiveTakes s = true)) ∧
    (∃ (n : Fin 8) (s : State), passed s .snapshot (s.get .cast CAST.SNAP.US * usNs) = true) :=
  ⟨⟨State.reset.setCast { State.reset.cast with ringOpen := some ⟨0, 0, 0, 0, []⟩ }, by decide +kernel⟩,
   ⟨10, up [.cast, .rk 7], by decide +kernel⟩,
   ⟨.host, ready (up [.cast, .rk 7]), by decide +kernel⟩,
   ⟨3, 99, (up [.cast, .rk 7]).setCast { State.reset.cast with held := some (3, 99) }, by decide +kernel⟩,
   ⟨⟨0, 0, 0, 0, 0, 0, 1, false, false, false, 0, 0⟩, State.reset.setCast
     { State.reset.cast with window := some ⟨0, 0, 0, 0, 0, 0, 1, false, false, false, 0, 0⟩ }, by decide +kernel⟩,
   ⟨⟨0, 0, 0, 0, 0, 0, 1, false, false, false, 0, 0⟩, (fun (z : State) => z.setCast
     { z.cast with committing := some ⟨0, 0, 0, 0, 0, 0, 1, false, false, false, 0, 0⟩ }) (up [.cast, .rk 7] (put [(.cast,
     CAST.STAT.COMMIT, 1),(.pln, PLN.STAT.ID_OK, 1),(.arc, ARC.STAT.MEDIA, 2)])), by decide +kernel⟩,
   ⟨7, clocked .snapshot (put [(.lrx 7, LRX.SNAP_STAT.CAPTURING, 1)]), by decide +kernel⟩⟩

theorem witness_ClientPortCommandsComplete :
    (∃ (c : Carrier) (q : Fin 4) (s : State), ingressAhead s c q.val = true) ∧
    (∃ (c : Carrier) (q : Fin 4) (inserted deleted : Nat) (s : State), (admitted s c q.val = true ∧
      s.running (.cpc c) = true)) ∧
    (∃ (c : Carrier) (q : Fin 4) (isUp hiBer : Bool) (s : State), (admitted s c q.val = true ∧ s.running (.cpc c) = true)) ∧
    (∃ (c : Carrier) (q : Fin 4) (n : Nat) (s : State), (admitted s c q.val = true ∧ s.running (.cpc c) = true)) ∧
    (∃ (c : Carrier) (q : Fin 4) (x : BitVec 257) (s : State), (egressTake q.val 1 (s.cpc.get c).egress).1 = [some x] ∧
      (admitted s c q.val = true ∧ s.running (.cpc c) = true) ∧ (egressState s c q.val = egData ∨ egressState s c q.val =
      egError)) ∧
    (∃ (c : Carrier) (q : Fin 4) (s : State), (egressTake q.val 1 (s.cpc.get c).egress).1 = [none] ∧
      (admitted s c q.val = true ∧ s.running (.cpc c) = true) ∧ (egressState s c q.val = egData ∨ egressState s c q.val =
      egError)) ∧
    (∃ (c : Carrier) (q : Fin 4) (s : State), (egressState s c q.val = egError ∧
      passed s (.faultHold c q) (s.get (.cpc c) CPC.CTL.FAULT_HOLD * 10 * usNs) = true)) ∧
    (∃ (n : Fin 16) (s : State), clxState s n = clxIdle) ∧
    (∃ (n : Fin 16) (snr dfe1 ctle : BitVec 8) (s : State), (clxState s n = clxAdapt ∧ clxOver s n clxAdaptNs = false)) ∧
    (∃ (n : Fin 16) (s : State), clxState s n = clxReady) ∧
    (∃ (n : Fin 16) (s : State), ((clxState s n = clxCdr ∧ passed s (.laneState n) clxLockNs = true) ∨ (clxState s n =
      clxAdapt ∧ passed s (.laneState n) clxAdaptNs = true))) ∧
    (∃ (n : Fin 16) (s : State), (clxDetector s n = true ∧ s.flag (.clx n) CLX.CTL.EI_WAKE = false)) ∧
    (∃ (n : Fin 16) (received : Bool) (s : State), ((pageBoundary (.clx n) s).flag (.clx n) CLX.PAT_CTL.CHK_EN = true ∧
      clxState s n = clxReady) ∧ (pageBoundary (.clx n) s).flag (.clx n) CLX.CHK_STAT.SYNC = true) ∧
    (∃ (o : Origin) (n : Fin 16) (w : Word) (s : State), Takes o (.clx n) CLX.INJ_CTL.SINGLE.off (overlay w
      CLX.INJ_CTL.SINGLE 1) s ∧ clxSending s n = true) ∧
    (∃ (n : Fin 16) (s : State), ((pageBoundary (.clx n) s).get (.clx n) CLX.INJ_CTL.MODE = 1 ∧ clxSending s n = true) ∧
      spaced (pageBoundary (.clx n) s) (.inverted n) (clxPeriodNs (pageBoundary (.clx n) s) n) = true) ∧
    (∃ (o : Origin) (n : Fin 16) (w : Word) (s : State), Takes o (.clx n) CLX.EYE_CTL.START.off (overlay w CLX.EYE_CTL.START
      1) s ∧ s.flag (.clx n) CLX.EYE_STAT.BUSY = false) ∧
    (∃ (o : Origin) (w : Word) (s : State), Takes o .hlk HLK.EYE_CTL.START.off (overlay w HLK.EYE_CTL.START 1) s ∧
      (s.flag .hlk HLK.EYE_STAT.BUSY = false ∧ s.hostLink.margin = none)) ∧
    (∃ (n : Fin 16) (mismatches : Nat) (s : State), (s.flag (.clx n) CLX.EYE_STAT.BUSY = true ∧
      passed s (.clientEye n) (clxEyeNs s n) = true)) ∧
    (∃ (n : Fin 8) (mismatches : Nat) (s : State), (s.flag .hlk HLK.EYE_STAT.BUSY = true ∧
      passed s .hostEye (hostEyeNs s) = true)) :=
  ⟨⟨.b, 3, ahead .b 3 (put [(.cpc .b, CPC.IDLE.DEL.at 3, 65535)]), by decide +kernel⟩,
   ⟨.b, 3, 70000, 2, up [.cpc .b] (put [(.cpc .b, CPC.PSTAT.ADMITTED.at 3, 1)]), by decide +kernel⟩,
   ⟨.b, 3, true, false, clocked (.portReady .b 3) (up [.cpc .b] (put [(.cpc .b, CPC.PSTAT.ADMITTED.at 3, 1),(.clx 12,
     CLX.STAT.RX_STATE, 4),(.clx 13, CLX.STAT.RX_STATE, 4),(.clx 14, CLX.STAT.RX_STATE, 4),(.clx 15, CLX.STAT.RX_STATE,
     4)])), by decide +kernel⟩,
   ⟨.b, 3, 5, waitingOut .b 3 none (up [.cpc .b] (put [(.cpc .b, CPC.PSTAT.ADMITTED.at 3, 1)])), by decide +kernel⟩,
   ⟨.b, 3, 5, waitingOut .b 3 (some 5) (up [.cpc .b] (put [(.cpc .b, CPC.PSTAT.ADMITTED.at 3, 1),(.cpc .b,
     CPC.PSTAT.ESTATE.at 3, 2)])), by decide +kernel⟩,
   ⟨.b, 3, waitingOut .b 3 none (up [.cpc .b] (put [(.cpc .b, CPC.PSTAT.ADMITTED.at 3, 1),(.cpc .b, CPC.PSTAT.ESTATE.at 3,
     1)])), by decide +kernel⟩,
   ⟨.b, 3, clocked (.faultHold .b 3) (put [(.cpc .b, CPC.PSTAT.ESTATE.at 3, 2)]), by decide +kernel⟩,
   ⟨15, put [(.clx 15, CLX.STAT.RX_STATE, 1)], by decide +kernel⟩,
   ⟨15, 9, 8, 7, put [(.clx 15, CLX.STAT.RX_STATE, 3)], by decide +kernel⟩,
   ⟨15, put [(.clx 15, CLX.STAT.RX_STATE, 4),(.clx 15, CLX.CHK_STAT.SYNC, 1),(.clx 15, CLX.EYE_STAT.BUSY, 1)],
     by decide +kernel⟩,
   ⟨15, clocked (.laneState 15) (put [(.clx 15, CLX.STAT.RX_STATE, 3)]), by decide +kernel⟩,
   ⟨15, put [(.clx 15, CLX.STAT.RX_STATE, 4),(.clx 15, CLX.CTL.EI_WAKE, 0)], by decide +kernel⟩,
   ⟨15, true, put [(.clx 15, CLX.STAT.RX_STATE, 4),(.clx 15, CLX.CHK_STAT.SYNC, 1),(.clx 15, CLX.PAT_CTL.CHK_EN, 1)],
     by decide +kernel⟩,
   ⟨.host, 3, 0x1400, ready (put [(.clx 3, CLX.STAT.TX_STATE, 2)]), by decide +kernel⟩,
   ⟨3, put [(.clx 3, CLX.STAT.TX_STATE, 2),(.clx 3, CLX.INJ_CTL.MODE, 1)], by decide +kernel⟩,
   ⟨.host, 3, 0x0A000000, ready (put [(.clx 3, CLX.STAT.RX_STATE, 4)]), by decide +kernel⟩,
   ⟨.host, 0x0A000000, ready (put [(.hlk, HLK.LINK_STAT.UP, 1)]), by decide +kernel⟩,
   ⟨3, 0x100000000, clocked (.clientEye 3) (put [(.clx 3, CLX.EYE_STAT.BUSY, 1)]), by decide +kernel⟩,
   ⟨3, 9, clocked .hostEye (put [(.hlk, HLK.EYE_STAT.BUSY, 1)]), by decide +kernel⟩⟩

theorem witness_HostLinkCommandsComplete :
    (∃ (rate : Fin 5) (width : Fin 4) (mem : Bool) (s : State), s.hostLink.perst = false) ∧
    (∃ (o : Origin) (s : State), TakesField o .hlk HLK.CTL.RETRAIN 1 s ∧ hostUp s = true) ∧
    (∃ (rate : Fin 5) (width : Fin 4) (s : State), hostUp s = true) ∧
    (∃ (s : State), hostUp s = true) ∧
    (∃ (lane : Fin 8) (begins : Bool) (s : State), s.flag .hlk HLK.EYE_STAT.BUSY = false ∧
      (begins = false → s.hostLink.margin = some lane.val)) ∧
    (∃ (off : Nat) (s : State), (hdmHost ≤ off ∧ off < hdmBytes ∧ s.flag .hlk HLK.IDE.REQUIRE = false) ∧
      (granuleSet s (off / 64 * 64 / 2 ^ 20) = true ∧ poisoned s (off / 64) = false ∧ s.memories.filling = [])) ∧
    (∃ (off : Nat) (s : State), (hdmHost ≤ off ∧ off < hdmBytes ∧ s.flag .hlk HLK.IDE.REQUIRE = false) ∧
      (granuleSet s (off / 64 * 64 / 2 ^ 20) = false ∧ s.memories.filling = [])) ∧
    (∃ (off : Nat) (s : State), (hdmHost ≤ off ∧ off < hdmBytes ∧ s.flag .hlk HLK.IDE.REQUIRE = false) ∧
      (granuleSet s (off / 64 * 64 / 2 ^ 20) = false ∧ s.memories.filling = [])) ∧
    (∃ (off : Nat) (bytes : List Byte) (s : State), (hdmHost ≤ off ∧ off < hdmBytes ∧ s.flag .hlk HLK.IDE.REQUIRE = false ∧
      bytes.length = 64)) ∧
    (∃ (off : Nat) (bytes : List Byte) (s : State), off < hdmHost) :=
  ⟨⟨4, 3, true, State.reset.setHost { State.reset.hostLink with perst := false }, by decide +kernel⟩,
   ⟨.host, ready (put [(.hlk, HLK.LINK_STAT.UP, 1)]), by decide +kernel⟩,
   ⟨2, 3, put [(.hlk, HLK.LINK_STAT.UP, 1)], by decide +kernel⟩,
   ⟨put [(.hlk, HLK.LINK_STAT.UP, 1)], by decide +kernel⟩,
   ⟨3, true, State.reset, by decide +kernel⟩,
   ⟨0x80000040, markGranule State.reset 0x80000000, by decide +kernel⟩,
   ⟨0x80000040, State.reset, by decide +kernel⟩,
   ⟨0x7FFFFFFFF, State.reset, by decide +kernel⟩,
   ⟨0x80000041, List.replicate 63 0 ++ [7], State.reset, by decide +kernel⟩,
   ⟨0x7FFFFFFF, [7], State.reset, by decide +kernel⟩⟩

theorem witness_MailboxCommandsComplete :
    (∃ (log : Fin 4) (s : State), MailboxTakes 0x0100 s) ∧
    (∃ (log : Fin 4) (handles : List Nat) (s : State), MailboxTakes 0x0101 s) ∧
    (∃ (s : State), MailboxTakes 0x0102 s) ∧
    (∃ (info warning failure fatal : Nat) (s : State), MailboxTakes 0x0103 s) ∧
    (∃ (s : State), MailboxTakes 0x0200 s) ∧
    (∃ (slot : Fin 2) (data : List Byte) (last : Bool) (s : State), (MailboxTakes 0x0201 s ∧ s.mbox.background = none) ∧
      (slot.val ≠ activeSlot s ∧ archiveTakes s = true)) ∧
    (∃ (slot : Fin 2) (s : State), (MailboxTakes 0x0202 s ∧ s.mbox.background = none)) ∧
    (∃ (s : State), MailboxTakes 0x0300 s) ∧
    (∃ (ns : BitVec 64) (s : State), MailboxTakes 0x0301 s ∧ writeReason s .host .tb TB.CTL.SET.off (overlay (plainWord .tb
      TB.CTL.SET.off (word s .tb TB.CTL.SET.off)) TB.CTL.SET 1) = .none) ∧
    (∃ (s : State), MailboxTakes 0x0400 s) ∧
    (∃ (s : State), MailboxTakes 0x0401 s) ∧
    (∃ (s : State), MailboxTakes 0x4000 s) ∧
    (∃ (s : State), MailboxTakes 0x4200 s) ∧
    (∃ (capsule : List Byte) (s : State), (MailboxTakes 0xC000 s ∧ s.mbox.background = none) ∧ (s.plinth.request = none ∧
      s.plinth.running = none ∧ s.flag .pln PLN.STAT.LOCKSTEP_FAIL = false)) ∧
    (∃ (s : State), MailboxTakes 0xC001 s ∧ (s.plinth.request = none ∧ s.plinth.running = none ∧
      s.flag .pln PLN.STAT.LOCKSTEP_FAIL = false)) ∧
    (∃ (nonce : List Byte) (s : State), (MailboxTakes 0xC002 s ∧ nonce.length = 32 ∧ canSign s = true) ∧
      (s.plinth.request = none ∧ s.plinth.running = none ∧ s.flag .pln PLN.STAT.LOCKSTEP_FAIL = false)) ∧
    (∃ (input : List Byte) (e : Nat × List Byte) (s : State), (MailboxTakes 0xC003 s ∧ input.length = 8 ∧
      s.journal.signatures.find? (fun z => z.1 == ofLeBytes input) = some e) ∧ (s.plinth.request = none ∧
      s.plinth.running = none ∧ s.flag .pln PLN.STAT.LOCKSTEP_FAIL = false)) ∧
    (∃ (object : ArchiveObject) (content : List Byte) (s : State), (MailboxTakes 0xC004 s ∧ s.mbox.background = none ∧
      mediaFormatted s = true ∧ archiveObject s object = some content)) ∧
    (∃ (s : State), MailboxTakes 0xC005 s ∧ (s.plinth.request = none ∧ s.plinth.running = none ∧
      s.flag .pln PLN.STAT.LOCKSTEP_FAIL = false)) ∧
    (∃ (s : State), s.hostReady = true) ∧
    (∃ (op : Nat) (s : State), (s.mbox.background = some op ∧ op ≠ 0xC000 ∧ s.firmware.online = none)) :=
  ⟨⟨2, ready, by decide +kernel⟩,
   ⟨2, [], ready, by decide +kernel⟩,
   ⟨ready, by decide +kernel⟩,
   ⟨1, 0, 1, 0, ready, by decide +kernel⟩,
   ⟨ready, by decide +kernel⟩,
   ⟨1, [1,2], false, up [.rk 7] (ready (put [(.arc, ARC.STAT.MEDIA, 2)])), by decide +kernel⟩,
   ⟨1, ready, by decide +kernel⟩,
   ⟨ready, by decide +kernel⟩,
   ⟨0x123456789ABCDEF0, ready, by decide +kernel⟩,
   ⟨ready, by decide +kernel⟩,
   ⟨ready, by decide +kernel⟩,
   ⟨ready, by decide +kernel⟩,
   ⟨ready, by decide +kernel⟩,
   ⟨[1], ready, by decide +kernel⟩,
   ⟨ready, by decide +kernel⟩,
   ⟨List.replicate 32 1, ready (put [(.pln, PLN.STAT.ID_OK, 1)]), by decide +kernel⟩,
   ⟨[7,0,0,0,0,0,0,0], (7, [9]), (fun (z : State) => { z with journal := { z.journal with signatures := [(7, [9])] } })
     ready, by decide +kernel⟩,
   ⟨.signature 7, [9], (fun (z : State) => { z with journal := { z.journal with signatures := [(7, [9])] } }) (ready (put
     [(.arc, ARC.STAT.MEDIA, 2)])), by decide +kernel⟩,
   ⟨ready, by decide +kernel⟩,
   ⟨ready, by decide +kernel⟩,
   ⟨0x0201, (fun (z : State) => { z with mbox := { z.mbox with background := some 0x0201 } }) ready, by decide +kernel⟩⟩

theorem witness_AluCommandsComplete :
    (∃ (n : Fin 8) (slot1 : Bool) (x a b sh : Fin 32) (s : State),
      Issues n (macBundle slot1 (formatM 0x10 x.val a.val b.val sh.val)) s) ∧
    (∃ (n : Fin 8) (slot1 : Bool) (x a b sh : Fin 32) (s : State),
      Issues n (macBundle slot1 (formatM 0x11 x.val a.val b.val sh.val)) s) ∧
    (∃ (n : Fin 8) (slot1 : Bool) (x a b sh : Fin 32) (s : State),
      Issues n (macBundle slot1 (formatM 0x12 x.val a.val b.val sh.val)) s) ∧
    (∃ (n : Fin 8) (slot1 : Bool) (x a b sh : Fin 32) (s : State),
      Issues n (macBundle slot1 (formatM 0x13 x.val a.val b.val sh.val)) s) ∧
    (∃ (n : Fin 8) (slot1 : Bool) (x a b sh : Fin 32) (s : State),
      Issues n (macBundle slot1 (formatM 0x14 x.val a.val b.val sh.val)) s) ∧
    (∃ (n : Fin 8) (slot1 : Bool) (x a b sh : Fin 32) (s : State),
      Issues n (macBundle slot1 (formatM 0x15 x.val a.val b.val sh.val)) s) ∧
    (∃ (n : Fin 8) (slot1 : Bool) (x a b sh : Fin 32) (s : State),
      Issues n (macBundle slot1 (formatM 0x16 x.val a.val b.val sh.val)) s) ∧
    (∃ (n : Fin 8) (slot1 : Bool) (x a b sh : Fin 32) (s : State),
      Issues n (macBundle slot1 (formatM 0x17 x.val a.val b.val sh.val)) s) ∧
    (∃ (n : Fin 8) (slot1 : Bool) (x a b sh : Fin 32) (s : State),
      Issues n (macBundle slot1 (formatM 0x18 x.val a.val b.val sh.val)) s) ∧
    (∃ (n : Fin 8) (slot1 : Bool) (x a b sh : Fin 32) (s : State),
      Issues n (macBundle slot1 (formatM 0x19 x.val a.val b.val sh.val)) s) ∧
    (∃ (n : Fin 8) (slot1 : Bool) (x a b sh : Fin 32) (s : State),
      Issues n (macBundle slot1 (formatM 0x1A x.val a.val b.val sh.val)) s) ∧
    (∃ (n : Fin 8) (slot1 : Bool) (x a b sh : Fin 32) (s : State),
      Issues n (macBundle slot1 (formatM 0x1B x.val a.val b.val sh.val)) s) ∧
    (∃ (n : Fin 8) (slot1 : Bool) (x a b sh : Fin 32) (s : State),
      Issues n (macBundle slot1 (formatM 0x1C x.val a.val b.val sh.val)) s) ∧
    (∃ (n : Fin 8) (slot1 : Bool) (x a b sh : Fin 32) (s : State),
      Issues n (macBundle slot1 (formatM 0x1D x.val a.val b.val sh.val)) s) ∧
    (∃ (n : Fin 8) (slot1 : Bool) (x a b sh : Fin 32) (s : State),
      Issues n (macBundle slot1 (formatM 0x20 x.val a.val b.val sh.val)) s) ∧
    (∃ (n : Fin 8) (slot1 : Bool) (x a b sh : Fin 32) (s : State),
      Issues n (macBundle slot1 (formatM 0x21 x.val a.val b.val sh.val)) s) ∧
    (∃ (n : Fin 8) (slot1 : Bool) (x : Fin 32) (imm : BitVec 16) (s : State),
      Issues n (macBundle slot1 (formatI 0x1E x.val imm.toNat)) s) ∧
    (∃ (n : Fin 8) (slot1 : Bool) (x : Fin 32) (imm : BitVec 16) (s : State),
      Issues n (macBundle slot1 (formatI 0x1F x.val imm.toNat)) s) ∧
    (∃ (n : Fin 8) (s : State), Issues n ⟨0, 0, 0, 0⟩ s ∧ ((landed s n).branch = none ∧ loopOpen (landed s n).loop0 = false ∧
      loopOpen (landed s n).loop1 = false)) ∧
    (∃ (n : Fin 8) (s : State), Issues n (bundleAt s n (coreAt s n).pc) s ∧
      lsAccesses (bundleAt s n (coreAt s n).pc).ls = false) :=
  ⟨⟨6, true, 3, 1, 2, 4, coreIn 6 fun c => { c with d := (c.d.set 1 0x7FFF8001).set 2 0x12348003 }, by decide +kernel⟩,
   ⟨6, true, 3, 1, 2, 4, coreIn 6 fun c => { c with d := (c.d.set 1 0x7FFF8001).set 2 0x12348003 }, by decide +kernel⟩,
   ⟨6, true, 3, 1, 2, 4, coreIn 6 fun c => { c with d := (c.d.set 1 0x7FFF8001).set 2 0x12348003 }, by decide +kernel⟩,
   ⟨6, true, 3, 1, 2, 4, coreIn 6 fun c => { c with d := (c.d.set 1 0x7FFF8001).set 2 0x12348003 }, by decide +kernel⟩,
   ⟨6, true, 3, 1, 2, 4, coreIn 6 fun c => { c with d := (c.d.set 1 0x7FFF8001).set 2 0x12348003 }, by decide +kernel⟩,
   ⟨6, true, 3, 1, 2, 4, coreIn 6 fun c => { c with d := (c.d.set 1 0x7FFF8001).set 2 0x12348003 }, by decide +kernel⟩,
   ⟨6, true, 3, 1, 2, 4, coreIn 6 fun c => { c with d := (c.d.set 1 0x7FFF8001).set 2 0x12348003 }, by decide +kernel⟩,
   ⟨6, true, 3, 1, 2, 4, coreIn 6 fun c => { c with d := (c.d.set 1 0x7FFF8001).set 2 0x12348003 }, by decide +kernel⟩,
   ⟨6, true, 3, 1, 2, 4, coreIn 6 fun c => { c with d := (c.d.set 1 0x7FFF8001).set 2 0x12348003 }, by decide +kernel⟩,
   ⟨6, true, 3, 1, 2, 4, coreIn 6 fun c => { c with d := (c.d.set 1 0x7FFF8001).set 2 0x12348003 }, by decide +kernel⟩,
   ⟨6, true, 3, 1, 2, 4, coreIn 6 fun c => { c with d := (c.d.set 1 0x7FFF8001).set 2 0x12348003 }, by decide +kernel⟩,
   ⟨6, true, 3, 1, 2, 4, coreIn 6 fun c => { c with d := (c.d.set 1 0x7FFF8001).set 2 0x12348003 }, by decide +kernel⟩,
   ⟨6, true, 3, 1, 2, 4, coreIn 6 fun c => { c with d := (c.d.set 1 0x7FFF8001).set 2 0x12348003 }, by decide +kernel⟩,
   ⟨6, true, 3, 1, 2, 4, coreIn 6 fun c => { c with d := (c.d.set 1 0x7FFF8001).set 2 0x12348003 }, by decide +kernel⟩,
   ⟨6, true, 3, 1, 2, 4, coreIn 6 fun c => { c with d := (c.d.set 1 0x7FFF8001).set 2 0x12348003 }, by decide +kernel⟩,
   ⟨6, true, 3, 1, 2, 4, coreIn 6 fun c => { c with d := (c.d.set 1 0x7FFF8001).set 2 0x12348003 }, by decide +kernel⟩,
   ⟨6, true, 3, 0x8001, coreIn 6 fun c => { c with d := (c.d.set 3 0x7FFF8001) }, by decide +kernel⟩,
   ⟨6, true, 3, 0x8001, coreIn 6 fun c => { c with d := (c.d.set 3 0x7FFF8001) }, by decide +kernel⟩,
   ⟨5, coreIn 5 fun c => { c with pc := 16383 }, by decide +kernel⟩,
   ⟨5, coreIn 5 fun c => { c with pc := 16383 }, by decide +kernel⟩⟩

theorem witness_AccumulatorCommandsComplete :
    (∃ (n : Fin 8) (slot1 : Bool) (x a b sh : Fin 32) (s : State),
      Issues n (macBundle slot1 (formatM 0x01 x.val a.val b.val sh.val)) s) ∧
    (∃ (n : Fin 8) (slot1 : Bool) (x a b sh : Fin 32) (s : State),
      Issues n (macBundle slot1 (formatM 0x02 x.val a.val b.val sh.val)) s) ∧
    (∃ (n : Fin 8) (slot1 : Bool) (x a b sh : Fin 32) (s : State),
      Issues n (macBundle slot1 (formatM 0x03 x.val a.val b.val sh.val)) s) ∧
    (∃ (n : Fin 8) (slot1 : Bool) (x a b sh : Fin 32) (s : State),
      Issues n (macBundle slot1 (formatM 0x04 x.val a.val b.val sh.val)) s) ∧
    (∃ (n : Fin 8) (slot1 : Bool) (x a b sh : Fin 32) (s : State),
      Issues n (macBundle slot1 (formatM 0x05 x.val a.val b.val sh.val)) s) ∧
    (∃ (n : Fin 8) (slot1 : Bool) (x a b sh : Fin 32) (s : State),
      Issues n (macBundle slot1 (formatM 0x06 x.val a.val b.val sh.val)) s) ∧
    (∃ (n : Fin 8) (slot1 : Bool) (x a b sh : Fin 32) (s : State),
      Issues n (macBundle slot1 (formatM 0x07 x.val a.val b.val sh.val)) s) ∧
    (∃ (n : Fin 8) (slot1 : Bool) (x a b sh : Fin 32) (s : State),
      Issues n (macBundle slot1 (formatM 0x08 x.val a.val b.val sh.val)) s) ∧
    (∃ (n : Fin 8) (slot1 : Bool) (x a b sh : Fin 32) (s : State),
      Issues n (macBundle slot1 (formatM 0x09 x.val a.val b.val sh.val)) s) ∧
    (∃ (n : Fin 8) (slot1 : Bool) (x a b sh : Fin 32) (s : State),
      Issues n (macBundle slot1 (formatM 0x0A x.val a.val b.val sh.val)) s) ∧
    (∃ (n : Fin 8) (slot1 : Bool) (x a b sh : Fin 32) (s : State),
      Issues n (macBundle slot1 (formatM 0x0B x.val a.val b.val sh.val)) s) ∧
    (∃ (n : Fin 8) (slot1 : Bool) (x a b sh : Fin 32) (s : State),
      Issues n (macBundle slot1 (formatM 0x0C x.val a.val b.val sh.val)) s) ∧
    (∃ (n : Fin 8) (slot1 : Bool) (x a b sh : Fin 32) (s : State),
      Issues n (macBundle slot1 (formatM 0x0D x.val a.val b.val sh.val)) s) ∧
    (∃ (n : Fin 8) (slot1 : Bool) (x a b sh : Fin 32) (i : Fin 4) (s : State),
      Issues n (macBundle slot1 (formatM 0x0E x.val a.val b.val sh.val)) s) :=
  ⟨⟨6, true, 3, 1, 2, 4, coreIn 6 fun c =>
    { c with d := (c.d.set 1 0x7FFF8001).set 2 0x12348003, ac := c.ac.set 6 0x7FFFFFFFFFFF, slow := c.slow.set 6 0x7FFFFFFFFFFF }, by decide +kernel⟩,
   ⟨6, true, 3, 1, 2, 4, coreIn 6 fun c =>
     { c with d := (c.d.set 1 0x7FFF8001).set 2 0x12348003, ac := c.ac.set 6 0x7FFFFFFFFFFF, slow := c.slow.set 6 0x7FFFFFFFFFFF }, by decide +kernel⟩,
   ⟨6, true, 3, 1, 2, 4, coreIn 6 fun c =>
     { c with d := (c.d.set 1 0x7FFF8001).set 2 0x12348003, ac := c.ac.set 6 0x7FFFFFFFFFFF, slow := c.slow.set 6 0x7FFFFFFFFFFF }, by decide +kernel⟩,
   ⟨6, true, 3, 1, 2, 4, coreIn 6 fun c =>
     { c with d := (c.d.set 1 0x7FFF8001).set 2 0x12348003, ac := c.ac.set 6 0x7FFFFFFFFFFF, slow := c.slow.set 6 0x7FFFFFFFFFFF }, by decide +kernel⟩,
   ⟨6, true, 3, 1, 2, 4, coreIn 6 fun c =>
     { c with d := (c.d.set 1 0x7FFF8001).set 2 0x12348003, ac := c.ac.set 6 0x7FFFFFFFFFFF, slow := c.slow.set 6 0x7FFFFFFFFFFF }, by decide +kernel⟩,
   ⟨6, true, 3, 1, 2, 4, coreIn 6 fun c =>
     { c with d := (c.d.set 1 0x7FFF8001).set 2 0x12348003, ac := c.ac.set 6 0x7FFFFFFFFFFF, slow := c.slow.set 6 0x7FFFFFFFFFFF }, by decide +kernel⟩,
   ⟨6, true, 3, 1, 2, 4, coreIn 6 fun c =>
     { c with d := (c.d.set 1 0x7FFF8001).set 2 0x12348003, ac := c.ac.set 6 0x7FFFFFFFFFFF, slow := c.slow.set 6 0x7FFFFFFFFFFF }, by decide +kernel⟩,
   ⟨6, true, 3, 1, 2, 4, coreIn 6 fun c =>
     { c with d := (c.d.set 1 0x7FFF8001).set 2 0x12348003, ac := c.ac.set 6 0x7FFFFFFFFFFF, slow := c.slow.set 6 0x7FFFFFFFFFFF }, by decide +kernel⟩,
   ⟨6, true, 3, 1, 2, 4, coreIn 6 fun c =>
     { c with d := (c.d.set 1 0x7FFF8001).set 2 0x12348003, ac := c.ac.set 6 0x7FFFFFFFFFFF, slow := c.slow.set 6 0x7FFFFFFFFFFF }, by decide +kernel⟩,
   ⟨6, true, 3, 1, 2, 4, coreIn 6 fun c =>
     { c with d := (c.d.set 1 0x7FFF8001).set 2 0x12348003, ac := c.ac.set 6 0x7FFFFFFFFFFF, slow := c.slow.set 6 0x7FFFFFFFFFFF }, by decide +kernel⟩,
   ⟨6, true, 3, 1, 2, 4, coreIn 6 fun c =>
     { c with d := (c.d.set 1 0x7FFF8001).set 2 0x12348003, ac := c.ac.set 6 0x7FFFFFFFFFFF, slow := c.slow.set 6 0x7FFFFFFFFFFF }, by decide +kernel⟩,
   ⟨6, true, 3, 1, 2, 4, coreIn 6 fun c =>
     { c with d := (c.d.set 1 0x7FFF8001).set 2 0x12348003, ac := c.ac.set 6 0x7FFFFFFFFFFF, slow := c.slow.set 6 0x7FFFFFFFFFFF }, by decide +kernel⟩,
   ⟨6, true, 3, 1, 2, 4, coreIn 6 fun c =>
     { c with d := (c.d.set 1 0x7FFF8001).set 2 0x12348003, ac := c.ac.set 6 0x7FFFFFFFFFFF, slow := c.slow.set 6 0x7FFFFFFFFFFF }, by decide +kernel⟩,
   ⟨6, true, 8, 4, 2, 0, 3, coreIn 6 fun c => { c with d := ((c.d.set 4 0x7FFF8001).set 2 0x12348003).set 3 0xF0010002 },
     by decide +kernel⟩⟩

theorem witness_LoadStoreCommandsComplete :
    (∃ (n : Fin 8) (d : Fin 32) (an : Fin 8) (mode : Fin 4) (ofs : BitVec 16) (s : State),
      Issues n (lsBundle (formatL 0x01 d.val an.val mode.val ofs)) s ∧
      inWindow (accessAddress (landed s n) (formatL 0x01 d.val an.val mode.val ofs)).addr = false) ∧
    (∃ (n : Fin 8) (d : Fin 32) (an : Fin 8) (mode : Fin 4) (ofs : BitVec 16) (s : State),
      Issues n (lsBundle (formatL 0x02 d.val an.val mode.val ofs)) s ∧
      inWindow (accessAddress (landed s n) (formatL 0x02 d.val an.val mode.val ofs)).addr = false) ∧
    (∃ (n : Fin 8) (d : Fin 32) (an : Fin 8) (mode : Fin 4) (ofs : BitVec 16) (s : State),
      Issues n (lsBundle (formatL 0x03 d.val an.val mode.val ofs)) s ∧
      inWindow (accessAddress (landed s n) (formatL 0x03 d.val an.val mode.val ofs)).addr = false) ∧
    (∃ (n : Fin 8) (d : Fin 32) (an : Fin 8) (mode : Fin 4) (ofs : BitVec 16) (s : State),
      Issues n (lsBundle (formatL 0x02 d.val an.val mode.val ofs)) s ∧
      inWindow (accessAddress (landed s n) (formatL 0x02 d.val an.val mode.val ofs)).addr = true) ∧
    (∃ (n : Fin 8) (d : Fin 32) (an : Fin 8) (mode : Fin 4) (ofs : BitVec 16) (s : State),
      Issues n (lsBundle (formatL 0x04 d.val an.val mode.val ofs)) s ∧
      inWindow (accessAddress (landed s n) (formatL 0x04 d.val an.val mode.val ofs)).addr = false) ∧
    (∃ (n : Fin 8) (d : Fin 32) (an : Fin 8) (mode : Fin 4) (ofs : BitVec 16) (s : State),
      Issues n (lsBundle (formatL 0x05 d.val an.val mode.val ofs)) s ∧
      inWindow (accessAddress (landed s n) (formatL 0x05 d.val an.val mode.val ofs)).addr = false) ∧
    (∃ (n : Fin 8) (d : Fin 32) (an : Fin 8) (mode : Fin 4) (ofs : BitVec 16) (s : State),
      Issues n (lsBundle (formatL 0x06 d.val an.val mode.val ofs)) s ∧
      inWindow (accessAddress (landed s n) (formatL 0x06 d.val an.val mode.val ofs)).addr = false) ∧
    (∃ (n : Fin 8) (d : Fin 32) (an : Fin 8) (mode : Fin 4) (ofs : BitVec 16) (s : State),
      Issues n (lsBundle (formatL 0x05 d.val an.val mode.val ofs)) s ∧
      inWindow (accessAddress (landed s n) (formatL 0x05 d.val an.val mode.val ofs)).addr = true) ∧
    (∃ (n : Fin 8) (d : Fin 32) (an : Fin 8) (s : State), Issues n (lsBundle (formatL 0x09 d.val an.val 0 0)) s) ∧
    (∃ (n : Fin 8) (d : Fin 32) (an : Fin 8) (s : State), Issues n (lsBundle (formatL 0x0A d.val an.val 0 0)) s) ∧
    (∃ (n : Fin 8) (d : Fin 32) (an : Fin 8) (s : State), Issues n (lsBundle (formatL 0x0B d.val an.val 0 0)) s) ∧
    (∃ (n : Fin 8) (d : Fin 32) (an : Fin 8) (s : State), Issues n (lsBundle (formatL 0x0C d.val an.val 0 0)) s) ∧
    (∃ (n : Fin 8) (d : Fin 32) (k : Fin 4) (s : State), Issues n (lsBundle (formatL 0x0D d.val 0 0 (BitVec.ofNat 16 k.val)))
      s) ∧
    (∃ (n : Fin 8) (d : Fin 32) (an : Fin 8) (s : State), Issues n (lsBundle (formatL 0x0F d.val an.val 0 0)) s) :=
  ⟨⟨0, 4, 7, 0, 0x10, coreIn 0 (fun c => { c with a := c.a.set 7 0x100, d := (c.d.set 4 0x7FFF8001).set 5 0x12348003 })
    (putData State.reset 0 [(0x110, 1), (0x111, 0x82)]), by decide +kernel⟩,
   ⟨0, 4, 7, 0, 0x10, coreIn 0 (fun c => { c with a := c.a.set 7 0x100, d := (c.d.set 4 0x7FFF8001).set 5 0x12348003 })
     (putData State.reset 0 [(0x110, 1), (0x111, 0x82)]), by decide +kernel⟩,
   ⟨0, 4, 7, 0, 0x10, coreIn 0 (fun c => { c with a := c.a.set 7 0x100, d := (c.d.set 4 0x7FFF8001).set 5 0x12348003 })
     (putData State.reset 0 [(0x110, 1), (0x111, 0x82)]), by decide +kernel⟩,
   ⟨4, 4, 7, 0, 0x40, coreIn 4 (fun c => { c with a := c.a.set 7 0x08030000, d := (c.d.set 4 0x7FFF8001).set 5 0x12348003 }),
     by decide +kernel⟩,
   ⟨0, 4, 7, 0, 0x10, coreIn 0 (fun c => { c with a := c.a.set 7 0x100, d := (c.d.set 4 0x7FFF8001).set 5 0x12348003 })
     (putData State.reset 0 [(0x110, 1), (0x111, 0x82)]), by decide +kernel⟩,
   ⟨0, 4, 7, 0, 0x10, coreIn 0 (fun c => { c with a := c.a.set 7 0x100, d := (c.d.set 4 0x7FFF8001).set 5 0x12348003 })
     (putData State.reset 0 [(0x110, 1), (0x111, 0x82)]), by decide +kernel⟩,
   ⟨0, 4, 7, 0, 0x10, coreIn 0 (fun c => { c with a := c.a.set 7 0x100, d := (c.d.set 4 0x7FFF8001).set 5 0x12348003 })
     (putData State.reset 0 [(0x110, 1), (0x111, 0x82)]), by decide +kernel⟩,
   ⟨4, 4, 7, 0, 0x40, coreIn 4 (fun c => { c with a := c.a.set 7 0x08030000, d := (c.d.set 4 0x7FFF8001).set 5 0x12348003 }),
     by decide +kernel⟩,
   ⟨7, 31, 7, coreIn 7 fun c => { c with d := c.d.set 31 0xFFFFFFF0, a := c.a.set 7 0x80000005 }, by decide +kernel⟩,
   ⟨7, 31, 7, coreIn 7 fun c => { c with d := c.d.set 31 0xFFFFFFF0, a := c.a.set 7 0x80000005 }, by decide +kernel⟩,
   ⟨7, 31, 7, coreIn 7 fun c => { c with d := c.d.set 31 0xFFFFFFF0, a := c.a.set 7 0x80000005 }, by decide +kernel⟩,
   ⟨7, 31, 7, coreIn 7 fun c => { c with d := c.d.set 31 0xFFFFFFF0, a := c.a.set 7 0x80000005 }, by decide +kernel⟩,
   ⟨1, 31, 3, coreIn 1 fun c => { c with d := c.d.set 31 0xFFFFFFF0 }, by decide +kernel⟩,
   ⟨7, 31, 7, coreIn 7 fun c => { c with d := c.d.set 31 0xFFFFFFF0, a := c.a.set 7 0x80000005 }, by decide +kernel⟩⟩

theorem witness_ControlTransferCommandsComplete :
    (∃ (n : Fin 8) (target : BitVec 14) (s : State), Issues n (ctBundle (formatC 0x01 0 0 target.toNat)) s) ∧
    (∃ (n : Fin 8) (d : Fin 32) (target : BitVec 14) (s : State), Issues n (ctBundle (formatC 0x02 d.val 0 target.toNat)) s) ∧
    (∃ (n : Fin 8) (d : Fin 32) (target : BitVec 14) (s : State), Issues n (ctBundle (formatC 0x03 d.val 0 target.toNat)) s) ∧
    (∃ (n : Fin 8) (d : Fin 32) (target : BitVec 14) (s : State), Issues n (ctBundle (formatC 0x04 d.val 0 target.toNat)) s) ∧
    (∃ (n : Fin 8) (d : Fin 32) (target : BitVec 14) (s : State), Issues n (ctBundle (formatC 0x05 d.val 0 target.toNat)) s) ∧
    (∃ (n : Fin 8) (target : BitVec 14) (s : State), Issues n (ctBundle (formatC 0x06 0 0 target.toNat)) s) ∧
    (∃ (n : Fin 8) (d : Fin 32) (s : State), Issues n (ctBundle (formatC 0x07 d.val 0 0)) s) ∧
    (∃ (n : Fin 8) (s : State), Issues n (ctBundle (formatC 0x08 0 0 0)) s) ∧
    (∃ (n : Fin 8) (d : Fin 32) (target : BitVec 14) (s : State), Issues n (ctBundle (formatC 0x09 d.val 0 target.toNat)) s ∧
      ((dreg s n d.val).toNat % 65536 ≠ 0 ∧ loopOpen (landed s n).loop0 = false)) ∧
    (∃ (n : Fin 8) (d : Fin 32) (target : BitVec 14) (s : State), Issues n (ctBundle (formatC 0x09 d.val 0 target.toNat)) s ∧
      ((dreg s n d.val).toNat % 65536 ≠ 0 ∧ loopOpen (landed s n).loop0 = true)) ∧
    (∃ (n : Fin 8) (d : Fin 32) (target : BitVec 14) (s : State), Issues n (ctBundle (formatC 0x09 d.val 0 target.toNat)) s ∧
      (dreg s n d.val).toNat % 65536 = 0) ∧
    (∃ (n : Fin 8) (count : Fin 1024) (target : BitVec 14) (s : State),
      Issues n (ctBundle (formatLoop count.val target.toNat)) s ∧ count.val = 0) ∧
    (∃ (n : Fin 8) (count : Fin 1024) (target : BitVec 14) (s : State),
      Issues n (ctBundle (formatLoop count.val target.toNat)) s ∧ (count.val ≠ 0 ∧ loopOpen (landed s n).loop0 = false)) ∧
    (∃ (n : Fin 8) (d idx : Fin 32) (s : State), Issues n (ctBundle (formatC 0x0B d.val idx.val 0)) s ∧
      (movtcActs idx.val = false ∧ userMode (landed s n) = false)) ∧
    (∃ (n : Fin 8) (d : Fin 32) (s : State), Issues n (ctBundle (formatC 0x0B d.val 17 0)) s) ∧
    (∃ (n : Fin 8) (d idx : Fin 32) (s : State), Issues n (ctBundle (formatC 0x0C d.val idx.val 0)) s) ∧
    (∃ (n : Fin 8) (code : BitVec 8) (s : State), TakesBundle n s ∧
      trapOf n (ctBundle (formatC 0x0D 0 0 code.toNat)) s = some (causeSyscall, none, code.toNat) ∧
      statusBit (landAll n (landed s n)).status stExl = false) ∧
    (∃ (n : Fin 8) (s : State), TakesBundle n s ∧ trapOf n (ctBundle (formatC 0x13 0 0 0)) s = some (causeBreak, none, 0) ∧
      statusBit (landAll n (landed s n)).status stExl = false) ∧
    (∃ (n : Fin 8) (s : State), Issues n (ctBundle (formatC 0x0E 0 0 0)) s) ∧
    (∃ (n : Fin 8) (s : State), Issues n (ctBundle (formatC 0x0F 0 0 0)) s) ∧
    (∃ (n : Fin 8) (s : State), Issues n (ctBundle (formatC 0x10 0 0 0)) s) ∧
    (∃ (n : Fin 8) (s : State), Issues n (ctBundle (formatC 0x11 0 0 0)) s) ∧
    (∃ (n : Fin 8) (s : State), Issues n (ctBundle (formatC 0x12 0 0 0)) s) ∧
    (∃ (n : Fin 8) (line : Nat) (s : State), (pendingLine s n = some line ∧ s.running (.rk n) = true ∧
      statusBit (coreAt s n).status stIe = true ∧ (coreAt s n).branch = none)) ∧
    (∃ (n : Fin 8) (cause : Fin 11) (eaddr : Option Nat) (code : BitVec 8) (s : State), (s.running (.rk n) = true ∧
      statusBit (landAll n (landed s n)).status stExl = false)) ∧
    (∃ (n : Fin 8) (s : State), ((coreAt s n).waiting = true ∧ (pendingLine s n).isSome = true)) :=
  ⟨⟨5, 0x3FFF, coreIn 5 fun c => { c with pc := 16383, link := 0x8001 }, by decide +kernel⟩,
   ⟨5, 9, 0x3FFF, coreIn 5 fun c => { c with pc := 16383, d := c.d.set 9 0x80000007 }, by decide +kernel⟩,
   ⟨5, 9, 0x3FFF, coreIn 5 fun c => { c with pc := 16383, d := c.d.set 9 0x80000007 }, by decide +kernel⟩,
   ⟨5, 9, 0x3FFF, coreIn 5 fun c => { c with pc := 16383, d := c.d.set 9 0x80000007 }, by decide +kernel⟩,
   ⟨5, 9, 0x3FFF, coreIn 5 fun c => { c with pc := 16383, d := c.d.set 9 0x80000007 }, by decide +kernel⟩,
   ⟨5, 0x3FFF, coreIn 5 fun c => { c with pc := 16383, link := 0x8001 }, by decide +kernel⟩,
   ⟨5, 9, coreIn 5 fun c => { c with pc := 16383, d := c.d.set 9 0x80004007 }, by decide +kernel⟩,
   ⟨5, coreIn 5 fun c => { c with pc := 16383, link := 0x8001 }, by decide +kernel⟩,
   ⟨5, 9, 0x3FFF, coreIn 5 fun c => { c with pc := 16383, d := c.d.set 9 0x80000007 }, by decide +kernel⟩,
   ⟨5, 9, 20, coreIn 5 fun c => { c with pc := 9, loop0 := ⟨4, 8, 90⟩, d := c.d.set 9 0x8000FFFF }, by decide +kernel⟩,
   ⟨5, 9, 0x3FFF, coreIn 5 fun c => { c with pc := 9, d := c.d.set 9 0x80000000 }, by decide +kernel⟩,
   ⟨5, 0, 0x3FFF, coreIn 5 fun c => { c with pc := 9 }, by decide +kernel⟩,
   ⟨5, 1023, 0x3FFF, coreIn 5 fun c => { c with pc := 16383 }, by decide +kernel⟩,
   ⟨5, 9, 5, coreIn 5 fun c => { c with pc := 16383, d := c.d.set 9 0x80000007 }, by decide +kernel⟩,
   ⟨5, 9, coreIn 5, by decide +kernel⟩,
   ⟨5, 9, 7, coreIn 5 fun c => { c with link := 77 }, by decide +kernel⟩,
   ⟨6, 0xFF, coreIn 6 fun c => { c with pc := 5, vbase := 0x80, status := 1 }, by decide +kernel⟩,
   ⟨5, coreIn 5 fun c => { c with pc := 5, vbase := 0x80, status := 1 }, by decide +kernel⟩,
   ⟨5, coreIn 5 fun c => { c with pc := 5, epc := 0x4077, status := 0x40, estatus := 0x3D }, by decide +kernel⟩,
   ⟨5, coreIn 5 fun c => { c with status := 0x40 }, by decide +kernel⟩,
   ⟨5, coreIn 5 fun c => { c with status := 0x41 }, by decide +kernel⟩,
   ⟨5, coreIn 5, by decide +kernel⟩,
   ⟨5, coreIn 5, by decide +kernel⟩,
   ⟨5, 4, lineIn (coreIn 5 fun c => { c with ien := 0x10, status := 1, vbase := 0x100, pc := 9 }), by decide +kernel⟩,
   ⟨5, 6, some 0x1234, 7, coreIn 5 fun c => { c with pc := 9, vbase := 0x100, status := 0x25 }, by decide +kernel⟩,
   ⟨5, lineIn (coreIn 5 fun c => { c with ien := 0x10, waiting := true }), by decide +kernel⟩⟩

theorem witness_CoreSystemCommandsComplete :
    (∃ (n : Fin 8) (ch : Fin 2) (desc : List Byte) (s : State), desc = (readBytes (coreData s n) (dmaDescriptorAt (coreDma s
      n ch) (coreDma s n ch).head) 16) ∧ ((coreDma s n ch).halted = false ∧ (coreDma s n ch).head ≠ (coreDma s n ch).tail ∧
      (coreDma s n ch).head < dmaEntries (coreDma s n ch)) ∧ (leAt desc 0 8 % 64 = 0 ∧ leAt desc 8 4 % 64 = 0 ∧
      leAt desc 12 2 ≠ 0 ∧ testBit (leAt desc 14 1) 2 = true ∧ testBit (leAt desc 14 1) 0 = true) ∧
      ((dmaWindow s n).1 ≤ leAt desc 0 8 ∧ leAt desc 0 8 + 64 * leAt desc 12 2 ≤ (dmaWindow s n).2) ∧
      (leAt desc 8 4 + 64 * leAt desc 12 2 ≤ dsramBytes ∧ leAt desc 0 8 + 64 * leAt desc 12 2 ≤ lpddrBytes)) ∧
    (∃ (o : Origin) (n : Fin 8) (fromHdm : Bool) (s : State), Takes o (.rk n) RK.LOAD_CTL.LOAD.off (overlay (overlay
      (plainWord (.rk n) RK.LOAD_CTL.LOAD.off (word s (.rk n) RK.LOAD_CTL.LOAD.off)) RK.LOAD_CTL.SRC (bit fromHdm))
      RK.LOAD_CTL.LOAD 1) s) ∧
    (∃ (n : Fin 8) (img : List Byte) (s : State), (image s n).loading = some img) ∧
    (∃ (o : Origin) (n : Fin 8) (s : State), TakesField o (.rk n) HDR.RUNCTL.CMD 1 s ∧ s.stopped (.rk n) = true) ∧
    (∃ (o : Origin) (n : Fin 8) (off : Fin 0x200000) (w : Word) (s : State), ((o = .host → s.hostReady = true) ∧
      s.power ≠ pwrIdle ∧ s.stepsDue = [] ∧ s.stopped (.rk n) = true) ∧ (off.val < 0x40000 ∧
      s.flag (.rk n) RK.DBG_LOCK.LOCK = false ∧ testBit (s.get (.rk n) HDR.OWNER.MASK) o.code = true)) ∧
    (∃ (o : Origin) (n : Fin 8) (off : Fin 0x200000) (s : State), ((o = .host → s.hostReady = true) ∧ s.power ≠ pwrIdle ∧
      s.stepsDue = [] ∧ s.stopped (.rk n) = true) ∧ off.val < 0x40000) ∧
    (∃ (o : Origin) (n : Fin 8) (s : State), TakesField o (.rk n) RK.CORE_CTL.STEP 1 s ∧ (s.stopped (.rk n) = true ∧
      atBreakpoint s n = false) ∧ (trapOf n (bundleAt s n (coreAt s n).pc) s = none ∧
      lsAccesses (bundleAt s n (coreAt s n).pc).ls = false ∧ opOf (bundleAt s n (coreAt s n).pc).ct ≠ 0x0B)) :=
  ⟨⟨5, 1, [0,0,0,0x90,0,0,0,0,0x40,0,0,0,1,0,5,0], putData (coreIn 5 (fun c =>
    { c with dma1 := ⟨0x02000000, 0, 1, false, 0⟩ }) (put [(.rk 5, RK.DMA_WBASE.BASE, 0x80000),(.rk 5, RK.DMA_WLIM.LIMIT,
    0x100000)])) 5 [(3, 0x90), (8, 0x40), (12, 1), (14, 5)], by decide +kernel⟩,
   ⟨.host, 5, true, ready, by decide +kernel⟩,
   ⟨5, [], putImage (put [(.rk 5, RK.IMG_STAT.BUSY, 1)]) 5 { image State.reset 5 with loading := some [], failed := some 7 },
     by decide +kernel⟩,
   ⟨.host, 5, ready (put [(.rk 5, RK.IMG_STAT.VALID, 1)]), by decide +kernel⟩,
   ⟨.host, 5, 7, 0xAB000001, ready (put [(.rk 5, RK.DBG_LOCK.LOCK, 0)]), by decide +kernel⟩,
   ⟨.host, 5, 7, ready (putCode State.reset 5 [(4, 9)]), by decide +kernel⟩,
   ⟨.host, 5, ready (put [(.rk 5, RK.DBG_LOCK.LOCK, 0)]), by decide +kernel⟩⟩

theorem witness_TallyCommandsComplete :
    (∃ (inputs : TallyInputs) (n : Fin 8) (s : State), (s.running (.tly n) = true ∧ s.power ≤ pwrIdle ∧
      tallyEnabled s (.core n) 0 = true ∧ tallySelWord s (.core n) 0 = 1)) ∧
    (∃ (o : Origin) (n : Fin 8) (mask : BitVec 16) (k : Fin 16) (s : State),
      Takes o (.tly n) TLY.CLR.CLR.off (mask.setWidth 32) s ∧ mask.getLsbD k.val = true) ∧
    (∃ (o : Origin) (n : Fin 8) (mask : BitVec 16) (s : State), TakesField o (.tly n) TLY.CTL.EN mask.toNat s) ∧
    (∃ (o : Origin) (n : Fin 8) (s : State), TakesField o (.tly n) TLY.SAMPLE_CTL.CLR 1 s) ∧
    (∃ (o : Origin) (n : Fin 8) (s : State), ((o = .host → s.hostReady = true) ∧ s.power ≠ pwrIdle ∧
      underTest s (.tly n) = false)) ∧
    (∃ (o : Origin) (n : Fin 8) (s : State), ((o = .host → s.hostReady = true) ∧ s.power ≠ pwrIdle ∧
      underTest s (.tly n) = false)) ∧
    (∃ (o : Origin) (mask : Word) (k : Fin 24) (s : State), Takes o .arm ARM.FCLR_HI.CLR.off mask s ∧
      mask.getLsbD k.val = true) ∧
    (∃ (o : Origin) (mask : Word) (k : Fin 32) (s : State), Takes o .arm ARM.FCLR.CLR.off mask s ∧ mask.getLsbD k.val = true) :=
  ⟨⟨⟨[], []⟩, 5, up [.tly 5] (put [(.tly 5, TLY.CTL.EN, 1),(.tly 5, TLY.SEL.EVENT, 1),(.tly 5, TLY.CNT_LO.COUNT,
    0xFFFFFFFF),(.tly 5, TLY.CNT_HI.COUNT, 0xFFFF)]), by decide +kernel⟩,
   ⟨.host, 5, 0x8000, 15, ready (put [(.tly 5, TLY.CNT_LO.COUNT.at 15, 77)]), by decide +kernel⟩,
   ⟨.host, 5, 0x8000, ready, by decide +kernel⟩,
   ⟨.host, 5, ready (putSample (put [(.tly 5, TLY.SAMPLE_STAT.FILL, 1)]) 5 ⟨[[1,2,3,4]], 0, [0,0,0], 0⟩), by decide +kernel⟩,
   ⟨.host, 5, ready (putSample State.reset 5 ⟨[[1,2,3,4]], 0, [0,0,0], 0⟩), by decide +kernel⟩,
   ⟨.host, 5, ready (putSample State.reset 5 ⟨[[1,2,3,4]], 0, [0,0,0], 0⟩), by decide +kernel⟩,
   ⟨.host, 0x800000, 23, ready (put [(.arm, ARM.FCNT_LO.COUNT.at 55, 77)]), by decide +kernel⟩,
   ⟨.host, 0x80000000, 31, ready (put [(.arm, ARM.FCNT_LO.COUNT.at 31, 77)]), by decide +kernel⟩⟩

theorem witness_MemoryCommandsComplete :
    (∃ (lines : Bool) (s : State), (scrubbing s = true ∧ (watchOf s (if lines then .line 0 else .sram 0 0)).writeBack = []) ∧
      (watchOf s (if lines then .line 0 else .sram 0 0)).position < lapLength lines s ∧
      (lines = true → spaced s .scrubbed (scrubLineNs s) = true)) ∧
    (∃ (lines : Bool) (s : State), (scrubbing s = true ∧ (watchOf s (if lines then .line 0 else .sram 0 0)).writeBack = []) ∧
      (watchOf s (if lines then .line 0 else .sram 0 0)).position < lapLength lines s ∧
      (lines = true → spaced s .scrubbed (scrubLineNs s) = true)) ∧
    (∃ (s : State), (scrubbing s = true ∧ lapLength true s ≤ s.memories.lines.position)) ∧
    (∃ (s : State), (scrubbing s = true ∧ lapLength false s ≤ s.memories.sram.position)) ∧
    (∃ (s : State), (scrubbing s = true ∧ s.memories.lines.warned = false ∧
      s.memories.lines.lapStart + lapLimit true s < s.elapsedNs)) ∧
    (∃ (s : State), (scrubbing s = true ∧ s.memories.sram.warned = false ∧
      s.memories.sram.lapStart + lapLimit false s < s.elapsedNs)) ∧
    (∃ (line : Nat) (s : State), line ∈ s.memories.lines.copying) ∧
    (∃ (g word : Nat) (n : Fin 8) (s : State), (s.running (.rk n) = true ∧
      statusBit (landAll n (coreAt s n)).status stExl = false)) ∧
    (∃ (g word : Nat) (n : Fin 8) (a : Nat) (s : State), (s.running (.rk n) = true ∧
      statusBit (landAll n (coreAt s n)).status stExl = false)) ∧
    (∃ (p : MemPlace) (n : Fin 8) (ch : Fin 2) (s : State), (coreDma s n ch).halted = false) ∧
    (∃ (a : Nat) (bytes : List Byte) (s : State), (granuleSet s (a / 2 ^ 20) = false ∧ a < lpddrBytes)) ∧
    (∃ (a : Nat) (s : State), granuleSet s (a / 2 ^ 20) = false) ∧
    (∃ (area : Fin 6) (done : Fin 4) (s : State), (done.val = 1 ∨ done.val = 2) ∧ ((keepArea s area.val).1.valid = true ∧
      newestIsOne (keepArea s area.val) = false)) :=
  ⟨⟨true, { State.reset with memories := { State.reset.memories with granules := [(0, true)] } }, by decide +kernel⟩,
   ⟨false, State.reset, by decide +kernel⟩,
   ⟨{ put [(.lpm, LPM.SCRUB.LAPS, 0xFFFF)] with elapsedNs := 70000000000000 }, by decide +kernel⟩,
   ⟨{ State.reset with elapsedNs := 70000000, memories := { State.reset.memories with sram := { State.reset.memories.sram with position := 9437184 } } }, by decide +kernel⟩,
   ⟨{ State.reset with elapsedNs := 10 ^ 15 }, by decide +kernel⟩,
   ⟨{ State.reset with elapsedNs := 10 ^ 15 }, by decide +kernel⟩,
   ⟨9, { State.reset with memories := { State.reset.memories with lines := { State.reset.memories.lines with copying := [8, 9] } } }, by decide +kernel⟩,
   ⟨300, 3, 5, coreIn 5 fun c => { c with pc := 77 }, by decide +kernel⟩,
   ⟨300, 3, 5, 0x1234, coreIn 5 fun c => { c with pc := 77 }, by decide +kernel⟩,
   ⟨.line 3, 5, 1, State.reset, by decide +kernel⟩,
   ⟨0x12345, [1, 2, 0, 3], State.reset, by decide +kernel⟩,
   ⟨0x100000, State.reset, by decide +kernel⟩,
   ⟨3, 2,
     { State.reset with keep := { State.reset.keep with areas := Vector.replicate 6 (⟨true, 4, [9]⟩, ⟨true, 3, [8]⟩) } },
     by decide +kernel⟩⟩

theorem witness_ArchiveCommandsComplete :
    (∃ (target : Fin 32) (retried : Bool) (s : State), (s.get .arc ARC.STAT.MEDIA ≠ mediaAbsent ∧
      testBit (s.get .arc ARC.TGT_FAIL.MASK) target.val = false)) ∧
    (∃ (target : Fin 32) (k : Nat) (levels : Fin 9) (s : State), s.get .arc ARC.STAT.MEDIA ≠ mediaAbsent) ∧
    (∃ (target : Fin 32) (k : Nat) (levels : Fin 9) (s : State), s.get .arc ARC.STAT.MEDIA ≠ mediaAbsent) ∧
    (∃ (s : State), TakesField .plinth .arc ARC.LAYOUT.FORMAT 1 s ∧ s.get .arc ARC.STAT.MEDIA ≠ mediaAbsent) ∧
    (∃ (s : State), s.flag .arc ARC.STAT.FORMATTING = true) ∧
    (∃ (k : Nat) (retired : Bool) (s : State), (patinaDecides s = true ∧ inUse s k = true)) ∧
    (∃ (region : Fin 10) (onto : Nat) (k : Nat) (s : State), leastErased s (regionBlocks s region.val) = some k ∧
      (patinaDecides s = true ∧ region.val < regCastRing ∧ onto ∈ regionBlocks s regSpare) ∧
      wearErases (wearOf s k) < wearErases (wearOf s onto) ∧ max (s.get .arc ARC.ENDURANCE.CYCLES / 20) 16 < mostErases s
      (regionBlocks s region.val) - wearErases (wearOf s k)) ∧
    (∃ (k corrections : Nat) (s : State), (patinaDecides s = true ∧ s.flag .arc ARC.CTL.REFRESH_EN = true ∧
      inUse s k = true) ∧ s.get .arc ARC.CTL.REFRESH_THR < corrections) ∧
    (∃ (k : Nat) (s : State), (patinaDecides s = true ∧ inUse s k = true) ∧
      (s.get .arc ARC.CTL.DISTURB * 10000 ≤ sparseRead (fun _ => 0) s.archive.reads k)) ∧
    (∃ (waf : Option Nat) (s : State), (patinaRuns s = true ∧ due s .budget (3600 * secNs) = true) ∧
      s.get .cast CAST.RING.THIN = (ringThin (ringEvaluate waf (startTimer .budget s))).getD 15) ∧
    (∃ (waf : Option Nat) (k : Nat) (s : State), (patinaRuns s = true ∧ due s .budget (3600 * secNs) = true) ∧
      (ringThin (ringEvaluate waf (startTimer .budget s))).getD 15 = k ∧
      TakesField (.rk 7) .cast CAST.RING.THIN k (ringEvaluate waf (startTimer .budget s))) :=
  ⟨⟨31, false,
    { put [(.arc, ARC.STAT.MEDIA, 2)] with archive := { State.reset.archive with timeouts := [(31, 2)], superblock := true } }, by decide +kernel⟩,
   ⟨3, 7, 8,
     { put [(.arc, ARC.STAT.MEDIA, 2)] with archive := { State.reset.archive with timeouts := [(3, 2)], superblock := true } }, by decide +kernel⟩,
   ⟨3, 7, 8, put [(.arc, ARC.STAT.MEDIA, 2)], by decide +kernel⟩,
   ⟨put [(.arc, ARC.STAT.MEDIA, 1)], by decide +kernel⟩,
   ⟨{ put [(.arc, ARC.STAT.MEDIA, 1), (.arc, ARC.STAT.FORMATTING, 1)] with archive := { State.reset.archive with blockCount := 40, blockBytes := 1000000, factoryBad := [3] } }, by decide +kernel⟩,
   ⟨2, false,
     { up [.rk 7] (put [(.arc, ARC.STAT.MEDIA, 2)]) with archive := { State.reset.archive with blockCount := 4, blockBytes := 1000, superblock := true }, keep := { State.reset.keep with wear := [(0, wearWord 9 regSpare false false false), (1, wearWord 5 regSpare false false false), (2, wearWord 7 0 false false false)] } }, by decide +kernel⟩,
   ⟨0, 0, 2,
     { up [.rk 7] (put [(.arc, ARC.STAT.MEDIA, 2)]) with archive := { State.reset.archive with blockCount := 4, blockBytes := 1000, superblock := true }, keep := { State.reset.keep with wear := [(0, wearWord 900 regSpare false false false), (1, wearWord 5 regSpare false false false), (2, wearWord 7 0 false false false), (3, wearWord 700 0 false false false)] } }, by decide +kernel⟩,
   ⟨2, 41,
     { up [.rk 7] (put [(.arc, ARC.STAT.MEDIA, 2)]) with archive := { State.reset.archive with blockCount := 4, blockBytes := 1000, superblock := true }, keep := { State.reset.keep with wear := [(0, wearWord 9 regSpare false false false), (1, wearWord 5 regSpare false false false), (2, wearWord 7 0 false false false)] } }, by decide +kernel⟩,
   ⟨2, { up [.rk 7] (put [(.arc, ARC.STAT.MEDIA, 2)]) with archive := { State.reset.archive with blockCount := 4, blockBytes := 1000, superblock := true, reads := [(2, 100000)] }, keep := { State.reset.keep with wear := [(0, wearWord 9 regSpare false false false), (1, wearWord 5 regSpare false false false), (2, wearWord 7 0 false false false)] } }, by decide +kernel⟩,
   ⟨some 20, clocked .budget (up [.rk 7] (put [(.cast, CAST.RING.THIN, 15)])), by decide +kernel⟩,
   ⟨some 20, 15, clocked .budget (up [.rk 7]), by decide +kernel⟩⟩

theorem witness_CapsuleCommandsComplete :
    (∃ (r : PlinthRequest) (s : State), (s.plinth.request = some r ∧ r.req = 1 ∧ s.plinth.running = none)) ∧
    (∃ (x : Capsule) (s : State), (s.plinth.running = some x ∧ x.cmd = 0x01 ∧ s.flag .pln PLN.STAT.RK0_RECOVERY = false) ∧
      (x.body.length = 1953 ∧ leAt x.body 0 1 ≤ 3 ∧ s.plinth.officers.getD (leAt x.body 0 1) none = none)) ∧
    (∃ (x : Capsule) (s : State), (s.plinth.running = some x ∧ x.cmd = 0x02 ∧ s.flag .pln PLN.STAT.RK0_RECOVERY = false) ∧
      (x.body.length = 1 ∧ leAt x.body 0 1 ≤ 3 ∧ (officerKeys s).length ≠ 1)) ∧
    (∃ (x : Capsule) (s : State), (s.plinth.running = some x ∧ x.cmd = 0x03 ∧ s.flag .pln PLN.STAT.RK0_RECOVERY = false) ∧
      x.body.length = 1608) ∧
    (∃ (x : Capsule) (s : State), (s.plinth.running = some x ∧ x.cmd = 0x04 ∧ s.flag .pln PLN.STAT.RK0_RECOVERY = false ∧
      x.body = [])) ∧
    (∃ (x : Capsule) (off : Nat) (v : Word) (p : Page) (s : State), (s.plinth.running = some x ∧ x.cmd = 0x05 ∧
      s.flag .pln PLN.STAT.RK0_RECOVERY = false) ∧ (x.body = [1, 0] ++ leBytes 4 off ++ leBytes 4 v.toNat ∧
      poFormats x.body = false) ∧ (off % 4 = 0 ∧ off < 2 ^ 32 ∧ debugCore off = none ∧ pageOfAddr off = some p ∧
      writeReason s .plinth p (off % 0x1000) v ≠ .none)) ∧
    (∃ (x : Capsule) (v : Nat) (s : State), (s.plinth.running = some x ∧ x.cmd = 0x05 ∧
      s.flag .pln PLN.STAT.RK0_RECOVERY = false ∧ s.stepsDue = []) ∧ (v < 4 ∧ x.body = [1,
      0] ++ leBytes 4 (pageBase .pln + PLN.HOLD_SET.CMD_A.off) ++ leBytes 4 v) ∧
      writeReason s .plinth .pln PLN.HOLD_SET.CMD_A.off (BitVec.ofNat 32 v) = .none) ∧
    (∃ (x : Capsule) (s : State), (s.plinth.running = some x ∧ x.cmd = 0x06 ∧ s.flag .pln PLN.STAT.RK0_RECOVERY = false) ∧
      (x.body.length = 1953 ∧ 1 ≤ leAt x.body 0 1 ∧ leAt x.body 0 1 ≤ 3)) ∧
    (∃ (x : Capsule) (s : State), (s.plinth.running = some x ∧ x.cmd = 0x07 ∧ s.flag .pln PLN.STAT.RK0_RECOVERY = false) ∧
      (x.body.length = 33 ∧ leAt x.body 0 1 ≤ 7)) ∧
    (∃ (x : Capsule) (s : State), (s.plinth.running = some x ∧ x.cmd = 0x08 ∧ s.flag .pln PLN.STAT.RK0_RECOVERY = false) ∧
      x.body.length = 1952) ∧
    (∃ (x : Capsule) (s : State), (s.plinth.running = some x ∧ x.cmd = 0x09 ∧ s.flag .pln PLN.STAT.RK0_RECOVERY = false) ∧
      (x.body.length = 5 ∧ leAt x.body 0 1 ≤ 1 ∧ sparseRead (fun _ => 0) s.plinth.svnMin (leAt x.body 0 1) ≤ leAt x.body 1 4)) ∧
    (∃ (x : Capsule) (s : State), (s.plinth.running = some x ∧ x.cmd = 0x0A ∧ s.flag .pln PLN.STAT.RK0_RECOVERY = false) ∧
      (x.body.length = 3 ∧ (leAt x.body 0 1 = 1 ∨ leAt x.body 0 1 = 2) ∧ 1 ≤ leAt x.body 1 2 ∧ leAt x.body 1 2 ≤ 1440)) ∧
    (∃ (x : Capsule) (s : State), (s.plinth.running = some x ∧ x.cmd = 0x0A ∧ s.flag .pln PLN.STAT.RK0_RECOVERY = false) ∧
      (x.body.length = 3 ∧ (leAt x.body 0 1 = 1 ∨ leAt x.body 0 1 = 2) ∧ 1 ≤ leAt x.body 1 2 ∧ leAt x.body 1 2 ≤ 1440)) ∧
    (∃ (x : Capsule) (s : State), (s.plinth.running = some x ∧ x.cmd = 0x0A ∧ s.flag .pln PLN.STAT.RK0_RECOVERY = false) ∧
      (x.body.length = 3 ∧ leAt x.body 0 1 = 0)) ∧
    (∃ (x : Capsule) (s : State), (s.plinth.running = some x ∧ x.cmd = 0x0B ∧ s.flag .pln PLN.STAT.RK0_RECOVERY = false) ∧
      (x.body.length = 8 ∧ s.get .arc ARC.STAT.MEDIA ≠ mediaAbsent ∧ ofLeBytes x.body = s.archive.media) ∧
      writeReason s .plinth .arc ARC.LAYOUT.FORMAT.off (overlay (plainWord .arc ARC.LAYOUT.FORMAT.off (word s .arc
      ARC.LAYOUT.FORMAT.off)) ARC.LAYOUT.FORMAT 1) = .none ∧ writeChanges s .arc ARC.LAYOUT.FORMAT.off (shownWord s .plinth
      .arc ARC.LAYOUT.FORMAT.off) (overlay (plainWord .arc ARC.LAYOUT.FORMAT.off (word s .arc ARC.LAYOUT.FORMAT.off))
      ARC.LAYOUT.FORMAT 1) = true) ∧
    (∃ (x : Capsule) (s : State), (s.plinth.running = some x ∧ x.cmd = 0x0C ∧ s.flag .pln PLN.STAT.RK0_RECOVERY = false ∧
      x.body = [])) ∧
    (∃ (x : Capsule) (s : State), (s.plinth.running = some x ∧ x.cmd = 0x0D ∧ s.flag .pln PLN.STAT.RK0_RECOVERY = false ∧
      x.body.length = 1) ∧ (testBit (leAt x.body 0 1) 0 = true → tamperActive s = 0)) ∧
    (∃ (o : Origin) (w : Word) (s : State), Takes o .pln PLN.MBX_IN.DATA.off w s) ∧
    (∃ (o : Origin) (s : State), ((o = .host → s.hostReady = true) ∧ s.power ≠ pwrIdle)) ∧
    (∃ (r : PlinthRequest) (s : State), (s.plinth.request = some r ∧ r.req = 2 ∧ r.fromHost = false ∧ r.input = [])) ∧
    (∃ (r : PlinthRequest) (s : State), (s.plinth.request = some r ∧ r.req = 3 ∧ r.fromHost = false ∧ r.input.length = 32 ∧
      canSign s = true)) ∧
    (∃ (r : PlinthRequest) (e : Nat × List Byte) (s : State), (s.plinth.request = some r ∧ r.req = 4 ∧ r.fromHost = false ∧
      r.input.length = 8) ∧ (s.journal.signatures.find? (fun y => y.1 == ofLeBytes r.input) = some e)) ∧
    (∃ (r : PlinthRequest) (s : State), (s.plinth.request = some r ∧ r.req = 5 ∧ r.fromHost = false ∧ r.input = [])) ∧
    (∃ (r : PlinthRequest) (c : Carrier) (mode : Nat) (s : State), (s.plinth.request = some r ∧ r.req = 6 ∧
      r.fromHost = false ∧ r.input = [BitVec.ofNat 8 c.idx, BitVec.ofNat 8 mode] ∧ mode ≤ 1) ∧ alsState s c = alsShut) ∧
    (∃ (r : PlinthRequest) (s : State), (s.plinth.request = some r ∧ (r.req = 0 ∨ 6 < r.req) ∧ r.fromHost = false)) ∧
    (∃ (r : PlinthRequest) (s : State), (s.plinth.request = some r ∧ (r.req = 0 ∨ 6 < r.req) ∧ r.fromHost = false)) :=
  ⟨⟨⟨false, 1, [1, 2, 3]⟩, asked 1 [1, 2, 3], by decide +kernel⟩,
   ⟨⟨1, 0, 7, 0, 3 :: List.replicate 1952 5⟩, capsule 1 (3 :: List.replicate 1952 5), by decide +kernel⟩,
   ⟨⟨2, 0, 7, 0, [3]⟩, let z := capsule 2 [3]; z.setPlinth { z.plinth with officers := #v[some [1], none, none, some [2]] },
     by decide +kernel⟩,
   ⟨⟨3, 0, 7, 0, List.replicate 1608 5⟩, capsule 3 (List.replicate 1608 5), by decide +kernel⟩,
   ⟨⟨4, 0, 7, 0, []⟩, capsule 4 [], by decide +kernel⟩,
   ⟨⟨5, 0, 7, 0, [1, 0] ++ leBytes 4 (pageBase .pln + 0x50) ++ leBytes 4 5⟩, pageBase .pln + 0x50, 5, .pln, capsule 5 ([1,
     0] ++ leBytes 4 (pageBase .pln + 0x50) ++ leBytes 4 5), by decide +kernel⟩,
   ⟨⟨5, 0, 7, 0, [1, 0] ++ leBytes 4 (pageBase .pln + 0x5C) ++ leBytes 4 3⟩, 3, capsule 5 ([1,
     0] ++ leBytes 4 (pageBase .pln + 0x5C) ++ leBytes 4 3), by decide +kernel⟩,
   ⟨⟨6, 0, 7, 0, 3 :: List.replicate 1952 5⟩, capsule 6 (3 :: List.replicate 1952 5), by decide +kernel⟩,
   ⟨⟨7, 0, 7, 0, 7 :: List.replicate 32 5⟩, capsule 7 (7 :: List.replicate 32 5), by decide +kernel⟩,
   ⟨⟨8, 0, 7, 0, List.replicate 1952 5⟩, capsule 8 (List.replicate 1952 5), by decide +kernel⟩,
   ⟨⟨9, 0, 7, 0, [1, 5, 0, 0, 1]⟩, capsule 9 [1, 5, 0, 0, 1], by decide +kernel⟩,
   ⟨⟨10, 0, 7, 0, [1, 0xA0, 5]⟩, capsule 10 [1, 0xA0, 5], by decide +kernel⟩,
   ⟨⟨10, 0, 7, 0, [2, 1, 0]⟩, capsule 10 [2, 1, 0], by decide +kernel⟩,
   ⟨⟨10, 0, 7, 0, [0, 0, 0]⟩, capsule 10 [0, 0, 0] (put [(.pln, PLN.STAT.TEST_OPEN, 1)]), by decide +kernel⟩,
   ⟨⟨11, 0, 7, 0, [1, 2, 0, 0, 0, 0, 0, 0]⟩, let z := capsule 11 [1, 2, 0, 0, 0, 0, 0, 0] (put [(.arc, ARC.STAT.MEDIA,
     2)]); z.setArchive { z.archive with media := 0x201 }, by decide +kernel⟩,
   ⟨⟨12, 0, 7, 0, []⟩, capsule 12 [] (inSession keyedSession), by decide +kernel⟩,
   ⟨⟨13, 0, 7, 0, [7]⟩, capsule 13 [7] (put [(.pln, PLN.HOLD.HOLD_A, 31), (.pln, PLN.HOLD.HOLD_B, 31), (.pln,
     PLN.TAMPER_STAT.LATCHED, 5)]), by decide +kernel⟩,
   ⟨.host, 0x01020304, ready (put [(.pln, HDR.OWNER.MASK, 0xFFFF)]), by decide +kernel⟩,
   ⟨.host, let z := ready; z.setPlinth { z.plinth with mbxOut := [1, 2, 3, 4, 5] }, by decide +kernel⟩,
   ⟨⟨false, 2, []⟩, asked 2 [], by decide +kernel⟩,
   ⟨⟨false, 3, List.replicate 32 7⟩, asked 3 (List.replicate 32 7) (put [(.pln, PLN.STAT.ID_OK, 1)]), by decide +kernel⟩,
   ⟨⟨false, 4, [9, 0, 0, 0, 0, 0, 0, 0]⟩, (9, [5, 6]),
     { asked 4 [9, 0, 0, 0, 0, 0, 0, 0] with journal := { State.reset.journal with signatures := [(9, [5, 6])] } },
     by decide +kernel⟩,
   ⟨⟨false, 5, []⟩, asked 5 [], by decide +kernel⟩,
   ⟨⟨false, 6, [1, 1]⟩, .b, 1, asked 6 [1, 1] (put [(.pln, PLN.ALS_STAT.STATE_B, 1), (.pln, PLN.HOLD.HOLD_B, 31)]),
     by decide +kernel⟩,
   ⟨⟨false, 7, []⟩, asked 7 [], by decide +kernel⟩,
   ⟨⟨false, 0, []⟩, asked 0 [], by decide +kernel⟩⟩

theorem witness_SafetyCommandsComplete :
    (∃ (c : Carrier) (s : State), ((sourceOf .tel (match c with | .a => TEL.EVT.TAP_ALARM_A | .b => TEL.EVT.TAP_ALARM_B)) ∈
      s.evr.plinthNotices ∧ s.flag .pln PLN.STAT.LOCKSTEP_FAIL = false) ∧ s.get .pln PLN.POLICY.TAP_ACT = 2) ∧
    (∃ (c : Carrier) (s : State), ((sourceOf .tel (match c with | .a => TEL.EVT.TAP_ALARM_A | .b => TEL.EVT.TAP_ALARM_B)) ∈
      s.evr.plinthNotices ∧ s.flag .pln PLN.STAT.LOCKSTEP_FAIL = false) ∧ s.get .pln PLN.POLICY.TAP_ACT = 2) ∧
    (∃ (c : Carrier) (s : State), (sourceOf (.cry c) CRY.EVT.TAG_BURST ∈ s.evr.plinthNotices ∧
      s.flag .pln PLN.STAT.LOCKSTEP_FAIL = false) ∧ s.get .pln PLN.POLICY.TAGBURST_ACT = 3) ∧
    (∃ (c : Carrier) (s : State), (losCounts s c = true ∧ passed s (.losHeld c) (s.get .pln PLN.ALS_CFG.DETECT * 100 * msNs)
      = true)) ∧
    (∃ (c : Carrier) (s : State), (alsState s c = alsShut ∧ passed s (.alsPeriod c) (s.get .pln PLN.ALS_CFG.PERIOD * secNs) =
      true)) ∧
    (∃ (c : Carrier) (s : State), (alsState s c = alsPulse ∨ alsState s c = alsTest) ∧
      passed s (.alsPulse c) (alsPulseNs (alsState s c)) = true) ∧
    (∃ (c : Carrier) (s : State), (alsState s c ≠ alsNormal ∧ s.flag .fes (fesLosF c) = false)) ∧
    (∃ (i : Fin 4) (s : State), (testBit (s.get .pln PLN.TAMPER_CFG.EN) i.val = true ∧
      testBit (s.get .pln PLN.STAT.TAMPER_IN) i.val = false)) ∧
    (∃ (s : State), s.plinth.zeroiseLow = false) ∧
    (∃ (s : State), s.plinth.testUntil ≤ s.elapsedNs) ∧
    (∃ (s : State), (s.plinth.rk0Seen = true ∧ s.power ≤ pwrIdle ∧ s.flag .pln PLN.STAT.RK0_RECOVERY = false ∧
      s.flag .pln PLN.STAT.LOCKSTEP_FAIL = false) ∧ ((s.running (.rk 0) = true ∧ passed s .heartbeat (hbPeriodNs s) = true ∧
      s.get (.rk 0) RK.HB_CNT.COUNT = s.plinth.lastBeat) ∨ (s.running (.rk 0) = false ∧
      passed s .rk0Stopped (secNs + 1) = true))) ∧
    (∃ (s : State), (s.plinth.rk0Seen = true ∧ s.power ≤ pwrIdle ∧ s.flag .pln PLN.STAT.RK0_RECOVERY = false ∧
      s.flag .pln PLN.STAT.LOCKSTEP_FAIL = false) ∧ ((s.running (.rk 0) = true ∧ passed s .heartbeat (hbPeriodNs s) = true ∧
      s.get (.rk 0) RK.HB_CNT.COUNT = s.plinth.lastBeat) ∨ (s.running (.rk 0) = false ∧
      passed s .rk0Stopped (secNs + 1) = true))) ∧
    (∃ (s : State), (s.flag .pln PLN.STAT.RK0_RECOVERY = true ∧ s.get .pln PLN.STAT.RK0_RESETS < 3 ∧
      s.flag .pln PLN.STAT.LOCKSTEP_FAIL = false ∧ rk0Awaited s = false)) ∧
    (∃ (s : State), (s.flag .pln PLN.STAT.RK0_RECOVERY = true ∧ s.get .pln PLN.STAT.RK0_RESETS < 3 ∧
      s.flag .pln PLN.STAT.LOCKSTEP_FAIL = false ∧ rk0Awaited s = false)) ∧
    (∃ (s : State), (s.flag .pln PLN.STAT.RK0_RECOVERY = true ∧ s.running (.rk 0) = true ∧
      s.get (.rk 0) RK.HB_CNT.COUNT ≠ s.plinth.lastBeat ∧ testBit (plnHold s .a) holdFailure = false)) ∧
    (∃ (s : State), (s.flag .pln PLN.STAT.RK0_RECOVERY = false ∧ s.running (.rk 0) = true ∧
      passed s .rk0Good (600 * secNs) = true)) ∧
    (∃ (s : State), s.flag .pln PLN.STAT.LOCKSTEP_FAIL = false) ∧
    (∃ (s : State), rk0Escalated s = true) :=
  ⟨⟨.b, let z := put [(.pln, PLN.POLICY.TAP_ACT, 2)];
    { z with evr := { z.evr with plinthNotices := [3, sourceOf .tel TEL.EVT.TAP_ALARM_B] } }, by decide +kernel⟩,
   ⟨.a, let z := put [(.pln, PLN.POLICY.TAP_ACT, 2), (.pln, PLN.HOLD.HOLD_A,
     4)]; { z with evr := { z.evr with plinthNotices := [3, sourceOf .tel TEL.EVT.TAP_ALARM_A] } }, by decide +kernel⟩,
   ⟨.b, let z := put [(.pln, PLN.POLICY.TAGBURST_ACT, 3)];
     { z with evr := { z.evr with plinthNotices := [sourceOf (.cry .b) CRY.EVT.TAG_BURST] } }, by decide +kernel⟩,
   ⟨.b, clocked (.losHeld .b) (put [(.pln, PLN.ALS_CFG.EN_B, 1), (.fes, FES.STAT_B.STATE, 6), (.fes, fesLosF .b, 1)]),
     by decide +kernel⟩,
   ⟨.a, clocked (.alsPeriod .a) (put [(.pln, PLN.ALS_STAT.STATE_A, 1), (.pln, PLN.HOLD.HOLD_A, 1), (.pln,
     PLN.ALS_STAT.PULSES, 255)]), by decide +kernel⟩,
   ⟨.a, clocked (.alsPulse .a) (put [(.pln, PLN.ALS_STAT.STATE_A, 2)]), by decide +kernel⟩,
   ⟨.a, put [(.pln, PLN.ALS_STAT.STATE_A, 1), (.pln, PLN.HOLD.HOLD_A, 1), (.fes, fesLosF .a, 0)], by decide +kernel⟩,
   ⟨3, capsule 1 [] (put [(.pln, PLN.TAMPER_CFG.EN, 8), (.pln, PLN.STAT.TEST_OPEN, 1)]), by decide +kernel⟩,
   ⟨State.reset, by decide +kernel⟩,
   ⟨put [(.pln, PLN.STAT.TEST_OPEN, 1), (.pln, PLN.STAT.SCAN_OPEN, 1)], by decide +kernel⟩,
   ⟨let z := clocked .heartbeat (up [.rk 0]); z.setPlinth { z.plinth with rk0Seen := true }, by decide +kernel⟩,
   ⟨let z := clocked .rk0Stopped (capsule 1 []); z.setPlinth { z.plinth with rk0Seen := true }, by decide +kernel⟩,
   ⟨put [(.pln, PLN.STAT.RK0_RECOVERY, 1), (.pln, PLN.STAT.RK0_RESETS, 2)], by decide +kernel⟩,
   ⟨up [.rk 0] (put [(.pln, PLN.STAT.RK0_RECOVERY, 1), (.pln, PLN.STAT.RK0_RESETS, 0), (.rk 0, RK.IMG_STAT.VALID, 1), (.rk 0,
     RK.IMG_STAT.MEAS_VALID, 1)]), by decide +kernel⟩,
   ⟨up [.rk 0] (put [(.pln, PLN.STAT.RK0_RECOVERY, 1), (.rk 0, RK.HB_CNT.COUNT, 1)]), by decide +kernel⟩,
   ⟨clocked .rk0Good (up [.rk 0] (put [(.pln, PLN.STAT.RK0_RESETS, 2)])), by decide +kernel⟩,
   ⟨capsule 1 [], by decide +kernel⟩,
   ⟨put [(.pln, PLN.STAT.RK0_RECOVERY, 1), (.pln, PLN.STAT.RK0_RESETS, 3)], by decide +kernel⟩⟩

theorem witness_SensorCommandsComplete :
    (∃ (n : Fin 2) (src : Fin 3) (refs temps : Int × Int) (s : State),
      hkSourceDue (pageBoundary (.hk n) s) n src.val = true ∧ (s.power ≤ pwrIdle ∧
      (pageBoundary (.hk n) s).get (.hk n) HK.CTL.TRIG_SRC = src.val ∧
      (pageBoundary (.hk n) s).flag (.hk n) HK.STAT.BUSY = false ∧
      (pageBoundary (.hk n) s).flag (.hk n) HK.STAT.CAL_RUN = false) ∧
      (n = 1 → (hkOf (pageBoundary (.hk n) s) 0).simul = false) ∧
      (n = 0 → (pageBoundary (.hk n) s).flag (.hk 0) HK.CTL.SIMUL = false)) ∧
    (∃ (n : Fin 2) (src : Fin 3) (refs temps : Int × Int) (s : State),
      hkSourceDue (pageBoundary (.hk n) s) n src.val = true ∧ (s.power ≤ pwrIdle ∧
      (pageBoundary (.hk n) s).get (.hk n) HK.CTL.TRIG_SRC = src.val ∧
      (pageBoundary (.hk n) s).flag (.hk n) HK.STAT.BUSY = false ∧
      (pageBoundary (.hk n) s).flag (.hk n) HK.STAT.CAL_RUN = false) ∧
      (n = 1 → (hkOf (pageBoundary (.hk n) s) 0).simul = false) ∧
      (n = 0 → (pageBoundary (.hk n) s).flag (.hk 0) HK.CTL.SIMUL = false)) ∧
    (∃ (n : Fin 2) (src : Fin 3) (refs temps : Int × Int) (s : State),
      hkSourceDue (pageBoundary (.hk n) s) n src.val = true ∧ (s.power ≤ pwrIdle ∧
      (pageBoundary (.hk n) s).get (.hk n) HK.CTL.TRIG_SRC = src.val ∧
      (pageBoundary (.hk n) s).flag (.hk n) HK.STAT.BUSY = true) ∧ (n = 1 → (hkOf (pageBoundary (.hk n) s) 0).simul = false)) ∧
    (∃ (o : Origin) (n : Fin 2) (refA refB tempA tempB : Int) (s : State), TakesField o (.hk n) HK.CTL.START 1 s ∧
      (s.power = pwrRun ∧ s.flag (.hk n) HK.STAT.BUSY = false ∧ s.flag (.hk n) HK.STAT.CAL_RUN = false) ∧
      (n = 1 → (hkOf s 0).simul = false) ∧ (n = 0 → s.flag (.hk 0) HK.CTL.SIMUL = false)) ∧
    (∃ (n : Fin 2) (codes : List (List Int)) (refs temps : Int × Int) (i : Fin 32) (s : State),
      (s.flag (.hk n) HK.STAT.BUSY = true ∧ passed s (.hkSequence n) (hkSequenceNs s n) = true) ∧
      (s.flag (.hk n) (HK.SLOT.EN.at i.val) = true ∧ i.val ∉ (hkOf s n).skipped)) ∧
    (∃ (o : Origin) (n : Fin 2) (input : BitVec 5) (reading conv : Int) (s : State),
      Takes o (.hk n) HK.URG_CTL.GO.off (overlay (overlay 0 HK.URG_CTL.INPUT input.toNat) HK.URG_CTL.GO 1) s ∧
      (conv ≠ 1 ∨ s.flag (.hk n) HK.STAT.BUSY = false)) ∧
    (∃ (o : Origin) (n : Fin 2) (input : BitVec 5) (reading : Int) (s : State),
      Takes o (.hk n) HK.URG_CTL.GO.off (overlay (overlay 0 HK.URG_CTL.INPUT input.toNat) HK.URG_CTL.GO 1) s ∧
      s.flag (.hk n) HK.STAT.BUSY = true) ∧
    (∃ (n : Fin 2) (offset gain : List (Int × Int)) (refs temps : Int × Int) (s : State), ((∀ m ∈ hkCalibrated s n,
      s.flag (.hk m) HK.STAT.BUSY = false) ∧ (hkCalibrated s n).any (hkCalDue s) = true)) ∧
    (∃ (n : Fin 2) (offset gain : List (Int × Int)) (refs temps : Int × Int) (s : State),
      (s.flag (.hk n) HK.STAT.CAL_RUN = true ∧ (hkOf s 0).simul = false) ∧ (calAgree 8 0 (offset.getD n.val (0,
      0)).1 (offset.getD n.val (0, 0)).2 = true ∧ calAgree 9 0 (gain.getD n.val (0, 0)).1 (gain.getD n.val (0, 0)).2 = true)) ∧
    (∃ (n : Fin 16) (s : State), (s.power = pwrRun ∧ auxCleared (auxBoundary n s) n.val = false ∧
      auxStepDue (auxBoundary n s) n = true)) ∧
    (∃ (n : Fin 16) (s : State), (testBit s.aux.rangeWait n.val = true ∧ auxStepDue s n = true)) ∧
    (∃ (n : Fin 16) (s : State), (auxHeld s n.val = true ∧ passed s (.auxHold n) (20 * usNs) = true)) ∧
    (∃ (n : Fin 16) (s : State), s.flag .aux AUX.STAT.CLR_PIN = false) ∧
    (∃ (n : Fin 16) (s : State), testBit s.aux.ladderWait n.val = true) ∧
    (∃ (n : Fin 16) (m : Int × Int) (s : State), (testBit s.aux.ladderWait n.val = true ∧ calAgree 0xA 0 m.1 m.2 = true)) ∧
    (∃ (item unit sub : Nat) (m1 m2 : Int) (s : State), calAgree item sub m1 m2 = true) ∧
    (∃ (item unit sub : Nat) (m1 m2 : Int) (s : State), calAgree item sub m1 m2 = false) ∧
    (∃ (s : State), (calStoreDue s = true ∧ calTooSoon s = false)) ∧
    (∃ (s : State), (calStoreDue s = true ∧ calTooSoon s = true)) ∧
    (∃ (o : Origin) (s : State), TakesField o .cal CAL.CTL.STORE_NOW 1 s ∧ calTooSoon s = false) :=
  ⟨⟨1, 2, (5, 70000), (100, -2500), put [(.hk 1, HK.CTL.TRIG_SRC, 2)], by decide +kernel⟩,
   ⟨0, 0, (5, 7), (100, -2500), clocked (.hkTimer 0) (put [(.hk 0, HK.CTL.TRIG_SRC, 0)]), by decide +kernel⟩,
   ⟨1, 2, (5, 70000), (100, -2500), put [(.hk 1, HK.CTL.TRIG_SRC, 2), (.hk 1, HK.STAT.BUSY, 1)], by decide +kernel⟩,
   ⟨.host, 1, 1, 2, 3, 4, ready, by decide +kernel⟩,
   ⟨1, [[1], [70000]], (1, 1), (1, 1), 1, clocked (.hkSequence 1) (put [(.hk 1, HK.STAT.BUSY, 1), (.hk 1, HK.SLOT.EN.at 1,
     1)]), by decide +kernel⟩,
   ⟨.host, 1, 31, -3, 1, ready, by decide +kernel⟩,
   ⟨.host, 1, 31, -3, ready (put [(.hk 1, HK.STAT.BUSY, 1)]), by decide +kernel⟩,
   ⟨1, [], [], (1, 1), (1, 1), State.reset, by decide +kernel⟩,
   ⟨1, [(9, 9), (1000, 400)], [(9, 9), (7, 7)], (1, 1), (1, 1), put [(.hk 1, HK.STAT.CAL_RUN, 1)], by decide +kernel⟩,
   ⟨15, put [(.aux, AUX.CFG.EN.at 15, 1), (.aux, AUX.CODE.WRITTEN.at 15, 1), (.aux, AUX.CODE.TARGET.at 15, 9), (.aux,
     AUX.CODE.OUT.at 15, 7000), (.aux, AUX.CFG.STEP.at 15, 255)], by decide +kernel⟩,
   ⟨15, { State.reset with aux := ⟨0x8001, 0⟩ }, by decide +kernel⟩,
   ⟨15, clocked (.auxHold 15) (put [(.aux, AUX.HOLD.HOLD, 0x8000)]), by decide +kernel⟩,
   ⟨15, put [(.aux, AUX.CFG.CLEAR.at 15, 77)], by decide +kernel⟩,
   ⟨15, { State.reset with aux := ⟨0, 0x8001⟩ }, by decide +kernel⟩,
   ⟨15, (300, 100), { State.reset with aux := ⟨0, 0x8001⟩ }, by decide +kernel⟩,
   ⟨1, 7, 3, 100, 225, State.reset, by decide +kernel⟩,
   ⟨1, 7, 3, 100, 226, State.reset, by decide +kernel⟩,
   ⟨State.reset, by decide +kernel⟩,
   ⟨{ State.reset with cal := { State.reset.cal with committedAt := some 0, due := true } }, by decide +kernel⟩,
   ⟨.host, ready, by decide +kernel⟩⟩

theorem witness_PowerCommandsComplete :
    (∃ (o : Origin) (target : BitVec 3) (s : State), Takes o .pwr PWR.REQ.STATE.off (target.setWidth 32) s ∧
      (s.flag .pwr PWR.STAT.TRANS = false ∧ s.firmware.online = none ∧ s.power = pwrRun ∧ 1 ≤ target.toNat) ∧
      (target.toNat ≤ pwrOff ∧ refusals s target.toNat = [])) ∧
    (∃ (o : Origin) (target : BitVec 3) (s : State), Takes o .pwr PWR.REQ.STATE.off (target.setWidth 32) s ∧
      (s.flag .pwr PWR.STAT.TRANS = true ∧ s.get .pwr PWR.STAT.TARGET = target.toNat)) ∧
    (∃ (o : Origin) (target : BitVec 3) (s : State), Takes o .pwr PWR.REQ.STATE.off (target.setWidth 32) s ∧
      (s.flag .pwr PWR.STAT.TRANS = true ∧ s.get .pwr PWR.STAT.TARGET ≠ target.toNat ∧ s.flag .pwr PWR.STAT.PEND_V = false)) ∧
    (∃ (s : State), (s.flag .pwr PWR.STAT.TRANS = true ∧ s.pwrMgr.acted = false ∧ s.get .pwr PWR.STAT.TARGET = pwrIdle ∧
      s.power = pwrRun)) ∧
    (∃ (s : State), (s.flag .pwr PWR.STAT.TRANS = true ∧ s.pwrMgr.acted = false ∧ s.get .pwr PWR.STAT.TARGET = pwrSleep ∧
      s.power = pwrRun)) ∧
    (∃ (counts : Nat) (s : State), (s.flag .pwr PWR.STAT.TRANS = true ∧ s.pwrMgr.acted = false ∧
      s.get .pwr PWR.STAT.TARGET = pwrRun ∧ s.power ≠ pwrIdle ∧ vddInFlight s = false)) ∧
    (∃ (s : State), (s.flag .pwr PWR.STAT.TRANS = true ∧ s.pwrMgr.acted = true ∧ s.flag .pwr PWR.STAT.PEND_V = false) ∧
      ((pwrSleep ≤ s.get .pwr PWR.STAT.TARGET ∨ pwrSleep ≤ s.power) → railReached s = true)) ∧
    (∃ (results : List (Option (Nat × Nat))) (s : State), (s.flag .pwr PWR.STAT.TRANS = true ∧
      s.get .pwr PWR.STAT.TARGET = pwrOff ∧ s.power ≠ pwrOff ∧ s.flag .pwr PWR.STAT.PEND_V = false)) ∧
    (∃ (source : Fin 7) (s : State), (testBit (s.get .pwr PWR.WAKE_EN.EN) source.val = true ∧
      s.flag .pwr PWR.STAT.TRANS = false ∧ s.firmware.online = none) ∧ (1 ≤ s.power ∧ s.power ≤ pwrDeep)) ∧
    (∃ (s : State), (testBit (s.get .pwr PWR.WAKE_EN.EN) 0 = true ∧ s.flag .pwr PWR.STAT.TRANS = false ∧
      s.firmware.online = none) ∧ (1 ≤ s.power ∧ s.power ≤ pwrDeep)) ∧
    (∃ (s : State), (vddInFlight s = true ∧ spaced s .avsAcked (stepGapNs s) = true)) ∧
    (∃ (s : State), (vddInFlight s = true ∧ s.pwrMgr.failures < 2) ∧ (passed s .avsAsked (2 * msNs) = true ∧
      spaced s .avsAcked (2 * msNs + stepGapNs s) = true)) ∧
    (∃ (s : State), (vddInFlight s = true ∧ 2 ≤ s.pwrMgr.failures) ∧ (passed s .avsAsked (2 * msNs) = true ∧
      spaced s .avsAcked (2 * msNs + stepGapNs s) = true)) ∧
    (∃ (within : Bool) (s : State), (s.flag .pwr PWR.STAT.REG_FAULT = true ∧ spaced s .regPolled secNs = true)) ∧
    (∃ (s : State), (governorTime s = true ∧ governorMode s = govAuto ∧ s.flag .pwr PWR.STAT.REG_FAULT = false) ∧
      due s .governed (s.get .pwr PWR.GOV_POL.EVAL * 10 * usNs) = true) :=
  ⟨⟨.host, 2, ready, by decide +kernel⟩,
   ⟨.host, 2, ready (put [(.pwr, PWR.STAT.TRANS, 1), (.pwr, PWR.STAT.TARGET, 2)]), by decide +kernel⟩,
   ⟨.host, 3, ready (put [(.pwr, PWR.STAT.TRANS, 1), (.pwr, PWR.STAT.TARGET, 2)]), by decide +kernel⟩,
   ⟨put [(.pwr, PWR.STAT.TRANS, 1), (.pwr, PWR.STAT.TARGET, 1)], by decide +kernel⟩,
   ⟨up [.rk 3, .tel, .lfm .a] (put [(.pwr, PWR.STAT.TRANS, 1), (.pwr, PWR.STAT.TARGET, 2)]), by decide +kernel⟩,
   ⟨32768, put [(.pwr, PWR.STAT.TRANS, 1), (.pwr, PWR.STAT.STATE, 2), (.lpm, LPM.STAT.SELF_REFRESH, 1), (.pwr,
     PWR.VDD.APPLIED, 0x1E)], by decide +kernel⟩,
   ⟨let z := put [(.pwr, PWR.STAT.TRANS, 1), (.pwr, PWR.STAT.TARGET, 3), (.pwr, PWR.VDD.APPLIED, 5), (.pwr, PWR.VDD.TARGET,
     5)]; z.setPwr { z.pwrMgr with acted := true }, by decide +kernel⟩,
   ⟨[], put [(.pwr, PWR.STAT.TRANS, 1), (.pwr, PWR.STAT.TARGET, 4)], by decide +kernel⟩,
   ⟨6, put [(.pwr, PWR.WAKE_EN.EN, 64), (.pwr, PWR.STAT.STATE, 3)], by decide +kernel⟩,
   ⟨put [(.pwr, PWR.WAKE_EN.EN, 1), (.pwr, PWR.STAT.STATE, 1)], by decide +kernel⟩,
   ⟨{ State.reset with vddRequested := 12 }, by decide +kernel⟩,
   ⟨clocked .avsAsked { State.reset with vddRequested := 12 }, by decide +kernel⟩,
   ⟨let z := clocked .avsAsked { State.reset with vddRequested := 12 }; z.setPwr { z.pwrMgr with failures := 2 },
     by decide +kernel⟩,
   ⟨true, put [(.pwr, PWR.STAT.REG_FAULT, 1)], by decide +kernel⟩,
   ⟨clocked .governed (up [.pwr] (put [(.arm, ARM.FCNT_LO.COUNT.at 63, 77)])), by decide +kernel⟩⟩

theorem witness_TimeCommandsComplete :
    (∃ (s : State), s.flag .tb TB.STAT.LREF_OK = true) ∧
    (∃ (trim : Int) (s : State), (s.power = pwrRun ∧ s.flag .tb TB.STAT.LREF_OK = true ∧ due s .aonTrimmed secNs = true)) ∧
    (∃ (o : Origin) (s : State), TakesField o .tb TB.CTL.SET 1 s) ∧
    (∃ (s : State), (s.flag .tb TB.CTL.ALARM_EN = true ∧ s.timeBase.alarmDone = false ∧
      (alarmAt s ≤ s.nowNs ∨ s.power = pwrSleep ∨ s.power = pwrDeep))) ∧
    (∃ (s : State), (s.get .tb TB.CTL.PPS_MODE ≠ 0 ∧ s.flag .tb TB.STAT.PPS_ARMED = true)) ∧
    (∃ (s : State), (s.get .tb TB.CTL.PPS_MODE ≠ 0 ∧ s.flag .tb TB.STAT.PPS_ARMED = false)) ∧
    (∃ (s : State), (s.get .tb TB.CTL.PPS_MODE ≠ 0 ∧ s.timeBase.ppsPresent = true ∧ passed s .ppsEdge (2 * secNs) = true)) ∧
    (∃ (o : Origin) (sec : Word) (s : State), Takes o .tb TB.PPS_NEXT.SEC.off sec s) ∧
    (∃ (s : State), (s.flag .tb TB.CTL.PPS_OUT_EN = true ∧ s.flag .tb TB.STAT.TB_VALID = true ∧ s.nowNs % 1000000000 = 0)) :=
  ⟨⟨put [(.tb, TB.STAT.LREF_OK, 1)], by decide +kernel⟩,
   ⟨-7, clocked .aonTrimmed (put [(.tb, TB.STAT.LREF_OK, 1)]), by decide +kernel⟩,
   ⟨.host, ready (put [(.tb, TB.SET_LO.NS, 9), (.tb, TB.SET_HI.NS, 0xFFFFFFFF)]), by decide +kernel⟩,
   ⟨put [(.tb, TB.CTL.ALARM_EN, 1)], by decide +kernel⟩,
   ⟨put [(.tb, TB.CTL.PPS_MODE, 1), (.tb, TB.STAT.PPS_ARMED, 1), (.tb, TB.PPS_NEXT.SEC, 0xFFFFFFFF)], by decide +kernel⟩,
   ⟨{ put [(.tb, TB.CTL.PPS_MODE, 2)] with nowNs := 5998000000 }, by decide +kernel⟩,
   ⟨{ clocked .ppsEdge (put [(.tb, TB.CTL.PPS_MODE, 2)]) with timeBase := { State.reset.timeBase with ppsPresent := true } },
     by decide +kernel⟩,
   ⟨.host, 0x80000001, ready, by decide +kernel⟩,
   ⟨{ put [(.tb, TB.CTL.PPS_OUT_EN, 1), (.tb, TB.STAT.TB_VALID, 1)] with nowNs := 7000000000 }, by decide +kernel⟩⟩

theorem witness_TestAndStartCommandsComplete :
    (∃ (o : Origin) (k : BitVec 6) (s : State), Takes o .bst BST.CTL.OD_GO.off (overlay (overlay (plainWord .bst
      BST.CTL.OD_GO.off (word s .bst BST.CTL.OD_GO.off)) BST.CTL.OD_BLOCK k.toNat) BST.CTL.OD_GO 1) s) ∧
    (∃ (result : Option (Nat × Nat)) (k start : Nat) (s : State), s.selfTest.testing = some (k, start)) ∧
    (∃ (o : Origin) (p : Page) (off : BitVec 10) (s : State), ((o = .host → s.hostReady = true) ∧ s.power ≠ pwrIdle ∧
      underTest s p = true)) ∧
    (∃ (report : StartReport) (s : State), (s.pwrMgr.startDue = true ∧ (s.hostReady = false ∨ s.power = pwrOff))) ∧
    (∃ (s : State), (s.firmware.trial = true ∧ s.hostReady = true ∧ s.running (.rk 0) = true ∧
      s.flag .pln PLN.STAT.RK0_RECOVERY = false) ∧ passed s .rk0Good (60 * secNs) = true) ∧
    (∃ (s : State), (s.firmware.trial = true ∧ (s.hostReady = false ∨ rk0Escalated s = true))) ∧
    (∃ (slot k : Nat) (rest : List Nat) (s : State), (s.firmware.online = some slot ∧ s.firmware.reload = k :: rest ∧
      (rest.length ≠ 7 ∨ activationWaits s = false))) ∧
    (∃ (slot : Nat) (s : State), (s.firmware.commitDue = some slot ∧ rk0Beats s = true ∧
      passed s .rk0Good (60 * secNs) = true)) ∧
    (∃ (s : State), due s .inService (60 * secNs) = true) ∧
    (∃ (slot : Nat) (s : State), (s.firmware.online = some slot ∧ s.firmware.reload.length = 8 ∧ activationWaits s = true ∧
      passed s .online (10 * secNs) = true)) :=
  ⟨⟨.host, 9, ready (put [(.lfm .a, HDR.OWNER.MASK, 0xFFFF)]), by decide +kernel⟩,
   ⟨none, 9, 4, State.reset.setBst { State.reset.selfTest with testing := some (9, 4) }, by decide +kernel⟩,
   ⟨.host, .cry .a, 17, ready (State.reset.setBst { State.reset.selfTest with testing := some (9, 4) }), by decide +kernel⟩,
   ⟨⟨true, false, true, [], [], ⟨0, [], 0, 0, 0, [], false⟩, true⟩, State.reset, by decide +kernel⟩,
   ⟨let z := clocked .rk0Good (up [.rk 0] ready); { z with firmware := { z.firmware with trial := true } }, by decide +kernel⟩,
   ⟨{ State.reset with firmware := { State.reset.firmware with trial := true } }, by decide +kernel⟩,
   ⟨0, 7, [1], { State.reset with firmware := { State.reset.firmware with online := some 0, reload := [7, 1] } },
     by decide +kernel⟩,
   ⟨1, let z := clocked .rk0Good (up [.rk 0] (put [(.rk 0, RK.HB_CNT.COUNT,
     5)])); { z with firmware := { z.firmware with commitDue := some 1 } }, by decide +kernel⟩,
   ⟨clocked .inService, by decide +kernel⟩,
   ⟨1, let z := clocked .online (put [(.cry .b, CRY.TX_STAT.PENDING,
     1)]); { z with firmware := { z.firmware with online := some 1, reload := [7, 6, 2, 3, 4, 5, 1, 0] } }, by decide +kernel⟩⟩

theorem witness_CarrierLockExcludesRouteProtection :
    (∃ (o : Origin) (w : Word) (readings : List Int) (s : State), Accesses o GLB.LOCKCTL.LOCK_EN.off s ∧
      ((reached o .glb GLB.LOCKCTL.LOCK_EN.off s).get .rps RPS.CTL.MODE = 1 ∧ extract w 0 1 = 1 ∧
      (reached o .glb GLB.LOCKCTL.LOCK_EN.off s).get .glb GLB.LOCKCTL.LOCK_EN = 0) ∧
      writeReason ((reached o .glb GLB.LOCKCTL.LOCK_EN.off s).set .rps RPS.CTL.MODE 0) o .glb GLB.LOCKCTL.LOCK_EN.off w =
      .none) ∧
    (∃ (o : Origin) (w : Word) (readings : List Int) (s : State), Accesses o RPS.CTL.MODE.off s ∧
      ((reached o .rps RPS.CTL.MODE.off s).get .glb GLB.LOCKCTL.LOCK_EN = 1 ∧ extract w 0 2 = 1) ∧
      writeReason ((reached o .rps RPS.CTL.MODE.off s).set .glb GLB.LOCKCTL.LOCK_EN 0) o .rps RPS.CTL.MODE.off w = .none) :=
  ⟨⟨.host, 0x39, [], ready (put [(.rps, RPS.CTL.MODE, 1)]), by decide +kernel⟩,
   ⟨.rk 0, 0x861, [], put [(.glb, GLB.LOCKCTL.LOCK_EN, 1)], by decide +kernel⟩⟩

theorem witness_SemaphoresAreTakenInOrder :
    (∃ (o : Origin) (n : Fin 64) (s : State), TakesField o .arm (ARM.SEM.CMD.at n.val) 1 s ∧
      semLevel n.val ≤ highestLevel s o) ∧
    (∃ (o : Origin) (n : Fin 64) (s : State), TakesField o .arm (ARM.SEM.CMD.at n.val) 1 s ∧
      semLevel n.val ≤ highestLevel s o) ∧
    (∃ (o : Origin) (n : Fin 64) (s : State), TakesField o .arm (ARM.SEM.CMD.at n.val) 2 s ∧
      (semaphore s n.val).holder = some o) :=
  ⟨⟨.host, 63, ready (setSemaphore State.reset 57 ⟨some .host, []⟩), by decide +kernel⟩,
   ⟨.rk 0, 8, ready (setSemaphore State.reset 8 ⟨some (.rk 0), []⟩), by decide +kernel⟩,
   ⟨.host, 0, ready (setSemaphore (setSemaphore State.reset 63 ⟨some .host, []⟩) 0 ⟨some .host, []⟩), by decide +kernel⟩⟩

theorem witness_AnyOriginReadsAnyPage :
    (∃ (o : Origin) (p : Page) (off : Nat) (s : State), Accesses o off s ∧ (underTest (reached o p off s) p = false ∧
      (fieldsAt p off).isEmpty = true)) ∧
    (∃ (o : Origin) (p : Page) (off : Nat) (s : State), Accesses o off s ∧ (underTest (reached o p off s) p = false ∧
      (fieldsAt p off).isEmpty = false)) ∧
    (∃ (o : Origin) (p : Page) (off : Nat) (s : State), Accesses o off s ∧ underTest (reached o p off s) p = true) :=
  ⟨⟨.testPort, .pln, 0xFFC, State.reset, by decide +kernel⟩,
   ⟨.testPort, .pln, 0, State.reset, by decide +kernel⟩,
   ⟨.host, .rps, 0, ready { State.reset with selfTest := { State.reset.selfTest with testing := some (48, 0) } },
     by decide +kernel⟩⟩

theorem witness_RefusedWritesChangeNoField :
    (∃ (o : Origin) (p : Page) (off : Nat) (w : Word) (readings : List Int) (s : State), Accesses o off s ∧
      (writeReason (reached o p off s) o p off w ≠ .none ∧ writeReason (reached o p off s) o p off w ≠ .bist ∧
      writeReason (reached o p off s) o p off w ≠ .journalFull)) ∧
    (∃ (o : Origin) (p : Page) (off : Nat) (w : Word) (readings : List Int) (s : State), Accesses o off s ∧
      writeReason (reached o p off s) o p off w = .journalFull) ∧
    (∃ (o : Origin) (p : Page) (off : Nat) (w : Word) (readings : List Int) (s : State), Accesses o off s ∧
      writeReason (reached o p off s) o p off w = .bist) ∧
    (∃ (s : State), (onlyReserve s = false ∧ s.journal.inReserve = true ∧ s.journal.unlogged ≠ 0)) :=
  ⟨⟨.host, .glb, 0x080, 0x39, [], ready (up [.glb] State.reset), by decide +kernel⟩,
   ⟨.host, .glb, 0x080, 0x39, [], ready
     { State.reset with journal := { State.reset.journal with buffer := List.replicate (journalBuffer - 1) ⟨0, 0, 0, 0, 0, 0, 0, 0⟩, inReserve := true, unlogged := 8 } }, by decide +kernel⟩,
   ⟨.host, .rps, 0x40, 7, [], ready { State.reset with selfTest := { State.reset.selfTest with testing := some (48, 0) } },
     by decide +kernel⟩,
   ⟨{ State.reset with journal := { State.reset.journal with inReserve := true, unlogged := 5 } }, by decide +kernel⟩⟩

theorem witness_ExtRoundsHalfUp :
    ∃ (n : Fin 8) (slot1 : Bool) (x a b sh : Fin 32) (lo hi rlo rhi : Int) (s : State),
      Issues n (macBundle slot1 (formatM 0x07 x.val a.val b.val sh.val)) s ∧
      (lo = ((landed s n).slow.getD (2 * (a.val % 4)) 0).toInt ∧
      hi = ((landed s n).slow.getD (2 * (a.val % 4) + 1) 0).toInt) ∧
      (rlo = (if sh.val = 0 then lo else (lo + 2 ^ (sh.val - 1)) / 2 ^ sh.val) ∧
      rhi = (if sh.val = 0 then hi else (hi + 2 ^ (sh.val - 1)) / 2 ^ sh.val)) :=
  ⟨6, true, 3, 1, 0, 1, 3, -3, 2, -1, coreIn 6 fun c => { c with slow := (c.slow.set 2 3).set 3 (-3) }, by decide +kernel⟩

theorem witness_TheFirstReasonRefuses :
    (∃ (o : Origin) (p : Page) (off : Nat) (w : Word) (readings : List Int) (s : State), (Accesses o off s ∧
      (o = .plinth ∨ onlyReserve (reached o p off s) = false)) ∧ (underTest (reached o p off s) p = false ∧
      testBit ((reached o p off s).get p HDR.OWNER.MASK) o.code = false)) ∧
    (∃ (o : Origin) (p : Page) (off : Nat) (w : Word) (readings : List Int) (s : State), (Accesses o off s ∧ o ≠ .plinth ∧
      onlyReserve (reached o p off s) = false) ∧ (underTest (reached o p off s) p = false ∧
      mayWrite (reached o p off s) o p off = true) ∧ fieldsChange (fieldsOf p off .po) (shownWord (reached o p off s) o p
      off) (newWord p off (shownWord (reached o p off s) o p off) w) = true) ∧
    (∃ (o : Origin) (p : Page) (off : Nat) (w : Word) (readings : List Int) (s : State), (Accesses o off s ∧
      (o = .plinth ∨ onlyReserve (reached o p off s) = false)) ∧ (underTest (reached o p off s) p = false ∧
      mayWrite (reached o p off s) o p off = true ∧ (fieldsAt p off).isEmpty = true)) ∧
    (∃ (o : Origin) (p : Page) (off : Nat) (w : Word) (readings : List Int) (s : State), (Accesses o off s ∧
      (o = .plinth ∨ onlyReserve (reached o p off s) = false)) ∧ (underTest (reached o p off s) p = false ∧
      mayWrite (reached o p off s) o p off = true ∧ (fieldsAt p off).isEmpty = false) ∧
      (fieldsAt p off).all (fun f => f.acc == .ro) = true) ∧
    (∃ (o : Origin) (p : Page) (off : Nat) (w : Word) (readings : List Int) (s : State), (Accesses o off s ∧
      (o = .plinth ∨ onlyReserve (reached o p off s) = false)) ∧ (underTest (reached o p off s) p = false ∧
      mayWrite (reached o p off s) o p off = true ∧ (o = .plinth ∨ fieldsOf p off .po = [])) ∧
      ((p matches .hk _ | .aux | .arm) = false ∧ (reached o p off s).stopped p = false) ∧
      fieldsChange (fieldsOf p off .rwS) (shownWord (reached o p off s) o p off) (newWord p off (shownWord (reached o p off
      s) o p off) w) = true) ∧
    (∃ (o : Origin) (p : Page) (off : Nat) (w : Word) (readings : List Int) (s : State), (Accesses o off s ∧
      (o = .plinth ∨ onlyReserve (reached o p off s) = false)) ∧ underTest (reached o p off s) p = true) :=
  ⟨⟨.host, .glb, 0x080, 0x39, [], ready (put [(.glb, HDR.OWNER.MASK, 0x7FD)]), by decide +kernel⟩,
   ⟨.host, .glb, HDR.OWNER.MASK.off, 0, [], ready, by decide +kernel⟩,
   ⟨.host, .glb, 0xFFC, 0, [], ready, by decide +kernel⟩,
   ⟨.host, .glb, HDR.SEQ.COUNT.off, 5, [], ready, by decide +kernel⟩,
   ⟨.host, .rps, RPS.CTL.MODE.off, 1, [], ready (up [.rps] State.reset), by decide +kernel⟩,
   ⟨.host, .rps, 0x40, 7, [], ready { State.reset with selfTest := { State.reset.selfTest with testing := some (48, 0) } },
     by decide +kernel⟩⟩

theorem witness_EveryEntryAdvancesTheChain :
    (∃ (o : Origin) (p : Page) (off : Nat) (w : Word) (readings : List Int) (s : State), (Accesses o off s ∧
      (reached o p off s).journal.buffer.length < journalBuffer) ∧ (writeReason (reached o p off s) o p off w ≠ .none ∧
      writeReason (reached o p off s) o p off w ≠ .bist ∧ writeReason (reached o p off s) o p off w ≠ .journalFull)) ∧
    (∃ (s : State), (onlyReserve s = false ∧ s.journal.inReserve = true ∧ s.journal.unlogged ≠ 0)) :=
  ⟨⟨.host, .glb, 0x080, 0x39, [], ready (up [.glb] (put [(.cj, CJ.NEXT_LO.SEQ_NO, 0xFFFFFFFF),(.cj, CJ.NEXT_HI.SEQ_NO,
    0xFF)])), by decide +kernel⟩,
   ⟨{ State.reset with journal := { State.reset.journal with inReserve := true, unlogged := 5 } }, by decide +kernel⟩⟩

end Sys2Proof.Tests
end

section
/-! SUPPORT. Writes of registers that Patina does not follow, and what the record of a write leaves. -/
namespace Sys2Proof.Architecture

open Sys2Proof Sys2Proof.Machine Sys2Proof.Safety

/-! ## Parts of the state, as `Within` numbers them: those that the wake of an access, a record of the security log, a journal
entry before its event, a spill, a whole journal entry, and a refused write can change. -/

def wakeParts : Nat := 147578526626767437984
def secLogParts : Nat := 2535301200456458802994480152576
def entryParts : Nat := 73786976294838206480
def spillParts : Nat := 302305241881051643510800
def journalParts : Nat := 302305241881051643510832
def refusalParts : Nat := 303485833501769054814768

/-! ## Fields across an operation -/

/-- A field of a page outside `K` keeps its value. -/
theorem get_of_within {K : Nat} {s t : State} (h : Within K s t) {p : Page} (hp : pageBit p &&& K = 0) (f : Field) :
    t.get p f = s.get p f := by
  rw [State.get, State.get, h.page p f.off hp]

/-- A field of a register whose word is kept keeps its value. -/
theorem get_of_word {s t : State} {p : Page} {f : Field} (h : word t p f.off = word s p f.off) : t.get p f = s.get p f := by
  rw [State.get, State.get, h]

theorem get_bump_same (s : State) (p : Page) (f : Field) (h : f.lo + f.width ≤ 32) :
    (s.bump p f).get p f = min (s.get p f + 1) (2 ^ f.width - 1) := by
  have hpos : 0 < 2 ^ f.width := Nat.two_pow_pos _
  rw [State.bump, State.addSat, get_set_same _ _ _ _ h, Nat.mod_eq_of_lt (by omega)]

/-- Setting a field leaves every register at another offset, on every page. -/
theorem word_set_off (s : State) (p q : Page) (f : Field) (v off : Nat) (h : f.off % 0x1000 ≠ off % 0x1000) :
    word (s.set p f v) q off = word s q off := by
  by_cases hq : p = q
  · exact hq ▸ word_setWord_off s p _ _ _ h
  · exact word_setWord_page s p q _ _ _ hq

/-! ## The ring budget does not follow (R444) -/

theorem ringInputs_of_within {K : Nat} {s t : State} (h : Within K s t) (ha : pageBit .arc &&& K = 0)
    (ht : pageBit .tel &&& K = 0) : ringInputs t = ringInputs s := by
  simp only [ringInputs, ringRate, telK, get_of_within h ha, get_of_within h ht]

/-- Patina evaluates nothing after a write that leaves ARC and TEL. -/
theorem ringFollow_of_within {K : Nat} {s t : State} (h : Within K s t) (ha : pageBit .arc &&& K = 0)
    (ht : pageBit .tel &&& K = 0) : ringFollow s t = t := by
  simp [ringFollow, ringInputs_of_within h ha ht]

/-! ## A write as far as its page -/

/-- A device that is not in Idle is found as it stands. -/
theorem reached_of_awake {o : Origin} {p : Page} {off : Nat} {s : State} (h : s.power ≠ pwrIdle) : reached o p off s = s := by
  simp [reached, busAccess, accessWakes, h]

theorem reached_stepsDue {o : Origin} {p : Page} {off : Nat} {s : State} (h : s.stepsDue = []) :
    (reached o p off s).stepsDue = [] :=
  ((busAccess_within (Within.refl wakeParts s) (Nat.or_self _)).stepsDue (by decide)).trans h

theorem tooEarly_eq_false {o : Origin} {s : State} (h : o = .host → s.hostReady = true) : tooEarly o s = false := by
  by_cases ho : o = .host
  · simp [tooEarly, h ho]
  · simp [tooEarly, ho]

theorem writeOnce_page {o : Origin} {p : Page} {off : Nat} {v : Word} {env : List Int} {s : State} (hoff : off < 0x1000) :
    writeOnce o (pageBase p + off) v env s = writePage o p off v env s := by
  simp only [writeOnce, debugCore_pageBase p off hoff, pageOfAddr_pageBase p off hoff, Nat.add_mod, pageBase_dvd,
    Nat.mod_eq_of_lt hoff, Nat.zero_add]

/-- A write that leaves ARC, TEL and the waiting STEP strobes ends with what its page does. -/
theorem busWrite_eq_writePage {K : Nat} {o : Origin} {p : Page} {off : Nat} {v : Word} {env : List Int} {s : State}
    (hoff : off < 0x1000) (hr : o = .host → s.hostReady = true) (hd : s.stepsDue = [])
    (h : Within K (reached o p off s) (writePage o p off v env (reached o p off s))) (ha : pageBit .arc &&& K = 0)
    (ht : pageBit .tel &&& K = 0) (hs : K.testBit 44 = false) :
    busWrite o (pageBase p + off) v env s = writePage o p off v env (reached o p off s) := by
  have hsteps := (h.stepsDue hs).trans (reached_stepsDue hd)
  simp only [busWrite, tooEarly_eq_false hr, Bool.false_eq_true, if_false, writeSettled, writeReg]
  rw [writeOnce_page hoff, ringFollow_of_within h ha ht, settle_of_none hsteps]

/-! ## What a command ends in -/

/-- A command ends in the state its meaning computes, with the queue as it was. -/
theorem ends_of_endsIn {c : Instr} {s u : State} {P : State → Prop} (hc : exec c s = endsIn s u)
    (h : P { u with pending := s.pending }) : Ends c s P :=
  ⟨_, hc, h⟩

/-- The same where what is stated is in the event router alone. -/
theorem ends_of_evr {c : Instr} {s u : State} {P : State → Prop} (hc : exec c s = endsIn s u)
    (h : ∀ t : State, t.evr = u.evr → P t) : Ends c s P :=
  ends_of_endsIn hc (h _ rfl)

/-- The same where what is stated is in the registers and the journal. -/
theorem ends_of_registers {c : Instr} {s u : State} {P : State → Prop} (hc : exec c s = endsIn s u)
    (h : ∀ t : State, t.journal = u.journal → (∀ q f, t.get q f = u.get q f) → P t) : Ends c s P :=
  ends_of_endsIn hc (h _ rfl fun _ _ => rfl)

/-! ## The record of an accepted write (R55, R59) -/

/-- An accepted write before its effect: stored, counted in SEQ and journalled. -/
def recorded (o : Origin) (p : Page) (off : Nat) (v : Word) (env : List Int) (s : State) : State :=
  journalAccepted ((storeWrite p off v s).addWrap p HDR.SEQ.COUNT 1) o (pageBase p + off) (shownWord s o p off)
    (shownNew o p off (shownWord s o p off) v env (storeWrite p off v s))

theorem acceptWrite_eq (o : Origin) (p : Page) (off : Nat) (v : Word) (env : List Int) (s : State) :
    acceptWrite o p off v env s = writeEffect o p off (shownWord s o p off) v env (recorded o p off v env s) := rfl

/-- The parts of the state that the record of a write can change beside its page. -/
def recordParts : Nat := 302305244132851457196080

theorem recorded_within {K : Nat} {o : Origin} {p : Page} {off : Nat} {v : Word} {env : List Int} {s : State}
    (hk : recordParts ||| K = K) (hp : pageBit p ||| K = K) : Within K s (recorded o p off v env s) :=
  journalAccepted_within
    (State.addWrap_within (storeWrite_within (Within.refl _ _) (Within.sub hk (by simp [recordParts])) hp) hp)
    (Within.sub hk (by simp [recordParts]))

/-- The page written keeps its other registers, SEQ aside. -/
theorem word_storeWrite_off {p : Page} {off a : Nat} {v : Word} {s : State} (h : off % 0x1000 ≠ a % 0x1000) :
    word (storeWrite p off v s) p a = word s p a := by
  unfold storeWrite
  extract_lets inForce kept
  split_ifs
  · rfl
  · exact word_setWord_off s p off a _ h
  · exact word_setWord_off s p off a _ h

theorem get_recorded {o : Origin} {p : Page} {off : Nat} {v : Word} {env : List Int} {s : State} {f : Field}
    (hp : pageBit p &&& journalParts = 0) (h : off % 0x1000 ≠ f.off % 0x1000)
    (hq : HDR.SEQ.COUNT.off % 0x1000 ≠ f.off % 0x1000) : (recorded o p off v env s).get p f = s.get p f := by
  have hj := get_of_within (journalAccepted_within (o := o) (addr := pageBase p + off) (old := shownWord s o p off)
    (new := shownNew o p off (shownWord s o p off) v env (storeWrite p off v s))
    (Within.refl journalParts ((storeWrite p off v s).addWrap p HDR.SEQ.COUNT 1)) (Nat.or_self _)) hp f
  refine hj.trans (get_of_word ?_)
  rw [State.addWrap, word_set_off _ _ _ _ _ _ hq, word_storeWrite_off h]

/-- A write that is taken (R49, R54) and leaves ARC, TEL and the STEP strobes ends with its effect on the record. -/
theorem busWrite_of_takes {K : Nat} {o : Origin} {p : Page} {off : Nat} {v : Word} {env : List Int} {s : State}
    (hoff : off < 0x1000) (h : Takes o p off v s) (hw : Within K s (acceptWrite o p off v env s))
    (ha : pageBit .arc &&& K = 0) (ht : pageBit .tel &&& K = 0) (hs : K.testBit 44 = false) :
    busWrite o (pageBase p + off) v env s =
      writeEffect o p off (shownWord s o p off) v env (recorded o p off v env s) := by
  obtain ⟨hready, hawake, hsteps, hreason, hchange⟩ := h
  have hreach : reached o p off s = s := reached_of_awake hawake
  have hpage : writePage o p off v env s = acceptWrite o p off v env s := by simp [writePage, hreason, hchange]
  rw [busWrite_eq_writePage (K := K) hoff hready hsteps (by rw [hreach, hpage]; exact hw) ha ht hs, hreach, hpage,
    acceptWrite_eq]

/-! ## Words written -/

theorem extract_or (a b : Word) (lo width : Nat) : extract (a ||| b) lo width = extract a lo width ||| extract b lo width := by
  apply Nat.eq_of_testBit_eq
  intro i
  simp only [Nat.testBit_or, testBit_extract, BitVec.getLsbD_or]
  cases decide (i < width) <;> rfl

theorem extract_overlay_same (w : Word) (f : Field) (v : Nat) (h : f.lo + f.width ≤ 32) :
    extract (overlay w f v) f.lo f.width = v % 2 ^ f.width :=
  extract_deposit_same w f.lo f.width v h

theorem extract_lt (w : Word) (lo width : Nat) : extract w lo width < 2 ^ width := Nat.mod_lt _ (Nat.two_pow_pos _)

/-- A register that holds one strobe field and no field a write stores. -/
structure StrobeOnly (p : Page) (off : Nat) (f : Field) : Prop where
  strobe : fieldsOf p off .wo = [f]
  clears : fieldsOf p off .w1c = []
  live : fieldsOf p off .rwL = []
  stopOnly : fieldsOf p off .rwS = []
  plinth : fieldsOf p off .po = []
  block : 0x40 ≤ off
  fits : f.lo + f.width ≤ 32

/-- The word a write of such a register leaves shows its strobe as written. -/
theorem StrobeOnly.extract_newWord {p : Page} {off : Nat} {f : Field} (h : StrobeOnly p off f) (old v : Word) :
    extract (newWord p off old v) f.lo f.width = extract v f.lo f.width := by
  have hblock := h.block
  have howner : off ≠ HDR.OWNER.MASK.off := by simp [HDR.OWNER.MASK]; omega
  have hset : off ≠ HDR.EVT_SET.SET.off := by simp [HDR.EVT_SET.SET]; omega
  have hkept : keptWord p off old v = overlay old f 0 := by
    simp [keptWord, plainWord, clearFields, takeFields, h.strobe, h.clears, h.live, h.stopOnly, h.plinth, howner]
  have hstrobe : strobes p off v = overlay 0 f (extract v f.lo f.width) := by
    simp [strobes, takeFields, h.strobe, hset]
  rw [newWord, hkept, hstrobe, extract_or, extract_overlay_same _ _ _ h.fits, extract_overlay_same _ _ _ h.fits,
    Nat.zero_mod, Nat.zero_or, Nat.mod_eq_of_lt (extract_lt _ _ _)]

end Sys2Proof.Architecture
end

section
/-! SUPPORT. The event router (R70 to R73): what waits, what is pending, and the routes. -/
namespace Sys2Proof.Architecture

open Sys2Proof Sys2Proof.Machine Sys2Proof.Safety

/-! ## A delivery leaves the router's own lists -/

theorem sendMsix_evr (s : State) (vector : Nat) : (sendMsix s vector).evr = s.evr := by
  unfold sendMsix
  split <;> rfl

theorem withdrawMsix_evr (s : State) (vector : Nat) : (withdrawMsix s vector).evr = s.evr := by
  unfold withdrawMsix
  split <;> rfl

theorem deliverMsix_evr (s : State) (src : Nat) : (deliverMsix s src).evr = s.evr := by
  unfold deliverMsix
  split
  · exact sendMsix_evr _ _
  · rfl

theorem secLog_evr (s : State) (kind : SecKind) (carrier detail : Nat) : (secLog s kind carrier detail).evr = s.evr :=
  (secLog_within (Within.refl secLogParts s) (Nat.or_self _)).evr (by decide)

/-- A notice to the Plinth adds to its notices alone (R467). -/
theorem notifyPlinth_evr (s : State) (src : Nat) :
    (notifyPlinth s src).evr = { s.evr with plinthNotices := (notifyPlinth s src).evr.plinthNotices } := by
  unfold notifyPlinth
  split
  · rfl
  · rw [secLog_evr]

theorem deliverPlinth_evr (s : State) (src : Nat) :
    (deliverPlinth s src).evr = { s.evr with plinthNotices := (deliverPlinth s src).evr.plinthNotices } := by
  unfold deliverPlinth
  split
  · exact notifyPlinth_evr s src
  · rfl

/-! ## What is pending -/

theorem pending_setPending (s : State) (src : Nat) :
    (setPending s src).evr.pending = if s.evr.pending.contains src then s.evr.pending else src :: s.evr.pending := by
  unfold setPending
  split
  · rfl
  · rw [deliverPlinth_evr, deliverMsix_evr]

theorem staged_setPending (s : State) (src : Nat) : (setPending s src).evr.staged = s.evr.staged := by
  unfold setPending
  split
  · rfl
  · rw [deliverPlinth_evr, deliverMsix_evr]

theorem mem_pending_setPending {s : State} {src x : Nat} :
    x ∈ (setPending s src).evr.pending ↔ x = src ∨ x ∈ s.evr.pending := by
  rw [pending_setPending]
  split
  · next h => exact ⟨Or.inr, fun hx => hx.elim (fun he => he ▸ List.contains_iff_mem.mp h) id⟩
  · exact List.mem_cons

theorem mem_pending_clearPending {s : State} {src x : Nat} :
    x ∈ (clearPending s src).evr.pending ↔ x ∈ s.evr.pending ∧ x ≠ src := by
  simp [clearPending]

theorem contains_clearPending (s : State) (src : Nat) : (clearPending s src).evr.pending.contains src = false := by
  simp [clearPending]

/-! ## Route entries that wait (R72) -/

theorem staged_setRoute (s : State) (src : Nat) (w : Word) : (setRoute s src w).evr.staged = s.evr.staged := by
  have hsent : ∀ u : State, ∀ c d : Prop, ∀ [Decidable c] [Decidable d], ∀ a b : Nat,
      (if c then sendMsix u a else if d then withdrawMsix u b else u).evr.staged = u.evr.staged := by
    intro u c d _ _ a b
    split_ifs
    · rw [sendMsix_evr]
    · rw [withdrawMsix_evr]
    · rfl
  unfold setRoute
  extract_lets -merge -useContext old router routed sent
  have hs : sent.evr.staged = s.evr.staged := hsent routed _ _ _ _
  split_ifs
  · rw [notifyPlinth_evr]
    exact hs
  · exact hs
  · rfl

/-- Once a message has arrived no route entry waits (R55, R72). -/
theorem staged_applyRoutes (s : State) : (applyRoutes s).evr.staged = [] := by
  have hfold : ∀ (l : List (Nat × Word)) (u : State),
      (l.foldl (fun s x => setRoute s x.1 x.2) u).evr.staged = u.evr.staged := by
    intro l
    induction l with
    | nil => exact fun u => rfl
    | cons x l ih => exact fun u => (ih _).trans (staged_setRoute u x.1 x.2)
  exact hfold _ _

/-- The entry accepted last is the one that RT_DATA shows. -/
theorem routeAccepted_stageRoute (s : State) (src : Nat) (w : Word) : routeAccepted (stageRoute s src w) src = w := by
  have hold : (s.evr.staged.filter fun x => x.1 != src).find? (fun x => x.1 == src) = none := by
    simp [List.find?_eq_none]
  simp [routeAccepted, stageRoute, List.find?_append, hold]

/-! ## Messages (R70) -/

/-- A set message is taken: the entries that waited are in force, and the source they put first is pending. -/
theorem takeSetMessage_complete {s : State} (h : (nextSet s).isSome = true) :
    (∀ src, nextSet (applyRoutes s) = some src → src ∈ (takeSetMessage s).evr.pending) ∧
      (takeSetMessage s).evr.staged = [] := by
  obtain ⟨first, hfirst⟩ := Option.isSome_iff_exists.mp h
  unfold takeSetMessage
  rw [hfirst]
  refine ⟨fun src hsrc => ?_, ?_⟩
  · simp only [hsrc, Option.getD_some]
    exact mem_pending_setPending.mpr (Or.inl rfl)
  · rw [staged_setPending]
    exact staged_applyRoutes s

theorem takeClearMessage_complete {s : State} {src : Nat}
    (h : (s.evr.messages.find? (fun (x : Nat × Bool) => x.1 == src)).map Prod.snd = some false) :
    (takeClearMessage s src).evr.pending.contains src = false := by
  obtain ⟨⟨y, b⟩, hfind, rfl⟩ := Option.map_eq_some_iff.mp h
  unfold takeClearMessage
  rw [hfind]
  exact contains_clearPending _ _

/-! ## Software events (R71) -/

/-- A fold reaches what one of its elements brings about and the others keep. -/
theorem foldl_establishes {α : Type} {f : State → α → State} {P : State → Prop} {x : α}
    (keeps : ∀ s y, P s → P (f s y)) (brings : ∀ s, P (f s x)) :
    ∀ (l : List α) (s : State), x ∈ l → P (l.foldl f s) := by
  have hkeep : ∀ (l : List α) (s : State), P s → P (l.foldl f s) := by
    intro l
    induction l with
    | nil => exact fun s h => h
    | cons y l ih => exact fun s h => ih _ (keeps s y h)
  intro l
  induction l with
  | nil => exact fun s h => absurd h List.not_mem_nil
  | cons y l ih =>
    intro s h
    rcases List.mem_cons.mp h with rfl | h
    · exact hkeep l _ (brings s)
    · exact ih _ h

theorem mem_orderInsert {s : State} {x z : Nat} {l : List Nat} : z ∈ orderInsert s x l ↔ z = x ∨ z ∈ l := by
  induction l with
  | nil => simp [orderInsert]
  | cons y l ih =>
    unfold orderInsert
    split
    · exact List.mem_cons
    · rw [List.mem_cons, ih, List.mem_cons]
      exact or_left_comm

/-- The order of delivery leaves out no source. -/
theorem mem_deliveryOrder {s : State} {z : Nat} {l : List Nat} : z ∈ deliveryOrder s l ↔ z ∈ l := by
  unfold deliveryOrder
  induction l with
  | nil => rfl
  | cons x l ih => rw [List.foldr_cons, mem_orderInsert, ih, List.mem_cons]

theorem mem_pending_softwareSet {s : State} {mask n : Nat} (hn : n < 16) (h : testBit mask n = true) :
    1520 + n ∈ (softwareSet s mask).evr.pending := by
  unfold softwareSet
  refine foldl_establishes (f := setPending) (x := 1520 + n) (P := fun u => 1520 + n ∈ u.evr.pending)
    (fun u y hu => mem_pending_setPending.mpr (Or.inr hu)) (fun u => mem_pending_setPending.mpr (Or.inl rfl)) _ _ ?_
  rw [mem_deliveryOrder]
  exact List.mem_map.mpr ⟨n, List.mem_filter.mpr ⟨List.mem_range.mpr hn, h⟩, rfl⟩

theorem not_mem_pending_softwareClear {s : State} {mask n : Nat} (hn : n < 16) (h : testBit mask n = true) :
    1520 + n ∉ (softwareClear s mask).evr.pending := by
  unfold softwareClear
  refine foldl_establishes (P := fun u => 1520 + n ∉ u.evr.pending) (x := n) (fun u y hu => ?_) (fun u => ?_) _ _
    (List.mem_range.mpr hn)
  · dsimp only
    split
    · exact fun hm => hu (mem_pending_clearPending.mp hm).1
    · exact hu
  · simp only [h, if_true]
    exact fun hm => (mem_pending_clearPending.mp hm).2 rfl

/-! ## Registers of EVR -/

theorem strobeOnly_swSet : StrobeOnly .evr EVR.SW_SET.SET.off EVR.SW_SET.SET := by
  constructor <;> decide +kernel

theorem strobeOnly_swClr : StrobeOnly .evr EVR.SW_CLR.CLR.off EVR.SW_CLR.CLR := by
  constructor <;> decide +kernel

/-- The bits a software event register takes from a write of a 16-bit mask. -/
theorem testBit_extract_mask (mask : BitVec 16) (n : Fin 16) :
    testBit (extract (mask.setWidth 32) 0 16) n.val = mask.getLsbD n.val := by
  have hbit : ∀ v i, testBit v i = v.testBit i := fun v i => by
    rw [testBit, Nat.testBit_eq_decide_div_mod_eq, Nat.shiftRight_eq_div_pow]
  rw [hbit, testBit_extract]
  simp [n.isLt]
  omega

/-! ## The router's routes across the journal -/

/-- The route entries in force are kept. -/
def RoutesKept (s t : State) : Prop := t.evr.routes = s.evr.routes

theorem RoutesKept.trans {s t u : State} (h : RoutesKept s t) (g : RoutesKept t u) : RoutesKept s u := Eq.trans g h

theorem RoutesKept.ite {s x y : State} {c : Prop} [Decidable c] (hx : RoutesKept s x) (hy : RoutesKept s y) :
    RoutesKept s (if c then x else y) := by
  split <;> assumption

theorem RoutesKept.of_within {K : Nat} {s t : State} (h : Within K s t) (hk : K.testBit 5 = false) : RoutesKept s t :=
  congrArg EventRouter.routes (h.evr hk)

/-- An event sends a message and leaves the routes. -/
theorem RoutesKept.raise {s t : State} (h : RoutesKept s t) (p : Page) (b : Nat) : RoutesKept s (t.raise p b) := h

theorem RoutesKept.addSat {s t : State} (h : RoutesKept s t) (p : Page) (f : Field) (n : Nat) :
    RoutesKept s (t.addSat p f n) := h

theorem RoutesKept.upd_journal {s t : State} (h : RoutesKept s t) (x : Journal) : RoutesKept s { t with journal := x } := h

/-- An entry advances the journal and CJ's registers, and may raise RESERVE. -/
theorem enterEntry_routesKept (s : State) (addr : Nat) (old new info : Word) :
    RoutesKept s (enterEntry s addr old new info) := by
  unfold enterEntry
  extract_lets -merge -useContext seqNo link bytes head e journal chained counted filled signed reserve
  have hchained : Within entryParts s chained := Within.upd_journal (Within.refl _ _) (by decide) _
  clear_value chained
  have hfilled : Within entryParts s filled :=
    State.set_within (State.setPair_within hchained (by decide)) (by decide)
  clear_value filled
  have hsigned : Within entryParts s signed :=
    Within.ite (requestSignature_within hfilled (by decide)) hfilled
  clear_value signed
  have hkept : RoutesKept s signed := RoutesKept.of_within hsigned (by decide)
  exact RoutesKept.ite ((hkept.upd_journal _).raise _ _) hkept

theorem spillJournal_routesKept (s : State) (n : Nat) : RoutesKept s (spillJournal s n) := by
  unfold spillJournal
  extract_lets -merge -useContext spilled counted
  have hspilled : RoutesKept s spilled.1 :=
    RoutesKept.of_within (spillEntries_within (Within.refl spillParts s) (Nat.or_self _)) (by decide)
  clear_value spilled
  have hcounted : RoutesKept s counted := hspilled.addSat _ _ _
  clear_value counted
  exact RoutesKept.ite hspilled ((hcounted.trans (enterEntry_routesKept _ _ _ _ _)).raise _ _)

theorem appendEntry_routesKept (s : State) (addr : Nat) (old new info : Word) :
    RoutesKept s (appendEntry s addr old new info) := by
  unfold appendEntry
  exact RoutesKept.trans (RoutesKept.ite (spillJournal_routesKept _ _) rfl) (enterEntry_routesKept _ _ _ _ _)

/-- The record of a write leaves the routes of EVR. -/
theorem recorded_routesKept (o : Origin) (p : Page) (off : Nat) (v : Word) (env : List Int) (s : State) :
    RoutesKept s (recorded o p off v env s) := by
  have hstore : RoutesKept s (storeWrite p off v s) := by
    unfold storeWrite
    exact RoutesKept.ite rfl (RoutesKept.ite rfl rfl)
  have hcounted : RoutesKept s ((storeWrite p off v s).addWrap p HDR.SEQ.COUNT 1) := hstore
  exact hcounted.trans (appendEntry_routesKept _ _ _ _ _)

end Sys2Proof.Architecture
end

section
/-! SUPPORT. The semaphores of ARM (R25 to R28) and writes of their registers. -/
namespace Sys2Proof.Architecture

open Sys2Proof Sys2Proof.Machine Sys2Proof.Safety

/-! ## Semaphores of a state -/

theorem semaphore_of_semaphores {s t : State} (h : t.semaphores = s.semaphores) (k : Nat) : semaphore t k = semaphore s k := by
  rw [semaphore, semaphore, h]

theorem semWord_of_semaphores {s t : State} (h : t.semaphores = s.semaphores) (o : Origin) (k : Nat) :
    semWord t o k = semWord s o k := by
  rw [semWord, semWord, semaphore_of_semaphores h]

theorem highestLevel_of_semaphores {s t : State} (h : t.semaphores = s.semaphores) (o : Origin) :
    highestLevel t o = highestLevel s o := by
  simp only [highestLevel, semaphore_of_semaphores h]

theorem semaphore_setSemaphore_same (s : State) (n : Fin 64) (x : Semaphore) :
    semaphore (setSemaphore s n.val x) n.val = x := by
  simp [semaphore, setSemaphore, Vector.getD]

theorem semaphore_setSemaphore_other (s : State) {n k : Nat} (x : Semaphore) (h : n ≠ k) :
    semaphore (setSemaphore s n x) k = semaphore s k := by
  simp [semaphore, setSemaphore, Vector.getD, Array.getElem?_setIfInBounds_ne h]

/-- A semaphore that gets its own holder back leaves every holder. -/
theorem holder_setSemaphore_of_holder {s : State} {n : Fin 64} {x : Semaphore} (h : x.holder = (semaphore s n.val).holder)
    (k : Nat) : (semaphore (setSemaphore s n.val x) k).holder = (semaphore s k).holder := by
  by_cases hk : n.val = k
  · rw [← hk, semaphore_setSemaphore_same, h]
  · rw [semaphore_setSemaphore_other s x hk]

/-! ## Acquire and release -/

/-- A free semaphore above all that its origin holds is granted (R26). -/
theorem holder_semAcquire_granted {s : State} {o : Origin} {n : Fin 64} (hfree : (semaphore s n.val).holder = none)
    (horder : highestLevel s o < semLevel n.val) : (semaphore (semAcquire o n.val s) n.val).holder = some o := by
  simp only [semAcquire, hfree, if_neg (Nat.not_le.mpr horder)]
  rw [semaphore_setSemaphore_same]
  rfl

/-- One not above them is refused for its order (R26). -/
theorem semAcquire_refused {s : State} {o : Origin} {n : Nat} (h : semLevel n ≤ highestLevel s o) :
    semAcquire o n s =
      (((setSemaphore s n (semResult (semaphore s n) o 3)).bump .arm ARM.SEM_REFUSE.ORDER_CNT).set .arm
        ARM.SEM_REFUSE.LAST_SEM n).set .arm ARM.SEM_REFUSE.LAST_ORIGIN o.code := by
  simp only [semAcquire, if_pos h]

theorem semRelease_held {s : State} {o : Origin} {n : Nat} (h : (semaphore s n).holder = some o) :
    semRelease o n s = setSemaphore s n (semResult { semaphore s n with holder := none } o 0) := by
  simp only [semRelease, if_pos h]

theorem semaphore_semAcquire_refused {s : State} {o : Origin} {n : Fin 64} (h : semLevel n.val ≤ highestLevel s o) (k : Nat) :
    semaphore (semAcquire o n.val s) k =
      semaphore (setSemaphore s n.val (semResult (semaphore s n.val) o 3)) k := by
  rw [semAcquire_refused h]
  rfl

/-- A refusal leaves every holder. -/
theorem holder_semAcquire_refused {s : State} {o : Origin} {n : Fin 64} (h : semLevel n.val ≤ highestLevel s o) (k : Nat) :
    (semaphore (semAcquire o n.val s) k).holder = (semaphore s k).holder := by
  rw [semaphore_semAcquire_refused h]
  exact holder_setSemaphore_of_holder (x := semResult (semaphore s n.val) o 3) rfl k

/-- A refusal is counted. -/
theorem orderCnt_semAcquire_refused {s : State} {o : Origin} {n : Nat} (h : semLevel n ≤ highestLevel s o) :
    (semAcquire o n s).get .arm ARM.SEM_REFUSE.ORDER_CNT =
      min (s.get .arm ARM.SEM_REFUSE.ORDER_CNT + 1) (2 ^ ARM.SEM_REFUSE.ORDER_CNT.width - 1) := by
  rw [semAcquire_refused h,
    get_set_disjoint _ _ ARM.SEM_REFUSE.LAST_ORIGIN ARM.SEM_REFUSE.ORDER_CNT _ rfl (by decide) (by decide),
    get_set_disjoint _ _ ARM.SEM_REFUSE.LAST_SEM ARM.SEM_REFUSE.ORDER_CNT _ rfl (by decide) (by decide),
    get_bump_same _ _ _ (by decide)]
  rfl

/-! ## The registers SEMn -/

theorem origin_code_lt (o : Origin) : o.code < 14 := by
  cases o with
  | rk n => simp only [Origin.code]; omega
  | _ => decide

/-- RESULT is what the origin's last command to the semaphore answered (R27). -/
theorem extract_result_semWord {s : State} {o : Origin} {n : Fin 64} {r : Nat} {rest : List (Nat × Nat)} (hr : r < 4)
    (h : (semaphore s n.val).results = (o.code, r) :: rest) :
    extract (BitVec.ofNat 32 (semWord s o n.val)) ARM.SEM.RESULT.lo ARM.SEM.RESULT.width = r := by
  have hfind : ((semaphore s n.val).results.find? fun e => e.1 == o.code) = some (o.code, r) := by simp [h]
  have hword : ∃ held, held < 32 ∧ semWord s o n.val = r * 0x40000 + n.val / 8 * 0x100 + held := by
    simp only [semWord, hfind]
    split
    · next holder _ =>
      have hcode := origin_code_lt holder
      exact ⟨holder.code * 2 + 1, by omega, rfl⟩
    · exact ⟨0, by decide, rfl⟩
  obtain ⟨held, hheld, hword⟩ := hword
  have hn := n.isLt
  simp only [hword, extract, ARM.SEM.RESULT, BitVec.toNat_ofNat, Nat.shiftRight_eq_div_pow]
  omega

theorem fieldsAt_sem : ∀ n : Fin 64, fieldsAt .arm (ARM.SEM.CMD.at n.val).off =
    [ARM.SEM.RESULT.at n.val, ARM.SEM.CMD.at n.val, ARM.SEM.LEVEL.at n.val, ARM.SEM.HOLDER.at n.val,
      ARM.SEM.HELD.at n.val] := by decide +kernel

/-- CMD is all that a write of SEMn carries. -/
theorem strobeOnly_sem (n : Fin 64) : StrobeOnly .arm (ARM.SEM.CMD.at n.val).off (ARM.SEM.CMD.at n.val) where
  strobe := by rw [fieldsOf, fieldsAt_sem]; rfl
  clears := by rw [fieldsOf, fieldsAt_sem]; rfl
  live := by rw [fieldsOf, fieldsAt_sem]; rfl
  stopOnly := by rw [fieldsOf, fieldsAt_sem]; rfl
  plinth := by rw [fieldsOf, fieldsAt_sem]; rfl
  block := show 0x40 ≤ 0x100 + 4 * n.val by omega
  fits := show 16 + 2 ≤ 32 by decide

/-- The address of SEMn in its page. -/
theorem semOffset (n : Fin 64) : (ARM.SEM.CMD.at n.val).off = 0x100 + 4 * n.val := rfl

/-- What a read of SEMn shows (R27). -/
theorem shownWord_sem (s : State) (o : Origin) (n : Fin 64) :
    shownWord s o .arm (ARM.SEM.CMD.at n.val).off = BitVec.ofNat 32 (semWord s o n.val) := by
  have hn := n.isLt
  have hview : ∀ w, viewWord s o .arm (ARM.SEM.CMD.at n.val).off w = BitVec.ofNat 32 (semWord s o n.val) := by
    intro w
    have hoff : 0x100 ≤ 0x100 + 4 * n.val ∧ 0x100 + 4 * n.val < 0x200 := by omega
    have hindex : (0x100 + 4 * n.val - 0x100) / 4 = n.val := by omega
    simp only [viewWord, semOffset, if_pos hoff, hindex]
  have hpend : (ARM.SEM.CMD.at n.val).off ≠ HDR.EVT_PEND.PEND.off := by simp [semOffset, HDR.EVT_PEND.PEND]; omega
  rw [shownWord, if_neg hpend, hview, acceptedOver, (strobeOnly_sem n).live]
  split <;> rfl

/-! ## Commands to SEMn -/

/-- The parts of the state that a command to a semaphore can change. -/
def semParts : Nat := 1267650902533473534348160401584

/-- The effect of a write of SEMn is the command it carries (R26, R27). -/
theorem writeEffect_sem {o : Origin} {n : Fin 64} {w old : Word} {cmd : Nat} {env : List Int} {s : State} (hcmd : cmd < 4) :
    writeEffect o .arm (ARM.SEM.CMD.at n.val).off old (overlay w (ARM.SEM.CMD.at n.val) cmd) env s =
      semCommand o n.val cmd s := by
  have hn := n.isLt
  have hsent : extract (newWord .arm (ARM.SEM.CMD.at n.val).off old (overlay w (ARM.SEM.CMD.at n.val) cmd))
      ARM.SEM.CMD.lo 2 = cmd :=
    ((strobeOnly_sem n).extract_newWord old _).trans
      ((extract_overlay_same w _ cmd (strobeOnly_sem n).fits).trans (Nat.mod_eq_of_lt hcmd))
  have hhead : ¬ (ARM.SEM.CMD.at n.val).off < 0x40 := by simp [semOffset]; omega
  have hoff : 0x100 ≤ (ARM.SEM.CMD.at n.val).off ∧ (ARM.SEM.CMD.at n.val).off < 0x200 := by simp only [semOffset]; omega
  have hindex : ((ARM.SEM.CMD.at n.val).off - 0x100) / 4 = n.val := by simp only [semOffset]; omega
  simp only [writeEffect, if_neg hhead, liveWaits, hasBoundary, Bool.and_false, Bool.false_and, Bool.false_eq_true, if_false,
    blockWritten, if_pos hoff, hindex, hsent]

/-- A command to SEMn that is taken ends with its effect on the record of the write. -/
theorem fieldWrite_sem {o : Origin} {n : Fin 64} {cmd : Nat} {s : State} (hcmd : cmd < 4)
    (h : TakesField o .arm (ARM.SEM.CMD.at n.val) cmd s) :
    fieldWrite o .arm (ARM.SEM.CMD.at n.val) cmd [] s =
      semCommand o n.val cmd (recorded o .arm (ARM.SEM.CMD.at n.val).off
        (overlay (plainWord .arm (ARM.SEM.CMD.at n.val).off (acceptedWord s .arm (ARM.SEM.CMD.at n.val).off))
          (ARM.SEM.CMD.at n.val) cmd) [] s) := by
  have hn := n.isLt
  rw [fieldWrite, busWrite_of_takes (K := semParts) (by simp only [semOffset]; omega) h ?_ (by decide) (by decide)
    (by decide), writeEffect_sem hcmd]
  rw [acceptWrite_eq, writeEffect_sem hcmd]
  exact semCommand_within (recorded_within (by decide) (by decide)) (by decide)

/-- A command that writes SEMn ends in what `semCommand` makes of a state with the semaphores and the counts of refusals as
they were. -/
theorem ends_of_fieldWrite_sem {c : Instr} {o : Origin} {n : Fin 64} {cmd : Nat} {s : State} {P : State → Prop}
    (hcmd : cmd < 4) (h : TakesField o .arm (ARM.SEM.CMD.at n.val) cmd s)
    (hc : exec c s = endsIn s (fieldWrite o .arm (ARM.SEM.CMD.at n.val) cmd [] s))
    (hP : ∀ r t : State, r.semaphores = s.semaphores →
      r.get .arm ARM.SEM_REFUSE.ORDER_CNT = s.get .arm ARM.SEM_REFUSE.ORDER_CNT →
      t.semaphores = (semCommand o n.val cmd r).semaphores →
      (∀ f, t.get .arm f = (semCommand o n.val cmd r).get .arm f) → P t) : Ends c s P := by
  have hn := n.isLt
  refine ends_of_endsIn (hc.trans (congrArg (endsIn s) (fieldWrite_sem hcmd h))) (hP _ _ ?_ ?_ rfl fun _ => rfl)
  · exact (recorded_within (K := recordParts ||| pageBit .arm) (by decide) (by decide)).semaphores (by decide)
  · refine get_recorded (by decide) ?_ (by decide)
    simp only [semOffset, ARM.SEM_REFUSE.ORDER_CNT]
    omega

/-- A release by its holder frees the semaphore (R27). -/
theorem semaphore_semRelease_held {s : State} {o : Origin} {n : Fin 64} (h : (semaphore s n.val).holder = some o) :
    (semaphore (semRelease o n.val s) n.val).holder = none := by
  rw [semRelease_held h, semaphore_setSemaphore_same]
  rfl

/-- It leaves the other semaphores. -/
theorem semaphore_semRelease_other {s : State} {o : Origin} {n k : Nat} (h : n ≠ k) :
    semaphore (semRelease o n s) k = semaphore s k := by
  unfold semRelease
  dsimp only
  split
  · exact semaphore_setSemaphore_other _ _ h
  · rfl

/-- The result of an acquire out of order, as its origin reads it. -/
theorem result_semAcquire_refused {s : State} {o : Origin} {n : Fin 64} (h : semLevel n.val ≤ highestLevel s o) :
    extract (BitVec.ofNat 32 (semWord (semAcquire o n.val s) o n.val)) ARM.SEM.RESULT.lo ARM.SEM.RESULT.width = 3 := by
  refine extract_result_semWord (by decide) (rest := (semaphore s n.val).results.filter fun e => !(e.1 == o.code)) ?_
  rw [semaphore_semAcquire_refused h, semaphore_setSemaphore_same]
  rfl

/-- Settles O51: the write of SEMn leaves the semaphores to its command; an acquire out of order is answered 0b11, counted and
keeps every holder, a release frees its own semaphore alone. -/
theorem semaphoresAreTakenInOrder : Obligations.SemaphoresAreTakenInOrder := by
  refine ⟨fun o n s htakes horder => ?_, fun o n s htakes hheld => ?_⟩
  · refine ends_of_fieldWrite_sem (by decide) htakes rfl fun r t hsems hcount ht hget => ?_
    have hrefused : semLevel n.val ≤ highestLevel r o := by rwa [highestLevel_of_semaphores hsems]
    refine ⟨?_, ?_, fun k => ?_⟩
    · rw [show (ARM.SEM.RESULT.at n.val).off = (ARM.SEM.CMD.at n.val).off from rfl, shownWord_sem,
        semWord_of_semaphores ht]
      exact result_semAcquire_refused hrefused
    · rw [Counted, hget, ← hcount]
      exact orderCnt_semAcquire_refused hrefused
    · rw [semaphore_of_semaphores ht, ← semaphore_of_semaphores hsems]
      exact holder_semAcquire_refused hrefused k.val
  · refine ends_of_fieldWrite_sem (by decide) htakes rfl fun r t hsems _ ht _ => ⟨?_, fun k hk => ?_⟩
    · rw [semaphore_of_semaphores ht]
      exact semaphore_semRelease_held (by rwa [semaphore_of_semaphores hsems])
    · have hne : n.val ≠ k.val := fun h => hk (Fin.ext h.symm)
      rw [semaphore_of_semaphores ht, ← semaphore_of_semaphores hsems]
      exact congrArg Semaphore.holder (semaphore_semRelease_other hne)

end Sys2Proof.Architecture
end

section
/-! SUPPORT. Writes of EVR's registers and the settlement of the events and semaphores. -/
namespace Sys2Proof.Architecture

open Sys2Proof Sys2Proof.Machine Sys2Proof.Safety

/-- The parts of the state that a write of EVR can change. -/
def evrParts : Nat := 2535301502798596423993356451952

theorem recorded_evr_within {o : Origin} {off : Nat} {v : Word} {env : List Int} {s : State} :
    Within evrParts s (recorded o .evr off v env s) :=
  recorded_within (by decide) (by decide)

/-- The effect of a write of RT_DATA is an entry that waits (R72). -/
theorem writeEffect_rtData (o : Origin) (old v : Word) (env : List Int) (s : State) :
    writeEffect o .evr EVR.RT_DATA.VECTOR.off old v env s =
      stageRoute s (s.get .evr EVR.RT_INDEX.INDEX) (newWord .evr EVR.RT_DATA.VECTOR.off old v) := rfl

/-- The effect of a write of SW_SET or SW_CLR is on the sources its mask names (R71). -/
theorem writeEffect_swSet (o : Origin) (mask : BitVec 16) (old : Word) (env : List Int) (s : State) :
    writeEffect o .evr EVR.SW_SET.SET.off old (mask.setWidth 32) env s =
      softwareSet s (extract (mask.setWidth 32) 0 16) :=
  congrArg (softwareSet s) (strobeOnly_swSet.extract_newWord old (mask.setWidth 32))

theorem writeEffect_swClr (o : Origin) (mask : BitVec 16) (old : Word) (env : List Int) (s : State) :
    writeEffect o .evr EVR.SW_CLR.CLR.off old (mask.setWidth 32) env s =
      softwareClear s (extract (mask.setWidth 32) 0 16) :=
  congrArg (softwareClear s) (strobeOnly_swClr.extract_newWord old (mask.setWidth 32))

/-- A write of EVR that is taken ends with its effect on the record. -/
theorem wordWrite_evr {o : Origin} {off : Nat} {w : Word} {s u : State} (hoff : off < 0x1000) (h : Takes o .evr off w s)
    (heffect : writeEffect o .evr off (shownWord s o .evr off) w [] (recorded o .evr off w [] s) = u)
    (hu : Within evrParts s u) : wordWrite o .evr off w s = u :=
  (busWrite_of_takes hoff h (by rwa [acceptWrite_eq, heffect]) (by decide) (by decide) (by decide)).trans heffect

theorem wordWrite_rtData {o : Origin} {w : Word} {s : State} (h : Takes o .evr EVR.RT_DATA.VECTOR.off w s) :
    wordWrite o .evr EVR.RT_DATA.VECTOR.off w s =
      stageRoute (recorded o .evr EVR.RT_DATA.VECTOR.off w [] s) (s.get .evr EVR.RT_INDEX.INDEX)
        (newWord .evr EVR.RT_DATA.VECTOR.off (shownWord s o .evr EVR.RT_DATA.VECTOR.off) w) := by
  have hindex : (recorded o .evr EVR.RT_DATA.VECTOR.off w [] s).get .evr EVR.RT_INDEX.INDEX =
      s.get .evr EVR.RT_INDEX.INDEX := get_recorded (by decide) (by decide) (by decide)
  exact wordWrite_evr (by decide) h (by rw [writeEffect_rtData, hindex])
    (stageRoute_within recorded_evr_within (by decide))

theorem wordWrite_swSet {o : Origin} {mask : BitVec 16} {s : State}
    (h : Takes o .evr EVR.SW_SET.SET.off (mask.setWidth 32) s) :
    wordWrite o .evr EVR.SW_SET.SET.off (mask.setWidth 32) s =
      softwareSet (recorded o .evr EVR.SW_SET.SET.off (mask.setWidth 32) [] s) (extract (mask.setWidth 32) 0 16) :=
  wordWrite_evr (by decide) h (writeEffect_swSet _ _ _ _ _) (softwareSet_within recorded_evr_within (by decide))

theorem wordWrite_swClr {o : Origin} {mask : BitVec 16} {s : State}
    (h : Takes o .evr EVR.SW_CLR.CLR.off (mask.setWidth 32) s) :
    wordWrite o .evr EVR.SW_CLR.CLR.off (mask.setWidth 32) s =
      softwareClear (recorded o .evr EVR.SW_CLR.CLR.off (mask.setWidth 32) [] s) (extract (mask.setWidth 32) 0 16) :=
  wordWrite_evr (by decide) h (writeEffect_swClr _ _ _ _ _) (softwareClear_within recorded_evr_within (by decide))

theorem routeAccepted_of_evr {s t : State} (h : t.evr = s.evr) (src : Nat) : routeAccepted t src = routeAccepted s src := by
  simp only [routeAccepted, route, h]

theorem routes_stageRoute (s : State) (src : Nat) (w : Word) : (stageRoute s src w).evr.routes = s.evr.routes := rfl

/-! ## An event of a page -/

theorem setBit_lt {v b k : Nat} (hv : v < 2 ^ k) (hb : b < k) : setBit v b < 2 ^ k :=
  Nat.or_lt_two_pow hv (by rw [Nat.one_shiftLeft]; exact Nat.pow_lt_pow_right (by decide) hb)

/-- An event sets its bit of EVT_RAW (R68). -/
theorem evtRaw_raise (s : State) (p : Page) {b : Nat} (hb : b < 16) :
    (s.raise p b).get p HDR.EVT_RAW.EVT = setBit (s.get p HDR.EVT_RAW.EVT) b := by
  have hset : (s.raise p b).get p HDR.EVT_RAW.EVT =
      (s.set p HDR.EVT_RAW.EVT (setBit (s.get p HDR.EVT_RAW.EVT) b)).get p HDR.EVT_RAW.EVT := rfl
  have hlt : setBit (s.get p HDR.EVT_RAW.EVT) b < 2 ^ HDR.EVT_RAW.EVT.width :=
    setBit_lt (k := HDR.EVT_RAW.EVT.width) (extract_lt _ _ _) hb
  rw [hset, get_set_same _ _ _ _ (by decide), Nat.mod_eq_of_lt hlt]

/-- Settles O11: each command is its operation on the state, or on the record of its write, and the lemmas about the router
and the semaphores say what that leaves. -/
theorem eventAndSemaphoreCommandsComplete : Obligations.EventAndSemaphoreCommandsComplete := by
  refine ⟨fun s hnext => ?_, fun src s hfind => ?_, fun o w s htakes => ?_, fun o mask s htakes => ?_,
    fun o mask s htakes => ?_, fun o n s htakes hfree => ?_, fun o n s htakes hheld => ?_, fun o s ho => ?_⟩
  case refine_1 =>
    refine ends_of_evr (u := takeSetMessage s) rfl fun t ht => ?_
    rw [ht]
    exact takeSetMessage_complete hnext
  case refine_2 =>
    refine ends_of_evr (u := takeClearMessage s src) rfl fun t ht => ?_
    rw [ht]
    exact takeClearMessage_complete hfind
  case refine_3 =>
    refine ends_of_evr (congrArg (endsIn s) (wordWrite_rtData htakes)) fun t ht => ⟨?_, ?_⟩
    · rw [routeAccepted_of_evr ht, routeAccepted_stageRoute]
    · rw [ht, routes_stageRoute]
      exact recorded_routesKept o .evr _ w [] s
  case refine_4 =>
    refine ends_of_evr (congrArg (endsIn s) (wordWrite_swSet htakes)) fun t ht n hn => ?_
    rw [ht]
    exact List.contains_iff_mem.mpr (mem_pending_softwareSet n.isLt (by rw [testBit_extract_mask, hn]))
  case refine_5 =>
    refine ends_of_evr (congrArg (endsIn s) (wordWrite_swClr htakes)) fun t ht n hn => ?_
    rw [ht]
    exact Bool.eq_false_iff.mpr fun hm =>
      not_mem_pending_softwareClear n.isLt (by rw [testBit_extract_mask, hn]) (List.contains_iff_mem.mp hm)
  case refine_6 =>
    obtain ⟨hnone, horder⟩ := hfree
    refine ends_of_fieldWrite_sem (by decide) htakes rfl fun r t hsems _ ht _ => ?_
    rw [semaphore_of_semaphores ht]
    exact holder_semAcquire_granted (by rwa [semaphore_of_semaphores hsems]) (by rwa [highestLevel_of_semaphores hsems])
  case refine_7 =>
    refine ends_of_fieldWrite_sem (by decide) htakes rfl fun r t hsems _ ht _ => ?_
    rw [semaphore_of_semaphores ht]
    exact semaphore_semRelease_held (by rwa [semaphore_of_semaphores hsems])
  case refine_8 =>
    have hreport : execVcViolation o s = endsIn s ((s.countFabric 0x60 1).raise .arm ARM.EVT.VC_VIOLATION) := by
      simp only [execVcViolation, if_neg ho, vcViolation]
    exact ends_of_endsIn hreport (evtRaw_raise (s.countFabric 0x60 1) .arm (by decide))

end Sys2Proof.Architecture
end

section
/-! SUPPORT. Refused writes: what a refusal counts and journals, and the exclusion of carrier lock and 1+1 (R14). -/
namespace Sys2Proof.Architecture

open Sys2Proof Sys2Proof.Machine Sys2Proof.Safety

/-! ## The newest journal entry -/

/-- The newest entry of the journal of `t` has this ADDR, OLD, NEW, INFO and TIME_NS (R59). -/
def NewestEntry (addr : Nat) (old new info : Word) (timeNs : Nat) (t : State) : Prop :=
  Journalled addr old new info timeNs t

section newest

variable {addr timeNs : Nat} {old new info : Word}

theorem NewestEntry.of_buffer {s t : State} (h : NewestEntry addr old new info timeNs s)
    (hb : t.journal.buffer = s.journal.buffer) : NewestEntry addr old new info timeNs t := by
  rw [NewestEntry, Journalled, hb]
  exact h

theorem NewestEntry.ite {x y : State} {c : Prop} [Decidable c] (hx : NewestEntry addr old new info timeNs x)
    (hy : NewestEntry addr old new info timeNs y) : NewestEntry addr old new info timeNs (if c then x else y) := by
  split <;> assumption

theorem NewestEntry.raise {s : State} (h : NewestEntry addr old new info timeNs s) (p : Page) (b : Nat) :
    NewestEntry addr old new info timeNs (s.raise p b) := h

theorem NewestEntry.set {s : State} (h : NewestEntry addr old new info timeNs s) (p : Page) (f : Field) (v : Nat) :
    NewestEntry addr old new info timeNs (s.set p f v) := h

theorem NewestEntry.setPair {s : State} (h : NewestEntry addr old new info timeNs s) (p : Page) (lo hi : Field) (v : Nat) :
    NewestEntry addr old new info timeNs (s.setPair p lo hi v) := h

theorem NewestEntry.inReserve {s : State} (h : NewestEntry addr old new info timeNs s) (b : Bool) :
    NewestEntry addr old new info timeNs { s with journal := { s.journal with inReserve := b } } := h

/-- A request for a signature leaves the buffer. -/
theorem NewestEntry.requestSignature {s : State} (h : NewestEntry addr old new info timeNs s) (seqNo ns : Nat) :
    NewestEntry addr old new info timeNs (requestSignature s seqNo ns) := by
  unfold Machine.requestSignature
  dsimp only
  split <;> exact h

end newest

/-- An entry is the newest one of the journal it is put into. -/
theorem newestEntry_enterEntry (s : State) (addr : Nat) (old new info : Word) :
    NewestEntry addr old new info s.nowNs (enterEntry s addr old new info) := by
  unfold enterEntry
  extract_lets -merge -useContext seqNo link bytes head e journal chained counted filled signed reserve
  have hchained : NewestEntry addr old new info s.nowNs chained := by
    simp only [NewestEntry, Journalled, chained, List.getLast?_concat, Option.map_some, e]
  clear_value chained
  have hfilled : NewestEntry addr old new info s.nowNs filled := (hchained.setPair _ _ _ _).set _ _ _
  clear_value filled
  have hsigned : NewestEntry addr old new info s.nowNs signed := (hfilled.requestSignature _ _).ite hfilled
  clear_value signed
  exact ((hsigned.inReserve true).raise _ _).ite hsigned

/-- A refusal that is journalled is the newest entry, whatever the buffer spilled first (R51, R59, R63). -/
theorem newestEntry_journalRefused (s : State) (o : Origin) (addr : Nat) (old new : Word) (r : Reason) :
    NewestEntry addr old new (entryInfo s o.code .refused r.code) s.nowNs (journalRefused s o addr old new r) := by
  unfold journalRefused appendEntry
  extract_lets -merge -useContext spilled
  have htime : spilled.nowNs = s.nowNs :=
    (Within.ite (spillJournal_within (Within.refl journalParts s) (Nat.or_self _))
      (Within.refl _ s)).nowNs (by decide)
  clear_value spilled
  rw [← htime]
  exact newestEntry_enterEntry _ _ _ _ _

/-! ## The record of a refusal (R42, R51) -/

/-- The record of a refusal is in REFUSED_WR alone. -/
theorem word_noteRefused_off {o : Origin} {p q : Page} {off a : Nat} {r : Reason} {s : State}
    (h : HDR.REFUSED_WR.COUNT.off % 0x1000 ≠ a % 0x1000) : word (noteRefused o p off r s) q a = word s q a := by
  unfold noteRefused
  simp only [State.bump, State.addSat]
  rw [word_set_off _ _ _ HDR.REFUSED_WR.LAST_WORD _ _ h, word_set_off _ _ _ HDR.REFUSED_WR.LAST_ORIGIN _ _ h,
    word_set_off _ _ _ HDR.REFUSED_WR.LAST_REASON _ _ h, word_set_off _ _ _ HDR.REFUSED_WR.COUNT _ _ h]

theorem count_noteRefused (o : Origin) (p : Page) (off : Nat) (r : Reason) (s : State) :
    (noteRefused o p off r s).get p HDR.REFUSED_WR.COUNT =
      min (s.get p HDR.REFUSED_WR.COUNT + 1) (2 ^ HDR.REFUSED_WR.COUNT.width - 1) := by
  unfold noteRefused
  rw [get_set_disjoint _ _ HDR.REFUSED_WR.LAST_WORD HDR.REFUSED_WR.COUNT _ rfl (by decide) (by decide),
    get_set_disjoint _ _ HDR.REFUSED_WR.LAST_ORIGIN HDR.REFUSED_WR.COUNT _ rfl (by decide) (by decide),
    get_set_disjoint _ _ HDR.REFUSED_WR.LAST_REASON HDR.REFUSED_WR.COUNT _ rfl (by decide) (by decide),
    get_bump_same _ _ _ (by decide)]

theorem lastReason_noteRefused (o : Origin) (p : Page) (off : Nat) (r : Reason) (s : State) :
    (noteRefused o p off r s).get p HDR.REFUSED_WR.LAST_REASON = r.code := by
  unfold noteRefused
  rw [get_set_disjoint _ _ HDR.REFUSED_WR.LAST_WORD HDR.REFUSED_WR.LAST_REASON _ rfl (by decide) (by decide),
    get_set_disjoint _ _ HDR.REFUSED_WR.LAST_ORIGIN HDR.REFUSED_WR.LAST_REASON _ rfl (by decide) (by decide),
    get_set_same _ _ _ _ (by decide)]
  cases r <;> rfl

theorem lastOrigin_noteRefused (o : Origin) (p : Page) (off : Nat) (r : Reason) (s : State) :
    (noteRefused o p off r s).get p HDR.REFUSED_WR.LAST_ORIGIN = o.code := by
  have hcode := origin_code_lt o
  unfold noteRefused
  rw [get_set_disjoint _ _ HDR.REFUSED_WR.LAST_WORD HDR.REFUSED_WR.LAST_ORIGIN _ rfl (by decide) (by decide),
    get_set_same _ _ _ _ (by decide)]
  exact Nat.mod_eq_of_lt (hcode.trans (by decide))

theorem lastWord_noteRefused {o : Origin} {p : Page} {off : Nat} {r : Reason} {s : State} (hoff : off < 0x1000) :
    (noteRefused o p off r s).get p HDR.REFUSED_WR.LAST_WORD = off / 4 := by
  unfold noteRefused
  rw [get_set_same _ _ _ _ (by decide)]
  exact Nat.mod_eq_of_lt (show off / 4 < 2 ^ 10 by omega)

/-- A write refused for a rule of its page, in the page's record and then in the journal. -/
theorem refuseWrite_modeConflict (o : Origin) (p : Page) (off : Nat) (v : Word) (s : State) :
    refuseWrite o p off v .modeConflict s =
      journalRefused (noteRefused o p off .modeConflict (s.countFabric 0x69 1)) o (pageBase p + off)
        (shownWord (s.countFabric 0x69 1) o p off) v .modeConflict := by
  simp only [refuseWrite]

/-- It leaves every other register of a page that the journal leaves. -/
theorem word_refuseWrite_off {o : Origin} {p q : Page} {off a : Nat} {v : Word} {s : State}
    (hq : pageBit q &&& journalParts = 0) (h : HDR.REFUSED_WR.COUNT.off % 0x1000 ≠ a % 0x1000) :
    word (refuseWrite o p off v .modeConflict s) q a = word s q a := by
  rw [refuseWrite_modeConflict,
    (journalRefused_within (Within.refl journalParts _) (Nat.or_self _)).page q a hq, word_noteRefused_off h]
  rfl

/-- A refusal with MODE_CONFLICT is counted, described and journalled (R51, R59). -/
theorem refused_modeConflict {o : Origin} {p : Page} {off : Nat} {v : Word} {s : State} (hoff : off < 0x1000)
    (hp : pageBit p &&& journalParts = 0)
    (hshown : shownWord (s.countFabric 0x69 1) o p off = shownWord s o p off) :
    Refused .modeConflict o p off v s (refuseWrite o p off v .modeConflict s) := by
  have hcount : ∀ f, (s.countFabric 0x69 1).get p f = s.get p f := fun _ => rfl
  have hinfo : entryInfo (noteRefused o p off .modeConflict (s.countFabric 0x69 1)) o.code .refused Reason.modeConflict.code =
      entryInfo s o.code .refused Reason.modeConflict.code := by
    have htb : ∀ f : Field, HDR.REFUSED_WR.COUNT.off % 0x1000 ≠ f.off % 0x1000 →
        (noteRefused o p off .modeConflict (s.countFabric 0x69 1)).get .tb f = s.get .tb f :=
      fun f hf => (get_of_word (word_noteRefused_off hf)).trans rfl
    rw [entryInfo, entryInfo, htb TB.STAT.TB_VALID (by decide), htb TB.STAT.TB_EXTRAPOLATED (by decide)]
  have hnew := newestEntry_journalRefused (noteRefused o p off .modeConflict (s.countFabric 0x69 1)) o (pageBase p + off)
    (shownWord s o p off) v .modeConflict
  rw [hinfo] at hnew
  rw [refuseWrite_modeConflict, hshown]
  have hrecord : ∀ f, (journalRefused (noteRefused o p off .modeConflict (s.countFabric 0x69 1)) o (pageBase p + off)
      (shownWord s o p off) v .modeConflict).get p f =
        (noteRefused o p off .modeConflict (s.countFabric 0x69 1)).get p f :=
    get_of_within (journalRefused_within (Within.refl journalParts _) (Nat.or_self _)) hp
  refine ⟨?_, ?_, ?_, ?_, hnew⟩
  · rw [Counted, hrecord, count_noteRefused, hcount]
  · rw [hrecord, lastReason_noteRefused]
  · rw [hrecord, lastOrigin_noteRefused]
  · rw [hrecord, lastWord_noteRefused hoff]

/-- What a refusal leaves is in the registers and the journal. -/
theorem refused_of_get {r : Reason} {o : Origin} {p : Page} {off : Nat} {w : Word} {s u t : State}
    (h : Refused r o p off w s u) (hj : t.journal = u.journal) (hg : ∀ q f, t.get q f = u.get q f) :
    Refused r o p off w s t := by
  simpa only [Refused, Counted, Journalled, hj, hg] using h

/-- The fields of the other registers are kept. -/
theorem get_refuseWrite_off {o : Origin} {p q : Page} {off : Nat} {f : Field} {v : Word} {s : State}
    (hq : pageBit q &&& journalParts = 0) (h : HDR.REFUSED_WR.COUNT.off % 0x1000 ≠ f.off % 0x1000) :
    (refuseWrite o p off v .modeConflict s).get q f = s.get q f :=
  get_of_word (word_refuseWrite_off hq h)

/-! ## MODE_CONFLICT (R49, step 6) -/

/-- Two states judge a write alike as far as the page's own rules (R49, steps 1 to 5, and R65). -/
structure JudgedAlike (o : Origin) (p : Page) (off : Nat) (s t : State) : Prop where
  journal : t.journal = s.journal
  selfTest : t.selfTest = s.selfTest
  owner : mayWrite t o p off = mayWrite s o p off
  shown : shownWord t o p off = shownWord s o p off
  stopOnly : ∀ old new, stopOnlyBad t p off old new = stopOnlyBad s p off old new

/-- A write that nothing but a conflict of the page's own refuses is refused with MODE_CONFLICT. -/
theorem writeReason_modeConflict {o : Origin} {p : Page} {off : Nat} {v : Word} {s t : State} (hoff : 0x40 ≤ off)
    (halike : JudgedAlike o p off s t) (hnone : writeReason t o p off v = .none)
    (hbad : modeConflictBad s o p off (shownWord s o p off) (newWord p off (shownWord s o p off) v) = true) :
    writeReason s o p off v = .modeConflict := by
  have hblock : ¬ off < 0x40 := Nat.not_lt.mpr hoff
  have hrun : off ≠ HDR.RUNCTL.CMD.off := by simp only [HDR.RUNCTL.CMD]; omega
  have hown : ownRefusal s o p off (shownWord s o p off) (newWord p off (shownWord s o p off) v) = .modeConflict := by
    simp only [ownRefusal, if_neg hrun, if_neg hblock, hbad, if_true]
  have hreserve : onlyReserve t = onlyReserve s := by rw [onlyReserve, onlyReserve, halike.journal]
  have htest : underTest t p = underTest s p := by rw [underTest, underTest, halike.selfTest]
  simp only [writeReason, hreserve, htest, halike.owner, halike.shown, halike.stopOnly] at hnone
  simp only [writeReason, hown]
  split_ifs at hnone ⊢
  rfl

/-- Setting a register of another page that judges nothing (R46, R357) leaves the judgement of a write. -/
theorem mayWrite_set {o : Origin} {p q : Page} {off v : Nat} {f : Field} {s : State} (hp : q ≠ p) (hpln : q ≠ .pln)
    (hhlk : q ≠ .hlk) : mayWrite (s.set q f v) o p off = mayWrite s o p off := by
  unfold mayWrite State.flag
  simp only [get_set_page s q p f _ v hp, get_set_page s q .pln f _ v hpln, get_set_page s q .hlk f _ v hhlk]

/-- LOCKCTL shows what is stored. -/
theorem shownWord_lockctl (s : State) (o : Origin) :
    shownWord s o .glb GLB.LOCKCTL.LOCK_EN.off = acceptedWord s .glb GLB.LOCKCTL.LOCK_EN.off := rfl

/-- So does CTL of RPS, its live fields as last accepted. -/
theorem shownWord_rpsCtl (s : State) (o : Origin) :
    shownWord s o .rps RPS.CTL.MODE.off = acceptedWord s .rps RPS.CTL.MODE.off := rfl

theorem acceptedWord_lockctl (s : State) : acceptedWord s .glb GLB.LOCKCTL.LOCK_EN.off = word s .glb GLB.LOCKCTL.LOCK_EN.off := by
  have hlive : fieldsOf .glb GLB.LOCKCTL.LOCK_EN.off .rwL = [] := by decide +kernel
  rw [acceptedWord, acceptedOver, hlive]
  split <;> rfl

/-- Of a register without strobes, the stop-only field that a write stores last reads as written. -/
theorem extract_newWord_stopOnly {p : Page} {off : Nat} {fs : List Field} {f : Field} (old v : Word) (hoff : 0x40 ≤ off)
    (hstrobe : fieldsOf p off .wo = []) (hplinth : fieldsOf p off .po = []) (hstop : fieldsOf p off .rwS = fs ++ [f])
    (hfits : f.lo + f.width ≤ 32) : extract (newWord p off old v) f.lo f.width = extract v f.lo f.width := by
  have howner : off ≠ HDR.OWNER.MASK.off := by simp only [HDR.OWNER.MASK]; omega
  have hset : off ≠ HDR.EVT_SET.SET.off := by simp only [HDR.EVT_SET.SET]; omega
  have hnone : strobes p off v = 0#32 := by
    rw [strobes, hstrobe, if_neg hset]
    rfl
  simp only [newWord, hnone, BitVec.or_zero, keptWord, hplinth, hstop, if_neg howner, takeFields, List.foldl_nil,
    List.foldl_append, List.foldl_cons]
  rw [extract_overlay_same _ _ _ hfits, Nat.mod_eq_of_lt (extract_lt _ _ _)]

/-- LOCK_EN after a write is as written. -/
theorem lockEn_newWord (old v : Word) : extract (newWord .glb GLB.LOCKCTL.LOCK_EN.off old v) 0 1 = extract v 0 1 :=
  extract_newWord_stopOnly (fs := [GLB.LOCKCTL.SKEW_MAX, GLB.LOCKCTL.SYN_SRC]) (f := GLB.LOCKCTL.LOCK_EN) old v (by decide)
    (by decide +kernel) (by decide +kernel) (by decide +kernel) (by decide)

/-- MODE of RPS after a write is as written. -/
theorem rpsMode_newWord (old v : Word) : extract (newWord .rps RPS.CTL.MODE.off old v) 0 2 = extract v 0 2 :=
  extract_newWord_stopOnly (fs := [RPS.CTL.GUARD, RPS.CTL.WORK]) (f := RPS.CTL.MODE) old v (by decide)
    (by decide +kernel) (by decide +kernel) (by decide +kernel) (by decide)

/-- RPS.CTL.MODE judges no write of LOCKCTL but by the rule of R14, and LOCK_EN none of CTL. -/
theorem judgedAlike_lockctl (o : Origin) (s : State) :
    JudgedAlike o .glb GLB.LOCKCTL.LOCK_EN.off s (s.set .rps RPS.CTL.MODE 0) where
  journal := rfl
  selfTest := rfl
  owner := mayWrite_set (by decide) (by decide) (by decide)
  shown := by
    rw [shownWord_lockctl, shownWord_lockctl, acceptedWord_lockctl, acceptedWord_lockctl, State.set,
      word_setWord_page _ _ _ _ _ _ (by decide)]
  stopOnly := fun old new => by
    simp only [stopOnlyBad, State.stopped, State.run, get_set_page s .rps .glb _ _ _ (by decide)]

theorem judgedAlike_rpsCtl (o : Origin) (s : State) :
    JudgedAlike o .rps RPS.CTL.MODE.off s (s.set .glb GLB.LOCKCTL.LOCK_EN 0) where
  journal := rfl
  selfTest := rfl
  owner := mayWrite_set (by decide) (by decide) (by decide)
  shown := by
    rw [shownWord_rpsCtl, shownWord_rpsCtl, acceptedWord, acceptedWord, State.set,
      word_setWord_page _ _ _ _ _ _ (by decide)]
    rfl
  stopOnly := fun old new => by
    simp only [stopOnlyBad, State.stopped, State.run, get_set_page s .glb .rps _ _ _ (by decide)]

/-! ## Carrier lock and 1+1 (R14) -/

/-- LOCK_EN cannot be set while RPS is configured for 1+1. -/
theorem writeReason_lockctl {o : Origin} {w : Word} {s : State} (hmode : s.get .rps RPS.CTL.MODE = 1)
    (hset : extract w 0 1 = 1) (hclear : s.get .glb GLB.LOCKCTL.LOCK_EN = 0)
    (hnone : writeReason (s.set .rps RPS.CTL.MODE 0) o .glb GLB.LOCKCTL.LOCK_EN.off w = .none) :
    writeReason s o .glb GLB.LOCKCTL.LOCK_EN.off w = .modeConflict := by
  refine writeReason_modeConflict (by decide) (judgedAlike_lockctl o s) hnone ?_
  have hold : extract (shownWord s o .glb GLB.LOCKCTL.LOCK_EN.off) 0 1 = 0 := by
    rw [shownWord_lockctl, acceptedWord_lockctl]
    exact hclear
  simp only [modeConflictBad, lockEn_newWord, hset, hold, onePlusOne, hmode]
  rfl

/-- 1+1 cannot be configured while LOCK_EN = 1. -/
theorem writeReason_rpsCtl {o : Origin} {w : Word} {s : State} (hlock : s.get .glb GLB.LOCKCTL.LOCK_EN = 1)
    (hset : extract w 0 2 = 1)
    (hnone : writeReason (s.set .glb GLB.LOCKCTL.LOCK_EN 0) o .rps RPS.CTL.MODE.off w = .none) :
    writeReason s o .rps RPS.CTL.MODE.off w = .modeConflict := by
  refine writeReason_modeConflict (by decide) (judgedAlike_rpsCtl o s) hnone ?_
  simp only [modeConflictBad, rpsConflict, rpsMode_newWord, hset, lockEnabled, State.flag, hlock]
  rfl

/-- A write of a register that its page refuses with MODE_CONFLICT ends with the refusal. -/
theorem ends_of_modeConflict {K : Nat} {o : Origin} {p : Page} {off : Nat} {w : Word} {readings : List Int} {s : State}
    {P : State → Prop} (h : Accesses o off s) (hreason : writeReason (reached o p off s) o p off w = .modeConflict)
    (haddr : pageBase p + off < 0x4000000) (hk : refusalParts ||| K = K) (hp : pageBit p ||| K = K)
    (ha : pageBit .arc &&& K = 0) (ht : pageBit .tel &&& K = 0) (hs : K.testBit 44 = false)
    (hP : ∀ t : State, t.journal = (refuseWrite o p off w .modeConflict (reached o p off s)).journal →
      (∀ q f, t.get q f = (refuseWrite o p off w .modeConflict (reached o p off s)).get q f) → P t) :
    Ends (.registerWrite o (pageBase p + off) w readings) s P := by
  obtain ⟨hoff, halign, hready, hsteps⟩ := h
  have hpage : writePage o p off w readings (reached o p off s) = refuseWrite o p off w .modeConflict (reached o p off s) := by
    simp only [writePage, hreason]
  have hword : (pageBase p + off) % 4 = 0 := by
    have hbase := pageBase_dvd p
    omega
  refine ends_of_registers ?_ hP
  calc exec (.registerWrite o (pageBase p + off) w readings) s
    _ = execRegisterWrite o (pageBase p + off) w readings s := rfl
    _ = endsIn s (busWrite o (pageBase p + off) w readings s) := by
      simp only [execRegisterWrite, inBar0, haddr, decide_true, if_true, hword]
    _ = endsIn s (refuseWrite o p off w .modeConflict (reached o p off s)) := by
      rw [busWrite_eq_writePage (K := K) hoff hready hsteps (by
        rw [hpage]
        exact refuseWrite_within (Within.refl _ _) hk hp) ha ht hs, hpage]

/-- Settles O50: what the rules before step 6 of R49 read is the same with and without the conflict, so the write is refused
with MODE_CONFLICT, and the refusal touches REFUSED_WR and the journal alone. -/
theorem carrierLockExcludesRouteProtection : Obligations.CarrierLockExcludesRouteProtection := by
  refine ⟨fun o w readings s haccess hconflict hnone => ?_, fun o w readings s haccess hconflict hnone => ?_⟩
  · obtain ⟨hmode, hset, hclear⟩ := hconflict
    refine ends_of_modeConflict (K := refusalParts ||| pageBit .glb) haccess
      (writeReason_lockctl hmode hset hclear hnone) (by decide) (by decide) (by decide) (by decide) (by decide) (by decide)
      fun t hjournal hget => ⟨?_, ?_, ?_⟩
    · exact refused_of_get (refused_modeConflict (by decide) (by decide) rfl) hjournal hget
    · rw [hget, get_refuseWrite_off (by decide) (by decide), hclear]
    · rw [hget, get_refuseWrite_off (by decide) (by decide), hmode]
  · obtain ⟨hlock, hset⟩ := hconflict
    refine ends_of_modeConflict (K := refusalParts ||| pageBit .rps) haccess
      (writeReason_rpsCtl hlock hset hnone) (by decide) (by decide) (by decide) (by decide) (by decide) (by decide)
      fun t hjournal hget => ⟨?_, ?_, ?_⟩
    · exact refused_of_get (refused_modeConflict (by decide) (by decide) rfl) hjournal hget
    · rw [hget, get_refuseWrite_off (by decide) (by decide), hlock]
    · rw [hget, get_refuseWrite_off (by decide) (by decide)]

end Sys2Proof.Architecture
end

section
/-! SUPPORT. Client egress: a port whose buffer holds a block has no underrun (R34). -/
namespace Sys2Proof.Architecture

open Sys2Proof Sys2Proof.Machine Sys2Proof.Safety

/-- R34: only an empty egress EB underruns. -/
theorem egressUnderrun_of_waiting {s : State} {c : Carrier} {q : Nat} (h : egressLevel s c q ≠ 0) :
    egressUnderrun c q s = s := by
  have hlevel : (egressLevel s c q == 0) = false := beq_eq_false_iff_ne.mpr h
  simp [egressUnderrun, hlevel]

/-- CPC_A runs with port 0 admitted, and one block waits for that port in the egress EB. -/
def portWithBlock : State :=
  let s := (State.reset.setRun (.cpc .a) .running).set (.cpc .a) (CPC.PSTAT.ADMITTED.at 0) 1
  s.setCpc .a { s.cpc.get .a with egress := [(0, none)] }

theorem running_portWithBlock : portWithBlock.running (.cpc .a) = true := by decide +kernel

theorem admitted_portWithBlock : admitted portWithBlock .a 0 = true := by decide +kernel

theorem egressLevel_portWithBlock : egressLevel portWithBlock .a 0 = 1 := by decide +kernel

theorem underruns_portWithBlock : portWithBlock.get (.cpc .a) CPC.EGR_UNDER.COUNT = 0 := by decide +kernel

/-- The command finds no underrun there and counts none. -/
theorem exec_portWithBlock :
    exec (.clientEgressUnderrun .a 0) portWithBlock = .next portWithBlock := by
  have hkept : egressUnderrun .a 0 portWithBlock = portWithBlock :=
    egressUnderrun_of_waiting (by rw [egressLevel_portWithBlock]; decide)
  calc exec (.clientEgressUnderrun .a 0) portWithBlock
    _ = endsIn portWithBlock (egressUnderrun .a 0 portWithBlock) := rfl
    _ = endsIn portWithBlock portWithBlock := by rw [hkept]
    _ = .next portWithBlock := rfl

/-- Refutes O12: its last clause asks for a count of every CLIENT_EGRESS_UNDERRUN at an admitted port of a running page, and
leaves out R34's condition that the port's egress EB is empty. In `portWithBlock` a block waits for the port, so the command
changes nothing and EGR_UNDER stays 0. -/
theorem not_timingCommandsComplete : ¬ Obligations.TimingCommandsComplete := by
  rintro ⟨-, -, -, -, -, hunderrun⟩
  obtain ⟨t, hexec, hcount⟩ := hunderrun .a 0 portWithBlock ⟨running_portWithBlock, admitted_portWithBlock⟩
  have ht : portWithBlock = t := by
    rw [exec_portWithBlock] at hexec
    exact Host.Outcome.next.inj hexec
  rw [← ht, underruns_portWithBlock] at hcount
  exact absurd hcount (by decide)

end Sys2Proof.Architecture
end

section
/-! SUPPORT. Every page of the device, and what reset leaves in its registers (R38 to R46, R68). -/
namespace Sys2Proof.Control

open Sys2Proof Sys2Proof.Machine Sys2Proof.Safety Sys2Proof.Architecture

/-- The pages of R541 to R543: those that are single, and those of each carrier and each lane or core. -/
def singlePages : List Page :=
  [.glb, .evr, .cj, .pwr, .tb, .cal, .bst, .aux, .tel, .fes, .rps, .cast, .arc, .lpm, .ecc, .mrm, .qlt, .hlk, .arm, .pln]
def pagesOfCarrier (c : Carrier) : List Page :=
  [.txp c, .cdc c, .eqz c, .trc c, .cpr c, .mls c, .dmp c, .fec c, .lfm c, .cry c, .cpc c]
def pagesOfLane (n : Fin 8) : List Page := [.lrx n, .ltx n, .rk n, .tly n]
def everyPage : List Page :=
  List.flatten [singlePages, [Carrier.a, .b].flatMap pagesOfCarrier, (List.finRange 8).flatMap pagesOfLane,
    (List.finRange 2).map .hk, (List.finRange 3).map .syn, (List.finRange 16).map .clx]

theorem mem_carriers (c : Carrier) : c ∈ [Carrier.a, .b] := by cases c <;> decide

theorem mem_pagesOfCarrier {p : Page} (c : Carrier) (h : p ∈ pagesOfCarrier c) : p ∈ everyPage :=
  List.mem_flatten_of_mem (.tail _ (.head _)) (List.mem_flatMap_of_mem (mem_carriers c) h)

theorem mem_pagesOfLane {p : Page} (n : Fin 8) (h : p ∈ pagesOfLane n) : p ∈ everyPage :=
  List.mem_flatten_of_mem (.tail _ (.tail _ (.head _))) (List.mem_flatMap_of_mem (List.mem_finRange n) h)

theorem mem_singlePages {p : Page} (h : p ∈ singlePages) : p ∈ everyPage := List.mem_flatten_of_mem (.head _) h

theorem mem_everyPage (p : Page) : p ∈ everyPage := by
  cases p with
  | txp c | cdc c | eqz c | trc c | cpr c | mls c | dmp c | fec c | lfm c | cry c | cpc c =>
    exact mem_pagesOfCarrier c (by simp [pagesOfCarrier])
  | lrx n | ltx n | rk n | tly n => exact mem_pagesOfLane n (by simp [pagesOfLane])
  | hk n => exact List.mem_flatten_of_mem (.tail _ (.tail _ (.tail _ (.head _)))) (List.mem_map_of_mem (List.mem_finRange n))
  | syn n =>
    exact List.mem_flatten_of_mem (.tail _ (.tail _ (.tail _ (.tail _ (.head _))))) (List.mem_map_of_mem (List.mem_finRange n))
  | clx n =>
    exact List.mem_flatten_of_mem (.tail _ (.tail _ (.tail _ (.tail _ (.tail _ (.head _)))))) (List.mem_map_of_mem (List.mem_finRange n))
  | _ => exact mem_singlePages (by simp [singlePages])

/-- What a check of every page finds holds of each. -/
theorem forall_of_everyPage {P : Page → Bool} (h : everyPage.all P = true) (p : Page) : P p = true :=
  List.all_eq_true.mp h p (mem_everyPage p)

/-- A page at reset has counted no write, no refusal and no error, and holds no event and no fault. -/
def headerClear (s : State) (p : Page) : Bool :=
  s.get p HDR.SEQ.COUNT == 0 && s.get p HDR.REFUSED_WR.COUNT == 0 && s.get p HDR.ERRLOG.COUNT == 0 &&
    s.get p HDR.EVT_RAW.EVT == 0 && s.get p HDR.RUNSTAT.FAULT == 0

theorem headerClear_reset (p : Page) : headerClear State.reset p = true :=
  forall_of_everyPage (P := headerClear State.reset) (by decide +kernel) p

/-- The line, client and core pages of a carrier or a lane are stopped at reset (R41). -/
theorem carrierPages_reset : ∀ c ∈ [Carrier.a, .b], State.reset.stopped (.lfm c) = true ∧
    State.reset.stopped (.fec c) = true ∧ State.reset.stopped (.cry c) = true ∧ State.reset.stopped (.cpc c) = true ∧
    State.reset.get (.fec c) FEC.SD_THR.THR = 0x028F5C29 ∧ State.reset.get (.fec c) FEC.SF_THR.THR = 0x049BA5E3 := by
  decide +kernel

theorem lanePages_reset : ∀ n : Fin 8, State.reset.stopped (.rk n) = true ∧ State.reset.stopped (.lrx n) = true ∧
    State.reset.stopped (.ltx n) = true := by
  decide +kernel

/-- Settles O7: the registers at reset, read page by page. -/
theorem resetValues : Obligations.ResetValues := by
  refine ⟨fun p => ?_, fun c => carrierPages_reset c (mem_carriers c), lanePages_reset, ?_⟩
  · have h := headerClear_reset p
    simp only [headerClear, Bool.and_eq_true, beq_iff_eq] at h
    obtain ⟨⟨⟨⟨hseq, hrefused⟩, herr⟩, hevent⟩, hfault⟩ := h
    exact ⟨hseq, hrefused, herr, hevent, hfault⟩
  · decide +kernel

end Sys2Proof.Control
end

section
/-! SUPPORT. What a `Within` says of a whole state: the frames of Safety.lean are those that the laws of the commands give. -/
namespace Sys2Proof.Control

open Sys2Proof Sys2Proof.Machine Sys2Proof.Safety Sys2Proof.Architecture

/-- `s` with the registers of `t` and the parts of `K` that `Within` numbers taken from `t`. -/
def taking (K : Nat) (s t : State) : State where
  regs := t.regs
  latches := bif K.testBit 1 then t.latches else s.latches
  answer := bif K.testBit 2 then t.answer else s.answer
  hostReady := bif K.testBit 3 then t.hostReady else s.hostReady
  journal := bif K.testBit 4 then t.journal else s.journal
  evr := bif K.testBit 5 then t.evr else s.evr
  msix := bif K.testBit 6 then t.msix else s.msix
  semaphores := bif K.testBit 7 then t.semaphores else s.semaphores
  pairMatches := bif K.testBit 8 then t.pairMatches else s.pairMatches
  tickEvents := bif K.testBit 9 then t.tickEvents else s.tickEvents
  nowNs := bif K.testBit 10 then t.nowNs else s.nowNs
  elapsedNs := bif K.testBit 11 then t.elapsedNs else s.elapsedNs
  framer := bif K.testBit 12 then t.framer else s.framer
  fec := bif K.testBit 13 then t.fec else s.fec
  cpc := bif K.testBit 14 then t.cpc else s.cpc
  cipher := bif K.testBit 15 then t.cipher else s.cipher
  hk := bif K.testBit 16 then t.hk else s.hk
  aux := bif K.testBit 17 then t.aux else s.aux
  cal := bif K.testBit 18 then t.cal else s.cal
  txDsp := bif K.testBit 19 then t.txDsp else s.txDsp
  txLane := bif K.testBit 20 then t.txLane else s.txLane
  lineRx := bif K.testBit 21 then t.lineRx else s.lineRx
  carrierRec := bif K.testBit 22 then t.carrierRec else s.carrierRec
  demapper := bif K.testBit 23 then t.demapper else s.demapper
  dispersion := bif K.testBit 24 then t.dispersion else s.dispersion
  equaliser := bif K.testBit 25 then t.equaliser else s.equaliser
  tunedN := bif K.testBit 26 then t.tunedN else s.tunedN
  dsram := bif K.testBit 27 then t.dsram else s.dsram
  optics := bif K.testBit 28 then t.optics else s.optics
  qlt := bif K.testBit 29 then t.qlt else s.qlt
  plinth := bif K.testBit 30 then t.plinth else s.plinth
  keep := bif K.testBit 31 then t.keep else s.keep
  archive := bif K.testBit 32 then t.archive else s.archive
  rps := bif K.testBit 33 then t.rps else s.rps
  tel := bif K.testBit 34 then t.tel else s.tel
  cast := bif K.testBit 35 then t.cast else s.cast
  vddRequested := bif K.testBit 36 then t.vddRequested else s.vddRequested
  checkers := bif K.testBit 37 then t.checkers else s.checkers
  hostLink := bif K.testBit 38 then t.hostLink else s.hostLink
  mbox := bif K.testBit 39 then t.mbox else s.mbox
  memories := bif K.testBit 40 then t.memories else s.memories
  isram := bif K.testBit 41 then t.isram else s.isram
  cores := bif K.testBit 42 then t.cores else s.cores
  images := bif K.testBit 43 then t.images else s.images
  stepsDue := bif K.testBit 44 then t.stepsDue else s.stepsDue
  samples := bif K.testBit 45 then t.samples else s.samples
  pwrMgr := bif K.testBit 46 then t.pwrMgr else s.pwrMgr
  timeBase := bif K.testBit 47 then t.timeBase else s.timeBase
  selfTest := bif K.testBit 48 then t.selfTest else s.selfTest
  firmware := bif K.testBit 49 then t.firmware else s.firmware
  freeCount := bif K.testBit 50 then t.freeCount else s.freeCount
  staged := bif K.testBit 51 then t.staged else s.staged
  timers := bif K.testBit 52 then t.timers else s.timers
  pending := bif K.testBit 53 then t.pending else s.pending

theorem eq_cond_of_kept {α : Type} {b : Bool} {x y : α} (h : b = false → x = y) : x = bif b then x else y := by
  cases b
  · exact h rfl
  · rfl

/-- What changes within `K` is `s` with the parts of `K` as they came. -/
theorem eq_taking_of_within {K : Nat} {s t : State} (h : Within K s t) : t = taking K s t := by
  cases t
  simp only [taking, State.mk.injEq]
  exact ⟨trivial, eq_cond_of_kept h.latches, eq_cond_of_kept h.answer, eq_cond_of_kept h.hostReady, eq_cond_of_kept h.journal,
    eq_cond_of_kept h.evr, eq_cond_of_kept h.msix, eq_cond_of_kept h.semaphores, eq_cond_of_kept h.pairMatches,
    eq_cond_of_kept h.tickEvents, eq_cond_of_kept h.nowNs, eq_cond_of_kept h.elapsedNs, eq_cond_of_kept h.framer,
    eq_cond_of_kept h.fec, eq_cond_of_kept h.cpc, eq_cond_of_kept h.cipher, eq_cond_of_kept h.hk,
    eq_cond_of_kept h.aux, eq_cond_of_kept h.cal, eq_cond_of_kept h.txDsp, eq_cond_of_kept h.txLane,
    eq_cond_of_kept h.lineRx, eq_cond_of_kept h.carrierRec, eq_cond_of_kept h.demapper, eq_cond_of_kept h.dispersion,
    eq_cond_of_kept h.equaliser, eq_cond_of_kept h.tunedN, eq_cond_of_kept h.dsram, eq_cond_of_kept h.optics,
    eq_cond_of_kept h.qlt, eq_cond_of_kept h.plinth, eq_cond_of_kept h.keep, eq_cond_of_kept h.archive,
    eq_cond_of_kept h.rps, eq_cond_of_kept h.tel, eq_cond_of_kept h.cast, eq_cond_of_kept h.vddRequested,
    eq_cond_of_kept h.checkers, eq_cond_of_kept h.hostLink, eq_cond_of_kept h.mbox, eq_cond_of_kept h.memories,
    eq_cond_of_kept h.isram, eq_cond_of_kept h.cores, eq_cond_of_kept h.images, eq_cond_of_kept h.stepsDue,
    eq_cond_of_kept h.samples, eq_cond_of_kept h.pwrMgr, eq_cond_of_kept h.timeBase, eq_cond_of_kept h.selfTest,
    eq_cond_of_kept h.firmware, eq_cond_of_kept h.freeCount, eq_cond_of_kept h.staged, eq_cond_of_kept h.timers,
    eq_cond_of_kept h.pending⟩

/-- The registers of `K` lie on pages of `pages`. -/
def pagesCover (K : Nat) (pages : Page → Bool) : Bool := everyPage.all fun q => pages q || pageBit q &&& K == 0

theorem word_of_within_cover {K : Nat} {pages : Page → Bool} {s t : State} (h : Within K s t)
    (hc : pagesCover K pages = true) {q : Page} {off : Nat} (hq : pages q = false) : word t q off = word s q off := by
  have hcover := forall_of_everyPage hc q
  rw [hq, Bool.false_or, beq_iff_eq] at hcover
  exact h.page q off hcover

/-- The frame that the law of a command gives. -/
theorem frame_of_within {K : Nat} {c : Instr} {pages : Page → Bool} {rest : State → State → State}
    (h : ∀ s t, exec c s = .next t → Within K s t) (hpages : pagesCover K pages = true := by decide +kernel)
    (hrest : ∀ s t, rest s t = taking K s t := by intros; rfl) : Frame c pages rest :=
  fun s t e => ⟨(eq_taking_of_within (h s t e)).trans (hrest s t).symm,
    fun _ _ hq => word_of_within_cover (h s t e) hpages hq⟩

/-- The same of a command that writes a register. -/
theorem writeFrame_of_within {K : Nat} {c : Instr} {pages : Page → Bool} {rest : State → State → State}
    (h : ∀ s t, s.stepsDue = [] → exec c s = .next t → Within K s t)
    (hpages : pagesCover K pages = true := by decide +kernel)
    (hrest : ∀ s t, rest s t = taking K s t := by intros; rfl) : WriteFrame c pages rest :=
  fun s t hd e => ⟨(eq_taking_of_within (h s t hd e)).trans (hrest s t).symm,
    fun _ _ hq => word_of_within_cover (h s t hd e) hpages hq⟩

end Sys2Proof.Control
end

section
/-! SUPPORT. Two frames that fail: a page that begins to run applies the live fields that waited for its next boundary (R44, R55),
and what those fields do reaches the carrier's dispersion filter, which the frames of RUN and of the power exit do not name. -/
namespace Sys2Proof.Control

open Sys2Proof Sys2Proof.Machine Sys2Proof.Safety Sys2Proof.Architecture

/-- A new CD_SET.CD of CDC_A, accepted and not yet applied. -/
def waitingDispersion : List LiveWrite := [⟨pageBase (.cdc .a) + CDC.CD_SET.CD.off, 100⟩]

/-- LFM_A runs, CDC_A is stopped and its CD_SET waits. -/
def waitingToRun : State := { Sys2Proof.Tests.up [.lfm .a] with staged := waitingDispersion }

/-- The device ends a low-power state from which CDC_A resumes, and CDC_A's CD_SET waits. -/
def waitingToResume : State :=
  { Sys2Proof.Tests.put [(.pwr, PWR.STAT.STATE, 2), (.pwr, PWR.STAT.TRANS, 1), (.pwr, PWR.STAT.TARGET, 0),
      (.pwr, PWR.RESUME_LO.PAGES, 2 ^ 20)] with staged := waitingDispersion }

/-- The dispersion that the filter of carrier A is set to, in the state that a command leaves. -/
def dispersionAfter (r : Result) : Option Int :=
  match r with
  | .next t => some t.dispersion.a.base
  | _ => none

theorem next_of_dispersionAfter {r : Result} {x : Int} (h : dispersionAfter r = some x) :
    ∃ t, r = .next t ∧ t.dispersion.a.base = x := by
  cases r with
  | next t => exact ⟨t, rfl, Option.some.inj h⟩
  | _ => exact absurd h (by simp [dispersionAfter])

theorem dispersion_waitingToRun : waitingToRun.dispersion.a.base = 0 := by decide +kernel

theorem dispersion_waitingToResume : waitingToResume.dispersion.a.base = 0 := by decide +kernel

theorem dispersionAfter_run : dispersionAfter (exec (.runctlRun .plinth (.cdc .a)) waitingToRun) = some 100 := by
  decide +kernel

theorem dispersionAfter_pwrExit : dispersionAfter (exec (.pwrExit 1) waitingToResume) = some 100 := by decide +kernel

/-- Refutes O57: RUN of CDC_A applies the CD_SET that waits (R44, R55), and the frame of RUN does not name the dispersion. -/
theorem not_controlAndLineFrames : ¬ Obligations.ControlAndLineFrames := by
  rintro ⟨hrun, -⟩
  obtain ⟨t, ht, hnew⟩ := next_of_dispersionAfter dispersionAfter_run
  have hkept : t.dispersion = waitingToRun.dispersion :=
    (congrArg State.dispersion (hrun .plinth (.cdc .a) waitingToRun t rfl ht).1).trans rfl
  rw [hkept, dispersion_waitingToRun] at hnew
  exact absurd hnew (by decide)

/-- Refutes O60: the exit from a low-power state resumes CDC_A, which applies the CD_SET that waits (R44, R55), and the frame of
the exit does not name the dispersion. -/
theorem not_plinthAndDeviceFrames : ¬ Obligations.PlinthAndDeviceFrames := by
  intro h
  obtain ⟨-, -, -, -, -, -, -, -, -, -, -, -, -, -, -, -, -, -, -, -, -, -, -, -, -, -, -, -, -, -, -, -, -, -, -, -, -,
    -, -, -, -, -, -, -, -, -, -,
    hexit, -⟩ := h
  obtain ⟨t, ht, hnew⟩ := next_of_dispersionAfter dispersionAfter_pwrExit
  have hkept : t.dispersion = waitingToResume.dispersion :=
    (congrArg State.dispersion (hexit 1 waitingToResume t ht).1).trans rfl
  rw [hkept, dispersion_waitingToResume] at hnew
  exact absurd hnew (by decide)

end Sys2Proof.Control
end

section
/-! SUPPORT. The frame of a command that writes a register outside the header: what any write can change, and what the register's
own effect can (R49, R51, R54, R59). -/
namespace Sys2Proof.Control

open Sys2Proof Sys2Proof.Machine Sys2Proof.Safety Sys2Proof.Architecture

theorem part_left (m n : Nat) : m ||| (m ||| n) = m ||| n := by rw [← Nat.or_assoc, Nat.or_self]

theorem part_right (m n : Nat) : n ||| (m ||| n) = m ||| n := by rw [Nat.or_comm m n, part_left]

/-- The effect of a write outside the header is its block's, of the whole word or of the fields that act at once (R44). -/
theorem writeEffect_by_block {K : Nat} {o : Origin} {p : Page} {off : Nat} {v : Word} {env : List Int} {s0 : State}
    (hlo : 0x40 ≤ off) (hb : ∀ old new u, Within K s0 u → Within K s0 (blockWritten o p off old new env u)) (old : Word)
    (u : State) (h : Within K s0 u) : Within K s0 (writeEffect o p off old v env u) := by
  unfold writeEffect
  rw [if_neg (Nat.not_lt.mpr hlo)]
  exact Within.ite (Within.ite h (hb _ _ _ h)) (hb _ _ _ h)

/-- A write of the register at `off` of `p` without the start of a settled STEP, by what its block's effect can change. -/
theorem writeReg_by_block {K : Nat} {o : Origin} {p : Page} {off : Nat} {v : Word} {env : List Int} {s0 s : State}
    (h : Within K s0 s) (hlo : 0x40 ≤ off) (hhi : off < 0x1000) (hk : anyWrite ||| K = K) (hp : pageBit p ||| K = K)
    (hu : ∀ old u, unchangedWritten p off old v u = u)
    (hb : ∀ old new u, Within K s0 u → Within K s0 (blockWritten o p off old new env u)) :
    Within K s0 (writeReg o (pageBase p + off) v env s) := by
  have hpage : Within K s0 (writePage o p off v env s) :=
    writePage_by h hk hp (writeEffect_by_block hlo hb) fun old => by rw [hu]; exact h
  exact ringFollow_narrow (by rw [writeOnce_page hhi]; exact hpage) hk

/-- The same of a write over the register bus, while no STEP waits (R540). -/
theorem busWrite_by_block {K : Nat} {o : Origin} {p : Page} {off : Nat} {v : Word} {env : List Int} {s0 s : State}
    (h : Within K s0 s) (hd : s0.stepsDue = []) (hlo : 0x40 ≤ off) (hhi : off < 0x1000) (hk : anyWrite ||| K = K)
    (hp : pageBit p ||| K = K) (hs : K.testBit 44 = false) (hu : ∀ old u, unchangedWritten p off old v u = u)
    (hb : ∀ old new u, Within K s0 u → Within K s0 (blockWritten o p off old new env u)) :
    Within K s0 (busWrite o (pageBase p + off) v env s) := by
  have haccess : Within K s0 (busAccess o (pageBase p + off) s) := busAccess_within h (Within.sub hk (by simp [anyWrite]))
  have hw := writeReg_by_block haccess hlo hhi hk hp hu hb
  unfold busWrite writeSettled
  rw [settle_of_none ((hw.stepsDue hs).trans hd)]
  exact Within.ite (State.bump_within h (Within.sub hk (by simp [anyWrite, pageBit]))) hw

theorem within_of_endsIn {K : Nat} {s u t : State} (h : Within K s u) (e : endsIn s u = .next t) : Within K s t :=
  endsIn_within (h.mono (part_left _ _)) e

/-- A command that writes one register, whose block's effect lies in `m`. -/
theorem writeFrame_of_block {m : Nat} {c : Instr} {pages : Page → Bool} {rest : State → State → State} {o : Origin} {p : Page}
    {off : Nat} {v : State → Word} {env : List Int}
    (hc : ∀ s, exec c s = endsIn s (busWrite o (pageBase p + off) (v s) env s))
    (hb : ∀ {K s0 u} old new, Within K s0 u → m ||| K = K → Within K s0 (blockWritten o p off old new env u))
    (hlo : 0x40 ≤ off := by decide) (hhi : off < 0x1000 := by decide)
    (hp : pageBit p ||| (anyWrite ||| m) = anyWrite ||| m := by decide)
    (hs : (anyWrite ||| m).testBit 44 = false := by rfl)
    (hu : ∀ old v u, unchangedWritten p off old v u = u := by intros; rfl)
    (hpages : pagesCover (anyWrite ||| m) pages = true := by decide +kernel)
    (hrest : ∀ s t, rest s t = taking (anyWrite ||| m) s t := by intros; rfl) : WriteFrame c pages rest :=
  writeFrame_of_within (K := anyWrite ||| m) (hpages := hpages) (hrest := hrest) fun s t hd e => by
    rw [hc] at e
    exact within_of_endsIn (busWrite_by_block (Within.refl _ _) hd hlo hhi (part_left _ _) hp hs (fun old u => hu old _ u)
      fun old new u h => hb old new h (part_right _ _)) e

/-- A command of the flash memory, after which the ring's rate follows its inputs. -/
theorem writeFrame_of_ringFollow {m : Nat} {c : Instr} {pages : Page → Bool} {rest : State → State → State} {f : State → State}
    (hc : ∀ s, exec c s = endsIn s (ringFollow s (f s))) (hf : ∀ {K s0 u}, Within K s0 u → m ||| K = K → Within K s0 (f u))
    (hpages : pagesCover (anyWrite ||| m) pages = true := by decide +kernel)
    (hrest : ∀ s t, rest s t = taking (anyWrite ||| m) s t := by intros; rfl) : WriteFrame c pages rest :=
  writeFrame_of_within (K := anyWrite ||| m) (hpages := hpages) (hrest := hrest) fun s t _ e => by
    rw [hc] at e
    exact within_of_endsIn (ringFollow_narrow (hf (Within.refl _ _) (part_right _ _)) (part_left _ _)) e

/-- The live fields that a boundary of page `p` applies change that page and what their own effect can (R44, R55). -/
theorem applyStaged_by {K : Nat} {p : Page} {due : Page → Nat → Bool} {s0 s : State} (h : Within K s0 s)
    (hdue : ∀ q off, due q off = true → q = p) (hk : 2251799813685248 ||| K = K) (hp : pageBit p ||| K = K)
    (hl : ∀ off old new u, Within K s0 u → Within K s0 (liveApplied p off old new u)) : Within K s0 (applyStaged due s) := by
  unfold applyStaged
  refine List.foldlRecOn _ _ h fun u hu x hx => ?_
  have hadmitted := (List.mem_filter.mp hx).2
  unfold applyLive
  cases ha : pageOfAddr x.addr with
  | none => exact hu
  | some q =>
    rw [ha] at hadmitted
    obtain rfl := hdue _ _ hadmitted
    exact hl _ _ _ _ (Within.setWord (unstage_within hu hk) _ _ _ hp)

theorem pageBoundary_by {K : Nat} {p : Page} {s0 s : State} (h : Within K s0 s) (hk : 2251799813685248 ||| K = K)
    (hp : pageBit p ||| K = K) (hl : ∀ off old new u, Within K s0 u → Within K s0 (liveApplied p off old new u)) :
    Within K s0 (pageBoundary p s) := by
  unfold pageBoundary
  exact Within.ite (applyStaged_by h (fun _ _ => eq_of_beq) hk hp hl) h

theorem registerBoundary_by {K : Nat} {p : Page} {due : Nat → Bool} {s0 s : State} (h : Within K s0 s)
    (hk : 2251799813685248 ||| K = K) (hp : pageBit p ||| K = K)
    (hl : ∀ off old new u, Within K s0 u → Within K s0 (liveApplied p off old new u)) :
    Within K s0 (registerBoundary p due s) := by
  unfold registerBoundary
  exact Within.ite (applyStaged_by h (fun _ _ hd => eq_of_beq (Bool.and_eq_true_iff.mp hd).1) hk hp hl) h

end Sys2Proof.Control
end

section
/-! SUPPORT. The commands of Quolet, of telemetry and of the cores that write a register in their course. -/
namespace Sys2Proof.Control

open Sys2Proof Sys2Proof.Machine Sys2Proof.Safety Sys2Proof.Architecture

/-- A write of PCH_RING changes registers of its page alone. -/
theorem cprWritten_ring {K : Nat} {c : Carrier} {old new : Word} {s0 s : State} (h : Within K s0 s)
    (hp : pageBit (.cpr c) ||| K = K) : Within K s0 (cprWritten c CPR.PCH_RING.RD_IDX.off old new s) := by
  have hctl : CPR.PCH_RING.RD_IDX.off ≠ CPR.CTL.PCH_RX.off := by decide
  rw [cprWritten, if_neg hctl]
  exact Within.ite (Within.ite (State.clearAll_within h hp) h) h

/-- RK1 takes a record of the ring and writes RD_IDX, which has no effect of its own. -/
theorem takeRecord_by {K : Nat} {x : Carrier} {s0 s : State} (h : Within K s0 s) (hk : anyWrite ||| K = K)
    (hp : pageBit (.cpr x) ||| K = K) (hq : 536870912 ||| K = K) : Within K s0 (takeRecord x s) := by
  unfold takeRecord
  exact Within.ite h (writeReg_by_block (p := .cpr x) (putSearch_within h hq) (by decide) (by decide) hk hp
    (fun _ _ => rfl) fun _ _ _ hu => cprWritten_ring hu hp)

theorem takeRecords_by {K : Nat} {x : Carrier} {s0 s : State} (h : Within K s0 s) (hk : anyWrite ||| K = K)
    (hp : pageBit (.cpr x) ||| K = K) (hq : 536870912 ||| K = K) : Within K s0 (takeRecords x s) := by
  unfold takeRecords
  exact Within.ite (Within.foldl _ (fun _ _ hu => takeRecord_by hu hk hp hq) h) h

/-- What the search for the pilot words can change (R248 to R250): any write, the pages CPR and what the search itself can. -/
def searchParts : Nat := anyWrite ||| (pageBit (.cpr .a) ||| 2417851639229258886283264)

theorem wordSync_by {x : Carrier} {s : State} : Within searchParts s (wordSync x s) := by
  have h := takeRecords_by (x := x) (Within.refl searchParts s) rfl (by cases x <;> rfl) rfl
  exact Within.ite (searchWords_within h rfl) h

/-- The same with what a word of the link and the report of a switch can. -/
def linkParts : Nat := searchParts ||| (2555110696715597105517410943008 ||| 2417851639229267476217856)

theorem pilotWord_by {x : Carrier} {s : State} : Within linkParts s (pilotWord x s) := by
  have h := takeRecords_by (x := x) (Within.refl linkParts s) rfl (by cases x <;> rfl) rfl
  exact Within.ite h (linkWord_within (putSearch_within h rfl) rfl)

theorem wordArrives_by {x : Carrier} {w : LinkArrival} {s : State} : Within linkParts s (wordArrives x w s) := by
  cases w with
  | pilot => exact pilotWord_by
  | inband v => exact linkWord_within (Within.refl _ _) rfl

/-- What a write of TEL can change. -/
def telParts : Nat := anyWrite ||| 4920705879653823629230112

/-- RK6 raises a tap by a write of TAP_RAISE. -/
theorem tapRaiseDue_by {c : Carrier} {s0 s : State} (hd : s0.stepsDue = []) (h : Within telParts s0 s) :
    Within telParts s0 (tapRaiseDue c s) := by
  have hput : Within telParts s0 (putTap s c { tapWatch s c with fired := 0 }) := putTap_within h rfl
  exact Within.ite h (Within.ite hput (busWrite_by_block (p := .tel) hput hd (by decide) (by decide) rfl rfl rfl
    (fun _ _ => rfl) fun _ _ _ hu => telWritten_within hu rfl))

theorem telTickBoundary_by {s0 s : State} (h : Within telParts s0 s) : Within telParts s0 (telTickBoundary s) :=
  registerBoundary_by h rfl rfl fun _ _ _ _ hu => hu

theorem telBoundary_by {n : Fin 64} {s0 s : State} (h : Within telParts s0 s) : Within telParts s0 (telBoundary n s) :=
  registerBoundary_by h rfl rfl fun _ _ _ _ hu => hu

theorem execTelTick_by {inputs : TelInputs} {s t : State} (hd : s.stepsDue = []) (e : exec (.telTick inputs) s = .next t) :
    Within telParts s t :=
  within_of_endsIn (tapRaiseDue_by hd (tapRaiseDue_by hd (telTick_within (telTickBoundary_by (Within.refl _ _)) rfl))) e

theorem execTelOutput_by {n : Fin 64} {s t : State} (hd : s.stepsDue = []) (e : exec (.telOutput n) s = .next t) :
    Within telParts s t :=
  within_of_endsIn (tapRaiseDue_by hd (tapRaiseDue_by hd (telOutput_within (telBoundary_by (Within.refl _ _)) rfl))) e

theorem execTelSync_by {o : Option Origin} {s t : State} (hd : s.stepsDue = []) (e : exec (.telSync o) s = .next t) :
    Within telParts s t := by
  cases o with
  | none => exact within_of_endsIn (telSyncPin_within (Within.refl _ _) rfl) e
  | some o =>
    exact within_of_endsIn (busWrite_by_block (p := .tel) (Within.refl _ _) hd (by decide) (by decide) rfl rfl rfl
      (fun _ _ => rfl) fun _ _ _ hu => telWritten_within hu rfl) e

/-- A load's own write starts the load and no STEP. -/
theorem coreWritten_load {K : Nat} {n : Fin 8} {new : Word} {s0 s : State} (h : Within K s0 s)
    (hk : 316912952288512266126231601152 ||| K = K) : Within K s0 (coreWritten n RK.LOAD_CTL.LOAD.off new s) := by
  have hstep : (RK.LOAD_CTL.LOAD.off = RK.CORE_CTL.STEP.off) = False := by decide
  simp only [coreWritten, hstep, decide_false, Bool.false_and, Bool.false_eq_true, if_false]
  exact Within.ite (loadStart_within h hk) h

/-- An access of the debug window is no page's: it reads or writes the core's memories (R404). -/
theorem debugCore_window {n : Fin 8} {off : Nat} (hoff : off < 0x200000) : debugCore (debugBase n + off) = some (n, off) := by
  have hn := n.isLt
  unfold debugCore debugBase
  have hcore : (0x01000000 + n.val * 0x200000 + off - 0x01000000) / 0x200000 = n.val := by omega
  have hoff : (0x01000000 + n.val * 0x200000 + off - 0x01000000) % 0x200000 = off := by omega
  rw [if_pos (by omega)]
  simp only [hcore, hoff, hn, dif_pos]

def debugParts : Nat := anyWrite ||| 316912650057057352573333274624

theorem execDebugWindowWrite_by {o : Origin} {n : Fin 8} {off : Fin 0x200000} {w : Word} {s t : State}
    (hd : s.stepsDue = []) (e : exec (.debugWindowWrite o n off w) s = .next t) : Within debugParts s t := by
  have haccess (addr : Nat) : Within debugParts s (busAccess o addr s) := busAccess_within (Within.refl _ _) rfl
  have hw (addr : Nat) (hcore : debugCore addr = some (n, off.val / 4 * 4)) :
      Within debugParts s (writeReg o addr w [] (busAccess o addr s)) := by
    refine ringFollow_narrow ?_ rfl
    unfold writeOnce
    rw [hcore]
    exact debugWrite_within (haccess _) rfl
  refine within_of_endsIn ?_ e
  unfold busWrite writeSettled
  have hnarrow := hw _ (debugCore_window (n := n) (off := off.val / 4 * 4) (by omega))
  rw [settle_of_none ((hnarrow.stepsDue rfl).trans hd)]
  exact Within.ite (State.bump_within (Within.refl _ _) rfl) hnarrow

/-- What a boundary of a client lane can change. -/
def clxBoundaryParts : Nat := 2251799813685248 ||| 118842243771401010127382249504

theorem clxBoundary_by {n : Fin 16} {s : State} : Within clxBoundaryParts s (pageBoundary (.clx n) s) :=
  pageBoundary_by (Within.refl _ _) (by decide) (by change pageBit (.clx 0) ||| _ = _; decide) fun _ _ _ _ hu => clxWritten_within hu (by decide)

def egressParts : Nat := 2251799813685248 ||| 79228162514268841193171337216

theorem execEgressPortState_by {c : Carrier} {q : Fin 4} {n : Nat} {s t : State}
    (e : exec (.egressPortState c q n) s = .next t) : Within egressParts s t :=
  within_of_endsIn (egressSend_within (pageBoundary_by (p := .cpc c) (Within.refl _ _) (by decide)
    (by change pageBit (.cpc .a) ||| _ = _; decide) fun _ _ _ _ hu => hu) (by decide)) e

theorem execChkBitCompare_by {n : Fin 16} {b : Bool} {s t : State} (e : exec (.chkBitCompare n b) s = .next t) :
    Within clxBoundaryParts s t :=
  within_of_endsIn (checkerBit_within clxBoundary_by rfl) e

theorem execClxInjectPeriodic_by {n : Fin 16} {s t : State} (e : exec (.clxInjectPeriodic n) s = .next t) :
    Within clxBoundaryParts s t :=
  within_of_endsIn (clxPeriodic_within clxBoundary_by rfl) e

theorem execRingBudgetEval_by {waf : Option Nat} {s t : State} (e : exec (.ringBudgetEval waf) s = .next t) :
    Within anyWrite s t :=
  within_of_endsIn (Within.ite (thinWrite_narrow (ringEvaluate_within (startTimer_within (Within.refl _ _) rfl) rfl) rfl)
    (Within.refl _ _)) e

end Sys2Proof.Control
end

section
/-! SUPPORT. The commands that write no register at all: the register file stays as it was. -/
namespace Sys2Proof.Control

open Sys2Proof Sys2Proof.Machine Sys2Proof.Safety Sys2Proof.Architecture

theorem word_of_regs {s t : State} (h : t.regs = s.regs) (p : Page) (off : Nat) : word t p off = word s p off := by
  simp only [word, regRead, h]

/-- The frame of a command whose operation `f` leaves the register file. -/
theorem bareFrame_of_within {K : Nat} {c : Instr} {rest : State → State → State} {f : State → State}
    (hc : ∀ s, exec c s = endsIn s (f s)) (hf : ∀ s, (f s).regs = s.regs)
    (h : ∀ s t, exec c s = .next t → Within K s t)
    (hrest : ∀ s t, rest s t = { taking K s t with regs := s.regs } := by intros; rfl) :
    Frame c (fun _ => false) rest := fun s t e => by
  have hregs : t.regs = s.regs := by
    have he := e
    rw [hc] at he
    cases he
    exact hf s
  have ht : t = { taking K s t with regs := s.regs } := by
    rw [← hregs]
    exact eq_taking_of_within (h s t e)
  exact ⟨ht.trans (hrest s t).symm, fun q off _ => word_of_regs hregs q off⟩

theorem regs_ite {c : Prop} [Decidable c] {x y s : State} (hx : x.regs = s.regs) (hy : y.regs = s.regs) :
    (if c then x else y).regs = s.regs := by
  split <;> assumption

theorem regs_answerSend (x : Carrier) (s : State) : (answerSend x s).regs = s.regs := regs_ite rfl rfl

theorem regs_keepStamp (x : Carrier) (receive : Bool) (csf stamp : Nat) (s : State) :
    (keepStamp x receive csf stamp s).regs = s.regs := regs_ite rfl rfl

theorem regs_backoffEnd (x : Carrier) (s : State) : (backoffEnd x s).regs = s.regs := by
  unfold backoffEnd
  split
  · rfl
  · exact regs_ite rfl rfl

theorem regs_eraseOldKq (k : Carrier) (s : State) : (eraseOldKq k s).regs = s.regs := regs_ite rfl rfl

theorem regs_mboxCommand {opcode : Nat} {act : State → State} {s : State} (h : (act s).regs = s.regs) :
    (mboxCommand opcode act s).regs = s.regs := regs_ite rfl (regs_ite rfl h)

theorem regs_submitCapsuleCmd (b : List Byte) (s : State) : (submitCapsuleCmd b s).regs = s.regs :=
  regs_mboxCommand (regs_ite rfl (regs_ite rfl (regs_ite rfl rfl)))

theorem regs_vendorRequest {opcode : Nat} {input : List Byte} {act : List Byte → State → Nat × List Byte × State} {s : State}
    (h : (act input s).2.2.regs = s.regs) : (vendorRequest opcode input act s).regs = s.regs :=
  regs_mboxCommand (regs_ite rfl (regs_ite rfl h))

theorem regs_getResult (b : List Byte) (s : State) : (getResult b s).2.2.regs = s.regs := by
  unfold getResult
  split <;> rfl

theorem regs_getAttest (b : List Byte) (s : State) : (getAttest b s).2.2.regs = s.regs := by
  unfold getAttest
  split
  · rfl
  · split <;> rfl

theorem regs_getJournalSig (b : List Byte) (s : State) : (getJournalSig b s).2.2.regs = s.regs := by
  unfold getJournalSig
  split
  · rfl
  · split <;> rfl

theorem regs_getCert (b : List Byte) (s : State) : (getCert b s).2.2.regs = s.regs := by
  unfold getCert
  split <;> rfl

theorem regs_clearEventRecords (log : Fin 4) (all : Bool) (handles : List Nat) (s : State) :
    (clearEventRecords log all handles s).regs = s.regs :=
  regs_mboxCommand (regs_ite rfl rfl)

theorem regs_getLog (effects : Bool) (s : State) : (getLog effects s).regs = s.regs := regs_mboxCommand (regs_ite rfl rfl)

theorem regs_laneMargin (lane : Fin 8) (begins : Bool) (s : State) : (laneMargin lane begins s).regs = s.regs :=
  regs_ite rfl (regs_ite rfl rfl)

theorem regs_unmaskVector (s : State) (vector : Nat) : (unmaskVector s vector).regs = s.regs := regs_ite rfl rfl

theorem regs_unmaskFunction (s : State) : (unmaskFunction s).regs = s.regs :=
  List.foldlRecOn (motive := fun u : State => u.regs = s.regs) _ _ rfl fun _ hu _ _ => regs_ite hu hu

theorem regs_waitWake (n : Fin 8) (s : State) : (waitWake n s).regs = s.regs := regs_ite rfl rfl

theorem regs_putWatch (s : State) (p : MemPlace) (w : MemoryWatch) : (putWatch s p w).regs = s.regs := by
  cases p <;> rfl

theorem regs_scrubAccess (lines : Bool) (s : State) : (scrubAccess lines s).regs = s.regs :=
  regs_ite rfl ((regs_putWatch _ _ _).trans (regs_ite rfl rfl))

end Sys2Proof.Control
end

section
/-! SUPPORT. The frames of Quolet, the route, the optics, telemetry and Cast: one law of a command for each. -/
namespace Sys2Proof.Control

open Sys2Proof Sys2Proof.Machine Sys2Proof.Safety Sys2Proof.Architecture

/-- A write of RPS and the route's own state. -/
theorem rpsWrite_frame {o : Origin} {off : Nat} {v : State → Word} {c : Instr}
    (hc : ∀ s, exec c s = endsIn s (busWrite o (pageBase .rps + off) (v s) [] s)) (hlo : 0x40 ≤ off) (hhi : off < 0x1000) :
    WriteFrame c (fun q => wrotePage q || (q matches .rps | .qlt))
      (fun s t => { wroteState s t with qlt := t.qlt, rps := t.rps, freeCount := t.freeCount }) :=
  writeFrame_of_block (hlo := hlo) (hhi := hhi) hc fun _ _ => rpsWritten_within

/-- A write of FES and the optics. -/
theorem fesWrite_frame {o : Origin} {off : Nat} {env : List Int} {v : State → Word} {c : Instr}
    (hc : ∀ s, exec c s = endsIn s (busWrite o (pageBase .fes + off) (v s) env s)) (hlo : 0x40 ≤ off) (hhi : off < 0x1000) :
    WriteFrame c (fun q => wrotePage q || (q matches .aux | .fes))
      (fun s t => { wroteState s t with aux := t.aux, tunedN := t.tunedN, optics := t.optics, freeCount := t.freeCount }) :=
  writeFrame_of_block (hlo := hlo) (hhi := hhi) hc fun _ _ => fesWritten_within

/-- A write of TEL, the tick it may bring and the lanes it reads. -/
theorem telWrite_frame {o : Origin} {off : Nat} {v : State → Word} {c : Instr}
    (hc : ∀ s, exec c s = endsIn s (busWrite o (pageBase .tel + off) (v s) [] s)) (hlo : 0x40 ≤ off) (hhi : off < 0x1000) :
    WriteFrame c (fun q => wrotePage q || (q matches .tel | .lrx _))
      (fun s t => { wroteState s t with lineRx := t.lineRx, keep := t.keep, tel := t.tel, cast := t.cast }) :=
  writeFrame_of_block (hlo := hlo) (hhi := hhi) hc fun _ _ => telWritten_within

/-- Settles O58: each frame is what the law of its command gives; a command that writes a register has its block's effect besides
what any write can change. -/
theorem linkAndRouteFrames : Obligations.LinkAndRouteFrames :=
  ⟨fun _ => frame_of_within fun _ _ => execRatchetDue_within,
   fun _ => frame_of_within fun _ _ => execRekeyAnnounce_within,
   fun _ => frame_of_within fun _ _ => execActivationDeadline_within,
   fun _ => frame_of_within fun _ _ => execActivationTakeEffect_within,
   fun _ => frame_of_within fun _ _ => execRetainedSlotExpiry_within,
   fun _ _ _ => frame_of_within fun _ _ => execSlotExpiry_within,
   fun _ => frame_of_within fun _ _ => execEpochExchangeStart_within,
   fun _ => frame_of_within fun _ _ => execEpochExhausted_within,
   fun _ _ => writeFrame_of_block (fun _ => rfl) fun _ _ => qltWritten_within,
   fun _ => frame_of_within fun _ _ => execWakeBurst_within,
   fun _ _ => frame_of_within fun _ _ => execWakeWordRx_within,
   fun _ => bareFrame_of_within (fun _ => rfl) (regs_answerSend _) fun _ _ =>
    execAnswerSend_within,
   fun _ => writeFrame_of_within fun _ _ _ => within_of_endsIn wordSync_by,
   fun _ => frame_of_within fun _ _ => execPchWordSyncLoss_within,
   fun _ _ => writeFrame_of_within fun _ _ _ => within_of_endsIn (switchReport_within wordArrives_by (by decide)),
   fun _ _ => frame_of_within fun _ _ => execAck_within,
   fun _ _ => frame_of_within fun _ _ => execHello_within,
   fun _ _ => frame_of_within fun _ _ => execCaps_within,
   fun _ _ => frame_of_within fun _ _ => execAttest_within,
   fun _ _ => frame_of_within fun _ _ => execKemInit_within,
   fun _ _ => frame_of_within fun _ _ => execKemResp_within,
   fun _ _ => frame_of_within fun _ _ => execKeyConfirm_within,
   fun _ _ => frame_of_within fun _ _ => execRekey_within,
   fun _ _ => frame_of_within fun _ _ => execRateOffer_within,
   fun _ _ => frame_of_within fun _ _ => execRateAccept_within,
   fun _ _ => frame_of_within fun _ _ => execStep_within,
   fun _ _ => frame_of_within fun _ _ => execStepAck_within,
   fun _ _ => frame_of_within fun _ _ => execRouteSwitch_within,
   fun _ _ => frame_of_within fun _ _ => execSleepReq_within,
   fun _ _ => frame_of_within fun _ _ => execWakeMsg_within,
   fun _ _ => frame_of_within fun _ _ => execTelemetry_within,
   fun _ _ => frame_of_within fun _ _ => execTimeMsg_within,
   fun _ _ => frame_of_within fun _ _ => execRefuse_within,
   fun _ _ _ => frame_of_within fun _ _ => execUnknownTypeMessage_within,
   fun _ _ => frame_of_within fun _ _ => execRetxTimeout_within,
   fun _ => frame_of_within fun _ _ => execAckTimer_within,
   fun _ => frame_of_within fun _ _ => execTimeSend_within,
   fun _ _ _ _ => bareFrame_of_within (fun _ => rfl) (regs_keepStamp _ _ _ _) fun _ _ =>
    execCsfTimestamp_within,
   fun _ => frame_of_within fun _ _ => execHandshakeTimeout_within,
   fun _ => frame_of_within fun _ _ => execFailedRetry_within,
   fun _ => frame_of_within fun _ _ => execSessionPathless_within,
   fun _ => frame_of_within fun _ _ => execStepOffer_within,
   fun _ => frame_of_within fun _ _ => execStepOfferDeadline_within,
   fun _ _ => frame_of_within fun _ _ => execArmedLapse_within,
   fun _ => frame_of_within fun _ _ => execStepConfirming_within,
   fun _ => frame_of_within fun _ _ => execStepDone_within,
   fun _ => frame_of_within fun _ _ => execStepDown_within,
   fun _ => bareFrame_of_within (fun _ => rfl) (regs_backoffEnd _) fun _ _ =>
    execStepBackoffEnd_within,
   frame_of_within fun _ _ => execSleepDelayExpiry_within,
   fun _ => bareFrame_of_within (fun _ => rfl) (regs_eraseOldKq _) fun _ _ =>
    execKqErase_within,
   frame_of_within fun _ _ => execRpsOutputInstant_within,
   frame_of_within fun _ _ => execRpsPairState_within,
   frame_of_within fun _ _ => execRealign_within,
   fun _ => rpsWrite_frame (fun _ => rfl) (by decide) (by decide),
   fun _ _ => rpsWrite_frame (fun _ => rfl) (by decide) (by decide),
   fun _ _ => rpsWrite_frame (fun _ => rfl) (by decide) (by decide),
   fun _ _ => rpsWrite_frame (fun _ => rfl) (by decide) (by decide),
   frame_of_within fun _ _ => execRpsSfHoldoff_within,
   frame_of_within fun _ _ => execWtrExpiry_within,
   frame_of_within fun _ _ => execRpsDramOn_within,
   frame_of_within fun _ _ => execSwRequest_within,
   frame_of_within fun _ _ => execSwRequestDeadline_within,
   frame_of_within fun _ _ => execSwToggle_within,
   frame_of_within fun _ _ => execSwSettleExpiry_within,
   fun _ => frame_of_within fun _ _ => execSwDone_within,
   frame_of_within fun _ _ => execSwUnilateral_within,
   fun _ c _ => fesWrite_frame (fun _ => rfl) (by cases c <;> decide) (by cases c <;> decide),
   fun _ _ => frame_of_within fun _ _ => execModuleReady_within,
   fun _ c => fesWrite_frame (fun _ => rfl) (by cases c <;> decide) (by cases c <;> decide),
   fun _ _ => frame_of_within fun _ _ => execWavelengthLock_within,
   fun _ => frame_of_within fun _ _ => execTxReadyEntry_within,
   fun _ c => fesWrite_frame (fun _ => rfl) (by cases c <;> decide) (by cases c <;> decide),
   fun _ => frame_of_within fun _ _ => execTxHoldRelease_within,
   fun _ => frame_of_within fun _ _ => execTxHoldTimeout_within,
   fun _ c => fesWrite_frame (fun _ => rfl) (by cases c <;> decide) (by cases c <;> decide),
   fun _ c => fesWrite_frame (fun _ => rfl) (by cases c <;> decide) (by cases c <;> decide),
   fun _ _ => frame_of_within fun _ _ => execLosReading_within,
   fun _ _ => frame_of_within fun _ _ => execFesFault_within,
   fun _ => frame_of_within fun _ _ => execSafetyHoldState_within,
   fun _ => frame_of_within fun _ _ => execFoMargin_within,
   fun _ _ => frame_of_within fun _ _ => execTiaGainStep_within,
   fun _ _ _ => fesWrite_frame (fun _ => rfl) (by decide) (by decide),
   fun _ _ _ _ _ _ => frame_of_within fun _ _ => execCmisFlagPoll_within,
   fun _ => frame_of_within fun _ _ => execSynUnlock_within,
   fun _ _ _ => frame_of_within fun _ _ => execSynRelock_within,
   fun _ => writeFrame_of_within fun _ _ => execTelTick_by,
   fun _ => writeFrame_of_within fun _ _ => execTelOutput_by,
   fun _ => writeFrame_of_within fun _ _ => execTelSync_by,
   fun _ c => telWrite_frame (fun _ => rfl) (by cases c <;> decide) (by cases c <;> decide),
   fun _ => frame_of_within fun _ _ => execLearnDone_within,
   fun _ c _ => telWrite_frame (fun _ => rfl) (by cases c <;> decide) (by cases c <;> decide),
   fun _ c => telWrite_frame (fun _ => rfl) (by cases c <;> decide) (by cases c <;> decide),
   fun _ _ _ => telWrite_frame (fun _ => rfl) (by decide) (by decide),
   frame_of_within fun _ _ => execRingDrop_within,
   fun _ => frame_of_within fun _ _ => execCastTrigger_within,
   fun _ => writeFrame_of_block (fun _ => rfl) fun _ _ => castWritten_within,
   frame_of_within fun _ _ => execCastHeldTrigger_within,
   frame_of_within fun _ _ => execCastWindowEnd_within,
   frame_of_within fun _ _ => execCastCommit_within,
   frame_of_within fun _ _ => execSnapshotEnd_within⟩

end Sys2Proof.Control
end

section
/-! SUPPORT. The frames of the client side, the host link, the cores, Tally, the memories and the Archive. -/
namespace Sys2Proof.Control

open Sys2Proof Sys2Proof.Machine Sys2Proof.Safety Sys2Proof.Architecture

/-- A write of a client lane's register and the checker of its lane. -/
theorem clxWrite_frame {o : Origin} {n : Fin 16} {off : Nat} {v : State → Word} {c : Instr}
    (hc : ∀ s, exec c s = endsIn s (busWrite o (pageBase (.clx n) + off) (v s) [] s)) (hlo : 0x40 ≤ off) (hhi : off < 0x1000) :
    WriteFrame c (fun q => wrotePage q || (q matches .clx _ | .cpc _))
      (fun s t => { wroteState s t with checkers := t.checkers }) :=
  writeFrame_of_block (hlo := hlo) (hhi := hhi) (hp := by change pageBit (.clx 0) ||| _ = _; decide) hc
    fun _ _ => clxWritten_within

/-- A write of the host link's register stays within what any write can change. -/
theorem hlkWrite_by {o : Origin} {off : Nat} {v : Word} {s : State} (hd : s.stepsDue = []) (hlo : 0x40 ≤ off)
    (hhi : off < 0x1000) : Within anyWrite s (busWrite o (pageBase .hlk + off) v [] s) :=
  busWrite_by_block (p := .hlk) (Within.refl _ _) hd hlo hhi rfl rfl rfl (fun _ _ => rfl)
    fun _ _ _ hu => hlkWritten_within hu rfl

/-- The write that starts an eye scan of the host link is one of any write's, so it keeps the client lanes' frame. -/
theorem execEyeStart_hlk {o : Origin} {w : Word} {s t : State} (hd : s.stepsDue = [])
    (e : exec (.eyeStart o none w) s = .next t) : Within (anyWrite ||| 118842243771401010127382249504) s t :=
  within_of_endsIn ((hlkWrite_by hd (by decide) (by decide)).mono (part_left _ _)) e

/-- A write of a Tally's register and its sample memory. -/
theorem tallyWrite_frame {o : Origin} {n : Fin 8} {off : Nat} {v : State → Word} {c : Instr}
    (hc : ∀ s, exec c s = endsIn s (busWrite o (pageBase (.tly n) + off) (v s) [] s)) (hlo : 0x40 ≤ off) (hhi : off < 0x1000) :
    WriteFrame c (fun q => wrotePage q || (q matches .tly _ | .arm)) (fun s t => { wroteState s t with samples := t.samples }) :=
  writeFrame_of_block (hlo := hlo) (hhi := hhi) (hp := by change pageBit (.tly 0) ||| _ = _; decide) hc
    fun _ _ => tallyWritten_within

/-- FCLR and FCLR_HI lie after the semaphores of page ARM, so their write clears the fabric's counters alone. -/
theorem blockWritten_fabric {K : Nat} {o : Origin} {hi : Bool} {old new : Word} {env : List Int} {s0 s : State}
    (h : Within K s0 s) (hk : 1901475900342344102245054808064 ||| K = K) :
    Within K s0 (blockWritten o .arm (if hi then ARM.FCLR_HI.CLR.off else ARM.FCLR.CLR.off) old new env s) := by
  have hsem : ¬ (0x100 ≤ (if hi then ARM.FCLR_HI.CLR.off else ARM.FCLR.CLR.off) ∧
      (if hi then ARM.FCLR_HI.CLR.off else ARM.FCLR.CLR.off) < 0x200) := by
    cases hi <;> decide
  simp only [blockWritten, if_neg hsem]
  exact fabricWritten_within h hk

/-- Settles O59: each frame is what the law of its command gives; a command that writes a register has its block's effect besides
what any write can change. -/
theorem clientCoreAndMemoryFrames : Obligations.ClientCoreAndMemoryFrames :=
  ⟨fun _ _ => frame_of_within fun _ _ => execIdleDelete_within,
   fun _ _ _ _ => frame_of_within fun _ _ => execIdleInsert_within,
   fun _ _ _ _ => frame_of_within fun _ _ => execIngressPortState_within,
   fun _ _ _ => frame_of_within fun _ _ => execEgressPortState_by,
   fun _ _ => frame_of_within fun _ _ => execEgressFaultHold_within,
   fun _ _ => frame_of_within fun _ _ => execClxRxState_within,
   fun _ => frame_of_within fun _ _ => execClxRxTimeout_within,
   fun _ => frame_of_within fun _ _ => execEiExit_within,
   fun _ _ => frame_of_within fun _ _ => execChkBitCompare_by,
   fun _ _ _ => clxWrite_frame (fun _ => rfl) (by decide) (by decide),
   fun _ => frame_of_within fun _ _ => execClxInjectPeriodic_by,
   fun _ lane _ => by
    cases lane with
    | none => exact writeFrame_of_within fun _ _ => execEyeStart_hlk
    | some n => exact clxWrite_frame (fun _ => rfl) (by decide) (by decide),
   fun _ _ => frame_of_within fun _ _ => execEyeDone_within,
   fun _ => frame_of_within fun _ _ => execEyeAbandon_within,
   bareFrame_of_within (fun _ => rfl) (fun _ => rfl) fun _ _ =>
    execPerstRelease_within,
   fun _ => writeFrame_of_within fun _ _ hd => within_of_endsIn (hlkWrite_by hd (by decide) (by decide)),
   fun _ _ => frame_of_within fun _ _ => execLinkRecovery_within,
   frame_of_within fun _ _ => execCreditStall_within,
   fun _ => frame_of_within fun _ _ => execCxlMemRead_within,
   fun _ _ => frame_of_within fun _ _ => execCxlMemWrite_within,
   fun _ => bareFrame_of_within (fun _ => rfl) (fun _ => regs_mboxCommand rfl) fun _ _ =>
    execGetEventRecords_within,
   fun _ _ _ => bareFrame_of_within (fun _ => rfl) (regs_clearEventRecords _ _ _) fun _ _ =>
    execClearEventRecords_within,
   bareFrame_of_within (fun _ => rfl) (fun _ => regs_mboxCommand rfl) fun _ _ =>
    execGetEventInterruptPolicy_within,
   fun _ _ _ _ => bareFrame_of_within (fun _ => rfl) (fun _ => regs_mboxCommand rfl) fun _ _ =>
    execSetEventInterruptPolicy_within,
   bareFrame_of_within (fun _ => rfl) (fun _ => regs_mboxCommand rfl) fun _ _ =>
    execGetFwInfo_within,
   fun _ _ _ _ => frame_of_within fun _ _ => execTransferFw_within,
   fun _ _ => frame_of_within fun _ _ => execActivateFw_within,
   bareFrame_of_within (fun _ => rfl) (fun _ => regs_mboxCommand rfl) fun _ _ =>
    execGetTimestamp_within,
   bareFrame_of_within (fun _ => rfl) (fun _ => regs_mboxCommand rfl) fun _ _ =>
    execGetSupportedLogs_within,
   fun _ => bareFrame_of_within (fun _ => rfl) (regs_getLog _) fun _ _ =>
    execGetLog_within,
   bareFrame_of_within (fun _ => rfl) (fun _ => regs_mboxCommand rfl) fun _ _ =>
    execIdentifyMemoryDevice_within,
   bareFrame_of_within (fun _ => rfl) (fun _ => regs_mboxCommand rfl) fun _ _ =>
    execGetHealthInfo_within,
   fun _ => bareFrame_of_within (fun _ => rfl) (regs_submitCapsuleCmd _) fun _ _ =>
    execSubmitCapsuleCmd_within,
   fun _ => bareFrame_of_within (fun _ => rfl) (fun _ => regs_vendorRequest (regs_getResult _ _)) fun _ _ =>
    execGetCapsuleResult_within,
   fun _ => bareFrame_of_within (fun _ => rfl) (fun _ => regs_vendorRequest (regs_getAttest _ _)) fun _ _ =>
    execGetAttestationReport_within,
   fun _ => bareFrame_of_within (fun _ => rfl) (fun _ => regs_vendorRequest (regs_getJournalSig _ _)) fun _ _ =>
    execGetJournalSignature_within,
   fun _ => frame_of_within fun _ _ => execReadArchiveObject_within,
   fun _ => bareFrame_of_within (fun _ => rfl) (fun _ => regs_vendorRequest (regs_getCert _ _)) fun _ _ =>
    execGetDeviceCertificate_within,
   bareFrame_of_within (fun _ => rfl) (fun _ => regs_mboxCommand rfl) fun _ _ =>
    execUnsupportedOpcode_within,
   frame_of_within fun _ _ => execMboxBackgroundDone_within,
   fun _ _ => frame_of_within fun _ _ => execIdeKeyChange_within,
   frame_of_within fun _ _ => execPerstNAssert_within,
   fun _ _ _ => frame_of_within fun _ _ => execHostLinkUp_within,
   fun _ _ => bareFrame_of_within (fun _ => rfl) (regs_laneMargin _ _) fun _ _ =>
    execLaneMarginingCommand_within,
   fun vector => by
    cases vector with
    | none => exact bareFrame_of_within (fun _ => rfl) regs_unmaskFunction fun _ _ =>
      execMsixUnmask_within (vector := none)
    | some v => exact bareFrame_of_within (fun _ => rfl) (regs_unmaskVector · _) fun _ _ =>
      execMsixUnmask_within (vector := some v),
   fun _ => frame_of_within fun _ _ => execInterruptEntry_within,
   fun _ _ _ _ => frame_of_within fun _ _ => execTrapEntry_within,
   fun _ => bareFrame_of_within (fun _ => rfl) (regs_waitWake _) fun _ _ =>
    execWaitWake_within,
   fun _ _ => frame_of_within fun _ _ => execDmaDescriptor_within,
   fun _ _ _ => bareFrame_of_within (fun _ => rfl) (fun _ => rfl) fun _ _ =>
    execDmaTailWrite_within,
   fun _ _ => bareFrame_of_within (fun _ => rfl) (fun _ => rfl) fun _ _ =>
    execDmaResume_within,
   fun _ _ _ => writeFrame_of_block (hp := by change pageBit (.rk 0) ||| _ = _; decide) (fun _ => rfl) fun _ _ => coreWritten_load,
   fun _ => frame_of_within fun _ _ => execLoadVerifyDone_within,
   fun _ _ _ _ => writeFrame_of_within fun _ _ => execDebugWindowWrite_by,
   fun _ _ _ => frame_of_within fun _ _ => execDebugWindowRead_within,
   fun _ => frame_of_within fun _ _ => execTallyTick_within,
   fun _ _ _ => tallyWrite_frame (fun _ => rfl) (by decide) (by decide),
   fun _ _ _ => tallyWrite_frame (fun _ => rfl) (by decide) (by decide),
   fun _ _ => tallyWrite_frame (fun _ => rfl) (by decide) (by decide),
   fun _ _ => frame_of_within fun _ _ => execSampleD0Read_within,
   fun _ _ => frame_of_within fun _ _ => execSampleD3Read_within,
   fun _ hi _ => writeFrame_of_block (hlo := by cases hi <;> decide) (hhi := by cases hi <;> decide) (fun _ => rfl)
    fun _ _ => blockWritten_fabric,
   fun _ => bareFrame_of_within (fun _ => rfl) (regs_scrubAccess _) fun _ _ =>
    execScrubAccess_within,
   fun _ => frame_of_within fun _ _ => execScrubLapEnd_within,
   fun _ => frame_of_within fun _ _ => execLapSlow_within,
   fun _ => frame_of_within fun _ _ => execEccCorrection_within,
   fun _ => bareFrame_of_within (fun _ => rfl) (fun _ => regs_putWatch _ _ _) fun _ _ =>
    execCorrectionWriteback_within,
   fun _ => frame_of_within fun _ _ => execRowRemapCopyDone_within,
   fun _ _ => frame_of_within fun _ _ => execGranuleFirstWrite_within,
   fun _ => bareFrame_of_within (fun _ => rfl) (fun _ => rfl) fun _ _ =>
    execGranuleFillDone_within,
   fun _ => frame_of_within fun _ _ => execUninitialisedRead_within,
   fun _ _ => writeFrame_of_ringFollow (fun _ => rfl) flashTimeout_within,
   fun _ _ _ _ => writeFrame_of_ringFollow (fun _ => rfl) flashRead_within,
   writeFrame_of_block (fun _ => rfl) fun _ _ => arcWritten_within,
   writeFrame_of_ringFollow (fun _ => rfl) formatDone_within,
   fun _ _ => writeFrame_of_ringFollow (fun _ => rfl) grownBad_within,
   fun _ _ => writeFrame_of_ringFollow (fun _ => rfl) wearLevelMove_within,
   fun _ _ => writeFrame_of_ringFollow (fun _ => rfl) flashRefresh_within,
   fun _ => writeFrame_of_ringFollow (fun _ => rfl) readDisturb_within,
   fun _ => writeFrame_of_within fun _ _ _ => execRingBudgetEval_by,
   fun _ _ => frame_of_within fun _ _ => execMramCommit_within⟩

end Sys2Proof.Control
end

section
/-! SUPPORT. Which registers an operation leaves, word by word: the journal's own registers, and what an entry puts into them (R59 to
R65). -/
namespace Sys2Proof.Control

open Sys2Proof Sys2Proof.Machine Sys2Proof.Safety Sys2Proof.Architecture

/-! ## Registers kept -/

/-- From `s` to `t` no register changes but those at the offsets that `T` names on their pages. -/
def Keeps (T : Page → Nat → Bool) (s t : State) : Prop := ∀ q k, T q (k % 0x1000) = false → word t q k = word s q k

namespace Keeps

variable {T : Page → Nat → Bool} {s0 s : State}

theorem refl (T : Page → Nat → Bool) (s : State) : Keeps T s s := fun _ _ _ => rfl

theorem trans {t u : State} (h : Keeps T s t) (h' : Keeps T t u) : Keeps T s u :=
  fun q k hk => (h' q k hk).trans (h q k hk)

theorem of_regs {t : State} (h : Keeps T s0 s) (hr : t.regs = s.regs) : Keeps T s0 t :=
  fun q k hk => (word_of_regs hr q k).trans (h q k hk)

theorem mono {T' : Page → Nat → Bool} (h : Keeps T s0 s) (hT : ∀ q k, T' q k = false → T q k = false) : Keeps T' s0 s :=
  fun q k hk => h q k (hT q _ hk)

theorem setWord {p : Page} {off : Nat} {w : Word} (h : Keeps T s0 s) (hT : T p (off % 0x1000) = true) :
    Keeps T s0 (setWord s p off w) := fun q k hk => by
  by_cases hq : p = q
  · subst hq
    have hoff : off % 0x1000 ≠ k % 0x1000 := fun he => by rw [he, hk] at hT; exact absurd hT (by decide)
    exact (word_setWord_off s p _ _ _ hoff).trans (h p k hk)
  · exact (word_setWord_page s p q _ _ _ hq).trans (h q k hk)

theorem set {p : Page} {f : Field} {v : Nat} (h : Keeps T s0 s) (hT : T p (f.off % 0x1000) = true) :
    Keeps T s0 (s.set p f v) := h.setWord hT

theorem setPair {p : Page} {lo hi : Field} {v : Nat} (h : Keeps T s0 s) (hlo : T p (lo.off % 0x1000) = true)
    (hhi : T p (hi.off % 0x1000) = true) : Keeps T s0 (s.setPair p lo hi v) := (h.set hlo).set hhi

theorem raise {p : Page} {b : Nat} (h : Keeps T s0 s) (hT : T p HDR.EVT_RAW.EVT.off = true) : Keeps T s0 (s.raise p b) :=
  h.set (f := HDR.EVT_RAW.EVT) hT

theorem ite {c : Prop} [Decidable c] {x y : State} (hx : Keeps T s0 x) (hy : Keeps T s0 y) :
    Keeps T s0 (if c then x else y) := by
  split <;> assumption

theorem get {p : Page} {f : Field} (h : Keeps T s0 s) (hT : T p (f.off % 0x1000) = false) : s.get p f = s0.get p f :=
  get_of_word (h p f.off hT)

end Keeps

/-! ## The journal's registers -/

/-- The registers that an entry, a spill and a count of a lost entry change: CJ's own and the count of written granules. -/
def journalWords (p : Page) (off : Nat) : Bool :=
  match p with
  | .cj => [HDR.EVT_RAW.EVT.off, CJ.NEXT_LO.SEQ_NO.off, CJ.NEXT_HI.SEQ_NO.off, CJ.FILL.COUNT.off, CJ.OLDEST_LO.SEQ_NO.off,
      CJ.OLDEST_HI.SEQ_NO.off, CJ.LOSS.ENTRIES.off].contains off
  | .lpm => off == LPM.INIT_GRAN.COUNT.off
  | _ => false

theorem regs_requestSignature (s : State) (seqNo ns : Nat) : (requestSignature s seqNo ns).regs = s.regs := by
  unfold requestSignature
  dsimp only
  split <;> rfl

/-- Near the reserve the journal sets its mark and raises RESERVE (R65). -/
theorem keeps_reserve {s0 s : State} (h : Keeps journalWords s0 s) : Keeps journalWords s0
    (State.raise { s with journal := { s.journal with inReserve := true } } .cj CJ.EVT.RESERVE) :=
  Keeps.raise (h.of_regs rfl) (by decide)

/-- The head after an entry (R61). -/
def headAfter (s : State) (addr : Nat) (old new info : Word) : BitVec 256 :=
  Config.shake256 256 (leBytes 32 s.journal.head.toNat ++
    entryBytes s.nowNs s.nextSeq addr old new info (BitVec.ofNat 32 s.journal.head.toNat))

/-- The journal with an entry in its buffer and in its chain (R59, R61). -/
def chainEntry (addr : Nat) (old new info : Word) (s : State) : State :=
  { s with journal := { s.journal with
      head := headAfter s addr old new info
      buffer := s.journal.buffer ++ [⟨s.nowNs, s.nextSeq, addr, old, new, info, BitVec.ofNat 32 s.journal.head.toNat,
        headAfter s addr old new info⟩] } }

/-- What follows of an entry: NEXT, FILL, a signature that is due (R62) and the reserve (R65). -/
def noteReserve (s : State) : State :=
  if onlyReserve s && !s.journal.inReserve then
    State.raise { s with journal := { s.journal with inReserve := true } } .cj CJ.EVT.RESERVE
  else s

def noteEntry (seqNo : Nat) (s : State) : State :=
  let counted := s.setPair .cj CJ.NEXT_LO.SEQ_NO CJ.NEXT_HI.SEQ_NO (seqNo + 1)
  let filled := counted.set .cj CJ.FILL.COUNT counted.journal.buffer.length
  noteReserve (if seqNo % 65536 = 0 then requestSignature filled seqNo filled.nowNs else filled)

theorem enterEntry_eq (s : State) (addr : Nat) (old new info : Word) :
    enterEntry s addr old new info = noteEntry s.nextSeq (chainEntry addr old new info s) := rfl

theorem keeps_noteReserve {s0 s : State} (h : Keeps journalWords s0 s) : Keeps journalWords s0 (noteReserve s) :=
  Keeps.ite (keeps_reserve h) h

theorem keeps_noteEntry {s0 s : State} {seqNo : Nat} (h : Keeps journalWords s0 s) :
    Keeps journalWords s0 (noteEntry seqNo s) := by
  have hfilled (n : Nat) : Keeps journalWords s0
      ((s.setPair .cj CJ.NEXT_LO.SEQ_NO CJ.NEXT_HI.SEQ_NO (seqNo + 1)).set .cj CJ.FILL.COUNT n) :=
    (h.setPair (by decide) (by decide)).set (by decide)
  exact keeps_noteReserve (Keeps.ite ((hfilled _).of_regs (regs_requestSignature _ _ _)) (hfilled _))

/-- An entry changes NEXT, FILL and, near the reserve, the page's events (R59, R65). -/
theorem keeps_enterEntry {s0 s : State} {addr : Nat} {old new info : Word} (h : Keeps journalWords s0 s) :
    Keeps journalWords s0 (enterEntry s addr old new info) := by
  rw [enterEntry_eq]
  exact keeps_noteEntry (h.of_regs rfl)

theorem keeps_markGranule {s0 s : State} {a : Nat} (h : Keeps journalWords s0 s) :
    Keeps journalWords s0 (markGranule s a) := by
  unfold markGranule
  exact Keeps.ite h (Keeps.set (h.of_regs rfl) (by decide))

theorem keeps_noteOldest {s0 s : State} {kept : List JournalEntry} (h : Keeps journalWords s0 s) :
    Keeps journalWords s0 (noteOldest kept s) := by
  cases kept with
  | nil => exact h
  | cons e _ => exact h.setPair (by decide) (by decide)

/-- A spill changes FILL, OLDEST and the granules that the ring reaches (R63). -/
theorem keeps_spillEntries {s0 s : State} {n : Nat} (h : Keeps journalWords s0 s) :
    Keeps journalWords s0 (spillEntries s n).1 := by
  unfold spillEntries
  extract_lets -merge -useContext ring older lost kept marked journal moved filled
  clear_value lost kept
  have hmarked : Keeps journalWords s0 marked := List.foldlRecOn _ _ h fun _ hu _ _ => keeps_markGranule hu
  clear_value marked
  have hfilled : Keeps journalWords s0 filled := Keeps.set (s := moved) (hmarked.of_regs rfl) (by decide)
  clear_value filled
  exact keeps_noteOldest hfilled

theorem keeps_spillJournal {s0 s : State} {n : Nat} (h : Keeps journalWords s0 s) :
    Keeps journalWords s0 (spillJournal s n) := by
  have hspilled := keeps_spillEntries (n := n) h
  unfold spillJournal
  exact Keeps.ite hspilled (Keeps.raise (keeps_enterEntry (hspilled.set (by decide))) (by decide))

theorem keeps_appendEntry {s0 s : State} {addr : Nat} {old new info : Word} (h : Keeps journalWords s0 s) :
    Keeps journalWords s0 (appendEntry s addr old new info) := by
  unfold appendEntry
  exact keeps_enterEntry (Keeps.ite (keeps_spillJournal h) h)

/-! ## What an entry puts into the journal -/

/-- An entry that is appended is the newest one, whatever the buffer spilled first (R59, R63). -/
theorem newestEntry_appendEntry (s : State) (addr : Nat) (old new info : Word) :
    NewestEntry addr old new info s.nowNs (appendEntry s addr old new info) := by
  unfold appendEntry
  extract_lets -merge -useContext spilled
  have htime : spilled.nowNs = s.nowNs :=
    (Within.ite (spillJournal_within (Within.refl journalParts s) (Nat.or_self _)) (Within.refl _ s)).nowNs (by decide)
  rw [← htime]
  exact newestEntry_enterEntry _ _ _ _ _

theorem head_requestSignature (s : State) (seqNo ns : Nat) : (requestSignature s seqNo ns).journal.head = s.journal.head := by
  unfold requestSignature
  dsimp only
  split <;> rfl

theorem nextSeq_of_word {s t : State} (hlo : word t .cj CJ.NEXT_LO.SEQ_NO.off = word s .cj CJ.NEXT_LO.SEQ_NO.off)
    (hhi : word t .cj CJ.NEXT_HI.SEQ_NO.off = word s .cj CJ.NEXT_HI.SEQ_NO.off) : t.nextSeq = s.nextSeq := by
  rw [State.nextSeq, State.nextSeq, State.pair, State.pair, get_of_word hlo, get_of_word hhi]

theorem nextSeq_of_regs {s t : State} (h : t.regs = s.regs) : t.nextSeq = s.nextSeq :=
  nextSeq_of_word (word_of_regs h _ _) (word_of_regs h _ _)

theorem nextSeq_setPair (s : State) (v : Nat) :
    (s.setPair .cj CJ.NEXT_LO.SEQ_NO CJ.NEXT_HI.SEQ_NO v).nextSeq = v % 2 ^ 40 := by
  have hlo : (s.setPair .cj CJ.NEXT_LO.SEQ_NO CJ.NEXT_HI.SEQ_NO v).get .cj CJ.NEXT_LO.SEQ_NO = v % 2 ^ 32 :=
    (get_of_word (word_set_off _ _ _ _ _ _ (by decide))).trans (get_set_same _ _ _ _ (by decide))
  have hhi : (s.setPair .cj CJ.NEXT_LO.SEQ_NO CJ.NEXT_HI.SEQ_NO v).get .cj CJ.NEXT_HI.SEQ_NO = v / 2 ^ 32 % 2 ^ 8 :=
    get_set_same _ _ _ _ (by decide)
  rw [State.nextSeq, State.pair, hlo, hhi]
  simp only [CJ.NEXT_LO.SEQ_NO]
  omega

theorem nextSeq_raise (s : State) (p : Page) (b : Nat) : (s.raise p b).nextSeq = s.nextSeq :=
  nextSeq_of_word (word_set_off _ _ _ HDR.EVT_RAW.EVT _ _ (by decide)) (word_set_off _ _ _ HDR.EVT_RAW.EVT _ _ (by decide))

theorem nextSeq_noteReserve (s : State) : (noteReserve s).nextSeq = s.nextSeq := by
  unfold noteReserve
  split
  · exact (nextSeq_raise _ _ _).trans (nextSeq_of_regs rfl)
  · rfl

theorem head_noteReserve (s : State) : (noteReserve s).journal.head = s.journal.head := by
  unfold noteReserve
  split <;> rfl

theorem nextSeq_noteEntry (s : State) (seqNo : Nat) : (noteEntry seqNo s).nextSeq = (seqNo + 1) % 2 ^ 40 := by
  have hfilled (n : Nat) : ((s.setPair .cj CJ.NEXT_LO.SEQ_NO CJ.NEXT_HI.SEQ_NO (seqNo + 1)).set .cj CJ.FILL.COUNT n).nextSeq =
      (seqNo + 1) % 2 ^ 40 :=
    (nextSeq_of_word (word_set_off _ _ _ _ _ _ (by decide)) (word_set_off _ _ _ _ _ _ (by decide))).trans
      (nextSeq_setPair s (seqNo + 1))
  unfold noteEntry
  rw [nextSeq_noteReserve]
  split
  · exact (nextSeq_of_regs (regs_requestSignature _ _ _)).trans (hfilled _)
  · exact hfilled _

theorem head_noteEntry (s : State) (seqNo : Nat) : (noteEntry seqNo s).journal.head = s.journal.head := by
  unfold noteEntry
  rw [head_noteReserve]
  split
  · exact head_requestSignature _ _ _
  · rfl

/-- An entry takes the next sequence number and advances the head (R59, R61). -/
theorem nextSeq_enterEntry (s : State) (addr : Nat) (old new info : Word) :
    (enterEntry s addr old new info).nextSeq = (s.nextSeq + 1) % 2 ^ 40 := by
  rw [enterEntry_eq, nextSeq_noteEntry]

theorem head_enterEntry (s : State) (addr : Nat) (old new info : Word) :
    (enterEntry s addr old new info).journal.head = headAfter s addr old new info := by
  rw [enterEntry_eq, head_noteEntry]
  rfl

/-- While the buffer has room nothing spills, so one entry advances the chain (R63). -/
theorem appendEntry_of_room {s : State} {addr : Nat} {old new info : Word} (h : s.journal.buffer.length < journalBuffer) :
    appendEntry s addr old new info = enterEntry s addr old new info := by
  rw [appendEntry, if_neg (Nat.not_le.mpr h)]

end Sys2Proof.Control
end

section
/-! SUPPORT. Refused writes on every page: what is counted, described and journalled, and the path that leads there (R49, R51). -/
namespace Sys2Proof.Control

open Sys2Proof Sys2Proof.Machine Sys2Proof.Safety Sys2Proof.Architecture

/-! ## The ring's rate -/

theorem telCfg_block {n : Nat} (hn : n < 64) (f : Field) (hoff : f.off = 0x100) (hstride : f.stride = 4) :
    0x40 ≤ (f.at n).off % 0x1000 := by
  simp only [Field.at, hoff, hstride]
  omega

/-- The ring's inputs lie outside the headers of ARC and TEL (R444). -/
theorem ringInputs_of_words {s t : State}
    (h : ∀ q k, q = .arc ∨ q = .tel → 0x40 ≤ k % 0x1000 → word t q k = word s q k) : ringInputs t = ringInputs s := by
  have harc (f : Field) (hf : 0x40 ≤ f.off % 0x1000) : t.get .arc f = s.get .arc f := get_of_word (h .arc _ (.inl rfl) hf)
  have htel (f : Field) (hf : 0x40 ≤ f.off % 0x1000) : t.get .tel f = s.get .tel f := get_of_word (h .tel _ (.inr rfl) hf)
  have hon : ∀ n ∈ List.range 64,
      (t.get .tel (TEL.CH_CFG.EN.at n) == 1 && t.get .tel (TEL.CH_CFG.CAST.at n) == 1) =
        (s.get .tel (TEL.CH_CFG.EN.at n) == 1 && s.get .tel (TEL.CH_CFG.CAST.at n) == 1) := fun n hn => by
    have hlt := List.mem_range.mp hn
    rw [htel _ (telCfg_block hlt TEL.CH_CFG.EN rfl rfl), htel _ (telCfg_block hlt TEL.CH_CFG.CAST rfl rfl)]
  have hrate : ringRate t = ringRate s := by
    unfold ringRate
    rw [List.filter_congr hon]
    refine congrArg (fun l => 8000000 * sumNat l / 2 ^ 42) (List.map_congr_left fun n hn => ?_)
    rw [telK, telK, htel _ (telCfg_block (List.mem_range.mp (List.mem_of_mem_filter hn)) TEL.CH_CFG.K rfl rfl)]
  simp only [ringInputs, hrate, harc ARC.ENDURANCE.CYCLES (by decide), harc ARC.LIFE.TARGET (by decide),
    harc ARC.CAP.GB (by decide)]

theorem ringFollow_of_words {s t : State}
    (h : ∀ q k, q = .arc ∨ q = .tel → 0x40 ≤ k % 0x1000 → word t q k = word s q k) : ringFollow s t = t := by
  simp [ringFollow, ringInputs_of_words h]

/-! ## The path of a write -/

theorem pageBase_lt (p : Page) : pageBase p < 0x100000 := by
  cases p with
  | txp c | cdc c | eqz c | trc c | cpr c | mls c | dmp c | fec c | lfm c | cry c | cpc c =>
    cases c <;> simp [pageBase, Carrier.idx]
  | _ => simp [pageBase] <;> omega

/-- A write of a whole word of a page goes over the register bus. -/
theorem exec_registerWrite {o : Origin} {p : Page} {off : Nat} {w : Word} {readings : List Int} {s : State}
    (hoff : off < 0x1000) (halign : off % 4 = 0) :
    exec (.registerWrite o (pageBase p + off) w readings) s = endsIn s (busWrite o (pageBase p + off) w readings s) := by
  have hbase := pageBase_dvd p
  have hin : inBar0 (pageBase p + off) = true := decide_eq_true (by have := pageBase_lt p; omega)
  change execRegisterWrite _ _ _ _ _ = _
  rw [execRegisterWrite, hin, if_pos rfl, if_pos (by omega)]

/-- A write that leaves the blocks of ARC and TEL and the waiting STEP strobes ends with what its page does. -/
theorem busWrite_eq_of_words {o : Origin} {p : Page} {off : Nat} {v : Word} {env : List Int} {s : State} (hoff : off < 0x1000)
    (hready : o = .host → s.hostReady = true) (hd : s.stepsDue = [])
    (hsteps : (writePage o p off v env (reached o p off s)).stepsDue = (reached o p off s).stepsDue)
    (h : ∀ q k, q = .arc ∨ q = .tel → 0x40 ≤ k % 0x1000 →
      word (writePage o p off v env (reached o p off s)) q k = word (reached o p off s) q k) :
    busWrite o (pageBase p + off) v env s = writePage o p off v env (reached o p off s) := by
  simp only [busWrite, tooEarly_eq_false hready, Bool.false_eq_true, if_false, writeSettled, writeReg]
  rw [writeOnce_page hoff, ringFollow_of_words h, settle_of_none (hsteps.trans (reached_stepsDue hd))]

theorem reached_pending (o : Origin) (p : Page) (off : Nat) (s : State) : (reached o p off s).pending = s.pending :=
  (busAccess_within (Within.refl wakeParts s) (Nat.or_self _)).pending (by decide)

/-- A command whose meaning leaves the queue ends in the state that its meaning computes. -/
theorem ends_of_pending {c : Instr} {s u : State} {P : State → Prop} (hc : exec c s = endsIn s u)
    (hpending : u.pending = s.pending) (h : P u) : Ends c s P :=
  ends_of_endsIn hc (by rw [← hpending]; exact h)

/-! ## What a refusal changes -/

/-- The registers that a noted refusal can change (R42). -/
def notedWords (p : Page) (q : Page) (k : Nat) : Bool := q == p && k == HDR.REFUSED_WR.COUNT.off

/-- The registers that a refusal of page `p` for a rule of its own can change: its REFUSED_WR and the journal's (R51). -/
def refusedWords (p : Page) (q : Page) (k : Nat) : Bool := journalWords q k || notedWords p q k

/-- The registers that a refusal by a self-test can change: BST.OD_DENY and the journal's (R538). -/
def deniedWords (q : Page) (k : Nat) : Bool := journalWords q k || q == .bst && k == BST.OD_DENY.WR.off

theorem keeps_noteRefused {o : Origin} {p : Page} {off : Nat} {r : Reason} {s0 s : State} (h : Keeps (notedWords p) s0 s) :
    Keeps (notedWords p) s0 (noteRefused o p off r s) := by
  have hp : ∀ f : Field, f.off % 0x1000 = HDR.REFUSED_WR.COUNT.off → notedWords p p (f.off % 0x1000) = true := fun f hf => by
    simp [notedWords, hf]
  unfold noteRefused
  exact (((h.set (hp _ rfl)).set (hp _ rfl)).set (hp _ rfl)).set (hp _ rfl)

/-- A refusal for a rule of the page, in the page's record and then in the journal (R51). -/
theorem refuseWrite_noted {o : Origin} {p : Page} {off : Nat} {v : Word} {r : Reason} {s : State} (hbist : r ≠ .bist)
    (hfull : r ≠ .journalFull) : refuseWrite o p off v r s =
      journalRefused (noteRefused o p off r (s.countFabric 0x69 1)) o (pageBase p + off) (shownWord s o p off) v r := by
  cases r with
  | bist => exact absurd rfl hbist
  | journalFull => exact absurd rfl hfull
  | _ => rfl

/-- The journal leaves the registers outside CJ and LPM. -/
theorem journalWords_of_ne {q : Page} {k : Nat} (hcj : q ≠ .cj) (hlpm : q ≠ .lpm) : journalWords q k = false := by
  cases q with
  | cj => exact absurd rfl hcj
  | lpm => exact absurd rfl hlpm
  | _ => rfl

/-- It leaves the record of refusals of every page. -/
theorem journalWords_refusedWr (q : Page) : journalWords q HDR.REFUSED_WR.COUNT.off = false := by
  cases q with
  | cj | lpm => decide
  | _ => rfl

theorem refuseWrite_bist (o : Origin) (p : Page) (off : Nat) (v : Word) (s : State) : refuseWrite o p off v .bist s =
    journalRefused ((s.countFabric 0x69 1).bump .bst BST.OD_DENY.WR) o (pageBase p + off) 0 v .bist := by
  simp only [refuseWrite]

theorem keeps_refuseWrite_noted {o : Origin} {p : Page} {off : Nat} {v : Word} {r : Reason} {s : State} (hbist : r ≠ .bist)
    (hfull : r ≠ .journalFull) : Keeps (refusedWords p) s (refuseWrite o p off v r s) := by
  rw [refuseWrite_noted hbist hfull]
  have hnoted : Keeps (notedWords p) s (noteRefused o p off r (s.countFabric 0x69 1)) :=
    keeps_noteRefused ((Keeps.refl _ s).of_regs rfl)
  exact (hnoted.mono fun _ _ h => (Bool.or_eq_false_iff.mp h).2).trans
    ((keeps_appendEntry (Keeps.refl _ _)).mono fun _ _ h => (Bool.or_eq_false_iff.mp h).1)

theorem keeps_refuseWrite_bist (o : Origin) (p : Page) (off : Nat) (v : Word) (s : State) :
    Keeps deniedWords s (refuseWrite o p off v .bist s) := by
  have hdeny : Keeps deniedWords s ((s.countFabric 0x69 1).bump .bst BST.OD_DENY.WR) :=
    Keeps.set ((Keeps.refl _ s).of_regs rfl) rfl
  rw [refuseWrite_bist]
  exact hdeny.trans ((keeps_appendEntry (Keeps.refl _ _)).mono fun _ _ h => (Bool.or_eq_false_iff.mp h).1)

/-- The same where the journal is full: CJ.LOSS alone. -/
def lossWords (q : Page) (k : Nat) : Bool := q == .cj && k == CJ.LOSS.UNLOGGED.off

theorem keeps_countUnlogged (s : State) : Keeps lossWords s (countUnlogged (s.countFabric 0x69 1)) :=
  Keeps.set ((Keeps.refl _ s).of_regs rfl) (by decide)

/-- A refusal leaves the blocks of ARC and TEL. -/
theorem word_refuseWrite_block {o : Origin} {p q : Page} {off k : Nat} {v : Word} {r : Reason} {s : State}
    (hq : q = .arc ∨ q = .tel) (hk : 0x40 ≤ k % 0x1000) : word (refuseWrite o p off v r s) q k = word s q k := by
  have hcount : HDR.REFUSED_WR.COUNT.off = 0x20 := rfl
  have hblock : (k % 0x1000 == HDR.REFUSED_WR.COUNT.off) = false := beq_eq_false_iff_ne.mpr (by omega)
  have hjournal : journalWords q (k % 0x1000) = false := by obtain rfl | rfl := hq <;> rfl
  by_cases hbist : r = .bist
  · subst hbist
    refine keeps_refuseWrite_bist o p off v s q k ?_
    obtain rfl | rfl := hq <;> rfl
  · by_cases hfull : r = .journalFull
    · subst hfull
      refine keeps_countUnlogged s q k ?_
      obtain rfl | rfl := hq <;> rfl
    · exact keeps_refuseWrite_noted hbist hfull q k (by rw [refusedWords, hjournal, notedWords, hblock, Bool.and_false]; rfl)

theorem refuseWrite_within_all (o : Origin) (p : Page) (off : Nat) (v : Word) (r : Reason) (s : State) :
    Within (refusalParts ||| 5070602400894470861913103269888) s (refuseWrite o p off v r s) :=
  refuseWrite_within (Within.refl _ s) (by decide) (Within.all (Nat.or_self _) p (by decide))

theorem refuseWrite_stepsDue (o : Origin) (p : Page) (off : Nat) (v : Word) (r : Reason) (s : State) :
    (refuseWrite o p off v r s).stepsDue = s.stepsDue := (refuseWrite_within_all o p off v r s).stepsDue (by decide)

/-- A refusal changes registers, the journal with its events and granules, and the counts of events. -/
theorem refuseWrite_eq_parts (o : Origin) (p : Page) (off : Nat) (v : Word) (r : Reason) (s : State) :
    refuseWrite o p off v r s = { s with
      regs := (refuseWrite o p off v r s).regs
      journal := (refuseWrite o p off v r s).journal
      evr := (refuseWrite o p off v r s).evr
      memories := (refuseWrite o p off v r s).memories
      tickEvents := (refuseWrite o p off v r s).tickEvents } :=
  eq_taking_of_within (refuseWrite_within_all o p off v r s)

/-- A write that its page refuses ends with the refusal. -/
theorem ends_of_refused {o : Origin} {p : Page} {off : Nat} {w : Word} {readings : List Int} {s : State} {P : State → Prop}
    (h : Accesses o off s) (hreason : writeReason (reached o p off s) o p off w ≠ .none)
    (hP : P (refuseWrite o p off w (writeReason (reached o p off s) o p off w) (reached o p off s))) :
    Ends (.registerWrite o (pageBase p + off) w readings) s P := by
  obtain ⟨hoff, halign, hready, hsteps⟩ := h
  have hpage : writePage o p off w readings (reached o p off s) =
      refuseWrite o p off w (writeReason (reached o p off s) o p off w) (reached o p off s) := by
    unfold writePage
    split
    · next hnone => exact absurd hnone hreason
    · rfl
  have hbus := busWrite_eq_of_words (p := p) (off := off) (v := w) (env := readings) hoff hready hsteps
    (by rw [hpage, refuseWrite_stepsDue]) (fun q k hq hk => by rw [hpage, word_refuseWrite_block hq hk])
  rw [hpage] at hbus
  refine ends_of_pending ((exec_registerWrite hoff halign).trans (congrArg _ hbus)) ?_ hP
  rw [refuseWrite_eq_parts]
  exact reached_pending o p off s

/-! ## What a refusal records -/

theorem entryInfo_of_keeps {T : Page → Nat → Bool} {s t : State} (h : Keeps T s t) (hT : T .tb TB.STAT.TB_VALID.off = false)
    (origin : Nat) (kind : EntryKind) (reason : Nat) : entryInfo t origin kind reason = entryInfo s origin kind reason := by
  rw [entryInfo, entryInfo, h.get (f := TB.STAT.TB_VALID) hT, h.get (f := TB.STAT.TB_EXTRAPOLATED) hT]

theorem nowNs_noteRefused (o : Origin) (p : Page) (off : Nat) (r : Reason) (s : State) :
    (noteRefused o p off r s).nowNs = s.nowNs := rfl

/-- A refusal for a rule of the page is counted, described and journalled (R42, R51, R59). -/
theorem refused_refuseWrite {o : Origin} {p : Page} {off : Nat} {v : Word} {r : Reason} {s : State} (hoff : off < 0x1000)
    (hbist : r ≠ .bist) (hfull : r ≠ .journalFull) : Refused r o p off v s (refuseWrite o p off v r s) := by
  have hnoted : Keeps (notedWords p) s (noteRefused o p off r (s.countFabric 0x69 1)) :=
    keeps_noteRefused ((Keeps.refl _ s).of_regs rfl)
  have hnew := newestEntry_appendEntry (noteRefused o p off r (s.countFabric 0x69 1)) (pageBase p + off)
    (shownWord s o p off) v (entryInfo (noteRefused o p off r (s.countFabric 0x69 1)) o.code .refused r.code)
  have hrecord (f : Field) (hf : f.off = HDR.REFUSED_WR.COUNT.off) :
      (refuseWrite o p off v r s).get p f = (noteRefused o p off r (s.countFabric 0x69 1)).get p f := by
    rw [refuseWrite_noted hbist hfull]
    exact (keeps_appendEntry (Keeps.refl _ _)).get (by rw [hf]; exact journalWords_refusedWr p)
  rw [entryInfo_of_keeps hnoted (by simp [notedWords, TB.STAT.TB_VALID, HDR.REFUSED_WR.COUNT])] at hnew
  refine ⟨?_, ?_, ?_, ?_, ?_⟩
  · rw [Counted, hrecord _ rfl, count_noteRefused]
    rfl
  · rw [hrecord HDR.REFUSED_WR.LAST_REASON rfl, lastReason_noteRefused]
  · rw [hrecord HDR.REFUSED_WR.LAST_ORIGIN rfl, lastOrigin_noteRefused]
  · rw [hrecord HDR.REFUSED_WR.LAST_WORD rfl, lastWord_noteRefused hoff]
  · rw [refuseWrite_noted hbist hfull, journalRefused,
      entryInfo_of_keeps hnoted (by simp [notedWords, TB.STAT.TB_VALID, HDR.REFUSED_WR.COUNT])]
    exact hnew

/-- A refusal by a self-test is counted in OD_DENY and journalled (R538). -/
theorem journalled_refuseWrite_bist (o : Origin) (p : Page) (off : Nat) (v : Word) (s : State) :
    Journalled (pageBase p + off) 0 v (entryInfo s o.code .refused Reason.bist.code) s.nowNs
      (refuseWrite o p off v .bist s) := by
  have hdeny : Keeps (fun q _ => q == .bst) s ((s.countFabric 0x69 1).bump .bst BST.OD_DENY.WR) :=
    Keeps.set ((Keeps.refl _ s).of_regs rfl) rfl
  rw [refuseWrite_bist, journalRefused, entryInfo_of_keeps hdeny rfl]
  exact newestEntry_appendEntry ((s.countFabric 0x69 1).bump .bst BST.OD_DENY.WR) _ _ _ _

theorem counted_refuseWrite_bist (o : Origin) (p : Page) (off : Nat) (v : Word) (s : State) :
    Counted .bst BST.OD_DENY.WR s (refuseWrite o p off v .bist s) := by
  rw [refuseWrite_bist, Counted, journalRefused, (keeps_appendEntry (Keeps.refl _ _)).get rfl, get_bump_same _ _ _ (by decide)]
  rfl

end Sys2Proof.Control
end

section
/-! SUPPORT. What a refusal leaves (R51), the reason it gives (R49), and the chain of the journal (R61). -/
namespace Sys2Proof.Control

open Sys2Proof Sys2Proof.Machine Sys2Proof.Safety Sys2Proof.Architecture

/-! ## Space that returns (R65) -/

theorem unlogged_noteEntry (s : State) (seqNo : Nat) : (noteEntry seqNo s).journal.unlogged = s.journal.unlogged := by
  have hsigned (u : State) (n k : Nat) : (requestSignature u n k).journal.unlogged = u.journal.unlogged := by
    unfold requestSignature
    dsimp only
    split <;> rfl
  have hreserve (u : State) : (noteReserve u).journal.unlogged = u.journal.unlogged := by
    unfold noteReserve
    split <;> rfl
  unfold noteEntry
  rw [hreserve]
  split
  · exact hsigned _ _ _
  · rfl

/-- The journal with its count of lost entries ended, before the marker that accounts for them. -/
def spaceBack (s : State) : State := { s with journal := { s.journal with inReserve := false, unlogged := 0 } }

/-- Space that returns accounts for the entries lost with one GAP marker; it comes before the buffer is full. -/
theorem journalSpaceReturn_eq {s : State} (hspace : onlyReserve s = false) (hin : s.journal.inReserve = true)
    (hlost : s.journal.unlogged ≠ 0) : journalSpaceReturn s =
      enterEntry (spaceBack s) 0 (BitVec.ofNat 32 s.journal.unlogged) 0 (entryInfo s 0 .marker Marker.gap.code) := by
  have hroom : s.journal.buffer.length < journalBuffer := by
    have h := of_decide_eq_false hspace
    simp only [journalBuffer, journalReserve] at h ⊢
    omega
  simp only [journalSpaceReturn, hspace, hin, Bool.not_true, Bool.or_false, Bool.false_eq_true, if_false, if_neg hlost]
  exact appendEntry_of_room (s := spaceBack s) hroom

theorem ends_of_spaceReturn {s : State} {P : State → Prop} (hspace : onlyReserve s = false)
    (hin : s.journal.inReserve = true) (hlost : s.journal.unlogged ≠ 0)
    (hP : P (enterEntry (spaceBack s) 0 (BitVec.ofNat 32 s.journal.unlogged) 0 (entryInfo s 0 .marker Marker.gap.code))) :
    Ends .journalSpaceReturn s P := by
  have hpending : (enterEntry (spaceBack s) 0 (BitVec.ofNat 32 s.journal.unlogged) 0
      (entryInfo s 0 .marker Marker.gap.code)).pending = s.pending :=
    (enterEntry_within (Within.refl journalParts (spaceBack s)) (by decide)).pending (by decide)
  exact ends_of_pending (congrArg (endsIn s) (journalSpaceReturn_eq hspace hin hlost)) hpending hP

/-! ## O53 -/

/-- Settles O53: the refusal's own record, the count of what the journal could not take, the denial of a self-test, and the marker
that accounts for lost entries. -/
theorem refusedWritesChangeNoField : Obligations.RefusedWritesChangeNoField := by
  refine ⟨fun o p off w readings s haccess hreason => ?_, fun o p off w readings s haccess hreason => ?_,
    fun o p off w readings s haccess hreason => ?_, fun s hspace => ?_⟩
  · obtain ⟨hnone, hbist, hfull⟩ := hreason
    refine ends_of_refused haccess hnone ⟨refused_refuseWrite haccess.1 hbist hfull, refuseWrite_eq_parts _ _ _ _ _ _,
      fun q k hcj hlpm hk => keeps_refuseWrite_noted hbist hfull q k ?_⟩
    rw [refusedWords, journalWords_of_ne hcj hlpm, Bool.false_or, notedWords, Bool.and_eq_false_iff, beq_eq_false_iff_ne,
      beq_eq_false_iff_ne]
    exact not_and_or.mp hk
  · refine ends_of_refused haccess (by rw [hreason]; decide) ?_
    rw [hreason]
    refine ⟨?_, rfl, rfl, fun q k hk => keeps_countUnlogged _ q k ?_⟩
    · exact get_bump_same _ _ _ (by decide)
    · rw [lossWords, Bool.and_eq_false_iff, beq_eq_false_iff_ne, beq_eq_false_iff_ne]
      exact not_and_or.mp hk
  · refine ends_of_refused haccess (by rw [hreason]; decide) ?_
    rw [hreason]
    refine ⟨counted_refuseWrite_bist _ _ _ _ _, journalled_refuseWrite_bist _ _ _ _ _, refuseWrite_eq_parts _ _ _ _ _ _,
      fun q k hcj hlpm hk => keeps_refuseWrite_bist _ _ _ _ _ q k ?_⟩
    rw [deniedWords, journalWords_of_ne hcj hlpm, Bool.false_or, Bool.and_eq_false_iff, beq_eq_false_iff_ne,
      beq_eq_false_iff_ne]
    exact not_and_or.mp hk
  · obtain ⟨hroom, hin, hlost⟩ := hspace
    refine ends_of_spaceReturn hroom hin hlost ⟨newestEntry_enterEntry _ _ _ _ _, ?_⟩
    rw [enterEntry_eq, unlogged_noteEntry]
    rfl

/-! ## O56 -/

/-- Settles O56: one entry advances the chain, a refusal's while the buffer has room and the marker's. -/
theorem everyEntryAdvancesTheChain : Obligations.EveryEntryAdvancesTheChain := by
  refine ⟨fun o p off w readings s haccess hreason => ?_, fun s hspace => ?_⟩
  · obtain ⟨haccess, hroom⟩ := haccess
    obtain ⟨hnone, hbist, hfull⟩ := hreason
    refine ends_of_refused haccess hnone ?_
    generalize writeReason (reached o p off s) o p off w = r at hbist hfull ⊢
    generalize reached o p off s = u at hroom ⊢
    have hnoted : Keeps (notedWords p) u (noteRefused o p off r (u.countFabric 0x69 1)) :=
      keeps_noteRefused ((Keeps.refl _ u).of_regs rfl)
    have hseq : (noteRefused o p off r (u.countFabric 0x69 1)).nextSeq = u.nextSeq :=
      nextSeq_of_word (hnoted _ _ (by simp [notedWords, CJ.NEXT_LO.SEQ_NO, HDR.REFUSED_WR.COUNT]))
        (hnoted _ _ (by simp [notedWords, CJ.NEXT_HI.SEQ_NO, HDR.REFUSED_WR.COUNT]))
    rw [refuseWrite_noted hbist hfull, journalRefused, appendEntry_of_room (s := noteRefused o p off r (u.countFabric 0x69 1)) hroom,
      nextSeq_enterEntry, head_enterEntry, headAfter, hseq,
      entryInfo_of_keeps hnoted (by simp [notedWords, TB.STAT.TB_VALID, HDR.REFUSED_WR.COUNT])]
    exact ⟨rfl, rfl⟩
  · obtain ⟨hroom, hin, hlost⟩ := hspace
    refine ends_of_spaceReturn hroom hin hlost ?_
    rw [nextSeq_enterEntry, head_enterEntry, headAfter, nextSeq_of_regs (s := s) (t := spaceBack s) rfl]
    exact ⟨rfl, rfl⟩

/-! ## O55 -/

/-- A write refused for a rule of its page ends with that refusal. -/
theorem ends_refused {o : Origin} {p : Page} {off : Nat} {w : Word} {readings : List Int} {s : State} {r : Reason}
    (h : Accesses o off s) (hreason : writeReason (reached o p off s) o p off w = r) (hnone : r ≠ .none) (hbist : r ≠ .bist)
    (hfull : r ≠ .journalFull) :
    Ends (.registerWrite o (pageBase p + off) w readings) s fun t => Refused r o p off w (reached o p off s) t := by
  subst hreason
  exact ends_of_refused h hnone (refused_refuseWrite h.1 hbist hfull)

/-- The journal takes the entry of a write by this origin (R65). -/
theorem journalTakes {o : Origin} {s : State} (h : o = .plinth ∨ onlyReserve s = false) :
    (onlyReserve s && o != .plinth) = false := by
  obtain rfl | h := h
  · rw [bne_self_eq_false, Bool.and_false]
  · rw [h, Bool.false_and]

/-- No Plinth-only field stands in the way of a write of the Plinth's, or where there is none. -/
theorem plinthOnly_passes {o : Origin} {p : Page} {off : Nat} {old new : Word} (h : o = .plinth ∨ fieldsOf p off .po = []) :
    (o != .plinth && fieldsChange (fieldsOf p off .po) old new) = false := by
  obtain rfl | h := h
  · rw [bne_self_eq_false, Bool.false_and]
  · rw [h, fieldsChange, List.any_nil, Bool.and_false]

/-- A register without a field of an access kind has none to change. -/
theorem fieldsOf_eq_nil_of_isEmpty {p : Page} {off : Nat} (a : Access) (h : (fieldsAt p off).isEmpty = true) :
    fieldsOf p off a = [] := by
  rw [fieldsOf, List.isEmpty_iff.mp h]
  rfl

theorem fieldsOf_eq_nil_of_readOnly {p : Page} {off : Nat} {a : Access} (ha : a ≠ .ro)
    (h : (fieldsAt p off).all (fun f => f.acc == .ro) = true) : fieldsOf p off a = [] := by
  rw [fieldsOf, List.filter_eq_nil_iff]
  intro f hf heq
  have hro := beq_iff_eq.mp (List.all_eq_true.mp h f hf)
  exact ha ((beq_iff_eq.mp heq).symm.trans hro)

/-- A field that a write changes is a field of the register, and none that is read-only alone. -/
theorem exists_of_fieldsChange {p : Page} {off : Nat} {a : Access} {old new : Word}
    (h : fieldsChange (fieldsOf p off a) old new = true) : ∃ f ∈ fieldsAt p off, f.acc = a := by
  obtain ⟨f, hf, -⟩ := List.any_eq_true.mp h
  obtain ⟨hat, hacc⟩ := List.mem_filter.mp hf
  exact ⟨f, hat, eq_of_beq hacc⟩

theorem not_isEmpty_of_fieldsChange {p : Page} {off : Nat} {a : Access} {old new : Word}
    (h : fieldsChange (fieldsOf p off a) old new = true) : (fieldsAt p off).isEmpty = false := by
  obtain ⟨f, hf, -⟩ := exists_of_fieldsChange h
  exact List.isEmpty_eq_false_iff_exists_mem.mpr ⟨f, hf⟩

theorem not_readOnly_of_fieldsChange {p : Page} {off : Nat} {a : Access} {old new : Word} (ha : a ≠ .ro)
    (h : fieldsChange (fieldsOf p off a) old new = true) : (fieldsAt p off).all (fun f => f.acc == .ro) = false := by
  obtain ⟨f, hf, hacc⟩ := exists_of_fieldsChange h
  exact List.all_eq_false.mpr ⟨f, hf, by rw [hacc, beq_iff_eq]; exact ha⟩

/-- On a page without an enable of its own, a stop-only field waits for the page to stop. -/
theorem stopOnlyBad_of_page {s : State} {p : Page} {off : Nat} {old new : Word}
    (hp : (p matches .hk _ | .aux | .arm) = false) (hstopped : s.stopped p = false)
    (h : fieldsChange (fieldsOf p off .rwS) old new = true) : stopOnlyBad s p off old new = true := by
  cases p with
  | hk n | aux | arm => exact Bool.noConfusion hp
  | _ => simp only [stopOnlyBad, hstopped, h, Bool.not_false, Bool.and_true]

/-- Settles O55: each reason where none before it applies (R49), then the refusal it leads to. -/
theorem theFirstReasonRefuses : Obligations.TheFirstReasonRefuses := by
  refine ⟨fun o p off w readings s haccess h => ?_, fun o p off w readings s haccess h hpo => ?_,
    fun o p off w readings s haccess h => ?_, fun o p off w readings s haccess h hro => ?_,
    fun o p off w readings s haccess h hpage hstop => ?_, fun o p off w readings s haccess htest => ?_⟩
  · obtain ⟨haccess, hspace⟩ := haccess
    obtain ⟨htest, howner⟩ := h
    refine ends_refused haccess ?_ (by decide) (by decide) (by decide)
    have hmay : mayWrite (reached o p off s) o p off = false := by
      unfold mayWrite
      rw [howner, Bool.false_and, Bool.false_and]
    simp [writeReason, journalTakes hspace, htest, hmay]
  · obtain ⟨haccess, hne, hspace⟩ := haccess
    obtain ⟨htest, hmay⟩ := h
    refine ends_refused haccess ?_ (by decide) (by decide) (by decide)
    simp [writeReason, hspace, htest, hmay, hpo, hne]
  · obtain ⟨haccess, hspace⟩ := haccess
    obtain ⟨htest, hmay, hempty⟩ := h
    refine ends_refused haccess ?_ (by decide) (by decide) (by decide)
    simp only [writeReason, journalTakes hspace, htest, hmay, hempty,
      plinthOnly_passes (.inr (fieldsOf_eq_nil_of_isEmpty .po hempty)), Bool.not_true, Bool.false_eq_true, if_false, if_true]
  · obtain ⟨haccess, hspace⟩ := haccess
    obtain ⟨htest, hmay, hempty⟩ := h
    refine ends_refused haccess ?_ (by decide) (by decide) (by decide)
    simp only [writeReason, journalTakes hspace, htest, hmay, hempty, hro,
      plinthOnly_passes (.inr (fieldsOf_eq_nil_of_readOnly (by decide) hro)), Bool.not_true, Bool.false_eq_true, if_false,
      if_true]
  · obtain ⟨haccess, hspace⟩ := haccess
    obtain ⟨htest, hmay, hplinth⟩ := h
    obtain ⟨hkind, hstopped⟩ := hpage
    refine ends_refused haccess ?_ (by decide) (by decide) (by decide)
    simp only [writeReason, journalTakes hspace, htest, hmay, plinthOnly_passes hplinth, not_isEmpty_of_fieldsChange hstop,
      not_readOnly_of_fieldsChange (by decide) hstop, stopOnlyBad_of_page hkind hstopped hstop, Bool.not_true,
      Bool.false_eq_true, if_false, if_true]
  · obtain ⟨haccess, hspace⟩ := haccess
    have hbist : writeReason (reached o p off s) o p off w = .bist := by
      simp only [writeReason, journalTakes hspace, htest, Bool.false_eq_true, if_false, if_true]
    refine ends_of_refused haccess (by rw [hbist]; decide) ?_
    rw [hbist]
    exact journalled_refuseWrite_bist _ _ _ _ _

end Sys2Proof.Control
end

section
/-! SUPPORT. Reads of a page (R47, R538, R582). -/
namespace Sys2Proof.Control

open Sys2Proof Sys2Proof.Machine Sys2Proof.Safety Sys2Proof.Architecture

theorem readReg_page {o : Origin} {p : Page} {off : Nat} {s : State} (hoff : off < 0x1000) :
    readReg o (pageBase p + off) s = readPage o p off s := by
  simp only [readReg, debugCore_pageBase p off hoff, pageOfAddr_pageBase p off hoff, Nat.add_mod, pageBase_dvd,
    Nat.mod_eq_of_lt hoff, Nat.zero_add]

/-- The state that a read of 32 bits leaves, with the word it answers. -/
def answered (r : State × Word) : State := { r.1 with answer := .word r.2 }

/-- A read ends in its answer, with the registers and the journal that it leaves. -/
theorem ends_of_answered {c : Instr} {s u : State} {w : Word} {P : State → Prop} (hc : exec c s = endsIn s (answered (u, w)))
    (h : ∀ t : State, t.answer = .word w → t.journal = u.journal → (∀ q f, t.get q f = u.get q f) → P t) : Ends c s P :=
  ends_of_endsIn hc (h _ rfl rfl fun _ _ => rfl)

/-- A read of a word of a page ends in what the page gives. -/
theorem exec_xLoReadLatch_of {o : Origin} {p : Page} {off : Nat} {s : State} (hoff : off < 0x1000) (halign : off % 4 = 0)
    (hready : o = .host → s.hostReady = true) :
    exec (.xLoReadLatch o (pageBase p + off) false) s = endsIn s (answered (readPage o p off (reached o p off s))) := by
  have hbase := pageBase_dvd p
  have hin : inBar0 (pageBase p + off) = true := decide_eq_true (by have := pageBase_lt p; omega)
  have hword : ¬ (pageBase p + off) % 4 ≠ 0 := by omega
  change execXLoReadLatch _ _ _ _ = _
  simp only [execXLoReadLatch, hin, if_true, busRead, Bool.false_eq_true, if_false, if_neg hword, tooEarly_eq_false hready,
    readReg_page hoff]
  rfl

theorem exec_xLoReadLatch {o : Origin} {p : Page} {off : Nat} {s : State} (h : Accesses o off s) :
    exec (.xLoReadLatch o (pageBase p + off) false) s = endsIn s (answered (readPage o p off (reached o p off s))) :=
  exec_xLoReadLatch_of h.1 h.2.1 h.2.2.1

/-- What a read of a page under test leaves: it is counted in OD_DENY and journalled (R538). -/
theorem readPage_underTest {o : Origin} {p : Page} {off : Nat} {s : State} (h : underTest s p = true) :
    readPage o p off s = (odDeniedRead o.code p off s, BitVec.allOnes 32) := by
  rw [readPage, if_pos h]

theorem counted_odDeniedRead (origin : Nat) (p : Page) (off : Nat) (s : State) :
    Counted .bst BST.OD_DENY.RD s (odDeniedRead origin p off s) := by
  rw [odDeniedRead, Counted, (keeps_appendEntry (Keeps.refl _ _)).get rfl, get_bump_same _ _ _ (by decide)]

theorem journalled_odDeniedRead (origin : Nat) (p : Page) (off : Nat) (s : State) :
    Journalled (pageBase p + off) (BitVec.allOnes 32) (BitVec.allOnes 32) (entryInfo s origin .readDenied 5) s.nowNs
      (odDeniedRead origin p off s) := by
  have hdeny : Keeps (fun q _ => q == .bst) s (s.bump .bst BST.OD_DENY.RD) := Keeps.set (Keeps.refl _ s) rfl
  rw [odDeniedRead, entryInfo_of_keeps hdeny rfl]
  exact newestEntry_appendEntry (s.bump .bst BST.OD_DENY.RD) _ _ _ _

/-- A page under test denies the read, with all ones (R538). -/
theorem ends_read_underTest {o : Origin} {p : Page} {off : Nat} {s : State} (h : Accesses o off s)
    (htest : underTest (reached o p off s) p = true) : Ends (.xLoReadLatch o (pageBase p + off) false) s fun t =>
      t.answer = .word 0xFFFFFFFF ∧ Counted .bst BST.OD_DENY.RD (reached o p off s) t ∧
      Journalled (pageBase p + off) 0xFFFFFFFF 0xFFFFFFFF (entryInfo (reached o p off s) o.code .readDenied 5)
        (reached o p off s).nowNs t := by
  have hread := exec_xLoReadLatch (p := p) h
  have hones : BitVec.allOnes 32 = (0xFFFFFFFF : Word) := by decide
  have hcounted := counted_odDeniedRead o.code p off (reached o p off s)
  have hjournalled := journalled_odDeniedRead o.code p off (reached o p off s)
  rw [hones] at hjournalled
  rw [readPage_underTest htest, hones] at hread
  refine ends_of_answered hread fun t hanswer hjournal hget => ⟨hanswer, ?_, ?_⟩
  · rw [Counted, hget]
    exact hcounted
  · rw [Journalled, hjournal]
    exact hjournalled

theorem ends_read_empty {o : Origin} {p : Page} {off : Nat} {s : State} (h : Accesses o off s)
    (htest : underTest (reached o p off s) p = false) (hempty : (fieldsAt p off).isEmpty = true) :
    Ends (.xLoReadLatch o (pageBase p + off) false) s fun t => t = { reached o p off s with answer := .word 0 } := by
  have hread : readPage o p off (reached o p off s) = (reached o p off s, 0) := by simp [readPage, htest, hempty]
  have hexec := exec_xLoReadLatch (p := p) h
  rw [hread] at hexec
  exact ends_of_pending hexec (reached_pending o p off s) rfl

theorem ends_read_field {o : Origin} {p : Page} {off : Nat} {s : State} (h : Accesses o off s)
    (htest : underTest (reached o p off s) p = false) (hfields : (fieldsAt p off).isEmpty = false) :
    Ends (.xLoReadLatch o (pageBase p + off) false) s fun t =>
      t.answer = .word ((latched (reached o p off s) o (pageBase p + off)).getD (shownWord (reached o p off s) o p off)) := by
  refine ends_of_endsIn (exec_xLoReadLatch h) ?_
  simp only [answered, readPage, htest, hfields, Bool.false_eq_true, if_false]

/-- Settles O52: the three ways a page answers a read. -/
theorem anyOriginReadsAnyPage : Obligations.AnyOriginReadsAnyPage := 
  ⟨fun _ _ _ _ haccess h => ends_read_empty haccess h.1 h.2, fun _ _ _ _ haccess h => ends_read_field haccess h.1 h.2, 
    fun _ _ _ _ haccess htest => ends_read_underTest haccess htest⟩

end Sys2Proof.Control
end

section
/-! SUPPORT. The journal's own commands (R62, R63, R65). -/
namespace Sys2Proof.Control

open Sys2Proof Sys2Proof.Machine Sys2Proof.Safety Sys2Proof.Architecture

/-! ## A spill (R63) -/

theorem journal_markGranule (s : State) (a : Nat) : (markGranule s a).journal = s.journal := by
  unfold markGranule
  dsimp only
  split <;> rfl

theorem journal_noteOldest (kept : List JournalEntry) (s : State) : (noteOldest kept s).journal = s.journal := by
  cases kept <;> rfl

theorem fill_noteOldest (kept : List JournalEntry) (s : State) :
    (noteOldest kept s).get .cj CJ.FILL.COUNT = s.get .cj CJ.FILL.COUNT := by
  cases kept with
  | nil => rfl
  | cons e _ =>
    exact get_of_word ((word_set_off _ _ _ CJ.OLDEST_HI.SEQ_NO _ _ (by decide)).trans
      (word_set_off _ _ _ CJ.OLDEST_LO.SEQ_NO _ _ (by decide)))

/-- A spill takes the oldest entries from the buffer, and FILL follows. -/
theorem spillEntries_buffer (s : State) (n : Nat) : (spillEntries s n).1.journal.buffer = s.journal.buffer.drop n ∧
    (spillEntries s n).1.get .cj CJ.FILL.COUNT = (s.journal.buffer.drop n).length % 2 ^ CJ.FILL.COUNT.width := by
  unfold spillEntries
  extract_lets -merge -useContext ring older lost kept marked journal moved filled
  clear_value lost kept
  have hmarked : marked.journal = s.journal :=
    List.foldlRecOn (motive := fun u : State => u.journal = s.journal) _ _ rfl
      fun u hu _ _ => (journal_markGranule u _).trans hu
  clear_value marked
  have hmoved : moved.journal.buffer = s.journal.buffer.drop n := by simp only [moved, hmarked]
  clear_value moved
  have hfill : filled.get .cj CJ.FILL.COUNT = (s.journal.buffer.drop n).length % 2 ^ CJ.FILL.COUNT.width := by
    rw [← hmoved]
    exact get_set_same _ _ _ _ (by decide)
  have hfilled : filled.journal.buffer = s.journal.buffer.drop n := hmoved
  clear_value filled
  exact ⟨(congrArg Journal.buffer (journal_noteOldest kept filled)).trans hfilled, (fill_noteOldest kept filled).trans hfill⟩

theorem drop_min_length {α : Type} (l : List α) (n : Nat) : l.drop (min n l.length) = l.drop n := by
  obtain h | h := Nat.le_total n l.length
  · rw [Nat.min_eq_left h]
  · rw [Nat.min_eq_right h, List.drop_length, List.drop_of_length_le h]

/-! ## A batch persisted (R63, R448) -/

theorem archive_persistEntries (es : List JournalEntry) (s : State) :
    (persistEntries es s).journal.archive = s.journal.archive ++ es := by
  unfold persistEntries
  split
  · next h => rw [List.getLast?_eq_none_iff.mp h, List.append_nil]
  · exact congrArg Journal.archive
      ((keepCommit_within (Within.refl (1208925819614631322189824 : Nat) _) (Nat.or_self _)).journal (by decide))

/-! ## A signature asked for (R62) -/

theorem signing_signNow (s : State) : (signNow s).journal.signing.isSome = true := by
  unfold signNow
  split
  · next h => rw [h]; rfl
  · next h =>
    unfold requestSignature
    simp only [h]
    rfl

theorem strobeOnly_signNow : StrobeOnly .cj CJ.CTL.SIGN_NOW.off CJ.CTL.SIGN_NOW := by
  constructor <;> decide +kernel

/-- SIGN_NOW asks for a signature of the newest head. -/
theorem writeEffect_signNow (o : Origin) (old w : Word) (env : List Int) (s : State) :
    writeEffect o .cj CJ.CTL.SIGN_NOW.off old (overlay w CJ.CTL.SIGN_NOW 1) env s = signNow s := by
  have hsent : extract (newWord .cj CJ.CTL.SIGN_NOW.off old (overlay w CJ.CTL.SIGN_NOW 1)) 0 1 = 1 :=
    (strobeOnly_signNow.extract_newWord old _).trans (extract_overlay_same w _ 1 strobeOnly_signNow.fits)
  have hhead : ¬ CJ.CTL.SIGN_NOW.off < 0x40 := by decide
  have hlive : liveWaits .cj CJ.CTL.SIGN_NOW.off (overlay w CJ.CTL.SIGN_NOW 1) = false := by
    simp [liveWaits, strobeOnly_signNow.live]
  simp only [writeEffect, if_neg hhead, hlive, Bool.false_eq_true, if_false, blockWritten, hsent, decide_true, beq_self_eq_true,
    Bool.and_true, if_true]

/-- The parts of the state that SIGN_NOW can change. -/
def signParts : Nat := recordParts ||| pageBit .cj

theorem ends_of_signNow {o : Origin} {s : State} (h : TakesField o .cj CJ.CTL.SIGN_NOW 1 s) :
    Ends (.signNow o) s fun t => t.journal.signing.isSome = true := by
  have hrecord : Within signParts s (recorded o .cj CJ.CTL.SIGN_NOW.off
      (overlay (plainWord .cj CJ.CTL.SIGN_NOW.off (acceptedWord s .cj CJ.CTL.SIGN_NOW.off)) CJ.CTL.SIGN_NOW 1) [] s) :=
    recorded_within (by decide) (by decide)
  have hbus := busWrite_of_takes (K := signParts) (env := []) (by decide) h
    (by rw [acceptWrite_eq, writeEffect_signNow]; exact signNow_within hrecord (by decide)) (by decide) (by decide) (by decide)
  rw [writeEffect_signNow] at hbus
  exact ends_of_registers (c := .signNow o) (congrArg (endsIn s) hbus) fun t hjournal _ => by
    rw [hjournal]
    exact signing_signNow _

/-! ## A signature made -/

theorem journal_raise (s : State) (p : Page) (b : Nat) : (s.raise p b).journal = s.journal := rfl

theorem signatures_enterEntry (s : State) (addr : Nat) (old new info : Word) :
    (enterEntry s addr old new info).journal.signatures = s.journal.signatures := by
  have hsigned (u : State) (n k : Nat) : (requestSignature u n k).journal.signatures = u.journal.signatures := by
    unfold requestSignature
    dsimp only
    split <;> rfl
  have hreserve (u : State) : (noteReserve u).journal.signatures = u.journal.signatures := by
    unfold noteReserve
    split <;> rfl
  rw [enterEntry_eq, noteEntry, hreserve]
  split
  · exact hsigned _ _ _
  · rfl

theorem signatures_spillEntries (s : State) (n : Nat) : (spillEntries s n).1.journal.signatures = s.journal.signatures := by
  unfold spillEntries
  extract_lets -merge -useContext ring older lost kept marked journal moved filled
  clear_value lost kept
  have hmarked : marked.journal = s.journal :=
    List.foldlRecOn (motive := fun u : State => u.journal = s.journal) _ _ rfl
      fun u hu _ _ => (journal_markGranule u _).trans hu
  have hmoved : moved.journal.signatures = s.journal.signatures := by simp only [moved, journal, hmarked]
  exact (congrArg Journal.signatures (journal_noteOldest kept filled)).trans hmoved

theorem signatures_spillJournal (s : State) (n : Nat) : (spillJournal s n).journal.signatures = s.journal.signatures := by
  rw [spillJournal]
  split
  · exact signatures_spillEntries s n
  · rw [journal_raise, signatures_enterEntry, State.addSat_journal]
    exact signatures_spillEntries s n

theorem signatures_appendEntry (s : State) (addr : Nat) (old new info : Word) :
    (appendEntry s addr old new info).journal.signatures = s.journal.signatures := by
  rw [appendEntry, signatures_enterEntry]
  split
  · exact signatures_spillJournal s _
  · rfl

/-- A finished signature is kept with its head's number, newest first. -/
theorem signatures_signatureDone {s : State} {x : BitVec 256 × Nat × Nat} (hsign : s.journal.signing = some x)
    (hcan : canSign s = true) (htakes : archiveTakes s = true) : (signatureDone s).journal.signatures =
      (x.2.1, Config.sign (bytes32 x.1 ++ leBytes 8 x.2.1 ++ leBytes 8 x.2.2)) :: s.journal.signatures := by
  obtain ⟨head, seqNo, ns⟩ := x
  simp only [signatureDone, hsign, hcan, htakes, Bool.not_true, Bool.false_eq_true, if_false]
  rw [journal_raise, appendMarker, signatures_appendEntry, State.setPair, State.set_journal, State.set_journal]

/-- Settles O13: a spill, a batch, the space that returns, and a signature asked for and made. -/
theorem journalCommandsComplete : Obligations.JournalCommandsComplete := by
  refine ⟨fun n s hready hlost => ?_, fun n s h => ?_, fun s h => ?_, fun o s h => ends_of_signNow h, fun s h => ?_⟩
  · obtain ⟨hlevel, hlpm⟩ := hready
    have hspill : journalSpill n s = (spillEntries s (min n s.journal.buffer.length)).1 := by
      simp only [journalSpill, hlevel, hlpm, decide_true, Bool.and_true, if_true, spillJournal, hlost]
    have hbuffer := spillEntries_buffer s (min n s.journal.buffer.length)
    rw [drop_min_length] at hbuffer
    exact ends_of_registers (c := .journalSpill n) (congrArg (endsIn s) hspill) fun t hjournal hget => by
      rw [hjournal, hget]
      exact hbuffer
  · obtain ⟨hwaiting, htakes, hspaced⟩ := h
    have hpersist : journalPersist n s =
        startTimer .persisted (persistEntries ((unpersisted s).take (min n 65536)) s) := by
      simp only [journalPersist, hwaiting, htakes, hspaced, Bool.not_true, Bool.or_false, Bool.false_eq_true, if_false, if_true]
    exact ends_of_registers (c := .journalPersistBatch n) (congrArg (endsIn s) hpersist) fun t hjournal _ => by
      rw [hjournal]
      exact archive_persistEntries _ _
  · obtain ⟨hroom, hin⟩ := h
    by_cases hlost : s.journal.unlogged = 0
    · have hback : journalSpaceReturn s = spaceBack s := by
        simp only [journalSpaceReturn, hroom, hin, hlost, Bool.not_true, Bool.or_false, Bool.false_eq_true, if_false, if_true]
        rfl
      exact ends_of_endsIn (congrArg (endsIn s) hback) rfl
    · refine ends_of_spaceReturn hroom hin hlost ?_
      rw [enterEntry_eq, unlogged_noteEntry]
      rfl
  · obtain ⟨-, hcan, htakes⟩ := h
    exact ends_of_registers (c := .journalSignatureDone) rfl fun t hjournal _ x hx => by
      rw [hjournal]
      exact signatures_signatureDone hx hcan htakes

end Sys2Proof.Control
end

section
/-! SUPPORT. Accesses of BAR0 (R44, R49, R51, R55, R357, R361, R542, R582). -/
namespace Sys2Proof.Control

open Sys2Proof Sys2Proof.Machine Sys2Proof.Safety Sys2Proof.Architecture

/-! ## What Patina's own write leaves (R444) -/

theorem stagedWord_of_staged {s t : State} (h : t.staged = s.staged) (addr : Nat) : stagedWord t addr = stagedWord s addr := by
  rw [stagedWord, stagedWord, h]

theorem stagedWord_unstage_other {s : State} {a b : Nat} (h : a ≠ b) : stagedWord (unstage a s) b = stagedWord s b := by
  have hkeep : ∀ x : LiveWrite, decide ((x.addr != a) = true ∧ (x.addr == b) = true) = (x.addr == b) := fun x => by
    by_cases hx : x.addr = b
    · simp [hx, Ne.symm h]
    · simp [hx]
  rw [stagedWord, stagedWord, unstage, List.find?_filter]
  exact congrArg (fun p => (s.staged.find? p).map LiveWrite.value) (funext hkeep)

theorem stagedWord_stage_same (s : State) (addr : Nat) (w : Word) : stagedWord (stage addr w s) addr = some w := by
  have hnone : (s.staged.filter fun x => x.addr != addr).find? (fun x => x.addr == addr) = none := by
    rw [List.find?_eq_none]
    intro x hx heq
    exact bne_iff_ne.mp (List.mem_filter.mp hx).2 (eq_of_beq heq)
  simp [stagedWord, stage, List.find?_append, hnone]

/-- The register that Patina's own write stores. -/
def thinAddr : Nat := pageBase .cast + CAST.RING.THIN.off

/-- A write of CAST.RING ends the wait of no other register. -/
theorem stagedWord_writePage_cast (o : Origin) (v : Word) (env : List Int) (s : State) {addr : Nat} (h : thinAddr ≠ addr) :
    stagedWord (writePage o .cast CAST.RING.THIN.off v env s) addr = stagedWord s addr := by
  have hlive : liveWaits .cast CAST.RING.THIN.off v = false := rfl
  have hstore (u : State) : stagedWord (storeWrite .cast CAST.RING.THIN.off v u) addr = stagedWord u addr := by
    simp only [storeWrite, hlive, Bool.false_eq_true, if_false, heldElsewhere]
    exact (stagedWord_unstage_other h).trans (stagedWord_of_staged rfl addr)
  have hrecorded : stagedWord (recorded o .cast CAST.RING.THIN.off v env s) addr = stagedWord s addr :=
    (stagedWord_of_staged ((journalAccepted_within (Within.refl journalParts _) (Nat.or_self _)).staged (by decide))
      addr).trans (hstore s)
  unfold writePage
  split
  · refine Eq.trans (apply_ite (stagedWord · addr) _ _ _) ?_
    rw [acceptWrite_eq, writeEffect_castRing, hrecorded]
    exact ite_self _
  · exact stagedWord_of_staged ((refuseWrite_within_all o .cast CAST.RING.THIN.off v _ s).staged (by decide)) addr

theorem stagedWord_thinWrite (s : State) {addr : Nat} (h : thinAddr ≠ addr) : stagedWord (thinWrite s) addr = stagedWord s addr := by
  have hw (o : Origin) (v : Word) (env : List Int) :
      stagedWord (writeOnce o (pageBase .cast + CAST.RING.THIN.off) v env s) addr = stagedWord s addr := by
    rw [writeOnce_page (by decide)]
    exact stagedWord_writePage_cast o v env s h
  unfold thinWrite
  dsimp only
  split_ifs
  · rfl
  · rfl
  · exact (stagedWord_of_staged rfl addr).trans (hw _ _ _)
  · exact hw _ _ _

theorem stagedWord_ringFollow (s t : State) {addr : Nat} (h : thinAddr ≠ addr) :
    stagedWord (ringFollow s t) addr = stagedWord t addr := by
  unfold ringFollow
  split
  · exact (stagedWord_thinWrite _ h).trans (stagedWord_of_staged
      ((ringEvaluate_within (Within.refl (151115727451832941805600 : Nat) t) (Nat.or_self _)).staged (by decide)) addr)
  · rfl

/-- Patina's evaluation leaves TEL. -/
theorem word_ringFollow_tel (s t : State) (off : Nat) : word (ringFollow s t) .tel off = word t .tel off :=
  (ringFollow_narrow (Within.refl anyWrite t) (Nat.or_self _)).page .tel off (by decide)

/-! ## A write that stores its fields and has no further effect -/

theorem journal_keeps_aloof {p : Page} (h : aloof p = true) (k : Nat) : journalWords p k = false := by
  cases p with
  | cj | lpm => exact absurd h (by decide)
  | _ => rfl

theorem aloof_ne_cast {p : Page} (h : aloof p = true) : p ≠ .cast := by
  rintro rfl
  exact absurd h (by decide)

section record

variable {o : Origin} {p : Page} {off : Nat} {w : Word} {env : List Int} {s : State}

/-- The record of a write keeps, on a page aloof of the journal, the word that the write stores. -/
theorem word_recorded (hp : aloof p = true) (hoff : off < 0x1000) (hseq : off ≠ HDR.SEQ.COUNT.off) :
    word (recorded o p off w env s) p off = word (storeWrite p off w s) p off := by
  have hmod : off % 0x1000 = off := Nat.mod_eq_of_lt hoff
  refine (keeps_appendEntry (Keeps.refl _ _) p off (journal_keeps_aloof hp _)).trans ?_
  exact word_set_off _ _ _ HDR.SEQ.COUNT _ _ (by rw [hmod]; exact Ne.symm hseq)

theorem staged_recorded : (recorded o p off w env s).staged = (storeWrite p off w s).staged :=
  (journalAccepted_within (Within.refl journalParts _) (Nat.or_self _)).staged (by decide)

/-- It counts the write in SEQ. -/
theorem seq_recorded (hp : aloof p = true) (hoff : off < 0x1000) (hseq : off ≠ HDR.SEQ.COUNT.off) :
    (recorded o p off w env s).get p HDR.SEQ.COUNT = (s.get p HDR.SEQ.COUNT + 1) % 2 ^ 32 := by
  have hne : off % 0x1000 ≠ HDR.SEQ.COUNT.off % 0x1000 := by rw [Nat.mod_eq_of_lt hoff]; exact hseq
  have hstore : (storeWrite p off w s).get p HDR.SEQ.COUNT = s.get p HDR.SEQ.COUNT := get_of_word (word_storeWrite_off hne)
  refine ((keeps_appendEntry (Keeps.refl _ _)).get (journal_keeps_aloof hp _)).trans ?_
  rw [State.addWrap, get_set_same _ _ _ _ (by decide), hstore]
  rfl

end record

/-- A write of fields that act at once stores them. -/
theorem word_storeWrite_atOnce {p : Page} {off : Nat} {w : Word} {s : State} (hheld : heldElsewhere p off = false)
    (hlive : liveWaits p off w = false) : word (storeWrite p off w s) p off = keptWord p off (word s p off) w := by
  simp only [storeWrite, hheld, hlive, Bool.false_eq_true, if_false]
  exact word_setWord_same _ _ _ _

/-- A write of live fields on a page with a boundary waits as it was accepted; its other fields are stored (R44, R55). -/
theorem word_storeWrite_waiting {p : Page} {off : Nat} {w : Word} {s : State} (hheld : heldElsewhere p off = false)
    (hlive : liveWaits p off w = true) : word (storeWrite p off w s) p off =
      takeFields (fieldsOf p off .rwL) (keptWord p off (word s p off) w) (word s p off) := by
  simp only [storeWrite, hheld, hlive, Bool.false_eq_true, if_false, if_true]
  exact word_setWord_same _ _ _ _

theorem stagedWord_storeWrite_waiting {p : Page} {off : Nat} {w : Word} {s : State} (hheld : heldElsewhere p off = false)
    (hlive : liveWaits p off w = true) : stagedWord (storeWrite p off w s) (pageBase p + off) = some w := by
  simp only [storeWrite, hheld, hlive, Bool.false_eq_true, if_false, if_true]
  exact stagedWord_stage_same _ _ _

/-! ## The whole write -/

section stored

variable {o : Origin} {p : Page} {off : Nat} {w : Word} {env : List Int} {s : State}

/-- The registers that the record of a write can change: those of its page and the journal's. -/
def recordWords (p : Page) (q : Page) (k : Nat) : Bool := journalWords q k || q == p

theorem keeps_recorded : Keeps (recordWords p) s (recorded o p off w env s) := by
  have hp (k : Nat) : recordWords p p k = true := by rw [recordWords, beq_self_eq_true, Bool.or_true]
  have hstore : Keeps (recordWords p) s (storeWrite p off w s) := by
    unfold storeWrite
    exact Keeps.ite (Keeps.refl _ s) (Keeps.ite (((Keeps.refl _ s).setWord (hp _)).of_regs rfl)
      (((Keeps.refl _ s).setWord (hp _)).of_regs rfl))
  exact (hstore.set (f := HDR.SEQ.COUNT) (hp _)).trans
    ((keeps_appendEntry (Keeps.refl _ _)).mono fun _ _ h => (Bool.or_eq_false_iff.mp h).1)

/-- Patina's evaluation after the write leaves the page, which it follows only where the page is TEL. -/
theorem word_ringFollow_recorded (hp : aloof p = true) (k : Nat) :
    word (ringFollow s (recorded o p off w env s)) p k = word (recorded o p off w env s) p k := by
  by_cases htel : p = .tel
  · subst htel
    exact word_ringFollow_tel _ _ _
  · rw [ringFollow_of_words]
    intro q k hq _
    refine keeps_recorded q k ?_
    have hne : q ≠ p := by
      rintro rfl
      obtain rfl | rfl := hq
      · exact absurd hp (by decide)
      · exact htel rfl
    rw [recordWords, beq_eq_false_iff_ne.mpr hne, Bool.or_false]
    exact journalWords_of_ne (by rintro rfl; simp at hq) (by rintro rfl; simp at hq)

theorem thinAddr_ne (hp : aloof p = true) (hoff : off < 0x1000) : thinAddr ≠ pageBase p + off := fun he => by
  have hpage := pageOfAddr_pageBase p off hoff
  rw [← he, thinAddr, pageOfAddr_pageBase .cast _ (by decide)] at hpage
  exact aloof_ne_cast hp (Option.some.inj hpage).symm

/-- A write that is taken and has no effect beside what it stores ends with its record, which Patina may follow. -/
theorem busWrite_of_stored (hoff : off < 0x1000) (h : Takes o p off w s)
    (heffect : ∀ u : State, writeEffect o p off (shownWord s o p off) w env u = u) :
    busWrite o (pageBase p + off) w env s = ringFollow s (recorded o p off w env s) := by
  obtain ⟨hready, hawake, hsteps, hreason, hchange⟩ := h
  have hpage : writePage o p off w env s = recorded o p off w env s := by
    simp only [writePage, hreason, hchange, if_true, acceptWrite_eq, heffect]
  have hrecorded : (recorded o p off w env s).stepsDue = s.stepsDue :=
    (recorded_within (K := recordParts ||| 5070602400894470861913103269888) (by decide)
      (Within.all (Nat.or_self _) p (by decide))).stepsDue (by decide)
  have hfollow : (ringFollow s (recorded o p off w env s)).stepsDue = (recorded o p off w env s).stepsDue :=
    (ringFollow_narrow (Within.refl anyWrite _) (Nat.or_self _)).stepsDue (by decide)
  have hreach : busAccess o (pageBase p + off) s = s := reached_of_awake hawake
  simp only [busWrite, tooEarly_eq_false hready, Bool.false_eq_true, if_false, writeSettled, writeReg, hreach]
  rw [writeOnce_page hoff, hpage, settle_of_none (hfollow.trans (hrecorded.trans hsteps))]

end stored

/-- A command ends in the state its meaning computes, as far as its registers and the waiting fields. -/
theorem ends_of_words {c : Instr} {s u : State} {P : State → Prop} (hc : exec c s = endsIn s u)
    (h : ∀ t : State, (∀ q k, word t q k = word u q k) → t.staged = u.staged → P t) : Ends c s P :=
  ends_of_endsIn hc (h _ (fun _ _ => rfl) rfl)

/-- What a stored write leaves on a page that Patina's own write leaves alone. -/
theorem ends_of_stored {o : Origin} {p : Page} {off : Nat} {w : Word} {readings : List Int} {s : State}
    (hoff : off < 0x1000) (halign : off % 4 = 0) (hseq : off ≠ HDR.SEQ.COUNT.off) (hheld : heldElsewhere p off = false)
    (h : Takes o p off w s) (heffect : ∀ u : State, writeEffect o p off (shownWord s o p off) w readings u = u) :
    Ends (.registerWrite o (pageBase p + off) w readings) s fun t =>
      (aloof p = true ∧ liveWaits p off w = false → word t p off = keptWord p off (word s p off) w) ∧
      (aloof p = true ∧ liveWaits p off w = true → stagedWord t (pageBase p + off) = some w ∧
        word t p off = takeFields (fieldsOf p off .rwL) (keptWord p off (word s p off) w) (word s p off)) ∧
      (aloof p = true → t.get p HDR.SEQ.COUNT = (s.get p HDR.SEQ.COUNT + 1) % 2 ^ 32) := by
  have hexec := (exec_registerWrite hoff halign).trans (congrArg (endsIn s) (busWrite_of_stored hoff h heffect))
  refine ends_of_words hexec fun t hword hstaged => ⟨fun hp => ?_, fun hp => ⟨?_, ?_⟩, fun hp => ?_⟩
  · obtain ⟨hp, hlive⟩ := hp
    rw [hword, word_ringFollow_recorded hp, word_recorded hp hoff hseq, word_storeWrite_atOnce hheld hlive]
  · obtain ⟨hp, hlive⟩ := hp
    rw [stagedWord_of_staged hstaged, stagedWord_ringFollow _ _ (thinAddr_ne hp hoff), stagedWord_of_staged staged_recorded,
      stagedWord_storeWrite_waiting hheld hlive]
  · obtain ⟨hp, hlive⟩ := hp
    rw [hword, word_ringFollow_recorded hp, word_recorded hp hoff hseq, word_storeWrite_waiting hheld hlive]
  · rw [get_of_word (hword _ _), get_of_word (word_ringFollow_recorded hp _), seq_recorded hp hoff hseq]

/-! ## Addresses outside the pages, and accesses that are early or odd (R49, R357, R361, R542) -/

/-- A write outside the pages is journalled as a refusal. -/
theorem ends_of_unmapped {o : Origin} {addr : Nat} {w : Word} {s : State}
    (haddr : addr < 0x4000000) (hcore : debugCore addr = none) (hpage : pageOfAddr addr = none)
    (hready : o = .host → s.hostReady = true) (hawake : s.power ≠ pwrIdle) (hsteps : s.stepsDue = [])
    (hspace : o = .plinth ∨ onlyReserve s = false) : Ends (.unmappedBar0Write o addr w) s fun t =>
      (t.journal.buffer.getLast?.map fun e => (e.addr, e.old, e.new)) = some (addr, 0, w) := by
  have hreach : busAccess o addr s = s := by simp [busAccess, accessWakes, hawake]
  have hwithin : Within journalParts s (journalRefused s o addr 0 w .reservedOffset) :=
    journalRefused_within (Within.refl _ s) (Nat.or_self _)
  have hbus : busWrite o addr w [] s = journalRefused s o addr 0 w .reservedOffset := by
    simp only [busWrite, tooEarly_eq_false hready, Bool.false_eq_true, if_false, writeSettled, writeReg, hreach, writeOnce, hcore,
      hpage, writeUnmapped, journalTakes hspace]
    rw [ringFollow_of_within hwithin (by decide) (by decide), settle_of_none ((hwithin.stepsDue (by decide)).trans hsteps)]
  have hexec : exec (.unmappedBar0Write o addr w) s = endsIn s (journalRefused s o addr 0 w .reservedOffset) := by
    change execUnmappedBar0Write _ _ _ _ = _
    rw [execUnmappedBar0Write, inBar0, decide_eq_true haddr, if_pos rfl, hbus]
  refine ends_of_registers hexec fun t hjournal _ => ?_
  have hnew := newestEntry_journalRefused s o addr 0 w .reservedOffset
  rw [NewestEntry, Journalled, ← hjournal] at hnew
  have hfields := congrArg (Option.map fun x : Nat × Word × Word × Word × Nat => (x.1, x.2.1, x.2.2.1)) hnew
  rwa [Option.map_map] at hfields

/-- A write before the host link is ready is discarded and counted (R357). -/
theorem ends_of_early {addr : Nat} {w : Word} {s : State} (haddr : addr < 0x4000000) (hready : s.hostReady = false) :
    Ends (.earlyBar0Write addr w) s fun t =>
      t.get .hlk HLK.EARLY_WR.COUNT = min (s.get .hlk HLK.EARLY_WR.COUNT + 1) (2 ^ HLK.EARLY_WR.COUNT.width - 1) := by
  have hearly : tooEarly .host s = true := by rw [tooEarly, hready]; rfl
  have hexec : exec (.earlyBar0Write addr w) s = endsIn s (s.bump .hlk HLK.EARLY_WR.COUNT) := by
    change execEarlyBar0Write _ _ _ = _
    rw [execEarlyBar0Write, inBar0, decide_eq_true haddr, if_pos rfl, busWrite, if_pos hearly]
  exact ends_of_registers hexec fun t _ hget => (hget _ _).trans (get_bump_same _ _ _ (by decide))

theorem ends_of_misalignedRead {addr len : Nat} {w : Word} {s : State} (haddr : addr + len - 1 < 0x4000000) :
    Ends (.hostMisalignedAccess false addr len w) s fun t => t.answer = .unsupportedRequest := by
  have hexec : exec (.hostMisalignedAccess false addr len w) s =
      endsIn s { accessWakes s with answer := .unsupportedRequest } := by
    change execHostMisalignedAccess _ _ _ _ _ = _
    rw [execHostMisalignedAccess, inBar0, decide_eq_true haddr, if_pos rfl, if_neg (by decide)]
  exact ends_of_endsIn hexec rfl

/-- An odd write leaves its address in ACC_LAST (R361). -/
theorem ends_of_misalignedWrite {addr len : Nat} {w : Word} {s : State} (haddr : addr + len - 1 < 0x4000000)
    (hwidth : addr < 2 ^ 26) (hready : s.hostReady = true) :
    Ends (.hostMisalignedAccess true addr len w) s fun t => t.get .hlk HLK.ACC_LAST.OFFSET = addr := by
  have hexec : exec (.hostMisalignedAccess true addr len w) s = endsIn s (misalignedWrite addr len w (busAccess .host addr s)) := by
    change execHostMisalignedAccess _ _ _ _ _ = _
    rw [execHostMisalignedAccess, inBar0, decide_eq_true haddr, if_pos rfl, if_pos rfl, oddWrite,
      tooEarly_eq_false fun _ => hready, if_neg (by decide)]
  refine ends_of_registers hexec fun t _ hget => (hget _ _).trans ?_
  rw [misalignedWrite, get_set_same _ _ _ _ (by decide)]
  exact Nat.mod_eq_of_lt hwidth

/-! ## The latch of a _LO register (R582) -/

/-- Every _LO register of a page holds a field. -/
def loRegistersHold (p : Page) : Bool :=
  (loRegisters p).all fun e => (List.range e.2.1).all fun i => !(fieldsAt p (e.1 + e.2.2 * i)).isEmpty

theorem loRegistersHold_page (p : Page) : loRegistersHold p = true :=
  forall_of_everyPage (P := loRegistersHold) (by decide +kernel) p

theorem not_isEmpty_of_isLo {p : Page} {off : Nat} (h : isLo p off = true) : (fieldsAt p off).isEmpty = false := by
  obtain ⟨e, he, hoff⟩ := List.any_eq_true.mp h
  simp only [Bool.and_eq_true, decide_eq_true_eq, beq_iff_eq] at hoff
  obtain ⟨⟨hbase, hstep⟩, hcount⟩ := hoff
  have hat : e.1 + e.2.2 * ((off - e.1) / e.2.2) = off := by
    have hdiv := Nat.div_add_mod (off - e.1) e.2.2
    omega
  have hfield := List.all_eq_true.mp (List.all_eq_true.mp (loRegistersHold_page p) e he) _ (List.mem_range.mpr hcount)
  rw [hat, Bool.not_eq_true'] at hfield
  exact hfield

theorem latched_putLatch_same (s : State) (o : Origin) (addr : Nat) (hi : Word) :
    latched (putLatch o addr hi s) o addr = some hi := by
  simp [latched, putLatch]

theorem latched_putLatch_other {s : State} {o : Origin} {a b : Nat} (hi : Word) (h : a ≠ b) :
    latched (putLatch o a hi s) o b = latched s o b := by
  have hkeep : ∀ l : Latch, decide ((!(l.origin == o.code && l.loAddr == a)) = true ∧
      (l.origin == o.code && l.loAddr == b) = true) = (l.origin == o.code && l.loAddr == b) := fun l => by
    by_cases hb : l.loAddr = b
    · simp [hb, Ne.symm h, beq_eq_decide]
    · simp [hb]
  rw [latched, latched, putLatch]
  simp only [List.find?_cons, beq_self_eq_true, beq_eq_false_iff_ne.mpr h, Bool.and_false]
  rw [List.find?_filter]
  exact congrArg (fun f => (s.latches.find? f).map Latch.hi) (funext hkeep)

/-- A read of a _LO register latches its partner for the origin that reads. -/
theorem latched_latchHigh {o : Origin} {p : Page} {off : Nat} {s : State} (h : isLo p off = true) :
    latched (latchHigh o p off s) o (pageBase p + off + 4) = some (shownWord s o p (off + 4)) := by
  rw [latchHigh, if_pos h]
  dsimp only
  split
  · next htb =>
    obtain ⟨rfl, rfl⟩ := htb
    rw [latched_putLatch_other _ (by decide), latched_putLatch_same]
  · exact latched_putLatch_same _ _ _ _

theorem latched_of_latches {s t : State} (h : t.latches = s.latches) (o : Origin) (addr : Nat) :
    latched t o addr = latched s o addr := by
  rw [latched, latched, h]

theorem ends_of_latchRead {o : Origin} {p : Page} {off : Nat} {s : State} (hoff : off < 0x1000) (halign : off % 4 = 0)
    (hlo : isLo p off = true) (hready : o = .host → s.hostReady = true) (hawake : s.power ≠ pwrIdle)
    (htest : underTest s p = false) : Ends (.xLoReadLatch o (pageBase p + off) false) s fun t =>
      latched t o (pageBase p + off + 4) = some (shownWord s o p (off + 4)) := by
  have hreach : reached o p off s = s := reached_of_awake hawake
  have hexec := exec_xLoReadLatch_of (p := p) hoff halign hready
  rw [hreach, readPage, htest, not_isEmpty_of_isLo hlo, if_neg (by decide), if_neg (by decide)] at hexec
  have heffect : (readEffect p off (latchHigh o p off s)).latches = (latchHigh o p off s).latches :=
    (readEffect_within (Within.refl (633989714025582325518737342464 : Nat) _) (Nat.or_self _)).latches (by decide)
  exact ends_of_endsIn hexec ((latched_of_latches heffect o _).trans (latched_latchHigh hlo))

/-- Settles O9: a write that is stored, one outside the pages, an early one, odd ones, and the latch of a _LO register. -/
theorem registerAccessesComplete : Obligations.RegisterAccessesComplete := by
  refine ⟨fun o p off w readings s hreg htakes heffect => ?_, fun o addr w s haddr hreach hspace => ?_,
    fun addr w s haddr hready => ends_of_early haddr hready, fun addr len w s haddr => ends_of_misalignedRead haddr,
    fun addr len w s haddr hready => ends_of_misalignedWrite haddr.1 haddr.2 hready, fun o p off s hreg hreach => ?_⟩
  · obtain ⟨hoff, halign, hseq, hheld⟩ := hreg
    exact ends_of_stored hoff halign hseq hheld htakes heffect
  · obtain ⟨hbar, hcore, hpage⟩ := haddr
    obtain ⟨hready, hawake, hsteps⟩ := hreach
    exact ends_of_unmapped hbar hcore hpage hready hawake hsteps hspace
  · obtain ⟨hoff, halign, hlo⟩ := hreg
    obtain ⟨hready, hawake, htest⟩ := hreach
    exact ends_of_latchRead hoff halign hlo hready hawake htest

end Sys2Proof.Control
end

section
/-! SUPPORT. A start that completes and leaves its page starting: under carrier lock two starting framers reach running together
(R19), so the completion of LFM_A's start runs neither page while LFM_B still waits for its partner's CSF boundary (R85). -/
namespace Sys2Proof.Control

open Sys2Proof Sys2Proof.Machine Sys2Proof.Safety Sys2Proof.Architecture

/-- Under carrier lock, with SYN_LA locked, LFM_A and LFM_B start, and LFM_B alone waits to join its partner. -/
def waitingPartner : State :=
  (Sys2Proof.Tests.put [(.glb, GLB.LOCKCTL.LOCK_EN, 1), (.syn 0, SYN.STAT.LOCK, 1), (.lfm .a, HDR.RUNSTAT.STATE, 1),
    (.lfm .b, HDR.RUNSTAT.STATE, 1)]).setFramer .b { State.reset.framer.get .b with waitJoin := true }

/-- A completed start of the framers' pair does nothing while one of them waits. -/
theorem pairStart_of_waits {s : State} {c : Carrier} (h : lfmWaits s c = true) : pairStart s = s := by
  cases c <;> simp [pairStart, h]

theorem ratchetFor_of_unowned {s : State} {c : Carrier} (h : ownerOf s c = none) : ratchetFor c s = s := by
  simp [ratchetFor, h]

theorem fesFollow_of_stopped {s : State} {c : Carrier} (h : s.running .fes = false) : fesFollow c s = s := by
  simp [fesFollow, h]

/-- With one of two paired framers waiting, no session and the front end stopped, the completion changes nothing. -/
theorem execPageStartComplete_of_pair_waits {s : State} {c d : Carrier} {ok : Bool} {band gain : Int × Int}
    (hp : framersPair s = true) (hw : lfmWaits s d = true) (ho : ∀ x, ownerOf s x = none) (hf : s.running .fes = false) :
    exec (.pageStartComplete (.lfm c) ok band gain) s = .next s := by
  have hstarted : pageStarted (.lfm c) ok band gain s = s := by
    simp [pageStarted, hp, pairStart_of_waits hw, ratchetFor_of_unowned (ho _)]
  change execPageStartComplete (.lfm c) ok band gain s = .next s
  simp [execPageStartComplete, endsIn, fesFollowBoth, hstarted, fesFollow_of_stopped hf]

/-- Refutes O8: LFM_A's start is ready and completes without error, and LFM_A stays starting, because its pair starts
together and LFM_B waits. -/
theorem not_pageTransitionsComplete : ¬ Obligations.PageTransitionsComplete := by
  rintro ⟨-, -, hcomplete, -⟩
  have hstarting : waitingPartner.run (.lfm .a) = .starting := by decide +kernel
  have hready : startReady waitingPartner (.lfm .a) = true := by decide +kernel
  have hsame : exec (.pageStartComplete (.lfm .a) true (0, 0) (0, 0)) waitingPartner = .next waitingPartner :=
    execPageStartComplete_of_pair_waits (d := .b) (by decide +kernel) (by decide +kernel)
      (fun x => by cases x <;> decide +kernel) (by decide +kernel)
  obtain ⟨t, ht, hrunning⟩ := hcomplete (.lfm .a) true (0, 0) (0, 0) waitingPartner hstarting hready rfl
  obtain rfl : waitingPartner = t := by simpa [hsame] using ht
  exact absurd (hstarting.symm.trans hrunning) (by decide)

end Sys2Proof.Control
end

section
/-! SUPPORT. What a page's application boundary leaves where its live fields act by their value alone (R55, R58), and registers of
a page that an operation does not name. -/
namespace Sys2Proof.LineFraming

open Sys2Proof Sys2Proof.Machine Sys2Proof.Safety Sys2Proof.Architecture Sys2Proof.Control

/-! ## Registers kept -/

/-- Every register but those of page `p` that hold one of the fields `fs`. -/
def allBut (p : Page) (fs : List Field) (q : Page) (k : Nat) : Bool := !(q == p && fs.any fun g => g.off % 0x1000 == k)

theorem allBut_off {p q : Page} {fs : List Field} {k : Nat} (h : (fs.any fun g => g.off % 0x1000 == k) = false) :
    allBut p fs q k = true := by
  rw [allBut, h, Bool.and_false, Bool.not_false]

theorem allBut_eq_false {p : Page} {fs : List Field} {k : Nat} (h : (fs.any fun g => g.off % 0x1000 == k) = true) :
    allBut p fs p k = false := by
  rw [allBut, h, beq_self_eq_true, Bool.and_true, Bool.not_true]

theorem page_of_allBut {p q : Page} {fs : List Field} {k : Nat} (h : allBut p fs q k = false) : q = p := by
  simp only [allBut, Bool.not_eq_false', Bool.and_eq_true, beq_iff_eq] at h
  exact h.1

variable {T : Page → Nat → Bool} {s0 s t : State}

/-- An operation that leaves the pages of the registers in question leaves those registers. -/
theorem keeps_within {K : Nat} (h : Keeps T s0 s) (hw : Within K s t) (hT : ∀ q k, T q k = false → pageBit q &&& K = 0) :
    Keeps T s0 t :=
  h.trans fun q k hk => hw.page q k (hT q _ hk)

theorem keeps_withinOff {K : Nat} {p : Page} {fs : List Field} (h : Keeps (allBut p fs) s0 s) (hw : Within K s t)
    (hp : pageBit p &&& K = 0) : Keeps (allBut p fs) s0 t :=
  keeps_within h hw fun _ _ hk => page_of_allBut hk ▸ hp

theorem keeps_storeSame (s : State) (p : Page) (off : Nat) : Keeps T s (Machine.setWord s p off (word s p off)) := fun q k _ => by
  by_cases hq : p = q
  · subst hq
    by_cases hk : off % 0x1000 = k % 0x1000
    · have hword (u : State) : word u p k = word u p off := by rw [word, word, hk]
      rw [hword, hword, word_setWord_same]
    · exact word_setWord_off s p off k _ hk
  · exact word_setWord_page s p q off k _ hq

theorem run_of_get {p : Page} (h : t.get p HDR.RUNSTAT.STATE = s.get p HDR.RUNSTAT.STATE) : t.run p = s.run p := by
  rw [State.run, State.run, h]

theorem running_of_get {p : Page} (h : t.get p HDR.RUNSTAT.STATE = s.get p HDR.RUNSTAT.STATE) :
    t.running p = s.running p := by
  rw [State.running, State.running, run_of_get h]

/-! ## Boundaries -/

/-- The registers with live fields, the only ones that a boundary stores. -/
def liveWords (p : Page) (off : Nat) : Bool := !(fieldsOf p off .rwL).isEmpty

/-- The live fields of a page do nothing beside their value when they come into force. -/
def ActsByValue (p : Page) : Prop := ∀ off old new s, liveApplied p off old new s = s

theorem actsByValue_lfm (c : Carrier) : ActsByValue (.lfm c) := fun _ _ _ _ => rfl
theorem actsByValue_cry (c : Carrier) : ActsByValue (.cry c) := fun _ _ _ _ => rfl
theorem actsByValue_cpc (c : Carrier) : ActsByValue (.cpc c) := fun _ _ _ _ => rfl

theorem keeps_applyLive {x : LiveWrite} (hx : ∀ p, pageOfAddr x.addr = some p → ActsByValue p)
    (h : Keeps liveWords s0 s) : Keeps liveWords s0 (applyLive s x) := by
  unfold applyLive
  split
  · exact h
  · next p hp =>
    dsimp only
    rw [hx p hp]
    have hunstaged : Keeps liveWords s0 (unstage x.addr s) := h.of_regs rfl
    by_cases hlive : fieldsOf p (x.addr % 0x1000) .rwL = []
    · rw [hlive]
      exact hunstaged.trans (keeps_storeSame (unstage x.addr s) p (x.addr % 0x1000))
    · refine hunstaged.setWord ?_
      rw [Nat.mod_mod, liveWords, List.isEmpty_eq_false_iff.mpr hlive, Bool.not_false]

theorem keeps_applyStaged {due : Page → Nat → Bool} (hdue : ∀ p off, due p off = true → ActsByValue p)
    (h : Keeps liveWords s0 s) : Keeps liveWords s0 (applyStaged due s) := by
  unfold applyStaged
  extract_lets admitted
  refine List.foldlRecOn _ _ h fun u hu x hx => keeps_applyLive (fun p hp => ?_) hu
  have hadmitted : admitted x = true := (List.mem_filter.mp hx).2
  simp only [admitted, hp] at hadmitted
  exact hdue _ _ hadmitted

/-- A boundary of a page whose live fields act by their value stores registers with live fields alone. -/
theorem keeps_pageBoundary {p : Page} (hp : ActsByValue p) (h : Keeps liveWords s0 s) :
    Keeps liveWords s0 (pageBoundary p s) :=
  Keeps.ite (keeps_applyStaged (fun _ _ hq => eq_of_beq hq ▸ hp) h) h

theorem keeps_frameBoundary (c : Carrier) (s : State) : Keeps liveWords s (frameBoundary c s) :=
  keeps_pageBoundary (actsByValue_cry c) (keeps_pageBoundary (actsByValue_lfm c) (Keeps.refl _ s))

theorem get_frameBoundary {c : Carrier} {p : Page} {f : Field} (h : liveWords p (f.off % 0x1000) = false) :
    (frameBoundary c s).get p f = s.get p f := (keeps_frameBoundary c s).get h

theorem running_frameBoundary (c : Carrier) (p : Page) (s : State) : (frameBoundary c s).running p = s.running p :=
  running_of_get (get_frameBoundary rfl)

end Sys2Proof.LineFraming
end

section
/-! SUPPORT. Counters and run states: what a counter held in two registers reads after it is set, and what a page's run state is
after it is set. -/
namespace Sys2Proof.LineFraming

open Sys2Proof Sys2Proof.Machine Sys2Proof.Safety Sys2Proof.Architecture Sys2Proof.Control

/-! ## Counters -/

theorem get_addSat_same (s : State) (p : Page) (f : Field) (n : Nat) (h : f.lo + f.width ≤ 32) :
    (s.addSat p f n).get p f = min (s.get p f + n) (2 ^ f.width - 1) := by
  have hpos : 0 < 2 ^ f.width := Nat.two_pow_pos _
  rw [State.addSat, get_set_same _ _ _ _ h, Nat.mod_eq_of_lt (by omega)]

section pair

variable {s t : State} {p : Page} {lo hi : Field}

theorem pair_of_get (hlo : t.get p lo = s.get p lo) (hhi : t.get p hi = s.get p hi) : t.pair p lo hi = s.pair p lo hi := by
  rw [State.pair, State.pair, hlo, hhi]

theorem pair_lt (s : State) (p : Page) (lo hi : Field) : s.pair p lo hi < 2 ^ (lo.width + hi.width) := by
  have hlo : s.get p lo < 2 ^ lo.width := extract_lt _ _ _
  have hhi : s.get p hi < 2 ^ hi.width := extract_lt _ _ _
  calc s.get p lo + s.get p hi * 2 ^ lo.width
      < (s.get p hi + 1) * 2 ^ lo.width := by rw [Nat.add_mul]; omega
    _ ≤ 2 ^ hi.width * 2 ^ lo.width := Nat.mul_le_mul_right _ hhi
    _ = 2 ^ (lo.width + hi.width) := by rw [Nat.pow_add, Nat.mul_comm]

theorem pair_setPair_same (s : State) (p : Page) (v : Nat) (hoff : hi.off % 0x1000 ≠ lo.off % 0x1000)
    (hlo : lo.lo + lo.width ≤ 32) (hhi : hi.lo + hi.width ≤ 32) :
    (s.setPair p lo hi v).pair p lo hi = v % 2 ^ (lo.width + hi.width) := by
  rw [State.setPair, State.pair, get_set_off _ _ hi lo _ hoff, get_set_same _ _ _ _ hlo, get_set_same _ _ _ _ hhi,
    Nat.pow_add, Nat.mod_mul, Nat.mul_comm (2 ^ lo.width)]

theorem pair_addPair_same (s : State) (p : Page) (n : Nat) (hoff : hi.off % 0x1000 ≠ lo.off % 0x1000)
    (hlo : lo.lo + lo.width ≤ 32) (hhi : hi.lo + hi.width ≤ 32) :
    (s.addPair p lo hi n).pair p lo hi = min (s.pair p lo hi + n) (2 ^ (lo.width + hi.width) - 1) := by
  have hpos : 0 < 2 ^ (lo.width + hi.width) := Nat.two_pow_pos _
  rw [State.addPair, pair_setPair_same _ _ _ hoff hlo hhi, Nat.mod_eq_of_lt (by omega)]

end pair

/-! ## Run states -/

theorem run_setRun_same (s : State) (p : Page) (r : RunState) : (s.setRun p r).run p = r := by
  have hget : (s.setRun p r).get p HDR.RUNSTAT.STATE = r.code % 2 ^ 2 := get_set_same s p _ _ (by decide)
  rw [State.run, hget]
  cases r <;> rfl

theorem run_setRun_other {s : State} {p q : Page} (r : RunState) (h : p ≠ q) : (s.setRun p r).run q = s.run q :=
  run_of_get (get_set_page s p q _ _ _ h)

end Sys2Proof.LineFraming
end

section
/-! SUPPORT. Starting framers: one that joins its partner (R85) and two that start together (R19, R273). -/
namespace Sys2Proof.LineFraming

open Sys2Proof Sys2Proof.Machine Sys2Proof.Safety Sys2Proof.Architecture Sys2Proof.Control

/-- A copied buffer shows in JUST_OCC alone. -/
theorem get_copyBuffer {c : Carrier} {s : State} {q : Page} {f : Field}
    (h : LFM.JUST_OCC.COUNT.off % 0x1000 ≠ f.off % 0x1000) : (copyBuffer c s).get q f = s.get q f := by
  unfold copyBuffer
  dsimp only
  split
  · exact get_of_word (word_set_off _ _ _ _ _ _ h)
  · rfl

theorem buffer_copyBuffer {c : Carrier} {s : State} (h : onePlusOne s = true) :
    ((copyBuffer c s).framer.get c).buffer = (s.framer.get c.other).buffer := by
  rw [copyBuffer, if_pos h]
  cases c <;> rfl

/-! ## Joining the partner (R85) -/

/-- A framer that joins takes the number of the partner's CSF and LF_IDX 0, and runs. -/
def joined (c : Carrier) (s : State) : State :=
  ((s.setPair (.lfm c) LFM.TX_CSF_LO.CSF LFM.TX_CSF_HI.CSF (txCsf s c.other)).set (.lfm c) LFM.TX_CSF_HI.LF_IDX 0).setRun
    (.lfm c) .running

theorem run_joined (c : Carrier) (s : State) : (joined c s).run (.lfm c) = .running := run_setRun_same _ _ _

theorem txLfIdx_joined (c : Carrier) (s : State) : txLfIdx (joined c s) c = 0 := by
  rw [txLfIdx, joined, State.setRun, get_set_off _ _ _ _ _ (by decide), get_set_same _ _ _ _ (by decide)]
  rfl

theorem txCsf_joined (c : Carrier) (s : State) : txCsf (joined c s) c = txCsf s c.other := by
  have hkept : txCsf (joined c s) c =
      txCsf (s.setPair (.lfm c) LFM.TX_CSF_LO.CSF LFM.TX_CSF_HI.CSF (txCsf s c.other)) c := by
    refine pair_of_get ?_ ?_
    · rw [joined, State.setRun, get_set_off _ _ _ _ _ (by decide), get_set_off _ _ _ _ _ (by decide)]
    · rw [joined, State.setRun, get_set_off _ _ _ _ _ (by decide),
        get_set_disjoint _ _ LFM.TX_CSF_HI.LF_IDX LFM.TX_CSF_HI.CSF _ rfl (by decide) (by decide)]
  rw [hkept]
  exact (pair_setPair_same _ _ _ (by decide) (by decide) (by decide)).trans (Nat.mod_eq_of_lt (pair_lt _ _ _ _))

/-- A framer whose partner runs and is at its CSF boundary joins it, once it has copied what the partner's buffer holds. -/
theorem joinPartner_of_ready {c : Carrier} {s : State} (hrun : s.run (.lfm c) = .starting)
    (hwait : (s.framer.get c).waitJoin = true) (hpartner : s.running (.lfm c.other) = true) (hidx : txLfIdx s c.other = 0) :
    ∃ u, joinPartner c s = joined c u ∧ txCsf u c.other = txCsf s c.other := by
  simp only [joinPartner, hrun, hwait, hpartner, hidx, decide_true, beq_self_eq_true, Bool.and_self, if_true]
  exact ⟨_, rfl, pair_of_get (get_copyBuffer (by decide)) (get_copyBuffer (by decide))⟩

theorem ends_of_join {c : Carrier} {s : State} (hrun : s.run (.lfm c) = .starting)
    (hwait : (s.framer.get c).waitJoin = true) (hpartner : s.running (.lfm c.other) = true) (hidx : txLfIdx s c.other = 0) :
    Ends (.lfmJoinPartner c) s fun t =>
      t.run (.lfm c) = .running ∧ txCsf t c = txCsf s c.other ∧ txLfIdx t c = 0 := by
  obtain ⟨u, hu, hcsf⟩ := joinPartner_of_ready hrun hwait hpartner hidx
  exact ends_of_registers (c := .lfmJoinPartner c) (congrArg (endsIn s) hu) fun t _ hget =>
    ⟨(run_of_get (hget _ _)).trans (run_joined c u),
      (pair_of_get (hget _ _) (hget _ _)).trans ((txCsf_joined c u).trans hcsf), (hget _ _).trans (txLfIdx_joined c u)⟩

/-! ## Starting together (R273) -/

/-- Both framers run. -/
def pairRunning (s : State) : State := (s.setRun (.lfm .a) .running).setRun (.lfm .b) .running

theorem pairStart_of_ready {s : State} (hpair : framersPair s = true) (ha : lfmWaits s .a = false)
    (hb : lfmWaits s .b = false) : pairStart s = copyBuffer .b (pairRunning s) := by
  simp only [pairStart, hpair, ha, hb, Bool.not_false, Bool.and_self, if_true, pairRunning]

theorem run_pairStarted (s : State) (c : Carrier) : (copyBuffer .b (pairRunning s)).run (.lfm c) = .running := by
  rw [run_of_get (get_copyBuffer (by decide)), pairRunning]
  cases c with
  | a => rw [run_setRun_other _ (by decide), run_setRun_same]
  | b => exact run_setRun_same _ _ _

theorem onePlusOne_pairRunning (s : State) : onePlusOne (pairRunning s) = onePlusOne s := by
  rw [onePlusOne, onePlusOne, pairRunning, State.setRun, State.setRun, get_set_page _ _ _ _ _ _ (by decide),
    get_set_page _ _ _ _ _ _ (by decide)]

theorem ends_of_pairStart {s : State} (hpair : framersPair s = true) (ha : lfmWaits s .a = false)
    (hb : lfmWaits s .b = false) : Ends .lfmPairStart s fun t =>
      t.run (.lfm .a) = .running ∧ t.run (.lfm .b) = .running ∧
      (onePlusOne s = true → (t.framer.get .b).buffer = (s.framer.get .a).buffer) :=
  ends_of_endsIn (c := .lfmPairStart) (congrArg (endsIn s) (pairStart_of_ready hpair ha hb))
    ⟨run_pairStarted s .a, run_pairStarted s .b, fun h => buffer_copyBuffer ((onePlusOne_pairRunning s).trans h)⟩

end Sys2Proof.LineFraming
end

section
/-! SUPPORT. An LF formed (R85 to R89): what forming it leaves of the count of LFs sent, and the count. -/
namespace Sys2Proof.LineFraming

open Sys2Proof Sys2Proof.Machine Sys2Proof.Safety Sys2Proof.Architecture Sys2Proof.Control

/-- The registers of the count of LFs sent. -/
def sentWords : List Field := [LFM.TX_LF_LO.COUNT, LFM.TX_LF_HI.COUNT]

/-- The count of LFs sent. -/
def lfSent (s : State) (c : Carrier) : Nat := s.pair (.lfm c) LFM.TX_LF_LO.COUNT LFM.TX_LF_HI.COUNT

/-- From `s` to `t` no register of LFM_x that counts the LFs sent changes. -/
abbrev KeepsSent (c : Carrier) (s t : State) : Prop := Keeps (allBut (.lfm c) sentWords) s t

theorem KeepsSent.eq {c : Carrier} {s t : State} (h : KeepsSent c s t) : lfSent t c = lfSent s c :=
  pair_of_get (h.get (allBut_eq_false (by decide))) (h.get (allBut_eq_false (by decide)))

section keeps

variable {c : Carrier} {s0 s : State}

theorem KeepsSent.setOff {p : Page} {f : Field} {v : Nat} (h : KeepsSent c s0 s)
    (hf : (sentWords.any fun g => g.off % 0x1000 == f.off % 0x1000) = false) : KeepsSent c s0 (s.set p f v) :=
  h.set (allBut_off hf)

theorem keepsSent_raiseIf {b : Bool} {p : Page} {e : Nat} (h : KeepsSent c s0 s) : KeepsSent c s0 (s.raiseIf b p e) :=
  Keeps.ite (h.raise (allBut_off (by decide))) h

theorem keepsSent_noteRange {d : Carrier} {n : Nat} (h : KeepsSent c s0 s) : KeepsSent c s0 (noteRange s d n) :=
  (KeepsSent.setOff (p := .lfm d) (f := LFM.JUST_RANGE.MAX_DATA) h (by decide)).setOff (by decide)

theorem keepsSent_advanceCsf {d : Carrier} (h : KeepsSent c s0 s) : KeepsSent c s0 (advanceCsf s d) := by
  unfold advanceCsf
  dsimp only
  refine Keeps.ite (keepsSent_raiseIf ?_) (h.setOff (by decide))
  exact ((KeepsSent.setOff (p := .lfm d) (f := LFM.TX_CSF_HI.LF_IDX) h (by decide)).setOff (by decide)).setOff (by decide)

theorem keepsSent_takeBlocks {d : Carrier} (h : KeepsSent c s0 s) : KeepsSent c s0 (takeBlocks s d).1 := by
  unfold takeBlocks
  extract_lets f pair due blocks rest taken shown g
  have hshown : KeepsSent c s0 shown := KeepsSent.setOff (Keeps.of_regs (t := taken) h rfl) (by decide)
  split
  · exact hshown.of_regs rfl
  · exact hshown

/-- The keying before an LF leaves the count (R229, R231, R237). -/
theorem keepsSent_keyed {d : Carrier} (h : KeepsSent c s0 s) :
    KeepsSent c s0 (takeActivation (missDeadline (expireOver s d false) d) d) := by
  have hexpired := keeps_withinOff h (expireOver_within (c := d) (receive := false) (Within.refl _ s)
    (Nat.or_self _)) (by simp)
  have hmissed := keeps_withinOff hexpired (missDeadline_within (c := d) (Within.refl _ _)
    (Nat.or_self _)) (by simp)
  exact keeps_withinOff hmissed (takeActivation_within (c := d) (Within.refl _ _)
    (Nat.or_self _)) (by simp)

theorem keepsSent_encryptBoundary {d : Carrier} (h : KeepsSent c s0 s) : KeepsSent c s0 (encryptBoundary s d) :=
  keeps_withinOff h (encryptBoundary_within (Within.refl _ s) (Nat.or_self _)) (by simp)

end keeps

/-- An LF is counted once, whatever it carries (R95). -/
theorem lfSent_countFrame (c : Carrier) (d : Nat) (clear first : Bool) (s : State) :
    lfSent (countFrame c d clear first s) c =
      min (lfSent s c + 1) (2 ^ (LFM.TX_LF_LO.COUNT.width + LFM.TX_LF_HI.COUNT.width) - 1) := by
  unfold countFrame
  extract_lets raised counted
  have hraised : KeepsSent c s raised := keepsSent_raiseIf (keepsSent_raiseIf (Keeps.refl _ s))
  have hcounted : lfSent counted c =
      min (lfSent raised c + 1) (2 ^ (LFM.TX_LF_LO.COUNT.width + LFM.TX_LF_HI.COUNT.width) - 1) :=
    pair_addPair_same _ _ _ (by decide) (by decide) (by decide)
  rw [← hraised.eq, ← hcounted]
  refine KeepsSent.eq (Keeps.ite (keepsSent_noteRange ?_) ?_)
  · exact (KeepsSent.setOff (p := .lfm c) (f := LFM.TX_DATA_LO.COUNT) (Keeps.refl _ counted) (by decide)).setOff (by decide)
  · exact KeepsSent.setOff (Keeps.refl _ counted) (by decide)

/-- Forming an LF counts it. -/
theorem lfSent_formFrame {c : Carrier} {inband : BitVec 64} {s : State} (h : frameDue s c = true) :
    lfSent (formFrame c inband s) c =
      min (lfSent s c + 1) (2 ^ (LFM.TX_LF_LO.COUNT.width + LFM.TX_LF_HI.COUNT.width) - 1) := by
  rw [formFrame, if_neg (by simp [h])]
  extract_lets keyed bounded taken ready key clear frame f sent
  have hkeyed : KeepsSent c s keyed := keepsSent_keyed (Keeps.refl _ s)
  clear_value keyed
  have hbounded : KeepsSent c s bounded := Keeps.ite (keepsSent_encryptBoundary hkeyed) hkeyed
  clear_value bounded
  have hready : KeepsSent c s ready := keepsSent_takeBlocks hbounded
  clear_value key clear frame
  have hsent : KeepsSent c s (sendInfo c frame.bits sent) := Keeps.of_regs (s := ready) hready rfl
  rw [(keepsSent_advanceCsf (Keeps.refl _ _)).eq, lfSent_countFrame, hsent.eq]

/-! ## The framer stays due -/

theorem frameDue_of {c : Carrier} {s t : State} (hlfm : t.running (.lfm c) = s.running (.lfm c))
    (hfec : t.running (.fec c) = s.running (.fec c)) (hstate : t.fec = s.fec) : frameDue t c = frameDue s c := by
  rw [frameDue, encoderTakes, encoderOf, hlfm, hfec, hstate]
  rfl

theorem frameDue_frameBoundary (c : Carrier) (s : State) : frameDue (frameBoundary c s) c = frameDue s c :=
  frameDue_of (running_frameBoundary _ _ _) (running_frameBoundary _ _ _)
    ((frameBoundary_within (Within.refl _ s) (Nat.or_self _)).fec (by decide))

theorem frameDue_keyingAtFrame (c : Carrier) (s : State) : frameDue (keyingAtFrame c s) c = frameDue s c := by
  have hkeyed := keyingAtFrame_within (x := c) (Within.refl _ s) (Nat.or_self _)
  exact frameDue_of (running_of_get (get_of_within hkeyed (by simp) _)) (running_of_get (get_of_within hkeyed (by simp) _))
    (hkeyed.fec (by decide))

/-- The state in which an LF is formed: its boundary has come about and its keying is done. -/
def beforeFrame (c : Carrier) (s : State) : State := keyingAtFrame c (frameBoundary c s)

theorem lfSent_beforeFrame (c : Carrier) (s : State) : lfSent (beforeFrame c s) c = lfSent s c := by
  have hboundary : lfSent (frameBoundary c s) c = lfSent s c := pair_of_get (get_frameBoundary rfl) (get_frameBoundary rfl)
  have hkeyed : KeepsSent c (frameBoundary c s) (beforeFrame c s) :=
    keeps_withinOff (Keeps.refl _ _) (keyingAtFrame_within (Within.refl _ _) (Nat.or_self _)) (by simp)
  exact hkeyed.eq.trans hboundary

theorem ends_of_frameDue {c : Carrier} {s : State} (h : frameDue s c = true) : Ends (.lfHeaderForm c) s fun t =>
    lfSent t c = min (lfSent s c + 1) (2 ^ (LFM.TX_LF_LO.COUNT.width + LFM.TX_LF_HI.COUNT.width) - 1) := by
  have hdue : frameDue (beforeFrame c s) c = true :=
    (frameDue_keyingAtFrame c _).trans ((frameDue_frameBoundary c s).trans h)
  have hexec : exec (.lfHeaderForm c) s = endsIn s
      (ratchetRetry c (inbandSent c (formFrame c (nextInband (beforeFrame c s) c) (beforeFrame c s)))) :=
    congrArg (endsIn s) (if_pos h)
  refine ends_of_endsIn hexec ?_
  have hinband (u : State) : KeepsSent c u (inbandSent c u) :=
    keeps_withinOff (Keeps.refl _ u) (inbandSent_within (Within.refl _ u) (Nat.or_self _)) (by simp)
  have hratchet (u : State) : KeepsSent c u (ratchetRetry c u) :=
    keeps_withinOff (Keeps.refl _ u) (ratchetRetry_within (Within.refl _ u) (Nat.or_self _)) (by simp)
  refine (hratchet _).eq.trans ((hinband _).eq.trans ?_)
  rw [lfSent_formFrame hdue, lfSent_beforeFrame]

end Sys2Proof.LineFraming
end

section
/-! SUPPORT. A calendar round (R334): the RS codewords of a port (R332, R344), which the blocks and the round leave as counted. -/
namespace Sys2Proof.LineFraming

open Sys2Proof Sys2Proof.Machine Sys2Proof.Safety Sys2Proof.Architecture Sys2Proof.Control

/-! ## Codewords counted -/

/-- The codewords that one port has decoded are counted. -/
def countPort (c : Carrier) (rsCorr rsUncorr : List Nat) (s : State) (q : Nat) : State :=
  if admitted s c q then
    (s.addSat (.cpc c) (CPC.RS_CORR.COUNT.at q) (rsCorr.getD q 0)).addSat (.cpc c) (CPC.RS_UNCORR.COUNT.at q)
      (rsUncorr.getD q 0)
  else s

theorem countCodewords_eq (c : Carrier) (rsCorr rsUncorr : List Nat) (s : State) :
    countCodewords c rsCorr rsUncorr s = [0, 1, 2, 3].foldl (countPort c rsCorr rsUncorr) s := rfl

section count

variable {c : Carrier} {rsCorr rsUncorr : List Nat} {s : State}

/-- A field in neither register of a port's counters. -/
def OffPort (f : Field) (q : Nat) : Prop :=
  (CPC.RS_CORR.COUNT.at q).off % 0x1000 ≠ f.off % 0x1000 ∧ (CPC.RS_UNCORR.COUNT.at q).off % 0x1000 ≠ f.off % 0x1000

theorem get_countPort_other {q : Nat} {f : Field} (h : OffPort f q) :
    (countPort c rsCorr rsUncorr s q).get (.cpc c) f = s.get (.cpc c) f := by
  unfold countPort
  split
  · exact (get_set_off _ _ _ _ _ h.2).trans (get_set_off _ _ _ _ _ h.1)
  · rfl

theorem get_foldl_countPort_other {l : List Nat} {f : Field} (h : ∀ q ∈ l, OffPort f q) :
    (l.foldl (countPort c rsCorr rsUncorr) s).get (.cpc c) f = s.get (.cpc c) f :=
  List.foldlRecOn (motive := fun u : State => u.get (.cpc c) f = s.get (.cpc c) f) _ _ rfl
    fun _ hu q hq => (get_countPort_other (h q hq)).trans hu

theorem get_corr_countPort {q : Nat} (h : admitted s c q = true) :
    (countPort c rsCorr rsUncorr s q).get (.cpc c) (CPC.RS_CORR.COUNT.at q) =
      min (s.get (.cpc c) (CPC.RS_CORR.COUNT.at q) + rsCorr.getD q 0) (2 ^ CPC.RS_CORR.COUNT.width - 1) := by
  have hoff : (CPC.RS_UNCORR.COUNT.at q).off % 0x1000 ≠ (CPC.RS_CORR.COUNT.at q).off % 0x1000 := by
    simp only [Field.at, CPC.RS_CORR.COUNT, CPC.RS_UNCORR.COUNT]
    omega
  rw [countPort, if_pos h]
  exact (get_set_off _ _ _ _ _ hoff).trans (get_addSat_same _ _ _ _ (show 0 + 32 ≤ 32 by decide))

theorem get_uncorr_countPort {q : Nat} (h : admitted s c q = true) :
    (countPort c rsCorr rsUncorr s q).get (.cpc c) (CPC.RS_UNCORR.COUNT.at q) =
      min (s.get (.cpc c) (CPC.RS_UNCORR.COUNT.at q) + rsUncorr.getD q 0) (2 ^ CPC.RS_UNCORR.COUNT.width - 1) := by
  have hoff : (CPC.RS_CORR.COUNT.at q).off % 0x1000 ≠ (CPC.RS_UNCORR.COUNT.at q).off % 0x1000 := by
    simp only [Field.at, CPC.RS_CORR.COUNT, CPC.RS_UNCORR.COUNT]
    omega
  rw [countPort, if_pos h, get_addSat_same _ _ _ _ (show 0 + 32 ≤ 32 by decide)]
  exact congrArg (fun n => min (n + rsUncorr.getD q 0) (2 ^ CPC.RS_UNCORR.COUNT.width - 1)) (get_set_off _ _ _ _ _ hoff)

/-- The counters and the admission of one port lie off the counters of the others. -/
theorem offPort_of_ne {q r : Nat} (hq : q < 4) (hr : r < 4) (h : r ≠ q) :
    OffPort (CPC.RS_CORR.COUNT.at q) r ∧ OffPort (CPC.RS_UNCORR.COUNT.at q) r ∧ OffPort (CPC.PSTAT.ADMITTED.at q) r := by
  simp only [OffPort, Field.at, CPC.RS_CORR.COUNT, CPC.RS_UNCORR.COUNT, CPC.PSTAT.ADMITTED]
  omega

/-- Each admitted port's codewords are counted once. -/
theorem counts_countCodewords (q : Fin 4) (h : admitted s c q.val = true) :
    (countCodewords c rsCorr rsUncorr s).get (.cpc c) (CPC.RS_CORR.COUNT.at q.val) =
      min (s.get (.cpc c) (CPC.RS_CORR.COUNT.at q.val) + rsCorr.getD q.val 0) (2 ^ CPC.RS_CORR.COUNT.width - 1) ∧
    (countCodewords c rsCorr rsUncorr s).get (.cpc c) (CPC.RS_UNCORR.COUNT.at q.val) =
      min (s.get (.cpc c) (CPC.RS_UNCORR.COUNT.at q.val) + rsUncorr.getD q.val 0) (2 ^ CPC.RS_UNCORR.COUNT.width - 1) := by
  have hports : ∀ r ∈ [0, 1, 2, 3], r < 4 := by decide
  have hmem : ∀ q : Fin 4, q.val ∈ [0, 1, 2, 3] := by decide
  obtain ⟨before, after, hl⟩ := List.append_of_mem (hmem q)
  have hnodup : q.val ∉ before ++ after := (List.nodup_cons.mp (List.nodup_middle.mp (hl ▸ by decide))).1
  have hoff (r : Nat) (hr : r ∈ before ++ after) :=
    offPort_of_ne q.isLt (hports r (hl ▸ ((List.sublist_cons_self q.val after).append_left before).subset hr))
      fun he => hnodup (he ▸ hr)
  have hbefore (r : Nat) (hr : r ∈ before) := hoff r (List.mem_append_left after hr)
  have hafter (r : Nat) (hr : r ∈ after) := hoff r (List.mem_append_right before hr)
  have hadmitted : admitted (before.foldl (countPort c rsCorr rsUncorr) s) c q.val = true := by
    rw [admitted, State.flag, get_foldl_countPort_other fun r hr => (hbefore r hr).2.2]
    exact h
  rw [countCodewords_eq, hl, List.foldl_append, List.foldl_cons]
  constructor
  · rw [get_foldl_countPort_other fun r hr => (hafter r hr).1, get_corr_countPort hadmitted,
      get_foldl_countPort_other fun r hr => (hbefore r hr).1]
  · rw [get_foldl_countPort_other fun r hr => (hafter r hr).2.1, get_uncorr_countPort hadmitted,
      get_foldl_countPort_other fun r hr => (hbefore r hr).2.1]

end count

/-! ## The round leaves them -/

/-- Every register but the ports' counters of codewords. -/
def roundWords (p : Page) (k : Nat) : Bool :=
  match p with
  | .cpc _ => k % 64 != 0x24 && k % 64 != 0x28
  | _ => true

theorem keepsRound_of_within {K : Nat} {s0 s t : State} (h : Keeps roundWords s0 s) (hw : Within K s t)
    (hK : ∀ c, pageBit (.cpc c) &&& K = 0) : Keeps roundWords s0 t := by
  refine keeps_within h hw fun q k hk => ?_
  cases q with
  | cpc c => exact hK c
  | _ => exact absurd hk (by simp [roundWords])

/-- The registers of port `q` other than its counters of codewords. -/
theorem roundWords_at (c : Carrier) {off q : Nat} (h : off % 64 ≠ 0x24 ∧ off % 64 ≠ 0x28) :
    roundWords (.cpc c) ((off + 64 * q) % 0x1000) = true := by
  simp only [roundWords, Bool.and_eq_true, bne_iff_ne]
  omega

theorem keepsRound_ingressPush {c : Carrier} {x : Fin 4 × ClientIn} {s0 s : State} (h : Keeps roundWords s0 s) :
    Keeps roundWords s0 (ingressPush c s x) := by
  unfold ingressPush
  dsimp only
  have hdropped : Keeps roundWords s0 (s.bump (.cpc c) CPC.ING_OVF.COUNT) := h.set rfl
  exact Keeps.ite h (Keeps.ite (h.of_regs rfl) (hdropped.raise rfl))

theorem keepsRound_roundBlock {c : Carrier} {q : Nat} {s0 s : State} (h : Keeps roundWords s0 s) :
    Keeps roundWords s0 (roundBlock s c q).1 := by
  unfold roundBlock
  split
  · extract_lets p r taken counted
    have hcounted : Keeps roundWords s0 counted :=
      Keeps.setPair (s := taken) (h.of_regs rfl) (roundWords_at c (off := 0x84) (by decide))
        (roundWords_at c (off := 0x88) (by decide))
    split
    · exact hcounted
    · exact hcounted.set (roundWords_at c (off := 0x94) (by decide))
  · exact h.set (roundWords_at c (off := 0x98) (by decide))

theorem keepsRound_formRound {c : Carrier} {s0 s : State} (h : Keeps roundWords s0 s) :
    Keeps roundWords s0 (formRound c s) := by
  unfold formRound
  refine List.foldlRecOn _ _ h fun u hu q _ => ?_
  exact keepsRound_of_within (keepsRound_roundBlock hu)
    (justPush_within (Within.refl _ _) (Nat.or_self _)) (by simp)

/-- A round leaves the counts of codewords as they were counted before it. -/
theorem keepsRound_roundWrite {c : Carrier} {blocks : List (Fin 4 × ClientIn)} {rsCorr rsUncorr : List Nat} {s : State}
    (h : s.running (.cpc c) = true) :
    Keeps roundWords (countCodewords c rsCorr rsUncorr s) (roundWrite c blocks rsCorr rsUncorr s) := by
  rw [roundWrite, if_neg (by simp [h])]
  dsimp only
  have hpushed : Keeps roundWords (countCodewords c rsCorr rsUncorr s)
      (blocks.foldl (ingressPush c) (countCodewords c rsCorr rsUncorr s)) :=
    List.foldlRecOn _ _ (Keeps.refl _ _) fun _ hu _ _ => keepsRound_ingressPush hu
  exact Keeps.ite (keepsRound_formRound hpushed) hpushed

theorem keeps_cpcBoundary (c : Carrier) (s : State) : Keeps liveWords s (pageBoundary (.cpc c) s) :=
  keeps_pageBoundary (actsByValue_cpc c) (Keeps.refl _ s)

theorem liveWords_port (c : Carrier) : ∀ q : Fin 4,
    liveWords (.cpc c) ((CPC.RS_CORR.COUNT.at q.val).off % 0x1000) = false ∧
    liveWords (.cpc c) ((CPC.RS_UNCORR.COUNT.at q.val).off % 0x1000) = false ∧
    liveWords (.cpc c) ((CPC.PSTAT.ADMITTED.at q.val).off % 0x1000) = false := by
  cases c <;> decide +kernel

theorem ends_of_round {c : Carrier} {blocks : List (Fin 4 × ClientIn)} {rsCorr rsUncorr : List Nat} {q : Fin 4} {s : State}
    (hrun : s.running (.cpc c) = true) (hport : admitted s c q.val = true) :
    Ends (.cpcRoundWrite c blocks rsCorr rsUncorr) s fun t =>
      t.get (.cpc c) (CPC.RS_CORR.COUNT.at q.val) =
        min (s.get (.cpc c) (CPC.RS_CORR.COUNT.at q.val) + rsCorr.getD q.val 0) (2 ^ CPC.RS_CORR.COUNT.width - 1) ∧
      t.get (.cpc c) (CPC.RS_UNCORR.COUNT.at q.val) =
        min (s.get (.cpc c) (CPC.RS_UNCORR.COUNT.at q.val) + rsUncorr.getD q.val 0) (2 ^ CPC.RS_UNCORR.COUNT.width - 1) := by
  obtain ⟨hcorr, huncorr, hadmit⟩ := liveWords_port c q
  have hboundary := keeps_cpcBoundary c s
  have hround := keepsRound_roundWrite (blocks := blocks) (rsCorr := rsCorr) (rsUncorr := rsUncorr)
    ((running_of_get (hboundary.get rfl)).trans hrun)
  have hadmitted : admitted (pageBoundary (.cpc c) s) c q.val = true := by
    rw [admitted, State.flag, hboundary.get hadmit]
    exact hport
  have hcounts := counts_countCodewords (rsCorr := rsCorr) (rsUncorr := rsUncorr) q hadmitted
  rw [hboundary.get hcorr, hboundary.get huncorr] at hcounts
  have hkept (off : Nat) (h : off % 64 = 0x24 ∨ off % 64 = 0x28) :
      roundWords (.cpc c) ((off + 64 * q.val) % 0x1000) = false := by
    simp only [roundWords, Bool.and_eq_false_iff, bne_eq_false_iff_eq]
    omega
  have hexec : exec (.cpcRoundWrite c blocks rsCorr rsUncorr) s =
      endsIn s (roundWrite c blocks rsCorr rsUncorr (pageBoundary (.cpc c) s)) := rfl
  refine ends_of_registers hexec fun t _ hget => ?_
  rw [hget, hget, hround.get (hkept 0xA4 (by decide)), hround.get (hkept 0xA8 (by decide))]
  exact hcounts

end Sys2Proof.LineFraming
end

section
/-! SUPPORT. Frames received: the count of frame words that fail (R209) and of headers that fail (R210), and CLR of JUST_RANGE
(R95). -/
namespace Sys2Proof.LineFraming

open Sys2Proof Sys2Proof.Machine Sys2Proof.Safety Sys2Proof.Architecture Sys2Proof.Control

/-- The sequencers of the optics, which follow every change of a receiver's state, leave the framers' registers. -/
theorem keeps_fesFollowBoth {c : Carrier} {fs : List Field} {s0 s : State} (h : Keeps (allBut (.lfm c) fs) s0 s) :
    Keeps (allBut (.lfm c) fs) s0 (fesFollowBoth s) :=
  keeps_withinOff h (fesFollowBoth_within (Within.refl _ s) (Nat.or_self _)) (by simp)

/-! ## A frame word that fails (R209) -/

/-- From `s` to `t` LFM_x's register of FAW_ERR stays as it is. -/
abbrev KeepsFaw (c : Carrier) (s t : State) : Prop := Keeps (allBut (.lfm c) [LFM.FAW_ERR.COUNT]) s t

theorem keepsFaw_frameHunt {c d : Carrier} {s0 s : State} (h : KeepsFaw c s0 s) : KeepsFaw c s0 (frameHunt s d) := by
  unfold frameHunt
  extract_lets was broken hunting framer cleared record counted
  have hbroken : KeepsFaw c s0 broken :=
    Keeps.ite (keeps_withinOff h (breakInband_within (Within.refl _ s) (Nat.or_self _)) (by simp)) h
  have hcounted : KeepsFaw c s0 counted :=
    Keeps.of_regs (s := hunting) (hbroken.set (allBut_off (by decide))) rfl
  clear_value counted
  exact Keeps.ite (keeps_withinOff hcounted
    (lockFrameLeft_within (Within.refl _ counted) (Nat.or_self _)) (by simp)) hcounted

theorem keepsFaw_noteTrigger {c : Carrier} {b : Nat} {s0 s : State} (h : KeepsFaw c s0 s) : KeepsFaw c s0 (noteTrigger s b) :=
  Keeps.ite (h.of_regs rfl) h

/-- In SYNC a frame word that does not match is counted, whatever the count does to the frame state. -/
theorem keepsFaw_framePosition {c : Carrier} {f : RxFrame} {s : State} (hrun : s.running (.lfm c) = true)
    (hfec : fecLocked s c = true) (hsync : s.get (.lfm c) LFM.RX_STAT.FSTATE = 2) (hfaw : fawMatches s c f = false) :
    KeepsFaw c (s.bump (.lfm c) LFM.FAW_ERR.COUNT) (framePosition c f s) := by
  have hmissed : KeepsFaw c (s.bump (.lfm c) LFM.FAW_ERR.COUNT) (s.bump (.lfm c) LFM.FAW_ERR.COUNT) := Keeps.refl _ _
  simp only [framePosition, hrun, hfec, hsync, hfaw, Bool.not_true, Bool.or_self, Bool.false_eq_true, if_false,
    OfNat.ofNat_ne_zero, OfNat.ofNat_ne_one]
  refine Keeps.ite (keepsFaw_noteTrigger ?_) (hmissed.of_regs rfl)
  exact ((keepsFaw_frameHunt hmissed).set (allBut_off (by decide))).raise (allBut_off (by decide))

theorem ends_of_fawMiss {c : Carrier} {f : RxFrame} {s : State} (hrun : s.running (.lfm c) = true)
    (hfec : fecLocked s c = true) (hsync : s.get (.lfm c) LFM.RX_STAT.FSTATE = 2)
    (hfaw : fawMatches (frameBoundary c s) c f = false) : Ends (.rxFramePosition c f) s fun t =>
      t.get (.lfm c) LFM.FAW_ERR.COUNT = min (s.get (.lfm c) LFM.FAW_ERR.COUNT + 1) (2 ^ LFM.FAW_ERR.COUNT.width - 1) := by
  have hlocked : fecLocked (frameBoundary c s) c = true := by
    rw [fecLocked, fecState, get_frameBoundary rfl]
    exact hfec
  have hposition := keepsFaw_framePosition ((running_frameBoundary c _ s).trans hrun) hlocked
    ((get_frameBoundary rfl).trans hsync) hfaw
  have hcount := (keeps_fesFollowBoth hposition).get (p := .lfm c) (f := LFM.FAW_ERR.COUNT) (allBut_eq_false (by decide))
  rw [get_bump_same _ _ _ (by decide), get_frameBoundary rfl] at hcount
  have hexec : exec (.rxFramePosition c f) s = endsIn s (fesFollowBoth (framePosition c f (frameBoundary c s))) := rfl
  exact ends_of_registers hexec fun t _ hget => (hget _ _).trans hcount

/-! ## A header that fails (R210) -/

/-- From `s` to `t` LFM_x's register of HCS_ERR stays as it is. -/
abbrev KeepsHcs (c : Carrier) (s t : State) : Prop := Keeps (allBut (.lfm c) [LFM.HCS_ERR.COUNT]) s t

theorem keepsHcs_linkWord_none {c d : Carrier} {s0 s : State} (h : KeepsHcs c s0 s) :
    KeepsHcs c s0 (linkWord d false none s) :=
  Keeps.ite h (keeps_withinOff h (dropPartial_within (Within.refl _ s) (Nat.or_self _)) (by simp))

theorem keepsHcs_sendEcb {c d : Carrier} {n : Nat} {s0 s : State} (h : KeepsHcs c s0 s) : KeepsHcs c s0 (sendEcb d n s) := by
  have hcounted : KeepsHcs c s0 (s.addSat (.lfm d) LFM.ECB_CNT.COUNT n) := h.set (allBut_off (by decide))
  exact keeps_withinOff hcounted (deliverBlocks_within (Within.refl _ _) (Nat.or_self _)) (by simp)

/-- An LF in SYNC whose header fails is counted, and its slots are replaced. -/
theorem keepsHcs_classifyFrame {c : Carrier} {f : RxFrame} {arrival : Nat} {s : State} (hrun : s.running (.lfm c) = true)
    (hsync : inFrame s c = true) (hclass : frameClass s c f = 2) :
    KeepsHcs c ((advanceExpected c s).bump (.lfm c) LFM.HCS_ERR.COUNT) (classifyFrame c f arrival s) := by
  simp only [classifyFrame, hrun, hsync, hclass, Bool.not_true, Bool.or_self, Bool.false_eq_true, if_false, if_true,
    Nat.reduceLeDiff, OfNat.ofNat_ne_one]
  have hlinked := keepsHcs_linkWord_none (d := c)
    ((Keeps.refl (allBut (.lfm c) [LFM.HCS_ERR.COUNT]) ((advanceExpected c s).bump (.lfm c) LFM.HCS_ERR.COUNT)).raise
      (p := .lfm c) (b := LFM.EVT.HCS_ERR) (allBut_off (by decide)))
  exact Keeps.ite hlinked (keepsHcs_sendEcb hlinked)

theorem ends_of_headerFailure {c : Carrier} {f : RxFrame} {arrival : Nat} {s : State} (hrun : s.running (.lfm c) = true)
    (hsync : inFrame s c = true) (hclass : frameClass (frameBoundary c s) c f = 2) :
    Ends (.rxLfClassify c f arrival) s fun t =>
      t.get (.lfm c) LFM.HCS_ERR.COUNT = min (s.get (.lfm c) LFM.HCS_ERR.COUNT + 1) (2 ^ LFM.HCS_ERR.COUNT.width - 1) := by
  have hframe : inFrame (frameBoundary c s) c = true := by
    rw [inFrame, get_frameBoundary rfl]
    exact hsync
  have hclassified := keepsHcs_classifyFrame (arrival := arrival) ((running_frameBoundary c _ s).trans hrun) hframe hclass
  have hexpected : (advanceExpected c (frameBoundary c s)).get (.lfm c) LFM.HCS_ERR.COUNT =
      (frameBoundary c s).get (.lfm c) LFM.HCS_ERR.COUNT := rfl
  have hcount := (keeps_fesFollowBoth hclassified).get (p := .lfm c) (f := LFM.HCS_ERR.COUNT) (allBut_eq_false (by decide))
  rw [get_bump_same _ _ _ (by decide), hexpected, get_frameBoundary rfl] at hcount
  have hexec : exec (.rxLfClassify c f arrival) s =
      endsIn s (fesFollowBoth (classifyFrame c f arrival (frameBoundary c s))) := rfl
  exact ends_of_registers hexec fun t _ hget => (hget _ _).trans hcount

/-! ## CLR of JUST_RANGE (R95) -/

theorem strobeOnly_justRange (c : Carrier) : StrobeOnly (.lfm c) LFM.JUST_RANGE.CLR.off LFM.JUST_RANGE.CLR where
  strobe := rfl
  clears := rfl
  live := rfl
  stopOnly := rfl
  plinth := rfl
  block := by decide
  fits := by decide

/-- CLR clears the extremes of D. -/
theorem writeEffect_justRange (o : Origin) (c : Carrier) (old w : Word) (env : List Int) (s : State) :
    writeEffect o (.lfm c) LFM.JUST_RANGE.CLR.off old (overlay w LFM.JUST_RANGE.CLR 1) env s = clearRange c s := by
  have hsent : extract (newWord (.lfm c) LFM.JUST_RANGE.CLR.off old (overlay w LFM.JUST_RANGE.CLR 1)) 31 1 = 1 :=
    ((strobeOnly_justRange c).extract_newWord old _).trans (extract_overlay_same w _ 1 (strobeOnly_justRange c).fits)
  have hhead : ¬ LFM.JUST_RANGE.CLR.off < 0x40 := by decide
  have hlive : liveWaits (.lfm c) LFM.JUST_RANGE.CLR.off (overlay w LFM.JUST_RANGE.CLR 1) = false := by
    simp [liveWaits, (strobeOnly_justRange c).live]
  simp only [writeEffect, if_neg hhead, hlive, Bool.false_eq_true, if_false, blockWritten, hsent, decide_true, beq_self_eq_true,
    Bool.and_true, if_true]

theorem range_clearRange (c : Carrier) (s : State) : (clearRange c s).get (.lfm c) LFM.JUST_RANGE.MAX_DATA = 0 ∧
    (clearRange c s).get (.lfm c) LFM.JUST_RANGE.MIN_DATA = 512 := by
  unfold clearRange
  rw [get_set_disjoint _ _ LFM.JUST_RANGE.MIN_DATA LFM.JUST_RANGE.MAX_DATA _ rfl (by decide) (by decide),
    get_set_same _ _ _ _ (by decide), get_set_same _ _ _ _ (by decide)]
  exact ⟨rfl, rfl⟩

/-- The parts of the state that CLR can change: those of a write's record and the framers' registers. -/
def rangeParts : Nat := recordParts ||| pageBit (.lfm .a)

theorem ends_of_justRangeClr {o : Origin} {c : Carrier} {s : State} (h : TakesField o (.lfm c) LFM.JUST_RANGE.CLR 1 s) :
    Ends (.justRangeClr o c) s fun t =>
      t.get (.lfm c) LFM.JUST_RANGE.MAX_DATA = 0 ∧ t.get (.lfm c) LFM.JUST_RANGE.MIN_DATA = 512 := by
  have hrecord : Within rangeParts s (recorded o (.lfm c) LFM.JUST_RANGE.CLR.off
      (overlay (plainWord (.lfm c) LFM.JUST_RANGE.CLR.off (acceptedWord s (.lfm c) LFM.JUST_RANGE.CLR.off))
        LFM.JUST_RANGE.CLR 1) [] s) :=
    recorded_within (by decide) (by rw [pageBit_lfm]; decide)
  have hbus := busWrite_of_takes (K := rangeParts) (env := []) (by decide) h
    (by rw [acceptWrite_eq, writeEffect_justRange]; exact clearRange_within hrecord (by decide)) (by decide) (by decide)
    (by decide)
  rw [writeEffect_justRange] at hbus
  refine ends_of_registers (c := .justRangeClr o c) (congrArg (endsIn s) hbus) fun t _ hget => ?_
  rw [hget, hget]
  exact range_clearRange c _

/-- Settles O14: an LF formed, a framer that joins and a pair that starts, a calendar round, CLR of JUST_RANGE, a frame word and a
header that fail. -/
theorem framingCommandsComplete : Obligations.FramingCommandsComplete := by
  refine ⟨fun c s h => ends_of_frameDue h, fun c s hwaits hpartner => ?_, fun s hpair hwaits => ?_,
    fun c blocks rsCorr rsUncorr q s h => ?_, fun o c s h => ends_of_justRangeClr h, fun c f s hlocked hmiss => ?_,
    fun c f arrival s h => ?_⟩
  · obtain ⟨hrun, hwait⟩ := hwaits
    obtain ⟨hother, hidx⟩ := hpartner
    exact ends_of_join hrun hwait hother hidx
  · obtain ⟨ha, hb⟩ := hwaits
    exact ends_of_pairStart hpair ha hb
  · obtain ⟨hrun, hport⟩ := h
    exact ends_of_round hrun hport
  · obtain ⟨hrun, hfec⟩ := hlocked
    obtain ⟨hsync, hfaw⟩ := hmiss
    exact ends_of_fawMiss hrun hfec hsync hfaw
  · obtain ⟨hrun, hsync, hclass⟩ := h
    exact ends_of_headerFailure hrun hsync hclass

end Sys2Proof.LineFraming
end

section
/-! SUPPORT. The transmit stages as state: what the DSP of a carrier, a lane and the fields of a page read after an update, what
an application boundary leaves of them (R55, R58), and writes of the registers of TXP_x and LTXn. -/
namespace Sys2Proof.LineTransmit

open Sys2Proof Sys2Proof.Machine Sys2Proof.Safety Sys2Proof.Architecture Sys2Proof.Control Sys2Proof.LineFraming

/-! ## What a command ends in -/

/-- A command ends in the state its meaning computes, as far as its registers, the transmit DSPs and the lanes. -/
theorem ends_of_transmit {c : Instr} {s u : State} {P : State → Prop} (hc : exec c s = endsIn s u)
    (h : ∀ t : State, (∀ q f, t.get q f = u.get q f) → t.txDsp = u.txDsp → t.txLane = u.txLane → P t) : Ends c s P :=
  ends_of_endsIn hc (h _ (fun _ _ => rfl) rfl rfl)

/-! ## Updates -/

theorem txDsp_setTxDsp_same (s : State) (c : Carrier) (x : TxDsp) : (setTxDsp s c x).txDsp.get c = x := by
  cases c <;> rfl

theorem txDsp_setTxDsp_other {s : State} {c d : Carrier} (x : TxDsp) (h : d ≠ c) :
    (setTxDsp s c x).txDsp.get d = s.txDsp.get d := by
  cases c with
  | a => cases d with
    | a => exact absurd rfl h
    | b => rfl
  | b => cases d with
    | a => rfl
    | b => exact absurd rfl h

theorem txLane_putTxLane_same (s : State) (n : Fin 8) (x : TxLane) : txLane (putTxLane s n x) n = x :=
  Vector.getElem_set_self n.isLt

theorem other_ne (c : Carrier) : c.other ≠ c := by cases c <;> decide

theorem get_lt (s : State) (p : Page) (f : Field) : s.get p f < 2 ^ f.width := extract_lt _ _ _

theorem flag_of_get {s t : State} {p : Page} {f : Field} (h : t.get p f = s.get p f) : t.flag p f = s.flag p f := by
  rw [State.flag, State.flag, h]

theorem flag_set_one (s : State) (p : Page) (f : Field) (hfit : f.lo + f.width ≤ 32) (hbit : 0 < f.width) :
    (s.set p f 1).flag p f = true := by
  rw [State.flag, get_set_same _ _ _ _ hfit, Nat.mod_eq_of_lt (Nat.one_lt_two_pow (by omega))]
  rfl

theorem flag_set_zero (s : State) (p : Page) (f : Field) (hfit : f.lo + f.width ≤ 32) : (s.set p f 0).flag p f = false := by
  rw [State.flag, get_set_same _ _ _ _ hfit, Nat.zero_mod]
  rfl

/-- An event changes EVT_RAW alone of the registers. -/
theorem get_raise {s : State} {p q : Page} {b : Nat} {f : Field} (h : HDR.EVT_RAW.EVT.off % 0x1000 ≠ f.off % 0x1000) :
    (s.raise p b).get q f = s.get q f :=
  get_of_word (word_set_off s p q HDR.EVT_RAW.EVT _ _ h)

/-- Setting a field leaves the fields beside it in its register, on every page. -/
theorem get_set_beside {s : State} {p q : Page} {f g : Field} {v : Nat} (hoff : f.off = g.off) (hfit : g.lo + g.width ≤ 32)
    (hbits : f.lo + f.width ≤ g.lo ∨ g.lo + g.width ≤ f.lo) : (s.set p f v).get q g = s.get q g := by
  by_cases hpq : p = q
  · exact hpq ▸ get_set_disjoint s p f g v hoff hfit hbits
  · exact get_set_page s p q f g v hpq

/-- Setting a field leaves the fields of registers at other offsets, on every page. -/
theorem get_set_apart {s : State} {p q : Page} {f g : Field} {v : Nat} (h : f.off % 0x1000 ≠ g.off % 0x1000) :
    (s.set p f v).get q g = s.get q g := get_of_word (word_set_off s p q f v _ h)

theorem flag_set_beside {s : State} {p q : Page} {f g : Field} {v : Nat} (hoff : f.off = g.off) (hfit : g.lo + g.width ≤ 32)
    (hbits : f.lo + f.width ≤ g.lo ∨ g.lo + g.width ≤ f.lo) : (s.set p f v).flag q g = s.flag q g :=
  flag_of_get (get_set_beside hoff hfit hbits)

theorem flag_set_apart {s : State} {p q : Page} {f g : Field} {v : Nat} (h : f.off % 0x1000 ≠ g.off % 0x1000) :
    (s.set p f v).flag q g = s.flag q g := flag_of_get (get_set_apart h)

theorem flag_raise {s : State} {p q : Page} {b : Nat} {f : Field} (h : HDR.EVT_RAW.EVT.off % 0x1000 ≠ f.off % 0x1000) :
    (s.raise p b).flag q f = s.flag q f := flag_of_get (get_raise h)

/-! ## Boundaries (R55) -/

/-- The registers that an application boundary may change as far as page `p` goes: those of other pages, and the live ones. -/
def boundaryWords (p : Page) (q : Page) (k : Nat) : Bool := q != p || liveWords q k

/-- The parts that live fields can change beside their own page when they come into force. -/
def liveParts : Nat := 120783785721251828886984130592

section boundary

variable {p : Page} {s0 s : State}

theorem boundaryWords_self {k : Nat} (h : liveWords p k = false) : boundaryWords p p k = false := by
  rw [boundaryWords, h, bne_self_eq_false, Bool.or_false]

theorem keeps_liveApplied {q : Page} {off : Nat} {old new : Word} (hp : pageBit p &&& liveParts = 0)
    (h : Keeps (boundaryWords p) s0 s) : Keeps (boundaryWords p) s0 (liveApplied q off old new s) :=
  keeps_within h (liveApplied_within (Within.refl liveParts s) (Nat.or_self _)) fun r k hk => by
    simp only [boundaryWords, Bool.or_eq_false_iff, bne_eq_false_iff_eq] at hk
    exact hk.1 ▸ hp

theorem keeps_applyLive_of_page {x : LiveWrite} (hp : pageBit p &&& liveParts = 0) (h : Keeps (boundaryWords p) s0 s) :
    Keeps (boundaryWords p) s0 (applyLive s x) := by
  unfold applyLive
  split
  · exact h
  · next q hq =>
    dsimp only
    refine keeps_liveApplied hp ?_
    have hunstaged : Keeps (boundaryWords p) s0 (unstage x.addr s) := h.of_regs rfl
    by_cases hlive : fieldsOf q (x.addr % 0x1000) .rwL = []
    · rw [hlive]
      exact hunstaged.trans (keeps_storeSame (unstage x.addr s) q (x.addr % 0x1000))
    · refine hunstaged.setWord ?_
      rw [Nat.mod_mod, boundaryWords, liveWords, List.isEmpty_eq_false_iff.mpr hlive, Bool.not_false, Bool.or_true]

/-- A boundary of any page leaves the registers of page `p` that hold no live field, where no live field of another page acts on
them. -/
theorem keeps_boundary_of_page (q : Page) (hp : pageBit p &&& liveParts = 0) (h : Keeps (boundaryWords p) s0 s) :
    Keeps (boundaryWords p) s0 (pageBoundary q s) := by
  refine Keeps.ite ?_ h
  unfold applyStaged
  exact List.foldlRecOn _ _ h fun u hu x _ => keeps_applyLive_of_page hp hu

theorem keeps_boundaries_of_page (qs : List Page) (hp : pageBit p &&& liveParts = 0) (s : State) :
    Keeps (boundaryWords p) s (pagesBoundary qs s) :=
  List.foldlRecOn _ _ (Keeps.refl _ s) fun _ hu q _ => keeps_boundary_of_page q hp hu

theorem get_pageBoundary {q : Page} {f : Field} (hp : pageBit p &&& liveParts = 0) (hf : liveWords p (f.off % 0x1000) = false) :
    (pageBoundary q s).get p f = s.get p f :=
  (keeps_boundary_of_page q hp (Keeps.refl _ s)).get (boundaryWords_self hf)

theorem running_pageBoundary {q : Page} (hp : pageBit p &&& liveParts = 0) (hf : liveWords p HDR.RUNSTAT.STATE.off = false) :
    (pageBoundary q s).running p = s.running p := running_of_get (get_pageBoundary hp hf)

theorem running_pagesBoundary {qs : List Page} (hp : pageBit p &&& liveParts = 0)
    (hf : liveWords p HDR.RUNSTAT.STATE.off = false) : (pagesBoundary qs s).running p = s.running p :=
  running_of_get ((keeps_boundaries_of_page qs hp s).get (f := HDR.RUNSTAT.STATE) (boundaryWords_self hf))

theorem txDsp_pageBoundary (q : Page) (s : State) : (pageBoundary q s).txDsp = s.txDsp :=
  (pageBoundary_within (Within.refl 5070602400894477617450539221024 s) (Nat.or_self _)).txDsp (by decide)

theorem txLane_pageBoundary (q : Page) (n : Fin 8) (s : State) : txLane (pageBoundary q s) n = txLane s n := by
  rw [txLane, txLane,
    (pageBoundary_within (Within.refl 5070602400894477617450539221024 s) (Nat.or_self _)).txLane (by decide)]

end boundary

/-! ## Writes of a register outside the header (R44, R55) -/

/-- A write that is taken and none of whose fields waits ends with what its block does with the record. -/
theorem busWrite_of_block {K : Nat} {o : Origin} {p : Page} {off : Nat} {v : Word} {s : State} (hlo : 0x40 ≤ off)
    (hhi : off < 0x1000) (h : Takes o p off v s) (hlive : liveWaits p off v = false) (hk : recordParts ||| K = K)
    (hp : pageBit p ||| K = K) (hb : ∀ old new u, Within K s u → Within K s (blockWritten o p off old new [] u))
    (ha : pageBit .arc &&& K = 0) (ht : pageBit .tel &&& K = 0) (hs : K.testBit 44 = false) :
    wordWrite o p off v s = blockWritten o p off (shownWord s o p off) (newWord p off (shownWord s o p off) v) []
      (recorded o p off v [] s) := by
  have hw : Within K s (acceptWrite o p off v [] s) := by
    rw [acceptWrite_eq]
    exact writeEffect_by_block hlo hb _ _ (recorded_within hk hp)
  rw [wordWrite, busWrite_of_takes hhi h hw ha ht hs, writeEffect, if_neg (Nat.not_lt.mpr hlo), hlive]
  rfl

/-- A strobe of one bit that is alone in its register and that a word writes as 1. -/
structure StrobeSent (p : Page) (off : Nat) (f : Field) (v : Word) : Prop where
  alone : fieldsOf p off .wo = [f]
  block : 0x40 ≤ off
  fits : f.lo + 1 ≤ 32
  oneBit : f.width = 1
  sent : extract v f.lo 1 = 1

section strobe

variable {p : Page} {off : Nat} {f : Field} {v : Word}

theorem strobeSent_overlay (w : Word) (alone : fieldsOf p off .wo = [f]) (block : 0x40 ≤ off) (fits : f.lo + 1 ≤ 32)
    (oneBit : f.width = 1) : StrobeSent p off f (overlay w f 1) := by
  have hsent := extract_overlay_same w f 1 (oneBit ▸ fits)
  rw [oneBit] at hsent
  exact ⟨alone, block, fits, oneBit, hsent⟩

theorem StrobeSent.extract_strobes (h : StrobeSent p off f v) : extract (strobes p off v) f.lo 1 = 1 := by
  have hset : off ≠ HDR.EVT_SET.SET.off := by
    have hblock := h.block
    simp [HDR.EVT_SET.SET]
    omega
  have hstrobes : strobes p off v = overlay 0 f 1 := by
    simp [strobes, takeFields, h.alone, hset, h.oneBit, h.sent]
  have hread := extract_overlay_same 0 f 1 (h.oneBit ▸ h.fits)
  rw [h.oneBit] at hread
  exact hstrobes ▸ hread

/-- Such a write is applied whole: nothing of it waits for a boundary. -/
theorem StrobeSent.not_liveWaits (h : StrobeSent p off f v) : liveWaits p off v = false := by
  have hne : strobes p off v ≠ 0 := fun h0 => by
    have hstrobe := h.extract_strobes
    rw [h0] at hstrobe
    simp [extract] at hstrobe
  rw [liveWaits, beq_eq_false_iff_ne.mpr hne, Bool.and_false]

/-- The word it leaves shows the strobe. -/
theorem StrobeSent.extract_newWord (h : StrobeSent p off f v) (old : Word) : extract (newWord p off old v) f.lo 1 = 1 := by
  have hkept := extract_lt (keptWord p off old v) f.lo 1
  rw [newWord, extract_or, h.extract_strobes]
  interval_cases extract (keptWord p off old v) f.lo 1 <;> rfl

end strobe

/-- A word whose 32 bits read as those of another is that word. -/
theorem eq_of_extract {v w : Word} (h : extract v 0 32 = extract w 0 32) : v = w := by
  refine BitVec.eq_of_toNat_eq ?_
  simpa only [extract, Nat.shiftRight_zero, Nat.mod_eq_of_lt (BitVec.isLt _)] using h

end Sys2Proof.LineTransmit
end

section
/-! SUPPORT. The transmit path of a carrier: symbol frames (R100), the pilot channel (R101, R120), the TX FIR's cross-fade (R106,
R107), the start of the DACs (R111) and error injection (R118). -/
namespace Sys2Proof.LineTransmit

open Sys2Proof Sys2Proof.Machine Sys2Proof.Safety Sys2Proof.Architecture Sys2Proof.Control Sys2Proof.LineFraming

/-! ## Symbol frames (R75, R100, R120) -/

/-- A symbol frame of `c` in state `t` has begun since state `s`, and is counted. -/
def FrameBegun (c : Carrier) (s t : State) : Prop :=
  t.get (.txp c) TXP.SYF_CNT.COUNT = (s.get (.txp c) TXP.SYF_CNT.COUNT + 1) % 2 ^ TXP.SYF_CNT.COUNT.width ∧
    (t.txDsp.get c).group = 0 ∧ (t.txDsp.get c).pos = 0

theorem frameBegun_syfBegin (c : Carrier) (s : State) : FrameBegun c s (syfBegin c s) := by
  refine ⟨get_set_same s (.txp c) TXP.SYF_CNT.COUNT _ (by decide), ?_, ?_⟩ <;>
    rw [syfBegin, txDsp_setTxDsp_same]

/-- The partner's symbol frame leaves this one's. -/
theorem FrameBegun.syfBegin_other {c : Carrier} {s t : State} (h : FrameBegun c s t) : FrameBegun c s (syfBegin c.other t) := by
  obtain ⟨hcount, hgroup, hpos⟩ := h
  have hpage : (Page.txp c.other) ≠ .txp c := by cases c <;> decide
  have hdsp : (syfBegin c.other t).txDsp.get c = t.txDsp.get c := txDsp_setTxDsp_other _ (other_ne c).symm
  refine ⟨(get_set_page t _ _ TXP.SYF_CNT.COUNT _ _ hpage).trans hcount, ?_, ?_⟩ <;> rw [hdsp]
  · exact hgroup
  · exact hpos

theorem frameBegun_syfStart {c : Carrier} {s : State} (hready : syfReady s c = true)
    (hpartner : syfPartner s c = true → syfReady s c.other = true) : FrameBegun c s (syfStart c s) := by
  rw [syfStart, hready]
  by_cases h : syfPartner s c = true
  · simp only [h, hpartner h, Bool.not_true, Bool.false_eq_true, if_false, if_true]
    exact (frameBegun_syfBegin c s).syfBegin_other
  · simp only [h, Bool.not_true, Bool.false_eq_true, if_false]
    exact frameBegun_syfBegin c s

theorem ends_of_syfStart {c : Carrier} {s : State} (hready : syfReady s c = true)
    (hpartner : syfPartner s c = true → syfReady s c.other = true) : Ends (.syfStart c) s fun t => FrameBegun c s t :=
  ends_of_transmit (c := .syfStart c) (u := syfStart c s) rfl fun t hget hdsp _ => by
    rw [FrameBegun, hget, hdsp]
    exact frameBegun_syfStart hready hpartner

/-! ## The pilot channel's FIFO (R101, R120) -/

section fifo

variable (s : State) (c : Carrier) (bits : List Bool)

theorem fifo_putFifo : ((putFifo s c bits).txDsp.get c).fifo = bits := by
  rw [putFifo, State.set_txDsp, txDsp_setTxDsp_same]

/-- FILL, which follows the FIFO, shares its register with EN. -/
theorem en_putFifo : (putFifo s c bits).get (.txp c) TXP.PCH_CTL.EN = s.get (.txp c) TXP.PCH_CTL.EN :=
  get_set_disjoint _ _ TXP.PCH_CTL.FILL TXP.PCH_CTL.EN _ rfl (by decide) (by decide)

/-- CLR leaves the FIFO empty and no underrun counted. -/
theorem pchClear_empties : ((pchClear c s).txDsp.get c).fifo = [] ∧ (pchClear c s).get (.txp c) TXP.PCH_CTL.UNDERRUN = 0 ∧
    (pchClear c s).get (.txp c) TXP.PCH_CTL.FILL = 0 := by
  refine ⟨fifo_putFifo s c [], get_set_same _ _ TXP.PCH_CTL.UNDERRUN 0 (by decide), ?_⟩
  rw [pchClear, get_set_beside (by decide) (by decide) (by decide), putFifo, get_set_same _ _ _ _ (by decide)]
  rfl

end fifo

/-! ## Writes of TXP_x -/

/-- The parts that the write of a register of TXP_x can change: the record's, and what its strobes act on. -/
def txpParts : Nat := recordParts ||| 38685626227668133591121952 ||| 536870912

/-- The restart of RK1's encoder leaves the registers and the DSPs (R250). -/
theorem get_encoderRestart (c : Carrier) (off : Nat) (old new : Word) (s : State) (p : Page) (f : Field) :
    (encoderRestart c off old new s).get p f = s.get p f :=
  get_of_within (K := 536870912) (encoderRestart_within (Within.refl _ s) (Nat.or_self _))
    (by cases p <;> simp) f

theorem txDsp_encoderRestart (c : Carrier) (off : Nat) (old new : Word) (s : State) :
    (encoderRestart c off old new s).txDsp = s.txDsp :=
  (encoderRestart_within (Within.refl 536870912 s) (Nat.or_self _)).txDsp (by decide)

/-- The record of a write of TXP_x leaves the DSPs. -/
theorem txDsp_recorded {o : Origin} {c : Carrier} {off : Nat} {v : Word} {s : State} :
    (recorded o (.txp c) off v [] s).txDsp = s.txDsp :=
  (recorded_within (K := recordParts ||| pageBit (.txp .a)) (by decide) (by rw [pageBit_txp]; decide)).txDsp (by decide)

/-- A command that writes a register of TXP_x ends, in the registers and the DSPs, with what the page does with the write. -/
theorem ends_of_txpWrite {i : Instr} {o : Origin} {c : Carrier} {off : Nat} {v : Word} {s : State} {P : State → Prop}
    (hc : exec i s = endsIn s (wordWrite o (.txp c) off v s)) (hlo : 0x40 ≤ off) (hhi : off < 0x1000)
    (h : Takes o (.txp c) off v s) (hlive : liveWaits (.txp c) off v = false)
    (hp : ∀ (r t : State), r.txDsp = s.txDsp →
      (∀ q f, t.get q f = (txpWritten c off (newWord (.txp c) off (shownWord s o (.txp c) off) v) r).get q f) →
      t.txDsp = (txpWritten c off (newWord (.txp c) off (shownWord s o (.txp c) off) v) r).txDsp → P t) : Ends i s P := by
  have hblock (old new : Word) (u : State) (hu : Within txpParts s u) :
      Within txpParts s (blockWritten o (.txp c) off old new [] u) :=
    encoderRestart_within (txpWritten_within hu (by decide)) (by decide)
  rw [busWrite_of_block hlo hhi h hlive (by decide) (by rw [pageBit_txp]; decide) hblock (by decide) (by decide)
    (by decide)] at hc
  refine ends_of_transmit hc fun t hget hdsp _ => hp (recorded o (.txp c) off v [] s) t txDsp_recorded (fun q f => ?_) ?_
  · rw [hget]
    exact get_encoderRestart _ _ _ _ _ _ _
  · rw [hdsp]
    exact txDsp_encoderRestart _ _ _ _ _

theorem strobeOnly_pchData (c : Carrier) : StrobeOnly (.txp c) TXP.PCH_DATA.BITS.off TXP.PCH_DATA.BITS where
  strobe := rfl
  clears := rfl
  live := rfl
  stopOnly := rfl
  plinth := rfl
  block := by decide
  fits := by decide

/-- A word written to PCH_DATA comes as it is. -/
theorem newWord_pchData (c : Carrier) (old w : Word) : newWord (.txp c) TXP.PCH_DATA.BITS.off old w = w :=
  eq_of_extract ((strobeOnly_pchData c).extract_newWord old w)

theorem ends_of_pchData {o : Origin} {c : Carrier} {w : Word} {s : State}
    (h : Takes o (.txp c) TXP.PCH_DATA.BITS.off w s) :
    Ends (.pchData o c w) s fun t => (t.txDsp.get c).fifo = (s.txDsp.get c).fifo ++ lsbBits 32 w.toNat := by
  have hlive : liveWaits (.txp c) TXP.PCH_DATA.BITS.off w = false := by simp [liveWaits, (strobeOnly_pchData c).live]
  refine ends_of_txpWrite rfl (by decide) (by decide) h hlive fun r t hr _ hdsp => ?_
  rw [newWord_pchData] at hdsp
  rw [hdsp, ← hr]
  exact fifo_putFifo _ _ _

theorem strobeSent_pchClr (c : Carrier) (w : Word) :
    StrobeSent (.txp c) TXP.PCH_CTL.CLR.off TXP.PCH_CTL.CLR (overlay w TXP.PCH_CTL.CLR 1) :=
  strobeSent_overlay w rfl (by decide) (by decide) rfl

theorem ends_of_pchCtlClr {o : Origin} {c : Carrier} {s : State} (h : TakesField o (.txp c) TXP.PCH_CTL.CLR 1 s) :
    Ends (.pchCtlClr o c) s fun t => (t.txDsp.get c).fifo = [] ∧ t.get (.txp c) TXP.PCH_CTL.UNDERRUN = 0 ∧
      t.get (.txp c) TXP.PCH_CTL.FILL = 0 := by
  have hstrobe := strobeSent_pchClr c (plainWord (.txp c) TXP.PCH_CTL.CLR.off (acceptedWord s (.txp c) TXP.PCH_CTL.CLR.off))
  refine ends_of_txpWrite (i := .pchCtlClr o c) rfl (by decide) (by decide) h hstrobe.not_liveWaits
    fun r t _ hget hdsp => ?_
  have hcleared (new : Word) (hsent : extract new 31 1 = 1) : txpWritten c TXP.PCH_CTL.CLR.off new r = pchClear c r :=
    if_pos hsent
  rw [hdsp, hget, hget, hcleared _ (hstrobe.extract_newWord _)]
  exact pchClear_empties r c

theorem strobeSent_single (c : Carrier) (w : Word) :
    StrobeSent (.txp c) TXP.INJ_CTL.SINGLE.off TXP.INJ_CTL.SINGLE (overlay w TXP.INJ_CTL.SINGLE 1) :=
  strobeSent_overlay w rfl (by decide) (by decide) rfl

theorem single_injectSingle (c : Carrier) (s : State) :
    ((injectSingle c s).txDsp.get c).single = (s.txDsp.get c).single + 1 := by
  rw [injectSingle, txDsp_setTxDsp_same]

theorem ends_of_txInjectSingle {o : Origin} {c : Carrier} {w : Word} {s : State}
    (h : Takes o (.txp c) TXP.INJ_CTL.SINGLE.off (overlay w TXP.INJ_CTL.SINGLE 1) s) :
    Ends (.txInjectSingle o c w) s fun t => (t.txDsp.get c).single = (s.txDsp.get c).single + 1 := by
  have hstrobe := strobeSent_single c w
  refine ends_of_txpWrite (i := .txInjectSingle o c w) rfl (by decide) (by decide) h hstrobe.not_liveWaits
    fun r t hr _ hdsp => ?_
  have hinjected (new : Word) (hsent : extract new 2 1 = 1) : txpWritten c TXP.INJ_CTL.SINGLE.off new r = injectSingle c r :=
    if_pos hsent
  rw [hdsp, hinjected _ (hstrobe.extract_newWord _), ← hr]
  exact single_injectSingle c r

/-! ## The cross-fade of the TX FIR (R106, R107) -/

/-- A fade that starts shows FADING. -/
theorem fading_fadeBegin (c : Carrier) (s : State) :
    (fadeBegin txFade (.txp c) s).flag (.txp c) TXP.FIR_XFADE.FADING = true := by
  rw [fadeBegin, flag_set_beside (by decide) (by decide) (by decide)]
  exact flag_set_one _ _ TXP.FIR_XFADE.FADING (by decide) (by decide)

/-- After a swap request a fade runs: the one that it starts, or the one that makes it wait or refuses it. -/
theorem fading_fadeRequest (c : Carrier) (s : State) :
    (fadeRequest txFade (.txp c) s).flag (.txp c) TXP.FIR_XFADE.FADING = true := by
  rw [fadeRequest]
  by_cases hfading : s.flag (.txp c) TXP.FIR_XFADE.FADING = true
  · rw [if_neg (by simp [txFade, hfading])]
    split
    · rw [flag_set_beside (by decide) (by decide) (by decide), hfading]
    · rw [flag_raise (by decide), State.bump, State.addSat, flag_set_beside (by decide) (by decide) (by decide), hfading]
  · rw [if_pos (by simpa [txFade] using hfading)]
    exact fading_fadeBegin c s

theorem fading_txFirSwap (c : Carrier) (s : State) : (txFirSwap c s).flag (.txp c) TXP.FIR_XFADE.FADING = true := by
  unfold txFirSwap
  dsimp only
  split
  · exact fading_fadeRequest c s
  · exact fading_fadeRequest c s

theorem strobeSent_swap (c : Carrier) (w : Word) :
    StrobeSent (.txp c) TXP.FIR_XFADE.SWAP.off TXP.FIR_XFADE.SWAP (overlay w TXP.FIR_XFADE.SWAP 1) :=
  strobeSent_overlay w rfl (by decide) (by decide) rfl

theorem ends_of_txFirSwap {o : Origin} {c : Carrier} {w : Word} {s : State}
    (h : Takes o (.txp c) TXP.FIR_XFADE.SWAP.off (overlay w TXP.FIR_XFADE.SWAP 1) s) :
    Ends (.txFirSwap o c w) s fun t => t.flag (.txp c) TXP.FIR_XFADE.FADING = true := by
  have hstrobe := strobeSent_swap c w
  refine ends_of_txpWrite (i := .txFirSwap o c w) rfl (by decide) (by decide) h hstrobe.not_liveWaits
    fun r t _ hget _ => ?_
  have hswapped (new : Word) (hsent : extract new 4 1 = 1) : txpWritten c TXP.FIR_XFADE.SWAP.off new r = txFirSwap c r :=
    if_pos hsent
  rw [flag_of_get (hget _ _), hswapped _ (hstrobe.extract_newWord _)]
  exact fading_txFirSwap c r

/-- The fade that ends with no request held: ACTIVE takes TARGET and FADING falls. -/
def fadeEnded (c : Carrier) (s : State) : State :=
  ((s.set (.txp c) TXP.FIR_XFADE.ACTIVE (s.get (.txp c) TXP.FIR_XFADE.TARGET)).set (.txp c) TXP.FIR_XFADE.FADING 0).raise
    (.txp c) TXP.EVT.XFADE_DONE

theorem held_fadeEnded (c : Carrier) (s : State) :
    (fadeEnded c s).flag (.txp c) TXP.FIR_XFADE.HELD = s.flag (.txp c) TXP.FIR_XFADE.HELD := by
  rw [fadeEnded, flag_raise (by decide), flag_set_beside (by decide) (by decide) (by decide),
    flag_set_beside (by decide) (by decide) (by decide)]

theorem active_fadeEnded (c : Carrier) (s : State) :
    (fadeEnded c s).get (.txp c) TXP.FIR_XFADE.ACTIVE = s.get (.txp c) TXP.FIR_XFADE.TARGET := by
  rw [fadeEnded, get_raise (by decide), get_set_beside (by decide) (by decide) (by decide), get_set_same _ _ _ _ (by decide)]
  exact Nat.mod_eq_of_lt (get_lt s (.txp c) TXP.FIR_XFADE.TARGET)

theorem fading_fadeEnded (c : Carrier) (s : State) : (fadeEnded c s).flag (.txp c) TXP.FIR_XFADE.FADING = false := by
  rw [fadeEnded, flag_raise (by decide), flag_set_zero _ _ _ (by decide)]

theorem fadeEnd_of_none_held {c : Carrier} {s : State} (hfading : s.flag (.txp c) TXP.FIR_XFADE.FADING = true)
    (hheld : s.flag (.txp c) TXP.FIR_XFADE.HELD = false) : fadeEnd txFade (.txp c) s = fadeEnded c s := by
  have hkept : (fadeEnded c s).flag (.txp c) TXP.FIR_XFADE.HELD = false := (held_fadeEnded c s).trans hheld
  exact (if_pos hfading).trans (if_neg (Bool.eq_false_iff.mp hkept))

theorem ends_of_txXfadeEnd {c : Carrier} {s : State} (hfading : s.flag (.txp c) TXP.FIR_XFADE.FADING = true)
    (hheld : s.flag (.txp c) TXP.FIR_XFADE.HELD = false) (hover : fadeOver s c = true) : Ends (.txXfadeEnd c) s fun t =>
      t.get (.txp c) TXP.FIR_XFADE.ACTIVE = s.get (.txp c) TXP.FIR_XFADE.TARGET ∧
      t.flag (.txp c) TXP.FIR_XFADE.FADING = false := by
  have hend : txXfadeEnd c s = fadeApplied c (fadeEnded c s) := by
    rw [txXfadeEnd, if_pos hover, fadeEnd_of_none_held hfading hheld]
  refine ends_of_transmit (c := .txXfadeEnd c) (congrArg (endsIn s) hend) fun t hget _ _ => ?_
  rw [flag_of_get (hget _ _), hget]
  exact ⟨active_fadeEnded c s, fading_fadeEnded c s⟩

/-! ## The start of the DACs and periodic injection (R111, R118) -/

theorem reading_dacStart {c : Carrier} {s : State} (hrun : s.running (.txp c) = true)
    (hheld : (carrierLanes c).all (fun n => decide (20 ≤ (txLane s n).egress.length)) = true) :
    ((dacStart c s).txDsp.get c).reading = true := by
  rw [dacStart, hrun, hheld, Bool.true_and, Bool.and_true]
  split
  · rw [txDsp_setTxDsp_same]
  · next hreading => simpa using hreading

theorem armed_injectPeriodic {c : Carrier} {s : State} (hrun : s.running (.txp c) = true)
    (hmode : s.get (.txp c) TXP.INJ_CTL.MODE = 1) :
    ((injectPeriodic c s).txDsp.get c).armed = (s.txDsp.get c).armed + 1 := by
  simp only [injectPeriodic, hrun, hmode, beq_self_eq_true, Bool.and_self, if_true]
  rw [txDsp_setTxDsp_same]

/-! ## The start of a pilot group (R101) -/

/-- A refusal leaves every register of TXP_x but REFUSED_WR (R51). -/
theorem get_refuseWrite_txp {o : Origin} {p : Page} {c : Carrier} {off : Nat} {v : Word} {r : Reason} {s : State} {f : Field}
    (h : (f.off % 0x1000 == HDR.REFUSED_WR.COUNT.off) = false) :
    (refuseWrite o p off v r s).get (.txp c) f = s.get (.txp c) f := by
  cases r with
  | bist => exact (keeps_refuseWrite_bist o p off v s).get rfl
  | journalFull => exact (keeps_countUnlogged s).get rfl
  | _ =>
    refine (keeps_refuseWrite_noted (by decide) (by decide)).get ?_
    rw [refusedWords, notedWords, h, Bool.and_false]
    rfl

/-- A write of PCH_DATA that is accepted appends its word to the FIFO. -/
theorem acceptWrite_pchData (o : Origin) (c : Carrier) (w : Word) (s : State) :
    acceptWrite o (.txp c) TXP.PCH_DATA.BITS.off w [] s =
      pchAppend c w (recorded o (.txp c) TXP.PCH_DATA.BITS.off w [] s) := by
  have hlive : liveWaits (.txp c) TXP.PCH_DATA.BITS.off w = false := by simp [liveWaits, (strobeOnly_pchData c).live]
  rw [acceptWrite_eq, writeEffect, if_neg (by decide), hlive, newWord_pchData]
  rfl

/-- A write of PCH_DATA, whatever becomes of it, leaves EN of PCH_CTL. -/
theorem en_writePage_pchData (o : Origin) (c : Carrier) (w : Word) (s : State) :
    (writePage o (.txp c) TXP.PCH_DATA.BITS.off w [] s).get (.txp c) TXP.PCH_CTL.EN = s.get (.txp c) TXP.PCH_CTL.EN := by
  unfold writePage
  split
  · split
    · rw [acceptWrite_pchData, pchAppend, en_putFifo]
      exact get_recorded (by simp [journalParts]) (by decide) (by decide)
    · rfl
  · exact get_refuseWrite_txp rfl

theorem en_writeReg_pchData (o : Origin) (c : Carrier) (w : Word) (s : State) :
    (writeReg o (pageBase (.txp c) + TXP.PCH_DATA.BITS.off) w [] s).get (.txp c) TXP.PCH_CTL.EN =
      s.get (.txp c) TXP.PCH_CTL.EN := by
  rw [writeReg, writeOnce_page (by decide)]
  exact (get_of_within (ringFollow_narrow (Within.refl anyWrite _) (Nat.or_self _)) (by rw [pageBit_txp]; decide) _).trans
    (en_writePage_pchData o c w s)

/-- RK1's filling of the FIFO leaves EN of PCH_CTL. -/
theorem en_feedPilot (c : Carrier) (n : Nat) (s : State) :
    (feedPilot c n s).get (.txp c) TXP.PCH_CTL.EN = s.get (.txp c) TXP.PCH_CTL.EN := by
  induction n generalizing s with
  | zero => rfl
  | succ n ih =>
    rw [feedPilot]
    split
    · rfl
    · have hword : (codeWord c s).get (.txp c) TXP.PCH_CTL.EN = s.get (.txp c) TXP.PCH_CTL.EN :=
        get_of_within (codeWord_within (Within.refl 536870912 s) (Nat.or_self _)) (by simp) _
      dsimp only
      rw [ih, en_writeReg_pchData]
      exact hword

/-- A pilot group takes its sign from the FIFO while the channel is enabled, and is counted. -/
theorem txDsp_pilotGroupSign {c : Carrier} {s : State} (h : groupDue s c = true) :
    (pilotGroupSign c s).txDsp.get c = { s.txDsp.get c with
      group := (s.txDsp.get c).group + 1
      minus := s.flag (.txp c) TXP.PCH_CTL.EN && (s.txDsp.get c).fifo.headD false
      fifo := if s.flag (.txp c) TXP.PCH_CTL.EN then (s.txDsp.get c).fifo.tail else (s.txDsp.get c).fifo } := by
  rw [pilotGroupSign, h]
  cases hen : s.flag (.txp c) TXP.PCH_CTL.EN with
  | false => exact txDsp_setTxDsp_same _ _ _
  | true =>
    simp only [Bool.not_true, Bool.false_eq_true, if_false, if_true, Bool.true_and]
    split
    · next hfifo =>
      refine (txDsp_setTxDsp_same _ _ _).trans ?_
      simp [hfifo]
    · next b bs hfifo =>
      rw [putFifo, State.set_txDsp, txDsp_setTxDsp_same, txDsp_setTxDsp_same, hfifo]
      rfl

theorem ends_of_pilotGroupSign {c : Carrier} {s : State} (h : groupDue (feedPilot c 32 s) c = true) :
    Ends (.pilotGroupSign c) s fun t =>
      (t.txDsp.get c).minus = (s.flag (.txp c) TXP.PCH_CTL.EN && ((feedPilot c 32 s).txDsp.get c).fifo.headD false) ∧
      (s.flag (.txp c) TXP.PCH_CTL.EN = true → (t.txDsp.get c).fifo = ((feedPilot c 32 s).txDsp.get c).fifo.tail) ∧
      (t.txDsp.get c).group = ((feedPilot c 32 s).txDsp.get c).group + 1 := by
  have hen : (feedPilot c 32 s).flag (.txp c) TXP.PCH_CTL.EN = s.flag (.txp c) TXP.PCH_CTL.EN :=
    flag_of_get (en_feedPilot c 32 s)
  refine ends_of_transmit (c := .pilotGroupSign c) (u := groupSign c s) rfl fun t _ hdsp _ => ?_
  rw [hdsp, groupSign, txDsp_pilotGroupSign h, hen]
  exact ⟨rfl, fun henabled => if_pos henabled, rfl⟩

/-- Settles O15: a symbol frame begun, the sign of a pilot group, PCH_DATA and CLR, a swap and the end of a fade, the start of the
DACs, and injections that wait for their unit. -/
theorem transmitCommandsComplete : Obligations.TransmitCommandsComplete := by
  refine ⟨fun c s ⟨hready, hpartner⟩ => ends_of_syfStart hready hpartner, fun c s h => ends_of_pilotGroupSign h,
    fun o c w s h => ends_of_pchData h, fun o c s h => ends_of_pchCtlClr h, fun o c w s h _ => ends_of_txFirSwap h,
    fun c s ⟨hfading, hheld⟩ hover => ends_of_txXfadeEnd hfading hheld hover, fun c s ⟨hrun, hheld⟩ => ?_,
    fun o c w s h _ => ends_of_txInjectSingle h, fun c s ⟨hrun, hmode⟩ => ?_⟩
  · exact ends_of_transmit (c := .dacStart c) (u := dacStart c s) rfl fun t _ hdsp _ => by
      rw [hdsp]
      exact reading_dacStart hrun hheld
  · exact ends_of_transmit (c := .txInjectPeriodic c) (u := injectPeriodic c s) rfl fun t _ hdsp _ => by
      rw [hdsp]
      exact armed_injectPeriodic hrun hmode

end Sys2Proof.LineTransmit
end

section
/-! SUPPORT. The transmit lanes: calibration (R112, R113), the output gate (R114), loop timing (R116), patterns and their RAM
(R117, R121), DAC codes (R109) and skew (R104). -/
namespace Sys2Proof.LineTransmit

open Sys2Proof Sys2Proof.Machine Sys2Proof.Safety Sys2Proof.Architecture Sys2Proof.Control Sys2Proof.LineFraming

/-! ## Folds over the lanes and over the tributaries -/

/-- A fold over distinct elements acts once on what a single one of them acts on. -/
theorem foldl_component {α β : Type} {f : State → α → State} {g : State → β} {h : β → β} {x : α}
    (same : ∀ s, g (f s x) = h (g s)) :
    ∀ (l : List α) (s : State), (∀ y ∈ l, y ≠ x → ∀ s, g (f s y) = g s) → l.Nodup → x ∈ l → g (l.foldl f s) = h (g s) := by
  have hnone : ∀ (l : List α) (s : State), (∀ y ∈ l, y ≠ x → ∀ s, g (f s y) = g s) → x ∉ l → g (l.foldl f s) = g s := by
    intro l
    induction l with
    | nil => exact fun _ _ _ => rfl
    | cons y l ih =>
      intro s other hx
      have hy : y ≠ x := fun he => hx (he ▸ List.mem_cons_self)
      have hl : x ∉ l := fun hm => hx (List.mem_cons_of_mem _ hm)
      exact (ih _ (fun z hz => other z (List.mem_cons_of_mem _ hz)) hl).trans (other y List.mem_cons_self hy s)
  intro l
  induction l with
  | nil => exact fun _ _ _ hx => absurd hx List.not_mem_nil
  | cons y l ih =>
    intro s other hnodup hx
    obtain ⟨hy, hl⟩ := List.nodup_cons.mp hnodup
    have hrest : ∀ z ∈ l, z ≠ x → ∀ s, g (f s z) = g s := fun z hz => other z (List.mem_cons_of_mem _ hz)
    by_cases hyx : y = x
    · subst hyx
      exact (hnone l _ hrest hy).trans (same s)
    · refine (ih _ hrest hl ((List.mem_cons.mp hx).resolve_left (Ne.symm hyx))).trans ?_
      rw [other y List.mem_cons_self hyx]

theorem carrierLanes_nodup (c : Carrier) : (carrierLanes c).Nodup := by cases c <;> decide

theorem ltx_ne {m n : Fin 8} (h : m ≠ n) : Page.ltx m ≠ .ltx n := fun he => h (Page.ltx.inj he)

theorem flag_set_lane {s : State} {m n : Fin 8} {f g : Field} {v : Nat} (h : m ≠ n) :
    (s.set (.ltx m) f v).flag (.ltx n) g = s.flag (.ltx n) g := flag_of_get (get_set_page _ _ _ _ _ _ (ltx_ne h))

/-! ## Foreground calibration (R112) -/

/-- A lane's foreground calibration can begin. -/
def calReady (s : State) (n : Fin 8) : Bool :=
  s.running (.ltx n) && !s.flag (.ltx n) LTX.STAT.GATE && !(txLane s n).fgDone

/-- It begins. -/
def calBegin (s : State) (n : Fin 8) : State := if calReady s n then s.set (.ltx n) LTX.STAT.CAL_FG 1 else s

theorem fgCalStart_of_locked {c : Carrier} {s : State} (h : clockLocked s c = true) :
    fgCalStart c s = (carrierLanes c).foldl calBegin s := if_pos h

theorem calReady_calBegin (s : State) (m n : Fin 8) : calReady (calBegin s m) n = calReady s n := by
  unfold calBegin
  split
  · have hgate : (s.set (.ltx m) LTX.STAT.CAL_FG 1).get (.ltx n) LTX.STAT.GATE = s.get (.ltx n) LTX.STAT.GATE :=
      get_set_beside (by decide) (by decide) (by decide)
    have hrun : (s.set (.ltx m) LTX.STAT.CAL_FG 1).get (.ltx n) HDR.RUNSTAT.STATE = s.get (.ltx n) HDR.RUNSTAT.STATE :=
      get_set_apart (by decide)
    rw [calReady, running_of_get hrun, flag_of_get hgate]
    rfl
  · rfl

theorem calFg_calBegin_same (s : State) (n : Fin 8) :
    (calBegin s n).flag (.ltx n) LTX.STAT.CAL_FG = (calReady s n || s.flag (.ltx n) LTX.STAT.CAL_FG) := by
  unfold calBegin
  split
  · next h => rw [flag_set_one _ _ _ (by decide) (by decide), h, Bool.true_or]
  · next h => rw [Bool.eq_false_iff.mpr h, Bool.false_or]

theorem calFg_calBegin_other {s : State} {m n : Fin 8} (h : m ≠ n) :
    (calBegin s m).flag (.ltx n) LTX.STAT.CAL_FG = s.flag (.ltx n) LTX.STAT.CAL_FG := by
  unfold calBegin
  split
  · exact flag_set_lane h
  · rfl

/-- The calibration of a lane that is ready begins. -/
theorem calFg_fgCalStart {c : Carrier} {n : Fin 8} {s : State} (hlock : clockLocked s c = true) (hn : n ∈ carrierLanes c)
    (hready : calReady s n = true) : (fgCalStart c s).flag (.ltx n) LTX.STAT.CAL_FG = true := by
  have hfold := foldl_component (f := calBegin) (x := n)
    (g := fun u => (calReady u n, u.flag (.ltx n) LTX.STAT.CAL_FG)) (h := fun r => (r.1, r.1 || r.2))
    (fun u => Prod.ext (calReady_calBegin u n n) (calFg_calBegin_same u n)) (carrierLanes c) s
    (fun m _ hm u => Prod.ext (calReady_calBegin u m n) (calFg_calBegin_other hm)) (carrierLanes_nodup c) hn
  rw [fgCalStart_of_locked hlock]
  simpa only [hready, Bool.true_or] using congrArg Prod.snd hfold

/-- A lane with its segments and its other trims measured. -/
def laneMeasured (ms : List (List (Int × Int))) (s : State) (n : Fin 8) : State :=
  let m := ms.getD (tributary n) []
  (List.range (min 10 (m.length - 64))).foldl (fun s k => muxMeasure n k (m.getD (64 + k) (0, 0)) s)
    (calMeasureAll 4 n.val (m.take 64) s)

/-- Its calibration ends. -/
def calEnd (ms : List (List (Int × Int))) (s : State) (n : Fin 8) : State :=
  if s.flag (.ltx n) LTX.STAT.CAL_FG then
    (putTxLane ((laneMeasured ms s n).set (.ltx n) LTX.STAT.CAL_FG 0) n
      { txLane (laneMeasured ms s n) n with fgDone := true }).raise (.ltx n) LTX.EVT.CAL_DONE
  else s

theorem fgCalDone_eq (c : Carrier) (ms : List (List (Int × Int))) (s : State) :
    fgCalDone c ms s = (carrierLanes c).foldl (calEnd ms) s := rfl

theorem get_laneMeasured (ms : List (List (Int × Int))) (s : State) (m n : Fin 8) (f : Field) :
    (laneMeasured ms s m).get (.ltx n) f = s.get (.ltx n) f := by
  have hall := calMeasureAll_within (item := 4) (unit := m.val) (ms := (ms.getD (tributary m) []).take 64)
    (Within.refl 590295810358706962464 s) (by decide)
  exact get_of_within (Within.foldl _ (fun _ _ h => muxMeasure_within h (by decide)) hall) (by simp) f

theorem calFg_calEnd_same (ms : List (List (Int × Int))) (s : State) (n : Fin 8) :
    (calEnd ms s n).flag (.ltx n) LTX.STAT.CAL_FG = false := by
  unfold calEnd
  split
  · rw [flag_raise (by decide), putTxLane_flag, flag_set_zero _ _ _ (by decide)]
  · next h => exact Bool.eq_false_iff.mpr h

theorem calFg_calEnd_other {ms : List (List (Int × Int))} {s : State} {m n : Fin 8} (h : m ≠ n) :
    (calEnd ms s m).flag (.ltx n) LTX.STAT.CAL_FG = s.flag (.ltx n) LTX.STAT.CAL_FG := by
  unfold calEnd
  split
  · rw [flag_raise (by decide), putTxLane_flag, flag_set_lane h, flag_of_get (get_laneMeasured ms s m n _)]
  · rfl

theorem calFg_fgCalDone {c : Carrier} {n : Fin 8} (ms : List (List (Int × Int))) (s : State) (hn : n ∈ carrierLanes c) :
    (fgCalDone c ms s).flag (.ltx n) LTX.STAT.CAL_FG = false := by
  rw [fgCalDone_eq]
  exact foldl_component (f := calEnd ms) (g := fun u => u.flag (.ltx n) LTX.STAT.CAL_FG) (h := fun _ => false)
    (fun u => calFg_calEnd_same ms u n) _ s (fun m _ hm u => calFg_calEnd_other hm) (carrierLanes_nodup c) hn

/-! ## Background calibration (R113) -/

/-- The spare moves on by one place, whatever becomes of the trims. -/
theorem sparePos_bgCalStep {n : Fin 8} {m1 m2 : Int} {mux : Int × Int} {s : State}
    (h : s.flag (.ltx n) LTX.STAT.GATE = true) :
    (bgCalStep n m1 m2 mux s).get (.ltx n) LTX.STAT.SPARE_POS = (s.get (.ltx n) LTX.STAT.SPARE_POS + 1) % 16 := by
  unfold bgCalStep
  rw [if_pos h]
  extract_lets sub pos measured tracked moved stepped
  have hstepped : stepped.get (.ltx n) LTX.STAT.SPARE_POS = (pos + 1) % 16 := get_set_same _ _ _ _ (by decide)
  clear_value stepped
  split
  · rw [← hstepped, State.raiseIf]
    split
    · rw [get_raise (by decide), get_set_beside (by decide) (by decide) (by decide)]
    · rw [get_set_beside (by decide) (by decide) (by decide)]
  · exact hstepped

/-! ## The output gate (R114) -/

/-- A gate's change leaves the registers at other offsets than STAT and EVT_RAW. -/
theorem get_setGate_apart {s : State} {n : Fin 8} {now : Bool} {p : Page} {f : Field}
    (hlane : LTX.STAT.GATE.off % 0x1000 ≠ f.off % 0x1000) (hpath : TXP.STAT.GATE.off % 0x1000 ≠ f.off % 0x1000)
    (hraw : HDR.EVT_RAW.EVT.off % 0x1000 ≠ f.off % 0x1000) : (setGate s n now).get p f = s.get p f := by
  unfold setGate
  dsimp only
  split
  · rfl
  · rw [get_raise hraw, get_set_apart hpath, State.setFlag, get_set_apart (f := LTX.STAT.CAL_BG) hlane, State.setFlag,
      get_set_apart hlane]

theorem gate_setGate_same (s : State) (n : Fin 8) (now : Bool) : (setGate s n now).flag (.ltx n) LTX.STAT.GATE = now := by
  unfold setGate
  dsimp only
  split
  · next h => exact eq_of_beq h
  · rw [flag_raise (by decide), flag_set_apart (by decide), State.setFlag, flag_set_beside (by decide) (by decide) (by decide),
      State.setFlag]
    cases now
    · exact flag_set_zero _ _ _ (by decide)
    · exact flag_set_one _ _ _ (by decide) (by decide)

theorem gate_setGate_other {s : State} {m n : Fin 8} (now : Bool) (h : m ≠ n) :
    (setGate s m now).flag (.ltx n) LTX.STAT.GATE = s.flag (.ltx n) LTX.STAT.GATE := by
  unfold setGate
  dsimp only
  split
  · rfl
  · rw [flag_raise (by decide), flag_set_apart (by decide), State.setFlag, flag_set_lane h, State.setFlag, flag_set_lane h]

/-- No gate's change bears on the conditions of a gate. -/
theorem gateOpen_setGate (s : State) (m n : Fin 8) (now : Bool) : gateOpen (setGate s m now) n = gateOpen s n := by
  have hrun (p : Page) : (setGate s m now).running p = s.running p :=
    running_of_get (get_setGate_apart (by decide) (by decide) (by decide))
  have hwithin := setGate_within (n := m) (now := now) (Within.refl 48357032784585166988247072 s) (Nat.or_self _)
  have hlane : (setGate s m now).txLane = s.txLane := hwithin.txLane (by decide)
  have hstate (c : Carrier) : fesState (setGate s m now) c = fesState s c := get_of_within hwithin (p := .fes) (by simp) _
  have hfes (c : Carrier) : fesEmits (setGate s m now) c = fesEmits s c := by rw [fesEmits, fesEmits, hstate]
  simp only [gateOpen, payloadSafe, txLane, hrun, hlane, hfes]

/-- Every gate of the carrier comes to be as its conditions say. -/
theorem gate_gateChange {c : Carrier} {n : Fin 8} (s : State) (hn : n ∈ carrierLanes c) :
    (gateChange c s).flag (.ltx n) LTX.STAT.GATE = gateOpen s n :=
  congrArg Prod.snd (foldl_component (f := fun u m => setGate u m (gateOpen u m)) (x := n)
    (g := fun u => (gateOpen u n, u.flag (.ltx n) LTX.STAT.GATE)) (h := fun r => (r.1, r.1))
    (fun u => Prod.ext (gateOpen_setGate u n n _) (gate_setGate_same u n _)) (carrierLanes c) s
    (fun m _ hm u => Prod.ext (gateOpen_setGate u m n _) (gate_setGate_other _ hm)) (carrierLanes_nodup c) hn)

/-! ## Loop timing (R116) -/

theorem synOfs_steerSyn (c : Carrier) (ofs : Int) (s : State) :
    ((steerSyn c ofs s).txDsp.get (clockCarrier s c)).synOfs = ofs := by
  have hset : ((setTxDsp s (clockCarrier s c) { s.txDsp.get (clockCarrier s c) with synOfs := ofs }).txDsp.get
      (clockCarrier s c)).synOfs = ofs := by rw [txDsp_setTxDsp_same]
  unfold steerSyn
  dsimp only
  split <;> exact hset

/-- The state of TXP_x in holdover at an offset. -/
def heldOver (c : Carrier) (ofs : Int) (s : State) : State :=
  (((steerSyn c ofs s).set (.txp c) TXP.STAT.HOLDOVER 1).set (.txp c) TXP.STAT.LOOP_TRACK 0).raise (.txp c) TXP.EVT.HOLDOVER

theorem holdover_of_unusable {c : Carrier} {average : Int} {s : State} (hrun : s.running (.txp c) = true)
    (hsource : s.flag (.txp c) TXP.CTL.TIMING_SRC = true) (htiming : timingUnusable s c = true)
    (hheld : s.flag (.txp c) TXP.STAT.HOLDOVER = false) :
    holdover c average s = heldOver c (clamp (-100000) 100000 average) s := by
  rw [holdover, hrun, hsource, htiming, hheld]
  rfl

theorem flags_heldOver (c : Carrier) (ofs : Int) (s : State) :
    (heldOver c ofs s).flag (.txp c) TXP.STAT.HOLDOVER = true ∧ (heldOver c ofs s).flag (.txp c) TXP.STAT.LOOP_TRACK = false :=
  ⟨by rw [heldOver, flag_raise (by decide), flag_set_beside (by decide) (by decide) (by decide),
      flag_set_one _ _ _ (by decide) (by decide)],
    by rw [heldOver, flag_raise (by decide), flag_set_zero _ _ _ (by decide)]⟩

theorem ends_of_holdover {c : Carrier} {average : Int} {s : State} (hrun : s.running (.txp c) = true)
    (hsource : s.flag (.txp c) TXP.CTL.TIMING_SRC = true) (htiming : timingUnusable s c = true)
    (hheld : s.flag (.txp c) TXP.STAT.HOLDOVER = false) : Ends (.holdover c average) s fun t =>
      t.flag (.txp c) TXP.STAT.HOLDOVER = true ∧ t.flag (.txp c) TXP.STAT.LOOP_TRACK = false ∧
      (t.txDsp.get (clockCarrier s c)).synOfs = clamp (-100000) 100000 average := by
  refine ends_of_transmit (c := .holdover c average) (congrArg (endsIn s)
    (holdover_of_unusable hrun hsource htiming hheld)) fun t hget hdsp _ => ?_
  obtain ⟨hholdover, htrack⟩ := flags_heldOver c (clamp (-100000) 100000 average) s
  rw [flag_of_get (hget _ _), flag_of_get (hget _ _), hdsp]
  exact ⟨hholdover, htrack, synOfs_steerSyn c _ s⟩

theorem flags_loopResume {c : Carrier} {s : State} (hrun : s.running (.txp c) = true)
    (hsource : s.flag (.txp c) TXP.CTL.TIMING_SRC = true) (htiming : timingUnusable s c = false) :
    (loopResume c s).flag (.txp c) TXP.STAT.HOLDOVER = false ∧ (loopResume c s).flag (.txp c) TXP.STAT.LOOP_TRACK = true := by
  have hresumed : loopResume c s = (s.set (.txp c) TXP.STAT.HOLDOVER 0).set (.txp c) TXP.STAT.LOOP_TRACK 1 := by
    rw [loopResume, hrun, hsource, htiming]
    rfl
  rw [hresumed, flag_set_beside (by decide) (by decide) (by decide)]
  exact ⟨flag_set_zero _ _ _ (by decide), flag_set_one _ _ _ (by decide) (by decide)⟩

/-! ## Patterns and the pattern RAM (R117, R121) -/

theorem patMode_patternMode (n : Fin 8) (s : State) :
    (txLane (patternMode n s) n).patMode = s.get (.ltx n) LTX.PAT_CTL.MODE := by
  unfold patternMode
  dsimp only
  split
  · assumption
  · rw [txLane_putTxLane_same]

/-- A word written to PRAM_DATA comes as it is. -/
theorem newWord_pramData (n : Fin 8) (old w : Word) : newWord (.ltx n) LTX.PRAM_DATA.SAMPLES.off old w = w := by
  have hkept : newWord (.ltx n) LTX.PRAM_DATA.SAMPLES.off old w =
      overlay old LTX.PRAM_DATA.SAMPLES (extract w 0 32) ||| 0#32 := rfl
  rw [hkept, BitVec.or_zero]
  exact eq_of_extract ((extract_overlay_same old LTX.PRAM_DATA.SAMPLES _ (by decide)).trans
    (Nat.mod_eq_of_lt (extract_lt w 0 32)))

/-- The parts that a write of PRAM_DATA can change. -/
def pramParts : Nat := recordParts ||| 9671406556917033398697984

theorem pram_pramWrite (n : Fin 8) (w : Word) (s : State) :
    sparseRead (fun _ => 0x80808080) (txLane (pramWrite n w s) n).pram (s.get (.ltx n) LTX.PRAM_IDX.INDEX) = w := by
  have hlane : txLane (pramWrite n w s) n = { txLane s n with
      pram := sparseWrite (fun _ => 0x80808080) (txLane s n).pram (s.get (.ltx n) LTX.PRAM_IDX.INDEX) w } :=
    txLane_putTxLane_same s n _
  rw [hlane]
  exact sparseRead_write_same _ _ _ _

theorem index_pramWrite (n : Fin 8) (w : Word) (s : State) : (pramWrite n w s).get (.ltx n) LTX.PRAM_IDX.INDEX =
    (s.get (.ltx n) LTX.PRAM_IDX.INDEX + 1) % 2 ^ LTX.PRAM_IDX.INDEX.width := get_set_same _ _ _ _ (by decide)

theorem ends_of_pramData {o : Origin} {n : Fin 8} {w : Word} {s : State}
    (h : Takes o (.ltx n) LTX.PRAM_DATA.SAMPLES.off w s) : Ends (.pramDataAccess o n (some w)) s fun t =>
      sparseRead (fun _ => 0x80808080) (txLane t n).pram (s.get (.ltx n) LTX.PRAM_IDX.INDEX) = w ∧
      t.get (.ltx n) LTX.PRAM_IDX.INDEX = (s.get (.ltx n) LTX.PRAM_IDX.INDEX + 1) % 2 ^ LTX.PRAM_IDX.INDEX.width := by
  have hblock (old new : Word) (u : State) (hu : Within pramParts s u) :
      Within pramParts s (blockWritten o (.ltx n) LTX.PRAM_DATA.SAMPLES.off old new [] u) :=
    ltxWritten_within hu (by decide)
  have hwrite := busWrite_of_block (by decide) (by decide) h rfl (by decide) (by rw [pageBit_ltx]; decide) hblock (by decide)
    (by decide) (by decide)
  rw [newWord_pramData] at hwrite
  have hindex : (recorded o (.ltx n) LTX.PRAM_DATA.SAMPLES.off w [] s).get (.ltx n) LTX.PRAM_IDX.INDEX =
      s.get (.ltx n) LTX.PRAM_IDX.INDEX := get_recorded (by simp [journalParts]) (by decide) (by decide)
  refine ends_of_transmit (c := .pramDataAccess o n (some w)) (congrArg (endsIn s) hwrite) fun t hget _ hlanes => ?_
  rw [txLane, hlanes, hget, ← hindex]
  exact ⟨pram_pramWrite n w _, index_pramWrite n w _⟩

/-! ## DAC codes (R109) -/

/-- A lane that has formed the codes of the block `k` it waited with. -/
def laneFormed (s : State) (n : Fin 8) (k : ShapedBlock) (rest : List ShapedBlock) : TxLane :=
  { txLane s n with
    shaped := rest
    history := (k.samples.reverse ++ (txLane s n).history).take 8
    ramPos := if (txLane s n).patMode = 4 then ((txLane s n).ramPos + k.samples.length) % 8192 else (txLane s n).ramPos
    egress := if decide (k.number < (s.txDsp.get (laneCarrier n)).due) then (txLane s n).egress
      else (txLane s n).egress ++ [(k.number, (laneCodes s n k).1)] }

theorem dacBlock_of_waiting {n : Fin 8} {k : ShapedBlock} {rest : List ShapedBlock} {s : State}
    (hshaped : (txLane s n).shaped = k :: rest) (hroom : (txLane s n).egress.length < egressDepth) :
    dacBlock n s = if (laneCodes s n k).2 && s.running (.ltx n) then
      ((putTxLane s n (laneFormed s n k rest)).bump (.ltx n) LTX.CLIP_CNT.COUNT).raise (.ltx n) LTX.EVT.CLIP
      else putTxLane s n (laneFormed s n k rest) := by
  simp only [dacBlock, hshaped, if_neg (Nat.not_le.mpr hroom)]
  rfl

/-- The lane after the block, clipped or not. -/
theorem txLane_dacBlock {n : Fin 8} {k : ShapedBlock} {rest : List ShapedBlock} {s : State}
    (hshaped : (txLane s n).shaped = k :: rest) (hroom : (txLane s n).egress.length < egressDepth) :
    txLane (dacBlock n s) n = laneFormed s n k rest := by
  rw [dacBlock_of_waiting hshaped hroom]
  split <;> exact txLane_putTxLane_same s n _

/-- A clipped block is counted, another is not. -/
theorem clipCnt_dacBlock {n : Fin 8} {k : ShapedBlock} {rest : List ShapedBlock} {s : State}
    (hshaped : (txLane s n).shaped = k :: rest) (hroom : (txLane s n).egress.length < egressDepth) :
    (dacBlock n s).get (.ltx n) LTX.CLIP_CNT.COUNT =
      if (laneCodes s n k).2 && s.running (.ltx n) then
        min (s.get (.ltx n) LTX.CLIP_CNT.COUNT + 1) (2 ^ LTX.CLIP_CNT.COUNT.width - 1)
      else s.get (.ltx n) LTX.CLIP_CNT.COUNT := by
  rw [dacBlock_of_waiting hshaped hroom]
  split
  · exact (get_raise (by decide)).trans (get_bump_same _ _ _ (by decide))
  · rfl

section clip

variable {n : Fin 8} {k : ShapedBlock} {rest : List ShapedBlock} {s : State}

theorem clipCnt_pageBoundary : (pageBoundary (.ltx n) s).get (.ltx n) LTX.CLIP_CNT.COUNT = s.get (.ltx n) LTX.CLIP_CNT.COUNT :=
  get_pageBoundary (by simp [liveParts]) rfl

theorem ends_of_clipped (hshaped : (txLane s n).shaped = k :: rest) (hroom : (txLane s n).egress.length < egressDepth)
    (hdue : (s.txDsp.get (laneCarrier n)).due ≤ k.number) (hrun : s.running (.ltx n) = true)
    (hclip : (laneCodes (pageBoundary (.ltx n) s) n k).2 = true) : Ends (.dacClip n) s fun t =>
      t.get (.ltx n) LTX.CLIP_CNT.COUNT =
        min (s.get (.ltx n) LTX.CLIP_CNT.COUNT + 1) (2 ^ LTX.CLIP_CNT.COUNT.width - 1) ∧
      (txLane t n).egress = (txLane s n).egress ++ [(k.number, (laneCodes (pageBoundary (.ltx n) s) n k).1)] ∧
      (txLane t n).shaped = rest := by
  have hlane := txLane_pageBoundary (.ltx n) n s
  rw [← hlane] at hshaped hroom
  have hrunning : (pageBoundary (.ltx n) s).running (.ltx n) = true :=
    (running_pageBoundary (by simp [liveParts]) rfl).trans hrun
  refine ends_of_transmit (c := .dacClip n) (u := dacBlock n (pageBoundary (.ltx n) s)) rfl fun t hget _ hlanes => ?_
  have hformed : txLane t n = laneFormed (pageBoundary (.ltx n) s) n k rest := by
    rw [← txLane_dacBlock hshaped hroom, txLane, txLane, hlanes]
  rw [hget, clipCnt_dacBlock hshaped hroom, hclip, hrunning, hformed, clipCnt_pageBoundary, laneFormed, hlane,
    txDsp_pageBoundary, decide_eq_false (Nat.not_lt.mpr hdue)]
  exact ⟨rfl, rfl, rfl⟩

theorem ends_of_unclipped (hshaped : (txLane s n).shaped = k :: rest) (hroom : (txLane s n).egress.length < egressDepth)
    (hclip : (laneCodes (pageBoundary (.ltx n) s) n k).2 = false) : Ends (.dacClip n) s fun t =>
      t.get (.ltx n) LTX.CLIP_CNT.COUNT = s.get (.ltx n) LTX.CLIP_CNT.COUNT ∧ (txLane t n).shaped = rest := by
  rw [← txLane_pageBoundary (.ltx n) n s] at hshaped hroom
  refine ends_of_transmit (c := .dacClip n) (u := dacBlock n (pageBoundary (.ltx n) s)) rfl fun t hget _ hlanes => ?_
  have hformed : txLane t n = laneFormed (pageBoundary (.ltx n) s) n k rest := by
    rw [← txLane_dacBlock hshaped hroom, txLane, txLane, hlanes]
  rw [hget, clipCnt_dacBlock hshaped hroom, hclip, hformed, clipCnt_pageBoundary]
  exact ⟨rfl, rfl⟩

end clip

/-! ## Skew (R104) -/

/-- A skew of 12 bits, in tenths of a picosecond. -/
def SkewFits (i : Int) : Prop := -2048 ≤ i ∧ i < 2048

theorem skewFits_toSigned (v : Nat) : SkewFits (toSigned 12 v) := by
  unfold SkewFits toSigned
  dsimp only
  split <;> omega

theorem SkewFits.skewToward {a t : Int} (ha : SkewFits a) (ht : SkewFits t) : SkewFits (skewToward a t) := by
  unfold SkewFits at *
  unfold Machine.skewToward
  split_ifs <;> omega

theorem toSigned_ofSigned {i : Int} (h : SkewFits i) : toSigned 12 (ofSigned 12 i % 2 ^ 12) = i := by
  unfold SkewFits at h
  unfold toSigned ofSigned
  dsimp only
  split <;> omega

/-- The applied skew of a tributary moves. -/
def skewStep (c : Carrier) (s : State) (i : Nat) : State :=
  s.setInt (.txp c) (TXP.SKEW.APPLIED.at i)
    (skewToward (s.getInt (.txp c) (TXP.SKEW.APPLIED.at i)) (s.getInt (.txp c) (TXP.SKEW.TARGET.at i)))

/-- The applied skew of a tributary and its target. -/
def skewOf (c : Carrier) (i : Nat) (s : State) : Int × Int :=
  (s.getInt (.txp c) (TXP.SKEW.APPLIED.at i), s.getInt (.txp c) (TXP.SKEW.TARGET.at i))

theorem skewSlew_of_running {c : Carrier} {s : State} (h : s.running (.txp c) = true) :
    skewSlew c false s = (List.range 4).foldl (skewStep c) s := if_pos h

theorem skewOf_of_get {c : Carrier} {i : Nat} {s t : State}
    (h : ∀ f : Field, f.off = 0x58 + 4 * i → t.get (.txp c) f = s.get (.txp c) f) : skewOf c i t = skewOf c i s := by
  rw [skewOf, State.getInt, State.getInt, h _ rfl, h _ rfl]
  rfl

theorem skewOf_skewStep_same (c : Carrier) (i : Nat) (s : State) :
    skewOf c i (skewStep c s i) = (skewToward (skewOf c i s).1 (skewOf c i s).2, (skewOf c i s).2) := by
  have hfits := (skewFits_toSigned (s.get (.txp c) (TXP.SKEW.APPLIED.at i))).skewToward
    (skewFits_toSigned (s.get (.txp c) (TXP.SKEW.TARGET.at i)))
  have htarget (v : Nat) : (s.set (.txp c) (TXP.SKEW.APPLIED.at i) v).get (.txp c) (TXP.SKEW.TARGET.at i) =
      s.get (.txp c) (TXP.SKEW.TARGET.at i) :=
    get_set_beside rfl (show 0 + 12 ≤ 32 by decide) (Or.inr (show 0 + 12 ≤ 16 by decide))
  refine Prod.ext ?_ (congrArg (toSigned 12) (htarget _))
  exact (congrArg (toSigned 12) (get_set_same _ _ _ _ (show 16 + 12 ≤ 32 by decide))).trans (toSigned_ofSigned hfits)

theorem skewOf_skewStep_other {c : Carrier} {i k : Nat} (s : State) (hi : i < 4) (hk : k < 4) (h : k ≠ i) :
    skewOf c i (skewStep c s k) = skewOf c i s :=
  skewOf_of_get fun f hf => get_set_apart (by
    have hoff : (TXP.SKEW.APPLIED.at k).off = 0x58 + 4 * k := rfl
    omega)

/-- Each tributary's applied skew has moved by one step. -/
theorem skewOf_skewSlew {c : Carrier} {s : State} (i : Fin 4) (h : s.running (.txp c) = true) :
    skewOf c i.val (skewSlew c false s) = (skewToward (skewOf c i.val s).1 (skewOf c i.val s).2, (skewOf c i.val s).2) := by
  rw [skewSlew_of_running h]
  exact foldl_component (g := skewOf c i.val) (h := fun r => (skewToward r.1 r.2, r.2)) (x := i.val)
    (skewOf_skewStep_same c i.val) _ s
    (fun k hk hki u => skewOf_skewStep_other u i.isLt (List.mem_range.mp hk) hki) List.nodup_range (List.mem_range.mpr i.isLt)

/-- A block formed shows of the page's registers in INJ_CNT alone. -/
theorem get_blockFormed {c : Carrier} {m : MapRun} {s : State} {p : Page} {f : Field}
    (h : TXP.INJ_CNT.COUNT.off % 0x1000 ≠ f.off % 0x1000) : (blockFormed c m s).get p f = s.get p f := by
  unfold blockFormed
  extract_lets d periods lanes old rows columns w samples formed encoded moved
  have hregs : formed.regs = s.regs := List.foldlRecOn (motive := fun u : State => u.regs = s.regs) _ _ rfl fun _ hu _ _ => hu
  have hmoved : moved.get p f = s.get p f := get_of_word (word_of_regs (t := moved) hregs p f.off)
  exact (get_set_apart h).trans hmoved

theorem get_txBlock {c d : Carrier} {s : State} {f : Field} (h : TXP.INJ_CNT.COUNT.off % 0x1000 ≠ f.off % 0x1000) :
    (txBlock c s).get (.txp d) f = s.get (.txp d) f := by
  have hfollow : (loopFollow c s).get (.txp d) f = s.get (.txp d) f :=
    get_of_within (loopFollow_within (Within.refl 19342813113834066795823104 s) (Nat.or_self _)) (by simp) f
  unfold txBlock
  dsimp only
  split
  · exact hfollow
  · split
    · exact (get_blockFormed h).trans hfollow
    · exact hfollow

theorem ends_of_skewSlew {c : Carrier} {i : Fin 4} {s : State} (h : s.running (.txp c) = true) :
    Ends (.skewSlew c false) s fun t => t.getInt (.txp c) (TXP.SKEW.APPLIED.at i.val) =
      skewToward ((pagesBoundary (symbolPages c) s).getInt (.txp c) (TXP.SKEW.APPLIED.at i.val))
        ((pagesBoundary (symbolPages c) s).getInt (.txp c) (TXP.SKEW.TARGET.at i.val)) := by
  have hrun : (pagesBoundary (symbolPages c) s).running (.txp c) = true :=
    (running_pagesBoundary (by simp [liveParts]) rfl).trans h
  have hexec : exec (.skewSlew c false) s =
      endsIn s (fesFollowBoth (txBlock c (skewSlew c false (pagesBoundary (symbolPages c) s)))) :=
    congrArg (fun u => endsIn s (fesFollowBoth u)) (if_neg Bool.false_ne_true)
  refine ends_of_transmit hexec fun t hget _ _ => ?_
  have hblock (u : State) (f : Field) (hf : f.off = 0x58 + 4 * i.val) :
      (fesFollowBoth (txBlock c u)).get (.txp c) f = u.get (.txp c) f := by
    have hapart : TXP.INJ_CNT.COUNT.off % 0x1000 ≠ f.off % 0x1000 := by
      have hcount : TXP.INJ_CNT.COUNT.off = 0x78 := rfl
      have hi := i.isLt
      omega
    rw [get_of_within (fesFollowBoth_within (Within.refl 18889465931478849290272 _) (Nat.or_self _)) (by simp),
      get_txBlock hapart]
  have hkept : skewOf c i.val t = skewOf c i.val (skewSlew c false (pagesBoundary (symbolPages c) s)) :=
    skewOf_of_get fun f hf => (hget _ _).trans (hblock _ f hf)
  exact congrArg Prod.fst (hkept.trans (skewOf_skewSlew i hrun))

/-- Settles O16: calibrations begun, stepped and ended, the gates, holdover and its end, the pattern taken, PRAM_DATA, a
block's DAC codes, and the applied skew. -/
theorem laneTransmitCommandsComplete : Obligations.LaneTransmitCommandsComplete := by
  refine ⟨fun c n s ⟨hlock, hn, hrun⟩ ⟨hgate, hdone⟩ => ?_, fun c ms n s ⟨hn, _⟩ => ?_, fun n m1 m2 mux s h => ?_,
    fun c n s h => ?_, fun c average s ⟨hrun, hsource⟩ ⟨htiming, hheld⟩ => ends_of_holdover hrun hsource htiming hheld,
    fun c s ⟨hrun, hsource, htiming⟩ => ?_, fun n s => ?_, fun o n w s h => ends_of_pramData h,
    fun n k rest s ⟨hshaped, hroom⟩ ⟨hdue, hrun⟩ hclip => ends_of_clipped hshaped hroom hdue hrun hclip,
    fun n k rest s ⟨hshaped, hroom⟩ hclip => ends_of_unclipped hshaped hroom hclip, fun c i s h => ends_of_skewSlew h⟩
  · exact ends_of_transmit (c := .ltxFgCalStart c) (u := fgCalStart c s) rfl fun t hget _ _ =>
      (flag_of_get (hget _ _)).trans (calFg_fgCalStart hlock hn (by rw [calReady, hrun, hgate, hdone]; rfl))
  · exact ends_of_transmit (c := .ltxFgCalDone c ms) (u := fgCalDone c ms s) rfl fun t hget _ _ =>
      (flag_of_get (hget _ _)).trans (calFg_fgCalDone ms s hn)
  · exact ends_of_transmit (c := .ltxBgCalStep n m1 m2 mux) (u := bgCalStep n m1 m2 mux s) rfl fun t hget _ _ =>
      (hget _ _).trans (sparePos_bgCalStep h)
  · exact ends_of_transmit (c := .gateChange c) (u := gateChange c (pagesBoundary (symbolPages c) s)) rfl fun t hget _ _ =>
      (flag_of_get (hget _ _)).trans (gate_gateChange _ h)
  · exact ends_of_transmit (c := .loopTrackResume c) (u := loopResume c s) rfl fun t hget _ _ => by
      rw [flag_of_get (hget _ _), flag_of_get (hget _ _)]
      exact flags_loopResume hrun hsource htiming
  · exact ends_of_transmit (c := .ltxPatternMode n) (u := patternMode n (pageBoundary (.ltx n) s)) rfl
      fun t _ _ hlanes => by
        rw [txLane, hlanes]
        exact patMode_patternMode n _

end Sys2Proof.LineTransmit
end

section
/-! SUPPORT. The count of clipped blocks (R127, R129), on a lane one of whose positions names a slice that the lane does not
have (R131). -/
namespace Sys2Proof.LineReceive

open Sys2Proof Sys2Proof.Machine Sys2Proof.Safety Sys2Proof.Architecture Sys2Proof.LineTransmit

/-! ## The end of a clipping interval (R129) -/

theorem clipBlk_refreshFrozen (s : State) (n : Fin 8) :
    (refreshFrozen s n).get (.lrx n) LRX.CLIP_BLK.COUNT = s.get (.lrx n) LRX.CLIP_BLK.COUNT := get_set_apart (by decide)

theorem clipBlk_clipIntervalEnd (s : State) (n : Fin 8) :
    (clipIntervalEnd n s).get (.lrx n) LRX.CLIP_BLK.COUNT = s.get (.lrx n) LRX.CLIP_BLK.COUNT := by
  unfold clipIntervalEnd
  split
  · rw [clipBlk_refreshFrozen, get_set_apart (by decide)]
  · rfl

/-! ## A clipped block (R127) -/

/-- The clips of a block and the block are counted. -/
def clipsCounted (n : Fin 8) (slices : List Nat) (s : State) : State :=
  (slices.foldl (fun u k => u.bump (.lrx n) (LRX.CLIPS.COUNT.at k))
    (putLineRx s n { lineRx s n with
      clean := 0, clipped := slices.length, sinceFast := min ((lineRx s n).sinceFast + 1) 64 })).bump (.lrx n)
    LRX.CLIP_BLK.COUNT

/-- A clipping interval begins, where none is open. -/
def intervalOpened (n : Fin 8) (s : State) : State :=
  if s.flag (.lrx n) LRX.GAIN_STAT.CLIP_INT then s
  else (refreshFrozen ((s.set (.lrx n) LRX.GAIN_STAT.CLIP_INT 1).bump (.lrx n) LRX.CLIP_INT_CNT.COUNT) n).raise (.lrx n)
    LRX.EVT.CLIP

theorem clipCounts_of_clipped (n : Fin 8) (k : Nat) (ks : List Nat) (s : State) :
    clipCounts n (k :: ks) s = intervalOpened n (clipsCounted n (k :: ks) s) := rfl

theorem clipBlk_intervalOpened (n : Fin 8) (s : State) :
    (intervalOpened n s).get (.lrx n) LRX.CLIP_BLK.COUNT = s.get (.lrx n) LRX.CLIP_BLK.COUNT := by
  unfold intervalOpened
  split
  · rfl
  · rw [get_raise (by decide), clipBlk_refreshFrozen, State.bump, State.addSat, get_set_apart (by decide),
      get_set_apart (by decide)]

/-- A number that names no slice of a lane: the slices are 0 to 64 (R131). -/
def missingSlice : Nat := 916

/-- CLIPS has a counter for each slice of the lane. One for `missingSlice` would stand, within the page, at CLIP_BLK. -/
theorem bump_clips_of_missingSlice (s : State) (n : Fin 8) :
    s.bump (.lrx n) (LRX.CLIPS.COUNT.at missingSlice) = s.bump (.lrx n) LRX.CLIP_BLK.COUNT := rfl

/-- So a block with one clipped sample, of that slice, counts twice. -/
theorem clipBlk_clipCounts_of_missingSlice (s : State) (n : Fin 8) :
    (clipCounts n [missingSlice] s).get (.lrx n) LRX.CLIP_BLK.COUNT =
      min (s.get (.lrx n) LRX.CLIP_BLK.COUNT + 2) (2 ^ LRX.CLIP_BLK.COUNT.width - 1) := by
  rw [clipCounts_of_clipped, clipBlk_intervalOpened, clipsCounted, List.foldl_cons, List.foldl_nil, bump_clips_of_missingSlice,
    get_bump_same _ _ _ (by decide), get_bump_same _ _ _ (by decide), putLineRx_get]
  omega

/-! ## The block of a lane (R126) -/

/-- The slices of the clipped samples of the block that ends. -/
def clippedSlices (n : Fin 8) (codes : List Int) (s : State) : List Nat :=
  let x := lineRx s n
  (((blockCodes x.blocks codes).zip (blockSlices x x.blocks)).filter fun e => clippedCode e.1).map (·.2)

/-- What takes the block after its clips are counted changes no register of the lane. -/
theorem get_blockTaken {s : State} {n : Fin 8} {b : Nat} {codes : List Int} {samples : List (Int × Nat)} {f : Field} :
    (ingressBlock n b codes (captureBlock n b samples (histBlock n samples s))).get (.lrx n) f = s.get (.lrx n) f :=
  get_of_within (ingressBlock_within (captureBlock_within (histBlock_within (Within.refl 1125899908939776 s) (by decide))
    (by decide)) (by decide)) (by simp) f

theorem clipBlk_laneBlock_of_missingSlice {s : State} {n : Fin 8} {codes : List Int} (hdelivers : laneDelivers s n = true)
    (hahead : laneAhead s n = false) (hslices : clippedSlices n codes (clipIntervalEnd n s) = [missingSlice]) :
    (laneBlock n codes s).get (.lrx n) LRX.CLIP_BLK.COUNT =
      min (s.get (.lrx n) LRX.CLIP_BLK.COUNT + 2) (2 ^ LRX.CLIP_BLK.COUNT.width - 1) := by
  unfold clippedSlices at hslices
  simp only [laneBlock, hdelivers, hahead, hslices, Bool.not_true, Bool.or_self, Bool.false_eq_true, if_false]
  rw [get_blockTaken, clipBlk_clipCounts_of_missingSlice, putLineRx_get, clipBlk_clipIntervalEnd]

/-- CLIP of such a block, where no live field waits for the boundary. -/
theorem ends_of_clip_of_missingSlice {s : State} {n : Fin 8} {codes : List Int} (hboundary : pageBoundary (.lrx n) s = s)
    (hdelivers : laneDelivers s n = true) (hahead : laneAhead s n = false)
    (hslices : clippedSlices n codes (clipIntervalEnd n s) = [missingSlice]) :
    Ends (.clip n codes) s fun t => t.get (.lrx n) LRX.CLIP_BLK.COUNT =
      min (s.get (.lrx n) LRX.CLIP_BLK.COUNT + 2) (2 ^ LRX.CLIP_BLK.COUNT.width - 1) := by
  have hexec : exec (.clip n codes) s = endsIn s (fesFollowBoth (laneBlock n codes s)) :=
    congrArg (fun u => endsIn s (fesFollowBoth (laneBlock n codes u))) hboundary
  refine ends_of_transmit hexec fun t hget _ _ => ?_
  rw [hget, get_of_within (fesFollowBoth_within (Within.refl 18889465931478849290272 _) (Nat.or_self _)) (by simp),
    clipBlk_laneBlock_of_missingSlice hdelivers hahead hslices]

/-! ## O17 -/

/-- The lanes of carrier A deliver samples, and position 0 of lane 1 names the missing slice. -/
def laneWithMissingSlice : State :=
  let s := Sys2Proof.Tests.up Sys2Proof.Tests.lanesA
  putLineRx s 1 { lineRx s 1 with positions := (List.range 64).set 0 missingSlice }

/-- Refutes O17: its clause on a clipped block asks that CLIP_BLK rise by one in every state, also in one whose rotation names a
slice that the lane does not have, and leaves out R131's condition that the positions hold slices 0 to 64. In
`laneWithMissingSlice` the counter of the clipped sample's slice lies at CLIP_BLK, which rises from 0 to 2. -/
theorem not_receiveLaneCommandsComplete : ¬ Obligations.ReceiveLaneCommandsComplete := by
  rintro ⟨-, -, -, -, hclip, -⟩
  have hboundary : pageBoundary (.lrx 1) laneWithMissingSlice = laneWithMissingSlice := by decide +kernel
  have hdelivers : laneDelivers laneWithMissingSlice 1 = true := by decide +kernel
  have hahead : laneAhead laneWithMissingSlice 1 = false := by decide +kernel
  have hslices : clippedSlices 1 [63] (clipIntervalEnd 1 laneWithMissingSlice) = [missingSlice] := by decide +kernel
  have hclipped : (blockCodes (lineRx laneWithMissingSlice 1).blocks [63]).any clippedCode = true := by decide +kernel
  have hcount : laneWithMissingSlice.get (.lrx 1) LRX.CLIP_BLK.COUNT = 0 := by decide +kernel
  obtain ⟨t, hexec, htwice⟩ := ends_of_clip_of_missingSlice hboundary hdelivers hahead hslices
  obtain ⟨t', hexec', -, honce, -⟩ := hclip 1 [63] laneWithMissingSlice
    (by rw [hboundary]; exact ⟨hdelivers, hahead⟩) (by rw [hboundary]; exact hclipped)
  obtain rfl : t = t' := Host.Outcome.next.inj (hexec.symm.trans hexec')
  rw [htwice, hcount] at honce
  exact absurd honce (by decide)

end Sys2Proof.LineReceive
end

section
/-! SUPPORT. Sequence estimation in MLS_x (R189 to R191): a symbol block passes, and the trellis is reset. -/
namespace Sys2Proof.Decoding

open Sys2Proof Sys2Proof.Machine Sys2Proof.Safety Sys2Proof.Architecture Sys2Proof.Control Sys2Proof.LineFraming
open Sys2Proof.LineTransmit

theorem demapper_setDemapper_same (s : State) (c : Carrier) (x : Demapper) : (setDemapper s c x).demapper.get c = x := by
  cases c <;> rfl

theorem demapper_showTails (s : State) (c : Carrier) : (showTails s c).demapper = s.demapper :=
  (showTails_within (Within.refl 1237940039285380274899124224 s) (Nat.or_self _)).demapper (by decide)

theorem demapper_set (s : State) (p : Page) (f : Field) (v : Nat) : (s.set p f v).demapper = s.demapper := rfl

theorem demapper_addSat (s : State) (p : Page) (f : Field) (n : Nat) : (s.addSat p f n).demapper = s.demapper := rfl

theorem demapper_raise (s : State) (p : Page) (b : Nat) : (s.raise p b).demapper = s.demapper := rfl

/-- A command ends in the state its meaning computes, as far as its registers and the demapper. -/
theorem ends_of_demapped {i : Instr} {s u : State} {P : State → Prop} (hexec : exec i s = endsIn s u)
    (h : ∀ t : State, (∀ p f, t.get p f = u.get p f) → t.demapper = u.demapper → P t) : Ends i s P :=
  ends_of_endsIn hexec (h _ (fun _ _ => rfl) rfl)

/-! ## A symbol block (R189, R190) -/

/-- The periods that wait before MLS_x and those that it has passed on to DMP_x. -/
def queues (s : State) (c : Carrier) : List RxPeriod × List SoftPeriod := ((s.demapper.get c).input, (s.demapper.get c).soft)

theorem queues_setDemapper (s : State) (c : Carrier) (x : Demapper) : queues (setDemapper s c x) c = (x.input, x.soft) := by
  rw [queues, demapper_setDemapper_same]

theorem queues_showTails (s : State) (c : Carrier) : queues (showTails s c) c = queues s c := by
  rw [queues, demapper_showTails, queues]

theorem queues_trellisReset (c : Carrier) (s : State) : queues (trellisReset c s) c = queues s c := by
  unfold trellisReset
  split
  · cases c <;> rfl
  · rfl

theorem queues_mlsAdapt (c : Carrier) (s : State) : queues (mlsAdapt c s) c = queues s c := by
  unfold mlsAdapt
  extract_lets d step fixed tails clamped adapted shown
  have hshown : queues shown c = queues s c := (queues_showTails adapted c).trans (queues_setDemapper s c _)
  clear_value shown
  split
  · rfl
  · split
    · exact hshown
    · rwa [queues, demapper_raise, demapper_addSat]

/-- A block of `n` periods has passed MLS_x. -/
def BlockPassed (c : Carrier) (n : Nat) (s t : State) : Prop :=
  (queues t c).1 = (queues s c).1.drop n ∧ (queues t c).2.length = (queues s c).2.length + n

theorem blockPassed_trellisBlock (c : Carrier) (n : Nat) (s : State) : BlockPassed c n s (trellisBlock c n s) := by
  unfold trellisBlock BlockPassed queues
  extract_lets d window trib soft taken
  have hsoft : soft.length = n := by simp [soft]
  rw [demapper_setDemapper_same]
  exact ⟨rfl, List.length_append.trans (congrArg (d.soft.length + ·) hsoft)⟩

theorem mlsUpdate_of_unmarked {c : Carrier} {s : State} (hrun : s.running (.mls c) = true)
    (hblock : 320 ≤ (s.demapper.get c).input.length)
    (hunmarked : blockMarked ((s.demapper.get c).input.take 256) = false) :
    mlsUpdate c s = mlsAdapt c (trellisBlock c 256 (trellisReset c s)) := by
  simp [mlsUpdate, hrun, Nat.not_lt.mpr hblock, hunmarked]

theorem mlsUpdate_of_marked {c : Carrier} {s : State} (hrun : s.running (.mls c) = true)
    (hblock : 320 ≤ (s.demapper.get c).input.length)
    (hmarked : blockMarked ((s.demapper.get c).input.take 256) = true) :
    mlsUpdate c s = markedBlock c ((s.demapper.get c).input.take 256) s := by
  simp [mlsUpdate, hrun, Nat.not_lt.mpr hblock, hmarked]

theorem blockPassed_mlsUpdate_of_unmarked {c : Carrier} {s : State} (hrun : s.running (.mls c) = true)
    (hblock : 320 ≤ (s.demapper.get c).input.length)
    (hunmarked : blockMarked ((s.demapper.get c).input.take 256) = false) : BlockPassed c 256 s (mlsUpdate c s) := by
  have hpassed := blockPassed_trellisBlock c 256 (trellisReset c s)
  rw [BlockPassed, queues_trellisReset] at hpassed
  rwa [mlsUpdate_of_unmarked hrun hblock hunmarked, BlockPassed, queues_mlsAdapt]

theorem ends_of_unmarkedBlock {c : Carrier} {s : State} (hrun : s.running (.mls c) = true)
    (hblock : 320 ≤ (s.demapper.get c).input.length)
    (hunmarked : blockMarked ((s.demapper.get c).input.take 256) = false) : Ends (.mlsEstimateUpdate c) s fun t =>
      (t.demapper.get c).input = (s.demapper.get c).input.drop 256 ∧
      (t.demapper.get c).soft.length = (s.demapper.get c).soft.length + 256 := by
  have hpassed := blockPassed_mlsUpdate_of_unmarked hrun hblock hunmarked
  refine ends_of_demapped (i := .mlsEstimateUpdate c) rfl fun t _ hdemapper => ?_
  rw [hdemapper]
  exact hpassed

/-- A marked block passes with a reset of the trellis due, and the estimates stay (R191). -/
theorem demapper_markedBlock (c : Carrier) (block : List RxPeriod) (s : State) :
    ∃ soft : List SoftPeriod, soft.length = block.length ∧ (markedBlock c block s).demapper.get c =
      { s.demapper.get c with
        input := (s.demapper.get c).input.drop block.length
        soft := (s.demapper.get c).soft ++ soft
        resetDue := true } := by
  unfold markedBlock
  extract_lets d n soft
  exact ⟨soft, List.length_map _, demapper_setDemapper_same _ _ _⟩

theorem ends_of_markedBlock {c : Carrier} {s : State} (hrun : s.running (.mls c) = true)
    (hblock : 320 ≤ (s.demapper.get c).input.length)
    (hmarked : blockMarked ((s.demapper.get c).input.take 256) = true) : Ends (.mlsEstimateUpdate c) s fun t =>
      (t.demapper.get c).input = (s.demapper.get c).input.drop 256 ∧
      (t.demapper.get c).soft.length = (s.demapper.get c).soft.length + 256 ∧
      (t.demapper.get c).resetDue = true ∧ (t.demapper.get c).kappa = (s.demapper.get c).kappa := by
  have hlength : ((s.demapper.get c).input.take 256).length = 256 := List.length_take_of_le (by omega)
  obtain ⟨soft, hsoft, hd⟩ := demapper_markedBlock c ((s.demapper.get c).input.take 256) s
  rw [hlength] at hsoft hd
  refine ends_of_demapped (i := .mlsEstimateUpdate c) (congrArg (endsIn s) (mlsUpdate_of_marked hrun hblock hmarked))
    fun t _ hdemapper => ?_
  rw [hdemapper, hd]
  exact ⟨rfl, by simp only [List.length_append, hsoft], rfl, rfl⟩

/-! ## A reset of the trellis (R191) -/

theorem resetDue_resetTrellis (c : Carrier) (s : State) : ((resetTrellis c s).demapper.get c).resetDue = false := by
  cases c <;> rfl

theorem resetCnt_resetTrellis (c : Carrier) (s : State) : Counted (.mls c) MLS.RESET_CNT.COUNT s (resetTrellis c s) := by
  rw [Counted, resetTrellis, get_raise (by decide), get_bump_same _ _ _ (by decide)]
  rfl

theorem ends_of_trellisReset {c : Carrier} {s : State} (hrun : s.running (.mls c) = true)
    (hdue : (s.demapper.get c).resetDue = true) : Ends (.trellisReset c) s fun t =>
      (t.demapper.get c).resetDue = false ∧ Counted (.mls c) MLS.RESET_CNT.COUNT s t := by
  have hreset : trellisReset c s = resetTrellis c s := by simp [trellisReset, hrun, hdue]
  refine ends_of_demapped (i := .trellisReset c) (congrArg (endsIn s) hreset) fun t hget hdemapper => ?_
  rw [hdemapper, Counted, hget]
  exact ⟨resetDue_resetTrellis c s, resetCnt_resetTrellis c s⟩

end Sys2Proof.Decoding
end

section
/-! SUPPORT. Demapping in DMP_x (R192 to R194): a symbol block is delivered to FEC_x, and the SNR is shown. -/
namespace Sys2Proof.Decoding

open Sys2Proof Sys2Proof.Machine Sys2Proof.Safety Sys2Proof.Architecture Sys2Proof.Control Sys2Proof.LineFraming
open Sys2Proof.LineTransmit

/-! ## What a command ends in that the sequencers of the optics follow -/

/-- The parts that the sequencers of the optics can change. -/
def followParts : Nat := 18889465931478849290272

/-- Such a command ends in the state its meaning computes, as far as the demapper, the decoder and the registers of the pages that
the sequencers leave. -/
theorem ends_of_followed {i : Instr} {s u : State} {P : State → Prop} (hexec : exec i s = endsIn s (fesFollowBoth u))
    (h : ∀ t : State, (∀ p f, pageBit p &&& followParts = 0 → t.get p f = u.get p f) → t.demapper = u.demapper →
      t.fec = u.fec → P t) : Ends i s P := by
  have hfollowed : Within followParts u (fesFollowBoth u) := fesFollowBoth_within (Within.refl _ u) (Nat.or_self _)
  generalize fesFollowBoth u = v at hexec hfollowed
  exact ends_of_endsIn hexec (h _ (fun _ f hp => get_of_within hfollowed hp f) (hfollowed.demapper (by decide))
    (hfollowed.fec (by decide)))

theorem dmp_kept (c : Carrier) : pageBit (.dmp c) &&& followParts = 0 := by rw [pageBit_dmp]; decide
theorem fec_kept (c : Carrier) : pageBit (.fec c) &&& followParts = 0 := by rw [pageBit_fec]; decide

/-! ## Delivery to FEC_x (R192, R193) -/

/-- From `s` to `t` the registers of DMP_x that show the SNR and hold VAR_LOG2 stay as they are. -/
abbrev KeepsSnr (c : Carrier) (s t : State) : Prop := Keeps (allBut (.dmp c) [DMP.SNR.X, DMP.CTL.VAR_LOG2]) s t

/-- From `s` to `t` the demapper of a carrier changes in its note of an erased block alone. -/
def ErasedAlone (c : Carrier) (s t : State) : Prop := ∃ b, t.demapper.get c = { s.demapper.get c with erased := b }

/-- The parts that FEC_x and its loss of LOCK can change. -/
def fecParts : Nat := 14857698341510536665745076512

theorem ErasedAlone.addSat {c : Carrier} {s t : State} {p : Page} {f : Field} {n : Nat} (h : ErasedAlone c s t) :
    ErasedAlone c s (t.addSat p f n) := h

theorem demapper_countWeights (c : Carrier) (block : List SoftPeriod) (s : State) :
    (countWeights c block s).demapper = s.demapper := by
  unfold countWeights
  dsimp only
  rw [demapper_addSat, demapper_addSat, demapper_addSat]

theorem ErasedAlone.of_fec {c : Carrier} {s u t : State} (h : ErasedAlone c s u) (hw : Within fecParts u t) :
    ErasedAlone c s t := by
  rwa [ErasedAlone, hw.demapper (by decide)]

section delivery

variable {c : Carrier} {s0 s : State}

theorem KeepsSnr.of_fec {t : State} (h : KeepsSnr c s0 s) (hw : Within fecParts s t) : KeepsSnr c s0 t :=
  keeps_withinOff h hw (by rw [pageBit_dmp]; decide)

theorem KeepsSnr.addSat {f : Field} {n : Nat} (h : KeepsSnr c s0 s)
    (hf : ([DMP.SNR.X, DMP.CTL.VAR_LOG2].any fun g => g.off % 0x1000 == f.off % 0x1000) = false) :
    KeepsSnr c s0 (s.addSat (.dmp c) f n) := h.set (allBut_off hf)

theorem keepsSnr_countWeights {block : List SoftPeriod} (h : KeepsSnr c s0 s) : KeepsSnr c s0 (countWeights c block s) :=
  ((KeepsSnr.addSat (f := DMP.ERASE_SYM.COUNT) h (by decide)).addSat (f := DMP.CLIPW_SYM.COUNT) (by decide)).addSat
    (f := DMP.SEGW_SYM.COUNT) (by decide)

theorem keepsSnr_dmpErase (h : KeepsSnr c s0 s) : KeepsSnr c s0 (dmpErase s c) :=
  Keeps.ite h (Keeps.raise (h.of_regs rfl) (allBut_off (by decide)))

theorem erasedAlone_dmpErase (c : Carrier) (s : State) : ErasedAlone c s (dmpErase s c) := by
  unfold dmpErase
  dsimp only
  split
  · exact ⟨_, rfl⟩
  · exact ⟨true, demapper_setDemapper_same s c _⟩

/-- A block is delivered: DMP_x keeps the SNR it shows, and its averages. -/
theorem demapBlock_keeps (c : Carrier) (block : List SoftPeriod) (s : State) :
    KeepsSnr c s (demapBlock c block s) ∧ ErasedAlone c s (demapBlock c block s) := by
  unfold demapBlock
  extract_lets counted before noted clipW segW scale llrs saturated
  have hcounted : KeepsSnr c s counted := keepsSnr_countWeights (Keeps.refl _ s)
  have hsame : counted.demapper = s.demapper := demapper_countWeights c block s
  have herased : ErasedAlone c s (dmpErase counted c) := by
    rw [ErasedAlone, ← hsame]
    exact erasedAlone_dmpErase c counted
  have hnoted : KeepsSnr c s noted ∧ ErasedAlone c s noted := by
    unfold noted before
    clear_value counted
    split
    · exact ⟨keepsSnr_dmpErase hcounted, herased⟩
    · exact ⟨hcounted.of_regs rfl, false, by rw [← hsame]; exact demapper_setDemapper_same counted c _⟩
  obtain ⟨hkept, halone⟩ := hnoted
  clear_value noted
  have hsaturated : KeepsSnr c s saturated := hkept.addSat (by decide)
  have hdelivered : ErasedAlone c s saturated := halone.addSat
  clear_value saturated counted
  split
  · have hw : Within fecParts (dmpErase counted c) (fecUnsynchronised (dmpErase counted c) c) :=
      fecUnsynchronised_within (Within.refl _ _) (Nat.or_self _)
    exact ⟨(keepsSnr_dmpErase hcounted).of_fec hw, herased.of_fec hw⟩
  · have hw : Within fecParts saturated (fecInput c (llrs.map (clamp (-31) 31)) saturated) :=
      fecInput_within (Within.refl _ _) (Nat.or_self _)
    exact ⟨hsaturated.of_fec hw, hdelivered.of_fec hw⟩

end delivery

/-! ## The SNR (R194) -/

theorem snrOf_lt (power noise : Nat) : snrOf power noise < 2 ^ 16 := by
  unfold snrOf
  split <;> omega

/-- What DMP_x shows and keeps of the averages `d` at an update. -/
structure SnrShown (c : Carrier) (d : Demapper) (t : State) : Prop where
  x : t.get (.dmp c) DMP.SNR.X = snrOf (d.power.getD 0 0 + d.power.getD 1 0) (d.noise.getD 0 0 + d.noise.getD 1 0)
  y : t.get (.dmp c) DMP.SNR.Y = snrOf (d.power.getD 2 0 + d.power.getD 3 0) (d.noise.getD 2 0 + d.noise.getD 3 0)
  variance : (t.demapper.get c).variance = d.noise.map fun n => n / (65536 * d.varN)
  soft : (t.demapper.get c).soft = d.soft

theorem get_snr_of_set (c : Carrier) (s : State) {x y : Nat} (hx : x < 2 ^ 16) (hy : y < 2 ^ 16) :
    ((s.set (.dmp c) DMP.SNR.X x).set (.dmp c) DMP.SNR.Y y).get (.dmp c) DMP.SNR.X = x ∧
    ((s.set (.dmp c) DMP.SNR.X x).set (.dmp c) DMP.SNR.Y y).get (.dmp c) DMP.SNR.Y = y := by
  refine ⟨?_, (get_set_same _ _ DMP.SNR.Y y (by decide)).trans (Nat.mod_eq_of_lt hy)⟩
  rw [get_set_beside (f := DMP.SNR.Y) (g := DMP.SNR.X) rfl (by decide) (by decide), get_set_same _ _ _ _ (by decide)]
  exact Nat.mod_eq_of_lt hx

theorem snrShown_snrLatch {c : Carrier} {s : State}
    (hdue : 2 ^ s.get (.dmp c) DMP.CTL.VAR_LOG2 ≤ (s.demapper.get c).varBlocks) (hsymbols : (s.demapper.get c).varN ≠ 0) :
    SnrShown c (s.demapper.get c) (snrLatch c s) := by
  unfold snrLatch
  extract_lets d x y thr low latched shown
  obtain ⟨hx, hy⟩ : shown.get (.dmp c) DMP.SNR.X = x ∧ shown.get (.dmp c) DMP.SNR.Y = y :=
    get_snr_of_set c latched (snrOf_lt _ _) (snrOf_lt _ _)
  have hd : shown.demapper.get c = { d with
      variance := d.noise.map fun n => n / (65536 * d.varN), armed := !low, noise := [0, 0, 0, 0], power := [0, 0, 0, 0],
      varN := 0, varBlocks := 0 } := by
    unfold shown
    rw [demapper_set, demapper_set]
    exact demapper_setDemapper_same s c _
  clear_value shown
  rw [if_neg (by simp [d, Nat.not_lt.mpr hdue, hsymbols]), State.raiseIf]
  split
  · exact ⟨(get_raise (by decide)).trans hx, (get_raise (by decide)).trans hy, by rw [demapper_raise, hd],
      by rw [demapper_raise, hd]⟩
  · exact ⟨hx, hy, by rw [hd], by rw [hd]⟩

/-! ## A symbol block (R192 to R194) -/

/-- The oldest block that waits before DMP_x. -/
def softBlock (c : Carrier) (s : State) : List SoftPeriod := (s.demapper.get c).soft.take 256

/-- DMP_x takes the block. -/
def softTaken (c : Carrier) (s : State) : State :=
  setDemapper s c { s.demapper.get c with soft := (s.demapper.get c).soft.drop 256 }

/-- The block is delivered to FEC_x. -/
def softDelivered (c : Carrier) (s : State) : State := demapBlock c (softBlock c s) (softTaken c s)

theorem demapper_softDelivered (c : Carrier) (s : State) : ∃ b, (softDelivered c s).demapper.get c =
    { s.demapper.get c with soft := (s.demapper.get c).soft.drop 256, erased := b } := by
  obtain ⟨b, hb⟩ := (demapBlock_keeps c (softBlock c s) (softTaken c s)).2
  exact ⟨b, by rw [softDelivered, hb, softTaken, demapper_setDemapper_same]⟩

theorem keepsSnr_softDelivered (c : Carrier) (s : State) : KeepsSnr c s (softDelivered c s) :=
  Keeps.trans (Keeps.of_regs (Keeps.refl _ s) rfl) (demapBlock_keeps c (softBlock c s) (softTaken c s)).1

section block

variable {c : Carrier} {s : State} (hrun : s.running (.dmp c) = true) (hblock : 256 ≤ (s.demapper.get c).soft.length)
include hrun hblock

theorem snrUpdate_of_marked (hmarked : ((softBlock c s).any fun p => p.slip || !p.sync || p.clip != 0) = true) :
    snrUpdate c s = softDelivered c s := by
  unfold softBlock at hmarked
  simp only [snrUpdate, hrun, Nat.not_lt.mpr hblock, hmarked, Bool.not_true, decide_false, Bool.or_self, Bool.false_eq_true,
    if_false, if_true]
  rfl

theorem snrUpdate_of_unmarked (hunmarked : ((softBlock c s).any fun p => p.slip || !p.sync || p.clip != 0) = false) :
    snrUpdate c s = snrLatch c (setDemapper (softDelivered c s) c
      (addNoise ((softDelivered c s).demapper.get c) (softBlock c s))) := by
  unfold softBlock at hunmarked
  simp only [snrUpdate, hrun, Nat.not_lt.mpr hblock, hunmarked, Bool.not_true, decide_false, Bool.or_self,
    Bool.false_eq_true, if_false]
  rfl

theorem ends_of_markedSoft (hmarked : ((softBlock c s).any fun p => p.slip || !p.sync || p.clip != 0) = true) :
    Ends (.snrUpdate c) s fun t =>
      (t.demapper.get c).soft = (s.demapper.get c).soft.drop 256 ∧
      (t.demapper.get c).variance = (s.demapper.get c).variance ∧
      t.get (.dmp c) DMP.SNR.X = s.get (.dmp c) DMP.SNR.X := by
  obtain ⟨b, hb⟩ := demapper_softDelivered c s
  refine ends_of_followed (i := .snrUpdate c)
    (congrArg (fun u => endsIn s (fesFollowBoth u)) (snrUpdate_of_marked hrun hblock hmarked)) fun t hget hdemapper _ => ?_
  rw [hdemapper, hb, hget _ _ (dmp_kept c)]
  exact ⟨rfl, rfl, (keepsSnr_softDelivered c s).get (allBut_eq_false (by decide))⟩

/-- The SNR of a block without markers, once the averages are full. -/
theorem snrShown_snrUpdate (hunmarked : ((softBlock c s).any fun p => p.slip || !p.sync || p.clip != 0) = false)
    (hdue : 2 ^ s.get (.dmp c) DMP.CTL.VAR_LOG2 ≤ (addNoise (s.demapper.get c) (softBlock c s)).varBlocks)
    (hsymbols : (addNoise (s.demapper.get c) (softBlock c s)).varN ≠ 0) :
    SnrShown c { addNoise (s.demapper.get c) (softBlock c s) with soft := (s.demapper.get c).soft.drop 256 }
      (snrUpdate c s) := by
  obtain ⟨b, hb⟩ := demapper_softDelivered c s
  have hvarLog2 : (softDelivered c s).get (.dmp c) DMP.CTL.VAR_LOG2 = s.get (.dmp c) DMP.CTL.VAR_LOG2 :=
    (keepsSnr_softDelivered c s).get (allBut_eq_false (by decide))
  rw [snrUpdate_of_unmarked hrun hblock hunmarked, hb]
  have hlatch := snrShown_snrLatch (c := c) (s := setDemapper (softDelivered c s) c
    (addNoise { s.demapper.get c with soft := (s.demapper.get c).soft.drop 256, erased := b } (softBlock c s)))
  rw [demapper_setDemapper_same] at hlatch
  obtain ⟨hx, hy, hvariance, hsoft⟩ := hlatch (hvarLog2 ▸ hdue) hsymbols
  exact ⟨hx, hy, hvariance, hsoft⟩

theorem ends_of_unmarkedSoft (hunmarked : ((softBlock c s).any fun p => p.slip || !p.sync || p.clip != 0) = false)
    (hdue : 2 ^ s.get (.dmp c) DMP.CTL.VAR_LOG2 ≤ (addNoise (s.demapper.get c) (softBlock c s)).varBlocks)
    (hsymbols : (addNoise (s.demapper.get c) (softBlock c s)).varN ≠ 0) :
    Ends (.snrUpdate c) s
      (SnrShown c { addNoise (s.demapper.get c) (softBlock c s) with soft := (s.demapper.get c).soft.drop 256 }) := by
  obtain ⟨hx, hy, hvariance, hsoft⟩ := snrShown_snrUpdate hrun hblock hunmarked hdue hsymbols
  exact ends_of_followed (i := .snrUpdate c) rfl fun t hget hdemapper _ =>
    ⟨(hget _ _ (dmp_kept c)).trans hx, (hget _ _ (dmp_kept c)).trans hy, by rw [hdemapper, hvariance], by rw [hdemapper, hsoft]⟩

end block

end Sys2Proof.Decoding
end

section
/-! SUPPORT. The decoder of FEC_x: its states (R204), the counts of a decoded block (R205) and its statistics windows (R206 to
R208). -/
namespace Sys2Proof.Decoding

open Sys2Proof Sys2Proof.Machine Sys2Proof.Safety Sys2Proof.Architecture Sys2Proof.Control Sys2Proof.LineFraming
open Sys2Proof.LineTransmit

theorem fec_setFec_same (s : State) (c : Carrier) (x : FecState) : (s.setFec c x).fec.get c = x := by cases c <;> rfl

/-! ## States of the decoder (R204) -/

theorem fecLocked_of_fecState {s : State} {c : Carrier} {st : Nat} (h : fecState s c = st) : fecLocked s c = (st == fecLock) :=
  congrArg (· == fecLock) h

theorem fecState_enterFecState (s : State) (c : Carrier) (st : Nat) : fecState (enterFecState s c st) c = st % 4 :=
  get_set_same _ _ FEC.STAT.STATE st (by decide)

/-- Out of LOCK the decoder enters a state and nothing else changes. -/
theorem enterFecState_of_unlocked {s : State} {c : Carrier} (st : Nat) (h : fecLocked s c = false) :
    enterFecState s c st = s.set (.fec c) FEC.STAT.STATE st := by
  rw [enterFecState, h]
  rfl

theorem decodeRun_of_not_ready {c : Carrier} {toBad : Bool} {s : State} (h : decodeReady s c = false) (n : Nat) :
    decodeRun c toBad n s = s := by
  cases n with
  | zero => rfl
  | succ n => rw [decodeRun, h]; rfl

/-! ## A HUNT observation (R204) -/

/-- The stream begins at candidate `k`, which OFFSET shows, with no block decoded yet. -/
def streamAligned (c : Carrier) (k : Nat) (s : State) : State :=
  (s.setFec c { s.fec.get c with
    llrs := (s.fec.get c).llrs.drop (observationBits s c + k * bitsPerSymbol (lineMode s c))
    decoder := 0, checkBlocks := 0, checkUncorr := 0, history := [] }).set (.fec c) FEC.STAT.OFFSET k

theorem fecState_streamAligned (c : Carrier) (k : Nat) (s : State) : fecState (streamAligned c k s) c = fecState s c :=
  get_set_beside (f := FEC.STAT.OFFSET) (g := FEC.STAT.STATE) rfl (by decide) (by decide)

section hunt

variable {c : Carrier} {s : State} {x : Nat × Nat × Nat} (hrun : s.running (.fec c) = true) (hhunt : fecState s c = fecHunt)
  (harrived : observationBits s c ≤ (s.fec.get c).llrs.length)
  (hx : x = bestCandidate (lineMode s c) ((s.fec.get c).llrs.take (observationBits s c)))
include hrun hhunt harrived hx

theorem huntObservation_of_pass (hpass : observationPasses x.2.1 x.2.2 = true) :
    huntObservation c s = enterFecState (streamAligned c x.1 s) c fecCheck := by
  subst hx
  simp only [huntObservation, hhunt, hrun, harrived, hpass, decide_true, Bool.and_self, if_true]
  rfl

theorem huntObservation_of_fail (hfail : observationPasses x.2.1 x.2.2 = false) :
    huntObservation c s = (s.setFec c { s.fec.get c with llrs := (s.fec.get c).llrs.drop (observationBits s c) }).bump
      (.fec c) FEC.HUNT_CNT.HUNT_FAIL := by
  subst hx
  simp only [huntObservation, hhunt, hrun, harrived, hfail, decide_true, Bool.and_self, if_true, Bool.false_eq_true, if_false]

theorem check_of_pass (hpass : observationPasses x.2.1 x.2.2 = true) :
    fecState (huntObservation c s) c = fecCheck ∧ ((huntObservation c s).fec.get c).checkBlocks = 0 := by
  have hunlocked : fecLocked (streamAligned c x.1 s) c = false :=
    fecLocked_of_fecState ((fecState_streamAligned c x.1 s).trans hhunt)
  rw [huntObservation_of_pass hrun hhunt harrived hx hpass]
  refine ⟨fecState_enterFecState _ c fecCheck, ?_⟩
  rw [enterFecState_of_unlocked _ hunlocked]
  exact congrArg (·.checkBlocks) (fec_setFec_same s c _)

theorem hunt_of_fail (hfail : observationPasses x.2.1 x.2.2 = false) :
    fecState (huntObservation c s) c = fecHunt ∧ Counted (.fec c) FEC.HUNT_CNT.HUNT_FAIL s (huntObservation c s) := by
  rw [huntObservation_of_fail hrun hhunt harrived hx hfail]
  exact ⟨(get_set_apart (f := FEC.HUNT_CNT.HUNT_FAIL) (by decide)).trans hhunt, get_bump_same _ _ _ (by decide)⟩

theorem ends_of_huntObservation : Ends (.fecHuntObservation c) s fun t =>
    (observationPasses x.2.1 x.2.2 = true → fecState t c = fecCheck ∧ (t.fec.get c).checkBlocks = 0) ∧
    (observationPasses x.2.1 x.2.2 = false → fecState t c = fecHunt ∧ Counted (.fec c) FEC.HUNT_CNT.HUNT_FAIL s t) := by
  refine ends_of_followed (i := .fecHuntObservation c) rfl fun t hget _ hfec => ?_
  rw [fecState, Counted, hget _ _ (fec_kept c), hget _ _ (fec_kept c), hfec]
  exact ⟨check_of_pass hrun hhunt harrived hx, hunt_of_fail hrun hhunt harrived hx⟩

end hunt

/-! ## The first 64 blocks at OFFSET (R204) -/

theorem fecState_checkResult_of_good {c : Carrier} {s : State} (hrun : s.running (.fec c) = true)
    (hcheck : fecState s c = fecCheck) (hblocks : 64 ≤ (s.fec.get c).checkBlocks) (hgood : (s.fec.get c).checkUncorr ≤ 8) :
    fecState (checkResult c s) c = fecLock := by
  have hready : decodeReady s c = false := by
    simp [decodeReady, fecLocked_of_fecState hcheck, Nat.not_lt.mpr hblocks, fecCheck, fecLock]
  simp only [checkResult, hcheck, if_true, decodeRun_of_not_ready hready, hrun, hblocks, hgood, decide_true, Bool.and_self]
  rw [fecState, get_raise (by decide), get_set_same _ _ _ _ (by decide)]
  rfl

theorem ends_of_checkResult {c : Carrier} {s : State} (hrun : s.running (.fec c) = true)
    (hcheck : fecState s c = fecCheck) (hblocks : 64 ≤ (s.fec.get c).checkBlocks) (hgood : (s.fec.get c).checkUncorr ≤ 8) :
    Ends (.fecCheckResult c) s fun t => fecState t c = fecLock :=
  ends_of_followed (i := .fecCheckResult c) rfl fun _ hget _ _ =>
    (hget _ _ (fec_kept c)).trans (fecState_checkResult_of_good hrun hcheck hblocks hgood)

/-! ## Registers of FEC_x that a change of its state leaves -/

/-- The counters of blocks and of windows. -/
def counterWords : List Field :=
  [FEC.UNCORR_CNT.COUNT, FEC.BLK_LO.COUNT, FEC.BLK_HI.COUNT, FEC.WIN_UNCORR.COUNT, FEC.WIN_CNT.COUNT]

/-- From `s` to `t` the counters of blocks and of windows stay as they are. -/
abbrev KeepsCounters (c : Carrier) (s t : State) : Prop := Keeps (allBut (.fec c) counterWords) s t

section keeps

variable {c d : Carrier} {s0 s : State}

theorem KeepsCounters.setOff {p : Page} {f : Field} {v : Nat} (h : KeepsCounters c s0 s)
    (hf : (counterWords.any fun g => g.off % 0x1000 == f.off % 0x1000) = false) : KeepsCounters c s0 (s.set p f v) :=
  h.set (allBut_off hf)

theorem KeepsCounters.raiseIf {b : Bool} {p : Page} {e : Nat} (h : KeepsCounters c s0 s) :
    KeepsCounters c s0 (s.raiseIf b p e) := Keeps.ite (h.raise (allBut_off (by decide))) h

theorem keepsCounters_setSf (h : KeepsCounters c s0 s) : KeepsCounters c s0 (setSf s d) := by
  unfold setSf
  extract_lets record stepped was decoder cleared noted
  have hcleared : KeepsCounters c s0 cleared := h.of_regs rfl
  have hnoted : KeepsCounters c s0 noted := Keeps.ite hcleared (Keeps.ite (hcleared.of_regs rfl) hcleared)
  exact (hnoted.setOff (by decide)).raiseIf

theorem keepsCounters_setSd (h : KeepsCounters c s0 s) : KeepsCounters c s0 (setSd s d) := by
  unfold setSd
  extract_lets was decoder cleared
  have hcleared : KeepsCounters c s0 cleared := h.of_regs rfl
  exact (hcleared.setOff (by decide)).raiseIf

theorem keepsCounters_leaveFecLock (h : KeepsCounters c s0 s) : KeepsCounters c s0 (leaveFecLock s d) := by
  unfold leaveFecLock
  extract_lets decoder
  have hfailed : KeepsCounters c s0 (setSf (s.setFec d { decoder with window := .empty }) d) :=
    keepsCounters_setSf (h.of_regs rfl)
  exact keeps_withinOff hfailed (frameHunt_within (Within.refl _ _) (Nat.or_self _)) (by simp)

theorem keepsCounters_enterFecState {st : Nat} (h : KeepsCounters c s0 s) : KeepsCounters c s0 (enterFecState s d st) :=
  KeepsCounters.setOff (Keeps.ite (keepsCounters_leaveFecLock h) h) (by decide)

theorem keepsCounters_judgeWindow {ber uncorr : Nat} (h : KeepsCounters c s0 s) :
    KeepsCounters c s0 (judgeWindow s d ber uncorr) := by
  unfold judgeWindow
  extract_lets sdBad sfBad sdClear sdDecoder sdCounted judged sfClear sfDecoder sfCounted
  have hsdCounted : KeepsCounters c s0 sdCounted := h.of_regs rfl
  have hjudged : KeepsCounters c s0 judged :=
    Keeps.ite (keepsCounters_setSd h) (Keeps.ite (hsdCounted.setOff (by decide)) hsdCounted)
  have hsfCounted : KeepsCounters c s0 sfCounted := hjudged.of_regs rfl
  exact Keeps.ite (keepsCounters_setSf hjudged) (Keeps.ite (hsfCounted.setOff (by decide)) hsfCounted)

end keeps

/-! ## A decoded block (R205) -/

/-- From `s` to `t` the count of decoded blocks stays as it is. -/
abbrev KeepsBlocks (c : Carrier) (s t : State) : Prop := Keeps (allBut (.fec c) [FEC.BLK_LO.COUNT, FEC.BLK_HI.COUNT]) s t

section decoded

variable {c : Carrier} {s : State}

/-- A decoded block is counted once, correctable or not. -/
theorem blocks_countBlock (bad : Bool) (erased : Nat) (corrected : List Nat) :
    (countBlock c bad erased corrected s).pair (.fec c) FEC.BLK_LO.COUNT FEC.BLK_HI.COUNT =
      min (s.pair (.fec c) FEC.BLK_LO.COUNT FEC.BLK_HI.COUNT + 1)
        (2 ^ (FEC.BLK_LO.COUNT.width + FEC.BLK_HI.COUNT.width) - 1) := by
  unfold countBlock
  extract_lets f counted taken
  have hcounted := pair_addPair_same s (.fec c) 1 (lo := FEC.BLK_LO.COUNT) (hi := FEC.BLK_HI.COUNT) (by decide) (by decide)
    (by decide)
  have htaken : KeepsBlocks c counted taken :=
    (Keeps.refl _ counted).setPair (allBut_off (by decide)) (allBut_off (by decide))
  have hbad : KeepsBlocks c counted (taken.bump (.fec c) FEC.UNCORR_CNT.COUNT) := htaken.set (allBut_off (by decide))
  have hgood : KeepsBlocks c counted (taken.addPair (.fec c) FEC.CORR_LO.COUNT FEC.CORR_HI.COUNT (sumNat corrected)) :=
    htaken.setPair (allBut_off (by decide)) (allBut_off (by decide))
  have hkept : KeepsBlocks c counted
      (if bad then (taken.bump (.fec c) FEC.UNCORR_CNT.COUNT).raiseIf (!f.lastBad) (.fec c) FEC.EVT.UNCORR
        else taken.addPair (.fec c) FEC.CORR_LO.COUNT FEC.CORR_HI.COUNT (sumNat corrected)) :=
    Keeps.ite (Keeps.ite (hbad.raise (allBut_off (by decide))) hbad) hgood
  exact (pair_of_get (hkept.get (allBut_eq_false (by decide))) (hkept.get (allBut_eq_false (by decide)))).trans hcounted

theorem uncorr_addPair {lo hi : Field} {n : Nat} (hlo : lo.off % 0x1000 ≠ FEC.UNCORR_CNT.COUNT.off % 0x1000)
    (hhi : hi.off % 0x1000 ≠ FEC.UNCORR_CNT.COUNT.off % 0x1000) :
    (s.addPair (.fec c) lo hi n).get (.fec c) FEC.UNCORR_CNT.COUNT = s.get (.fec c) FEC.UNCORR_CNT.COUNT :=
  (get_set_apart hhi).trans (get_set_apart hlo)

theorem uncorr_countBlock (bad : Bool) (erased : Nat) (corrected : List Nat) :
    (bad = true → Counted (.fec c) FEC.UNCORR_CNT.COUNT s (countBlock c bad erased corrected s)) ∧
    (bad = false → (countBlock c bad erased corrected s).get (.fec c) FEC.UNCORR_CNT.COUNT =
      s.get (.fec c) FEC.UNCORR_CNT.COUNT) := by
  unfold countBlock
  extract_lets f counted taken
  have htaken : taken.get (.fec c) FEC.UNCORR_CNT.COUNT = s.get (.fec c) FEC.UNCORR_CNT.COUNT :=
    (uncorr_addPair (by decide) (by decide)).trans (uncorr_addPair (by decide) (by decide))
  refine ⟨fun hbad => ?_, fun hgood => ?_⟩
  · have hbump := get_bump_same taken (.fec c) FEC.UNCORR_CNT.COUNT (by decide)
    rw [if_pos hbad, Counted, State.raiseIf, ← htaken]
    split
    · exact (get_raise (by decide)).trans hbump
    · exact hbump
  · rw [if_neg (by simp [hgood])]
    exact (uncorr_addPair (by decide) (by decide)).trans htaken

/-- The block that the decoder makes of the LLRs at the head of its stream. -/
def nextDecoded (c : Carrier) (s : State) : DecodedBlock :=
  Config.ofecDecode (s.get (.fec c) FEC.CTL.ITER) (s.fec.get c).decoder ((s.fec.get c).llrs.take decoderWindow)

/-- A decoded block is counted; what it does to the state of the decoder leaves the counters. -/
theorem keepsCounters_decodeBlock (c : Carrier) (s : State) : ∃ erased corrected,
    KeepsCounters c (countBlock c (nextDecoded c s).uncorrectable erased corrected s) (decodeBlock c s) := by
  unfold decodeBlock
  extract_lets f llrs r bad erased corrected locked h counted stepped
  refine ⟨erased, corrected, ?_⟩
  have hstepped : KeepsCounters c counted stepped := Keeps.of_regs (Keeps.refl _ counted) rfl
  refine Keeps.ite ?_ hstepped
  exact ((keepsCounters_enterFecState hstepped).setOff (by decide)).raise (allBut_off (by decide))

/-- Where the LLRs of one block have arrived, the run to the next uncorrectable block decodes that block. -/
theorem uncorrectableBlock_of_one (hready : decodeReady s c = true) (hone : blocksArrived s c = 1) :
    uncorrectableBlock c s = decodeBlock c s := by
  rw [uncorrectableBlock, hone, decodeRun, if_pos hready]
  exact ite_self _

theorem blocksArrived_eq_one (hready : decodeReady s c = true) (hone : (s.fec.get c).llrs.length < 2 * codedBits) :
    blocksArrived s c = 1 := by
  simp only [decodeReady, Bool.and_eq_true, decide_eq_true_eq] at hready
  obtain ⟨⟨-, harrived⟩, -⟩ := hready
  exact Nat.div_eq_of_lt_le (by omega) (by omega)

end decoded

/-- The live fields of FEC_x do nothing beside their value. -/
theorem actsByValue_fec (c : Carrier) : ActsByValue (.fec c) := fun _ _ _ _ => rfl

theorem fec_pageBoundary (p : Page) (s : State) : (pageBoundary p s).fec = s.fec :=
  (pageBoundary_within (Within.refl 5070602400894477617450539221024 s) (Nat.or_self _)).fec (by decide)

theorem counter_pageBoundary {c : Carrier} {s : State} {f : Field} (h : liveWords (.fec c) (f.off % 0x1000) = false) :
    (pageBoundary (.fec c) s).get (.fec c) f = s.get (.fec c) f :=
  (keeps_pageBoundary (actsByValue_fec c) (Keeps.refl _ s)).get h

theorem ends_of_uncorrectableBlock {c : Carrier} {s : State} (hready : decodeReady (pageBoundary (.fec c) s) c = true)
    (hone : (s.fec.get c).llrs.length < 2 * codedBits) : Ends (.uncorrectableBlock c) s fun t =>
      ((nextDecoded c (pageBoundary (.fec c) s)).uncorrectable = true → Counted (.fec c) FEC.UNCORR_CNT.COUNT s t) ∧
      ((nextDecoded c (pageBoundary (.fec c) s)).uncorrectable = false →
        t.get (.fec c) FEC.UNCORR_CNT.COUNT = s.get (.fec c) FEC.UNCORR_CNT.COUNT) ∧
      t.pair (.fec c) FEC.BLK_LO.COUNT FEC.BLK_HI.COUNT =
        min (s.pair (.fec c) FEC.BLK_LO.COUNT FEC.BLK_HI.COUNT + 1)
          (2 ^ (FEC.BLK_LO.COUNT.width + FEC.BLK_HI.COUNT.width) - 1) := by
  have huncorr : (pageBoundary (.fec c) s).get (.fec c) FEC.UNCORR_CNT.COUNT = s.get (.fec c) FEC.UNCORR_CNT.COUNT :=
    counter_pageBoundary rfl
  have hblocks : (pageBoundary (.fec c) s).pair (.fec c) FEC.BLK_LO.COUNT FEC.BLK_HI.COUNT =
      s.pair (.fec c) FEC.BLK_LO.COUNT FEC.BLK_HI.COUNT := pair_of_get (counter_pageBoundary rfl) (counter_pageBoundary rfl)
  have hdecoded := uncorrectableBlock_of_one hready (blocksArrived_eq_one hready (by rwa [fec_pageBoundary]))
  obtain ⟨erased, corrected, hkept⟩ := keepsCounters_decodeBlock c (pageBoundary (.fec c) s)
  obtain ⟨hbad, hgood⟩ := uncorr_countBlock (c := c) (s := pageBoundary (.fec c) s)
    (nextDecoded c (pageBoundary (.fec c) s)).uncorrectable erased corrected
  refine ends_of_followed (i := .uncorrectableBlock c) (congrArg (fun u => endsIn s (fesFollowBoth u)) hdecoded)
    fun t hget _ _ => ?_
  have hcounter {f : Field} (hf : (counterWords.any fun g => g.off % 0x1000 == f.off % 0x1000) = true) :=
    (hget _ f (fec_kept c)).trans (hkept.get (allBut_eq_false hf))
  rw [Counted, hcounter (by decide), pair_of_get (hcounter (by decide)) (hcounter (by decide)), ← huncorr, ← hblocks]
  exact ⟨hbad, hgood, blocks_countBlock _ _ _⟩

/-! ## Statistics windows (R206 to R208) -/

theorem keeps_setArray {T : Page → Nat → Bool} {s0 s : State} {p : Page} {f : Field} {l : List Nat} (h : Keeps T s0 s)
    (hT : ∀ i ∈ List.range f.count, T p ((f.at i).off % 0x1000) = true) : Keeps T s0 (setArray s p f l) :=
  List.foldlRecOn _ _ h fun _ hu i hi => hu.set (hT i hi)

section window

variable {c : Carrier} {s : State}

/-- Of the counters a latched window shows in WIN_UNCORR alone. -/
theorem counters_latchWindow (w : FecWindow) :
    (latchWindow c w s).get (.fec c) FEC.WIN_UNCORR.COUNT = min w.uncorr 0xFFFFFFFF ∧
    (latchWindow c w s).get (.fec c) FEC.WIN_CNT.COUNT = s.get (.fec c) FEC.WIN_CNT.COUNT := by
  unfold latchWindow
  extract_lets ber latched shown
  have huncorr : latched.get (.fec c) FEC.WIN_UNCORR.COUNT = min w.uncorr 0xFFFFFFFF :=
    (get_set_same _ _ FEC.WIN_UNCORR.COUNT _ (by decide)).trans (Nat.mod_eq_of_lt (by simp [FEC.WIN_UNCORR.COUNT]))
  have hcount : latched.get (.fec c) FEC.WIN_CNT.COUNT = s.get (.fec c) FEC.WIN_CNT.COUNT :=
    (get_set_apart (by decide)).trans (get_set_apart (by decide))
  have hshown : KeepsCounters c latched shown := (Keeps.refl _ latched).set (allBut_off (by decide))
  have hmap : KeepsCounters c latched (setArray shown (.fec c) FEC.ERRMAP.COUNT w.map) :=
    keeps_setArray hshown fun i hi => allBut_off (by revert i; decide)
  have hhist : KeepsCounters c latched (setArray (setArray shown (.fec c) FEC.ERRMAP.COUNT w.map) (.fec c)
      FEC.ERRHIST.COUNT w.hist) := keeps_setArray hmap fun i hi => allBut_off (by revert i; decide)
  exact ⟨(hhist.get (allBut_eq_false (by decide))).trans huncorr, (hhist.get (allBut_eq_false (by decide))).trans hcount⟩

/-- The window in progress is latched and counted. -/
def windowShown (c : Carrier) (s : State) : State :=
  ((latchWindow c (s.fec.get c).window s).addWrap (.fec c) FEC.WIN_CNT.COUNT 1).raise (.fec c) FEC.EVT.WIN_DONE

theorem counters_windowShown (c : Carrier) (s : State) :
    (windowShown c s).get (.fec c) FEC.WIN_UNCORR.COUNT = min (s.fec.get c).window.uncorr 0xFFFFFFFF ∧
    (windowShown c s).get (.fec c) FEC.WIN_CNT.COUNT =
      (s.get (.fec c) FEC.WIN_CNT.COUNT + 1) % 2 ^ FEC.WIN_CNT.COUNT.width := by
  obtain ⟨huncorr, hcount⟩ := counters_latchWindow (c := c) (s := s) (s.fec.get c).window
  rw [windowShown, get_raise (by decide), get_raise (by decide), State.addWrap, get_set_same _ _ _ _ (by decide),
    get_set_apart (by decide), hcount]
  exact ⟨huncorr, rfl⟩

/-- SD and SF are judged, and the next window begins empty. -/
def windowJudged (c : Carrier) (w : FecWindow) (winLog2 : Nat) (s : State) : State :=
  let ber := s.get (.fec c) FEC.PRE_BER.BER
  let judged := noteDwell (judgeWindow s c ber w.uncorr) c ber w.uncorr winLog2
  judged.setFec c { judged.fec.get c with window := .empty, winLog2 := judged.get (.fec c) FEC.CTL.WIN_LOG2 }

theorem keepsCounters_windowJudged {w : FecWindow} {winLog2 : Nat} {s0 s : State} (h : KeepsCounters c s0 s) :
    KeepsCounters c s0 (windowJudged c w winLog2 s) := by
  unfold windowJudged
  extract_lets ber judged decoder
  have hjudged : KeepsCounters c s0 judged := (keepsCounters_judgeWindow h).of_regs rfl
  exact hjudged.of_regs rfl

theorem window_windowJudged (w : FecWindow) (winLog2 : Nat) (s : State) :
    ((windowJudged c w winLog2 s).fec.get c).window = .empty := congrArg (·.window) (fec_setFec_same _ c _)

theorem windowEnd_of_full (hrun : s.running (.fec c) = true) (hlock : fecLocked s c = true)
    (hfull : 2 ^ (s.fec.get c).winLog2 ≤ (s.fec.get c).window.blocks) :
    windowEnd c s = windowJudged c (s.fec.get c).window (s.fec.get c).winLog2 (windowShown c s) := by
  have hstate : fecState s c = fecLock := eq_of_beq hlock
  have hready : decodeReady s c = false := by
    simp [decodeReady, hstate, Nat.not_lt.mpr hfull, fecCheck, fecLock]
  simp only [windowEnd, hlock, if_true, decodeRun_of_not_ready hready, hrun, hfull, decide_true, Bool.and_self]
  rfl

theorem ends_of_windowEnd (hrun : s.running (.fec c) = true) (hlock : fecLocked s c = true)
    (hfull : 2 ^ (s.fec.get c).winLog2 ≤ (s.fec.get c).window.blocks) : Ends (.fecWindowEnd c) s fun t =>
      (t.fec.get c).window = .empty ∧
      t.get (.fec c) FEC.WIN_UNCORR.COUNT = min (s.fec.get c).window.uncorr 0xFFFFFFFF ∧
      t.get (.fec c) FEC.WIN_CNT.COUNT = (s.get (.fec c) FEC.WIN_CNT.COUNT + 1) % 2 ^ FEC.WIN_CNT.COUNT.width := by
  obtain ⟨huncorr, hcount⟩ := counters_windowShown c s
  have hkept := keepsCounters_windowJudged (c := c) (w := (s.fec.get c).window) (winLog2 := (s.fec.get c).winLog2)
    (Keeps.refl _ (windowShown c s))
  refine ends_of_followed (i := .fecWindowEnd c)
    (congrArg (fun u => endsIn s (fesFollowBoth u)) (windowEnd_of_full hrun hlock hfull)) fun t hget _ hfec => ?_
  rw [hfec, hget _ _ (fec_kept c), hget _ _ (fec_kept c)]
  exact ⟨window_windowJudged _ _ _, (hkept.get (allBut_eq_false (by decide))).trans huncorr,
    (hkept.get (allBut_eq_false (by decide))).trans hcount⟩

end window

/-! ## O21 -/

/-- Settles O21: a symbol block through MLS_x, marked or not, a reset of the trellis, the SNR shown or left, an observation that
passes or fails, a good check, a decoded block and the end of a window. -/
theorem decodingCommandsComplete : Obligations.DecodingCommandsComplete := by
  refine ⟨fun c s ⟨hrun, hblock⟩ hunmarked => ends_of_unmarkedBlock hrun hblock hunmarked,
    fun c s ⟨hrun, hblock⟩ hmarked => ends_of_markedBlock hrun hblock hmarked,
    fun c s ⟨hrun, hdue⟩ => ends_of_trellisReset hrun hdue, fun c block d s ⟨hrun, hsoft⟩ ⟨hb, hd⟩ hunmarked hdue => ?_,
    fun c s ⟨hrun, hsoft⟩ hmarked => ends_of_markedSoft hrun hsoft hmarked,
    fun c x s ⟨hrun, hhunt, harrived⟩ hx => ends_of_huntObservation hrun hhunt harrived hx,
    fun c s ⟨hrun, hcheck⟩ ⟨hblocks, hgood⟩ => ends_of_checkResult hrun hcheck hblocks hgood,
    fun c d s ⟨hready, hone⟩ hd => ?_, fun c s ⟨hrun, hlock, hfull⟩ => ends_of_windowEnd hrun hlock hfull⟩
  · subst hb
    subst hd
    obtain ⟨hfull, hsymbols⟩ := hdue
    obtain ⟨t, hexec, hx, hy, hvariance, hleft⟩ := ends_of_unmarkedSoft hrun hsoft hunmarked hfull hsymbols
    exact ⟨t, hexec, hx, hy, hvariance, hleft⟩
  · have hnext : d = nextDecoded c (pageBoundary (.fec c) s) := by rw [hd, nextDecoded, fec_pageBoundary]
    subst hnext
    exact ends_of_uncorrectableBlock hready hone

end Sys2Proof.Decoding
end

section
/-! SUPPORT. Messages between keyed devices: what their transport leaves alone (R253, R255), and a message whose turn has come. -/
namespace Sys2Proof.Keying

open Sys2Proof Sys2Proof.Machine Sys2Proof.Safety Sys2Proof.Architecture Sys2Proof.Control Sys2Proof.LineFraming
open Sys2Proof.LineTransmit

/-! ## A value for each carrier -/

theorem get_set_carrier {α : Type} (x : PerCarrier α) (c : Carrier) (v : α) : (x.set c v).get c = v := by
  cases c <;> rfl

theorem get_set_carrier_other {α : Type} (x : PerCarrier α) {c d : Carrier} (v : α) (h : d ≠ c) :
    (x.set c v).get d = x.get d := by
  cases c with
  | a => cases d with
    | a => exact absurd rfl h
    | b => rfl
  | b => cases d with
    | a => rfl
    | b => exact absurd rfl h

theorem session_putSession (s : State) (k : Carrier) (x : Session) : session (putSession s k x) k = x :=
  get_set_carrier _ _ _

theorem session_putSession_other {s : State} {j k : Carrier} (x : Session) (h : j ≠ k) :
    session (putSession s k x) j = session s j :=
  get_set_carrier_other _ _ h

/-- What a replaced session has in common with the one before it. -/
theorem session_putSession_eq {α : Type} (g : Session → α) {s : State} {k : Carrier} {x : Session}
    (h : g x = g (session s k)) (j : Carrier) : g (session (putSession s k x) j) = g (session s j) := by
  by_cases hj : j = k
  · rw [hj, session_putSession, h]
  · rw [session_putSession_other x hj]

/-! ## Transport -/

/-- The parts of the state that transport can change: QLT, Quolet, the report of a switch that RPS owes, and the queue. -/
def transportParts : Nat := 2417851639229267476217856 ||| 9007199254740992

/-- The registers that count messages sent and taken. -/
def transportWords (p : Page) (k : Nat) : Bool := p == .qlt && (k == QLT.MSG_TX.COUNT.off || k == QLT.MSG_RX.COUNT.off)

theorem transportWords_page {p : Page} {k : Nat} (h : p ≠ .qlt) : transportWords p k = false := by
  rw [transportWords, beq_eq_false_iff_ne.mpr h, Bool.false_and]

/-- Session `x` but for what transport keeps in it, which is as in `y`. -/
def transported (x y : Session) : Session :=
  { x with
    sendSeq := y.sendSeq
    recvSeq := y.recvSeq
    unacked := y.unacked
    ackDue := y.ackDue
    own := y.own
    kqAging := y.kqAging
    peerInb := y.peerInb }

/-- Quolet `x` but for the sessions and the words that wait, which are as in `y`. -/
def queued (x y : Quolet) : Quolet :=
  { x with
    sessions := y.sessions
    modulate := y.modulate
    outInband := y.outInband
    outPilot := y.outPilot
    inbAcked := y.inbAcked }

/-- From `s` to `t` messages have at most been sent, counted, acknowledged and accepted: what they mean has not acted. -/
structure Carried (s t : State) : Prop where
  words : Keeps transportWords s t
  within : Within transportParts s t
  sessions : ∀ j, session t j = transported (session s j) (session t j)
  qlt : t.qlt = queued s.qlt t.qlt
  rps : t.rps = { s.rps with doneDue := t.rps.doneDue }

namespace Carried

variable {s0 s t : State} {k : Carrier}

theorem refl (s : State) : Carried s s := ⟨Keeps.refl _ s, Within.refl _ s, fun _ => rfl, rfl, rfl⟩

theorem trans {u : State} (h : Carried s t) (g : Carried t u) : Carried s u where
  words := h.words.trans g.words
  within := h.within.trans g.within
  sessions j := (g.sessions j).trans (congrArg (transported · (session u j)) (h.sessions j) :)
  qlt := g.qlt.trans (congrArg (queued · u.qlt) h.qlt :)
  rps := g.rps.trans (congrArg (fun x : RouteProtect => { x with doneDue := u.rps.doneDue }) h.rps)

theorem ite {c : Prop} [Decidable c] {x y : State} (hx : Carried s0 x) (hy : Carried s0 y) :
    Carried s0 (if c then x else y) := by
  split <;> assumption

theorem foldl {α : Type} {f : State → α → State} (hf : ∀ u x, Carried s0 u → Carried s0 (f u x)) :
    ∀ (l : List α) {u : State}, Carried s0 u → Carried s0 (l.foldl f u)
  | [], _, h => h
  | x :: l, _, h => foldl hf l (hf _ x h)

theorem setQlt {x : Quolet} (h : Carried s0 s) (hx : x = queued s.qlt x)
    (hs : ∀ j, x.sessions.get j = transported (session s j) (x.sessions.get j)) : Carried s0 (s.setQlt x) :=
  h.trans ⟨(Keeps.refl _ s).of_regs rfl, State.setQlt_within (Within.refl _ s) (by decide), hs, hx, rfl⟩

/-- Words put in a queue, and a change of modulation or of what is acknowledged, leave the sessions. -/
theorem setQueues {x : Quolet} (h : Carried s0 s) (hx : x = queued s.qlt x) (hs : x.sessions = s.qlt.sessions) :
    Carried s0 (s.setQlt x) :=
  h.setQlt hx fun j => by rw [hs]; rfl

theorem putSession {x : Session} (h : Carried s0 s) (hx : x = transported (session s k) x) :
    Carried s0 (putSession s k x) :=
  h.setQlt rfl fun j => by
    by_cases hj : j = k
    · rw [hj, get_set_carrier]
      exact hx
    · rw [get_set_carrier_other _ _ hj]
      rfl

theorem count {f : Field} (h : Carried s0 s) (hf : transportWords .qlt (f.off % 0x1000) = true) :
    Carried s0 (s.bump .qlt f) :=
  h.trans ⟨(Keeps.refl _ s).set hf, State.bump_within (Within.refl _ s) (by rw [pageBit_qlt]; decide), fun _ => rfl, rfl, rfl⟩

theorem setPending (h : Carried s0 s) (l : List Instr) : Carried s0 { s with pending := l } :=
  h.trans ⟨(Keeps.refl _ s).of_regs rfl, (Within.refl _ s).upd_pending (by decide) _, fun _ => rfl, rfl, rfl⟩

theorem queueWords {ws : List (BitVec 64)} (h : Carried s0 s) : Carried s0 (queueWords s k ws) := by
  refine foldl (fun u x hu => ite hu ?_) _ h
  have hinband : Carried s0 (if u.running (.lfm x) then
      u.setQlt { u.qlt with outInband := u.qlt.outInband.set x (u.qlt.outInband.get x ++ ws) } else u) :=
    ite (hu.setQueues rfl rfl) hu
  exact ite (hinband.setQueues rfl rfl) hinband

theorem sendWith {type : Nat} {body : List Byte} {key : Option MacKey} (h : Carried s0 s) :
    Carried s0 (sendWith k type body key s) := by
  have hsent (x : Session) (hx : x = transported (session s k) x) :
      Carried s0 ((Machine.putSession s k x).bump .qlt QLT.MSG_TX.COUNT) := (h.putSession hx).count (by decide)
  unfold Machine.sendWith
  split
  · exact ite (hsent _ rfl).queueWords (hsent _ rfl)
  · exact ite (hsent _ rfl).queueWords (hsent _ rfl)

theorem send {type : Nat} {body : List Byte} (h : Carried s0 s) : Carried s0 (send k type body s) := h.sendWith

theorem refuse {type seqNo reason : Nat} (h : Carried s0 s) : Carried s0 (refuse k type seqNo reason s) := h.send

/-! ### Taking a message -/

theorem acknowledge {ack : Nat} (h : Carried s0 s) : Carried s0 (acknowledge k ack s) := by
  refine foldl (fun _ _ hu => hu.queueWords) _ (foldl (fun _ _ hu => ite ?_ hu) _ (h.putSession ?_))
  · exact hu.setQueues rfl rfl
  · rfl

theorem noteInband {m : Message} (h : Carried s0 s) : Carried s0 (noteInband k m s) := by
  refine foldl (fun _ _ hu => ?_) _ (h.putSession ?_)
  · exact hu.setQueues rfl rfl
  · rfl

theorem accepted {m : Message} (h : Carried s0 s) : Carried s0 (accepted k m s) :=
  ((h.putSession rfl).count (by decide)).acknowledge.noteInband

theorem switchReport (h : Carried s0 s) : Carried s0 (switchReport s) := by
  have hclear : Carried s0 (s.setRps { s.rps with doneDue := false }) :=
    h.trans ⟨(Keeps.refl _ s).of_regs rfl, State.setRps_within (Within.refl _ s) (by decide), fun _ => rfl, rfl, rfl⟩
  unfold Machine.switchReport
  split
  · split
    · exact ite hclear.send h
    · exact h
  · exact h

/-! ### What is read across it -/

theorem get {p : Page} {f : Field} (h : Carried s t) (hf : transportWords p (f.off % 0x1000) = false) : t.get p f = s.get p f :=
  h.words.get hf

theorem get_page {p : Page} (h : Carried s t) (hp : p ≠ .qlt) (f : Field) : t.get p f = s.get p f :=
  h.get (transportWords_page hp)

theorem state (h : Carried s t) (j : Carrier) : (session t j).state = (session s j).state :=
  (congrArg Session.state (h.sessions j) :)

theorem ahead (h : Carried s t) (j : Carrier) : (session t j).ahead = (session s j).ahead :=
  (congrArg Session.ahead (h.sessions j) :)

theorem ratchetDue (h : Carried s t) (j : Carrier) : (session t j).ratchetDue = (session s j).ratchetDue :=
  (congrArg Session.ratchetDue (h.sessions j) :)

theorem chains (h : Carried s t) (j : Carrier) : (session t j).chains = (session s j).chains :=
  (congrArg Session.chains (h.sessions j) :)

theorem kemSeed (h : Carried s t) (j : Carrier) : (session t j).kemSeed = (session s j).kemSeed :=
  (congrArg Session.kemSeed (h.sessions j) :)

theorem peerTargets (h : Carried s t) (j : Carrier) : (session t j).peerTargets = (session s j).peerTargets :=
  (congrArg Session.peerTargets (h.sessions j) :)

theorem owner (h : Carried s t) (x : Carrier) : ownerOf t x = ownerOf s x :=
  (congrArg (fun q : Quolet => q.owner.get x) h.qlt :)

theorem members (h : Carried s t) (j : Carrier) : members t j = members s j := by
  simp only [Machine.members, h.owner]

theorem stepOf (h : Carried s t) (x : Carrier) : stepOf t x = stepOf s x :=
  (congrArg (fun q : Quolet => q.steps.get x) h.qlt :)

theorem sleepPlan (h : Carried s t) : t.qlt.sleepPlan = s.qlt.sleepPlan := (congrArg Quolet.sleepPlan h.qlt :)

theorem sleepAsked (h : Carried s t) : t.qlt.sleepAsked = s.qlt.sleepAsked := (congrArg Quolet.sleepAsked h.qlt :)

theorem rateState (h : Carried s t) (x : Carrier) : rateState t x = rateState s x := by
  cases x <;> exact h.get (by decide)

theorem stepPending (h : Carried s t) (x : Carrier) : stepPending t x = stepPending s x := by
  simp only [Machine.stepPending, h.rateState]

theorem lockEnabled (h : Carried s t) : lockEnabled t = lockEnabled s := congrArg (· == 1) (h.get (by decide))

theorem lineMode (h : Carried s t) (x : Carrier) : lineMode t x = lineMode s x := h.get_page (by simp) _

theorem workingCarrier (h : Carried s t) : workingCarrier t = workingCarrier s := by
  simp only [Machine.workingCarrier, State.flag, h.get_page (p := .rps) (by decide)]
  rfl

theorem switchPending (h : Carried s t) (x : Carrier) : switchPending t x = switchPending s x := by
  simp only [Machine.switchPending, h.workingCarrier, h.get_page (p := .rps) (by decide)]

end Carried

/-! ## A message whose turn has come -/

variable {x k : Carrier} {type : Nat} {m : Message} {s : State}

/-- Nothing is held ahead of order, so nothing follows (R255). -/
theorem releaseAhead_of_none {n : Nat} (h : (session s k).ahead = []) : releaseAhead n k s = s := by
  cases n with
  | zero => rfl
  | succ n => simp only [releaseAhead, h, List.find?_nil]

/-- The message in turn is counted as received and its acknowledgement as owed (R255). -/
def turnTaken (k : Carrier) (s : State) : State :=
  putSession s k { session s k with recvSeq := (session s k).recvSeq + 1, ackDue := true }

theorem macGood_turnTaken : macGood (turnTaken k s) k type m = macGood s k type m := by
  simp only [macGood, handshakeConfirm, turnTaken, session_putSession]

/-- A message between keyed devices: of a TYPE from REKEY to REFUSE, which its session's state lets through (R256, R260). -/
structure Passes (k : Carrier) (type : Nat) (s : State) : Prop where
  low : tRekey ≤ type
  high : type ≤ tRefuse
  up : (session s k).state ≠ sessDown
  passes : (session s k).state = sessKeyed ∨ typeEarly type = true

theorem Passes.of_keyed (h : (session s k).state = sessKeyed) (low : tRekey ≤ type) (high : type ≤ tRefuse) :
    Passes k type s :=
  ⟨low, high, by rw [h]; decide, .inl h⟩

theorem typeSigned_of_passes (h : Passes k type s) : typeSigned type = false := by
  have hlow : 7 ≤ type := h.low
  have hsigned : ¬ type ≤ tKemResp := Nat.not_le.mpr (Nat.lt_of_lt_of_le (by decide) hlow)
  simp only [typeSigned, decide_eq_false hsigned, Bool.and_false]

/-- It is accepted and acts (R254, R255). -/
theorem receiveMessage_inTurn (h : InTurn x k type m s) (hp : Passes k type s) : receiveMessage x type m s =
    releaseAhead windowSize k (handle k x type m (accepted k m (turnTaken k s))) := by
  obtain ⟨hruns, howner, hhello, _, hseq, hmac, hlength⟩ := h
  have hlow : 7 ≤ type := hp.low
  have hnone : ¬ (session s k).awaitHello = true := by rw [hhello]; decide
  have hack : type ≠ tAck := fun he => by rw [he] at hlow; exact absurd hlow (by decide)
  have hnothello : type ≠ tHello := fun he => by rw [he] at hlow; exact absurd hlow (by decide)
  have hknown : typeKnown type = true := decide_eq_true hp.high
  have hearly : ((session (turnTaken k s) k).state ≠ sessKeyed && !typeEarly type) = false := by
    rw [turnTaken, session_putSession]
    rcases hp.passes with hkeyed | hearly
    · simp [hkeyed]
    · simp [hearly]
  have hdeliver : deliver k x type m (turnTaken k s) = (handle k x type m (accepted k m (turnTaken k s)), true) := by
    simp only [deliver, macGood_turnTaken, hmac, sigGood, typeSigned_of_passes hp, hknown, hlength, hearly, Bool.not_true,
      Bool.false_eq_true, if_false]
  simp only [receiveMessage, hruns, howner, hp.up, hack, hnothello, Bool.not_true, Bool.false_eq_true, if_false, decide_false,
    Bool.false_and]
  rw [if_neg hnone, if_neg hseq.not_lt, if_neg hseq.symm.not_lt]
  change (if (deliver k x type m (turnTaken k s)).2 = true then releaseAhead windowSize k (deliver k x type m (turnTaken k s)).1
    else putSession (deliver k x type m (turnTaken k s)).1 k _) = _
  rw [hdeliver]
  rfl

/-- A command that brings such a message ends in what the message does, but for transport. -/
theorem ends_of_inTurn {c : Instr} {P : State → Prop} (hc : exec c s = endsIn s (switchReport (receiveMessage x type m s)))
    (h : InTurn x k type m s) (hp : Passes k type s)
    (hahead : ∀ u, Carried s u → (session (handle k x type m u) k).ahead = (session u k).ahead)
    (hP : ∀ u t, Carried s u → Carried (handle k x type m u) t → P t) : Ends c s P := by
  have ⟨_, _, _, hnone, _⟩ := h
  have hu : Carried s (accepted k m (turnTaken k s)) := ((Carried.refl s).putSession rfl).accepted
  have hreceived := receiveMessage_inTurn h hp
  rw [releaseAhead_of_none ((hahead _ hu).trans ((hu.ahead k).trans hnone))] at hreceived
  rw [hreceived] at hc
  exact ends_of_endsIn hc (hP _ _ hu ((Carried.refl _).switchReport.setPending _))

end Sys2Proof.Keying
end

section
/-! SUPPORT. Keying: what an announcement of keys leaves, and the carriers it announces them on (R234 to R237, R262). -/
namespace Sys2Proof.Keying

open Sys2Proof Sys2Proof.Machine Sys2Proof.Safety Sys2Proof.Architecture Sys2Proof.Control Sys2Proof.LineFraming
open Sys2Proof.LineTransmit

/-! ## What an announcement leaves -/

/-- The registers that hold neither a receive slot nor the pending activation. -/
def offKeys (off : Nat) : Prop :=
  off % 0x1000 ≠ CRY.TX_STAT.PENDING.off ∧ ∀ i < 4, off % 0x1000 ≠ (CRY.RX_SLOT.STATE.at i).off % 0x1000

/-- From `s` to `t` keys have at most been derived and announced: the receive slots stand, no pending activation has ended, and a
session's messages ahead of order and its ratchet that is due are as they were. -/
structure Announced (s t : State) : Prop where
  rx : ∀ c, ∀ i < 4, rxSlotState t c i = rxSlotState s c i
  pending : ∀ c, activationPending s c = true → activationPending t c = true
  ahead : ∀ j, (session t j).ahead = (session s j).ahead
  due : ∀ j, (session t j).ratchetDue = (session s j).ratchetDue

theorem session_set (s : State) (p : Page) (f : Field) (v : Nat) (j : Carrier) : session (s.set p f v) j = session s j := rfl

/-- The receive slots' registers lie apart from TX_STAT. -/
theorem txStat_apart {i : Nat} (hi : i < 4) : CRY.TX_STAT.PENDING.off % 0x1000 ≠ (CRY.RX_SLOT.STATE.at i).off % 0x1000 := by
  simp only [CRY.TX_STAT.PENDING, CRY.RX_SLOT.STATE, Field.at]
  omega

namespace Announced

variable {s0 s t : State} {k x : Carrier}

theorem refl (s : State) : Announced s s := ⟨fun _ _ _ => rfl, fun _ h => h, fun _ => rfl, fun _ => rfl⟩

theorem trans {u : State} (h : Announced s t) (g : Announced t u) : Announced s u where
  rx c i hi := (g.rx c i hi).trans (h.rx c i hi)
  pending c hc := g.pending c (h.pending c hc)
  ahead j := (g.ahead j).trans (h.ahead j)
  due j := (g.due j).trans (h.due j)

theorem ite {c : Prop} [Decidable c] {x y : State} (hx : Announced s0 x) (hy : Announced s0 y) :
    Announced s0 (if c then x else y) := by
  split <;> assumption

theorem foldl {α : Type} {f : State → α → State} (hf : ∀ u x, Announced s0 u → Announced s0 (f u x)) :
    ∀ (l : List α) {u : State}, Announced s0 u → Announced s0 (l.foldl f u)
  | [], _, h => h
  | x :: l, _, h => foldl hf l (hf _ x h)

/-- An update outside the registers and Quolet. -/
theorem of_parts {u : State} (h : Announced s0 s) (hregs : u.regs = s.regs) (hqlt : u.qlt = s.qlt) : Announced s0 u :=
  h.trans ⟨fun _ _ _ => get_of_word (word_of_regs hregs _ _),
    fun _ hc => (flag_of_get (get_of_word (word_of_regs hregs _ _))).trans hc,
    fun j => by rw [session, hqlt, session], fun j => by rw [session, hqlt, session]⟩

theorem setCipher {y : CipherState} (h : Announced s0 s) : Announced s0 (s.setCipher x y) := h.of_parts rfl rfl

theorem drawn (h : Announced s0 s) : Announced s0 s.drawn := h.of_parts rfl rfl

theorem carried (h : Announced s0 s) (hc : Carried s t) : Announced s0 t :=
  h.trans ⟨fun _ _ _ => hc.get_page (by simp) _, fun _ hp => (flag_of_get (hc.get_page (by simp) _)).trans hp, hc.ahead,
    hc.ratchetDue⟩

theorem send {type : Nat} {body : List Byte} (h : Announced s0 s) : Announced s0 (send k type body s) :=
  h.carried (Carried.refl s).send

theorem putSession {y : Session} (h : Announced s0 s) (hahead : y.ahead = (session s k).ahead)
    (hdue : y.ratchetDue = (session s k).ratchetDue) : Announced s0 (putSession s k y) :=
  h.trans ⟨fun _ _ _ => rfl, fun _ hp => hp, session_putSession_eq Session.ahead hahead,
    session_putSession_eq Session.ratchetDue hdue⟩

theorem set {p : Page} {f : Field} {v : Nat} (h : Announced s0 s) (hf : offKeys f.off) : Announced s0 (s.set p f v) :=
  h.trans ⟨fun _ i hi => get_set_apart (hf.2 i hi), fun _ hp => (flag_set_apart hf.1).trans hp, fun _ => rfl, fun _ => rfl⟩

/-- A field of TX_STAT beside PENDING. -/
theorem setBeside {c : Carrier} {f : Field} {v : Nat} (h : Announced s0 s) (hoff : f.off = CRY.TX_STAT.PENDING.off)
    (hd : f.lo + f.width ≤ CRY.TX_STAT.PENDING.lo ∨ CRY.TX_STAT.PENDING.lo + CRY.TX_STAT.PENDING.width ≤ f.lo) :
    Announced s0 (s.set (.cry c) f v) :=
  h.trans ⟨fun _ i hi => get_set_apart (by rw [hoff]; exact txStat_apart hi),
    fun _ hp => (flag_set_beside hoff (by decide) hd).trans hp, fun j => by rw [session_set], fun j => by rw [session_set]⟩

theorem setPendingOne {c : Carrier} (h : Announced s0 s) : Announced s0 (s.set (.cry c) CRY.TX_STAT.PENDING 1) :=
  h.trans ⟨fun _ i hi => get_set_apart (by exact txStat_apart hi), fun d hp => by
    by_cases hd : c = d
    · rw [hd]
      exact flag_set_one _ _ _ (by decide) (by decide)
    · exact (flag_of_get (get_set_page _ _ _ _ _ _ fun he => hd (Page.cry.inj he))).trans hp,
    fun j => by rw [session_set], fun j => by rw [session_set]⟩

end Announced

/-- A transmit slot's register is none of those. -/
theorem offKeys_txSlot {j : Nat} (hj : j < 4) : offKeys (CRY.TX_SLOT.STATE.at j).off := by
  simp only [offKeys, CRY.TX_SLOT.STATE, CRY.TX_STAT.PENDING, CRY.RX_SLOT.STATE, Field.at]
  exact ⟨by omega, fun i hi => by omega⟩

/-- Nor is one of the announced CSF's. -/
theorem offKeys_activation : offKeys CRY.TX_ACT_LO.CSF.off ∧ offKeys CRY.TX_ACT_HI.CSF.off := by
  simp only [offKeys, CRY.TX_ACT_LO.CSF, CRY.TX_ACT_HI.CSF, CRY.TX_STAT.PENDING, CRY.RX_SLOT.STATE, Field.at]
  exact ⟨⟨by omega, fun i hi => by omega⟩, by omega, fun i hi => by omega⟩

theorem nextIndex_lt (s : State) (x : Carrier) : nextIndex s x < 4 := by
  unfold nextIndex
  split <;> omega

section announce

variable {k x : Carrier} {s0 s : State} {ch : Chain}

theorem announced_showTxSlot {j st ratchet epoch kcv : Nat} (h : Announced s0 s) (hj : j < 4) :
    Announced s0 (showTxSlot s x j st ratchet epoch kcv) := by
  unfold showTxSlot
  refine (((h.set ?_).set ?_).set ?_).set ?_ <;> exact offKeys_txSlot hj

theorem announced_noteDerived {d : Nat} (h : Announced s0 s) : Announced s0 (noteDerived k x d ch s) := by
  unfold noteDerived dropOldChains
  refine (h.putSession ?_ ?_).putSession ?_ ?_ <;> rfl

theorem announced_takeInterval (h : Announced s0 s) : Announced s0 (takeInterval k s) := by
  refine h.putSession ?_ ?_ <;> rfl

/-- The slot, its CSF and its index are shown, and the activation waits for its confirmation (R237 step 2). -/
def announcedSlot (x : Carrier) (j n : Nat) (s : State) : State :=
  (((putTxSlot s x j { txSlot s x j with announced := n }).setPair (.cry x) CRY.TX_ACT_LO.CSF CRY.TX_ACT_HI.CSF n).set (.cry x)
    CRY.TX_STAT.PENDING_IDX j).set (.cry x) CRY.TX_STAT.PENDING 1

theorem announced_announcedSlot {j n : Nat} (h : Announced s0 s) : Announced s0 (announcedSlot x j n s) := by
  obtain ⟨hlo, hhi⟩ := offKeys_activation
  have hslot : Announced s0 (putTxSlot s x j { txSlot s x j with announced := n }) := h.of_parts rfl rfl
  unfold announcedSlot State.setPair
  refine (((hslot.set ?_).set ?_).setBeside ?_ ?_).setPendingOne
  · exact hlo
  · exact hhi
  · rfl
  · decide

/-- The REKEY's number in sequence is kept, for a refusal of it. -/
def rekeyNoted (k x : Carrier) (s : State) : State :=
  s.setQlt { s.qlt with rekeySeq := s.qlt.rekeySeq.set x (some (session s k).sendSeq) }

theorem announced_rekeyNoted (h : Announced s0 s) : Announced s0 (rekeyNoted k x s) :=
  h.trans ⟨fun _ _ _ => rfl, fun _ hp => hp, fun _ => rfl, fun _ => rfl⟩

theorem sendRekey_carried {j n : Nat} : Carried (rekeyNoted k x (announcedSlot x j n s)) (sendRekey k x j n s) := by
  unfold sendRekey rekeyNoted announcedSlot
  exact (Carried.refl _).send

theorem announced_sendRekey {j n : Nat} (h : Announced s0 s) : Announced s0 (sendRekey k x j n s) :=
  (announced_rekeyNoted (announced_announcedSlot h)).carried sendRekey_carried

theorem activationPending_sendRekey {j n : Nat} : activationPending (sendRekey k x j n s) x = true := by
  have hslot : (announcedSlot x j n s).flag (.cry x) CRY.TX_STAT.PENDING = true := by
    unfold announcedSlot
    exact flag_set_one _ _ _ (by decide) (by decide)
  exact (flag_of_get (sendRekey_carried.get_page (by simp) _)).trans ((State.setQlt_flag ..).trans hslot)

theorem announced_startActivation {n : Nat} (h : Announced s0 s) : Announced s0 (startActivation k x ch n s) := by
  unfold startActivation loadTxSlot
  exact announced_sendRekey (announced_noteDerived (announced_showTxSlot h.setCipher (nextIndex_lt s x))).setCipher

theorem activationPending_startActivation {n : Nat} : activationPending (startActivation k x ch n s) x = true := by
  unfold startActivation
  exact activationPending_sendRekey

theorem announced_announceAll {xs : List Carrier} (h : Announced s0 s) : Announced s0 (announceAll k ch xs s) := by
  unfold announceAll
  split
  · split
    · exact h
    · exact .foldl (fun _ _ hu => announced_startActivation hu) _ h.drawn
  · exact .foldl (fun _ _ hu => announced_startActivation hu.drawn) _ h

/-- Every carrier that is announced on has an activation pending (R237 step 2). -/
theorem activationPending_announceAll {xs : List Carrier} (hx : x ∈ xs) :
    activationPending (announceAll k ch xs s) x = true := by
  have hkeeps (u : State) (y : Carrier) (n : Nat) (hu : activationPending u x = true) :
      activationPending (startActivation k y ch n u) x = true := (announced_startActivation (.refl u)).pending x hu
  unfold announceAll
  split
  · split
    · exact absurd hx List.not_mem_nil
    · exact foldl_establishes (P := fun u => activationPending u x = true) (fun u y hu => hkeeps u y _ hu)
        (fun _ => activationPending_startActivation) _ _ hx
  · exact foldl_establishes (P := fun u => activationPending u x = true) (fun u y hu => hkeeps u.drawn y _ hu)
      (fun _ => activationPending_startActivation) _ _ hx

theorem announced_answerTry (h : Announced s0 s) : Announced s0 (answerTry k x s) := by
  unfold answerTry
  split
  · exact h
  · dsimp only
    split
    · split
      · exact announced_announceAll h
      · exact h.setCipher
    · exact h

theorem announced_startExchange (h : Announced s0 s) : Announced s0 (startExchange k s) := by
  have hdrawn : Announced s0 s.randomDrawn := h.of_parts rfl rfl
  refine .ite (hdrawn.putSession ?_ ?_).send h <;> rfl

/-! ## Exchanges (R235) -/

theorem startExchange_of_free (hkeyed : (session s k).state = sessKeyed) (hrole : ownRole s = 0)
    (hnone : (session s k).kemSeed = none) (hsign : canSign s = true) : startExchange k s =
    send k tKemInit (e32 ((session s k).epoch + 1) ++ Config.kemPublic s.random)
      (putSession s.randomDrawn k { session s k with kemSeed := some (s.random, (session s k).epoch + 1) }) := by
  simp only [startExchange, hkeyed, hrole, hnone, hsign, decide_true, beq_self_eq_true, Option.isNone_none, Bool.and_self,
    if_true]

/-- An exchange that starts derives nothing yet. -/
theorem chains_startExchange : (session (startExchange k s) k).chains = (session s k).chains := by
  unfold startExchange
  dsimp only
  split
  · rw [(Carried.refl _).send.chains, session_putSession]
  · rfl

/-! ## Ratchets (R234, R262) -/

theorem ratchetTry_of_unfree (h : ratchetFree s k = false) : ratchetTry k s = s := by
  simp only [ratchetTry, h, Bool.and_false, Bool.false_eq_true, if_false]

/-- A ratchet that may start: the keys of the next chain are announced, and at ratchet 56 an exchange starts besides. -/
theorem ratchetTry_of_free (hdue : (session s k).ratchetDue = true) (hfree : ratchetFree s k = true)
    (hchain : nextChain s k = some ch) : ∃ u, (session u k).ratchetDue = false ∧ keyedCarriers u k = keyedCarriers s k ∧
      Announced (announceAll k ch (keyedCarriers u k) u) (ratchetTry k s) := by
  refine ⟨takeInterval k (putSession s k { session s k with ratchetDue := false }), ?_, rfl, ?_⟩
  · rw [takeInterval, session_putSession, session_putSession]
  · simp only [ratchetTry, hdue, hfree, hchain, Bool.and_self, if_true]
    exact .ite (announced_startExchange (.refl _)) (.refl _)

end announce

end Sys2Proof.Keying
end

section
/-! SUPPORT. Key slots and activations: what an expiry and an abandonment leave in their registers (R226 to R237). -/
namespace Sys2Proof.Keying

open Sys2Proof Sys2Proof.Machine Sys2Proof.Safety Sys2Proof.Architecture Sys2Proof.Control Sys2Proof.LineFraming
open Sys2Proof.LineTransmit

variable {c d k x : Carrier} {s0 s : State}

/-! ## Slots -/

/-- Setting a field of a register of an array leaves the fields beside it in that register. -/
theorem get_set_at_beside {p q : Page} {f g : Field} {i v : Nat} (hoff : f.off = g.off) (hstride : f.stride = g.stride)
    (hfit : g.lo + g.width ≤ 32) (hbits : f.lo + f.width ≤ g.lo ∨ g.lo + g.width ≤ f.lo) :
    (s.set p (f.at i) v).get q (g.at i) = s.get q (g.at i) :=
  get_set_beside (by simp only [Field.at, hoff, hstride]) hfit hbits

theorem get_set_at_same {p : Page} {f : Field} {i v : Nat} (hfit : f.lo + f.width ≤ 32) :
    (s.set p (f.at i) v).get p (f.at i) = v % 2 ^ f.width := get_set_same _ _ _ _ hfit

/-- The registers of the two arrays of slots lie apart from each other and from RX_STAT and the events. -/
theorem rxSlot_apart {i : Nat} (hi : i < 4) : CRY.RX_STAT.STATE.off % 0x1000 ≠ (CRY.RX_SLOT.STATE.at i).off % 0x1000 ∧
    HDR.EVT_RAW.EVT.off % 0x1000 ≠ (CRY.RX_SLOT.STATE.at i).off % 0x1000 := by
  simp only [CRY.RX_STAT.STATE, CRY.RX_SLOT.STATE, HDR.EVT_RAW.EVT, Field.at]
  omega

theorem rxSlotState_refreshRx {i : Nat} (hi : i < 4) : rxSlotState (refreshRx s c) d i = rxSlotState s d i := by
  obtain ⟨hstat, -⟩ := rxSlot_apart hi
  unfold refreshRx
  exact (get_set_apart (by exact hstat)).trans (get_set_apart (by exact hstat))

theorem rxSlotState_showRxSlot {i st ratchet epoch kcv : Nat} :
    rxSlotState (showRxSlot s c i st ratchet epoch kcv) c i = st % 4 := by
  unfold showRxSlot
  exact (get_set_at_beside (by rfl) (by rfl) (by decide) (by decide)).trans
    ((get_set_at_beside (by rfl) (by rfl) (by decide) (by decide)).trans
    ((get_set_at_beside (by rfl) (by rfl) (by decide) (by decide)).trans (get_set_at_same (by decide))))

theorem rxSlot_of_cipher {t : State} {i : Nat} (h : t.cipher = s.cipher) : rxSlot t c i = rxSlot s c i := by
  rw [rxSlot, h, rxSlot]

theorem rxSlot_putRxSlot {i : Nat} (hi : i < 4) (slot : KeySlot) : rxSlot (putRxSlot s c i slot) c i = slot := by
  simp only [rxSlot, putRxSlot, State.setCipher, get_set_carrier]
  simp [Vector.getD, Vector.setIfInBounds, hi]

theorem txSlot_putTxSlot {i : Nat} (hi : i < 4) (slot : KeySlot) : txSlot (putTxSlot s c i slot) c i = slot := by
  simp only [txSlot, putTxSlot, State.setCipher, get_set_carrier]
  simp [Vector.getD, Vector.setIfInBounds, hi]

/-- A register but `g`'s is set. -/
theorem keeps_setApart {p q : Page} {f g : Field} {v : Nat} (h : Keeps (allBut p [g]) s0 s)
    (hf : f.off % 0x1000 ≠ g.off % 0x1000) : Keeps (allBut p [g]) s0 (s.set q f v) :=
  h.set (allBut_off (by simp [Ne.symm hf]))

theorem get_of_keeps {p : Page} {g : Field} (h : Keeps (allBut p [g]) s0 s) : s.get p g = s0.get p g :=
  h.get (allBut_eq_false (by simp))

theorem keeps_raiseApart {p q : Page} {g : Field} {b : Nat} (h : Keeps (allBut p [g]) s0 s)
    (hevt : HDR.EVT_RAW.EVT.off ≠ g.off % 0x1000) : Keeps (allBut p [g]) s0 (s.raise q b) :=
  keeps_setApart (f := HDR.EVT_RAW.EVT) h hevt

theorem erase_retained {i : Nat} (hi : i < 4) : rxSlotState (eraseRxSlot s c i) c i = slotEmpty ∧
    rxSlot (eraseRxSlot s c i) c i = .empty :=
  ⟨(rxSlotState_refreshRx hi).trans rxSlotState_showRxSlot, (rxSlot_of_cipher (by rfl)).trans (rxSlot_putRxSlot hi .empty)⟩

/-- The retained slot is erased once its retention has run out (R237 step 6). -/
theorem expireRetained_of_over {i : Nat} (h : retainedSlot s c = some i) (hover : retentionOver s c i = true) :
    expireRetained s c = eraseRxSlot s c i := by
  simp only [expireRetained, h, hover, if_true]

/-- A slot's life ends only while it holds a key (R231). -/
theorem holdsKey {st : Nat} (h : st = slotLoaded ∨ st = slotActive) :
    (decide (st = slotLoaded) || decide (st = slotActive)) = true := by
  simpa using h

/-- A receive slot whose life is over is erased and shown as EXPIRED (R231). -/
theorem expireRx_of_loaded {i : Nat} (hi : i < 4) (h : rxSlotState s c i = slotLoaded ∨ rxSlotState s c i = slotActive) :
    rxSlotState (expireRx s c i) c i = slotExpired ∧ rxSlot (expireRx s c i) c i = .empty := by
  obtain ⟨-, hevt⟩ := rxSlot_apart hi
  simp only [expireRx, holdsKey h, if_true]
  refine ⟨(rxSlotState_refreshRx hi).trans ?_, (rxSlot_of_cipher (by rfl)).trans (rxSlot_putRxSlot hi .empty)⟩
  exact (get_raise (by exact hevt)).trans ((get_set_at_beside (by rfl) (by rfl) (by decide) (by decide)).trans
    (get_set_at_same (by decide)))

theorem txSlot_of_cipher {t : State} {i : Nat} (h : (t.cipher.get c).tx = (s.cipher.get c).tx) : txSlot t c i = txSlot s c i := by
  rw [txSlot, h, txSlot]

/-! ## The end of an activation (R237 step 4) -/

theorem activationPending_endActivation : activationPending (endActivation s c) c = false := by
  have hzero := flag_set_zero (s.setCipher c { s.cipher.get c with confirmed := false }) (.cry c) CRY.TX_STAT.PENDING (by decide)
  unfold endActivation activationPending
  exact (flag_set_beside (by rfl) (by decide) (by decide)).trans
    ((flag_set_beside (by rfl) (by decide) (by decide)).trans hzero)

theorem keeps_endActivation {p : Page} {g : Field} (h : Keeps (allBut p [g]) s0 s)
    (hg : CRY.TX_STAT.PENDING.off ≠ g.off % 0x1000) : Keeps (allBut p [g]) s0 (endActivation s c) := by
  unfold endActivation
  refine keeps_setApart (keeps_setApart (keeps_setApart (Keeps.of_regs (s := s) h rfl) ?_) ?_) ?_ <;> exact hg

theorem keeps_abandonOne {p : Page} {g : Field} (h : Keeps (allBut p [g]) s0 s)
    (hstat : CRY.TX_STAT.PENDING.off ≠ g.off % 0x1000) (hcount : CRY.ACT_CNT.ABORT.off ≠ g.off % 0x1000)
    (hevt : HDR.EVT_RAW.EVT.off ≠ g.off % 0x1000) : Keeps (allBut p [g]) s0 (abandonOne s c) := by
  have hcounted : Keeps (allBut p [g]) s0 ((endActivation s c).bump (.cry c) CRY.ACT_CNT.ABORT) :=
    keeps_setApart (keeps_endActivation h hstat) hcount
  exact .ite (keeps_raiseApart hcounted hevt) h

/-- The registers of page `p`. -/
def pageWords (p q : Page) (_ : Nat) : Bool := q == p

theorem keeps_setOwn {p : Page} {f : Field} {v : Nat} (h : Keeps (pageWords p) s0 s) : Keeps (pageWords p) s0 (s.set p f v) :=
  h.set (beq_self_eq_true p)

/-- An abandonment on one carrier leaves the other's page. -/
theorem get_abandonOne_other {f : Field} (h : d ≠ c) : (abandonOne s c).get (.cry d) f = s.get (.cry d) f := by
  have hpage : pageWords (.cry c) (.cry d) (f.off % 0x1000) = false := beq_eq_false_iff_ne.mpr fun he => h (Page.cry.inj he)
  have hended : Keeps (pageWords (.cry c)) s (endActivation s c) := by
    unfold endActivation
    exact keeps_setOwn (keeps_setOwn (keeps_setOwn ((Keeps.refl _ s).of_regs rfl)))
  have hcounted : Keeps (pageWords (.cry c)) s ((endActivation s c).bump (.cry c) CRY.ACT_CNT.ABORT) := keeps_setOwn hended
  have habandoned : Keeps (pageWords (.cry c)) s (abandonOne s c) := by
    unfold abandonOne
    exact .ite (hcounted.raise (beq_self_eq_true _)) (.refl _ s)
  exact habandoned.get hpage

theorem abandonOne_of_pending (h : activationPending s c = true) : activationPending (abandonOne s c) c = false ∧
    Counted (.cry c) CRY.ACT_CNT.ABORT s (abandonOne s c) := by
  have hcount : (endActivation s c).get (.cry c) CRY.ACT_CNT.ABORT = s.get (.cry c) CRY.ACT_CNT.ABORT :=
    get_of_keeps (keeps_endActivation (.refl _ s) (by decide))
  have hflag : s.flag (.cry c) CRY.TX_STAT.PENDING = true := h
  unfold abandonOne
  rw [if_pos hflag]
  refine ⟨?_, (get_raise (by decide)).trans ((get_bump_same _ _ _ (by decide)).trans (by rw [hcount]))⟩
  exact (flag_raise (by decide)).trans ((flag_set_apart (by decide)).trans activationPending_endActivation)

/-- An activation that is pending is abandoned and counted, with its partner's under carrier lock or without (R237, R238). -/
theorem abandonActivation_of_pending (h : activationPending s c = true) :
    activationPending (abandonActivation s c) c = false ∧ Counted (.cry c) CRY.ACT_CNT.ABORT s (abandonActivation s c) := by
  obtain ⟨hended, hcount⟩ := abandonOne_of_pending h
  have hother (f : Field) := get_abandonOne_other (s := abandonOne s c) (f := f) (other_ne c).symm
  simp only [abandonActivation]
  split
  · exact ⟨(flag_of_get (hother _)).trans hended, (hother _).trans hcount⟩
  · exact ⟨hended, hcount⟩

theorem keeps_abandonActivation {p : Page} {g : Field} (h : Keeps (allBut p [g]) s0 s)
    (hstat : CRY.TX_STAT.PENDING.off ≠ g.off % 0x1000) (hcount : CRY.ACT_CNT.ABORT.off ≠ g.off % 0x1000)
    (hevt : HDR.EVT_RAW.EVT.off ≠ g.off % 0x1000) : Keeps (allBut p [g]) s0 (abandonActivation s c) := by
  have hone := keeps_abandonOne (c := c) h hstat hcount hevt
  simp only [abandonActivation]
  exact .ite (keeps_abandonOne hone hstat hcount hevt) hone

theorem tx_abandonOne : ((abandonOne s d).cipher.get c).tx = (s.cipher.get c).tx := by
  unfold abandonOne
  split
  · change ((s.cipher.set d _).get c).tx = _
    by_cases h : c = d
    · rw [h, get_set_carrier]
    · rw [get_set_carrier_other _ _ h]
  · rfl

theorem tx_abandonActivation : ((abandonActivation s d).cipher.get c).tx = (s.cipher.get c).tx := by
  simp only [abandonActivation]
  split
  · exact tx_abandonOne.trans tx_abandonOne
  · exact tx_abandonOne

/-! ## The end of a transmit slot's life (R231) -/

/-- The register of a transmit slot lies apart from those that the end of its life touches besides. -/
theorem txSlot_apart {i : Nat} (hi : i < 4) : CRY.TX_STAT.PENDING.off ≠ (CRY.TX_SLOT.STATE.at i).off % 0x1000 ∧
    CRY.ACT_CNT.ABORT.off ≠ (CRY.TX_SLOT.STATE.at i).off % 0x1000 ∧
    HDR.EVT_RAW.EVT.off ≠ (CRY.TX_SLOT.STATE.at i).off % 0x1000 := by
  simp only [CRY.TX_STAT.PENDING, CRY.ACT_CNT.ABORT, CRY.TX_SLOT.STATE, HDR.EVT_RAW.EVT, Field.at]
  omega

theorem keeps_leaveEncrypting {g : Field} {cause : Nat} (h : Keeps (allBut (.cry c) [g]) s0 s)
    (hstat : CRY.TX_STAT.PENDING.off ≠ g.off % 0x1000) (hevt : HDR.EVT_RAW.EVT.off ≠ g.off % 0x1000) :
    Keeps (allBut (.cry c) [g]) s0 (leaveEncrypting s c cause) := by
  have hrest : Keeps (allBut (.cry c) [g]) s0 (blankRest s c) :=
    keeps_withinOff h (blankRest_within (Within.refl _ s) (Nat.or_self _)) (by rw [pageBit_cry]; decide)
  have hblanked : Keeps (allBut (.cry c) [g]) s0
      (((blankRest s c).set (.cry c) CRY.TX_STAT.STATE 1).set (.cry c) CRY.TX_STAT.BLANK_CAUSE cause) :=
    keeps_setApart (keeps_setApart hrest hstat) hstat
  unfold leaveEncrypting
  refine .ite (keeps_withinOff (keeps_raiseApart hblanked hevt)
    (secLog_within (Within.refl _ _) (Nat.or_self _)) (by rw [pageBit_cry]; decide)) h

theorem cipher_leaveEncrypting {cause : Nat} : (leaveEncrypting s c cause).cipher = s.cipher :=
  (leaveEncrypting_within (Within.refl _ s) (Nat.or_self _)).cipher (by decide)

/-- The slot is erased and shown as EXPIRED. -/
def erasedTx (c : Carrier) (i : Nat) (s : State) : State :=
  (((putTxSlot s c i .empty).set (.cry c) (CRY.TX_SLOT.STATE.at i) slotExpired).set (.cry c) (CRY.TX_SLOT.KCV.at i) 0).raise
    (.cry c) CRY.EVT.EXPIRED

/-- An activation of the erased slot is abandoned. -/
def abandonedTx (c : Carrier) (i : Nat) (s : State) : State :=
  if s.flag (.cry c) CRY.TX_STAT.PENDING && s.get (.cry c) CRY.TX_STAT.PENDING_IDX == i then abandonActivation s c else s

theorem expireTx_eq {i : Nat} (h : txSlotState s c i = slotLoaded ∨ txSlotState s c i = slotActive) : expireTx s c i =
    if txSlotState s c i = slotActive then leaveEncrypting (abandonedTx c i (erasedTx c i s)) c 2
    else abandonedTx c i (erasedTx c i s) := by
  simp only [expireTx, holdsKey h, if_true]
  rfl

theorem tx_abandonedTx {i : Nat} : ((abandonedTx c i s).cipher.get c).tx = (s.cipher.get c).tx := by
  unfold abandonedTx
  split
  · exact tx_abandonActivation
  · rfl

/-- A transmit slot whose life is over is erased and shown as EXPIRED; an activation of it is abandoned and, where it was active,
CRY_x leaves ENCRYPTING (R231). -/
theorem expireTx_of_loaded {i : Nat} (hi : i < 4) (h : txSlotState s c i = slotLoaded ∨ txSlotState s c i = slotActive) :
    txSlotState (expireTx s c i) c i = slotExpired ∧ txSlot (expireTx s c i) c i = .empty := by
  obtain ⟨hstat, hcount, hevt⟩ := txSlot_apart hi
  have hshown : txSlotState (erasedTx c i s) c i = slotExpired :=
    (get_raise (by exact hevt)).trans ((get_set_at_beside (by rfl) (by rfl) (by decide) (by decide)).trans
      (get_set_at_same (by decide)))
  have herased : txSlot (erasedTx c i s) c i = .empty := (txSlot_of_cipher (by rfl)).trans (txSlot_putTxSlot hi .empty)
  have hkept : Keeps (allBut (.cry c) [CRY.TX_SLOT.STATE.at i]) (erasedTx c i s) (abandonedTx c i (erasedTx c i s)) :=
    .ite (keeps_abandonActivation (.refl _ _) hstat hcount hevt) (.refl _ _)
  have hslot : txSlot (abandonedTx c i (erasedTx c i s)) c i = .empty := (txSlot_of_cipher tx_abandonedTx).trans herased
  rw [expireTx_eq h]
  split
  · refine ⟨(get_of_keeps (keeps_leaveEncrypting hkept hstat hevt)).trans hshown, (txSlot_of_cipher ?_).trans hslot⟩
    rw [cipher_leaveEncrypting]
  · exact ⟨(get_of_keeps hkept).trans hshown, hslot⟩

end Sys2Proof.Keying
end

section
/-! SUPPORT. The commands of keying, and O22. -/
namespace Sys2Proof.Keying

open Sys2Proof Sys2Proof.Machine Sys2Proof.Safety Sys2Proof.Architecture Sys2Proof.Control Sys2Proof.LineFraming
open Sys2Proof.LineTransmit

variable {c k x : Carrier} {s : State}

/-! ## An activation that takes effect (R237 step 5) -/

/-- The key that was active is erased and the pending one is active. -/
def slotActivated (x : Carrier) (s : State) : State :=
  let erased := if txSlotState s x (s.get (.cry x) CRY.TX_STAT.ACTIVE_IDX) = slotActive &&
    s.get (.cry x) CRY.TX_STAT.ACTIVE_IDX != s.get (.cry x) CRY.TX_STAT.PENDING_IDX then
      eraseTxSlot s x (s.get (.cry x) CRY.TX_STAT.ACTIVE_IDX) else s
  let shown := erased.set (.cry x) (CRY.TX_SLOT.STATE.at (s.get (.cry x) CRY.TX_STAT.PENDING_IDX)) slotActive
  shown.setCipher x { shown.cipher.get x with fresh := false, activatedAt := shown.elapsedNs }

/-- The activation is over, but not yet counted. -/
def activationOver (x : Carrier) (s : State) : State :=
  endActivation ((slotActivated x s).set (.cry x) CRY.TX_STAT.ACTIVE_IDX (s.get (.cry x) CRY.TX_STAT.PENDING_IDX)) x

theorem takeActivation_of_committed (hpending : activationPending s x = true)
    (hcommitted : s.flag (.cry x) CRY.TX_STAT.COMMITTED = true) (hidx : txLfIdx s x = 0)
    (hcsf : txCsf s x = activationCsf s x) : takeActivation s x =
      ((activationOver x s).bump (.cry x) CRY.ACT_CNT.DONE).raise (.cry x) CRY.EVT.ACTIVATED := by
  have hflag : s.flag (.cry x) CRY.TX_STAT.PENDING = true := hpending
  simp only [takeActivation, hflag, hcommitted, hidx, hcsf, beq_self_eq_true, Bool.and_self, if_true]
  rfl

theorem keeps_showTxSlot {g : Field} {s0 : State} {i st ratchet epoch kcv : Nat} (h : Keeps (allBut (.cry c) [g]) s0 s)
    (hg : (CRY.TX_SLOT.STATE.at i).off % 0x1000 ≠ g.off % 0x1000) :
    Keeps (allBut (.cry c) [g]) s0 (showTxSlot s c i st ratchet epoch kcv) := by
  unfold showTxSlot
  refine keeps_setApart (keeps_setApart (keeps_setApart (keeps_setApart h ?_) ?_) ?_) ?_ <;> exact hg

theorem index_lt {f : Field} (p : Page) (hf : f.width = 2) : s.get p f < 4 := by
  have hlt := get_lt s p f
  rw [hf] at hlt
  exact hlt

theorem keeps_slotActivated : Keeps (allBut (.cry x) [CRY.ACT_CNT.DONE]) s (slotActivated x s) := by
  have hslot (i : Nat) (hi : i < 4) : (CRY.TX_SLOT.STATE.at i).off % 0x1000 ≠ CRY.ACT_CNT.DONE.off % 0x1000 := by
    simp only [CRY.TX_SLOT.STATE, CRY.ACT_CNT.DONE, Field.at]
    omega
  have herased (i : Nat) (hi : i < 4) : Keeps (allBut (.cry x) [CRY.ACT_CNT.DONE]) s (eraseTxSlot s x i) :=
    keeps_showTxSlot ((Keeps.refl _ s).of_regs (by rfl)) (hslot i hi)
  have hactive : s.get (.cry x) CRY.TX_STAT.ACTIVE_IDX < 4 := index_lt _ rfl
  have hpending : s.get (.cry x) CRY.TX_STAT.PENDING_IDX < 4 := index_lt _ rfl
  unfold slotActivated
  refine Keeps.of_regs (keeps_setApart (.ite (herased _ hactive) (.refl _ s)) ?_) (State.setCipher_regs ..)
  exact hslot _ hpending

theorem activeIdx_activationOver :
    (activationOver x s).get (.cry x) CRY.TX_STAT.ACTIVE_IDX = s.get (.cry x) CRY.TX_STAT.PENDING_IDX := by
  have hset : ((slotActivated x s).set (.cry x) CRY.TX_STAT.ACTIVE_IDX (s.get (.cry x) CRY.TX_STAT.PENDING_IDX)).get (.cry x)
      CRY.TX_STAT.ACTIVE_IDX = s.get (.cry x) CRY.TX_STAT.PENDING_IDX := by
    have hlt : s.get (.cry x) CRY.TX_STAT.PENDING_IDX < 2 ^ CRY.TX_STAT.ACTIVE_IDX.width := get_lt s _ CRY.TX_STAT.PENDING_IDX
    rw [get_set_same _ _ _ _ (by decide), Nat.mod_eq_of_lt hlt]
  unfold activationOver endActivation
  exact (get_set_beside (by rfl) (by decide) (by decide)).trans ((get_set_beside (by rfl) (by decide) (by decide)).trans
    ((get_set_beside (by rfl) (by decide) (by decide)).trans ((State.setCipher_get ..).trans hset)))

theorem done_activationOver : (activationOver x s).get (.cry x) CRY.ACT_CNT.DONE = s.get (.cry x) CRY.ACT_CNT.DONE :=
  get_of_keeps (keeps_endActivation (keeps_setApart keeps_slotActivated (by decide)) (by decide))

/-- What the first LF of CSF N leaves of the activation. -/
theorem takeActivation_facts (hpending : activationPending s x = true)
    (hcommitted : s.flag (.cry x) CRY.TX_STAT.COMMITTED = true) (hidx : txLfIdx s x = 0)
    (hcsf : txCsf s x = activationCsf s x) :
    (takeActivation s x).get (.cry x) CRY.TX_STAT.ACTIVE_IDX = s.get (.cry x) CRY.TX_STAT.PENDING_IDX ∧
    activationPending (takeActivation s x) x = false ∧ Counted (.cry x) CRY.ACT_CNT.DONE s (takeActivation s x) := by
  have hended : activationPending (activationOver x s) x = false := activationPending_endActivation
  rw [takeActivation_of_committed hpending hcommitted hidx hcsf]
  refine ⟨?_, ?_, ?_⟩
  · exact (get_raise (by decide)).trans ((get_set_apart (by decide)).trans activeIdx_activationOver)
  · exact (flag_raise (by decide)).trans ((flag_set_apart (by decide)).trans hended)
  · exact (get_raise (by decide)).trans ((get_bump_same _ _ _ (by decide)).trans (by rw [done_activationOver]))

/-! ## A carrier without a keyed session -/

theorem ratchetTry_of_unkeyed (h : (session s k).state ≠ sessKeyed) : ratchetTry k s = s :=
  ratchetTry_of_unfree (by simp [ratchetFree, announceFree, h])

theorem answerTry_of_unkeyed (h : (session s k).state ≠ sessKeyed) : answerTry k x s = s := by
  unfold answerTry
  split
  · rfl
  · simp [announceFree, h]

theorem not_keyed_iff : keyed s x = false ↔ ∀ k, ownerOf s x = some k → (session s k).state ≠ sessKeyed := by
  cases howner : ownerOf s x with
  | none => simp [keyed, howner]
  | some k => simp [keyed, howner]

theorem ratchetRetry_of_unkeyed (h : keyed s x = false) : ratchetRetry x s = s := by
  unfold ratchetRetry
  split
  next k howner =>
    have hstate := not_keyed_iff.mp h k howner
    rw [ratchetTry_of_unkeyed hstate, answerTry_of_unkeyed hstate, answerTry_of_unkeyed hstate]
  next => rfl

/-- An activation on a carrier of no session takes effect, and no ratchet waits for it. -/
theorem activationEffect_of_unowned (h : ownerOf s x = none) : activationEffect x s = takeActivation s x := by
  have hqlt : (takeActivation s x).qlt = s.qlt := (takeActivation_within (Within.refl _ s) (Nat.or_self _)).qlt (by decide)
  have howner : ownerOf (takeActivation s x) x = none := by rw [ownerOf, hqlt, ← ownerOf, h]
  exact ratchetRetry_of_unkeyed (not_keyed_iff.mpr fun k hk => by rw [howner] at hk; cases hk)

theorem retryJoint_of_unkeyed (h : keyed s x = false) : retryJoint x s = s := by
  unfold retryJoint
  split
  next k howner => simp [not_keyed_iff.mp h k howner]
  next => rfl

theorem keyed_abandonActivation : keyed (abandonActivation s x) x = keyed s x := by
  have hqlt : (abandonActivation s x).qlt = s.qlt := (abandonActivation_within (Within.refl _ s) (Nat.or_self _)).qlt (by decide)
  simp only [keyed, ownerOf, session, hqlt]

theorem activationDeadline_of_unkeyed (hpending : activationPending s x = true)
    (hcommitted : s.flag (.cry x) CRY.TX_STAT.COMMITTED = false)
    (hlate : csfAtOrAfter (txCsf s x + 16) (activationCsf s x) = true) (hkeyed : keyed s x = false) :
    activationDeadline x s = abandonActivation s x := by
  have hkept : keyed (abandonActivation s x) x = false := keyed_abandonActivation.trans hkeyed
  simp only [activationDeadline, hpending, hcommitted, hlate, Bool.not_false, Bool.and_self, if_true]
  rw [retryJoint_of_unkeyed hkept, ratchetRetry_of_unkeyed hkept]

/-- A slot that holds a key whose life is over is erased and shown as EXPIRED (R231). -/
theorem expireSlot_of_over {receive : Bool} {i : Nat} (hi : i < 4)
    (htx : receive = false → txSlotState s c i = slotLoaded ∨ txSlotState s c i = slotActive)
    (hrx : receive = true → rxSlotState s c i = slotLoaded ∨ rxSlotState s c i = slotActive)
    (hover : slotOver s (if receive then rxSlot s c i else txSlot s c i) = true) :
    (receive = false → txSlotState (expireSlot s c receive i) c i = slotExpired ∧ txSlot (expireSlot s c receive i) c i = .empty) ∧
    (receive = true → rxSlotState (expireSlot s c receive i) c i = slotExpired ∧
      rxSlot (expireSlot s c receive i) c i = .empty) := by
  cases receive with
  | false =>
    have hexpired : expireSlot s c false i = expireTx s c i := if_pos hover
    rw [hexpired]
    exact ⟨fun _ => expireTx_of_loaded hi (htx rfl), fun h => absurd h (by decide)⟩
  | true =>
    have hexpired : expireSlot s c true i = expireRx s c i := if_pos hover
    rw [hexpired]
    exact ⟨fun h => absurd h (by decide), fun _ => expireRx_of_loaded hi (hrx rfl)⟩

/-! ## Ratchets and exchanges -/

/-- A ratchet that falls due while none may start waits (R234). -/
theorem intervalRatchet_of_unfree (howner : ownerOf s x = some k) (hkeyed : (session s k).state = sessKeyed) (hrole : ownRole s = 0)
    (hover : intervalOver s k = true) (hfree : ratchetFree s k = false) :
    intervalRatchet x s = putSession s k { session s k with ratchetDue := true } := by
  have hstate : (session (putSession s k { session s k with ratchetDue := true }) k).state = (session s k).state := by
    rw [session_putSession]
  have hstill : ratchetFree (putSession s k { session s k with ratchetDue := true }) k = false := by
    refine (?_ : ratchetFree _ k = ratchetFree s k).trans hfree
    simp only [ratchetFree, announceFree, hstate]
    rfl
  have hmay : (decide ((session s k).state = sessKeyed) && ownRole s == 0) = true := by simp [hkeyed, hrole]
  simp only [intervalRatchet, howner, hover, ratchetDue, if_true]
  exact (if_pos hmay).trans (ratchetTry_of_unfree hstill)

/-- A ratchet that may start is announced on every carrier of its session that is keyed (R234, R237). -/
theorem ratchetRetry_of_free {ch : Chain} (howner : ownerOf s x = some k) (hdue : (session s k).ratchetDue = true)
    (hfree : ratchetFree s k = true) (hchain : nextChain s k = some ch) :
    (session (ratchetRetry x s) k).ratchetDue = false ∧ ∀ y ∈ keyedCarriers s k, activationPending (ratchetRetry x s) y = true := by
  obtain ⟨u, hdone, hcarriers, hannounced⟩ := ratchetTry_of_free hdue hfree hchain
  have hrest : Announced (announceAll k ch (keyedCarriers u k) u) (ratchetRetry x s) := by
    simp only [ratchetRetry, howner]
    exact announced_answerTry (announced_answerTry hannounced)
  refine ⟨(hrest.due k).trans (((announced_announceAll (.refl u)).due k).trans hdone), fun y hy => hrest.pending y ?_⟩
  exact activationPending_announceAll (by rw [hcarriers]; exact hy)

theorem kemSeed_exchangeWhenDue (hkeyed : (session s k).state = sessKeyed) (hrole : ownRole s = 0) (hdue : exchangeDue s k = true)
    (hnone : (session s k).kemSeed = none) (hsign : canSign s = true) :
    (session (exchangeWhenDue k s) k).kemSeed = some (s.random, (session s k).epoch + 1) := by
  rw [exchangeWhenDue, if_pos hdue, startExchange_of_free hkeyed hrole hnone hsign, (Carried.refl _).send.kemSeed,
    session_putSession]

theorem chains_epochExhausted (hkeyed : (session s k).state = sessKeyed) (hover : epochOver s k = true) :
    (session (epochExhausted k s) k).chains = [] := by
  simp only [epochExhausted, hkeyed, hover, decide_true, Bool.and_self, if_true]
  rw [chains_startExchange, session_putSession]

theorem eraseOldKq_of_aged (haging : (session s k).kqAging = true) (hpassed : passed s (.oldKq k) (10 * secNs) = true) :
    eraseOldKq k s = putSession s k { session s k with keys := (session s k).keys.take 1, kqAging := false } := by
  simp only [eraseOldKq, haging, hpassed, Bool.and_self, if_true]

/-- A command that ends in `u`: what is stated of `u`, and not of the queue, holds of its next state. -/
theorem ends_of_result {c : Instr} {u : State} {P : State → Prop} (hc : exec c s = endsIn s u)
    (hpending : ∀ (t : State) (l : List Instr), P t → P { t with pending := l }) (h : P u) : Ends c s P :=
  ends_of_endsIn hc (hpending _ _ h)

/-- Settles O22: each command of keying, from the lemma on its operation. -/
theorem keyingCommandsComplete : Obligations.KeyingCommandsComplete := by
  refine ⟨?_, ?_, ?_, ?_, ?_, ?_, ?_, ?_, ?_⟩
  case refine_1 =>
    rintro x k s ⟨howner, hkeyed, hrole⟩ ⟨hover, hfree⟩
    refine ends_of_result (u := intervalRatchet x s) rfl (fun _ _ h => h) ?_
    rw [intervalRatchet_of_unfree howner hkeyed hrole hover hfree, session_putSession]
  case refine_2 =>
    rintro x k ch s ⟨howner, hdue⟩ ⟨hfree, hchain⟩
    exact ends_of_result (u := ratchetRetry x s) rfl (fun _ _ h => h) (ratchetRetry_of_free howner hdue hfree hchain)
  case refine_3 =>
    rintro x s ⟨hpending, hcommitted⟩ hlate hkeyed
    refine ends_of_result (u := activationDeadline x s) rfl (fun _ _ h => h) ?_
    rw [activationDeadline_of_unkeyed hpending hcommitted hlate hkeyed]
    exact abandonActivation_of_pending hpending
  case refine_4 =>
    rintro x s ⟨hpending, hcommitted⟩ ⟨hidx, hcsf, hnone⟩
    obtain ⟨hactive, hended, hcount⟩ := takeActivation_facts hpending hcommitted hidx hcsf
    refine ends_of_result (u := activationEffect x s) rfl (fun _ _ h => h) ?_
    rw [activationEffect_of_unowned hnone]
    exact ⟨fun _ => hactive, hended, hcount⟩
  case refine_5 =>
    rintro c i s ⟨hslot, hover⟩
    refine ends_of_result (u := expireRetained s c) rfl (fun _ _ h => h) ?_
    rw [expireRetained_of_over hslot hover]
    exact erase_retained i.isLt
  case refine_6 =>
    intro c receive i s htx hrx hover
    exact ends_of_result (u := expireSlot s c receive i.val) rfl (fun _ _ h => h) (expireSlot_of_over i.isLt htx hrx hover)
  case refine_7 =>
    rintro x k s ⟨howner, hkeyed, hrole⟩ ⟨hdue, hnone, hsign⟩
    refine ends_of_result (u := exchangeWhenDue k s) ?_ (fun _ _ h => h)
      (kemSeed_exchangeWhenDue hkeyed hrole hdue hnone hsign)
    change execEpochExchangeStart x s = _
    rw [execEpochExchangeStart, howner]
  case refine_8 =>
    rintro x k s ⟨howner, hkeyed, hover⟩
    refine ends_of_result (u := epochExhausted k s) ?_ (fun _ _ h => h) (chains_epochExhausted hkeyed hover)
    change execEpochExhausted x s = _
    rw [execEpochExhausted, howner]
  case refine_9 =>
    rintro k s ⟨haging, hpassed⟩
    refine ends_of_result (u := eraseOldKq k s) rfl (fun _ _ h => h) ?_
    rw [eraseOldKq_of_aged haging hpassed, session_putSession]
    exact ⟨rfl, rfl⟩

end Sys2Proof.Keying
end

section
/-! SUPPORT. What the messages of a keyed session do (R237, R256, R257, R263 to R267, R283), and O25. -/
namespace Sys2Proof.Keying

open Sys2Proof Sys2Proof.Machine Sys2Proof.Safety Sys2Proof.Architecture Sys2Proof.Control Sys2Proof.LineFraming
open Sys2Proof.LineTransmit

variable {c k x y z : Carrier} {ch : Chain} {m : Message} {s s0 t u : State}

/-! ## Folds and Quolet's memory -/

/-- What no step of a fold changes. -/
theorem foldl_fixes {α β : Type} {f : State → α → State} {g : State → β} (hf : ∀ u a, g (f u a) = g u) :
    ∀ (l : List α) (s : State), g (l.foldl f s) = g s
  | [], _ => rfl
  | a :: l, s => (foldl_fixes hf l (f s a)).trans (hf s a)

/-- An operation that leaves Quolet's memory leaves the sessions. -/
theorem session_within {K : Nat} (h : Within K s t) (hK : K.testBit 29 = false) (j : Carrier) : session t j = session s j := by
  rw [session, h.qlt hK, session]

theorem mem_members (h : ownerOf s x = some k) : x ∈ members s k := by
  simp only [members, List.mem_filter, h, beq_self_eq_true, and_true]
  cases x <;> decide

theorem members_nodup : (members s k).Nodup := List.Nodup.filter _ (by decide)

theorem beAt_one_lt (b : List Byte) (a : Nat) : beAt b a 1 < 2 ^ 8 := by
  unfold beAt slice
  cases b.drop a with
  | nil => decide
  | cons v l =>
    have hv : v.toNat < 2 ^ 8 := v.isLt
    simpa [ofBeBytes, ofLeBytes] using hv

/-! ## REKEY (R237 step 3) -/

theorem Carried.chainAt {e r : Nat} (h : Carried s u) : chainAt u k e r = chainAt s k e r := by
  have hepoch : (session u k).epoch = (session s k).epoch := (congrArg Session.epoch (h.sessions k) :)
  have hat : (session u k).epochAt = (session s k).epochAt := (congrArg Session.epochAt (h.sessions k) :)
  have helapsed : u.elapsedNs = s.elapsedNs := h.within.elapsedNs (by decide)
  unfold Machine.chainAt epochAged
  dsimp only
  rw [hepoch, h.chains, hat, helapsed]

theorem announced_answerRatchet (h : Announced s0 s) : Announced s0 (answerRatchet k x ch s) := by
  unfold answerRatchet
  split
  · exact announced_answerTry (.foldl (fun _ _ hu => hu.setCipher) _ h)
  · exact h

/-- What follows the load of a receive slot. -/
theorem announced_rekeyed {d j e r : Nat} :
    Announced s (answerRatchet k x ch (sendConfirm k x.idx d j e r (noteDerived k x d ch s))) :=
  announced_answerRatchet (announced_noteDerived (.refl s)).send

theorem rxSlotState_loadRxSlot {j r e kcv : Nat} {slot : KeySlot} (hj : j < 4) :
    rxSlotState (loadRxSlot s x j slot r e kcv) x j = slotLoaded := by
  unfold loadRxSlot
  exact (rxSlotState_refreshRx hj).trans rxSlotState_showRxSlot

/-- A REKEY whose key can be derived loads the slot it names (R237 step 3). -/
theorem rekeyArrives_of_free {seqNo d j e r n kcv : Nat}
    (hstep : stepPending s x = false) (hswitch : switchPending s x = false) (hsleep : s.qlt.sleepPlan = none)
    (hchain : chainAt s k e r = some ch) (hj : j < 4) (hslot : rxSlotState s x j = slotEmpty ∨ rxSlotState s x j = slotExpired)
    (hkcv : kcvOf (keyOf (keyStream ch.secret x d e r)) (saltOf (keyStream ch.secret x d e r)) = kcv) :
    rxSlotState (rekeyArrives k x seqNo d j e r n kcv s) x j = slotLoaded ∧
    (session (rekeyArrives k x seqNo d j e r n kcv s) k).ahead = (session s k).ahead := by
  have hbusy : (stepPending s x || switchPending s x || s.qlt.sleepPlan.isSome) = false := by simp [hstep, hswitch, hsleep]
  have hfree : (decide (rxSlotState s x j = slotEmpty) || decide (rxSlotState s x j = slotExpired)) = true := by simpa using hslot
  have hunloaded : rxSlotState s x j ≠ slotLoaded := by
    rcases hslot with h | h <;> rw [h] <;> decide
  have hahead (v : State) (slot : KeySlot) : session (loadRxSlot v x j slot r (e % 256) kcv) k = session v k :=
    session_within (loadRxSlot_within (Within.refl _ v) (Nat.or_self _)) (by decide) k
  simp only [rekeyArrives, hbusy, hunloaded, hchain, hkcv, hfree, decide_false, Bool.false_and, ne_eq, not_true_eq_false, if_true,
    Bool.false_eq_true, if_false]
  refine ⟨(announced_rekeyed.rx x j hj).trans (rxSlotState_loadRxSlot hj), (announced_rekeyed.ahead k).trans ?_⟩
  rw [hahead]
  split
  · exact (announced_takeInterval (.refl s)).ahead k
  · rfl

/-! ## Rate targets (R263) -/

theorem negotiated_lt {t1 m1 t2 m2 : Nat} (h : t1 < 16) : negotiated t1 m1 t2 m2 < 16 := by
  unfold negotiated
  dsimp only
  split
  · exact h
  · refine List.foldlRecOn (motive := fun n => n < 16) _ betterMode (Nat.zero_lt_succ 15 : 0 < 16) fun a ha b hb => ?_
    have hmode : b ∈ [0, 1, 2, 3, 4, 5] := List.mem_of_mem_filter hb
    unfold betterMode
    split
    · simp only [List.mem_cons, List.not_mem_nil, or_false] at hmode
      omega
    · exact ha

/-- The target of carrier `x` that both ends' offers give. -/
def jointTarget (k x : Carrier) (s : State) : Nat := negotiated (ownTarget s x) (ownMask s) (peerTarget s k x) (peerMask s k)

theorem jointTarget_lt : jointTarget k x s < 16 :=
  negotiated_lt (by cases x with
    | a => exact get_lt s .qlt QLT.TARGET.TARGET_A
    | b => exact get_lt s .qlt QLT.TARGET.TARGET_B)

theorem ownTarget_of_keeps (h : Keeps (allBut .qlt [QLT.TARGET.MODE_MASK]) s t) (x : Carrier) :
    ownTarget t x = ownTarget s x ∧ ownMask t = ownMask s := by
  refine ⟨?_, h.get (by decide)⟩
  cases x <;> exact h.get (by decide)

/-- The target shown for carrier `x` is set from the two ends' offers. -/
def showTarget (k : Carrier) (s : State) (x : Carrier) : State :=
  s.set .qlt (pick x QLT.NEG_TARGET.NEG_A QLT.NEG_TARGET.NEG_B) (jointTarget k x s)

theorem jointTarget_showTarget : jointTarget k x (showTarget k s y) = jointTarget k x s := by
  have hkept : Keeps (allBut .qlt [QLT.TARGET.MODE_MASK]) s (showTarget k s y) := by
    refine keeps_setApart (.refl _ s) ?_
    cases y <;> decide
  obtain ⟨htarget, hmask⟩ := ownTarget_of_keeps hkept x
  simp only [jointTarget, htarget, hmask]
  rfl

theorem negTarget_showTarget : negTarget (showTarget k s x) x = jointTarget k x s := by
  have hfit : (showTarget k s x).get .qlt (pick x QLT.NEG_TARGET.NEG_A QLT.NEG_TARGET.NEG_B) = jointTarget k x s % 16 := by
    cases x <;> exact get_set_same _ _ _ _ (by decide)
  exact hfit.trans (Nat.mod_eq_of_lt jointTarget_lt)

theorem negTarget_showTarget_other (h : y ≠ x) : negTarget (showTarget k s y) x = negTarget s x := by
  unfold negTarget showTarget
  cases x with
  | a => cases y with
    | a => exact absurd rfl h
    | b => exact get_set_beside (by rfl) (by decide) (by decide)
  | b => cases y with
    | a => exact get_set_beside (by rfl) (by decide) (by decide)
    | b => exact absurd rfl h

/-- RATE_ACCEPT shows the target that both offers give, on every path of the session (R263). -/
theorem negTarget_showTargets (hx : x ∈ members s k) : negTarget (showTargets k s) x = jointTarget k x s :=
  (congrArg Prod.fst (foldl_component (f := showTarget k) (g := fun v => (negTarget v x, jointTarget k x v))
    (h := fun p => (p.2, p.2)) (x := x) (fun v => by rw [negTarget_showTarget, jointTarget_showTarget]) (members s k) s
    (fun y _ hy v => by rw [negTarget_showTarget_other hy, jointTarget_showTarget]) members_nodup hx) :)

theorem session_showTargets (j : Carrier) : session (showTargets k s) j = session s j :=
  session_within (showTargets_within (Within.refl _ s) (Nat.or_self _)) (by decide) j

/-- RATE_OFFER keeps what the peer offers (R263). -/
theorem carried_offerArrives {ta tb mask : Nat} :
    Carried (showTargets k (putSession s k { session s k with peerTargets := (ta, tb, mask) })) (offerArrives k ta tb mask s) :=
  (Carried.refl _).send

theorem ahead_offerArrives {ta tb mask : Nat} (j : Carrier) :
    (session (offerArrives k ta tb mask s) j).ahead = (session s j).ahead := by
  rw [carried_offerArrives.ahead, session_showTargets]
  exact session_putSession_eq Session.ahead (by rfl) j

theorem peerTargets_offerArrives {ta tb mask : Nat} : (session (offerArrives k ta tb mask s) k).peerTargets = (ta, tb, mask) := by
  rw [carried_offerArrives.peerTargets, session_showTargets, session_putSession]

/-! ## Rate steps (R264) -/

theorem rateState_setRate {st : Nat} : rateState (setRate x st s) x = st % 16 := by
  cases x <;> exact get_set_same _ _ _ _ (by decide)

theorem rateState_setRate_other {st : Nat} (h : z ≠ y) : rateState (setRate z st s) y = rateState s y := by
  unfold rateState setRate
  cases y with
  | a => cases z with
    | a => exact absurd rfl h
    | b => exact get_set_beside (by rfl) (by decide) (by decide)
  | b => cases z with
    | a => exact get_set_beside (by rfl) (by decide) (by decide)
    | b => exact absurd rfl h

theorem rateState_setOff {f : Field} {v : Nat} (h : f.off % 0x1000 ≠ QLT.STAT.RSTATE_A.off) :
    rateState (s.set .qlt f v) y = rateState s y := by
  cases y <;> exact get_set_apart (by exact h)

theorem stepOf_putStep (r : StepRecord) : stepOf (putStep s x r) x = r := get_set_carrier _ _ _

theorem stepOf_putStep_other (r : StepRecord) (h : z ≠ y) : stepOf (putStep s z r) y = stepOf s y :=
  get_set_carrier_other _ _ (Ne.symm h)

theorem maskCarriers_nodup {mask : Nat} : (maskCarriers mask).Nodup := List.Nodup.filter _ (by decide)

/-- What a STEP down does on one path (R264). -/
def stepDownOne (fromMode toMode n : Nat) (s : State) (x : Carrier) : State :=
  if rateState s x = rsRestarting && (stepOf s x).kind == 1 && !(stepOf s x).restarted then
    putStep s x { stepOf s x with toMode := min toMode (stepOf s x).toMode }
  else (setRate x rsArmed (recordStep x fromMode toMode 1 n s)).bump .qlt QLT.STEP_CNT.FALLBACK

/-- The same on the path's rate state and record. -/
def steppedDown (fromMode toMode n : Nat) (p : Nat × StepRecord) : Nat × StepRecord :=
  if p.1 = rsRestarting && p.2.kind == 1 && !p.2.restarted then (p.1, { p.2 with toMode := min toMode p.2.toMode })
  else (rsArmed, { p.2 with fromMode := fromMode, toMode := toMode, kind := 1, n := n, accepted := false, restarted := false })

theorem stepDownOne_same {fromMode toMode n : Nat} : (rateState (stepDownOne fromMode toMode n s y) y,
    stepOf (stepDownOne fromMode toMode n s y) y) = steppedDown fromMode toMode n (rateState s y, stepOf s y) := by
  unfold stepDownOne steppedDown
  dsimp only
  split
  · exact Prod.ext rfl (stepOf_putStep _)
  · exact Prod.ext ((rateState_setOff (by decide)).trans rateState_setRate) (stepOf_putStep _)

theorem stepDownOne_other {fromMode toMode n : Nat} (h : z ≠ y) : (rateState (stepDownOne fromMode toMode n s z) y,
    stepOf (stepDownOne fromMode toMode n s z) y) = (rateState s y, stepOf s y) := by
  unfold stepDownOne
  split
  · exact Prod.ext rfl (stepOf_putStep_other _ h)
  · exact Prod.ext ((rateState_setOff (by decide)).trans (rateState_setRate_other h)) (stepOf_putStep_other _ h)

/-- A STEP down arms every path it names that does not restart yet (R264). -/
theorem stepDownArrives_of_named {mask fromMode toMode n : Nat} (hy : y ∈ maskCarriers mask)
    (hstate : rateState s y ≠ rsRestarting) : rateState (stepDownArrives mask fromMode toMode n s) y = rsArmed ∧
      (stepOf (stepDownArrives mask fromMode toMode n s) y).toMode = toMode := by
  have hfold : (rateState (stepDownArrives mask fromMode toMode n s) y, stepOf (stepDownArrives mask fromMode toMode n s) y) =
      steppedDown fromMode toMode n (rateState s y, stepOf s y) :=
    foldl_component (f := stepDownOne fromMode toMode n) (g := fun v => (rateState v y, stepOf v y)) (fun _ => stepDownOne_same)
      _ _ (fun _ _ hz _ => stepDownOne_other hz) maskCarriers_nodup hy
  simp only [steppedDown, hstate, decide_false, Bool.false_and, Bool.false_eq_true, if_false] at hfold
  obtain ⟨hrate, hrecord⟩ := Prod.mk.inj hfold
  exact ⟨hrate, by rw [hrecord]⟩

theorem session_stepDownArrives {mask fromMode toMode n : Nat} (j : Carrier) :
    session (stepDownArrives mask fromMode toMode n s) j = session s j := by
  refine foldl_fixes (g := (session · j)) (fun v z => ?_) _ s
  dsimp only
  split <;> rfl

/-! ### STEP_ACK -/

/-- An offered step on path `x` is accepted. -/
def stepAccepted (s : State) (x : Carrier) : State := putStep s x { stepOf s x with accepted := true }

theorem accepted_stepAccepted (h : (stepOf s y).accepted = true) : (stepOf (stepAccepted s z) y).accepted = true := by
  unfold stepAccepted
  by_cases hz : z = y
  · rw [hz, stepOf_putStep]
  · rw [stepOf_putStep_other _ hz, h]

/-- Committing one path leaves another that is committed. -/
theorem rateState_commit (h : rateState s y = rsCommitted) : rateState (setRate z rsCommitted s) y = rsCommitted := by
  by_cases hz : z = y
  · rw [hz, rateState_setRate]
    rfl
  · rw [rateState_setRate_other hz, h]

/-- The paths whose offered step a STEP_ACK names in time. -/
def ackedPaths (mask toMode n : Nat) (s : State) : List Carrier :=
  ((maskCarriers mask).filter fun x => rateState s x == rsOffered && (stepOf s x).n == n && (stepOf s x).toMode == toMode).filter
    fun x => !csfAtOrAfter (txCsf s x + 16) n

/-- Path `x` waits for no other acceptance of its own. -/
def stepReady (s : State) (x : Carrier) : Bool := rateState s x == rsOffered && (stepOf s x).accepted

/-- The paths that step with `x` are committed once all of them are ready in `s`. -/
def commitReady (s t : State) (x : Carrier) : State :=
  if (stepCarriers s x).all (stepReady s) then (stepCarriers s x).foldl (fun t y => setRate y rsCommitted t) t else t

theorem stepAckArrives_accepted {mask toMode n : Nat} : stepAckArrives mask toMode n 0 s =
    (ackedPaths mask toMode n s).foldl (commitReady ((ackedPaths mask toMode n s).foldl stepAccepted s))
      ((ackedPaths mask toMode n s).foldl stepAccepted s) := by
  unfold stepAckArrives
  exact if_pos rfl

theorem rateState_stepAccepted : rateState (stepAccepted s z) y = rateState s y := rfl

theorem jointStep_stepAccepted : jointStep (stepAccepted s z) = jointStep s := rfl

/-- STEP_ACK with RESULT 0 commits the offered step it names (R264). -/
theorem stepAckArrives_of_offered {mask toMode n : Nat} (hy : y ∈ maskCarriers mask) (hjoint : jointStep s = false)
    (hoffered : rateState s y = rsOffered) (hn : (stepOf s y).n = n) (hmode : (stepOf s y).toMode = toMode)
    (htime : csfAtOrAfter (txCsf s y + 16) n = false) : rateState (stepAckArrives mask toMode n 0 s) y = rsCommitted := by
  have hnamed : y ∈ ackedPaths mask toMode n s := by
    simp only [ackedPaths, List.mem_filter, hy, hoffered, hn, hmode, htime, beq_self_eq_true, Bool.and_self, Bool.not_false,
      and_self]
  rw [stepAckArrives_accepted]
  generalize ackedPaths mask toMode n s = l at hnamed ⊢
  have haccepted : (stepOf (l.foldl stepAccepted s) y).accepted = true :=
    foldl_establishes (P := fun v => (stepOf v y).accepted = true) (fun _ _ hv => accepted_stepAccepted hv)
      (fun v => by rw [stepAccepted, stepOf_putStep]) _ _ hnamed
  have hstill : rateState (l.foldl stepAccepted s) y = rsOffered :=
    (foldl_fixes (g := (rateState · y)) (fun _ _ => rateState_stepAccepted) l s).trans hoffered
  have hsingle : jointStep (l.foldl stepAccepted s) = false :=
    (foldl_fixes (g := jointStep) (fun _ _ => jointStep_stepAccepted) l s).trans hjoint
  have hcommit (v : State) (x : Carrier) : commitReady (l.foldl stepAccepted s) v x =
      if stepReady (l.foldl stepAccepted s) x then setRate x rsCommitted v else v := by
    simp [commitReady, stepCarriers, hsingle]
  refine foldl_establishes (P := fun v => rateState v y = rsCommitted) (fun v z hv => ?_) (fun v => ?_) _ _ hnamed
  · rw [hcommit]
    split
    · exact rateState_commit hv
    · exact hv
  · rw [hcommit, if_pos (by simp [stepReady, hstill, haccepted]), rateState_setRate]
    rfl

theorem session_setRate {st : Nat} (j : Carrier) : session (setRate x st s) j = session s j := by
  rw [setRate, session_set]

theorem session_stepAckArrives_accepted {mask toMode n : Nat} (j : Carrier) :
    session (stepAckArrives mask toMode n 0 s) j = session s j := by
  have haccepted (v : State) (z : Carrier) : session (stepAccepted v z) j = session v j := rfl
  have hcommits (r v : State) (z : Carrier) : session (commitReady r v z) j = session v j := by
    unfold commitReady
    split
    · exact foldl_fixes (g := (session · j)) (fun _ _ => session_setRate j) _ v
    · rfl
  rw [stepAckArrives_accepted]
  exact (foldl_fixes (g := (session · j)) (hcommits _) _ _).trans (foldl_fixes (g := (session · j)) haccepted _ s)

/-! ## ROUTE_SWITCH (R266, R283) -/

theorem Carried.switchRuns (h : Carried s u) : switchRuns u = switchRuns s := by
  simp only [Machine.switchRuns, State.running, State.run, h.get_page (p := .rps) (by decide)]

theorem Carried.switchState (h : Carried s u) : switchState u = switchState s := h.get_page (by simp) _

/-- A request for a switch that none hinders is accepted and committed (R283). -/
theorem switchAsked_of_free {seqNo route cause asked : Nat} (hruns : switchRuns s = true) (hidle : switchState s = swIdle)
    (hstep : stepPending s (workingCarrier s) = false) : ∃ u, Machine.switchState u = swCommitted ∧ u.rps.route = route ∧
      (∀ j, session u j = session s j) ∧ Carried u (switchAsked k seqNo route cause asked s) := by
  have hbusy : (!switchRuns s || stepPending s (workingCarrier s) ||
      !(switchState s == swIdle || (switchState s == swRequested && ownRole s == 1))) = false := by
    simp [hruns, hstep, hidle]
  refine ⟨setSwitch swCommitted (s.drawn.setRps { s.drawn.rps with
    route := route, cause := cause, n := acceptedCsf s (workingCarrier s) asked }), ?_, rfl, fun j => rfl, ?_⟩
  · exact get_set_same _ _ _ _ (by decide)
  · unfold switchAsked
    dsimp only
    rw [hbusy]
    exact (Carried.refl _).send

/-! ## Sleep (R267) -/

theorem Carried.sleepObjection (h : Carried s u) : sleepObjection u k = sleepObjection s k := by
  have hpending (x : Carrier) : activationPending u x = activationPending s x := flag_of_get (h.get_page (by simp) _)
  simp only [Machine.sleepObjection, h.members, h.stepPending, h.rateState, hpending, h.switchPending]

theorem sleepAsk_of_free {state delay : Nat} (hkeyed : (session s k).state = sessKeyed) (hasked : s.qlt.sleepAsked = none)
    (hplan : s.qlt.sleepPlan = none) (hobject : sleepObjection s k = false) :
    (sleepAsk k state delay s).qlt.sleepAsked = some ⟨state, delay, lineMode s .a, lineMode s .b⟩ := by
  simp only [sleepAsk, hkeyed, hasked, hplan, hobject, decide_true, Option.isNone_none, Bool.and_self, Bool.not_false, if_true]
  exact (Carried.refl _).send.sleepAsked

/-- A request for sleep that nothing hinders is planned and accepted (R267). -/
theorem sleepArrives_of_free {seqNo : Nat} {p : SleepPlan} (hobject : sleepObjection s k = false)
    (hasked : s.qlt.sleepAsked = none) : Carried (s.setQlt { s.qlt with
      sleepPlan := some { p with modeA := lineMode s .a, modeB := lineMode s .b }, sleepAsked := none })
      (sleepArrives k seqNo 0 p s) := by
  simp only [sleepArrives, hobject, hasked, Option.isSome_none, Bool.false_and, Bool.or_self, Bool.false_eq_true, if_true, if_false]
  exact (Carried.refl _).send

/-! ## A message sent is counted -/

theorem counted_sendWith {type : Nat} {body : List Byte} {key : Option MacKey} :
    Counted .qlt QLT.MSG_TX.COUNT s (sendWith k type body key s) := by
  have hqueued (v : State) (ws : List (BitVec 64)) :
      (queueWords v k ws).get .qlt QLT.MSG_TX.COUNT = v.get .qlt QLT.MSG_TX.COUNT :=
    get_of_word ((queueWords_within (Within.refl _ v) (Nat.or_self _)).page _ _ (by decide))
  have hcounted (r : Session) : ((putSession s k r).bump .qlt QLT.MSG_TX.COUNT).get .qlt QLT.MSG_TX.COUNT =
      min (s.get .qlt QLT.MSG_TX.COUNT + 1) (2 ^ QLT.MSG_TX.COUNT.width - 1) := get_bump_same (putSession s k r) _ _ (by decide)
  have hsent {p : Prop} [Decidable p] (r : Session) (ws : List (BitVec 64)) : Counted .qlt QLT.MSG_TX.COUNT s
      (if p then queueWords ((putSession s k r).bump .qlt QLT.MSG_TX.COUNT) k ws
        else (putSession s k r).bump .qlt QLT.MSG_TX.COUNT) := by
    split
    · exact (hqueued _ _).trans (hcounted r)
    · exact hcounted r
  unfold sendWith
  split
  · exact hsent _ _
  · exact hsent _ _

theorem counted_send {type : Nat} {body : List Byte} : Counted .qlt QLT.MSG_TX.COUNT s (send k type body s) := counted_sendWith

/-- A plan or a request for sleep is given up, and the peer is told (R267). -/
theorem sleepCancel_of_asleep (hkeyed : (session s k).state = sessKeyed)
    (h : s.qlt.sleepPlan.isSome = true ∨ s.qlt.sleepAsked.isSome = true) : (sleepCancel k s).qlt.sleepPlan = none ∧
      (sleepCancel k s).qlt.sleepAsked = none ∧ Counted .qlt QLT.MSG_TX.COUNT s (sleepCancel k s) := by
  have hone : (s.qlt.sleepPlan.isSome || s.qlt.sleepAsked.isSome) = true := Bool.or_eq_true_iff.mpr h
  simp only [sleepCancel, hkeyed, hone, decide_true, Bool.and_self, if_true]
  refine ⟨(Carried.refl _).send.sleepPlan, (Carried.refl _).send.sleepAsked, counted_send.trans ?_⟩
  rw [State.setQlt_get]

theorem counted_telemetrySend {channels : List (Fin 64)} (hkeyed : (session s k).state = sessKeyed) :
    Counted .qlt QLT.MSG_TX.COUNT s (telemetrySend k channels s) := by
  unfold telemetrySend
  rw [if_pos hkeyed]
  exact counted_send

/-! ## TIME (R265) -/

/-- TIME keeps the reference, and touches registers besides (R265). -/
theorem qlt_timeArrives {n refCsf refTx echoCsf echoRx : Nat} : (timeArrives n refCsf refTx echoCsf echoRx s).qlt =
    { s.qlt with peerRef := s.qlt.peerRef.set (if n = 0 then .a else .b) (some refCsf) } := by
  unfold timeArrives
  dsimp only
  generalize (if n = 0 then Carrier.a else Carrier.b) = c
  split
  · rfl
  · split <;> rfl

/-! ## REFUSE (R257) -/

/-- From `s` to `t` the register REFUSE stands, and no session holds other messages ahead of order. -/
structure Settled (s t : State) : Prop where
  words : Keeps (allBut .qlt [QLT.REFUSE.COUNT]) s t
  ahead : ∀ j, (session t j).ahead = (session s j).ahead

namespace Settled

theorem refl (s : State) : Settled s s := ⟨Keeps.refl _ s, fun _ => rfl⟩

theorem trans (h : Settled s t) (g : Settled t u) : Settled s u :=
  ⟨h.words.trans g.words, fun j => (g.ahead j).trans (h.ahead j)⟩

theorem ite {p : Prop} [Decidable p] (hs : Settled s0 s) (ht : Settled s0 t) : Settled s0 (if p then s else t) := by
  split <;> assumption

theorem foldl {α : Type} {f : State → α → State} (hf : ∀ v a, Settled s0 v → Settled s0 (f v a)) :
    ∀ (l : List α) {v : State}, Settled s0 v → Settled s0 (l.foldl f v)
  | [], _, h => h
  | a :: l, _, h => foldl hf l (hf _ a h)

theorem set {p : Page} {f : Field} {v : Nat} (h : Settled s0 s) (hf : f.off % 0x1000 ≠ QLT.REFUSE.COUNT.off) :
    Settled s0 (s.set p f v) :=
  h.trans ⟨keeps_setApart (.refl _ s) hf, fun _ => rfl⟩

theorem raise {p : Page} {b : Nat} (h : Settled s0 s) : Settled s0 (s.raise p b) :=
  h.trans ⟨keeps_raiseApart (.refl _ s) (by decide), fun _ => rfl⟩

theorem raiseIf {c : Bool} {p : Page} {b : Nat} (h : Settled s0 s) : Settled s0 (s.raiseIf c p b) := .ite h.raise h

theorem within {K : Nat} (h : Settled s0 s) (hw : Within K s t) (hp : pageBit .qlt &&& K = 0) (hK : K.testBit 29 = false) :
    Settled s0 t :=
  h.trans ⟨keeps_withinOff (.refl _ s) hw hp, fun j => by rw [session_within hw hK]⟩

theorem putSession {r : Session} (h : Settled s0 s) (hr : r.ahead = (session s k).ahead) : Settled s0 (putSession s k r) :=
  h.trans ⟨(Keeps.refl _ s).of_regs rfl, session_putSession_eq Session.ahead hr⟩

theorem showSessions (h : Settled s0 s) : Settled s0 (showSessions s) := by
  unfold Machine.showSessions State.setFlag
  refine ((((h.set ?_).set ?_).set ?_).set ?_).set ?_ <;> decide

theorem sessionFailed {cause : Nat} (h : Settled s0 s) : Settled s0 (sessionFailed k cause s) := by
  unfold Machine.sessionFailed
  refine (within (raise (set (putSession h ?_) ?_)) (secLog_within (Within.refl _ _) (Nat.or_self _)) ?_ ?_).showSessions
  · rfl
  · decide
  · decide
  · decide

theorem activationRefused (h : Settled s0 s) : Settled s0 (activationRefused x s) :=
  h.within (activationRefused_within (Within.refl _ s) (Nat.or_self _)) (by decide) (by decide)

theorem stepLapse (h : Settled s0 s) : Settled s0 (stepLapse x s) := by
  unfold Machine.stepLapse setRate
  refine (h.set ?_).raise
  cases x <;> decide

end Settled

/-- The message that a peer refused is counted and shown. -/
def refusalShown (refType reason : Nat) (s : State) : State :=
  ((s.bump .qlt QLT.REFUSE.COUNT).set .qlt QLT.REFUSE.LAST_TYPE refType).set .qlt QLT.REFUSE.LAST_REASON reason

/-- What a refusal brings besides leaves what it shows (R257). -/
theorem settled_refuseArrives {refType refSeq reason : Nat} :
    Settled (refusalShown refType reason s) (refuseArrives k refType refSeq reason s) := by
  unfold refuseArrives
  extract_lets v st
  have h : Settled (refusalShown refType reason s) v := .refl _
  clear_value v st
  refine .ite (.sessionFailed h.raiseIf) (.ite (.ite ?_ (.ite ?_ (.ite ?_ (.ite ?_ (.ite ?_ h))))) h)
  · exact .foldl (fun _ _ hv => .ite hv.activationRefused hv) _ h
  · exact .foldl (fun _ _ hv => .ite hv.stepLapse hv) _ h
  · exact .ite (h.set (by decide)) h
  · exact h.trans ⟨(Keeps.refl _ _).of_regs (by rfl), fun _ => rfl⟩
  · exact h.putSession (by rfl)

theorem refusalShown_facts {refType reason : Nat} (htype : refType < 2 ^ 8) (hreason : reason < 2 ^ 8) :
    Counted .qlt QLT.REFUSE.COUNT s (refusalShown refType reason s) ∧
    (refusalShown refType reason s).get .qlt QLT.REFUSE.LAST_TYPE = refType ∧
    (refusalShown refType reason s).get .qlt QLT.REFUSE.LAST_REASON = reason := by
  unfold refusalShown
  refine ⟨?_, ?_, ?_⟩
  · exact (get_set_beside (by rfl) (by decide) (by decide)).trans ((get_set_beside (by rfl) (by decide) (by decide)).trans
      (get_bump_same _ _ _ (by decide)))
  · exact (get_set_beside (by rfl) (by decide) (by decide)).trans ((get_set_same _ _ _ _ (by decide)).trans
      (Nat.mod_eq_of_lt htype))
  · exact (get_set_same _ _ _ _ (by decide)).trans (Nat.mod_eq_of_lt hreason)

/-! ## The commands -/

theorem Carried.jointTarget (h : Carried s u) : jointTarget k x u = jointTarget k x s := by
  have htarget : ownTarget u x = ownTarget s x := by
    cases x <;> exact h.get (by decide)
  have hmask : ownMask u = ownMask s := h.get (by decide)
  simp only [Keying.jointTarget, htarget, hmask, peerTarget, peerMask, h.peerTargets]

theorem Carried.negTarget (h : Carried s u) : negTarget u x = negTarget s x := by
  cases x <;> exact h.get (by decide)

theorem Carried.jointStep (h : Carried s u) : jointStep u = jointStep s := by
  simp only [Machine.jointStep, onePlusOne, h.lockEnabled, h.get_page (p := .rps) (by decide)]

theorem Carried.txCsf (h : Carried s u) : txCsf u x = txCsf s x := by
  simp only [Machine.txCsf, State.pair, h.get_page (p := .lfm x) (by simp)]

/-- Settles O25: each message between keyed devices acts once its turn has come, from the lemma on its operation. -/
theorem keyedMessagesComplete : Obligations.KeyedMessagesComplete := by
  refine ⟨?rekey, ?rateOffer, ?rateAccept, ?step, ?stepAck, ?routeSwitch, ?sleepAsk, ?sleepReq, ?wake, ?wakeCancel, ?telemetry,
    ?telemetrySend, ?time, ?refuse⟩
  case rekey =>
    rintro x k c m ch s ⟨hturn, hkeyed, rfl⟩ ⟨hstep, hswitch, hplan⟩ ⟨hchain, hj⟩ hslot
    by_cases hkcv : kcvOf (keyOf (keyStream ch.secret (if beAt m.body 0 1 = 0 then .a else .b) (beAt m.body 1 1) (beAt m.body 3 4)
        (beAt m.body 7 1))) (saltOf (keyStream ch.secret (if beAt m.body 0 1 = 0 then .a else .b) (beAt m.body 1 1)
        (beAt m.body 3 4) (beAt m.body 7 1))) = beAt m.body 13 2
    · have hloaded (u : State) (hu : Carried s u) := rekeyArrives_of_free (k := k) (s := u) (seqNo := m.seq) (n := beAt m.body 8 5)
        ((hu.stepPending _).trans hstep) ((hu.switchPending _).trans hswitch) (hu.sleepPlan.trans hplan)
        (hu.chainAt.trans hchain) hj (by rw [rxSlotState, hu.get_page (by simp)]; exact hslot) hkcv
      refine ends_of_inTurn rfl hturn (.of_keyed hkeyed (by decide) (by decide)) (fun u hu => (hloaded u hu).2)
        fun u t hu ht _ => ?_
      exact (ht.get_page (by simp) _).trans (hloaded u hu).1
    · exact ends_of_endsIn rfl fun h => absurd h hkcv
  case rateOffer =>
    rintro x k m s ⟨hturn, hkeyed⟩
    refine ends_of_inTurn rfl hturn (.of_keyed hkeyed (by decide) (by decide)) (fun u _ => ahead_offerArrives k) fun u t _ ht => ?_
    exact (ht.peerTargets k).trans peerTargets_offerArrives
  case rateAccept =>
    rintro x k m s ⟨hturn, hkeyed⟩
    have ⟨_, howner, _⟩ := hturn
    refine ends_of_inTurn rfl hturn (.of_keyed hkeyed (by decide) (by decide))
      (fun u _ => congrArg Session.ahead (session_showTargets k)) fun u t hu ht => ?_
    exact ht.negTarget.trans ((negTarget_showTargets (mem_members ((hu.owner x).trans howner))).trans hu.jointTarget)
  case step =>
    rintro x k y m s ⟨hturn, hkeyed⟩ ⟨hkind, hy, hstate⟩
    have hdown (u : State) : handle k x tStep m u = stepDownArrives (beAt m.body 0 1) (beAt m.body 1 1) (beAt m.body 2 1)
        (beAt m.body 4 5) u := if_pos hkind
    refine ends_of_inTurn rfl hturn (.of_keyed hkeyed (by decide) (by decide))
      (fun u _ => by rw [hdown, session_stepDownArrives]) fun u t hu ht => ?_
    rw [hdown] at ht
    obtain ⟨hrate, hmode⟩ := stepDownArrives_of_named (n := beAt m.body 4 5) (fromMode := beAt m.body 1 1)
      (toMode := beAt m.body 2 1) hy (by rw [hu.rateState]; exact hstate)
    exact ⟨(ht.rateState y).trans hrate, by rw [ht.stepOf]; exact hmode⟩
  case stepAck =>
    rintro x k y m s ⟨hturn, hkeyed⟩ ⟨hy, hresult, hjoint⟩ ⟨hoffered, hn, hmode⟩ htime
    have hzero (u : State) : handle k x tStepAck m u = stepAckArrives (beAt m.body 0 1) (beAt m.body 1 1) (beAt m.body 2 5) 0 u :=
      congrArg (fun r => stepAckArrives (beAt m.body 0 1) (beAt m.body 1 1) (beAt m.body 2 5) r u) hresult
    refine ends_of_inTurn rfl hturn (.of_keyed hkeyed (by decide) (by decide))
      (fun u _ => by rw [hzero, session_stepAckArrives_accepted]) fun u t hu ht => ?_
    rw [hzero] at ht
    refine (ht.rateState y).trans (stepAckArrives_of_offered hy (hu.jointStep.trans hjoint) ((hu.rateState y).trans hoffered) ?_ ?_ ?_)
    · rw [hu.stepOf, hn]
    · rw [hu.stepOf, hmode]
    · rw [hu.txCsf, htime]
  case routeSwitch =>
    rintro x k m s ⟨hturn, hkeyed, hphase⟩ ⟨hruns, hidle, hstep, -⟩
    have hasked (u : State) : handle k x tRouteSwitch m u = switchAsked k m.seq (beAt m.body 1 1) (beAt m.body 2 1)
        (beAt m.body 3 5) u := if_pos hphase
    have hfree (u : State) (hu : Carried s u) := switchAsked_of_free (k := k) (seqNo := m.seq) (route := beAt m.body 1 1)
      (cause := beAt m.body 2 1) (asked := beAt m.body 3 5) (hu.switchRuns.trans hruns) (hu.switchState.trans hidle)
      (by rw [hu.workingCarrier, hu.stepPending, hstep])
    refine ends_of_inTurn rfl hturn (.of_keyed hkeyed (by decide) (by decide)) (fun u hu => ?_) fun u t hu ht => ?_
    · obtain ⟨v, -, -, hsession, hsent⟩ := hfree u hu
      rw [hasked, hsent.ahead, hsession]
    · obtain ⟨v, hcommitted, hroute, -, hsent⟩ := hfree u hu
      rw [hasked] at ht
      have hrest := hsent.trans ht
      exact ⟨hrest.switchState.trans hcommitted, (congrArg RouteProtect.route hrest.rps :).trans hroute⟩
  case sleepAsk =>
    rintro x k state delay s ⟨howner, hkeyed, hasked, hplan⟩ hobject
    refine ends_of_result (u := sleepAsk k state delay s) ?_ (fun _ _ h => h) (sleepAsk_of_free hkeyed hasked hplan hobject)
    change execSleepReq x (.ask state delay) s = _
    simp only [execSleepReq, howner]
  case sleepReq =>
    rintro x k m s ⟨hturn, hkeyed, hphase⟩ ⟨hobject, hasked⟩
    have hzero (u : State) : handle k x tSleepReq m u =
        sleepArrives k m.seq 0 ⟨beAt m.body 1 1, beAt m.body 2 2, beAt m.body 4 1, beAt m.body 5 1⟩ u :=
      congrArg (fun n => sleepArrives k m.seq n ⟨beAt m.body 1 1, beAt m.body 2 2, beAt m.body 4 1, beAt m.body 5 1⟩ u) hphase
    have hfree (u : State) (hu : Carried s u) := sleepArrives_of_free (k := k) (seqNo := m.seq)
      (p := ⟨beAt m.body 1 1, beAt m.body 2 2, beAt m.body 4 1, beAt m.body 5 1⟩) (hu.sleepObjection.trans hobject)
      (hu.sleepAsked.trans hasked)
    refine ends_of_inTurn rfl hturn (.of_keyed hkeyed (by decide) (by decide)) (fun u hu => ?_) fun u t hu ht => ?_
    · rw [hzero, (hfree u hu).ahead]
      rfl
    · rw [hzero] at ht
      rw [((hfree u hu).trans ht).sleepPlan, ← hu.lineMode, ← hu.lineMode]
      rfl
  case wake =>
    rintro x k m s ⟨hturn, hkeyed, hcause⟩
    have hwoken (u : State) : handle k x tWake m u = u.setQlt { u.qlt with sleepPlan := none, sleepAsked := none } := if_pos hcause
    refine ends_of_inTurn rfl hturn (.of_keyed hkeyed (by decide) (by decide)) (fun u _ => by rw [hwoken]; rfl) fun u t _ ht => ?_
    rw [hwoken] at ht
    exact ⟨ht.sleepPlan, ht.sleepAsked⟩
  case wakeCancel =>
    rintro x k s ⟨howner, hkeyed⟩ hasleep
    refine ends_of_result (u := sleepCancel k s) ?_ (fun _ _ h => h) (sleepCancel_of_asleep hkeyed hasleep)
    change execWakeMsg x .cancel s = _
    simp only [execWakeMsg, howner]
  case telemetry =>
    rintro x k m s ⟨hturn, hkeyed⟩
    refine ends_of_inTurn rfl hturn (.of_keyed hkeyed (by decide) (by decide)) (fun u _ => rfl) fun u t hu ht => ?_
    have hvalues : u.qlt.peerValues = s.qlt.peerValues := (congrArg Quolet.peerValues hu.qlt :)
    have hkept : t.qlt.peerValues = (telemetryArrives m.body u).qlt.peerValues := (congrArg Quolet.peerValues ht.qlt :)
    rw [hkept]
    simp only [telemetryArrives, State.setQlt, hvalues]
  case telemetrySend =>
    rintro x k channels s ⟨howner, hkeyed⟩
    refine ends_of_result (u := telemetrySend k channels s) ?_ (fun _ _ h => h) (counted_telemetrySend hkeyed)
    change execTelemetry x (.send channels) s = _
    simp only [execTelemetry, howner]
  case time =>
    rintro x k m s ⟨hturn, hup⟩
    have harrived (u : State) : (handle k x tTime m u).qlt = { u.qlt with
        peerRef := u.qlt.peerRef.set (if beAt m.body 0 1 = 0 then .a else .b) (some (beAt m.body 1 5)) } := qlt_timeArrives
    refine ends_of_inTurn rfl hturn ⟨by decide, by decide, hup, .inr rfl⟩ (fun u _ => by rw [session, harrived, session])
      fun u t _ ht => ?_
    have hkept : t.qlt.peerRef = (handle k x tTime m u).qlt.peerRef := (congrArg Quolet.peerRef ht.qlt :)
    rw [hkept, harrived, get_set_carrier]
  case refuse =>
    rintro x k m s ⟨hturn, hup⟩
    refine ends_of_inTurn rfl hturn ⟨by decide, by decide, hup, .inr rfl⟩ (fun u _ => settled_refuseArrives.ahead k)
      fun u t hu ht => ?_
    have hwords := (settled_refuseArrives (k := k) (s := u) (refType := beAt m.body 0 1) (refSeq := beAt m.body 1 4)
      (reason := beAt m.body 5 1)).words
    obtain ⟨hcount, htype, hreason⟩ := refusalShown_facts (s := u) (beAt_one_lt m.body 0) (beAt_one_lt m.body 5)
    refine ⟨?_, (ht.get (by decide)).trans ((hwords.get (by decide)).trans htype),
      (ht.get (by decide)).trans ((hwords.get (by decide)).trans hreason)⟩
    refine (ht.get (by decide)).trans ((hwords.get (by decide)).trans (hcount.trans ?_))
    rw [hu.get (by decide)]

end Sys2Proof.Keying
end

section
/-! SUPPORT. Sessions as messages are sent, a handshake fails, an exchange begins and a session ends (R255, R260), and O26. -/
namespace Sys2Proof.Keying

open Sys2Proof Sys2Proof.Machine Sys2Proof.Safety Sys2Proof.Architecture Sys2Proof.Control Sys2Proof.LineFraming
open Sys2Proof.LineTransmit

variable {j k x : Carrier} {s s0 t : State}

/-! ## Sending (R255) -/

theorem get_queueWords {ws : List (BitVec 64)} (p : Page) (f : Field) : (queueWords s k ws).get p f = s.get p f :=
  get_of_within (queueWords_within (Within.refl 536870912 s) (Nat.or_self _)) (by cases p <;> simp) f

theorem session_queueWords {ws : List (BitVec 64)} (j : Carrier) : session (queueWords s k ws) j = session s j := by
  refine foldl_fixes (g := (session · j)) (fun u y => ?_) _ s
  dsimp only
  split
  · rfl
  · split <;> split <;> rfl

/-- Whatever is sent, nothing received since is left unacknowledged. -/
theorem ackDue_sendWith {type : Nat} {body : List Byte} {key : Option MacKey} :
    (session (sendWith k type body key s) k).ackDue = false := by
  have hqueued {p : Prop} [Decidable p] (r : Session) (ws : List (BitVec 64)) (hr : r.ackDue = false) :
      (session (if p then queueWords ((putSession s k r).bump .qlt QLT.MSG_TX.COUNT) k ws
        else (putSession s k r).bump .qlt QLT.MSG_TX.COUNT) k).ackDue = false := by
    have hput : session ((putSession s k r).bump .qlt QLT.MSG_TX.COUNT) k = r := session_putSession s k r
    split
    · rw [session_queueWords, hput, hr]
    · rw [hput, hr]
  unfold sendWith
  split
  · exact hqueued _ _ rfl
  · exact hqueued _ _ rfl

/-- A message that is resent is counted. -/
theorem counted_resend {o : Outstanding} : Counted .qlt QLT.RETX.COUNT s (resend k o s) :=
  (get_queueWords _ _).trans (get_bump_same s _ _ (by decide))

theorem retxTimeout_of_due {seqNo : Nat} {o : Outstanding}
    (hfound : ((session s k).unacked.take windowSize).find? (fun z => z.msg.seq == seqNo) = some o)
    (hruns : quoletRuns s = true) (hroom : o.resends < s.get .qlt QLT.CTL.RETX_MAX)
    (hpassed : passed s (.retx k seqNo o.resends) (retxNs s k o.resends) = true) :
    ∃ r, retxTimeout k seqNo s = resend k o (putSession s k r) := by
  simp only [retxTimeout, hfound, hruns, hpassed, Nat.not_le.mpr hroom, Bool.not_true, Bool.or_self, Bool.false_eq_true, if_false]
  exact ⟨_, rfl⟩

theorem ackTimer_of_due (hruns : quoletRuns s = true) (hdue : (session s k).ackDue = true) : ackTimer k s = send k tAck [] s :=
  if_pos (Bool.and_eq_true_iff.mpr ⟨hruns, hdue⟩)

/-- TIME goes out on an INBAND path whose last CSF start is recent (R265). -/
theorem timeSend_of_due {e : Nat × Nat} (howner : ownerOf s x = some k) (hstamp : (s.qlt.txStamps.get x).head? = some e)
    (hruns : quoletRuns s = true) (hpath : pathState s x = pathInband) (hperiod : s.get .qlt QLT.TIME_CFG.PERIOD ≠ 0)
    (hrecent : csfAtOrAfter (e.1 + 1024) (txCsf s x) = true)
    (hspaced : spaced s (.timeSent x) (s.get .qlt QLT.TIME_CFG.PERIOD * msNs) = true)
    (hup : (session s k).state ≠ sessDown) (hfailed : (session s k).state ≠ sessFailed) :
    ∃ body, timeSend x s = send k tTime body (startTimer (.timeSent x) s) := by
  obtain ⟨csf, stamp⟩ := e
  have hperiod : (s.get .qlt QLT.TIME_CFG.PERIOD != 0) = true := bne_iff_ne.mpr hperiod
  have hup : ((session s k).state != sessDown) = true := bne_iff_ne.mpr hup
  have hfailed : ((session s k).state != sessFailed) = true := bne_iff_ne.mpr hfailed
  simp only [timeSend, howner, hstamp, hruns, hpath, hperiod, hrecent, hspaced, hup, hfailed, beq_self_eq_true, Bool.and_self,
    if_true]
  exact ⟨_, rfl⟩

theorem head_keepStamp {receive : Bool} {csf stamp : Nat} :
    ((if receive then (keepStamp x receive csf stamp s).qlt.rxStamps else (keepStamp x receive csf stamp s).qlt.txStamps).get
      x).head? = some (csf, stamp) := by
  cases receive <;> simp [keepStamp, State.setQlt, get_set_carrier]

/-! ## What STAT shows of the sessions -/

theorem session_showSessions (j : Carrier) : session (showSessions s) j = session s j := rfl

theorem ownerOf_showSessions (x : Carrier) : ownerOf (showSessions s) x = ownerOf s x := rfl

theorem get_showSessions {p : Page} {f : Field} (h : QLT.STAT.SESS_A.off ≠ f.off % 0x1000) :
    (showSessions s).get p f = s.get p f := by
  unfold showSessions State.setFlag
  refine (get_set_apart ?_).trans ((get_set_apart ?_).trans ((get_set_apart ?_).trans ((get_set_apart ?_).trans
    (get_set_apart ?_)))) <;> exact h

/-! ## A failure and the end of a session (R260) -/

/-- The session that has failed, but for the security log and what STAT shows. -/
def failedSession (k : Carrier) (cause : Nat) (s : State) : State :=
  ((putSession s k { session s k with
    state := sessFailed, heldKem := none, kemSeed := none, chains := [], keys := [], confirmSent := false,
    confirmed := false, unacked := [] }).set .qlt QLT.LAST_FAIL.CAUSE cause).raise .qlt QLT.EVT.HS_FAIL

theorem sessionFailed_eq {cause : Nat} : sessionFailed k cause s =
    showSessions (secLog (failedSession k cause s) .handshakeFailure k.idx cause) := rfl

theorem session_sessionFailed {cause : Nat} : session (sessionFailed k cause s) k = { session s k with
    state := sessFailed, heldKem := none, kemSeed := none, chains := [], keys := [], confirmSent := false,
    confirmed := false, unacked := [] } := by
  rw [sessionFailed_eq, session_showSessions, session_within (secLog_within (Within.refl _ _) (Nat.or_self _)) (by decide)]
  exact session_putSession _ _ _

theorem session_sessionFailed_other {cause : Nat} (h : j ≠ k) : session (sessionFailed k cause s) j = session s j := by
  rw [sessionFailed_eq, session_showSessions, session_within (secLog_within (Within.refl _ _) (Nat.or_self _)) (by decide)]
  exact session_putSession_other _ h

theorem lastFail_sessionFailed {cause : Nat} (h : cause < 2 ^ 8) :
    (sessionFailed k cause s).get .qlt QLT.LAST_FAIL.CAUSE = cause := by
  have hset : (failedSession k cause s).get .qlt QLT.LAST_FAIL.CAUSE = cause :=
    (get_raise (by decide)).trans ((get_set_same _ _ _ _ (by decide)).trans (Nat.mod_eq_of_lt h))
  rw [sessionFailed_eq, get_showSessions (by decide)]
  exact (get_of_within (secLog_within (Within.refl _ _) (Nat.or_self _)) (by decide) _).trans hset

theorem handshakeTimeout_of_passed (hstate : (session s k).state = sessNegotiate ∨ (session s k).state = sessKeying)
    (hpassed : passed s (.handshake k) (5 * secNs) = true) : handshakeTimeout k s = sessionFailed k 0x80 s := by
  have hopen : (decide ((session s k).state = sessNegotiate) || decide ((session s k).state = sessKeying)) = true := by
    simpa using hstate
  simp only [handshakeTimeout, hopen, hpassed, Bool.and_self, if_true]

/-- The end of a KEYED session leaves the sessions and the paths' owners to what follows it. -/
theorem leaveKeyed_keeps (k : Carrier) (s : State) : (∀ j, session (leaveKeyed k s) j = session s j) ∧
    ∀ x, ownerOf (leaveKeyed k s) x = ownerOf s x := by
  have hlapsed (l : List Carrier) : (l.foldl (fun s x => stepSessionLost x s) s).qlt = s.qlt := by
    refine foldl_fixes (g := State.qlt) (fun u y => ?_) l s
    unfold stepSessionLost
    split <;> rfl
  unfold leaveKeyed
  split
  · refine ⟨fun j => ?_, fun x => ?_⟩
    · exact (congrArg (fun q : Quolet => q.sessions.get j) (hlapsed (members s k)) :)
    · exact (congrArg (fun q : Quolet => q.owner.get x) (hlapsed (members s k)) :)
  · exact ⟨fun _ => rfl, fun _ => rfl⟩

/-- The paths of a session are given up. -/
def disowned (k : Carrier) (s : State) : State :=
  (members s k).foldl (fun s x => s.setQlt { s.qlt with owner := s.qlt.owner.set x none }) s

theorem ownerOf_disowned (h : ownerOf s x = some k) : ownerOf (disowned k s) x = none := by
  unfold disowned
  refine foldl_establishes (P := fun u => ownerOf u x = none) (fun u y hu => ?_) (fun u => ?_) _ s (mem_members h)
  · by_cases hy : x = y
    · exact hy ▸ get_set_carrier _ _ _
    · exact (get_set_carrier_other _ _ hy).trans hu
  · exact get_set_carrier _ _ _

theorem sessionDown_eq : sessionDown k s = showSessions ((putSession (disowned k (leaveKeyed k s)) k .down).raiseIf
    ((session s k).state != sessDown) .qlt QLT.EVT.SESSION_DOWN) := rfl

theorem session_raiseIf {c : Bool} {p : Page} {b : Nat} (j : Carrier) : session (s.raiseIf c p b) j = session s j := by
  unfold State.raiseIf
  split <;> rfl

theorem ownerOf_raiseIf {c : Bool} {p : Page} {b : Nat} (x : Carrier) : ownerOf (s.raiseIf c p b) x = ownerOf s x := by
  unfold State.raiseIf
  split <;> rfl

theorem session_sessionDown : session (sessionDown k s) k = .down := by
  rw [sessionDown_eq, session_showSessions, session_raiseIf, session_putSession]

theorem ownerOf_sessionDown (h : ownerOf s x = some k) : ownerOf (sessionDown k s) x = none := by
  obtain ⟨-, howner⟩ := leaveKeyed_keeps k s
  rw [sessionDown_eq, ownerOf_showSessions, ownerOf_raiseIf]
  exact ownerOf_disowned ((howner x).trans h)

theorem sessionPathless_of_passed (howner : ownerOf s x = some k) (hdown : sessionUp s k = false)
    (hpassed : passed s (.pathless k) secNs = true) : sessionPathless k s = sessionDown k s := by
  have hsome : (members s k).isEmpty = false := List.isEmpty_eq_false_iff_exists_mem.mpr ⟨x, mem_members howner⟩
  simp only [sessionPathless, hsome, hdown, hpassed, Bool.not_true, Bool.or_self, Bool.false_eq_true, if_false]

/-! ## A new exchange (R255, R260) -/

/-- The session of the new exchange, before its HELLO is sent. -/
def exchangeOpened (k : Carrier) (s : State) : State :=
  putSession (leaveKeyed k s).randomDrawn k { Session.down with
    state := sessNegotiate, awaitHello := true, nonce := BitVec.ofNat 256 (leaveKeyed k s).random.toNat,
    peerInb := (session (leaveKeyed k s) k).peerInb }

/-- A WAKE that the exchange announces, if one is due (R267). -/
def wakeAnnounced (k : Carrier) (s : State) : State :=
  match s.qlt.wakeDue with
  | some w => send k tWake ([1] ++ beBytes 8 w.1 ++ beBytes 4 w.2) (s.setQlt { s.qlt with wakeDue := none })
  | none => s

/-- Its HELLO has been sent. -/
def helloSent (k : Carrier) (s : State) : State :=
  send k tHello (helloBody (wakeAnnounced k (exchangeOpened k s)) (BitVec.ofNat 256 (leaveKeyed k s).random.toNat))
    (wakeAnnounced k (exchangeOpened k s))

theorem enterNegotiate_of_allowed (h : handshakeAllowed s = true) :
    enterNegotiate k s = showSessions (send k tCaps (capsBody (helloSent k s) k) (helloSent k s)) := by
  simp only [enterNegotiate, h, Bool.not_true, Bool.false_eq_true, if_false]
  rfl

theorem session_wakeAnnounced : session (wakeAnnounced k s) j = transported (session s j) (session (wakeAnnounced k s) j) := by
  unfold wakeAnnounced
  split
  · exact (Carried.refl _).send.sessions j
  · rfl

/-- The exchange waits for the peer's HELLO; beside that only its messages have been sent. -/
theorem session_enterNegotiate (h : handshakeAllowed s = true) (j : Carrier) : session (enterNegotiate k s) j =
    transported (session (exchangeOpened k s) j) (session (enterNegotiate k s) j) := by
  have hhello : Carried (wakeAnnounced k (exchangeOpened k s)) (helloSent k s) := (Carried.refl _).send
  have hsent := hhello.send (k := k) (type := tCaps) (body := capsBody (helloSent k s) k)
  rw [enterNegotiate_of_allowed h, session_showSessions]
  exact (hsent.sessions j).trans (congrArg (transported · _) session_wakeAnnounced :)

theorem enterNegotiate_facts (h : handshakeAllowed s = true) : (session (enterNegotiate k s) k).state = sessNegotiate ∧
    (session (enterNegotiate k s) k).awaitHello = true := by
  have hopened := session_enterNegotiate (k := k) h k
  rw [exchangeOpened, session_putSession] at hopened
  rw [hopened]
  exact ⟨rfl, rfl⟩

theorem failedRetry_of_passed (hstate : (session s k).state = sessFailed) (hup : sessionUp s k = true)
    (hpassed : passed s (.failed k) (10 * secNs) = true) : failedRetry k s = enterNegotiate k s := by
  simp only [failedRetry, hstate, hup, hpassed, decide_true, Bool.and_self, if_true]

/-- Settles O26: each timer of a session, from the lemma on its operation. -/
theorem sessionTimersComplete : Obligations.SessionTimersComplete := by
  refine ⟨?retx, ?ack, ?time, ?stamp, ?handshake, ?failed, ?pathless⟩
  case retx =>
    rintro k seqNo o s hfound ⟨hruns, hroom⟩ hpassed
    obtain ⟨r, hresent⟩ := retxTimeout_of_due hfound hruns hroom hpassed
    refine ends_of_result (u := retxTimeout k seqNo s) rfl (fun _ _ h => h) ?_
    rw [hresent]
    exact counted_resend
  case ack =>
    rintro k s ⟨hruns, hdue⟩
    refine ends_of_result (u := ackTimer k s) rfl (fun _ _ h => h) ?_
    rw [ackTimer_of_due hruns hdue]
    exact ⟨ackDue_sendWith, counted_send⟩
  case time =>
    rintro x k e s ⟨howner, hstamp, hruns⟩ ⟨hpath, hperiod, hrecent⟩ hspaced ⟨hup, hfailed⟩
    obtain ⟨body, hsent⟩ := timeSend_of_due howner hstamp hruns hpath hperiod hrecent hspaced hup hfailed
    refine ends_of_result (u := timeSend x s) rfl (fun _ _ h => h) ?_
    rw [hsent]
    exact counted_send
  case stamp =>
    intro x receive csf stamp s
    exact ends_of_result (u := keepStamp x receive csf stamp s) rfl (fun _ _ h => h) head_keepStamp
  case handshake =>
    rintro k s hstate hpassed
    refine ends_of_result (u := handshakeTimeout k s) rfl (fun _ _ h => h) ?_
    rw [handshakeTimeout_of_passed hstate hpassed]
    exact ⟨by rw [session_sessionFailed], lastFail_sessionFailed (by decide)⟩
  case failed =>
    rintro k s ⟨hstate, hup, hallowed⟩ hpassed
    refine ends_of_result (u := failedRetry k s) rfl (fun _ _ h => h) ?_
    rw [failedRetry_of_passed hstate hup hpassed]
    exact enterNegotiate_facts hallowed
  case pathless =>
    rintro k x s ⟨howner, hdown, hpassed⟩
    refine ends_of_result (u := sessionPathless k s) rfl (fun _ _ h => h) ?_
    rw [sessionPathless_of_passed howner hdown hpassed]
    exact ⟨by rw [session_sessionDown]; rfl, ownerOf_sessionDown howner⟩

end Sys2Proof.Keying
end

section
/-! SUPPORT. Rate steps (R264): what starts, ends and records a step of a carrier. -/
namespace Sys2Proof.Keying

open Sys2Proof Sys2Proof.Machine Sys2Proof.Safety Sys2Proof.Architecture Sys2Proof.Control Sys2Proof.LineFraming
open Sys2Proof.LineTransmit

variable {k x y z : Carrier} {s t u : State}

/-! ## The carriers of a step -/

theorem stepCarriers_of_single (h : jointStep s = false) : stepCarriers s x = [x] := by
  rw [stepCarriers, h]
  rfl

theorem stepCarriers_cons (s : State) (x : Carrier) : ∃ l, stepCarriers s x = x :: l := by
  unfold stepCarriers
  split
  · exact ⟨[x.other], rfl⟩
  · exact ⟨[], rfl⟩

theorem mem_stepCarriers : x ∈ stepCarriers s x := by
  obtain ⟨l, hl⟩ := stepCarriers_cons s x
  rw [hl]
  exact List.mem_cons_self

/-! ## Lapses -/

theorem rateState_raise {p : Page} {b : Nat} : rateState (s.raise p b) x = rateState s x := by
  cases x <;> exact get_raise (by decide)

theorem rateState_stepLapse : rateState (stepLapse x s) x = rsSteady := rateState_raise.trans rateState_setRate

theorem rateState_stepLapse_other (h : y ≠ x) : rateState (stepLapse y s) x = rateState s x :=
  rateState_raise.trans (rateState_setRate_other h)

/-- Further lapses leave a carrier that is STEADY. -/
theorem rateState_lapsed (h : rateState s x = rsSteady) :
    rateState (if rateState s y = rsOffered then stepLapse y s else s) x = rsSteady := by
  split
  · by_cases hy : y = x
    · rw [hy, rateState_stepLapse]
    · rw [rateState_stepLapse_other hy, h]
  · exact h

theorem offerDeadline_of_late (hstate : rateState s x = rsOffered)
    (hlate : csfAtOrAfter (txCsf s x + 16) (stepOf s x).n = true) : rateState (offerDeadline x s) x = rsSteady := by
  obtain ⟨l, hl⟩ := stepCarriers_cons s x
  simp only [offerDeadline, hstate, hlate, decide_true, Bool.and_self, if_true, hl, List.foldl_cons]
  exact List.foldlRecOn (motive := fun u => rateState u x = rsSteady) l _ rateState_stepLapse fun u hu z _ =>
    rateState_lapsed hu

/-- An armed carrier whose step can no longer come returns to STEADY. -/
theorem armed_lapses {jump : Bool} (hstate : rateState s x = rsArmed) (hlate : jump = false → inFrame s x = true ∧
    csfAtOrAfter (s.pair (.lfm x) LFM.RX_CSF_LO.CSF LFM.RX_CSF_HI.CSF) ((stepOf s x).n + 64) = true) :
    (if jump then armedJump x s else armedLapse x s) = stepLapse x s := by
  cases jump with
  | true => exact if_pos hstate
  | false =>
    obtain ⟨hframe, hcsf⟩ := hlate rfl
    simp only [armedLapse, hstate, hframe, hcsf, decide_true, Bool.and_self, Bool.false_eq_true, if_true, if_false]

/-! ## Steps announced -/

theorem carried_sendStep {mask fromMode toMode kind n : Nat} (h : Carried u s) :
    Carried u (sendStep k mask fromMode toMode kind n s) := h.send

theorem carried_sendSteps {moves : List (Carrier × Nat × Nat)} {kind n : Nat} : Carried s (sendSteps k moves kind n s) := by
  unfold sendSteps
  split
  · exact .refl s
  · exact .ite (carried_sendStep (.refl s)) (.foldl (fun _ _ hu => carried_sendStep hu) _ (.refl s))

/-- The offer of a step up on a single carrier, before STEP is sent. -/
def stepOffered (x : Carrier) (s : State) : State :=
  setRate x rsOffered (recordStep x (lineMode s x) ((after (ladderOf s x) (lineMode s x)).getD 0) 0 (announcedCsf s x 64) s.drawn)

theorem stepOffer_of_ready (howner : ownerOf s x = some k) (hkeyed : (session s k).state = sessKeyed) (hrole : ownRole s = 0)
    (hauto : s.flag .qlt QLT.CTL.AUTO_STEP = true) (hjoint : jointStep s = false) (hready : Machine.stepReady s k x = true)
    (hreceive : receiveCondition s x = true) : Carried (stepOffered x s) (stepOffer x s) := by
  simp only [stepOffer, howner, stepCarriers_of_single hjoint, hkeyed, hrole, hauto, hready, hreceive, List.map_cons,
    List.map_nil, List.all_cons, List.all_nil, List.headD_cons, beq_self_eq_true, Bool.and_self, if_true]
  exact carried_sendSteps

theorem stepOffered_facts : rateState (stepOffered x s) x = rsOffered ∧
    (stepOf (stepOffered x s) x).toMode = (after (ladderOf s x) (lineMode s x)).getD 0 := by
  refine ⟨rateState_setRate, ?_⟩
  exact congrArg StepRecord.toMode (stepOf_putStep (s := s.drawn) (x := x) _)

/-- One carrier's part of a step down. -/
def steppingDown (n : Nat) (s0 s : State) (x : Carrier) : State :=
  (setRate x rsRestarting (recordStep x (lineMode s0 x) ((downTo s0 x).getD 0) 1 n s)).bump .qlt QLT.STEP_CNT.FALLBACK

theorem steppingDown_same {n : Nat} {s0 : State} : rateState (steppingDown n s0 s x) x = rsRestarting ∧
    (stepOf (steppingDown n s0 s x) x).kind = 1 := by
  refine ⟨(rateState_setOff (by decide)).trans rateState_setRate, ?_⟩
  exact congrArg StepRecord.kind (stepOf_putStep (s := s) (x := x) _)

theorem steppingDown_other {n : Nat} {s0 : State} (h : y ≠ x) : rateState (steppingDown n s0 s y) x = rateState s x ∧
    stepOf (steppingDown n s0 s y) x = stepOf s x :=
  ⟨(rateState_setOff (by decide)).trans (rateState_setRate_other h), stepOf_putStep_other _ h⟩

theorem stepDown_of_due (howner : ownerOf s x = some k) (hstate : rateState s x = rsSteady) (hdue : downDue s x = true)
    (hto : (downTo s x).isSome = true) : ∃ (l : List Carrier) (n : Nat), x ∈ l ∧
      Carried (l.foldl (steppingDown n s) s.drawn) (stepDown x s) := by
  refine ⟨(stepCarriers s x).filter fun y => (downTo s y).isSome, announcedCsf s x 64,
    List.mem_filter.mpr ⟨mem_stepCarriers, hto⟩, ?_⟩
  simp only [stepDown, howner, hstate, hdue, hto, decide_true, Bool.and_self, if_true, List.foldl_map]
  exact carried_sendSteps

theorem stepDown_facts (howner : ownerOf s x = some k) (hstate : rateState s x = rsSteady) (hdue : downDue s x = true)
    (hto : (downTo s x).isSome = true) : rateState (stepDown x s) x = rsRestarting ∧ (stepOf (stepDown x s) x).kind = 1 := by
  obtain ⟨l, n, hx, hsent⟩ := stepDown_of_due howner hstate hdue hto
  have hfold : rateState (l.foldl (steppingDown n s) s.drawn) x = rsRestarting ∧
      (stepOf (l.foldl (steppingDown n s) s.drawn) x).kind = 1 := by
    refine foldl_establishes (P := fun u => rateState u x = rsRestarting ∧ (stepOf u x).kind = 1) (fun u y hu => ?_)
      (fun _ => steppingDown_same) l _ hx
    by_cases hy : y = x
    · exact hy ▸ steppingDown_same
    · obtain ⟨hrate, hrecord⟩ := steppingDown_other (n := n) (s0 := s) (s := u) hy
      rw [hrate, hrecord]
      exact hu
  rw [hsent.rateState, hsent.stepOf]
  exact hfold

/-! ## The restart and the end of a step -/

theorem noteRestarted_same : rateState (noteRestarted s x) x = rsRestarting ∧ stepOf (noteRestarted s x) x =
    { stepOf s x with restarted := true, locked := false, failed := false } :=
  ⟨rateState_setRate, stepOf_putStep _⟩

theorem noteRestarted_other (h : y ≠ x) : rateState (noteRestarted s y) x = rateState s x ∧
    stepOf (noteRestarted s y) x = stepOf s x :=
  ⟨rateState_setRate_other h, stepOf_putStep_other _ h⟩

/-- Every carrier whose restart has been made is RESTARTING (R264). -/
theorem foldl_noteRestarted {l : List Carrier} (hx : x ∈ l) : rateState (l.foldl noteRestarted s) x = rsRestarting ∧
    (stepOf (l.foldl noteRestarted s) x).restarted = true := by
  have hsame (u : State) : rateState (noteRestarted u x) x = rsRestarting ∧ (stepOf (noteRestarted u x) x).restarted = true := by
    obtain ⟨hrate, hrecord⟩ := noteRestarted_same (s := u) (x := x)
    exact ⟨hrate, by rw [hrecord]⟩
  refine foldl_establishes (P := fun u => rateState u x = rsRestarting ∧ (stepOf u x).restarted = true) (fun u y hu => ?_)
    hsame l s hx
  by_cases hy : y = x
  · exact hy ▸ hsame u
  · obtain ⟨hrate, hrecord⟩ := noteRestarted_other (s := u) hy
    rw [hrate, hrecord]
    exact hu

theorem stepRestart_of_due (h : restartDue s x = true) : ∃ u, stepRestart x s = (stepCarriers s x).foldl noteRestarted u := by
  simp only [stepRestart, h, Bool.not_true, Bool.false_eq_true, if_false]
  exact ⟨_, rfl⟩

theorem stepConfirming_of_locked (hstate : rateState s x = rsRestarting) (hrestarted : (stepOf s x).restarted = true)
    (hlocked : fecLocked s x = true) (hframe : inFrame s x = true) (htime : stepTimedOut s x = false) :
    rateState (stepConfirming x s) x = rsConfirming := by
  simp only [stepConfirming, hstate, hrestarted, hlocked, hframe, htime, decide_true, Bool.not_false, Bool.and_self, if_true]
  exact rateState_setRate

/-- The record of a step up that has completed. -/
def completed (r : StepRecord) : StepRecord :=
  { r with restarted := false, locked := false, backoffs := r.backoffs.filter fun e => e.1 != (r.fromMode, r.toMode) }

theorem stepDone_of_held (hstate : rateState s x = rsConfirming) (hfailed : (stepOf s x).failed = false)
    (hkind : (stepOf s x).kind ≠ 1) (hheld : sfHeld s (.confirming x) = true) : stepDone x s =
    (setRate x rsSteady ((putStep s x (completed (stepOf s x))).bump .qlt QLT.STEP_CNT.UP)).raise .qlt QLT.EVT.STEP_DONE := by
  have hup : ((stepOf s x).kind != 1) = true := bne_iff_ne.mpr hkind
  have hdone : (decide (rateState s x = rsConfirming) && !(stepOf s x).failed && sfHeld s (.confirming x)) = true := by
    simp only [hstate, hfailed, hheld, decide_true, Bool.not_false, Bool.and_self]
  simp only [stepDone, hdone, hup, if_true]
  rfl

/-- A step that has completed has no backoff left (R264). -/
theorem backoffOf_completed {r : StepRecord} (h : stepOf s x = completed r) : backoffOf s x (r.fromMode, r.toMode) = none := by
  have hnone : (r.backoffs.filter fun e => e.1 != (r.fromMode, r.toMode)).find? (fun e => e.1 == (r.fromMode, r.toMode)) =
      none := by
    refine List.find?_eq_none.mpr fun e he => ?_
    simpa using (List.mem_filter.mp he).2
  rw [backoffOf, h, completed, hnone]
  rfl

theorem stepDone_facts (hstate : rateState s x = rsConfirming) (hfailed : (stepOf s x).failed = false)
    (hkind : (stepOf s x).kind ≠ 1) (hheld : sfHeld s (.confirming x) = true) : rateState (stepDone x s) x = rsSteady ∧
    backoffOf (stepDone x s) x ((stepOf s x).fromMode, (stepOf s x).toMode) = none ∧
    Counted .qlt QLT.STEP_CNT.UP s (stepDone x s) := by
  have hcount : Counted .qlt QLT.STEP_CNT.UP s ((putStep s x (completed (stepOf s x))).bump .qlt QLT.STEP_CNT.UP) :=
    get_bump_same (putStep s x (completed (stepOf s x))) _ _ (by decide)
  have hkept (v : State) : (setRate x rsSteady v).get .qlt QLT.STEP_CNT.UP = v.get .qlt QLT.STEP_CNT.UP := by
    cases x <;> exact get_set_apart (by decide)
  rw [stepDone_of_held hstate hfailed hkind hheld]
  refine ⟨rateState_raise.trans rateState_setRate, backoffOf_completed ?_,
    (get_raise (by decide)).trans ((hkept _).trans hcount)⟩
  exact stepOf_putStep (s := s) _

theorem backoffEnd_of_passed {step : Nat × Nat} (hwaiting : (stepOf s x).waiting = some step)
    (hpassed : passed s (.backoff x) ((backoffOf s x step).getD 0 * secNs) = true) :
    backoffEnd x s = putStep s x { stepOf s x with waiting := none } := by
  simp only [backoffEnd, hwaiting, hpassed, if_true]

end Sys2Proof.Keying
end

section
/-! SUPPORT. A request for a power state leaves the count of PWR's writes (R40, R504), and so the agreed sleep is written once
(R267). -/
namespace Sys2Proof.Keying

open Sys2Proof Sys2Proof.Machine Sys2Proof.Safety Sys2Proof.Architecture Sys2Proof.Control Sys2Proof.LineFraming
open Sys2Proof.LineTransmit

variable {s s0 : State}

/-- From `s` to `t` PWR's SEQ stands. -/
abbrev KeepsSeq (s t : State) : Prop := Keeps (allBut .pwr [HDR.SEQ.COUNT]) s t

theorem keepsSeq_set {p : Page} {f : Field} {v : Nat} (h : KeepsSeq s0 s) (hf : f.off % 0x1000 ≠ HDR.SEQ.COUNT.off) :
    KeepsSeq s0 (s.set p f v) := keeps_setApart h hf

theorem keepsSeq_vddMove (h : KeepsSeq s0 s) : KeepsSeq s0 (vddMove s) := by
  unfold vddMove
  split
  · exact h
  · have hset (g : Nat) : KeepsSeq s0 (s.set .pwr PWR.VDD.TARGET g) := keepsSeq_set h (by decide)
    exact .ite (hset _) ((hset _).of_regs rfl)

theorem keepsSeq_beginTransition {t : Nat} (h : KeepsSeq s0 s) : KeepsSeq s0 (beginTransition t s) := by
  have hheld (v : State) : (holdTransition v).regs = v.regs := by
    unfold holdTransition
    dsimp only
    split <;> rfl
  have hbegun : KeepsSeq s0 (holdTransition (s.setPwr { s.pwrMgr with acted := false })) := h.of_regs (hheld _)
  unfold beginTransition
  refine keepsSeq_set (keepsSeq_set hbegun ?_) ?_ <;> decide

theorem keepsSeq_holdRequest {t : Nat} (h : KeepsSeq s0 s) : KeepsSeq s0 (holdRequest t s) := by
  unfold holdRequest
  refine keepsSeq_set (keepsSeq_set h ?_) ?_ <;> decide

theorem keepsSeq_beginExit {cause : Nat} (h : KeepsSeq s0 s) : KeepsSeq s0 (beginExit cause s) := by
  have hcause : KeepsSeq s0 ((beginTransition pwrRun s).set .pwr PWR.WAKE_STAT.CAUSE cause) :=
    keepsSeq_set (keepsSeq_beginTransition h) (by decide)
  exact .ite (keepsSeq_vddMove (keepsSeq_set hcause (by decide))) hcause

/-- REFUSE_LOG has 16 registers from 0x100 on. -/
theorem keepsSeq_logRefusal {w : Nat} (h : KeepsSeq s0 s) : KeepsSeq s0 (logRefusal s w) := by
  have hentry (i : Nat) (hi : i < 16) : KeepsSeq s0 (s.set .pwr (PWR.REFUSE_LOG.ENTRY.at i) w) := by
    refine keepsSeq_set h ?_
    simp only [Field.at, PWR.REFUSE_LOG.ENTRY, HDR.SEQ.COUNT]
    omega
  unfold logRefusal
  refine keepsSeq_set (hentry _ ?_) (by decide)
  split
  · decide
  · exact Nat.mod_lt _ (by decide)

theorem keepsSeq_beginEntry {t : Nat} (h : KeepsSeq s0 s) : KeepsSeq s0 (beginEntry t s) := by
  unfold beginEntry
  split
  · exact keepsSeq_beginTransition h
  · have hlogged : KeepsSeq s0 ((refusals s t).foldl logRefusal s) :=
      List.foldlRecOn _ _ h fun _ hu _ _ => keepsSeq_logRefusal hu
    exact keeps_raiseApart (keepsSeq_set hlogged (by decide)) (by decide)

theorem keepsSeq_takeRequest {t cause : Nat} (h : KeepsSeq s0 s) : KeepsSeq s0 (takeRequest t cause s) := by
  have hstart : KeepsSeq s0 (s.setPwr { s.pwrMgr with startDue := true }) := h.of_regs rfl
  exact .ite h (.ite (.ite hstart h) (.ite (keepsSeq_beginEntry h) (.ite (keepsSeq_beginExit h)
    (keepsSeq_beginExit (keepsSeq_holdRequest h)))))

theorem keepsSeq_pendRequest {t : Nat} (h : KeepsSeq s0 s) : KeepsSeq s0 (pendRequest t s) :=
  .ite (keepsSeq_holdRequest h) (.ite (keepsSeq_set h (by decide))
    (keeps_raiseApart (keepsSeq_set (keepsSeq_holdRequest h) (by decide)) (by decide)))

theorem keepsSeq_powerRequest {t cause : Nat} (h : KeepsSeq s0 s) : KeepsSeq s0 (powerRequest t cause s) := by
  have hcause : KeepsSeq s0 (if t = pwrRun then s.setPwr { s.pwrMgr with cause := cause } else s) :=
    .ite (h.of_regs rfl) h
  exact .ite (.ite (keepsSeq_set hcause (by decide)) (keepsSeq_pendRequest hcause))
    (.ite (keepsSeq_pendRequest hcause) (keepsSeq_takeRequest hcause))

/-- The agreed sleep that falls due is one write of REQ with origin 0x0 (R267, R504). -/
theorem seq_sleepDue {p : SleepPlan} (hplan : s.qlt.sleepPlan = some p) (hruns : s.running .qlt = true)
    (hroom : onlyReserve s = false) (hpassed : passed s .sleepPlan (p.delay * msNs) = true) :
    (sleepDue s).get .pwr HDR.SEQ.COUNT = (s.get .pwr HDR.SEQ.COUNT + 1) % 2 ^ HDR.SEQ.COUNT.width := by
  have hcounted : (s.addWrap .pwr HDR.SEQ.COUNT 1).get .pwr HDR.SEQ.COUNT =
      (s.get .pwr HDR.SEQ.COUNT + 1) % 2 ^ HDR.SEQ.COUNT.width := get_set_same _ _ _ _ (by decide)
  simp only [sleepDue, hplan, hruns, hpassed, hroom, Bool.not_true, Bool.or_self, Bool.false_eq_true, if_false]
  rw [← hcounted]
  refine get_of_keeps (.ite ?_ (.of_regs (s := _) ?_ rfl)) <;>
  · exact keepsSeq_powerRequest (keeps_withinOff (.refl _ _) (journalAccepted_within (Within.refl journalParts _)
      (Nat.or_self _)) (by decide))

end Sys2Proof.Keying
end

section
/-! SUPPORT. Where a rate step is going while its carriers restart (R94, R264), and O27. -/
namespace Sys2Proof.Keying

open Sys2Proof Sys2Proof.Machine Sys2Proof.Safety Sys2Proof.Architecture Sys2Proof.Control Sys2Proof.LineFraming
open Sys2Proof.LineTransmit

variable {c k x y : Carrier} {p : Page} {s s0 t u : State}

/-! ## The mode of a step stands -/

/-- From `s` to `t` no carrier's step changes the mode it goes to. -/
def Aims (s t : State) : Prop := ∀ x, (stepOf t x).toMode = (stepOf s x).toMode

namespace Aims

theorem refl (s : State) : Aims s s := fun _ => rfl

theorem trans (h : Aims s t) (g : Aims t u) : Aims s u := fun x => (g x).trans (h x)

theorem ite {b : Prop} [Decidable b] (hs : Aims s0 s) (ht : Aims s0 t) : Aims s0 (if b then s else t) := by
  split <;> assumption

theorem foldl {α : Type} {f : State → α → State} (hf : ∀ u a, Aims u (f u a)) :
    ∀ (l : List α) (s : State), Aims s (l.foldl f s)
  | [], s => .refl s
  | a :: l, s => (hf s a).trans (foldl hf l (f s a))

theorem of_steps (h : t.qlt.steps = s.qlt.steps) : Aims s t := fun x => by rw [stepOf, h, stepOf]

theorem within {K : Nat} (hw : Within K s t) (hK : K.testBit 29 = false) : Aims s t := of_steps (by rw [hw.qlt hK])

theorem putStep {r : StepRecord} (hr : r.toMode = (stepOf s x).toMode) : Aims s (putStep s x r) := fun y => by
  by_cases hy : x = y
  · rw [← hy, stepOf_putStep, hr]
  · rw [stepOf_putStep_other _ hy]

end Aims

/-! ## Loss of frame, of FEC lock and of the pilot channel -/

theorem aims_breakInband : Aims s (breakInband s c) := .ite (.of_steps rfl) (.refl s)

theorem aims_frameHunt : Aims s (frameHunt s c) := by
  unfold frameHunt
  extract_lets was broken hunting framer framed record noted
  have hbroken : Aims s broken := .ite aims_breakInband (.refl s)
  have hnoted : Aims s noted := (hbroken.trans (.of_steps rfl : Aims broken framed)).trans (.putStep rfl)
  exact .ite (hnoted.trans (.within (lockFrameLeft_within (Within.refl _ _) (Nat.or_self _)) (by decide))) hnoted

theorem aims_setSf : Aims s (setSf s c) := by
  unfold setSf
  extract_lets record failed was fec cleared triggered
  have hfailed : Aims s failed := .putStep rfl
  have htriggered : Aims cleared triggered :=
    .ite (.refl _) (.within (noteTrigger_within (Within.refl _ _) (Nat.or_self _)) (by decide))
  have hcleared : Aims failed cleared := .of_steps rfl
  exact ((hfailed.trans hcleared).trans htriggered).trans (.ite (.of_steps rfl) (.of_steps rfl))

theorem aims_enterFecState {st : Nat} : Aims s (enterFecState s c st) := by
  have hleft : Aims s (leaveFecLock s c) :=
    (Aims.of_steps rfl : Aims s (s.setFec c { s.fec.get c with window := .empty })).trans (aims_setSf.trans aims_frameHunt)
  have hbefore : Aims s (if fecLocked s c && st != fecLock then leaveFecLock s c else s) := .ite hleft (.refl s)
  exact hbefore.trans (.of_steps rfl)

theorem aims_fecUnsynchronised : Aims s (fecUnsynchronised s c) := by
  have hended : Aims s (s.setFec c { s.fec.get c with llrs := [], decoder := 0 }) := .of_steps rfl
  exact .ite hended (hended.trans aims_enterFecState)

theorem aims_cprUnsynchronise : Aims s (cprUnsynchronise c s) := by
  unfold cprUnsynchronise
  extract_lets d marked
  have hmarked : Aims s marked := .of_steps rfl
  exact (hmarked.trans (.within (dmpErase_within (Within.refl _ _) (Nat.or_self _)) (by decide))).trans aims_fecUnsynchronised

/-- What the end of a pilot channel's search leaves of Quolet (R251, R252). -/
theorem qlt_leaveWordSync : ∃ partials, (leaveWordSync s c).qlt = { s.qlt with asmPilot := partials } := by
  unfold leaveWordSync breakPilot
  split
  · split
    · exact ⟨_, rfl⟩
    · exact ⟨_, rfl⟩
  · exact ⟨_, rfl⟩

theorem qlt_cprShow : ∃ partials searches, (cprShow s c).qlt = { s.qlt with asmPilot := partials, pilotRx := searches } := by
  unfold cprShow
  extract_lets st on was shown
  obtain ⟨partials, hleft⟩ := qlt_leaveWordSync (s := shown) (c := c)
  split
  · refine ⟨partials, (leaveWordSync shown c).qlt.pilotRx.set c .start, ?_⟩
    change { (leaveWordSync shown c).qlt with pilotRx := (leaveWordSync shown c).qlt.pilotRx.set c .start } = _
    rw [hleft]
    rfl
  · exact ⟨_, _, rfl⟩

theorem aims_cprShow : Aims s (cprShow s c) := by
  obtain ⟨partials, searches, hshown⟩ := qlt_cprShow (s := s) (c := c)
  exact .of_steps (by rw [hshown])

theorem aims_enterCpr {st : Nat} : Aims s (enterCpr s c st) := by
  unfold enterCpr
  extract_lets was shown flushed r recorded
  have hstate : Aims s (s.set (.cpr c) CPR.STAT.STATE st) := .of_steps rfl
  have hshown : Aims s shown := hstate.trans aims_cprShow
  have hflushed : Aims shown flushed :=
    .ite ((Aims.within (cprFlush_within (Within.refl _ _) (Nat.or_self _)) (by decide)).trans (.of_steps rfl)) (.refl _)
  have hset (r : CarrierRec) : Aims flushed (setRec flushed c r) := .of_steps rfl
  have hrecorded : Aims flushed recorded := .ite (hset _) (.ite (hset _) (hset _))
  have hall : Aims s recorded := (hshown.trans hflushed).trans hrecorded
  exact .ite (hall.trans aims_cprUnsynchronise) hall

theorem aims_cprTrackLeft : Aims s (cprTrackLeft s c) := .ite (.refl s) aims_enterCpr

theorem aims_leaveTrack : Aims s (leaveTrack c s) := by
  unfold leaveTrack
  extract_lets lost cleared
  have hlost : Aims s lost := .of_steps rfl
  have hcleared : Aims lost cleared := .of_steps (by rfl)
  exact (hlost.trans hcleared).trans aims_cprTrackLeft

/-- Acquisition that ends leaves the steps' modes. -/
theorem aims_acqToIdle : Aims s (acqToIdle c s) := by
  unfold acqToIdle enterAcq
  extract_lets left shown source equaliser counted scan ended
  have hleft : Aims s left := .ite aims_leaveTrack (.refl s)
  have hshown : Aims left shown := .of_steps rfl
  have hsource : Aims shown source := .of_steps rfl
  have hcounted : Aims source counted := .of_steps rfl
  have hended : Aims counted ended := .of_steps rfl
  rw [if_neg (by decide : ¬acqIdleState = acqTrack)]
  exact .ite (.refl s) ((((hleft.trans hshown).trans hsource).trans hcounted).trans hended)

/-! ## Pages that stop -/

theorem aims_sessionDown : Aims s (sessionDown k s) := by
  have hlapsed (l : List Carrier) (v : State) : Aims v (l.foldl (fun s x => stepSessionLost x s) v) :=
    .foldl (fun u x => .within (stepSessionLost_within (Within.refl _ u) (Nat.or_self _)) (by decide)) l v
  have hleft : Aims s (leaveKeyed k s) := .ite ((hlapsed _ s).trans (.of_steps rfl)) (.refl s)
  have hdisowned : Aims (leaveKeyed k s) (disowned k (leaveKeyed k s)) := by
    unfold disowned
    exact .foldl (fun _ _ => .of_steps (by rfl)) _ _
  have hdown : Aims (disowned k (leaveKeyed k s)) (putSession (disowned k (leaveKeyed k s)) k .down) := .of_steps rfl
  have hshown (v : State) (b : Bool) : Aims v (showSessions (v.raiseIf b .qlt QLT.EVT.SESSION_DOWN)) := by
    cases b <;> exact .of_steps rfl
  rw [sessionDown_eq]
  exact ((hleft.trans hdisowned).trans hdown).trans (hshown _ _)

/-- What a page does as it leaves running leaves the steps' modes. -/
theorem aims_ownStop : Aims s (ownStop p s) := by
  cases p with
  | txp c => exact .within (txpStop_within (Within.refl _ s) (Nat.or_self _)) (by decide)
  | ltx n => exact .within (ltxStop_within (Within.refl _ s) (Nat.or_self _)) (by decide)
  | lrx n => exact (Aims.within (lrxStop_within (Within.refl _ s) (Nat.or_self _)) (by decide)).trans aims_acqToIdle
  | cdc c => exact aims_acqToIdle
  | trc c => exact aims_acqToIdle.trans (.within (lockClears_within (Within.refl _ _) (Nat.or_self _)) (by decide))
  | eqz c => exact (Aims.within (abortFade_within (Within.refl _ s) (Nat.or_self _)) (by decide)).trans aims_acqToIdle
  | cpr c => exact aims_cprTrackLeft
  | mls c => exact aims_cprUnsynchronise
  | dmp c => exact aims_fecUnsynchronised
  | fec c => exact aims_fecUnsynchronised
  | lfm c => exact aims_frameHunt
  | cry c => exact .within (cryStop_within (Within.refl _ s) (Nat.or_self _)) (by decide)
  | cpc c => exact .within (cpcStop_within (Within.refl _ s) (Nat.or_self _)) (by decide)
  | clx n => exact .within (clxFollow_within (Within.refl _ s) (Nat.or_self _)) (by decide)
  | syn n => exact .within (synStop_within (Within.refl _ s) (Nat.or_self _)) (by decide)
  | rps => exact .within (rpsStop_within (Within.refl _ s) (Nat.or_self _)) (by decide)
  | qlt => exact aims_sessionDown.trans aims_sessionDown
  | fes => exact .within (fesStop_within (Within.refl _ s) (Nat.or_self _)) (by decide)
  | rk n => exact .within (coreHalt_within (Within.refl _ s) (Nat.or_self _)) (by decide)
  | _ => exact .refl s

theorem aims_enterStopping : Aims s (enterStopping p s) := by
  have hstopping : Aims s (s.setRun p .stopping) := .of_steps rfl
  have hstopped := (hstopping.trans aims_ownStop).trans
    (.of_steps rfl : Aims _ ((ownStop p (s.setRun p .stopping)).setRun p .stopping))
  exact hstopped.trans (.within (fesFollowBoth_within (Within.refl _ _) (Nat.or_self _)) (by decide))

/-! ## Pages that start -/

/-- Live fields that come into force leave the steps' modes (R44, R55). -/
theorem aims_liveApplied {off : Nat} {old new : Word} : Aims s (liveApplied p off old new s) := by
  cases p with
  | hk n => exact .within (hkWritten_within (Within.refl _ s) (Nat.or_self _)) (by decide)
  | aux => exact .within (auxWritten_within (Within.refl _ s) (Nat.or_self _)) (by decide)
  | lrx n => exact .within (lrxWritten_within (Within.refl _ s) (Nat.or_self _)) (by decide)
  | txp c => exact .ite (.of_steps rfl) (.refl s)
  | cdc c => exact .within (cdcWritten_within (Within.refl _ s) (Nat.or_self _)) (by decide)
  | cpr c => exact .ite aims_cprShow (.ite (.ite (.of_steps rfl) (.refl s)) (.refl s))
  | mls c => exact .within (mlsWritten_within (Within.refl _ s) (Nat.or_self _)) (by decide)
  | clx n => exact .within (clxWritten_within (Within.refl _ s) (Nat.or_self _)) (by decide)
  | _ => exact .refl s

theorem aims_applyStaged {due : Page → Nat → Bool} : Aims s (applyStaged due s) := by
  refine .foldl (fun v w => ?_) _ s
  unfold applyLive
  split
  · exact .refl v
  · next q _ => exact (Aims.of_steps rfl : Aims v (setWord (unstage w.addr v) q _ _)).trans aims_liveApplied

theorem aims_enterStarting : Aims s (enterStarting p s) := by
  have hstarting : Aims s ((s.setRun p .starting).set p HDR.RUNSTAT.FAULT 0) := .of_steps rfl
  exact (hstarting.trans aims_applyStaged).trans (.within (ownStart_within (Within.refl _ _) (Nat.or_self _)) (by decide))

/-! ## Writes of registers -/

/-- A change of the parts `K` leaves what `g` reads. -/
def Apart {α : Type} (K : Nat) (g : State → α) : Prop := ∀ s t, Within K s t → g t = g s

/-- A write reaches Quolet's state through its effect alone. -/
theorem apart_of_qlt {α : Type} (g : Quolet → α) (p : Page) : Apart (anyWrite ||| pageBit p) fun s => g s.qlt := fun _ _ hw =>
  congrArg g (hw.qlt (by rw [Nat.testBit_or]; cases p <;> simp <;> decide))

section write

variable {α : Type} {g : State → α} {o : Origin} {off : Nat} {v : Word} {env : List Int}

theorem kept_writePage (hg : Apart (anyWrite ||| pageBit p) g) (hu : ∀ old u, g (unchangedWritten p off old v u) = g u)
    (he : ∀ old u, g (writeEffect o p off old v env u) = g u) : g (writePage o p off v env s) = g s := by
  have hrecorded : g (recorded o p off v env s) = g s :=
    hg _ _ (recorded_within (Within.sub (part_left anyWrite _) (by decide)) (part_right _ _))
  have hrefused (r : Reason) : g (refuseWrite o p off v r s) = g s :=
    hg _ _ (refuseWrite_within (Within.refl _ s) (Within.sub (part_left anyWrite _) (by decide)) (part_right _ _))
  unfold writePage
  split
  · split
    · rw [acceptWrite_eq]
      exact (he _ _).trans hrecorded
    · exact hu _ _
  · exact hrefused _

/-- A write leaves what neither its record nor its effect reaches. -/
theorem kept_writeReg (hg : Apart (anyWrite ||| pageBit p) g) (hu : ∀ old u, g (unchangedWritten p off old v u) = g u)
    (hoff : off < 0x1000) (he : ∀ old u, g (writeEffect o p off old v env u) = g u) :
    g (writeReg o (pageBase p + off) v env s) = g s := by
  unfold writeReg
  rw [writeOnce_page hoff]
  exact (hg _ _ (ringFollow_narrow (Within.refl _ _) (part_left _ _))).trans (kept_writePage hg hu he)

/-- The effect of a write beyond the header is its block's. -/
theorem kept_writeEffect (hlo : 0x40 ≤ off) (hb : ∀ old new u, g (blockWritten o p off old new env u) = g u) (old : Word)
    (u : State) : g (writeEffect o p off old v env u) = g u := by
  unfold writeEffect
  rw [if_neg (Nat.not_lt.mpr hlo)]
  dsimp only
  split
  · split
    · rfl
    · exact hb _ _ _
  · exact hb _ _ _

theorem kept_writeField {f : Field} {n : Nat} (hg : Apart (anyWrite ||| pageBit p) g)
    (hu : ∀ old v u, g (unchangedWritten p f.off old v u) = g u) (hlo : 0x40 ≤ f.off) (hhi : f.off < 0x1000)
    (hb : ∀ old new u, g (blockWritten o p f.off old new [] u) = g u) : g (writeField o p f n s) = g s :=
  kept_writeReg hg (fun old u => hu old _ u) hhi (kept_writeEffect hlo hb)

/-- The modes that the carriers' steps go to. -/
def stepModes (q : Quolet) : Carrier → Nat := fun x => (q.steps.get x).toMode

theorem aims_iff : Aims s t ↔ stepModes t.qlt = stepModes s.qlt := ⟨funext, congrFun⟩

theorem aims_unchangedWritten {old : Word} : Aims s (unchangedWritten p off old v s) :=
  .within (unchangedWritten_within (Within.refl _ s) (Nat.or_self _)) (by decide)

theorem aims_writeField {f : Field} {n : Nat} (hlo : 0x40 ≤ f.off) (hhi : f.off < 0x1000)
    (hb : ∀ old new u, Aims u (blockWritten o p f.off old new [] u)) : Aims s (writeField o p f n s) :=
  aims_iff.mpr (kept_writeField (apart_of_qlt stepModes p) (fun _ _ _ => aims_iff.mp aims_unchangedWritten) hlo hhi
    fun old new u => aims_iff.mp (hb old new u))

/-- A RUN or a STOP leaves the steps' modes. -/
theorem aims_writeRunctl {cmd : Nat} : Aims s (writeRunctl o p cmd s) := by
  refine aims_iff.mpr (kept_writeReg (apart_of_qlt stepModes p) (fun _ _ => aims_iff.mp aims_unchangedWritten) (by decide)
    fun old u => aims_iff.mp ?_)
  change Aims u (headerWritten p HDR.RUNCTL.CMD.off _ u)
  unfold headerWritten
  rw [if_pos rfl]
  split
  · exact aims_enterStarting
  · exact .ite (aims_enterStopping.trans (.within (governorFollow_within (Within.refl _ _) (Nat.or_self _)) (by decide)))
      aims_enterStopping
  · exact .refl u

end write

/-! ## A fallback (R264) -/

theorem aims_presetFine {applied : Int} : Aims s (presetFine c applied s) := by
  have hset (f : Field) (n : Nat) (v : State) (hlo : 0x40 ≤ f.off) (hhi : f.off < 0x1000) :
      Aims v (writeField (supervisor c) (.cdc c) f n v) :=
    aims_writeField hlo hhi fun _ _ u => .within (cdcWritten_within (Within.refl _ u) (Nat.or_self _)) (by decide)
  exact (hset CDC.CD_SET.CD _ s (by decide) (by decide)).trans (hset CDC.CTL.CD_MODE _ _ (by decide) (by decide))

/-- Stopped, changed and run again, the carriers keep the modes their steps go to. -/
theorem aims_restartCarriers {xs : List Carrier} {mode : Carrier → Nat} : Aims s (restartCarriers xs mode s) := by
  have hstop (v : State) (q : Page) : Aims v (stopAndWait v q) := aims_writeRunctl.trans (.ite (.of_steps rfl) (.refl _))
  have hmode (v : State) (y : Carrier) : Aims v (writeField (.rk 0) (.lfm y) LFM.MODE.MODE (mode y) v) :=
    aims_writeField (by decide) (by decide) fun _ _ u => .refl u
  have herase (v : State) (y : Carrier) : Aims v (eraseSlots v y) :=
    .within (eraseSlots_within (Within.refl _ v) (Nat.or_self _)) (by decide)
  unfold restartCarriers
  extract_lets pages applied stopped preset moded erased
  have hstopped : Aims s stopped := .foldl hstop _ s
  have hpreset : Aims stopped preset := .foldl (fun _ _ => aims_presetFine) _ _
  have hmoded : Aims preset moded := .foldl hmode _ _
  have herased : Aims moded erased := .foldl herase _ _
  exact (((hstopped.trans hpreset).trans hmoded).trans herased).trans (.foldl (fun _ _ => aims_writeRunctl) _ _)

theorem aims_noteRestarted (l : List Carrier) (s : State) : Aims s (l.foldl noteRestarted s) := by
  refine .foldl (fun u x => ?_) l s
  have hput : Aims u (putStep u x { stepOf u x with restarted := true, locked := false, failed := false }) := .putStep rfl
  exact hput.trans (.of_steps rfl)

/-- Every carrier of a fallback goes to its previous rung. -/
theorem foldl_noteFallback {l : List Carrier} {mode : Carrier → Nat} (hx : x ∈ l) :
    (stepOf (l.foldl (fun s y => noteFallback (mode y) s y) s) x).toMode = mode x := by
  have hsame (u : State) : (stepOf (noteFallback (mode x) u x) x).toMode = mode x :=
    congrArg StepRecord.toMode (stepOf_putStep (s := u) (x := x) _)
  refine foldl_establishes (P := fun u => (stepOf u x).toMode = mode x) (f := fun s y => noteFallback (mode y) s y)
    (fun u y hu => ?_) hsame l s hx
  by_cases hy : y = x
  · exact hy ▸ hsame u
  · exact (congrArg StepRecord.toMode (stepOf_putStep_other (s := u) (z := y) _ hy) :).trans hu

theorem fallback_facts (hstate : rateState s x = rsRestarting) (hrestarted : (stepOf s x).restarted = true)
    (hover : stepTimedOut s x = true ∨ (stepOf s x).failed = true) : rateState (fallback x s) x = rsRestarting ∧
    (stepOf (fallback x s) x).toMode = fallbackMode s x := by
  have hdue : ((decide (rateState s x = rsRestarting) && (stepOf s x).restarted && (stepTimedOut s x || (stepOf s x).failed)) ||
      (decide (rateState s x = rsConfirming) && (stepOf s x).failed)) = true := by
    rw [hstate, hrestarted, Bool.or_eq_true_iff.mpr hover]
    rfl
  simp only [fallback, hdue, if_true, List.foldl_map]
  refine ⟨(foldl_noteRestarted mem_stepCarriers).1, ?_⟩
  exact (aims_noteRestarted _ _ x).trans ((aims_restartCarriers x).trans ((aims_noteRestarted _ _ x).trans
    (foldl_noteFallback mem_stepCarriers)))

/-- Settles O27: each command of a rate step, and the agreed sleep that falls due, from the lemma on its operation. -/
theorem rateStepCommandsComplete : Obligations.RateStepCommandsComplete := by
  refine ⟨?offer, ?deadline, ?restart, ?lapse, ?confirming, ?done, ?fallback, ?down, ?backoff, ?sleep⟩
  case offer =>
    rintro x k s ⟨howner, hkeyed, hrole, hauto⟩ ⟨hjoint, hready, hreceive⟩
    have hsent := stepOffer_of_ready howner hkeyed hrole hauto hjoint hready hreceive
    refine ends_of_result (u := stepOffer x s) rfl (fun _ _ h => h) ?_
    rw [hsent.rateState, hsent.stepOf]
    exact stepOffered_facts
  case deadline =>
    rintro x s ⟨hstate, hlate⟩
    exact ends_of_result (u := offerDeadline x s) rfl (fun _ _ h => h) (offerDeadline_of_late hstate hlate)
  case restart =>
    intro x s hdue
    obtain ⟨u, hrestarted⟩ := stepRestart_of_due hdue
    refine ends_of_result (u := stepRestart x s) rfl (fun _ _ h => h) ?_
    rw [hrestarted]
    exact foldl_noteRestarted mem_stepCarriers
  case lapse =>
    intro x jump s hstate hlate
    refine ends_of_result (congrArg (endsIn s) (armed_lapses hstate hlate)) (fun _ _ h => h) rateState_stepLapse
  case confirming =>
    rintro x s ⟨hstate, hrestarted, hlocked, hframe, htime⟩
    exact ends_of_result (u := stepConfirming x s) rfl (fun _ _ h => h)
      (stepConfirming_of_locked hstate hrestarted hlocked hframe htime)
  case done =>
    rintro x s ⟨hstate, hfailed, hkind, hheld⟩
    exact ends_of_result (u := stepDone x s) rfl (fun _ _ h => h) (stepDone_facts hstate hfailed hkind hheld)
  case fallback =>
    rintro x s ⟨hstate, hrestarted⟩ hover
    exact ends_of_result (u := fallback x s) rfl (fun _ _ h => h) (fallback_facts hstate hrestarted hover)
  case down =>
    rintro x k mode s ⟨howner, hstate, hdue, hto⟩
    exact ends_of_result (u := stepDown x s) rfl (fun _ _ h => h) (stepDown_facts howner hstate hdue (by rw [hto]; rfl))
  case backoff =>
    rintro x step s ⟨hwaiting, hpassed⟩
    refine ends_of_result (u := backoffEnd x s) rfl (fun _ _ h => h) ?_
    rw [backoffEnd_of_passed hwaiting hpassed, stepOf_putStep]
  case sleep =>
    rintro p s ⟨hplan, hruns, hroom, hpassed⟩
    exact ends_of_result (u := sleepDue s) rfl (fun _ _ h => h) (seq_sleepDue hplan hruns hroom hpassed)

end Sys2Proof.Keying
end

section
/-! SUPPORT. Messages of a handshake (R254 to R256, R260): how one in turn is received, and what the checks of a handshake leave. -/
namespace Sys2Proof.Keying

open Sys2Proof Sys2Proof.Machine Sys2Proof.Safety Sys2Proof.Architecture Sys2Proof.Control Sys2Proof.LineFraming
open Sys2Proof.LineTransmit

variable {j k x : Carrier} {type : Nat} {m : Message} {s s0 t u : State}

/-! ## What transport leaves of the session's checks -/

namespace Carried

theorem heldKem (h : Carried s t) (j : Carrier) : (session t j).heldKem = (session s j).heldKem :=
  (congrArg Session.heldKem (h.sessions j) :)

theorem peer (h : Carried s t) (j : Carrier) : (session t j).peer = (session s j).peer :=
  (congrArg Session.peer (h.sessions j) :)

theorem nonce (h : Carried s t) (j : Carrier) : (session t j).nonce = (session s j).nonce :=
  (congrArg Session.nonce (h.sessions j) :)

theorem awaitHello (h : Carried s t) (j : Carrier) : (session t j).awaitHello = (session s j).awaitHello :=
  (congrArg Session.awaitHello (h.sessions j) :)

theorem confirmed (h : Carried s t) (j : Carrier) : (session t j).confirmed = (session s j).confirmed :=
  (congrArg Session.confirmed (h.sessions j) :)

theorem confirmSent (h : Carried s t) (j : Carrier) : (session t j).confirmSent = (session s j).confirmSent :=
  (congrArg Session.confirmSent (h.sessions j) :)

theorem epoch (h : Carried s t) (j : Carrier) : (session t j).epoch = (session s j).epoch :=
  (congrArg Session.epoch (h.sessions j) :)

theorem peerMessage (h : Carried s t) (j : Carrier) (type : Nat) : peerMessage t j type = peerMessage s j type := by
  simp only [Machine.peerMessage, h.peer]

theorem peerBody (h : Carried s t) (j : Carrier) (type : Nat) : peerBody t j type = peerBody s j type := by
  simp only [Machine.peerBody, h.peerMessage]

theorem ownRole (h : Carried s t) : ownRole t = ownRole s := by
  have hstrap : t.qlt.strapRole = s.qlt.strapRole := (congrArg Quolet.strapRole h.qlt :)
  rw [Machine.ownRole, hstrap, flag_of_get (h.get (by decide)), h.get (by decide), Machine.ownRole]

theorem txSlot (h : Carried s t) (c : Carrier) (i : Nat) : txSlot t c i = txSlot s c i := by
  rw [Machine.txSlot, h.within.cipher (by decide), Machine.txSlot]

theorem activationCsf (h : Carried s t) (c : Carrier) : activationCsf t c = activationCsf s c := by
  simp only [Machine.activationCsf, State.pair, h.get_page (p := .cry c) (by simp)]

end Carried

/-! ## What is sent changes MSG_TX alone -/

theorem get_sendWith {body : List Byte} {key : Option MacKey} {p : Page} {f : Field}
    (h : QLT.MSG_TX.COUNT.off ≠ f.off % 0x1000) : (sendWith k type body key s).get p f = s.get p f := by
  have hsent {b : Prop} [Decidable b] (r : Session) (ws : List (BitVec 64)) :
      (if b then queueWords ((putSession s k r).bump .qlt QLT.MSG_TX.COUNT) k ws
        else (putSession s k r).bump .qlt QLT.MSG_TX.COUNT).get p f = s.get p f := by
    have hcount : ((putSession s k r).bump .qlt QLT.MSG_TX.COUNT).get p f = s.get p f := get_set_apart h
    split
    · exact (get_queueWords _ _).trans hcount
    · exact hcount
  unfold sendWith
  split
  · exact hsent _ _
  · exact hsent _ _

theorem get_switchReport {p : Page} {f : Field} (h : QLT.MSG_TX.COUNT.off ≠ f.off % 0x1000) :
    (switchReport s).get p f = s.get p f := by
  unfold switchReport
  split
  · split
    · split
      · exact get_sendWith h
      · rfl
    · rfl
  · rfl

/-- An accepted message is counted (R254). -/
theorem counted_accepted : Counted .qlt QLT.MSG_RX.COUNT s (accepted k m s) := by
  have hfold {α : Type} (f : State → α → State) (l : List α) (v : State)
      (hf : ∀ u a, (f u a).get .qlt QLT.MSG_RX.COUNT = u.get .qlt QLT.MSG_RX.COUNT) :
      (l.foldl f v).get .qlt QLT.MSG_RX.COUNT = v.get .qlt QLT.MSG_RX.COUNT := foldl_fixes (g := (State.get · _ _)) hf l v
  have hinband (v : State) : (noteInband k m v).get .qlt QLT.MSG_RX.COUNT = v.get .qlt QLT.MSG_RX.COUNT :=
    hfold _ _ _ fun _ _ => rfl
  have hacknowledged (v : State) : (acknowledge k m.ack v).get .qlt QLT.MSG_RX.COUNT = v.get .qlt QLT.MSG_RX.COUNT := by
    refine (hfold _ _ _ fun _ _ => get_queueWords _ _).trans (hfold _ _ _ fun u y => ?_)
    split <;> rfl
  exact (hinband _).trans ((hacknowledged _).trans (get_bump_same _ _ _ (by decide)))

/-- The cause of a discarded message (R269). -/
theorem lastCause_discard {cause : Nat} (h : cause < 2 ^ QLT.DISCARD.LAST_CAUSE.width) :
    (Machine.discard cause s).get .qlt QLT.DISCARD.LAST_CAUSE = cause := by
  have hset : ((s.bump .qlt QLT.DISCARD.COUNT).set .qlt QLT.DISCARD.LAST_CAUSE cause).get .qlt QLT.DISCARD.LAST_CAUSE = cause :=
    (get_set_same _ _ _ _ (by decide)).trans (Nat.mod_eq_of_lt h)
  unfold Machine.discard State.raiseIf
  split
  · exact (get_raise (by decide)).trans hset
  · exact hset

/-- A discard leaves every register but its own and the events. -/
theorem get_discard {cause : Nat} {p : Page} {f : Field} (hf : QLT.DISCARD.COUNT.off ≠ f.off % 0x1000)
    (hevt : HDR.EVT_RAW.EVT.off ≠ f.off % 0x1000) : (Machine.discard cause s).get p f = s.get p f := by
  have hset : ((s.bump .qlt QLT.DISCARD.COUNT).set .qlt QLT.DISCARD.LAST_CAUSE cause).get p f = s.get p f :=
    (get_set_apart (by exact hf)).trans (get_set_apart (by exact hf))
  unfold Machine.discard State.raiseIf
  split
  · exact (get_raise hevt).trans hset
  · exact hset

theorem session_discard {cause : Nat} (j : Carrier) : session (discard cause s) j = session s j := by
  unfold Machine.discard State.raiseIf
  split <;> rfl

/-! ## A message in turn -/

/-- What follows the delivery of a message in turn: what was held after it, or, where it was not acknowledged, the sequence as it
stood (R255). -/
def turnSettled (k : Carrier) (s : State) (r : State × Bool) : State :=
  if r.2 then releaseAhead windowSize k r.1
  else putSession r.1 k { session r.1 k with recvSeq := (session s k).recvSeq, ackDue := (session s k).ackDue }

theorem turnSettled_acknowledged (h : (session u k).ahead = []) : turnSettled k s (u, true) = u := releaseAhead_of_none h

/-- A message other than ACK and HELLO that is next in sequence is delivered (R254, R255). -/
theorem receiveMessage_delivered (hruns : quoletRuns s = true) (howner : ownerOf s x = some k)
    (hup : (session s k).state ≠ sessDown) (hhello : (session s k).awaitHello = false) (hseq : m.seq = (session s k).recvSeq)
    (hack : type ≠ tAck) (hnothello : type ≠ tHello) :
    receiveMessage x type m s = turnSettled k s (deliver k x type m (turnTaken k s)) := by
  have hnone : ¬ (session s k).awaitHello = true := by rw [hhello]; decide
  simp only [receiveMessage, hruns, howner, hup, hack, hnothello, Bool.not_true, Bool.false_eq_true, if_false, decide_false,
    Bool.false_and]
  rw [if_neg hnone, if_neg hseq.not_lt, if_neg hseq.symm.not_lt]
  rfl

theorem sigGood_turnTaken : sigGood (turnTaken k s) k type m = sigGood s k type m := by
  simp only [sigGood, turnTaken, session_putSession]

/-- A message that its session's state lets through, of a TYPE other than ACK and HELLO. -/
structure Admitted (k : Carrier) (type : Nat) (s : State) : Prop where
  notAck : type ≠ tAck
  notHello : type ≠ tHello
  known : typeKnown type = true
  up : (session s k).state ≠ sessDown
  early : typeEarly type = true

/-- It is accepted and acts, or, with a bad signature, is discarded. -/
theorem deliver_admitted (h : InTurn x k type m s) (ha : Admitted k type s) : deliver k x type m (turnTaken k s) =
    if sigGood s k type m then (handle k x type m (accepted k m (turnTaken k s)), true)
    else (discard dcSig (turnTaken k s), false) := by
  obtain ⟨-, -, -, -, -, hmac, hlength⟩ := h
  simp only [deliver, macGood_turnTaken, sigGood_turnTaken, hmac, ha.known, hlength, ha.early, Bool.not_true, Bool.and_false,
    Bool.false_eq_true, if_false]
  cases sigGood s k type m <;> rfl

/-- A command that brings such a message ends in what the message does, but for transport; with a bad signature the message is
counted as discarded. -/
theorem ends_of_admitted {c : Instr} {P : State → Prop} (hc : exec c s = endsIn s (switchReport (receiveMessage x type m s)))
    (h : InTurn x k type m s) (ha : Admitted k type s)
    (hahead : ∀ u, Carried s u → (session (handle k x type m u) k).ahead = (session u k).ahead)
    (hP : ∀ u t, Carried s u → Carried (handle k x type m u) t → P t) : Ends c s fun t =>
      (sigGood s k type m = true → P t) ∧
      (sigGood s k type m = false → t.get .qlt QLT.DISCARD.LAST_CAUSE = dcSig) := by
  have ⟨hruns, howner, hhello, hnone, hseq, _⟩ := h
  have hreceived := receiveMessage_delivered (type := type) hruns howner ha.up hhello hseq ha.notAck ha.notHello
  rw [deliver_admitted h ha] at hreceived
  by_cases hsig : sigGood s k type m = true
  · have hu : Carried s (accepted k m (turnTaken k s)) := ((Carried.refl s).putSession rfl).accepted
    rw [if_pos hsig, turnSettled_acknowledged ((hahead _ hu).trans ((hu.ahead k).trans hnone))] at hreceived
    rw [hreceived] at hc
    exact ends_of_endsIn hc ⟨fun _ => hP _ _ hu ((Carried.refl _).switchReport.setPending _),
      fun hbad => absurd hsig (by rw [hbad]; decide)⟩
  · rw [if_neg hsig] at hreceived
    rw [hreceived] at hc
    refine ends_of_endsIn hc ⟨fun hgood => absurd hgood hsig, fun _ => ?_⟩
    exact (get_switchReport (by decide)).trans (lastCause_discard (s := turnTaken k s) (by decide))

/-! ## The checks between NEGOTIATE and KEYING (R260) -/

/-- From `s` to `t` session `k` has taken nothing more from its peer and holds no KEM_INIT it did not hold, and no session has
become KEYED. -/
structure Checked (k : Carrier) (s t : State) : Prop where
  awaitHello : (session t k).awaitHello = (session s k).awaitHello
  recvSeq : (session t k).recvSeq = (session s k).recvSeq
  ahead : (session t k).ahead = (session s k).ahead
  peer : (session t k).peer = (session s k).peer
  held : (session s k).heldKem = none → (session t k).heldKem = none
  keyed : ∀ j, (session t j).state = sessKeyed → (session s j).state = sessKeyed

namespace Checked

theorem refl (s : State) : Checked k s s := ⟨rfl, rfl, rfl, rfl, id, fun _ => id⟩

theorem trans (h : Checked k s t) (g : Checked k t u) : Checked k s u where
  awaitHello := g.awaitHello.trans h.awaitHello
  recvSeq := g.recvSeq.trans h.recvSeq
  ahead := g.ahead.trans h.ahead
  peer := g.peer.trans h.peer
  held := g.held ∘ h.held
  keyed j := h.keyed j ∘ g.keyed j

theorem ite {b : Prop} [Decidable b] (hs : b → Checked k s0 s) (ht : ¬b → Checked k s0 t) :
    Checked k s0 (if b then s else t) := by
  split
  · exact hs ‹_›
  · exact ht ‹_›

theorem of_sessions (h : ∀ j, session t j = session s j) : Checked k s t := by
  refine ⟨?_, ?_, ?_, ?_, ?_, fun j => ?_⟩ <;> rw [h]
  · exact id
  · exact id

/-- Transport that leaves the sequence number of session `k`. -/
theorem of_carried (h : Carried s t) (hseq : (session t k).recvSeq = (session s k).recvSeq) : Checked k s t where
  awaitHello := h.awaitHello k
  recvSeq := hseq
  ahead := h.ahead k
  peer := h.peer k
  held hnone := (h.heldKem k).trans hnone
  keyed j hj := (h.state j).symm.trans hj

theorem putSession {r : Session} (hawait : r.awaitHello = (session s k).awaitHello) (hseq : r.recvSeq = (session s k).recvSeq)
    (hahead : r.ahead = (session s k).ahead) (hpeer : r.peer = (session s k).peer)
    (hheld : (session s k).heldKem = none → r.heldKem = none) (hkeyed : r.state = sessKeyed → (session s k).state = sessKeyed) :
    Checked k s (putSession s k r) := by
  refine ⟨?_, ?_, ?_, ?_, ?_, fun j hj => ?_⟩
  · rw [session_putSession, hawait]
  · rw [session_putSession, hseq]
  · rw [session_putSession, hahead]
  · rw [session_putSession, hpeer]
  · rwa [session_putSession]
  · by_cases hjk : j = k
    · subst hjk
      rw [session_putSession] at hj
      exact hkeyed hj
    · rwa [session_putSession_other _ hjk] at hj

end Checked

theorem recvSeq_sendWith {body : List Byte} {key : Option MacKey} (j : Carrier) :
    (session (sendWith k type body key s) j).recvSeq = (session s j).recvSeq := by
  have hsent {b : Prop} [Decidable b] (r : Session) (ws : List (BitVec 64)) (hr : r.recvSeq = (session s k).recvSeq) :
      (session (if b then queueWords ((putSession s k r).bump .qlt QLT.MSG_TX.COUNT) k ws
        else (putSession s k r).bump .qlt QLT.MSG_TX.COUNT) j).recvSeq = (session s j).recvSeq := by
    have hput : (session ((putSession s k r).bump .qlt QLT.MSG_TX.COUNT) j).recvSeq = (session s j).recvSeq :=
      session_putSession_eq Session.recvSeq hr j
    split
    · rw [session_queueWords, hput]
    · exact hput
  unfold sendWith
  split
  · exact hsent _ _ rfl
  · exact hsent _ _ rfl

theorem checked_send {body : List Byte} : Checked k s (send j type body s) := .of_carried (Carried.refl s).send (recvSeq_sendWith k)

theorem checked_showSessions : Checked k s (showSessions s) := .of_sessions session_showSessions

theorem checked_randomDrawn : Checked k s s.randomDrawn := .of_sessions fun _ => rfl

theorem checked_switchReport : Checked k s (switchReport s) := by
  unfold switchReport
  split
  · split
    · refine .ite (fun _ => ?_) fun _ => .refl s
      have hclear : Checked k s (s.setRps { s.rps with doneDue := false }) := .of_sessions fun _ => rfl
      exact hclear.trans checked_send
    · exact .refl s
  · exact .refl s

theorem checked_sessionFailed {cause : Nat} : Checked k s (sessionFailed k cause s) := by
  refine ⟨?_, ?_, ?_, ?_, ?_, fun j hj => ?_⟩
  · rw [session_sessionFailed]
  · rw [session_sessionFailed]
  · rw [session_sessionFailed]
  · rw [session_sessionFailed]
  · rw [session_sessionFailed]
    exact fun _ => rfl
  · by_cases hjk : j = k
    · subst hjk
      rw [session_sessionFailed] at hj
      exact absurd (show sessFailed = sessKeyed from hj) (by decide)
    · rwa [session_sessionFailed_other hjk] at hj

theorem checked_failHandshake {seqNo reason : Nat} : Checked k s (failHandshake k type seqNo reason s) := by
  unfold failHandshake
  exact ((Checked.of_sessions fun j => session_raiseIf j).trans checked_send).trans checked_sessionFailed

/-- Another session that is replaced by one that is not KEYED. -/
theorem checked_putOther {r : Session} (h : k ≠ x) (hr : r.state ≠ sessKeyed) : Checked k s (putSession s x r) := by
  have hsame := session_putSession_other (s := s) r h
  refine ⟨by rw [hsame], by rw [hsame], by rw [hsame], by rw [hsame], by rw [hsame]; exact id, fun j hj => ?_⟩
  by_cases hjx : j = x
  · subst hjx
    rw [session_putSession] at hj
    exact absurd hj hr
  · rwa [session_putSession_other _ hjx] at hj

theorem checked_wakeAnnounced : Checked k s (wakeAnnounced x s) := by
  unfold wakeAnnounced
  split
  · have hclear : Checked k s (s.setQlt { s.qlt with wakeDue := none }) := .of_sessions fun _ => rfl
    exact hclear.trans checked_send
  · exact .refl s

/-- An exchange of another session that opens leaves session `k` as it was. -/
theorem checked_enterNegotiate (h : k ≠ x) : Checked k s (enterNegotiate x s) := by
  by_cases hallowed : handshakeAllowed s = true
  · have hleft : Checked k s (leaveKeyed x s).randomDrawn := .of_sessions (leaveKeyed_keeps x s).1
    have hopened : Checked k s (exchangeOpened x s) :=
      hleft.trans (checked_putOther h (show sessNegotiate ≠ sessKeyed by decide))
    have hsent : Checked k s (helloSent x s) := (hopened.trans checked_wakeAnnounced).trans checked_send
    rw [enterNegotiate_of_allowed hallowed]
    exact (hsent.trans checked_send).trans checked_showSessions
  · rw [enterNegotiate, if_pos (by simpa using hallowed)]
    exact .refl s

theorem checked_startSession (h : k ≠ x) : Checked k s (startSession x s) := by
  have howned : Checked k s (s.setQlt { s.qlt with owner := s.qlt.owner.set x (some x) }) := .of_sessions fun _ => rfl
  exact (howned.trans (checked_putOther h (by decide))).trans (checked_enterNegotiate h)

theorem carrier_ne_other (k : Carrier) : k ≠ k.other := by cases k <;> decide

theorem checked_confirmMembers {key : List Byte} : Checked k s (confirmMembers k key s) := by
  unfold confirmMembers
  dsimp only
  split
  · exact .ite (fun _ => checked_startSession (carrier_ne_other k)) fun _ => .refl s
  · exact .refl s

theorem checked_kemSeed {seed : Option (BitVec 512 × Nat)} :
    Checked k s (putSession s.randomDrawn k { session s k with kemSeed := seed }) :=
  checked_randomDrawn.trans (.putSession rfl rfl rfl rfl id id)

/-- The checks take nothing from the peer, whether they pass or fail, where no KEM_INIT waits for them. -/
theorem checked_tryKeying (hheld : (session s k).heldKem = none) : Checked k s (tryKeying k s) := by
  unfold tryKeying
  extract_lets ses
  split
  · next h c a _ _ _ =>
    refine .ite (fun _ => .refl s) fun _ => ?_
    refine .ite (fun _ => checked_failHandshake) fun _ => .ite (fun _ => checked_failHandshake) fun _ =>
      .ite (fun _ => checked_failHandshake) fun _ => .ite (fun _ => checked_failHandshake) fun _ =>
      .ite (fun _ => checked_failHandshake) fun _ => .ite (fun _ => checked_failHandshake) fun _ => ?_
    extract_lets keying entered seed record seeded
    have hkeying : Checked k s keying := .putSession rfl rfl rfl rfl id fun hk =>
      absurd (show sessKeying = sessKeyed from hk) (by decide)
    have hentered : Checked k s entered := (hkeying.trans checked_confirmMembers).trans checked_showSessions
    refine .ite (fun _ => ?_) fun _ => ?_
    · have hseeded : Checked k entered seeded := checked_kemSeed
      exact (hentered.trans hseeded).trans checked_send
    · have hnone : (session entered k).heldKem = none := hentered.held hheld
      split
      · next hsome => exact absurd (hsome.symm.trans hnone) (Option.some_ne_none _)
      · exact hentered
  · exact .refl s

end Sys2Proof.Keying
end

section
/-! SUPPORT. What each message of a handshake does (R254 to R256, R260, R461), and O24. -/
namespace Sys2Proof.Keying

open Sys2Proof Sys2Proof.Machine Sys2Proof.Safety Sys2Proof.Architecture Sys2Proof.Control Sys2Proof.LineFraming
open Sys2Proof.LineTransmit

variable {c j k x : Carrier} {type : Nat} {m : Message} {s t u : State}

/-! ## ACK and an unknown TYPE -/

/-- An ACK is accepted whatever its sequence number (R255). -/
theorem receiveMessage_ack (hruns : quoletRuns s = true) (howner : ownerOf s x = some k) (hup : (session s k).state ≠ sessDown)
    (hmac : macGood s k tAck m = true) (hbody : m.body = []) : receiveMessage x tAck m s = accepted k m s := by
  have hnothello : tAck ≠ tHello := by decide
  have hlength : lengthFits tAck m.body = true := by rw [hbody]; rfl
  simp only [receiveMessage, hruns, howner, hup, hmac, hlength, hnothello, Bool.not_true, Bool.false_eq_true, if_false,
    decide_false, Bool.false_and, if_true]

/-- A message of an unknown TYPE is acknowledged, and discarded (R256, R269). -/
theorem receiveMessage_unknown (hruns : quoletRuns s = true) (howner : ownerOf s x = some k)
    (hup : (session s k).state ≠ sessDown) (hhello : (session s k).awaitHello = false) (hahead : (session s k).ahead = [])
    (hseq : m.seq = (session s k).recvSeq) (hmac : macGood s k type m = true) (hsig : sigGood s k type m = true)
    (htype : tRefuse < type) :
    receiveMessage x type m s = Machine.discard dcUnknown (accepted k m (turnTaken k s)) := by
  have hack : type ≠ tAck := fun he => by rw [he] at htype; exact absurd htype (by decide)
  have hnothello : type ≠ tHello := fun he => by rw [he] at htype; exact absurd htype (by decide)
  have hunknown : typeKnown type = false := decide_eq_false (Nat.not_le.mpr htype)
  have hdeliver : deliver k x type m (turnTaken k s) = (Machine.discard dcUnknown (accepted k m (turnTaken k s)), true) := by
    simp only [deliver, macGood_turnTaken, sigGood_turnTaken, hmac, hsig, hunknown, Bool.not_true, Bool.not_false,
      Bool.false_eq_true, if_false, if_true]
  have hu : Carried s (accepted k m (turnTaken k s)) := ((Carried.refl s).putSession rfl).accepted
  rw [receiveMessage_delivered hruns howner hup hhello hseq hack hnothello, hdeliver, turnSettled_acknowledged]
  rw [session_discard, hu.ahead, hahead]

/-! ## HELLO -/

theorem firstHelloOn_keeps : (∀ y, ownerOf (firstHelloOn x m s) y = ownerOf s y) ∧
    ∀ j, session (firstHelloOn x m s) j = session s j := by
  unfold firstHelloOn
  split <;> exact ⟨fun _ => rfl, fun _ => rfl⟩

/-- A HELLO that is awaited restarts the receive sequence (R255). -/
theorem receiveMessage_hello (hruns : quoletRuns s = true) (howner : ownerOf s x = some k) (hup : (session s k).state ≠ sessDown)
    (hawait : (session s k).awaitHello = true) (hlength : lengthFits tHello m.body = true)
    (hsig : sigGood s k tHello m = true) (hjoins : helloJoins (firstHelloOn x m s) x m = none) :
    receiveMessage x tHello m s = restartSequence k m (firstHelloOn x m s) := by
  obtain ⟨howners, hsessions⟩ := firstHelloOn_keeps (x := x) (m := m) (s := s)
  have hnotack : tHello ≠ tAck := by decide
  have hsig : sigGood (firstHelloOn x m s) k tHello m = true := by simpa only [sigGood, hsessions] using hsig
  simp only [receiveMessage, hruns, hlength, hjoins, howners, howner, hsessions, hup, hnotack, hawait, hsig, Bool.not_true,
    Bool.false_eq_true, if_false, if_true, decide_true, Bool.true_and, Bool.true_or]

/-- The sequence restarts at an accepted HELLO (R255). -/
def sequenceRestarted (k : Carrier) (m : Message) (s : State) : State :=
  putSession (accepted k m s) k
    { session (accepted k m s) k with awaitHello := false, recvSeq := m.seq + 1, ahead := [], ackDue := true }

/-- What the session held of an earlier handshake is dropped (R260). -/
def handshakeReset (k : Carrier) (s : State) : State :=
  putSession s k { session s k with
    state := sessNegotiate, kemSeed := none, heldKem := none, chains := [], keys := [], confirmSent := false, confirmed := false }

theorem session_sequenceRestarted : (session (sequenceRestarted k m s) k).state = (session s k).state ∧
    (session (sequenceRestarted k m s) k).awaitHello = false ∧ (session (sequenceRestarted k m s) k).recvSeq = m.seq + 1 := by
  rw [sequenceRestarted, session_putSession]
  exact ⟨(Carried.refl s).accepted.state k, rfl, rfl⟩

theorem session_helloKept :
    (session (keepPeer k tHello m (handshakeReset k s)) k).awaitHello = (session s k).awaitHello ∧
    (session (keepPeer k tHello m (handshakeReset k s)) k).recvSeq = (session s k).recvSeq ∧
    (session (keepPeer k tHello m (handshakeReset k s)) k).heldKem = none := by
  rw [keepPeer, session_putSession, handshakeReset, session_putSession]
  exact ⟨rfl, rfl, rfl⟩

theorem checked_sendAttest : Checked k s (sendAttest k s) := checked_send

/-- The first HELLO is kept, ATTEST is sent, and the checks follow. -/
theorem helloArrives_first (hstate : (session s k).state = sessNegotiate) : helloArrives k m false true s =
    tryKeying k (sendAttest k (showSessions (keepPeer k tHello m (handshakeReset k s)))) := by
  have hkeyed : sessNegotiate ≠ sessKeyed := by decide
  simp only [helloArrives, hstate, hkeyed, Bool.false_eq_true, if_false, decide_true, Bool.true_or, if_true]
  rfl

theorem restartSequence_facts (hstate : (session s k).state = sessNegotiate) (hawait : (session s k).awaitHello = true) :
    (session (restartSequence k m s) k).awaitHello = false ∧ (session (restartSequence k m s) k).recvSeq = m.seq + 1 := by
  obtain ⟨hnegotiate, hheard, hseq⟩ := session_sequenceRestarted (k := k) (m := m) (s := s)
  have hrestarted : restartSequence k m s = helloArrives k m false true (sequenceRestarted k m s) := by
    rw [restartSequence, hawait]
    rfl
  obtain ⟨hkeptHeard, hkeptSeq, hkeptHeld⟩ := session_helloKept (k := k) (m := m) (s := sequenceRestarted k m s)
  have hsent := (checked_showSessions (k := k) (s := keepPeer k tHello m (handshakeReset k (sequenceRestarted k m s)))).trans
    checked_sendAttest
  have hchecked := hsent.trans (checked_tryKeying (hsent.held hkeptHeld))
  rw [hrestarted, helloArrives_first (hnegotiate.trans hstate)]
  exact ⟨hchecked.awaitHello.trans (hkeptHeard.trans hheard), hchecked.recvSeq.trans (hkeptSeq.trans hseq)⟩

/-! ## CAPS and ATTEST -/

/-- A message of the peer that is kept is the one found (R259). -/
theorem peerMessage_keepPeer : peerMessage (keepPeer k type m s) k type = some m := by
  simp [peerMessage, keepPeer, session_putSession]

theorem heldKem_keepPeer : (session (keepPeer k type m s) k).heldKem = (session s k).heldKem := by
  rw [keepPeer, session_putSession]

theorem ahead_keepPeer : (session (keepPeer k type m s) k).ahead = (session s k).ahead := by
  rw [keepPeer, session_putSession]

theorem state_keepPeer : (session (keepPeer k type m s) j).state = (session s j).state := by
  unfold keepPeer
  refine session_putSession_eq Session.state ?_ j
  rfl

/-- A message that is kept and then checked is still kept. -/
theorem keptAndChecked (hheld : (session s k).heldKem = none) (ha : (session s .a).state ≠ sessKeyed) :
    peerMessage (tryKeying k (keepPeer k type m s)) k type = some m ∧
    (session (tryKeying k (keepPeer k type m s)) k).ahead = (session s k).ahead ∧
    (session (tryKeying k (keepPeer k type m s)) .a).state ≠ sessKeyed := by
  have hchecked := checked_tryKeying (s := keepPeer k type m s) (heldKem_keepPeer.trans hheld)
  refine ⟨?_, hchecked.ahead.trans ahead_keepPeer, fun hkeyed => ha ?_⟩
  · rw [peerMessage, hchecked.peer]
    exact peerMessage_keepPeer
  · exact state_keepPeer.symm.trans (hchecked.keyed .a hkeyed)

theorem mergeSessions_of_unkeyed (ha : (session s .a).state ≠ sessKeyed) : mergeSessions s = s := by
  have hkeyed : ((session s .a).state == sessKeyed) = false := beq_eq_false_iff_ne.mpr ha
  simp only [mergeSessions, hkeyed, Bool.and_false, Bool.false_and, Bool.false_eq_true, if_false]

/-- An ATTEST bound to this end's NONCE, before carrier A's session is KEYED. -/
theorem handle_attest (hheld : (session s k).heldKem = none) (ha : (session s .a).state ≠ sessKeyed)
    (hnonce : reportNonce (attestReportOf m.body) = (session s k).nonce) :
    handle k x tAttest m s = tryKeying k (keepPeer k tAttest m s) := by
  obtain ⟨-, -, hunkeyed⟩ := keptAndChecked (type := tAttest) (m := m) hheld ha
  exact (if_pos hnonce).trans (mergeSessions_of_unkeyed hunkeyed)

/-! ## The key exchange -/

/-- A KEM_INIT that comes before the checks are done is held (R260). -/
theorem kemInitArrives_of_negotiate (hstate : (session s k).state = sessNegotiate) (hrole : ownRole s = 1)
    (hpeer : beAt (peerBody s k tHello) 1 1 ≠ 1) :
    kemInitArrives k m s = putSession s k { session s k with heldKem := some m } := by
  have hpeer : decide (beAt (peerBody s k tHello) 1 1 = 1) = false := decide_eq_false hpeer
  simp only [kemInitArrives, hpeer, hrole, hstate, Bool.and_false, Bool.false_eq_true, if_false, ne_eq, not_true, if_true]

/-- A KEM_RESP to this end's KEM_INIT derives the new secrets, and the handshake is confirmed (R260, R261). -/
theorem kemRespArrives_of_keying {seed : BitVec 512} (hstate : (session s k).state = sessKeying) (hrole : ownRole s = 0)
    (hpeer : beAt (peerBody s k tHello) 1 1 ≠ 0) (hseed : (session s k).kemSeed = some (seed, beAt m.body 0 4)) :
    ∃ ss th, kemRespArrives k m s =
      sendHandshakeConfirm k (installEpoch k ss th (beAt m.body 0 4) (keepPeer k tKemResp m s)) := by
  have hpeer : decide (beAt (peerBody s k tHello) 1 1 = 0) = false := decide_eq_false hpeer
  have hkept : ¬(session (keepPeer k tKemResp m s) k).state = sessKeyed := by rw [state_keepPeer, hstate]; decide
  refine ⟨Config.kemDecap seed (m.body.drop 4), handshakeHash (keepPeer k tKemResp m s) k, ?_⟩
  simp only [kemRespArrives, hpeer, hseed, hrole, hstate, derived, hkept, Bool.and_false, Bool.false_eq_true, if_false,
    decide_true, beq_self_eq_true, Bool.true_or, Bool.and_self, if_true]

theorem session_installEpoch {ss th : BitVec 256} {e : Nat} : ∃ chains keys, session (installEpoch k ss th e s) k =
    { session s k with
      th := th, epoch := e, chains := chains, keys := keys, kqAging := false, kemSeed := none, epochAt := s.elapsedNs } :=
  ⟨_, _, session_putSession _ _ _⟩

/-- A handshake whose confirmation this end has not yet received waits for it (R261). -/
theorem sendHandshakeConfirm_of_unconfirmed (hconfirmed : (session s k).confirmed = false) :
    ∃ v, Carried s v ∧ sendHandshakeConfirm k s = putSession v k { session v k with confirmSent := true } := by
  have hsent : Carried s (sendWith k tKeyConfirm ([0] ++ e32 (session s k).epoch ++ bytes32 (session s k).th)
      (session s k).keys.head? s) := (Carried.refl s).sendWith
  refine ⟨_, hsent, if_neg ?_⟩
  rw [session_putSession]
  exact Bool.eq_false_iff.mp ((hsent.confirmed k).trans hconfirmed)

theorem kemRespArrives_facts {seed : BitVec 512} (hstate : (session s k).state = sessKeying) (hrole : ownRole s = 0)
    (hpeer : beAt (peerBody s k tHello) 1 1 ≠ 0) (hseed : (session s k).kemSeed = some (seed, beAt m.body 0 4))
    (hconfirmed : (session s k).confirmed = false) : (session (kemRespArrives k m s) k).confirmSent = true ∧
    (session (kemRespArrives k m s) k).epoch = beAt m.body 0 4 ∧
    (session (kemRespArrives k m s) k).ahead = (session s k).ahead := by
  obtain ⟨ss, th, hderived⟩ := kemRespArrives_of_keying hstate hrole hpeer hseed
  obtain ⟨chains, keys, hinstalled⟩ := session_installEpoch (k := k) (ss := ss) (th := th) (e := beAt m.body 0 4)
    (s := keepPeer k tKemResp m s)
  have hkept : session (keepPeer k tKemResp m s) k = _ := session_putSession _ _ _
  rw [hkept] at hinstalled
  obtain ⟨v, hv, hsent⟩ := sendHandshakeConfirm_of_unconfirmed (k := k)
    (s := installEpoch k ss th (beAt m.body 0 4) (keepPeer k tKemResp m s)) (by rw [hinstalled]; exact hconfirmed)
  rw [hderived, hsent, session_putSession]
  exact ⟨rfl, (hv.epoch k).trans (by rw [hinstalled]), (hv.ahead k).trans (by rw [hinstalled])⟩

/-! ## KEY_CONFIRM -/

/-- The KEY_CONFIRM that names the pending activation commits it (R237). -/
theorem confirmActivation_of_named {dir i e r : Nat} (hpending : activationPending s c = true) (hdir : dir = ownRole s)
    (hindex : s.get (.cry c) CRY.TX_STAT.PENDING_IDX = i) (hepoch : (txSlot s c i).epoch = e)
    (hratchet : s.get (.cry c) (CRY.TX_SLOT.RATCHET.at i) = r)
    (hearly : csfAtOrAfter (txCsf s c + 16) (activationCsf s c) = false) :
    confirmActivation c dir i e r s = commitActivation c s := by
  simp only [confirmActivation, hpending, hdir, hindex, hepoch, hratchet, hearly, beq_self_eq_true, Bool.not_false, Bool.and_self,
    if_true]

theorem commitActivation_of_single (h : jointKeying s = false) : commitActivation c s =
    (s.setCipher c { s.cipher.get c with confirmed := true }).set (.cry c) CRY.TX_STAT.COMMITTED 1 := by
  have hjoint : jointKeying (s.setCipher c { s.cipher.get c with confirmed := true }) = false := h
  simp only [commitActivation, hjoint, Bool.false_and, Bool.false_eq_true, if_false]

theorem sigGood_unsigned (h : typeSigned type = false) : sigGood s k type m = true := by
  rw [sigGood, if_neg (by rw [h]; decide)]

/-! ## O24 -/

/-- Settles O24: each message of a handshake, from the lemma on what it does once it is accepted. -/
theorem handshakeMessagesComplete : Obligations.HandshakeMessagesComplete := by
  refine ⟨?ack, ?hello, ?caps, ?attest, ?kemInit, ?kemResp, ?keyConfirm, ?unknown⟩
  case ack =>
    rintro x k m s ⟨hruns, howner, hup⟩ ⟨hmac, hbody⟩
    refine ends_of_endsIn (u := switchReport (receiveMessage x tAck m s)) rfl ?_
    rw [receiveMessage_ack hruns howner hup hmac hbody]
    exact (get_switchReport (by decide)).trans counted_accepted
  case hello =>
    rintro x k m s ⟨hruns, howner, hstate, hawait⟩ ⟨hlength, hsig⟩ ⟨hjoins, -⟩
    have hup : (session s k).state ≠ sessDown := by rw [hstate]; decide
    obtain ⟨-, hsessions⟩ := firstHelloOn_keeps (x := x) (m := m) (s := s)
    obtain ⟨hheard, hseq⟩ := restartSequence_facts (k := k) (m := m) (s := firstHelloOn x m s) (by rw [hsessions, hstate])
      (by rw [hsessions, hawait])
    refine ends_of_endsIn (u := switchReport (receiveMessage x tHello m s)) rfl ?_
    rw [receiveMessage_hello hruns howner hup hawait hlength hsig hjoins]
    exact ⟨checked_switchReport.awaitHello.trans hheard, checked_switchReport.recvSeq.trans hseq⟩
  case caps =>
    rintro x k m s ⟨hturn, hstate, hheld⟩ ha
    have hkept (u : State) (hu : Carried s u) := keptAndChecked (k := k) (type := tCaps) (m := m) (s := u)
      ((hu.heldKem k).trans hheld) (by rw [hu.state]; exact ha)
    refine ends_of_admitted rfl hturn ⟨by decide, by decide, by decide, by rw [hstate]; decide, by decide⟩
      (fun u hu => (hkept u hu).2.1) fun u t hu ht => ?_
    exact (ht.peerMessage k tCaps).trans (hkept u hu).1
  case attest =>
    rintro x k m s ⟨hturn, hstate, hheld⟩ ⟨ha, hnonce⟩
    have hkept (u : State) (hu : Carried s u) := keptAndChecked (k := k) (type := tAttest) (m := m) (s := u)
      ((hu.heldKem k).trans hheld) (by rw [hu.state]; exact ha)
    have hhandled (u : State) (hu : Carried s u) : handle k x tAttest m u = tryKeying k (keepPeer k tAttest m u) :=
      handle_attest ((hu.heldKem k).trans hheld) (by rw [hu.state]; exact ha) (hnonce.trans (hu.nonce k).symm)
    refine ends_of_admitted rfl hturn ⟨by decide, by decide, by decide, by rw [hstate]; decide, by decide⟩
      (fun u hu => by rw [hhandled u hu]; exact (hkept u hu).2.1) fun u t hu ht => ?_
    rw [hhandled u hu] at ht
    exact (ht.peerMessage k tAttest).trans (hkept u hu).1
  case kemInit =>
    rintro x k m s ⟨hturn, hstate, hrole⟩ hpeer
    have hhandled (u : State) (hu : Carried s u) :
        handle k x tKemInit m u = putSession u k { session u k with heldKem := some m } :=
      kemInitArrives_of_negotiate ((hu.state k).trans hstate) (hu.ownRole.trans hrole) (by rw [hu.peerBody]; exact hpeer)
    refine ends_of_admitted rfl hturn ⟨by decide, by decide, by decide, by rw [hstate]; decide, by decide⟩
      (fun u hu => by rw [hhandled u hu, session_putSession]) fun u t hu ht => ?_
    rw [hhandled u hu] at ht
    exact (ht.heldKem k).trans (by rw [session_putSession])
  case kemResp =>
    rintro x k m seed s ⟨hturn, hstate, hrole⟩ ⟨hpeer, hseed, hconfirmed⟩
    have hderived (u : State) (hu : Carried s u) := kemRespArrives_facts (k := k) (m := m) (s := u) ((hu.state k).trans hstate)
      (hu.ownRole.trans hrole) (by rw [hu.peerBody]; exact hpeer) ((hu.kemSeed k).trans hseed)
      ((hu.confirmed k).trans hconfirmed)
    refine ends_of_admitted rfl hturn ⟨by decide, by decide, by decide, by rw [hstate]; decide, by decide⟩
      (fun u hu => (hderived u hu).2.2) fun u t hu ht => ?_
    obtain ⟨hsent, hepoch, -⟩ := hderived u hu
    exact ⟨(ht.confirmSent k).trans hsent, (ht.epoch k).trans hepoch⟩
  case keyConfirm =>
    rintro x k c m s ⟨hturn, hkeyed⟩ ⟨hcontext, hc⟩ ⟨hpending, hdir, hindex⟩ ⟨hepoch, hratchet⟩ ⟨hearly, hjoint⟩
    have hhandled (u : State) (hu : Carried s u) : handle k x tKeyConfirm m u =
        (u.setCipher c { u.cipher.get c with confirmed := true }).set (.cry c) CRY.TX_STAT.COMMITTED 1 := by
      have hnamed := confirmActivation_of_named (c := c) (s := u) (dir := beAt m.body 2 1)
        ((flag_of_get (hu.get_page (by simp) _)).trans hpending) (hdir.trans hu.ownRole.symm)
        ((hu.get_page (by simp) _).trans hindex) ((congrArg KeySlot.epoch (hu.txSlot c _)).trans hepoch)
        ((hu.get_page (by simp) _).trans hratchet) (by rw [hu.txCsf, hu.activationCsf, hearly])
      have hkeyed : (session u k).state = sessKeyed := (hu.state k).trans hkeyed
      rw [← commitActivation_of_single (hu.lockEnabled.trans hjoint), ← hnamed, hc]
      exact (if_neg hcontext).trans (if_pos hkeyed)
    have hends := ends_of_admitted (P := fun t => t.flag (.cry c) CRY.TX_STAT.COMMITTED = true) (c := .keyConfirm x m) rfl hturn
      ⟨by decide, by decide, by decide, by rw [hkeyed]; decide, by decide⟩
      (fun u hu => by rw [hhandled u hu, session_set]; rfl) fun u t hu ht => by
        rw [hhandled u hu] at ht
        exact (flag_of_get (ht.get_page (by simp) _)).trans (flag_set_one _ _ _ (by decide) (by decide))
    obtain ⟨t, hexec, hcommitted, -⟩ := hends
    exact ⟨t, hexec, hcommitted (sigGood_unsigned (by decide))⟩
  case unknown =>
    rintro x k type m s ⟨hruns, howner, hup⟩ ⟨hhello, hahead, hseq⟩ ⟨hmac, hsig, htype⟩
    refine ends_of_endsIn (u := switchReport (receiveMessage x type.toNat m s)) rfl ?_
    rw [receiveMessage_unknown hruns howner hup hhello hahead hseq hmac hsig htype]
    refine ⟨(get_switchReport (by decide)).trans (lastCause_discard (by decide)), (get_switchReport (by decide)).trans ?_⟩
    exact (get_discard (by decide) (by decide)).trans (counted_accepted (s := turnTaken k s))

end Sys2Proof.Keying
end

section
/-! SUPPORT. Wake words (R247 to R249), word sync and link words (R251, R252) and the paths they arrive on (R258), and O23. -/
namespace Sys2Proof.Keying

open Sys2Proof Sys2Proof.Machine Sys2Proof.Safety Sys2Proof.Architecture Sys2Proof.Control Sys2Proof.LineFraming
open Sys2Proof.LineTransmit

variable {j k x y : Carrier} {s t u : State}

/-! ## Calls (R249) -/

/-- A CALL starts on a carrier, if it may be keyed. -/
def callStarted (x : Carrier) (s : State) : State :=
  if keyable s x then setWake x (some ⟨1, s.get .qlt QLT.WAKE_CTL.BURSTS, 0⟩) s else s

theorem wakeSend_eq : wakeSend s = callStarted .b (callStarted .a s) := by
  change [Carrier.a, .b].foldl (fun s x => callStarted x s) s = _
  rw [List.foldl_cons, List.foldl_cons, List.foldl_nil]

theorem keyable_callStarted : keyable (callStarted x s) y = keyable s y := by
  unfold callStarted
  split <;> rfl

theorem get_callStarted {p : Page} {f : Field} : (callStarted x s).get p f = s.get p f := by
  unfold callStarted
  split <;> rfl

theorem wake_callStarted (h : keyable s x = true) :
    (callStarted x s).qlt.wake.get x = some ⟨1, s.get .qlt QLT.WAKE_CTL.BURSTS, 0⟩ := by
  rw [callStarted, if_pos h]
  exact get_set_carrier _ _ _

theorem wake_callStarted_other (h : y ≠ x) : (callStarted x s).qlt.wake.get y = s.qlt.wake.get y := by
  unfold callStarted
  split
  · exact get_set_carrier_other _ _ h
  · rfl

theorem wake_wakeSend (h : keyable s y = true) :
    (wakeSend s).qlt.wake.get y = some ⟨1, (wakeSend s).get .qlt QLT.WAKE_CTL.BURSTS, 0⟩ := by
  rw [wakeSend_eq, get_callStarted, get_callStarted]
  cases y with
  | a => rw [wake_callStarted_other (by decide), wake_callStarted h]
  | b => rw [wake_callStarted (keyable_callStarted.trans h), get_callStarted]

/-- The parts of the state that a write of SEND can change. -/
def callParts : Nat := recordParts ||| pageBit .qlt ||| 536870912

theorem recorded_callParts {o : Origin} {w : Word} : Within callParts s (recorded o .qlt QLT.WAKE_CTL.SEND.off w [] s) :=
  recorded_within (by decide) (by decide)

theorem keyable_recorded {o : Origin} {w : Word} :
    keyable (recorded o .qlt QLT.WAKE_CTL.SEND.off w [] s) y = keyable s y := by
  have hw := recorded_callParts (o := o) (w := w) (s := s)
  simp only [keyable, fesState, plnHold, State.flag, get_of_within hw (p := .fes) (by decide),
    get_of_within hw (p := .pln) (by decide), hw.plinth (by decide)]

/-- SEND as written shows in the word that acts. -/
theorem extract_newWord_send (old w : Word) :
    extract (newWord .qlt QLT.WAKE_CTL.SEND.off old (overlay w QLT.WAKE_CTL.SEND 1)) QLT.WAKE_CTL.SEND.lo 1 = 1 := by
  have hfields : fieldsOf .qlt QLT.WAKE_CTL.SEND.off .wo = [QLT.WAKE_CTL.SEND] := by decide +kernel
  have hset : QLT.WAKE_CTL.SEND.off ≠ HDR.EVT_SET.SET.off := by decide
  have hsent : extract (overlay w QLT.WAKE_CTL.SEND 1) QLT.WAKE_CTL.SEND.lo QLT.WAKE_CTL.SEND.width = 1 :=
    extract_overlay_same w _ 1 (by decide)
  have hstrobe : strobes .qlt QLT.WAKE_CTL.SEND.off (overlay w QLT.WAKE_CTL.SEND 1) = overlay 0 QLT.WAKE_CTL.SEND 1 := by
    simp only [strobes, takeFields, hfields, List.foldl_cons, List.foldl_nil, hsent, if_neg hset]
  have hone : extract (overlay 0 QLT.WAKE_CTL.SEND 1) QLT.WAKE_CTL.SEND.lo 1 = 1 := by decide
  have hkept := extract_lt (keptWord .qlt QLT.WAKE_CTL.SEND.off old (overlay w QLT.WAKE_CTL.SEND 1)) QLT.WAKE_CTL.SEND.lo 1
  rw [newWord, hstrobe, extract_or, hone]
  generalize extract _ _ _ = bit at hkept
  revert hkept bit
  decide

theorem writeEffect_send (o : Origin) (old w : Word) (s : State) :
    writeEffect o .qlt QLT.WAKE_CTL.SEND.off old (overlay w QLT.WAKE_CTL.SEND 1) [] s = wakeSend s := by
  have hhead : ¬QLT.WAKE_CTL.SEND.off < 0x40 := by decide
  have hlive : liveWaits .qlt QLT.WAKE_CTL.SEND.off (overlay w QLT.WAKE_CTL.SEND 1) = false := by
    simp only [liveWaits, hasBoundary, Bool.and_false, Bool.false_and]
  have htarget : ¬QLT.WAKE_CTL.SEND.off = QLT.TARGET.TARGET_A.off := by decide
  simp only [writeEffect, hhead, hlive, if_false, Bool.false_eq_true, blockWritten, qltWritten, htarget, extract_newWord_send,
    decide_true, Bool.and_self, if_true]

theorem wordWrite_send {o : Origin} {w : Word}
    (h : Takes o .qlt QLT.WAKE_CTL.SEND.off (overlay w QLT.WAKE_CTL.SEND 1) s) :
    wordWrite o .qlt QLT.WAKE_CTL.SEND.off (overlay w QLT.WAKE_CTL.SEND 1) s =
      wakeSend (recorded o .qlt QLT.WAKE_CTL.SEND.off (overlay w QLT.WAKE_CTL.SEND 1) [] s) := by
  have hbus := busWrite_of_takes (K := callParts) (env := []) (by decide) h
    (by rw [acceptWrite_eq, writeEffect_send]; exact wakeSend_within recorded_callParts (by decide)) (by decide) (by decide)
    (by decide)
  rwa [writeEffect_send] at hbus

/-! ## Bursts and answers (R247 to R249) -/

/-- A carrier's laser is keyed with a burst, which is counted. -/
def burstKeyed (x : Carrier) (chips : List Bool) (s : State) : State :=
  (setOptics s x { s.optics.get x with keying := chips }).bump .qlt QLT.WAKE_CNT.TX

theorem burstKeyed_facts {chips : List Bool} : ((burstKeyed x chips s).optics.get x).keying = chips ∧
    Counted .qlt QLT.WAKE_CNT.TX s (burstKeyed x chips s) :=
  ⟨congrArg Optics.keying (get_set_carrier s.optics x { s.optics.get x with keying := chips }),
    get_bump_same (setOptics s x { s.optics.get x with keying := chips }) _ _ (by decide)⟩

/-- The next burst of a CALL. -/
theorem wakeBurst_of_call {v : WakeSend} (hwake : s.qlt.wake.get x = some v) (hleft : v.left ≠ 0) (htype : v.type = 1)
    (hkeyable : keyable s x = true) (hspaced : v.burst = 0 ∨ spaced s (.burst x) secNs = true) :
    wakeBurst x s = setWake x (if v.left = 1 then none else some ⟨1, v.left - 1, v.burst + 1⟩)
      (burstKeyed x (burstChips 1 v.burst) (startTimer (.burst x) s)) := by
  have hgoes : (decide (v.left = 0) || decide ((1 : Nat) = 2) && decide (fesRxAcq ≤ fesState s x)) = false := by simp [hleft]
  have hdue : (!keyable s x || v.burst != 0 && !spaced s (.burst x) secNs) = false := by
    rcases hspaced with hfirst | hspaced
    · simp [hkeyable, hfirst]
    · simp [hkeyable, hspaced]
  simp only [wakeBurst, hwake, htype, hgoes, hdue, Bool.false_eq_true, if_false, burstKeyed]

theorem wakeWordRx_of_bad {w : BitVec 64} (hsync : wakeSync w = 0xB47) (hok : wakeOk w = false) :
    wakeWordRx x w s = (s.bump .qlt QLT.WAKE_CNT.BAD, false) := by
  simp only [wakeWordRx, hsync, hok, ne_eq, not_true, if_false, Bool.not_false, if_true]

/-- An accepted wake word is counted and shown (R248). -/
def wakeNoted (x : Carrier) (w : BitVec 64) (s : State) : State :=
  ((s.bump .qlt QLT.WAKE_CNT.RX).set .qlt QLT.WAKE_STAT.LAST_ID (wakeFrag w)).set .qlt QLT.WAKE_STAT.LAST_SRC (x.idx + 1)

theorem wakeNoted_facts {w : BitVec 64} : Counted .qlt QLT.WAKE_CNT.RX s (wakeNoted x w s) ∧
    (wakeNoted x w s).get .qlt QLT.WAKE_STAT.LAST_ID = wakeFrag w := by
  have hfrag : wakeFrag w < 2 ^ QLT.WAKE_STAT.LAST_ID.width := Nat.mod_lt _ (by decide)
  refine ⟨(get_set_apart (by decide)).trans ((get_set_apart (by decide)).trans (get_bump_same _ _ _ (by decide))), ?_⟩
  exact (get_set_beside (by rfl) (by decide) (by decide)).trans
    ((get_set_same _ _ _ _ (by decide)).trans (Nat.mod_eq_of_lt hfrag))

/-- A second good copy of an ANSWER ends this end's sending (R247, R248). -/
theorem wakeWordRx_of_answer {w : BitVec 64} (hsync : wakeSync w = 0xB47) (hok : wakeOk w = true) (htype : wakeType w = 2)
    (hexpected : expected s (wakeFrag w) = true) (hcount : (hearWake (s.qlt.wakeHeard.get x) w).count = 2) :
    ∃ heard, wakeWordRx x w s =
      (endKeying (endKeying (wakeNoted x w (s.setQlt { s.qlt with wakeHeard := heard })) .a) .b, false) := by
  have hexpected (heard : PerCarrier (List HeardWake)) :
      expected (s.setQlt { s.qlt with wakeHeard := heard }) (wakeFrag w) = true := hexpected
  have htwo : (decide ((2 : Nat) = 1)) = false := by decide
  simp only [wakeWordRx, hsync, hok, htype, hcount, hexpected, ne_eq, not_true, if_false, Bool.not_true, Bool.false_eq_true,
    decide_true, Bool.and_self, if_true]
  exact ⟨_, rfl⟩

theorem wake_endKeying : (endKeying s x).qlt.wake.get x = none := get_set_carrier _ _ _

theorem wake_endKeying_other (h : y ≠ x) : (endKeying s x).qlt.wake.get y = s.qlt.wake.get y := get_set_carrier_other _ _ h

theorem keying_endKeying : ((endKeying s x).optics.get x).keying =
    (s.optics.get x).keying.take ((s.optics.get x).keying.length % wordChips) :=
  congrArg Optics.keying (get_set_carrier _ _ _)

theorem keying_endKeying_other (h : y ≠ x) : ((endKeying s x).optics.get y).keying = (s.optics.get y).keying :=
  congrArg Optics.keying (get_set_carrier_other _ _ h)

/-- The sending ends on both carriers. -/
theorem endKeying_both : (∀ y, (endKeying (endKeying s .a) .b).qlt.wake.get y = none) ∧
    ∀ y, ((endKeying (endKeying s .a) .b).optics.get y).keying =
      (s.optics.get y).keying.take ((s.optics.get y).keying.length % wordChips) := by
  refine ⟨fun y => ?_, fun y => ?_⟩
  · cases y with
    | a => exact (wake_endKeying_other (by decide)).trans wake_endKeying
    | b => exact wake_endKeying
  · cases y with
    | a => exact (keying_endKeying_other (by decide)).trans keying_endKeying
    | b =>
      rw [keying_endKeying, keying_endKeying_other (by decide)]

theorem answerSend_of_due (hdue : s.qlt.answerDue.get x = true) (hanswer : s.flag .qlt QLT.CTL.WAKE_ANSWER = true)
    (hkeyable : keyable s x = true) : answerSend x s =
      setWake x (some ⟨2, 2, 0⟩) (s.setQlt { s.qlt with answerDue := s.qlt.answerDue.set x false }) := by
  simp only [answerSend, hdue, hanswer, hkeyable, Bool.and_self, if_true]

/-! ## Word sync (R251) -/

theorem pchSyncF_off : (pchSyncF x).off = QLT.PCH_STAT.LOSS.off := by cases x <;> rfl

theorem pchSyncF_fits : (pchSyncF x).lo + (pchSyncF x).width ≤ 16 := by cases x <;> decide

theorem flag_pchSync_one : (s.set .qlt (pchSyncF x) 1).flag .qlt (pchSyncF x) = true := by
  cases x <;> exact flag_set_one _ _ _ (by decide) (by decide)

/-- Where 16 words show their MARK the channel is in word sync. -/
theorem flag_searchWords (h : (wordsAt (choosePhase (s.qlt.pilotRx.get x))).isSome = true) :
    (searchWords x s).flag .qlt (pchSyncF x) = true := by
  obtain ⟨i, hi⟩ := Option.isSome_iff_exists.mp h
  simp only [searchWords, hi]
  exact flag_pchSync_one

theorem flag_searchWords_none (h : wordsAt (choosePhase (s.qlt.pilotRx.get x)) = none) :
    (searchWords x s).flag .qlt (pchSyncF x) = s.flag .qlt (pchSyncF x) := by
  simp only [searchWords, h]
  rfl

theorem flag_wordSync (hruns : quoletRuns (takeRecords x s) = true)
    (hactive : (takeRecords x s).flag (.cpr x) CPR.STAT.PCH_ACTIVE = true)
    (hwords : (wordsAt (choosePhase ((takeRecords x s).qlt.pilotRx.get x))).isSome = true) :
    (wordSync x s).flag .qlt (pchSyncF x) = true := by
  simp only [wordSync, hruns, hactive, Bool.and_self, Bool.true_and]
  split
  · exact flag_searchWords hwords
  · next hsync => simpa using hsync

theorem flag_wordSync_none (hsync : (takeRecords x s).flag .qlt (pchSyncF x) = false)
    (hwords : wordsAt (choosePhase ((takeRecords x s).qlt.pilotRx.get x)) = none) :
    (wordSync x s).flag .qlt (pchSyncF x) = false := by
  unfold wordSync
  dsimp only
  split
  · exact (flag_searchWords_none hwords).trans hsync
  · exact hsync

/-- A break of the pilot's word stream leaves the registers of PCH_STAT and of STAT. -/
theorem get_breakPilot {p : Page} {f : Field} (h : QLT.DISCARD.COUNT.off ≠ f.off % 0x1000) :
    (breakPilot s x).get p f = s.get p f := by
  unfold breakPilot
  split
  · exact (get_set_apart (by exact h)).trans (get_set_apart (by exact h))
  · rfl

theorem get_breakInband {p : Page} {f : Field} (h : QLT.DISCARD.COUNT.off ≠ f.off % 0x1000) :
    (breakInband s x).get p f = s.get p f := by
  unfold breakInband
  split
  · exact (get_set_apart (by exact h)).trans (get_set_apart (by exact h))
  · rfl

theorem asmPilot_breakPilot : (breakPilot s x).qlt.asmPilot.get x = none := by
  unfold breakPilot
  split
  · exact get_set_carrier _ _ _
  · next hnone => simpa using hnone

theorem asmInband_breakInband : (breakInband s x).qlt.asmInband.get x = none := by
  unfold breakInband
  split
  · exact get_set_carrier _ _ _
  · next hnone => simpa using hnone

/-- A pilot channel in word sync that leaves it is counted, and its partial message is discarded. -/
theorem leaveWordSync_facts (h : s.flag .qlt (pchSyncF x) = true) : (leaveWordSync s x).flag .qlt (pchSyncF x) = false ∧
    Counted .qlt QLT.PCH_STAT.LOSS s (leaveWordSync s x) ∧ (leaveWordSync s x).qlt.asmPilot.get x = none := by
  have hoff : QLT.PCH_STAT.LOSS.off = (pchSyncF x).off := pchSyncF_off.symm
  have hfits := pchSyncF_fits (x := x)
  have hcleared : (s.set .qlt (pchSyncF x) 0).get .qlt QLT.PCH_STAT.LOSS = s.get .qlt QLT.PCH_STAT.LOSS :=
    get_set_beside pchSyncF_off (by decide) (.inl hfits)
  rw [leaveWordSync, if_pos h]
  refine ⟨(flag_of_get (get_breakPilot (by rw [← hoff]; decide))).trans ?_, (get_breakPilot (by decide)).trans ?_,
    asmPilot_breakPilot⟩
  · exact (flag_set_beside hoff (by omega) (.inr hfits)).trans (flag_set_zero _ _ _ (by omega))
  · rw [get_bump_same _ _ _ (by decide), hcleared]

theorem wordSyncLoss_of_lost (hsync : s.flag .qlt (pchSyncF x) = true) (hlost : marksLost (s.qlt.pilotRx.get x) = true) :
    wordSyncLoss x s = leaveWordSync (putSearch x { s.qlt.pilotRx.get x with marks := [] } s) x := by
  simp only [wordSyncLoss, hsync, hlost, Bool.and_self, if_true]

/-! ## Link words (R252) -/

/-- A message begins with these bytes. -/
def partialBegun (x : Carrier) (pilot : Bool) (b : List Byte) (s : State) : State :=
  if pilot then s.setQlt { s.qlt with asmPilot := s.qlt.asmPilot.set x (some b) }
  else s.setQlt { s.qlt with asmInband := s.qlt.asmInband.set x (some b) }

/-- The first of a message's words, when others follow. -/
theorem linkWord_begins {pilot : Bool} {w : BitVec 64} (hruns : quoletRuns s = true) (hmark : wordMark w = 2)
    (hvalid : wordV w = true) (hfirst : wordF w = true) (hlast : wordL w = false) :
    linkWord x pilot (some w) s = partialBegun x pilot (wordBytes w) (dropPartial x pilot s) := by
  simp only [linkWord, hruns, hmark, hvalid, hfirst, hlast, Bool.not_true, Bool.false_eq_true, if_false, ne_eq, not_true,
    decide_false, Bool.or_self, if_true, List.nil_append]
  rfl

/-- A marker of a missing word breaks the stream. -/
theorem linkWord_none {pilot : Bool} (hruns : quoletRuns s = true) : linkWord x pilot none s = dropPartial x pilot s := by
  simp only [linkWord, hruns, Bool.not_true, Bool.false_eq_true, if_false]

theorem syncBits_putSyncBits {p : PilotSearch} {bits : List Bool} : syncBits (putSyncBits p bits) = bits := by
  unfold syncBits putSyncBits
  cases p.phase <;> rfl

theorem pilotRx_breakPilot : (breakPilot s x).qlt.pilotRx = s.qlt.pilotRx := by
  unfold breakPilot
  split <;> rfl

/-- The search after the next word of the stream in sync is taken. -/
def wordTaken (p : PilotSearch) : PilotSearch :=
  putSyncBits { p with marks := (markAt (syncBits p) 0 :: p.marks).take 16 } ((syncBits p).drop 64)

theorem pilotWord_of_word (hruns : quoletRuns (takeRecords x s) = true)
    (hsync : (takeRecords x s).flag .qlt (pchSyncF x) = true)
    (hbits : 64 ≤ (syncBits ((takeRecords x s).qlt.pilotRx.get x)).length) : pilotWord x s =
    linkWord x true (some (BitVec.ofNat 64 (ofMsbBits ((syncBits ((takeRecords x s).qlt.pilotRx.get x)).take 64))))
      (putSearch x (wordTaken ((takeRecords x s).qlt.pilotRx.get x)) (takeRecords x s)) := by
  have hlong : decide ((syncBits ((takeRecords x s).qlt.pilotRx.get x)).length < 64) = false :=
    decide_eq_false (Nat.not_lt.mpr hbits)
  simp only [pilotWord, hruns, hsync, hlong, Bool.and_self, Bool.not_true, Bool.or_self, Bool.false_eq_true, if_false]
  rfl

/-- What transport leaves of the words that arrive. -/
theorem Carried.arrivals (h : Carried s t) : t.qlt.asmInband = s.qlt.asmInband ∧ t.qlt.asmPilot = s.qlt.asmPilot ∧
    t.qlt.pilotRx = s.qlt.pilotRx :=
  ⟨(congrArg Quolet.asmInband h.qlt :), (congrArg Quolet.asmPilot h.qlt :), (congrArg Quolet.pilotRx h.qlt :)⟩

/-! ## What leaves a path's state (R258) -/

theorem pathState_of_within {K : Nat} (hw : Within K s t) (hK : pageBit .qlt &&& K = 0) : pathState t x = pathState s x :=
  get_of_within hw hK _

theorem pathState_of_regs (h : t.regs = s.regs) : pathState t x = pathState s x := get_of_word (word_of_regs h _ _)

theorem pathState_of_carried (h : Carried s t) : pathState t x = pathState s x := by
  cases x <;> exact h.get (by decide)

theorem pathState_set_page {p : Page} {f : Field} {v : Nat} (h : p ≠ .qlt) : pathState (s.set p f v) x = pathState s x :=
  get_set_page _ _ _ _ _ _ h

theorem pathState_set_apart {p : Page} {f : Field} {v : Nat} (h : f.off % 0x1000 ≠ QLT.STAT.PATH_A.off) :
    pathState (s.set p f v) x = pathState s x := by
  cases x <;> exact get_set_apart h

theorem pathState_set_beside {p : Page} {f : Field} {v : Nat} (hoff : f.off = QLT.STAT.PATH_A.off)
    (h : f.lo + f.width ≤ 10 ∨ 14 ≤ f.lo) : pathState (s.set p f v) x = pathState s x := by
  cases x with
  | a => exact get_set_beside hoff (by decide) (show _ ≤ 10 ∨ 12 ≤ _ by omega)
  | b => exact get_set_beside hoff (by decide) (show _ ≤ 12 ∨ 14 ≤ _ by omega)

theorem pathState_showSessions : pathState (showSessions s) x = pathState s x := by
  unfold showSessions State.setFlag
  refine (pathState_set_beside ?_ ?_).trans ((pathState_set_beside ?_ ?_).trans ((pathState_set_beside ?_ ?_).trans
    ((pathState_set_beside ?_ ?_).trans (pathState_set_beside ?_ ?_)))) <;> decide

theorem pathState_send {type : Nat} {body : List Byte} : pathState (send k type body s) x = pathState s x :=
  pathState_of_carried (Carried.refl s).send

theorem pathState_sendRekey {i n : Nat} : pathState (sendRekey k y i n s) x = pathState s x := by
  have hslot : pathState (announcedSlot y i n s) x = pathState s x := by
    unfold announcedSlot State.setPair
    refine (pathState_set_page ?_).trans ((pathState_set_page ?_).trans ((pathState_set_page ?_).trans
      (pathState_set_page ?_))) <;> simp
  have hnoted : pathState (rekeyNoted k y (announcedSlot y i n s)) x = pathState (announcedSlot y i n s) x :=
    pathState_of_regs rfl
  exact (pathState_of_carried sendRekey_carried).trans (hnoted.trans hslot)

theorem pathState_noteDerived {d : Nat} {ch : Chain} : pathState (noteDerived k y d ch s) x = pathState s x := by
  unfold noteDerived dropOldChains
  exact pathState_of_regs rfl

theorem pathState_setCipher {r : CipherState} : pathState (s.setCipher y r) x = pathState s x := pathState_of_regs rfl

/-- The announcement of keys leaves it. -/
theorem pathState_startActivation {ch : Chain} {n : Nat} : pathState (startActivation k y ch n s) x = pathState s x := by
  unfold startActivation
  extract_lets i stream loaded derived
  have hloaded : pathState loaded x = pathState s x :=
    pathState_of_within (loadTxSlot_within (Within.refl _ s) (Nat.or_self _)) (by decide)
  have hderived : pathState derived x = pathState loaded x := pathState_noteDerived
  exact pathState_sendRekey.trans (pathState_setCipher.trans (hderived.trans hloaded))

theorem pathState_announceAll {ch : Chain} {xs : List Carrier} : pathState (announceAll k ch xs s) x = pathState s x := by
  have hdrawn (v : State) : pathState v.drawn x = pathState v x := pathState_of_regs rfl
  unfold announceAll
  split
  · split
    · rfl
    · exact (foldl_fixes (g := (pathState · x)) (fun _ _ => pathState_startActivation) _ _).trans (hdrawn s)
  · exact foldl_fixes (g := (pathState · x)) (fun u _ => pathState_startActivation.trans (hdrawn u)) _ _

theorem pathState_startExchange : pathState (startExchange k s) x = pathState s x := by
  unfold startExchange
  extract_lets ses seed seeded
  split
  · exact pathState_send.trans (pathState_of_regs rfl)
  · rfl

theorem pathState_ratchetTry : pathState (ratchetTry k s) x = pathState s x := by
  unfold ratchetTry
  extract_lets ses
  split
  · split
    · rfl
    · next ch _ =>
      have htaken : pathState (takeInterval k (putSession s k { session s k with ratchetDue := false })) x = pathState s x :=
        pathState_of_regs rfl
      dsimp only
      split
      · exact pathState_startExchange.trans (pathState_announceAll.trans htaken)
      · exact pathState_announceAll.trans htaken
  · rfl

theorem pathState_ratchetDue : pathState (ratchetDue k s) x = pathState s x := by
  unfold ratchetDue
  split
  · exact pathState_ratchetTry.trans (pathState_of_regs rfl)
  · rfl

theorem pathState_joinPath : pathState (joinPath y k s) x = pathState s x := by
  have htargets (v : State) : pathState (showTargets k v) x = pathState v x :=
    foldl_fixes (g := (pathState · x)) (fun _ z => pathState_set_apart (by cases z <;> decide)) _ v
  exact pathState_showSessions.trans (pathState_ratchetDue.trans (htargets _))

theorem pathState_leaveKeyed : pathState (leaveKeyed k s) x = pathState s x := by
  have hrate (v : State) (z : Carrier) : pathState (setRate z rsSteady v) x = pathState v x :=
    pathState_set_beside (by cases z <;> rfl) (.inr (by cases z <;> decide))
  have hlost (v : State) (z : Carrier) : pathState (stepSessionLost z v) x = pathState v x := by
    unfold stepSessionLost
    split
    · exact (pathState_set_apart (f := HDR.EVT_RAW.EVT) (by decide)).trans (hrate v z)
    · rfl
  unfold leaveKeyed
  split
  · exact foldl_fixes (g := (pathState · x)) hlost _ s
  · rfl

theorem pathState_enterNegotiate : pathState (enterNegotiate k s) x = pathState s x := by
  have hwoken (v : State) : pathState (wakeAnnounced k v) x = pathState v x := by
    unfold wakeAnnounced
    split
    · exact pathState_send
    · rfl
  by_cases hallowed : handshakeAllowed s = true
  · rw [enterNegotiate_of_allowed hallowed]
    exact pathState_showSessions.trans (pathState_send.trans (pathState_send.trans ((hwoken _).trans pathState_leaveKeyed)))
  · rw [enterNegotiate, if_pos (by simpa using hallowed)]

theorem pathState_startSession : pathState (startSession y s) x = pathState s x := pathState_enterNegotiate

theorem pathState_cprShow : pathState (cprShow s y) x = pathState s x := by
  have hleft (v : State) : pathState (leaveWordSync v y) x = pathState v x := by
    unfold leaveWordSync
    split
    · refine (get_breakPilot (by cases x <;> decide)).trans ((pathState_set_apart (by decide)).trans (pathState_set_apart ?_))
      cases y <;> decide
    · rfl
  have hshown (b d : Bool) : pathState ((s.setFlag (.cpr y) CPR.STAT.PH_LOCK b).setFlag (.cpr y) CPR.STAT.PCH_ACTIVE d) x =
      pathState s x := (pathState_set_page (by simp)).trans (pathState_set_page (by simp))
  unfold cprShow
  dsimp only
  split
  · exact (hleft _).trans (hshown _ _)
  · exact hshown _ _

/-! ## Paths (R258) -/

theorem pathNow_lt : pathNow s x < 4 := by
  unfold pathNow
  split
  · decide
  · split <;> decide

theorem pathState_set {n : Nat} (h : n < 4) : pathState (s.set .qlt (pick x QLT.STAT.PATH_A QLT.STAT.PATH_B) n) x = n := by
  cases x <;> exact (get_set_same _ _ _ _ (by decide)).trans (Nat.mod_eq_of_lt h)

/-- STAT shows the state the path is in. -/
theorem pathState_pathChange (hruns : s.running .qlt = true) : pathState (pathChange x s) x = pathNow s x := by
  have hrtt (v : State) : pathState (dropPartial x false (v.set .qlt (pick x QLT.RTTA_HI.VALID QLT.RTTB_HI.VALID) 0)) x =
      pathState v x :=
    (get_breakInband (by cases x <;> decide)).trans (pathState_set_apart (by cases x <;> decide))
  unfold pathChange
  extract_lets now was shown dropped quolet forgotten
  have hshown : pathState shown x = pathNow s x := pathState_set pathNow_lt
  have hdropped : pathState dropped x = pathState shown x := by
    unfold dropped
    split
    · exact hrtt shown
    · rfl
  have hforgotten : pathState forgotten x = pathState dropped x := by
    unfold forgotten
    split <;> rfl
  refine Eq.trans ?_ (hforgotten.trans (hdropped.trans hshown))
  rw [hruns, Bool.not_true, if_neg (by decide)]
  split
  · split
    · exact pathState_joinPath
    · exact pathState_startSession
  · split
    · exact pathState_enterNegotiate
    · exact pathState_showSessions

/-- A write of CPR.CTL.PCH_RX reaches the pilot channel's search alone. -/
theorem blockWritten_pchRx {α : Type} {g : State → α} (h : ∀ u, g (cprShow u x) = g u) (o : Origin) (old new : Word)
    (u : State) : g (blockWritten o (.cpr x) CPR.CTL.PCH_RX.off old new [] u) = g u :=
  h u

theorem pathState_pathMoved (hruns : s.running .qlt = true) : pathState (pathMoved x s) x = pathNow s x := by
  have hapart : Apart (anyWrite ||| pageBit (.cpr x)) (pathState · x) := fun _ _ hw =>
    pathState_of_within hw (by cases x <;> decide)
  have hwritten (v : State) : pathState (writeField (.rk 1) (.cpr x) CPR.CTL.PCH_RX 1 v) x = pathState v x :=
    kept_writeField hapart (fun _ _ _ => rfl) (by decide) (by decide)
      (blockWritten_pchRx (g := (pathState · x)) (fun _ => pathState_cprShow) _)
  unfold pathMoved
  dsimp only
  split
  · exact (hwritten _).trans (pathState_pathChange hruns)
  · exact pathState_pathChange hruns

/-! ## The pilot channel's modulation and reception (R258) -/

theorem modulate_modulationChange {on : Bool} (hruns : quoletRuns s = true) (hdue : s.qlt.modulate.get x = some on) :
    (modulationChange x s).qlt.modulate.get x = none := by
  have hblock (old new : Word) (u : State) : (blockWritten (.rk 1) (.txp x) TXP.PCH_CTL.EN.off old new [] u).qlt.modulate =
      u.qlt.modulate := by
    have htxp : (txpWritten x TXP.PCH_CTL.EN.off new u).qlt = u.qlt :=
      (txpWritten_within (Within.refl _ u) (Nat.or_self _)).qlt (by decide)
    change (encoderRestart x _ old new (txpWritten x _ new u)).qlt.modulate = _
    unfold encoderRestart
    dsimp only
    split
    · exact (congrArg Quolet.modulate htxp :)
    · exact congrArg Quolet.modulate htxp
  have hwritten (w : Word) (v : State) :
      (writeReg (.rk 1) (pageBase (.txp x) + TXP.PCH_CTL.EN.off) w [] v).qlt.modulate = v.qlt.modulate :=
    kept_writeReg (apart_of_qlt Quolet.modulate (.txp x)) (fun _ _ => rfl) (by decide)
      (kept_writeEffect (g := fun s => s.qlt.modulate) (by decide) hblock)
  have hcleared (o : PerCarrier (Option Bool)) : (o.set x none).get x = none := get_set_carrier _ _ _
  simp only [modulationChange, hdue, hruns, Bool.not_true, Bool.false_eq_true, if_false, hwritten]
  split
  · exact hcleared _
  · exact hcleared _

theorem inbAcked_pchRxClear (hruns : quoletRuns s = true) (hacked : s.qlt.inbAcked.get x = true)
    (hpassed : passed s (.inbAcked x) msNs = true) : (pchRxClear x s).qlt.inbAcked.get x = false := by
  have hshown (u : State) : (cprShow u x).qlt.inbAcked = u.qlt.inbAcked := by
    obtain ⟨partials, searches, hshown⟩ := qlt_cprShow (s := u) (c := x)
    rw [hshown]
  have hwritten (v : State) : (writeField (.rk 1) (.cpr x) CPR.CTL.PCH_RX 0 v).qlt.inbAcked = v.qlt.inbAcked :=
    kept_writeField (g := fun s => s.qlt.inbAcked) (apart_of_qlt Quolet.inbAcked (.cpr x)) (fun _ _ _ => rfl) (by decide)
      (by decide) (blockWritten_pchRx (g := fun s => s.qlt.inbAcked) hshown _)
  simp only [pchRxClear, hruns, hacked, hpassed, Bool.and_self, if_true, hwritten]
  exact get_set_carrier _ _ _

/-! ## O23 -/

/-- Settles O23: each command below messages, from the lemma on its operation. -/
theorem wakeAndWordCommandsComplete : Obligations.WakeAndWordCommandsComplete := by
  refine ⟨?wakeSend, ?burst, ?bad, ?answer, ?answerSend, ?sync, ?noSync, ?loss, ?inband, ?missing, ?pilot, ?path, ?modulation,
    ?pchRx⟩
  case wakeSend =>
    rintro o w y s htakes hkeyable
    refine ends_of_result (u := wordWrite o .qlt QLT.WAKE_CTL.SEND.off (overlay w QLT.WAKE_CTL.SEND 1) s) rfl
      (fun _ _ h => h) ?_
    rw [wordWrite_send htakes]
    exact wake_wakeSend (keyable_recorded.trans hkeyable)
  case burst =>
    rintro x v s ⟨hwake, hleft, htype, hkeyable⟩ hspaced
    obtain ⟨hkeyed, hcounted⟩ := burstKeyed_facts (x := x) (chips := burstChips 1 v.burst) (s := startTimer (.burst x) s)
    refine ends_of_result (u := wakeBurst x s) rfl (fun _ _ h => h) ?_
    rw [wakeBurst_of_call hwake hleft htype hkeyable hspaced]
    exact ⟨hkeyed, hcounted, get_set_carrier _ _ _⟩
  case bad =>
    rintro x w s ⟨hsync, hok⟩
    refine ends_of_result (u := s.bump .qlt QLT.WAKE_CNT.BAD) ?_ (fun _ _ h => h) (get_bump_same _ _ _ (by decide))
    change execWakeWordRx x w s = _
    simp only [execWakeWordRx, wakeWordRx_of_bad hsync hok, Bool.false_eq_true, if_false]
  case answer =>
    rintro x w s ⟨hsync, hok, htype, hexpected⟩ hcount
    obtain ⟨heard, hanswered⟩ := wakeWordRx_of_answer hsync hok htype hexpected hcount
    obtain ⟨hwake, hkeying⟩ := endKeying_both (s := wakeNoted x w (s.setQlt { s.qlt with wakeHeard := heard }))
    obtain ⟨hcounted, hid⟩ := wakeNoted_facts (x := x) (w := w) (s := s.setQlt { s.qlt with wakeHeard := heard })
    refine ends_of_result (u := endKeying (endKeying (wakeNoted x w (s.setQlt { s.qlt with wakeHeard := heard })) .a) .b) ?_
      (fun _ _ h => h) ⟨hcounted, hid, hwake x, hwake x.other, hkeying x⟩
    change execWakeWordRx x w s = _
    simp only [execWakeWordRx, hanswered, Bool.false_eq_true, if_false]
  case answerSend =>
    rintro x s ⟨hdue, hanswer, hkeyable⟩
    refine ends_of_result (u := answerSend x s) rfl (fun _ _ h => h) ?_
    rw [answerSend_of_due hdue hanswer hkeyable]
    exact ⟨get_set_carrier _ _ _, get_set_carrier _ _ _⟩
  case sync =>
    rintro x s ⟨hruns, hactive⟩ hwords
    exact ends_of_result (u := wordSync x s) rfl (fun _ _ h => h) (flag_wordSync hruns hactive hwords)
  case noSync =>
    rintro x s hsync hwords
    exact ends_of_result (u := wordSync x s) rfl (fun _ _ h => h) (flag_wordSync_none hsync hwords)
  case loss =>
    rintro x s ⟨hsync, hlost⟩
    refine ends_of_result (u := wordSyncLoss x s) rfl (fun _ _ h => h) ?_
    rw [wordSyncLoss_of_lost hsync hlost]
    exact leaveWordSync_facts (s := putSearch x { s.qlt.pilotRx.get x with marks := [] } s) hsync
  case inband =>
    rintro x w s ⟨hruns, hmark, hvalid, hfirst, hlast⟩
    refine ends_of_result (u := switchReport (linkWord x false (some w) s)) rfl (fun _ _ h => h) ?_
    rw [linkWord_begins hruns hmark hvalid hfirst hlast]
    have hreported := ((Carried.refl (partialBegun x false (wordBytes w) (dropPartial x false s))).switchReport).arrivals.1
    exact (congrArg (PerCarrier.get · x) hreported).trans (get_set_carrier _ _ _)
  case missing =>
    rintro x s hruns
    refine ends_of_result (u := switchReport (linkWord x false none s)) rfl (fun _ _ h => h) ?_
    rw [linkWord_none hruns]
    have hreported := ((Carried.refl (dropPartial x false s)).switchReport).arrivals.1
    exact (congrArg (PerCarrier.get · x) hreported).trans asmInband_breakInband
  case pilot =>
    rintro x u w s ⟨rfl, hruns, hsync⟩ ⟨hbits, hw⟩ ⟨hmark, hvalid, hfirst, hlast⟩
    subst hw
    refine ends_of_result (u := switchReport (pilotWord x s)) rfl (fun _ _ h => h) ?_
    rw [pilotWord_of_word hruns hsync hbits, linkWord_begins (s := putSearch x _ _) hruns hmark hvalid hfirst hlast]
    obtain ⟨-, hpartial, hsearch⟩ := ((Carried.refl (partialBegun x true _ (dropPartial x true _))).switchReport).arrivals
    refine ⟨(congrArg (PerCarrier.get · x) hpartial).trans (get_set_carrier _ _ _), ?_⟩
    refine (congrArg (fun r => syncBits (PerCarrier.get r x)) (hsearch.trans pilotRx_breakPilot)).trans ?_
    exact (congrArg syncBits (get_set_carrier _ _ _)).trans syncBits_putSyncBits
  case path =>
    rintro x s hruns
    refine ends_of_result (u := switchReport (pathMoved x s)) rfl (fun _ _ h => h) ?_
    exact (pathState_of_carried (Carried.refl _).switchReport).trans (pathState_pathMoved hruns)
  case modulation =>
    rintro x on s ⟨hruns, hdue⟩
    exact ends_of_result (u := modulationChange x s) rfl (fun _ _ h => h) (modulate_modulationChange hruns hdue)
  case pchRx =>
    rintro x s ⟨hruns, hacked, hpassed⟩
    exact ends_of_result (u := pchRxClear x s) rfl (fun _ _ h => h) (inbAcked_pchRxClear hruns hacked hpassed)

end Sys2Proof.Keying
end
